-- ==== Sys2Proof/Word.lean ====
section
/-!
DEFINITION. The words of the VK1312: a control-space register is 32 bits wide (R7), memory is a
sequence of bytes (R6), a step word is 80 bits (R57), a capture-ring or log word is a register word.
-/

namespace Sys2Proof

/-- A control-space register (R7), a gaffer word (R97), an event route (R288). -/
abbrev Word := BitVec 32

/-- One byte of any byte-addressed store (R6). -/
abbrev Byte := BitVec 8

/-- A step word (R57). -/
abbrev StepWord := BitVec 80

end Sys2Proof
end

