-- ==== Sys2Proof/Syntax.lean ====
section
/-!
DEFINITION. The commands of the VK1312: one constructor for each row of the table of operations and events, with the
operands the row needs. An operand is what comes from outside the model's state: who asks, which instance, the value
carried, and an outcome of a physical process (a training, a pair test, a memory test) that the state cannot know.
-/

namespace Sys2Proof

/-- The three access paths of control space (R442). -/
inductive Path
  | pcie | core | punty
  deriving DecidableEq, Repr

/-- What a control-space access carries: its width in bytes and its byte offset in control space (R7). -/
structure Access where
  path : Path
  width : Nat
  off : BitVec 26
  deriving DecidableEq, Repr

/-- An upset of a DM location that a step's operands read (R395): the lane and the location. -/
structure DmBad where
  lane : Fin 8
  loc : Fin 2048
  deriving DecidableEq, Repr

/-- What the ECC of a 64-bit HBM word of the request meets (R139). -/
inductive Upset
  | none
  | single (word : Fin 8)
  | double (word : Fin 8)
  deriving DecidableEq, Repr

/-- Upsets that words of HBM (address / 8) have suffered, met by a command's accesses: `true` marks a word that can no longer be
corrected (R139). -/
abbrev Upsets := List (BitVec 32 × Bool)

/-- Who asks an HBM controller (R138): a memory port's tag, or another requester's 64-byte block. -/
inductive HbmReq
  | port (t : Fin 128) (tag : Fin 32)
  | read (block : BitVec 29)
  | write (block : BitVec 29) (be : BitVec 64) (data : BitVec 512)
  deriving DecidableEq, Repr

/-- What the words of a frame hold beside its header's fields and its message (R164): a TYPE other than the message's, the
reserved bits of word 0, bits of the payload words beyond the message's, LEN, the reserved bits of the last word, the CRC field,
the payload words received, and a block-coding error or an invalid control block inside. -/
structure FrameRest where
  otherType : Option (BitVec 8)
  rsv : BitVec 7
  extra : List (BitVec 64)
  len : BitVec 5
  tailRsv : BitVec 27
  crc : BitVec 32
  count : Nat
  coding : Bool
  deriving DecidableEq, Repr

/-- An Ircel frame's header and what its words hold beside it and the message (R164). -/
structure FrameHdr where
  seq : BitVec 16
  hops : Fin 16
  epoch : BitVec 16
  src : Fin 64
  bcast : Bool
  dst : Fin 64
  rest : FrameRest
  deriving DecidableEq, Repr

/-- A device's key: priority and serial (R169). -/
structure Key where
  prio : BitVec 8
  serial : BitVec 64
  deriving DecidableEq, Repr

/-- An Ircel message (R165). The spec gives the payload bits of TRIGGER only (R180); the others are typed here. STATUS also
carries the key of a better group's master that the member has met at a link, and HELLO its master's key (log entry 48). -/
inductive IrcMsg
  | hello (key : Key) (id : Fin 64) (epoch : BitVec 16) (current : Bool) (master : Fin 64) (masterKey : Key)
      (hops : Fin 16) (port : Fin 4)
  | dlyReq (t1 : BitVec 64)
  | dlyResp (t2 t3 : BitVec 64)
  | elect (key : Key) (time : BitVec 64)
  | epoch (num : BitVec 16) (act : BitVec 64) (map : BitVec 64) (hops : List (Fin 64 × Fin 16)) (step : BitVec 64)
  | joinReq (key : Key) (id : Fin 64) (hops : Fin 16) (d : BitVec 64)
  | joinAck (refused : Option (Fin 4))
  | leave (id : Fin 64)
  | heartbeat (time : BitVec 64)
  | status (aligned : Bool) (skips : BitVec 16) (better : Option Key) (links : BitVec 64)
  | trigger (line : BitVec 48) (release : BitVec 64) (marks : BitVec 32) (targets : List (Fin 16 × BitVec 48))
  | far (region : Fin 16) (tile : Fin 128) (tag : BitVec 16) (data : BitVec 1024)
  | event (source : Fin 768)
  | ack (type : BitVec 8) (seq : BitVec 16)
  | nack (reason : Fin 8) (seq : BitVec 16)
  deriving DecidableEq, Repr

/-- The outcome of a lane's training (R189): did it align, and the tap, eye and slips found. -/
structure LaneTrain where
  ok : Bool
  tap : Fin 64
  eye : Fin 64
  slip : Fin 12
  deriving DecidableEq, Repr

/-- A pixel-bus beat (R192). -/
structure Beat where
  pix : List (BitVec 16)
  col : BitVec 13
  npix : Fin 16
  sol : Bool
  eol : Bool
  syncErr : Bool
  deriving DecidableEq, Repr

/-- A packet that an endpoint of a router's local port (false L0, true L1) hands to its gateway (R241–R243): its class, the
fields of its head's sideband that the endpoint gives, and its payload, one flit for each 512 bits. -/
structure Packet where
  port : Bool
  endpoint : Fin 16
  cls : Fin 4
  dest : BitVec 7
  op : BitVec 3
  noWake : Bool
  tag : BitVec 10
  addr : BitVec 26
  payload : List (BitVec 512)
  deriving DecidableEq, Repr

/-- What the host answers to a read of its memory (R272): data, data that arrived after a receiver error which the link's
replay corrected, data whose ECRC does not agree, an error status, poisoned data, or nothing within the Completion Timeout. -/
inductive HostData
  | ok (data : List Byte)
  | replayed (data : List Byte)
  | badEcrc (data : List Byte)
  | error
  | poisoned
  | missing
  deriving DecidableEq, Repr

/-- How a memory request of the host arrives (R272): whole, with its data poisoned, or with an ECRC that does not agree. -/
inductive Tlp
  | good | poisoned | badEcrc
  deriving DecidableEq, Repr

/-- A configuration request (R268, R270, R284), typed, since the spec gives no layout of configuration space: a write of the
MSI-X Enable and Function Mask bits, of the power state, of the ASPM enables, of the payload and read request sizes (128
bytes × 2^n), of the Completion Timeout (disabled or not, and its range: 0 the default, 1 and 2 of A, 3 and 4 of B), of the enables
of ECRC generation and checking, or that clears the AER log; a read of the capability structures or of the AER log; a DOE Discovery
by index; or another request. -/
inductive CfgReq
  | msix (on mask : Bool)
  | power (d3hot : Bool)
  | aspm (l1 l11 : Bool)
  | sizes (payload : Fin 3) (read : Fin 6)
  | timeout (disable : Bool) (range : Fin 5)
  | ecrc (generate check : Bool)
  | aerClear
  | caps
  | aerRead
  | discovery (index : BitVec 8)
  | other
  deriving DecidableEq, Repr

/-- A failure that a self-test finds: its failure word (R409) with REPAIRED, SUSPECT and TILE_FAILED at 0, and how many spare rows
put in its place fail their own march before one passes (R404). -/
structure Found where
  word : BitVec 64
  badSpares : Fin 9
  deriving DecidableEq, Repr

/-- Serial flash as a load finds it (R323): its SFDP bytes from address 0, and its bytes from an address on; every other byte is
erased, 0xFF. -/
structure Flash where
  sfdp : List Byte
  base : BitVec 32
  data : List Byte
  deriving DecidableEq, Repr

/-- The commands (one constructor for each row of the table). -/
inductive Instr
  /-- REGISTER_WRITE: a write access and its data. -/
  | registerWrite (a : Access) (v : BitVec 64)
  /-- LO_CAPTURE_READ: a read of the _LO half at `off`. -/
  | loCaptureRead (p : Path) (off : BitVec 26)
  /-- COUNTER_SNAPSHOT_READ: a read of the counter at `off`. -/
  | counterSnapshotRead (p : Path) (off : BitVec 26)
  /-- ARRAY_DEBUG_WINDOW_ACCESS: an access at `off` of the window, with the data if it is a write. -/
  | arrayDebugWindowAccess (a : Access) (write : Option (BitVec 64))
  /-- DEBUG_DM_READ_TIMEOUT: a waiting DM read of region `n` on path `p` has waited 10 µs. -/
  | debugDmReadTimeout (p : Path) (off : BitVec 26)
  /-- REMAP: a write of SEC[s].CTRL with REMAP set. -/
  | remap (p : Path) (c : Fin 16) (v : BitVec 32)
  /-- REMAP_COPY_DONE in sector `s`. -/
  | remapCopyDone (c : Fin 16)
  /-- VERIFY: a write of SEC[s].CTRL with VERIFY set. -/
  | verify (p : Path) (c : Fin 16) (v : BitVec 32)
  /-- VERIFY_PASS_END of sector `s`; `bad` names the route rows whose parity failed: position and row. -/
  | verifyPassEnd (c : Fin 16) (bad : List (Fin 8 × Fin 16384))
  /-- DM_CLEAR_END of region `n`. -/
  | dmClearEnd (n : Fin 16)
  /-- STEP_NOP: the word of unit `p` of tile `t` at window step `k`. -/
  | stepNop (t : Fin 128) (p : Fin 1024) (k : Fin 16384)
  /-- EVAL; `dmBad` is a DM location that has lost its parity, `rowBad` the route row read with a parity failure. -/
  | eval (t : Fin 128) (p : Fin 1024) (k : Fin 16384) (dmBad : Option DmBad) (rowBad : Option (Fin 16384))
  /-- EVAL_EN. -/
  | evalEn (t : Fin 128) (p : Fin 1024) (k : Fin 16384) (dmBad : Option DmBad) (rowBad : Option (Fin 16384))
  /-- IN. -/
  | stepIn (t : Fin 128) (p : Fin 1024) (k : Fin 16384)
  /-- OUT. -/
  | stepOut (t : Fin 128) (p : Fin 1024) (k : Fin 16384) (dmBad : Option DmBad) (rowBad : Option (Fin 16384))
  /-- MREQ. -/
  | mreq (t : Fin 128) (p : Fin 1024) (k : Fin 16384) (dmBad : Option DmBad) (rowBad : Option (Fin 16384))
  /-- MDATA. -/
  | mdata (t : Fin 128) (p : Fin 1024) (k : Fin 16384)
  /-- BRK. -/
  | brk (t : Fin 128) (p : Fin 1024) (k : Fin 16384) (dmBad : Option DmBad) (rowBad : Option (Fin 16384))
  /-- INVALID_STEP_WORD: the stored word of the unit has changed to `w` and is fetched. -/
  | invalidStepWord (t : Fin 128) (p : Fin 1024) (k : Fin 16384) (w : BitVec 80)
  /-- CYCLE_BOUNDARY_B0 of region `n`, and so on for the other boundary steps. -/
  | cycleBoundaryB0 (n : Fin 16)
  | foldCompare (n : Fin 16)
  | gobOutCommit (n : Fin 16)
  | memoryCheck (n : Fin 16)
  | stallEnd (n : Fin 16)
  | stallBoundExpiry (n : Fin 16)
  | specialOperandLatch (n : Fin 16)
  | windowFix (n : Fin 16)
  | cycleEnd (n : Fin 16)
  /-- GOB_IN_DATA_WRITE of a delivery to tile `t`. -/
  | gobInDataWrite (t : Fin 128) (off : Fin 2048) (bytes : List Byte)
  /-- GOB_IN_CLOSE with its 64 header bits. -/
  | gobInClose (t : Fin 128) (hdr : BitVec 64)
  | gafferNop (n : Fin 16)
  | waitTrig (n : Fin 16)
  | waitEvt (n : Fin 16)
  | run (n : Fin 16)
  | selectWindow (n : Fin 16)
  | loop (n : Fin 16)
  | endloop (n : Fin 16)
  | inject (n : Fin 16)
  /-- INJECT_DELIVERY_END of the oldest INJECT in flight, with the upsets its HBM read meets. -/
  | injectDeliveryEnd (n : Fin 16) (up : Upsets)
  | commit (n : Fin 16)
  /-- COMMIT_DRAIN_END of the oldest drain of gaffer `n`. -/
  | commitDrainEnd (n : Fin 16)
  | xchg (n : Fin 16)
  | signal (n : Fin 16)
  | setStall (n : Fin 16)
  | mark (n : Fin 16)
  | jump (n : Fin 16)
  | halt (n : Fin 16)
  /-- PROGRAM_ERROR of gaffer `n`: the word at its PC has changed to `w`, or fails parity when `w` is none. -/
  | programError (n : Fin 16) (w : Option (BitVec 32))
  /-- READ_LANDING of the read that holds tag `tag` of tile `t`. -/
  | readLanding (t : Fin 128) (tag : Fin 32)
  | writeAck (t : Fin 128) (tag : Fin 32)
  | hbmRequest (r : HbmReq) (upset : Upset)
  /-- PATROL_SCRUB of stack `c`, with the upsets it finds beside those known. -/
  | patrolScrub (c : Fin 2) (found : Upsets)
  /-- HBM_TEMP_HIGH: stack `c` reports `temp` °C. -/
  | hbmTempHigh (c : Fin 2) (temp : BitVec 8)
  /-- HBM_TRAINING of stack `c` ends trained or not. -/
  | hbmTraining (c : Fin 2) (ok : Bool)
  | hbmTrainingTimeout (c : Fin 2)
  | hbmSelfRefreshEntry (c : Fin 2)
  /-- RING_DESCRIPTOR_WRITE of word `w` (offset 4w) of ring `k`. -/
  | ringDescriptorWrite (p : Path) (k : Fin 4) (w : Fin 5) (v : BitVec 32)
  /-- ENCODER_EDGE: a tick samples ENC_A and ENC_B at these levels. -/
  | encoderEdge (a b : Bool)
  /-- ENC_Z_EDGE: a tick samples ENC_Z at this level. -/
  | encZEdge (z : Bool)
  /-- ARM: a write of TB_CTRL with ARM set. -/
  | arm (p : Path) (v : BitVec 32)
  /-- CPL_LOAD: a write of TB_CTRL with CPL_LOAD set. -/
  | cplLoad (p : Path) (v : BitVec 32)
  | triggerRelease
  /-- TRIGGER_PORT_STROBE of partition `k`. -/
  | triggerPortStrobe (k : Fin 8)
  /-- A frame received on port `p`, type by type: its header and its payload. -/
  | hello (p : Fin 4) (h : FrameHdr) (key : Key) (id : Fin 64) (epoch : BitVec 16) (current : Bool) (master : Fin 64)
      (masterKey : Key) (hops : Fin 16) (port : Fin 4)
  /-- DLY_REQ with the times at which it was received and its answer leaves. -/
  | dlyReq (p : Fin 4) (h : FrameHdr) (t1 t2 t3 : BitVec 64)
  /-- DLY_RESP with the time at which it was received. -/
  | dlyResp (p : Fin 4) (h : FrameHdr) (t2 t3 t4 : BitVec 64)
  | elect (p : Fin 4) (h : FrameHdr) (key : Key) (time : BitVec 64)
  | epoch (p : Fin 4) (h : FrameHdr) (num : BitVec 16) (act : BitVec 64) (map : BitVec 64)
      (hops : List (Fin 64 × Fin 16)) (step : BitVec 64)
  | joinReq (p : Fin 4) (h : FrameHdr) (key : Key) (id : Fin 64) (hops : Fin 16) (d : BitVec 64)
  | joinAck (p : Fin 4) (h : FrameHdr) (refused : Option (Fin 4))
  | leave (p : Fin 4) (h : FrameHdr) (id : Fin 64)
  | heartbeat (p : Fin 4) (h : FrameHdr) (time : BitVec 64)
  | status (p : Fin 4) (h : FrameHdr) (aligned : Bool) (skips : BitVec 16) (better : Option Key) (links : BitVec 64)
  | trigger (p : Fin 4) (h : FrameHdr) (line : BitVec 48) (release : BitVec 64) (marks : BitVec 32)
      (targets : List (Fin 16 × BitVec 48))
  | far (p : Fin 4) (h : FrameHdr) (region : Fin 16) (tile : Fin 128) (tag : BitVec 16) (data : BitVec 1024)
  | event (p : Fin 4) (h : FrameHdr) (source : Fin 768)
  | ack (p : Fin 4) (h : FrameHdr) (type : BitVec 8) (seq : BitVec 16)
  | nack (p : Fin 4) (h : FrameHdr) (reason : Fin 8) (seq : BitVec 16)
  | helloTimer (p : Fin 4)
  | heartbeatTimer
  /-- ACK_RETRY_TIMER of the `i`-th frame that waits for an ACK. -/
  | ackRetryTimer (k : Nat)
  /-- HOP_MEASURE_TIMER of port `p`; the request leaves at `t1`, in UI. -/
  | hopMeasureTimer (p : Fin 4) (t1 : BitVec 64)
  | electQuietExpiry
  | heartbeatLoss
  | memberLoss (m : Fin 64)
  | epochActivation
  | joinRetryTimer
  | ircBackoffExpiry (p : Fin 4)
  | ircLinkUp (p : Fin 4)
  | ircLinkDown (p : Fin 4)
  | quarantineExpiry (p : Fin 4)
  /-- QUAR_CLR: a write of IRC[p].CTRL with QUAR_CLR set. -/
  | quarClr (path : Path) (p : Fin 4) (v : BitVec 32)
  /-- TRAIN: a write of GTH[g].CTRL with TRAIN set. -/
  | train (path : Path) (g : Fin 4) (v : BitVec 32)
  /-- GTH_TRAIN_DONE of bank `g`, with what each of the 24 lanes found. -/
  | gthTrainDone (g : Fin 4) (lanes : List LaneTrain)
  /-- EYE_TRACK of a lane: where its eye's centre lies from its tap (`some true` above), and the eye's width. -/
  | eyeTrack (g : Fin 4) (lane : Fin 24) (dir : Option Bool) (eye : Fin 64)
  | laneWord (g : Fin 4) (lane : Fin 24) (w : BitVec 12)
  | pixelBusBeat (k : Fin 8) (b : Beat)
  /-- MRV_EN_WRITE: a write of MRV[m].CTRL. -/
  | mrvEnWrite (path : Path) (m : Fin 16) (v : BitVec 32)
  /-- COEF_WRITE of word `w` of set `k` of unit `m`. -/
  | coefWrite (path : Path) (m : Fin 16) (k : Fin 8) (w : Fin 25) (v : BitVec 32)
  | endOfRowMark (m : Fin 16)
  | candidateClose (m : Fin 16)
  | patchComplete (m : Fin 16)
  /-- GOB_SWAP_NOTICE and MERGE_NOTICE: a notice of gaffer `n` reaches its gob sources. -/
  | gobSwapNotice (n : Fin 16)
  | mergeNotice (n : Fin 16)
  /-- GLOBAL_LINE_SWITCH: the select of global line `g` changes to `sel`; does the old clock show edges? -/
  | globalLineSwitch (g : Fin 16) (sel oldRuns : Bool)
  /-- CLOCK_STUCK: the old clock of line `g` has shown no edge for 1 µs. -/
  | clockStuck (g : Fin 16)
  /-- VCCO_CHANGE of bank `b`. -/
  | vccoChange (b : Fin 12) (good : Bool)
  /-- WINDOW_PORT_REQUEST of partition `k`: one of the management core, at a 64-byte block with its write data, or the
  first that DMA has waiting. -/
  | windowPortRequest (k : Fin 8) (core : Option (BitVec 21 × Option (BitVec 64 × BitVec 512)))
  /-- WINDOW_PORT_ANSWER with the data of a read. -/
  | windowPortAnswer (k : Fin 8) (data : BitVec 512)
  | windowTimeout (k : Fin 8)
  /-- NOC_CTRL_SWITCH: a write of NOC_CTRL with SWITCH set. -/
  | nocCtrlSwitch (path : Path) (v : BitVec 32)
  | nocBankSwitch
  /-- NOC_PACKET: the packets that the endpoints of router `r` hand over, and output `out` in the `j`-th router cycle of the
  tick, with the sideband bits in which the flit that crosses it arrives changed. -/
  | nocPacket (r : Fin 48) (out : Fin 7) (j : Fin 3) (inject : List Packet) (flip : BitVec 64)
  /-- GATEWAY_REQUEST of a class, with the sideband of its head flit, to domain `d`: sectors 0–15, HBM 16 and 17, the pixel path 18,
  Ethernet ports 19–22, Ircel ports 23–26, the replay store 27. -/
  | gatewayRequest (d : Fin 28) (cls : Fin 4) (head : BitVec 64)
  /-- DMA_TAIL_WRITE of engine `e`. -/
  | dmaTailWrite (path : Path) (e : Fin 16) (v : BitVec 32)
  /-- DESCRIPTOR_FETCH: what the host answers, where the ring lies in host memory; upsets, where it lies in HBM. -/
  | descriptorFetch (e : Fin 16) (host : HostData) (up : Upsets)
  | dmaDescriptorStart (e : Fin 16)
  /-- DMA_DESCRIPTOR_COMPLETE of the descriptor in slot `k` of the 64 in flight, with the upsets its reads of HBM meet. -/
  | dmaDescriptorComplete (e : Fin 16) (k : Fin 64) (up : Upsets)
  /-- DMA_ABORT: a write of CTRL with ABORT set. -/
  | dmaAbort (path : Path) (e : Fin 16) (v : BitVec 32)
  /-- DMA_EN_WRITE: a write of CTRL with EN set. -/
  | dmaEnWrite (path : Path) (e : Fin 16) (v : BitVec 32)
  | dmaCplTailWrite (path : Path) (e : Fin 16) (v : BitVec 32)
  | pciePerstDeassert
  /-- PCIE_READY with the speed (Gen 1–5, from 0) and the lanes the link has trained to (2 to that power). -/
  | pcieReady (speed : Fin 5) (width : Fin 5)
  | fundamentalReset
  | hotReset
  | pcieLinkDown
  | functionLevelReset
  /-- CONFIGURATION_REQUEST. -/
  | configurationRequest (q : CfgReq)
  /-- BAR0_REQUEST: a read or a write of `width` bytes. -/
  | bar0Request (width : Nat) (off : BitVec 26) (write : Option (BitVec 64)) (tlp : Tlp)
  /-- BAR2_REQUEST: a read of `n` bytes, or a write of bytes of which none stands for one not enabled; upsets it meets. -/
  | bar2Request (a : BitVec 35) (n : Fin 4097) (write : Option (List (Option Byte))) (tlp : Tlp) (up : Upsets)
  /-- BAR4_REQUEST: a read of `n` bytes, or a write of the low `n` bytes. -/
  | bar4Request (off : BitVec 16) (n : Fin 9) (write : Option (BitVec 64)) (tlp : Tlp)
  /-- UNSUPPORTED_REQUEST, posted or not. -/
  | unsupportedRequest (posted : Bool)
  /-- HOST_COMPLETION of the read with tag `tag`: the next of its data, or an error. -/
  | hostCompletion (tag : Fin 768) (st : HostData)
  | completionTimeout (tag : Fin 768)
  | msixUnmask (v : Fin 2048)
  /-- ETH_FRAME_RECEIVED: the frame with its FCS. -/
  | ethFrameReceived (e : Fin 4) (bytes : List Byte)
  | ethLinkChange (e : Fin 4) (up : Bool)
  | tsIdRead (p : Path) (e : Fin 4)
  | ptpOfsNsWrite (p : Path) (e : Fin 4) (v : BitVec 32)
  | mbxTailWrite (p : Path) (v : BitVec 32)
  | mbxCplTailWrite (p : Path) (v : BitVec 32)
  | badOpcode
  /-- EVT_PEND_WRITE of group `g`; `same` are the sources of the group that occur in the same clock. -/
  | evtPendWrite (p : Path) (g : Fin 24) (v same : BitVec 32)
  /-- LOAD_IMAGE: the long lane starts its front command; so for the other commands of the mailbox. -/
  | loadImage
  /-- FULL_LOAD_COMPLETE: a store word (offset / 8) that read as uncorrectable, if any; the container the serial flash holds at
  the place read, where the source is serial flash; and the upsets that reading an HBM copy meets. -/
  | fullLoadComplete (upset : Option (BitVec 31)) (flash : Flash) (up : Upsets)
  | hostWaitExpiry
  | stageParison
  /-- PARISON_STAGE_COMPLETE, with the upsets that reading its HBM copy meets. -/
  | parisonStageComplete (up : Upsets)
  | commitParison
  /-- PARISON_COMMIT_COMPLETE of the commit or automatic reload in progress. -/
  | parisonCommitComplete (upset : Option (BitVec 31))
  | regionStart
  | regionStop
  | regionRestart
  | setPerfLevel
  | perfSwitchWindow
  /-- SUPPLY_SETTLED with READ_VOUT in mV; none where the read ends in a NACK or a PEC mismatch. -/
  | supplySettled (mv : Option (BitVec 16))
  /-- SUPPLY_SETTLE_TIMEOUT; `again`: the command back to the old target fails too. -/
  | supplySettleTimeout (again : Bool)
  | pmbAlert
  | bistRun
  | shutdownOrderly
  | lcTransition
  | debugAuthChallenge
  | debugAuthResponse
  | debugAuthRelease
  | attest
  | storeCommit
  /-- STO_LINE_READY: the next line of the commit in progress has completed in its ring; upsets its reading meets. -/
  | stoLineReady (up : Upsets)
  | lineWaitExpiry
  | stoCommitFinish
  | storeRead
  /-- STORE_READ_COMPLETE: the tiles in which bits were corrected, and those that failed correction. -/
  | storeReadComplete (corrected failed : List (BitVec 64))
  /-- STO_EN_WRITE: a write of STO_CTRL with EN set. -/
  | stoEnWrite (p : Path) (v : BitVec 32)
  | stoReleaseWrite (p : Path) (v : BitVec 32)
  /-- STO_ABORT: a write of STO_CTRL with ABORT set. -/
  | stoAbort (p : Path) (v : BitVec 32)
  /-- GROWN_BAD_BLOCK: a block of die `die` fails; of the tiles read to be copied, those whose bits were corrected and those that
  could not be. -/
  | grownBadBlock (die : Fin 64) (block : Fin 1048576) (corrected failed : List (BitVec 64))
  /-- CFG_PROG operations: a write of CFG_PROG_CTRL with GO set and the row's OP. -/
  | cfgProgWriteSlot (p : Path) (v : BitVec 32)
  | cfgProgEraseSlot (p : Path) (v : BitVec 32)
  | cfgProgWriteBootRecord (p : Path) (v : BitVec 32)
  | cfgProgReadSlot (p : Path) (v : BitVec 32)
  | cfgProgEraseParison (p : Path) (v : BitVec 32)
  /-- CFG_PROG_DONE; `writeFault`: the store did not take the write; upsets that reading HBM meets. -/
  | cfgProgDone (writeFault : Bool) (up : Upsets)
  /-- FABRIC_SCRUB_PASS: the words found bad, by partition and word; `true` marks an uncorrectable one. -/
  | fabricScrubPass (found : List (Fin 8 × Fin 32768 × Bool))
  | windowScrubPass
  /-- STORE_PATROL: the 8-byte words (offset / 8) that read as uncorrectable. -/
  | storePatrol (found : List (BitVec 31))
  /-- COLD_START: what the analogue checks and the memory test find, if they run. -/
  | coldStart (found : List Found)
  | warmStart
  | powerLoss
  | pllTimeoutExpiry
  | releaseBegin
  | releaseGapExpiry
  | confirm (p : Path) (v : BitVec 32)
  | autoConfirm
  /-- PWR_VOTE_WRITE of region `n`'s vote, or of the vote for unassigned sectors where `n` is 16. -/
  | pwrVoteWrite (p : Path) (n : Fin 17) (v : BitVec 32)
  /-- The steps of sector or HBM domain `d`. -/
  | powerDownDrainEnd (d : Fin 18)
  | powerGatingComplete (d : Fin 18)
  /-- SECTOR_WAKE_COMPLETE of sector `c`, with a store word that read as uncorrectable during its reload, if any. -/
  | sectorWakeComplete (c : Fin 16) (upset : Option (BitVec 31))
  | wakeHoldExpiry (d : Fin 18)
  | s4Req (p : Path) (v : BitVec 32)
  | spineCut
  | wakeN
  | encWake
  | perstWake
  | timerWake
  | s4Wake
  | xtalGood
  | xtalLoss
  | pwrSaveOfsWrite (p : Path) (v : BitVec 32)
  /-- APPLY: a write of CLK_PLL5_CFG with APPLY set. -/
  | apply (p : Path) (v : BitVec 32)
  | pllLock (k : Fin 8)
  | pllUnlock (k : Fin 8)
  /-- FAULT_OCCURRENCE of a source, with its DETAIL, and the other occurrences of the same collector clock. -/
  | faultOccurrence (src : Fin 64) (detail : BitVec 32) (also : List (Fin 64 × BitVec 32))
  | f1ResetAssert
  | brokenWire (src : Fin 64)
  | pairTest
  /-- PAIR_TEST_TIMEOUT of a source's pair. -/
  | pairTestTimeout (src : Fin 64)
  | mcWatchdog
  /-- LC_FAULT_PULSE_END; does another head hold the net of the pin low? -/
  | lcFaultPulseEnd (netLow : Bool)
  | periodicSlice
  /-- IDLE_GAP_SCAN of region `n`: one location; a BP whose location an upset makes fail before the scan reads it, if any. -/
  | idleGapScan (n : Fin 16) (bad : Option (Fin 128 × Fin 1024))
  | grantExpiry
  | lockoutExpiry
  | lcsDbgRelease (p : Path) (v : BitVec 32)
  | getVersion
  | getCapabilities
  | negotiateAlgorithms
  | getDigests
  /-- GET_CERTIFICATE: the portion of the chain asked for. -/
  | getCertificate (off len : BitVec 16)
  | challenge (nonce : BitVec 256)
  | getMeasurements (nonce : BitVec 256)
  | spdmUnsupportedRequest (code : BitVec 8)
  /-- The boundary-scan instructions: the levels captured at the cells, and the values shifted in and updated. -/
  | extest (capture shift : BitVec 1412)
  | idcode
  | samplePreload (capture shift : BitVec 1412)
  | highz
  | clamp
  | extestPulse (capture shift : BitVec 1412)
  | extestTrain (capture shift : BitVec 1412)
  /-- LCS_CMD: the command shifted in, or none for a scan that only captures. -/
  | lcsCmd (cmd : Option (BitVec 256))
  | dbgMem (v : BitVec 64)
  /-- FAB_RB: the select. -/
  | fabRb (sel : BitVec 20)
  | bypass
  | testLogicReset
  /-- BIST_RUN_COMPLETE with what the scopes find. -/
  | bistRunComplete (found : List Found)
  | shutdownOrderlyComplete (found : List Found)
  /-- LC_TRANSITION_COMPLETE, or the state bit that will not verify. -/
  | lcTransitionComplete (weak : Option (Fin 64))
  | hbmSelfRefreshExit (c : Fin 2)
  /-- PCIE_LINK_UP with the speed and the lanes. -/
  | pcieLinkUp (speed : Fin 5) (width : Fin 5)
  /-- SLICE_END with what the slice found. -/
  | sliceEnd (found : List Found)
  | newClockArrival (g : Fin 16)
  | supplyPowerGoodLoss
  | seqPgRise
  | throttleRelease
  deriving DecidableEq, Repr

end Sys2Proof
end

