-- ==== Sys2Proof/Decode.lean ====
section
/-!
DEFINITION. The table of commands gives no row any bits: a command reaches the device as an access, a mailbox entry, a
frame, a pin event or a step of one of its own engines, never as a word of one encoding. No word spells a command.
-/

namespace Sys2Proof

/-- The command that a word spells by the table's bits: none. -/
def decodeTableWord (_nbits _w : Nat) : Option Instr := none

end Sys2Proof
end

