-- ==== Sys2Proof/Machine/Events.lean ====
section
/-!
DEFINITION. The numbers of the event sources, as the event tables give them (R56, R123, R148, R187, R214, R240, R267,
R289, R305, R332, R352, R382, R401, R415, R435, R446).
-/

namespace Sys2Proof.Machine.Ev

def SYS_ACCESS_ERR : Nat := 0
def SYS_RELEASED : Nat := 8
def SYS_CONFIRMED : Nat := 9
def SYS_SAFE : Nat := 10
def BST_DONE : Nat := 16
def BST_FAIL : Nat := 17
def BST_REPAIR : Nat := 18
def BST_CULLET : Nat := 19
def PWR_STATE : Nat := 32
def PWR_DOWN_ABANDONED : Nat := 33
def PWR_WAKE_PKT : Nat := 34
def PWR_PERF_DONE : Nat := 35
def PWR_PERF_FAIL : Nat := 36
def PWR_PMBUS_ERR : Nat := 37
def PWR_XTAL : Nat := 38
def PWR_S4_ABORT : Nat := 39
def PWR_WOKE : Nat := 40
def CLK_LOCK (k : Nat) : Nat := 64 + k
def CLK_UNLOCK (k : Nat) : Nat := 72 + k
def CLK_CFG_ERR : Nat := 80
def FLT_F3 : Nat := 96
def FLT_F2 : Nat := 97
def FLT_F1_PREV : Nat := 98
def FLT_F0 : Nat := 99
def FLT_LOG_OVF : Nat := 100
def FLT_WIRE : Nat := 101
def MPU_STEP_ERR : Nat := 102
def MPU_ROUTE_ERR : Nat := 103
def MPU_DM_PARITY : Nat := 104
def FLT_THERMAL_WARN : Nat := 105
def CFG_LOAD_DONE : Nat := 128
def CFG_LOAD_FAIL : Nat := 129
def CFG_FALLBACK : Nat := 130
def CFG_PAR_DONE : Nat := 131
def CFG_PAR_FAIL : Nat := 132
def CFG_PROG_DONE : Nat := 133
def CFG_SCRUB_CE : Nat := 134
def CFG_SCRUB_UE : Nat := 135
def CFG_WIN_FOLD_ERR : Nat := 136
def CFG_RELOAD : Nat := 137
def CFG_WIN_TIMEOUT : Nat := 152
def CFG_IO_VCCO : Nat := 153
def CFG_CLK_STUCK : Nat := 154
def LCS_TRANS_DONE : Nat := 160
def LCS_TRANS_FAIL : Nat := 161
def LCS_AUTH_GRANT : Nat := 162
def LCS_AUTH_FAIL : Nat := 163
def LCS_SCOPE_END : Nat := 164
def LCS_BSCAN : Nat := 165
def TB_ENC_ERR : Nat := 192
def TB_ENC_OVERSPEED : Nat := 193
def TB_Z : Nat := 194
def TB_LINE_SKIP : Nat := 195
def TB_TRIG_LATE : Nat := 196
def TB_EPOCH : Nat := 197
def TB_ROLE : Nat := 198
def TB_ALIGN : Nat := 199
def TB_OFFSET_SHORT : Nat := 200
def TB_MEMBER_BEHIND : Nat := 201
def TB_JOIN_REFUSED : Nat := 202
def NOC_SWITCH : Nat := 224
def NOC_SWITCH_ERR : Nat := 225
def NOC_PAR_ERR : Nat := 226
def DMA_DONE (e : Nat) : Nat := 256 + e
def DMA_ERR (e : Nat) : Nat := 272 + e
def STO_READY : Nat := 288
def STO_COMMIT_DONE : Nat := 289
def STO_COMMIT_ERR : Nat := 290
def STO_RD_ERR : Nat := 291
def STO_BAD_BLOCK : Nat := 292
def STO_THROTTLE : Nat := 293
def IRC_LINK_UP (p : Nat) : Nat := 320 + 32 * p
def IRC_LINK_DOWN (p : Nat) : Nat := 321 + 32 * p
def IRC_VIOL (p : Nat) : Nat := 322 + 32 * p
def IRC_QUARANTINE (p : Nat) : Nat := 323 + 32 * p
def IRC_NACK_RX (p : Nat) : Nat := 324 + 32 * p
def GTH_TRAIN_DONE (g : Nat) : Nat := 448 + 8 * g
def GTH_TRAIN_FAIL (g : Nat) : Nat := 449 + 8 * g
def GTH_ALIGN_LOST (g : Nat) : Nat := 450 + 8 * g
def GTH_DISCARD (g : Nat) : Nat := 451 + 8 * g
def PBS_SYNC_ERR (k : Nat) : Nat := 480 + 4 * k
def PBS_TAG_ERR (k : Nat) : Nat := 481 + 4 * k
def PBS_FORMAT (k : Nat) : Nat := 482 + 4 * k
def MRV_BATCH (m : Nat) : Nat := 512 + 2 * m
def MRV_ERR (m : Nat) : Nat := 513 + 2 * m
def HBM_CE (c : Nat) : Nat := 544 + c
def HBM_UE (c : Nat) : Nat := 546 + c
def HBM_TEMP (c : Nat) : Nat := 548 + c
def HBM_LINK_ERR (c : Nat) : Nat := 550 + c
def MPU_TAG_SHORT : Nat := 552
def MPU_ADDR_ERR : Nat := 553
def MPU_LATE_DISC : Nat := 554
def MPU_WR_LATE : Nat := 555
def MPU_POISON (n : Nat) : Nat := 560 + n
def PCI_AER_COR : Nat := 576
def PCI_AER_UNCOR : Nat := 577
def PCI_LINK_CHG : Nat := 578
def PCI_MBX_CPL : Nat := 579
def PCI_MBX_ERR : Nat := 580
def PCI_DOE : Nat := 581
def ETH_LINK (e : Nat) : Nat := 592 + 4 * e
def ETH_RX (e : Nat) : Nat := 593 + 4 * e
def ETH_RX_ERR (e : Nat) : Nat := 594 + 4 * e
def ETH_TS (e : Nat) : Nat := 595 + 4 * e
/-- Gaffer `n`'s event `e` (R123): 0 SIGNAL0, 1 SIGNAL1, 2 OVERRUN, 3 LOCAL_SKIP, 4 BREAK, 5 XFER_ERR, 6 SWITCH, 7 STATE. -/
def GAF (n e : Nat) : Nat := 608 + 8 * n + e
def SEC_FOLD_MISMATCH (s : Nat) : Nat := 736 + 2 * s
def SEC_REMAP (s : Nat) : Nat := 737 + 2 * s

/-- The sources that the event tables name, as runs: first and last (R282). Within a group of instances the runs repeat. -/
def runs : List (Nat × Nat) :=
  [(0, 0), (8, 10), (16, 19), (32, 40), (64, 80), (96, 105), (128, 137), (152, 154), (160, 165), (192, 202), (224, 226),
   (256, 287), (288, 293), (320, 324), (352, 356), (384, 388), (416, 420), (448, 451), (456, 459), (464, 467), (472, 475),
   (480, 482), (484, 486), (488, 490), (492, 494), (496, 498), (500, 502), (504, 506), (508, 510), (512, 555), (560, 581),
   (592, 767)]

/-- Is a source named by an event table? One that is not is never raised (R282). -/
def named (src : Nat) : Bool := runs.any fun r => decide (r.1 ≤ src) && decide (src ≤ r.2)

end Sys2Proof.Machine.Ev
end

