-- ==== Sys2Proof/Config.lean ====
section
/-!
DEFINITION. What is fixed for one part and not told by the spec: fuse and OTP contents, the cryptographic functions,
and the free values. Each is opaque, so no proof can rest on a value of it.
-/

namespace Sys2Proof

/-- What the parameter page and the factory marks of a NAND die report (R290, R302). -/
structure Die where
  /-- Where it is attached: channel, chip enable, LUN. -/
  channel : Nat
  ce : Nat
  lun : Nat
  bitsPerCell : Nat
  /-- Data bytes of a page, spare bytes for each 4 KiB, pages of a block, blocks, planes. -/
  page : Nat
  spare : Nat
  pages : Nat
  blocks : Nat
  planes : Nat
  /-- The interfaces it supports beside SDR, and the fastest rate, MT/s. -/
  nvDdr3 : Bool
  nvLpDdr4 : Bool
  rate : Nat
  /-- The blocks with a factory bad-block mark. -/
  bad : List Nat
  deriving DecidableEq, Repr

end Sys2Proof

namespace Sys2Proof.Config

/-- The NAND dies that the board attaches (R290). -/
opaque dies : List Die

/-- What the bits of a tile read at a mount turn out as (R293): the draw, the tile; 1 corrected, 2 past correction, modulo 3. -/
opaque tileBits : Nat → Nat → Nat

/-- The speed grade, 1 or 2 (R2, SYS_ID.GRADE 'Fused'). -/
opaque grade : Nat

/-- The 64-bit device serial (SYS_SERIAL 'Fused', R169). -/
opaque serial : Nat

/-- The supply trim of a level, TRIM_P0 to TRIM_P3, each from 0 to 12 (PWR_AVS_TRIM 'Fused', R359). -/
opaque avsTrim : Nat → Fin 13

/-- A voltage in mV as the data word of VOUT_COMMAND: in the Linear format with the exponent that the regulator's VOUT_MODE gives
(R358, R359). -/
opaque voutWord : Nat → BitVec 16

/-- SHA-384 (R424): the 48-byte digest of a message. -/
opaque sha384 : List Byte → List Byte

/-- ECDSA P-384 verification (R317, R427): public key, message, signature. -/
opaque ecdsaVerify : List Byte → List Byte → List Byte → Bool

/-- ECDSA P-384 signing with the device private key (R423, R425): message and per-signature randomness. -/
opaque ecdsaSign : List Byte → Nat → List Byte

/-- The device key pair generated at the first TEST start (R422): the 96 bytes of the public key. -/
opaque generatedPubKey : Nat → List Byte

/-- The device certificate (R422), by its key's draw: DER. -/
opaque certificate : Nat → List Byte

/-- The certificate chain (R422), root first, by the device key's draw. -/
opaque certChain : Nat → List Byte

/-- Graizel's debug-key digest in ROM (R427): 48 bytes. -/
opaque vendorDigest : List Byte

/-- The measurement of the management-core firmware (R424, index 1): 48 bytes. -/
opaque firmware : List Byte

/-- Random numbers of the device (nonces, challenges): n bytes for the k-th draw. -/
opaque random : Nat → Nat → List Byte

/-- A value the spec leaves open, one for each count of the state's free-value counter. -/
opaque freeValue : Nat → Nat

end Sys2Proof.Config

namespace Sys2Proof.Machine

/-- A wire of the edge fabric (R220): the block it originates at, its kind (0 length 1, 1 length 2, 2 length 6, 3 length 16,
4 horizontal long line, 5 vertical long line), its direction (0 N, 1 E, 2 S, 3 W) and its index. -/
structure Wire where
  block : Nat
  kind : Nat
  dir : Nat
  idx : Nat
  deriving DecidableEq, Repr

/-- What a routing multiplexer may select, and what drives it (R217–R223, R227, R230): a wire, the outputs of a cell or of its
flip-flops, the selectors of a block, bits of a block memory's port, a pin's level or its input flip-flops, a signal of a
hard port of partition `k`. -/
inductive Net
  | wire (w : Wire)
  | yf (b c : Nat)
  | yh (b c : Nat)
  | ff (b c i : Nat)
  | bsel (b : Nat)
  | bselL (b : Nat)
  | bselH (b : Nat)
  | csel (b : Nat)
  | bram (m port i : Nat)
  | pin (p : Nat)
  | pinFf (p i : Nat)
  | hard (k i : Nat)
  deriving DecidableEq, Repr

/-- A routing multiplexer (R220, R221): of a wire, of a table input or the direct input of a cell, of the clock enable or the
clear/preset of a control set, of a global line's select, of a tree's enable, of a block memory's port (address, data, lane
write enables, read enable), of a pin's output, its second output for double data rate, and its output enable. -/
inductive Mux
  | wire (w : Wire)
  | cellIn (b c i : Nat)
  | dx (b c : Nat)
  | ce (b q : Nat)
  | cp (b q : Nat)
  | lineSel (g : Nat)
  | treeEn (r t : Nat)
  | addr (m port i : Nat)
  | data (m port i : Nat)
  | we (m port i : Nat)
  | re (m port : Nat)
  | pinOut (p : Nat)
  | pinOut2 (p : Nat)
  | pinOe (p : Nat)
  deriving DecidableEq, Repr

/-- An attribute that the bit-stream sets (R217–R235). -/
inductive Item
  /-- A cell's 64-bit table and its mode. -/
  | tbl (b c : Nat)
  | split (b c : Nat)
  /-- A flip-flop's D source, CP action and initial value. -/
  | ffD (b c i : Nat)
  | ffCp (b c i : Nat)
  | ffInit (b c i : Nat)
  /-- A control set's tree and its inversion. -/
  | setTree (b q : Nat)
  | setInv (b q : Nat)
  | bsplit (b : Nat)
  | mux (m : Mux)
  /-- What an isolation cell holds: 0, 1 or the last value. -/
  | iso (w : Wire)
  /-- The two sources of a global line; is its select a constant, and which. -/
  | lineSrc (g i : Nat)
  | lineFixed (g : Nat)
  | lineConst (g : Nat)
  /-- A tree's line, its divider less 1, and whether its enable is used. -/
  | treeLine (r t : Nat)
  | treeDiv (r t : Nat)
  | treeGated (r t : Nat)
  /-- A block memory's ports: aspect, read-during-write, output register, tree; its common clock, WPRI, whether the
  bit-stream gives its contents, and a lane of them. -/
  | aspect (m port : Nat)
  | through (m port : Nat)
  | outReg (m port : Nat)
  | portTree (m port : Nat)
  | common (m : Nat)
  | wpriA (m : Nat)
  | given (m : Nat)
  | lane (m i : Nat)
  /-- A pin's standard, pull, tree, double data rate, whether its output and its output enable are registered, the initial values
  of its flip-flops, drive, fast slew, and of an LVDS pair its direction and its termination. -/
  | pinStd (p : Nat)
  | pinPull (p : Nat)
  | pinTree (p : Nat)
  | pinDdr (p : Nat)
  | pinOutReg (p : Nat)
  | pinOeReg (p : Nat)
  | pinInit (p i : Nat)
  | pinAmps (p : Nat)
  | pinFast (p : Nat)
  | pairOut (p : Nat)
  | pairTerm (p : Nat)
  /-- A partition's window port is enabled; the trees that clock its window port and its trigger port: a tree of its first clock
  region, or of its second from 16 on. -/
  | window (k : Nat)
  | winTree (k : Nat)
  | trigTree (k : Nat)
  deriving DecidableEq, Repr

/-- A live bit that FAB_RB shows (R432): a flip-flop of a logic cell, or a bit of a lane of a block memory. -/
inductive LiveBit
  | ff (b c i : Nat)
  | lane (m i j : Nat)
  deriving DecidableEq, Repr

end Sys2Proof.Machine

namespace Sys2Proof.Config

/-! The spec gives the widths of the bit-stream's fields and no layout: where they stand is free. -/

/-- The bit of a partition's configuration words at which the field of an attribute begins. -/
opaque place : Machine.Item → Nat

/-- The inputs of a routing multiplexer, in the order of its codes from 1. -/
opaque muxNets : Machine.Mux → List Machine.Net

/-- The blocks at whose switch boxes a routing multiplexer that is not a block's own stands. -/
opaque muxBlock : Machine.Mux → Nat

/-- Where a clock region's first block stands in the grid of blocks: row and column. -/
opaque regionAt : Nat → Nat × Nat

/-- Which block of its row or column a long line originates at, among those of the partition: kind of line, partition, row or
column of the grid, line. -/
opaque longOrigin : Nat → Nat → Nat → Nat → Nat

/-- Which of its partition's two clock regions a pin lies in, modulo 2. -/
opaque pinRegion : Nat → Nat

/-- The output supply of a bank of user pins, mV (R230). -/
opaque bankVcco : Nat → Nat

/-- The flip-flops and block-memory bits at a configuration word (R432): partition, word. -/
opaque liveBits : Nat → Nat → List Machine.LiveBit

/-- The level of the word clock of a gather bank at a time (R191, R223). -/
opaque wordClock : Nat → Nat → Bool

/-- The level that the board gives a user pin at a time. -/
opaque padLevel : Nat → Nat → Bool
/-- A hard port's signal to the fabric other than a strobe of the trigger port: partition, signal, time. -/
opaque hardLevel : Nat → Nat → Nat → Bool

end Sys2Proof.Config
end

