-- ==== Sys2Proof/Machine/Bits.lean ====
section
/-!
DEFINITION. Fields of numbers, byte order and sign: the helpers every decoder of a word or of a block of bytes uses.
-/

namespace Sys2Proof.Machine

/-- Bits `hi` down to `lo` of a number (bit 0 is the least significant, R6). -/
def slice (w hi lo : Nat) : Nat := w / 2 ^ lo % 2 ^ (hi - lo + 1)

/-- Bit `i` of a number. -/
def bit (w i : Nat) : Bool := w.testBit i

/-- A truth value as a number. -/
def b2n (b : Bool) : Nat := if b then 1 else 0

/-- The number a list of bytes spells, the first byte least significant (R6). -/
def leNat : List Byte → Nat
  | [] => 0
  | b :: bs => b.toNat + 256 * leNat bs

/-- The `n` bytes of a number, least significant first (R6). -/
def leBytes : Nat → Nat → List Byte
  | 0, _ => []
  | n + 1, v => BitVec.ofNat 8 v :: leBytes n (v / 256)

/-- The `n` bytes of a number, most significant first (the order of R278). -/
def beBytes (n v : Nat) : List Byte := (leBytes n v).reverse

/-- The two's-complement value of the low `n` bits of a number. -/
def toSigned (n v : Nat) : Int :=
  if v % 2 ^ n < 2 ^ (n - 1) then (v % 2 ^ n : Nat) else ((v % 2 ^ n : Nat) : Int) - (2 ^ n : Nat)

/-- The low `n` bits that hold an integer in two's complement. -/
def ofSigned (n : Nat) (v : Int) : Nat := (v % ((2 ^ n : Nat) : Int)).toNat

/-- Set bit `i` of a number to `b`. -/
def setBitTo (w i : Nat) (b : Bool) : Nat :=
  if w.testBit i = b then w else if b then w + 2 ^ i else w - 2 ^ i

/-- `a` rotated left by `r` in 64 bits (R51). -/
def rotl64 (a : BitVec 64) (r : Nat) : BitVec 64 := a.rotateLeft (r % 64)

/-- All numbers below `n`, for `forEach`. -/
def upTo (n : Nat) : List Nat := List.range n

/-- The indices of the set bits of a number below 2^n. -/
def bitsOf (n w : Nat) : List Nat := (List.range n).filter fun i => w.testBit i

/-- The smallest element of `0..n-1` that satisfies `p`. -/
def firstIdx (n : Nat) (p : Nat → Bool) : Option Nat := (List.range n).find? p

/-- One bit of the reflected CRC-32C. -/
def crcBit (c : Nat) : Nat := if c % 2 = 1 then (c / 2) ^^^ 0x82f63b78 else c / 2

/-- One byte. -/
def crcByte (c : Nat) (b : Byte) : Nat :=
  crcBit (crcBit (crcBit (crcBit (crcBit (crcBit (crcBit (crcBit (c ^^^ b.toNat))))))))

/-- CRC-32C of bytes: polynomial 0x1EDC6F41 reflected, initial value and final exclusive-OR of all ones. -/
def crc32c (bs : List Byte) : Nat := (bs.foldl crcByte 0xffffffff) ^^^ 0xffffffff

end Sys2Proof.Machine
end

