-- ==== Sys2Proof/Machine/RegMap.lean ====
section
/-!
DEFINITION. The register map of control space (R7, R8, R24, R436): for every block its registers, at which offset each
lies, and for every field its bits, access type and reset value, as the field ladders of the spec give them.
-/

namespace Sys2Proof.Machine

/-- The access types of R8, with the two kinds of reserved field of R9. -/
inductive Acc
  | rw | ro | w1c | w1s | rwl | rc
  /-- Reserved; must be written 0 (a 1 written is an access error, R9). -/
  | mbz
  /-- Reserved; reads 0; writes ignored. -/
  | res
  deriving DecidableEq, Repr

/-- One row of a field ladder. -/
structure Field where
  hi : Nat
  lo : Nat
  acc : Acc
  reset : Nat
  deriving DecidableEq, Repr

/-- A register, or `count` registers of one layout `stride` bytes apart. -/
structure RegRow where
  name : String
  off : Nat
  stride : Nat
  count : Nat
  fields : List Field
  deriving DecidableEq, Repr

/-- A field by its place in control space: byte offset of its register, and its bits. -/
structure Fld where
  off : Nat
  hi : Nat
  lo : Nat
  deriving DecidableEq, Repr

/-- The blocks of R24. -/
inductive Block
  | sys | pwr | clk | flt | evt | lcs | cfg | bst | tb | noc | dma | sto
  | gaf | mpu | sec | irc | gth | mrv | hbm | pci | eth
  deriving DecidableEq, Repr

/-- The registers of one PLL (R381): those of PLL5 are RWL, the others' RO; the settings are the worked case's. -/
def pllRow (k : Nat) (acc : Acc) (apply : Field) (n frac den d : Nat) : List RegRow := [
  ⟨"PLL_CFG", 0x100 + 0x20 * k, 0, 1,
    [apply, ⟨30, 30, acc, 0⟩, ⟨29, 23, .mbz, 0⟩, ⟨22, 16, acc, n⟩, ⟨15, 0, .mbz, 0⟩]⟩,
  ⟨"PLL_FRAC", 0x104 + 0x20 * k, 0, 1, [⟨31, 24, .mbz, 0⟩, ⟨23, 0, acc, frac⟩]⟩,
  ⟨"PLL_DEN", 0x108 + 0x20 * k, 0, 1, [⟨31, 24, .mbz, 0⟩, ⟨23, 0, acc, den⟩]⟩,
  ⟨"PLL_LOCK", 0x10c + 0x20 * k, 0, 1, [⟨31, 24, .mbz, 0⟩, ⟨23, 16, .rwl, 50⟩, ⟨15, 0, .rwl, 1024⟩]⟩,
  ⟨"PLL_OUT", 0x110 + 0x20 * k, 0, 1, [⟨31, 30, .mbz, 0⟩, ⟨29, 16, acc, 0⟩, ⟨15, 8, .mbz, 0⟩, ⟨7, 0, acc, d⟩]⟩]

/-- An output divider of PLL5 beyond C0. -/
def pll5Out (j d : Nat) : RegRow :=
  ⟨"PLL_OUT", 0x1b0 + 4 * j, 0, 1, [⟨31, 30, .mbz, 0⟩, ⟨29, 16, .rwl, 0⟩, ⟨15, 8, .mbz, 0⟩, ⟨7, 0, .rwl, d⟩]⟩

/-- APPLY of a PLL that the host does not program. -/
def noApply : Field := ⟨31, 31, .res, 0⟩

/-- The PLL registers (R381). PLL0 stands at the grade-2 setting; `regReset` adjusts a grade-1 part. -/
def pllRows : List RegRow :=
  pllRow 0 .ro noApply 64 0 0 8 ++ pllRow 1 .ro noApply 76 0xcccccd 0 8 ++ pllRow 2 .ro noApply 64 0 0 16 ++
  pllRow 3 .ro noApply 81 0xeb851f 0 16 ++ pllRow 4 .ro noApply 81 0xeb851f 0 4 ++
  pllRow 5 .rwl ⟨31, 31, .w1s, 0⟩ 76 4 5 20 ++ [pll5Out 1 24, pll5Out 2 40, pll5Out 3 48] ++
  pllRow 6 .ro noApply 61 0x70a3d7 0 8 ++ pllRow 7 .ro noApply 64 0 0 10

/-- The coefficient words of a marver unit's eight sets that hold two coefficients (R213). -/
def coefRows : List RegRow := (List.range 24).map fun w =>
  ⟨"COEF", 0x1000 + 4 * w, 0x80, 8, [⟨31, 0, .rw, 0⟩]⟩

def sysRows0 : List RegRow := [
  ⟨"START_STAT", 0x100, 0x0, 1, [⟨31, 28, .ro, 0⟩, ⟨27, 26, .ro, 0⟩, ⟨25, 25, .ro, 0⟩, ⟨24, 24, .ro, 0⟩, ⟨23, 20, .ro, 0⟩, ⟨19, 16, .ro, 0⟩, ⟨15, 0, .ro, 0⟩]⟩,
  ⟨"START_CTRL", 0x104, 0x0, 1, [⟨31, 31, .w1s, 0⟩, ⟨30, 17, .mbz, 0⟩, ⟨16, 16, .rw, 0⟩, ⟨15, 0, .rw, 0x3e8⟩]⟩,
  ⟨"REL_CFG", 0x108, 0x0, 1, [⟨31, 27, .mbz, 0⟩, ⟨26, 24, .rw, 0⟩, ⟨23, 16, .rw, 0x20⟩, ⟨15, 8, .mbz, 0⟩, ⟨7, 0, .rw, 2⟩]⟩,
  ⟨"REL_GAP", 0x10c, 0x0, 1, [⟨31, 16, .rw, 0x64⟩, ⟨15, 0, .rw, 0x64⟩]⟩,
  ⟨"START_TIME", 0x110, 0x0, 1, [⟨31, 0, .ro, 0⟩]⟩,
  ⟨"ID", 0x0, 0x0, 1, [⟨31, 16, .ro, 0x1312⟩, ⟨15, 8, .ro, 0xb0⟩, ⟨7, 2, .res, 0⟩, ⟨1, 0, .ro, 0⟩]⟩,
  ⟨"SERIAL_LO", 0x4, 0x0, 1, [⟨31, 0, .ro, 0⟩]⟩,
  ⟨"SERIAL_HI", 0x8, 0x0, 1, [⟨31, 0, .ro, 0⟩]⟩,
  ⟨"ACCESS_ERR_CNT", 0xc, 0x0, 1, [⟨31, 0, .rc, 0⟩]⟩,
  ⟨"LOCKED_WRITE_CNT", 0x10, 0x0, 1, [⟨31, 0, .rc, 0⟩]⟩,
  ⟨"ACCESS_ERR_REC", 0x14, 0x0, 1, [⟨31, 31, .w1c, 0⟩, ⟨30, 30, .ro, 0⟩, ⟨29, 28, .ro, 0⟩, ⟨27, 27, .ro, 0⟩, ⟨26, 26, .res, 0⟩, ⟨25, 0, .ro, 0⟩]⟩]

/-- The registers of block SYS. -/
def sysRows : List RegRow := sysRows0

def pwrRows0 : List RegRow := [
  ⟨"CTRL", 0x0, 0x0, 1, [⟨31, 31, .w1s, 0⟩, ⟨30, 0, .mbz, 0⟩]⟩,
  ⟨"STAT", 0x4, 0x0, 1, [⟨31, 31, .ro, 0⟩, ⟨30, 30, .ro, 0⟩, ⟨29, 27, .ro, 0⟩, ⟨26, 25, .ro, 0⟩, ⟨24, 24, .ro, 0⟩, ⟨23, 4, .res, 0⟩, ⟨3, 3, .w1c, 0⟩, ⟨2, 2, .w1c, 0⟩, ⟨1, 1, .w1c, 0⟩, ⟨0, 0, .w1c, 0⟩]⟩,
  ⟨"VOTE", 0x10, 0x4, 16, [⟨31, 2, .mbz, 0⟩, ⟨1, 0, .rw, 1⟩]⟩,
  ⟨"VOTE_FREE", 0x50, 0x0, 1, [⟨31, 2, .mbz, 0⟩, ⟨1, 0, .rw, 3⟩]⟩,
  ⟨"HBM_CFG", 0x54, 0x0, 1, [⟨31, 16, .rw, 0x64⟩, ⟨15, 2, .mbz, 0⟩, ⟨1, 0, .rw, 0⟩]⟩,
  ⟨"DOM_CFG", 0x58, 0x0, 1, [⟨31, 16, .mbz, 0⟩, ⟨15, 0, .rw, 0x64⟩]⟩,
  ⟨"WAKE_EN", 0x60, 0x0, 1, [⟨31, 16, .mbz, 0⟩, ⟨15, 8, .rw, 0x10⟩, ⟨7, 4, .mbz, 0⟩, ⟨3, 0, .rw, 0xa⟩]⟩,
  ⟨"WAKE_SRC", 0x64, 0x0, 1, [⟨31, 4, .res, 0⟩, ⟨3, 0, .w1c, 0⟩]⟩,
  ⟨"LEHR_TIME_LO", 0x68, 0x0, 1, [⟨31, 0, .ro, 0⟩]⟩,
  ⟨"LEHR_TIME_HI", 0x6c, 0x0, 1, [⟨31, 16, .res, 0⟩, ⟨15, 0, .ro, 0⟩]⟩,
  ⟨"WAKE_AT_LO", 0x70, 0x0, 1, [⟨31, 0, .rw, 0⟩]⟩,
  ⟨"WAKE_AT_HI", 0x74, 0x0, 1, [⟨31, 16, .mbz, 0⟩, ⟨15, 0, .rw, 0⟩]⟩,
  ⟨"SAVE_CFG", 0x80, 0x0, 1, [⟨31, 31, .ro, 0⟩, ⟨30, 30, .ro, 0⟩, ⟨29, 14, .mbz, 0⟩, ⟨13, 0, .rw, 0⟩]⟩,
  ⟨"SAVE_IDX", 0x84, 0x0, 1, [⟨31, 13, .mbz, 0⟩, ⟨12, 0, .rw, 0⟩]⟩,
  ⟨"SAVE_OFS", 0x88, 0x0, 1, [⟨31, 26, .mbz, 0⟩, ⟨25, 2, .rw, 0⟩, ⟨1, 1, .mbz, 0⟩, ⟨0, 0, .ro, 0⟩]⟩,
  ⟨"SAVE_VAL", 0x8c, 0x0, 1, [⟨31, 0, .ro, 0⟩]⟩,
  ⟨"AVS_CFG", 0x90, 0x0, 1, [⟨31, 24, .mbz, 0⟩, ⟨23, 16, .rwl, 2⟩, ⟨15, 10, .mbz, 0⟩, ⟨9, 9, .rwl, 0⟩, ⟨8, 8, .rwl, 0⟩, ⟨7, 7, .mbz, 0⟩, ⟨6, 0, .rwl, 0x40⟩]⟩,
  ⟨"AVS_TRIM", 0x94, 0x0, 1, [⟨31, 16, .res, 0⟩, ⟨15, 0, .ro, 0⟩]⟩,
  ⟨"VOUT", 0x98, 0x0, 1, [⟨31, 16, .res, 0⟩, ⟨15, 0, .ro, 0⟩]⟩,
  ⟨"ABANDON_CNT", 0xa0, 0x0, 1, [⟨31, 0, .rc, 0⟩]⟩]

def pwrRows1 : List RegRow := [
  ⟨"WAKE_PKT_CNT", 0xa4, 0x0, 1, [⟨31, 0, .rc, 0⟩]⟩,
  ⟨"PERF_HOLD_CNT", 0xa8, 0x0, 1, [⟨31, 0, .rc, 0⟩]⟩,
  ⟨"PMBUS_ERR_CNT", 0xac, 0x0, 1, [⟨31, 0, .rc, 0⟩]⟩,
  ⟨"LOCK", 0xffc, 0x0, 1, [⟨31, 1, .res, 0⟩, ⟨0, 0, .w1s, 0⟩]⟩]

/-- The registers of block PWR. -/
def pwrRows : List RegRow := pwrRows0 ++ pwrRows1

def clkRows0 : List RegRow := [
  ⟨"STAT", 0x0, 0x0, 1, [⟨31, 24, .w1c, 0⟩, ⟨23, 16, .w1c, 0⟩, ⟨15, 8, .res, 0⟩, ⟨7, 0, .ro, 0⟩]⟩,
  ⟨"UNLOCK_CNT", 0x4, 0x0, 1, [⟨31, 0, .rc, 0⟩]⟩,
  ⟨"LOCK", 0xffc, 0x0, 1, [⟨31, 1, .res, 0⟩, ⟨0, 0, .w1s, 0⟩]⟩]

/-- The registers of block CLK. -/
def clkRows : List RegRow := clkRows0 ++ pllRows

def fltRows0 : List RegRow := [
  ⟨"STAT", 0x0, 0x0, 1, [⟨31, 31, .ro, 0⟩, ⟨30, 30, .ro, 1⟩, ⟨29, 20, .res, 0⟩, ⟨19, 19, .w1c, 0⟩, ⟨18, 18, .w1c, 0⟩, ⟨17, 17, .w1c, 0⟩, ⟨16, 16, .ro, 0⟩, ⟨15, 0, .ro, 0⟩]⟩,
  ⟨"PIN_CFG", 0x4, 0x0, 1, [⟨31, 16, .rwl, 0xa⟩, ⟨15, 2, .mbz, 0⟩, ⟨1, 1, .rwl, 0⟩, ⟨0, 0, .rwl, 1⟩]⟩,
  ⟨"FIRST_SRC", 0x8, 0x0, 1, [⟨31, 31, .w1c, 0⟩, ⟨30, 30, .ro, 0⟩, ⟨29, 28, .ro, 0⟩, ⟨27, 24, .ro, 0⟩, ⟨23, 23, .ro, 0⟩, ⟨22, 8, .res, 0⟩, ⟨7, 0, .ro, 0⟩]⟩,
  ⟨"FIRST_DETAIL", 0xc, 0x0, 1, [⟨31, 0, .ro, 0⟩]⟩,
  ⟨"FIRST_TIME_LO", 0x10, 0x0, 1, [⟨31, 0, .ro, 0⟩]⟩,
  ⟨"FIRST_TIME_HI", 0x14, 0x0, 1, [⟨31, 0, .ro, 0⟩]⟩,
  ⟨"PREV_SRC", 0x18, 0x0, 1, [⟨31, 31, .w1c, 0⟩, ⟨30, 30, .ro, 0⟩, ⟨29, 28, .ro, 0⟩, ⟨27, 24, .ro, 0⟩, ⟨23, 23, .ro, 0⟩, ⟨22, 8, .res, 0⟩, ⟨7, 0, .ro, 0⟩]⟩,
  ⟨"PREV_DETAIL", 0x1c, 0x0, 1, [⟨31, 0, .ro, 0⟩]⟩,
  ⟨"PREV_TIME_LO", 0x20, 0x0, 1, [⟨31, 0, .ro, 0⟩]⟩,
  ⟨"PREV_TIME_HI", 0x24, 0x0, 1, [⟨31, 0, .ro, 0⟩]⟩,
  ⟨"LOG_HEAD", 0x28, 0x0, 1, [⟨31, 7, .res, 0⟩, ⟨6, 0, .ro, 0⟩]⟩,
  ⟨"LOG_TAIL", 0x2c, 0x0, 1, [⟨31, 7, .mbz, 0⟩, ⟨6, 0, .rw, 0⟩]⟩,
  ⟨"WIRE_LO", 0x30, 0x0, 1, [⟨31, 0, .w1c, 0⟩]⟩,
  ⟨"WIRE_HI", 0x34, 0x0, 1, [⟨31, 0, .w1c, 0⟩]⟩,
  ⟨"TEMP", 0x38, 0x0, 1, [⟨31, 24, .mbz, 0⟩, ⟨23, 16, .rwl, 0x6e⟩, ⟨15, 8, .mbz, 0⟩, ⟨7, 0, .ro, 0⟩]⟩,
  ⟨"FENCE", 0x40, 0x4, 16, [⟨31, 24, .ro, 0⟩, ⟨23, 16, .res, 0⟩, ⟨15, 0, .ro, 0⟩]⟩,
  ⟨"F3_CNT", 0x80, 0x0, 1, [⟨31, 0, .rc, 0⟩]⟩,
  ⟨"F2_CNT", 0x84, 0x0, 1, [⟨31, 0, .rc, 0⟩]⟩,
  ⟨"F1_CNT", 0x88, 0x0, 1, [⟨31, 0, .rc, 0⟩]⟩,
  ⟨"OVF_CNT", 0x8c, 0x0, 1, [⟨31, 0, .rc, 0⟩]⟩]

def fltRows1 : List RegRow := [
  ⟨"LOCK", 0xffc, 0x0, 1, [⟨31, 1, .res, 0⟩, ⟨0, 0, .w1s, 0⟩]⟩,
  ⟨"LOG", 0x1000, 0x4, 512, [⟨31, 0, .ro, 0⟩]⟩]

/-- The registers of block FLT. -/
def fltRows : List RegRow := fltRows0 ++ fltRows1

def evtRows0 : List RegRow := [
  ⟨"ROUTE", 0x1000, 0x4, 768, [⟨31, 31, .rw, 0⟩, ⟨30, 30, .rw, 0⟩, ⟨29, 29, .rw, 0⟩, ⟨28, 28, .rw, 0⟩, ⟨27, 11, .mbz, 0⟩, ⟨10, 0, .rw, 0⟩]⟩,
  ⟨"PEND", 0x100, 0x4, 24, [⟨31, 0, .w1c, 0⟩]⟩]

/-- The registers of block EVT. -/
def evtRows : List RegRow := evtRows0

def lcsRows0 : List RegRow := [
  ⟨"STATE", 0x0, 0x0, 1, [⟨31, 29, .ro, 0⟩, ⟨28, 28, .ro, 0⟩, ⟨27, 0, .res, 0⟩]⟩,
  ⟨"LC_WORD_LO", 0x4, 0x0, 1, [⟨31, 0, .ro, 0⟩]⟩,
  ⟨"LC_WORD_HI", 0x8, 0x0, 1, [⟨31, 0, .ro, 0⟩]⟩,
  ⟨"CFG", 0xc, 0x0, 1, [⟨31, 3, .res, 0⟩, ⟨2, 2, .ro, 0⟩, ⟨1, 1, .ro, 0⟩, ⟨0, 0, .ro, 0⟩]⟩,
  ⟨"STAGE", 0x10, 0x0, 1, [⟨31, 3, .mbz, 0⟩, ⟨2, 1, .rw, 0⟩, ⟨0, 0, .mbz, 0⟩]⟩,
  ⟨"OWNER_DIGEST0", 0x20, 0x0, 1, [⟨31, 0, .ro, 0⟩]⟩,
  ⟨"OWNER_DIGEST1", 0x24, 0x0, 1, [⟨31, 0, .ro, 0⟩]⟩,
  ⟨"OWNER_DIGEST2", 0x28, 0x0, 1, [⟨31, 0, .ro, 0⟩]⟩,
  ⟨"OWNER_DIGEST3", 0x2c, 0x0, 1, [⟨31, 0, .ro, 0⟩]⟩,
  ⟨"OWNER_DIGEST4", 0x30, 0x0, 1, [⟨31, 0, .ro, 0⟩]⟩,
  ⟨"OWNER_DIGEST5", 0x34, 0x0, 1, [⟨31, 0, .ro, 0⟩]⟩,
  ⟨"OWNER_DIGEST6", 0x38, 0x0, 1, [⟨31, 0, .ro, 0⟩]⟩,
  ⟨"OWNER_DIGEST7", 0x3c, 0x0, 1, [⟨31, 0, .ro, 0⟩]⟩,
  ⟨"OWNER_DIGEST8", 0x40, 0x0, 1, [⟨31, 0, .ro, 0⟩]⟩,
  ⟨"OWNER_DIGEST9", 0x44, 0x0, 1, [⟨31, 0, .ro, 0⟩]⟩,
  ⟨"OWNER_DIGEST10", 0x48, 0x0, 1, [⟨31, 0, .ro, 0⟩]⟩,
  ⟨"OWNER_DIGEST11", 0x4c, 0x0, 1, [⟨31, 0, .ro, 0⟩]⟩,
  ⟨"DEBUG_DIGEST0", 0x50, 0x0, 1, [⟨31, 0, .ro, 0⟩]⟩,
  ⟨"DEBUG_DIGEST1", 0x54, 0x0, 1, [⟨31, 0, .ro, 0⟩]⟩,
  ⟨"DEBUG_DIGEST2", 0x58, 0x0, 1, [⟨31, 0, .ro, 0⟩]⟩]

def lcsRows1 : List RegRow := [
  ⟨"DEBUG_DIGEST3", 0x5c, 0x0, 1, [⟨31, 0, .ro, 0⟩]⟩,
  ⟨"DEBUG_DIGEST4", 0x60, 0x0, 1, [⟨31, 0, .ro, 0⟩]⟩,
  ⟨"DEBUG_DIGEST5", 0x64, 0x0, 1, [⟨31, 0, .ro, 0⟩]⟩,
  ⟨"DEBUG_DIGEST6", 0x68, 0x0, 1, [⟨31, 0, .ro, 0⟩]⟩,
  ⟨"DEBUG_DIGEST7", 0x6c, 0x0, 1, [⟨31, 0, .ro, 0⟩]⟩,
  ⟨"DEBUG_DIGEST8", 0x70, 0x0, 1, [⟨31, 0, .ro, 0⟩]⟩,
  ⟨"DEBUG_DIGEST9", 0x74, 0x0, 1, [⟨31, 0, .ro, 0⟩]⟩,
  ⟨"DEBUG_DIGEST10", 0x78, 0x0, 1, [⟨31, 0, .ro, 0⟩]⟩,
  ⟨"DEBUG_DIGEST11", 0x7c, 0x0, 1, [⟨31, 0, .ro, 0⟩]⟩,
  ⟨"STAGE_OWNER0", 0x80, 0x0, 1, [⟨31, 0, .rw, 0⟩]⟩,
  ⟨"STAGE_OWNER1", 0x84, 0x0, 1, [⟨31, 0, .rw, 0⟩]⟩,
  ⟨"STAGE_OWNER2", 0x88, 0x0, 1, [⟨31, 0, .rw, 0⟩]⟩,
  ⟨"STAGE_OWNER3", 0x8c, 0x0, 1, [⟨31, 0, .rw, 0⟩]⟩,
  ⟨"STAGE_OWNER4", 0x90, 0x0, 1, [⟨31, 0, .rw, 0⟩]⟩,
  ⟨"STAGE_OWNER5", 0x94, 0x0, 1, [⟨31, 0, .rw, 0⟩]⟩,
  ⟨"STAGE_OWNER6", 0x98, 0x0, 1, [⟨31, 0, .rw, 0⟩]⟩,
  ⟨"STAGE_OWNER7", 0x9c, 0x0, 1, [⟨31, 0, .rw, 0⟩]⟩,
  ⟨"STAGE_OWNER8", 0xa0, 0x0, 1, [⟨31, 0, .rw, 0⟩]⟩,
  ⟨"STAGE_OWNER9", 0xa4, 0x0, 1, [⟨31, 0, .rw, 0⟩]⟩,
  ⟨"STAGE_OWNER10", 0xa8, 0x0, 1, [⟨31, 0, .rw, 0⟩]⟩]

def lcsRows2 : List RegRow := [
  ⟨"STAGE_OWNER11", 0xac, 0x0, 1, [⟨31, 0, .rw, 0⟩]⟩,
  ⟨"STAGE_DEBUG0", 0xb0, 0x0, 1, [⟨31, 0, .rw, 0⟩]⟩,
  ⟨"STAGE_DEBUG1", 0xb4, 0x0, 1, [⟨31, 0, .rw, 0⟩]⟩,
  ⟨"STAGE_DEBUG2", 0xb8, 0x0, 1, [⟨31, 0, .rw, 0⟩]⟩,
  ⟨"STAGE_DEBUG3", 0xbc, 0x0, 1, [⟨31, 0, .rw, 0⟩]⟩,
  ⟨"STAGE_DEBUG4", 0xc0, 0x0, 1, [⟨31, 0, .rw, 0⟩]⟩,
  ⟨"STAGE_DEBUG5", 0xc4, 0x0, 1, [⟨31, 0, .rw, 0⟩]⟩,
  ⟨"STAGE_DEBUG6", 0xc8, 0x0, 1, [⟨31, 0, .rw, 0⟩]⟩,
  ⟨"STAGE_DEBUG7", 0xcc, 0x0, 1, [⟨31, 0, .rw, 0⟩]⟩,
  ⟨"STAGE_DEBUG8", 0xd0, 0x0, 1, [⟨31, 0, .rw, 0⟩]⟩,
  ⟨"STAGE_DEBUG9", 0xd4, 0x0, 1, [⟨31, 0, .rw, 0⟩]⟩,
  ⟨"STAGE_DEBUG10", 0xd8, 0x0, 1, [⟨31, 0, .rw, 0⟩]⟩,
  ⟨"STAGE_DEBUG11", 0xdc, 0x0, 1, [⟨31, 0, .rw, 0⟩]⟩,
  ⟨"PUBKEY0", 0x100, 0x0, 1, [⟨31, 0, .ro, 0⟩]⟩,
  ⟨"PUBKEY1", 0x104, 0x0, 1, [⟨31, 0, .ro, 0⟩]⟩,
  ⟨"PUBKEY2", 0x108, 0x0, 1, [⟨31, 0, .ro, 0⟩]⟩,
  ⟨"PUBKEY3", 0x10c, 0x0, 1, [⟨31, 0, .ro, 0⟩]⟩,
  ⟨"PUBKEY4", 0x110, 0x0, 1, [⟨31, 0, .ro, 0⟩]⟩,
  ⟨"PUBKEY5", 0x114, 0x0, 1, [⟨31, 0, .ro, 0⟩]⟩,
  ⟨"PUBKEY6", 0x118, 0x0, 1, [⟨31, 0, .ro, 0⟩]⟩]

def lcsRows3 : List RegRow := [
  ⟨"PUBKEY7", 0x11c, 0x0, 1, [⟨31, 0, .ro, 0⟩]⟩,
  ⟨"PUBKEY8", 0x120, 0x0, 1, [⟨31, 0, .ro, 0⟩]⟩,
  ⟨"PUBKEY9", 0x124, 0x0, 1, [⟨31, 0, .ro, 0⟩]⟩,
  ⟨"PUBKEY10", 0x128, 0x0, 1, [⟨31, 0, .ro, 0⟩]⟩,
  ⟨"PUBKEY11", 0x12c, 0x0, 1, [⟨31, 0, .ro, 0⟩]⟩,
  ⟨"PUBKEY12", 0x130, 0x0, 1, [⟨31, 0, .ro, 0⟩]⟩,
  ⟨"PUBKEY13", 0x134, 0x0, 1, [⟨31, 0, .ro, 0⟩]⟩,
  ⟨"PUBKEY14", 0x138, 0x0, 1, [⟨31, 0, .ro, 0⟩]⟩,
  ⟨"PUBKEY15", 0x13c, 0x0, 1, [⟨31, 0, .ro, 0⟩]⟩,
  ⟨"PUBKEY16", 0x140, 0x0, 1, [⟨31, 0, .ro, 0⟩]⟩,
  ⟨"PUBKEY17", 0x144, 0x0, 1, [⟨31, 0, .ro, 0⟩]⟩,
  ⟨"PUBKEY18", 0x148, 0x0, 1, [⟨31, 0, .ro, 0⟩]⟩,
  ⟨"PUBKEY19", 0x14c, 0x0, 1, [⟨31, 0, .ro, 0⟩]⟩,
  ⟨"PUBKEY20", 0x150, 0x0, 1, [⟨31, 0, .ro, 0⟩]⟩,
  ⟨"PUBKEY21", 0x154, 0x0, 1, [⟨31, 0, .ro, 0⟩]⟩,
  ⟨"PUBKEY22", 0x158, 0x0, 1, [⟨31, 0, .ro, 0⟩]⟩,
  ⟨"PUBKEY23", 0x15c, 0x0, 1, [⟨31, 0, .ro, 0⟩]⟩,
  ⟨"DBG_SCOPE", 0x160, 0x0, 1, [⟨31, 4, .res, 0⟩, ⟨3, 0, .ro, 0⟩]⟩,
  ⟨"DBG_CTRL", 0x164, 0x0, 1, [⟨31, 1, .mbz, 0⟩, ⟨0, 0, .w1s, 0⟩]⟩,
  ⟨"STAT", 0x168, 0x0, 1, [⟨31, 31, .ro, 0⟩, ⟨30, 3, .res, 0⟩, ⟨2, 2, .w1c, 0⟩, ⟨1, 1, .w1c, 0⟩, ⟨0, 0, .w1c, 0⟩]⟩]

def lcsRows4 : List RegRow := [
  ⟨"AUTH_FAIL_CNT", 0x16c, 0x0, 1, [⟨31, 0, .rc, 0⟩]⟩,
  ⟨"DENIED_CNT", 0x170, 0x0, 1, [⟨31, 0, .rc, 0⟩]⟩,
  ⟨"ATTEST_CNT", 0x174, 0x0, 1, [⟨31, 0, .rc, 0⟩]⟩]

/-- The registers of block LCS. -/
def lcsRows : List RegRow := lcsRows0 ++ lcsRows1 ++ lcsRows2 ++ lcsRows3 ++ lcsRows4

def cfgRows0 : List RegRow := [
  ⟨"FAB_STAT", 0x4000, 0x0, 1, [⟨31, 16, .res, 0⟩, ⟨15, 8, .ro, 0⟩, ⟨7, 0, .ro, 0⟩]⟩,
  ⟨"IO_PULL", 0x4004, 0x0, 1, [⟨31, 24, .mbz, 0⟩, ⟨23, 0, .rwl, 0⟩]⟩,
  ⟨"IO_REPROG", 0x4008, 0x0, 1, [⟨31, 12, .mbz, 0⟩, ⟨11, 0, .rwl, 0⟩]⟩,
  ⟨"IO_STAT", 0x400c, 0x0, 1, [⟨31, 12, .res, 0⟩, ⟨11, 0, .ro, 0⟩]⟩,
  ⟨"WIN_CFG", 0x4010, 0x0, 1, [⟨31, 16, .mbz, 0⟩, ⟨15, 0, .rwl, 0xa⟩]⟩,
  ⟨"WIN_STAT", 0x4014, 0x0, 1, [⟨31, 1, .res, 0⟩, ⟨0, 0, .w1c, 0⟩]⟩,
  ⟨"CLK_STAT", 0x4018, 0x0, 1, [⟨31, 16, .w1c, 0⟩, ⟨15, 0, .ro, 0⟩]⟩,
  ⟨"WIN_TO_CNT", 0x401c, 0x0, 1, [⟨31, 0, .rc, 0⟩]⟩,
  ⟨"TRIG_DROP_CNT", 0x4020, 0x0, 1, [⟨31, 0, .rc, 0⟩]⟩,
  ⟨"STAT", 0x0, 0x0, 1, [⟨31, 31, .ro, 0⟩, ⟨30, 30, .ro, 0⟩, ⟨29, 29, .ro, 0⟩, ⟨28, 27, .ro, 3⟩, ⟨26, 24, .ro, 0⟩, ⟨23, 0, .res, 0⟩]⟩,
  ⟨"LOAD_ERR", 0x4, 0x0, 1, [⟨31, 31, .w1c, 0⟩, ⟨30, 27, .ro, 0⟩, ⟨26, 23, .ro, 0⟩, ⟨22, 0, .ro, 0⟩]⟩,
  ⟨"LOAD_ERR_CNT", 0x8, 0x0, 1, [⟨31, 0, .rc, 0⟩]⟩,
  ⟨"BUILD_LO", 0x10, 0x0, 1, [⟨31, 0, .ro, 0⟩]⟩,
  ⟨"BUILD_HI", 0x14, 0x0, 1, [⟨31, 0, .ro, 0⟩]⟩,
  ⟨"SLOT", 0x20, 0x4, 5, [⟨31, 30, .ro, 0⟩, ⟨29, 29, .ro, 0⟩, ⟨28, 28, .ro, 0⟩, ⟨27, 12, .res, 0⟩, ⟨11, 0, .ro, 0⟩]⟩,
  ⟨"PAR_SEL", 0x40, 0x0, 1, [⟨31, 6, .mbz, 0⟩, ⟨5, 0, .rw, 0⟩]⟩,
  ⟨"PAR_INFO", 0x44, 0x0, 1, [⟨31, 30, .ro, 0⟩, ⟨29, 29, .ro, 0⟩, ⟨28, 27, .ro, 0⟩, ⟨26, 24, .res, 0⟩, ⟨23, 20, .ro, 0⟩, ⟨19, 18, .ro, 0⟩, ⟨17, 10, .res, 0⟩, ⟨9, 0, .ro, 0⟩]⟩,
  ⟨"PROG_CTRL", 0x60, 0x0, 1, [⟨31, 31, .w1s, 0⟩, ⟨30, 11, .mbz, 0⟩, ⟨10, 8, .rw, 0⟩, ⟨7, 6, .mbz, 0⟩, ⟨5, 0, .rw, 0⟩]⟩,
  ⟨"PROG_ADDR_LO", 0x64, 0x0, 1, [⟨31, 6, .rw, 0⟩, ⟨5, 0, .mbz, 0⟩]⟩,
  ⟨"PROG_ADDR_HI", 0x68, 0x0, 1, [⟨31, 3, .mbz, 0⟩, ⟨2, 0, .rw, 0⟩]⟩]

def cfgRows1 : List RegRow := [
  ⟨"PROG_LEN", 0x6c, 0x0, 1, [⟨31, 0, .rw, 0⟩]⟩,
  ⟨"PROG_STAT", 0x70, 0x0, 1, [⟨31, 31, .ro, 0⟩, ⟨30, 6, .res, 0⟩, ⟨5, 5, .w1c, 0⟩, ⟨4, 4, .w1c, 0⟩, ⟨3, 0, .ro, 0⟩]⟩,
  ⟨"SCRUB_CTRL", 0x80, 0x0, 1, [⟨31, 16, .rwl, 0x64⟩, ⟨15, 3, .mbz, 0⟩, ⟨2, 2, .rwl, 0⟩, ⟨1, 1, .rwl, 1⟩, ⟨0, 0, .rwl, 1⟩]⟩,
  ⟨"SCRUB_ERR", 0x84, 0x0, 1, [⟨31, 31, .w1c, 0⟩, ⟨30, 29, .ro, 0⟩, ⟨28, 25, .ro, 0⟩, ⟨24, 16, .res, 0⟩, ⟨15, 15, .ro, 0⟩, ⟨14, 0, .ro, 0⟩]⟩,
  ⟨"SCRUB_CE_CNT", 0x88, 0x0, 1, [⟨31, 0, .rc, 0⟩]⟩,
  ⟨"SCRUB_UE_CNT", 0x8c, 0x0, 1, [⟨31, 0, .rc, 0⟩]⟩,
  ⟨"RELOAD_CNT", 0x90, 0x0, 1, [⟨31, 0, .rc, 0⟩]⟩,
  ⟨"LOCK", 0xffc, 0x0, 1, [⟨31, 1, .res, 0⟩, ⟨0, 0, .w1s, 0⟩]⟩]

/-- The registers of block CFG. -/
def cfgRows : List RegRow := cfgRows0 ++ cfgRows1

def bstRows0 : List RegRow := [
  ⟨"CTRL", 0x0, 0x0, 1, [⟨31, 3, .mbz, 0⟩, ⟨2, 2, .rw, 1⟩, ⟨1, 1, .rw, 0⟩, ⟨0, 0, .rw, 1⟩]⟩,
  ⟨"SLICE_CFG", 0x4, 0x0, 1, [⟨31, 16, .rwl, 0x64⟩, ⟨15, 8, .mbz, 0⟩, ⟨7, 0, .rwl, 0x32⟩]⟩,
  ⟨"STAT", 0x8, 0x0, 1, [⟨31, 31, .ro, 0⟩, ⟨30, 4, .res, 0⟩, ⟨3, 3, .w1c, 0⟩, ⟨2, 2, .w1c, 0⟩, ⟨1, 1, .w1c, 0⟩, ⟨0, 0, .w1c, 0⟩]⟩,
  ⟨"FIRST_LO", 0xc, 0x0, 1, [⟨31, 0, .ro, 0⟩]⟩,
  ⟨"FIRST_HI", 0x10, 0x0, 1, [⟨31, 31, .w1c, 0⟩, ⟨30, 0, .ro, 0⟩]⟩,
  ⟨"FAIL_CNT", 0x14, 0x0, 1, [⟨31, 0, .rc, 0⟩]⟩,
  ⟨"REPAIR_CNT", 0x18, 0x0, 1, [⟨31, 0, .rc, 0⟩]⟩,
  ⟨"CULLET_TILE", 0x20, 0x4, 5, [⟨31, 0, .ro, 0⟩]⟩,
  ⟨"CULLET_GTH", 0x34, 0x4, 3, [⟨31, 0, .ro, 0⟩]⟩,
  ⟨"CULLET_PORT", 0x40, 0x0, 1, [⟨31, 8, .res, 0⟩, ⟨7, 0, .ro, 0⟩]⟩,
  ⟨"CULLET_GEN", 0x44, 0x0, 1, [⟨31, 0, .ro, 0⟩]⟩,
  ⟨"SUSPECT", 0x48, 0x0, 1, [⟨31, 31, .w1c, 0⟩, ⟨30, 8, .res, 0⟩, ⟨7, 0, .ro, 0⟩]⟩,
  ⟨"CULLET_BRAM", 0x100, 0x4, 36, [⟨31, 0, .ro, 0⟩]⟩,
  ⟨"LOCK", 0xffc, 0x0, 1, [⟨31, 1, .res, 0⟩, ⟨0, 0, .w1s, 0⟩]⟩]

/-- The registers of block BST. -/
def bstRows : List RegRow := bstRows0

def tbRows0 : List RegRow := [
  ⟨"CTRL", 0x0, 0x0, 1, [⟨31, 5, .mbz, 0⟩, ⟨4, 4, .w1s, 0⟩, ⟨3, 3, .rwl, 0⟩, ⟨2, 2, .rw, 0⟩, ⟨1, 1, .rw, 0⟩, ⟨0, 0, .w1s, 0⟩]⟩,
  ⟨"STATUS", 0x4, 0x0, 1, [⟨31, 30, .ro, 0⟩, ⟨29, 29, .ro, 0⟩, ⟨28, 28, .ro, 0⟩, ⟨27, 26, .ro, 0⟩, ⟨25, 22, .ro, 0⟩, ⟨21, 18, .ro, 0⟩, ⟨17, 5, .res, 0⟩, ⟨4, 4, .ro, 0⟩, ⟨3, 3, .w1c, 0⟩, ⟨2, 2, .w1c, 0⟩, ⟨1, 1, .w1c, 0⟩, ⟨0, 0, .w1c, 0⟩]⟩,
  ⟨"ENC_CFG", 0x8, 0x0, 1, [⟨31, 24, .rwl, 0x1f⟩, ⟨23, 16, .rwl, 8⟩, ⟨15, 3, .mbz, 0⟩, ⟨2, 2, .rwl, 0⟩, ⟨1, 0, .rwl, 0⟩]⟩,
  ⟨"REL", 0xc, 0x0, 1, [⟨31, 16, .rwl, 0x271⟩, ⟨15, 0, .rwl, 0x190⟩]⟩,
  ⟨"CPL_LO", 0x10, 0x0, 1, [⟨31, 0, .rw, 0⟩]⟩,
  ⟨"CPL_HI", 0x14, 0x0, 1, [⟨31, 0, .rw, 1⟩]⟩,
  ⟨"POS_LO", 0x18, 0x0, 1, [⟨31, 0, .ro, 0⟩]⟩,
  ⟨"POS_HI", 0x1c, 0x0, 1, [⟨31, 0, .ro, 0⟩]⟩,
  ⟨"LINE_LO", 0x20, 0x0, 1, [⟨31, 0, .ro, 0⟩]⟩,
  ⟨"LINE_HI", 0x24, 0x0, 1, [⟨31, 16, .res, 0⟩, ⟨15, 0, .ro, 0⟩]⟩,
  ⟨"LINE_START_LO", 0x28, 0x0, 1, [⟨31, 0, .rw, 0⟩]⟩,
  ⟨"LINE_START_HI", 0x2c, 0x0, 1, [⟨31, 16, .mbz, 0⟩, ⟨15, 0, .rw, 0⟩]⟩,
  ⟨"TIME_LO", 0x30, 0x0, 1, [⟨31, 0, .ro, 0⟩]⟩,
  ⟨"TIME_HI", 0x34, 0x0, 1, [⟨31, 0, .ro, 0⟩]⟩,
  ⟨"Z_POS", 0x38, 0x0, 1, [⟨31, 0, .ro, 0⟩]⟩,
  ⟨"MEMBER", 0x40, 0x0, 1, [⟨31, 22, .mbz, 0⟩, ⟨21, 16, .rwl, 0⟩, ⟨15, 8, .rwl, 0x80⟩, ⟨7, 0, .mbz, 0⟩]⟩,
  ⟨"GROUP", 0x44, 0x0, 1, [⟨31, 16, .ro, 0⟩, ⟨15, 15, .res, 0⟩, ⟨14, 8, .ro, 0⟩, ⟨7, 6, .res, 0⟩, ⟨5, 0, .ro, 0⟩]⟩,
  ⟨"MEMBERS_LO", 0x48, 0x0, 1, [⟨31, 0, .ro, 0⟩]⟩,
  ⟨"MEMBERS_HI", 0x4c, 0x0, 1, [⟨31, 0, .ro, 0⟩]⟩,
  ⟨"BEHIND_LO", 0x50, 0x0, 1, [⟨31, 0, .w1c, 0⟩]⟩]

def tbRows1 : List RegRow := [
  ⟨"BEHIND_HI", 0x54, 0x0, 1, [⟨31, 0, .w1c, 0⟩]⟩,
  ⟨"TIMERS", 0x58, 0x0, 1, [⟨31, 16, .rwl, 0xc8⟩, ⟨15, 0, .rwl, 0x64⟩]⟩,
  ⟨"XSYNC", 0x5c, 0x0, 1, [⟨31, 16, .res, 0⟩, ⟨15, 0, .ro, 0⟩]⟩,
  ⟨"ENC_ERR_CNT", 0x60, 0x0, 1, [⟨31, 0, .rc, 0⟩]⟩,
  ⟨"OVERSPEED_CNT", 0x64, 0x0, 1, [⟨31, 0, .rc, 0⟩]⟩,
  ⟨"LINE_SKIP_CNT", 0x68, 0x0, 1, [⟨31, 0, .rc, 0⟩]⟩,
  ⟨"LATE_CNT", 0x6c, 0x0, 1, [⟨31, 0, .rc, 0⟩]⟩,
  ⟨"TIME_STEP_CNT", 0x70, 0x0, 1, [⟨31, 0, .rc, 0⟩]⟩,
  ⟨"LOCK", 0xffc, 0x0, 1, [⟨31, 1, .res, 0⟩, ⟨0, 0, .w1s, 0⟩]⟩]

/-- The registers of block TB. -/
def tbRows : List RegRow := tbRows0 ++ tbRows1

def nocRows0 : List RegRow := [
  ⟨"CTRL", 0x0, 0x0, 1, [⟨31, 1, .mbz, 0⟩, ⟨0, 0, .w1s, 0⟩]⟩,
  ⟨"STAT", 0x4, 0x0, 1, [⟨31, 31, .ro, 0⟩, ⟨30, 30, .ro, 0⟩, ⟨29, 6, .res, 0⟩, ⟨5, 4, .ro, 0⟩, ⟨3, 2, .res, 0⟩, ⟨1, 1, .w1c, 0⟩, ⟨0, 0, .w1c, 0⟩]⟩,
  ⟨"FRAME_LO", 0x8, 0x0, 1, [⟨31, 0, .ro, 0⟩]⟩,
  ⟨"FRAME_HI", 0xc, 0x0, 1, [⟨31, 0, .ro, 0⟩]⟩,
  ⟨"SLOT_SEL", 0x10, 0x0, 1, [⟨31, 17, .mbz, 0⟩, ⟨16, 16, .rw, 0⟩, ⟨15, 10, .rw, 0⟩, ⟨9, 7, .rw, 0⟩, ⟨6, 0, .mbz, 0⟩]⟩,
  ⟨"PCIE_RATE", 0x14, 0x0, 1, [⟨31, 16, .mbz, 0⟩, ⟨15, 0, .rwl, 0x7080⟩]⟩,
  ⟨"SWITCH_CNT", 0x18, 0x0, 1, [⟨31, 0, .rc, 0⟩]⟩,
  ⟨"PAR_CNT", 0x1c, 0x0, 1, [⟨31, 0, .rc, 0⟩]⟩,
  ⟨"SLOT", 0x1000, 0x4, 128, [⟨31, 8, .mbz, 0⟩, ⟨7, 7, .rw, 0⟩, ⟨6, 4, .rw, 0⟩, ⟨3, 0, .mbz, 0⟩]⟩,
  ⟨"LOCK", 0xffc, 0x0, 1, [⟨31, 1, .res, 0⟩, ⟨0, 0, .w1s, 0⟩]⟩]

/-- The registers of block NOC. -/
def nocRows : List RegRow := nocRows0

def dmaRows0 : List RegRow := [
  ⟨"CTRL", 0x100, 0x40, 16, [⟨31, 31, .w1s, 0⟩, ⟨30, 4, .mbz, 0⟩, ⟨3, 3, .rw, 0⟩, ⟨2, 2, .rw, 0⟩, ⟨1, 1, .rw, 0⟩, ⟨0, 0, .rw, 0⟩]⟩,
  ⟨"STAT", 0x104, 0x40, 16, [⟨31, 31, .ro, 0⟩, ⟨30, 24, .ro, 0⟩, ⟨23, 2, .res, 0⟩, ⟨1, 1, .ro, 0⟩, ⟨0, 0, .w1c, 0⟩]⟩,
  ⟨"RING_LO", 0x108, 0x40, 16, [⟨31, 5, .rw, 0⟩, ⟨4, 0, .mbz, 0⟩]⟩,
  ⟨"RING_HI", 0x10c, 0x40, 16, [⟨31, 0, .rw, 0⟩]⟩,
  ⟨"RING_CFG", 0x110, 0x40, 16, [⟨31, 4, .mbz, 0⟩, ⟨3, 0, .rw, 4⟩]⟩,
  ⟨"HEAD", 0x114, 0x40, 16, [⟨31, 12, .res, 0⟩, ⟨11, 0, .ro, 0⟩]⟩,
  ⟨"TAIL", 0x118, 0x40, 16, [⟨31, 12, .mbz, 0⟩, ⟨11, 0, .rw, 0⟩]⟩,
  ⟨"CPL_LO", 0x11c, 0x40, 16, [⟨31, 4, .rw, 0⟩, ⟨3, 0, .mbz, 0⟩]⟩,
  ⟨"CPL_HI", 0x120, 0x40, 16, [⟨31, 0, .rw, 0⟩]⟩,
  ⟨"CPL_CFG", 0x124, 0x40, 16, [⟨31, 4, .mbz, 0⟩, ⟨3, 0, .rw, 4⟩]⟩,
  ⟨"CPL_HEAD", 0x128, 0x40, 16, [⟨31, 12, .res, 0⟩, ⟨11, 0, .ro, 0⟩]⟩,
  ⟨"CPL_TAIL", 0x12c, 0x40, 16, [⟨31, 12, .mbz, 0⟩, ⟨11, 0, .rw, 0⟩]⟩,
  ⟨"RATE", 0x130, 0x40, 16, [⟨31, 16, .mbz, 0⟩, ⟨15, 0, .rwl, 0x708⟩]⟩,
  ⟨"DONE_CNT", 0x134, 0x40, 16, [⟨31, 0, .rc, 0⟩]⟩,
  ⟨"ERR_CNT", 0x138, 0x40, 16, [⟨31, 0, .rc, 0⟩]⟩,
  ⟨"LAST_ERR", 0x13c, 0x40, 16, [⟨31, 31, .w1c, 0⟩, ⟨30, 28, .ro, 0⟩, ⟨27, 24, .ro, 0⟩, ⟨23, 12, .res, 0⟩, ⟨11, 0, .ro, 0⟩]⟩,
  ⟨"LOCK", 0xffc, 0x0, 1, [⟨31, 1, .res, 0⟩, ⟨0, 0, .w1s, 0⟩]⟩]

/-- The registers of block DMA. -/
def dmaRows : List RegRow := dmaRows0

def stoRows0 : List RegRow := [
  ⟨"CTRL", 0x0, 0x0, 1, [⟨31, 31, .w1s, 0⟩, ⟨30, 1, .mbz, 0⟩, ⟨0, 0, .rw, 0⟩]⟩,
  ⟨"STAT", 0x4, 0x0, 1, [⟨31, 31, .ro, 0⟩, ⟨30, 30, .ro, 0⟩, ⟨29, 26, .res, 0⟩, ⟨25, 21, .ro, 0⟩, ⟨20, 7, .res, 0⟩, ⟨6, 6, .w1c, 0⟩, ⟨5, 5, .w1c, 0⟩, ⟨4, 4, .w1c, 0⟩, ⟨3, 3, .w1c, 0⟩, ⟨2, 2, .w1c, 0⟩, ⟨1, 1, .w1c, 0⟩, ⟨0, 0, .res, 0⟩]⟩,
  ⟨"CFG", 0x8, 0x0, 1, [⟨31, 16, .rwl, 0x64⟩, ⟨15, 2, .mbz, 0⟩, ⟨1, 0, .rwl, 3⟩]⟩,
  ⟨"RATE", 0xc, 0x0, 1, [⟨31, 16, .mbz, 0⟩, ⟨15, 0, .rwl, 0x1f40⟩]⟩,
  ⟨"GOV", 0x10, 0x0, 1, [⟨31, 24, .rwl, 0x14⟩, ⟨23, 16, .rwl, 0x1e⟩, ⟨15, 0, .rwl, 0x100⟩]⟩,
  ⟨"CREDIT_LO", 0x14, 0x0, 1, [⟨31, 0, .ro, 0⟩]⟩,
  ⟨"CREDIT_HI", 0x18, 0x0, 1, [⟨31, 0, .ro, 0⟩]⟩,
  ⟨"CAP_LO", 0x20, 0x0, 1, [⟨31, 0, .ro, 0⟩]⟩,
  ⟨"CAP_HI", 0x24, 0x0, 1, [⟨31, 0, .ro, 0⟩]⟩,
  ⟨"FREE_LO", 0x28, 0x0, 1, [⟨31, 0, .ro, 0⟩]⟩,
  ⟨"FREE_HI", 0x2c, 0x0, 1, [⟨31, 0, .ro, 0⟩]⟩,
  ⟨"NEXT_LO", 0x30, 0x0, 1, [⟨31, 0, .ro, 0⟩]⟩,
  ⟨"NEXT_HI", 0x34, 0x0, 1, [⟨31, 0, .ro, 0⟩]⟩,
  ⟨"OLDEST_LO", 0x38, 0x0, 1, [⟨31, 0, .ro, 0⟩]⟩,
  ⟨"OLDEST_HI", 0x3c, 0x0, 1, [⟨31, 0, .ro, 0⟩]⟩,
  ⟨"RELEASE_LO", 0x40, 0x0, 1, [⟨31, 0, .rw, 0⟩]⟩,
  ⟨"RELEASE_HI", 0x44, 0x0, 1, [⟨31, 0, .rw, 0⟩]⟩,
  ⟨"RD_ERR_LO", 0x48, 0x0, 1, [⟨31, 0, .ro, 0⟩]⟩,
  ⟨"RD_ERR_HI", 0x4c, 0x0, 1, [⟨31, 31, .w1c, 0⟩, ⟨30, 0, .ro, 0⟩]⟩,
  ⟨"GEOM", 0x50, 0x0, 1, [⟨31, 25, .ro, 0⟩, ⟨24, 22, .ro, 0⟩, ⟨21, 20, .ro, 0⟩, ⟨19, 0, .ro, 0⟩]⟩]

def stoRows1 : List RegRow := [
  ⟨"BAD_FACT", 0x54, 0x0, 1, [⟨31, 0, .ro, 0⟩]⟩,
  ⟨"BAD_GROWN", 0x58, 0x0, 1, [⟨31, 0, .ro, 0⟩]⟩,
  ⟨"LAST_STATUS", 0x5c, 0x0, 1, [⟨31, 2, .res, 0⟩, ⟨1, 0, .ro, 0⟩]⟩,
  ⟨"LAST_DONE_LO", 0x60, 0x0, 1, [⟨31, 0, .ro, 0⟩]⟩,
  ⟨"LAST_DONE_HI", 0x64, 0x0, 1, [⟨31, 0, .ro, 0⟩]⟩,
  ⟨"COMMIT_CNT", 0x70, 0x0, 1, [⟨31, 0, .rc, 0⟩]⟩,
  ⟨"LOST_CNT", 0x74, 0x0, 1, [⟨31, 0, .rc, 0⟩]⟩,
  ⟨"CRC_ERR_CNT", 0x78, 0x0, 1, [⟨31, 0, .rc, 0⟩]⟩,
  ⟨"ECC_CORR_CNT", 0x7c, 0x0, 1, [⟨31, 0, .rc, 0⟩]⟩,
  ⟨"TORN_CNT", 0x80, 0x0, 1, [⟨31, 0, .rc, 0⟩]⟩,
  ⟨"LOCK", 0xffc, 0x0, 1, [⟨31, 1, .res, 0⟩, ⟨0, 0, .w1s, 0⟩]⟩]

/-- The registers of block STO. -/
def stoRows : List RegRow := stoRows0 ++ stoRows1

def gafRows0 : List RegRow := [
  ⟨"CTRL", 0x0, 0x0, 1, [⟨31, 25, .mbz, 0⟩, ⟨24, 16, .rwl, 0⟩, ⟨15, 12, .mbz, 0⟩, ⟨11, 8, .rwl, 8⟩, ⟨7, 3, .mbz, 0⟩, ⟨2, 2, .rwl, 0⟩, ⟨1, 1, .rwl, 0⟩, ⟨0, 0, .rwl, 0⟩]⟩,
  ⟨"STATUS", 0x4, 0x0, 1, [⟨31, 29, .ro, 0⟩, ⟨28, 26, .ro, 0⟩, ⟨25, 25, .ro, 0⟩, ⟨24, 24, .ro, 0⟩, ⟨23, 23, .ro, 0⟩, ⟨22, 22, .ro, 0⟩, ⟨21, 21, .w1c, 0⟩, ⟨20, 18, .ro, 0⟩, ⟨17, 14, .ro, 0⟩, ⟨13, 11, .ro, 0⟩, ⟨10, 10, .ro, 0⟩, ⟨9, 9, .w1c, 0⟩, ⟨8, 0, .ro, 0⟩]⟩,
  ⟨"STALL_BOUND", 0x8, 0x0, 1, [⟨31, 16, .res, 0⟩, ⟨15, 0, .rw, 0xc8⟩]⟩,
  ⟨"SWITCH", 0xc, 0x0, 1, [⟨31, 31, .rw, 0⟩, ⟨30, 30, .rw, 0⟩, ⟨29, 0, .mbz, 0⟩]⟩,
  ⟨"SWITCH_LINE_LO", 0x10, 0x0, 1, [⟨31, 0, .rw, 0⟩]⟩,
  ⟨"SWITCH_LINE_HI", 0x14, 0x0, 1, [⟨31, 16, .mbz, 0⟩, ⟨15, 0, .rw, 0⟩]⟩,
  ⟨"LINE_LO", 0x18, 0x0, 1, [⟨31, 0, .ro, 0⟩]⟩,
  ⟨"LINE_HI", 0x1c, 0x0, 1, [⟨31, 24, .ro, 0⟩, ⟨23, 16, .res, 0⟩, ⟨15, 0, .ro, 0⟩]⟩,
  ⟨"PROG_ERR", 0x28, 0x0, 1, [⟨31, 31, .w1c, 0⟩, ⟨30, 28, .ro, 0⟩, ⟨27, 9, .res, 0⟩, ⟨8, 0, .ro, 0⟩]⟩,
  ⟨"CYCLE_CNT_LO", 0x20, 0x0, 1, [⟨31, 0, .ro, 0⟩]⟩,
  ⟨"CYCLE_CNT_HI", 0x24, 0x0, 1, [⟨31, 0, .ro, 0⟩]⟩,
  ⟨"SKIP_CNT", 0x2c, 0x0, 1, [⟨31, 0, .rc, 0⟩]⟩,
  ⟨"MERGE_CNT", 0x30, 0x0, 1, [⟨31, 0, .rc, 0⟩]⟩,
  ⟨"LOCAL_SKIP_CNT", 0x34, 0x0, 1, [⟨31, 0, .rc, 0⟩]⟩,
  ⟨"TRIG_DISC_CNT", 0x38, 0x0, 1, [⟨31, 0, .rc, 0⟩]⟩,
  ⟨"EVT_LOST_CNT", 0x3c, 0x0, 1, [⟨31, 0, .rc, 0⟩]⟩,
  ⟨"LOG_PTR", 0x40, 0x0, 1, [⟨31, 31, .ro, 0⟩, ⟨30, 30, .ro, 0⟩, ⟨29, 24, .res, 0⟩, ⟨23, 16, .ro, 0⟩, ⟨15, 8, .res, 0⟩, ⟨7, 0, .ro, 0⟩]⟩,
  ⟨"EVT_PEND_LO", 0x44, 0x0, 1, [⟨31, 0, .ro, 0⟩]⟩,
  ⟨"EVT_PEND_HI", 0x48, 0x0, 1, [⟨31, 0, .ro, 0⟩]⟩,
  ⟨"EVT_SEL", 0x50, 0x4, 8, [⟨31, 31, .rwl, 0⟩, ⟨30, 10, .mbz, 0⟩, ⟨9, 0, .rwl, 0⟩]⟩]

def gafRows1 : List RegRow := [
  ⟨"INJ_LO", 0x80, 0x8, 8, [⟨31, 6, .rw, 0⟩, ⟨5, 0, .mbz, 0⟩]⟩,
  ⟨"INJ_HI", 0x84, 0x8, 8, [⟨31, 31, .rw, 0⟩, ⟨30, 13, .mbz, 0⟩, ⟨12, 8, .rw, 0⟩, ⟨7, 0, .rw, 0⟩]⟩,
  ⟨"COM_LO", 0xc0, 0x10, 4, [⟨31, 6, .rw, 0⟩, ⟨5, 0, .mbz, 0⟩]⟩,
  ⟨"COM_HI", 0xc4, 0x10, 4, [⟨7, 0, .rw, 0⟩, ⟨31, 31, .rw, 0⟩, ⟨30, 26, .rw, 0⟩, ⟨25, 14, .mbz, 0⟩, ⟨13, 8, .rw, 0⟩]⟩,
  ⟨"COM_SEQ", 0xc8, 0x10, 4, [⟨31, 0, .ro, 0⟩]⟩,
  ⟨"LOCK", 0x7fc, 0x0, 1, [⟨31, 1, .res, 0⟩, ⟨0, 0, .w1s, 0⟩]⟩,
  ⟨"PROG", 0x800, 0x4, 512, [⟨31, 0, .ro, 0x38000000⟩]⟩,
  ⟨"SKIP_LOG", 0x1000, 0x4, 512, [⟨31, 0, .ro, 0⟩]⟩,
  ⟨"TRACE", 0x2000, 0x4, 1024, [⟨31, 0, .ro, 0⟩]⟩]

/-- The registers of block GAF. -/
def gafRows : List RegRow := gafRows0 ++ gafRows1

def mpuRows0 : List RegRow := [
  ⟨"CL_MODE", 0x0, 0x0, 1, [⟨31, 0, .rwl, 0⟩]⟩,
  ⟨"FOLD_EXP_A_LO", 0x10, 0x0, 1, [⟨31, 0, .ro, 0⟩]⟩,
  ⟨"FOLD_EXP_A_HI", 0x14, 0x0, 1, [⟨31, 0, .ro, 0⟩]⟩,
  ⟨"FOLD_EXP_B_LO", 0x18, 0x0, 1, [⟨31, 0, .ro, 0⟩]⟩,
  ⟨"FOLD_EXP_B_HI", 0x1c, 0x0, 1, [⟨31, 0, .ro, 0⟩]⟩,
  ⟨"FOLD_LAST_LO", 0x20, 0x0, 1, [⟨31, 0, .ro, 0⟩]⟩,
  ⟨"FOLD_LAST_HI", 0x24, 0x0, 1, [⟨31, 0, .ro, 0⟩]⟩,
  ⟨"PHYS", 0x28, 0x0, 1, [⟨31, 8, .res, 0⟩, ⟨7, 0, .ro, 0⟩]⟩,
  ⟨"LOCK", 0xffc, 0x0, 1, [⟨31, 1, .res, 0⟩, ⟨0, 0, .w1s, 0⟩]⟩,
  ⟨"LANE_MASK", 0x40, 0x4, 8, [⟨31, 24, .rwl, 0⟩, ⟨23, 16, .rwl, 0⟩, ⟨15, 8, .rwl, 0⟩, ⟨7, 0, .rwl, 0⟩]⟩,
  ⟨"DBG_CTRL", 0x60, 0x0, 1, [⟨31, 4, .mbz, 0⟩, ⟨3, 3, .rw, 0⟩, ⟨2, 2, .rw, 0⟩, ⟨1, 1, .rw, 0⟩, ⟨0, 0, .rw, 1⟩]⟩,
  ⟨"BRK_STAT", 0x64, 0x0, 1, [⟨31, 31, .w1c, 0⟩, ⟨30, 28, .ro, 0⟩, ⟨27, 24, .res, 0⟩, ⟨23, 14, .ro, 0⟩, ⟨13, 0, .ro, 0⟩]⟩,
  ⟨"CAP_STAT", 0x6c, 0x0, 1, [⟨31, 31, .ro, 0⟩, ⟨30, 30, .ro, 0⟩, ⟨29, 13, .res, 0⟩, ⟨12, 0, .ro, 0⟩]⟩,
  ⟨"STEP_ERR", 0x74, 0x0, 1, [⟨31, 31, .w1c, 0⟩, ⟨30, 28, .ro, 0⟩, ⟨27, 24, .res, 0⟩, ⟨23, 14, .ro, 0⟩, ⟨13, 0, .ro, 0⟩]⟩,
  ⟨"BRK_CNT", 0x68, 0x0, 1, [⟨31, 0, .rc, 0⟩]⟩,
  ⟨"CAP_DROP", 0x70, 0x0, 1, [⟨31, 0, .rc, 0⟩]⟩,
  ⟨"STEP_ERR_CNT", 0x78, 0x0, 1, [⟨31, 0, .rc, 0⟩]⟩,
  ⟨"TRK_CFG", 0x80, 0x0, 1, [⟨31, 16, .mbz, 0⟩, ⟨15, 12, .rwl, 3⟩, ⟨11, 8, .rwl, 2⟩, ⟨7, 4, .rwl, 1⟩, ⟨3, 0, .rwl, 0⟩]⟩,
  ⟨"GOB_CFG", 0x84, 0x0, 1, [⟨31, 8, .mbz, 0⟩, ⟨7, 7, .rwl, 0⟩, ⟨6, 6, .rwl, 0⟩, ⟨5, 5, .rwl, 0⟩, ⟨4, 4, .rwl, 0⟩, ⟨3, 3, .rwl, 0⟩, ⟨2, 0, .mbz, 0⟩]⟩,
  ⟨"GOB_STAT", 0x88, 0x0, 1, [⟨31, 31, .ro, 0⟩, ⟨30, 30, .ro, 0⟩, ⟨29, 4, .res, 0⟩, ⟨3, 3, .w1c, 0⟩, ⟨2, 2, .w1c, 0⟩, ⟨1, 1, .w1c, 0⟩, ⟨0, 0, .w1c, 0⟩]⟩]

def mpuRows1 : List RegRow := [
  ⟨"RT_ERR", 0x98, 0x0, 1, [⟨31, 31, .w1c, 0⟩, ⟨30, 30, .ro, 0⟩, ⟨29, 14, .res, 0⟩, ⟨13, 0, .ro, 0⟩]⟩,
  ⟨"FAR_MAP", 0xa0, 0x4, 8, [⟨31, 31, .rwl, 0⟩, ⟨30, 25, .rwl, 0⟩, ⟨24, 18, .rwl, 0⟩, ⟨17, 15, .rwl, 0⟩, ⟨14, 0, .mbz, 0⟩]⟩,
  ⟨"XCHG_NUM", 0xc0, 0x0, 1, [⟨31, 16, .res, 0⟩, ⟨15, 0, .ro, 0⟩]⟩,
  ⟨"GOB_NOSWAP_CNT", 0x8c, 0x0, 1, [⟨31, 0, .rc, 0⟩]⟩,
  ⟨"GOB_DROP_CNT", 0x90, 0x0, 1, [⟨31, 0, .rc, 0⟩]⟩,
  ⟨"FAR_MISS_CNT", 0x94, 0x0, 1, [⟨31, 0, .rc, 0⟩]⟩,
  ⟨"RT_ERR_CNT", 0x9c, 0x0, 1, [⟨31, 0, .rc, 0⟩]⟩,
  ⟨"MP_CFG", 0x1000, 0x0, 1, [⟨31, 2, .mbz, 0⟩, ⟨1, 0, .rwl, 1⟩]⟩,
  ⟨"MP_STAT", 0x1004, 0x0, 1, [⟨31, 26, .ro, 0⟩, ⟨25, 5, .res, 0⟩, ⟨4, 4, .w1c, 0⟩, ⟨3, 3, .w1c, 0⟩, ⟨2, 2, .w1c, 0⟩, ⟨1, 1, .w1c, 0⟩, ⟨0, 0, .w1c, 0⟩]⟩,
  ⟨"POISON_LAST", 0x1008, 0x0, 1, [⟨31, 0, .ro, 0⟩]⟩,
  ⟨"POISON_CNT", 0x100c, 0x0, 1, [⟨31, 0, .rc, 0⟩]⟩,
  ⟨"STALL_CNT", 0x1010, 0x0, 1, [⟨31, 0, .rc, 0⟩]⟩,
  ⟨"TAG_SHORT_CNT", 0x1014, 0x0, 1, [⟨31, 0, .rc, 0⟩]⟩,
  ⟨"ADDR_ERR_CNT", 0x1018, 0x0, 1, [⟨31, 0, .rc, 0⟩]⟩,
  ⟨"LATE_DISC_CNT", 0x101c, 0x0, 1, [⟨31, 0, .rc, 0⟩]⟩,
  ⟨"WR_LATE_CNT", 0x1020, 0x0, 1, [⟨31, 0, .rc, 0⟩]⟩]

/-- The registers of block MPU. -/
def mpuRows : List RegRow := mpuRows0 ++ mpuRows1

def secRows0 : List RegRow := [
  ⟨"CTRL", 0x0, 0x0, 1, [⟨31, 24, .mbz, 0⟩, ⟨23, 23, .w1s, 0⟩, ⟨22, 22, .w1s, 0⟩, ⟨21, 17, .mbz, 0⟩, ⟨16, 16, .rwl, 0⟩, ⟨15, 5, .mbz, 0⟩, ⟨4, 4, .rwl, 0⟩, ⟨3, 0, .rwl, 0⟩]⟩,
  ⟨"STATUS", 0x4, 0x0, 1, [⟨31, 31, .ro, 0⟩, ⟨30, 30, .ro, 0⟩, ⟨29, 29, .w1c, 0⟩, ⟨28, 28, .ro, 0⟩, ⟨27, 27, .w1c, 0⟩, ⟨26, 26, .w1c, 0⟩, ⟨25, 24, .ro, 3⟩, ⟨23, 23, .ro, 0⟩, ⟨22, 0, .res, 0⟩]⟩,
  ⟨"PHYS_MAP", 0x8, 0x0, 1, [⟨31, 11, .res, 0⟩, ⟨10, 8, .rw, 0⟩, ⟨7, 5, .res, 0⟩, ⟨4, 4, .ro, 0⟩, ⟨3, 3, .res, 0⟩, ⟨2, 0, .ro, 0⟩]⟩,
  ⟨"WIN_LEN", 0xc, 0x0, 1, [⟨31, 26, .mbz, 0⟩, ⟨25, 16, .rwl, 0x7f⟩, ⟨15, 10, .mbz, 0⟩, ⟨9, 0, .rwl, 0x7f⟩]⟩,
  ⟨"ASSIST", 0x10, 0x0, 1, [⟨31, 16, .res, 0⟩, ⟨15, 12, .ro, 3⟩, ⟨11, 8, .ro, 0⟩, ⟨7, 4, .ro, 2⟩, ⟨3, 0, .ro, 0⟩]⟩,
  ⟨"FOLD_STAT", 0x14, 0x0, 1, [⟨31, 24, .res, 0⟩, ⟨23, 23, .w1c, 0⟩, ⟨22, 20, .ro, 0⟩, ⟨19, 19, .ro, 0⟩, ⟨18, 18, .ro, 0⟩, ⟨17, 0, .res, 0⟩]⟩,
  ⟨"FOLD_CNT", 0x18, 0x0, 1, [⟨31, 0, .rc, 0⟩]⟩,
  ⟨"LOCK", 0x1c, 0x0, 1, [⟨31, 1, .res, 0⟩, ⟨0, 0, .w1s, 0⟩]⟩]

/-- The registers of block SEC. -/
def secRows : List RegRow := secRows0

def ircRows0 : List RegRow := [
  ⟨"CTRL", 0x0, 0x0, 1, [⟨31, 2, .mbz, 0⟩, ⟨1, 1, .w1s, 0⟩, ⟨0, 0, .rwl, 0⟩]⟩,
  ⟨"STATUS", 0x4, 0x0, 1, [⟨31, 29, .ro, 0⟩, ⟨28, 28, .ro, 0⟩, ⟨27, 27, .ro, 0⟩, ⟨26, 21, .ro, 0⟩, ⟨20, 4, .res, 0⟩, ⟨3, 3, .w1c, 0⟩, ⟨2, 2, .w1c, 0⟩, ⟨1, 1, .w1c, 0⟩, ⟨0, 0, .w1c, 0⟩]⟩,
  ⟨"PEER_SERIAL_LO", 0x8, 0x0, 1, [⟨31, 0, .ro, 0⟩]⟩,
  ⟨"PEER_SERIAL_HI", 0xc, 0x0, 1, [⟨31, 0, .ro, 0⟩]⟩,
  ⟨"HOP_DELAY", 0x10, 0x0, 1, [⟨31, 31, .ro, 0⟩, ⟨30, 24, .res, 0⟩, ⟨23, 0, .ro, 0⟩]⟩,
  ⟨"DLY_ASYM", 0x14, 0x0, 1, [⟨31, 16, .mbz, 0⟩, ⟨15, 0, .rwl, 0⟩]⟩,
  ⟨"QUAR_CFG", 0x18, 0x0, 1, [⟨31, 24, .mbz, 0⟩, ⟨23, 8, .rwl, 0x64⟩, ⟨7, 0, .rwl, 0x10⟩]⟩,
  ⟨"VIOL_CNT", 0x20, 0x0, 1, [⟨31, 0, .rc, 0⟩]⟩,
  ⟨"NACK_RX_CNT", 0x24, 0x0, 1, [⟨31, 0, .rc, 0⟩]⟩,
  ⟨"STALE_CNT", 0x28, 0x0, 1, [⟨31, 0, .rc, 0⟩]⟩,
  ⟨"QUAR_CNT", 0x2c, 0x0, 1, [⟨31, 0, .rc, 0⟩]⟩,
  ⟨"LOCK", 0xffc, 0x0, 1, [⟨31, 1, .res, 0⟩, ⟨0, 0, .w1s, 0⟩]⟩]

/-- The registers of block IRC. -/
def ircRows : List RegRow := ircRows0

def gthRows0 : List RegRow := [
  ⟨"CTRL", 0x0, 0x0, 1, [⟨31, 31, .w1s, 0⟩, ⟨30, 12, .mbz, 0⟩, ⟨11, 10, .rwl, 0⟩, ⟨9, 8, .rwl, 2⟩, ⟨7, 6, .rwl, 2⟩, ⟨5, 5, .rwl, 1⟩, ⟨4, 4, .rwl, 1⟩, ⟨3, 1, .mbz, 0⟩, ⟨0, 0, .rwl, 0⟩]⟩,
  ⟨"LANE_EN", 0x4, 0x0, 1, [⟨31, 24, .mbz, 0⟩, ⟨23, 0, .rwl, 0⟩]⟩,
  ⟨"RATE", 0x8, 0x0, 1, [⟨31, 8, .mbz, 0⟩, ⟨7, 0, .rwl, 0xc8⟩]⟩,
  ⟨"TRAIN_CFG", 0xc, 0x0, 1, [⟨31, 28, .mbz, 0⟩, ⟨27, 16, .rwl, 0x9a5⟩, ⟨15, 6, .mbz, 0⟩, ⟨5, 0, .rwl, 0x10⟩]⟩,
  ⟨"STATUS", 0x10, 0x0, 1, [⟨31, 31, .ro, 0⟩, ⟨30, 30, .ro, 0⟩, ⟨29, 3, .res, 0⟩, ⟨2, 2, .w1c, 0⟩, ⟨1, 1, .w1c, 0⟩, ⟨0, 0, .w1c, 0⟩]⟩,
  ⟨"LANE_LOCK", 0x14, 0x0, 1, [⟨31, 24, .res, 0⟩, ⟨23, 0, .ro, 0⟩]⟩,
  ⟨"DISCARD_CNT", 0x18, 0x0, 1, [⟨31, 0, .rc, 0⟩]⟩,
  ⟨"ALIGN_LOST_CNT", 0x1c, 0x0, 1, [⟨31, 0, .rc, 0⟩]⟩,
  ⟨"LANE_EYE", 0x40, 0x4, 24, [⟨31, 22, .res, 0⟩, ⟨21, 16, .ro, 0⟩, ⟨15, 14, .res, 0⟩, ⟨13, 8, .ro, 0⟩, ⟨7, 4, .res, 0⟩, ⟨3, 0, .ro, 0⟩]⟩,
  ⟨"PBS_CTRL", 0x100, 0x20, 2, [⟨31, 16, .rwl, 0x3e8⟩, ⟨15, 1, .mbz, 0⟩, ⟨0, 0, .rwl, 0⟩]⟩,
  ⟨"PBS_STAT", 0x104, 0x20, 2, [⟨31, 28, .ro, 0⟩, ⟨27, 3, .res, 0⟩, ⟨2, 2, .w1c, 0⟩, ⟨1, 1, .w1c, 0⟩, ⟨0, 0, .w1c, 0⟩]⟩,
  ⟨"SYNC_ERR_CNT", 0x108, 0x20, 2, [⟨31, 0, .rc, 0⟩]⟩,
  ⟨"TAG_ERR_CNT", 0x10c, 0x20, 2, [⟨31, 0, .rc, 0⟩]⟩,
  ⟨"FORMAT_CNT", 0x110, 0x20, 2, [⟨31, 0, .rc, 0⟩]⟩,
  ⟨"LOCK", 0xffc, 0x0, 1, [⟨31, 1, .res, 0⟩, ⟨0, 0, .w1s, 0⟩]⟩]

/-- The registers of block GTH. -/
def gthRows : List RegRow := gthRows0

def mrvRows0 : List RegRow := [
  ⟨"CTRL", 0x0, 0x0, 1, [⟨31, 22, .mbz, 0⟩, ⟨21, 20, .rwl, 0⟩, ⟨19, 19, .mbz, 0⟩, ⟨18, 16, .rwl, 0⟩, ⟨15, 12, .rwl, 0⟩, ⟨11, 5, .mbz, 0⟩, ⟨4, 4, .rwl, 0⟩, ⟨3, 3, .rwl, 0⟩, ⟨2, 2, .rwl, 0⟩, ⟨1, 1, .rwl, 0⟩, ⟨0, 0, .rw, 0⟩]⟩,
  ⟨"STATUS", 0x4, 0x0, 1, [⟨31, 31, .ro, 0⟩, ⟨30, 30, .ro, 0⟩, ⟨29, 8, .res, 0⟩, ⟨7, 7, .w1c, 0⟩, ⟨6, 6, .w1c, 0⟩, ⟨5, 5, .w1c, 0⟩, ⟨4, 4, .w1c, 0⟩, ⟨3, 3, .w1c, 0⟩, ⟨2, 2, .w1c, 0⟩, ⟨1, 1, .w1c, 0⟩, ⟨0, 0, .w1c, 0⟩]⟩,
  ⟨"SPAN", 0x8, 0x0, 1, [⟨31, 29, .mbz, 0⟩, ⟨28, 16, .rwl, 0x1000⟩, ⟨15, 13, .mbz, 0⟩, ⟨12, 0, .rwl, 0⟩]⟩,
  ⟨"RINGOUT", 0xc, 0x0, 1, [⟨31, 18, .mbz, 0⟩, ⟨17, 16, .rwl, 1⟩, ⟨15, 0, .rwl, 0⟩]⟩,
  ⟨"CORR", 0x10, 0x0, 1, [⟨31, 1, .mbz, 0⟩, ⟨0, 0, .rw, 0⟩]⟩,
  ⟨"CONV_CFG", 0x14, 0x0, 1, [⟨31, 21, .mbz, 0⟩, ⟨20, 16, .rw, 0⟩, ⟨15, 12, .mbz, 0⟩, ⟨11, 10, .rwl, 0⟩, ⟨9, 3, .mbz, 0⟩, ⟨2, 0, .rw, 0⟩]⟩,
  ⟨"CONV_BIAS", 0x18, 0x0, 1, [⟨31, 0, .rw, 0⟩]⟩,
  ⟨"CONV_SW", 0x1c, 0x0, 1, [⟨31, 31, .rw, 0⟩, ⟨30, 3, .mbz, 0⟩, ⟨2, 0, .rw, 0⟩]⟩,
  ⟨"CONV_SW_LINE_LO", 0x20, 0x0, 1, [⟨31, 0, .rw, 0⟩]⟩,
  ⟨"CONV_SW_LINE_HI", 0x24, 0x0, 1, [⟨31, 16, .mbz, 0⟩, ⟨15, 0, .rw, 0⟩]⟩,
  ⟨"THRESH", 0x28, 0x0, 1, [⟨31, 16, .rw, 0x7fff⟩, ⟨15, 0, .rw, 0x8000⟩]⟩,
  ⟨"THR_CFG", 0x2c, 0x0, 1, [⟨31, 2, .mbz, 0⟩, ⟨1, 1, .rw, 0⟩, ⟨0, 0, .rw, 0⟩]⟩,
  ⟨"EXTRACT", 0x30, 0x0, 1, [⟨31, 24, .mbz, 0⟩, ⟨23, 16, .rwl, 0x40⟩, ⟨15, 0, .rw, 1⟩]⟩,
  ⟨"PACK", 0x34, 0x0, 1, [⟨31, 28, .rwl, 0⟩, ⟨27, 26, .mbz, 0⟩, ⟨25, 20, .rwl, 0x20⟩, ⟨19, 16, .rwl, 2⟩, ⟨15, 14, .mbz, 0⟩, ⟨13, 8, .rwl, 0⟩, ⟨7, 5, .mbz, 0⟩, ⟨4, 0, .rwl, 0⟩]⟩,
  ⟨"PATCH_BASE_LO", 0x40, 0x0, 1, [⟨31, 13, .rwl, 0⟩, ⟨12, 0, .mbz, 0⟩]⟩,
  ⟨"PATCH_BASE_HI", 0x44, 0x0, 1, [⟨31, 3, .mbz, 0⟩, ⟨2, 0, .rwl, 0⟩]⟩,
  ⟨"PATCH_HDR_HI", 0x4c, 0x0, 1, [⟨31, 3, .mbz, 0⟩, ⟨2, 0, .rwl, 0⟩]⟩,
  ⟨"CREC_BASE_HI", 0x5c, 0x0, 1, [⟨31, 3, .mbz, 0⟩, ⟨2, 0, .rwl, 0⟩]⟩,
  ⟨"PATCH_HDR_LO", 0x48, 0x0, 1, [⟨31, 6, .rwl, 0⟩, ⟨5, 0, .mbz, 0⟩]⟩,
  ⟨"CREC_BASE_LO", 0x58, 0x0, 1, [⟨31, 6, .rwl, 0⟩, ⟨5, 0, .mbz, 0⟩]⟩]

def mrvRows1 : List RegRow := [
  ⟨"PATCH_CFG", 0x50, 0x0, 1, [⟨31, 5, .mbz, 0⟩, ⟨4, 0, .rwl, 4⟩]⟩,
  ⟨"CREC_CFG", 0x60, 0x0, 1, [⟨31, 5, .mbz, 0⟩, ⟨4, 0, .rwl, 8⟩]⟩,
  ⟨"CREC_SEQ", 0x64, 0x0, 1, [⟨31, 0, .ro, 0⟩]⟩,
  ⟨"CAND_CNT", 0x80, 0x0, 1, [⟨31, 0, .rc, 0⟩]⟩,
  ⟨"CAND_DROP_CNT", 0x84, 0x0, 1, [⟨31, 0, .rc, 0⟩]⟩,
  ⟨"PATCH_DROP_CNT", 0x88, 0x0, 1, [⟨31, 0, .rc, 0⟩]⟩,
  ⟨"BATCH_CNT", 0x8c, 0x0, 1, [⟨31, 0, .rc, 0⟩]⟩,
  ⟨"BATCH_DROP_CNT", 0x90, 0x0, 1, [⟨31, 0, .rc, 0⟩]⟩,
  ⟨"FIFO_OVF_CNT", 0x94, 0x0, 1, [⟨31, 0, .rc, 0⟩]⟩,
  ⟨"TAINT_CNT", 0x98, 0x0, 1, [⟨31, 0, .rc, 0⟩]⟩,
  ⟨"SMALL_CNT", 0x9c, 0x0, 1, [⟨31, 0, .rc, 0⟩]⟩,
  ⟨"LOCK", 0xffc, 0x0, 1, [⟨31, 1, .res, 0⟩, ⟨0, 0, .w1s, 0⟩]⟩,
  ⟨"COEF_LAST", 0x1060, 0x80, 8, [⟨31, 16, .res, 0⟩, ⟨15, 0, .rw, 0⟩]⟩,
  ⟨"COLUMN", 0x8000, 0x4, 4096, [⟨31, 0, .rw, 0x40000000⟩]⟩]

/-- The registers of block MRV. -/
def mrvRows : List RegRow := mrvRows0 ++ mrvRows1 ++ coefRows

def hbmRows0 : List RegRow := [
  ⟨"CTRL", 0x0, 0x0, 1, [⟨31, 16, .mbz, 0⟩, ⟨15, 8, .rwl, 0x5f⟩, ⟨7, 3, .mbz, 0⟩, ⟨2, 2, .rwl, 1⟩, ⟨1, 1, .rwl, 0⟩, ⟨0, 0, .mbz, 0⟩]⟩,
  ⟨"STATUS", 0x4, 0x0, 1, [⟨31, 31, .ro, 0⟩, ⟨30, 30, .ro, 0⟩, ⟨29, 29, .ro, 0⟩, ⟨28, 28, .w1c, 0⟩, ⟨27, 27, .w1c, 0⟩, ⟨26, 0, .res, 0⟩]⟩,
  ⟨"TEMP", 0x8, 0x0, 1, [⟨31, 8, .res, 0⟩, ⟨7, 0, .ro, 0⟩]⟩,
  ⟨"RES", 0xc, 0x0, 1, [⟨31, 6, .mbz, 0⟩, ⟨5, 0, .rwl, 2⟩]⟩,
  ⟨"CE_CNT", 0x10, 0x0, 1, [⟨31, 0, .rc, 0⟩]⟩,
  ⟨"UE_CNT", 0x14, 0x0, 1, [⟨31, 0, .rc, 0⟩]⟩,
  ⟨"UE_ADDR_LO", 0x18, 0x0, 1, [⟨31, 6, .ro, 0⟩, ⟨5, 0, .res, 0⟩]⟩,
  ⟨"UE_ADDR_HI", 0x1c, 0x0, 1, [⟨31, 31, .w1c, 0⟩, ⟨30, 3, .res, 0⟩, ⟨2, 0, .ro, 0⟩]⟩,
  ⟨"RING_BASE_LO", 0x200, 0x20, 4, [⟨31, 20, .rwl, 0⟩, ⟨19, 0, .mbz, 0⟩]⟩,
  ⟨"RING_BASE_HI", 0x204, 0x20, 4, [⟨31, 31, .rwl, 0⟩, ⟨30, 3, .mbz, 0⟩, ⟨2, 0, .rwl, 0⟩]⟩,
  ⟨"RING_HDR_LO", 0x208, 0x20, 4, [⟨31, 6, .rwl, 0⟩, ⟨5, 0, .mbz, 0⟩]⟩,
  ⟨"RING_HDR_HI", 0x20c, 0x20, 4, [⟨31, 3, .mbz, 0⟩, ⟨2, 0, .rwl, 0⟩]⟩,
  ⟨"RING_CFG", 0x210, 0x20, 4, [⟨31, 29, .mbz, 0⟩, ⟨28, 24, .rwl, 0xa⟩, ⟨23, 16, .mbz, 0⟩, ⟨15, 0, .rwl, 1⟩]⟩,
  ⟨"RING_LAST_LO", 0x214, 0x20, 4, [⟨31, 0, .ro, 0⟩]⟩,
  ⟨"RING_LAST_HI", 0x218, 0x20, 4, [⟨31, 16, .res, 0⟩, ⟨15, 0, .ro, 0⟩]⟩,
  ⟨"LOCK", 0xffc, 0x0, 1, [⟨31, 1, .res, 0⟩, ⟨0, 0, .w1s, 0⟩]⟩]

/-- The registers of block HBM. -/
def hbmRows : List RegRow := hbmRows0

def pciRows0 : List RegRow := [
  ⟨"STAT", 0x0, 0x0, 1, [⟨31, 31, .ro, 0⟩, ⟨30, 30, .ro, 0⟩, ⟨29, 27, .ro, 0⟩, ⟨26, 22, .ro, 0⟩, ⟨21, 1, .res, 0⟩, ⟨0, 0, .w1c, 0⟩]⟩,
  ⟨"MBX_STAT", 0x4, 0x0, 1, [⟨31, 31, .ro, 0⟩, ⟨30, 1, .res, 0⟩, ⟨0, 0, .w1c, 0⟩]⟩,
  ⟨"MBX_TAIL", 0x8, 0x0, 1, [⟨31, 7, .mbz, 0⟩, ⟨6, 0, .rw, 0⟩]⟩,
  ⟨"MBX_HEAD", 0xc, 0x0, 1, [⟨31, 7, .res, 0⟩, ⟨6, 0, .ro, 0⟩]⟩,
  ⟨"MBX_CPL_HEAD", 0x10, 0x0, 1, [⟨31, 7, .res, 0⟩, ⟨6, 0, .ro, 0⟩]⟩,
  ⟨"MBX_CPL_TAIL", 0x14, 0x0, 1, [⟨31, 7, .mbz, 0⟩, ⟨6, 0, .rw, 0⟩]⟩,
  ⟨"COR_CNT", 0x18, 0x0, 1, [⟨31, 0, .rc, 0⟩]⟩,
  ⟨"UNCOR_CNT", 0x1c, 0x0, 1, [⟨31, 0, .rc, 0⟩]⟩,
  ⟨"DROP_CNT", 0x20, 0x0, 1, [⟨31, 0, .rc, 0⟩]⟩,
  ⟨"MBX_ERR_CNT", 0x24, 0x0, 1, [⟨31, 0, .rc, 0⟩]⟩,
  ⟨"MBX_QUEUE", 0x1000, 0x4, 512, [⟨31, 0, .rw, 0⟩]⟩,
  ⟨"MBX_RING", 0x1800, 0x4, 256, [⟨31, 0, .ro, 0⟩]⟩]

/-- The registers of block PCI. -/
def pciRows : List RegRow := pciRows0

def ethRows0 : List RegRow := [
  ⟨"CTRL", 0x0, 0x0, 1, [⟨31, 5, .mbz, 0⟩, ⟨4, 4, .rw, 0⟩, ⟨3, 2, .rwl, 2⟩, ⟨1, 1, .rwl, 0⟩, ⟨0, 0, .rw, 0⟩]⟩,
  ⟨"STAT", 0x4, 0x0, 1, [⟨31, 31, .ro, 0⟩, ⟨30, 1, .res, 0⟩, ⟨0, 0, .w1c, 0⟩]⟩,
  ⟨"RX_BASE_LO", 0x8, 0x0, 1, [⟨31, 6, .rw, 0⟩, ⟨5, 0, .mbz, 0⟩]⟩,
  ⟨"RX_BASE_HI", 0xc, 0x0, 1, [⟨31, 0, .rw, 0⟩]⟩,
  ⟨"RX_CFG", 0x10, 0x0, 1, [⟨31, 4, .mbz, 0⟩, ⟨3, 0, .rw, 4⟩]⟩,
  ⟨"RX_HEAD", 0x14, 0x0, 1, [⟨31, 16, .res, 0⟩, ⟨15, 0, .ro, 0⟩]⟩,
  ⟨"RX_TAIL", 0x18, 0x0, 1, [⟨31, 16, .mbz, 0⟩, ⟨15, 0, .rw, 0⟩]⟩,
  ⟨"PTP_OFS_SEC_LO", 0x20, 0x0, 1, [⟨31, 0, .rw, 0⟩]⟩,
  ⟨"PTP_OFS_SEC_HI", 0x24, 0x0, 1, [⟨31, 16, .mbz, 0⟩, ⟨15, 0, .rw, 0⟩]⟩,
  ⟨"PTP_OFS_NS", 0x28, 0x0, 1, [⟨31, 0, .rw, 0⟩]⟩,
  ⟨"LAT", 0x2c, 0x0, 1, [⟨31, 16, .rw, 0x280⟩, ⟨15, 0, .rw, 0x352⟩]⟩,
  ⟨"TS_LO", 0x30, 0x0, 1, [⟨31, 0, .ro, 0⟩]⟩,
  ⟨"TS_MID", 0x34, 0x0, 1, [⟨31, 0, .ro, 0⟩]⟩,
  ⟨"TS_HI", 0x38, 0x0, 1, [⟨31, 0, .ro, 0⟩]⟩,
  ⟨"TS_ID", 0x3c, 0x0, 1, [⟨31, 0, .ro, 0⟩]⟩,
  ⟨"TX_OK_CNT", 0x40, 0x0, 1, [⟨31, 0, .rc, 0⟩]⟩,
  ⟨"RX_OK_CNT", 0x44, 0x0, 1, [⟨31, 0, .rc, 0⟩]⟩,
  ⟨"RX_FCS_CNT", 0x48, 0x0, 1, [⟨31, 0, .rc, 0⟩]⟩,
  ⟨"RX_DROP_CNT", 0x4c, 0x0, 1, [⟨31, 0, .rc, 0⟩]⟩,
  ⟨"TS_OVF_CNT", 0x50, 0x0, 1, [⟨31, 0, .rc, 0⟩]⟩]

def ethRows1 : List RegRow := [
  ⟨"LOCK", 0xffc, 0x0, 1, [⟨31, 1, .res, 0⟩, ⟨0, 0, .w1s, 0⟩]⟩]

/-- The registers of block ETH. -/
def ethRows : List RegRow := ethRows0 ++ ethRows1


/-- The registers of a block. -/
def Block.rows : Block → List RegRow
  | .sys => sysRows | .pwr => pwrRows | .clk => clkRows | .flt => fltRows | .evt => evtRows | .lcs => lcsRows
  | .cfg => cfgRows | .bst => bstRows | .tb => tbRows | .noc => nocRows | .dma => dmaRows | .sto => stoRows
  | .gaf => gafRows | .mpu => mpuRows | .sec => secRows | .irc => ircRows | .gth => gthRows | .mrv => mrvRows
  | .hbm => hbmRows | .pci => pciRows | .eth => ethRows

/-- Where each block lies (R24): first base, instances; blocks are 64 KiB and instances follow one another. -/
def blockMap : List (Block × Nat × Nat) := [
  (.sys, 0x0, 1), (.pwr, 0x10000, 1), (.clk, 0x20000, 1), (.flt, 0x30000, 1), (.evt, 0x40000, 1), (.lcs, 0x50000, 1),
  (.cfg, 0x60000, 1), (.bst, 0x70000, 1), (.tb, 0x80000, 1), (.noc, 0x90000, 1), (.dma, 0xa0000, 1), (.sto, 0xb0000, 1),
  (.gaf, 0x100000, 16), (.mpu, 0x200000, 128), (.sec, 0xa00000, 16), (.irc, 0xb00000, 4), (.gth, 0xc00000, 4),
  (.mrv, 0xc80000, 16), (.hbm, 0xe00000, 2), (.pci, 0xf00000, 1), (.eth, 0xf10000, 4)]

/-- The block, its instance and the offset within it that a control-space offset names; none in a hole between blocks. -/
def blockAt (off : Nat) : Option (Block × Nat × Nat) :=
  (blockMap.find? fun b => decide (b.2.1 ≤ off) && decide (off < b.2.1 + 0x10000 * b.2.2)).map fun b =>
    (b.1, (off - b.2.1) / 0x10000, (off - b.2.1) % 0x10000)

/-- Does a row of a ladder hold the register at this offset of its block? -/
def RegRow.has (r : RegRow) (rel : Nat) : Bool :=
  if r.count = 1 then rel == r.off
  else decide (r.off ≤ rel) && decide ((rel - r.off) / r.stride < r.count) && (rel - r.off) % r.stride == 0

/-- The register at a control-space offset; none in a hole (R23, R436). Ring descriptors exist in HBM[0] only (R147). -/
def regRow? (off : Nat) : Option RegRow :=
  match blockAt off with
  | none => none
  | some (b, i, rel) =>
    if b == .hbm && i == 1 && decide (0x200 ≤ rel) && decide (rel < 0x280) then none
    else b.rows.find? fun r => r.has rel

/-- The reset value of a register by its ladder. -/
def RegRow.reset (r : RegRow) : Nat := r.fields.foldl (fun a f => a + f.reset * 2 ^ f.lo) 0

/-- The reset value of the register at a control-space offset (R443, R444). The words 'Fused', 'From OTP', 'Decoded' and
'By state' (for a part as shipped, in TEST, R416) and the formula of MPU[t].PHYS are evaluated here. -/
def regReset (off : Nat) : Word :=
  let w := match regRow? off with | some r => r.reset | none => 0
  if off = 0x0 then BitVec.ofNat 32 (w + Config.grade)
  else if off = 0x4 then BitVec.ofNat 32 Config.serial
  else if off = 0x8 then BitVec.ofNat 32 (Config.serial / 2 ^ 32)
  else if off = 0x10094 then 
    BitVec.ofNat 32 ((Config.avsTrim 0).val + 16 * Config.avsTrim 1 + 256 * Config.avsTrim 2 + 4096 * Config.avsTrim 3)
  else if off = 0x20100 then (if Config.grade = 1 then BitVec.ofNat 32 (56 * 2 ^ 16) else BitVec.ofNat 32 w)
  else if off = 0x20104 then (if Config.grade = 1 then 8 else BitVec.ofNat 32 w)
  else if off = 0x20108 then (if Config.grade = 1 then 25 else BitVec.ofNat 32 w)
  else if off = 0x50000 then 0x20000000
  else if off = 0x50004 then 0xffff
  else if off = 0x50160 then 7
  else if 0x50100 ≤ off ∧ off < 0x50160 then BitVec.ofNat 32 (leNat ((Config.generatedPubKey 0).drop (off - 0x50100) |>.take 4))
  else if 0x200000 ≤ off ∧ off < 0xa00000 ∧ off % 0x10000 = 0x28 then
    BitVec.ofNat 32 (9 * ((off - 0x200000) / 0x10000 / 8) + (off - 0x200000) / 0x10000 % 8)
  else BitVec.ofNat 32 w

/-- The lock bit of a block, by block and instance (R436); none for SYS, EVT, LCS and PCI. -/
def lockOff : Block → Nat → Option Nat
  | .sys, _ => none | .evt, _ => none | .lcs, _ => none | .pci, _ => none
  | .pwr, _ => some 0x10ffc | .clk, _ => some 0x20ffc | .flt, _ => some 0x30ffc | .cfg, _ => some 0x60ffc
  | .bst, _ => some 0x70ffc | .tb, _ => some 0x80ffc | .noc, _ => some 0x90ffc | .dma, _ => some 0xa0ffc
  | .sto, _ => some 0xb0ffc
  | .gaf, n => some (0x1007fc + 0x10000 * n) | .mpu, t => some (0x200ffc + 0x10000 * t)
  | .sec, s => some (0xa0001c + 0x10000 * s) | .irc, p => some (0xb00ffc + 0x10000 * p)
  | .gth, g => some (0xc00ffc + 0x10000 * g) | .mrv, m => some (0xc80ffc + 0x10000 * m)
  | .hbm, c => some (0xe00ffc + 0x10000 * c) | .eth, e => some (0xf10ffc + 0x10000 * e)

end Sys2Proof.Machine
end

