-- ==== Sys2Proof/Machine/Fields.lean ====
section
/-!
DEFINITION. The register fields the meanings use, by the names the spec gives them (block, register, field); an index
is the block instance, then the place in an array of registers (an index beyond the last wraps, so that a field never
leaves its block).
-/

namespace Sys2Proof.Machine.F

def SYS_START_STAT_PHASE : Fld := ⟨0x100, 31, 28⟩
def SYS_START_STAT_KIND : Fld := ⟨0x100, 27, 26⟩
def SYS_START_STAT_GOLDEN_START : Fld := ⟨0x100, 25, 25⟩
def SYS_START_STAT_BIST_SKIPPED : Fld := ⟨0x100, 24, 24⟩
def SYS_START_STAT_ATTEMPTS : Fld := ⟨0x100, 23, 20⟩
def SYS_START_STAT_CAUSE : Fld := ⟨0x100, 19, 16⟩
def SYS_START_STAT_SKIP : Fld := ⟨0x100, 15, 0⟩
def SYS_START_CTRL_CONFIRM : Fld := ⟨0x104, 31, 31⟩
def SYS_START_CTRL_AUTO_CONFIRM : Fld := ⟨0x104, 16, 16⟩
def SYS_START_CTRL_CONFIRM_MS : Fld := ⟨0x104, 15, 0⟩
def SYS_REL_CFG_ORDER : Fld := ⟨0x108, 26, 24⟩
def SYS_REL_CFG_PLL_MASK : Fld := ⟨0x108, 23, 16⟩
def SYS_REL_CFG_PLL_TIMEOUT : Fld := ⟨0x108, 7, 0⟩
def SYS_START_TIME_RELEASE_US : Fld := ⟨0x110, 31, 0⟩
def SYS_ACCESS_ERR_CNT_COUNT : Fld := ⟨0xc, 31, 0⟩
def SYS_LOCKED_WRITE_CNT_COUNT : Fld := ⟨0x10, 31, 0⟩
def SYS_ACCESS_ERR_REC_VALID : Fld := ⟨0x14, 31, 31⟩
def PWR_CTRL_S4_REQ : Fld := ⟨0x10000, 31, 31⟩
def PWR_STAT_XTAL_OK : Fld := ⟨0x10004, 31, 31⟩
def PWR_STAT_ON_XTAL : Fld := ⟨0x10004, 30, 30⟩
def PWR_STAT_S4_RESULT : Fld := ⟨0x10004, 29, 27⟩
def PWR_STAT_PERF : Fld := ⟨0x10004, 26, 25⟩
def PWR_STAT_PERF_BUSY : Fld := ⟨0x10004, 24, 24⟩
def PWR_STAT_PERF_ERR : Fld := ⟨0x10004, 3, 3⟩
def PWR_STAT_PMBUS_ERR : Fld := ⟨0x10004, 2, 2⟩
def PWR_STAT_ABANDONED : Fld := ⟨0x10004, 1, 1⟩
def PWR_STAT_S4_ABORT : Fld := ⟨0x10004, 0, 0⟩
def PWR_VOTE_TARGET (k : Nat) : Fld := ⟨0x10010 + 0x4 * (k % 16), 1, 0⟩
def PWR_VOTE_FREE_TARGET : Fld := ⟨0x10050, 1, 0⟩
def PWR_HBM_CFG_SR_EN : Fld := ⟨0x10054, 1, 0⟩
def PWR_WAKE_EN_ENC_EDGES : Fld := ⟨0x10060, 15, 8⟩
def PWR_WAKE_EN_SRC : Fld := ⟨0x10060, 3, 0⟩
def PWR_WAKE_SRC_SRC : Fld := ⟨0x10064, 3, 0⟩
def PWR_SAVE_CFG_CAPTURED : Fld := ⟨0x10080, 30, 30⟩
def PWR_SAVE_CFG_LEN : Fld := ⟨0x10080, 13, 0⟩
def PWR_SAVE_IDX_IDX : Fld := ⟨0x10084, 12, 0⟩
def PWR_AVS_CFG_SPEED : Fld := ⟨0x10090, 9, 9⟩
def PWR_AVS_CFG_PEC : Fld := ⟨0x10090, 8, 8⟩
def PWR_AVS_CFG_ADDR : Fld := ⟨0x10090, 6, 0⟩
def PWR_AVS_TRIM_TRIM : Fld := ⟨0x10094, 15, 0⟩
def PWR_VOUT_MV : Fld := ⟨0x10098, 15, 0⟩
def PWR_ABANDON_CNT_COUNT : Fld := ⟨0x100a0, 31, 0⟩
def PWR_WAKE_PKT_CNT_COUNT : Fld := ⟨0x100a4, 31, 0⟩
def PWR_PERF_HOLD_CNT_COUNT : Fld := ⟨0x100a8, 31, 0⟩
def PWR_PMBUS_ERR_CNT_COUNT : Fld := ⟨0x100ac, 31, 0⟩
def CLK_STAT_CFG_ERR : Fld := ⟨0x20000, 31, 24⟩
def CLK_STAT_UNLOCK : Fld := ⟨0x20000, 23, 16⟩
def CLK_STAT_LOCKED : Fld := ⟨0x20000, 7, 0⟩
def CLK_UNLOCK_CNT_COUNT : Fld := ⟨0x20004, 31, 0⟩
def FLT_STAT_F0 : Fld := ⟨0x30000, 31, 31⟩
def FLT_STAT_PIN_LEVEL : Fld := ⟨0x30000, 30, 30⟩
def FLT_STAT_F1_PREV : Fld := ⟨0x30000, 19, 19⟩
def FLT_STAT_OVERFLOW : Fld := ⟨0x30000, 18, 18⟩
def FLT_STAT_WIRE : Fld := ⟨0x30000, 17, 17⟩
def FLT_STAT_TEST_BUSY : Fld := ⟨0x30000, 16, 16⟩
def FLT_STAT_FENCED : Fld := ⟨0x30000, 15, 0⟩
def FLT_PIN_CFG_F3_EN : Fld := ⟨0x30004, 1, 1⟩
def FLT_PIN_CFG_F2_EN : Fld := ⟨0x30004, 0, 0⟩
def FLT_FIRST_SRC_VALID : Fld := ⟨0x30008, 31, 31⟩
def FLT_LOG_HEAD_HEAD : Fld := ⟨0x30028, 6, 0⟩
def FLT_LOG_TAIL_TAIL : Fld := ⟨0x3002c, 6, 0⟩
def FLT_TEMP_WARN : Fld := ⟨0x30038, 23, 16⟩
def FLT_TEMP_MAX : Fld := ⟨0x30038, 7, 0⟩
def FLT_FENCE_LAST_SOURCE (k : Nat) : Fld := ⟨0x30040 + 0x4 * (k % 16), 31, 24⟩
def FLT_FENCE_COUNT (k : Nat) : Fld := ⟨0x30040 + 0x4 * (k % 16), 15, 0⟩
def FLT_F3_CNT_COUNT : Fld := ⟨0x30080, 31, 0⟩
def FLT_F2_CNT_COUNT : Fld := ⟨0x30084, 31, 0⟩
def FLT_F1_CNT_COUNT : Fld := ⟨0x30088, 31, 0⟩
def FLT_OVF_CNT_COUNT : Fld := ⟨0x3008c, 31, 0⟩
def EVT_ROUTE_MSIX_EN (k : Nat) : Fld := ⟨0x41000 + 0x4 * (k % 768), 31, 31⟩
def EVT_ROUTE_MC_EN (k : Nat) : Fld := ⟨0x41000 + 0x4 * (k % 768), 30, 30⟩
def EVT_ROUTE_IRC_TX_EN (k : Nat) : Fld := ⟨0x41000 + 0x4 * (k % 768), 29, 29⟩
def EVT_ROUTE_IRC_RX_EN (k : Nat) : Fld := ⟨0x41000 + 0x4 * (k % 768), 28, 28⟩
def EVT_ROUTE_VECTOR (k : Nat) : Fld := ⟨0x41000 + 0x4 * (k % 768), 10, 0⟩
def LCS_STATE : Fld := ⟨0x50000, 31, 29⟩
def LCS_STATE_TRANS_BUSY : Fld := ⟨0x50000, 28, 28⟩
def LCS_DBG_SCOPE_SCOPES : Fld := ⟨0x50160, 3, 0⟩
def LCS_DBG_CTRL_RELEASE : Fld := ⟨0x50164, 0, 0⟩
def LCS_STAT_LOCKOUT : Fld := ⟨0x50168, 31, 31⟩
def LCS_STAT_BSCAN : Fld := ⟨0x50168, 2, 2⟩
def LCS_STAT_TRANS_ERR : Fld := ⟨0x50168, 1, 1⟩
def LCS_STAT_AUTH_FAIL : Fld := ⟨0x50168, 0, 0⟩
def LCS_AUTH_FAIL_CNT_COUNT : Fld := ⟨0x5016c, 31, 0⟩
def LCS_DENIED_CNT_COUNT : Fld := ⟨0x50170, 31, 0⟩
def LCS_ATTEST_CNT_COUNT : Fld := ⟨0x50174, 31, 0⟩
def CFG_FAB_STAT_ISOLATED : Fld := ⟨0x64000, 15, 8⟩
def CFG_FAB_STAT_RELEASED : Fld := ⟨0x64000, 7, 0⟩
def CFG_IO_PULL_PULL : Fld := ⟨0x64004, 23, 0⟩
def CFG_IO_REPROG_HOLD : Fld := ⟨0x64008, 11, 0⟩
def CFG_IO_STAT_VCCO_OK : Fld := ⟨0x6400c, 11, 0⟩
def CFG_WIN_STAT_TIMEOUT : Fld := ⟨0x64014, 0, 0⟩
def CFG_CLK_STAT_STUCK : Fld := ⟨0x64018, 31, 16⟩
def CFG_CLK_STAT_PENDING : Fld := ⟨0x64018, 15, 0⟩
def CFG_WIN_TO_CNT_COUNT : Fld := ⟨0x6401c, 31, 0⟩
def CFG_TRIG_DROP_CNT_COUNT : Fld := ⟨0x64020, 31, 0⟩
def CFG_STAT_LOAD_BUSY : Fld := ⟨0x60000, 31, 31⟩
def CFG_STAT_IMAGE_OK : Fld := ⟨0x60000, 30, 30⟩
def CFG_STAT_GOLDEN : Fld := ⟨0x60000, 29, 29⟩
def CFG_STAT_SOURCE : Fld := ⟨0x60000, 28, 27⟩
def CFG_STAT_SLOT : Fld := ⟨0x60000, 26, 24⟩
def CFG_LOAD_ERR_VALID : Fld := ⟨0x60004, 31, 31⟩
def CFG_LOAD_ERR_CNT_COUNT : Fld := ⟨0x60008, 31, 0⟩
def CFG_PAR_SEL_INDEX : Fld := ⟨0x60040, 5, 0⟩
def CFG_PROG_CTRL_GO : Fld := ⟨0x60060, 31, 31⟩
def CFG_PROG_CTRL_OP : Fld := ⟨0x60060, 10, 8⟩
def CFG_PROG_CTRL_TARGET : Fld := ⟨0x60060, 5, 0⟩
def CFG_PROG_ADDR_LO_ADDR_LO : Fld := ⟨0x60064, 31, 6⟩
def CFG_PROG_ADDR_HI_ADDR_HI : Fld := ⟨0x60068, 2, 0⟩
def CFG_PROG_LEN_LEN : Fld := ⟨0x6006c, 31, 0⟩
def CFG_PROG_STAT_BUSY : Fld := ⟨0x60070, 31, 31⟩
def CFG_PROG_STAT_DONE : Fld := ⟨0x60070, 5, 5⟩
def CFG_PROG_STAT_ERR : Fld := ⟨0x60070, 4, 4⟩
def CFG_PROG_STAT_CAUSE : Fld := ⟨0x60070, 3, 0⟩
def CFG_SCRUB_CTRL_AUTO_RELOAD : Fld := ⟨0x60080, 2, 2⟩
def CFG_SCRUB_CTRL_WIN_EN : Fld := ⟨0x60080, 1, 1⟩
def CFG_SCRUB_CTRL_EN : Fld := ⟨0x60080, 0, 0⟩
def CFG_SCRUB_ERR_VALID : Fld := ⟨0x60084, 31, 31⟩
def CFG_SCRUB_CE_CNT_COUNT : Fld := ⟨0x60088, 31, 0⟩
def CFG_SCRUB_UE_CNT_COUNT : Fld := ⟨0x6008c, 31, 0⟩
def CFG_RELOAD_CNT_COUNT : Fld := ⟨0x60090, 31, 0⟩
def CFG_LOCK : Fld := ⟨0x60ffc, 0, 0⟩
def BST_CTRL_GAP_EN : Fld := ⟨0x70000, 2, 2⟩
def BST_CTRL_WAKE : Fld := ⟨0x70000, 1, 1⟩
def BST_CTRL_SLICE_EN : Fld := ⟨0x70000, 0, 0⟩
def BST_SLICE_CFG_SLICE_US : Fld := ⟨0x70004, 7, 0⟩
def BST_STAT_BUSY : Fld := ⟨0x70008, 31, 31⟩
def BST_STAT_SUSPECT : Fld := ⟨0x70008, 3, 3⟩
def BST_STAT_CULLET : Fld := ⟨0x70008, 2, 2⟩
def BST_STAT_REPAIR : Fld := ⟨0x70008, 1, 1⟩
def BST_STAT_FAIL : Fld := ⟨0x70008, 0, 0⟩
def BST_FIRST_HI_VALID : Fld := ⟨0x70010, 31, 31⟩
def BST_FAIL_CNT_COUNT : Fld := ⟨0x70014, 31, 0⟩
def BST_REPAIR_CNT_COUNT : Fld := ⟨0x70018, 31, 0⟩
def BST_SUSPECT_VALID : Fld := ⟨0x70048, 31, 31⟩
def TB_CTRL_CPL_LOAD : Fld := ⟨0x80000, 4, 4⟩
def TB_CTRL_GROUP_EN : Fld := ⟨0x80000, 3, 3⟩
def TB_CTRL_TRIG_EN : Fld := ⟨0x80000, 2, 2⟩
def TB_CTRL_ENC_EN : Fld := ⟨0x80000, 1, 1⟩
def TB_CTRL_ARM : Fld := ⟨0x80000, 0, 0⟩
def TB_STATUS_ROLE : Fld := ⟨0x80004, 31, 30⟩
def TB_STATUS_ALIGNED : Fld := ⟨0x80004, 29, 29⟩
def TB_STATUS_ELECTING : Fld := ⟨0x80004, 28, 28⟩
def TB_STATUS_UPSTREAM : Fld := ⟨0x80004, 27, 26⟩
def TB_STATUS_HOPS : Fld := ⟨0x80004, 25, 22⟩
def TB_STATUS_MAX_HOPS : Fld := ⟨0x80004, 21, 18⟩
def TB_STATUS_TIME_AHEAD : Fld := ⟨0x80004, 4, 4⟩
def TB_STATUS_OFFSET_SHORT : Fld := ⟨0x80004, 3, 3⟩
def TB_STATUS_LATE : Fld := ⟨0x80004, 2, 2⟩
def TB_STATUS_OVERSPEED : Fld := ⟨0x80004, 1, 1⟩
def TB_STATUS_ENC_ERR : Fld := ⟨0x80004, 0, 0⟩
def TB_ENC_CFG_MIN_INT : Fld := ⟨0x80008, 31, 24⟩
def TB_ENC_CFG_FILT : Fld := ⟨0x80008, 23, 16⟩
def TB_ENC_CFG_DIR_INV : Fld := ⟨0x80008, 2, 2⟩
def TB_ENC_CFG_MODE : Fld := ⟨0x80008, 1, 0⟩
def TB_REL_MIN_GAP : Fld := ⟨0x8000c, 31, 16⟩
def TB_REL_REL_OFFSET : Fld := ⟨0x8000c, 15, 0⟩
def TB_CPL_LO_FRAC : Fld := ⟨0x80010, 31, 0⟩
def TB_CPL_HI_INT : Fld := ⟨0x80014, 31, 0⟩
def TB_LINE_LO : Fld := ⟨0x80020, 31, 0⟩
def TB_LINE_HI : Fld := ⟨0x80024, 15, 0⟩
def TB_LINE_START_LO_START_LO : Fld := ⟨0x80028, 31, 0⟩
def TB_LINE_START_HI_START_HI : Fld := ⟨0x8002c, 15, 0⟩
def TB_MEMBER_ID : Fld := ⟨0x80040, 21, 16⟩
def TB_MEMBER_PRIO : Fld := ⟨0x80040, 15, 8⟩
def TB_GROUP_EPOCH : Fld := ⟨0x80044, 31, 16⟩
def TB_GROUP_COUNT : Fld := ⟨0x80044, 14, 8⟩
def TB_GROUP_MASTER_ID : Fld := ⟨0x80044, 5, 0⟩
def TB_TIMERS_HB_PERIOD : Fld := ⟨0x80058, 15, 0⟩
def TB_XSYNC_SYNCED : Fld := ⟨0x8005c, 15, 0⟩
def TB_ENC_ERR_CNT_COUNT : Fld := ⟨0x80060, 31, 0⟩
def TB_OVERSPEED_CNT_COUNT : Fld := ⟨0x80064, 31, 0⟩
def TB_LINE_SKIP_CNT_COUNT : Fld := ⟨0x80068, 31, 0⟩
def TB_LATE_CNT_COUNT : Fld := ⟨0x8006c, 31, 0⟩
def TB_TIME_STEP_CNT_COUNT : Fld := ⟨0x80070, 31, 0⟩
def TB_LOCK : Fld := ⟨0x80ffc, 0, 0⟩
def NOC_CTRL_SWITCH : Fld := ⟨0x90000, 0, 0⟩
def NOC_STAT_BANK : Fld := ⟨0x90004, 31, 31⟩
def NOC_STAT_SWITCH_PEND : Fld := ⟨0x90004, 30, 30⟩
def NOC_STAT_ERR_CAUSE : Fld := ⟨0x90004, 5, 4⟩
def NOC_STAT_SWITCH_ERR : Fld := ⟨0x90004, 1, 1⟩
def NOC_STAT_PAR_ERR : Fld := ⟨0x90004, 0, 0⟩
def NOC_SLOT_SEL_ACTIVE : Fld := ⟨0x90010, 16, 16⟩
def NOC_SLOT_SEL_ROUTER : Fld := ⟨0x90010, 15, 10⟩
def NOC_SLOT_SEL_PORT : Fld := ⟨0x90010, 9, 7⟩
def NOC_PCIE_RATE_RATE : Fld := ⟨0x90014, 15, 0⟩
def NOC_SWITCH_CNT_COUNT : Fld := ⟨0x90018, 31, 0⟩
def NOC_PAR_CNT_COUNT : Fld := ⟨0x9001c, 31, 0⟩
def DMA_CTRL_ABORT (k : Nat) : Fld := ⟨0xa0100 + 0x40 * (k % 16), 31, 31⟩
def DMA_CTRL_CPL_HOST (k : Nat) : Fld := ⟨0xa0100 + 0x40 * (k % 16), 3, 3⟩
def DMA_CTRL_ERR_STOP (k : Nat) : Fld := ⟨0xa0100 + 0x40 * (k % 16), 2, 2⟩
def DMA_CTRL_DESC_HOST (k : Nat) : Fld := ⟨0xa0100 + 0x40 * (k % 16), 1, 1⟩
def DMA_CTRL_EN (k : Nat) : Fld := ⟨0xa0100 + 0x40 * (k % 16), 0, 0⟩
def DMA_STAT_BUSY (k : Nat) : Fld := ⟨0xa0104 + 0x40 * (k % 16), 31, 31⟩
def DMA_STAT_INFLIGHT (k : Nat) : Fld := ⟨0xa0104 + 0x40 * (k % 16), 30, 24⟩
def DMA_STAT_STOPPED (k : Nat) : Fld := ⟨0xa0104 + 0x40 * (k % 16), 1, 1⟩
def DMA_STAT_ERR (k : Nat) : Fld := ⟨0xa0104 + 0x40 * (k % 16), 0, 0⟩
def DMA_RING_LO_BASE_LO (k : Nat) : Fld := ⟨0xa0108 + 0x40 * (k % 16), 31, 5⟩
def DMA_RING_HI_BASE_HI (k : Nat) : Fld := ⟨0xa010c + 0x40 * (k % 16), 31, 0⟩
def DMA_RING_CFG_LOG2N (k : Nat) : Fld := ⟨0xa0110 + 0x40 * (k % 16), 3, 0⟩
def DMA_HEAD (k : Nat) : Fld := ⟨0xa0114 + 0x40 * (k % 16), 11, 0⟩
def DMA_TAIL (k : Nat) : Fld := ⟨0xa0118 + 0x40 * (k % 16), 11, 0⟩
def DMA_CPL_LO_BASE_LO (k : Nat) : Fld := ⟨0xa011c + 0x40 * (k % 16), 31, 4⟩
def DMA_CPL_HI_BASE_HI (k : Nat) : Fld := ⟨0xa0120 + 0x40 * (k % 16), 31, 0⟩
def DMA_CPL_CFG_LOG2N (k : Nat) : Fld := ⟨0xa0124 + 0x40 * (k % 16), 3, 0⟩
def DMA_CPL_HEAD_HEAD (k : Nat) : Fld := ⟨0xa0128 + 0x40 * (k % 16), 11, 0⟩
def DMA_CPL_TAIL_TAIL (k : Nat) : Fld := ⟨0xa012c + 0x40 * (k % 16), 11, 0⟩
def DMA_RATE (k : Nat) : Fld := ⟨0xa0130 + 0x40 * (k % 16), 15, 0⟩
def DMA_DONE_CNT_COUNT (k : Nat) : Fld := ⟨0xa0134 + 0x40 * (k % 16), 31, 0⟩
def DMA_ERR_CNT_COUNT (k : Nat) : Fld := ⟨0xa0138 + 0x40 * (k % 16), 31, 0⟩
def DMA_LAST_ERR_VALID (k : Nat) : Fld := ⟨0xa013c + 0x40 * (k % 16), 31, 31⟩
def STO_CTRL_ABORT : Fld := ⟨0xb0000, 31, 31⟩
def STO_CTRL_EN : Fld := ⟨0xb0000, 0, 0⟩
def STO_STAT_READY : Fld := ⟨0xb0004, 31, 31⟩
def STO_STAT_THROTTLED : Fld := ⟨0xb0004, 30, 30⟩
def STO_STAT_QUEUE : Fld := ⟨0xb0004, 25, 21⟩
def STO_STAT_GEOM_ERR : Fld := ⟨0xb0004, 6, 6⟩
def STO_STAT_TORN : Fld := ⟨0xb0004, 5, 5⟩
def STO_STAT_RELEASE_CLAMP : Fld := ⟨0xb0004, 4, 4⟩
def STO_STAT_LOST : Fld := ⟨0xb0004, 3, 3⟩
def STO_STAT_RD_ERR : Fld := ⟨0xb0004, 2, 2⟩
def STO_STAT_BAD_BLOCK : Fld := ⟨0xb0004, 1, 1⟩
def STO_CFG_RATE_MT : Fld := ⟨0xb0008, 1, 0⟩
def STO_RATE : Fld := ⟨0xb000c, 15, 0⟩
def STO_GOV_LIFE : Fld := ⟨0xb0010, 31, 24⟩
def STO_GOV_ENDURANCE : Fld := ⟨0xb0010, 23, 16⟩
def STO_GOV_BURST : Fld := ⟨0xb0010, 15, 0⟩
def STO_RD_ERR_HI_VALID : Fld := ⟨0xb004c, 31, 31⟩
def STO_GEOM_DIES : Fld := ⟨0xb0050, 31, 25⟩
def STO_GEOM_PLANES : Fld := ⟨0xb0050, 24, 22⟩
def STO_GEOM_PAGE : Fld := ⟨0xb0050, 21, 20⟩
def STO_GEOM_BLOCKS : Fld := ⟨0xb0050, 19, 0⟩
def STO_BAD_FACT_COUNT : Fld := ⟨0xb0054, 31, 0⟩
def STO_BAD_GROWN_COUNT : Fld := ⟨0xb0058, 31, 0⟩
def STO_LAST_STATUS_STATUS : Fld := ⟨0xb005c, 1, 0⟩
def STO_COMMIT_CNT_COUNT : Fld := ⟨0xb0070, 31, 0⟩
def STO_LOST_CNT_COUNT : Fld := ⟨0xb0074, 31, 0⟩
def STO_CRC_ERR_CNT_COUNT : Fld := ⟨0xb0078, 31, 0⟩
def STO_ECC_CORR_CNT_COUNT : Fld := ⟨0xb007c, 31, 0⟩
def STO_TORN_CNT_COUNT : Fld := ⟨0xb0080, 31, 0⟩
def GAF_CTRL_START_PC (n : Nat) : Fld := ⟨0x100000 + 0x10000 * (n % 16), 24, 16⟩
def GAF_CTRL_OVR_DEPTH (n : Nat) : Fld := ⟨0x100000 + 0x10000 * (n % 16), 11, 8⟩
def GAF_CTRL_LOCKSTEP (n : Nat) : Fld := ⟨0x100000 + 0x10000 * (n % 16), 2, 2⟩
def GAF_CTRL_POLICY (n : Nat) : Fld := ⟨0x100000 + 0x10000 * (n % 16), 1, 1⟩
def GAF_CTRL_TRIG_EN (n : Nat) : Fld := ⟨0x100000 + 0x10000 * (n % 16), 0, 0⟩
def GAF_STATUS_STATE (n : Nat) : Fld := ⟨0x100004 + 0x10000 * (n % 16), 31, 29⟩
def GAF_STATUS_CAUSE (n : Nat) : Fld := ⟨0x100004 + 0x10000 * (n % 16), 28, 26⟩
def GAF_STATUS_WIN (n : Nat) : Fld := ⟨0x100004 + 0x10000 * (n % 16), 25, 25⟩
def GAF_STATUS_SEL (n : Nat) : Fld := ⟨0x100004 + 0x10000 * (n % 16), 24, 24⟩
def GAF_STATUS_READY_B (n : Nat) : Fld := ⟨0x100004 + 0x10000 * (n % 16), 23, 23⟩
def GAF_STATUS_READY_A (n : Nat) : Fld := ⟨0x100004 + 0x10000 * (n % 16), 22, 22⟩
def GAF_STATUS_SWITCH_WAIT (n : Nat) : Fld := ⟨0x100004 + 0x10000 * (n % 16), 21, 21⟩
def GAF_STATUS_LOOP_DEPTH (n : Nat) : Fld := ⟨0x100004 + 0x10000 * (n % 16), 20, 18⟩
def GAF_STATUS_QDEPTH (n : Nat) : Fld := ⟨0x100004 + 0x10000 * (n % 16), 17, 14⟩
def GAF_STATUS_LAST_COND (n : Nat) : Fld := ⟨0x100004 + 0x10000 * (n % 16), 13, 11⟩
def GAF_STATUS_INJ_BUSY (n : Nat) : Fld := ⟨0x100004 + 0x10000 * (n % 16), 10, 10⟩
def GAF_STATUS_OVERRUN (n : Nat) : Fld := ⟨0x100004 + 0x10000 * (n % 16), 9, 9⟩
def GAF_STATUS_PC (n : Nat) : Fld := ⟨0x100004 + 0x10000 * (n % 16), 8, 0⟩
def GAF_STALL_BOUND_BOUND (n : Nat) : Fld := ⟨0x100008 + 0x10000 * (n % 16), 15, 0⟩
def GAF_SWITCH_ARM (n : Nat) : Fld := ⟨0x10000c + 0x10000 * (n % 16), 31, 31⟩
def GAF_SWITCH_WIN (n : Nat) : Fld := ⟨0x10000c + 0x10000 * (n % 16), 30, 30⟩
def GAF_SWITCH_LINE_LO_AT_LINE_LO (n : Nat) : Fld := ⟨0x100010 + 0x10000 * (n % 16), 31, 0⟩
def GAF_SWITCH_LINE_HI_AT_LINE_HI (n : Nat) : Fld := ⟨0x100014 + 0x10000 * (n % 16), 15, 0⟩
def GAF_LINE_LO (n : Nat) : Fld := ⟨0x100018 + 0x10000 * (n % 16), 31, 0⟩
def GAF_LINE_HI_COUNT (n : Nat) : Fld := ⟨0x10001c + 0x10000 * (n % 16), 31, 24⟩
def GAF_LINE_HI (n : Nat) : Fld := ⟨0x10001c + 0x10000 * (n % 16), 15, 0⟩
def GAF_PROG_ERR_VALID (n : Nat) : Fld := ⟨0x100028 + 0x10000 * (n % 16), 31, 31⟩
def GAF_PROG_ERR_CAUSE (n : Nat) : Fld := ⟨0x100028 + 0x10000 * (n % 16), 30, 28⟩
def GAF_PROG_ERR_PC (n : Nat) : Fld := ⟨0x100028 + 0x10000 * (n % 16), 8, 0⟩
def GAF_SKIP_CNT_COUNT (n : Nat) : Fld := ⟨0x10002c + 0x10000 * (n % 16), 31, 0⟩
def GAF_MERGE_CNT_COUNT (n : Nat) : Fld := ⟨0x100030 + 0x10000 * (n % 16), 31, 0⟩
def GAF_LOCAL_SKIP_CNT_COUNT (n : Nat) : Fld := ⟨0x100034 + 0x10000 * (n % 16), 31, 0⟩
def GAF_TRIG_DISC_CNT_COUNT (n : Nat) : Fld := ⟨0x100038 + 0x10000 * (n % 16), 31, 0⟩
def GAF_EVT_LOST_CNT_COUNT (n : Nat) : Fld := ⟨0x10003c + 0x10000 * (n % 16), 31, 0⟩
def GAF_LOG_PTR_TRACE_WRAPPED (n : Nat) : Fld := ⟨0x100040 + 0x10000 * (n % 16), 31, 31⟩
def GAF_LOG_PTR_SKIP_WRAPPED (n : Nat) : Fld := ⟨0x100040 + 0x10000 * (n % 16), 30, 30⟩
def GAF_LOG_PTR_TRACE_PTR (n : Nat) : Fld := ⟨0x100040 + 0x10000 * (n % 16), 23, 16⟩
def GAF_LOG_PTR_SKIP_PTR (n : Nat) : Fld := ⟨0x100040 + 0x10000 * (n % 16), 7, 0⟩
def GAF_EVT_SEL_EN (n k : Nat) : Fld := ⟨0x100050 + 0x10000 * (n % 16) + 0x4 * (k % 8), 31, 31⟩
def GAF_EVT_SEL_SOURCE (n k : Nat) : Fld := ⟨0x100050 + 0x10000 * (n % 16) + 0x4 * (k % 8), 9, 0⟩
def GAF_INJ_LO_ADDR_LO (n k : Nat) : Fld := ⟨0x100080 + 0x10000 * (n % 16) + 0x8 * (k % 8), 31, 6⟩
def GAF_INJ_HI_VALID (n k : Nat) : Fld := ⟨0x100084 + 0x10000 * (n % 16) + 0x8 * (k % 8), 31, 31⟩
def GAF_INJ_HI_LEN (n k : Nat) : Fld := ⟨0x100084 + 0x10000 * (n % 16) + 0x8 * (k % 8), 12, 8⟩
def GAF_INJ_HI_ADDR_HI (n k : Nat) : Fld := ⟨0x100084 + 0x10000 * (n % 16) + 0x8 * (k % 8), 7, 0⟩
def GAF_COM_LO_ADDR_LO (n k : Nat) : Fld := ⟨0x1000c0 + 0x10000 * (n % 16) + 0x10 * (k % 4), 31, 6⟩
def GAF_COM_HI_ADDR_HI (n k : Nat) : Fld := ⟨0x1000c4 + 0x10000 * (n % 16) + 0x10 * (k % 4), 7, 0⟩
def GAF_COM_HI_VALID (n k : Nat) : Fld := ⟨0x1000c4 + 0x10000 * (n % 16) + 0x10 * (k % 4), 31, 31⟩
def GAF_COM_HI_RING (n k : Nat) : Fld := ⟨0x1000c4 + 0x10000 * (n % 16) + 0x10 * (k % 4), 30, 26⟩
def GAF_COM_HI_BYTES (n k : Nat) : Fld := ⟨0x1000c4 + 0x10000 * (n % 16) + 0x10 * (k % 4), 13, 8⟩
def GAF_COM_SEQ_SEQ (n k : Nat) : Fld := ⟨0x1000c8 + 0x10000 * (n % 16) + 0x10 * (k % 4), 31, 0⟩
def GAF_LOCK (n : Nat) : Fld := ⟨0x1007fc + 0x10000 * (n % 16), 0, 0⟩
def MPU_CL_MODE (n : Nat) : Fld := ⟨0x200000 + 0x10000 * (n % 128), 31, 0⟩
def MPU_PHYS (n : Nat) : Fld := ⟨0x200028 + 0x10000 * (n % 128), 7, 0⟩
def MPU_LOCK (n : Nat) : Fld := ⟨0x200ffc + 0x10000 * (n % 128), 0, 0⟩
def MPU_DBG_CTRL_CAP_WRAP (n : Nat) : Fld := ⟨0x200060 + 0x10000 * (n % 128), 3, 3⟩
def MPU_DBG_CTRL_CAP_EN (n : Nat) : Fld := ⟨0x200060 + 0x10000 * (n % 128), 2, 2⟩
def MPU_DBG_CTRL_BRK_HALT (n : Nat) : Fld := ⟨0x200060 + 0x10000 * (n % 128), 1, 1⟩
def MPU_DBG_CTRL_BRK_EN (n : Nat) : Fld := ⟨0x200060 + 0x10000 * (n % 128), 0, 0⟩
def MPU_BRK_STAT_VALID (n : Nat) : Fld := ⟨0x200064 + 0x10000 * (n % 128), 31, 31⟩
def MPU_CAP_STAT_FULL (n : Nat) : Fld := ⟨0x20006c + 0x10000 * (n % 128), 31, 31⟩
def MPU_CAP_STAT_WRAPPED (n : Nat) : Fld := ⟨0x20006c + 0x10000 * (n % 128), 30, 30⟩
def MPU_CAP_STAT_WR_PTR (n : Nat) : Fld := ⟨0x20006c + 0x10000 * (n % 128), 12, 0⟩
def MPU_STEP_ERR_VALID (n : Nat) : Fld := ⟨0x200074 + 0x10000 * (n % 128), 31, 31⟩
def MPU_BRK_CNT_COUNT (n : Nat) : Fld := ⟨0x200068 + 0x10000 * (n % 128), 31, 0⟩
def MPU_CAP_DROP_COUNT (n : Nat) : Fld := ⟨0x200070 + 0x10000 * (n % 128), 31, 0⟩
def MPU_STEP_ERR_CNT_COUNT (n : Nat) : Fld := ⟨0x200078 + 0x10000 * (n % 128), 31, 0⟩
def MPU_TRK_CFG_GSEL3 (n : Nat) : Fld := ⟨0x200080 + 0x10000 * (n % 128), 15, 12⟩
def MPU_TRK_CFG_GSEL2 (n : Nat) : Fld := ⟨0x200080 + 0x10000 * (n % 128), 11, 8⟩
def MPU_TRK_CFG_GSEL1 (n : Nat) : Fld := ⟨0x200080 + 0x10000 * (n % 128), 7, 4⟩
def MPU_TRK_CFG_GSEL0 (n : Nat) : Fld := ⟨0x200080 + 0x10000 * (n % 128), 3, 0⟩
def MPU_GOB_CFG_FAR_OUT (n : Nat) : Fld := ⟨0x200084 + 0x10000 * (n % 128), 7, 7⟩
def MPU_GOB_CFG_FAR_IN (n : Nat) : Fld := ⟨0x200084 + 0x10000 * (n % 128), 6, 6⟩
def MPU_GOB_CFG_HOLD (n : Nat) : Fld := ⟨0x200084 + 0x10000 * (n % 128), 5, 5⟩
def MPU_GOB_CFG_EXPECT (n : Nat) : Fld := ⟨0x200084 + 0x10000 * (n % 128), 4, 4⟩
def MPU_GOB_CFG_BCAST (n : Nat) : Fld := ⟨0x200084 + 0x10000 * (n % 128), 3, 3⟩
def MPU_GOB_STAT_FILL_CLOSED (n : Nat) : Fld := ⟨0x200088 + 0x10000 * (n % 128), 31, 31⟩
def MPU_GOB_STAT_READ_SIDE (n : Nat) : Fld := ⟨0x200088 + 0x10000 * (n % 128), 30, 30⟩
def MPU_GOB_STAT_FAR_MISS (n : Nat) : Fld := ⟨0x200088 + 0x10000 * (n % 128), 3, 3⟩
def MPU_GOB_STAT_CUT (n : Nat) : Fld := ⟨0x200088 + 0x10000 * (n % 128), 2, 2⟩
def MPU_GOB_STAT_DROP (n : Nat) : Fld := ⟨0x200088 + 0x10000 * (n % 128), 1, 1⟩
def MPU_GOB_STAT_NOSWAP (n : Nat) : Fld := ⟨0x200088 + 0x10000 * (n % 128), 0, 0⟩
def MPU_RT_ERR_VALID (n : Nat) : Fld := ⟨0x200098 + 0x10000 * (n % 128), 31, 31⟩
def MPU_XCHG_NUM_X (n : Nat) : Fld := ⟨0x2000c0 + 0x10000 * (n % 128), 15, 0⟩
def MPU_GOB_NOSWAP_CNT_COUNT (n : Nat) : Fld := ⟨0x20008c + 0x10000 * (n % 128), 31, 0⟩
def MPU_GOB_DROP_CNT_COUNT (n : Nat) : Fld := ⟨0x200090 + 0x10000 * (n % 128), 31, 0⟩
def MPU_FAR_MISS_CNT_COUNT (n : Nat) : Fld := ⟨0x200094 + 0x10000 * (n % 128), 31, 0⟩
def MPU_RT_ERR_CNT_COUNT (n : Nat) : Fld := ⟨0x20009c + 0x10000 * (n % 128), 31, 0⟩
def MPU_MP_CFG_D_CODE (n : Nat) : Fld := ⟨0x201000 + 0x10000 * (n % 128), 1, 0⟩
def MPU_MP_STAT_TAGS_USED (n : Nat) : Fld := ⟨0x201004 + 0x10000 * (n % 128), 31, 26⟩
def MPU_MP_STAT_WR_LATE (n : Nat) : Fld := ⟨0x201004 + 0x10000 * (n % 128), 4, 4⟩
def MPU_MP_STAT_LATE_DISC (n : Nat) : Fld := ⟨0x201004 + 0x10000 * (n % 128), 3, 3⟩
def MPU_MP_STAT_ADDR_ERR (n : Nat) : Fld := ⟨0x201004 + 0x10000 * (n % 128), 2, 2⟩
def MPU_MP_STAT_TAG_SHORT (n : Nat) : Fld := ⟨0x201004 + 0x10000 * (n % 128), 1, 1⟩
def MPU_MP_STAT_POISON (n : Nat) : Fld := ⟨0x201004 + 0x10000 * (n % 128), 0, 0⟩
def MPU_POISON_LAST_MASK (n : Nat) : Fld := ⟨0x201008 + 0x10000 * (n % 128), 31, 0⟩
def MPU_POISON_CNT_COUNT (n : Nat) : Fld := ⟨0x20100c + 0x10000 * (n % 128), 31, 0⟩
def MPU_STALL_CNT_COUNT (n : Nat) : Fld := ⟨0x201010 + 0x10000 * (n % 128), 31, 0⟩
def MPU_TAG_SHORT_CNT_COUNT (n : Nat) : Fld := ⟨0x201014 + 0x10000 * (n % 128), 31, 0⟩
def MPU_ADDR_ERR_CNT_COUNT (n : Nat) : Fld := ⟨0x201018 + 0x10000 * (n % 128), 31, 0⟩
def MPU_LATE_DISC_CNT_COUNT (n : Nat) : Fld := ⟨0x20101c + 0x10000 * (n % 128), 31, 0⟩
def MPU_WR_LATE_CNT_COUNT (n : Nat) : Fld := ⟨0x201020 + 0x10000 * (n % 128), 31, 0⟩
def SEC_CTRL_VERIFY (n : Nat) : Fld := ⟨0xa00000 + 0x10000 * (n % 16), 23, 23⟩
def SEC_CTRL_REMAP (n : Nat) : Fld := ⟨0xa00000 + 0x10000 * (n % 16), 22, 22⟩
def SEC_CTRL_DUAL (n : Nat) : Fld := ⟨0xa00000 + 0x10000 * (n % 16), 16, 16⟩
def SEC_CTRL_ASSIGNED (n : Nat) : Fld := ⟨0xa00000 + 0x10000 * (n % 16), 4, 4⟩
def SEC_CTRL_REGION (n : Nat) : Fld := ⟨0xa00000 + 0x10000 * (n % 16), 3, 0⟩
def SEC_STATUS_VERIFY_BUSY (n : Nat) : Fld := ⟨0xa00004 + 0x10000 * (n % 16), 31, 31⟩
def SEC_STATUS_VERIFY_OK (n : Nat) : Fld := ⟨0xa00004 + 0x10000 * (n % 16), 30, 30⟩
def SEC_STATUS_VERIFY_REFUSED (n : Nat) : Fld := ⟨0xa00004 + 0x10000 * (n % 16), 29, 29⟩
def SEC_STATUS_REMAP_BUSY (n : Nat) : Fld := ⟨0xa00004 + 0x10000 * (n % 16), 28, 28⟩
def SEC_STATUS_REMAP_ERR (n : Nat) : Fld := ⟨0xa00004 + 0x10000 * (n % 16), 27, 27⟩
def SEC_STATUS_FOLD_MISMATCH (n : Nat) : Fld := ⟨0xa00004 + 0x10000 * (n % 16), 26, 26⟩
def SEC_STATUS_PSTATE (n : Nat) : Fld := ⟨0xa00004 + 0x10000 * (n % 16), 25, 24⟩
def SEC_STATUS_UNUSABLE (n : Nat) : Fld := ⟨0xa00004 + 0x10000 * (n % 16), 23, 23⟩
def SEC_PHYS_MAP_REMAP_POS (n : Nat) : Fld := ⟨0xa00008 + 0x10000 * (n % 16), 10, 8⟩
def SEC_PHYS_MAP_SPARE_IN_USE (n : Nat) : Fld := ⟨0xa00008 + 0x10000 * (n % 16), 4, 4⟩
def SEC_PHYS_MAP_SPARE_FOR (n : Nat) : Fld := ⟨0xa00008 + 0x10000 * (n % 16), 2, 0⟩
def SEC_WIN_LEN_LEN_B (n : Nat) : Fld := ⟨0xa0000c + 0x10000 * (n % 16), 25, 16⟩
def SEC_WIN_LEN_LEN_A (n : Nat) : Fld := ⟨0xa0000c + 0x10000 * (n % 16), 9, 0⟩
def SEC_FOLD_STAT_VALID (n : Nat) : Fld := ⟨0xa00014 + 0x10000 * (n % 16), 23, 23⟩
def SEC_FOLD_CNT_COUNT (n : Nat) : Fld := ⟨0xa00018 + 0x10000 * (n % 16), 31, 0⟩
def SEC_LOCK (n : Nat) : Fld := ⟨0xa0001c + 0x10000 * (n % 16), 0, 0⟩
def IRC_CTRL_QUAR_CLR (n : Nat) : Fld := ⟨0xb00000 + 0x10000 * (n % 4), 1, 1⟩
def IRC_CTRL_EN (n : Nat) : Fld := ⟨0xb00000 + 0x10000 * (n % 4), 0, 0⟩
def IRC_STATUS_STATE (n : Nat) : Fld := ⟨0xb00004 + 0x10000 * (n % 4), 31, 29⟩
def IRC_STATUS_UPSTREAM (n : Nat) : Fld := ⟨0xb00004 + 0x10000 * (n % 4), 28, 28⟩
def IRC_STATUS_PEER_VALID (n : Nat) : Fld := ⟨0xb00004 + 0x10000 * (n % 4), 27, 27⟩
def IRC_STATUS_PEER_ID (n : Nat) : Fld := ⟨0xb00004 + 0x10000 * (n % 4), 26, 21⟩
def IRC_STATUS_QUAR (n : Nat) : Fld := ⟨0xb00004 + 0x10000 * (n % 4), 3, 3⟩
def IRC_STATUS_VIOL (n : Nat) : Fld := ⟨0xb00004 + 0x10000 * (n % 4), 2, 2⟩
def IRC_STATUS_NACK_RX (n : Nat) : Fld := ⟨0xb00004 + 0x10000 * (n % 4), 1, 1⟩
def IRC_STATUS_LINK_DOWN (n : Nat) : Fld := ⟨0xb00004 + 0x10000 * (n % 4), 0, 0⟩
def IRC_HOP_DELAY_VALID (n : Nat) : Fld := ⟨0xb00010 + 0x10000 * (n % 4), 31, 31⟩
def IRC_HOP_DELAY_DELAY (n : Nat) : Fld := ⟨0xb00010 + 0x10000 * (n % 4), 23, 0⟩
def IRC_DLY_ASYM_ASYM (n : Nat) : Fld := ⟨0xb00014 + 0x10000 * (n % 4), 15, 0⟩
def IRC_QUAR_CFG_TIME (n : Nat) : Fld := ⟨0xb00018 + 0x10000 * (n % 4), 23, 8⟩
def IRC_QUAR_CFG_LIMIT (n : Nat) : Fld := ⟨0xb00018 + 0x10000 * (n % 4), 7, 0⟩
def IRC_VIOL_CNT_COUNT (n : Nat) : Fld := ⟨0xb00020 + 0x10000 * (n % 4), 31, 0⟩
def IRC_NACK_RX_CNT_COUNT (n : Nat) : Fld := ⟨0xb00024 + 0x10000 * (n % 4), 31, 0⟩
def IRC_STALE_CNT_COUNT (n : Nat) : Fld := ⟨0xb00028 + 0x10000 * (n % 4), 31, 0⟩
def IRC_QUAR_CNT_COUNT (n : Nat) : Fld := ⟨0xb0002c + 0x10000 * (n % 4), 31, 0⟩
def GTH_CTRL_TRAIN (n : Nat) : Fld := ⟨0xc00000 + 0x10000 * (n % 4), 31, 31⟩
def GTH_CTRL_CLK_MODE (n : Nat) : Fld := ⟨0xc00000 + 0x10000 * (n % 4), 11, 10⟩
def GTH_CTRL_RATIO (n : Nat) : Fld := ⟨0xc00000 + 0x10000 * (n % 4), 9, 8⟩
def GTH_CTRL_TRACK (n : Nat) : Fld := ⟨0xc00000 + 0x10000 * (n % 4), 4, 4⟩
def GTH_CTRL_EN (n : Nat) : Fld := ⟨0xc00000 + 0x10000 * (n % 4), 0, 0⟩
def GTH_LANE_EN_LANES (n : Nat) : Fld := ⟨0xc00004 + 0x10000 * (n % 4), 23, 0⟩
def GTH_TRAIN_CFG_EYE_MIN (n : Nat) : Fld := ⟨0xc0000c + 0x10000 * (n % 4), 5, 0⟩
def GTH_STATUS_TRAIN_BUSY (n : Nat) : Fld := ⟨0xc00010 + 0x10000 * (n % 4), 31, 31⟩
def GTH_STATUS_TRAINED (n : Nat) : Fld := ⟨0xc00010 + 0x10000 * (n % 4), 30, 30⟩
def GTH_STATUS_DISCARD (n : Nat) : Fld := ⟨0xc00010 + 0x10000 * (n % 4), 2, 2⟩
def GTH_STATUS_ALIGN_LOST (n : Nat) : Fld := ⟨0xc00010 + 0x10000 * (n % 4), 1, 1⟩
def GTH_STATUS_TRAIN_FAIL (n : Nat) : Fld := ⟨0xc00010 + 0x10000 * (n % 4), 0, 0⟩
def GTH_LANE_LOCK_LOCK (n : Nat) : Fld := ⟨0xc00014 + 0x10000 * (n % 4), 23, 0⟩
def GTH_DISCARD_CNT_COUNT (n : Nat) : Fld := ⟨0xc00018 + 0x10000 * (n % 4), 31, 0⟩
def GTH_ALIGN_LOST_CNT_COUNT (n : Nat) : Fld := ⟨0xc0001c + 0x10000 * (n % 4), 31, 0⟩
def GTH_LANE_EYE_TAP (n k : Nat) : Fld := ⟨0xc00040 + 0x10000 * (n % 4) + 0x4 * (k % 24), 21, 16⟩
def GTH_LANE_EYE_EYE (n k : Nat) : Fld := ⟨0xc00040 + 0x10000 * (n % 4) + 0x4 * (k % 24), 13, 8⟩
def GTH_LANE_EYE_SLIP (n k : Nat) : Fld := ⟨0xc00040 + 0x10000 * (n % 4) + 0x4 * (k % 24), 3, 0⟩
def GTH_PBS_CTRL_TAG_AGE (n k : Nat) : Fld := ⟨0xc00100 + 0x10000 * (n % 4) + 0x20 * (k % 2), 31, 16⟩
def GTH_PBS_CTRL_EN (n k : Nat) : Fld := ⟨0xc00100 + 0x10000 * (n % 4) + 0x20 * (k % 2), 0, 0⟩
def GTH_PBS_STAT_TAGQ (n k : Nat) : Fld := ⟨0xc00104 + 0x10000 * (n % 4) + 0x20 * (k % 2), 31, 28⟩
def GTH_PBS_STAT_FORMAT (n k : Nat) : Fld := ⟨0xc00104 + 0x10000 * (n % 4) + 0x20 * (k % 2), 2, 2⟩
def GTH_PBS_STAT_TAG_ERR (n k : Nat) : Fld := ⟨0xc00104 + 0x10000 * (n % 4) + 0x20 * (k % 2), 1, 1⟩
def GTH_PBS_STAT_SYNC_ERR (n k : Nat) : Fld := ⟨0xc00104 + 0x10000 * (n % 4) + 0x20 * (k % 2), 0, 0⟩
def GTH_SYNC_ERR_CNT_COUNT (n k : Nat) : Fld := ⟨0xc00108 + 0x10000 * (n % 4) + 0x20 * (k % 2), 31, 0⟩
def GTH_TAG_ERR_CNT_COUNT (n k : Nat) : Fld := ⟨0xc0010c + 0x10000 * (n % 4) + 0x20 * (k % 2), 31, 0⟩
def GTH_FORMAT_CNT_COUNT (n k : Nat) : Fld := ⟨0xc00110 + 0x10000 * (n % 4) + 0x20 * (k % 2), 31, 0⟩
def MRV_CTRL_RING (n : Nat) : Fld := ⟨0xc80000 + 0x10000 * (n % 16), 21, 20⟩
def MRV_CTRL_SRC (n : Nat) : Fld := ⟨0xc80000 + 0x10000 * (n % 16), 18, 16⟩
def MRV_CTRL_REGION (n : Nat) : Fld := ⟨0xc80000 + 0x10000 * (n % 16), 15, 12⟩
def MRV_CTRL_PACK_EN (n : Nat) : Fld := ⟨0xc80000 + 0x10000 * (n % 16), 4, 4⟩
def MRV_CTRL_CREC_EN (n : Nat) : Fld := ⟨0xc80000 + 0x10000 * (n % 16), 3, 3⟩
def MRV_CTRL_PATCH_EN (n : Nat) : Fld := ⟨0xc80000 + 0x10000 * (n % 16), 2, 2⟩
def MRV_CTRL_RING_EN (n : Nat) : Fld := ⟨0xc80000 + 0x10000 * (n % 16), 1, 1⟩
def MRV_CTRL_EN (n : Nat) : Fld := ⟨0xc80000 + 0x10000 * (n % 16), 0, 0⟩
def MRV_STATUS_ACTIVE (n : Nat) : Fld := ⟨0xc80004 + 0x10000 * (n % 16), 31, 31⟩
def MRV_STATUS_LEADER (n : Nat) : Fld := ⟨0xc80004 + 0x10000 * (n % 16), 30, 30⟩
def MRV_STATUS_CFG_ERR (n : Nat) : Fld := ⟨0xc80004 + 0x10000 * (n % 16), 7, 7⟩
def MRV_STATUS_FIFO_OVF (n : Nat) : Fld := ⟨0xc80004 + 0x10000 * (n % 16), 6, 6⟩
def MRV_STATUS_COEF_BUSY (n : Nat) : Fld := ⟨0xc80004 + 0x10000 * (n % 16), 5, 5⟩
def MRV_STATUS_BATCH_DROP (n : Nat) : Fld := ⟨0xc80004 + 0x10000 * (n % 16), 4, 4⟩
def MRV_STATUS_CAND_DROP (n : Nat) : Fld := ⟨0xc80004 + 0x10000 * (n % 16), 3, 3⟩
def MRV_STATUS_PATCH_DROP (n : Nat) : Fld := ⟨0xc80004 + 0x10000 * (n % 16), 2, 2⟩
def MRV_STATUS_OPEN_FULL (n : Nat) : Fld := ⟨0xc80004 + 0x10000 * (n % 16), 1, 1⟩
def MRV_STATUS_TAINT (n : Nat) : Fld := ⟨0xc80004 + 0x10000 * (n % 16), 0, 0⟩
def MRV_SPAN (n : Nat) : Fld := ⟨0xc80008 + 0x10000 * (n % 16), 28, 16⟩
def MRV_SPAN_COL_FIRST (n : Nat) : Fld := ⟨0xc80008 + 0x10000 * (n % 16), 12, 0⟩
def MRV_RINGOUT_FMT (n : Nat) : Fld := ⟨0xc8000c + 0x10000 * (n % 16), 17, 16⟩
def MRV_RINGOUT_OFFSET (n : Nat) : Fld := ⟨0xc8000c + 0x10000 * (n % 16), 15, 0⟩
def MRV_CORR_CORR_EN (n : Nat) : Fld := ⟨0xc80010 + 0x10000 * (n % 16), 0, 0⟩
def MRV_CONV_CFG_SHIFT (n : Nat) : Fld := ⟨0xc80014 + 0x10000 * (n % 16), 20, 16⟩
def MRV_CONV_CFG_K (n : Nat) : Fld := ⟨0xc80014 + 0x10000 * (n % 16), 11, 10⟩
def MRV_CONV_CFG_SET (n : Nat) : Fld := ⟨0xc80014 + 0x10000 * (n % 16), 2, 0⟩
def MRV_CONV_BIAS_BIAS (n : Nat) : Fld := ⟨0xc80018 + 0x10000 * (n % 16), 31, 0⟩
def MRV_CONV_SW_ARM (n : Nat) : Fld := ⟨0xc8001c + 0x10000 * (n % 16), 31, 31⟩
def MRV_CONV_SW_SET (n : Nat) : Fld := ⟨0xc8001c + 0x10000 * (n % 16), 2, 0⟩
def MRV_CONV_SW_LINE_LO_AT_LINE_LO (n : Nat) : Fld := ⟨0xc80020 + 0x10000 * (n % 16), 31, 0⟩
def MRV_CONV_SW_LINE_HI_AT_LINE_HI (n : Nat) : Fld := ⟨0xc80024 + 0x10000 * (n % 16), 15, 0⟩
def MRV_EXTRACT_MAX_ROWS (n : Nat) : Fld := ⟨0xc80030 + 0x10000 * (n % 16), 23, 16⟩
def MRV_EXTRACT_MIN_AREA (n : Nat) : Fld := ⟨0xc80030 + 0x10000 * (n % 16), 15, 0⟩
def MRV_PACK_FEAT (n : Nat) : Fld := ⟨0xc80034 + 0x10000 * (n % 16), 31, 28⟩
def MRV_PACK_SLOTS (n : Nat) : Fld := ⟨0xc80034 + 0x10000 * (n % 16), 25, 20⟩
def MRV_PACK_ISHIFT (n : Nat) : Fld := ⟨0xc80034 + 0x10000 * (n % 16), 19, 16⟩
def MRV_PACK_SLOT_CNT (n : Nat) : Fld := ⟨0xc80034 + 0x10000 * (n % 16), 13, 8⟩
def MRV_PACK_SLOT_BASE (n : Nat) : Fld := ⟨0xc80034 + 0x10000 * (n % 16), 4, 0⟩
def MRV_PATCH_BASE_LO_BASE_LO (n : Nat) : Fld := ⟨0xc80040 + 0x10000 * (n % 16), 31, 13⟩
def MRV_PATCH_BASE_HI_ADDR_HI (n : Nat) : Fld := ⟨0xc80044 + 0x10000 * (n % 16), 2, 0⟩
def MRV_PATCH_HDR_HI_ADDR_HI (n : Nat) : Fld := ⟨0xc8004c + 0x10000 * (n % 16), 2, 0⟩
def MRV_CREC_BASE_HI_ADDR_HI (n : Nat) : Fld := ⟨0xc8005c + 0x10000 * (n % 16), 2, 0⟩
def MRV_PATCH_HDR_LO_ADDR_LO (n : Nat) : Fld := ⟨0xc80048 + 0x10000 * (n % 16), 31, 6⟩
def MRV_CREC_BASE_LO_ADDR_LO (n : Nat) : Fld := ⟨0xc80058 + 0x10000 * (n % 16), 31, 6⟩
def MRV_PATCH_CFG_LOG2N (n : Nat) : Fld := ⟨0xc80050 + 0x10000 * (n % 16), 4, 0⟩
def MRV_CREC_CFG_LOG2N (n : Nat) : Fld := ⟨0xc80060 + 0x10000 * (n % 16), 4, 0⟩
def MRV_CREC_SEQ_SEQ (n : Nat) : Fld := ⟨0xc80064 + 0x10000 * (n % 16), 31, 0⟩
def MRV_CAND_CNT_COUNT (n : Nat) : Fld := ⟨0xc80080 + 0x10000 * (n % 16), 31, 0⟩
def MRV_CAND_DROP_CNT_COUNT (n : Nat) : Fld := ⟨0xc80084 + 0x10000 * (n % 16), 31, 0⟩
def MRV_PATCH_DROP_CNT_COUNT (n : Nat) : Fld := ⟨0xc80088 + 0x10000 * (n % 16), 31, 0⟩
def MRV_BATCH_CNT_COUNT (n : Nat) : Fld := ⟨0xc8008c + 0x10000 * (n % 16), 31, 0⟩
def MRV_BATCH_DROP_CNT_COUNT (n : Nat) : Fld := ⟨0xc80090 + 0x10000 * (n % 16), 31, 0⟩
def MRV_FIFO_OVF_CNT_COUNT (n : Nat) : Fld := ⟨0xc80094 + 0x10000 * (n % 16), 31, 0⟩
def MRV_TAINT_CNT_COUNT (n : Nat) : Fld := ⟨0xc80098 + 0x10000 * (n % 16), 31, 0⟩
def MRV_SMALL_CNT_COUNT (n : Nat) : Fld := ⟨0xc8009c + 0x10000 * (n % 16), 31, 0⟩
def MRV_COLUMN_ENTRY (n k : Nat) : Fld := ⟨0xc88000 + 0x10000 * (n % 16) + 0x4 * (k % 4096), 31, 0⟩
def HBM_CTRL_TEMP_HI (n : Nat) : Fld := ⟨0xe00000 + 0x10000 * (n % 2), 15, 8⟩
def HBM_CTRL_SCRUB_EN (n : Nat) : Fld := ⟨0xe00000 + 0x10000 * (n % 2), 2, 2⟩
def HBM_CTRL_HALF_RATE (n : Nat) : Fld := ⟨0xe00000 + 0x10000 * (n % 2), 1, 1⟩
def HBM_STATUS_TRAINED (n : Nat) : Fld := ⟨0xe00004 + 0x10000 * (n % 2), 31, 31⟩
def HBM_STATUS_SELF_REFRESH (n : Nat) : Fld := ⟨0xe00004 + 0x10000 * (n % 2), 30, 30⟩
def HBM_STATUS_LINK_ERR (n : Nat) : Fld := ⟨0xe00004 + 0x10000 * (n % 2), 29, 29⟩
def HBM_STATUS_TEMP_HIGH (n : Nat) : Fld := ⟨0xe00004 + 0x10000 * (n % 2), 28, 28⟩
def HBM_STATUS_RING_ERR (n : Nat) : Fld := ⟨0xe00004 + 0x10000 * (n % 2), 27, 27⟩
def HBM_TEMP (n : Nat) : Fld := ⟨0xe00008 + 0x10000 * (n % 2), 7, 0⟩
def HBM_CE_CNT_COUNT (n : Nat) : Fld := ⟨0xe00010 + 0x10000 * (n % 2), 31, 0⟩
def HBM_UE_CNT_COUNT (n : Nat) : Fld := ⟨0xe00014 + 0x10000 * (n % 2), 31, 0⟩
def HBM_UE_ADDR_HI_VALID (n : Nat) : Fld := ⟨0xe0001c + 0x10000 * (n % 2), 31, 31⟩
def HBM_RING_BASE_LO_BASE_LO (n k : Nat) : Fld := ⟨0xe00200 + 0x10000 * (n % 2) + 0x20 * (k % 4), 31, 20⟩
def HBM_RING_BASE_HI_EN (n k : Nat) : Fld := ⟨0xe00204 + 0x10000 * (n % 2) + 0x20 * (k % 4), 31, 31⟩
def HBM_RING_BASE_HI_BASE_HI (n k : Nat) : Fld := ⟨0xe00204 + 0x10000 * (n % 2) + 0x20 * (k % 4), 2, 0⟩
def HBM_RING_HDR_LO_HDR_LO (n k : Nat) : Fld := ⟨0xe00208 + 0x10000 * (n % 2) + 0x20 * (k % 4), 31, 6⟩
def HBM_RING_HDR_HI_HDR_HI (n k : Nat) : Fld := ⟨0xe0020c + 0x10000 * (n % 2) + 0x20 * (k % 4), 2, 0⟩
def HBM_RING_CFG_LOG2N (n k : Nat) : Fld := ⟨0xe00210 + 0x10000 * (n % 2) + 0x20 * (k % 4), 28, 24⟩
def HBM_RING_CFG_STRIDE (n k : Nat) : Fld := ⟨0xe00210 + 0x10000 * (n % 2) + 0x20 * (k % 4), 15, 0⟩
def HBM_LOCK (n : Nat) : Fld := ⟨0xe00ffc + 0x10000 * (n % 2), 0, 0⟩
def PCI_STAT_READY : Fld := ⟨0xf00000, 31, 31⟩
def PCI_STAT_L0 : Fld := ⟨0xf00000, 30, 30⟩
def PCI_STAT_SPEED : Fld := ⟨0xf00000, 29, 27⟩
def PCI_STAT_WIDTH : Fld := ⟨0xf00000, 26, 22⟩
def PCI_STAT_RESET_SEEN : Fld := ⟨0xf00000, 0, 0⟩
def PCI_MBX_STAT_READY : Fld := ⟨0xf00004, 31, 31⟩
def PCI_MBX_STAT_OVF : Fld := ⟨0xf00004, 0, 0⟩
def PCI_MBX_TAIL_TAIL : Fld := ⟨0xf00008, 6, 0⟩
def PCI_MBX_HEAD_HEAD : Fld := ⟨0xf0000c, 6, 0⟩
def PCI_MBX_CPL_HEAD_HEAD : Fld := ⟨0xf00010, 6, 0⟩
def PCI_MBX_CPL_TAIL_TAIL : Fld := ⟨0xf00014, 6, 0⟩
def PCI_COR_CNT_COUNT : Fld := ⟨0xf00018, 31, 0⟩
def PCI_UNCOR_CNT_COUNT : Fld := ⟨0xf0001c, 31, 0⟩
def PCI_DROP_CNT_COUNT : Fld := ⟨0xf00020, 31, 0⟩
def PCI_MBX_ERR_CNT_COUNT : Fld := ⟨0xf00024, 31, 0⟩
def ETH_CTRL_RX_HOST (n : Nat) : Fld := ⟨0xf10000 + 0x10000 * (n % 4), 4, 4⟩
def ETH_CTRL_EN (n : Nat) : Fld := ⟨0xf10000 + 0x10000 * (n % 4), 0, 0⟩
def ETH_STAT_LINK (n : Nat) : Fld := ⟨0xf10004 + 0x10000 * (n % 4), 31, 31⟩
def ETH_STAT_RX_ERR (n : Nat) : Fld := ⟨0xf10004 + 0x10000 * (n % 4), 0, 0⟩
def ETH_RX_CFG_LOG2N (n : Nat) : Fld := ⟨0xf10010 + 0x10000 * (n % 4), 3, 0⟩
def ETH_RX_HEAD_HEAD (n : Nat) : Fld := ⟨0xf10014 + 0x10000 * (n % 4), 15, 0⟩
def ETH_RX_TAIL_TAIL (n : Nat) : Fld := ⟨0xf10018 + 0x10000 * (n % 4), 15, 0⟩
def ETH_PTP_OFS_SEC_LO_SEC_LO (n : Nat) : Fld := ⟨0xf10020 + 0x10000 * (n % 4), 31, 0⟩
def ETH_PTP_OFS_SEC_HI_SEC_HI (n : Nat) : Fld := ⟨0xf10024 + 0x10000 * (n % 4), 15, 0⟩
def ETH_LAT_TX_LAT (n : Nat) : Fld := ⟨0xf1002c + 0x10000 * (n % 4), 31, 16⟩
def ETH_LAT_RX_LAT (n : Nat) : Fld := ⟨0xf1002c + 0x10000 * (n % 4), 15, 0⟩
def ETH_TX_OK_CNT_COUNT (n : Nat) : Fld := ⟨0xf10040 + 0x10000 * (n % 4), 31, 0⟩
def ETH_RX_OK_CNT_COUNT (n : Nat) : Fld := ⟨0xf10044 + 0x10000 * (n % 4), 31, 0⟩
def ETH_RX_FCS_CNT_COUNT (n : Nat) : Fld := ⟨0xf10048 + 0x10000 * (n % 4), 31, 0⟩
def ETH_RX_DROP_CNT_COUNT (n : Nat) : Fld := ⟨0xf1004c + 0x10000 * (n % 4), 31, 0⟩
def ETH_TS_OVF_CNT_COUNT (n : Nat) : Fld := ⟨0xf10050 + 0x10000 * (n % 4), 31, 0⟩
def CLK_PLL_CFG_APPLY (k : Nat) : Fld := ⟨0x20100 + 0x20 * (k % 8), 31, 31⟩
def CLK_PLL_CFG_N (k : Nat) : Fld := ⟨0x20100 + 0x20 * (k % 8), 22, 16⟩
def CLK_PLL_FRAC (k : Nat) : Fld := ⟨0x20104 + 0x20 * (k % 8), 23, 0⟩
def CLK_PLL_DEN (k : Nat) : Fld := ⟨0x20108 + 0x20 * (k % 8), 23, 0⟩

end Sys2Proof.Machine.F
end

