-- ==== Sys2Proof/Machine/Tab.lean ====
section
/-!
DEFINITION. Sparse storage in one canonical form: a list of (key, value) pairs with strictly rising keys,
no pair of which holds the value an unlisted key reads as. Register space, HBM, the instruction layers,
the data memories and every other large store of the VK1312 is such a table.
-/

namespace Sys2Proof.Machine

/-- A store keyed by number; `d k` is what an unlisted key `k` reads as. -/
abbrev Tab (α : Type) := List (Nat × α)

/-- The value at key `k`. -/
def Tab.get {α : Type} (d : Nat → α) : Tab α → Nat → α
  | [], k => d k
  | e :: t, k => if e.1 = k then e.2 else Tab.get d t k

/-- The table without key `k`. -/
def Tab.erase {α : Type} : Tab α → Nat → Tab α
  | [], _ => []
  | e :: t, k => if e.1 = k then Tab.erase t k else e :: Tab.erase t k

/-- The table with the pair put in before the first greater key. -/
def Tab.insert {α : Type} : Tab α → Nat → α → Tab α
  | [], k, v => [(k, v)]
  | e :: t, k, v => if k < e.1 then (k, v) :: e :: t else e :: Tab.insert t k v

/-- Write `v` at `k`; writing what an unlisted key reads as removes the entry. -/
def Tab.set {α : Type} [DecidableEq α] (d : Nat → α) (t : Tab α) (k : Nat) (v : α) : Tab α :=
  if v = d k then Tab.erase t k else Tab.insert (Tab.erase t k) k v

/-- Every key from `lo` up to but not including `hi` reads its default again. -/
def Tab.clear {α : Type} (t : Tab α) (lo hi : Nat) : Tab α :=
  t.filter fun e => !(decide (lo ≤ e.1) && decide (e.1 < hi))

/-- The canonical form. -/
abbrev Tab.wf {α : Type} (d : Nat → α) (t : Tab α) : Prop :=
  t.Pairwise (fun a b => a.1 < b.1) ∧ ∀ e ∈ t, e.2 ≠ d e.1

/-- A byte store that reads 0 where nothing is listed. -/
abbrev Bytes := Tab Byte

/-- The byte at an address. -/
def Bytes.get (m : Bytes) (a : Nat) : Byte := Tab.get (fun _ => 0) m a

/-- Store one byte. -/
def Bytes.set (m : Bytes) (a : Nat) (b : Byte) : Bytes := Tab.set (fun _ => 0) m a b

/-- Store bytes upward from an address. -/
def Bytes.write (m : Bytes) (a : Nat) : List Byte → Bytes
  | [] => m
  | b :: bs => Bytes.write (Bytes.set m a b) (a + 1) bs

/-- `n` bytes upward from an address. -/
def Bytes.read (m : Bytes) (a n : Nat) : List Byte := (List.range n).map fun i => Bytes.get m (a + i)

/-- The canonical form of a byte store. -/
abbrev Bytes.wf (m : Bytes) : Prop := Tab.wf (fun _ => (0 : Byte)) m

/-- Apply `f` once for each element of a list, in its order. -/
def forEach {α σ : Type} (l : List α) (f : α → σ → σ) (s : σ) : σ := l.foldl (fun s a => f a s) s

end Sys2Proof.Machine
end

