-- ==== Sys2Proof/Machine/State.lean ====
section
/-!
DEFINITION. The state of the VK1312 as plain data. Every control-space register and every window that control space
shows lives in `regs`, keyed by its control-space byte offset; the rest is what the spec gives the machine outside
its registers: memories, layers, buffers, queues, operations in progress, and the outputs the device has made.
-/

namespace Sys2Proof.Machine

/-- How a run can stop with a fault. There is no way: the spec gives every command an effect in every state. -/
inductive Fault
  deriving DecidableEq, Repr

/-- Why a command has no meaning. -/
inductive Refusal
  /-- Raised by `exec` alone, for a command that has no meaning yet. Safe: the run stops. -/
  | notModelled (mnemonic : String)
  deriving DecidableEq, Repr

/-! ### Array, tiles and gaffers (R33–R124) -/

/-- An entry of a gaffer's trigger queue (R108). -/
structure TrigEntry where
  line : Nat
  count : Nat
  merged : Bool
  deriving DecidableEq, Repr

/-- Where the current cycle of a region stands: in its window, or at the last boundary step performed (R49). -/
inductive Phase
  | none | window | b0 | b3 | b4 | stalled | b8 | b12 | b16
  deriving DecidableEq, Repr

/-- A cycle a RUN has issued: its window, whether it exchanges (R120), and the COMMIT descriptors attached to it (R119). -/
structure Cycle where
  win : Bool
  xchg : Bool
  commits : List Nat
  deriving DecidableEq, Repr

/-- The latched special operands that are the same for a whole region (R62, R89). -/
structure SpecialOps where
  first : Bool
  switched : Bool
  overrun : Bool
  line : Nat
  deriving DecidableEq, Repr

/-- An INJECT in flight, with the values it read when it started (R118, R124). -/
structure Inject where
  addr : Nat
  len : Nat
  line : Nat
  count : Nat
  deriving DecidableEq, Repr

/-- A gob-out drain of a COMMIT that has started (R119, R264). -/
structure Drain where
  record : Nat
  seq : Nat
  blocks : Nat
  time : Nat
  line : Nat
  tiles : List Nat
  deriving DecidableEq, Repr

/-- What a gaffer and its region hold outside GAF[n]'s registers (R97–R124, R392). -/
structure Gaffer where
  queue : List TrigEntry
  loops : List (Nat × Nat)
  phase : Phase
  cur : Cycle
  next : Option Cycle
  nextFixed : Bool
  ops : SpecialOps
  nextOps : SpecialOps
  fresh : Bool
  prevWin : Option Bool
  overrunSeen : Bool
  xchgNext : Bool
  hit : Bool
  haltHit : Bool
  outBad : Bool
  /-- The program has run past word 511 (R106). -/
  past : Bool
  /-- A fence that waits for b23: its CAUSE and fault source (R392). -/
  fence : Option (Nat × Nat)
  stop : Option Nat
  restart : Bool
  dmClear : Bool
  /-- A start that waits for its sectors to wake: is it a restart, and was DM lost (R105). -/
  waking : Option (Bool × Bool)
  dDepth : Nat
  /-- Counts of taken entries that its gob sources have not been told yet (R111), and swaps they have not been told. -/
  mergeNotes : List Nat
  swapNotes : Nat
  injects : List Inject
  drains : List Drain
  commitTime : Nat
  deriving DecidableEq, Repr

/-- A gaffer as a device reset leaves it. -/
def Gaffer.init : Gaffer :=
  { queue := [], loops := [], phase := .none, cur := ⟨false, false, []⟩, next := none, nextFixed := false,
    ops := ⟨false, false, false, 0⟩, nextOps := ⟨false, false, false, 0⟩, fresh := true, prevWin := none,
    overrunSeen := false, xchgNext := false, hit := false, haltHit := false, outBad := false, past := false, fence := none,
    stop := none, restart := false, dmClear := false, waking := none, dDepth := 2,
    mergeNotes := [], swapNotes := 0, injects := [], drains := [], commitTime := 0 }

/-- Whose a gob-in write is: a DMA descriptor by engine and slot, and the place of its bytes in the data (R261). -/
structure Source where
  eng : Nat
  slot : Nat
  off : Nat
  deriving DecidableEq, Repr

/-- A gob-in write that waits in a tile's gateway queue from b0 to b3 (R87): data at an offset, or a close. -/
inductive GobWrite
  | data (off : Nat) (bytes : List Byte) (by_ : Option Source)
  | close (hdr : Nat) (by_ : Option Source)
  deriving DecidableEq, Repr

/-- A far-out slot set that waits in the Ircel port for the importer's b4 (R93). -/
structure FarWait where
  slot : Nat
  tag : Nat
  data : Nat
  deriving DecidableEq, Repr

/-- What a logical tile holds outside MPU[t]'s registers: which physical sides are committed or read, the committed
status word (R89), the gateway queue (R87), waiting far slots (R93), and the capture counters (R74). -/
structure Tile where
  outSide : Bool
  farSide : Bool
  status : Nat
  waiting : List GobWrite
  farWait : List FarWait
  farSeen : List Nat
  capCycle : Nat
  /-- One more than the window step that last appended, the place in the ring where it began, and its entries there. -/
  capStep : Nat
  capFrom : Nat
  capCount : Nat
  /-- One more than the window step of this cycle's recorded breakpoint, and its BP or lane (R72). -/
  brkAt : Nat × Nat
  /-- Route rows whose failure this cycle has reported (R81). -/
  rowsBad : List Nat
  poison : Nat
  poisonLatched : Bool
  /-- DM reads of this cycle that have failed parity (R395). -/
  dmFails : Nat
  deriving DecidableEq, Repr

/-- A tile as a device reset leaves it. -/
def Tile.init : Tile :=
  { outSide := false, farSide := false, status := 0, waiting := [], farWait := [], farSeen := [], capCycle := 0,
    capStep := 0, capFrom := 0, capCount := 0, brkAt := (0, 0), rowsBad := [], poison := 0, poisonLatched := false, dmFails := 0 }

/-! ### Memory ports and HBM (R125–R148) -/

/-- A memory-port request that holds a tag (R127–R135). -/
structure MemReq where
  tag : Nat
  slot : Nat
  write : Bool
  addr : Nat
  be : Nat
  data : List Byte
  due : Nat
  performed : Bool
  answered : Bool
  err : Bool
  poisoned : Bool
  stale : Bool
  late : Bool
  deriving DecidableEq, Repr

/-- A memory port unit: its outstanding requests in issue order, and the refused reads with the cycle they are due for. -/
structure Port where
  reqs : List MemReq
  refused : List (Nat × Nat)
  deriving DecidableEq, Repr

/-- A port as a device reset leaves it. -/
def Port.init : Port := ⟨[], []⟩

/-! ### Outputs (what the device has sent) -/

/-- What the endpoint logs under AER (R269, R272). -/
inductive AerErr
  | unsupported | poisoned | timeout | unexpected | malformed | ecrc
  /-- A receiver error that the link's replay corrected. -/
  | replay
  deriving DecidableEq, Repr

/-- What the function's capability structures report (R268). -/
structure Capabilities where
  maxGen : Nat
  maxLanes : Nat
  maxPayload : Nat
  maxReadRequest : Nat
  /-- Tag bits as requester and completer, and non-posted requests outstanding. -/
  tagBits : Nat
  nonPosted : Nat
  msixVectors : Nat
  msi : Bool
  intx : Bool
  aer : Bool
  ecrc : Bool
  /-- Completion Timeout ranges A, B, C and D, and disable. -/
  timeoutRanges : List Bool
  timeoutDisable : Bool
  d3hot : Bool
  aspmL0s : Bool
  aspmL1 : Bool
  l11 : Bool
  l12 : Bool
  flr : Bool
  rrsVisibility : Bool
  doe : Bool
  sriov : Bool
  ats : Bool
  pasid : Bool
  io : Bool
  expansionRom : Bool
  atomics : Bool
  tph : Bool
  ltr : Bool
  resizableBar : Bool
  deriving DecidableEq, Repr

/-- What leaves the device or answers a command, in order. The list of them is the model's own record. -/
inductive Output
  /-- The answer to a control-space read on a path. -/
  | read (path : Path) (off : Nat) (val : Nat)
  /-- An MSI-X message: address and data of its table entry (R284). -/
  | msix (addr data : Nat)
  /-- Bytes posted to host memory (R261, R275). -/
  | hostWrite (addr : Nat) (bytes : List Byte)
  /-- A read of host memory, under a tag (R261, R268). -/
  | hostRead (tag addr len : Nat)
  /-- A PCIe completion: `status` 0 successful, 1 Unsupported Request, 2 Request Retry Status; `poisoned` data (R272). -/
  | completion (status : Nat) (poisoned : Bool) (bytes : List Byte)
  /-- An access that a controller makes to its stack: channel, pseudo-channel, bank and local address (R138). -/
  | dram (stack channel pseudo bank loc : Nat) (write : Bool)
  /-- A configuration read of the capability structures (R268), and of the AER log (R272). -/
  | capabilities (c : Capabilities)
  | aerLog (errs : List AerErr)
  /-- The data of an HBM request that is not a memory port's; `err` is an error response (R139). -/
  | hbm (err : Bool) (bytes : List Byte)
  /-- An Ircel frame sent on a port (R164). -/
  | irc (port : Nat) (hdr : FrameHdr) (msg : IrcMsg)
  /-- An Ethernet frame sent by a port, with its FCS (R276). -/
  | ethTx (port : Nat) (bytes : List Byte)
  /-- A lane word presented at a bank's word port (R191). -/
  | word (bank lane val : Nat)
  /-- A trigger port strobe with its line (R234). -/
  | trigStrobe (part line : Nat)
  /-- A line released: the sensor trigger (R160). -/
  | release (line time : Nat)
  /-- A request presented on a partition's window port (R235). -/
  | window (part : Nat) (write : Bool) (addr : Nat) (be : Nat) (bytes : List Byte)
  /-- The answer of a user-window request (R235, R236). -/
  | windowAnswer (part : Nat) (bytes : List Byte)
  /-- A gateway's answer to a NoC request: the sideband of its RESP packet (R243, R255). -/
  | resp (side : BitVec 64)
  /-- A flit sent through a router output, with its sideband and payload (R243, R249). -/
  | flit (router port : Nat) (side : BitVec 64) (payload : BitVec 512)
  /-- A PMBus transaction with the regulator (R358–R360): its address, whether with PEC, whether at 1 MHz; the command; the word
  written, or the mV of a READ_VOUT. -/
  | pmbus (addr : Nat) (pec fast : Bool) (cmd data : Nat)
  /-- An SPDM response code with its message (R423). -/
  | spdm (code : Nat) (msg : List Byte)
  /-- A DOE Discovery response: vendor, data object protocol, next index (R268). -/
  | discovery (vendor protocol next : Nat)
  /-- Four lines of serial flash are enabled by a method of its tables; a read of it (R323): its command, lines of the data, dummy
  cycles, address bytes, MHz, address and length. -/
  | flashQuad (method : Nat)
  | flashRead (cmd lines dummy addrBytes mhz addr len : Nat)
  /-- A value shifted out of the punty port (R430, R432). -/
  | punty (val : Nat)
  /-- A NAND program of a tile: its channel, die and block (R294, R298). -/
  | nand (tile channel die block : Nat)
  deriving DecidableEq, Repr

/-! ### Timebase and Ircel (R149–R187) -/

/-- A line held until its release time (R160, R179): created on this device or received in a TRIGGER frame. -/
structure Held where
  line : Nat
  release : Nat
  marks : Nat
  targets : List (Nat × Nat)
  /-- The epoch whose time `release` is given in (R173, R180). -/
  epoch : Nat
  /-- Its creation in ticks × 16, where this device created it (R158). -/
  created : Option Nat
  deriving DecidableEq, Repr

/-- The reference of PLL0 and PLL2 (R171, R177, R376): the board's, the recovered clock of a port, or none, the last frequency
held. -/
inductive PllRef
  | board
  | port (p : Nat)
  | held
  deriving DecidableEq, Repr

/-- An epoch that awaits its activation time (R171). -/
structure PendingEpoch where
  num : Nat
  act : Nat
  map : Nat
  hops : List (Nat × Nat)
  step : Nat
  master : Nat
  deriving DecidableEq, Repr

/-- What the timebase holds outside TB's registers. -/
structure Timebase where
  /-- The levels accepted of ENC_A, ENC_B and ENC_Z, the levels on the balls, and for how many samples each ball has held a
  level that is not yet accepted (R149). -/
  encA : Bool
  encB : Bool
  encZ : Bool
  pinA : Bool
  pinB : Bool
  pinZ : Bool
  runA : Nat
  runB : Nat
  runZ : Nat
  /-- The time of the first sample of such a run of ENC_A and of ENC_B, and the counts accepted and not yet registered: forward or
  not, and the tick that registers each (R154). -/
  firstA : Nat
  firstB : Nat
  counts : List (Bool × Nat)
  /-- What the forward steps of TB_TIME add up to (R155): times between two instants are taken without it. -/
  stepped : Nat
  /-- The time of the last count (R152). -/
  lastCount : Option Nat
  armed : Bool
  /-- NEXT and the counts per line in force, both with 32 fraction bits (R156, R157). -/
  next : Nat
  cpl : Nat
  /-- Creation time of the last line released (R158). -/
  lastRel : Option Nat
  held : List Held
  /-- Line indices passed since the last ARM (R162), and the last index released. -/
  passed : List Nat
  released : Option Nat
  /-- This device has been in a group's epoch since it last stood alone: a release counts the lines it leaps over (R162, R175). -/
  follows : Bool
  /-- The best key of the election, afterwards the master's (R170, R176). -/
  bestKey : Nat
  /-- Devices whose ELECT was received, with their hops; the latest time one carried; was one in an epoch (R170). -/
  electors : List (Nat × Nat)
  electTime : Nat
  electOld : Bool
  /-- The best key that an ELECT has carried since the last epoch took effect. -/
  heardKey : Option Nat
  /-- The key of a better group's master, met at a link (R176). -/
  met : Option Nat
  /-- The highest epoch number seen, if one has been (R170). -/
  maxEpoch : Option Nat
  /-- Epochs still to take effect, each at its own time, oldest first (R171). -/
  pendEpochs : List PendingEpoch
  /-- Hops of each member of the epoch in force (R171). -/
  memberHops : List (Nat × Nat)
  /-- At the master: hops at which members' STATUS frames have come since (R171). -/
  heardHops : List (Nat × Nat)
  /-- At the master: the members to which each member's last STATUS gave a port in GROUP, as a bitmap (R171, R174). -/
  heardLinks : List (Nat × Nat)
  /-- At the master: electors it was elected by and has not yet heard as members (R170, R172). -/
  electees : List Nat
  /-- The reference of PLL0 and PLL2, and by how much their ticks lead it, in HOP_DELAY's units (R177). -/
  pllRef : PllRef
  pllLead : Nat
  offsetD : Nat
  inEpoch : Bool
  /-- Flooded frames seen, newest first: source, type, sequence number (R168). -/
  seen : List (Nat × Nat × Nat)
  seqs : Tab Nat
  /-- Acknowledged frames without an ACK: port (4 = flooded), frame, sends so far (R165). -/
  unacked : List (Nat × FrameHdr × IrcMsg × Nat)
  /-- The time of each member's last STATUS (R174). -/
  statusSeen : List (Nat × Nat)
  behindEv : Option Nat
  lastHeartbeat : Nat
  /-- Regions that skipped locally since the last STATUS (R182). -/
  skipped : Nat
  deriving DecidableEq, Repr

/-- The timebase as a device reset leaves it. -/
def Timebase.init : Timebase :=
  { encA := false, encB := false, encZ := false, pinA := false, pinB := false, pinZ := false, runA := 0, runB := 0,
    runZ := 0, firstA := 0, firstB := 0, counts := [], stepped := 0, lastCount := none, armed := false, next := 0, cpl := 2 ^ 32, lastRel := none,
    held := [], passed := [], released := none, follows := false, bestKey := 0, electors := [], electTime := 0,
    electOld := false, heardKey := none, met := none, maxEpoch := none, pendEpochs := [], memberHops := [], heardHops := [],
    heardLinks := [], electees := [],
    pllRef := .board, pllLead := 0, offsetD := 0, inEpoch := false, seen := [], seqs := [], unacked := [], statusSeen := [],
    behindEv := none, lastHeartbeat := 0, skipped := 0 }

/-- What an Ircel port holds outside IRC[p]'s registers. -/
structure IrcPort where
  peerEpoch : Nat
  peerMaster : Nat
  peerHops : Nat
  peerCurrent : Bool
  delays : List Int
  t1 : Nat
  violations : List Nat
  lastViol : Option Nat
  lastNack : Option Nat
  deriving DecidableEq, Repr

/-- A port as a device reset leaves it. -/
def IrcPort.init : IrcPort :=
  { peerEpoch := 0, peerMaster := 0, peerHops := 0, peerCurrent := false, delays := [], t1 := 0, violations := [],
    lastViol := none, lastNack := none }

/-! ### Gather and marver (R188–R214) -/

/-- A tag of a source port's queue: line index, release time, and that time without the forward steps of TB_TIME (R194). -/
structure Tag where
  line : Nat
  time : Nat
  real : Nat
  deriving DecidableEq, Repr

/-- A pixel-bus source port outside its registers: its tags, and the line it is carrying. -/
structure Pbs where
  tags : List Tag
  line : Nat
  time : Nat
  untagged : Bool
  /-- SYNC_ERR was signalled in this line. -/
  syncSeen : Bool
  syncEv : Option Nat
  formatEv : Option Nat
  deriving DecidableEq, Repr

/-- A source port as a device reset leaves it. -/
def Pbs.init : Pbs :=
  { tags := [], line := 0, time := 0, untagged := false, syncSeen := false, syncEv := none, formatEv := none }

/-- A corrected or filtered row of a span: its line, whether it is tainted, its pixels (of a filtered row, their classes:
0 none, 1 dark, 2 bright). -/
structure Row where
  line : Nat
  taint : Bool
  pix : List Nat
  deriving DecidableEq, Repr

/-- A candidate the extractor tracks (R203–R206). Columns are span columns; `first` counts filtered rows. -/
structure Cand where
  bright : Bool
  first : Nat
  height : Nat
  last : Nat
  trunc : Bool
  taint : Bool
  edge : Bool
  colMin : Nat
  colMax : Nat
  area : Nat
  sum : Nat
  peak : Int
  /-- The scan position of the peak: row count and column. -/
  peakAt : Nat × Nat
  maxc : Nat
  /-- Its runs in the previous filtered row and in the present one. -/
  runs : List (Nat × Nat)
  now : List (Nat × Nat)
  deriving DecidableEq, Repr

/-- What a unit's extractor hands on, in order: a candidate whose record forms, or the end-of-row mark of a filtered row
with the line of the row before it (R197, R204). -/
inductive MrvEv
  | close (c : Cand)
  | mark (line before : Nat) (taint : Bool)
  deriving DecidableEq, Repr

/-- An open patch (R207): its number, its candidate's LAST and record SEQ, the span column of its first column. -/
structure Patch where
  num : Nat
  last : Nat
  col0 : Nat
  shifted : Bool
  taint : Bool
  cseq : Nat
  rows : List Nat
  deriving DecidableEq, Repr

/-- A batch, or one unit's part of it (R208–R211): for each placed candidate its unit, slot and feature bits. -/
structure Batch where
  line : Nat
  first : Nat
  entries : List (Nat × Nat × Nat)
  cands : Nat
  dropped : Nat
  invalid : Bool
  rows : Nat
  seq : Nat
  deriving DecidableEq, Repr

/-- An empty batch. -/
def Batch.init : Batch := ⟨0, 0, [], 0, 0, false, 0, 0⟩

/-- What a marver unit holds outside MRV[m]'s registers. -/
structure Marver where
  /-- EN was set and waits for the next SOL (R196). -/
  want : Bool
  /-- EN was cleared in the row in progress, after which the unit stops (R196). -/
  stop : Bool
  /-- Pixels in the input FIFO, in 1/25 pixel, and when that was so (R195). -/
  level : Nat
  levelAt : Nat
  /-- The pixels that wait in the FIFO, oldest first: span column and value. -/
  fifo : List (Nat × Nat)
  inRow : Bool
  row : List (Nat × Nat)
  nextCol : Option Nat
  rowTaint : Bool
  rowLine : Nat
  rowTime : Nat
  /-- Filtered rows since activation. -/
  count : Nat
  /-- The last 40 corrected rows of the span and the classes of the last 40 filtered rows, newest first (R199, R202). -/
  history : List Row
  classes : List Row
  /-- The coefficient set, THRESH and THR_CFG in force for the filtered row under way (R201, R202). -/
  set : Nat
  thresh : Nat
  thr : Nat
  tracked : List Cand
  /-- Candidates closed at the height limit, whose records form in the next row (R204). -/
  tall : List Cand
  queue : List MrvEv
  patches : List Patch
  patchSeq : Nat
  /-- The part of the batch being filled, and parts whose mark has passed (R210). -/
  part : Batch
  parts : List Batch
  waiting : List Batch
  delivering : Bool
  notice : Option Nat
  batchSeq : Nat
  deriving DecidableEq, Repr

/-- A marver unit as a device reset leaves it. -/
def Marver.init : Marver :=
  { want := false, stop := false, level := 0, levelAt := 0, fifo := [], inRow := false, row := [], nextCol := none, rowTaint := false,
    rowLine := 0, rowTime := 0, count := 0, history := [], classes := [], set := 0, thresh := 0x7fff8000, thr := 0,
    tracked := [], tall := [], queue := [], patches := [], patchSeq := 0, part := Batch.init, parts := [],
    waiting := [], delivering := false, notice := none, batchSeq := 0 }

/-- A ring's descriptor (R143): is the ring enabled, where its pixels and headers lie, its slots and its stride. -/
structure RingDesc where
  live : Bool
  base : Nat
  hdr : Nat
  log2n : Nat
  stride : Nat
  deriving DecidableEq, Repr

/-- A line that units are writing into a ring: its line, release time, taint, whether its header has been begun, the descriptor
it began with, and the units that have finished (R143, R144). -/
structure RingLine where
  line : Nat
  time : Nat
  taint : Bool
  begun : Bool
  desc : RingDesc
  done : List Nat
  deriving DecidableEq, Repr

/-- A raw-line ring: its descriptor as its header writer last took it, and its lines in progress (R143). -/
structure Ring where
  desc : RingDesc
  lines : List RingLine
  deriving DecidableEq, Repr

/-- A ring as a device reset leaves it. -/
def Ring.init : Ring := ⟨⟨false, 0, 0, 10, 1⟩, []⟩

/-! ### Network on chip and DMA (R241–R267) -/

/-- A descriptor an engine holds (R258): its place among the 64 in flight, its ring index and its 32 bytes as a number,
with its progress. -/
structure Desc where
  slot : Nat
  idx : Nat
  raw : Nat
  started : Bool
  /-- An occurrence its WAIT_EN waits for has come (R261). -/
  released : Bool
  /-- The b4 its SYNC_B4 waits for has come (R261). -/
  synced : Bool
  /-- Source bytes asked for; source bytes that have come in order, and pieces that have come ahead of them. -/
  asked : Nat
  got : Nat
  landed : List (Nat × List Byte)
  /-- Ranges of the destination written, and the leading bytes that all are: BYTES_DONE (R262). -/
  wrote : List (Nat × Nat)
  done : Nat
  /-- Source bytes kept for a close header or a frame (R259, R276). -/
  buf : List Byte
  /-- User-window requests not yet answered (R235). -/
  open_ : Nat
  /-- The status with which it ends once its outstanding requests have been answered (R262). -/
  ended : Option Nat
  deriving DecidableEq, Repr

/-- A DMA engine outside its registers: the descriptors in flight in ring order, and those whose completions wait for room
with their status and reason (R263). -/
structure Engine where
  descs : List Desc
  held : List (Desc × Nat × Nat)
  deriving DecidableEq, Repr

/-- An engine as a device reset leaves it. -/
def Engine.init : Engine := ⟨[], []⟩

/-! ### Edge fabric (R223–R240) -/

/-- A request to the user window (R235): who waits for it (a DMA descriptor by engine, slot and place in its data, or none
for the management core), its 64 byte enables and its 64 bytes of write data; has it timed out (R236)? -/
structure WinReq where
  from_ : Option (Nat × Nat × Nat)
  write : Bool
  addr : Nat
  be : Nat
  data : List Byte
  late : Bool
  deriving DecidableEq, Repr

/-- Where a global line's change of source stands (R224). -/
inductive LinePhase
  | steady
  /-- Steps 1 and 2: the old clock still runs. -/
  | leaving
  /-- Steps 3 and 4: the output is low. -/
  | joining
  deriving DecidableEq, Repr

/-- A global line's multiplexer: the source in force, the phase of a change to the other, and the select as it now
stands (it can change again while the line waits for its new clock). -/
structure GLine where
  sel : Bool
  phase : LinePhase
  want : Bool
  deriving DecidableEq, Repr

/-- A global line as a device reset leaves it. -/
def GLine.init : GLine := ⟨false, .steady, false⟩

/-- A full-image or partition release under way (R339): the partitions, and how many stages have been performed. -/
structure Releasing where
  parts : List Nat
  full : Bool
  stage : Nat
  /-- SYS_REL_CFG.ORDER and PLL_MASK as the release found them (R341). -/
  order : Nat
  mask : Nat
  deriving DecidableEq, Repr

/-- The edge fabric outside its registers. -/
structure Fab where
  lines : Tab GLine
  /-- Rising edges of each global line modulo 720,720 (R225), and the enables that gated trees have sampled: key clock
  region × 12 + tree. -/
  lineCnt : Tab Nat
  treeOn : Tab Bool
  /-- Flip-flops of the logic cells (R218): key block × 16 + cell × 2 + flip-flop. -/
  ffs : Tab Bool
  /-- Lanes of the block memories (R227): key memory × 4096 + lane; 9 bits each. -/
  lanes : Tab Nat
  /-- What the ports' read latches and output registers hold (R228): key (memory × 2 + port) × 2, and one more. -/
  portOut : Tab Nat
  /-- Flip-flops of the pins (R230): key pin × 8; 0 and 1 input, 2 and 3 output, 4 output enable. -/
  pinFfs : Tab Bool
  /-- Trigger ports that present a strobe, with its line (R234); partition and time of the edges of the last tick that clock a
  trigger port, and the partitions whose window port it clocked (R235). -/
  trig : List (Nat × Nat)
  trigEdges : List (Nat × Nat)
  winEdges : List Nat
  /-- The values that isolation cells hold (R222, R237), and the level and output enable that held pins keep. -/
  isoHeld : List (Wire × Bool)
  pinHeld : Tab (Bool × Bool)
  /-- Partitions whose bit-stream enables their window port (R235), and those that drain before they are isolated (R237). -/
  winOn : List Nat
  draining : List Nat
  /-- Window requests of DMA that wait for their partition's port, and requests presented and not answered. -/
  queue : Tab (List WinReq)
  open_ : Tab (List WinReq)
  /-- Configuration words (R312): key partition × 2^21 + byte. -/
  words : Bytes
  /-- The essential-bit map of the source (R312, R329): key partition × 2^15 + byte; is there one. -/
  essential : Bytes
  hasEss : Nat
  /-- Partitions whose outputs are enabled, whose write enables are up, and whose global reset is released (R339). -/
  outOn : List Nat
  weOn : List Nat
  rstOff : List Nat
  releasing : Option Releasing
  /-- A core or spine supply is below its power-good threshold (R232). -/
  supplyLost : Bool
  deriving DecidableEq, Repr

/-- The edge fabric as a device reset leaves it. -/
def Fab.init : Fab :=
  { lines := [], lineCnt := [], treeOn := [], ffs := [], lanes := [], portOut := [], pinFfs := [], trig := [],
    trigEdges := [], winEdges := [], isoHeld := [], pinHeld := [],
    winOn := [], draining := [], queue := [], open_ := [], words := [], essential := [], hasEss := 0, outOn := [], weOn := [],
    rstOff := [], releasing := none, supplyLost := false }

/-! ### Host, mailbox, network (R268–R289) -/

/-- A command taken from the mailbox queue (R279). -/
structure MbxCmd where
  idx : Nat
  raw : Nat
  /-- Its completion is discarded: a PCIe reset fell after it started (R271). -/
  dropped : Bool
  /-- It came over the punty port (R432). -/
  punty : Bool
  deriving DecidableEq, Repr

/-- The mailbox outside its registers: commands handed to each lane, those that complete at once (R281), and the one each
lane runs (R280). -/
structure Mailbox where
  long : List MbxCmd
  short : List MbxCmd
  bad : List MbxCmd
  longRun : Option MbxCmd
  shortRun : Option MbxCmd
  deriving DecidableEq, Repr

/-- Who put a write of HBM (R142, R261): a marver unit, a DMA engine. -/
inductive Writer
  | unit (m : Nat)
  | dma (e slot : Nat)
  deriving DecidableEq, Repr

/-- What follows once a write of HBM has been performed: nothing, the last pixels of a unit's row of a ring's line, or the header
that makes a ring's line whole (R144). -/
inductive After
  | none
  | row (m k line : Nat) (taint : Bool)
  | whole (k line : Nat)
  deriving DecidableEq, Repr

/-- A request of HBM that waits for its stack: a block, one of BAR2, a write in order with others of its writer (R139, R141,
R142, R269, R363). -/
inductive Held2
  | block (q : HbmReq)
  | read (a n : Nat)
  | write (a : Nat) (bytes : List (Option Byte))
  | put (w : Writer) (a : Nat) (bytes : List Byte) (next : After)
  deriving DecidableEq, Repr

/-- A read of host memory without its completion (R268): its tag, the DMA descriptor that issued it by engine and slot, the
place of its data in the descriptor's, its address and the bytes still to come. -/
structure HostRead where
  tag : Nat
  eng : Nat
  slot : Nat
  off : Nat
  addr : Nat
  len : Nat
  deriving DecidableEq, Repr

/-- The PCIe endpoint outside its registers (R268–R272, R284). -/
structure Pcie where
  /-- PCIE_PERST_N is asserted. -/
  perst : Bool
  /-- MSI-X Enable and Function Mask of configuration space. -/
  msixOn : Bool
  msixMask : Bool
  /-- Posted writes that wait for the link (R271). -/
  posted : List Output
  /-- Reads of host memory without their completions: at most 768 (R16, R268). -/
  reads : List HostRead
  /-- The function is in D3hot; ASPM L1 and L1.1 are enabled (R268). -/
  d3hot : Bool
  aspm : Bool × Bool
  /-- Maximum Payload Size and Maximum Read Request Size in bytes; is the Completion Timeout disabled (R268)? -/
  mps : Nat
  mrrs : Nat
  noTimeout : Bool
  /-- The range of the Completion Timeout, and the enables of ECRC generation and checking (R268). -/
  timeoutRange : Nat
  ecrc : Bool × Bool
  /-- Errors logged under AER, oldest first (R272). -/
  aer : List AerErr
  /-- The vectors whose message the command that runs has sent (R284); nothing between commands. -/
  sent : List Nat
  deriving DecidableEq, Repr

/-- The endpoint as a device reset leaves it, with PCIE_PERST_N asserted. -/
def Pcie.init : Pcie :=
  { perst := true, msixOn := false, msixMask := false, posted := [], reads := [], d3hot := false, aspm := (false, false),
    mps := 128, mrrs := 512, noTimeout := false, timeoutRange := 0, ecrc := (false, false), aer := [], sent := [] }

/-- A two-step timestamp (R278). -/
structure TxStamp where
  sec : Nat
  ns : Nat
  frac : Nat
  engine : Nat
  desc : Nat
  deriving DecidableEq, Repr

/-- An Ethernet port outside its registers: the timestamp FIFO, and the PTP offset in force (R277). -/
structure EthPort where
  stamps : List TxStamp
  /-- TS_LO, TS_MID and TS_HI have been read of the head of the FIFO: bits 0, 1 and 2 (R278). -/
  tsRead : Nat
  ofsSec : Nat
  ofsNs : Nat
  /-- An offset written that the next tick applies (R277). -/
  ofsNext : Option (Nat × Nat)
  errEv : Option Nat
  deriving DecidableEq, Repr

/-- A port as a device reset leaves it. -/
def EthPort.init : EthPort := ⟨[], 0, 0, 0, none, none⟩

/-! ### Faults (R383–R401) -/

/-- A recorded fault occurrence (R390). -/
structure FaultRec where
  source : Nat
  cls : Nat
  detail : Nat
  region : Option Nat
  wire : Bool
  deriving DecidableEq, Repr

/-- The fault collector outside its registers. -/
structure Collector where
  seq : Nat
  f1 : Bool
  pulses : Bool
  ovfEv : Option Nat
  /-- TB_TIME at which the pair test under way began (R385). -/
  testAt : Nat
  /-- Sensors that have reached FLT_TEMP.WARN and not fallen 5 °C below it since (R387, source 29). -/
  warm : Nat
  /-- Another head holds the net of LC_FAULT_N low (R399). -/
  netLow : Bool
  deriving DecidableEq, Repr

/-- A flit in a router's input queue (R243): its sideband and payload, its packet's head sideband and class, its place in the
packet, when the packet was injected, the router cycle from which it can leave, and the outputs it has still to leave by. -/
structure Flit where
  side : BitVec 64
  payload : BitVec 512
  head : BitVec 64
  cls : Nat
  first : Bool
  last : Bool
  idx : Nat
  age : Nat
  ready : Nat
  todo : List Nat
  deriving DecidableEq, Repr

/-- The NoC outside its registers (R241–R255, R470). -/
structure Noc where
  /-- Router cycles gone in the running frame × 5 (R247). -/
  acc : Nat
  /-- Round-robin pointers of the outputs (R249): key (router × 8 + port) × 4 + class. -/
  rr : Tab Nat
  /-- Packets that wait in the gateways: key ((router × 8 + port) × 16 + endpoint) × 4 + class; and the round-robin pointers
  of the local ports (R241): key (router × 8 + port) × 4 + class. -/
  sources : Tab (List Packet)
  epRr : Tab Nat
  /-- Flits in the routers' input queues: key ((router × 8 + port) × 4 + VC) × 4 + class. -/
  queues : Tab (List Flit)
  /-- The input port whose packet holds a VC of an output (R245): key (router × 8 + output) × 4 + VC. -/
  own : Tab (Option Nat)
  /-- One more than the router cycle in which an output last sent: key router × 8 + output. -/
  sentAt : Tab Nat
  /-- Packets injected so far. -/
  born : Nat
  /-- What is left of the injection budgets (R470), in 1/625 byte, and the tick it was counted at: key as `sources`, class 2. -/
  budget : Tab (Nat × Nat)
  deriving DecidableEq, Repr

/-- The NoC as a device reset leaves it. -/
def Noc.init : Noc :=
  { acc := 0, rr := [], sources := [], epRr := [], queues := [], own := [], sentAt := [], born := 0, budget := [] }

/-! ### Power, performance levels and the lehr (R353–R381) -/

/-- A sector or HBM domain (R361–R367). -/
structure Domain where
  /-- The state a power-down under way leads to. -/
  down : Option Nat
  isolated : Bool
  waking : Bool
  /-- The WAKE vote (R364). -/
  wakeVote : Bool
  /-- The requests that the gateway's queues hold, in order of arrival: class and head sideband (R255, R365). -/
  held : List (Nat × BitVec 64)
  deriving DecidableEq, Repr

/-- A domain as a device reset leaves it. -/
def Domain.init : Domain := ⟨none, false, false, false, []⟩

/-- Where a change of performance level stands (R354, R357). -/
inductive PerfPhase
  /-- The supply rises before the switch window. -/
  | raising
  /-- The switch window is open. -/
  | window
  /-- PLL0 relocks on a part of speed grade 1 (R356). -/
  | relock
  /-- The supply settles after the switch window. -/
  | lowering
  deriving DecidableEq, Repr

/-- A change of performance level. -/
structure PerfChange where
  target : Nat
  old : Nat
  phase : PerfPhase
  /-- Regions whose held RUN has been counted (R355). -/
  held : List Nat
  deriving DecidableEq, Repr

/-- Power and performance outside the registers. Domains: sectors 0–15, HBM 16 and 17. -/
structure PwrState where
  doms : Tab Domain
  perf : Option PerfChange
  /-- Sectors that a load or commit uses, and those that a memory test or a shutdown uses: LOAD votes (R364). -/
  loadUse : List Nat
  testUse : List Nat
  /-- The supply target last commanded, mV (R359). -/
  target : Nat
  /-- An S4 entry is under way, before the spine cut; it has sent LEAVE and captured the save list (R368). -/
  s4Entry : Bool
  s4Left : Bool
  /-- CFG, FRAC, DEN and OUT0–OUT3 of PLL5 as last applied (R379); empty for the settings of the table of R381. -/
  pll5 : List Word
  /-- When PLL5's output dividers restarted after the last lock that followed a reset or an APPLY, if they have since (R378, R379);
  by how much, in 1/(64 M) of a VCO period, a loss of lock has put its phase off (R377). -/
  pll5At : Option Nat
  pll5Slip : Nat
  /-- Lines released while the step clock is stopped, which wait in the timebase crossing (R355). -/
  crossing : List Held
  deriving DecidableEq, Repr

/-- The lehr and its retention RAM (R368–R374, R396). -/
structure Lehr where
  /-- Time units of 100 ps × 512 short of the next 1/32,768 s (R373). -/
  acc : Nat
  /-- Save-list entries: offset word with VALID in bit 0, and captured value (R374). -/
  save : Tab (Nat × Nat)
  s4 : Bool
  /-- A wake source has fired since the spine cut. -/
  waking : Bool
  /-- The board has removed the rails of the switched domains (R449). -/
  railsOff : Bool
  /-- The previous-fault record: SRC, DETAIL, TIME (R396). -/
  prev : Option (Nat × Nat × Nat)
  /-- The record of the slot of the full image in use (R320): SOURCE and SLOT of CFG_STAT. -/
  slot : Nat × Nat
  /-- Failed responses in a row, and the lehr time at which a lock-out began (R428). -/
  authFails : Nat
  lockedAt : Option Nat
  /-- ENC_A and ENC_B as last sampled in S4, and the changes counted since the spine cut (R369). -/
  encA : Bool
  encB : Bool
  edges : Nat
  deriving DecidableEq, Repr

/-- The lehr at power-on (R374 cold start). -/
def Lehr.init : Lehr :=
  { acc := 0, save := [], s4 := false, waking := false, railsOff := false, prev := none, slot := (3, 0), authFails := 0, lockedAt := none,
    encA := false, encB := false, edges := 0 }

/-! ### Replay store (R290–R305) -/

/-- A block of a die: the tiles programmed since its last erase, in order, and its program/erase cycles (R294, R296). -/
structure NandBlock where
  tiles : List Nat
  cycles : Nat
  deriving DecidableEq, Repr

/-- An erased block. -/
def NandBlock.init : NandBlock := ⟨[], 0⟩

/-- What the NAND dies keep without power: tile data (key tile × 4096 + byte), the 32 metadata bytes of each programmed
tile, the blocks, and the bad-block area (R292, R302, R303). -/
structure Nand where
  data : Bytes
  meta_ : Tab (List Byte)
  /-- Blocks (key die × 2^20 + block), and the block of each die that is being programmed. -/
  blocks : Tab NandBlock
  open_ : Tab Nat
  /-- The table of bad blocks of each die, in its block 0, and the copy in its block 1 (R302). -/
  table : Tab (List Nat)
  copy : Tab (List Nat)
  /-- Factory bad blocks, once read at the first mount; grown bad blocks. -/
  factory : Option Nat
  grown : Nat
  oldest : Nat
  /-- The governor's credit in bytes, and its fraction. -/
  credit : Int
  creditAcc : Nat
  /-- The first tile of the last finished commit: a commit record above it is torn. -/
  done : Option Nat
  /-- STO_NEXT as it is kept: a power failure during a commit loses it (R294, R300). -/
  next : Nat
  deriving DecidableEq, Repr

/-- NAND as delivered. -/
def Nand.init : Nand :=
  { data := [], meta_ := [], blocks := [], open_ := [], table := [], copy := [], factory := none, grown := 0, oldest := 0,
    credit := 0, creditAcc := 0, done := none, next := 0 }

/-- A commit accepted (R297–R299), with the lines taken, the stream bytes not yet programmed, and the tiles programmed. -/
structure Commit where
  first : Nat
  cseq : Nat
  tiles : Nat
  ring : Nat
  line : Nat
  count : Nat
  stride : Nat
  time : Nat
  taken : Nat
  buf : List Byte
  programmed : Nat
  lost : Bool
  deriving DecidableEq, Repr

/-- The replay store outside its registers. -/
structure Sto where
  /-- Commits queued, the one in progress first. -/
  queue : List Commit
  cseq : Nat
  /-- Good blocks in use and tiles of a block. -/
  good : Nat
  perBlock : Nat
  deriving DecidableEq, Repr

/-- The store as a device reset leaves it. -/
def Sto.init : Sto := ⟨[], 0, 0, 0⟩

/-! ### Configuration store and loader (R306–R332) -/

/-- A slot descriptor as it reads (R307): STATE 0 EMPTY, 1 WRITING, 2 VALID, 3 INVALID. -/
structure Slot where
  state : Nat
  length : Nat
  signed : Bool
  deriving DecidableEq, Repr

/-- An entry of the parison index (R306, R324): STATE 0 EMPTY, 1 STAGING, 2 STAGED, 3 FAILED; its extents. -/
structure Par where
  state : Nat
  kind : Nat
  target : Nat
  window : Nat
  mask : Nat
  length : Nat
  first : Nat
  count : Nat
  deriving DecidableEq, Repr

/-- An index that holds nothing. -/
def Par.init : Par := ⟨0, 0, 0, 0, 0, 0, 0, 0⟩

/-- The cullet map's bitmaps (R408): physical tiles, block memories, gather pairs, Ircel and Ethernet ports. -/
structure Cullet where
  tiles : Nat
  brams : Nat
  pairs : Nat
  irc : Nat
  eth : Nat
  deriving DecidableEq, Repr

/-- The fields of a shutdown record (R343). -/
structure ShutRec where
  clean : Bool
  slot : Nat
  count : Nat
  crc : Nat
  time : Nat
  culletGen : Nat
  deriving DecidableEq, Repr

/-- The fields of a start-attempt record (R343): ATTEMPTS, GOLDEN_PENDING, LAST_CAUSE. -/
structure Attempt where
  attempts : Nat
  golden : Bool
  cause : Nat
  deriving DecidableEq, Repr

/-- The configuration store, which keeps its contents without power: bytes by store offset (the copies of its records, slots,
extents), words (offset / 8) that read as uncorrectable, slot descriptors and the parison index; the repair map and the cullet
map as the core holds them, which it reads at each start and writes whenever they grow (R408); and the steps of R421 marked done
in the identity rows. -/
structure CStore where
  data : Bytes
  bad : Tab Bool
  slots : Tab Slot
  pars : Tab Par
  repairs : List Nat
  /-- Spare rows used by each block memory: an entry of the repair map does not name its memory. -/
  bramRows : Tab Nat
  cullet : Cullet
  culletGen : Nat
  /-- Gaffers whose program memory failed (R404). -/
  gafBad : Nat
  eol : Nat
  deriving DecidableEq, Repr

/-- An empty store. -/
def CStore.init : CStore :=
  { data := [], bad := [], slots := [], pars := [], repairs := [], bramRows := [], cullet := ⟨0, 0, 0, 0, 0⟩, culletGen := 0,
    gafBad := 0, eol := 0 }

/-- A full load in progress (R320–R322): source 0 store, 1 host, 2 serial flash; is it a start's, and a warm start's. -/
structure Load where
  source : Nat
  slot : Nat
  addr : Nat
  length : Nat
  start : Bool
  warm : Bool
  deriving DecidableEq, Repr

/-- A commit in progress (R325) or an automatic reload (R329, R330): from a parison index, or from the full image in use. -/
structure Job where
  par : Option Nat
  kind : Nat
  target : Nat
  window : Nat
  auto : Bool
  deriving DecidableEq, Repr

/-- A CFG_PROG operation in progress (R328). -/
structure Prog where
  op : Nat
  target : Nat
  addr : Nat
  len : Nat
  deriving DecidableEq, Repr

/-- The loader outside its registers. -/
structure Loader where
  load : Option Load
  /-- A stage in progress: index, HBM address, length. -/
  stage : Option (Nat × Nat × Nat)
  job : Option Job
  prog : Option Prog
  /-- Automatic reloads that wait for their turn. -/
  reloads : List Job
  /-- Recorded sources (R327): the slot of the full image, and the parison index of each window (key region × 4 + 0 A, 1 B,
  2 whole) and partition. -/
  full : Option Nat
  wins : Tab (Option Nat)
  parts : Tab (Option Nat)
  /-- The logical position that a remap copy under way moves, by sector (R36). -/
  remaps : Tab (Option Nat)
  /-- The start waits for the host's LOAD_IMAGE (R322); slot 0 is being loaded as golden image (R348). -/
  hostWait : Bool
  golden : Bool
  /-- The release of a full image restores registers from the clean snapshot, or from the lehr (R345). -/
  snapshot : Bool
  restore : Bool
  deriving DecidableEq, Repr

/-- The loader as a device reset leaves it. -/
def Loader.init : Loader :=
  { load := none, stage := none, job := none, prog := none, reloads := [], full := none, wins := [], parts := [],
    remaps := [], hostWait := false, golden := false, snapshot := false, restore := false }
/-! ### Start, self-test, life cycle and test port (R333–R352, R402–R435) -/

/-- What a start holds outside registers. -/
structure Start where
  /-- The boot record this start read (R308); empty where it is absent. -/
  boot : List Byte
  /-- A device reset is asserted and no start has begun (R396). -/
  inReset : Bool
  /-- The start follows an F1 reset; the load is a wake's from S4. -/
  f1 : Bool
  wake : Bool
  /-- Gather banks that the restore left enabled (R340, R345). -/
  train : List Nat
  /-- The clock of the last confirmation, and the start-attempt record before it (R350). -/
  confirmed : Option (Nat × Attempt)
  deriving DecidableEq, Repr

/-- No start. -/
def Start.init : Start := ⟨[], false, false, false, [], none⟩

/-- Self-test outside the BST block. -/
structure Bist where
  /-- The spare under slice; the sector whose spare is being marched, and for how many µs it has been (R411). -/
  slice : Option Nat
  nextSpare : Nat
  marched : Nat
  /-- Where each region's idle-gap scan stands (R412). -/
  gap : Tab Nat
  /-- An orderly shutdown waits for its memory test to end (R413). -/
  shutting : Bool
  /-- Physical tiles whose layers, route memory and DM hold test patterns (R403). -/
  patterns : List Nat
  /-- Die temperature sensors that failed their check and are left out of FLT_TEMP and of source 1 (R402). -/
  sensorsOut : Nat
  deriving DecidableEq, Repr

/-- No self-test. -/
def Bist.init : Bist := ⟨none, 0, 0, [], false, [], 0⟩

/-- One-time-programmable memory (R416, R419, R422): the LC word, the two digests and the flags as fused, the key pair
generated (by its draw), and whether the private key is destroyed. -/
structure Otp where
  lc : Nat
  owner : Nat
  debug : Nat
  cfg : Nat
  key : Option Nat
  destroyed : Bool
  deriving DecidableEq, Repr

/-- A part as shipped: in TEST, with its key pair in place. -/
def Otp.init : Otp := ⟨0xffff, 0, 0, 0, some 0, false⟩

/-- Debug authorisation, transitions and measurements (R419, R424, R427, R429). -/
structure Lcs where
  challenge : Option (List Byte)
  /-- Scopes granted by DEBUG_AUTH, and the lehr time of the earliest end of a grant. -/
  granted : Nat
  ends : Option Nat
  /-- The state a running transition leads to. -/
  trans : Option Nat
  /-- Measurement 3, and the measurements 16 + n and 32 + k that are not 0, by index. -/
  image : List Byte
  chain : Tab (List Byte)
  deriving DecidableEq, Repr

/-- As a device reset leaves it. -/
def Lcs.init : Lcs := ⟨none, 0, none, none, [], []⟩

/-- The punty port (R430–R432): the instruction selected, the boundary cells' values, the last access's answer, and the
completion of the last command. -/
structure Jtag where
  ir : Nat
  cells : BitVec 1412
  access : Nat
  cpl : Option Nat
  deriving DecidableEq, Repr

/-- The port in Test-Logic-Reset. -/
def Jtag.init : Jtag := ⟨1, 0, 0, none⟩


/-! ### The whole machine -/

/-- The state of the VK1312. -/
structure State where
  /-- Commands waiting, first in first out. -/
  pending : List Instr
  /-- Control space: every register and window, keyed by byte offset (R7, R24). -/
  regs : Tab Word
  /-- The latched copies of R469, keyed by the offset of the register copied. -/
  latch : Tab Word
  /-- The capture shadows of R440: key path × 2^26 + offset of the _HI half; none when nothing is captured. -/
  shadow : Tab (Option Word)
  /-- Step words in the layers (R38): key (physical tile × 1024 + BP) × 2048 + bank step. -/
  steps : Tab StepWord
  /-- Route rows (R79): key physical tile × 16384 + row. -/
  routes : Tab Nat
  /-- Data memory (R41): key (physical tile × 1024 + BP) × 2048 + location. -/
  dm : Tab Bool
  /-- DM locations whose parity bit does not agree (R395), by the same key. -/
  dmBad : Tab Bool
  /-- Results of this window's steps (R60, R61): key (tile × 1024 + BP) × 16384 + window step. -/
  results : Tab Bool
  /-- One more than the window step that last wrote a gob-out or request bit (R65): key tile × 65536 + bit. -/
  stamps : Tab Nat
  /-- Gob-in sides (R83): key (tile × 2 + side) × 2048 + byte. -/
  gobIn : Bytes
  /-- Gob-out sides (R89): key (tile × 2 + side) × 2048 + byte. -/
  gobOut : Bytes
  /-- Request assembly areas (R126): key tile × 4096 + byte. -/
  reqArea : Bytes
  /-- Return buffers (R91): key tile × 2048 + byte. -/
  retBuf : Bytes
  /-- Far-in slots (R92): key (tile × 2 + side) × 8 + slot. -/
  farIn : Tab Nat
  tiles : Tab Tile
  gafs : Tab Gaffer
  ports : Tab Port
  /-- The two HBM stacks, device addresses 0 to 2^35 − 1 (R21). -/
  hbm : Bytes
  /-- 64-bit HBM words whose stored code reads as uncorrectable (R139): key address / 8. -/
  hbmBad : Tab Bool
  /-- 64-bit HBM words whose stored code holds a single-bit error (R139): key address / 8. -/
  hbmSoft : Tab Bool
  tb : Timebase
  irc : Tab IrcPort
  pbs : Tab Pbs
  mrv : Tab Marver
  rings : Tab Ring
  /-- Strobes a trigger port has yet to present (R234): partition, line, release time. -/
  strobes : List (Nat × Nat × Nat)
  /-- GTH_DISCARD's last raise per bank (R191). -/
  discardEv : Tab (Option Nat)
  /-- Slot tables (R248): key ((bank × 48 + router) × 8 + port) × 128 + slot; value RES × 8 + INPORT. -/
  slots : Tab Nat
  noc : Noc
  dma : Tab Engine
  fab : Fab
  mbx : Mailbox
  pcie : Pcie
  /-- BAR4: the MSI-X table and the Pending Bit Array (R269). -/
  bar4 : Tab Byte
  /-- HBM requests that wait for their stack (R141, R269, R363). -/
  hbmHeld : List Held2
  eth : Tab EthPort
  /-- Occurrences delivered to the management core's log, oldest first (R283). -/
  mcLog : List Nat
  /-- One more than the TB_TIME of a source's last flooded EVENT frame (R283). -/
  evtSent : Tab Nat
  cstore : CStore
  ldr : Loader
  nand : Nand
  sto : Sto
  flt : Collector
  pwr : PwrState
  lehr : Lehr
  start : Start
  bst : Bist
  otp : Otp
  lcs : Lcs
  jtag : Jtag
  /-- DM reads of the array debug window that wait in a tile's gateway (R433): path, offset and width in bytes. -/
  dbgReads : List (Path × Nat × Nat)
  /-- The spine is powered (R14). -/
  spineOn : Bool
  /-- The model's own counter of free values drawn so far; no field of the device. -/
  free : Nat
  /-- The model's own record of what the device has sent; no field of the device. -/
  out : List Output
  deriving DecidableEq, Repr

/-- Straight after a device reset with an empty queue. -/
def State.reset : State :=
  { pending := [], regs := [], latch := [], shadow := [], steps := [], routes := [], dm := [], dmBad := [], results := [],
    stamps := [], gobIn := [], gobOut := [], reqArea := [], retBuf := [], farIn := [], tiles := [], gafs := [],
    ports := [], hbm := [], hbmBad := [], hbmSoft := [], tb := Timebase.init, irc := [], pbs := [], mrv := [], rings := [], strobes := [], discardEv := [],
    slots := [], noc := Noc.init, dma := [], fab := Fab.init, mbx := ⟨[], [], [], none, none⟩, pcie := Pcie.init,
    bar4 := [], hbmHeld := [], eth := [], mcLog := [], evtSent := [], cstore := CStore.init, ldr := Loader.init, nand := Nand.init, sto := Sto.init, flt := ⟨0, false, false, none, 0, 0, false⟩,
    pwr := ⟨[], none, [], [], 0, false, false, [], none, 0, []⟩, lehr := Lehr.init, start := Start.init, bst := Bist.init,
    otp := Otp.init, lcs := Lcs.init, jtag := Jtag.init, dbgReads := [], spineOn := true, free := 0,
    out := [] }

end Sys2Proof.Machine
end

