-- ==== Sys2Proof/Machine/Upd.lean ====
section
/-!
DEFINITION. One update for each field of the state.
-/

namespace Sys2Proof.Machine

/-- Put the field `regs`. -/
def State.withRegs (s : State) (x : Tab Word) : State := { s with regs := x }

/-- Put the field `latch`. -/
def State.withLatch (s : State) (x : Tab Word) : State := { s with latch := x }

/-- Put the field `shadow`. -/
def State.withShadow (s : State) (x : Tab (Option Word)) : State := { s with shadow := x }

/-- Put the field `steps`. -/
def State.withSteps (s : State) (x : Tab StepWord) : State := { s with steps := x }

/-- Put the field `routes`. -/
def State.withRoutes (s : State) (x : Tab Nat) : State := { s with routes := x }

/-- Put the field `dm`. -/
def State.withDm (s : State) (x : Tab Bool) : State := { s with dm := x }

/-- Put the field `dmBad`. -/
def State.withDmBad (s : State) (x : Tab Bool) : State := { s with dmBad := x }

/-- Put the field `results`. -/
def State.withResults (s : State) (x : Tab Bool) : State := { s with results := x }

/-- Put the field `stamps`. -/
def State.withStamps (s : State) (x : Tab Nat) : State := { s with stamps := x }

/-- Put the field `gobIn`. -/
def State.withGobIn (s : State) (x : Bytes) : State := { s with gobIn := x }

/-- Put the field `gobOut`. -/
def State.withGobOut (s : State) (x : Bytes) : State := { s with gobOut := x }

/-- Put the field `reqArea`. -/
def State.withReqArea (s : State) (x : Bytes) : State := { s with reqArea := x }

/-- Put the field `retBuf`. -/
def State.withRetBuf (s : State) (x : Bytes) : State := { s with retBuf := x }

/-- Put the field `farIn`. -/
def State.withFarIn (s : State) (x : Tab Nat) : State := { s with farIn := x }

/-- Put the field `tiles`. -/
def State.withTiles (s : State) (x : Tab Tile) : State := { s with tiles := x }

/-- Put the field `gafs`. -/
def State.withGafs (s : State) (x : Tab Gaffer) : State := { s with gafs := x }

/-- Put the field `ports`. -/
def State.withPorts (s : State) (x : Tab Port) : State := { s with ports := x }

/-- Put the field `hbm`. -/
def State.withHbm (s : State) (x : Bytes) : State := { s with hbm := x }

/-- Put the field `hbmBad`. -/
def State.withHbmBad (s : State) (x : Tab Bool) : State := { s with hbmBad := x }

/-- Put the field `hbmSoft`. -/
def State.withHbmSoft (s : State) (x : Tab Bool) : State := { s with hbmSoft := x }

/-- Put the field `tb`. -/
def State.withTb (s : State) (x : Timebase) : State := { s with tb := x }

/-- Put the field `irc`. -/
def State.withIrc (s : State) (x : Tab IrcPort) : State := { s with irc := x }

/-- Put the field `pbs`. -/
def State.withPbs (s : State) (x : Tab Pbs) : State := { s with pbs := x }

/-- Put the field `mrv`. -/
def State.withMrv (s : State) (x : Tab Marver) : State := { s with mrv := x }

/-- Put the field `rings`. -/
def State.withRings (s : State) (x : Tab Ring) : State := { s with rings := x }

/-- Put the field `strobes`. -/
def State.withStrobes (s : State) (x : List (Nat × Nat × Nat)) : State := { s with strobes := x }

/-- Put the field `discardEv`. -/
def State.withDiscardEv (s : State) (x : Tab (Option Nat)) : State := { s with discardEv := x }

/-- Put the field `slots`. -/
def State.withSlots (s : State) (x : Tab Nat) : State := { s with slots := x }

/-- Put the field `noc`. -/
def State.withNoc (s : State) (x : Noc) : State := { s with noc := x }

/-- Put the field `dma`. -/
def State.withDma (s : State) (x : Tab Engine) : State := { s with dma := x }

/-- Put the field `fab`. -/
def State.withFab (s : State) (x : Fab) : State := { s with fab := x }

/-- Put the field `mbx`. -/
def State.withMbx (s : State) (x : Mailbox) : State := { s with mbx := x }

/-- Put the field `pcie`. -/
def State.withPcie (s : State) (x : Pcie) : State := { s with pcie := x }

/-- Put the field `bar4`. -/
def State.withBar4 (s : State) (x : Tab Byte) : State := { s with bar4 := x }

/-- Put the field `hbmHeld`. -/
def State.withHbmHeld (s : State) (x : List Held2) : State := { s with hbmHeld := x }

/-- Put the field `eth`. -/
def State.withEth (s : State) (x : Tab EthPort) : State := { s with eth := x }

/-- Put the field `mcLog`. -/
def State.withMcLog (s : State) (x : List Nat) : State := { s with mcLog := x }

/-- Put the field `evtSent`. -/
def State.withEvtSent (s : State) (x : Tab Nat) : State := { s with evtSent := x }

/-- Put the field `cstore`. -/
def State.withCstore (s : State) (x : CStore) : State := { s with cstore := x }

/-- Put the field `ldr`. -/
def State.withLdr (s : State) (x : Loader) : State := { s with ldr := x }

/-- Put the field `nand`. -/
def State.withNand (s : State) (x : Nand) : State := { s with nand := x }

/-- Put the field `sto`. -/
def State.withSto (s : State) (x : Sto) : State := { s with sto := x }

/-- Put the field `flt`. -/
def State.withFlt (s : State) (x : Collector) : State := { s with flt := x }

/-- Put the field `pwr`. -/
def State.withPwr (s : State) (x : PwrState) : State := { s with pwr := x }

/-- Put the field `lehr`. -/
def State.withLehr (s : State) (x : Lehr) : State := { s with lehr := x }

/-- Put the field `start`. -/
def State.withStart (s : State) (x : Start) : State := { s with start := x }

/-- Put the field `bst`. -/
def State.withBst (s : State) (x : Bist) : State := { s with bst := x }

/-- Put the field `otp`. -/
def State.withOtp (s : State) (x : Otp) : State := { s with otp := x }

/-- Put the field `lcs`. -/
def State.withLcs (s : State) (x : Lcs) : State := { s with lcs := x }

/-- Put the field `jtag`. -/
def State.withJtag (s : State) (x : Jtag) : State := { s with jtag := x }

/-- Put the field `dbgReads`. -/
def State.withDbgReads (s : State) (x : List (Path × Nat × Nat)) : State := { s with dbgReads := x }

/-- Put the field `spineOn`. -/
def State.withSpineOn (s : State) (x : Bool) : State := { s with spineOn := x }

/-- Put the field `free`. -/
def State.withFree (s : State) (x : Nat) : State := { s with free := x }

/-- Put the field `out`. -/
def State.withOut (s : State) (x : List Output) : State := { s with out := x }

end Sys2Proof.Machine
end

