-- ==== Sys2Proof/Machine/Flags.lean ====
section
/-!
DEFINITION. Register fields as the hardware sees them, counters and first records (R438, R439), the stores kept beside
the registers, frames sent on Ircel, and what an occurrence of an event source does (R282–R285).
-/

namespace Sys2Proof.Machine

/-! ### Registers -/

/-- The word a register holds. -/
def State.reg (s : State) (off : Nat) : Word := Tab.get regReset s.regs off

/-- Put a word into a register. -/
def State.setReg (s : State) (off : Nat) (w : Word) : State := s.withRegs (Tab.set regReset s.regs off w)

/-- The value of a field within a word. -/
def Fld.of (f : Fld) (w : Word) : Nat := slice w.toNat f.hi f.lo

/-- A word with one field replaced. -/
def Fld.put (f : Fld) (w : Word) (v : Nat) : Word :=
  BitVec.ofNat 32 (w.toNat - slice w.toNat f.hi f.lo * 2 ^ f.lo + v % 2 ^ (f.hi - f.lo + 1) * 2 ^ f.lo)

/-- Read a register field. -/
def State.rd (s : State) (f : Fld) : Nat := f.of (s.reg f.off)

/-- Is a one-bit field 1? -/
def State.on (s : State) (f : Fld) : Bool := s.rd f != 0

/-- Write a register field, as the hardware does. -/
def State.wr (s : State) (f : Fld) (v : Nat) : State := s.setReg f.off (f.put (s.reg f.off) v)

/-- Count one occurrence in a counter snapshot, which stops at 0xFFFF_FFFF (R438). -/
def State.bump (s : State) (f : Fld) : State :=
  if s.rd f < 0xffffffff then s.wr f (s.rd f + 1) else s

/-- Count several occurrences (R438). -/
def State.bumpBy (s : State) (f : Fld) (n : Nat) : State := s.wr f (min 0xffffffff (s.rd f + n))

/-- A value pair: the low half at the field's register, the high half at the next (R7). -/
def State.rd64 (s : State) (lo : Nat) : Nat := (s.reg lo).toNat + 2 ^ 32 * (s.reg (lo + 4)).toNat

/-- Write a value pair. -/
def State.wr64 (s : State) (lo v : Nat) : State :=
  (s.setReg lo (BitVec.ofNat 32 v)).setReg (lo + 4) (BitVec.ofNat 32 (v / 2 ^ 32))

/-- TB_TIME (R155). -/
def State.now (s : State) : Nat := s.rd64 0x80030

/-- The time since reset without the forward steps of TB_TIME: ticks × 16. -/
def State.real (s : State) : Nat := s.now - s.tb.stepped

/-- A latched copy under R469 of one field of a register. -/
def State.latched (s : State) (f : Fld) : Nat := f.of (Tab.get regReset s.latch f.off)

/-- Record an output. -/
def State.emit (s : State) (o : Output) : State := s.withOut (s.out ++ [o])

/-- Draw a free value: nothing constrains it. -/
def State.draw (s : State) : Nat := Config.freeValue s.free

/-- The state after a free value was drawn. -/
def State.drawn (s : State) : State := s.withFree (s.free + 1)

/-! ### Stores beside the registers -/

/-- Gaffer `n`. -/
def State.gaf (s : State) (n : Nat) : Gaffer := Tab.get (fun _ => Gaffer.init) s.gafs n

/-- Put gaffer `n`. -/
def State.setGaf (s : State) (n : Nat) (g : Gaffer) : State :=
  s.withGafs (Tab.set (fun _ => Gaffer.init) s.gafs n g)

/-- Tile `t`. -/
def State.tile (s : State) (t : Nat) : Tile := Tab.get (fun _ => Tile.init) s.tiles t

/-- Put tile `t`. -/
def State.setTile (s : State) (t : Nat) (x : Tile) : State :=
  s.withTiles (Tab.set (fun _ => Tile.init) s.tiles t x)

/-- Memory port `t`. -/
def State.port (s : State) (t : Nat) : Port := Tab.get (fun _ => Port.init) s.ports t

/-- Put memory port `t`. -/
def State.setPort (s : State) (t : Nat) (p : Port) : State :=
  s.withPorts (Tab.set (fun _ => Port.init) s.ports t p)

/-- Ircel port `p` beside its registers. -/
def State.ircp (s : State) (p : Nat) : IrcPort := Tab.get (fun _ => IrcPort.init) s.irc p

/-- Put Ircel port `p`. -/
def State.setIrcp (s : State) (p : Nat) (x : IrcPort) : State :=
  s.withIrc (Tab.set (fun _ => IrcPort.init) s.irc p x)

/-! ### Ircel frames -/

/-- The TYPE of a message (R165). -/
def ircType : IrcMsg → Nat
  | .hello .. => 1 | .dlyReq .. => 2 | .dlyResp .. => 3 | .elect .. => 4 | .epoch .. => 5 | .joinReq .. => 6
  | .joinAck .. => 7 | .leave .. => 8 | .heartbeat .. => 9 | .status .. => 10 | .trigger .. => 11 | .far .. => 12
  | .event .. => 13 | .ack .. => 14 | .nack .. => 15

/-- Is the type acknowledged (R165)? -/
def ircAcked : IrcMsg → Bool
  | .epoch .. => true | .joinReq .. => true | .joinAck .. => true | .leave .. => true | _ => false

/-- A key as words of a payload: the serial, then the priority with more fields above it. -/
def keyWords (k : Key) (more : Nat) : List Nat := [k.serial.toNat, k.prio.toNat + 2 ^ 8 * more]

/-- The payload words of a message. R180 gives TRIGGER's; the others hold R165's fields in their order, a DESIGN CHOICE (log
entry 48). -/
def payloadWords : IrcMsg → List Nat
  | .hello key id epoch current master masterKey hops port =>
    keyWords key (id.val + 2 ^ 8 * epoch.toNat + 2 ^ 24 * b2n current + 2 ^ 32 * master.val + 2 ^ 40 * hops.val + 2 ^ 48 * port.val) ++
      keyWords masterKey 0
  | .dlyReq t1 => [t1.toNat]
  | .dlyResp t2 t3 => [t2.toNat, t3.toNat]
  | .elect key time => keyWords key 0 ++ [time.toNat]
  | .epoch num act map hops step =>
    [num.toNat, act.toNat, map.toNat] ++ (upTo 4).map (fun w => (upTo 16).foldl (fun a i =>
      a + 2 ^ (4 * i) * ((hops.find? fun x => x.1.val == 16 * w + i).map fun x => x.2.val).getD 0) 0) ++ [step.toNat]
  | .joinReq key id hops d => keyWords key (id.val + 2 ^ 8 * hops.val) ++ [d.toNat]
  | .joinAck refused => [match refused with | some r => 2 ^ 8 + r.val | none => 0]
  | .leave id => [id.val]
  | .heartbeat time => [time.toNat]
  | .status aligned skips better links =>
    [b2n aligned + 2 ^ 8 * b2n better.isSome + 2 ^ 16 * skips.toNat, links.toNat] ++ (match better with | some k => keyWords k 0 | none => [])
  | .trigger line release marks targets =>
    [line.toNat, release.toNat, marks.toNat] ++ targets.map fun x => 2 ^ 48 * x.1.val + x.2.toNat
  | .far region tile tag data =>
    (region.val + 2 ^ 8 * tile.val + 2 ^ 16 * tag.toNat) :: (upTo 16).map fun i => slice data.toNat (64 * i + 63) (64 * i)
  | .event source => [source.val]
  | .ack type seq => [type.toNat + 2 ^ 16 * seq.toNat]
  | .nack reason seq => [reason.val + 2 ^ 16 * seq.toNat]

/-- The TYPE field of a frame: a reserved value, or the message's (R165). -/
def typeField (h : FrameHdr) (m : IrcMsg) : Nat :=
  match h.rest.otherType with
  | some t => if t.toNat = 0 ∨ 16 ≤ t.toNat then t.toNat else ircType m
  | none => ircType m

/-- Word 0 of a frame (R164). -/
def hdrWord (h : FrameHdr) (m : IrcMsg) : Nat :=
  let r := h.rest.rsv.toNat
  typeField h m + 2 ^ 8 * h.dst.val + 2 ^ 14 * slice r 0 0 + 2 ^ 15 * b2n h.bcast + 2 ^ 16 * h.src.val + 2 ^ 22 * slice r 2 1 +
    2 ^ 24 * h.epoch.toNat + 2 ^ 40 * h.hops.val + 2 ^ 44 * slice r 6 3 + 2 ^ 48 * h.seq.toNat

/-- The CRC-32C over words 0 to LEN and bits 63:32 of the last word (R164). -/
def frameCrc (h : FrameHdr) (m : IrcMsg) : BitVec 32 :=
  let ws := (payloadWords m).zipIdx.map fun x => x.1 ||| (h.rest.extra.getD x.2 0).toNat
  BitVec.ofNat 32 (crc32c (leBytes 8 (hdrWord h m) ++ ws.flatMap (leBytes 8) ++
    leBytes 4 (h.rest.len.toNat + 2 ^ 5 * h.rest.tailRsv.toNat)))

/-- What a frame as it is sent holds beside its header's fields and its message: LEN, and nothing reserved. -/
def restOf (m : IrcMsg) : FrameRest :=
  { otherType := none, rsv := 0, extra := [], len := BitVec.ofNat 5 (payloadWords m).length, tailRsv := 0, crc := 0,
    count := (payloadWords m).length, coding := false }

/-- A frame as it is sent: with LEN and CRC (R164). -/
def sealed (h : FrameHdr) (m : IrcMsg) : FrameHdr :=
  { h with rest := { restOf m with crc := frameCrc { h with rest := restOf m } m } }

/-- The header of a frame this device originates: the next sequence number of its type, hops 0 (R164). -/
def State.hdr (s : State) (m : IrcMsg) (bcast : Bool) (dst : Nat) : FrameHdr :=
  { seq := BitVec.ofNat 16 (Tab.get (fun _ => 0) s.tb.seqs (ircType m)), hops := 0,
    epoch := BitVec.ofNat 16 (s.rd F.TB_GROUP_EPOCH), src := Fin.ofNat 64 (s.rd F.TB_MEMBER_ID), bcast := bcast,
    dst := Fin.ofNat 64 dst, rest := restOf m }

/-- Count one frame of a type. -/
def State.nextSeq (s : State) (m : IrcMsg) : State :=
  let v := (Tab.get (fun _ => 0) s.tb.seqs (ircType m) + 1) % 2 ^ 16
  (s.withTb { s.tb with seqs := Tab.set (fun _ => 0) s.tb.seqs (ircType m) v })

/-- Send a frame on one port. -/
def State.sendOn (s : State) (p : Nat) (h : FrameHdr) (m : IrcMsg) : State := s.emit (.irc p (sealed h m) m)

/-- Send a frame on every port in state GROUP but one (R168). -/
def State.sendGroup (s : State) (except : Option Nat) (h : FrameHdr) (m : IrcMsg) : State :=
  forEach ((upTo 4).filter fun p => decide (s.rd (F.IRC_STATUS_STATE p) = 3) && decide (some p ≠ except))
    (fun p s => s.sendOn p h m) s

/-- Originate a flooded frame; an acknowledged one waits for its ACK (R165). Its own copy counts as seen (R168). -/
def State.flood (s : State) (m : IrcMsg) : State :=
  let h := s.hdr m true 0
  let s1 := (s.sendGroup none h m).nextSeq m
  let tb := { s1.tb with seen := (h.src.val, ircType m, h.seq.toNat) :: s1.tb.seen }
  (s1.withTb (if ircAcked m then { tb with unacked := tb.unacked ++ [(4, h, m, 1)] } else tb))

/-- Originate a frame to one member on one port; an acknowledged one waits for its ACK. Its own copy counts as seen. -/
def State.sendTo (s : State) (p dst : Nat) (m : IrcMsg) : State :=
  let h := s.hdr m false dst
  let s1 := (s.sendOn p h m).nextSeq m
  let tb := { s1.tb with seen := (h.src.val, ircType m, h.seq.toNat) :: s1.tb.seen }
  (s1.withTb (if ircAcked m then { tb with unacked := tb.unacked ++ [(p, h, m, 1)] } else tb))

/-! ### Events -/

/-- The register that holds wait condition `k`'s pending count, and the count's place in it (R114, R124). -/
def evtPendFld (n k : Nat) : Fld :=
  ⟨0x100044 + 0x10000 * (n % 16) + 4 * (k % 8 / 4), 8 * (k % 4) + 7, 8 * (k % 4)⟩

/-- Count an occurrence of `src` into the wait conditions of every gaffer that select it (R114). -/
def State.countWaits (s : State) (src : Nat) : State :=
  forEach (upTo 128) (fun i s =>
    if s.on (F.GAF_EVT_SEL_EN (i / 8) (i % 8)) && s.rd (F.GAF_EVT_SEL_SOURCE (i / 8) (i % 8)) == src then
      if s.rd (evtPendFld (i / 8) (i % 8)) = 255 then s.bump (F.GAF_EVT_LOST_CNT_COUNT (i / 8))
      else s.wr (evtPendFld (i / 8) (i % 8)) (s.rd (evtPendFld (i / 8) (i % 8)) + 1)
    else s) s

/-- What BAR4 holds after a reset of the PCIe domain (R271): every MSI-X table entry masked, as the base specification that
R284 follows has it (PRESUMED), all else 0. -/
def bar4Reset (a : Nat) : Byte := if a < 0x8000 ∧ a % 16 = 12 then 1 else 0

/-- A byte of BAR4. -/
def State.bar4At (s : State) (a : Nat) : Byte := Tab.get bar4Reset s.bar4 a

/-- Put a byte of BAR4. -/
def State.setBar4 (s : State) (a : Nat) (b : Byte) : State := s.withBar4 (Tab.set bar4Reset s.bar4 a b)

/-- `n` bytes of BAR4 as a number. -/
def State.bar4Num (s : State) (a n : Nat) : Nat := leNat ((upTo n).map fun i => s.bar4At (a + i))

/-- Is MSI-X vector `v` masked, by its entry, by the function, or because MSI-X is not enabled (R284)? -/
def State.vectorMasked (s : State) (v : Nat) : Bool :=
  s.pcie.msixMask || !s.pcie.msixOn || bit (s.bar4At (16 * v + 12)).toNat 0

/-- May the function send requests: the link is in L0 and the function in D0 (R268, R271)? -/
def State.hostOpen (s : State) : Bool := s.on F.PCI_STAT_L0 && !s.pcie.d3hot

/-- A posted write goes out, or waits until the function may send (R271). -/
def State.post (s : State) (o : Output) : State :=
  if s.hostOpen then s.emit o else s.withPcie { s.pcie with posted := s.pcie.posted ++ [o] }

/-- Send vector `v`'s message from its table entry; messages for one vector that arise in one clock, here in one command, are sent
once (R284). -/
def State.sendMsix (s : State) (v : Nat) : State :=
  if s.pcie.sent.contains v then s
  else
    (s.withPcie { s.pcie with sent := v :: s.pcie.sent }).post (.msix (s.bar4Num (16 * v) 8) (s.bar4Num (16 * v + 8) 4))

/-- The end of a command that began in `s` and led to `t`: its clock is over, and so is the list of the messages sent in it (R284,
R466; DEDUCED, log entry 170). -/
def State.endClock (s t : State) : State := t.withPcie { t.pcie with sent := s.pcie.sent }

/-- The Pending Bit Array bit of vector `v`. -/
def State.pba (s : State) (v : Nat) : Bool := bit (s.bar4At (0x8000 + v / 8)).toNat (v % 8)

/-- Set or clear the Pending Bit Array bit of vector `v`. -/
def State.setPba (s : State) (v : Nat) (b : Bool) : State :=
  s.setBar4 (0x8000 + v / 8) (BitVec.ofNat 8 (setBitTo (s.bar4At (0x8000 + v / 8)).toNat (v % 8) b))

/-- Vector `v`'s message is due: sent, or kept in the Pending Bit Array while masked (R284). -/
def State.msix (s : State) (v : Nat) : State := if s.vectorMasked v then s.setPba v true else s.sendMsix v

/-- Bit `src` of the pending bits (R283). -/
def evtBit (src : Nat) : Fld := ⟨0x40100 + 4 * (src % 768 / 32), src % 32, src % 32⟩

/-- The route of an occurrence to the outside (R283): MSI-X on a rise of the pending bit, the core's log, and, unless
the occurrence itself came by a frame (R285), an EVENT frame at most once a microsecond per source. -/
def State.routeEvent (s : State) (src : Nat) (rose flood : Bool) : State :=
  let s1 := if s.on (F.EVT_ROUTE_MSIX_EN src) && rose then s.msix (s.rd (F.EVT_ROUTE_VECTOR src)) else s
  let s2 := if s1.on (F.EVT_ROUTE_MC_EN src) then s1.withMcLog (s1.mcLog ++ [src]) else s1
  let last := Tab.get (fun _ => 0) s2.evtSent src
  if s2.on (F.EVT_ROUTE_IRC_TX_EN src) && flood && (last == 0 || decide (last + 10000 ≤ s2.real + 1)) then
    let s3 := s2.flood (.event (Fin.ofNat 768 src))
    (s3.withEvtSent (Tab.set (fun _ => 0) s2.evtSent src (s2.real + 1)))
  else s2

/-- DMA engine `e` beside its registers. -/
def State.eng (s : State) (e : Nat) : Engine := Tab.get (fun _ => Engine.init) s.dma e

/-- Put DMA engine `e`. -/
def State.setEng (s : State) (e : Nat) (x : Engine) : State :=
  s.withDma (Tab.set (fun _ => Engine.init) s.dma e x)

/-- Does a descriptor wait for an occurrence of `src` (R258, R261)? -/
def Desc.waitsFor (d : Desc) (src : Nat) : Bool :=
  bit d.raw 170 && slice d.raw 169 160 == src && !d.started

/-- An occurrence releases the fetched descriptors that wait for it (R261). -/
def State.releaseWaits (s : State) (src : Nat) : State :=
  s.withDma (s.dma.map fun e => (e.1, { e.2 with
      descs := e.2.descs.map fun d => if d.waitsFor src then { d with released := true } else d }))

/-- An occurrence of event source `src` (R261, R282, R283). -/
def State.occur (s : State) (src : Nat) (flood : Bool) : State :=
  (((s.releaseWaits src).countWaits src).wr (evtBit src) 1).routeEvent src (!s.on (evtBit src)) flood

/-- A source of this device occurs. -/
def State.raise (s : State) (src : Nat) : State := s.occur src true

/-- A source that may occur at most once in `gap` time units (100 ps): the last raise and whether it may occur now. -/
def mayRaise (last : Option Nat) (now gap : Nat) : Bool :=
  match last with
  | none => true
  | some t => decide (t + gap ≤ now)

end Sys2Proof.Machine
end

