-- ==== Sys2Proof/Machine/Records.lean ====
section
/-!
DEFINITION. The records that the configuration store keeps in two copies (R306, R308, R343, R408): the choice of a copy by MAGIC,
GEN and CRC-32C, the write to the copy with the lower GEN, and the fields of each record.
-/

namespace Sys2Proof.Machine

/-! ### Copies (R308, R343) -/

/-- An area of the store with two copies of a record: MAGIC, where copy A begins, and the bytes of a copy. -/
structure RecArea where
  magic : Nat
  base : Nat
  size : Nat
  deriving DecidableEq, Repr

/-- The boot record (R308). -/
def bootArea : RecArea := ⟨0x43455242, 0, 4096⟩
/-- The repair map (R408). -/
def repairArea : RecArea := ⟨0x52504552, 0x10000, 32768⟩
/-- The cullet map (R408). -/
def culletArea : RecArea := ⟨0x4c4c5543, 0x20000, 32768⟩
/-- The shutdown record (R343). -/
def shutArea : RecArea := ⟨0x54554853, 0x30000, 4096⟩
/-- The start-attempt record (R343). -/
def attemptArea : RecArea := ⟨0x54535441, 0x32000, 2048⟩
/-- Where the register snapshot lies (R343). -/
def snapBase : Nat := 0x34000

/-- `n` bytes of a record at an offset, as a number. -/
def fieldAt (b : List Byte) (off n : Nat) : Nat := leNat ((b.drop off).take n)

/-- The bytes of copy `i`. -/
def CStore.copy (c : CStore) (a : RecArea) (i : Nat) : List Byte := Bytes.read c.data (a.base + a.size * i) a.size

/-- Does a range of the store meet a word that reads as uncorrectable? -/
def CStore.spoilt (c : CStore) (at_ n : Nat) : Bool :=
  c.bad.any fun e => decide (at_ < 8 * e.1 + 8) && decide (8 * e.1 < at_ + n)

/-- The generation of copy `i`, where its MAGIC and its CRC are right. DEDUCED (log entry 157): a copy with an uncorrectable word
is not valid. -/
def CStore.validGen (c : CStore) (a : RecArea) (i : Nat) : Option Nat :=
  let b := c.copy a i
  if fieldAt b 0 4 == a.magic && !c.spoilt (a.base + a.size * i) a.size && fieldAt b (a.size - 4) 4 == crc32c (b.take (a.size - 4))
  then some (fieldAt b 4 4) else none

/-- The record in force: the valid copy with the higher GEN; empty where it is absent. -/
def CStore.record (c : CStore) (a : RecArea) : List Byte :=
  match c.validGen a 0, c.validGen a 1 with
  | none, none => []
  | some _, none => c.copy a 0
  | none, some _ => c.copy a 1
  | some x, some y => if x < y then c.copy a 1 else c.copy a 0

/-- The higher GEN of the valid copies, 0 where there is none. -/
def CStore.recGen (c : CStore) (a : RecArea) : Nat := max ((c.validGen a 0).getD 0) ((c.validGen a 1).getD 0)

/-- The copy with the lower GEN; one that is not valid counts lowest. -/
def CStore.lowerCopy (c : CStore) (a : RecArea) : Nat :=
  match c.validGen a 0, c.validGen a 1 with
  | none, _ => 0
  | some _, none => 1
  | some x, some y => if x ≤ y then 0 else 1

/-- Exactly `n` bytes: a list cut or padded with zeros. -/
def fit (n : Nat) (bs : List Byte) : List Byte := (bs ++ List.replicate n 0).take n

/-- Write bytes into the store; a word written whole gets a fresh code. -/
def State.storeWrite (s : State) (a : Nat) (bs : List Byte) : State :=
  s.withCstore { s.cstore with
                data := Bytes.write s.cstore.data a bs
                bad := s.cstore.bad.filter fun e => !(decide (a ≤ 8 * e.1) && decide (8 * e.1 + 8 ≤ a + bs.length)) }

/-- Write a record to the copy with the lower GEN, with GEN one above the higher, and its CRC: `magic` and what follows GEN. -/
def State.putRecord (s : State) (a : RecArea) (magic body : List Byte) : State :=
  let b := fit (a.size - 4) (magic ++ leBytes 4 (s.cstore.recGen a + 1) ++ body)
  s.storeWrite (a.base + a.size * s.cstore.lowerCopy a) (b ++ leBytes 4 (crc32c b))

/-! ### The start-attempt record (R343, R348) -/

/-- The start-attempt record; one that is absent counts as all 0. -/
def State.attempt (s : State) : Attempt :=
  let b := s.cstore.record attemptArea
  ⟨fieldAt b 8 1, fieldAt b 9 1 == 1, fieldAt b 10 1⟩

/-- Put the start-attempt record. -/
def State.setAttempt (s : State) (a : Attempt) : State :=
  s.putRecord attemptArea (leBytes 4 attemptArea.magic) (leBytes 1 a.attempts ++ leBytes 1 (if a.golden then 1 else 0) ++ leBytes 1 a.cause)

/-! ### The shutdown record and its snapshot (R343–R345) -/

/-- The shutdown record, where one is valid. -/
def State.shutRec (s : State) : Option ShutRec :=
  match s.cstore.record shutArea with
  | [] => none
  | b => some { clean := fieldAt b 8 1 == 1, slot := fieldAt b 9 1, count := fieldAt b 10 2, crc := fieldAt b 12 4,
                time := fieldAt b 16 8, culletGen := fieldAt b 24 4 }

/-- Put the shutdown record. -/
def State.setShutRec (s : State) (r : ShutRec) : State :=
  s.putRecord shutArea (leBytes 4 shutArea.magic) (leBytes 1 (if r.clean then 1 else 0) ++ leBytes 1 r.slot ++ leBytes 2 r.count ++
    leBytes 4 r.crc ++ leBytes 8 r.time ++ leBytes 4 r.culletGen)

/-- The bytes of a snapshot: an offset and a value for each entry. -/
def snapBytes (l : List (Nat × Nat)) : List Byte := l.flatMap fun e => leBytes 4 e.1 ++ leBytes 4 e.2

/-- The entries of the snapshot that a shutdown record names; none where SNAP_CRC does not verify. -/
def State.snapEntries (s : State) (r : ShutRec) : List (Nat × Nat) :=
  let n := min 6144 r.count
  let b := Bytes.read s.cstore.data snapBase (8 * n)
  if crc32c b == r.crc && !s.cstore.spoilt snapBase (8 * n) then (upTo n).map fun i => (fieldAt b (8 * i) 4, fieldAt b (8 * i + 4) 4)
  else []

/-! ### The repair map and the cullet map (R408) -/

/-- Write the repair map: its entries of 8 bytes from byte 16 on. DESIGN CHOICE (log entry 158): SIZE counts the bytes of the
content. -/
def State.putRepairs (s : State) : State :=
  s.putRecord repairArea (leBytes 4 repairArea.magic) (leBytes 8 (8 * s.cstore.repairs.length) ++ s.cstore.repairs.flatMap (leBytes 8))

/-- The repair map as the store holds it. -/
def CStore.readRepairs (c : CStore) : List Nat :=
  let b := c.record repairArea
  (upTo (min 4093 (fieldAt b 8 4 / 8))).map fun i => fieldAt b (16 + 8 * i) 8

/-- The content of the cullet map: the bitmaps one after another. -/
def Cullet.bytes (c : Cullet) : List Byte := leBytes 18 c.tiles ++ leBytes 144 c.brams ++ leBytes 12 c.pairs ++ leBytes 1 (c.irc + 16 * c.eth)

/-- Write the cullet map. -/
def State.putCullet (s : State) : State :=
  s.putRecord culletArea (leBytes 4 culletArea.magic) (leBytes 8 175 ++ s.cstore.cullet.bytes)

/-- The cullet map as the store holds it. -/
def CStore.readCullet (c : CStore) : Cullet :=
  let b := c.record culletArea
  ⟨fieldAt b 16 18, fieldAt b 34 144, fieldAt b 178 12, fieldAt b 190 1 % 16, fieldAt b 190 1 / 16⟩

/-- The core reads both maps (R408). -/
def State.readMaps (s : State) : State :=
  s.withCstore { s.cstore with
    repairs := s.cstore.readRepairs, cullet := s.cstore.readCullet, culletGen := s.cstore.recGen culletArea }

end Sys2Proof.Machine
end

