-- ==== Sys2Proof/Machine/Ops.lean ====
section
/-!
DEFINITION. The operations several commands share: the guard of R14, access errors, fault records and fences, run states
of regions and their starts, power votes, HBM as its users see it, and the completion of mailbox commands.
-/

namespace Sys2Proof.Machine

/-- What a command answers. -/
abbrev Answer := Host.Outcome State Fault Refusal

/-- The spine is powered (R14) and no device reset is asserted. -/
def State.live (s : State) : Bool := s.spineOn && !s.start.inReset

/-- Every command acts only while the device is live; otherwise nothing happens. -/
def act (s : State) (f : State → State) : Answer := .next (s.endClock (if s.live then f s else s))

/-- What is left of a step while a device reset holds everything but the PCIe endpoint (R346): the endpoint's own state, the BAR2
requests it holds for HBM (R334), and what it sends. -/
def State.pcieOnly (s t : State) : State :=
  ((((((((s.withPcie t.pcie).withBar4 t.bar4).withHbmHeld t.hbmHeld).withHbmBad t.hbmBad).withHbmSoft t.hbmSoft).withFree t.free).withOut
    t.out)).setReg 0xf00000 (t.reg 0xf00000)

/-- A command of the PCIe endpoint, which keeps its own clock through a device reset (R334, R346). -/
def actPcie (s : State) (f : State → State) : Answer :=
  .next (s.endClock (if s.live then f s else if s.spineOn then s.pcieOnly (f s) else s))

/-- The lehr is powered: from power-on, and through S4 (R14, R368). -/
def State.lehrOn (s : State) : Bool := s.spineOn || s.lehr.s4

/-- A command of the lehr, which acts in S4 too. -/
def actLehr (s : State) (f : State → State) : Answer := .next (s.endClock (if s.lehrOn then f s else s))

/-! ### Access errors (R7, R9, R13, R23, R26, R445) -/

/-- The code of a path in SYS_ACCESS_ERR_REC.PATH; 3 is an on-chip requester. -/
def pathCode : Path → Nat
  | .pcie => 0 | .core => 1 | .punty => 2

/-- Count an access error and record it if no record is held (R439, R445). -/
def State.countAccess (s : State) (path : Nat) (write outside : Bool) (addr : Nat) : State :=
  let s1 := s.bump F.SYS_ACCESS_ERR_CNT_COUNT
  if s1.on F.SYS_ACCESS_ERR_REC_VALID then s1
  else s1.setReg 0x14 (BitVec.ofNat 32 (2 ^ 31 + 2 ^ 30 * b2n write + 2 ^ 28 * (path % 4) + 2 ^ 27 * b2n outside +
    addr % 2 ^ 26))

/-- An access that R7, R9 or R23 counts: SYS_ACCESS_ERR is raised (R446). -/
def State.accessErr (s : State) (path : Nat) (write outside : Bool) (addr : Nat) : State :=
  (s.countAccess path write outside addr).raise Ev.SYS_ACCESS_ERR

/-! ### Fault records (R387–R391, R399) -/

/-- The class of a fault source (R387): 0–3 for F0–F3; none for a number the table does not use. -/
def faultClass (src : Nat) : Option Nat :=
  if src ≤ 2 then some 0
  else if 8 ≤ src && src ≤ 12 then some 1
  else if 16 ≤ src && src ≤ 21 then some 2
  else if 24 ≤ src && src ≤ 29 then some 3
  else none

/-- The record as FLT_FIRST_SRC shows it (R400). -/
def FaultRec.srcWord (r : FaultRec) : Nat :=
  2 ^ 31 + 2 ^ 30 * b2n r.wire + 2 ^ 28 * r.cls + 2 ^ 24 * (r.region.getD 0) + 2 ^ 23 * b2n r.region.isSome + r.source

/-- The eight words of a fault-log entry (R390). -/
def FaultRec.logWords (r : FaultRec) (time seq : Nat) : List Nat :=
  [time, time / 2 ^ 32, r.detail,
   r.source + 2 ^ 8 * r.cls + 2 ^ 10 * (r.region.getD 0) + 2 ^ 14 * b2n r.region.isSome + 2 ^ 15 * b2n r.wire, seq, 0, 0, 0]

/-- Write words upward from a register. -/
def State.setWords (s : State) (off : Nat) : List Nat → State
  | [] => s
  | w :: ws => (s.setReg off (BitVec.ofNat 32 w)).setWords (off + 4) ws

/-- Write the first-error latch, which is never overwritten while VALID (R389). -/
def State.latchFault (s : State) (r : FaultRec) : State :=
  if s.on F.FLT_FIRST_SRC_VALID then s
  else s.setWords 0x30008 [r.srcWord, r.detail, s.now, s.now / 2 ^ 32]

/-- Write the fault log, which keeps the oldest occurrences (R390). -/
def State.logFault (s : State) (r : FaultRec) : State :=
  if (s.rd F.FLT_LOG_HEAD_HEAD + 128 - s.rd F.FLT_LOG_TAIL_TAIL) % 128 = 64 then
    let s1 := (s.bump F.FLT_OVF_CNT_COUNT).wr F.FLT_STAT_OVERFLOW 1
    if mayRaise s1.flt.ovfEv s1.real 10000 then
      (s1.withFlt { s1.flt with ovfEv := some s1.real }).raise Ev.FLT_LOG_OVF
    else s1
  else
    (s.setWords (0x31000 + 32 * (s.rd F.FLT_LOG_HEAD_HEAD % 64)) (r.logWords s.now s.flt.seq)).wr F.FLT_LOG_HEAD_HEAD
      (s.rd F.FLT_LOG_HEAD_HEAD + 1)

/-- LC_FAULT_N goes low at detection: for good with F0, until the warm start's release with F1, as a pulse with F2 and
F3 where PIN_CFG enables it (R399). -/
def State.drivePin (s : State) (cls : Nat) : State :=
  if cls ≤ 1 then s.wr F.FLT_STAT_PIN_LEVEL 0
  else if (cls = 2 && s.on F.FLT_PIN_CFG_F2_EN) || (cls = 3 && s.on F.FLT_PIN_CFG_F3_EN) then
    (s.withFlt { s.flt with pulses := true }).wr F.FLT_STAT_PIN_LEVEL 0
  else s

/-- Count a record by its class and raise the class's event (R391, R400). -/
def State.countClass (s : State) (cls : Nat) : State :=
  if cls = 2 then (s.bump F.FLT_F2_CNT_COUNT).raise Ev.FLT_F2
  else if cls = 3 then (s.bump F.FLT_F3_CNT_COUNT).raise Ev.FLT_F3
  else s

/-- The collector records one occurrence: pin, latch, log, counts, class event, and the event of a record of source
29 (R389–R391, R399, R401). -/
def State.recordFault (s : State) (r : FaultRec) : State :=
  let s1 := (s.withFlt { s.flt with seq := (s.flt.seq + 1) % 2 ^ 32 }).drivePin r.cls
  let s2 := ((s1.latchFault r).logFault r).countClass r.cls
  if r.source = 29 then s2.raise Ev.FLT_THERMAL_WARN else s2

/-- An occurrence of a source with its DETAIL. -/
def State.report (s : State) (src detail : Nat) (region : Option Nat) : State :=
  s.recordFault ⟨src, (faultClass src).getD 3, detail, region, false⟩

/-! ### Side-effect-free reads (R265, R374) -/

/-- The slot-table entry that NOC_SLOT_SEL shows at slot `j`: its key, or none where it selects nothing (R248, R265). -/
def State.slotKey (s : State) (j : Nat) : Option Nat :=
  let r := s.rd F.NOC_SLOT_SEL_ROUTER
  let p := s.rd F.NOC_SLOT_SEL_PORT
  let bank := if s.on F.NOC_SLOT_SEL_ACTIVE then s.rd F.NOC_STAT_BANK else 1 - s.rd F.NOC_STAT_BANK
  if r < 48 ∧ p < 7 then some (((bank * 48 + r) * 8 + p) * 128 + j) else none

/-- What a register reads, with no side effect: the slot-table window and the save-list window show their selection. -/
def State.peek (s : State) (off : Nat) : Word :=
  if 0x91000 ≤ off ∧ off < 0x91200 then
    match s.slotKey ((off - 0x91000) / 4) with
    | some k => BitVec.ofNat 32 (16 * Tab.get (fun _ => 0) s.slots k)
    | none => 0
  else if off = 0x10088 then BitVec.ofNat 32 (Tab.get (fun _ => (0, 0)) s.lehr.save (s.rd F.PWR_SAVE_IDX_IDX)).1
  else if off = 0x1008c then BitVec.ofNat 32 (Tab.get (fun _ => (0, 0)) s.lehr.save (s.rd F.PWR_SAVE_IDX_IDX)).2
  else s.reg off

/-! ### F1 containment (R396, R397) -/

/-- Is the device in the safe state (R349, R398)? -/
def State.safe (s : State) : Bool := s.rd F.SYS_START_STAT_PHASE == 7

/-- Gob-out that a gaffer has not committed yet will be committed with VALID at 0 (R396). -/
def State.spoil (s : State) (n : Nat) : State :=
  let g := Tab.get (fun _ => Gaffer.init) s.gafs n
  if g.phase = .window ∨ g.phase = .b0 ∨ g.phase = .b3 then
    s.withGafs (Tab.set (fun _ => Gaffer.init) s.gafs n { g with outBad := true })
  else s

/-- A CONFIRM of the same clock as an F1 fault is lost: the start-attempt record is written as it was (R350). DESIGN CHOICE (log
entry 159): an event that the confirmation raised stays raised. -/
def State.loseConfirm (s : State) : State :=
  let s0 := s.wr F.SYS_START_CTRL_CONFIRM 0
  match s0.start.confirmed with
  | some (t, a) => if t = s0.real then (s0.setAttempt a).wr F.SYS_START_STAT_PHASE 5 else s0
  | none => s0

/-- An F1 occurrence: recorded; the first of a containment stops the device's work and goes into the lehr's previous-fault record
(R396). The capture of the save list and the reset follow at F1_RESET_ASSERT. In the safe state it is logged only (R398). -/
def State.fault1 (s : State) (src detail : Nat) (wire : Bool) : State :=
  let r : FaultRec := ⟨src, 1, detail, none, wire⟩
  if s.safe || s.flt.f1 then s.recordFault r
  else
    let s1 := s.recordFault r
    let s2 := forEach (upTo 16) (fun n s => s.spoil n) s1.loseConfirm
    (s2.withFlt { s2.flt with f1 := true }).withLehr { s2.lehr with prev := some (r.srcWord, detail, s.now) }

/-! ### Sectors, tiles and regions (R34, R37, R468) -/

/-- Does sector `c` belong to region `n` (R37)? -/
def State.inRegion (s : State) (n c : Nat) : Bool :=
  s.on (F.SEC_CTRL_ASSIGNED c) && s.rd (F.SEC_CTRL_REGION c) == n

/-- The sectors of region `n`, lowest first. -/
def State.sectors (s : State) (n : Nat) : List Nat := (upTo 16).filter fun c => s.inRegion n c

/-- The logical tiles of region `n`, lowest first. -/
def State.regionTiles (s : State) (n : Nat) : List Nat := (upTo 128).filter fun t => s.inRegion n (t / 8)

/-- The region a tile belongs to. -/
def State.tileRegion (s : State) (t : Nat) : Option Nat :=
  if s.on (F.SEC_CTRL_ASSIGNED (t / 8)) then some (s.rd (F.SEC_CTRL_REGION (t / 8))) else none

/-- The lowest-numbered sector of region `n`, whose DUAL and WIN_LEN count (R468). -/
def State.leadSector (s : State) (n : Nat) : Option Nat := (s.sectors n).head?

/-- Does region `n` run in dual-schedule mode (R468)? -/
def State.dual (s : State) (n : Nat) : Bool :=
  match s.leadSector n with
  | some c => s.on (F.SEC_CTRL_DUAL c)
  | none => false

/-- The declared length code of a window (R102, R468); the reset code where the region has no sector (R99). -/
def State.lenCode (s : State) (n : Nat) (win : Bool) : Nat :=
  match s.leadSector n with
  | some c => if win then s.rd (F.SEC_WIN_LEN_LEN_B c) else s.rd (F.SEC_WIN_LEN_LEN_A c)
  | none => 0x7f

/-- The physical tile that carries logical tile `t` (R34). -/
def State.phys (s : State) (t : Nat) : Nat := s.rd (F.MPU_PHYS t)

/-- A gaffer's run state (R104). -/
def State.run (s : State) (n : Nat) : Nat := s.rd (F.GAF_STATUS_STATE n)

/-- Put the trigger queue; QDEPTH reports its length (R108). -/
def State.setQueue (s : State) (n : Nat) (q : List TrigEntry) : State :=
  (s.setGaf n { s.gaf n with queue := q }).wr (F.GAF_STATUS_QDEPTH n) q.length

/-- Put the loop stack; LOOP_DEPTH reports its length (R117). -/
def State.setLoops (s : State) (n : Nat) (l : List (Nat × Nat)) : State :=
  (s.setGaf n { s.gaf n with loops := l }).wr (F.GAF_STATUS_LOOP_DEPTH n) l.length

/-- Discard every queued trigger, each counted in TRIG_DISC_CNT (R107). -/
def State.discardQueue (s : State) (n : Nat) : State :=
  (s.bumpBy (F.GAF_TRIG_DISC_CNT_COUNT n) (s.gaf n).queue.length).setQueue n []

/-! ### The command mailbox (R279–R281) -/

/-- Byte `i` of a command. -/
def MbxCmd.byte (c : MbxCmd) (i : Nat) : Nat := slice c.raw (8 * i + 7) (8 * i)

/-- `n` bytes of a command from byte `i`, as a number. -/
def MbxCmd.num (c : MbxCmd) (i n : Nat) : Nat := slice c.raw (8 * (i + n) - 1) (8 * i)

/-- The 16 bytes of a completion entry (R279). -/
def MbxCmd.entry (c : MbxCmd) (status result : Nat) : List Nat :=
  [c.num 2 2 + 2 ^ 16 * c.byte 0 + 2 ^ 24 * status, c.idx, result, result / 2 ^ 32]

/-- A completion entry as a number of 128 bits. -/
def entryNum (l : List Nat) : Nat := leNat (l.flatMap fun w => leBytes 4 w)

/-- Write a command's completion at MBX_CPL_HEAD; a command started before a PCIe reset completes unseen (R271). The
completion of a command of the punty port waits there, with bit 127 set (R432). -/
def State.complete (s : State) (c : MbxCmd) (status result : Nat) : State :=
  if c.punty then s.withJtag { s.jtag with cpl := some (entryNum (c.entry status result) % 2 ^ 127 + 2 ^ 127) }
  else
  let s1 := if status = 0 then s else s.bump F.PCI_MBX_ERR_CNT_COUNT
  if c.dropped then s1
  else
    let h := s1.rd F.PCI_MBX_CPL_HEAD_HEAD
    let s2 := (s1.setWords (0xf01800 + 16 * (h % 64)) (c.entry status result)).wr F.PCI_MBX_CPL_HEAD_HEAD (h + 1)
    if bit (c.byte 1) 0 then s2.raise Ev.PCI_MBX_CPL else s2

/-- Has the completion ring room for one more command than those that run (R279)? -/
def State.mbxRoom (s : State) : Bool :=
  decide ((s.rd F.PCI_MBX_CPL_HEAD_HEAD + 128 - s.rd F.PCI_MBX_CPL_TAIL_TAIL) % 128 + b2n s.mbx.longRun.isSome +
    b2n s.mbx.shortRun.isSome < 64)

/-- May the core start a command (R279, R396, R398)? -/
def State.mbxReady (s : State) : Bool := s.on F.PCI_MBX_STAT_READY && s.mbxRoom && !s.flt.f1

/-- May the core start this command? One of the punty port needs no room in the completion ring (R432). -/
def State.mayStart (s : State) (c : MbxCmd) : Bool := if c.punty then !s.flt.f1 else s.mbxReady

/-- The command the short lane would start next, if its opcode is the one named (R280). -/
def State.shortNext (s : State) (op : Nat) : Option MbxCmd :=
  match s.mbx.shortRun, s.mbx.short with
  | none, c :: _ => if s.mayStart c && c.byte 0 == op then some c else none
  | _, _ => none

/-- The command the long lane would start next, if its opcode is the one named (R280). -/
def State.longNext (s : State) (op : Nat) : Option MbxCmd :=
  match s.mbx.longRun, s.mbx.long with
  | none, c :: _ => if s.mayStart c && c.byte 0 == op then some c else none
  | _, _ => none

/-- The short lane starts its front command. -/
def State.startShort (s : State) (c : MbxCmd) : State :=
  s.withMbx { s.mbx with short := s.mbx.short.tail, shortRun := some c }

/-- The long lane starts its front command. -/
def State.startLong (s : State) (c : MbxCmd) : State :=
  s.withMbx { s.mbx with long := s.mbx.long.tail, longRun := some c }

/-- The command the short lane runs completes. -/
def State.endShort (s : State) (status result : Nat) : State :=
  match s.mbx.shortRun with
  | some c => (s.withMbx { s.mbx with shortRun := none }).complete c status result
  | none => s

/-- The command the long lane runs completes. -/
def State.endLong (s : State) (status result : Nat) : State :=
  match s.mbx.longRun with
  | some c => (s.withMbx { s.mbx with longRun := none }).complete c status result
  | none => s

/-- Does the lane's running command name opcode `op` and region `n` in byte 4? -/
def runsFor (c : Option MbxCmd) (op n : Nat) : Bool :=
  match c with
  | some c => c.byte 0 == op && c.byte 4 == n
  | none => false

/-- Are the bytes `ks` of a command, which its PARAM leaves unused, and FLAGS bits 7:1 all 0 (R279)? -/
def MbxCmd.reservedZero (c : MbxCmd) (used : List Nat) : Bool :=
  c.byte 1 < 2 && ((List.range 32).filter fun i => decide (4 ≤ i) && !used.contains i).all fun i => c.byte i == 0

/-! ### Memory ports: tags and staleness (R128, R132) -/

/-- Put a port's requests; TAGS_USED reports their number. -/
def State.setReqs (s : State) (t : Nat) (rs : List MemReq) : State :=
  (s.setPort t { s.port t with reqs := rs }).wr (F.MPU_MP_STAT_TAGS_USED t) rs.length

/-- Every outstanding request of a tile becomes stale; data already landed and not visible is dropped (R132). -/
def State.staleTile (s : State) (t : Nat) : State :=
  let rs := ((s.port t).reqs.filter fun r => !r.answered).map fun r => { r with stale := true }
  (s.setPort t { s.port t with refused := [] }).setReqs t rs

/-! ### Power votes (R362, R364, R366, R367) -/

/-- A domain of the gateways: sector 0–15, HBM 16 and 17. -/
def State.dom (s : State) (d : Nat) : Domain := Tab.get (fun _ => Domain.init) s.pwr.doms d

/-- Put a domain. -/
def State.setDom (s : State) (d : Nat) (x : Domain) : State :=
  s.withPwr { s.pwr with doms := Tab.set (fun _ => Domain.init) s.pwr.doms d x }

/-- The sectors that share sector `c`'s state: those of its region (R362). -/
def State.peers (s : State) (c : Nat) : List Nat :=
  if s.on (F.SEC_CTRL_ASSIGNED c) then s.sectors (s.rd (F.SEC_CTRL_REGION c)) else [c]

/-- Does sector `c` hold the LOAD or the WAKE vote (R364)? -/
def State.votesAwake (s : State) (c : Nat) : Bool :=
  s.pwr.loadUse.contains c || s.pwr.testUse.contains c || (s.bst.slice.map fun pt => pt / 9) == some c || s.on (F.SEC_STATUS_VERIFY_BUSY c) || s.on (F.SEC_STATUS_REMAP_BUSY c) || (s.dom c).wakeVote

/-- Is sector `c` held in S3: marked unusable, or the device in F0 (R362, R398)? -/
def State.heldDown (s : State) (c : Nat) : Bool := s.on (F.SEC_STATUS_UNUSABLE c) || s.on F.FLT_STAT_F0

/-- The shallowest state that the voters of sector `c` hold, those of its region's other usable sectors included (R362, R364). -/
def State.wanted (s : State) (c : Nat) : Nat :=
  let n := s.rd (F.SEC_CTRL_REGION c)
  let assigned := s.on (F.SEC_CTRL_ASSIGNED c)
  if s.heldDown c then 3
  else if (assigned && (1 ≤ s.run n && s.run n ≤ 4 || (s.gaf n).waking.isSome)) ||
      (s.peers c).any (fun p => !s.heldDown p && s.votesAwake p) then 0
  else if assigned then s.rd (F.PWR_VOTE_TARGET n)
  else s.rd F.PWR_VOTE_FREE_TARGET

/-- An abandoned power-down leaves its traces (R367). -/
def State.abandon (s : State) (d : Nat) : State :=
  (((s.setDom d { s.dom d with down := none }).wr F.PWR_STAT_ABANDONED 1).bump F.PWR_ABANDON_CNT_COUNT).raise
    Ev.PWR_DOWN_ABANDONED

/-- Evaluate the votes of one sector: start a power-down, abandon one before isolation, or start a wake (R364–R367). DEDUCED (log
entry 168): one abandoned that began in a state deeper than S0 goes on with a wake. -/
def State.evalOne (s : State) (c : Nat) : State :=
  let d := s.dom c
  let w := s.wanted c
  let now := s.rd (F.SEC_STATUS_PSTATE c)
  match d.down with
  | some _ =>
    if w ≠ 0 || d.isolated then s
    else if now = 0 then s.abandon c
    else (s.abandon c).setDom c { (s.abandon c).dom c with waking := true }
  | none =>
    if d.waking then s
    else if now < w then s.setDom c { d with down := some w, isolated := false }
    else if w < now then s.setDom c { d with waking := true }
    else s

/-- Evaluate the votes that a change at sector `c` touches (R362). -/
def State.evalSector (s : State) (c : Nat) : State := forEach (s.peers c) (fun c s => s.evalOne c) s

/-- Evaluate the votes of the sectors of a region. -/
def State.evalRegion (s : State) (n : Nat) : State := forEach (s.sectors n) (fun c s => s.evalOne c) s

/-- Evaluate the votes of every sector. -/
def State.evalVotes (s : State) : State := forEach (upTo 16) (fun c s => s.evalOne c) s

/-- A wake on request, or an abandonment by a request, is counted and raised (R365, R367). -/
def State.wakePkt (s : State) : State := (s.bump F.PWR_WAKE_PKT_CNT_COUNT).raise Ev.PWR_WAKE_PKT

/-- Is a domain in a low state: a sector not in S0, a stack in self-refresh (R361, R363)? -/
def State.asleep (s : State) (d : Nat) : Bool :=
  if d < 16 then s.rd (F.SEC_STATUS_PSTATE d) != 0 else s.on (F.HBM_STATUS_SELF_REFRESH (d - 16))

/-- The WAKE vote of a sector counts for its whole region; a stack stands alone (R362, R364). -/
def State.evalDomain (s : State) (d : Nat) : State := if d < 16 then s.evalSector d else s

/-- A wake from S4 ends (R371) once its image is released, the gather banks it restored are trained, and every sector that the votes
hold at S0 is in S0. -/
def State.tryEndWake (s : State) : State :=
  let p := s.rd F.SYS_START_STAT_PHASE
  if s.start.wake && (p == 5 || p == 6) && s.start.train.all (fun g => s.on (F.GTH_STATUS_TRAINED g)) &&
      (upTo 16).all fun c => s.wanted c != 0 || s.rd (F.SEC_STATUS_PSTATE c) == 0 then
    ((s.withStart { s.start with wake := false }).wr F.PWR_STAT_S4_RESULT 1).raise Ev.PWR_WOKE
  else s

/-- Domain `d` takes the WAKE vote of a request. -/
def State.voteWake (s : State) (d : Nat) : State := s.setDom d { s.dom d with wakeVote := true }

/-- A request that may wake reaches domain `d` (R365–R367): it abandons a power-down before isolation, or sets the WAKE vote of a
sleeping domain, which begins its wake. A sector that is held in S3 does not wake (R362). -/
def State.knock (s : State) (d : Nat) : State :=
  let x := s.dom d
  if d < 16 && s.heldDown d then (if s.asleep d then s.voteWake d else s)
  else
    match x.down with
    | some _ =>
      if !x.isolated then (((s.abandon d).voteWake d).wakePkt).evalDomain d
      else if x.wakeVote then s else (s.voteWake d).wakePkt.evalDomain d
    | none =>
      if !s.asleep d then s
      else if x.waking then s.voteWake d
      else (s.setDom d { x with wakeVote := true, waking := true }).wakePkt.evalDomain d

/-- Must a request to domain `d` wait: it sleeps or its admission is closed (R365, R366)? -/
def State.mustWait (s : State) (d : Nat) : Bool := s.asleep d || (s.dom d).down.isSome

/-! ### The switch window of a level change, as the gaffers see it (R355) -/

/-- Is the step clock stopped: does PLL0 relock (R356)? -/
def State.clockStopped (s : State) : Bool :=
  match s.pwr.perf with
  | some c => decide (c.phase = .relock)
  | none => false

/-- Is the window open, or PLL0 relocking? -/
def State.windowOpen (s : State) : Bool :=
  match s.pwr.perf with
  | some c => decide (c.phase = .window) || decide (c.phase = .relock)
  | none => false

/-- A RUN is held by the window: counted once. `k` is 2n for a RUN of gaffer `n` issued before, 2n + 1 for one it reaches. -/
def State.holdRun (s : State) (k : Nat) : State :=
  match s.pwr.perf with
  | some c =>
    if c.held.contains k then s
    else (s.withPwr { s.pwr with perf := some { c with held := c.held ++ [k] } }).bump F.PWR_PERF_HOLD_CNT_COUNT
  | none => s

/-! ### Run states (R105, R107, R392) -/

/-- Enter IDLE or FENCED with a cause: GAF_STATE is raised, the queue discarded, requests become stale (R105, R107,
R132), nothing issued remains, and the votes are taken again (R364). An XCHG that no cycle has taken stays (R120). -/
def State.halted (s : State) (n code cause : Nat) : State :=
  let g := s.gaf n
  let s1 := s.setGaf n { g with
    phase := .none, next := none, nextFixed := false, fence := none, stop := none,
    hit := false, haltHit := false, outBad := false }
  let s2 := (((s1.wr (F.GAF_STATUS_STATE n) code).wr (F.GAF_STATUS_CAUSE n) cause).discardQueue n).raise (Ev.GAF n 7)
  (forEach (s2.regionTiles n) (fun t s => s.staleTile t) s2).evalRegion n

/-- The command with opcode `op` that waits for region `n` completes (R105, R281). -/
def State.regionDone (s : State) (op n status result : Nat) : State :=
  if runsFor s.mbx.shortRun op n then s.endShort status result else s

/-- A start of region `n` fails with its wake: FAILED, with STATUS.CAUSE (R105). -/
def State.startFailed (s : State) (n : Nat) : State :=
  let c := s.rd (F.GAF_STATUS_CAUSE n)
  (s.regionDone 0x10 n 6 c).regionDone 0x12 n 6 c

/-- Enter FENCED: FLT_STAT.FENCED and FLT_FENCE[n] are updated (R392). A start that was waking the region completes FAILED
(R105). -/
def State.enterFenced (s : State) (n cause source : Nat) : State :=
  let s1 := (s.setGaf n { s.gaf n with waking := none }).halted n 5 cause
  let s2 := s1.wr F.FLT_STAT_FENCED (setBitTo (s1.rd F.FLT_STAT_FENCED) n true)
  let s3 := (s2.wr (F.FLT_FENCE_LAST_SOURCE n) source).wr (F.FLT_FENCE_COUNT n)
    (min 0xffff (s2.rd (F.FLT_FENCE_COUNT n) + 1))
  if (s.gaf n).waking.isSome then s3.startFailed n else s3

/-- An F2 fault of region `n` takes effect (R105, R392): at once when no cycle runs, otherwise after the cycle's b23; an
array source in a window or up to b3 marks the cycle's gob-out invalid. -/
def State.fence (s : State) (n cause source : Nat) : State :=
  let g := s.gaf n
  if s.run n = 5 || g.fence.isSome then s
  else if s.run n = 1 then s.halted n 0 6
  else if g.phase = .none then s.enterFenced n cause source
  else
    let early := decide (g.phase = .window) || decide (g.phase = .b0) || decide (g.phase = .b3)
    s.setGaf n { g with
      fence := some (cause, source), next := none, nextFixed := false,
      outBad := g.outBad || (early && source != 19) }

/-- Report an F2 fault of a region and fence it; during the containment of an F1 or F0 fault it is recorded only (R388). -/
def State.fault2 (s : State) (n src detail cause : Nat) : State :=
  let s1 := s.report src detail (some n)
  if s1.flt.f1 || s1.safe then s1 else s1.fence n cause src

/-! ### Starts of a region (R44, R105, R443, R469) -/

/-- The registers that act through a latched copy (R469), as offsets in a tile block. -/
def latchedOffs : List Nat :=
  [0x40, 0x44, 0x48, 0x4c, 0x50, 0x54, 0x58, 0x5c, 0x60, 0x80, 0x84, 0xa0, 0xa4, 0xa8, 0xac, 0xb0, 0xb4, 0xb8, 0xbc]

/-- The capture ring at a load of DBG_CTRL's copy (R74): a rise of CAP_EN restarts it, a later load counts a cycle. -/
def State.loadCapture (s : State) (t : Nat) : State :=
  if !s.on (F.MPU_DBG_CTRL_CAP_EN t) then s
  else if s.latched (F.MPU_DBG_CTRL_CAP_EN t) = 0 then
    (s.setTile t { s.tile t with capCycle := 0, capCount := 0 }).setReg (F.MPU_CAP_STAT_WR_PTR t).off 0
  else s.setTile t { s.tile t with capCycle := (s.tile t).capCycle + 1 }

/-- Load one tile's latched copies (R469). -/
def State.loadLatch (s : State) (t : Nat) : State :=
  let s1 := s.loadCapture t
  forEach latchedOffs (fun o s =>
    let off := 0x200000 + 0x10000 * (t % 128) + o
    (s.withLatch (Tab.set regReset s.latch off (s.reg off)))) s1

/-- DM locations from key `a` up to `b` are written 0 with correct parity (R44, R395), or lose what they held. -/
def State.clearDm (s : State) (a b : Nat) : State := (s.withDm (Tab.clear s.dm a b)).withDmBad (Tab.clear s.dmBad a b)

/-- The buffers of the logical tiles from `t` up to `u` lose their contents: gob-in, gob-out, request and return buffers, and the
far-in areas (R83, R92). -/
def State.clearBuffers (s : State) (t u : Nat) : State :=
  ((((s.withGobIn (Tab.clear s.gobIn (t * 4096) (u * 4096))).withGobOut (Tab.clear s.gobOut (t * 4096) (u * 4096))).withReqArea
    (Tab.clear s.reqArea (t * 4096) (u * 4096))).withRetBuf (Tab.clear s.retBuf (t * 2048) (u * 2048))).withFarIn
    (Tab.clear s.farIn (t * 16) (u * 16))

/-- What a start of R44 clears in one tile: DM, the return buffer and its poison flags, X (R44, R132, R443). -/
def State.clearTile (s : State) (t : Nat) : State :=
  let pt := s.phys t
  let s1 := (s.clearDm (pt * 2097152) ((pt + 1) * 2097152)).withRetBuf (Tab.clear s.retBuf (t * 2048) ((t + 1) * 2048))
  ((s1.setTile t { s1.tile t with poison := 0, poisonLatched := false, dmFails := 0, farSeen := [] }).wr
    (F.MPU_XCHG_NUM_X t) 0).staleTile t

/-- A start of R44 of region `n`. The clear ends with DM_CLEAR_END. -/
def State.startR44 (s : State) (n : Nat) : State :=
  let s1 := forEach (s.regionTiles n) (fun t s => (s.clearTile t).loadLatch t) s
  let d := match s.regionTiles n with | t :: _ => s.rd (F.MPU_MP_CFG_D_CODE t) + 1 | [] => 1
  let s2 := s1.setGaf n { s1.gaf n with fresh := true, prevWin := none, overrunSeen := false, dmClear := true, dDepth := d }
  let s3 := (((s2.wr64 (0x100020 + 0x10000 * (n % 16)) 0).wr (F.GAF_STALL_BOUND_BOUND n) 200).wr (F.GAF_STATUS_SEL n) 0)
  ((s3.setReg (0x100018 + 0x10000 * (n % 16)) 0).setReg (0x10001c + 0x10000 * (n % 16)) 0).wr F.TB_XSYNC_SYNCED
    (setBitTo (s3.rd F.TB_XSYNC_SYNCED) n false)

/-- The program begins at START_PC (R105). Open loops stay as they are (R443): REGION_RESTART alone clears them. -/
def State.armed (s : State) (n : Nat) : State :=
  let s1 := s.wr (F.GAF_STATUS_PC n) (s.rd (F.GAF_CTRL_START_PC n))
  let s2 := s1.wr F.FLT_STAT_FENCED (setBitTo (s1.rd F.FLT_STAT_FENCED) n false)
  (s2.setGaf n { s2.gaf n with phase := .none, waking := none, restart := false, past := false }).wr (F.GAF_STATUS_STATE n) 2

/-- Clear the pending counts of a gaffer's wait conditions (R105). -/
def State.clearPends (s : State) (n : Nat) : State :=
  (s.setReg (0x100044 + 0x10000 * (n % 16)) 0).setReg (0x100048 + 0x10000 * (n % 16)) 0

/-! ### HBM as its users see it (R21, R138, R139, R141, R363) -/

/-- Is the range inside HBM (R21)? -/
def inHbm (a n : Nat) : Bool := decide (a + n ≤ 2 ^ 35)

/-- The pseudo-channel index P[5:0] of an address (R138). -/
def pseudoIdx (a : Nat) : Nat := Nat.xor (Nat.xor (slice a 13 8) (slice a 19 14)) (slice a 25 20)

/-- The stack that serves an address: P[5]. -/
def stackOf (a : Nat) : Nat := pseudoIdx a / 32

/-- Its channel: P[4:1]. -/
def channelOf (a : Nat) : Nat := pseudoIdx a / 2 % 16

/-- The address within its pseudo-channel: A[34:14] and A[7:0]. -/
def localOf (a : Nat) : Nat := slice a 34 14 * 256 + slice a 7 0

/-- Its bank: the four local bits above the 256-byte offset. -/
def bankOf (a : Nat) : Nat := slice (localOf a) 11 8

/-- The stacks that a range touches. P[5] is the same throughout an 8 KiB block and differs between the two halves of a
16 KiB block. -/
def stacksTouched (a n : Nat) : List Nat :=
  if n = 0 then []
  else if a / 8192 + 2 ≤ (a + n - 1) / 8192 then [0, 1]
  else if stackOf a = stackOf (a + n - 1) then [stackOf a]
  else [stackOf a, stackOf (a + n - 1)]

/-- A stack that answers every request with an error: its training failed (R141). -/
def State.stackDead (s : State) (c : Nat) : Bool := s.on (F.HBM_STATUS_LINK_ERR c)

/-- Does stack `c` serve requests now: trained, not in self-refresh and not entering it (R141, R363, R366)? -/
def State.stackServes (s : State) (c : Nat) : Bool := s.on (F.HBM_STATUS_TRAINED c) && !s.mustWait (16 + c)

/-- Does every stack that a range touches answer now? -/
def State.hbmReady (s : State) (a n : Nat) : Bool := (stacksTouched a n).all fun c => s.stackDead c || s.stackServes c

/-- A request to a range wakes the stacks it needs (R363, R365). -/
def State.wakeHbm (s : State) (a n : Nat) : State :=
  forEach (stacksTouched a n) (fun c s => if s.stackDead c then s else s.knock (16 + c)) s

/-- What needs an answer of HBM goes on once the range's stacks answer; until then their gateways hold its request. -/
def State.onceHbm (s : State) (a n : Nat) (f : State → State) : State :=
  let s1 := s.wakeHbm a n
  if s1.hbmReady a n then f s1 else s1

/-- The words of a table of stored codes that a range touches, of stacks that answer. -/
def State.codeWords (s : State) (m : Tab Bool) (a n : Nat) : List Nat :=
  (m.map fun e => e.1).filter fun w =>
    decide (a < 8 * w + 8) && decide (8 * w < a + n) && !s.stackDead (stackOf (8 * w))

/-- The words with a code that reads as uncorrectable that a range touches. -/
def State.badWords (s : State) (a n : Nat) : List Nat := s.codeWords s.hbmBad a n

/-- An uncorrectable error met by the controller (R139): counted, the first address recorded, raised. -/
def State.ueMet (s : State) (a : Nat) : State :=
  let c := stackOf a
  let s1 := s.bump (F.HBM_UE_CNT_COUNT c)
  let s2 := if s1.on (F.HBM_UE_ADDR_HI_VALID c) then s1
    else (s1.setReg (0xe00018 + 0x10000 * (c % 2)) (BitVec.ofNat 32 (a / 64 * 64))).setReg (0xe0001c + 0x10000 * (c % 2))
      (BitVec.ofNat 32 (2 ^ 31 + a / 2 ^ 32 % 8))
  s2.raise (Ev.HBM_UE c)

/-- The F3 record of the errors that one access meets in words of HBM: of occurrences of a source that come together only the
first is recorded (R139, R383). -/
def State.ueReport (s : State) (ws : List Nat) : State :=
  forEach ((upTo 2).filter fun c => ws.any fun w => stackOf (8 * w) == c) (fun c s => s.report 25 c none) s

/-- Words of HBM read as uncorrectable (R139). -/
def State.hbmUes (s : State) (ws : List Nat) : State := (forEach ws (fun w s => s.ueMet (8 * w)) s).ueReport ws

/-- Put the stored code of word `w` right, or to one that reads as uncorrectable. -/
def State.setBad (s : State) (w : Nat) (b : Bool) : State := s.withHbmBad (Tab.set (fun _ => false) s.hbmBad w b)

/-- Put or remove a single-bit error in the stored code of word `w`. -/
def State.setSoft (s : State) (w : Nat) (b : Bool) : State := s.withHbmSoft (Tab.set (fun _ => false) s.hbmSoft w b)

/-- A single-bit error of word `w` corrected by the controller and written back (R139). -/
def State.hbmCe (s : State) (w : Nat) : State :=
  ((s.setSoft w false).bump (F.HBM_CE_CNT_COUNT (stackOf (8 * w)))).raise (Ev.HBM_CE (stackOf (8 * w)))

/-- The upsets of a command as words of HBM. -/
def upsetList (u : Upsets) : List (Nat × Bool) := u.map fun x => (x.1.toNat, x.2)

/-- Upsets that words of the stacks have suffered before the access that meets them: `true` marks a word that can no longer
be corrected. A word that reads as uncorrectable stays so. -/
def State.upsets (s : State) (l : List (Nat × Bool)) : State :=
  forEach l (fun x s =>
    if Tab.get (fun _ => false) s.hbmBad x.1 then s
    else if x.2 then (s.setSoft x.1 false).setBad x.1 true
    else s.setSoft x.1 true) s

/-- Read a range whose stacks answer: the state after the errors met, whether the read failed, and the bytes. -/
def State.hbmRead (s : State) (a n : Nat) : State × Bool × List Byte :=
  let dead := (stacksTouched a n).any fun c => s.stackDead c
  let s1 := forEach (s.codeWords s.hbmSoft a n) (fun w s => s.hbmCe w) s
  match s1.badWords a n with
  | [] => (s1, dead, Bytes.read s1.hbm a n)
  | w :: ws => (s1.hbmUes (w :: ws), true, Bytes.read s1.hbm a n)

/-- A word of a write meets its stored code (R139): written whole it gets a fresh one; written in part a single-bit error is
corrected, an uncorrectable one reported and kept. -/
def State.meetCode (s : State) (w : Nat) (whole : Bool) : State :=
  if Tab.get (fun _ => false) s.hbmBad w then (if whole then s.setBad w false else s.ueMet (8 * w))
  else if Tab.get (fun _ => false) s.hbmSoft w then (if whole then s.setSoft w false else s.hbmCe w)
  else s

/-- Store bytes in stacks that answer (R139). -/
def State.hbmPutBytes (s : State) (a : Nat) (bs : List Byte) : State :=
  let n := bs.length
  let whole := fun (w : Nat) => decide (a ≤ 8 * w) && decide (8 * w + 8 ≤ a + n)
  let s1 := forEach (s.codeWords s.hbmSoft a n ++ s.badWords a n) (fun w s => s.meetCode w (whole w)) s
  let s2 := s1.ueReport ((s.badWords a n).filter fun w => !whole w)
  s2.withHbm (Bytes.write s2.hbm a bs)

/-- Store bytes in the stacks that answer, 8 KiB block by block; what a stack with a failed training would hold is lost
(R141). -/
def State.hbmStore (s : State) (a : Nat) (bs : List Byte) : State :=
  if (stacksTouched a bs.length).all fun c => !s.stackDead c then s.hbmPutBytes a bs
  else
    forEach (upTo ((a + bs.length) / 8192 + 1 - a / 8192)) (fun i s =>
      let lo := max a (8192 * (a / 8192 + i))
      if s.stackDead (stackOf lo) then s
      else s.hbmPutBytes lo ((bs.drop (lo - a)).take (8192 * (a / 8192 + i + 1) - lo))) s

/-- Write a range inside HBM: performed, or held by the gateways of its stacks until they answer (R141, R363, R365). -/
def State.hbmPutIn (s : State) (a : Nat) (bs : List Byte) : State :=
  let s1 := s.wakeHbm a bs.length
  if s1.hbmReady a bs.length then s1.hbmStore a bs
  else s1.withHbmHeld (s1.hbmHeld ++ [.write a (bs.map some)])

/-- Write a range. What lies past the end of HBM is discarded, counted and raised (R23). -/
def State.hbmWrite (s : State) (a : Nat) (bs : List Byte) : State :=
  if inHbm a bs.length then s.hbmPutIn a bs
  else
    let inside := bs.take (2 ^ 35 - a)
    (if inside.isEmpty then s else s.hbmPutIn a inside).accessErr 3 true true (max a (2 ^ 35))

/-! ### Commands that complete at once (R281) -/

/-- The opcodes of long and of short commands (R280). -/
def longOps : List Nat := [0x01, 0x02, 0x03, 0x30, 0x31, 0x40, 0x50, 0x60, 0x61]
/-- Short commands. -/
def shortOps : List Nat := [0x10, 0x11, 0x12, 0x20, 0x41]

/-- The bytes of a command's PARAM that its opcode uses (R280). -/
def paramBytes (op : Nat) : List Nat :=
  let from8 := fun (n : Nat) => (upTo n).map fun k => 8 + k
  if op = 0x01 then 4 :: 5 :: from8 12 else if op = 0x02 then 4 :: from8 12 else if op = 0x03 then [4, 5, 6]
  else if op = 0x30 ∨ op = 0x41 then 4 :: from8 8 else if op = 0x31 then []
  else if op = 0x50 then from8 24 else if op = 0x60 then [4, 8, 9, 10, 11, 12, 13, 16, 17, 18, 19]
  else if op = 0x61 then from8 20 else [4]

/-- Is a parameter of a command out of range whatever the device's state (R280, R281)? -/
def MbxCmd.outOfRange (c : MbxCmd) : Bool :=
  let op := c.byte 0
  if op = 0x01 then
    decide (2 ≤ c.byte 4) || (c.byte 4 == 0 && decide (5 ≤ c.byte 5)) || (c.byte 4 == 1 && !inHbm (c.num 8 8) (c.num 16 4))
  else if op = 0x02 then decide (64 ≤ c.byte 4) || !inHbm (c.num 8 8) (c.num 16 4)
  else if op = 0x03 then decide (64 ≤ c.byte 4) || decide (16 ≤ c.byte 5) || decide (2 ≤ c.byte 6)
  else if op = 0x10 ∨ op = 0x11 ∨ op = 0x12 then decide (16 ≤ c.byte 4)
  else if op = 0x20 then decide (4 ≤ c.byte 4)
  else if op = 0x30 then decide (16 ≤ c.byte 4) || !inHbm (c.num 8 8) 8
  else if op = 0x40 then decide (4 < c.byte 4)
  else if op = 0x41 then
    decide (2 < c.byte 4) || (c.byte 4 == 0 && !inHbm (c.num 8 8) 64) || (c.byte 4 == 1 && !inHbm (c.num 8 8) 216)
  else if op = 0x50 then !inHbm (c.num 8 8) 1566
  else if op = 0x60 then decide (3 < c.byte 4) || c.num 16 4 == 0
  else if op = 0x61 then c.num 24 4 == 0 || !inHbm (c.num 8 8) (4096 * c.num 24 4)
  else false

/-- Has a command a reserved bit set or a parameter out of range, so that it completes BAD_PARAM (R281)? -/
def MbxCmd.paramBad (c : MbxCmd) : Bool := !c.reservedZero (paramBytes (c.byte 0)) || c.outOfRange

/-! ### PCIe as its users see it (R268, R269, R271, R272) -/

/-- Post bytes to host memory: sent while the function may send requests, otherwise waiting (R271). -/
def State.hostWrite (s : State) (a : Nat) (bs : List Byte) : State := s.post (.hostWrite a bs)

/-- The posted writes that waited go out, in order (R271). -/
def State.sendPosted (s : State) : State :=
  forEach s.pcie.posted (fun o s => s.emit o) (s.withPcie { s.pcie with posted := [] })

/-- An error the endpoint detects is logged under AER. -/
def State.aerLogged (s : State) (x : AerErr) : State := s.withPcie { s.pcie with aer := s.pcie.aer ++ [x] }

/-- An uncorrectable error: logged, counted, raised (R272). -/
def State.aerUncor (s : State) (x : AerErr) : State :=
  ((s.aerLogged x).bump F.PCI_UNCOR_CNT_COUNT).raise Ev.PCI_AER_UNCOR

/-- A correctable error: logged, counted, raised (R272). -/
def State.aerCor (s : State) (x : AerErr) : State := ((s.aerLogged x).bump F.PCI_COR_CNT_COUNT).raise Ev.PCI_AER_COR

/-- A request of a kind the function does not support (R269): logged, and answered Unsupported Request if it is not posted. -/
def State.unsupported (s : State) (posted : Bool) : State :=
  if posted then s.aerUncor .unsupported else (s.aerUncor .unsupported).emit (.completion 1 false [])

/-- The error with which a memory request of the host is dropped (R272; PRESUMED from the base specification, log entry 173): the data of
a write are poisoned, or its ECRC is checked and does not agree. -/
def State.tlpFault (s : State) (t : Tlp) (write : Bool) : Option AerErr :=
  match t with
  | .good => none
  | .poisoned => if write then some .poisoned else none
  | .badEcrc => if s.pcie.ecrc.2 then some .ecrc else none

/-- A memory request of the host that arrives with an error is logged and dropped. -/
def State.dropTlp (s : State) (t : Tlp) (write : Bool) : State :=
  match s.tlpFault t write with
  | some x => s.aerUncor x
  | none => s

/-! ### Gob-in deliveries (R84, R87, R88) -/

/-- The physical side of a tile's gob-in buffer that fills. -/
def State.fillSide (s : State) (t : Nat) : Nat := 1 - s.rd (F.MPU_GOB_STAT_READ_SIDE t)

/-- A write of a delivery discarded wholly or in part (R84). -/
def State.gobDrop (s : State) (t : Nat) : State := (s.bump (F.MPU_GOB_DROP_CNT_COUNT t)).wr (F.MPU_GOB_STAT_DROP t) 1

/-- Apply a data write to the fill side (R84). -/
def State.gobData (s : State) (t off : Nat) (bs : List Byte) : State :=
  if s.on (F.MPU_GOB_STAT_FILL_CLOSED t) then s.gobDrop t
  else
    let keep := if s.latched (F.MPU_GOB_CFG_FAR_IN t) = 1 then bs.take (1920 - off) else bs
    let s1 := s.withGobIn (Bytes.write s.gobIn ((t * 2 + s.fillSide t) * 2048 + off) keep)
    if keep.length < bs.length then s1.gobDrop t else s1

/-- Apply a close write: VALID as 1 and bits 7:2 as 0 whatever it carries (R84). -/
def State.gobClose (s : State) (t hdr : Nat) : State :=
  if s.on (F.MPU_GOB_STAT_FILL_CLOSED t) then s.gobDrop t
  else
    let h := hdr / 256 * 256 + 2 * (hdr / 2 % 2) + 1
    ((s.withGobIn (Bytes.write s.gobIn ((t * 2 + s.fillSide t) * 2048) (leBytes 8 h)))).wr
      (F.MPU_GOB_STAT_FILL_CLOSED t) 1

/-- Is tile `t`'s region between the start of b0 and the end of b3, when gob-in writes wait (R87)? -/
def State.gobHeld (s : State) (t : Nat) : Bool :=
  match s.tileRegion t with
  | some n => decide ((s.gaf n).phase = .b0) || decide ((s.gaf n).phase = .b3)
  | none => false

/-- A sector whose gateway answers FENCED (R365, R393). -/
def State.fencedTile (s : State) (t : Nat) : Bool :=
  match s.tileRegion t with
  | some n => s.run n == 5
  | none => false

/-- Apply a gob-in write. -/
def State.gobApply (s : State) (t : Nat) : GobWrite → State
  | .data off bs _ => s.gobData t off bs
  | .close h _ => s.gobClose t h

/-- The gob-in writes that waited in the gateway queue of tile `t` apply in arrival order (R87, R365). -/
def State.applyWaiting (s : State) (t : Nat) : State :=
  let ws := (s.tile t).waiting
  forEach ws (fun w s => s.gobApply t w) (s.setTile t { s.tile t with waiting := [] })

/-- A write of a delivery reaches tile `t`'s gateway (R84, R87, R365, R393): a fenced tile answers FENCED and a tile of no
region answers no gob (R37); a sleeping sector is woken, and the write waits for it. -/
def State.gobArrive (s : State) (t : Nat) (w : GobWrite) : State :=
  if s.fencedTile t || (s.tileRegion t).isNone then s
  else
    let s1 := s.knock (t / 8)
    if s1.mustWait (t / 8) || s1.gobHeld t then s1.setTile t { s1.tile t with waiting := (s1.tile t).waiting ++ [w] }
    else s1.gobApply t w

/-- A data write of a delivery reaches tile `t`. -/
def State.gobInWrite (s : State) (t off : Nat) (bs : List Byte) : State := s.gobArrive t (.data off bs none)

/-- A close write of a delivery reaches tile `t`. -/
def State.gobInCloseAt (s : State) (t hdr : Nat) : State := s.gobArrive t (.close hdr none)

end Sys2Proof.Machine
end

