-- ==== Sys2Proof/Machine/Operands.lean ====
section
/-!
DEFINITION. The fields of the words the device executes: step words (R57, R59, R63, R67, R70), gaffer words (R98, R99),
route rows (R79), request slots (R126), and which unit of a tile fetches which word in a window (R38, R42, R46, R47).
-/

namespace Sys2Proof.Machine

/-! ### Step words (R57–R70) -/

/-- KIND. -/
def stepKind (w : Nat) : Nat := slice w 79 76

/-- TT. -/
def stepTT (w : Nat) : Nat := slice w 75 60

/-- The operand field of A, B, C or D (0–3). -/
def stepOpnd (w i : Nat) : Nat := slice w (59 - 13 * i) (47 - 13 * i)

/-- MOD. -/
def stepMod (w : Nat) : Nat := slice w 7 0

/-- MOD.OUTCAP. -/
def stepOutcap (w : Nat) : Bool := bit w 7

/-- MOD.LANEMASK. -/
def stepLanemask (w : Nat) : Bool := bit w 6

/-- What an operand field reads (R59). -/
inductive Operand
  | dm (loc : Nat)
  | net (lane : Nat)
  | track (idx : Nat)
  | special (idx : Nat)
  | invalid
  deriving DecidableEq, Repr

/-- The special indices R62 lists. -/
def specialListed (i : Nat) : Bool :=
  decide (i ≤ 5) || (decide (0x10 ≤ i) && decide (i ≤ 0x13)) || (decide (0x18 ≤ i) && decide (i ≤ 0x1c)) ||
  (decide (0x20 ≤ i) && decide (i ≤ 0x24)) || (decide (0x28 ≤ i) && decide (i ≤ 0x2e)) ||
  (decide (0x40 ≤ i) && decide (i ≤ 0x4f)) || (decide (0x80 ≤ i) && decide (i ≤ 0x9f))

/-- Decode an operand field (R59). -/
def operandOf (f : Nat) : Operand :=
  let i := slice f 10 0
  match slice f 12 11 with
  | 0 => .dm i
  | 1 => if i < 32 then .net i else .invalid
  | 2 => if i < 512 then .track i else .invalid
  | _ => if specialListed i then .special i else .invalid

/-- How many of A, B, C, D a kind reads, and how many low bits of TT it uses (R63). -/
def kindUse : Nat → Nat × Nat
  | 1 => (4, 16) | 2 => (4, 8) | 3 => (0, 14) | 4 => (1, 14) | 5 => (1, 15) | 6 => (0, 14) | 7 => (4, 16) | _ => (0, 0)

/-- Does the kind address a gob, request or return bit (R68)? -/
def kindAddresses (k : Nat) : Bool := decide (3 ≤ k) && decide (k ≤ 6)

/-- The lowest item of R70 that a word breaks, in a replicated or a distinct cluster; none if the word is valid. -/
def stepInvalid (repl : Bool) (w : Nat) : Option Nat :=
  let k := stepKind w
  let used := (kindUse k).1
  if 8 ≤ k then some 1
  else if stepMod w % 64 ≠ 0 then some 2
  else if stepLanemask w && !repl then some 3
  else if (upTo used).any fun i => operandOf (stepOpnd w i) == .invalid then some 4
  else if ((upTo 4).any fun i => decide (used ≤ i) && stepOpnd w i != 0) || stepTT w / 2 ^ (kindUse k).2 != 0 then some 5
  else if repl && kindAddresses k && stepTT w % 8 != 0 then some 6
  else none

/-! ### Units and windows (R38, R46, R47, R51, R468) -/

/-- Is BP `p`'s cluster of tile `t` in replicated mode (R46)? -/
def State.repl (s : State) (t p : Nat) : Bool := bit (s.rd (F.MPU_CL_MODE t)) (p / 32)

/-- A window of a schedule: its base and size for a distinct or a replicated cluster (R47). -/
def winBase (win repl : Bool) : Nat := if win then (if repl then 8192 else 1024) else 0

/-- The size of a window (R47). -/
def winSize (dual repl : Bool) : Nat :=
  match dual, repl with
  | true, false => 1024 | true, true => 8192 | false, false => 2048 | false, true => 16384

/-- The steps a unit executes in a window of declared length code `len` (R47). -/
def winSteps (dual repl : Bool) (len : Nat) : Nat := min (16 * (len + 1)) (winSize dual repl)

/-- The bank key of the word a unit fetches at step `s` of its bank or stream (R38): physical tile `pt`, position `p`. -/
def stepKey (repl : Bool) (pt p s : Nat) : Nat :=
  if repl then (pt * 1024 + p + s % 8192 / 1024) * 2048 + 1024 * (s / 8192) + s % 1024
  else (pt * 1024 + p) * 2048 + s

/-- The step word at a bank key. -/
def State.stepAt (s : State) (key : Nat) : Nat := (Tab.get (fun _ => (0 : StepWord)) s.steps key).toNat

/-- Fold one 80-bit step word into 64 bits (R51). -/
def fold80 (w : Nat) : BitVec 64 := BitVec.ofNat 64 w ^^^ BitVec.ofNat 64 (slice w 79 64 * 2 ^ 48)

/-- What one stored word contributes to the fold of a window (R51): the unit's position rotates its word, and each later
step of the window rotates it once more. Words outside the window and words of other tiles contribute nothing. -/
def foldTerm (modes : Nat) (dual win : Bool) (len pt key w : Nat) : BitVec 64 :=
  let p := key / 2048 % 1024
  let b := key % 2048
  let repl := bit modes (p / 32)
  let u := if repl then p - p % 8 else p
  let st := if repl then 8192 * (b / 1024) + 1024 * (p % 8) + b % 1024 else b
  let k := st - winBase win repl
  if key / 2097152 = pt && winBase win repl ≤ st && k < winSteps dual repl len then
    rotl64 (rotl64 (fold80 w) u) (16 * (len + 1) - 1 - k)
  else 0

/-- The fold of one tile over one window (R51). Each step rotates what the earlier steps gave by one bit and adds the
step's rotated words, so the fold is the exclusive OR of every fetched word rotated by its position and by the steps
that follow it; an unlisted word is 0 and folds to 0. -/
def State.fold (s : State) (t : Nat) (dual win : Bool) (len : Nat) : BitVec 64 :=
  let modes := s.rd (F.MPU_CL_MODE t)
  s.steps.foldl (fun c e => c ^^^ foldTerm modes dual win len (s.phys t) e.1 e.2.toNat) 0

/-- The expected fold of a window. -/
def State.foldExp (s : State) (t : Nat) (win : Bool) : Nat :=
  if win then s.rd64 (0x200018 + 0x10000 * (t % 128)) else s.rd64 (0x200010 + 0x10000 * (t % 128))

/-! ### Route rows (R78–R81) -/

/-- The route row at index `r` of the physical tile that carries tile `t`. -/
def State.row (s : State) (t r : Nat) : Nat := Tab.get (fun _ => 0) s.routes (s.phys t * 16384 + r)

/-- Parity bit `q` of a row: even over the row bits i < 1,816 with i mod 8 = q, and the stored bit (R79). -/
def rowParity (row q : Nat) : Bool :=
  (upTo 227).foldl (fun a i => xor a (bit row (8 * i + q))) (bit row (1816 + q))

/-- Does every parity bit of a row agree (R81)? -/
def rowGood (row : Nat) : Bool := (upTo 8).all fun q => !rowParity row q

/-- A row with parity bits that agree with its fields (R80). -/
def rowSealed (fields : Nat) : Nat :=
  let f := fields % 2 ^ 1816
  f + 2 ^ 1816 * ((upTo 8).foldl (fun a q => a + 2 ^ q * b2n (rowParity f q)) 0)

/-- The first row of a window (R78). -/
def rbase (win : Bool) : Nat := if win then 8192 else 0

/-- The local index a row's field names for tile track `x`, sector track `i` of its position: none when not VALID. -/
def rowSrc (row lo : Nat) : Option Nat := if bit row (lo + 10) then some (slice row (lo + 9) lo) else none

/-- The position and local index a row's global field `i` names. -/
def rowGlobal (row i : Nat) : Option (Nat × Nat) :=
  let lo := 1760 + 14 * i
  if bit row (lo + 13) then some (slice row (lo + 12) (lo + 10), slice row (lo + 9) lo) else none

/-! ### Gaffer words (R98, R99) -/

/-- The opcode of a gaffer word. -/
def gafOp (w : Nat) : Nat := slice w 31 26

/-- The operand bits an opcode leaves reserved are 0 (R98). -/
def gafReservedZero (w : Nat) : Bool :=
  let o := slice w 25 0
  match gafOp w with
  | 0 | 1 | 6 | 9 | 14 => o == 0
  | 2 | 12 => decide (o < 2 ^ 8)
  | 3 => slice o 22 10 == 0
  | 4 | 8 => decide (o < 4)
  | 5 => slice o 25 25 == 0
  | 7 => decide (o < 8)
  | 10 => decide (o < 2)
  | 11 => decide (o < 2 ^ 16)
  | 13 => decide (o < 2 ^ 9)
  | _ => true

/-- Items 1, 2 and 5 of R99, and item 3 for SELECT_WINDOW: `end_` is the word at a LOOP's END, `pc` the word's own
place, `dual` the region's schedule mode. -/
def gafValid (dual : Bool) (pc endWord w : Nat) : Bool :=
  decide (gafOp w ≤ 14) && gafReservedZero w && !(gafOp w == 4 && (slice w 1 0 == 2 || !dual)) &&
  !(gafOp w == 3 && slice w 25 24 == 3) && !(gafOp w == 5 && (gafOp endWord != 6 || decide (slice w 24 16 ≤ pc)))

/-- Items 3 and 4 of R99 for a RUN: the window it may name, and the length (R98). `win` is the window it resolves to and
`code` that window's declared length code. -/
def runValid (dual : Bool) (w code : Nat) : Bool :=
  (dual || slice w 25 24 == 0) && (if bit w 23 then slice w 9 0 == 0 else slice w 9 0 == code)

/-! ### Request slots (R126) -/

/-- Request slot `k` of tile `t`, as a number of 1,024 bits. -/
def State.reqSlot (s : State) (t k : Nat) : Nat := leNat (Bytes.read s.reqArea (t * 4096 + 128 * k) 128)

/-- The device address a slot names. -/
def slotAddr (w : Nat) : Nat := slice w 57 24 * 64

end Sys2Proof.Machine
end

