-- ==== Sys2Proof/Machine/Array.lean ====
section
/-!
DEFINITION. Step words in execution (R41–R47, R57–R78, R81, R395): what each kind of step reads, writes, drives and
captures. A step command is one unit's fetch at one step of its region's window; the sender gives the steps of a window
in order.
-/

namespace Sys2Proof.Machine

/-! ### Which unit executes what -/

/-- The region, mode and bank or stream step of unit `p` of tile `t` at window step `k`: none where no such unit executes
a step there (R46, R47). -/
def State.unitAt (s : State) (t p k : Nat) : Option (Nat × Bool × Nat) :=
  match s.tileRegion t with
  | none => none
  | some n =>
    let g := s.gaf n
    let repl := s.repl t p
    if g.phase = .window && (!repl || p % 8 == 0) && k < winSteps (s.dual n) repl (s.lenCode n g.cur.win) then
      some (n, repl, winBase g.cur.win repl + k)
    else none

/-- The lanes of a unit, or the BP itself. -/
def unitLanes (repl : Bool) (p : Nat) : List Nat := if repl then (upTo 8).map fun j => p + j else [p]

/-- The lane number a record carries: 0 for a distinct BP. -/
def laneNo (repl : Bool) (q : Nat) : Nat := if repl then q % 8 else 0

/-- Does the lane mask in force suppress lane `q` on this word (R69)? -/
def State.suppressed (s : State) (t q w : Nat) (repl : Bool) : Bool :=
  repl && stepLanemask w &&
  bit (Tab.get regReset s.latch (0x200040 + 0x10000 * (t % 128) + 4 * (q / 128))).toNat (8 * (q / 32 % 4) + q % 8)

/-- The lanes of a unit that execute a word. -/
def State.liveLanes (s : State) (t p w : Nat) (repl : Bool) : List Nat :=
  (unitLanes repl p).filter fun q => !s.suppressed t q w repl

/-! ### Operands (R59–R62, R68, R76–R78) -/

/-- The key of DM location `loc` of BP `q` of tile `t`. -/
def State.dmKey (s : State) (t q loc : Nat) : Nat := (s.phys t * 1024 + q) * 2048 + loc

/-- The DM location `loc` of BP `q` of tile `t`. -/
def State.dmGet (s : State) (t q loc : Nat) : Bool := Tab.get (fun _ => false) s.dm (s.dmKey t q loc)

/-- Write a DM location, with correct parity (R395). -/
def State.dmSet (s : State) (t q loc : Nat) (v : Bool) : State :=
  (s.withDm (Tab.set (fun _ => false) s.dm (s.dmKey t q loc) v)).withDmBad
    (Tab.set (fun _ => false) s.dmBad (s.dmKey t q loc) false)

/-- What BP `q` of tile `t` drove at window step `k - lat`; 0 where that step lies before the window or wrote nothing. -/
def State.driven (s : State) (t q k lat : Nat) : Bool :=
  if k < lat then false else Tab.get (fun _ => false) s.results ((t * 1024 + q) * 16384 + (k - lat))

/-- The route row that tile `t` reads, as all-invalid where its parity fails (R81). -/
def State.goodRow (s : State) (t r : Nat) : Nat := if rowGood (s.row t r) then s.row t r else 0

/-- The value of track `i` at step `k` for a BP of tile `t` in region `n` (R60, R76–R78). -/
def State.trackVal (s : State) (n t k i : Nat) : Bool :=
  let base := rbase (s.gaf n).cur.win
  if i < 128 then
    match rowSrc (s.goodRow t (base + k - 2)) (11 * i) with
    | some q => s.driven t q k 2
    | none => false
  else if i < 384 then
    let m := i - 128
    let o := t - t % 8 + m / 32
    match rowSrc (s.goodRow o (base + k - 4)) (1408 + 11 * (m % 32)) with
    | some q => s.driven o q k 4
    | none => false
  else
    let j := i - 384
    let c := slice (Tab.get regReset s.latch (0x200080 + 0x10000 * (t % 128))).toNat (4 * (j / 32) + 3) (4 * (j / 32))
    if s.inRegion n c then
      match rowGlobal (s.goodRow (8 * c + j % 32 / 4) (base + k - 8)) (j % 4) with
      | some (pos, q) => s.driven (8 * c + pos) q k 8
      | none => false
    else false

/-- The value of special operand `i` for BP `q` of tile `t` in region `n` (R62). -/
def State.specialVal (s : State) (n t q i : Nat) : Bool :=
  let o := (s.gaf n).ops
  if i = 1 then true
  else if i = 2 then o.first
  else if i = 3 then o.switched
  else if i = 4 then o.overrun
  else if i = 5 then (s.tile t).poison != 0
  else if 0x10 ≤ i ∧ i ≤ 0x13 then bit (s.rd (F.SEC_CTRL_REGION (t / 8))) (i - 0x10)
  else if 0x18 ≤ i ∧ i ≤ 0x1a then bit (q % 8) (i - 0x18)
  else if 0x1b ≤ i ∧ i ≤ 0x1c then bit (q / 8 % 4) (i - 0x1b)
  else if 0x20 ≤ i ∧ i ≤ 0x24 then bit (q / 32) (i - 0x20)
  else if 0x28 ≤ i ∧ i ≤ 0x2e then bit t (i - 0x28)
  else if 0x40 ≤ i ∧ i ≤ 0x4f then bit o.line (i - 0x40)
  else if 0x80 ≤ i ∧ i ≤ 0x9f then bit (s.tile t).poison (i - 0x80)
  else false

/-- The net lane an index names, for lane `q` (R68). -/
def netLane (repl : Bool) (q i : Nat) : Nat := if repl then 8 * (i / 8) + (q % 8 + i % 8) % 8 else i

/-- The value operand field `f` reads at window step `k` for BP or lane `q` of tile `t` in region `n`. -/
def State.opnd (s : State) (n t q k : Nat) (repl : Bool) (f : Nat) : Bool :=
  match operandOf f with
  | .dm loc => s.dmGet t q loc
  | .net i => s.driven t (q / 32 * 32 + netLane repl q i) k 1
  | .track i => s.trackVal n t k i
  | .special i => s.specialVal n t q i
  | .invalid => false

/-- The value of operand `i` (0 A to 3 D) of a word. -/
def State.opndOf (s : State) (n t q k : Nat) (repl : Bool) (w i : Nat) : Bool := s.opnd n t q k repl (stepOpnd w i)

/-- TT at the index that A, B and C form, and D too where `four` (R58). -/
def State.lut (s : State) (n t q k : Nat) (repl four : Bool) (w : Nat) : Bool :=
  bit (stepTT w) (8 * b2n (four && s.opndOf n t q k repl w 3) + 4 * b2n (s.opndOf n t q k repl w 2) +
    2 * b2n (s.opndOf n t q k repl w 1) + b2n (s.opndOf n t q k repl w 0))

/-! ### Results and captures (R42, R65, R67, R74) -/

/-- A step writes its DM location and drives its value (R42, R60). -/
def State.result (s : State) (t q k st : Nat) (repl : Bool) (v : Bool) : State :=
  let s1 := s.dmSet t q (if repl then st % 2048 else st) v
  (s1.withResults (Tab.set (fun _ => false) s1.results ((t * 1024 + q) * 16384 + k) v))

/-- The place of a capture entry in its step's order: its BP's or lane's local index (R74). -/
def capAt (e : Nat) : Nat := slice e 16 7 + slice e 6 4

/-- The entries that this step has put into the ring, in order: `w` is where the step began, `n` their number. -/
def State.capNow (s : State) (t w n : Nat) : List Nat :=
  (upTo n).map fun i => (s.reg (0x1000000 + 0x20000 * (t % 128) + 4 * ((w + i) % 8192))).toNat

/-- Put entries into the ring from place `w` on. -/
def State.capPut (s : State) (t w : Nat) (l : List Nat) : State :=
  forEach ((upTo l.length).zip l) (fun x s =>
    s.setReg (0x1000000 + 0x20000 * (t % 128) + 4 * ((w + x.1) % 8192)) (BitVec.ofNat 32 x.2)) s

/-- Append a capture entry (R74). The entries of a step stand in ascending local index, whatever the order in which its units
report; a fifth entry of a step drops the last in that order, as one that finds the ring stopped does. DESIGN CHOICE (log
entry 125): the 13-bit WR_PTR of a ring that stops full reads 0. -/
def State.append (s : State) (t k st u lane : Nat) (v : Bool) : State :=
  let x := s.tile t
  let same := decide (x.capStep = k + 1)
  let w := if same then x.capFrom else s.rd (F.MPU_CAP_STAT_WR_PTR t)
  let n := if same then x.capCount else 0
  let e := 2 ^ 31 * b2n v + 2 ^ 17 * st + 2 ^ 7 * u + 2 ^ 4 * lane + x.capCycle % 16
  let old := s.capNow t w n
  let all := old.takeWhile (fun y => decide (capAt y ≤ capAt e)) ++ e :: old.dropWhile fun y => decide (capAt y ≤ capAt e)
  let room := decide (n < 4) && !s.on (F.MPU_CAP_STAT_FULL t)
  let s1 := (s.setTile t { x with capStep := k + 1, capFrom := w, capCount := if room then n + 1 else n }).capPut t w
    (if room then all else all.take n)
  if !room then s1.bump (F.MPU_CAP_DROP_COUNT t)
  else
    let s2 := s1.wr (F.MPU_CAP_STAT_WR_PTR t) (w + n + 1)
    if (w + n) % 8192 = 8191 then
      if s.latched (F.MPU_DBG_CTRL_CAP_WRAP t) = 1 then s2.wr (F.MPU_CAP_STAT_WRAPPED t) 1
      else s2.wr (F.MPU_CAP_STAT_FULL t) 1
    else s2

/-- Capture a step's value where MOD.OUTCAP and CAP_EN ask for it (R67, R74). -/
def State.capture (s : State) (t k st u q w : Nat) (repl : Bool) (v : Bool) : State :=
  if stepOutcap w && s.latched (F.MPU_DBG_CTRL_CAP_EN t) == 1 then s.append t k st u (laneNo repl q) v else s

/-- Write a bit of a gob-out or request buffer: the latest step's write stands, and writes of one step OR (R65). `mark` is
the bit's number in `stamps`; `put` stores a value. -/
def State.stampBit (s : State) (t mark k : Nat) (old v : Bool) (put : Bool → State → State) : State :=
  let key := t * 65536 + mark
  let seen := Tab.get (fun _ => 0) s.stamps key
  if k + 1 < seen then s
  else
    let nv := if seen = k + 1 then old || v else v
    put nv (s.withStamps (Tab.set (fun _ => 0) s.stamps key (k + 1)))

/-- Bit `a` of a byte store whose area begins at `base`. -/
def bufBit (m : Bytes) (base a : Nat) : Bool := bit (Bytes.get m (base + a / 8)).toNat (a % 8)

/-- A byte store with bit `a` of an area set to a value. -/
def bufSet (m : Bytes) (base a : Nat) (v : Bool) : Bytes :=
  Bytes.set m (base + a / 8) (BitVec.ofNat 8 (setBitTo (Bytes.get m (base + a / 8)).toNat (a % 8) v))

/-- The byte at which tile `t`'s gob-out fill side begins. -/
def State.outFill (s : State) (t : Nat) : Nat := (t * 2 + b2n (!(s.tile t).outSide)) * 2048

/-- The byte at which tile `t`'s committed gob-out side begins. -/
def State.outDone (s : State) (t : Nat) : Nat := (t * 2 + b2n (s.tile t).outSide) * 2048

/-- The bit address of a word's buffer access in a lane (R63, R68). -/
def bitAddr (repl : Bool) (w q : Nat) : Nat := if repl then stepTT w / 8 * 8 + q % 8 else stepTT w

/-- Gob-in bit `a` of the read side of tile `t`, or the far-in area where FAR_IN is in force (R64, R83, R92). -/
def State.gobBit (s : State) (t a : Nat) : Bool :=
  if 15360 ≤ a && s.latched (F.MPU_GOB_CFG_FAR_IN t) == 1 then
    bit (Tab.get (fun _ => 0) s.farIn ((t * 2 + b2n (s.tile t).farSide) * 8 + (a - 15360) / 128)) ((a - 15360) % 128)
  else bufBit s.gobIn ((t * 2 + s.rd (F.MPU_GOB_STAT_READ_SIDE t)) * 2048) a

/-- Return-buffer bit `a` of tile `t`; a poisoned slot reads 0 (R64, R91). -/
def State.retBit (s : State) (t a : Nat) : Bool :=
  !bit (s.tile t).poison (a / 512) && bufBit s.retBuf (t * 2048) a

/-! ### Faults of a step (R71, R81, R395) -/

/-- The stored row at index `r` of tile `t` has lost its parity. -/
def State.spoilRow (s : State) (t r : Nat) : State :=
  let row := s.row t r
  let bad := if rowGood row then setBitTo row 1816 (!bit row 1816) else row
  s.withRoutes (Tab.set (fun _ => 0) s.routes (s.phys t * 16384 + r) bad)

/-- A route row of tile `t` fails parity at its read in a running cycle (R81). The stored row keeps the failure. -/
def State.rowFails (s : State) (n t r : Nat) : State :=
  let s0 := s.spoilRow t r
  let s1 := s0.setTile t { s0.tile t with rowsBad := r :: (s0.tile t).rowsBad }
  let s2 := if s1.on (F.MPU_RT_ERR_VALID t) then s1 else s1.setReg (0x200098 + 0x10000 * (t % 128)) (BitVec.ofNat 32 (2 ^ 31 + r))
  ((s2.bump (F.MPU_RT_ERR_CNT_COUNT t)).raise Ev.MPU_ROUTE_ERR).fault2 n 17 (t + 2 ^ 7 * r) 4

/-- The route rows that the window of region `n`'s cycle reads: the first, and their number (R78). -/
def State.rowRange (s : State) (n : Nat) : Nat × Nat :=
  let win := (s.gaf n).cur.win
  (rbase win, min (winSize (s.dual n) true) (16 * (s.lenCode n win + 1)))

/-- The stored rows of tile `t` in a range whose parity fails (R81). -/
def State.badRows (s : State) (t from_ n : Nat) : List Nat :=
  ((s.routes.filter fun e => e.1 / 16384 == s.phys t && decide (from_ ≤ e.1 % 16384) && decide (e.1 % 16384 < from_ + n) &&
    !rowGood e.2).map fun e => e.1 % 16384)

/-- A window reads every row of its range once in every tile of its region: those whose stored parity fails and that no step
has met are met by its end (R81). -/
def State.sweepRows (s : State) (n : Nat) : State :=
  forEach (s.regionTiles n) (fun t s =>
    forEach ((s.badRows t (s.rowRange n).1 (s.rowRange n).2).filter fun r => !(s.tile t).rowsBad.contains r)
      (fun r s => s.rowFails n t r) s) s

/-- The DM locations a word's operands read. -/
def dmReads (w : Nat) : List Nat :=
  (upTo (kindUse (stepKind w)).1).filterMap fun i =>
    match operandOf (stepOpnd w i) with
    | .dm loc => some loc
    | _ => none

/-- The reads of a step that fail parity, in order: lane and location (R395). -/
def State.failingReads (s : State) (t p w : Nat) (repl : Bool) : List (Nat × Nat) :=
  (s.liveLanes t p w repl).flatMap fun q =>
    ((dmReads w).filter fun loc => Tab.get (fun _ => false) s.dmBad (s.dmKey t q loc)).map fun loc => (q, loc)

/-- A DM read fails parity (R395): the first of the cycle in the tile is reported and fences the region; further ones are counted. -/
def State.dmFails (s : State) (n t p : Nat) (repl : Bool) (q loc : Nat) : State :=
  let s1 := s.setTile t { s.tile t with dmFails := (s.tile t).dmFails + 1 }
  if (s.tile t).dmFails ≠ 0 then s1
  else (s1.raise Ev.MPU_DM_PARITY).fault2 n 18 (t + 2 ^ 7 * p + 2 ^ 17 * laneNo repl q + 2 ^ 20 * loc) 4

/-- An upset of a DM location that a step reads: its parity fails until its next write. -/
def State.dmUpset (s : State) (t p w : Nat) (repl : Bool) (b : Option DmBad) : State :=
  match b with
  | none => s
  | some b =>
    let q := if repl then p + b.lane.val else p
    if s.suppressed t q w repl || !(dmReads w).contains b.loc.val then s
    else s.withDmBad (Tab.set (fun _ => false) s.dmBad (s.dmKey t q b.loc) true)

/-! ### The shape of a step -/

/-- A unit's step, where the word it fetches is valid and of kind `kind`: `f` gets the region, the mode, the bank or
stream step and the word. -/
def State.atStep (s : State) (t p k kind : Nat) (f : Nat → Bool → Nat → Nat → State → State) : State :=
  match s.unitAt t p k with
  | none => s
  | some (n, repl, st) =>
    let w := s.stepAt (stepKey repl (s.phys t) p st)
    if stepKind w = kind && (stepInvalid repl w).isNone then f n repl st w s else s

/-- What a step that reads operands meets before its lanes execute: a route row of the window that has lost its parity, and a
DM reads that fail parity. -/
def State.readFaults (s : State) (n t p w : Nat) (repl : Bool) (dmBad : Option DmBad) (rowBad : Option (Fin 16384)) :
    State :=
  let s1 := match rowBad with
    | some r =>
      if decide ((s.rowRange n).1 ≤ r.val) && decide (r.val < (s.rowRange n).1 + (s.rowRange n).2) &&
          !(s.tile t).rowsBad.contains r.val then s.rowFails n t r.val
      else s
    | none => s
  let s2 := s1.dmUpset t p w repl dmBad
  forEach (s2.failingReads t p w repl) (fun x s => s.dmFails n t p repl x.1 x.2) s2

/-- A breakpoint hit of lane `q` at window step `k` (R72): of several hits of one step the lowest BP and lane is recorded,
whatever the order in which the units report. -/
def State.brkHit (s : State) (n t k st u q : Nat) (repl : Bool) : State :=
  let s1 := s.bump (F.MPU_BRK_CNT_COUNT t)
  let kept := s1.on (F.MPU_BRK_STAT_VALID t) &&
    !(decide ((s1.tile t).brkAt.1 = k + 1) && decide (q < (s1.tile t).brkAt.2))
  let s2 := if kept then s1 else
    (s1.setTile t { s1.tile t with brkAt := (k + 1, q) }).setReg (0x200064 + 0x10000 * (t % 128))
      (BitVec.ofNat 32 (2 ^ 31 + 2 ^ 28 * laneNo repl q + 2 ^ 14 * u + st))
  s2.setGaf n { s2.gaf n with
    hit := true, haltHit := (s2.gaf n).haltHit || s2.latched (F.MPU_DBG_CTRL_BRK_HALT t) == 1 }

/-! ### Meanings -/

/-- STEP_NOP: no write, no drive, no capture (R63). -/
def execStepNop (t : Fin 128) (p : Fin 1024) (k : Fin 16384) (s : State) : Answer :=
  act s fun s => s.atStep t p k 0 fun _ _ _ _ s => s

/-- EVAL (R58). -/
def execEval (t : Fin 128) (p : Fin 1024) (k : Fin 16384) (dmBad : Option DmBad) (rowBad : Option (Fin 16384))
    (s : State) : Answer :=
  act s fun s => s.atStep t p k 1 fun n repl st w s =>
    forEach (s.liveLanes t p w repl) (fun q s =>
      let v := s.lut n t q k repl true w
      (s.result t q k st repl v).capture t k st p q w repl v) (s.readFaults n t p w repl dmBad rowBad)

/-- EVAL_EN (R58). Its captured value is what the location holds after the step (R67). -/
def execEvalEn (t : Fin 128) (p : Fin 1024) (k : Fin 16384) (dmBad : Option DmBad) (rowBad : Option (Fin 16384))
    (s : State) : Answer :=
  act s fun s => s.atStep t p k 2 fun n repl st w s =>
    forEach (s.liveLanes t p w repl) (fun q s =>
      let s1 := if s.opndOf n t q k repl w 3 then s.result t q k st repl (s.lut n t q k repl false w) else s
      s1.capture t k st p q w repl (s1.dmGet t q (if repl then st % 2048 else st)))
      (s.readFaults n t p w repl dmBad rowBad)

/-- IN (R64). -/
def execStepIn (t : Fin 128) (p : Fin 1024) (k : Fin 16384) (s : State) : Answer :=
  act s fun s => s.atStep t p k 3 fun _ repl st w s =>
    forEach (s.liveLanes t p w repl) (fun q s =>
      let v := s.gobBit t (bitAddr repl w q)
      (s.result t q k st repl v).capture t k st p q w repl v) s

/-- OUT (R65). -/
def execStepOut (t : Fin 128) (p : Fin 1024) (k : Fin 16384) (dmBad : Option DmBad) (rowBad : Option (Fin 16384))
    (s : State) : Answer :=
  act s fun s => s.atStep t p k 4 fun n repl st w s =>
    forEach (s.liveLanes t p w repl) (fun q s =>
      let a := bitAddr repl w q
      let v := s.opndOf n t q k repl w 0
      let s1 := s.stampBit t a k (bufBit s.gobOut (s.outFill t) a) v fun nv s =>
        (s.withGobOut (bufSet s.gobOut (s.outFill t) a nv))
      s1.capture t k st p q w repl v) (s.readFaults n t p w repl dmBad rowBad)

/-- MREQ (R65, R91). -/
def execMreq (t : Fin 128) (p : Fin 1024) (k : Fin 16384) (dmBad : Option DmBad) (rowBad : Option (Fin 16384))
    (s : State) : Answer :=
  act s fun s => s.atStep t p k 5 fun n repl st w s =>
    forEach (s.liveLanes t p w repl) (fun q s =>
      let a := bitAddr repl w q
      let v := s.opndOf n t q k repl w 0
      let s1 := s.stampBit t (16384 + a) k (bufBit s.reqArea (t * 4096) a) v fun nv s =>
        (s.withReqArea (bufSet s.reqArea (t * 4096) a nv))
      s1.capture t k st p q w repl v) (s.readFaults n t p w repl dmBad rowBad)

/-- MDATA (R64, R91). -/
def execMdata (t : Fin 128) (p : Fin 1024) (k : Fin 16384) (s : State) : Answer :=
  act s fun s => s.atStep t p k 6 fun _ repl st w s =>
    forEach (s.liveLanes t p w repl) (fun q s =>
      let v := s.retBit t (bitAddr repl w q)
      (s.result t q k st repl v).capture t k st p q w repl v) s

/-- BRK (R72). -/
def execBrk (t : Fin 128) (p : Fin 1024) (k : Fin 16384) (dmBad : Option DmBad) (rowBad : Option (Fin 16384))
    (s : State) : Answer :=
  act s fun s => s.atStep t p k 7 fun n repl st w s =>
    forEach (s.liveLanes t p w repl) (fun q s =>
      let v := s.lut n t q k repl true w
      let s1 := (s.result t q k st repl v).capture t k st p q w repl v
      if v && s1.latched (F.MPU_DBG_CTRL_BRK_EN t) == 1 then s1.brkHit n t k st p q repl else s1)
      (s.readFaults n t p w repl dmBad rowBad)

/-- INVALID_STEP_WORD: the stored word has changed to `w`; the unit executes a NOP and the fetch is recorded (R71). -/
def execInvalidStepWord (t : Fin 128) (p : Fin 1024) (k : Fin 16384) (w : BitVec 80) (s : State) : Answer :=
  act s fun s =>
    match s.unitAt t p k with
    | none => s
    | some (_, repl, st) =>
      match stepInvalid repl w.toNat with
      | none => s
      | some cause =>
        let s1 := s.withSteps (Tab.set (fun _ => 0) s.steps (stepKey repl (s.phys t) p st) w)
        let s2 := if s1.on (F.MPU_STEP_ERR_VALID t) then s1 else
          s1.setReg (0x200074 + 0x10000 * (t % 128)) (BitVec.ofNat 32 (2 ^ 31 + 2 ^ 28 * cause + 2 ^ 14 * p + st))
        ((s2.bump (F.MPU_STEP_ERR_CNT_COUNT t)).report 24 (t + 2 ^ 7 * st) none).raise Ev.MPU_STEP_ERR

end Sys2Proof.Machine
end

