-- ==== Sys2Proof/Machine/Ether.lean ====
section
/-!
DEFINITION. Ethernet ports (R273–R278): frames received into the ring, frames sent for DMA, and IEEE 1588 timestamps.
-/

namespace Sys2Proof.Machine

/-- Ethernet port `e` beside its registers. -/
def State.ethp (s : State) (e : Nat) : EthPort := Tab.get (fun _ => EthPort.init) s.eth e

/-- Put Ethernet port `e`. -/
def State.setEthp (s : State) (e : Nat) (x : EthPort) : State :=
  s.withEth (Tab.set (fun _ => EthPort.init) s.eth e x)

/-- A timestamp: seconds, nanoseconds and fraction, from TB_TIME in 0.1 ns less the PHY latency, plus the offset (R277). -/
def ptpTime (now lat ofsSec ofsNs : Nat) : Nat × Nat × Nat :=
  let t : Int := (now : Int) - lat + 10 * ofsNs
  let ten := (t % (10 ^ 10 : Nat)).toNat
  ((((ofsSec : Int) + t / (10 ^ 10 : Nat)) % (2 ^ 48 : Nat)).toNat, ten / 10, ten % 10 * 65536 / 10)

/-- The timestamp of a capture now at port `e`. -/
def State.capture1588 (s : State) (e lat : Nat) : Nat × Nat × Nat :=
  ptpTime s.now lat (s.ethp e).ofsSec (s.ethp e).ofsNs

/-- A write of PTP_OFS_NS: the offset comes into force at the next tick (R277). -/
def State.ptpWritten (s : State) (e v : Nat) : State :=
  s.setEthp e { s.ethp e with
    ofsNext := some (s.rd (F.ETH_PTP_OFS_SEC_LO_SEC_LO e) + 2 ^ 32 * s.rd (F.ETH_PTP_OFS_SEC_HI_SEC_HI e),
      min v 999999999) }

/-! ### The timestamp FIFO (R278) -/

/-- TS_LO, TS_MID, TS_HI and TS_ID show the head of the FIFO; 0 when it is empty. -/
def State.showStamp (s : State) (e : Nat) : State :=
  match (s.ethp e).stamps with
  | [] => s.setWords (0xf10030 + 0x10000 * (e % 4)) [0, 0, 0, 0]
  | t :: _ =>
    s.setWords (0xf10030 + 0x10000 * (e % 4)) [t.ns, t.sec, t.sec / 2 ^ 32 % 2 ^ 16 + 2 ^ 16 * t.frac, t.desc + 2 ^ 16 * t.engine]

/-- A two-step timestamp enters the FIFO of 16, or is lost (R278). -/
def State.pushStamp (s : State) (e : Nat) (t : TxStamp) : State :=
  if (s.ethp e).stamps.length ≥ 16 then s.bump (F.ETH_TS_OVF_CNT_COUNT e)
  else
    ((s.setEthp e { s.ethp e with stamps := (s.ethp e).stamps ++ [t] }).showStamp e).raise (Ev.ETH_TS e)

/-- A read of TS_LO, TS_MID or TS_HI (`i` 0, 1 or 2) of the head of the FIFO is remembered; an empty one has no head. -/
def State.sawStamp (s : State) (e i : Nat) : State :=
  if (s.ethp e).stamps.isEmpty then s else s.setEthp e { s.ethp e with tsRead := Nat.lor (s.ethp e).tsRead (2 ^ i) }

/-- A read of TS_ID: the head leaves the FIFO if TS_LO, TS_MID and TS_HI have been read of it. -/
def State.popStamp (s : State) (e : Nat) : State :=
  if (s.ethp e).tsRead = 7 then
    (s.setEthp e { s.ethp e with stamps := (s.ethp e).stamps.tail, tsRead := 0 }).showStamp e
  else s

/-! ### Sending (R276, R278) -/

/-- A list with `new` put over its elements from index `i`. -/
def overlay (l : List Byte) (i : Nat) (new : List Byte) : List Byte :=
  (l.take i ++ new ++ l.drop (i + new.length)).take l.length

/-- A byte of a frame. -/
def frameByte (f : List Byte) (i : Nat) : Nat := (f.getD i 0).toNat

/-- The EtherType of a frame past its VLAN tags, and where what follows it starts: `fuel` tags at most, from byte `i`. -/
def etherType (f : List Byte) (i : Nat) : Nat → Nat × Nat
  | 0 => (256 * frameByte f i + frameByte f (i + 1), i + 2)
  | fuel + 1 =>
    let ty := 256 * frameByte f i + frameByte f (i + 1)
    if ty = 0x8100 ∨ ty = 0x88a8 then etherType f (i + 4) fuel else (ty, i + 2)

/-- Where the UDP header of an IPv4/UDP frame starts (R278). -/
def udp4At (f : List Byte) : Option Nat :=
  let t := etherType f 12 (f.length / 4)
  if t.1 = 0x0800 ∧ frameByte f (t.2 + 9) = 17 then some (t.2 + 4 * (frameByte f t.2 % 16)) else none

/-- Is a frame IPv6/UDP, into which no one-step insertion is made (R278)? -/
def isUdp6 (f : List Byte) : Bool :=
  let t := etherType f 12 (f.length / 4)
  t.1 == 0x86dd && frameByte f (t.2 + 6) == 17

/-- One-step insertion of a timestamp: seconds and nanoseconds, big-endian, with the checksum of an IPv4/UDP frame cleared
(R278). -/
def oneStep (f : List Byte) (at_ sec ns : Nat) : List Byte :=
  if isUdp6 f then f
  else
    let g := overlay f at_ (beBytes 6 sec ++ beBytes 4 ns)
    match udp4At f with
    | some i => overlay g (i + 6) [0, 0]
    | none => g

/-- One bit of the CRC-32 of IEEE 802.3. -/
def fcsBit (c : BitVec 32) (b : Bool) : BitVec 32 :=
  if (c.getLsbD 0 != b) then (c >>> 1) ^^^ 0xedb88320#32 else c >>> 1

/-- The CRC-32 register over a byte, least significant bit first. -/
def fcsByte (c : BitVec 32) (b : Byte) : BitVec 32 := (upTo 8).foldl (fun c i => fcsBit c (b.getLsbD i)) c

/-- The frame check sequence of a frame (R276). -/
def fcsOf (bytes : List Byte) : List Byte := leBytes 4 (~~~ (bytes.foldl fcsByte 0xffffffff#32)).toNat

/-- Send a frame on port `e` for descriptor `desc` of engine `eng`; `addr` is its ETH_TX address (R276, R278). -/
def State.ethSend (s : State) (e addr eng desc : Nat) (bytes : List Byte) : State :=
  let t := s.capture1588 e (s.rd (F.ETH_LAT_TX_LAT e))
  let f := bytes ++ List.replicate (60 - bytes.length) 0
  let g := if bit addr 3 then oneStep f (slice addr 29 16) t.1 t.2.1 else f
  let s1 := (s.emit (.ethTx e (g ++ fcsOf g))).bump (F.ETH_TX_OK_CNT_COUNT e)
  if bit addr 2 then s1.pushStamp e ⟨t.1, t.2.1, t.2.2, eng, desc⟩ else s1

/-! ### Receiving (R273–R275) -/

/-- A received frame is dropped: RX_ERR, and ETH_RX_ERR at most once a microsecond (R274). -/
def State.ethDrop (s : State) (e : Nat) (cnt : Fld) : State :=
  let s1 := (s.bump cnt).wr (F.ETH_STAT_RX_ERR e) 1
  if mayRaise (s1.ethp e).errEv s1.real 10000 then
    (s1.setEthp e { s1.ethp e with errEv := some s1.real }).raise (Ev.ETH_RX_ERR e)
  else s1

/-- The slots of a receive ring. -/
def State.rxSlots (s : State) (e : Nat) : Nat := 2 ^ s.rd (F.ETH_RX_CFG_LOG2N e)

/-- Is the receive ring full (R275)? -/
def State.rxFull (s : State) (e : Nat) : Bool :=
  (s.rd (F.ETH_RX_HEAD_HEAD e) + 65536 - s.rd (F.ETH_RX_TAIL_TAIL e)) % 65536 == s.rxSlots e

/-- Write bytes of a receive ring: to host memory, or to HBM; outside HBM the write is discarded under R23. -/
def State.rxWrite (s : State) (e a : Nat) (bs : List Byte) : State :=
  if s.on (F.ETH_CTRL_RX_HOST e) then s.hostWrite a bs
  else if inHbm a bs.length then s.hbmWrite a bs
  else s.accessErr 3 true true a

/-- An accepted frame is written into its slot, the header with VALID last (R275). -/
def State.ethAccept (s : State) (e : Nat) (bytes : List Byte) : State :=
  let t := s.capture1588 e (s.rd (F.ETH_LAT_RX_LAT e))
  let head := s.rd (F.ETH_RX_HEAD_HEAD e)
  let a := s.rd64 (0xf10008 + 0x10000 * (e % 4)) + head % s.rxSlots e * 10240
  let hdr := bytes.length + 2 ^ 16 + 2 ^ 64 * t.1 + 2 ^ 128 * t.2.1 + 2 ^ 160 * t.2.2
  let s1 := (s.rxWrite e (a + 64) bytes).rxWrite e a (leBytes 64 hdr)
  ((s1.wr (F.ETH_RX_HEAD_HEAD e) (head + 1)).bump (F.ETH_RX_OK_CNT_COUNT e)).raise (Ev.ETH_RX e)

/-- A frame as received without its last four bytes, which are its FCS. -/
def frameBody (bytes : List Byte) : List Byte := bytes.take (bytes.length - 4)

/-- Is the FCS of a received frame good (R274)? -/
def fcsGood (bytes : List Byte) : Bool := bytes.drop (bytes.length - 4) == fcsOf (frameBody bytes)

/-- ETH_FRAME_RECEIVED by port `e` (R273–R275). -/
def execEthFrameReceived (e : Fin 4) (bytes : List Byte) (s : State) : Answer :=
  act s fun s =>
    let control := frameByte bytes 12 = 0x88 && frameByte bytes 13 = 0x08
    if !s.on (F.ETH_CTRL_EN e) then s
    else if !fcsGood bytes then s.ethDrop e (F.ETH_RX_FCS_CNT_COUNT e)
    else if bytes.length < 64 || bytes.length > 9216 || control || s.rxFull e then s.ethDrop e (F.ETH_RX_DROP_CNT_COUNT e)
    else s.ethAccept e (frameBody bytes)

/-- ETH_LINK_CHANGE of port `e` (R289); a port not in use has no link. -/
def execEthLinkChange (e : Fin 4) (up : Bool) (s : State) : Answer :=
  act s fun s =>
    if s.on (F.ETH_STAT_LINK e) = up || (up && (!s.on (F.ETH_CTRL_EN e) || bit s.cstore.cullet.eth e)) then s
    else (s.wr (F.ETH_STAT_LINK e) (b2n up)).raise (Ev.ETH_LINK e)

end Sys2Proof.Machine
end

