-- ==== Sys2Proof/Machine/Noc.lean ====
section
/-!
DEFINITION. The network on chip: bank switches of the slot tables (R248–R251), where endpoints attach and how packets travel
(R241–R247), the choice of a flit at a router's output (R249), injection (R251, R470), and sideband parity (R256).
-/

namespace Sys2Proof.Machine

/-! ### Slot tables (R248, R251) -/

/-- The key of an entry of the slot tables. -/
def slotKeyOf (bank router port slot : Nat) : Nat := ((bank * 48 + router) * 8 + port) * 128 + slot

/-- An entry: RES × 8 + INPORT. -/
def State.slotEntry (s : State) (bank router port slot : Nat) : Nat :=
  Tab.get (fun _ => 0) s.slots (slotKeyOf bank router port slot)

/-- The reserved entries of a bank: output (router × 8 + port), slot and INPORT. -/
def State.reserved (s : State) (bank : Nat) : List (Nat × Nat × Nat) :=
  (s.slots.filter fun e => e.1 / 49152 == bank && decide (8 ≤ e.2)).map fun e =>
    (e.1 / 128 % 384, e.1 % 128, e.2 % 8)

/-- Why a switch to bank `new` is refused: 1 transition conflict, 2 more than 32 reserved slots, 3 slot 127 (R251). -/
def State.switchFault (s : State) (new : Nat) : Option Nat :=
  let a := s.reserved new
  let b := s.reserved (1 - new)
  if a.any fun x => decide (x.2.1 < 56) && b.any fun y => y.1 == x.1 && y.2.1 == x.2.1 && y.2.2 != x.2.2 then some 1
  else if a.any fun x => decide (32 < (a.filter fun y => y.1 == x.1).length) then some 2
  else if a.any fun x => x.2.1 == 127 then some 3
  else none

/-- A switch is requested; while one is pending it has no further effect (R250). -/
def State.requestSwitch (s : State) : State := (s.wr F.NOC_CTRL_SWITCH 1).wr F.NOC_STAT_SWITCH_PEND 1

/-- NOC_BANK_SWITCH: the frame boundary of a pending switch, which takes effect or is refused (R250, R251). -/
def execNocBankSwitch (s : State) : Answer :=
  act s fun s =>
    if !s.on F.NOC_STAT_SWITCH_PEND then s
    else
      let s1 := (s.wr F.NOC_CTRL_SWITCH 0).wr F.NOC_STAT_SWITCH_PEND 0
      let new := 1 - s.rd F.NOC_STAT_BANK
      match s.switchFault new with
      | none => ((s1.wr F.NOC_STAT_BANK new).bump F.NOC_SWITCH_CNT_COUNT).raise Ev.NOC_SWITCH
      | some c => ((s1.wr F.NOC_STAT_SWITCH_ERR 1).wr F.NOC_STAT_ERR_CAUSE c).raise Ev.NOC_SWITCH_ERR

/-! ### Routers and routes (R241, R242, R246) -/

/-- The row and the column of a router. -/
def routerRow (r : Nat) : Nat := r / 8
/-- The column. -/
def routerCol (r : Nat) : Nat := r % 8

/-- Has a router an express port: in rows 0 and 5? -/
def hasExpress (r : Nat) : Bool := routerRow r == 0 || routerRow r == 5

/-- Does a router have this port: 0 N, 1 E, 2 S, 3 W, 4 express, 5 L0, 6 L1? Rows are numbered from N to S and columns from W
to E (DESIGN CHOICE, log entry 129). -/
def hasPort (r p : Nat) : Bool :=
  match p with
  | 0 => decide (0 < routerRow r)
  | 1 => decide (routerCol r < 7)
  | 2 => decide (routerRow r < 5)
  | 3 => decide (0 < routerCol r)
  | 4 => hasExpress r
  | _ => decide (p < 7)

/-- The router at the other end of a link, and the port it arrives at. -/
def linkEnd (r p : Nat) : Nat × Nat :=
  match p with
  | 0 => (r - 8, 2)
  | 1 => (r + 1, 3)
  | 2 => (r + 8, 0)
  | 3 => (r - 1, 1)
  | _ => (if routerCol r < 4 then r + 4 else r - 4, 4)

/-- How many endpoints a local port serves (R241). -/
def endpoints (r : Nat) (l1 : Bool) : Nat :=
  if routerRow r = 0 then if !l1 then 2 else [1, 8, 8, 3, 1, 1, 4, 4].getD (routerCol r) 0
  else if routerRow r = 5 then if !l1 then 2 else 3
  else if !l1 then 8 else if routerCol r % 2 = 0 then 2 else 0

/-- The router of a tile's port unit and gateway. -/
def tileRouter (t : Nat) : Nat := 8 * (1 + t / 32) + 2 * (t / 8 % 4) + t % 8 / 4

/-- The output by which a unicast packet to router `d`, local port 5 or 6, leaves router `r`: along the row first, with one
express hop where the row is 0 or 5 and four columns or more are left, then along the column. -/
def nextHop (r d localPort : Nat) : Nat :=
  let far := (routerCol d : Int) - routerCol r
  if far ≠ 0 then
    if hasExpress r && decide (4 ≤ far.natAbs) then 4 else if 0 < far then 1 else 3
  else if routerRow r < routerRow d then 2
  else if routerRow d < routerRow r then 0
  else localPort

/-- The outputs by which a multicast packet that came in at port `p` leaves router `r`, for the routers that attach tiles of
its region: along the source row, down and up each column that holds one, and to L0 where the router attaches one. No copy
takes an express link. -/
def treeHops (r p : Nat) (targets : List Nat) : List Nat :=
  let fromRow := p == 1 || p == 3 || decide (5 ≤ p)
  let any := fun (q : Nat → Bool) => targets.any q
  (if fromRow && p != 1 && any (fun d => decide (routerCol r < routerCol d)) then [1] else []) ++
  (if fromRow && p != 3 && any (fun d => decide (routerCol d < routerCol r)) then [3] else []) ++
  (if p != 2 && any (fun d => routerCol d == routerCol r && decide (routerRow r < routerRow d)) then [2] else []) ++
  (if p != 0 && any (fun d => routerCol d == routerCol r && decide (routerRow d < routerRow r)) then [0] else []) ++
  (if targets.contains r then [5] else [])

/-! ### Flits (R243, R245) -/

/-- Bits of a head's sideband. -/
def sideField (x : BitVec 64) (hi lo : Nat) : Nat := slice x.toNat hi lo

/-- The parity of the sideband bits with i mod 4 = q. -/
def sideParity (x : BitVec 64) (q : Nat) : Bool := (upTo 16).foldl (fun a i => a != x.getLsbD (4 * i + q)) false

/-- Is the sideband's parity even in all four groups? -/
def sideOk (x : BitVec 64) : Bool := (upTo 4).all fun q => !sideParity x q

/-- A sideband with PAR set, from its bits 63:4. -/
def withPar (x : Nat) : BitVec 64 :=
  let b := BitVec.ofNat 64 (16 * x)
  b ||| BitVec.ofNat 64 ((upTo 4).foldl (fun a q => a + b2n (sideParity b q) * 2 ^ q) 0)

/-- The head of the answer to a request: RESP on VC1, back to its source under its tag, with the status in bits 6:4 (R243, R255; DEDUCED,
log entry 169). -/
def respHead (head : BitVec 64) (status : Nat) : BitVec 64 :=
  withPar ((2 ^ 62 + 2 ^ 52 * sideField head 51 45 + 2 ^ 45 * sideField head 58 52 + 2 ^ 42 * 3 + 2 ^ 30 * sideField head 39 30 +
    2 ^ 4 * status) / 16)

/-- The virtual channel of a packet: VC2 for class 0, VC1 for responses, VC0 for other requests (R245). -/
def vcOf (cls op : Nat) : Nat := if cls = 0 then 2 else if op = 3 then 1 else 0

/-- The sideband of the head flit of a packet of `n` flits from local port `src` (router × 2 + port) under a bank. -/
def headSide (x : Packet) (src n : Nat) (bank : Bool) : BitVec 64 :=
  withPar ((2 ^ 62 * vcOf x.cls x.op.toNat + 2 ^ 59 * (n - 1) + 2 ^ 52 * x.dest.toNat + 2 ^ 45 * src + 2 ^ 42 * x.op.toNat +
    2 ^ 41 * b2n x.noWake + 2 ^ 40 * b2n bank + 2 ^ 30 * x.tag.toNat + 2 ^ 4 * x.addr.toNat) / 16)

/-- The sideband of a later flit: VC and parity only. -/
def bodySide (vc : Nat) : BitVec 64 := withPar (2 ^ 58 * vc)

/-- The flits of a packet, at most 8; a multicast whose region has no tiles has none. -/
def flitsOf (x : Packet) (src : Nat) (bank : Bool) (age ready : Nat) (todo : List Nat) : List Flit :=
  let n := if todo.isEmpty then 0 else max 1 (min 8 x.payload.length)
  let h := headSide x src n bank
  (upTo n).map fun i =>
    { side := if i = 0 then h else bodySide (vcOf x.cls x.op.toNat), payload := x.payload.getD i 0, head := h, cls := x.cls,
      first := i == 0, last := i + 1 == n, idx := i, age := age, ready := ready, todo := todo }

/-- A packet longer than its class allows goes as several: 8 flits, and in class 3 one (R243, R245). -/
def splitPacket (x : Packet) : Nat → List Packet
  | 0 => [x]
  | fuel + 1 =>
    let n := if x.cls = 3 then 1 else 8
    if x.payload.length ≤ n then [x]
    else { x with payload := x.payload.take n } ::
      splitPacket { x with payload := x.payload.drop n, addr := x.addr + BitVec.ofNat 26 n } fuel

/-- The outputs by which a flit leaves router `r` that came in at port `p`. -/
def State.hops (s : State) (r p : Nat) (head : BitVec 64) : List Nat :=
  if sideField head 44 42 = 4 then treeHops r p ((s.regionTiles (sideField head 55 52)).map tileRouter).dedup
  else [nextHop r (sideField head 58 53 % 48) (5 + sideField head 52 52)]

/-! ### Injection (R241, R247, R251, R470) -/

/-- The router cycle since reset of the `j`-th cycle of the running tick: a tick has two or three of them (R247). -/
def State.nocCycle (s : State) (j : Nat) : Nat :=
  let first := (s.noc.acc + 4) / 5
  s.rd64 0x90008 * 128 + min (first + j) ((s.noc.acc + 16) / 5 - 1)

/-- The key of a port and class, or of a VC. -/
def portKey (r p x : Nat) : Nat := (r * 8 + p) * 4 + x

/-- The key of an endpoint's queue for a class (R255). -/
def sourceKey (r p ep cls : Nat) : Nat := ((r * 8 + p) * 16 + ep) * 4 + cls

/-- An endpoint's queue. -/
def State.source (s : State) (k : Nat) : List Packet := Tab.get (fun _ => []) s.noc.sources k

/-- A router's input queue. -/
def State.inQueue (s : State) (r p vc cls : Nat) : List Flit := Tab.get (fun _ => []) s.noc.queues (portKey r p vc * 4 + cls)

/-- Put it. -/
def State.setInQueue (s : State) (r p vc cls : Nat) (l : List Flit) : State :=
  s.withNoc { s.noc with queues := Tab.set (fun _ => []) s.noc.queues (portKey r p vc * 4 + cls) l }

/-- The injection limit of a class-2 source in MB/s, 0 for none (R470): DMA engines, the PCIe endpoint, the replay store. -/
def State.injectRate (s : State) (r p ep : Nat) : Nat :=
  if p ≠ 6 then 0
  else if r = 0 then s.rd F.NOC_PCIE_RATE_RATE
  else if r = 1 then s.rd (F.DMA_RATE ep)
  else if r = 2 then s.rd (F.DMA_RATE (8 + ep))
  else if r = 5 then s.rd F.STO_RATE
  else 0

/-- Ticks of the NoC's own clock since reset. -/
def State.nocTick (s : State) : Nat := (s.rd64 0x90008 * 640 + s.noc.acc) / 12

/-- What a limited source may inject now, in 1/625 byte: RATE for each microsecond since, and 4,096 bytes at most (R470). -/
def State.allowance (s : State) (k rate : Nat) : Nat :=
  let x := Tab.get (fun _ => (4096 * 625, 0)) s.noc.budget k
  min (4096 * 625) (x.1 + rate * (s.nocTick - x.2))

/-- The class-2 payload of a packet in 1/625 byte. -/
def packetLoad (x : Packet) : Nat := 64 * 625 * x.payload.length

/-- May an endpoint inject its first packet now, to a VC? -/
def State.mayInject (s : State) (r p ep cls vc : Nat) : Bool :=
  match s.source (sourceKey r p ep cls) with
  | [] => false
  | x :: _ =>
    let rate := s.injectRate r p ep
    vcOf cls x.op.toNat == vc && (cls != 2 || rate == 0 || decide (packetLoad x ≤ s.allowance (sourceKey r p ep cls) rate))

/-- The endpoint that a local port serves next in a class on a VC: round-robin among those that may inject (R241). -/
def State.nextEndpoint (s : State) (r p cls vc : Nat) : Option Nat :=
  let n := endpoints r (p == 6)
  let last := Tab.get (fun _ => 15) s.noc.epRr (portKey r p cls)
  ((upTo 16).map fun i => (last + 1 + i) % 16).find? fun ep => decide (ep < n) && s.mayInject r p ep cls vc

/-- Endpoint `ep` of a local port injects its first packet: eight cycles through its gateway (R254), with the bank in force
(R251). -/
def State.injectFrom (s : State) (r p cls ep cyc : Nat) : State :=
  let k := sourceKey r p ep cls
  match s.source k with
  | [] => s
  | x :: xs =>
    let rate := s.injectRate r p ep
    let vc := vcOf cls x.op.toNat
    let h := headSide x (r * 2 + (p - 5)) 1 (s.on F.NOC_STAT_BANK)
    let fs := flitsOf x (r * 2 + (p - 5)) (s.on F.NOC_STAT_BANK) s.noc.born (cyc + 8) (s.hops r p h)
    let budget := if cls = 2 && rate != 0 then
        Tab.set (fun _ => (4096 * 625, 0)) s.noc.budget k (s.allowance k rate - packetLoad x, s.nocTick)
      else s.noc.budget
    (s.withNoc { s.noc with
      sources := Tab.set (fun _ => []) s.noc.sources k xs
      epRr := Tab.set (fun _ => 15) s.noc.epRr (portKey r p cls) ep
      born := s.noc.born + 1
      budget := budget }).setInQueue r p vc cls (s.inQueue r p vc cls ++ fs)

/-- The local ports of router `r` take a packet in each class for each VC whose queue has run out, so that a request waits for no
response (R245). -/
def State.feed (s : State) (r cyc : Nat) : State :=
  forEach [5, 6] (fun p s =>
    forEach (upTo 4) (fun cls s =>
      forEach (upTo 3) (fun vc s =>
        if (s.inQueue r p vc cls).isEmpty then
          match s.nextEndpoint r p cls vc with
          | some ep => s.injectFrom r p cls ep cyc
          | none => s
        else s) s) s) s

/-- The packets that endpoints of router `r` hand over join their gateways' queues; one of an endpoint that the router does not
have is none of the NoC's. -/
def State.handPackets (s : State) (r : Nat) (l : List Packet) : State :=
  forEach (l.filter fun x => decide (x.endpoint.val < endpoints r x.port)) (fun x s =>
    let k := sourceKey r (5 + b2n x.port) x.endpoint x.cls
    s.withNoc { s.noc with
      sources := Tab.set (fun _ => []) s.noc.sources k (s.source k ++ splitPacket x x.payload.length) }) s

/-! ### Outputs (R245, R249, R256) -/

/-- The input port whose packet holds a VC of an output. -/
def State.vcHolder (s : State) (r out vc : Nat) : Option Nat := Tab.get (fun _ => none) s.noc.own (portKey r out vc)

/-- Where a flit stands: input port and VC. -/
abbrev At := Nat × Nat × Flit

/-- The flits that stand first in an input queue of router `r` and can leave by `out` in cycle `cyc`. -/
def State.waiting (s : State) (r out cyc : Nat) : List At :=
  (upTo 84).filterMap fun i =>
    match s.inQueue r (i / 12) (i / 4 % 3) (i % 4) with
    | [] => none
    | f :: _ => if f.todo.contains out && decide (f.ready ≤ cyc) then some (i / 12, i / 4 % 3, f) else none

/-- May a flit take its VC of the output: a head a free one, a later flit its packet's own (R245)? -/
def State.vcFree (s : State) (r out : Nat) (x : At) : Bool :=
  match s.vcHolder r out x.2.1 with
  | none => x.2.2.first
  | some p => p == x.1 && !x.2.2.first

/-- The VC2 flit whose reservation, in the bank its packet names, is this slot of this output (R249, R251). -/
def State.reservedFlit (s : State) (r out j : Nat) (fs : List At) : Option At :=
  fs.find? fun x => x.2.1 == 2 && s.vcFree r out x &&
    s.slotEntry (sideField x.2.2.head 40 40) r out j == 8 + x.1

/-- The oldest of a list of flits. -/
def oldest : List At → Option At
  | [] => none
  | f :: fs => some (fs.foldl (fun a x => if x.2.2.age < a.2.2.age then x else a) f)

/-- The round-robin choice among input ports after the one served last (R249). -/
def nextPort (last : Nat) (fs : List At) : Option At :=
  ((upTo 8).map fun i => (last + 1 + i) % 8).findSome? fun p => fs.find? fun x => x.1 == p

/-- A flit of one class on VC0 or VC1: input ports take turns (R249). -/
def State.classFlit (s : State) (r out c : Nat) (fs : List At) : Option At :=
  nextPort (Tab.get (fun _ => 7) s.noc.rr (portKey r out c)) (fs.filter fun x => x.2.2.cls == c && s.vcFree r out x)

/-- The flit that output `out` of router `r` sends in slot `j` (R249). A class-3 flit is a packet of its own and takes slot 127
whatever packet holds its VC (log entry 130). -/
def State.chosen (s : State) (r out j : Nat) (fs : List At) : Option At :=
  match s.reservedFlit r out j fs with
  | some f => some f
  | none =>
    match if j = 127 then oldest (fs.filter fun x => x.2.2.cls == 3) else none with
    | some f => some f
    | none => ((s.classFlit r out 1 fs).or (s.classFlit r out 2 fs)).or (s.classFlit r out 3 fs)

/-- A sideband parity error: the flit is discarded and an F1 fault is raised (R256). -/
def State.nocParity (s : State) (r : Nat) : State :=
  (((s.wr F.NOC_STAT_PAR_ERR 1).bump F.NOC_PAR_CNT_COUNT).raise Ev.NOC_PAR_ERR).fault1 8 r false

/-- A flit leaves its input queue by one of its outputs, and its VC of the output goes on or ends with its tail. -/
def State.takeFlit (s : State) (r out cyc : Nat) (x : At) : State :=
  let f := x.2.2
  let q := s.inQueue r x.1 x.2.1 f.cls
  let todo := f.todo.filter fun o => o != out
  let own := if f.first && f.last then s.noc.own
    else Tab.set (fun _ => none) s.noc.own (portKey r out x.2.1) (if f.last then none else some x.1)
  (s.setInQueue r x.1 x.2.1 f.cls (if todo.isEmpty then q.tail else { f with todo := todo } :: q.tail)).withNoc
    { (s.setInQueue r x.1 x.2.1 f.cls (if todo.isEmpty then q.tail else { f with todo := todo } :: q.tail)).noc with
      own := own
      rr := Tab.set (fun _ => 7) s.noc.rr (portKey r out f.cls) x.1
      sentAt := Tab.set (fun _ => 0) s.noc.sentAt (r * 8 + out) (cyc + 1) }

/-- A flit enters the next router, from which it can leave four cycles later (R247, R254). -/
def State.passOn (s : State) (r out cyc vc : Nat) (f : Flit) (side : BitVec 64) : State :=
  let e := linkEnd r out
  let head := if f.first then side else f.head
  let todo := s.hops e.1 e.2 head
  if todo.isEmpty then s
  else s.setInQueue e.1 e.2 vc f.cls (s.inQueue e.1 e.2 vc f.cls ++
    [{ f with side := side, head := head, ready := cyc + 4, todo := todo }])

/-- A flit of a multicast write leaves by the local port of a router that attaches tiles of its region: every tile gateway there takes
its 64 bytes (R88, R246). DEDUCED (log entry 171): ADDR counts 64-byte blocks of the tile's gob-in buffer. -/
def State.deliverCopy (s : State) (r : Nat) (f : Flit) : State :=
  let b := sideField f.head 29 4 + f.idx
  if sideField f.head 44 42 ≠ 4 || 32 ≤ b then s
  else
    forEach ((s.regionTiles (sideField f.head 55 52)).filter fun t => tileRouter t == r) (fun t s =>
      s.gobInWrite t (64 * b) (leBytes 64 f.payload.toNat)) s

/-- A flit crosses an output: to the endpoints of a local port, or over the link to the next router. -/
def State.crossOut (s : State) (r out cyc : Nat) (x : At) (flip : BitVec 64) : State :=
  let side := x.2.2.side ^^^ flip
  let s1 := s.takeFlit r out cyc x
  if !sideOk side then s1.nocParity r
  else
    let s2 := s1.emit (.flit r out side x.2.2.payload)
    if 5 ≤ out then (if out = 5 then s2.deliverCopy r x.2.2 else s2) else s2.passOn r out cyc x.2.1 x.2.2 side

/-- NOC_PACKET: one router cycle of one router output, which sends at most one flit in it (R249). -/
def execNocPacket (r : Fin 48) (out : Fin 7) (j : Fin 3) (inject : List Packet) (flip : BitVec 64) (s : State) : Answer :=
  act s fun s =>
    let cyc := s.nocCycle j
    let s1 := (s.handPackets r inject).feed r cyc
    if !hasPort r out || Tab.get (fun _ => 0) s.noc.sentAt (r.val * 8 + out.val) == cyc + 1 then s1
    else
      match s1.chosen r out (cyc % 128) (s1.waiting r out cyc) with
      | none => s1
      | some x => s1.crossOut r out cyc x flip

end Sys2Proof.Machine
end

