-- ==== Sys2Proof/Machine/MemPorts.lean ====
section
/-!
DEFINITION. Memory ports and HBM controllers (R125–R143): issue, landing, the check at b8 with its stall and poison, and
requests as a controller performs them.
-/

namespace Sys2Proof.Machine

/-! ### The check at b8 (R131–R134) -/

/-- CYCLE_CNT of gaffer `n` (R124). -/
def State.cycles (s : State) (n : Nat) : Nat := s.rd64 (0x100020 + 0x10000 * (n % 16))

/-- Is a request due at cycle `c` and not yet present? -/
def MemReq.missing (r : MemReq) (c : Nat) : Bool := r.due == c && !r.stale && !r.poisoned && !r.answered

/-- The tiles of region `n` that lack due data or a due acknowledgement. -/
def State.lacking (s : State) (n : Nat) : List Nat :=
  (s.regionTiles n).filter fun t => (s.port t).reqs.any fun r => r.missing (s.cycles n)

/-- The tiles of region `n` that lack due data, which count the stall (R133). -/
def State.lackingData (s : State) (n : Nat) : List Nat :=
  (s.regionTiles n).filter fun t => (s.port t).reqs.any fun r => r.missing (s.cycles n) && !r.write

/-- Slot `k` of tile `t` becomes 64 zero bytes with POISON (R134). -/
def State.poisonSlot (s : State) (t k : Nat) : State :=
  (s.withRetBuf (Tab.clear s.retBuf (t * 2048 + 64 * k) (t * 2048 + 64 * k + 64))).setTile t
    { s.tile t with poison := setBitTo (s.tile t).poison k true }

/-- Slot `k` of tile `t` takes the bytes of its answer (R132). -/
def State.fillSlot (s : State) (t k : Nat) (bs : List Byte) : State :=
  (s.withRetBuf (Bytes.write s.retBuf (t * 2048 + 64 * k) bs)).setTile t
    { s.tile t with poison := setBitTo (s.tile t).poison k false }

/-- The slots of tile `t` that its check at cycle `c` poisons: refused reads and reads answered with an error. -/
def State.badSlots (s : State) (t c : Nat) : List Nat :=
  (((s.port t).refused.filter fun x => x.2 == c).map fun x => x.1) ++
  (((s.port t).reqs.filter fun r => r.due == c && r.answered && !r.stale && r.err).map fun r => r.slot)

/-- Poison slots of tile `t`, with the traces of R134. -/
def State.poisonSlots (s : State) (t : Nat) (ks : List Nat) : State :=
  if ks = [] then s
  else
    let s1 := forEach ks (fun k s => s.poisonSlot t k) s
    ((s1.bumpBy (F.MPU_POISON_CNT_COUNT t) ks.length).wr (F.MPU_MP_STAT_POISON t) 1).wr (F.MPU_POISON_LAST_MASK t)
      (ks.foldl (fun m k => setBitTo m k true) 0)

/-- Data due at cycle `c` becomes visible in tile `t`: `ks` are the slots poisoned at this boundary (R132, R134). -/
def State.showTile (s : State) (t c : Nat) (ks : List Nat) : State :=
  let p := s.port t
  let good := p.reqs.filter fun r => r.due == c && r.answered && !r.stale && !r.err
  let s1 := forEach good (fun r s => s.fillSlot t r.slot r.data) s
  let s2 := s1.poisonSlots t ks
  (s2.setPort t { s2.port t with refused := p.refused.filter fun x => x.2 != c }).setReqs t
    (p.reqs.filter fun r => !(r.due == c && r.answered && !r.stale))

/-- Make the data due at this boundary of region `n` visible; MPU_POISON is raised once where a slot is poisoned.
`extra` names further slots of a tile that the stall bound poisons. -/
def State.show (s : State) (n : Nat) (extra : Nat → List Nat) : State :=
  let c := s.cycles n
  let ks := fun t => s.badSlots t c ++ extra t
  let any := (s.regionTiles n).any fun t => ks t != []
  let s1 := forEach (s.regionTiles n) (fun t s => s.showTile t c (ks t)) s
  if any then s1.raise (Ev.MPU_POISON n) else s1

/-- The slots whose reads tile `t` still misses at cycle `c`. -/
def State.missedSlots (s : State) (t c : Nat) : List Nat :=
  ((s.port t).reqs.filter fun r => r.missing c && !r.write).map fun r => r.slot

/-- The bound elapses for tile `t` (R134, R135): its missing reads keep their tags as poisoned, its late writes count. -/
def State.expireTile (s : State) (t c : Nat) : State :=
  let rs := (s.port t).reqs
  let late := (rs.filter fun r => r.missing c && r.write).length
  let s1 := s.setReqs t (rs.map fun r =>
    if r.missing c then (if r.write then { r with late := true } else { r with poisoned := true }) else r)
  if late = 0 then s1
  else ((s1.bumpBy (F.MPU_WR_LATE_CNT_COUNT t) late).wr (F.MPU_MP_STAT_WR_LATE t) 1).raise Ev.MPU_WR_LATE

/-- The bound elapses for region `n`: what is missing is poisoned or late, what is present becomes visible. -/
def State.expire (s : State) (n : Nat) : State :=
  let c := s.cycles n
  let miss := (s.regionTiles n).map fun t => (t, s.missedSlots t c)
  let s1 := forEach (s.regionTiles n) (fun t s => s.expireTile t c) s
  s1.show n fun t => ((miss.find? fun x => x.1 == t).map fun x => x.2).getD []

/-! ### Landing and acknowledgement (R128, R129, R132, R135) -/

/-- The request of tile `t` that holds a tag. -/
def State.holder (s : State) (t tag : Nat) : Option MemReq := (s.port t).reqs.find? fun r => r.tag == tag

/-- Free a tag. -/
def State.freeReq (s : State) (t tag : Nat) : State := s.setReqs t ((s.port t).reqs.filter fun r => r.tag != tag)

/-- Replace the request that holds a tag. -/
def State.putReq (s : State) (t : Nat) (r : MemReq) : State :=
  s.setReqs t ((s.port t).reqs.map fun x => if x.tag == r.tag then r else x)

/-- The read that holds `tag` of tile `t` lands, once the controller has performed it (R129, R132, R135). -/
def State.land (s : State) (t tag : Nat) : State :=
  match s.holder t tag with
  | none => s
  | some r =>
    if r.write || !r.performed || r.answered then s
    else if r.poisoned then
      (((s.freeReq t tag).bump (F.MPU_LATE_DISC_CNT_COUNT t)).wr (F.MPU_MP_STAT_LATE_DISC t) 1).raise
        Ev.MPU_LATE_DISC
    else if r.stale then s.freeReq t tag
    else s.putReq t { r with answered := true }

/-- The write that holds `tag` of tile `t` is acknowledged, once the controller has performed it (R128). -/
def State.ackWrite (s : State) (t tag : Nat) : State :=
  match s.holder t tag with
  | none => s
  | some r => if r.write && r.performed then s.freeReq t tag else s

/-- READ_LANDING. -/
def execReadLanding (t : Fin 128) (tag : Fin 32) (s : State) : Answer := act s fun s => s.land t tag

/-- WRITE_ACK. -/
def execWriteAck (t : Fin 128) (tag : Fin 32) (s : State) : Answer := act s fun s => s.ackWrite t tag

/-- A stack whose training failed answers a request at once with an error (R141): a read is answered, a write
acknowledged. -/
def State.answerDead (s : State) (t tag : Nat) : State :=
  match s.holder t tag with
  | none => s
  | some r =>
    if r.performed then s
    else ((s.putReq t { r with performed := true, err := true }).land t tag).ackWrite t tag

/-! ### Issue at b4 (R126–R128, R131) -/

/-- The lowest tag no request of a port holds. -/
def freeTag (rs : List MemReq) : Option Nat := firstIdx 32 fun i => !(rs.any fun r => r.tag == i)

/-- A refused read is poisoned at its due b8 (R127, R128). -/
def State.refuse (s : State) (t slot due : Nat) (write : Bool) : State :=
  if write then s else s.setPort t { s.port t with refused := (s.port t).refused ++ [(slot, due)] }

/-- Issue one slot of tile `t`; `due` is the cycle at whose b8 the answer is due. Answers also whether the slot was
refused for want of a tag. -/
def State.issueSlot (s : State) (t slot due : Nat) : State × Bool :=
  let w := s.reqSlot t slot
  let write := bit w 1
  let a := slotAddr w
  if a ≥ 2 ^ 35 then
    (((s.bump (F.MPU_ADDR_ERR_CNT_COUNT t)).wr (F.MPU_MP_STAT_ADDR_ERR t) 1).raise Ev.MPU_ADDR_ERR |>.refuse t slot due
      write, false)
  else
    match freeTag (s.port t).reqs with
    | none => ((s.bump (F.MPU_TAG_SHORT_CNT_COUNT t)).refuse t slot due write, true)
    | some tag =>
      let r : MemReq := {
        tag := tag, slot := slot, write := write, addr := a, be := slice w 127 64,
        data := leBytes 64 (slice w 639 128), due := due, performed := false, answered := false, err := false,
        poisoned := false, stale := false, late := false }
      let s1 := s.setReqs t ((s.port t).reqs ++ [r])
      (if s.stackDead (stackOf a) then s1.answerDead t tag else s1, false)

/-- Issue the slots of tile `t` whose ISSUE is 1, in ascending order; a shortage of tags is raised once (R128). -/
def State.issueTile (s : State) (t due : Nat) : State :=
  let r := forEach ((upTo 32).filter fun k => bit (s.reqSlot t k) 0)
    (fun k (x : State × Bool) => match x.1.issueSlot t k due with | (s1, b) => (s1, x.2 || b)) (s, false)
  if r.2 then (r.1.wr (F.MPU_MP_STAT_TAG_SHORT t) 1).raise Ev.MPU_TAG_SHORT else r.1

/-- Issue for every tile of region `n` at its b4 (R127). -/
def State.issueRegion (s : State) (n : Nat) : State :=
  forEach (s.regionTiles n) (fun t s => s.issueTile t (s.cycles n + (s.gaf n).dDepth - 1)) s

/-! ### HBM controllers (R136–R141, R363) -/

/-- Write the enabled bytes of a 64-byte block of a stack that answers: each word enabled in whole or in part meets its
stored code (R139). -/
def State.hbmPut (s : State) (a be : Nat) (data : List Byte) : State :=
  let part := fun i => slice be (8 * i + 7) (8 * i)
  let s1 := forEach ((upTo 8).filter fun i => part i != 0) (fun i s => s.meetCode (a / 8 + i) (part i == 255)) s
  forEach (upTo 64) (fun i s =>
    if bit be i then s.withHbm (Bytes.set s.hbm (a + i) (data.getD i 0)) else s) s1

/-- The word an upset of the block at `a` falls in, and whether it can no longer be corrected. -/
def upsetWords (u : Upset) (a : Nat) : List (Nat × Bool) :=
  match u with
  | .none => []
  | .single w => [(a / 8 + w.val, false)]
  | .double w => [(a / 8 + w.val, true)]

/-- The controller's access to the stack: where the request lies in it (R138). -/
def State.dramAccess (s : State) (a : Nat) (write : Bool) : State :=
  s.emit (.dram (stackOf a) (channelOf a) (pseudoIdx a % 2) (bankOf a) (localOf a) write)

/-- Is `r` the first request of its tile for its block that has not been performed (R136)? -/
def firstOfBlock (rs : List MemReq) (r : MemReq) : Bool :=
  match rs.find? fun x => x.addr == r.addr && !x.performed with
  | some x => x.tag == r.tag
  | none => false

/-- A controller performs a memory port's request: the answer waits in the request for its landing. -/
def State.performPort (s : State) (t tag : Nat) (u : Upset) : State :=
  match s.holder t tag with
  | none => s
  | some r =>
    if r.performed || !firstOfBlock (s.port t).reqs r then s
    else
      let s1 := (s.upsets (upsetWords u r.addr)).knock (16 + stackOf r.addr)
      if !s1.stackServes (stackOf r.addr) then s1
      else if r.write then
        ((s1.dramAccess r.addr true).hbmPut r.addr r.be r.data).putReq t { r with performed := true }
      else
        let x := (s1.dramAccess r.addr false).hbmRead r.addr 64
        x.1.putReq t { r with performed := true, err := x.2.1, data := x.2.2 }

/-- The 64-byte blocks that a range touches, by their addresses. -/
def blocksIn (a n : Nat) : List Nat := if n = 0 then [] else (upTo ((a + n - 1) / 64 + 1 - a / 64)).map fun i => 64 * (a / 64 + i)

/-- Write the bytes that are enabled, block by block; those of a stack with a failed training are lost (R141, R269). -/
def State.putEnabled (s : State) (a : Nat) (bs : List (Option Byte)) : State :=
  let at_ := fun (x : Nat) => if a ≤ x then (bs.getD (x - a) none) else none
  forEach ((blocksIn a bs.length).filter fun b => !s.stackDead (stackOf b)) (fun b s =>
    let be := (upTo 64).foldl (fun m i => if (at_ (b + i)).isSome then m + 2 ^ i else m) 0
    s.hbmPut b be ((upTo 64).map fun i => (at_ (b + i)).getD 0)) s

/-! ### The pixel-path write port and the raw-line rings (R142–R144) -/

/-- Ring `k`'s descriptor as last taken, and its lines in progress. -/
def State.ring (s : State) (k : Nat) : Ring := Tab.get (fun _ => Ring.init) s.rings k

/-- Put ring `k`. -/
def State.setRing (s : State) (k : Nat) (r : Ring) : State := s.withRings (Tab.set (fun _ => Ring.init) s.rings k r)

/-- Is unit `m` processing rows? -/
def State.active (s : State) (m : Nat) : Bool := s.on (F.MRV_STATUS_ACTIVE m)

/-- The active units that write ring `k`, lowest first (R199). -/
def State.ringWriters (s : State) (k : Nat) : List Nat :=
  (upTo 16).filter fun m => s.active m && s.on (F.MRV_CTRL_RING_EN m) && s.rd (F.MRV_CTRL_RING m) == k

/-- Ring `k`'s descriptor in its registers (R143). -/
def State.ringDesc (s : State) (k : Nat) : RingDesc :=
  { live := s.on (F.HBM_RING_BASE_HI_EN 0 k),
    base := 2 ^ 20 * s.rd (F.HBM_RING_BASE_LO_BASE_LO 0 k) + 2 ^ 32 * s.rd (F.HBM_RING_BASE_HI_BASE_HI 0 k),
    hdr := 64 * s.rd (F.HBM_RING_HDR_LO_HDR_LO 0 k) + 2 ^ 32 * s.rd (F.HBM_RING_HDR_HI_HDR_HI 0 k),
    log2n := max 10 (min 24 (s.rd (F.HBM_RING_CFG_LOG2N 0 k))), stride := max 1 (s.rd (F.HBM_RING_CFG_STRIDE 0 k)) }

/-- The line of ring `k` in progress whose index is that of `l`, or `l`. -/
def Ring.lineOf (r : Ring) (l : RingLine) : RingLine := (r.lines.find? fun x => x.line == l.line).getD l

/-- A line of a ring as it now stands. -/
def Ring.putLine (r : Ring) (l : RingLine) : Ring := { r with lines := (r.lines.filter fun x => x.line != l.line) ++ [l] }

/-- A line with one more unit done. -/
def RingLine.add (l : RingLine) (m : Nat) (taint : Bool) : RingLine :=
  { l with taint := l.taint || taint, done := m :: l.done }

/-- The bytes of a line's header (R143). -/
def RingLine.header (l : RingLine) (valid : Bool) : List Byte :=
  leBytes 8 (l.line + 2 ^ 48 * b2n valid + 2 ^ 49 * b2n l.taint) ++ leBytes 8 l.time ++ leBytes 48 0

/-- Where it lies. -/
def RingLine.headerAt (l : RingLine) : Nat := l.desc.hdr + l.line % 2 ^ l.desc.log2n * 64

/-- Whose writes a waiting request keeps in order. -/
def Held2.writer : Held2 → Option Writer
  | .put w .. => some w
  | _ => none

/-- Does an earlier write of a writer still wait, in the list of those that wait or in `more` (R142)? -/
def State.mustFollow (s : State) (more : List Held2) (w : Writer) : Bool := (more ++ s.hbmHeld).any fun h => h.writer == some w

/-- Write a range for a writer in the order of its writes: performed now (true), or held until its stacks answer and the writes
before it are performed. What lies outside HBM is refused (R23), and done with. -/
def State.putFor (s : State) (more : List Held2) (w : Writer) (a : Nat) (bs : List Byte) (next : After) : State × Bool :=
  if !inHbm a bs.length then (s.accessErr 3 true true a, true)
  else
    let s1 := s.wakeHbm a bs.length
    if s1.hbmReady a bs.length && !s1.mustFollow more w then (s1.hbmStore a bs, true)
    else (s1.withHbmHeld (s1.hbmHeld ++ [.put w a bs next]), false)

/-- RINGk_LAST takes a line. -/
def State.setLast (s : State) (k line : Nat) : State :=
  (s.setReg (0xe00214 + 0x20 * (k % 4)) (BitVec.ofNat 32 line)).setReg (0xe00218 + 0x20 * (k % 4))
    (BitVec.ofNat 32 (line / 2 ^ 32 % 2 ^ 16))

/-- A line of ring `k` as it now stands. One that every writing unit has finished, its header begun, is complete: its header
writer writes the header with VALID, and once that is performed RINGk_LAST takes the line (R144). -/
def State.ringDone (s : State) (more : List Held2) (k : Nat) (l : RingLine) : State :=
  if l.begun && (s.ringWriters k).all fun u => l.done.contains u then
    let s1 := s.setRing k { s.ring k with lines := (s.ring k).lines.filter fun x => x.line != l.line }
    let x := s1.putFor more (.unit ((s.ringWriters k).headD 0)) l.headerAt (l.header true) (.whole k l.line)
    if x.2 then x.1.setLast k l.line else x.1
  else s.setRing k ((s.ring k).putLine l)

/-- What follows a write that has been performed. -/
def State.followUp (s : State) (more : List Held2) : After → State
  | .none => s
  | .row m k line taint =>
    match (s.ring k).lines.find? fun x => x.line == line with
    | some l => s.ringDone more k (l.add m taint)
    | none => s
  | .whole k line => s.setLast k line

/-- A marver unit writes a range (R142). -/
def State.unitWrite (s : State) (m a : Nat) (bs : List Byte) (next : After) : State :=
  let x := s.putFor [] (.unit m) a bs next
  if x.2 then x.1.followUp [] next else x.1

/-! ### Requests that wait for their stacks (R139, R141, R269, R363) -/

/-- The range a waiting request needs. -/
def Held2.range : Held2 → Nat × Nat
  | .block (.port ..) => (0, 0)
  | .block (.read b) => (64 * b.toNat, 64)
  | .block (.write b ..) => (64 * b.toNat, 64)
  | .read a n => (a, n)
  | .write a bs => (a, bs.length)
  | .put _ a bs _ => (a, bs.length)

/-- Perform a request whose stacks answer, while those of `more` wait that were made before it (R138, R139, R141, R272). -/
def State.doHeld (s : State) (more : List Held2) : Held2 → State
  | .block (.port ..) => s
  | .block (.read block) =>
    let x := (if s.stackDead (stackOf (64 * block.toNat)) then s else s.dramAccess (64 * block.toNat) false).hbmRead
      (64 * block.toNat) 64
    x.1.emit (.hbm x.2.1 (if x.2.1 then [] else x.2.2))
  | .block (.write block be data) =>
    if s.stackDead (stackOf (64 * block.toNat)) then s.emit (.hbm true [])
    else ((s.dramAccess (64 * block.toNat) true).hbmPut (64 * block.toNat) be.toNat (leBytes 64 data.toNat)).emit (.hbm false [])
  | .read a n =>
    let x := s.hbmRead a n
    x.1.emit (.completion 0 x.2.1 (if x.2.1 then [] else x.2.2))
  | .write a bs => s.putEnabled a bs
  | .put _ a bs next => (s.hbmStore a bs).followUp more next

/-- A request of HBM: performed, or held until its stacks are trained and awake, which it wakes (R141, R269, R363). -/
def State.askHbm (s : State) (h : Held2) : State :=
  let s1 := s.wakeHbm h.range.1 h.range.2
  if s1.hbmReady h.range.1 h.range.2 then s1.doHeld [] h else s1.withHbmHeld (s1.hbmHeld ++ [h])

/-- Requests that waited are taken again, in order: those that still wait are `kept`, before any that come of those performed. -/
def State.askAgain (s : State) (kept : List Held2) : List Held2 → State
  | [] => s.withHbmHeld (kept ++ s.hbmHeld)
  | h :: hs =>
    let s1 := s.wakeHbm h.range.1 h.range.2
    if s1.hbmReady h.range.1 h.range.2 && !(h.writer.isSome && kept.any fun x => x.writer == h.writer) then
      (s1.doHeld (kept ++ hs) h).askAgain kept hs
    else s1.askAgain (kept ++ [h]) hs

/-- A stack becomes ready, or its training fails: the requests that wait are taken again, in order. -/
def State.serveHeld (s : State) : State := (s.withHbmHeld []).askAgain [] s.hbmHeld

/-- HBM_REQUEST (R138, R139). A stack that is not trained yet, or in self-refresh, holds the request, which
wakes it. -/
def execHbmRequest (q : HbmReq) (u : Upset) (s : State) : Answer :=
  act s fun s =>
    match q with
    | .port t tag => s.performPort t tag u
    | q => (s.upsets (upsetWords u (Held2.block q).range.1)).askHbm (.block q)

/-- May a BAR2 request be of this length: within the Maximum Payload Size for a write, the Maximum Read Request Size for a read
(R269)? -/
def State.sizeOk (s : State) (n : Nat) (write : Bool) : Bool := decide (n ≤ if write then s.pcie.mps else s.pcie.mrrs)

/-- BAR2_REQUEST: a read of `n` bytes or a write with byte enables, at an offset that is the HBM address (R22, R269). The
endpoint serves it once it is ready (R270). A request past the end of the BAR or above the sizes of R269, and one in D3hot, is
one that the function does not support. -/
def execBar2Request (a : BitVec 35) (n : Fin 4097) (w : Option (List (Option Byte))) (tlp : Tlp) (up : Upsets) (s : State) :
    Answer :=
  actPcie s fun s =>
    if !s.on F.PCI_STAT_READY then s
    else if (s.tlpFault tlp w.isSome).isSome then s.dropTlp tlp w.isSome
    else if s.pcie.d3hot || !inHbm a.toNat (match w with | some bs => bs.length | none => n.val) ||
        !s.sizeOk (match w with | some bs => bs.length | none => n.val) w.isSome then s.unsupported w.isSome
    else
      match w with
      | some bs => (s.upsets (upsetList up)).askHbm (.write a.toNat bs)
      | none => (s.upsets (upsetList up)).askHbm (.read a.toNat n)

/-- PATROL_SCRUB of stack `c` (R139): the whole stack is read, each word with a single-bit error corrected and each that
cannot be corrected reported, with the upsets found. DESIGN CHOICE (log entry 146): also while the stack is in self-refresh. -/
def execPatrolScrub (c : Fin 2) (found : Upsets) (s : State) : Answer :=
  act s fun s =>
    if s.on (F.HBM_CTRL_SCRUB_EN c) && s.on (F.HBM_STATUS_TRAINED c) then
      let mine := fun (w : Nat) => decide (stackOf (8 * w) = c.val)
      let s1 := s.upsets ((upsetList found).filter fun x => mine x.1)
      let s2 := forEach ((s1.hbmSoft.map fun e => e.1).filter mine) (fun w s => s.hbmCe w) s1
      s2.hbmUes ((s2.hbmBad.map fun e => e.1).filter mine)
    else s

/-- HBM_TEMP_HIGH: stack `c` reports a temperature; reaching TEMP_HI sets TEMP_HIGH and raises HBM_TEMP (R140). DESIGN
CHOICE (log entry 122): a report reaches TEMP_HI where the report before it lay below, and TEMP_HI is a two's-complement
number as TEMP is. -/
def execHbmTempHigh (c : Fin 2) (temp : BitVec 8) (s : State) : Answer :=
  act s fun s =>
    let old := toSigned 8 (s.rd (F.HBM_TEMP c))
    let hi := toSigned 8 (s.rd (F.HBM_CTRL_TEMP_HI c))
    let s1 := s.wr (F.HBM_TEMP c) temp.toNat
    if hi ≤ toSigned 8 temp.toNat && decide (old < hi) then
      (s1.wr (F.HBM_STATUS_TEMP_HIGH c) 1).raise (Ev.HBM_TEMP c)
    else s1

/-- Training of stack `c` fails: what memory ports still ask of it is answered with an error (R141). -/
def State.trainFail (s : State) (c : Nat) : State :=
  let s1 := ((s.wr (F.HBM_STATUS_TRAINED c) 0).wr (F.HBM_STATUS_LINK_ERR c) 1).raise (Ev.HBM_LINK_ERR c)
  forEach (upTo 128) (fun t s =>
    forEach ((s.port t).reqs.filter fun r => stackOf r.addr == c) (fun r s => s.answerDead t r.tag) s) s1

/-- The requests a gateway holds proceed, or are answered with an error, in order of arrival (R365). -/
def State.proceed (s : State) (d : Nat) (status : Nat) : State :=
  let x := s.dom d
  forEach x.held (fun q s => s.emit (.resp (respHead q.2 status))) (s.setDom d { x with held := [] })

/-- Is training of stack `c` still to end? -/
def State.untrained (s : State) (c : Nat) : Bool := !s.on (F.HBM_STATUS_TRAINED c) && !s.on (F.HBM_STATUS_LINK_ERR c)

/-- PLL4 as the training of stack `c` sets it: HALF_RATE takes effect here (R147, R379). DESIGN CHOICE (log entry 138): the two
stacks share PLL4, and the later training's setting stands. -/
def State.setHbmRate (s : State) (c : Nat) : State := s.wr ⟨0x20190, 7, 0⟩ (if s.on (F.HBM_CTRL_HALF_RATE c) then 8 else 4)

/-- HBM_TRAINING of stack `c` ends (R141). -/
def execHbmTraining (c : Fin 2) (ok : Bool) (s : State) : Answer :=
  act s fun s =>
    if !s.untrained c then s
    else ((if ok then (s.setHbmRate c).wr (F.HBM_STATUS_TRAINED c) 1 else s.trainFail c).proceed (16 + c) (b2n !ok)).serveHeld

/-- HBM_TRAINING_TIMEOUT (R141). -/
def execHbmTrainingTimeout (c : Fin 2) (s : State) : Answer :=
  act s fun s => if s.untrained c then ((s.trainFail c).proceed (16 + c) 1).serveHeld else s

end Sys2Proof.Machine
end

