-- ==== Sys2Proof/Machine/Dma.lean ====
section
/-!
DEFINITION. DMA engines (R257–R263): descriptors, their checks, their holds, the data they move and their completions.
-/

namespace Sys2Proof.Machine

/-! ### Descriptor fields (R258) -/

/-- Bits `hi` down to `lo` of a descriptor. -/
def Desc.f (d : Desc) (hi lo : Nat) : Nat := slice d.raw hi lo

/-- SRC, DST and LEN. -/
def Desc.src (d : Desc) : Nat := d.f 63 0
/-- DST. -/
def Desc.dst (d : Desc) : Nat := d.f 127 64
/-- LEN. -/
def Desc.len (d : Desc) : Nat := d.f 151 128
/-- SRC_SPACE. -/
def Desc.sspace (d : Desc) : Nat := d.f 154 152
/-- DST_SPACE. -/
def Desc.dspace (d : Desc) : Nat := d.f 157 155
/-- WAIT_EN. -/
def Desc.waitEn (d : Desc) : Bool := bit d.raw 170
/-- FENCE. -/
def Desc.fence (d : Desc) : Bool := bit d.raw 171
/-- SYNC_B4. -/
def Desc.syncB4 (d : Desc) : Bool := bit d.raw 172
/-- CLOSE. -/
def Desc.closes (d : Desc) : Bool := bit d.raw 173

/-- The logical tiles that a GOB_IN or GOB_OUT address names (R259). -/
def gobTiles (a : Nat) : List Nat := (upTo (slice a 24 18 + 1)).map fun i => slice a 17 11 + i

/-- The tiles a descriptor names. -/
def Desc.tiles (d : Desc) : List Nat :=
  (if d.sspace = 3 then gobTiles d.src else []) ++ (if d.dspace = 2 then gobTiles d.dst else [])

/-- Bytes that reach the destination: for a drain, n × (16 + LEN) (R259). -/
def Desc.total (d : Desc) : Nat := if d.sspace = 3 then (gobTiles d.src).length * (16 + d.len) else d.len

/-! ### Checks (R259, R260, R276) -/

/-- Does a DEVICE range lie in one window: HBM, or the user window (R21)? -/
def deviceRange (a n : Nat) : Bool :=
  inHbm a n || (decide (0x1000000000 ≤ a) && decide (a + n ≤ 0x1040000000))

/-- Are the bits of an address that its space requires to be zero all zero (R259)? -/
def addrReservedZero (space a : Nat) : Bool :=
  if space = 0 then slice a 63 40 == 0 else if space = 2 ∨ space = 3 then slice a 63 25 == 0 else true

/-- The checks of R260 that the descriptor alone decides, and whether named tiles lie in one region: a list of
(REASON, fails). -/
def State.descFaults (s : State) (d : Desc) : List (Nat × Bool) :=
  let ss := d.sspace
  let ds := d.dspace
  let reserved := d.f 159 158 + d.f 191 175 + d.f 254 224
  let srcBad :=
    if ss = 0 then !deviceRange d.src d.len
    else if ss = 1 then decide (2 ^ 64 < d.src + d.len)
    else decide (2048 < slice d.src 10 0 + d.len)
  let dstBad :=
    if ds = 0 then !deviceRange d.dst d.total
    else if ds = 1 then decide (2 ^ 64 < d.dst + d.total)
    else if ds = 2 then
      decide (2048 < slice d.dst 10 0 + d.total) || (d.closes && (slice d.dst 10 0 != 0 || decide (d.len < 8)))
    else decide (d.total < 14) || decide (9212 < d.total) || slice d.dst 63 30 != 0 || slice d.dst 15 4 != 0 ||
      (bit d.dst 3 && decide (246 < slice d.dst 29 16))
  let regions := d.tiles.map fun t => if t < 128 then s.tileRegion t else none
  [(1, !bit d.raw 255),
   (2, !(ss == 0 || ss == 1 || ss == 3) || !(ds == 0 || ds == 1 || ds == 2 || ds == 4) || (ss == 1 && ds == 1)),
   (3, reserved != 0 || !addrReservedZero ss d.src || !addrReservedZero ds d.dst || (d.syncB4 && ss != 3) ||
     (d.closes && ds != 2)),
   (4, d.len == 0), (5, srcBad), (6, dstBad),
   (7, regions.any fun r => r.isNone || r != regions.headD none),
   (8, d.waitEn && decide (767 < d.f 169 160))]

/-- The lowest REASON that applies. -/
def State.descFault (s : State) (d : Desc) : Option Nat :=
  ((s.descFaults d).find? fun x => x.2).map fun x => x.1

/-! ### Completion (R262, R263) -/

/-- Entries of a ring by its LOG2N field (R266). -/
def ringLen (log2n : Nat) : Nat := 2 ^ max 4 (min 12 log2n)

/-- BUSY and INFLIGHT follow the descriptors an engine holds; an ABORT is done when none of them is in flight (R262). -/
def State.showEng (s : State) (e : Nat) : State :=
  let n := (s.eng e).descs.length + (s.eng e).held.length
  let s1 := (s.wr (F.DMA_STAT_INFLIGHT e) n).wr (F.DMA_STAT_BUSY e) (b2n (n != 0))
  if (s.eng e).descs.isEmpty then s1.wr (F.DMA_CTRL_ABORT e) 0 else s1

/-- The 16 bytes of a completion entry (R263). -/
def Desc.entry (d : Desc) (status reason : Nat) : List Byte :=
  leBytes 16 (d.f 223 192 + 2 ^ 32 * d.done + 2 ^ 56 * status + 2 ^ 59 * reason + 2 ^ 64 * d.idx)

/-- Has the completion ring no room (R263)? -/
def State.cplFull (s : State) (e : Nat) : Bool :=
  let n := ringLen (s.rd (F.DMA_CPL_CFG_LOG2N e))
  (s.rd (F.DMA_CPL_HEAD_HEAD e) + 1) % n == s.rd (F.DMA_CPL_TAIL_TAIL e) % n

/-- Write a completion entry at CPL_HEAD, in host memory or HBM; elsewhere it is discarded under R23. -/
def State.writeEntry (s : State) (e : Nat) (bs : List Byte) : State :=
  let n := ringLen (s.rd (F.DMA_CPL_CFG_LOG2N e))
  let h := s.rd (F.DMA_CPL_HEAD_HEAD e) % n
  let a := 16 * s.rd (F.DMA_CPL_LO_BASE_LO e) + 2 ^ 32 * s.rd (F.DMA_CPL_HI_BASE_HI e) + 16 * h
  let s1 := if s.on (F.DMA_CTRL_CPL_HOST e) then s.hostWrite a bs
    else if inHbm a 16 then s.hbmWrite a bs else s.accessErr 3 true true a
  s1.wr (F.DMA_CPL_HEAD_HEAD e) ((h + 1) % n)

/-- A descriptor ended other than OK: counted, recorded, raised (R263). -/
def State.descError (s : State) (e : Nat) (d : Desc) (status reason : Nat) : State :=
  let s1 := (s.bump (F.DMA_ERR_CNT_COUNT e)).wr (F.DMA_STAT_ERR e) 1
  let s2 := if s1.on (F.DMA_LAST_ERR_VALID e) then s1
    else s1.setReg (0xa013c + 0x40 * (e % 16)) (BitVec.ofNat 32 (2 ^ 31 + 2 ^ 28 * status + 2 ^ 24 * reason + d.idx))
  s2.raise (Ev.DMA_ERR e)

/-- A completed descriptor leaves the engine with its completion entry. -/
def State.retire (s : State) (e : Nat) (d : Desc) (status reason : Nat) : State :=
  let s1 := (s.writeEntry e (d.entry status reason)).bump (F.DMA_DONE_CNT_COUNT e)
  let s2 := if status = 0 then s1 else s1.descError e d status reason
  (if bit d.raw 174 then s2.raise (Ev.DMA_DONE e) else s2).showEng e

/-- A descriptor completes: its entry is written, or it is held while the completion ring is full; with ERR_STOP an error
stops the engine (R262, R263). -/
def State.finish (s : State) (e : Nat) (d : Desc) (status reason : Nat) : State :=
  let s1 := s.setEng e { s.eng e with descs := (s.eng e).descs.filter fun x => x.slot != d.slot }
  let s2 := if status != 0 && s1.on (F.DMA_CTRL_ERR_STOP e) then s1.wr (F.DMA_STAT_STOPPED e) 1 else s1
  if s2.cplFull e || !(s2.eng e).held.isEmpty then
    (s2.setEng e { s2.eng e with held := (s2.eng e).held ++ [(d, status, reason)] }).showEng e
  else s2.retire e d status reason

/-- Completions held for room are written while there is room (R263). -/
def State.unhold (s : State) (e : Nat) : Nat → State
  | 0 => s
  | fuel + 1 =>
    match (s.eng e).held with
    | [] => s
    | h :: hs =>
      if s.cplFull e then s
      else ((s.setEng e { s.eng e with held := hs }).retire e h.1 h.2.1 h.2.2).unhold e fuel

/-! ### Descriptors in flight and their outstanding requests (R257, R262) -/

/-- Replace a descriptor of an engine. -/
def State.putDesc (s : State) (e : Nat) (d : Desc) : State :=
  s.setEng e { s.eng e with descs := (s.eng e).descs.map fun x => if x.slot == d.slot then d else x }

/-- The descriptor of engine `e` in a slot. -/
def State.desc? (s : State) (e slot : Nat) : Option Desc := (s.eng e).descs.find? fun d => d.slot == slot

/-- The lowest slot of engine `e` that no descriptor in flight has. -/
def State.freeDesc (s : State) (e : Nat) : Nat :=
  ((upTo 64).find? fun k => (s.eng e).descs.all fun d => d.slot != k).getD 0

/-- Requests to the user window that wait for port `k`. -/
def State.winQueue (s : State) (k : Nat) : List WinReq := Tab.get (fun _ => []) s.fab.queue k

/-- Put them. -/
def State.setWinQueue (s : State) (k : Nat) (l : List WinReq) : State :=
  s.withFab { s.fab with queue := Tab.set (fun _ => []) s.fab.queue k l }

/-- Is a window request one of the descriptor in slot `slot` of engine `e`? -/
def WinReq.isOf (r : WinReq) (e slot : Nat) : Bool :=
  match r.from_ with
  | some x => x.1 == e && x.2.1 == slot
  | none => false

/-- Take back the window requests of a descriptor that were not presented yet. -/
def State.dropAsked (s : State) (e : Nat) (d : Desc) : State :=
  forEach (upTo 8) (fun k s =>
    let mine := (s.winQueue k).filter fun r => r.isOf e d.slot
    match s.desc? e d.slot with
    | none => s
    | some x =>
      if mine.isEmpty then s
      else (s.putDesc e { x with open_ := x.open_ - mine.length }).setWinQueue k
        ((s.winQueue k).filter fun r => !r.isOf e d.slot)) s

/-- Is a gob-in write one of a descriptor? -/
def GobWrite.isOf (w : GobWrite) (e slot : Nat) : Bool :=
  match w with
  | .data _ _ by_ => (by_.map fun x => (x.eng, x.slot)) == some (e, slot)
  | .close _ by_ => (by_.map fun x => (x.eng, x.slot)) == some (e, slot)

/-- Has a descriptor requests without an answer: of the user window, reads of host memory, writes that a stack or a tile's gateway
holds, or posted writes that the link holds (R87, R261)? -/
def State.outstanding (s : State) (e : Nat) (d : Desc) : Bool :=
  d.open_ != 0 || (s.pcie.reads.any fun r => r.eng == e && r.slot == d.slot) ||
    (s.hbmHeld.any fun h => h.writer == some (.dma e d.slot)) ||
    (d.dspace == 2 && (gobTiles d.dst).any fun t => (s.tile t).waiting.any fun w => w.isOf e d.slot) ||
    (d.dspace == 1 && d.got != 0 && !s.pcie.posted.isEmpty)

/-- A descriptor that ends for a reason ends when nothing of it is outstanding (R262). -/
def State.settle (s : State) (e slot : Nat) : State :=
  match s.desc? e slot with
  | none => s
  | some d =>
    match d.ended with
    | some st => if s.outstanding e d then s else s.finish e d st 0
    | none => s

/-- A descriptor ends with a status once its outstanding requests have been answered; the first reason stands. -/
def State.endDesc (s : State) (e : Nat) (d : Desc) (status : Nat) : State :=
  let s1 := s.dropAsked e d
  match s1.desc? e d.slot with
  | none => s1
  | some x => (s1.putDesc e { x with ended := some (x.ended.getD status) }).settle e d.slot

/-- End every descriptor in flight that `p` selects with ABORTED, in ring order (R262, R271). -/
def State.abortDescs (s : State) (e : Nat) (p : Desc → Bool) : State :=
  forEach ((s.eng e).descs.filter p) (fun d s => s.endDesc e d 5) s

/-- Setting ABORT (R262): the field clears when the last descriptor has ended. -/
def State.abortEngine (s : State) (e : Nat) : State :=
  ((s.abortDescs e fun _ => true).wr (F.DMA_HEAD e) (s.rd (F.DMA_TAIL e))).showEng e

/-! ### Fetching (R257, R260) -/

/-- Does engine `e` run: EN, not stopped, no ABORT under way and no F1 containment (R262, R396)? -/
def State.engRuns (s : State) (e : Nat) : Bool :=
  s.on (F.DMA_CTRL_EN e) && !s.on (F.DMA_STAT_STOPPED e) && !s.on (F.DMA_CTRL_ABORT e) && !s.flt.f1

/-- Tags a read of host memory may take (R268). -/
def State.freeTag? (s : State) : Option Nat := (upTo 768).find? fun k => s.pcie.reads.all fun r => r.tag != k

/-- Read the ring entry at an address: the state, and the entry, or none for data that cannot be had (R257, R272). An entry
outside HBM reads as zeros under R23. -/
def State.readEntry (s : State) (e a : Nat) (host : HostData) : State × Option Nat :=
  if s.on (F.DMA_CTRL_DESC_HOST e) then
    let s1 := s.emit (.hostRead (s.freeTag?.getD 0) a 32)
    match host with
    | .ok bs => (s1, some (leNat (bs.take 32)))
    | .replayed bs => (s1.aerCor .replay, some (leNat (bs.take 32)))
    | .badEcrc bs => if s.pcie.ecrc.2 then (((s1.aerUncor .ecrc).aerUncor .timeout), none) else (s1, some (leNat (bs.take 32)))
    | .error => (s1, none)
    | .poisoned => (s1.aerUncor .poisoned, none)
    | .missing => (s1.aerUncor .timeout, none)
  else if inHbm a 32 then
    let x := s.hbmRead a 32
    (x.1, if x.2.1 then none else some (leNat x.2.2))
  else (s.accessErr 3 false true a, some 0)

/-- The descriptor at ring index `idx`, just fetched. -/
def newDesc (slot idx raw : Nat) : Desc :=
  { slot := slot, idx := idx, raw := raw, started := false, released := false, synced := false, asked := 0, got := 0,
    landed := [], wrote := [], done := 0, buf := [], open_ := 0, ended := none }

/-- The entry `raw` of the ring of engine `e` has arrived, or cannot be had, and HEAD passes it. -/
def State.takeEntry (s : State) (e idx : Nat) (raw : Option Nat) : State :=
  let s1 := s.wr (F.DMA_HEAD e) ((idx + 1) % ringLen (s.rd (F.DMA_RING_CFG_LOG2N e)))
  let d := newDesc (s1.freeDesc e) idx (raw.getD 0)
  match raw, s1.descFault d with
  | none, _ => s1.finish e d 2 0
  | some _, some r => s1.finish e d 1 r
  | some _, none => (s1.setEng e { s1.eng e with descs := (s1.eng e).descs ++ [d] }).showEng e

/-- The address of the ring entry at HEAD. -/
def State.entryAt (s : State) (e : Nat) : Nat :=
  32 * s.rd (F.DMA_RING_LO_BASE_LO e) + 2 ^ 32 * s.rd (F.DMA_RING_HI_BASE_HI e) +
    32 * (s.rd (F.DMA_HEAD e) % ringLen (s.rd (F.DMA_RING_CFG_LOG2N e)))

/-- Can a ring entry be fetched: one waits, the engine has room, and a read of host memory a tag (R16, R257)? -/
def State.canFetch (s : State) (e : Nat) : Bool :=
  let n := ringLen (s.rd (F.DMA_RING_CFG_LOG2N e))
  s.engRuns e && s.rd (F.DMA_HEAD e) % n != s.rd (F.DMA_TAIL e) % n &&
    decide ((s.eng e).descs.length + (s.eng e).held.length < 64) &&
    (!s.on (F.DMA_CTRL_DESC_HOST e) || (s.hostOpen && decide (s.pcie.reads.length < 768)))

/-- Does a fetch from host memory go without an answer for good: none comes, or one that ECRC checking drops, and the Completion Timeout
is disabled (R268, R272)? -/
def State.fetchHangs (s : State) (e : Nat) (host : HostData) : Bool :=
  s.on (F.DMA_CTRL_DESC_HOST e) && s.pcie.noTimeout &&
    match host with
    | .missing => true
    | .badEcrc _ => s.pcie.ecrc.2
    | _ => false

/-- Fetch and check the entry at HEAD. -/
def State.fetchEntry (s : State) (e : Nat) (host : HostData) : State :=
  let x := s.readEntry e (s.entryAt e) host
  x.1.takeEntry e (s.rd (F.DMA_HEAD e) % ringLen (s.rd (F.DMA_RING_CFG_LOG2N e))) x.2

/-- DESCRIPTOR_FETCH: the ring entry at HEAD arrives at engine `e` and is checked (R257, R260). A ring in HBM is read once
its stacks answer. -/
def execDescriptorFetch (e : Fin 16) (host : HostData) (up : Upsets) (s : State) : Answer :=
  act s fun s =>
    if !s.canFetch e || s.fetchHangs e host then s
    else if s.on (F.DMA_CTRL_DESC_HOST e) || !inHbm (s.entryAt e) 32 then s.fetchEntry e host
    else (s.upsets (upsetList up)).onceHbm (s.entryAt e) 32 fun s => s.fetchEntry e host

/-! ### The user window (R25, R235, R236) -/

/-- Does the window port of partition `k` take requests: the partition is released and not draining, and the bit-stream
enables the port (R25, R236, R237)? -/
def State.windowServes (s : State) (k : Nat) : Bool :=
  bit (s.rd F.CFG_FAB_STAT_RELEASED) k && !s.fab.draining.contains k && s.fab.winOn.contains k

/-- Cut a range into pieces that do not cross a boundary of `c` bytes: address and length. -/
def cutAt (c a : Nat) : Nat → Nat → List (Nat × Nat)
  | 0, _ => []
  | fuel + 1, n => if n = 0 then [] else (a, min n (c - a % c)) :: cutAt c (a + min n (c - a % c)) fuel
      (n - min n (c - a % c))

/-- The 64-byte pieces of a range. -/
def pieces (a n : Nat) : List (Nat × Nat) := cutAt 64 a (n / 64 + 2) n

/-- The partition of a user-window address. -/
def windowPart (a : Nat) : Nat := (a - 0x1000000000) / 2 ^ 27

/-- Does an address lie in the user window? -/
def inWindow (a : Nat) : Bool := decide (0x1000000000 ≤ a) && decide (a < 0x1040000000)

/-- Queue a request at its partition's window port. -/
def State.askWindow (s : State) (r : WinReq) : State :=
  s.setWinQueue (windowPart r.addr) (s.winQueue (windowPart r.addr) ++ [r])

/-- The byte enables of `n` bytes from an address within its 64-byte block. -/
def enables (a n : Nat) : Nat := (2 ^ n - 1) * 2 ^ (a % 64)

/-- The 64 bytes of a block with bytes put from an address on, 0 elsewhere. -/
def placed (a : Nat) (bs : List Byte) : List Byte :=
  (List.replicate (a % 64) 0 ++ bs ++ List.replicate 64 0).take 64

/-! ### Moving data (R259, R261, R262) -/

/-- The leading bytes that a list of written ranges covers from `n` on. -/
def leading (rs : List (Nat × Nat)) (n : Nat) : Nat → Nat
  | 0 => n
  | fuel + 1 =>
    match rs.find? fun r => decide (r.1 ≤ n) && decide (n < r.1 + r.2) with
    | some r => leading rs (r.1 + r.2) fuel
    | none => n

/-- A range of a descriptor's destination has been written. -/
def Desc.mark (d : Desc) (off n : Nat) : Desc :=
  let rs := d.wrote ++ [(off, n)]
  { d with wrote := rs, done := leading rs d.done rs.length }

/-- Write one piece of a user-window destination, `off` bytes into the data: it waits for its acknowledgement; a port that
does not serve drops it under R23. -/
def State.putPiece (e at_ off : Nat) (bs : List Byte) (p : Nat × Nat) (x : State × Desc) : State × Desc :=
  let o := off + (p.1 - at_)
  if x.1.windowServes (windowPart p.1) then
    (x.1.askWindow ⟨some (e, x.2.slot, o), true, p.1, enables p.1 p.2, placed p.1 ((bs.drop (p.1 - at_)).take p.2), false⟩,
      { x.2 with open_ := x.2.open_ + 1 })
  else (x.1.accessErr 3 true true p.1, x.2.mark o p.2)

/-- Write the pieces of a user-window destination. -/
def State.putWindow (s : State) (e : Nat) (d : Desc) (bs : List Byte) : State × Desc :=
  forEach (pieces (d.dst + d.got) bs.length) (State.putPiece e (d.dst + d.got) d.got bs) (s, d)

/-- Write the next bytes of a gob-in destination to every tile it names, one write for each 64-byte block (DESIGN CHOICE, log entry
172); with CLOSE bytes 0–7 are kept for the close, which follows the last byte (R259). -/
def State.putGob (s : State) (e : Nat) (d : Desc) (bs : List Byte) : State × Desc :=
  let ts := gobTiles d.dst
  let off := slice d.dst 10 0
  let skip := if d.closes then 8 - d.got else 0
  let d1 := { d with buf := if d.closes then d.buf ++ bs.take skip else d.buf }
  let body := bs.drop skip
  let at_ := max d.got (if d.closes then 8 else 0)
  let src := fun (o : Nat) => some (⟨e, d.slot, o⟩ : Source)
  let s1 := forEach ts (fun t s =>
    forEach (pieces (off + at_) body.length) (fun p s =>
      s.gobArrive t (.data p.1 ((body.drop (p.1 - (off + at_))).take p.2) (src (p.1 - off)))) s) s
  let d2 := if body.isEmpty then d1 else d1.mark at_ body.length
  if d.closes && d.got + bs.length == d.total then
    (forEach ts (fun t s => s.gobArrive t (.close (leNat (d2.buf.take 8)) (src 0))) s1, d2.mark 0 8)
  else (s1, d2)

/-- A frame of an Ethernet destination is sent when its last byte has come, if the port is in use (R273, R276). -/
def State.putFrame (s : State) (e : Nat) (d : Desc) (bs : List Byte) : State × Desc :=
  let d1 := { d with buf := d.buf ++ bs }
  if d1.buf.length = d.total && s.on (F.ETH_CTRL_EN (d.dst % 4)) then
    (s.ethSend (d.dst % 4) d.dst e d.idx d1.buf, d1.mark 0 d.total)
  else (s, d1)

/-- The next source bytes reach a descriptor's destination. -/
def State.dmaPut (s : State) (e : Nat) (d : Desc) (bs : List Byte) : State :=
  let x : State × Desc :=
    if d.dspace = 0 then
      if inWindow d.dst then s.putWindow e d bs else ((s.putFor [] (.dma e d.slot) (d.dst + d.got) bs .none).1, d.mark d.got bs.length)
    else if d.dspace = 1 then (s.hostWrite (d.dst + d.got) bs, d.mark d.got bs.length)
    else if d.dspace = 2 then s.putGob e d bs
    else s.putFrame e d bs
  x.1.putDesc e { x.2 with got := x.2.got + bs.length }

/-- Can no byte reach the destination any more: a fenced region answers FENCED, and the endpoint in D3hot cannot complete a
write to the host (R255, R262, R268)? The status it ends the descriptor with. -/
def State.refuses (s : State) (d : Desc) : Option Nat :=
  if d.tiles.any fun t => s.fencedTile t then some 4
  else if d.dspace = 1 && s.pcie.d3hot then some 2
  else if d.dspace = 4 && !s.on (F.ETH_CTRL_EN (d.dst % 4)) then some 4
  else none

/-- The pieces that have come in order reach the destination. -/
def State.flow (s : State) (e slot : Nat) : Nat → State
  | 0 => s
  | fuel + 1 =>
    match s.desc? e slot with
    | none => s
    | some d =>
      match if d.ended.isSome then none else d.landed.find? fun x => x.1 == d.got with
      | none => s
      | some x =>
        match s.refuses d with
        | some st => s.endDesc e d st
        | none => (s.dmaPut e { d with landed := d.landed.erase x } x.2).flow e slot fuel

/-- Source bytes of the descriptor in a slot have come, `off` bytes into its data. -/
def State.land_ (s : State) (e slot off : Nat) (bs : List Byte) : State :=
  match s.desc? e slot with
  | none => s
  | some d =>
    ((s.putDesc e { d with landed := d.landed ++ [(off, bs)] }).flow e slot (d.landed.length + 1)).settle e slot

/-- Move the blocks of an HBM source; a block with uncorrectable data ends the descriptor with DATA_ERR (R262). -/
def State.moveHbm (s : State) (e slot : Nat) : List (Nat × Nat) → State
  | [] => s
  | p :: ps =>
    match s.desc? e slot with
    | none => s
    | some d =>
      let x := s.hbmRead p.1 p.2
      if x.2.1 then x.1.endDesc e d 2 else (x.1.dmaPut e d x.2.2).moveHbm e slot ps

/-- Ask for one piece of a user-window source: it waits for the design's answer; a port that does not serve reads as zero
under R23 (R25, R261). -/
def State.askPiece (s : State) (e : Nat) (d : Desc) (p : Nat × Nat) : State :=
  match s.desc? e d.slot with
  | none => s
  | some x =>
    if s.windowServes (windowPart p.1) then
      (s.putDesc e { x with open_ := x.open_ + 1 }).askWindow
        ⟨some (e, d.slot, p.1 - d.src), false, p.1, enables p.1 p.2, [], false⟩
    else (s.accessErr 3 false true p.1).land_ e d.slot (p.1 - d.src) (List.replicate p.2 0)

/-- The bytes of a drain: for each tile its status word and then LEN bytes (R259). -/
def State.gobOutBytes (s : State) (d : Desc) : List Byte :=
  (gobTiles d.src).flatMap fun t =>
    leBytes 16 (s.tile t).status ++ Bytes.read s.gobOut (s.outDone t + slice d.src 10 0) d.len

/-! ### Host reads (R16, R261, R268, R272) -/

/-- The next descriptor of an engine with data of host memory to ask for. -/
def State.asker (s : State) (e : Nat) : Option Desc :=
  (s.eng e).descs.find? fun d => d.started && d.sspace == 1 && d.ended.isNone && decide (d.asked < d.len)

/-- Ask for the next piece of a descriptor's source, in requests of up to eight 64-byte flits and within the Maximum Read
Request Size (R261, R268). -/
def State.askHost (s : State) (e tag : Nat) (d : Desc) : State :=
  let a := d.src + d.asked
  let c := min 512 s.pcie.mrrs
  let n := min (d.len - d.asked) (c - a % c)
  ((s.putDesc e { d with asked := d.asked + n }).withPcie
    { s.pcie with reads := s.pcie.reads ++ [⟨tag, e, d.slot, d.asked, a, n⟩] }).emit (.hostRead tag a n)

/-- Reads of host memory are issued while tags are free, engine by engine (R16). -/
def State.askHosts (s : State) : Nat → State
  | 0 => s
  | fuel + 1 =>
    match (upTo 16).findSome? fun e => (s.asker e).map fun d => (e, d) with
    | none => s
    | some x =>
      match if s.hostOpen then s.freeTag? else none with
      | none => s
      | some tag => (s.askHost x.1 tag x.2).askHosts fuel

/-! ### Starting (R261, R262, R365) -/

/-- The sectors and stacks whose gateways a descriptor's requests reach: domains 0–17. -/
def Desc.domains (d : Desc) : List Nat :=
  (d.tiles.map fun t => t / 8).dedup ++
  (if d.sspace = 0 && !inWindow d.src then (stacksTouched d.src d.len).map fun c => 16 + c else []) ++
  (if d.dspace = 0 && !inWindow d.dst then (stacksTouched d.dst d.total).map fun c => 16 + c else [])

/-- Are the holds of a descriptor released (R261)? -/
def State.holdsDone (s : State) (e : Nat) (d : Desc) : Bool :=
  (!d.waitEn || d.released) && (!d.syncB4 || d.synced) &&
    (!d.fence || (((s.eng e).descs.head?).map fun x => x.slot) == some d.slot)

/-- The descriptor that engine `e` starts next: they start in ring order (R257). -/
def State.nextDesc (s : State) (e : Nat) : Option Desc := (s.eng e).descs.find? fun d => !d.started

/-- Must a domain's requests wait: a sleeping sector, or a stack that answers nothing yet (R141, R365)? -/
def State.domWaits (s : State) (c : Nat) : Bool :=
  if c < 16 then s.mustWait c else !s.stackDead (c - 16) && !s.stackServes (c - 16)

/-- Begin to move the data of a descriptor that has started: requests of host memory and of the user window go out. HBM and
gob-out sources are read when it completes, or when a drain is cut. -/
def State.beginMove (s : State) (e : Nat) (d : Desc) : State :=
  if d.sspace = 1 then s.askHosts 768
  else if d.sspace = 0 && inWindow d.src then
    forEach (pieces d.src d.len) (fun p s => s.askPiece e d p) (s.putDesc e { d with asked := d.len })
  else s

/-- DMA_DESCRIPTOR_START of engine `e` (R261–R263). A sleeping sector or stack is woken first and the start waits; a fenced
region, or an Ethernet port that is off, ends the descriptor with DOMAIN, a stack that failed its training with DATA_ERR. -/
def execDmaDescriptorStart (e : Fin 16) (s : State) : Answer :=
  act s fun s =>
    match s.nextDesc e with
    | none => s
    | some d =>
      if !s.engRuns e || s.cplFull e || !(s.eng e).held.isEmpty || !s.holdsDone e d then s
      else
        match s.refuses d with
        | some st => s.endDesc e d st
        | none =>
          if d.domains.any fun c => decide (16 ≤ c) && s.stackDead (c - 16) then s.endDesc e d 2
          else if d.domains.any fun c => s.domWaits c then
            forEach (d.domains.filter fun c => s.domWaits c) (fun c s => s.knock c) s
          else (s.putDesc e { d with started := true }).beginMove e { d with started := true }

/-- Move what a descriptor's source holds on the device: an HBM range or the gob-out sides of a drain. -/
def State.moveNow (s : State) (e : Nat) (d : Desc) : State :=
  if d.asked ≠ 0 || d.sspace = 1 then s
  else
    let s1 := s.putDesc e { d with asked := d.len }
    if d.sspace = 3 then s1.dmaPut e { d with asked := d.len } (s.gobOutBytes d) else s1.moveHbm e d.slot (pieces d.src d.len)

/-- Is every byte of a descriptor written and every write acknowledged or sent (R261)? -/
def State.descDone (s : State) (e : Nat) (d : Desc) : Bool :=
  d.done == d.total && d.ended.isNone && !s.outstanding e d

/-- Must a request of a descriptor to domain `c` wait? One that reads a gob-out side while the sector drains was admitted before its
power-down began (R366). -/
def State.descWaits (s : State) (d : Desc) (c : Nat) : Bool :=
  s.domWaits c && !(d.sspace == 3 && d.dspace != 2 && decide (c < 16) && !s.asleep c && !(s.dom c).isolated)

/-- DMA_DESCRIPTOR_COMPLETE of the descriptor in slot `k` of engine `e`: its data have moved (R261, R263); one that ends for another reason
completes once nothing of it is outstanding (R262). -/
def execDmaDescriptorComplete (e : Fin 16) (k : Fin 64) (up : Upsets) (s : State) : Answer :=
  act s fun s =>
    match s.desc? e k with
    | none => s
    | some d =>
      if d.ended.isSome then s.settle e k
      else if !d.started then s
      else if d.domains.any fun c => s.descWaits d c then
        forEach (d.domains.filter fun c => s.descWaits d c) (fun c s => s.knock c) s
      else
        match if d.done = d.total then none else s.refuses d with
        | some st => s.endDesc e d st
        | none =>
          let s1 := (s.upsets (upsetList up)).moveNow e d
          match s1.desc? e k with
          | none => s1
          | some d1 => if s1.descDone e d1 then s1.finish e d1 0 0 else s1

/-! ### Boundaries (R90, R261) -/

/-- The region a drain reads. -/
def State.drainRegion (s : State) (d : Desc) : Option Nat :=
  if d.sspace = 3 then s.tileRegion (slice d.src 17 11) else none

/-- Cut a drain that still runs: how many of its 64-byte flits were sent is not fixed, a free value (R90, R261). -/
def State.cutDesc (s : State) (n e : Nat) (d : Desc) : State :=
  let sent := 64 * (s.draw % ((d.total + 63) / 64))
  let d1 := { d with asked := d.len }
  let s1 := s.drawn.dmaPut e d1 ((s.gobOutBytes d).take sent)
  let s2 := forEach ((gobTiles d.src).drop (sent / (16 + d.len))) (fun t s => s.wr (F.MPU_GOB_STAT_CUT t) 1) s1
  (s2.endDesc e d1 3).raise (Ev.GAF n 5)

/-- At b4 of region `n` every drain of it that still runs is cut (R90). -/
def State.dmaCut (s : State) (n : Nat) : State :=
  forEach (upTo 16) (fun e s =>
    forEach ((s.eng e).descs.filter fun d => d.started && s.drainRegion d == some n && d.asked == 0 && d.ended.isNone)
      (fun d s => s.cutDesc n e d) s) s

/-- The b4 of region `n` releases each engine's next descriptor if it waits for it (R261). -/
def State.dmaSync (s : State) (n : Nat) : State :=
  forEach (upTo 16) (fun e s =>
    match s.nextDesc e with
    | some d => if d.syncB4 && s.drainRegion d == some n then s.putDesc e { d with synced := true } else s
    | none => s) s

/-! ### Host completions (R261, R272) -/

/-- The read of host memory that holds a tag. -/
def State.hostRead? (s : State) (tag : Nat) : Option HostRead := s.pcie.reads.find? fun r => r.tag == tag

/-- Put what is left of a read of host memory, or free its tag. -/
def State.setRead (s : State) (r : HostRead) : State :=
  s.withPcie { s.pcie with
    reads := if r.len = 0 then s.pcie.reads.filter fun x => x.tag != r.tag
      else s.pcie.reads.map fun x => if x.tag == r.tag then r else x }

/-- Data of a read of host memory arrive, all that it waits for or the first of it; freed tags take further reads. -/
def State.hostArrives (s : State) (r : HostRead) (data : List Byte) : State :=
  let bs := data.take r.len
  let s1 := s.setRead { r with off := r.off + bs.length, addr := r.addr + bs.length, len := r.len - bs.length }
  (if bs.isEmpty then s1 else s1.land_ r.eng r.slot r.off bs).askHosts 768

/-- A read of host memory fails: its descriptor ends with DATA_ERR (R262, R272). -/
def State.hostFails (s : State) (r : HostRead) : State :=
  let s1 := s.setRead { r with len := 0 }
  (match s1.desc? r.eng r.slot with
    | some d => s1.endDesc r.eng d 2
    | none => s1).askHosts 768

/-- HOST_COMPLETION of the read with tag `tag`: data of host memory arrive, or an error status or poison ends the descriptor
(R272). A completion that no read waits for is an error of its own, one whose ECRC does not agree is dropped
where it is checked, and none is COMPLETION_TIMEOUT's. -/
def execHostCompletion (tag : Fin 768) (st : HostData) (s : State) : Answer :=
  act s fun s =>
    match s.hostRead? tag, st with
    | none, .missing => s
    | none, _ => s.aerUncor .unexpected
    | some r, .ok data => s.hostArrives r data
    | some r, .replayed data => (s.aerCor .replay).hostArrives r data
    | some r, .badEcrc data => if s.pcie.ecrc.2 then s.aerUncor .ecrc else s.hostArrives r data
    | some r, .error => s.hostFails r
    | some r, .poisoned => (s.aerUncor .poisoned).hostFails r
    | some _, .missing => s

/-- COMPLETION_TIMEOUT of a read of host memory, unless the time-out is disabled (R268, R272). -/
def execCompletionTimeout (tag : Fin 768) (s : State) : Answer :=
  act s fun s =>
    match s.hostRead? tag with
    | none => s
    | some r => if s.pcie.noTimeout then s else (s.aerUncor .timeout).hostFails r

end Sys2Proof.Machine
end

