-- ==== Sys2Proof/Machine/Logic.lean ====
section
/-!
DEFINITION. The logic of the edge fabric (R217–R232): what its configuration words say, what every net carries, and what the
clock edges of a tick do to flip-flops, block memories and pins.
-/

namespace Sys2Proof.Machine

/-! ### Functions of one resource (R217–R229) -/

/-- The outputs YF and YH of a logic cell from its table and its six inputs, I0 in bit 0 (R217). -/
def cellOut (split : Bool) (tbl : BitVec 64) (i : Nat) : Bool × Bool :=
  if split then (tbl.getLsbD (32 + i % 32), tbl.getLsbD (i % 32)) else (tbl.getLsbD (i % 64), bit i 5)

/-- The block selectors BSEL, BSEL_L and BSEL_H of a block from the YF and DX of its eight cells (R219). -/
def bsel (yf dx : Nat) : Bool := bit yf (dx % 8)
/-- BSEL_L of a halved block. -/
def bselL (yf dx : Nat) : Bool := bit yf (dx % 4)
/-- BSEL_H of a halved block. -/
def bselH (yf dx : Nat) : Bool := bit yf (4 + slice dx 5 4)

/-- The column selector: the whole BSEL of this block, or of the block below, which reads 0 below the bottom (R219). -/
def csel (here : Bool) (below : Option Bool) (dx : Nat) : Bool := if bit dx 3 then below.getD false else here

/-- What a routing multiplexer drives: code 0 and codes above the number of inputs select constant 0 (R221). -/
def routeMux (ins : List Bool) (code : Nat) : Bool := if code = 0 then false else ins.getD (code - 1) false

/-- The bits of a routing multiplexer's select field (R221). -/
def selBits (ins : Nat) : Nat := Nat.clog 2 (ins + 1)

/-- Is the output of a regional tree of ratio `n`, 2 or more, high in the line period that begins at count `c` (R225)? -/
def treeHigh (n c : Nat) : Bool := decide (c % 720720 % n < n / 2)

/-- The new contents of a lane word at a write: the lanes whose write enable is set (R227). -/
def laneWrite (old new : List Nat) (we : Nat) : List Nat :=
  (List.range old.length).map fun i => if bit we i then new.getD i 0 else old.getD i 0

/-- What a port reads at an edge where it also writes: PRIOR the old word, THROUGH the new lanes (R228). -/
def rdwRead (through : Bool) (old new : List Nat) (we : Nat) : List Nat := if through then laneWrite old new we else old

/-- The lane that two ports of one clock both write takes the value of the port WPRI names (R229). -/
def wpri (b : Bool) (fromA fromB : Nat) : Nat := if b then fromB else fromA

/-! ### Places (R215, R216, R220) -/

/-- The partition of a clock region: each holds two. -/
def partOfRegion (r : Nat) : Nat := r / 2

/-- The clock region of a block: 48 rows of 32 blocks. -/
def regionOfBlock (b : Nat) : Nat := b / 1536

/-- The place of a block in the grid: row and column. -/
def blockPos (b : Nat) : Nat × Nat :=
  ((Config.regionAt (regionOfBlock b)).1 + b % 1536 / 32, (Config.regionAt (regionOfBlock b)).2 + b % 32)

/-- The partition of a block. -/
def partOfBlock (b : Nat) : Nat := partOfRegion (regionOfBlock b)

/-- The clock region of a block memory: each holds 72. -/
def regionOfBram (m : Nat) : Nat := m / 72
/-- The partition of a block memory. -/
def partOfBram (m : Nat) : Nat := partOfRegion (regionOfBram m)
/-- The partition of a pin: it holds two banks of 40, in partitions 0–5. -/
def partOfPin (p : Nat) : Nat := p / 80
/-- The clock region of a pin: one of its partition's two. -/
def regionOfPin (p : Nat) : Nat := 2 * partOfPin p + Config.pinRegion p % 2

/-- How far a block lies from another in a direction (0 N, 1 E, 2 S, 3 W), if it lies on that line; N rises in rows. -/
def distance (dir : Nat) (a b : Nat × Nat) : Option Nat :=
  match dir with
  | 0 => if a.2 = b.2 ∧ a.1 ≤ b.1 then some (b.1 - a.1) else none
  | 1 => if a.1 = b.1 ∧ a.2 ≤ b.2 then some (b.2 - a.2) else none
  | 2 => if a.2 = b.2 ∧ b.1 ≤ a.1 then some (a.1 - b.1) else none
  | _ => if a.1 = b.1 ∧ b.2 ≤ a.2 then some (a.2 - b.2) else none

/-- Blocks a wire of a kind runs, and the wires of the kind at each block and direction (R220). -/
def wireLen (kind : Nat) : Nat := [1, 2, 6, 16].getD kind 0
/-- Wires of a kind. -/
def wireCount (kind : Nat) : Nat := [8, 8, 8, 2, 4, 4].getD kind 0

/-- The row of a block for a horizontal long line, its column for a vertical one. -/
def longRow (kind b : Nat) : Nat := if kind = 4 then (blockPos b).1 else (blockPos b).2

/-- The blocks of partition `k` in a row, or in a column. -/
def longBlocks (kind k row : Nat) : List Nat :=
  ((upTo 3072).map fun i => 3072 * k + i).filter fun b => longRow kind b == row

/-- The block at which long line `i` of a row or column of partition `k` originates: one of its blocks (R220). -/
def longAt (kind k row i : Nat) : Nat :=
  (longBlocks kind k row).getD (Config.longOrigin kind k row i % (longBlocks kind k row).length) 0

/-- Does the fabric have this wire? -/
def Wire.exists_ (w : Wire) : Bool :=
  decide (w.block < 24576) && decide (w.idx < wireCount w.kind) && decide (w.dir < 4) &&
    (decide (w.kind < 4) || (w.dir == 0 && w.block == longAt w.kind (partOfBlock w.block) (longRow w.kind w.block) w.idx))

/-- Can a wire be read at a block: one that it passes (R220)? A long line runs its partition's width or height. -/
def Wire.reaches (w : Wire) (b : Nat) : Bool :=
  w.exists_ &&
    (if 4 ≤ w.kind then longRow w.kind w.block == longRow w.kind b && partOfBlock w.block == partOfBlock b
     else match distance w.dir (blockPos w.block) (blockPos b) with
      | some d => decide (1 ≤ d) && decide (d ≤ wireLen w.kind)
      | none => false)

/-- How far from its origin a wire may be entered (R220). -/
def entries (kind : Nat) : List Nat := if kind = 2 then [0, 3, 6] else if kind = 3 then [0, 8, 16] else [0]

/-- Does the multiplexer of a wire take a signal at a block: one at which the wire is entered? -/
def Wire.enteredAt (w : Wire) (b : Nat) : Bool :=
  match distance w.dir (blockPos w.block) (blockPos b) with
  | some d => (entries w.kind).contains d
  | none => false

/-- The blocks at which a multiplexer takes its inputs: does it at block `b`? -/
def Mux.takesAt (m : Mux) (b : Nat) : Bool :=
  match m with
  | .wire w => w.enteredAt b
  | .cellIn b' _ _ => b == b'
  | .dx b' _ => b == b'
  | .ce b' _ => b == b'
  | .cp b' _ => b == b'
  | m => b == Config.muxBlock m

/-- The partition of a multiplexer. -/
def Mux.part (m : Mux) : Nat :=
  match m with
  | .wire w => partOfBlock w.block
  | .cellIn b _ _ => partOfBlock b
  | .dx b _ => partOfBlock b
  | .ce b _ => partOfBlock b
  | .cp b _ => partOfBlock b
  | .treeEn r _ => partOfRegion r
  | .addr m _ _ => partOfBram m
  | .data m _ _ => partOfBram m
  | .we m _ _ => partOfBram m
  | .re m _ => partOfBram m
  | .pinOut p => partOfPin p
  | .pinOut2 p => partOfPin p
  | .pinOe p => partOfPin p
  | m => partOfBlock (Config.muxBlock m)

/-- The partition whose bit-stream sets an attribute. -/
def Item.part (x : Item) : Nat :=
  match x with
  | .tbl b _ => partOfBlock b
  | .split b _ => partOfBlock b
  | .ffD b _ _ => partOfBlock b
  | .ffCp b _ _ => partOfBlock b
  | .ffInit b _ _ => partOfBlock b
  | .setTree b _ => partOfBlock b
  | .setInv b _ => partOfBlock b
  | .bsplit b => partOfBlock b
  | .mux m => m.part
  | .iso w => partOfBlock w.block
  | .lineSrc g _ => (Mux.lineSel g).part
  | .lineFixed g => (Mux.lineSel g).part
  | .lineConst g => (Mux.lineSel g).part
  | .treeLine r _ => partOfRegion r
  | .treeDiv r _ => partOfRegion r
  | .treeGated r _ => partOfRegion r
  | .aspect m _ => partOfBram m
  | .through m _ => partOfBram m
  | .outReg m _ => partOfBram m
  | .portTree m _ => partOfBram m
  | .common m => partOfBram m
  | .wpriA m => partOfBram m
  | .given m => partOfBram m
  | .lane m _ => partOfBram m
  | .pinStd p => partOfPin p
  | .pinPull p => partOfPin p
  | .pinTree p => partOfPin p
  | .pinDdr p => partOfPin p
  | .pinOutReg p => partOfPin p
  | .pinOeReg p => partOfPin p
  | .pinInit p _ => partOfPin p
  | .pinAmps p => partOfPin p
  | .pinFast p => partOfPin p
  | .pairOut p => partOfPin p
  | .pairTerm p => partOfPin p
  | .window k => k
  | .winTree k => k
  | .trigTree k => k

/-! ### The configuration words (R221, R312) -/

/-- Bit `i` of the configuration words of partition `k`. -/
def Fab.cfgBit (f : Fab) (k i : Nat) : Bool := bit (Bytes.get f.words (k * 2 ^ 21 + i / 8)).toNat (i % 8)

/-- A field of `n` bits. -/
def Fab.cfgField (f : Fab) (k at_ n : Nat) : Nat :=
  (upTo n).foldl (fun v i => v + b2n (f.cfgBit k (at_ + i)) * 2 ^ i) 0

/-- The value of an attribute of `n` bits. -/
def Fab.item (f : Fab) (x : Item) (n : Nat) : Nat := f.cfgField x.part (Config.place x) n

/-- An attribute of one bit. -/
def Fab.flag (f : Fab) (x : Item) : Bool := f.item x 1 == 1

/-- Does a net reach a multiplexer: a wire where it can be read, the outputs of a block's cells, flip-flops and selectors at that
block, any other at the multiplexers of its own partition (R220)? No path but a wire joins two partitions (R222). -/
def Net.reaches (n : Net) (m : Mux) : Bool :=
  match n with
  | .wire w => (upTo 24576).any fun b => m.takesAt b && w.reaches b
  | .yf b _ => m.takesAt b && m.part == partOfBlock b
  | .yh b _ => m.takesAt b && m.part == partOfBlock b
  | .ff b _ _ => m.takesAt b && m.part == partOfBlock b
  | .bsel b => m.takesAt b && m.part == partOfBlock b
  | .bselL b => m.takesAt b && m.part == partOfBlock b
  | .bselH b => m.takesAt b && m.part == partOfBlock b
  | .csel b => m.takesAt b && m.part == partOfBlock b
  | .bram x _ _ => m.part == partOfBram x
  | .pin p => m.part == partOfPin p
  | .pinFf p _ => m.part == partOfPin p
  | .hard k _ => m.part == k

/-- The inputs of a multiplexer in code order: those of its nets that reach it. -/
def Mux.ins (m : Mux) : List Net := (Config.muxNets m).filter fun n => n.reaches m

/-- The select code of a multiplexer. -/
def Fab.code (f : Fab) (m : Mux) : Nat := f.item (.mux m) (selBits m.ins.length)

/-- A cell's table. -/
def Fab.tbl (f : Fab) (b c : Nat) : BitVec 64 := BitVec.ofNat 64 (f.item (.tbl b c) 64)

/-! ### What the nets carry (R217–R222, R230–R232) -/

/-- PLL5 as it runs (R375, R378, R379): N, FRAC and M, the divider and PHASE of each output, when the dividers restarted, and what
its phase is off by. -/
structure Pll5 where
  n : Nat
  frac : Nat
  m : Nat
  outs : List (Nat × Nat)
  start : Option Nat
  slip : Nat

/-- The level of PLL5's output `j` at a time: f_VCO / D from the restart on, delayed by PHASE/64 of a VCO period; low while it
relocks. In units of 1/(64 M) of a VCO period, 100 ps are N·M + FRAC of them. -/
def Pll5.level (x : Pll5) (j t : Nat) : Bool :=
  match x.start with
  | none => false
  | some t0 =>
    let o := x.outs.getD j (1, 0)
    let c := (t - t0) * (x.n * x.m + x.frac) + x.slip
    decide (t0 ≤ t) && decide (o.2 * x.m ≤ c) && decide ((c - o.2 * x.m) % (64 * x.m * o.1) * 2 < 64 * x.m * o.1)

/-- What a net is evaluated in: the fabric, the time in units of 100 ps, banks whose inputs read 0 (R232), and PLL5. -/
structure Live where
  fab : Fab
  now : Nat
  vccoOk : Nat
  pll : Pll5

/-- An I/O standard: its name, the VCCO of its outputs in mV, its highest rate in Mb/s, its drives in mA, has it two slews, is it
of a pair (R230). -/
structure IoStd where
  name : String
  vcco : List Nat
  rate : Nat
  drives : List Nat
  slews : Bool
  pair : Bool
  deriving DecidableEq, Repr

/-- The standards of R230, in the order of its table. -/
def ioStds : List IoStd :=
  [⟨"LVCMOS33", [3300], 200, [4, 8, 12, 16], true, false⟩, ⟨"LVTTL", [3300], 200, [4, 8, 12, 16], true, false⟩,
   ⟨"LVCMOS25", [2500], 300, [4, 8, 12, 16], false, false⟩, ⟨"LVCMOS18", [1800], 400, [4, 8, 12], false, false⟩,
   ⟨"LVCMOS15", [1500], 250, [4, 8], false, false⟩, ⟨"LVCMOS12", [1200], 250, [4, 8], false, false⟩,
   ⟨"LVDS", [1800, 2500], 1200, [], false, true⟩]

/-- The standard that the bit-stream sets for a pin; a pair's stands at its even pin. -/
def Fab.std (f : Fab) (p : Nat) : Option IoStd :=
  match ioStds[f.item (.pinStd (p / 2 * 2)) 3]? with
  | some x => if x.pair then some x else ioStds[f.item (.pinStd p) 3]?
  | none => ioStds[f.item (.pinStd p) 3]?

/-- Is a pin one of an LVDS pair? -/
def Fab.paired (f : Fab) (p : Nat) : Bool := ((f.std p).map fun x => x.pair).getD false

/-- A flip-flop's value: its initial value while the partition's global reset is held (R218). -/
def Fab.ff (f : Fab) (b c i : Nat) : Bool :=
  if f.rstOff.contains (partOfBlock b) then Tab.get (fun _ => false) f.ffs (b * 16 + c * 2 + i)
  else f.flag (.ffInit b c i)

/-- The level of a pin at a time as the fabric sees it: of a bank without its VCCO it is 0 (R232); a pair is one input, which its
odd pin shows inverted (R230). -/
def Live.pinAt (v : Live) (p t : Nat) : Bool :=
  bit v.vccoOk (p / 40) &&
    (if v.fab.paired p then Config.padLevel (p / 2 * 2) t != (p % 2 == 1) else Config.padLevel p t)

/-- The level of a pin now. -/
def Live.pin (v : Live) (p : Nat) : Bool := v.pinAt p v.now

/-- A flip-flop of a pin: its initial value while the partition's global reset is held (R218, R230, R338). -/
def Fab.pinFf (f : Fab) (p i : Nat) : Bool :=
  if f.rstOff.contains (partOfPin p) then Tab.get (fun _ => false) f.pinFfs (p * 8 + i) else f.flag (.pinInit p i)

/-- Signal `i` of the hard ports of partition `k`: 0 is TRIG_STB and 1–48 are TRIG_LINE while the trigger port presents a line (R234);
every other is opaque. -/
def Live.hard (v : Live) (k i : Nat) : Bool :=
  match v.fab.trig.find? fun x => x.1 == k with
  | some x => i == 0 || (if i ≤ 48 then bit x.2 (i - 1) else Config.hardLevel k i v.now)
  | none => i != 0 && Config.hardLevel k i v.now

/-- The word that a block memory's port shows (R228). -/
def Fab.portWord (f : Fab) (m port : Nat) : Nat :=
  Tab.get (fun _ => 0) f.portOut ((m * 2 + port) * 2 + b2n (f.flag (.outReg m port)))

/-- What a wire carries in partition `k`: in another than its own through an isolation cell, which passes it while the outputs of
the wire's partition are enabled, and otherwise holds its value (R222, R237). -/
def Live.across (v : Live) (k : Nat) (w : Wire) (driven : Bool) : Bool :=
  if partOfBlock w.block = k || v.fab.outOn.contains (partOfBlock w.block) then driven
  else ((v.fab.isoHeld.find? fun x => x.1 == w).map fun x => x.2).getD false

/-- The value of a net as partition `k` reads it; `fuel` bounds the depth of its logic. -/
def Live.net (v : Live) : Nat → Nat → Net → Bool
  | 0, _, _ => false
  | fuel + 1, k, n =>
    let mux := fun (m : Mux) => routeMux (m.ins.map fun n => v.net fuel m.part n) (v.fab.code m)
    let num := fun (g : Nat → Bool) (len : Nat) => (upTo len).foldl (fun a i => a + b2n (g i) * 2 ^ i) 0
    let yf := fun (b : Nat) => num (fun c => v.net fuel k (.yf b c)) 8
    let dx := fun (b : Nat) => num (fun c => mux (.dx b c)) 8
    match n with
    | .wire w => v.across k w (mux (.wire w))
    | .yf b c => (cellOut (v.fab.flag (.split b c)) (v.fab.tbl b c) (num (fun i => mux (.cellIn b c i)) 6)).1
    | .yh b c => (cellOut (v.fab.flag (.split b c)) (v.fab.tbl b c) (num (fun i => mux (.cellIn b c i)) 6)).2
    | .ff b c i => v.fab.ff b c i
    | .bsel b => !v.fab.flag (.bsplit b) && bsel (yf b) (dx b)
    | .bselL b => v.fab.flag (.bsplit b) && bselL (yf b) (dx b)
    | .bselH b => v.fab.flag (.bsplit b) && bselH (yf b) (dx b)
    | .csel b =>
      !v.fab.flag (.bsplit b) && csel (bsel (yf b) (dx b))
        (if b % 1536 < 32 || v.fab.flag (.bsplit (b - 32)) then none else some (bsel (yf (b - 32)) (dx (b - 32)))) (dx b)
    | .bram m port i => bit (v.fab.portWord m port) i
    | .pin p => v.pin p
    | .pinFf p i => v.fab.pinFf p i
    | .hard k i => v.hard k i

/-- The depth of logic that the fabric can hold: every net once. -/
def netDepth : Nat := 4000000

/-- What a multiplexer drives. -/
def Live.mux (v : Live) (m : Mux) : Bool := routeMux (m.ins.map fun n => v.net netDepth m.part n) (v.fab.code m)

/-- The number that a bundle of multiplexers spells. -/
def Live.bus (v : Live) (m : Nat → Mux) (n : Nat) : Nat := (upTo n).foldl (fun a i => a + b2n (v.mux (m i)) * 2 ^ i) 0

/-! ### Clocks (R223, R225) -/

/-- The sources of the global lines (R223). -/
inductive ClkSrc
  | zero
  | pll5 (i : Nat)
  | pins (bank pair : Nat)
  | gather (g : Nat)
  | tick (div : Nat)
  deriving DecidableEq, Repr

/-- The source a code names: 0 the constant 0, 1–4 PLL5, 5–28 the clock-capable pairs, 29–32 the gather word clocks, 33 and
34 the tick ÷ 2 and ÷ 4. -/
def clkSrc (code : Nat) : ClkSrc :=
  if 1 ≤ code ∧ code ≤ 4 then .pll5 (code - 1)
  else if 5 ≤ code ∧ code ≤ 28 then .pins ((code - 5) / 2) ((code - 5) % 2)
  else if 29 ≤ code ∧ code ≤ 32 then .gather (code - 29)
  else if code = 33 then .tick 2
  else if code = 34 then .tick 4
  else .zero

/-- The level of a source at a time. A clock-capable pair is pin 0 or pin 20 of its bank (R223). -/
def Live.srcLevel (v : Live) (code t : Nat) : Bool :=
  match clkSrc code with
  | .zero => false
  | .pll5 j => v.pll.level j t
  | .pins b q => v.pinAt (40 * b + 20 * q) t
  | .gather g => Config.wordClock g t
  | .tick d => decide (t % (16 * d) < 8 * d)

/-- Global line `g` as it stands. -/
def Fab.line (f : Fab) (g : Nat) : GLine := Tab.get (fun _ => GLine.init) f.lines g

/-- The source in force on line `g`: of the two that the bit-stream names, the one that its constant selects, or the one that its
multiplexer has taken (R223, R224). -/
def Fab.lineCode (f : Fab) (g : Nat) : Nat :=
  f.item (.lineSrc g (b2n (if f.flag (.lineFixed g) then f.flag (.lineConst g) else (f.line g).sel))) 6

/-- The level of line `g` at a time: its source's, and low while a switch holds it (R224). -/
def Live.lineLevel (v : Live) (g t : Nat) : Bool :=
  decide ((v.fab.line g).phase ≠ .joining) && v.srcLevel (v.fab.lineCode g) t

/-- Does line `g` rise in this half of a tick, and does it fall? No clock of the fabric runs faster than 600 MHz, so that a half of
0.8 ns shows one edge at most. -/
def Live.lineRises (v : Live) (g : Nat) : Bool := v.lineLevel g v.now && !v.lineLevel g (v.now - 8)
/-- Does it fall? -/
def Live.lineFalls (v : Live) (g : Nat) : Bool := !v.lineLevel g v.now && v.lineLevel g (v.now - 8)

/-- The line, the ratio and the count of its line's next edge of tree `t` of region `r`. -/
def Fab.tree (f : Fab) (r t : Nat) : Nat × Nat × Nat :=
  let g := f.item (.treeLine r t) 4
  (g, f.item (.treeDiv r t) 4 + 1, Tab.get (fun _ => 0) f.lineCnt g)

/-- Is a tree's output passed: ungated, or with its enable sampled high (R225)? -/
def Fab.treePasses (f : Fab) (r t : Nat) : Bool :=
  !f.flag (.treeGated r t) || Tab.get (fun _ => false) f.treeOn (r * 12 + t)

/-- Does tree `t` of region `r` rise in this half of a tick (R225)? -/
def Live.rises (v : Live) (r t : Nat) : Bool :=
  let x := v.fab.tree r t
  v.lineRises x.1 && x.2.2 % x.2.1 == 0 && v.fab.treePasses r t

/-- Does its divider fall (R225)? A tree of ratio 1 falls with its line. -/
def Live.dividerFalls (v : Live) (r t : Nat) : Bool :=
  let x := v.fab.tree r t
  if x.2.1 = 1 then v.lineFalls x.1 else v.lineRises x.1 && x.2.2 % x.2.1 == x.2.1 / 2

/-- Does the tree fall? -/
def Live.falls (v : Live) (r t : Nat) : Bool := v.dividerFalls r t && v.fab.treePasses r t

/-- Has tree `t` of region `r` been high since the last half tick (R225)? -/
def Live.treeLevel (v : Live) (r t : Nat) : Bool :=
  let x := v.fab.tree r t
  v.fab.treePasses r t && (if x.2.1 = 1 then v.lineLevel x.1 (v.now - 8) else treeHigh x.2.1 (x.2.2 + 720719))

/-- The clock region and the tree that a field of the bit-stream names for a hard port of partition `k`. -/
def Fab.portTree (f : Fab) (k : Nat) (x : Item) : Nat × Nat := (2 * k + f.item x 5 / 16, f.item x 5 % 16)

/-- Does the tree of a hard port of partition `k` rise (R234, R235)? -/
def Live.portRises (v : Live) (k : Nat) (x : Item) : Bool := v.rises (v.fab.portTree k x).1 (v.fab.portTree k x).2

/-! ### Flip-flops (R218) -/

/-- What a flip-flop's D input is: YF, YH or DX; for FF1 also I5 in split mode, and in cells 3 and 7 the block selectors. -/
def Live.dIn (v : Live) (b c i : Nat) : Bool :=
  let net := fun n => v.net netDepth (partOfBlock b) n
  match v.fab.item (.ffD b c i) 3 with
  | 0 => net (.yf b c)
  | 1 => net (.yh b c)
  | 2 => v.mux (.dx b c)
  | 3 => i == 1 && v.fab.flag (.split b c) && v.mux (.cellIn b c 5)
  | 4 => i == 1 && (if c = 3 then net (.bsel b) else c == 7 && net (.csel b))
  | _ => i == 1 && (if c = 3 then net (.bselL b) else c == 7 && net (.bselH b))

/-- A multiplexer that selects nothing: it is unrouted. -/
def Fab.unrouted (f : Fab) (m : Mux) : Bool := f.code m == 0

/-- The value of a flip-flop after this tick (R218): frozen while the write enable is low; CP acts whatever CE holds, with its
action 0 synchronous clear, 1 synchronous preset, 2 asynchronous clear, 3 asynchronous preset. -/
def Live.nextFf (v : Live) (b c i : Nat) : Bool :=
  let k := partOfBlock b
  let q := c / 2
  let old := v.fab.ff b c i
  let act := v.fab.item (.ffCp b c i) 2
  let tree := v.fab.item (.setTree b q) 4
  let edge := if v.fab.flag (.setInv b q) then v.falls (regionOfBlock b) tree else v.rises (regionOfBlock b) tree
  if !v.fab.rstOff.contains k || !v.fab.weOn.contains k then old
  else if v.mux (.cp b q) then if edge || decide (2 ≤ act) then act % 2 == 1 else old
  else if edge && (v.fab.unrouted (.ce b q) || v.mux (.ce b q)) then v.dIn b c i
  else old

/-! ### Block memories (R227–R229) -/

/-- A lane of a block memory. -/
def Fab.lane (f : Fab) (m i : Nat) : Nat := Tab.get (fun _ => 0) f.lanes (m * 4096 + i)

/-- Lanes of a word by its aspect: 0–2 are 32K × 1, 16K × 2 and 8K × 4 within a lane, 3–6 are 1, 2, 4 and 8 lanes. -/
def aspectLanes (a : Nat) : Nat := if a < 3 then 1 else 2 ^ (a - 3)

/-- Address bits of an aspect. -/
def aspectAddr (a : Nat) : Nat := [15, 14, 13, 12, 11, 10, 9].getD a 9

/-- The lane at which a word begins, and the bit of it in a narrow aspect. -/
def wordAt (a addr : Nat) : Nat × Nat :=
  if a < 3 then (addr * 2 ^ a / 8, addr * 2 ^ a % 8) else (addr * aspectLanes a, 0)

/-- What a port does at an edge. -/
structure PortOp where
  edge : Bool
  aspect : Nat
  addr : Nat
  re : Bool
  we : Nat
  data : Nat

/-- What port `p` (0 A, 1 B) of memory `m` does in this tick. In 512 × 72 port A writes and port B reads. -/
def Live.portOp (v : Live) (m p : Nat) : PortOp :=
  let a := v.fab.item (.aspect m p) 3
  let on := v.fab.weOn.contains (partOfBram m)
  { edge := v.rises (regionOfBram m) (v.fab.item (.portTree m p) 4)
    aspect := a
    addr := v.bus (.addr m p) (aspectAddr a)
    re := v.mux (.re m p) && !(a == 6 && p == 0)
    we := if on && !(a == 6 && p == 1) then v.bus (.we m p) (aspectLanes a) else 0
    data := v.bus (.data m p) (9 * aspectLanes a) }

/-- What an operation leaves in a lane that it writes, if it writes it. -/
def PortOp.writes (o : PortOp) (i old : Nat) : Option Nat :=
  let w := wordAt o.aspect o.addr
  if !o.edge || i < w.1 || w.1 + aspectLanes o.aspect ≤ i || !bit o.we (i - w.1) then none
  else if o.aspect < 3 then
    let n := 2 ^ o.aspect
    some (old - slice old (w.2 + n - 1) w.2 * 2 ^ w.2 + o.data % 2 ^ n * 2 ^ w.2)
  else some (slice o.data (9 * (i - w.1) + 8) (9 * (i - w.1)))

/-- A lane after this half of a tick. Where both ports write it, WPRI decides under a common clock; under independent clocks it holds
one of the two values, which is free for each lane (R229). -/
def Live.nextLane (v : Live) (free m i : Nat) : Nat :=
  let old := v.fab.lane m i
  match (v.portOp m 0).writes i old, (v.portOp m 1).writes i old with
  | none, none => old
  | some a, none => a
  | none, some b => b
  | some a, some b =>
    if v.fab.flag (.common m) then wpri (!v.fab.flag (.wpriA m)) a b
    else if bit (Config.freeValue free) (3 * (4096 * m + i)) then a else b

/-- A lane as port `p` reads it at its edge: its own write as RDW says; another port's write under independent clocks shows the
old or the new value, which is free for each lane and port (R228, R229). -/
def Live.readLane (v : Live) (free m p i : Nat) : Nat :=
  let old := v.fab.lane m i
  match (v.portOp m p).writes i old, (v.portOp m (1 - p)).writes i old with
  | some mine, _ => if v.fab.flag (.through m p) then mine else old
  | none, some other => if !v.fab.flag (.common m) && bit (Config.freeValue free) (3 * (4096 * m + i) + 1 + p) then other else old
  | none, none => old

/-- The word that port `p` reads at its edge. -/
def Live.readWord (v : Live) (free m p : Nat) : Nat :=
  let o := v.portOp m p
  let w := wordAt o.aspect o.addr
  if o.aspect < 3 then slice (v.readLane free m p w.1) (w.2 + 2 ^ o.aspect - 1) w.2
  else (upTo (aspectLanes o.aspect)).foldl (fun a j => a + v.readLane free m p (w.1 + j) % 512 * 2 ^ (9 * j)) 0

/-- What a port's read latch (`reg` false) or output register holds after this tick (R228). -/
def Live.nextOut (v : Live) (free m p : Nat) (reg : Bool) : Nat :=
  let at_ := fun (r : Bool) => Tab.get (fun _ => 0) v.fab.portOut ((m * 2 + p) * 2 + b2n r)
  let o := v.portOp m p
  if !o.edge then at_ reg else if reg then at_ false else if o.re then v.readWord free m p else at_ false

/-! ### Pins (R230, R231) -/

/-- The value of pin `p`'s flip-flop `i` after this half of a tick: 0 input, 1 input of the falling edge, 2 output, 3 output of the
falling edge, 4 output enable. As every flip-flop, it stands still before its partition is released (R338). -/
def Live.nextPinFf (v : Live) (p i : Nat) : Bool :=
  let t := v.fab.item (.pinTree p) 4
  let r := regionOfPin p
  let k := partOfPin p
  let edge := if i = 1 ∨ i = 3 then v.fab.flag (.pinDdr p) && v.falls r t else v.rises r t
  if !v.fab.rstOff.contains k || !v.fab.weOn.contains k || !edge then v.fab.pinFf p i
  else
    match i with
    | 0 => v.pin p
    | 1 => v.pin p
    | 2 => v.mux (.pinOut p)
    | 3 => v.mux (.pinOut2 p)
    | _ => v.mux (.pinOe p)

/-- The level that pin `p` is given and its output enable: registered or not, at double data rate one flip-flop while the tree is
high and the other while it is low. An LVDS pair is an output or an input, as the bit-stream says. -/
def Live.pinDrive (v : Live) (p : Nat) : Bool × Bool :=
  (if v.fab.flag (.pinOutReg p) then
      if v.fab.flag (.pinDdr p) && !v.treeLevel (regionOfPin p) (v.fab.item (.pinTree p) 4) then v.fab.pinFf p 3 else v.fab.pinFf p 2
    else v.mux (.pinOut p),
   if v.fab.paired p then v.fab.flag (.pairOut p)
   else if v.fab.flag (.pinOeReg p) then v.fab.pinFf p 4 else v.mux (.pinOe p))

/-- What a pin drives: its level and whether it drives. Both pins of an LVDS pair follow pin 2q, pin 2q + 1 inverted. -/
def Live.padDrive (v : Live) (p : Nat) : Bool × Bool :=
  if v.fab.paired p then
    let x := v.pinDrive (p / 2 * 2)
    (x.1 != (p % 2 == 1), x.2)
  else v.pinDrive p

/-- The drive of a pin in mA and its slew, where its standard has a choice (R230). -/
def Fab.strength (f : Fab) (p : Nat) : Option (Nat × Bool) :=
  match f.std p with
  | some x => x.drives[f.item (.pinAmps p) 2]?.map fun d => (d, x.slews && f.flag (.pinFast p))
  | none => none

/-- Does the bank's VCCO serve the standard of pin `p`: that of its outputs, any for an LVDS input (R230)? -/
def Fab.stdFits (f : Fab) (p : Nat) : Bool :=
  match f.std p with
  | some x => x.vcco.contains (Config.bankVcco (p / 40)) || (x.pair && !f.flag (.pairOut (p / 2 * 2)))
  | none => false

/-! ### One tick -/

/-- Entries of a table that do not read as `d`, from a function of the key. -/
def tabOf {α : Type} [DecidableEq α] (d : α) (n : Nat) (f : Nat → α) : Tab α :=
  (upTo n).filterMap fun i => if f i = d then none else some (i, f i)

/-- What the clock edges of a half of a tick make of the fabric: every flip-flop, lane, port and pin from the values before it; a
strobe ends at the next edge of its port's clock; `free` counts the free values of collisions. -/
def Live.half (v : Live) (free : Nat) : Fab :=
  { v.fab with
    ffs := tabOf false 393216 fun i => v.nextFf (i / 16) (i / 2 % 8) (i % 2)
    lanes := tabOf 0 4718592 fun i => v.nextLane free (i / 4096) (i % 4096)
    portOut := tabOf 0 4608 fun i => v.nextOut free (i / 4) (i / 2 % 2) (i % 2 == 1)
    pinFfs := tabOf false 3840 fun i => v.nextPinFf (i / 8) (i % 8)
    treeOn := tabOf false 192 fun i =>
      if v.dividerFalls (i / 12) (i % 12) then v.mux (.treeEn (i / 12) (i % 12)) else Tab.get (fun _ => false) v.fab.treeOn i
    lineCnt := tabOf 0 16 fun g =>
      (Tab.get (fun _ => 0) v.fab.lineCnt g + b2n (v.lineRises g)) % 720720
    trig := v.fab.trig.filter fun x => !v.portRises x.1 (.trigTree x.1)
    trigEdges := v.fab.trigEdges ++ ((upTo 8).filter fun k => v.portRises k (.trigTree k)).map fun k => (k, v.now)
    winEdges := v.fab.winEdges ++ (upTo 8).filter fun k => v.portRises k (.winTree k) }

/-- One tick of 1.6 ns: its two halves of 0.8 ns. -/
def Live.tick (v : Live) (free : Nat) : Fab :=
  let f := { v with fab := { v.fab with trigEdges := [], winEdges := [] } }.half free
  { v with fab := f, now := v.now + 8 }.half (free + 1)

/-- The counts of the lines that PLL5 feeds start again at its lock (R225). -/
def Fab.restartCounts (f : Fab) : Fab :=
  { f with lineCnt := f.lineCnt.filter fun e => !(decide (1 ≤ f.lineCode e.1) && decide (f.lineCode e.1 ≤ 4)) }

/-! ### Loading and releasing (R218, R227, R237) -/

/-- The initial values of the flip-flops of partitions `ks`, whose global reset is released. -/
def Fab.initFfs (f : Fab) (ks : List Nat) : Tab Bool :=
  tabOf false 393216 fun i =>
    if ks.contains (partOfBlock (i / 16)) then f.flag (.ffInit (i / 16) (i / 2 % 8) (i % 2))
    else Tab.get (fun _ => false) f.ffs i

/-- The same of the flip-flops of their pins. -/
def Fab.initPinFfs (f : Fab) (ks : List Nat) : Tab Bool :=
  tabOf false 3840 fun i =>
    if ks.contains (partOfPin (i / 8)) then f.flag (.pinInit (i / 8) (i % 8)) else Tab.get (fun _ => false) f.pinFfs i

/-- The lanes after a load of partitions `ks`: those that the bit-stream gives; the others are loaded with 0 by a full load and
keep their contents when a partition is reprogrammed (R227, R237). -/
def Fab.loadLanes (f : Fab) (ks : List Nat) (full : Bool) : Tab Nat :=
  tabOf 0 4718592 fun i =>
    let m := i / 4096
    if !ks.contains (partOfBram m) then Tab.get (fun _ => 0) f.lanes i
    else if f.flag (.given m) then f.item (.lane m (i % 4096)) 9
    else if full then 0 else Tab.get (fun _ => 0) f.lanes i

/-- The fabric after the frames of partitions `ks` have been written: block memories loaded, window ports as the bit-stream
sets them (R227, R235, R237). -/
def Fab.loaded (f : Fab) (ks : List Nat) (full : Bool) : Fab :=
  { f with
    lanes := f.loadLanes ks full
    winOn := (upTo 8).filter fun k => if ks.contains k then f.flag (.window k) else f.winOn.contains k }

/-- The level and enable of pins that bank `b` holds through its partition's reprogramming, and what isolation cells hold. -/
def Live.heldPins (v : Live) (hold : Nat) (k : Nat) : Tab (Bool × Bool) :=
  (upTo 480).filterMap fun p =>
    if partOfPin p = k then if bit hold (p / 40) then some (p, v.padDrive p) else none
    else (v.fab.pinHeld.find? fun e => e.1 == p)

/-- The wires that originate in partition `k`, but for the long lines, which do not leave it. -/
def wiresOf (k : Nat) : List Wire :=
  (upTo 3072).flatMap fun i => (upTo 4).flatMap fun kind => (upTo 4).flatMap fun dir =>
    (upTo (wireCount kind)).map fun idx => ⟨3072 * k + i, kind, dir, idx⟩

/-- Does a wire cross its partition's boundary: can it be read at a block of another (R220, R222)? -/
def Wire.crosses (w : Wire) : Bool := (upTo 24576).any fun b => partOfBlock b != partOfBlock w.block && w.reaches b

/-- What the isolation cell of a wire holds from now on: 0, 1 or the last value, as the bit-stream sets for it (R237). -/
def Live.isoValue (v : Live) (w : Wire) : Bool :=
  match v.fab.item (.iso w) 2 with
  | 0 => false
  | 1 => true
  | _ => v.net netDepth (partOfBlock w.block) (.wire w)

/-- What the cells of the wires that leave partition `k` hold; a wire that is not listed holds 0 (R222, R237). -/
def Live.heldWires (v : Live) (k : Nat) : List (Wire × Bool) :=
  (v.fab.isoHeld.filter fun x => partOfBlock x.1.block != k) ++
    (if v.fab.words.isEmpty then [] else ((wiresOf k).filter fun w => v.isoValue w && w.crosses).map fun w => (w, true))

/-- The live contents at configuration word `w` of partition `k` as a number (R432). -/
def Fab.liveAt (f : Fab) (k w : Nat) : Nat :=
  (Config.liveBits k w).foldr (fun x a => 2 * a + b2n (match x with
    | .ff b c i => f.ff b c i
    | .lane m i j => bit (f.lane m i) j)) 0

end Sys2Proof.Machine
end

