-- ==== Sys2Proof/Machine/Fabric.lean ====
section
/-!
DEFINITION. The edge fabric as the rest of the device sees it (R223–R240): glitch-free global lines, I/O supplies and pins,
the user window, the clock edges of a tick, and the steps of reprogramming a partition.
-/

namespace Sys2Proof.Machine

/-- PLL5 as it runs: with the settings last applied, or those of the table of R381 (R375, R379). -/
def State.pll5 (s : State) : Pll5 :=
  let w := fun i d => (s.pwr.pll5.getD i d).toNat
  { n := slice (w 0 0x4c0000) 22 16, frac := slice (w 1 4) 23 0
    m := if slice (w 2 5) 23 0 = 0 then 2 ^ 24 else slice (w 2 5) 23 0
    outs := [w 3 20, w 4 24, w 5 40, w 6 48].map fun o => (slice o 7 0, slice o 29 16)
    start := s.pwr.pll5At, slip := s.pwr.pll5Slip }

/-- What the nets of the fabric are evaluated in, as the device stands. -/
def State.fabLive (s : State) : Live :=
  { fab := s.fab, now := s.real, vccoOk := s.rd F.CFG_IO_STAT_VCCO_OK, pll := s.pll5 }

/-! ### Global lines (R224) -/

/-- Global line `g`. -/
def State.gline (s : State) (g : Nat) : GLine := Tab.get (fun _ => GLine.init) s.fab.lines g

/-- Put global line `g`; PENDING shows that it waits for its new clock. -/
def State.setGline (s : State) (g : Nat) (x : GLine) : State :=
  let s1 := (s.withFab { s.fab with lines := Tab.set (fun _ => GLine.init) s.fab.lines g x })
  s1.wr F.CFG_CLK_STAT_PENDING (setBitTo (s1.rd F.CFG_CLK_STAT_PENDING) g (decide (x.phase = .joining)))

/-- A select that differs from the source in force starts a change: steps 1 and 2 wait for the old clock's edges. -/
def GLine.leave (x : GLine) (oldRuns : Bool) : GLine :=
  if x.want = x.sel then { x with phase := .steady }
  else { x with phase := if oldRuns then .joining else .leaving }

/-- GLOBAL_LINE_SWITCH: the fabric signal that selects the source of line `g` has changed to `sel`; where the bit-stream chose a
constant there is none (R223), and where the signal carries another level nothing has changed. A change back before step 2 completes
cancels the switch; one after it starts a switch of its own when this one has ended (R224). -/
def execGlobalLineSwitch (g : Fin 16) (sel oldRuns : Bool) (s : State) : Answer :=
  act s fun s =>
    if s.fab.flag (.lineFixed g) || s.fabLive.mux (.lineSel g) != sel then s
    else
      let x := { s.gline g with want := sel }
      s.setGline g (if x.phase = .joining then x else x.leave oldRuns)

/-- CLOCK_STUCK: the old clock of a line under change has shown no edge for 1 µs (R224). -/
def execClockStuck (g : Fin 16) (s : State) : Answer :=
  act s fun s =>
    if (s.gline g).phase = .leaving then
      let s1 := s.setGline g { s.gline g with phase := .joining }
      (s1.wr F.CFG_CLK_STAT_STUCK (setBitTo (s1.rd F.CFG_CLK_STAT_STUCK) g true)).raise Ev.CFG_CLK_STUCK
    else s

/-- NEW_CLOCK_ARRIVAL: the new source of a line shows its edges and the line resumes (R224). -/
def execNewClockArrival (g : Fin 16) (s : State) : Answer :=
  act s fun s =>
    if (s.gline g).phase = .joining then
      s.setGline g ({ s.gline g with sel := !(s.gline g).sel }.leave true)
    else s

/-! ### I/O supplies (R232) -/

/-- VCCO_CHANGE of bank `b`: VCCO_OK follows it, and CFG_IO_VCCO is raised. -/
def execVccoChange (b : Fin 12) (good : Bool) (s : State) : Answer :=
  act s fun s =>
    if bit (s.rd F.CFG_IO_STAT_VCCO_OK) b = good then s
    else (s.wr F.CFG_IO_STAT_VCCO_OK (setBitTo (s.rd F.CFG_IO_STAT_VCCO_OK) b good)).raise Ev.CFG_IO_VCCO

/-- Is the device unpowered or in reset (R232, R337)? -/
def State.pinsOff (s : State) : Bool := !s.spineOn || s.start.inReset || s.fab.supplyLost

/-- Are the pins of bank `b` high-impedance (R231, R232, R237, R337, R431)? A bank's partition is b / 2. -/
def State.bankHiZ (s : State) (b : Nat) : Bool :=
  s.pinsOff || !bit (s.rd F.CFG_IO_STAT_VCCO_OK) b ||
    (!s.fab.outOn.contains (b / 2) &&
      !(bit (s.rd F.CFG_FAB_STAT_ISOLATED) (b / 2) && bit (s.rd F.CFG_IO_REPROG_HOLD) b))

/-- Is pin `p` held by CFG_IO_REPROG through the reprogramming of its partition (R237)? -/
def State.pinHeldAt (s : State) (p : Nat) : Option (Bool × Bool) :=
  if s.fab.outOn.contains (partOfPin p) then none else (s.fab.pinHeld.find? fun e => e.1 == p).map fun e => e.2

/-- What user pin `p` drives, if it drives (R230–R232, R237). -/
def State.pinDrives (s : State) (p : Nat) : Option Bool :=
  if s.bankHiZ (p / 40) then none
  else
    match s.pinHeldAt p with
    | some h => if h.2 then some h.1 else none
    | none => if (s.fabLive.padDrive p).2 && s.fab.stdFits p then some (s.fabLive.padDrive p).1 else none

/-- Is the internal 100 Ω termination of pin `p`'s pair on: of an LVDS input that asks for it (R230)? -/
def State.pinTerminated (s : State) (p : Nat) : Bool :=
  !s.bankHiZ (p / 40) && s.fab.paired p && !s.fab.flag (.pairOut (p / 2 * 2)) && s.fab.flag (.pairTerm (p / 2 * 2))

/-- The pull in effect on user pin `p`: 0 pull-down, 1 pull-up, 2 keeper, 3 none (R231, R232). It is disconnected while the
bank's VCCO or the core supply is below its threshold and in a reset, and acts while the output is disabled (R337). -/
def State.pinPull (s : State) (p : Nat) : Nat :=
  if s.pinsOff || !bit (s.rd F.CFG_IO_STAT_VCCO_OK) (p / 40) then 3
  else if (s.pinDrives p).isSome then 3
  else if s.fab.outOn.contains (partOfPin p) then s.fab.item (.pinPull p) 2
  else slice (s.rd F.CFG_IO_PULL_PULL) (2 * (p / 40) + 1) (2 * (p / 40))

/-- The clock edges of one tick of the fabric: nothing moves before a bit-stream is loaded. -/
def State.tickFab (s : State) : State :=
  if s.fab.words.isEmpty then s else (s.withFab (s.fabLive.tick s.free)).drawn.drawn

/-! ### The user window (R235, R236) -/

/-- Requests presented on port `k` and not answered. -/
def State.winOpen (s : State) (k : Nat) : List WinReq := Tab.get (fun _ => []) s.fab.open_ k

/-- Put them. -/
def State.setWinOpen (s : State) (k : Nat) (l : List WinReq) : State :=
  s.withFab { s.fab with open_ := Tab.set (fun _ => []) s.fab.open_ k l }

/-- The request is presented to the design: its offset in the slice is 64-byte aligned. -/
def State.present (s : State) (k : Nat) (r : WinReq) : State :=
  (s.setWinOpen k (s.winOpen k ++ [r])).emit (.window k r.write (r.addr % 2 ^ 27 / 64 * 64) r.be r.data)

/-- The bytes of 64 that a request's byte enables name. -/
def WinReq.pick (r : WinReq) (bs : List Byte) : List Byte :=
  (bitsOf 64 r.be).map fun i => bs.getD i 0

/-- A request of DMA ends with the 64 bytes of its block: read data land at their place `off` in the descriptor's data, a
write is acknowledged. -/
def State.dmaWinDone (s : State) (r : WinReq) (e slot off : Nat) (bs : List Byte) : State :=
  match s.desc? e slot with
  | none => s
  | some d =>
    let d1 := { d with open_ := d.open_ - 1 }
    if r.write then (s.putDesc e (d1.mark off (bitsOf 64 r.be).length)).settle e slot
    else (s.putDesc e d1).land_ e slot off (r.pick bs)

/-- A request ends: for DMA, or as an answer to the management core. -/
def State.winDone (s : State) (k : Nat) (r : WinReq) (bs : List Byte) : State :=
  match r.from_ with
  | some x => s.dmaWinDone r x.1 x.2.1 x.2.2 bs
  | none => s.emit (.windowAnswer k (if r.write then [] else bs))

/-- A request of the management core (R22, R235). -/
def coreReq (k block : Nat) (w : Option (BitVec 64 × BitVec 512)) : WinReq :=
  { from_ := none, write := w.isSome, addr := 0x1000000000 + k * 2 ^ 27 + 64 * block,
    be := match w with | some x => x.1.toNat | none => 2 ^ 64 - 1,
    data := match w with | some x => leBytes 64 x.2.toNat | none => []
    late := false }

/-- The path code of a request's source in an access record: the management core, or an on-chip requester. -/
def WinReq.path (r : WinReq) : Nat := if r.from_.isSome then 3 else 1

/-- A request that port `k` does not take ends under R23: zero data, or the write dropped. -/
def State.winRefuse (s : State) (k : Nat) (r : WinReq) : State :=
  (s.accessErr r.path r.write true r.addr).winDone k r (List.replicate 64 0)

/-- Requests presented on port `k` that have not timed out. -/
def State.winLive (s : State) (k : Nat) : List WinReq := (s.winOpen k).filter fun r => !r.late

/-- The port takes the first request that waits, if it serves, fewer than 16 are outstanding, and the tree that the bit-stream names
for its clock has risen in the last tick (R235, R236). -/
def State.serveWindow (s : State) (k : Nat) : State :=
  match s.winQueue k with
  | [] => s
  | r :: rs =>
    if !s.windowServes k then (s.setWinQueue k rs).winRefuse k r
    else if (s.winLive k).length < 16 && s.fab.winEdges.contains k then (s.setWinQueue k rs).present k r
    else s

/-- WINDOW_PORT_REQUEST: a request of the management core joins those that wait at partition `k`'s port, which takes the
first of them (R235). -/
def execWindowPortRequest (k : Fin 8) (core : Option (BitVec 21 × Option (BitVec 64 × BitVec 512))) (s : State) : Answer :=
  act s fun s =>
    match core with
    | some c => (s.setWinQueue k (s.winQueue k ++ [coreReq k c.1.toNat c.2])).serveWindow k
    | none => s.serveWindow k

/-! ### Reprogramming a partition (R237) -/

/-- Set or clear bit `k` of RELEASED. -/
def State.setReleased (s : State) (k : Nat) (b : Bool) : State :=
  s.wr F.CFG_FAB_STAT_RELEASED (setBitTo (s.rd F.CFG_FAB_STAT_RELEASED) k b)

/-- Set or clear bit `k` of ISOLATED. -/
def State.setIsolated (s : State) (k : Nat) (b : Bool) : State :=
  s.wr F.CFG_FAB_STAT_ISOLATED (setBitTo (s.rd F.CFG_FAB_STAT_ISOLATED) k b)

/-- Strobes that partition `k` will not present are counted (R234, R238). -/
def State.dropStrobes (s : State) (k : Nat) : State :=
  (s.withStrobes (s.strobes.filter fun (x : Nat × Nat × Nat) => x.1 != k)).bumpBy F.CFG_TRIG_DROP_CNT_COUNT
    (s.strobes.filter fun (x : Nat × Nat × Nat) => x.1 == k).length

/-- Window requests of partition `k` that were not presented end under R23 (R236, R237). -/
def State.flushQueue (s : State) (k : Nat) : State :=
  forEach (s.winQueue k) (fun r s => s.winRefuse k r) (s.setWinQueue k [])

/-- The partition's outputs, write enable and reset as held (R237, R339). -/
def State.holdPart (s : State) (k : Nat) : State :=
  s.withFab { s.fab with
             outOn := s.fab.outOn.filter fun x => x != k
             weOn := s.fab.weOn.filter fun x => x != k
             rstOff := s.fab.rstOff.filter fun x => x != k }

/-- What isolation cells and held pins of partition `k` keep is latched; its trigger port stops presenting (R222, R237). -/
def State.latchEdges (s : State) (k : Nat) : State :=
  s.withFab { s.fab with
             isoHeld := s.fabLive.heldWires k
             pinHeld := s.fabLive.heldPins (s.rd F.CFG_IO_REPROG_HOLD) k
             draining := s.fab.draining.filter fun x => x != k
             trig := s.fab.trig.filter fun x => x.1 != k }

/-- Steps 2 to 4 of R237 on partition `k`: isolate, pins, hold. -/
def State.isolatePart (s : State) (k : Nat) : State :=
  (((((s.latchEdges k).setReleased k false).setIsolated k true).setWinOpen k []).dropStrobes k).holdPart k

/-- Is partition `k` the target of the commit or reload in progress? -/
def State.jobPart (s : State) (k : Nat) : Bool :=
  match s.ldr.job with
  | some j => j.kind == 2 && j.target == k
  | none => false

/-- A partition that drains to be reprogrammed is isolated once no request presented on its port is open (R237). -/
def State.tryIsolate (s : State) (k : Nat) : State :=
  if s.fab.draining.contains k && s.jobPart k && (s.winLive k).isEmpty then s.isolatePart k else s

/-- Step 1 of R237 on partition `k`: its window port stops accepting requests, and those presented complete or time out. -/
def State.drainPart (s : State) (k : Nat) : State :=
  ((s.withFab { s.fab with draining := k :: s.fab.draining.filter fun x => x != k }).flushQueue k).tryIsolate k

/-- Does a partition hold requests presented and not answered, for which a full load waits? -/
def State.windowsOpen (s : State) : Bool := (upTo 8).any fun k => !(s.winLive k).isEmpty

/-- The window ports of the partitions that drained without being isolated accept requests again. -/
def State.undrain (s : State) : State := s.withFab { s.fab with draining := [] }

/-- WINDOW_PORT_ANSWER: the design answers the oldest request presented (R235). The answer of a request that has timed out is
discarded (R236). -/
def execWindowPortAnswer (k : Fin 8) (data : BitVec 512) (s : State) : Answer :=
  act s fun s =>
    match s.winOpen k with
    | [] => s
    | r :: rs =>
      let s1 := s.setWinOpen k rs
      if r.late then s1 else (s1.winDone k r (leBytes 64 data.toNat)).tryIsolate k

/-- The oldest request presented that has not timed out is marked so. -/
def markLate : List WinReq → List WinReq
  | [] => []
  | r :: rs => if r.late then r :: markLate rs else { r with late := true } :: rs

/-- A request of port `k` ends without an answer: zero data, or the write dropped; it is counted, and CFG_WIN_TIMEOUT raised (R236). -/
def State.winTimedOut (s : State) (k : Nat) (r : WinReq) : State :=
  ((((s.winDone k r (List.replicate 64 0)).bump F.CFG_WIN_TO_CNT_COUNT).wr F.CFG_WIN_STAT_TIMEOUT 1).raise Ev.CFG_WIN_TIMEOUT).tryIsolate k

/-- WINDOW_TIMEOUT: the oldest request has had no answer for TIMEOUT µs: one presented, or, with none, one that waits for a clock of
the port that does not run (R236). -/
def execWindowTimeout (k : Fin 8) (s : State) : Answer :=
  act s fun s =>
    match (s.winLive k).head?, s.winQueue k with
    | some r, _ => (s.setWinOpen k (markLate (s.winOpen k))).winTimedOut k r
    | none, r :: rs => (s.setWinQueue k rs).winTimedOut k r
    | none, [] => s

end Sys2Proof.Machine
end

