-- ==== Sys2Proof/Machine/Host.lean ====
section
/-!
DEFINITION. The PCIe endpoint (R268–R272, R284) and the command mailbox's queue (R279–R281).
-/

namespace Sys2Proof.Machine

/-! ### Readiness and link (R270, R271, R289) -/

/-- PCIE_PERST_DEASSERT: the endpoint starts training (R270). -/
def execPciePerstDeassert (s : State) : Answer :=
  actPcie s fun s => s.withPcie { s.pcie with perst := false }

/-- The link is in L0 at a speed and width: posted writes that waited go out, reads of host memory are issued, and
PCI_LINK_CHG is raised (R271, R289). -/
def State.linkUp (s : State) (speed width : Nat) : State :=
  let s1 := ((s.wr F.PCI_STAT_L0 1).wr F.PCI_STAT_SPEED speed).wr F.PCI_STAT_WIDTH width
  (s1.sendPosted.askHosts 768).raise Ev.PCI_LINK_CHG

/-- PCIE_READY: configuration requests are answered normally from now on, with the link in L0 at Gen 1–5 and 1 to 16 lanes
(R268, R270). -/
def execPcieReady (speed width : Fin 5) (s : State) : Answer :=
  actPcie s fun s =>
    if s.pcie.perst || s.on F.PCI_STAT_READY then s
    else
      let s1 := s.wr F.PCI_STAT_READY 1
      if s1.on F.PCI_STAT_L0 then s1 else s1.linkUp (speed + 1) (2 ^ width.val)

/-- PCIE_LINK_UP: the link returns to L0 (R289). -/
def execPcieLinkUp (speed width : Fin 5) (s : State) : Answer :=
  actPcie s fun s => if s.pcie.perst || s.on F.PCI_STAT_L0 then s else s.linkUp (speed + 1) (2 ^ width.val)

/-! ### Resets of the PCIe domain (R271) -/

/-- Does a descriptor of engine `e` touch host memory: source, destination, descriptor ring or completion ring? -/
def State.touchesHost (s : State) (e : Nat) (d : Desc) : Bool :=
  d.sspace == 1 || d.dspace == 1 || s.on (F.DMA_CTRL_DESC_HOST e) || s.on (F.DMA_CTRL_CPL_HOST e)

/-- The host's commands of a lane are discarded; those of the punty port stay. -/
def puntyOnly (l : List MbxCmd) : List MbxCmd := l.filter fun c => c.punty

/-- Empty the command queue, with its four indices back at 0 (R443); the completions of the host's commands that run are
discarded. -/
def State.emptyQueue (s : State) : State :=
  let drop := fun (c : Option MbxCmd) => c.map fun c => if c.punty then c else { c with dropped := true }
  (s.withMbx { s.mbx with long := puntyOnly s.mbx.long, short := puntyOnly s.mbx.short, bad := puntyOnly s.mbx.bad,
                          longRun := drop s.mbx.longRun, shortRun := drop s.mbx.shortRun }).setWords 0xf00008 [0, 0, 0, 0]

/-- Configuration space, the MSI-X table and the Pending Bit Array at their reset values; no read of host memory stays. -/
def State.cfgReset (s : State) : State :=
  (s.withPcie { Pcie.init with perst := s.pcie.perst, posted := s.pcie.posted }).withBar4 []

/-- What every reset of R271 does. -/
def State.pcieReset (s : State) : State :=
  let s2 := forEach (upTo 16) (fun e s => s.abortDescs e (s.touchesHost e)) s.cfgReset
  ((s2.emptyQueue.wr F.PCI_STAT_READY 0).wr F.PCI_STAT_RESET_SEEN 1).raise Ev.PCI_LINK_CHG

/-- The link is not in L0. -/
def State.linkOff (s : State) : State :=
  ((s.wr F.PCI_STAT_L0 0).wr F.PCI_STAT_SPEED 0).wr F.PCI_STAT_WIDTH 0

/-- The place in a descriptor's data of its first byte that still waits for the link, if one does. -/
def State.unsent (s : State) (d : Desc) : Option Nat :=
  (s.pcie.posted.filterMap fun o => match o with
    | .hostWrite a _ => if d.dst ≤ a && decide (a < d.dst + d.total) then some (a - d.dst) else none
    | _ => none).min?

/-- The descriptors whose posted writes are discarded end with DATA_ERR, those bytes not written (R262). -/
def State.losePosted (s : State) (e : Nat) : State :=
  forEach ((s.eng e).descs.filter fun d => d.dspace == 1) (fun d s =>
    match s.unsent d with
    | some n => (s.putDesc e { d with done := min d.done n }).endDesc e d 2
    | none => s) s

/-- Posted writes that wait are discarded and counted (R271). -/
def State.dropPosted (s : State) : State :=
  (s.bumpBy F.PCI_DROP_CNT_COUNT s.pcie.posted.length).withPcie { s.pcie with posted := [] }

/-- A reset with the link down: the posted writes that wait are discarded, the descriptors of host memory end, and what the reset itself
would post to the host is discarded with the rest. -/
def State.linkReset (s : State) : State :=
  let s1 := s.linkOff.pcieReset
  let s2 := (forEach (upTo 16) (fun e s => s.losePosted e) s1).dropPosted
  (forEach (upTo 16) (fun e s => forEach (s.eng e).descs (fun d s => s.settle e d.slot) s) s2).dropPosted

/-- FUNDAMENTAL_RESET: PCIE_PERST_N is asserted. -/
def execFundamentalReset (s : State) : Answer :=
  actPcie s fun s => s.linkReset.withPcie { s.linkReset.pcie with perst := true }

/-- HOT_RESET. -/
def execHotReset (s : State) : Answer := actPcie s fun s => s.linkReset

/-- PCIE_LINK_DOWN. -/
def execPcieLinkDown (s : State) : Answer := actPcie s fun s => s.linkReset

/-- FUNCTION_LEVEL_RESET: the link stays; configuration requests are answered with Request Retry Status until
PCIE_READY tells that the reset has completed. -/
def execFunctionLevelReset (s : State) : Answer := actPcie s fun s => s.pcieReset

/-! ### Requests (R269, R270, R284) -/

/-- Send the messages of vectors that are pending and no longer masked (R284). -/
def State.sendPending (s : State) : State :=
  forEach (upTo 2048) (fun v s => if s.pba v && !s.vectorMasked v then (s.setPba v false).sendMsix v else s) s

/-- What the function's capability structures report (R268). -/
def capabilities : Capabilities :=
  { maxGen := 5, maxLanes := 16, maxPayload := 512, maxReadRequest := 4096, tagBits := 10, nonPosted := 768,
    msixVectors := 2048, msi := false, intx := false, aer := true, ecrc := true, timeoutRanges := [true, true, false, false],
    timeoutDisable := true, d3hot := true, aspmL0s := false, aspmL1 := true, l11 := true, l12 := false, flr := true,
    rrsVisibility := true, doe := true, sriov := false, ats := false, pasid := false, io := false, expansionRom := false,
    atomics := false, tph := false, ltr := false, resizableBar := false }

/-- What a configuration request does, and its answer (R268, R272, R284). DOE Discovery names the objects of the mailbox as the base
specification codes them: vendor 1, Discovery 0 and CMA/SPDM 1 (PRESUMED, log entry 173). A function that returns to D0 sends what waited. -/
def State.configure (s : State) (q : CfgReq) : State :=
  let ok := Output.completion 0 false []
  match q with
  | .msix on mask => (s.withPcie { s.pcie with msixOn := on, msixMask := mask }).sendPending.emit ok
  | .power d3 =>
    let s1 := s.withPcie { s.pcie with d3hot := d3 }
    (if s1.hostOpen then (s1.sendPosted.askHosts 768).sendPending else s1).emit ok
  | .aspm l1 l11 => (s.withPcie { s.pcie with aspm := (l1, l11) }).emit ok
  | .sizes p r => (s.withPcie { s.pcie with mps := 128 * 2 ^ p.val, mrrs := 128 * 2 ^ r.val }).emit ok
  | .timeout off range => (s.withPcie { s.pcie with noTimeout := off, timeoutRange := range }).emit ok
  | .ecrc gen check => (s.withPcie { s.pcie with ecrc := (gen, check) }).emit ok
  | .aerClear => (s.withPcie { s.pcie with aer := [] }).emit ok
  | .caps => s.emit (.capabilities capabilities)
  | .aerRead => s.emit (.aerLog s.pcie.aer)
  | .discovery i => (s.emit (if i = 0 then .discovery 1 0 1 else if i = 1 then .discovery 1 1 0 else .discovery 0xffff 0 0)).raise Ev.PCI_DOE
  | .other => s.drawn.emit (.completion 0 false (leBytes 4 s.draw))

/-- CONFIGURATION_REQUEST (R270): answered with Request Retry Status until the endpoint is ready. The spec gives no layout of
configuration space beyond what R268 lists, so what another request reads is a free value. -/
def execConfigurationRequest (q : CfgReq) (s : State) : Answer :=
  actPcie s fun s =>
    if s.pcie.perst then s else if !s.on F.PCI_STAT_READY then s.emit (.completion 2 false []) else s.configure q

/-- Write a byte of BAR4 (R269): of a Vector Control word only the Mask bit is kept; the Pending Bit Array and other
offsets discard writes. -/
def State.bar4Write (s : State) (a : Nat) (b : Byte) : State :=
  if a < 0x8000 then
    if a % 16 = 12 then s.setBar4 a (b &&& 1) else if 12 < a % 16 then s else s.setBar4 a b
  else s

/-- BAR4_REQUEST (R269): a write that unmasks a pending vector sends its message (R284). A request past the end of the BAR,
and one in D3hot, is one that the function does not support. -/
def execBar4Request (off : BitVec 16) (n : Fin 9) (w : Option (BitVec 64)) (tlp : Tlp) (s : State) : Answer :=
  actPcie s fun s =>
    if !s.on F.PCI_STAT_READY then s
    else if (s.tlpFault tlp w.isSome).isSome then s.dropTlp tlp w.isSome
    else if s.pcie.d3hot || decide (65536 < off.toNat + n.val) then s.unsupported w.isSome
    else
      match w with
      | some v =>
        (forEach (upTo n) (fun i s => s.bar4Write (off.toNat + i) (BitVec.ofNat 8 (v.toNat / 2 ^ (8 * i)))) s).sendPending
      | none => s.emit (.completion 0 false (leBytes n (s.bar4Num off.toNat n)))

/-- MSIX_UNMASK of vector `v` in its table entry (R284). -/
def execMsixUnmask (v : Fin 2048) (s : State) : Answer :=
  actPcie s fun s =>
    let s1 := s.setBar4 (16 * v + 12) 0
    if s1.pba v && !s1.vectorMasked v then (s1.setPba v false).sendMsix v else s1

/-- UNSUPPORTED_REQUEST (R269): logged under AER, and a non-posted one answered Unsupported Request. -/
def execUnsupportedRequest (posted : Bool) (s : State) : Answer :=
  actPcie s fun s => s.unsupported posted

/-! ### The command queue (R279–R281) -/

/-- The command in queue entry `i` (R279). -/
def State.queueEntry (s : State) (i : Nat) : MbxCmd :=
  let raw := (upTo 8).foldl (fun a k => a + (s.reg (0xf01000 + 32 * i + 4 * k)).toNat * 2 ^ (32 * k)) 0
  { idx := i, raw := raw, dropped := false, punty := false }

/-- Hand a command to its lane; one that completes at once waits for none (R281). -/
def State.handOver (s : State) (c : MbxCmd) : State :=
  if c.paramBad then s.withMbx { s.mbx with bad := s.mbx.bad ++ [c] }
  else if longOps.contains (c.byte 0) then s.withMbx { s.mbx with long := s.mbx.long ++ [c] }
  else if shortOps.contains (c.byte 0) then s.withMbx { s.mbx with short := s.mbx.short ++ [c] }
  else s.withMbx { s.mbx with bad := s.mbx.bad ++ [c] }

/-- The core takes the commands of the queue from MBX_HEAD, while MBX_STAT.READY is 1 (R279). -/
def State.takeQueue (s : State) : Nat → State
  | 0 => s
  | fuel + 1 =>
    let h := s.rd F.PCI_MBX_HEAD_HEAD
    if h = s.rd F.PCI_MBX_TAIL_TAIL || !s.on F.PCI_MBX_STAT_READY then s
    else ((s.handOver (s.queueEntry (h % 64))).wr F.PCI_MBX_HEAD_HEAD (h + 1)).takeQueue fuel

/-- A write of MBX_TAIL that would make more than 64 commands wait is ignored (R279). -/
def State.mbxTail (s : State) (v : Nat) : State :=
  if 64 < (v % 128 + 128 - s.rd F.PCI_MBX_HEAD_HEAD) % 128 then (s.wr F.PCI_MBX_STAT_OVF 1).raise Ev.PCI_MBX_ERR
  else (s.wr F.PCI_MBX_TAIL_TAIL v).takeQueue 64

/-- The code with which a command completes at once: BAD_PARAM if its opcode is listed, else BAD_OPCODE (R281). -/
def MbxCmd.badCode (c : MbxCmd) : Nat := if longOps.contains (c.byte 0) || shortOps.contains (c.byte 0) then 2 else 1

/-- BAD_OPCODE: the oldest command with an unlisted opcode, a reserved bit or a parameter out of range completes without
effect (R281). -/
def execBadOpcode (s : State) : Answer :=
  act s fun s =>
    match s.mbx.bad with
    | [] => s
    | c :: cs => if s.mbxReady then (s.withMbx { s.mbx with bad := cs }).complete c c.badCode 0 else s

end Sys2Proof.Machine
end

