-- ==== Sys2Proof/Machine/Debug.lean ====
section
/-!
DEFINITION. The array debug window (R26, R433): what a slice holds, and the DM reads that wait in a tile's gateway. Also how
the answer of a control-space read reaches the path that asked (R432, R442), and the capture of the save list (R374).
-/

namespace Sys2Proof.Machine

/-- The answer of a read goes to its path: the punty port keeps it for the next Capture-DR with DONE and ERR (R432). -/
def State.answerRead (s : State) (p : Path) (off val : Nat) (err : Bool) : State :=
  match p with
  | .punty => s.withJtag { s.jtag with access := val % 2 ^ 32 + 2 ^ 32 + 2 ^ 33 * b2n err }
  | _ => s.emit (.read p off val)

/-- Is the offset in the array debug window (R24)? -/
def inDebug (off : Nat) : Bool := decide (0x1000000 ≤ off) && decide (off < 0x2000000)

/-- The tile whose slice an offset of the window lies in, and the offset within the slice (R433). -/
def windowTile (off : Nat) : Nat × Nat := ((off - 0x1000000) / 0x20000, (off - 0x1000000) % 0x20000)

/-- Does a slice hold something at an offset (R433)? -/
def sliceHas (rel : Nat) : Bool :=
  decide (rel < 0x8000) || rel == 0x8000 || (decide (0x8100 ≤ rel) && decide (rel < 0x8200)) ||
    (decide (0x10000 ≤ rel) && decide (rel < 0x18000))

/-- Does an offset of a slice show DM? -/
def sliceDm (rel : Nat) : Bool := decide (0x8100 ≤ rel) && decide (rel < 0x8200)

/-- DBG_SEL of tile `t`. -/
def State.dbgSel (s : State) (t : Nat) : Nat := (s.reg (0x1008000 + 0x20000 * (t % 128))).toNat

/-- The BP that DBG_SEL names: itself, or the selected lane of its octet in a replicated cluster. -/
def State.dbgBp (s : State) (t : Nat) : Nat :=
  let p := slice (s.dbgSel t) 9 0
  if s.repl t p then p / 8 * 8 + slice (s.dbgSel t) 12 10 else p

/-- Four bytes of the DM that DBG_SEL names, from byte `b`: bit `a` of the DM is bit a mod 8 of byte ⌊a/8⌋. -/
def State.dbgDm (s : State) (t b : Nat) : Nat :=
  (upTo 32).foldl (fun v i => v + 2 ^ i * b2n (s.dmGet t (s.dbgBp t) (8 * b + i))) 0

/-- Four bytes of the step words that DBG_SEL names, from byte `b` of the page: words are 16 bytes apart, and bytes 10–15 of
each read 0. -/
def State.dbgStep (s : State) (t b : Nat) : Nat :=
  let p := slice (s.dbgSel t) 9 0
  let page := slice (s.dbgSel t) 15 13
  if s.repl t p then s.stepAt (stepKey true (s.phys t) (p / 8 * 8) (2048 * page + b / 16)) / 2 ^ (8 * (b % 16)) % 2 ^ 32
  else if page = 0 then s.stepAt (stepKey false (s.phys t) p (b / 16)) / 2 ^ (8 * (b % 16)) % 2 ^ 32
  else 0

/-- What the window reads at an offset that a slice holds. -/
def State.dbgValue (s : State) (off : Nat) : Nat :=
  let x := windowTile off
  if sliceDm x.2 then s.dbgDm x.1 (x.2 - 0x8100)
  else if 0x10000 ≤ x.2 then s.dbgStep x.1 (x.2 - 0x10000)
  else (s.reg off).toNat

/-- Is a cycle of tile `t`'s region in progress? -/
def State.tileInCycle (s : State) (t : Nat) : Bool :=
  match s.tileRegion t with
  | some n => (s.gaf n).phase != .none
  | none => false

/-- Does a read at an offset wait: DM while the region has a cycle in progress (R433)? -/
def State.dmWaits (s : State) (off : Nat) : Bool :=
  inDebug off && sliceDm (windowTile off).2 && s.tileInCycle (windowTile off).1

/-- What a read of 4 or 8 bytes of the window returns. -/
def State.dbgWide (s : State) (off width : Nat) : Nat :=
  s.dbgValue off + (if width = 8 then 2 ^ 32 * s.dbgValue (off + 4) else 0)

/-- The DM reads whose region has no cycle in progress any more are answered, in the order they came. -/
def State.serveDm (s : State) : State :=
  let ready := s.dbgReads.filter fun r => !s.dmWaits r.2.1
  forEach ready (fun r s => s.answerRead r.1 r.2.1 (s.dbgWide r.2.1 r.2.2) false)
    (s.withDbgReads (s.dbgReads.filter fun r => s.dmWaits r.2.1))

/-! ### The save list (R374) -/

/-- The scopes in force. -/
def State.scopes (s : State) : Nat := s.rd F.LCS_DBG_SCOPE_SCOPES

/-- Is the ARRAY scope granted (R26, R426)? -/
def State.arrayScope (s : State) : Bool := bit s.scopes 0

/-- What a read of the capture returns: none where it waits for the end of a cycle, which counts as not answered within 1 µs
(DESIGN CHOICE, log entry 166). -/
def State.captured (s : State) (off : Nat) : Option Nat :=
  if !inDebug off then some (s.peek off).toNat
  else if !s.arrayScope || !sliceHas (windowTile off).2 then some 0
  else if s.dmWaits off then none
  else some (s.dbgValue off)

/-- The save-list entries in use (R374, R380). -/
def State.saveLen (s : State) : Nat := min 8192 (s.rd F.PWR_SAVE_CFG_LEN)

/-- Capture one entry: its offset with VALID, and the value read; with VALID at 0 where no answer came. -/
def State.captureEntry (s : State) (i : Nat) : State :=
  let e := Tab.get (fun _ => (0, 0)) s.lehr.save i
  let off := e.1 / 4 * 4
  s.withLehr { s.lehr with
    save := Tab.set (fun _ => (0, 0)) s.lehr.save i (match s.captured off with | some v => (off + 1, v) | none => (off, e.2)) }

/-- Capture the save list (R374). -/
def State.captureSave (s : State) : State :=
  (forEach (upTo s.saveLen) (fun i s => s.captureEntry i) s).wr F.PWR_SAVE_CFG_CAPTURED 1

end Sys2Proof.Machine
end

