-- ==== Sys2Proof/Machine/Cycle.lean ====
section
/-!
DEFINITION. Cycles of a region (R45–R52, R84–R94, R101, R105–R107, R119, R127, R131–R134, R183, R264, R392): dispatch,
the boundary steps b0 to b23, drains, and the starts and stops of a region.
-/

namespace Sys2Proof.Machine

/-! ### Starting a cycle (R45, R49, R101, R109, R469) -/

/-- The current line index (R109). -/
def State.lineOf (s : State) (n : Nat) : Nat := s.rd (F.GAF_LINE_LO n) + 2 ^ 32 * s.rd (F.GAF_LINE_HI n)

/-- The special operands the next cycle of region `n` latches now (R45, R62, R109, R112). -/
def State.opsFor (s : State) (n : Nat) (c : Cycle) : SpecialOps :=
  let g := s.gaf n
  { first := g.fresh, switched := g.prevWin == some (!c.win), overrun := g.overrunSeen, line := s.lineOf n }

/-- Load the latched copies of every tile of region `n` (R469). -/
def State.loadLatches (s : State) (n : Nat) : State := forEach (s.regionTiles n) (fun t s => s.loadLatch t) s

/-- What a window begins with in a tile: no result, no mark of an earlier cycle. -/
def State.freshTile (s : State) (t : Nat) : State :=
  let s1 := ((s.withResults (Tab.clear s.results (t * 16777216) ((t + 1) * 16777216))).withStamps (Tab.clear s.stamps (t * 65536) ((t + 1) * 65536)))
  s1.setTile t { s1.tile t with capStep := 0, capCount := 0, dmFails := 0, rowsBad := [], brkAt := (0, 0) }

/-- Cycle `c` of region `n` begins with the special operands latched for it; its window follows (R49, R105). -/
def State.startCycle (s : State) (n : Nat) (c : Cycle) (o : SpecialOps) : State :=
  let g := s.gaf n
  let s1 := s.setGaf n { g with
    phase := .window, cur := c, next := none, nextFixed := false, ops := o, fresh := false, prevWin := some c.win,
    hit := false, haltHit := false, outBad := s.flt.f1 }
  let s2 := (s1.wr (F.GAF_STATUS_WIN n) (b2n c.win)).wr (F.GAF_STATUS_STATE n) 3
  let s3 := s2.wr64 (0x100020 + 0x10000 * (n % 16)) (s2.cycles n + 1)
  forEach (s3.regionTiles n) (fun t s => s.freshTile t) s3

/-- A dispatch: at d0 the copies load and the special operands latch, as at b12 (R101, R469). -/
def State.dispatch (s : State) (n : Nat) (c : Cycle) : State :=
  let s1 := s.loadLatches n
  let o := s1.opsFor n c
  (s1.setGaf n { s1.gaf n with overrunSeen := false }).startCycle n c o

/-! ### Commands that wait for a region (R105, R281) -/

/-- A start of region `n` reaches ARMED: REGION_START and REGION_RESTART complete. -/
def State.armedDone (s : State) (n : Nat) : State :=
  ((s.armed n).regionDone 0x10 n 0 0).regionDone 0x12 n 0 0

/-- Are all sectors of region `n` in S0, and none so far into a power-down that it completes (R366, R367)? -/
def State.awake (s : State) (n : Nat) : Bool :=
  (s.sectors n).all fun c => s.rd (F.SEC_STATUS_PSTATE c) == 0 && !((s.dom c).down.isSome && (s.dom c).isolated)

/-- Have sectors of region `n` lost DM to S2 or S3? -/
def State.lostDm (s : State) (n : Nat) : Bool := (s.sectors n).any fun c => decide (2 ≤ s.rd (F.SEC_STATUS_PSTATE c))

/-- A sector of region `n` has woken from S2 or S3 (R44, R105): a start of R44, which a start or restart under way makes when
it reaches ARMED. -/
def State.wakeStart (s : State) (n : Nat) : State :=
  match (s.gaf n).waking with
  | some (restart, _) => s.setGaf n { s.gaf n with waking := some (restart, true) }
  | none => s.startR44 n

/-- The start that waited for its sectors goes on once they are awake: a restart, or a start that lost DM, is a start of
R44 (R105). -/
def State.goOn (s : State) (n : Nat) : State :=
  match (s.gaf n).waking with
  | none => s
  | some (restart, lost) =>
    if s.awake n then (if restart || lost then s.startR44 n else s).armedDone n else s

/-- Begin a start of region `n`: wake its sectors first where one sleeps (R105, R364). -/
def State.beginStart (s : State) (n : Nat) (restart : Bool) : State :=
  ((s.setGaf n { s.gaf n with waking := some (restart, s.lostDm n) }).evalRegion n).goOn n

/-- What a REGION_RESTART clears at once: queue, loop stack and event counts (R105, R107). -/
def State.restartNow (s : State) (n : Nat) : State :=
  let s1 := ((s.discardQueue n).setLoops n []).clearPends n
  let s2 := s1.setGaf n { s1.gaf n with phase := .none, next := none, nextFixed := false, restart := false }
  s2.beginStart n true

/-! ### Drains (R90, R119, R264) -/

/-- The status word a tile's committed side carries. -/
def State.statusOf (s : State) (t : Nat) : Nat := (s.tile t).status

/-- The 64 bytes of a record header (R264). -/
def drainHeader (d : Drain) (sent : Nat) (done trunc : Bool) : List Byte :=
  leBytes 64 (d.seq + 2 ^ 32 * d.tiles.length + 2 ^ 40 * sent + 2 ^ 48 * d.blocks + 2 ^ 54 * b2n done +
    2 ^ 55 * b2n trunc + 2 ^ 64 * d.time + 2 ^ 128 * d.line)

/-- The bytes of a drain's entries: for each tile its status word, zeros, and the bytes it names (R264). -/
def State.drainBytes (s : State) (d : Drain) : List Byte :=
  d.tiles.flatMap fun t => leBytes 64 (s.statusOf t) ++ Bytes.read s.gobOut (s.outDone t) (64 * d.blocks)

/-- Start a drain of region `n` through descriptor `k`: refused where VALID is 0 or the record leaves HBM (R119). -/
def State.startDrain (s : State) (n k : Nat) : State :=
  let tiles := s.regionTiles n
  let b := min 32 (s.rd (F.GAF_COM_HI_BYTES n k))
  let seq := s.rd (F.GAF_COM_SEQ_SEQ n k)
  let size := 64 * (1 + tiles.length * (1 + b))
  let a := 64 * s.rd (F.GAF_COM_LO_ADDR_LO n k) + 2 ^ 32 * s.rd (F.GAF_COM_HI_ADDR_HI n k) +
    seq % 2 ^ min 20 (s.rd (F.GAF_COM_HI_RING n k)) * size
  if !s.on (F.GAF_COM_HI_VALID n k) || !inHbm a size then s.raise (Ev.GAF n 5)
  else
    let d : Drain := ⟨a, seq, b, (s.gaf n).commitTime, (s.statusOf (tiles.headD 0)) % 2 ^ 48, tiles⟩
    let s1 := (s.wr (F.GAF_COM_SEQ_SEQ n k) (seq + 1)).hbmWrite a (drainHeader d 0 false false)
    s1.setGaf n { s1.gaf n with drains := (s1.gaf n).drains ++ [d] }

/-- A drain is cut at the region's next b4 (R90). How many of its flits were sent is not fixed: a free value. -/
def State.cutDrain (s : State) (n : Nat) (d : Drain) : State :=
  let bytes := s.drainBytes d
  let flits := s.draw % (d.tiles.length * (1 + d.blocks) + 1)
  let sent := flits / (1 + d.blocks)
  let s1 := (s.drawn.hbmWrite (d.record + 64) (bytes.take (64 * flits))).hbmWrite d.record (drainHeader d sent true true)
  let s2 := forEach (d.tiles.drop sent) (fun t s => s.wr (F.MPU_GOB_STAT_CUT t) 1) s1
  s2.raise (Ev.GAF n 5)

/-- Cut every drain of region `n` that still runs. -/
def State.cutDrains (s : State) (n : Nat) : State :=
  let ds := (s.gaf n).drains
  let s1 := s.setGaf n { s.gaf n with drains := [] }
  forEach ds (fun d s => s.cutDrain n d) s1

/-- COMMIT_DRAIN_END: the oldest drain of gaffer `n` has sent everything (R264). -/
def execCommitDrainEnd (n : Fin 16) (s : State) : Answer :=
  act s fun s =>
    match (s.gaf n).drains with
    | [] => s
    | d :: ds =>
      let s1 := s.setGaf n { s.gaf n with drains := ds }
      (s1.hbmWrite (d.record + 64) (s1.drainBytes d)).hbmWrite d.record (drainHeader d d.tiles.length true false)

/-! ### Far tracks (R92–R94, R183) -/

/-- Does tile `t` take or send far slots, by its latched copy? -/
def State.farIn? (s : State) (t : Nat) : Bool := s.latched (F.MPU_GOB_CFG_FAR_IN t) == 1
/-- Does tile `t` send far slots? -/
def State.farOut? (s : State) (t : Nat) : Bool := s.latched (F.MPU_GOB_CFG_FAR_OUT t) == 1

/-- Has region `n` a far tile (R120)? -/
def State.hasFar (s : State) (n : Nat) : Bool := (s.regionTiles n).any fun t => s.farIn? t || s.farOut? t

/-- The key of far-in slot `k` of tile `t` on a side. -/
def farKey (t k : Nat) (side : Bool) : Nat := (t * 2 + b2n side) * 8 + k

/-- The expected slots of tile `t` that its fill side has not got. -/
def State.farMissing (s : State) (t : Nat) : List Nat :=
  (upTo 8).filter fun k =>
    bit (Tab.get regReset s.latch (0x2000a0 + 0x10000 * (t % 128) + 4 * k)).toNat 31 &&
    !bit (Tab.get (fun _ => 0) s.farIn (farKey t k (!(s.tile t).farSide))) 127

/-- Swap the far-in sides of one tile at an exchanging boundary, counting what is missing (R93, R94). -/
def State.farSwapTile (s : State) (t : Nat) : State :=
  let miss := (s.farMissing t).length
  let s1 := if miss = 0 then s else (s.bumpBy (F.MPU_FAR_MISS_CNT_COUNT t) miss).wr (F.MPU_GOB_STAT_FAR_MISS t) 1
  let old := (s1.tile t).farSide
  (s1.withFarIn (Tab.clear s1.farIn (farKey t 0 old) (farKey t 8 old))).setTile t { s1.tile t with farSide := !old }

/-- Swap the far-in sides of region `n`; a missing slot raises GAF_XFER_ERR once (R94). -/
def State.farSwap (s : State) (n : Nat) : State :=
  let ts := (s.regionTiles n).filter fun t => s.farIn? t
  let any := ts.any fun t => s.farMissing t != []
  let s1 := forEach ts (fun t s => s.farSwapTile t) s
  if any then s1.raise (Ev.GAF n 5) else s1

/-- The exchange number of region `n` (R93). -/
def State.xOf (s : State) (n : Nat) : Nat :=
  match s.regionTiles n with
  | t :: _ => s.rd (F.MPU_XCHG_NUM_X t)
  | [] => 0

/-- Put the exchange number of region `n` into XCHG_NUM of its tiles. -/
def State.setX (s : State) (n x : Nat) : State :=
  forEach (s.regionTiles n) (fun t s => s.wr (F.MPU_XCHG_NUM_X t) x) s

/-- Store an arrived far slot: PRESENT replaces its bit 127 (R92). -/
def State.farStore (s : State) (t k data : Nat) : State :=
  s.withFarIn (Tab.set (fun _ => 0) s.farIn (farKey t k (!(s.tile t).farSide)) (data % 2 ^ 127 + 2 ^ 127))

/-- A discarded far slot (R94). -/
def State.farDrop (s : State) (t : Nat) : State :=
  (s.bump (F.MPU_FAR_MISS_CNT_COUNT t)).wr (F.MPU_GOB_STAT_FAR_MISS t) 1

/-- Is region `n` between the swap of its far-in sides at b0 and the b4 that increments X (R93)? -/
def State.farSwapped (s : State) (n : Nat) : Bool :=
  (s.gaf n).cur.xchg && (decide ((s.gaf n).phase = .b0) || decide ((s.gaf n).phase = .b3))

/-- Far slot `k` tagged `tag` meets tile `t` of region `n`: accepted when tagged X − 1 and before its swap, waiting when tagged
X, otherwise discarded; an accepted slot synchronises the region (R93, R94, R183). -/
def State.farMeet (s : State) (n t k tag data : Nat) : State :=
  let x := s.xOf n
  if (tag + 1) % 2 ^ 16 = x && !s.farSwapped n then
    (s.farStore t k data).wr F.TB_XSYNC_SYNCED (setBitTo (s.rd F.TB_XSYNC_SYNCED) n true)
  else if tag = x then s.setTile t { s.tile t with farWait := (s.tile t).farWait ++ [⟨k, tag, data⟩] }
  else s.farDrop t

/-- Slots that waited for this b4 are met again (R93). -/
def State.farRetry (s : State) (n t : Nat) : State :=
  let ws := (s.tile t).farWait
  forEach ws (fun w s => s.farMeet n t w.slot w.tag w.data) (s.setTile t { s.tile t with farWait := [] })

/-- The larger of a list of tags. -/
def maxTag (l : List Nat) : Option Nat := l.foldl (fun a x => some (max x (a.getD x))) none

/-- An unsynchronised lock-step region takes X from the largest tag received since its previous b4 (R183). -/
def State.xSync (s : State) (n : Nat) : State :=
  let ts := s.regionTiles n
  if s.on (F.GAF_CTRL_LOCKSTEP n) && s.tb.inEpoch && ts.any (fun t => s.farIn? t) && !bit (s.rd F.TB_XSYNC_SYNCED) n then
    match maxTag (ts.flatMap fun t => (s.tile t).farSeen) with
    | some e => s.setX n (e + 1)
    | none => s
  else s

/-- A b4 of region `n`, exchanging or not: the tags received so far came before it (R183). -/
def State.forgetTags (s : State) (n : Nat) : State :=
  forEach (s.regionTiles n) (fun t s => s.setTile t { s.tile t with farSeen := [] }) s

/-- Send the far-out area of tile `t` tagged with X (R93). -/
def State.farSend (s : State) (n t x : Nat) : State :=
  s.flood (.far (Fin.ofNat 16 n) (Fin.ofNat 128 t) (BitVec.ofNat 16 x)
    (BitVec.ofNat 1024 (leNat (Bytes.read s.gobOut (s.outDone t + 1920) 128))))

/-- The exchange of a cycle at its b4, after the sides swapped: synchronise, send where the cycle is valid, increment X,
and meet the slots that waited (R93, R183, R392). -/
def State.exchange (s : State) (n : Nat) (valid : Bool) : State :=
  let s1 := s.xSync n
  let x := s1.xOf n
  let s2 := if valid then
      forEach ((s1.regionTiles n).filter fun t => s1.farOut? t) (fun t s => s.farSend n t x) s1
    else s1
  let s3 := s2.setX n (x + 1)
  forEach (s3.regionTiles n) (fun t s => s.farRetry n t) s3

/-! ### b0 (R49, R72, R85–R87, R93) -/

/-- Do all expecting tiles of region `n` hold a closed gob (R85)? -/
def State.gobReady (s : State) (n : Nat) : Bool :=
  (s.regionTiles n).all fun t => s.latched (F.MPU_GOB_CFG_EXPECT t) == 0 || s.on (F.MPU_GOB_STAT_FILL_CLOSED t)

/-- Clear a gob-in side of tile `t`. -/
def State.clearGobIn (s : State) (t side : Nat) : State :=
  s.withGobIn (Tab.clear s.gobIn ((t * 2 + side) * 2048) ((t * 2 + side + 1) * 2048))

/-- Swap the gob-in sides of tile `t`: the new fill side is cleared and open (R87). -/
def State.gobSwapTile (s : State) (t : Nat) : State :=
  let old := s.rd (F.MPU_GOB_STAT_READ_SIDE t)
  ((s.clearGobIn t old).wr (F.MPU_GOB_STAT_READ_SIDE t) (1 - old)).wr (F.MPU_GOB_STAT_FILL_CLOSED t) 0

/-- A boundary without a swap in tile `t` (R86). -/
def State.gobNoSwapTile (s : State) (t : Nat) : State :=
  let s1 := if s.latched (F.MPU_GOB_CFG_HOLD t) = 1 then s else s.clearGobIn t (s.rd (F.MPU_GOB_STAT_READ_SIDE t))
  (s1.bump (F.MPU_GOB_NOSWAP_CNT_COUNT t)).wr (F.MPU_GOB_STAT_NOSWAP t) 1

/-- The gob-in decision of region `n` at b0 (R85, R86). -/
def State.gobBoundary (s : State) (n : Nat) : State :=
  if s.gobReady n then
    let s1 := forEach (s.regionTiles n) (fun t s => s.gobSwapTile t) s
    s1.setGaf n { s1.gaf n with swapNotes := (s1.gaf n).swapNotes + 1 }
  else forEach (s.regionTiles n) (fun t s => s.gobNoSwapTile t) s

/-- Put the phase of region `n`. -/
def State.setPhase (s : State) (n : Nat) (p : Phase) : State := s.setGaf n { s.gaf n with phase := p }

/-- CYCLE_BOUNDARY_B0 (R49). -/
def execCycleBoundaryB0 (n : Fin 16) (s : State) : Answer :=
  act s fun s =>
    if (s.gaf n).phase = .window then
      let s1 := s.gobBoundary n
      let s2 := if (s1.gaf n).cur.xchg then s1.farSwap n else s1
      let s3 := if (s2.gaf n).hit then s2.raise (Ev.GAF n 4) else s2
      (s3.sweepRows n).setPhase n .b0
    else s

/-! ### b3: the fold (R51, R52) -/

/-- Write FOLD_LAST of tile `t`. -/
def State.foldLast (s : State) (t : Nat) (v : BitVec 64) : State := s.wr64 (0x200020 + 0x10000 * (t % 128)) v.toNat

/-- Record a fold mismatch of tile `t` in its sector (R52, R53). -/
def State.foldRecord (s : State) (t : Nat) (win byVerify : Bool) : State :=
  if s.on (F.SEC_FOLD_STAT_VALID (t / 8)) then s
  else s.setReg (0xa00014 + 0x10000 * (t / 8 % 16))
    (BitVec.ofNat 32 (2 ^ 23 + 2 ^ 20 * (t % 8) + 2 ^ 19 * b2n win + 2 ^ 18 * b2n byVerify))

/-- FOLD_COMPARE at b3: every tile writes FOLD_LAST; a mismatch marks gob-out invalid and fences the region (R52). -/
def execFoldCompare (n : Fin 16) (s : State) : Answer :=
  act s fun s =>
    if (s.gaf n).phase = .b0 then
      let win := (s.gaf n).cur.win
      let ts := s.regionTiles n
      let folds := ts.map fun t => (t, s.fold t (s.dual n) win (s.lenCode n win))
      let bad := (folds.filter fun x => x.2.toNat != s.foldExp x.1 win).map fun x => x.1
      let s1 := forEach folds (fun x s => s.foldLast x.1 x.2) (s.setPhase n .b3)
      match bad with
      | [] => s1
      | t :: _ =>
        let s2 := forEach bad (fun t s => s.foldRecord t win false) s1
        let s3 := forEach ((s2.sectors n).filter fun c => bad.any fun t => t / 8 == c) (fun c s =>
          ((s.wr (F.SEC_STATUS_FOLD_MISMATCH c) 1).bump (F.SEC_FOLD_CNT_COUNT c)).raise (Ev.SEC_FOLD_MISMATCH c)) s2
        s3.fault2 n 16 (t + 2 ^ 7 * b2n win) 4
    else s

/-! ### b4 (R49, R65, R87, R89, R90, R93, R119, R127) -/

/-- Commit the gob-out of tile `t` with its status word; the new fill side is cleared (R65, R89). -/
def State.commitTile (s : State) (t : Nat) (o : SpecialOps) (valid : Bool) : State :=
  let x := s.tile t
  let w := o.line % 2 ^ 48 + 2 ^ 48 * b2n valid + 2 ^ 49 * b2n o.first + 2 ^ 50 * b2n o.switched + 2 ^ 51 * b2n o.overrun +
    2 ^ 52 * b2n (x.poison != 0)
  let s1 := s.setTile t { x with outSide := !x.outSide, status := w }
  (s1.withGobOut (Tab.clear s1.gobOut (s1.outFill t) (s1.outFill t + 2048)))

/-- GOB_OUT_COMMIT at b4. -/
def execGobOutCommit (n : Fin 16) (s : State) : Answer :=
  act s fun s =>
    if (s.gaf n).phase = .b3 then
      let g := s.gaf n
      let valid := !g.outBad
      let s1 := (s.cutDrains n).dmaCut n
      let s2 := forEach (s1.regionTiles n) (fun t s => s.commitTile t g.ops valid) s1
      let s3 := s2.setGaf n { s2.gaf n with phase := .b4, commitTime := s2.now }
      let s4 := (if g.cur.xchg && s3.hasFar n then s3.exchange n valid else s3).forgetTags n
      let s5 := if valid then s4.issueRegion n else s4
      let s6 := forEach (s5.regionTiles n) (fun t s => s.applyWaiting t) s5
      (forEach g.cur.commits (fun k s => s.startDrain n k) s6).dmaSync n
    else s

/-! ### b8 (R131–R134) -/

/-- MEMORY_CHECK at b8: what is due becomes visible, or the region stalls; a bound of 0 poisons at once (R133, R134). -/
def execMemoryCheck (n : Fin 16) (s : State) : Answer :=
  act s fun s =>
    if (s.gaf n).phase = .b4 then
      match s.lacking n with
      | [] => (s.show n fun _ => []).setPhase n .b8
      | _ :: _ =>
        let s1 := forEach (s.lackingData n) (fun t s => s.bump (F.MPU_STALL_CNT_COUNT t)) s
        if s1.rd (F.GAF_STALL_BOUND_BOUND n) = 0 then (s1.expire n).setPhase n .b8
        else (s1.wr (F.GAF_STATUS_STATE n) 4).setPhase n .stalled
    else s

/-- STALL_END: the check passes at a stall step (R133). -/
def execStallEnd (n : Fin 16) (s : State) : Answer :=
  act s fun s =>
    if (s.gaf n).phase = .stalled && (s.lacking n).isEmpty then
      ((s.show n fun _ => []).wr (F.GAF_STATUS_STATE n) 3).setPhase n .b8
    else s

/-- STALL_BOUND_EXPIRY (R134). -/
def execStallBoundExpiry (n : Fin 16) (s : State) : Answer :=
  act s fun s =>
    if (s.gaf n).phase = .stalled then ((s.expire n).wr (F.GAF_STATUS_STATE n) 3).setPhase n .b8 else s

/-! ### b12, b16, b23 (R49, R62, R101, R105, R107, R127, R469) -/

/-- SPECIAL_OPERAND_LATCH at b12: the copies load, the request areas clear, and a next cycle already issued latches its
special operands. -/
def execSpecialOperandLatch (n : Fin 16) (s : State) : Answer :=
  act s fun s =>
    if (s.gaf n).phase = .b8 then
      let s1 := s.loadLatches n
      let s2 := forEach (s1.regionTiles n) (fun t s =>
        (s.withReqArea (Tab.clear s.reqArea (t * 4096) ((t + 1) * 4096)))) s1
      let g := s2.gaf n
      match g.next with
      | some c => s2.setGaf n { g with phase := .b12, nextOps := s2.opsFor n c, nextFixed := true, overrunSeen := false }
      | none => s2.setGaf n { g with phase := .b12, nextFixed := false }
    else s

/-- WINDOW_FIX at b16: the window of a next cycle latched at b12 is fixed (R49, R101). While the switch window of a level
change is open nothing more is fixed (R355): the cycle waits for its dispatch, which latches its operands again. -/
def execWindowFix (n : Fin 16) (s : State) : Answer :=
  act s fun s =>
    let g := s.gaf n
    if g.phase = .b12 then
      let s1 := s.setPhase n .b16
      match g.next with
      | some c =>
        if !g.nextFixed then s1
        else if s.windowOpen then
          s1.setGaf n { s1.gaf n with nextFixed := false, overrunSeen := g.overrunSeen || g.nextOps.overrun }
        else s1.wr (F.GAF_STATUS_WIN n) (b2n c.win)
      | none => s1
    else s

/-- A cycle of region `n` that is issued and not started is cancelled; an OVERRUN it latched waits again (R105). -/
def State.cancelNext (s : State) (n : Nat) : State :=
  let g := s.gaf n
  s.setGaf n { g with
    next := none, nextFixed := false, overrunSeen := g.overrunSeen || (g.next.isSome && g.nextFixed && g.nextOps.overrun) }

/-- After b23 of a cycle with nothing to stop it: the next cycle begins, or the region is ARMED (R101, R105). -/
def State.nextCycle (s : State) (n : Nat) : State :=
  let g := s.gaf n
  match g.next with
  | some c =>
    if g.nextFixed then s.startCycle n c g.nextOps
    else if s.windowOpen then ((s.setPhase n .none).wr (F.GAF_STATUS_STATE n) 2).holdRun (2 * n)
    else s.dispatch n c
  | none => (s.setPhase n .none).wr (F.GAF_STATUS_STATE n) 2

/-- A restart that waited for the boundary proceeds (R105, R107). -/
def State.thenRestart (s : State) (n : Nat) (restart : Bool) : State := if restart then s.restartNow n else s

/-- What follows the cycle of region `n` (R105, R107): a fence, then a stop, a breakpoint stop, a restart, the next cycle.
DESIGN CHOICE (log entry 123): of a REGION_STOP and a breakpoint stop that fall together the REGION_STOP counts, CAUSE 2. -/
def State.afterCycle (s : State) (n : Nat) : State :=
  let g := s.gaf n
  match g.fence, g.stop with
  | some (cause, src), _ => ((s.enterFenced n cause src).regionDone 0x11 n 6 cause).thenRestart n g.restart
  | none, some cause => (s.halted n 0 cause).regionDone 0x11 n 0 0
  | none, none =>
    if g.haltHit then ((s.cancelNext n).halted n 0 3).thenRestart n g.restart
    else if g.restart then s.restartNow n
    else s.nextCycle n

/-- CYCLE_END: the step after b23. DM reads of the debug window that waited for it are answered (R433). -/
def execCycleEnd (n : Fin 16) (s : State) : Answer :=
  act s fun s => if (s.gaf n).phase = .b16 then (s.afterCycle n).serveDm else s

/-- DM_CLEAR_END of region `n` (R44). -/
def execDmClearEnd (n : Fin 16) (s : State) : Answer :=
  act s fun s => s.setGaf n { s.gaf n with dmClear := false }

/-! ### Deliveries (R84, R88) -/

/-- GOB_IN_DATA_WRITE: `bytes` at byte `off` of a delivery. A side ends at byte 2,047 (R83): no write carries bytes past it. -/
def execGobInDataWrite (t : Fin 128) (off : Fin 2048) (bytes : List Byte) (s : State) : Answer :=
  act s fun s => s.gobInWrite t off (bytes.take (2048 - off.val))

/-- GOB_IN_CLOSE (R84). -/
def execGobInClose (t : Fin 128) (hdr : BitVec 64) (s : State) : Answer :=
  act s fun s => s.gobInCloseAt t hdr.toNat

end Sys2Proof.Machine
end

