-- ==== Sys2Proof/Machine/Gaffer.lean ====
section
/-!
DEFINITION. Gaffer programs (R97–R103, R106, R108–R122): each instruction executes at the gaffer's PC when the word
there is its own; a wait or a hold that is not satisfied changes nothing. Overrun policies act where triggers arrive.
-/

namespace Sys2Proof.Machine

/-! ### Fetch and program errors (R99, R100, R106) -/

/-- The program word `w` of gaffer `n`. -/
def State.progWord (s : State) (n w : Nat) : Nat := (s.reg (0x100800 + 0x10000 * (n % 16) + 4 * w)).toNat

/-- The PC of gaffer `n`. -/
def State.pcOf (s : State) (n : Nat) : Nat := s.rd (F.GAF_STATUS_PC n)

/-- Does gaffer `n` issue instructions: ARMED, RUNNING or STALLED, with no stop, fence or restart pending, and the step clock runs (R104, R356,
R392)? -/
def State.issues (s : State) (n : Nat) : Bool :=
  let g := s.gaf n
  decide (2 ≤ s.run n) && decide (s.run n ≤ 4) && g.fence.isNone && g.stop.isNone && !g.restart && !s.flt.f1 && !s.clockStopped

/-- A program error (R106): the first is recorded, the region is fenced, and nothing further issues. -/
def State.progErr (s : State) (n cause pc : Nat) : State :=
  let s1 := if s.on (F.GAF_PROG_ERR_VALID n) then s else
    s.setReg (0x100028 + 0x10000 * (n % 16)) (BitVec.ofNat 32 (2 ^ 31 + 2 ^ 28 * cause + pc))
  s1.fault2 n 19 (n + 2 ^ 4 * cause + 2 ^ 7 * pc) 5

/-- Continue at a word; past word 511 the program has run out (R106). -/
def State.goto (s : State) (n pc : Nat) : State :=
  if pc < 512 then s.wr (F.GAF_STATUS_PC n) pc else s.setGaf n { s.gaf n with past := true }

/-- Continue after the instruction at the PC. -/
def State.advance (s : State) (n : Nat) : State := s.goto n (s.pcOf n + 1)

/-- Is the word `w` at word `pc` of gaffer `n` valid, but for the RUN checks of R102? -/
def State.wordValid (s : State) (n pc w : Nat) : Bool := gafValid (s.dual n) pc (s.progWord n (slice w 24 16)) w

/-- Execute one instruction of gaffer `n` where the valid word at its PC has opcode `op`; `f` gets the word. -/
def State.instr (s : State) (n op : Nat) (f : Nat → State → State) : State :=
  let w := s.progWord n (s.pcOf n)
  if s.issues n && !(s.gaf n).past && gafOp w == op && s.wordValid n (s.pcOf n) w then f w s else s

/-- PROGRAM_ERROR: a run past word 511, a word that fails parity (`w` none), or a word that has changed to an invalid one
(R106). A RUN that breaks item 3 or 4 of R99 is CAUSE 5 and is the RUN command's own outcome (R102). -/
def execProgramError (n : Fin 16) (w : Option (BitVec 32)) (s : State) : Answer :=
  act s fun s =>
    if !s.issues n then s
    else if (s.gaf n).past then s.progErr n 6 511
    else
      match w with
      | none => s.progErr n 2 (s.pcOf n)
      | some w =>
        if s.wordValid n (s.pcOf n) w.toNat then s
        else (s.setReg (0x100800 + 0x10000 * (n % 16) + 4 * (s.pcOf n % 512)) w).progErr n 1 (s.pcOf n)

/-! ### The trigger queue and overruns (R107–R113) -/

/-- Write an entry of the skip log (R112). -/
def State.skipLog (s : State) (n line : Nat) (master localSkip merged : Bool) : State :=
  let p := s.rd (F.GAF_LOG_PTR_SKIP_PTR n)
  let hi := line / 2 ^ 32 % 2 ^ 16 + 2 ^ 24 * b2n merged + 2 ^ 25 * b2n localSkip + 2 ^ 26 * b2n master
  let s1 := (s.setWords (0x101000 + 0x10000 * (n % 16) + 8 * (p % 256)) [line, hi]).wr (F.GAF_LOG_PTR_SKIP_PTR n) (p + 1)
  if p = 255 then s1.wr (F.GAF_LOG_PTR_SKIP_WRAPPED n) 1 else s1

/-- The traces of a skip or merge but for its counter (R112). -/
def State.overrunTrace (s : State) (n line : Nat) (master localSkip merged : Bool) : State :=
  let s1 := (s.skipLog n line master localSkip merged).wr (F.GAF_STATUS_OVERRUN n) 1
  (s1.setGaf n { s1.gaf n with overrunSeen := true }).raise (Ev.GAF n 2)

/-- A trigger is skipped (R110, R112, R113); a local skip goes into the next STATUS (R182). -/
def State.skip (s : State) (n line : Nat) (master localSkip : Bool) : State :=
  let s1 := (s.bump (F.GAF_SKIP_CNT_COUNT n)).overrunTrace n line master localSkip false
  if localSkip then
    let s2 := (s1.withTb { s1.tb with skipped := setBitTo s1.tb.skipped n true })
    (s2.bump (F.GAF_LOCAL_SKIP_CNT_COUNT n)).raise (Ev.GAF n 3)
  else s1

/-- Add one line to the newest entry (R111). -/
def mergeLast : List TrigEntry → List TrigEntry
  | [] => []
  | [e] => [{ e with count := e.count + 1, merged := true }]
  | e :: es => e :: mergeLast es

/-- A trigger is merged into the newest entry; one that would pass 255 lines is skipped (R111). -/
def State.merge (s : State) (n line : Nat) (master localSkip : Bool) : State :=
  match (s.gaf n).queue.getLast? with
  | none => s.skip n line master localSkip
  | some e =>
    if e.count ≥ 255 then s.skip n line master localSkip
    else ((s.setQueue n (mergeLast (s.gaf n).queue)).bump (F.GAF_MERGE_CNT_COUNT n)).overrunTrace n line master localSkip
      true

/-- The effective overrun depth (R110). -/
def State.ovrDepth (s : State) (n : Nat) : Nat :=
  let d := s.rd (F.GAF_CTRL_OVR_DEPTH n)
  if 1 ≤ d ∧ d ≤ 8 then d else 8

/-- A trigger enters the queue. -/
def State.enqueue (s : State) (n line : Nat) : State := s.setQueue n ((s.gaf n).queue ++ [⟨line, 1, false⟩])

/-- What R110 and R111 would do with one more trigger at gaffer `n`, as the mark of R181: 0 nothing, 1 skip, 2 merge. DESIGN
CHOICE (log entry 124): a queue that is longer than the effective depth, which a write of OVR_DEPTH can bring about, counts
as one that equals it. -/
def State.policyMark (s : State) (n : Nat) : Nat :=
  if (s.gaf n).queue.length < s.ovrDepth n then 0
  else if s.on (F.GAF_CTRL_POLICY n) then
    match (s.gaf n).queue.getLast? with
    | some e => if e.count ≥ 255 then 1 else 2
    | none => 1
  else 1

/-- A member treats a line by the master's mark (R113); `target` is the line of the master's newest entry. -/
def State.byMark (s : State) (n line mark target : Nat) : State :=
  if mark = 1 then s.skip n line true false
  else if mark = 2 then
    match (s.gaf n).queue.getLast? with
    | some e => if e.line = target then s.merge n line true false else s.skip n line false true
    | none => s.skip n line false true
  else if (s.gaf n).queue.length ≥ 8 then s.skip n line false true
  else s.enqueue n line

/-- A released line trigger reaches gaffer `n` (R107, R108, R110–R113). -/
def State.trigger (s : State) (n line mark target : Nat) : State :=
  if !s.on (F.GAF_CTRL_TRIG_EN n) then s
  else if s.run n ≤ 1 || s.run n == 5 then s.bump (F.GAF_TRIG_DISC_CNT_COUNT n)
  else if s.on (F.GAF_CTRL_LOCKSTEP n) then s.byMark n line mark target
  else
    match s.policyMark n with
    | 0 => s.enqueue n line
    | 1 => s.skip n line false false
    | _ => s.merge n line false false

/-- A released line reaches every gaffer in index order (R160). -/
def State.gaffersTake (s : State) (h : Held) : State :=
  forEach (upTo 16) (fun n s =>
    s.trigger n h.line (slice h.marks (2 * n + 1) (2 * n))
      (((h.targets.find? fun x => x.1 == n).map fun x => x.2).getD 0)) s

/-- A line is released to the gaffers; while the step clock is stopped it waits in the timebase crossing (R355). -/
def State.toGaffers (s : State) (h : Held) : State :=
  if s.clockStopped then s.withPwr { s.pwr with crossing := s.pwr.crossing ++ [h] } else s.gaffersTake h

/-- The lines in the crossing enter the queues in release order, in the first step after the restart (R355). -/
def State.drainCrossing (s : State) : State :=
  forEach s.pwr.crossing (fun h s => s.gaffersTake h) (s.withPwr { s.pwr with crossing := [] })

/-! ### Attachment (R103) -/

/-- Mark the attached cycle with `f`; none where no cycle qualifies. -/
def Gaffer.attach (g : Gaffer) (f : Cycle → Cycle) : Option Gaffer :=
  match g.next with
  | some c => some { g with next := some (f c) }
  | none => if g.phase = .window then some { g with cur := f g.cur } else none

/-! ### RUN (R101, R102, R115, R116, R326) -/

/-- Apply the armed switch of gaffer `n` (R116). -/
def State.applySwitch (s : State) (n : Nat) : State :=
  let at_ := s.rd (F.GAF_SWITCH_LINE_LO_AT_LINE_LO n) + 2 ^ 32 * s.rd (F.GAF_SWITCH_LINE_HI_AT_LINE_HI n)
  let win := s.rd (F.GAF_SWITCH_WIN n)
  let ready := if win = 1 then s.on (F.GAF_STATUS_READY_B n) else s.on (F.GAF_STATUS_READY_A n)
  if s.on (F.GAF_SWITCH_ARM n) && decide (at_ ≤ s.lineOf n) then
    if ready then ((s.wr (F.GAF_STATUS_SEL n) win).wr (F.GAF_SWITCH_ARM n) 0).raise (Ev.GAF n 6)
    else s.wr (F.GAF_STATUS_SWITCH_WAIT n) 1
  else s

/-- A RUN holds while an issued cycle has not reached its b0, and during a DM clear (R100). -/
def State.runHolds (s : State) (n : Nat) : Bool :=
  let g := s.gaf n
  g.next.isSome || decide (g.phase = .window) || g.dmClear

/-- Issue a cycle (R101). -/
def State.issueCycle (s : State) (n : Nat) (win : Bool) : State :=
  let g := s.gaf n
  let c : Cycle := ⟨win, g.xchgNext, []⟩
  let s1 := s.setGaf n { g with xchgNext := false }
  if g.phase = .none then s1.dispatch n c else s1.setGaf n { s1.gaf n with next := some c }

/-- RUN. A window or length that fails R99, or a window not READY, issues no cycle: CAUSE 5 (R102). -/
def execRun (n : Fin 16) (s : State) : Answer :=
  act s fun s => s.instr n 3 fun w s =>
    if s.windowOpen then s.holdRun (2 * n + 1)
    else if s.runHolds n then s
    else if !s.dual n && slice w 25 24 != 0 then s.progErr n 5 (s.pcOf n)
    else
      let s1 := if slice w 25 24 = 2 then s.applySwitch n else s
      let win := if slice w 25 24 = 2 then s1.on (F.GAF_STATUS_SEL n) else slice w 25 24 == 1
      let ready := if win then s1.on (F.GAF_STATUS_READY_B n) else s1.on (F.GAF_STATUS_READY_A n)
      if runValid (s1.dual n) w (s1.lenCode n win) && ready then (s1.advance n).issueCycle n win
      else s1.progErr n 5 (s1.pcOf n)

/-! ### The other instructions (R98) -/

/-- NOP. -/
def execGafferNop (n : Fin 16) (s : State) : Answer := act s fun s => s.instr n 0 fun _ s => s.advance n

/-- WAIT_TRIG (R108, R109, R111). -/
def execWaitTrig (n : Fin 16) (s : State) : Answer :=
  act s fun s => s.instr n 1 fun _ s =>
    match (s.gaf n).queue with
    | [] => s
    | e :: es =>
      let s1 := (s.setQueue n es).setReg (0x100018 + 0x10000 * (n % 16)) (BitVec.ofNat 32 e.line)
      let s2 := s1.setReg (0x10001c + 0x10000 * (n % 16)) (BitVec.ofNat 32 (2 ^ 24 * e.count + e.line / 2 ^ 32 % 2 ^ 16))
      let s3 := if e.merged then s2.setGaf n { s2.gaf n with mergeNotes := (s2.gaf n).mergeNotes ++ [e.count] } else s2
      s3.advance n

/-- WAIT_EVT (R114): the lowest condition of MASK with a nonzero count is consumed. -/
def execWaitEvt (n : Fin 16) (s : State) : Answer :=
  act s fun s => s.instr n 2 fun w s =>
    match firstIdx 8 fun k => bit w k && decide (s.rd (evtPendFld n k) ≠ 0) with
    | none => s
    | some k => ((s.wr (evtPendFld n k) (s.rd (evtPendFld n k) - 1)).wr (F.GAF_STATUS_LAST_COND n) k).advance n

/-- SELECT_WINDOW (R115). -/
def execSelectWindow (n : Fin 16) (s : State) : Answer :=
  act s fun s => s.instr n 4 fun w s =>
    let v := if slice w 1 0 = 3 then 1 - s.rd (F.GAF_STATUS_SEL n) else slice w 1 0
    (s.wr (F.GAF_STATUS_SEL n) v).advance n

/-- LOOP (R117); a fifth level is a program error. -/
def execLoop (n : Fin 16) (s : State) : Answer :=
  act s fun s => s.instr n 5 fun w s =>
    let c := slice w 15 0
    if c = 0 then s.goto n (slice w 24 16 + 1)
    else if (s.gaf n).loops.length ≥ 4 then s.progErr n 3 (s.pcOf n)
    else (s.setLoops n ((c, s.pcOf n + 1) :: (s.gaf n).loops)).advance n

/-- ENDLOOP (R117); with no open loop it is a program error. -/
def execEndloop (n : Fin 16) (s : State) : Answer :=
  act s fun s => s.instr n 6 fun _ s =>
    match (s.gaf n).loops with
    | [] => s.progErr n 4 (s.pcOf n)
    | (c, a) :: ls => if c > 1 then (s.setLoops n ((c - 1, a) :: ls)).goto n a else (s.setLoops n ls).advance n

/-- Put the INJECTs in flight; INJ_BUSY follows. -/
def State.setInjects (s : State) (n : Nat) (l : List Inject) : State :=
  (s.setGaf n { s.gaf n with injects := l }).wr (F.GAF_STATUS_INJ_BUSY n) (b2n (!l.isEmpty))

/-- INJECT (R118): it holds while two are in flight; a bad descriptor is a transfer error and writes nothing. -/
def execInject (n : Fin 16) (s : State) : Answer :=
  act s fun s => s.instr n 7 fun w s =>
    let k := slice w 2 0
    let len := s.rd (F.GAF_INJ_HI_LEN n k)
    let a := 64 * s.rd (F.GAF_INJ_LO_ADDR_LO n k) + 2 ^ 32 * s.rd (F.GAF_INJ_HI_ADDR_HI n k)
    if (s.gaf n).injects.length ≥ 2 then s
    else if !s.on (F.GAF_INJ_HI_VALID n k) || len == 0 || decide (29 < len) || !inHbm a (64 * len) then
      (s.raise (Ev.GAF n 5)).advance n
    else
      (s.setInjects n ((s.gaf n).injects ++ [⟨a, len, s.lineOf n, s.rd (F.GAF_LINE_HI_COUNT n)⟩])).advance n

/-- Deliver the blocks of an INJECT from its `i`-th, stopping at an uncorrectable one; was every block delivered? -/
def State.injectBlocks (s : State) (n : Nat) (j : Inject) (i : Nat) : Nat → State × Bool
  | 0 => (s, true)
  | m + 1 =>
    match s.hbmRead (j.addr + 64 * i) 64 with
    | (s1, true, _) => (s1, false)
    | (s1, false, bs) =>
      State.injectBlocks (forEach (s1.regionTiles n) (fun t s => s.gobInWrite t (64 + 64 * i) bs) s1) n j (i + 1) m

/-- INJECT_DELIVERY_END of the oldest INJECT in flight (R118), with the upsets its HBM read meets. It ends once its stacks
answer. -/
def execInjectDeliveryEnd (n : Fin 16) (up : Upsets) (s : State) : Answer :=
  act s fun s =>
    match (s.gaf n).injects with
    | [] => s
    | j :: js =>
      (s.upsets (upsetList up)).onceHbm j.addr (64 * j.len) fun s =>
        match (s.setInjects n js).injectBlocks n j 0 j.len with
        | (s3, false) => s3.raise (Ev.GAF n 5)
        | (s3, true) =>
          let hdr := 1 + 2 * b2n (decide (1 < j.count)) + 2 ^ 8 * j.count + 2 ^ 16 * j.line
          forEach (s3.regionTiles n) (fun t s => s.gobInCloseAt t hdr) s3

/-- COMMIT (R119). -/
def execCommit (n : Fin 16) (s : State) : Answer :=
  act s fun s => s.instr n 8 fun w s =>
    let k := slice w 1 0
    match (s.gaf n).attach fun c => { c with commits := c.commits ++ [k] } with
    | some g => (s.setGaf n g).advance n
    | none => (s.startDrain n k).advance n

/-- XCHG (R120). -/
def execXchg (n : Fin 16) (s : State) : Answer :=
  act s fun s => s.instr n 9 fun _ s =>
    match (s.gaf n).attach fun c => { c with xchg := true } with
    | some g => (s.setGaf n g).advance n
    | none => (s.setGaf n { s.gaf n with xchgNext := true }).advance n

/-- SIGNAL (R121). -/
def execSignal (n : Fin 16) (s : State) : Answer :=
  act s fun s => s.instr n 10 fun w s => (s.raise (Ev.GAF n (slice w 0 0))).advance n

/-- SET_STALL (R122). -/
def execSetStall (n : Fin 16) (s : State) : Answer :=
  act s fun s => s.instr n 11 fun w s => (s.wr (F.GAF_STALL_BOUND_BOUND n) (slice w 15 0)).advance n

/-- MARK (R121). -/
def execMark (n : Fin 16) (s : State) : Answer :=
  act s fun s => s.instr n 12 fun w s =>
    let p := s.rd (F.GAF_LOG_PTR_TRACE_PTR n)
    let line := s.lineOf n
    let e := [line, line / 2 ^ 32 + 2 ^ 16 * s.rd (F.GAF_LINE_HI_COUNT n) + 2 ^ 24 * slice w 7 0,
      s.cycles n, s.rd (F.GAF_STATUS_WIN n) + 2 * s.rd (F.GAF_STATUS_OVERRUN n)]
    let s1 := (s.setWords (0x102000 + 0x10000 * (n % 16) + 16 * (p % 256)) e).wr (F.GAF_LOG_PTR_TRACE_PTR n) (p + 1)
    (if p = 255 then s1.wr (F.GAF_LOG_PTR_TRACE_WRAPPED n) 1 else s1).advance n

/-- JUMP. -/
def execJump (n : Fin 16) (s : State) : Answer :=
  act s fun s => s.instr n 13 fun w s => s.goto n (slice w 8 0)

/-- HALT (R105): it holds until every issued cycle has completed its b23. -/
def execHalt (n : Fin 16) (s : State) : Answer :=
  act s fun s => s.instr n 14 fun _ s =>
    if (s.gaf n).phase = .none && (s.gaf n).next.isNone then s.halted n 0 1 else s

end Sys2Proof.Machine
end

