-- ==== Sys2Proof/Machine/Gather.lean ====
section
/-!
DEFINITION. Gather banks and pixel-bus source ports (R188–R194): training, eye tracking, the word ports, the tags of
lines, and the rows a marver unit takes from its port up to their correction (R195–R198).
-/

namespace Sys2Proof.Machine

/-! ### Training and tracking (R188–R190) -/

/-- The enabled data lanes of bank `g`: in FWD mode bit 23 of LANE_EN is ignored (R188). -/
def State.lanes (s : State) (g : Nat) : List Nat :=
  bitsOf (if s.rd (F.GTH_CTRL_CLK_MODE g) = 1 then 23 else 24) (s.rd (F.GTH_LANE_EN_LANES g))

/-- Is the pixel path on (R363)? It is off while no bank and no marver unit is enabled or at work. -/
def State.pixelOn (s : State) : Bool :=
  ((upTo 4).any fun g => s.on (F.GTH_CTRL_EN g)) ||
    (upTo 16).any fun m => s.on (F.MRV_CTRL_EN m) || s.on (F.MRV_STATUS_ACTIVE m)

/-- Training of bank `g` starts (R189): no lane is aligned until it ends. -/
def State.startTraining (s : State) (g : Nat) : State :=
  (((s.wr (F.GTH_CTRL_TRAIN g) 1).wr (F.GTH_STATUS_TRAIN_BUSY g) 1).wr (F.GTH_STATUS_TRAINED g) 0).wr
    (F.GTH_LANE_LOCK_LOCK g) 0

/-- Does a lane's training pass (R189)? A pair marked in the cullet map never locks (R402), nor does one of a bank that is not in use,
which is unterminated (R336; log entry 136). -/
def State.lanePasses (s : State) (g i : Nat) (r : LaneTrain) : Bool :=
  r.ok && s.on (F.GTH_CTRL_EN g) && !bit s.cstore.cullet.pairs (24 * g + i) && decide (s.rd (F.GTH_TRAIN_CFG_EYE_MIN g) ≤ r.eye.val)

/-- Record the training of one lane (R189). -/
def State.laneTrained (s : State) (g i : Nat) (r : LaneTrain) : State :=
  let s1 := (s.wr (F.GTH_LANE_EYE_TAP g i) r.tap).wr (F.GTH_LANE_EYE_EYE g i) r.eye
  if s.lanePasses g i r then
    (s1.wr (F.GTH_LANE_EYE_SLIP g i) r.slip).wr (F.GTH_LANE_LOCK_LOCK g)
      (setBitTo (s1.rd (F.GTH_LANE_LOCK_LOCK g)) i true)
  else s1

/-- A lane that found nothing to align to. -/
def noTrain : LaneTrain := ⟨false, 0, 0, 0⟩

/-- GTH_TRAIN_DONE (R189): what each lane found, a lane not named having found nothing. -/
def execGthTrainDone (g : Fin 4) (lanes : List LaneTrain) (s : State) : Answer :=
  act s fun s =>
    if !s.on (F.GTH_STATUS_TRAIN_BUSY g) || !s.pixelOn then s
    else
      let used := (s.lanes g).map fun i => (i, lanes.getD i noTrain)
      let s1 := forEach used (fun x s => s.laneTrained g x.1 x.2) s
      let s2 := ((s1.wr (F.GTH_CTRL_TRAIN g) 0).wr (F.GTH_STATUS_TRAIN_BUSY g) 0).wr (F.GTH_STATUS_TRAINED g) 1
      let s3 := if used.all fun x => s.lanePasses g x.1 x.2 then s2
        else (s2.wr (F.GTH_STATUS_TRAIN_FAIL g) 1).raise (Ev.GTH_TRAIN_FAIL g)
      (s3.raise (Ev.GTH_TRAIN_DONE g)).tryEndWake

/-- A lane loses its alignment (R190). -/
def State.loseLane (s : State) (g i : Nat) : State :=
  let s1 := s.wr (F.GTH_LANE_LOCK_LOCK g) (setBitTo (s.rd (F.GTH_LANE_LOCK_LOCK g)) i false)
  ((s1.bump (F.GTH_ALIGN_LOST_CNT_COUNT g)).wr (F.GTH_STATUS_ALIGN_LOST g) 1).raise (Ev.GTH_ALIGN_LOST g)

/-- EYE_TRACK (R190): at most one tap a microsecond toward the centre; out of range or too narrow, the lane is lost. -/
def execEyeTrack (g : Fin 4) (lane : Fin 24) (dir : Option Bool) (eye : Fin 64) (s : State) : Answer :=
  act s fun s =>
    let tap := s.rd (F.GTH_LANE_EYE_TAP g lane)
    if !s.on (F.GTH_CTRL_TRACK g) || !s.on (F.GTH_CTRL_EN g) || !bit (s.rd (F.GTH_LANE_LOCK_LOCK g)) lane then s
    else if eye.val < s.rd (F.GTH_TRAIN_CFG_EYE_MIN g) then s.loseLane g lane
    else
      match dir with
      | none => s
      | some true => if tap = 63 then s.loseLane g lane else s.wr (F.GTH_LANE_EYE_TAP g lane) (tap + 1)
      | some false => if tap = 0 then s.loseLane g lane else s.wr (F.GTH_LANE_EYE_TAP g lane) (tap - 1)

/-! ### The word port (R191) -/

/-- Is partition `k` released (R237, R340)? -/
def State.partReleased (s : State) (k : Nat) : Bool := bit (s.rd F.CFG_FAB_STAT_RELEASED) k

/-- The bits of a lane word: the ratio of the deserialiser (R188). -/
def State.ratio (s : State) (g : Nat) : Nat :=
  match s.rd (F.GTH_CTRL_RATIO g) with
  | 0 => 8 | 1 => 10 | _ => 12

/-- LANE_WORD (R191) of a bank in use (R336): an aligned lane's word goes out at the word port, or is discarded while that is not released. -/
def execLaneWord (g : Fin 4) (lane : Fin 24) (w : BitVec 12) (s : State) : Answer :=
  act s fun s =>
    if !bit (s.rd (F.GTH_LANE_LOCK_LOCK g)) lane || !s.on (F.GTH_CTRL_EN g) then s
    else if s.partReleased g then s.emit (.word g lane (w.toNat % 2 ^ s.ratio g))
    else
      let s1 := (s.bump (F.GTH_DISCARD_CNT_COUNT g)).wr (F.GTH_STATUS_DISCARD g) 1
      if mayRaise (Tab.get (fun _ => none) s.discardEv g) s.real 10000000 then
        (s1.withDiscardEv (Tab.set (fun _ => none) s1.discardEv g (some s.real))).raise (Ev.GTH_DISCARD g)
      else s1

/-! ### Source ports and tags (R192–R194) -/

/-- Source port `k` beside its registers. -/
def State.pb (s : State) (k : Nat) : Pbs := Tab.get (fun _ => Pbs.init) s.pbs k

/-- Put source port `k`. -/
def State.setPb (s : State) (k : Nat) (x : Pbs) : State := s.withPbs (Tab.set (fun _ => Pbs.init) s.pbs k x)

/-- Put the tags of a port; TAGQ reports their number. -/
def State.setTags (s : State) (k : Nat) (l : List Tag) : State :=
  (s.setPb k { s.pb k with tags := l }).wr (F.GTH_PBS_STAT_TAGQ (k / 2) (k % 2)) l.length

/-- A tag was discarded or a line untagged (R194). -/
def State.tagErr (s : State) (k : Nat) : State :=
  ((s.bump (F.GTH_TAG_ERR_CNT_COUNT (k / 2) (k % 2))).wr (F.GTH_PBS_STAT_TAG_ERR (k / 2) (k % 2)) 1).raise
    (Ev.PBS_TAG_ERR k)

/-- Is source port `k` in use? -/
def State.pbOn (s : State) (k : Nat) : Bool := s.on (F.GTH_PBS_CTRL_EN (k / 2) (k % 2))

/-- A release of a line pushes its tag into every enabled port; a full queue loses its oldest (R194). -/
def State.pushTags (s : State) (line time : Nat) : State :=
  forEach (upTo 8) (fun k s =>
    let t : Tag := ⟨line, time, time - s.tb.stepped⟩
    if !s.pbOn k || !s.pixelOn then s
    else if (s.pb k).tags.length ≥ 8 then (s.tagErr k).setTags k ((s.pb k).tags.tail ++ [t])
    else s.setTags k ((s.pb k).tags ++ [t])) s

/-- Discard the tags at the front that are older than TAG_AGE (R194). -/
def State.dropAged (s : State) (k : Nat) : List Tag → State
  | [] => s.setTags k []
  | t :: ts =>
    if t.real + 100 * s.rd (F.GTH_PBS_CTRL_TAG_AGE (k / 2) (k % 2)) < s.real then (s.tagErr k).dropAged k ts
    else s.setTags k (t :: ts)

/-- A line starts on port `k` and is given its index (R194). The release time of an untagged line is a free value. DESIGN CHOICE
(log entry 150): the line before the first is 0, and tags stay queued while the port's EN is 0. -/
def State.tagLine (s : State) (k : Nat) : State :=
  let s1 := s.dropAged k (s.pb k).tags
  match (s1.pb k).tags with
  | t :: ts =>
    (s1.setTags k ts).setPb k
      { (s1.setTags k ts).pb k with line := t.line, time := t.time, untagged := false, syncSeen := false }
  | [] =>
    let s2 := (s1.tagErr k).drawn
    s2.setPb k { s2.pb k with
      line := ((s2.pb k).line + 1) % 2 ^ 48, time := s1.draw % 2 ^ 64, untagged := true, syncSeen := false }

/-- The decoder signals a sync error: a line counts once (R193). -/
def State.syncError (s : State) (k : Nat) : State :=
  if (s.pb k).syncSeen then s
  else
    let s1 := (s.setPb k { s.pb k with syncSeen := true }).bump (F.GTH_SYNC_ERR_CNT_COUNT (k / 2) (k % 2))
    let s2 := s1.wr (F.GTH_PBS_STAT_SYNC_ERR (k / 2) (k % 2)) 1
    if mayRaise (s2.pb k).syncEv s2.real 10000 then
      (s2.setPb k { s2.pb k with syncEv := some s2.real }).raise (Ev.PBS_SYNC_ERR k)
    else s2

/-- A unit finds a beat error on port `k` (R193). -/
def State.formatError (s : State) (k : Nat) : State :=
  let s1 := (s.bump (F.GTH_FORMAT_CNT_COUNT (k / 2) (k % 2))).wr (F.GTH_PBS_STAT_FORMAT (k / 2) (k % 2)) 1
  if mayRaise (s1.pb k).formatEv s1.real 10000 then
    (s1.setPb k { s1.pb k with formatEv := some s1.real }).raise (Ev.PBS_FORMAT k)
  else s1

/-! ### A marver unit's input (R195, R196, R198) -/

/-- Marver unit `m` beside its registers. -/
def State.mu (s : State) (m : Nat) : Marver := Tab.get (fun _ => Marver.init) s.mrv m

/-- Put marver unit `m`. -/
def State.setMu (s : State) (m : Nat) (x : Marver) : State := s.withMrv (Tab.set (fun _ => Marver.init) s.mrv m x)

/-- Raise MRV_ERR with the status bit that says why (R214). -/
def State.mrvErr (s : State) (m : Nat) (why : Nat → Fld) : State := (s.wr (why m) 1).raise (Ev.MRV_ERR m)

/-- The pack group of a region: its units, lowest first (R208). -/
def State.packGroup (s : State) (n : Nat) : List Nat :=
  (upTo 16).filter fun m => s.on (F.MRV_CTRL_PACK_EN m) && s.rd (F.MRV_CTRL_REGION m) == n

/-- The leader of unit `m`'s group; `m` itself where it is in none. -/
def State.packLeader (s : State) (m : Nat) : Nat := ((s.packGroup (s.rd (F.MRV_CTRL_REGION m))).head?).getD m

/-- STATUS.LEADER of every unit (R208). -/
def State.markLeaders (s : State) : State :=
  forEach (upTo 16) (fun m s => s.wr (F.MRV_STATUS_LEADER m)
    (b2n (s.on (F.MRV_CTRL_PACK_EN m) && s.packLeader m == m))) s

/-- The slots S of a group, by its leader (R208, R213). -/
def State.packSlots (s : State) (l : Nat) : Nat := max 1 (min 32 (s.rd (F.MRV_PACK_SLOTS l)))

/-- The bits F of a feature vector, by the leader's FEAT (R208). -/
def State.featBits (s : State) (l : Nat) : Nat :=
  let f := s.rd (F.MRV_PACK_FEAT l)
  64 * b2n (bit f 0) + 64 * b2n (bit f 1) + 256 * b2n (bit f 2) + 256 * b2n (bit f 3)

/-- A base address of 35 bits from its two registers; `unit` is the weight of the low field. -/
def State.mrvAddr (s : State) (lo hi : Fld) (unit : Nat) : Nat := unit * s.rd lo + 2 ^ 32 * s.rd hi

/-- The patch area, the patch headers and the record ring of a unit (R206, R207). -/
def State.patchBase (s : State) (m : Nat) : Nat := s.mrvAddr (F.MRV_PATCH_BASE_LO_BASE_LO m) (F.MRV_PATCH_BASE_HI_ADDR_HI m) 8192

/-- Where the patch headers lie. -/
def State.patchHdr (s : State) (m : Nat) : Nat := s.mrvAddr (F.MRV_PATCH_HDR_LO_ADDR_LO m) (F.MRV_PATCH_HDR_HI_ADDR_HI m) 64

/-- Where the candidate records lie. -/
def State.crecBase (s : State) (m : Nat) : Nat := s.mrvAddr (F.MRV_CREC_BASE_LO_ADDR_LO m) (F.MRV_CREC_BASE_HI_ADDR_HI m) 64

/-- The patches a unit's area holds (R213). -/
def State.patchSlots (s : State) (m : Nat) : Nat := 2 ^ max 4 (min 16 (s.rd (F.MRV_PATCH_CFG_LOG2N m)))

/-- The records a unit's ring holds (R213). -/
def State.crecSlots (s : State) (m : Nat) : Nat := 2 ^ max 8 (min 20 (s.rd (F.MRV_CREC_CFG_LOG2N m)))

/-- The checks of R196. -/
def State.mrvConfigOk (s : State) (m : Nat) : Bool :=
  let span := s.rd (F.MRV_SPAN m)
  let first := s.rd (F.MRV_SPAN_COL_FIRST m)
  let areas := inHbm (s.patchBase m) (8192 * s.patchSlots m) && inHbm (s.patchHdr m) (64 * s.patchSlots m) &&
    inHbm (s.crecBase m) (64 * s.crecSlots m)
  let leads := s.on (F.MRV_CTRL_PACK_EN m) && s.packLeader m == m
  let fits := decide (s.featBits m * s.packSlots m ≤ 14848) && (s.packGroup (s.rd (F.MRV_CTRL_REGION m))).all fun u =>
    s.rd (F.MRV_PACK_SLOT_CNT u) == 0 || decide (s.rd (F.MRV_PACK_SLOT_BASE u) + s.rd (F.MRV_PACK_SLOT_CNT u) ≤ s.packSlots m)
  span != 0 && span % 2 == 0 && decide (span ≤ 4096) && first % 2 == 0 && decide (first + span ≤ 8192) && areas &&
    (!leads || fits)

/-- A unit that waits for an SOL activates or refuses (R196). -/
def State.tryActivate (s : State) (m : Nat) : State :=
  if !(s.mu m).want then s
  else
    let s1 := s.setMu m { s.mu m with want := false }
    if s1.mrvConfigOk m then
      (s1.setMu m { s1.mu m with
        inRow := false, count := 0, history := [], classes := [], level := 0, fifo := [], tracked := [],
        tall := [] }).wr
        (F.MRV_STATUS_ACTIVE m) 1
    else s1.mrvErr m F.MRV_STATUS_CFG_ERR

/-- Column correction of pixel `x` in span column `j` (R198). -/
def State.correct (s : State) (m j x : Nat) : Nat :=
  if !s.on (F.MRV_CORR_CORR_EN m) then x
  else
    let e := s.rd (F.MRV_COLUMN_ENTRY m j)
    let c := (((x : Int) - toSigned 16 (e % 2 ^ 16)) * (e / 2 ^ 16 : Nat) + 8192) / 2 ^ 14
    (min (max c 0) 65535).toNat

/-- The FIFO's fill now, in 1/25 pixel: it is drained at 2 pixels a clock of 1.25 ns, 4/25 pixel per 100 ps (R195). -/
def Marver.fill (x : Marver) (now : Nat) : Nat := x.level - 4 * (now - x.levelAt)

/-- The pixels that have left a unit's FIFO by now enter it: each is corrected as its column stands (R197, R198). -/
def State.drainFifo (s : State) (m : Nat) : State :=
  let u := s.mu m
  let gone := u.fifo.length - (u.fill s.real + 24) / 25
  let taken := (u.fifo.take gone).map fun p => (p.1, s.correct m p.1 p.2)
  s.setMu m { u with fifo := u.fifo.drop gone, row := taken.reverse ++ u.row }

/-- One pixel in the span reaches the FIFO (R195). -/
def State.takePixel (s : State) (m j x : Nat) : State :=
  let s1 := s.drainFifo m
  let u := s1.mu m
  let fill := u.fill s.real
  if fill > 25 * 2047 then
    ((s1.setMu m { u with level := fill, levelAt := s.real, rowTaint := true }).bump (F.MRV_FIFO_OVF_CNT_COUNT m)).mrvErr m
      F.MRV_STATUS_FIFO_OVF
  else s1.setMu m { u with level := fill + 25, levelAt := s.real, fifo := u.fifo ++ [(j, x)] }

end Sys2Proof.Machine
end

