-- ==== Sys2Proof/Machine/Marver.lean ====
section
/-!
DEFINITION. The stages of a marver unit (R195–R211): rows and rings, convolution, threshold and extraction, candidate
records, patches, and the packing of batches into gobs. A row is processed whole when its line ends.
-/

namespace Sys2Proof.Machine

/-! ### Raw-line rings (R142–R144, R199) -/

/-- The header writer of a ring begins a line: it takes the descriptor, and while EN is 1 writes the header with VALID 0 (R143,
R144). -/
def State.ringBegin (s : State) (m : Nat) : State :=
  let k := s.rd (F.MRV_CTRL_RING m)
  if (s.ringWriters k).head? = some m then
    let u := s.mu m
    let d := s.ringDesc k
    let s1 := s.setRing k { s.ring k with desc := d }
    if d.live then
      let l := { (s1.ring k).lineOf ⟨u.rowLine, u.rowTime, false, true, d, []⟩ with begun := true, desc := d }
      (s1.setRing k ((s1.ring k).putLine l)).unitWrite m l.headerAt ({ l with taint := l.taint || u.rowTaint }.header false) .none
    else s1
  else s

/-- A row's pixels in the format of RINGOUT.FMT, two by two for FMT 1 (R199). -/
def ringPixels (fmt : Nat) : List Nat → List Byte
  | [] => []
  | [c] => if fmt = 0 then leBytes 1 (min c 4095 / 16) else if fmt = 2 then leBytes 2 c else leBytes 3 (min c 4095)
  | c :: d :: cs =>
    (if fmt = 0 then leBytes 1 (min c 4095 / 16) ++ leBytes 1 (min d 4095 / 16)
     else if fmt = 2 then leBytes 2 c ++ leBytes 2 d
     else leBytes 3 (min c 4095 + min d 4095 * 4096)) ++ ringPixels fmt cs

/-- Bytes padded with 0 to whole 64-byte blocks. -/
def padBlock (bs : List Byte) : List Byte := bs ++ List.replicate ((64 - bs.length % 64) % 64) 0

/-- A unit's row is written into its ring, if that was enabled when the line was begun and still is, as the descriptor of the
line has it; the last writing unit's last pixels complete the line once they are performed (R143, R144, R199). A row that falls
outside HBM is refused (R23). -/
def State.ringRow (s : State) (m : Nat) (row : Row) (time : Nat) : State :=
  let k := s.rd (F.MRV_CTRL_RING m)
  let l := (s.ring k).lineOf ⟨row.line, time, false, false, (s.ring k).desc, []⟩
  if !s.on (F.MRV_CTRL_RING_EN m) || !s.on (F.HBM_RING_BASE_HI_EN 0 k) || !l.desc.live then s
  else
    let bs := padBlock (ringPixels (s.rd (F.MRV_RINGOUT_FMT m)) row.pix)
    let a := l.desc.base + row.line % 2 ^ l.desc.log2n * (l.desc.stride * 256) + 64 * s.rd (F.MRV_RINGOUT_OFFSET m)
    (s.setRing k ((s.ring k).putLine l)).unitWrite m a bs (.row m k row.line row.taint)

/-! ### Windows of rows -/

/-- A row with free values beyond the span, for a window wider than the span: the spec states no pixel there. -/
def State.padRow (s : State) (span bound : Nat) (r : Row) : List Nat :=
  r.pix ++ (if span < 64 then (upTo 64).map fun j => Config.freeValue (s.free + j) % bound else [])

/-- Count the free values of a window wider than the span. -/
def State.padded (s : State) (span width : Nat) : State := if span < width then s.withFree (s.free + 64) else s

/-- The first column of a window of `width` columns that starts `left` before the centre, shifted inside the span by the
least amount (R207, R208), and whether it was shifted. -/
def windowCol (span width left centre : Nat) : Nat × Bool :=
  let w := min (centre - left) (span - width)
  (w, decide (w + left ≠ centre))

/-- The row of line `line` among rows. -/
def rowOf (rows : List Row) (line : Nat) : Option Row := rows.find? fun r => r.line == line

/-- Line arithmetic modulo 2^48. -/
def lineAt (last : Nat) (d : Int) : Nat := (((last : Int) + d) % (2 ^ 48 : Nat)).toNat

/-! ### Patches (R207) -/

/-- Write a patch's header. -/
def State.writePatchHdr (s : State) (m : Nat) (p : Patch) (valid : Bool) : State :=
  let w := p.last + 2 ^ 48 * b2n valid + 2 ^ 49 * b2n p.taint + 2 ^ 50 * b2n p.shifted +
    2 ^ 64 * (s.rd (F.MRV_SPAN_COL_FIRST m) + p.col0) + 2 ^ 96 * p.cseq
  s.unitWrite m (s.patchHdr m + p.num % s.patchSlots m * 64) (leBytes 64 w) .none

/-- Write row `i` of a patch. -/
def State.writePatchRow (s : State) (m : Nat) (p : Patch) (i : Nat) (pix : List Nat) : State :=
  s.unitWrite m (s.patchBase m + p.num % s.patchSlots m * 8192 + 128 * i)
    ((upTo 64).flatMap fun j => leBytes 2 (pix.getD (p.col0 + j) 0)) .none

/-- The row of a patch that a line is: rows LAST − 31 to LAST + 32. -/
def Patch.rowIdx (p : Patch) (line : Nat) : Option Nat :=
  let d := lineAt line (31 - (p.last : Int))
  if d < 64 then some d else none

/-- A corrected row enters a patch. -/
def State.patchRow (s : State) (m : Nat) (r : Row) (p : Patch) : State × Patch :=
  match p.rowIdx r.line with
  | none => (s, p)
  | some i =>
    (s.writePatchRow m p i (s.padRow (s.rd (F.MRV_SPAN m)) 65536 r),
      { p with taint := p.taint || r.taint, rows := i :: p.rows })

/-- Corrected rows enter a patch, one after another. -/
def State.patchRows (s : State) (m : Nat) : List Row → Patch → State × Patch
  | [], p => (s, p)
  | r :: rs, p => (s.patchRow m r p).1.patchRows m rs (s.patchRow m r p).2

/-- Close a patch: rows that never arrived are 0 and set TAINT, and the header is VALID. -/
def State.closePatch (s : State) (m : Nat) (p : Patch) : State :=
  let missing := (upTo 64).filter fun i => !p.rows.contains i
  let s1 := forEach missing (fun i s => s.writePatchRow m p i []) s
  s1.writePatchHdr m { p with taint := p.taint || !missing.isEmpty } true

/-- Open a patch for a candidate: VALID 0, and the rows of the history (R207). A unit that is no longer active closes
it at once. -/
def State.openPatch (s : State) (m : Nat) (c : Cand) : State :=
  let u := s.mu m
  let span := s.rd (F.MRV_SPAN m)
  let w := windowCol span 64 31 ((c.colMin + c.colMax) / 2)
  let p : Patch := {
    num := u.patchSeq, last := c.last, col0 := w.1, shifted := w.2, taint := false, cseq := s.rd (F.MRV_CREC_SEQ_SEQ m),
    rows := [] }
  let s1 := (s.setMu m { u with patchSeq := (u.patchSeq + 1) % 2 ^ 32 }).writePatchHdr m p false
  let x := s1.patchRows m u.history.reverse p
  let s2 := x.1.padded span 64
  if s2.active m then s2.setMu m { s2.mu m with patches := (s2.mu m).patches ++ [x.2] }
  else s2.closePatch m { x.2 with taint := true }

/-- PATCH_COMPLETE of the oldest open patch of unit `m`: row LAST + 32 has entered (R207). -/
def execPatchComplete (m : Fin 16) (s : State) : Answer :=
  act s fun s =>
    match (s.mu m).patches, (s.mu m).history with
    | p :: ps, r :: _ =>
      if 63 ≤ lineAt r.line (31 - (p.last : Int)) && decide (lineAt r.line (31 - (p.last : Int)) < 2 ^ 47) then
        (s.setMu m { s.mu m with patches := ps }).closePatch m p
      else s
    | _, _ => s

/-! ### Batches (R208–R211) -/

/-- Lay a batch's features out as the gob's payload from byte 64 (R209). -/
def Batch.payload (b : Batch) (slots feat : Nat) : List Byte :=
  (upTo ((feat * slots + 7) / 8)).map fun i => BitVec.ofNat 8 <| (upTo 8).foldl (fun a k =>
    let p := (8 * i + k) / slots
    match b.entries.find? fun e => e.2.1 == (8 * i + k) % slots with
    | some e => if p < feat && bit e.2.2 p then a + 2 ^ k else a
    | none => a) 0

/-- The batch status word, gob bytes 8–63 (R209). -/
def Batch.status (b : Batch) : List Byte :=
  let mask := b.entries.foldl (fun a e => setBitTo a e.2.1 true) 0
  leBytes 56 (mask + 2 ^ 32 * min 255 b.cands + 2 ^ 40 * min 255 b.dropped + 2 ^ 48 * b2n b.invalid +
    2 ^ 56 * min 255 b.rows + 2 ^ 64 * b.seq)

/-- Leader `l` delivers its oldest waiting batch to every tile of its region and raises MRV_BATCH (R210). -/
def State.deliverBatch (s : State) (l : Nat) : State :=
  match (s.mu l).waiting with
  | [] => s
  | b :: bs =>
    let count := ((s.mu l).notice).getD 1
    let hdr := 1 + 2 * b2n (decide (1 < count)) + 2 ^ 8 * count + 2 ^ 16 * b.first
    let bytes := b.status ++ b.payload (s.packSlots l) (s.featBits l)
    let tiles := s.regionTiles (s.rd (F.MRV_CTRL_REGION l))
    let s1 := s.setMu l { s.mu l with waiting := bs, delivering := true, notice := none }
    let s2 := forEach tiles (fun t s => s.gobInWrite t 8 bytes) s1
    (forEach tiles (fun t s => s.gobInCloseAt t hdr) s2).raise (Ev.MRV_BATCH l)

/-- Deliver if the previous delivery has been swapped in. -/
def State.tryDeliver (s : State) (l : Nat) : State := if (s.mu l).delivering then s else s.deliverBatch l

/-- A candidate that finds its unit's slots full is not placed (R208). -/
def State.notPlaced (s : State) (m : Nat) : State := (s.bump (F.MRV_CAND_DROP_CNT_COUNT m)).mrvErr m F.MRV_STATUS_CAND_DROP

/-- The first slot of unit `m` that a batch leaves free. -/
def State.freeSlot (s : State) (m : Nat) (b : Batch) : Option Nat :=
  ((upTo (s.rd (F.MRV_PACK_SLOT_CNT m))).map fun i => s.rd (F.MRV_PACK_SLOT_BASE m) + i).find? fun k =>
    !b.entries.any fun e => e.2.1 == k

/-- Add the candidates of one batch to another, in each member's free slots (R211). -/
def State.addEntries (s : State) (b : Batch) : List (Nat × Nat × Nat) → State × Batch
  | [] => (s, b)
  | e :: es =>
    match s.freeSlot e.1 b with
    | some k => s.addEntries { b with entries := b.entries ++ [(e.1, k, e.2.2)] } es
    | none => (s.notPlaced e.1).addEntries { b with dropped := b.dropped + 1 } es

/-- A closed batch reaches leader `l` (R210, R211). -/
def State.closeBatch (s : State) (l : Nat) (b : Batch) : State :=
  let u := s.mu l
  if u.waiting.length < 4 then
    ((s.setMu l { u with waiting := u.waiting ++ [{ b with seq := u.batchSeq }], batchSeq := (u.batchSeq + 1) % 2 ^ 32 }).bump
      (F.MRV_BATCH_CNT_COUNT l)).tryDeliver l
  else if s.on (F.GAF_CTRL_POLICY (s.rd (F.MRV_CTRL_REGION l))) then
    match u.waiting.getLast? with
    | none => s
    | some w =>
      let x := s.addEntries { w with
        cands := w.cands + b.cands, dropped := w.dropped + b.dropped, invalid := w.invalid || b.invalid,
        rows := w.rows + b.rows } b.entries
      x.1.setMu l { x.1.mu l with waiting := (x.1.mu l).waiting.dropLast ++ [x.2] }
  else (s.bump (F.MRV_BATCH_DROP_CNT_COUNT l)).mrvErr l F.MRV_STATUS_BATCH_DROP

/-- The batch that members' parts of one row make. -/
def joinParts : List Batch → Batch
  | [] => Batch.init
  | b :: bs => bs.foldl (fun a p => { a with
      entries := a.entries ++ p.entries, cands := a.cands + p.cands, dropped := a.dropped + p.dropped,
      invalid := a.invalid || p.invalid }) b

/-- Does the end-of-row mark of a row that the unit has taken still have to reach its packer? -/
def Marver.marksDue (u : Marver) : Bool := u.queue.any fun x => match x with | .mark .. => true | .close _ => false

/-- Close the batches of a region that every active member has marked (R210), at most `fuel` of them. A unit that has stopped is
waited for while marks of its rows are due. -/
def State.closeBatches (s : State) (n : Nat) : Nat → State
  | 0 => s
  | fuel + 1 =>
    let g := s.packGroup n
    let fronts := g.filterMap fun m => ((s.mu m).parts.head?).map fun b => (m, b)
    match g, fronts with
    | l :: _, f :: fs =>
      if g.all fun m => (!s.active m && !(s.mu m).marksDue) || !(s.mu m).parts.isEmpty then
        let line := fs.foldl (fun a x => min a x.2.line) f.2.line
        let used := (f :: fs).filter fun x => x.2.line == line
        let s1 := forEach used (fun x s => s.setMu x.1 { s.mu x.1 with parts := (s.mu x.1).parts.tail }) s
        (s1.closeBatch l (joinParts (used.map fun x => x.2))).closeBatches n fuel
      else s
    | _, _ => s

/-- END_OF_ROW_MARK of unit `m`: the part of the batch it has filled is complete (R204, R210). -/
def execEndOfRowMark (m : Fin 16) (s : State) : Answer :=
  act s fun s =>
    match (s.mu m).queue with
    | .mark line before taint :: q =>
      let u := s.mu m
      let p := { u.part with line := line, first := before, invalid := taint, rows := 1 }
      if s.on (F.MRV_CTRL_PACK_EN m) then
        (s.setMu m { u with queue := q, part := Batch.init, parts := u.parts ++ [p] }).closeBatches
          (s.rd (F.MRV_CTRL_REGION m)) 64
      else s.setMu m { u with queue := q, part := Batch.init }
    | _ => s

/-- GOB_SWAP_NOTICE: gaffer `n` has told its gob sources of a swap; the leader delivers its oldest batch (R210). -/
def execGobSwapNotice (n : Fin 16) (s : State) : Answer :=
  act s fun s =>
    if (s.gaf n).swapNotes = 0 then s
    else
      let s1 := s.setGaf n { s.gaf n with swapNotes := (s.gaf n).swapNotes - 1 }
      match s1.packGroup n with
      | [] => s1
      | l :: _ => (s1.setMu l { s1.mu l with delivering := false }).deliverBatch l

/-- MERGE_NOTICE: the next close of the region's leader carries the COUNT of the entry taken (R111, R209). -/
def execMergeNotice (n : Fin 16) (s : State) : Answer :=
  act s fun s =>
    match (s.gaf n).mergeNotes with
    | [] => s
    | c :: cs =>
      let s1 := s.setGaf n { s.gaf n with mergeNotes := cs }
      match s1.packGroup n with
      | [] => s1
      | l :: _ => s1.setMu l { s1.mu l with notice := some c }

/-! ### Candidate records (R204–R208) -/

/-- The 64 bits of block G (R208). -/
def Cand.blockG (c : Cand) (colFirst : Nat) : Nat :=
  c.height % 256 + 2 ^ 8 * min 255 (c.colMax - c.colMin + 1) + 2 ^ 16 * min 65535 c.area +
    2 ^ 32 * (colFirst + c.colMin) + 2 ^ 45 * b2n c.bright + 2 ^ 46 * b2n c.trunc + 2 ^ 47 * b2n c.taint + 2 ^ 48 * b2n c.edge

/-- The 64 bits of block S. -/
def Cand.blockS (c : Cand) : Nat := min 0xffffffff c.sum + 2 ^ 32 * ofSigned 16 c.peak + 2 ^ 48 * c.maxc

/-- The 256 bits of block M: the candidate's class in filtered rows LAST − 14 to LAST + 1. -/
def State.blockM (s : State) (m : Nat) (c : Cand) (w : Nat) : Nat :=
  (upTo 16).foldl (fun acc (a : Nat) =>
    match rowOf (s.mu m).classes (lineAt c.last ((a : Int) - 14)) with
    | none => acc
    | some r =>
      let pix := s.padRow (s.rd (F.MRV_SPAN m)) 3 r
      (upTo 16).foldl (fun acc b => acc + b2n (pix.getD (w + b) 0 == 1 + b2n c.bright) * 2 ^ (16 * a + b)) acc) 0

/-- The 256 bits of block I: sums of corrected pixels two by two. -/
def State.blockI (s : State) (m shift : Nat) (c : Cand) (w : Nat) : Nat :=
  let pix (line col : Nat) : Nat :=
    match rowOf (s.mu m).history line with
    | none => 0
    | some r => (s.padRow (s.rd (F.MRV_SPAN m)) 65536 r).getD col 0
  (upTo 64).foldl (fun acc i =>
    let a := i / 8
    let b := i % 8
    let sum := (upTo 4).foldl (fun z k => z + pix (lineAt c.last (((2 * a + k / 2 : Nat) : Int) - 14)) (w + 2 * b + k % 2)) 0
    acc + min 15 (sum / 2 ^ shift) * 2 ^ (4 * i)) 0

/-- The feature vector: the enabled blocks in the order G, S, M, I (R208). -/
def State.features (s : State) (m : Nat) (c : Cand) : Nat :=
  let l := s.packLeader m
  let f := s.rd (F.MRV_PACK_FEAT l)
  let w := (windowCol (s.rd (F.MRV_SPAN m)) 16 7 ((c.colMin + c.colMax) / 2)).1
  let blocks := (if bit f 0 then [(64, c.blockG (s.rd (F.MRV_SPAN_COL_FIRST m)))] else []) ++
    (if bit f 1 then [(64, c.blockS)] else []) ++ (if bit f 2 then [(256, s.blockM m c w)] else []) ++
    (if bit f 3 then [(256, s.blockI m (s.rd (F.MRV_PACK_ISHIFT l)) c w)] else [])
  (blocks.foldl (fun a b => (a.1 + 2 ^ a.2 * b.2, a.2 + b.1)) (0, 0)).1

/-- Place a candidate into its unit's slots of the batch being filled; its slot, or 0xFF (R208). -/
def State.place (s : State) (m : Nat) (c : Cand) : State × Nat :=
  if !s.on (F.MRV_CTRL_PACK_EN m) then (s, 0xff)
  else
    let u := s.mu m
    match s.freeSlot m u.part with
    | some k =>
      ((s.setMu m { u with
        part := { u.part with entries := u.part.entries ++ [(m, k, s.features m c)], cands := u.part.cands + 1 } }).padded
        (s.rd (F.MRV_SPAN m)) 16, k)
    | none =>
      ((s.setMu m { u with part := { u.part with cands := u.part.cands + 1, dropped := u.part.dropped + 1 } }).notPlaced m,
        0xff)

/-- The 64 bytes of a candidate record (R206). -/
def Cand.record (c : Cand) (m colFirst seq time : Nat) (patch : Option Nat) (slot : Nat) : List Byte :=
  leBytes 64 (c.last + 2 ^ 48 * (c.height % 256) + 2 ^ 56 * b2n c.bright + 2 ^ 57 * b2n c.trunc + 2 ^ 58 * b2n c.taint +
    2 ^ 59 * b2n c.edge + 2 ^ 60 * b2n patch.isNone + 2 ^ 64 * (colFirst + c.colMin) + 2 ^ 80 * (colFirst + c.colMax) +
    2 ^ 96 * min 0xffffff c.area + 2 ^ 120 * m + 2 ^ 128 * min 0xffffffff c.sum + 2 ^ 160 * ofSigned 16 c.peak +
    2 ^ 176 * c.maxc + 2 ^ 192 * (patch.getD 0 % 65536) + 2 ^ 208 * slot + 2 ^ 224 * seq + 2 ^ 256 * time)

/-- Cut a patch for a closing candidate: its number, or none (R207). -/
def State.cutPatch (s : State) (m : Nat) (c : Cand) : State × Option Nat :=
  if !s.on (F.MRV_CTRL_PATCH_EN m) then (s, none)
  else if (s.mu m).patches.length ≥ 64 then
    ((s.bump (F.MRV_PATCH_DROP_CNT_COUNT m)).mrvErr m F.MRV_STATUS_PATCH_DROP, none)
  else (s.openPatch m c, some (s.mu m).patchSeq)

/-- The record of a candidate that passes MIN_AREA is formed (R204, R206–R208). -/
def State.formRecord (s : State) (m : Nat) (c : Cand) : State :=
  let s1 := s.bump (F.MRV_CAND_CNT_COUNT m)
  let p := s1.cutPatch m c
  let q := p.1.place m c
  let s2 := q.1
  if !s2.on (F.MRV_CTRL_CREC_EN m) then s2
  else
    let seq := s2.rd (F.MRV_CREC_SEQ_SEQ m)
    let rec_ := c.record m (s2.rd (F.MRV_SPAN_COL_FIRST m)) seq s2.now p.2 q.2
    (s2.unitWrite m (s2.crecBase m + seq % s2.crecSlots m * 64) rec_ .none).wr (F.MRV_CREC_SEQ_SEQ m) (seq + 1)

/-- CANDIDATE_CLOSE: the next closing candidate's record forms (R203, R204). -/
def execCandidateClose (m : Fin 16) (s : State) : Answer :=
  act s fun s =>
    match (s.mu m).queue with
    | .close c :: q =>
      let s1 := s.setMu m { s.mu m with queue := q }
      if c.area < s1.rd (F.MRV_EXTRACT_MIN_AREA m) then s1.bump (F.MRV_SMALL_CNT_COUNT m) else s1.formRecord m c
    | _ => s

/-! ### Convolution, threshold and extraction (R200–R205) -/

/-- The half-width h of the kernel. -/
def State.kernelH (s : State) (m : Nat) : Nat := s.rd (F.MRV_CONV_CFG_K m)

/-- Coefficient (i, d) of set `k`, rows and columns from 0 (R213). -/
def State.coef (s : State) (m k i d : Nat) : Int :=
  let w := (s.reg (0xc81000 + 0x10000 * (m % 16) + 0x80 * k + 4 * ((7 * i + d) / 2))).toNat
  toSigned 16 (if (7 * i + d) % 2 = 0 then w % 2 ^ 16 else w / 2 ^ 16)

/-- The filtered value at column `j` of the row whose corrected rows, newest first, are `rows` (R200). -/
def State.filtered (s : State) (m h : Nat) (rows : List Row) (j : Nat) : Int :=
  let span := s.rd (F.MRV_SPAN m)
  let acc := (upTo (2 * h + 1)).foldl (fun (z : Int) i =>
    let pix := ((rows[2 * h - i]?.or rows.getLast?).map fun r => r.pix).getD []
    (upTo (2 * h + 1)).foldl (fun (z : Int) d =>
      z + s.coef m (s.mu m).set (3 + i - h) (3 + d - h) * ((pix.getD (min (j + d - h) (span - 1)) 0 : Nat) : Int)) z)
    (toSigned 32 (s.rd (F.MRV_CONV_BIAS_BIAS m)))
  min (max (acc / 2 ^ s.rd (F.MRV_CONV_CFG_SHIFT m)) (-32768)) 32767

/-- The class of a filtered pixel: 1 dark, 2 bright, 0 none (R202). -/
def Marver.classOf (u : Marver) (f : Int) : Nat :=
  if bit u.thr 0 && decide (f ≤ toSigned 16 (u.thresh % 2 ^ 16)) then 1
  else if bit u.thr 1 && decide (toSigned 16 (u.thresh / 2 ^ 16) ≤ f) then 2
  else 0

/-- The runs of a row of classes, left to right: class, first and last column (R203). -/
def runsOf (cls : List Nat) : List (Nat × Nat × Nat) :=
  let z := cls.foldl (fun (a : Nat × List (Nat × Nat × Nat)) c =>
    match a.2 with
    | r :: rs =>
      if c ≠ 0 && r.1 == c && r.2.2 + 1 == a.1 then (a.1 + 1, (c, r.2.1, a.1) :: rs)
      else if c ≠ 0 then (a.1 + 1, (c, a.1, a.1) :: a.2) else (a.1 + 1, a.2)
    | [] => if c ≠ 0 then (a.1 + 1, [(c, a.1, a.1)]) else (a.1 + 1, [])) (0, [])
  z.2.reverse

/-- The pixel of larger magnitude, the earlier in scan order on a tie. -/
def peakOf (f g : Int) (at1 at2 : Nat × Nat) : Int × (Nat × Nat) :=
  if f.natAbs < g.natAbs || (f.natAbs == g.natAbs &&
      (decide (at2.1 < at1.1) || (at2.1 == at1.1 && decide (at2.2 < at1.2)))) then (g, at2)
  else (f, at1)

/-- Two candidates made one (R203). -/
def Cand.merge (x y : Cand) : Cand :=
  let p := peakOf x.peak y.peak x.peakAt y.peakAt
  { x with
    first := min x.first y.first, height := max x.height y.height, taint := x.taint || y.taint, edge := x.edge || y.edge,
    colMin := min x.colMin y.colMin, colMax := max x.colMax y.colMax, area := x.area + y.area, sum := x.sum + y.sum,
    peak := p.1, peakAt := p.2, maxc := max x.maxc y.maxc, runs := x.runs ++ y.runs, now := x.now ++ y.now }

/-- The candidate that one run alone makes in filtered row number `n`. -/
def candOf (span n line : Nat) (taint : Bool) (f : List Int) (c : List Nat) (r : Nat × Nat × Nat) : Cand :=
  let cols := (upTo (r.2.2 - r.2.1 + 1)).map fun i => r.2.1 + i
  let p := cols.foldl (fun (a : Int × (Nat × Nat)) j => peakOf a.1 (f.getD j 0) a.2 (n, j)) (f.getD r.2.1 0, (n, r.2.1))
  { bright := r.1 == 2, first := n, height := 1, last := line, trunc := false, taint := taint,
    edge := r.2.1 == 0 || r.2.2 + 1 == span, colMin := r.2.1, colMax := r.2.2, area := cols.length,
    sum := cols.foldl (fun a j => a + (f.getD j 0).natAbs) 0, peak := p.1, peakAt := p.2,
    maxc := cols.foldl (fun a j => max a (c.getD j 0)) 0, runs := [], now := [(r.2.1, r.2.2)] }

/-- Does run `r` join candidate `c` by 8-connectivity (R203)? -/
def Cand.joins (c : Cand) (r : Nat × Nat × Nat) : Bool :=
  c.bright == (r.1 == 2) && c.runs.any fun q => decide (r.2.1 ≤ q.2 + 1) && decide (q.1 ≤ r.2.2 + 1)

/-- Take one run into the candidates tracked: none where it cannot be tracked (R203). -/
def addRun (cands : List Cand) (x : Cand) (r : Nat × Nat × Nat) : Option (List Cand) :=
  match cands.filter fun c => c.joins r with
  | [] => if cands.length < 256 then some (cands ++ [x]) else none
  | c :: cs => some ((cands.filter fun d => !d.joins r) ++ [(cs.foldl Cand.merge c).merge x])

/-- Put a closing candidate into the order in which records form, by its COL_MAX (R204). -/
def insertClose (c : Cand) : List Cand → List Cand
  | [] => [c]
  | d :: ds => if c.colMax < d.colMax then c :: d :: ds else d :: insertClose c ds

/-- A candidate at the end of filtered row number `n` in which a run of it lies. -/
def Cand.next (c : Cand) (n line : Nat) (taint : Bool) (maxRows : Nat) : Cand :=
  { c with
    height := n - c.first + 1, last := line, taint := c.taint || taint, runs := c.now, now := [],
    trunc := decide (maxRows ≤ n - c.first + 1) }

/-- The extractor takes one filtered row (R203, R204). -/
def State.extract (s : State) (m line : Nat) (taint : Bool) (f : List Int) (c cls : List Nat) : State :=
  let span := s.rd (F.MRV_SPAN m)
  let u := s.mu m
  let x := (runsOf cls).foldl (fun (a : List Cand × Nat) r =>
    match addRun a.1 (candOf span u.count line taint f c r) r with
    | some l => (l, a.2)
    | none => (a.1, a.2 + 1)) (u.tracked, 0)
  let maxRows := if s.rd (F.MRV_EXTRACT_MAX_ROWS m) = 0 then 255 else s.rd (F.MRV_EXTRACT_MAX_ROWS m)
  let live := (x.1.filter fun k => !k.now.isEmpty).map fun k => k.next u.count line taint maxRows
  let closing := (u.tall ++ x.1.filter fun k => k.now.isEmpty).foldl (fun l k => insertClose k l) []
  let early := closing.filter fun k => decide (k.colMax + 16 < span)
  let late := closing.filter fun k => !decide (k.colMax + 16 < span)
  let before := match u.classes with | r :: _ => r.line | [] => lineAt line (-1)
  let s1 := s.setMu m { u with
    tracked := live.filter fun k => !k.trunc
    tall := live.filter fun k => k.trunc
    count := u.count + 1
    classes := (⟨line, taint, cls⟩ :: u.classes).take 40
    queue := u.queue ++ early.map MrvEv.close ++ [.mark line before taint] ++ late.map MrvEv.close }
  forEach (upTo x.2) (fun _ s => s.mrvErr m F.MRV_STATUS_OPEN_FULL) s1

/-- The filtered row that the newest corrected row completes, once h rows below it have entered (R197, R200, R205). -/
def State.filterRow (s : State) (m : Nat) : State :=
  let h := s.kernelH m
  let rows := (s.mu m).history.take (2 * h + 1)
  match rows[h]? with
  | none => s
  | some r =>
    let f := (upTo (s.rd (F.MRV_SPAN m))).map fun j => s.filtered m h rows j
    let taint := decide (rows.length < 2 * h + 1) || rows.any fun r => r.taint
    s.extract m r.line taint f r.pix (f.map (s.mu m).classOf)

/-- The filtered row that starts as a row enters takes SET, THRESH and THR_CFG, and the armed switch (R201, R202). -/
def State.startFiltered (s : State) (m : Nat) : State :=
  let h := s.kernelH m
  let line := if h = 0 then some (s.mu m).rowLine else ((s.mu m).history[h - 1]?).map fun r => r.line
  let at_ := s.rd (F.MRV_CONV_SW_LINE_LO_AT_LINE_LO m) + 2 ^ 32 * s.rd (F.MRV_CONV_SW_LINE_HI_AT_LINE_HI m)
  match line with
  | none => s
  | some l =>
    let s1 := if s.on (F.MRV_CONV_SW_ARM m) && decide (at_ ≤ l) then
      (s.wr (F.MRV_CONV_CFG_SET m) (s.rd (F.MRV_CONV_SW_SET m))).wr (F.MRV_CONV_SW_ARM m) 0 else s
    s1.setMu m { s1.mu m with
      set := s1.rd (F.MRV_CONV_CFG_SET m), thresh := (s1.reg (0xc80028 + 0x10000 * (m % 16))).toNat,
      thr := (s1.reg (0xc8002c + 0x10000 * (m % 16))).toNat }

/-! ### Rows and beats (R192–R196, R199) -/

/-- A unit stops: open candidates are discarded and counted, open patches closed with TAINT (R196). DESIGN CHOICE (log entries 151
and 152): a candidate closed at the height limit whose record has not formed counts as open, and candidates recorded after the
unit's last mark stay in its part for the first batch after it is active again. -/
def State.deactivate (s : State) (m : Nat) : State :=
  let u := s.mu m
  let s1 := (s.wr (F.MRV_STATUS_ACTIVE m) 0).setMu m { u with tracked := [], tall := [], patches := [], inRow := false, stop := false }
  let s2 := forEach (u.tracked ++ u.tall) (fun _ s => s.notPlaced m) s1
  (forEach u.patches (fun p s => s.closePatch m { p with taint := true }) s2).closeBatches
    (s.rd (F.MRV_CTRL_REGION m)) 64

/-- Does a unit's row lack a column of its span (R195)? -/
def State.rowLacks (s : State) (m : Nat) : Bool :=
  (upTo (s.rd (F.MRV_SPAN m))).any fun j => !((s.mu m).row ++ (s.mu m).fifo).any fun e => e.1 == j

/-- The row of a unit that its line's end completes: what is still in the FIFO enters, columns not delivered are pixels of value
0 and taint it (R195, R198). -/
def State.finishRow (s : State) (m : Nat) : Row :=
  let u := s.mu m
  let row := ((u.fifo.map fun p => (p.1, s.correct m p.1 p.2)).reverse) ++ u.row
  { line := u.rowLine, taint := u.rowTaint || s.rowLacks m,
    pix := (upTo (s.rd (F.MRV_SPAN m))).map fun j =>
      ((row.find? fun e => e.1 == j).map fun e => e.2).getD (s.correct m j 0) }

/-- A row enters every open patch. -/
def State.rowToPatches (s : State) (m : Nat) (r : Row) : List Patch → State × List Patch
  | [] => (s, [])
  | p :: ps =>
    let x := s.patchRow m r p
    let y := x.1.rowToPatches m r ps
    (y.1, x.2 :: y.2)

/-- A line of unit `m` ends: the row goes through every stage (R197). -/
def State.endRow (s : State) (m : Nat) : State :=
  if !(s.mu m).inRow then s
  else
    let r := s.finishRow m
    let s0 := s.setMu m { s.mu m with inRow := false, row := [], fifo := [] }
    let s1 := if r.taint then (s0.bump (F.MRV_TAINT_CNT_COUNT m)).wr (F.MRV_STATUS_TAINT m) 1 else s0
    let s2 := s1.ringRow m r (s.mu m).rowTime
    let x := s2.rowToPatches m r (s2.mu m).patches
    let s3 := x.1.setMu m { x.1.mu m with patches := x.2, history := (r :: (x.1.mu m).history).take 40 }
    let s4 := s3.filterRow m
    if s4.on (F.MRV_CTRL_EN m) && !(s4.mu m).stop then s4 else s4.deactivate m

/-- A line starts at unit `m` (R195, R196): a row still open ends first. -/
def State.startRow (s : State) (k m : Nat) : State :=
  let s1 := (s.endRow m).tryActivate m
  if !s1.active m then s1
  else
    let s2 := s1.setMu m { s1.mu m with
      inRow := true, row := [], fifo := [], nextCol := none, rowTaint := (s1.pb k).untagged, rowLine := (s1.pb k).line,
      rowTime := (s1.pb k).time }
    (s2.startFiltered m).ringBegin m

/-- Is a beat malformed (R192)? A beat of no pixel whose only purpose is EOL is not. -/
def beatBad (b : Beat) : Bool := decide (8 < b.npix.val) || (b.npix.val == 0 && !b.eol)

/-- The pixels of a beat with their sensor columns. -/
def beatPixels (b : Beat) : List (Nat × Nat) :=
  if beatBad b then [] else (upTo b.npix).map fun i => (b.col.toNat + i, (b.pix.getD i 0).toNat)

/-- Does unit `m` take the beat: a pixel, or the column of a malformed beat, lies in its span? -/
def State.takes (s : State) (m : Nat) (b : Beat) : Bool :=
  let lo := s.rd (F.MRV_SPAN_COL_FIRST m)
  let hi := lo + s.rd (F.MRV_SPAN m)
  if beatBad b then decide (lo ≤ b.col.toNat) && decide (b.col.toNat < hi)
  else (beatPixels b).any fun p => decide (lo ≤ p.1) && decide (p.1 < hi)

/-- Would the beat be an error at unit `m` (R193)? -/
def State.beatError (s : State) (m : Nat) (b : Beat) : Bool :=
  (s.mu m).inRow && s.takes m b && (beatBad b || match (s.mu m).nextCol with
    | some c => c != b.col.toNat
    | none => false)

/-- Unit `m` takes what it needs of a beat (R193, R195). DESIGN CHOICE (log entry 149): of a malformed beat it takes no pixel, and
it expects the column COL + NPIX next. -/
def State.unitBeat (s : State) (m : Nat) (b : Beat) : State :=
  if !(s.mu m).inRow then s
  else
    let lo := s.rd (F.MRV_SPAN_COL_FIRST m)
    let bad := s.beatError m b
    let next := if s.takes m b then some (b.col.toNat + b.npix.val) else (s.mu m).nextCol
    let s1 := s.setMu m { s.mu m with rowTaint := (s.mu m).rowTaint || bad || b.syncErr, nextCol := next }
    forEach ((beatPixels b).filter fun p => decide (lo ≤ p.1) && decide (p.1 < lo + s.rd (F.MRV_SPAN m)))
      (fun p s => s.takePixel m (p.1 - lo) p.2) s1

/-- The units subscribed to port `k`. -/
def State.subscribers (s : State) (k : Nat) : List Nat := (upTo 16).filter fun m => s.rd (F.MRV_CTRL_SRC m) == k

/-- The units of port `k` that are in a row of its line. -/
def State.inLine (s : State) (k : Nat) : List Nat :=
  (s.subscribers k).filter fun m => (s.mu m).inRow && (s.mu m).rowLine == (s.pb k).line

/-- What taints a line at one unit taints the line, and with it the rows of every unit of the port (R193, R205); `ends` where
columns still missing count. -/
def State.spreadTaint (s : State) (k : Nat) (ends : Bool) : State :=
  if (s.inLine k).any fun m => (s.mu m).rowTaint || (ends && s.rowLacks m) then
    forEach (s.inLine k) (fun m s => s.setMu m { s.mu m with rowTaint := true }) s
  else s

/-- The line of port `k` ends in every unit. -/
def State.endLine (s : State) (k : Nat) : State :=
  forEach (s.subscribers k) (fun m s => s.endRow m) (s.spreadTaint k true)

/-- A line begins on port `k`: one still open ends first, and the new one takes its tag (R194–R196). -/
def State.startLine (s : State) (k : Nat) : State :=
  forEach (s.subscribers k) (fun m s => s.startRow k m) ((s.endLine k).tagLine k)

/-- PIXEL_BUS_BEAT: a decoder beat on source port `k` (R192–R200). -/
def execPixelBusBeat (k : Fin 8) (b : Beat) (s : State) : Answer :=
  act s fun s =>
    if !s.pbOn k || !s.pixelOn || !s.partReleased (k.val / 2) then s
    else
      let s1 := if b.sol then s.startLine k else s
      let s2 := if b.syncErr then s1.syncError k else s1
      let s3 := if (s2.subscribers k).any fun m => s2.beatError m b then s2.formatError k else s2
      let s4 := (forEach (s3.subscribers k) (fun m s => s.unitBeat m b) s3).spreadTaint k false
      if b.eol then s4.endLine k else s4

end Sys2Proof.Machine
end

