-- ==== Sys2Proof/Machine/Store.lean ====
section
/-!
DEFINITION. The replay store (R290–R305): mounting, tiles, commits, reads, bad blocks and the wear governor.
-/

namespace Sys2Proof.Machine

/-! ### Tiles (R292, R293) -/

/-- The 32 metadata bytes of a tile. -/
def tileMeta (tile cseq index kind : Nat) (data : List Byte) : List Byte :=
  let m := leBytes 8 tile ++ leBytes 4 cseq ++ leBytes 4 index ++ leBytes 1 kind ++ leBytes 11 0
  m ++ leBytes 4 (crc32c (data ++ m))

/-- The metadata of a tile; empty where none was programmed. -/
def State.metaOf (s : State) (tile : Nat) : List Byte := Tab.get (fun _ => []) s.nand.meta_ tile

/-- The 4,096 data bytes of a tile. -/
def State.tileData (s : State) (tile : Nat) : List Byte := Bytes.read s.nand.data (4096 * tile) 4096

/-- Is a tile as read intact: programmed, its CRC right, its TILE the one sought (R293)? -/
def State.tileGood (s : State) (tile : Nat) : Bool :=
  let m := s.metaOf tile
  m.length == 32 && leNat (m.drop 28) == crc32c (s.tileData tile ++ m.take 28) && leNat (m.take 8) == tile

/-! ### The governor (R303) -/

/-- Show Q in STO_CREDIT. -/
def State.showCredit (s : State) : State := s.wr64 0xb0014 (ofSigned 64 s.nand.credit)

/-- THROTTLED becomes `b`; STO_THROTTLE is raised at a change. -/
def State.throttle (s : State) (b : Bool) : State :=
  if s.on F.STO_STAT_THROTTLED = b then s else (s.wr F.STO_STAT_THROTTLED (b2n b)).raise Ev.STO_THROTTLE

/-- The programming of a tile takes 4,096 bytes from Q; at or below 0 programs are paced. -/
def State.spend (s : State) (tiles : Nat) : State :=
  let s1 := (s.withNand { s.nand with credit := s.nand.credit - 4096 * tiles }).showCredit
  if s1.nand.credit ≤ 0 then s1.throttle true else s1

/-- The credit of one tick of 1.6 ns, as a fraction of `creditDen`: G is CAP × 4,096 × ENDURANCE × 1,000 / LIFE per
31,557,600 s. -/
def State.creditNum (s : State) : Nat :=
  s.rd64 0xb0020 * 4096 * max 1 (s.rd F.STO_GOV_ENDURANCE) * 1000 * 16
/-- The denominator of that fraction. -/
def State.creditDen (s : State) : Nat := max 1 (s.rd F.STO_GOV_LIFE) * 31557600 * 10 ^ 10

/-- Q grows with time, up to BURST GiB. -/
def State.creditTick (s : State) : State :=
  let acc := s.nand.creditAcc + s.creditNum
  let top : Int := s.rd F.STO_GOV_BURST * 2 ^ 30
  let q := s.nand.credit + (acc / s.creditDen : Nat)
  (s.withNand { s.nand with credit := min top q, creditAcc := acc % s.creditDen }).showCredit

/-- THROTTLE_RELEASE: Q is positive again. -/
def execThrottleRelease (s : State) : Answer :=
  act s fun s => if 0 < s.nand.credit then s.throttle false else s

/-! ### Capacity (R294–R296, R302) -/

/-- Blocks that have gone bad beyond the reserve, which is one good block in 64. -/
def State.overGrown (s : State) : Nat := s.nand.grown - s.sto.good / 64

/-- Blocks still in reserve. -/
def State.reserve (s : State) : Nat := s.sto.good / 64 - s.nand.grown

/-- STO_CAP and STO_FREE follow the blocks and the tile numbers. -/
def State.showSpace (s : State) : State :=
  let cap := (s.sto.good - s.overGrown) * s.sto.perBlock
  let free := cap - s.reserve * s.sto.perBlock - (s.rd64 0xb0030 - s.rd64 0xb0038)
  (s.wr64 0xb0020 cap).wr64 0xb0028 free

/-- STO_OLDEST takes a value, which the dies keep. -/
def State.setOldest (s : State) (t : Nat) : State :=
  ((s.withNand { s.nand with oldest := t }).wr64 0xb0038 t).showSpace

/-- What a write of STO_RELEASE_HI does (R296). -/
def State.release (s : State) : State :=
  let v := s.rd64 0xb0040
  if !s.on F.STO_STAT_READY || decide (v ≤ s.rd64 0xb0038) then s
  else
    match s.sto.queue with
    | c :: _ =>
      if c.first < v then
        let s1 := s.wr F.STO_STAT_RELEASE_CLAMP 1
        if s1.rd64 0xb0038 < c.first then s1.setOldest c.first else s1
      else s.setOldest v
    | [] => s.setOldest v

/-! ### Mounting (R290, R300, R302) -/

/-- Does the controller support a die (R290)? -/
def dieOk (d : Die) : Bool :=
  decide (d.channel < 8) && decide (d.ce < 4) && decide (d.lun < 2) && (d.nvDdr3 || d.nvLpDdr4) && d.bitsPerCell == 1 && (d.page == 8192 || d.page == 16384) && decide (256 ≤ d.spare) &&
    (d.planes == 2 || d.planes == 4) && decide (1200 ≤ d.rate)

/-- Do two dies report the same geometry? -/
def dieSame (d e : Die) : Bool :=
  d.page == e.page && d.pages == e.pages && d.blocks == e.blocks && d.planes == e.planes

/-- The dies in use: those within the table of R290 that share the geometry of the first of them, up to 64. -/
def usable (ds : List Die) : List Die :=
  match ds.filter dieOk with
  | [] => []
  | d :: rest => (d :: rest.filter (dieSame d)).take 64

/-- Is a tile that is read a good one: its bits right or corrected, its CRC and its TILE right (R293)? -/
def State.tileReads (s : State) (tile : Nat) (failed : List (BitVec 64)) : Bool :=
  s.tileGood tile && !failed.contains (BitVec.ofNat 64 tile)

/-- Tiles read are counted where bits of them were corrected (R293). -/
def State.countEcc (s : State) (tiles : List Nat) : State := s.bumpBy F.STO_ECC_CORR_CNT_COUNT tiles.length

/-- The commit records among the programmed tiles. -/
def State.records (s : State) : List Nat :=
  (s.nand.meta_.filter fun e => leNat ((e.2.drop 16).take 1) == 0).map fun e => e.1

/-- The highest programmed commit record that reads as good: its FIRST_TILE, CSEQ and TILES. The bits of each record read turn
out as the part has it. -/
def State.topRecord (s : State) : Option (Nat × Nat × Nat) :=
  ((s.records.filter fun t => s.tileGood t && Config.tileBits s.free t % 3 != 2).map fun t =>
    let d := s.tileData t
    (t, leNat ((d.drop 8).take 4), leNat ((d.drop 12).take 4))).getLast?

/-- One above the highest programmed tile. -/
def State.topTile (s : State) : Nat := match s.nand.meta_.getLast? with | some e => e.1 + 1 | none => 0

/-- Tile numbers recovered at a mount: STO_NEXT, which never falls below a value kept, STO_OLDEST, the next commit sequence
number, and a torn commit (R294, R300). -/
def State.recover (s : State) : State :=
  let top := s.topRecord
  let next := max s.nand.next (match top with | some r => max (r.1 + r.2.2) s.topTile | none => s.topTile)
  let s1 := s.withSto { s.sto with cseq := match top with | some r => r.2.1 + 1 | none => 0 }
  let s2 := (s1.wr64 0xb0030 next).wr64 0xb0038 s1.nand.oldest
  match top with
  | some r =>
    if (s2.nand.done.map fun d => decide (r.1 ≤ d)).getD false then s2
    else (((s2.bump F.STO_TORN_CNT_COUNT).wr F.STO_STAT_TORN 1).withNand { s2.nand with done := some r.1 })
  | none => s2

/-- PLL6 for a RATE_MT: N, FRAC and the output divider (R379 and its worked case). -/
def pll6Setting : Nat → Nat × Nat × Nat
  | 0 => (61, 0x70a3d7, 16) | 1 => (81, 0xeb851f, 16) | 2 => (64, 0, 10) | _ => (61, 0x70a3d7, 8)

/-- The firmware sets PLL6 at the mount (R379). -/
def State.setNandRate (s : State) : State :=
  let k := pll6Setting (s.rd F.STO_CFG_RATE_MT)
  ((s.wr (F.CLK_PLL_CFG_N 6) k.1).wr (F.CLK_PLL_FRAC 6) k.2.1).wr ⟨0x201d0, 7, 0⟩ k.2.2

/-- The geometry that the dies in use share. -/
def geometry (us : List Die) : Die := us.headD ⟨0, 0, 0, 1, 8192, 256, 0, 0, 0, true, false, 1200, []⟩

/-- Put the table of bad blocks of a die, and its copy (R302). -/
def State.setBadTable (s : State) (die : Nat) (l : List Nat) : State :=
  s.withNand { s.nand with
    table := Tab.set (fun _ => []) s.nand.table die l
    copy := Tab.set (fun _ => []) s.nand.copy die l }

/-- The factory marks of every block are read at the first mount, recorded and counted (R302). -/
def State.readMarks (s : State) (us : List Die) : State :=
  if s.nand.factory.isSome then s
  else
    let marks := us.map fun d => d.bad.dedup.filter (decide <| · < d.blocks)
    let s1 := forEach (upTo us.length) (fun i s => s.setBadTable i (marks.getD i [])) s
    s1.withNand { s1.nand with factory := some (marks.map List.length).sum }

/-- The store mounts: the dies' geometry, their bad blocks, and the tile numbers; then it is READY. Commits that a clear of
EN stopped go on. -/
def State.mount (s : State) : State :=
  let us := usable Config.dies
  let d := geometry us
  let s0 := s.setNandRate.readMarks us
  let fact := s0.nand.factory.getD 0
  let per := d.pages * (d.page / 4096)
  let good := min (us.length * d.blocks - fact) (2 ^ 30 / max 1 per)
  let s1 := s0.withSto { s0.sto with good := good, perBlock := per }
  let s2 := ((((s1.wr F.STO_GEOM_DIES us.length).wr F.STO_GEOM_PLANES d.planes).wr F.STO_GEOM_PAGE (d.page / 8192)).wr
    F.STO_GEOM_BLOCKS d.blocks).wr F.STO_BAD_FACT_COUNT fact
  let s3 := s2.wr F.STO_BAD_GROWN_COUNT s2.nand.grown
  let s4 := if us.length < Config.dies.length then s3.wr F.STO_STAT_GEOM_ERR 1 else s3
  let s5 := if s4.sto.queue.isEmpty then
      ((s4.countEcc (s4.records.filter fun t => Config.tileBits s4.free t % 3 == 1)).recover).drawn
    else s4
  let s6 := s5.showSpace.showCredit.throttle (decide (s5.nand.credit ≤ 0))
  (s6.wr F.STO_STAT_READY 1).raise Ev.STO_READY

/-- EN is cleared: the store stops and is no longer READY. -/
def State.unmount (s : State) : State :=
  if s.on F.STO_STAT_READY then (s.wr F.STO_STAT_READY 0).raise Ev.STO_READY else s

/-! ### Commits (R297–R300) -/

/-- STO_STAT.QUEUE follows the queue. -/
def State.setCommits (s : State) (q : List Commit) : State :=
  (s.withSto { s.sto with queue := q }).wr F.STO_STAT_QUEUE q.length

/-- The commit in progress is replaced. -/
def State.putCommit (s : State) (c : Commit) : State := s.setCommits (c :: s.sto.queue.tail)

/-- The bytes of a commit record (R298). -/
def Commit.record (c : Commit) (serial : Nat) : List Byte :=
  let bs := leBytes 8 c.first ++ leBytes 4 c.cseq ++ leBytes 4 c.tiles ++ leBytes 6 c.line ++ leBytes 2 0 ++
    leBytes 4 c.count ++ leBytes 1 c.ring ++ leBytes 1 0 ++ leBytes 2 c.stride ++ leBytes 8 c.time ++
    leBytes 8 (c.count * (64 + 256 * c.stride)) ++ leBytes 8 serial
  bs ++ List.replicate (4096 - bs.length) 0

/-- The channel of a tile: tile `k` of a page group, one page of every plane of every die, goes to channel k mod 8 (R294). -/
def State.channelFor (s : State) (tile : Nat) : Nat :=
  tile % max 1 (s.rd F.STO_GEOM_DIES * s.rd F.STO_GEOM_PLANES * (2 * s.rd F.STO_GEOM_PAGE)) % 8

/-- The dies that may take a tile: those of its channel in turn, then the others. -/
def State.diesFor (s : State) (us : List Die) (tile : Nat) : List Nat :=
  let own := (upTo us.length).filter fun i => (us.getD i (geometry us)).channel == s.channelFor tile
  own.rotateLeft (tile / 8) ++ (upTo us.length).filter fun i => !own.contains i

/-- Block `b` of a die. -/
def State.nblock (s : State) (die b : Nat) : NandBlock :=
  Tab.get (fun _ => NandBlock.init) s.nand.blocks (die * 2 ^ 20 + b)

/-- Put block `b` of a die. -/
def State.setNblock (s : State) (die b : Nat) (x : NandBlock) : State :=
  s.withNand { s.nand with blocks := Tab.set (fun _ => NandBlock.init) s.nand.blocks (die * 2 ^ 20 + b) x }

/-- Is a block of a die good? -/
def State.blockGood (s : State) (die b : Nat) : Bool := !(Tab.get (fun _ => []) s.nand.table die).contains b

/-- The tiles that a running STORE_READ is still reading: the first and their number (R296, R301). -/
def State.beingRead (s : State) : Nat × Nat :=
  match s.mbx.longRun with
  | some c => if c.byte 0 = 0x61 then (c.num 16 8, c.num 24 4) else (0, 0)
  | none => (0, 0)

/-- May block `b` of a die be erased and programmed: a good one, not of the two that hold the tables, all of its tiles released
and none being read (R296, R302)? -/
def State.blockFree (s : State) (die b : Nat) : Bool :=
  let r := s.beingRead
  decide (2 ≤ b) && s.blockGood die b && (s.nblock die b).tiles.all fun t =>
    decide (t < s.nand.oldest) && !(decide (r.1 ≤ t) && decide (t < r.1 + r.2))

/-- The block of a die that takes the next tile: the one being programmed while it has room, then the next that is free, in turn,
so that the counts of program and erase stay within one block of each other (R294). -/
def State.blockFor (s : State) (blocks die : Nat) : Option Nat :=
  let cur := Tab.get (fun _ => 0) s.nand.open_ die
  if 2 ≤ cur ∧ s.blockGood die cur ∧ (s.nblock die cur).tiles.length < s.sto.perBlock then some cur
  else ((upTo blocks).map fun i => (cur + 1 + i) % blocks).find? fun b => s.blockFree die b

/-- A block is erased: what its tiles held is gone (R296). -/
def State.eraseBlock (s : State) (die b : Nat) : State :=
  let x := s.nblock die b
  let s1 := forEach x.tiles (fun t s => s.withNand { s.nand with
    data := Tab.clear s.nand.data (4096 * t) (4096 * t + 4096)
    meta_ := Tab.set (fun _ => []) s.nand.meta_ t [] }) s
  s1.setNblock die b ⟨[], x.cycles + 1⟩

/-- A tile takes its place in a block of a die, which is erased first unless it is the one being programmed. -/
def State.placeIn (s : State) (die b tile : Nat) : State :=
  let cur := Tab.get (fun _ => 0) s.nand.open_ die
  let s1 := if b = cur then s else s.eraseBlock die b
  let s2 := s1.withNand { s1.nand with open_ := Tab.set (fun _ => 0) s1.nand.open_ die b }
  (s2.setNblock die b { s2.nblock die b with tiles := (s2.nblock die b).tiles ++ [tile] }).emit
    (.nand tile (s.channelFor tile) die b)

/-- A tile takes its place in the first die of its order that has a block for it. -/
def State.placeTile (s : State) (tile : Nat) : State :=
  let us := usable Config.dies
  let d := geometry us
  match (s.diesFor us tile).findSome? fun die => (s.blockFor d.blocks die).map fun b => (die, b) with
  | some x => s.placeIn x.1 x.2 tile
  | none => s

/-- Program the next tile of the commit in progress. -/
def State.programTile (s : State) (kind : Nat) (data : List Byte) : State :=
  match s.sto.queue with
  | [] => s
  | c :: _ =>
    let t := c.first + c.programmed
    let s1 := s.placeTile t
    let s2 := s1.withNand { s1.nand with
      data := Bytes.write s1.nand.data (4096 * t) data
      meta_ := Tab.set (fun _ => []) s1.nand.meta_ t (tileMeta t c.cseq c.programmed kind data) }
    (s2.putCommit { c with programmed := c.programmed + 1 }).spend 1

/-- Does the store end after the commit in progress: an orderly shutdown or an entry into S4 is under way (R300, R368)? -/
def State.storeEnds (s : State) : Bool := s.bst.shutting || s.pwr.s4Entry

/-- The commit at the front of the queue begins with its record. -/
def State.beginCommit (s : State) : State :=
  match s.sto.queue with
  | [] => s
  | c :: _ => if c.programmed = 0 then s.programTile 0 (c.record (s.rd64 4)) else s

/-- Program every whole tile of stream that the commit in progress has. -/
def State.programFull (s : State) : Nat → State
  | 0 => s
  | fuel + 1 =>
    match s.sto.queue with
    | [] => s
    | c :: _ =>
      if c.buf.length < 4096 then s
      else ((s.putCommit { c with buf := c.buf.drop 4096 }).programTile 1 (c.buf.take 4096)).programFull fuel

/-- The stream of a line joins the commit in progress. -/
def State.addLine (s : State) (bytes : List Byte) (lost : Bool) : State :=
  match s.sto.queue with
  | [] => s
  | c :: _ =>
    let s1 := if lost then (s.bump F.STO_LOST_CNT_COUNT).wr F.STO_STAT_LOST 1 else s
    (s1.putCommit { c with taken := c.taken + 1, buf := c.buf ++ bytes, lost := c.lost || lost }).programFull
      (c.buf.length + bytes.length)

/-- The stream of a lost line: a header with VALID at 0 and the LINE wanted, and zero slot bytes (R299). -/
def lostLine (line stride : Nat) : List Byte := leBytes 64 (line % 2 ^ 48) ++ List.replicate (256 * stride) 0

/-- Where a line stands in its ring: its header and its slot, each with its length (R143). -/
def State.lineRanges (s : State) (c : Commit) (line : Nat) : (Nat × Nat) × (Nat × Nat) :=
  let r := s.ringDesc c.ring
  ((r.hdr + line % 2 ^ r.log2n * 64, 64), (r.base + line % 2 ^ r.log2n * (r.stride * 256), 256 * c.stride))

/-- Read a line by the protocol of R145: none if its header is not that of the whole line, or its data are uncorrectable. -/
def State.readLine (s : State) (c : Commit) (line : Nat) : State × Option (List Byte) :=
  let a := s.lineRanges c line
  let h := s.hbmRead a.1.1 a.1.2
  let d := h.1.hbmRead a.2.1 a.2.2
  let word := leNat (h.2.2.take 8)
  (d.1, if !h.2.1 && !d.2.1 && word % 2 ^ 48 == line % 2 ^ 48 && bit word 48 then some (h.2.2 ++ d.2.2) else none)

/-- Has RINGk_LAST reached a line? -/
def State.ringHas (s : State) (k line : Nat) : Bool := decide (line ≤ s.rd64 (0xe00214 + 0x20 * (k % 4)))

/-- STO_LINE_READY: the next line of the commit in progress is complete in its ring and is read (R299), once the stacks that hold
it answer, which the store wakes (R365). -/
def execStoLineReady (up : Upsets) (s : State) : Answer :=
  act s fun s =>
    match s.sto.queue with
    | [] => s
    | c :: _ =>
      let line := c.line + c.taken
      if !s.on F.STO_STAT_READY || decide (c.count ≤ c.taken) || !s.ringHas c.ring line then s
      else
        let a := s.lineRanges c line
        (s.onceHbm a.1.1 a.1.2 fun s => s.onceHbm a.2.1 a.2.2 fun s =>
          let x := (s.upsets (upsetList up)).readLine c line
          match x.2 with
          | some bs => x.1.addLine bs false
          | none => x.1.addLine (lostLine line c.stride) true)

/-- LINE_WAIT_EXPIRY: the next line has not completed within WAIT_MS of the moment the commit reached it (R299). -/
def execLineWaitExpiry (s : State) : Answer :=
  act s fun s =>
    match s.sto.queue with
    | [] => s
    | c :: _ =>
      let line := c.line + c.taken
      if !s.on F.STO_STAT_READY || decide (c.count ≤ c.taken) || s.ringHas c.ring line then s
      else s.addLine (lostLine line c.stride) true

/-- A commit finishes with a status (R299). -/
def State.finishCommit (s : State) (c : Commit) (status : Nat) : State :=
  let s1 := s.withNand { s.nand with done := some c.first }
  let s2 := ((s1.wr64 0xb0060 c.first).wr F.STO_LAST_STATUS_STATUS status).bump F.STO_COMMIT_CNT_COUNT
  let s3 := s2.raise Ev.STO_COMMIT_DONE
  if status = 0 then s3 else s3.raise Ev.STO_COMMIT_ERR

/-- Commits end with status 2 (R300). -/
def State.abortCommits (s : State) (cs : List Commit) : State := forEach cs (fun c s => s.finishCommit c 2) s

/-- Every commit is ended. -/
def State.endCommits (s : State) : State := (s.setCommits []).abortCommits s.sto.queue

/-- What follows a commit that finished: the next one begins, or, where the store ends, the queue is aborted (R300). -/
def State.nextCommit (s : State) : State := if s.storeEnds then s.endCommits else s.beginCommit

/-- Setting ABORT. -/
def State.abortStore (s : State) : State := s.endCommits.wr F.STO_CTRL_ABORT 0

/-- A store that is not READY has no commit that could finish: the queue is aborted at once (R300). -/
def State.endStore (s : State) : State := if s.on F.STO_STAT_READY then s else s.endCommits

/-- STO_COMMIT_FINISH: the last tile, padded with zeros, is programmed and the commit finishes (R298, R299). -/
def execStoCommitFinish (s : State) : Answer :=
  act s fun s =>
    match s.sto.queue with
    | [] => s
    | c :: _ =>
      if !s.on F.STO_STAT_READY || decide (c.taken < c.count) then s
      else
        let s1 := if c.buf.isEmpty then s
          else (s.putCommit { c with buf := [] }).programTile 1 (c.buf ++ List.replicate (4096 - c.buf.length) 0)
        ((s1.setCommits s1.sto.queue.tail).finishCommit c (b2n c.lost)).nextCommit

/-- Tiles a commit needs (R297). -/
def tilesNeeded (n stride : Nat) : Nat := 1 + (n * (64 + 256 * stride) + 4095) / 4096

/-- STORE_COMMIT (R297): refused, or reserved and queued; the command completes either way. -/
def execStoreCommit (s : State) : Answer :=
  act s fun s =>
    match s.longNext 0x60 with
    | none => s
    | some cmd =>
      let s1 := s.startLong cmd
      let k := cmd.byte 4
      let f := cmd.num 8 6
      let n := cmd.num 16 4
      let r := s1.ringDesc (k % 4)
      let need := tilesNeeded n r.stride
      let last : Int := s1.rd64 (0xe00214 + 0x20 * (k % 4))
      if cmd.paramBad then s1.endLong 2 0
      else if !s1.on F.STO_STAT_READY || s1.sto.queue.length ≥ 16 then s1.endLong 4 0
      else if !s1.on (F.HBM_RING_BASE_HI_EN 0 k) || decide (2 ^ r.log2n < n) ||
          decide ((f : Int) < last - (2 ^ r.log2n : Nat) + 2) then s1.endLong 2 0
      else if s1.rd64 0xb0028 < need then s1.endLong 7 0
      else
        let t := s1.rd64 0xb0030
        let c : Commit := {
          first := t, cseq := s1.sto.cseq, tiles := need, ring := k, line := f, count := n, stride := r.stride,
          time := s1.now, taken := 0, buf := [], programmed := 0, lost := false }
        let s2 := s1.withSto { s1.sto with cseq := (s1.sto.cseq + 1) % 2 ^ 32 }
        let s3 := ((s2.withNand { s2.nand with next := t + need }).wr64 0xb0030 (t + need)).showSpace.setCommits
          (s2.sto.queue ++ [c])
        (s3.beginCommit).endLong 0 t

/-! ### Reads (R301) -/

/-- The tiles a running STORE_READ names: HBM address, first tile, count. -/
def MbxCmd.readArgs (c : MbxCmd) : Nat × Nat × Nat := (c.num 8 8, c.num 16 8, c.num 24 4)

/-- STORE_READ: refused, or started (R301). -/
def execStoreRead (s : State) : Answer :=
  act s fun s =>
    match s.longNext 0x61 with
    | none => s
    | some cmd =>
      let s1 := s.startLong cmd
      let a := cmd.readArgs
      if cmd.paramBad then s1.endLong 2 0
      else if !s1.on F.STO_STAT_READY then s1.endLong 4 0
      else if decide (a.2.1 < s1.rd64 0xb0038) || decide (s1.rd64 0xb0030 < a.2.1 + a.2.2) then s1.endLong 2 0
      else s1

/-- A failed tile is counted, recorded and raised (R301). -/
def State.tileFailed (s : State) (tile : Nat) : State :=
  let s1 := s.bump F.STO_CRC_ERR_CNT_COUNT
  let s2 := if s1.on F.STO_RD_ERR_HI_VALID then s1
    else (s1.setReg 0xb0048 (BitVec.ofNat 32 tile)).setReg 0xb004c (BitVec.ofNat 32 (2 ^ 31 + tile / 2 ^ 32 % 2 ^ 31))
  (s2.wr F.STO_STAT_RD_ERR 1).raise Ev.STO_RD_ERR

/-- Deliver one tile to HBM; the second component counts the failed ones. -/
def State.deliverTile (x : State × Nat) (a tile : Nat) (corrected failed : List (BitVec 64)) : State × Nat :=
  let s := if corrected.contains (BitVec.ofNat 64 tile) then x.1.bump F.STO_ECC_CORR_CNT_COUNT else x.1
  if s.tileReads tile failed then (s.hbmWrite a (s.tileData tile), x.2)
  else ((s.tileFailed tile).hbmWrite a (List.replicate 4096 0), x.2 + 1)

/-- Is a tile of the commits still to be programmed? -/
def State.tileWaits (s : State) (tile : Nat) : Bool :=
  s.sto.queue.any fun c => decide (c.first + c.programmed ≤ tile) && decide (tile < c.first + c.tiles)

/-- STORE_READ_COMPLETE (R301): a tile of a commit in progress is read once it has been programmed; the command ends once every
tile is written, for which the stacks answer. -/
def execStoreReadComplete (corrected failed : List (BitVec 64)) (s : State) : Answer :=
  act s fun s =>
    match s.mbx.longRun with
    | none => s
    | some cmd =>
      let a := cmd.readArgs
      if cmd.byte 0 != 0x61 || (upTo a.2.2).any (fun i => s.tileWaits (a.2.1 + i)) then s
      else
        s.onceHbm a.1 (4096 * a.2.2) fun s =>
          let x := (upTo a.2.2).foldl (fun x i => State.deliverTile x (a.1 + 4096 * i) (a.2.1 + i) corrected failed) (s, 0)
          x.1.endLong (if x.2 = 0 then 0 else 6) (a.2.2 - x.2 + 2 ^ 32 * x.2)

/-! ### Grown bad blocks (R302) -/

/-- Tiles that could not be read to be copied are lost: they read as failed tiles from then on (R293, R302). -/
def State.loseTiles (s : State) (failed : List (BitVec 64)) : State :=
  s.withNand { s.nand with meta_ := s.nand.meta_.filter fun e => !failed.contains (BitVec.ofNat 64 e.1) }

/-- The tiles of a block that are to be kept: programmed and not released. -/
def State.liveTiles (s : State) (die b : Nat) : List Nat :=
  (s.nblock die b).tiles.filter fun t => decide (s.nand.oldest ≤ t) && !(s.metaOf t).isEmpty

/-- Tile numbers as a command carries them. -/
def tilesIn (l : List (BitVec 64)) (tiles : List Nat) : List (BitVec 64) := l.filter fun t => tiles.contains t.toNat

/-- GROWN_BAD_BLOCK: a block reports a program or erase failure. It joins the table of bad blocks, and its good tiles are
programmed into other blocks under the same numbers. -/
def execGrownBadBlock (die : Fin 64) (block : Fin 1048576) (corrected failed : List (BitVec 64)) (s : State) : Answer :=
  act s fun s =>
    if !s.on F.STO_STAT_READY || decide (s.rd F.STO_GEOM_DIES ≤ die) || decide (s.rd F.STO_GEOM_BLOCKS ≤ block) ||
        !s.blockGood die block then s
    else
      let tiles := s.liveTiles die block
      let lost := tilesIn failed tiles
      let moved := tiles.filter fun t => !lost.contains (BitVec.ofNat 64 t)
      let s0 := ((s.countEcc (moved.filter fun t => corrected.contains (BitVec.ofNat 64 t))).loseTiles lost).setBadTable die
        (Tab.get (fun _ => []) s.nand.table die ++ [block.val])
      let s1 := s0.withNand { s0.nand with grown := s0.nand.grown + 1 }
      let s2 := ((s1.wr F.STO_BAD_GROWN_COUNT s1.nand.grown).wr F.STO_STAT_BAD_BLOCK 1).showSpace.raise Ev.STO_BAD_BLOCK
      let s3 := (forEach moved (fun t s => s.placeTile t) s2).spend moved.length
      match s3.sto.queue with
      | [] => s3
      | c :: cs =>
        if 0 < s3.overGrown && decide (s3.rd64 0xb0028 < moved.length) then ((s3.setCommits cs).finishCommit c 2).nextCommit
        else s3

end Sys2Proof.Machine
end

