-- ==== Sys2Proof/Machine/Image.lean ====
section
/-!
DEFINITION. Volkor images (R309–R317): header, sections, frames and trailer; the checks of R319 in their order; and what a
frame writes.
-/

namespace Sys2Proof.Machine

/-! ### Sources -/

/-- Where an image is read: a byte store, the place of its first byte, the source's length, the 8-byte words of the store that
read as uncorrectable, and the stacks that answer every read with an error. -/
structure Src where
  mem : Bytes
  base : Nat
  len : Nat
  bad : List Nat
  dead : List Nat
  deriving DecidableEq, Repr

/-- `n` bytes at an offset of the image. -/
def Src.bytes (g : Src) (off n : Nat) : List Byte := Bytes.read g.mem (g.base + off) n

/-- The number in `n` bytes. -/
def Src.num (g : Src) (off n : Nat) : Nat := leNat (g.bytes off n)

/-- Does a range meet an uncorrectable word? -/
def Src.hit (g : Src) (off n : Nat) : Bool :=
  (g.bad.any fun w => decide (8 * w < g.base + off + n) && decide (g.base + off < 8 * w + 8)) ||
    (!g.dead.isEmpty && (stacksTouched (g.base + off) n).any fun c => g.dead.contains c)

/-- Are the bytes of a range all 0? -/
def Src.zero (g : Src) (off n : Nat) : Bool := g.num off n == 0

/-- An image in HBM (R322, R324, R328). -/
def State.hbmSrc (s : State) (a len : Nat) : Src := 
  { mem := s.hbm, base := a, len := len, bad := s.badWords a len, dead := (upTo 2).filter fun c => s.stackDead c }

/-- The loader reads an image from HBM: the controllers correct and report what they meet (R139). -/
def State.readHbm (s : State) (a len : Nat) : State := (s.hbmRead a len).1

/-- An image in the configuration store. -/
def State.storeSrc (s : State) (a len : Nat) : Src :=
  { mem := s.cstore.data, base := a, len := len, bad := s.cstore.bad.map fun e => e.1, dead := [] }

/-! ### Header and section table (R309, R310) -/

/-- A section: TYPE, FRAMES, and where it starts and ends. -/
structure Sec where
  typ : Nat
  frames : Nat
  off : Nat
  stop : Nat
  deriving DecidableEq, Repr

/-- The sections' types in their order (R310): FABRIC, ESSENTIAL, REGS, SLOTS, FARMAP, GAFFER, ROUTE, INSTR. -/
def secOrder : List Nat := [7, 8, 4, 6, 5, 3, 2, 1]

/-- LENGTH. -/
def Src.length (g : Src) : Nat := g.num 24 8
/-- KIND. -/
def Src.kind (g : Src) : Nat := g.num 6 1
/-- SIGNED. -/
def Src.signed (g : Src) : Bool := bit (g.num 7 1) 0
/-- TARGET. -/
def Src.target (g : Src) : Nat := g.num 12 1
/-- WINDOW. -/
def Src.window (g : Src) : Nat := g.num 13 1
/-- SECTIONS. -/
def Src.nsec (g : Src) : Nat := g.num 14 1
/-- SECTOR_MASK. -/
def Src.mask (g : Src) : Nat := g.num 16 2

/-- Where the trailer lies. -/
def Src.trailer (g : Src) : Nat := g.length - 1040

/-- The sections present: each ends where the next begins, and the last before the trailer. -/
def Src.sections (g : Src) : List Sec :=
  (upTo (min 16 g.nsec)).map fun i =>
    { typ := g.num (64 + 16 * i) 1, frames := g.num (68 + 16 * i) 4, off := g.num (72 + 16 * i) 8,
      stop := if i + 1 < g.nsec then g.num (72 + 16 * (i + 1)) 8 else g.trailer }

/-- The place of a type in the order. -/
def secRank (t : Nat) : Nat := secOrder.idxOf t

/-- Is the section table as R310 requires? -/
def Src.tableOk (g : Src) : Bool :=
  let ss := g.sections
  decide (1 ≤ g.nsec) && decide (g.nsec ≤ 16) && decide (1552 ≤ g.length) &&
    (ss.map fun x => x.off).head? == some 512 &&
    (ss.all fun x => secOrder.contains x.typ && decide (1 ≤ x.frames) && x.off % 8 == 0 && decide (x.off < x.stop)) &&
    ((upTo g.nsec).all fun i => g.zero (65 + 16 * i) 3) &&
    ((upTo 16).all fun i => decide (i < g.nsec) || g.zero (64 + 16 * i) 16) &&
    ((ss.map fun x => secRank x.typ).zip ((ss.map fun x => secRank x.typ).drop 1)).all fun p => decide (p.1 < p.2)

/-- Is the header well formed: MAGIC, FORMAT, HDR_CRC, reserved bytes, the section table (cause 1)? -/
def Src.headerOk (g : Src) : Bool :=
  g.num 0 4 == 0x4b4c4f56 && g.num 4 2 == 0x0300 && g.num 508 4 == crc32c (g.bytes 0 508) &&
    decide (g.num 7 1 < 2) && g.zero 15 1 && g.zero 18 6 && g.zero 40 24 && g.zero 320 188 && g.length % 8 == 0 &&
    g.tableOk

/-- Is the image foreign to this part (cause 2)? -/
def Src.foreign (g : Src) : Bool :=
  g.num 8 2 != 0x1312 || decide (0xb0 < g.num 10 1) || !(g.num 11 1 == 0 || g.num 11 1 == Config.grade)

/-- May an image of this KIND hold a section of a type (R310)? -/
def secAllowed (kind window t : Nat) : Bool :=
  if t = 7 ∨ t = 8 then kind == 0 || kind == 2
  else if t = 4 ∨ t = 2 ∨ t = 1 then kind == 0 || kind == 1
  else if t = 6 then kind == 0
  else kind == 0 || (kind == 1 && window == 2)

/-- Do KIND, TARGET, WINDOW, SECTOR_MASK and the sections suit the operation (cause 3)? -/
def Src.kindOk (g : Src) (full : Bool) : Bool :=
  (if full then g.kind == 0 else g.kind == 1 || g.kind == 2) &&
    (if g.kind = 0 then g.target == 0xff && g.window == 0 && g.mask == 0
     else if g.kind = 1 then decide (g.target ≤ 15) && decide (g.window ≤ 2) && g.mask != 0
     else decide (g.target ≤ 7) && g.window == 0 && g.mask == 0) &&
    g.sections.all fun x => secAllowed g.kind g.window x.typ

/-- The longest image (cause 4): a full image, a parison, or a full image of serial flash. -/
def lengthLimit (full serial : Bool) : Nat := if serial then 2 ^ 28 else if full then 2900000000 else 1023 * 2 ^ 20

/-! ### Trailer and signature (R316, R317) -/

/-- Are TMAGIC, TCRC, LENGTH, FRAMES and HDR_DIGEST right (cause 11)? -/
def Src.trailerOk (g : Src) : Bool :=
  let t := g.trailer
  g.num t 4 == 0x454e4f44 && g.num (t + 1036) 4 == crc32c (g.bytes t 1036) && g.num (t + 8) 8 == g.length &&
    g.num (t + 4) 4 == (g.sections.map fun x => x.frames).sum && g.bytes (t + 16) 48 == Config.sha384 (g.bytes 0 512)

/-- The 48 bytes of the owner-key digest, as LCS_OWNER_DIGEST holds them. -/
def State.ownerDigest (s : State) : List Byte := (upTo 12).flatMap fun i => leBytes 4 (s.reg (0x50020 + 4 * i)).toNat

/-- Does the owner-signature check fail (R317, cause 12)? A digest of zeros is no digest (R434). -/
def State.sigFails (s : State) (g : Src) : Bool :=
  let t := g.trailer
  s.ownerDigest != List.replicate 48 0 && !(g.signed && Config.sha384 (g.bytes (t + 832) 97) == s.ownerDigest &&
    Config.ecdsaVerify (g.bytes (t + 832) 97) (g.bytes t 832) (g.bytes (t + 936) 96))

/-- The checks on header and trailer, in order: a list of (CAUSE, fails) (R319). -/
def State.headerChecks (s : State) (g : Src) (full serial : Bool) : List (Nat × Bool) :=
  [(5, decide (g.len < 512)), (13, g.hit 0 512), (1, !g.headerOk), (2, g.foreign), (3, !g.kindOk full),
   (4, decide (lengthLimit full serial < g.length)), (5, decide (g.len < g.length)), (13, g.hit g.trailer 1040),
   (11, !g.trailerOk), (12, s.sigFails g)]

/-- The CAUSE of the first check on header and trailer that fails. -/
def State.headerFault (s : State) (g : Src) (full serial : Bool) : Option Nat :=
  ((s.headerChecks g full serial).find? fun x => x.2).map fun x => x.1

/-! ### Frames (R311–R313) -/

/-- A frame: the entry of its section, TYPE, SEQ, TARGET, where its payload lies, and LEN. -/
structure Frm where
  sec : Nat
  typ : Nat
  seq : Nat
  target : Nat
  at_ : Nat
  len : Nat
  deriving DecidableEq, Repr

/-- The payload unit of a type, in 8-byte units (R312). -/
def unitOf : Nat → Nat
  | 1 => 5 | 2 => 29 | 3 => 1 | 4 => 2 | 5 => 2 | 6 => 1 | 7 => 8 | _ => 1

/-- Number of payload units of a frame. -/
def Frm.units (f : Frm) : Nat := f.len / unitOf f.typ

/-- The bits of a register that lie in named fields. -/
def RegRow.named (r : RegRow) : Nat :=
  r.fields.foldl (fun a f => if f.acc == .mbz || f.acc == .res then a else a + (2 ^ (f.hi - f.lo + 1) - 1) * 2 ^ f.lo) 0

/-- Which image may write a register: its class, instance and the bits allowed (R313). Classes: 0 SEC CTRL, 1 WIN_LEN,
2 MPU, 3 FOLD_EXP_A, 4 FOLD_EXP_B, 5 FAR_MAP, 6 GAF, 7 the device's. -/
def regClass (off : Nat) : Option (Nat × Nat × Nat) :=
  match blockAt off with
  | some (.sec, i, 0x0) => some (0, i, 0x1001f)
  | some (.sec, i, 0xc) => some (1, i, 0x3ff03ff)
  | some (.mpu, i, r) =>
    if r = 0 ∨ (0x40 ≤ r ∧ r < 0x60 ∧ r % 4 = 0) then some (2, i, 0xffffffff)
    else if r = 0x80 then some (2, i, 0xffff)
    else if r = 0x84 then some (2, i, 0xf8)
    else if r = 0x1000 then some (2, i, 3)
    else if r = 0x10 ∨ r = 0x14 then some (3, i, 0xffffffff)
    else if r = 0x18 ∨ r = 0x1c then some (4, i, 0xffffffff)
    else if 0xa0 ≤ r ∧ r < 0xc0 ∧ r % 4 = 0 then some (5, i, 0xffff8000)
    else none
  | some (.gaf, i, r) =>
    if r = 0 then some (6, i, 0x1ff0f07)
    else if r = 8 then some (6, i, 0xffff)
    else if 0x50 ≤ r ∧ r < 0x70 ∧ r % 4 = 0 then some (6, i, 0x800003ff)
    else if 0x80 ≤ r ∧ r < 0xc0 ∧ r % 8 = 0 then some (6, i, 0xffffffc0)
    else if 0x80 ≤ r ∧ r < 0xc0 ∧ r % 8 = 4 then some (6, i, 0x80001fff)
    else if 0xc0 ≤ r ∧ r < 0x100 ∧ r % 16 = 0 then some (6, i, 0xffffffc0)
    else if 0xc0 ≤ r ∧ r < 0x100 ∧ r % 16 = 4 then some (6, i, 0xfc003fff)
    else none
  | some (.cfg, _, 0x4004) => some (7, 0, 0xffffff)
  | some (.cfg, _, 0x4008) => some (7, 0, 0xfff)
  | some (.cfg, _, 0x4010) => some (7, 0, 0xffff)
  | some (.hbm, _, 0x0) => some (7, 0, 0xff06)
  | some (.hbm, _, 0xc) => some (7, 0, 0x3f)
  | some (.tb, _, 0xc) => some (7, 0, 0xffffffff)
  | some (.tb, _, 0x8) => some (7, 0, 0xffff0007)
  | some (.tb, _, 0x58) => some (7, 0, 0xffffffff)
  | some (.tb, _, 0x40) => some (7, 0, 0x3fff00)
  | _ => none

/-- Does SECTOR_MASK hold a sector? -/
def Src.hasSector (g : Src) (c : Nat) : Bool := bit g.mask c

/-- May an image write these bits of a register (R313)? `old` is the register before. -/
def Src.regOk (g : Src) (farmap : Bool) (off val mask old : Nat) : Bool :=
  match regRow? off, regClass off with
  | some row, some (cls, i, allowed) =>
    let m := mask &&& row.named
    (m &&& allowed) == m && (cls == 5) == farmap &&
    (g.kind != 1 ||
      (if g.window = 2 then
        if cls = 0 then g.hasSector i && ((val ^^^ old) &&& m &&& 0x1f) == 0
        else if cls = 1 then g.hasSector i
        else if cls ≤ 5 then g.hasSector (i / 8)
        else cls == 6 && i == g.target
       else
        if cls = 1 then g.hasSector i && (m &&& (0x3ff * 2 ^ (16 * g.window))) == m
        else cls == 3 + g.window && g.hasSector (i / 8)))
  | _, _ => false

/-- An entry of a REGS or FARMAP frame: offset, VALUE, MASK. -/
def Src.entry (g : Src) (f : Frm) (i : Nat) : Nat × Nat × Nat :=
  (g.num (f.at_ + 16 * i) 4, g.num (f.at_ + 16 * i + 4) 4, g.num (f.at_ + 16 * i + 8) 4)

/-- Write one entry (R313, R314): locks do not count; bits in no field and bits outside the table are not written. -/
def State.loadReg (s : State) (off val mask : Nat) : State :=
  match regRow? off, regClass off with
  | some row, some (_, _, allowed) =>
    let m := mask &&& row.named &&& allowed
    let old := (s.reg off).toNat
    s.setReg off (BitVec.ofNat 32 ((old - (old &&& m)) + (val &&& m)))
  | _, _ => s

/-- Are the entries of a REGS or FARMAP frame in range, each judged after those before it? -/
def State.regsOk (s : State) (g : Src) (f : Frm) : Bool :=
  ((upTo f.units).foldl (fun (x : Bool × State) i =>
    let e := g.entry f i
    (x.1 && g.zero (f.at_ + 16 * i + 12) 4 && g.regOk (f.typ == 5) e.1 e.2.1 e.2.2 (x.2.reg e.1).toNat,
      x.2.loadReg e.1 e.2.1 e.2.2)) (true, s)).1

/-- Is a SLOTS unit in range: router, port, and the entry as NOC_SLOT bits 7:0? -/
def slotUnitOk (v : Nat) : Bool := decide (slice v 5 0 ≤ 47) && decide (slice v 8 6 ≤ 6) && slice v 19 16 == 0 && slice v 63 24 == 0

/-- Is a frame in range (R312)? `s` holds the registers as the frames before it leave them. -/
def State.frameInRange (s : State) (g : Src) (f : Frm) : Bool :=
  let t := f.target
  let part := g.kind == 1 && decide (g.window < 2)
  let tileOk := g.kind != 1 || g.hasSector (slice t 6 0 / 8)
  if f.typ = 4 ∨ f.typ = 5 then t == 0 && s.regsOk g f
  else if f.typ = 6 then t == 0 && (upTo f.units).all fun i => slotUnitOk (g.num (f.at_ + 8 * i) 8)
  else if f.typ = 7 then
    slice t 63 18 == 0 && decide (slice t 17 3 + f.units ≤ 32768) && (g.kind != 2 || slice t 2 0 == g.target)
  else if f.typ = 8 then
    slice t 63 18 == 0 && decide (slice t 17 3 + 8 * f.units ≤ 32768) && (g.kind != 2 || slice t 2 0 == g.target)
  else if f.typ = 3 then
    slice t 63 13 == 0 && decide (slice t 12 4 + 2 * f.units ≤ 512) && (g.kind != 1 || slice t 3 0 == g.target)
  else if f.typ = 2 then
    let row := slice t 20 7
    slice t 63 21 == 0 && tileOk && decide (row + f.units ≤ 16384) &&
      (!part || (decide (8192 * g.window ≤ row) && decide (row + f.units ≤ 8192 * (g.window + 1)))) &&
      (upTo f.units).all fun i => g.zero (f.at_ + 232 * i + 227) 5
  else
    let p := slice t 16 7
    let st := slice t 30 17
    let n := 4 * f.units
    let rep := s.repl (slice t 6 0) p
    slice t 63 31 == 0 && tileOk && (if rep then p % 8 == 0 && decide (st + n ≤ 16384) else decide (st + n ≤ 2048)) &&
      (!part || (decide (winBase (g.window == 1) rep ≤ st) &&
        decide (st + n ≤ winBase (g.window == 1) rep + winSize true rep)))

/-- Word `i` of an INSTR frame. -/
def Src.stepWord (g : Src) (f : Frm) (i : Nat) : Nat := g.num (f.at_ + 10 * i) 10

/-- Word `i` of a GAFFER frame. -/
def Src.gafWord (g : Src) (f : Frm) (i : Nat) : Nat := g.num (f.at_ + 4 * i) 4

/-- Does the loader take a gaffer word by itself (R99)? A WAIT_EVT with MASK 0 is rejected too (R114). -/
def State.gafWordOk (s : State) (n pc w : Nat) : Bool :=
  gafValid (s.dual n) pc (6 * 2 ^ 26) w && !(gafOp w == 2 && slice w 7 0 == 0) &&
    (gafOp w != 3 ||
      (if slice w 25 24 = 2 then runValid (s.dual n) w (s.lenCode n false) || runValid (s.dual n) w (s.lenCode n true)
       else runValid (s.dual n) w (s.lenCode n (slice w 25 24 == 1))))

/-- Are the single words of a frame valid (cause 10: R70, R99)? -/
def State.wordsOk (s : State) (g : Src) (f : Frm) : Bool :=
  if f.typ = 1 then
    (upTo (4 * f.units)).all fun i => stepInvalid (s.repl (slice f.target 6 0) (slice f.target 16 7)) (g.stepWord f i) == none
  else if f.typ = 3 then
    (upTo (2 * f.units)).all fun i => s.gafWordOk (slice f.target 3 0) (slice f.target 12 4 + i) (g.gafWord f i)
  else true

/-- The frame that starts at an offset. -/
def Src.frame (g : Src) (sec pos : Nat) : Frm :=
  { sec := sec, typ := g.num (pos + 2) 1, seq := g.num (pos + 4) 4, target := g.num (pos + 8) 8, at_ := pos + 16,
    len := g.num pos 2 % 1024 }

/-- The checks on the frame at `pos` of section `x`, in order (R319). -/
def State.frameChecks (s : State) (g : Src) (x : Sec) (f : Frm) (pos seq : Nat) : List (Nat × Bool) :=
  let size := 24 + 8 * f.len
  [(6, decide (x.stop < pos + 24)), (13, g.hit pos 8),
   (6, decide (1024 ≤ g.num pos 2) || !g.zero (pos + 3) 1 || f.len == 0 || decide (512 < f.len) ||
     f.len % unitOf x.typ != 0 || decide (x.stop < pos + size)),
   (13, g.hit pos size), (6, !g.zero (pos + size - 4) 4),
   (7, g.num (pos + size - 8) 4 != crc32c (g.bytes pos (size - 8))), (8, f.typ != x.typ || f.seq != seq),
   (9, !s.frameInRange g f), (10, !s.wordsOk g f)]

/-! ### What a frame writes (R38, R80, R312, R313, R316) -/

/-- Put a step word of a logical tile at a step of a BP's bank or stream. -/
def State.putStep (s : State) (t p st w : Nat) : State :=
  s.withSteps (Tab.set (fun _ => (0 : StepWord)) s.steps (stepKey (s.repl t p) (s.phys t) p st) (BitVec.ofNat 80 w))

/-- Put a route row, with its parity. -/
def State.putRow (s : State) (t r fields : Nat) : State :=
  s.withRoutes (Tab.set (fun _ => 0) s.routes (s.phys t * 16384 + r) (rowSealed fields))

/-- Write a frame's payload. -/
def State.writeFrame (s : State) (g : Src) (f : Frm) : State :=
  let t := f.target
  if f.typ = 1 then
    forEach (upTo (4 * f.units)) (fun i s => s.putStep (slice t 6 0) (slice t 16 7) (slice t 30 17 + i) (g.stepWord f i)) s
  else if f.typ = 2 then
    forEach (upTo f.units) (fun i s => s.putRow (slice t 6 0) (slice t 20 7 + i) (g.num (f.at_ + 232 * i) 227)) s
  else if f.typ = 3 then
    forEach (upTo (2 * f.units)) (fun i s =>
      s.setReg (0x100800 + 0x10000 * (slice t 3 0 % 16) + 4 * ((slice t 12 4 + i) % 512)) (BitVec.ofNat 32 (g.gafWord f i))) s
  else if f.typ = 4 ∨ f.typ = 5 then
    forEach (upTo f.units) (fun i s => s.loadReg (g.entry f i).1 (g.entry f i).2.1 (g.entry f i).2.2) s
  else if f.typ = 6 then
    forEach (upTo f.units) (fun i s =>
      let v := g.num (f.at_ + 8 * i) 8
      let k := slotKeyOf (1 - s.rd F.NOC_STAT_BANK) (slice v 5 0) (slice v 8 6) (slice v 15 9)
      (s.withSlots (Tab.set (fun _ => 0) s.slots k (slice v 23 20)))) s
  else if f.typ = 7 then
    s.withFab { s.fab with
               words := Bytes.write s.fab.words (slice t 2 0 * 2 ^ 21 + 64 * slice t 17 3) (g.bytes f.at_ (8 * f.len)) }
  else
    s.withFab { s.fab with
               essential := Bytes.write s.fab.essential (slice t 2 0 * 2 ^ 15 + slice t 17 3) (g.bytes f.at_ (8 * f.len)) }

/-! ### Scanning an image (R319) -/

/-- A check that failed: CAUSE, section-table entry, SEQ of the frame. -/
structure ImgFail where
  cause : Nat
  sec : Nat
  frame : Nat
  deriving DecidableEq, Repr

/-- Where a scan stands: the registers and memories as the frames so far leave them, and the failure that ended it. -/
structure Scan where
  st : State
  fail : Option ImgFail

/-- Which frames a load reads and which it writes, and the sections whose digests it checks. -/
structure Pick where
  read : State → Frm → Bool
  keep : State → Frm → Bool
  digest : Nat → Bool

/-- Everything is read, checked and written. -/
def Pick.all : Pick := ⟨fun _ _ => true, fun _ _ => true, fun _ => true⟩

/-- Only some frames are read, and written (R36, R330, R361). -/
def Pick.only (p : Frm → Bool) : Pick := ⟨fun _ f => p f, fun _ _ => true, fun _ => false⟩

/-- The sections of some types are read and their digests checked, and only some of their frames are written (R319, R330). -/
def Pick.part (types : List Nat) (p : Frm → Bool) : Pick :=
  ⟨fun _ f => types.contains f.typ, fun _ f => p f, fun t => types.contains t⟩

/-- Take the frames of a section from `pos` on: each is checked before it is written. -/
def Src.scanFrames (g : Src) (m : Pick) (i : Nat) (x : Sec) : Nat → Nat → Nat → State → Scan
  | 0, _, seq, s => ⟨s, some ⟨6, i, seq⟩⟩
  | fuel + 1, pos, seq, s =>
    if pos = x.stop then
      if !m.digest x.typ || seq = x.frames && g.bytes (g.trailer + 64 + 48 * i) 48 == Config.sha384 (g.bytes x.off (x.stop - x.off)) then
        ⟨s, none⟩
      else ⟨s, some ⟨11, i, seq⟩⟩
    else
      let f := g.frame i pos
      let next := pos + 24 + 8 * f.len
      if !m.read s f then g.scanFrames m i x fuel next (seq + 1) s
      else
        match (s.frameChecks g x f pos seq).find? fun c => c.2 with
        | some c => ⟨s, some ⟨c.1, i, seq⟩⟩
        | none => g.scanFrames m i x fuel next (seq + 1) (if m.keep s f then s.writeFrame g f else s)

/-- Take the sections of an image in order, until a check fails. -/
def Src.scanSections (g : Src) (m : Pick) : List (Nat × Sec) → State → Scan
  | [], s => ⟨s, none⟩
  | (i, x) :: rest, s =>
    let r := g.scanFrames m i x ((x.stop - x.off) / 32 + 1) x.off 0 s
    match r.fail with
    | some f => ⟨r.st, some f⟩
    | none => g.scanSections m rest r.st

/-- The sections with their entries of the section table. -/
def Src.entries (g : Src) : List (Nat × Sec) := ((upTo 16).zip g.sections)

/-! ### Checks across frames (R319 cause 10) -/

/-- The section entry of a type, and the SEQ of its last frame; (0, 0) where the image has none. -/
def Src.lastOf (g : Src) (typ : Nat) : Nat × Nat :=
  match g.entries.find? fun e => e.2.typ == typ with
  | some e => (e.1, e.2.frames - 1)
  | none => (0, 0)

/-- The loaded step words of a tile: BP, whether it is replicated, window, window step, word. -/
def State.tileWords (s : State) (t : Nat) : List (Nat × Nat × Nat × Nat × Nat) :=
  (s.steps.filter fun e => e.1 / 2097152 == s.phys t).map fun e =>
    let p := e.1 / 2048 % 1024
    let b := e.1 % 2048
    let rep := s.repl t p
    let st := if rep then 8192 * (b / 1024) + 1024 * (p % 8) + b % 1024 else b
    let dual := match s.tileRegion t with | some n => s.dual n | none => false
    let win := dual && decide (winBase true rep ≤ st)
    (p, b2n rep, b2n win, st - (if win then winBase true rep else 0), e.2.toNat)

/-- The gob-out or request bits that a word names: none for other kinds. -/
def wordBits (rep : Nat) (w : Nat) : List Nat :=
  let tt := slice (stepTT w) (if stepKind w = 4 then 13 else 14) 0
  if stepKind w = 4 ∨ stepKind w = 5 then (if rep = 1 then (upTo 8).map fun j => tt / 8 * 8 + j else [tt]) else []

/-- Do two step words of a tile name the same bit at the same step (R65)? -/
def State.bitClash (s : State) (t : Nat) : Bool :=
  let ws := (s.tileWords t).filter fun x => stepKind x.2.2.2.2 == 4 || stepKind x.2.2.2.2 == 5
  ws.any fun x => ws.any fun y =>
    decide (x.1 < y.1) && x.2.2.1 == y.2.2.1 && x.2.2.2.1 == y.2.2.2.1 && stepKind x.2.2.2.2 == stepKind y.2.2.2.2 &&
      (wordBits x.2.1 x.2.2.2.2).any fun b => (wordBits y.2.1 y.2.2.2.2).contains b

/-- Does a step of a tile read a global track of a sector outside its region (R77)? -/
def State.trackStray (s : State) (t : Nat) : Bool :=
  (s.tileRegion t).isSome && (s.tileWords t).any fun x =>
    (upTo (kindUse (stepKind x.2.2.2.2)).1).any fun i =>
      match operandOf (stepOpnd x.2.2.2.2 i) with
      | .track j =>
        decide (384 ≤ j) &&
          s.tileRegion (8 * slice (s.rd (F.MPU_TRK_CFG_GSEL0 t) + 16 * s.rd (F.MPU_TRK_CFG_GSEL1 t) +
            256 * s.rd (F.MPU_TRK_CFG_GSEL2 t) + 4096 * s.rd (F.MPU_TRK_CFG_GSEL3 t)) (4 * ((j - 384) / 32) + 3)
              (4 * ((j - 384) / 32))) != s.tileRegion t
      | _ => false

/-- Do BCAST, EXPECT, HOLD or D_CODE differ among the tiles of a region (R88, R131)? -/
def State.tilesDiffer (s : State) (n : Nat) : Bool :=
  let key := fun t => (s.rd (F.MPU_GOB_CFG_HOLD t), s.rd (F.MPU_GOB_CFG_EXPECT t), s.rd (F.MPU_GOB_CFG_BCAST t),
    s.rd (F.MPU_MP_CFG_D_CODE t))
  match s.regionTiles n with
  | [] => false
  | t :: ts => ts.any fun u => key u != key t

/-- Does a LOOP of gaffer `n` name an END that does not hold ENDLOOP (R99)? -/
def State.loopStray (s : State) (n : Nat) : Bool :=
  (upTo 512).any fun i =>
    gafOp (s.progWord n i) == 5 && gafOp (s.progWord n (slice (s.progWord n i) 24 16)) != 6

/-- The check across frames that fails, on the state with the whole image written: R99, R65 and R77, R88 and R131, R251. -/
def State.crossFault (s : State) (g : Src) : Option ImgFail :=
  let regions := if g.kind = 0 then upTo 16 else if g.kind = 1 then [g.target] else []
  let tiles := if g.kind = 0 then upTo 128 else (upTo 128).filter fun t => g.kind == 1 && g.hasSector (t / 8)
  let at_ := fun typ => some (ImgFail.mk 10 (g.lastOf typ).1 (g.lastOf typ).2)
  if (g.kind = 0 || g.window = 2) && regions.any fun n => s.loopStray n then at_ 3
  else if tiles.any fun t => s.bitClash t || s.trackStray t then at_ 1
  else if regions.any fun n => s.tilesDiffer n then at_ 4
  else if g.kind = 0 && (s.switchFault (1 - s.rd F.NOC_STAT_BANK)).isSome then at_ 6
  else none

/-! ### Clears (R315, R80, R97) -/

/-- Clear the step words and route rows of a physical tile: the whole, or one window's layer and half. -/
def State.clearLayers (s : State) (pt : Nat) (win : Option Bool) : State :=
  let drop := fun (size half : Nat) (k : Nat) =>
    k / size == pt && (match win with | none => true | some w => decide (k % half * 2 / half = b2n w))
  (((s.withSteps (s.steps.filter fun e => !drop 2097152 2048 e.1)).withRoutes (s.routes.filter fun e => !drop 16384 16384 e.1)).withBst { s.bst with patterns := s.bst.patterns.filter fun x => x != pt || win.isSome })

/-- Every word of gaffer `n` becomes HALT. -/
def State.clearProg (s : State) (n : Nat) : State :=
  s.withRegs (Tab.clear s.regs (0x100800 + 0x10000 * (n % 16)) (0x101000 + 0x10000 * (n % 16)))

/-- The configuration words of partition `k` become 0, and its essential-bit map is dropped. -/
def State.clearPart (s : State) (k : Nat) : State :=
  s.withFab { s.fab with
             words := Tab.clear s.fab.words (k * 2 ^ 21) ((k + 1) * 2 ^ 21)
             essential := Tab.clear s.fab.essential (k * 2 ^ 15) ((k + 1) * 2 ^ 15)
             hasEss := setBitTo s.fab.hasEss k false }

/-- Clear what a full image loads but for the fabric. Sectors in `kept` keep their layers and route rows (R347). -/
def State.clearArray (s : State) (kept : Nat → Bool) : State :=
  let s1 := forEach (upTo 144) (fun pt s => if kept (pt / 9) then s else s.clearLayers pt none) s
  let s2 := forEach (upTo 16) (fun n s => s.clearProg n) s1
  let bank := 1 - s2.rd F.NOC_STAT_BANK
  s2.withSlots (Tab.clear s2.slots (bank * 49152) ((bank + 1) * 49152))

/-- Clear what a full image loads. -/
def State.clearAll (s : State) (kept : Nat → Bool) : State := forEach (upTo 8) (fun k s => s.clearPart k) (s.clearArray kept)

/-- Partitions `ks` have an essential-bit map where the image that was loaded has an ESSENTIAL section (R329). -/
def State.markEss (s : State) (g : Src) (ks : List Nat) : State :=
  s.withFab { s.fab with hasEss := ks.foldl (fun a k => setBitTo a k (g.sections.any fun x => x.typ == 8)) s.fab.hasEss }

/-- Clear what a parison loads. -/
def State.clearFor (s : State) (g : Src) : State :=
  if g.kind = 2 then s.clearPart g.target
  else
    let ts := (upTo 128).filter fun t => g.hasSector (t / 8)
    let win := if g.window = 2 then none else some (g.window == 1)
    let s1 := forEach ts (fun t s => s.clearLayers (s.phys t) win) s
    if g.window = 2 then s1.clearProg g.target else s1

/-- Check and write an image whose header has passed. -/
def State.loadImage (s : State) (g : Src) (m : Pick) : Scan := g.scanSections m g.entries s

/-- All checks of an image, the ones across frames included, with nothing written: the failure, if any (R319, R322). -/
def State.checkImage (s : State) (g : Src) (full serial : Bool) : Option ImgFail :=
  match s.headerFault g full serial with
  | some c => some ⟨c, 0, 0⟩
  | none =>
    let r := (if full then s.clearAll fun _ => false else s.clearFor g).loadImage g .all
    match r.fail with
    | some f => some f
    | none => r.st.crossFault g

end Sys2Proof.Machine
end

