-- ==== Sys2Proof/Machine/Loader.lean ====
section
/-!
DEFINITION. The configuration store and the loader beside full loads (R36, R306, R307, R324–R330): parisons, the sources
of resident content, store operations, remaps and scrubbing.
-/

namespace Sys2Proof.Machine

/-! ### The store's records (R306, R307, R331) -/

/-- Where slot `k`'s descriptor begins. -/
def slotAt (k : Nat) : Nat := 0x100000 + k * 0xb0000000

/-- Slot descriptor `k`; one with an uncorrectable word reads as INVALID (R307). -/
def State.slotDesc (s : State) (k : Nat) : Slot :=
  let d := Tab.get (fun _ => (⟨0, 0, false⟩ : Slot)) s.cstore.slots k
  if s.cstore.spoilt (slotAt k) 4096 then { d with state := 3 } else d

/-- Entry `i` of the parison index. -/
def State.par (s : State) (i : Nat) : Par := Tab.get (fun _ => Par.init) s.cstore.pars i

/-- Is slot `k` a recorded source (R327)? -/
def State.slotInUse (s : State) (k : Nat) : Bool := s.ldr.full == some k

/-- Is parison index `i` a recorded source (R327)? -/
def State.parInUse (s : State) (i : Nat) : Bool :=
  (s.ldr.wins.any fun e => e.2 == some i) || s.ldr.parts.any fun e => e.2 == some i

/-- Mebibytes of a length, rounded up. -/
def mib (n : Nat) : Nat := (n + 2 ^ 20 - 1) / 2 ^ 20

/-- CFG_SLOTk as its descriptor and the recorded sources give it. -/
def State.slotWord (s : State) (k : Nat) : Nat :=
  let d := s.slotDesc k
  2 ^ 30 * d.state + 2 ^ 29 * b2n d.signed + 2 ^ 28 * b2n (s.slotInUse k) + mib d.length % 4096

/-- CFG_PAR_INFO for index `i`. -/
def State.parWord (s : State) (i : Nat) : Nat :=
  let p := s.par i
  2 ^ 30 * p.state + 2 ^ 29 * b2n (s.parInUse i) + 2 ^ 27 * p.kind + 2 ^ 20 * p.target + 2 ^ 18 * p.window + p.count % 1024

/-- The registers that show the store follow it. -/
def State.showStore (s : State) : State :=
  (forEach (upTo 5) (fun k s => s.setReg (0x60020 + 4 * (k % 5)) (BitVec.ofNat 32 (s.slotWord k))) s).setReg 0x60044
    (BitVec.ofNat 32 (s.parWord (s.rd F.CFG_PAR_SEL_INDEX)))

/-- Put slot descriptor `k`, which is written whole. -/
def State.setSlot (s : State) (k : Nat) (d : Slot) : State :=
  (s.withCstore { s.cstore with
    slots := Tab.set (fun _ => (⟨0, 0, false⟩ : Slot)) s.cstore.slots k d
    bad := Tab.clear s.cstore.bad (slotAt k / 8) (slotAt k / 8 + 512) }).showStore

/-- Put entry `i` of the parison index. -/
def State.setPar (s : State) (i : Nat) (p : Par) : State :=
  (s.withCstore { s.cstore with pars := Tab.set (fun _ => Par.init) s.cstore.pars i p }).showStore

/-- Where slot `k`'s image begins. -/
def slotBase (k : Nat) : Nat := slotAt k + 4096

/-- Where extent `e` of the parison area lies. -/
def extentAt (e : Nat) : Nat := 0x380100000 + e * 2 ^ 20

/-- Slot `k`'s image, with a word that reads as uncorrectable now. -/
def State.slotSrc (s : State) (k : Nat) (upset : Option Nat) : Src :=
  let g := s.storeSrc (slotBase k) (s.slotDesc k).length
  { g with bad := upset.toList ++ g.bad }

/-- Parison `i`'s image. -/
def State.parSrc (s : State) (i : Nat) (upset : Option Nat) : Src :=
  let g := s.storeSrc (extentAt (s.par i).first) (s.par i).length
  { g with bad := upset.toList ++ g.bad }

/-! ### What the loader holds -/

/-- Put the loader. -/
def State.setLdr (s : State) (l : Loader) : State := s.withLdr l

/-- CFG_STAT.LOAD_BUSY: a load, stage or commit is running. -/
def State.showBusy (s : State) : State :=
  s.wr F.CFG_STAT_LOAD_BUSY (b2n (s.ldr.load.isSome || s.ldr.stage.isSome || s.ldr.job.isSome))

/-- The sectors that loads and commits use hold the LOAD vote (R364). -/
def State.useSectors (s : State) (l : List Nat) : State := (s.withPwr { s.pwr with loadUse := l }).evalVotes

/-- The same of the sectors that a memory test uses. -/
def State.testSectors (s : State) (l : List Nat) : State := (s.withPwr { s.pwr with testUse := l }).evalVotes

/-- A failed operation is counted and, while no record is held, recorded (R319). -/
def State.loadErr (s : State) (f : ImgFail) : State :=
  let s1 := s.bump F.CFG_LOAD_ERR_CNT_COUNT
  if f.cause = 0 || s1.on F.CFG_LOAD_ERR_VALID then s1
  else s1.setReg 0x60004 (BitVec.ofNat 32 (2 ^ 31 + 2 ^ 27 * f.cause + 2 ^ 23 * (f.sec % 16) + f.frame % 2 ^ 23))

/-- The life-cycle state (R416). -/
def State.lcState (s : State) : Nat := s.rd F.LCS_STATE

/-- READY of window A, of window B (R116). -/
def readyFld (n : Nat) (win : Bool) : Fld := if win then F.GAF_STATUS_READY_B n else F.GAF_STATUS_READY_A n

/-- Region `n` enters LOADING (R105). -/
def State.setLoading (s : State) (n : Nat) : State :=
  let s1 := s.wr F.FLT_STAT_FENCED (setBitTo (s.rd F.FLT_STAT_FENCED) n false)
  (((s1.wr (F.GAF_STATUS_STATE n) 1).wr (readyFld n false) 0).wr (readyFld n true) 0)

/-- The recorded source of a window of region `n`: 0 A, 1 B, 2 the whole region. -/
def State.winSrc (s : State) (n w : Nat) : Option Nat := Tab.get (fun _ => none) s.ldr.wins (4 * n + w)

/-- Record the source of a window or region; a whole region's source replaces its windows'. -/
def State.setWinSrc (s : State) (n w : Nat) (i : Option Nat) : State :=
  let t := if w = 2 then Tab.clear s.ldr.wins (4 * n) (4 * n + 3) else s.ldr.wins
  (s.setLdr { s.ldr with wins := Tab.set (fun _ => none) t (4 * n + w) i }).showStore

/-- The recorded source of partition `k`. -/
def State.partSrc (s : State) (k : Nat) : Option Nat := Tab.get (fun _ => none) s.ldr.parts k

/-- Record the source of partition `k`. -/
def State.setPartSrc (s : State) (k : Nat) (i : Option Nat) : State :=
  (s.setLdr { s.ldr with parts := Tab.set (fun _ => none) s.ldr.parts k i }).showStore

/-- A measurement (R424): 48 bytes, 0 where nothing has been measured. -/
def State.chainAt (s : State) (i : Nat) : List Byte := Tab.get (fun _ => List.replicate 48 0) s.lcs.chain i

/-- Extend the measurement of a region or partition by a committed parison's trailer (R424). -/
def State.measure (s : State) (i : Nat) (g : Src) : State :=
  let v := Config.sha384 (s.chainAt i ++ Config.sha384 (g.bytes g.trailer 832))
  (s.withLcs { s.lcs with chain := Tab.set (fun _ => List.replicate 48 0) s.lcs.chain i v })

/-! ### Reloading from the recorded sources (R36, R327, R330, R361) -/

/-- The sources of region `n`'s content, oldest first, each with the window it rewrote; of a sector of no region, the full
image alone. -/
def State.regionSources (s : State) (n : Option Nat) (upset : Option Nat) : List (Src × Option Bool) :=
  let full := (s.ldr.full.map fun k => (s.slotSrc k upset, none)).toList
  match n with
  | none => full
  | some n =>
    let base := match s.winSrc n 2 with
      | some i => [(s.parSrc i upset, none)]
      | none => full
    base ++ ((s.winSrc n 0).map fun i => (s.parSrc i upset, some false)).toList ++
      ((s.winSrc n 1).map fun i => (s.parSrc i upset, some true)).toList

/-- Is the frame one of step words or route rows of these tiles? -/
def Frm.ofTiles (ts : List Nat) (f : Frm) : Bool := (f.typ == 1 || f.typ == 2) && ts.contains (slice f.target 6 0)

/-- Clear and reload the step words and route rows of tiles from a list of sources; a failed check of a frame ends it
(R361). -/
def State.reloadTiles (s : State) (ts : List Nat) : List (Src × Option Bool) → State × Option ImgFail
  | [] => (s, none)
  | (g, win) :: rest =>
    let s1 := forEach ts (fun t s => s.clearLayers (s.phys t) win) s
    let r := s1.loadImage g (.only (Frm.ofTiles ts))
    match r.fail with
    | some f => (r.st, some f)
    | none => r.st.reloadTiles ts rest

/-! ### Stage (R324) -/

/-- Extents that entry `p` holds. -/
def Par.holds (p : Par) (e : Nat) : Bool := p.state == 2 && decide (p.first ≤ e) && decide (e < p.first + p.count)

/-- The first free run of `n` extents. -/
def State.freeRun (s : State) (n : Nat) : Option Nat :=
  firstIdx 1023 fun f => decide (f + n ≤ 1023) && s.cstore.pars.all fun x => (upTo n).all fun i => !x.2.holds (f + i)

/-- STAGE_PARISON. -/
def execStageParison (s : State) : Answer :=
  act s fun s =>
    match s.longNext 0x02 with
    | none => s
    | some c =>
      let s1 := s.startLong c
      let i := c.byte 4
      if c.paramBad then s1.endLong 2 0
      else if s1.lcState = 4 then s1.endLong 5 0
      else if s1.parInUse i || (s1.ldr.job.map fun j => j.par) == some (some i) then s1.endLong 3 0
      else
        ((s1.setLdr { s1.ldr with stage := some (i, c.num 8 8, c.num 16 4) }).setPar i { Par.init with state := 1 }).showBusy

/-- Why a stage fails: the checks of R319 with the sector set of R324 and the free run, nothing being written. -/
def State.stageFail (s : State) (g : Src) : Option ImgFail :=
  match s.headerFault g false false with
  | some c => some ⟨c, 0, 0⟩
  | none =>
    if g.kind = 1 && g.mask != (s.sectors g.target).foldl (fun a c => a + 2 ^ c) 0 then some ⟨9, 0, 0⟩
    else if (s.freeRun (mib g.length)).isNone then some ⟨14, 0, 0⟩
    else s.checkImage g false false

/-- The entry of a staged parison. -/
def State.staged (s : State) (g : Src) : Par :=
  ⟨2, g.kind, g.target, g.window, g.mask, g.length, (s.freeRun (mib g.length)).getD 0, mib g.length⟩

/-- PARISON_STAGE_COMPLETE (R324). -/
def execParisonStageComplete (up : Upsets) (s : State) : Answer :=
  act s fun s =>
    match s.ldr.stage with
    | none => s
    | some (i, a, len) => (s.upsets (upsetList up)).onceHbm a len fun s =>
      let g := s.hbmSrc a len
      let s1 := (s.setLdr { s.ldr with stage := none }).showBusy.readHbm a len
      match s.stageFail g with
      | some f => (((s1.setPar i { Par.init with state := 3 }).loadErr f).raise Ev.CFG_PAR_FAIL).endLong 6 f.cause
      | none =>
        let p := s.staged g
        let s2 := s1.storeWrite (extentAt p.first) (g.bytes 0 g.length)
        ((s2.setPar i p).raise Ev.CFG_PAR_DONE).endLong 0 g.target

/-! ### Commit (R325–R327) -/

/-- Is window `w` of region `n` selected, or the window of a cycle fixed and not finished (R325)? -/
def State.winBusy (s : State) (n : Nat) (w : Bool) : Bool :=
  let g := s.gaf n
  s.rd (F.GAF_STATUS_SEL n) == b2n w || (g.phase != .none && g.cur.win == w) ||
    (match g.next with | some c => g.nextFixed && c.win == w | none => false)

/-- Does the target's state allow the commit (R37, R325)? -/
def State.commitOk (s : State) (p : Par) : Bool :=
  let n := p.target
  if p.kind = 2 then bit (s.rd F.CFG_FAB_STAT_RELEASED) n
  else
    if p.window = 2 then
      (s.sectors n).foldl (fun a c => a + 2 ^ c) 0 == p.mask && p.mask != 0 && (s.run n == 0 || s.run n == 5)
    else s.dual n && !s.winBusy n (p.window == 1)

/-- Can region `n` not be loaded: a sector of it is unusable, or its gaffer's program memory failed (R404, R406)? -/
def State.unloadable (s : State) (n : Nat) : Bool :=
  (s.sectors n).any (fun c => s.on (F.SEC_STATUS_UNUSABLE c)) || bit s.cstore.gafBad n

/-- A commit or automatic reload begins. -/
def State.beginJob (s : State) (j : Job) : State :=
  let s1 := (s.setLdr { s.ldr with job := some j }).showBusy
  if j.kind = 2 then s1.drainPart j.target
  else if j.window = 2 then (s1.setLoading j.target).useSectors (s1.sectors j.target)
  else (s1.wr (readyFld j.target (j.window == 1)) 0).useSectors (s1.sectors j.target)

/-- Does a load, a commit or a reload run that a new one must wait for? -/
def State.loaderBusy (s : State) : Bool := s.ldr.load.isSome || s.ldr.job.isSome

/-- COMMIT_PARISON. -/
def execCommitParison (s : State) : Answer :=
  act s fun s =>
    match s.longNext 0x03 with
    | none => s
    | some c =>
      let s1 := s.startLong c
      let i := c.byte 4
      let p := s1.par i
      if c.paramBad then s1.endLong 2 0
      else if s1.lcState = 4 then s1.endLong 5 0
      else if p.state ≠ 2 then s1.endLong 3 0
      else if c.byte 5 ≠ p.target || c.byte 6 ≠ (if p.kind = 1 && p.window < 2 then p.window else 0) then s1.endLong 2 0
      else if s1.loaderBusy then s1.endLong 4 0
      else if !s1.commitOk p then s1.endLong 3 0
      else s1.beginJob ⟨some i, p.kind, p.target, p.window, false⟩

/-- The next automatic reload begins when the loader is free (R330). -/
def State.nextReload (s : State) : State :=
  match s.ldr.reloads with
  | [] => s
  | j :: js => if s.loaderBusy then s else (s.setLdr { s.ldr with reloads := js }).beginJob j

/-- The source of a job. -/
def State.jobSrc (s : State) (j : Job) (upset : Option Nat) : Src :=
  match j.par with
  | some i => s.parSrc i upset
  | none => s.slotSrc (s.ldr.full.getD 0) upset

/-- Which frames an automatic reload writes: a partition's words, or a window's step words and rows. -/
def State.jobFrames (s : State) (j : Job) (f : Frm) : Bool :=
  if j.kind = 2 then (f.typ == 7 || f.typ == 8) && slice f.target 2 0 == j.target
  else f.ofTiles (s.regionTiles j.target) &&
    (if f.typ = 2 then slice f.target 20 7 / 8192 == j.window
     else decide (winBase (j.window == 1) (s.repl (slice f.target 6 0) (slice f.target 16 7)) ≤ slice f.target 30 17) &&
       (j.window == 1 || decide (slice f.target 30 17 < winBase true (s.repl (slice f.target 6 0) (slice f.target 16 7)))))

/-- Does a job take a part of its source: a partition or a window from the full image, a window from a whole region's parison? -/
def State.jobPartial (s : State) (j : Job) : Bool :=
  match j.par with
  | none => true
  | some i => (s.par i).kind == 1 && (s.par i).window == 2 && j.window != 2

/-- Clear what a job rewrites. -/
def State.clearJob (s : State) (j : Job) (g : Src) : State :=
  if !s.jobPartial j then s.clearFor g
  else if j.kind = 2 then s.clearPart j.target
  else forEach (s.regionTiles j.target) (fun t s => s.clearLayers (s.phys t) (some (j.window == 1))) s

/-- Clear a job's target and write it from its source, which is checked as any image is (R319). DESIGN CHOICE (log entry 165): a commit
onto a region that cannot be loaded writes no frame and fails (R406). -/
def State.writeJob (s : State) (j : Job) (g : Src) : State × Option ImgFail :=
  if j.kind = 1 && ((j.window = 2 && s.run j.target != 1) || s.unloadable j.target) then (s, some ⟨0, 0, 0⟩)
  else
    match s.headerFault g j.par.isNone false with
    | some c => (s, some ⟨c, 0, 0⟩)
    | none =>
      let pick := if s.jobPartial j then Pick.part (if j.kind = 2 then [7, 8] else [1, 2]) (s.jobFrames j) else .all
      let r := (s.clearJob j g).loadImage g pick
      (if j.kind = 2 then r.st.markEss g [j.target] else r.st, r.fail)

/-- A job fails (R325): the target stays as R325 leaves it. -/
def State.failJob (s : State) (j : Job) (f : ImgFail) : State :=
  let s1 := (s.loadErr f).raise Ev.CFG_PAR_FAIL
  let s2 := if j.kind = 1 && j.window = 2 && s1.run j.target == 1 then s1.halted j.target 0 6 else s1
  let s3 := s2.useSectors []
  if j.auto then s3.nextReload else (s3.endLong 6 f.cause).nextReload

/-- A written region is armed: it is a start of R44, and each of its windows is complete (R105, R116). -/
def State.armLoaded (s : State) (n : Nat) : State :=
  let s1 := ((s.wr (readyFld n false) 1).wr (readyFld n true) (b2n (s.dual n))).startR44 n
  s1.armed n

/-- A release of partitions begins: it goes by ORDER and PLL_MASK as they stand now (R341). -/
def State.newRelease (s : State) (parts : List Nat) (full : Bool) : Releasing :=
  ⟨parts, full, 0, s.rd F.SYS_REL_CFG_ORDER, s.rd F.SYS_REL_CFG_PLL_MASK⟩

/-- A job's content is in place (R325, R327, R424). -/
def State.finishJob (s : State) (j : Job) (g : Src) : State :=
  let s1 :=
    if j.kind = 2 then
      (s.setPartSrc j.target j.par).withFab
        { (s.setPartSrc j.target j.par).fab.loaded [j.target] false with releasing := some (s.newRelease [j.target] false) }
    else if j.window = 2 then (s.setWinSrc j.target 2 j.par).armLoaded j.target
    else (s.setWinSrc j.target j.window j.par).wr (readyFld j.target (j.window == 1)) 1
  let s2 := if j.par.isSome && !j.auto then s1.measure (if j.kind = 2 then 32 + j.target else 16 + j.target) g else s1
  let s3 := s2.useSectors []
  if j.auto then ((s3.bump F.CFG_RELOAD_CNT_COUNT).raise Ev.CFG_RELOAD).nextReload
  else ((s3.raise Ev.CFG_PAR_DONE).endLong 0 0).nextReload

/-- PARISON_COMMIT_COMPLETE: once the target's sectors are awake, the content is checked and written. -/
def execParisonCommitComplete (upset : Option (BitVec 31)) (s : State) : Answer :=
  act s fun s =>
    match s.ldr.job with
    | none => s
    | some j =>
      if (j.kind = 1 && !s.unloadable j.target && !s.awake j.target) || (j.kind = 2 && (s.fab.releasing.isSome || s.fab.draining.contains j.target)) then s
      else
        let g := s.jobSrc j (upset.map fun w => w.toNat)
        let s1 := (s.setLdr { s.ldr with job := none }).showBusy
        match s1.writeJob j g with
        | (s2, some f) => s2.failJob j f
        | (s2, none) => s2.finishJob j g

/-! ### Store operations (R328) -/

/-- Why an operation is refused at once (R307, R328). -/
def State.progRefusal (s : State) (op t a len : Nat) : Option Nat :=
  let slotOp := op == 0 || op == 1 || op == 3
  if decide (5 ≤ op) || (slotOp && decide (5 ≤ t)) then some 1
  else if (s.lcState = 4 && op != 3) || ((op == 0 || op == 1) && t == 0 && (s.lcState == 2 || s.lcState == 3)) then some 2
  else if (slotOp && (s.slotInUse t || s.ldr.load.any fun l => l.source == 0 && l.slot == t)) ||
      (op == 4 && (s.parInUse t || s.ldr.job.any fun j => j.par == some t)) then some 3
  else if op == 0 && (decide (len < 2592) || decide (2900000000 < len)) then some 4
  else if (op == 0 && !inHbm a len) || (op == 2 && !inHbm a 4096) || (op == 3 && !inHbm a (s.slotDesc t).length) then some 5
  else none

/-- An operation ends: DONE, or ERR with its cause; GO clears and CFG_PROG_DONE is raised. -/
def State.endProg (s : State) (cause : Option Nat) : State :=
  let s1 := ((s.setLdr { s.ldr with prog := none }).wr F.CFG_PROG_CTRL_GO 0).wr F.CFG_PROG_STAT_BUSY 0
  let s2 := match cause with
    | none => s1.wr F.CFG_PROG_STAT_DONE 1
    | some c => (s1.wr F.CFG_PROG_STAT_ERR 1).wr F.CFG_PROG_STAT_CAUSE c
  s2.raise Ev.CFG_PROG_DONE

/-- GO starts the operation that CFG_PROG_CTRL names; while one runs it has no further effect. -/
def State.startProg (s : State) : State :=
  if s.ldr.prog.isSome then s
  else
    let op := s.rd F.CFG_PROG_CTRL_OP
    let t := s.rd F.CFG_PROG_CTRL_TARGET
    let a := 64 * s.rd F.CFG_PROG_ADDR_LO_ADDR_LO + 2 ^ 32 * s.rd F.CFG_PROG_ADDR_HI_ADDR_HI
    let len := s.rd F.CFG_PROG_LEN_LEN
    match s.progRefusal op t a len with
    | some c => s.endProg (some c)
    | none =>
      let s1 := (s.setLdr { s.ldr with prog := some ⟨op, t, a, len⟩ }).wr F.CFG_PROG_STAT_BUSY 1
      if op = 0 then s1.setSlot t ⟨1, 0, false⟩ else s1

/-- A slot write ends (OP 0). -/
def State.writeSlot (s0 : State) (p : Prog) (fault : Bool) : State :=
  let g := s0.hbmSrc p.addr p.len
  let s := s0.readHbm p.addr p.len
  if fault then s.endProg (some 6)
  else if (s0.hbmRead p.addr p.len).2.1 then (s.setSlot p.target ⟨3, 0, false⟩).endProg (some 5)
  else
    match s.checkImage g true false with
    | some f => (((s.setSlot p.target ⟨3, 0, false⟩).loadErr f).raise Ev.CFG_LOAD_FAIL).endProg (some 7)
    | none =>
      let s1 := s.storeWrite (slotBase p.target) (g.bytes 0 g.length)
      (s1.setSlot p.target ⟨2, g.length, g.signed⟩).endProg none

/-- A boot-record write (OP 2): to the copy with the lower GEN, an invalid copy counting lowest, with GEN one above the higher. -/
def State.writeBoot (s0 : State) (p : Prog) (fault : Bool) : State :=
  let x := s0.hbmRead p.addr 4096
  if fault then x.1.endProg (some 6)
  else if x.2.1 then x.1.endProg (some 5)
  else (x.1.putRecord bootArea (x.2.2.take 4) ((x.2.2.drop 8).take 4084)).endProg none

/-- A slot read (OP 3). A word that reads as uncorrectable ends it with ERR; the spec lists no cause for that. -/
def State.readSlot (s : State) (p : Prog) (fault : Bool) : State :=
  let d := s.slotDesc p.target
  let g := s.slotSrc p.target none
  if fault || g.hit 0 d.length then s.drawn.endProg (some (s.draw % 16))
  else (s.hbmWrite p.addr (g.bytes 0 d.length)).endProg none

/-- The bytes of HBM that an operation reads or writes. -/
def State.progLength (s : State) (p : Prog) : Nat :=
  if p.op = 0 then p.len else if p.op = 2 then 4096 else if p.op = 3 then (s.slotDesc p.target).length else 0

/-- CFG_PROG_DONE: the operation in progress ends (R328), once its stacks answer. -/
def execCfgProgDone (writeFault : Bool) (up : Upsets) (s : State) : Answer :=
  act s fun s =>
    match s.ldr.prog with
    | none => s
    | some p => (s.upsets (upsetList up)).onceHbm p.addr (s.progLength p) fun s =>
      if p.op = 0 then s.writeSlot p writeFault
      else if p.op = 2 then s.writeBoot p writeFault
      else if p.op = 3 then s.readSlot p false
      else if writeFault then s.endProg (some 6)
      else if p.op = 1 then (s.setSlot p.target ⟨0, 0, false⟩).endProg none
      else (s.setPar p.target Par.init).endProg none

/-! ### Remaps (R36, R407) -/

/-- The cullet map grew: its generation, the registers that show it, and BST_CULLET (R408, R414). -/
def State.showCullet (s : State) : State :=
  let c := s.cstore.cullet
  let s1 := (s.setWords 0x70020 ((upTo 5).map fun k => c.tiles / 2 ^ (32 * k))).setWords 0x70034
    ((upTo 3).map fun k => c.pairs / 2 ^ (32 * k))
  ((s1.setWords 0x70100 ((upTo 36).map fun k => c.brams / 2 ^ (32 * k))).setReg 0x70040
    (BitVec.ofNat 32 (16 * c.eth + c.irc))).setReg 0x70044 (BitVec.ofNat 32 s1.cstore.culletGen)

/-- Put the cullet map with a new generation where it grew. -/
def State.growCullet (s : State) (c : Cullet) : State :=
  if c = s.cstore.cullet then s
  else
    let s1 := (s.withCstore { s.cstore with cullet := c, culletGen := s.cstore.recGen culletArea + 1 }).putCullet
    (s1.showCullet.wr F.BST_STAT_CULLET 1).raise Ev.BST_CULLET

/-- Is physical tile `pt` marked in the cullet map? -/
def State.culled (s : State) (pt : Nat) : Bool := bit s.cstore.cullet.tiles pt

/-- Mark physical tiles. -/
def Cullet.markTiles (c : Cullet) (l : List Nat) : Cullet := { c with tiles := l.foldl (fun a pt => setBitTo a pt true) c.tiles }

/-- Append an entry to the repair map, which holds at most 4,093. DESIGN CHOICE (log entry 158): a further one is not kept. -/
def State.addRepair (s : State) (w : Nat) : State :=
  if 4093 ≤ s.cstore.repairs.length then s
  else (s.withCstore { s.cstore with repairs := s.cstore.repairs ++ [w] }).putRepairs

/-- A remap entry of the repair map (R408): STRUCT 15, the spare in PT, the logical position in BIT, REPAIRED. -/
def remapEntry (c k : Nat) : Nat := 9 * c + 8 + 2 ^ 8 * 15 + 2 ^ 32 * k + 2 ^ 44

/-- The spare of sector `c` carries logical position `k`. -/
def State.mapSpare (s : State) (c k : Nat) : State :=
  ((s.wr (F.SEC_PHYS_MAP_SPARE_IN_USE c) 1).wr (F.SEC_PHYS_MAP_SPARE_FOR c) k).wr (F.MPU_PHYS (8 * c + k)) (9 * c + 8)

/-- Copy what a physical tile's layers hold into another's. -/
def State.copyLayers (s : State) (pt to_ : Nat) : State :=
  let s1 := s.clearLayers to_ none
  let a := s1.steps.filter fun e => e.1 / 2097152 == pt
  let b := s1.routes.filter fun e => e.1 / 16384 == pt
  let s2 := forEach a (fun e s =>
    (s.withSteps (Tab.set (fun _ => (0 : StepWord)) s.steps (to_ * 2097152 + e.1 % 2097152) e.2))) s1
  forEach b (fun e s => (s.withRoutes (Tab.set (fun _ => 0) s.routes (to_ * 16384 + e.1 % 16384) e.2))) s2

/-- The spare takes the content of logical tile `t` from the recorded sources. Content that no store source holds (a host's
or serial flash's image) is taken from the tile replaced, before the windows that a parison rewrote. DESIGN CHOICE (log entry
126): a source that fails a check during the copy ends it, and the remap completes with what was written. -/
def State.fillSpare (s : State) (t old : Nat) : State :=
  let l := if (match s.tileRegion t with | some n => s.unloadable n | none => false) then [] else s.regionSources (s.tileRegion t) none
  ((if l.any fun x => x.2.isNone then s else s.copyLayers old (s.phys t)).reloadTiles [t] l).1

/-- Is the spare of sector `c` free, and not marked unusable (R36)? -/
def State.spareSound (s : State) (c : Nat) : Bool := !s.on (F.SEC_PHYS_MAP_SPARE_IN_USE c) && !s.culled (9 * c + 8)

/-- Is a remap of sector `c` accepted (R36)? -/
def State.remapOk (s : State) (c : Nat) : Bool :=
  (!s.on (F.SEC_CTRL_ASSIGNED c) || s.run (s.rd (F.SEC_CTRL_REGION c)) == 0 || s.run (s.rd (F.SEC_CTRL_REGION c)) == 5) &&
    s.spareSound c

/-- A remap of sector `c` is refused (R36). -/
def State.refuseRemap (s : State) (c : Nat) : State :=
  ((s.wr (F.SEC_STATUS_REMAP_ERR c) 1).wr (F.SEC_CTRL_REMAP c) 0).raise (Ev.SEC_REMAP c)

/-- No remap of sector `c` is under way any more. -/
def State.remapOver (s : State) (c : Nat) : State :=
  (s.setLdr { s.ldr with remaps := Tab.set (fun _ => none) s.ldr.remaps c none }).wr (F.SEC_STATUS_REMAP_BUSY c) 0

/-- REMAP was set in sector `c`: accepted or refused. While a remap runs it has no further effect. -/
def State.askRemap (s : State) (c : Nat) : State :=
  if s.on (F.SEC_STATUS_REMAP_BUSY c) then s
  else if s.remapOk c then
    let k := s.rd (F.SEC_PHYS_MAP_REMAP_POS c)
    let s1 := s.setLdr { s.ldr with remaps := Tab.set (fun _ => none) s.ldr.remaps c (some k) }
    (s1.wr (F.SEC_STATUS_REMAP_BUSY c) 1).evalSector c
  else s.refuseRemap c

/-- REMAP_COPY_DONE in sector `c`, once it is awake and no slice runs on its spare (R36, R407, R411). DESIGN CHOICE (log entry
143): a spare taken or marked unusable since the request ends the remap as a refused one. -/
def execRemapCopyDone (c : Fin 16) (s : State) : Answer :=
  act s fun s =>
    match Tab.get (fun _ => none) s.ldr.remaps c.val with
    | none => s
    | some k =>
      if s.rd (F.SEC_STATUS_PSTATE c) != 0 || s.bst.slice == some (9 * c.val + 8) then s
      else if !s.spareSound c then ((s.remapOver c).refuseRemap c).evalSector c
      else
        let old := s.phys (8 * c.val + k)
        let s1 := ((s.mapSpare c k).fillSpare (8 * c.val + k) old).remapOver c
        let s2 := (s1.wr (F.SEC_CTRL_REMAP c) 0).raise (Ev.SEC_REMAP c)
        (((s2.addRepair (remapEntry c k)).growCullet (s2.cstore.cullet.markTiles [old]))).evalSector c

/-! ### Verify passes (R53, R81) -/

/-- VERIFY was set in sector `c`: a pass begins, or the write is refused. DESIGN CHOICE (log entries 127 and 145): while a pass
of the sector runs, VERIFY set again has no further effect; in an unusable sector the pass begins and never ends. -/
def State.askVerify (s : State) (c : Nat) : State :=
  let r := s.run (s.rd (F.SEC_CTRL_REGION c))
  if s.on (F.SEC_STATUS_VERIFY_BUSY c) then s
  else if !s.on (F.SEC_CTRL_ASSIGNED c) || r == 0 || r == 1 || r == 5 then
    (s.wr (F.SEC_STATUS_VERIFY_BUSY c) 1).evalSector c
  else (s.wr (F.SEC_STATUS_VERIFY_REFUSED c) 1).wr (F.SEC_CTRL_VERIFY c) 0

/-- Is sector `c` built for two windows, and the declared length code of a window: its region's, or its own where it has
no region (R53, R468)? -/
def State.verifyDual (s : State) (c : Nat) : Bool :=
  if s.on (F.SEC_CTRL_ASSIGNED c) then s.dual (s.rd (F.SEC_CTRL_REGION c)) else s.on (F.SEC_CTRL_DUAL c)

/-- The length code a verify pass uses. -/
def State.verifyLen (s : State) (c : Nat) (win : Bool) : Nat :=
  if s.on (F.SEC_CTRL_ASSIGNED c) then s.lenCode (s.rd (F.SEC_CTRL_REGION c)) win
  else if win then s.rd (F.SEC_WIN_LEN_LEN_B c) else s.rd (F.SEC_WIN_LEN_LEN_A c)

/-- The fold that a fetch of a window of tile `t` gives. Over test patterns (R403) the spec does not say: a free value. -/
def State.foldSeen (s : State) (t : Nat) (dual win : Bool) (len : Nat) : BitVec 64 :=
  if s.bst.patterns.contains (s.phys t) then BitVec.ofNat 64 (Config.freeValue (s.free + 2 * (t % 128) + b2n win))
  else s.fold t dual win len

/-- Does it match the expected fold? -/
def State.foldMatches (s : State) (t : Nat) (dual win : Bool) (len : Nat) : Bool :=
  (s.foldSeen t dual win len).toNat == s.foldExp t win

/-- The state after the folds of the tiles were drawn, where they are free. -/
def State.foldsDrawn (s : State) : State := s.withFree (s.free + 256)

/-- A route row found bad by a verify pass (R81). -/
def State.rowByVerify (s : State) (t r : Nat) : State :=
  let s1 := s.bump (F.MPU_RT_ERR_CNT_COUNT t)
  if s1.on (F.MPU_RT_ERR_VALID t) then s1
  else s1.setReg (0x200098 + 0x10000 * (t % 128)) (BitVec.ofNat 32 (2 ^ 31 + 2 ^ 30 + r))

/-- The route rows that a verify pass of sector `c` reads: for each declared window the first and their number. -/
def State.verifyRows (s : State) (c : Nat) : List (Nat × Nat) :=
  (if s.verifyDual c then [false, true] else [false]).map fun w => (rbase w, min (winSize (s.verifyDual c) true) (16 * (s.verifyLen c w + 1)))

/-- VERIFY_PASS_END of sector `c` (R53, R55, R56, R81). `bad` names rows that have lost their parity, by position and row; a row
outside the declared windows is not read. DEDUCED (log entry 128): the pass fetches window A before window B, so that
FOLD_LAST is left with the fold of the last declared window. -/
def execVerifyPassEnd (c : Fin 16) (bad : List (Fin 8 × Fin 16384)) (s : State) : Answer :=
  act s fun s =>
    if !s.on (F.SEC_STATUS_VERIFY_BUSY c) || s.rd (F.SEC_STATUS_PSTATE c) != 0 then s
    else
      let dual := s.verifyDual c
      let ts := (upTo 8).map fun k => 8 * c.val + k
      let folds := ts.flatMap fun t => (if dual then [false, true] else [false]).map fun w =>
        (t, w, s.foldSeen t dual w (s.verifyLen c w))
      let misses := folds.filter fun x => x.2.2.toNat != s.foldExp x.1 x.2.1
      let s1 := forEach folds (fun x s => s.foldLast x.1 x.2.2) s.foldsDrawn
      let s2 := forEach misses (fun m s => s.foldRecord m.1 m.2.1 true) s1
      let s3 := if misses.isEmpty then s2 else s2.raise (Ev.SEC_FOLD_MISMATCH c)
      let s4 := forEach (bad.filter fun b => (s.verifyRows c).any fun r => decide (r.1 ≤ b.2.val) && decide (b.2.val < r.1 + r.2))
        (fun b s => s.spoilRow (8 * c.val + b.1.val) b.2.val) s3
      let rows := ts.flatMap fun t => (s4.verifyRows c).flatMap fun r => (s4.badRows t r.1 r.2).map fun x => (t, x)
      let s5 := forEach rows (fun x s => s.rowByVerify x.1 x.2) s4
      (((s5.wr (F.SEC_STATUS_VERIFY_OK c) (b2n (misses.isEmpty && rows.isEmpty))).wr (F.SEC_STATUS_VERIFY_BUSY c) 0).wr
        (F.SEC_CTRL_VERIFY c) 0).evalSector c

/-! ### Scrubbing (R329, R330) -/

/-- An error record of the scrubber: KIND, UNIT, WINDOW, WHERE. -/
def scrubWord (kind unit win where_ : Nat) : Nat := 2 ^ 29 * kind + 2 ^ 25 * (unit % 16) + 2 ^ 15 * win + where_ % 2 ^ 15

/-- Record an error while none is held. -/
def State.scrubErr (s : State) (w : Nat) : State :=
  if s.on F.CFG_SCRUB_ERR_VALID then s else s.setReg 0x60084 (BitVec.ofNat 32 (2 ^ 31 + w))

/-- An uncorrectable error of fabric or store: counted, recorded, an F3 fault, and CFG_SCRUB_UE. -/
def State.scrubUe (s : State) (w : Nat) : State :=
  (((s.bump F.CFG_SCRUB_UE_CNT_COUNT).scrubErr w).report 26 w none).raise Ev.CFG_SCRUB_UE

/-- Is a fabric word essential (R329)? An image without an ESSENTIAL section counts every word so. -/
def State.essential (s : State) (k w : Nat) : Bool :=
  !bit s.fab.hasEss k || bit (Bytes.get s.fab.essential (k * 2 ^ 15 + w / 8)).toNat (w % 8)

/-- Queue an automatic reload, where the content has a source in the store. -/
def State.askReload (s : State) (j : Job) : State :=
  if s.on F.CFG_SCRUB_CTRL_AUTO_RELOAD && (j.par.isSome || s.ldr.full.isSome) then
    (s.setLdr { s.ldr with reloads := s.ldr.reloads ++ [j] }).nextReload
  else s

/-- One bad word of a partition. -/
def State.scrubWordAt (s : State) (k w : Nat) (ue : Bool) : State :=
  if !bit (s.rd F.CFG_FAB_STAT_RELEASED) k then s
  else if !ue then (s.bump F.CFG_SCRUB_CE_CNT_COUNT).raise Ev.CFG_SCRUB_CE
  else if s.essential k w then (s.scrubUe (scrubWord 0 k 0 w)).askReload ⟨s.partSrc k, 2, k, 0, true⟩
  else s

/-- FABRIC_SCRUB_PASS (R329); the scrubber yields to loads and commits. -/
def execFabricScrubPass (found : List (Fin 8 × Fin 32768 × Bool)) (s : State) : Answer :=
  act s fun s =>
    if !s.on F.CFG_SCRUB_CTRL_EN || s.loaderBusy then s
    else forEach found (fun x s => s.scrubWordAt x.1 x.2.1 x.2.2) s

/-- Scrub window `w` of region `n`, where the scrubber reads it (R330). -/
def State.scrubWindow (s : State) (n : Nat) (w : Bool) : State :=
  if !s.dual n || s.winBusy n w || !(s.sectors n).all fun c => decide (s.rd (F.SEC_STATUS_PSTATE c) ≤ 1)
  then s
  else
    match (s.regionTiles n).find? fun t => !s.foldMatches t true w (s.lenCode n w) with
    | none => s.foldsDrawn
    | some t =>
      let s1 := ((s.foldsDrawn.wr (readyFld n w) 0).scrubErr (scrubWord 1 n (b2n w) t)).raise Ev.CFG_WIN_FOLD_ERR
      s1.askReload ⟨(s1.winSrc n (b2n w)).or (s1.winSrc n 2), 1, n, b2n w, true⟩

/-- WINDOW_SCRUB_PASS (R330). -/
def execWindowScrubPass (s : State) : Answer :=
  act s fun s =>
    if !s.on F.CFG_SCRUB_CTRL_WIN_EN || s.loaderBusy then s
    else forEach (upTo 16) (fun n s => (s.scrubWindow n false).scrubWindow n true) s

/-- The slot whose descriptor holds a word of the store, or whose image does while it is VALID. -/
def State.slotOfWord (s : State) (w : Nat) : Option Nat :=
  firstIdx 5 fun k => decide (slotAt k ≤ 8 * w) &&
    (decide (8 * w < slotBase k) || ((s.slotDesc k).state == 2 && decide (8 * w < slotBase k + (s.slotDesc k).length)))

/-- One uncorrectable word of the store: its slot becomes INVALID (R330). -/
def State.patrolWord (s : State) (w : Nat) : State :=
  let bad := Tab.set (fun _ => false) s.cstore.bad w true
  match s.slotOfWord w with
  | some k =>
    let d := { s.slotDesc k with state := 3 }
    let s1 := s.withCstore { s.cstore with bad := bad, slots := Tab.set (fun _ => (⟨0, 0, false⟩ : Slot)) s.cstore.slots k d }
    if (s.slotDesc k).state = 3 then s1 else s1.showStore.scrubUe (scrubWord 2 k 0 0)
  | none => s.withCstore { s.cstore with bad := bad }

/-- STORE_PATROL (R330). -/
def execStorePatrol (found : List (BitVec 31)) (s : State) : Answer :=
  act s fun s => forEach found (fun w s => s.patrolWord w.toNat) s

end Sys2Proof.Machine
end

