-- ==== Sys2Proof/Machine/Bist.lean ====
section
/-!
DEFINITION. Self-test and repair (R402–R413): what a test's findings do to the maps and sectors, BIST_RUN, slices, the
idle-gap scan.
-/

namespace Sys2Proof.Machine

/-! ### Failure words (R404, R409) -/

/-- STRUCT of a failure word. -/
def wStruct (w : Nat) : Nat := slice w 11 8
/-- PT of a failure word. -/
def wPt (w : Nat) : Nat := slice w 7 0
/-- UNIT of a failure word. -/
def wUnit (w : Nat) : Nat := slice w 62 48

/-- The subarray a failure lies in: PT, STRUCT, HALF, and CLUSTER for the instruction layer (R404). -/
def wSub (w : Nat) : Nat := if wStruct w = 0 then w % 2 ^ 18 else w % 2 ^ 13

/-- The row that a failure lies in, as one number: its subarray or block memory, and ROW (R404). -/
def wRow (w : Nat) : Nat := wSub w + 2 ^ 18 * slice w 31 18 + (if wStruct w = 7 then 2 ^ 32 * wUnit w else 0)

/-- Spare rows of a subarray that repairs have used, in their order. -/
def State.rowsUsed (s : State) (w : Nat) : Nat :=
  if wStruct w = 7 then Tab.get (fun _ => 0) s.cstore.bramRows (wUnit w)
  else (s.cstore.repairs.filter fun r => wSub r == wSub w).foldl (fun a r => max a (wUnit r + 1)) 0

/-- Spare rows a subarray has (R404). -/
def spareRows : Nat → Nat
  | 0 => 4 | 1 => 8 | 7 => 2 | _ => 0

/-- The spare row that takes the place of a failing one: the next that passes its own march, if one is left (R404). -/
def State.spareFor (s : State) (x : Found) : Option Nat :=
  let n := s.rowsUsed x.word.toNat + x.badSpares
  if n < spareRows (wStruct x.word.toNat) then some n else none

/-- Does a failure that no spare row mends make its physical tile fail (R404)? -/
def tileDies (w : Nat) (spare : Option Nat) : Bool := decide (wStruct w ≤ 6) && decide (wPt w < 144) && spare.isNone

/-- The failure word with REPAIRED and TILE_FAILED, and the spare row in UNIT of a repair (R409). -/
def wordOf (v : Nat) (spare : Option Nat) : Nat :=
  let w := v % 2 ^ 63 - slice v 46 44 * 2 ^ 44
  match spare with
  | some n => w - wUnit w * 2 ^ 48 + n * 2 ^ 48 + 2 ^ 44
  | none => w + 2 ^ 45 * b2n (tileDies v none)

/-- Count a failure and latch the first (R409). -/
def State.countFail (s : State) (w : Nat) : State :=
  let s1 := s.bump F.BST_FAIL_CNT_COUNT
  if s1.on F.BST_FIRST_HI_VALID then s1
  else (s1.setReg 0x7000c (BitVec.ofNat 32 w)).setReg 0x70010 (BitVec.ofNat 32 (2 ^ 31 + w / 2 ^ 32 % 2 ^ 31))

/-- What the cullet map gains by a failure (R402, R404, R405). -/
def State.cullFor (s : State) (w : Nat) (spare : Option Nat) : Cullet :=
  let c := s.cstore.cullet
  let u := wUnit w
  if tileDies w spare then c.markTiles [wPt w]
  else if wStruct w = 7 && spare.isNone && u < 1152 then { c with brams := setBitTo c.brams u true }
  else if wStruct w = 9 && u < 96 then { c with pairs := setBitTo c.pairs u true }
  else if wStruct w = 10 && u < 4 then { c with irc := setBitTo c.irc u true }
  else if wStruct w = 11 && u < 4 then { c with eth := setBitTo c.eth u true }
  else c

/-- A spare row is written into place (R404, R408, R409). -/
def State.repairRow (s : State) (w n : Nat) : State :=
  let s1 := (s.addRepair (wordOf w (some n))).bump F.BST_REPAIR_CNT_COUNT
  if wStruct w = 7 then s1.withCstore { s1.cstore with bramRows := Tab.set (fun _ => 0) s1.cstore.bramRows (wUnit w) (n + 1) } else s1

/-- One failure, whose row has the spare row `spare`; `fresh` where it was found by this failure. DESIGN CHOICE (log entry 163): a
gaffer memory that failed is kept as failed in the store. -/
def State.takeFound (s : State) (w : Nat) (spare : Option Nat) (fresh : Bool) : State :=
  let s1 := (s.countFail (wordOf w spare)).growCullet (s.cullFor w spare)
  let s2 := match spare with
    | some n => if fresh then s1.repairRow w n else s1
    | none => s1
  if wStruct w = 8 then s2.withCstore { s2.cstore with gafBad := setBitTo s2.cstore.gafBad (wUnit w % 16) true }
  else if wStruct w = 12 && wUnit w < 16 then s2.withBst { s2.bst with sensorsOut := setBitTo s2.bst.sensorsOut (wUnit w) true }
  else s2

/-- The findings of a test, in order: the state, and their failure words. A further failure of a row that the test has met takes no
further spare; a block that could not be tested is no failure (R402). `met` lists the rows met, with their spares. -/
def State.takeFounds (s : State) : List Found → List (Nat × Option Nat) → State × List Nat
  | [], _ => (s, [])
  | x :: xs, met =>
    let w := x.word.toNat
    if bit w 47 then ((s.takeFounds xs met).1, wordOf w none :: (s.takeFounds xs met).2)
    else
      match met.find? fun e => e.1 == wRow w with
      | some e =>
        let r := (s.takeFound w e.2 false).takeFounds xs met
        (r.1, wordOf w e.2 :: r.2)
      | none =>
        let r := (s.takeFound w (s.spareFor x) true).takeFounds xs ((wRow w, s.spareFor x) :: met)
        (r.1, wordOf w (s.spareFor x) :: r.2)

/-- The failed physical tiles of sector `c`, by position (R405). -/
def State.failedTiles (s : State) (c : Nat) : List Nat := (upTo 9).filter fun k => s.culled (9 * c + k)

/-- Settle sector `c` by its failed tiles (R405). -/
def State.settleSector (s : State) (c : Nat) : State :=
  match s.failedTiles c with
  | [] => s
  | [k] =>
    if k = 8 || s.on (F.SEC_PHYS_MAP_SPARE_IN_USE c) then s else (s.addRepair (remapEntry c k)).mapSpare c k
  | _ => s.wr (F.SEC_STATUS_UNUSABLE c) 1

/-- Settle every sector. -/
def State.settleAll (s : State) : State := forEach (upTo 16) (fun c s => s.settleSector c) s

/-- Handle the findings of one test (R404, R405, R409): each is taken, the sectors are settled, and the flags and events of the test
are raised once. The state, and the failure words. -/
def State.handleTest (s : State) (found : List Found) : State × List Nat :=
  let r := s.takeFounds found []
  let s1 := r.1.settleAll
  let s2 := if r.2.any fun w => !bit w 47 then (s1.wr F.BST_STAT_FAIL 1).raise Ev.BST_FAIL else s1
  (if r.2.any fun w => bit w 44 then (s2.wr F.BST_STAT_REPAIR 1).raise Ev.BST_REPAIR else s2, r.2)

/-- The findings of one test are handled. -/
def State.takeTest (s : State) (found : List Found) : State := (s.handleTest found).1

/-- The buffers of the logical tile that a physical tile carries lose their contents. -/
def State.loseBuffers (s : State) (pt : Nat) : State :=
  forEach ((upTo 128).filter fun t => s.phys t == pt) (fun t s => s.clearBuffers t (t + 1)) s

/-- The memory test leaves test patterns in tiles (R403). DESIGN CHOICE (log entry 162): a tested memory reads as one that nothing has
written, and its folds are free values. -/
def State.patternTiles (s : State) (pts : List Nat) : State :=
  let s1 := forEach pts (fun pt s =>
    ((s.clearLayers pt none).clearDm (pt * 2097152) ((pt + 1) * 2097152)).loseBuffers pt) s
  (s1.withBst { s1.bst with patterns := s1.bst.patterns ++ pts })

/-- The memory test of every tile, the block memories and the gaffer programs (R403). -/
def State.patternAll (s : State) : State :=
  let s1 := forEach (upTo 16) (fun n s => s.clearProg n) (s.patternTiles (upTo 144))
  s1.withFab { s1.fab with lanes := [], portOut := [] }

/-- The maps as a start finds them: remaps from the repair map, sectors with two failed tiles, the cullet registers (R405,
R408). -/
def State.applyMaps (s : State) : State :=
  let s1 := forEach (s.cstore.repairs.filter fun r => wStruct r == 15) (fun r s =>
    s.mapSpare (wPt r / 9) (slice r 34 32)) s
  (forEach (upTo 16) (fun c s => if 2 ≤ (s.failedTiles c).length then s.wr (F.SEC_STATUS_UNUSABLE c) 1 else s) s1).showCullet

/-! ### BIST_RUN (R410) -/

/-- The sectors whose tiles a BIST_RUN's scopes 2 and 3 test; an unusable one is held in S3 (R405). -/
def State.scopeSectors (s : State) (scope : Nat) : List Nat :=
  (upTo 16).filter fun c => !s.on (F.SEC_STATUS_UNUSABLE c) &&
    (if s.on (F.SEC_CTRL_ASSIGNED c) then
      bit scope 3 && (s.run (s.rd (F.SEC_CTRL_REGION c)) == 0 || s.run (s.rd (F.SEC_CTRL_REGION c)) == 5)
    else bit scope 2)

/-- Has sector `c` a spare that scope 1 tests? -/
def State.spareScope (s : State) (scope c : Nat) : Bool :=
  bit scope 1 && !s.on (F.SEC_PHYS_MAP_SPARE_IN_USE c) && !s.on (F.SEC_STATUS_UNUSABLE c)

/-- The sectors that a BIST_RUN needs awake (R410). -/
def State.scopeWakes (s : State) (scope : Nat) : List Nat :=
  (upTo 16).filter fun c => (s.scopeSectors scope).contains c || s.spareScope scope c

/-- Every region that scope 3 names is IDLE or FENCED (R410). -/
def State.scopeOk (s : State) (scope : Nat) : Bool :=
  !bit scope 3 || (upTo 16).all fun n => (s.sectors n).isEmpty || s.run n == 0 || s.run n == 5

/-- BIST_RUN starts: sleeping sectors of its scopes are woken by the LOAD vote. -/
def execBistRun (s : State) : Answer :=
  act s fun s =>
    match s.longNext 0x30 with
    | none => s
    | some c =>
      let s1 := s.startLong c
      if c.paramBad then s1.endLong 2 0
      else if !s1.scopeOk (c.byte 4) then s1.endLong 3 0
      else (s1.wr F.BST_STAT_BUSY 1).testSectors (s1.scopeWakes (c.byte 4))

/-- The physical tiles a scope's memory test covers. -/
def State.scopeTiles (s : State) (scope : Nat) : List Nat :=
  let cs := s.scopeSectors scope
  (upTo 144).filter fun pt =>
    cs.contains (pt / 9) || (pt % 9 == 8 && s.spareScope scope (pt / 9))

/-- The command a BIST_RUN in progress came from. -/
def State.bistCmd (s : State) : Option MbxCmd :=
  match s.mbx.longRun with
  | some c => if c.byte 0 = 0x30 then some c else none
  | none => none

/-- May a BIST_RUN find a failure there: in a tile memory of its scopes, or in a gather pair, an Ircel port or an Ethernet
port whose EN is 0 (R410)? -/
def State.inScope (s : State) (scope : Nat) (x : Found) : Bool :=
  let w := x.word.toNat
  let u := wUnit w
  if wStruct w ≤ 6 then (s.scopeTiles scope).contains (wPt w)
  else bit scope 0 &&
    ((wStruct w == 9 && decide (u < 96) && !s.on (F.GTH_CTRL_EN (u / 24))) ||
      (wStruct w == 10 && decide (u < 4) && !s.on (F.IRC_CTRL_EN u)) ||
      (wStruct w == 11 && decide (u < 4) && !s.on (F.ETH_CTRL_EN u)))

/-- READY of the regions whose sectors were tested clears (R410). -/
def State.unready (s : State) (cs : List Nat) : State :=
  forEach (cs.filter fun c => s.on (F.SEC_CTRL_ASSIGNED c)) (fun c s =>
    (s.wr (readyFld (s.rd (F.SEC_CTRL_REGION c)) false) 0).wr (readyFld (s.rd (F.SEC_CTRL_REGION c)) true) 0) s

/-- BIST_RUN_COMPLETE, once the sectors of its scopes are awake: findings are handled as at a start, the report is written, BST_DONE is
raised (R410). The report and RESULT count every failure word, those of blocks that could not be tested too. -/
def execBistRunComplete (found : List Found) (s : State) : Answer :=
  act s fun s =>
    match s.bistCmd with
    | none => s
    | some c => s.onceHbm (c.num 8 8) (8 + 8 * min 4096 (found.filter (s.inScope (c.byte 4))).length) fun s =>
      if !(s.scopeWakes (c.byte 4)).all fun x => s.rd (F.SEC_STATUS_PSTATE x) == 0 then s
      else
        let r := ((s.patternTiles (s.scopeTiles (c.byte 4))).unready (s.scopeSectors (c.byte 4))).handleTest
          (found.filter (s.inScope (c.byte 4)))
        let s1 := r.1.hbmWrite (c.num 8 8) (leBytes 8 r.2.length ++ (r.2.take 4096).flatMap fun w => leBytes 8 w)
        (((s1.wr F.BST_STAT_BUSY (b2n s1.bst.slice.isSome)).testSectors []).raise Ev.BST_DONE).endLong 0 (r.2.length % 2 ^ 32)

/-! ### Slices and the idle-gap scan (R411, R412) -/

/-- May a slice march the spare of sector `c`: it carries no logical tile, and its sector is awake or may be woken? -/
def State.sliceable (s : State) (c : Nat) : Bool :=
  !s.on (F.SEC_PHYS_MAP_SPARE_IN_USE c) && !s.on (F.SEC_STATUS_UNUSABLE c) && !s.culled (9 * c + 8) &&
    (s.rd (F.SEC_STATUS_PSTATE c) == 0 || s.on F.BST_CTRL_WAKE)

/-- The spare whose next portion is marched, if there is one: the one under way, or the next (R411). -/
def State.nextSlice (s : State) : Option Nat := ((upTo 16).map fun i => (s.bst.nextSpare + i) % 16).find? fun c => s.sliceable c

/-- PERIODIC_SLICE: a spare comes under slice (R411). -/
def execPeriodicSlice (s : State) : Answer :=
  act s fun s =>
    if !s.on F.BST_CTRL_SLICE_EN || s.bst.slice.isSome || s.on F.BST_STAT_BUSY then s
    else
      match s.nextSlice with
      | none => s
      | some c =>
        let s1 := s.withBst { s.bst with
          slice := some (9 * c + 8), nextSpare := c, marched := if c = s.bst.nextSpare then s.bst.marched else 0 }
        (s1.wr F.BST_STAT_BUSY 1).evalVotes

/-- A portion of the spare has been marched: as many µs as SLICE_US allows, of the 1,022.5 that a whole tile takes (R403, R411). -/
def State.marchOn (s : State) : State :=
  let m := s.bst.marched + max 10 (min 200 (s.rd F.BST_SLICE_CFG_SLICE_US))
  if 2045 ≤ 2 * m then s.withBst { s.bst with slice := none, nextSpare := (s.bst.nextSpare + 1) % 16, marched := 0 }
  else s.withBst { s.bst with slice := none, marched := m }

/-- SLICE_END, once the sector is awake: the spare is free again; one that failed is marked (R411). -/
def execSliceEnd (found : List Found) (s : State) : Answer :=
  act s fun s =>
    match s.bst.slice with
    | none => s
    | some pt =>
      if s.rd (F.SEC_STATUS_PSTATE (pt / 9)) != 0 then s
      else
        let s1 := (s.marchOn.patternTiles [pt]).takeTest
          (found.filter fun x => decide (wStruct x.word.toNat ≤ 6) && wPt x.word.toNat == pt)
        (s1.wr F.BST_STAT_BUSY (b2n s1.bistCmd.isSome)).evalVotes

/-- Region `n`'s first tile with a data-memory location `a` whose parity fails. -/
def State.gapFail (s : State) (n : Fin 16) (a : Nat) : Option (Fin 128) :=
  (List.finRange 128).find? fun t => s.tileRegion t == some n.val &&
    s.dmBad.any fun e => e.1 / 2048 / 1024 == s.phys t && e.1 % 2048 == a

/-- An upset of location `a` of a BP of region `n`, whose parity then fails until its next write. -/
def State.gapUpset (s : State) (n : Fin 16) (a : Nat) (bad : Option (Fin 128 × Fin 1024)) : State :=
  match bad with
  | none => s
  | some (t, q) =>
    if s.tileRegion t != some n.val then s else s.withDmBad (Tab.set (fun _ => false) s.dmBad (s.dmKey t q a) true)

/-- IDLE_GAP_SCAN: region `n` scans one location; a failure is recorded as suspect (R412). `bad` is a BP whose location
is upset before the scan reads it. -/
def execIdleGapScan (n : Fin 16) (bad : Option (Fin 128 × Fin 1024)) (s : State) : Answer :=
  act s fun s =>
    let g := s.gaf n
    if !s.on F.BST_CTRL_GAP_EN || s.run n != 2 || g.phase != .none || g.next.isSome || g.dmClear then s
    else
      let a := Tab.get (fun _ => 0) s.bst.gap n.val
      let s1 := (s.withBst { s.bst with gap := Tab.set (fun _ => 0) s.bst.gap n.val ((a + 1) % 2048) }).gapUpset n a bad
      match s1.gapFail n a with
      | none => s1
      | some t =>
        let s2 := s1.wr F.BST_STAT_SUSPECT 1
        if s2.on F.BST_SUSPECT_VALID then s2
        else s2.setReg 0x70048 (BitVec.ofNat 32 (2 ^ 31 + s2.phys t))

end Sys2Proof.Machine
end

