-- ==== Sys2Proof/Machine/Timebase.lean ====
section
/-!
DEFINITION. The encoder and the line divider (R149–R162), and Ircel: frames, membership, epochs, alignment, triggers and
quarantine (R163–R184). Times are in units of 100 ps.
-/

namespace Sys2Proof.Machine

/-! ### Small helpers -/

/-- Put the timebase. -/
def State.setTb (s : State) (x : Timebase) : State := s.withTb x

/-- TB_STATUS.ROLE (R159). -/
def State.role (s : State) : Nat := s.rd F.TB_STATUS_ROLE

/-- Change the role; TB_ROLE is raised at a change (R187). -/
def State.setRole (s : State) (r : Nat) : State :=
  if s.role = r then s else (s.wr F.TB_STATUS_ROLE r).raise Ev.TB_ROLE

/-- Change ALIGNED; TB_ALIGN is raised at a change (R177). -/
def State.setAligned (s : State) (b : Bool) : State :=
  if s.on F.TB_STATUS_ALIGNED = b then s else (s.wr F.TB_STATUS_ALIGNED (b2n b)).raise Ev.TB_ALIGN

/-- TB_LINE (R156). -/
def State.line (s : State) : Nat := s.rd F.TB_LINE_LO + 2 ^ 32 * s.rd F.TB_LINE_HI

/-- Put TB_LINE. -/
def State.setLine (s : State) (l : Nat) : State :=
  (s.wr F.TB_LINE_LO (l % 2 ^ 32)).wr F.TB_LINE_HI (l / 2 ^ 32)

/-- This device's member identifier. -/
def State.myId (s : State) : Nat := s.rd F.TB_MEMBER_ID

/-- This device's key (R169). -/
def State.myKey (s : State) : Nat := 2 ^ 64 * s.rd F.TB_MEMBER_PRIO + Config.serial % 2 ^ 64

/-- A key as a number: the lower is the better (R169). -/
def keyNum (k : Key) : Nat := 2 ^ 64 * k.prio.toNat + k.serial.toNat

/-- A number as a key. -/
def keyOf (n : Nat) : Key := ⟨BitVec.ofNat 8 (n / 2 ^ 64), BitVec.ofNat 64 n⟩

/-- HB_PERIOD in time units; 0 acts as 1 µs (R185). -/
def State.hbPeriod (s : State) : Nat := 10000 * max 1 (s.rd F.TB_TIMERS_HB_PERIOD)

/-- The member bitmap. -/
def State.members (s : State) : Nat := s.rd64 0x80048

/-- Step TB_TIME forward (R155). -/
def State.stepTime (s : State) (t : Nat) : State :=
  if t = s.now then s
  else ((s.setTb { s.tb with stepped := s.tb.stepped + (t - s.now) }).wr64 0x80030 t).bump F.TB_TIME_STEP_CNT_COUNT

/-! ### Lines: creation, passing, holding (R156–R162) -/

/-- CPL as the registers give it; below 1.0 it acts as 1.0 (R157). -/
def State.cplReg (s : State) : Nat := max (2 ^ 32) (2 ^ 32 * s.rd F.TB_CPL_HI_INT + s.rd F.TB_CPL_LO_FRAC)

/-- A line is passed; each index counts once (R162), and none before the first ARM (R156). -/
def State.passLine (s : State) (l : Nat) : State :=
  if !s.tb.armed || s.tb.passed.contains l then s
  else ((s.setTb { s.tb with passed := l :: s.tb.passed }).bump F.TB_LINE_SKIP_CNT_COUNT).raise Ev.TB_LINE_SKIP

/-- LINE goes on after a line of another device's numbering; it holds 0 before the first ARM (R156, R159). -/
def State.followLine (s : State) (l : Nat) : State := if s.tb.armed then s.setLine ((l + 1) % 2 ^ 48) else s

/-- In a group, the lines between the last one released and this one are passed: those its master refused, and those of a master
change (R162, R175). -/
def State.passGap (s : State) (l : Nat) : State :=
  match s.tb.follows, s.tb.released with
  | true, some r => forEach (upTo (l - (r + 1))) (fun i s => s.passLine (r + 1 + i)) s
  | _, _ => s

/-- Hold a line for its release. -/
def State.hold (s : State) (h : Held) : State := s.setTb { s.tb with held := s.tb.held ++ [h] }

/-- The epoch in force at a time, and the steps its times carry over the present ones: each epoch still to take effect by then
adds its own (R173, R180). -/
def State.epochAt (s : State) (t : Nat) : Nat × Nat :=
  s.tb.pendEpochs.foldl (fun a e => if e.act ≤ t + a.2 then (e.num, a.2 + e.step) else a) (s.rd F.TB_GROUP_EPOCH, 0)

/-- Lines held that are not marked for region `n`. -/
def State.heldFor (s : State) (n : Nat) : List Held := s.tb.held.filter fun h => slice h.marks (2 * n + 1) (2 * n) == 0

/-- Lines held whose mark for region `n` is merged. -/
def mergedFor (n : Nat) (hs : List Held) : Nat := (hs.filter fun x => slice x.marks (2 * n + 1) (2 * n) == 2).length

/-- The newest entry of region `n` and the lines it counts, with the merges held into it: a line not yet released, or the newest
entry queued (R181). -/
def State.newestFor (s : State) (n : Nat) : Option (Nat × Nat) :=
  match (s.heldFor n).getLast? with
  | some h => some (h.line, 1 + mergedFor n (s.tb.held.dropWhile fun x => x.line != h.line))
  | none => (s.gaf n).queue.getLast?.map fun e => (e.line, e.count + mergedFor n s.tb.held)

/-- The master's mark for region `n`, with the entry a merge goes into (R181): the depth counts queued entries and lines
created but not yet released. A FENCED region is marked for nothing (R393). -/
def State.markFor (s : State) (n : Nat) : Nat × Nat :=
  if !s.on (F.GAF_CTRL_LOCKSTEP n) || !s.on (F.GAF_CTRL_TRIG_EN n) || s.run n == 5 then (0, 0)
  else if (s.gaf n).queue.length + s.tb.held.length < s.ovrDepth n then (0, 0)
  else if s.on (F.GAF_CTRL_POLICY n) then
    match s.newestFor n with
    | some (l, c) => if c ≥ 255 then (1, 0) else (2, l)
    | none => (1, 0)
  else (1, 0)

/-- MARKS and targets of a line the master creates (R180, R181). -/
def State.marksNow (s : State) : Nat × List (Nat × Nat) :=
  (upTo 16).foldl (fun a n =>
    let m := s.markFor n
    (a.1 + 2 ^ (2 * n) * m.1, if m.1 = 2 then a.2 ++ [(n, m.2)] else a.2)) (0, [])

/-- The creation time of the previous released line (R158). DESIGN CHOICE (log entry 153): a line held for its release counts as
released where it has been broadcast, or while TRIG_EN is 1. -/
def State.lastCreated (s : State) : Option Nat :=
  if s.role = 3 || s.on F.TB_CTRL_TRIG_EN then ((s.tb.held.filterMap fun h => h.created).getLast?).or s.tb.lastRel
  else s.tb.lastRel

/-- A line is created in a device that releases its own lines: held, and broadcast by a master (R158, R159, R180). -/
def State.ownLine (s : State) (l : Nat) : State :=
  let close := match s.lastCreated with
    | some t => decide ((s.real - t) / 16 < max 16 (s.rd F.TB_REL_MIN_GAP))
    | none => false
  if close then s.passLine l
  else
    let rel := s.now + 16 * s.rd F.TB_REL_REL_OFFSET
    if s.role = 3 then
      let m := s.marksNow
      let e := s.epochAt rel
      let ts := m.2.map fun x => (Fin.ofNat 16 x.1, BitVec.ofNat 48 x.2)
      let msg : IrcMsg := .trigger (BitVec.ofNat 48 l) (BitVec.ofNat 64 (rel + e.2)) (BitVec.ofNat 32 m.1) ts
      let h := { s.hdr msg true 0 with epoch := BitVec.ofNat 16 e.1 }
      let s2 := (s.sendGroup none h msg).nextSeq msg
      let s3 := s2.setTb { s2.tb with seen := (h.src.val, 11, h.seq.toNat) :: s2.tb.seen }
      s3.hold ⟨l, rel + e.2, m.1, m.2, e.1, some s.real⟩
    else s.hold ⟨l, rel, 0, [], s.rd F.TB_GROUP_EPOCH, some s.real⟩

/-- The divider creates line LINE (R156, R157). A member's divider runs in shadow; a joining device passes its lines. -/
def State.createLine (s : State) : State :=
  let l := s.line
  let s1 := if s.on F.TB_CTRL_CPL_LOAD then (s.setTb { s.tb with cpl := s.cplReg }).wr F.TB_CTRL_CPL_LOAD 0 else s
  let s2 := (s1.setTb { s1.tb with next := s1.tb.next + s1.tb.cpl }).setLine ((l + 1) % 2 ^ 48)
  if s2.role = 0 || s2.role == 3 then s2.ownLine l
  else if s2.role = 1 then s2.passLine l
  else s2

/-! ### The encoder (R149–R153) -/

/-- What a sample makes of an input: the level accepted and for how many samples another has been held. A level is accepted when
it has been held for FILT samples, 0 acting as 1; a shorter pulse leaves no trace (R149). -/
def pinFilter (filt : Nat) (level : Bool) (run : Nat) (pin : Bool) : Bool × Nat :=
  if pin = level then (level, 0) else if max 1 filt ≤ run + 1 then (pin, 0) else (level, run + 1)

/-- One count in a direction (R150, R152, R156). The TRIGGER of a line it creates leaves before an EVENT (R168). -/
def State.count (s : State) (fwd : Bool) : State :=
  let fast := match s.tb.lastCount with
    | some t => decide ((s.real - t) / 16 < s.rd F.TB_ENC_CFG_MIN_INT)
    | none => false
  let s1 := s.setTb { s.tb with lastCount := some s.real }
  let pos := (s1.rd64 0x80018 + (if fwd then 1 else 2 ^ 64 - 1)) % 2 ^ 64
  let s2 := s1.wr64 0x80018 pos
  let s3 := if fwd && s2.tb.armed && decide (((s2.tb.next / 2 ^ 32 : Nat) : Int) ≤ toSigned 64 pos) then s2.createLine else s2
  if fast then ((s3.bump F.TB_OVERSPEED_CNT_COUNT).wr F.TB_STATUS_OVERSPEED 1).raise Ev.TB_ENC_OVERSPEED else s3

/-- A count is accepted: it is registered FILT + 16 ticks after `first`, the tick that first sampled the new level (R154). -/
def State.acceptCount (s : State) (fwd : Bool) (first : Nat) : State :=
  s.setTb { s.tb with counts := s.tb.counts ++ [(fwd, first + 16 * (max 1 (s.rd F.TB_ENC_CFG_FILT) + 16))] }

/-- A tick registers the counts whose delay is over (R154); TB_POS counts only while ENC_EN is 1 (R156). -/
def State.registerCounts (s : State) : State :=
  forEach (s.tb.counts.filter fun x => decide (x.2 ≤ s.real)) (fun x s => if s.on F.TB_CTRL_ENC_EN then s.count x.1 else s)
    (s.setTb { s.tb with counts := s.tb.counts.filter fun x => !decide (x.2 ≤ s.real) })

/-- What newly accepted levels of ENC_A and ENC_B do: both in one tick are an illegal transition (R150, R151). ENC_EN at 0 decodes
nothing. -/
def State.decodeEdges (s : State) (a b ca cb : Bool) : State :=
  let fwd := xor (if ca then a != b else a == b) (s.on F.TB_ENC_CFG_DIR_INV)
  let mode := s.rd F.TB_ENC_CFG_MODE
  if !s.on F.TB_CTRL_ENC_EN then s
  else if ca && cb then ((s.bump F.TB_ENC_ERR_CNT_COUNT).wr F.TB_STATUS_ENC_ERR 1).raise Ev.TB_ENC_ERR
  else if !ca && !cb then s
  else if (mode = 1 && !ca) || (mode = 2 && !(ca && a == fwd)) then s
  else s.acceptCount fwd (if ca then s.tb.firstA else s.tb.firstB)

/-- A tick samples ENC_A and ENC_B (R149). -/
def State.sampleAB (s : State) : State :=
  let x := pinFilter (s.rd F.TB_ENC_CFG_FILT) s.tb.encA s.tb.runA s.tb.pinA
  let y := pinFilter (s.rd F.TB_ENC_CFG_FILT) s.tb.encB s.tb.runB s.tb.pinB
  (s.setTb { s.tb with
    encA := x.1, runA := x.2, firstA := if s.tb.runA = 0 then s.real else s.tb.firstA
    encB := y.1, runB := y.2, firstB := if s.tb.runB = 0 then s.real else s.tb.firstB }).decodeEdges x.1 y.1 (x.1 != s.tb.encA)
    (y.1 != s.tb.encB)

/-- A tick samples ENC_Z (R149); an accepted rising edge copies TB_POS bits 31:0 (R153), with no delay of R154's, which concerns
counts alone (DESIGN CHOICE, log entry 147). -/
def State.sampleZ (s : State) : State :=
  let z := pinFilter (s.rd F.TB_ENC_CFG_FILT) s.tb.encZ s.tb.runZ s.tb.pinZ
  let s1 := s.setTb { s.tb with encZ := z.1, runZ := z.2 }
  if z.1 && !s.tb.encZ then (s1.setReg 0x80038 (s1.reg 0x80018)).raise Ev.TB_Z else s1

/-- The lehr samples ENC_A and ENC_B in S4 and counts their changes (R369). -/
def State.lehrSample (s : State) (a b : Bool) : State :=
  s.withLehr { s.lehr with encA := a, encB := b, edges := s.lehr.edges + b2n (a != s.lehr.encA) + b2n (b != s.lehr.encB) }

/-- ENCODER_EDGE: a tick samples ENC_A and ENC_B at the levels `a` and `b` (R149–R152); with the spine cut, a lehr clock does
(R369). -/
def execEncoderEdge (a b : Bool) (s : State) : Answer :=
  if !s.spineOn && s.lehr.s4 then .next (s.lehrSample a b)
  else act s fun s => (s.setTb { s.tb with pinA := a, pinB := b }).sampleAB

/-- ENC_Z_EDGE: a tick samples ENC_Z at the level `z` (R149, R153). -/
def execEncZEdge (z : Bool) (s : State) : Answer := act s fun s => (s.setTb { s.tb with pinZ := z }).sampleZ

/-- What ARM does (R156, R157): POS, NEXT and LINE start again; CPL is loaded. -/
def State.armDivider (s : State) : State :=
  let c := s.cplReg
  let s1 := s.setTb { s.tb with armed := true, next := c, cpl := c, passed := [], released := none }
  (s1.wr64 0x80018 0).setLine (s1.rd F.TB_LINE_START_LO_START_LO + 2 ^ 32 * s1.rd F.TB_LINE_START_HI_START_HI)

/-! ### Receiving frames (R164–R168, R184) -/

/-- Ports in state GROUP. -/
def State.groupPorts (s : State) : List Nat := (upTo 4).filter fun p => s.rd (F.IRC_STATUS_STATE p) == 3

/-- Is port `p` in LINK or GROUP? -/
def State.linked (s : State) (p : Nat) : Bool :=
  s.rd (F.IRC_STATUS_STATE p) == 2 || s.rd (F.IRC_STATUS_STATE p) == 3

/-- Send a link-local frame on a port. -/
def State.sendLink (s : State) (p : Nat) (m : IrcMsg) : State := (s.sendOn p (s.hdr m false 0) m).nextSeq m

/-- Hops to the master that a member's HELLO or the epoch in force gives. -/
def hopsOf (l : List (Nat × Nat)) (id : Nat) : Nat := ((l.find? fun x => x.1 == id).map fun x => x.2).getD 15

/-- IRC[p].STATUS.UPSTREAM as the upstream port, if any, has it. -/
def State.markUpstream (s : State) (up : Option Nat) : State :=
  forEach (upTo 4) (fun q s => s.wr (F.IRC_STATUS_UPSTREAM q) (b2n (up == some q))) s

/-- PLL0 and PLL2 take the recovered clock of port `p` as their reference, led by its HOP_DELAY (R171, R177). -/
def State.followPort (s : State) (p : Nat) : State :=
  s.setTb { s.tb with pllRef := .port p, pllLead := s.rd (F.IRC_HOP_DELAY_DELAY p) }

/-- PLL0 and PLL2 take the reference of a device that is not an ALIGNED member (R376). -/
def State.ownClock (s : State) : State := s.setTb { s.tb with pllRef := .board, pllLead := 0 }

/-- Set the upstream port (R171). -/
def State.setUpstream (s : State) (p : Nat) : State :=
  let s1 := (s.markUpstream (some p)).wr F.TB_STATUS_UPSTREAM p
  if s1.on F.TB_STATUS_ALIGNED then s1.followPort p else s1

/-- The GROUP port whose neighbour has the fewest hops, lowest identifier on a tie (R171). -/
def State.bestUpstream (s : State) (hops : List (Nat × Nat)) : Option Nat :=
  let rank := fun p => hopsOf hops (s.rd (F.IRC_STATUS_PEER_ID p)) * 64 + s.rd (F.IRC_STATUS_PEER_ID p)
  s.groupPorts.foldl (fun b p =>
    match b with
    | none => some p
    | some q => if rank p < rank q then some p else some q) none

/-- The master issues an epoch: flooded, and pending on this device too (R171). Its activation, like every time after a step
that is still to come, is a time of the epoch before it (R173). -/
def State.issueEpoch (s : State) (map : Nat) (hops : List (Nat × Nat)) (step : Nat) : State :=
  let num := (s.tb.maxEpoch.getD 0 + 1) % 2 ^ 16
  let act := s.now + 100000 + (s.epochAt (s.now + 100000)).2
  let hs := hops.filter fun x => bit map x.1
  let s1 := s.flood (.epoch (BitVec.ofNat 16 num) (BitVec.ofNat 64 act) (BitVec.ofNat 64 map)
    (hs.map fun x => (Fin.ofNat 64 x.1, Fin.ofNat 16 x.2)) (BitVec.ofNat 64 step))
  s1.setTb { s1.tb with maxEpoch := some num, pendEpochs := s1.tb.pendEpochs ++ [⟨num, act, map, hs, step, s1.myId⟩] }

/-- The members and their hops that the next epoch starts from: those of the last epoch still to take effect, or those in force,
with the hops at which members have been heard since (R171, R172). -/
def State.nextGroup (s : State) : Nat × List (Nat × Nat) :=
  let e := match s.tb.pendEpochs.getLast? with
    | some e => (e.map, e.hops)
    | none => (s.members, s.tb.memberHops)
  (e.1, e.2.map fun x => (x.1, ((s.tb.heardHops.find? fun y => y.1 == x.1).map fun y => y.2).getD x.2))

/-- The neighbours that ports of this device in GROUP have, as a bitmap of identifiers. -/
def State.neighbours (s : State) : Nat :=
  s.groupPorts.foldl (fun m p => setBitTo m (s.rd (F.IRC_STATUS_PEER_ID p)) true) 0

/-- The neighbours of member `a` as the master knows them: its own ports', and what a member's last STATUS says (DESIGN CHOICE,
log entry 134). -/
def State.linksOf (s : State) (a : Nat) : Option Nat :=
  if a = s.myId then some s.neighbours else (s.tb.heardLinks.find? fun x => x.1 == a).map fun x => x.2

/-- May a link join members `a` and `b`: neither says that it has none. -/
def State.joined (s : State) (a b : Nat) : Bool :=
  ((s.linksOf a).map fun l => bit l b).getD true && ((s.linksOf b).map fun l => bit l a).getD true

/-- The members of a bitmap to which a path from the master remains (R174). -/
def State.reachable (s : State) (map : Nat) : Nat :=
  (bitsOf 64 map).foldl (fun seen _ =>
    (bitsOf 64 map).foldl (fun seen b =>
      if !bit seen b && (bitsOf 64 seen).any (fun a => s.joined a b) then setBitTo seen b true else seen) seen) (2 ^ s.myId)

/-- The master issues an epoch with the members it has now, less those whose only path has failed (R171, R174). -/
def State.reissue (s : State) : State := s.issueEpoch (s.reachable s.nextGroup.1) s.nextGroup.2 0

/-- The master drops a member (R174). -/
def State.dropMember (s : State) (m : Nat) : State := s.issueEpoch (setBitTo s.nextGroup.1 m false) s.nextGroup.2 0

/-- What a port shows once its link is gone: no partner, no delay, and it is no upstream port. -/
def State.portDown (s : State) (p state : Nat) : State :=
  let s1 := ((s.wr (F.IRC_STATUS_STATE p) state).wr (F.IRC_STATUS_PEER_VALID p) 0).wr (F.IRC_HOP_DELAY_VALID p) 0
  (s1.setIrcp p { s1.ircp p with peerCurrent := false, delays := [] }).wr (F.IRC_STATUS_UPSTREAM p) 0

/-- The upstream port `p` is lost: another is taken, or the PLLs hold their last frequency (R171). -/
def State.loseUpstream (s : State) (p : Nat) : State :=
  match s.bestUpstream s.tb.memberHops with
  | some q => s.setUpstream q
  | none => if s.tb.pllRef = .port p then s.setTb { s.tb with pllRef := .held } else s

/-- What follows once a port has gone down: a master forms a new epoch where the port was in GROUP; a member whose upstream it was
takes another, and with none left holds its PLLs at their last frequency (R171, R174). -/
def State.afterLoss (s : State) (p : Nat) (wasGroup wasUp : Bool) : State :=
  if s.role = 3 && wasGroup then s.reissue else if wasUp then s.loseUpstream p else s

/-- Was port `p` in state GROUP, and the upstream port? -/
def State.portWas (s : State) (p : Nat) : Bool × Bool := (s.rd (F.IRC_STATUS_STATE p) == 3, s.on (F.IRC_STATUS_UPSTREAM p))

/-- A port's link is gone. -/
def State.portLost (s : State) (p state : Nat) : State :=
  (s.portDown p state).afterLoss p (s.portWas p).1 (s.portWas p).2

/-- A port quarantines itself (R184); its event leaves before a frame of a new epoch (R168). -/
def State.quarantine (s : State) (p : Nat) : State :=
  let s1 := (s.setIrcp p { s.ircp p with violations := [] }).portDown p 4
  (((s1.bump (F.IRC_QUAR_CNT_COUNT p)).wr (F.IRC_STATUS_QUAR p) 1).raise (Ev.IRC_QUARANTINE p)).afterLoss p (s.portWas p).1
    (s.portWas p).2

/-- A malformed frame (R166), with the quarantine it may bring (R184). -/
def State.violation (s : State) (p reason : Nat) (h : FrameHdr) (isNack : Bool) : State :=
  let x := s.ircp p
  let now := s.real
  let vs := now :: x.violations.filter fun t => decide (now < t + 10000000)
  let s1 := ((s.setIrcp p { x with violations := vs }).bump (F.IRC_VIOL_CNT_COUNT p)).wr (F.IRC_STATUS_VIOL p) 1
  let s2 := if mayRaise x.lastViol now 10000 then
      (s1.setIrcp p { s1.ircp p with lastViol := some now }).raise (Ev.IRC_VIOL p) else s1
  let s3 := if !isNack && mayRaise x.lastNack now 10000 then
      (s2.setIrcp p { s2.ircp p with lastNack := some now }).sendLink p (.nack (Fin.ofNat 8 reason) h.seq) else s2
  let limit := s3.rd (F.IRC_QUAR_CFG_LIMIT p)
  if limit ≠ 0 && limit ≤ vs.length then s3.quarantine p else s3

/-- Is LEN above 22, not the words received, or in a TRIGGER not 3 and one for each region marked merged (R166, R180)? -/
def badLen (h : FrameHdr) (m : IrcMsg) : Bool :=
  decide (22 < h.rest.len.toNat) || h.rest.len.toNat != h.rest.count || h.rest.count != (payloadWords m).length ||
    (match m with
      | .trigger _ _ marks ts => ts.length != ((upTo 16).filter fun n => slice marks.toNat (2 * n + 1) (2 * n) == 2).length
      | _ => false)

/-- Is a reserved bit set (R164, R166, R180)? A mark 0b11 counts as one (DESIGN CHOICE, log entry 131). -/
def badReserved (h : FrameHdr) (m : IrcMsg) : Bool :=
  h.rest.rsv != 0 || h.rest.tailRsv != 0 || (h.rest.extra.any fun x => x != 0) ||
    (match m with
      | .trigger _ _ marks _ => (upTo 16).any fun n => slice marks.toNat (2 * n + 1) (2 * n) == 3
      | _ => false)

/-- Does the frame name this device as its originator, which it is not (R166)? -/
def State.notMine (s : State) (h : FrameHdr) (m : IrcMsg) : Bool :=
  h.src.val == s.myId && !s.tb.seen.contains (h.src.val, ircType m, h.seq.toNat)

/-- The lowest reason for which a frame is malformed at port `p`; none for a well-formed one (R166). A port in state LINK takes
HELLO, and DLY_REQ and DLY_RESP, which R177 has it exchange there (DEDUCED, log entry 132). -/
def State.malformed (s : State) (p : Nat) (h : FrameHdr) (m : IrcMsg) : Option Nat :=
  if h.rest.crc != frameCrc h m then some 1
  else if badLen h m then some 2
  else if typeField h m != ircType m then some 3
  else if badReserved h m then some 4
  else if s.notMine h m || (decide (3 < ircType m) && s.rd (F.IRC_STATUS_STATE p) == 2) then some 5
  else if h.rest.coding then some 6
  else none

/-- Is the frame of another epoch (R167)? A TRIGGER carries the epoch in force at its release (R180). -/
def State.stale (s : State) (type : Nat) (h : FrameHdr) (release : Nat) : Bool :=
  !(decide (type ≤ 7)) && h.epoch.toNat != s.rd F.TB_GROUP_EPOCH &&
  !(type == 11 && (s.epochAt release).1 == h.epoch.toNat)

/-- A frame on from the port it came by: the first copy of a flooded frame, or one for another member (R168). -/
def State.forward (s : State) (p : Nat) (h : FrameHdr) (m : IrcMsg) : State :=
  if h.hops.val = 15 then s else s.sendGroup (some p) { h with hops := Fin.ofNat 16 (h.hops.val + 1) } m

/-- Acknowledge a frame to its originator (R165). -/
def State.ackTo (s : State) (p : Nat) (h : FrameHdr) (m : IrcMsg) : State :=
  s.sendTo p h.src.val (.ack (BitVec.ofNat 8 (ircType m)) h.seq)

/-- A flooded frame that this device takes and forwards: TRIGGER, FAR and EVENT go on at once, every other type after the events
that it raises here (R168). -/
def State.takeAndForward (s : State) (p : Nat) (h : FrameHdr) (m : IrcMsg) (f : State → State) : State :=
  if 11 ≤ ircType m && ircType m ≤ 13 then f (s.forward p h m) else (f s).forward p h m

/-- A frame that has come before (R168): it is dropped. DESIGN CHOICE (log entry 148): one to this device alone that waits for its
acknowledgement is acknowledged again. -/
def State.secondCopy (s : State) (p : Nat) (h : FrameHdr) (m : IrcMsg) : State :=
  if !h.bcast && h.dst.val = s.myId && ircAcked m then s.ackTo p h m else s

/-- Receive a frame at port `p` (R164–R168): `f` is what a well-formed frame for this device does. -/
def State.receive (s : State) (p : Nat) (h : FrameHdr) (m : IrcMsg) (release : Nat) (f : State → State) : State :=
  let ty := ircType m
  if !s.linked p then s
  else
    match s.malformed p h m with
    | some r => s.violation p r h (ty == 15)
    | none =>
      if s.stale ty h release then s.bump (F.IRC_STALE_CNT_COUNT p)
      else if ty ≤ 3 || ty == 15 then f s
      else
        let id := (h.src.val, ty, h.seq.toNat)
        if s.tb.seen.contains id then s.secondCopy p h m
        else
          let s1 := s.setTb { s.tb with seen := (id :: s.tb.seen).take 4096 }
          if h.bcast then s1.takeAndForward p h m f
          else if h.dst.val = s1.myId then f s1
          else s1.forward p h m

/-! ### Link-local frames (R165, R176, R177) -/

/-- Is epoch number `n` newer than `m`, modulo 2^16 (R171)? -/
def newerEpoch (n m : Nat) : Bool :=
  let ahead := (n + 2 ^ 16 - m) % 2 ^ 16
  ahead != 0 && decide (ahead < 2 ^ 15)

/-- An epoch number is heard of: the highest so far is kept (R170). -/
def State.sawEpoch (s : State) (n : Nat) : State :=
  match s.tb.maxEpoch with
  | some m => if newerEpoch n m then s.setTb { s.tb with maxEpoch := some n } else s
  | none => s.setTb { s.tb with maxEpoch := some n }

/-- A device of no epoch learns its partner's from HELLO: the epoch, the master and, since R176 compares it, the master's key. -/
def State.learnGroup (s : State) (epoch master : Nat) (key : Key) : State :=
  let s1 := (s.wr F.TB_GROUP_EPOCH epoch).wr F.TB_GROUP_MASTER_ID master
  s1.setTb { s1.tb with bestKey := keyNum key }

/-- HELLO on a port in state GROUP names a current epoch (R176): a master that meets a better one ends its group; a member keeps
the better key for its next STATUS, so that its master learns it (DESIGN CHOICE, log entry 47). A master issues an epoch when a
member's port enters GROUP, and a member that held its PLLs takes the port as its upstream (R171). -/
def State.meetGroup (s : State) (p : Nat) (entered current : Bool) (id master : Nat) (key : Key) : State :=
  if s.role = 3 then
    if current && master != s.myId && decide (keyNum key < s.myKey) then s.issueEpoch 0 [] 0
    else if entered && bit s.members id then s.reissue
    else s
  else if s.role = 2 then
    let s1 := if current && master != s.rd F.TB_GROUP_MASTER_ID && decide (keyNum key < s.tb.bestKey) then
        s.setTb { s.tb with met := some (keyNum key) } else s
    if entered && s1.tb.pllRef = .held then s1.setUpstream p else s1
  else s

/-- HELLO names the partner, its epoch and master (R165). A port of a device that takes part in a group enters GROUP; a
device of no epoch that is not in election learns the partner's; where two groups meet, the one with the worse master's key ends
(R176). DESIGN CHOICE (log entry 48): HELLO carries the master's key and whether the sender's epoch is current. -/
def execHello (p : Fin 4) (h : FrameHdr) (key : Key) (id : Fin 64) (epoch : BitVec 16) (current : Bool) (master : Fin 64)
    (masterKey : Key) (hops : Fin 16) (port : Fin 4) (s : State) : Answer :=
  act s fun s => s.receive p h (.hello key id epoch current master masterKey hops port) 0 fun s =>
    let s1 := ((s.wr (F.IRC_STATUS_PEER_VALID p) 1).wr (F.IRC_STATUS_PEER_ID p) id.val).wr64 (0xb00008 + 0x10000 * (p % 4))
      key.serial.toNat
    let s2 := s1.setIrcp p { s1.ircp p with
      peerEpoch := epoch.toNat, peerMaster := master.val, peerHops := hops.val, peerCurrent := current }
    if !s2.on F.TB_CTRL_GROUP_EN then s2
    else
      let entered := s2.rd (F.IRC_STATUS_STATE p) == 2
      let s3 := s2.wr (F.IRC_STATUS_STATE p) 3
      let s4 := if current then s3.sawEpoch epoch.toNat else s3
      let s5 := if !current || s4.tb.inEpoch || s4.on F.TB_STATUS_ELECTING then s4
        else s4.learnGroup epoch.toNat master.val masterKey
      s5.meetGroup p entered current id.val master.val masterKey

/-- DLY_REQ is answered with its times (R177). -/
def execDlyReq (p : Fin 4) (h : FrameHdr) (t1 t2 t3 : BitVec 64) (s : State) : Answer :=
  act s fun s => s.receive p h (.dlyReq t1) 0 fun s => s.sendLink p (.dlyResp t2 t3)

/-- The mean of the results held, in sixteenths of a UI. -/
def meanDelay (l : List Int) : Int := (l.foldl (fun a x => a + x) 0) / l.length

/-- DLY_RESP yields a one-way delay, averaged over the last 16, by which the ticks of a device that follows the port lead (R177). -/
def execDlyResp (p : Fin 4) (h : FrameHdr) (t2 t3 t4 : BitVec 64) (s : State) : Answer :=
  act s fun s => s.receive p h (.dlyResp t2 t3) 0 fun s =>
    let rtt : Int := ((t4.toNat : Int) - (s.ircp p).t1) - ((t3.toNat : Int) - t2.toNat)
    let d := rtt * 16 / 2 + toSigned 16 (s.rd (F.IRC_DLY_ASYM_ASYM p))
    let ds := (d :: (s.ircp p).delays).take 16
    let s1 := (s.setIrcp p { s.ircp p with delays := ds }).wr (F.IRC_HOP_DELAY_DELAY p) (ofSigned 24 (meanDelay ds))
    let s2 := if s1.tb.pllRef = .port p then s1.followPort p else s1
    if 4 ≤ ds.length then s2.wr (F.IRC_HOP_DELAY_VALID p) 1 else s2

/-- NACK is counted and raised (R166). -/
def execNack (p : Fin 4) (h : FrameHdr) (reason : Fin 8) (seq : BitVec 16) (s : State) : Answer :=
  act s fun s => s.receive p h (.nack reason seq) 0 fun s =>
    ((s.bump (F.IRC_NACK_RX_CNT_COUNT p)).wr (F.IRC_STATUS_NACK_RX p) 1).raise (Ev.IRC_NACK_RX p)

/-! ### Election and epochs (R169–R176) -/

/-- Flood ELECT with the best key known. -/
def State.floodElect (s : State) : State := s.flood (.elect (keyOf s.tb.bestKey) (BitVec.ofNat 64 s.now))

/-- Enter election (R170), with what the ELECTs received since the last epoch took effect have named. -/
def State.enterElection (s : State) : State :=
  let s1 := s.setTb { s.tb with
    bestKey := min s.myKey (s.tb.heardKey.getD s.myKey), electOld := s.tb.electOld || s.tb.inEpoch, inEpoch := false }
  ((s1.wr F.TB_STATUS_ELECTING 1).setRole 1).floodElect

/-- What an ELECT names is kept: the best key, its sender and the sender's hops, time and epoch (R170). -/
def State.heardElect (s : State) (h : FrameHdr) (key time : Nat) : State :=
  let s1 := s.setTb { s.tb with
    heardKey := some (min key (s.tb.heardKey.getD key))
    electors := (h.src.val, h.hops.val + 1) :: s.tb.electors.filter fun e => e.1 != h.src.val
    electTime := max s.tb.electTime time
    electOld := s.tb.electOld || h.epoch != 0 }
  if h.epoch = 0 then s1 else s1.sawEpoch h.epoch.toNat

/-- ELECT: what it names is kept; in election a better key is adopted and passed on (R170). -/
def execElect (p : Fin 4) (h : FrameHdr) (key : Key) (time : BitVec 64) (s : State) : Answer :=
  act s fun s => s.receive p h (.elect key time) 0 fun s =>
    if !s.on F.TB_CTRL_GROUP_EN then s
    else
      let s1 := s.heardElect h (keyNum key) time.toNat
      if s1.on F.TB_STATUS_ELECTING && decide (keyNum key < s1.tb.bestKey) then
        (s1.setTb { s1.tb with bestKey := keyNum key }).floodElect
      else s1

/-- The owner of the best key becomes master: its first epoch names every elector; a new group's time starts 1 ms above
the latest (R170). -/
def State.becomeMaster (s : State) : State :=
  let x := s.tb
  let s1 := if x.electOld then s else s.stepTime (max s.now x.electTime + 10000000)
  let hops := (s1.myId, 0) :: x.electors.filter fun e => e.1 != s1.myId
  let map := hops.foldl (fun m e => setBitTo m e.1 true) 0
  (s1.setTb { s1.tb with electees := x.electors.map fun e => e.1 }).issueEpoch map hops 0

/-- ELECT_QUIET_EXPIRY: an election begins, or the owner of the best key becomes master (R170). -/
def execElectQuietExpiry (s : State) : Answer :=
  act s fun s =>
    if !s.on F.TB_CTRL_GROUP_EN || s.role ≠ 1 then s
    else if s.on F.TB_STATUS_ELECTING then
      if s.tb.bestKey = s.myKey && s.rd F.TB_MEMBER_PRIO != 0xff && s.tb.pendEpochs.isEmpty then s.becomeMaster else s
    else if (upTo 4).any (fun p => s.linked p) && (upTo 4).all (fun p => !(s.linked p && (s.ircp p).peerCurrent)) then
      s.enterElection
    else s

/-- Does this device take the EPOCH numbered `num` of `src`: it is newer than the last one taken, or than the one the device is in or
has learned of, and a device that is in an epoch takes only its own master's, so that a group that ends at a link between two
groups ends alone (R171, R176). In election, every number seen counts (R170). -/
def State.takesEpoch (s : State) (src num : Nat) : Bool :=
  let last := match s.tb.pendEpochs.getLast? with
    | some e => some e.num
    | none =>
      if s.on F.TB_STATUS_ELECTING then s.tb.maxEpoch
      else if s.tb.inEpoch || s.rd F.TB_GROUP_EPOCH != 0 then some (s.rd F.TB_GROUP_EPOCH)
      else none
  (!s.tb.inEpoch || src == s.rd F.TB_GROUP_MASTER_ID) && (last.map fun m => newerEpoch num m).getD true

/-- EPOCH schedules a newer epoch; those scheduled before it take effect at their own times (R171). -/
def execEpoch (p : Fin 4) (h : FrameHdr) (num : BitVec 16) (act_ : BitVec 64) (map : BitVec 64)
    (hops : List (Fin 64 × Fin 16)) (step : BitVec 64) (s : State) : Answer :=
  act s fun s => s.receive p h (.epoch num act_ map hops step) 0 fun s =>
    let s1 := s.ackTo p h (.epoch num act_ map hops step)
    if s1.takesEpoch h.src.val num.toNat then
      let s2 := s1.sawEpoch num.toNat
      s2.setTb { s2.tb with pendEpochs := s2.tb.pendEpochs ++
        [⟨num.toNat, act_.toNat, map.toNat, hops.map fun x => (x.1.val, x.2.val), step.toNat, h.src.val⟩] }
    else s1

/-- The time step of an epoch on this device (R173): a device whose time leads takes up what is left of it; one that the epoch
does not name and that leads by more leads by so much less. DESIGN CHOICE (log entry 154): a device with no lead that the epoch
does not name takes no step, though it may be aligned. A line held with the number of this epoch, or of one after it, has the step
in its release time. -/
def State.epochStep (s : State) (e : PendingEpoch) (named : Bool) : State :=
  let d := if s.on F.TB_STATUS_TIME_AHEAD then s.tb.offsetD else 0
  if e.step = 0 || (!named && d == 0) then s
  else if e.step < d then s.setTb { s.tb with offsetD := d - e.step }
  else
    let s1 := (s.stepTime (s.now + (e.step - d))).wr F.TB_STATUS_TIME_AHEAD 0
    s1.setTb { s1.tb with
      offsetD := 0
      held := s1.tb.held.map fun h =>
        if h.epoch = e.num || s1.tb.pendEpochs.any (fun x => x.num == h.epoch) then h else { h with release := h.release + e.step } }

/-- What an epoch that takes effect leaves in the timebase (R170–R175). -/
def Timebase.enter (x : Timebase) (e : PendingEpoch) (named : Bool) (real : Nat) : Timebase :=
  { x with
    inEpoch := named, memberHops := e.hops, follows := named, released := if x.follows then x.released else none,
    lastHeartbeat := real, statusSeen := e.hops.map fun y => (y.1, real), electors := [], electTime := 0, electOld := false,
    heardKey := none, heardHops := [], met := none }

/-- An epoch makes this device the master: its ticks are its own, and OFFSET_SHORT tells a REL_OFFSET too small (R171, R179). -/
def State.leadEpoch (s : State) (e : PendingEpoch) : State :=
  let hmax := e.hops.foldl (fun m x => max m x.2) 0
  let s1 := (((((s.markUpstream none).ownClock).wr F.TB_STATUS_MAX_HOPS hmax).wr F.TB_STATUS_HOPS 0).setAligned true).setRole 3
  if 16 * s1.rd F.TB_REL_REL_OFFSET < 400 + 2000 * hmax then
    (s1.wr F.TB_STATUS_OFFSET_SHORT 1).raise Ev.TB_OFFSET_SHORT else s1

/-- An epoch names this device: it takes its upstream port, and is a member once it is aligned and its time does not lead
(R159, R171, R177). -/
def State.followEpoch (s : State) (e : PendingEpoch) : State :=
  let s1 := match s.bestUpstream e.hops with
    | some q => (s.setUpstream q).wr F.TB_STATUS_HOPS (hopsOf e.hops (s.rd (F.IRC_STATUS_PEER_ID q)) + 1)
    | none => s
  s1.setRole (if s1.on F.TB_STATUS_ALIGNED && !s1.on F.TB_STATUS_TIME_AHEAD then 2 else 1)

/-- EPOCH_ACTIVATION: the oldest epoch scheduled takes effect at its time (R171, R173, R179). A device in a group that it does not
name is joining. An election ends so and not before (DESIGN CHOICE, log entry 155). -/
def execEpochActivation (s : State) : Answer :=
  act s fun s =>
    match s.tb.pendEpochs with
    | [] => s
    | e :: later =>
      if s.now < e.act then s
      else
        let named := bit e.map s.myId
        let s1 := (s.setTb { s.tb with pendEpochs := later }).epochStep e named
        let s2 := s1.setTb (s1.tb.enter e named s1.real)
        let s3 := (((s2.wr F.TB_GROUP_EPOCH e.num).wr F.TB_GROUP_COUNT (bitsOf 64 e.map).length).wr F.TB_GROUP_MASTER_ID
          e.master).wr64 0x80048 e.map
        let s4 := (s3.wr F.TB_STATUS_ELECTING 0).raise Ev.TB_EPOCH
        if named && e.master == s4.myId then s4.leadEpoch e
        else if named then s4.followEpoch e
        else if s4.on F.TB_CTRL_GROUP_EN then (if e.map = 0 then (s4.setAligned false).ownClock else s4).setRole 1
        else s4

/-- This device asks to join, once it is aligned through a member: one of no epoch, or one whose time leads its group's (R170,
R172, R173). -/
def State.askJoin (s : State) : State :=
  let p := s.rd F.TB_STATUS_UPSTREAM
  if s.role = 1 && s.on F.TB_STATUS_ALIGNED && (!s.tb.inEpoch || s.on F.TB_STATUS_TIME_AHEAD) && (s.ircp p).peerCurrent &&
      s.rd (F.IRC_STATUS_STATE p) == 3 then
    s.sendTo p (s.rd F.TB_GROUP_MASTER_ID) (.joinReq (keyOf s.myKey) (Fin.ofNat 64 s.myId)
      (Fin.ofNat 16 ((s.ircp p).peerHops + 1)) (BitVec.ofNat 64 s.tb.offsetD))
  else s

/-- The steps of the epochs still to take effect: so much less will a joiner lead once they have (R173). -/
def State.pendingStep (s : State) : Nat := s.tb.pendEpochs.foldl (fun a e => a + e.step) 0

/-- JOIN_REQ at the master: admitted into a new epoch beside those an epoch still to take effect admits, or refused with a reason
(R172, R173). A device that elected this master, sends an offset and has not been heard as a member is no other user of its
identifier: it is an elector whose time leads (R170; DEDUCED, log entry 133). -/
def execJoinReq (p : Fin 4) (h : FrameHdr) (key : Key) (id : Fin 64) (hops : Fin 16) (d : BitVec 64) (s : State) :
    Answer :=
  act s fun s => s.receive p h (.joinReq key id hops d) 0 fun s =>
    if s.role ≠ 3 then s
    else
      let s1 := s.ackTo p h (.joinReq key id hops d)
      let g := s1.nextGroup
      let answer := fun (r : Option (Fin 4)) => s1.sendTo p h.src.val (.joinAck r)
      if bit g.1 id.val && !(decide (d ≠ 0) && s1.tb.electees.contains id.val) then answer (some 1)
      else if 16 * s1.rd F.TB_REL_REL_OFFSET < 400 + 2000 * hops.val then answer (some 2)
      else if 64 ≤ (bitsOf 64 (setBitTo g.1 id.val false)).length then answer (some 3)
      else
        let s2 := answer none
        (s2.setTb { s2.tb with electees := s2.tb.electees.erase id.val }).issueEpoch (setBitTo g.1 id.val true)
          ((g.2.filter fun x => x.1 != id.val) ++ [(id.val, hops.val)]) ((d.toNat - s2.pendingStep + 15) / 16 * 16)

/-- JOIN_ACK at the joiner (R172). An event leaves before the ACK (R168). -/
def execJoinAck (p : Fin 4) (h : FrameHdr) (refused : Option (Fin 4)) (s : State) : Answer :=
  act s fun s => s.receive p h (.joinAck refused) 0 fun s =>
    (if refused.isSome then s.raise Ev.TB_JOIN_REFUSED else s).ackTo p h (.joinAck refused)

/-- JOIN_RETRY_TIMER (R172). -/
def execJoinRetryTimer (s : State) : Answer := act s fun s => s.askJoin

/-- LEAVE of a member: the master drops it; a leaving master is lost (R174). An event leaves before the ACK (R168). -/
def execLeave (p : Fin 4) (h : FrameHdr) (id : Fin 64) (s : State) : Answer :=
  act s fun s => s.receive p h (.leave id) 0 fun s =>
    (if s.role = 3 && bit s.members id.val then s.dropMember id.val
     else if s.role = 2 && s.rd F.TB_GROUP_MASTER_ID == id.val then s.enterElection
     else s).ackTo p h (.leave id)

/-- The group time a HEARTBEAT gives when it arrives (R177): the send time, the delay of this link, and, for a frame that
crossed other links, their delays, which this device does not know: a free value. DESIGN CHOICE (log entry 48): the sum is
rounded up to a multiple of 16, so that TB_TIME keeps counting whole ticks. -/
def State.groupTime (s : State) (p : Nat) (h : FrameHdr) (time : Nat) : Nat :=
  (time + s.rd (F.IRC_HOP_DELAY_DELAY p) / 45 + (if h.hops.val = 0 then 0 else s.draw) + 15) / 16 * 16

/-- The port that a device aligns through: its upstream port where an epoch names it; otherwise, of the ports in GROUP whose delay is
known and whose neighbour is a member, the one fewest hops from the master, the lowest identifier on a tie, as R171 has a member
choose (DESIGN CHOICE, log entry 156). -/
def State.alignPort (s : State) (p : Nat) : Nat :=
  let rank := fun q => (s.ircp q).peerHops * 64 + s.rd (F.IRC_STATUS_PEER_ID q)
  if s.tb.inEpoch then s.rd F.TB_STATUS_UPSTREAM
  else (s.groupPorts.filter fun q => (s.ircp q).peerCurrent && s.on (F.IRC_HOP_DELAY_VALID q)).foldl
    (fun b q => if rank q < rank b then q else b) p

/-- Align to group time (R177): PLL0 and PLL2 follow the upstream port; group time is taken up where it is not behind, and otherwise
the lead is carried in the JOIN_REQ, and the device is no member before the step of R173. -/
def State.align (s : State) (p t : Nat) : State :=
  let s1 := if s.now ≤ t then s.stepTime t
    else (s.setTb { s.tb with offsetD := s.now - t }).wr F.TB_STATUS_TIME_AHEAD 1
  let s2 := (s1.setAligned true).setUpstream (s1.alignPort p)
  if s2.tb.inEpoch && s2.role == 1 && !s2.on F.TB_STATUS_TIME_AHEAD then s2.setRole 2 else s2.askJoin

/-- HEARTBEAT (R174, R177). DESIGN CHOICE (log entry 155): a device in election aligns to none. -/
def execHeartbeat (p : Fin 4) (h : FrameHdr) (time : BitVec 64) (s : State) : Answer :=
  act s fun s => s.receive p h (.heartbeat time) 0 fun s =>
    let s1 := s.setTb { s.tb with lastHeartbeat := s.real }
    if s1.role = 1 && !s1.on F.TB_STATUS_ALIGNED && !s1.on F.TB_STATUS_ELECTING && s1.on (F.IRC_HOP_DELAY_VALID p) then
      (if h.hops.val = 0 then s1 else s1.drawn).align p (s1.groupTime p h time.toNat)
    else s1

/-- A member's skips: TB_BEHIND, and TB_MEMBER_BEHIND at most once per HB_PERIOD (R182). -/
def State.behind (s : State) (m : Nat) : State :=
  let s1 := s.wr64 0x80050 (setBitTo (s.rd64 0x80050) m true)
  if mayRaise s1.tb.behindEv s1.real s1.hbPeriod then
    (s1.setTb { s1.tb with behindEv := some s1.real }).raise Ev.TB_MEMBER_BEHIND
  else s1

/-- The master has heard member `m` at so many hops and with such links: where the epoch has it at others, or its links to members
are not those of its last STATUS, a port between members has entered or left GROUP, and a new epoch follows (R171; DESIGN CHOICE,
log entry 134). -/
def State.heardAt (s : State) (m hops links : Nat) : State :=
  let g := s.nextGroup
  if !bit g.1 m then s
  else
    let old := (s.tb.heardLinks.find? fun x => x.1 == m).map fun x => x.2 &&& g.1
    let s1 := s.setTb { s.tb with
      heardHops := (m, hops) :: s.tb.heardHops.filter fun x => x.1 != m
      heardLinks := (m, links) :: s.tb.heardLinks.filter fun x => x.1 != m }
    if hopsOf g.2 m = hops && old.getD (links &&& g.1) = links &&& g.1 then s1 else s1.reissue

/-- The master has had a STATUS of member `m`: it has been heard as a member. -/
def State.statusOfMember (s : State) (m : Nat) : State :=
  s.setTb { s.tb with
    statusSeen := (m, s.real) :: s.tb.statusSeen.filter fun x => x.1 != m
    electees := s.tb.electees.erase m }

/-- STATUS at the master (R171, R174, R182): the master of a group that has met a better one ends it (R176). -/
def execStatus (p : Fin 4) (h : FrameHdr) (aligned : Bool) (skips : BitVec 16) (better : Option Key) (links : BitVec 64)
    (s : State) : Answer :=
  act s fun s => s.receive p h (.status aligned skips better links) 0 fun s =>
    if s.role ≠ 3 then s
    else
      let s1 := s.statusOfMember h.src.val
      let s2 := if skips = 0 then s1 else s1.behind h.src.val
      if (better.map fun k => decide (keyNum k < s2.myKey)).getD false then s2.issueEpoch 0 [] 0
      else s2.heardAt h.src.val (min 15 (h.hops.val + 1)) links.toNat

/-- The skips have been reported. -/
def State.clearSkips (s : State) : State := s.setTb { s.tb with skipped := 0 }

/-- HEARTBEAT_TIMER: the master floods HEARTBEAT, a member sends STATUS (R165, R182), in which it names its neighbours too (DESIGN
CHOICE, log entry 134). -/
def execHeartbeatTimer (s : State) : Answer :=
  act s fun s =>
    if s.role = 3 then s.flood (.heartbeat (BitVec.ofNat 64 s.now))
    else if s.role = 2 then
      (s.sendTo (s.rd F.TB_STATUS_UPSTREAM) (s.rd F.TB_GROUP_MASTER_ID)
        (.status (s.on F.TB_STATUS_ALIGNED) (BitVec.ofNat 16 s.tb.skipped) (s.tb.met.map keyOf)
          (BitVec.ofNat 64 s.neighbours))).clearSkips
    else s

/-- HEARTBEAT_LOSS: no HEARTBEAT for three periods (R174). -/
def execHeartbeatLoss (s : State) : Answer :=
  act s fun s => if s.role = 2 && s.tb.lastHeartbeat + 3 * s.hbPeriod ≤ s.real then s.enterElection else s

/-- MEMBER_LOSS: no STATUS from member `m` for three periods (R174). -/
def execMemberLoss (m : Fin 64) (s : State) : Answer :=
  act s fun s =>
    let seen := ((s.tb.statusSeen.find? fun x => x.1 == m.val).map fun x => x.2).getD 0
    if s.role = 3 && m.val != s.myId && bit s.members m.val && decide (seen + 3 * s.hbPeriod ≤ s.real) then s.dropMember m
    else s

/-! ### Triggers, far slots, events, acknowledgements (R92, R161, R165, R180, R285) -/

/-- TRIGGER: a member holds the line for its release; one whose release has passed is counted late; a joining device
passes it (R159, R161, R180). -/
def execTrigger (p : Fin 4) (h : FrameHdr) (line : BitVec 48) (release : BitVec 64) (marks : BitVec 32)
    (targets : List (Fin 16 × BitVec 48)) (s : State) : Answer :=
  act s fun s => s.receive p h (.trigger line release marks targets) release.toNat fun s =>
    if s.role = 1 then (s.passLine line.toNat).followLine line.toNat
    else if s.role = 2 then
      let s1 := s.hold ⟨line.toNat, release.toNat, marks.toNat, targets.map fun x => (x.1.val, x.2.toNat), h.epoch.toNat, none⟩
      if release.toNat < s1.now then ((s1.bump F.TB_LATE_CNT_COUNT).wr F.TB_STATUS_LATE 1).raise Ev.TB_TRIG_LATE else s1
    else s

/-- One mapped slot of a FAR frame meets its tile (R92, R94, R183). -/
def State.farArrive (s : State) (n t k tag data : Nat) : State :=
  (s.setTile t { s.tile t with farSeen := (s.tile t).farSeen ++ [tag] }).farMeet n t k tag data

/-- FAR: every far-in slot whose FAR_MAP names its source takes its part (R92). -/
def execFar (p : Fin 4) (h : FrameHdr) (region : Fin 16) (tile : Fin 128) (tag : BitVec 16) (data : BitVec 1024)
    (s : State) : Answer :=
  act s fun s => s.receive p h (.far region tile tag data) 0 fun s =>
    forEach (upTo 1024) (fun i s =>
      let t := i / 8
      let m := (Tab.get regReset s.latch (0x2000a0 + 0x10000 * (t % 128) + 4 * (i % 8))).toNat
      match s.tileRegion t with
      | some n =>
        if s.farIn? t && bit m 31 && slice m 30 25 == h.src.val && slice m 24 18 == tile.val then
          s.farArrive n t (i % 8) tag.toNat (slice data.toNat (128 * slice m 17 15 + 127) (128 * slice m 17 15))
        else s
      | none => s) s

/-- EVENT is an occurrence of its source where IRC_RX_EN is 1 (R285). -/
def execEvent (p : Fin 4) (h : FrameHdr) (source : Fin 768) (s : State) : Answer :=
  act s fun s => s.receive p h (.event source) 0 fun s =>
    if s.on (F.EVT_ROUTE_IRC_RX_EN source) && Ev.named source then s.occur source false else s

/-- ACK ends the repetition of a frame (R165). -/
def execAck (p : Fin 4) (h : FrameHdr) (type : BitVec 8) (seq : BitVec 16) (s : State) : Answer :=
  act s fun s => s.receive p h (.ack type seq) 0 fun s =>
    s.setTb { s.tb with unacked := s.tb.unacked.filter fun u => !(ircType u.2.2.1 == type.toNat && u.2.1.seq == seq) }

/-- A partner that acknowledges nothing is lost (R165, R174). -/
def State.partnerLost (s : State) (h : FrameHdr) (m : IrcMsg) : State :=
  match m with
  | .epoch .. => if s.role = 3 then s.issueEpoch (2 ^ s.myId) [(s.myId, 0)] 0 else s
  | .joinAck .. => if s.role = 3 && bit s.members h.dst.val then s.dropMember h.dst.val else s
  | .joinReq .. => if s.role = 1 then s.enterElection else s
  | _ => s

/-- ACK_RETRY_TIMER of the `i`-th waiting frame: it is sent again, up to 8 sends (R165). -/
def execAckRetryTimer (i : Nat) (s : State) : Answer :=
  act s fun s =>
    match s.tb.unacked[i]? with
    | none => s
    | some (p, h, m, c) =>
      if c < 8 then
        let s1 := if p = 4 then s.sendGroup none h m else s.sendOn p h m
        s1.setTb { s1.tb with unacked := s1.tb.unacked.set i (p, h, m, c + 1) }
      else (s.setTb { s.tb with unacked := s.tb.unacked.eraseIdx i }).partnerLost h m

/-! ### Ports (R163, R165, R177, R184) -/

/-- HELLO_TIMER of a port (R165). -/
def execHelloTimer (p : Fin 4) (s : State) : Answer :=
  act s fun s =>
    if s.linked p then
      s.sendLink p (.hello (keyOf s.myKey) (Fin.ofNat 64 s.myId) (BitVec.ofNat 16 (s.rd F.TB_GROUP_EPOCH)) s.tb.inEpoch
        (Fin.ofNat 64 (s.rd F.TB_GROUP_MASTER_ID)) (keyOf (if s.role = 3 then s.myKey else s.tb.bestKey))
        (Fin.ofNat 16 (s.rd F.TB_STATUS_HOPS)) p)
    else s

/-- HOP_MEASURE_TIMER of a port (R177). -/
def execHopMeasureTimer (p : Fin 4) (t1 : BitVec 64) (s : State) : Answer :=
  act s fun s => if s.linked p then (s.setIrcp p { s.ircp p with t1 := t1.toNat }).sendLink p (.dlyReq t1) else s

/-- IRC_BACKOFF_EXPIRY: an enabled port that is down begins training once PLL2 is locked (R163, R336),
unless the cullet map marks it (R402). -/
def execIrcBackoffExpiry (p : Fin 4) (s : State) : Answer :=
  act s fun s =>
    if s.on (F.IRC_CTRL_EN p) && s.rd (F.IRC_STATUS_STATE p) == 0 && bit (s.rd F.CLK_STAT_LOCKED) 2 &&
        !bit s.cstore.cullet.irc p then
      s.wr (F.IRC_STATUS_STATE p) 1 else s

/-- IRC_LINK_UP: training ends with block lock and deskew (R163). -/
def execIrcLinkUp (p : Fin 4) (s : State) : Answer :=
  act s fun s =>
    if s.rd (F.IRC_STATUS_STATE p) = 1 then (s.wr (F.IRC_STATUS_STATE p) 2).raise (Ev.IRC_LINK_UP p) else s

/-- IRC_LINK_DOWN (R171, R186). -/
def execIrcLinkDown (p : Fin 4) (s : State) : Answer :=
  act s fun s =>
    if s.linked p then ((s.wr (F.IRC_STATUS_LINK_DOWN p) 1).raise (Ev.IRC_LINK_DOWN p)).portLost p 0 else s

/-- A quarantined port begins to retrain; QUAR_CLR clears (R184). -/
def State.endQuarantine (s : State) (p : Nat) : State :=
  if s.rd (F.IRC_STATUS_STATE p) = 4 then (s.wr (F.IRC_STATUS_STATE p) 1).wr (F.IRC_CTRL_QUAR_CLR p) 0
  else s.wr (F.IRC_CTRL_QUAR_CLR p) 0

/-- QUARANTINE_EXPIRY (R184). -/
def execQuarantineExpiry (p : Fin 4) (s : State) : Answer :=
  act s fun s =>
    if s.rd (F.IRC_STATUS_STATE p) = 4 && s.rd (F.IRC_QUAR_CFG_TIME p) != 0 then s.endQuarantine p else s

/-! ### GROUP_EN (R159, R174) -/

/-- This device leaves its group in an orderly way (R174). -/
def State.sendLeave (s : State) : State :=
  if s.groupPorts = [] then s else s.flood (.leave (Fin.ofNat 64 s.myId))

/-- GROUP_EN rises: the device is joining (R159). -/
def State.groupOn (s : State) : State := s.setRole 1

/-- Lines of another device's numbering that are held: a device that stands alone releases its own only (R159). -/
def State.dropForeign (s : State) : State :=
  s.setTb { s.tb with held := s.tb.held.filter fun h => h.created.isSome }

/-- GROUP_EN falls: the device stands alone, and LEAVE is sent, after the events (R159, R168, R174). -/
def State.groupOff (s : State) : State :=
  let s1 := s.setTb { s.tb with inEpoch := false, pendEpochs := [], follows := false, electors := [], electTime := 0,
                                electOld := false, heardKey := none, met := none, heardHops := [], heardLinks := [], electees := [] }
  let s2 := (((((s1.dropForeign.wr F.TB_STATUS_ELECTING 0).setAligned false).ownClock).markUpstream none).setRole 0).sendLeave
  forEach s2.groupPorts (fun p s => s.wr (F.IRC_STATUS_STATE p) 2) s2

end Sys2Proof.Machine
end

