-- ==== Sys2Proof/Machine/Power.lean ====
section
/-!
DEFINITION. Performance levels and the supply (R40, R353–R360), sector and HBM power states (R361–R367), device standby
but for the cut and the wake (R368–R370), the lehr (R372–R374), and the PLLs (R375–R381).
-/

namespace Sys2Proof.Machine

/-! ### Performance levels (R40, R353–R357) -/

/-- The nominal array supply of a level, mV (R353). -/
def nominalMv : Nat → Nat
  | 0 => 800 | 1 => 720 | 2 => 620 | _ => 560

/-- The target voltage of a level: the nominal supply less 5 mV for each step of its fused trim (R359). -/
def State.targetMv (s : State) (p : Nat) : Nat :=
  nominalMv p - 5 * slice (s.rd F.PWR_AVS_TRIM_TRIM) (4 * p + 3) (4 * p)

/-- The assist codes of a level: layer WLUD, layer NBL, DM WLUD, DM NBL (R40). -/
def assistCodes : Nat → Nat × Nat × Nat × Nat
  | 0 => (3, 0, 2, 0) | 1 => (2, 1, 1, 1) | 2 => (1, 2, 0, 2) | _ => (0, 3, 0, 3)

/-- PLL0 at a level: N, FRAC, DEN and the output divider (R353). -/
def pll0Setting (grade p : Nat) : Nat × Nat × Nat × Nat :=
  if grade = 1 && p = 0 then (56, 8, 25, 8)
  else (64, 0, 0, match p with | 0 => 8 | 1 => 10 | 2 => 16 | _ => 32)

/-- A PMBus transaction, as PWR_AVS_CFG sets it (R358). -/
def State.pmbus (s : State) (cmd data : Nat) : State :=
  s.emit (.pmbus (s.rd F.PWR_AVS_CFG_ADDR) (s.on F.PWR_AVS_CFG_PEC) (s.on F.PWR_AVS_CFG_SPEED) cmd data)

/-- Command a target over PMBus with one VOUT_COMMAND (R359). -/
def State.commandMv (s : State) (mv : Nat) : State :=
  (s.withPwr { s.pwr with target := mv }).pmbus 0x21 (Config.voutWord mv).toNat

/-- A PMBus error (R360). -/
def State.pmbusErr (s : State) : State :=
  ((s.bump F.PWR_PMBUS_ERR_CNT_COUNT).wr F.PWR_STAT_PMBUS_ERR 1).raise Ev.PWR_PMBUS_ERR

/-- Put the level change. -/
def State.setPerf (s : State) (c : Option PerfChange) : State := s.withPwr { s.pwr with perf := c }

/-- Every region is IDLE or FENCED (R356, R368). -/
def State.allQuiet (s : State) : Bool := (upTo 16).all fun n => s.run n == 0 || s.run n == 5

/-- Is the change one of PLL0's VCO, which only a part of speed grade 1 makes (R356)? -/
def relocks (old new : Nat) : Bool := Config.grade == 1 && (old == 0 || new == 0)

/-- SET_PERF_LEVEL (R354, R356). -/
def execSetPerfLevel (s : State) : Answer :=
  act s fun s =>
    match s.shortNext 0x20 with
    | none => s
    | some c =>
      let s1 := s.startShort c
      let p := c.byte 4
      let old := s1.rd F.PWR_STAT_PERF
      if c.paramBad then s1.endShort 2 0
      else if p = old then s1.endShort 0 old
      else if relocks old p && !s1.allQuiet then s1.endShort 3 0
      else
        let s2 := s1.wr F.PWR_STAT_PERF_BUSY 1
        if p < old then (s2.setPerf (some ⟨p, old, .raising, []⟩)).commandMv (s2.targetMv p)
        else s2.setPerf (some ⟨p, old, .window, []⟩)

/-- A level change completes: the level in force is its result (R354, R357). -/
def State.endPerf (s : State) (ok : Bool) : State :=
  let s1 := (s.setPerf none).wr F.PWR_STAT_PERF_BUSY 0
  let p := s1.rd F.PWR_STAT_PERF
  if ok then (s1.raise Ev.PWR_PERF_DONE).endShort 0 p
  else ((s1.wr F.PWR_STAT_PERF_ERR 1).raise Ev.PWR_PERF_FAIL).endShort 6 p

/-- The assist codes, the setting of PLL0 and PWR_STAT.PERF of a level (R40, R355). -/
def State.applyLevel (s : State) (p : Nat) : State :=
  let a := assistCodes p
  let k := pll0Setting Config.grade p
  let s1 := forEach (upTo 16) (fun c s =>
    s.setReg (0xa00010 + 0x10000 * (c % 16)) (BitVec.ofNat 32 (2 ^ 12 * a.1 + 2 ^ 8 * a.2.1 + 2 ^ 4 * a.2.2.1 + a.2.2.2))) s
  ((((s1.wr (F.CLK_PLL_CFG_N 0) k.1).wr (F.CLK_PLL_FRAC 0) k.2.1).wr (F.CLK_PLL_DEN 0) k.2.2.1).wr ⟨0x20110, 7, 0⟩
    k.2.2.2).wr F.PWR_STAT_PERF p

/-- The step clock restarts: held cycles are dispatched, and the change goes on (R354, R355). -/
def State.restartClock (s : State) (c : PerfChange) : State :=
  let raised := decide (c.target < c.old)
  let s1 := (s.setPerf (some { c with phase := .lowering })).drainCrossing
  let s2 := forEach (upTo 16) (fun n s =>
    match (s.gaf n).next with
    | some y => if (s.gaf n).phase = .none then s.dispatch n y else s
    | none => s) s1
  if raised then s2.endPerf true else s2.commandMv (s2.targetMv c.target)

/-- PERF_SWITCH_WINDOW: no region has a cycle or dispatch in progress (R355). -/
def execPerfSwitchWindow (s : State) : Answer :=
  act s fun s =>
    match s.pwr.perf with
    | none => s
    | some c =>
      if c.phase ≠ .window || !(upTo 16).all fun n => decide ((s.gaf n).phase = .none) then s
      else
        let s1 := s.applyLevel c.target
        if relocks c.old c.target then
          (s1.setPerf (some { c with phase := .relock })).wr F.CLK_STAT_LOCKED
            (setBitTo (s1.rd F.CLK_STAT_LOCKED) 0 false)
        else s1.restartClock c

/-- Is a reading within ±10 mV of the target (R359)? -/
def State.settled (s : State) (mv : Nat) : Bool := decide (mv ≤ s.pwr.target + 10) && decide (s.pwr.target ≤ mv + 10)

/-- The supply step of a level change fails (R357): a PMBus error, and the old target is commanded again; where the supply was
being lowered and that command fails too (`again`), it is a further error. -/
def State.supplyFails (s : State) (again : Bool) : State :=
  match s.pwr.perf with
  | none => s.pmbusErr
  | some c =>
    if c.phase = .raising || c.phase = .lowering then
      let s1 := s.pmbusErr.commandMv (s.targetMv c.old)
      (if again && decide (c.phase = .lowering) then s1.pmbusErr else s1).endPerf false
    else s.pmbusErr

/-- READ_VOUT gives a reading; within ±10 mV of the target the supply has settled (R354, R359). -/
def State.takeReading (s : State) (mv : Nat) : State :=
  let s1 := (s.pmbus 0x8b mv).wr F.PWR_VOUT_MV mv
  if !s1.settled mv then s1
  else
    match s1.pwr.perf with
    | none => s1
    | some c =>
      if c.phase = .raising then s1.setPerf (some { c with phase := .window })
      else if c.phase = .lowering then s1.endPerf true
      else s1

/-- SUPPLY_SETTLED: a READ_VOUT. DESIGN CHOICE (log entry 137): one that ends in a NACK or a PEC mismatch, a PMBus error of
R360, fails the supply step in progress. -/
def execSupplySettled (mv : Option (BitVec 16)) (s : State) : Answer :=
  act s fun s =>
    match mv with
    | some v => s.takeReading v.toNat
    | none => s.supplyFails false

/-- SUPPLY_SETTLE_TIMEOUT (R357, R360): the old target is commanded again, and the change fails. -/
def execSupplySettleTimeout (again : Bool) (s : State) : Answer :=
  act s fun s =>
    if s.settled (s.rd F.PWR_VOUT_MV) then s else s.supplyFails again

/-- PMB_ALERT: STATUS_WORD is read and CLEAR_FAULTS issued (R360). -/
def execPmbAlert (s : State) : Answer :=
  act s fun s => ((s.pmbus 0x79 0).pmbus 0x03 0).pmbusErr

/-! ### Power-down and wake of sectors and stacks (R361–R367) -/

/-- Does a drain read the gob-out sides of sector `c`: one that a COMMIT started, or of a DMA descriptor (R119, R261)? -/
def State.drainReads (s : State) (c : Nat) : Bool :=
  ((upTo 16).any fun n => (s.gaf n).drains.any fun d => d.tiles.any fun t => t / 8 == c) ||
  (upTo 16).any fun e => (s.eng e).descs.any fun d =>
    d.started && d.sspace == 3 && d.asked == 0 && d.ended.isNone && (gobTiles d.src).any fun t => t / 8 == c

/-- Has the domain answered every request it has admitted (R366)? -/
def State.drained (s : State) (d : Nat) : Bool :=
  if d < 16 then ((upTo 8).all fun k => s.rd (F.MPU_MP_STAT_TAGS_USED (8 * d + k)) == 0) && !s.drainReads d
  else (upTo 128).all fun t => (s.port t).reqs.all fun r => r.performed || stackOf r.addr != d - 16

/-- The domains that change with domain `d`, lowest first: of a sector, those of its region that stand where `p` says (R362). -/
def State.changing (s : State) (d : Nat) (p : Domain → Bool) : List Nat :=
  (if d < 16 then s.peers d else [d]).filter fun c => p (s.dom c)

/-- POWER_DOWN_DRAIN_END: the domain is isolated, a region's sectors together once all have drained (R362, R366). -/
def execPowerDownDrainEnd (d : Fin 18) (s : State) : Answer :=
  act s fun s =>
    let l := s.changing d fun x => x.down.isSome && !x.isolated
    if l.contains d.val && l.all fun c => s.drained c then
      forEach l (fun c s => s.setDom c { s.dom c with isolated := true }) s
    else s

/-- What a sector loses with its supply: DM and its tiles' buffers in S2 and S3, step words and route rows in S3 (R361).
What they held reads 0, as memory that nothing has written. The far-in areas go with the gob-in buffers (R92). -/
def State.loseSector (s : State) (c st : Nat) : State :=
  let s1 := if 2 ≤ st then
      (s.clearDm (9 * c * 2097152) (9 * (c + 1) * 2097152)).clearBuffers (8 * c) (8 * (c + 1))
    else s
  if st = 3 then forEach (upTo 9) (fun k s => s.clearLayers (9 * c + k) none) s1 else s1

/-- A sector is in its low state. -/
def State.gateSector (s : State) (c : Nat) : State :=
  match (s.dom c).down with
  | none => s
  | some st =>
    (((s.setDom c { s.dom c with down := none, isolated := false }).loseSector c st).wr (F.SEC_STATUS_PSTATE c) st).raise Ev.PWR_STATE

/-- A stack is in self-refresh; a request that came meanwhile begins its wake. -/
def State.gateStack (s : State) (d : Nat) : State :=
  let s1 := s.setDom d { s.dom d with down := none, isolated := false }
  let s2 := (s1.wr (F.HBM_STATUS_SELF_REFRESH (d - 16)) 1).raise Ev.PWR_STATE
  if (s2.dom d).wakeVote then s2.setDom d { s2.dom d with waking := true } else s2

/-- POWER_GATING_COMPLETE: the domain is in its low state, a region's sectors together; a cause to wake that came meanwhile
begins the wake (R362, R366, R367). -/
def execPowerGatingComplete (d : Fin 18) (s : State) : Answer :=
  act s fun s =>
    let l := s.changing d fun x => x.down.isSome && x.isolated
    if !l.contains d.val then s
    else if d.val < 16 then (forEach l (fun c s => s.gateSector c) s).evalSector d
    else s.gateStack d

/-- Reload sector `c` from its recorded sources at its wake from S3; with no source its layers stay cleared (R361), and so do those of a
region that cannot be loaded (R406). -/
def State.reloadSector (s : State) (c : Nat) (upset : Option Nat) : State × Option ImgFail :=
  match s.tileRegion (8 * c) with
  | none => (s, none)
  | some n =>
    if s.unloadable n then (s, none)
    else s.reloadTiles ((upTo 8).map fun k => 8 * c + k) (s.regionSources (some n) upset)

/-- A sector's reload fails a check (R105, R361). -/
def State.reloadFailed (s : State) (n c : Nat) (f : ImgFail) : State :=
  let s1 := ((s.loadErr f).raise Ev.CFG_LOAD_FAIL).fault2 n 20 (c + 2 ^ 4 * f.cause) 4
  if (s1.gaf n).waking.isSome then (s1.setGaf n { s1.gaf n with waking := none }).startFailed n else s1

/-- A gob-in write is answered FENCED: the DMA descriptor it belongs to ends with DOMAIN, and its bytes count as not written (R262). -/
def State.gobRefused (s : State) (w : GobWrite) : State :=
  match (match w with | .data _ _ x => x | .close _ x => x) with
  | none => s
  | some x =>
    match s.desc? x.eng x.slot with
    | none => s
    | some d => (s.putDesc x.eng { d with done := min d.done x.off }).endDesc x.eng d 4

/-- The gob-in writes that waited for sector `c` proceed, or are answered FENCED (R365, R393). -/
def State.gobsProceed (s : State) (c : Nat) : State :=
  forEach ((upTo 8).map fun k => 8 * c + k) (fun t s =>
    if s.fencedTile t then
      forEach (s.tile t).waiting (fun w s => s.gobRefused w) (s.setTile t { s.tile t with waiting := [] })
    else s.applyWaiting t) s

/-- The sector is in S0: what waited for it goes on. One that has lost DM makes a start of R44. -/
def State.sectorUp (s : State) (c : Nat) (lost : Bool) : State :=
  let s1 := (s.proceed c (if s.fencedTile (8 * c) then 3 else 0)).gobsProceed c
  ((match s1.tileRegion (8 * c) with
   | some n => (if lost then s1.wakeStart n else s1).goOn n
   | none => s1).evalSector c).tryEndWake

/-- The reload of a sector that was OFF, and what its failure does (R367). -/
def State.wakeReload (s : State) (c : Nat) (upset : Option Nat) : State :=
  let r := s.reloadSector c upset
  match r.2, s.tileRegion (8 * c) with
  | some f, some n => r.1.reloadFailed n c f
  | _, _ => r.1

/-- Sector `c` has woken (R44, R361). -/
def State.wakeSector (s : State) (c : Nat) (upset : Option Nat) : State :=
  let old := s.rd (F.SEC_STATUS_PSTATE c)
  let s1 := ((s.setDom c { s.dom c with waking := false }).wr (F.SEC_STATUS_PSTATE c) 0).raise Ev.PWR_STATE
  (if old = 3 then s1.wakeReload c upset else s1).sectorUp c (decide (2 ≤ old))

/-- SECTOR_WAKE_COMPLETE of sector `c` with those of its region that wake with it, in ascending order (R361, R362, R364); the reload
of `c` meets the upset. -/
def execSectorWakeComplete (c : Fin 16) (upset : Option (BitVec 31)) (s : State) : Answer :=
  act s fun s =>
    let l := s.changing c fun x => x.waking
    if !l.contains c.val then s
    else forEach l (fun k s => s.wakeSector k (if k = c.val then upset.map fun w => w.toNat else none)) s

/-- WAKE_HOLD_EXPIRY: the WAKE vote of a domain releases (R364). -/
def execWakeHoldExpiry (d : Fin 18) (s : State) : Answer :=
  act s fun s =>
    if !(s.dom d).wakeVote || (s.dom d).waking || !(s.dom d).held.isEmpty then s
    else
      let s1 := s.setDom d { s.dom d with wakeVote := false }
      if d.val < 16 then s1.evalSector d else s1

/-- Is a domain that its EN switches off: the pixel path, an Ethernet or Ircel port, the store (R363)? -/
def State.offByEn (s : State) (d : Nat) : Bool :=
  if d = 18 then ((upTo 4).all fun g => !s.on (F.GTH_CTRL_EN g)) && (upTo 16).all fun m => !s.on (F.MRV_CTRL_EN m)
  else if d ≤ 22 then !s.on (F.ETH_CTRL_EN (d - 19))
  else if d ≤ 26 then !s.on (F.IRC_CTRL_EN (d - 23))
  else !s.on F.STO_CTRL_EN

/-- The status with which a gateway answers a request at once, or none where the domain may take it (R141, R255, R363, R365). -/
def State.turnedAway (s : State) (d : Nat) (noWake : Bool) : Option Nat :=
  if 18 ≤ d then (if s.offByEn d then some 2 else none)
  else if d < 16 && s.fencedTile (8 * d) then some 3
  else if 16 ≤ d && s.stackDead (d - 16) then some 1
  else if noWake && s.mustWait d then some 2
  else none

/-- GATEWAY_REQUEST to a domain (R255, R363, R365): answered FENCED, by a stack whose training failed DATA_ERR (R141), or
DOMAIN_ASLEEP; held in its class's queue for a wake or a training; or it proceeds. -/
def execGatewayRequest (d : Fin 28) (cls : Fin 4) (head : BitVec 64) (s : State) : Answer :=
  act s fun s =>
    match s.turnedAway d (head.getLsbD 41) with
    | some status => s.emit (.resp (respHead head status))
    | none =>
      let s1 := if d.val < 18 then s.knock d else s
      if decide (d.val < 18) && s1.domWaits d then s1.setDom d { s1.dom d with held := (s1.dom d).held ++ [(cls.val, head)] }
      else s1.emit (.resp (respHead head 0))

/-- HBM_SELF_REFRESH_ENTRY: no request has reached stack `c` for HOLD µs (R363, R366). -/
def execHbmSelfRefreshEntry (c : Fin 2) (s : State) : Answer :=
  act s fun s =>
    let d := s.dom (16 + c)
    if bit (s.rd F.PWR_HBM_CFG_SR_EN) c && s.stackServes c && !d.wakeVote then
      s.setDom (16 + c) { d with down := some 1, isolated := false }
    else s

/-- HBM_SELF_REFRESH_EXIT: stack `c` has finished its wake, and the requests that waited proceed (R363). -/
def execHbmSelfRefreshExit (c : Fin 2) (s : State) : Answer :=
  act s fun s =>
    let d := s.dom (16 + c)
    if d.waking && s.on (F.HBM_STATUS_SELF_REFRESH c) then
      let s1 := (s.setDom (16 + c) { d with waking := false }).wr (F.HBM_STATUS_SELF_REFRESH c) 0
      ((s1.raise Ev.PWR_STATE).proceed (16 + c) 0).serveHeld
    else s

/-! ### The request for S4 and the wake sources (R368–R370) -/

/-- Leave the group for a standby: ports in GROUP send LEAVE, after the event of the role, and the device is joining (R168, R174,
R368). -/
def State.leaveGroup (s : State) : State :=
  if s.groupPorts = [] then s
  else
    ((s.setTb { s.tb with inEpoch := false, pendEpochs := [] }).setRole 1).sendLeave

/-- Steps 2 and 3 of an entry: LEAVE, and the capture of the save list (R368). -/
def State.s4Steps (s : State) : State :=
  let s1 := s.leaveGroup.captureSave
  s1.withPwr { s1.pwr with s4Left := true }

/-- S4_REQ was set: refused, or the entry begins (R368). A store that has commits finishes the one in progress first. The safe
state takes no request (R349, R398; DESIGN CHOICE, log entry 167). -/
def State.askS4 (s : State) : State :=
  if s.pwr.s4Entry then s
  else if s.safe then s.wr F.PWR_CTRL_S4_REQ 0
  else if !s.allQuiet then (s.wr F.PWR_CTRL_S4_REQ 0).wr F.PWR_STAT_S4_RESULT 3
  else if s.rd F.PWR_WAKE_EN_SRC = 0 then (s.wr F.PWR_CTRL_S4_REQ 0).wr F.PWR_STAT_S4_RESULT 4
  else
    let s1 := (s.withPwr { s.pwr with s4Entry := true, s4Left := false }).endStore
    if s1.sto.queue.isEmpty then s1.s4Steps else s1

/-- An entry is abandoned by a wake (R370): a device that has sent LEAVE rejoins. -/
def State.abandonS4 (s : State) : State :=
  let s1 := s.withPwr { s.pwr with s4Entry := false, s4Left := false }
  let s2 := ((s1.wr F.PWR_CTRL_S4_REQ 0).wr F.PWR_STAT_S4_RESULT 2).wr F.PWR_STAT_S4_ABORT 1
  let s3 := s2.raise Ev.PWR_S4_ABORT
  if s.pwr.s4Left then s3.askJoin else s3

/-- Wake source `b` of R369 fires, if it is enabled: 0 TIMER, 1 WAKE_N, 2 ENC, 3 PERST. -/
def State.fireWake (s : State) (b : Nat) : State :=
  if !bit (s.rd F.PWR_WAKE_EN_SRC) b then s
  else
    let s1 := s.wr F.PWR_WAKE_SRC_SRC (setBitTo (s.rd F.PWR_WAKE_SRC_SRC) b true)
    if s1.lehr.s4 then s1.withLehr { s1.lehr with waking := true }
    else if s1.pwr.s4Entry then s1.abandonS4
    else s1

/-- WAKE_N. -/
def execWakeN (s : State) : Answer := actLehr s fun s => s.fireWake 1

/-- ENC_WAKE: ENC_A and ENC_B have shown ENC_EDGES changes since the spine cut; 0 acts as 1 (R369, R380). -/
def execEncWake (s : State) : Answer :=
  actLehr s fun s => if s.lehr.s4 && decide (max 1 (s.rd F.PWR_WAKE_EN_ENC_EDGES) ≤ s.lehr.edges) then s.fireWake 2 else s

/-- PERST_WAKE. -/
def execPerstWake (s : State) : Answer := actLehr s fun s => s.fireWake 3

/-- TIMER_WAKE: PWR_LEHR_TIME has reached PWR_WAKE_AT. -/
def execTimerWake (s : State) : Answer :=
  actLehr s fun s => if s.rd64 0x10070 ≤ s.rd64 0x10068 then s.fireWake 0 else s

/-! ### The crystal, the save list (R372, R374) -/

/-- A change of ON_XTAL; its event needs the spine (R14). -/
def State.setXtal (s : State) (b : Bool) : State :=
  let s1 := (s.wr F.PWR_STAT_XTAL_OK (b2n b)).wr F.PWR_STAT_ON_XTAL (b2n b)
  if s1.spineOn then s1.raise Ev.PWR_XTAL else s1

/-- XTAL_GOOD (R372). -/
def execXtalGood (s : State) : Answer := actLehr s fun s => if s.on F.PWR_STAT_ON_XTAL then s else s.setXtal true

/-- XTAL_LOSS (R372). -/
def execXtalLoss (s : State) : Answer := actLehr s fun s => if s.on F.PWR_STAT_ON_XTAL then s.setXtal false else s

/-- A write of PWR_SAVE_OFS: the offset with VALID at 0, and IDX steps on (R374). -/
def State.saveOfs (s : State) (v : Nat) : State :=
  let i := s.rd F.PWR_SAVE_IDX_IDX
  let e := Tab.get (fun _ => (0, 0)) s.lehr.save i
  (s.withLehr { s.lehr with
      save := Tab.set (fun _ => (0, 0)) s.lehr.save i (slice v 25 2 * 4, e.2) }).wr F.PWR_SAVE_IDX_IDX (i + 1)

/-! ### PLLs (R375–R379) -/

/-- May PLL5 take its settings (R375)? In units of 10 kHz: 15,625 is the reference of 156.25 MHz. -/
def pllOk (n frac den : Nat) (ds : List Nat) : Bool :=
  let m := if den = 0 then 2 ^ 24 else den
  let v := 15625 * (n * m + frac)
  decide (800000 * m ≤ v) && decide (v ≤ 1600000 * m) && decide (frac < m) &&
    ds.all fun d => d != 0 && decide (v ≤ 60000 * d * m)

/-- The seven registers of PLL5 that an APPLY takes. -/
def pll5Offs : List Nat := [0x201a0, 0x201a4, 0x201a8, 0x201b0, 0x201b4, 0x201b8, 0x201bc]

/-- APPLY was set: PLL5 relocks with its new settings, its outputs low until then, or the request is refused (R375, R379). -/
def State.applyPll (s : State) : State :=
  let ds := (upTo 4).map fun j => slice (s.reg (0x201b0 + 4 * j)).toNat 7 0
  if pllOk (s.rd (F.CLK_PLL_CFG_N 5)) (s.rd (F.CLK_PLL_FRAC 5)) (s.rd (F.CLK_PLL_DEN 5)) ds then
    (s.withPwr { s.pwr with pll5 := pll5Offs.map fun o => s.reg o &&& 0x7fffffff, pll5At := none }).wr F.CLK_STAT_LOCKED
      (setBitTo (s.rd F.CLK_STAT_LOCKED) 5 false)
  else
    ((s.wr F.CLK_STAT_CFG_ERR (setBitTo (s.rd F.CLK_STAT_CFG_ERR) 5 true)).wr (F.CLK_PLL_CFG_APPLY 5) 0).raise
      Ev.CLK_CFG_ERR

/-- PLL5 has locked: after a reset or an APPLY its output dividers restart at the first tick whose TB_TIME is a multiple of 800, and
the lines it feeds count from there (R225, R378). -/
def State.pll5Locked (s : State) : State :=
  let s1 := s.wr (F.CLK_PLL_CFG_APPLY 5) 0
  if s1.pwr.pll5At.isSome then s1
  else
    (s1.withPwr { s1.pwr with pll5At := some (s1.real + ((s1.now + 799) / 800 * 800 - s1.now)), pll5Slip := 0 }).withFab
      s1.fab.restartCounts

/-- PLL_LOCK of PLL `k` (R356, R377). -/
def execPllLock (k : Fin 8) (s : State) : Answer :=
  act s fun s =>
    if bit (s.rd F.CLK_STAT_LOCKED) k then s
    else
      let s1 := (s.wr F.CLK_STAT_LOCKED (setBitTo (s.rd F.CLK_STAT_LOCKED) k true)).raise (Ev.CLK_LOCK k)
      if k.val = 5 then s1.pll5Locked
      else
        match s1.pwr.perf with
        | some c => if k.val = 0 && c.phase = .relock then s1.restartClock c else s1
        | none => s1

/-- A loss of lock of PLL0 fences every region that is ARMED, RUNNING or STALLED (R387, source 21). -/
def State.stepPllFault (s : State) : State :=
  let ns := (upTo 16).filter fun n => decide (2 ≤ s.run n) && decide (s.run n ≤ 4)
  if ns = [] then s.report 21 0 none else forEach ns (fun n s => s.fault2 n 21 0 4) s

/-- The record of a loss of lock (R387): an F1 for PLL1, PLL4 and PLL7, the fences of PLL0, an F3 for the others. -/
def State.pllFault (s : State) (k : Nat) : State :=
  if k = 1 || k = 4 || k = 7 then s.fault1 11 k false
  else if k = 0 then s.stepPllFault
  else s.report 27 k none

/-- The phase of PLL5 after a loss of lock is deterministic no more (R377): a free value. -/
def State.pllSlips (s : State) (k : Nat) : State :=
  if k = 5 then s.drawn.withPwr { s.pwr with pll5Slip := s.draw } else s

/-- PLL_UNLOCK of PLL `k` (R377). -/
def execPllUnlock (k : Fin 8) (s : State) : Answer :=
  act s fun s =>
    if !bit (s.rd F.CLK_STAT_LOCKED) k then s
    else
      let s1 := (s.wr F.CLK_STAT_LOCKED (setBitTo (s.rd F.CLK_STAT_LOCKED) k false)).wr F.CLK_STAT_UNLOCK
        (setBitTo (s.rd F.CLK_STAT_UNLOCK) k true)
      (((s1.pllSlips k).bump F.CLK_UNLOCK_CNT_COUNT).raise (Ev.CLK_UNLOCK k)).pllFault k

end Sys2Proof.Machine
end

