-- ==== Sys2Proof/Machine/Start.lean ====
section
/-!
DEFINITION. Full loads (R319–R323), starts and what they keep (R333–R349), release (R339–R342), confirmation (R350), the
safe state (R349), and the cut and wake of S4 (R368–R371, R443).
-/

namespace Sys2Proof.Machine

/-! ### Life-cycle state and identity as registers show them (R416, R417, R421, R422, R434) -/

/-- Decode the LC word: 0 BLANK, 1 TEST, 2 PRODUCTION, 3 END_OF_LIFE, 4 INVALID (R416). -/
def lcDecode (w : Nat) : Nat :=
  if w = 0 then 0 else if w = 2 ^ 16 - 1 then 1 else if w = 2 ^ 40 - 1 then 2 else if w = 2 ^ 64 - 1 then 3 else 4

/-- The scopes a state grants from reset (R417). -/
def lcScopes (st : Nat) : Nat := if st = 0 ∨ st = 1 ∨ st = 3 then 7 else 0

/-- The 96 bytes LCS_PUBKEY reports: zero in BLANK and END_OF_LIFE, or with no key. -/
def State.pubKey (s : State) (st : Nat) : List Byte :=
  match s.otp.key with
  | some k => if st = 0 ∨ st = 3 then [] else Config.generatedPubKey k
  | none => []

/-- The 32-bit words of a list of bytes, `n` of them. -/
def wordsOf (n : Nat) (bs : List Byte) : List Nat := (upTo n).map fun i => leNat ((bs.drop (4 * i)).take 4)

/-- The LCS registers follow the OTP fields and the grants (R416, R434). -/
def State.showLc (s : State) : State :=
  let st := lcDecode s.otp.lc
  let s1 := s.wr F.LCS_STATE st
  let s2 := s1.setWords 0x50004 [s.otp.lc, s.otp.lc / 2 ^ 32, s.otp.cfg % 8]
  let s3 := (s2.setWords 0x50020 ((upTo 12).map fun i => s.otp.owner / 2 ^ (32 * i))).setWords 0x50050
    ((upTo 12).map fun i => s.otp.debug / 2 ^ (32 * i))
  ((s3.setWords 0x50100 (wordsOf 24 (s.pubKey st))).wr F.LCS_STAT_LOCKOUT (b2n s.lehr.lockedAt.isSome)).wr
    F.LCS_DBG_SCOPE_SCOPES (if st = 4 then 0 else lcScopes st ||| s.lcs.granted)

/-- The steps of R421 that are not yet marked done: the private key; the slots, the parison area, the boot record and the
shutdown-record area; the retention RAM and HBM. The maps are kept. -/
def State.destroyAll (s : State) : State :=
  let s1 := if s.cstore.eol < 1 then s.withOtp { s.otp with destroyed := true } else s
  let s2 := if s.cstore.eol < 2 then
      s1.withCstore { s1.cstore with
        data := s1.cstore.data.filter fun e => decide (repairArea.base ≤ e.1) && decide (e.1 < shutArea.base)
        bad := s1.cstore.bad.filter fun e => decide (repairArea.base ≤ 8 * e.1) && decide (8 * e.1 < shutArea.base)
        slots := [], pars := [] }
    else s1
  let s3 := if s.cstore.eol < 3 then ((((s2.withLehr { s2.lehr with save := [] }).withHbm []).withHbmBad []).withHbmSoft []) else s2
  (s3.withCstore { s3.cstore with eol := 3 })

/-- The first start in TEST with an empty key field generates the key pair (R422). -/
def State.makeKey (s : State) : State :=
  if lcDecode s.otp.lc = 1 && s.otp.key.isNone && !s.otp.destroyed then
    (s.withOtp { s.otp with key := some s.free }).withFree (s.free + 1)
  else s

/-- The pattern of a state's LC word (R416). -/
def lcPattern (st : Nat) : Nat := if st = 1 then 2 ^ 16 - 1 else if st = 2 then 2 ^ 40 - 1 else if st = 3 then 2 ^ 64 - 1 else 0

/-- The bits of target `st` that the LC word lacks, lowest first. -/
def Otp.missing (o : Otp) (st : Nat) : List Nat :=
  (upTo 64).filter fun i => bit (lcPattern st) i && !bit o.lc i

/-- Does a transition to `st` program the owner fields (R419, step 2)? -/
def Otp.needsOwner (o : Otp) (st : Nat) : Bool := st == 2 && !bit o.cfg 0

/-- A number read from `n` registers upward. -/
def State.wordsAt (s : State) (off n : Nat) : Nat :=
  (upTo n).foldl (fun a i => a + (s.reg (off + 4 * i)).toNat * 2 ^ (32 * i)) 0

/-- The staged flags, in the places of LCS_CFG. -/
def State.stagedFlags (s : State) : Nat := s.rd ⟨0x50010, 2, 1⟩ * 2

/-- The OTP after the first `k` programming operations of a transition to `st`: 12 words of the owner digest, 12 of the
debug digest and the word of the flags with DIGESTS_COMMITTED where they are programmed, then the state bits (R419). -/
def State.programOtp (s : State) (st k : Nat) : Otp :=
  let o := s.otp
  let w := if o.needsOwner st then 25 else 0
  let o1 := if o.needsOwner st then
      { o with
        owner := o.owner ||| s.wordsAt 0x50080 12 % 2 ^ (32 * min k 12)
        debug := o.debug ||| s.wordsAt 0x500b0 12 % 2 ^ (32 * min (k - 12) 12)
        cfg := if 25 ≤ k then o.cfg ||| s.stagedFlags ||| 1 else o.cfg }
    else o
  { o1 with lc := ((o.missing st).take (k - w)).foldl (fun a i => a ||| 2 ^ i) o.lc }

/-- How many operations a transition to `st` programs. -/
def Otp.operations (o : Otp) (st : Nat) : Nat := (if o.needsOwner st then 25 else 0) + (o.missing st).length

/-- A reset or a power loss cuts a running transition after some of its operations (R419, R420): how many is not fixed, a
free value. -/
def State.cutTransition (s : State) : State :=
  match s.lcs.trans with
  | none => s
  | some st => s.drawn.withOtp (s.programOtp st (s.draw % (s.otp.operations st + 1)))

/-! ### What resets keep (R333, R443) -/

/-- The registers the lehr holds but for the three fields of PWR_STAT (R443). -/
def lehrRegs : List Nat :=
  [0x10060, 0x10064, 0x10068, 0x1006c, 0x10070, 0x10074, 0x10080, 0x10084, 0x30018, 0x3001c, 0x30020, 0x30024, 0x30088]

/-- Everything at its reset value but what needs no power: the configuration store, NAND, OTP; and the model's own
fields. -/
def State.unpowered (s : State) : State :=
  let c := s.cutTransition
  { State.reset with
    pending := s.pending, cstore := s.cstore, nand := s.nand, otp := c.otp, free := c.free, out := s.out }

/-- Put the registers of a list as another state holds them. -/
def State.keepRegs (s : State) (old : State) (l : List Nat) : State := forEach l (fun o s => s.setReg o (old.reg o)) s

/-- What is left when the spine-held state is reset and the lehr runs on (R368, R443). The number of the last fault
occurrence counts from the last cold start (R390). -/
def State.lehrKept (s : State) : State :=
  let s1 := ((s.unpowered.withLehr s.lehr).withFlt { s.unpowered.flt with seq := s.flt.seq, netLow := s.flt.netLow })
  (s1.keepRegs s lehrRegs).setReg 0x10004 (s.reg 0x10004 &&& 0xf8000000)

/-- Commands that were running complete ABORTED (R281, R396). -/
def State.abortRunning (s : State) (old : State) : State :=
  forEach (old.mbx.longRun.toList ++ old.mbx.shortRun.toList) (fun c s => s.complete c 8 0) s

/-- A device reset with the supplies held (R333, R346): layers, route memories, HBM, the lehr and the PCIe link are kept, and
what the skipped tests found; the cells of the punty port are no part of the reset. -/
def State.warmReset (s : State) : State :=
  let s1 := s.lehrKept
  let s2 := (((((((((s1.withSteps s.steps).withRoutes s.routes).withHbm s.hbm).withHbmBad s.hbmBad).withHbmSoft s.hbmSoft).withPcie s.pcie).withBar4 s.bar4).withJtag s.jtag).withBst { s1.bst with patterns := s.bst.patterns, sensorsOut := s.bst.sensorsOut })
  (s2.keepRegs s [0xf00000]).abortRunning s

/-! ### The boot record (R308, R341, R342) -/

/-- The boot record is read: CFG_IO_PULL, the scrub enables, the START settings and TB_ENC_CFG are loaded from it (R308,
R334, R341, R342). -/
def State.readBoot (s : State) : State :=
  let b := s.cstore.record bootArea
  let s1 := s.withStart { s.start with boot := b }
  if b = [] then s1
  else
    let f := fieldAt b 24 4
    let s2 := (((s1.wr F.CFG_IO_PULL_PULL (fieldAt b 20 3)).wr F.CFG_SCRUB_CTRL_EN f).wr F.CFG_SCRUB_CTRL_WIN_EN (f / 2)).wr
      F.CFG_SCRUB_CTRL_AUTO_RELOAD (f / 4)
    let s3 := (((s2.wr F.SYS_REL_CFG_ORDER (fieldAt b 64 1)).wr F.SYS_REL_CFG_PLL_MASK (fieldAt b 65 1)).wr
      F.SYS_REL_CFG_PLL_TIMEOUT (fieldAt b 70 1)).setReg 0x10c (BitVec.ofNat 32 (fieldAt b 66 4))
    let s4 := (s3.wr F.SYS_START_CTRL_AUTO_CONFIRM (fieldAt b 71 1)).wr F.SYS_START_CTRL_CONFIRM_MS (fieldAt b 72 2)
    let s5 := forEach (upTo 4) (fun p s => s.wr (F.IRC_CTRL_EN p) (fieldAt b 74 1 / 2 ^ p)) s4
    ((s5.setReg 0x80028 (BitVec.ofNat 32 (fieldAt b 84 4))).setReg 0x8002c (BitVec.ofNat 32 (fieldAt b 88 2))).loadReg
      0x80008 (fieldAt b 92 4) 0xffffffff

/-! ### Choosing and beginning a full load (R321, R322, R348) -/

/-- A full load begins: every region enters LOADING, and every sector is held awake (R321, R364). -/
def State.beginLoad (s : State) (l : Load) : State :=
  let s1 := forEach (upTo 16) (fun n s => s.setLoading n) s
  let s2 := ((s1.setLdr { s1.ldr with load := some l, hostWait := false }).showBusy).useSectors (upTo 16)
  if l.start then s2.wr F.SYS_START_STAT_PHASE 3 else s2

/-- A load from slot `k` at a start. -/
def State.loadSlot (s : State) (k : Nat) (warm : Bool) : State :=
  s.beginLoad ⟨0, k, 0, (s.slotDesc k).length, true, warm⟩

/-- A golden start: GOLDEN_PENDING is set before slot 0 is loaded (R348). DESIGN CHOICE (log entry 160): LAST_CAUSE is written with
it as the cause that the next start would record. -/
def State.loadGolden (s : State) (cause : Nat) : State :=
  let s1 := (s.setAttempt { s.attempt with golden := true, cause := cause }).wr F.SYS_START_STAT_GOLDEN_START 1
  (s1.setLdr { s1.ldr with golden := true }).loadSlot 0 false

/-- The device waits for the host's LOAD_IMAGE (R322). -/
def State.waitHost (s : State) : State :=
  (s.setLdr { s.ldr with load := none, hostWait := true }).showBusy.wr F.SYS_START_STAT_PHASE 3

/-- The source that the boot record names; an absent record reads serial flash, and END_OF_LIFE takes no slot (R308, R322,
R417). -/
def State.loadByBoot (s : State) : State :=
  let b := s.start.boot
  let src := if b = [] then 2 else fieldAt b 8 1
  let p := fieldAt b 9 1
  if src = 1 then s.waitHost
  else if src = 2 || s.lcState == 3 then s.beginLoad ⟨2, 0, fieldAt b 12 4, 0, true, false⟩
  else s.loadSlot (if p < 5 then p else 0) false

/-- MBX_STAT.READY: the core accepts commands (R279). -/
def State.openMailbox (s : State) : State := (s.wr F.PCI_MBX_STAT_READY 1).takeQueue 64

/-- Region `n` is IDLE with nothing under way. -/
def State.idleNow (s : State) (n cause : Nat) : State := if s.run n = 0 then s else s.halted n 0 cause

/-- A partition is held with nothing kept on its pins (R337, R338, R349). -/
def State.offPart (s : State) (k : Nat) : State := (((s.setReleased k false).setIsolated k false).dropStrobes k).holdPart k

/-- The pixel path is off: no bank receives, no unit is active. -/
def State.pixelsOff (s : State) : State :=
  let s1 := forEach (upTo 4) (fun g s =>
    (((s.wr (F.GTH_CTRL_EN g) 0).wr (F.GTH_CTRL_TRAIN g) 0).wr (F.GTH_STATUS_TRAIN_BUSY g) 0).wr (F.GTH_LANE_LOCK_LOCK g) 0) s
  forEach (upTo 16) (fun m s => ((s.wr (F.MRV_CTRL_EN m) 0).wr (F.MRV_STATUS_ACTIVE m) 0).setMu m Marver.init) s1

/-- Ethernet, Ircel and the replay store are off; with GROUP_EN at 1 a device of no epoch is joining (R159). -/
def State.portsOff (s : State) : State :=
  let s1 := forEach (upTo 4) (fun e s => (s.wr (F.ETH_CTRL_EN e) 0).wr (F.ETH_STAT_LINK e) 0) s
  let s2 := forEach (upTo 4) (fun p s => (s.wr (F.IRC_CTRL_EN p) 0).wr (F.IRC_STATUS_STATE p) 0) s1
  let s3 := (s2.setTb { s2.tb with inEpoch := false, pendEpochs := [] }).setRole (b2n (s2.on F.TB_CTRL_GROUP_EN))
  (s3.setCommits []).unmount.wr F.STO_CTRL_EN 0

/-- The safe state (R337, R349, R398): no mailbox, every region IDLE, every partition unreleased, every pin as R337 gives. -/
def State.enterSafe (s : State) : State :=
  let s1 := s.setLdr { Loader.init with full := s.ldr.full, wins := s.ldr.wins, parts := s.ldr.parts }
  let s2 := forEach (upTo 16) (fun n s =>
    (s.wr F.FLT_STAT_FENCED (setBitTo (s.rd F.FLT_STAT_FENCED) n false)).idleNow n 6) s1.showBusy
  let s3 := forEach (upTo 8) (fun k s => s.offPart k) s2
  let s4 := ((s3.withFab { s3.fab with releasing := none, draining := [], pinHeld := [] }).withMbx ⟨[], [], [], none, none⟩)
  ((((s4.useSectors []).wr F.PCI_MBX_STAT_READY 0).wr F.SYS_START_STAT_PHASE 7).serveDm.raise Ev.SYS_SAFE).pixelsOff.portsOff

/-- The marks of an F0 fault (R398). -/
def State.markF0 (s : State) (r : FaultRec) : State := (s.recordFault r).wr F.FLT_STAT_F0 1

/-- A start enters the safe state with a cause (R348, R349): source 0, and ATTEMPTS written as 3. -/
def State.safeStart (s : State) (cause : Nat) : State :=
  ((s.markF0 ⟨0, 0, cause, none, false⟩).setAttempt ⟨3, false, cause⟩).enterSafe

/-- The cause of the last failed start as the record tells it (R348, R351): an unconfirmed start whose record names no failure of its
own ended before confirmation. -/
def Attempt.lastCause (a : Attempt) : Nat := if a.attempts = 0 || a.golden || 3 ≤ a.attempts then a.cause else 3

/-- Every start reads the start-attempt record, writes it back and chooses its image by it (R348); `usual` is the choice of
a start that is not golden. -/
def State.chooseImage (s : State) (usual : State → State) : State :=
  let a := s.attempt
  let s1 := s.setAttempt ⟨min 255 (a.attempts + 1), a.golden, a.lastCause⟩
  let s2 := (s1.wr F.SYS_START_STAT_ATTEMPTS (min 15 a.attempts)).wr F.SYS_START_STAT_CAUSE a.lastCause
  if a.golden then s2.safeStart a.lastCause
  else if 3 ≤ a.attempts || s2.lcState = 4 then s2.openMailbox.loadGolden 3
  else usual s2.openMailbox

/-- What every start does first: the core runs, the maps are applied, the records of the store are shown, the P0 target is
commanded, the encoder counts, and the boot record is read (R334, R359, R408, R416). -/
def State.startCore (s : State) : State :=
  let s1 := s.makeKey.readMaps
  let s2 := (if lcDecode s1.otp.lc = 3 then s1.destroyAll else s1).showLc.applyMaps.showStore
  let s3 := (s2.pmbus 0x20 0).commandMv (s2.targetMv 0)
  ((s3.wr F.TB_CTRL_ENC_EN 1).wr F.SYS_START_STAT_PHASE 1).readBoot

/-! ### COLD_START, WARM_START, POWER_LOSS, F1_RESET_ASSERT (R334, R343–R347, R396, R448) -/

/-- Is the shutdown record clean (R344)? -/
def State.cleanRecord (s : State) : Bool :=
  match s.shutRec with
  | some r => r.clean && r.culletGen == s.cstore.culletGen
  | none => false

/-- The self-test of a cold start: the analogue checks (structures from 9 up) always, the memory test unless the shutdown
record is clean; a clean record serves one start only (R334, R344, R402, R403). -/
def State.coldTest (s : State) (found : List Found) : State :=
  match s.shutRec with
  | some r =>
    if s.cleanRecord then
      let s1 := (s.takeTest (found.filter fun x => decide (9 ≤ wStruct x.word.toNat))).setShutRec { r with clean := false }
      let s2 := (s1.wr F.SYS_START_STAT_BIST_SKIPPED 1).wr F.SYS_START_STAT_KIND 1
      s2.setLdr { s2.ldr with snapshot := true, restore := true }
    else (s.patternAll).takeTest found
  | none => (s.patternAll).takeTest found

/-- COLD_START: power-on, whatever went before (R333, R334). -/
def execColdStart (found : List Found) (s : State) : Answer :=
  .next (s.endClock (((s.unpowered.startCore.wr F.SYS_START_STAT_PHASE 2).coldTest found).chooseImage State.loadByBoot))

/-- POWER_LOSS: a fall of VDD_LEHR (R448); nothing runs until the next cold start. -/
def execPowerLoss (s : State) : Answer :=
  .next (s.endClock ((s.unpowered.withNand (if s.sto.queue.isEmpty then s.nand else { s.nand with next := 0 })).withSpineOn false))

/-- Set VERIFY_BUSY in every assigned sector (R53, R347). -/
def State.verifyAssigned (s : State) : State :=
  forEach ((upTo 16).filter fun c => s.on (F.SEC_CTRL_ASSIGNED c)) (fun c s => s.wr (F.SEC_STATUS_VERIFY_BUSY c) 1) s

/-- The REGS section of a slot's image, as a warm start reads it first (R347). -/
def State.readRegs (s : State) (k : Nat) : State :=
  let g := s.slotSrc k none
  match s.headerFault g true false with
  | some _ => s
  | none => (s.loadImage g (.only fun f => f.typ == 4)).st

/-- The image of a warm start: the slot that the lehr recorded, while it is VALID; otherwise as a cold start (R347). -/
def State.loadWarm (s : State) : State :=
  let k := s.lehr.slot.2
  if s.lehr.slot.1 = 0 && (s.slotDesc k).state = 2 then
    let s1 := ((s.wr F.CFG_STAT_SOURCE 0).wr F.CFG_STAT_SLOT k).readRegs k
    (s1.loadSlot k true).verifyAssigned.evalVotes
  else s.loadByBoot

/-- A warm start from the end of its reset (R346, R347). -/
def State.goWarm (s : State) : State :=
  let s1 := s.withStart { s.start with inReset := false }
  let s2 := (s1.startCore.wr F.SYS_START_STAT_KIND 2).wr F.SYS_START_STAT_BIST_SKIPPED 1
  (s2.setLdr { s2.ldr with restore := true }).chooseImage State.loadWarm

/-- WARM_START: RESET_N captures the save list and resets the device first; after an F1 fault the reset is asserted already
(R333, R346, R374). Nothing but a power cycle leaves the safe state (R398). -/
def execWarmStart (s : State) : Answer :=
  .next (s.endClock (if !s.spineOn || s.safe then s
    else if s.start.inReset then s.goWarm
    else s.captureSave.warmReset.goWarm))

/-- F1_RESET_ASSERT: the save list is captured, and the device reset that an F1 fault orders is asserted (R396); the pin stays low
until the release (R399). -/
def execF1ResetAssert (s : State) : Answer :=
  act s fun s =>
    if s.flt.f1 && !s.safe then
      let s1 := s.captureSave.warmReset
      (s1.withStart { s1.start with inReset := true, f1 := true }).wr F.FLT_STAT_PIN_LEVEL 0
    else s

/-! ### The end of a full load (R319–R323, R345, R406) -/

/-- A start fails with a cause (R339, R348, R351): it falls back to slot 0, or, golden already, enters the safe state. -/
def State.startFails (s : State) (cause : Nat) : State :=
  if s.ldr.golden then s.safeStart (if cause = 1 then 4 else cause)
  else ((s.wr F.CFG_STAT_GOLDEN 1).raise Ev.CFG_FALLBACK).loadGolden cause

/-- Does the long lane run LOAD_IMAGE? -/
def State.runsLoad (s : State) : Bool :=
  match s.mbx.longRun with
  | some c => c.byte 0 == 1
  | none => false

/-- LOAD_IMAGE completes, where it runs. -/
def State.endLoadCmd (s : State) (status result : Nat) : State := if s.runsLoad then s.endLong status result else s

/-- The load of every region that is LOADING fails: it is IDLE with CAUSE 6 (R105). -/
def State.loadsFail (s : State) : State :=
  forEach (upTo 16) (fun n s => if s.run n = 1 then s.halted n 0 6 else s) s

/-- A full load fails (R105, R321). -/
def State.failLoad (s : State) (l : Load) (f : ImgFail) : State :=
  let s1 := ((s.setLdr { s.ldr with load := none }).showBusy.loadErr f).raise Ev.CFG_LOAD_FAIL
  let s2 := (s1.endLoadCmd 6 (f.cause + 2 ^ 32 * f.frame)).loadsFail
  if l.start then s2.startFails 1 else s2.useSectors []

/-- The frames a full load reads and writes: none of step words and route rows of a sector that a warm start has verified
(R347), and none written to a region that cannot be loaded (R406). -/
def fullPick (warm : Bool) (skip : Nat) : Pick :=
  { read := fun _ f => !(warm && (f.typ == 1 || f.typ == 2) && bit skip (slice f.target 6 0 / 8))
    keep := fun s f => !((f.typ == 1 || f.typ == 2) &&
      (match s.tileRegion (slice f.target 6 0) with
       | some n => s.unloadable n
       | none => s.on (F.SEC_STATUS_UNUSABLE (slice f.target 6 0 / 8))))
    digest := fun t => !(warm && skip != 0 && (t == 1 || t == 2)) }

/-- The sectors that a warm start's verify pass found good (R347). -/
def State.verified (s : State) : Nat :=
  (upTo 16).foldl (fun a c => a + 2 ^ c * b2n (s.on (F.SEC_CTRL_ASSIGNED c) && s.on (F.SEC_STATUS_VERIFY_OK c))) 0

/-! ### LOAD_IMAGE (R321, R322) -/

/-- LOAD_IMAGE: the load of a start that waits for the host, or a load after release. -/
def execLoadImage (s : State) : Answer :=
  act s fun s =>
    match s.longNext 0x01 with
    | none => s
    | some c =>
      let s1 := s.startLong c
      let host := c.byte 4 == 1
      if c.paramBad then s1.endLong 2 0
      else if s1.lcState = 4 || (s1.lcState = 3 && !host) then s1.endLong 5 0
      else
        let l : Load := ⟨c.byte 4, c.byte 5, c.num 8 8, c.num 16 4, s1.ldr.hostWait, false⟩
        if s1.ldr.hostWait then s1.beginLoad l
        else if s1.loaderBusy || s1.fab.releasing.isSome then s1.endLong 4 0
        else if !((upTo 16).all fun n => (s1.sectors n).isEmpty || s1.run n == 0 || s1.run n == 5) then s1.endLong 3 0
        else s1.beginLoad l

/-! ### What a release ends, and confirmation (R350, R371, R396) -/

/-- The end of an F1 containment (R396). -/
def State.endF1 (s : State) : State :=
  if !s.start.f1 then s
  else
    let p := s.lehr.prev.getD (0, 0, 0)
    let s1 := s.setWords 0x30018 [p.1, p.2.1, p.2.2, p.2.2 / 2 ^ 32]
    let s2 := ((s1.wr F.FLT_STAT_F1_PREV 1).bump F.FLT_F1_CNT_COUNT).raise Ev.FLT_F1_PREV
    (s2.withStart { s2.start with f1 := false }).wr F.FLT_STAT_PIN_LEVEL (b2n (!s2.flt.pulses && !s2.flt.f1 && !s2.flt.netLow))

/-- The start is confirmed (R350). LAST_CAUSE is again that of the last failed start (log entry 160). -/
def State.doConfirm (s : State) : State :=
  let s0 := s.withStart { s.start with confirmed := some (s.real, s.attempt) }
  let s1 := s0.setAttempt ⟨0, false, s.rd F.SYS_START_STAT_CAUSE⟩
  ((s1.wr F.SYS_START_CTRL_CONFIRM 0).wr F.SYS_START_STAT_PHASE 6).raise Ev.SYS_CONFIRMED

/-- CONFIRM is set: before release it is held; after it, it acts; from the clock of an F1 fault on it is lost (R350). -/
def State.askConfirm (s : State) : State :=
  if s.flt.f1 then s.wr F.SYS_START_CTRL_CONFIRM 0
  else if s.rd F.SYS_START_STAT_PHASE = 5 then s.doConfirm
  else if s.rd F.SYS_START_STAT_PHASE = 6 then s.wr F.SYS_START_CTRL_CONFIRM 0
  else s

/-- Is the start inspecting (R335): the image released, every assigned region ARMED or running, the timebase releasing lines,
and every enabled bank TRAINED? -/
def State.inspecting (s : State) : Bool :=
  (s.rd F.SYS_START_STAT_PHASE == 5 || s.rd F.SYS_START_STAT_PHASE == 6) &&
    ((upTo 16).all fun n => (s.sectors n).isEmpty || (decide (2 ≤ s.run n) && decide (s.run n ≤ 4))) &&
    s.tb.armed && s.on F.TB_CTRL_TRIG_EN && s.role != 1 &&
    (upTo 4).all fun g => !s.on (F.GTH_CTRL_EN g) || s.on (F.GTH_STATUS_TRAINED g)

/-- AUTO_CONFIRM: CONFIRM_MS have passed after release without a device reset (R350). -/
def execAutoConfirm (s : State) : Answer :=
  act s fun s =>
    if s.on F.SYS_START_CTRL_AUTO_CONFIRM && s.rd F.SYS_START_STAT_PHASE == 5 && !s.flt.f1 then s.doConfirm else s

/-! ### The cut, the wake and power-good (R232, R368–R371, R449) -/

/-- SEQ_EN (R449): high while the lehr is powered, low from the spine cut to the wake. -/
def State.seqEn (s : State) : Bool := s.lehrOn && (s.spineOn || s.lehr.waking)

/-- SPINE_CUT: the lehr removes power from every other domain, once the store has finished and the steps after it are made (R368). -/
def execSpineCut (s : State) : Answer :=
  act s fun s =>
    if s.pwr.s4Entry && s.sto.queue.isEmpty && !s.safe then
      let s1 := (if s.pwr.s4Left then s else s.s4Steps).lehrKept
      ((s1.withLehr { s1.lehr with
          s4 := true, waking := false, railsOff := false, encA := s.tb.pinA, encB := s.tb.pinB, edges := 0 }).withSpineOn false)
    else s

/-- The spine powered at a wake from S4: the link comes up and the loader starts with the lehr's saves to restore (R371). -/
def State.wakeSpine (s : State) : State :=
  let s1 := s.lehrKept
  let s2 := (((s1.withLehr { s1.lehr with s4 := false, waking := false }).withPcie { s1.pcie with perst := false }).withStart { s1.start with wake := true })
  let s3 := s2.startCore
  (s3.setLdr { s3.ldr with restore := true }).openMailbox

/-- S4_WAKE: a latched wake powers the spine, and the recorded slot is loaded (R371). Where the lehr holds no slot, the
boot record chooses. -/
def execS4Wake (s : State) : Answer :=
  if s.spineOn || !s.lehr.s4 || !s.lehr.waking || s.lehr.railsOff then .next s
  else
    let s1 := s.wakeSpine
    .next (s.endClock (if s1.lehr.slot.1 = 0 then s1.loadSlot s1.lehr.slot.2 false else s1.loadByBoot))

/-- SEQ_PG_RISE: the board's rails are good again (R449). -/
def execSeqPgRise (s : State) : Answer :=
  actLehr s fun s =>
    (s.withLehr { s.lehr with railsOff := false }).withFab { s.fab with supplyLost := false }

/-- SUPPLY_POWER_GOOD_LOSS: a core or spine supply falls below power-good while VDD_LEHR stays: every pin is
high-impedance (R232). In S4 it is the board removing the rails (R449). -/
def execSupplyPowerGoodLoss (s : State) : Answer :=
  actLehr s fun s =>
    if s.lehr.s4 then s.withLehr { s.lehr with railsOff := true }
    else s.withFab { s.fab with supplyLost := true }

end Sys2Proof.Machine
end

