-- ==== Sys2Proof/Machine/Lifecycle.lean ====
section
/-!
DEFINITION. Life-cycle transitions (R416–R421), identity, attestation and SPDM (R422–R425), debug authorisation
(R426–R429), and the punty port but for DBG_MEM (R430–R432).
-/

namespace Sys2Proof.Machine

/-! ### Buffers of commands in HBM -/

/-- The stacks that a buffer touches and that sleep: a command that names it waits for their wake (R363). -/
def State.bufferSleeps (s : State) (a n : Nat) : List Nat :=
  (stacksTouched a n).filter fun c => s.on (F.HBM_STATUS_TRAINED c) && s.mustWait (16 + c)

/-- Wake the stacks of a buffer. -/
def State.wakeBuffer (s : State) (a n : Nat) : State := forEach (s.bufferSleeps a n) (fun c s => s.knock (16 + c)) s

/-- Is a stack of the buffer not trained (R432)? -/
def State.bufferDead (s : State) (a n : Nat) : Bool := (stacksTouched a n).any fun c => !s.on (F.HBM_STATUS_TRAINED c)

/-! ### Debug authorisation (R426–R429) -/

/-- Every granted scope ends; an end of grant raises LCS_SCOPE_END (R429). -/
def State.revoke (s : State) : State :=
  if s.lcs.granted = 0 then s
  else ((s.withLcs { s.lcs with granted := 0, ends := none }).showLc).raise Ev.LCS_SCOPE_END

/-- The DEBUG_AUTH that the short lane would start next, where its phase is one of those named. -/
def State.authNext (s : State) (phase : Nat → Bool) : Option MbxCmd :=
  match s.shortNext 0x41 with
  | some c => if phase (c.byte 4) then some c else none
  | none => none

/-- What a DEBUG_AUTH whose parameters are right meets before its phase acts: BUSY during a transition, DENIED in INVALID, OK
without a change in BLANK, TEST and END_OF_LIFE (R417, R420, R427). -/
def State.authGate (s : State) : Option Nat :=
  if s.on F.LCS_STATE_TRANS_BUSY then some 4
  else if s.lcState = 4 then some 5
  else if s.lcState ≠ 2 then some 0
  else none

/-- Are the parameters of a DEBUG_AUTH right: a phase the table lists, and a buffer of `n` bytes in HBM? -/
def MbxCmd.authOk (c : MbxCmd) (n : Nat) : Bool :=
  !c.paramBad && inHbm (c.num 8 8) n

/-- A DEBUG_AUTH completes with the scopes in force as its result. -/
def State.endAuth (s : State) (status : Nat) : State := s.endShort status (if status = 0 then s.scopes else 0)

/-- A fresh challenge: nonce, serial, LC word and 16 zero bytes (R427). -/
def State.newChallenge (s : State) : List Byte :=
  fit 32 (Config.random 32 s.free) ++ leBytes 8 (s.rd64 4) ++ leBytes 8 s.otp.lc ++ List.replicate 16 0

/-- DEBUG_AUTH phase 0, CHALLENGE; a phase that the table does not list completes BAD_PARAM (R427, R428). -/
def execDebugAuthChallenge (s : State) : Answer :=
  act s fun s =>
    match s.authNext fun p => p != 1 && p != 2 with
    | none => s
    | some c =>
      let a := c.num 8 8
      if c.authOk 64 && s.authGate.isNone && !(s.bufferSleeps a 64).isEmpty then s.wakeBuffer a 64
      else
        let s1 := s.startShort c
        if !c.authOk 64 then s1.endAuth 2
        else
          match s1.authGate with
          | some code => s1.endAuth code
          | none =>
            if s1.on F.LCS_STAT_LOCKOUT then s1.endAuth 5
            else if s1.bufferDead a 64 then s1.endAuth 6
            else
              let bs := s1.newChallenge
              (((s1.drawn.withLcs { s1.lcs with challenge := some bs })).hbmWrite a bs).endAuth 0

/-- The key of a response is known (R427): the owner's debug key, or Graizel's where LCS_CFG allows it. -/
def State.keyKnown (s : State) (r : List Byte) : Bool :=
  let d := leNat (Config.sha384 ((r.drop 16).take 97))
  (fieldAt r 4 1 == 0 && s.otp.debug != 0 && d == s.otp.debug) ||
    (fieldAt r 4 1 == 1 && bit s.otp.cfg 2 && d == leNat Config.vendorDigest)

/-- Is a response granted (R427)? Its reserved bytes are 0. -/
def State.responseOk (s : State) (r : List Byte) : Bool :=
  match s.lcs.challenge with
  | none => false
  | some ch =>
    fieldAt r 0 4 == 0x48554144 && fieldAt r 5 3 == 0 && fieldAt r 113 7 == 0 && s.keyKnown r && decide (fieldAt r 8 4 < 16) &&
      Config.ecdsaVerify ((r.drop 16).take 97) (ch ++ r.take 16) ((r.drop 120).take 96)

/-- The earlier of two ends of grant, where both are given (R429). -/
def earlier : Option Nat → Option Nat → Option Nat
  | none, b => b
  | a, none => a
  | some a, some b => some (min a b)

/-- A grant of the scopes a response asks for, which clears the count of failures (R427–R429). -/
def State.grant (s : State) (r : List Byte) : State :=
  let v := fieldAt r 12 4
  let e := if v = 0 then none else some (s.rd64 0x10068 + 32768 * v)
  let s1 := ((s.withLcs { s.lcs with granted := s.lcs.granted ||| fieldAt r 8 4, ends := earlier s.lcs.ends e }).withLehr { s.lehr with authFails := 0 })
  s1.showLc.raise Ev.LCS_AUTH_GRANT

/-- A response fails; at the fourth failure in a row challenges are refused (R427, R428). -/
def State.authFail (s : State) : State :=
  let n := s.lehr.authFails + 1
  let s1 := (s.withLehr { s.lehr with
    authFails := n, lockedAt := if n = 4 then some (s.rd64 0x10068) else s.lehr.lockedAt })
  ((((if n = 4 then s1.wr F.LCS_STAT_LOCKOUT 1 else s1).bump F.LCS_AUTH_FAIL_CNT_COUNT).wr F.LCS_STAT_AUTH_FAIL 1).raise
    Ev.LCS_AUTH_FAIL)

/-- DEBUG_AUTH phase 1, RESPONSE: each challenge can be answered once (R427). -/
def execDebugAuthResponse (s : State) : Answer :=
  act s fun s =>
    match s.authNext fun p => p == 1 with
    | none => s
    | some c =>
      let a := c.num 8 8
      if c.authOk 216 && s.authGate.isNone && !(s.bufferSleeps a 216).isEmpty then s.wakeBuffer a 216
      else
        let s1 := s.startShort c
        if !c.authOk 216 then s1.endAuth 2
        else
          match s1.authGate with
          | some code => s1.endAuth code
          | none =>
            if s1.bufferDead a 216 then s1.endAuth 6
            else
              let x := s1.hbmRead a 216
              if x.2.1 then x.1.endAuth 6
              else
                let ok := x.1.responseOk x.2.2
                let s2 := x.1.withLcs { x.1.lcs with challenge := none }
                if ok then (s2.grant x.2.2).endAuth 0 else s2.authFail.endAuth 5

/-- DEBUG_AUTH phase 2, RELEASE (R427). -/
def execDebugAuthRelease (s : State) : Answer :=
  act s fun s =>
    match s.authNext fun p => p == 2 with
    | none => s
    | some c =>
      let s1 := s.startShort c
      if !c.authOk 0 then s1.endAuth 2
      else
        match s1.authGate with
        | some code => s1.endAuth code
        | none => s1.revoke.endAuth 0

/-- GRANT_EXPIRY: the earliest end of a grant has come on PWR_LEHR_TIME (R429). -/
def execGrantExpiry (s : State) : Answer :=
  act s fun s =>
    match s.lcs.ends with
    | some e => if e ≤ s.rd64 0x10068 then s.revoke else s
    | none => s

/-- LOCKOUT_EXPIRY: 10 s of PWR_LEHR_TIME have passed; the failures in a row count anew (R428). -/
def execLockoutExpiry (s : State) : Answer :=
  act s fun s =>
    match s.lehr.lockedAt with
    | some t =>
      if t + 327680 ≤ s.rd64 0x10068 then
        (s.withLehr { s.lehr with lockedAt := none, authFails := 0 }).wr F.LCS_STAT_LOCKOUT 0
      else s
    | none => s

/-! ### LC_TRANSITION (R418–R421) -/

/-- The code with which a transition to `t` is turned away or answered at once; none where it is accepted (R418). -/
def State.transAnswer (s : State) (c : MbxCmd) (t : Nat) : Option Nat :=
  let st := s.lcState
  let path := t != 1 || c.punty
  let listed := (st == 0 && t == 1) || (st == 1 && t == 2) || (decide (st ≤ 1) && t == 3) ||
    (st == 2 && t == 3 && bit s.lcs.granted 3) ||
    (st == 4 && decide (1 ≤ t) && decide (t ≤ 3) && s.otp.lc ||| lcPattern t == lcPattern t)
  if t = st then some 0
  else if !listed || !path then some 5
  else if t = 3 && !s.allQuiet then some 3
  else none

/-- LC_TRANSITION (R418, R419): at acceptance every granted scope is revoked. -/
def execLcTransition (s : State) : Answer :=
  act s fun s =>
    match s.longNext 0x40 with
    | none => s
    | some c =>
      let s1 := s.startLong c
      if c.paramBad then s1.endLong 2 0
      else
        match s1.transAnswer c (c.byte 4) with
        | some code => s1.endLong code (if code = 0 then s1.lcState else 0)
        | none =>
          let s2 := s1.revoke
          (s2.withLcs { s2.lcs with trans := some (c.byte 4) }).wr F.LCS_STATE_TRANS_BUSY 1

/-- Is every fused bit of the owner fields also staged (R419)? -/
def State.stagedCovers (s : State) : Bool :=
  s.otp.owner ||| s.wordsAt 0x50080 12 == s.wordsAt 0x50080 12 && s.otp.debug ||| s.wordsAt 0x500b0 12 == s.wordsAt 0x500b0 12 &&
    s.otp.cfg ||| s.stagedFlags == s.stagedFlags

/-- A transition fails: 1 a fused bit is not staged, 2 a bit will not verify (R419). -/
def State.transFails (s : State) (result : Nat) : State :=
  let s1 := ((s.withLcs { s.lcs with trans := none }).showLc.wr F.LCS_STATE_TRANS_BUSY 0).wr F.LCS_STAT_TRANS_ERR 1
  (s1.raise Ev.LCS_TRANS_FAIL).endLong 6 result

/-- The end of a transition to END_OF_LIFE (R421): everything is destroyed, every region is IDLE, every partition unreleased,
and the device takes an image as one without a boot record does; one in the safe state stays there (R349). -/
def State.endOfLife (s : State) : State :=
  let s1 := s.destroyAll.showLc
  let s2 := forEach (upTo 16) (fun n s =>
    (s.wr F.FLT_STAT_FENCED (setBitTo (s.rd F.FLT_STAT_FENCED) n false)).idleNow n 0) (s1.setLdr Loader.init)
  let s3 := forEach (upTo 8) (fun k s => s.offPart k) s2
  let s4 := ((s3.withFab { s3.fab with releasing := none }).withStart { s3.start with boot := [] })
  let s5 := (s4.useSectors []).showStore
  if s5.safe then s5 else (s5.wr F.PCI_MBX_STAT_READY 1).loadByBoot

/-- LC_TRANSITION_COMPLETE: every field has been programmed, or state bit `weak` will not verify after 8 attempts. -/
def execLcTransitionComplete (weak : Option (Fin 64)) (s : State) : Answer :=
  act s fun s =>
    match s.lcs.trans with
    | none => s
    | some t =>
      let o := s.otp
      if o.needsOwner t && !s.stagedCovers then s.transFails 1
      else
        match (weak.map fun b => (o.missing t).idxOf b.val).filter fun i => decide (i < (o.missing t).length) with
        | some i => (s.withOtp (s.programOtp t (o.operations t - (o.missing t).length + i))).transFails 2
        | none =>
          let s1 := (s.withOtp (s.programOtp t (o.operations t))).withLcs { s.lcs with trans := none }
          let s2 := s1.showLc
          let s3 := if t = 3 then s2.endOfLife else s2
          ((s3.wr F.LCS_STATE_TRANS_BUSY 0).raise Ev.LCS_TRANS_DONE).endLong 0 t

/-! ### Measurements, ATTEST (R424, R425) -/

/-- The 27 measurements, by index. -/
def State.measurements (s : State) : List (Nat × List Byte) :=
  [(1, fit 48 Config.firmware), (2, fit 48 (Config.sha384 (leBytes 8 s.otp.lc ++ leBytes 4 s.scopes))),
   (3, fit 48 s.lcs.image)] ++
    ((upTo 16).map fun n => (16 + n, fit 48 (s.chainAt (16 + n)))) ++ ((upTo 8).map fun k => (32 + k, fit 48 (s.chainAt (32 + k))))

/-- The bytes of the measurements: entries of 52 bytes. -/
def State.measureBytes (s : State) : List Byte := s.measurements.flatMap fun m => leBytes 4 m.1 ++ m.2

/-- Is attestation denied (R417): no key in BLANK, a destroyed one in END_OF_LIFE? -/
def State.keyless (s : State) : Bool :=
  s.lcState == 0 || s.lcState == 3 || s.otp.destroyed || s.otp.key.isNone

/-- The device certificate. -/
def State.cert (s : State) : List Byte := Config.certificate (s.otp.key.getD 0)

/-- The length of a report. -/
def State.reportLen (s : State) : Nat := 1566 + s.cert.length

/-- The report but for its signature, over a nonce. -/
def State.report425 (s : State) (nonce : List Byte) : List Byte :=
  leBytes 4 0x54525441 ++ leBytes 4 s.reportLen ++ nonce ++ leBytes 8 (s.rd64 4) ++ leBytes 8 s.otp.lc ++ leBytes 4 s.scopes ++
    leBytes 4 27 ++ s.measureBytes ++ leBytes 2 s.cert.length ++ s.cert

/-- ATTEST (R425). -/
def execAttest (s : State) : Answer :=
  act s fun s =>
    match s.longNext 0x50 with
    | none => s
    | some c =>
      let a := c.num 8 8
      let n := s.reportLen
      let ok := !c.paramBad && inHbm a n
      if ok && !s.keyless && !(s.bufferSleeps a n).isEmpty then s.wakeBuffer a n
      else
        let s1 := s.startLong c
        if !ok then s1.endLong 2 0
        else
          let s2 := s1.bump F.LCS_ATTEST_CNT_COUNT
          if s2.keyless then s2.endLong 5 0
          else if s2.bufferDead a n then s2.endLong 6 0
          else
            let x := s2.hbmRead a 16
            if x.2.1 then x.1.endLong 6 0
            else
              let body := x.1.report425 (leBytes 16 (c.num 16 16) ++ x.2.2)
              ((x.1.drawn.hbmWrite a (body ++ fit 96 (Config.ecdsaSign (Config.sha384 body) x.1.free))).endLong 0 n)

/-! ### SPDM over the DOE mailbox (R423). The response codes and the places of the bits are SPDM 1.2's (PRESUMED). -/

/-- Answer a request: the DOE mailbox has a response (R289). -/
def State.spdmAnswer (s : State) (code : Nat) (msg : List Byte) : State := (s.emit (.spdm code msg)).raise Ev.PCI_DOE

/-- ERROR, code UnsupportedRequest. -/
def State.spdmError (s : State) : State := s.spdmAnswer 0x7f [7]

/-- A request the device supports: answered once the function is ready, and where a key is held (R270, R417). -/
def spdm (s : State) (f : State → State) : Answer :=
  act s fun s => if !s.on F.PCI_STAT_READY then s else if s.keyless then s.spdmError else f s

/-- The certificate chain of slot 0 (R422). -/
def State.chain (s : State) : List Byte := Config.certChain (s.otp.key.getD 0)

/-- Sign a message with the device key; each signature draws. -/
def State.signed (s : State) (msg : List Byte) : List Byte := fit 96 (Config.ecdsaSign (Config.sha384 msg) s.free)

/-- GET_VERSION: VERSION, 1.2. -/
def execGetVersion (s : State) : Answer := spdm s fun s => s.spdmAnswer 0x04 [0x12]

/-- GET_CAPABILITIES: CERT_CAP, CHAL_CAP, MEAS_CAP with signature. -/
def execGetCapabilities (s : State) : Answer := spdm s fun s => s.spdmAnswer 0x61 (leBytes 4 0x16)

/-- NEGOTIATE_ALGORITHMS: ECDSA P-384, SHA-384 for hashing and for measurements. -/
def execNegotiateAlgorithms (s : State) : Answer :=
  spdm s fun s => s.spdmAnswer 0x63 (leBytes 4 0x80 ++ leBytes 4 2 ++ leBytes 4 4)

/-- GET_DIGESTS: the digest of the chain of slot 0. -/
def execGetDigests (s : State) : Answer := spdm s fun s => s.spdmAnswer 0x01 (fit 48 (Config.sha384 s.chain))

/-- GET_CERTIFICATE: a portion of the chain. -/
def execGetCertificate (off len : BitVec 16) (s : State) : Answer :=
  spdm s fun s => s.spdmAnswer 0x02 ((s.chain.drop off.toNat).take len.toNat)

/-- CHALLENGE: the digest of the chain, a nonce of the device, and a signature that covers both and the request's nonce. -/
def execChallenge (nonce : BitVec 256) (s : State) : Answer :=
  spdm s fun s =>
    let body := fit 48 (Config.sha384 s.chain) ++ fit 32 (Config.random 32 s.free)
    s.drawn.spdmAnswer 0x03 (body ++ s.signed (leBytes 32 nonce.toNat ++ body))

/-- GET_MEASUREMENTS: the measurements of R424, a nonce of the device, and a signature over both and the request's nonce. -/
def execGetMeasurements (nonce : BitVec 256) (s : State) : Answer :=
  spdm s fun s =>
    let body := s.measureBytes ++ fit 32 (Config.random 32 s.free)
    s.drawn.spdmAnswer 0x60 (body ++ s.signed (leBytes 32 nonce.toNat ++ body))

/-- SPDM_UNSUPPORTED_REQUEST. -/
def execSpdmUnsupportedRequest (_code : BitVec 8) (s : State) : Answer :=
  act s fun s => if s.on F.PCI_STAT_READY then s.spdmError else s

/-! ### The punty port (R430–R432) -/

/-- The instructions that take the pins from the design (R431). -/
def pinTaking (ir : Nat) : Bool := [0x00, 0x03, 0x04, 0x05, 0x06].contains ir

/-- The port answers while the spine is powered, whatever reset is asserted. -/
def tap (s : State) (f : State → State) : Answer := .next (s.endClock (if s.spineOn then f s else s))

/-- Select an instruction: the instruction register captures 0b0000_0001; taking the pins is marked and raised (R430, R431). -/
def State.selectIr (s : State) (ir : Nat) : State :=
  let s1 := (s.withJtag { s.jtag with ir := ir }).emit (.punty 1)
  if pinTaking ir && !pinTaking s.jtag.ir then (s1.wr F.LCS_STAT_BSCAN 1).raise Ev.LCS_BSCAN else s1

/-- A scan of the boundary-scan register: the captured levels leave, the shifted values stay in the cells. -/
def State.scanCells (s : State) (ir : Nat) (capture shift : BitVec 1412) : State :=
  let s1 := (s.selectIr ir).emit (.punty capture.toNat)
  (s1.withJtag { s1.jtag with cells := shift })

/-- EXTEST. -/
def execExtest (capture shift : BitVec 1412) (s : State) : Answer := tap s fun s => s.scanCells 0x00 capture shift

/-- IDCODE. -/
def execIdcode (s : State) : Answer := tap s fun s => (s.selectIr 0x01).emit (.punty 0x213129cf)

/-- SAMPLE/PRELOAD: the pins stay with the design. -/
def execSamplePreload (capture shift : BitVec 1412) (s : State) : Answer := tap s fun s => s.scanCells 0x02 capture shift

/-- HIGHZ: the bypass register is scanned. -/
def execHighz (s : State) : Answer := tap s fun s => (s.selectIr 0x03).emit (.punty 0)

/-- CLAMP: the cells hold the pins, the bypass register is scanned. -/
def execClamp (s : State) : Answer := tap s fun s => (s.selectIr 0x04).emit (.punty 0)

/-- EXTEST_PULSE. -/
def execExtestPulse (capture shift : BitVec 1412) (s : State) : Answer := tap s fun s => s.scanCells 0x05 capture shift

/-- EXTEST_TRAIN. -/
def execExtestTrain (capture shift : BitVec 1412) (s : State) : Answer := tap s fun s => s.scanCells 0x06 capture shift

/-- BYPASS, and every code that is not listed. -/
def execBypass (s : State) : Answer := tap s fun s => (s.selectIr 0xff).emit (.punty 0)

/-- TEST_LOGIC_RESET: IDCODE is selected; the pins drive as configured. -/
def execTestLogicReset (s : State) : Answer := tap s fun s => s.withJtag { s.jtag with ir := 0x01 }

/-- Hand a punty command to its lane; only LC_TRANSITION, DEBUG_AUTH and ATTEST are accepted (R432). -/
def State.puntyCmd (s : State) (raw : Nat) : State :=
  let c : MbxCmd := ⟨0, raw, false, true⟩
  let s1 := s.withJtag { s.jtag with cpl := none }
  if (c.byte 0 = 0x40 || c.byte 0 = 0x50 || c.byte 0 = 0x41) && c.paramBad then s1.complete c 2 0
  else if c.byte 0 = 0x40 || c.byte 0 = 0x50 then s1.withMbx { s1.mbx with long := s1.mbx.long ++ [c] }
  else if c.byte 0 = 0x41 then s1.withMbx { s1.mbx with short := s1.mbx.short ++ [c] }
  else s1.complete c 1 0

/-- LCS_CMD: Capture-DR returns the last completion, 0 while none is ready; Update-DR hands the command over. -/
def execLcsCmd (cmd : Option (BitVec 256)) (s : State) : Answer :=
  act s fun s =>
    let s1 := (s.selectIr 0x20).emit (.punty (s.jtag.cpl.getD 0))
    match cmd with
    | some v => s1.puntyCmd v.toNat
    | none => s1

/-- A use of an instruction without its scope captures zeros and is counted (R432). -/
def State.puntyDenied (s : State) : State :=
  ((s.emit (.punty 0)).withJtag { s.jtag with access := 0 }).bump F.LCS_DENIED_CNT_COUNT

/-- FAB_RB: the configuration word that the select names, then the live contents at it. -/
def execFabRb (sel : BitVec 20) (s : State) : Answer :=
  act s fun s =>
    let s1 := s.selectIr 0x22
    if !bit s1.scopes 2 then s1.puntyDenied
    else
      let a := slice sel.toNat 19 17 * 2 ^ 21 + slice sel.toNat 14 0 * 64
      (s1.emit (.punty (leNat (Bytes.read s1.fab.words a 64)))).emit
        (.punty (s1.fab.liveAt (slice sel.toNat 19 17) (slice sel.toNat 14 0)))

end Sys2Proof.Machine
end

