-- ==== Sys2Proof/Machine/Bus.lean ====
section
/-!
DEFINITION. Control-space accesses (R7–R13, R23–R26, R438–R442, R467): reads, writes field by field, what a write sets going
in each block, the paths, and the commands that are writes or reads of one register. Also line release (R160–R162, R234).
-/

namespace Sys2Proof.Machine

/-! ### Reads (R7, R438, R440) -/

/-- The _LO halves of the hardware-changed pairs of a block instance (R440). -/
def pairLos : Block → Nat → List Nat
  | .sys, _ => [0x4]
  | .pwr, _ => [0x68]
  | .flt, _ => [0x10, 0x20, 0x30]
  | .lcs, _ => [0x4]
  | .cfg, _ => [0x10]
  | .bst, _ => [0xc]
  | .tb, _ => [0x18, 0x20, 0x30, 0x48, 0x50]
  | .noc, _ => [0x8]
  | .sto, _ => [0x14, 0x20, 0x28, 0x30, 0x38, 0x48, 0x60]
  | .gaf, _ => [0x18, 0x20, 0x44]
  | .mpu, _ => [0x10, 0x18, 0x20]
  | .irc, _ => [0x8]
  | .hbm, 0 => [0x18, 0x214, 0x234, 0x254, 0x274]
  | .hbm, _ => [0x18]
  | _, _ => []

/-- Is the register at an offset the _LO half of a hardware-changed pair? -/
def isPairLo (off : Nat) : Bool :=
  match blockAt off with
  | some (b, i, rel) => (pairLos b i).contains rel
  | none => false

/-- The key of a path's capture shadow for the _HI half at an offset. -/
def shadowKey (p : Path) (off : Nat) : Nat := pathCode p * 2 ^ 26 + off

/-- Put or empty a capture shadow. -/
def State.setShadow (s : State) (k : Nat) (v : Option Word) : State :=
  s.withShadow (Tab.set (fun _ => none) s.shadow k v)

/-- What the _HI half of a hardware-changed pair reads on a path: its shadow if a read of _LO has captured, else live. -/
def State.readHi (s : State) (p : Path) (off : Nat) : State × Nat :=
  match Tab.get (fun _ => none) s.shadow (shadowKey p off) with
  | some w => (s.setShadow (shadowKey p off) none, w.toNat)
  | none => (s, (s.peek off).toNat)

/-- The word of a register after a read: counter snapshots are cleared (R438). -/
def RegRow.afterRead (r : RegRow) (old : Nat) : Nat :=
  r.fields.foldl (fun a f => a + (if f.acc = .rc then 0 else slice old f.hi f.lo) * 2 ^ f.lo) 0

/-- Does a register hold a counter snapshot? -/
def RegRow.counts (r : RegRow) : Bool := r.fields.any fun f => f.acc == .rc

/-- Is the offset TS_LO, TS_MID, TS_HI or TS_ID of an Ethernet port (R278)? The port and the register, then, from 0. -/
def stampRegOf (off : Nat) : Option (Nat × Nat) :=
  match blockAt off with
  | some (.eth, e, r) => if r = 0x30 ∨ r = 0x34 ∨ r = 0x38 ∨ r = 0x3c then some (e, (r - 0x30) / 4) else none
  | _ => none

/-- What a read of a register of the timestamp FIFO's head does: TS_ID pops it when the others have been read (R278). -/
def State.readStamp (s : State) (off : Nat) : State :=
  match stampRegOf off with
  | some (e, 3) => s.popStamp e
  | some (e, i) => s.sawStamp e i
  | none => s

/-- A 32-bit read of a register: the state after it and the value. -/
def State.readReg (s : State) (p : Path) (off : Nat) (r : RegRow) : State × Nat :=
  if isPairLo off then (s.setShadow (shadowKey p (off + 4)) (some (s.peek (off + 4))), (s.peek off).toNat)
  else if isPairLo (off - 4) then s.readHi p off
  else if r.counts then (s.setReg off (BitVec.ofNat 32 (r.afterRead (s.reg off).toNat)), (s.reg off).toNat)
  else (s.readStamp off, (s.peek off).toNat)

/-- A 32-bit read: the state after it, the value, and whether it was counted as an access error (R7, R23, R26). -/
def State.read32 (s : State) (p : Path) (off : Nat) : State × Nat × Bool :=
  if inDebug off then
    if !s.arrayScope then (s.countAccess (pathCode p) false false off, 0, true)
    else if sliceHas (windowTile off).2 then (s, s.dbgValue off, false)
    else (s.accessErr (pathCode p) false false off, 0, true)
  else
    match regRow? off with
    | none => (s.accessErr (pathCode p) false false off, 0, true)
    | some r => let x := s.readReg p off r; (x.1, x.2, false)

/-- A read of control space (R7): a naturally aligned 64-bit read is two of 32 bits, the lower offset first. A DM read of the
debug window waits while a cycle is in progress (R433). -/
def State.ctrlRead (s : State) (p : Path) (width off : Nat) : State :=
  if !((width == 4 && off % 4 == 0) || (width == 8 && off % 8 == 0)) then
    (s.accessErr (pathCode p) false false off).answerRead p off 0 true
  else if s.arrayScope && s.dmWaits off then s.withDbgReads (s.dbgReads ++ [(p, off, width)])
  else
    let x := s.read32 p off
    if width = 4 then x.1.answerRead p off x.2.1 x.2.2
    else
      let y := x.1.read32 p (off + 4)
      y.1.answerRead p off (x.2.1 + 2 ^ 32 * y.2.1) (x.2.2 || y.2.2)

/-! ### Writes, field by field (R8, R9, R13, R441) -/

/-- What a field holds after a write of `v` to it, where it held `old` (R8). -/
def Field.written (f : Field) (locked : Bool) (old v : Nat) : Nat :=
  match f.acc with
  | .rw => v
  | .rwl => if locked then old else v
  | .w1c => (BitVec.ofNat 32 old &&& ~~~(BitVec.ofNat 32 v)).toNat
  | .w1s => old ||| v
  | .ro => old
  | .rc => old
  | .res => old
  | .mbz => old

/-- The word of a register after a write. -/
def RegRow.written (r : RegRow) (locked : Bool) (old v : Nat) : Nat :=
  r.fields.foldl (fun a f => a + f.written locked (slice old f.hi f.lo) (slice v f.hi f.lo) * 2 ^ f.lo) 0

/-- Does a write put a 1 into a field that must be written 0 (R9)? -/
def RegRow.breaksZero (r : RegRow) (v : Nat) : Bool := r.fields.any fun f => f.acc == .mbz && slice v f.hi f.lo != 0

/-- Has a register a field that the block's lock bit locks? -/
def RegRow.lockable (r : RegRow) : Bool := r.fields.any fun f => f.acc == .rwl

/-- Is the block instance locked (R13)? -/
def State.locked (s : State) (b : Block) (i : Nat) : Bool :=
  match lockOff b i with
  | some l => bit (s.reg l).toNat 0
  | none => false

/-- The traces of a write that breaks R9 or meets a lock (R9, R13). -/
def State.writeTraces (s : State) (p : Path) (off v : Nat) (b : Block) (i : Nat) (r : RegRow) : State :=
  let s1 := if r.breaksZero v then s.accessErr (pathCode p) true false off else s
  if s1.locked b i && r.lockable then s1.bump F.SYS_LOCKED_WRITE_CNT_COUNT else s1

/-- The coefficient set that an offset of a marver unit lies in (R213). -/
def coefSet (rel : Nat) : Option Nat := if 0x1000 ≤ rel ∧ rel < 0x1400 then some ((rel - 0x1000) / 0x80) else none

/-- A coefficient write to the active set, that in force, is discarded (R201). -/
def State.coefBusy (s : State) (b : Block) (m rel : Nat) : Bool := b == .mrv && coefSet rel == some (s.mu m).set

/-- Store a write of a register. Three registers keep what is written elsewhere: MBX_TAIL (R279), PWR_SAVE_OFS (R374) and the
slot-table window (R265). -/
def State.putReg (s : State) (off v : Nat) (b : Block) (i rel : Nat) (r : RegRow) : State :=
  if off = 0xf00008 then s.mbxTail v
  else if off = 0x10088 then s.saveOfs v
  else if b = .noc ∧ 0x1000 ≤ rel then
    match s.slotKey ((rel - 0x1000) / 4) with
    | some k => if s.on F.NOC_SLOT_SEL_ACTIVE then s else s.withSlots (Tab.set (fun _ => 0) s.slots k (slice v 7 4))
    | none => s
  else if s.coefBusy b i rel then s.mrvErr i F.MRV_STATUS_COEF_BUSY
  else s.setReg off (BitVec.ofNat 32 (r.written (s.locked b i) (s.reg off).toNat v))

/-- Store a write of a register, with the traces of R9 and R13. -/
def State.storeReg (s : State) (p : Path) (off v : Nat) (b : Block) (i rel : Nat) (r : RegRow) : State :=
  (s.writeTraces p off v b i r).putReg off v b i rel r

/-! ### What a write sets going -/

/-- TB_CTRL (R156, R157, R159): `old` is the word before the write. -/
def State.tbCtrl (s : State) (old v : Nat) : State :=
  let new := s.on F.TB_CTRL_GROUP_EN
  let s1 := if bit old 3 = new then s else if new then s.groupOn else s.groupOff
  if bit v 0 then s1.armDivider.wr F.TB_CTRL_ARM 0 else s1

/-- A DMA engine's CTRL (R262): a write of EN at 1 clears STOPPED; ABORT ends every descriptor in flight. -/
def State.dmaCtrl (s : State) (e v : Nat) : State :=
  let s1 := if bit v 0 then s.wr (F.DMA_STAT_STOPPED e) 0 else s
  if bit v 31 then s1.abortEngine e else s1

/-- A write of a register of block DMA. -/
def State.dmaWritten (s : State) (rel v : Nat) : State :=
  if rel < 0x100 then s
  else
    let e := (rel - 0x100) / 0x40
    if rel % 0x40 = 0 then s.dmaCtrl e v
    else if rel % 0x40 = 0x2c then (s.unhold e (s.eng e).held.length).showEng e
    else s

/-- STO_CTRL (R290, R300): EN mounts or stops the store, ABORT ends its commits. -/
def State.stoCtrl (s : State) (v : Nat) : State :=
  let s1 := if bit v 0 then (if s.on F.STO_STAT_READY then s else s.mount) else s.unmount
  if bit v 31 then s1.abortStore else s1

/-- SEC[c].CTRL (R36, R53): REMAP, VERIFY, and the votes that the sector's region decides. -/
def State.secCtrl (s : State) (c v : Nat) : State :=
  let s1 := if bit v 22 then s.askRemap c else s
  (if bit v 23 then s1.askVerify c else s1).evalSector c

/-- IRC[p].CTRL (R163, R184): a port whose EN is 0 is down; QUAR_CLR ends a quarantine. -/
def State.ircCtrl (s : State) (p v : Nat) : State :=
  let s1 := if s.on (F.IRC_CTRL_EN p) then s
    else if s.linked p then ((s.wr (F.IRC_STATUS_LINK_DOWN p) 1).raise (Ev.IRC_LINK_DOWN p)).portLost p 0
    else s.wr (F.IRC_STATUS_STATE p) 0
  if bit v 1 then s1.endQuarantine p else s1

/-- MRV[m].CTRL (R196, R208): a rise of EN waits for the next SOL; a fall acts after the row in progress. -/
def State.mrvCtrl (s : State) (m old : Nat) : State :=
  let on := s.on (F.MRV_CTRL_EN m)
  let s1 :=
    if on && !bit old 0 then s.setMu m { s.mu m with want := true }
    else if !on then
      let s2 := s.setMu m { s.mu m with want := false }
      if !s2.active m then s2
      else if (s2.mu m).inRow then s2.setMu m { s2.mu m with stop := true } else s2.deactivate m
    else s
  s1.markLeaders

/-- Does ring `k` lie in HBM: its pixel area and its header table (R143)? -/
def State.ringInHbm (s : State) (k : Nat) : Bool :=
  let n := 2 ^ max 10 (min 24 (s.rd (F.HBM_RING_CFG_LOG2N 0 k)))
  let base := 2 ^ 20 * s.rd (F.HBM_RING_BASE_LO_BASE_LO 0 k) + 2 ^ 32 * s.rd (F.HBM_RING_BASE_HI_BASE_HI 0 k)
  let hdr := 64 * s.rd (F.HBM_RING_HDR_LO_HDR_LO 0 k) + 2 ^ 32 * s.rd (F.HBM_RING_HDR_HI_HDR_HI 0 k)
  inHbm base (n * (max 1 (s.rd (F.HBM_RING_CFG_STRIDE 0 k)) * 256)) && inHbm hdr (n * 64)

/-- The check of a ring's range after a write of its descriptor (R143). One that is not enabled after it is live again only
from a line that its header writer begins. -/
def State.checkRing (s : State) (k : Nat) : State :=
  let s1 := if s.on (F.HBM_RING_BASE_HI_EN 0 k) && !s.ringInHbm k then
      (s.wr (F.HBM_RING_BASE_HI_EN 0 k) 0).wr (F.HBM_STATUS_RING_ERR 0) 1
    else s
  if s1.on (F.HBM_RING_BASE_HI_EN 0 k) then s1 else s1.setRing k ⟨{ (s1.ring k).desc with live := false }, []⟩

/-- A write of a register of HBM[c]. -/
def State.hbmWritten (s : State) (c rel : Nat) : State :=
  if c = 0 && decide (0x200 ≤ rel) && decide (rel < 0x280) && decide (rel % 0x20 < 0x14) then
    s.checkRing ((rel - 0x200) / 0x20)
  else s

/-- Sources of group `g` that occur in the clock of a write of EVT_PEND: the set wins, and a clear that it refuses counts as
a rise (R10, R283). -/
def State.pendMeets (s : State) (g same : Nat) : State :=
  forEach ((bitsOf 32 same).filter fun i => Ev.named (32 * g + i)) (fun i s => s.raise (32 * g + i)) s

/-- What a write of a register sets going, by block; `old` is the register's word before the write. -/
def State.written (s : State) (b : Block) (i rel old v : Nat) : State :=
  match b with
  | .sys => if rel = 0x104 && bit v 31 then s.askConfirm else s
  | .pwr =>
    if rel = 0 then (if bit v 31 then s.askS4 else s)
    else if 0x10 ≤ rel ∧ rel ≤ 0x50 then s.evalVotes
    else s
  | .clk => if rel = 0x1a0 && bit v 31 then s.applyPll else s
  | .lcs => if rel = 0x164 && bit v 0 then s.revoke.wr F.LCS_DBG_CTRL_RELEASE 0 else s
  | .cfg => if rel = 0x40 then s.showStore else if rel = 0x60 && bit v 31 then s.startProg else s
  | .tb => if rel = 0 then s.tbCtrl old v else s
  | .noc => if rel = 0 && bit v 0 then s.requestSwitch else s
  | .dma => s.dmaWritten rel v
  | .sto => if rel = 0 then s.stoCtrl v else if rel = 0x44 then s.release else s
  | .sec => if rel = 0 then s.secCtrl i v else s
  | .irc => if rel = 0 then s.ircCtrl i v else s
  | .gth => if rel = 0 && bit v 31 && !s.on (F.GTH_STATUS_TRAIN_BUSY i) then s.startTraining i else s
  | .mrv => if rel = 0 then s.mrvCtrl i old else s
  | .hbm => s.hbmWritten i rel
  | .eth => if rel = 0x28 then s.ptpWritten i v else s
  | .flt => s
  | .evt => s
  | .bst => s
  | .gaf => s
  | .mpu => s
  | .pci => if rel = 0x14 then s.takeQueue 64 else s

/-- A write of 32 bits to the array debug window: DBG_SEL alone stores; no write changes what is read only (R26, R433,
R467). -/
def State.dbgWrite (s : State) (p : Path) (off v : Nat) : State :=
  let rel := (windowTile off).2
  if !s.arrayScope then s.countAccess (pathCode p) true false off
  else if !sliceHas rel then s.accessErr (pathCode p) true false off
  else if rel = 0x8000 then
    let s1 := if v % 2 ^ 32 < 2 ^ 16 then s else s.accessErr (pathCode p) true false off
    s1.setReg off (BitVec.ofNat 32 (v % 2 ^ 16))
  else s

/-- Before a write of a block: pixels that a marver unit has taken from its FIFO by now keep the columns as they stood (R198). -/
def State.columnsAs (s : State) (b : Block) (i : Nat) : State := if b = .mrv then s.drainFifo i else s

/-- A 32-bit write of control space. -/
def State.write32 (s : State) (p : Path) (off v : Nat) : State :=
  if inDebug off then s.dbgWrite p off v
  else
    match regRow? off, blockAt off with
    | some r, some (b, i, rel) =>
      ((s.columnsAs b i).storeReg p off v b i rel r).written b i rel (s.reg off).toNat v
    | _, _ => s.accessErr (pathCode p) true false off

/-- A write of control space (R7): a naturally aligned 64-bit write is two of 32 bits, the lower offset first. -/
def State.ctrlWrite (s : State) (p : Path) (width off v : Nat) : State :=
  if width = 4 && off % 4 == 0 then s.write32 p off (v % 2 ^ 32)
  else if width = 8 && off % 8 == 0 then
    (s.write32 p off (v % 2 ^ 32)).write32 p (off + 4) (v / 2 ^ 32 % 2 ^ 32)
  else s.accessErr (pathCode p) true false off

/-- A read, or a write of data. -/
def State.access (s : State) (p : Path) (width off : Nat) (write : Option (BitVec 64)) : State :=
  match write with
  | some v => s.ctrlWrite p width off v.toNat
  | none => s.ctrlRead p width off

/-! ### Paths (R432, R442) -/

/-- Does a path reach control space: PCIe once the endpoint is ready and in D0 (R268, R270), the punty port with its scope
(R432)? -/
def State.pathOpen (s : State) : Path → Bool
  | .core => true
  | .pcie => s.on F.PCI_STAT_READY && !s.pcie.d3hot
  | .punty => bit s.scopes 1

/-- An access on a path; nothing reaches control space over a path that is not open. -/
def onPath (p : Path) (s : State) (f : State → State) : Answer := act s fun s => if s.pathOpen p then f s else s

/-- A 32-bit write of one register on a path. -/
def writeAt (p : Path) (off : Nat) (v : BitVec 32) (s : State) : Answer :=
  onPath p s fun s => s.write32 p off v.toNat

/-! ### Meanings: accesses -/

/-- REGISTER_WRITE. -/
def execRegisterWrite (a : Access) (v : BitVec 64) (s : State) : Answer :=
  onPath a.path s fun s => s.ctrlWrite a.path a.width a.off.toNat v.toNat

/-- LO_CAPTURE_READ (R440): a 32-bit read of the _LO half. -/
def execLoCaptureRead (p : Path) (off : BitVec 26) (s : State) : Answer :=
  onPath p s fun s => s.ctrlRead p 4 off.toNat

/-- COUNTER_SNAPSHOT_READ (R438): a 32-bit read of the counter. -/
def execCounterSnapshotRead (p : Path) (off : BitVec 26) (s : State) : Answer :=
  onPath p s fun s => s.ctrlRead p 4 off.toNat

/-- ARRAY_DEBUG_WINDOW_ACCESS (R26, R433). -/
def execArrayDebugWindowAccess (a : Access) (write : Option (BitVec 64)) (s : State) : Answer :=
  onPath a.path s fun s => if inDebug a.off.toNat then s.access a.path a.width a.off.toNat write else s

/-- DEBUG_DM_READ_TIMEOUT: the waiting read of a path at an offset returns 0 and is counted, with no event (R433, R446). -/
def execDebugDmReadTimeout (p : Path) (off : BitVec 26) (s : State) : Answer :=
  act s fun s =>
    match s.dbgReads.find? fun r => r.1 == p && r.2.1 == off.toNat with
    | some r =>
      ((s.withDbgReads (s.dbgReads.erase r)).countAccess (pathCode p) false false off.toNat).answerRead p off.toNat 0 true
    | none => s

/-- BAR0_REQUEST (R269): an access of control space under R7. While a device reset holds the blocks it is answered as R23 gives: reads
return 0, writes are dropped (R334). DESIGN CHOICE (log entry 164): it is not counted, the counter being held too. -/
def execBar0Request (width : Nat) (off : BitVec 26) (write : Option (BitVec 64)) (tlp : Tlp) (s : State) : Answer :=
  actPcie s fun s =>
    if s.on F.PCI_STAT_READY && (s.tlpFault tlp write.isSome).isSome then s.dropTlp tlp write.isSome
    else if s.on F.PCI_STAT_READY && s.pcie.d3hot then s.unsupported write.isSome
    else if !s.pathOpen .pcie then s
    else if s.live then s.access .pcie width off.toNat write
    else if write.isSome then s
    else s.answerRead .pcie off.toNat 0 true

/-- Is a 32-bit write counted as an access error (R7, R9, R23)? -/
def writeErrs (off v : Nat) : Bool :=
  off % 4 != 0 ||
  if inDebug off then !sliceHas (windowTile off).2 || ((windowTile off).2 == 0x8000 && decide (2 ^ 16 ≤ v))
  else
    match regRow? off with
    | some r => r.breaksZero v
    | none => true

/-- DBG_MEM (R432): Capture-DR returns the answer of the access before; Update-DR performs the access. A use without PUNTY,
or of the debug window without ARRAY, captures zeros and performs nothing. -/
def execDbgMem (v : BitVec 64) (s : State) : Answer :=
  act s fun s =>
    let off := slice v.toNat 57 32
    let s1 := s.selectIr 0x21
    if !bit s1.scopes 1 || (inDebug off && !s1.arrayScope) then s1.puntyDenied
    else
      let s2 := (s1.emit (.punty s1.jtag.access)).withJtag { s1.jtag with access := 0 }
      if bit v.toNat 63 then
        let s3 := s2.ctrlWrite .punty 4 off (v.toNat % 2 ^ 32)
        (s3.withJtag { s3.jtag with access := 2 ^ 32 + 2 ^ 33 * b2n (writeErrs off (v.toNat % 2 ^ 32)) })
      else s2.ctrlRead .punty 4 off

/-! ### Meanings: writes and reads with a row of their own -/

/-- REMAP (R36). -/
def execRemap (p : Path) (c : Fin 16) (v : BitVec 32) (s : State) : Answer :=
  writeAt p (0xa00000 + 0x10000 * c) (v ||| 0x400000) s

/-- VERIFY (R53). -/
def execVerify (p : Path) (c : Fin 16) (v : BitVec 32) (s : State) : Answer :=
  writeAt p (0xa00000 + 0x10000 * c) (v ||| 0x800000) s

/-- RING_DESCRIPTOR_WRITE: word `w` of ring `k`'s descriptor (R143). -/
def execRingDescriptorWrite (p : Path) (k : Fin 4) (w : Fin 5) (v : BitVec 32) (s : State) : Answer :=
  writeAt p (0xe00200 + 0x20 * k + 4 * w) v s

/-- ARM (R156). -/
def execArm (p : Path) (v : BitVec 32) (s : State) : Answer := writeAt p 0x80000 (v ||| 1) s

/-- CPL_LOAD (R157): the new counts per line act at the next line. -/
def execCplLoad (p : Path) (v : BitVec 32) (s : State) : Answer := writeAt p 0x80000 (v ||| 0x10) s

/-- QUAR_CLR (R184). -/
def execQuarClr (path : Path) (p : Fin 4) (v : BitVec 32) (s : State) : Answer :=
  writeAt path (0xb00000 + 0x10000 * p) (v ||| 2) s

/-- TRAIN (R189). -/
def execTrain (path : Path) (g : Fin 4) (v : BitVec 32) (s : State) : Answer :=
  writeAt path (0xc00000 + 0x10000 * g) (v ||| 0x80000000) s

/-- MRV_EN_WRITE (R196). -/
def execMrvEnWrite (path : Path) (m : Fin 16) (v : BitVec 32) (s : State) : Answer :=
  writeAt path (0xc80000 + 0x10000 * m) v s

/-- COEF_WRITE: word `w` of coefficient set `k` (R201, R213). -/
def execCoefWrite (path : Path) (m : Fin 16) (k : Fin 8) (w : Fin 25) (v : BitVec 32) (s : State) : Answer :=
  writeAt path (0xc81000 + 0x10000 * m + 0x80 * k + 4 * w) v s

/-- NOC_CTRL_SWITCH (R250). -/
def execNocCtrlSwitch (path : Path) (v : BitVec 32) (s : State) : Answer := writeAt path 0x90000 (v ||| 1) s

/-- DMA_TAIL_WRITE (R257). -/
def execDmaTailWrite (path : Path) (e : Fin 16) (v : BitVec 32) (s : State) : Answer :=
  writeAt path (0xa0118 + 0x40 * e) v s

/-- DMA_ABORT (R262). -/
def execDmaAbort (path : Path) (e : Fin 16) (v : BitVec 32) (s : State) : Answer :=
  writeAt path (0xa0100 + 0x40 * e) (v ||| 0x80000000) s

/-- DMA_EN_WRITE (R262). -/
def execDmaEnWrite (path : Path) (e : Fin 16) (v : BitVec 32) (s : State) : Answer :=
  writeAt path (0xa0100 + 0x40 * e) (v ||| 1) s

/-- DMA_CPL_TAIL_WRITE (R263). -/
def execDmaCplTailWrite (path : Path) (e : Fin 16) (v : BitVec 32) (s : State) : Answer :=
  writeAt path (0xa012c + 0x40 * e) v s

/-- TS_ID_READ (R278). -/
def execTsIdRead (p : Path) (e : Fin 4) (s : State) : Answer :=
  onPath p s fun s => s.ctrlRead p 4 (0xf1003c + 0x10000 * e)

/-- PTP_OFS_NS_WRITE (R277). -/
def execPtpOfsNsWrite (p : Path) (e : Fin 4) (v : BitVec 32) (s : State) : Answer :=
  writeAt p (0xf10028 + 0x10000 * e) v s

/-- MBX_TAIL_WRITE (R279). -/
def execMbxTailWrite (p : Path) (v : BitVec 32) (s : State) : Answer := writeAt p 0xf00008 v s

/-- MBX_CPL_TAIL_WRITE (R279). -/
def execMbxCplTailWrite (p : Path) (v : BitVec 32) (s : State) : Answer := writeAt p 0xf00014 v s

/-- EVT_PEND_WRITE of a group (R283): the clears, then the occurrences of the same clock, whose set wins (R10). -/
def execEvtPendWrite (p : Path) (g : Fin 24) (v same : BitVec 32) (s : State) : Answer :=
  onPath p s fun s => (s.write32 p (0x40100 + 4 * g) v.toNat).pendMeets g same.toNat

/-- STO_EN_WRITE (R290, R302). -/
def execStoEnWrite (p : Path) (v : BitVec 32) (s : State) : Answer :=
  writeAt p 0xb0000 (v ||| 1) s

/-- STO_RELEASE_WRITE: a write of STO_RELEASE_HI (R296). -/
def execStoReleaseWrite (p : Path) (v : BitVec 32) (s : State) : Answer := writeAt p 0xb0044 v s

/-- STO_ABORT (R300). -/
def execStoAbort (p : Path) (v : BitVec 32) (s : State) : Answer := writeAt p 0xb0000 (v ||| 0x80000000) s

/-- A write of CFG_PROG_CTRL with GO set and the operation named (R328). -/
def progGo (v : BitVec 32) (op : Nat) : BitVec 32 := (v &&& 0x7ffff8ff) ||| 0x80000000 ||| BitVec.ofNat 32 (op * 2 ^ 8)

/-- CFG_PROG_WRITE_SLOT. -/
def execCfgProgWriteSlot (p : Path) (v : BitVec 32) (s : State) : Answer := writeAt p 0x60060 (progGo v 0) s

/-- CFG_PROG_ERASE_SLOT. -/
def execCfgProgEraseSlot (p : Path) (v : BitVec 32) (s : State) : Answer := writeAt p 0x60060 (progGo v 1) s

/-- CFG_PROG_WRITE_BOOT_RECORD. -/
def execCfgProgWriteBootRecord (p : Path) (v : BitVec 32) (s : State) : Answer := writeAt p 0x60060 (progGo v 2) s

/-- CFG_PROG_READ_SLOT. -/
def execCfgProgReadSlot (p : Path) (v : BitVec 32) (s : State) : Answer := writeAt p 0x60060 (progGo v 3) s

/-- CFG_PROG_ERASE_PARISON. -/
def execCfgProgEraseParison (p : Path) (v : BitVec 32) (s : State) : Answer := writeAt p 0x60060 (progGo v 4) s

/-- CONFIRM (R350). -/
def execConfirm (p : Path) (v : BitVec 32) (s : State) : Answer := writeAt p 0x104 (v ||| 0x80000000) s

/-- PWR_VOTE_WRITE (R364). -/
def execPwrVoteWrite (p : Path) (n : Fin 17) (v : BitVec 32) (s : State) : Answer := writeAt p (0x10010 + 4 * n) v s

/-- S4_REQ (R368). -/
def execS4Req (p : Path) (v : BitVec 32) (s : State) : Answer := writeAt p 0x10000 (v ||| 0x80000000) s

/-- PWR_SAVE_OFS_WRITE (R374). -/
def execPwrSaveOfsWrite (p : Path) (v : BitVec 32) (s : State) : Answer := writeAt p 0x10088 v s

/-- APPLY (R379). -/
def execApply (p : Path) (v : BitVec 32) (s : State) : Answer := writeAt p 0x201a0 (v ||| 0x80000000) s

/-- LCS_DBG_RELEASE (R429). -/
def execLcsDbgRelease (p : Path) (v : BitVec 32) (s : State) : Answer := writeAt p 0x50164 (v ||| 1) s

/-! ### Line release (R158–R162, R234) -/

/-- The line to release next: of the held lines, the one of smallest index, if its time has come (R160). -/
def State.dueLine (s : State) : Option Held :=
  match s.tb.held.foldl (fun a h => match a with
    | none => some h
    | some x => if h.line < x.line then some h else some x) (none : Option Held) with
  | some h => if h.release ≤ s.now then some h else none
  | none => none

/-- The trigger ports see a release: a released partition's strobe waits for its edge, another's is counted (R234). -/
def State.portStrobes (s : State) (line : Nat) : State :=
  forEach (upTo 8) (fun k s =>
    if s.partReleased k then s.withStrobes (s.strobes ++ [(k, line, s.real)])
    else s.bump F.CFG_TRIG_DROP_CNT_COUNT) s

/-- When a line was created: a member takes the master's REL_OFFSET for its own (R158, R179; DEDUCED, log entry 135). -/
def State.createdAt (s : State) (h : Held) : Nat :=
  h.created.getD (s.real - (s.now - h.release) - 16 * s.rd F.TB_REL_REL_OFFSET)

/-- A line is delivered to the gaffers, the trigger ports, the gather banks and the sensor (R160). -/
def State.deliverLine (s : State) (h : Held) : State :=
  let s1 := s.passGap h.line
  let s2 := s1.toGaffers h
  let s3 := ((s2.portStrobes h.line).pushTags h.line h.release).emit (.release h.line h.release)
  s3.setTb { s3.tb with released := some h.line, lastRel := some (s3.createdAt h) }

/-- A line that TRIG_EN at 0 keeps from its release is passed; in a group the others release it, so that it is the previous released
line for R158 all the same (R159, R162; DESIGN CHOICE, log entry 153). -/
def State.passRelease (s : State) (h : Held) : State :=
  if s.role = 0 then s.passLine h.line
  else
    let s1 := s.passLine h.line
    s1.setTb { s1.tb with lastRel := some (s1.createdAt h) }

/-- TRIGGER_RELEASE: a device with TRIG_EN at 0, or in role 1, passes the line (R159, R162). -/
def execTriggerRelease (s : State) : Answer :=
  act s fun s =>
    match s.dueLine with
    | none => s
    | some h =>
      let s1 := s.setTb { s.tb with held := s.tb.held.erase h }
      let s2 := if s.role = 1 then s1.passLine h.line
        else if !s.on F.TB_CTRL_TRIG_EN then s1.passRelease h
        else s1.deliverLine h
      if s.role = 2 then s2.followLine h.line else s2

/-- The line that the trigger port of partition `k` presents at the edge its clock showed in the last tick: the oldest that was
released at least 4 ticks before it, while the port is released and presents none (R234). -/
def State.strobeDue (s : State) (k : Nat) : Option (Nat × Nat × Nat) :=
  if s.partReleased k && !s.fab.trig.any fun x => x.1 == k then
    s.strobes.find? fun x => x.1 == k && s.fab.trigEdges.any fun e => e.1 == k && decide (x.2.2 + 64 ≤ e.2)
  else none

/-- TRIGGER_PORT_STROBE of partition `k`: at an edge of its port clock at least 4 ticks after the release, the port presents the
oldest waiting line for one period of that clock (R234). -/
def execTriggerPortStrobe (k : Fin 8) (s : State) : Answer :=
  act s fun s =>
    match s.strobeDue k with
    | some x =>
      ((s.withStrobes (s.strobes.erase x)).withFab { s.fab with trig := s.fab.trig ++ [(k.val, x.2.1)] }).emit
        (.trigStrobe k x.2.1)
    | none => s

end Sys2Proof.Machine
end

