-- ==== Sys2Proof/Machine/Faults.lean ====
section
/-!
DEFINITION. Occurrences as the fault collector meets them (R383–R400): by class, broken wires, the pair test, and the end
of a pulse of LC_FAULT_N.
-/

namespace Sys2Proof.Machine

/-! ### F0 while the device runs (R398) -/

/-- Sector `c` is placed in S3. -/
def State.sectorOff (s : State) (c : Nat) : State :=
  ((s.loseSector c 3).wr (F.SEC_STATUS_PSTATE c) 3).setDom c Domain.init

/-- A stack is placed in self-refresh. -/
def State.stackOff (s : State) (c : Nat) : State :=
  (s.wr (F.HBM_STATUS_SELF_REFRESH c) 1).setDom (16 + c) Domain.init

/-- An F0 fault: while the device runs it enters the safe state, with no write of the start-attempt record (R398); in the
safe state it is recorded only. -/
def State.fault0 (s : State) (r : FaultRec) : State :=
  if s.safe then s.recordFault r
  else
    let s1 := ((s.markF0 r).raise Ev.FLT_F0).enterSafe
    let s2 := forEach (upTo 16) (fun c s => s.sectorOff c) s1
    forEach (upTo 2) (fun c s => s.stackOff c) s2

/-! ### Occurrences (R383, R387, R388) -/

/-- The region that an occurrence of an F2 source concerns, by its DETAIL; source 21 concerns several. -/
def State.faultRegion (s : State) (src detail : Nat) : Option Nat :=
  if src = 19 then some (detail % 16)
  else if src = 20 then s.tileRegion (8 * (detail % 16))
  else s.tileRegion (detail % 128)

/-- An F2 occurrence: its region is fenced, CAUSE 5 for a program error (R105, R392). -/
def State.faultF2 (s : State) (src detail : Nat) : State :=
  if src = 21 then s.stepPllFault
  else
    match s.faultRegion src detail with
    | some n => s.fault2 n src detail (if src = 19 then 5 else 4)
    | none => s.report src detail none

/-- Does a thermal source name a sensor that is left out (R402)? -/
def State.leftOut (s : State) (src detail : Nat) : Bool :=
  (src == 1 || src == 29) && bit s.bst.sensorsOut (slice detail 13 8)

/-- FLT_TEMP.MAX follows the reading that a thermal source carries (R400). -/
def State.heat (s : State) (src detail : Nat) : State :=
  if (src = 1 ∨ src = 29) ∧ toSigned 8 (s.rd F.FLT_TEMP_MAX) < toSigned 8 detail then s.wr F.FLT_TEMP_MAX detail else s

/-- The event that a source's own occurrence raises beside the class event (R401). -/
def sourceEvent : Nat → Option Nat
  | 17 => some Ev.MPU_ROUTE_ERR
  | 18 => some Ev.MPU_DM_PARITY
  | 24 => some Ev.MPU_STEP_ERR
  | _ => none

/-- An F3 occurrence is recorded; a save-list entry that failed parity is skipped by the restore (R374, source 28). -/
def State.faultF3 (s : State) (src detail : Nat) : State :=
  let s1 := s.report src detail none
  if src = 28 then
    let i := detail % 8192
    let e := Tab.get (fun _ => (0, 0)) s1.lehr.save i
    (s1.withLehr { s1.lehr with save := Tab.set (fun _ => (0, 0)) s1.lehr.save i (e.1 / 2 * 2, e.2) })
  else s1

/-- Is a reading of source 29 one that the sensor raises: at FLT_TEMP.WARN or above, for the first time since it last lay 5 °C below
it (R387)? -/
def State.warns (s : State) (detail : Nat) : Bool :=
  decide (toSigned 8 (s.rd F.FLT_TEMP_WARN) ≤ toSigned 8 (detail % 256)) && !bit s.flt.warm (slice detail 13 8)

/-- What a reading leaves of a sensor's re-arming (R387). -/
def State.rearm (s : State) (src detail : Nat) : State :=
  let t := toSigned 8 (detail % 256)
  let w := toSigned 8 (s.rd F.FLT_TEMP_WARN)
  if src ≠ 29 then s
  else if w ≤ t then s.withFlt { s.flt with warm := setBitTo s.flt.warm (slice detail 13 8) true }
  else if t ≤ w - 5 then s.withFlt { s.flt with warm := setBitTo s.flt.warm (slice detail 13 8) false }
  else s

/-- Does a source show an occurrence (R387, R402): source 29 as `warns` says, source 1 from 125 °C, and neither for a sensor left
out? -/
def State.shows (s : State) (src detail : Nat) : Bool :=
  !s.leftOut src detail && (src != 29 || s.warns detail) && (src != 1 || decide (125 ≤ toSigned 8 (detail % 256)))

/-- One occurrence. The pair of a number the table does not use never changes. -/
def State.occurrence (s : State) (src detail : Nat) : State :=
  match faultClass src with
  | none => s
  | some c =>
    let s0 := if s.leftOut src detail then s else (s.heat src (detail % 256)).rearm src detail
    if !s.shows src detail then s0
    else
      let s1 := match sourceEvent src with | some e => s0.raise e | none => s0
      if c = 0 then s1.fault0 ⟨src, 0, detail, none, false⟩
      else if c = 1 then s1.fault1 src detail false
      else if c = 2 then s1.faultF2 src detail
      else s1.faultF3 src detail

/-- Put an occurrence into a list in the order of R388: by class, then by source number, which the table numbers alike. -/
def inOrder (x : Fin 64 × BitVec 32) : List (Fin 64 × BitVec 32) → List (Fin 64 × BitVec 32)
  | [] => [x]
  | y :: ys => if x.1 ≤ y.1 then x :: y :: ys else y :: inOrder x ys

/-- FAULT_OCCURRENCE: the occurrences of one collector clock, in the order of R388. -/
def execFaultOccurrence (src : Fin 64) (detail : BitVec 32) (also : List (Fin 64 × BitVec 32)) (s : State) : Answer :=
  act s fun s => forEach (inOrder (src, detail) (also.foldr inOrder [])) (fun x s => s.occurrence x.1.val x.2.toNat) s

/-- MC_WATCHDOG: 50 ms without service (R387, source 10). -/
def execMcWatchdog (s : State) : Answer := act s fun s => s.fault1 10 0 false

/-! ### Wires (R384, R385) -/

/-- The marks of a broken wire of source `src`. -/
def State.markWire (s : State) (src : Nat) : State :=
  ((s.setReg (0x30030 + 4 * (src % 64 / 32)) (BitVec.ofNat 32 (setBitTo (s.reg (0x30030 + 4 * (src % 64 / 32))).toNat (src % 32) true))).wr
    F.FLT_STAT_WIRE 1).raise Ev.FLT_WIRE

/-- The region of a record that tells no more than its source: of 16–20 the record names one (R387), here a free value. -/
def wireRegion (src draw : Nat) : Option Nat := if 16 ≤ src && src ≤ 20 then some (draw / 2 ^ 32 % 16) else none

/-- BROKEN_WIRE: an occurrence of the source's own class, with WIRE (R384). It fences no region, because a region's gaffer acts in
the step of its fault (R391) and no step met one; its DETAIL and its region are free values. -/
def execBrokenWire (src : Fin 64) (s : State) : Answer :=
  act s fun s =>
    match faultClass src with
    | none => s
    | some c =>
      let d := s.draw % 2 ^ 32
      let s1 := s.drawn.markWire src
      if c = 0 then s1.fault0 ⟨src, 0, d, none, true⟩
      else if c = 1 then s1.fault1 src d true
      else s1.recordFault ⟨src, c, d, wireRegion src s.draw, true⟩

/-- PAIR_TEST: a pass begins; a correct answer is not recorded (R385). -/
def execPairTest (s : State) : Answer :=
  act s fun s => (s.withFlt { s.flt with testAt := s.real }).wr F.FLT_STAT_TEST_BUSY 1

/-- PAIR_TEST_TIMEOUT of a source: an F3 record with WIRE (R385); its DETAIL and its region are free values. -/
def execPairTestTimeout (src : Fin 64) (s : State) : Answer :=
  act s fun s =>
    match faultClass src with
    | none => s
    | some _ => (s.drawn.markWire src).recordFault ⟨src, 3, s.draw % 2 ^ 32, wireRegion src s.draw, true⟩

/-- LC_FAULT_PULSE_END: the pulse of F2 and F3 ends; the pin stays low under F0, F1 and the warm start of an F1, and where another head
holds the net (R399). -/
def execLcFaultPulseEnd (netLow : Bool) (s : State) : Answer :=
  act s fun s =>
    (s.withFlt { s.flt with pulses := false, netLow := netLow }).wr F.FLT_STAT_PIN_LEVEL
      (b2n (!s.on F.FLT_STAT_F0 && !s.flt.f1 && !s.start.f1 && !netLow))

end Sys2Proof.Machine
end

