-- ==== Sys2Proof/Machine/Region.lean ====
section
/-!
DEFINITION. The mailbox commands that act on regions (R105, R281) and the orderly shutdown (R413).
-/

namespace Sys2Proof.Machine

/-! ### REGION_START, REGION_STOP, REGION_RESTART (R37, R105) -/

/-- Is region `n` held: it is being loaded, or tested (R281, BUSY)? -/
def State.regionHeld (s : State) (n : Nat) : Bool :=
  s.run n == 1 || s.bst.shutting ||
    (match s.bistCmd with
     | some c => (s.scopeSectors (c.byte 4)).any fun x => s.inRegion n x
     | none => false)

/-- What every region command checks first; the answer of a command that is turned away. -/
def State.regionRefusal (s : State) (c : MbxCmd) : Option Nat :=
  if c.paramBad then some 2
  else if s.regionHeld (c.byte 4) then some 4
  else none

/-- Start or restart region `n`. One that cannot be woken because a sector is unusable or its gaffer failed stays as it is,
and the command completes FAILED (R105, R406). -/
def State.startOrFail (s : State) (n : Nat) (go : State → State) : State :=
  if s.unloadable n then s.startFailed n else go s

/-- REGION_START. -/
def execRegionStart (s : State) : Answer :=
  act s fun s =>
    match s.shortNext 0x10 with
    | none => s
    | some c =>
      let s1 := s.startShort c
      let n := c.byte 4
      match s1.regionRefusal c with
      | some code => s1.endShort code 0
      | none =>
        if s1.run n ≠ 0 || (s1.sectors n).isEmpty then s1.endShort 3 0
        else s1.startOrFail n fun s => s.beginStart n false

/-- Stop region `n` (R105): at once where no cycle runs, otherwise after the cycle's b23. -/
def State.stopRegion (s : State) (n : Nat) : State :=
  if 2 ≤ s.run n && s.run n ≤ 4 then
    let s1 := s.cancelNext n
    if (s1.gaf n).phase = .none then s1.halted n 0 2 else s1.setGaf n { s1.gaf n with stop := some 2 }
  else s

/-- REGION_STOP. -/
def execRegionStop (s : State) : Answer :=
  act s fun s =>
    match s.shortNext 0x11 with
    | none => s
    | some c =>
      let s1 := s.startShort c
      let n := c.byte 4
      match s1.regionRefusal c with
      | some code => s1.endShort code 0
      | none =>
        if s1.run n < 2 || 4 < s1.run n then s1.endShort 3 0
        else
          let s2 := s1.stopRegion n
          if s2.run n = 0 then s2.endShort 0 0 else s2

/-- REGION_RESTART. DESIGN CHOICE (log entry 123): a cycle issued and not started is cancelled, as at a REGION_STOP. -/
def execRegionRestart (s : State) : Answer :=
  act s fun s =>
    match s.shortNext 0x12 with
    | none => s
    | some c =>
      let s1 := s.startShort c
      let n := c.byte 4
      match s1.regionRefusal c with
      | some code => s1.endShort code 0
      | none =>
        if (s1.sectors n).isEmpty then s1.endShort 3 0
        else
          s1.startOrFail n fun s =>
            if (s.gaf n).phase = .none then s.restartNow n
            else
              let s2 := s.cancelNext n
              s2.setGaf n { s2.gaf n with restart := true }

/-! ### SHUTDOWN_ORDERLY (R300, R345, R413) -/

/-- A start or restart of region `n` under way is given up: its command completes ABORTED (R281). -/
def State.dropStart (s : State) (n : Nat) : State :=
  if (s.gaf n).waking.isSome || (s.gaf n).restart then
    ((s.setGaf n { s.gaf n with waking := none, restart := false }).regionDone 0x10 n 8 0).regionDone 0x12 n 8 0
  else s

/-- SHUTDOWN_ORDERLY: every region is stopped, the store ends after the commit in progress, and every sector is woken for the
memory test. -/
def execShutdownOrderly (s : State) : Answer :=
  act s fun s =>
    match s.longNext 0x31 with
    | none => s
    | some c =>
      let s1 := s.startLong c
      if c.paramBad then s1.endLong 2 0
      else if s1.loaderBusy || s1.fab.releasing.isSome || s1.bst.slice.isSome then s1.endLong 4 0
      else
        let s2 := forEach (upTo 16) (fun n s => (s.dropStart n).stopRegion n) s1
        let s3 := (s2.withBst { s2.bst with shutting := true }).endStore
        (s3.wr F.BST_STAT_BUSY 1).testSectors (upTo 16)

/-- Is a failure one that no map knows yet (R413, step 5)? -/
def State.newFailure (s : State) (x : Found) : Bool :=
  let w := x.word.toNat
  !bit w 47 &&
    (if wStruct w = 8 then !bit s.cstore.gafBad (wUnit w % 16)
     else (s.spareFor x).isSome || s.cullFor w none != s.cstore.cullet || !(decide (wStruct w ≤ 7) || [9, 10, 11].contains (wStruct w)))

/-- The snapshot: the first 6,144 registers of the save list (R345). -/
def State.snapshot (s : State) : List (Nat × Nat) :=
  (upTo (min 6144 s.saveLen)).map fun i =>
    let e := Tab.get (fun _ => (0, 0)) s.lehr.save i
    (e.1 / 4 * 4, e.2)

/-- Write the snapshot and the shutdown record (R343, R345). -/
def State.writeShut (s : State) (clean : Bool) : State :=
  let l := s.snapshot
  (s.storeWrite snapBase (snapBytes l)).setShutRec {
    clean := clean, slot := s.rd F.CFG_STAT_SLOT, count := l.length, crc := crc32c (snapBytes l), time := s.now,
    culletGen := s.cstore.culletGen }

/-- No loaded content is left: no window is READY, every partition is held, every region is IDLE. The recorded sources stay until they
are rewritten from others (R327). -/
def State.noContent (s : State) : State :=
  let s2 := forEach (upTo 16) (fun n s =>
    let s0 := (s.wr (readyFld n false) 0).wr (readyFld n true) 0
    let s1 := s0.wr F.FLT_STAT_FENCED (setBitTo (s0.rd F.FLT_STAT_FENCED) n false)
    if s1.run n = 0 then s1 else s1.halted n 0 2) s.patternAll
  (forEach (upTo 8) (fun k s => s.offPart k) s2).wr F.CFG_STAT_IMAGE_OK 0

/-- Does SHUTDOWN_ORDERLY run? -/
def State.shutsDown (s : State) : Bool :=
  match s.mbx.longRun with
  | some c => c.byte 0 == 0x31
  | none => false

/-- SHUTDOWN_ORDERLY_COMPLETE: the regions have stopped, the store has finished, and the memory test has ended. -/
def execShutdownOrderlyComplete (found : List Found) (s : State) : Answer :=
  act s fun s =>
    if !s.shutsDown || !(upTo 16).all (fun n => s.run n == 0 || s.run n == 5) ||
        (s.on F.STO_STAT_READY && !s.sto.queue.isEmpty) ||
        !(upTo 16).all (fun c => s.rd (F.SEC_STATUS_PSTATE c) == 0 || s.on (F.SEC_STATUS_UNUSABLE c)) then s
    else
      let s1 := s.endStore.captureSave
      let clean := !found.any fun x => s1.newFailure x
      let s2 := (s1.takeTest found).writeShut clean
      let s3 := s2.noContent
      let s4 := (s3.withBst { s3.bst with shutting := false }).wr F.BST_STAT_BUSY 0
      ((s4.testSectors []).raise Ev.BST_DONE).endLong 0 (b2n clean)

end Sys2Proof.Machine
end

