-- ==== Sys2Proof/Machine/FullLoad.lean ====
section
/-!
DEFINITION. The end of a full load (R319–R323), the register restore (R345), and release (R339–R342).
-/

namespace Sys2Proof.Machine

/-! ### What the pins show in each phase (R336, R337) -/

/-- The pin groups of R337. -/
inductive PinGroup
  | user (bank : Nat)
  | gather (bank : Nat)
  | encoder
  | pcieTx
  | ircTx (p : Nat)
  | ethTx (e : Nat)
  | nand
  | flash
  deriving DecidableEq, Repr

/-- What a group's pins show: high-impedance, with the code of the bank's pull where one is connected (3 none); terminated or not;
inputs; transmitters idle or active; controls with chip enables high and write protect low, or as their controller drives them; a
bank as its design configures it. -/
inductive PinState
  | hiZ (pull : Nat)
  | terminated
  | unterminated
  | input
  | idle
  | active
  | deselected
  | driven
  | configured
  deriving DecidableEq, Repr

/-- The state of a pin group: unpowered or in reset, loading, released or in the safe state (R337). -/
def State.pinsShow (s : State) : PinGroup → PinState
  | .user b => if s.pinsOff then .hiZ 3 else if s.bankHiZ b then .hiZ (slice (s.rd F.CFG_IO_PULL_PULL) (2 * b + 1) (2 * b)) else .configured
  | .gather g => if s.pinsOff || !s.on (F.GTH_CTRL_EN g) then .unterminated else .terminated
  | .encoder => if s.pinsOff then .hiZ 3 else .input
  | .pcieTx => if s.pinsOff || s.pcie.perst then .idle else .active
  | .ircTx p => if s.pinsOff || !s.on (F.IRC_CTRL_EN p) || s.rd (F.IRC_STATUS_STATE p) == 0 then .idle else .active
  | .ethTx e => if s.pinsOff || !s.on (F.ETH_CTRL_EN e) then .idle else .active
  | .nand => if s.pinsOff then .hiZ 3 else if s.on F.STO_CTRL_EN then .driven else .deselected
  | .flash =>
    if s.pinsOff then .hiZ 3
    else match s.ldr.load with
      | some l => if l.source = 2 then .driven else .deselected
      | none => .deselected

/-! ### Writing a full image (R315, R319, R321) -/

/-- The frames of partition `k`. -/
def Frm.ofPart (k : Nat) (f : Frm) : Bool := (f.typ == 7 || f.typ == 8) && slice f.target 2 0 == k

/-- The partitions of a list are reprogrammed one after another (R237, R321): a failed check leaves the rest as they were. -/
def State.loadParts (s : State) (g : Src) : List Nat → State × Option ImgFail
  | [] => (s, none)
  | k :: ks =>
    let r := ((s.isolatePart k).clearPart k).loadImage g (.only (Frm.ofPart k))
    match r.fail with
    | some f => (r.st, some f)
    | none => ((r.st.withFab (r.st.fab.loaded [k] false)).markEss g [k]).loadParts g ks

/-- The image of a start is written: what it loads is cleared first (R315). -/
def State.writeAtStart (s : State) (g : Src) (pick : Pick) (kept : Nat → Bool) : State × Option ImgFail :=
  let r := (s.clearAll kept).loadImage g pick
  ((r.st.withFab (r.st.fab.loaded (upTo 8) true)).markEss g (upTo 8), r.fail)

/-- An image is written after release: the partitions one after another, then the rest; the digests of their sections are
checked as the scan passes them (R321). -/
def State.writeRunning (s : State) (g : Src) : State × Option ImgFail :=
  match (s.clearArray fun _ => false).loadParts g (upTo 8) with
  | (s1, some f) => (s1, some f)
  | (s1, none) =>
    let p := fullPick false 0
    let r := s1.loadImage g { p with read := fun s f => f.typ != 7 && f.typ != 8 && p.read s f }
    (r.st, r.fail)

/-- Write a full image whose checks before writing have passed. -/
def State.writeFull (s : State) (l : Load) (g : Src) : State × Option ImgFail :=
  let skip := if l.warm then s.verified else 0
  if l.start then (s.wr F.SYS_START_STAT_SKIP skip).writeAtStart g (fullPick l.warm skip) fun c => bit skip c
  else s.writeRunning g

/-! ### Serial flash (R323). The layout of SFDP is JESD216's (PRESUMED, log entry 161). -/

/-- The little-endian number of `n` SFDP bytes. -/
def flashNum (f : Flash) (off n : Nat) : Nat := fieldAt f.sfdp off n

/-- Is the SFDP signature valid? -/
def flashSigned (f : Flash) : Bool := flashNum f 0 4 == 0x50444653

/-- Where the parameter table with an ID lies, if the headers name one. -/
def flashTable (f : Flash) (id : Nat) : Option Nat :=
  if flashSigned f then
    ((upTo (flashNum f 6 1 + 1)).find? fun i => flashNum f (8 + 8 * i) 1 + 256 * flashNum f (15 + 8 * i) 1 == id).map fun i => flashNum f (12 + 8 * i) 3
  else none

/-- The bytes that the flash holds, from the density of the Basic Flash Parameter Table. -/
def flashDensity (f : Flash) : Option Nat :=
  (flashTable f 0xff00).map fun t =>
    let d := flashNum f (t + 4) 4
    (if bit d 31 then 2 ^ min 35 (d % 2 ^ 31) else d + 1) / 8

/-- How the array is read: command, lines of the data, dummy cycles, 4-byte addresses. -/
structure FlashMode where
  cmd : Nat
  lines : Nat
  dummy : Nat
  addr4 : Bool
  /-- The method that enables four lines (QER), where they are used. -/
  enable : Option Nat
  deriving DecidableEq, Repr

/-- The read mode: command 0x0B without a Basic Flash Parameter Table; 4-byte addresses where the 4-byte address instruction table is
present; 1-1-4 where x4 is allowed and the tables list it. -/
def flashModeOf (f : Flash) (x4 : Bool) : FlashMode :=
  match flashTable f 0xff00 with
  | none => ⟨0x0b, 1, 8, false, none⟩
  | some t =>
    let quad := x4 && bit (flashNum f t 4) 22
    let enable := some (flashNum f (t + 58) 1 / 16 % 8)
    let dummy := flashNum f (t + 10) 1 / 32 + flashNum f (t + 10) 1 % 32
    match flashTable f 0xff84 with
    | none => if quad then ⟨flashNum f (t + 11) 1, 4, dummy, false, enable⟩ else ⟨0x0b, 1, 8, false, none⟩
    | some u => if quad && bit (flashNum f u 4) 4 then ⟨0x6c, 4, dummy, true, enable⟩ else ⟨0x0c, 1, 8, true, none⟩

/-- The bytes that the path can reach: the density, and only the first 16 MiB with 3-byte addresses. -/
def flashReach (f : Flash) (m : FlashMode) : Nat :=
  if m.addr4 then (flashDensity f).getD (2 ^ 32) else min ((flashDensity f).getD (2 ^ 24)) (2 ^ 24)

/-- The byte at an address. -/
def flashByte (f : Flash) (a : Nat) : Byte :=
  if f.base.toNat ≤ a then f.data.getD (a - f.base.toNat) 0xff else 0xff

/-- The bytes of a range that the path reaches. -/
def flashRead (f : Flash) (m : FlashMode) (a n : Nat) : List Byte := (upTo (min n (flashReach f m - a))).map fun i => flashByte f (a + i)

/-- The payload of the V2 container at an address, where HCRC, the zero bytes, OFFSET and PCRC are right. -/
def payloadOf (f : Flash) (m : FlashMode) (a : Nat) : Option (List Byte) :=
  let h := flashRead f m a 32
  let p := flashRead f m (a + fieldAt h 4 4) (fieldAt h 8 4)
  if fieldAt h 28 4 = crc32c (h.take 28) && fieldAt h 16 12 = 0 && fieldAt h 4 4 % 8 = 0 && p.length = fieldAt h 8 4 &&
      fieldAt h 12 4 = crc32c p then some p
  else none

/-- Does the flash hold a container at an address? -/
def flashHasContainer (f : Flash) (m : FlashMode) (a : Nat) : Bool := fieldAt (flashRead f m a 4) 0 4 == 0x54433256

/-- SPI_MHZ of the boot record: 0 acts as 25, above 100 as 100 (R308). -/
def State.spiMhz (s : State) : Nat :=
  let n := fieldAt s.start.boot 11 1
  if n = 0 then 25 else min n 100

/-- The read mode of a start: SPI_WIDTH 1 allows four lines (R308). -/
def State.flashMode (s : State) (f : Flash) : FlashMode := flashModeOf f (fieldAt s.start.boot 10 1 == 1)

/-- The reads that the serial path makes: SFDP at 25 MHz on one line, then the container. -/
def State.readFlash (s : State) (f : Flash) (a : Nat) : State :=
  let m := s.flashMode f
  let h := flashRead f m a 32
  let bytes := if m.addr4 then 4 else 3
  let s0 := s.emit (.flashRead 0x5a 1 8 3 25 0 f.sfdp.length)
  let s1 := (match m.enable with | some q => s0.emit (.flashQuad q) | none => s0).emit
    (.flashRead m.cmd m.lines m.dummy bytes s.spiMhz a h.length)
  if flashHasContainer f m a then
    s1.emit (.flashRead m.cmd m.lines m.dummy bytes s.spiMhz (a + fieldAt h 4 4) (flashRead f m (a + fieldAt h 4 4) (fieldAt h 8 4)).length)
  else s1

/-- The payload that a load from serial flash finds; none where the container fails (R323). -/
def State.flashPayload (s : State) (l : Load) (f : Flash) : Option (List Byte) :=
  if flashHasContainer f (s.flashMode f) l.addr then payloadOf f (s.flashMode f) l.addr else none

/-! ### Reading, checking and writing (R319, R322, R323) -/

/-- Check an HBM copy whole, then write it (R322): `len` bytes at `a` hold it, and its source has `src` bytes. -/
def State.loadHbm (s0 : State) (l : Load) (a len src : Nat) (serial : Bool) : State × Option ImgFail × Option Src :=
  let g := { s0.hbmSrc a len with len := src }
  let s := s0.readHbm a len
  match s.checkImage g true serial with
  | some f => (s, some f, none)
  | none => let r := s.writeFull l g; (r.1, r.2, some g)

/-- Read, check and write the image of a full load from its source (R319, R322, R323). -/
def State.runLoad (s : State) (l : Load) (upset : Option Nat) (f : Flash) : State × Option ImgFail × Option Src :=
  if l.source = 0 then
    let g := s.slotSrc l.slot upset
    if (s.slotDesc l.slot).state ≠ 2 then (s, some ⟨1, 0, 0⟩, none)
    else
      match s.headerFault g true false with
      | some c => (s, some ⟨c, 0, 0⟩, none)
      | none => let r := s.writeFull l g; (r.1, r.2, some g)
  else if l.source = 1 then s.loadHbm l l.addr l.length l.length false
  else
    match s.flashPayload l f with
    | none => (s, some ⟨1, 0, 0⟩, none)
    | some p => (s.hbmWrite 0 p).loadHbm l 0 p.length (flashReach f (s.flashMode f)) true

/-! ### The register restore (R345) -/

/-- Restore one register: a write as R8 and R13 allow it, with no trace; a hole is skipped. -/
def State.restoreReg (s : State) (off val : Nat) : State :=
  match regRow? off, blockAt off with
  | some r, some (b, i, rel) => ((s.columnsAs b i).putReg off val b i rel r).written b i rel (s.reg off).toNat val
  | _, _ => s

/-- The gather banks that a restored list leaves enabled (R340). -/
def State.restoredBanks (s : State) (l : List (Nat × Nat)) : List Nat :=
  (upTo 4).filter fun g => (l.any fun e => e.1 == (F.GTH_CTRL_EN g).off) && s.on (F.GTH_CTRL_EN g)

/-- The VALID entries of the save list, in index order. -/
def State.savedRegs (s : State) : List (Nat × Nat) :=
  (upTo s.saveLen).filterMap fun i =>
    let e := Tab.get (fun _ => (0, 0)) s.lehr.save i
    if e.1 % 2 = 1 then some (e.1 / 4 * 4, e.2) else none

/-- What a start restores: the snapshot of its clean record, or the lehr's save list (R345, R374). -/
def State.restoreList (s : State) : List (Nat × Nat) :=
  if !s.ldr.restore then []
  else if s.ldr.snapshot then (match s.shutRec with | some r => s.snapEntries r | none => [])
  else if s.on F.PWR_SAVE_CFG_CAPTURED then s.savedRegs else []

/-- The register restore of a start (R345). -/
def State.restoreRegs (s : State) : State :=
  let l := s.restoreList
  let s1 := forEach l (fun e s => s.restoreReg e.1 e.2) s
  let s2 := s1.withStart { s1.start with train := s1.restoredBanks l }
  let s3 := s2.setLdr { s2.ldr with restore := false, snapshot := false }
  if s.ldr.restore && !s.ldr.snapshot then s3.wr F.PWR_SAVE_CFG_CAPTURED 0 else s3

/-! ### The end of a full load (R250, R320, R327, R406, R424) -/

/-- Region `n` after a full load: one without sectors, or that cannot be loaded, goes to IDLE; another waits for the release
with its windows READY (R37, R105, R116, R406). -/
def State.regionLoaded (s : State) (n : Nat) : State :=
  if s.sectors n = [] then s.halted n 0 7
  else if s.unloadable n then s.halted n 0 6
  else (s.wr (readyFld n false) 1).wr (readyFld n true) (b2n (s.dual n))

/-- A full load is complete (R250, R320, R327, R424): the release follows. -/
def State.finishLoad (s : State) (l : Load) (g : Src) : State :=
  let s1 := forEach (upTo 16) (fun n s => s.regionLoaded n) s
  let s2 := ((s1.wr F.CFG_STAT_SOURCE l.source).wr F.CFG_STAT_SLOT (if l.source = 0 then l.slot else 0)).wr
    F.CFG_STAT_IMAGE_OK 1
  let s3 := ((s2.wr F.CFG_STAT_GOLDEN (b2n (l.start && s2.on F.CFG_STAT_GOLDEN))).wr64 0x60010 (g.num 32 8)).setLdr
    { s2.ldr with load := none, full := if l.source = 0 then some l.slot else none, wins := [], parts := [] }
  let s4 := s3.withLcs { s3.lcs with image := Config.sha384 (g.bytes g.trailer 832), chain := [] }
  let s5 := (s4.restoreRegs.requestSwitch.showStore.showBusy.useSectors []).raise Ev.CFG_LOAD_DONE
  let s6 := (s5.withFab { s5.fab with releasing := some (s5.newRelease (upTo 8) true) }).endLoadCmd 0 0
  if l.start then s6.wr F.SYS_START_STAT_PHASE 4 else s6

/-- Must a full load wait: for a sector to wake, for a verify pass, for HBM (R53, R141, R347, R364)? -/
def State.loadWaits (s : State) (l : Load) : Bool :=
  (upTo 16).any (fun c => (s.rd (F.SEC_STATUS_PSTATE c) != 0 && !s.on (F.SEC_STATUS_UNUSABLE c)) ||
    s.on (F.SEC_STATUS_VERIFY_BUSY c)) ||
  (l.source != 0 && (upTo 2).any fun c => s.untrained c)

/-- A region that left LOADING during the load fails it (R105). -/
def State.regionLost (s : State) : Bool := (upTo 16).any fun n => s.run n != 1

/-- The bytes of HBM that a load reads or writes: none from the store (R322, R323). -/
def State.loadBytes (s : State) (l : Load) (f : Flash) : Nat :=
  if l.source = 0 then 0 else if l.source = 1 then l.length else ((s.flashPayload l f).getD []).length

/-- What serial flash shows to a load that reads it. -/
def State.meetFlash (s : State) (l : Load) (f : Flash) : State := if l.source = 2 then s.readFlash f l.addr else s

/-- FULL_LOAD_COMPLETE. The requests that partitions have open complete or time out before they are isolated (R237). A device
without a boot record that finds no container waits for the host (R322). -/
def execFullLoadComplete (upset : Option (BitVec 31)) (flash : Flash) (up : Upsets) (s : State) : Answer :=
  act s fun s =>
    match s.ldr.load with
    | none => s
    | some l => (s.upsets (upsetList up)).onceHbm (if l.source = 1 then l.addr else 0) (s.loadBytes l flash) fun s =>
      if s.loadWaits l then s
      else if l.source = 2 && s.start.boot = [] && !flashHasContainer flash (s.flashMode flash) l.addr then
        (forEach (upTo 16) (fun n s => s.idleNow n 6) (s.meetFlash l flash)).waitHost
      else if s.regionLost then s.failLoad l ⟨0, 0, 0⟩
      else if !l.start && s.windowsOpen then forEach (upTo 8) (fun k s => s.drainPart k) s
      else
        match (s.meetFlash l flash).runLoad l (upset.map fun w => w.toNat) flash with
        | (s1, some f, _) => s1.undrain.failLoad l f
        | (s1, none, some g) => s1.finishLoad l g
        | (s1, none, none) => s1

/-- HOST_WAIT_EXPIRY: the host boot window counts as a failed load (R321, R322); with no window there is no limit. -/
def execHostWaitExpiry (s : State) : Answer :=
  act s fun s =>
    if s.ldr.hostWait && s.start.boot != [] && fieldAt s.start.boot 8 1 == 1 && fieldAt s.start.boot 16 2 != 0 then
      (((s.setLdr { s.ldr with hostWait := false }).loadErr ⟨0, 0, 0⟩).raise Ev.CFG_LOAD_FAIL).startFails 1
    else s

/-! ### Release (R339–R342) -/

/-- The enable raised in each of the three stages of an ORDER: 0 OUT, 1 WE, 2 RST (R339). -/
def releaseOrder : Nat → List Nat
  | 1 => [0, 2, 1] | 2 => [1, 0, 2] | 3 => [1, 2, 0] | 4 => [2, 0, 1] | 5 => [2, 1, 0] | _ => [0, 1, 2]

/-- Perform a stage on the partitions of a release. -/
def State.stageOn (s : State) (r : Releasing) : State :=
  let f := s.fab
  let add := fun (l : List Nat) => l ++ r.parts
  match (releaseOrder r.order).getD r.stage 0 with
  | 0 => s.withFab { f with outOn := add f.outOn, releasing := some { r with stage := r.stage + 1 } }
  | 1 => s.withFab { f with weOn := add f.weOn, releasing := some { r with stage := r.stage + 1 } }
  | _ => s.withFab { f with rstOff := add f.rstOff, ffs := f.initFfs r.parts, pinFfs := f.initPinFfs r.parts, releasing := some { r with stage := r.stage + 1 } }

/-- Has every PLL of a mask locked (R339)? -/
def State.pllsLocked (s : State) (mask : Nat) : Bool := (upTo 8).all fun k => !bit mask k || bit (s.rd F.CLK_STAT_LOCKED) k

/-- RELEASE_BEGIN: the first stage. A reprogrammed partition waits for no PLL (R237, R339). -/
def execReleaseBegin (s : State) : Answer :=
  act s fun s =>
    match s.fab.releasing with
    | none => s
    | some r => if r.stage ≠ 0 || (r.full && !s.pllsLocked r.mask) then s else s.stageOn r

/-- PLL_TIMEOUT_EXPIRY: the start fails with cause 2 (R339); it falls back as a failed load does. A release after a
LOAD_IMAGE that is not a start's leaves the regions IDLE with CAUSE 6. -/
def execPllTimeoutExpiry (s : State) : Answer :=
  act s fun s =>
    match s.fab.releasing with
    | none => s
    | some r =>
      if r.stage ≠ 0 || !r.full || s.pllsLocked r.mask then s
      else
        let s1 := s.withFab { s.fab with releasing := none }
        if s1.rd F.SYS_START_STAT_PHASE = 4 then s1.startFails 2
        else forEach (upTo 16) (fun n s => if s.run n = 1 then s.halted n 0 6 else s) s1

/-- The locks that a full-image release sets (R314). -/
def State.setLocks (s : State) : State :=
  let s1 := forEach (upTo 16) (fun n s => (s.wr (F.GAF_LOCK n) 1).wr (F.SEC_LOCK n) 1) s
  let s2 := forEach (upTo 128) (fun t s => s.wr (F.MPU_LOCK t) 1) s1
  let s3 := forEach (upTo 2) (fun c s => s.wr (F.HBM_LOCK c) 1) s2
  (s3.wr F.TB_LOCK 1).wr F.CFG_LOCK 1

/-- The START actions on the timebase but for TRIG_EN (R342). -/
def State.startTimebase (s : State) : State :=
  let b := s.start.boot
  let a := fieldAt b 71 1
  let s1 := (s.setReg 0x80010 (BitVec.ofNat 32 (fieldAt b 76 4))).setReg 0x80014 (BitVec.ofNat 32 (fieldAt b 80 4))
  let s2 := if bit a 1 then s1.armDivider else s1
  if bit a 3 && !s2.on F.TB_CTRL_GROUP_EN then (s2.wr F.TB_CTRL_GROUP_EN 1).groupOn else s2

/-- The START actions on Ethernet, each port of which is set to its bit of ETH_EN, and the replay store (R342). -/
def State.startPorts (s : State) : State :=
  let b := s.start.boot
  let s1 := if b = [] then s else forEach (upTo 4) (fun e s => s.wr (F.ETH_CTRL_EN e) (b2n (bit (fieldAt b 75 1) e))) s
  if bit (fieldAt b 71 1) 4 && !s1.on F.STO_CTRL_EN then (s1.wr F.STO_CTRL_EN 1).mount else s1

/-- The START actions, in their order; TB_TRIG_EN is last (R340, R342). -/
def State.startActions (s : State) : State :=
  if s.start.boot = [] then s.startPorts
  else
    let s1 := s.startTimebase.startPorts
    if bit (fieldAt s.start.boot 71 1) 2 then s1.wr F.TB_CTRL_TRIG_EN 1 else s1

/-- The third stage of a full-image release (R314, R320, R340). -/
def State.released (s : State) : State :=
  let s1 := forEach ((upTo 16).filter fun n => s.run n == 1) (fun n s => s.armLoaded n) s
  let src := s1.rd F.CFG_STAT_SOURCE
  let s2 := (s1.withLehr { s1.lehr with slot := if src = 0 then (0, s1.rd F.CFG_STAT_SLOT) else (3, 0) }).setLocks.startActions
  let s3 := forEach s2.start.train (fun g s => s.startTraining g) s2
  let s4 := s3.wr F.SYS_START_TIME_RELEASE_US (s3.real / 10000)
  let s5 := (s4.wr F.SYS_START_STAT_PHASE 5).raise Ev.SYS_RELEASED
  let s6 := s5.endF1.tryEndWake
  if s6.on F.SYS_START_CTRL_CONFIRM && !s6.flt.f1 then s6.doConfirm else s6

/-- The third stage of any release: the partitions' hard ports are released (R237, R340). -/
def State.endRelease (s : State) (r : Releasing) : State :=
  let s1 := forEach r.parts (fun k s => (s.setReleased k true).setIsolated k false) s
  let s2 := s1.withFab { s1.fab with releasing := none }
  if r.full then s2.released else s2

/-- RELEASE_GAP_EXPIRY: the second or the third stage (R339, R340). -/
def execReleaseGapExpiry (s : State) : Answer :=
  act s fun s =>
    match s.fab.releasing with
    | none => s
    | some r =>
      if r.stage = 1 then s.stageOn r
      else if r.stage = 2 then (s.stageOn r).endRelease r
      else s

end Sys2Proof.Machine
end

