-- ==== Sys2Proof/Machine/Dispatch.lean ====
section
/-!
DEFINITION. One arm for each command: a direct call of its meaning.
-/

namespace Sys2Proof.Machine

/-- What a command does to everything but the queue. -/
def exec (i : Instr) (s : State) : Host.Outcome State Fault Refusal :=
  match i with
  | .registerWrite a v => Sys2Proof.Machine.execRegisterWrite a v s
  | .loCaptureRead p off => Sys2Proof.Machine.execLoCaptureRead p off s
  | .counterSnapshotRead p off => Sys2Proof.Machine.execCounterSnapshotRead p off s
  | .arrayDebugWindowAccess a write => Sys2Proof.Machine.execArrayDebugWindowAccess a write s
  | .debugDmReadTimeout p off => Sys2Proof.Machine.execDebugDmReadTimeout p off s
  | .remap p c v => Sys2Proof.Machine.execRemap p c v s
  | .remapCopyDone c => Sys2Proof.Machine.execRemapCopyDone c s
  | .verify p c v => Sys2Proof.Machine.execVerify p c v s
  | .verifyPassEnd c bad => Sys2Proof.Machine.execVerifyPassEnd c bad s
  | .dmClearEnd n => Sys2Proof.Machine.execDmClearEnd n s
  | .stepNop t p k => Sys2Proof.Machine.execStepNop t p k s
  | .eval t p k dmBad rowBad => Sys2Proof.Machine.execEval t p k dmBad rowBad s
  | .evalEn t p k dmBad rowBad => Sys2Proof.Machine.execEvalEn t p k dmBad rowBad s
  | .stepIn t p k => Sys2Proof.Machine.execStepIn t p k s
  | .stepOut t p k dmBad rowBad => Sys2Proof.Machine.execStepOut t p k dmBad rowBad s
  | .mreq t p k dmBad rowBad => Sys2Proof.Machine.execMreq t p k dmBad rowBad s
  | .mdata t p k => Sys2Proof.Machine.execMdata t p k s
  | .brk t p k dmBad rowBad => Sys2Proof.Machine.execBrk t p k dmBad rowBad s
  | .invalidStepWord t p k w => Sys2Proof.Machine.execInvalidStepWord t p k w s
  | .cycleBoundaryB0 n => Sys2Proof.Machine.execCycleBoundaryB0 n s
  | .foldCompare n => Sys2Proof.Machine.execFoldCompare n s
  | .gobOutCommit n => Sys2Proof.Machine.execGobOutCommit n s
  | .memoryCheck n => Sys2Proof.Machine.execMemoryCheck n s
  | .stallEnd n => Sys2Proof.Machine.execStallEnd n s
  | .stallBoundExpiry n => Sys2Proof.Machine.execStallBoundExpiry n s
  | .specialOperandLatch n => Sys2Proof.Machine.execSpecialOperandLatch n s
  | .windowFix n => Sys2Proof.Machine.execWindowFix n s
  | .cycleEnd n => Sys2Proof.Machine.execCycleEnd n s
  | .gobInDataWrite t off bytes => Sys2Proof.Machine.execGobInDataWrite t off bytes s
  | .gobInClose t hdr => Sys2Proof.Machine.execGobInClose t hdr s
  | .gafferNop n => Sys2Proof.Machine.execGafferNop n s
  | .waitTrig n => Sys2Proof.Machine.execWaitTrig n s
  | .waitEvt n => Sys2Proof.Machine.execWaitEvt n s
  | .run n => Sys2Proof.Machine.execRun n s
  | .selectWindow n => Sys2Proof.Machine.execSelectWindow n s
  | .loop n => Sys2Proof.Machine.execLoop n s
  | .endloop n => Sys2Proof.Machine.execEndloop n s
  | .inject n => Sys2Proof.Machine.execInject n s
  | .injectDeliveryEnd n up => Sys2Proof.Machine.execInjectDeliveryEnd n up s
  | .commit n => Sys2Proof.Machine.execCommit n s
  | .commitDrainEnd n => Sys2Proof.Machine.execCommitDrainEnd n s
  | .xchg n => Sys2Proof.Machine.execXchg n s
  | .signal n => Sys2Proof.Machine.execSignal n s
  | .setStall n => Sys2Proof.Machine.execSetStall n s
  | .mark n => Sys2Proof.Machine.execMark n s
  | .jump n => Sys2Proof.Machine.execJump n s
  | .halt n => Sys2Proof.Machine.execHalt n s
  | .programError n w => Sys2Proof.Machine.execProgramError n w s
  | .readLanding t tag => Sys2Proof.Machine.execReadLanding t tag s
  | .writeAck t tag => Sys2Proof.Machine.execWriteAck t tag s
  | .hbmRequest r upset => Sys2Proof.Machine.execHbmRequest r upset s
  | .patrolScrub c found => Sys2Proof.Machine.execPatrolScrub c found s
  | .hbmTempHigh c temp => Sys2Proof.Machine.execHbmTempHigh c temp s
  | .hbmTraining c ok => Sys2Proof.Machine.execHbmTraining c ok s
  | .hbmTrainingTimeout c => Sys2Proof.Machine.execHbmTrainingTimeout c s
  | .hbmSelfRefreshEntry c => Sys2Proof.Machine.execHbmSelfRefreshEntry c s
  | .ringDescriptorWrite p k w v => Sys2Proof.Machine.execRingDescriptorWrite p k w v s
  | .encoderEdge a b => Sys2Proof.Machine.execEncoderEdge a b s
  | .encZEdge z => Sys2Proof.Machine.execEncZEdge z s
  | .arm p v => Sys2Proof.Machine.execArm p v s
  | .cplLoad p v => Sys2Proof.Machine.execCplLoad p v s
  | .triggerRelease => Sys2Proof.Machine.execTriggerRelease s
  | .triggerPortStrobe k => Sys2Proof.Machine.execTriggerPortStrobe k s
  | .hello p h key id epoch current master masterKey hops port => Sys2Proof.Machine.execHello p h key id epoch current master masterKey hops port s
  | .dlyReq p h t1 t2 t3 => Sys2Proof.Machine.execDlyReq p h t1 t2 t3 s
  | .dlyResp p h t2 t3 t4 => Sys2Proof.Machine.execDlyResp p h t2 t3 t4 s
  | .elect p h key time => Sys2Proof.Machine.execElect p h key time s
  | .epoch p h num act map hops step => Sys2Proof.Machine.execEpoch p h num act map hops step s
  | .joinReq p h key id hops d => Sys2Proof.Machine.execJoinReq p h key id hops d s
  | .joinAck p h refused => Sys2Proof.Machine.execJoinAck p h refused s
  | .leave p h id => Sys2Proof.Machine.execLeave p h id s
  | .heartbeat p h time => Sys2Proof.Machine.execHeartbeat p h time s
  | .status p h aligned skips better links => Sys2Proof.Machine.execStatus p h aligned skips better links s
  | .trigger p h line release marks targets => Sys2Proof.Machine.execTrigger p h line release marks targets s
  | .far p h region tile tag data => Sys2Proof.Machine.execFar p h region tile tag data s
  | .event p h source => Sys2Proof.Machine.execEvent p h source s
  | .ack p h type seq => Sys2Proof.Machine.execAck p h type seq s
  | .nack p h reason seq => Sys2Proof.Machine.execNack p h reason seq s
  | .helloTimer p => Sys2Proof.Machine.execHelloTimer p s
  | .heartbeatTimer => Sys2Proof.Machine.execHeartbeatTimer s
  | .ackRetryTimer k => Sys2Proof.Machine.execAckRetryTimer k s
  | .hopMeasureTimer p t1 => Sys2Proof.Machine.execHopMeasureTimer p t1 s
  | .electQuietExpiry => Sys2Proof.Machine.execElectQuietExpiry s
  | .heartbeatLoss => Sys2Proof.Machine.execHeartbeatLoss s
  | .memberLoss m => Sys2Proof.Machine.execMemberLoss m s
  | .epochActivation => Sys2Proof.Machine.execEpochActivation s
  | .joinRetryTimer => Sys2Proof.Machine.execJoinRetryTimer s
  | .ircBackoffExpiry p => Sys2Proof.Machine.execIrcBackoffExpiry p s
  | .ircLinkUp p => Sys2Proof.Machine.execIrcLinkUp p s
  | .ircLinkDown p => Sys2Proof.Machine.execIrcLinkDown p s
  | .quarantineExpiry p => Sys2Proof.Machine.execQuarantineExpiry p s
  | .quarClr path p v => Sys2Proof.Machine.execQuarClr path p v s
  | .train path g v => Sys2Proof.Machine.execTrain path g v s
  | .gthTrainDone g lanes => Sys2Proof.Machine.execGthTrainDone g lanes s
  | .eyeTrack g lane dir eye => Sys2Proof.Machine.execEyeTrack g lane dir eye s
  | .laneWord g lane w => Sys2Proof.Machine.execLaneWord g lane w s
  | .pixelBusBeat k b => Sys2Proof.Machine.execPixelBusBeat k b s
  | .mrvEnWrite path m v => Sys2Proof.Machine.execMrvEnWrite path m v s
  | .coefWrite path m k w v => Sys2Proof.Machine.execCoefWrite path m k w v s
  | .endOfRowMark m => Sys2Proof.Machine.execEndOfRowMark m s
  | .candidateClose m => Sys2Proof.Machine.execCandidateClose m s
  | .patchComplete m => Sys2Proof.Machine.execPatchComplete m s
  | .gobSwapNotice n => Sys2Proof.Machine.execGobSwapNotice n s
  | .mergeNotice n => Sys2Proof.Machine.execMergeNotice n s
  | .globalLineSwitch g sel oldRuns => Sys2Proof.Machine.execGlobalLineSwitch g sel oldRuns s
  | .clockStuck g => Sys2Proof.Machine.execClockStuck g s
  | .vccoChange b good => Sys2Proof.Machine.execVccoChange b good s
  | .windowPortRequest k core => Sys2Proof.Machine.execWindowPortRequest k core s
  | .windowPortAnswer k data => Sys2Proof.Machine.execWindowPortAnswer k data s
  | .windowTimeout k => Sys2Proof.Machine.execWindowTimeout k s
  | .nocCtrlSwitch path v => Sys2Proof.Machine.execNocCtrlSwitch path v s
  | .nocBankSwitch => Sys2Proof.Machine.execNocBankSwitch s
  | .nocPacket r out j inject flip => Sys2Proof.Machine.execNocPacket r out j inject flip s
  | .gatewayRequest d cls head => Sys2Proof.Machine.execGatewayRequest d cls head s
  | .dmaTailWrite path e v => Sys2Proof.Machine.execDmaTailWrite path e v s
  | .descriptorFetch e host up => Sys2Proof.Machine.execDescriptorFetch e host up s
  | .dmaDescriptorStart e => Sys2Proof.Machine.execDmaDescriptorStart e s
  | .dmaDescriptorComplete e k up => Sys2Proof.Machine.execDmaDescriptorComplete e k up s
  | .dmaAbort path e v => Sys2Proof.Machine.execDmaAbort path e v s
  | .dmaEnWrite path e v => Sys2Proof.Machine.execDmaEnWrite path e v s
  | .dmaCplTailWrite path e v => Sys2Proof.Machine.execDmaCplTailWrite path e v s
  | .pciePerstDeassert => Sys2Proof.Machine.execPciePerstDeassert s
  | .pcieReady speed width => Sys2Proof.Machine.execPcieReady speed width s
  | .fundamentalReset => Sys2Proof.Machine.execFundamentalReset s
  | .hotReset => Sys2Proof.Machine.execHotReset s
  | .pcieLinkDown => Sys2Proof.Machine.execPcieLinkDown s
  | .functionLevelReset => Sys2Proof.Machine.execFunctionLevelReset s
  | .configurationRequest q => Sys2Proof.Machine.execConfigurationRequest q s
  | .bar0Request width off write tlp => Sys2Proof.Machine.execBar0Request width off write tlp s
  | .bar2Request a n write tlp up => Sys2Proof.Machine.execBar2Request a n write tlp up s
  | .bar4Request off n write tlp => Sys2Proof.Machine.execBar4Request off n write tlp s
  | .unsupportedRequest posted => Sys2Proof.Machine.execUnsupportedRequest posted s
  | .hostCompletion tag st => Sys2Proof.Machine.execHostCompletion tag st s
  | .completionTimeout tag => Sys2Proof.Machine.execCompletionTimeout tag s
  | .msixUnmask v => Sys2Proof.Machine.execMsixUnmask v s
  | .ethFrameReceived e bytes => Sys2Proof.Machine.execEthFrameReceived e bytes s
  | .ethLinkChange e up => Sys2Proof.Machine.execEthLinkChange e up s
  | .tsIdRead p e => Sys2Proof.Machine.execTsIdRead p e s
  | .ptpOfsNsWrite p e v => Sys2Proof.Machine.execPtpOfsNsWrite p e v s
  | .mbxTailWrite p v => Sys2Proof.Machine.execMbxTailWrite p v s
  | .mbxCplTailWrite p v => Sys2Proof.Machine.execMbxCplTailWrite p v s
  | .badOpcode => Sys2Proof.Machine.execBadOpcode s
  | .evtPendWrite p g v same => Sys2Proof.Machine.execEvtPendWrite p g v same s
  | .loadImage => Sys2Proof.Machine.execLoadImage s
  | .fullLoadComplete upset flash up => Sys2Proof.Machine.execFullLoadComplete upset flash up s
  | .hostWaitExpiry => Sys2Proof.Machine.execHostWaitExpiry s
  | .stageParison => Sys2Proof.Machine.execStageParison s
  | .parisonStageComplete up => Sys2Proof.Machine.execParisonStageComplete up s
  | .commitParison => Sys2Proof.Machine.execCommitParison s
  | .parisonCommitComplete upset => Sys2Proof.Machine.execParisonCommitComplete upset s
  | .regionStart => Sys2Proof.Machine.execRegionStart s
  | .regionStop => Sys2Proof.Machine.execRegionStop s
  | .regionRestart => Sys2Proof.Machine.execRegionRestart s
  | .setPerfLevel => Sys2Proof.Machine.execSetPerfLevel s
  | .perfSwitchWindow => Sys2Proof.Machine.execPerfSwitchWindow s
  | .supplySettled mv => Sys2Proof.Machine.execSupplySettled mv s
  | .supplySettleTimeout again => Sys2Proof.Machine.execSupplySettleTimeout again s
  | .pmbAlert => Sys2Proof.Machine.execPmbAlert s
  | .bistRun => Sys2Proof.Machine.execBistRun s
  | .shutdownOrderly => Sys2Proof.Machine.execShutdownOrderly s
  | .lcTransition => Sys2Proof.Machine.execLcTransition s
  | .debugAuthChallenge => Sys2Proof.Machine.execDebugAuthChallenge s
  | .debugAuthResponse => Sys2Proof.Machine.execDebugAuthResponse s
  | .debugAuthRelease => Sys2Proof.Machine.execDebugAuthRelease s
  | .attest => Sys2Proof.Machine.execAttest s
  | .storeCommit => Sys2Proof.Machine.execStoreCommit s
  | .stoLineReady up => Sys2Proof.Machine.execStoLineReady up s
  | .lineWaitExpiry => Sys2Proof.Machine.execLineWaitExpiry s
  | .stoCommitFinish => Sys2Proof.Machine.execStoCommitFinish s
  | .storeRead => Sys2Proof.Machine.execStoreRead s
  | .storeReadComplete corrected failed => Sys2Proof.Machine.execStoreReadComplete corrected failed s
  | .stoEnWrite p v => Sys2Proof.Machine.execStoEnWrite p v s
  | .stoReleaseWrite p v => Sys2Proof.Machine.execStoReleaseWrite p v s
  | .stoAbort p v => Sys2Proof.Machine.execStoAbort p v s
  | .grownBadBlock die block corrected failed => Sys2Proof.Machine.execGrownBadBlock die block corrected failed s
  | .cfgProgWriteSlot p v => Sys2Proof.Machine.execCfgProgWriteSlot p v s
  | .cfgProgEraseSlot p v => Sys2Proof.Machine.execCfgProgEraseSlot p v s
  | .cfgProgWriteBootRecord p v => Sys2Proof.Machine.execCfgProgWriteBootRecord p v s
  | .cfgProgReadSlot p v => Sys2Proof.Machine.execCfgProgReadSlot p v s
  | .cfgProgEraseParison p v => Sys2Proof.Machine.execCfgProgEraseParison p v s
  | .cfgProgDone writeFault up => Sys2Proof.Machine.execCfgProgDone writeFault up s
  | .fabricScrubPass found => Sys2Proof.Machine.execFabricScrubPass found s
  | .windowScrubPass => Sys2Proof.Machine.execWindowScrubPass s
  | .storePatrol found => Sys2Proof.Machine.execStorePatrol found s
  | .coldStart found => Sys2Proof.Machine.execColdStart found s
  | .warmStart => Sys2Proof.Machine.execWarmStart s
  | .powerLoss => Sys2Proof.Machine.execPowerLoss s
  | .pllTimeoutExpiry => Sys2Proof.Machine.execPllTimeoutExpiry s
  | .releaseBegin => Sys2Proof.Machine.execReleaseBegin s
  | .releaseGapExpiry => Sys2Proof.Machine.execReleaseGapExpiry s
  | .confirm p v => Sys2Proof.Machine.execConfirm p v s
  | .autoConfirm => Sys2Proof.Machine.execAutoConfirm s
  | .pwrVoteWrite p n v => Sys2Proof.Machine.execPwrVoteWrite p n v s
  | .powerDownDrainEnd d => Sys2Proof.Machine.execPowerDownDrainEnd d s
  | .powerGatingComplete d => Sys2Proof.Machine.execPowerGatingComplete d s
  | .sectorWakeComplete c upset => Sys2Proof.Machine.execSectorWakeComplete c upset s
  | .wakeHoldExpiry d => Sys2Proof.Machine.execWakeHoldExpiry d s
  | .s4Req p v => Sys2Proof.Machine.execS4Req p v s
  | .spineCut => Sys2Proof.Machine.execSpineCut s
  | .wakeN => Sys2Proof.Machine.execWakeN s
  | .encWake => Sys2Proof.Machine.execEncWake s
  | .perstWake => Sys2Proof.Machine.execPerstWake s
  | .timerWake => Sys2Proof.Machine.execTimerWake s
  | .s4Wake => Sys2Proof.Machine.execS4Wake s
  | .xtalGood => Sys2Proof.Machine.execXtalGood s
  | .xtalLoss => Sys2Proof.Machine.execXtalLoss s
  | .pwrSaveOfsWrite p v => Sys2Proof.Machine.execPwrSaveOfsWrite p v s
  | .apply p v => Sys2Proof.Machine.execApply p v s
  | .pllLock k => Sys2Proof.Machine.execPllLock k s
  | .pllUnlock k => Sys2Proof.Machine.execPllUnlock k s
  | .faultOccurrence src detail also => Sys2Proof.Machine.execFaultOccurrence src detail also s
  | .f1ResetAssert => Sys2Proof.Machine.execF1ResetAssert s
  | .brokenWire src => Sys2Proof.Machine.execBrokenWire src s
  | .pairTest => Sys2Proof.Machine.execPairTest s
  | .pairTestTimeout src => Sys2Proof.Machine.execPairTestTimeout src s
  | .mcWatchdog => Sys2Proof.Machine.execMcWatchdog s
  | .lcFaultPulseEnd netLow => Sys2Proof.Machine.execLcFaultPulseEnd netLow s
  | .periodicSlice => Sys2Proof.Machine.execPeriodicSlice s
  | .idleGapScan n bad => Sys2Proof.Machine.execIdleGapScan n bad s
  | .grantExpiry => Sys2Proof.Machine.execGrantExpiry s
  | .lockoutExpiry => Sys2Proof.Machine.execLockoutExpiry s
  | .lcsDbgRelease p v => Sys2Proof.Machine.execLcsDbgRelease p v s
  | .getVersion => Sys2Proof.Machine.execGetVersion s
  | .getCapabilities => Sys2Proof.Machine.execGetCapabilities s
  | .negotiateAlgorithms => Sys2Proof.Machine.execNegotiateAlgorithms s
  | .getDigests => Sys2Proof.Machine.execGetDigests s
  | .getCertificate off len => Sys2Proof.Machine.execGetCertificate off len s
  | .challenge nonce => Sys2Proof.Machine.execChallenge nonce s
  | .getMeasurements nonce => Sys2Proof.Machine.execGetMeasurements nonce s
  | .spdmUnsupportedRequest code => Sys2Proof.Machine.execSpdmUnsupportedRequest code s
  | .extest capture shift => Sys2Proof.Machine.execExtest capture shift s
  | .idcode => Sys2Proof.Machine.execIdcode s
  | .samplePreload capture shift => Sys2Proof.Machine.execSamplePreload capture shift s
  | .highz => Sys2Proof.Machine.execHighz s
  | .clamp => Sys2Proof.Machine.execClamp s
  | .extestPulse capture shift => Sys2Proof.Machine.execExtestPulse capture shift s
  | .extestTrain capture shift => Sys2Proof.Machine.execExtestTrain capture shift s
  | .lcsCmd cmd => Sys2Proof.Machine.execLcsCmd cmd s
  | .dbgMem v => Sys2Proof.Machine.execDbgMem v s
  | .fabRb sel => Sys2Proof.Machine.execFabRb sel s
  | .bypass => Sys2Proof.Machine.execBypass s
  | .testLogicReset => Sys2Proof.Machine.execTestLogicReset s
  | .bistRunComplete found => Sys2Proof.Machine.execBistRunComplete found s
  | .shutdownOrderlyComplete found => Sys2Proof.Machine.execShutdownOrderlyComplete found s
  | .lcTransitionComplete weak => Sys2Proof.Machine.execLcTransitionComplete weak s
  | .hbmSelfRefreshExit c => Sys2Proof.Machine.execHbmSelfRefreshExit c s
  | .pcieLinkUp speed width => Sys2Proof.Machine.execPcieLinkUp speed width s
  | .sliceEnd found => Sys2Proof.Machine.execSliceEnd found s
  | .newClockArrival g => Sys2Proof.Machine.execNewClockArrival g s
  | .supplyPowerGoodLoss => Sys2Proof.Machine.execSupplyPowerGoodLoss s
  | .seqPgRise => Sys2Proof.Machine.execSeqPgRise s
  | .throttleRelease => Sys2Proof.Machine.execThrottleRelease s

end Sys2Proof.Machine
end

