-- ==== Sys2Proof/Machine/Tick.lean ====
section
/-!
DEFINITION. What an empty queue does: one tick of 1.6 ns passes (R149, R155, R218, R247, R277, R303, R373; DESIGN CHOICE).
-/

namespace Sys2Proof.Machine

/-- TB_TIME counts 100 ps; a tick is 16 of them (R155). -/
def State.tickTime (s : State) : State := s.wr64 0x80030 (s.now + 16)

/-- PWR_LEHR_TIME counts 1/32,768 s, which is 156,250,000/512 of 100 ps, in 48 bits (R373). -/
def State.tickLehr (s : State) : State :=
  let a := s.lehr.acc + 16 * 512
  if a < 156250000 then s.withLehr { s.lehr with acc := a }
  else (s.withLehr { s.lehr with acc := a - 156250000 }).wr64 0x10068 ((s.rd64 0x10068 + 1) % 2 ^ 48)

/-- NOC_FRAME counts frames of 128 router cycles of 2/3 ns: a tick is 12/5 of a cycle (R247). -/
def State.tickNoc (s : State) : State :=
  let a := s.noc.acc + 12
  if a < 640 then s.withNoc { s.noc with acc := a }
  else (s.withNoc { s.noc with acc := a - 640 }).wr64 0x90008 (s.rd64 0x90008 + 1)

/-- PTP offsets written before this tick come into force (R277). -/
def State.tickPtp (s : State) : State :=
  forEach (upTo 4) (fun e s =>
    match (s.ethp e).ofsNext with
    | some o => s.setEthp e { s.ethp e with ofsSec := o.1, ofsNs := o.2, ofsNext := none }
    | none => s) s

/-- A pair test pass takes at most 60 µs (R385): it ends 60 µs after it began. -/
def State.tickTest (s : State) : State :=
  if s.on F.FLT_STAT_TEST_BUSY && decide (s.flt.testAt + 600000 ≤ s.real) then s.wr F.FLT_STAT_TEST_BUSY 0 else s

/-- One tick. While the spine is off, the lehr alone runs (R14). DESIGN CHOICE (log entry 147): a count registered in the tick in
which a rise of ENC_Z is accepted comes before the copy of TB_POS. -/
def State.tick (s : State) : State :=
  s.endClock (
    if s.live then s.registerCounts.sampleAB.sampleZ.tickFab.tickTime.tickLehr.tickNoc.tickPtp.creditTick.tickTest
    else if s.lehrOn then s.tickLehr else s)

end Sys2Proof.Machine
end

