-- ==== Sys2Proof/WellFormed.lean ====
section
/-!
DEFINITION. Which terms of `Instr` are written as the operation's encoding carries them: the operands whose type is wider than
that are checked here. `exec` runs the others too, as the docstrings of their meanings say.
-/

namespace Sys2Proof

/-- Does the term say no more and no less than the operation carries? Data end within a gob-in side (R83), a training tells of
24 lanes (R189), a beat has eight places (R192), a request of the host has a byte (R269), a TRIGGER names a target for each
region that its marks merge (R180). -/
def Instr.wf (c : Instr) : Bool :=
  match c with
  | .gobInDataWrite _ off bytes => decide (off.val + bytes.length ≤ 2048)
  | .gthTrainDone _ lanes => lanes.length == 24
  | .pixelBusBeat _ b => b.pix.length == 8
  | .bar2Request _ n none _ _ => decide (1 ≤ n.val)
  | .bar2Request _ _ (some bs) _ _ => decide (1 ≤ bs.length)
  | .bar4Request _ n _ _ => decide (1 ≤ n.val)
  | .trigger _ _ _ _ marks targets =>
    targets.map (fun x => x.1.val) == (List.range 16).filter fun n => marks.toNat / 4 ^ n % 4 == 2
  | _ => true

end Sys2Proof
end

