-- ==== Sys2Proof/Safety.lean ====
section
/-!
DEFINITION. The terms the statements use: the parts of the state, what it means that a command leaves a part as it was,
the canonical form of every store, and what one-time-programmable memory may do.
-/

namespace Sys2Proof.Machine

/-- The parts of the state: control space by blocks (a gaffer's EVT_LOST_CNT and its pending counts, which every event may
change, are a part of their own), then every other field of `State`. -/
inductive Part
  | sysRegs | pwrRegs | clkRegs | fltRegs | evtRegs | lcsRegs | cfgRegs | bstRegs | tbRegs | nocRegs | dmaRegs
  | stoRegs | gafRegs | waitRegs | mpuRegs | secRegs | ircRegs | gthRegs | mrvRegs | hbmRegs | pciRegs | ethRegs
  | windowRegs | pending | latch | shadow | steps | routes | dm | dmBad | results | stamps | gobIn | gobOut
  | reqArea | retBuf | farIn | tiles | gafs | ports | hbm | hbmBad | hbmSoft | tb | irc | pbs | mrv | rings
  | strobes | discardEv | slots | noc | dma | fab | mbx | pcie | bar4 | hbmHeld | eth | mcLog | evtSent | cstore
  | ldr | nand | sto | flt | pwr | lehr | start | bst | otp | lcs | jtag | dbgReads | spineOn | free | out
  deriving DecidableEq, Repr

/-- The part of control space an offset belongs to (R24). -/
def regPart (off : Nat) : Part :=
  if off < 0x10000 then .sysRegs else
  if off < 0x20000 then .pwrRegs else
  if off < 0x30000 then .clkRegs else
  if off < 0x40000 then .fltRegs else
  if off < 0x50000 then .evtRegs else
  if off < 0x60000 then .lcsRegs else
  if off < 0x70000 then .cfgRegs else
  if off < 0x80000 then .bstRegs else
  if off < 0x90000 then .tbRegs else
  if off < 0xa0000 then .nocRegs else
  if off < 0xb0000 then .dmaRegs else
  if off < 0x100000 then .stoRegs else
  if off < 0x200000 then
    if off % 0x10000 = 0x3c ∨ off % 0x10000 = 0x44 ∨ off % 0x10000 = 0x48 then .waitRegs else .gafRegs
  else
  if off < 0xa00000 then .mpuRegs else
  if off < 0xb00000 then .secRegs else
  if off < 0xc00000 then .ircRegs else
  if off < 0xc80000 then .gthRegs else
  if off < 0xe00000 then .mrvRegs else
  if off < 0xf00000 then .hbmRegs else
  if off < 0xf10000 then .pciRegs else
  if off < 0x1000000 then .ethRegs else .windowRegs

/-- Does the part hold the same in both states? -/
def Part.same (p : Part) (s t : State) : Prop :=
  match p with
  | .pending => t.pending = s.pending
  | .latch => t.latch = s.latch
  | .shadow => t.shadow = s.shadow
  | .steps => t.steps = s.steps
  | .routes => t.routes = s.routes
  | .dm => t.dm = s.dm
  | .dmBad => t.dmBad = s.dmBad
  | .results => t.results = s.results
  | .stamps => t.stamps = s.stamps
  | .gobIn => t.gobIn = s.gobIn
  | .gobOut => t.gobOut = s.gobOut
  | .reqArea => t.reqArea = s.reqArea
  | .retBuf => t.retBuf = s.retBuf
  | .farIn => t.farIn = s.farIn
  | .tiles => t.tiles = s.tiles
  | .gafs => t.gafs = s.gafs
  | .ports => t.ports = s.ports
  | .hbm => t.hbm = s.hbm
  | .hbmBad => t.hbmBad = s.hbmBad
  | .hbmSoft => t.hbmSoft = s.hbmSoft
  | .tb => t.tb = s.tb
  | .irc => t.irc = s.irc
  | .pbs => t.pbs = s.pbs
  | .mrv => t.mrv = s.mrv
  | .rings => t.rings = s.rings
  | .strobes => t.strobes = s.strobes
  | .discardEv => t.discardEv = s.discardEv
  | .slots => t.slots = s.slots
  | .noc => t.noc = s.noc
  | .dma => t.dma = s.dma
  | .fab => t.fab = s.fab
  | .mbx => t.mbx = s.mbx
  | .pcie => t.pcie = s.pcie
  | .bar4 => t.bar4 = s.bar4
  | .hbmHeld => t.hbmHeld = s.hbmHeld
  | .eth => t.eth = s.eth
  | .mcLog => t.mcLog = s.mcLog
  | .evtSent => t.evtSent = s.evtSent
  | .cstore => t.cstore = s.cstore
  | .ldr => t.ldr = s.ldr
  | .nand => t.nand = s.nand
  | .sto => t.sto = s.sto
  | .flt => t.flt = s.flt
  | .pwr => t.pwr = s.pwr
  | .lehr => t.lehr = s.lehr
  | .start => t.start = s.start
  | .bst => t.bst = s.bst
  | .otp => t.otp = s.otp
  | .lcs => t.lcs = s.lcs
  | .jtag => t.jtag = s.jtag
  | .dbgReads => t.dbgReads = s.dbgReads
  | .spineOn => t.spineOn = s.spineOn
  | .free => t.free = s.free
  | .out => t.out = s.out
  | p => ∀ off, regPart off = p → t.reg off = s.reg off

/-- Every store is in its canonical form. -/
structure Canon (s : State) : Prop where
  regs : Tab.wf regReset s.regs
  latch : Tab.wf regReset s.latch
  steps : Tab.wf (fun _ => (0 : StepWord)) s.steps
  routes : Tab.wf (fun _ => 0) s.routes
  dm : Tab.wf (fun _ => false) s.dm
  dmBad : Tab.wf (fun _ => false) s.dmBad
  results : Tab.wf (fun _ => false) s.results
  stamps : Tab.wf (fun _ => 0) s.stamps
  gobIn : Bytes.wf s.gobIn
  gobOut : Bytes.wf s.gobOut
  reqArea : Bytes.wf s.reqArea
  retBuf : Bytes.wf s.retBuf
  farIn : Tab.wf (fun _ => 0) s.farIn
  hbm : Bytes.wf s.hbm
  hbmBad : Tab.wf (fun _ => false) s.hbmBad
  hbmSoft : Tab.wf (fun _ => false) s.hbmSoft

/-- One-time-programmable memory only gains bits (R416): no bit of the LC word clears, and a destroyed key stays so. -/
def Otp.grows (a b : Otp) : Prop :=
  (∀ i, a.lc.testBit i = true → b.lc.testBit i = true) ∧ (a.destroyed = true → b.destroyed = true)

/-- The parts an occurrence of an event source may change: its pending bit, the gaffers' wait counts, DMA descriptors that
wait for it, the pending MSI-X bits, the core's log, and what an EVENT frame takes (R261, R282–R285). -/
def eventParts : List Part := [.evtRegs, .waitRegs, .dma, .pcie, .bar4, .mcLog, .evtSent, .tb, .out]

/-- Every block of control space but the events and the gaffers' pending counts, which a write of a register may change. -/
def regParts : List Part :=
  [.sysRegs, .pwrRegs, .clkRegs, .fltRegs, .lcsRegs, .cfgRegs, .bstRegs, .tbRegs, .nocRegs, .dmaRegs, .stoRegs,
   .gafRegs, .mpuRegs, .secRegs, .ircRegs, .gthRegs, .mrvRegs, .hbmRegs, .pciRegs, .ethRegs, .windowRegs]

/-- The parts an access to HBM may change: its stores, what waits for a sleeping stack, its votes, errors and faults. -/
def hbmParts : List Part :=
  [.sysRegs, .pwrRegs, .fltRegs, .hbmRegs, .hbm, .hbmBad, .hbmSoft, .rings, .hbmHeld, .flt, .pwr]

/-- The parts of the state a command may change: every other part it leaves as it was, and the queue always. -/
def footprint (c : Instr) : List Part :=
  match c with
  | .registerWrite .. | .remap .. | .verify .. | .ringDescriptorWrite .. | .arm .. | .cplLoad .. | .quarClr ..
  | .train .. | .mrvEnWrite .. | .coefWrite .. | .nocCtrlSwitch .. | .dmaTailWrite .. | .dmaAbort .. | .dmaEnWrite ..
  | .dmaCplTailWrite .. | .ptpOfsNsWrite .. | .mbxTailWrite .. | .mbxCplTailWrite .. | .evtPendWrite ..
  | .stoEnWrite .. | .stoReleaseWrite .. | .stoAbort .. | .cfgProgWriteSlot .. | .cfgProgEraseSlot ..
  | .cfgProgWriteBootRecord .. | .cfgProgReadSlot .. | .cfgProgEraseParison .. | .confirm .. | .pwrVoteWrite ..
  | .s4Req .. | .pwrSaveOfsWrite .. | .apply .. | .lcsDbgRelease .. =>
    eventParts ++ regParts ++ hbmParts ++ [.gobIn, .tiles, .irc, .mrv, .slots, .fab, .mbx, .eth, .cstore, .ldr,
      .nand, .sto, .lehr, .start, .lcs, .free]
  | .loCaptureRead .. | .counterSnapshotRead .. | .tsIdRead .. =>
    eventParts ++ regParts ++ [.shadow, .eth, .jtag, .dbgReads]
  | .arrayDebugWindowAccess .. | .bar0Request .. | .dbgMem .. =>
    eventParts ++ regParts ++ hbmParts ++ [.shadow, .gobIn, .tiles, .irc, .mrv, .slots, .fab, .mbx, .eth, .cstore,
      .ldr, .nand, .sto, .lehr, .start, .lcs, .jtag, .dbgReads, .free]
  | .debugDmReadTimeout .. =>
    [.sysRegs, .jtag, .dbgReads, .out]
  | .remapCopyDone .. =>
    eventParts ++ [.pwrRegs, .bstRegs, .mpuRegs, .secRegs, .steps, .routes, .cstore, .ldr, .pwr, .bst]
  | .verifyPassEnd .. =>
    eventParts ++ [.pwrRegs, .mpuRegs, .secRegs, .routes, .pwr, .free]
  | .dmClearEnd .. =>
    [.gafs]
  | .stepNop .. =>
    []
  | .eval .. | .evalEn .. | .brk .. =>
    eventParts ++ [.pwrRegs, .fltRegs, .gafRegs, .mpuRegs, .pciRegs, .windowRegs, .routes, .dm, .dmBad, .results,
      .tiles, .gafs, .ports, .mbx, .flt, .pwr, .jtag]
  | .stepIn .. | .mdata .. =>
    [.mpuRegs, .windowRegs, .dm, .dmBad, .results, .tiles]
  | .stepOut .. =>
    eventParts ++ [.pwrRegs, .fltRegs, .gafRegs, .mpuRegs, .pciRegs, .windowRegs, .routes, .dmBad, .stamps, .gobOut,
      .tiles, .gafs, .ports, .mbx, .flt, .pwr, .jtag]
  | .mreq .. =>
    eventParts ++ [.pwrRegs, .fltRegs, .gafRegs, .mpuRegs, .pciRegs, .windowRegs, .routes, .dmBad, .stamps, .reqArea,
      .tiles, .gafs, .ports, .mbx, .flt, .pwr, .jtag]
  | .invalidStepWord .. =>
    eventParts ++ [.fltRegs, .mpuRegs, .steps, .flt]
  | .cycleBoundaryB0 .. =>
    eventParts ++ [.pwrRegs, .fltRegs, .gafRegs, .mpuRegs, .pciRegs, .routes, .gobIn, .farIn, .tiles, .gafs, .ports,
      .mbx, .flt, .pwr, .jtag]
  | .foldCompare .. =>
    eventParts ++ [.pwrRegs, .fltRegs, .gafRegs, .mpuRegs, .secRegs, .pciRegs, .gafs, .ports, .mbx, .flt, .pwr,
      .jtag]
  | .gobOutCommit .. =>
    eventParts ++ [.sysRegs, .pwrRegs, .fltRegs, .tbRegs, .dmaRegs, .gafRegs, .mpuRegs, .hbmRegs, .ethRegs, .gobIn,
      .gobOut, .farIn, .tiles, .gafs, .ports, .hbm, .hbmBad, .hbmSoft, .fab, .hbmHeld, .eth, .flt, .pwr, .free]
  | .memoryCheck .. | .stallEnd .. | .stallBoundExpiry .. =>
    eventParts ++ [.gafRegs, .mpuRegs, .retBuf, .tiles, .gafs, .ports]
  | .specialOperandLatch .. =>
    [.mpuRegs, .latch, .reqArea, .tiles, .gafs]
  | .windowFix .. | .gafferNop .. | .waitTrig .. | .selectWindow .. | .xchg .. | .setStall .. | .mark .. | .jump .. =>
    [.gafRegs, .gafs]
  | .cycleEnd .. =>
    eventParts ++ [.pwrRegs, .fltRegs, .tbRegs, .gafRegs, .mpuRegs, .pciRegs, .latch, .dm, .dmBad, .results, .stamps,
      .retBuf, .tiles, .gafs, .ports, .mbx, .pwr, .jtag, .dbgReads]
  | .gobInDataWrite .. | .gobInClose .. =>
    eventParts ++ [.pwrRegs, .mpuRegs, .gobIn, .tiles, .pwr]
  | .waitEvt .. =>
    [.gafRegs, .waitRegs, .gafs]
  | .run .. =>
    eventParts ++ [.pwrRegs, .fltRegs, .gafRegs, .mpuRegs, .pciRegs, .latch, .results, .stamps, .tiles, .gafs,
      .ports, .mbx, .flt, .pwr, .jtag]
  | .loop .. | .endloop .. | .programError .. =>
    eventParts ++ [.pwrRegs, .fltRegs, .gafRegs, .mpuRegs, .pciRegs, .gafs, .ports, .mbx, .flt, .pwr, .jtag]
  | .inject .. | .signal .. =>
    eventParts ++ [.gafRegs, .gafs]
  | .injectDeliveryEnd .. =>
    eventParts ++ [.pwrRegs, .fltRegs, .gafRegs, .mpuRegs, .hbmRegs, .gobIn, .tiles, .gafs, .hbmBad, .hbmSoft, .flt,
      .pwr]
  | .commit .. =>
    eventParts ++ [.sysRegs, .pwrRegs, .fltRegs, .gafRegs, .hbmRegs, .gafs, .hbm, .hbmBad, .hbmSoft, .hbmHeld, .flt,
      .pwr]
  | .commitDrainEnd .. =>
    eventParts ++ [.sysRegs, .pwrRegs, .fltRegs, .hbmRegs, .gafs, .hbm, .hbmBad, .hbmSoft, .hbmHeld, .flt, .pwr]
  | .halt .. =>
    eventParts ++ [.pwrRegs, .gafRegs, .mpuRegs, .gafs, .ports, .pwr]
  | .readLanding .. =>
    eventParts ++ [.mpuRegs, .ports]
  | .writeAck .. =>
    [.mpuRegs, .ports]
  | .hbmRequest .. | .hbmTrainingTimeout .. =>
    eventParts ++ hbmParts ++ [.mpuRegs, .ports]
  | .patrolScrub .. =>
    eventParts ++ [.fltRegs, .hbmRegs, .hbmBad, .hbmSoft, .flt]
  | .hbmTempHigh .. =>
    eventParts ++ [.hbmRegs]
  | .hbmTraining .. =>
    eventParts ++ hbmParts ++ [.clkRegs, .mpuRegs, .ports]
  | .hbmSelfRefreshEntry .. | .powerDownDrainEnd .. =>
    [.pwr]
  | .encoderEdge .. =>
    eventParts ++ [.tbRegs, .lehr]
  | .encZEdge .. | .ackRetryTimer .. | .electQuietExpiry .. | .heartbeatLoss .. =>
    eventParts ++ [.tbRegs]
  | .triggerRelease .. =>
    eventParts ++ [.cfgRegs, .tbRegs, .gafRegs, .gthRegs, .gafs, .pbs, .strobes, .pwr]
  | .triggerPortStrobe .. =>
    [.strobes, .fab, .out]
  | .hello .. | .dlyReq .. | .dlyResp .. | .elect .. | .epoch .. | .joinReq .. | .joinAck .. | .leave .. | .status ..
  | .trigger .. | .event .. | .ack .. | .nack .. | .ircLinkDown .. =>
    eventParts ++ [.tbRegs, .ircRegs, .irc]
  | .heartbeat .. =>
    eventParts ++ [.tbRegs, .ircRegs, .irc, .free]
  | .far .. =>
    eventParts ++ [.tbRegs, .mpuRegs, .ircRegs, .farIn, .tiles, .irc]
  | .helloTimer .. | .heartbeatTimer .. | .memberLoss .. | .joinRetryTimer .. =>
    [.tb, .out]
  | .hopMeasureTimer .. =>
    [.tb, .irc, .out]
  | .epochActivation .. =>
    eventParts ++ [.tbRegs, .ircRegs]
  | .ircBackoffExpiry .. | .quarantineExpiry .. =>
    [.ircRegs]
  | .ircLinkUp .. =>
    eventParts ++ [.ircRegs]
  | .gthTrainDone .. =>
    eventParts ++ [.pwrRegs, .gthRegs, .start]
  | .eyeTrack .. =>
    eventParts ++ [.gthRegs]
  | .laneWord .. =>
    eventParts ++ [.gthRegs, .discardEv]
  | .pixelBusBeat .. =>
    eventParts ++ hbmParts ++ [.mpuRegs, .gthRegs, .mrvRegs, .gobIn, .tiles, .pbs, .mrv, .free]
  | .endOfRowMark .. =>
    eventParts ++ [.pwrRegs, .mpuRegs, .mrvRegs, .gobIn, .tiles, .mrv, .pwr]
  | .candidateClose .. =>
    eventParts ++ hbmParts ++ [.mrvRegs, .mrv, .free]
  | .patchComplete .. =>
    eventParts ++ hbmParts ++ [.mrv]
  | .gobSwapNotice .. =>
    eventParts ++ [.pwrRegs, .mpuRegs, .gobIn, .tiles, .gafs, .mrv, .pwr]
  | .mergeNotice .. =>
    [.gafs, .mrv]
  | .globalLineSwitch .. | .newClockArrival .. =>
    [.cfgRegs, .fab]
  | .clockStuck .. =>
    eventParts ++ [.cfgRegs, .fab]
  | .vccoChange .. =>
    eventParts ++ [.cfgRegs]
  | .windowPortRequest .. | .dmaDescriptorStart .. | .dmaDescriptorComplete .. =>
    eventParts ++ [.sysRegs, .pwrRegs, .fltRegs, .dmaRegs, .mpuRegs, .hbmRegs, .ethRegs, .gobIn, .tiles, .hbm,
      .hbmBad, .hbmSoft, .fab, .hbmHeld, .eth, .flt, .pwr]
  | .windowPortAnswer .. | .windowTimeout .. =>
    eventParts ++ [.sysRegs, .pwrRegs, .fltRegs, .cfgRegs, .dmaRegs, .mpuRegs, .hbmRegs, .ethRegs, .gobIn, .tiles,
      .hbm, .hbmBad, .hbmSoft, .strobes, .fab, .hbmHeld, .eth, .flt, .pwr]
  | .nocBankSwitch .. =>
    eventParts ++ [.nocRegs]
  | .nocPacket .. =>
    eventParts ++ [.sysRegs, .pwrRegs, .fltRegs, .nocRegs, .mpuRegs, .gobIn, .tiles, .gafs, .noc, .cstore, .flt,
      .pwr, .lehr]
  | .gatewayRequest .. | .wakeHoldExpiry .. =>
    eventParts ++ [.pwrRegs, .pwr]
  | .descriptorFetch .. =>
    eventParts ++ [.sysRegs, .pwrRegs, .fltRegs, .dmaRegs, .hbmRegs, .pciRegs, .hbm, .hbmBad, .hbmSoft, .hbmHeld,
      .flt, .pwr]
  | .pciePerstDeassert .. =>
    [.pcie]
  | .pcieReady .. | .bar4Request .. | .unsupportedRequest .. | .pcieLinkUp .. =>
    eventParts ++ [.pciRegs]
  | .fundamentalReset .. | .hotReset .. | .pcieLinkDown .. | .functionLevelReset .. =>
    eventParts ++ [.sysRegs, .pwrRegs, .fltRegs, .dmaRegs, .hbmRegs, .pciRegs, .hbm, .hbmBad, .hbmSoft, .fab, .mbx,
      .hbmHeld, .flt, .pwr]
  | .configurationRequest .. | .challenge .. | .getMeasurements .. =>
    eventParts ++ [.free]
  | .bar2Request .. =>
    eventParts ++ hbmParts ++ [.pciRegs]
  | .hostCompletion .. =>
    eventParts ++ [.sysRegs, .pwrRegs, .fltRegs, .dmaRegs, .mpuRegs, .hbmRegs, .pciRegs, .ethRegs, .gobIn, .tiles,
      .hbm, .hbmBad, .hbmSoft, .fab, .hbmHeld, .eth, .flt, .pwr]
  | .completionTimeout .. =>
    eventParts ++ [.sysRegs, .pwrRegs, .fltRegs, .dmaRegs, .hbmRegs, .pciRegs, .hbm, .hbmBad, .hbmSoft, .fab,
      .hbmHeld, .flt, .pwr]
  | .msixUnmask .. =>
    [.pcie, .bar4, .out]
  | .ethFrameReceived .. =>
    eventParts ++ [.sysRegs, .pwrRegs, .fltRegs, .hbmRegs, .ethRegs, .hbm, .hbmBad, .hbmSoft, .hbmHeld, .eth, .flt,
      .pwr]
  | .ethLinkChange .. =>
    eventParts ++ [.ethRegs]
  | .badOpcode .. | .storeRead .. =>
    eventParts ++ [.pciRegs, .mbx, .jtag]
  | .loadImage .. =>
    eventParts ++ [.sysRegs, .pwrRegs, .fltRegs, .cfgRegs, .gafRegs, .pciRegs, .mbx, .ldr, .pwr, .jtag]
  | .fullLoadComplete .. =>
    eventParts ++ regParts ++ hbmParts ++ [.steps, .routes, .gobIn, .tiles, .gafs, .ports, .irc, .mrv, .strobes,
      .slots, .fab, .mbx, .eth, .cstore, .ldr, .nand, .sto, .lehr, .start, .bst, .lcs, .jtag, .dbgReads, .free]
  | .hostWaitExpiry .. | .pllTimeoutExpiry .. =>
    eventParts ++ [.sysRegs, .pwrRegs, .fltRegs, .cfgRegs, .tbRegs, .stoRegs, .gafRegs, .mpuRegs, .ircRegs, .gthRegs,
      .mrvRegs, .pciRegs, .ethRegs, .gafs, .ports, .mrv, .strobes, .fab, .mbx, .cstore, .ldr, .sto, .flt, .pwr,
      .jtag, .dbgReads]
  | .stageParison .. =>
    eventParts ++ [.cfgRegs, .pciRegs, .mbx, .cstore, .ldr, .jtag]
  | .parisonStageComplete .. =>
    eventParts ++ [.pwrRegs, .fltRegs, .cfgRegs, .hbmRegs, .pciRegs, .hbmBad, .hbmSoft, .mbx, .cstore, .ldr, .flt,
      .pwr, .jtag]
  | .commitParison .. =>
    eventParts ++ [.sysRegs, .pwrRegs, .fltRegs, .cfgRegs, .dmaRegs, .gafRegs, .mpuRegs, .hbmRegs, .pciRegs,
      .ethRegs, .gobIn, .tiles, .hbm, .hbmBad, .hbmSoft, .strobes, .fab, .mbx, .hbmHeld, .eth, .ldr, .flt, .pwr,
      .jtag]
  | .parisonCommitComplete .. =>
    eventParts ++ regParts ++ [.latch, .steps, .routes, .dm, .dmBad, .gobIn, .retBuf, .tiles, .gafs, .ports, .hbm,
      .hbmBad, .hbmSoft, .strobes, .slots, .fab, .mbx, .hbmHeld, .eth, .ldr, .flt, .pwr, .bst, .lcs, .jtag]
  | .regionStart .. | .regionRestart .. =>
    eventParts ++ [.pwrRegs, .fltRegs, .tbRegs, .gafRegs, .mpuRegs, .pciRegs, .latch, .dm, .dmBad, .retBuf, .tiles,
      .gafs, .ports, .mbx, .pwr, .jtag]
  | .regionStop .. =>
    eventParts ++ [.pwrRegs, .gafRegs, .mpuRegs, .pciRegs, .gafs, .ports, .mbx, .pwr, .jtag]
  | .setPerfLevel .. | .supplySettled .. | .supplySettleTimeout .. =>
    eventParts ++ [.pwrRegs, .pciRegs, .mbx, .pwr, .jtag]
  | .perfSwitchWindow .. =>
    eventParts ++ [.pwrRegs, .clkRegs, .gafRegs, .mpuRegs, .secRegs, .pciRegs, .latch, .results, .stamps, .tiles,
      .gafs, .mbx, .pwr, .jtag]
  | .pmbAlert .. | .xtalGood .. | .xtalLoss .. =>
    eventParts ++ [.pwrRegs]
  | .bistRun .. =>
    eventParts ++ [.pwrRegs, .bstRegs, .pciRegs, .mbx, .pwr, .jtag]
  | .shutdownOrderly .. =>
    eventParts ++ [.pwrRegs, .bstRegs, .stoRegs, .gafRegs, .mpuRegs, .pciRegs, .gafs, .ports, .mbx, .nand, .sto,
      .pwr, .bst, .jtag]
  | .lcTransition .. | .debugAuthRelease .. =>
    eventParts ++ [.lcsRegs, .pciRegs, .mbx, .lcs, .jtag]
  | .debugAuthChallenge .. =>
    eventParts ++ [.sysRegs, .pwrRegs, .fltRegs, .hbmRegs, .pciRegs, .hbm, .hbmBad, .hbmSoft, .mbx, .hbmHeld, .flt,
      .pwr, .lcs, .jtag, .free]
  | .debugAuthResponse .. =>
    eventParts ++ [.pwrRegs, .fltRegs, .lcsRegs, .hbmRegs, .pciRegs, .hbmSoft, .mbx, .flt, .pwr, .lehr, .lcs, .jtag]
  | .attest .. =>
    eventParts ++ [.sysRegs, .pwrRegs, .fltRegs, .lcsRegs, .hbmRegs, .pciRegs, .hbm, .hbmBad, .hbmSoft, .mbx,
      .hbmHeld, .flt, .pwr, .jtag, .free]
  | .storeCommit .. =>
    eventParts ++ [.stoRegs, .pciRegs, .mbx, .nand, .sto, .jtag]
  | .stoLineReady .. =>
    eventParts ++ [.pwrRegs, .fltRegs, .stoRegs, .hbmRegs, .hbmBad, .hbmSoft, .nand, .sto, .flt, .pwr]
  | .lineWaitExpiry .. | .stoCommitFinish .. | .grownBadBlock .. =>
    eventParts ++ [.stoRegs, .nand, .sto]
  | .storeReadComplete .. =>
    eventParts ++ [.sysRegs, .pwrRegs, .fltRegs, .stoRegs, .hbmRegs, .pciRegs, .hbm, .hbmBad, .hbmSoft, .mbx,
      .hbmHeld, .flt, .pwr, .jtag]
  | .cfgProgDone .. =>
    eventParts ++ [.sysRegs, .pwrRegs, .fltRegs, .cfgRegs, .hbmRegs, .hbm, .hbmBad, .hbmSoft, .hbmHeld, .cstore,
      .ldr, .flt, .pwr, .free]
  | .fabricScrubPass .. =>
    eventParts ++ [.sysRegs, .pwrRegs, .fltRegs, .cfgRegs, .dmaRegs, .gafRegs, .mpuRegs, .hbmRegs, .ethRegs, .gobIn,
      .tiles, .hbm, .hbmBad, .hbmSoft, .strobes, .fab, .hbmHeld, .eth, .ldr, .flt, .pwr]
  | .windowScrubPass .. =>
    eventParts ++ [.sysRegs, .pwrRegs, .fltRegs, .cfgRegs, .dmaRegs, .gafRegs, .mpuRegs, .hbmRegs, .ethRegs, .gobIn,
      .tiles, .hbm, .hbmBad, .hbmSoft, .strobes, .fab, .hbmHeld, .eth, .ldr, .flt, .pwr, .free]
  | .storePatrol .. =>
    eventParts ++ [.fltRegs, .cfgRegs, .cstore, .flt]
  | .coldStart .. | .warmStart .. | .powerLoss .. | .spineCut .. | .s4Wake .. | .f1ResetAssert .. =>
    eventParts ++ regParts ++ hbmParts ++ [.latch, .shadow, .steps, .routes, .dm, .dmBad, .results, .stamps, .gobIn,
      .gobOut, .reqArea, .retBuf, .farIn, .tiles, .gafs, .ports, .irc, .pbs, .mrv, .strobes, .discardEv, .slots,
      .noc, .fab, .mbx, .eth, .cstore, .ldr, .nand, .sto, .lehr, .start, .bst, .otp, .lcs, .jtag, .dbgReads,
      .spineOn, .free]
  | .releaseBegin .. =>
    [.fab]
  | .releaseGapExpiry .. =>
    eventParts ++ [.sysRegs, .pwrRegs, .clkRegs, .fltRegs, .cfgRegs, .tbRegs, .stoRegs, .gafRegs, .mpuRegs, .secRegs,
      .gthRegs, .hbmRegs, .ethRegs, .latch, .dm, .dmBad, .retBuf, .tiles, .gafs, .ports, .fab, .cstore, .nand, .sto,
      .lehr, .start, .free]
  | .autoConfirm .. =>
    eventParts ++ [.sysRegs, .cstore, .start]
  | .powerGatingComplete .. =>
    eventParts ++ [.pwrRegs, .secRegs, .hbmRegs, .steps, .routes, .dm, .dmBad, .gobIn, .gobOut, .reqArea, .retBuf,
      .farIn, .pwr, .bst]
  | .sectorWakeComplete .. =>
    eventParts ++ [.sysRegs, .pwrRegs, .fltRegs, .cfgRegs, .tbRegs, .dmaRegs, .gafRegs, .mpuRegs, .secRegs, .hbmRegs,
      .pciRegs, .latch, .steps, .routes, .dm, .dmBad, .gobIn, .retBuf, .tiles, .gafs, .ports, .hbm, .hbmBad,
      .hbmSoft, .fab, .mbx, .hbmHeld, .flt, .pwr, .start, .bst, .jtag]
  | .wakeN .. | .encWake .. | .perstWake .. | .timerWake .. =>
    eventParts ++ [.pwrRegs, .pwr, .lehr]
  | .pllLock .. =>
    eventParts ++ [.pwrRegs, .clkRegs, .gafRegs, .mpuRegs, .pciRegs, .latch, .results, .stamps, .tiles, .gafs, .fab,
      .mbx, .pwr, .jtag]
  | .pllUnlock .. =>
    eventParts ++ [.sysRegs, .pwrRegs, .clkRegs, .fltRegs, .gafRegs, .mpuRegs, .pciRegs, .gafs, .ports, .mbx,
      .cstore, .flt, .pwr, .lehr, .jtag, .free]
  | .faultOccurrence .. =>
    eventParts ++ [.sysRegs, .pwrRegs, .fltRegs, .cfgRegs, .tbRegs, .stoRegs, .gafRegs, .mpuRegs, .secRegs, .ircRegs,
      .gthRegs, .mrvRegs, .hbmRegs, .pciRegs, .ethRegs, .steps, .routes, .dm, .dmBad, .gobIn, .gobOut, .reqArea,
      .retBuf, .farIn, .gafs, .ports, .mrv, .strobes, .fab, .mbx, .cstore, .ldr, .sto, .flt, .pwr, .lehr, .bst,
      .jtag, .dbgReads]
  | .brokenWire .. =>
    eventParts ++ [.sysRegs, .pwrRegs, .fltRegs, .cfgRegs, .tbRegs, .stoRegs, .gafRegs, .mpuRegs, .secRegs, .ircRegs,
      .gthRegs, .mrvRegs, .hbmRegs, .pciRegs, .ethRegs, .steps, .routes, .dm, .dmBad, .gobIn, .gobOut, .reqArea,
      .retBuf, .farIn, .gafs, .ports, .mrv, .strobes, .fab, .mbx, .cstore, .ldr, .sto, .flt, .pwr, .lehr, .bst,
      .jtag, .dbgReads, .free]
  | .pairTest .. | .lcFaultPulseEnd .. =>
    [.fltRegs, .flt]
  | .pairTestTimeout .. =>
    eventParts ++ [.fltRegs, .flt, .free]
  | .mcWatchdog .. =>
    eventParts ++ [.sysRegs, .fltRegs, .gafs, .cstore, .flt, .lehr]
  | .periodicSlice .. =>
    eventParts ++ [.pwrRegs, .bstRegs, .pwr, .bst]
  | .idleGapScan .. =>
    [.bstRegs, .dmBad, .bst]
  | .grantExpiry .. =>
    eventParts ++ [.lcsRegs, .lcs]
  | .lockoutExpiry .. =>
    [.lcsRegs, .lehr]
  | .getVersion .. | .getCapabilities .. | .negotiateAlgorithms .. | .getDigests .. | .getCertificate ..
  | .spdmUnsupportedRequest .. =>
    eventParts
  | .extest .. | .idcode .. | .samplePreload .. | .highz .. | .clamp .. | .extestPulse .. | .extestTrain ..
  | .fabRb .. | .bypass .. =>
    eventParts ++ [.lcsRegs, .jtag]
  | .lcsCmd .. =>
    eventParts ++ [.lcsRegs, .pciRegs, .mbx, .jtag]
  | .testLogicReset .. =>
    [.jtag]
  | .bistRunComplete .. =>
    eventParts ++ [.sysRegs, .pwrRegs, .fltRegs, .bstRegs, .gafRegs, .mpuRegs, .secRegs, .hbmRegs, .pciRegs, .steps,
      .routes, .dm, .dmBad, .gobIn, .gobOut, .reqArea, .retBuf, .farIn, .hbm, .hbmBad, .hbmSoft, .mbx, .hbmHeld,
      .cstore, .flt, .pwr, .bst, .jtag]
  | .shutdownOrderlyComplete .. =>
    eventParts ++ [.pwrRegs, .fltRegs, .cfgRegs, .bstRegs, .stoRegs, .gafRegs, .mpuRegs, .secRegs, .pciRegs, .steps,
      .routes, .dm, .dmBad, .gobIn, .gobOut, .reqArea, .retBuf, .farIn, .gafs, .ports, .strobes, .fab, .mbx, .cstore,
      .nand, .sto, .pwr, .lehr, .bst, .jtag]
  | .lcTransitionComplete .. =>
    eventParts ++ [.sysRegs, .pwrRegs, .fltRegs, .lcsRegs, .cfgRegs, .gafRegs, .mpuRegs, .pciRegs, .gafs, .ports,
      .hbm, .hbmBad, .hbmSoft, .strobes, .fab, .mbx, .cstore, .ldr, .pwr, .lehr, .start, .otp, .lcs, .jtag]
  | .hbmSelfRefreshExit .. =>
    eventParts ++ hbmParts
  | .sliceEnd .. =>
    eventParts ++ [.pwrRegs, .bstRegs, .mpuRegs, .secRegs, .steps, .routes, .dm, .dmBad, .gobIn, .gobOut, .reqArea,
      .retBuf, .farIn, .cstore, .pwr, .bst]
  | .supplyPowerGoodLoss .. | .seqPgRise .. =>
    [.fab, .lehr]
  | .throttleRelease .. =>
    eventParts ++ [.stoRegs]

/-- The command runs and answers a state of which `P` holds. -/
def Runs (c : Instr) (s : State) (P : State → Prop) : Prop := ∃ t, exec c s = .next t ∧ P t

/-- Every part but those named is as it was. -/
def Keeps (ps : List Part) (s t : State) : Prop := ∀ p, p ∉ ps → p.same s t

/-! ### What the statements observe -/

/-- The pending bit of an event source is 1 (R283). -/
abbrev Pends (s : State) (e : Nat) : Prop := s.rd (evtBit e) = 1

/-- A counter snapshot has counted one occurrence more; it stops at its largest value (R438). -/
abbrev Counted (s u : State) (f : Fld) : Prop := u.rd f = min 0xffffffff (s.rd f + 1)

/-- A read of an offset over a path has been answered with a value: on the path, or in what the punty port holds for the
next Capture-DR (R432). -/
abbrev Answers (s u : State) (p : Path) (off val : Nat) (err : Bool) : Prop :=
  match p with
  | .punty => u.jtag.access = val % 2 ^ 32 + 2 ^ 32 + 2 ^ 33 * b2n err
  | _ => u.out = s.out ++ [.read p off val]

/-- A mailbox command has completed: its entry stands in the completion ring where MBX_CPL_HEAD pointed, and the head has
moved on (R279). -/
abbrev Completed (s u : State) (c : MbxCmd) (status result : Nat) : Prop :=
  u.rd F.PCI_MBX_CPL_HEAD_HEAD = (s.rd F.PCI_MBX_CPL_HEAD_HEAD + 1) % 128 ∧
  (u.reg (0xf01800 + 16 * (s.rd F.PCI_MBX_CPL_HEAD_HEAD % 64))).toNat = c.num 2 2 + 2 ^ 16 * c.byte 0 + 2 ^ 24 * status ∧
  (u.reg (0xf01804 + 16 * (s.rd F.PCI_MBX_CPL_HEAD_HEAD % 64))).toNat = c.idx % 2 ^ 32 ∧
  (u.reg (0xf01808 + 16 * (s.rd F.PCI_MBX_CPL_HEAD_HEAD % 64))).toNat = result % 2 ^ 32

/-- A command of the host's queue whose completion the host sees. -/
abbrev MbxCmd.seen (c : MbxCmd) : Prop := c.punty = false ∧ c.dropped = false

/-- At step `k` of its window unit `p` of tile `t`, in region `n`, fetches the valid word `w` of a kind from step `st` of its
bank or stream. -/
abbrev State.fetches (s : State) (t p k kind n : Nat) (repl : Bool) (st w : Nat) : Prop :=
  s.unitAt t p k = some (n, repl, st) ∧ s.stepAt (stepKey repl (s.phys t) p st) = w ∧ stepKind w = kind ∧
  stepInvalid repl w = none

/-- The DM location that a step writes (R42, R68). -/
def dmLoc (repl : Bool) (st : Nat) : Nat := if repl then st % 2048 else st

/-- The value that lane `q` drove at step `k`. -/
abbrev State.drove (s : State) (t q k : Nat) : Bool := s.driven t q (k + 1) 1

/-- Gaffer `n` has reached the valid word `w` of an opcode and may execute it. -/
abbrev State.reaches (s : State) (n op w : Nat) : Prop :=
  s.issues n = true ∧ (s.gaf n).past = false ∧ s.progWord n (s.pcOf n) = w ∧ gafOp w = op ∧
  s.wordValid n (s.pcOf n) w = true

/-- Gaffer `n` goes on at the next word, or has run past its last. -/
abbrev Advanced (s u : State) (n : Nat) : Prop :=
  if s.pcOf n = 511 then (u.gaf n).past = true else u.pcOf n = s.pcOf n + 1

/-- Port `p` takes a well-formed frame that is for this device and that it has not taken before (R164–R168). -/
abbrev State.hears (s : State) (p : Nat) (h : FrameHdr) (m : IrcMsg) (release : Nat) : Prop :=
  s.linked p = true ∧ s.malformed p h m = none ∧ s.stale (ircType m) h release = false ∧
  (4 ≤ ircType m ∧ ircType m ≠ 15 →
    s.tb.seen.contains (h.src.val, ircType m, h.seq.toNat) = false ∧ (h.bcast = true ∨ h.dst.val = s.myId))

/-- The state in which a frame that port `p` takes acts: its copies count as seen, and a flooded one has gone on from the
other ports (R168). -/
def State.heard (s : State) (p : Nat) (h : FrameHdr) (m : IrcMsg) : State :=
  if ircType m ≤ 3 ∨ ircType m = 15 then s
  else
    let s1 := s.setTb { s.tb with seen := ((h.src.val, ircType m, h.seq.toNat) :: s.tb.seen).take 4096 }
    if h.bcast then s1.forward p h m else s1

/-- The state in which a write of a register has stored, and has set nothing going yet. -/
def State.stored (s : State) (p : Path) (off v : Nat) : State :=
  match regRow? off, blockAt off with
  | some r, some (b, i, rel) => s.storeReg p off v b i rel r
  | _, _ => s

/-- A write of a register sets nothing going: it only stores. -/
def quietReg (b : Block) (i rel : Nat) : Bool :=
  match b with
  | .sys => rel != 0x104
  | .pwr => rel != 0 && (decide (rel < 0x10) || decide (0x50 < rel)) && rel != 0x88
  | .clk => rel != 0x1a0
  | .lcs => rel != 0x164
  | .cfg => rel != 0x40 && rel != 0x60
  | .tb => rel != 0
  | .noc => rel != 0 && decide (rel < 0x1000)
  | .dma => decide (rel < 0x100) || (rel % 0x40 != 0 && rel % 0x40 != 0x2c)
  | .sto => rel != 0 && rel != 0x44
  | .sec => rel != 0
  | .irc => rel != 0
  | .gth => rel != 0
  | .mrv => rel != 0 && (decide (rel < 0x1000) || decide (0x1400 ≤ rel))
  | .hbm => i != 0 || decide (rel < 0x200) || decide (0x280 ≤ rel)
  | .pci => rel != 8 && rel != 0x14
  | .eth => rel != 0x28
  | _ => true

end Sys2Proof.Machine
end

