-- ==== Sys2Proof/Certificates/Slice0/Obligations.lean ====
section
/-!
DEFINITION. The statements for the provers. `Runs c s P` says that `exec c s` answers a next state of which `P` holds; a
statement about commands is a conjunction of clauses, one per command and case, each a completion of the command with the
rules' result as its conclusion. What a command leaves alone is in the clauses and, for every command, in `FootprintKept`.
-/

open Sys2Proof Sys2Proof.Machine

/-- For every command and state: a step with the command at the front of the queue is `exec` of it on the state with
the queue's rest. Rests on: 00_scope.md. -/
def Obligations.StepRunsFront : Prop :=
  ∀ (c : Instr) (q : List Instr) (s : State), step { s with pending := c :: q } = exec c { s with pending := q }

/-- On an empty queue a live device lets one tick of 1.6 ns pass (DESIGN CHOICE, log entry 2). Where the encoder's pins
show the levels accepted and no accepted count waits for its delay, TB_TIME counts 16, PWR_LEHR_TIME and NOC_FRAME
count when their fractions fill, and nothing but the clocks, the edges of the fabric's clocks, the store's pacing
credit, PTP offsets and the end of the pair test moves; other levels are sampled as Encoder says. A count whose
delay is over is registered (R154). With the spine unpowered the lehr's clock alone runs, and with no lehr nothing
does. Rests on: R14, R154, R155, R247, R373. -/
def Obligations.IdleTick : Prop :=
  ∀ s : State, s.pending = [] → ∃ u, step s = .next u ∧
    (s.live = true → s.tb.pinA = s.tb.encA → s.tb.pinB = s.tb.encB → s.tb.pinZ = s.tb.encZ → s.tb.counts = [] →
      u.now = (s.now + 16) % 2 ^ 64 ∧
      (s.fab.words = [] → u.fab = s.fab ∧ u.free = s.free) ∧
      u.rd64 0x10068 = (if s.lehr.acc + 8192 < 156250000 then s.rd64 0x10068 else (s.rd64 0x10068 + 1) % 2 ^ 48) ∧
      u.rd64 0x90008 = (if s.noc.acc + 12 < 640 then s.rd64 0x90008 else (s.rd64 0x90008 + 1) % 2 ^ 64) ∧
      Keeps [.tbRegs, .tb, .pwrRegs, .nocRegs, .stoRegs, .fltRegs, .noc, .lehr, .eth, .nand, .fab, .free] s u) ∧
    (∀ (fwd : Bool) (at_ : Nat), s.live = true → s.tb.pinA = s.tb.encA → s.tb.pinB = s.tb.encB →
      s.tb.counts = [(fwd, at_)] → at_ ≤ s.real → s.on F.TB_CTRL_ENC_EN = true →
      u.rd64 0x80018 = (s.rd64 0x80018 + (if fwd then 1 else 2 ^ 64 - 1)) % 2 ^ 64 ∧ u.tb.counts = []) ∧
    (s.live = false → Keeps [.pwrRegs, .lehr] s u) ∧
    (s.live = false → s.lehrOn = false → u = s)

/-- No command reads or writes the queue's rest: a step that answers a next state leaves the queue without its front.
Rests on: 00_scope.md. -/
def Obligations.QueueFirstInFirstOut : Prop :=
  (∀ s t : State, step s = .next t → t.pending = s.pending.tail) ∧
    ∀ (c : Instr) (s t : State), exec c s = .next t → t.pending = s.pending

/-- The state after reset: canonical stores, an empty queue, the spine powered and no reset asserted. The registers are
at the values of the register index; the clause on LCS_STATE is the model's choice of a part as shipped (DESIGN
CHOICE, log entry 7). Rests on: R44, R155, R279, R440, R443, R445. -/
def Obligations.ResetState : Prop :=
  Canon State.reset ∧ State.reset.pending = [] ∧ State.reset.live = true ∧
    (Config.grade < 4 → (State.reset.reg 0).toNat / 2 ^ 8 = 0x1312b0) ∧
    State.reset.rd F.TB_ENC_CFG_MIN_INT = 31 ∧ State.reset.now = 0 ∧
    State.reset.rd F.PCI_MBX_HEAD_HEAD = 0 ∧ State.reset.rd F.PCI_MBX_TAIL_TAIL = 0 ∧
    (∀ n : Fin 16, State.reset.run n = 0) ∧ (∀ t p a, State.reset.dmGet t p a = false) ∧
    (∀ a, Bytes.get State.reset.hbm a = 0 ∧ Bytes.get State.reset.gobIn a = 0 ∧ Bytes.get State.reset.gobOut a = 0) ∧
    (∀ k, Tab.get (fun _ => none) State.reset.shadow k = (none : Option Word)) ∧ State.reset.lcState = 1

/-- The invariant of the memories: control space, the step and route memories, DM, the gob buffers, the request areas,
the return buffers and HBM hold their entries in rising order of address and list no entry that an unlisted address
reads as. Every step that answers a next state keeps it, from every state that has it. Rests on: R21, R41, R44,
R64, R436. -/
def Obligations.CanonKept : Prop :=
  ∀ s t : State, Canon s → step s = .next t → Canon t

/-- The frame of every command: a next state differs from the state before only in the parts that the command's
footprint names, whatever the operands and the state. Every register of every other block, every other memory,
queue, flag and pin reads as before. Rests on: R10, R23, R130, R283, R416, R436, R443. -/
def Obligations.FootprintKept : Prop :=
  ∀ (c : Instr) (s t : State), exec c s = .next t → Keeps (footprint c) s t

/-- The frame of HBM through its read of one byte, for every command whose footprint does not name HBM; the stored
bytes of the others are computed in the statements of their own (MemoryPorts, Requests, DmaDescriptors,
CycleBoundaries, Marver, StoreControl, ConfigStore, Bist, DebugAuth). Rests on: R21, R125, R138, R269. -/
def Obligations.MemoryKept : Prop :=
  ∀ (c : Instr) (q : List Instr) (s t : State), s.pending = c :: q → step s = .next t →
    (Part.hbm ∉ footprint c → ∀ a, Bytes.get t.hbm a = Bytes.get s.hbm a) ∧
    (Part.gobIn ∉ footprint c → ∀ a, Bytes.get t.gobIn a = Bytes.get s.gobIn a) ∧
    (Part.gobOut ∉ footprint c → ∀ a, Bytes.get t.gobOut a = Bytes.get s.gobOut a) ∧
    (Part.dm ∉ footprint c → ∀ k, Tab.get (fun _ => false) t.dm k = Tab.get (fun _ => false) s.dm k)

/-- R416's "Programming only ever sets bits; no bit is ever cleared", over every step of the machine: every command,
every reset and every loss of power. Rests on: R416, R421. -/
def Obligations.OtpOnlyGains : Prop :=
  ∀ s t : State, step s = .next t → s.otp.grows t.otp

/-- What the fuses decode as can only go forward: from END_OF_LIFE nowhere, from PRODUCTION never to BLANK or TEST,
from TEST never to BLANK. Rests on: R416, R418. -/
def Obligations.LifeCycleOnlyForward : Prop :=
  ∀ s t : State, step s = .next t → s.otp.lc < 2 ^ 64 → t.otp.lc < 2 ^ 64 →
    (lcDecode s.otp.lc = 3 → lcDecode t.otp.lc = 3) ∧
    (lcDecode s.otp.lc = 2 → lcDecode t.otp.lc ≠ 0 ∧ lcDecode t.otp.lc ≠ 1) ∧
    (lcDecode s.otp.lc = 1 → lcDecode t.otp.lc ≠ 0)

/-- No state and no operand value stops a command: what the device refuses it refuses by an effect on its state, no
command faults and none is refused as not modelled. What each command does is stated by family; this says that the
machine never gets stuck. Rests on: R23, R83, R180, R189, R192, R268, R269, R281. -/
def Obligations.EveryCommandAnswers : Prop :=
  (∀ (c : Instr) (s : State), ∃ t, exec c s = .next t) ∧ ∀ s : State, ∃ t, step s = .next t

/-- R14's "No subsystem other than the lehr operates while the spine domain is off": every other command leaves the
machine as it is, the punty port's among them. Rests on: R14, R368. -/
def Obligations.PoweredOffIgnores : Prop :=
  ∀ (c : Instr) (s t : State), s.spineOn = false →
    (match c with
      | .coldStart .. | .powerLoss | .wakeN | .encWake | .perstWake | .timerWake | .s4Wake .. | .xtalGood | .xtalLoss
      | .supplyPowerGoodLoss | .seqPgRise => False
      | .encoderEdge .. => s.lehr.s4 = false
      | _ => True) →
    exec c s = .next t → t = s

/-- While a device reset is asserted, the state of the spine's subsystems waits for its end: only the starts, the loss
of power, the lehr's events and the punty port's boundary instructions act (the port is an IEEE 1149.1 port with a
reset of its own; DEDUCED, log entry 92), and the PCIe endpoint, whose link R346 keeps through the reset and which
waits for no step of a start (R334); of its rows nothing but the endpoint's own state, READY, and what it holds and
sends changes. Rests on: R334, R346, R430, R443. -/
def Obligations.HeldInResetIgnores : Prop :=
  ∀ (c : Instr) (s t : State), s.start.inReset = true →
    (match c with
      | .coldStart .. | .warmStart .. | .powerLoss | .wakeN | .encWake | .perstWake | .timerWake | .s4Wake ..
      | .xtalGood | .xtalLoss | .supplyPowerGoodLoss | .seqPgRise | .extest .. | .idcode | .samplePreload .. | .highz
      | .clamp | .extestPulse .. | .extestTrain .. | .bypass | .testLogicReset => False
      | .encoderEdge .. => s.spineOn = true ∨ s.lehr.s4 = false
      | _ => True) →
    exec c s = .next t →
    match c with
    | .bar0Request .. | .bar2Request .. | .bar4Request .. | .pciePerstDeassert | .pcieReady .. | .pcieLinkUp ..
    | .fundamentalReset | .hotReset | .pcieLinkDown | .functionLevelReset | .configurationRequest .. | .msixUnmask ..
    | .unsupportedRequest .. =>
      Keeps [.pciRegs, .pcie, .bar4, .hbmHeld, .hbmBad, .hbmSoft, .free, .out] s t ∧
      ∀ off, off ≠ F.PCI_STAT_READY.off → t.reg off = s.reg off
    | _ => t = s

/-- The table gives no row any bits: the decoder answers none on every word, and placing a word leaves the state as it
is. Rests on: opcode_table.json. -/
def Obligations.NoWordSpells : Prop :=
  ∀ (n w : Nat) (s : State), decodeTableWord n w = none ∧ s.withFetchWord n w = s

/-- R140 whole, for a threshold below 128, where a TEMP_HI of two's complement and a plain one are the same, and a
report from below it; MemoryPorts has the other reports, by log entry 122. TEMP_HIGH and the event, and nothing of
the stack stops: its training, its self-refresh, its requests and its bytes stay. Rests on: R140. -/
def Obligations.HbmTemperatureRule : Prop :=
  -- reaches
  ∀ (s : State) (c : Fin 2) (temp : BitVec 8), s.live = true → s.rd (F.HBM_CTRL_TEMP_HI c) < 128 →
      (s.rd (F.HBM_CTRL_TEMP_HI c) : Int) ≤ toSigned 8 temp.toNat →
      toSigned 8 (s.rd (F.HBM_TEMP c)) < s.rd (F.HBM_CTRL_TEMP_HI c) →
    Runs (.hbmTempHigh c temp) s fun u =>
      u.rd (F.HBM_STATUS_TEMP_HIGH c) = 1 ∧
      Pends u (Ev.HBM_TEMP c) ∧
      (u.stackServes c = s.stackServes c ∧ u.rd (F.HBM_STATUS_LINK_ERR c) = s.rd (F.HBM_STATUS_LINK_ERR c)) ∧
      (u.ports = s.ports ∧ u.hbmHeld = s.hbmHeld) ∧
      (∀ a, Bytes.get u.hbm a = Bytes.get s.hbm a)

/-- R153 whole, with "ENC_Z has no other effect": apart from what the event itself may change, only TB_Z_POS changes,
TB_POS and the line divider do not. Rests on: R153. -/
def Obligations.IndexPulseRule : Prop :=
  -- edge
  ∀ (s : State) (z : Bool), s.live = true → s.tb.encZ = false →
      (pinFilter (s.rd F.TB_ENC_CFG_FILT) s.tb.encZ s.tb.runZ z).1 = true →
    Runs (.encZEdge z) s fun u =>
      u.reg 0x80038 = s.reg 0x80018 ∧
      Pends u Ev.TB_Z ∧
      (∀ o, regPart o = .tbRegs → o ≠ 0x80038 → u.reg o = s.reg o) ∧
      (u.tb.next = s.tb.next ∧ u.tb.cpl = s.tb.cpl ∧ u.tb.armed = s.tb.armed ∧ u.line = s.line) ∧
      Keeps (.tbRegs :: eventParts) s u

/-- R151 whole, in every mode: TB_POS is held, the transition is counted, the flag set and the event raised, and the
next transition is decoded from the new levels. Rests on: R151. -/
def Obligations.IllegalTransitionRule : Prop :=
  -- both
  ∀ (s : State) (a b : Bool), s.live = true → s.on F.TB_CTRL_ENC_EN = true →
      (pinFilter (s.rd F.TB_ENC_CFG_FILT) s.tb.encA s.tb.runA a).1 ≠ s.tb.encA →
      (pinFilter (s.rd F.TB_ENC_CFG_FILT) s.tb.encB s.tb.runB b).1 ≠ s.tb.encB →
    Runs (.encoderEdge a b) s fun u =>
      (u.rd64 0x80018 = s.rd64 0x80018 ∧ u.tb.next = s.tb.next ∧ u.line = s.line) ∧
      Counted s u F.TB_ENC_ERR_CNT_COUNT ∧
      u.rd F.TB_STATUS_ENC_ERR = 1 ∧
      Pends u Ev.TB_ENC_ERR ∧
      (u.tb.encA = !s.tb.encA ∧ u.tb.encB = !s.tb.encB) ∧
      (∀ o, regPart o = .tbRegs → o ≠ F.TB_ENC_ERR_CNT_COUNT.off → o ≠ F.TB_STATUS_ENC_ERR.off → u.reg o = s.reg o)

/-- R26 for each access of 32 bits, and for one of 64 bits, which R7 makes two of 32: reads answer 0, writes change
nothing that the window holds, each access counts, and no event is raised. That the window answers with the scope
is RegisterAccess. Rests on: R26. -/
def Obligations.DebugWindowClosedRule : Prop :=
  -- read
  (∀ (s : State) (p : Path) (off : BitVec 26), s.live = true → s.pathOpen p = true → off.toNat % 4 = 0 →
      inDebug off.toNat = true → s.arrayScope = false →
    Runs (.arrayDebugWindowAccess ⟨p, 4, off⟩ none) s fun u =>
      Answers s u p off.toNat 0 true ∧
      Counted s u F.SYS_ACCESS_ERR_CNT_COUNT ∧
      Keeps [.sysRegs, .jtag, .out] s u) ∧
  -- readWide
  (∀ (s : State) (p : Path) (off : BitVec 26), s.live = true → s.pathOpen p = true → off.toNat % 8 = 0 →
      inDebug off.toNat = true → s.arrayScope = false →
    Runs (.arrayDebugWindowAccess ⟨p, 8, off⟩ none) s fun u =>
      Answers s u p off.toNat 0 true ∧
      u.rd F.SYS_ACCESS_ERR_CNT_COUNT = min 0xffffffff (s.rd F.SYS_ACCESS_ERR_CNT_COUNT + 2) ∧
      Keeps [.sysRegs, .jtag, .out] s u) ∧
  -- write
  (∀ (s : State) (p : Path) (off : BitVec 26) (v : BitVec 64), s.live = true → s.pathOpen p = true →
      off.toNat % 4 = 0 → inDebug off.toNat = true → s.arrayScope = false →
    Runs (.arrayDebugWindowAccess ⟨p, 4, off⟩ (some v)) s fun u =>
      Counted s u F.SYS_ACCESS_ERR_CNT_COUNT ∧
      (∀ o, o ≠ F.SYS_ACCESS_ERR_CNT_COUNT.off → o ≠ F.SYS_ACCESS_ERR_REC_VALID.off → u.reg o = s.reg o) ∧
      Keeps [.sysRegs] s u) ∧
  -- writeWide
  (∀ (s : State) (p : Path) (off : BitVec 26) (v : BitVec 64), s.live = true → s.pathOpen p = true →
      off.toNat % 8 = 0 → inDebug off.toNat = true → s.arrayScope = false →
    Runs (.arrayDebugWindowAccess ⟨p, 8, off⟩ (some v)) s fun u =>
      u.rd F.SYS_ACCESS_ERR_CNT_COUNT = min 0xffffffff (s.rd F.SYS_ACCESS_ERR_CNT_COUNT + 2) ∧
      Keeps [.sysRegs] s u)

/-- R256 whole: the flit leaves no output, an F1 fault of the router's source is recorded (latched where no fault is
latched yet), and the flag, the counter and the event of the NoC are set. Rests on: R256. -/
def Obligations.RouterParityRule : Prop :=
  -- parity
  ∀ (s : State) (r : Fin 48) (out : Fin 7) (j : Fin 3) (inject : List Packet) (flip : BitVec 64) (s1 : State) (x :
      At), s.live = true → (s.handPackets r inject).feed r (s.nocCycle j) = s1 → hasPort r out = true →
      Tab.get (fun _ => 0) s.noc.sentAt (r.val * 8 + out.val) ≠ s.nocCycle j + 1 →
      s1.chosen r out (s.nocCycle j % 128) (s1.waiting r out (s.nocCycle j)) = some x →
      sideOk (x.2.2.side ^^^ flip) = false →
    Runs (.nocPacket r out j inject flip) s fun u =>
      (∀ r2 p vc cls, r2 ≠ r.val → u.inQueue r2 p vc cls = s1.inQueue r2 p vc cls) ∧
      (∀ a b c d, Output.flit a b c d ∈ u.out → Output.flit a b c d ∈ s.out) ∧
      u.flt.seq = (s.flt.seq + 1) % 2 ^ 32 ∧
      (s.on F.FLT_FIRST_SRC_VALID = false → (u.reg 0x30008).toNat = 2 ^ 31 + 2 ^ 28 + 8 ∧
          (u.reg 0x3000c).toNat = r.val) ∧
      (s.safe = false → u.flt.f1 = true) ∧
      u.rd F.NOC_STAT_PAR_ERR = 1 ∧
      Counted s u F.NOC_PAR_CNT_COUNT ∧
      Pends u Ev.NOC_PAR_ERR

/-- A read of _LO captures _HI for its own path, and a later read of _HI on that path answers the captured half,
whatever the pair has become meanwhile; the shadow then is empty and _HI reads live. Rests on: R7, R440, R442. -/
def Obligations.PairReadsRule : Prop :=
  -- captured
  (∀ (s : State) (p : Path) (off : BitVec 26) (v : Word), s.live = true → s.pathOpen p = true → off.toNat % 4 = 0 →
      isPairLo (off.toNat - 4) = true → isPairLo off.toNat = false → (regRow? off.toNat).isSome = true →
      Tab.get (fun _ => none) s.shadow (shadowKey p off.toNat) = some v →
    Runs (.loCaptureRead p off) s fun u =>
      Answers s u p off.toNat v.toNat false ∧
      Tab.get (fun _ => none) u.shadow (shadowKey p off.toNat) = none ∧
      (∀ k, k ≠ shadowKey p off.toNat → Tab.get (fun _ => none) u.shadow k = Tab.get (fun _ => none) s.shadow k) ∧
      Keeps [.shadow, .jtag, .out] s u) ∧
  -- live
  (∀ (s : State) (p : Path) (off : BitVec 26), s.live = true → s.pathOpen p = true → off.toNat % 4 = 0 →
      isPairLo (off.toNat - 4) = true → isPairLo off.toNat = false → (regRow? off.toNat).isSome = true →
      Tab.get (fun _ => none) s.shadow (shadowKey p off.toNat) = none →
    Runs (.loCaptureRead p off) s fun u =>
      Answers s u p off.toNat (s.peek off.toNat).toNat false ∧
      Keeps [.shadow, .jtag, .out] s u)

/-- The bank of slot tables switches at the frame boundary or is refused with its cause; an endpoint's packet is
injected as flits under the bank in force; a router output sends the flit it chooses, which goes on to the next
router by its route, or takes a parity error, or sends none; and a gateway answers, proceeds or holds. Rests on:
R141, R242, R243, R245, R249, R250, R251, R256, R365, R366. -/
def Obligations.NocCommands : Prop :=
  -- nocCtrlSwitch
  (∀ (s : State) (path : Path) (v : BitVec 32), s.live = true → s.pathOpen path = true →
    Runs (.nocCtrlSwitch path v) s fun u =>
      u.rd F.NOC_STAT_SWITCH_PEND = 1 ∧
      u.rd F.NOC_STAT_BANK = s.rd F.NOC_STAT_BANK) ∧
  -- nocBankSwitch
  (∀ (s : State), s.live = true → s.on F.NOC_STAT_SWITCH_PEND = true →
      s.switchFault (1 - s.rd F.NOC_STAT_BANK) = none →
    Runs (.nocBankSwitch) s fun u =>
      u.rd F.NOC_STAT_BANK = 1 - s.rd F.NOC_STAT_BANK ∧
      u.rd F.NOC_STAT_SWITCH_PEND = 0 ∧
      u.rd F.NOC_CTRL_SWITCH = 0 ∧
      Counted s u F.NOC_SWITCH_CNT_COUNT ∧
      Pends u Ev.NOC_SWITCH) ∧
  -- nocBankSwitchRefused
  (∀ (s : State) (cause : Nat), s.live = true → s.on F.NOC_STAT_SWITCH_PEND = true →
      s.switchFault (1 - s.rd F.NOC_STAT_BANK) = some cause →
    Runs (.nocBankSwitch) s fun u =>
      u.rd F.NOC_STAT_BANK = s.rd F.NOC_STAT_BANK ∧
      u.rd F.NOC_STAT_SWITCH_PEND = 0 ∧
      u.rd F.NOC_STAT_SWITCH_ERR = 1 ∧
      u.rd F.NOC_STAT_ERR_CAUSE = cause ∧
      Pends u Ev.NOC_SWITCH_ERR) ∧
  -- nocPacket
  (∀ (s : State) (r : Fin 48) (out : Fin 7) (j : Fin 3) (inject : List Packet) (flip : BitVec 64) (s1 : State) (x :
      At), s.live = true → (s.handPackets r inject).feed r (s.nocCycle j) = s1 → hasPort r out = true →
      Tab.get (fun _ => 0) s.noc.sentAt (r.val * 8 + out.val) ≠ s.nocCycle j + 1 →
      s1.chosen r out (s.nocCycle j % 128) (s1.waiting r out (s.nocCycle j)) = some x →
      sideOk (x.2.2.side ^^^ flip) = true →
    Runs (.nocPacket r out j inject flip) s fun u =>
      (u.out.drop s.out.length).head? = some (Output.flit r out (x.2.2.side ^^^ flip) x.2.2.payload) ∧
      (out.val < 5 ∨ sideField x.2.2.head 44 42 ≠ 4 → u.out = s.out ++
          [Output.flit r out (x.2.2.side ^^^ flip) x.2.2.payload]) ∧
      Tab.get (fun _ => 7) u.noc.rr (portKey r out x.2.2.cls) = x.1 ∧
      Tab.get (fun _ => 0) u.noc.sentAt (r.val * 8 + out.val) = s.nocCycle j + 1 ∧
      (u.inQueue r x.1 x.2.1 x.2.2.cls = (if (x.2.2.todo.filter fun o => o != out.val).isEmpty then [] else
      [{ x.2.2 with todo := x.2.2.todo.filter fun o => o != out.val }]) ++ (s1.inQueue r x.1 x.2.1 x.2.2.cls).tail)) ∧
  -- nocPacketHop
  (∀ (s : State) (r : Fin 48) (out : Fin 7) (j : Fin 3) (inject : List Packet) (flip : BitVec 64) (s1 : State) (x :
      At), s.live = true → (s.handPackets r inject).feed r (s.nocCycle j) = s1 → hasPort r out = true →
      Tab.get (fun _ => 0) s.noc.sentAt (r.val * 8 + out.val) ≠ s.nocCycle j + 1 →
      s1.chosen r out (s.nocCycle j % 128) (s1.waiting r out (s.nocCycle j)) = some x →
      sideOk (x.2.2.side ^^^ flip) = true → out.val < 5 → x.2.2.first = true →
      s1.hops (linkEnd r out).1 (linkEnd r out).2 (x.2.2.side ^^^ flip) ≠ [] →
    Runs (.nocPacket r out j inject flip) s fun u =>
      u.inQueue (linkEnd r out).1 (linkEnd r out).2 x.2.1 x.2.2.cls =
      s1.inQueue (linkEnd r out).1 (linkEnd r out).2 x.2.1 x.2.2.cls ++ [{ x.2.2 with
        side := x.2.2.side ^^^ flip
        head := x.2.2.side ^^^ flip
        ready := s.nocCycle j + 4
        todo := s1.hops (linkEnd r out).1 (linkEnd r out).2 (x.2.2.side ^^^ flip) }]) ∧
  -- nocPacketParity
  (∀ (s : State) (r : Fin 48) (out : Fin 7) (j : Fin 3) (inject : List Packet) (flip : BitVec 64) (s1 : State) (x :
      At), s.live = true → (s.handPackets r inject).feed r (s.nocCycle j) = s1 → hasPort r out = true →
      Tab.get (fun _ => 0) s.noc.sentAt (r.val * 8 + out.val) ≠ s.nocCycle j + 1 →
      s1.chosen r out (s.nocCycle j % 128) (s1.waiting r out (s.nocCycle j)) = some x →
      sideOk (x.2.2.side ^^^ flip) = false →
    Runs (.nocPacket r out j inject flip) s fun u =>
      u.rd F.NOC_STAT_PAR_ERR = 1 ∧
      Counted s u F.NOC_PAR_CNT_COUNT ∧
      Pends u Ev.NOC_PAR_ERR ∧
      u.rd F.FLT_STAT_PIN_LEVEL = 0 ∧
      (∀ r2 p vc cls, r2 ≠ r.val → u.inQueue r2 p vc cls = s1.inQueue r2 p vc cls)) ∧
  -- nocPacketNone
  (∀ (s : State) (r : Fin 48) (out : Fin 7) (j : Fin 3) (inject : List Packet) (flip : BitVec 64) (s1 : State),
      s.live = true → (s.handPackets r inject).feed r (s.nocCycle j) = s1 →
      s1.chosen r out (s.nocCycle j % 128) (s1.waiting r out (s.nocCycle j)) = none →
    Runs (.nocPacket r out j inject flip) s fun u =>
      u = s1) ∧
  -- nocPacketInject
  (∀ (s : State) (r : Fin 48) (out : Fin 7) (j : Fin 3) (x : Packet) (flip : BitVec 64), s.live = true →
      s.noc.queues = [] → s.noc.sources = [] → x.endpoint.val < endpoints r x.port →
      (x.payload.length ≤ (if x.cls = 3 then 1 else 8)) → s.injectRate r (5 + b2n x.port) x.endpoint = 0 →
    Runs (.nocPacket r out j [x] flip) s fun u =>
      u.inQueue r (5 + b2n x.port) (vcOf x.cls x.op.toNat) x.cls = flitsOf x (r.val * 2 + b2n x.port)
      (s.on F.NOC_STAT_BANK) s.noc.born (s.nocCycle j + 8)
      (s.hops r (5 + b2n x.port) (headSide x (r.val * 2 + b2n x.port) 1 (s.on F.NOC_STAT_BANK))) ∧
      u.out = s.out ∧
      u.noc.born = s.noc.born + 1) ∧
  -- gatewayFenced
  (∀ (s : State) (d : Fin 28) (cls : Fin 4) (head : BitVec 64), s.live = true → d.val < 16 →
      s.fencedTile (8 * d) = true →
    Runs (.gatewayRequest d cls head) s fun u =>
      u.out = s.out ++ [Output.resp (respHead head 3)] ∧
      u.pwr = s.pwr) ∧
  -- gatewayDead
  (∀ (s : State) (d : Fin 28) (cls : Fin 4) (head : BitVec 64), s.live = true → 16 ≤ d.val → d.val < 18 →
      s.stackDead (d - 16) = true →
    Runs (.gatewayRequest d cls head) s fun u =>
      u.out = s.out ++ [Output.resp (respHead head 1)] ∧
      u.pwr = s.pwr) ∧
  -- gatewayAsleep
  (∀ (s : State) (d : Fin 28) (cls : Fin 4) (head : BitVec 64), s.live = true → d.val < 18 → head.getLsbD 41 = true →
      (d.val < 16 && s.fencedTile (8 * d)) = false → (decide (16 ≤ d.val) && s.stackDead (d - 16)) = false →
      s.mustWait d = true →
    Runs (.gatewayRequest d cls head) s fun u =>
      u.out = s.out ++ [Output.resp (respHead head 2)] ∧
      u.pwr = s.pwr) ∧
  -- gatewayAwake
  (∀ (s : State) (d : Fin 28) (cls : Fin 4) (head : BitVec 64), s.live = true → d.val < 18 →
      (d.val < 16 && s.fencedTile (8 * d)) = false → (decide (16 ≤ d.val) && s.stackDead (d - 16)) = false →
      s.mustWait d = false → s.domWaits d = false →
    Runs (.gatewayRequest d cls head) s fun u =>
      u.out = s.out ++ [Output.resp (respHead head 0)] ∧
      u.pwr = s.pwr) ∧
  -- gatewayWakes
  (∀ (s : State) (d : Fin 28) (cls : Fin 4) (head : BitVec 64), s.live = true → d.val < 18 →
      head.getLsbD 41 = false → (d.val < 16 && s.heldDown d) = false → (d.val < 16 && s.fencedTile (8 * d)) = false →
      (decide (16 ≤ d.val) && s.stackDead (d - 16)) = false → s.asleep d = true → (s.dom d).down = none →
    Runs (.gatewayRequest d cls head) s fun u =>
      (u.dom d).waking = true ∧
      (u.dom d).held = (s.dom d).held ++ [(cls.val, head)]) ∧
  -- gatewayUntrained
  (∀ (s : State) (d : Fin 28) (cls : Fin 4) (head : BitVec 64), s.live = true → 16 ≤ d.val → d.val < 18 →
      s.stackDead (d - 16) = false → s.stackServes (d - 16) = false → s.mustWait d = false →
    Runs (.gatewayRequest d cls head) s fun u =>
      u.out = s.out ∧
      (u.dom d).held = (s.dom d).held ++ [(cls.val, head)]) ∧
  -- gatewayOff
  (∀ (s : State) (d : Fin 28) (cls : Fin 4) (head : BitVec 64), s.live = true → 18 ≤ d.val → s.offByEn d = true →
    Runs (.gatewayRequest d cls head) s fun u =>
      u.out = s.out ++ [Output.resp (respHead head 2)] ∧
      u.pwr = s.pwr) ∧
  -- gatewayOn
  (∀ (s : State) (d : Fin 28) (cls : Fin 4) (head : BitVec 64), s.live = true → 18 ≤ d.val → s.offByEn d = false →
    Runs (.gatewayRequest d cls head) s fun u =>
      u.out = s.out ++ [Output.resp (respHead head 0)] ∧
      u.pwr = s.pwr)

/-- A write of a register that only stores changes that register field by field and no other; a misaligned access and
one of a hole are counted and raised; reads of pairs capture, reads of counters clear; the debug window answers,
waits or refuses. Rests on: R7, R8, R9, R13, R23, R26, R269, R433, R438, R440, R445, R446. -/
def Obligations.RegisterAccess : Prop :=
  -- registerWrite
  (∀ (s : State) (a : Access) (v : BitVec 64) (r : RegRow) (b : Block) (i rel : Nat), s.live = true →
      s.pathOpen a.path = true → a.width = 4 → a.off.toNat % 4 = 0 → inDebug a.off.toNat = false →
      regRow? a.off.toNat = some r → blockAt a.off.toNat = some (b, i, rel) → quietReg b i rel = true →
      r.breaksZero (v.toNat % 2 ^ 32) = false →
    Runs (.registerWrite a v) s fun u =>
      u.reg a.off.toNat = BitVec.ofNat 32 (r.written (s.locked b i) (s.reg a.off.toNat).toNat (v.toNat % 2 ^ 32)) ∧
      (∀ o, o ≠ a.off.toNat → o ≠ F.SYS_LOCKED_WRITE_CNT_COUNT.off → u.reg o = s.reg o) ∧
      ((s.locked b i && r.lockable) = true → Counted s u F.SYS_LOCKED_WRITE_CNT_COUNT) ∧
      u = s.withRegs u.regs) ∧
  -- misalignedWrite
  (∀ (s : State) (a : Access) (v : BitVec 64), s.live = true → s.pathOpen a.path = true →
      ((a.width = 4 && a.off.toNat % 4 == 0) || (a.width = 8 && a.off.toNat % 8 == 0)) = false →
    Runs (.registerWrite a v) s fun u =>
      Counted s u F.SYS_ACCESS_ERR_CNT_COUNT ∧
      u.on F.SYS_ACCESS_ERR_REC_VALID = true ∧
      Pends u Ev.SYS_ACCESS_ERR) ∧
  -- holeWrite
  (∀ (s : State) (a : Access) (v : BitVec 64), s.live = true → s.pathOpen a.path = true → a.width = 4 →
      a.off.toNat % 4 = 0 → inDebug a.off.toNat = false → regRow? a.off.toNat = none →
    Runs (.registerWrite a v) s fun u =>
      Counted s u F.SYS_ACCESS_ERR_CNT_COUNT ∧
      u.on F.SYS_ACCESS_ERR_REC_VALID = true ∧
      Pends u Ev.SYS_ACCESS_ERR) ∧
  -- loCaptureRead
  (∀ (s : State) (p : Path) (off : BitVec 26), s.live = true → s.pathOpen p = true → off.toNat % 4 = 0 →
      isPairLo off.toNat = true → (regRow? off.toNat).isSome = true →
    Runs (.loCaptureRead p off) s fun u =>
      Answers s u p off.toNat (s.peek off.toNat).toNat false ∧
      Tab.get (fun _ => none) u.shadow (shadowKey p (off.toNat + 4)) = some (s.peek (off.toNat + 4)) ∧
      u.regs = s.regs) ∧
  -- counterSnapshotRead
  (∀ (s : State) (p : Path) (off : BitVec 26) (r : RegRow), s.live = true → s.pathOpen p = true → off.toNat % 4 = 0 →
      inDebug off.toNat = false → regRow? off.toNat = some r → r.counts = true →
    Runs (.counterSnapshotRead p off) s fun u =>
      Answers s u p off.toNat (s.reg off.toNat).toNat false ∧
      u.reg off.toNat = 0 ∧
      (∀ o, o ≠ off.toNat → u.reg o = s.reg o)) ∧
  -- debugWindowRead
  (∀ (s : State) (p : Path) (off : BitVec 26), s.live = true → s.pathOpen p = true → off.toNat % 4 = 0 →
      inDebug off.toNat = true → s.arrayScope = true → sliceHas (windowTile off.toNat).2 = true →
      s.dmWaits off.toNat = false →
    Runs (.arrayDebugWindowAccess ⟨p, 4, off⟩ none) s fun u =>
      Answers s u p off.toNat (s.dbgValue off.toNat) false ∧
      u.regs = s.regs) ∧
  -- debugWindowWaits
  (∀ (s : State) (p : Path) (off : BitVec 26), s.live = true → s.pathOpen p = true → off.toNat % 4 = 0 →
      inDebug off.toNat = true → s.arrayScope = true → s.dmWaits off.toNat = true →
    Runs (.arrayDebugWindowAccess ⟨p, 4, off⟩ none) s fun u =>
      u = s.withDbgReads (s.dbgReads ++ [(p, off.toNat, 4)])) ∧
  -- debugWindowClosed
  (∀ (s : State) (p : Path) (off : BitVec 26), s.live = true → s.pathOpen p = true → off.toNat % 4 = 0 →
      inDebug off.toNat = true → s.arrayScope = false →
    Runs (.arrayDebugWindowAccess ⟨p, 4, off⟩ none) s fun u =>
      Answers s u p off.toNat 0 true ∧
      Counted s u F.SYS_ACCESS_ERR_CNT_COUNT ∧
      u.reg (evtBit Ev.SYS_ACCESS_ERR).off = s.reg (evtBit Ev.SYS_ACCESS_ERR).off) ∧
  -- debugWindowSelect
  (∀ (s : State) (p : Path) (off : BitVec 26) (v : BitVec 64), s.live = true → s.pathOpen p = true →
      off.toNat % 4 = 0 → inDebug off.toNat = true → s.arrayScope = true → (windowTile off.toNat).2 = 0x8000 →
      v.toNat % 2 ^ 32 < 2 ^ 16 →
    Runs (.arrayDebugWindowAccess ⟨p, 4, off⟩ (some v)) s fun u =>
      u = s.setReg off.toNat (BitVec.ofNat 32 (v.toNat % 2 ^ 16))) ∧
  -- debugDmReadTimeout
  (∀ (s : State) (p : Path) (off : BitVec 26) (r : Path × Nat × Nat), s.live = true →
      (s.dbgReads.find? fun r => r.1 == p && r.2.1 == off.toNat) = some r →
    Runs (.debugDmReadTimeout p off) s fun u =>
      Answers s u p off.toNat 0 true ∧
      Counted s u F.SYS_ACCESS_ERR_CNT_COUNT ∧
      u.dbgReads = s.dbgReads.erase r) ∧
  -- bar0Request
  (∀ (s : State) (off : BitVec 26) (r : RegRow) (tlp : Tlp), s.live = true → s.on F.PCI_STAT_READY = true →
      s.tlpFault tlp false = none → off.toNat % 4 = 0 → inDebug off.toNat = false → regRow? off.toNat = some r →
      (isPairLo off.toNat || isPairLo (off.toNat - 4) || r.counts) = false → s.pcie.d3hot = false →
      stampRegOf off.toNat = none →
    Runs (.bar0Request 4 off none tlp) s fun u =>
      u = s.withOut (s.out ++ [Output.read .pcie off.toNat (s.peek off.toNat).toNat])) ∧
  -- bar0Write
  (∀ (s : State) (off : BitVec 26) (v : BitVec 64) (tlp : Tlp) (r : RegRow) (b : Block) (i rel : Nat),
      s.live = true → s.on F.PCI_STAT_READY = true → s.tlpFault tlp true = none → s.pcie.d3hot = false →
      off.toNat % 4 = 0 → inDebug off.toNat = false → regRow? off.toNat = some r → blockAt off.toNat = some (b, i,
      rel) → quietReg b i rel = true → r.breaksZero (v.toNat % 2 ^ 32) = false →
    Runs (.bar0Request 4 off (some v) tlp) s fun u =>
      u.reg off.toNat = BitVec.ofNat 32 (r.written (s.locked b i) (s.reg off.toNat).toNat (v.toNat % 2 ^ 32)) ∧
      (∀ o, o ≠ off.toNat → o ≠ F.SYS_LOCKED_WRITE_CNT_COUNT.off → u.reg o = s.reg o))

/-- A remap is accepted or refused, and its copy's end puts the spare in the place of the tile; a verify pass begins,
or is refused, and its end reports what it found; the end of a DM clear ends the hold on its region's dispatch.
Rests on: R36, R52, R53, R44, R55, R56, R81. -/
def Obligations.SectorCommands : Prop :=
  -- remap
  (∀ (s : State) (p : Path) (c : Fin 16) (v : BitVec 32) (x : State), s.live = true → s.pathOpen p = true →
      s.stored p (0xa00000 + 0x10000 * c) (v ||| 0x400000).toNat = x → x.on (F.SEC_STATUS_REMAP_BUSY c) = false →
      x.remapOk c = true →
    Runs (.remap p c v) s fun u =>
      u.rd (F.SEC_STATUS_REMAP_BUSY c) = 1 ∧
      Tab.get (fun _ => none) u.ldr.remaps c = some (s.rd (F.SEC_PHYS_MAP_REMAP_POS c))) ∧
  -- remapRefused
  (∀ (s : State) (p : Path) (c : Fin 16) (v : BitVec 32) (x : State), s.live = true → s.pathOpen p = true →
      s.stored p (0xa00000 + 0x10000 * c) (v ||| 0x400000).toNat = x → x.on (F.SEC_STATUS_REMAP_BUSY c) = false →
      x.remapOk c = false →
    Runs (.remap p c v) s fun u =>
      u.rd (F.SEC_STATUS_REMAP_ERR c) = 1 ∧
      Pends u (Ev.SEC_REMAP c) ∧
      u.ldr = s.ldr) ∧
  -- remapCopyDone
  (∀ (s : State) (c : Fin 16) (k : Nat), s.live = true → Tab.get (fun _ => none) s.ldr.remaps c.val = some k →
      s.rd (F.SEC_STATUS_PSTATE c) = 0 → (s.bst.slice == some (9 * c.val + 8)) = false →
    Runs (.remapCopyDone c) s fun u =>
      u.rd (F.SEC_STATUS_REMAP_BUSY c) = 0 ∧
      u.rd (F.SEC_CTRL_REMAP c) = 0 ∧
      Tab.get (fun _ => none) u.ldr.remaps c.val = none ∧
      Pends u (Ev.SEC_REMAP c) ∧
      remapEntry c k ∈ u.cstore.repairs) ∧
  -- remapCopyDoneMaps
  (∀ (s : State) (c : Fin 16) (k : Nat), s.live = true → k < 8 →
      Tab.get (fun _ => none) s.ldr.remaps c.val = some k → s.rd (F.SEC_STATUS_PSTATE c) = 0 →
      (s.bst.slice == some (9 * c.val + 8)) = false →
    Runs (.remapCopyDone c) s fun u =>
      u.phys (8 * c.val + k) = 9 * c.val + 8 ∧
      u.rd (F.SEC_PHYS_MAP_SPARE_IN_USE c) = 1 ∧
      u.rd (F.SEC_PHYS_MAP_SPARE_FOR c) = k) ∧
  -- verify
  (∀ (s : State) (p : Path) (c : Fin 16) (v : BitVec 32) (x : State), s.live = true → s.pathOpen p = true →
      s.stored p (0xa00000 + 0x10000 * c) (v ||| 0x800000).toNat = x → x.on (F.SEC_STATUS_VERIFY_BUSY c) = false →
      (!x.on (F.SEC_CTRL_ASSIGNED c) || x.run (x.rd (F.SEC_CTRL_REGION c)) == 0 || x.run (x.rd (F.SEC_CTRL_REGION c))
      == 1 || x.run (x.rd (F.SEC_CTRL_REGION c)) == 5) = true →
    Runs (.verify p c v) s fun u =>
      u.rd (F.SEC_STATUS_VERIFY_BUSY c) = 1) ∧
  -- verifyRefused
  (∀ (s : State) (p : Path) (c : Fin 16) (v : BitVec 32) (x : State), s.live = true → s.pathOpen p = true →
      s.stored p (0xa00000 + 0x10000 * c) (v ||| 0x800000).toNat = x → x.on (F.SEC_STATUS_VERIFY_BUSY c) = false →
      (!x.on (F.SEC_CTRL_ASSIGNED c) || x.run (x.rd (F.SEC_CTRL_REGION c)) == 0 || x.run (x.rd (F.SEC_CTRL_REGION c))
      == 1 || x.run (x.rd (F.SEC_CTRL_REGION c)) == 5) = false →
    Runs (.verify p c v) s fun u =>
      u.rd (F.SEC_STATUS_VERIFY_REFUSED c) = 1 ∧
      u.rd (F.SEC_STATUS_VERIFY_BUSY c) = 0 ∧
      u.rd (F.SEC_CTRL_VERIFY c) = 0) ∧
  -- verifyPassClean
  (∀ (s : State) (c : Fin 16), s.live = true → s.on (F.SEC_STATUS_VERIFY_BUSY c) = true →
      s.rd (F.SEC_STATUS_PSTATE c) = 0 → (∀ k ∈ upTo 8, ∀ w ∈ (if s.verifyDual c then [false, true] else [false]),
      (s.foldSeen (8 * c.val + k) (s.verifyDual c) w (s.verifyLen c w)).toNat = s.foldExp (8 * c.val + k) w) →
      (∀ k ∈ upTo 8, ∀ r ∈ s.verifyRows c, s.badRows (8 * c.val + k) r.1 r.2 = []) →
    Runs (.verifyPassEnd c []) s fun u =>
      u.rd (F.SEC_STATUS_VERIFY_BUSY c) = 0 ∧
      u.rd (F.SEC_CTRL_VERIFY c) = 0 ∧
      u.rd (F.SEC_STATUS_VERIFY_OK c) = 1 ∧
      u.rd (F.SEC_FOLD_STAT_VALID c) = s.rd (F.SEC_FOLD_STAT_VALID c)) ∧
  -- verifyPassMismatch
  (∀ (s : State) (c : Fin 16) (bad : List (Fin 8 × Fin 16384)) (k : Nat), s.live = true →
      s.on (F.SEC_STATUS_VERIFY_BUSY c) = true → s.rd (F.SEC_STATUS_PSTATE c) = 0 → k < 8 →
      (s.foldSeen (8 * c.val + k) (s.verifyDual c) false (s.verifyLen c false)).toNat ≠ s.foldExp (8 * c.val + k)
      false →
    Runs (.verifyPassEnd c bad) s fun u =>
      u.rd (F.SEC_STATUS_VERIFY_BUSY c) = 0 ∧
      u.rd (F.SEC_CTRL_VERIFY c) = 0 ∧
      u.rd (F.SEC_STATUS_VERIFY_OK c) = 0 ∧
      u.rd (F.SEC_FOLD_STAT_VALID c) = 1 ∧
      Pends u (Ev.SEC_FOLD_MISMATCH c)) ∧
  -- verifyPassBadRow
  (∀ (s : State) (c : Fin 16) (k : Fin 8) (i : Fin 16384) (r : Nat × Nat), s.live = true →
      s.on (F.SEC_STATUS_VERIFY_BUSY c) = true → s.rd (F.SEC_STATUS_PSTATE c) = 0 → r ∈ s.verifyRows c →
      (r.1 ≤ i.val ∧ i.val < r.1 + r.2) →
    Runs (.verifyPassEnd c [(k, i)]) s fun u =>
      u.rd (F.SEC_STATUS_VERIFY_OK c) = 0 ∧
      u.rd (F.MPU_RT_ERR_VALID (8 * c.val + k.val)) = 1 ∧
      rowGood (u.row (8 * c.val + k.val) i) = false) ∧
  -- dmClearEnd
  (∀ (s : State) (n : Fin 16), s.live = true →
    Runs (.dmClearEnd n) s fun u =>
      u.gaf n = { s.gaf n with dmClear := false } ∧
      (∀ m, m < 16 → m ≠ n.val → u.gaf m = s.gaf m) ∧
      u = s.withGafs u.gafs)

/-- A unit that fetches a valid word writes the location of its step in every lane that executes it and drives the same
value; no other location changes. The values of EVAL, EVAL_EN and BRK are read after what the step's own reads met
(a failed row or location). Rests on: R39, R42, R58, R60, R63, R64, R67, R69, R71, R72, R83, R91. -/
def Obligations.StepWords : Prop :=
  -- stepNop
  (∀ (s : State) (t : Fin 128) (p : Fin 1024) (k : Fin 16384), s.live = true →
    Runs (.stepNop t p k) s fun u =>
      u = s) ∧
  -- eval
  (∀ (s : State) (t : Fin 128) (p : Fin 1024) (k : Fin 16384) (dmBad : Option DmBad) (rowBad : Option (Fin 16384)) (n
      : Nat) (repl : Bool) (st w : Nat), s.live = true → s.fetches t p k 1 n repl st w →
    Runs (.eval t p k dmBad rowBad) s fun u =>
      (∀ q ∈ s.liveLanes t p w repl,
          u.dmGet t q (dmLoc repl st) = (s.readFaults n t p w repl dmBad rowBad).lut n t q k repl true w) ∧
      (∀ q ∈ s.liveLanes t p w repl,
          u.drove t q k = (s.readFaults n t p w repl dmBad rowBad).lut n t q k repl true w) ∧
      (∀ q loc, q < 1024 → loc < 2048 → (q ∉ s.liveLanes t p w repl ∨ loc ≠ dmLoc repl st) →
          u.dmGet t q loc = s.dmGet t q loc)) ∧
  -- evalEn
  (∀ (s : State) (t : Fin 128) (p : Fin 1024) (k : Fin 16384) (dmBad : Option DmBad) (rowBad : Option (Fin 16384)) (n
      : Nat) (repl : Bool) (st w : Nat), s.live = true → s.fetches t p k 2 n repl st w →
    Runs (.evalEn t p k dmBad rowBad) s fun u =>
      (∀ q ∈ s.liveLanes t p w repl,
          u.dmGet t q (dmLoc repl st) = (if (s.readFaults n t p w repl dmBad rowBad).opndOf n t q k repl w 3 then
          (s.readFaults n t p w repl dmBad rowBad).lut n t q k repl false w else s.dmGet t q (dmLoc repl st))) ∧
      (∀ q ∈ s.liveLanes t p w repl, (s.readFaults n t p w repl dmBad rowBad).opndOf n t q k repl w 3 = true →
          u.drove t q k = (s.readFaults n t p w repl dmBad rowBad).lut n t q k repl false w) ∧
      (∀ q loc, q < 1024 → loc < 2048 → (q ∉ s.liveLanes t p w repl ∨ loc ≠ dmLoc repl st) →
          u.dmGet t q loc = s.dmGet t q loc)) ∧
  -- stepIn
  (∀ (s : State) (t : Fin 128) (p : Fin 1024) (k : Fin 16384) (n : Nat) (repl : Bool) (st w : Nat), s.live = true →
      s.fetches t p k 3 n repl st w →
    Runs (.stepIn t p k) s fun u =>
      (∀ q ∈ s.liveLanes t p w repl, u.dmGet t q (dmLoc repl st) = s.gobBit t (bitAddr repl w q) ∧
          u.drove t q k = s.gobBit t (bitAddr repl w q)) ∧
      (∀ q loc, q < 1024 → loc < 2048 → (q ∉ s.liveLanes t p w repl ∨ loc ≠ dmLoc repl st) →
          u.dmGet t q loc = s.dmGet t q loc)) ∧
  -- mdata
  (∀ (s : State) (t : Fin 128) (p : Fin 1024) (k : Fin 16384) (n : Nat) (repl : Bool) (st w : Nat), s.live = true →
      s.fetches t p k 6 n repl st w →
    Runs (.mdata t p k) s fun u =>
      (∀ q ∈ s.liveLanes t p w repl, u.dmGet t q (dmLoc repl st) = s.retBit t (bitAddr repl w q) ∧
          u.drove t q k = s.retBit t (bitAddr repl w q)) ∧
      (∀ q loc, q < 1024 → loc < 2048 → (q ∉ s.liveLanes t p w repl ∨ loc ≠ dmLoc repl st) →
          u.dmGet t q loc = s.dmGet t q loc)) ∧
  -- brk
  (∀ (s : State) (t : Fin 128) (p : Fin 1024) (k : Fin 16384) (dmBad : Option DmBad) (rowBad : Option (Fin 16384)) (n
      : Nat) (repl : Bool) (st w : Nat), s.live = true → s.fetches t p k 7 n repl st w →
    Runs (.brk t p k dmBad rowBad) s fun u =>
      (∀ q ∈ s.liveLanes t p w repl,
          u.dmGet t q (dmLoc repl st) = (s.readFaults n t p w repl dmBad rowBad).lut n t q k repl true w ∧
          u.drove t q k = (s.readFaults n t p w repl dmBad rowBad).lut n t q k repl true w) ∧
      (∀ q loc, q < 1024 → loc < 2048 → (q ∉ s.liveLanes t p w repl ∨ loc ≠ dmLoc repl st) →
          u.dmGet t q loc = s.dmGet t q loc) ∧
      (∀ q ∈ s.liveLanes t p w repl, s.latched (F.MPU_DBG_CTRL_BRK_EN t) = 1 →
          (s.readFaults n t p w repl dmBad rowBad).lut n t q k repl true w = true → (u.gaf n).hit = true ∧
          u.on (F.MPU_BRK_STAT_VALID t) = true)) ∧
  -- invalidStepWord
  (∀ (s : State) (t : Fin 128) (p : Fin 1024) (k : Fin 16384) (w : BitVec 80) (n : Nat) (repl : Bool) (st cause :
      Nat), s.live = true → s.unitAt t p k = some (n, repl, st) → stepInvalid repl w.toNat = some cause →
    Runs (.invalidStepWord t p k w) s fun u =>
      u.stepAt (stepKey repl (s.phys t) p st) = w.toNat ∧
      Counted s u (F.MPU_STEP_ERR_CNT_COUNT t) ∧
      (s.on (F.MPU_STEP_ERR_VALID t) = false →
          (u.reg (0x200074 + 0x10000 * t)).toNat = (2 ^ 31 + 2 ^ 28 * cause + 2 ^ 14 * p + st) % 2 ^ 32) ∧
      Pends u Ev.MPU_STEP_ERR)

/-- The bit that OUT addresses in the fill side of gob-out, and MREQ in the request area, takes the operand A of the
lane: the latest step's write stands and writes of one step OR. No other byte changes. Rests on: R65, R67, R68,
R91. -/
def Obligations.StepBuffers : Prop :=
  -- stepOut
  (∀ (s : State) (t : Fin 128) (p : Fin 1024) (k : Fin 16384) (dmBad : Option DmBad) (rowBad : Option (Fin 16384)) (n
      : Nat) (repl : Bool) (st w : Nat), s.live = true → s.fetches t p k 4 n repl st w →
    Runs (.stepOut t p k dmBad rowBad) s fun u =>
      (∀ q ∈ s.liveLanes t p w repl,
          bufBit u.gobOut (s.outFill t) (bitAddr repl w q) = (if k.val + 1 < Tab.get (fun _ => 0) s.stamps (t.val *
          65536 + bitAddr repl w q) then bufBit s.gobOut (s.outFill t) (bitAddr repl w q) else if Tab.get (fun _ =>
          0) s.stamps (t.val * 65536 + bitAddr repl w q) = k.val + 1 then bufBit s.gobOut (s.outFill t) (bitAddr repl
          w q) || (s.readFaults n t p w repl dmBad rowBad).opndOf n t q k repl w 0 else (s.readFaults n t p w repl
          dmBad rowBad).opndOf n t q k repl w 0)) ∧
      (∀ a, (∀ q ∈ s.liveLanes t p w repl, a ≠ s.outFill t + bitAddr repl w q / 8) →
          Bytes.get u.gobOut a = Bytes.get s.gobOut a) ∧
      u.dm = s.dm) ∧
  -- mreq
  (∀ (s : State) (t : Fin 128) (p : Fin 1024) (k : Fin 16384) (dmBad : Option DmBad) (rowBad : Option (Fin 16384)) (n
      : Nat) (repl : Bool) (st w : Nat), s.live = true → s.fetches t p k 5 n repl st w →
    Runs (.mreq t p k dmBad rowBad) s fun u =>
      (∀ q ∈ s.liveLanes t p w repl,
          bufBit u.reqArea (t.val * 4096) (bitAddr repl w q) = (if k.val + 1 < Tab.get (fun _ => 0) s.stamps (t.val *
          65536 + (16384 + bitAddr repl w q)) then bufBit s.reqArea (t.val * 4096) (bitAddr repl w q) else if Tab.get
          (fun _ => 0) s.stamps (t.val * 65536 + (16384 + bitAddr repl w q)) = k.val + 1 then bufBit s.reqArea (t.val
          * 4096) (bitAddr repl w q) || (s.readFaults n t p w repl dmBad rowBad).opndOf n t q k repl w 0 else
          (s.readFaults n t p w repl dmBad rowBad).opndOf n t q k repl w 0)) ∧
      (∀ a, (∀ q ∈ s.liveLanes t p w repl, a ≠ t.val * 4096 + bitAddr repl w q / 8) →
          Bytes.get u.reqArea a = Bytes.get s.reqArea a) ∧
      u.dm = s.dm)

/-- The boundaries b0, b3, b4, b8, b12, b16 and the step after b23, each from the boundary before it. Rests on: R45,
R49, R51, R52, R65, R85, R86, R89, R101, R105, R133, R134. -/
def Obligations.CycleBoundaries : Prop :=
  -- cycleBoundaryB0
  (∀ (s : State) (n : Fin 16), s.live = true → (s.gaf n).phase = .window →
    Runs (.cycleBoundaryB0 n) s fun u =>
      (u.gaf n).phase = .b0 ∧
      (s.gobReady n = true → ∀ t ∈ s.regionTiles n,
          u.rd (F.MPU_GOB_STAT_READ_SIDE t) = 1 - s.rd (F.MPU_GOB_STAT_READ_SIDE t) ∧
          u.rd (F.MPU_GOB_STAT_FILL_CLOSED t) = 0) ∧
      (s.gobReady n = false → ∀ t ∈ s.regionTiles n,
          u.rd (F.MPU_GOB_STAT_READ_SIDE t) = s.rd (F.MPU_GOB_STAT_READ_SIDE t) ∧
          Counted s u (F.MPU_GOB_NOSWAP_CNT_COUNT t) ∧ u.rd (F.MPU_GOB_STAT_NOSWAP t) = 1) ∧
      ((s.gaf n).hit = true → Pends u (Ev.GAF n 4))) ∧
  -- foldCompare
  (∀ (s : State) (n : Fin 16), s.live = true → (s.gaf n).phase = .b0 → (∀ t ∈ s.regionTiles n,
      (s.fold t (s.dual n) (s.gaf n).cur.win (s.lenCode n (s.gaf n).cur.win)).toNat = s.foldExp t (s.gaf n).cur.win) →
    Runs (.foldCompare n) s fun u =>
      (u.gaf n).phase = .b3 ∧
      (∀ t ∈ s.regionTiles n,
          u.rd64 (0x200020 + 0x10000 * t) = (s.fold t (s.dual n) (s.gaf n).cur.win (s.lenCode n (s.gaf
          n).cur.win)).toNat) ∧
      Keeps [.mpuRegs, .gafs] s u) ∧
  -- foldCompareMismatch
  (∀ (s : State) (n : Fin 16) (t : Nat), s.live = true → (s.gaf n).phase = .b0 → t ∈ s.regionTiles n →
      (s.fold t (s.dual n) (s.gaf n).cur.win (s.lenCode n (s.gaf n).cur.win)).toNat ≠ s.foldExp t (s.gaf n).cur.win →
      2 ≤ s.run n → s.run n ≤ 4 → (s.gaf n).fence = none → s.flt.f1 = false → s.safe = false →
    Runs (.foldCompare n) s fun u =>
      u.on (F.SEC_STATUS_FOLD_MISMATCH (t / 8)) = true ∧
      Counted s u (F.SEC_FOLD_CNT_COUNT (t / 8)) ∧
      u.on (F.SEC_FOLD_STAT_VALID (t / 8)) = true ∧
      Pends u (Ev.SEC_FOLD_MISMATCH (t / 8)) ∧
      (u.gaf n).fence = some (4, 16) ∧
      (u.gaf n).outBad = true) ∧
  -- gobOutCommit
  (∀ (s : State) (n : Fin 16), s.live = true → (s.gaf n).phase = .b3 →
    Runs (.gobOutCommit n) s fun u =>
      (u.gaf n).phase = .b4 ∧
      (∀ t ∈ s.regionTiles n, (u.tile t).outSide = !(s.tile t).outSide) ∧
      (∀ t ∈ s.regionTiles n,
          (u.tile t).status = (s.gaf n).ops.line % 2 ^ 48 + 2 ^ 48 * b2n (!(s.gaf n).outBad) + 2 ^ 49 * b2n (s.gaf
          n).ops.first + 2 ^ 50 * b2n (s.gaf n).ops.switched + 2 ^ 51 * b2n (s.gaf n).ops.overrun + 2 ^ 52 * b2n
          ((s.tile t).poison != 0)) ∧
      (∀ t ∈ s.regionTiles n, ∀ a, u.outFill t ≤ a → a < u.outFill t + 2048 → Bytes.get u.gobOut a = 0)) ∧
  -- memoryCheck
  (∀ (s : State) (n : Fin 16), s.live = true → (s.gaf n).phase = .b4 → s.lacking n = [] →
    Runs (.memoryCheck n) s fun u =>
      (u.gaf n).phase = .b8 ∧
      u.run n = s.run n ∧
      (∀ t ∈ s.regionTiles n, ∀ r ∈ (u.port t).reqs, r.due = s.cycles n → r.answered = true → r.stale = true)) ∧
  -- memoryCheckStalls
  (∀ (s : State) (n : Fin 16), s.live = true → (s.gaf n).phase = .b4 → s.lacking n ≠ [] →
      s.rd (F.GAF_STALL_BOUND_BOUND n) ≠ 0 →
    Runs (.memoryCheck n) s fun u =>
      (u.gaf n).phase = .stalled ∧
      u.rd (F.GAF_STATUS_STATE n) = 4 ∧
      (∀ t ∈ s.lackingData n, Counted s u (F.MPU_STALL_CNT_COUNT t))) ∧
  -- memoryCheckPoisons
  (∀ (s : State) (n : Fin 16), s.live = true → (s.gaf n).phase = .b4 → s.lacking n ≠ [] →
      s.rd (F.GAF_STALL_BOUND_BOUND n) = 0 →
    Runs (.memoryCheck n) s fun u =>
      (u.gaf n).phase = .b8 ∧
      (∀ t ∈ s.regionTiles n, ∀ k ∈ s.missedSlots t (s.cycles n), bit (u.tile t).poison k = true) ∧
      (∀ t ∈ s.lackingData n, Counted s u (F.MPU_STALL_CNT_COUNT t))) ∧
  -- stallEnd
  (∀ (s : State) (n : Fin 16), s.live = true → (s.gaf n).phase = .stalled → s.lacking n = [] →
    Runs (.stallEnd n) s fun u =>
      (u.gaf n).phase = .b8 ∧
      u.rd (F.GAF_STATUS_STATE n) = 3) ∧
  -- stallBoundExpiry
  (∀ (s : State) (n : Fin 16), s.live = true → (s.gaf n).phase = .stalled →
    Runs (.stallBoundExpiry n) s fun u =>
      (u.gaf n).phase = .b8 ∧
      u.rd (F.GAF_STATUS_STATE n) = 3 ∧
      (∀ t ∈ s.regionTiles n, ∀ k ∈ s.missedSlots t (s.cycles n), bit (u.tile t).poison k = true)) ∧
  -- specialOperandLatch
  (∀ (s : State) (n : Fin 16), s.live = true → (s.gaf n).phase = .b8 →
    Runs (.specialOperandLatch n) s fun u =>
      (u.gaf n).phase = .b12 ∧
      (∀ t ∈ s.regionTiles n, ∀ a, t * 4096 ≤ a → a < (t + 1) * 4096 → Bytes.get u.reqArea a = 0) ∧
      (∀ t ∈ s.regionTiles n, ∀ o ∈ latchedOffs,
          Tab.get regReset u.latch (0x200000 + 0x10000 * t + o) = s.reg (0x200000 + 0x10000 * t + o)) ∧
      (∀ c, (s.gaf n).next = some c → (u.gaf n).nextFixed = true ∧ (u.gaf n).nextOps = s.opsFor n c)) ∧
  -- windowFix
  (∀ (s : State) (n : Fin 16), s.live = true → (s.gaf n).phase = .b12 →
    Runs (.windowFix n) s fun u =>
      (u.gaf n).phase = .b16 ∧
      (∀ c, (s.gaf n).next = some c → (s.gaf n).nextFixed = true → s.windowOpen = false →
          u.rd (F.GAF_STATUS_WIN n) = b2n c.win) ∧
      (s.windowOpen = true → (s.gaf n).next ≠ none → (u.gaf n).nextFixed = false)) ∧
  -- cycleEndFences
  (∀ (s : State) (n : Fin 16) (cause src : Nat), s.live = true → (s.gaf n).phase = .b16 →
      (s.gaf n).fence = some (cause, src) → (s.gaf n).restart = false →
    Runs (.cycleEnd n) s fun u =>
      (u.gaf n).phase = .none ∧
      u.rd (F.GAF_STATUS_STATE n) = 5 ∧
      u.rd (F.GAF_STATUS_CAUSE n) = cause % 8 ∧
      u.rd (F.FLT_FENCE_LAST_SOURCE n) = src % 256 ∧
      (u.gaf n).queue = []) ∧
  -- cycleEndStops
  (∀ (s : State) (n : Fin 16) (cause : Nat), s.live = true → (s.gaf n).phase = .b16 → (s.gaf n).fence = none →
      (s.gaf n).stop = some cause →
    Runs (.cycleEnd n) s fun u =>
      (u.gaf n).phase = .none ∧
      u.rd (F.GAF_STATUS_STATE n) = 0 ∧
      u.rd (F.GAF_STATUS_CAUSE n) = cause % 8 ∧
      (u.gaf n).queue = []) ∧
  -- cycleEndArmed
  (∀ (s : State) (n : Fin 16), s.live = true → (s.gaf n).phase = .b16 → (s.gaf n).fence = none →
      (s.gaf n).stop = none → (s.gaf n).haltHit = false → (s.gaf n).restart = false → (s.gaf n).next = none →
    Runs (.cycleEnd n) s fun u =>
      (u.gaf n).phase = .none ∧
      u.rd (F.GAF_STATUS_STATE n) = 2) ∧
  -- cycleEnd
  (∀ (s : State) (n : Fin 16) (c : Cycle), s.live = true → (s.gaf n).phase = .b16 → (s.gaf n).fence = none →
      (s.gaf n).stop = none → (s.gaf n).haltHit = false → (s.gaf n).restart = false → (s.gaf n).next = some c →
      ((s.gaf n).nextFixed = true ∨ s.windowOpen = false) →
    Runs (.cycleEnd n) s fun u =>
      (u.gaf n).phase = .window ∧
      (u.gaf n).cur = c ∧
      (u.gaf n).next = none ∧
      u.rd (F.GAF_STATUS_STATE n) = 3 ∧
      u.rd (F.GAF_STATUS_WIN n) = b2n c.win ∧
      u.cycles n = (s.cycles n + 1) % 2 ^ 64)

/-- A write or a close of a gob-in delivery, where it applies at once, waits, wakes its sector, or is dropped; the end
of an INJECT's delivery and of a COMMIT's drain. Rests on: R84, R86, R87, R90, R118, R141, R264, R365, R393. -/
def Obligations.GobDeliveries : Prop :=
  -- gobInDataWrite
  (∀ (s : State) (t : Fin 128) (off : Fin 2048) (bytes keep : List Byte), s.live = true →
      off.val + bytes.length ≤ 2048 → s.fencedTile t = false → (s.tileRegion t).isSome = true →
      s.mustWait (t.val / 8) = false → s.gobHeld t = false → s.on (F.MPU_GOB_STAT_FILL_CLOSED t) = false →
      ((if s.latched (F.MPU_GOB_CFG_FAR_IN t) = 1 then bytes.take (1920 - off.val) else bytes) = keep) →
    Runs (.gobInDataWrite t off bytes) s fun u =>
      Bytes.read u.gobIn ((t.val * 2 + s.fillSide t) * 2048 + off.val) keep.length = keep ∧
      (∀ a, (a < (t.val * 2 + s.fillSide t) * 2048 + off.val ∨
          (t.val * 2 + s.fillSide t) * 2048 + off.val + keep.length ≤ a) →
          Bytes.get u.gobIn a = Bytes.get s.gobIn a) ∧
      (keep.length < bytes.length → Counted s u (F.MPU_GOB_DROP_CNT_COUNT t) ∧ u.rd (F.MPU_GOB_STAT_DROP t) = 1)) ∧
  -- gobInDataWriteDropped
  (∀ (s : State) (t : Fin 128) (off : Fin 2048) (bytes : List Byte), s.live = true → off.val + bytes.length ≤ 2048 →
      s.fencedTile t = false → (s.tileRegion t).isSome = true → s.mustWait (t.val / 8) = false →
      s.gobHeld t = false → s.on (F.MPU_GOB_STAT_FILL_CLOSED t) = true →
    Runs (.gobInDataWrite t off bytes) s fun u =>
      u.gobIn = s.gobIn ∧
      Counted s u (F.MPU_GOB_DROP_CNT_COUNT t) ∧
      u.rd (F.MPU_GOB_STAT_DROP t) = 1) ∧
  -- gobInDataWriteWaits
  (∀ (s : State) (t : Fin 128) (off : Fin 2048) (bytes : List Byte), s.live = true → off.val + bytes.length ≤ 2048 →
      s.fencedTile t = false → (s.tileRegion t).isSome = true → s.mustWait (t.val / 8) = false → s.gobHeld t = true →
    Runs (.gobInDataWrite t off bytes) s fun u =>
      u.gobIn = s.gobIn ∧
      (u.tile t).waiting = (s.tile t).waiting ++ [.data off.val bytes none]) ∧
  -- gobInClose
  (∀ (s : State) (t : Fin 128) (hdr : BitVec 64), s.live = true → s.fencedTile t = false →
      (s.tileRegion t).isSome = true → s.mustWait (t.val / 8) = false → s.gobHeld t = false →
      s.on (F.MPU_GOB_STAT_FILL_CLOSED t) = false →
    Runs (.gobInClose t hdr) s fun u =>
      u.rd (F.MPU_GOB_STAT_FILL_CLOSED t) = 1 ∧
      Bytes.read u.gobIn ((t.val * 2 + s.fillSide t) * 2048) 8 = leBytes 8 (hdr.toNat / 256 * 256 + 2 * (hdr.toNat /
          2 % 2) + 1) ∧
      (∀ a, (a < (t.val * 2 + s.fillSide t) * 2048 ∨ (t.val * 2 + s.fillSide t) * 2048 + 8 ≤ a) →
          Bytes.get u.gobIn a = Bytes.get s.gobIn a)) ∧
  -- gobInCloseDropped
  (∀ (s : State) (t : Fin 128) (hdr : BitVec 64), s.live = true → s.fencedTile t = false →
      (s.tileRegion t).isSome = true → s.mustWait (t.val / 8) = false → s.gobHeld t = false →
      s.on (F.MPU_GOB_STAT_FILL_CLOSED t) = true →
    Runs (.gobInClose t hdr) s fun u =>
      u.gobIn = s.gobIn ∧
      Counted s u (F.MPU_GOB_DROP_CNT_COUNT t)) ∧
  -- gobInCloseWaits
  (∀ (s : State) (t : Fin 128) (hdr : BitVec 64), s.live = true → s.fencedTile t = false →
      (s.tileRegion t).isSome = true → s.mustWait (t.val / 8) = false → s.gobHeld t = true →
    Runs (.gobInClose t hdr) s fun u =>
      u.gobIn = s.gobIn ∧
      (u.tile t).waiting = (s.tile t).waiting ++ [.close hdr.toNat none]) ∧
  -- gobInDataWriteWakes
  (∀ (s : State) (t : Fin 128) (off : Fin 2048) (bytes : List Byte), s.live = true → off.val + bytes.length ≤ 2048 →
      s.fencedTile t = false → (s.tileRegion t).isSome = true → s.asleep (t.val / 8) = true →
      (s.dom (t.val / 8)).down = none → s.heldDown (t.val / 8) = false →
    Runs (.gobInDataWrite t off bytes) s fun u =>
      u.gobIn = s.gobIn ∧
      (u.tile t).waiting = (s.tile t).waiting ++ [.data off.val bytes none] ∧
      (u.dom (t.val / 8)).waking = true) ∧
  -- gobInFenced
  (∀ (s : State) (t : Fin 128) (off : Fin 2048) (bytes : List Byte), s.live = true → s.fencedTile t = true →
    Runs (.gobInDataWrite t off bytes) s fun u =>
      u = s) ∧
  -- injectDeliveryEnd
  (∀ (s : State) (n : Fin 16) (up : Upsets) (j : Inject) (js : List Inject), s.live = true →
      (s.gaf n).injects = j :: js → s.hbmReady j.addr (64 * j.len) = true →
    Runs (.injectDeliveryEnd n up) s fun u =>
      (u.gaf n).injects = js ∧
      u.rd (F.GAF_STATUS_INJ_BUSY n) = b2n (!js.isEmpty) ∧
      ((s.upsets (upsetList up)).badWords j.addr (64 * j.len) ≠ [] → Pends u (Ev.GAF n 5))) ∧
  -- injectDelivers
  (∀ (s : State) (n : Fin 16) (up : Upsets) (j : Inject) (js : List Inject) (t : Nat), s.live = true →
      (s.gaf n).injects = j :: js → s.hbmReady j.addr (64 * j.len) = true → s.stackDead 0 = false →
      s.stackDead 1 = false → (s.upsets (upsetList up)).badWords j.addr (64 * j.len) = [] → t ∈ s.regionTiles n →
      s.fencedTile t = false → s.mustWait (t / 8) = false → s.gobHeld t = false →
      s.on (F.MPU_GOB_STAT_FILL_CLOSED t) = false → j.len = 1 →
    Runs (.injectDeliveryEnd n up) s fun u =>
      u.rd (F.MPU_GOB_STAT_FILL_CLOSED t) = 1 ∧
      Bytes.read u.gobIn ((t * 2 + s.fillSide t) * 2048 + 64) 64 = Bytes.read s.hbm j.addr 64) ∧
  -- commitDrainEnd
  (∀ (s : State) (n : Fin 16) (d : Drain) (ds : List Drain), s.live = true → (s.gaf n).drains = d :: ds →
      s.hbmReady d.record 64 = true → s.hbmReady (d.record + 64) (s.drainBytes d).length = true →
      inHbm d.record (64 + (s.drainBytes d).length) = true → s.stackDead 0 = false → s.stackDead 1 = false →
    Runs (.commitDrainEnd n) s fun u =>
      (u.gaf n).drains = ds ∧
      Bytes.read u.hbm d.record 64 = drainHeader d d.tiles.length true false ∧
      Bytes.read u.hbm (d.record + 64) (s.drainBytes d).length = s.drainBytes d ∧
      (∀ a, (a < d.record ∨ d.record + 64 + (s.drainBytes d).length ≤ a) → Bytes.get u.hbm a = Bytes.get s.hbm a)) ∧
  -- commitDrainEndWaits
  (∀ (s : State) (n : Fin 16) (d : Drain) (ds : List Drain), s.live = true → (s.gaf n).drains = d :: ds →
      s.hbmReady d.record 64 = false → s.hbmReady (d.record + 64) (s.drainBytes d).length = false →
    Runs (.commitDrainEnd n) s fun u =>
      (u.gaf n).drains = ds ∧
      u.hbm = s.hbm ∧
      u.hbmHeld = s.hbmHeld ++ [.write (d.record + 64) ((s.drainBytes d).map some),
          .write d.record ((drainHeader d d.tiles.length true false).map some)]) ∧
  -- commitDrainEndBeyond
  (∀ (s : State) (n : Fin 16) (d : Drain) (ds : List Drain), s.live = true → (s.gaf n).drains = d :: ds →
      2 ^ 35 ≤ d.record →
    Runs (.commitDrainEnd n) s fun u =>
      (u.gaf n).drains = ds ∧
      u.hbm = s.hbm ∧
      u.hbmHeld = s.hbmHeld ∧
      Pends u Ev.SYS_ACCESS_ERR)

/-- NOP, RUN, SELECT_WINDOW, LOOP, ENDLOOP, JUMP, HALT and what a program error does, each for a gaffer that has
reached the valid word (with no stop, fence or restart pending). Rests on: R97, R98, R99, R100, R101, R102, R105,
R106, R107, R115, R116, R117. -/
def Obligations.GafferControl : Prop :=
  -- gafferNop
  (∀ (s : State) (n : Fin 16) (w : Nat), s.live = true → s.reaches n 0 w →
    Runs (.gafferNop n) s fun u =>
      Advanced s u n ∧
      (∀ o, o ≠ (F.GAF_STATUS_PC n).off → u.reg o = s.reg o) ∧
      Keeps [.gafRegs, .gafs] s u) ∧
  -- run
  (∀ (s : State) (n : Fin 16) (w : Nat) (x : State) (win : Bool), s.live = true → s.reaches n 3 w →
      s.windowOpen = false → s.runHolds n = false → (s.dual n = true ∨ slice w 25 24 = 0) →
      ((if slice w 25 24 = 2 then s.applySwitch n else s) = x) →
      ((if slice w 25 24 = 2 then x.on (F.GAF_STATUS_SEL n) else slice w 25 24 == 1) = win) →
      ((if win then x.on (F.GAF_STATUS_READY_B n) else x.on (F.GAF_STATUS_READY_A n)) = true) →
      runValid (x.dual n) w (x.lenCode n win) = true →
    Runs (.run n) s fun u =>
      Advanced s u n ∧
      ((s.gaf n).phase = .none → (u.gaf n).phase = .window ∧ (u.gaf n).cur = ⟨win, (s.gaf n).xchgNext, []⟩ ∧
          u.run n = 3) ∧
      ((s.gaf n).phase ≠ .none → (u.gaf n).phase = (s.gaf n).phase ∧ (u.gaf n).next = some ⟨win, (s.gaf n).xchgNext,
          []⟩)) ∧
  -- runHeld
  (∀ (s : State) (n : Fin 16) (w : Nat) (c : PerfChange), s.live = true → s.reaches n 3 w → s.windowOpen = true →
      s.pwr.perf = some c → c.held.contains (2 * n.val + 1) = false →
    Runs (.run n) s fun u =>
      u.pcOf n = s.pcOf n ∧
      u.gafs = s.gafs ∧
      Counted s u F.PWR_PERF_HOLD_CNT_COUNT) ∧
  -- runRefused
  (∀ (s : State) (n : Fin 16) (w : Nat) (x : State) (win : Bool), s.live = true → s.reaches n 3 w →
      s.windowOpen = false → s.runHolds n = false → (s.dual n = true ∨ slice w 25 24 = 0) →
      ((if slice w 25 24 = 2 then s.applySwitch n else s) = x) →
      ((if slice w 25 24 = 2 then x.on (F.GAF_STATUS_SEL n) else slice w 25 24 == 1) = win) →
      ((if win then x.on (F.GAF_STATUS_READY_B n) else x.on (F.GAF_STATUS_READY_A n)) = false ∨
      runValid (x.dual n) w (x.lenCode n win) = false) → s.on (F.GAF_PROG_ERR_VALID n) = false →
    Runs (.run n) s fun u =>
      u.on (F.GAF_PROG_ERR_VALID n) = true ∧
      u.rd (F.GAF_PROG_ERR_CAUSE n) = 5 ∧
      u.rd (F.GAF_PROG_ERR_PC n) = s.pcOf n) ∧
  -- selectWindow
  (∀ (s : State) (n : Fin 16) (w : Nat), s.live = true → s.reaches n 4 w →
    Runs (.selectWindow n) s fun u =>
      (u.rd (F.GAF_STATUS_SEL n) = (if slice w 1 0 = 3 then 1 - s.rd (F.GAF_STATUS_SEL n) else slice w 0 0)) ∧
      Advanced s u n ∧
      (∀ o, o ≠ (F.GAF_STATUS_PC n).off → u.reg o = s.reg o)) ∧
  -- loop
  (∀ (s : State) (n : Fin 16) (w : Nat), s.live = true → s.reaches n 5 w → slice w 15 0 ≠ 0 →
      (s.gaf n).loops.length < 4 →
    Runs (.loop n) s fun u =>
      (u.gaf n).loops = (slice w 15 0, s.pcOf n + 1) :: (s.gaf n).loops ∧
      u.rd (F.GAF_STATUS_LOOP_DEPTH n) = (s.gaf n).loops.length + 1 ∧
      Advanced s u n) ∧
  -- loopSkips
  (∀ (s : State) (n : Fin 16) (w : Nat), s.live = true → s.reaches n 5 w → slice w 15 0 = 0 →
    Runs (.loop n) s fun u =>
      (if slice w 24 16 = 511 then (u.gaf n).past = true else u.pcOf n = slice w 24 16 + 1) ∧
      (u.gaf n).loops = (s.gaf n).loops) ∧
  -- loopTooDeep
  (∀ (s : State) (n : Fin 16) (w : Nat), s.live = true → s.reaches n 5 w → slice w 15 0 ≠ 0 →
      4 ≤ (s.gaf n).loops.length → s.on (F.GAF_PROG_ERR_VALID n) = false →
    Runs (.loop n) s fun u =>
      u.rd (F.GAF_PROG_ERR_CAUSE n) = 3 ∧
      u.rd (F.GAF_PROG_ERR_PC n) = s.pcOf n) ∧
  -- endloop
  (∀ (s : State) (n : Fin 16) (w c a : Nat) (ls : List (Nat × Nat)), s.live = true → s.reaches n 6 w →
      (s.gaf n).loops = (c, a) :: ls → 1 < c → a < 512 →
    Runs (.endloop n) s fun u =>
      (u.gaf n).loops = (c - 1, a) :: ls ∧
      u.pcOf n = a) ∧
  -- endloopCloses
  (∀ (s : State) (n : Fin 16) (w c a : Nat) (ls : List (Nat × Nat)), s.live = true → s.reaches n 6 w →
      (s.gaf n).loops = (c, a) :: ls → c ≤ 1 →
    Runs (.endloop n) s fun u =>
      (u.gaf n).loops = ls ∧
      Advanced s u n) ∧
  -- endloopUnmatched
  (∀ (s : State) (n : Fin 16) (w : Nat), s.live = true → s.reaches n 6 w → (s.gaf n).loops = [] →
      s.on (F.GAF_PROG_ERR_VALID n) = false →
    Runs (.endloop n) s fun u =>
      u.rd (F.GAF_PROG_ERR_CAUSE n) = 4 ∧
      u.rd (F.GAF_PROG_ERR_PC n) = s.pcOf n) ∧
  -- jump
  (∀ (s : State) (n : Fin 16) (w : Nat), s.live = true → s.reaches n 13 w →
    Runs (.jump n) s fun u =>
      u.pcOf n = slice w 8 0 ∧
      (∀ o, o ≠ (F.GAF_STATUS_PC n).off → u.reg o = s.reg o) ∧
      u.gafs = s.gafs) ∧
  -- halt
  (∀ (s : State) (n : Fin 16) (w : Nat), s.live = true → s.reaches n 14 w → (s.gaf n).phase = .none →
      (s.gaf n).next = none →
    Runs (.halt n) s fun u =>
      u.rd (F.GAF_STATUS_STATE n) = 0 ∧
      u.rd (F.GAF_STATUS_CAUSE n) = 1 ∧
      (u.gaf n).queue = [] ∧
      u.rd (F.GAF_TRIG_DISC_CNT_COUNT n) = min 0xffffffff (s.rd (F.GAF_TRIG_DISC_CNT_COUNT n) + (s.gaf
          n).queue.length) ∧
      Pends u (Ev.GAF n 7)) ∧
  -- haltHolds
  (∀ (s : State) (n : Fin 16) (w : Nat), s.live = true → s.reaches n 14 w → ((s.gaf n).phase ≠ .none ∨
      (s.gaf n).next ≠ none) →
    Runs (.halt n) s fun u =>
      u = s) ∧
  -- programErrorPast
  (∀ (s : State) (n : Fin 16) (w : Option (BitVec 32)), s.live = true → s.issues n = true → (s.gaf n).past = true →
      s.on (F.GAF_PROG_ERR_VALID n) = false → s.safe = false →
    Runs (.programError n w) s fun u =>
      u.rd (F.GAF_PROG_ERR_CAUSE n) = 6 ∧
      u.rd (F.GAF_PROG_ERR_PC n) = 511 ∧
      ((s.gaf n).phase = .none → u.run n = 5) ∧
      ((s.gaf n).phase ≠ .none → (u.gaf n).fence = some (5, 19))) ∧
  -- programError
  (∀ (s : State) (n : Fin 16) (w : Option (BitVec 32)), s.live = true → s.issues n = true → (s.gaf n).past = false →
      (w.any fun v => s.wordValid n (s.pcOf n) v.toNat) = false → s.on (F.GAF_PROG_ERR_VALID n) = false →
      s.safe = false →
    Runs (.programError n w) s fun u =>
      (u.rd (F.GAF_PROG_ERR_CAUSE n) = (if w.isSome then 1 else 2)) ∧
      u.rd (F.GAF_PROG_ERR_PC n) = s.pcOf n ∧
      (∀ v, w = some v → u.reg (0x100800 + 0x10000 * n.val + 4 * s.pcOf n) = v) ∧
      ((s.gaf n).phase = .none → u.run n = 5) ∧
      ((s.gaf n).phase ≠ .none → (u.gaf n).fence = some (5, 19)))

/-- WAIT_TRIG, WAIT_EVT, INJECT, COMMIT, XCHG, SIGNAL, SET_STALL and MARK, each for a gaffer that has reached the valid
word. Rests on: R74, R89, R108, R109, R111, R114, R118, R119, R120, R121, R122. -/
def Obligations.GafferEffects : Prop :=
  -- waitTrig
  (∀ (s : State) (n : Fin 16) (w : Nat) (e : TrigEntry) (es : List TrigEntry), s.live = true → s.reaches n 1 w →
      (s.gaf n).queue = e :: es →
    Runs (.waitTrig n) s fun u =>
      (u.gaf n).queue = es ∧
      u.rd (F.GAF_LINE_LO n) = e.line % 2 ^ 32 ∧
      u.rd (F.GAF_LINE_HI n) = e.line / 2 ^ 32 % 2 ^ 16 ∧
      u.rd (F.GAF_LINE_HI_COUNT n) = e.count % 256 ∧
      u.rd (F.GAF_STATUS_QDEPTH n) = es.length % 16 ∧
      ((u.gaf n).mergeNotes = (if e.merged then (s.gaf n).mergeNotes ++ [e.count] else (s.gaf n).mergeNotes)) ∧
      Advanced s u n) ∧
  -- waitTrigWaits
  (∀ (s : State) (n : Fin 16) (w : Nat), s.live = true → s.reaches n 1 w → (s.gaf n).queue = [] →
    Runs (.waitTrig n) s fun u =>
      u = s) ∧
  -- waitEvt
  (∀ (s : State) (n : Fin 16) (w k : Nat), s.live = true → s.reaches n 2 w →
      (firstIdx 8 fun k => bit w k && decide (s.rd (evtPendFld n k) ≠ 0)) = some k →
    Runs (.waitEvt n) s fun u =>
      u.rd (evtPendFld n k) = s.rd (evtPendFld n k) - 1 ∧
      u.rd (F.GAF_STATUS_LAST_COND n) = k ∧
      Advanced s u n) ∧
  -- waitEvtWaits
  (∀ (s : State) (n : Fin 16) (w : Nat), s.live = true → s.reaches n 2 w →
      (firstIdx 8 fun k => bit w k && decide (s.rd (evtPendFld n k) ≠ 0)) = none →
    Runs (.waitEvt n) s fun u =>
      u = s) ∧
  -- inject
  (∀ (s : State) (n : Fin 16) (w : Nat), s.live = true → s.reaches n 7 w → (s.gaf n).injects.length < 2 →
      s.on (F.GAF_INJ_HI_VALID n (slice w 2 0)) = true → 1 ≤ s.rd (F.GAF_INJ_HI_LEN n (slice w 2 0)) →
      s.rd (F.GAF_INJ_HI_LEN n (slice w 2 0)) ≤ 29 →
      inHbm (64 * s.rd (F.GAF_INJ_LO_ADDR_LO n (slice w 2 0)) + 2 ^ 32 * s.rd (F.GAF_INJ_HI_ADDR_HI n (slice w 2 0)))
      (64 * s.rd (F.GAF_INJ_HI_LEN n (slice w 2 0))) = true →
    Runs (.inject n) s fun u =>
      (u.gaf n).injects = (s.gaf n).injects ++
          [⟨64 * s.rd (F.GAF_INJ_LO_ADDR_LO n (slice w 2 0)) + 2 ^ 32 * s.rd (F.GAF_INJ_HI_ADDR_HI n (slice w 2 0)),
          s.rd (F.GAF_INJ_HI_LEN n (slice w 2 0)), s.lineOf n, s.rd (F.GAF_LINE_HI_COUNT n)⟩] ∧
      u.rd (F.GAF_STATUS_INJ_BUSY n) = 1 ∧
      Advanced s u n) ∧
  -- injectRefused
  (∀ (s : State) (n : Fin 16) (w : Nat), s.live = true → s.reaches n 7 w → (s.gaf n).injects.length < 2 →
      (s.on (F.GAF_INJ_HI_VALID n (slice w 2 0)) && decide (1 ≤ s.rd (F.GAF_INJ_HI_LEN n (slice w 2 0))) && decide
      (s.rd (F.GAF_INJ_HI_LEN n (slice w 2 0)) ≤ 29) && inHbm (64 * s.rd (F.GAF_INJ_LO_ADDR_LO n (slice w 2 0)) + 2 ^
      32 * s.rd (F.GAF_INJ_HI_ADDR_HI n (slice w 2 0))) (64 * s.rd (F.GAF_INJ_HI_LEN n (slice w 2 0)))) = false →
    Runs (.inject n) s fun u =>
      Pends u (Ev.GAF n 5) ∧
      (u.gaf n).injects = (s.gaf n).injects ∧
      Advanced s u n) ∧
  -- injectHolds
  (∀ (s : State) (n : Fin 16) (w : Nat), s.live = true → s.reaches n 7 w → 2 ≤ (s.gaf n).injects.length →
    Runs (.inject n) s fun u =>
      u = s) ∧
  -- commitAttaches
  (∀ (s : State) (n : Fin 16) (w : Nat) (c : Cycle), s.live = true → s.reaches n 8 w → (s.gaf n).next = some c →
    Runs (.commit n) s fun u =>
      (u.gaf n).next = some { c with commits := c.commits ++ [slice w 1 0] } ∧
      Advanced s u n ∧
      u.hbm = s.hbm) ∧
  -- commitAttachesCurrent
  (∀ (s : State) (n : Fin 16) (w : Nat), s.live = true → s.reaches n 8 w → (s.gaf n).next = none →
      (s.gaf n).phase = .window →
    Runs (.commit n) s fun u =>
      (u.gaf n).cur = { (s.gaf n).cur with commits := (s.gaf n).cur.commits ++ [slice w 1 0] } ∧
      Advanced s u n ∧
      u.hbm = s.hbm) ∧
  -- commitRefused
  (∀ (s : State) (n : Fin 16) (w size a : Nat), s.live = true → s.reaches n 8 w → (s.gaf n).next = none →
      (s.gaf n).phase ≠ .window →
      64 * (1 + (s.regionTiles n).length * (1 + min 32 (s.rd (F.GAF_COM_HI_BYTES n (slice w 1 0))))) = size →
      64 * s.rd (F.GAF_COM_LO_ADDR_LO n (slice w 1 0)) + 2 ^ 32 * s.rd (F.GAF_COM_HI_ADDR_HI n (slice w 1 0)) + s.rd
      (F.GAF_COM_SEQ_SEQ n (slice w 1 0)) % 2 ^ min 20 (s.rd (F.GAF_COM_HI_RING n (slice w 1 0))) * size = a →
      (s.on (F.GAF_COM_HI_VALID n (slice w 1 0)) && inHbm a size) = false →
    Runs (.commit n) s fun u =>
      Pends u (Ev.GAF n 5) ∧
      (u.gaf n).drains = (s.gaf n).drains ∧
      u.hbm = s.hbm ∧
      u.rd (F.GAF_COM_SEQ_SEQ n (slice w 1 0)) = s.rd (F.GAF_COM_SEQ_SEQ n (slice w 1 0)) ∧
      Advanced s u n) ∧
  -- commit
  (∀ (s : State) (n : Fin 16) (w size a : Nat) (d : Drain), s.live = true → s.reaches n 8 w → (s.gaf n).next = none →
      (s.gaf n).phase ≠ .window →
      64 * (1 + (s.regionTiles n).length * (1 + min 32 (s.rd (F.GAF_COM_HI_BYTES n (slice w 1 0))))) = size →
      64 * s.rd (F.GAF_COM_LO_ADDR_LO n (slice w 1 0)) + 2 ^ 32 * s.rd (F.GAF_COM_HI_ADDR_HI n (slice w 1 0)) + s.rd
      (F.GAF_COM_SEQ_SEQ n (slice w 1 0)) % 2 ^ min 20 (s.rd (F.GAF_COM_HI_RING n (slice w 1 0))) * size = a →
      (s.on (F.GAF_COM_HI_VALID n (slice w 1 0)) && inHbm a size) = true →
      Drain.mk a (s.rd (F.GAF_COM_SEQ_SEQ n (slice w 1 0))) (min 32 (s.rd (F.GAF_COM_HI_BYTES n (slice w 1 0))))
      (s.gaf n).commitTime (s.statusOf ((s.regionTiles n).headD 0) % 2 ^ 48) (s.regionTiles n) = d →
    Runs (.commit n) s fun u =>
      (u.gaf n).drains = (s.gaf n).drains ++ [d] ∧
      u.rd (F.GAF_COM_SEQ_SEQ n (slice w 1 0)) = (s.rd (F.GAF_COM_SEQ_SEQ n (slice w 1 0)) + 1) % 2 ^ 32 ∧
      (s.hbmReady a 64 = true → s.stackDead (stackOf a) = false →
          Bytes.read u.hbm a 64 = drainHeader d 0 false false) ∧
      Advanced s u n) ∧
  -- xchg
  (∀ (s : State) (n : Fin 16) (w : Nat), s.live = true → s.reaches n 9 w →
    Runs (.xchg n) s fun u =>
      Advanced s u n ∧
      (∀ c, (s.gaf n).next = some c → (u.gaf n).next = some { c with xchg := true }) ∧
      ((s.gaf n).next = none → (s.gaf n).phase = .window → (u.gaf n).cur.xchg = true) ∧
      ((s.gaf n).next = none → (s.gaf n).phase ≠ .window → (u.gaf n).xchgNext = true) ∧
      (∀ o, o ≠ (F.GAF_STATUS_PC n).off → u.reg o = s.reg o)) ∧
  -- signal
  (∀ (s : State) (n : Fin 16) (w : Nat), s.live = true → s.reaches n 10 w →
    Runs (.signal n) s fun u =>
      Pends u (Ev.GAF n (slice w 0 0)) ∧
      Advanced s u n) ∧
  -- setStall
  (∀ (s : State) (n : Fin 16) (w : Nat), s.live = true → s.reaches n 11 w →
    Runs (.setStall n) s fun u =>
      u.rd (F.GAF_STALL_BOUND_BOUND n) = slice w 15 0 ∧
      Advanced s u n ∧
      (∀ o, o ≠ (F.GAF_STATUS_PC n).off → o ≠ (F.GAF_STALL_BOUND_BOUND n).off → u.reg o = s.reg o)) ∧
  -- mark
  (∀ (s : State) (n : Fin 16) (w p : Nat), s.live = true → s.reaches n 12 w → s.rd (F.GAF_LOG_PTR_TRACE_PTR n) = p →
    Runs (.mark n) s fun u =>
      (u.reg (0x102000 + 0x10000 * n + 16 * p)).toNat = s.lineOf n % 2 ^ 32 ∧
      (u.reg (0x102004 + 0x10000 * n + 16 * p)).toNat = s.rd (F.GAF_LINE_HI n) + 2 ^ 16 * s.rd (F.GAF_LINE_HI_COUNT
          n) + 2 ^ 24 * slice w 7 0 ∧
      (u.reg (0x102008 + 0x10000 * n + 16 * p)).toNat = s.cycles n % 2 ^ 32 ∧
      (u.reg (0x10200c + 0x10000 * n + 16 * p)).toNat = s.rd (F.GAF_STATUS_WIN n) + 2 * s.rd (F.GAF_STATUS_OVERRUN n)
          ∧
      u.rd (F.GAF_LOG_PTR_TRACE_PTR n) = (p + 1) % 256 ∧
      (p = 255 → u.on (F.GAF_LOG_PTR_TRACE_WRAPPED n) = true) ∧
      Advanced s u n)

/-- A controller performs a request of a memory port or of another agent, or holds it while its stack does not serve; a
landed answer waits for its boundary, frees a stale or poisoned read's tag, and an acknowledged write frees its
tag. Rests on: R128, R129, R132, R135, R136, R138, R139, R141. -/
def Obligations.MemoryPorts : Prop :=
  -- hbmRequestRead
  (∀ (s : State) (t : Fin 128) (tag : Fin 32) (x : Upset) (r : MemReq), s.live = true → s.holder t tag = some r →
      r.write = false → r.performed = false → firstOfBlock (s.port t).reqs r = true →
      s.stackDead (stackOf r.addr) = false → s.stackServes (stackOf r.addr) = true →
    Runs (.hbmRequest (.port t tag) x) s fun u =>
      u.holder t tag = some { r with
        performed := true
        err := (stacksTouched r.addr 64).any (fun c => s.stackDead c) || !((s.upsets (upsetWords x r.addr)).badWords
            r.addr 64).isEmpty
        data := Bytes.read s.hbm r.addr 64 } ∧
      Output.dram (stackOf r.addr) (channelOf r.addr) (pseudoIdx r.addr % 2) (bankOf r.addr) (localOf r.addr) false ∈
          u.out ∧
      u.hbm = s.hbm) ∧
  -- hbmRequestWrite
  (∀ (s : State) (t : Fin 128) (tag : Fin 32) (x : Upset) (r : MemReq), s.live = true → s.holder t tag = some r →
      r.write = true → r.performed = false → firstOfBlock (s.port t).reqs r = true →
      s.stackDead (stackOf r.addr) = false → s.stackServes (stackOf r.addr) = true →
    Runs (.hbmRequest (.port t tag) x) s fun u =>
      u.holder t tag = some { r with performed := true } ∧
      (∀ i, i < 64 → bit r.be i = true → Bytes.get u.hbm (r.addr + i) = r.data.getD i 0) ∧
      (∀ a, (∀ i, i < 64 → bit r.be i = true → a ≠ r.addr + i) → Bytes.get u.hbm a = Bytes.get s.hbm a)) ∧
  -- hbmRequestDead
  (∀ (s : State) (block : BitVec 29) (be : BitVec 64) (data : BitVec 512) (x : Upset), s.live = true →
      s.stackDead (stackOf (64 * block.toNat)) = true →
    Runs (.hbmRequest (.write block be data) x) s fun u =>
      (∃ l : List Output, u.out = l ++ [Output.hbm true []]) ∧
      u.hbm = s.hbm) ∧
  -- hbmRequestDeadRead
  (∀ (s : State) (block : BitVec 29) (x : Upset), s.live = true → s.stackDead (stackOf (64 * block.toNat)) = true →
    Runs (.hbmRequest (.read block) x) s fun u =>
      (∃ l : List Output, u.out = l ++ [Output.hbm true []]) ∧
      u.hbm = s.hbm) ∧
  -- hbmRequest
  (∀ (s : State) (block : BitVec 29) (be : BitVec 64) (data : BitVec 512) (x : Upset), s.live = true →
      s.stackDead (stackOf (64 * block.toNat)) = false → s.stackServes (stackOf (64 * block.toNat)) = true →
    Runs (.hbmRequest (.write block be data) x) s fun u =>
      (∀ i, i < 64 → bit be.toNat i = true →
          (Bytes.get u.hbm (64 * block.toNat + i)).toNat = data.toNat / 256 ^ i % 256) ∧
      (∀ a, (∀ i, i < 64 → bit be.toNat i = true → a ≠ 64 * block.toNat + i) →
          Bytes.get u.hbm a = Bytes.get s.hbm a) ∧
      (∃ l : List Output, u.out = l ++ [Output.hbm false []])) ∧
  -- hbmRequestReadBlock
  (∀ (s : State) (block : BitVec 29) (x : Upset) (e : Bool), s.live = true →
      s.stackDead (stackOf (64 * block.toNat)) = false → s.stackServes (stackOf (64 * block.toNat)) = true →
      !((s.upsets (upsetWords x (64 * block.toNat))).badWords (64 * block.toNat) 64).isEmpty = e →
    Runs (.hbmRequest (.read block) x) s fun u =>
      (∃ l : List Output, u.out = l ++ [Output.hbm e (if e then [] else Bytes.read s.hbm (64 * block.toNat) 64)]) ∧
      u.hbm = s.hbm) ∧
  -- hbmRequestWaits
  (∀ (s : State) (block : BitVec 29) (x : Upset), s.live = true → s.untrained (stackOf (64 * block.toNat)) = true →
    Runs (.hbmRequest (.read block) x) s fun u =>
      u.hbmHeld = s.hbmHeld ++ [.block (.read block)] ∧
      u.hbm = s.hbm) ∧
  -- hbmRequestWakes
  (∀ (s : State) (block : BitVec 29) (x : Upset), s.live = true → s.stackDead (stackOf (64 * block.toNat)) = false →
      s.asleep (16 + stackOf (64 * block.toNat)) = true → (s.dom (16 + stackOf (64 * block.toNat))).down = none →
    Runs (.hbmRequest (.read block) x) s fun u =>
      u.hbmHeld = s.hbmHeld ++ [.block (.read block)] ∧
      (u.dom (16 + stackOf (64 * block.toNat))).waking = true) ∧
  -- readLanding
  (∀ (s : State) (t : Fin 128) (tag : Fin 32) (r : MemReq), s.live = true → s.holder t tag = some r →
      r.write = false → r.performed = true → r.answered = false → r.poisoned = false → r.stale = false →
    Runs (.readLanding t tag) s fun u =>
      u.holder t tag = some { r with answered := true } ∧
      u.rd (F.MPU_MP_STAT_TAGS_USED t) = (s.port t).reqs.length % 64) ∧
  -- readLandingLate
  (∀ (s : State) (t : Fin 128) (tag : Fin 32) (r : MemReq), s.live = true → s.holder t tag = some r →
      r.write = false → r.performed = true → r.answered = false → r.poisoned = true →
    Runs (.readLanding t tag) s fun u =>
      u.holder t tag = none ∧
      Counted s u (F.MPU_LATE_DISC_CNT_COUNT t) ∧
      u.rd (F.MPU_MP_STAT_LATE_DISC t) = 1 ∧
      Pends u Ev.MPU_LATE_DISC) ∧
  -- readLandingStale
  (∀ (s : State) (t : Fin 128) (tag : Fin 32) (r : MemReq), s.live = true → s.holder t tag = some r →
      r.write = false → r.performed = true → r.answered = false → r.poisoned = false → r.stale = true →
    Runs (.readLanding t tag) s fun u =>
      u.holder t tag = none ∧
      Keeps [.mpuRegs, .ports] s u) ∧
  -- writeAck
  (∀ (s : State) (t : Fin 128) (tag : Fin 32) (r : MemReq), s.live = true → s.holder t tag = some r →
      r.write = true → r.performed = true →
    Runs (.writeAck t tag) s fun u =>
      u.holder t tag = none ∧
      Keeps [.mpuRegs, .ports] s u)

/-- Patrol scrub, temperature, training, self-refresh, and the check of a sensor ring's range at a write of its
descriptor. Rests on: R139, R140, R141, R143, R363, R366. -/
def Obligations.HbmStacks : Prop :=
  -- patrolScrub
  (∀ (s : State) (c : Fin 2) (found : Upsets), s.live = true → s.on (F.HBM_CTRL_SCRUB_EN c) = true →
      s.on (F.HBM_STATUS_TRAINED c) = true →
    Runs (.patrolScrub c found) s fun u =>
      (∀ x ∈ upsetList found, stackOf (8 * x.1) = c.val → x.2 = true → Tab.get (fun _ => false) u.hbmBad x.1 = true ∧
          Pends u (Ev.HBM_UE c)) ∧
      (∀ x ∈ upsetList found, stackOf (8 * x.1) = c.val → x.2 = false →
          Tab.get (fun _ => false) s.hbmBad x.1 = false → (∀ y ∈ upsetList found, y.1 = x.1 → y.2 = false) →
          Tab.get (fun _ => false) u.hbmSoft x.1 = false ∧ Pends u (Ev.HBM_CE c)) ∧
      (∀ e ∈ s.hbmBad, stackOf (8 * e.1) = c.val → Pends u (Ev.HBM_UE c)) ∧
      u.hbm = s.hbm) ∧
  -- patrolScrubOff
  (∀ (s : State) (c : Fin 2) (found : Upsets), s.live = true → (s.on (F.HBM_CTRL_SCRUB_EN c) = false ∨
      s.on (F.HBM_STATUS_TRAINED c) = false) →
    Runs (.patrolScrub c found) s fun u =>
      u = s) ∧
  -- hbmTempHigh
  (∀ (s : State) (c : Fin 2) (temp : BitVec 8), s.live = true →
      toSigned 8 (s.rd (F.HBM_CTRL_TEMP_HI c)) ≤ toSigned 8 temp.toNat →
      toSigned 8 (s.rd (F.HBM_TEMP c)) < toSigned 8 (s.rd (F.HBM_CTRL_TEMP_HI c)) →
    Runs (.hbmTempHigh c temp) s fun u =>
      u.rd (F.HBM_TEMP c) = temp.toNat ∧
      u.rd (F.HBM_STATUS_TEMP_HIGH c) = 1 ∧
      Pends u (Ev.HBM_TEMP c)) ∧
  -- hbmTempBelow
  (∀ (s : State) (c : Fin 2) (temp : BitVec 8), s.live = true →
      (toSigned 8 temp.toNat < toSigned 8 (s.rd (F.HBM_CTRL_TEMP_HI c)) ∨
      toSigned 8 (s.rd (F.HBM_CTRL_TEMP_HI c)) ≤ toSigned 8 (s.rd (F.HBM_TEMP c))) →
    Runs (.hbmTempHigh c temp) s fun u =>
      u.rd (F.HBM_TEMP c) = temp.toNat ∧
      (∀ o, o ≠ (F.HBM_TEMP c).off → u.reg o = s.reg o) ∧
      Keeps [.hbmRegs] s u) ∧
  -- hbmTraining
  (∀ (s : State) (c : Fin 2) (ok : Bool), s.live = true → s.untrained c = true →
    Runs (.hbmTraining c ok) s fun u =>
      u.rd (F.HBM_STATUS_TRAINED c) = b2n ok ∧
      (ok = false → u.rd (F.HBM_STATUS_LINK_ERR c) = 1 ∧ Pends u (Ev.HBM_LINK_ERR c)) ∧
      (ok = true → u.rd (F.HBM_STATUS_LINK_ERR c) = 0)) ∧
  -- hbmTrainingTimeout
  (∀ (s : State) (c : Fin 2), s.live = true → s.untrained c = true →
    Runs (.hbmTrainingTimeout c) s fun u =>
      u.rd (F.HBM_STATUS_TRAINED c) = 0 ∧
      u.rd (F.HBM_STATUS_LINK_ERR c) = 1 ∧
      Pends u (Ev.HBM_LINK_ERR c)) ∧
  -- hbmSelfRefreshEntry
  (∀ (s : State) (c : Fin 2), s.live = true → bit (s.rd F.PWR_HBM_CFG_SR_EN) c = true → s.stackServes c = true →
      (s.dom (16 + c)).wakeVote = false →
    Runs (.hbmSelfRefreshEntry c) s fun u =>
      (u.dom (16 + c)).down = some 1 ∧
      (u.dom (16 + c)).isolated = false ∧
      u.regs = s.regs) ∧
  -- hbmSelfRefreshExit
  (∀ (s : State) (c : Fin 2), s.live = true → (s.dom (16 + c)).waking = true →
      s.on (F.HBM_STATUS_SELF_REFRESH c) = true →
    Runs (.hbmSelfRefreshExit c) s fun u =>
      u.rd (F.HBM_STATUS_SELF_REFRESH c) = 0 ∧
      Pends u Ev.PWR_STATE) ∧
  -- ringDescriptorWrite
  (∀ (s : State) (p : Path) (k : Fin 4) (w : Fin 5) (v : BitVec 32) (x : State), s.live = true →
      s.pathOpen p = true → s.stored p (0xe00200 + 0x20 * k.val + 4 * w.val) v.toNat = x → (x.ringInHbm k = true ∨
      x.on (F.HBM_RING_BASE_HI_EN 0 k) = false) →
    Runs (.ringDescriptorWrite p k w v) s fun u =>
      u = x) ∧
  -- ringDescriptorWriteOutside
  (∀ (s : State) (p : Path) (k : Fin 4) (w : Fin 5) (v : BitVec 32) (x : State), s.live = true →
      s.pathOpen p = true → s.stored p (0xe00200 + 0x20 * k.val + 4 * w.val) v.toNat = x → x.ringInHbm k = false →
      x.on (F.HBM_RING_BASE_HI_EN 0 k) = true →
    Runs (.ringDescriptorWrite p k w v) s fun u =>
      u.rd (F.HBM_RING_BASE_HI_EN 0 k) = 0 ∧
      u.rd (F.HBM_STATUS_RING_ERR 0) = 1 ∧
      (∀ o, o ≠ (F.HBM_RING_BASE_HI_EN 0 k).off → o ≠ (F.HBM_STATUS_RING_ERR 0).off → u.reg o = x.reg o))

/-- Samples of the encoder's pins are accepted once held for FILT samples; accepted edges are counts, registered FILT +
16 ticks after the first sample of the new level (IdleTick), or are errors; an accepted rising Z edge captures POS;
ARM starts the divider and CPL_LOAD asks for the counts per line to be taken; with the spine cut in S4 the samples
are the lehr's. That one command is one sample is the model's choice (log entry 141). Rests on: R149, R150, R151,
R152, R153, R154, R156, R157, R369. -/
def Obligations.Encoder : Prop :=
  -- encoderEdge
  (∀ (s : State) (a b a1 b1 fwd : Bool) (first : Nat), s.live = true → s.on F.TB_CTRL_ENC_EN = true →
      (pinFilter (s.rd F.TB_ENC_CFG_FILT) s.tb.encA s.tb.runA a).1 = a1 →
      (pinFilter (s.rd F.TB_ENC_CFG_FILT) s.tb.encB s.tb.runB b).1 = b1 → (a1 != s.tb.encA) = !(b1 != s.tb.encB) →
      (xor (if a1 != s.tb.encA then a1 != b1 else a1 == b1) (s.on F.TB_ENC_CFG_DIR_INV) = fwd) →
      (s.rd F.TB_ENC_CFG_MODE = 1 → (a1 != s.tb.encA) = true) → (s.rd F.TB_ENC_CFG_MODE = 2 →
      (a1 != s.tb.encA) = true ∧ a1 = fwd) →
      ((if (if a1 != s.tb.encA then s.tb.runA else s.tb.runB) = 0 then s.real else if a1 != s.tb.encA then
      s.tb.firstA else s.tb.firstB) = first) →
    Runs (.encoderEdge a b) s fun u =>
      u.tb.counts = s.tb.counts ++ [(fwd, first + 16 * (max 1 (s.rd F.TB_ENC_CFG_FILT) + 16))] ∧
      (u.tb.encA = a1 ∧ u.tb.encB = b1) ∧
      u.regs = s.regs) ∧
  -- encoderEdgeNotCounted
  (∀ (s : State) (a b a1 b1 : Bool), s.live = true →
      (pinFilter (s.rd F.TB_ENC_CFG_FILT) s.tb.encA s.tb.runA a).1 = a1 →
      (pinFilter (s.rd F.TB_ENC_CFG_FILT) s.tb.encB s.tb.runB b).1 = b1 → (s.on F.TB_CTRL_ENC_EN = false ∨
      (a1 = s.tb.encA ∧ b1 = s.tb.encB) ∨ (a1 = s.tb.encA ∧ (s.rd F.TB_ENC_CFG_MODE = 1 ∨
      s.rd F.TB_ENC_CFG_MODE = 2)) ∨ (b1 = s.tb.encB ∧ s.rd F.TB_ENC_CFG_MODE = 2 ∧
      a1 ≠ xor (a1 != b1) (s.on F.TB_ENC_CFG_DIR_INV))) →
    Runs (.encoderEdge a b) s fun u =>
      u = s.setTb { s.tb with pinA := a, pinB := b, encA := a1, runA := (pinFilter (s.rd F.TB_ENC_CFG_FILT) s.tb.encA s.tb.runA a).2, encB := b1, runB := (pinFilter (s.rd F.TB_ENC_CFG_FILT) s.tb.encB s.tb.runB b).2, firstA := if s.tb.runA = 0 then s.real else s.tb.firstA, firstB := if s.tb.runB = 0 then s.real else s.tb.firstB }) ∧
  -- encoderEdgeError
  (∀ (s : State) (a b : Bool), s.live = true → s.on F.TB_CTRL_ENC_EN = true →
      (pinFilter (s.rd F.TB_ENC_CFG_FILT) s.tb.encA s.tb.runA a).1 ≠ s.tb.encA →
      (pinFilter (s.rd F.TB_ENC_CFG_FILT) s.tb.encB s.tb.runB b).1 ≠ s.tb.encB →
    Runs (.encoderEdge a b) s fun u =>
      Counted s u F.TB_ENC_ERR_CNT_COUNT ∧
      u.rd F.TB_STATUS_ENC_ERR = 1 ∧
      Pends u Ev.TB_ENC_ERR ∧
      u.rd64 0x80018 = s.rd64 0x80018) ∧
  -- encoderPulseFiltered
  (∀ (s : State) (a : Bool), s.live = true → a ≠ s.tb.encA → s.tb.runA + 1 < max 1 (s.rd F.TB_ENC_CFG_FILT) →
    Runs (.encoderEdge a s.tb.encB) s fun u =>
      u = s.setTb { s.tb with pinA := a, pinB := s.tb.encB, runA := s.tb.runA + 1, runB := 0, firstA := if s.tb.runA = 0 then s.real else s.tb.firstA, firstB := if s.tb.runB = 0 then s.real else s.tb.firstB }) ∧
  -- encoderLevelAccepted
  (∀ (s : State) (a : Bool), s.live = true → a ≠ s.tb.encA → max 1 (s.rd F.TB_ENC_CFG_FILT) ≤ s.tb.runA + 1 →
    Runs (.encoderEdge a s.tb.encB) s fun u =>
      u.tb.encA = a ∧
      u.tb.runA = 0) ∧
  -- encoderInS4
  (∀ (s : State) (a b : Bool), s.spineOn = false → s.lehr.s4 = true →
    Runs (.encoderEdge a b) s fun u =>
      (u.lehr.encA = a ∧ u.lehr.encB = b) ∧
      u.lehr.edges = s.lehr.edges + b2n (a != s.lehr.encA) + b2n (b != s.lehr.encB) ∧
      Keeps [.lehr] s u) ∧
  -- encZEdge
  (∀ (s : State) (z : Bool), s.live = true → s.tb.encZ = false →
      (pinFilter (s.rd F.TB_ENC_CFG_FILT) s.tb.encZ s.tb.runZ z).1 = true →
    Runs (.encZEdge z) s fun u =>
      u.reg 0x80038 = s.reg 0x80018 ∧
      Pends u Ev.TB_Z ∧
      u.rd64 0x80018 = s.rd64 0x80018 ∧
      u.tb.encZ = true) ∧
  -- encZEdgeQuiet
  (∀ (s : State) (z : Bool), s.live = true → (s.tb.encZ = true ∨
      (pinFilter (s.rd F.TB_ENC_CFG_FILT) s.tb.encZ s.tb.runZ z).1 = false) →
    Runs (.encZEdge z) s fun u =>
      u = s.setTb { s.tb with pinZ := z, encZ := (pinFilter (s.rd F.TB_ENC_CFG_FILT) s.tb.encZ s.tb.runZ z).1, runZ := (pinFilter (s.rd F.TB_ENC_CFG_FILT) s.tb.encZ s.tb.runZ z).2 }) ∧
  -- arm
  (∀ (s : State) (p : Path) (v : BitVec 32) (x : State), s.live = true → s.pathOpen p = true →
      s.stored p 0x80000 (v ||| 1).toNat = x →
    Runs (.arm p v) s fun u =>
      u.tb.armed = true ∧
      (u.tb.next = x.cplReg ∧ u.tb.cpl = x.cplReg) ∧
      u.tb.passed = [] ∧
      u.rd64 0x80018 = 0 ∧
      u.line = x.rd F.TB_LINE_START_LO_START_LO + 2 ^ 32 * x.rd F.TB_LINE_START_HI_START_HI ∧
      u.rd F.TB_CTRL_ARM = 0) ∧
  -- cplLoad
  (∀ (s : State) (p : Path) (v : BitVec 32), s.live = true → s.pathOpen p = true →
    Runs (.cplLoad p v) s fun u =>
      u.rd F.TB_CTRL_CPL_LOAD = 1 ∧
      (bit v.toNat 0 = false → u.tb.cpl = s.tb.cpl))

/-- The line to release next is passed, or delivered to the gaffers and recorded; a member holds a line it receives; a
strobe leaves its port once its time has come. Rests on: R156, R159, R160, R161, R162, R180, R234. -/
def Obligations.LineRelease : Prop :=
  -- triggerRelease
  (∀ (s : State) (x : Held), s.live = true → s.dueLine = some x → s.role ≠ 1 → s.on F.TB_CTRL_TRIG_EN = true →
    Runs (.triggerRelease) s fun u =>
      Output.release x.line x.release ∈ u.out ∧
      u.tb.released = some x.line ∧
      u.tb.held = s.tb.held.erase x ∧
      (s.role = 2 → s.tb.armed = true → u.line = (x.line + 1) % 2 ^ 48)) ∧
  -- triggerReleasePasses
  (∀ (s : State) (x : Held), s.live = true → s.dueLine = some x → (s.role = 1 ∨ s.on F.TB_CTRL_TRIG_EN = false) →
    Runs (.triggerRelease) s fun u =>
      u.tb.held = s.tb.held.erase x ∧
      (s.tb.armed = true → s.tb.passed.contains x.line = false → u.tb.passed = x.line :: s.tb.passed ∧
          Counted s u F.TB_LINE_SKIP_CNT_COUNT ∧ Pends u Ev.TB_LINE_SKIP) ∧
      (s.tb.armed = false ∨ s.tb.passed.contains x.line = true → u.tb.passed = s.tb.passed ∧
          u.rd F.TB_LINE_SKIP_CNT_COUNT = s.rd F.TB_LINE_SKIP_CNT_COUNT) ∧
      (s.role = 2 → s.tb.armed = true → u.line = (x.line + 1) % 2 ^ 48) ∧
      (u.gafs = s.gafs ∧ u.strobes = s.strobes)) ∧
  -- triggerReleaseWaits
  (∀ (s : State), s.live = true → s.dueLine = none →
    Runs (.triggerRelease) s fun u =>
      u = s) ∧
  -- triggerPortStrobe
  (∀ (s : State) (k : Fin 8) (x : Nat × Nat × Nat), s.live = true → s.partReleased k = true →
      (s.fab.trig.any fun y => y.1 == k.val) = false →
      (s.strobes.find? fun y => y.1 == k.val && s.fab.trigEdges.any fun e => e.1 == k.val && decide (y.2.2 + 64 ≤
      e.2)) = some x →
    Runs (.triggerPortStrobe k) s fun u =>
      u.out = s.out ++ [Output.trigStrobe k x.2.1] ∧
      u.strobes = s.strobes.erase x ∧
      u.fab.trig = s.fab.trig ++ [(k.val, x.2.1)] ∧
      Keeps [.strobes, .fab, .out] s u) ∧
  -- triggerPortStrobeWaits
  (∀ (s : State) (k : Fin 8), s.live = true → s.strobeDue k = none →
    Runs (.triggerPortStrobe k) s fun u =>
      u = s) ∧
  -- trigger
  (∀ (s : State) (p : Fin 4) (h : FrameHdr) (line : BitVec 48) (release : BitVec 64) (marks : BitVec 32) (targets :
      List (Fin 16 × BitVec 48)), s.live = true → s.hears p h (.trigger line release marks targets) release.toNat →
      s.role = 2 →
    Runs (.trigger p h line release marks targets) s fun u =>
      u.tb.held = s.tb.held ++ [⟨line.toNat, release.toNat, marks.toNat, targets.map fun x => (x.1.val, x.2.toNat),
          h.epoch.toNat, none⟩] ∧
      (release.toNat < s.now → Counted s u F.TB_LATE_CNT_COUNT ∧ u.rd F.TB_STATUS_LATE = 1 ∧
          Pends u Ev.TB_TRIG_LATE) ∧
      (s.now ≤ release.toNat → u.rd F.TB_LATE_CNT_COUNT = s.rd F.TB_LATE_CNT_COUNT)) ∧
  -- triggerPassed
  (∀ (s : State) (p : Fin 4) (h : FrameHdr) (line : BitVec 48) (release : BitVec 64) (marks : BitVec 32) (targets :
      List (Fin 16 × BitVec 48)), s.live = true → s.hears p h (.trigger line release marks targets) release.toNat →
      s.role = 1 →
    Runs (.trigger p h line release marks targets) s fun u =>
      (s.tb.armed = true → u.line = (line.toNat + 1) % 2 ^ 48) ∧
      u.tb.held = s.tb.held ∧
      (s.tb.armed = true → s.tb.passed.contains line.toNat = false → u.tb.passed = line.toNat :: s.tb.passed)) ∧
  -- triggerNotForMe
  (∀ (s : State) (p : Fin 4) (h : FrameHdr) (line : BitVec 48) (release : BitVec 64) (marks : BitVec 32) (targets :
      List (Fin 16 × BitVec 48)), s.live = true → s.hears p h (.trigger line release marks targets) release.toNat →
      (s.role = 0 ∨ s.role = 3) →
    Runs (.trigger p h line release marks targets) s fun u =>
      u = s.heard p h (.trigger line release marks targets))

/-- A frame that a linked port takes acts in the state in which its copies count as seen and a flooded one has gone on
(`State.heard`); a malformed frame and one of another epoch are counted and do not act. Rests on: R92, R163, R164,
R165, R166, R167, R168, R176, R177, R184, R285. -/
def Obligations.LinkMessages : Prop :=
  -- hello
  (∀ (s : State) (p : Fin 4) (h : FrameHdr) (key : Key) (id : Fin 64) (epoch : BitVec 16) (current : Bool) (master :
      Fin 64) (masterKey : Key) (hops : Fin 16) (port : Fin 4), s.live = true →
      s.hears p h (.hello key id epoch current master masterKey hops port) 0 →
    Runs (.hello p h key id epoch current master masterKey hops port) s fun u =>
      u.rd (F.IRC_STATUS_PEER_VALID p) = 1 ∧
      u.rd (F.IRC_STATUS_PEER_ID p) = id.val ∧
      u.rd64 (0xb00008 + 0x10000 * p.val) = key.serial.toNat ∧
      ((u.ircp p).peerEpoch = epoch.toNat ∧ (u.ircp p).peerMaster = master.val ∧ (u.ircp p).peerHops = hops.val ∧
          (u.ircp p).peerCurrent = current) ∧
      (s.on F.TB_CTRL_GROUP_EN = true → u.rd (F.IRC_STATUS_STATE p) = 3) ∧
      (s.on F.TB_CTRL_GROUP_EN = true → s.tb.inEpoch = false → s.on F.TB_STATUS_ELECTING = false → current = true →
          u.rd F.TB_GROUP_EPOCH = epoch.toNat ∧ u.rd F.TB_GROUP_MASTER_ID = master.val ∧
          u.tb.bestKey = keyNum masterKey) ∧
      (s.on F.TB_CTRL_GROUP_EN = true → s.role = 3 → current = true → master.val ≠ s.myId →
          keyNum masterKey < s.myKey → u.tb.pendEpochs.getLast?.map PendingEpoch.map = some 0)) ∧
  -- dlyReq
  (∀ (s : State) (p : Fin 4) (h : FrameHdr) (t1 t2 t3 : BitVec 64), s.live = true → s.hears p h (.dlyReq t1) 0 →
    Runs (.dlyReq p h t1 t2 t3) s fun u =>
      u.out = s.out ++ [Output.irc p (sealed (s.hdr (.dlyResp t2 t3) false 0) (.dlyResp t2 t3)) (.dlyResp t2 t3)] ∧
      u.regs = s.regs) ∧
  -- dlyResp
  (∀ (s : State) (p : Fin 4) (h : FrameHdr) (t2 t3 t4 : BitVec 64) (ds : List Int), s.live = true →
      s.hears p h (.dlyResp t2 t3) 0 →
      (((((t4.toNat : Int) - (s.ircp p).t1) - ((t3.toNat : Int) - t2.toNat)) * 16 / 2 + toSigned 16 (s.rd
      (F.IRC_DLY_ASYM_ASYM p))) :: (s.ircp p).delays).take 16 = ds →
    Runs (.dlyResp p h t2 t3 t4) s fun u =>
      (u.ircp p).delays = ds ∧
      u.rd (F.IRC_HOP_DELAY_DELAY p) = ofSigned 24 (meanDelay ds) ∧
      (4 ≤ ds.length → u.rd (F.IRC_HOP_DELAY_VALID p) = 1) ∧
      (s.tb.pllRef = .port p.val → u.tb.pllLead = u.rd (F.IRC_HOP_DELAY_DELAY p)) ∧
      (ds.length < 4 → u.rd (F.IRC_HOP_DELAY_VALID p) = s.rd (F.IRC_HOP_DELAY_VALID p))) ∧
  -- nack
  (∀ (s : State) (p : Fin 4) (h : FrameHdr) (reason : Fin 8) (seq : BitVec 16), s.live = true →
      s.hears p h (.nack reason seq) 0 →
    Runs (.nack p h reason seq) s fun u =>
      Counted s u (F.IRC_NACK_RX_CNT_COUNT p) ∧
      u.rd (F.IRC_STATUS_NACK_RX p) = 1 ∧
      Pends u (Ev.IRC_NACK_RX p)) ∧
  -- event
  (∀ (s : State) (p : Fin 4) (h : FrameHdr) (source : Fin 768), s.live = true → s.hears p h (.event source) 0 →
    Runs (.event p h source) s fun u =>
      (s.on (F.EVT_ROUTE_IRC_RX_EN source) = true → Ev.named source = true → Pends u source) ∧
      (s.on (F.EVT_ROUTE_IRC_RX_EN source) = false ∨ Ev.named source = false → u = s.heard p h (.event source))) ∧
  -- ack
  (∀ (s : State) (p : Fin 4) (h : FrameHdr) (type : BitVec 8) (seq : BitVec 16), s.live = true →
      s.hears p h (.ack type seq) 0 →
    Runs (.ack p h type seq) s fun u =>
      u.tb.unacked = s.tb.unacked.filter fun x => !(ircType x.2.2.1 == type.toNat && x.2.1.seq == seq) ∧
      u.regs = s.regs) ∧
  -- far
  (∀ (s : State) (p : Fin 4) (h : FrameHdr) (region : Fin 16) (tile : Fin 128) (tag : BitVec 16) (data : BitVec
      1024), s.live = true → s.hears p h (.far region tile tag data) 0 →
    Runs (.far p h region tile tag data) s fun u =>
      (∀ t, t < 128 → ∀ k, k < 8 → ∀ m, (Tab.get regReset s.latch (0x2000a0 + 0x10000 * t + 4 * k)).toNat = m →
          (s.tileRegion t).isSome = true → s.farIn? t = true → bit m 31 = true → slice m 30 25 = h.src.val →
          slice m 24 18 = tile.val → tag.toNat ∈ (u.tile t).farSeen) ∧
      u.gobIn = s.gobIn) ∧
  -- frameMalformed
  (∀ (s : State) (p : Fin 4) (h : FrameHdr) (type : BitVec 8) (seq : BitVec 16) (r : Nat), s.live = true →
      s.linked p = true → s.malformed p h (.ack type seq) = some r →
    Runs (.ack p h type seq) s fun u =>
      Counted s u (F.IRC_VIOL_CNT_COUNT p) ∧
      u.rd (F.IRC_STATUS_VIOL p) = 1 ∧
      u.tb.unacked = s.tb.unacked) ∧
  -- frameStale
  (∀ (s : State) (p : Fin 4) (h : FrameHdr) (type : BitVec 8) (seq : BitVec 16), s.live = true → s.linked p = true →
      s.malformed p h (.ack type seq) = none → s.stale 14 h 0 = true →
    Runs (.ack p h type seq) s fun u =>
      Counted s u (F.IRC_STALE_CNT_COUNT p) ∧
      Keeps [.ircRegs] s u) ∧
  -- frameUnlinked
  (∀ (s : State) (p : Fin 4) (h : FrameHdr) (type : BitVec 8) (seq : BitVec 16), s.live = true → s.linked p = false →
    Runs (.ack p h type seq) s fun u =>
      u = s)

/-- ELECT, EPOCH, JOIN_REQ, JOIN_ACK, LEAVE, HEARTBEAT and STATUS at a device that takes them. Rests on: R170, R171,
R172, R173, R174, R177, R182. -/
def Obligations.GroupMessages : Prop :=
  -- elect
  (∀ (s : State) (p : Fin 4) (h : FrameHdr) (key : Key) (time : BitVec 64), s.live = true →
      s.hears p h (.elect key time) 0 → s.on F.TB_CTRL_GROUP_EN = true →
    Runs (.elect p h key time) s fun u =>
      u.tb.heardKey = some (min (keyNum key) (s.tb.heardKey.getD (keyNum key))) ∧
      u.tb.electTime = max s.tb.electTime time.toNat ∧
      u.tb.electors = (h.src.val, h.hops.val + 1) :: s.tb.electors.filter fun e => e.1 != h.src.val ∧
      (s.on F.TB_STATUS_ELECTING = true → u.tb.bestKey = min (keyNum key) s.tb.bestKey) ∧
      (s.on F.TB_STATUS_ELECTING = false → u.tb.bestKey = s.tb.bestKey) ∧
      u.regs = s.regs) ∧
  -- electIgnored
  (∀ (s : State) (p : Fin 4) (h : FrameHdr) (key : Key) (time : BitVec 64), s.live = true →
      s.hears p h (.elect key time) 0 → s.on F.TB_CTRL_GROUP_EN = false →
    Runs (.elect p h key time) s fun u =>
      u = s.heard p h (.elect key time)) ∧
  -- epoch
  (∀ (s : State) (p : Fin 4) (h : FrameHdr) (num : BitVec 16) (act map : BitVec 64) (hops : List (Fin 64 × Fin 16))
      (step : BitVec 64), s.live = true → s.hears p h (.epoch num act map hops step) 0 →
      s.takesEpoch h.src.val num.toNat = true →
    Runs (.epoch p h num act map hops step) s fun u =>
      u.tb.pendEpochs = s.tb.pendEpochs ++ [⟨num.toNat, act.toNat, map.toNat, hops.map fun x => (x.1.val, x.2.val),
          step.toNat, h.src.val⟩] ∧
      (u.tb.maxEpoch = some (s.tb.maxEpoch.elim num.toNat fun m => if newerEpoch num.toNat m then num.toNat else m)) ∧
      (∃ g, Output.irc p g (.ack 5#8 h.seq) ∈ u.out) ∧
      u.regs = s.regs) ∧
  -- epochOld
  (∀ (s : State) (p : Fin 4) (h : FrameHdr) (num : BitVec 16) (act map : BitVec 64) (hops : List (Fin 64 × Fin 16))
      (step : BitVec 64), s.live = true → s.hears p h (.epoch num act map hops step) 0 →
      s.takesEpoch h.src.val num.toNat = false →
    Runs (.epoch p h num act map hops step) s fun u =>
      u.tb.pendEpochs = s.tb.pendEpochs ∧
      (∃ g, Output.irc p g (.ack 5#8 h.seq) ∈ u.out) ∧
      u.regs = s.regs) ∧
  -- joinReq
  (∀ (s : State) (p : Fin 4) (h : FrameHdr) (key : Key) (id : Fin 64) (hops : Fin 16) (d : BitVec 64),
      s.live = true → s.hears p h (.joinReq key id hops d) 0 → s.role = 3 → (bit s.nextGroup.1 id.val = false ∨
      (d ≠ 0 ∧ s.tb.electees.contains id.val = true)) → 400 + 2000 * hops.val ≤ 16 * s.rd F.TB_REL_REL_OFFSET →
      (bitsOf 64 (setBitTo s.nextGroup.1 id.val false)).length < 64 →
    Runs (.joinReq p h key id hops d) s fun u =>
      (∃ e, u.tb.pendEpochs.getLast? = some e ∧ e.map = setBitTo s.nextGroup.1 id.val true ∧
          e.num = (s.tb.maxEpoch.getD 0 + 1) % 2 ^ 16 ∧ e.act = s.now + 100000 + (s.epochAt (s.now + 100000)).2 ∧
          e.step = (d.toNat - s.pendingStep + 15) / 16 * 16 ∧ e.master = s.myId ∧ (id.val, hops.val) ∈ e.hops) ∧
      (∃ g, Output.irc p g (.joinAck none) ∈ u.out) ∧
      u.regs = s.regs) ∧
  -- joinReqRefused
  (∀ (s : State) (p : Fin 4) (h : FrameHdr) (key : Key) (id : Fin 64) (hops : Fin 16) (d : BitVec 64) (r : Fin 4),
      s.live = true → s.hears p h (.joinReq key id hops d) 0 → s.role = 3 → ((if bit s.nextGroup.1 id.val ∧ (d = 0 ∨
      s.tb.electees.contains id.val = false) then some 1 else if 16 * s.rd F.TB_REL_REL_OFFSET < 400 + 2000 *
      hops.val then some 2 else if 64 ≤ (bitsOf 64 (setBitTo s.nextGroup.1 id.val false)).length then some 3 else
      none) = some r) →
    Runs (.joinReq p h key id hops d) s fun u =>
      (∃ g, Output.irc p g (.joinAck (some r)) ∈ u.out) ∧
      u.tb.pendEpochs = s.tb.pendEpochs ∧
      u.regs = s.regs) ∧
  -- joinAck
  (∀ (s : State) (p : Fin 4) (h : FrameHdr) (refused : Option (Fin 4)), s.live = true →
      s.hears p h (.joinAck refused) 0 →
    Runs (.joinAck p h refused) s fun u =>
      (∃ g, Output.irc p g (.ack 7#8 h.seq) ∈ u.out) ∧
      (refused.isSome = true → Pends u Ev.TB_JOIN_REFUSED) ∧
      (refused = none → u.regs = s.regs)) ∧
  -- leave
  (∀ (s : State) (p : Fin 4) (h : FrameHdr) (id : Fin 64), s.live = true → s.hears p h (.leave id) 0 →
    Runs (.leave p h id) s fun u =>
      (∃ g, Output.irc p g (.ack 8#8 h.seq) ∈ u.out) ∧
      (s.role = 3 → bit s.members id.val = true → ∃ e, u.tb.pendEpochs.getLast? = some e ∧
          e.map = setBitTo s.nextGroup.1 id.val false) ∧
      (s.role = 2 → s.rd F.TB_GROUP_MASTER_ID = id.val → u.on F.TB_STATUS_ELECTING = true ∧ u.role = 1 ∧
          u.tb.inEpoch = false)) ∧
  -- heartbeat
  (∀ (s : State) (p : Fin 4) (h : FrameHdr) (time : BitVec 64), s.live = true → s.hears p h (.heartbeat time) 0 →
    Runs (.heartbeat p h time) s fun u =>
      u.tb.lastHeartbeat = s.real ∧
      (s.role = 1 → s.on F.TB_STATUS_ALIGNED = false → s.on F.TB_STATUS_ELECTING = false →
          s.on (F.IRC_HOP_DELAY_VALID p) = true → u.on F.TB_STATUS_ALIGNED = true ∧
          u.rd F.TB_STATUS_UPSTREAM = s.alignPort p ∧ u.tb.pllRef = .port (s.alignPort p) ∧ Pends u Ev.TB_ALIGN) ∧
      (s.role = 1 → s.on F.TB_STATUS_ALIGNED = false → s.on F.TB_STATUS_ELECTING = false →
          s.on (F.IRC_HOP_DELAY_VALID p) = true → s.now ≤ s.groupTime p h time.toNat →
          u.now = s.groupTime p h time.toNat % 2 ^ 64) ∧
      (s.role = 1 → s.on F.TB_STATUS_ALIGNED = false → s.on F.TB_STATUS_ELECTING = false →
          s.on (F.IRC_HOP_DELAY_VALID p) = true → s.groupTime p h time.toNat < s.now →
          u.on F.TB_STATUS_TIME_AHEAD = true ∧ u.tb.offsetD = s.now - s.groupTime p h time.toNat)) ∧
  -- status
  (∀ (s : State) (p : Fin 4) (h : FrameHdr) (aligned : Bool) (skips : BitVec 16) (better : Option Key) (links :
      BitVec 64), s.live = true → s.hears p h (.status aligned skips better links) 0 → s.role = 3 →
    Runs (.status p h aligned skips better links) s fun u =>
      u.tb.statusSeen = (h.src.val, s.real) :: s.tb.statusSeen.filter fun x => x.1 != h.src.val ∧
      (skips ≠ 0 → bit (u.rd64 0x80050) h.src.val = true) ∧
      (skips ≠ 0 → mayRaise s.tb.behindEv s.real s.hbPeriod = true → Pends u Ev.TB_MEMBER_BEHIND) ∧
      ((∃ k ∈ better.toList, keyNum k < s.myKey) → u.tb.pendEpochs.getLast?.map PendingEpoch.map = some 0) ∧
      (better = none → bit s.nextGroup.1 h.src.val = true →
          hopsOf s.nextGroup.2 h.src.val ≠ min 15 (h.hops.val + 1) →
          u.tb.pendEpochs.getLast?.map PendingEpoch.map = some (u.reachable s.nextGroup.1)) ∧
      (better = none → bit s.nextGroup.1 h.src.val = false → u.tb.pendEpochs = s.tb.pendEpochs)) ∧
  -- statusIgnored
  (∀ (s : State) (p : Fin 4) (h : FrameHdr) (aligned : Bool) (skips : BitVec 16) (better : Option Key) (links :
      BitVec 64), s.live = true → s.hears p h (.status aligned skips better links) 0 → s.role ≠ 3 →
    Runs (.status p h aligned skips better links) s fun u =>
      u = s.heard p h (.status aligned skips better links))

/-- Each timer of the timebase, where what it waits for holds. Rests on: R165, R170, R171, R172, R173, R174, R177,
R182. -/
def Obligations.TimebaseTimers : Prop :=
  -- helloTimer
  (∀ (s : State) (p : Fin 4), s.live = true → s.linked p = true →
    Runs (.helloTimer p) s fun u =>
      (∃ g, Output.irc p g (.hello (keyOf s.myKey) (Fin.ofNat 64 s.myId) (BitVec.ofNat 16 (s.rd F.TB_GROUP_EPOCH))
          s.tb.inEpoch (Fin.ofNat 64 (s.rd F.TB_GROUP_MASTER_ID)) (keyOf (if s.role = 3 then s.myKey else
          s.tb.bestKey)) (Fin.ofNat 16 (s.rd F.TB_STATUS_HOPS)) p) ∈ u.out) ∧
      u.out.length = s.out.length + 1 ∧
      u.regs = s.regs) ∧
  -- helloTimerUnlinked
  (∀ (s : State) (p : Fin 4), s.live = true → s.linked p = false →
    Runs (.helloTimer p) s fun u =>
      u = s) ∧
  -- hopMeasureTimer
  (∀ (s : State) (p : Fin 4) (t1 : BitVec 64), s.live = true → s.linked p = true →
    Runs (.hopMeasureTimer p t1) s fun u =>
      u.out = s.out ++ [Output.irc p (sealed (s.hdr (.dlyReq t1) false 0) (.dlyReq t1)) (.dlyReq t1)] ∧
      (u.ircp p).t1 = t1.toNat) ∧
  -- heartbeatTimer
  (∀ (s : State), s.live = true → s.role = 3 →
    Runs (.heartbeatTimer) s fun u =>
      (∀ q, q < 4 → s.rd (F.IRC_STATUS_STATE q) = 3 → ∃ g,
          Output.irc q g (.heartbeat (BitVec.ofNat 64 s.now)) ∈ u.out) ∧
      u.regs = s.regs) ∧
  -- heartbeatTimerMember
  (∀ (s : State), s.live = true → s.role = 2 →
    Runs (.heartbeatTimer) s fun u =>
      (∃ g, Output.irc (s.rd F.TB_STATUS_UPSTREAM) g (.status (s.on F.TB_STATUS_ALIGNED) (BitVec.ofNat 16
          s.tb.skipped) (s.tb.met.map keyOf) (BitVec.ofNat 64 s.neighbours)) ∈ u.out) ∧
      u.tb.skipped = 0 ∧
      u.regs = s.regs) ∧
  -- heartbeatTimerAlone
  (∀ (s : State), s.live = true → s.role ≠ 2 → s.role ≠ 3 →
    Runs (.heartbeatTimer) s fun u =>
      u = s) ∧
  -- ackRetryTimer
  (∀ (s : State) (i p : Nat) (h : FrameHdr) (m : IrcMsg) (c : Nat), s.live = true → s.tb.unacked[i]? = some (p, h, m,
      c) → c < 8 →
    Runs (.ackRetryTimer i) s fun u =>
      u.tb.unacked[i]? = some (p, h, m, c + 1) ∧
      (p ≠ 4 → u.out = s.out ++ [Output.irc p (sealed h m) m]) ∧
      (p = 4 → ∀ q, q < 4 → s.rd (F.IRC_STATUS_STATE q) = 3 → Output.irc q (sealed h m) m ∈ u.out) ∧
      u.regs = s.regs) ∧
  -- ackRetryTimerGivesUp
  (∀ (s : State) (i p : Nat) (h : FrameHdr) (m : IrcMsg) (c : Nat), s.live = true → s.tb.unacked[i]? = some (p, h, m,
      c) → 8 ≤ c →
    Runs (.ackRetryTimer i) s fun u =>
      (s.role = 1 → ircType m = 6 → u.on F.TB_STATUS_ELECTING = true) ∧
      (s.role = 3 → ircType m = 5 → ∃ e, u.tb.pendEpochs.getLast? = some e ∧ e.map = 2 ^ s.myId) ∧
      (s.role = 3 → ircType m = 7 → bit s.members h.dst.val = true → ∃ e, u.tb.pendEpochs.getLast? = some e ∧
          e.map = setBitTo s.nextGroup.1 h.dst.val false) ∧
      (s.role ≠ 1 → s.role ≠ 3 → u.tb.unacked = s.tb.unacked.eraseIdx i ∧ u.regs = s.regs)) ∧
  -- electQuietExpiry
  (∀ (s : State), s.live = true → s.on F.TB_CTRL_GROUP_EN = true → s.role = 1 → s.on F.TB_STATUS_ELECTING = true →
      s.tb.bestKey = s.myKey → s.rd F.TB_MEMBER_PRIO ≠ 0xff → s.tb.pendEpochs = [] →
    Runs (.electQuietExpiry) s fun u =>
      (∃ e, u.tb.pendEpochs = [e] ∧ bit e.map s.myId = true ∧ e.num = (s.tb.maxEpoch.getD 0 + 1) % 2 ^ 16 ∧
          e.master = s.myId) ∧
      u.role = 1) ∧
  -- electQuietExpiryBegins
  (∀ (s : State), s.live = true → s.on F.TB_CTRL_GROUP_EN = true → s.role = 1 → s.on F.TB_STATUS_ELECTING = false →
      ((upTo 4).any fun p => s.linked p) = true →
      ((upTo 4).all fun p => !(s.linked p && (s.ircp p).peerCurrent)) = true →
    Runs (.electQuietExpiry) s fun u =>
      u.on F.TB_STATUS_ELECTING = true ∧
      u.role = 1 ∧
      u.tb.bestKey = min s.myKey (s.tb.heardKey.getD s.myKey)) ∧
  -- heartbeatLoss
  (∀ (s : State), s.live = true → s.role = 2 → s.tb.lastHeartbeat + 3 * s.hbPeriod ≤ s.real →
    Runs (.heartbeatLoss) s fun u =>
      u.on F.TB_STATUS_ELECTING = true ∧
      u.role = 1 ∧
      u.tb.inEpoch = false ∧
      Pends u Ev.TB_ROLE) ∧
  -- memberLoss
  (∀ (s : State) (m : Fin 64), s.live = true → s.role = 3 → m.val ≠ s.myId → bit s.members m.val = true →
      ((s.tb.statusSeen.find? fun x => x.1 == m.val).map fun x => x.2).getD 0 + 3 * s.hbPeriod ≤ s.real →
    Runs (.memberLoss m) s fun u =>
      (∃ e, u.tb.pendEpochs.getLast? = some e ∧ e.map = setBitTo s.nextGroup.1 m.val false ∧
          e.act = s.now + 100000 + (s.epochAt (s.now + 100000)).2) ∧
      u.regs = s.regs) ∧
  -- epochActivation
  (∀ (s : State) (e : PendingEpoch) (later : List PendingEpoch), s.live = true → s.tb.pendEpochs = e :: later →
      e.act ≤ s.now →
    Runs (.epochActivation) s fun u =>
      u.tb.pendEpochs = later ∧
      u.rd F.TB_GROUP_EPOCH = e.num % 2 ^ 16 ∧
      u.rd F.TB_GROUP_MASTER_ID = e.master % 64 ∧
      u.members = e.map % 2 ^ 64 ∧
      u.tb.inEpoch = bit e.map s.myId ∧
      u.rd F.TB_STATUS_ELECTING = 0 ∧
      Pends u Ev.TB_EPOCH ∧
      (bit e.map s.myId = true → e.master = s.myId → u.role = 3 ∧ u.on F.TB_STATUS_ALIGNED = true ∧
          u.tb.pllRef = .board) ∧
      (bit e.map s.myId = true → e.master ≠ s.myId → u.on F.TB_STATUS_ALIGNED = s.on F.TB_STATUS_ALIGNED ∧
          u.role = (if u.on F.TB_STATUS_ALIGNED ∧ u.on F.TB_STATUS_TIME_AHEAD = false then 2 else 1)) ∧
      (bit e.map s.myId = false → s.on F.TB_CTRL_GROUP_EN = true → u.role = 1) ∧
      (e.step = 0 → u.now = s.now) ∧
      (bit e.map s.myId = true → e.step ≠ 0 → s.on F.TB_STATUS_TIME_AHEAD = false →
          u.now = (s.now + e.step) % 2 ^ 64)) ∧
  -- joinRetryTimer
  (∀ (s : State) (q : Nat), s.live = true → s.rd F.TB_STATUS_UPSTREAM = q → s.role = 1 →
      s.on F.TB_STATUS_ALIGNED = true → (s.tb.inEpoch = false ∨ s.on F.TB_STATUS_TIME_AHEAD = true) →
      (s.ircp q).peerCurrent = true → s.rd (F.IRC_STATUS_STATE q) = 3 →
    Runs (.joinRetryTimer) s fun u =>
      (∃ g m, Output.irc q g m ∈ u.out ∧ ircType m = 6) ∧
      u.regs = s.regs)

/-- The states of a port's link. Rests on: R163, R171, R184, R186, R336, R402. -/
def Obligations.IrcelPorts : Prop :=
  -- ircBackoffExpiry
  (∀ (s : State) (p : Fin 4), s.live = true → s.on (F.IRC_CTRL_EN p) = true → s.rd (F.IRC_STATUS_STATE p) = 0 →
      bit (s.rd F.CLK_STAT_LOCKED) 2 = true → bit s.cstore.cullet.irc p = false →
    Runs (.ircBackoffExpiry p) s fun u =>
      u.rd (F.IRC_STATUS_STATE p) = 1 ∧
      (∀ o, o ≠ (F.IRC_STATUS_STATE p).off → u.reg o = s.reg o)) ∧
  -- ircBackoffExpiryCulled
  (∀ (s : State) (p : Fin 4), s.live = true → bit s.cstore.cullet.irc p = true →
    Runs (.ircBackoffExpiry p) s fun u =>
      u = s) ∧
  -- ircLinkUp
  (∀ (s : State) (p : Fin 4), s.live = true → s.rd (F.IRC_STATUS_STATE p) = 1 →
    Runs (.ircLinkUp p) s fun u =>
      u.rd (F.IRC_STATUS_STATE p) = 2 ∧
      Pends u (Ev.IRC_LINK_UP p)) ∧
  -- ircLinkDown
  (∀ (s : State) (p : Fin 4), s.live = true → s.linked p = true →
    Runs (.ircLinkDown p) s fun u =>
      u.rd (F.IRC_STATUS_STATE p) = 0 ∧
      u.rd (F.IRC_STATUS_LINK_DOWN p) = 1 ∧
      u.rd (F.IRC_STATUS_PEER_VALID p) = 0 ∧
      u.rd (F.IRC_HOP_DELAY_VALID p) = 0 ∧
      Pends u (Ev.IRC_LINK_DOWN p) ∧
      (s.role = 3 → s.rd (F.IRC_STATUS_STATE p) = 3 → u.tb.pendEpochs ≠ [])) ∧
  -- quarantineExpiry
  (∀ (s : State) (p : Fin 4), s.live = true → s.rd (F.IRC_STATUS_STATE p) = 4 → s.rd (F.IRC_QUAR_CFG_TIME p) ≠ 0 →
    Runs (.quarantineExpiry p) s fun u =>
      u.rd (F.IRC_STATUS_STATE p) = 1 ∧
      u.rd (F.IRC_CTRL_QUAR_CLR p) = 0 ∧
      (∀ o, o ≠ (F.IRC_STATUS_STATE p).off → o ≠ (F.IRC_CTRL_QUAR_CLR p).off → u.reg o = s.reg o)) ∧
  -- quarantineForever
  (∀ (s : State) (p : Fin 4), s.live = true → s.rd (F.IRC_QUAR_CFG_TIME p) = 0 →
    Runs (.quarantineExpiry p) s fun u =>
      u = s) ∧
  -- quarClr
  (∀ (s : State) (p : Path) (k : Fin 4) (v : BitVec 32) (x : State), s.live = true → s.pathOpen p = true →
      s.stored p (0xb00000 + 0x10000 * k.val) (v ||| 2).toNat = x →
    Runs (.quarClr p k v) s fun u =>
      u.rd (F.IRC_CTRL_QUAR_CLR k) = 0 ∧
      (x.on (F.IRC_CTRL_EN k) = true → x.rd (F.IRC_STATUS_STATE k) = 4 → u.rd (F.IRC_STATUS_STATE k) = 1) ∧
      (x.on (F.IRC_CTRL_EN k) = false → u.rd (F.IRC_STATUS_STATE k) = 0))

/-- What TRAIN starts and its end records, how an eye is tracked, where an aligned lane's word goes, and what a beat
does at its source port and its units. Rests on: R188, R189, R190, R191, R193, R194, R195, R340, R402. -/
def Obligations.GatherBanks : Prop :=
  -- train
  (∀ (s : State) (p : Path) (g : Fin 4) (v : BitVec 32) (x : State), s.live = true → s.pathOpen p = true →
      s.stored p (0xc00000 + 0x10000 * g.val) (v ||| 0x80000000).toNat = x →
      x.on (F.GTH_STATUS_TRAIN_BUSY g) = false →
    Runs (.train p g v) s fun u =>
      u.rd (F.GTH_STATUS_TRAIN_BUSY g) = 1 ∧
      u.rd (F.GTH_STATUS_TRAINED g) = 0 ∧
      u.rd (F.GTH_LANE_LOCK_LOCK g) = 0) ∧
  -- trainBusy
  (∀ (s : State) (p : Path) (g : Fin 4) (v : BitVec 32) (x : State), s.live = true → s.pathOpen p = true →
      s.stored p (0xc00000 + 0x10000 * g.val) (v ||| 0x80000000).toNat = x → x.on (F.GTH_STATUS_TRAIN_BUSY g) = true →
    Runs (.train p g v) s fun u =>
      u = x) ∧
  -- gthTrainDone
  (∀ (s : State) (g : Fin 4) (lanes : List LaneTrain), s.live = true → s.pixelOn = true →
      s.on (F.GTH_STATUS_TRAIN_BUSY g) = true →
    Runs (.gthTrainDone g lanes) s fun u =>
      (u.rd (F.GTH_CTRL_TRAIN g) = 0 ∧ u.rd (F.GTH_STATUS_TRAIN_BUSY g) = 0 ∧ u.rd (F.GTH_STATUS_TRAINED g) = 1) ∧
      (∀ i ∈ s.lanes g, u.rd (F.GTH_LANE_EYE_TAP g i) = (lanes.getD i noTrain).tap.val ∧
          u.rd (F.GTH_LANE_EYE_EYE g i) = (lanes.getD i noTrain).eye.val) ∧
      (∀ i ∈ s.lanes g, s.lanePasses g i (lanes.getD i noTrain) = true →
          bit (u.rd (F.GTH_LANE_LOCK_LOCK g)) i = true ∧
          u.rd (F.GTH_LANE_EYE_SLIP g i) = (lanes.getD i noTrain).slip.val) ∧
      ((∃ i ∈ s.lanes g, s.lanePasses g i (lanes.getD i noTrain) = false) → u.rd (F.GTH_STATUS_TRAIN_FAIL g) = 1 ∧
          Pends u (Ev.GTH_TRAIN_FAIL g)) ∧
      Pends u (Ev.GTH_TRAIN_DONE g)) ∧
  -- gthTrainDoneIdle
  (∀ (s : State) (g : Fin 4) (lanes : List LaneTrain), s.live = true → (s.pixelOn = false ∨
      s.on (F.GTH_STATUS_TRAIN_BUSY g) = false) →
    Runs (.gthTrainDone g lanes) s fun u =>
      u = s) ∧
  -- eyeTrack
  (∀ (s : State) (g : Fin 4) (lane : Fin 24) (up : Bool) (eye : Fin 64), s.live = true → s.pixelOn = true →
      s.on (F.GTH_CTRL_TRACK g) = true → bit (s.rd (F.GTH_LANE_LOCK_LOCK g)) lane = true →
      s.rd (F.GTH_TRAIN_CFG_EYE_MIN g) ≤ eye.val →
      (if up then s.rd (F.GTH_LANE_EYE_TAP g lane) < 63 else 0 < s.rd (F.GTH_LANE_EYE_TAP g lane)) →
    Runs (.eyeTrack g lane (some up) eye) s fun u =>
      (u.rd (F.GTH_LANE_EYE_TAP g lane) = (if up then s.rd (F.GTH_LANE_EYE_TAP g lane) + 1 else s.rd
          (F.GTH_LANE_EYE_TAP g lane) - 1)) ∧
      (∀ o, o ≠ (F.GTH_LANE_EYE_TAP g lane).off → u.reg o = s.reg o) ∧
      Keeps [.gthRegs] s u) ∧
  -- eyeTrackLost
  (∀ (s : State) (g : Fin 4) (lane : Fin 24) (dir : Option Bool) (eye : Fin 64), s.live = true → s.pixelOn = true →
      s.on (F.GTH_CTRL_TRACK g) = true → bit (s.rd (F.GTH_LANE_LOCK_LOCK g)) lane = true →
      (eye.val < s.rd (F.GTH_TRAIN_CFG_EYE_MIN g) ∨ (dir = some true ∧ s.rd (F.GTH_LANE_EYE_TAP g lane) = 63) ∨
      (dir = some false ∧ s.rd (F.GTH_LANE_EYE_TAP g lane) = 0)) →
    Runs (.eyeTrack g lane dir eye) s fun u =>
      bit (u.rd (F.GTH_LANE_LOCK_LOCK g)) lane = false ∧
      Counted s u (F.GTH_ALIGN_LOST_CNT_COUNT g) ∧
      u.rd (F.GTH_STATUS_ALIGN_LOST g) = 1 ∧
      Pends u (Ev.GTH_ALIGN_LOST g)) ∧
  -- eyeTrackOff
  (∀ (s : State) (g : Fin 4) (lane : Fin 24) (dir : Option Bool) (eye : Fin 64), s.live = true → (s.pixelOn = false ∨
      s.on (F.GTH_CTRL_TRACK g) = false ∨ bit (s.rd (F.GTH_LANE_LOCK_LOCK g)) lane = false ∨ (dir = none ∧
      s.rd (F.GTH_TRAIN_CFG_EYE_MIN g) ≤ eye.val)) →
    Runs (.eyeTrack g lane dir eye) s fun u =>
      u = s) ∧
  -- laneWord
  (∀ (s : State) (g : Fin 4) (lane : Fin 24) (w : BitVec 12), s.live = true → s.pixelOn = true →
      bit (s.rd (F.GTH_LANE_LOCK_LOCK g)) lane = true → s.partReleased g = true →
    Runs (.laneWord g lane w) s fun u =>
      u.out = s.out ++ [Output.word g lane (w.toNat % 2 ^ s.ratio g)] ∧
      Keeps [.out] s u) ∧
  -- laneWordDiscarded
  (∀ (s : State) (g : Fin 4) (lane : Fin 24) (w : BitVec 12), s.live = true → s.pixelOn = true →
      bit (s.rd (F.GTH_LANE_LOCK_LOCK g)) lane = true → s.partReleased g = false →
    Runs (.laneWord g lane w) s fun u =>
      Counted s u (F.GTH_DISCARD_CNT_COUNT g) ∧
      u.rd (F.GTH_STATUS_DISCARD g) = 1 ∧
      (mayRaise (Tab.get (fun _ => none) s.discardEv g) s.real 10000000 = true → Pends u (Ev.GTH_DISCARD g))) ∧
  -- laneWordUnaligned
  (∀ (s : State) (g : Fin 4) (lane : Fin 24) (w : BitVec 12), s.live = true → (s.pixelOn = false ∨
      bit (s.rd (F.GTH_LANE_LOCK_LOCK g)) lane = false) →
    Runs (.laneWord g lane w) s fun u =>
      u = s) ∧
  -- pixelBusBeat
  (∀ (s : State) (k : Fin 8) (b : Beat), s.live = true → s.pixelOn = true → s.pbOn k = true →
      s.partReleased (k.val / 2) = true → b.sol = false → b.eol = false → b.syncErr = false → (∀ m ∈ s.subscribers k,
      s.beatError m b = false) →
    Runs (.pixelBusBeat k b) s fun u =>
      (∀ m ∈ s.subscribers k, (s.mu m).inRow = true → s.takes m b = true →
          (u.mu m).nextCol = some (b.col.toNat + b.npix.val)) ∧
      (∀ m, m < 16 → m ∉ s.subscribers k → u.mu m = s.mu m) ∧
      u.pbs = s.pbs) ∧
  -- pixelBusBeatStarts
  (∀ (s : State) (k : Fin 8) (b : Beat), s.live = true → s.pixelOn = true → s.pbOn k = true →
      s.partReleased (k.val / 2) = true → b.sol = true → (s.pb k).tags = [] →
    Runs (.pixelBusBeat k b) s fun u =>
      (u.pb k).untagged = true ∧
      (u.pb k).line = ((s.pb k).line + 1) % 2 ^ 48 ∧
      Counted s u (F.GTH_TAG_ERR_CNT_COUNT (k.val / 2) (k.val % 2)) ∧
      Pends u (Ev.PBS_TAG_ERR k)) ∧
  -- pixelBusBeatSyncError
  (∀ (s : State) (k : Fin 8) (b : Beat), s.live = true → s.pixelOn = true → s.pbOn k = true →
      s.partReleased (k.val / 2) = true → b.syncErr = true → (b.sol = true ∨ (s.pb k).syncSeen = false) →
    Runs (.pixelBusBeat k b) s fun u =>
      Counted s u (F.GTH_SYNC_ERR_CNT_COUNT (k.val / 2) (k.val % 2)) ∧
      (u.pb k).syncSeen = true) ∧
  -- pixelBusBeatFormat
  (∀ (s : State) (k : Fin 8) (b : Beat) (m : Nat), s.live = true → s.pixelOn = true → s.pbOn k = true →
      s.partReleased (k.val / 2) = true → b.sol = false → m ∈ s.subscribers k → s.beatError m b = true →
    Runs (.pixelBusBeat k b) s fun u =>
      Counted s u (F.GTH_FORMAT_CNT_COUNT (k.val / 2) (k.val % 2)) ∧
      u.rd (F.GTH_PBS_STAT_FORMAT (k.val / 2) (k.val % 2)) = 1) ∧
  -- pixelBusBeatTagged
  (∀ (s : State) (k : Fin 8) (b : Beat) (t : Tag) (ts : List Tag), s.live = true → s.pixelOn = true →
      s.pbOn k = true → s.partReleased (k.val / 2) = true → b.sol = true → (s.pb k).tags = t :: ts →
      s.real ≤ t.real + 100 * s.rd (F.GTH_PBS_CTRL_TAG_AGE (k.val / 2) (k.val % 2)) →
    Runs (.pixelBusBeat k b) s fun u =>
      (u.pb k).line = t.line ∧ (u.pb k).time = t.time ∧ (u.pb k).untagged = false ∧ (u.pb k).tags = ts) ∧
  -- pixelBusBeatEnds
  (∀ (s : State) (k : Fin 8) (b : Beat), s.live = true → s.pixelOn = true → s.pbOn k = true →
      s.partReleased (k.val / 2) = true → b.eol = true →
    Runs (.pixelBusBeat k b) s fun u =>
      ∀ m ∈ u.subscribers k, (u.mu m).inRow = false) ∧
  -- pixelBusBeatOff
  (∀ (s : State) (k : Fin 8) (b : Beat), s.live = true → (s.pixelOn = false ∨ s.pbOn k = false ∨
      s.partReleased (k.val / 2) = false) →
    Runs (.pixelBusBeat k b) s fun u =>
      u = s)

/-- What a write of EN or of a coefficient does, what a unit's queue yields, and what the notices of a gaffer do. Rests
on: R196, R201, R203, R204, R206, R207, R208, R209, R210, R213, R214. -/
def Obligations.Marver : Prop :=
  -- mrvEnWrite
  (∀ (s : State) (p : Path) (m : Fin 16) (v : BitVec 32) (x : State), s.live = true → s.pathOpen p = true →
      s.stored p (0xc80000 + 0x10000 * m.val) v.toNat = x →
    Runs (.mrvEnWrite p m v) s fun u =>
      (x.on (F.MRV_CTRL_EN m) = true → bit (s.reg (0xc80000 + 0x10000 * m.val)).toNat 0 = false →
          (u.mu m).want = true) ∧
      (x.on (F.MRV_CTRL_EN m) = true → bit (s.reg (0xc80000 + 0x10000 * m.val)).toNat 0 = true → u.mrv = s.mrv) ∧
      (x.on (F.MRV_CTRL_EN m) = false → (u.mu m).want = false) ∧
      (x.on (F.MRV_CTRL_EN m) = false → x.active m = true → (s.mu m).inRow = true → (u.mu m).stop = true) ∧
      (x.on (F.MRV_CTRL_EN m) = false → (s.mu m).inRow = false → u.rd (F.MRV_STATUS_ACTIVE m) = 0) ∧
      (∀ k, k < 16 → u.rd (F.MRV_STATUS_LEADER k) = b2n (x.on (F.MRV_CTRL_PACK_EN k) && x.packLeader k == k))) ∧
  -- coefWrite
  (∀ (s : State) (p : Path) (m : Fin 16) (k : Fin 8) (w : Fin 25) (v : BitVec 32), s.live = true →
      s.pathOpen p = true → k.val ≠ (s.mu m).set →
    Runs (.coefWrite p m k w v) s fun u =>
      u = s.stored p (0xc81000 + 0x10000 * m.val + 0x80 * k.val + 4 * w.val) v.toNat ∧
      u.mrv = s.mrv) ∧
  -- coefWriteBusy
  (∀ (s : State) (p : Path) (m : Fin 16) (k : Fin 8) (w : Fin 25) (v : BitVec 32), s.live = true →
      s.pathOpen p = true → k.val = (s.mu m).set →
    Runs (.coefWrite p m k w v) s fun u =>
      u.reg (0xc81000 + 0x10000 * m.val + 0x80 * k.val + 4 * w.val) = s.reg (0xc81000 + 0x10000 * m.val + 0x80 *
          k.val + 4 * w.val) ∧
      u.rd (F.MRV_STATUS_COEF_BUSY m) = 1 ∧
      Pends u (Ev.MRV_ERR m)) ∧
  -- candidateClose
  (∀ (s : State) (m : Fin 16) (c : Cand) (q : List MrvEv), s.live = true → (s.mu m).queue = .close c :: q →
      s.rd (F.MRV_EXTRACT_MIN_AREA m) ≤ c.area →
    Runs (.candidateClose m) s fun u =>
      (u.mu m).queue = q ∧
      Counted s u (F.MRV_CAND_CNT_COUNT m) ∧
      (s.on (F.MRV_CTRL_CREC_EN m) = true →
          u.rd (F.MRV_CREC_SEQ_SEQ m) = (s.rd (F.MRV_CREC_SEQ_SEQ m) + 1) % 2 ^ 32) ∧
      (s.on (F.MRV_CTRL_CREC_EN m) = true → s.on (F.MRV_CTRL_PATCH_EN m) = false →
          s.on (F.MRV_CTRL_PACK_EN m) = false →
          ((stacksTouched (s.crecBase m + s.rd (F.MRV_CREC_SEQ_SEQ m) % s.crecSlots m * 64) 64).all fun b =>
          !s.stackDead b && s.stackServes b) = true →
          Bytes.read u.hbm (s.crecBase m + s.rd (F.MRV_CREC_SEQ_SEQ m) % s.crecSlots m * 64) 64 = c.record m (s.rd
          (F.MRV_SPAN_COL_FIRST m)) (s.rd (F.MRV_CREC_SEQ_SEQ m)) s.now none 0xff) ∧
      (s.on (F.MRV_CTRL_CREC_EN m) = false → u.hbm = s.hbm ∨ s.on (F.MRV_CTRL_PATCH_EN m) = true)) ∧
  -- candidateCloseNone
  (∀ (s : State) (m : Fin 16), s.live = true →
      ((s.mu m).queue.head?.all fun e => match e with | .close _ => false | .mark .. => true) = true →
    Runs (.candidateClose m) s fun u =>
      u = s) ∧
  -- candidateCloseSmall
  (∀ (s : State) (m : Fin 16) (c : Cand) (q : List MrvEv), s.live = true → (s.mu m).queue = .close c :: q →
      c.area < s.rd (F.MRV_EXTRACT_MIN_AREA m) →
    Runs (.candidateClose m) s fun u =>
      (u.mu m).queue = q ∧
      Counted s u (F.MRV_SMALL_CNT_COUNT m) ∧
      u.hbm = s.hbm) ∧
  -- endOfRowMark
  (∀ (s : State) (m : Fin 16) (line before : Nat) (taint : Bool) (q : List MrvEv), s.live = true →
      (s.mu m).queue = .mark line before taint :: q →
    Runs (.endOfRowMark m) s fun u =>
      (u.mu m).queue = q ∧
      (u.mu m).part = Batch.init ∧
      (s.on (F.MRV_CTRL_PACK_EN m) = false → (u.mu m).parts = (s.mu m).parts)) ∧
  -- patchComplete
  (∀ (s : State) (m : Fin 16) (p : Patch) (ps : List Patch) (r : Row) (rs : List Row), s.live = true →
      (s.mu m).patches = p :: ps → (s.mu m).history = r :: rs → 63 ≤ lineAt r.line (31 - (p.last : Int)) →
      lineAt r.line (31 - (p.last : Int)) < 2 ^ 47 →
    Runs (.patchComplete m) s fun u =>
      (u.mu m).patches = ps ∧
      (((stacksTouched (s.patchHdr m + p.num % s.patchSlots m * 64) 64).all fun b => !s.stackDead b && s.stackServes
          b) = true → Bytes.read u.hbm (s.patchHdr m + p.num % s.patchSlots m * 64) 64 = leBytes 64 (p.last + 2 ^ 48
          + 2 ^ 49 * b2n (p.taint || (upTo 64).any fun i => !p.rows.contains i) + 2 ^ 50 * b2n p.shifted + 2 ^ 64 *
          (s.rd (F.MRV_SPAN_COL_FIRST m) + p.col0) + 2 ^ 96 * p.cseq)) ∧
      (∀ a, (a < s.patchBase m + p.num % s.patchSlots m * 8192 ∨
          s.patchBase m + p.num % s.patchSlots m * 8192 + 8192 ≤ a) →
          (a < s.patchHdr m + p.num % s.patchSlots m * 64 ∨ s.patchHdr m + p.num % s.patchSlots m * 64 + 64 ≤ a) →
          Bytes.get u.hbm a = Bytes.get s.hbm a)) ∧
  -- patchNotYet
  (∀ (s : State) (m : Fin 16) (p : Patch) (ps : List Patch) (r : Row) (rs : List Row), s.live = true →
      (s.mu m).patches = p :: ps → (s.mu m).history = r :: rs → (lineAt r.line (31 - (p.last : Int)) < 63 ∨
      2 ^ 47 ≤ lineAt r.line (31 - (p.last : Int))) →
    Runs (.patchComplete m) s fun u =>
      u = s) ∧
  -- patchIncomplete
  (∀ (s : State) (m : Fin 16), s.live = true → (s.mu m).patches = [] →
    Runs (.patchComplete m) s fun u =>
      u = s) ∧
  -- gobSwapNotice
  (∀ (s : State) (n : Fin 16) (l : Nat) (ls : List Nat) (b : Batch) (bs : List Batch), s.live = true →
      (s.gaf n).swapNotes ≠ 0 → s.packGroup n = l :: ls → (s.mu l).waiting = b :: bs →
    Runs (.gobSwapNotice n) s fun u =>
      (u.gaf n).swapNotes = (s.gaf n).swapNotes - 1 ∧
      (u.mu l).waiting = bs ∧
      (u.mu l).delivering = true ∧
      Pends u (Ev.MRV_BATCH l)) ∧
  -- gobSwapNoticeEmpty
  (∀ (s : State) (n : Fin 16) (l : Nat) (ls : List Nat), s.live = true → (s.gaf n).swapNotes ≠ 0 →
      s.packGroup n = l :: ls → (s.mu l).waiting = [] →
    Runs (.gobSwapNotice n) s fun u =>
      (u.gaf n).swapNotes = (s.gaf n).swapNotes - 1 ∧
      (u.mu l).delivering = false ∧
      u.gobIn = s.gobIn) ∧
  -- gobSwapNoticeAlone
  (∀ (s : State) (n : Fin 16), s.live = true → s.packGroup n = [] →
    Runs (.gobSwapNotice n) s fun u =>
      (u.gaf n).swapNotes = (s.gaf n).swapNotes - 1 ∧
      u.mrv = s.mrv) ∧
  -- mergeNotice
  (∀ (s : State) (n : Fin 16) (c : Nat) (cs : List Nat), s.live = true → (s.gaf n).mergeNotes = c :: cs →
    Runs (.mergeNotice n) s fun u =>
      (u.gaf n).mergeNotes = cs ∧
      (∀ l ls, s.packGroup n = l :: ls → (u.mu l).notice = some c) ∧
      (s.packGroup n = [] → u.mrv = s.mrv))

/-- A change of a global line's source, a change of VCCO, and the requests and answers of a partition's window port.
Rests on: R23, R25, R223, R224, R235, R236. -/
def Obligations.Fabric : Prop :=
  -- globalLineSwitch
  (∀ (s : State) (g : Fin 16) (sel oldRuns : Bool), s.live = true →
    Runs (.globalLineSwitch g sel oldRuns) s fun u =>
      (s.fab.flag (.lineFixed g) = true ∨ s.fabLive.mux (.lineSel g) ≠ sel → u = s) ∧
      (s.fab.flag (.lineFixed g) = false → s.fabLive.mux (.lineSel g) = sel → (u.gline g).want = sel ∧
          (u.gline g).sel = (s.gline g).sel) ∧
      (s.fab.flag (.lineFixed g) = false → s.fabLive.mux (.lineSel g) = sel →
          (u.gline g).phase = (if (s.gline g).phase = .joining then .joining else if sel = (s.gline g).sel then
          .steady else if oldRuns then .joining else .leaving)) ∧
      (s.fab.flag (.lineFixed g) = false → s.fabLive.mux (.lineSel g) = sel →
          bit (u.rd F.CFG_CLK_STAT_PENDING) g = decide ((u.gline g).phase = .joining))) ∧
  -- clockStuck
  (∀ (s : State) (g : Fin 16), s.live = true → (s.gline g).phase = .leaving →
    Runs (.clockStuck g) s fun u =>
      (u.gline g).phase = .joining ∧
      bit (u.rd F.CFG_CLK_STAT_STUCK) g = true ∧
      Pends u Ev.CFG_CLK_STUCK) ∧
  -- newClockArrival
  (∀ (s : State) (g : Fin 16), s.live = true → (s.gline g).phase = .joining →
    Runs (.newClockArrival g) s fun u =>
      (u.gline g).sel = !(s.gline g).sel ∧
      ((u.gline g).phase = (if (s.gline g).want = !(s.gline g).sel then .steady else .joining))) ∧
  -- vccoChange
  (∀ (s : State) (b : Fin 12) (good : Bool), s.live = true → bit (s.rd F.CFG_IO_STAT_VCCO_OK) b ≠ good →
    Runs (.vccoChange b good) s fun u =>
      bit (u.rd F.CFG_IO_STAT_VCCO_OK) b = good ∧
      Pends u Ev.CFG_IO_VCCO) ∧
  -- vccoSame
  (∀ (s : State) (b : Fin 12) (good : Bool), s.live = true → bit (s.rd F.CFG_IO_STAT_VCCO_OK) b = good →
    Runs (.vccoChange b good) s fun u =>
      u = s) ∧
  -- clockStuckNot
  (∀ (s : State) (g : Fin 16), s.live = true → (s.gline g).phase ≠ .leaving →
    Runs (.clockStuck g) s fun u =>
      u = s) ∧
  -- newClockNotAwaited
  (∀ (s : State) (g : Fin 16), s.live = true → (s.gline g).phase ≠ .joining →
    Runs (.newClockArrival g) s fun u =>
      u = s) ∧
  -- windowPortRequest
  (∀ (s : State) (k : Fin 8) (block : BitVec 21) (w : Option (BitVec 64 × BitVec 512)), s.live = true →
      s.winQueue k = [] → (s.winLive k).length < 16 →
    Runs (.windowPortRequest k (some (block, w))) s fun u =>
      (s.windowServes k = true → s.fab.winEdges.contains k.val = false → u.winQueue k = [coreReq k block.toNat w] ∧
          u.winOpen k = s.winOpen k ∧ u.out = s.out) ∧
      (s.windowServes k = true → s.fab.winEdges.contains k.val = true → u.winQueue k = [] ∧
          u.winOpen k = s.winOpen k ++ [coreReq k block.toNat w] ∧ u.out = s.out ++
          [Output.window k w.isSome (64 * block.toNat) (coreReq k block.toNat w).be (coreReq k block.toNat w).data]) ∧
      (s.windowServes k = false → u.winQueue k = [] ∧ u.winOpen k = s.winOpen k ∧
          Counted s u F.SYS_ACCESS_ERR_CNT_COUNT ∧ Pends u Ev.SYS_ACCESS_ERR ∧ ∃ l : List Output, u.out = l ++
          [Output.windowAnswer k (if w.isSome then [] else List.replicate 64 0)])) ∧
  -- windowPortFull
  (∀ (s : State) (k : Fin 8) (block : BitVec 21) (w : Option (BitVec 64 × BitVec 512)), s.live = true →
      16 ≤ (s.winLive k).length → s.windowServes k = true → s.winQueue k = [] →
    Runs (.windowPortRequest k (some (block, w))) s fun u =>
      u.winQueue k = [coreReq k block.toNat w] ∧
      (u.winOpen k = s.winOpen k ∧ u.out = s.out)) ∧
  -- windowPortNext
  (∀ (s : State) (k : Fin 8) (r : WinReq) (rs : List WinReq), s.live = true → s.winQueue k = r :: rs →
      s.windowServes k = true → (s.winLive k).length < 16 → s.fab.winEdges.contains k.val = true →
    Runs (.windowPortRequest k none) s fun u =>
      u.winQueue k = rs ∧
      u.winOpen k = s.winOpen k ++ [r] ∧
      u.out = s.out ++ [Output.window k r.write (r.addr % 2 ^ 27 / 64 * 64) r.be r.data]) ∧
  -- windowPortNoEdge
  (∀ (s : State) (k : Fin 8), s.live = true → s.windowServes k = true → s.fab.winEdges.contains k.val = false →
    Runs (.windowPortRequest k none) s fun u =>
      u = s) ∧
  -- windowPortNone
  (∀ (s : State) (k : Fin 8), s.live = true → s.winQueue k = [] →
    Runs (.windowPortRequest k none) s fun u =>
      u = s) ∧
  -- windowPortAnswer
  (∀ (s : State) (k : Fin 8) (data : BitVec 512) (r : WinReq) (rs : List WinReq), s.live = true →
      s.winOpen k = r :: rs → s.fab.draining.contains k.val = false →
    Runs (.windowPortAnswer k data) s fun u =>
      u.winOpen k = rs ∧
      (r.late = true → u.out = s.out ∧ u.regs = s.regs) ∧
      (r.late = false → r.from_ = none → u.out = s.out ++
          [Output.windowAnswer k (if r.write then [] else leBytes 64 data.toNat)])) ∧
  -- windowPortAnswerNone
  (∀ (s : State) (k : Fin 8) (data : BitVec 512), s.live = true → s.winOpen k = [] →
    Runs (.windowPortAnswer k data) s fun u =>
      u = s) ∧
  -- windowTimeout
  (∀ (s : State) (k : Fin 8) (r : WinReq), s.live = true → (s.winLive k).head? = some r →
      s.fab.draining.contains k.val = false →
    Runs (.windowTimeout k) s fun u =>
      u.winOpen k = markLate (s.winOpen k) ∧
      (r.from_ = none → Output.windowAnswer k (if r.write then [] else List.replicate 64 0) ∈ u.out) ∧
      Counted s u F.CFG_WIN_TO_CNT_COUNT ∧
      u.rd F.CFG_WIN_STAT_TIMEOUT = 1 ∧
      Pends u Ev.CFG_WIN_TIMEOUT) ∧
  -- windowTimeoutWaiting
  (∀ (s : State) (k : Fin 8) (r : WinReq) (rs : List WinReq), s.live = true → s.winLive k = [] →
      s.winQueue k = r :: rs → s.fab.draining.contains k.val = false →
    Runs (.windowTimeout k) s fun u =>
      (r.from_ = none → u.winQueue k = rs) ∧
      (r.from_ = none → Output.windowAnswer k (if r.write then [] else List.replicate 64 0) ∈ u.out) ∧
      Counted s u F.CFG_WIN_TO_CNT_COUNT ∧
      u.rd F.CFG_WIN_STAT_TIMEOUT = 1 ∧
      Pends u Ev.CFG_WIN_TIMEOUT) ∧
  -- windowTimeoutNone
  (∀ (s : State) (k : Fin 8), s.live = true → s.winLive k = [] → s.winQueue k = [] →
    Runs (.windowTimeout k) s fun u =>
      u = s)

/-- The registers of an engine, the fetch of a ring entry and its check, the start of a descriptor, what it waits for,
its end and its errors. Rests on: R257, R258, R260, R261, R262, R263, R266, R272, R396. -/
def Obligations.DmaDescriptors : Prop :=
  -- dmaTailWrite
  (∀ (s : State) (p : Path) (e : Fin 16) (v : BitVec 32), s.live = true → s.pathOpen p = true →
    Runs (.dmaTailWrite p e v) s fun u =>
      u = s.stored p (0xa0118 + 0x40 * e.val) v.toNat ∧
      u.rd (F.DMA_TAIL e) = v.toNat % 2 ^ 12) ∧
  -- dmaEnWrite
  (∀ (s : State) (p : Path) (e : Fin 16) (v : BitVec 32) (x : State), s.live = true → s.pathOpen p = true →
      s.stored p (0xa0100 + 0x40 * e.val) (v ||| 1).toNat = x →
    Runs (.dmaEnWrite p e v) s fun u =>
      u.on (F.DMA_CTRL_EN e) = true ∧
      (bit v.toNat 31 = false → u.rd (F.DMA_STAT_STOPPED e) = 0 ∧ u.dma = x.dma) ∧
      (bit v.toNat 31 = true → ∀ d ∈ (u.eng e).descs, d.ended.isSome = true)) ∧
  -- dmaAbort
  (∀ (s : State) (p : Path) (e : Fin 16) (v : BitVec 32) (x : State), s.live = true → s.pathOpen p = true →
      s.stored p (0xa0100 + 0x40 * e.val) (v ||| 0x80000000).toNat = x →
    Runs (.dmaAbort p e v) s fun u =>
      (∀ d ∈ (u.eng e).descs, d.ended.isSome = true) ∧
      u.rd (F.DMA_HEAD e) = x.rd (F.DMA_TAIL e) ∧
      u.rd (F.DMA_CTRL_ABORT e) = b2n (!(u.eng e).descs.isEmpty)) ∧
  -- dmaCplTailWrite
  (∀ (s : State) (p : Path) (e : Fin 16) (v : BitVec 32) (x : State), s.live = true → s.pathOpen p = true →
      s.stored p (0xa012c + 0x40 * e.val) v.toNat = x →
    Runs (.dmaCplTailWrite p e v) s fun u =>
      u.rd (F.DMA_CPL_TAIL_TAIL e) = v.toNat % 2 ^ 12 ∧
      (x.cplFull e = true → u.eng e = x.eng e) ∧
      (x.cplFull e = false → ∀ y, (x.eng e).held = [y] → (u.eng e).held = [] ∧ Counted x u (F.DMA_DONE_CNT_COUNT e))) ∧
  -- descriptorFetch
  (∀ (s : State) (e : Fin 16) (host : HostData) (up : Upsets) (i raw : Nat), s.live = true → s.canFetch e = true →
      s.on (F.DMA_CTRL_DESC_HOST e) = true → s.rd (F.DMA_HEAD e) % ringLen (s.rd (F.DMA_RING_CFG_LOG2N e)) = i →
      (s.readEntry e (s.entryAt e) host).2 = some raw → s.descFault (newDesc (s.freeDesc e) i raw) = none →
    Runs (.descriptorFetch e host up) s fun u =>
      u.rd (F.DMA_HEAD e) = (i + 1) % ringLen (s.rd (F.DMA_RING_CFG_LOG2N e)) ∧
      (u.eng e).descs = (s.eng e).descs ++ [newDesc (s.freeDesc e) i raw] ∧
      u.rd (F.DMA_STAT_BUSY e) = 1) ∧
  -- descriptorFetchHbm
  (∀ (s : State) (e : Fin 16) (host : HostData) (up : Upsets) (i raw : Nat), s.live = true → s.canFetch e = true →
      s.on (F.DMA_CTRL_DESC_HOST e) = false → inHbm (s.entryAt e) 32 = true → s.hbmReady (s.entryAt e) 32 = true →
      s.rd (F.DMA_HEAD e) % ringLen (s.rd (F.DMA_RING_CFG_LOG2N e)) = i →
      ((s.upsets (upsetList up)).readEntry e (s.entryAt e) host).2 = some raw →
      s.descFault (newDesc (s.freeDesc e) i raw) = none →
    Runs (.descriptorFetch e host up) s fun u =>
      raw = leNat (Bytes.read s.hbm (s.entryAt e) 32) ∧
      u.rd (F.DMA_HEAD e) = (i + 1) % ringLen (s.rd (F.DMA_RING_CFG_LOG2N e)) ∧
      (u.eng e).descs = (s.eng e).descs ++ [newDesc (s.freeDesc e) i raw] ∧
      u.rd (F.DMA_STAT_BUSY e) = 1) ∧
  -- descriptorFetchWaits
  (∀ (s : State) (e : Fin 16) (host : HostData) (up : Upsets), s.live = true → s.canFetch e = true →
      s.on (F.DMA_CTRL_DESC_HOST e) = false → inHbm (s.entryAt e) 32 = true → s.hbmReady (s.entryAt e) 32 = false →
    Runs (.descriptorFetch e host up) s fun u =>
      u.rd (F.DMA_HEAD e) = s.rd (F.DMA_HEAD e) ∧
      (u.eng e).descs = (s.eng e).descs) ∧
  -- descriptorFetchInvalid
  (∀ (s : State) (e : Fin 16) (host : HostData) (up : Upsets) (i raw r : Nat), s.live = true → s.canFetch e = true →
      s.on (F.DMA_CTRL_DESC_HOST e) = true → s.rd (F.DMA_HEAD e) % ringLen (s.rd (F.DMA_RING_CFG_LOG2N e)) = i →
      (s.readEntry e (s.entryAt e) host).2 = some raw → s.descFault (newDesc (s.freeDesc e) i raw) = some r →
      s.cplFull e = false → (s.eng e).held = [] →
    Runs (.descriptorFetch e host up) s fun u =>
      u.rd (F.DMA_HEAD e) = (i + 1) % ringLen (s.rd (F.DMA_RING_CFG_LOG2N e)) ∧
      (Counted s u (F.DMA_DONE_CNT_COUNT e) ∧ Counted s u (F.DMA_ERR_CNT_COUNT e)) ∧
      u.rd (F.DMA_STAT_ERR e) = 1 ∧
      Pends u (Ev.DMA_ERR e) ∧
      (s.on (F.DMA_LAST_ERR_VALID e) = false →
          (u.reg (0xa013c + 0x40 * e.val)).toNat = (2 ^ 31 + 2 ^ 28 + 2 ^ 24 * r + i) % 2 ^ 32) ∧
      (s.on (F.DMA_CTRL_ERR_STOP e) = true → u.rd (F.DMA_STAT_STOPPED e) = 1)) ∧
  -- descriptorFetchLost
  (∀ (s : State) (e : Fin 16) (host : HostData) (up : Upsets) (i : Nat), s.live = true → s.canFetch e = true →
      s.on (F.DMA_CTRL_DESC_HOST e) = true → s.rd (F.DMA_HEAD e) % ringLen (s.rd (F.DMA_RING_CFG_LOG2N e)) = i →
      (host = .error ∨ host = .poisoned) → s.cplFull e = false → (s.eng e).held = [] →
    Runs (.descriptorFetch e host up) s fun u =>
      u.rd (F.DMA_HEAD e) = (i + 1) % ringLen (s.rd (F.DMA_RING_CFG_LOG2N e)) ∧
      (Counted s u (F.DMA_DONE_CNT_COUNT e) ∧ Counted s u (F.DMA_ERR_CNT_COUNT e)) ∧
      (s.on (F.DMA_LAST_ERR_VALID e) = false →
          (u.reg (0xa013c + 0x40 * e.val)).toNat = (2 ^ 31 + 2 ^ 28 * 2 + i) % 2 ^ 32)) ∧
  -- descriptorFetchIdle
  (∀ (s : State) (e : Fin 16) (host : HostData) (up : Upsets), s.live = true → s.canFetch e = false →
    Runs (.descriptorFetch e host up) s fun u =>
      u = s) ∧
  -- dmaDescriptorStart
  (∀ (s : State) (e : Fin 16) (d : Desc), s.live = true → s.nextDesc e = some d → s.engRuns e = true →
      s.cplFull e = false → (s.eng e).held = [] → s.holdsDone e d = true → s.refuses d = none →
      (d.domains.any fun c => decide (16 ≤ c) && s.stackDead (c - 16)) = false →
      (d.domains.any fun c => s.domWaits c) = false →
    Runs (.dmaDescriptorStart e) s fun u =>
      (∀ d', u.desc? e d.slot = some d' → d'.started = true) ∧
      (d.sspace = 1 → u = (s.putDesc e { d with started := true }).askHosts 768) ∧
      (d.sspace = 3 ∨ (d.sspace = 0 ∧ inWindow d.src = false) → u = s.putDesc e { d with started := true })) ∧
  -- dmaDescriptorStartRefused
  (∀ (s : State) (e : Fin 16) (d : Desc) (st : Nat), s.live = true → s.nextDesc e = some d →
      s.desc? e d.slot = some d → s.outstanding e d = false → d.ended = none → s.engRuns e = true →
      s.cplFull e = false → (s.eng e).held = [] → s.holdsDone e d = true → (s.refuses d = some st ∨
      (s.refuses d = none ∧ (d.domains.any fun c => decide (16 ≤ c) && s.stackDead (c - 16)) = true ∧ st = 2)) →
    Runs (.dmaDescriptorStart e) s fun u =>
      u.desc? e d.slot = none ∧
      Counted s u (F.DMA_ERR_CNT_COUNT e) ∧
      (s.on (F.DMA_LAST_ERR_VALID e) = false →
          (u.reg (0xa013c + 0x40 * e.val)).toNat = (2 ^ 31 + 2 ^ 28 * st + d.idx) % 2 ^ 32) ∧
      Pends u (Ev.DMA_ERR e)) ∧
  -- dmaDescriptorStartWaits
  (∀ (s : State) (e : Fin 16) (d : Desc), s.live = true → s.nextDesc e = some d → s.engRuns e = true →
      s.cplFull e = false → (s.eng e).held = [] → s.holdsDone e d = true → s.refuses d = none →
      (d.domains.any fun c => decide (16 ≤ c) && s.stackDead (c - 16)) = false →
      (d.domains.any fun c => s.domWaits c) = true →
    Runs (.dmaDescriptorStart e) s fun u =>
      u.nextDesc e = some d ∧
      (∀ c ∈ d.domains, s.asleep c = true → (s.dom c).down = none → (u.dom c).waking = true)) ∧
  -- dmaDescriptorStartHeld
  (∀ (s : State) (e : Fin 16), s.live = true → (s.nextDesc e = none ∨ s.engRuns e = false ∨ s.cplFull e = true ∨
      (s.eng e).held ≠ [] ∨ ((s.nextDesc e).any fun d => s.holdsDone e d) = false) →
    Runs (.dmaDescriptorStart e) s fun u =>
      u = s) ∧
  -- dmaDescriptorComplete
  (∀ (s : State) (e : Fin 16) (k : Fin 64) (up : Upsets) (d : Desc), s.live = true → s.desc? e k = some d →
      d.started = true → (d.asked ≠ 0 ∨ d.sspace = 1) → s.descDone e d = true →
      (d.domains.any fun c => s.domWaits c) = false → s.cplFull e = false → (s.eng e).held = [] →
    Runs (.dmaDescriptorComplete e k up) s fun u =>
      u.desc? e k = none ∧
      Counted s u (F.DMA_DONE_CNT_COUNT e) ∧
      u.rd (F.DMA_ERR_CNT_COUNT e) = s.rd (F.DMA_ERR_CNT_COUNT e) ∧
      u.rd (F.DMA_CPL_HEAD_HEAD e) = (s.rd (F.DMA_CPL_HEAD_HEAD e) % ringLen (s.rd (F.DMA_CPL_CFG_LOG2N e)) + 1) %
          ringLen (s.rd (F.DMA_CPL_CFG_LOG2N e)) ∧
      (bit d.raw 174 = true → Pends u (Ev.DMA_DONE e))) ∧
  -- dmaDescriptorCompleteHeld
  (∀ (s : State) (e : Fin 16) (k : Fin 64) (up : Upsets) (d : Desc), s.live = true → s.desc? e k = some d →
      d.started = true → (d.asked ≠ 0 ∨ d.sspace = 1) → s.descDone e d = true →
      (d.domains.any fun c => s.domWaits c) = false → (s.cplFull e = true ∨ (s.eng e).held ≠ []) →
    Runs (.dmaDescriptorComplete e k up) s fun u =>
      (u.eng e).held = (s.eng e).held ++ [(d, 0, 0)] ∧
      u.desc? e k = none ∧
      u.rd (F.DMA_DONE_CNT_COUNT e) = s.rd (F.DMA_DONE_CNT_COUNT e)) ∧
  -- dmaDrainIntoHbm
  (∀ (s : State) (e : Fin 16) (k : Fin 64) (up : Upsets) (raw : Nat), s.live = true →
      s.desc? e k = some { newDesc k.val 0 raw with started := true } → ((newDesc k.val 0 raw).sspace = 3 ∧
      (newDesc k.val 0 raw).dspace = 0 ∧ inWindow (newDesc k.val 0 raw).dst = false) →
      (newDesc k.val 0 raw).total ≠ 0 → s.refuses (newDesc k.val 0 raw) = none →
      s.outstanding e (newDesc k.val 0 raw) = false →
      ((newDesc k.val 0 raw).domains.any fun c => s.domWaits c || (decide (16 ≤ c) && s.stackDead (c - 16))) = false
      → s.cplFull e = false → (s.eng e).held = [] → s.on (F.DMA_CTRL_CPL_HOST e) = true →
    Runs (.dmaDescriptorComplete e k up) s fun u =>
      Bytes.read u.hbm (newDesc k.val 0 raw).dst (newDesc k.val 0 raw).total = s.gobOutBytes (newDesc k.val 0 raw) ∧
      u.desc? e k = none ∧
      Counted s u (F.DMA_DONE_CNT_COUNT e)) ∧
  -- dmaDescriptorNone
  (∀ (s : State) (e : Fin 16) (k : Fin 64) (up : Upsets), s.live = true →
      ((s.desc? e k).all fun d => !d.started || d.ended.isSome) = true →
    Runs (.dmaDescriptorComplete e k up) s fun u =>
      u = s) ∧
  -- dmaDescriptorIncomplete
  (∀ (s : State) (e : Fin 16) (k : Fin 64) (up : Upsets) (d : Desc), s.live = true → s.desc? e k = some d →
      (d.started = true ∧ d.ended = none) → (d.asked ≠ 0 ∨ d.sspace = 1) → s.refuses d = none →
      s.descDone e d = false → (d.domains.any fun c => s.domWaits c) = false →
    Runs (.dmaDescriptorComplete e k up) s fun u =>
      u.dma = s.dma ∧
      u.hbm = s.hbm) ∧
  -- hostCompletion
  (∀ (s : State) (tag : Fin 768) (data : List Byte) (r : HostRead) (d : Desc), s.live = true →
      s.hostRead? tag = some r → s.desc? r.eng r.slot = some d → (d.landed = [] ∧ d.ended = none ∧ d.got = r.off) →
      (d.dspace = 0 ∧ inWindow d.dst = false) → s.refuses d = none →
      ((stacksTouched (d.dst + r.off) (data.take r.len).length).all fun c => !s.stackDead c && s.stackServes c) =
      true →
    Runs (.hostCompletion tag (.ok data)) s fun u =>
      Bytes.read u.hbm (d.dst + r.off) (data.take r.len).length = data.take r.len ∧
      (∀ a, (a < d.dst + r.off ∨ d.dst + r.off + (data.take r.len).length ≤ a) →
          Bytes.get u.hbm a = Bytes.get s.hbm a) ∧
      (u.desc? r.eng r.slot).map Desc.got = some (r.off + (data.take r.len).length) ∧
      (data.length < r.len →
          u.hostRead? tag = some
          { r with off := r.off + data.length, addr := r.addr + data.length, len := r.len - data.length })) ∧
  -- hostCompletionEarly
  (∀ (s : State) (tag : Fin 768) (data : List Byte) (r : HostRead) (d : Desc), s.live = true →
      s.hostRead? tag = some r → s.desc? r.eng r.slot = some d → (d.landed = [] ∧ d.ended = none ∧ d.got < r.off) →
      data.take r.len ≠ [] →
    Runs (.hostCompletion tag (.ok data)) s fun u =>
      (u.desc? r.eng r.slot).map Desc.landed = some [(r.off, data.take r.len)] ∧
      u.hbm = s.hbm) ∧
  -- hostCompletionError
  (∀ (s : State) (tag : Fin 768) (st : HostData) (r : HostRead) (d : Desc), s.live = true →
      s.hostRead? tag = some r → s.desc? r.eng r.slot = some d → (st = .error ∨ st = .poisoned) →
    Runs (.hostCompletion tag st) s fun u =>
      (∀ d', u.desc? r.eng r.slot = some d' → d'.ended.isSome = true) ∧
      (d.ended = none → d.open_ = 0 → (s.pcie.reads.filter fun x => x.eng == r.eng && x.slot == r.slot) = [r] →
          u.desc? r.eng r.slot = none) ∧
      (d.ended = none → d.open_ = 0 → (s.pcie.reads.filter fun x => x.eng == r.eng && x.slot == r.slot) = [r] →
          s.cplFull r.eng = false → (s.eng r.eng).held = [] → Counted s u (F.DMA_ERR_CNT_COUNT r.eng) ∧
          Pends u (Ev.DMA_ERR r.eng)) ∧
      (st = .poisoned → Counted s u F.PCI_UNCOR_CNT_COUNT ∧ Pends u Ev.PCI_AER_UNCOR)) ∧
  -- hostCompletionReplayed
  (∀ (s : State) (tag : Fin 768) (data : List Byte) (r : HostRead), s.live = true → s.hostRead? tag = some r →
    Runs (.hostCompletion tag (.replayed data)) s fun u =>
      Counted s u F.PCI_COR_CNT_COUNT ∧
      Pends u Ev.PCI_AER_COR) ∧
  -- hostCompletionUnexpected
  (∀ (s : State) (tag : Fin 768) (st : HostData), s.live = true → s.hostRead? tag = none →
    Runs (.hostCompletion tag st) s fun u =>
      Counted s u F.PCI_UNCOR_CNT_COUNT ∧
      Pends u Ev.PCI_AER_UNCOR ∧
      u.dma = s.dma) ∧
  -- completionTimeout
  (∀ (s : State) (tag : Fin 768) (r : HostRead) (d : Desc), s.live = true → s.hostRead? tag = some r →
      s.desc? r.eng r.slot = some d → s.pcie.noTimeout = false →
    Runs (.completionTimeout tag) s fun u =>
      (∀ d', u.desc? r.eng r.slot = some d' → d'.ended.isSome = true) ∧
      (d.ended = none → d.open_ = 0 → (s.pcie.reads.filter fun x => x.eng == r.eng && x.slot == r.slot) = [r] →
          u.desc? r.eng r.slot = none) ∧
      Counted s u F.PCI_UNCOR_CNT_COUNT ∧
      Pends u Ev.PCI_AER_UNCOR) ∧
  -- completionTimeoutNone
  (∀ (s : State) (tag : Fin 768), s.live = true → (s.hostRead? tag = none ∨ s.pcie.noTimeout = true) →
    Runs (.completionTimeout tag) s fun u =>
      u = s)

/-- PERST's release, readiness, link changes, and the four resets of the endpoint. Rests on: R268, R270, R271, R289,
R443. -/
def Obligations.Pcie : Prop :=
  -- pciePerstDeassert
  (∀ (s : State), s.live = true →
    Runs (.pciePerstDeassert) s fun u =>
      u.pcie.perst = false ∧
      Keeps [.pcie] s u) ∧
  -- pcieReady
  (∀ (s : State) (speed width : Fin 5), s.live = true → s.pcie.perst = false → s.on F.PCI_STAT_READY = false →
    Runs (.pcieReady speed width) s fun u =>
      u.rd F.PCI_STAT_READY = 1 ∧
      u.rd F.PCI_STAT_L0 = 1 ∧
      (s.on F.PCI_STAT_L0 = false → u.rd F.PCI_STAT_SPEED = speed.val + 1 ∧ u.rd F.PCI_STAT_WIDTH = 2 ^ width.val ∧
          Pends u Ev.PCI_LINK_CHG) ∧
      (s.on F.PCI_STAT_L0 = false → s.pcie.d3hot = false → u.pcie.posted = [] ∧ ∀ o ∈ s.pcie.posted, o ∈ u.out)) ∧
  -- pcieReadyAgain
  (∀ (s : State) (speed width : Fin 5), s.live = true → (s.pcie.perst = true ∨ s.on F.PCI_STAT_READY = true) →
    Runs (.pcieReady speed width) s fun u =>
      u = s) ∧
  -- pcieLinkUp
  (∀ (s : State) (speed width : Fin 5), s.live = true → s.pcie.perst = false → s.on F.PCI_STAT_L0 = false →
      s.pcie.d3hot = false →
    Runs (.pcieLinkUp speed width) s fun u =>
      (u.rd F.PCI_STAT_L0 = 1 ∧ u.rd F.PCI_STAT_SPEED = speed.val + 1 ∧ u.rd F.PCI_STAT_WIDTH = 2 ^ width.val) ∧
      u.pcie.posted = [] ∧
      (∀ o ∈ s.pcie.posted, o ∈ u.out) ∧
      Pends u Ev.PCI_LINK_CHG) ∧
  -- pcieInReset
  (∀ (s : State) (speed width : Fin 5), s.live = true → (s.pcie.perst = true ∨ s.on F.PCI_STAT_L0 = true) →
    Runs (.pcieLinkUp speed width) s fun u =>
      u = s) ∧
  -- fundamentalReset
  (∀ (s : State), s.live = true →
    Runs (.fundamentalReset) s fun u =>
      u.pcie.perst = true ∧
      (u.rd F.PCI_STAT_READY = 0 ∧ u.rd F.PCI_STAT_RESET_SEEN = 1) ∧
      (u.rd F.PCI_STAT_L0 = 0 ∧ u.rd F.PCI_STAT_SPEED = 0 ∧ u.rd F.PCI_STAT_WIDTH = 0) ∧
      (u.pcie.msixOn = false ∧ u.pcie.posted = []) ∧
      (u.mbx.long = puntyOnly s.mbx.long ∧ u.mbx.short = puntyOnly s.mbx.short ∧ u.mbx.bad = puntyOnly s.mbx.bad) ∧
      (u.rd F.PCI_MBX_HEAD_HEAD = 0 ∧ u.rd F.PCI_MBX_TAIL_TAIL = 0) ∧
      (u.pcie.reads = [] ∧ u.pcie.d3hot = false ∧ u.pcie.aer = []) ∧
      (∀ e, e < 16 → ∀ d ∈ (u.eng e).descs, s.touchesHost e d = true → d.ended.isSome = true) ∧
      Pends u Ev.PCI_LINK_CHG) ∧
  -- hotReset
  (∀ (s : State), s.live = true →
    Runs (.hotReset) s fun u =>
      (u.rd F.PCI_STAT_READY = 0 ∧ u.rd F.PCI_STAT_RESET_SEEN = 1) ∧
      (u.rd F.PCI_STAT_L0 = 0 ∧ u.rd F.PCI_STAT_SPEED = 0 ∧ u.rd F.PCI_STAT_WIDTH = 0) ∧
      (u.pcie.perst = s.pcie.perst ∧ u.pcie.msixOn = false ∧ u.pcie.posted = []) ∧
      (u.mbx.long = puntyOnly s.mbx.long ∧ u.mbx.short = puntyOnly s.mbx.short ∧ u.mbx.bad = puntyOnly s.mbx.bad) ∧
      (u.pcie.reads = [] ∧ u.pcie.d3hot = false ∧ u.pcie.aer = []) ∧
      (∀ e, e < 16 → ∀ d ∈ (u.eng e).descs, s.touchesHost e d = true → d.ended.isSome = true) ∧
      Pends u Ev.PCI_LINK_CHG) ∧
  -- pcieLinkDown
  (∀ (s : State), s.live = true →
    Runs (.pcieLinkDown) s fun u =>
      (u.rd F.PCI_STAT_READY = 0 ∧ u.rd F.PCI_STAT_RESET_SEEN = 1) ∧
      (u.rd F.PCI_STAT_L0 = 0 ∧ u.rd F.PCI_STAT_SPEED = 0 ∧ u.rd F.PCI_STAT_WIDTH = 0) ∧
      (u.pcie.perst = s.pcie.perst ∧ u.pcie.msixOn = false ∧ u.pcie.posted = []) ∧
      (u.mbx.long = puntyOnly s.mbx.long ∧ u.mbx.short = puntyOnly s.mbx.short ∧ u.mbx.bad = puntyOnly s.mbx.bad) ∧
      (u.pcie.reads = [] ∧ u.pcie.d3hot = false ∧ u.pcie.aer = []) ∧
      (∀ e, e < 16 → ∀ d ∈ (u.eng e).descs, s.touchesHost e d = true → d.ended.isSome = true) ∧
      Pends u Ev.PCI_LINK_CHG) ∧
  -- functionLevelReset
  (∀ (s : State), s.live = true →
    Runs (.functionLevelReset) s fun u =>
      (u.rd F.PCI_STAT_READY = 0 ∧ u.rd F.PCI_STAT_RESET_SEEN = 1) ∧
      (u.rd F.PCI_STAT_L0 = s.rd F.PCI_STAT_L0 ∧ u.rd F.PCI_STAT_SPEED = s.rd F.PCI_STAT_SPEED) ∧
      u.pcie.msixOn = false ∧
      (u.mbx.long = puntyOnly s.mbx.long ∧ u.mbx.short = puntyOnly s.mbx.short ∧ u.mbx.bad = puntyOnly s.mbx.bad) ∧
      (u.pcie.reads = [] ∧ u.pcie.d3hot = false ∧ u.pcie.aer = []) ∧
      (∀ e, e < 16 → ∀ d ∈ (u.eng e).descs, s.touchesHost e d = true → d.ended.isSome = true) ∧
      Pends u Ev.PCI_LINK_CHG)

/-- Configuration requests, requests of BAR2 and BAR4, unsupported requests and the unmasking of a vector. Rests on:
R22, R139, R141, R268, R269, R270, R272, R284. -/
def Obligations.Requests : Prop :=
  -- configurationRequest
  (∀ (s : State) (on mask : Bool), s.live = true → s.pcie.perst = false → s.on F.PCI_STAT_READY = true →
    Runs (.configurationRequest (.msix on mask)) s fun u =>
      (u.pcie.msixOn = on ∧ u.pcie.msixMask = mask) ∧
      (∃ l : List Output, u.out = l ++ [Output.completion 0 false []])) ∧
  -- configurationPower
  (∀ (s : State) (d3 : Bool), s.live = true → s.pcie.perst = false → s.on F.PCI_STAT_READY = true →
    Runs (.configurationRequest (.power d3)) s fun u =>
      u.pcie.d3hot = d3 ∧
      (∃ l : List Output, u.out = l ++ [Output.completion 0 false []]) ∧
      (d3 = false → s.on F.PCI_STAT_L0 = true → ∀ o ∈ s.pcie.posted, o ∈ u.out)) ∧
  -- configurationAspm
  (∀ (s : State) (l1 l11 : Bool), s.live = true → s.pcie.perst = false → s.on F.PCI_STAT_READY = true →
    Runs (.configurationRequest (.aspm l1 l11)) s fun u =>
      u.pcie.aspm = (l1, l11) ∧
      u.out = s.out ++ [Output.completion 0 false []] ∧
      u.regs = s.regs) ∧
  -- configurationSizes
  (∀ (s : State) (p : Fin 3) (r : Fin 6), s.live = true → s.pcie.perst = false → s.on F.PCI_STAT_READY = true →
    Runs (.configurationRequest (.sizes p r)) s fun u =>
      (u.pcie.mps = 128 * 2 ^ p.val ∧ u.pcie.mrrs = 128 * 2 ^ r.val) ∧
      u.out = s.out ++ [Output.completion 0 false []] ∧
      u.regs = s.regs) ∧
  -- configurationTimeout
  (∀ (s : State) (off : Bool) (range : Fin 5), s.live = true → s.pcie.perst = false → s.on F.PCI_STAT_READY = true →
    Runs (.configurationRequest (.timeout off range)) s fun u =>
      (u.pcie.noTimeout = off ∧ u.pcie.timeoutRange = range) ∧
      u.out = s.out ++ [Output.completion 0 false []] ∧
      u.regs = s.regs) ∧
  -- configurationEcrc
  (∀ (s : State) (gen check : Bool), s.live = true → s.pcie.perst = false → s.on F.PCI_STAT_READY = true →
    Runs (.configurationRequest (.ecrc gen check)) s fun u =>
      u.pcie.ecrc = (gen, check) ∧
      u.out = s.out ++ [Output.completion 0 false []] ∧
      u.regs = s.regs) ∧
  -- configurationDiscovery
  (∀ (s : State) (i : BitVec 8), s.live = true → s.pcie.perst = false → s.on F.PCI_STAT_READY = true →
    Runs (.configurationRequest (.discovery i)) s fun u =>
      (i = 0 → (u.out.drop s.out.length).head? = some (Output.discovery 1 0 1)) ∧
      (i = 1 → (u.out.drop s.out.length).head? = some (Output.discovery 1 1 0)) ∧
      Pends u Ev.PCI_DOE) ∧
  -- configurationAerClear
  (∀ (s : State), s.live = true → s.pcie.perst = false → s.on F.PCI_STAT_READY = true →
    Runs (.configurationRequest (.aerClear)) s fun u =>
      u.pcie.aer = [] ∧
      u.out = s.out ++ [Output.completion 0 false []] ∧
      u.regs = s.regs) ∧
  -- configurationCaps
  (∀ (s : State), s.live = true → s.pcie.perst = false → s.on F.PCI_STAT_READY = true →
    Runs (.configurationRequest (.caps)) s fun u =>
      u.out = s.out ++ [Output.capabilities capabilities] ∧
      Keeps [.out] s u ∧
      (capabilities.maxGen = 5 ∧ capabilities.maxLanes = 16 ∧ capabilities.maxPayload = 512 ∧
          capabilities.maxReadRequest = 4096 ∧ capabilities.tagBits = 10 ∧ capabilities.nonPosted = 768 ∧
          capabilities.msixVectors = 2048)) ∧
  -- configurationAerRead
  (∀ (s : State), s.live = true → s.pcie.perst = false → s.on F.PCI_STAT_READY = true →
    Runs (.configurationRequest (.aerRead)) s fun u =>
      u.out = s.out ++ [Output.aerLog s.pcie.aer] ∧
      Keeps [.out] s u) ∧
  -- configurationOther
  (∀ (s : State), s.live = true → s.pcie.perst = false → s.on F.PCI_STAT_READY = true →
    Runs (.configurationRequest (.other)) s fun u =>
      (∃ bs, bs.length = 4 ∧ u.out = s.out ++ [Output.completion 0 false bs]) ∧
      u.regs = s.regs) ∧
  -- configurationRequestRetry
  (∀ (s : State) (q : CfgReq), s.live = true → s.pcie.perst = false → s.on F.PCI_STAT_READY = false →
    Runs (.configurationRequest q) s fun u =>
      u.out = s.out ++ [Output.completion 2 false []] ∧
      Keeps [.out] s u) ∧
  -- configurationInReset
  (∀ (s : State) (q : CfgReq), s.live = true → s.pcie.perst = true →
    Runs (.configurationRequest q) s fun u =>
      u = s) ∧
  -- bar2Request
  (∀ (s : State) (a : BitVec 35) (n : Fin 4097) (up : Upsets) (tlp : Tlp), s.live = true →
      inHbm a.toNat n.val = true → s.on F.PCI_STAT_READY = true → s.tlpFault tlp false = none →
      s.pcie.d3hot = false → n.val ≤ s.pcie.mrrs →
      ((stacksTouched a.toNat n.val).all fun c => s.stackServes c && !s.stackDead c) = true →
      (s.upsets (upsetList up)).badWords a.toNat n.val = [] →
    Runs (.bar2Request a n none tlp up) s fun u =>
      (∃ l : List Output, u.out = l ++ [Output.completion 0 false (Bytes.read s.hbm a.toNat n.val)]) ∧
      u.hbm = s.hbm) ∧
  -- bar2RequestFails
  (∀ (s : State) (a : BitVec 35) (n : Fin 4097) (up : Upsets) (tlp : Tlp), s.live = true →
      inHbm a.toNat n.val = true → s.on F.PCI_STAT_READY = true → s.tlpFault tlp false = none →
      s.pcie.d3hot = false → n.val ≤ s.pcie.mrrs → s.hbmReady a.toNat n.val = true →
      ((stacksTouched a.toNat n.val).any s.stackDead = true ∨ (s.upsets (upsetList up)).badWords a.toNat n.val ≠ []) →
    Runs (.bar2Request a n none tlp up) s fun u =>
      (∃ l : List Output, u.out = l ++ [Output.completion 0 true []]) ∧
      u.hbm = s.hbm) ∧
  -- bar2RequestWrite
  (∀ (s : State) (a : BitVec 35) (n : Fin 4097) (bs : List (Option Byte)) (up : Upsets) (tlp : Tlp), s.live = true →
      inHbm a.toNat bs.length = true → s.on F.PCI_STAT_READY = true → s.tlpFault tlp true = none →
      s.pcie.d3hot = false → bs.length ≤ s.pcie.mps →
      ((stacksTouched a.toNat bs.length).all fun c => s.stackServes c && !s.stackDead c) = true →
    Runs (.bar2Request a n (some bs) tlp up) s fun u =>
      (∀ i b, bs[i]? = some (some b) → Bytes.get u.hbm (a.toNat + i) = b) ∧
      (∀ x, (∀ i b, bs[i]? = some (some b) → x ≠ a.toNat + i) → Bytes.get u.hbm x = Bytes.get s.hbm x)) ∧
  -- bar2RequestWaits
  (∀ (s : State) (a : BitVec 35) (n : Fin 4097) (up : Upsets) (tlp : Tlp), s.live = true →
      inHbm a.toNat n.val = true → s.on F.PCI_STAT_READY = true → s.tlpFault tlp false = none →
      s.pcie.d3hot = false → n.val ≤ s.pcie.mrrs → s.hbmReady a.toNat n.val = false →
    Runs (.bar2Request a n none tlp up) s fun u =>
      u.hbmHeld = s.hbmHeld ++ [.read a.toNat n.val] ∧
      u.hbm = s.hbm) ∧
  -- bar2RequestUnsupported
  (∀ (s : State) (a : BitVec 35) (n : Fin 4097) (up : Upsets) (tlp : Tlp), s.live = true →
      s.on F.PCI_STAT_READY = true → s.tlpFault tlp false = none → (s.pcie.d3hot = true ∨
      inHbm a.toNat n.val = false ∨ s.pcie.mrrs < n.val) →
    Runs (.bar2Request a n none tlp up) s fun u =>
      (∃ l : List Output, u.out = l ++ [Output.completion 1 false []]) ∧
      (Counted s u F.PCI_UNCOR_CNT_COUNT ∧ Pends u Ev.PCI_AER_UNCOR) ∧
      u.hbm = s.hbm) ∧
  -- bar2RequestNotReady
  (∀ (s : State) (a : BitVec 35) (n : Fin 4097) (w : Option (List (Option Byte))) (up : Upsets) (tlp : Tlp),
      s.live = true → s.on F.PCI_STAT_READY = false →
    Runs (.bar2Request a n w tlp up) s fun u =>
      u = s) ∧
  -- bar4Request
  (∀ (s : State) (off : BitVec 16) (n : Fin 9) (tlp : Tlp), s.live = true → off.toNat + n.val ≤ 65536 →
      s.on F.PCI_STAT_READY = true → s.tlpFault tlp false = none → s.pcie.d3hot = false →
    Runs (.bar4Request off n none tlp) s fun u =>
      u.out = s.out ++ [Output.completion 0 false (leBytes n (s.bar4Num off.toNat n))] ∧
      Keeps [.out] s u) ∧
  -- bar4RequestWrite
  (∀ (s : State) (off : BitVec 16) (n : Fin 9) (v : BitVec 64) (tlp : Tlp), s.live = true →
      off.toNat + n.val ≤ 65536 → s.on F.PCI_STAT_READY = true → s.tlpFault tlp true = none → s.pcie.d3hot = false →
    Runs (.bar4Request off n (some v) tlp) s fun u =>
      (∀ i, i < n.val → off.toNat + i < 0x8000 → (off.toNat + i) % 16 < 12 →
          u.bar4At (off.toNat + i) = BitVec.ofNat 8 (v.toNat / 2 ^ (8 * i))) ∧
      (∀ i, i < n.val → off.toNat + i < 0x8000 → (off.toNat + i) % 16 = 12 →
          u.bar4At (off.toNat + i) = BitVec.ofNat 8 (v.toNat / 2 ^ (8 * i)) &&& 1) ∧
      (∀ a, a < 0x8000 → (a < off.toNat ∨ off.toNat + n.val ≤ a ∨ 12 < a % 16) → u.bar4At a = s.bar4At a)) ∧
  -- bar4RequestUnsupported
  (∀ (s : State) (off : BitVec 16) (n : Fin 9) (tlp : Tlp), s.live = true → s.on F.PCI_STAT_READY = true →
      s.tlpFault tlp false = none → (s.pcie.d3hot = true ∨ 65536 < off.toNat + n.val) →
    Runs (.bar4Request off n none tlp) s fun u =>
      (∃ l : List Output, u.out = l ++ [Output.completion 1 false []]) ∧
      (Counted s u F.PCI_UNCOR_CNT_COUNT ∧ Pends u Ev.PCI_AER_UNCOR)) ∧
  -- bar4RequestNotReady
  (∀ (s : State) (off : BitVec 16) (n : Fin 9) (w : Option (BitVec 64)) (tlp : Tlp), s.live = true →
      s.on F.PCI_STAT_READY = false →
    Runs (.bar4Request off n w tlp) s fun u =>
      u = s) ∧
  -- bar2RequestError
  (∀ (s : State) (a : BitVec 35) (n : Fin 4097) (w : Option (List (Option Byte))) (up : Upsets) (tlp : Tlp),
      s.live = true → s.on F.PCI_STAT_READY = true → (s.tlpFault tlp w.isSome).isSome = true →
    Runs (.bar2Request a n w tlp up) s fun u =>
      (Counted s u F.PCI_UNCOR_CNT_COUNT ∧ Pends u Ev.PCI_AER_UNCOR) ∧
      (u.hbm = s.hbm ∧ u.hbmHeld = s.hbmHeld)) ∧
  -- bar4RequestError
  (∀ (s : State) (off : BitVec 16) (n : Fin 9) (w : Option (BitVec 64)) (tlp : Tlp), s.live = true →
      s.on F.PCI_STAT_READY = true → (s.tlpFault tlp w.isSome).isSome = true →
    Runs (.bar4Request off n w tlp) s fun u =>
      Counted s u F.PCI_UNCOR_CNT_COUNT ∧ Pends u Ev.PCI_AER_UNCOR) ∧
  -- unsupportedRequest
  (∀ (s : State) (posted : Bool), s.live = true →
    Runs (.unsupportedRequest posted) s fun u =>
      Counted s u F.PCI_UNCOR_CNT_COUNT ∧
      Pends u Ev.PCI_AER_UNCOR ∧
      (posted = false → ∃ l : List Output, u.out = l ++ [Output.completion 1 false []])) ∧
  -- msixUnmask
  (∀ (s : State) (v : Fin 2048), s.live = true → s.pba v = true → s.pcie.msixOn = true → s.pcie.msixMask = false →
      s.hostOpen = true → s.pcie.sent.contains v.val = false →
    Runs (.msixUnmask v) s fun u =>
      u.pba v = false ∧
      u.bar4At (16 * v.val + 12) = 0 ∧
      u.out = s.out ++ [Output.msix (s.bar4Num (16 * v.val) 8) (s.bar4Num (16 * v.val + 8) 4)]) ∧
  -- msixUnmaskIdle
  (∀ (s : State) (v : Fin 2048), s.live = true → (s.pba v = false ∨ s.pcie.msixOn = false ∨ s.pcie.msixMask = true) →
    Runs (.msixUnmask v) s fun u =>
      u.bar4At (16 * v.val + 12) = 0 ∧
      u.out = s.out ∧
      Keeps [.bar4] s u)

/-- A received frame at an enabled port, a link change, a read of TS_ID and a write of PTP_OFS_NS. Rests on: R273,
R274, R275, R277, R278, R289. -/
def Obligations.Ethernet : Prop :=
  -- ethFrameReceived
  (∀ (s : State) (e : Fin 4) (bytes : List Byte) (a : Nat), s.live = true → s.on (F.ETH_CTRL_EN e) = true →
      fcsGood bytes = true → 64 ≤ bytes.length → bytes.length ≤ 9216 →
      (frameByte bytes 12 == 0x88 && frameByte bytes 13 == 0x08) = false → s.rxFull e = false →
      s.rd64 (0xf10008 + 0x10000 * e.val) + s.rd (F.ETH_RX_HEAD_HEAD e) % s.rxSlots e * 10240 = a →
    Runs (.ethFrameReceived e bytes) s fun u =>
      u.rd (F.ETH_RX_HEAD_HEAD e) = (s.rd (F.ETH_RX_HEAD_HEAD e) + 1) % 65536 ∧
      (s.on (F.ETH_CTRL_RX_HOST e) = false → inHbm a 10240 = true →
          ((stacksTouched a 10240).all fun c => s.stackServes c && !s.stackDead c) = true →
          Bytes.read u.hbm (a + 64) (bytes.length - 4) = frameBody bytes ∧
          leNat (Bytes.read u.hbm a 4) = bytes.length - 4 + 2 ^ 16) ∧
      Counted s u (F.ETH_RX_OK_CNT_COUNT e) ∧
      Pends u (Ev.ETH_RX e)) ∧
  -- ethFrameBad
  (∀ (s : State) (e : Fin 4) (bytes : List Byte), s.live = true → s.on (F.ETH_CTRL_EN e) = true →
      fcsGood bytes = false →
    Runs (.ethFrameReceived e bytes) s fun u =>
      Counted s u (F.ETH_RX_FCS_CNT_COUNT e) ∧
      u.rd (F.ETH_STAT_RX_ERR e) = 1 ∧
      u.hbm = s.hbm) ∧
  -- ethFrameDropped
  (∀ (s : State) (e : Fin 4) (bytes : List Byte), s.live = true → s.on (F.ETH_CTRL_EN e) = true →
      fcsGood bytes = true → (bytes.length < 64 ∨ 9216 < bytes.length ∨ (frameByte bytes 12 = 0x88 ∧
      frameByte bytes 13 = 0x08) ∨ s.rxFull e = true) →
    Runs (.ethFrameReceived e bytes) s fun u =>
      Counted s u (F.ETH_RX_DROP_CNT_COUNT e) ∧
      u.rd (F.ETH_STAT_RX_ERR e) = 1 ∧
      u.rd (F.ETH_RX_HEAD_HEAD e) = s.rd (F.ETH_RX_HEAD_HEAD e) ∧
      u.hbm = s.hbm) ∧
  -- ethFrameOff
  (∀ (s : State) (e : Fin 4) (bytes : List Byte), s.live = true → s.on (F.ETH_CTRL_EN e) = false →
    Runs (.ethFrameReceived e bytes) s fun u =>
      u = s) ∧
  -- ethLinkChange
  (∀ (s : State) (e : Fin 4) (up : Bool), s.live = true → s.on (F.ETH_STAT_LINK e) ≠ up → (up = true →
      s.on (F.ETH_CTRL_EN e) = true ∧ bit s.cstore.cullet.eth e = false) →
    Runs (.ethLinkChange e up) s fun u =>
      u.rd (F.ETH_STAT_LINK e) = b2n up ∧
      Pends u (Ev.ETH_LINK e)) ∧
  -- ethLinkChangeNone
  (∀ (s : State) (e : Fin 4) (up : Bool), s.live = true → (s.on (F.ETH_STAT_LINK e) = up ∨ (up = true ∧
      (s.on (F.ETH_CTRL_EN e) = false ∨ bit s.cstore.cullet.eth e = true))) →
    Runs (.ethLinkChange e up) s fun u =>
      u = s) ∧
  -- tsIdRead
  (∀ (s : State) (p : Path) (e : Fin 4), s.live = true → s.pathOpen p = true →
    Runs (.tsIdRead p e) s fun u =>
      Answers s u p (0xf1003c + 0x10000 * e.val) (s.reg (0xf1003c + 0x10000 * e.val)).toNat false ∧
      ((u.ethp e).stamps = (if (s.ethp e).tsRead = 7 then (s.ethp e).stamps.tail else (s.ethp e).stamps))) ∧
  -- ptpOfsNsWrite
  (∀ (s : State) (p : Path) (e : Fin 4) (v : BitVec 32), s.live = true → s.pathOpen p = true →
    Runs (.ptpOfsNsWrite p e v) s fun u =>
      (u.ethp e).ofsNext = some (s.rd (F.ETH_PTP_OFS_SEC_LO_SEC_LO e) + 2 ^ 32 * s.rd (F.ETH_PTP_OFS_SEC_HI_SEC_HI
          e), min v.toNat 999999999) ∧
      (u.ethp e).stamps = (s.ethp e).stamps ∧
      (u.reg (0xf10028 + 0x10000 * e.val)).toNat = v.toNat)

/-- Writes of MBX_TAIL and MBX_CPL_TAIL, the completion of an unlisted opcode, and a write of EVT_PEND. Rests on: R10,
R279, R280, R281, R283. -/
def Obligations.Mailbox : Prop :=
  -- mbxTailWrite
  (∀ (s : State) (p : Path) (v : BitVec 32), s.live = true → s.pathOpen p = true →
      (v.toNat % 128 + 128 - s.rd F.PCI_MBX_HEAD_HEAD) % 128 ≤ 64 →
    Runs (.mbxTailWrite p v) s fun u =>
      u.rd F.PCI_MBX_TAIL_TAIL = v.toNat % 128 ∧
      (s.on F.PCI_MBX_STAT_READY = true → u.rd F.PCI_MBX_HEAD_HEAD = v.toNat % 128) ∧
      (s.on F.PCI_MBX_STAT_READY = false → u.rd F.PCI_MBX_HEAD_HEAD = s.rd F.PCI_MBX_HEAD_HEAD ∧ u.mbx = s.mbx)) ∧
  -- mbxTailWriteOverflow
  (∀ (s : State) (p : Path) (v : BitVec 32), s.live = true → s.pathOpen p = true →
      64 < (v.toNat % 128 + 128 - s.rd F.PCI_MBX_HEAD_HEAD) % 128 →
    Runs (.mbxTailWrite p v) s fun u =>
      u.rd F.PCI_MBX_TAIL_TAIL = s.rd F.PCI_MBX_TAIL_TAIL ∧
      u.rd F.PCI_MBX_STAT_OVF = 1 ∧
      Pends u Ev.PCI_MBX_ERR ∧
      u.mbx = s.mbx) ∧
  -- mbxCplTailWrite
  (∀ (s : State) (p : Path) (v : BitVec 32), s.live = true → s.pathOpen p = true →
    Runs (.mbxCplTailWrite p v) s fun u =>
      u.rd F.PCI_MBX_CPL_TAIL_TAIL = v.toNat % 128 ∧
      (s.on F.PCI_MBX_STAT_READY = false → u.mbx = s.mbx)) ∧
  -- badOpcode
  (∀ (s : State) (c : MbxCmd) (cs : List MbxCmd), s.live = true → s.mbx.bad = c :: cs → s.mbxReady = true →
    Runs (.badOpcode) s fun u =>
      u.mbx.bad = cs ∧
      (c.seen → Completed s u c c.badCode 0) ∧
      (c.punty = false → Counted s u F.PCI_MBX_ERR_CNT_COUNT)) ∧
  -- badOpcodeWaits
  (∀ (s : State), s.live = true → (s.mbx.bad = [] ∨ s.mbxReady = false) →
    Runs (.badOpcode) s fun u =>
      u = s) ∧
  -- evtPendWrite
  (∀ (s : State) (p : Path) (g : Fin 24) (v same : BitVec 32), s.live = true → s.pathOpen p = true →
    Runs (.evtPendWrite p g v same) s fun u =>
      (∀ i, i < 32 → same.toNat.testBit i = true → Ev.named (32 * g + i) = true → Pends u (32 * g + i)) ∧
      (∀ i, i < 32 → (same.toNat.testBit i && Ev.named (32 * g + i)) = false → v.toNat.testBit i = true →
          u.rd (evtBit (32 * g + i)) = 0) ∧
      (∀ i, i < 32 → (same.toNat.testBit i && Ev.named (32 * g + i)) = false → v.toNat.testBit i = false →
          u.rd (evtBit (32 * g + i)) = s.rd (evtBit (32 * g + i))) ∧
      (∀ o, regPart o ≠ .evtRegs → regPart o ≠ .waitRegs → u.reg o = s.reg o))

/-- LOAD_IMAGE, STAGE_PARISON and COMMIT_PARISON start what they name, with the long lane held; their ends record what
the checks of R319 found, and leave target, source records and events as R320-R327 say. Rests on: R105, R280, R281,
R319, R320, R321, R322, R324, R325, R327, R331. -/
def Obligations.ImageLoads : Prop :=
  -- loadImage
  (∀ (s : State) (c : MbxCmd), s.live = true → s.longNext 0x01 = some c → c.reservedZero ([4, 5] ++
      (upTo 12).map fun k => 8 + k) = true → (c.byte 4 = 0 ∧ c.byte 5 < 5 ∧ s.lcState ≠ 3 ∨ c.byte 4 = 1 ∧
      inHbm (c.num 8 8) (c.num 16 4) = true) → s.lcState ≠ 4 → (s.ldr.hostWait = true ∨ s.loaderBusy = false ∧
      s.fab.releasing = none ∧ (∀ n, n < 16 → s.sectors n = [] ∨ s.run n = 0 ∨ s.run n = 5)) →
    Runs (.loadImage) s fun u =>
      u.ldr.load = some ⟨c.byte 4, c.byte 5, c.num 8 8, c.num 16 4, s.ldr.hostWait, false⟩ ∧
      u.ldr.hostWait = false ∧
      (∀ n, n < 16 → u.run n = 1 ∧ u.rd (F.GAF_STATUS_READY_A n) = 0 ∧ u.rd (F.GAF_STATUS_READY_B n) = 0) ∧
      u.rd F.CFG_STAT_LOAD_BUSY = 1 ∧
      u.mbx.longRun = some c ∧
      (s.ldr.hostWait = true → u.rd F.SYS_START_STAT_PHASE = 3)) ∧
  -- loadImageBadParam
  (∀ (s : State) (c : MbxCmd), s.live = true → s.longNext 0x01 = some c → c.seen → (c.reservedZero ([4, 5] ++
      (upTo 12).map fun k => 8 + k) = false ∨ 2 ≤ c.byte 4 ∨ c.byte 4 = 0 ∧ 5 ≤ c.byte 5 ∨ c.byte 4 = 1 ∧
      inHbm (c.num 8 8) (c.num 16 4) = false) →
    Runs (.loadImage) s fun u =>
      Completed s u c 2 0 ∧
      u.ldr = s.ldr ∧
      u.mbx.longRun = none) ∧
  -- fullLoadComplete
  (∀ (s : State) (upset : Option (BitVec 31)) (flash : Flash) (up : Upsets) (l : Load) (y : State), s.live = true →
      s.ldr.load = some l →
      ((s.upsets (upsetList up)).wakeHbm (if l.source = 1 then l.addr else 0) (s.loadBytes l flash) = y) →
      (y.hbmReady (if l.source = 1 then l.addr else 0) (s.loadBytes l flash) = true) → y.loadWaits l = false →
      (l.source = 2 → y.start.boot ≠ [] ∨ flashHasContainer flash (y.flashMode flash) l.addr = true) →
      y.regionLost = false → (l.start = true ∨ y.windowsOpen = false) →
    Runs (.fullLoadComplete upset flash up) s fun u =>
      (∀ x g, (y.meetFlash l flash).runLoad l (upset.map fun w => w.toNat) flash = (x, none, some g) →
          u.ldr.load = none ∧ u.ldr.full = (if l.source = 0 then some l.slot else none) ∧ u.ldr.wins = [] ∧
          u.ldr.parts = [] ∧ u.fab.releasing = some (u.newRelease (upTo 8) true) ∧
          u.lcs.image = Config.sha384 (g.bytes g.trailer 832) ∧ Pends u Ev.CFG_LOAD_DONE) ∧
      (∀ x g, (y.meetFlash l flash).runLoad l (upset.map fun w => w.toNat) flash = (x, none, some g) →
          l.start = true → u.rd F.SYS_START_STAT_PHASE = 4) ∧
      (∀ x f o, (y.meetFlash l flash).runLoad l (upset.map fun w => w.toNat) flash = (x, some f, o) →
          l.start = false → u.ldr.load = none ∧ Pends u Ev.CFG_LOAD_FAIL ∧ (∀ n, n < 16 → x.run n = 1 → u.run n = 0 ∧
          u.rd (F.GAF_STATUS_CAUSE n) = 6)) ∧
      (∀ x f o, (y.meetFlash l flash).runLoad l (upset.map fun w => w.toNat) flash = (x, some f, o) →
          l.start = true → x.ldr.golden = false → u.ldr.load = some ⟨0, 0, 0, (x.slotDesc 0).length, true, false⟩ ∧
          u.ldr.golden = true ∧ u.rd F.CFG_STAT_GOLDEN = 1 ∧ Pends u Ev.CFG_FALLBACK) ∧
      (∀ x f o, (y.meetFlash l flash).runLoad l (upset.map fun w => w.toNat) flash = (x, some f, o) →
          l.start = true → x.ldr.golden = true → u.rd F.SYS_START_STAT_PHASE = 7 ∧ Pends u Ev.SYS_SAFE)) ∧
  -- fullLoadDrains
  (∀ (s : State) (upset : Option (BitVec 31)) (flash : Flash) (up : Upsets) (l : Load) (y : State), s.live = true →
      s.ldr.load = some l →
      ((s.upsets (upsetList up)).wakeHbm (if l.source = 1 then l.addr else 0) (s.loadBytes l flash) = y) →
      (y.hbmReady (if l.source = 1 then l.addr else 0) (s.loadBytes l flash) = true) → y.loadWaits l = false →
      (l.source = 2 → y.start.boot ≠ [] ∨ flashHasContainer flash (y.flashMode flash) l.addr = true) →
      y.regionLost = false → l.start = false → y.windowsOpen = true →
    Runs (.fullLoadComplete upset flash up) s fun u =>
      u.ldr.load = some l ∧
      (∀ k, k < 8 → u.fab.draining.contains k = true) ∧
      (u.steps = s.steps ∧ u.routes = s.routes)) ∧
  -- fullLoadCompleteWaits
  (∀ (s : State) (upset : Option (BitVec 31)) (flash : Flash) (up : Upsets), s.live = true →
      s.ldr.load.all (fun l => s.loadWaits l) = true →
    Runs (.fullLoadComplete upset flash up) s fun u =>
      u.ldr = s.ldr ∧
      (u.steps = s.steps ∧ u.routes = s.routes ∧ u.hbm = s.hbm)) ∧
  -- hostWaitExpiry
  (∀ (s : State), s.live = true → s.ldr.hostWait = true → s.start.boot ≠ [] → fieldAt s.start.boot 8 1 = 1 →
      fieldAt s.start.boot 16 2 ≠ 0 →
    Runs (.hostWaitExpiry) s fun u =>
      Counted s u F.CFG_LOAD_ERR_CNT_COUNT ∧
      Pends u Ev.CFG_LOAD_FAIL ∧
      u.ldr.hostWait = false ∧
      (s.ldr.golden = false → u.ldr.load = some ⟨0, 0, 0, (s.slotDesc 0).length, true, false⟩ ∧
          u.rd F.CFG_STAT_GOLDEN = 1 ∧ Pends u Ev.CFG_FALLBACK) ∧
      (s.ldr.golden = true → u.rd F.SYS_START_STAT_PHASE = 7)) ∧
  -- hostWaitUnlimited
  (∀ (s : State), s.live = true → (s.ldr.hostWait = false ∨ s.start.boot = [] ∨ fieldAt s.start.boot 8 1 ≠ 1 ∨
      fieldAt s.start.boot 16 2 = 0) →
    Runs (.hostWaitExpiry) s fun u =>
      u = s) ∧
  -- stageParison
  (∀ (s : State) (c : MbxCmd), s.live = true → s.longNext 0x02 = some c →
      c.reservedZero (4 :: (upTo 12).map fun k => 8 + k) = true → c.byte 4 < 64 →
      inHbm (c.num 8 8) (c.num 16 4) = true → s.lcState ≠ 4 → s.parInUse (c.byte 4) = false →
      (s.ldr.job.map fun j => j.par) ≠ some (some (c.byte 4)) →
    Runs (.stageParison) s fun u =>
      u.ldr.stage = some (c.byte 4, c.num 8 8, c.num 16 4) ∧
      (u.par (c.byte 4)).state = 1 ∧
      (∀ i, i < 64 → i ≠ c.byte 4 → u.par i = s.par i) ∧
      u.rd F.CFG_STAT_LOAD_BUSY = 1 ∧
      u.mbx.longRun = some c) ∧
  -- stageParisonInUse
  (∀ (s : State) (c : MbxCmd), s.live = true → s.longNext 0x02 = some c → c.seen →
      c.reservedZero (4 :: (upTo 12).map fun k => 8 + k) = true → c.byte 4 < 64 →
      inHbm (c.num 8 8) (c.num 16 4) = true → s.lcState ≠ 4 → s.parInUse (c.byte 4) = true →
    Runs (.stageParison) s fun u =>
      Completed s u c 3 0 ∧
      u.ldr = s.ldr ∧
      u.cstore = s.cstore) ∧
  -- parisonStageComplete
  (∀ (s : State) (i a len : Nat) (g : Src) (up : Upsets), s.live = true → s.ldr.stage = some (i, a, len) →
      s.hbmReady a len = true → (s.upsets (upsetList up)).hbmSrc a len = g →
    Runs (.parisonStageComplete up) s fun u =>
      u.ldr.stage = none ∧
      ((s.upsets (upsetList up)).stageFail g = none → u.par i = s.staged g ∧
          Bytes.read u.cstore.data (extentAt (s.staged g).first) g.length = g.bytes 0 g.length ∧
          Pends u Ev.CFG_PAR_DONE ∧ (∀ c, s.mbx.longRun = some c → c.seen → Completed s u c 0 g.target)) ∧
      (∀ f, (s.upsets (upsetList up)).stageFail g = some f → (u.par i).state = 3 ∧ u.cstore.data = s.cstore.data ∧
          Pends u Ev.CFG_PAR_FAIL ∧ Counted s u F.CFG_LOAD_ERR_CNT_COUNT ∧ (∀ c, s.mbx.longRun = some c → c.seen →
          Completed s u c 6 f.cause))) ∧
  -- parisonStageWaits
  (∀ (s : State) (i a len : Nat) (up : Upsets), s.live = true → s.ldr.stage = some (i, a, len) →
      s.hbmReady a len = false →
    Runs (.parisonStageComplete up) s fun u =>
      u.ldr = s.ldr ∧
      u.cstore = s.cstore) ∧
  -- commitParison
  (∀ (s : State) (c : MbxCmd) (p : Par), s.live = true → s.longNext 0x03 = some c → c.reservedZero [4, 5, 6] = true →
      (c.byte 4 < 64 ∧ c.byte 5 < 16 ∧ c.byte 6 < 2) → s.lcState ≠ 4 → s.par (c.byte 4) = p → p.state = 2 →
      c.byte 5 = p.target → (c.byte 6 = if p.kind = 1 ∧ p.window < 2 then p.window else 0) → s.loaderBusy = false →
      s.commitOk p = true →
    Runs (.commitParison) s fun u =>
      u.ldr.job = some ⟨some (c.byte 4), p.kind, p.target, p.window, false⟩ ∧
      u.rd F.CFG_STAT_LOAD_BUSY = 1 ∧
      u.mbx.longRun = some c ∧
      (p.kind = 2 → s.winLive p.target ≠ [] → u.fab.draining.contains p.target = true) ∧
      (p.kind = 2 → s.winLive p.target = [] → bit (u.rd F.CFG_FAB_STAT_ISOLATED) p.target = true ∧
          bit (u.rd F.CFG_FAB_STAT_RELEASED) p.target = false) ∧
      (p.kind ≠ 2 → p.window = 2 → u.run p.target = 1) ∧
      (p.kind ≠ 2 → p.window ≠ 2 → u.rd (readyFld p.target (p.window == 1)) = 0 ∧ u.run p.target = s.run p.target)) ∧
  -- commitParisonNotStaged
  (∀ (s : State) (c : MbxCmd), s.live = true → s.longNext 0x03 = some c → c.seen → c.reservedZero [4, 5, 6] = true →
      (c.byte 4 < 64 ∧ c.byte 5 < 16 ∧ c.byte 6 < 2) → s.lcState ≠ 4 → (s.par (c.byte 4)).state ≠ 2 →
    Runs (.commitParison) s fun u =>
      Completed s u c 3 0 ∧
      u.ldr = s.ldr) ∧
  -- parisonCommitComplete
  (∀ (s : State) (upset : Option (BitVec 31)) (j : Job) (g : Src) (x : State), s.live = true → s.ldr.job = some j →
      (j.kind = 1 → s.awake j.target = true) → (j.kind = 2 → s.fab.releasing = none ∧
      s.fab.draining.contains j.target = false) → s.ldr.reloads = [] → s.jobSrc j (upset.map fun w => w.toNat) = g →
      (s.setLdr { s.ldr with job := none }).showBusy = x →
    Runs (.parisonCommitComplete upset) s fun u =>
      (∀ y f, x.writeJob j g = (y, some f) → u.ldr.job = none ∧ Pends u Ev.CFG_PAR_FAIL ∧ (j.kind = 1 →
          j.window = 2 → y.run j.target = 1 → u.run j.target = 0 ∧ u.rd (F.GAF_STATUS_CAUSE j.target) = 6)) ∧
      (∀ y, x.writeJob j g = (y, none) → u.ldr.job = none ∧
          Pends u (if j.auto then Ev.CFG_RELOAD else Ev.CFG_PAR_DONE)) ∧
      (∀ y, x.writeJob j g = (y, none) → j.kind = 2 → u.partSrc j.target = j.par ∧
          u.fab.releasing = some (u.newRelease [j.target] false)) ∧
      (∀ y, x.writeJob j g = (y, none) → j.kind ≠ 2 → j.window = 2 → u.winSrc j.target 2 = j.par ∧
          u.run j.target = 2) ∧
      (∀ y, x.writeJob j g = (y, none) → j.kind ≠ 2 → j.window ≠ 2 → u.winSrc j.target j.window = j.par ∧
          u.rd (readyFld j.target (j.window == 1)) = 1))

/-- REGION_START, REGION_STOP and REGION_RESTART on a region with its sectors awake, or asleep, between cycles, or
within one; SHUTDOWN_ORDERLY and its end. Rests on: R105, R107, R281, R300, R345, R364, R392, R413. -/
def Obligations.RegionCommands : Prop :=
  -- regionStart
  (∀ (s : State) (c : MbxCmd), s.live = true → s.shortNext 0x10 = some c → c.seen → c.reservedZero [4] = true →
      c.byte 4 < 16 → s.regionHeld (c.byte 4) = false → s.run (c.byte 4) = 0 → s.sectors (c.byte 4) ≠ [] →
      s.unloadable (c.byte 4) = false → s.awake (c.byte 4) = true →
    Runs (.regionStart) s fun u =>
      u.run (c.byte 4) = 2 ∧
      u.pcOf (c.byte 4) = s.rd (F.GAF_CTRL_START_PC (c.byte 4)) ∧
      Completed s u c 0 0 ∧
      (u.gaf (c.byte 4)).waking = none ∧
      (s.lostDm (c.byte 4) = false → u.dm = s.dm ∧ u.cycles (c.byte 4) = s.cycles (c.byte 4))) ∧
  -- regionStartWakes
  (∀ (s : State) (c : MbxCmd), s.live = true → s.shortNext 0x10 = some c → c.reservedZero [4] = true →
      c.byte 4 < 16 → s.regionHeld (c.byte 4) = false → s.run (c.byte 4) = 0 → s.unloadable (c.byte 4) = false →
      s.awake (c.byte 4) = false →
    Runs (.regionStart) s fun u =>
      (u.gaf (c.byte 4)).waking = some (false, s.lostDm (c.byte 4)) ∧
      u.run (c.byte 4) = 0 ∧
      u.mbx.shortRun = some c ∧
      (∀ x ∈ s.sectors (c.byte 4), s.rd (F.SEC_STATUS_PSTATE x) ≠ 0 → (s.dom x).down = none →
          s.on F.FLT_STAT_F0 = false → (u.dom x).waking = true)) ∧
  -- regionStartBadState
  (∀ (s : State) (c : MbxCmd), s.live = true → s.shortNext 0x10 = some c → c.seen → c.reservedZero [4] = true →
      c.byte 4 < 16 → s.regionHeld (c.byte 4) = false → s.run (c.byte 4) ≠ 0 →
    Runs (.regionStart) s fun u =>
      Completed s u c 3 0 ∧
      u.gafs = s.gafs ∧
      u.run (c.byte 4) = s.run (c.byte 4)) ∧
  -- regionStop
  (∀ (s : State) (c : MbxCmd), s.live = true → s.shortNext 0x11 = some c → c.seen → c.reservedZero [4] = true →
      c.byte 4 < 16 → s.regionHeld (c.byte 4) = false → (2 ≤ s.run (c.byte 4) ∧ s.run (c.byte 4) ≤ 4) →
      (s.gaf (c.byte 4)).phase = .none →
    Runs (.regionStop) s fun u =>
      u.run (c.byte 4) = 0 ∧
      u.rd (F.GAF_STATUS_CAUSE (c.byte 4)) = 2 ∧
      (u.gaf (c.byte 4)).queue = [] ∧
      Completed s u c 0 0 ∧
      Pends u (Ev.GAF (c.byte 4) 7)) ∧
  -- regionStopInCycle
  (∀ (s : State) (c : MbxCmd), s.live = true → s.shortNext 0x11 = some c → c.reservedZero [4] = true →
      c.byte 4 < 16 → s.regionHeld (c.byte 4) = false → (2 ≤ s.run (c.byte 4) ∧ s.run (c.byte 4) ≤ 4) →
      (s.gaf (c.byte 4)).phase ≠ .none →
    Runs (.regionStop) s fun u =>
      (u.gaf (c.byte 4)).stop = some 2 ∧
      (u.gaf (c.byte 4)).next = none ∧
      u.run (c.byte 4) = s.run (c.byte 4) ∧
      u.mbx.shortRun = some c) ∧
  -- regionRestart
  (∀ (s : State) (c : MbxCmd), s.live = true → s.shortNext 0x12 = some c → c.seen → c.reservedZero [4] = true →
      c.byte 4 < 16 → s.regionHeld (c.byte 4) = false → s.sectors (c.byte 4) ≠ [] → s.unloadable (c.byte 4) = false →
      (s.gaf (c.byte 4)).phase = .none → s.awake (c.byte 4) = true →
    Runs (.regionRestart) s fun u =>
      u.run (c.byte 4) = 2 ∧
      u.pcOf (c.byte 4) = s.rd (F.GAF_CTRL_START_PC (c.byte 4)) ∧
      ((u.gaf (c.byte 4)).queue = [] ∧ (u.gaf (c.byte 4)).loops = []) ∧
      u.rd (F.GAF_TRIG_DISC_CNT_COUNT (c.byte 4)) = min 0xffffffff (s.rd (F.GAF_TRIG_DISC_CNT_COUNT (c.byte 4)) +
          (s.gaf (c.byte 4)).queue.length) ∧
      u.cycles (c.byte 4) = 0 ∧
      (u.gaf (c.byte 4)).dmClear = true ∧
      Completed s u c 0 0) ∧
  -- regionRestartInCycle
  (∀ (s : State) (c : MbxCmd), s.live = true → s.shortNext 0x12 = some c → c.reservedZero [4] = true →
      c.byte 4 < 16 → s.regionHeld (c.byte 4) = false → s.sectors (c.byte 4) ≠ [] → s.unloadable (c.byte 4) = false →
      (s.gaf (c.byte 4)).phase ≠ .none →
    Runs (.regionRestart) s fun u =>
      (u.gaf (c.byte 4)).restart = true ∧
      (u.gaf (c.byte 4)).next = none ∧
      u.regs = s.regs ∧
      u.mbx.shortRun = some c) ∧
  -- shutdownOrderly
  (∀ (s : State) (c : MbxCmd), s.live = true → s.longNext 0x31 = some c → c.reservedZero [] = true →
      s.loaderBusy = false → s.fab.releasing = none → s.bst.slice = none →
    Runs (.shutdownOrderly) s fun u =>
      u.bst.shutting = true ∧
      u.rd F.BST_STAT_BUSY = 1 ∧
      u.mbx.longRun = some c ∧
      u.pwr.testUse = upTo 16 ∧
      (∀ n, n < 16 → (u.gaf n).waking = none) ∧
      (∀ n, n < 16 → 2 ≤ s.run n → s.run n ≤ 4 → if (s.gaf n).phase = .none then u.run n = 0 ∧
          u.rd (F.GAF_STATUS_CAUSE n) = 2 else (u.gaf n).stop = some 2)) ∧
  -- shutdownOrderlyBusy
  (∀ (s : State) (c : MbxCmd), s.live = true → s.longNext 0x31 = some c → c.seen → c.reservedZero [] = true →
      s.loaderBusy = true →
    Runs (.shutdownOrderly) s fun u =>
      Completed s u c 4 0 ∧
      u.bst = s.bst ∧
      u.gafs = s.gafs) ∧
  -- shutdownOrderlyComplete
  (∀ (s : State) (found : List Found) (c : MbxCmd), s.live = true → s.mbx.longRun = some c → c.seen →
      c.byte 0 = 0x31 → (∀ n, n < 16 → s.run n = 0 ∨ s.run n = 5) → (s.on F.STO_STAT_READY = false ∨
      s.sto.queue = []) → (∀ k, k < 16 → s.rd (F.SEC_STATUS_PSTATE k) = 0 ∨ s.on (F.SEC_STATUS_UNUSABLE k) = true) →
    Runs (.shutdownOrderlyComplete found) s fun u =>
      (∃ r, u.shutRec = some r ∧ r.time = s.now ∧
          r.clean = !(found.any fun x => s.endStore.captureSave.newFailure x) ∧ Completed s u c 0 (b2n r.clean)) ∧
      u.bst.shutting = false ∧
      u.rd F.BST_STAT_BUSY = 0 ∧
      Pends u Ev.BST_DONE ∧
      u.rd F.CFG_STAT_IMAGE_OK = 0 ∧
      u.rd F.CFG_FAB_STAT_RELEASED = 0 ∧
      (u.ldr.full = none ∧ u.ldr.wins = [] ∧ u.ldr.parts = []) ∧
      (∀ n, n < 16 → u.run n = 0))

/-- SET_PERF_LEVEL and the steps it leads to, the settling of the supply and its failure, PMB_ALERT, the PLLs' locks,
and APPLY. Rests on: R40, R281, R353, R354, R355, R356, R357, R359, R360, R375, R377, R379. -/
def Obligations.PerfLevels : Prop :=
  -- setPerfLevel
  (∀ (s : State) (c : MbxCmd) (old : Nat), s.live = true → s.shortNext 0x20 = some c → c.reservedZero [4] = true →
      c.byte 4 < 4 → s.rd F.PWR_STAT_PERF = old → c.byte 4 ≠ old → (s.allQuiet = true ∨
      relocks old (c.byte 4) = false) →
    Runs (.setPerfLevel) s fun u =>
      u.rd F.PWR_STAT_PERF_BUSY = 1 ∧
      u.rd F.PWR_STAT_PERF = old ∧
      (u.pwr.perf = some ⟨c.byte 4, old, if c.byte 4 < old then .raising else .window, []⟩) ∧
      (u.out = if c.byte 4 < old then s.out ++
          [Output.pmbus (s.rd F.PWR_AVS_CFG_ADDR) (s.on F.PWR_AVS_CFG_PEC) (s.on F.PWR_AVS_CFG_SPEED) 0x21
          (Config.voutWord (s.targetMv (c.byte 4))).toNat] else s.out) ∧
      (u.pwr.target = if c.byte 4 < old then s.targetMv (c.byte 4) else s.pwr.target) ∧
      u.mbx.shortRun = some c) ∧
  -- setPerfLevelSame
  (∀ (s : State) (c : MbxCmd), s.live = true → s.shortNext 0x20 = some c → c.seen → c.reservedZero [4] = true →
      c.byte 4 < 4 → c.byte 4 = s.rd F.PWR_STAT_PERF →
    Runs (.setPerfLevel) s fun u =>
      Completed s u c 0 (s.rd F.PWR_STAT_PERF) ∧
      u.pwr = s.pwr ∧
      u.rd F.PWR_STAT_PERF = s.rd F.PWR_STAT_PERF) ∧
  -- perfSwitchWindow
  (∀ (s : State) (c : PerfChange), s.live = true → s.pwr.perf = some c → c.phase = .window → c.target < 4 → (∀ n,
      n < 16 → (s.gaf n).phase = .none) →
    Runs (.perfSwitchWindow) s fun u =>
      u.rd F.PWR_STAT_PERF = c.target ∧
      (∀ k, k < 16 → (u.reg (0xa00010 + 0x10000 * k)).toNat = 2 ^ 12 * (assistCodes c.target).1 + 2 ^ 8 *
          (assistCodes c.target).2.1 + 2 ^ 4 * (assistCodes c.target).2.2.1 + (assistCodes c.target).2.2.2) ∧
      (relocks c.old c.target = true → u.pwr.perf = some { c with phase := .relock } ∧
          bit (u.rd F.CLK_STAT_LOCKED) 0 = false) ∧
      (relocks c.old c.target = false → c.target < c.old → u.pwr.perf = none ∧ u.rd F.PWR_STAT_PERF_BUSY = 0 ∧
          Pends u Ev.PWR_PERF_DONE) ∧
      (relocks c.old c.target = false → c.old ≤ c.target → (∃ y, u.pwr.perf = some y ∧ y.target = c.target ∧
          y.phase = .lowering) ∧ u.pwr.target = s.targetMv c.target ∧ ∃ l : List Output, u.out = l ++
          [Output.pmbus (s.rd F.PWR_AVS_CFG_ADDR) (s.on F.PWR_AVS_CFG_PEC) (s.on F.PWR_AVS_CFG_SPEED) 0x21
          (Config.voutWord (s.targetMv c.target)).toNat])) ∧
  -- perfWindowWaits
  (∀ (s : State) (c : PerfChange), s.live = true → s.pwr.perf = some c → (c.phase ≠ .window ∨
      (s.gaf 3).phase ≠ .none) →
    Runs (.perfSwitchWindow) s fun u =>
      u = s) ∧
  -- supplySettled
  (∀ (s : State) (mv : BitVec 16) (c : PerfChange), s.live = true → s.settled mv.toNat = true → s.pwr.perf = some c →
      c.phase = .raising →
    Runs (.supplySettled (some mv)) s fun u =>
      u.rd F.PWR_VOUT_MV = mv.toNat ∧
      u.pwr.perf = some { c with phase := .window } ∧
      u.out = s.out ++ [Output.pmbus (s.rd F.PWR_AVS_CFG_ADDR) (s.on F.PWR_AVS_CFG_PEC) (s.on F.PWR_AVS_CFG_SPEED)
          0x8b mv.toNat]) ∧
  -- supplySettledDone
  (∀ (s : State) (mv : BitVec 16) (c : PerfChange), s.live = true → s.settled mv.toNat = true → s.pwr.perf = some c →
      c.phase = .lowering →
    Runs (.supplySettled (some mv)) s fun u =>
      u.rd F.PWR_VOUT_MV = mv.toNat ∧
      u.pwr.perf = none ∧
      u.rd F.PWR_STAT_PERF_BUSY = 0 ∧
      Pends u Ev.PWR_PERF_DONE ∧
      (∀ y, s.mbx.shortRun = some y → y.seen → Completed s u y 0 (s.rd F.PWR_STAT_PERF))) ∧
  -- supplyUnsettled
  (∀ (s : State) (mv : BitVec 16), s.live = true → s.settled mv.toNat = false →
    Runs (.supplySettled (some mv)) s fun u =>
      u.rd F.PWR_VOUT_MV = mv.toNat ∧
      u.pwr = s.pwr ∧
      u.out = s.out ++ [Output.pmbus (s.rd F.PWR_AVS_CFG_ADDR) (s.on F.PWR_AVS_CFG_PEC) (s.on F.PWR_AVS_CFG_SPEED)
          0x8b mv.toNat]) ∧
  -- supplySettleTimeout
  (∀ (s : State) (again : Bool) (c : PerfChange), s.live = true → s.pwr.perf = some c → (c.phase = .raising ∨
      c.phase = .lowering) → s.settled (s.rd F.PWR_VOUT_MV) = false →
    Runs (.supplySettleTimeout again) s fun u =>
      u.pwr.perf = none ∧
      (u.rd F.PWR_STAT_PERF_BUSY = 0 ∧ u.rd F.PWR_STAT_PERF_ERR = 1 ∧ u.rd F.PWR_STAT_PMBUS_ERR = 1) ∧
      u.pwr.target = s.targetMv c.old ∧
      Output.pmbus (s.rd F.PWR_AVS_CFG_ADDR) (s.on F.PWR_AVS_CFG_PEC) (s.on F.PWR_AVS_CFG_SPEED) 0x21
          (Config.voutWord (s.targetMv c.old)).toNat ∈ u.out ∧
      u.rd F.PWR_PMBUS_ERR_CNT_COUNT = min 0xffffffff (s.rd F.PWR_PMBUS_ERR_CNT_COUNT + 1 + b2n (again && decide
          (c.phase = .lowering))) ∧
      u.rd F.PWR_STAT_PERF = s.rd F.PWR_STAT_PERF ∧
      (Pends u Ev.PWR_PERF_FAIL ∧ Pends u Ev.PWR_PMBUS_ERR) ∧
      (∀ y, s.mbx.shortRun = some y → y.seen → Completed s u y 6 (s.rd F.PWR_STAT_PERF))) ∧
  -- supplyTimeoutOther
  (∀ (s : State) (again : Bool), s.live = true → s.settled (s.rd F.PWR_VOUT_MV) = false →
      s.pwr.perf.all (fun c => decide (c.phase ≠ .raising) && decide (c.phase ≠ .lowering)) = true →
    Runs (.supplySettleTimeout again) s fun u =>
      u.pwr = s.pwr ∧
      Counted s u F.PWR_PMBUS_ERR_CNT_COUNT ∧
      u.rd F.PWR_STAT_PMBUS_ERR = 1 ∧
      Pends u Ev.PWR_PMBUS_ERR) ∧
  -- supplyTimeoutSettled
  (∀ (s : State) (again : Bool), s.live = true → s.settled (s.rd F.PWR_VOUT_MV) = true →
    Runs (.supplySettleTimeout again) s fun u =>
      u = s) ∧
  -- supplyReadFails
  (∀ (s : State) (c : PerfChange), s.live = true → s.pwr.perf = some c → (c.phase = .raising ∨ c.phase = .lowering) →
    Runs (.supplySettled none) s fun u =>
      u.pwr.perf = none ∧
      (u.rd F.PWR_STAT_PERF_BUSY = 0 ∧ u.rd F.PWR_STAT_PERF_ERR = 1 ∧ u.rd F.PWR_STAT_PMBUS_ERR = 1) ∧
      u.pwr.target = s.targetMv c.old ∧
      Output.pmbus (s.rd F.PWR_AVS_CFG_ADDR) (s.on F.PWR_AVS_CFG_PEC) (s.on F.PWR_AVS_CFG_SPEED) 0x21
          (Config.voutWord (s.targetMv c.old)).toNat ∈ u.out ∧
      Counted s u F.PWR_PMBUS_ERR_CNT_COUNT ∧
      u.rd F.PWR_VOUT_MV = s.rd F.PWR_VOUT_MV ∧
      u.rd F.PWR_STAT_PERF = s.rd F.PWR_STAT_PERF ∧
      (Pends u Ev.PWR_PERF_FAIL ∧ Pends u Ev.PWR_PMBUS_ERR)) ∧
  -- supplyReadFailsOther
  (∀ (s : State), s.live = true →
      s.pwr.perf.all (fun c => decide (c.phase ≠ .raising) && decide (c.phase ≠ .lowering)) = true →
    Runs (.supplySettled none) s fun u =>
      u.pwr = s.pwr ∧
      Counted s u F.PWR_PMBUS_ERR_CNT_COUNT ∧
      u.rd F.PWR_STAT_PMBUS_ERR = 1 ∧
      Pends u Ev.PWR_PMBUS_ERR) ∧
  -- pmbAlert
  (∀ (s : State), s.live = true →
    Runs (.pmbAlert) s fun u =>
      (∃ l : List Output, u.out = s.out ++
          (Output.pmbus (s.rd F.PWR_AVS_CFG_ADDR) (s.on F.PWR_AVS_CFG_PEC) (s.on F.PWR_AVS_CFG_SPEED) 0x79 0 ::
          Output.pmbus (s.rd F.PWR_AVS_CFG_ADDR) (s.on F.PWR_AVS_CFG_PEC) (s.on F.PWR_AVS_CFG_SPEED) 0x03 0 :: l)) ∧
      Counted s u F.PWR_PMBUS_ERR_CNT_COUNT ∧
      u.rd F.PWR_STAT_PMBUS_ERR = 1 ∧
      Pends u Ev.PWR_PMBUS_ERR) ∧
  -- pllLock
  (∀ (s : State) (k : Fin 8), s.live = true → bit (s.rd F.CLK_STAT_LOCKED) k = false →
    Runs (.pllLock k) s fun u =>
      bit (u.rd F.CLK_STAT_LOCKED) k = true ∧
      (∀ j, j < 8 → j ≠ k.val → bit (u.rd F.CLK_STAT_LOCKED) j = bit (s.rd F.CLK_STAT_LOCKED) j) ∧
      Pends u (Ev.CLK_LOCK k) ∧
      (k = 5 → u.rd (F.CLK_PLL_CFG_APPLY 5) = 0) ∧
      (k = 0 → ∀ c, s.pwr.perf = some c → c.phase = .relock → if c.target < c.old then u.pwr.perf = none ∧
          Pends u Ev.PWR_PERF_DONE else ∃ y, u.pwr.perf = some y ∧ y.target = c.target ∧ y.phase = .lowering)) ∧
  -- pllLockedAlready
  (∀ (s : State) (k : Fin 8), s.live = true → bit (s.rd F.CLK_STAT_LOCKED) k = true →
    Runs (.pllLock k) s fun u =>
      u = s) ∧
  -- pllUnlock
  (∀ (s : State) (k : Fin 8), s.live = true → bit (s.rd F.CLK_STAT_LOCKED) k = true →
    Runs (.pllUnlock k) s fun u =>
      (bit (u.rd F.CLK_STAT_LOCKED) k = false ∧ bit (u.rd F.CLK_STAT_UNLOCK) k = true) ∧
      (∀ j, j < 8 → j ≠ k.val → bit (u.rd F.CLK_STAT_LOCKED) j = bit (s.rd F.CLK_STAT_LOCKED) j) ∧
      Counted s u F.CLK_UNLOCK_CNT_COUNT ∧
      Pends u (Ev.CLK_UNLOCK k) ∧
      (k = 1 ∨ k = 4 ∨ k = 7 → s.safe = false → u.flt.f1 = true) ∧
      (k = 0 → s.flt.f1 = false → s.safe = false → ∀ n, n < 16 → 2 ≤ s.run n → s.run n ≤ 4 →
          (s.gaf n).phase = .none → (s.gaf n).fence = none → u.run n = 5) ∧
      (k = 2 ∨ k = 3 ∨ k = 5 ∨ k = 6 → Counted s u F.FLT_F3_CNT_COUNT)) ∧
  -- pllUnlockedAlready
  (∀ (s : State) (k : Fin 8), s.live = true → bit (s.rd F.CLK_STAT_LOCKED) k = false →
    Runs (.pllUnlock k) s fun u =>
      u = s) ∧
  -- apply
  (∀ (s : State) (p : Path) (v : BitVec 32) (x : State), s.live = true → s.pathOpen p = true →
      s.stored p 0x201a0 (v ||| 0x80000000).toNat = x →
    Runs (.apply p v) s fun u =>
      (pllOk (x.rd (F.CLK_PLL_CFG_N 5)) (x.rd (F.CLK_PLL_FRAC 5)) (x.rd (F.CLK_PLL_DEN 5)) ((upTo 4).map fun j =>
          slice (x.reg (0x201b0 + 4 * j)).toNat 7 0) = true → bit (u.rd F.CLK_STAT_LOCKED) 5 = false ∧
          u.pwr.pll5 = pll5Offs.map fun o => x.reg o &&& 0x7fffffff) ∧
      (pllOk (x.rd (F.CLK_PLL_CFG_N 5)) (x.rd (F.CLK_PLL_FRAC 5)) (x.rd (F.CLK_PLL_DEN 5)) ((upTo 4).map fun j =>
          slice (x.reg (0x201b0 + 4 * j)).toNat 7 0) = false → bit (u.rd F.CLK_STAT_CFG_ERR) 5 = true ∧
          u.rd (F.CLK_PLL_CFG_APPLY 5) = 0 ∧ Pends u Ev.CLK_CFG_ERR))

/-- A commit is refused or reserved, queued and begun; its lines join it whole or lost; it finishes with its status; a
read delivers intact tiles and zeros for failed ones. Rests on: R145, R281, R292, R293, R297, R298, R299, R300,
R301, R303. -/
def Obligations.Store : Prop :=
  -- storeCommit
  (∀ (s : State) (cmd : MbxCmd) (r : RingDesc) (t need : Nat), s.live = true → s.longNext 0x60 = some cmd →
      cmd.seen → cmd.reservedZero [4, 8, 9, 10, 11, 12, 13, 16, 17, 18, 19] = true → cmd.byte 4 < 4 →
      s.on F.STO_STAT_READY = true → s.sto.queue.length < 16 → s.on (F.HBM_RING_BASE_HI_EN 0 (cmd.byte 4)) = true →
      s.ringDesc (cmd.byte 4) = r → 0 < cmd.num 16 4 → cmd.num 16 4 ≤ 2 ^ r.log2n →
      (s.rd64 (0xe00214 + 0x20 * cmd.byte 4) : Int) - (2 ^ r.log2n : Nat) + 2 ≤ (cmd.num 8 6 : Int) →
      tilesNeeded (cmd.num 16 4) r.stride = need → need ≤ s.rd64 0xb0028 → s.rd64 0xb0030 = t →
    Runs (.storeCommit) s fun u =>
      Completed s u cmd 0 t ∧
      u.rd64 0xb0030 = (t + need) % 2 ^ 64 ∧
      u.sto.queue.length = s.sto.queue.length + 1 ∧
      (∃ d, u.sto.queue.getLast? = some d ∧ d.first = t ∧ d.tiles = need ∧ d.ring = cmd.byte 4 ∧
          d.line = cmd.num 8 6 ∧ d.count = cmd.num 16 4 ∧ d.stride = r.stride ∧ d.cseq = s.sto.cseq ∧
          d.time = s.now ∧ d.taken = 0) ∧
      (s.sto.queue = [] → (u.metaOf t).length = 32)) ∧
  -- storeCommitNoSpace
  (∀ (s : State) (cmd : MbxCmd) (r : RingDesc), s.live = true → s.longNext 0x60 = some cmd → cmd.seen →
      cmd.reservedZero [4, 8, 9, 10, 11, 12, 13, 16, 17, 18, 19] = true → cmd.byte 4 < 4 →
      s.on F.STO_STAT_READY = true → s.sto.queue.length < 16 → s.on (F.HBM_RING_BASE_HI_EN 0 (cmd.byte 4)) = true →
      s.ringDesc (cmd.byte 4) = r → 0 < cmd.num 16 4 → cmd.num 16 4 ≤ 2 ^ r.log2n →
      (s.rd64 (0xe00214 + 0x20 * cmd.byte 4) : Int) - (2 ^ r.log2n : Nat) + 2 ≤ (cmd.num 8 6 : Int) →
      s.rd64 0xb0028 < tilesNeeded (cmd.num 16 4) r.stride →
    Runs (.storeCommit) s fun u =>
      Completed s u cmd 7 0 ∧
      u.sto = s.sto ∧
      u.nand = s.nand) ∧
  -- stoLineReady
  (∀ (s : State) (c : Commit) (cs : List Commit) (up : Upsets), s.live = true → s.sto.queue = c :: cs →
      s.on F.STO_STAT_READY = true → c.taken < c.count → s.ringHas c.ring (c.line + c.taken) = true →
      s.hbmReady (s.lineRanges c (c.line + c.taken)).1.1 (s.lineRanges c (c.line + c.taken)).1.2 = true →
      s.hbmReady (s.lineRanges c (c.line + c.taken)).2.1 (s.lineRanges c (c.line + c.taken)).2.2 = true →
    Runs (.stoLineReady up) s fun u =>
      (∃ d, u.sto.queue = d :: cs ∧ d.taken = c.taken + 1 ∧ d.first = c.first ∧
          d.lost = (c.lost || ((s.upsets (upsetList up)).readLine c (c.line + c.taken)).2.isNone) ∧
          d.buf.length < 4096 ∧
          d.buf.length + 4096 * d.programmed = c.buf.length + 64 + 256 * c.stride + 4096 * c.programmed) ∧
      (((s.upsets (upsetList up)).readLine c (c.line + c.taken)).2 = none → Counted s u F.STO_LOST_CNT_COUNT ∧
          u.rd F.STO_STAT_LOST = 1) ∧
      (((s.upsets (upsetList up)).readLine c (c.line + c.taken)).2.isSome = true →
          u.rd F.STO_LOST_CNT_COUNT = s.rd F.STO_LOST_CNT_COUNT)) ∧
  -- stoLineHeld
  (∀ (s : State) (c : Commit) (cs : List Commit) (up : Upsets), s.live = true → s.sto.queue = c :: cs →
      s.on F.STO_STAT_READY = true → c.taken < c.count → s.ringHas c.ring (c.line + c.taken) = true →
      (s.hbmReady (s.lineRanges c (c.line + c.taken)).1.1 (s.lineRanges c (c.line + c.taken)).1.2 = false ∨
      s.hbmReady (s.lineRanges c (c.line + c.taken)).2.1 (s.lineRanges c (c.line + c.taken)).2.2 = false) →
    Runs (.stoLineReady up) s fun u =>
      u.sto = s.sto ∧
      u.nand = s.nand ∧
      u.hbm = s.hbm ∧
      u.rd F.STO_LOST_CNT_COUNT = s.rd F.STO_LOST_CNT_COUNT) ∧
  -- stoLineWaits
  (∀ (s : State) (c : Commit) (cs : List Commit) (up : Upsets), s.live = true → s.sto.queue = c :: cs →
      (s.on F.STO_STAT_READY = false ∨ c.count ≤ c.taken ∨ s.ringHas c.ring (c.line + c.taken) = false) →
    Runs (.stoLineReady up) s fun u =>
      u = s) ∧
  -- lineWaitExpiry
  (∀ (s : State) (c : Commit) (cs : List Commit), s.live = true → s.sto.queue = c :: cs →
      s.on F.STO_STAT_READY = true → c.taken < c.count → s.ringHas c.ring (c.line + c.taken) = false →
    Runs (.lineWaitExpiry) s fun u =>
      (∃ d, u.sto.queue = d :: cs ∧ d.taken = c.taken + 1 ∧ d.first = c.first ∧ d.lost = true ∧ d.buf.length < 4096 ∧
          d.buf.length + 4096 * d.programmed = c.buf.length + 64 + 256 * c.stride + 4096 * c.programmed) ∧
      Counted s u F.STO_LOST_CNT_COUNT ∧
      u.rd F.STO_STAT_LOST = 1) ∧
  -- stoCommitFinish
  (∀ (s : State) (c : Commit) (cs : List Commit), s.live = true → s.sto.queue = c :: cs →
      s.on F.STO_STAT_READY = true → c.count ≤ c.taken →
    Runs (.stoCommitFinish) s fun u =>
      Pends u Ev.STO_COMMIT_DONE ∧
      (c.lost = true → Pends u Ev.STO_COMMIT_ERR) ∧
      (c.buf ≠ [] → cs = [] → s.storeEnds = false → (u.metaOf (c.first + c.programmed)).length = 32) ∧
      (s.storeEnds = false → u.sto.queue.length = cs.length ∧ u.rd64 0xb0060 = c.first % 2 ^ 64 ∧
          u.rd F.STO_LAST_STATUS_STATUS = b2n c.lost ∧ Counted s u F.STO_COMMIT_CNT_COUNT ∧
          u.nand.done = some c.first) ∧
      (s.storeEnds = true → u.sto.queue = [])) ∧
  -- storeRead
  (∀ (s : State) (cmd : MbxCmd), s.live = true → s.longNext 0x61 = some cmd →
      cmd.reservedZero ((upTo 20).map fun i => 8 + i) = true → s.on F.STO_STAT_READY = true → 0 < cmd.readArgs.2.2 →
      s.rd64 0xb0038 ≤ cmd.readArgs.2.1 → cmd.readArgs.2.1 + cmd.readArgs.2.2 ≤ s.rd64 0xb0030 →
      inHbm cmd.readArgs.1 (4096 * cmd.readArgs.2.2) = true →
    Runs (.storeRead) s fun u =>
      u.mbx.longRun = some cmd ∧
      u.mbx.long = s.mbx.long.tail ∧
      u.regs = s.regs ∧
      u.sto = s.sto) ∧
  -- storeReadOutside
  (∀ (s : State) (cmd : MbxCmd), s.live = true → s.longNext 0x61 = some cmd → cmd.seen →
      cmd.reservedZero ((upTo 20).map fun i => 8 + i) = true → s.on F.STO_STAT_READY = true → (cmd.readArgs.2.2 = 0 ∨
      cmd.readArgs.2.1 < s.rd64 0xb0038 ∨ s.rd64 0xb0030 < cmd.readArgs.2.1 + cmd.readArgs.2.2 ∨
      inHbm cmd.readArgs.1 (4096 * cmd.readArgs.2.2) = false) →
    Runs (.storeRead) s fun u =>
      Completed s u cmd 2 0 ∧
      u.mbx.longRun = none) ∧
  -- storeReadComplete
  (∀ (s : State) (corrected failed : List (BitVec 64)) (cmd : MbxCmd) (a t n : Nat), s.live = true →
      s.mbx.longRun = some cmd → cmd.seen → cmd.byte 0 = 0x61 → cmd.readArgs = (a, t, n) → (∀ i, i < n →
      s.tileWaits (t + i) = false) → inHbm a (4096 * n) = true → s.hbmReady a (4096 * n) = true →
    Runs (.storeReadComplete corrected failed) s fun u =>
      ((∀ i, i < n → s.tileGood (t + i) = true ∧ failed.contains (BitVec.ofNat 64 (t + i)) = false) →
          Completed s u cmd 0 n) ∧
      (∀ i, i < n → ((stacksTouched (a + 4096 * i) 4096).all fun c => !s.stackDead c) = true →
          Bytes.read u.hbm (a + 4096 * i) 4096 = if s.tileGood (t + i) = true ∧
          failed.contains (BitVec.ofNat 64 (t + i)) = false then s.tileData (t + i) else List.replicate 4096 0) ∧
      (∀ x, (x < a ∨ a + 4096 * n ≤ x) → Bytes.get u.hbm x = Bytes.get s.hbm x) ∧
      (∀ i, i < n → s.tileGood (t + i) = false ∨ failed.contains (BitVec.ofNat 64 (t + i)) = true →
          Pends u Ev.STO_RD_ERR ∧ u.rd F.STO_STAT_RD_ERR = 1 ∧ ∃ k, 0 < k ∧ k ≤ n ∧
          Completed s u cmd 6 (n - k + 2 ^ 32 * k)) ∧
      u.nand = s.nand) ∧
  -- storeReadCompleteHeld
  (∀ (s : State) (corrected failed : List (BitVec 64)) (cmd : MbxCmd), s.live = true → s.mbx.longRun = some cmd →
      cmd.byte 0 = 0x61 → s.hbmReady cmd.readArgs.1 (4096 * cmd.readArgs.2.2) = false →
    Runs (.storeReadComplete corrected failed) s fun u =>
      u.mbx = s.mbx ∧
      u.hbm = s.hbm ∧
      u.nand = s.nand)

/-- Writes of STO_CTRL and STO_RELEASE, a grown bad block, the end of pacing; and where each command of a commit and of
a read completes. Rests on: R290, R294, R295, R296, R299, R300, R302, R303. -/
def Obligations.StoreControl : Prop :=
  -- stoEnWrite
  (∀ (s : State) (p : Path) (v : BitVec 32) (x : State), s.live = true → s.pathOpen p = true →
      s.stored p 0xb0000 (v ||| 1).toNat = x → x.on F.STO_STAT_READY = false → bit v.toNat 31 = false →
    Runs (.stoEnWrite p v) s fun u =>
      u.rd F.STO_STAT_READY = 1 ∧
      Pends u Ev.STO_READY ∧
      u.sto.perBlock = (geometry (usable Config.dies)).pages * ((geometry (usable Config.dies)).page / 4096) ∧
      u.sto.queue = x.sto.queue ∧
      ((usable Config.dies).length < Config.dies.length → u.rd F.STO_STAT_GEOM_ERR = 1)) ∧
  -- stoEnWriteMounted
  (∀ (s : State) (p : Path) (v : BitVec 32) (x : State), s.live = true → s.pathOpen p = true →
      s.stored p 0xb0000 (v ||| 1).toNat = x → x.on F.STO_STAT_READY = true → bit v.toNat 31 = false →
    Runs (.stoEnWrite p v) s fun u =>
      u = x) ∧
  -- stoReleaseWrite
  (∀ (s : State) (p : Path) (v : BitVec 32) (x : State), s.live = true → s.pathOpen p = true →
      s.stored p 0xb0044 v.toNat = x → x.on F.STO_STAT_READY = true → x.rd64 0xb0038 < x.rd64 0xb0040 →
      (x.sto.queue.head?.all fun c => decide (x.rd64 0xb0040 ≤ c.first)) = true →
    Runs (.stoReleaseWrite p v) s fun u =>
      u.rd64 0xb0038 = x.rd64 0xb0040 ∧
      u.nand.oldest = x.rd64 0xb0040 ∧
      u.sto = x.sto) ∧
  -- stoReleaseClamped
  (∀ (s : State) (p : Path) (v : BitVec 32) (x : State) (c : Commit) (cs : List Commit), s.live = true →
      s.pathOpen p = true → s.stored p 0xb0044 v.toNat = x → x.on F.STO_STAT_READY = true →
      x.rd64 0xb0038 < x.rd64 0xb0040 → x.sto.queue = c :: cs → c.first < x.rd64 0xb0040 →
    Runs (.stoReleaseWrite p v) s fun u =>
      u.rd F.STO_STAT_RELEASE_CLAMP = 1 ∧
      u.rd64 0xb0038 = max (x.rd64 0xb0038) c.first) ∧
  -- stoAbort
  (∀ (s : State) (p : Path) (v : BitVec 32) (x : State), s.live = true → s.pathOpen p = true →
      s.stored p 0xb0000 (v ||| 0x80000000).toNat = x →
    Runs (.stoAbort p v) s fun u =>
      u.sto.queue = [] ∧
      u.rd F.STO_CTRL_ABORT = 0 ∧
      u.rd F.STO_COMMIT_CNT_COUNT = min 0xffffffff (x.rd F.STO_COMMIT_CNT_COUNT + x.sto.queue.length) ∧
      (x.sto.queue ≠ [] → u.rd F.STO_LAST_STATUS_STATUS = 2 ∧ Pends u Ev.STO_COMMIT_DONE ∧ Pends u Ev.STO_COMMIT_ERR)) ∧
  -- grownBadBlock
  (∀ (s : State) (die : Fin 64) (block : Fin 1048576) (corrected failed : List (BitVec 64)) (moved : List Nat),
      s.live = true → s.on F.STO_STAT_READY = true → die.val < s.rd F.STO_GEOM_DIES →
      block.val < s.rd F.STO_GEOM_BLOCKS → s.blockGood die block = true → s.sto.queue = [] →
      (s.liveTiles die block).filter (fun t => !(failed.contains (BitVec.ofNat 64 t))) = moved →
    Runs (.grownBadBlock die block corrected failed) s fun u =>
      u.blockGood die block = false ∧
      u.rd F.STO_ECC_CORR_CNT_COUNT = min 0xffffffff (s.rd F.STO_ECC_CORR_CNT_COUNT + (moved.filter fun t =>
          corrected.contains (BitVec.ofNat 64 t)).length) ∧
      u.nand.grown = s.nand.grown + 1 ∧
      u.rd F.STO_STAT_BAD_BLOCK = 1 ∧
      Pends u Ev.STO_BAD_BLOCK ∧
      u.nand.credit = s.nand.credit - 4096 * moved.length ∧
      u.sto = s.sto) ∧
  -- grownBadBlockUnknown
  (∀ (s : State) (die : Fin 64) (block : Fin 1048576) (corrected failed : List (BitVec 64)), s.live = true →
      (s.on F.STO_STAT_READY = false ∨ s.rd F.STO_GEOM_DIES ≤ die.val ∨ s.rd F.STO_GEOM_BLOCKS ≤ block.val ∨
      s.blockGood die block = false) →
    Runs (.grownBadBlock die block corrected failed) s fun u =>
      u = s) ∧
  -- throttleRelease
  (∀ (s : State), s.live = true → 0 < s.nand.credit →
    Runs (.throttleRelease) s fun u =>
      u.rd F.STO_STAT_THROTTLED = 0 ∧
      (s.on F.STO_STAT_THROTTLED = true → Pends u Ev.STO_THROTTLE) ∧
      u.nand = s.nand) ∧
  -- throttleHolds
  (∀ (s : State), s.live = true → s.nand.credit ≤ 0 →
    Runs (.throttleRelease) s fun u =>
      u = s) ∧
  -- storeCommitReserves
  (∀ (s : State) (cmd : MbxCmd) (t n : Nat), s.live = true → s.longNext 0x60 = some cmd → cmd.seen →
      cmd.paramBad = false → s.on F.STO_STAT_READY = true → s.sto.queue = [] →
      s.on (F.HBM_RING_BASE_HI_EN 0 (cmd.byte 4)) = true → cmd.num 16 4 ≤ 2 ^ (s.ringDesc (cmd.byte 4 % 4)).log2n →
      (s.rd64 (0xe00214 + 0x20 * (cmd.byte 4 % 4)) : Int) - (2 ^ (s.ringDesc (cmd.byte 4 % 4)).log2n : Nat) + 2 ≤
      (cmd.num 8 6 : Int) → tilesNeeded (cmd.num 16 4) (s.ringDesc (cmd.byte 4 % 4)).stride = n →
      n ≤ s.rd64 0xb0028 → s.rd64 0xb0030 = t →
    Runs (.storeCommit) s fun u =>
      Completed s u cmd 0 t ∧
      u.rd64 0xb0030 = (t + n) % 2 ^ 64 ∧
      u.sto.queue.length = 1 ∧
      u.mbx.longRun = none) ∧
  -- stoLineTaken
  (∀ (s : State) (c : Commit) (up : Upsets), s.live = true → s.sto.queue = [c] → s.on F.STO_STAT_READY = true →
      c.taken < c.count → s.ringHas c.ring (c.line + c.taken) = true →
      s.hbmReady (s.lineRanges c (c.line + c.taken)).1.1 (s.lineRanges c (c.line + c.taken)).1.2 = true →
      s.hbmReady (s.lineRanges c (c.line + c.taken)).2.1 (s.lineRanges c (c.line + c.taken)).2.2 = true →
    Runs (.stoLineReady up) s fun u =>
      u.sto.queue.map Commit.taken = [c.taken + 1] ∧
      u.sto.queue.map Commit.first = [c.first]) ∧
  -- lineGivenUp
  (∀ (s : State) (c : Commit), s.live = true → s.sto.queue = [c] → s.on F.STO_STAT_READY = true → c.taken < c.count →
      s.ringHas c.ring (c.line + c.taken) = false →
    Runs (.lineWaitExpiry) s fun u =>
      u.sto.queue.map Commit.taken = [c.taken + 1] ∧
      u.sto.queue.map Commit.lost = [true] ∧
      u.rd F.STO_STAT_LOST = 1) ∧
  -- commitFinished
  (∀ (s : State) (c : Commit), s.live = true → s.sto.queue = [c] → s.on F.STO_STAT_READY = true → c.count ≤ c.taken →
    Runs (.stoCommitFinish) s fun u =>
      u.sto.queue = [] ∧
      u.rd F.STO_LAST_STATUS_STATUS = b2n c.lost ∧
      Pends u Ev.STO_COMMIT_DONE ∧
      u.nand.done = some c.first) ∧
  -- storeReadStarts
  (∀ (s : State) (cmd : MbxCmd), s.live = true → s.longNext 0x61 = some cmd → cmd.paramBad = false →
      s.on F.STO_STAT_READY = true → s.rd64 0xb0038 ≤ cmd.readArgs.2.1 →
      cmd.readArgs.2.1 + cmd.readArgs.2.2 ≤ s.rd64 0xb0030 →
    Runs (.storeRead) s fun u =>
      u.mbx.longRun = some cmd ∧
      u.regs = s.regs) ∧
  -- storeReadEnds
  (∀ (s : State) (corrected failed : List (BitVec 64)) (cmd : MbxCmd), s.live = true → s.mbx.longRun = some cmd →
      cmd.byte 0 = 0x61 → s.sto.queue = [] → s.hbmReady cmd.readArgs.1 (4096 * cmd.readArgs.2.2) = true →
    Runs (.storeReadComplete corrected failed) s fun u =>
      u.mbx.longRun = none ∧
      u.nand = s.nand)

/-- GO starts the operation named or refuses it with its cause; the operation's end leaves slot, boot record, HBM or
index as it says; scrubbing counts, records and reloads. Rests on: R307, R308, R319, R324, R327, R328, R329, R330,
R331, R417. -/
def Obligations.ConfigStore : Prop :=
  -- cfgProgWriteSlot
  (∀ (s : State) (p : Path) (v : BitVec 32) (x : State) (t a len : Nat), s.live = true → s.pathOpen p = true →
      s.stored p 0x60060 (progGo v 0).toNat = x → x.rd F.CFG_PROG_CTRL_OP = 0 → x.ldr.prog = none →
      x.rd F.CFG_PROG_CTRL_TARGET = t →
      64 * x.rd F.CFG_PROG_ADDR_LO_ADDR_LO + 2 ^ 32 * x.rd F.CFG_PROG_ADDR_HI_ADDR_HI = a →
      x.rd F.CFG_PROG_LEN_LEN = len →
    Runs (.cfgProgWriteSlot p v) s fun u =>
      (x.progRefusal 0 t a len = none → u.ldr.prog = some ⟨0, t, a, len⟩ ∧ u.rd F.CFG_PROG_STAT_BUSY = 1 ∧
          u.slotDesc t = ⟨1, 0, false⟩) ∧
      (∀ k, x.progRefusal 0 t a len = some k → u.ldr.prog = none ∧ u.rd F.CFG_PROG_STAT_ERR = 1 ∧
          u.rd F.CFG_PROG_STAT_CAUSE = k ∧ u.rd F.CFG_PROG_CTRL_GO = 0 ∧ u.cstore = x.cstore ∧
          Pends u Ev.CFG_PROG_DONE)) ∧
  -- cfgProgEraseSlot
  (∀ (s : State) (p : Path) (v : BitVec 32) (x : State) (t a len : Nat), s.live = true → s.pathOpen p = true →
      s.stored p 0x60060 (progGo v 1).toNat = x → x.rd F.CFG_PROG_CTRL_OP = 1 → x.ldr.prog = none →
      x.rd F.CFG_PROG_CTRL_TARGET = t →
      64 * x.rd F.CFG_PROG_ADDR_LO_ADDR_LO + 2 ^ 32 * x.rd F.CFG_PROG_ADDR_HI_ADDR_HI = a →
      x.rd F.CFG_PROG_LEN_LEN = len →
    Runs (.cfgProgEraseSlot p v) s fun u =>
      (x.progRefusal 1 t a len = none → u.ldr.prog = some ⟨1, t, a, len⟩ ∧ u.rd F.CFG_PROG_STAT_BUSY = 1 ∧
          u.cstore = x.cstore) ∧
      (∀ k, x.progRefusal 1 t a len = some k → u.ldr.prog = none ∧ u.rd F.CFG_PROG_STAT_ERR = 1 ∧
          u.rd F.CFG_PROG_STAT_CAUSE = k ∧ u.rd F.CFG_PROG_CTRL_GO = 0 ∧ u.cstore = x.cstore ∧
          Pends u Ev.CFG_PROG_DONE)) ∧
  -- cfgProgWriteBootRecord
  (∀ (s : State) (p : Path) (v : BitVec 32) (x : State) (t a len : Nat), s.live = true → s.pathOpen p = true →
      s.stored p 0x60060 (progGo v 2).toNat = x → x.rd F.CFG_PROG_CTRL_OP = 2 → x.ldr.prog = none →
      x.rd F.CFG_PROG_CTRL_TARGET = t →
      64 * x.rd F.CFG_PROG_ADDR_LO_ADDR_LO + 2 ^ 32 * x.rd F.CFG_PROG_ADDR_HI_ADDR_HI = a →
      x.rd F.CFG_PROG_LEN_LEN = len →
    Runs (.cfgProgWriteBootRecord p v) s fun u =>
      (x.progRefusal 2 t a len = none → u.ldr.prog = some ⟨2, t, a, len⟩ ∧ u.rd F.CFG_PROG_STAT_BUSY = 1 ∧
          u.cstore = x.cstore) ∧
      (∀ k, x.progRefusal 2 t a len = some k → u.ldr.prog = none ∧ u.rd F.CFG_PROG_STAT_ERR = 1 ∧
          u.rd F.CFG_PROG_STAT_CAUSE = k ∧ u.rd F.CFG_PROG_CTRL_GO = 0 ∧ u.cstore = x.cstore ∧
          Pends u Ev.CFG_PROG_DONE)) ∧
  -- cfgProgReadSlot
  (∀ (s : State) (p : Path) (v : BitVec 32) (x : State) (t a len : Nat), s.live = true → s.pathOpen p = true →
      s.stored p 0x60060 (progGo v 3).toNat = x → x.rd F.CFG_PROG_CTRL_OP = 3 → x.ldr.prog = none →
      x.rd F.CFG_PROG_CTRL_TARGET = t →
      64 * x.rd F.CFG_PROG_ADDR_LO_ADDR_LO + 2 ^ 32 * x.rd F.CFG_PROG_ADDR_HI_ADDR_HI = a →
      x.rd F.CFG_PROG_LEN_LEN = len →
    Runs (.cfgProgReadSlot p v) s fun u =>
      (x.progRefusal 3 t a len = none → u.ldr.prog = some ⟨3, t, a, len⟩ ∧ u.rd F.CFG_PROG_STAT_BUSY = 1 ∧
          u.cstore = x.cstore) ∧
      (∀ k, x.progRefusal 3 t a len = some k → u.ldr.prog = none ∧ u.rd F.CFG_PROG_STAT_ERR = 1 ∧
          u.rd F.CFG_PROG_STAT_CAUSE = k ∧ u.rd F.CFG_PROG_CTRL_GO = 0 ∧ u.cstore = x.cstore ∧
          Pends u Ev.CFG_PROG_DONE)) ∧
  -- cfgProgEraseParison
  (∀ (s : State) (p : Path) (v : BitVec 32) (x : State) (t a len : Nat), s.live = true → s.pathOpen p = true →
      s.stored p 0x60060 (progGo v 4).toNat = x → x.rd F.CFG_PROG_CTRL_OP = 4 → x.ldr.prog = none →
      x.rd F.CFG_PROG_CTRL_TARGET = t →
      64 * x.rd F.CFG_PROG_ADDR_LO_ADDR_LO + 2 ^ 32 * x.rd F.CFG_PROG_ADDR_HI_ADDR_HI = a →
      x.rd F.CFG_PROG_LEN_LEN = len →
    Runs (.cfgProgEraseParison p v) s fun u =>
      (x.progRefusal 4 t a len = none → u.ldr.prog = some ⟨4, t, a, len⟩ ∧ u.rd F.CFG_PROG_STAT_BUSY = 1 ∧
          u.cstore = x.cstore) ∧
      (∀ k, x.progRefusal 4 t a len = some k → u.ldr.prog = none ∧ u.rd F.CFG_PROG_STAT_ERR = 1 ∧
          u.rd F.CFG_PROG_STAT_CAUSE = k ∧ u.rd F.CFG_PROG_CTRL_GO = 0 ∧ u.cstore = x.cstore ∧
          Pends u Ev.CFG_PROG_DONE)) ∧
  -- cfgProgRuns
  (∀ (s : State) (p : Path) (v : BitVec 32) (x : State), s.live = true → s.pathOpen p = true →
      s.stored p 0x60060 (progGo v 1).toNat = x → x.ldr.prog ≠ none →
    Runs (.cfgProgEraseSlot p v) s fun u =>
      u = x) ∧
  -- cfgProgDoneWriteSlot
  (∀ (s : State) (writeFault : Bool) (up : Upsets) (q : Prog) (g : Src) (e : Bool), s.live = true →
      s.ldr.prog = some q → q.op = 0 → writeFault = false → s.hbmReady q.addr q.len = true →
      (s.upsets (upsetList up)).hbmSrc q.addr q.len = g →
      ((stacksTouched q.addr q.len).any s.stackDead || !((s.upsets (upsetList up)).badWords q.addr q.len).isEmpty) =
      e →
    Runs (.cfgProgDone writeFault up) s fun u =>
      (u.ldr.prog = none ∧ u.rd F.CFG_PROG_CTRL_GO = 0 ∧ u.rd F.CFG_PROG_STAT_BUSY = 0 ∧ Pends u Ev.CFG_PROG_DONE) ∧
      (e = true → u.rd F.CFG_PROG_STAT_ERR = 1 ∧ u.rd F.CFG_PROG_STAT_CAUSE = 5 ∧ u.slotDesc q.target = ⟨3, 0,
          false⟩) ∧
      (∀ f, e = false → s.checkImage g true false = some f → u.rd F.CFG_PROG_STAT_ERR = 1 ∧
          u.rd F.CFG_PROG_STAT_CAUSE = 7 ∧ u.slotDesc q.target = ⟨3, 0, false⟩ ∧
          Counted s u F.CFG_LOAD_ERR_CNT_COUNT ∧ Pends u Ev.CFG_LOAD_FAIL) ∧
      (e = false → s.checkImage g true false = none → u.rd F.CFG_PROG_STAT_DONE = 1 ∧ u.slotDesc q.target = ⟨2,
          g.length, g.signed⟩ ∧ Bytes.read u.cstore.data (slotBase q.target) g.length = g.bytes 0 g.length)) ∧
  -- cfgProgDoneEraseSlot
  (∀ (s : State) (writeFault : Bool) (up : Upsets) (q : Prog), s.live = true → s.ldr.prog = some q → q.op = 1 →
      writeFault = false →
    Runs (.cfgProgDone writeFault up) s fun u =>
      (u.ldr.prog = none ∧ u.rd F.CFG_PROG_CTRL_GO = 0 ∧ u.rd F.CFG_PROG_STAT_BUSY = 0 ∧ Pends u Ev.CFG_PROG_DONE) ∧
      u.rd F.CFG_PROG_STAT_DONE = 1 ∧
      u.slotDesc q.target = ⟨0, 0, false⟩ ∧
      (∀ k, k ≠ q.target → u.slotDesc k = s.slotDesc k) ∧
      u.cstore.data = s.cstore.data) ∧
  -- cfgProgDoneWriteBoot
  (∀ (s : State) (writeFault : Bool) (up : Upsets) (q : Prog) (raw : List Byte) (gen : Nat), s.live = true →
      s.ldr.prog = some q → q.op = 2 → writeFault = false → s.hbmReady q.addr 4096 = true →
      (stacksTouched q.addr 4096).any s.stackDead = false → (s.upsets (upsetList up)).badWords q.addr 4096 = [] →
      Bytes.read s.hbm q.addr 4096 = raw → s.cstore.recGen bootArea + 1 = gen →
    Runs (.cfgProgDone writeFault up) s fun u =>
      (u.ldr.prog = none ∧ u.rd F.CFG_PROG_CTRL_GO = 0 ∧ u.rd F.CFG_PROG_STAT_BUSY = 0 ∧ Pends u Ev.CFG_PROG_DONE) ∧
      u.rd F.CFG_PROG_STAT_DONE = 1 ∧
      (∃ i, i < 2 ∧ u.cstore.copy bootArea i = raw.take 4 ++ leBytes 4 gen ++ (raw.drop 8).take 4084 ++
          leBytes 4 (crc32c (raw.take 4 ++ leBytes 4 gen ++ (raw.drop 8).take 4084)) ∧
          u.cstore.copy bootArea (1 - i) = s.cstore.copy bootArea (1 - i) ∧ (∀ a b,
          s.cstore.validGen bootArea i = some a → s.cstore.validGen bootArea (1 - i) = some b → a ≤ b) ∧
          (s.cstore.validGen bootArea (1 - i) = none → s.cstore.validGen bootArea i = none))) ∧
  -- cfgProgDoneReadSlot
  (∀ (s : State) (writeFault : Bool) (up : Upsets) (q : Prog) (d : Slot), s.live = true → s.ldr.prog = some q →
      q.op = 3 → s.slotDesc q.target = d → s.hbmReady q.addr d.length = true →
    Runs (.cfgProgDone writeFault up) s fun u =>
      (u.ldr.prog = none ∧ u.rd F.CFG_PROG_CTRL_GO = 0 ∧ u.rd F.CFG_PROG_STAT_BUSY = 0 ∧ Pends u Ev.CFG_PROG_DONE) ∧
      ((s.slotSrc q.target none).hit 0 d.length = false → u.rd F.CFG_PROG_STAT_DONE = 1 ∧
          ((stacksTouched q.addr d.length).any s.stackDead = false →
          Bytes.read u.hbm q.addr d.length = (s.slotSrc q.target none).bytes 0 d.length)) ∧
      (∀ a, (a < q.addr ∨ q.addr + d.length ≤ a) → Bytes.get u.hbm a = Bytes.get s.hbm a) ∧
      ((s.slotSrc q.target none).hit 0 d.length = true → u.rd F.CFG_PROG_STAT_ERR = 1 ∧ u.hbm = s.hbm) ∧
      u.cstore = s.cstore) ∧
  -- cfgProgDoneEraseParison
  (∀ (s : State) (writeFault : Bool) (up : Upsets) (q : Prog), s.live = true → s.ldr.prog = some q → q.op = 4 →
      writeFault = false →
    Runs (.cfgProgDone writeFault up) s fun u =>
      (u.ldr.prog = none ∧ u.rd F.CFG_PROG_CTRL_GO = 0 ∧ u.rd F.CFG_PROG_STAT_BUSY = 0 ∧ Pends u Ev.CFG_PROG_DONE) ∧
      u.rd F.CFG_PROG_STAT_DONE = 1 ∧
      u.par q.target = Par.init ∧
      (∀ k, k ≠ q.target → u.par k = s.par k)) ∧
  -- cfgProgDoneFault
  (∀ (s : State) (writeFault : Bool) (up : Upsets) (q : Prog), s.live = true → s.ldr.prog = some q → q.op ≠ 3 →
      writeFault = true → s.hbmReady q.addr (s.progLength q) = true →
    Runs (.cfgProgDone writeFault up) s fun u =>
      (u.ldr.prog = none ∧ u.rd F.CFG_PROG_CTRL_GO = 0 ∧ u.rd F.CFG_PROG_STAT_ERR = 1 ∧
          u.rd F.CFG_PROG_STAT_CAUSE = 6) ∧
      u.cstore = s.cstore ∧
      Pends u Ev.CFG_PROG_DONE) ∧
  -- cfgProgDoneWaits
  (∀ (s : State) (writeFault : Bool) (up : Upsets) (q : Prog), s.live = true → s.ldr.prog = some q →
      s.hbmReady q.addr (s.progLength q) = false →
    Runs (.cfgProgDone writeFault up) s fun u =>
      u.ldr = s.ldr ∧
      u.cstore = s.cstore ∧
      u.hbm = s.hbm ∧
      u.rd F.CFG_PROG_STAT_BUSY = s.rd F.CFG_PROG_STAT_BUSY) ∧
  -- cfgProgDoneBootFails
  (∀ (s : State) (writeFault : Bool) (up : Upsets) (q : Prog), s.live = true → s.ldr.prog = some q → q.op = 2 →
      writeFault = false → s.hbmReady q.addr 4096 = true →
      ((stacksTouched q.addr 4096).any s.stackDead || !((s.upsets (upsetList up)).badWords q.addr 4096).isEmpty) =
      true →
    Runs (.cfgProgDone writeFault up) s fun u =>
      (u.ldr.prog = none ∧ u.rd F.CFG_PROG_CTRL_GO = 0 ∧ u.rd F.CFG_PROG_STAT_ERR = 1 ∧
          u.rd F.CFG_PROG_STAT_CAUSE = 5) ∧
      u.cstore = s.cstore ∧
      Pends u Ev.CFG_PROG_DONE) ∧
  -- cfgProgDoneIdle
  (∀ (s : State) (writeFault : Bool) (up : Upsets), s.live = true → s.ldr.prog = none →
    Runs (.cfgProgDone writeFault up) s fun u =>
      u = s) ∧
  -- fabricScrubPass
  (∀ (s : State) (found : List (Fin 8 × Fin 32768 × Bool)), s.live = true → s.on F.CFG_SCRUB_CTRL_EN = true →
      s.loaderBusy = false → s.on F.CFG_SCRUB_CTRL_AUTO_RELOAD = false →
    Runs (.fabricScrubPass found) s fun u =>
      u.rd F.CFG_SCRUB_CE_CNT_COUNT = min 0xffffffff (s.rd F.CFG_SCRUB_CE_CNT_COUNT + (found.filter fun x => bit
          (s.rd F.CFG_FAB_STAT_RELEASED) x.1 && !x.2.2).length) ∧
      u.rd F.CFG_SCRUB_UE_CNT_COUNT = min 0xffffffff (s.rd F.CFG_SCRUB_UE_CNT_COUNT + (found.filter fun x => bit
          (s.rd F.CFG_FAB_STAT_RELEASED) x.1 && x.2.2 && s.essential x.1 x.2.1).length) ∧
      ((found.any fun x => bit (s.rd F.CFG_FAB_STAT_RELEASED) x.1 && !x.2.2) = true → Pends u Ev.CFG_SCRUB_CE) ∧
      ((found.any fun x => bit (s.rd F.CFG_FAB_STAT_RELEASED) x.1 && x.2.2 && s.essential x.1 x.2.1) = true →
          Pends u Ev.CFG_SCRUB_UE) ∧
      (u.fab = s.fab ∧ u.ldr = s.ldr)) ∧
  -- fabricScrubReload
  (∀ (s : State) (k : Fin 8) (w : Fin 32768), s.live = true → s.on F.CFG_SCRUB_CTRL_EN = true →
      s.loaderBusy = false → s.on F.CFG_SCRUB_CTRL_AUTO_RELOAD = true → s.ldr.reloads = [] →
      bit (s.rd F.CFG_FAB_STAT_RELEASED) k = true → s.essential k w = true → (s.ldr.full.isSome = true ∨
      (s.partSrc k).isSome = true) →
    Runs (.fabricScrubPass [(k, w, true)]) s fun u =>
      u.ldr.job = some ⟨s.partSrc k, 2, k, 0, true⟩ ∧
      (bit (u.rd F.CFG_FAB_STAT_ISOLATED) k = true ∧ bit (u.rd F.CFG_FAB_STAT_RELEASED) k = false) ∧
      Counted s u F.CFG_SCRUB_UE_CNT_COUNT ∧
      Counted s u F.FLT_F3_CNT_COUNT ∧
      Pends u Ev.CFG_SCRUB_UE) ∧
  -- fabricScrubOff
  (∀ (s : State) (found : List (Fin 8 × Fin 32768 × Bool)), s.live = true → (s.on F.CFG_SCRUB_CTRL_EN = false ∨
      s.loaderBusy = true) →
    Runs (.fabricScrubPass found) s fun u =>
      u = s) ∧
  -- windowScrubPass
  (∀ (s : State), s.live = true → s.on F.CFG_SCRUB_CTRL_WIN_EN = true → s.loaderBusy = false →
      s.on F.CFG_SCRUB_CTRL_AUTO_RELOAD = false →
    Runs (.windowScrubPass) s fun u =>
      (∀ n w, n < 16 → u.rd (readyFld n w) = if s.dual n && !s.winBusy n w && s.on (readyFld n w) && ((s.sectors
          n).all fun c => decide (s.rd (F.SEC_STATUS_PSTATE c) ≤ 1)) && ((s.regionTiles n).any fun t =>
          !s.foldMatches t true w (s.lenCode n w)) then 0 else s.rd (readyFld n w)) ∧
      (∀ n w, n < 16 → u.rd (readyFld n w) ≠ s.rd (readyFld n w) → Pends u Ev.CFG_WIN_FOLD_ERR ∧
          u.rd F.CFG_SCRUB_ERR_VALID = 1) ∧
      (u.steps = s.steps ∧ u.routes = s.routes)) ∧
  -- windowScrubOff
  (∀ (s : State), s.live = true → (s.on F.CFG_SCRUB_CTRL_WIN_EN = false ∨ s.loaderBusy = true) →
    Runs (.windowScrubPass) s fun u =>
      u = s) ∧
  -- storePatrol
  (∀ (s : State) (found : List (BitVec 31)), s.live = true →
    Runs (.storePatrol found) s fun u =>
      (∀ w ∈ found, Tab.get (fun _ => false) u.cstore.bad w.toNat = true) ∧
      (∀ w ∈ found, ∀ k, s.slotOfWord w.toNat = some k → (s.slotDesc k).state = 2 → (u.slotDesc k).state = 3 ∧
          Pends u Ev.CFG_SCRUB_UE) ∧
      (∀ k, k < 5 → (∀ w ∈ found, s.slotOfWord w.toNat ≠ some k) → u.slotDesc k = s.slotDesc k) ∧
      u.cstore.data = s.cstore.data)

/-- What COLD_START and WARM_START choose to load and show, what a loss of power and a spine cut leave, what
F1_RESET_ASSERT keeps, and what a wake from S4 loads. Rests on: R308, R322, R333, R334, R343, R344, R346, R347,
R348, R368, R371, R396. -/
def Obligations.Starts : Prop :=
  -- coldStart
  (∀ (s : State) (found : List Found), s.lcs.trans = none → lcDecode s.otp.lc < 3 →
    Runs (.coldStart found) s fun u =>
      (u.spineOn = true ∧ u.start.inReset = false) ∧
      u.nand = s.nand ∧
      u.rd F.SYS_START_STAT_ATTEMPTS = min 15 s.attempt.attempts ∧
      (u.rd F.SYS_START_STAT_BIST_SKIPPED = b2n s.cleanRecord ∧ u.rd F.SYS_START_STAT_KIND = b2n s.cleanRecord) ∧
      (s.attempt.golden = true → u.rd F.SYS_START_STAT_PHASE = 7 ∧ u.rd F.FLT_STAT_F0 = 1) ∧
      (s.attempt.golden = false → 3 ≤ s.attempt.attempts → u.ldr.golden = true ∧ u.ldr.load = some ⟨0, 0, 0,
          (s.slotDesc 0).length, true, false⟩) ∧
      (s.attempt.golden = false → s.attempt.attempts < 3 → (s.cstore.record bootArea) = [] → u.ldr.load = some ⟨2, 0,
          0, 0, true, false⟩) ∧
      (s.attempt.golden = false → s.attempt.attempts < 3 → (s.cstore.record bootArea) ≠ [] →
          fieldAt (s.cstore.record bootArea) 8 1 = 0 → fieldAt (s.cstore.record bootArea) 9 1 < 5 →
          u.ldr.load = some ⟨0, fieldAt (s.cstore.record bootArea) 9 1, 0,
          (s.slotDesc (fieldAt (s.cstore.record bootArea) 9 1)).length, true, false⟩) ∧
      (s.attempt.golden = false → s.attempt.attempts < 3 → (s.cstore.record bootArea) ≠ [] →
          fieldAt (s.cstore.record bootArea) 8 1 = 1 → u.ldr.hostWait = true ∧ u.ldr.load = none)) ∧
  -- coldStartEndOfLife
  (∀ (s : State) (found : List Found), s.lcs.trans = none → lcDecode s.otp.lc = 3 →
    Runs (.coldStart found) s fun u =>
      (s.cstore.eol = 0 → u.otp.destroyed = true ∧ u.cstore.slots = [] ∧ u.cstore.pars = [] ∧ u.lehr.save = [] ∧
          u.start.boot = []) ∧
      u.cstore.eol = 3 ∧
      u.rd F.LCS_STATE = 3) ∧
  -- warmStart
  (∀ (s : State), s.spineOn = true → s.safe = false → s.lcs.trans = none → lcDecode s.otp.lc < 3 →
    Runs (.warmStart) s fun u =>
      (u.spineOn = true ∧ u.start.inReset = false) ∧
      u.rd F.SYS_START_STAT_KIND = 2 ∧
      u.rd F.SYS_START_STAT_ATTEMPTS = min 15 s.attempt.attempts ∧
      (u.hbm = s.hbm ∧ u.nand = s.nand) ∧
      (s.attempt.golden = true → u.rd F.SYS_START_STAT_PHASE = 7 ∧ u.rd F.FLT_STAT_F0 = 1) ∧
      (s.attempt.golden = false → 3 ≤ s.attempt.attempts → u.ldr.golden = true ∧ u.ldr.load = some ⟨0, 0, 0,
          (s.slotDesc 0).length, true, false⟩) ∧
      (s.attempt.golden = false → s.attempt.attempts < 3 → s.lehr.slot.1 = 0 → (s.slotDesc s.lehr.slot.2).state = 2 →
          u.ldr.load = some ⟨0, s.lehr.slot.2, 0, (s.slotDesc s.lehr.slot.2).length, true, true⟩)) ∧
  -- warmStartSafe
  (∀ (s : State), (s.spineOn = false ∨ s.safe = true) →
    Runs (.warmStart) s fun u =>
      u = s) ∧
  -- powerLoss
  (∀ (s : State),
    Runs (.powerLoss) s fun u =>
      (u.spineOn = false ∧ u.lehr = State.reset.lehr) ∧
      u.regs = State.reset.regs ∧
      (u.hbm = [] ∧ u.steps = [] ∧ u.routes = [] ∧ u.dm = []) ∧
      (u.nand = s.nand ∧ u.cstore = s.cstore) ∧
      (s.lcs.trans = none → u.otp = s.otp)) ∧
  -- f1ResetAssert
  (∀ (s : State), s.live = true → s.flt.f1 = true → s.safe = false → s.lcs.trans = none →
    Runs (.f1ResetAssert) s fun u =>
      (u.start.inReset = true ∧ u.start.f1 = true) ∧
      u.rd F.FLT_STAT_PIN_LEVEL = 0 ∧
      (u.steps = s.steps ∧ u.routes = s.routes ∧ u.hbm = s.hbm ∧ u.lehr = s.captureSave.lehr ∧ u.pcie = s.pcie ∧
          u.cstore = s.cstore ∧ u.otp = s.otp) ∧
      (u.dm = [] ∧ u.gafs = [])) ∧
  -- f1ResetIdle
  (∀ (s : State), s.live = true → (s.flt.f1 = false ∨ s.safe = true) →
    Runs (.f1ResetAssert) s fun u =>
      u = s) ∧
  -- s4Wake
  (∀ (s : State), s.spineOn = false → s.lehr.s4 = true → s.lehr.waking = true → s.lehr.railsOff = false →
      s.lcs.trans = none → lcDecode s.otp.lc < 3 →
    Runs (.s4Wake) s fun u =>
      (u.spineOn = true ∧ u.lehr.s4 = false ∧ u.start.wake = true) ∧
      u.rd F.PCI_MBX_STAT_READY = 1 ∧
      u.ldr.restore = true ∧
      u.nand = s.nand ∧
      (s.lehr.slot.1 = 0 → u.ldr.load = some ⟨0, s.lehr.slot.2, 0, (s.slotDesc s.lehr.slot.2).length, true, false⟩)) ∧
  -- s4Sleeps
  (∀ (s : State), (s.spineOn = true ∨ s.lehr.s4 = false ∨ s.lehr.waking = false ∨ s.lehr.railsOff = true) →
    Runs (.s4Wake) s fun u =>
      u = s) ∧
  -- spineCut
  (∀ (s : State), s.live = true → s.pwr.s4Entry = true → s.pwr.s4Left = true → s.sto.queue = [] → s.safe = false →
      s.lcs.trans = none →
    Runs (.spineCut) s fun u =>
      u.spineOn = false ∧
      (u.lehr.s4 = true ∧ u.lehr.waking = false ∧ u.lehr.save = s.lehr.save ∧ u.lehr.slot = s.lehr.slot) ∧
      (∀ o ∈ lehrRegs, u.reg o = s.reg o) ∧
      (u.hbm = [] ∧ u.steps = [] ∧ u.routes = [] ∧ u.dm = []) ∧
      (u.nand = s.nand ∧ u.cstore = s.cstore ∧ u.otp = s.otp)) ∧
  -- spineCutSteps
  (∀ (s : State), s.live = true → s.pwr.s4Entry = true → s.pwr.s4Left = false → s.sto.queue = [] → s.safe = false →
    Runs (.spineCut) s fun u =>
      (u.spineOn = false ∧ u.lehr.s4 = true ∧ u.lehr.waking = false) ∧
      (u.hbm = [] ∧ u.steps = [] ∧ u.routes = [] ∧ u.dm = []) ∧
      u.nand = s.nand) ∧
  -- spineCutWaits
  (∀ (s : State), s.live = true → (s.pwr.s4Entry = false ∨ s.sto.queue ≠ [] ∨ s.safe = true) →
    Runs (.spineCut) s fun u =>
      u = s)

/-- A release raises its three enables in the order that it found; its third stage releases the partitions, and of a
full image arms the regions, sets the locks and ends the start; CONFIRM and AUTO_CONFIRM confirm it. The LAST_CAUSE
that a confirmation writes is a DESIGN CHOICE (log entry 160). Rests on: R237, R314, R320, R339, R340, R341, R342,
R348, R350. -/
def Obligations.Release : Prop :=
  -- releaseBegin
  (∀ (s : State) (r : Releasing), s.live = true → s.fab.releasing = some r → r.stage = 0 → (r.full = false ∨
      s.pllsLocked r.mask = true) →
    Runs (.releaseBegin) s fun u =>
      u.fab.releasing = some { r with stage := 1 } ∧
      ((releaseOrder r.order).head? = some 0 → u.fab.outOn = s.fab.outOn ++ r.parts) ∧
      ((releaseOrder r.order).head? = some 1 → u.fab.weOn = s.fab.weOn ++ r.parts) ∧
      ((releaseOrder r.order).head? = some 2 → u.fab.rstOff = s.fab.rstOff ++ r.parts ∧
          u.fab.ffs = s.fab.initFfs r.parts ∧ u.fab.pinFfs = s.fab.initPinFfs r.parts) ∧
      Keeps [.fab] s u) ∧
  -- releaseWaits
  (∀ (s : State), s.live = true →
      s.fab.releasing.all (fun r => r.stage != 0 || (r.full && !s.pllsLocked r.mask)) = true →
    Runs (.releaseBegin) s fun u =>
      u = s) ∧
  -- pllTimeoutExpiry
  (∀ (s : State) (r : Releasing), s.live = true → s.fab.releasing = some r → r.stage = 0 → r.full = true →
      s.pllsLocked r.mask = false →
    Runs (.pllTimeoutExpiry) s fun u =>
      u.fab.releasing = none ∧
      (s.rd F.SYS_START_STAT_PHASE = 4 → s.ldr.golden = false → u.ldr.load = some ⟨0, 0, 0, (s.slotDesc 0).length,
          true, false⟩ ∧ u.rd F.CFG_STAT_GOLDEN = 1 ∧ Pends u Ev.CFG_FALLBACK) ∧
      (s.rd F.SYS_START_STAT_PHASE = 4 → s.ldr.golden = true → u.rd F.SYS_START_STAT_PHASE = 7) ∧
      (s.rd F.SYS_START_STAT_PHASE ≠ 4 → ∀ n, n < 16 → s.run n = 1 → u.run n = 0 ∧ u.rd (F.GAF_STATUS_CAUSE n) = 6)) ∧
  -- pllTimeoutLate
  (∀ (s : State), s.live = true →
      s.fab.releasing.all (fun r => r.stage != 0 || !r.full || s.pllsLocked r.mask) = true →
    Runs (.pllTimeoutExpiry) s fun u =>
      u = s) ∧
  -- releaseGapExpiry
  (∀ (s : State) (r : Releasing), s.live = true → s.fab.releasing = some r → r.stage = 1 →
    Runs (.releaseGapExpiry) s fun u =>
      u.fab.releasing = some { r with stage := 2 } ∧
      ((releaseOrder r.order)[1]? = some 0 → u.fab.outOn = s.fab.outOn ++ r.parts) ∧
      ((releaseOrder r.order)[1]? = some 1 → u.fab.weOn = s.fab.weOn ++ r.parts) ∧
      ((releaseOrder r.order)[1]? = some 2 → u.fab.rstOff = s.fab.rstOff ++ r.parts ∧
          u.fab.ffs = s.fab.initFfs r.parts ∧ u.fab.pinFfs = s.fab.initPinFfs r.parts) ∧
      Keeps [.fab] s u) ∧
  -- releaseEnds
  (∀ (s : State) (r : Releasing), s.live = true → s.fab.releasing = some r → r.stage = 2 → r.full = false →
      (∀ k ∈ r.parts, k < 8) →
    Runs (.releaseGapExpiry) s fun u =>
      u.fab.releasing = none ∧
      (∀ k, k < 8 → bit (u.rd F.CFG_FAB_STAT_RELEASED) k = (bit (s.rd F.CFG_FAB_STAT_RELEASED) k || r.parts.contains
          k)) ∧
      (∀ k, k < 8 → bit (u.rd F.CFG_FAB_STAT_ISOLATED) k = (bit (s.rd F.CFG_FAB_STAT_ISOLATED) k && !r.parts.contains
          k)) ∧
      Keeps [.fab, .cfgRegs] s u) ∧
  -- releaseFullEnds
  (∀ (s : State) (r : Releasing), s.live = true → s.fab.releasing = some r → r.stage = 2 → r.full = true →
      r.parts = upTo 8 →
    Runs (.releaseGapExpiry) s fun u =>
      (u.fab.releasing = none ∧ u.rd F.CFG_FAB_STAT_RELEASED = 255 ∧ u.rd F.CFG_FAB_STAT_ISOLATED = 0) ∧
      (u.rd F.SYS_START_STAT_PHASE = if s.on F.SYS_START_CTRL_CONFIRM && !s.flt.f1 then 6 else 5) ∧
      Pends u Ev.SYS_RELEASED ∧
      (∀ n, n < 16 → s.run n = 1 → u.run n = 2) ∧
      (u.rd F.TB_LOCK = 1 ∧ u.rd F.CFG_LOCK = 1 ∧ (∀ n, n < 16 → u.rd (F.GAF_LOCK n) = 1 ∧ u.rd (F.SEC_LOCK n) = 1)) ∧
      (s.start.wake = true → s.start.train = [] → (∀ c, c < 16 → s.rd (F.SEC_STATUS_PSTATE c) = 0) →
          u.rd F.PWR_STAT_S4_RESULT = 1 ∧ Pends u Ev.PWR_WOKE) ∧
      (s.start.f1 = true → u.rd F.FLT_STAT_F1_PREV = 1 ∧ Pends u Ev.FLT_F1_PREV)) ∧
  -- confirm
  (∀ (s : State) (p : Path) (v : BitVec 32) (x : State), s.live = true → s.pathOpen p = true →
      s.stored p 0x104 (v ||| 0x80000000).toNat = x →
    Runs (.confirm p v) s fun u =>
      (x.flt.f1 = true → u = x.wr F.SYS_START_CTRL_CONFIRM 0) ∧
      (x.flt.f1 = false → x.rd F.SYS_START_STAT_PHASE = 5 → u.rd F.SYS_START_STAT_PHASE = 6 ∧
          u.rd F.SYS_START_CTRL_CONFIRM = 0 ∧ Pends u Ev.SYS_CONFIRMED ∧ u.cstore = (x.setAttempt ⟨0, false,
          x.rd F.SYS_START_STAT_CAUSE⟩).cstore) ∧
      (x.flt.f1 = false → x.rd F.SYS_START_STAT_PHASE = 6 → u.rd F.SYS_START_CTRL_CONFIRM = 0 ∧ u.cstore = x.cstore) ∧
      (x.flt.f1 = false → x.rd F.SYS_START_STAT_PHASE ≠ 5 → x.rd F.SYS_START_STAT_PHASE ≠ 6 → u = x)) ∧
  -- autoConfirm
  (∀ (s : State), s.live = true → s.on F.SYS_START_CTRL_AUTO_CONFIRM = true → s.rd F.SYS_START_STAT_PHASE = 5 →
      s.flt.f1 = false →
    Runs (.autoConfirm) s fun u =>
      u.rd F.SYS_START_STAT_PHASE = 6 ∧
      Pends u Ev.SYS_CONFIRMED ∧
      u.cstore = (s.setAttempt ⟨0, false, s.rd F.SYS_START_STAT_CAUSE⟩).cstore) ∧
  -- autoConfirmOff
  (∀ (s : State), s.live = true → (s.on F.SYS_START_CTRL_AUTO_CONFIRM = false ∨ s.rd F.SYS_START_STAT_PHASE ≠ 5 ∨
      s.flt.f1 = true) →
    Runs (.autoConfirm) s fun u =>
      u = s)

/-- A vote starts the power-down or the wake it makes of each sector; a drained domain is isolated, a gated one is in
its low state with what it loses gone, and a woken one is in S0 with its requests answered. Rests on: R44, R361,
R362, R363, R364, R365, R366, R367, R382. -/
def Obligations.PowerDomains : Prop :=
  -- pwrVoteWrite
  (∀ (s : State) (p : Path) (n : Fin 17) (v : BitVec 32) (x : State), s.live = true → s.pathOpen p = true →
      s.stored p (0x10010 + 4 * n.val) v.toNat = x →
    Runs (.pwrVoteWrite p n v) s fun u =>
      (∀ c, c < 16 → (x.dom c).down = none → (x.dom c).waking = false → x.rd (F.SEC_STATUS_PSTATE c) < x.wanted c →
          (u.dom c).down = some (x.wanted c) ∧ (u.dom c).isolated = false) ∧
      (∀ c, c < 16 → (x.dom c).down = none → x.wanted c < x.rd (F.SEC_STATUS_PSTATE c) → (u.dom c).waking = true) ∧
      (∀ c, c < 16 → (x.dom c).down = none → x.rd (F.SEC_STATUS_PSTATE c) = x.wanted c → u.dom c = x.dom c) ∧
      (∀ c, c < 16 → (x.dom c).down.isSome = true → (x.dom c).isolated = false → x.wanted c = 0 →
          (u.dom c).down = none ∧ u.rd F.PWR_STAT_ABANDONED = 1 ∧ Pends u Ev.PWR_DOWN_ABANDONED) ∧
      (∀ c, u.rd (F.SEC_STATUS_PSTATE c) = x.rd (F.SEC_STATUS_PSTATE c))) ∧
  -- powerDownDrainEnd
  (∀ (s : State) (d : Fin 18), s.live = true → (s.dom d).down.isSome = true → (s.dom d).isolated = false →
      s.drained d = true →
    Runs (.powerDownDrainEnd d) s fun u =>
      u.dom d = { s.dom d with isolated := true } ∧
      (∀ e, e ≠ d.val → u.dom e = s.dom e) ∧
      Keeps [.pwr] s u) ∧
  -- powerDownDrainWaits
  (∀ (s : State) (d : Fin 18), s.live = true → ((s.dom d).down = none ∨ (s.dom d).isolated = true ∨
      s.drained d = false) →
    Runs (.powerDownDrainEnd d) s fun u =>
      u = s) ∧
  -- powerGatingComplete
  (∀ (s : State) (d : Fin 18) (st : Nat), s.live = true → (s.dom d).down = some st → (s.dom d).isolated = true →
      d.val < 16 → st < 4 →
    Runs (.powerGatingComplete d) s fun u =>
      u.rd (F.SEC_STATUS_PSTATE d) = st ∧
      Pends u Ev.PWR_STATE ∧
      (st < 2 → u.dm = s.dm ∧ u.retBuf = s.retBuf) ∧
      (2 ≤ st → ∀ k, 9 * d.val * 2097152 ≤ k → k < 9 * (d.val + 1) * 2097152 →
          Tab.get (fun _ => false) u.dm k = false) ∧
      (2 ≤ st → ∀ a, 8 * d.val * 4096 ≤ a → a < 8 * (d.val + 1) * 4096 → Bytes.get u.gobIn a = 0 ∧
          Bytes.get u.gobOut a = 0 ∧ Bytes.get u.reqArea a = 0) ∧
      (2 ≤ st → ∀ a, 8 * d.val * 2048 ≤ a → a < 8 * (d.val + 1) * 2048 → Bytes.get u.retBuf a = 0) ∧
      (st = 3 → ∀ k, 9 * d.val * 2097152 ≤ k → k < 9 * (d.val + 1) * 2097152 →
          Tab.get (fun _ => (0 : StepWord)) u.steps k = 0) ∧
      (st < 3 → u.steps = s.steps ∧ u.routes = s.routes)) ∧
  -- stackGated
  (∀ (s : State) (d : Fin 18) (st : Nat), s.live = true → (s.dom d).down = some st → (s.dom d).isolated = true →
      16 ≤ d.val →
    Runs (.powerGatingComplete d) s fun u =>
      u.rd (F.HBM_STATUS_SELF_REFRESH (d.val - 16)) = 1 ∧
      Pends u Ev.PWR_STATE ∧
      (u.dom d).down = none ∧
      ((s.dom d).wakeVote = true → (u.dom d).waking = true) ∧
      u.hbm = s.hbm) ∧
  -- powerGatingIdle
  (∀ (s : State) (d : Fin 18), s.live = true → ((s.dom d).down = none ∨ (s.dom d).isolated = false) →
    Runs (.powerGatingComplete d) s fun u =>
      u = s) ∧
  -- sectorWakeComplete
  (∀ (s : State) (c : Fin 16) (upset : Option (BitVec 31)), s.live = true → (s.dom c).waking = true →
    Runs (.sectorWakeComplete c upset) s fun u =>
      u.rd (F.SEC_STATUS_PSTATE c) = 0 ∧
      Pends u Ev.PWR_STATE ∧
      (u.dom c).held = [] ∧
      (s.rd (F.SEC_STATUS_PSTATE c) ≠ 3 → u.steps = s.steps ∧ u.routes = s.routes) ∧
      (∀ n, s.rd (F.SEC_STATUS_PSTATE c) ≠ 3 → s.tileRegion (8 * c.val) = some n → (s.gaf n).waking.isSome = true →
          (∀ x ∈ s.sectors n, x = c.val ∨ s.rd (F.SEC_STATUS_PSTATE x) = 0) → u.run n = 2 ∧ (u.gaf n).waking = none)) ∧
  -- sectorAwake
  (∀ (s : State) (c : Fin 16) (upset : Option (BitVec 31)), s.live = true → (s.dom c).waking = false →
    Runs (.sectorWakeComplete c upset) s fun u =>
      u = s) ∧
  -- wakeHoldExpiry
  (∀ (s : State) (d : Fin 18), s.live = true → (s.dom d).wakeVote = true → (s.dom d).waking = false →
      (s.dom d).held = [] →
    Runs (.wakeHoldExpiry d) s fun u =>
      (u.dom d).wakeVote = false ∧
      (16 ≤ d.val → u.dom d = { s.dom d with wakeVote := false } ∧ u.regs = s.regs) ∧
      (∀ e, e ≠ d.val → u.dom e = s.dom e)) ∧
  -- wakeHoldStays
  (∀ (s : State) (d : Fin 18), s.live = true → ((s.dom d).wakeVote = false ∨ (s.dom d).waking = true ∨
      (s.dom d).held ≠ []) →
    Runs (.wakeHoldExpiry d) s fun u =>
      u = s)

/-- S4_REQ is refused or begins an entry; an enabled wake source is latched and wakes, or abandons the entry; the
lehr's other inputs. That the safe state takes no S4_REQ at all is a DESIGN CHOICE (log entry 167). Rests on: R14,
R232, R368, R369, R370, R372, R374, R449. -/
def Obligations.Wakes : Prop :=
  -- s4Req
  (∀ (s : State) (p : Path) (v : BitVec 32) (x : State), s.live = true → s.pathOpen p = true →
      s.stored p 0x10000 (v ||| 0x80000000).toNat = x → x.pwr.s4Entry = false → x.safe = false →
    Runs (.s4Req p v) s fun u =>
      (x.allQuiet = false → u.rd F.PWR_STAT_S4_RESULT = 3 ∧ u.rd F.PWR_CTRL_S4_REQ = 0 ∧ u.pwr = x.pwr) ∧
      (x.allQuiet = true → x.rd F.PWR_WAKE_EN_SRC = 0 → u.rd F.PWR_STAT_S4_RESULT = 4 ∧ u.rd F.PWR_CTRL_S4_REQ = 0 ∧
          u.pwr = x.pwr) ∧
      (x.allQuiet = true → x.rd F.PWR_WAKE_EN_SRC ≠ 0 → u.pwr.s4Entry = true) ∧
      (x.allQuiet = true → x.rd F.PWR_WAKE_EN_SRC ≠ 0 → x.sto.queue = [] → u.pwr.s4Left = true ∧
          u.rd F.PWR_SAVE_CFG_CAPTURED = 1) ∧
      (x.allQuiet = true → x.rd F.PWR_WAKE_EN_SRC ≠ 0 → x.sto.queue ≠ [] → x.on F.STO_STAT_READY = true →
          u.pwr.s4Left = false ∧ u.lehr = x.lehr ∧ u.sto = x.sto) ∧
      (x.allQuiet = true → x.rd F.PWR_WAKE_EN_SRC ≠ 0 → x.on F.STO_STAT_READY = false → u.sto.queue = [])) ∧
  -- s4ReqSafe
  (∀ (s : State) (p : Path) (v : BitVec 32) (x : State), s.live = true → s.pathOpen p = true →
      s.stored p 0x10000 (v ||| 0x80000000).toNat = x → x.pwr.s4Entry = false → x.safe = true →
    Runs (.s4Req p v) s fun u =>
      u.rd F.PWR_CTRL_S4_REQ = 0 ∧
      (u.pwr = x.pwr ∧ u.lehr = x.lehr) ∧
      u.rd F.SYS_START_STAT_PHASE = 7) ∧
  -- wakeN
  (∀ (s : State), s.lehrOn = true → bit (s.rd F.PWR_WAKE_EN_SRC) 1 = true →
    Runs (.wakeN) s fun u =>
      bit (u.rd F.PWR_WAKE_SRC_SRC) 1 = true ∧
      (s.lehr.s4 = true → u.lehr.waking = true) ∧
      (s.lehr.s4 = false → s.pwr.s4Entry = true → u.pwr.s4Entry = false ∧ u.rd F.PWR_STAT_S4_RESULT = 2 ∧
          u.rd F.PWR_STAT_S4_ABORT = 1 ∧ Pends u Ev.PWR_S4_ABORT) ∧
      (s.pwr.s4Entry = false → Keeps [.pwrRegs, .lehr] s u)) ∧
  -- encWake
  (∀ (s : State), s.lehr.s4 = true → bit (s.rd F.PWR_WAKE_EN_SRC) 2 = true →
      max 1 (s.rd F.PWR_WAKE_EN_ENC_EDGES) ≤ s.lehr.edges →
    Runs (.encWake) s fun u =>
      bit (u.rd F.PWR_WAKE_SRC_SRC) 2 = true ∧
      u.lehr.waking = true ∧
      Keeps [.pwrRegs, .lehr] s u) ∧
  -- encWakeFewEdges
  (∀ (s : State), (s.lehr.s4 = false ∨ s.lehr.edges < max 1 (s.rd F.PWR_WAKE_EN_ENC_EDGES)) →
    Runs (.encWake) s fun u =>
      u = s) ∧
  -- perstWake
  (∀ (s : State), s.lehrOn = true → bit (s.rd F.PWR_WAKE_EN_SRC) 3 = true →
    Runs (.perstWake) s fun u =>
      bit (u.rd F.PWR_WAKE_SRC_SRC) 3 = true ∧
      (s.lehr.s4 = true → u.lehr.waking = true) ∧
      (s.lehr.s4 = false → s.pwr.s4Entry = true → u.pwr.s4Entry = false ∧ u.rd F.PWR_STAT_S4_RESULT = 2 ∧
          Pends u Ev.PWR_S4_ABORT) ∧
      (s.pwr.s4Entry = false → Keeps [.pwrRegs, .lehr] s u)) ∧
  -- timerWake
  (∀ (s : State), s.lehrOn = true → s.rd64 0x10070 ≤ s.rd64 0x10068 → bit (s.rd F.PWR_WAKE_EN_SRC) 0 = true →
    Runs (.timerWake) s fun u =>
      bit (u.rd F.PWR_WAKE_SRC_SRC) 0 = true ∧
      (s.lehr.s4 = true → u.lehr.waking = true) ∧
      (s.lehr.s4 = false → s.pwr.s4Entry = true → u.pwr.s4Entry = false ∧ u.rd F.PWR_STAT_S4_RESULT = 2 ∧
          Pends u Ev.PWR_S4_ABORT)) ∧
  -- timerWaits
  (∀ (s : State), (s.rd64 0x10068 < s.rd64 0x10070 ∨ bit (s.rd F.PWR_WAKE_EN_SRC) 0 = false) →
    Runs (.timerWake) s fun u =>
      u = s) ∧
  -- wakeNDisabled
  (∀ (s : State), bit (s.rd F.PWR_WAKE_EN_SRC) 1 = false →
    Runs (.wakeN) s fun u =>
      u = s) ∧
  -- xtalGood
  (∀ (s : State), s.lehrOn = true → s.on F.PWR_STAT_ON_XTAL = false →
    Runs (.xtalGood) s fun u =>
      (u.rd F.PWR_STAT_XTAL_OK = 1 ∧ u.rd F.PWR_STAT_ON_XTAL = 1) ∧
      (s.spineOn = true → Pends u Ev.PWR_XTAL) ∧
      (s.spineOn = false → ∀ o, o ≠ 0x10004 → u.reg o = s.reg o)) ∧
  -- xtalLoss
  (∀ (s : State), s.lehrOn = true → s.on F.PWR_STAT_ON_XTAL = true →
    Runs (.xtalLoss) s fun u =>
      (u.rd F.PWR_STAT_XTAL_OK = 0 ∧ u.rd F.PWR_STAT_ON_XTAL = 0) ∧
      (s.spineOn = true → Pends u Ev.PWR_XTAL)) ∧
  -- xtalStays
  (∀ (s : State), s.on F.PWR_STAT_ON_XTAL = true →
    Runs (.xtalGood) s fun u =>
      u = s) ∧
  -- pwrSaveOfsWrite
  (∀ (s : State) (p : Path) (v : BitVec 32), s.live = true → s.pathOpen p = true →
    Runs (.pwrSaveOfsWrite p v) s fun u =>
      Tab.get (fun _ => (0, 0)) u.lehr.save (s.rd F.PWR_SAVE_IDX_IDX) = (slice v.toNat 25 2 * 4,
          (Tab.get (fun _ => (0, 0)) s.lehr.save (s.rd F.PWR_SAVE_IDX_IDX)).2) ∧
      u.rd F.PWR_SAVE_IDX_IDX = (s.rd F.PWR_SAVE_IDX_IDX + 1) % 8192 ∧
      (∀ i, i ≠ s.rd F.PWR_SAVE_IDX_IDX → Tab.get (fun _ => (0, 0)) u.lehr.save i = Tab.get (fun _ => (0,
          0)) s.lehr.save i)) ∧
  -- supplyPowerGoodLoss
  (∀ (s : State), s.lehrOn = true →
    Runs (.supplyPowerGoodLoss) s fun u =>
      (s.lehr.s4 = true → u = s.withLehr { s.lehr with railsOff := true }) ∧
      (s.lehr.s4 = false → u = s.withFab { s.fab with supplyLost := true })) ∧
  -- seqPgRise
  (∀ (s : State), s.lehrOn = true →
    Runs (.seqPgRise) s fun u =>
      (u.lehr = { s.lehr with railsOff := false } ∧ u.fab = { s.fab with supplyLost := false }) ∧
      Keeps [.lehr, .fab] s u)

/-- An occurrence by its class: F0 enters the safe state, F1 begins the containment, F2 fences its region, F3 is
recorded; broken wires and silent pairs are marked; the pulse of LC_FAULT_N ends. That the wire of an F2 source
fences no region is a DESIGN CHOICE (log entry 105). Rests on: R374, R384, R385, R387, R389, R390, R391, R392,
R396, R398, R399, R400. -/
def Obligations.Faults : Prop :=
  -- faultF0
  (∀ (s : State) (src : Fin 64) (detail : BitVec 32), s.live = true → src.val ≤ 2 → s.safe = false →
      s.shows src.val detail.toNat = true →
    Runs (.faultOccurrence src detail []) s fun u =>
      u.rd F.SYS_START_STAT_PHASE = 7 ∧
      (u.rd F.FLT_STAT_F0 = 1 ∧ u.rd F.FLT_STAT_PIN_LEVEL = 0) ∧
      (Pends u Ev.FLT_F0 ∧ Pends u Ev.SYS_SAFE) ∧
      (∀ c, c < 16 → u.rd (F.SEC_STATUS_PSTATE c) = 3) ∧
      (u.rd (F.HBM_STATUS_SELF_REFRESH 0) = 1 ∧ u.rd (F.HBM_STATUS_SELF_REFRESH 1) = 1) ∧
      u.rd F.PCI_MBX_STAT_READY = 0 ∧
      (s.on F.FLT_FIRST_SRC_VALID = false → (u.reg 0x30008).toNat = 2 ^ 31 + src.val ∧ u.reg 0x3000c = detail) ∧
      u.attempt = s.attempt) ∧
  -- faultF0Safe
  (∀ (s : State) (src : Fin 64) (detail : BitVec 32), s.live = true → (src.val = 0 ∨ src.val = 2) → s.safe = true →
    Runs (.faultOccurrence src detail []) s fun u =>
      u.flt.seq = (s.flt.seq + 1) % 2 ^ 32 ∧
      u.rd F.FLT_STAT_F0 = s.rd F.FLT_STAT_F0 ∧
      (∀ c, u.rd (F.SEC_STATUS_PSTATE c) = s.rd (F.SEC_STATUS_PSTATE c))) ∧
  -- faultF1
  (∀ (s : State) (src : Fin 64) (detail : BitVec 32), s.live = true → (8 ≤ src.val ∧ src.val ≤ 12) → s.safe = false →
      s.flt.f1 = false →
    Runs (.faultOccurrence src detail []) s fun u =>
      u.flt.f1 = true ∧
      u.lehr.prev = some (2 ^ 31 + 2 ^ 28 + src.val, detail.toNat, s.now) ∧
      u.rd F.FLT_STAT_PIN_LEVEL = 0 ∧
      (∀ n, n < 16 → (s.gaf n).phase = .window → (u.gaf n).outBad = true) ∧
      (s.on F.FLT_FIRST_SRC_VALID = false → (u.reg 0x30008).toNat = 2 ^ 31 + 2 ^ 28 + src.val ∧
          u.reg 0x3000c = detail)) ∧
  -- faultF2
  (∀ (s : State) (src : Fin 64) (detail : BitVec 32) (n cause : Nat), s.live = true → (16 ≤ src.val ∧ src.val ≤ 20) →
      s.faultRegion src detail.toNat = some n → s.flt.f1 = false → s.safe = false → s.run n ≠ 1 → s.run n ≠ 5 →
      (s.gaf n).fence = none → (cause = if src.val = 19 then 5 else 4) →
    Runs (.faultOccurrence src detail []) s fun u =>
      Counted s u F.FLT_F2_CNT_COUNT ∧
      Pends u Ev.FLT_F2 ∧
      (∀ e, sourceEvent src.val = some e → Pends u e) ∧
      ((s.gaf n).phase = .none → u.run n = 5 ∧ u.rd (F.GAF_STATUS_CAUSE n) = cause ∧
          bit (u.rd F.FLT_STAT_FENCED) n = true ∧ u.rd (F.FLT_FENCE_LAST_SOURCE n) = src.val ∧
          u.rd (F.FLT_FENCE_COUNT n) = min 0xffff (s.rd (F.FLT_FENCE_COUNT n) + 1) ∧ Pends u (Ev.GAF n 7)) ∧
      ((s.gaf n).phase ≠ .none → (u.gaf n).fence = some (cause, src.val) ∧ (u.gaf n).next = none ∧ u.run n = s.run n)) ∧
  -- faultF2Loading
  (∀ (s : State) (src : Fin 64) (detail : BitVec 32) (n : Nat), s.live = true → (16 ≤ src.val ∧ src.val ≤ 20) →
      s.faultRegion src detail.toNat = some n → s.flt.f1 = false → s.safe = false → s.run n = 1 →
      (s.gaf n).fence = none →
    Runs (.faultOccurrence src detail []) s fun u =>
      Counted s u F.FLT_F2_CNT_COUNT ∧
      Pends u Ev.FLT_F2 ∧
      (u.run n = 0 ∧ u.rd (F.GAF_STATUS_CAUSE n) = 6)) ∧
  -- faultF2Contained
  (∀ (s : State) (src : Fin 64) (detail : BitVec 32), s.live = true → (16 ≤ src.val ∧ src.val ≤ 20) →
      (s.flt.f1 = true ∨ s.safe = true) →
    Runs (.faultOccurrence src detail []) s fun u =>
      Counted s u F.FLT_F2_CNT_COUNT ∧
      u.flt.seq = (s.flt.seq + 1) % 2 ^ 32 ∧
      (u.gafs = s.gafs ∧ u.pwr = s.pwr)) ∧
  -- faultStepPll
  (∀ (s : State) (src : Fin 64) (detail : BitVec 32), s.live = true → src.val = 21 → s.flt.f1 = false →
      s.safe = false →
    Runs (.faultOccurrence src detail []) s fun u =>
      Pends u Ev.FLT_F2 ∧
      (∀ n, n < 16 → 2 ≤ s.run n → s.run n ≤ 4 → (s.gaf n).fence = none →
          if (s.gaf n).phase = .none then u.run n = 5 else (u.gaf n).fence = some (4, 21))) ∧
  -- faultNoRegion
  (∀ (s : State) (src : Fin 64) (detail : BitVec 32), s.live = true → (16 ≤ src.val ∧ src.val ≤ 20) →
      s.faultRegion src detail.toNat = none →
    Runs (.faultOccurrence src detail []) s fun u =>
      Counted s u F.FLT_F2_CNT_COUNT ∧
      Pends u Ev.FLT_F2 ∧
      u.gafs = s.gafs) ∧
  -- faultF3
  (∀ (s : State) (src : Fin 64) (detail : BitVec 32), s.live = true → (24 ≤ src.val ∧ src.val ≤ 29) →
      s.shows src.val detail.toNat = true →
    Runs (.faultOccurrence src detail []) s fun u =>
      Counted s u F.FLT_F3_CNT_COUNT ∧
      Pends u Ev.FLT_F3 ∧
      (∀ e, sourceEvent src.val = some e → Pends u e) ∧
      (u.gafs = s.gafs ∧ u.pwr = s.pwr) ∧
      ((s.rd F.FLT_LOG_HEAD_HEAD + 128 - s.rd F.FLT_LOG_TAIL_TAIL) % 128 ≠ 64 →
          u.rd F.FLT_LOG_HEAD_HEAD = (s.rd F.FLT_LOG_HEAD_HEAD + 1) % 128) ∧
      ((s.rd F.FLT_LOG_HEAD_HEAD + 128 - s.rd F.FLT_LOG_TAIL_TAIL) % 128 = 64 →
          u.rd F.FLT_LOG_HEAD_HEAD = s.rd F.FLT_LOG_HEAD_HEAD ∧ Counted s u F.FLT_OVF_CNT_COUNT ∧
          u.rd F.FLT_STAT_OVERFLOW = 1) ∧
      (src.val = 28 → (Tab.get (fun _ => (0, 0)) u.lehr.save (detail.toNat % 8192)).1 % 2 = 0) ∧
      (src.val = 29 → toSigned 8 (s.rd F.FLT_TEMP_MAX) < toSigned 8 detail.toNat →
          u.rd F.FLT_TEMP_MAX = detail.toNat % 256)) ∧
  -- faultNotShown
  (∀ (s : State) (src : Fin 64) (detail : BitVec 32), s.live = true → s.shows src.val detail.toNat = false →
    Runs (.faultOccurrence src detail []) s fun u =>
      (u.flt = s.flt ∧ u.gafs = s.gafs ∧ u.pwr = s.pwr) ∧
      u.rd F.FLT_LOG_HEAD_HEAD = s.rd F.FLT_LOG_HEAD_HEAD ∧
      (toSigned 8 (u.rd F.FLT_TEMP_MAX) = if s.leftOut src.val detail.toNat then toSigned 8 (s.rd F.FLT_TEMP_MAX)
          else max (toSigned 8 (s.rd F.FLT_TEMP_MAX)) (toSigned 8 (detail.toNat % 256)))) ∧
  -- faultsTogether
  (∀ (s : State) (src x : Fin 64) (detail d : BitVec 32), s.live = true → (24 ≤ src.val ∧ src.val < x.val ∧
      x.val ≤ 28) → s.on F.FLT_FIRST_SRC_VALID = false →
      (s.rd F.FLT_LOG_HEAD_HEAD + 128 - s.rd F.FLT_LOG_TAIL_TAIL) % 128 < 63 →
    Runs (.faultOccurrence x d [(src, detail)]) s fun u =>
      ((u.reg 0x30008).toNat = 2 ^ 31 + 3 * 2 ^ 28 + src.val ∧ u.reg 0x3000c = detail) ∧
      u.rd F.FLT_LOG_HEAD_HEAD = (s.rd F.FLT_LOG_HEAD_HEAD + 2) % 128 ∧
      u.flt.seq = (s.flt.seq + 2) % 2 ^ 32 ∧
      u.rd F.FLT_F3_CNT_COUNT = min 0xffffffff (s.rd F.FLT_F3_CNT_COUNT + 2)) ∧
  -- faultUnused
  (∀ (s : State) (src : Fin 64) (detail : BitVec 32), s.live = true → faultClass src = none →
    Runs (.faultOccurrence src detail []) s fun u =>
      u = s) ∧
  -- brokenWire
  (∀ (s : State) (src : Fin 64) (c : Nat), s.live = true → faultClass src = some c → s.safe = false →
      s.flt.f1 = false →
    Runs (.brokenWire src) s fun u =>
      (u.rd F.FLT_STAT_WIRE = 1 ∧ Pends u Ev.FLT_WIRE) ∧
      bit (u.reg (0x30030 + 4 * (src.val / 32))).toNat (src.val % 32) = true ∧
      (c = 0 → u.rd F.SYS_START_STAT_PHASE = 7 ∧ u.rd F.FLT_STAT_F0 = 1) ∧
      (c = 1 → u.flt.f1 = true) ∧
      (c = 2 → Counted s u F.FLT_F2_CNT_COUNT ∧ Pends u Ev.FLT_F2 ∧ u.gafs = s.gafs) ∧
      (c = 3 → Counted s u F.FLT_F3_CNT_COUNT ∧ Pends u Ev.FLT_F3 ∧ u.gafs = s.gafs)) ∧
  -- brokenWireUnused
  (∀ (s : State) (src : Fin 64), s.live = true → faultClass src = none →
    Runs (.brokenWire src) s fun u =>
      u = s) ∧
  -- pairTest
  (∀ (s : State), s.live = true →
    Runs (.pairTest) s fun u =>
      u.rd F.FLT_STAT_TEST_BUSY = 1 ∧
      u.flt = { s.flt with testAt := s.real } ∧
      Keeps [.fltRegs, .flt] s u) ∧
  -- pairTestTimeout
  (∀ (s : State) (src : Fin 64), s.live = true → (faultClass src).isSome = true →
    Runs (.pairTestTimeout src) s fun u =>
      (u.rd F.FLT_STAT_WIRE = 1 ∧ Pends u Ev.FLT_WIRE) ∧
      bit (u.reg (0x30030 + 4 * (src.val / 32))).toNat (src.val % 32) = true ∧
      Counted s u F.FLT_F3_CNT_COUNT ∧
      Pends u Ev.FLT_F3 ∧
      (u.gafs = s.gafs ∧ u.pwr = s.pwr)) ∧
  -- mcWatchdog
  (∀ (s : State), s.live = true → s.safe = false → s.flt.f1 = false →
    Runs (.mcWatchdog) s fun u =>
      u.flt.f1 = true ∧
      u.lehr.prev = some (2 ^ 31 + 2 ^ 28 + 10, 0, s.now) ∧
      u.rd F.FLT_STAT_PIN_LEVEL = 0) ∧
  -- mcWatchdogContained
  (∀ (s : State), s.live = true → (s.safe = true ∨ s.flt.f1 = true) →
    Runs (.mcWatchdog) s fun u =>
      (u.lehr = s.lehr ∧ u.gafs = s.gafs) ∧
      (u.flt.f1 = s.flt.f1 ∧ u.flt.seq = (s.flt.seq + 1) % 2 ^ 32)) ∧
  -- lcFaultPulseEnd
  (∀ (s : State) (netLow : Bool), s.live = true →
    Runs (.lcFaultPulseEnd netLow) s fun u =>
      u.rd F.FLT_STAT_PIN_LEVEL = b2n (!s.on F.FLT_STAT_F0 && !s.flt.f1 && !s.start.f1 && !netLow) ∧
      u.flt = { s.flt with pulses := false, netLow := netLow } ∧
      Keeps [.fltRegs, .flt] s u)

/-- BIST_RUN wakes the sectors of its scopes and ends with its report; a slice marches one spare; the idle-gap scan
goes on by one location. That RESULT counts blocks that could not be tested too is DEDUCED (log entry 112), and
that a tested tile is listed under its patterns is a DESIGN CHOICE (log entry 162). Rests on: R363, R403, R404,
R405, R409, R410, R411, R412, R413, R414. -/
def Obligations.Bist : Prop :=
  -- bistRun
  (∀ (s : State) (c : MbxCmd), s.live = true → s.longNext 0x30 = some c →
      c.reservedZero (4 :: (upTo 8).map fun k => 8 + k) = true → c.byte 4 < 16 → inHbm (c.num 8 8) 8 = true →
      s.scopeOk (c.byte 4) = true →
    Runs (.bistRun) s fun u =>
      u.rd F.BST_STAT_BUSY = 1 ∧
      u.pwr.testUse = s.scopeWakes (c.byte 4) ∧
      u.mbx.longRun = some c ∧
      (∀ x ∈ s.scopeWakes (c.byte 4), s.rd (F.SEC_STATUS_PSTATE x) ≠ 0 → (s.dom x).down = none →
          s.on (F.SEC_STATUS_UNUSABLE x) = false → s.on F.FLT_STAT_F0 = false → (u.dom x).waking = true)) ∧
  -- bistRunBadState
  (∀ (s : State) (c : MbxCmd), s.live = true → s.longNext 0x30 = some c → c.seen →
      c.reservedZero (4 :: (upTo 8).map fun k => 8 + k) = true → c.byte 4 < 16 → inHbm (c.num 8 8) 8 = true →
      s.scopeOk (c.byte 4) = false →
    Runs (.bistRun) s fun u =>
      Completed s u c 3 0 ∧
      u.pwr = s.pwr) ∧
  -- bistRunComplete
  (∀ (s : State) (found : List Found) (c : MbxCmd), s.live = true → s.mbx.longRun = some c → c.seen →
      c.byte 0 = 0x30 →
      s.hbmReady (c.num 8 8) (8 + 8 * min 4096 (found.filter (s.inScope (c.byte 4))).length) = true →
      ((s.scopeWakes (c.byte 4)).all fun x => s.rd (F.SEC_STATUS_PSTATE x) == 0) = true →
      inHbm (c.num 8 8) (8 + 8 * min 4096 (found.filter (s.inScope (c.byte 4))).length) = true →
    Runs (.bistRunComplete found) s fun u =>
      Completed s u c 0 (found.filter (s.inScope (c.byte 4))).length ∧
      u.rd F.BST_STAT_BUSY = b2n s.bst.slice.isSome ∧
      Pends u Ev.BST_DONE ∧
      u.pwr.testUse = [] ∧
      (∀ pt ∈ s.scopeTiles (c.byte 4), pt ∈ u.bst.patterns) ∧
      (∀ x ∈ s.scopeSectors (c.byte 4), s.on (F.SEC_CTRL_ASSIGNED x) = true →
          u.rd (F.GAF_STATUS_READY_A (s.rd (F.SEC_CTRL_REGION x))) = 0 ∧
          u.rd (F.GAF_STATUS_READY_B (s.rd (F.SEC_CTRL_REGION x))) = 0) ∧
      ((stacksTouched (c.num 8 8) (8 + 8 * min 4096 (found.filter (s.inScope (c.byte 4))).length)).any s.stackDead =
          false → Bytes.read u.hbm (c.num 8 8) 8 = leBytes 8 (found.filter (s.inScope (c.byte 4))).length) ∧
      (∀ a, (a < c.num 8 8 ∨ c.num 8 8 + 8 + 8 * min 4096 (found.filter (s.inScope (c.byte 4))).length ≤ a) →
          Bytes.get u.hbm a = Bytes.get s.hbm a) ∧
      (((found.filter (s.inScope (c.byte 4))).any fun x => !bit x.word.toNat 47) = true → u.rd F.BST_STAT_FAIL = 1 ∧
          Pends u Ev.BST_FAIL)) ∧
  -- bistRunWaits
  (∀ (s : State) (found : List Found) (c : MbxCmd), s.live = true → s.mbx.longRun = some c → c.byte 0 = 0x30 →
      s.hbmReady (c.num 8 8) (8 + 8 * min 4096 (found.filter (s.inScope (c.byte 4))).length) = false →
    Runs (.bistRunComplete found) s fun u =>
      (u.mbx = s.mbx ∧ u.bst = s.bst ∧ u.hbm = s.hbm) ∧
      u.rd F.BST_STAT_BUSY = s.rd F.BST_STAT_BUSY) ∧
  -- bistIdle
  (∀ (s : State) (found : List Found), s.live = true → s.mbx.longRun = none →
    Runs (.bistRunComplete found) s fun u =>
      u = s) ∧
  -- periodicSlice
  (∀ (s : State) (c : Nat), s.live = true → s.on F.BST_CTRL_SLICE_EN = true → s.bst.slice = none →
      s.on F.BST_STAT_BUSY = false →
      (((upTo 16).map fun i => (s.bst.nextSpare + i) % 16).find? fun c => s.sliceable c) = some c →
    Runs (.periodicSlice) s fun u =>
      (u.bst.slice = some (9 * c + 8) ∧ u.bst.nextSpare = c) ∧
      u.rd F.BST_STAT_BUSY = 1 ∧
      (s.rd (F.SEC_STATUS_PSTATE c) ≠ 0 → (s.dom c).down = none → s.on F.FLT_STAT_F0 = false →
          (u.dom c).waking = true) ∧
      (u.hbm = s.hbm ∧ u.steps = s.steps ∧ u.routes = s.routes ∧ u.dm = s.dm)) ∧
  -- sliceOff
  (∀ (s : State), s.live = true → (s.on F.BST_CTRL_SLICE_EN = false ∨ s.bst.slice.isSome = true ∨
      s.on F.BST_STAT_BUSY = true) →
    Runs (.periodicSlice) s fun u =>
      u = s) ∧
  -- sliceEnd
  (∀ (s : State) (found : List Found) (pt : Nat), s.live = true → s.bst.slice = some pt →
      s.rd (F.SEC_STATUS_PSTATE (pt / 9)) = 0 →
    Runs (.sliceEnd found) s fun u =>
      u.bst.slice = none ∧
      u.rd F.BST_STAT_BUSY = b2n s.bistCmd.isSome ∧
      pt ∈ u.bst.patterns ∧
      (u.bst.marched = s.bst.marched + max 10 (min 200 (s.rd F.BST_SLICE_CFG_SLICE_US)) ∨ u.bst.marched = 0 ∧
          u.bst.nextSpare = (s.bst.nextSpare + 1) % 16) ∧
      ((found.any fun x => decide (wStruct x.word.toNat ≤ 6) && wPt x.word.toNat == pt && !bit x.word.toNat 47) =
          true → u.rd F.BST_STAT_FAIL = 1 ∧ Pends u Ev.BST_FAIL)) ∧
  -- sliceWaits
  (∀ (s : State) (found : List Found) (pt : Nat), s.live = true → s.bst.slice = some pt →
      s.rd (F.SEC_STATUS_PSTATE (pt / 9)) ≠ 0 →
    Runs (.sliceEnd found) s fun u =>
      u = s) ∧
  -- noSlice
  (∀ (s : State) (found : List Found), s.live = true → s.bst.slice = none →
    Runs (.sliceEnd found) s fun u =>
      u = s) ∧
  -- idleGapScan
  (∀ (s : State) (n : Fin 16) (bad : Option (Fin 128 × Fin 1024)) (x : State) (a : Nat), s.live = true →
      s.on F.BST_CTRL_GAP_EN = true → s.run n = 2 → (s.gaf n).phase = .none → (s.gaf n).next = none →
      (s.gaf n).dmClear = false → Tab.get (fun _ => 0) s.bst.gap n.val = a → s.gapUpset n a bad = x →
    Runs (.idleGapScan n bad) s fun u =>
      Tab.get (fun _ => 0) u.bst.gap n.val = (a + 1) % 2048 ∧
      (u.dmBad = x.dmBad ∧ u.dm = s.dm ∧ u.flt = s.flt ∧ u.cstore = s.cstore) ∧
      (x.gapFail n a = none → u.regs = s.regs) ∧
      (∀ t, x.gapFail n a = some t → u.rd F.BST_STAT_SUSPECT = 1 ∧ u.rd F.BST_SUSPECT_VALID = 1 ∧
          (s.on F.BST_SUSPECT_VALID = false → (u.reg 0x70048).toNat = (2 ^ 31 + s.phys t) % 2 ^ 32)) ∧
      (∀ t q, bad = some (t, q) → s.tileRegion t = some n.val →
          Tab.get (fun _ => false) u.dmBad (s.dmKey t q a) = true)) ∧
  -- gapScanOff
  (∀ (s : State) (n : Fin 16) (bad : Option (Fin 128 × Fin 1024)), s.live = true → (s.on F.BST_CTRL_GAP_EN = false ∨
      s.run n ≠ 2) →
    Runs (.idleGapScan n bad) s fun u =>
      u = s)

/-- LC_TRANSITION is turned away or accepted, its end programs the OTP or fails, and a grant, the lockout and every
scope end as R428 and R429 say. Rests on: R416, R418, R419, R420, R421, R428, R429. -/
def Obligations.Lifecycle : Prop :=
  -- lcTransition
  (∀ (s : State) (c : MbxCmd), s.live = true → s.longNext 0x40 = some c → c.reservedZero [4] = true → c.byte 4 ≤ 4 →
      s.transAnswer c (c.byte 4) = none →
    Runs (.lcTransition) s fun u =>
      u.lcs.trans = some (c.byte 4) ∧
      u.rd F.LCS_STATE_TRANS_BUSY = 1 ∧
      u.lcs.granted = 0 ∧
      u.mbx.longRun = some c ∧
      u.otp = s.otp ∧
      (s.lcs.granted ≠ 0 → Pends u Ev.LCS_SCOPE_END ∧ u.lcs.ends = none)) ∧
  -- lcTransitionAnswered
  (∀ (s : State) (c : MbxCmd) (code : Nat), s.live = true → s.longNext 0x40 = some c → c.seen →
      c.reservedZero [4] = true → c.byte 4 ≤ 4 → s.transAnswer c (c.byte 4) = some code →
    Runs (.lcTransition) s fun u =>
      (Completed s u c code (if code = 0 then s.lcState else 0)) ∧
      u.lcs = s.lcs ∧
      u.otp = s.otp ∧
      u.mbx.longRun = none) ∧
  -- lcTransitionBadParam
  (∀ (s : State) (c : MbxCmd), s.live = true → s.longNext 0x40 = some c → c.seen → (c.reservedZero [4] = false ∨
      4 < c.byte 4) →
    Runs (.lcTransition) s fun u =>
      Completed s u c 2 0 ∧
      u.lcs = s.lcs ∧
      u.otp = s.otp) ∧
  -- lcTransitionComplete
  (∀ (s : State) (weak : Option (Fin 64)) (t : Nat), s.live = true → s.lcs.trans = some t →
      (s.otp.needsOwner t = false ∨ s.stagedCovers = true) →
      (weak.all fun b => !(s.otp.missing t).contains b.val) = true →
    Runs (.lcTransitionComplete weak) s fun u =>
      u.lcs.trans = none ∧
      u.rd F.LCS_STATE_TRANS_BUSY = 0 ∧
      Pends u Ev.LCS_TRANS_DONE ∧
      (t ≠ 3 → u.otp = s.programOtp t (s.otp.operations t)) ∧
      (t ≠ 3 → u.rd F.LCS_STATE = lcDecode (s.programOtp t (s.otp.operations t)).lc) ∧
      (∀ c ∈ s.mbx.longRun, c.seen → t ≠ 3 → Completed s u c 0 t ∧ u.mbx.longRun = none) ∧
      (t = 3 → u.otp.destroyed = true ∧ u.ldr.load = some ⟨2, 0, 0, 0, true, false⟩ ∧ u.start.boot = [] ∧
          u.rd F.PCI_MBX_STAT_READY = 1)) ∧
  -- lcTransitionUncovered
  (∀ (s : State) (weak : Option (Fin 64)) (t : Nat), s.live = true → s.lcs.trans = some t →
      s.otp.needsOwner t = true → s.stagedCovers = false →
    Runs (.lcTransitionComplete weak) s fun u =>
      u.otp = s.otp ∧
      u.lcs.trans = none ∧
      (u.rd F.LCS_STATE_TRANS_BUSY = 0 ∧ u.rd F.LCS_STAT_TRANS_ERR = 1) ∧
      Pends u Ev.LCS_TRANS_FAIL ∧
      (∀ c ∈ s.mbx.longRun, c.seen → Completed s u c 6 1)) ∧
  -- lcTransitionWeak
  (∀ (s : State) (b : Fin 64) (t : Nat), s.live = true → s.lcs.trans = some t → (s.otp.needsOwner t = false ∨
      s.stagedCovers = true) → (s.otp.missing t).contains b.val = true →
    Runs (.lcTransitionComplete (some b)) s fun u =>
      u.otp.lc.testBit b.val = false ∧
      (∀ i < b.val, (s.otp.missing t).contains i = true → u.otp.lc.testBit i = true) ∧
      u.lcs.trans = none ∧
      (u.rd F.LCS_STATE_TRANS_BUSY = 0 ∧ u.rd F.LCS_STAT_TRANS_ERR = 1) ∧
      Pends u Ev.LCS_TRANS_FAIL ∧
      (∀ c ∈ s.mbx.longRun, c.seen → Completed s u c 6 2)) ∧
  -- noTransition
  (∀ (s : State) (weak : Option (Fin 64)), s.live = true → s.lcs.trans = none →
    Runs (.lcTransitionComplete weak) s fun u =>
      u = s) ∧
  -- grantExpiry
  (∀ (s : State) (e : Nat), s.live = true → s.lcs.ends = some e → e ≤ s.rd64 0x10068 → s.lcs.granted ≠ 0 →
    Runs (.grantExpiry) s fun u =>
      (u.lcs.granted = 0 ∧ u.lcs.ends = none) ∧
      (u.scopes = (if lcDecode s.otp.lc = 4 then 0 else lcScopes (lcDecode s.otp.lc))) ∧
      Pends u Ev.LCS_SCOPE_END) ∧
  -- grantHolds
  (∀ (s : State), s.live = true → (s.lcs.ends.all fun e => s.rd64 0x10068 < e) = true →
    Runs (.grantExpiry) s fun u =>
      u = s) ∧
  -- lockoutExpiry
  (∀ (s : State) (t : Nat), s.live = true → s.lehr.lockedAt = some t → t + 327680 ≤ s.rd64 0x10068 →
    Runs (.lockoutExpiry) s fun u =>
      u.lehr = { s.lehr with lockedAt := none, authFails := 0 } ∧
      u.rd F.LCS_STAT_LOCKOUT = 0 ∧
      Keeps [.lcsRegs, .lehr] s u) ∧
  -- lockoutHolds
  (∀ (s : State), s.live = true → (s.lehr.lockedAt.all fun t => s.rd64 0x10068 < t + 327680) = true →
    Runs (.lockoutExpiry) s fun u =>
      u = s) ∧
  -- lcsDbgRelease
  (∀ (s : State) (p : Path) (v : BitVec 32), s.live = true → s.pathOpen p = true → v.toNat < 2 →
    Runs (.lcsDbgRelease p v) s fun u =>
      u.lcs.granted = 0 ∧
      u.rd F.LCS_DBG_CTRL_RELEASE = 0 ∧
      (s.lcs.granted ≠ 0 → u.lcs.ends = none ∧ Pends u Ev.LCS_SCOPE_END) ∧
      (s.lcs.granted = 0 → u.lcs = s.lcs))

/-- CHALLENGE, RESPONSE and RELEASE in PRODUCTION, ATTEST, and the refusals in the lockout and without a key. Rests on:
R281, R417, R425, R426, R427, R428, R429. -/
def Obligations.DebugAuth : Prop :=
  -- debugAuthChallenge
  (∀ (s : State) (c : MbxCmd), s.live = true → s.shortNext 0x41 = some c → c.seen → c.byte 4 = 0 →
      c.authOk 64 = true → s.authGate = none → s.bufferSleeps (c.num 8 8) 64 = [] →
      s.bufferDead (c.num 8 8) 64 = false → s.on F.LCS_STAT_LOCKOUT = false →
    Runs (.debugAuthChallenge) s fun u =>
      u.lcs = { s.lcs with challenge := some s.newChallenge } ∧
      Completed s u c 0 s.scopes ∧
      ((stacksTouched (c.num 8 8) 64).any s.stackDead = false → Bytes.read u.hbm (c.num 8 8) 64 = s.newChallenge) ∧
      (∀ a, (a < c.num 8 8 ∨ c.num 8 8 + 64 ≤ a) → Bytes.get u.hbm a = Bytes.get s.hbm a) ∧
      u.free = s.free + 1) ∧
  -- debugAuthChallengeLocked
  (∀ (s : State) (c : MbxCmd), s.live = true → s.shortNext 0x41 = some c → c.seen → c.byte 4 = 0 →
      c.authOk 64 = true → s.authGate = none → s.bufferSleeps (c.num 8 8) 64 = [] → s.on F.LCS_STAT_LOCKOUT = true →
    Runs (.debugAuthChallenge) s fun u =>
      Completed s u c 5 0 ∧
      u.lcs = s.lcs ∧
      u.hbm = s.hbm) ∧
  -- debugAuthGated
  (∀ (s : State) (c : MbxCmd) (code : Nat), s.live = true → s.shortNext 0x41 = some c → c.seen → c.byte 4 = 0 →
      c.authOk 64 = true → s.authGate = some code →
    Runs (.debugAuthChallenge) s fun u =>
      (Completed s u c code (if code = 0 then s.scopes else 0)) ∧
      u.lcs = s.lcs ∧
      u.hbm = s.hbm) ∧
  -- debugAuthResponse
  (∀ (s : State) (c : MbxCmd), s.live = true → s.shortNext 0x41 = some c → c.seen → c.byte 4 = 1 →
      c.authOk 216 = true → s.authGate = none → s.bufferSleeps (c.num 8 8) 216 = [] →
      s.bufferDead (c.num 8 8) 216 = false → s.badWords (c.num 8 8) 216 = [] →
      (stacksTouched (c.num 8 8) 216).any s.stackDead = false →
    Runs (.debugAuthResponse) s fun u =>
      u.lcs.challenge = none ∧
      (s.responseOk (Bytes.read s.hbm (c.num 8 8) 216) = true →
          u.lcs.granted = s.lcs.granted ||| fieldAt (Bytes.read s.hbm (c.num 8 8) 216) 8 4) ∧
      (s.responseOk (Bytes.read s.hbm (c.num 8 8) 216) = true → u.lehr.authFails = 0 ∧ Pends u Ev.LCS_AUTH_GRANT ∧
          Completed s u c 0 u.scopes) ∧
      (s.responseOk (Bytes.read s.hbm (c.num 8 8) 216) = false → u.lehr.authFails = s.lehr.authFails + 1 ∧
          u.rd F.LCS_STAT_AUTH_FAIL = 1 ∧ Pends u Ev.LCS_AUTH_FAIL ∧ Completed s u c 5 0 ∧
          Counted s u F.LCS_AUTH_FAIL_CNT_COUNT ∧ u.lcs.granted = s.lcs.granted) ∧
      (s.responseOk (Bytes.read s.hbm (c.num 8 8) 216) = false → s.lehr.authFails = 3 → u.rd F.LCS_STAT_LOCKOUT = 1 ∧
          u.lehr.lockedAt = some (s.rd64 0x10068))) ∧
  -- debugAuthRelease
  (∀ (s : State) (c : MbxCmd), s.live = true → s.shortNext 0x41 = some c → c.seen → c.byte 4 = 2 →
      c.authOk 0 = true → s.authGate = none →
    Runs (.debugAuthRelease) s fun u =>
      u.lcs.granted = 0 ∧
      (s.lcs.granted ≠ 0 → Pends u Ev.LCS_SCOPE_END) ∧
      Completed s u c 0 u.scopes) ∧
  -- debugAuthNone
  (∀ (s : State), s.live = true → s.shortNext 0x41 = none →
    Runs (.debugAuthRelease) s fun u =>
      u = s) ∧
  -- attest
  (∀ (s : State) (c : MbxCmd), s.live = true → s.longNext 0x50 = some c → c.seen →
      c.reservedZero ((upTo 24).map fun k => 8 + k) = true → s.keyless = false →
      (s.on (F.HBM_STATUS_TRAINED 0) = true ∧ s.on (F.HBM_STATUS_TRAINED 1) = true) → (s.mustWait 16 = false ∧
      s.mustWait 17 = false) → s.badWords (c.num 8 8) 16 = [] → (s.stackDead 0 = false ∧ s.stackDead 1 = false) →
    Runs (.attest) s fun u =>
      (inHbm (c.num 8 8) s.reportLen = true → Completed s u c 0 s.reportLen ∧ Counted s u F.LCS_ATTEST_CNT_COUNT) ∧
      (inHbm (c.num 8 8) s.reportLen = true →
          Bytes.read u.hbm (c.num 8 8) (s.reportLen - 96) = s.report425 (leBytes 16 (c.num 16 16) ++
          Bytes.read s.hbm (c.num 8 8) 16)) ∧
      (∀ a, (a < c.num 8 8 ∨ c.num 8 8 + s.reportLen ≤ a) → Bytes.get u.hbm a = Bytes.get s.hbm a) ∧
      (inHbm (c.num 8 8) s.reportLen = false → Completed s u c 2 0 ∧ u.hbm = s.hbm)) ∧
  -- attestDenied
  (∀ (s : State) (c : MbxCmd), s.live = true → s.longNext 0x50 = some c → c.seen →
      c.reservedZero ((upTo 24).map fun k => 8 + k) = true → s.keyless = true →
    Runs (.attest) s fun u =>
      (inHbm (c.num 8 8) s.reportLen = true → Completed s u c 5 0 ∧ Counted s u F.LCS_ATTEST_CNT_COUNT) ∧
      u.hbm = s.hbm)

/-- Each supported request answers over the DOE mailbox and raises PCI_DOE; an unsupported one, and any without a key,
answers ERROR. The response codes and the places of the capability bits are SPDM 1.2's (PRESUMED, log entry 116),
no words of this specification. Rests on: R270, R289, R417, R422, R423, R424. -/
def Obligations.Spdm : Prop :=
  -- getVersion
  (∀ (s : State), s.live = true → s.on F.PCI_STAT_READY = true → s.keyless = false →
    Runs (.getVersion) s fun u =>
      (∃ l : List Output, u.out = s.out ++ (Output.spdm 0x04 [0x12] :: l)) ∧
      Pends u Ev.PCI_DOE) ∧
  -- getCapabilities
  (∀ (s : State), s.live = true → s.on F.PCI_STAT_READY = true → s.keyless = false →
    Runs (.getCapabilities) s fun u =>
      (∃ l : List Output, u.out = s.out ++ (Output.spdm 0x61 (leBytes 4 0x16) :: l)) ∧
      Pends u Ev.PCI_DOE) ∧
  -- negotiateAlgorithms
  (∀ (s : State), s.live = true → s.on F.PCI_STAT_READY = true → s.keyless = false →
    Runs (.negotiateAlgorithms) s fun u =>
      (∃ l : List Output, u.out = s.out ++ (Output.spdm 0x63 (leBytes 4 0x80 ++ leBytes 4 2 ++ leBytes 4 4) :: l)) ∧
      Pends u Ev.PCI_DOE) ∧
  -- getDigests
  (∀ (s : State), s.live = true → s.on F.PCI_STAT_READY = true → s.keyless = false →
    Runs (.getDigests) s fun u =>
      (∃ l : List Output, u.out = s.out ++ (Output.spdm 0x01 (fit 48 (Config.sha384 s.chain)) :: l)) ∧
      Pends u Ev.PCI_DOE) ∧
  -- getCertificate
  (∀ (s : State) (off len : BitVec 16), s.live = true → s.on F.PCI_STAT_READY = true → s.keyless = false →
    Runs (.getCertificate off len) s fun u =>
      (∃ l : List Output, u.out = s.out ++ (Output.spdm 0x02 ((s.chain.drop off.toNat).take len.toNat) :: l)) ∧
      Pends u Ev.PCI_DOE) ∧
  -- challenge
  (∀ (s : State) (nonce : BitVec 256), s.live = true → s.on F.PCI_STAT_READY = true → s.keyless = false →
    Runs (.challenge nonce) s fun u =>
      (∃ (own sig : List Byte) (l : List Output), own.length = 32 ∧ sig.length = 96 ∧ u.out = s.out ++
          (Output.spdm 0x03 (fit 48 (Config.sha384 s.chain) ++ own ++ sig) :: l)) ∧
      Pends u Ev.PCI_DOE ∧
      u.free = s.free + 1) ∧
  -- getMeasurements
  (∀ (s : State) (nonce : BitVec 256), s.live = true → s.on F.PCI_STAT_READY = true → s.keyless = false →
    Runs (.getMeasurements nonce) s fun u =>
      (∃ (own sig : List Byte) (l : List Output), own.length = 32 ∧ sig.length = 96 ∧ u.out = s.out ++
          (Output.spdm 0x60 (s.measureBytes ++ own ++ sig) :: l)) ∧
      Pends u Ev.PCI_DOE ∧
      u.free = s.free + 1) ∧
  -- spdmUnsupportedRequest
  (∀ (s : State) (code : BitVec 8), s.live = true → s.on F.PCI_STAT_READY = true →
    Runs (.spdmUnsupportedRequest code) s fun u =>
      (∃ l : List Output, u.out = s.out ++ (Output.spdm 0x7f [7] :: l)) ∧
      Pends u Ev.PCI_DOE) ∧
  -- keyless
  (∀ (s : State), s.live = true → s.on F.PCI_STAT_READY = true → s.keyless = true →
    Runs (.getMeasurements 0) s fun u =>
      (∃ l : List Output, u.out = s.out ++ (Output.spdm 0x7f [7] :: l)) ∧
      Pends u Ev.PCI_DOE) ∧
  -- notReady
  (∀ (s : State), s.live = true → s.on F.PCI_STAT_READY = false →
    Runs (.getVersion) s fun u =>
      u = s)

/-- Boundary scan, the identification and bypass registers, the command path, memory access and fabric readback. Rests
on: R26, R279, R417, R426, R430, R431, R432. -/
def Obligations.Punty : Prop :=
  -- extest
  (∀ (s : State) (capture shift : BitVec 1412), s.spineOn = true →
    Runs (.extest capture shift) s fun u =>
      u.jtag = { s.jtag with ir := 0x00, cells := shift } ∧
      (∃ l : List Output, u.out = s.out ++ Output.punty 1 :: l ++ [Output.punty capture.toNat]) ∧
      (pinTaking s.jtag.ir = false → u.rd F.LCS_STAT_BSCAN = 1 ∧ Pends u Ev.LCS_BSCAN) ∧
      (pinTaking s.jtag.ir = true → u.regs = s.regs)) ∧
  -- extestPulse
  (∀ (s : State) (capture shift : BitVec 1412), s.spineOn = true →
    Runs (.extestPulse capture shift) s fun u =>
      u.jtag = { s.jtag with ir := 0x05, cells := shift } ∧
      (∃ l : List Output, u.out = s.out ++ Output.punty 1 :: l ++ [Output.punty capture.toNat]) ∧
      (pinTaking s.jtag.ir = false → u.rd F.LCS_STAT_BSCAN = 1 ∧ Pends u Ev.LCS_BSCAN) ∧
      (pinTaking s.jtag.ir = true → u.regs = s.regs)) ∧
  -- extestTrain
  (∀ (s : State) (capture shift : BitVec 1412), s.spineOn = true →
    Runs (.extestTrain capture shift) s fun u =>
      u.jtag = { s.jtag with ir := 0x06, cells := shift } ∧
      (∃ l : List Output, u.out = s.out ++ Output.punty 1 :: l ++ [Output.punty capture.toNat]) ∧
      (pinTaking s.jtag.ir = false → u.rd F.LCS_STAT_BSCAN = 1 ∧ Pends u Ev.LCS_BSCAN) ∧
      (pinTaking s.jtag.ir = true → u.regs = s.regs)) ∧
  -- samplePreload
  (∀ (s : State) (capture shift : BitVec 1412), s.spineOn = true →
    Runs (.samplePreload capture shift) s fun u =>
      u.jtag = { s.jtag with ir := 0x02, cells := shift } ∧
      u.out = s.out ++ [Output.punty 1, Output.punty capture.toNat] ∧
      Keeps [.out, .jtag] s u) ∧
  -- idcode
  (∀ (s : State), s.spineOn = true →
    Runs (.idcode) s fun u =>
      u.jtag = { s.jtag with ir := 0x01 } ∧
      u.out = s.out ++ [Output.punty 1, Output.punty 0x213129cf] ∧
      Keeps [.out, .jtag] s u) ∧
  -- highz
  (∀ (s : State), s.spineOn = true →
    Runs (.highz) s fun u =>
      u.jtag = { s.jtag with ir := 0x03 } ∧
      (∃ l : List Output, u.out = s.out ++ Output.punty 1 :: l ++ [Output.punty 0]) ∧
      (pinTaking s.jtag.ir = false → u.rd F.LCS_STAT_BSCAN = 1 ∧ Pends u Ev.LCS_BSCAN)) ∧
  -- clamp
  (∀ (s : State), s.spineOn = true →
    Runs (.clamp) s fun u =>
      u.jtag = { s.jtag with ir := 0x04 } ∧
      (∃ l : List Output, u.out = s.out ++ Output.punty 1 :: l ++ [Output.punty 0]) ∧
      (pinTaking s.jtag.ir = false → u.rd F.LCS_STAT_BSCAN = 1 ∧ Pends u Ev.LCS_BSCAN)) ∧
  -- bypass
  (∀ (s : State), s.spineOn = true →
    Runs (.bypass) s fun u =>
      u.jtag = { s.jtag with ir := 0xff } ∧
      u.out = s.out ++ [Output.punty 1, Output.punty 0] ∧
      Keeps [.out, .jtag] s u) ∧
  -- testLogicReset
  (∀ (s : State), s.spineOn = true →
    Runs (.testLogicReset) s fun u =>
      u.jtag = { s.jtag with ir := 0x01 } ∧
      Keeps [.jtag] s u) ∧
  -- lcsCmd
  (∀ (s : State) (v : BitVec 256), s.live = true →
    Runs (.lcsCmd (some v)) s fun u =>
      Output.punty (s.jtag.cpl.getD 0) ∈ u.out ∧
      u.jtag.ir = 0x20 ∧
      (v.toNat % 256 = 0x40 ∨ v.toNat % 256 = 0x50 → (⟨0, v.toNat, false, true⟩ : MbxCmd).paramBad = false →
          u.mbx = { s.mbx with long := s.mbx.long ++ [⟨0, v.toNat, false, true⟩] } ∧ u.jtag.cpl = none) ∧
      (v.toNat % 256 = 0x41 → (⟨0, v.toNat, false, true⟩ : MbxCmd).paramBad = false →
          u.mbx = { s.mbx with short := s.mbx.short ++ [⟨0, v.toNat, false, true⟩] } ∧ u.jtag.cpl = none) ∧
      (v.toNat % 256 = 0x40 ∨ v.toNat % 256 = 0x50 ∨ v.toNat % 256 = 0x41 → (⟨0, v.toNat, false,
          true⟩ : MbxCmd).paramBad = true → u.mbx = s.mbx ∧ u.jtag.cpl.isSome = true) ∧
      (v.toNat % 256 ≠ 0x40 → v.toNat % 256 ≠ 0x50 → v.toNat % 256 ≠ 0x41 → u.mbx = s.mbx ∧ u.jtag.cpl.isSome = true)) ∧
  -- lcsCmdCapture
  (∀ (s : State), s.live = true →
    Runs (.lcsCmd none) s fun u =>
      Output.punty (s.jtag.cpl.getD 0) ∈ u.out ∧
      u.jtag = { s.jtag with ir := 0x20 } ∧
      u.mbx = s.mbx) ∧
  -- dbgMemRead
  (∀ (s : State) (v : BitVec 64) (r : RegRow), s.live = true → s.scopes % 4 / 2 = 1 → v.toNat < 2 ^ 58 →
      v.toNat / 2 ^ 32 % 4 = 0 → inDebug (v.toNat / 2 ^ 32) = false → regRow? (v.toNat / 2 ^ 32) = some r →
      (isPairLo (v.toNat / 2 ^ 32) || isPairLo (v.toNat / 2 ^ 32 - 4) || r.counts) = false →
      stampRegOf (v.toNat / 2 ^ 32) = none → v.toNat / 2 ^ 32 ≠ F.LCS_STAT_BSCAN.off →
      (regPart (v.toNat / 2 ^ 32) ≠ .evtRegs ∧ regPart (v.toNat / 2 ^ 32) ≠ .waitRegs) →
    Runs (.dbgMem v) s fun u =>
      Output.punty s.jtag.access ∈ u.out ∧
      u.jtag.access = (s.peek (v.toNat / 2 ^ 32)).toNat + 2 ^ 32 ∧
      u.jtag.ir = 0x21) ∧
  -- dbgMemCounterRead
  (∀ (s : State) (v : BitVec 64) (r : RegRow), s.live = true → s.scopes % 4 / 2 = 1 → v.toNat < 2 ^ 58 →
      v.toNat / 2 ^ 32 % 4 = 0 → inDebug (v.toNat / 2 ^ 32) = false → regRow? (v.toNat / 2 ^ 32) = some r →
      r.counts = true →
    Runs (.dbgMem v) s fun u =>
      u.jtag.access = (s.reg (v.toNat / 2 ^ 32)).toNat + 2 ^ 32 ∧
      u.reg (v.toNat / 2 ^ 32) = 0) ∧
  -- dbgMemWrite
  (∀ (s : State) (v : BitVec 64) (r : RegRow) (b : Block) (i rel : Nat), s.live = true → s.scopes % 4 / 2 = 1 →
      2 ^ 63 ≤ v.toNat → v.toNat / 2 ^ 32 % 2 ^ 26 % 4 = 0 → inDebug (v.toNat / 2 ^ 32 % 2 ^ 26) = false →
      regRow? (v.toNat / 2 ^ 32 % 2 ^ 26) = some r → blockAt (v.toNat / 2 ^ 32 % 2 ^ 26) = some (b, i, rel) →
      quietReg b i rel = true → r.breaksZero (v.toNat % 2 ^ 32) = false →
      v.toNat / 2 ^ 32 % 2 ^ 26 ≠ F.LCS_STAT_BSCAN.off → (regPart (v.toNat / 2 ^ 32 % 2 ^ 26) ≠ .evtRegs ∧
      regPart (v.toNat / 2 ^ 32 % 2 ^ 26) ≠ .waitRegs) →
    Runs (.dbgMem v) s fun u =>
      u.reg (v.toNat / 2 ^ 32 % 2 ^ 26) = BitVec.ofNat 32 (r.written (s.locked b i) (s.reg (v.toNat / 2 ^ 32 % 2 ^
          26)).toNat (v.toNat % 2 ^ 32)) ∧
      u.jtag.access = 2 ^ 32 ∧
      Output.punty s.jtag.access ∈ u.out) ∧
  -- dbgMemDenied
  (∀ (s : State) (v : BitVec 64), s.live = true → s.scopes % 4 / 2 = 0 →
    Runs (.dbgMem v) s fun u =>
      u.jtag = { s.jtag with ir := 0x21, access := 0 } ∧
      Counted s u F.LCS_DENIED_CNT_COUNT ∧
      Output.punty 0 ∈ u.out) ∧
  -- fabRb
  (∀ (s : State) (sel : BitVec 20), s.live = true → s.scopes % 8 / 4 = 1 →
    Runs (.fabRb sel) s fun u =>
      (∃ l : List Output, u.out = s.out ++ Output.punty 1 :: l ++
          [Output.punty (leNat (Bytes.read s.fab.words (sel.toNat / 2 ^ 17 * 2 ^ 21 + sel.toNat % 2 ^ 15 * 64) 64)),
          Output.punty (s.fab.liveAt (sel.toNat / 2 ^ 17) (sel.toNat % 2 ^ 15))]) ∧
      u.jtag = { s.jtag with ir := 0x22 } ∧
      u.fab = s.fab) ∧
  -- fabRbDenied
  (∀ (s : State) (sel : BitVec 20), s.live = true → s.scopes % 8 / 4 = 0 →
    Runs (.fabRb sel) s fun u =>
      Output.punty 0 ∈ u.out ∧
      Counted s u F.LCS_DENIED_CNT_COUNT)
end

