-- ==== Sys2Proof/Laws/Tab.lean ====
section
/-!
SUPPORT. The laws of sparse stores: a read after a write gives the value written, a write leaves every other key alone,
and every operation keeps the canonical form.
-/

namespace Sys2Proof.Machine

variable {α : Type}

theorem Tab.get_erase_same (d : Nat → α) (t : Tab α) (k : Nat) : Tab.get d (Tab.erase t k) k = d k := by
  induction t with
  | nil => rfl
  | cons e t ih =>
    by_cases h : e.1 = k
    · simp [Tab.erase, h, ih]
    · simp [Tab.erase, h, Tab.get, ih]

theorem Tab.get_erase_ne (d : Nat → α) (t : Tab α) {k j : Nat} (h : j ≠ k) :
    Tab.get d (Tab.erase t k) j = Tab.get d t j := by
  induction t with
  | nil => rfl
  | cons e t ih =>
    by_cases hk : e.1 = k
    · have : e.1 ≠ j := fun h' => h (h'.symm.trans hk)
      simp [Tab.erase, hk, Tab.get, ih]
      omega
    · simp [Tab.erase, hk, Tab.get, ih]

theorem Tab.get_insert_ne (d : Nat → α) (t : Tab α) {k j : Nat} (v : α) (h : j ≠ k) :
    Tab.get d (Tab.insert t k v) j = Tab.get d t j := by
  induction t with
  | nil => simp [Tab.insert, Tab.get, Ne.symm h]
  | cons e t ih =>
    by_cases hk : k < e.1
    · simp [Tab.insert, hk, Tab.get, Ne.symm h]
    · simp [Tab.insert, hk, Tab.get, ih]

theorem Tab.get_insert_same (d : Nat → α) (t : Tab α) (k : Nat) (v : α) (h : ∀ e ∈ t, e.1 ≠ k) :
    Tab.get d (Tab.insert t k v) k = v := by
  induction t with
  | nil => simp [Tab.insert, Tab.get]
  | cons e t ih =>
    by_cases hk : k < e.1
    · simp [Tab.insert, hk, Tab.get]
    · simp [Tab.insert, hk, Tab.get, h e (by simp), ih fun x hx => h x (by simp [hx])]

theorem Tab.mem_erase {t : Tab α} {k : Nat} {e : Nat × α} (h : e ∈ Tab.erase t k) : e ∈ t ∧ e.1 ≠ k := by
  induction t with
  | nil => simp [Tab.erase] at h
  | cons x t ih =>
    by_cases hk : x.1 = k
    · simp only [Tab.erase, hk, if_true] at h
      exact ⟨List.mem_cons_of_mem _ (ih h).1, (ih h).2⟩
    · simp only [Tab.erase, hk, if_false, List.mem_cons] at h
      rcases h with rfl | h
      · exact ⟨by simp, hk⟩
      · exact ⟨List.mem_cons_of_mem _ (ih h).1, (ih h).2⟩

theorem Tab.mem_insert {t : Tab α} {k : Nat} {v : α} {e : Nat × α} (h : e ∈ Tab.insert t k v) : e = (k, v) ∨ e ∈ t := by
  induction t with
  | nil => simpa [Tab.insert] using h
  | cons x t ih =>
    by_cases hk : k < x.1
    · simpa [Tab.insert, hk] using h
    · simp only [Tab.insert, hk, if_false, List.mem_cons] at h
      rcases h with rfl | h
      · simp
      · rcases ih h with h | h
        · exact .inl h
        · exact .inr (by simp [h])

/-- A read after a write to the same key gives the value written. -/
@[simp] theorem Tab.get_set_same [DecidableEq α] (d : Nat → α) (t : Tab α) (k : Nat) (v : α) :
    Tab.get d (Tab.set d t k v) k = v := by
  unfold Tab.set
  split
  · rename_i h; rw [Tab.get_erase_same, h]
  · exact Tab.get_insert_same d _ k v fun e he => (Tab.mem_erase he).2

/-- A write leaves every other key alone. -/
theorem Tab.get_set_ne [DecidableEq α] (d : Nat → α) (t : Tab α) {k j : Nat} (v : α) (h : j ≠ k) :
    Tab.get d (Tab.set d t k v) j = Tab.get d t j := by
  unfold Tab.set
  split
  · exact Tab.get_erase_ne d t h
  · rw [Tab.get_insert_ne d _ v h, Tab.get_erase_ne d t h]

theorem Tab.get_set [DecidableEq α] (d : Nat → α) (t : Tab α) (k j : Nat) (v : α) :
    Tab.get d (Tab.set d t k v) j = if j = k then v else Tab.get d t j := by
  split
  · rename_i h; subst h; simp
  · rename_i h; exact Tab.get_set_ne d t v h

theorem Tab.pairwise_erase {t : Tab α} (k : Nat) (h : t.Pairwise fun a b => a.1 < b.1) :
    (Tab.erase t k).Pairwise fun a b => a.1 < b.1 := by
  induction t with
  | nil => simp [Tab.erase]
  | cons x t ih =>
    rw [List.pairwise_cons] at h
    by_cases hk : x.1 = k
    · simpa [Tab.erase, hk] using ih h.2
    · simp only [Tab.erase, hk, if_false, List.pairwise_cons]
      exact ⟨fun e he => h.1 e (Tab.mem_erase he).1, ih h.2⟩

theorem Tab.pairwise_insert {t : Tab α} (k : Nat) (v : α) (h : t.Pairwise fun a b => a.1 < b.1)
    (hk : ∀ e ∈ t, e.1 ≠ k) : (Tab.insert t k v).Pairwise fun a b => a.1 < b.1 := by
  induction t with
  | nil => simp [Tab.insert]
  | cons x t ih =>
    rw [List.pairwise_cons] at h
    by_cases hl : k < x.1
    · simp only [Tab.insert, hl, if_true, List.pairwise_cons]
      refine ⟨fun e he => ?_, h.1, h.2⟩
      rcases List.mem_cons.1 he with rfl | he
      · exact hl
      · exact Nat.lt_trans hl (h.1 e he)
    · simp only [Tab.insert, hl, if_false, List.pairwise_cons]
      refine ⟨fun e he => ?_, ih h.2 fun e he => hk e (by simp [he])⟩
      rcases Tab.mem_insert he with rfl | he
      · have := hk x (by simp)
        show x.1 < k
        omega
      · exact h.1 e he

theorem Tab.wf_nil (d : Nat → α) : Tab.wf d ([] : Tab α) := ⟨by simp, by simp⟩

/-- A write keeps the canonical form. -/
theorem Tab.wf_set [DecidableEq α] (d : Nat → α) {t : Tab α} (k : Nat) (v : α) (h : Tab.wf d t) :
    Tab.wf d (Tab.set d t k v) := by
  unfold Tab.set
  split
  · exact ⟨Tab.pairwise_erase k h.1, fun e he => h.2 e (Tab.mem_erase he).1⟩
  · rename_i hv
    refine ⟨Tab.pairwise_insert k v (Tab.pairwise_erase k h.1) fun e he => (Tab.mem_erase he).2, fun e he => ?_⟩
    rcases Tab.mem_insert he with rfl | he
    · exact hv
    · exact h.2 e (Tab.mem_erase he).1

theorem Tab.wf_filter (d : Nat → α) {t : Tab α} (p : Nat × α → Bool) (h : Tab.wf d t) : Tab.wf d (t.filter p) :=
  ⟨h.1.filter _, fun e he => h.2 e (List.mem_filter.1 he).1⟩

/-- Clearing a range keeps the canonical form. -/
theorem Tab.wf_clear (d : Nat → α) {t : Tab α} (lo hi : Nat) (h : Tab.wf d t) : Tab.wf d (Tab.clear t lo hi) :=
  Tab.wf_filter d _ h

/-- A key outside a cleared range reads as before. -/
theorem Tab.get_clear_out (d : Nat → α) (t : Tab α) {lo hi j : Nat} (h : ¬(lo ≤ j ∧ j < hi)) :
    Tab.get d (Tab.clear t lo hi) j = Tab.get d t j := by
  induction t with
  | nil => rfl
  | cons e t ih =>
    by_cases hp : lo ≤ e.1 ∧ e.1 < hi
    · have hne : e.1 ≠ j := fun h' => h (h' ▸ hp)
      simp only [Tab.clear, List.filter_cons, hp, Tab.get, hne] at ih ⊢
      simpa using ih
    · have : (!(decide (lo ≤ e.1) && decide (e.1 < hi))) = true := by simp; omega
      simp only [Tab.clear, List.filter_cons, this, if_true, Tab.get] at ih ⊢
      rw [ih]

/-- A key inside a cleared range reads its default. -/
theorem Tab.get_clear_in (d : Nat → α) (t : Tab α) {lo hi j : Nat} (h : lo ≤ j ∧ j < hi) :
    Tab.get d (Tab.clear t lo hi) j = d j := by
  induction t with
  | nil => rfl
  | cons e t ih =>
    by_cases hp : lo ≤ e.1 ∧ e.1 < hi
    · simp only [Tab.clear, List.filter_cons, hp] at ih ⊢
      simpa using ih
    · have : (!(decide (lo ≤ e.1) && decide (e.1 < hi))) = true := by simp; omega
      have hne : e.1 ≠ j := fun h' => hp (h' ▸ h)
      simp only [Tab.clear, List.filter_cons, this, if_true, Tab.get, hne, if_false] at ih ⊢
      exact ih

/-! ### Bytes -/

@[simp] theorem Bytes.get_set_same (m : Bytes) (a : Nat) (b : Byte) : Bytes.get (Bytes.set m a b) a = b := by
  simp [Bytes.get, Bytes.set]

theorem Bytes.get_set_ne (m : Bytes) {a c : Nat} (b : Byte) (h : c ≠ a) : Bytes.get (Bytes.set m a b) c = Bytes.get m c :=
  Tab.get_set_ne _ _ _ h

theorem Bytes.wf_set {m : Bytes} (a : Nat) (b : Byte) (h : Bytes.wf m) : Bytes.wf (Bytes.set m a b) := Tab.wf_set _ _ _ h

/-- Storing bytes keeps the canonical form. -/
theorem Bytes.wf_write {m : Bytes} (a : Nat) (bs : List Byte) (h : Bytes.wf m) : Bytes.wf (Bytes.write m a bs) := by
  induction bs generalizing m a with
  | nil => exact h
  | cons b bs ih => exact ih (a + 1) (Bytes.wf_set a b h)

/-- Bytes outside the stored range read as before. -/
theorem Bytes.get_write_out (m : Bytes) {a c : Nat} (bs : List Byte) (h : ¬(a ≤ c ∧ c < a + bs.length)) :
    Bytes.get (Bytes.write m a bs) c = Bytes.get m c := by
  induction bs generalizing m a with
  | nil => rfl
  | cons b bs ih =>
    simp only [List.length_cons] at h
    rw [Bytes.write, ih _ (by omega), Bytes.get_set_ne _ _ (by omega)]

/-- A byte of the stored range reads as stored. -/
theorem Bytes.get_write_in (m : Bytes) {a i : Nat} (bs : List Byte) (h : i < bs.length) :
    Bytes.get (Bytes.write m a bs) (a + i) = bs[i] := by
  induction bs generalizing m a i with
  | nil => simp at h
  | cons b bs ih =>
    cases i with
    | zero => rw [Bytes.write, Bytes.get_write_out _ _ (by omega)]; simp
    | succ i =>
      have := ih (Bytes.set m a b) (a := a + 1) (i := i) (by simpa using h)
      simpa [Bytes.write, Nat.add_assoc, Nat.add_comm 1 i] using this

/-- What was written is read back. -/
theorem Bytes.read_write (m : Bytes) (a : Nat) (bs : List Byte) : Bytes.read (Bytes.write m a bs) a bs.length = bs := by
  apply List.ext_getElem
  · simp [Bytes.read]
  · intro i h1 h2
    simp [Bytes.read, Bytes.get_write_in _ _ h2]

end Sys2Proof.Machine
end

