-- ==== Sys2Proof/Laws/Leaves.lean ====
section
/-!
SUPPORT. What an operation leaves alone: `Leaves m s t` says that `t` differs from `s` only in the parts whose bits the
mask `m` has, that every store keeps its canonical form, and that one-time-programmable memory only gained bits. It holds
along any chain of operations, so one lemma for each operation gives the frame of every command.
-/

namespace Sys2Proof.Machine

theorem Otp.grows_refl (a : Otp) : a.grows a := ⟨fun _ h => h, fun h => h⟩

theorem Otp.grows_trans {a b c : Otp} (h : a.grows b) (k : b.grows c) : a.grows c :=
  ⟨fun i hi => k.1 i (h.1 i hi), fun hd => k.2 (h.2 hd)⟩

theorem Part.same_refl (p : Part) (s : State) : p.same s s := by cases p <;> first | rfl | exact fun _ _ => rfl

theorem Part.same_trans {p : Part} {s t u : State} (h : p.same s t) (k : p.same t u) : p.same s u := by
  cases p <;> first | exact Eq.trans k h | exact fun off ho => (k off ho).trans (h off ho)

/-- `t` differs from `s` only in the parts of the mask, its stores stay canonical and its fuses only gain bits. -/
structure Leaves (m : Nat) (s t : State) : Prop where
  same : ∀ p : Part, m.testBit p.ctorIdx = false → p.same s t
  canon : Canon s → Canon t
  otp : s.otp.grows t.otp

theorem Leaves.refl (m : Nat) (s : State) : Leaves m s s := ⟨fun p _ => p.same_refl s, fun h => h, Otp.grows_refl _⟩

/-- One operation more, within the mask. -/
theorem Leaves.step {m k : Nat} {s t u : State} (h : Leaves m s t) (h' : Leaves k t u) (hm : k ||| m = m) :
    Leaves m s u := by
  refine ⟨fun p hp => Part.same_trans (h.same p hp) (h'.same p ?_), fun hc => h'.canon (h.canon hc), Otp.grows_trans h.otp h'.otp⟩
  have := congrArg (fun x => Nat.testBit x p.ctorIdx) hm
  simp [hp] at this
  exact this

theorem Leaves.ite {m : Nat} {s a b : State} {c : Prop} [Decidable c] (ha : Leaves m s a) (hb : Leaves m s b) :
    Leaves m s (if c then a else b) := by split <;> assumption

/-- Along a list, if each element's operation stays within the mask. -/
theorem Leaves.forEach {α : Type} {m : Nat} {s t : State} {l : List α} {f : α → State → State}
    (hf : ∀ a u, Leaves m s u → Leaves m s (f a u)) (h : Leaves m s t) : Leaves m s (forEach l f t) := by
  unfold Machine.forEach
  induction l generalizing t with
  | nil => exact h
  | cons a l ih => exact ih (hf a t h)

/-- Along a list, where each element's operation answers a pair. -/
theorem Leaves.forEachFst {α β : Type} {m : Nat} {s : State} {x : State × β} {l : List α}
    {f : α → State × β → State × β} (hf : ∀ a u, Leaves m s u.1 → Leaves m s (f a u).1) (h : Leaves m s x.1) :
    Leaves m s (Machine.forEach l f x).1 := by
  unfold Machine.forEach
  induction l generalizing x with
  | nil => exact h
  | cons a l ih => exact ih (hf a x h)

/-- The same folds, written out. -/
theorem Leaves.foldl {α : Type} {m : Nat} {s t : State} {l : List α} {f : State → α → State}
    (hf : ∀ u a, Leaves m s u → Leaves m s (f u a)) (h : Leaves m s t) : Leaves m s (l.foldl f t) := by
  induction l generalizing t with
  | nil => exact h
  | cons a l ih => exact ih (hf t a h)

theorem Leaves.foldlFst {α β : Type} {m : Nat} {s : State} {x : State × β} {l : List α}
    {f : State × β → α → State × β} (hf : ∀ u a, Leaves m s u.1 → Leaves m s (f u a).1) (h : Leaves m s x.1) :
    Leaves m s (l.foldl f x).1 := by
  induction l generalizing x with
  | nil => exact h
  | cons a l ih => exact ih (hf x a h)

theorem Leaves.iteFst {α : Type} {m : Nat} {s : State} {a b : State × α} {c : Prop} [Decidable c]
    (ha : Leaves m s a.1) (hb : Leaves m s b.1) : Leaves m s (if c then a else b).1 := by split <;> assumption

theorem Mask.trans {a b c : Nat} (h : a ||| b = b) (k : b ||| c = c) : a ||| c = c := by
  rw [← k, ← Nat.or_assoc, h]

theorem Mask.bit {i a b : Nat} (h : a.testBit i = true) (k : a ||| b = b) : b.testBit i = true := by
  rw [← k, Nat.testBit_or, h, Bool.true_or]

/-- An update given part by part. -/
theorem Leaves.upd {m : Nat} {s u t : State} (h : Leaves m s u)
    (hs : ∀ p : Part, m.testBit p.ctorIdx = false → p.same u t) (hc : Canon u → Canon t) (ho : u.otp.grows t.otp) :
    Leaves m s t :=
  ⟨fun p hp => Part.same_trans (h.same p hp) (hs p hp), fun c => hc (h.canon c), Otp.grows_trans h.otp ho⟩

theorem Part.bit {m off : Nat} {p : Part} (h : regPart off = p) (hm : m.testBit p.ctorIdx = true) :
    m.testBit (regPart off).ctorIdx = true := h ▸ hm

/-- A register write touches the part its offset belongs to. -/
theorem Leaves.setReg {m : Nat} {s u : State} {off : Nat} {w : Word} (h : Leaves m s u)
    (hm : m.testBit (regPart off).ctorIdx = true) : Leaves m s (u.setReg off w) := by
  refine h.upd (fun p hp => ?_) (fun c => ?_) (Otp.grows_refl _)
  · have key : ∀ o, regPart o = p → (u.setReg off w).reg o = u.reg o := by
      intro o ho
      refine Tab.get_set_ne _ _ _ fun h' => ?_
      subst h'
      rw [ho, hp] at hm
      exact Bool.noConfusion hm
    cases p <;> first | rfl | exact key
  · exact { c with regs := Tab.wf_set _ _ _ c.regs }

/-- A cleared range of registers touches the parts its offsets belong to. -/
theorem Leaves.clearRegs {m : Nat} {s u : State} {lo hi : Nat} (h : Leaves m s u)
    (hm : ∀ off, lo ≤ off → off < hi → m.testBit (regPart off).ctorIdx = true) :
    Leaves m s (u.withRegs (Tab.clear u.regs lo hi)) := by
  refine h.upd (fun p hp => ?_) (fun c => ?_) (Otp.grows_refl _)
  · have key : ∀ o, regPart o = p → (u.withRegs (Tab.clear u.regs lo hi)).reg o = u.reg o := by
      intro o ho
      refine Tab.get_clear_out _ _ fun h' => ?_
      have := hm o h'.1 h'.2
      rw [ho, hp] at this
      exact Bool.noConfusion this
    cases p <;> first | rfl | exact key
  · exact { c with regs := Tab.wf_clear _ _ _ c.regs }

theorem Leaves.wr {m : Nat} {s u : State} {f : Fld} {v : Nat} (h : Leaves m s u)
    (hm : m.testBit (regPart f.off).ctorIdx = true) : Leaves m s (u.wr f v) := h.setReg hm

theorem Leaves.bump {m : Nat} {s u : State} {f : Fld} (h : Leaves m s u)
    (hm : m.testBit (regPart f.off).ctorIdx = true) : Leaves m s (u.bump f) := .ite (h.wr hm) h

theorem Leaves.bumpBy {m : Nat} {s u : State} {f : Fld} {n : Nat} (h : Leaves m s u)
    (hm : m.testBit (regPart f.off).ctorIdx = true) : Leaves m s (u.bumpBy f n) := h.wr hm

theorem Leaves.wr64 {m : Nat} {s u : State} {lo v : Nat} (h : Leaves m s u)
    (hm : m.testBit (regPart lo).ctorIdx = true) (hm' : m.testBit (regPart (lo + 4)).ctorIdx = true) :
    Leaves m s (u.wr64 lo v) := (h.setReg hm).setReg hm'

theorem Leaves.setWords {m : Nat} {s u : State} {off : Nat} {l : List Nat} (h : Leaves m s u)
    (hm : ∀ i, i < l.length → m.testBit (regPart (off + 4 * i)).ctorIdx = true) : Leaves m s (u.setWords off l) := by
  induction l generalizing u off with
  | nil => exact h
  | cons w l ih =>
    refine ih (h.setReg (by simpa using hm 0 (by simp))) fun i hi => ?_
    have := hm (i + 1) (by simpa using hi)
    rwa [show off + 4 * (i + 1) = off + 4 + 4 * i by omega] at this

/-- The state of a pair an operation answers. -/
theorem Leaves.pair {α : Type} {m : Nat} {s a : State} {b : α} {e : State × α} (he : e = (a, b))
    (h : Leaves m s e.1) : Leaves m s a := by subst he; exact h

/-! ### One field of the state -/

theorem Leaves.upd_latch {m : Nat} {s u : State} {x : Tab Word} (h : Leaves m s u) (hm : m.testBit 24 = true) (hw : Tab.wf regReset u.latch → Tab.wf regReset x) :
    Leaves m s (u.withLatch x) := by
  refine h.upd (fun p hp => ?_) (fun c => ⟨c.regs, hw c.latch, c.steps, c.routes, c.dm, c.dmBad, c.results, c.stamps, c.gobIn, c.gobOut, c.reqArea, c.retBuf, c.farIn, c.hbm, c.hbmBad, c.hbmSoft⟩) (Otp.grows_refl _)
  cases p <;> first | rfl | exact fun _ _ => rfl | exact Bool.noConfusion (hm.symm.trans hp)

theorem Leaves.upd_shadow {m : Nat} {s u : State} {x : Tab (Option Word)} (h : Leaves m s u) (hm : m.testBit 25 = true) :
    Leaves m s (u.withShadow x) := by
  refine h.upd (fun p hp => ?_) (fun c => ⟨c.regs, c.latch, c.steps, c.routes, c.dm, c.dmBad, c.results, c.stamps, c.gobIn, c.gobOut, c.reqArea, c.retBuf, c.farIn, c.hbm, c.hbmBad, c.hbmSoft⟩) (Otp.grows_refl _)
  cases p <;> first | rfl | exact fun _ _ => rfl | exact Bool.noConfusion (hm.symm.trans hp)

theorem Leaves.upd_steps {m : Nat} {s u : State} {x : Tab StepWord} (h : Leaves m s u) (hm : m.testBit 26 = true) (hw : Tab.wf (fun _ => (0 : StepWord)) u.steps → Tab.wf (fun _ => (0 : StepWord)) x) :
    Leaves m s (u.withSteps x) := by
  refine h.upd (fun p hp => ?_) (fun c => ⟨c.regs, c.latch, hw c.steps, c.routes, c.dm, c.dmBad, c.results, c.stamps, c.gobIn, c.gobOut, c.reqArea, c.retBuf, c.farIn, c.hbm, c.hbmBad, c.hbmSoft⟩) (Otp.grows_refl _)
  cases p <;> first | rfl | exact fun _ _ => rfl | exact Bool.noConfusion (hm.symm.trans hp)

theorem Leaves.upd_routes {m : Nat} {s u : State} {x : Tab Nat} (h : Leaves m s u) (hm : m.testBit 27 = true) (hw : Tab.wf (fun _ => 0) u.routes → Tab.wf (fun _ => 0) x) :
    Leaves m s (u.withRoutes x) := by
  refine h.upd (fun p hp => ?_) (fun c => ⟨c.regs, c.latch, c.steps, hw c.routes, c.dm, c.dmBad, c.results, c.stamps, c.gobIn, c.gobOut, c.reqArea, c.retBuf, c.farIn, c.hbm, c.hbmBad, c.hbmSoft⟩) (Otp.grows_refl _)
  cases p <;> first | rfl | exact fun _ _ => rfl | exact Bool.noConfusion (hm.symm.trans hp)

theorem Leaves.upd_dm {m : Nat} {s u : State} {x : Tab Bool} (h : Leaves m s u) (hm : m.testBit 28 = true) (hw : Tab.wf (fun _ => false) u.dm → Tab.wf (fun _ => false) x) :
    Leaves m s (u.withDm x) := by
  refine h.upd (fun p hp => ?_) (fun c => ⟨c.regs, c.latch, c.steps, c.routes, hw c.dm, c.dmBad, c.results, c.stamps, c.gobIn, c.gobOut, c.reqArea, c.retBuf, c.farIn, c.hbm, c.hbmBad, c.hbmSoft⟩) (Otp.grows_refl _)
  cases p <;> first | rfl | exact fun _ _ => rfl | exact Bool.noConfusion (hm.symm.trans hp)

theorem Leaves.upd_dmBad {m : Nat} {s u : State} {x : Tab Bool} (h : Leaves m s u) (hm : m.testBit 29 = true) (hw : Tab.wf (fun _ => false) u.dmBad → Tab.wf (fun _ => false) x) :
    Leaves m s (u.withDmBad x) := by
  refine h.upd (fun p hp => ?_) (fun c => ⟨c.regs, c.latch, c.steps, c.routes, c.dm, hw c.dmBad, c.results, c.stamps, c.gobIn, c.gobOut, c.reqArea, c.retBuf, c.farIn, c.hbm, c.hbmBad, c.hbmSoft⟩) (Otp.grows_refl _)
  cases p <;> first | rfl | exact fun _ _ => rfl | exact Bool.noConfusion (hm.symm.trans hp)

theorem Leaves.upd_results {m : Nat} {s u : State} {x : Tab Bool} (h : Leaves m s u) (hm : m.testBit 30 = true) (hw : Tab.wf (fun _ => false) u.results → Tab.wf (fun _ => false) x) :
    Leaves m s (u.withResults x) := by
  refine h.upd (fun p hp => ?_) (fun c => ⟨c.regs, c.latch, c.steps, c.routes, c.dm, c.dmBad, hw c.results, c.stamps, c.gobIn, c.gobOut, c.reqArea, c.retBuf, c.farIn, c.hbm, c.hbmBad, c.hbmSoft⟩) (Otp.grows_refl _)
  cases p <;> first | rfl | exact fun _ _ => rfl | exact Bool.noConfusion (hm.symm.trans hp)

theorem Leaves.upd_stamps {m : Nat} {s u : State} {x : Tab Nat} (h : Leaves m s u) (hm : m.testBit 31 = true) (hw : Tab.wf (fun _ => 0) u.stamps → Tab.wf (fun _ => 0) x) :
    Leaves m s (u.withStamps x) := by
  refine h.upd (fun p hp => ?_) (fun c => ⟨c.regs, c.latch, c.steps, c.routes, c.dm, c.dmBad, c.results, hw c.stamps, c.gobIn, c.gobOut, c.reqArea, c.retBuf, c.farIn, c.hbm, c.hbmBad, c.hbmSoft⟩) (Otp.grows_refl _)
  cases p <;> first | rfl | exact fun _ _ => rfl | exact Bool.noConfusion (hm.symm.trans hp)

theorem Leaves.upd_gobIn {m : Nat} {s u : State} {x : Bytes} (h : Leaves m s u) (hm : m.testBit 32 = true) (hw : Bytes.wf u.gobIn → Bytes.wf x) :
    Leaves m s (u.withGobIn x) := by
  refine h.upd (fun p hp => ?_) (fun c => ⟨c.regs, c.latch, c.steps, c.routes, c.dm, c.dmBad, c.results, c.stamps, hw c.gobIn, c.gobOut, c.reqArea, c.retBuf, c.farIn, c.hbm, c.hbmBad, c.hbmSoft⟩) (Otp.grows_refl _)
  cases p <;> first | rfl | exact fun _ _ => rfl | exact Bool.noConfusion (hm.symm.trans hp)

theorem Leaves.upd_gobOut {m : Nat} {s u : State} {x : Bytes} (h : Leaves m s u) (hm : m.testBit 33 = true) (hw : Bytes.wf u.gobOut → Bytes.wf x) :
    Leaves m s (u.withGobOut x) := by
  refine h.upd (fun p hp => ?_) (fun c => ⟨c.regs, c.latch, c.steps, c.routes, c.dm, c.dmBad, c.results, c.stamps, c.gobIn, hw c.gobOut, c.reqArea, c.retBuf, c.farIn, c.hbm, c.hbmBad, c.hbmSoft⟩) (Otp.grows_refl _)
  cases p <;> first | rfl | exact fun _ _ => rfl | exact Bool.noConfusion (hm.symm.trans hp)

theorem Leaves.upd_reqArea {m : Nat} {s u : State} {x : Bytes} (h : Leaves m s u) (hm : m.testBit 34 = true) (hw : Bytes.wf u.reqArea → Bytes.wf x) :
    Leaves m s (u.withReqArea x) := by
  refine h.upd (fun p hp => ?_) (fun c => ⟨c.regs, c.latch, c.steps, c.routes, c.dm, c.dmBad, c.results, c.stamps, c.gobIn, c.gobOut, hw c.reqArea, c.retBuf, c.farIn, c.hbm, c.hbmBad, c.hbmSoft⟩) (Otp.grows_refl _)
  cases p <;> first | rfl | exact fun _ _ => rfl | exact Bool.noConfusion (hm.symm.trans hp)

theorem Leaves.upd_retBuf {m : Nat} {s u : State} {x : Bytes} (h : Leaves m s u) (hm : m.testBit 35 = true) (hw : Bytes.wf u.retBuf → Bytes.wf x) :
    Leaves m s (u.withRetBuf x) := by
  refine h.upd (fun p hp => ?_) (fun c => ⟨c.regs, c.latch, c.steps, c.routes, c.dm, c.dmBad, c.results, c.stamps, c.gobIn, c.gobOut, c.reqArea, hw c.retBuf, c.farIn, c.hbm, c.hbmBad, c.hbmSoft⟩) (Otp.grows_refl _)
  cases p <;> first | rfl | exact fun _ _ => rfl | exact Bool.noConfusion (hm.symm.trans hp)

theorem Leaves.upd_farIn {m : Nat} {s u : State} {x : Tab Nat} (h : Leaves m s u) (hm : m.testBit 36 = true) (hw : Tab.wf (fun _ => 0) u.farIn → Tab.wf (fun _ => 0) x) :
    Leaves m s (u.withFarIn x) := by
  refine h.upd (fun p hp => ?_) (fun c => ⟨c.regs, c.latch, c.steps, c.routes, c.dm, c.dmBad, c.results, c.stamps, c.gobIn, c.gobOut, c.reqArea, c.retBuf, hw c.farIn, c.hbm, c.hbmBad, c.hbmSoft⟩) (Otp.grows_refl _)
  cases p <;> first | rfl | exact fun _ _ => rfl | exact Bool.noConfusion (hm.symm.trans hp)

theorem Leaves.upd_tiles {m : Nat} {s u : State} {x : Tab Tile} (h : Leaves m s u) (hm : m.testBit 37 = true) :
    Leaves m s (u.withTiles x) := by
  refine h.upd (fun p hp => ?_) (fun c => ⟨c.regs, c.latch, c.steps, c.routes, c.dm, c.dmBad, c.results, c.stamps, c.gobIn, c.gobOut, c.reqArea, c.retBuf, c.farIn, c.hbm, c.hbmBad, c.hbmSoft⟩) (Otp.grows_refl _)
  cases p <;> first | rfl | exact fun _ _ => rfl | exact Bool.noConfusion (hm.symm.trans hp)

theorem Leaves.upd_gafs {m : Nat} {s u : State} {x : Tab Gaffer} (h : Leaves m s u) (hm : m.testBit 38 = true) :
    Leaves m s (u.withGafs x) := by
  refine h.upd (fun p hp => ?_) (fun c => ⟨c.regs, c.latch, c.steps, c.routes, c.dm, c.dmBad, c.results, c.stamps, c.gobIn, c.gobOut, c.reqArea, c.retBuf, c.farIn, c.hbm, c.hbmBad, c.hbmSoft⟩) (Otp.grows_refl _)
  cases p <;> first | rfl | exact fun _ _ => rfl | exact Bool.noConfusion (hm.symm.trans hp)

theorem Leaves.upd_ports {m : Nat} {s u : State} {x : Tab Port} (h : Leaves m s u) (hm : m.testBit 39 = true) :
    Leaves m s (u.withPorts x) := by
  refine h.upd (fun p hp => ?_) (fun c => ⟨c.regs, c.latch, c.steps, c.routes, c.dm, c.dmBad, c.results, c.stamps, c.gobIn, c.gobOut, c.reqArea, c.retBuf, c.farIn, c.hbm, c.hbmBad, c.hbmSoft⟩) (Otp.grows_refl _)
  cases p <;> first | rfl | exact fun _ _ => rfl | exact Bool.noConfusion (hm.symm.trans hp)

theorem Leaves.upd_hbm {m : Nat} {s u : State} {x : Bytes} (h : Leaves m s u) (hm : m.testBit 40 = true) (hw : Bytes.wf u.hbm → Bytes.wf x) :
    Leaves m s (u.withHbm x) := by
  refine h.upd (fun p hp => ?_) (fun c => ⟨c.regs, c.latch, c.steps, c.routes, c.dm, c.dmBad, c.results, c.stamps, c.gobIn, c.gobOut, c.reqArea, c.retBuf, c.farIn, hw c.hbm, c.hbmBad, c.hbmSoft⟩) (Otp.grows_refl _)
  cases p <;> first | rfl | exact fun _ _ => rfl | exact Bool.noConfusion (hm.symm.trans hp)

theorem Leaves.upd_hbmBad {m : Nat} {s u : State} {x : Tab Bool} (h : Leaves m s u) (hm : m.testBit 41 = true) (hw : Tab.wf (fun _ => false) u.hbmBad → Tab.wf (fun _ => false) x) :
    Leaves m s (u.withHbmBad x) := by
  refine h.upd (fun p hp => ?_) (fun c => ⟨c.regs, c.latch, c.steps, c.routes, c.dm, c.dmBad, c.results, c.stamps, c.gobIn, c.gobOut, c.reqArea, c.retBuf, c.farIn, c.hbm, hw c.hbmBad, c.hbmSoft⟩) (Otp.grows_refl _)
  cases p <;> first | rfl | exact fun _ _ => rfl | exact Bool.noConfusion (hm.symm.trans hp)

theorem Leaves.upd_hbmSoft {m : Nat} {s u : State} {x : Tab Bool} (h : Leaves m s u) (hm : m.testBit 42 = true) (hw : Tab.wf (fun _ => false) u.hbmSoft → Tab.wf (fun _ => false) x) :
    Leaves m s (u.withHbmSoft x) := by
  refine h.upd (fun p hp => ?_) (fun c => ⟨c.regs, c.latch, c.steps, c.routes, c.dm, c.dmBad, c.results, c.stamps, c.gobIn, c.gobOut, c.reqArea, c.retBuf, c.farIn, c.hbm, c.hbmBad, hw c.hbmSoft⟩) (Otp.grows_refl _)
  cases p <;> first | rfl | exact fun _ _ => rfl | exact Bool.noConfusion (hm.symm.trans hp)

theorem Leaves.upd_tb {m : Nat} {s u : State} {x : Timebase} (h : Leaves m s u) (hm : m.testBit 43 = true) :
    Leaves m s (u.withTb x) := by
  refine h.upd (fun p hp => ?_) (fun c => ⟨c.regs, c.latch, c.steps, c.routes, c.dm, c.dmBad, c.results, c.stamps, c.gobIn, c.gobOut, c.reqArea, c.retBuf, c.farIn, c.hbm, c.hbmBad, c.hbmSoft⟩) (Otp.grows_refl _)
  cases p <;> first | rfl | exact fun _ _ => rfl | exact Bool.noConfusion (hm.symm.trans hp)

theorem Leaves.upd_irc {m : Nat} {s u : State} {x : Tab IrcPort} (h : Leaves m s u) (hm : m.testBit 44 = true) :
    Leaves m s (u.withIrc x) := by
  refine h.upd (fun p hp => ?_) (fun c => ⟨c.regs, c.latch, c.steps, c.routes, c.dm, c.dmBad, c.results, c.stamps, c.gobIn, c.gobOut, c.reqArea, c.retBuf, c.farIn, c.hbm, c.hbmBad, c.hbmSoft⟩) (Otp.grows_refl _)
  cases p <;> first | rfl | exact fun _ _ => rfl | exact Bool.noConfusion (hm.symm.trans hp)

theorem Leaves.upd_pbs {m : Nat} {s u : State} {x : Tab Pbs} (h : Leaves m s u) (hm : m.testBit 45 = true) :
    Leaves m s (u.withPbs x) := by
  refine h.upd (fun p hp => ?_) (fun c => ⟨c.regs, c.latch, c.steps, c.routes, c.dm, c.dmBad, c.results, c.stamps, c.gobIn, c.gobOut, c.reqArea, c.retBuf, c.farIn, c.hbm, c.hbmBad, c.hbmSoft⟩) (Otp.grows_refl _)
  cases p <;> first | rfl | exact fun _ _ => rfl | exact Bool.noConfusion (hm.symm.trans hp)

theorem Leaves.upd_mrv {m : Nat} {s u : State} {x : Tab Marver} (h : Leaves m s u) (hm : m.testBit 46 = true) :
    Leaves m s (u.withMrv x) := by
  refine h.upd (fun p hp => ?_) (fun c => ⟨c.regs, c.latch, c.steps, c.routes, c.dm, c.dmBad, c.results, c.stamps, c.gobIn, c.gobOut, c.reqArea, c.retBuf, c.farIn, c.hbm, c.hbmBad, c.hbmSoft⟩) (Otp.grows_refl _)
  cases p <;> first | rfl | exact fun _ _ => rfl | exact Bool.noConfusion (hm.symm.trans hp)

theorem Leaves.upd_rings {m : Nat} {s u : State} {x : Tab Ring} (h : Leaves m s u) (hm : m.testBit 47 = true) :
    Leaves m s (u.withRings x) := by
  refine h.upd (fun p hp => ?_) (fun c => ⟨c.regs, c.latch, c.steps, c.routes, c.dm, c.dmBad, c.results, c.stamps, c.gobIn, c.gobOut, c.reqArea, c.retBuf, c.farIn, c.hbm, c.hbmBad, c.hbmSoft⟩) (Otp.grows_refl _)
  cases p <;> first | rfl | exact fun _ _ => rfl | exact Bool.noConfusion (hm.symm.trans hp)

theorem Leaves.upd_strobes {m : Nat} {s u : State} {x : List (Nat × Nat × Nat)} (h : Leaves m s u) (hm : m.testBit 48 = true) :
    Leaves m s (u.withStrobes x) := by
  refine h.upd (fun p hp => ?_) (fun c => ⟨c.regs, c.latch, c.steps, c.routes, c.dm, c.dmBad, c.results, c.stamps, c.gobIn, c.gobOut, c.reqArea, c.retBuf, c.farIn, c.hbm, c.hbmBad, c.hbmSoft⟩) (Otp.grows_refl _)
  cases p <;> first | rfl | exact fun _ _ => rfl | exact Bool.noConfusion (hm.symm.trans hp)

theorem Leaves.upd_discardEv {m : Nat} {s u : State} {x : Tab (Option Nat)} (h : Leaves m s u) (hm : m.testBit 49 = true) :
    Leaves m s (u.withDiscardEv x) := by
  refine h.upd (fun p hp => ?_) (fun c => ⟨c.regs, c.latch, c.steps, c.routes, c.dm, c.dmBad, c.results, c.stamps, c.gobIn, c.gobOut, c.reqArea, c.retBuf, c.farIn, c.hbm, c.hbmBad, c.hbmSoft⟩) (Otp.grows_refl _)
  cases p <;> first | rfl | exact fun _ _ => rfl | exact Bool.noConfusion (hm.symm.trans hp)

theorem Leaves.upd_slots {m : Nat} {s u : State} {x : Tab Nat} (h : Leaves m s u) (hm : m.testBit 50 = true) :
    Leaves m s (u.withSlots x) := by
  refine h.upd (fun p hp => ?_) (fun c => ⟨c.regs, c.latch, c.steps, c.routes, c.dm, c.dmBad, c.results, c.stamps, c.gobIn, c.gobOut, c.reqArea, c.retBuf, c.farIn, c.hbm, c.hbmBad, c.hbmSoft⟩) (Otp.grows_refl _)
  cases p <;> first | rfl | exact fun _ _ => rfl | exact Bool.noConfusion (hm.symm.trans hp)

theorem Leaves.upd_noc {m : Nat} {s u : State} {x : Noc} (h : Leaves m s u) (hm : m.testBit 51 = true) :
    Leaves m s (u.withNoc x) := by
  refine h.upd (fun p hp => ?_) (fun c => ⟨c.regs, c.latch, c.steps, c.routes, c.dm, c.dmBad, c.results, c.stamps, c.gobIn, c.gobOut, c.reqArea, c.retBuf, c.farIn, c.hbm, c.hbmBad, c.hbmSoft⟩) (Otp.grows_refl _)
  cases p <;> first | rfl | exact fun _ _ => rfl | exact Bool.noConfusion (hm.symm.trans hp)

theorem Leaves.upd_dma {m : Nat} {s u : State} {x : Tab Engine} (h : Leaves m s u) (hm : m.testBit 52 = true) :
    Leaves m s (u.withDma x) := by
  refine h.upd (fun p hp => ?_) (fun c => ⟨c.regs, c.latch, c.steps, c.routes, c.dm, c.dmBad, c.results, c.stamps, c.gobIn, c.gobOut, c.reqArea, c.retBuf, c.farIn, c.hbm, c.hbmBad, c.hbmSoft⟩) (Otp.grows_refl _)
  cases p <;> first | rfl | exact fun _ _ => rfl | exact Bool.noConfusion (hm.symm.trans hp)

theorem Leaves.upd_fab {m : Nat} {s u : State} {x : Fab} (h : Leaves m s u) (hm : m.testBit 53 = true) :
    Leaves m s (u.withFab x) := by
  refine h.upd (fun p hp => ?_) (fun c => ⟨c.regs, c.latch, c.steps, c.routes, c.dm, c.dmBad, c.results, c.stamps, c.gobIn, c.gobOut, c.reqArea, c.retBuf, c.farIn, c.hbm, c.hbmBad, c.hbmSoft⟩) (Otp.grows_refl _)
  cases p <;> first | rfl | exact fun _ _ => rfl | exact Bool.noConfusion (hm.symm.trans hp)

theorem Leaves.upd_mbx {m : Nat} {s u : State} {x : Mailbox} (h : Leaves m s u) (hm : m.testBit 54 = true) :
    Leaves m s (u.withMbx x) := by
  refine h.upd (fun p hp => ?_) (fun c => ⟨c.regs, c.latch, c.steps, c.routes, c.dm, c.dmBad, c.results, c.stamps, c.gobIn, c.gobOut, c.reqArea, c.retBuf, c.farIn, c.hbm, c.hbmBad, c.hbmSoft⟩) (Otp.grows_refl _)
  cases p <;> first | rfl | exact fun _ _ => rfl | exact Bool.noConfusion (hm.symm.trans hp)

theorem Leaves.upd_pcie {m : Nat} {s u : State} {x : Pcie} (h : Leaves m s u) (hm : m.testBit 55 = true) :
    Leaves m s (u.withPcie x) := by
  refine h.upd (fun p hp => ?_) (fun c => ⟨c.regs, c.latch, c.steps, c.routes, c.dm, c.dmBad, c.results, c.stamps, c.gobIn, c.gobOut, c.reqArea, c.retBuf, c.farIn, c.hbm, c.hbmBad, c.hbmSoft⟩) (Otp.grows_refl _)
  cases p <;> first | rfl | exact fun _ _ => rfl | exact Bool.noConfusion (hm.symm.trans hp)

theorem Leaves.upd_bar4 {m : Nat} {s u : State} {x : Tab Byte} (h : Leaves m s u) (hm : m.testBit 56 = true) :
    Leaves m s (u.withBar4 x) := by
  refine h.upd (fun p hp => ?_) (fun c => ⟨c.regs, c.latch, c.steps, c.routes, c.dm, c.dmBad, c.results, c.stamps, c.gobIn, c.gobOut, c.reqArea, c.retBuf, c.farIn, c.hbm, c.hbmBad, c.hbmSoft⟩) (Otp.grows_refl _)
  cases p <;> first | rfl | exact fun _ _ => rfl | exact Bool.noConfusion (hm.symm.trans hp)

theorem Leaves.upd_hbmHeld {m : Nat} {s u : State} {x : List Held2} (h : Leaves m s u) (hm : m.testBit 57 = true) :
    Leaves m s (u.withHbmHeld x) := by
  refine h.upd (fun p hp => ?_) (fun c => ⟨c.regs, c.latch, c.steps, c.routes, c.dm, c.dmBad, c.results, c.stamps, c.gobIn, c.gobOut, c.reqArea, c.retBuf, c.farIn, c.hbm, c.hbmBad, c.hbmSoft⟩) (Otp.grows_refl _)
  cases p <;> first | rfl | exact fun _ _ => rfl | exact Bool.noConfusion (hm.symm.trans hp)

theorem Leaves.upd_eth {m : Nat} {s u : State} {x : Tab EthPort} (h : Leaves m s u) (hm : m.testBit 58 = true) :
    Leaves m s (u.withEth x) := by
  refine h.upd (fun p hp => ?_) (fun c => ⟨c.regs, c.latch, c.steps, c.routes, c.dm, c.dmBad, c.results, c.stamps, c.gobIn, c.gobOut, c.reqArea, c.retBuf, c.farIn, c.hbm, c.hbmBad, c.hbmSoft⟩) (Otp.grows_refl _)
  cases p <;> first | rfl | exact fun _ _ => rfl | exact Bool.noConfusion (hm.symm.trans hp)

theorem Leaves.upd_mcLog {m : Nat} {s u : State} {x : List Nat} (h : Leaves m s u) (hm : m.testBit 59 = true) :
    Leaves m s (u.withMcLog x) := by
  refine h.upd (fun p hp => ?_) (fun c => ⟨c.regs, c.latch, c.steps, c.routes, c.dm, c.dmBad, c.results, c.stamps, c.gobIn, c.gobOut, c.reqArea, c.retBuf, c.farIn, c.hbm, c.hbmBad, c.hbmSoft⟩) (Otp.grows_refl _)
  cases p <;> first | rfl | exact fun _ _ => rfl | exact Bool.noConfusion (hm.symm.trans hp)

theorem Leaves.upd_evtSent {m : Nat} {s u : State} {x : Tab Nat} (h : Leaves m s u) (hm : m.testBit 60 = true) :
    Leaves m s (u.withEvtSent x) := by
  refine h.upd (fun p hp => ?_) (fun c => ⟨c.regs, c.latch, c.steps, c.routes, c.dm, c.dmBad, c.results, c.stamps, c.gobIn, c.gobOut, c.reqArea, c.retBuf, c.farIn, c.hbm, c.hbmBad, c.hbmSoft⟩) (Otp.grows_refl _)
  cases p <;> first | rfl | exact fun _ _ => rfl | exact Bool.noConfusion (hm.symm.trans hp)

theorem Leaves.upd_cstore {m : Nat} {s u : State} {x : CStore} (h : Leaves m s u) (hm : m.testBit 61 = true) :
    Leaves m s (u.withCstore x) := by
  refine h.upd (fun p hp => ?_) (fun c => ⟨c.regs, c.latch, c.steps, c.routes, c.dm, c.dmBad, c.results, c.stamps, c.gobIn, c.gobOut, c.reqArea, c.retBuf, c.farIn, c.hbm, c.hbmBad, c.hbmSoft⟩) (Otp.grows_refl _)
  cases p <;> first | rfl | exact fun _ _ => rfl | exact Bool.noConfusion (hm.symm.trans hp)

theorem Leaves.upd_ldr {m : Nat} {s u : State} {x : Loader} (h : Leaves m s u) (hm : m.testBit 62 = true) :
    Leaves m s (u.withLdr x) := by
  refine h.upd (fun p hp => ?_) (fun c => ⟨c.regs, c.latch, c.steps, c.routes, c.dm, c.dmBad, c.results, c.stamps, c.gobIn, c.gobOut, c.reqArea, c.retBuf, c.farIn, c.hbm, c.hbmBad, c.hbmSoft⟩) (Otp.grows_refl _)
  cases p <;> first | rfl | exact fun _ _ => rfl | exact Bool.noConfusion (hm.symm.trans hp)

theorem Leaves.upd_nand {m : Nat} {s u : State} {x : Nand} (h : Leaves m s u) (hm : m.testBit 63 = true) :
    Leaves m s (u.withNand x) := by
  refine h.upd (fun p hp => ?_) (fun c => ⟨c.regs, c.latch, c.steps, c.routes, c.dm, c.dmBad, c.results, c.stamps, c.gobIn, c.gobOut, c.reqArea, c.retBuf, c.farIn, c.hbm, c.hbmBad, c.hbmSoft⟩) (Otp.grows_refl _)
  cases p <;> first | rfl | exact fun _ _ => rfl | exact Bool.noConfusion (hm.symm.trans hp)

theorem Leaves.upd_sto {m : Nat} {s u : State} {x : Sto} (h : Leaves m s u) (hm : m.testBit 64 = true) :
    Leaves m s (u.withSto x) := by
  refine h.upd (fun p hp => ?_) (fun c => ⟨c.regs, c.latch, c.steps, c.routes, c.dm, c.dmBad, c.results, c.stamps, c.gobIn, c.gobOut, c.reqArea, c.retBuf, c.farIn, c.hbm, c.hbmBad, c.hbmSoft⟩) (Otp.grows_refl _)
  cases p <;> first | rfl | exact fun _ _ => rfl | exact Bool.noConfusion (hm.symm.trans hp)

theorem Leaves.upd_flt {m : Nat} {s u : State} {x : Collector} (h : Leaves m s u) (hm : m.testBit 65 = true) :
    Leaves m s (u.withFlt x) := by
  refine h.upd (fun p hp => ?_) (fun c => ⟨c.regs, c.latch, c.steps, c.routes, c.dm, c.dmBad, c.results, c.stamps, c.gobIn, c.gobOut, c.reqArea, c.retBuf, c.farIn, c.hbm, c.hbmBad, c.hbmSoft⟩) (Otp.grows_refl _)
  cases p <;> first | rfl | exact fun _ _ => rfl | exact Bool.noConfusion (hm.symm.trans hp)

theorem Leaves.upd_pwr {m : Nat} {s u : State} {x : PwrState} (h : Leaves m s u) (hm : m.testBit 66 = true) :
    Leaves m s (u.withPwr x) := by
  refine h.upd (fun p hp => ?_) (fun c => ⟨c.regs, c.latch, c.steps, c.routes, c.dm, c.dmBad, c.results, c.stamps, c.gobIn, c.gobOut, c.reqArea, c.retBuf, c.farIn, c.hbm, c.hbmBad, c.hbmSoft⟩) (Otp.grows_refl _)
  cases p <;> first | rfl | exact fun _ _ => rfl | exact Bool.noConfusion (hm.symm.trans hp)

theorem Leaves.upd_lehr {m : Nat} {s u : State} {x : Lehr} (h : Leaves m s u) (hm : m.testBit 67 = true) :
    Leaves m s (u.withLehr x) := by
  refine h.upd (fun p hp => ?_) (fun c => ⟨c.regs, c.latch, c.steps, c.routes, c.dm, c.dmBad, c.results, c.stamps, c.gobIn, c.gobOut, c.reqArea, c.retBuf, c.farIn, c.hbm, c.hbmBad, c.hbmSoft⟩) (Otp.grows_refl _)
  cases p <;> first | rfl | exact fun _ _ => rfl | exact Bool.noConfusion (hm.symm.trans hp)

theorem Leaves.upd_start {m : Nat} {s u : State} {x : Start} (h : Leaves m s u) (hm : m.testBit 68 = true) :
    Leaves m s (u.withStart x) := by
  refine h.upd (fun p hp => ?_) (fun c => ⟨c.regs, c.latch, c.steps, c.routes, c.dm, c.dmBad, c.results, c.stamps, c.gobIn, c.gobOut, c.reqArea, c.retBuf, c.farIn, c.hbm, c.hbmBad, c.hbmSoft⟩) (Otp.grows_refl _)
  cases p <;> first | rfl | exact fun _ _ => rfl | exact Bool.noConfusion (hm.symm.trans hp)

theorem Leaves.upd_bst {m : Nat} {s u : State} {x : Bist} (h : Leaves m s u) (hm : m.testBit 69 = true) :
    Leaves m s (u.withBst x) := by
  refine h.upd (fun p hp => ?_) (fun c => ⟨c.regs, c.latch, c.steps, c.routes, c.dm, c.dmBad, c.results, c.stamps, c.gobIn, c.gobOut, c.reqArea, c.retBuf, c.farIn, c.hbm, c.hbmBad, c.hbmSoft⟩) (Otp.grows_refl _)
  cases p <;> first | rfl | exact fun _ _ => rfl | exact Bool.noConfusion (hm.symm.trans hp)

theorem Leaves.upd_otp {m : Nat} {s u : State} {x : Otp} (h : Leaves m s u) (hm : m.testBit 70 = true) (ho : u.otp.grows x) :
    Leaves m s (u.withOtp x) := by
  refine h.upd (fun p hp => ?_) (fun c => ⟨c.regs, c.latch, c.steps, c.routes, c.dm, c.dmBad, c.results, c.stamps, c.gobIn, c.gobOut, c.reqArea, c.retBuf, c.farIn, c.hbm, c.hbmBad, c.hbmSoft⟩) (ho)
  cases p <;> first | rfl | exact fun _ _ => rfl | exact Bool.noConfusion (hm.symm.trans hp)

theorem Leaves.upd_lcs {m : Nat} {s u : State} {x : Lcs} (h : Leaves m s u) (hm : m.testBit 71 = true) :
    Leaves m s (u.withLcs x) := by
  refine h.upd (fun p hp => ?_) (fun c => ⟨c.regs, c.latch, c.steps, c.routes, c.dm, c.dmBad, c.results, c.stamps, c.gobIn, c.gobOut, c.reqArea, c.retBuf, c.farIn, c.hbm, c.hbmBad, c.hbmSoft⟩) (Otp.grows_refl _)
  cases p <;> first | rfl | exact fun _ _ => rfl | exact Bool.noConfusion (hm.symm.trans hp)

theorem Leaves.upd_jtag {m : Nat} {s u : State} {x : Jtag} (h : Leaves m s u) (hm : m.testBit 72 = true) :
    Leaves m s (u.withJtag x) := by
  refine h.upd (fun p hp => ?_) (fun c => ⟨c.regs, c.latch, c.steps, c.routes, c.dm, c.dmBad, c.results, c.stamps, c.gobIn, c.gobOut, c.reqArea, c.retBuf, c.farIn, c.hbm, c.hbmBad, c.hbmSoft⟩) (Otp.grows_refl _)
  cases p <;> first | rfl | exact fun _ _ => rfl | exact Bool.noConfusion (hm.symm.trans hp)

theorem Leaves.upd_dbgReads {m : Nat} {s u : State} {x : List (Path × Nat × Nat)} (h : Leaves m s u) (hm : m.testBit 73 = true) :
    Leaves m s (u.withDbgReads x) := by
  refine h.upd (fun p hp => ?_) (fun c => ⟨c.regs, c.latch, c.steps, c.routes, c.dm, c.dmBad, c.results, c.stamps, c.gobIn, c.gobOut, c.reqArea, c.retBuf, c.farIn, c.hbm, c.hbmBad, c.hbmSoft⟩) (Otp.grows_refl _)
  cases p <;> first | rfl | exact fun _ _ => rfl | exact Bool.noConfusion (hm.symm.trans hp)

theorem Leaves.upd_spineOn {m : Nat} {s u : State} {x : Bool} (h : Leaves m s u) (hm : m.testBit 74 = true) :
    Leaves m s (u.withSpineOn x) := by
  refine h.upd (fun p hp => ?_) (fun c => ⟨c.regs, c.latch, c.steps, c.routes, c.dm, c.dmBad, c.results, c.stamps, c.gobIn, c.gobOut, c.reqArea, c.retBuf, c.farIn, c.hbm, c.hbmBad, c.hbmSoft⟩) (Otp.grows_refl _)
  cases p <;> first | rfl | exact fun _ _ => rfl | exact Bool.noConfusion (hm.symm.trans hp)

theorem Leaves.upd_free {m : Nat} {s u : State} {x : Nat} (h : Leaves m s u) (hm : m.testBit 75 = true) :
    Leaves m s (u.withFree x) := by
  refine h.upd (fun p hp => ?_) (fun c => ⟨c.regs, c.latch, c.steps, c.routes, c.dm, c.dmBad, c.results, c.stamps, c.gobIn, c.gobOut, c.reqArea, c.retBuf, c.farIn, c.hbm, c.hbmBad, c.hbmSoft⟩) (Otp.grows_refl _)
  cases p <;> first | rfl | exact fun _ _ => rfl | exact Bool.noConfusion (hm.symm.trans hp)

theorem Leaves.upd_out {m : Nat} {s u : State} {x : List Output} (h : Leaves m s u) (hm : m.testBit 76 = true) :
    Leaves m s (u.withOut x) := by
  refine h.upd (fun p hp => ?_) (fun c => ⟨c.regs, c.latch, c.steps, c.routes, c.dm, c.dmBad, c.results, c.stamps, c.gobIn, c.gobOut, c.reqArea, c.retBuf, c.farIn, c.hbm, c.hbmBad, c.hbmSoft⟩) (Otp.grows_refl _)
  cases p <;> first | rfl | exact fun _ _ => rfl | exact Bool.noConfusion (hm.symm.trans hp)

/-- `steps` as it was at the start of the chain. -/
theorem Leaves.back_steps {m : Nat} {s u : State} (h : Leaves m s u) (hm : m.testBit 26 = true) :
    Leaves m s (u.withSteps s.steps) := by
  refine ⟨fun p hp => Part.same_trans (h.same p hp) ?_, fun c => ⟨(h.canon c).regs, (h.canon c).latch, c.steps, (h.canon c).routes, (h.canon c).dm, (h.canon c).dmBad, (h.canon c).results, (h.canon c).stamps, (h.canon c).gobIn, (h.canon c).gobOut, (h.canon c).reqArea, (h.canon c).retBuf, (h.canon c).farIn, (h.canon c).hbm, (h.canon c).hbmBad, (h.canon c).hbmSoft⟩, h.otp⟩
  cases p <;> first | rfl | exact fun _ _ => rfl | exact Bool.noConfusion (hm.symm.trans hp)

/-- `routes` as it was at the start of the chain. -/
theorem Leaves.back_routes {m : Nat} {s u : State} (h : Leaves m s u) (hm : m.testBit 27 = true) :
    Leaves m s (u.withRoutes s.routes) := by
  refine ⟨fun p hp => Part.same_trans (h.same p hp) ?_, fun c => ⟨(h.canon c).regs, (h.canon c).latch, (h.canon c).steps, c.routes, (h.canon c).dm, (h.canon c).dmBad, (h.canon c).results, (h.canon c).stamps, (h.canon c).gobIn, (h.canon c).gobOut, (h.canon c).reqArea, (h.canon c).retBuf, (h.canon c).farIn, (h.canon c).hbm, (h.canon c).hbmBad, (h.canon c).hbmSoft⟩, h.otp⟩
  cases p <;> first | rfl | exact fun _ _ => rfl | exact Bool.noConfusion (hm.symm.trans hp)

/-- `hbm` as it was at the start of the chain. -/
theorem Leaves.back_hbm {m : Nat} {s u : State} (h : Leaves m s u) (hm : m.testBit 40 = true) :
    Leaves m s (u.withHbm s.hbm) := by
  refine ⟨fun p hp => Part.same_trans (h.same p hp) ?_, fun c => ⟨(h.canon c).regs, (h.canon c).latch, (h.canon c).steps, (h.canon c).routes, (h.canon c).dm, (h.canon c).dmBad, (h.canon c).results, (h.canon c).stamps, (h.canon c).gobIn, (h.canon c).gobOut, (h.canon c).reqArea, (h.canon c).retBuf, (h.canon c).farIn, c.hbm, (h.canon c).hbmBad, (h.canon c).hbmSoft⟩, h.otp⟩
  cases p <;> first | rfl | exact fun _ _ => rfl | exact Bool.noConfusion (hm.symm.trans hp)

/-- `hbmBad` as it was at the start of the chain. -/
theorem Leaves.back_hbmBad {m : Nat} {s u : State} (h : Leaves m s u) (hm : m.testBit 41 = true) :
    Leaves m s (u.withHbmBad s.hbmBad) := by
  refine ⟨fun p hp => Part.same_trans (h.same p hp) ?_, fun c => ⟨(h.canon c).regs, (h.canon c).latch, (h.canon c).steps, (h.canon c).routes, (h.canon c).dm, (h.canon c).dmBad, (h.canon c).results, (h.canon c).stamps, (h.canon c).gobIn, (h.canon c).gobOut, (h.canon c).reqArea, (h.canon c).retBuf, (h.canon c).farIn, (h.canon c).hbm, c.hbmBad, (h.canon c).hbmSoft⟩, h.otp⟩
  cases p <;> first | rfl | exact fun _ _ => rfl | exact Bool.noConfusion (hm.symm.trans hp)

/-- `hbmSoft` as it was at the start of the chain. -/
theorem Leaves.back_hbmSoft {m : Nat} {s u : State} (h : Leaves m s u) (hm : m.testBit 42 = true) :
    Leaves m s (u.withHbmSoft s.hbmSoft) := by
  refine ⟨fun p hp => Part.same_trans (h.same p hp) ?_, fun c => ⟨(h.canon c).regs, (h.canon c).latch, (h.canon c).steps, (h.canon c).routes, (h.canon c).dm, (h.canon c).dmBad, (h.canon c).results, (h.canon c).stamps, (h.canon c).gobIn, (h.canon c).gobOut, (h.canon c).reqArea, (h.canon c).retBuf, (h.canon c).farIn, (h.canon c).hbm, (h.canon c).hbmBad, c.hbmSoft⟩, h.otp⟩
  cases p <;> first | rfl | exact fun _ _ => rfl | exact Bool.noConfusion (hm.symm.trans hp)

/-- `pcie` from a state that has it as it was wherever the mask keeps it. -/
theorem Leaves.mix_pcie {m : Nat} {s u : State} {x : Pcie} (h : Leaves m s u) (hx : m.testBit 55 = false → x = s.pcie) :
    Leaves m s (u.withPcie x) := by
  refine ⟨fun p hp => ?_, fun c => ⟨(h.canon c).regs, (h.canon c).latch, (h.canon c).steps, (h.canon c).routes, (h.canon c).dm, (h.canon c).dmBad, (h.canon c).results, (h.canon c).stamps, (h.canon c).gobIn, (h.canon c).gobOut, (h.canon c).reqArea, (h.canon c).retBuf, (h.canon c).farIn, (h.canon c).hbm, (h.canon c).hbmBad, (h.canon c).hbmSoft⟩, h.otp⟩
  have k := h.same p hp
  cases p <;> first | exact hx hp | exact k

/-- `bar4` from a state that has it as it was wherever the mask keeps it. -/
theorem Leaves.mix_bar4 {m : Nat} {s u : State} {x : Tab Byte} (h : Leaves m s u) (hx : m.testBit 56 = false → x = s.bar4) :
    Leaves m s (u.withBar4 x) := by
  refine ⟨fun p hp => ?_, fun c => ⟨(h.canon c).regs, (h.canon c).latch, (h.canon c).steps, (h.canon c).routes, (h.canon c).dm, (h.canon c).dmBad, (h.canon c).results, (h.canon c).stamps, (h.canon c).gobIn, (h.canon c).gobOut, (h.canon c).reqArea, (h.canon c).retBuf, (h.canon c).farIn, (h.canon c).hbm, (h.canon c).hbmBad, (h.canon c).hbmSoft⟩, h.otp⟩
  have k := h.same p hp
  cases p <;> first | exact hx hp | exact k

/-- `hbmHeld` from a state that has it as it was wherever the mask keeps it. -/
theorem Leaves.mix_hbmHeld {m : Nat} {s u : State} {x : List Held2} (h : Leaves m s u) (hx : m.testBit 57 = false → x = s.hbmHeld) :
    Leaves m s (u.withHbmHeld x) := by
  refine ⟨fun p hp => ?_, fun c => ⟨(h.canon c).regs, (h.canon c).latch, (h.canon c).steps, (h.canon c).routes, (h.canon c).dm, (h.canon c).dmBad, (h.canon c).results, (h.canon c).stamps, (h.canon c).gobIn, (h.canon c).gobOut, (h.canon c).reqArea, (h.canon c).retBuf, (h.canon c).farIn, (h.canon c).hbm, (h.canon c).hbmBad, (h.canon c).hbmSoft⟩, h.otp⟩
  have k := h.same p hp
  cases p <;> first | exact hx hp | exact k

/-- `hbmBad` from a state that has it as it was wherever the mask keeps it. -/
theorem Leaves.mix_hbmBad {m : Nat} {s u : State} {x : Tab Bool} (h : Leaves m s u) (hx : m.testBit 41 = false → x = s.hbmBad) (hw : Canon s → Tab.wf (fun _ => false) x) :
    Leaves m s (u.withHbmBad x) := by
  refine ⟨fun p hp => ?_, fun c => ⟨(h.canon c).regs, (h.canon c).latch, (h.canon c).steps, (h.canon c).routes, (h.canon c).dm, (h.canon c).dmBad, (h.canon c).results, (h.canon c).stamps, (h.canon c).gobIn, (h.canon c).gobOut, (h.canon c).reqArea, (h.canon c).retBuf, (h.canon c).farIn, (h.canon c).hbm, hw c, (h.canon c).hbmSoft⟩, h.otp⟩
  have k := h.same p hp
  cases p <;> first | exact hx hp | exact k

/-- `hbmSoft` from a state that has it as it was wherever the mask keeps it. -/
theorem Leaves.mix_hbmSoft {m : Nat} {s u : State} {x : Tab Bool} (h : Leaves m s u) (hx : m.testBit 42 = false → x = s.hbmSoft) (hw : Canon s → Tab.wf (fun _ => false) x) :
    Leaves m s (u.withHbmSoft x) := by
  refine ⟨fun p hp => ?_, fun c => ⟨(h.canon c).regs, (h.canon c).latch, (h.canon c).steps, (h.canon c).routes, (h.canon c).dm, (h.canon c).dmBad, (h.canon c).results, (h.canon c).stamps, (h.canon c).gobIn, (h.canon c).gobOut, (h.canon c).reqArea, (h.canon c).retBuf, (h.canon c).farIn, (h.canon c).hbm, (h.canon c).hbmBad, hw c⟩, h.otp⟩
  have k := h.same p hp
  cases p <;> first | exact hx hp | exact k

/-- `free` from a state that has it as it was wherever the mask keeps it. -/
theorem Leaves.mix_free {m : Nat} {s u : State} {x : Nat} (h : Leaves m s u) (hx : m.testBit 75 = false → x = s.free) :
    Leaves m s (u.withFree x) := by
  refine ⟨fun p hp => ?_, fun c => ⟨(h.canon c).regs, (h.canon c).latch, (h.canon c).steps, (h.canon c).routes, (h.canon c).dm, (h.canon c).dmBad, (h.canon c).results, (h.canon c).stamps, (h.canon c).gobIn, (h.canon c).gobOut, (h.canon c).reqArea, (h.canon c).retBuf, (h.canon c).farIn, (h.canon c).hbm, (h.canon c).hbmBad, (h.canon c).hbmSoft⟩, h.otp⟩
  have k := h.same p hp
  cases p <;> first | exact hx hp | exact k

/-- `out` from a state that has it as it was wherever the mask keeps it. -/
theorem Leaves.mix_out {m : Nat} {s u : State} {x : List Output} (h : Leaves m s u) (hx : m.testBit 76 = false → x = s.out) :
    Leaves m s (u.withOut x) := by
  refine ⟨fun p hp => ?_, fun c => ⟨(h.canon c).regs, (h.canon c).latch, (h.canon c).steps, (h.canon c).routes, (h.canon c).dm, (h.canon c).dmBad, (h.canon c).results, (h.canon c).stamps, (h.canon c).gobIn, (h.canon c).gobOut, (h.canon c).reqArea, (h.canon c).retBuf, (h.canon c).farIn, (h.canon c).hbm, (h.canon c).hbmBad, (h.canon c).hbmSoft⟩, h.otp⟩
  have k := h.same p hp
  cases p <;> first | exact hx hp | exact k

/-- A register from a state that has it as it was wherever the mask keeps it. -/
theorem Leaves.mix_reg {m : Nat} {s u : State} {off : Nat} {w : Word} (h : Leaves m s u)
    (hx : m.testBit (regPart off).ctorIdx = false → w = s.reg off) : Leaves m s (u.setReg off w) := by
  refine ⟨fun p hp => ?_, fun c => ?_, h.otp⟩
  · have k := h.same p hp
    have key : (∀ o, regPart o = p → u.reg o = s.reg o) → ∀ o, regPart o = p → (u.setReg off w).reg o = s.reg o := by
      intro k o ho
      by_cases e : o = off
      · subst e
        rw [← ho] at hp
        exact (Tab.get_set_same _ _ _ _).trans (hx hp)
      · exact (Tab.get_set_ne _ _ _ e).trans (k o ho)
    cases p <;> first | exact key k | exact k
  · have d := h.canon c
    exact { d with regs := Tab.wf_set _ _ _ d.regs }

end Sys2Proof.Machine
end

