-- ==== Sys2Proof/Laws/Parts.lean ====
section
/-!
SUPPORT. The part of control space each register field belongs to.
-/

namespace Sys2Proof.Machine

theorem regPart_sysRegs {off : Nat} (h2 : off < 0x10000) :
    regPart off = .sysRegs := by
  unfold regPart
  rw [if_pos h2]

theorem regPart_pwrRegs {off : Nat} (h1 : 0x10000 ≤ off) (h2 : off < 0x20000) :
    regPart off = .pwrRegs := by
  unfold regPart
  rw [if_neg (by omega), if_pos h2]

theorem regPart_clkRegs {off : Nat} (h1 : 0x20000 ≤ off) (h2 : off < 0x30000) :
    regPart off = .clkRegs := by
  unfold regPart
  rw [if_neg (by omega), if_neg (by omega), if_pos h2]

theorem regPart_fltRegs {off : Nat} (h1 : 0x30000 ≤ off) (h2 : off < 0x40000) :
    regPart off = .fltRegs := by
  unfold regPart
  rw [if_neg (by omega), if_neg (by omega), if_neg (by omega), if_pos h2]

theorem regPart_evtRegs {off : Nat} (h1 : 0x40000 ≤ off) (h2 : off < 0x50000) :
    regPart off = .evtRegs := by
  unfold regPart
  rw [if_neg (by omega), if_neg (by omega), if_neg (by omega), if_neg (by omega), if_pos h2]

theorem regPart_lcsRegs {off : Nat} (h1 : 0x50000 ≤ off) (h2 : off < 0x60000) :
    regPart off = .lcsRegs := by
  unfold regPart
  rw [if_neg (by omega), if_neg (by omega), if_neg (by omega), if_neg (by omega), if_neg (by omega)]
  rw [if_pos h2]

theorem regPart_cfgRegs {off : Nat} (h1 : 0x60000 ≤ off) (h2 : off < 0x70000) :
    regPart off = .cfgRegs := by
  unfold regPart
  rw [if_neg (by omega), if_neg (by omega), if_neg (by omega), if_neg (by omega), if_neg (by omega)]
  rw [if_neg (by omega), if_pos h2]

theorem regPart_bstRegs {off : Nat} (h1 : 0x70000 ≤ off) (h2 : off < 0x80000) :
    regPart off = .bstRegs := by
  unfold regPart
  rw [if_neg (by omega), if_neg (by omega), if_neg (by omega), if_neg (by omega), if_neg (by omega)]
  rw [if_neg (by omega), if_neg (by omega), if_pos h2]

theorem regPart_tbRegs {off : Nat} (h1 : 0x80000 ≤ off) (h2 : off < 0x90000) :
    regPart off = .tbRegs := by
  unfold regPart
  rw [if_neg (by omega), if_neg (by omega), if_neg (by omega), if_neg (by omega), if_neg (by omega)]
  rw [if_neg (by omega), if_neg (by omega), if_neg (by omega), if_pos h2]

theorem regPart_nocRegs {off : Nat} (h1 : 0x90000 ≤ off) (h2 : off < 0xa0000) :
    regPart off = .nocRegs := by
  unfold regPart
  rw [if_neg (by omega), if_neg (by omega), if_neg (by omega), if_neg (by omega), if_neg (by omega)]
  rw [if_neg (by omega), if_neg (by omega), if_neg (by omega), if_neg (by omega), if_pos h2]

theorem regPart_dmaRegs {off : Nat} (h1 : 0xa0000 ≤ off) (h2 : off < 0xb0000) :
    regPart off = .dmaRegs := by
  unfold regPart
  rw [if_neg (by omega), if_neg (by omega), if_neg (by omega), if_neg (by omega), if_neg (by omega)]
  rw [if_neg (by omega), if_neg (by omega), if_neg (by omega), if_neg (by omega), if_neg (by omega)]
  rw [if_pos h2]

theorem regPart_stoRegs {off : Nat} (h1 : 0xb0000 ≤ off) (h2 : off < 0x100000) :
    regPart off = .stoRegs := by
  unfold regPart
  rw [if_neg (by omega), if_neg (by omega), if_neg (by omega), if_neg (by omega), if_neg (by omega)]
  rw [if_neg (by omega), if_neg (by omega), if_neg (by omega), if_neg (by omega), if_neg (by omega)]
  rw [if_neg (by omega), if_pos h2]

theorem regPart_gafRegs {off : Nat} (h1 : 0x100000 ≤ off) (h2 : off < 0x200000) (h3 : ¬(off % 0x10000 = 0x3c ∨ off % 0x10000 = 0x44 ∨ off % 0x10000 = 0x48)) :
    regPart off = .gafRegs := by
  unfold regPart
  rw [if_neg (by omega), if_neg (by omega), if_neg (by omega), if_neg (by omega), if_neg (by omega)]
  rw [if_neg (by omega), if_neg (by omega), if_neg (by omega), if_neg (by omega), if_neg (by omega)]
  rw [if_neg (by omega), if_neg (by omega), if_pos h2, if_neg h3]

theorem regPart_mpuRegs {off : Nat} (h1 : 0x200000 ≤ off) (h2 : off < 0xa00000) :
    regPart off = .mpuRegs := by
  unfold regPart
  rw [if_neg (by omega), if_neg (by omega), if_neg (by omega), if_neg (by omega), if_neg (by omega)]
  rw [if_neg (by omega), if_neg (by omega), if_neg (by omega), if_neg (by omega), if_neg (by omega)]
  rw [if_neg (by omega), if_neg (by omega), if_neg (by omega), if_pos h2]

theorem regPart_secRegs {off : Nat} (h1 : 0xa00000 ≤ off) (h2 : off < 0xb00000) :
    regPart off = .secRegs := by
  unfold regPart
  rw [if_neg (by omega), if_neg (by omega), if_neg (by omega), if_neg (by omega), if_neg (by omega)]
  rw [if_neg (by omega), if_neg (by omega), if_neg (by omega), if_neg (by omega), if_neg (by omega)]
  rw [if_neg (by omega), if_neg (by omega), if_neg (by omega), if_neg (by omega), if_pos h2]

theorem regPart_ircRegs {off : Nat} (h1 : 0xb00000 ≤ off) (h2 : off < 0xc00000) :
    regPart off = .ircRegs := by
  unfold regPart
  rw [if_neg (by omega), if_neg (by omega), if_neg (by omega), if_neg (by omega), if_neg (by omega)]
  rw [if_neg (by omega), if_neg (by omega), if_neg (by omega), if_neg (by omega), if_neg (by omega)]
  rw [if_neg (by omega), if_neg (by omega), if_neg (by omega), if_neg (by omega), if_neg (by omega)]
  rw [if_pos h2]

theorem regPart_gthRegs {off : Nat} (h1 : 0xc00000 ≤ off) (h2 : off < 0xc80000) :
    regPart off = .gthRegs := by
  unfold regPart
  rw [if_neg (by omega), if_neg (by omega), if_neg (by omega), if_neg (by omega), if_neg (by omega)]
  rw [if_neg (by omega), if_neg (by omega), if_neg (by omega), if_neg (by omega), if_neg (by omega)]
  rw [if_neg (by omega), if_neg (by omega), if_neg (by omega), if_neg (by omega), if_neg (by omega)]
  rw [if_neg (by omega), if_pos h2]

theorem regPart_mrvRegs {off : Nat} (h1 : 0xc80000 ≤ off) (h2 : off < 0xe00000) :
    regPart off = .mrvRegs := by
  unfold regPart
  rw [if_neg (by omega), if_neg (by omega), if_neg (by omega), if_neg (by omega), if_neg (by omega)]
  rw [if_neg (by omega), if_neg (by omega), if_neg (by omega), if_neg (by omega), if_neg (by omega)]
  rw [if_neg (by omega), if_neg (by omega), if_neg (by omega), if_neg (by omega), if_neg (by omega)]
  rw [if_neg (by omega), if_neg (by omega), if_pos h2]

theorem regPart_hbmRegs {off : Nat} (h1 : 0xe00000 ≤ off) (h2 : off < 0xf00000) :
    regPart off = .hbmRegs := by
  unfold regPart
  rw [if_neg (by omega), if_neg (by omega), if_neg (by omega), if_neg (by omega), if_neg (by omega)]
  rw [if_neg (by omega), if_neg (by omega), if_neg (by omega), if_neg (by omega), if_neg (by omega)]
  rw [if_neg (by omega), if_neg (by omega), if_neg (by omega), if_neg (by omega), if_neg (by omega)]
  rw [if_neg (by omega), if_neg (by omega), if_neg (by omega), if_pos h2]

theorem regPart_pciRegs {off : Nat} (h1 : 0xf00000 ≤ off) (h2 : off < 0xf10000) :
    regPart off = .pciRegs := by
  unfold regPart
  rw [if_neg (by omega), if_neg (by omega), if_neg (by omega), if_neg (by omega), if_neg (by omega)]
  rw [if_neg (by omega), if_neg (by omega), if_neg (by omega), if_neg (by omega), if_neg (by omega)]
  rw [if_neg (by omega), if_neg (by omega), if_neg (by omega), if_neg (by omega), if_neg (by omega)]
  rw [if_neg (by omega), if_neg (by omega), if_neg (by omega), if_neg (by omega), if_pos h2]

theorem regPart_ethRegs {off : Nat} (h1 : 0xf10000 ≤ off) (h2 : off < 0x1000000) :
    regPart off = .ethRegs := by
  unfold regPart
  rw [if_neg (by omega), if_neg (by omega), if_neg (by omega), if_neg (by omega), if_neg (by omega)]
  rw [if_neg (by omega), if_neg (by omega), if_neg (by omega), if_neg (by omega), if_neg (by omega)]
  rw [if_neg (by omega), if_neg (by omega), if_neg (by omega), if_neg (by omega), if_neg (by omega)]
  rw [if_neg (by omega), if_neg (by omega), if_neg (by omega), if_neg (by omega), if_neg (by omega)]
  rw [if_pos h2]

theorem regPart_waitRegs {off : Nat} (h1 : 0x100000 ≤ off) (h2 : off < 0x200000)
    (h3 : off % 0x10000 = 0x3c ∨ off % 0x10000 = 0x44 ∨ off % 0x10000 = 0x48) :
    regPart off = .waitRegs := by
  unfold regPart
  rw [if_neg (by omega), if_neg (by omega), if_neg (by omega), if_neg (by omega), if_neg (by omega)]
  rw [if_neg (by omega), if_neg (by omega), if_neg (by omega), if_neg (by omega), if_neg (by omega)]
  rw [if_neg (by omega), if_neg (by omega), if_pos h2, if_pos h3]

theorem regPart_windowRegs {off : Nat} (h1 : 0x1000000 ≤ off) :
    regPart off = .windowRegs := by
  unfold regPart
  rw [if_neg (by omega), if_neg (by omega), if_neg (by omega), if_neg (by omega), if_neg (by omega)]
  rw [if_neg (by omega), if_neg (by omega), if_neg (by omega), if_neg (by omega), if_neg (by omega)]
  rw [if_neg (by omega), if_neg (by omega), if_neg (by omega), if_neg (by omega), if_neg (by omega)]
  rw [if_neg (by omega), if_neg (by omega), if_neg (by omega), if_neg (by omega), if_neg (by omega)]
  rw [if_neg (by omega)]

theorem Part.ite_small {c : Prop} [Decidable c] {a b : Part} (ha : a.ctorIdx < 23) (hb : b.ctorIdx < 23) :
    (if c then a else b).ctorIdx < 23 := by split <;> assumption

/-- Every register is in one of the groups of registers. -/
theorem regPart_bit (off : Nat) : Nat.testBit 0x7fffff (regPart off).ctorIdx = true := by
  have h : ∀ p : Part, p.ctorIdx < 23 → Nat.testBit 0x7fffff p.ctorIdx = true := by intro p; cases p <;> decide
  refine h _ ?_
  unfold regPart
  repeat' first
    | with_reducible apply Part.ite_small
    | decide

theorem F.SYS_START_STAT_PHASE_part : regPart F.SYS_START_STAT_PHASE.off = .sysRegs := rfl
theorem F.SYS_START_STAT_KIND_part : regPart F.SYS_START_STAT_KIND.off = .sysRegs := rfl
theorem F.SYS_START_STAT_GOLDEN_START_part : regPart F.SYS_START_STAT_GOLDEN_START.off = .sysRegs := rfl
theorem F.SYS_START_STAT_BIST_SKIPPED_part : regPart F.SYS_START_STAT_BIST_SKIPPED.off = .sysRegs := rfl
theorem F.SYS_START_STAT_ATTEMPTS_part : regPart F.SYS_START_STAT_ATTEMPTS.off = .sysRegs := rfl
theorem F.SYS_START_STAT_CAUSE_part : regPart F.SYS_START_STAT_CAUSE.off = .sysRegs := rfl
theorem F.SYS_START_STAT_SKIP_part : regPart F.SYS_START_STAT_SKIP.off = .sysRegs := rfl
theorem F.SYS_START_CTRL_CONFIRM_part : regPart F.SYS_START_CTRL_CONFIRM.off = .sysRegs := rfl
theorem F.SYS_START_CTRL_AUTO_CONFIRM_part : regPart F.SYS_START_CTRL_AUTO_CONFIRM.off = .sysRegs := rfl
theorem F.SYS_START_CTRL_CONFIRM_MS_part : regPart F.SYS_START_CTRL_CONFIRM_MS.off = .sysRegs := rfl
theorem F.SYS_REL_CFG_ORDER_part : regPart F.SYS_REL_CFG_ORDER.off = .sysRegs := rfl
theorem F.SYS_REL_CFG_PLL_MASK_part : regPart F.SYS_REL_CFG_PLL_MASK.off = .sysRegs := rfl
theorem F.SYS_REL_CFG_PLL_TIMEOUT_part : regPart F.SYS_REL_CFG_PLL_TIMEOUT.off = .sysRegs := rfl
theorem F.SYS_START_TIME_RELEASE_US_part : regPart F.SYS_START_TIME_RELEASE_US.off = .sysRegs := rfl
theorem F.SYS_ACCESS_ERR_CNT_COUNT_part : regPart F.SYS_ACCESS_ERR_CNT_COUNT.off = .sysRegs := rfl
theorem F.SYS_LOCKED_WRITE_CNT_COUNT_part : regPart F.SYS_LOCKED_WRITE_CNT_COUNT.off = .sysRegs := rfl
theorem F.PWR_CTRL_S4_REQ_part : regPart F.PWR_CTRL_S4_REQ.off = .pwrRegs := rfl
theorem F.PWR_STAT_XTAL_OK_part : regPart F.PWR_STAT_XTAL_OK.off = .pwrRegs := rfl
theorem F.PWR_STAT_ON_XTAL_part : regPart F.PWR_STAT_ON_XTAL.off = .pwrRegs := rfl
theorem F.PWR_STAT_S4_RESULT_part : regPart F.PWR_STAT_S4_RESULT.off = .pwrRegs := rfl
theorem F.PWR_STAT_PERF_part : regPart F.PWR_STAT_PERF.off = .pwrRegs := rfl
theorem F.PWR_STAT_PERF_BUSY_part : regPart F.PWR_STAT_PERF_BUSY.off = .pwrRegs := rfl
theorem F.PWR_STAT_PERF_ERR_part : regPart F.PWR_STAT_PERF_ERR.off = .pwrRegs := rfl
theorem F.PWR_STAT_PMBUS_ERR_part : regPart F.PWR_STAT_PMBUS_ERR.off = .pwrRegs := rfl
theorem F.PWR_STAT_ABANDONED_part : regPart F.PWR_STAT_ABANDONED.off = .pwrRegs := rfl
theorem F.PWR_STAT_S4_ABORT_part : regPart F.PWR_STAT_S4_ABORT.off = .pwrRegs := rfl
theorem F.PWR_WAKE_SRC_SRC_part : regPart F.PWR_WAKE_SRC_SRC.off = .pwrRegs := rfl
theorem F.PWR_SAVE_CFG_CAPTURED_part : regPart F.PWR_SAVE_CFG_CAPTURED.off = .pwrRegs := rfl
theorem F.PWR_SAVE_IDX_IDX_part : regPart F.PWR_SAVE_IDX_IDX.off = .pwrRegs := rfl
theorem F.PWR_VOUT_MV_part : regPart F.PWR_VOUT_MV.off = .pwrRegs := rfl
theorem F.PWR_ABANDON_CNT_COUNT_part : regPart F.PWR_ABANDON_CNT_COUNT.off = .pwrRegs := rfl
theorem F.PWR_WAKE_PKT_CNT_COUNT_part : regPart F.PWR_WAKE_PKT_CNT_COUNT.off = .pwrRegs := rfl
theorem F.PWR_PERF_HOLD_CNT_COUNT_part : regPart F.PWR_PERF_HOLD_CNT_COUNT.off = .pwrRegs := rfl
theorem F.PWR_PMBUS_ERR_CNT_COUNT_part : regPart F.PWR_PMBUS_ERR_CNT_COUNT.off = .pwrRegs := rfl
theorem F.CLK_STAT_CFG_ERR_part : regPart F.CLK_STAT_CFG_ERR.off = .clkRegs := rfl
theorem F.CLK_STAT_UNLOCK_part : regPart F.CLK_STAT_UNLOCK.off = .clkRegs := rfl
theorem F.CLK_STAT_LOCKED_part : regPart F.CLK_STAT_LOCKED.off = .clkRegs := rfl
theorem F.CLK_UNLOCK_CNT_COUNT_part : regPart F.CLK_UNLOCK_CNT_COUNT.off = .clkRegs := rfl
theorem F.FLT_STAT_F0_part : regPart F.FLT_STAT_F0.off = .fltRegs := rfl
theorem F.FLT_STAT_PIN_LEVEL_part : regPart F.FLT_STAT_PIN_LEVEL.off = .fltRegs := rfl
theorem F.FLT_STAT_F1_PREV_part : regPart F.FLT_STAT_F1_PREV.off = .fltRegs := rfl
theorem F.FLT_STAT_OVERFLOW_part : regPart F.FLT_STAT_OVERFLOW.off = .fltRegs := rfl
theorem F.FLT_STAT_WIRE_part : regPart F.FLT_STAT_WIRE.off = .fltRegs := rfl
theorem F.FLT_STAT_TEST_BUSY_part : regPart F.FLT_STAT_TEST_BUSY.off = .fltRegs := rfl
theorem F.FLT_STAT_FENCED_part : regPart F.FLT_STAT_FENCED.off = .fltRegs := rfl
theorem F.FLT_LOG_HEAD_HEAD_part : regPart F.FLT_LOG_HEAD_HEAD.off = .fltRegs := rfl
theorem F.FLT_TEMP_MAX_part : regPart F.FLT_TEMP_MAX.off = .fltRegs := rfl
theorem F.FLT_FENCE_LAST_SOURCE_part (k : Nat) : regPart (F.FLT_FENCE_LAST_SOURCE k).off = .fltRegs :=
  regPart_fltRegs (by simp only [F.FLT_FENCE_LAST_SOURCE]; omega) (by simp only [F.FLT_FENCE_LAST_SOURCE]; omega)
theorem F.FLT_FENCE_COUNT_part (k : Nat) : regPart (F.FLT_FENCE_COUNT k).off = .fltRegs :=
  regPart_fltRegs (by simp only [F.FLT_FENCE_COUNT]; omega) (by simp only [F.FLT_FENCE_COUNT]; omega)
theorem F.FLT_F3_CNT_COUNT_part : regPart F.FLT_F3_CNT_COUNT.off = .fltRegs := rfl
theorem F.FLT_F2_CNT_COUNT_part : regPart F.FLT_F2_CNT_COUNT.off = .fltRegs := rfl
theorem F.FLT_F1_CNT_COUNT_part : regPart F.FLT_F1_CNT_COUNT.off = .fltRegs := rfl
theorem F.FLT_OVF_CNT_COUNT_part : regPart F.FLT_OVF_CNT_COUNT.off = .fltRegs := rfl
theorem F.LCS_STATE_part : regPart F.LCS_STATE.off = .lcsRegs := rfl
theorem F.LCS_STATE_TRANS_BUSY_part : regPart F.LCS_STATE_TRANS_BUSY.off = .lcsRegs := rfl
theorem F.LCS_DBG_SCOPE_SCOPES_part : regPart F.LCS_DBG_SCOPE_SCOPES.off = .lcsRegs := rfl
theorem F.LCS_DBG_CTRL_RELEASE_part : regPart F.LCS_DBG_CTRL_RELEASE.off = .lcsRegs := rfl
theorem F.LCS_STAT_LOCKOUT_part : regPart F.LCS_STAT_LOCKOUT.off = .lcsRegs := rfl
theorem F.LCS_STAT_BSCAN_part : regPart F.LCS_STAT_BSCAN.off = .lcsRegs := rfl
theorem F.LCS_STAT_TRANS_ERR_part : regPart F.LCS_STAT_TRANS_ERR.off = .lcsRegs := rfl
theorem F.LCS_STAT_AUTH_FAIL_part : regPart F.LCS_STAT_AUTH_FAIL.off = .lcsRegs := rfl
theorem F.LCS_AUTH_FAIL_CNT_COUNT_part : regPart F.LCS_AUTH_FAIL_CNT_COUNT.off = .lcsRegs := rfl
theorem F.LCS_DENIED_CNT_COUNT_part : regPart F.LCS_DENIED_CNT_COUNT.off = .lcsRegs := rfl
theorem F.LCS_ATTEST_CNT_COUNT_part : regPart F.LCS_ATTEST_CNT_COUNT.off = .lcsRegs := rfl
theorem F.CFG_FAB_STAT_ISOLATED_part : regPart F.CFG_FAB_STAT_ISOLATED.off = .cfgRegs := rfl
theorem F.CFG_FAB_STAT_RELEASED_part : regPart F.CFG_FAB_STAT_RELEASED.off = .cfgRegs := rfl
theorem F.CFG_IO_PULL_PULL_part : regPart F.CFG_IO_PULL_PULL.off = .cfgRegs := rfl
theorem F.CFG_IO_STAT_VCCO_OK_part : regPart F.CFG_IO_STAT_VCCO_OK.off = .cfgRegs := rfl
theorem F.CFG_WIN_STAT_TIMEOUT_part : regPart F.CFG_WIN_STAT_TIMEOUT.off = .cfgRegs := rfl
theorem F.CFG_CLK_STAT_STUCK_part : regPart F.CFG_CLK_STAT_STUCK.off = .cfgRegs := rfl
theorem F.CFG_CLK_STAT_PENDING_part : regPart F.CFG_CLK_STAT_PENDING.off = .cfgRegs := rfl
theorem F.CFG_WIN_TO_CNT_COUNT_part : regPart F.CFG_WIN_TO_CNT_COUNT.off = .cfgRegs := rfl
theorem F.CFG_TRIG_DROP_CNT_COUNT_part : regPart F.CFG_TRIG_DROP_CNT_COUNT.off = .cfgRegs := rfl
theorem F.CFG_STAT_LOAD_BUSY_part : regPart F.CFG_STAT_LOAD_BUSY.off = .cfgRegs := rfl
theorem F.CFG_STAT_IMAGE_OK_part : regPart F.CFG_STAT_IMAGE_OK.off = .cfgRegs := rfl
theorem F.CFG_STAT_GOLDEN_part : regPart F.CFG_STAT_GOLDEN.off = .cfgRegs := rfl
theorem F.CFG_STAT_SOURCE_part : regPart F.CFG_STAT_SOURCE.off = .cfgRegs := rfl
theorem F.CFG_STAT_SLOT_part : regPart F.CFG_STAT_SLOT.off = .cfgRegs := rfl
theorem F.CFG_LOAD_ERR_CNT_COUNT_part : regPart F.CFG_LOAD_ERR_CNT_COUNT.off = .cfgRegs := rfl
theorem F.CFG_PROG_CTRL_GO_part : regPart F.CFG_PROG_CTRL_GO.off = .cfgRegs := rfl
theorem F.CFG_PROG_STAT_BUSY_part : regPart F.CFG_PROG_STAT_BUSY.off = .cfgRegs := rfl
theorem F.CFG_PROG_STAT_DONE_part : regPart F.CFG_PROG_STAT_DONE.off = .cfgRegs := rfl
theorem F.CFG_PROG_STAT_ERR_part : regPart F.CFG_PROG_STAT_ERR.off = .cfgRegs := rfl
theorem F.CFG_PROG_STAT_CAUSE_part : regPart F.CFG_PROG_STAT_CAUSE.off = .cfgRegs := rfl
theorem F.CFG_SCRUB_CTRL_AUTO_RELOAD_part : regPart F.CFG_SCRUB_CTRL_AUTO_RELOAD.off = .cfgRegs := rfl
theorem F.CFG_SCRUB_CTRL_WIN_EN_part : regPart F.CFG_SCRUB_CTRL_WIN_EN.off = .cfgRegs := rfl
theorem F.CFG_SCRUB_CTRL_EN_part : regPart F.CFG_SCRUB_CTRL_EN.off = .cfgRegs := rfl
theorem F.CFG_SCRUB_CE_CNT_COUNT_part : regPart F.CFG_SCRUB_CE_CNT_COUNT.off = .cfgRegs := rfl
theorem F.CFG_SCRUB_UE_CNT_COUNT_part : regPart F.CFG_SCRUB_UE_CNT_COUNT.off = .cfgRegs := rfl
theorem F.CFG_RELOAD_CNT_COUNT_part : regPart F.CFG_RELOAD_CNT_COUNT.off = .cfgRegs := rfl
theorem F.CFG_LOCK_part : regPart F.CFG_LOCK.off = .cfgRegs := rfl
theorem F.BST_STAT_BUSY_part : regPart F.BST_STAT_BUSY.off = .bstRegs := rfl
theorem F.BST_STAT_SUSPECT_part : regPart F.BST_STAT_SUSPECT.off = .bstRegs := rfl
theorem F.BST_STAT_CULLET_part : regPart F.BST_STAT_CULLET.off = .bstRegs := rfl
theorem F.BST_STAT_REPAIR_part : regPart F.BST_STAT_REPAIR.off = .bstRegs := rfl
theorem F.BST_STAT_FAIL_part : regPart F.BST_STAT_FAIL.off = .bstRegs := rfl
theorem F.BST_FAIL_CNT_COUNT_part : regPart F.BST_FAIL_CNT_COUNT.off = .bstRegs := rfl
theorem F.BST_REPAIR_CNT_COUNT_part : regPart F.BST_REPAIR_CNT_COUNT.off = .bstRegs := rfl
theorem F.TB_CTRL_CPL_LOAD_part : regPart F.TB_CTRL_CPL_LOAD.off = .tbRegs := rfl
theorem F.TB_CTRL_GROUP_EN_part : regPart F.TB_CTRL_GROUP_EN.off = .tbRegs := rfl
theorem F.TB_CTRL_TRIG_EN_part : regPart F.TB_CTRL_TRIG_EN.off = .tbRegs := rfl
theorem F.TB_CTRL_ENC_EN_part : regPart F.TB_CTRL_ENC_EN.off = .tbRegs := rfl
theorem F.TB_CTRL_ARM_part : regPart F.TB_CTRL_ARM.off = .tbRegs := rfl
theorem F.TB_STATUS_ROLE_part : regPart F.TB_STATUS_ROLE.off = .tbRegs := rfl
theorem F.TB_STATUS_ALIGNED_part : regPart F.TB_STATUS_ALIGNED.off = .tbRegs := rfl
theorem F.TB_STATUS_ELECTING_part : regPart F.TB_STATUS_ELECTING.off = .tbRegs := rfl
theorem F.TB_STATUS_UPSTREAM_part : regPart F.TB_STATUS_UPSTREAM.off = .tbRegs := rfl
theorem F.TB_STATUS_HOPS_part : regPart F.TB_STATUS_HOPS.off = .tbRegs := rfl
theorem F.TB_STATUS_MAX_HOPS_part : regPart F.TB_STATUS_MAX_HOPS.off = .tbRegs := rfl
theorem F.TB_STATUS_TIME_AHEAD_part : regPart F.TB_STATUS_TIME_AHEAD.off = .tbRegs := rfl
theorem F.TB_STATUS_OFFSET_SHORT_part : regPart F.TB_STATUS_OFFSET_SHORT.off = .tbRegs := rfl
theorem F.TB_STATUS_LATE_part : regPart F.TB_STATUS_LATE.off = .tbRegs := rfl
theorem F.TB_STATUS_OVERSPEED_part : regPart F.TB_STATUS_OVERSPEED.off = .tbRegs := rfl
theorem F.TB_STATUS_ENC_ERR_part : regPart F.TB_STATUS_ENC_ERR.off = .tbRegs := rfl
theorem F.TB_LINE_LO_part : regPart F.TB_LINE_LO.off = .tbRegs := rfl
theorem F.TB_LINE_HI_part : regPart F.TB_LINE_HI.off = .tbRegs := rfl
theorem F.TB_GROUP_EPOCH_part : regPart F.TB_GROUP_EPOCH.off = .tbRegs := rfl
theorem F.TB_GROUP_COUNT_part : regPart F.TB_GROUP_COUNT.off = .tbRegs := rfl
theorem F.TB_GROUP_MASTER_ID_part : regPart F.TB_GROUP_MASTER_ID.off = .tbRegs := rfl
theorem F.TB_XSYNC_SYNCED_part : regPart F.TB_XSYNC_SYNCED.off = .tbRegs := rfl
theorem F.TB_ENC_ERR_CNT_COUNT_part : regPart F.TB_ENC_ERR_CNT_COUNT.off = .tbRegs := rfl
theorem F.TB_OVERSPEED_CNT_COUNT_part : regPart F.TB_OVERSPEED_CNT_COUNT.off = .tbRegs := rfl
theorem F.TB_LINE_SKIP_CNT_COUNT_part : regPart F.TB_LINE_SKIP_CNT_COUNT.off = .tbRegs := rfl
theorem F.TB_LATE_CNT_COUNT_part : regPart F.TB_LATE_CNT_COUNT.off = .tbRegs := rfl
theorem F.TB_TIME_STEP_CNT_COUNT_part : regPart F.TB_TIME_STEP_CNT_COUNT.off = .tbRegs := rfl
theorem F.TB_LOCK_part : regPart F.TB_LOCK.off = .tbRegs := rfl
theorem F.NOC_CTRL_SWITCH_part : regPart F.NOC_CTRL_SWITCH.off = .nocRegs := rfl
theorem F.NOC_STAT_BANK_part : regPart F.NOC_STAT_BANK.off = .nocRegs := rfl
theorem F.NOC_STAT_SWITCH_PEND_part : regPart F.NOC_STAT_SWITCH_PEND.off = .nocRegs := rfl
theorem F.NOC_STAT_ERR_CAUSE_part : regPart F.NOC_STAT_ERR_CAUSE.off = .nocRegs := rfl
theorem F.NOC_STAT_SWITCH_ERR_part : regPart F.NOC_STAT_SWITCH_ERR.off = .nocRegs := rfl
theorem F.NOC_STAT_PAR_ERR_part : regPart F.NOC_STAT_PAR_ERR.off = .nocRegs := rfl
theorem F.NOC_SWITCH_CNT_COUNT_part : regPart F.NOC_SWITCH_CNT_COUNT.off = .nocRegs := rfl
theorem F.NOC_PAR_CNT_COUNT_part : regPart F.NOC_PAR_CNT_COUNT.off = .nocRegs := rfl
theorem F.DMA_CTRL_ABORT_part (k : Nat) : regPart (F.DMA_CTRL_ABORT k).off = .dmaRegs :=
  regPart_dmaRegs (by simp only [F.DMA_CTRL_ABORT]; omega) (by simp only [F.DMA_CTRL_ABORT]; omega)
theorem F.DMA_STAT_BUSY_part (k : Nat) : regPart (F.DMA_STAT_BUSY k).off = .dmaRegs :=
  regPart_dmaRegs (by simp only [F.DMA_STAT_BUSY]; omega) (by simp only [F.DMA_STAT_BUSY]; omega)
theorem F.DMA_STAT_INFLIGHT_part (k : Nat) : regPart (F.DMA_STAT_INFLIGHT k).off = .dmaRegs :=
  regPart_dmaRegs (by simp only [F.DMA_STAT_INFLIGHT]; omega) (by simp only [F.DMA_STAT_INFLIGHT]; omega)
theorem F.DMA_STAT_STOPPED_part (k : Nat) : regPart (F.DMA_STAT_STOPPED k).off = .dmaRegs :=
  regPart_dmaRegs (by simp only [F.DMA_STAT_STOPPED]; omega) (by simp only [F.DMA_STAT_STOPPED]; omega)
theorem F.DMA_STAT_ERR_part (k : Nat) : regPart (F.DMA_STAT_ERR k).off = .dmaRegs :=
  regPart_dmaRegs (by simp only [F.DMA_STAT_ERR]; omega) (by simp only [F.DMA_STAT_ERR]; omega)
theorem F.DMA_HEAD_part (k : Nat) : regPart (F.DMA_HEAD k).off = .dmaRegs :=
  regPart_dmaRegs (by simp only [F.DMA_HEAD]; omega) (by simp only [F.DMA_HEAD]; omega)
theorem F.DMA_CPL_HEAD_HEAD_part (k : Nat) : regPart (F.DMA_CPL_HEAD_HEAD k).off = .dmaRegs :=
  regPart_dmaRegs (by simp only [F.DMA_CPL_HEAD_HEAD]; omega) (by simp only [F.DMA_CPL_HEAD_HEAD]; omega)
theorem F.DMA_DONE_CNT_COUNT_part (k : Nat) : regPart (F.DMA_DONE_CNT_COUNT k).off = .dmaRegs :=
  regPart_dmaRegs (by simp only [F.DMA_DONE_CNT_COUNT]; omega) (by simp only [F.DMA_DONE_CNT_COUNT]; omega)
theorem F.DMA_ERR_CNT_COUNT_part (k : Nat) : regPart (F.DMA_ERR_CNT_COUNT k).off = .dmaRegs :=
  regPart_dmaRegs (by simp only [F.DMA_ERR_CNT_COUNT]; omega) (by simp only [F.DMA_ERR_CNT_COUNT]; omega)
theorem F.STO_CTRL_ABORT_part : regPart F.STO_CTRL_ABORT.off = .stoRegs := rfl
theorem F.STO_CTRL_EN_part : regPart F.STO_CTRL_EN.off = .stoRegs := rfl
theorem F.STO_STAT_READY_part : regPart F.STO_STAT_READY.off = .stoRegs := rfl
theorem F.STO_STAT_THROTTLED_part : regPart F.STO_STAT_THROTTLED.off = .stoRegs := rfl
theorem F.STO_STAT_QUEUE_part : regPart F.STO_STAT_QUEUE.off = .stoRegs := rfl
theorem F.STO_STAT_GEOM_ERR_part : regPart F.STO_STAT_GEOM_ERR.off = .stoRegs := rfl
theorem F.STO_STAT_TORN_part : regPart F.STO_STAT_TORN.off = .stoRegs := rfl
theorem F.STO_STAT_RELEASE_CLAMP_part : regPart F.STO_STAT_RELEASE_CLAMP.off = .stoRegs := rfl
theorem F.STO_STAT_LOST_part : regPart F.STO_STAT_LOST.off = .stoRegs := rfl
theorem F.STO_STAT_RD_ERR_part : regPart F.STO_STAT_RD_ERR.off = .stoRegs := rfl
theorem F.STO_STAT_BAD_BLOCK_part : regPart F.STO_STAT_BAD_BLOCK.off = .stoRegs := rfl
theorem F.STO_GEOM_DIES_part : regPart F.STO_GEOM_DIES.off = .stoRegs := rfl
theorem F.STO_GEOM_PLANES_part : regPart F.STO_GEOM_PLANES.off = .stoRegs := rfl
theorem F.STO_GEOM_PAGE_part : regPart F.STO_GEOM_PAGE.off = .stoRegs := rfl
theorem F.STO_GEOM_BLOCKS_part : regPart F.STO_GEOM_BLOCKS.off = .stoRegs := rfl
theorem F.STO_BAD_FACT_COUNT_part : regPart F.STO_BAD_FACT_COUNT.off = .stoRegs := rfl
theorem F.STO_BAD_GROWN_COUNT_part : regPart F.STO_BAD_GROWN_COUNT.off = .stoRegs := rfl
theorem F.STO_LAST_STATUS_STATUS_part : regPart F.STO_LAST_STATUS_STATUS.off = .stoRegs := rfl
theorem F.STO_COMMIT_CNT_COUNT_part : regPart F.STO_COMMIT_CNT_COUNT.off = .stoRegs := rfl
theorem F.STO_LOST_CNT_COUNT_part : regPart F.STO_LOST_CNT_COUNT.off = .stoRegs := rfl
theorem F.STO_CRC_ERR_CNT_COUNT_part : regPart F.STO_CRC_ERR_CNT_COUNT.off = .stoRegs := rfl
theorem F.STO_ECC_CORR_CNT_COUNT_part : regPart F.STO_ECC_CORR_CNT_COUNT.off = .stoRegs := rfl
theorem F.STO_TORN_CNT_COUNT_part : regPart F.STO_TORN_CNT_COUNT.off = .stoRegs := rfl
theorem F.GAF_STATUS_STATE_part (n : Nat) : regPart (F.GAF_STATUS_STATE n).off = .gafRegs :=
  regPart_gafRegs (by simp only [F.GAF_STATUS_STATE]; omega) (by simp only [F.GAF_STATUS_STATE]; omega) (by simp only [F.GAF_STATUS_STATE]; omega)
theorem F.GAF_STATUS_CAUSE_part (n : Nat) : regPart (F.GAF_STATUS_CAUSE n).off = .gafRegs :=
  regPart_gafRegs (by simp only [F.GAF_STATUS_CAUSE]; omega) (by simp only [F.GAF_STATUS_CAUSE]; omega) (by simp only [F.GAF_STATUS_CAUSE]; omega)
theorem F.GAF_STATUS_WIN_part (n : Nat) : regPart (F.GAF_STATUS_WIN n).off = .gafRegs :=
  regPart_gafRegs (by simp only [F.GAF_STATUS_WIN]; omega) (by simp only [F.GAF_STATUS_WIN]; omega) (by simp only [F.GAF_STATUS_WIN]; omega)
theorem F.GAF_STATUS_SEL_part (n : Nat) : regPart (F.GAF_STATUS_SEL n).off = .gafRegs :=
  regPart_gafRegs (by simp only [F.GAF_STATUS_SEL]; omega) (by simp only [F.GAF_STATUS_SEL]; omega) (by simp only [F.GAF_STATUS_SEL]; omega)
theorem F.GAF_STATUS_READY_B_part (n : Nat) : regPart (F.GAF_STATUS_READY_B n).off = .gafRegs :=
  regPart_gafRegs (by simp only [F.GAF_STATUS_READY_B]; omega) (by simp only [F.GAF_STATUS_READY_B]; omega) (by simp only [F.GAF_STATUS_READY_B]; omega)
theorem F.GAF_STATUS_READY_A_part (n : Nat) : regPart (F.GAF_STATUS_READY_A n).off = .gafRegs :=
  regPart_gafRegs (by simp only [F.GAF_STATUS_READY_A]; omega) (by simp only [F.GAF_STATUS_READY_A]; omega) (by simp only [F.GAF_STATUS_READY_A]; omega)
theorem F.GAF_STATUS_SWITCH_WAIT_part (n : Nat) : regPart (F.GAF_STATUS_SWITCH_WAIT n).off = .gafRegs :=
  regPart_gafRegs (by simp only [F.GAF_STATUS_SWITCH_WAIT]; omega) (by simp only [F.GAF_STATUS_SWITCH_WAIT]; omega) (by simp only [F.GAF_STATUS_SWITCH_WAIT]; omega)
theorem F.GAF_STATUS_LOOP_DEPTH_part (n : Nat) : regPart (F.GAF_STATUS_LOOP_DEPTH n).off = .gafRegs :=
  regPart_gafRegs (by simp only [F.GAF_STATUS_LOOP_DEPTH]; omega) (by simp only [F.GAF_STATUS_LOOP_DEPTH]; omega) (by simp only [F.GAF_STATUS_LOOP_DEPTH]; omega)
theorem F.GAF_STATUS_QDEPTH_part (n : Nat) : regPart (F.GAF_STATUS_QDEPTH n).off = .gafRegs :=
  regPart_gafRegs (by simp only [F.GAF_STATUS_QDEPTH]; omega) (by simp only [F.GAF_STATUS_QDEPTH]; omega) (by simp only [F.GAF_STATUS_QDEPTH]; omega)
theorem F.GAF_STATUS_LAST_COND_part (n : Nat) : regPart (F.GAF_STATUS_LAST_COND n).off = .gafRegs :=
  regPart_gafRegs (by simp only [F.GAF_STATUS_LAST_COND]; omega) (by simp only [F.GAF_STATUS_LAST_COND]; omega) (by simp only [F.GAF_STATUS_LAST_COND]; omega)
theorem F.GAF_STATUS_INJ_BUSY_part (n : Nat) : regPart (F.GAF_STATUS_INJ_BUSY n).off = .gafRegs :=
  regPart_gafRegs (by simp only [F.GAF_STATUS_INJ_BUSY]; omega) (by simp only [F.GAF_STATUS_INJ_BUSY]; omega) (by simp only [F.GAF_STATUS_INJ_BUSY]; omega)
theorem F.GAF_STATUS_OVERRUN_part (n : Nat) : regPart (F.GAF_STATUS_OVERRUN n).off = .gafRegs :=
  regPart_gafRegs (by simp only [F.GAF_STATUS_OVERRUN]; omega) (by simp only [F.GAF_STATUS_OVERRUN]; omega) (by simp only [F.GAF_STATUS_OVERRUN]; omega)
theorem F.GAF_STATUS_PC_part (n : Nat) : regPart (F.GAF_STATUS_PC n).off = .gafRegs :=
  regPart_gafRegs (by simp only [F.GAF_STATUS_PC]; omega) (by simp only [F.GAF_STATUS_PC]; omega) (by simp only [F.GAF_STATUS_PC]; omega)
theorem F.GAF_STALL_BOUND_BOUND_part (n : Nat) : regPart (F.GAF_STALL_BOUND_BOUND n).off = .gafRegs :=
  regPart_gafRegs (by simp only [F.GAF_STALL_BOUND_BOUND]; omega) (by simp only [F.GAF_STALL_BOUND_BOUND]; omega) (by simp only [F.GAF_STALL_BOUND_BOUND]; omega)
theorem F.GAF_SWITCH_ARM_part (n : Nat) : regPart (F.GAF_SWITCH_ARM n).off = .gafRegs :=
  regPart_gafRegs (by simp only [F.GAF_SWITCH_ARM]; omega) (by simp only [F.GAF_SWITCH_ARM]; omega) (by simp only [F.GAF_SWITCH_ARM]; omega)
theorem F.GAF_SKIP_CNT_COUNT_part (n : Nat) : regPart (F.GAF_SKIP_CNT_COUNT n).off = .gafRegs :=
  regPart_gafRegs (by simp only [F.GAF_SKIP_CNT_COUNT]; omega) (by simp only [F.GAF_SKIP_CNT_COUNT]; omega) (by simp only [F.GAF_SKIP_CNT_COUNT]; omega)
theorem F.GAF_MERGE_CNT_COUNT_part (n : Nat) : regPart (F.GAF_MERGE_CNT_COUNT n).off = .gafRegs :=
  regPart_gafRegs (by simp only [F.GAF_MERGE_CNT_COUNT]; omega) (by simp only [F.GAF_MERGE_CNT_COUNT]; omega) (by simp only [F.GAF_MERGE_CNT_COUNT]; omega)
theorem F.GAF_LOCAL_SKIP_CNT_COUNT_part (n : Nat) : regPart (F.GAF_LOCAL_SKIP_CNT_COUNT n).off = .gafRegs :=
  regPart_gafRegs (by simp only [F.GAF_LOCAL_SKIP_CNT_COUNT]; omega) (by simp only [F.GAF_LOCAL_SKIP_CNT_COUNT]; omega) (by simp only [F.GAF_LOCAL_SKIP_CNT_COUNT]; omega)
theorem F.GAF_TRIG_DISC_CNT_COUNT_part (n : Nat) : regPart (F.GAF_TRIG_DISC_CNT_COUNT n).off = .gafRegs :=
  regPart_gafRegs (by simp only [F.GAF_TRIG_DISC_CNT_COUNT]; omega) (by simp only [F.GAF_TRIG_DISC_CNT_COUNT]; omega) (by simp only [F.GAF_TRIG_DISC_CNT_COUNT]; omega)
theorem F.GAF_EVT_LOST_CNT_COUNT_part (n : Nat) : regPart (F.GAF_EVT_LOST_CNT_COUNT n).off = .waitRegs :=
  regPart_waitRegs (by simp only [F.GAF_EVT_LOST_CNT_COUNT]; omega) (by simp only [F.GAF_EVT_LOST_CNT_COUNT]; omega) (by simp only [F.GAF_EVT_LOST_CNT_COUNT]; omega)
theorem F.GAF_LOG_PTR_TRACE_WRAPPED_part (n : Nat) : regPart (F.GAF_LOG_PTR_TRACE_WRAPPED n).off = .gafRegs :=
  regPart_gafRegs (by simp only [F.GAF_LOG_PTR_TRACE_WRAPPED]; omega) (by simp only [F.GAF_LOG_PTR_TRACE_WRAPPED]; omega) (by simp only [F.GAF_LOG_PTR_TRACE_WRAPPED]; omega)
theorem F.GAF_LOG_PTR_SKIP_WRAPPED_part (n : Nat) : regPart (F.GAF_LOG_PTR_SKIP_WRAPPED n).off = .gafRegs :=
  regPart_gafRegs (by simp only [F.GAF_LOG_PTR_SKIP_WRAPPED]; omega) (by simp only [F.GAF_LOG_PTR_SKIP_WRAPPED]; omega) (by simp only [F.GAF_LOG_PTR_SKIP_WRAPPED]; omega)
theorem F.GAF_LOG_PTR_TRACE_PTR_part (n : Nat) : regPart (F.GAF_LOG_PTR_TRACE_PTR n).off = .gafRegs :=
  regPart_gafRegs (by simp only [F.GAF_LOG_PTR_TRACE_PTR]; omega) (by simp only [F.GAF_LOG_PTR_TRACE_PTR]; omega) (by simp only [F.GAF_LOG_PTR_TRACE_PTR]; omega)
theorem F.GAF_LOG_PTR_SKIP_PTR_part (n : Nat) : regPart (F.GAF_LOG_PTR_SKIP_PTR n).off = .gafRegs :=
  regPart_gafRegs (by simp only [F.GAF_LOG_PTR_SKIP_PTR]; omega) (by simp only [F.GAF_LOG_PTR_SKIP_PTR]; omega) (by simp only [F.GAF_LOG_PTR_SKIP_PTR]; omega)
theorem F.GAF_COM_SEQ_SEQ_part (n k : Nat) : regPart (F.GAF_COM_SEQ_SEQ n k).off = .gafRegs :=
  regPart_gafRegs (by simp only [F.GAF_COM_SEQ_SEQ]; omega) (by simp only [F.GAF_COM_SEQ_SEQ]; omega) (by simp only [F.GAF_COM_SEQ_SEQ]; omega)
theorem F.GAF_LOCK_part (n : Nat) : regPart (F.GAF_LOCK n).off = .gafRegs :=
  regPart_gafRegs (by simp only [F.GAF_LOCK]; omega) (by simp only [F.GAF_LOCK]; omega) (by simp only [F.GAF_LOCK]; omega)
theorem F.MPU_PHYS_part (n : Nat) : regPart (F.MPU_PHYS n).off = .mpuRegs :=
  regPart_mpuRegs (by simp only [F.MPU_PHYS]; omega) (by simp only [F.MPU_PHYS]; omega)
theorem F.MPU_LOCK_part (n : Nat) : regPart (F.MPU_LOCK n).off = .mpuRegs :=
  regPart_mpuRegs (by simp only [F.MPU_LOCK]; omega) (by simp only [F.MPU_LOCK]; omega)
theorem F.MPU_CAP_STAT_FULL_part (n : Nat) : regPart (F.MPU_CAP_STAT_FULL n).off = .mpuRegs :=
  regPart_mpuRegs (by simp only [F.MPU_CAP_STAT_FULL]; omega) (by simp only [F.MPU_CAP_STAT_FULL]; omega)
theorem F.MPU_CAP_STAT_WRAPPED_part (n : Nat) : regPart (F.MPU_CAP_STAT_WRAPPED n).off = .mpuRegs :=
  regPart_mpuRegs (by simp only [F.MPU_CAP_STAT_WRAPPED]; omega) (by simp only [F.MPU_CAP_STAT_WRAPPED]; omega)
theorem F.MPU_CAP_STAT_WR_PTR_part (n : Nat) : regPart (F.MPU_CAP_STAT_WR_PTR n).off = .mpuRegs :=
  regPart_mpuRegs (by simp only [F.MPU_CAP_STAT_WR_PTR]; omega) (by simp only [F.MPU_CAP_STAT_WR_PTR]; omega)
theorem F.MPU_BRK_CNT_COUNT_part (n : Nat) : regPart (F.MPU_BRK_CNT_COUNT n).off = .mpuRegs :=
  regPart_mpuRegs (by simp only [F.MPU_BRK_CNT_COUNT]; omega) (by simp only [F.MPU_BRK_CNT_COUNT]; omega)
theorem F.MPU_CAP_DROP_COUNT_part (n : Nat) : regPart (F.MPU_CAP_DROP_COUNT n).off = .mpuRegs :=
  regPart_mpuRegs (by simp only [F.MPU_CAP_DROP_COUNT]; omega) (by simp only [F.MPU_CAP_DROP_COUNT]; omega)
theorem F.MPU_STEP_ERR_CNT_COUNT_part (n : Nat) : regPart (F.MPU_STEP_ERR_CNT_COUNT n).off = .mpuRegs :=
  regPart_mpuRegs (by simp only [F.MPU_STEP_ERR_CNT_COUNT]; omega) (by simp only [F.MPU_STEP_ERR_CNT_COUNT]; omega)
theorem F.MPU_GOB_STAT_FILL_CLOSED_part (n : Nat) : regPart (F.MPU_GOB_STAT_FILL_CLOSED n).off = .mpuRegs :=
  regPart_mpuRegs (by simp only [F.MPU_GOB_STAT_FILL_CLOSED]; omega) (by simp only [F.MPU_GOB_STAT_FILL_CLOSED]; omega)
theorem F.MPU_GOB_STAT_READ_SIDE_part (n : Nat) : regPart (F.MPU_GOB_STAT_READ_SIDE n).off = .mpuRegs :=
  regPart_mpuRegs (by simp only [F.MPU_GOB_STAT_READ_SIDE]; omega) (by simp only [F.MPU_GOB_STAT_READ_SIDE]; omega)
theorem F.MPU_GOB_STAT_FAR_MISS_part (n : Nat) : regPart (F.MPU_GOB_STAT_FAR_MISS n).off = .mpuRegs :=
  regPart_mpuRegs (by simp only [F.MPU_GOB_STAT_FAR_MISS]; omega) (by simp only [F.MPU_GOB_STAT_FAR_MISS]; omega)
theorem F.MPU_GOB_STAT_CUT_part (n : Nat) : regPart (F.MPU_GOB_STAT_CUT n).off = .mpuRegs :=
  regPart_mpuRegs (by simp only [F.MPU_GOB_STAT_CUT]; omega) (by simp only [F.MPU_GOB_STAT_CUT]; omega)
theorem F.MPU_GOB_STAT_DROP_part (n : Nat) : regPart (F.MPU_GOB_STAT_DROP n).off = .mpuRegs :=
  regPart_mpuRegs (by simp only [F.MPU_GOB_STAT_DROP]; omega) (by simp only [F.MPU_GOB_STAT_DROP]; omega)
theorem F.MPU_GOB_STAT_NOSWAP_part (n : Nat) : regPart (F.MPU_GOB_STAT_NOSWAP n).off = .mpuRegs :=
  regPart_mpuRegs (by simp only [F.MPU_GOB_STAT_NOSWAP]; omega) (by simp only [F.MPU_GOB_STAT_NOSWAP]; omega)
theorem F.MPU_XCHG_NUM_X_part (n : Nat) : regPart (F.MPU_XCHG_NUM_X n).off = .mpuRegs :=
  regPart_mpuRegs (by simp only [F.MPU_XCHG_NUM_X]; omega) (by simp only [F.MPU_XCHG_NUM_X]; omega)
theorem F.MPU_GOB_NOSWAP_CNT_COUNT_part (n : Nat) : regPart (F.MPU_GOB_NOSWAP_CNT_COUNT n).off = .mpuRegs :=
  regPart_mpuRegs (by simp only [F.MPU_GOB_NOSWAP_CNT_COUNT]; omega) (by simp only [F.MPU_GOB_NOSWAP_CNT_COUNT]; omega)
theorem F.MPU_GOB_DROP_CNT_COUNT_part (n : Nat) : regPart (F.MPU_GOB_DROP_CNT_COUNT n).off = .mpuRegs :=
  regPart_mpuRegs (by simp only [F.MPU_GOB_DROP_CNT_COUNT]; omega) (by simp only [F.MPU_GOB_DROP_CNT_COUNT]; omega)
theorem F.MPU_FAR_MISS_CNT_COUNT_part (n : Nat) : regPart (F.MPU_FAR_MISS_CNT_COUNT n).off = .mpuRegs :=
  regPart_mpuRegs (by simp only [F.MPU_FAR_MISS_CNT_COUNT]; omega) (by simp only [F.MPU_FAR_MISS_CNT_COUNT]; omega)
theorem F.MPU_RT_ERR_CNT_COUNT_part (n : Nat) : regPart (F.MPU_RT_ERR_CNT_COUNT n).off = .mpuRegs :=
  regPart_mpuRegs (by simp only [F.MPU_RT_ERR_CNT_COUNT]; omega) (by simp only [F.MPU_RT_ERR_CNT_COUNT]; omega)
theorem F.MPU_MP_STAT_TAGS_USED_part (n : Nat) : regPart (F.MPU_MP_STAT_TAGS_USED n).off = .mpuRegs :=
  regPart_mpuRegs (by simp only [F.MPU_MP_STAT_TAGS_USED]; omega) (by simp only [F.MPU_MP_STAT_TAGS_USED]; omega)
theorem F.MPU_MP_STAT_WR_LATE_part (n : Nat) : regPart (F.MPU_MP_STAT_WR_LATE n).off = .mpuRegs :=
  regPart_mpuRegs (by simp only [F.MPU_MP_STAT_WR_LATE]; omega) (by simp only [F.MPU_MP_STAT_WR_LATE]; omega)
theorem F.MPU_MP_STAT_LATE_DISC_part (n : Nat) : regPart (F.MPU_MP_STAT_LATE_DISC n).off = .mpuRegs :=
  regPart_mpuRegs (by simp only [F.MPU_MP_STAT_LATE_DISC]; omega) (by simp only [F.MPU_MP_STAT_LATE_DISC]; omega)
theorem F.MPU_MP_STAT_ADDR_ERR_part (n : Nat) : regPart (F.MPU_MP_STAT_ADDR_ERR n).off = .mpuRegs :=
  regPart_mpuRegs (by simp only [F.MPU_MP_STAT_ADDR_ERR]; omega) (by simp only [F.MPU_MP_STAT_ADDR_ERR]; omega)
theorem F.MPU_MP_STAT_TAG_SHORT_part (n : Nat) : regPart (F.MPU_MP_STAT_TAG_SHORT n).off = .mpuRegs :=
  regPart_mpuRegs (by simp only [F.MPU_MP_STAT_TAG_SHORT]; omega) (by simp only [F.MPU_MP_STAT_TAG_SHORT]; omega)
theorem F.MPU_MP_STAT_POISON_part (n : Nat) : regPart (F.MPU_MP_STAT_POISON n).off = .mpuRegs :=
  regPart_mpuRegs (by simp only [F.MPU_MP_STAT_POISON]; omega) (by simp only [F.MPU_MP_STAT_POISON]; omega)
theorem F.MPU_POISON_LAST_MASK_part (n : Nat) : regPart (F.MPU_POISON_LAST_MASK n).off = .mpuRegs :=
  regPart_mpuRegs (by simp only [F.MPU_POISON_LAST_MASK]; omega) (by simp only [F.MPU_POISON_LAST_MASK]; omega)
theorem F.MPU_POISON_CNT_COUNT_part (n : Nat) : regPart (F.MPU_POISON_CNT_COUNT n).off = .mpuRegs :=
  regPart_mpuRegs (by simp only [F.MPU_POISON_CNT_COUNT]; omega) (by simp only [F.MPU_POISON_CNT_COUNT]; omega)
theorem F.MPU_STALL_CNT_COUNT_part (n : Nat) : regPart (F.MPU_STALL_CNT_COUNT n).off = .mpuRegs :=
  regPart_mpuRegs (by simp only [F.MPU_STALL_CNT_COUNT]; omega) (by simp only [F.MPU_STALL_CNT_COUNT]; omega)
theorem F.MPU_TAG_SHORT_CNT_COUNT_part (n : Nat) : regPart (F.MPU_TAG_SHORT_CNT_COUNT n).off = .mpuRegs :=
  regPart_mpuRegs (by simp only [F.MPU_TAG_SHORT_CNT_COUNT]; omega) (by simp only [F.MPU_TAG_SHORT_CNT_COUNT]; omega)
theorem F.MPU_ADDR_ERR_CNT_COUNT_part (n : Nat) : regPart (F.MPU_ADDR_ERR_CNT_COUNT n).off = .mpuRegs :=
  regPart_mpuRegs (by simp only [F.MPU_ADDR_ERR_CNT_COUNT]; omega) (by simp only [F.MPU_ADDR_ERR_CNT_COUNT]; omega)
theorem F.MPU_LATE_DISC_CNT_COUNT_part (n : Nat) : regPart (F.MPU_LATE_DISC_CNT_COUNT n).off = .mpuRegs :=
  regPart_mpuRegs (by simp only [F.MPU_LATE_DISC_CNT_COUNT]; omega) (by simp only [F.MPU_LATE_DISC_CNT_COUNT]; omega)
theorem F.MPU_WR_LATE_CNT_COUNT_part (n : Nat) : regPart (F.MPU_WR_LATE_CNT_COUNT n).off = .mpuRegs :=
  regPart_mpuRegs (by simp only [F.MPU_WR_LATE_CNT_COUNT]; omega) (by simp only [F.MPU_WR_LATE_CNT_COUNT]; omega)
theorem F.SEC_CTRL_VERIFY_part (n : Nat) : regPart (F.SEC_CTRL_VERIFY n).off = .secRegs :=
  regPart_secRegs (by simp only [F.SEC_CTRL_VERIFY]; omega) (by simp only [F.SEC_CTRL_VERIFY]; omega)
theorem F.SEC_CTRL_REMAP_part (n : Nat) : regPart (F.SEC_CTRL_REMAP n).off = .secRegs :=
  regPart_secRegs (by simp only [F.SEC_CTRL_REMAP]; omega) (by simp only [F.SEC_CTRL_REMAP]; omega)
theorem F.SEC_STATUS_VERIFY_BUSY_part (n : Nat) : regPart (F.SEC_STATUS_VERIFY_BUSY n).off = .secRegs :=
  regPart_secRegs (by simp only [F.SEC_STATUS_VERIFY_BUSY]; omega) (by simp only [F.SEC_STATUS_VERIFY_BUSY]; omega)
theorem F.SEC_STATUS_VERIFY_OK_part (n : Nat) : regPart (F.SEC_STATUS_VERIFY_OK n).off = .secRegs :=
  regPart_secRegs (by simp only [F.SEC_STATUS_VERIFY_OK]; omega) (by simp only [F.SEC_STATUS_VERIFY_OK]; omega)
theorem F.SEC_STATUS_VERIFY_REFUSED_part (n : Nat) : regPart (F.SEC_STATUS_VERIFY_REFUSED n).off = .secRegs :=
  regPart_secRegs (by simp only [F.SEC_STATUS_VERIFY_REFUSED]; omega) (by simp only [F.SEC_STATUS_VERIFY_REFUSED]; omega)
theorem F.SEC_STATUS_REMAP_BUSY_part (n : Nat) : regPart (F.SEC_STATUS_REMAP_BUSY n).off = .secRegs :=
  regPart_secRegs (by simp only [F.SEC_STATUS_REMAP_BUSY]; omega) (by simp only [F.SEC_STATUS_REMAP_BUSY]; omega)
theorem F.SEC_STATUS_REMAP_ERR_part (n : Nat) : regPart (F.SEC_STATUS_REMAP_ERR n).off = .secRegs :=
  regPart_secRegs (by simp only [F.SEC_STATUS_REMAP_ERR]; omega) (by simp only [F.SEC_STATUS_REMAP_ERR]; omega)
theorem F.SEC_STATUS_FOLD_MISMATCH_part (n : Nat) : regPart (F.SEC_STATUS_FOLD_MISMATCH n).off = .secRegs :=
  regPart_secRegs (by simp only [F.SEC_STATUS_FOLD_MISMATCH]; omega) (by simp only [F.SEC_STATUS_FOLD_MISMATCH]; omega)
theorem F.SEC_STATUS_PSTATE_part (n : Nat) : regPart (F.SEC_STATUS_PSTATE n).off = .secRegs :=
  regPart_secRegs (by simp only [F.SEC_STATUS_PSTATE]; omega) (by simp only [F.SEC_STATUS_PSTATE]; omega)
theorem F.SEC_STATUS_UNUSABLE_part (n : Nat) : regPart (F.SEC_STATUS_UNUSABLE n).off = .secRegs :=
  regPart_secRegs (by simp only [F.SEC_STATUS_UNUSABLE]; omega) (by simp only [F.SEC_STATUS_UNUSABLE]; omega)
theorem F.SEC_PHYS_MAP_SPARE_IN_USE_part (n : Nat) : regPart (F.SEC_PHYS_MAP_SPARE_IN_USE n).off = .secRegs :=
  regPart_secRegs (by simp only [F.SEC_PHYS_MAP_SPARE_IN_USE]; omega) (by simp only [F.SEC_PHYS_MAP_SPARE_IN_USE]; omega)
theorem F.SEC_PHYS_MAP_SPARE_FOR_part (n : Nat) : regPart (F.SEC_PHYS_MAP_SPARE_FOR n).off = .secRegs :=
  regPart_secRegs (by simp only [F.SEC_PHYS_MAP_SPARE_FOR]; omega) (by simp only [F.SEC_PHYS_MAP_SPARE_FOR]; omega)
theorem F.SEC_FOLD_CNT_COUNT_part (n : Nat) : regPart (F.SEC_FOLD_CNT_COUNT n).off = .secRegs :=
  regPart_secRegs (by simp only [F.SEC_FOLD_CNT_COUNT]; omega) (by simp only [F.SEC_FOLD_CNT_COUNT]; omega)
theorem F.SEC_LOCK_part (n : Nat) : regPart (F.SEC_LOCK n).off = .secRegs :=
  regPart_secRegs (by simp only [F.SEC_LOCK]; omega) (by simp only [F.SEC_LOCK]; omega)
theorem F.IRC_CTRL_QUAR_CLR_part (n : Nat) : regPart (F.IRC_CTRL_QUAR_CLR n).off = .ircRegs :=
  regPart_ircRegs (by simp only [F.IRC_CTRL_QUAR_CLR]; omega) (by simp only [F.IRC_CTRL_QUAR_CLR]; omega)
theorem F.IRC_CTRL_EN_part (n : Nat) : regPart (F.IRC_CTRL_EN n).off = .ircRegs :=
  regPart_ircRegs (by simp only [F.IRC_CTRL_EN]; omega) (by simp only [F.IRC_CTRL_EN]; omega)
theorem F.IRC_STATUS_STATE_part (n : Nat) : regPart (F.IRC_STATUS_STATE n).off = .ircRegs :=
  regPart_ircRegs (by simp only [F.IRC_STATUS_STATE]; omega) (by simp only [F.IRC_STATUS_STATE]; omega)
theorem F.IRC_STATUS_UPSTREAM_part (n : Nat) : regPart (F.IRC_STATUS_UPSTREAM n).off = .ircRegs :=
  regPart_ircRegs (by simp only [F.IRC_STATUS_UPSTREAM]; omega) (by simp only [F.IRC_STATUS_UPSTREAM]; omega)
theorem F.IRC_STATUS_PEER_VALID_part (n : Nat) : regPart (F.IRC_STATUS_PEER_VALID n).off = .ircRegs :=
  regPart_ircRegs (by simp only [F.IRC_STATUS_PEER_VALID]; omega) (by simp only [F.IRC_STATUS_PEER_VALID]; omega)
theorem F.IRC_STATUS_PEER_ID_part (n : Nat) : regPart (F.IRC_STATUS_PEER_ID n).off = .ircRegs :=
  regPart_ircRegs (by simp only [F.IRC_STATUS_PEER_ID]; omega) (by simp only [F.IRC_STATUS_PEER_ID]; omega)
theorem F.IRC_STATUS_QUAR_part (n : Nat) : regPart (F.IRC_STATUS_QUAR n).off = .ircRegs :=
  regPart_ircRegs (by simp only [F.IRC_STATUS_QUAR]; omega) (by simp only [F.IRC_STATUS_QUAR]; omega)
theorem F.IRC_STATUS_VIOL_part (n : Nat) : regPart (F.IRC_STATUS_VIOL n).off = .ircRegs :=
  regPart_ircRegs (by simp only [F.IRC_STATUS_VIOL]; omega) (by simp only [F.IRC_STATUS_VIOL]; omega)
theorem F.IRC_STATUS_NACK_RX_part (n : Nat) : regPart (F.IRC_STATUS_NACK_RX n).off = .ircRegs :=
  regPart_ircRegs (by simp only [F.IRC_STATUS_NACK_RX]; omega) (by simp only [F.IRC_STATUS_NACK_RX]; omega)
theorem F.IRC_STATUS_LINK_DOWN_part (n : Nat) : regPart (F.IRC_STATUS_LINK_DOWN n).off = .ircRegs :=
  regPart_ircRegs (by simp only [F.IRC_STATUS_LINK_DOWN]; omega) (by simp only [F.IRC_STATUS_LINK_DOWN]; omega)
theorem F.IRC_HOP_DELAY_VALID_part (n : Nat) : regPart (F.IRC_HOP_DELAY_VALID n).off = .ircRegs :=
  regPart_ircRegs (by simp only [F.IRC_HOP_DELAY_VALID]; omega) (by simp only [F.IRC_HOP_DELAY_VALID]; omega)
theorem F.IRC_HOP_DELAY_DELAY_part (n : Nat) : regPart (F.IRC_HOP_DELAY_DELAY n).off = .ircRegs :=
  regPart_ircRegs (by simp only [F.IRC_HOP_DELAY_DELAY]; omega) (by simp only [F.IRC_HOP_DELAY_DELAY]; omega)
theorem F.IRC_VIOL_CNT_COUNT_part (n : Nat) : regPart (F.IRC_VIOL_CNT_COUNT n).off = .ircRegs :=
  regPart_ircRegs (by simp only [F.IRC_VIOL_CNT_COUNT]; omega) (by simp only [F.IRC_VIOL_CNT_COUNT]; omega)
theorem F.IRC_NACK_RX_CNT_COUNT_part (n : Nat) : regPart (F.IRC_NACK_RX_CNT_COUNT n).off = .ircRegs :=
  regPart_ircRegs (by simp only [F.IRC_NACK_RX_CNT_COUNT]; omega) (by simp only [F.IRC_NACK_RX_CNT_COUNT]; omega)
theorem F.IRC_STALE_CNT_COUNT_part (n : Nat) : regPart (F.IRC_STALE_CNT_COUNT n).off = .ircRegs :=
  regPart_ircRegs (by simp only [F.IRC_STALE_CNT_COUNT]; omega) (by simp only [F.IRC_STALE_CNT_COUNT]; omega)
theorem F.IRC_QUAR_CNT_COUNT_part (n : Nat) : regPart (F.IRC_QUAR_CNT_COUNT n).off = .ircRegs :=
  regPart_ircRegs (by simp only [F.IRC_QUAR_CNT_COUNT]; omega) (by simp only [F.IRC_QUAR_CNT_COUNT]; omega)
theorem F.GTH_CTRL_TRAIN_part (n : Nat) : regPart (F.GTH_CTRL_TRAIN n).off = .gthRegs :=
  regPart_gthRegs (by simp only [F.GTH_CTRL_TRAIN]; omega) (by simp only [F.GTH_CTRL_TRAIN]; omega)
theorem F.GTH_CTRL_EN_part (n : Nat) : regPart (F.GTH_CTRL_EN n).off = .gthRegs :=
  regPart_gthRegs (by simp only [F.GTH_CTRL_EN]; omega) (by simp only [F.GTH_CTRL_EN]; omega)
theorem F.GTH_STATUS_TRAIN_BUSY_part (n : Nat) : regPart (F.GTH_STATUS_TRAIN_BUSY n).off = .gthRegs :=
  regPart_gthRegs (by simp only [F.GTH_STATUS_TRAIN_BUSY]; omega) (by simp only [F.GTH_STATUS_TRAIN_BUSY]; omega)
theorem F.GTH_STATUS_TRAINED_part (n : Nat) : regPart (F.GTH_STATUS_TRAINED n).off = .gthRegs :=
  regPart_gthRegs (by simp only [F.GTH_STATUS_TRAINED]; omega) (by simp only [F.GTH_STATUS_TRAINED]; omega)
theorem F.GTH_STATUS_DISCARD_part (n : Nat) : regPart (F.GTH_STATUS_DISCARD n).off = .gthRegs :=
  regPart_gthRegs (by simp only [F.GTH_STATUS_DISCARD]; omega) (by simp only [F.GTH_STATUS_DISCARD]; omega)
theorem F.GTH_STATUS_ALIGN_LOST_part (n : Nat) : regPart (F.GTH_STATUS_ALIGN_LOST n).off = .gthRegs :=
  regPart_gthRegs (by simp only [F.GTH_STATUS_ALIGN_LOST]; omega) (by simp only [F.GTH_STATUS_ALIGN_LOST]; omega)
theorem F.GTH_STATUS_TRAIN_FAIL_part (n : Nat) : regPart (F.GTH_STATUS_TRAIN_FAIL n).off = .gthRegs :=
  regPart_gthRegs (by simp only [F.GTH_STATUS_TRAIN_FAIL]; omega) (by simp only [F.GTH_STATUS_TRAIN_FAIL]; omega)
theorem F.GTH_LANE_LOCK_LOCK_part (n : Nat) : regPart (F.GTH_LANE_LOCK_LOCK n).off = .gthRegs :=
  regPart_gthRegs (by simp only [F.GTH_LANE_LOCK_LOCK]; omega) (by simp only [F.GTH_LANE_LOCK_LOCK]; omega)
theorem F.GTH_DISCARD_CNT_COUNT_part (n : Nat) : regPart (F.GTH_DISCARD_CNT_COUNT n).off = .gthRegs :=
  regPart_gthRegs (by simp only [F.GTH_DISCARD_CNT_COUNT]; omega) (by simp only [F.GTH_DISCARD_CNT_COUNT]; omega)
theorem F.GTH_ALIGN_LOST_CNT_COUNT_part (n : Nat) : regPart (F.GTH_ALIGN_LOST_CNT_COUNT n).off = .gthRegs :=
  regPart_gthRegs (by simp only [F.GTH_ALIGN_LOST_CNT_COUNT]; omega) (by simp only [F.GTH_ALIGN_LOST_CNT_COUNT]; omega)
theorem F.GTH_LANE_EYE_TAP_part (n k : Nat) : regPart (F.GTH_LANE_EYE_TAP n k).off = .gthRegs :=
  regPart_gthRegs (by simp only [F.GTH_LANE_EYE_TAP]; omega) (by simp only [F.GTH_LANE_EYE_TAP]; omega)
theorem F.GTH_LANE_EYE_EYE_part (n k : Nat) : regPart (F.GTH_LANE_EYE_EYE n k).off = .gthRegs :=
  regPart_gthRegs (by simp only [F.GTH_LANE_EYE_EYE]; omega) (by simp only [F.GTH_LANE_EYE_EYE]; omega)
theorem F.GTH_LANE_EYE_SLIP_part (n k : Nat) : regPart (F.GTH_LANE_EYE_SLIP n k).off = .gthRegs :=
  regPart_gthRegs (by simp only [F.GTH_LANE_EYE_SLIP]; omega) (by simp only [F.GTH_LANE_EYE_SLIP]; omega)
theorem F.GTH_PBS_STAT_TAGQ_part (n k : Nat) : regPart (F.GTH_PBS_STAT_TAGQ n k).off = .gthRegs :=
  regPart_gthRegs (by simp only [F.GTH_PBS_STAT_TAGQ]; omega) (by simp only [F.GTH_PBS_STAT_TAGQ]; omega)
theorem F.GTH_PBS_STAT_FORMAT_part (n k : Nat) : regPart (F.GTH_PBS_STAT_FORMAT n k).off = .gthRegs :=
  regPart_gthRegs (by simp only [F.GTH_PBS_STAT_FORMAT]; omega) (by simp only [F.GTH_PBS_STAT_FORMAT]; omega)
theorem F.GTH_PBS_STAT_TAG_ERR_part (n k : Nat) : regPart (F.GTH_PBS_STAT_TAG_ERR n k).off = .gthRegs :=
  regPart_gthRegs (by simp only [F.GTH_PBS_STAT_TAG_ERR]; omega) (by simp only [F.GTH_PBS_STAT_TAG_ERR]; omega)
theorem F.GTH_PBS_STAT_SYNC_ERR_part (n k : Nat) : regPart (F.GTH_PBS_STAT_SYNC_ERR n k).off = .gthRegs :=
  regPart_gthRegs (by simp only [F.GTH_PBS_STAT_SYNC_ERR]; omega) (by simp only [F.GTH_PBS_STAT_SYNC_ERR]; omega)
theorem F.GTH_SYNC_ERR_CNT_COUNT_part (n k : Nat) : regPart (F.GTH_SYNC_ERR_CNT_COUNT n k).off = .gthRegs :=
  regPart_gthRegs (by simp only [F.GTH_SYNC_ERR_CNT_COUNT]; omega) (by simp only [F.GTH_SYNC_ERR_CNT_COUNT]; omega)
theorem F.GTH_TAG_ERR_CNT_COUNT_part (n k : Nat) : regPart (F.GTH_TAG_ERR_CNT_COUNT n k).off = .gthRegs :=
  regPart_gthRegs (by simp only [F.GTH_TAG_ERR_CNT_COUNT]; omega) (by simp only [F.GTH_TAG_ERR_CNT_COUNT]; omega)
theorem F.GTH_FORMAT_CNT_COUNT_part (n k : Nat) : regPart (F.GTH_FORMAT_CNT_COUNT n k).off = .gthRegs :=
  regPart_gthRegs (by simp only [F.GTH_FORMAT_CNT_COUNT]; omega) (by simp only [F.GTH_FORMAT_CNT_COUNT]; omega)
theorem F.MRV_CTRL_EN_part (n : Nat) : regPart (F.MRV_CTRL_EN n).off = .mrvRegs :=
  regPart_mrvRegs (by simp only [F.MRV_CTRL_EN]; omega) (by simp only [F.MRV_CTRL_EN]; omega)
theorem F.MRV_STATUS_ACTIVE_part (n : Nat) : regPart (F.MRV_STATUS_ACTIVE n).off = .mrvRegs :=
  regPart_mrvRegs (by simp only [F.MRV_STATUS_ACTIVE]; omega) (by simp only [F.MRV_STATUS_ACTIVE]; omega)
theorem F.MRV_STATUS_LEADER_part (n : Nat) : regPart (F.MRV_STATUS_LEADER n).off = .mrvRegs :=
  regPart_mrvRegs (by simp only [F.MRV_STATUS_LEADER]; omega) (by simp only [F.MRV_STATUS_LEADER]; omega)
theorem F.MRV_STATUS_CFG_ERR_part (n : Nat) : regPart (F.MRV_STATUS_CFG_ERR n).off = .mrvRegs :=
  regPart_mrvRegs (by simp only [F.MRV_STATUS_CFG_ERR]; omega) (by simp only [F.MRV_STATUS_CFG_ERR]; omega)
theorem F.MRV_STATUS_FIFO_OVF_part (n : Nat) : regPart (F.MRV_STATUS_FIFO_OVF n).off = .mrvRegs :=
  regPart_mrvRegs (by simp only [F.MRV_STATUS_FIFO_OVF]; omega) (by simp only [F.MRV_STATUS_FIFO_OVF]; omega)
theorem F.MRV_STATUS_COEF_BUSY_part (n : Nat) : regPart (F.MRV_STATUS_COEF_BUSY n).off = .mrvRegs :=
  regPart_mrvRegs (by simp only [F.MRV_STATUS_COEF_BUSY]; omega) (by simp only [F.MRV_STATUS_COEF_BUSY]; omega)
theorem F.MRV_STATUS_BATCH_DROP_part (n : Nat) : regPart (F.MRV_STATUS_BATCH_DROP n).off = .mrvRegs :=
  regPart_mrvRegs (by simp only [F.MRV_STATUS_BATCH_DROP]; omega) (by simp only [F.MRV_STATUS_BATCH_DROP]; omega)
theorem F.MRV_STATUS_CAND_DROP_part (n : Nat) : regPart (F.MRV_STATUS_CAND_DROP n).off = .mrvRegs :=
  regPart_mrvRegs (by simp only [F.MRV_STATUS_CAND_DROP]; omega) (by simp only [F.MRV_STATUS_CAND_DROP]; omega)
theorem F.MRV_STATUS_PATCH_DROP_part (n : Nat) : regPart (F.MRV_STATUS_PATCH_DROP n).off = .mrvRegs :=
  regPart_mrvRegs (by simp only [F.MRV_STATUS_PATCH_DROP]; omega) (by simp only [F.MRV_STATUS_PATCH_DROP]; omega)
theorem F.MRV_STATUS_OPEN_FULL_part (n : Nat) : regPart (F.MRV_STATUS_OPEN_FULL n).off = .mrvRegs :=
  regPart_mrvRegs (by simp only [F.MRV_STATUS_OPEN_FULL]; omega) (by simp only [F.MRV_STATUS_OPEN_FULL]; omega)
theorem F.MRV_STATUS_TAINT_part (n : Nat) : regPart (F.MRV_STATUS_TAINT n).off = .mrvRegs :=
  regPart_mrvRegs (by simp only [F.MRV_STATUS_TAINT]; omega) (by simp only [F.MRV_STATUS_TAINT]; omega)
theorem F.MRV_CONV_CFG_SET_part (n : Nat) : regPart (F.MRV_CONV_CFG_SET n).off = .mrvRegs :=
  regPart_mrvRegs (by simp only [F.MRV_CONV_CFG_SET]; omega) (by simp only [F.MRV_CONV_CFG_SET]; omega)
theorem F.MRV_CONV_SW_ARM_part (n : Nat) : regPart (F.MRV_CONV_SW_ARM n).off = .mrvRegs :=
  regPart_mrvRegs (by simp only [F.MRV_CONV_SW_ARM]; omega) (by simp only [F.MRV_CONV_SW_ARM]; omega)
theorem F.MRV_CREC_SEQ_SEQ_part (n : Nat) : regPart (F.MRV_CREC_SEQ_SEQ n).off = .mrvRegs :=
  regPart_mrvRegs (by simp only [F.MRV_CREC_SEQ_SEQ]; omega) (by simp only [F.MRV_CREC_SEQ_SEQ]; omega)
theorem F.MRV_CAND_CNT_COUNT_part (n : Nat) : regPart (F.MRV_CAND_CNT_COUNT n).off = .mrvRegs :=
  regPart_mrvRegs (by simp only [F.MRV_CAND_CNT_COUNT]; omega) (by simp only [F.MRV_CAND_CNT_COUNT]; omega)
theorem F.MRV_CAND_DROP_CNT_COUNT_part (n : Nat) : regPart (F.MRV_CAND_DROP_CNT_COUNT n).off = .mrvRegs :=
  regPart_mrvRegs (by simp only [F.MRV_CAND_DROP_CNT_COUNT]; omega) (by simp only [F.MRV_CAND_DROP_CNT_COUNT]; omega)
theorem F.MRV_PATCH_DROP_CNT_COUNT_part (n : Nat) : regPart (F.MRV_PATCH_DROP_CNT_COUNT n).off = .mrvRegs :=
  regPart_mrvRegs (by simp only [F.MRV_PATCH_DROP_CNT_COUNT]; omega) (by simp only [F.MRV_PATCH_DROP_CNT_COUNT]; omega)
theorem F.MRV_BATCH_CNT_COUNT_part (n : Nat) : regPart (F.MRV_BATCH_CNT_COUNT n).off = .mrvRegs :=
  regPart_mrvRegs (by simp only [F.MRV_BATCH_CNT_COUNT]; omega) (by simp only [F.MRV_BATCH_CNT_COUNT]; omega)
theorem F.MRV_BATCH_DROP_CNT_COUNT_part (n : Nat) : regPart (F.MRV_BATCH_DROP_CNT_COUNT n).off = .mrvRegs :=
  regPart_mrvRegs (by simp only [F.MRV_BATCH_DROP_CNT_COUNT]; omega) (by simp only [F.MRV_BATCH_DROP_CNT_COUNT]; omega)
theorem F.MRV_FIFO_OVF_CNT_COUNT_part (n : Nat) : regPart (F.MRV_FIFO_OVF_CNT_COUNT n).off = .mrvRegs :=
  regPart_mrvRegs (by simp only [F.MRV_FIFO_OVF_CNT_COUNT]; omega) (by simp only [F.MRV_FIFO_OVF_CNT_COUNT]; omega)
theorem F.MRV_TAINT_CNT_COUNT_part (n : Nat) : regPart (F.MRV_TAINT_CNT_COUNT n).off = .mrvRegs :=
  regPart_mrvRegs (by simp only [F.MRV_TAINT_CNT_COUNT]; omega) (by simp only [F.MRV_TAINT_CNT_COUNT]; omega)
theorem F.MRV_SMALL_CNT_COUNT_part (n : Nat) : regPart (F.MRV_SMALL_CNT_COUNT n).off = .mrvRegs :=
  regPart_mrvRegs (by simp only [F.MRV_SMALL_CNT_COUNT]; omega) (by simp only [F.MRV_SMALL_CNT_COUNT]; omega)
theorem F.HBM_STATUS_TRAINED_part (n : Nat) : regPart (F.HBM_STATUS_TRAINED n).off = .hbmRegs :=
  regPart_hbmRegs (by simp only [F.HBM_STATUS_TRAINED]; omega) (by simp only [F.HBM_STATUS_TRAINED]; omega)
theorem F.HBM_STATUS_SELF_REFRESH_part (n : Nat) : regPart (F.HBM_STATUS_SELF_REFRESH n).off = .hbmRegs :=
  regPart_hbmRegs (by simp only [F.HBM_STATUS_SELF_REFRESH]; omega) (by simp only [F.HBM_STATUS_SELF_REFRESH]; omega)
theorem F.HBM_STATUS_LINK_ERR_part (n : Nat) : regPart (F.HBM_STATUS_LINK_ERR n).off = .hbmRegs :=
  regPart_hbmRegs (by simp only [F.HBM_STATUS_LINK_ERR]; omega) (by simp only [F.HBM_STATUS_LINK_ERR]; omega)
theorem F.HBM_STATUS_TEMP_HIGH_part (n : Nat) : regPart (F.HBM_STATUS_TEMP_HIGH n).off = .hbmRegs :=
  regPart_hbmRegs (by simp only [F.HBM_STATUS_TEMP_HIGH]; omega) (by simp only [F.HBM_STATUS_TEMP_HIGH]; omega)
theorem F.HBM_STATUS_RING_ERR_part (n : Nat) : regPart (F.HBM_STATUS_RING_ERR n).off = .hbmRegs :=
  regPart_hbmRegs (by simp only [F.HBM_STATUS_RING_ERR]; omega) (by simp only [F.HBM_STATUS_RING_ERR]; omega)
theorem F.HBM_TEMP_part (n : Nat) : regPart (F.HBM_TEMP n).off = .hbmRegs :=
  regPart_hbmRegs (by simp only [F.HBM_TEMP]; omega) (by simp only [F.HBM_TEMP]; omega)
theorem F.HBM_CE_CNT_COUNT_part (n : Nat) : regPart (F.HBM_CE_CNT_COUNT n).off = .hbmRegs :=
  regPart_hbmRegs (by simp only [F.HBM_CE_CNT_COUNT]; omega) (by simp only [F.HBM_CE_CNT_COUNT]; omega)
theorem F.HBM_UE_CNT_COUNT_part (n : Nat) : regPart (F.HBM_UE_CNT_COUNT n).off = .hbmRegs :=
  regPart_hbmRegs (by simp only [F.HBM_UE_CNT_COUNT]; omega) (by simp only [F.HBM_UE_CNT_COUNT]; omega)
theorem F.HBM_RING_BASE_HI_EN_part (n k : Nat) : regPart (F.HBM_RING_BASE_HI_EN n k).off = .hbmRegs :=
  regPart_hbmRegs (by simp only [F.HBM_RING_BASE_HI_EN]; omega) (by simp only [F.HBM_RING_BASE_HI_EN]; omega)
theorem F.HBM_LOCK_part (n : Nat) : regPart (F.HBM_LOCK n).off = .hbmRegs :=
  regPart_hbmRegs (by simp only [F.HBM_LOCK]; omega) (by simp only [F.HBM_LOCK]; omega)
theorem F.PCI_STAT_READY_part : regPart F.PCI_STAT_READY.off = .pciRegs := rfl
theorem F.PCI_STAT_L0_part : regPart F.PCI_STAT_L0.off = .pciRegs := rfl
theorem F.PCI_STAT_SPEED_part : regPart F.PCI_STAT_SPEED.off = .pciRegs := rfl
theorem F.PCI_STAT_WIDTH_part : regPart F.PCI_STAT_WIDTH.off = .pciRegs := rfl
theorem F.PCI_STAT_RESET_SEEN_part : regPart F.PCI_STAT_RESET_SEEN.off = .pciRegs := rfl
theorem F.PCI_MBX_STAT_READY_part : regPart F.PCI_MBX_STAT_READY.off = .pciRegs := rfl
theorem F.PCI_MBX_STAT_OVF_part : regPart F.PCI_MBX_STAT_OVF.off = .pciRegs := rfl
theorem F.PCI_MBX_TAIL_TAIL_part : regPart F.PCI_MBX_TAIL_TAIL.off = .pciRegs := rfl
theorem F.PCI_MBX_HEAD_HEAD_part : regPart F.PCI_MBX_HEAD_HEAD.off = .pciRegs := rfl
theorem F.PCI_MBX_CPL_HEAD_HEAD_part : regPart F.PCI_MBX_CPL_HEAD_HEAD.off = .pciRegs := rfl
theorem F.PCI_COR_CNT_COUNT_part : regPart F.PCI_COR_CNT_COUNT.off = .pciRegs := rfl
theorem F.PCI_UNCOR_CNT_COUNT_part : regPart F.PCI_UNCOR_CNT_COUNT.off = .pciRegs := rfl
theorem F.PCI_DROP_CNT_COUNT_part : regPart F.PCI_DROP_CNT_COUNT.off = .pciRegs := rfl
theorem F.PCI_MBX_ERR_CNT_COUNT_part : regPart F.PCI_MBX_ERR_CNT_COUNT.off = .pciRegs := rfl
theorem F.ETH_CTRL_EN_part (n : Nat) : regPart (F.ETH_CTRL_EN n).off = .ethRegs :=
  regPart_ethRegs (by simp only [F.ETH_CTRL_EN]; omega) (by simp only [F.ETH_CTRL_EN]; omega)
theorem F.ETH_STAT_LINK_part (n : Nat) : regPart (F.ETH_STAT_LINK n).off = .ethRegs :=
  regPart_ethRegs (by simp only [F.ETH_STAT_LINK]; omega) (by simp only [F.ETH_STAT_LINK]; omega)
theorem F.ETH_STAT_RX_ERR_part (n : Nat) : regPart (F.ETH_STAT_RX_ERR n).off = .ethRegs :=
  regPart_ethRegs (by simp only [F.ETH_STAT_RX_ERR]; omega) (by simp only [F.ETH_STAT_RX_ERR]; omega)
theorem F.ETH_RX_HEAD_HEAD_part (n : Nat) : regPart (F.ETH_RX_HEAD_HEAD n).off = .ethRegs :=
  regPart_ethRegs (by simp only [F.ETH_RX_HEAD_HEAD]; omega) (by simp only [F.ETH_RX_HEAD_HEAD]; omega)
theorem F.ETH_TX_OK_CNT_COUNT_part (n : Nat) : regPart (F.ETH_TX_OK_CNT_COUNT n).off = .ethRegs :=
  regPart_ethRegs (by simp only [F.ETH_TX_OK_CNT_COUNT]; omega) (by simp only [F.ETH_TX_OK_CNT_COUNT]; omega)
theorem F.ETH_RX_OK_CNT_COUNT_part (n : Nat) : regPart (F.ETH_RX_OK_CNT_COUNT n).off = .ethRegs :=
  regPart_ethRegs (by simp only [F.ETH_RX_OK_CNT_COUNT]; omega) (by simp only [F.ETH_RX_OK_CNT_COUNT]; omega)
theorem F.ETH_RX_FCS_CNT_COUNT_part (n : Nat) : regPart (F.ETH_RX_FCS_CNT_COUNT n).off = .ethRegs :=
  regPart_ethRegs (by simp only [F.ETH_RX_FCS_CNT_COUNT]; omega) (by simp only [F.ETH_RX_FCS_CNT_COUNT]; omega)
theorem F.ETH_RX_DROP_CNT_COUNT_part (n : Nat) : regPart (F.ETH_RX_DROP_CNT_COUNT n).off = .ethRegs :=
  regPart_ethRegs (by simp only [F.ETH_RX_DROP_CNT_COUNT]; omega) (by simp only [F.ETH_RX_DROP_CNT_COUNT]; omega)
theorem F.ETH_TS_OVF_CNT_COUNT_part (n : Nat) : regPart (F.ETH_TS_OVF_CNT_COUNT n).off = .ethRegs :=
  regPart_ethRegs (by simp only [F.ETH_TS_OVF_CNT_COUNT]; omega) (by simp only [F.ETH_TS_OVF_CNT_COUNT]; omega)
theorem F.CLK_PLL_CFG_APPLY_part (k : Nat) : regPart (F.CLK_PLL_CFG_APPLY k).off = .clkRegs :=
  regPart_clkRegs (by simp only [F.CLK_PLL_CFG_APPLY]; omega) (by simp only [F.CLK_PLL_CFG_APPLY]; omega)
theorem F.CLK_PLL_CFG_N_part (k : Nat) : regPart (F.CLK_PLL_CFG_N k).off = .clkRegs :=
  regPart_clkRegs (by simp only [F.CLK_PLL_CFG_N]; omega) (by simp only [F.CLK_PLL_CFG_N]; omega)
theorem F.CLK_PLL_FRAC_part (k : Nat) : regPart (F.CLK_PLL_FRAC k).off = .clkRegs :=
  regPart_clkRegs (by simp only [F.CLK_PLL_FRAC]; omega) (by simp only [F.CLK_PLL_FRAC]; omega)
theorem F.CLK_PLL_DEN_part (k : Nat) : regPart (F.CLK_PLL_DEN k).off = .clkRegs :=
  regPart_clkRegs (by simp only [F.CLK_PLL_DEN]; omega) (by simp only [F.CLK_PLL_DEN]; omega)

end Sys2Proof.Machine
end

