-- ==== Sys2Proof/Laws/Flags.lean ====
section
/-!
SUPPORT. What each operation of Machine/Flags.lean leaves alone.
-/

set_option linter.all false

namespace Sys2Proof.Machine

theorem evtPendFld_bit (n k : Nat) {m : Nat} (hm : m.testBit Part.waitRegs.ctorIdx = true) :
    m.testBit (regPart (evtPendFld n k).off).ctorIdx = true :=
  Part.bit (regPart_waitRegs (by simp only [evtPendFld]; omega) (by simp only [evtPendFld]; omega)
    (by simp only [evtPendFld]; omega)) hm

theorem evtBit_bit (src : Nat) {m : Nat} (hm : m.testBit Part.evtRegs.ctorIdx = true) :
    m.testBit (regPart (evtBit src).off).ctorIdx = true :=
  Part.bit (regPart_evtRegs (by simp only [evtBit]; omega) (by simp only [evtBit]; omega)) hm

theorem State.emit_leaves {μ : Nat} {s₀ : State} {s : State} (hl : Leaves μ s₀ s) (hμ : 0x10000000000000000000 ||| μ = μ) (o : Output) :
    Leaves μ s₀ (State.emit s o) := by
  refine hl.step (k := 0x10000000000000000000) ?_ hμ
  clear hl hμ
  unfold State.emit
  try dsimp only
  repeat' first
    | with_reducible assumption
    | with_reducible exact Leaves.refl _ _
    | decide
    | with_reducible apply Leaves.upd_out
    | dsimp only

theorem State.drawn_leaves {μ : Nat} {s₀ : State} {s : State} (hl : Leaves μ s₀ s) (hμ : 0x8000000000000000000 ||| μ = μ)  :
    Leaves μ s₀ (State.drawn s) := by
  refine hl.step (k := 0x8000000000000000000) ?_ hμ
  clear hl hμ
  unfold State.drawn
  try dsimp only
  repeat' first
    | with_reducible assumption
    | with_reducible exact Leaves.refl _ _
    | decide
    | with_reducible apply Leaves.upd_free
    | dsimp only

theorem State.setGaf_leaves {μ : Nat} {s₀ : State} {s : State} (hl : Leaves μ s₀ s) (hμ : 0x4000000000 ||| μ = μ) (n : Nat) (g : Gaffer) :
    Leaves μ s₀ (State.setGaf s n g) := by
  refine hl.step (k := 0x4000000000) ?_ hμ
  clear hl hμ
  unfold State.setGaf
  try dsimp only
  repeat' first
    | with_reducible assumption
    | with_reducible exact Leaves.refl _ _
    | decide
    | with_reducible apply Leaves.upd_gafs
    | dsimp only

theorem State.setTile_leaves {μ : Nat} {s₀ : State} {s : State} (hl : Leaves μ s₀ s) (hμ : 0x2000000000 ||| μ = μ) (t : Nat) (x : Tile) :
    Leaves μ s₀ (State.setTile s t x) := by
  refine hl.step (k := 0x2000000000) ?_ hμ
  clear hl hμ
  unfold State.setTile
  try dsimp only
  repeat' first
    | with_reducible assumption
    | with_reducible exact Leaves.refl _ _
    | decide
    | with_reducible apply Leaves.upd_tiles
    | dsimp only

theorem State.setPort_leaves {μ : Nat} {s₀ : State} {s : State} (hl : Leaves μ s₀ s) (hμ : 0x8000000000 ||| μ = μ) (t : Nat) (p : Port) :
    Leaves μ s₀ (State.setPort s t p) := by
  refine hl.step (k := 0x8000000000) ?_ hμ
  clear hl hμ
  unfold State.setPort
  try dsimp only
  repeat' first
    | with_reducible assumption
    | with_reducible exact Leaves.refl _ _
    | decide
    | with_reducible apply Leaves.upd_ports
    | dsimp only

theorem State.setIrcp_leaves {μ : Nat} {s₀ : State} {s : State} (hl : Leaves μ s₀ s) (hμ : 0x100000000000 ||| μ = μ) (p : Nat) (x : IrcPort) :
    Leaves μ s₀ (State.setIrcp s p x) := by
  refine hl.step (k := 0x100000000000) ?_ hμ
  clear hl hμ
  unfold State.setIrcp
  try dsimp only
  repeat' first
    | with_reducible assumption
    | with_reducible exact Leaves.refl _ _
    | decide
    | with_reducible apply Leaves.upd_irc
    | dsimp only

theorem State.nextSeq_leaves {μ : Nat} {s₀ : State} {s : State} (hl : Leaves μ s₀ s) (hμ : 0x80000000000 ||| μ = μ) (m : IrcMsg) :
    Leaves μ s₀ (State.nextSeq s m) := by
  refine hl.step (k := 0x80000000000) ?_ hμ
  clear hl hμ
  unfold State.nextSeq
  try dsimp only
  repeat' first
    | with_reducible assumption
    | with_reducible exact Leaves.refl _ _
    | decide
    | with_reducible apply Leaves.upd_tb
    | dsimp only

theorem State.sendOn_leaves {μ : Nat} {s₀ : State} {s : State} (hl : Leaves μ s₀ s) (hμ : 0x10000000000000000000 ||| μ = μ) (p : Nat) (h : FrameHdr) (m : IrcMsg) :
    Leaves μ s₀ (State.sendOn s p h m) := by
  refine hl.step (k := 0x10000000000000000000) ?_ hμ
  clear hl hμ
  unfold State.sendOn
  try dsimp only
  repeat' first
    | with_reducible assumption
    | with_reducible exact Leaves.refl _ _
    | decide
    | with_reducible apply State.emit_leaves
    | dsimp only

theorem State.sendGroup_leaves {μ : Nat} {s₀ : State} {s : State} (hl : Leaves μ s₀ s) (hμ : 0x10000000000000000000 ||| μ = μ) (except : Option Nat) (h : FrameHdr) (m : IrcMsg) :
    Leaves μ s₀ (State.sendGroup s except h m) := by
  refine hl.step (k := 0x10000000000000000000) ?_ hμ
  clear hl hμ
  unfold State.sendGroup
  try dsimp only
  repeat' first
    | with_reducible assumption
    | with_reducible exact Leaves.refl _ _
    | decide
    | with_reducible apply State.sendOn_leaves
    | with_reducible refine Leaves.forEach (fun _ _ _ => ?_) ?_
    | with_reducible refine Leaves.forEachFst (fun _ _ _ => ?_) ?_
    | dsimp only

theorem State.flood_leaves {μ : Nat} {s₀ : State} {s : State} (hl : Leaves μ s₀ s) (hμ : 0x10000000080000000000 ||| μ = μ) (m : IrcMsg) :
    Leaves μ s₀ (State.flood s m) := by
  refine hl.step (k := 0x10000000080000000000) ?_ hμ
  clear hl hμ
  unfold State.flood
  try dsimp only
  repeat' first
    | with_reducible assumption
    | with_reducible exact Leaves.refl _ _
    | decide
    | with_reducible apply State.nextSeq_leaves
    | with_reducible apply State.sendGroup_leaves
    | with_reducible apply Leaves.upd_tb
    | with_reducible apply Leaves.ite
    | dsimp only

theorem State.sendTo_leaves {μ : Nat} {s₀ : State} {s : State} (hl : Leaves μ s₀ s) (hμ : 0x10000000080000000000 ||| μ = μ) (p dst : Nat) (m : IrcMsg) :
    Leaves μ s₀ (State.sendTo s p dst m) := by
  refine hl.step (k := 0x10000000080000000000) ?_ hμ
  clear hl hμ
  unfold State.sendTo
  try dsimp only
  repeat' first
    | with_reducible assumption
    | with_reducible exact Leaves.refl _ _
    | decide
    | with_reducible apply State.nextSeq_leaves
    | with_reducible apply State.sendOn_leaves
    | with_reducible apply Leaves.upd_tb
    | with_reducible apply Leaves.ite
    | dsimp only

theorem State.countWaits_leaves {μ : Nat} {s₀ : State} {s : State} (hl : Leaves μ s₀ s) (hμ : 0x2000 ||| μ = μ) (src : Nat) :
    Leaves μ s₀ (State.countWaits s src) := by
  refine hl.step (k := 0x2000) ?_ hμ
  clear hl hμ
  unfold State.countWaits
  try dsimp only
  repeat' first
    | with_reducible assumption
    | with_reducible exact Leaves.refl _ _
    | decide
    | with_reducible apply Part.bit (F.GAF_EVT_LOST_CNT_COUNT_part ..)
    | with_reducible apply Leaves.bump
    | with_reducible apply Leaves.wr
    | with_reducible apply evtPendFld_bit
    | with_reducible apply Leaves.ite
    | with_reducible refine Leaves.forEach (fun _ _ _ => ?_) ?_
    | with_reducible refine Leaves.forEachFst (fun _ _ _ => ?_) ?_
    | dsimp only

theorem State.setBar4_leaves {μ : Nat} {s₀ : State} {s : State} (hl : Leaves μ s₀ s) (hμ : 0x100000000000000 ||| μ = μ) (a : Nat) (b : Byte) :
    Leaves μ s₀ (State.setBar4 s a b) := by
  refine hl.step (k := 0x100000000000000) ?_ hμ
  clear hl hμ
  unfold State.setBar4
  try dsimp only
  repeat' first
    | with_reducible assumption
    | with_reducible exact Leaves.refl _ _
    | decide
    | with_reducible apply Leaves.upd_bar4
    | dsimp only

theorem State.post_leaves {μ : Nat} {s₀ : State} {s : State} (hl : Leaves μ s₀ s) (hμ : 0x10000080000000000000 ||| μ = μ) (o : Output) :
    Leaves μ s₀ (State.post s o) := by
  refine hl.step (k := 0x10000080000000000000) ?_ hμ
  clear hl hμ
  unfold State.post
  try dsimp only
  repeat' first
    | with_reducible assumption
    | with_reducible exact Leaves.refl _ _
    | decide
    | with_reducible apply State.emit_leaves
    | with_reducible apply Leaves.upd_pcie
    | with_reducible apply Leaves.ite
    | dsimp only

theorem State.sendMsix_leaves {μ : Nat} {s₀ : State} {s : State} (hl : Leaves μ s₀ s) (hμ : 0x10000080000000000000 ||| μ = μ) (v : Nat) :
    Leaves μ s₀ (State.sendMsix s v) := by
  refine hl.step (k := 0x10000080000000000000) ?_ hμ
  clear hl hμ
  unfold State.sendMsix
  try dsimp only
  repeat' first
    | with_reducible assumption
    | with_reducible exact Leaves.refl _ _
    | decide
    | with_reducible apply State.post_leaves
    | with_reducible apply Leaves.upd_pcie
    | with_reducible apply Leaves.ite
    | dsimp only

/-- What ends a command's clock restores a list the command began with. -/
theorem State.endClock_leaves {m : Nat} {s t : State} (h : Leaves m s t) : Leaves m s (s.endClock t) := by
  refine ⟨fun p hp => ?_, fun c => (Leaves.refl 0xffffffffffffffffffffffffffff t).upd_pcie (by decide) |>.canon (h.canon c), h.otp⟩
  have k := h.same p hp
  cases p <;> first
    | exact k
    | (have e : t.pcie = s.pcie := k
       show { t.pcie with sent := s.pcie.sent } = s.pcie
       rw [e])

theorem State.setPba_leaves {μ : Nat} {s₀ : State} {s : State} (hl : Leaves μ s₀ s) (hμ : 0x100000000000000 ||| μ = μ) (v : Nat) (b : Bool) :
    Leaves μ s₀ (State.setPba s v b) := by
  refine hl.step (k := 0x100000000000000) ?_ hμ
  clear hl hμ
  unfold State.setPba
  try dsimp only
  repeat' first
    | with_reducible assumption
    | with_reducible exact Leaves.refl _ _
    | decide
    | with_reducible apply State.setBar4_leaves
    | dsimp only

theorem State.msix_leaves {μ : Nat} {s₀ : State} {s : State} (hl : Leaves μ s₀ s) (hμ : 0x10000180000000000000 ||| μ = μ) (v : Nat) :
    Leaves μ s₀ (State.msix s v) := by
  refine hl.step (k := 0x10000180000000000000) ?_ hμ
  clear hl hμ
  unfold State.msix
  try dsimp only
  repeat' first
    | with_reducible assumption
    | with_reducible exact Leaves.refl _ _
    | decide
    | with_reducible apply State.sendMsix_leaves
    | with_reducible apply State.setPba_leaves
    | with_reducible apply Leaves.ite
    | dsimp only

theorem State.routeEvent_leaves {μ : Nat} {s₀ : State} {s : State} (hl : Leaves μ s₀ s) (hμ : 0x10001980080000000000 ||| μ = μ) (src : Nat) (rose flood : Bool) :
    Leaves μ s₀ (State.routeEvent s src rose flood) := by
  refine hl.step (k := 0x10001980080000000000) ?_ hμ
  clear hl hμ
  unfold State.routeEvent
  try dsimp only
  repeat' first
    | with_reducible assumption
    | with_reducible exact Leaves.refl _ _
    | decide
    | with_reducible apply State.flood_leaves
    | with_reducible apply State.msix_leaves
    | with_reducible apply Leaves.upd_evtSent
    | with_reducible apply Leaves.upd_mcLog
    | with_reducible apply Leaves.ite
    | dsimp only

theorem State.setEng_leaves {μ : Nat} {s₀ : State} {s : State} (hl : Leaves μ s₀ s) (hμ : 0x10000000000000 ||| μ = μ) (e : Nat) (x : Engine) :
    Leaves μ s₀ (State.setEng s e x) := by
  refine hl.step (k := 0x10000000000000) ?_ hμ
  clear hl hμ
  unfold State.setEng
  try dsimp only
  repeat' first
    | with_reducible assumption
    | with_reducible exact Leaves.refl _ _
    | decide
    | with_reducible apply Leaves.upd_dma
    | dsimp only

theorem State.releaseWaits_leaves {μ : Nat} {s₀ : State} {s : State} (hl : Leaves μ s₀ s) (hμ : 0x10000000000000 ||| μ = μ) (src : Nat) :
    Leaves μ s₀ (State.releaseWaits s src) := by
  refine hl.step (k := 0x10000000000000) ?_ hμ
  clear hl hμ
  unfold State.releaseWaits
  try dsimp only
  repeat' first
    | with_reducible assumption
    | with_reducible exact Leaves.refl _ _
    | decide
    | with_reducible apply Leaves.upd_dma
    | with_reducible apply Leaves.ite
    | with_reducible apply Leaves.iteFst
    | dsimp only

theorem State.occur_leaves {μ : Nat} {s₀ : State} {s : State} (hl : Leaves μ s₀ s) (hμ : 0x10001990080000002010 ||| μ = μ) (src : Nat) (flood : Bool) :
    Leaves μ s₀ (State.occur s src flood) := by
  refine hl.step (k := 0x10001990080000002010) ?_ hμ
  clear hl hμ
  unfold State.occur
  try dsimp only
  repeat' first
    | with_reducible assumption
    | with_reducible exact Leaves.refl _ _
    | decide
    | with_reducible apply State.countWaits_leaves
    | with_reducible apply State.releaseWaits_leaves
    | with_reducible apply State.routeEvent_leaves
    | with_reducible apply Leaves.wr
    | with_reducible apply evtBit_bit
    | dsimp only

theorem State.raise_leaves {μ : Nat} {s₀ : State} {s : State} (hl : Leaves μ s₀ s) (hμ : 0x10001990080000002010 ||| μ = μ) (src : Nat) :
    Leaves μ s₀ (State.raise s src) := by
  refine hl.step (k := 0x10001990080000002010) ?_ hμ
  clear hl hμ
  unfold State.raise
  try dsimp only
  repeat' first
    | with_reducible assumption
    | with_reducible exact Leaves.refl _ _
    | decide
    | with_reducible apply State.occur_leaves
    | dsimp only

end Sys2Proof.Machine
end

