-- ==== Sys2Proof/Laws/Records.lean ====
section
/-!
SUPPORT. What each operation of Machine/Records.lean leaves alone.
-/

set_option linter.all false

namespace Sys2Proof.Machine

theorem State.storeWrite_leaves {μ : Nat} {s₀ : State} {s : State} (hl : Leaves μ s₀ s) (hμ : 0x2000000000000000 ||| μ = μ) (a : Nat) (bs : List Byte) :
    Leaves μ s₀ (State.storeWrite s a bs) := by
  refine hl.step (k := 0x2000000000000000) ?_ hμ
  clear hl hμ
  unfold State.storeWrite
  try dsimp only
  repeat' first
    | with_reducible assumption
    | with_reducible exact Leaves.refl _ _
    | decide
    | with_reducible apply Leaves.upd_cstore
    | dsimp only

theorem State.putRecord_leaves {μ : Nat} {s₀ : State} {s : State} (hl : Leaves μ s₀ s) (hμ : 0x2000000000000000 ||| μ = μ) (a : RecArea) (magic body : List Byte) :
    Leaves μ s₀ (State.putRecord s a magic body) := by
  refine hl.step (k := 0x2000000000000000) ?_ hμ
  clear hl hμ
  unfold State.putRecord
  try dsimp only
  repeat' first
    | with_reducible assumption
    | with_reducible exact Leaves.refl _ _
    | decide
    | with_reducible apply State.storeWrite_leaves
    | dsimp only

theorem State.setAttempt_leaves {μ : Nat} {s₀ : State} {s : State} (hl : Leaves μ s₀ s) (hμ : 0x2000000000000000 ||| μ = μ) (a : Attempt) :
    Leaves μ s₀ (State.setAttempt s a) := by
  refine hl.step (k := 0x2000000000000000) ?_ hμ
  clear hl hμ
  unfold State.setAttempt
  try dsimp only
  repeat' first
    | with_reducible assumption
    | with_reducible exact Leaves.refl _ _
    | decide
    | with_reducible apply State.putRecord_leaves
    | with_reducible apply Leaves.ite
    | dsimp only

theorem State.setShutRec_leaves {μ : Nat} {s₀ : State} {s : State} (hl : Leaves μ s₀ s) (hμ : 0x2000000000000000 ||| μ = μ) (r : ShutRec) :
    Leaves μ s₀ (State.setShutRec s r) := by
  refine hl.step (k := 0x2000000000000000) ?_ hμ
  clear hl hμ
  unfold State.setShutRec
  try dsimp only
  repeat' first
    | with_reducible assumption
    | with_reducible exact Leaves.refl _ _
    | decide
    | with_reducible apply State.putRecord_leaves
    | with_reducible apply Leaves.ite
    | dsimp only

theorem State.putRepairs_leaves {μ : Nat} {s₀ : State} {s : State} (hl : Leaves μ s₀ s) (hμ : 0x2000000000000000 ||| μ = μ)  :
    Leaves μ s₀ (State.putRepairs s) := by
  refine hl.step (k := 0x2000000000000000) ?_ hμ
  clear hl hμ
  unfold State.putRepairs
  try dsimp only
  repeat' first
    | with_reducible assumption
    | with_reducible exact Leaves.refl _ _
    | decide
    | with_reducible apply State.putRecord_leaves
    | dsimp only

theorem State.putCullet_leaves {μ : Nat} {s₀ : State} {s : State} (hl : Leaves μ s₀ s) (hμ : 0x2000000000000000 ||| μ = μ)  :
    Leaves μ s₀ (State.putCullet s) := by
  refine hl.step (k := 0x2000000000000000) ?_ hμ
  clear hl hμ
  unfold State.putCullet
  try dsimp only
  repeat' first
    | with_reducible assumption
    | with_reducible exact Leaves.refl _ _
    | decide
    | with_reducible apply State.putRecord_leaves
    | dsimp only

theorem State.readMaps_leaves {μ : Nat} {s₀ : State} {s : State} (hl : Leaves μ s₀ s) (hμ : 0x2000000000000000 ||| μ = μ)  :
    Leaves μ s₀ (State.readMaps s) := by
  refine hl.step (k := 0x2000000000000000) ?_ hμ
  clear hl hμ
  unfold State.readMaps
  try dsimp only
  repeat' first
    | with_reducible assumption
    | with_reducible exact Leaves.refl _ _
    | decide
    | with_reducible apply Leaves.upd_cstore
    | dsimp only

end Sys2Proof.Machine
end

