-- ==== Sys2Proof/Laws/Ops.lean ====
section
/-!
SUPPORT. What each operation of Machine/Ops.lean leaves alone.
-/

set_option linter.all false

namespace Sys2Proof.Machine

/-- What a step leaves of itself in a device reset touches no more than the step. -/
theorem State.pcieOnly_leaves {m : Nat} {s t : State} (h : Leaves m s t) : Leaves m s (s.pcieOnly t) := by
  unfold State.pcieOnly
  refine Leaves.mix_reg ?_ fun hm => ?_
  · refine Leaves.mix_out (Leaves.mix_free (Leaves.mix_hbmSoft (Leaves.mix_hbmBad (Leaves.mix_hbmHeld (Leaves.mix_bar4
      (Leaves.mix_pcie (.refl _ _) ?_) ?_) ?_) ?_ fun c => (h.canon c).hbmBad) ?_ fun c => (h.canon c).hbmSoft) ?_) ?_
    · exact h.same .pcie
    · exact h.same .bar4
    · exact h.same .hbmHeld
    · exact h.same .hbmBad
    · exact h.same .hbmSoft
    · exact h.same .free
    · exact h.same .out
  · rw [regPart_pciRegs (by omega) (by omega)] at hm
    exact h.same .pciRegs hm 0xf00000 (regPart_pciRegs (by omega) (by omega))

theorem State.countAccess_leaves {μ : Nat} {s₀ : State} {s : State} (hl : Leaves μ s₀ s) (hμ : 0x1 ||| μ = μ) (path : Nat) (write outside : Bool) (addr : Nat) :
    Leaves μ s₀ (State.countAccess s path write outside addr) := by
  refine hl.step (k := 0x1) ?_ hμ
  clear hl hμ
  unfold State.countAccess
  try dsimp only
  repeat' first
    | with_reducible assumption
    | with_reducible exact Leaves.refl _ _
    | decide
    | with_reducible apply Part.bit (F.SYS_ACCESS_ERR_CNT_COUNT_part ..)
    | (with_reducible apply Part.bit (p := .sysRegs) <;> first | decide | exact regPart_sysRegs (by omega))
    | with_reducible apply Leaves.bump
    | with_reducible apply Leaves.setReg
    | with_reducible apply Leaves.ite
    | dsimp only

theorem State.accessErr_leaves {μ : Nat} {s₀ : State} {s : State} (hl : Leaves μ s₀ s) (hμ : 0x10001990080000002011 ||| μ = μ) (path : Nat) (write outside : Bool) (addr : Nat) :
    Leaves μ s₀ (State.accessErr s path write outside addr) := by
  refine hl.step (k := 0x10001990080000002011) ?_ hμ
  clear hl hμ
  unfold State.accessErr
  try dsimp only
  repeat' first
    | with_reducible assumption
    | with_reducible exact Leaves.refl _ _
    | decide
    | with_reducible apply State.countAccess_leaves
    | with_reducible apply State.raise_leaves
    | dsimp only

theorem State.latchFault_leaves {μ : Nat} {s₀ : State} {s : State} (hl : Leaves μ s₀ s) (hμ : 0x8 ||| μ = μ) (r : FaultRec) :
    Leaves μ s₀ (State.latchFault s r) := by
  refine hl.step (k := 0x8) ?_ hμ
  clear hl hμ
  unfold State.latchFault
  try dsimp only
  repeat' first
    | with_reducible assumption
    | with_reducible exact Leaves.refl _ _
    | decide
    | (intro i hi; simp only [MbxCmd.entry, FaultRec.logWords, List.length_cons, List.length_nil, List.length_map, upTo, List.length_range] at hi; exact Part.bit (regPart_fltRegs (by omega) (by omega)) (by decide))
    | with_reducible apply Leaves.setWords
    | with_reducible apply Leaves.ite
    | dsimp only

theorem State.logFault_leaves {μ : Nat} {s₀ : State} {s : State} (hl : Leaves μ s₀ s) (hμ : 0x10021990080000002018 ||| μ = μ) (r : FaultRec) :
    Leaves μ s₀ (State.logFault s r) := by
  refine hl.step (k := 0x10021990080000002018) ?_ hμ
  clear hl hμ
  unfold State.logFault
  try dsimp only
  repeat' first
    | with_reducible assumption
    | with_reducible exact Leaves.refl _ _
    | decide
    | with_reducible apply Part.bit (F.FLT_OVF_CNT_COUNT_part ..)
    | with_reducible apply Part.bit (F.FLT_STAT_OVERFLOW_part ..)
    | with_reducible apply Part.bit (F.FLT_LOG_HEAD_HEAD_part ..)
    | (intro i hi; simp only [MbxCmd.entry, FaultRec.logWords, List.length_cons, List.length_nil, List.length_map, upTo, List.length_range] at hi; exact Part.bit (regPart_fltRegs (by omega) (by omega)) (by decide))
    | with_reducible apply Leaves.bump
    | with_reducible apply Leaves.wr
    | with_reducible apply Leaves.setWords
    | with_reducible apply State.raise_leaves
    | with_reducible apply Leaves.upd_flt
    | with_reducible apply Leaves.ite
    | dsimp only

theorem State.drivePin_leaves {μ : Nat} {s₀ : State} {s : State} (hl : Leaves μ s₀ s) (hμ : 0x20000000000000008 ||| μ = μ) (cls : Nat) :
    Leaves μ s₀ (State.drivePin s cls) := by
  refine hl.step (k := 0x20000000000000008) ?_ hμ
  clear hl hμ
  unfold State.drivePin
  try dsimp only
  repeat' first
    | with_reducible assumption
    | with_reducible exact Leaves.refl _ _
    | decide
    | with_reducible apply Part.bit (F.FLT_STAT_PIN_LEVEL_part ..)
    | with_reducible apply Leaves.wr
    | with_reducible apply Leaves.upd_flt
    | with_reducible apply Leaves.ite
    | dsimp only

theorem State.countClass_leaves {μ : Nat} {s₀ : State} {s : State} (hl : Leaves μ s₀ s) (hμ : 0x10001990080000002018 ||| μ = μ) (cls : Nat) :
    Leaves μ s₀ (State.countClass s cls) := by
  refine hl.step (k := 0x10001990080000002018) ?_ hμ
  clear hl hμ
  unfold State.countClass
  try dsimp only
  repeat' first
    | with_reducible assumption
    | with_reducible exact Leaves.refl _ _
    | decide
    | with_reducible apply Part.bit (F.FLT_F2_CNT_COUNT_part ..)
    | with_reducible apply Part.bit (F.FLT_F3_CNT_COUNT_part ..)
    | with_reducible apply Leaves.bump
    | with_reducible apply State.raise_leaves
    | with_reducible apply Leaves.ite
    | dsimp only

theorem State.recordFault_leaves {μ : Nat} {s₀ : State} {s : State} (hl : Leaves μ s₀ s) (hμ : 0x10021990080000002018 ||| μ = μ) (r : FaultRec) :
    Leaves μ s₀ (State.recordFault s r) := by
  refine hl.step (k := 0x10021990080000002018) ?_ hμ
  clear hl hμ
  unfold State.recordFault
  try dsimp only
  repeat' first
    | with_reducible assumption
    | with_reducible exact Leaves.refl _ _
    | decide
    | with_reducible apply State.countClass_leaves
    | with_reducible apply State.drivePin_leaves
    | with_reducible apply State.latchFault_leaves
    | with_reducible apply State.logFault_leaves
    | with_reducible apply State.raise_leaves
    | with_reducible apply Leaves.upd_flt
    | with_reducible apply Leaves.ite
    | dsimp only

theorem State.report_leaves {μ : Nat} {s₀ : State} {s : State} (hl : Leaves μ s₀ s) (hμ : 0x10021990080000002018 ||| μ = μ) (src detail : Nat) (region : Option Nat) :
    Leaves μ s₀ (State.report s src detail region) := by
  refine hl.step (k := 0x10021990080000002018) ?_ hμ
  clear hl hμ
  unfold State.report
  try dsimp only
  repeat' first
    | with_reducible assumption
    | with_reducible exact Leaves.refl _ _
    | decide
    | with_reducible apply State.recordFault_leaves
    | dsimp only

theorem State.spoil_leaves {μ : Nat} {s₀ : State} {s : State} (hl : Leaves μ s₀ s) (hμ : 0x4000000000 ||| μ = μ) (n : Nat) :
    Leaves μ s₀ (State.spoil s n) := by
  refine hl.step (k := 0x4000000000) ?_ hμ
  clear hl hμ
  unfold State.spoil
  try dsimp only
  repeat' first
    | with_reducible assumption
    | with_reducible exact Leaves.refl _ _
    | decide
    | with_reducible apply Leaves.upd_gafs
    | with_reducible apply Leaves.ite
    | dsimp only

theorem State.loseConfirm_leaves {μ : Nat} {s₀ : State} {s : State} (hl : Leaves μ s₀ s) (hμ : 0x2000000000000001 ||| μ = μ)  :
    Leaves μ s₀ (State.loseConfirm s) := by
  refine hl.step (k := 0x2000000000000001) ?_ hμ
  clear hl hμ
  unfold State.loseConfirm
  try dsimp only
  repeat' first
    | with_reducible assumption
    | with_reducible exact Leaves.refl _ _
    | decide
    | with_reducible apply Part.bit (F.SYS_START_CTRL_CONFIRM_part ..)
    | with_reducible apply Part.bit (F.SYS_START_STAT_PHASE_part ..)
    | with_reducible apply Leaves.wr
    | with_reducible apply State.setAttempt_leaves
    | with_reducible apply Leaves.ite
    | split
    | dsimp only

theorem State.fault1_leaves {μ : Nat} {s₀ : State} {s : State} (hl : Leaves μ s₀ s) (hμ : 0x100a3990084000002019 ||| μ = μ) (src detail : Nat) (wire : Bool) :
    Leaves μ s₀ (State.fault1 s src detail wire) := by
  refine hl.step (k := 0x100a3990084000002019) ?_ hμ
  clear hl hμ
  unfold State.fault1
  try dsimp only
  repeat' first
    | with_reducible assumption
    | with_reducible exact Leaves.refl _ _
    | decide
    | with_reducible apply State.loseConfirm_leaves
    | with_reducible apply State.recordFault_leaves
    | with_reducible apply State.spoil_leaves
    | with_reducible apply Leaves.upd_flt
    | with_reducible apply Leaves.upd_lehr
    | with_reducible apply Leaves.ite
    | with_reducible refine Leaves.forEach (fun _ _ _ => ?_) ?_
    | with_reducible refine Leaves.forEachFst (fun _ _ _ => ?_) ?_
    | dsimp only

theorem State.setQueue_leaves {μ : Nat} {s₀ : State} {s : State} (hl : Leaves μ s₀ s) (hμ : 0x4000001000 ||| μ = μ) (n : Nat) (q : List TrigEntry) :
    Leaves μ s₀ (State.setQueue s n q) := by
  refine hl.step (k := 0x4000001000) ?_ hμ
  clear hl hμ
  unfold State.setQueue
  try dsimp only
  repeat' first
    | with_reducible assumption
    | with_reducible exact Leaves.refl _ _
    | decide
    | with_reducible apply Part.bit (F.GAF_STATUS_QDEPTH_part ..)
    | with_reducible apply Leaves.wr
    | with_reducible apply State.setGaf_leaves
    | dsimp only

theorem State.setLoops_leaves {μ : Nat} {s₀ : State} {s : State} (hl : Leaves μ s₀ s) (hμ : 0x4000001000 ||| μ = μ) (n : Nat) (l : List (Nat × Nat)) :
    Leaves μ s₀ (State.setLoops s n l) := by
  refine hl.step (k := 0x4000001000) ?_ hμ
  clear hl hμ
  unfold State.setLoops
  try dsimp only
  repeat' first
    | with_reducible assumption
    | with_reducible exact Leaves.refl _ _
    | decide
    | with_reducible apply Part.bit (F.GAF_STATUS_LOOP_DEPTH_part ..)
    | with_reducible apply Leaves.wr
    | with_reducible apply State.setGaf_leaves
    | dsimp only

theorem State.discardQueue_leaves {μ : Nat} {s₀ : State} {s : State} (hl : Leaves μ s₀ s) (hμ : 0x4000001000 ||| μ = μ) (n : Nat) :
    Leaves μ s₀ (State.discardQueue s n) := by
  refine hl.step (k := 0x4000001000) ?_ hμ
  clear hl hμ
  unfold State.discardQueue
  try dsimp only
  repeat' first
    | with_reducible assumption
    | with_reducible exact Leaves.refl _ _
    | decide
    | with_reducible apply Part.bit (F.GAF_TRIG_DISC_CNT_COUNT_part ..)
    | with_reducible apply Leaves.bumpBy
    | with_reducible apply State.setQueue_leaves
    | dsimp only

theorem State.complete_leaves {μ : Nat} {s₀ : State} {s : State} (hl : Leaves μ s₀ s) (hμ : 0x11001990080000102010 ||| μ = μ) (c : MbxCmd) (status result : Nat) :
    Leaves μ s₀ (State.complete s c status result) := by
  refine hl.step (k := 0x11001990080000102010) ?_ hμ
  clear hl hμ
  unfold State.complete
  try dsimp only
  repeat' first
    | with_reducible assumption
    | with_reducible exact Leaves.refl _ _
    | decide
    | with_reducible apply Part.bit (F.PCI_MBX_ERR_CNT_COUNT_part ..)
    | with_reducible apply Part.bit (F.PCI_MBX_CPL_HEAD_HEAD_part ..)
    | (intro i hi; simp only [MbxCmd.entry, FaultRec.logWords, List.length_cons, List.length_nil, List.length_map, upTo, List.length_range] at hi; exact Part.bit (regPart_pciRegs (by omega) (by omega)) (by decide))
    | with_reducible apply Leaves.bump
    | with_reducible apply Leaves.wr
    | with_reducible apply Leaves.setWords
    | with_reducible apply State.raise_leaves
    | with_reducible apply Leaves.upd_jtag
    | with_reducible apply Leaves.ite
    | dsimp only

theorem State.startShort_leaves {μ : Nat} {s₀ : State} {s : State} (hl : Leaves μ s₀ s) (hμ : 0x40000000000000 ||| μ = μ) (c : MbxCmd) :
    Leaves μ s₀ (State.startShort s c) := by
  refine hl.step (k := 0x40000000000000) ?_ hμ
  clear hl hμ
  unfold State.startShort
  try dsimp only
  repeat' first
    | with_reducible assumption
    | with_reducible exact Leaves.refl _ _
    | decide
    | with_reducible apply Leaves.upd_mbx
    | dsimp only

theorem State.startLong_leaves {μ : Nat} {s₀ : State} {s : State} (hl : Leaves μ s₀ s) (hμ : 0x40000000000000 ||| μ = μ) (c : MbxCmd) :
    Leaves μ s₀ (State.startLong s c) := by
  refine hl.step (k := 0x40000000000000) ?_ hμ
  clear hl hμ
  unfold State.startLong
  try dsimp only
  repeat' first
    | with_reducible assumption
    | with_reducible exact Leaves.refl _ _
    | decide
    | with_reducible apply Leaves.upd_mbx
    | dsimp only

theorem State.endShort_leaves {μ : Nat} {s₀ : State} {s : State} (hl : Leaves μ s₀ s) (hμ : 0x110019d0080000102010 ||| μ = μ) (status result : Nat) :
    Leaves μ s₀ (State.endShort s status result) := by
  refine hl.step (k := 0x110019d0080000102010) ?_ hμ
  clear hl hμ
  unfold State.endShort
  try dsimp only
  repeat' first
    | with_reducible assumption
    | with_reducible exact Leaves.refl _ _
    | decide
    | with_reducible apply State.complete_leaves
    | with_reducible apply Leaves.upd_mbx
    | split
    | dsimp only

theorem State.endLong_leaves {μ : Nat} {s₀ : State} {s : State} (hl : Leaves μ s₀ s) (hμ : 0x110019d0080000102010 ||| μ = μ) (status result : Nat) :
    Leaves μ s₀ (State.endLong s status result) := by
  refine hl.step (k := 0x110019d0080000102010) ?_ hμ
  clear hl hμ
  unfold State.endLong
  try dsimp only
  repeat' first
    | with_reducible assumption
    | with_reducible exact Leaves.refl _ _
    | decide
    | with_reducible apply State.complete_leaves
    | with_reducible apply Leaves.upd_mbx
    | split
    | dsimp only

theorem State.setReqs_leaves {μ : Nat} {s₀ : State} {s : State} (hl : Leaves μ s₀ s) (hμ : 0x8000004000 ||| μ = μ) (t : Nat) (rs : List MemReq) :
    Leaves μ s₀ (State.setReqs s t rs) := by
  refine hl.step (k := 0x8000004000) ?_ hμ
  clear hl hμ
  unfold State.setReqs
  try dsimp only
  repeat' first
    | with_reducible assumption
    | with_reducible exact Leaves.refl _ _
    | decide
    | with_reducible apply Part.bit (F.MPU_MP_STAT_TAGS_USED_part ..)
    | with_reducible apply Leaves.wr
    | with_reducible apply State.setPort_leaves
    | dsimp only

theorem State.staleTile_leaves {μ : Nat} {s₀ : State} {s : State} (hl : Leaves μ s₀ s) (hμ : 0x8000004000 ||| μ = μ) (t : Nat) :
    Leaves μ s₀ (State.staleTile s t) := by
  refine hl.step (k := 0x8000004000) ?_ hμ
  clear hl hμ
  unfold State.staleTile
  try dsimp only
  repeat' first
    | with_reducible assumption
    | with_reducible exact Leaves.refl _ _
    | decide
    | with_reducible apply State.setPort_leaves
    | with_reducible apply State.setReqs_leaves
    | dsimp only

theorem State.setDom_leaves {μ : Nat} {s₀ : State} {s : State} (hl : Leaves μ s₀ s) (hμ : 0x40000000000000000 ||| μ = μ) (d : Nat) (x : Domain) :
    Leaves μ s₀ (State.setDom s d x) := by
  refine hl.step (k := 0x40000000000000000) ?_ hμ
  clear hl hμ
  unfold State.setDom
  try dsimp only
  repeat' first
    | with_reducible assumption
    | with_reducible exact Leaves.refl _ _
    | decide
    | with_reducible apply Leaves.upd_pwr
    | dsimp only

theorem State.abandon_leaves {μ : Nat} {s₀ : State} {s : State} (hl : Leaves μ s₀ s) (hμ : 0x10041990080000002012 ||| μ = μ) (d : Nat) :
    Leaves μ s₀ (State.abandon s d) := by
  refine hl.step (k := 0x10041990080000002012) ?_ hμ
  clear hl hμ
  unfold State.abandon
  try dsimp only
  repeat' first
    | with_reducible assumption
    | with_reducible exact Leaves.refl _ _
    | decide
    | with_reducible apply Part.bit (F.PWR_STAT_ABANDONED_part ..)
    | with_reducible apply Part.bit (F.PWR_ABANDON_CNT_COUNT_part ..)
    | with_reducible apply Leaves.wr
    | with_reducible apply Leaves.bump
    | with_reducible apply State.raise_leaves
    | with_reducible apply State.setDom_leaves
    | dsimp only

theorem State.evalOne_leaves {μ : Nat} {s₀ : State} {s : State} (hl : Leaves μ s₀ s) (hμ : 0x10041990080000002012 ||| μ = μ) (c : Nat) :
    Leaves μ s₀ (State.evalOne s c) := by
  refine hl.step (k := 0x10041990080000002012) ?_ hμ
  clear hl hμ
  unfold State.evalOne
  try dsimp only
  repeat' first
    | with_reducible assumption
    | with_reducible exact Leaves.refl _ _
    | decide
    | with_reducible apply State.abandon_leaves
    | with_reducible apply State.setDom_leaves
    | with_reducible apply Leaves.ite
    | split
    | dsimp only

theorem State.evalSector_leaves {μ : Nat} {s₀ : State} {s : State} (hl : Leaves μ s₀ s) (hμ : 0x10041990080000002012 ||| μ = μ) (c : Nat) :
    Leaves μ s₀ (State.evalSector s c) := by
  refine hl.step (k := 0x10041990080000002012) ?_ hμ
  clear hl hμ
  unfold State.evalSector
  try dsimp only
  repeat' first
    | with_reducible assumption
    | with_reducible exact Leaves.refl _ _
    | decide
    | with_reducible apply State.evalOne_leaves
    | with_reducible refine Leaves.forEach (fun _ _ _ => ?_) ?_
    | with_reducible refine Leaves.forEachFst (fun _ _ _ => ?_) ?_
    | dsimp only

theorem State.evalRegion_leaves {μ : Nat} {s₀ : State} {s : State} (hl : Leaves μ s₀ s) (hμ : 0x10041990080000002012 ||| μ = μ) (n : Nat) :
    Leaves μ s₀ (State.evalRegion s n) := by
  refine hl.step (k := 0x10041990080000002012) ?_ hμ
  clear hl hμ
  unfold State.evalRegion
  try dsimp only
  repeat' first
    | with_reducible assumption
    | with_reducible exact Leaves.refl _ _
    | decide
    | with_reducible apply State.evalOne_leaves
    | with_reducible refine Leaves.forEach (fun _ _ _ => ?_) ?_
    | with_reducible refine Leaves.forEachFst (fun _ _ _ => ?_) ?_
    | dsimp only

theorem State.evalVotes_leaves {μ : Nat} {s₀ : State} {s : State} (hl : Leaves μ s₀ s) (hμ : 0x10041990080000002012 ||| μ = μ)  :
    Leaves μ s₀ (State.evalVotes s) := by
  refine hl.step (k := 0x10041990080000002012) ?_ hμ
  clear hl hμ
  unfold State.evalVotes
  try dsimp only
  repeat' first
    | with_reducible assumption
    | with_reducible exact Leaves.refl _ _
    | decide
    | with_reducible apply State.evalOne_leaves
    | with_reducible refine Leaves.forEach (fun _ _ _ => ?_) ?_
    | with_reducible refine Leaves.forEachFst (fun _ _ _ => ?_) ?_
    | dsimp only

theorem State.wakePkt_leaves {μ : Nat} {s₀ : State} {s : State} (hl : Leaves μ s₀ s) (hμ : 0x10001990080000002012 ||| μ = μ)  :
    Leaves μ s₀ (State.wakePkt s) := by
  refine hl.step (k := 0x10001990080000002012) ?_ hμ
  clear hl hμ
  unfold State.wakePkt
  try dsimp only
  repeat' first
    | with_reducible assumption
    | with_reducible exact Leaves.refl _ _
    | decide
    | with_reducible apply Part.bit (F.PWR_WAKE_PKT_CNT_COUNT_part ..)
    | with_reducible apply Leaves.bump
    | with_reducible apply State.raise_leaves
    | dsimp only

theorem State.evalDomain_leaves {μ : Nat} {s₀ : State} {s : State} (hl : Leaves μ s₀ s) (hμ : 0x10041990080000002012 ||| μ = μ) (d : Nat) :
    Leaves μ s₀ (State.evalDomain s d) := by
  refine hl.step (k := 0x10041990080000002012) ?_ hμ
  clear hl hμ
  unfold State.evalDomain
  try dsimp only
  repeat' first
    | with_reducible assumption
    | with_reducible exact Leaves.refl _ _
    | decide
    | with_reducible apply State.evalSector_leaves
    | with_reducible apply Leaves.ite
    | dsimp only

theorem State.tryEndWake_leaves {μ : Nat} {s₀ : State} {s : State} (hl : Leaves μ s₀ s) (hμ : 0x10101990080000002012 ||| μ = μ)  :
    Leaves μ s₀ (State.tryEndWake s) := by
  refine hl.step (k := 0x10101990080000002012) ?_ hμ
  clear hl hμ
  unfold State.tryEndWake
  try dsimp only
  repeat' first
    | with_reducible assumption
    | with_reducible exact Leaves.refl _ _
    | decide
    | with_reducible apply Part.bit (F.PWR_STAT_S4_RESULT_part ..)
    | with_reducible apply Leaves.wr
    | with_reducible apply State.raise_leaves
    | with_reducible apply Leaves.upd_start
    | with_reducible apply Leaves.ite
    | dsimp only

theorem State.voteWake_leaves {μ : Nat} {s₀ : State} {s : State} (hl : Leaves μ s₀ s) (hμ : 0x40000000000000000 ||| μ = μ) (d : Nat) :
    Leaves μ s₀ (State.voteWake s d) := by
  refine hl.step (k := 0x40000000000000000) ?_ hμ
  clear hl hμ
  unfold State.voteWake
  try dsimp only
  repeat' first
    | with_reducible assumption
    | with_reducible exact Leaves.refl _ _
    | decide
    | with_reducible apply State.setDom_leaves
    | dsimp only

theorem State.knock_leaves {μ : Nat} {s₀ : State} {s : State} (hl : Leaves μ s₀ s) (hμ : 0x10041990080000002012 ||| μ = μ) (d : Nat) :
    Leaves μ s₀ (State.knock s d) := by
  refine hl.step (k := 0x10041990080000002012) ?_ hμ
  clear hl hμ
  unfold State.knock
  try dsimp only
  repeat' first
    | with_reducible assumption
    | with_reducible exact Leaves.refl _ _
    | decide
    | with_reducible apply State.abandon_leaves
    | with_reducible apply State.evalDomain_leaves
    | with_reducible apply State.setDom_leaves
    | with_reducible apply State.voteWake_leaves
    | with_reducible apply State.wakePkt_leaves
    | with_reducible apply Leaves.ite
    | split
    | dsimp only

theorem State.holdRun_leaves {μ : Nat} {s₀ : State} {s : State} (hl : Leaves μ s₀ s) (hμ : 0x40000000000000002 ||| μ = μ) (k : Nat) :
    Leaves μ s₀ (State.holdRun s k) := by
  refine hl.step (k := 0x40000000000000002) ?_ hμ
  clear hl hμ
  unfold State.holdRun
  try dsimp only
  repeat' first
    | with_reducible assumption
    | with_reducible exact Leaves.refl _ _
    | decide
    | with_reducible apply Part.bit (F.PWR_PERF_HOLD_CNT_COUNT_part ..)
    | with_reducible apply Leaves.bump
    | with_reducible apply Leaves.upd_pwr
    | with_reducible apply Leaves.ite
    | split
    | dsimp only

theorem State.halted_leaves {μ : Nat} {s₀ : State} {s : State} (hl : Leaves μ s₀ s) (hμ : 0x1004199008c000007012 ||| μ = μ) (n code cause : Nat) :
    Leaves μ s₀ (State.halted s n code cause) := by
  refine hl.step (k := 0x1004199008c000007012) ?_ hμ
  clear hl hμ
  unfold State.halted
  try dsimp only
  repeat' first
    | with_reducible assumption
    | with_reducible exact Leaves.refl _ _
    | decide
    | with_reducible apply Part.bit (F.GAF_STATUS_STATE_part ..)
    | with_reducible apply Part.bit (F.GAF_STATUS_CAUSE_part ..)
    | with_reducible apply Leaves.wr
    | with_reducible apply State.discardQueue_leaves
    | with_reducible apply State.evalRegion_leaves
    | with_reducible apply State.raise_leaves
    | with_reducible apply State.setGaf_leaves
    | with_reducible apply State.staleTile_leaves
    | with_reducible refine Leaves.forEach (fun _ _ _ => ?_) ?_
    | with_reducible refine Leaves.forEachFst (fun _ _ _ => ?_) ?_
    | dsimp only

theorem State.regionDone_leaves {μ : Nat} {s₀ : State} {s : State} (hl : Leaves μ s₀ s) (hμ : 0x110019d0080000102010 ||| μ = μ) (op n status result : Nat) :
    Leaves μ s₀ (State.regionDone s op n status result) := by
  refine hl.step (k := 0x110019d0080000102010) ?_ hμ
  clear hl hμ
  unfold State.regionDone
  try dsimp only
  repeat' first
    | with_reducible assumption
    | with_reducible exact Leaves.refl _ _
    | decide
    | with_reducible apply State.endShort_leaves
    | with_reducible apply Leaves.ite
    | dsimp only

theorem State.startFailed_leaves {μ : Nat} {s₀ : State} {s : State} (hl : Leaves μ s₀ s) (hμ : 0x110019d0080000102010 ||| μ = μ) (n : Nat) :
    Leaves μ s₀ (State.startFailed s n) := by
  refine hl.step (k := 0x110019d0080000102010) ?_ hμ
  clear hl hμ
  unfold State.startFailed
  try dsimp only
  repeat' first
    | with_reducible assumption
    | with_reducible exact Leaves.refl _ _
    | decide
    | with_reducible apply State.regionDone_leaves
    | dsimp only

theorem State.enterFenced_leaves {μ : Nat} {s₀ : State} {s : State} (hl : Leaves μ s₀ s) (hμ : 0x110419d008c00010701a ||| μ = μ) (n cause source : Nat) :
    Leaves μ s₀ (State.enterFenced s n cause source) := by
  refine hl.step (k := 0x110419d008c00010701a) ?_ hμ
  clear hl hμ
  unfold State.enterFenced
  try dsimp only
  repeat' first
    | with_reducible assumption
    | with_reducible exact Leaves.refl _ _
    | decide
    | with_reducible apply Part.bit (F.FLT_STAT_FENCED_part ..)
    | with_reducible apply Part.bit (F.FLT_FENCE_LAST_SOURCE_part ..)
    | with_reducible apply Part.bit (F.FLT_FENCE_COUNT_part ..)
    | with_reducible apply Leaves.wr
    | with_reducible apply State.halted_leaves
    | with_reducible apply State.setGaf_leaves
    | with_reducible apply State.startFailed_leaves
    | with_reducible apply Leaves.ite
    | dsimp only

theorem State.fence_leaves {μ : Nat} {s₀ : State} {s : State} (hl : Leaves μ s₀ s) (hμ : 0x110419d008c00010701a ||| μ = μ) (n cause source : Nat) :
    Leaves μ s₀ (State.fence s n cause source) := by
  refine hl.step (k := 0x110419d008c00010701a) ?_ hμ
  clear hl hμ
  unfold State.fence
  try dsimp only
  repeat' first
    | with_reducible assumption
    | with_reducible exact Leaves.refl _ _
    | decide
    | with_reducible apply State.enterFenced_leaves
    | with_reducible apply State.halted_leaves
    | with_reducible apply State.setGaf_leaves
    | with_reducible apply Leaves.ite
    | dsimp only

theorem State.fault2_leaves {μ : Nat} {s₀ : State} {s : State} (hl : Leaves μ s₀ s) (hμ : 0x110619d008c00010701a ||| μ = μ) (n src detail cause : Nat) :
    Leaves μ s₀ (State.fault2 s n src detail cause) := by
  refine hl.step (k := 0x110619d008c00010701a) ?_ hμ
  clear hl hμ
  unfold State.fault2
  try dsimp only
  repeat' first
    | with_reducible assumption
    | with_reducible exact Leaves.refl _ _
    | decide
    | with_reducible apply State.fence_leaves
    | with_reducible apply State.report_leaves
    | with_reducible apply Leaves.ite
    | dsimp only

theorem State.loadCapture_leaves {μ : Nat} {s₀ : State} {s : State} (hl : Leaves μ s₀ s) (hμ : 0x2000004000 ||| μ = μ) (t : Nat) :
    Leaves μ s₀ (State.loadCapture s t) := by
  refine hl.step (k := 0x2000004000) ?_ hμ
  clear hl hμ
  unfold State.loadCapture
  try dsimp only
  repeat' first
    | with_reducible assumption
    | with_reducible exact Leaves.refl _ _
    | decide
    | with_reducible apply Part.bit (F.MPU_CAP_STAT_WR_PTR_part ..)
    | (with_reducible apply Part.bit (p := .mpuRegs) <;> first | decide | exact regPart_mpuRegs (by omega) (by omega))
    | with_reducible apply Leaves.setReg
    | with_reducible apply State.setTile_leaves
    | exact Mask.bit (regPart_bit _) (by decide)
    | with_reducible apply Leaves.ite
    | dsimp only

theorem State.loadLatch_leaves {μ : Nat} {s₀ : State} {s : State} (hl : Leaves μ s₀ s) (hμ : 0x2001004000 ||| μ = μ) (t : Nat) :
    Leaves μ s₀ (State.loadLatch s t) := by
  refine hl.step (k := 0x2001004000) ?_ hμ
  clear hl hμ
  unfold State.loadLatch
  try dsimp only
  repeat' first
    | with_reducible assumption
    | with_reducible exact Leaves.refl _ _
    | decide
    | with_reducible apply State.loadCapture_leaves
    | with_reducible apply Leaves.upd_latch
    | exact fun h => Tab.wf_set _ _ _ h
    | exact fun h => Bytes.wf_write _ _ h
    | exact fun h => Bytes.wf_set _ _ h
    | exact fun h => bufSet_wf _ _ h
    | exact fun h => Tab.wf_clear _ _ _ h
    | exact fun h => Tab.wf_filter _ _ h
    | with_reducible refine Leaves.forEach (fun _ _ _ => ?_) ?_
    | with_reducible refine Leaves.forEachFst (fun _ _ _ => ?_) ?_
    | dsimp only

theorem State.clearDm_leaves {μ : Nat} {s₀ : State} {s : State} (hl : Leaves μ s₀ s) (hμ : 0x30000000 ||| μ = μ) (a b : Nat) :
    Leaves μ s₀ (State.clearDm s a b) := by
  refine hl.step (k := 0x30000000) ?_ hμ
  clear hl hμ
  unfold State.clearDm
  try dsimp only
  repeat' first
    | with_reducible assumption
    | with_reducible exact Leaves.refl _ _
    | decide
    | with_reducible apply Leaves.upd_dm
    | exact fun h => Tab.wf_clear _ _ _ h
    | exact fun h => Tab.wf_set _ _ _ h
    | exact fun h => Bytes.wf_write _ _ h
    | exact fun h => Bytes.wf_set _ _ h
    | exact fun h => bufSet_wf _ _ h
    | exact fun h => Tab.wf_filter _ _ h
    | with_reducible apply Leaves.upd_dmBad
    | dsimp only

theorem State.clearBuffers_leaves {μ : Nat} {s₀ : State} {s : State} (hl : Leaves μ s₀ s) (hμ : 0x1f00000000 ||| μ = μ) (t u : Nat) :
    Leaves μ s₀ (State.clearBuffers s t u) := by
  refine hl.step (k := 0x1f00000000) ?_ hμ
  clear hl hμ
  unfold State.clearBuffers
  try dsimp only
  repeat' first
    | with_reducible assumption
    | with_reducible exact Leaves.refl _ _
    | decide
    | with_reducible apply Leaves.upd_farIn
    | exact fun h => Tab.wf_clear _ _ _ h
    | exact fun h => Tab.wf_set _ _ _ h
    | exact fun h => Bytes.wf_write _ _ h
    | exact fun h => Bytes.wf_set _ _ h
    | exact fun h => bufSet_wf _ _ h
    | exact fun h => Tab.wf_filter _ _ h
    | with_reducible apply Leaves.upd_gobIn
    | with_reducible apply Leaves.upd_gobOut
    | with_reducible apply Leaves.upd_reqArea
    | with_reducible apply Leaves.upd_retBuf
    | dsimp only

theorem State.clearTile_leaves {μ : Nat} {s₀ : State} {s : State} (hl : Leaves μ s₀ s) (hμ : 0xa830004000 ||| μ = μ) (t : Nat) :
    Leaves μ s₀ (State.clearTile s t) := by
  refine hl.step (k := 0xa830004000) ?_ hμ
  clear hl hμ
  unfold State.clearTile
  try dsimp only
  repeat' first
    | with_reducible assumption
    | with_reducible exact Leaves.refl _ _
    | decide
    | with_reducible apply Part.bit (F.MPU_XCHG_NUM_X_part ..)
    | with_reducible apply Leaves.wr
    | with_reducible apply State.clearDm_leaves
    | with_reducible apply State.setTile_leaves
    | with_reducible apply State.staleTile_leaves
    | with_reducible apply Leaves.upd_retBuf
    | exact fun h => Tab.wf_clear _ _ _ h
    | exact fun h => Tab.wf_set _ _ _ h
    | exact fun h => Bytes.wf_write _ _ h
    | exact fun h => Bytes.wf_set _ _ h
    | exact fun h => bufSet_wf _ _ h
    | exact fun h => Tab.wf_filter _ _ h
    | dsimp only

theorem State.startR44_leaves {μ : Nat} {s₀ : State} {s : State} (hl : Leaves μ s₀ s) (hμ : 0xe831005100 ||| μ = μ) (n : Nat) :
    Leaves μ s₀ (State.startR44 s n) := by
  refine hl.step (k := 0xe831005100) ?_ hμ
  clear hl hμ
  unfold State.startR44
  try dsimp only
  repeat' first
    | with_reducible assumption
    | with_reducible exact Leaves.refl _ _
    | decide
    | with_reducible apply Part.bit (F.GAF_STALL_BOUND_BOUND_part ..)
    | with_reducible apply Part.bit (F.GAF_STATUS_SEL_part ..)
    | with_reducible apply Part.bit (F.TB_XSYNC_SYNCED_part ..)
    | (with_reducible apply Part.bit (p := .gafRegs) <;> first | decide | exact regPart_gafRegs (by omega) (by omega) (by omega))
    | with_reducible apply Leaves.wr
    | with_reducible apply Leaves.wr64
    | with_reducible apply Leaves.setReg
    | with_reducible apply State.clearTile_leaves
    | with_reducible apply State.loadLatch_leaves
    | with_reducible apply State.setGaf_leaves
    | exact Mask.bit (regPart_bit _) (by decide)
    | with_reducible refine Leaves.forEach (fun _ _ _ => ?_) ?_
    | with_reducible refine Leaves.forEachFst (fun _ _ _ => ?_) ?_
    | split
    | dsimp only

theorem State.armed_leaves {μ : Nat} {s₀ : State} {s : State} (hl : Leaves μ s₀ s) (hμ : 0x4000001008 ||| μ = μ) (n : Nat) :
    Leaves μ s₀ (State.armed s n) := by
  refine hl.step (k := 0x4000001008) ?_ hμ
  clear hl hμ
  unfold State.armed
  try dsimp only
  repeat' first
    | with_reducible assumption
    | with_reducible exact Leaves.refl _ _
    | decide
    | with_reducible apply Part.bit (F.GAF_STATUS_PC_part ..)
    | with_reducible apply Part.bit (F.FLT_STAT_FENCED_part ..)
    | with_reducible apply Part.bit (F.GAF_STATUS_STATE_part ..)
    | with_reducible apply Leaves.wr
    | with_reducible apply State.setGaf_leaves
    | dsimp only

theorem State.clearPends_leaves {μ : Nat} {s₀ : State} {s : State} (hl : Leaves μ s₀ s) (hμ : 0x2000 ||| μ = μ) (n : Nat) :
    Leaves μ s₀ (State.clearPends s n) := by
  refine hl.step (k := 0x2000) ?_ hμ
  clear hl hμ
  unfold State.clearPends
  try dsimp only
  repeat' first
    | with_reducible assumption
    | with_reducible exact Leaves.refl _ _
    | decide
    | (with_reducible apply Part.bit (p := .waitRegs) <;> first | decide | exact regPart_waitRegs (by omega) (by omega) (by omega))
    | with_reducible apply Leaves.setReg
    | exact Mask.bit (regPart_bit _) (by decide)
    | dsimp only

theorem State.wakeHbm_leaves {μ : Nat} {s₀ : State} {s : State} (hl : Leaves μ s₀ s) (hμ : 0x10041990080000002012 ||| μ = μ) (a n : Nat) :
    Leaves μ s₀ (State.wakeHbm s a n) := by
  refine hl.step (k := 0x10041990080000002012) ?_ hμ
  clear hl hμ
  unfold State.wakeHbm
  try dsimp only
  repeat' first
    | with_reducible assumption
    | with_reducible exact Leaves.refl _ _
    | decide
    | with_reducible apply State.knock_leaves
    | with_reducible apply Leaves.ite
    | with_reducible refine Leaves.forEach (fun _ _ _ => ?_) ?_
    | with_reducible refine Leaves.forEachFst (fun _ _ _ => ?_) ?_
    | dsimp only

theorem State.onceHbm_leaves {μ : Nat} {s₀ : State} {s : State} (hl : Leaves μ s₀ s) (hμ : 0x10041990080000002012 ||| μ = μ) (a n : Nat) (f : State → State) (hf : ∀  u, Leaves μ s₀ u → Leaves μ s₀ (f  u)) :
    Leaves μ s₀ (State.onceHbm s a n f) := by
  unfold State.onceHbm
  try dsimp only
  repeat' first
    | with_reducible apply hf
    | with_reducible exact Mask.trans (by decide) hμ
    | with_reducible exact Mask.bit (by decide) hμ
    | with_reducible assumption
    | with_reducible exact Leaves.refl _ _
    | decide
    | with_reducible apply State.wakeHbm_leaves
    | with_reducible apply Leaves.ite
    | dsimp only

theorem State.ueMet_leaves {μ : Nat} {s₀ : State} {s : State} (hl : Leaves μ s₀ s) (hμ : 0x10001990080000082010 ||| μ = μ) (a : Nat) :
    Leaves μ s₀ (State.ueMet s a) := by
  refine hl.step (k := 0x10001990080000082010) ?_ hμ
  clear hl hμ
  unfold State.ueMet
  try dsimp only
  repeat' first
    | with_reducible assumption
    | with_reducible exact Leaves.refl _ _
    | decide
    | with_reducible apply Part.bit (F.HBM_UE_CNT_COUNT_part ..)
    | (with_reducible apply Part.bit (p := .hbmRegs) <;> first | decide | exact regPart_hbmRegs (by omega) (by omega))
    | with_reducible apply Leaves.bump
    | with_reducible apply Leaves.setReg
    | with_reducible apply State.raise_leaves
    | exact Mask.bit (regPart_bit _) (by decide)
    | with_reducible apply Leaves.ite
    | dsimp only

theorem State.ueReport_leaves {μ : Nat} {s₀ : State} {s : State} (hl : Leaves μ s₀ s) (hμ : 0x10021990080000002018 ||| μ = μ) (ws : List Nat) :
    Leaves μ s₀ (State.ueReport s ws) := by
  refine hl.step (k := 0x10021990080000002018) ?_ hμ
  clear hl hμ
  unfold State.ueReport
  try dsimp only
  repeat' first
    | with_reducible assumption
    | with_reducible exact Leaves.refl _ _
    | decide
    | with_reducible apply State.report_leaves
    | with_reducible refine Leaves.forEach (fun _ _ _ => ?_) ?_
    | with_reducible refine Leaves.forEachFst (fun _ _ _ => ?_) ?_
    | dsimp only

theorem State.hbmUes_leaves {μ : Nat} {s₀ : State} {s : State} (hl : Leaves μ s₀ s) (hμ : 0x10021990080000082018 ||| μ = μ) (ws : List Nat) :
    Leaves μ s₀ (State.hbmUes s ws) := by
  refine hl.step (k := 0x10021990080000082018) ?_ hμ
  clear hl hμ
  unfold State.hbmUes
  try dsimp only
  repeat' first
    | with_reducible assumption
    | with_reducible exact Leaves.refl _ _
    | decide
    | with_reducible apply State.ueMet_leaves
    | with_reducible apply State.ueReport_leaves
    | with_reducible refine Leaves.forEach (fun _ _ _ => ?_) ?_
    | with_reducible refine Leaves.forEachFst (fun _ _ _ => ?_) ?_
    | dsimp only

theorem State.setBad_leaves {μ : Nat} {s₀ : State} {s : State} (hl : Leaves μ s₀ s) (hμ : 0x20000000000 ||| μ = μ) (w : Nat) (b : Bool) :
    Leaves μ s₀ (State.setBad s w b) := by
  refine hl.step (k := 0x20000000000) ?_ hμ
  clear hl hμ
  unfold State.setBad
  try dsimp only
  repeat' first
    | with_reducible assumption
    | with_reducible exact Leaves.refl _ _
    | decide
    | with_reducible apply Leaves.upd_hbmBad
    | exact fun h => Tab.wf_set _ _ _ h
    | exact fun h => Bytes.wf_write _ _ h
    | exact fun h => Bytes.wf_set _ _ h
    | exact fun h => bufSet_wf _ _ h
    | exact fun h => Tab.wf_clear _ _ _ h
    | exact fun h => Tab.wf_filter _ _ h
    | dsimp only

theorem State.setSoft_leaves {μ : Nat} {s₀ : State} {s : State} (hl : Leaves μ s₀ s) (hμ : 0x40000000000 ||| μ = μ) (w : Nat) (b : Bool) :
    Leaves μ s₀ (State.setSoft s w b) := by
  refine hl.step (k := 0x40000000000) ?_ hμ
  clear hl hμ
  unfold State.setSoft
  try dsimp only
  repeat' first
    | with_reducible assumption
    | with_reducible exact Leaves.refl _ _
    | decide
    | with_reducible apply Leaves.upd_hbmSoft
    | exact fun h => Tab.wf_set _ _ _ h
    | exact fun h => Bytes.wf_write _ _ h
    | exact fun h => Bytes.wf_set _ _ h
    | exact fun h => bufSet_wf _ _ h
    | exact fun h => Tab.wf_clear _ _ _ h
    | exact fun h => Tab.wf_filter _ _ h
    | dsimp only

theorem State.hbmCe_leaves {μ : Nat} {s₀ : State} {s : State} (hl : Leaves μ s₀ s) (hμ : 0x100019900c0000082010 ||| μ = μ) (w : Nat) :
    Leaves μ s₀ (State.hbmCe s w) := by
  refine hl.step (k := 0x100019900c0000082010) ?_ hμ
  clear hl hμ
  unfold State.hbmCe
  try dsimp only
  repeat' first
    | with_reducible assumption
    | with_reducible exact Leaves.refl _ _
    | decide
    | with_reducible apply Part.bit (F.HBM_CE_CNT_COUNT_part ..)
    | with_reducible apply Leaves.bump
    | with_reducible apply State.raise_leaves
    | with_reducible apply State.setSoft_leaves
    | dsimp only

theorem State.upsets_leaves {μ : Nat} {s₀ : State} {s : State} (hl : Leaves μ s₀ s) (hμ : 0x60000000000 ||| μ = μ) (l : List (Nat × Bool)) :
    Leaves μ s₀ (State.upsets s l) := by
  refine hl.step (k := 0x60000000000) ?_ hμ
  clear hl hμ
  unfold State.upsets
  try dsimp only
  repeat' first
    | with_reducible assumption
    | with_reducible exact Leaves.refl _ _
    | decide
    | with_reducible apply State.setBad_leaves
    | with_reducible apply State.setSoft_leaves
    | with_reducible apply Leaves.ite
    | with_reducible apply Leaves.iteFst
    | with_reducible refine Leaves.forEach (fun _ _ _ => ?_) ?_
    | with_reducible refine Leaves.forEachFst (fun _ _ _ => ?_) ?_
    | dsimp only

theorem State.hbmRead_leaves {μ : Nat} {s₀ : State} {s : State} (hl : Leaves μ s₀ s) (hμ : 0x100219900c0000082018 ||| μ = μ) (a n : Nat) :
    Leaves μ s₀ (State.hbmRead s a n).1 := by
  refine hl.step (k := 0x100219900c0000082018) ?_ hμ
  clear hl hμ
  unfold State.hbmRead
  try dsimp only
  repeat' first
    | with_reducible assumption
    | with_reducible exact Leaves.refl _ _
    | decide
    | with_reducible apply State.hbmCe_leaves
    | with_reducible apply State.hbmUes_leaves
    | with_reducible refine Leaves.forEach (fun _ _ _ => ?_) ?_
    | with_reducible refine Leaves.forEachFst (fun _ _ _ => ?_) ?_
    | split
    | dsimp only

theorem State.meetCode_leaves {μ : Nat} {s₀ : State} {s : State} (hl : Leaves μ s₀ s) (hμ : 0x100019900e0000082010 ||| μ = μ) (w : Nat) (whole : Bool) :
    Leaves μ s₀ (State.meetCode s w whole) := by
  refine hl.step (k := 0x100019900e0000082010) ?_ hμ
  clear hl hμ
  unfold State.meetCode
  try dsimp only
  repeat' first
    | with_reducible assumption
    | with_reducible exact Leaves.refl _ _
    | decide
    | with_reducible apply State.hbmCe_leaves
    | with_reducible apply State.setBad_leaves
    | with_reducible apply State.setSoft_leaves
    | with_reducible apply State.ueMet_leaves
    | with_reducible apply Leaves.ite
    | dsimp only

theorem State.hbmPutBytes_leaves {μ : Nat} {s₀ : State} {s : State} (hl : Leaves μ s₀ s) (hμ : 0x100219900f0000082018 ||| μ = μ) (a : Nat) (bs : List Byte) :
    Leaves μ s₀ (State.hbmPutBytes s a bs) := by
  refine hl.step (k := 0x100219900f0000082018) ?_ hμ
  clear hl hμ
  unfold State.hbmPutBytes
  try dsimp only
  repeat' first
    | with_reducible assumption
    | with_reducible exact Leaves.refl _ _
    | decide
    | with_reducible apply State.meetCode_leaves
    | with_reducible apply State.ueReport_leaves
    | with_reducible apply Leaves.upd_hbm
    | exact fun h => Tab.wf_set _ _ _ h
    | exact fun h => Bytes.wf_write _ _ h
    | exact fun h => Bytes.wf_set _ _ h
    | exact fun h => bufSet_wf _ _ h
    | exact fun h => Tab.wf_clear _ _ _ h
    | exact fun h => Tab.wf_filter _ _ h
    | with_reducible refine Leaves.forEach (fun _ _ _ => ?_) ?_
    | with_reducible refine Leaves.forEachFst (fun _ _ _ => ?_) ?_
    | dsimp only

theorem State.hbmStore_leaves {μ : Nat} {s₀ : State} {s : State} (hl : Leaves μ s₀ s) (hμ : 0x100219900f0000082018 ||| μ = μ) (a : Nat) (bs : List Byte) :
    Leaves μ s₀ (State.hbmStore s a bs) := by
  refine hl.step (k := 0x100219900f0000082018) ?_ hμ
  clear hl hμ
  unfold State.hbmStore
  try dsimp only
  repeat' first
    | with_reducible assumption
    | with_reducible exact Leaves.refl _ _
    | decide
    | with_reducible apply State.hbmPutBytes_leaves
    | with_reducible apply Leaves.ite
    | with_reducible refine Leaves.forEach (fun _ _ _ => ?_) ?_
    | with_reducible refine Leaves.forEachFst (fun _ _ _ => ?_) ?_
    | dsimp only

theorem State.hbmPutIn_leaves {μ : Nat} {s₀ : State} {s : State} (hl : Leaves μ s₀ s) (hμ : 0x10061b900f000008201a ||| μ = μ) (a : Nat) (bs : List Byte) :
    Leaves μ s₀ (State.hbmPutIn s a bs) := by
  refine hl.step (k := 0x10061b900f000008201a) ?_ hμ
  clear hl hμ
  unfold State.hbmPutIn
  try dsimp only
  repeat' first
    | with_reducible assumption
    | with_reducible exact Leaves.refl _ _
    | decide
    | with_reducible apply State.hbmStore_leaves
    | with_reducible apply State.wakeHbm_leaves
    | with_reducible apply Leaves.upd_hbmHeld
    | with_reducible apply Leaves.ite
    | dsimp only

theorem State.hbmWrite_leaves {μ : Nat} {s₀ : State} {s : State} (hl : Leaves μ s₀ s) (hμ : 0x10061b900f000008201b ||| μ = μ) (a : Nat) (bs : List Byte) :
    Leaves μ s₀ (State.hbmWrite s a bs) := by
  refine hl.step (k := 0x10061b900f000008201b) ?_ hμ
  clear hl hμ
  unfold State.hbmWrite
  try dsimp only
  repeat' first
    | with_reducible assumption
    | with_reducible exact Leaves.refl _ _
    | decide
    | with_reducible apply State.accessErr_leaves
    | with_reducible apply State.hbmPutIn_leaves
    | with_reducible apply Leaves.ite
    | dsimp only

theorem State.hostWrite_leaves {μ : Nat} {s₀ : State} {s : State} (hl : Leaves μ s₀ s) (hμ : 0x10000080000000000000 ||| μ = μ) (a : Nat) (bs : List Byte) :
    Leaves μ s₀ (State.hostWrite s a bs) := by
  refine hl.step (k := 0x10000080000000000000) ?_ hμ
  clear hl hμ
  unfold State.hostWrite
  try dsimp only
  repeat' first
    | with_reducible assumption
    | with_reducible exact Leaves.refl _ _
    | decide
    | with_reducible apply State.post_leaves
    | dsimp only

theorem State.sendPosted_leaves {μ : Nat} {s₀ : State} {s : State} (hl : Leaves μ s₀ s) (hμ : 0x10000080000000000000 ||| μ = μ)  :
    Leaves μ s₀ (State.sendPosted s) := by
  refine hl.step (k := 0x10000080000000000000) ?_ hμ
  clear hl hμ
  unfold State.sendPosted
  try dsimp only
  repeat' first
    | with_reducible assumption
    | with_reducible exact Leaves.refl _ _
    | decide
    | with_reducible apply State.emit_leaves
    | with_reducible apply Leaves.upd_pcie
    | with_reducible refine Leaves.forEach (fun _ _ _ => ?_) ?_
    | with_reducible refine Leaves.forEachFst (fun _ _ _ => ?_) ?_
    | dsimp only

theorem State.aerLogged_leaves {μ : Nat} {s₀ : State} {s : State} (hl : Leaves μ s₀ s) (hμ : 0x80000000000000 ||| μ = μ) (x : AerErr) :
    Leaves μ s₀ (State.aerLogged s x) := by
  refine hl.step (k := 0x80000000000000) ?_ hμ
  clear hl hμ
  unfold State.aerLogged
  try dsimp only
  repeat' first
    | with_reducible assumption
    | with_reducible exact Leaves.refl _ _
    | decide
    | with_reducible apply Leaves.upd_pcie
    | dsimp only

theorem State.aerUncor_leaves {μ : Nat} {s₀ : State} {s : State} (hl : Leaves μ s₀ s) (hμ : 0x10001990080000102010 ||| μ = μ) (x : AerErr) :
    Leaves μ s₀ (State.aerUncor s x) := by
  refine hl.step (k := 0x10001990080000102010) ?_ hμ
  clear hl hμ
  unfold State.aerUncor
  try dsimp only
  repeat' first
    | with_reducible assumption
    | with_reducible exact Leaves.refl _ _
    | decide
    | with_reducible apply Part.bit (F.PCI_UNCOR_CNT_COUNT_part ..)
    | with_reducible apply Leaves.bump
    | with_reducible apply State.aerLogged_leaves
    | with_reducible apply State.raise_leaves
    | dsimp only

theorem State.aerCor_leaves {μ : Nat} {s₀ : State} {s : State} (hl : Leaves μ s₀ s) (hμ : 0x10001990080000102010 ||| μ = μ) (x : AerErr) :
    Leaves μ s₀ (State.aerCor s x) := by
  refine hl.step (k := 0x10001990080000102010) ?_ hμ
  clear hl hμ
  unfold State.aerCor
  try dsimp only
  repeat' first
    | with_reducible assumption
    | with_reducible exact Leaves.refl _ _
    | decide
    | with_reducible apply Part.bit (F.PCI_COR_CNT_COUNT_part ..)
    | with_reducible apply Leaves.bump
    | with_reducible apply State.aerLogged_leaves
    | with_reducible apply State.raise_leaves
    | dsimp only

theorem State.unsupported_leaves {μ : Nat} {s₀ : State} {s : State} (hl : Leaves μ s₀ s) (hμ : 0x10001990080000102010 ||| μ = μ) (posted : Bool) :
    Leaves μ s₀ (State.unsupported s posted) := by
  refine hl.step (k := 0x10001990080000102010) ?_ hμ
  clear hl hμ
  unfold State.unsupported
  try dsimp only
  repeat' first
    | with_reducible assumption
    | with_reducible exact Leaves.refl _ _
    | decide
    | with_reducible apply State.aerUncor_leaves
    | with_reducible apply State.emit_leaves
    | with_reducible apply Leaves.ite
    | dsimp only

theorem State.dropTlp_leaves {μ : Nat} {s₀ : State} {s : State} (hl : Leaves μ s₀ s) (hμ : 0x10001990080000102010 ||| μ = μ) (t : Tlp) (write : Bool) :
    Leaves μ s₀ (State.dropTlp s t write) := by
  refine hl.step (k := 0x10001990080000102010) ?_ hμ
  clear hl hμ
  unfold State.dropTlp
  try dsimp only
  repeat' first
    | with_reducible assumption
    | with_reducible exact Leaves.refl _ _
    | decide
    | with_reducible apply State.aerUncor_leaves
    | split
    | dsimp only

theorem State.gobDrop_leaves {μ : Nat} {s₀ : State} {s : State} (hl : Leaves μ s₀ s) (hμ : 0x4000 ||| μ = μ) (t : Nat) :
    Leaves μ s₀ (State.gobDrop s t) := by
  refine hl.step (k := 0x4000) ?_ hμ
  clear hl hμ
  unfold State.gobDrop
  try dsimp only
  repeat' first
    | with_reducible assumption
    | with_reducible exact Leaves.refl _ _
    | decide
    | with_reducible apply Part.bit (F.MPU_GOB_DROP_CNT_COUNT_part ..)
    | with_reducible apply Part.bit (F.MPU_GOB_STAT_DROP_part ..)
    | with_reducible apply Leaves.bump
    | with_reducible apply Leaves.wr
    | dsimp only

theorem State.gobData_leaves {μ : Nat} {s₀ : State} {s : State} (hl : Leaves μ s₀ s) (hμ : 0x100004000 ||| μ = μ) (t off : Nat) (bs : List Byte) :
    Leaves μ s₀ (State.gobData s t off bs) := by
  refine hl.step (k := 0x100004000) ?_ hμ
  clear hl hμ
  unfold State.gobData
  try dsimp only
  repeat' first
    | with_reducible assumption
    | with_reducible exact Leaves.refl _ _
    | decide
    | with_reducible apply State.gobDrop_leaves
    | with_reducible apply Leaves.upd_gobIn
    | exact fun h => Tab.wf_set _ _ _ h
    | exact fun h => Bytes.wf_write _ _ h
    | exact fun h => Bytes.wf_set _ _ h
    | exact fun h => bufSet_wf _ _ h
    | exact fun h => Tab.wf_clear _ _ _ h
    | exact fun h => Tab.wf_filter _ _ h
    | with_reducible apply Leaves.ite
    | dsimp only

theorem State.gobClose_leaves {μ : Nat} {s₀ : State} {s : State} (hl : Leaves μ s₀ s) (hμ : 0x100004000 ||| μ = μ) (t hdr : Nat) :
    Leaves μ s₀ (State.gobClose s t hdr) := by
  refine hl.step (k := 0x100004000) ?_ hμ
  clear hl hμ
  unfold State.gobClose
  try dsimp only
  repeat' first
    | with_reducible assumption
    | with_reducible exact Leaves.refl _ _
    | decide
    | with_reducible apply Part.bit (F.MPU_GOB_STAT_FILL_CLOSED_part ..)
    | with_reducible apply Leaves.wr
    | with_reducible apply State.gobDrop_leaves
    | with_reducible apply Leaves.upd_gobIn
    | exact fun h => Tab.wf_set _ _ _ h
    | exact fun h => Bytes.wf_write _ _ h
    | exact fun h => Bytes.wf_set _ _ h
    | exact fun h => bufSet_wf _ _ h
    | exact fun h => Tab.wf_clear _ _ _ h
    | exact fun h => Tab.wf_filter _ _ h
    | with_reducible apply Leaves.ite
    | dsimp only

theorem State.gobApply_leaves {μ : Nat} {s₀ : State} {s : State} (hl : Leaves μ s₀ s) (hμ : 0x100004000 ||| μ = μ) (t : Nat) (ρ : GobWrite) :
    Leaves μ s₀ (State.gobApply s t ρ) := by
  refine hl.step (k := 0x100004000) ?_ hμ
  clear hl hμ
  unfold State.gobApply
  try dsimp only
  repeat' first
      | with_reducible assumption
      | with_reducible exact Leaves.refl _ _
      | decide
      | with_reducible apply State.gobClose_leaves
      | with_reducible apply State.gobData_leaves
      | dsimp only
      | split

theorem State.applyWaiting_leaves {μ : Nat} {s₀ : State} {s : State} (hl : Leaves μ s₀ s) (hμ : 0x2100004000 ||| μ = μ) (t : Nat) :
    Leaves μ s₀ (State.applyWaiting s t) := by
  refine hl.step (k := 0x2100004000) ?_ hμ
  clear hl hμ
  unfold State.applyWaiting
  try dsimp only
  repeat' first
    | with_reducible assumption
    | with_reducible exact Leaves.refl _ _
    | decide
    | with_reducible apply State.gobApply_leaves
    | with_reducible apply State.setTile_leaves
    | with_reducible refine Leaves.forEach (fun _ _ _ => ?_) ?_
    | with_reducible refine Leaves.forEachFst (fun _ _ _ => ?_) ?_
    | dsimp only

theorem State.gobArrive_leaves {μ : Nat} {s₀ : State} {s : State} (hl : Leaves μ s₀ s) (hμ : 0x10041990082100006012 ||| μ = μ) (t : Nat) (w : GobWrite) :
    Leaves μ s₀ (State.gobArrive s t w) := by
  refine hl.step (k := 0x10041990082100006012) ?_ hμ
  clear hl hμ
  unfold State.gobArrive
  try dsimp only
  repeat' first
    | with_reducible assumption
    | with_reducible exact Leaves.refl _ _
    | decide
    | with_reducible apply State.gobApply_leaves
    | with_reducible apply State.knock_leaves
    | with_reducible apply State.setTile_leaves
    | with_reducible apply Leaves.ite
    | dsimp only

theorem State.gobInWrite_leaves {μ : Nat} {s₀ : State} {s : State} (hl : Leaves μ s₀ s) (hμ : 0x10041990082100006012 ||| μ = μ) (t off : Nat) (bs : List Byte) :
    Leaves μ s₀ (State.gobInWrite s t off bs) := by
  refine hl.step (k := 0x10041990082100006012) ?_ hμ
  clear hl hμ
  unfold State.gobInWrite
  try dsimp only
  repeat' first
    | with_reducible assumption
    | with_reducible exact Leaves.refl _ _
    | decide
    | with_reducible apply State.gobArrive_leaves
    | dsimp only

theorem State.gobInCloseAt_leaves {μ : Nat} {s₀ : State} {s : State} (hl : Leaves μ s₀ s) (hμ : 0x10041990082100006012 ||| μ = μ) (t hdr : Nat) :
    Leaves μ s₀ (State.gobInCloseAt s t hdr) := by
  refine hl.step (k := 0x10041990082100006012) ?_ hμ
  clear hl hμ
  unfold State.gobInCloseAt
  try dsimp only
  repeat' first
    | with_reducible assumption
    | with_reducible exact Leaves.refl _ _
    | decide
    | with_reducible apply State.gobArrive_leaves
    | dsimp only

theorem answer_next {a t : State} (h : (.next a : Answer) = .next t) : a = t := by injection h

theorem act_leaves {m : Nat} {s t : State} {f : State → State} (h : act s f = .next t) (hf : Leaves m s (f s)) :
    Leaves m s t := answer_next h ▸ State.endClock_leaves (.ite hf (.refl _ _))

theorem actLehr_leaves {m : Nat} {s t : State} {f : State → State} (h : actLehr s f = .next t)
    (hf : Leaves m s (f s)) : Leaves m s t := answer_next h ▸ State.endClock_leaves (.ite hf (.refl _ _))

/-- A command of the PCIe endpoint touches no more of the device while it is in reset. -/
theorem actPcie_leaves {m : Nat} {s t : State} {f : State → State} (h : actPcie s f = .next t)
    (hf : Leaves m s (f s)) : Leaves m s t :=
  answer_next h ▸ State.endClock_leaves (.ite hf (.ite (State.pcieOnly_leaves hf) (.refl _ _)))

end Sys2Proof.Machine
end

