-- ==== Sys2Proof/Laws/Array.lean ====
section
/-!
SUPPORT. What each operation of Machine/Array.lean leaves alone.
-/

set_option linter.all false

namespace Sys2Proof.Machine

theorem State.dmSet_leaves {μ : Nat} {s₀ : State} {s : State} (hl : Leaves μ s₀ s) (hμ : 0x30000000 ||| μ = μ) (t q loc : Nat) (v : Bool) :
    Leaves μ s₀ (State.dmSet s t q loc v) := by
  refine hl.step (k := 0x30000000) ?_ hμ
  clear hl hμ
  unfold State.dmSet
  try dsimp only
  repeat' first
    | with_reducible assumption
    | with_reducible exact Leaves.refl _ _
    | decide
    | with_reducible apply Leaves.upd_dm
    | exact fun h => Tab.wf_set _ _ _ h
    | exact fun h => Bytes.wf_write _ _ h
    | exact fun h => Bytes.wf_set _ _ h
    | exact fun h => bufSet_wf _ _ h
    | exact fun h => Tab.wf_clear _ _ _ h
    | exact fun h => Tab.wf_filter _ _ h
    | with_reducible apply Leaves.upd_dmBad
    | dsimp only

theorem State.result_leaves {μ : Nat} {s₀ : State} {s : State} (hl : Leaves μ s₀ s) (hμ : 0x70000000 ||| μ = μ) (t q k st : Nat) (repl : Bool) (v : Bool) :
    Leaves μ s₀ (State.result s t q k st repl v) := by
  refine hl.step (k := 0x70000000) ?_ hμ
  clear hl hμ
  unfold State.result
  try dsimp only
  repeat' first
    | with_reducible assumption
    | with_reducible exact Leaves.refl _ _
    | decide
    | with_reducible apply State.dmSet_leaves
    | with_reducible apply Leaves.upd_results
    | exact fun h => Tab.wf_set _ _ _ h
    | exact fun h => Bytes.wf_write _ _ h
    | exact fun h => Bytes.wf_set _ _ h
    | exact fun h => bufSet_wf _ _ h
    | exact fun h => Tab.wf_clear _ _ _ h
    | exact fun h => Tab.wf_filter _ _ h
    | with_reducible apply Leaves.ite
    | dsimp only

theorem State.capPut_leaves {μ : Nat} {s₀ : State} {s : State} (hl : Leaves μ s₀ s) (hμ : 0x400000 ||| μ = μ) (t w : Nat) (l : List Nat) :
    Leaves μ s₀ (State.capPut s t w l) := by
  refine hl.step (k := 0x400000) ?_ hμ
  clear hl hμ
  unfold State.capPut
  try dsimp only
  repeat' first
    | with_reducible assumption
    | with_reducible exact Leaves.refl _ _
    | decide
    | (with_reducible apply Part.bit (p := .windowRegs) <;> first | decide | exact regPart_windowRegs (by omega))
    | with_reducible apply Leaves.setReg
    | exact Mask.bit (regPart_bit _) (by decide)
    | with_reducible refine Leaves.forEach (fun _ _ _ => ?_) ?_
    | with_reducible refine Leaves.forEachFst (fun _ _ _ => ?_) ?_
    | dsimp only

theorem State.append_leaves {μ : Nat} {s₀ : State} {s : State} (hl : Leaves μ s₀ s) (hμ : 0x2000404000 ||| μ = μ) (t k st u lane : Nat) (v : Bool) :
    Leaves μ s₀ (State.append s t k st u lane v) := by
  refine hl.step (k := 0x2000404000) ?_ hμ
  clear hl hμ
  unfold State.append
  try dsimp only
  repeat' first
    | with_reducible assumption
    | with_reducible exact Leaves.refl _ _
    | decide
    | with_reducible apply Part.bit (F.MPU_CAP_DROP_COUNT_part ..)
    | with_reducible apply Part.bit (F.MPU_CAP_STAT_WR_PTR_part ..)
    | with_reducible apply Part.bit (F.MPU_CAP_STAT_WRAPPED_part ..)
    | with_reducible apply Part.bit (F.MPU_CAP_STAT_FULL_part ..)
    | with_reducible apply Leaves.bump
    | with_reducible apply Leaves.wr
    | with_reducible apply State.capPut_leaves
    | with_reducible apply State.setTile_leaves
    | with_reducible apply Leaves.ite
    | dsimp only

theorem State.capture_leaves {μ : Nat} {s₀ : State} {s : State} (hl : Leaves μ s₀ s) (hμ : 0x2000404000 ||| μ = μ) (t k st u q w : Nat) (repl : Bool) (v : Bool) :
    Leaves μ s₀ (State.capture s t k st u q w repl v) := by
  refine hl.step (k := 0x2000404000) ?_ hμ
  clear hl hμ
  unfold State.capture
  try dsimp only
  repeat' first
    | with_reducible assumption
    | with_reducible exact Leaves.refl _ _
    | decide
    | with_reducible apply State.append_leaves
    | with_reducible apply Leaves.ite
    | dsimp only

theorem State.stampBit_leaves {μ : Nat} {s₀ : State} {s : State} (hl : Leaves μ s₀ s) (hμ : 0x80000000 ||| μ = μ) (t mark k : Nat) (old v : Bool) (put : Bool → State → State) (hput : ∀ a0 u, Leaves μ s₀ u → Leaves μ s₀ (put a0 u)) :
    Leaves μ s₀ (State.stampBit s t mark k old v put) := by
  unfold State.stampBit
  try dsimp only
  repeat' first
    | with_reducible apply hput
    | with_reducible exact Mask.trans (by decide) hμ
    | with_reducible exact Mask.bit (by decide) hμ
    | with_reducible assumption
    | with_reducible exact Leaves.refl _ _
    | decide
    | with_reducible apply Leaves.upd_stamps
    | exact fun h => Tab.wf_set _ _ _ h
    | exact fun h => Bytes.wf_write _ _ h
    | exact fun h => Bytes.wf_set _ _ h
    | exact fun h => bufSet_wf _ _ h
    | exact fun h => Tab.wf_clear _ _ _ h
    | exact fun h => Tab.wf_filter _ _ h
    | with_reducible apply Leaves.ite
    | dsimp only

theorem State.spoilRow_leaves {μ : Nat} {s₀ : State} {s : State} (hl : Leaves μ s₀ s) (hμ : 0x8000000 ||| μ = μ) (t r : Nat) :
    Leaves μ s₀ (State.spoilRow s t r) := by
  refine hl.step (k := 0x8000000) ?_ hμ
  clear hl hμ
  unfold State.spoilRow
  try dsimp only
  repeat' first
    | with_reducible assumption
    | with_reducible exact Leaves.refl _ _
    | decide
    | with_reducible apply Leaves.upd_routes
    | exact fun h => Tab.wf_set _ _ _ h
    | exact fun h => Bytes.wf_write _ _ h
    | exact fun h => Bytes.wf_set _ _ h
    | exact fun h => bufSet_wf _ _ h
    | exact fun h => Tab.wf_clear _ _ _ h
    | exact fun h => Tab.wf_filter _ _ h
    | with_reducible apply Leaves.ite
    | dsimp only

theorem State.rowFails_leaves {μ : Nat} {s₀ : State} {s : State} (hl : Leaves μ s₀ s) (hμ : 0x110619d008e00810701a ||| μ = μ) (n t r : Nat) :
    Leaves μ s₀ (State.rowFails s n t r) := by
  refine hl.step (k := 0x110619d008e00810701a) ?_ hμ
  clear hl hμ
  unfold State.rowFails
  try dsimp only
  repeat' first
    | with_reducible assumption
    | with_reducible exact Leaves.refl _ _
    | decide
    | with_reducible apply Part.bit (F.MPU_RT_ERR_CNT_COUNT_part ..)
    | (with_reducible apply Part.bit (p := .mpuRegs) <;> first | decide | exact regPart_mpuRegs (by omega) (by omega))
    | with_reducible apply Leaves.bump
    | with_reducible apply Leaves.setReg
    | with_reducible apply State.fault2_leaves
    | with_reducible apply State.raise_leaves
    | with_reducible apply State.setTile_leaves
    | with_reducible apply State.spoilRow_leaves
    | exact Mask.bit (regPart_bit _) (by decide)
    | with_reducible apply Leaves.ite
    | dsimp only

theorem State.sweepRows_leaves {μ : Nat} {s₀ : State} {s : State} (hl : Leaves μ s₀ s) (hμ : 0x110619d008e00810701a ||| μ = μ) (n : Nat) :
    Leaves μ s₀ (State.sweepRows s n) := by
  refine hl.step (k := 0x110619d008e00810701a) ?_ hμ
  clear hl hμ
  unfold State.sweepRows
  try dsimp only
  repeat' first
    | with_reducible assumption
    | with_reducible exact Leaves.refl _ _
    | decide
    | with_reducible apply State.rowFails_leaves
    | with_reducible refine Leaves.forEach (fun _ _ _ => ?_) ?_
    | with_reducible refine Leaves.forEachFst (fun _ _ _ => ?_) ?_
    | dsimp only

theorem State.dmFails_leaves {μ : Nat} {s₀ : State} {s : State} (hl : Leaves μ s₀ s) (hμ : 0x110619d008e00010701a ||| μ = μ) (n t p : Nat) (repl : Bool) (q loc : Nat) :
    Leaves μ s₀ (State.dmFails s n t p repl q loc) := by
  refine hl.step (k := 0x110619d008e00010701a) ?_ hμ
  clear hl hμ
  unfold State.dmFails
  try dsimp only
  repeat' first
    | with_reducible assumption
    | with_reducible exact Leaves.refl _ _
    | decide
    | with_reducible apply State.fault2_leaves
    | with_reducible apply State.raise_leaves
    | with_reducible apply State.setTile_leaves
    | with_reducible apply Leaves.ite
    | dsimp only

theorem State.dmUpset_leaves {μ : Nat} {s₀ : State} {s : State} (hl : Leaves μ s₀ s) (hμ : 0x20000000 ||| μ = μ) (t p w : Nat) (repl : Bool) (b : Option DmBad) :
    Leaves μ s₀ (State.dmUpset s t p w repl b) := by
  refine hl.step (k := 0x20000000) ?_ hμ
  clear hl hμ
  unfold State.dmUpset
  try dsimp only
  repeat' first
    | with_reducible assumption
    | with_reducible exact Leaves.refl _ _
    | decide
    | with_reducible apply Leaves.upd_dmBad
    | exact fun h => Tab.wf_set _ _ _ h
    | exact fun h => Bytes.wf_write _ _ h
    | exact fun h => Bytes.wf_set _ _ h
    | exact fun h => bufSet_wf _ _ h
    | exact fun h => Tab.wf_clear _ _ _ h
    | exact fun h => Tab.wf_filter _ _ h
    | with_reducible apply Leaves.ite
    | split
    | dsimp only

theorem State.atStep_leaves {μ : Nat} {s₀ : State} {s : State} (hl : Leaves μ s₀ s) (hμ : 0x0 ||| μ = μ) (t p k kind : Nat) (f : Nat → Bool → Nat → Nat → State → State) (hf : ∀ a0 a1 a2 a3 u, Leaves μ s₀ u → Leaves μ s₀ (f a0 a1 a2 a3 u)) :
    Leaves μ s₀ (State.atStep s t p k kind f) := by
  unfold State.atStep
  try dsimp only
  repeat' first
    | with_reducible apply hf
    | with_reducible exact Mask.trans (by decide) hμ
    | with_reducible exact Mask.bit (by decide) hμ
    | with_reducible assumption
    | with_reducible exact Leaves.refl _ _
    | decide
    | with_reducible apply Leaves.ite
    | split
    | dsimp only

theorem State.readFaults_leaves {μ : Nat} {s₀ : State} {s : State} (hl : Leaves μ s₀ s) (hμ : 0x110619d008e02810701a ||| μ = μ) (n t p w : Nat) (repl : Bool) (dmBad : Option DmBad) (rowBad : Option (Fin 16384)) :
    Leaves μ s₀ (State.readFaults s n t p w repl dmBad rowBad) := by
  refine hl.step (k := 0x110619d008e02810701a) ?_ hμ
  clear hl hμ
  unfold State.readFaults
  try dsimp only
  repeat' first
    | with_reducible assumption
    | with_reducible exact Leaves.refl _ _
    | decide
    | with_reducible apply State.dmFails_leaves
    | with_reducible apply State.dmUpset_leaves
    | with_reducible apply State.rowFails_leaves
    | with_reducible apply Leaves.ite
    | with_reducible apply Leaves.iteFst
    | with_reducible refine Leaves.forEach (fun _ _ _ => ?_) ?_
    | with_reducible refine Leaves.forEachFst (fun _ _ _ => ?_) ?_
    | split
    | dsimp only

theorem State.brkHit_leaves {μ : Nat} {s₀ : State} {s : State} (hl : Leaves μ s₀ s) (hμ : 0x6000004000 ||| μ = μ) (n t k st u q : Nat) (repl : Bool) :
    Leaves μ s₀ (State.brkHit s n t k st u q repl) := by
  refine hl.step (k := 0x6000004000) ?_ hμ
  clear hl hμ
  unfold State.brkHit
  try dsimp only
  repeat' first
    | with_reducible assumption
    | with_reducible exact Leaves.refl _ _
    | decide
    | with_reducible apply Part.bit (F.MPU_BRK_CNT_COUNT_part ..)
    | (with_reducible apply Part.bit (p := .mpuRegs) <;> first | decide | exact regPart_mpuRegs (by omega) (by omega))
    | with_reducible apply Leaves.bump
    | with_reducible apply Leaves.setReg
    | with_reducible apply State.setGaf_leaves
    | with_reducible apply State.setTile_leaves
    | exact Mask.bit (regPart_bit _) (by decide)
    | with_reducible apply Leaves.ite
    | with_reducible apply Leaves.iteFst
    | dsimp only

theorem execStepNop_leaves {s s' : State} (t : Fin 128) (p : Fin 1024) (k : Fin 16384) (h : execStepNop t p k s = .next s') : Leaves 0x0 s s' := by
  unfold execStepNop at h
  refine act_leaves h ?_
  try dsimp only
  clear h
  repeat' first
    | with_reducible apply State.endClock_leaves
    | with_reducible assumption
    | with_reducible exact Leaves.refl _ _
    | decide
    | with_reducible apply State.atStep_leaves
    | intro _
    | dsimp only

theorem execEval_leaves {s s' : State} (t : Fin 128) (p : Fin 1024) (k : Fin 16384) (dmBad : Option DmBad) (rowBad : Option (Fin 16384)) (h : execEval t p k dmBad rowBad s = .next s') : Leaves 0x110619d008e07850701a s s' := by
  unfold execEval at h
  refine act_leaves h ?_
  try dsimp only
  clear h
  repeat' first
    | with_reducible apply State.endClock_leaves
    | with_reducible assumption
    | with_reducible exact Leaves.refl _ _
    | decide
    | with_reducible apply State.atStep_leaves
    | intro _
    | with_reducible apply State.capture_leaves
    | with_reducible apply State.readFaults_leaves
    | with_reducible apply State.result_leaves
    | with_reducible refine Leaves.forEach (fun _ _ _ => ?_) ?_
    | with_reducible refine Leaves.forEachFst (fun _ _ _ => ?_) ?_
    | dsimp only

theorem execEvalEn_leaves {s s' : State} (t : Fin 128) (p : Fin 1024) (k : Fin 16384) (dmBad : Option DmBad) (rowBad : Option (Fin 16384)) (h : execEvalEn t p k dmBad rowBad s = .next s') : Leaves 0x110619d008e07850701a s s' := by
  unfold execEvalEn at h
  refine act_leaves h ?_
  try dsimp only
  clear h
  repeat' first
    | with_reducible apply State.endClock_leaves
    | with_reducible assumption
    | with_reducible exact Leaves.refl _ _
    | decide
    | with_reducible apply State.atStep_leaves
    | intro _
    | with_reducible apply State.capture_leaves
    | with_reducible apply State.readFaults_leaves
    | with_reducible apply State.result_leaves
    | with_reducible apply Leaves.ite
    | with_reducible refine Leaves.forEach (fun _ _ _ => ?_) ?_
    | with_reducible refine Leaves.forEachFst (fun _ _ _ => ?_) ?_
    | dsimp only

theorem execStepIn_leaves {s s' : State} (t : Fin 128) (p : Fin 1024) (k : Fin 16384) (h : execStepIn t p k s = .next s') : Leaves 0x2070404000 s s' := by
  unfold execStepIn at h
  refine act_leaves h ?_
  try dsimp only
  clear h
  repeat' first
    | with_reducible apply State.endClock_leaves
    | with_reducible assumption
    | with_reducible exact Leaves.refl _ _
    | decide
    | with_reducible apply State.atStep_leaves
    | intro _
    | with_reducible apply State.capture_leaves
    | with_reducible apply State.result_leaves
    | with_reducible refine Leaves.forEach (fun _ _ _ => ?_) ?_
    | with_reducible refine Leaves.forEachFst (fun _ _ _ => ?_) ?_
    | dsimp only

theorem execStepOut_leaves {s s' : State} (t : Fin 128) (p : Fin 1024) (k : Fin 16384) (dmBad : Option DmBad) (rowBad : Option (Fin 16384)) (h : execStepOut t p k dmBad rowBad s = .next s') : Leaves 0x110619d008e2a850701a s s' := by
  unfold execStepOut at h
  refine act_leaves h ?_
  try dsimp only
  clear h
  repeat' first
    | with_reducible apply State.endClock_leaves
    | with_reducible assumption
    | with_reducible exact Leaves.refl _ _
    | decide
    | with_reducible apply State.atStep_leaves
    | intro _
    | with_reducible apply State.capture_leaves
    | with_reducible apply State.readFaults_leaves
    | with_reducible apply State.stampBit_leaves
    | with_reducible apply Leaves.upd_gobOut
    | exact fun h => Tab.wf_set _ _ _ h
    | exact Tab.wf_set _ _ _ (by assumption)
    | exact fun h => Bytes.wf_write _ _ h
    | exact Bytes.wf_write _ _ (by assumption)
    | exact fun h => Bytes.wf_set _ _ h
    | exact Bytes.wf_set _ _ (by assumption)
    | exact fun h => bufSet_wf _ _ h
    | exact bufSet_wf _ _ (by assumption)
    | exact fun h => Tab.wf_clear _ _ _ h
    | exact Tab.wf_clear _ _ _ (by assumption)
    | exact fun h => Tab.wf_filter _ _ h
    | exact Tab.wf_filter _ _ (by assumption)
    | with_reducible refine Leaves.forEach (fun _ _ _ => ?_) ?_
    | with_reducible refine Leaves.forEachFst (fun _ _ _ => ?_) ?_
    | dsimp only

theorem execMreq_leaves {s s' : State} (t : Fin 128) (p : Fin 1024) (k : Fin 16384) (dmBad : Option DmBad) (rowBad : Option (Fin 16384)) (h : execMreq t p k dmBad rowBad s = .next s') : Leaves 0x110619d008e4a850701a s s' := by
  unfold execMreq at h
  refine act_leaves h ?_
  try dsimp only
  clear h
  repeat' first
    | with_reducible apply State.endClock_leaves
    | with_reducible assumption
    | with_reducible exact Leaves.refl _ _
    | decide
    | with_reducible apply State.atStep_leaves
    | intro _
    | with_reducible apply State.capture_leaves
    | with_reducible apply State.readFaults_leaves
    | with_reducible apply State.stampBit_leaves
    | with_reducible apply Leaves.upd_reqArea
    | exact fun h => Tab.wf_set _ _ _ h
    | exact Tab.wf_set _ _ _ (by assumption)
    | exact fun h => Bytes.wf_write _ _ h
    | exact Bytes.wf_write _ _ (by assumption)
    | exact fun h => Bytes.wf_set _ _ h
    | exact Bytes.wf_set _ _ (by assumption)
    | exact fun h => bufSet_wf _ _ h
    | exact bufSet_wf _ _ (by assumption)
    | exact fun h => Tab.wf_clear _ _ _ h
    | exact Tab.wf_clear _ _ _ (by assumption)
    | exact fun h => Tab.wf_filter _ _ h
    | exact Tab.wf_filter _ _ (by assumption)
    | with_reducible refine Leaves.forEach (fun _ _ _ => ?_) ?_
    | with_reducible refine Leaves.forEachFst (fun _ _ _ => ?_) ?_
    | dsimp only

theorem execMdata_leaves {s s' : State} (t : Fin 128) (p : Fin 1024) (k : Fin 16384) (h : execMdata t p k s = .next s') : Leaves 0x2070404000 s s' := by
  unfold execMdata at h
  refine act_leaves h ?_
  try dsimp only
  clear h
  repeat' first
    | with_reducible apply State.endClock_leaves
    | with_reducible assumption
    | with_reducible exact Leaves.refl _ _
    | decide
    | with_reducible apply State.atStep_leaves
    | intro _
    | with_reducible apply State.capture_leaves
    | with_reducible apply State.result_leaves
    | with_reducible refine Leaves.forEach (fun _ _ _ => ?_) ?_
    | with_reducible refine Leaves.forEachFst (fun _ _ _ => ?_) ?_
    | dsimp only

theorem execBrk_leaves {s s' : State} (t : Fin 128) (p : Fin 1024) (k : Fin 16384) (dmBad : Option DmBad) (rowBad : Option (Fin 16384)) (h : execBrk t p k dmBad rowBad s = .next s') : Leaves 0x110619d008e07850701a s s' := by
  unfold execBrk at h
  refine act_leaves h ?_
  try dsimp only
  clear h
  repeat' first
    | with_reducible apply State.endClock_leaves
    | with_reducible assumption
    | with_reducible exact Leaves.refl _ _
    | decide
    | with_reducible apply State.atStep_leaves
    | intro _
    | with_reducible apply State.brkHit_leaves
    | with_reducible apply State.capture_leaves
    | with_reducible apply State.readFaults_leaves
    | with_reducible apply State.result_leaves
    | with_reducible apply Leaves.ite
    | with_reducible refine Leaves.forEach (fun _ _ _ => ?_) ?_
    | with_reducible refine Leaves.forEachFst (fun _ _ _ => ?_) ?_
    | dsimp only

theorem execInvalidStepWord_leaves {s s' : State} (t : Fin 128) (p : Fin 1024) (k : Fin 16384) (w : BitVec 80) (h : execInvalidStepWord t p k w s = .next s') : Leaves 0x10021990080004006018 s s' := by
  unfold execInvalidStepWord at h
  refine act_leaves h ?_
  try dsimp only
  clear h
  repeat' first
    | with_reducible apply State.endClock_leaves
    | with_reducible assumption
    | with_reducible exact Leaves.refl _ _
    | decide
    | with_reducible apply Part.bit (F.MPU_STEP_ERR_CNT_COUNT_part ..)
    | (with_reducible apply Part.bit (p := .mpuRegs) <;> first | decide | exact regPart_mpuRegs (by omega) (by omega))
    | with_reducible apply Leaves.bump
    | with_reducible apply Leaves.setReg
    | with_reducible apply State.raise_leaves
    | with_reducible apply State.report_leaves
    | with_reducible apply Leaves.upd_steps
    | exact fun h => Tab.wf_set _ _ _ h
    | exact fun h => Bytes.wf_write _ _ h
    | exact fun h => Bytes.wf_set _ _ h
    | exact fun h => bufSet_wf _ _ h
    | exact fun h => Tab.wf_clear _ _ _ h
    | exact fun h => Tab.wf_filter _ _ h
    | exact Mask.bit (regPart_bit _) (by decide)
    | with_reducible apply Leaves.ite
    | split
    | dsimp only

end Sys2Proof.Machine
end

