-- ==== Sys2Proof/Laws/Ether.lean ====
section
/-!
SUPPORT. What each operation of Machine/Ether.lean leaves alone.
-/

set_option linter.all false

namespace Sys2Proof.Machine

theorem State.setEthp_leaves {μ : Nat} {s₀ : State} {s : State} (hl : Leaves μ s₀ s) (hμ : 0x400000000000000 ||| μ = μ) (e : Nat) (x : EthPort) :
    Leaves μ s₀ (State.setEthp s e x) := by
  refine hl.step (k := 0x400000000000000) ?_ hμ
  clear hl hμ
  unfold State.setEthp
  try dsimp only
  repeat' first
    | with_reducible assumption
    | with_reducible exact Leaves.refl _ _
    | decide
    | with_reducible apply Leaves.upd_eth
    | dsimp only

theorem State.ptpWritten_leaves {μ : Nat} {s₀ : State} {s : State} (hl : Leaves μ s₀ s) (hμ : 0x400000000000000 ||| μ = μ) (e v : Nat) :
    Leaves μ s₀ (State.ptpWritten s e v) := by
  refine hl.step (k := 0x400000000000000) ?_ hμ
  clear hl hμ
  unfold State.ptpWritten
  try dsimp only
  repeat' first
    | with_reducible assumption
    | with_reducible exact Leaves.refl _ _
    | decide
    | with_reducible apply State.setEthp_leaves
    | dsimp only

theorem State.showStamp_leaves {μ : Nat} {s₀ : State} {s : State} (hl : Leaves μ s₀ s) (hμ : 0x200000 ||| μ = μ) (e : Nat) :
    Leaves μ s₀ (State.showStamp s e) := by
  refine hl.step (k := 0x200000) ?_ hμ
  clear hl hμ
  unfold State.showStamp
  try dsimp only
  repeat' first
    | with_reducible assumption
    | with_reducible exact Leaves.refl _ _
    | decide
    | (intro i hi; simp only [MbxCmd.entry, FaultRec.logWords, List.length_cons, List.length_nil, List.length_map, upTo, List.length_range] at hi; exact Part.bit (regPart_ethRegs (by omega) (by omega)) (by decide))
    | with_reducible apply Leaves.setWords
    | split
    | dsimp only

theorem State.pushStamp_leaves {μ : Nat} {s₀ : State} {s : State} (hl : Leaves μ s₀ s) (hμ : 0x10001d90080000202010 ||| μ = μ) (e : Nat) (t : TxStamp) :
    Leaves μ s₀ (State.pushStamp s e t) := by
  refine hl.step (k := 0x10001d90080000202010) ?_ hμ
  clear hl hμ
  unfold State.pushStamp
  try dsimp only
  repeat' first
    | with_reducible assumption
    | with_reducible exact Leaves.refl _ _
    | decide
    | with_reducible apply Part.bit (F.ETH_TS_OVF_CNT_COUNT_part ..)
    | with_reducible apply Leaves.bump
    | with_reducible apply State.raise_leaves
    | with_reducible apply State.setEthp_leaves
    | with_reducible apply State.showStamp_leaves
    | with_reducible apply Leaves.ite
    | dsimp only

theorem State.sawStamp_leaves {μ : Nat} {s₀ : State} {s : State} (hl : Leaves μ s₀ s) (hμ : 0x400000000000000 ||| μ = μ) (e i : Nat) :
    Leaves μ s₀ (State.sawStamp s e i) := by
  refine hl.step (k := 0x400000000000000) ?_ hμ
  clear hl hμ
  unfold State.sawStamp
  try dsimp only
  repeat' first
    | with_reducible assumption
    | with_reducible exact Leaves.refl _ _
    | decide
    | with_reducible apply State.setEthp_leaves
    | with_reducible apply Leaves.ite
    | dsimp only

theorem State.popStamp_leaves {μ : Nat} {s₀ : State} {s : State} (hl : Leaves μ s₀ s) (hμ : 0x400000000200000 ||| μ = μ) (e : Nat) :
    Leaves μ s₀ (State.popStamp s e) := by
  refine hl.step (k := 0x400000000200000) ?_ hμ
  clear hl hμ
  unfold State.popStamp
  try dsimp only
  repeat' first
    | with_reducible assumption
    | with_reducible exact Leaves.refl _ _
    | decide
    | with_reducible apply State.setEthp_leaves
    | with_reducible apply State.showStamp_leaves
    | with_reducible apply Leaves.ite
    | dsimp only

theorem State.ethSend_leaves {μ : Nat} {s₀ : State} {s : State} (hl : Leaves μ s₀ s) (hμ : 0x10001d90080000202010 ||| μ = μ) (e addr eng desc : Nat) (bytes : List Byte) :
    Leaves μ s₀ (State.ethSend s e addr eng desc bytes) := by
  refine hl.step (k := 0x10001d90080000202010) ?_ hμ
  clear hl hμ
  unfold State.ethSend
  try dsimp only
  repeat' first
    | with_reducible assumption
    | with_reducible exact Leaves.refl _ _
    | decide
    | with_reducible apply Part.bit (F.ETH_TX_OK_CNT_COUNT_part ..)
    | with_reducible apply Leaves.bump
    | with_reducible apply State.emit_leaves
    | with_reducible apply State.pushStamp_leaves
    | with_reducible apply Leaves.ite
    | with_reducible apply Leaves.iteFst
    | dsimp only

theorem State.ethDrop_leaves {μ : Nat} {s₀ : State} {s : State} (hl : Leaves μ s₀ s) (hμ : 0x10001d90080000202010 ||| μ = μ) (e : Nat) (cnt : Fld)
    (hc : Nat.testBit 0x10001d90080000202010 (regPart cnt.off).ctorIdx = true) : Leaves μ s₀ (State.ethDrop s e cnt) := by
  refine hl.step (k := 0x10001d90080000202010) ?_ hμ
  clear hl hμ
  unfold State.ethDrop
  have h1 : Leaves 0x10001d90080000202010 s ((s.bump cnt).wr (F.ETH_STAT_RX_ERR e) 1) :=
    ((Leaves.refl _ _).bump hc).wr (Part.bit (F.ETH_STAT_RX_ERR_part e) (by decide))
  exact .ite (State.raise_leaves (State.setEthp_leaves h1 (by decide) _ _) (by decide) _) h1

theorem State.rxWrite_leaves {μ : Nat} {s₀ : State} {s : State} (hl : Leaves μ s₀ s) (hμ : 0x10061b900f000008201b ||| μ = μ) (e a : Nat) (bs : List Byte) :
    Leaves μ s₀ (State.rxWrite s e a bs) := by
  refine hl.step (k := 0x10061b900f000008201b) ?_ hμ
  clear hl hμ
  unfold State.rxWrite
  try dsimp only
  repeat' first
    | with_reducible assumption
    | with_reducible exact Leaves.refl _ _
    | decide
    | with_reducible apply State.accessErr_leaves
    | with_reducible apply State.hbmWrite_leaves
    | with_reducible apply State.hostWrite_leaves
    | with_reducible apply Leaves.ite
    | dsimp only

theorem State.ethAccept_leaves {μ : Nat} {s₀ : State} {s : State} (hl : Leaves μ s₀ s) (hμ : 0x10061b900f000028201b ||| μ = μ) (e : Nat) (bytes : List Byte) :
    Leaves μ s₀ (State.ethAccept s e bytes) := by
  refine hl.step (k := 0x10061b900f000028201b) ?_ hμ
  clear hl hμ
  unfold State.ethAccept
  try dsimp only
  repeat' first
    | with_reducible assumption
    | with_reducible exact Leaves.refl _ _
    | decide
    | with_reducible apply Part.bit (F.ETH_RX_HEAD_HEAD_part ..)
    | with_reducible apply Part.bit (F.ETH_RX_OK_CNT_COUNT_part ..)
    | with_reducible apply Leaves.wr
    | with_reducible apply Leaves.bump
    | with_reducible apply State.raise_leaves
    | with_reducible apply State.rxWrite_leaves
    | dsimp only

theorem execEthFrameReceived_leaves {s s' : State} (e : Fin 4) (bytes : List Byte) (h : execEthFrameReceived e bytes s = .next s') : Leaves 0x10061f900f000028201b s s' := by
  unfold execEthFrameReceived at h
  refine act_leaves h ?_
  try dsimp only
  clear h
  repeat' first
    | with_reducible apply State.endClock_leaves
    | with_reducible assumption
    | with_reducible exact Leaves.refl _ _
    | decide
    | with_reducible apply Part.bit (F.ETH_RX_FCS_CNT_COUNT_part ..)
    | with_reducible apply Part.bit (F.ETH_RX_DROP_CNT_COUNT_part ..)
    | with_reducible apply State.ethAccept_leaves
    | with_reducible apply State.ethDrop_leaves
    | with_reducible apply Leaves.ite
    | dsimp only

theorem execEthLinkChange_leaves {s s' : State} (e : Fin 4) (up : Bool) (h : execEthLinkChange e up s = .next s') : Leaves 0x10001990080000202010 s s' := by
  unfold execEthLinkChange at h
  refine act_leaves h ?_
  try dsimp only
  clear h
  repeat' first
    | with_reducible apply State.endClock_leaves
    | with_reducible assumption
    | with_reducible exact Leaves.refl _ _
    | decide
    | with_reducible apply Part.bit (F.ETH_STAT_LINK_part ..)
    | with_reducible apply Leaves.wr
    | with_reducible apply State.raise_leaves
    | with_reducible apply Leaves.ite
    | dsimp only

end Sys2Proof.Machine
end

