-- ==== Sys2Proof/Laws/Noc.lean ====
section
/-!
SUPPORT. What each operation of Machine/Noc.lean leaves alone.
-/

set_option linter.all false

namespace Sys2Proof.Machine

theorem State.requestSwitch_leaves {μ : Nat} {s₀ : State} {s : State} (hl : Leaves μ s₀ s) (hμ : 0x200 ||| μ = μ)  :
    Leaves μ s₀ (State.requestSwitch s) := by
  refine hl.step (k := 0x200) ?_ hμ
  clear hl hμ
  unfold State.requestSwitch
  try dsimp only
  repeat' first
    | with_reducible assumption
    | with_reducible exact Leaves.refl _ _
    | decide
    | with_reducible apply Part.bit (F.NOC_CTRL_SWITCH_part ..)
    | with_reducible apply Part.bit (F.NOC_STAT_SWITCH_PEND_part ..)
    | with_reducible apply Leaves.wr
    | dsimp only

theorem execNocBankSwitch_leaves {s s' : State}  (h : execNocBankSwitch s = .next s') : Leaves 0x10001990080000002210 s s' := by
  unfold execNocBankSwitch at h
  refine act_leaves h ?_
  try dsimp only
  clear h
  repeat' first
    | with_reducible apply State.endClock_leaves
    | with_reducible assumption
    | with_reducible exact Leaves.refl _ _
    | decide
    | with_reducible apply Part.bit (F.NOC_CTRL_SWITCH_part ..)
    | with_reducible apply Part.bit (F.NOC_STAT_SWITCH_PEND_part ..)
    | with_reducible apply Part.bit (F.NOC_STAT_BANK_part ..)
    | with_reducible apply Part.bit (F.NOC_SWITCH_CNT_COUNT_part ..)
    | with_reducible apply Part.bit (F.NOC_STAT_SWITCH_ERR_part ..)
    | with_reducible apply Part.bit (F.NOC_STAT_ERR_CAUSE_part ..)
    | with_reducible apply Leaves.wr
    | with_reducible apply Leaves.bump
    | with_reducible apply State.raise_leaves
    | with_reducible apply Leaves.ite
    | split
    | dsimp only

theorem State.setInQueue_leaves {μ : Nat} {s₀ : State} {s : State} (hl : Leaves μ s₀ s) (hμ : 0x8000000000000 ||| μ = μ) (r p vc cls : Nat) (l : List Flit) :
    Leaves μ s₀ (State.setInQueue s r p vc cls l) := by
  refine hl.step (k := 0x8000000000000) ?_ hμ
  clear hl hμ
  unfold State.setInQueue
  try dsimp only
  repeat' first
    | with_reducible assumption
    | with_reducible exact Leaves.refl _ _
    | decide
    | with_reducible apply Leaves.upd_noc
    | dsimp only

theorem State.injectFrom_leaves {μ : Nat} {s₀ : State} {s : State} (hl : Leaves μ s₀ s) (hμ : 0x8000000000000 ||| μ = μ) (r p cls ep cyc : Nat) :
    Leaves μ s₀ (State.injectFrom s r p cls ep cyc) := by
  refine hl.step (k := 0x8000000000000) ?_ hμ
  clear hl hμ
  unfold State.injectFrom
  try dsimp only
  repeat' first
    | with_reducible assumption
    | with_reducible exact Leaves.refl _ _
    | decide
    | with_reducible apply State.setInQueue_leaves
    | with_reducible apply Leaves.upd_noc
    | with_reducible apply Leaves.ite
    | split
    | dsimp only

theorem State.feed_leaves {μ : Nat} {s₀ : State} {s : State} (hl : Leaves μ s₀ s) (hμ : 0x8000000000000 ||| μ = μ) (r cyc : Nat) :
    Leaves μ s₀ (State.feed s r cyc) := by
  refine hl.step (k := 0x8000000000000) ?_ hμ
  clear hl hμ
  unfold State.feed
  try dsimp only
  repeat' first
    | with_reducible assumption
    | with_reducible exact Leaves.refl _ _
    | decide
    | with_reducible apply State.injectFrom_leaves
    | with_reducible apply Leaves.ite
    | with_reducible refine Leaves.forEach (fun _ _ _ => ?_) ?_
    | with_reducible refine Leaves.forEachFst (fun _ _ _ => ?_) ?_
    | split
    | dsimp only

theorem State.handPackets_leaves {μ : Nat} {s₀ : State} {s : State} (hl : Leaves μ s₀ s) (hμ : 0x8000000000000 ||| μ = μ) (r : Nat) (l : List Packet) :
    Leaves μ s₀ (State.handPackets s r l) := by
  refine hl.step (k := 0x8000000000000) ?_ hμ
  clear hl hμ
  unfold State.handPackets
  try dsimp only
  repeat' first
    | with_reducible assumption
    | with_reducible exact Leaves.refl _ _
    | decide
    | with_reducible apply Leaves.upd_noc
    | with_reducible refine Leaves.forEach (fun _ _ _ => ?_) ?_
    | with_reducible refine Leaves.forEachFst (fun _ _ _ => ?_) ?_
    | dsimp only

theorem State.nocParity_leaves {μ : Nat} {s₀ : State} {s : State} (hl : Leaves μ s₀ s) (hμ : 0x100a3990084000002219 ||| μ = μ) (r : Nat) :
    Leaves μ s₀ (State.nocParity s r) := by
  refine hl.step (k := 0x100a3990084000002219) ?_ hμ
  clear hl hμ
  unfold State.nocParity
  try dsimp only
  repeat' first
    | with_reducible assumption
    | with_reducible exact Leaves.refl _ _
    | decide
    | with_reducible apply Part.bit (F.NOC_STAT_PAR_ERR_part ..)
    | with_reducible apply Part.bit (F.NOC_PAR_CNT_COUNT_part ..)
    | with_reducible apply Leaves.wr
    | with_reducible apply Leaves.bump
    | with_reducible apply State.fault1_leaves
    | with_reducible apply State.raise_leaves
    | dsimp only

theorem State.takeFlit_leaves {μ : Nat} {s₀ : State} {s : State} (hl : Leaves μ s₀ s) (hμ : 0x8000000000000 ||| μ = μ) (r out cyc : Nat) (x : At) :
    Leaves μ s₀ (State.takeFlit s r out cyc x) := by
  refine hl.step (k := 0x8000000000000) ?_ hμ
  clear hl hμ
  unfold State.takeFlit
  try dsimp only
  repeat' first
    | with_reducible assumption
    | with_reducible exact Leaves.refl _ _
    | decide
    | with_reducible apply State.setInQueue_leaves
    | with_reducible apply Leaves.upd_noc
    | with_reducible apply Leaves.ite
    | with_reducible apply Leaves.iteFst
    | dsimp only

theorem State.passOn_leaves {μ : Nat} {s₀ : State} {s : State} (hl : Leaves μ s₀ s) (hμ : 0x8000000000000 ||| μ = μ) (r out cyc vc : Nat) (f : Flit) (side : BitVec 64) :
    Leaves μ s₀ (State.passOn s r out cyc vc f side) := by
  refine hl.step (k := 0x8000000000000) ?_ hμ
  clear hl hμ
  unfold State.passOn
  try dsimp only
  repeat' first
    | with_reducible assumption
    | with_reducible exact Leaves.refl _ _
    | decide
    | with_reducible apply State.setInQueue_leaves
    | with_reducible apply Leaves.ite
    | with_reducible apply Leaves.iteFst
    | dsimp only

theorem State.deliverCopy_leaves {μ : Nat} {s₀ : State} {s : State} (hl : Leaves μ s₀ s) (hμ : 0x10041990082100006012 ||| μ = μ) (r : Nat) (f : Flit) :
    Leaves μ s₀ (State.deliverCopy s r f) := by
  refine hl.step (k := 0x10041990082100006012) ?_ hμ
  clear hl hμ
  unfold State.deliverCopy
  try dsimp only
  repeat' first
    | with_reducible assumption
    | with_reducible exact Leaves.refl _ _
    | decide
    | with_reducible apply State.gobInWrite_leaves
    | with_reducible apply Leaves.ite
    | with_reducible refine Leaves.forEach (fun _ _ _ => ?_) ?_
    | with_reducible refine Leaves.forEachFst (fun _ _ _ => ?_) ?_
    | dsimp only

theorem State.crossOut_leaves {μ : Nat} {s₀ : State} {s : State} (hl : Leaves μ s₀ s) (hμ : 0x100e399808610000621b ||| μ = μ) (r out cyc : Nat) (x : At) (flip : BitVec 64) :
    Leaves μ s₀ (State.crossOut s r out cyc x flip) := by
  refine hl.step (k := 0x100e399808610000621b) ?_ hμ
  clear hl hμ
  unfold State.crossOut
  try dsimp only
  repeat' first
    | with_reducible assumption
    | with_reducible exact Leaves.refl _ _
    | decide
    | with_reducible apply State.deliverCopy_leaves
    | with_reducible apply State.emit_leaves
    | with_reducible apply State.nocParity_leaves
    | with_reducible apply State.passOn_leaves
    | with_reducible apply State.takeFlit_leaves
    | with_reducible apply Leaves.ite
    | with_reducible apply Leaves.iteFst
    | dsimp only

theorem execNocPacket_leaves {s s' : State} (r : Fin 48) (out : Fin 7) (j : Fin 3) (inject : List Packet) (flip : BitVec 64) (h : execNocPacket r out j inject flip s = .next s') : Leaves 0x100e399808610000621b s s' := by
  unfold execNocPacket at h
  refine act_leaves h ?_
  try dsimp only
  clear h
  repeat' first
    | with_reducible apply State.endClock_leaves
    | with_reducible assumption
    | with_reducible exact Leaves.refl _ _
    | decide
    | with_reducible apply State.crossOut_leaves
    | with_reducible apply State.feed_leaves
    | with_reducible apply State.handPackets_leaves
    | with_reducible apply Leaves.ite
    | split
    | dsimp only

end Sys2Proof.Machine
end

