-- ==== Sys2Proof/Laws/MemPorts.lean ====
section
/-!
SUPPORT. What each operation of Machine/MemPorts.lean leaves alone.
-/

set_option linter.all false

namespace Sys2Proof.Machine

theorem State.poisonSlot_leaves {μ : Nat} {s₀ : State} {s : State} (hl : Leaves μ s₀ s) (hμ : 0x2800000000 ||| μ = μ) (t k : Nat) :
    Leaves μ s₀ (State.poisonSlot s t k) := by
  refine hl.step (k := 0x2800000000) ?_ hμ
  clear hl hμ
  unfold State.poisonSlot
  try dsimp only
  repeat' first
    | with_reducible assumption
    | with_reducible exact Leaves.refl _ _
    | decide
    | with_reducible apply State.setTile_leaves
    | with_reducible apply Leaves.upd_retBuf
    | exact fun h => Tab.wf_clear _ _ _ h
    | exact fun h => Tab.wf_set _ _ _ h
    | exact fun h => Bytes.wf_write _ _ h
    | exact fun h => Bytes.wf_set _ _ h
    | exact fun h => bufSet_wf _ _ h
    | exact fun h => Tab.wf_filter _ _ h
    | dsimp only

theorem State.fillSlot_leaves {μ : Nat} {s₀ : State} {s : State} (hl : Leaves μ s₀ s) (hμ : 0x2800000000 ||| μ = μ) (t k : Nat) (bs : List Byte) :
    Leaves μ s₀ (State.fillSlot s t k bs) := by
  refine hl.step (k := 0x2800000000) ?_ hμ
  clear hl hμ
  unfold State.fillSlot
  try dsimp only
  repeat' first
    | with_reducible assumption
    | with_reducible exact Leaves.refl _ _
    | decide
    | with_reducible apply State.setTile_leaves
    | with_reducible apply Leaves.upd_retBuf
    | exact fun h => Tab.wf_set _ _ _ h
    | exact fun h => Bytes.wf_write _ _ h
    | exact fun h => Bytes.wf_set _ _ h
    | exact fun h => bufSet_wf _ _ h
    | exact fun h => Tab.wf_clear _ _ _ h
    | exact fun h => Tab.wf_filter _ _ h
    | dsimp only

theorem State.poisonSlots_leaves {μ : Nat} {s₀ : State} {s : State} (hl : Leaves μ s₀ s) (hμ : 0x2800004000 ||| μ = μ) (t : Nat) (ks : List Nat) :
    Leaves μ s₀ (State.poisonSlots s t ks) := by
  refine hl.step (k := 0x2800004000) ?_ hμ
  clear hl hμ
  unfold State.poisonSlots
  try dsimp only
  repeat' first
    | with_reducible assumption
    | with_reducible exact Leaves.refl _ _
    | decide
    | with_reducible apply Part.bit (F.MPU_POISON_CNT_COUNT_part ..)
    | with_reducible apply Part.bit (F.MPU_MP_STAT_POISON_part ..)
    | with_reducible apply Part.bit (F.MPU_POISON_LAST_MASK_part ..)
    | with_reducible apply Leaves.bumpBy
    | with_reducible apply Leaves.wr
    | with_reducible apply State.poisonSlot_leaves
    | with_reducible apply Leaves.ite
    | with_reducible refine Leaves.forEach (fun _ _ _ => ?_) ?_
    | with_reducible refine Leaves.foldl (fun _ _ _ => ?_) ?_
    | with_reducible refine Leaves.foldlFst (fun _ _ _ => ?_) ?_
    | with_reducible refine Leaves.forEachFst (fun _ _ _ => ?_) ?_
    | dsimp only

theorem State.showTile_leaves {μ : Nat} {s₀ : State} {s : State} (hl : Leaves μ s₀ s) (hμ : 0xa800004000 ||| μ = μ) (t c : Nat) (ks : List Nat) :
    Leaves μ s₀ (State.showTile s t c ks) := by
  refine hl.step (k := 0xa800004000) ?_ hμ
  clear hl hμ
  unfold State.showTile
  try dsimp only
  repeat' first
    | with_reducible assumption
    | with_reducible exact Leaves.refl _ _
    | decide
    | with_reducible apply State.fillSlot_leaves
    | with_reducible apply State.poisonSlots_leaves
    | with_reducible apply State.setPort_leaves
    | with_reducible apply State.setReqs_leaves
    | with_reducible refine Leaves.forEach (fun _ _ _ => ?_) ?_
    | with_reducible refine Leaves.forEachFst (fun _ _ _ => ?_) ?_
    | dsimp only

theorem State.show_leaves {μ : Nat} {s₀ : State} {s : State} (hl : Leaves μ s₀ s) (hμ : 0x1000199008a800006010 ||| μ = μ) (n : Nat) (extra : Nat → List Nat) :
    Leaves μ s₀ (State.show s n extra) := by
  refine hl.step (k := 0x1000199008a800006010) ?_ hμ
  clear hl hμ
  unfold State.show
  try dsimp only
  repeat' first
    | with_reducible assumption
    | with_reducible exact Leaves.refl _ _
    | decide
    | with_reducible apply State.raise_leaves
    | with_reducible apply State.showTile_leaves
    | with_reducible apply Leaves.ite
    | with_reducible refine Leaves.forEach (fun _ _ _ => ?_) ?_
    | with_reducible refine Leaves.forEachFst (fun _ _ _ => ?_) ?_
    | dsimp only

theorem State.expireTile_leaves {μ : Nat} {s₀ : State} {s : State} (hl : Leaves μ s₀ s) (hμ : 0x10001990088000006010 ||| μ = μ) (t c : Nat) :
    Leaves μ s₀ (State.expireTile s t c) := by
  refine hl.step (k := 0x10001990088000006010) ?_ hμ
  clear hl hμ
  unfold State.expireTile
  try dsimp only
  repeat' first
    | with_reducible assumption
    | with_reducible exact Leaves.refl _ _
    | decide
    | with_reducible apply Part.bit (F.MPU_WR_LATE_CNT_COUNT_part ..)
    | with_reducible apply Part.bit (F.MPU_MP_STAT_WR_LATE_part ..)
    | with_reducible apply Leaves.bumpBy
    | with_reducible apply Leaves.wr
    | with_reducible apply State.raise_leaves
    | with_reducible apply State.setReqs_leaves
    | with_reducible apply Leaves.ite
    | dsimp only

theorem State.expire_leaves {μ : Nat} {s₀ : State} {s : State} (hl : Leaves μ s₀ s) (hμ : 0x1000199008a800006010 ||| μ = μ) (n : Nat) :
    Leaves μ s₀ (State.expire s n) := by
  refine hl.step (k := 0x1000199008a800006010) ?_ hμ
  clear hl hμ
  unfold State.expire
  try dsimp only
  repeat' first
    | with_reducible assumption
    | with_reducible exact Leaves.refl _ _
    | decide
    | with_reducible apply State.expireTile_leaves
    | with_reducible apply State.show_leaves
    | with_reducible refine Leaves.forEach (fun _ _ _ => ?_) ?_
    | with_reducible refine Leaves.forEachFst (fun _ _ _ => ?_) ?_
    | dsimp only

theorem State.freeReq_leaves {μ : Nat} {s₀ : State} {s : State} (hl : Leaves μ s₀ s) (hμ : 0x8000004000 ||| μ = μ) (t tag : Nat) :
    Leaves μ s₀ (State.freeReq s t tag) := by
  refine hl.step (k := 0x8000004000) ?_ hμ
  clear hl hμ
  unfold State.freeReq
  try dsimp only
  repeat' first
    | with_reducible assumption
    | with_reducible exact Leaves.refl _ _
    | decide
    | with_reducible apply State.setReqs_leaves
    | dsimp only

theorem State.putReq_leaves {μ : Nat} {s₀ : State} {s : State} (hl : Leaves μ s₀ s) (hμ : 0x8000004000 ||| μ = μ) (t : Nat) (r : MemReq) :
    Leaves μ s₀ (State.putReq s t r) := by
  refine hl.step (k := 0x8000004000) ?_ hμ
  clear hl hμ
  unfold State.putReq
  try dsimp only
  repeat' first
    | with_reducible assumption
    | with_reducible exact Leaves.refl _ _
    | decide
    | with_reducible apply State.setReqs_leaves
    | with_reducible apply Leaves.ite
    | dsimp only

theorem State.land_leaves {μ : Nat} {s₀ : State} {s : State} (hl : Leaves μ s₀ s) (hμ : 0x10001990088000006010 ||| μ = μ) (t tag : Nat) :
    Leaves μ s₀ (State.land s t tag) := by
  refine hl.step (k := 0x10001990088000006010) ?_ hμ
  clear hl hμ
  unfold State.land
  try dsimp only
  repeat' first
    | with_reducible assumption
    | with_reducible exact Leaves.refl _ _
    | decide
    | with_reducible apply Part.bit (F.MPU_LATE_DISC_CNT_COUNT_part ..)
    | with_reducible apply Part.bit (F.MPU_MP_STAT_LATE_DISC_part ..)
    | with_reducible apply Leaves.bump
    | with_reducible apply Leaves.wr
    | with_reducible apply State.freeReq_leaves
    | with_reducible apply State.putReq_leaves
    | with_reducible apply State.raise_leaves
    | with_reducible apply Leaves.ite
    | split
    | dsimp only

theorem State.ackWrite_leaves {μ : Nat} {s₀ : State} {s : State} (hl : Leaves μ s₀ s) (hμ : 0x8000004000 ||| μ = μ) (t tag : Nat) :
    Leaves μ s₀ (State.ackWrite s t tag) := by
  refine hl.step (k := 0x8000004000) ?_ hμ
  clear hl hμ
  unfold State.ackWrite
  try dsimp only
  repeat' first
    | with_reducible assumption
    | with_reducible exact Leaves.refl _ _
    | decide
    | with_reducible apply State.freeReq_leaves
    | with_reducible apply Leaves.ite
    | split
    | dsimp only

theorem execReadLanding_leaves {s s' : State} (t : Fin 128) (tag : Fin 32) (h : execReadLanding t tag s = .next s') : Leaves 0x10001990088000006010 s s' := by
  unfold execReadLanding at h
  refine act_leaves h ?_
  try dsimp only
  clear h
  repeat' first
    | with_reducible apply State.endClock_leaves
    | with_reducible assumption
    | with_reducible exact Leaves.refl _ _
    | decide
    | with_reducible apply State.land_leaves
    | dsimp only

theorem execWriteAck_leaves {s s' : State} (t : Fin 128) (tag : Fin 32) (h : execWriteAck t tag s = .next s') : Leaves 0x8000004000 s s' := by
  unfold execWriteAck at h
  refine act_leaves h ?_
  try dsimp only
  clear h
  repeat' first
    | with_reducible apply State.endClock_leaves
    | with_reducible assumption
    | with_reducible exact Leaves.refl _ _
    | decide
    | with_reducible apply State.ackWrite_leaves
    | dsimp only

theorem State.answerDead_leaves {μ : Nat} {s₀ : State} {s : State} (hl : Leaves μ s₀ s) (hμ : 0x10001990088000006010 ||| μ = μ) (t tag : Nat) :
    Leaves μ s₀ (State.answerDead s t tag) := by
  refine hl.step (k := 0x10001990088000006010) ?_ hμ
  clear hl hμ
  unfold State.answerDead
  try dsimp only
  repeat' first
    | with_reducible assumption
    | with_reducible exact Leaves.refl _ _
    | decide
    | with_reducible apply State.ackWrite_leaves
    | with_reducible apply State.land_leaves
    | with_reducible apply State.putReq_leaves
    | with_reducible apply Leaves.ite
    | split
    | dsimp only

theorem State.refuse_leaves {μ : Nat} {s₀ : State} {s : State} (hl : Leaves μ s₀ s) (hμ : 0x8000000000 ||| μ = μ) (t slot due : Nat) (write : Bool) :
    Leaves μ s₀ (State.refuse s t slot due write) := by
  refine hl.step (k := 0x8000000000) ?_ hμ
  clear hl hμ
  unfold State.refuse
  try dsimp only
  repeat' first
    | with_reducible assumption
    | with_reducible exact Leaves.refl _ _
    | decide
    | with_reducible apply State.setPort_leaves
    | with_reducible apply Leaves.ite
    | dsimp only

theorem State.issueSlot_leaves {μ : Nat} {s₀ : State} {s : State} (hl : Leaves μ s₀ s) (hμ : 0x10001990088000006010 ||| μ = μ) (t slot due : Nat) :
    Leaves μ s₀ (State.issueSlot s t slot due).1 := by
  refine hl.step (k := 0x10001990088000006010) ?_ hμ
  clear hl hμ
  unfold State.issueSlot
  try dsimp only
  repeat' first
    | with_reducible assumption
    | with_reducible exact Leaves.refl _ _
    | decide
    | with_reducible apply Part.bit (F.MPU_ADDR_ERR_CNT_COUNT_part ..)
    | with_reducible apply Part.bit (F.MPU_MP_STAT_ADDR_ERR_part ..)
    | with_reducible apply Part.bit (F.MPU_TAG_SHORT_CNT_COUNT_part ..)
    | with_reducible apply Leaves.bump
    | with_reducible apply Leaves.wr
    | with_reducible apply State.answerDead_leaves
    | with_reducible apply State.raise_leaves
    | with_reducible apply State.refuse_leaves
    | with_reducible apply State.setReqs_leaves
    | with_reducible apply Leaves.ite
    | split
    | dsimp only

theorem State.issueTile_leaves {μ : Nat} {s₀ : State} {s : State} (hl : Leaves μ s₀ s) (hμ : 0x10001990088000006010 ||| μ = μ) (t due : Nat) :
    Leaves μ s₀ (State.issueTile s t due) := by
  refine hl.step (k := 0x10001990088000006010) ?_ hμ
  clear hl hμ
  unfold State.issueTile
  try dsimp only
  repeat' first
    | with_reducible assumption
    | with_reducible exact Leaves.refl _ _
    | decide
    | with_reducible apply Part.bit (F.MPU_MP_STAT_TAG_SHORT_part ..)
    | with_reducible apply Leaves.wr
    | with_reducible apply State.issueSlot_leaves
    | with_reducible apply State.raise_leaves
    | with_reducible apply Leaves.ite
    | with_reducible apply Leaves.iteFst
    | with_reducible refine Leaves.forEach (fun _ _ _ => ?_) ?_
    | with_reducible refine Leaves.forEachFst (fun _ _ _ => ?_) ?_
    | (refine Leaves.pair (by assumption) ?_; with_reducible apply State.issueSlot_leaves)
    | split
    | dsimp only

theorem State.issueRegion_leaves {μ : Nat} {s₀ : State} {s : State} (hl : Leaves μ s₀ s) (hμ : 0x10001990088000006010 ||| μ = μ) (n : Nat) :
    Leaves μ s₀ (State.issueRegion s n) := by
  refine hl.step (k := 0x10001990088000006010) ?_ hμ
  clear hl hμ
  unfold State.issueRegion
  try dsimp only
  repeat' first
    | with_reducible assumption
    | with_reducible exact Leaves.refl _ _
    | decide
    | with_reducible apply State.issueTile_leaves
    | with_reducible refine Leaves.forEach (fun _ _ _ => ?_) ?_
    | with_reducible refine Leaves.forEachFst (fun _ _ _ => ?_) ?_
    | dsimp only

theorem State.hbmPut_leaves {μ : Nat} {s₀ : State} {s : State} (hl : Leaves μ s₀ s) (hμ : 0x100019900f0000082010 ||| μ = μ) (a be : Nat) (data : List Byte) :
    Leaves μ s₀ (State.hbmPut s a be data) := by
  refine hl.step (k := 0x100019900f0000082010) ?_ hμ
  clear hl hμ
  unfold State.hbmPut
  try dsimp only
  repeat' first
    | with_reducible assumption
    | with_reducible exact Leaves.refl _ _
    | decide
    | with_reducible apply State.meetCode_leaves
    | with_reducible apply Leaves.upd_hbm
    | exact fun h => Tab.wf_set _ _ _ h
    | exact fun h => Bytes.wf_write _ _ h
    | exact fun h => Bytes.wf_set _ _ h
    | exact fun h => bufSet_wf _ _ h
    | exact fun h => Tab.wf_clear _ _ _ h
    | exact fun h => Tab.wf_filter _ _ h
    | with_reducible apply Leaves.ite
    | with_reducible refine Leaves.forEach (fun _ _ _ => ?_) ?_
    | with_reducible refine Leaves.forEachFst (fun _ _ _ => ?_) ?_
    | dsimp only

theorem State.dramAccess_leaves {μ : Nat} {s₀ : State} {s : State} (hl : Leaves μ s₀ s) (hμ : 0x10000000000000000000 ||| μ = μ) (a : Nat) (write : Bool) :
    Leaves μ s₀ (State.dramAccess s a write) := by
  refine hl.step (k := 0x10000000000000000000) ?_ hμ
  clear hl hμ
  unfold State.dramAccess
  try dsimp only
  repeat' first
    | with_reducible assumption
    | with_reducible exact Leaves.refl _ _
    | decide
    | with_reducible apply State.emit_leaves
    | dsimp only

theorem State.performPort_leaves {μ : Nat} {s₀ : State} {s : State} (hl : Leaves μ s₀ s) (hμ : 0x100619900f800008601a ||| μ = μ) (t tag : Nat) (u : Upset) :
    Leaves μ s₀ (State.performPort s t tag u) := by
  refine hl.step (k := 0x100619900f800008601a) ?_ hμ
  clear hl hμ
  unfold State.performPort
  try dsimp only
  repeat' first
    | with_reducible assumption
    | with_reducible exact Leaves.refl _ _
    | decide
    | with_reducible apply State.dramAccess_leaves
    | with_reducible apply State.hbmPut_leaves
    | with_reducible apply State.hbmRead_leaves
    | with_reducible apply State.knock_leaves
    | with_reducible apply State.putReq_leaves
    | with_reducible apply State.upsets_leaves
    | with_reducible apply Leaves.ite
    | with_reducible apply Leaves.iteFst
    | (refine Leaves.pair (by assumption) ?_; with_reducible apply State.hbmRead_leaves)
    | split
    | dsimp only

theorem State.putEnabled_leaves {μ : Nat} {s₀ : State} {s : State} (hl : Leaves μ s₀ s) (hμ : 0x100019900f0000082010 ||| μ = μ) (a : Nat) (bs : List (Option Byte)) :
    Leaves μ s₀ (State.putEnabled s a bs) := by
  refine hl.step (k := 0x100019900f0000082010) ?_ hμ
  clear hl hμ
  unfold State.putEnabled
  try dsimp only
  repeat' first
    | with_reducible assumption
    | with_reducible exact Leaves.refl _ _
    | decide
    | with_reducible apply State.hbmPut_leaves
    | with_reducible apply Leaves.ite
    | with_reducible refine Leaves.forEach (fun _ _ _ => ?_) ?_
    | with_reducible refine Leaves.foldl (fun _ _ _ => ?_) ?_
    | with_reducible refine Leaves.foldlFst (fun _ _ _ => ?_) ?_
    | with_reducible refine Leaves.forEachFst (fun _ _ _ => ?_) ?_
    | dsimp only

theorem State.setRing_leaves {μ : Nat} {s₀ : State} {s : State} (hl : Leaves μ s₀ s) (hμ : 0x800000000000 ||| μ = μ) (k : Nat) (r : Ring) :
    Leaves μ s₀ (State.setRing s k r) := by
  refine hl.step (k := 0x800000000000) ?_ hμ
  clear hl hμ
  unfold State.setRing
  try dsimp only
  repeat' first
    | with_reducible assumption
    | with_reducible exact Leaves.refl _ _
    | decide
    | with_reducible apply Leaves.upd_rings
    | dsimp only

theorem State.putFor_leaves {μ : Nat} {s₀ : State} {s : State} (hl : Leaves μ s₀ s) (hμ : 0x10061b900f000008201b ||| μ = μ) (more : List Held2) (w : Writer) (a : Nat) (bs : List Byte) (next : After) :
    Leaves μ s₀ (State.putFor s more w a bs next).1 := by
  refine hl.step (k := 0x10061b900f000008201b) ?_ hμ
  clear hl hμ
  unfold State.putFor
  try dsimp only
  repeat' first
    | with_reducible assumption
    | with_reducible exact Leaves.refl _ _
    | decide
    | with_reducible apply State.accessErr_leaves
    | with_reducible apply State.hbmStore_leaves
    | with_reducible apply State.wakeHbm_leaves
    | with_reducible apply Leaves.upd_hbmHeld
    | with_reducible apply Leaves.ite
    | split
    | dsimp only

theorem State.setLast_leaves {μ : Nat} {s₀ : State} {s : State} (hl : Leaves μ s₀ s) (hμ : 0x80000 ||| μ = μ) (k line : Nat) :
    Leaves μ s₀ (State.setLast s k line) := by
  refine hl.step (k := 0x80000) ?_ hμ
  clear hl hμ
  unfold State.setLast
  try dsimp only
  repeat' first
    | with_reducible assumption
    | with_reducible exact Leaves.refl _ _
    | decide
    | (with_reducible apply Part.bit (p := .hbmRegs) <;> first | decide | exact regPart_hbmRegs (by omega) (by omega))
    | with_reducible apply Leaves.setReg
    | exact Mask.bit (regPart_bit _) (by decide)
    | dsimp only

theorem State.ringDone_leaves {μ : Nat} {s₀ : State} {s : State} (hl : Leaves μ s₀ s) (hμ : 0x10061b908f000008201b ||| μ = μ) (more : List Held2) (k : Nat) (l : RingLine) :
    Leaves μ s₀ (State.ringDone s more k l) := by
  refine hl.step (k := 0x10061b908f000008201b) ?_ hμ
  clear hl hμ
  unfold State.ringDone
  try dsimp only
  repeat' first
    | with_reducible assumption
    | with_reducible exact Leaves.refl _ _
    | decide
    | with_reducible apply State.putFor_leaves
    | with_reducible apply State.setLast_leaves
    | with_reducible apply State.setRing_leaves
    | with_reducible apply Leaves.ite
    | with_reducible apply Leaves.iteFst
    | (refine Leaves.pair (by assumption) ?_; with_reducible apply State.putFor_leaves)
    | dsimp only

theorem State.followUp_leaves {μ : Nat} {s₀ : State} {s : State} (hl : Leaves μ s₀ s) (hμ : 0x10061b908f000008201b ||| μ = μ) (more : List Held2) (ρ : After) :
    Leaves μ s₀ (State.followUp s more ρ) := by
  refine hl.step (k := 0x10061b908f000008201b) ?_ hμ
  clear hl hμ
  unfold State.followUp
  try dsimp only
  repeat' first
      | with_reducible assumption
      | with_reducible exact Leaves.refl _ _
      | decide
      | with_reducible apply State.ringDone_leaves
      | with_reducible apply State.setLast_leaves
      | split
      | dsimp only
      | split

theorem State.unitWrite_leaves {μ : Nat} {s₀ : State} {s : State} (hl : Leaves μ s₀ s) (hμ : 0x10061b908f000008201b ||| μ = μ) (m a : Nat) (bs : List Byte) (next : After) :
    Leaves μ s₀ (State.unitWrite s m a bs next) := by
  refine hl.step (k := 0x10061b908f000008201b) ?_ hμ
  clear hl hμ
  unfold State.unitWrite
  try dsimp only
  repeat' first
    | with_reducible assumption
    | with_reducible exact Leaves.refl _ _
    | decide
    | with_reducible apply State.followUp_leaves
    | with_reducible apply State.putFor_leaves
    | with_reducible apply Leaves.ite
    | with_reducible apply Leaves.iteFst
    | (refine Leaves.pair (by assumption) ?_; with_reducible apply State.putFor_leaves)
    | dsimp only

theorem State.doHeld_leaves {μ : Nat} {s₀ : State} {s : State} (hl : Leaves μ s₀ s) (hμ : 0x10061b908f000008201b ||| μ = μ) (more : List Held2) (ρ : Held2) :
    Leaves μ s₀ (State.doHeld s more ρ) := by
  refine hl.step (k := 0x10061b908f000008201b) ?_ hμ
  clear hl hμ
  unfold State.doHeld
  try dsimp only
  repeat' first
      | with_reducible assumption
      | with_reducible exact Leaves.refl _ _
      | decide
      | with_reducible apply State.dramAccess_leaves
      | with_reducible apply State.emit_leaves
      | with_reducible apply State.followUp_leaves
      | with_reducible apply State.hbmPut_leaves
      | with_reducible apply State.hbmRead_leaves
      | with_reducible apply State.hbmStore_leaves
      | with_reducible apply State.putEnabled_leaves
      | with_reducible apply Leaves.ite
      | with_reducible apply Leaves.iteFst
      | (refine Leaves.pair (by assumption) ?_; with_reducible apply State.hbmRead_leaves)
      | dsimp only
      | split

theorem State.askHbm_leaves {μ : Nat} {s₀ : State} {s : State} (hl : Leaves μ s₀ s) (hμ : 0x10061b908f000008201b ||| μ = μ) (h : Held2) :
    Leaves μ s₀ (State.askHbm s h) := by
  refine hl.step (k := 0x10061b908f000008201b) ?_ hμ
  clear hl hμ
  unfold State.askHbm
  try dsimp only
  repeat' first
    | with_reducible assumption
    | with_reducible exact Leaves.refl _ _
    | decide
    | with_reducible apply State.doHeld_leaves
    | with_reducible apply State.wakeHbm_leaves
    | with_reducible apply Leaves.upd_hbmHeld
    | with_reducible apply Leaves.ite
    | with_reducible apply Leaves.iteFst
    | dsimp only

theorem State.askAgain_leaves {μ : Nat} {s₀ : State} {s : State} (hl : Leaves μ s₀ s) (hμ : 0x10061b908f000008201b ||| μ = μ) (kept : List Held2) (ρ : List Held2) :
    Leaves μ s₀ (State.askAgain s kept ρ) := by
  refine hl.step (k := 0x10061b908f000008201b) ?_ hμ
  clear hl hμ
  induction ρ generalizing s kept with
  | nil =>
    unfold State.askAgain
    repeat' first
      | with_reducible assumption
      | with_reducible exact Leaves.refl _ _
      | decide
      | with_reducible apply State.doHeld_leaves
      | with_reducible apply State.wakeHbm_leaves
      | with_reducible apply Leaves.upd_hbmHeld
      | with_reducible apply Leaves.ite
      | with_reducible apply Leaves.iteFst
      | dsimp only
  | cons x xs ih =>
    unfold State.askAgain
    try dsimp only
    repeat' first
      | with_reducible assumption
      | with_reducible exact Leaves.refl _ _
      | decide
      | with_reducible apply State.doHeld_leaves
      | with_reducible apply State.wakeHbm_leaves
      | with_reducible apply Leaves.upd_hbmHeld
      | with_reducible apply Leaves.ite
      | with_reducible apply Leaves.iteFst
      | dsimp only
      | (with_reducible refine Leaves.step ?_ (ih ..) (by decide))

theorem State.serveHeld_leaves {μ : Nat} {s₀ : State} {s : State} (hl : Leaves μ s₀ s) (hμ : 0x10061b908f000008201b ||| μ = μ)  :
    Leaves μ s₀ (State.serveHeld s) := by
  refine hl.step (k := 0x10061b908f000008201b) ?_ hμ
  clear hl hμ
  unfold State.serveHeld
  try dsimp only
  repeat' first
    | with_reducible assumption
    | with_reducible exact Leaves.refl _ _
    | decide
    | with_reducible apply State.askAgain_leaves
    | with_reducible apply Leaves.upd_hbmHeld
    | dsimp only

theorem execHbmRequest_leaves {s s' : State} (q : HbmReq) (u : Upset) (h : execHbmRequest q u s = .next s') : Leaves 0x10061b908f800008601b s s' := by
  unfold execHbmRequest at h
  refine act_leaves h ?_
  try dsimp only
  clear h
  repeat' first
    | with_reducible apply State.endClock_leaves
    | with_reducible assumption
    | with_reducible exact Leaves.refl _ _
    | decide
    | with_reducible apply State.askHbm_leaves
    | with_reducible apply State.performPort_leaves
    | with_reducible apply State.upsets_leaves
    | split
    | dsimp only

theorem execBar2Request_leaves {s s' : State} (a : BitVec 35) (n : Fin 4097) (w : Option (List (Option Byte))) (tlp : Tlp) (up : Upsets) (h : execBar2Request a n w tlp up s = .next s') : Leaves 0x10061b908f000018201b s s' := by
  unfold execBar2Request at h
  refine actPcie_leaves h ?_
  try dsimp only
  clear h
  repeat' first
    | with_reducible apply State.endClock_leaves
    | with_reducible assumption
    | with_reducible exact Leaves.refl _ _
    | decide
    | with_reducible apply State.askHbm_leaves
    | with_reducible apply State.dropTlp_leaves
    | with_reducible apply State.unsupported_leaves
    | with_reducible apply State.upsets_leaves
    | with_reducible apply Leaves.ite
    | split
    | dsimp only

theorem execPatrolScrub_leaves {s s' : State} (c : Fin 2) (found : Upsets) (h : execPatrolScrub c found s = .next s') : Leaves 0x100219900e0000082018 s s' := by
  unfold execPatrolScrub at h
  refine act_leaves h ?_
  try dsimp only
  clear h
  repeat' first
    | with_reducible apply State.endClock_leaves
    | with_reducible assumption
    | with_reducible exact Leaves.refl _ _
    | decide
    | with_reducible apply State.hbmCe_leaves
    | with_reducible apply State.hbmUes_leaves
    | with_reducible apply State.upsets_leaves
    | with_reducible apply Leaves.ite
    | with_reducible apply Leaves.iteFst
    | with_reducible refine Leaves.forEach (fun _ _ _ => ?_) ?_
    | with_reducible refine Leaves.forEachFst (fun _ _ _ => ?_) ?_
    | dsimp only

theorem execHbmTempHigh_leaves {s s' : State} (c : Fin 2) (temp : BitVec 8) (h : execHbmTempHigh c temp s = .next s') : Leaves 0x10001990080000082010 s s' := by
  unfold execHbmTempHigh at h
  refine act_leaves h ?_
  try dsimp only
  clear h
  repeat' first
    | with_reducible apply State.endClock_leaves
    | with_reducible assumption
    | with_reducible exact Leaves.refl _ _
    | decide
    | with_reducible apply Part.bit (F.HBM_TEMP_part ..)
    | with_reducible apply Part.bit (F.HBM_STATUS_TEMP_HIGH_part ..)
    | with_reducible apply Leaves.wr
    | with_reducible apply State.raise_leaves
    | with_reducible apply Leaves.ite
    | dsimp only

theorem State.trainFail_leaves {μ : Nat} {s₀ : State} {s : State} (hl : Leaves μ s₀ s) (hμ : 0x10001990088000086010 ||| μ = μ) (c : Nat) :
    Leaves μ s₀ (State.trainFail s c) := by
  refine hl.step (k := 0x10001990088000086010) ?_ hμ
  clear hl hμ
  unfold State.trainFail
  try dsimp only
  repeat' first
    | with_reducible assumption
    | with_reducible exact Leaves.refl _ _
    | decide
    | with_reducible apply Part.bit (F.HBM_STATUS_TRAINED_part ..)
    | with_reducible apply Part.bit (F.HBM_STATUS_LINK_ERR_part ..)
    | with_reducible apply Leaves.wr
    | with_reducible apply State.answerDead_leaves
    | with_reducible apply State.raise_leaves
    | with_reducible refine Leaves.forEach (fun _ _ _ => ?_) ?_
    | with_reducible refine Leaves.forEachFst (fun _ _ _ => ?_) ?_
    | dsimp only

theorem State.proceed_leaves {μ : Nat} {s₀ : State} {s : State} (hl : Leaves μ s₀ s) (hμ : 0x10040000000000000000 ||| μ = μ) (d : Nat) (status : Nat) :
    Leaves μ s₀ (State.proceed s d status) := by
  refine hl.step (k := 0x10040000000000000000) ?_ hμ
  clear hl hμ
  unfold State.proceed
  try dsimp only
  repeat' first
    | with_reducible assumption
    | with_reducible exact Leaves.refl _ _
    | decide
    | with_reducible apply State.emit_leaves
    | with_reducible apply State.setDom_leaves
    | with_reducible refine Leaves.forEach (fun _ _ _ => ?_) ?_
    | with_reducible refine Leaves.forEachFst (fun _ _ _ => ?_) ?_
    | dsimp only

theorem State.setHbmRate_leaves {μ : Nat} {s₀ : State} {s : State} (hl : Leaves μ s₀ s) (hμ : 0x4 ||| μ = μ) (c : Nat) :
    Leaves μ s₀ (State.setHbmRate s c) := by
  refine hl.step (k := 0x4) ?_ hμ
  clear hl hμ
  unfold State.setHbmRate
  try dsimp only
  repeat' first
    | with_reducible assumption
    | with_reducible exact Leaves.refl _ _
    | decide
    | with_reducible apply Leaves.wr
    | exact Mask.bit (regPart_bit _) (by decide)
    | with_reducible apply Leaves.ite
    | dsimp only

theorem execHbmTraining_leaves {s s' : State} (c : Fin 2) (ok : Bool) (h : execHbmTraining c ok s = .next s') : Leaves 0x10061b908f800008601f s s' := by
  unfold execHbmTraining at h
  refine act_leaves h ?_
  try dsimp only
  clear h
  repeat' first
    | with_reducible apply State.endClock_leaves
    | with_reducible assumption
    | with_reducible exact Leaves.refl _ _
    | decide
    | with_reducible apply Part.bit (F.HBM_STATUS_TRAINED_part ..)
    | with_reducible apply Leaves.wr
    | with_reducible apply State.proceed_leaves
    | with_reducible apply State.serveHeld_leaves
    | with_reducible apply State.setHbmRate_leaves
    | with_reducible apply State.trainFail_leaves
    | with_reducible apply Leaves.ite
    | dsimp only

theorem execHbmTrainingTimeout_leaves {s s' : State} (c : Fin 2) (h : execHbmTrainingTimeout c s = .next s') : Leaves 0x10061b908f800008601b s s' := by
  unfold execHbmTrainingTimeout at h
  refine act_leaves h ?_
  try dsimp only
  clear h
  repeat' first
    | with_reducible apply State.endClock_leaves
    | with_reducible assumption
    | with_reducible exact Leaves.refl _ _
    | decide
    | with_reducible apply State.proceed_leaves
    | with_reducible apply State.serveHeld_leaves
    | with_reducible apply State.trainFail_leaves
    | with_reducible apply Leaves.ite
    | dsimp only

end Sys2Proof.Machine
end

