-- ==== Sys2Proof/Laws/Dma.lean ====
section
/-!
SUPPORT. What each operation of Machine/Dma.lean leaves alone.
-/

set_option linter.all false

namespace Sys2Proof.Machine

theorem State.showEng_leaves {μ : Nat} {s₀ : State} {s : State} (hl : Leaves μ s₀ s) (hμ : 0x400 ||| μ = μ) (e : Nat) :
    Leaves μ s₀ (State.showEng s e) := by
  refine hl.step (k := 0x400) ?_ hμ
  clear hl hμ
  unfold State.showEng
  try dsimp only
  repeat' first
    | with_reducible assumption
    | with_reducible exact Leaves.refl _ _
    | decide
    | with_reducible apply Part.bit (F.DMA_STAT_INFLIGHT_part ..)
    | with_reducible apply Part.bit (F.DMA_STAT_BUSY_part ..)
    | with_reducible apply Part.bit (F.DMA_CTRL_ABORT_part ..)
    | with_reducible apply Leaves.wr
    | with_reducible apply Leaves.ite
    | dsimp only

theorem State.writeEntry_leaves {μ : Nat} {s₀ : State} {s : State} (hl : Leaves μ s₀ s) (hμ : 0x10061b900f000008241b ||| μ = μ) (e : Nat) (bs : List Byte) :
    Leaves μ s₀ (State.writeEntry s e bs) := by
  refine hl.step (k := 0x10061b900f000008241b) ?_ hμ
  clear hl hμ
  unfold State.writeEntry
  try dsimp only
  repeat' first
    | with_reducible assumption
    | with_reducible exact Leaves.refl _ _
    | decide
    | with_reducible apply Part.bit (F.DMA_CPL_HEAD_HEAD_part ..)
    | with_reducible apply Leaves.wr
    | with_reducible apply State.accessErr_leaves
    | with_reducible apply State.hbmWrite_leaves
    | with_reducible apply State.hostWrite_leaves
    | with_reducible apply Leaves.ite
    | dsimp only

theorem State.descError_leaves {μ : Nat} {s₀ : State} {s : State} (hl : Leaves μ s₀ s) (hμ : 0x10001990080000002410 ||| μ = μ) (e : Nat) (d : Desc) (status reason : Nat) :
    Leaves μ s₀ (State.descError s e d status reason) := by
  refine hl.step (k := 0x10001990080000002410) ?_ hμ
  clear hl hμ
  unfold State.descError
  try dsimp only
  repeat' first
    | with_reducible assumption
    | with_reducible exact Leaves.refl _ _
    | decide
    | with_reducible apply Part.bit (F.DMA_ERR_CNT_COUNT_part ..)
    | with_reducible apply Part.bit (F.DMA_STAT_ERR_part ..)
    | (with_reducible apply Part.bit (p := .dmaRegs) <;> first | decide | exact regPart_dmaRegs (by omega) (by omega))
    | with_reducible apply Leaves.bump
    | with_reducible apply Leaves.wr
    | with_reducible apply Leaves.setReg
    | with_reducible apply State.raise_leaves
    | exact Mask.bit (regPart_bit _) (by decide)
    | with_reducible apply Leaves.ite
    | dsimp only

theorem State.retire_leaves {μ : Nat} {s₀ : State} {s : State} (hl : Leaves μ s₀ s) (hμ : 0x10061b900f000008241b ||| μ = μ) (e : Nat) (d : Desc) (status reason : Nat) :
    Leaves μ s₀ (State.retire s e d status reason) := by
  refine hl.step (k := 0x10061b900f000008241b) ?_ hμ
  clear hl hμ
  unfold State.retire
  try dsimp only
  repeat' first
    | with_reducible assumption
    | with_reducible exact Leaves.refl _ _
    | decide
    | with_reducible apply Part.bit (F.DMA_DONE_CNT_COUNT_part ..)
    | with_reducible apply Leaves.bump
    | with_reducible apply State.descError_leaves
    | with_reducible apply State.raise_leaves
    | with_reducible apply State.showEng_leaves
    | with_reducible apply State.writeEntry_leaves
    | with_reducible apply Leaves.ite
    | dsimp only

theorem State.finish_leaves {μ : Nat} {s₀ : State} {s : State} (hl : Leaves μ s₀ s) (hμ : 0x10061b900f000008241b ||| μ = μ) (e : Nat) (d : Desc) (status reason : Nat) :
    Leaves μ s₀ (State.finish s e d status reason) := by
  refine hl.step (k := 0x10061b900f000008241b) ?_ hμ
  clear hl hμ
  unfold State.finish
  try dsimp only
  repeat' first
    | with_reducible assumption
    | with_reducible exact Leaves.refl _ _
    | decide
    | with_reducible apply Part.bit (F.DMA_STAT_STOPPED_part ..)
    | with_reducible apply Leaves.wr
    | with_reducible apply State.retire_leaves
    | with_reducible apply State.setEng_leaves
    | with_reducible apply State.showEng_leaves
    | with_reducible apply Leaves.ite
    | dsimp only

theorem State.unhold_leaves {μ : Nat} {s₀ : State} {s : State} (hl : Leaves μ s₀ s) (hμ : 0x10061b900f000008241b ||| μ = μ) (e : Nat) (ρ : Nat) :
    Leaves μ s₀ (State.unhold s e ρ) := by
  refine hl.step (k := 0x10061b900f000008241b) ?_ hμ
  clear hl hμ
  induction ρ generalizing s e with
  | zero =>
    unfold State.unhold
    repeat' first
      | with_reducible assumption
      | with_reducible exact Leaves.refl _ _
      | decide
      | with_reducible apply State.retire_leaves
      | with_reducible apply State.setEng_leaves
      | with_reducible apply Leaves.ite
      | with_reducible apply Leaves.iteFst
      | split
      | dsimp only
  | succ k ih =>
    unfold State.unhold
    try dsimp only
    repeat' first
      | with_reducible assumption
      | with_reducible exact Leaves.refl _ _
      | decide
      | with_reducible apply State.retire_leaves
      | with_reducible apply State.setEng_leaves
      | with_reducible apply Leaves.ite
      | with_reducible apply Leaves.iteFst
      | split
      | dsimp only
      | (with_reducible refine Leaves.step ?_ (ih ..) (by decide))

theorem State.putDesc_leaves {μ : Nat} {s₀ : State} {s : State} (hl : Leaves μ s₀ s) (hμ : 0x10000000000000 ||| μ = μ) (e : Nat) (d : Desc) :
    Leaves μ s₀ (State.putDesc s e d) := by
  refine hl.step (k := 0x10000000000000) ?_ hμ
  clear hl hμ
  unfold State.putDesc
  try dsimp only
  repeat' first
    | with_reducible assumption
    | with_reducible exact Leaves.refl _ _
    | decide
    | with_reducible apply State.setEng_leaves
    | with_reducible apply Leaves.ite
    | dsimp only

theorem State.setWinQueue_leaves {μ : Nat} {s₀ : State} {s : State} (hl : Leaves μ s₀ s) (hμ : 0x20000000000000 ||| μ = μ) (k : Nat) (l : List WinReq) :
    Leaves μ s₀ (State.setWinQueue s k l) := by
  refine hl.step (k := 0x20000000000000) ?_ hμ
  clear hl hμ
  unfold State.setWinQueue
  try dsimp only
  repeat' first
    | with_reducible assumption
    | with_reducible exact Leaves.refl _ _
    | decide
    | with_reducible apply Leaves.upd_fab
    | dsimp only

theorem State.dropAsked_leaves {μ : Nat} {s₀ : State} {s : State} (hl : Leaves μ s₀ s) (hμ : 0x30000000000000 ||| μ = μ) (e : Nat) (d : Desc) :
    Leaves μ s₀ (State.dropAsked s e d) := by
  refine hl.step (k := 0x30000000000000) ?_ hμ
  clear hl hμ
  unfold State.dropAsked
  try dsimp only
  repeat' first
    | with_reducible assumption
    | with_reducible exact Leaves.refl _ _
    | decide
    | with_reducible apply State.putDesc_leaves
    | with_reducible apply State.setWinQueue_leaves
    | with_reducible apply Leaves.ite
    | with_reducible refine Leaves.forEach (fun _ _ _ => ?_) ?_
    | with_reducible refine Leaves.forEachFst (fun _ _ _ => ?_) ?_
    | split
    | dsimp only

theorem State.settle_leaves {μ : Nat} {s₀ : State} {s : State} (hl : Leaves μ s₀ s) (hμ : 0x10061b900f000008241b ||| μ = μ) (e slot : Nat) :
    Leaves μ s₀ (State.settle s e slot) := by
  refine hl.step (k := 0x10061b900f000008241b) ?_ hμ
  clear hl hμ
  unfold State.settle
  try dsimp only
  repeat' first
    | with_reducible assumption
    | with_reducible exact Leaves.refl _ _
    | decide
    | with_reducible apply State.finish_leaves
    | with_reducible apply Leaves.ite
    | split
    | dsimp only

theorem State.endDesc_leaves {μ : Nat} {s₀ : State} {s : State} (hl : Leaves μ s₀ s) (hμ : 0x10061bb00f000008241b ||| μ = μ) (e : Nat) (d : Desc) (status : Nat) :
    Leaves μ s₀ (State.endDesc s e d status) := by
  refine hl.step (k := 0x10061bb00f000008241b) ?_ hμ
  clear hl hμ
  unfold State.endDesc
  try dsimp only
  repeat' first
    | with_reducible assumption
    | with_reducible exact Leaves.refl _ _
    | decide
    | with_reducible apply State.dropAsked_leaves
    | with_reducible apply State.putDesc_leaves
    | with_reducible apply State.settle_leaves
    | split
    | dsimp only

theorem State.abortDescs_leaves {μ : Nat} {s₀ : State} {s : State} (hl : Leaves μ s₀ s) (hμ : 0x10061bb00f000008241b ||| μ = μ) (e : Nat) (p : Desc → Bool) :
    Leaves μ s₀ (State.abortDescs s e p) := by
  refine hl.step (k := 0x10061bb00f000008241b) ?_ hμ
  clear hl hμ
  unfold State.abortDescs
  try dsimp only
  repeat' first
    | with_reducible assumption
    | with_reducible exact Leaves.refl _ _
    | decide
    | with_reducible apply State.endDesc_leaves
    | with_reducible refine Leaves.forEach (fun _ _ _ => ?_) ?_
    | with_reducible refine Leaves.forEachFst (fun _ _ _ => ?_) ?_
    | dsimp only

theorem State.abortEngine_leaves {μ : Nat} {s₀ : State} {s : State} (hl : Leaves μ s₀ s) (hμ : 0x10061bb00f000008241b ||| μ = μ) (e : Nat) :
    Leaves μ s₀ (State.abortEngine s e) := by
  refine hl.step (k := 0x10061bb00f000008241b) ?_ hμ
  clear hl hμ
  unfold State.abortEngine
  try dsimp only
  repeat' first
    | with_reducible assumption
    | with_reducible exact Leaves.refl _ _
    | decide
    | with_reducible apply Part.bit (F.DMA_HEAD_part ..)
    | with_reducible apply Leaves.wr
    | with_reducible apply State.abortDescs_leaves
    | with_reducible apply State.showEng_leaves
    | dsimp only

theorem State.readEntry_leaves {μ : Nat} {s₀ : State} {s : State} (hl : Leaves μ s₀ s) (hμ : 0x100219900c0000182019 ||| μ = μ) (e a : Nat) (host : HostData) :
    Leaves μ s₀ (State.readEntry s e a host).1 := by
  refine hl.step (k := 0x100219900c0000182019) ?_ hμ
  clear hl hμ
  unfold State.readEntry
  try dsimp only
  repeat' first
    | with_reducible assumption
    | with_reducible exact Leaves.refl _ _
    | decide
    | with_reducible apply State.accessErr_leaves
    | with_reducible apply State.aerCor_leaves
    | with_reducible apply State.aerUncor_leaves
    | with_reducible apply State.emit_leaves
    | with_reducible apply State.hbmRead_leaves
    | with_reducible apply Leaves.ite
    | with_reducible apply Leaves.iteFst
    | (refine Leaves.pair (by assumption) ?_; with_reducible apply State.hbmRead_leaves)
    | split
    | dsimp only

theorem State.takeEntry_leaves {μ : Nat} {s₀ : State} {s : State} (hl : Leaves μ s₀ s) (hμ : 0x10061b900f000008241b ||| μ = μ) (e idx : Nat) (raw : Option Nat) :
    Leaves μ s₀ (State.takeEntry s e idx raw) := by
  refine hl.step (k := 0x10061b900f000008241b) ?_ hμ
  clear hl hμ
  unfold State.takeEntry
  try dsimp only
  repeat' first
    | with_reducible assumption
    | with_reducible exact Leaves.refl _ _
    | decide
    | with_reducible apply Part.bit (F.DMA_HEAD_part ..)
    | with_reducible apply Leaves.wr
    | with_reducible apply State.finish_leaves
    | with_reducible apply State.setEng_leaves
    | with_reducible apply State.showEng_leaves
    | split
    | dsimp only

theorem State.fetchEntry_leaves {μ : Nat} {s₀ : State} {s : State} (hl : Leaves μ s₀ s) (hμ : 0x10061b900f000018241b ||| μ = μ) (e : Nat) (host : HostData) :
    Leaves μ s₀ (State.fetchEntry s e host) := by
  refine hl.step (k := 0x10061b900f000018241b) ?_ hμ
  clear hl hμ
  unfold State.fetchEntry
  try dsimp only
  repeat' first
    | with_reducible assumption
    | with_reducible exact Leaves.refl _ _
    | decide
    | with_reducible apply State.readEntry_leaves
    | with_reducible apply State.takeEntry_leaves
    | (refine Leaves.pair (by assumption) ?_; with_reducible apply State.readEntry_leaves)
    | dsimp only

theorem execDescriptorFetch_leaves {s s' : State} (e : Fin 16) (host : HostData) (up : Upsets) (h : execDescriptorFetch e host up s = .next s') : Leaves 0x10061b900f000018241b s s' := by
  unfold execDescriptorFetch at h
  refine act_leaves h ?_
  try dsimp only
  clear h
  repeat' first
    | with_reducible apply State.endClock_leaves
    | with_reducible assumption
    | with_reducible exact Leaves.refl _ _
    | decide
    | with_reducible apply State.fetchEntry_leaves
    | with_reducible apply State.onceHbm_leaves
    | intro _
    | with_reducible apply State.upsets_leaves
    | with_reducible apply Leaves.ite
    | dsimp only

theorem State.askWindow_leaves {μ : Nat} {s₀ : State} {s : State} (hl : Leaves μ s₀ s) (hμ : 0x20000000000000 ||| μ = μ) (r : WinReq) :
    Leaves μ s₀ (State.askWindow s r) := by
  refine hl.step (k := 0x20000000000000) ?_ hμ
  clear hl hμ
  unfold State.askWindow
  try dsimp only
  repeat' first
    | with_reducible assumption
    | with_reducible exact Leaves.refl _ _
    | decide
    | with_reducible apply State.setWinQueue_leaves
    | dsimp only

theorem State.putPiece_fst (e at_ off : Nat) (bs : List Byte) (p : Nat × Nat) (x : State × Desc) :
    (State.putPiece e at_ off bs p x).1 = if x.1.windowServes (windowPart p.1) then
      x.1.askWindow ⟨some (e, x.2.slot, off + (p.1 - at_)), true, p.1, enables p.1 p.2,
        placed p.1 ((bs.drop (p.1 - at_)).take p.2), false⟩
    else x.1.accessErr 3 true true p.1 := by
  unfold State.putPiece
  exact apply_ite Prod.fst _ _ _

theorem State.putPiece_leaves {μ : Nat} {s₀ : State} (e at_ off : Nat) (bs : List Byte) (p : Nat × Nat) (x : State × Desc)
    (hl : Leaves μ s₀ x.1) (hμ : 0x100019b0080000002011 ||| μ = μ) : Leaves μ s₀ (State.putPiece e at_ off bs p x).1 := by
  rw [State.putPiece_fst]
  exact .ite (State.askWindow_leaves hl (Mask.trans (by decide) hμ) _)
    (State.accessErr_leaves hl (Mask.trans (by decide) hμ) _ _ _ _)

theorem State.putWindow_leaves {μ : Nat} {s₀ : State} {s : State} (hl : Leaves μ s₀ s) (hμ : 0x100019b0080000002011 ||| μ = μ) (e : Nat) (d : Desc) (bs : List Byte) :
    Leaves μ s₀ (State.putWindow s e d bs).1 := by
  refine hl.step (k := 0x100019b0080000002011) ?_ hμ
  clear hl hμ
  unfold State.putWindow
  try dsimp only
  repeat' first
    | with_reducible assumption
    | with_reducible exact Leaves.refl _ _
    | decide
    | with_reducible apply State.putPiece_leaves
    | with_reducible refine Leaves.forEach (fun _ _ _ => ?_) ?_
    | with_reducible refine Leaves.forEachFst (fun _ _ _ => ?_) ?_
    | (refine Leaves.pair (by assumption) ?_; with_reducible apply State.putPiece_leaves)
    | split
    | dsimp only

theorem State.putGob_leaves {μ : Nat} {s₀ : State} {s : State} (hl : Leaves μ s₀ s) (hμ : 0x10041990082100006012 ||| μ = μ) (e : Nat) (d : Desc) (bs : List Byte) :
    Leaves μ s₀ (State.putGob s e d bs).1 := by
  refine hl.step (k := 0x10041990082100006012) ?_ hμ
  clear hl hμ
  unfold State.putGob
  try dsimp only
  repeat' first
    | with_reducible assumption
    | with_reducible exact Leaves.refl _ _
    | decide
    | with_reducible apply State.gobArrive_leaves
    | with_reducible apply Leaves.ite
    | with_reducible apply Leaves.iteFst
    | with_reducible refine Leaves.forEach (fun _ _ _ => ?_) ?_
    | with_reducible refine Leaves.forEachFst (fun _ _ _ => ?_) ?_
    | split
    | dsimp only

theorem State.putFrame_leaves {μ : Nat} {s₀ : State} {s : State} (hl : Leaves μ s₀ s) (hμ : 0x10001d90080000202010 ||| μ = μ) (e : Nat) (d : Desc) (bs : List Byte) :
    Leaves μ s₀ (State.putFrame s e d bs).1 := by
  refine hl.step (k := 0x10001d90080000202010) ?_ hμ
  clear hl hμ
  unfold State.putFrame
  try dsimp only
  repeat' first
    | with_reducible assumption
    | with_reducible exact Leaves.refl _ _
    | decide
    | with_reducible apply State.ethSend_leaves
    | with_reducible apply Leaves.ite
    | split
    | dsimp only

theorem State.dmaPut_leaves {μ : Nat} {s₀ : State} {s : State} (hl : Leaves μ s₀ s) (hμ : 0x10061fb00f210028601b ||| μ = μ) (e : Nat) (d : Desc) (bs : List Byte) :
    Leaves μ s₀ (State.dmaPut s e d bs) := by
  refine hl.step (k := 0x10061fb00f210028601b) ?_ hμ
  clear hl hμ
  unfold State.dmaPut
  try dsimp only
  repeat' first
    | with_reducible assumption
    | with_reducible exact Leaves.refl _ _
    | decide
    | with_reducible apply State.hostWrite_leaves
    | with_reducible apply State.putDesc_leaves
    | with_reducible apply State.putFor_leaves
    | with_reducible apply State.putFrame_leaves
    | with_reducible apply State.putGob_leaves
    | with_reducible apply State.putWindow_leaves
    | with_reducible apply Leaves.ite
    | with_reducible apply Leaves.iteFst
    | (refine Leaves.pair (by assumption) ?_; with_reducible apply State.putFor_leaves)
    | (refine Leaves.pair (by assumption) ?_; with_reducible apply State.putFrame_leaves)
    | (refine Leaves.pair (by assumption) ?_; with_reducible apply State.putGob_leaves)
    | (refine Leaves.pair (by assumption) ?_; with_reducible apply State.putWindow_leaves)
    | dsimp only

theorem State.flow_leaves {μ : Nat} {s₀ : State} {s : State} (hl : Leaves μ s₀ s) (hμ : 0x10061fb00f210028641b ||| μ = μ) (e slot : Nat) (ρ : Nat) :
    Leaves μ s₀ (State.flow s e slot ρ) := by
  refine hl.step (k := 0x10061fb00f210028641b) ?_ hμ
  clear hl hμ
  induction ρ generalizing s e slot with
  | zero =>
    unfold State.flow
    repeat' first
      | with_reducible assumption
      | with_reducible exact Leaves.refl _ _
      | decide
      | with_reducible apply State.dmaPut_leaves
      | with_reducible apply State.endDesc_leaves
      | with_reducible apply Leaves.ite
      | with_reducible apply Leaves.iteFst
      | split
      | dsimp only
  | succ k ih =>
    unfold State.flow
    try dsimp only
    repeat' first
      | with_reducible assumption
      | with_reducible exact Leaves.refl _ _
      | decide
      | with_reducible apply State.dmaPut_leaves
      | with_reducible apply State.endDesc_leaves
      | with_reducible apply Leaves.ite
      | with_reducible apply Leaves.iteFst
      | split
      | dsimp only
      | (with_reducible refine Leaves.step ?_ (ih ..) (by decide))

theorem State.land__leaves {μ : Nat} {s₀ : State} {s : State} (hl : Leaves μ s₀ s) (hμ : 0x10061fb00f210028641b ||| μ = μ) (e slot off : Nat) (bs : List Byte) :
    Leaves μ s₀ (State.land_ s e slot off bs) := by
  refine hl.step (k := 0x10061fb00f210028641b) ?_ hμ
  clear hl hμ
  unfold State.land_
  try dsimp only
  repeat' first
    | with_reducible assumption
    | with_reducible exact Leaves.refl _ _
    | decide
    | with_reducible apply State.flow_leaves
    | with_reducible apply State.putDesc_leaves
    | with_reducible apply State.settle_leaves
    | split
    | dsimp only

theorem State.moveHbm_leaves {μ : Nat} {s₀ : State} {s : State} (hl : Leaves μ s₀ s) (hμ : 0x10061fb00f210028641b ||| μ = μ) (e slot : Nat) (ρ : List (Nat × Nat)) :
    Leaves μ s₀ (State.moveHbm s e slot ρ) := by
  refine hl.step (k := 0x10061fb00f210028641b) ?_ hμ
  clear hl hμ
  induction ρ generalizing s e slot with
  | nil =>
    unfold State.moveHbm
    repeat' first
      | with_reducible assumption
      | with_reducible exact Leaves.refl _ _
      | decide
      | with_reducible apply State.dmaPut_leaves
      | with_reducible apply State.endDesc_leaves
      | with_reducible apply State.hbmRead_leaves
      | with_reducible apply Leaves.ite
      | with_reducible apply Leaves.iteFst
      | (refine Leaves.pair (by assumption) ?_; with_reducible apply State.hbmRead_leaves)
      | split
      | dsimp only
  | cons x xs ih =>
    unfold State.moveHbm
    try dsimp only
    repeat' first
      | with_reducible assumption
      | with_reducible exact Leaves.refl _ _
      | decide
      | with_reducible apply State.dmaPut_leaves
      | with_reducible apply State.endDesc_leaves
      | with_reducible apply State.hbmRead_leaves
      | with_reducible apply Leaves.ite
      | with_reducible apply Leaves.iteFst
      | (refine Leaves.pair (by assumption) ?_; with_reducible apply State.hbmRead_leaves)
      | split
      | dsimp only
      | (with_reducible refine Leaves.step ?_ (ih ..) (by decide))

theorem State.askPiece_leaves {μ : Nat} {s₀ : State} {s : State} (hl : Leaves μ s₀ s) (hμ : 0x10061fb00f210028641b ||| μ = μ) (e : Nat) (d : Desc) (p : Nat × Nat) :
    Leaves μ s₀ (State.askPiece s e d p) := by
  refine hl.step (k := 0x10061fb00f210028641b) ?_ hμ
  clear hl hμ
  unfold State.askPiece
  try dsimp only
  repeat' first
    | with_reducible assumption
    | with_reducible exact Leaves.refl _ _
    | decide
    | with_reducible apply State.accessErr_leaves
    | with_reducible apply State.askWindow_leaves
    | with_reducible apply State.land__leaves
    | with_reducible apply State.putDesc_leaves
    | with_reducible apply Leaves.ite
    | with_reducible apply Leaves.iteFst
    | split
    | dsimp only

theorem State.askHost_leaves {μ : Nat} {s₀ : State} {s : State} (hl : Leaves μ s₀ s) (hμ : 0x10000090000000000000 ||| μ = μ) (e tag : Nat) (d : Desc) :
    Leaves μ s₀ (State.askHost s e tag d) := by
  refine hl.step (k := 0x10000090000000000000) ?_ hμ
  clear hl hμ
  unfold State.askHost
  try dsimp only
  repeat' first
    | with_reducible assumption
    | with_reducible exact Leaves.refl _ _
    | decide
    | with_reducible apply State.emit_leaves
    | with_reducible apply State.putDesc_leaves
    | with_reducible apply Leaves.upd_pcie
    | dsimp only

theorem State.askHosts_leaves {μ : Nat} {s₀ : State} {s : State} (hl : Leaves μ s₀ s) (hμ : 0x10000090000000000000 ||| μ = μ) (ρ : Nat) :
    Leaves μ s₀ (State.askHosts s ρ) := by
  refine hl.step (k := 0x10000090000000000000) ?_ hμ
  clear hl hμ
  induction ρ generalizing s with
  | zero =>
    unfold State.askHosts
    repeat' first
      | with_reducible assumption
      | with_reducible exact Leaves.refl _ _
      | decide
      | with_reducible apply State.askHost_leaves
      | with_reducible apply Leaves.ite
      | with_reducible apply Leaves.iteFst
      | split
      | dsimp only
  | succ k ih =>
    unfold State.askHosts
    try dsimp only
    repeat' first
      | with_reducible assumption
      | with_reducible exact Leaves.refl _ _
      | decide
      | with_reducible apply State.askHost_leaves
      | with_reducible apply Leaves.ite
      | with_reducible apply Leaves.iteFst
      | split
      | dsimp only
      | (with_reducible refine Leaves.step ?_ (ih ..) (by decide))

theorem State.beginMove_leaves {μ : Nat} {s₀ : State} {s : State} (hl : Leaves μ s₀ s) (hμ : 0x10061fb00f210028641b ||| μ = μ) (e : Nat) (d : Desc) :
    Leaves μ s₀ (State.beginMove s e d) := by
  refine hl.step (k := 0x10061fb00f210028641b) ?_ hμ
  clear hl hμ
  unfold State.beginMove
  try dsimp only
  repeat' first
    | with_reducible assumption
    | with_reducible exact Leaves.refl _ _
    | decide
    | with_reducible apply State.askHosts_leaves
    | with_reducible apply State.askPiece_leaves
    | with_reducible apply State.putDesc_leaves
    | with_reducible apply Leaves.ite
    | with_reducible refine Leaves.forEach (fun _ _ _ => ?_) ?_
    | with_reducible refine Leaves.forEachFst (fun _ _ _ => ?_) ?_
    | dsimp only

theorem execDmaDescriptorStart_leaves {s s' : State} (e : Fin 16) (h : execDmaDescriptorStart e s = .next s') : Leaves 0x10061fb00f210028641b s s' := by
  unfold execDmaDescriptorStart at h
  refine act_leaves h ?_
  try dsimp only
  clear h
  repeat' first
    | with_reducible apply State.endClock_leaves
    | with_reducible assumption
    | with_reducible exact Leaves.refl _ _
    | decide
    | with_reducible apply State.beginMove_leaves
    | with_reducible apply State.endDesc_leaves
    | with_reducible apply State.knock_leaves
    | with_reducible apply State.putDesc_leaves
    | with_reducible apply Leaves.ite
    | with_reducible refine Leaves.forEach (fun _ _ _ => ?_) ?_
    | with_reducible refine Leaves.forEachFst (fun _ _ _ => ?_) ?_
    | split
    | dsimp only

theorem State.moveNow_leaves {μ : Nat} {s₀ : State} {s : State} (hl : Leaves μ s₀ s) (hμ : 0x10061fb00f210028641b ||| μ = μ) (e : Nat) (d : Desc) :
    Leaves μ s₀ (State.moveNow s e d) := by
  refine hl.step (k := 0x10061fb00f210028641b) ?_ hμ
  clear hl hμ
  unfold State.moveNow
  try dsimp only
  repeat' first
    | with_reducible assumption
    | with_reducible exact Leaves.refl _ _
    | decide
    | with_reducible apply State.dmaPut_leaves
    | with_reducible apply State.moveHbm_leaves
    | with_reducible apply State.putDesc_leaves
    | with_reducible apply Leaves.ite
    | (refine Leaves.pair (by assumption) ?_; with_reducible apply State.moveHbm_leaves)
    | dsimp only

theorem execDmaDescriptorComplete_leaves {s s' : State} (e : Fin 16) (k : Fin 64) (up : Upsets) (h : execDmaDescriptorComplete e k up s = .next s') : Leaves 0x10061fb00f210028641b s s' := by
  unfold execDmaDescriptorComplete at h
  refine act_leaves h ?_
  try dsimp only
  clear h
  repeat' first
    | with_reducible apply State.endClock_leaves
    | with_reducible assumption
    | with_reducible exact Leaves.refl _ _
    | decide
    | with_reducible apply State.endDesc_leaves
    | with_reducible apply State.finish_leaves
    | with_reducible apply State.knock_leaves
    | with_reducible apply State.moveNow_leaves
    | with_reducible apply State.settle_leaves
    | with_reducible apply State.upsets_leaves
    | with_reducible apply Leaves.ite
    | with_reducible refine Leaves.forEach (fun _ _ _ => ?_) ?_
    | with_reducible refine Leaves.forEachFst (fun _ _ _ => ?_) ?_
    | split
    | dsimp only

theorem State.cutDesc_leaves {μ : Nat} {s₀ : State} {s : State} (hl : Leaves μ s₀ s) (hμ : 0x18061fb00f210028641b ||| μ = μ) (n e : Nat) (d : Desc) :
    Leaves μ s₀ (State.cutDesc s n e d) := by
  refine hl.step (k := 0x18061fb00f210028641b) ?_ hμ
  clear hl hμ
  unfold State.cutDesc
  try dsimp only
  repeat' first
    | with_reducible assumption
    | with_reducible exact Leaves.refl _ _
    | decide
    | with_reducible apply Part.bit (F.MPU_GOB_STAT_CUT_part ..)
    | with_reducible apply Leaves.wr
    | with_reducible apply State.dmaPut_leaves
    | with_reducible apply State.drawn_leaves
    | with_reducible apply State.endDesc_leaves
    | with_reducible apply State.raise_leaves
    | with_reducible refine Leaves.forEach (fun _ _ _ => ?_) ?_
    | with_reducible refine Leaves.forEachFst (fun _ _ _ => ?_) ?_
    | dsimp only

theorem State.dmaCut_leaves {μ : Nat} {s₀ : State} {s : State} (hl : Leaves μ s₀ s) (hμ : 0x18061fb00f210028641b ||| μ = μ) (n : Nat) :
    Leaves μ s₀ (State.dmaCut s n) := by
  refine hl.step (k := 0x18061fb00f210028641b) ?_ hμ
  clear hl hμ
  unfold State.dmaCut
  try dsimp only
  repeat' first
    | with_reducible assumption
    | with_reducible exact Leaves.refl _ _
    | decide
    | with_reducible apply State.cutDesc_leaves
    | with_reducible refine Leaves.forEach (fun _ _ _ => ?_) ?_
    | with_reducible refine Leaves.forEachFst (fun _ _ _ => ?_) ?_
    | dsimp only

theorem State.dmaSync_leaves {μ : Nat} {s₀ : State} {s : State} (hl : Leaves μ s₀ s) (hμ : 0x10000000000000 ||| μ = μ) (n : Nat) :
    Leaves μ s₀ (State.dmaSync s n) := by
  refine hl.step (k := 0x10000000000000) ?_ hμ
  clear hl hμ
  unfold State.dmaSync
  try dsimp only
  repeat' first
    | with_reducible assumption
    | with_reducible exact Leaves.refl _ _
    | decide
    | with_reducible apply State.putDesc_leaves
    | with_reducible apply Leaves.ite
    | with_reducible refine Leaves.forEach (fun _ _ _ => ?_) ?_
    | with_reducible refine Leaves.forEachFst (fun _ _ _ => ?_) ?_
    | split
    | dsimp only

theorem State.setRead_leaves {μ : Nat} {s₀ : State} {s : State} (hl : Leaves μ s₀ s) (hμ : 0x80000000000000 ||| μ = μ) (r : HostRead) :
    Leaves μ s₀ (State.setRead s r) := by
  refine hl.step (k := 0x80000000000000) ?_ hμ
  clear hl hμ
  unfold State.setRead
  try dsimp only
  repeat' first
    | with_reducible assumption
    | with_reducible exact Leaves.refl _ _
    | decide
    | with_reducible apply Leaves.upd_pcie
    | with_reducible apply Leaves.ite
    | dsimp only

theorem State.hostArrives_leaves {μ : Nat} {s₀ : State} {s : State} (hl : Leaves μ s₀ s) (hμ : 0x10061fb00f210028641b ||| μ = μ) (r : HostRead) (data : List Byte) :
    Leaves μ s₀ (State.hostArrives s r data) := by
  refine hl.step (k := 0x10061fb00f210028641b) ?_ hμ
  clear hl hμ
  unfold State.hostArrives
  try dsimp only
  repeat' first
    | with_reducible assumption
    | with_reducible exact Leaves.refl _ _
    | decide
    | with_reducible apply State.askHosts_leaves
    | with_reducible apply State.land__leaves
    | with_reducible apply State.setRead_leaves
    | with_reducible apply Leaves.ite
    | dsimp only

theorem State.hostFails_leaves {μ : Nat} {s₀ : State} {s : State} (hl : Leaves μ s₀ s) (hμ : 0x10061bb00f000008241b ||| μ = μ) (r : HostRead) :
    Leaves μ s₀ (State.hostFails s r) := by
  refine hl.step (k := 0x10061bb00f000008241b) ?_ hμ
  clear hl hμ
  unfold State.hostFails
  try dsimp only
  repeat' first
    | with_reducible assumption
    | with_reducible exact Leaves.refl _ _
    | decide
    | with_reducible apply State.askHosts_leaves
    | with_reducible apply State.endDesc_leaves
    | with_reducible apply State.setRead_leaves
    | split
    | dsimp only

theorem execHostCompletion_leaves {s s' : State} (tag : Fin 768) (st : HostData) (h : execHostCompletion tag st s = .next s') : Leaves 0x10061fb00f210038641b s s' := by
  unfold execHostCompletion at h
  refine act_leaves h ?_
  try dsimp only
  clear h
  repeat' first
    | with_reducible apply State.endClock_leaves
    | with_reducible assumption
    | with_reducible exact Leaves.refl _ _
    | decide
    | with_reducible apply State.aerCor_leaves
    | with_reducible apply State.aerUncor_leaves
    | with_reducible apply State.hostArrives_leaves
    | with_reducible apply State.hostFails_leaves
    | with_reducible apply Leaves.ite
    | split
    | dsimp only

theorem execCompletionTimeout_leaves {s s' : State} (tag : Fin 768) (h : execCompletionTimeout tag s = .next s') : Leaves 0x10061bb00f000018241b s s' := by
  unfold execCompletionTimeout at h
  refine act_leaves h ?_
  try dsimp only
  clear h
  repeat' first
    | with_reducible apply State.endClock_leaves
    | with_reducible assumption
    | with_reducible exact Leaves.refl _ _
    | decide
    | with_reducible apply State.aerUncor_leaves
    | with_reducible apply State.hostFails_leaves
    | with_reducible apply Leaves.ite
    | split
    | dsimp only

end Sys2Proof.Machine
end

