-- ==== Sys2Proof/Laws/Fabric.lean ====
section
/-!
SUPPORT. What each operation of Machine/Fabric.lean leaves alone.
-/

set_option linter.all false

namespace Sys2Proof.Machine

theorem State.setGline_leaves {μ : Nat} {s₀ : State} {s : State} (hl : Leaves μ s₀ s) (hμ : 0x20000000000040 ||| μ = μ) (g : Nat) (x : GLine) :
    Leaves μ s₀ (State.setGline s g x) := by
  refine hl.step (k := 0x20000000000040) ?_ hμ
  clear hl hμ
  unfold State.setGline
  try dsimp only
  repeat' first
    | with_reducible assumption
    | with_reducible exact Leaves.refl _ _
    | decide
    | with_reducible apply Part.bit (F.CFG_CLK_STAT_PENDING_part ..)
    | with_reducible apply Leaves.wr
    | with_reducible apply Leaves.upd_fab
    | dsimp only

theorem execGlobalLineSwitch_leaves {s s' : State} (g : Fin 16) (sel oldRuns : Bool) (h : execGlobalLineSwitch g sel oldRuns s = .next s') : Leaves 0x20000000000040 s s' := by
  unfold execGlobalLineSwitch at h
  refine act_leaves h ?_
  try dsimp only
  clear h
  repeat' first
    | with_reducible apply State.endClock_leaves
    | with_reducible assumption
    | with_reducible exact Leaves.refl _ _
    | decide
    | with_reducible apply State.setGline_leaves
    | with_reducible apply Leaves.ite
    | dsimp only

theorem execClockStuck_leaves {s s' : State} (g : Fin 16) (h : execClockStuck g s = .next s') : Leaves 0x100019b0080000002050 s s' := by
  unfold execClockStuck at h
  refine act_leaves h ?_
  try dsimp only
  clear h
  repeat' first
    | with_reducible apply State.endClock_leaves
    | with_reducible assumption
    | with_reducible exact Leaves.refl _ _
    | decide
    | with_reducible apply Part.bit (F.CFG_CLK_STAT_STUCK_part ..)
    | with_reducible apply Leaves.wr
    | with_reducible apply State.raise_leaves
    | with_reducible apply State.setGline_leaves
    | with_reducible apply Leaves.ite
    | dsimp only

theorem execNewClockArrival_leaves {s s' : State} (g : Fin 16) (h : execNewClockArrival g s = .next s') : Leaves 0x20000000000040 s s' := by
  unfold execNewClockArrival at h
  refine act_leaves h ?_
  try dsimp only
  clear h
  repeat' first
    | with_reducible apply State.endClock_leaves
    | with_reducible assumption
    | with_reducible exact Leaves.refl _ _
    | decide
    | with_reducible apply State.setGline_leaves
    | with_reducible apply Leaves.ite
    | dsimp only

theorem execVccoChange_leaves {s s' : State} (b : Fin 12) (good : Bool) (h : execVccoChange b good s = .next s') : Leaves 0x10001990080000002050 s s' := by
  unfold execVccoChange at h
  refine act_leaves h ?_
  try dsimp only
  clear h
  repeat' first
    | with_reducible apply State.endClock_leaves
    | with_reducible assumption
    | with_reducible exact Leaves.refl _ _
    | decide
    | with_reducible apply Part.bit (F.CFG_IO_STAT_VCCO_OK_part ..)
    | with_reducible apply Leaves.wr
    | with_reducible apply State.raise_leaves
    | with_reducible apply Leaves.ite
    | dsimp only

theorem State.tickFab_leaves {μ : Nat} {s₀ : State} {s : State} (hl : Leaves μ s₀ s) (hμ : 0x18089db8080000002b1a ||| μ = μ)  :
    Leaves μ s₀ (State.tickFab s) := by
  refine hl.step (k := 0x18089db8080000002b1a) ?_ hμ
  clear hl hμ
  unfold State.tickFab
  try dsimp only
  repeat' first
    | with_reducible assumption
    | with_reducible exact Leaves.refl _ _
    | decide
    | with_reducible apply State.drawn_leaves
    | with_reducible apply State.tick_leaves
    | with_reducible apply Leaves.upd_fab
    | with_reducible apply Leaves.ite
    | dsimp only

theorem State.setWinOpen_leaves {μ : Nat} {s₀ : State} {s : State} (hl : Leaves μ s₀ s) (hμ : 0x20000000000000 ||| μ = μ) (k : Nat) (l : List WinReq) :
    Leaves μ s₀ (State.setWinOpen s k l) := by
  refine hl.step (k := 0x20000000000000) ?_ hμ
  clear hl hμ
  unfold State.setWinOpen
  try dsimp only
  repeat' first
    | with_reducible assumption
    | with_reducible exact Leaves.refl _ _
    | decide
    | with_reducible apply Leaves.upd_fab
    | dsimp only

theorem State.present_leaves {μ : Nat} {s₀ : State} {s : State} (hl : Leaves μ s₀ s) (hμ : 0x10000020000000000000 ||| μ = μ) (k : Nat) (r : WinReq) :
    Leaves μ s₀ (State.present s k r) := by
  refine hl.step (k := 0x10000020000000000000) ?_ hμ
  clear hl hμ
  unfold State.present
  try dsimp only
  repeat' first
    | with_reducible assumption
    | with_reducible exact Leaves.refl _ _
    | decide
    | with_reducible apply State.emit_leaves
    | with_reducible apply State.setWinOpen_leaves
    | dsimp only

theorem State.dmaWinDone_leaves {μ : Nat} {s₀ : State} {s : State} (hl : Leaves μ s₀ s) (hμ : 0x10061fb00f210028641b ||| μ = μ) (r : WinReq) (e slot off : Nat) (bs : List Byte) :
    Leaves μ s₀ (State.dmaWinDone s r e slot off bs) := by
  refine hl.step (k := 0x10061fb00f210028641b) ?_ hμ
  clear hl hμ
  unfold State.dmaWinDone
  try dsimp only
  repeat' first
    | with_reducible assumption
    | with_reducible exact Leaves.refl _ _
    | decide
    | with_reducible apply State.land__leaves
    | with_reducible apply State.putDesc_leaves
    | with_reducible apply State.settle_leaves
    | with_reducible apply Leaves.ite
    | split
    | dsimp only

theorem State.winDone_leaves {μ : Nat} {s₀ : State} {s : State} (hl : Leaves μ s₀ s) (hμ : 0x10061fb00f210028641b ||| μ = μ) (k : Nat) (r : WinReq) (bs : List Byte) :
    Leaves μ s₀ (State.winDone s k r bs) := by
  refine hl.step (k := 0x10061fb00f210028641b) ?_ hμ
  clear hl hμ
  unfold State.winDone
  try dsimp only
  repeat' first
    | with_reducible assumption
    | with_reducible exact Leaves.refl _ _
    | decide
    | with_reducible apply State.dmaWinDone_leaves
    | with_reducible apply State.emit_leaves
    | with_reducible apply Leaves.ite
    | with_reducible apply Leaves.iteFst
    | split
    | dsimp only

theorem State.winRefuse_leaves {μ : Nat} {s₀ : State} {s : State} (hl : Leaves μ s₀ s) (hμ : 0x10061fb00f210028641b ||| μ = μ) (k : Nat) (r : WinReq) :
    Leaves μ s₀ (State.winRefuse s k r) := by
  refine hl.step (k := 0x10061fb00f210028641b) ?_ hμ
  clear hl hμ
  unfold State.winRefuse
  try dsimp only
  repeat' first
    | with_reducible assumption
    | with_reducible exact Leaves.refl _ _
    | decide
    | with_reducible apply State.accessErr_leaves
    | with_reducible apply State.winDone_leaves
    | dsimp only

theorem State.serveWindow_leaves {μ : Nat} {s₀ : State} {s : State} (hl : Leaves μ s₀ s) (hμ : 0x10061fb00f210028641b ||| μ = μ) (k : Nat) :
    Leaves μ s₀ (State.serveWindow s k) := by
  refine hl.step (k := 0x10061fb00f210028641b) ?_ hμ
  clear hl hμ
  unfold State.serveWindow
  try dsimp only
  repeat' first
    | with_reducible assumption
    | with_reducible exact Leaves.refl _ _
    | decide
    | with_reducible apply State.present_leaves
    | with_reducible apply State.setWinQueue_leaves
    | with_reducible apply State.winRefuse_leaves
    | with_reducible apply Leaves.ite
    | split
    | dsimp only

theorem execWindowPortRequest_leaves {s s' : State} (k : Fin 8) (core : Option (BitVec 21 × Option (BitVec 64 × BitVec 512))) (h : execWindowPortRequest k core s = .next s') : Leaves 0x10061fb00f210028641b s s' := by
  unfold execWindowPortRequest at h
  refine act_leaves h ?_
  try dsimp only
  clear h
  repeat' first
    | with_reducible apply State.endClock_leaves
    | with_reducible assumption
    | with_reducible exact Leaves.refl _ _
    | decide
    | with_reducible apply State.serveWindow_leaves
    | with_reducible apply State.setWinQueue_leaves
    | split
    | dsimp only

theorem State.setReleased_leaves {μ : Nat} {s₀ : State} {s : State} (hl : Leaves μ s₀ s) (hμ : 0x40 ||| μ = μ) (k : Nat) (b : Bool) :
    Leaves μ s₀ (State.setReleased s k b) := by
  refine hl.step (k := 0x40) ?_ hμ
  clear hl hμ
  unfold State.setReleased
  try dsimp only
  repeat' first
    | with_reducible assumption
    | with_reducible exact Leaves.refl _ _
    | decide
    | with_reducible apply Part.bit (F.CFG_FAB_STAT_RELEASED_part ..)
    | with_reducible apply Leaves.wr
    | dsimp only

theorem State.setIsolated_leaves {μ : Nat} {s₀ : State} {s : State} (hl : Leaves μ s₀ s) (hμ : 0x40 ||| μ = μ) (k : Nat) (b : Bool) :
    Leaves μ s₀ (State.setIsolated s k b) := by
  refine hl.step (k := 0x40) ?_ hμ
  clear hl hμ
  unfold State.setIsolated
  try dsimp only
  repeat' first
    | with_reducible assumption
    | with_reducible exact Leaves.refl _ _
    | decide
    | with_reducible apply Part.bit (F.CFG_FAB_STAT_ISOLATED_part ..)
    | with_reducible apply Leaves.wr
    | dsimp only

theorem State.dropStrobes_leaves {μ : Nat} {s₀ : State} {s : State} (hl : Leaves μ s₀ s) (hμ : 0x1000000000040 ||| μ = μ) (k : Nat) :
    Leaves μ s₀ (State.dropStrobes s k) := by
  refine hl.step (k := 0x1000000000040) ?_ hμ
  clear hl hμ
  unfold State.dropStrobes
  try dsimp only
  repeat' first
    | with_reducible assumption
    | with_reducible exact Leaves.refl _ _
    | decide
    | with_reducible apply Part.bit (F.CFG_TRIG_DROP_CNT_COUNT_part ..)
    | with_reducible apply Leaves.bumpBy
    | with_reducible apply Leaves.upd_strobes
    | dsimp only

theorem State.flushQueue_leaves {μ : Nat} {s₀ : State} {s : State} (hl : Leaves μ s₀ s) (hμ : 0x10061fb00f210028641b ||| μ = μ) (k : Nat) :
    Leaves μ s₀ (State.flushQueue s k) := by
  refine hl.step (k := 0x10061fb00f210028641b) ?_ hμ
  clear hl hμ
  unfold State.flushQueue
  try dsimp only
  repeat' first
    | with_reducible assumption
    | with_reducible exact Leaves.refl _ _
    | decide
    | with_reducible apply State.setWinQueue_leaves
    | with_reducible apply State.winRefuse_leaves
    | with_reducible refine Leaves.forEach (fun _ _ _ => ?_) ?_
    | with_reducible refine Leaves.forEachFst (fun _ _ _ => ?_) ?_
    | dsimp only

theorem State.holdPart_leaves {μ : Nat} {s₀ : State} {s : State} (hl : Leaves μ s₀ s) (hμ : 0x20000000000000 ||| μ = μ) (k : Nat) :
    Leaves μ s₀ (State.holdPart s k) := by
  refine hl.step (k := 0x20000000000000) ?_ hμ
  clear hl hμ
  unfold State.holdPart
  try dsimp only
  repeat' first
    | with_reducible assumption
    | with_reducible exact Leaves.refl _ _
    | decide
    | with_reducible apply Leaves.upd_fab
    | dsimp only

theorem State.latchEdges_leaves {μ : Nat} {s₀ : State} {s : State} (hl : Leaves μ s₀ s) (hμ : 0x20000000000000 ||| μ = μ) (k : Nat) :
    Leaves μ s₀ (State.latchEdges s k) := by
  refine hl.step (k := 0x20000000000000) ?_ hμ
  clear hl hμ
  unfold State.latchEdges
  try dsimp only
  repeat' first
    | with_reducible assumption
    | with_reducible exact Leaves.refl _ _
    | decide
    | with_reducible apply Leaves.upd_fab
    | dsimp only

theorem State.isolatePart_leaves {μ : Nat} {s₀ : State} {s : State} (hl : Leaves μ s₀ s) (hμ : 0x21000000000040 ||| μ = μ) (k : Nat) :
    Leaves μ s₀ (State.isolatePart s k) := by
  refine hl.step (k := 0x21000000000040) ?_ hμ
  clear hl hμ
  unfold State.isolatePart
  try dsimp only
  repeat' first
    | with_reducible assumption
    | with_reducible exact Leaves.refl _ _
    | decide
    | with_reducible apply State.dropStrobes_leaves
    | with_reducible apply State.holdPart_leaves
    | with_reducible apply State.latchEdges_leaves
    | with_reducible apply State.setIsolated_leaves
    | with_reducible apply State.setReleased_leaves
    | with_reducible apply State.setWinOpen_leaves
    | dsimp only

theorem State.tryIsolate_leaves {μ : Nat} {s₀ : State} {s : State} (hl : Leaves μ s₀ s) (hμ : 0x21000000000040 ||| μ = μ) (k : Nat) :
    Leaves μ s₀ (State.tryIsolate s k) := by
  refine hl.step (k := 0x21000000000040) ?_ hμ
  clear hl hμ
  unfold State.tryIsolate
  try dsimp only
  repeat' first
    | with_reducible assumption
    | with_reducible exact Leaves.refl _ _
    | decide
    | with_reducible apply State.isolatePart_leaves
    | with_reducible apply Leaves.ite
    | dsimp only

theorem State.drainPart_leaves {μ : Nat} {s₀ : State} {s : State} (hl : Leaves μ s₀ s) (hμ : 0x10061fb10f210028645b ||| μ = μ) (k : Nat) :
    Leaves μ s₀ (State.drainPart s k) := by
  refine hl.step (k := 0x10061fb10f210028645b) ?_ hμ
  clear hl hμ
  unfold State.drainPart
  try dsimp only
  repeat' first
    | with_reducible assumption
    | with_reducible exact Leaves.refl _ _
    | decide
    | with_reducible apply State.flushQueue_leaves
    | with_reducible apply State.tryIsolate_leaves
    | with_reducible apply Leaves.upd_fab
    | dsimp only

theorem State.undrain_leaves {μ : Nat} {s₀ : State} {s : State} (hl : Leaves μ s₀ s) (hμ : 0x20000000000000 ||| μ = μ)  :
    Leaves μ s₀ (State.undrain s) := by
  refine hl.step (k := 0x20000000000000) ?_ hμ
  clear hl hμ
  unfold State.undrain
  try dsimp only
  repeat' first
    | with_reducible assumption
    | with_reducible exact Leaves.refl _ _
    | decide
    | with_reducible apply Leaves.upd_fab
    | dsimp only

theorem execWindowPortAnswer_leaves {s s' : State} (k : Fin 8) (data : BitVec 512) (h : execWindowPortAnswer k data s = .next s') : Leaves 0x10061fb10f210028645b s s' := by
  unfold execWindowPortAnswer at h
  refine act_leaves h ?_
  try dsimp only
  clear h
  repeat' first
    | with_reducible apply State.endClock_leaves
    | with_reducible assumption
    | with_reducible exact Leaves.refl _ _
    | decide
    | with_reducible apply State.setWinOpen_leaves
    | with_reducible apply State.tryIsolate_leaves
    | with_reducible apply State.winDone_leaves
    | with_reducible apply Leaves.ite
    | split
    | dsimp only

theorem State.winTimedOut_leaves {μ : Nat} {s₀ : State} {s : State} (hl : Leaves μ s₀ s) (hμ : 0x10061fb10f210028645b ||| μ = μ) (k : Nat) (r : WinReq) :
    Leaves μ s₀ (State.winTimedOut s k r) := by
  refine hl.step (k := 0x10061fb10f210028645b) ?_ hμ
  clear hl hμ
  unfold State.winTimedOut
  try dsimp only
  repeat' first
    | with_reducible assumption
    | with_reducible exact Leaves.refl _ _
    | decide
    | with_reducible apply Part.bit (F.CFG_WIN_TO_CNT_COUNT_part ..)
    | with_reducible apply Part.bit (F.CFG_WIN_STAT_TIMEOUT_part ..)
    | with_reducible apply Leaves.bump
    | with_reducible apply Leaves.wr
    | with_reducible apply State.raise_leaves
    | with_reducible apply State.tryIsolate_leaves
    | with_reducible apply State.winDone_leaves
    | dsimp only

theorem execWindowTimeout_leaves {s s' : State} (k : Fin 8) (h : execWindowTimeout k s = .next s') : Leaves 0x10061fb10f210028645b s s' := by
  unfold execWindowTimeout at h
  refine act_leaves h ?_
  try dsimp only
  clear h
  repeat' first
    | with_reducible apply State.endClock_leaves
    | with_reducible assumption
    | with_reducible exact Leaves.refl _ _
    | decide
    | with_reducible apply State.setWinOpen_leaves
    | with_reducible apply State.setWinQueue_leaves
    | with_reducible apply State.winTimedOut_leaves
    | split
    | dsimp only

end Sys2Proof.Machine
end

