-- ==== Sys2Proof/Laws/Host.lean ====
section
/-!
SUPPORT. What each operation of Machine/Host.lean leaves alone.
-/

set_option linter.all false

namespace Sys2Proof.Machine

theorem execPciePerstDeassert_leaves {s s' : State}  (h : execPciePerstDeassert s = .next s') : Leaves 0x80000000000000 s s' := by
  unfold execPciePerstDeassert at h
  refine actPcie_leaves h ?_
  try dsimp only
  clear h
  repeat' first
    | with_reducible apply State.endClock_leaves
    | with_reducible assumption
    | with_reducible exact Leaves.refl _ _
    | decide
    | with_reducible apply Leaves.upd_pcie
    | dsimp only

theorem State.linkUp_leaves {μ : Nat} {s₀ : State} {s : State} (hl : Leaves μ s₀ s) (hμ : 0x10001990080000102010 ||| μ = μ) (speed width : Nat) :
    Leaves μ s₀ (State.linkUp s speed width) := by
  refine hl.step (k := 0x10001990080000102010) ?_ hμ
  clear hl hμ
  unfold State.linkUp
  try dsimp only
  repeat' first
    | with_reducible assumption
    | with_reducible exact Leaves.refl _ _
    | decide
    | with_reducible apply Part.bit (F.PCI_STAT_L0_part ..)
    | with_reducible apply Part.bit (F.PCI_STAT_SPEED_part ..)
    | with_reducible apply Part.bit (F.PCI_STAT_WIDTH_part ..)
    | with_reducible apply Leaves.wr
    | with_reducible apply State.askHosts_leaves
    | with_reducible apply State.raise_leaves
    | with_reducible apply State.sendPosted_leaves
    | dsimp only

theorem execPcieReady_leaves {s s' : State} (speed width : Fin 5) (h : execPcieReady speed width s = .next s') : Leaves 0x10001990080000102010 s s' := by
  unfold execPcieReady at h
  refine actPcie_leaves h ?_
  try dsimp only
  clear h
  repeat' first
    | with_reducible apply State.endClock_leaves
    | with_reducible assumption
    | with_reducible exact Leaves.refl _ _
    | decide
    | with_reducible apply Part.bit (F.PCI_STAT_READY_part ..)
    | with_reducible apply Leaves.wr
    | with_reducible apply State.linkUp_leaves
    | with_reducible apply Leaves.ite
    | dsimp only

theorem execPcieLinkUp_leaves {s s' : State} (speed width : Fin 5) (h : execPcieLinkUp speed width s = .next s') : Leaves 0x10001990080000102010 s s' := by
  unfold execPcieLinkUp at h
  refine actPcie_leaves h ?_
  try dsimp only
  clear h
  repeat' first
    | with_reducible apply State.endClock_leaves
    | with_reducible assumption
    | with_reducible exact Leaves.refl _ _
    | decide
    | with_reducible apply State.linkUp_leaves
    | with_reducible apply Leaves.ite
    | dsimp only

theorem State.emptyQueue_leaves {μ : Nat} {s₀ : State} {s : State} (hl : Leaves μ s₀ s) (hμ : 0x40000000100000 ||| μ = μ)  :
    Leaves μ s₀ (State.emptyQueue s) := by
  refine hl.step (k := 0x40000000100000) ?_ hμ
  clear hl hμ
  unfold State.emptyQueue
  try dsimp only
  repeat' first
    | with_reducible assumption
    | with_reducible exact Leaves.refl _ _
    | decide
    | (intro i hi; simp only [MbxCmd.entry, FaultRec.logWords, List.length_cons, List.length_nil, List.length_map, upTo, List.length_range] at hi; exact Part.bit (regPart_pciRegs (by omega) (by omega)) (by decide))
    | with_reducible apply Leaves.setWords
    | with_reducible apply Leaves.upd_mbx
    | with_reducible apply Leaves.ite
    | dsimp only

theorem State.cfgReset_leaves {μ : Nat} {s₀ : State} {s : State} (hl : Leaves μ s₀ s) (hμ : 0x180000000000000 ||| μ = μ)  :
    Leaves μ s₀ (State.cfgReset s) := by
  refine hl.step (k := 0x180000000000000) ?_ hμ
  clear hl hμ
  unfold State.cfgReset
  try dsimp only
  repeat' first
    | with_reducible assumption
    | with_reducible exact Leaves.refl _ _
    | decide
    | with_reducible apply Leaves.upd_bar4
    | with_reducible apply Leaves.upd_pcie
    | dsimp only

theorem State.pcieReset_leaves {μ : Nat} {s₀ : State} {s : State} (hl : Leaves μ s₀ s) (hμ : 0x10061bf00f000018241b ||| μ = μ)  :
    Leaves μ s₀ (State.pcieReset s) := by
  refine hl.step (k := 0x10061bf00f000018241b) ?_ hμ
  clear hl hμ
  unfold State.pcieReset
  try dsimp only
  repeat' first
    | with_reducible assumption
    | with_reducible exact Leaves.refl _ _
    | decide
    | with_reducible apply Part.bit (F.PCI_STAT_READY_part ..)
    | with_reducible apply Part.bit (F.PCI_STAT_RESET_SEEN_part ..)
    | with_reducible apply Leaves.wr
    | with_reducible apply State.abortDescs_leaves
    | with_reducible apply State.cfgReset_leaves
    | with_reducible apply State.emptyQueue_leaves
    | with_reducible apply State.raise_leaves
    | with_reducible refine Leaves.forEach (fun _ _ _ => ?_) ?_
    | with_reducible refine Leaves.forEachFst (fun _ _ _ => ?_) ?_
    | dsimp only

theorem State.linkOff_leaves {μ : Nat} {s₀ : State} {s : State} (hl : Leaves μ s₀ s) (hμ : 0x100000 ||| μ = μ)  :
    Leaves μ s₀ (State.linkOff s) := by
  refine hl.step (k := 0x100000) ?_ hμ
  clear hl hμ
  unfold State.linkOff
  try dsimp only
  repeat' first
    | with_reducible assumption
    | with_reducible exact Leaves.refl _ _
    | decide
    | with_reducible apply Part.bit (F.PCI_STAT_L0_part ..)
    | with_reducible apply Part.bit (F.PCI_STAT_SPEED_part ..)
    | with_reducible apply Part.bit (F.PCI_STAT_WIDTH_part ..)
    | with_reducible apply Leaves.wr
    | dsimp only

theorem State.losePosted_leaves {μ : Nat} {s₀ : State} {s : State} (hl : Leaves μ s₀ s) (hμ : 0x10061bb00f000008241b ||| μ = μ) (e : Nat) :
    Leaves μ s₀ (State.losePosted s e) := by
  refine hl.step (k := 0x10061bb00f000008241b) ?_ hμ
  clear hl hμ
  unfold State.losePosted
  try dsimp only
  repeat' first
    | with_reducible assumption
    | with_reducible exact Leaves.refl _ _
    | decide
    | with_reducible apply State.endDesc_leaves
    | with_reducible apply State.putDesc_leaves
    | with_reducible refine Leaves.forEach (fun _ _ _ => ?_) ?_
    | with_reducible refine Leaves.forEachFst (fun _ _ _ => ?_) ?_
    | split
    | dsimp only

theorem State.dropPosted_leaves {μ : Nat} {s₀ : State} {s : State} (hl : Leaves μ s₀ s) (hμ : 0x80000000100000 ||| μ = μ)  :
    Leaves μ s₀ (State.dropPosted s) := by
  refine hl.step (k := 0x80000000100000) ?_ hμ
  clear hl hμ
  unfold State.dropPosted
  try dsimp only
  repeat' first
    | with_reducible assumption
    | with_reducible exact Leaves.refl _ _
    | decide
    | with_reducible apply Part.bit (F.PCI_DROP_CNT_COUNT_part ..)
    | with_reducible apply Leaves.bumpBy
    | with_reducible apply Leaves.upd_pcie
    | dsimp only

theorem State.linkReset_leaves {μ : Nat} {s₀ : State} {s : State} (hl : Leaves μ s₀ s) (hμ : 0x10061bf00f000018241b ||| μ = μ)  :
    Leaves μ s₀ (State.linkReset s) := by
  refine hl.step (k := 0x10061bf00f000018241b) ?_ hμ
  clear hl hμ
  unfold State.linkReset
  try dsimp only
  repeat' first
    | with_reducible assumption
    | with_reducible exact Leaves.refl _ _
    | decide
    | with_reducible apply State.dropPosted_leaves
    | with_reducible apply State.linkOff_leaves
    | with_reducible apply State.losePosted_leaves
    | with_reducible apply State.pcieReset_leaves
    | with_reducible apply State.settle_leaves
    | with_reducible refine Leaves.forEach (fun _ _ _ => ?_) ?_
    | with_reducible refine Leaves.forEachFst (fun _ _ _ => ?_) ?_
    | dsimp only

theorem execFundamentalReset_leaves {s s' : State}  (h : execFundamentalReset s = .next s') : Leaves 0x10061bf00f000018241b s s' := by
  unfold execFundamentalReset at h
  refine actPcie_leaves h ?_
  try dsimp only
  clear h
  repeat' first
    | with_reducible apply State.endClock_leaves
    | with_reducible assumption
    | with_reducible exact Leaves.refl _ _
    | decide
    | with_reducible apply State.linkReset_leaves
    | with_reducible apply Leaves.upd_pcie
    | dsimp only

theorem execHotReset_leaves {s s' : State}  (h : execHotReset s = .next s') : Leaves 0x10061bf00f000018241b s s' := by
  unfold execHotReset at h
  refine actPcie_leaves h ?_
  try dsimp only
  clear h
  repeat' first
    | with_reducible apply State.endClock_leaves
    | with_reducible assumption
    | with_reducible exact Leaves.refl _ _
    | decide
    | with_reducible apply State.linkReset_leaves
    | dsimp only

theorem execPcieLinkDown_leaves {s s' : State}  (h : execPcieLinkDown s = .next s') : Leaves 0x10061bf00f000018241b s s' := by
  unfold execPcieLinkDown at h
  refine actPcie_leaves h ?_
  try dsimp only
  clear h
  repeat' first
    | with_reducible apply State.endClock_leaves
    | with_reducible assumption
    | with_reducible exact Leaves.refl _ _
    | decide
    | with_reducible apply State.linkReset_leaves
    | dsimp only

theorem execFunctionLevelReset_leaves {s s' : State}  (h : execFunctionLevelReset s = .next s') : Leaves 0x10061bf00f000018241b s s' := by
  unfold execFunctionLevelReset at h
  refine actPcie_leaves h ?_
  try dsimp only
  clear h
  repeat' first
    | with_reducible apply State.endClock_leaves
    | with_reducible assumption
    | with_reducible exact Leaves.refl _ _
    | decide
    | with_reducible apply State.pcieReset_leaves
    | dsimp only

theorem State.sendPending_leaves {μ : Nat} {s₀ : State} {s : State} (hl : Leaves μ s₀ s) (hμ : 0x10000180000000000000 ||| μ = μ)  :
    Leaves μ s₀ (State.sendPending s) := by
  refine hl.step (k := 0x10000180000000000000) ?_ hμ
  clear hl hμ
  unfold State.sendPending
  try dsimp only
  repeat' first
    | with_reducible assumption
    | with_reducible exact Leaves.refl _ _
    | decide
    | with_reducible apply State.sendMsix_leaves
    | with_reducible apply State.setPba_leaves
    | with_reducible apply Leaves.ite
    | with_reducible refine Leaves.forEach (fun _ _ _ => ?_) ?_
    | with_reducible refine Leaves.forEachFst (fun _ _ _ => ?_) ?_
    | dsimp only

theorem State.configure_leaves {μ : Nat} {s₀ : State} {s : State} (hl : Leaves μ s₀ s) (hμ : 0x18001990080000002010 ||| μ = μ) (q : CfgReq) :
    Leaves μ s₀ (State.configure s q) := by
  refine hl.step (k := 0x18001990080000002010) ?_ hμ
  clear hl hμ
  unfold State.configure
  try dsimp only
  repeat' first
    | with_reducible assumption
    | with_reducible exact Leaves.refl _ _
    | decide
    | with_reducible apply State.askHosts_leaves
    | with_reducible apply State.drawn_leaves
    | with_reducible apply State.emit_leaves
    | with_reducible apply State.raise_leaves
    | with_reducible apply State.sendPending_leaves
    | with_reducible apply State.sendPosted_leaves
    | with_reducible apply Leaves.upd_pcie
    | with_reducible apply Leaves.ite
    | split
    | dsimp only

theorem execConfigurationRequest_leaves {s s' : State} (q : CfgReq) (h : execConfigurationRequest q s = .next s') : Leaves 0x18001990080000002010 s s' := by
  unfold execConfigurationRequest at h
  refine actPcie_leaves h ?_
  try dsimp only
  clear h
  repeat' first
    | with_reducible apply State.endClock_leaves
    | with_reducible assumption
    | with_reducible exact Leaves.refl _ _
    | decide
    | with_reducible apply State.configure_leaves
    | with_reducible apply State.emit_leaves
    | with_reducible apply Leaves.ite
    | dsimp only

theorem State.bar4Write_leaves {μ : Nat} {s₀ : State} {s : State} (hl : Leaves μ s₀ s) (hμ : 0x100000000000000 ||| μ = μ) (a : Nat) (b : Byte) :
    Leaves μ s₀ (State.bar4Write s a b) := by
  refine hl.step (k := 0x100000000000000) ?_ hμ
  clear hl hμ
  unfold State.bar4Write
  try dsimp only
  repeat' first
    | with_reducible assumption
    | with_reducible exact Leaves.refl _ _
    | decide
    | with_reducible apply State.setBar4_leaves
    | with_reducible apply Leaves.ite
    | dsimp only

theorem execBar4Request_leaves {s s' : State} (off : BitVec 16) (n : Fin 9) (w : Option (BitVec 64)) (tlp : Tlp) (h : execBar4Request off n w tlp s = .next s') : Leaves 0x10001990080000102010 s s' := by
  unfold execBar4Request at h
  refine actPcie_leaves h ?_
  try dsimp only
  clear h
  repeat' first
    | with_reducible apply State.endClock_leaves
    | with_reducible assumption
    | with_reducible exact Leaves.refl _ _
    | decide
    | with_reducible apply State.bar4Write_leaves
    | with_reducible apply State.dropTlp_leaves
    | with_reducible apply State.emit_leaves
    | with_reducible apply State.sendPending_leaves
    | with_reducible apply State.unsupported_leaves
    | with_reducible apply Leaves.ite
    | with_reducible refine Leaves.forEach (fun _ _ _ => ?_) ?_
    | with_reducible refine Leaves.forEachFst (fun _ _ _ => ?_) ?_
    | split
    | dsimp only

theorem execMsixUnmask_leaves {s s' : State} (v : Fin 2048) (h : execMsixUnmask v s = .next s') : Leaves 0x10000180000000000000 s s' := by
  unfold execMsixUnmask at h
  refine actPcie_leaves h ?_
  try dsimp only
  clear h
  repeat' first
    | with_reducible apply State.endClock_leaves
    | with_reducible assumption
    | with_reducible exact Leaves.refl _ _
    | decide
    | with_reducible apply State.sendMsix_leaves
    | with_reducible apply State.setBar4_leaves
    | with_reducible apply State.setPba_leaves
    | with_reducible apply Leaves.ite
    | dsimp only

theorem execUnsupportedRequest_leaves {s s' : State} (posted : Bool) (h : execUnsupportedRequest posted s = .next s') : Leaves 0x10001990080000102010 s s' := by
  unfold execUnsupportedRequest at h
  refine actPcie_leaves h ?_
  try dsimp only
  clear h
  repeat' first
    | with_reducible apply State.endClock_leaves
    | with_reducible assumption
    | with_reducible exact Leaves.refl _ _
    | decide
    | with_reducible apply State.unsupported_leaves
    | dsimp only

theorem State.handOver_leaves {μ : Nat} {s₀ : State} {s : State} (hl : Leaves μ s₀ s) (hμ : 0x40000000000000 ||| μ = μ) (c : MbxCmd) :
    Leaves μ s₀ (State.handOver s c) := by
  refine hl.step (k := 0x40000000000000) ?_ hμ
  clear hl hμ
  unfold State.handOver
  try dsimp only
  repeat' first
    | with_reducible assumption
    | with_reducible exact Leaves.refl _ _
    | decide
    | with_reducible apply Leaves.upd_mbx
    | with_reducible apply Leaves.ite
    | dsimp only

theorem State.takeQueue_leaves {μ : Nat} {s₀ : State} {s : State} (hl : Leaves μ s₀ s) (hμ : 0x40000000100000 ||| μ = μ) (ρ : Nat) :
    Leaves μ s₀ (State.takeQueue s ρ) := by
  refine hl.step (k := 0x40000000100000) ?_ hμ
  clear hl hμ
  induction ρ generalizing s with
  | zero =>
    unfold State.takeQueue
    repeat' first
      | with_reducible assumption
      | with_reducible exact Leaves.refl _ _
      | decide
      | with_reducible apply Part.bit (F.PCI_MBX_HEAD_HEAD_part ..)
      | with_reducible apply Leaves.wr
      | with_reducible apply State.handOver_leaves
      | with_reducible apply Leaves.ite
      | dsimp only
  | succ k ih =>
    unfold State.takeQueue
    try dsimp only
    repeat' first
      | with_reducible assumption
      | with_reducible exact Leaves.refl _ _
      | decide
      | with_reducible apply Part.bit (F.PCI_MBX_HEAD_HEAD_part ..)
      | with_reducible apply Leaves.wr
      | with_reducible apply State.handOver_leaves
      | with_reducible apply Leaves.ite
      | dsimp only
      | (with_reducible refine Leaves.step ?_ (ih ..) (by decide))

theorem State.mbxTail_leaves {μ : Nat} {s₀ : State} {s : State} (hl : Leaves μ s₀ s) (hμ : 0x100019d0080000102010 ||| μ = μ) (v : Nat) :
    Leaves μ s₀ (State.mbxTail s v) := by
  refine hl.step (k := 0x100019d0080000102010) ?_ hμ
  clear hl hμ
  unfold State.mbxTail
  try dsimp only
  repeat' first
    | with_reducible assumption
    | with_reducible exact Leaves.refl _ _
    | decide
    | with_reducible apply Part.bit (F.PCI_MBX_STAT_OVF_part ..)
    | with_reducible apply Part.bit (F.PCI_MBX_TAIL_TAIL_part ..)
    | with_reducible apply Leaves.wr
    | with_reducible apply State.raise_leaves
    | with_reducible apply State.takeQueue_leaves
    | with_reducible apply Leaves.ite
    | dsimp only

theorem execBadOpcode_leaves {s s' : State}  (h : execBadOpcode s = .next s') : Leaves 0x110019d0080000102010 s s' := by
  unfold execBadOpcode at h
  refine act_leaves h ?_
  try dsimp only
  clear h
  repeat' first
    | with_reducible apply State.endClock_leaves
    | with_reducible assumption
    | with_reducible exact Leaves.refl _ _
    | decide
    | with_reducible apply State.complete_leaves
    | with_reducible apply Leaves.upd_mbx
    | with_reducible apply Leaves.ite
    | split
    | dsimp only

end Sys2Proof.Machine
end

