-- ==== Sys2Proof/Laws/Debug.lean ====
section
/-!
SUPPORT. What each operation of Machine/Debug.lean leaves alone.
-/

set_option linter.all false

namespace Sys2Proof.Machine

theorem State.answerRead_leaves {μ : Nat} {s₀ : State} {s : State} (hl : Leaves μ s₀ s) (hμ : 0x11000000000000000000 ||| μ = μ) (p : Path) (off val : Nat) (err : Bool) :
    Leaves μ s₀ (State.answerRead s p off val err) := by
  refine hl.step (k := 0x11000000000000000000) ?_ hμ
  clear hl hμ
  unfold State.answerRead
  try dsimp only
  repeat' first
    | with_reducible assumption
    | with_reducible exact Leaves.refl _ _
    | decide
    | with_reducible apply State.emit_leaves
    | with_reducible apply Leaves.upd_jtag
    | split
    | dsimp only

theorem State.serveDm_leaves {μ : Nat} {s₀ : State} {s : State} (hl : Leaves μ s₀ s) (hμ : 0x13000000000000000000 ||| μ = μ)  :
    Leaves μ s₀ (State.serveDm s) := by
  refine hl.step (k := 0x13000000000000000000) ?_ hμ
  clear hl hμ
  unfold State.serveDm
  try dsimp only
  repeat' first
    | with_reducible assumption
    | with_reducible exact Leaves.refl _ _
    | decide
    | with_reducible apply State.answerRead_leaves
    | with_reducible apply Leaves.upd_dbgReads
    | with_reducible refine Leaves.forEach (fun _ _ _ => ?_) ?_
    | with_reducible refine Leaves.forEachFst (fun _ _ _ => ?_) ?_
    | dsimp only

theorem State.captureEntry_leaves {μ : Nat} {s₀ : State} {s : State} (hl : Leaves μ s₀ s) (hμ : 0x80000000000000000 ||| μ = μ) (i : Nat) :
    Leaves μ s₀ (State.captureEntry s i) := by
  refine hl.step (k := 0x80000000000000000) ?_ hμ
  clear hl hμ
  unfold State.captureEntry
  try dsimp only
  repeat' first
    | with_reducible assumption
    | with_reducible exact Leaves.refl _ _
    | decide
    | with_reducible apply Leaves.upd_lehr
    | split
    | dsimp only

theorem State.captureSave_leaves {μ : Nat} {s₀ : State} {s : State} (hl : Leaves μ s₀ s) (hμ : 0x80000000000000002 ||| μ = μ)  :
    Leaves μ s₀ (State.captureSave s) := by
  refine hl.step (k := 0x80000000000000002) ?_ hμ
  clear hl hμ
  unfold State.captureSave
  try dsimp only
  repeat' first
    | with_reducible assumption
    | with_reducible exact Leaves.refl _ _
    | decide
    | with_reducible apply Part.bit (F.PWR_SAVE_CFG_CAPTURED_part ..)
    | with_reducible apply Leaves.wr
    | with_reducible apply State.captureEntry_leaves
    | with_reducible refine Leaves.forEach (fun _ _ _ => ?_) ?_
    | with_reducible refine Leaves.forEachFst (fun _ _ _ => ?_) ?_
    | dsimp only

end Sys2Proof.Machine
end

