-- ==== Sys2Proof/Laws/Cycle.lean ====
section
/-!
SUPPORT. What each operation of Machine/Cycle.lean leaves alone.
-/

set_option linter.all false

namespace Sys2Proof.Machine

theorem State.loadLatches_leaves {μ : Nat} {s₀ : State} {s : State} (hl : Leaves μ s₀ s) (hμ : 0x2001004000 ||| μ = μ) (n : Nat) :
    Leaves μ s₀ (State.loadLatches s n) := by
  refine hl.step (k := 0x2001004000) ?_ hμ
  clear hl hμ
  unfold State.loadLatches
  try dsimp only
  repeat' first
    | with_reducible assumption
    | with_reducible exact Leaves.refl _ _
    | decide
    | with_reducible apply State.loadLatch_leaves
    | with_reducible refine Leaves.forEach (fun _ _ _ => ?_) ?_
    | with_reducible refine Leaves.forEachFst (fun _ _ _ => ?_) ?_
    | dsimp only

theorem State.freshTile_leaves {μ : Nat} {s₀ : State} {s : State} (hl : Leaves μ s₀ s) (hμ : 0x20c0000000 ||| μ = μ) (t : Nat) :
    Leaves μ s₀ (State.freshTile s t) := by
  refine hl.step (k := 0x20c0000000) ?_ hμ
  clear hl hμ
  unfold State.freshTile
  try dsimp only
  repeat' first
    | with_reducible assumption
    | with_reducible exact Leaves.refl _ _
    | decide
    | with_reducible apply State.setTile_leaves
    | with_reducible apply Leaves.upd_results
    | exact fun h => Tab.wf_clear _ _ _ h
    | exact fun h => Tab.wf_set _ _ _ h
    | exact fun h => Bytes.wf_write _ _ h
    | exact fun h => Bytes.wf_set _ _ h
    | exact fun h => bufSet_wf _ _ h
    | exact fun h => Tab.wf_filter _ _ h
    | with_reducible apply Leaves.upd_stamps
    | dsimp only

theorem State.startCycle_leaves {μ : Nat} {s₀ : State} {s : State} (hl : Leaves μ s₀ s) (hμ : 0x60c0001000 ||| μ = μ) (n : Nat) (c : Cycle) (o : SpecialOps) :
    Leaves μ s₀ (State.startCycle s n c o) := by
  refine hl.step (k := 0x60c0001000) ?_ hμ
  clear hl hμ
  unfold State.startCycle
  try dsimp only
  repeat' first
    | with_reducible assumption
    | with_reducible exact Leaves.refl _ _
    | decide
    | with_reducible apply Part.bit (F.GAF_STATUS_WIN_part ..)
    | with_reducible apply Part.bit (F.GAF_STATUS_STATE_part ..)
    | (with_reducible apply Part.bit (p := .gafRegs) <;> first | decide | exact regPart_gafRegs (by omega) (by omega) (by omega))
    | with_reducible apply Leaves.wr
    | with_reducible apply Leaves.wr64
    | with_reducible apply State.freshTile_leaves
    | with_reducible apply State.setGaf_leaves
    | with_reducible refine Leaves.forEach (fun _ _ _ => ?_) ?_
    | with_reducible refine Leaves.forEachFst (fun _ _ _ => ?_) ?_
    | dsimp only

theorem State.dispatch_leaves {μ : Nat} {s₀ : State} {s : State} (hl : Leaves μ s₀ s) (hμ : 0x60c1005000 ||| μ = μ) (n : Nat) (c : Cycle) :
    Leaves μ s₀ (State.dispatch s n c) := by
  refine hl.step (k := 0x60c1005000) ?_ hμ
  clear hl hμ
  unfold State.dispatch
  try dsimp only
  repeat' first
    | with_reducible assumption
    | with_reducible exact Leaves.refl _ _
    | decide
    | with_reducible apply State.loadLatches_leaves
    | with_reducible apply State.setGaf_leaves
    | with_reducible apply State.startCycle_leaves
    | dsimp only

theorem State.armedDone_leaves {μ : Nat} {s₀ : State} {s : State} (hl : Leaves μ s₀ s) (hμ : 0x110019d0084000103018 ||| μ = μ) (n : Nat) :
    Leaves μ s₀ (State.armedDone s n) := by
  refine hl.step (k := 0x110019d0084000103018) ?_ hμ
  clear hl hμ
  unfold State.armedDone
  try dsimp only
  repeat' first
    | with_reducible assumption
    | with_reducible exact Leaves.refl _ _
    | decide
    | with_reducible apply State.armed_leaves
    | with_reducible apply State.regionDone_leaves
    | dsimp only

theorem State.wakeStart_leaves {μ : Nat} {s₀ : State} {s : State} (hl : Leaves μ s₀ s) (hμ : 0xe831005100 ||| μ = μ) (n : Nat) :
    Leaves μ s₀ (State.wakeStart s n) := by
  refine hl.step (k := 0xe831005100) ?_ hμ
  clear hl hμ
  unfold State.wakeStart
  try dsimp only
  repeat' first
    | with_reducible assumption
    | with_reducible exact Leaves.refl _ _
    | decide
    | with_reducible apply State.setGaf_leaves
    | with_reducible apply State.startR44_leaves
    | split
    | dsimp only

theorem State.goOn_leaves {μ : Nat} {s₀ : State} {s : State} (hl : Leaves μ s₀ s) (hμ : 0x110019d008e831107118 ||| μ = μ) (n : Nat) :
    Leaves μ s₀ (State.goOn s n) := by
  refine hl.step (k := 0x110019d008e831107118) ?_ hμ
  clear hl hμ
  unfold State.goOn
  try dsimp only
  repeat' first
    | with_reducible assumption
    | with_reducible exact Leaves.refl _ _
    | decide
    | with_reducible apply State.armedDone_leaves
    | with_reducible apply State.startR44_leaves
    | with_reducible apply Leaves.ite
    | split
    | dsimp only

theorem State.beginStart_leaves {μ : Nat} {s₀ : State} {s : State} (hl : Leaves μ s₀ s) (hμ : 0x110419d008e83110711a ||| μ = μ) (n : Nat) (restart : Bool) :
    Leaves μ s₀ (State.beginStart s n restart) := by
  refine hl.step (k := 0x110419d008e83110711a) ?_ hμ
  clear hl hμ
  unfold State.beginStart
  try dsimp only
  repeat' first
    | with_reducible assumption
    | with_reducible exact Leaves.refl _ _
    | decide
    | with_reducible apply State.evalRegion_leaves
    | with_reducible apply State.goOn_leaves
    | with_reducible apply State.setGaf_leaves
    | dsimp only

theorem State.restartNow_leaves {μ : Nat} {s₀ : State} {s : State} (hl : Leaves μ s₀ s) (hμ : 0x110419d008e83110711a ||| μ = μ) (n : Nat) :
    Leaves μ s₀ (State.restartNow s n) := by
  refine hl.step (k := 0x110419d008e83110711a) ?_ hμ
  clear hl hμ
  unfold State.restartNow
  try dsimp only
  repeat' first
    | with_reducible assumption
    | with_reducible exact Leaves.refl _ _
    | decide
    | with_reducible apply State.beginStart_leaves
    | with_reducible apply State.clearPends_leaves
    | with_reducible apply State.discardQueue_leaves
    | with_reducible apply State.setGaf_leaves
    | with_reducible apply State.setLoops_leaves
    | dsimp only

theorem State.startDrain_leaves {μ : Nat} {s₀ : State} {s : State} (hl : Leaves μ s₀ s) (hμ : 0x10061b900f400008301b ||| μ = μ) (n k : Nat) :
    Leaves μ s₀ (State.startDrain s n k) := by
  refine hl.step (k := 0x10061b900f400008301b) ?_ hμ
  clear hl hμ
  unfold State.startDrain
  try dsimp only
  repeat' first
    | with_reducible assumption
    | with_reducible exact Leaves.refl _ _
    | decide
    | with_reducible apply Part.bit (F.GAF_COM_SEQ_SEQ_part ..)
    | with_reducible apply Leaves.wr
    | with_reducible apply State.hbmWrite_leaves
    | with_reducible apply State.raise_leaves
    | with_reducible apply State.setGaf_leaves
    | with_reducible apply Leaves.ite
    | dsimp only

theorem State.cutDrain_leaves {μ : Nat} {s₀ : State} {s : State} (hl : Leaves μ s₀ s) (hμ : 0x18061b900f000008601b ||| μ = μ) (n : Nat) (d : Drain) :
    Leaves μ s₀ (State.cutDrain s n d) := by
  refine hl.step (k := 0x18061b900f000008601b) ?_ hμ
  clear hl hμ
  unfold State.cutDrain
  try dsimp only
  repeat' first
    | with_reducible assumption
    | with_reducible exact Leaves.refl _ _
    | decide
    | with_reducible apply Part.bit (F.MPU_GOB_STAT_CUT_part ..)
    | with_reducible apply Leaves.wr
    | with_reducible apply State.drawn_leaves
    | with_reducible apply State.hbmWrite_leaves
    | with_reducible apply State.raise_leaves
    | with_reducible refine Leaves.forEach (fun _ _ _ => ?_) ?_
    | with_reducible refine Leaves.forEachFst (fun _ _ _ => ?_) ?_
    | dsimp only

theorem State.cutDrains_leaves {μ : Nat} {s₀ : State} {s : State} (hl : Leaves μ s₀ s) (hμ : 0x18061b900f400008601b ||| μ = μ) (n : Nat) :
    Leaves μ s₀ (State.cutDrains s n) := by
  refine hl.step (k := 0x18061b900f400008601b) ?_ hμ
  clear hl hμ
  unfold State.cutDrains
  try dsimp only
  repeat' first
    | with_reducible assumption
    | with_reducible exact Leaves.refl _ _
    | decide
    | with_reducible apply State.cutDrain_leaves
    | with_reducible apply State.setGaf_leaves
    | with_reducible refine Leaves.forEach (fun _ _ _ => ?_) ?_
    | with_reducible refine Leaves.forEachFst (fun _ _ _ => ?_) ?_
    | dsimp only

theorem execCommitDrainEnd_leaves {s s' : State} (n : Fin 16) (h : execCommitDrainEnd n s = .next s') : Leaves 0x10061b900f400008201b s s' := by
  unfold execCommitDrainEnd at h
  refine act_leaves h ?_
  try dsimp only
  clear h
  repeat' first
    | with_reducible apply State.endClock_leaves
    | with_reducible assumption
    | with_reducible exact Leaves.refl _ _
    | decide
    | with_reducible apply State.hbmWrite_leaves
    | with_reducible apply State.setGaf_leaves
    | split
    | dsimp only

theorem State.farSwapTile_leaves {μ : Nat} {s₀ : State} {s : State} (hl : Leaves μ s₀ s) (hμ : 0x3000004000 ||| μ = μ) (t : Nat) :
    Leaves μ s₀ (State.farSwapTile s t) := by
  refine hl.step (k := 0x3000004000) ?_ hμ
  clear hl hμ
  unfold State.farSwapTile
  try dsimp only
  repeat' first
    | with_reducible assumption
    | with_reducible exact Leaves.refl _ _
    | decide
    | with_reducible apply Part.bit (F.MPU_FAR_MISS_CNT_COUNT_part ..)
    | with_reducible apply Part.bit (F.MPU_GOB_STAT_FAR_MISS_part ..)
    | with_reducible apply Leaves.bumpBy
    | with_reducible apply Leaves.wr
    | with_reducible apply State.setTile_leaves
    | with_reducible apply Leaves.upd_farIn
    | exact fun h => Tab.wf_clear _ _ _ h
    | exact fun h => Tab.wf_set _ _ _ h
    | exact fun h => Bytes.wf_write _ _ h
    | exact fun h => Bytes.wf_set _ _ h
    | exact fun h => bufSet_wf _ _ h
    | exact fun h => Tab.wf_filter _ _ h
    | with_reducible apply Leaves.ite
    | dsimp only

theorem State.farSwap_leaves {μ : Nat} {s₀ : State} {s : State} (hl : Leaves μ s₀ s) (hμ : 0x10001990083000006010 ||| μ = μ) (n : Nat) :
    Leaves μ s₀ (State.farSwap s n) := by
  refine hl.step (k := 0x10001990083000006010) ?_ hμ
  clear hl hμ
  unfold State.farSwap
  try dsimp only
  repeat' first
    | with_reducible assumption
    | with_reducible exact Leaves.refl _ _
    | decide
    | with_reducible apply State.farSwapTile_leaves
    | with_reducible apply State.raise_leaves
    | with_reducible apply Leaves.ite
    | with_reducible refine Leaves.forEach (fun _ _ _ => ?_) ?_
    | with_reducible refine Leaves.forEachFst (fun _ _ _ => ?_) ?_
    | dsimp only

theorem State.setX_leaves {μ : Nat} {s₀ : State} {s : State} (hl : Leaves μ s₀ s) (hμ : 0x4000 ||| μ = μ) (n x : Nat) :
    Leaves μ s₀ (State.setX s n x) := by
  refine hl.step (k := 0x4000) ?_ hμ
  clear hl hμ
  unfold State.setX
  try dsimp only
  repeat' first
    | with_reducible assumption
    | with_reducible exact Leaves.refl _ _
    | decide
    | with_reducible apply Part.bit (F.MPU_XCHG_NUM_X_part ..)
    | with_reducible apply Leaves.wr
    | with_reducible refine Leaves.forEach (fun _ _ _ => ?_) ?_
    | with_reducible refine Leaves.forEachFst (fun _ _ _ => ?_) ?_
    | dsimp only

theorem State.farStore_leaves {μ : Nat} {s₀ : State} {s : State} (hl : Leaves μ s₀ s) (hμ : 0x1000000000 ||| μ = μ) (t k data : Nat) :
    Leaves μ s₀ (State.farStore s t k data) := by
  refine hl.step (k := 0x1000000000) ?_ hμ
  clear hl hμ
  unfold State.farStore
  try dsimp only
  repeat' first
    | with_reducible assumption
    | with_reducible exact Leaves.refl _ _
    | decide
    | with_reducible apply Leaves.upd_farIn
    | exact fun h => Tab.wf_set _ _ _ h
    | exact fun h => Bytes.wf_write _ _ h
    | exact fun h => Bytes.wf_set _ _ h
    | exact fun h => bufSet_wf _ _ h
    | exact fun h => Tab.wf_clear _ _ _ h
    | exact fun h => Tab.wf_filter _ _ h
    | dsimp only

theorem State.farDrop_leaves {μ : Nat} {s₀ : State} {s : State} (hl : Leaves μ s₀ s) (hμ : 0x4000 ||| μ = μ) (t : Nat) :
    Leaves μ s₀ (State.farDrop s t) := by
  refine hl.step (k := 0x4000) ?_ hμ
  clear hl hμ
  unfold State.farDrop
  try dsimp only
  repeat' first
    | with_reducible assumption
    | with_reducible exact Leaves.refl _ _
    | decide
    | with_reducible apply Part.bit (F.MPU_FAR_MISS_CNT_COUNT_part ..)
    | with_reducible apply Part.bit (F.MPU_GOB_STAT_FAR_MISS_part ..)
    | with_reducible apply Leaves.bump
    | with_reducible apply Leaves.wr
    | dsimp only

theorem State.farMeet_leaves {μ : Nat} {s₀ : State} {s : State} (hl : Leaves μ s₀ s) (hμ : 0x3000004100 ||| μ = μ) (n t k tag data : Nat) :
    Leaves μ s₀ (State.farMeet s n t k tag data) := by
  refine hl.step (k := 0x3000004100) ?_ hμ
  clear hl hμ
  unfold State.farMeet
  try dsimp only
  repeat' first
    | with_reducible assumption
    | with_reducible exact Leaves.refl _ _
    | decide
    | with_reducible apply Part.bit (F.TB_XSYNC_SYNCED_part ..)
    | with_reducible apply Leaves.wr
    | with_reducible apply State.farDrop_leaves
    | with_reducible apply State.farStore_leaves
    | with_reducible apply State.setTile_leaves
    | with_reducible apply Leaves.ite
    | dsimp only

theorem State.farRetry_leaves {μ : Nat} {s₀ : State} {s : State} (hl : Leaves μ s₀ s) (hμ : 0x3000004100 ||| μ = μ) (n t : Nat) :
    Leaves μ s₀ (State.farRetry s n t) := by
  refine hl.step (k := 0x3000004100) ?_ hμ
  clear hl hμ
  unfold State.farRetry
  try dsimp only
  repeat' first
    | with_reducible assumption
    | with_reducible exact Leaves.refl _ _
    | decide
    | with_reducible apply State.farMeet_leaves
    | with_reducible apply State.setTile_leaves
    | with_reducible refine Leaves.forEach (fun _ _ _ => ?_) ?_
    | with_reducible refine Leaves.forEachFst (fun _ _ _ => ?_) ?_
    | dsimp only

theorem State.xSync_leaves {μ : Nat} {s₀ : State} {s : State} (hl : Leaves μ s₀ s) (hμ : 0x4000 ||| μ = μ) (n : Nat) :
    Leaves μ s₀ (State.xSync s n) := by
  refine hl.step (k := 0x4000) ?_ hμ
  clear hl hμ
  unfold State.xSync
  try dsimp only
  repeat' first
    | with_reducible assumption
    | with_reducible exact Leaves.refl _ _
    | decide
    | with_reducible apply State.setX_leaves
    | with_reducible apply Leaves.ite
    | split
    | dsimp only

theorem State.forgetTags_leaves {μ : Nat} {s₀ : State} {s : State} (hl : Leaves μ s₀ s) (hμ : 0x2000000000 ||| μ = μ) (n : Nat) :
    Leaves μ s₀ (State.forgetTags s n) := by
  refine hl.step (k := 0x2000000000) ?_ hμ
  clear hl hμ
  unfold State.forgetTags
  try dsimp only
  repeat' first
    | with_reducible assumption
    | with_reducible exact Leaves.refl _ _
    | decide
    | with_reducible apply State.setTile_leaves
    | with_reducible refine Leaves.forEach (fun _ _ _ => ?_) ?_
    | with_reducible refine Leaves.forEachFst (fun _ _ _ => ?_) ?_
    | dsimp only

theorem State.farSend_leaves {μ : Nat} {s₀ : State} {s : State} (hl : Leaves μ s₀ s) (hμ : 0x10000000080000000000 ||| μ = μ) (n t x : Nat) :
    Leaves μ s₀ (State.farSend s n t x) := by
  refine hl.step (k := 0x10000000080000000000) ?_ hμ
  clear hl hμ
  unfold State.farSend
  try dsimp only
  repeat' first
    | with_reducible assumption
    | with_reducible exact Leaves.refl _ _
    | decide
    | with_reducible apply State.flood_leaves
    | dsimp only

theorem State.exchange_leaves {μ : Nat} {s₀ : State} {s : State} (hl : Leaves μ s₀ s) (hμ : 0x10000000083000004100 ||| μ = μ) (n : Nat) (valid : Bool) :
    Leaves μ s₀ (State.exchange s n valid) := by
  refine hl.step (k := 0x10000000083000004100) ?_ hμ
  clear hl hμ
  unfold State.exchange
  try dsimp only
  repeat' first
    | with_reducible assumption
    | with_reducible exact Leaves.refl _ _
    | decide
    | with_reducible apply State.farRetry_leaves
    | with_reducible apply State.farSend_leaves
    | with_reducible apply State.setX_leaves
    | with_reducible apply State.xSync_leaves
    | with_reducible apply Leaves.ite
    | with_reducible refine Leaves.forEach (fun _ _ _ => ?_) ?_
    | with_reducible refine Leaves.forEachFst (fun _ _ _ => ?_) ?_
    | dsimp only

theorem State.clearGobIn_leaves {μ : Nat} {s₀ : State} {s : State} (hl : Leaves μ s₀ s) (hμ : 0x100000000 ||| μ = μ) (t side : Nat) :
    Leaves μ s₀ (State.clearGobIn s t side) := by
  refine hl.step (k := 0x100000000) ?_ hμ
  clear hl hμ
  unfold State.clearGobIn
  try dsimp only
  repeat' first
    | with_reducible assumption
    | with_reducible exact Leaves.refl _ _
    | decide
    | with_reducible apply Leaves.upd_gobIn
    | exact fun h => Tab.wf_clear _ _ _ h
    | exact fun h => Tab.wf_set _ _ _ h
    | exact fun h => Bytes.wf_write _ _ h
    | exact fun h => Bytes.wf_set _ _ h
    | exact fun h => bufSet_wf _ _ h
    | exact fun h => Tab.wf_filter _ _ h
    | dsimp only

theorem State.gobSwapTile_leaves {μ : Nat} {s₀ : State} {s : State} (hl : Leaves μ s₀ s) (hμ : 0x100004000 ||| μ = μ) (t : Nat) :
    Leaves μ s₀ (State.gobSwapTile s t) := by
  refine hl.step (k := 0x100004000) ?_ hμ
  clear hl hμ
  unfold State.gobSwapTile
  try dsimp only
  repeat' first
    | with_reducible assumption
    | with_reducible exact Leaves.refl _ _
    | decide
    | with_reducible apply Part.bit (F.MPU_GOB_STAT_READ_SIDE_part ..)
    | with_reducible apply Part.bit (F.MPU_GOB_STAT_FILL_CLOSED_part ..)
    | with_reducible apply Leaves.wr
    | with_reducible apply State.clearGobIn_leaves
    | dsimp only

theorem State.gobNoSwapTile_leaves {μ : Nat} {s₀ : State} {s : State} (hl : Leaves μ s₀ s) (hμ : 0x100004000 ||| μ = μ) (t : Nat) :
    Leaves μ s₀ (State.gobNoSwapTile s t) := by
  refine hl.step (k := 0x100004000) ?_ hμ
  clear hl hμ
  unfold State.gobNoSwapTile
  try dsimp only
  repeat' first
    | with_reducible assumption
    | with_reducible exact Leaves.refl _ _
    | decide
    | with_reducible apply Part.bit (F.MPU_GOB_NOSWAP_CNT_COUNT_part ..)
    | with_reducible apply Part.bit (F.MPU_GOB_STAT_NOSWAP_part ..)
    | with_reducible apply Leaves.bump
    | with_reducible apply Leaves.wr
    | with_reducible apply State.clearGobIn_leaves
    | with_reducible apply Leaves.ite
    | dsimp only

theorem State.gobBoundary_leaves {μ : Nat} {s₀ : State} {s : State} (hl : Leaves μ s₀ s) (hμ : 0x4100004000 ||| μ = μ) (n : Nat) :
    Leaves μ s₀ (State.gobBoundary s n) := by
  refine hl.step (k := 0x4100004000) ?_ hμ
  clear hl hμ
  unfold State.gobBoundary
  try dsimp only
  repeat' first
    | with_reducible assumption
    | with_reducible exact Leaves.refl _ _
    | decide
    | with_reducible apply State.gobNoSwapTile_leaves
    | with_reducible apply State.gobSwapTile_leaves
    | with_reducible apply State.setGaf_leaves
    | with_reducible apply Leaves.ite
    | with_reducible refine Leaves.forEach (fun _ _ _ => ?_) ?_
    | with_reducible refine Leaves.forEachFst (fun _ _ _ => ?_) ?_
    | dsimp only

theorem State.setPhase_leaves {μ : Nat} {s₀ : State} {s : State} (hl : Leaves μ s₀ s) (hμ : 0x4000000000 ||| μ = μ) (n : Nat) (p : Phase) :
    Leaves μ s₀ (State.setPhase s n p) := by
  refine hl.step (k := 0x4000000000) ?_ hμ
  clear hl hμ
  unfold State.setPhase
  try dsimp only
  repeat' first
    | with_reducible assumption
    | with_reducible exact Leaves.refl _ _
    | decide
    | with_reducible apply State.setGaf_leaves
    | dsimp only

theorem execCycleBoundaryB0_leaves {s s' : State} (n : Fin 16) (h : execCycleBoundaryB0 n s = .next s') : Leaves 0x110619d008f10810701a s s' := by
  unfold execCycleBoundaryB0 at h
  refine act_leaves h ?_
  try dsimp only
  clear h
  repeat' first
    | with_reducible apply State.endClock_leaves
    | with_reducible assumption
    | with_reducible exact Leaves.refl _ _
    | decide
    | with_reducible apply State.farSwap_leaves
    | with_reducible apply State.gobBoundary_leaves
    | with_reducible apply State.raise_leaves
    | with_reducible apply State.setPhase_leaves
    | with_reducible apply State.sweepRows_leaves
    | with_reducible apply Leaves.ite
    | dsimp only

theorem State.foldLast_leaves {μ : Nat} {s₀ : State} {s : State} (hl : Leaves μ s₀ s) (hμ : 0x4000 ||| μ = μ) (t : Nat) (v : BitVec 64) :
    Leaves μ s₀ (State.foldLast s t v) := by
  refine hl.step (k := 0x4000) ?_ hμ
  clear hl hμ
  unfold State.foldLast
  try dsimp only
  repeat' first
    | with_reducible assumption
    | with_reducible exact Leaves.refl _ _
    | decide
    | (with_reducible apply Part.bit (p := .mpuRegs) <;> first | decide | exact regPart_mpuRegs (by omega) (by omega))
    | with_reducible apply Leaves.wr64
    | dsimp only

theorem State.foldRecord_leaves {μ : Nat} {s₀ : State} {s : State} (hl : Leaves μ s₀ s) (hμ : 0x8000 ||| μ = μ) (t : Nat) (win byVerify : Bool) :
    Leaves μ s₀ (State.foldRecord s t win byVerify) := by
  refine hl.step (k := 0x8000) ?_ hμ
  clear hl hμ
  unfold State.foldRecord
  try dsimp only
  repeat' first
    | with_reducible assumption
    | with_reducible exact Leaves.refl _ _
    | decide
    | (with_reducible apply Part.bit (p := .secRegs) <;> first | decide | exact regPart_secRegs (by omega) (by omega))
    | with_reducible apply Leaves.setReg
    | exact Mask.bit (regPart_bit _) (by decide)
    | with_reducible apply Leaves.ite
    | dsimp only

theorem execFoldCompare_leaves {s s' : State} (n : Fin 16) (h : execFoldCompare n s = .next s') : Leaves 0x110619d008c00010f01a s s' := by
  unfold execFoldCompare at h
  refine act_leaves h ?_
  try dsimp only
  clear h
  repeat' first
    | with_reducible apply State.endClock_leaves
    | with_reducible assumption
    | with_reducible exact Leaves.refl _ _
    | decide
    | with_reducible apply Part.bit (F.SEC_STATUS_FOLD_MISMATCH_part ..)
    | with_reducible apply Part.bit (F.SEC_FOLD_CNT_COUNT_part ..)
    | with_reducible apply Leaves.wr
    | with_reducible apply Leaves.bump
    | with_reducible apply State.fault2_leaves
    | with_reducible apply State.foldLast_leaves
    | with_reducible apply State.foldRecord_leaves
    | with_reducible apply State.raise_leaves
    | with_reducible apply State.setPhase_leaves
    | with_reducible apply Leaves.ite
    | with_reducible apply Leaves.iteFst
    | with_reducible refine Leaves.forEach (fun _ _ _ => ?_) ?_
    | with_reducible refine Leaves.forEachFst (fun _ _ _ => ?_) ?_
    | split
    | dsimp only

theorem State.commitTile_leaves {μ : Nat} {s₀ : State} {s : State} (hl : Leaves μ s₀ s) (hμ : 0x2200000000 ||| μ = μ) (t : Nat) (o : SpecialOps) (valid : Bool) :
    Leaves μ s₀ (State.commitTile s t o valid) := by
  refine hl.step (k := 0x2200000000) ?_ hμ
  clear hl hμ
  unfold State.commitTile
  try dsimp only
  repeat' first
    | with_reducible assumption
    | with_reducible exact Leaves.refl _ _
    | decide
    | with_reducible apply State.setTile_leaves
    | with_reducible apply Leaves.upd_gobOut
    | exact fun h => Tab.wf_clear _ _ _ h
    | exact fun h => Tab.wf_set _ _ _ h
    | exact fun h => Bytes.wf_write _ _ h
    | exact fun h => Bytes.wf_set _ _ h
    | exact fun h => bufSet_wf _ _ h
    | exact fun h => Tab.wf_filter _ _ h
    | dsimp only

theorem execGobOutCommit_leaves {s s' : State} (n : Fin 16) (h : execGobOutCommit n s = .next s') : Leaves 0x18061fb00ff30028751b s s' := by
  unfold execGobOutCommit at h
  refine act_leaves h ?_
  try dsimp only
  clear h
  repeat' first
    | with_reducible apply State.endClock_leaves
    | with_reducible assumption
    | with_reducible exact Leaves.refl _ _
    | decide
    | with_reducible apply State.applyWaiting_leaves
    | with_reducible apply State.commitTile_leaves
    | with_reducible apply State.cutDrains_leaves
    | with_reducible apply State.dmaCut_leaves
    | with_reducible apply State.dmaSync_leaves
    | with_reducible apply State.exchange_leaves
    | with_reducible apply State.forgetTags_leaves
    | with_reducible apply State.issueRegion_leaves
    | with_reducible apply State.setGaf_leaves
    | with_reducible apply State.startDrain_leaves
    | with_reducible apply Leaves.ite
    | with_reducible refine Leaves.forEach (fun _ _ _ => ?_) ?_
    | with_reducible refine Leaves.forEachFst (fun _ _ _ => ?_) ?_
    | dsimp only

theorem execMemoryCheck_leaves {s s' : State} (n : Fin 16) (h : execMemoryCheck n s = .next s') : Leaves 0x1000199008e800007010 s s' := by
  unfold execMemoryCheck at h
  refine act_leaves h ?_
  try dsimp only
  clear h
  repeat' first
    | with_reducible apply State.endClock_leaves
    | with_reducible assumption
    | with_reducible exact Leaves.refl _ _
    | decide
    | with_reducible apply Part.bit (F.MPU_STALL_CNT_COUNT_part ..)
    | with_reducible apply Part.bit (F.GAF_STATUS_STATE_part ..)
    | with_reducible apply Leaves.bump
    | with_reducible apply Leaves.wr
    | with_reducible apply State.expire_leaves
    | with_reducible apply State.setPhase_leaves
    | with_reducible apply State.show_leaves
    | with_reducible apply Leaves.ite
    | with_reducible refine Leaves.forEach (fun _ _ _ => ?_) ?_
    | with_reducible refine Leaves.forEachFst (fun _ _ _ => ?_) ?_
    | split
    | dsimp only

theorem execStallEnd_leaves {s s' : State} (n : Fin 16) (h : execStallEnd n s = .next s') : Leaves 0x1000199008e800007010 s s' := by
  unfold execStallEnd at h
  refine act_leaves h ?_
  try dsimp only
  clear h
  repeat' first
    | with_reducible apply State.endClock_leaves
    | with_reducible assumption
    | with_reducible exact Leaves.refl _ _
    | decide
    | with_reducible apply Part.bit (F.GAF_STATUS_STATE_part ..)
    | with_reducible apply Leaves.wr
    | with_reducible apply State.setPhase_leaves
    | with_reducible apply State.show_leaves
    | with_reducible apply Leaves.ite
    | dsimp only

theorem execStallBoundExpiry_leaves {s s' : State} (n : Fin 16) (h : execStallBoundExpiry n s = .next s') : Leaves 0x1000199008e800007010 s s' := by
  unfold execStallBoundExpiry at h
  refine act_leaves h ?_
  try dsimp only
  clear h
  repeat' first
    | with_reducible apply State.endClock_leaves
    | with_reducible assumption
    | with_reducible exact Leaves.refl _ _
    | decide
    | with_reducible apply Part.bit (F.GAF_STATUS_STATE_part ..)
    | with_reducible apply Leaves.wr
    | with_reducible apply State.expire_leaves
    | with_reducible apply State.setPhase_leaves
    | with_reducible apply Leaves.ite
    | dsimp only

theorem execSpecialOperandLatch_leaves {s s' : State} (n : Fin 16) (h : execSpecialOperandLatch n s = .next s') : Leaves 0x6401004000 s s' := by
  unfold execSpecialOperandLatch at h
  refine act_leaves h ?_
  try dsimp only
  clear h
  repeat' first
    | with_reducible apply State.endClock_leaves
    | with_reducible assumption
    | with_reducible exact Leaves.refl _ _
    | decide
    | with_reducible apply State.loadLatches_leaves
    | with_reducible apply State.setGaf_leaves
    | with_reducible apply Leaves.upd_reqArea
    | exact fun h => Tab.wf_clear _ _ _ h
    | exact fun h => Tab.wf_set _ _ _ h
    | exact fun h => Bytes.wf_write _ _ h
    | exact fun h => Bytes.wf_set _ _ h
    | exact fun h => bufSet_wf _ _ h
    | exact fun h => Tab.wf_filter _ _ h
    | with_reducible apply Leaves.ite
    | with_reducible refine Leaves.forEach (fun _ _ _ => ?_) ?_
    | with_reducible refine Leaves.forEachFst (fun _ _ _ => ?_) ?_
    | split
    | dsimp only

theorem execWindowFix_leaves {s s' : State} (n : Fin 16) (h : execWindowFix n s = .next s') : Leaves 0x4000001000 s s' := by
  unfold execWindowFix at h
  refine act_leaves h ?_
  try dsimp only
  clear h
  repeat' first
    | with_reducible apply State.endClock_leaves
    | with_reducible assumption
    | with_reducible exact Leaves.refl _ _
    | decide
    | with_reducible apply Part.bit (F.GAF_STATUS_WIN_part ..)
    | with_reducible apply Leaves.wr
    | with_reducible apply State.setGaf_leaves
    | with_reducible apply State.setPhase_leaves
    | with_reducible apply Leaves.ite
    | split
    | dsimp only

theorem State.cancelNext_leaves {μ : Nat} {s₀ : State} {s : State} (hl : Leaves μ s₀ s) (hμ : 0x4000000000 ||| μ = μ) (n : Nat) :
    Leaves μ s₀ (State.cancelNext s n) := by
  refine hl.step (k := 0x4000000000) ?_ hμ
  clear hl hμ
  unfold State.cancelNext
  try dsimp only
  repeat' first
    | with_reducible assumption
    | with_reducible exact Leaves.refl _ _
    | decide
    | with_reducible apply State.setGaf_leaves
    | dsimp only

theorem State.nextCycle_leaves {μ : Nat} {s₀ : State} {s : State} (hl : Leaves μ s₀ s) (hμ : 0x400000060c1005002 ||| μ = μ) (n : Nat) :
    Leaves μ s₀ (State.nextCycle s n) := by
  refine hl.step (k := 0x400000060c1005002) ?_ hμ
  clear hl hμ
  unfold State.nextCycle
  try dsimp only
  repeat' first
    | with_reducible assumption
    | with_reducible exact Leaves.refl _ _
    | decide
    | with_reducible apply Part.bit (F.GAF_STATUS_STATE_part ..)
    | with_reducible apply Leaves.wr
    | with_reducible apply State.dispatch_leaves
    | with_reducible apply State.holdRun_leaves
    | with_reducible apply State.setPhase_leaves
    | with_reducible apply State.startCycle_leaves
    | with_reducible apply Leaves.ite
    | split
    | dsimp only

theorem State.thenRestart_leaves {μ : Nat} {s₀ : State} {s : State} (hl : Leaves μ s₀ s) (hμ : 0x110419d008e83110711a ||| μ = μ) (n : Nat) (restart : Bool) :
    Leaves μ s₀ (State.thenRestart s n restart) := by
  refine hl.step (k := 0x110419d008e83110711a) ?_ hμ
  clear hl hμ
  unfold State.thenRestart
  try dsimp only
  repeat' first
    | with_reducible assumption
    | with_reducible exact Leaves.refl _ _
    | decide
    | with_reducible apply State.restartNow_leaves
    | with_reducible apply Leaves.ite
    | dsimp only

theorem State.afterCycle_leaves {μ : Nat} {s₀ : State} {s : State} (hl : Leaves μ s₀ s) (hμ : 0x110419d008e8f110711a ||| μ = μ) (n : Nat) :
    Leaves μ s₀ (State.afterCycle s n) := by
  refine hl.step (k := 0x110419d008e8f110711a) ?_ hμ
  clear hl hμ
  unfold State.afterCycle
  try dsimp only
  repeat' first
    | with_reducible assumption
    | with_reducible exact Leaves.refl _ _
    | decide
    | with_reducible apply State.cancelNext_leaves
    | with_reducible apply State.enterFenced_leaves
    | with_reducible apply State.halted_leaves
    | with_reducible apply State.nextCycle_leaves
    | with_reducible apply State.regionDone_leaves
    | with_reducible apply State.restartNow_leaves
    | with_reducible apply State.thenRestart_leaves
    | with_reducible apply Leaves.ite
    | split
    | dsimp only

theorem execCycleEnd_leaves {s s' : State} (n : Fin 16) (h : execCycleEnd n s = .next s') : Leaves 0x130419d008e8f110711a s s' := by
  unfold execCycleEnd at h
  refine act_leaves h ?_
  try dsimp only
  clear h
  repeat' first
    | with_reducible apply State.endClock_leaves
    | with_reducible assumption
    | with_reducible exact Leaves.refl _ _
    | decide
    | with_reducible apply State.afterCycle_leaves
    | with_reducible apply State.serveDm_leaves
    | with_reducible apply Leaves.ite
    | dsimp only

theorem execDmClearEnd_leaves {s s' : State} (n : Fin 16) (h : execDmClearEnd n s = .next s') : Leaves 0x4000000000 s s' := by
  unfold execDmClearEnd at h
  refine act_leaves h ?_
  try dsimp only
  clear h
  repeat' first
    | with_reducible apply State.endClock_leaves
    | with_reducible assumption
    | with_reducible exact Leaves.refl _ _
    | decide
    | with_reducible apply State.setGaf_leaves
    | dsimp only

theorem execGobInDataWrite_leaves {s s' : State} (t : Fin 128) (off : Fin 2048) (bytes : List Byte) (h : execGobInDataWrite t off bytes s = .next s') : Leaves 0x10041990082100006012 s s' := by
  unfold execGobInDataWrite at h
  refine act_leaves h ?_
  try dsimp only
  clear h
  repeat' first
    | with_reducible apply State.endClock_leaves
    | with_reducible assumption
    | with_reducible exact Leaves.refl _ _
    | decide
    | with_reducible apply State.gobInWrite_leaves
    | dsimp only

theorem execGobInClose_leaves {s s' : State} (t : Fin 128) (hdr : BitVec 64) (h : execGobInClose t hdr s = .next s') : Leaves 0x10041990082100006012 s s' := by
  unfold execGobInClose at h
  refine act_leaves h ?_
  try dsimp only
  clear h
  repeat' first
    | with_reducible apply State.endClock_leaves
    | with_reducible assumption
    | with_reducible exact Leaves.refl _ _
    | decide
    | with_reducible apply State.gobInCloseAt_leaves
    | dsimp only

end Sys2Proof.Machine
end

