-- ==== Sys2Proof/Laws/Gaffer.lean ====
section
/-!
SUPPORT. What each operation of Machine/Gaffer.lean leaves alone.
-/

set_option linter.all false

namespace Sys2Proof.Machine

theorem State.progErr_leaves {μ : Nat} {s₀ : State} {s : State} (hl : Leaves μ s₀ s) (hμ : 0x110619d008c00010701a ||| μ = μ) (n cause pc : Nat) :
    Leaves μ s₀ (State.progErr s n cause pc) := by
  refine hl.step (k := 0x110619d008c00010701a) ?_ hμ
  clear hl hμ
  unfold State.progErr
  try dsimp only
  repeat' first
    | with_reducible assumption
    | with_reducible exact Leaves.refl _ _
    | decide
    | (with_reducible apply Part.bit (p := .gafRegs) <;> first | decide | exact regPart_gafRegs (by omega) (by omega) (by omega))
    | with_reducible apply Leaves.setReg
    | with_reducible apply State.fault2_leaves
    | exact Mask.bit (regPart_bit _) (by decide)
    | with_reducible apply Leaves.ite
    | dsimp only

theorem State.goto_leaves {μ : Nat} {s₀ : State} {s : State} (hl : Leaves μ s₀ s) (hμ : 0x4000001000 ||| μ = μ) (n pc : Nat) :
    Leaves μ s₀ (State.goto s n pc) := by
  refine hl.step (k := 0x4000001000) ?_ hμ
  clear hl hμ
  unfold State.goto
  try dsimp only
  repeat' first
    | with_reducible assumption
    | with_reducible exact Leaves.refl _ _
    | decide
    | with_reducible apply Part.bit (F.GAF_STATUS_PC_part ..)
    | with_reducible apply Leaves.wr
    | with_reducible apply State.setGaf_leaves
    | with_reducible apply Leaves.ite
    | dsimp only

theorem State.advance_leaves {μ : Nat} {s₀ : State} {s : State} (hl : Leaves μ s₀ s) (hμ : 0x4000001000 ||| μ = μ) (n : Nat) :
    Leaves μ s₀ (State.advance s n) := by
  refine hl.step (k := 0x4000001000) ?_ hμ
  clear hl hμ
  unfold State.advance
  try dsimp only
  repeat' first
    | with_reducible assumption
    | with_reducible exact Leaves.refl _ _
    | decide
    | with_reducible apply State.goto_leaves
    | dsimp only

theorem State.instr_leaves {μ : Nat} {s₀ : State} {s : State} (hl : Leaves μ s₀ s) (hμ : 0x0 ||| μ = μ) (n op : Nat) (f : Nat → State → State) (hf : ∀ a0 u, Leaves μ s₀ u → Leaves μ s₀ (f a0 u)) :
    Leaves μ s₀ (State.instr s n op f) := by
  unfold State.instr
  try dsimp only
  repeat' first
    | with_reducible apply hf
    | with_reducible exact Mask.trans (by decide) hμ
    | with_reducible exact Mask.bit (by decide) hμ
    | with_reducible assumption
    | with_reducible exact Leaves.refl _ _
    | decide
    | with_reducible apply Leaves.ite
    | dsimp only

theorem execProgramError_leaves {s s' : State} (n : Fin 16) (w : Option (BitVec 32)) (h : execProgramError n w s = .next s') : Leaves 0x110619d008c00010701a s s' := by
  unfold execProgramError at h
  refine act_leaves h ?_
  try dsimp only
  clear h
  repeat' first
    | with_reducible apply State.endClock_leaves
    | with_reducible assumption
    | with_reducible exact Leaves.refl _ _
    | decide
    | (with_reducible apply Part.bit (p := .gafRegs) <;> first | decide | exact regPart_gafRegs (by omega) (by omega) (by omega))
    | with_reducible apply Leaves.setReg
    | with_reducible apply State.progErr_leaves
    | exact Mask.bit (regPart_bit _) (by decide)
    | with_reducible apply Leaves.ite
    | split
    | dsimp only

theorem State.skipLog_leaves {μ : Nat} {s₀ : State} {s : State} (hl : Leaves μ s₀ s) (hμ : 0x1000 ||| μ = μ) (n line : Nat) (master localSkip merged : Bool) :
    Leaves μ s₀ (State.skipLog s n line master localSkip merged) := by
  refine hl.step (k := 0x1000) ?_ hμ
  clear hl hμ
  unfold State.skipLog
  try dsimp only
  repeat' first
    | with_reducible assumption
    | with_reducible exact Leaves.refl _ _
    | decide
    | with_reducible apply Part.bit (F.GAF_LOG_PTR_SKIP_PTR_part ..)
    | with_reducible apply Part.bit (F.GAF_LOG_PTR_SKIP_WRAPPED_part ..)
    | (intro i hi; simp only [MbxCmd.entry, FaultRec.logWords, List.length_cons, List.length_nil, List.length_map, upTo, List.length_range] at hi; exact Part.bit (regPart_gafRegs (by omega) (by omega) (by omega)) (by decide))
    | with_reducible apply Leaves.wr
    | with_reducible apply Leaves.setWords
    | with_reducible apply Leaves.ite
    | dsimp only

theorem State.overrunTrace_leaves {μ : Nat} {s₀ : State} {s : State} (hl : Leaves μ s₀ s) (hμ : 0x10001990084000003010 ||| μ = μ) (n line : Nat) (master localSkip merged : Bool) :
    Leaves μ s₀ (State.overrunTrace s n line master localSkip merged) := by
  refine hl.step (k := 0x10001990084000003010) ?_ hμ
  clear hl hμ
  unfold State.overrunTrace
  try dsimp only
  repeat' first
    | with_reducible assumption
    | with_reducible exact Leaves.refl _ _
    | decide
    | with_reducible apply Part.bit (F.GAF_STATUS_OVERRUN_part ..)
    | with_reducible apply Leaves.wr
    | with_reducible apply State.raise_leaves
    | with_reducible apply State.setGaf_leaves
    | with_reducible apply State.skipLog_leaves
    | dsimp only

theorem State.skip_leaves {μ : Nat} {s₀ : State} {s : State} (hl : Leaves μ s₀ s) (hμ : 0x10001990084000003010 ||| μ = μ) (n line : Nat) (master localSkip : Bool) :
    Leaves μ s₀ (State.skip s n line master localSkip) := by
  refine hl.step (k := 0x10001990084000003010) ?_ hμ
  clear hl hμ
  unfold State.skip
  try dsimp only
  repeat' first
    | with_reducible assumption
    | with_reducible exact Leaves.refl _ _
    | decide
    | with_reducible apply Part.bit (F.GAF_SKIP_CNT_COUNT_part ..)
    | with_reducible apply Part.bit (F.GAF_LOCAL_SKIP_CNT_COUNT_part ..)
    | with_reducible apply Leaves.bump
    | with_reducible apply State.overrunTrace_leaves
    | with_reducible apply State.raise_leaves
    | with_reducible apply Leaves.upd_tb
    | with_reducible apply Leaves.ite
    | dsimp only

theorem State.merge_leaves {μ : Nat} {s₀ : State} {s : State} (hl : Leaves μ s₀ s) (hμ : 0x10001990084000003010 ||| μ = μ) (n line : Nat) (master localSkip : Bool) :
    Leaves μ s₀ (State.merge s n line master localSkip) := by
  refine hl.step (k := 0x10001990084000003010) ?_ hμ
  clear hl hμ
  unfold State.merge
  try dsimp only
  repeat' first
    | with_reducible assumption
    | with_reducible exact Leaves.refl _ _
    | decide
    | with_reducible apply Part.bit (F.GAF_MERGE_CNT_COUNT_part ..)
    | with_reducible apply Leaves.bump
    | with_reducible apply State.overrunTrace_leaves
    | with_reducible apply State.setQueue_leaves
    | with_reducible apply State.skip_leaves
    | with_reducible apply Leaves.ite
    | split
    | dsimp only

theorem State.enqueue_leaves {μ : Nat} {s₀ : State} {s : State} (hl : Leaves μ s₀ s) (hμ : 0x4000001000 ||| μ = μ) (n line : Nat) :
    Leaves μ s₀ (State.enqueue s n line) := by
  refine hl.step (k := 0x4000001000) ?_ hμ
  clear hl hμ
  unfold State.enqueue
  try dsimp only
  repeat' first
    | with_reducible assumption
    | with_reducible exact Leaves.refl _ _
    | decide
    | with_reducible apply State.setQueue_leaves
    | dsimp only

theorem State.byMark_leaves {μ : Nat} {s₀ : State} {s : State} (hl : Leaves μ s₀ s) (hμ : 0x10001990084000003010 ||| μ = μ) (n line mark target : Nat) :
    Leaves μ s₀ (State.byMark s n line mark target) := by
  refine hl.step (k := 0x10001990084000003010) ?_ hμ
  clear hl hμ
  unfold State.byMark
  try dsimp only
  repeat' first
    | with_reducible assumption
    | with_reducible exact Leaves.refl _ _
    | decide
    | with_reducible apply State.enqueue_leaves
    | with_reducible apply State.merge_leaves
    | with_reducible apply State.skip_leaves
    | with_reducible apply Leaves.ite
    | split
    | dsimp only

theorem State.trigger_leaves {μ : Nat} {s₀ : State} {s : State} (hl : Leaves μ s₀ s) (hμ : 0x10001990084000003010 ||| μ = μ) (n line mark target : Nat) :
    Leaves μ s₀ (State.trigger s n line mark target) := by
  refine hl.step (k := 0x10001990084000003010) ?_ hμ
  clear hl hμ
  unfold State.trigger
  try dsimp only
  repeat' first
    | with_reducible assumption
    | with_reducible exact Leaves.refl _ _
    | decide
    | with_reducible apply Part.bit (F.GAF_TRIG_DISC_CNT_COUNT_part ..)
    | with_reducible apply Leaves.bump
    | with_reducible apply State.byMark_leaves
    | with_reducible apply State.enqueue_leaves
    | with_reducible apply State.merge_leaves
    | with_reducible apply State.skip_leaves
    | with_reducible apply Leaves.ite
    | split
    | dsimp only

theorem State.gaffersTake_leaves {μ : Nat} {s₀ : State} {s : State} (hl : Leaves μ s₀ s) (hμ : 0x10001990084000003010 ||| μ = μ) (h : Held) :
    Leaves μ s₀ (State.gaffersTake s h) := by
  refine hl.step (k := 0x10001990084000003010) ?_ hμ
  clear hl hμ
  unfold State.gaffersTake
  try dsimp only
  repeat' first
    | with_reducible assumption
    | with_reducible exact Leaves.refl _ _
    | decide
    | with_reducible apply State.trigger_leaves
    | with_reducible refine Leaves.forEach (fun _ _ _ => ?_) ?_
    | with_reducible refine Leaves.forEachFst (fun _ _ _ => ?_) ?_
    | dsimp only

theorem State.toGaffers_leaves {μ : Nat} {s₀ : State} {s : State} (hl : Leaves μ s₀ s) (hμ : 0x10041990084000003010 ||| μ = μ) (h : Held) :
    Leaves μ s₀ (State.toGaffers s h) := by
  refine hl.step (k := 0x10041990084000003010) ?_ hμ
  clear hl hμ
  unfold State.toGaffers
  try dsimp only
  repeat' first
    | with_reducible assumption
    | with_reducible exact Leaves.refl _ _
    | decide
    | with_reducible apply State.gaffersTake_leaves
    | with_reducible apply Leaves.upd_pwr
    | with_reducible apply Leaves.ite
    | dsimp only

theorem State.drainCrossing_leaves {μ : Nat} {s₀ : State} {s : State} (hl : Leaves μ s₀ s) (hμ : 0x10041990084000003010 ||| μ = μ)  :
    Leaves μ s₀ (State.drainCrossing s) := by
  refine hl.step (k := 0x10041990084000003010) ?_ hμ
  clear hl hμ
  unfold State.drainCrossing
  try dsimp only
  repeat' first
    | with_reducible assumption
    | with_reducible exact Leaves.refl _ _
    | decide
    | with_reducible apply State.gaffersTake_leaves
    | with_reducible apply Leaves.upd_pwr
    | with_reducible refine Leaves.forEach (fun _ _ _ => ?_) ?_
    | with_reducible refine Leaves.forEachFst (fun _ _ _ => ?_) ?_
    | dsimp only

theorem State.applySwitch_leaves {μ : Nat} {s₀ : State} {s : State} (hl : Leaves μ s₀ s) (hμ : 0x10001990080000003010 ||| μ = μ) (n : Nat) :
    Leaves μ s₀ (State.applySwitch s n) := by
  refine hl.step (k := 0x10001990080000003010) ?_ hμ
  clear hl hμ
  unfold State.applySwitch
  try dsimp only
  repeat' first
    | with_reducible assumption
    | with_reducible exact Leaves.refl _ _
    | decide
    | with_reducible apply Part.bit (F.GAF_STATUS_SEL_part ..)
    | with_reducible apply Part.bit (F.GAF_SWITCH_ARM_part ..)
    | with_reducible apply Part.bit (F.GAF_STATUS_SWITCH_WAIT_part ..)
    | with_reducible apply Leaves.wr
    | with_reducible apply State.raise_leaves
    | with_reducible apply Leaves.ite
    | dsimp only

theorem State.issueCycle_leaves {μ : Nat} {s₀ : State} {s : State} (hl : Leaves μ s₀ s) (hμ : 0x60c1005000 ||| μ = μ) (n : Nat) (win : Bool) :
    Leaves μ s₀ (State.issueCycle s n win) := by
  refine hl.step (k := 0x60c1005000) ?_ hμ
  clear hl hμ
  unfold State.issueCycle
  try dsimp only
  repeat' first
    | with_reducible assumption
    | with_reducible exact Leaves.refl _ _
    | decide
    | with_reducible apply State.dispatch_leaves
    | with_reducible apply State.setGaf_leaves
    | with_reducible apply Leaves.ite
    | dsimp only

theorem execRun_leaves {s s' : State} (n : Fin 16) (h : execRun n s = .next s') : Leaves 0x110619d008e0c110701a s s' := by
  unfold execRun at h
  refine act_leaves h ?_
  try dsimp only
  clear h
  repeat' first
    | with_reducible apply State.endClock_leaves
    | with_reducible assumption
    | with_reducible exact Leaves.refl _ _
    | decide
    | with_reducible apply State.advance_leaves
    | with_reducible apply State.applySwitch_leaves
    | with_reducible apply State.holdRun_leaves
    | with_reducible apply State.instr_leaves
    | intro _
    | with_reducible apply State.issueCycle_leaves
    | with_reducible apply State.progErr_leaves
    | with_reducible apply Leaves.ite
    | dsimp only

theorem execGafferNop_leaves {s s' : State} (n : Fin 16) (h : execGafferNop n s = .next s') : Leaves 0x4000001000 s s' := by
  unfold execGafferNop at h
  refine act_leaves h ?_
  try dsimp only
  clear h
  repeat' first
    | with_reducible apply State.endClock_leaves
    | with_reducible assumption
    | with_reducible exact Leaves.refl _ _
    | decide
    | with_reducible apply State.advance_leaves
    | with_reducible apply State.instr_leaves
    | intro _
    | dsimp only

theorem execWaitTrig_leaves {s s' : State} (n : Fin 16) (h : execWaitTrig n s = .next s') : Leaves 0x4000001000 s s' := by
  unfold execWaitTrig at h
  refine act_leaves h ?_
  try dsimp only
  clear h
  repeat' first
    | with_reducible apply State.endClock_leaves
    | with_reducible assumption
    | with_reducible exact Leaves.refl _ _
    | decide
    | (with_reducible apply Part.bit (p := .gafRegs) <;> first | decide | exact regPart_gafRegs (by omega) (by omega) (by omega))
    | with_reducible apply Leaves.setReg
    | with_reducible apply State.advance_leaves
    | with_reducible apply State.instr_leaves
    | intro _
    | with_reducible apply State.setGaf_leaves
    | with_reducible apply State.setQueue_leaves
    | exact Mask.bit (regPart_bit _) (by decide)
    | with_reducible apply Leaves.ite
    | split
    | dsimp only

theorem execWaitEvt_leaves {s s' : State} (n : Fin 16) (h : execWaitEvt n s = .next s') : Leaves 0x4000003000 s s' := by
  unfold execWaitEvt at h
  refine act_leaves h ?_
  try dsimp only
  clear h
  repeat' first
    | with_reducible apply State.endClock_leaves
    | with_reducible assumption
    | with_reducible exact Leaves.refl _ _
    | decide
    | with_reducible apply Part.bit (F.GAF_STATUS_LAST_COND_part ..)
    | with_reducible apply Leaves.wr
    | with_reducible apply State.advance_leaves
    | with_reducible apply State.instr_leaves
    | intro _
    | with_reducible apply evtPendFld_bit
    | split
    | dsimp only

theorem execSelectWindow_leaves {s s' : State} (n : Fin 16) (h : execSelectWindow n s = .next s') : Leaves 0x4000001000 s s' := by
  unfold execSelectWindow at h
  refine act_leaves h ?_
  try dsimp only
  clear h
  repeat' first
    | with_reducible apply State.endClock_leaves
    | with_reducible assumption
    | with_reducible exact Leaves.refl _ _
    | decide
    | with_reducible apply Part.bit (F.GAF_STATUS_SEL_part ..)
    | with_reducible apply Leaves.wr
    | with_reducible apply State.advance_leaves
    | with_reducible apply State.instr_leaves
    | intro _
    | with_reducible apply Leaves.ite
    | dsimp only

theorem execLoop_leaves {s s' : State} (n : Fin 16) (h : execLoop n s = .next s') : Leaves 0x110619d008c00010701a s s' := by
  unfold execLoop at h
  refine act_leaves h ?_
  try dsimp only
  clear h
  repeat' first
    | with_reducible apply State.endClock_leaves
    | with_reducible assumption
    | with_reducible exact Leaves.refl _ _
    | decide
    | with_reducible apply State.advance_leaves
    | with_reducible apply State.goto_leaves
    | with_reducible apply State.instr_leaves
    | intro _
    | with_reducible apply State.progErr_leaves
    | with_reducible apply State.setLoops_leaves
    | with_reducible apply Leaves.ite
    | dsimp only

theorem execEndloop_leaves {s s' : State} (n : Fin 16) (h : execEndloop n s = .next s') : Leaves 0x110619d008c00010701a s s' := by
  unfold execEndloop at h
  refine act_leaves h ?_
  try dsimp only
  clear h
  repeat' first
    | with_reducible apply State.endClock_leaves
    | with_reducible assumption
    | with_reducible exact Leaves.refl _ _
    | decide
    | with_reducible apply State.advance_leaves
    | with_reducible apply State.goto_leaves
    | with_reducible apply State.instr_leaves
    | intro _
    | with_reducible apply State.progErr_leaves
    | with_reducible apply State.setLoops_leaves
    | with_reducible apply Leaves.ite
    | split
    | dsimp only

theorem State.setInjects_leaves {μ : Nat} {s₀ : State} {s : State} (hl : Leaves μ s₀ s) (hμ : 0x4000001000 ||| μ = μ) (n : Nat) (l : List Inject) :
    Leaves μ s₀ (State.setInjects s n l) := by
  refine hl.step (k := 0x4000001000) ?_ hμ
  clear hl hμ
  unfold State.setInjects
  try dsimp only
  repeat' first
    | with_reducible assumption
    | with_reducible exact Leaves.refl _ _
    | decide
    | with_reducible apply Part.bit (F.GAF_STATUS_INJ_BUSY_part ..)
    | with_reducible apply Leaves.wr
    | with_reducible apply State.setGaf_leaves
    | dsimp only

theorem execInject_leaves {s s' : State} (n : Fin 16) (h : execInject n s = .next s') : Leaves 0x10001990084000003010 s s' := by
  unfold execInject at h
  refine act_leaves h ?_
  try dsimp only
  clear h
  repeat' first
    | with_reducible apply State.endClock_leaves
    | with_reducible assumption
    | with_reducible exact Leaves.refl _ _
    | decide
    | with_reducible apply State.advance_leaves
    | with_reducible apply State.instr_leaves
    | intro _
    | with_reducible apply State.raise_leaves
    | with_reducible apply State.setInjects_leaves
    | with_reducible apply Leaves.ite
    | dsimp only

theorem State.injectBlocks_leaves {μ : Nat} {s₀ : State} {s : State} (hl : Leaves μ s₀ s) (hμ : 0x100619900c210008601a ||| μ = μ) (n : Nat) (j : Inject) (i : Nat) (ρ : Nat) :
    Leaves μ s₀ (State.injectBlocks s n j i ρ).1 := by
  refine hl.step (k := 0x100619900c210008601a) ?_ hμ
  clear hl hμ
  induction ρ generalizing s n j i with
  | zero =>
    unfold State.injectBlocks
    repeat' first
      | with_reducible assumption
      | with_reducible exact Leaves.refl _ _
      | decide
      | with_reducible apply State.gobInWrite_leaves
      | with_reducible apply State.hbmRead_leaves
      | with_reducible refine Leaves.forEach (fun _ _ _ => ?_) ?_
      | with_reducible refine Leaves.forEachFst (fun _ _ _ => ?_) ?_
      | (refine Leaves.pair (by assumption) ?_; with_reducible apply State.hbmRead_leaves)
      | split
      | dsimp only
  | succ k ih =>
    unfold State.injectBlocks
    try dsimp only
    repeat' first
      | with_reducible assumption
      | with_reducible exact Leaves.refl _ _
      | decide
      | with_reducible apply State.gobInWrite_leaves
      | with_reducible apply State.hbmRead_leaves
      | with_reducible refine Leaves.forEach (fun _ _ _ => ?_) ?_
      | with_reducible refine Leaves.forEachFst (fun _ _ _ => ?_) ?_
      | (refine Leaves.pair (by assumption) ?_; with_reducible apply State.hbmRead_leaves)
      | split
      | dsimp only
      | (with_reducible refine Leaves.step ?_ (ih ..) (by decide))

theorem execInjectDeliveryEnd_leaves {s s' : State} (n : Fin 16) (up : Upsets) (h : execInjectDeliveryEnd n up s = .next s') : Leaves 0x100619900e610008701a s s' := by
  unfold execInjectDeliveryEnd at h
  refine act_leaves h ?_
  try dsimp only
  clear h
  repeat' first
    | with_reducible apply State.endClock_leaves
    | with_reducible assumption
    | with_reducible exact Leaves.refl _ _
    | decide
    | with_reducible apply State.gobInCloseAt_leaves
    | with_reducible apply State.injectBlocks_leaves
    | with_reducible apply State.onceHbm_leaves
    | intro _
    | with_reducible apply State.raise_leaves
    | with_reducible apply State.setInjects_leaves
    | with_reducible apply State.upsets_leaves
    | with_reducible refine Leaves.forEach (fun _ _ _ => ?_) ?_
    | with_reducible refine Leaves.forEachFst (fun _ _ _ => ?_) ?_
    | (refine Leaves.pair (by assumption) ?_; with_reducible apply State.injectBlocks_leaves)
    | split
    | dsimp only

theorem execCommit_leaves {s s' : State} (n : Fin 16) (h : execCommit n s = .next s') : Leaves 0x10061b900f400008301b s s' := by
  unfold execCommit at h
  refine act_leaves h ?_
  try dsimp only
  clear h
  repeat' first
    | with_reducible apply State.endClock_leaves
    | with_reducible assumption
    | with_reducible exact Leaves.refl _ _
    | decide
    | with_reducible apply State.advance_leaves
    | with_reducible apply State.instr_leaves
    | intro _
    | with_reducible apply State.setGaf_leaves
    | with_reducible apply State.startDrain_leaves
    | split
    | dsimp only

theorem execXchg_leaves {s s' : State} (n : Fin 16) (h : execXchg n s = .next s') : Leaves 0x4000001000 s s' := by
  unfold execXchg at h
  refine act_leaves h ?_
  try dsimp only
  clear h
  repeat' first
    | with_reducible apply State.endClock_leaves
    | with_reducible assumption
    | with_reducible exact Leaves.refl _ _
    | decide
    | with_reducible apply State.advance_leaves
    | with_reducible apply State.instr_leaves
    | intro _
    | with_reducible apply State.setGaf_leaves
    | split
    | dsimp only

theorem execSignal_leaves {s s' : State} (n : Fin 16) (h : execSignal n s = .next s') : Leaves 0x10001990084000003010 s s' := by
  unfold execSignal at h
  refine act_leaves h ?_
  try dsimp only
  clear h
  repeat' first
    | with_reducible apply State.endClock_leaves
    | with_reducible assumption
    | with_reducible exact Leaves.refl _ _
    | decide
    | with_reducible apply State.advance_leaves
    | with_reducible apply State.instr_leaves
    | intro _
    | with_reducible apply State.raise_leaves
    | dsimp only

theorem execSetStall_leaves {s s' : State} (n : Fin 16) (h : execSetStall n s = .next s') : Leaves 0x4000001000 s s' := by
  unfold execSetStall at h
  refine act_leaves h ?_
  try dsimp only
  clear h
  repeat' first
    | with_reducible apply State.endClock_leaves
    | with_reducible assumption
    | with_reducible exact Leaves.refl _ _
    | decide
    | with_reducible apply Part.bit (F.GAF_STALL_BOUND_BOUND_part ..)
    | with_reducible apply Leaves.wr
    | with_reducible apply State.advance_leaves
    | with_reducible apply State.instr_leaves
    | intro _
    | dsimp only

theorem execMark_leaves {s s' : State} (n : Fin 16) (h : execMark n s = .next s') : Leaves 0x4000001000 s s' := by
  unfold execMark at h
  refine act_leaves h ?_
  try dsimp only
  clear h
  repeat' first
    | with_reducible apply State.endClock_leaves
    | with_reducible assumption
    | with_reducible exact Leaves.refl _ _
    | decide
    | with_reducible apply Part.bit (F.GAF_LOG_PTR_TRACE_PTR_part ..)
    | with_reducible apply Part.bit (F.GAF_LOG_PTR_TRACE_WRAPPED_part ..)
    | (intro i hi; simp only [MbxCmd.entry, FaultRec.logWords, List.length_cons, List.length_nil, List.length_map, upTo, List.length_range] at hi; exact Part.bit (regPart_gafRegs (by omega) (by omega) (by omega)) (by decide))
    | with_reducible apply Leaves.wr
    | with_reducible apply Leaves.setWords
    | with_reducible apply State.advance_leaves
    | with_reducible apply State.instr_leaves
    | intro _
    | with_reducible apply Leaves.ite
    | dsimp only

theorem execJump_leaves {s s' : State} (n : Fin 16) (h : execJump n s = .next s') : Leaves 0x4000001000 s s' := by
  unfold execJump at h
  refine act_leaves h ?_
  try dsimp only
  clear h
  repeat' first
    | with_reducible apply State.endClock_leaves
    | with_reducible assumption
    | with_reducible exact Leaves.refl _ _
    | decide
    | with_reducible apply State.goto_leaves
    | with_reducible apply State.instr_leaves
    | intro _
    | dsimp only

theorem execHalt_leaves {s s' : State} (n : Fin 16) (h : execHalt n s = .next s') : Leaves 0x1004199008c000007012 s s' := by
  unfold execHalt at h
  refine act_leaves h ?_
  try dsimp only
  clear h
  repeat' first
    | with_reducible apply State.endClock_leaves
    | with_reducible assumption
    | with_reducible exact Leaves.refl _ _
    | decide
    | with_reducible apply State.halted_leaves
    | with_reducible apply State.instr_leaves
    | intro _
    | with_reducible apply Leaves.ite
    | dsimp only

end Sys2Proof.Machine
end

