-- ==== Sys2Proof/Laws/Gather.lean ====
section
/-!
SUPPORT. What each operation of Machine/Gather.lean leaves alone.
-/

set_option linter.all false

namespace Sys2Proof.Machine

theorem State.startTraining_leaves {μ : Nat} {s₀ : State} {s : State} (hl : Leaves μ s₀ s) (hμ : 0x20000 ||| μ = μ) (g : Nat) :
    Leaves μ s₀ (State.startTraining s g) := by
  refine hl.step (k := 0x20000) ?_ hμ
  clear hl hμ
  unfold State.startTraining
  try dsimp only
  repeat' first
    | with_reducible assumption
    | with_reducible exact Leaves.refl _ _
    | decide
    | with_reducible apply Part.bit (F.GTH_CTRL_TRAIN_part ..)
    | with_reducible apply Part.bit (F.GTH_STATUS_TRAIN_BUSY_part ..)
    | with_reducible apply Part.bit (F.GTH_STATUS_TRAINED_part ..)
    | with_reducible apply Part.bit (F.GTH_LANE_LOCK_LOCK_part ..)
    | with_reducible apply Leaves.wr
    | dsimp only

theorem State.laneTrained_leaves {μ : Nat} {s₀ : State} {s : State} (hl : Leaves μ s₀ s) (hμ : 0x20000 ||| μ = μ) (g i : Nat) (r : LaneTrain) :
    Leaves μ s₀ (State.laneTrained s g i r) := by
  refine hl.step (k := 0x20000) ?_ hμ
  clear hl hμ
  unfold State.laneTrained
  try dsimp only
  repeat' first
    | with_reducible assumption
    | with_reducible exact Leaves.refl _ _
    | decide
    | with_reducible apply Part.bit (F.GTH_LANE_EYE_TAP_part ..)
    | with_reducible apply Part.bit (F.GTH_LANE_EYE_EYE_part ..)
    | with_reducible apply Part.bit (F.GTH_LANE_EYE_SLIP_part ..)
    | with_reducible apply Part.bit (F.GTH_LANE_LOCK_LOCK_part ..)
    | with_reducible apply Leaves.wr
    | with_reducible apply Leaves.ite
    | dsimp only

theorem execGthTrainDone_leaves {s s' : State} (g : Fin 4) (lanes : List LaneTrain) (h : execGthTrainDone g lanes s = .next s') : Leaves 0x10101990080000022012 s s' := by
  unfold execGthTrainDone at h
  refine act_leaves h ?_
  try dsimp only
  clear h
  repeat' first
    | with_reducible apply State.endClock_leaves
    | with_reducible assumption
    | with_reducible exact Leaves.refl _ _
    | decide
    | with_reducible apply Part.bit (F.GTH_CTRL_TRAIN_part ..)
    | with_reducible apply Part.bit (F.GTH_STATUS_TRAIN_BUSY_part ..)
    | with_reducible apply Part.bit (F.GTH_STATUS_TRAINED_part ..)
    | with_reducible apply Part.bit (F.GTH_STATUS_TRAIN_FAIL_part ..)
    | with_reducible apply Leaves.wr
    | with_reducible apply State.laneTrained_leaves
    | with_reducible apply State.raise_leaves
    | with_reducible apply State.tryEndWake_leaves
    | with_reducible apply Leaves.ite
    | with_reducible apply Leaves.iteFst
    | with_reducible refine Leaves.forEach (fun _ _ _ => ?_) ?_
    | with_reducible refine Leaves.forEachFst (fun _ _ _ => ?_) ?_
    | dsimp only

theorem State.loseLane_leaves {μ : Nat} {s₀ : State} {s : State} (hl : Leaves μ s₀ s) (hμ : 0x10001990080000022010 ||| μ = μ) (g i : Nat) :
    Leaves μ s₀ (State.loseLane s g i) := by
  refine hl.step (k := 0x10001990080000022010) ?_ hμ
  clear hl hμ
  unfold State.loseLane
  try dsimp only
  repeat' first
    | with_reducible assumption
    | with_reducible exact Leaves.refl _ _
    | decide
    | with_reducible apply Part.bit (F.GTH_LANE_LOCK_LOCK_part ..)
    | with_reducible apply Part.bit (F.GTH_ALIGN_LOST_CNT_COUNT_part ..)
    | with_reducible apply Part.bit (F.GTH_STATUS_ALIGN_LOST_part ..)
    | with_reducible apply Leaves.wr
    | with_reducible apply Leaves.bump
    | with_reducible apply State.raise_leaves
    | dsimp only

theorem execEyeTrack_leaves {s s' : State} (g : Fin 4) (lane : Fin 24) (dir : Option Bool) (eye : Fin 64) (h : execEyeTrack g lane dir eye s = .next s') : Leaves 0x10001990080000022010 s s' := by
  unfold execEyeTrack at h
  refine act_leaves h ?_
  try dsimp only
  clear h
  repeat' first
    | with_reducible apply State.endClock_leaves
    | with_reducible assumption
    | with_reducible exact Leaves.refl _ _
    | decide
    | with_reducible apply Part.bit (F.GTH_LANE_EYE_TAP_part ..)
    | with_reducible apply Leaves.wr
    | with_reducible apply State.loseLane_leaves
    | with_reducible apply Leaves.ite
    | split
    | dsimp only

theorem execLaneWord_leaves {s s' : State} (g : Fin 4) (lane : Fin 24) (w : BitVec 12) (h : execLaneWord g lane w s = .next s') : Leaves 0x10001992080000022010 s s' := by
  unfold execLaneWord at h
  refine act_leaves h ?_
  try dsimp only
  clear h
  repeat' first
    | with_reducible apply State.endClock_leaves
    | with_reducible assumption
    | with_reducible exact Leaves.refl _ _
    | decide
    | with_reducible apply Part.bit (F.GTH_DISCARD_CNT_COUNT_part ..)
    | with_reducible apply Part.bit (F.GTH_STATUS_DISCARD_part ..)
    | with_reducible apply Leaves.bump
    | with_reducible apply Leaves.wr
    | with_reducible apply State.emit_leaves
    | with_reducible apply State.raise_leaves
    | with_reducible apply Leaves.upd_discardEv
    | with_reducible apply Leaves.ite
    | dsimp only

theorem State.setPb_leaves {μ : Nat} {s₀ : State} {s : State} (hl : Leaves μ s₀ s) (hμ : 0x200000000000 ||| μ = μ) (k : Nat) (x : Pbs) :
    Leaves μ s₀ (State.setPb s k x) := by
  refine hl.step (k := 0x200000000000) ?_ hμ
  clear hl hμ
  unfold State.setPb
  try dsimp only
  repeat' first
    | with_reducible assumption
    | with_reducible exact Leaves.refl _ _
    | decide
    | with_reducible apply Leaves.upd_pbs
    | dsimp only

theorem State.setTags_leaves {μ : Nat} {s₀ : State} {s : State} (hl : Leaves μ s₀ s) (hμ : 0x200000020000 ||| μ = μ) (k : Nat) (l : List Tag) :
    Leaves μ s₀ (State.setTags s k l) := by
  refine hl.step (k := 0x200000020000) ?_ hμ
  clear hl hμ
  unfold State.setTags
  try dsimp only
  repeat' first
    | with_reducible assumption
    | with_reducible exact Leaves.refl _ _
    | decide
    | with_reducible apply Part.bit (F.GTH_PBS_STAT_TAGQ_part ..)
    | with_reducible apply Leaves.wr
    | with_reducible apply State.setPb_leaves
    | dsimp only

theorem State.tagErr_leaves {μ : Nat} {s₀ : State} {s : State} (hl : Leaves μ s₀ s) (hμ : 0x10001990080000022010 ||| μ = μ) (k : Nat) :
    Leaves μ s₀ (State.tagErr s k) := by
  refine hl.step (k := 0x10001990080000022010) ?_ hμ
  clear hl hμ
  unfold State.tagErr
  try dsimp only
  repeat' first
    | with_reducible assumption
    | with_reducible exact Leaves.refl _ _
    | decide
    | with_reducible apply Part.bit (F.GTH_TAG_ERR_CNT_COUNT_part ..)
    | with_reducible apply Part.bit (F.GTH_PBS_STAT_TAG_ERR_part ..)
    | with_reducible apply Leaves.bump
    | with_reducible apply Leaves.wr
    | with_reducible apply State.raise_leaves
    | dsimp only

theorem State.pushTags_leaves {μ : Nat} {s₀ : State} {s : State} (hl : Leaves μ s₀ s) (hμ : 0x10001990280000022010 ||| μ = μ) (line time : Nat) :
    Leaves μ s₀ (State.pushTags s line time) := by
  refine hl.step (k := 0x10001990280000022010) ?_ hμ
  clear hl hμ
  unfold State.pushTags
  try dsimp only
  repeat' first
    | with_reducible assumption
    | with_reducible exact Leaves.refl _ _
    | decide
    | with_reducible apply State.setTags_leaves
    | with_reducible apply State.tagErr_leaves
    | with_reducible apply Leaves.ite
    | with_reducible refine Leaves.forEach (fun _ _ _ => ?_) ?_
    | with_reducible refine Leaves.forEachFst (fun _ _ _ => ?_) ?_
    | dsimp only

theorem State.dropAged_leaves {μ : Nat} {s₀ : State} {s : State} (hl : Leaves μ s₀ s) (hμ : 0x10001990280000022010 ||| μ = μ) (k : Nat) (ρ : List Tag) :
    Leaves μ s₀ (State.dropAged s k ρ) := by
  refine hl.step (k := 0x10001990280000022010) ?_ hμ
  clear hl hμ
  induction ρ generalizing s k with
  | nil =>
    unfold State.dropAged
    repeat' first
      | with_reducible assumption
      | with_reducible exact Leaves.refl _ _
      | decide
      | with_reducible apply State.setTags_leaves
      | with_reducible apply State.tagErr_leaves
      | with_reducible apply Leaves.ite
      | dsimp only
  | cons x xs ih =>
    unfold State.dropAged
    try dsimp only
    repeat' first
      | with_reducible assumption
      | with_reducible exact Leaves.refl _ _
      | decide
      | with_reducible apply State.setTags_leaves
      | with_reducible apply State.tagErr_leaves
      | with_reducible apply Leaves.ite
      | dsimp only
      | (with_reducible refine Leaves.step ?_ (ih ..) (by decide))

theorem State.tagLine_leaves {μ : Nat} {s₀ : State} {s : State} (hl : Leaves μ s₀ s) (hμ : 0x18001990280000022010 ||| μ = μ) (k : Nat) :
    Leaves μ s₀ (State.tagLine s k) := by
  refine hl.step (k := 0x18001990280000022010) ?_ hμ
  clear hl hμ
  unfold State.tagLine
  try dsimp only
  repeat' first
    | with_reducible assumption
    | with_reducible exact Leaves.refl _ _
    | decide
    | with_reducible apply State.drawn_leaves
    | with_reducible apply State.dropAged_leaves
    | with_reducible apply State.setPb_leaves
    | with_reducible apply State.setTags_leaves
    | with_reducible apply State.tagErr_leaves
    | split
    | dsimp only

theorem State.syncError_leaves {μ : Nat} {s₀ : State} {s : State} (hl : Leaves μ s₀ s) (hμ : 0x10001990280000022010 ||| μ = μ) (k : Nat) :
    Leaves μ s₀ (State.syncError s k) := by
  refine hl.step (k := 0x10001990280000022010) ?_ hμ
  clear hl hμ
  unfold State.syncError
  try dsimp only
  repeat' first
    | with_reducible assumption
    | with_reducible exact Leaves.refl _ _
    | decide
    | with_reducible apply Part.bit (F.GTH_SYNC_ERR_CNT_COUNT_part ..)
    | with_reducible apply Part.bit (F.GTH_PBS_STAT_SYNC_ERR_part ..)
    | with_reducible apply Leaves.bump
    | with_reducible apply Leaves.wr
    | with_reducible apply State.raise_leaves
    | with_reducible apply State.setPb_leaves
    | with_reducible apply Leaves.ite
    | dsimp only

theorem State.formatError_leaves {μ : Nat} {s₀ : State} {s : State} (hl : Leaves μ s₀ s) (hμ : 0x10001990280000022010 ||| μ = μ) (k : Nat) :
    Leaves μ s₀ (State.formatError s k) := by
  refine hl.step (k := 0x10001990280000022010) ?_ hμ
  clear hl hμ
  unfold State.formatError
  try dsimp only
  repeat' first
    | with_reducible assumption
    | with_reducible exact Leaves.refl _ _
    | decide
    | with_reducible apply Part.bit (F.GTH_FORMAT_CNT_COUNT_part ..)
    | with_reducible apply Part.bit (F.GTH_PBS_STAT_FORMAT_part ..)
    | with_reducible apply Leaves.bump
    | with_reducible apply Leaves.wr
    | with_reducible apply State.raise_leaves
    | with_reducible apply State.setPb_leaves
    | with_reducible apply Leaves.ite
    | dsimp only

theorem State.setMu_leaves {μ : Nat} {s₀ : State} {s : State} (hl : Leaves μ s₀ s) (hμ : 0x400000000000 ||| μ = μ) (m : Nat) (x : Marver) :
    Leaves μ s₀ (State.setMu s m x) := by
  refine hl.step (k := 0x400000000000) ?_ hμ
  clear hl hμ
  unfold State.setMu
  try dsimp only
  repeat' first
    | with_reducible assumption
    | with_reducible exact Leaves.refl _ _
    | decide
    | with_reducible apply Leaves.upd_mrv
    | dsimp only

theorem State.mrvErr_leaves {μ : Nat} {s₀ : State} {s : State} (hl : Leaves μ s₀ s) (hμ : 0x10001990080000002010 ||| μ = μ) (m : Nat)
    (why : Nat → Fld) (hw : Nat.testBit μ (regPart (why m).off).ctorIdx = true) : Leaves μ s₀ (State.mrvErr s m why) :=
  State.raise_leaves (hl.wr hw) (Mask.trans (by decide) hμ) _

theorem State.markLeaders_leaves {μ : Nat} {s₀ : State} {s : State} (hl : Leaves μ s₀ s) (hμ : 0x40000 ||| μ = μ)  :
    Leaves μ s₀ (State.markLeaders s) := by
  refine hl.step (k := 0x40000) ?_ hμ
  clear hl hμ
  unfold State.markLeaders
  try dsimp only
  repeat' first
    | with_reducible assumption
    | with_reducible exact Leaves.refl _ _
    | decide
    | with_reducible apply Part.bit (F.MRV_STATUS_LEADER_part ..)
    | with_reducible apply Leaves.wr
    | with_reducible refine Leaves.forEach (fun _ _ _ => ?_) ?_
    | with_reducible refine Leaves.forEachFst (fun _ _ _ => ?_) ?_
    | dsimp only

theorem State.tryActivate_leaves {μ : Nat} {s₀ : State} {s : State} (hl : Leaves μ s₀ s) (hμ : 0x10001990480000042010 ||| μ = μ) (m : Nat) :
    Leaves μ s₀ (State.tryActivate s m) := by
  refine hl.step (k := 0x10001990480000042010) ?_ hμ
  clear hl hμ
  unfold State.tryActivate
  try dsimp only
  repeat' first
    | with_reducible assumption
    | with_reducible exact Leaves.refl _ _
    | decide
    | with_reducible apply Part.bit (F.MRV_STATUS_ACTIVE_part ..)
    | with_reducible apply Part.bit (F.MRV_STATUS_CFG_ERR_part ..)
    | with_reducible apply Leaves.wr
    | with_reducible apply State.mrvErr_leaves
    | with_reducible apply State.setMu_leaves
    | with_reducible apply Leaves.ite
    | dsimp only

theorem State.drainFifo_leaves {μ : Nat} {s₀ : State} {s : State} (hl : Leaves μ s₀ s) (hμ : 0x400000000000 ||| μ = μ) (m : Nat) :
    Leaves μ s₀ (State.drainFifo s m) := by
  refine hl.step (k := 0x400000000000) ?_ hμ
  clear hl hμ
  unfold State.drainFifo
  try dsimp only
  repeat' first
    | with_reducible assumption
    | with_reducible exact Leaves.refl _ _
    | decide
    | with_reducible apply State.setMu_leaves
    | dsimp only

theorem State.takePixel_leaves {μ : Nat} {s₀ : State} {s : State} (hl : Leaves μ s₀ s) (hμ : 0x10001990480000042010 ||| μ = μ) (m j x : Nat) :
    Leaves μ s₀ (State.takePixel s m j x) := by
  refine hl.step (k := 0x10001990480000042010) ?_ hμ
  clear hl hμ
  unfold State.takePixel
  try dsimp only
  repeat' first
    | with_reducible assumption
    | with_reducible exact Leaves.refl _ _
    | decide
    | with_reducible apply Part.bit (F.MRV_FIFO_OVF_CNT_COUNT_part ..)
    | with_reducible apply Part.bit (F.MRV_STATUS_FIFO_OVF_part ..)
    | with_reducible apply Leaves.bump
    | with_reducible apply State.drainFifo_leaves
    | with_reducible apply State.mrvErr_leaves
    | with_reducible apply State.setMu_leaves
    | with_reducible apply Leaves.ite
    | dsimp only

end Sys2Proof.Machine
end

