-- ==== Sys2Proof/Laws/Marver.lean ====
section
/-!
SUPPORT. What each operation of Machine/Marver.lean leaves alone.
-/

set_option linter.all false

namespace Sys2Proof.Machine

theorem State.ringBegin_leaves {μ : Nat} {s₀ : State} {s : State} (hl : Leaves μ s₀ s) (hμ : 0x10061b908f000008201b ||| μ = μ) (m : Nat) :
    Leaves μ s₀ (State.ringBegin s m) := by
  refine hl.step (k := 0x10061b908f000008201b) ?_ hμ
  clear hl hμ
  unfold State.ringBegin
  try dsimp only
  repeat' first
    | with_reducible assumption
    | with_reducible exact Leaves.refl _ _
    | decide
    | with_reducible apply State.setRing_leaves
    | with_reducible apply State.unitWrite_leaves
    | with_reducible apply Leaves.ite
    | dsimp only

theorem State.ringRow_leaves {μ : Nat} {s₀ : State} {s : State} (hl : Leaves μ s₀ s) (hμ : 0x10061b908f000008201b ||| μ = μ) (m : Nat) (row : Row) (time : Nat) :
    Leaves μ s₀ (State.ringRow s m row time) := by
  refine hl.step (k := 0x10061b908f000008201b) ?_ hμ
  clear hl hμ
  unfold State.ringRow
  try dsimp only
  repeat' first
    | with_reducible assumption
    | with_reducible exact Leaves.refl _ _
    | decide
    | with_reducible apply State.setRing_leaves
    | with_reducible apply State.unitWrite_leaves
    | with_reducible apply Leaves.ite
    | dsimp only

theorem State.padded_leaves {μ : Nat} {s₀ : State} {s : State} (hl : Leaves μ s₀ s) (hμ : 0x8000000000000000000 ||| μ = μ) (span width : Nat) :
    Leaves μ s₀ (State.padded s span width) := by
  refine hl.step (k := 0x8000000000000000000) ?_ hμ
  clear hl hμ
  unfold State.padded
  try dsimp only
  repeat' first
    | with_reducible assumption
    | with_reducible exact Leaves.refl _ _
    | decide
    | with_reducible apply Leaves.upd_free
    | with_reducible apply Leaves.ite
    | dsimp only

theorem State.writePatchHdr_leaves {μ : Nat} {s₀ : State} {s : State} (hl : Leaves μ s₀ s) (hμ : 0x10061b908f000008201b ||| μ = μ) (m : Nat) (p : Patch) (valid : Bool) :
    Leaves μ s₀ (State.writePatchHdr s m p valid) := by
  refine hl.step (k := 0x10061b908f000008201b) ?_ hμ
  clear hl hμ
  unfold State.writePatchHdr
  try dsimp only
  repeat' first
    | with_reducible assumption
    | with_reducible exact Leaves.refl _ _
    | decide
    | with_reducible apply State.unitWrite_leaves
    | dsimp only

theorem State.writePatchRow_leaves {μ : Nat} {s₀ : State} {s : State} (hl : Leaves μ s₀ s) (hμ : 0x10061b908f000008201b ||| μ = μ) (m : Nat) (p : Patch) (i : Nat) (pix : List Nat) :
    Leaves μ s₀ (State.writePatchRow s m p i pix) := by
  refine hl.step (k := 0x10061b908f000008201b) ?_ hμ
  clear hl hμ
  unfold State.writePatchRow
  try dsimp only
  repeat' first
    | with_reducible assumption
    | with_reducible exact Leaves.refl _ _
    | decide
    | with_reducible apply State.unitWrite_leaves
    | dsimp only

theorem State.patchRow_leaves {μ : Nat} {s₀ : State} {s : State} (hl : Leaves μ s₀ s) (hμ : 0x10061b908f000008201b ||| μ = μ) (m : Nat) (r : Row) (p : Patch) :
    Leaves μ s₀ (State.patchRow s m r p).1 := by
  refine hl.step (k := 0x10061b908f000008201b) ?_ hμ
  clear hl hμ
  unfold State.patchRow
  try dsimp only
  repeat' first
    | with_reducible assumption
    | with_reducible exact Leaves.refl _ _
    | decide
    | with_reducible apply State.writePatchRow_leaves
    | split
    | dsimp only

theorem State.patchRows_leaves {μ : Nat} {s₀ : State} {s : State} (hl : Leaves μ s₀ s) (hμ : 0x10061b908f000008201b ||| μ = μ) (m : Nat) (ρ : List Row) (ξ1 : Patch) :
    Leaves μ s₀ (State.patchRows s m ρ ξ1).1 := by
  refine hl.step (k := 0x10061b908f000008201b) ?_ hμ
  clear hl hμ
  induction ρ generalizing s m ξ1 with
  | nil =>
    unfold State.patchRows
    repeat' first
      | with_reducible assumption
      | with_reducible exact Leaves.refl _ _
      | decide
      | with_reducible apply State.patchRow_leaves
      | (refine Leaves.pair (by assumption) ?_; with_reducible apply State.patchRow_leaves)
      | split
      | dsimp only
  | cons x xs ih =>
    unfold State.patchRows
    try dsimp only
    repeat' first
      | with_reducible assumption
      | with_reducible exact Leaves.refl _ _
      | decide
      | with_reducible apply State.patchRow_leaves
      | (refine Leaves.pair (by assumption) ?_; with_reducible apply State.patchRow_leaves)
      | split
      | dsimp only
      | (with_reducible refine Leaves.step ?_ (ih ..) (by decide))

theorem State.closePatch_leaves {μ : Nat} {s₀ : State} {s : State} (hl : Leaves μ s₀ s) (hμ : 0x10061b908f000008201b ||| μ = μ) (m : Nat) (p : Patch) :
    Leaves μ s₀ (State.closePatch s m p) := by
  refine hl.step (k := 0x10061b908f000008201b) ?_ hμ
  clear hl hμ
  unfold State.closePatch
  try dsimp only
  repeat' first
    | with_reducible assumption
    | with_reducible exact Leaves.refl _ _
    | decide
    | with_reducible apply State.writePatchHdr_leaves
    | with_reducible apply State.writePatchRow_leaves
    | with_reducible refine Leaves.forEach (fun _ _ _ => ?_) ?_
    | with_reducible refine Leaves.forEachFst (fun _ _ _ => ?_) ?_
    | dsimp only

theorem State.openPatch_leaves {μ : Nat} {s₀ : State} {s : State} (hl : Leaves μ s₀ s) (hμ : 0x18061b90cf000008201b ||| μ = μ) (m : Nat) (c : Cand) :
    Leaves μ s₀ (State.openPatch s m c) := by
  refine hl.step (k := 0x18061b90cf000008201b) ?_ hμ
  clear hl hμ
  unfold State.openPatch
  try dsimp only
  repeat' first
    | with_reducible assumption
    | with_reducible exact Leaves.refl _ _
    | decide
    | with_reducible apply State.closePatch_leaves
    | with_reducible apply State.padded_leaves
    | with_reducible apply State.patchRows_leaves
    | with_reducible apply State.setMu_leaves
    | with_reducible apply State.writePatchHdr_leaves
    | with_reducible apply Leaves.ite
    | with_reducible apply Leaves.iteFst
    | (refine Leaves.pair (by assumption) ?_; with_reducible apply State.patchRows_leaves)
    | dsimp only

theorem execPatchComplete_leaves {s s' : State} (m : Fin 16) (h : execPatchComplete m s = .next s') : Leaves 0x10061b90cf000008201b s s' := by
  unfold execPatchComplete at h
  refine act_leaves h ?_
  try dsimp only
  clear h
  repeat' first
    | with_reducible apply State.endClock_leaves
    | with_reducible assumption
    | with_reducible exact Leaves.refl _ _
    | decide
    | with_reducible apply State.closePatch_leaves
    | with_reducible apply State.setMu_leaves
    | with_reducible apply Leaves.ite
    | split
    | dsimp only

theorem State.deliverBatch_leaves {μ : Nat} {s₀ : State} {s : State} (hl : Leaves μ s₀ s) (hμ : 0x10041990482100006012 ||| μ = μ) (l : Nat) :
    Leaves μ s₀ (State.deliverBatch s l) := by
  refine hl.step (k := 0x10041990482100006012) ?_ hμ
  clear hl hμ
  unfold State.deliverBatch
  try dsimp only
  repeat' first
    | with_reducible assumption
    | with_reducible exact Leaves.refl _ _
    | decide
    | with_reducible apply State.gobInCloseAt_leaves
    | with_reducible apply State.gobInWrite_leaves
    | with_reducible apply State.raise_leaves
    | with_reducible apply State.setMu_leaves
    | with_reducible refine Leaves.forEach (fun _ _ _ => ?_) ?_
    | with_reducible refine Leaves.forEachFst (fun _ _ _ => ?_) ?_
    | split
    | dsimp only

theorem State.tryDeliver_leaves {μ : Nat} {s₀ : State} {s : State} (hl : Leaves μ s₀ s) (hμ : 0x10041990482100006012 ||| μ = μ) (l : Nat) :
    Leaves μ s₀ (State.tryDeliver s l) := by
  refine hl.step (k := 0x10041990482100006012) ?_ hμ
  clear hl hμ
  unfold State.tryDeliver
  try dsimp only
  repeat' first
    | with_reducible assumption
    | with_reducible exact Leaves.refl _ _
    | decide
    | with_reducible apply State.deliverBatch_leaves
    | with_reducible apply Leaves.ite
    | dsimp only

theorem State.notPlaced_leaves {μ : Nat} {s₀ : State} {s : State} (hl : Leaves μ s₀ s) (hμ : 0x10001990080000042010 ||| μ = μ) (m : Nat) :
    Leaves μ s₀ (State.notPlaced s m) := by
  refine hl.step (k := 0x10001990080000042010) ?_ hμ
  clear hl hμ
  unfold State.notPlaced
  try dsimp only
  repeat' first
    | with_reducible assumption
    | with_reducible exact Leaves.refl _ _
    | decide
    | with_reducible apply Part.bit (F.MRV_CAND_DROP_CNT_COUNT_part ..)
    | with_reducible apply Part.bit (F.MRV_STATUS_CAND_DROP_part ..)
    | with_reducible apply Leaves.bump
    | with_reducible apply State.mrvErr_leaves
    | dsimp only

theorem State.addEntries_leaves {μ : Nat} {s₀ : State} {s : State} (hl : Leaves μ s₀ s) (hμ : 0x10001990080000042010 ||| μ = μ) (b : Batch) (ρ : List (Nat × Nat × Nat)) :
    Leaves μ s₀ (State.addEntries s b ρ).1 := by
  refine hl.step (k := 0x10001990080000042010) ?_ hμ
  clear hl hμ
  induction ρ generalizing s b with
  | nil =>
    unfold State.addEntries
    repeat' first
      | with_reducible assumption
      | with_reducible exact Leaves.refl _ _
      | decide
      | with_reducible apply State.notPlaced_leaves
      | split
      | dsimp only
  | cons x xs ih =>
    unfold State.addEntries
    try dsimp only
    repeat' first
      | with_reducible assumption
      | with_reducible exact Leaves.refl _ _
      | decide
      | with_reducible apply State.notPlaced_leaves
      | split
      | dsimp only
      | (with_reducible refine Leaves.step ?_ (ih ..) (by decide))

theorem State.closeBatch_leaves {μ : Nat} {s₀ : State} {s : State} (hl : Leaves μ s₀ s) (hμ : 0x10041990482100046012 ||| μ = μ) (l : Nat) (b : Batch) :
    Leaves μ s₀ (State.closeBatch s l b) := by
  refine hl.step (k := 0x10041990482100046012) ?_ hμ
  clear hl hμ
  unfold State.closeBatch
  try dsimp only
  repeat' first
    | with_reducible assumption
    | with_reducible exact Leaves.refl _ _
    | decide
    | with_reducible apply Part.bit (F.MRV_BATCH_CNT_COUNT_part ..)
    | with_reducible apply Part.bit (F.MRV_BATCH_DROP_CNT_COUNT_part ..)
    | with_reducible apply Part.bit (F.MRV_STATUS_BATCH_DROP_part ..)
    | with_reducible apply Leaves.bump
    | with_reducible apply State.addEntries_leaves
    | with_reducible apply State.mrvErr_leaves
    | with_reducible apply State.setMu_leaves
    | with_reducible apply State.tryDeliver_leaves
    | with_reducible apply Leaves.ite
    | with_reducible apply Leaves.iteFst
    | (refine Leaves.pair (by assumption) ?_; with_reducible apply State.addEntries_leaves)
    | split
    | dsimp only

theorem State.closeBatches_leaves {μ : Nat} {s₀ : State} {s : State} (hl : Leaves μ s₀ s) (hμ : 0x10041990482100046012 ||| μ = μ) (n : Nat) (ρ : Nat) :
    Leaves μ s₀ (State.closeBatches s n ρ) := by
  refine hl.step (k := 0x10041990482100046012) ?_ hμ
  clear hl hμ
  induction ρ generalizing s n with
  | zero =>
    unfold State.closeBatches
    repeat' first
      | with_reducible assumption
      | with_reducible exact Leaves.refl _ _
      | decide
      | with_reducible apply State.closeBatch_leaves
      | with_reducible apply State.setMu_leaves
      | with_reducible apply Leaves.ite
      | with_reducible apply Leaves.iteFst
      | with_reducible refine Leaves.forEach (fun _ _ _ => ?_) ?_
      | with_reducible refine Leaves.foldl (fun _ _ _ => ?_) ?_
      | with_reducible refine Leaves.foldlFst (fun _ _ _ => ?_) ?_
      | with_reducible refine Leaves.forEachFst (fun _ _ _ => ?_) ?_
      | split
      | dsimp only
  | succ k ih =>
    unfold State.closeBatches
    try dsimp only
    repeat' first
      | with_reducible assumption
      | with_reducible exact Leaves.refl _ _
      | decide
      | with_reducible apply State.closeBatch_leaves
      | with_reducible apply State.setMu_leaves
      | with_reducible apply Leaves.ite
      | with_reducible apply Leaves.iteFst
      | with_reducible refine Leaves.forEach (fun _ _ _ => ?_) ?_
      | with_reducible refine Leaves.foldl (fun _ _ _ => ?_) ?_
      | with_reducible refine Leaves.foldlFst (fun _ _ _ => ?_) ?_
      | with_reducible refine Leaves.forEachFst (fun _ _ _ => ?_) ?_
      | split
      | dsimp only
      | (with_reducible refine Leaves.step ?_ (ih ..) (by decide))

theorem execEndOfRowMark_leaves {s s' : State} (m : Fin 16) (h : execEndOfRowMark m s = .next s') : Leaves 0x10041990482100046012 s s' := by
  unfold execEndOfRowMark at h
  refine act_leaves h ?_
  try dsimp only
  clear h
  repeat' first
    | with_reducible apply State.endClock_leaves
    | with_reducible assumption
    | with_reducible exact Leaves.refl _ _
    | decide
    | with_reducible apply State.closeBatches_leaves
    | with_reducible apply State.setMu_leaves
    | with_reducible apply Leaves.ite
    | split
    | dsimp only

theorem execGobSwapNotice_leaves {s s' : State} (n : Fin 16) (h : execGobSwapNotice n s = .next s') : Leaves 0x10041990486100006012 s s' := by
  unfold execGobSwapNotice at h
  refine act_leaves h ?_
  try dsimp only
  clear h
  repeat' first
    | with_reducible apply State.endClock_leaves
    | with_reducible assumption
    | with_reducible exact Leaves.refl _ _
    | decide
    | with_reducible apply State.deliverBatch_leaves
    | with_reducible apply State.setGaf_leaves
    | with_reducible apply State.setMu_leaves
    | with_reducible apply Leaves.ite
    | split
    | dsimp only

theorem execMergeNotice_leaves {s s' : State} (n : Fin 16) (h : execMergeNotice n s = .next s') : Leaves 0x404000000000 s s' := by
  unfold execMergeNotice at h
  refine act_leaves h ?_
  try dsimp only
  clear h
  repeat' first
    | with_reducible apply State.endClock_leaves
    | with_reducible assumption
    | with_reducible exact Leaves.refl _ _
    | decide
    | with_reducible apply State.setGaf_leaves
    | with_reducible apply State.setMu_leaves
    | split
    | dsimp only

theorem State.place_leaves {μ : Nat} {s₀ : State} {s : State} (hl : Leaves μ s₀ s) (hμ : 0x18001990480000042010 ||| μ = μ) (m : Nat) (c : Cand) :
    Leaves μ s₀ (State.place s m c).1 := by
  refine hl.step (k := 0x18001990480000042010) ?_ hμ
  clear hl hμ
  unfold State.place
  try dsimp only
  repeat' first
    | with_reducible assumption
    | with_reducible exact Leaves.refl _ _
    | decide
    | with_reducible apply State.notPlaced_leaves
    | with_reducible apply State.padded_leaves
    | with_reducible apply State.setMu_leaves
    | with_reducible apply Leaves.ite
    | split
    | dsimp only

theorem State.cutPatch_leaves {μ : Nat} {s₀ : State} {s : State} (hl : Leaves μ s₀ s) (hμ : 0x18061b90cf00000c201b ||| μ = μ) (m : Nat) (c : Cand) :
    Leaves μ s₀ (State.cutPatch s m c).1 := by
  refine hl.step (k := 0x18061b90cf00000c201b) ?_ hμ
  clear hl hμ
  unfold State.cutPatch
  try dsimp only
  repeat' first
    | with_reducible assumption
    | with_reducible exact Leaves.refl _ _
    | decide
    | with_reducible apply Part.bit (F.MRV_PATCH_DROP_CNT_COUNT_part ..)
    | with_reducible apply Part.bit (F.MRV_STATUS_PATCH_DROP_part ..)
    | with_reducible apply Leaves.bump
    | with_reducible apply State.mrvErr_leaves
    | with_reducible apply State.openPatch_leaves
    | with_reducible apply Leaves.ite
    | split
    | dsimp only

theorem State.formRecord_leaves {μ : Nat} {s₀ : State} {s : State} (hl : Leaves μ s₀ s) (hμ : 0x18061b90cf00000c201b ||| μ = μ) (m : Nat) (c : Cand) :
    Leaves μ s₀ (State.formRecord s m c) := by
  refine hl.step (k := 0x18061b90cf00000c201b) ?_ hμ
  clear hl hμ
  unfold State.formRecord
  try dsimp only
  repeat' first
    | with_reducible assumption
    | with_reducible exact Leaves.refl _ _
    | decide
    | with_reducible apply Part.bit (F.MRV_CAND_CNT_COUNT_part ..)
    | with_reducible apply Part.bit (F.MRV_CREC_SEQ_SEQ_part ..)
    | with_reducible apply Leaves.bump
    | with_reducible apply Leaves.wr
    | with_reducible apply State.cutPatch_leaves
    | with_reducible apply State.place_leaves
    | with_reducible apply State.unitWrite_leaves
    | with_reducible apply Leaves.ite
    | with_reducible apply Leaves.iteFst
    | (refine Leaves.pair (by assumption) ?_; with_reducible apply State.cutPatch_leaves)
    | (refine Leaves.pair (by assumption) ?_; with_reducible apply State.place_leaves)
    | dsimp only

theorem execCandidateClose_leaves {s s' : State} (m : Fin 16) (h : execCandidateClose m s = .next s') : Leaves 0x18061b90cf00000c201b s s' := by
  unfold execCandidateClose at h
  refine act_leaves h ?_
  try dsimp only
  clear h
  repeat' first
    | with_reducible apply State.endClock_leaves
    | with_reducible assumption
    | with_reducible exact Leaves.refl _ _
    | decide
    | with_reducible apply Part.bit (F.MRV_SMALL_CNT_COUNT_part ..)
    | with_reducible apply Leaves.bump
    | with_reducible apply State.formRecord_leaves
    | with_reducible apply State.setMu_leaves
    | with_reducible apply Leaves.ite
    | split
    | dsimp only

theorem State.extract_leaves {μ : Nat} {s₀ : State} {s : State} (hl : Leaves μ s₀ s) (hμ : 0x10001990480000042010 ||| μ = μ) (m line : Nat) (taint : Bool) (f : List Int) (c cls : List Nat) :
    Leaves μ s₀ (State.extract s m line taint f c cls) := by
  refine hl.step (k := 0x10001990480000042010) ?_ hμ
  clear hl hμ
  unfold State.extract
  try dsimp only
  repeat' first
    | with_reducible assumption
    | with_reducible exact Leaves.refl _ _
    | decide
    | with_reducible apply Part.bit (F.MRV_STATUS_OPEN_FULL_part ..)
    | with_reducible apply State.mrvErr_leaves
    | with_reducible apply State.setMu_leaves
    | with_reducible apply Leaves.ite
    | with_reducible apply Leaves.iteFst
    | with_reducible refine Leaves.forEach (fun _ _ _ => ?_) ?_
    | with_reducible refine Leaves.foldl (fun _ _ _ => ?_) ?_
    | with_reducible refine Leaves.foldlFst (fun _ _ _ => ?_) ?_
    | with_reducible refine Leaves.forEachFst (fun _ _ _ => ?_) ?_
    | split
    | dsimp only

theorem State.filterRow_leaves {μ : Nat} {s₀ : State} {s : State} (hl : Leaves μ s₀ s) (hμ : 0x10001990480000042010 ||| μ = μ) (m : Nat) :
    Leaves μ s₀ (State.filterRow s m) := by
  refine hl.step (k := 0x10001990480000042010) ?_ hμ
  clear hl hμ
  unfold State.filterRow
  try dsimp only
  repeat' first
    | with_reducible assumption
    | with_reducible exact Leaves.refl _ _
    | decide
    | with_reducible apply State.extract_leaves
    | split
    | dsimp only

theorem State.startFiltered_leaves {μ : Nat} {s₀ : State} {s : State} (hl : Leaves μ s₀ s) (hμ : 0x400000040000 ||| μ = μ) (m : Nat) :
    Leaves μ s₀ (State.startFiltered s m) := by
  refine hl.step (k := 0x400000040000) ?_ hμ
  clear hl hμ
  unfold State.startFiltered
  try dsimp only
  repeat' first
    | with_reducible assumption
    | with_reducible exact Leaves.refl _ _
    | decide
    | with_reducible apply Part.bit (F.MRV_CONV_CFG_SET_part ..)
    | with_reducible apply Part.bit (F.MRV_CONV_SW_ARM_part ..)
    | with_reducible apply Leaves.wr
    | with_reducible apply State.setMu_leaves
    | with_reducible apply Leaves.ite
    | split
    | dsimp only

theorem State.deactivate_leaves {μ : Nat} {s₀ : State} {s : State} (hl : Leaves μ s₀ s) (hμ : 0x10061b90cf21000c601b ||| μ = μ) (m : Nat) :
    Leaves μ s₀ (State.deactivate s m) := by
  refine hl.step (k := 0x10061b90cf21000c601b) ?_ hμ
  clear hl hμ
  unfold State.deactivate
  try dsimp only
  repeat' first
    | with_reducible assumption
    | with_reducible exact Leaves.refl _ _
    | decide
    | with_reducible apply Part.bit (F.MRV_STATUS_ACTIVE_part ..)
    | with_reducible apply Leaves.wr
    | with_reducible apply State.closeBatches_leaves
    | with_reducible apply State.closePatch_leaves
    | with_reducible apply State.notPlaced_leaves
    | with_reducible apply State.setMu_leaves
    | with_reducible refine Leaves.forEach (fun _ _ _ => ?_) ?_
    | with_reducible refine Leaves.forEachFst (fun _ _ _ => ?_) ?_
    | dsimp only

theorem State.rowToPatches_leaves {μ : Nat} {s₀ : State} {s : State} (hl : Leaves μ s₀ s) (hμ : 0x10061b908f000008201b ||| μ = μ) (m : Nat) (r : Row) (ρ : List Patch) :
    Leaves μ s₀ (State.rowToPatches s m r ρ).1 := by
  refine hl.step (k := 0x10061b908f000008201b) ?_ hμ
  clear hl hμ
  induction ρ generalizing s m r with
  | nil =>
    unfold State.rowToPatches
    repeat' first
      | with_reducible assumption
      | with_reducible exact Leaves.refl _ _
      | decide
      | with_reducible apply State.patchRow_leaves
      | (refine Leaves.pair (by assumption) ?_; with_reducible apply State.patchRow_leaves)
      | split
      | dsimp only
  | cons x xs ih =>
    unfold State.rowToPatches
    try dsimp only
    repeat' first
      | with_reducible assumption
      | with_reducible exact Leaves.refl _ _
      | decide
      | with_reducible apply State.patchRow_leaves
      | (refine Leaves.pair (by assumption) ?_; with_reducible apply State.patchRow_leaves)
      | split
      | dsimp only
      | (with_reducible refine Leaves.step ?_ (ih ..) (by decide))

theorem State.endRow_leaves {μ : Nat} {s₀ : State} {s : State} (hl : Leaves μ s₀ s) (hμ : 0x10061b90cf21000c601b ||| μ = μ) (m : Nat) :
    Leaves μ s₀ (State.endRow s m) := by
  refine hl.step (k := 0x10061b90cf21000c601b) ?_ hμ
  clear hl hμ
  unfold State.endRow
  try dsimp only
  repeat' first
    | with_reducible assumption
    | with_reducible exact Leaves.refl _ _
    | decide
    | with_reducible apply Part.bit (F.MRV_TAINT_CNT_COUNT_part ..)
    | with_reducible apply Part.bit (F.MRV_STATUS_TAINT_part ..)
    | with_reducible apply Leaves.bump
    | with_reducible apply Leaves.wr
    | with_reducible apply State.deactivate_leaves
    | with_reducible apply State.filterRow_leaves
    | with_reducible apply State.ringRow_leaves
    | with_reducible apply State.rowToPatches_leaves
    | with_reducible apply State.setMu_leaves
    | with_reducible apply Leaves.ite
    | with_reducible apply Leaves.iteFst
    | (refine Leaves.pair (by assumption) ?_; with_reducible apply State.rowToPatches_leaves)
    | dsimp only

theorem State.startRow_leaves {μ : Nat} {s₀ : State} {s : State} (hl : Leaves μ s₀ s) (hμ : 0x10061b90cf21000c601b ||| μ = μ) (k m : Nat) :
    Leaves μ s₀ (State.startRow s k m) := by
  refine hl.step (k := 0x10061b90cf21000c601b) ?_ hμ
  clear hl hμ
  unfold State.startRow
  try dsimp only
  repeat' first
    | with_reducible assumption
    | with_reducible exact Leaves.refl _ _
    | decide
    | with_reducible apply State.endRow_leaves
    | with_reducible apply State.ringBegin_leaves
    | with_reducible apply State.setMu_leaves
    | with_reducible apply State.startFiltered_leaves
    | with_reducible apply State.tryActivate_leaves
    | with_reducible apply Leaves.ite
    | dsimp only

theorem State.unitBeat_leaves {μ : Nat} {s₀ : State} {s : State} (hl : Leaves μ s₀ s) (hμ : 0x10001990480000042010 ||| μ = μ) (m : Nat) (b : Beat) :
    Leaves μ s₀ (State.unitBeat s m b) := by
  refine hl.step (k := 0x10001990480000042010) ?_ hμ
  clear hl hμ
  unfold State.unitBeat
  try dsimp only
  repeat' first
    | with_reducible assumption
    | with_reducible exact Leaves.refl _ _
    | decide
    | with_reducible apply State.setMu_leaves
    | with_reducible apply State.takePixel_leaves
    | with_reducible apply Leaves.ite
    | with_reducible apply Leaves.iteFst
    | with_reducible refine Leaves.forEach (fun _ _ _ => ?_) ?_
    | with_reducible refine Leaves.forEachFst (fun _ _ _ => ?_) ?_
    | dsimp only

theorem State.spreadTaint_leaves {μ : Nat} {s₀ : State} {s : State} (hl : Leaves μ s₀ s) (hμ : 0x400000000000 ||| μ = μ) (k : Nat) (ends : Bool) :
    Leaves μ s₀ (State.spreadTaint s k ends) := by
  refine hl.step (k := 0x400000000000) ?_ hμ
  clear hl hμ
  unfold State.spreadTaint
  try dsimp only
  repeat' first
    | with_reducible assumption
    | with_reducible exact Leaves.refl _ _
    | decide
    | with_reducible apply State.setMu_leaves
    | with_reducible apply Leaves.ite
    | with_reducible refine Leaves.forEach (fun _ _ _ => ?_) ?_
    | with_reducible refine Leaves.forEachFst (fun _ _ _ => ?_) ?_
    | dsimp only

theorem State.endLine_leaves {μ : Nat} {s₀ : State} {s : State} (hl : Leaves μ s₀ s) (hμ : 0x10061b90cf21000c601b ||| μ = μ) (k : Nat) :
    Leaves μ s₀ (State.endLine s k) := by
  refine hl.step (k := 0x10061b90cf21000c601b) ?_ hμ
  clear hl hμ
  unfold State.endLine
  try dsimp only
  repeat' first
    | with_reducible assumption
    | with_reducible exact Leaves.refl _ _
    | decide
    | with_reducible apply State.endRow_leaves
    | with_reducible apply State.spreadTaint_leaves
    | with_reducible refine Leaves.forEach (fun _ _ _ => ?_) ?_
    | with_reducible refine Leaves.forEachFst (fun _ _ _ => ?_) ?_
    | dsimp only

theorem State.startLine_leaves {μ : Nat} {s₀ : State} {s : State} (hl : Leaves μ s₀ s) (hμ : 0x18061b90ef21000e601b ||| μ = μ) (k : Nat) :
    Leaves μ s₀ (State.startLine s k) := by
  refine hl.step (k := 0x18061b90ef21000e601b) ?_ hμ
  clear hl hμ
  unfold State.startLine
  try dsimp only
  repeat' first
    | with_reducible assumption
    | with_reducible exact Leaves.refl _ _
    | decide
    | with_reducible apply State.endLine_leaves
    | with_reducible apply State.startRow_leaves
    | with_reducible apply State.tagLine_leaves
    | with_reducible refine Leaves.forEach (fun _ _ _ => ?_) ?_
    | with_reducible refine Leaves.forEachFst (fun _ _ _ => ?_) ?_
    | dsimp only

theorem execPixelBusBeat_leaves {s s' : State} (k : Fin 8) (b : Beat) (h : execPixelBusBeat k b s = .next s') : Leaves 0x18061b90ef21000e601b s s' := by
  unfold execPixelBusBeat at h
  refine act_leaves h ?_
  try dsimp only
  clear h
  repeat' first
    | with_reducible apply State.endClock_leaves
    | with_reducible assumption
    | with_reducible exact Leaves.refl _ _
    | decide
    | with_reducible apply State.endLine_leaves
    | with_reducible apply State.formatError_leaves
    | with_reducible apply State.spreadTaint_leaves
    | with_reducible apply State.startLine_leaves
    | with_reducible apply State.syncError_leaves
    | with_reducible apply State.unitBeat_leaves
    | with_reducible apply Leaves.ite
    | with_reducible refine Leaves.forEach (fun _ _ _ => ?_) ?_
    | with_reducible refine Leaves.forEachFst (fun _ _ _ => ?_) ?_
    | dsimp only

end Sys2Proof.Machine
end

