-- ==== Sys2Proof/Laws/Store.lean ====
section
/-!
SUPPORT. What each operation of Machine/Store.lean leaves alone.
-/

set_option linter.all false

namespace Sys2Proof.Machine

theorem State.showCredit_leaves {μ : Nat} {s₀ : State} {s : State} (hl : Leaves μ s₀ s) (hμ : 0x800 ||| μ = μ)  :
    Leaves μ s₀ (State.showCredit s) := by
  refine hl.step (k := 0x800) ?_ hμ
  clear hl hμ
  unfold State.showCredit
  try dsimp only
  repeat' first
    | with_reducible assumption
    | with_reducible exact Leaves.refl _ _
    | decide
    | (with_reducible apply Part.bit (p := .stoRegs) <;> first | decide | exact regPart_stoRegs (by omega) (by omega))
    | with_reducible apply Leaves.wr64
    | dsimp only

theorem State.throttle_leaves {μ : Nat} {s₀ : State} {s : State} (hl : Leaves μ s₀ s) (hμ : 0x10001990080000002810 ||| μ = μ) (b : Bool) :
    Leaves μ s₀ (State.throttle s b) := by
  refine hl.step (k := 0x10001990080000002810) ?_ hμ
  clear hl hμ
  unfold State.throttle
  try dsimp only
  repeat' first
    | with_reducible assumption
    | with_reducible exact Leaves.refl _ _
    | decide
    | with_reducible apply Part.bit (F.STO_STAT_THROTTLED_part ..)
    | with_reducible apply Leaves.wr
    | with_reducible apply State.raise_leaves
    | with_reducible apply Leaves.ite
    | dsimp only

theorem State.spend_leaves {μ : Nat} {s₀ : State} {s : State} (hl : Leaves μ s₀ s) (hμ : 0x10009990080000002810 ||| μ = μ) (tiles : Nat) :
    Leaves μ s₀ (State.spend s tiles) := by
  refine hl.step (k := 0x10009990080000002810) ?_ hμ
  clear hl hμ
  unfold State.spend
  try dsimp only
  repeat' first
    | with_reducible assumption
    | with_reducible exact Leaves.refl _ _
    | decide
    | with_reducible apply State.showCredit_leaves
    | with_reducible apply State.throttle_leaves
    | with_reducible apply Leaves.upd_nand
    | with_reducible apply Leaves.ite
    | dsimp only

theorem State.creditTick_leaves {μ : Nat} {s₀ : State} {s : State} (hl : Leaves μ s₀ s) (hμ : 0x8000000000000800 ||| μ = μ)  :
    Leaves μ s₀ (State.creditTick s) := by
  refine hl.step (k := 0x8000000000000800) ?_ hμ
  clear hl hμ
  unfold State.creditTick
  try dsimp only
  repeat' first
    | with_reducible assumption
    | with_reducible exact Leaves.refl _ _
    | decide
    | with_reducible apply State.showCredit_leaves
    | with_reducible apply Leaves.upd_nand
    | dsimp only

theorem execThrottleRelease_leaves {s s' : State}  (h : execThrottleRelease s = .next s') : Leaves 0x10001990080000002810 s s' := by
  unfold execThrottleRelease at h
  refine act_leaves h ?_
  try dsimp only
  clear h
  repeat' first
    | with_reducible apply State.endClock_leaves
    | with_reducible assumption
    | with_reducible exact Leaves.refl _ _
    | decide
    | with_reducible apply State.throttle_leaves
    | with_reducible apply Leaves.ite
    | dsimp only

theorem State.showSpace_leaves {μ : Nat} {s₀ : State} {s : State} (hl : Leaves μ s₀ s) (hμ : 0x800 ||| μ = μ)  :
    Leaves μ s₀ (State.showSpace s) := by
  refine hl.step (k := 0x800) ?_ hμ
  clear hl hμ
  unfold State.showSpace
  try dsimp only
  repeat' first
    | with_reducible assumption
    | with_reducible exact Leaves.refl _ _
    | decide
    | (with_reducible apply Part.bit (p := .stoRegs) <;> first | decide | exact regPart_stoRegs (by omega) (by omega))
    | with_reducible apply Leaves.wr64
    | dsimp only

theorem State.setOldest_leaves {μ : Nat} {s₀ : State} {s : State} (hl : Leaves μ s₀ s) (hμ : 0x8000000000000800 ||| μ = μ) (t : Nat) :
    Leaves μ s₀ (State.setOldest s t) := by
  refine hl.step (k := 0x8000000000000800) ?_ hμ
  clear hl hμ
  unfold State.setOldest
  try dsimp only
  repeat' first
    | with_reducible assumption
    | with_reducible exact Leaves.refl _ _
    | decide
    | (with_reducible apply Part.bit (p := .stoRegs) <;> first | decide | exact regPart_stoRegs (by omega) (by omega))
    | with_reducible apply Leaves.wr64
    | with_reducible apply State.showSpace_leaves
    | with_reducible apply Leaves.upd_nand
    | dsimp only

theorem State.release_leaves {μ : Nat} {s₀ : State} {s : State} (hl : Leaves μ s₀ s) (hμ : 0x8000000000000800 ||| μ = μ)  :
    Leaves μ s₀ (State.release s) := by
  refine hl.step (k := 0x8000000000000800) ?_ hμ
  clear hl hμ
  unfold State.release
  try dsimp only
  repeat' first
    | with_reducible assumption
    | with_reducible exact Leaves.refl _ _
    | decide
    | with_reducible apply Part.bit (F.STO_STAT_RELEASE_CLAMP_part ..)
    | with_reducible apply Leaves.wr
    | with_reducible apply State.setOldest_leaves
    | with_reducible apply Leaves.ite
    | split
    | dsimp only

theorem State.countEcc_leaves {μ : Nat} {s₀ : State} {s : State} (hl : Leaves μ s₀ s) (hμ : 0x800 ||| μ = μ) (tiles : List Nat) :
    Leaves μ s₀ (State.countEcc s tiles) := by
  refine hl.step (k := 0x800) ?_ hμ
  clear hl hμ
  unfold State.countEcc
  try dsimp only
  repeat' first
    | with_reducible assumption
    | with_reducible exact Leaves.refl _ _
    | decide
    | with_reducible apply Part.bit (F.STO_ECC_CORR_CNT_COUNT_part ..)
    | with_reducible apply Leaves.bumpBy
    | dsimp only

theorem State.recover_leaves {μ : Nat} {s₀ : State} {s : State} (hl : Leaves μ s₀ s) (hμ : 0x18000000000000800 ||| μ = μ)  :
    Leaves μ s₀ (State.recover s) := by
  refine hl.step (k := 0x18000000000000800) ?_ hμ
  clear hl hμ
  unfold State.recover
  try dsimp only
  repeat' first
    | with_reducible assumption
    | with_reducible exact Leaves.refl _ _
    | decide
    | with_reducible apply Part.bit (F.STO_TORN_CNT_COUNT_part ..)
    | with_reducible apply Part.bit (F.STO_STAT_TORN_part ..)
    | (with_reducible apply Part.bit (p := .stoRegs) <;> first | decide | exact regPart_stoRegs (by omega) (by omega))
    | with_reducible apply Leaves.bump
    | with_reducible apply Leaves.wr
    | with_reducible apply Leaves.wr64
    | with_reducible apply Leaves.upd_nand
    | with_reducible apply Leaves.upd_sto
    | with_reducible apply Leaves.ite
    | with_reducible apply Leaves.iteFst
    | split
    | dsimp only

theorem State.setNandRate_leaves {μ : Nat} {s₀ : State} {s : State} (hl : Leaves μ s₀ s) (hμ : 0x4 ||| μ = μ)  :
    Leaves μ s₀ (State.setNandRate s) := by
  refine hl.step (k := 0x4) ?_ hμ
  clear hl hμ
  unfold State.setNandRate
  try dsimp only
  repeat' first
    | with_reducible assumption
    | with_reducible exact Leaves.refl _ _
    | decide
    | with_reducible apply Part.bit (F.CLK_PLL_CFG_N_part ..)
    | with_reducible apply Part.bit (F.CLK_PLL_FRAC_part ..)
    | with_reducible apply Leaves.wr
    | exact Mask.bit (regPart_bit _) (by decide)
    | dsimp only

theorem State.setBadTable_leaves {μ : Nat} {s₀ : State} {s : State} (hl : Leaves μ s₀ s) (hμ : 0x8000000000000000 ||| μ = μ) (die : Nat) (l : List Nat) :
    Leaves μ s₀ (State.setBadTable s die l) := by
  refine hl.step (k := 0x8000000000000000) ?_ hμ
  clear hl hμ
  unfold State.setBadTable
  try dsimp only
  repeat' first
    | with_reducible assumption
    | with_reducible exact Leaves.refl _ _
    | decide
    | with_reducible apply Leaves.upd_nand
    | dsimp only

theorem State.readMarks_leaves {μ : Nat} {s₀ : State} {s : State} (hl : Leaves μ s₀ s) (hμ : 0x8000000000000000 ||| μ = μ) (us : List Die) :
    Leaves μ s₀ (State.readMarks s us) := by
  refine hl.step (k := 0x8000000000000000) ?_ hμ
  clear hl hμ
  unfold State.readMarks
  try dsimp only
  repeat' first
    | with_reducible assumption
    | with_reducible exact Leaves.refl _ _
    | decide
    | with_reducible apply State.setBadTable_leaves
    | with_reducible apply Leaves.upd_nand
    | with_reducible apply Leaves.ite
    | with_reducible refine Leaves.forEach (fun _ _ _ => ?_) ?_
    | with_reducible refine Leaves.forEachFst (fun _ _ _ => ?_) ?_
    | dsimp only

theorem State.mount_leaves {μ : Nat} {s₀ : State} {s : State} (hl : Leaves μ s₀ s) (hμ : 0x18019990080000002814 ||| μ = μ)  :
    Leaves μ s₀ (State.mount s) := by
  refine hl.step (k := 0x18019990080000002814) ?_ hμ
  clear hl hμ
  unfold State.mount
  try dsimp only
  repeat' first
    | with_reducible assumption
    | with_reducible exact Leaves.refl _ _
    | decide
    | with_reducible apply Part.bit (F.STO_GEOM_DIES_part ..)
    | with_reducible apply Part.bit (F.STO_GEOM_PLANES_part ..)
    | with_reducible apply Part.bit (F.STO_GEOM_PAGE_part ..)
    | with_reducible apply Part.bit (F.STO_GEOM_BLOCKS_part ..)
    | with_reducible apply Part.bit (F.STO_BAD_FACT_COUNT_part ..)
    | with_reducible apply Part.bit (F.STO_BAD_GROWN_COUNT_part ..)
    | with_reducible apply Part.bit (F.STO_STAT_GEOM_ERR_part ..)
    | with_reducible apply Part.bit (F.STO_STAT_READY_part ..)
    | with_reducible apply Leaves.wr
    | with_reducible apply State.countEcc_leaves
    | with_reducible apply State.drawn_leaves
    | with_reducible apply State.raise_leaves
    | with_reducible apply State.readMarks_leaves
    | with_reducible apply State.recover_leaves
    | with_reducible apply State.setNandRate_leaves
    | with_reducible apply State.showCredit_leaves
    | with_reducible apply State.showSpace_leaves
    | with_reducible apply State.throttle_leaves
    | with_reducible apply Leaves.upd_sto
    | with_reducible apply Leaves.ite
    | dsimp only

theorem State.unmount_leaves {μ : Nat} {s₀ : State} {s : State} (hl : Leaves μ s₀ s) (hμ : 0x10001990080000002810 ||| μ = μ)  :
    Leaves μ s₀ (State.unmount s) := by
  refine hl.step (k := 0x10001990080000002810) ?_ hμ
  clear hl hμ
  unfold State.unmount
  try dsimp only
  repeat' first
    | with_reducible assumption
    | with_reducible exact Leaves.refl _ _
    | decide
    | with_reducible apply Part.bit (F.STO_STAT_READY_part ..)
    | with_reducible apply Leaves.wr
    | with_reducible apply State.raise_leaves
    | with_reducible apply Leaves.ite
    | dsimp only

theorem State.setCommits_leaves {μ : Nat} {s₀ : State} {s : State} (hl : Leaves μ s₀ s) (hμ : 0x10000000000000800 ||| μ = μ) (q : List Commit) :
    Leaves μ s₀ (State.setCommits s q) := by
  refine hl.step (k := 0x10000000000000800) ?_ hμ
  clear hl hμ
  unfold State.setCommits
  try dsimp only
  repeat' first
    | with_reducible assumption
    | with_reducible exact Leaves.refl _ _
    | decide
    | with_reducible apply Part.bit (F.STO_STAT_QUEUE_part ..)
    | with_reducible apply Leaves.wr
    | with_reducible apply Leaves.upd_sto
    | dsimp only

theorem State.putCommit_leaves {μ : Nat} {s₀ : State} {s : State} (hl : Leaves μ s₀ s) (hμ : 0x10000000000000800 ||| μ = μ) (c : Commit) :
    Leaves μ s₀ (State.putCommit s c) := by
  refine hl.step (k := 0x10000000000000800) ?_ hμ
  clear hl hμ
  unfold State.putCommit
  try dsimp only
  repeat' first
    | with_reducible assumption
    | with_reducible exact Leaves.refl _ _
    | decide
    | with_reducible apply State.setCommits_leaves
    | dsimp only

theorem State.setNblock_leaves {μ : Nat} {s₀ : State} {s : State} (hl : Leaves μ s₀ s) (hμ : 0x8000000000000000 ||| μ = μ) (die b : Nat) (x : NandBlock) :
    Leaves μ s₀ (State.setNblock s die b x) := by
  refine hl.step (k := 0x8000000000000000) ?_ hμ
  clear hl hμ
  unfold State.setNblock
  try dsimp only
  repeat' first
    | with_reducible assumption
    | with_reducible exact Leaves.refl _ _
    | decide
    | with_reducible apply Leaves.upd_nand
    | dsimp only

theorem State.eraseBlock_leaves {μ : Nat} {s₀ : State} {s : State} (hl : Leaves μ s₀ s) (hμ : 0x8000000000000000 ||| μ = μ) (die b : Nat) :
    Leaves μ s₀ (State.eraseBlock s die b) := by
  refine hl.step (k := 0x8000000000000000) ?_ hμ
  clear hl hμ
  unfold State.eraseBlock
  try dsimp only
  repeat' first
    | with_reducible assumption
    | with_reducible exact Leaves.refl _ _
    | decide
    | with_reducible apply State.setNblock_leaves
    | with_reducible apply Leaves.upd_nand
    | with_reducible refine Leaves.forEach (fun _ _ _ => ?_) ?_
    | with_reducible refine Leaves.forEachFst (fun _ _ _ => ?_) ?_
    | dsimp only

theorem State.placeIn_leaves {μ : Nat} {s₀ : State} {s : State} (hl : Leaves μ s₀ s) (hμ : 0x10008000000000000000 ||| μ = μ) (die b tile : Nat) :
    Leaves μ s₀ (State.placeIn s die b tile) := by
  refine hl.step (k := 0x10008000000000000000) ?_ hμ
  clear hl hμ
  unfold State.placeIn
  try dsimp only
  repeat' first
    | with_reducible assumption
    | with_reducible exact Leaves.refl _ _
    | decide
    | with_reducible apply State.emit_leaves
    | with_reducible apply State.eraseBlock_leaves
    | with_reducible apply State.setNblock_leaves
    | with_reducible apply Leaves.upd_nand
    | with_reducible apply Leaves.ite
    | dsimp only

theorem State.placeTile_leaves {μ : Nat} {s₀ : State} {s : State} (hl : Leaves μ s₀ s) (hμ : 0x10008000000000000000 ||| μ = μ) (tile : Nat) :
    Leaves μ s₀ (State.placeTile s tile) := by
  refine hl.step (k := 0x10008000000000000000) ?_ hμ
  clear hl hμ
  unfold State.placeTile
  try dsimp only
  repeat' first
    | with_reducible assumption
    | with_reducible exact Leaves.refl _ _
    | decide
    | with_reducible apply State.placeIn_leaves
    | split
    | dsimp only

theorem State.programTile_leaves {μ : Nat} {s₀ : State} {s : State} (hl : Leaves μ s₀ s) (hμ : 0x10019990080000002810 ||| μ = μ) (kind : Nat) (data : List Byte) :
    Leaves μ s₀ (State.programTile s kind data) := by
  refine hl.step (k := 0x10019990080000002810) ?_ hμ
  clear hl hμ
  unfold State.programTile
  try dsimp only
  repeat' first
    | with_reducible assumption
    | with_reducible exact Leaves.refl _ _
    | decide
    | with_reducible apply State.placeTile_leaves
    | with_reducible apply State.putCommit_leaves
    | with_reducible apply State.spend_leaves
    | with_reducible apply Leaves.upd_nand
    | split
    | dsimp only

theorem State.beginCommit_leaves {μ : Nat} {s₀ : State} {s : State} (hl : Leaves μ s₀ s) (hμ : 0x10019990080000002810 ||| μ = μ)  :
    Leaves μ s₀ (State.beginCommit s) := by
  refine hl.step (k := 0x10019990080000002810) ?_ hμ
  clear hl hμ
  unfold State.beginCommit
  try dsimp only
  repeat' first
    | with_reducible assumption
    | with_reducible exact Leaves.refl _ _
    | decide
    | with_reducible apply State.programTile_leaves
    | with_reducible apply Leaves.ite
    | split
    | dsimp only

theorem State.programFull_leaves {μ : Nat} {s₀ : State} {s : State} (hl : Leaves μ s₀ s) (hμ : 0x10019990080000002810 ||| μ = μ) (ρ : Nat) :
    Leaves μ s₀ (State.programFull s ρ) := by
  refine hl.step (k := 0x10019990080000002810) ?_ hμ
  clear hl hμ
  induction ρ generalizing s with
  | zero =>
    unfold State.programFull
    repeat' first
      | with_reducible assumption
      | with_reducible exact Leaves.refl _ _
      | decide
      | with_reducible apply State.programTile_leaves
      | with_reducible apply State.putCommit_leaves
      | with_reducible apply Leaves.ite
      | split
      | dsimp only
  | succ k ih =>
    unfold State.programFull
    try dsimp only
    repeat' first
      | with_reducible assumption
      | with_reducible exact Leaves.refl _ _
      | decide
      | with_reducible apply State.programTile_leaves
      | with_reducible apply State.putCommit_leaves
      | with_reducible apply Leaves.ite
      | split
      | dsimp only
      | (with_reducible refine Leaves.step ?_ (ih ..) (by decide))

theorem State.addLine_leaves {μ : Nat} {s₀ : State} {s : State} (hl : Leaves μ s₀ s) (hμ : 0x10019990080000002810 ||| μ = μ) (bytes : List Byte) (lost : Bool) :
    Leaves μ s₀ (State.addLine s bytes lost) := by
  refine hl.step (k := 0x10019990080000002810) ?_ hμ
  clear hl hμ
  unfold State.addLine
  try dsimp only
  repeat' first
    | with_reducible assumption
    | with_reducible exact Leaves.refl _ _
    | decide
    | with_reducible apply Part.bit (F.STO_LOST_CNT_COUNT_part ..)
    | with_reducible apply Part.bit (F.STO_STAT_LOST_part ..)
    | with_reducible apply Leaves.bump
    | with_reducible apply Leaves.wr
    | with_reducible apply State.programFull_leaves
    | with_reducible apply State.putCommit_leaves
    | with_reducible apply Leaves.ite
    | split
    | dsimp only

theorem State.readLine_leaves {μ : Nat} {s₀ : State} {s : State} (hl : Leaves μ s₀ s) (hμ : 0x100219900c0000082018 ||| μ = μ) (c : Commit) (line : Nat) :
    Leaves μ s₀ (State.readLine s c line).1 := by
  refine hl.step (k := 0x100219900c0000082018) ?_ hμ
  clear hl hμ
  unfold State.readLine
  try dsimp only
  repeat' first
    | with_reducible assumption
    | with_reducible exact Leaves.refl _ _
    | decide
    | with_reducible apply State.hbmRead_leaves
    | with_reducible apply Leaves.ite
    | with_reducible apply Leaves.iteFst
    | (refine Leaves.pair (by assumption) ?_; with_reducible apply State.hbmRead_leaves)
    | split
    | dsimp only

theorem execStoLineReady_leaves {s s' : State} (up : Upsets) (h : execStoLineReady up s = .next s') : Leaves 0x100799900e000008281a s s' := by
  unfold execStoLineReady at h
  refine act_leaves h ?_
  try dsimp only
  clear h
  repeat' first
    | with_reducible apply State.endClock_leaves
    | with_reducible assumption
    | with_reducible exact Leaves.refl _ _
    | decide
    | with_reducible apply State.addLine_leaves
    | with_reducible apply State.onceHbm_leaves
    | intro _
    | with_reducible apply State.readLine_leaves
    | with_reducible apply State.upsets_leaves
    | with_reducible apply Leaves.ite
    | with_reducible apply Leaves.iteFst
    | (refine Leaves.pair (by assumption) ?_; with_reducible apply State.readLine_leaves)
    | split
    | dsimp only

theorem execLineWaitExpiry_leaves {s s' : State}  (h : execLineWaitExpiry s = .next s') : Leaves 0x10019990080000002810 s s' := by
  unfold execLineWaitExpiry at h
  refine act_leaves h ?_
  try dsimp only
  clear h
  repeat' first
    | with_reducible apply State.endClock_leaves
    | with_reducible assumption
    | with_reducible exact Leaves.refl _ _
    | decide
    | with_reducible apply State.addLine_leaves
    | with_reducible apply Leaves.ite
    | split
    | dsimp only

theorem State.finishCommit_leaves {μ : Nat} {s₀ : State} {s : State} (hl : Leaves μ s₀ s) (hμ : 0x10009990080000002810 ||| μ = μ) (c : Commit) (status : Nat) :
    Leaves μ s₀ (State.finishCommit s c status) := by
  refine hl.step (k := 0x10009990080000002810) ?_ hμ
  clear hl hμ
  unfold State.finishCommit
  try dsimp only
  repeat' first
    | with_reducible assumption
    | with_reducible exact Leaves.refl _ _
    | decide
    | with_reducible apply Part.bit (F.STO_LAST_STATUS_STATUS_part ..)
    | with_reducible apply Part.bit (F.STO_COMMIT_CNT_COUNT_part ..)
    | (with_reducible apply Part.bit (p := .stoRegs) <;> first | decide | exact regPart_stoRegs (by omega) (by omega))
    | with_reducible apply Leaves.wr
    | with_reducible apply Leaves.bump
    | with_reducible apply Leaves.wr64
    | with_reducible apply State.raise_leaves
    | with_reducible apply Leaves.upd_nand
    | with_reducible apply Leaves.ite
    | dsimp only

theorem State.abortCommits_leaves {μ : Nat} {s₀ : State} {s : State} (hl : Leaves μ s₀ s) (hμ : 0x10009990080000002810 ||| μ = μ) (cs : List Commit) :
    Leaves μ s₀ (State.abortCommits s cs) := by
  refine hl.step (k := 0x10009990080000002810) ?_ hμ
  clear hl hμ
  unfold State.abortCommits
  try dsimp only
  repeat' first
    | with_reducible assumption
    | with_reducible exact Leaves.refl _ _
    | decide
    | with_reducible apply State.finishCommit_leaves
    | with_reducible refine Leaves.forEach (fun _ _ _ => ?_) ?_
    | with_reducible refine Leaves.forEachFst (fun _ _ _ => ?_) ?_
    | dsimp only

theorem State.endCommits_leaves {μ : Nat} {s₀ : State} {s : State} (hl : Leaves μ s₀ s) (hμ : 0x10019990080000002810 ||| μ = μ)  :
    Leaves μ s₀ (State.endCommits s) := by
  refine hl.step (k := 0x10019990080000002810) ?_ hμ
  clear hl hμ
  unfold State.endCommits
  try dsimp only
  repeat' first
    | with_reducible assumption
    | with_reducible exact Leaves.refl _ _
    | decide
    | with_reducible apply State.abortCommits_leaves
    | with_reducible apply State.setCommits_leaves
    | dsimp only

theorem State.nextCommit_leaves {μ : Nat} {s₀ : State} {s : State} (hl : Leaves μ s₀ s) (hμ : 0x10019990080000002810 ||| μ = μ)  :
    Leaves μ s₀ (State.nextCommit s) := by
  refine hl.step (k := 0x10019990080000002810) ?_ hμ
  clear hl hμ
  unfold State.nextCommit
  try dsimp only
  repeat' first
    | with_reducible assumption
    | with_reducible exact Leaves.refl _ _
    | decide
    | with_reducible apply State.beginCommit_leaves
    | with_reducible apply State.endCommits_leaves
    | with_reducible apply Leaves.ite
    | dsimp only

theorem State.abortStore_leaves {μ : Nat} {s₀ : State} {s : State} (hl : Leaves μ s₀ s) (hμ : 0x10019990080000002810 ||| μ = μ)  :
    Leaves μ s₀ (State.abortStore s) := by
  refine hl.step (k := 0x10019990080000002810) ?_ hμ
  clear hl hμ
  unfold State.abortStore
  try dsimp only
  repeat' first
    | with_reducible assumption
    | with_reducible exact Leaves.refl _ _
    | decide
    | with_reducible apply Part.bit (F.STO_CTRL_ABORT_part ..)
    | with_reducible apply Leaves.wr
    | with_reducible apply State.endCommits_leaves
    | dsimp only

theorem State.endStore_leaves {μ : Nat} {s₀ : State} {s : State} (hl : Leaves μ s₀ s) (hμ : 0x10019990080000002810 ||| μ = μ)  :
    Leaves μ s₀ (State.endStore s) := by
  refine hl.step (k := 0x10019990080000002810) ?_ hμ
  clear hl hμ
  unfold State.endStore
  try dsimp only
  repeat' first
    | with_reducible assumption
    | with_reducible exact Leaves.refl _ _
    | decide
    | with_reducible apply State.endCommits_leaves
    | with_reducible apply Leaves.ite
    | dsimp only

theorem execStoCommitFinish_leaves {s s' : State}  (h : execStoCommitFinish s = .next s') : Leaves 0x10019990080000002810 s s' := by
  unfold execStoCommitFinish at h
  refine act_leaves h ?_
  try dsimp only
  clear h
  repeat' first
    | with_reducible apply State.endClock_leaves
    | with_reducible assumption
    | with_reducible exact Leaves.refl _ _
    | decide
    | with_reducible apply State.finishCommit_leaves
    | with_reducible apply State.nextCommit_leaves
    | with_reducible apply State.programTile_leaves
    | with_reducible apply State.putCommit_leaves
    | with_reducible apply State.setCommits_leaves
    | with_reducible apply Leaves.ite
    | split
    | dsimp only

theorem execStoreCommit_leaves {s s' : State}  (h : execStoreCommit s = .next s') : Leaves 0x110199d0080000102810 s s' := by
  unfold execStoreCommit at h
  refine act_leaves h ?_
  try dsimp only
  clear h
  repeat' first
    | with_reducible apply State.endClock_leaves
    | with_reducible assumption
    | with_reducible exact Leaves.refl _ _
    | decide
    | (with_reducible apply Part.bit (p := .stoRegs) <;> first | decide | exact regPart_stoRegs (by omega) (by omega))
    | with_reducible apply Leaves.wr64
    | with_reducible apply State.beginCommit_leaves
    | with_reducible apply State.endLong_leaves
    | with_reducible apply State.setCommits_leaves
    | with_reducible apply State.showSpace_leaves
    | with_reducible apply State.startLong_leaves
    | with_reducible apply Leaves.upd_nand
    | with_reducible apply Leaves.upd_sto
    | with_reducible apply Leaves.ite
    | split
    | dsimp only

theorem execStoreRead_leaves {s s' : State}  (h : execStoreRead s = .next s') : Leaves 0x110019d0080000102010 s s' := by
  unfold execStoreRead at h
  refine act_leaves h ?_
  try dsimp only
  clear h
  repeat' first
    | with_reducible apply State.endClock_leaves
    | with_reducible assumption
    | with_reducible exact Leaves.refl _ _
    | decide
    | with_reducible apply State.endLong_leaves
    | with_reducible apply State.startLong_leaves
    | with_reducible apply Leaves.ite
    | with_reducible apply Leaves.iteFst
    | split
    | dsimp only

theorem State.tileFailed_leaves {μ : Nat} {s₀ : State} {s : State} (hl : Leaves μ s₀ s) (hμ : 0x10001990080000002810 ||| μ = μ) (tile : Nat) :
    Leaves μ s₀ (State.tileFailed s tile) := by
  refine hl.step (k := 0x10001990080000002810) ?_ hμ
  clear hl hμ
  unfold State.tileFailed
  try dsimp only
  repeat' first
    | with_reducible assumption
    | with_reducible exact Leaves.refl _ _
    | decide
    | with_reducible apply Part.bit (F.STO_CRC_ERR_CNT_COUNT_part ..)
    | with_reducible apply Part.bit (F.STO_STAT_RD_ERR_part ..)
    | (with_reducible apply Part.bit (p := .stoRegs) <;> first | decide | exact regPart_stoRegs (by omega) (by omega))
    | with_reducible apply Leaves.bump
    | with_reducible apply Leaves.wr
    | with_reducible apply Leaves.setReg
    | with_reducible apply State.raise_leaves
    | with_reducible apply Leaves.ite
    | dsimp only

theorem State.deliverTile_leaves {μ : Nat} {s₀ : State}  (x : State × Nat) (a tile : Nat) (corrected failed : List (BitVec 64))(hl : Leaves μ s₀ x.1) (hμ : 0x10061b900f000008281b ||| μ = μ) :
    Leaves μ s₀ (State.deliverTile x a tile corrected failed).1 := by
  refine hl.step (k := 0x10061b900f000008281b) ?_ hμ
  clear hl hμ
  unfold State.deliverTile
  try dsimp only
  repeat' first
    | with_reducible assumption
    | with_reducible exact Leaves.refl _ _
    | decide
    | with_reducible apply Part.bit (F.STO_ECC_CORR_CNT_COUNT_part ..)
    | with_reducible apply Leaves.bump
    | with_reducible apply State.hbmWrite_leaves
    | with_reducible apply State.tileFailed_leaves
    | with_reducible apply Leaves.ite
    | with_reducible apply Leaves.iteFst
    | split
    | dsimp only

theorem execStoreReadComplete_leaves {s s' : State} (corrected failed : List (BitVec 64)) (h : execStoreReadComplete corrected failed s = .next s') : Leaves 0x11061bd00f000018281b s s' := by
  unfold execStoreReadComplete at h
  refine act_leaves h ?_
  try dsimp only
  clear h
  repeat' first
    | with_reducible apply State.endClock_leaves
    | with_reducible assumption
    | with_reducible exact Leaves.refl _ _
    | decide
    | with_reducible apply State.deliverTile_leaves
    | with_reducible apply State.endLong_leaves
    | with_reducible apply State.onceHbm_leaves
    | intro _
    | with_reducible apply Leaves.ite
    | with_reducible apply Leaves.iteFst
    | with_reducible refine Leaves.foldl (fun _ _ _ => ?_) ?_
    | with_reducible refine Leaves.foldlFst (fun _ _ _ => ?_) ?_
    | (refine Leaves.pair (by assumption) ?_; with_reducible apply State.deliverTile_leaves)
    | split
    | dsimp only

theorem State.loseTiles_leaves {μ : Nat} {s₀ : State} {s : State} (hl : Leaves μ s₀ s) (hμ : 0x8000000000000000 ||| μ = μ) (failed : List (BitVec 64)) :
    Leaves μ s₀ (State.loseTiles s failed) := by
  refine hl.step (k := 0x8000000000000000) ?_ hμ
  clear hl hμ
  unfold State.loseTiles
  try dsimp only
  repeat' first
    | with_reducible assumption
    | with_reducible exact Leaves.refl _ _
    | decide
    | with_reducible apply Leaves.upd_nand
    | dsimp only

theorem execGrownBadBlock_leaves {s s' : State} (die : Fin 64) (block : Fin 1048576) (corrected failed : List (BitVec 64)) (h : execGrownBadBlock die block corrected failed s = .next s') : Leaves 0x10019990080000002810 s s' := by
  unfold execGrownBadBlock at h
  refine act_leaves h ?_
  try dsimp only
  clear h
  repeat' first
    | with_reducible apply State.endClock_leaves
    | with_reducible assumption
    | with_reducible exact Leaves.refl _ _
    | decide
    | with_reducible apply Part.bit (F.STO_BAD_GROWN_COUNT_part ..)
    | with_reducible apply Part.bit (F.STO_STAT_BAD_BLOCK_part ..)
    | with_reducible apply Leaves.wr
    | with_reducible apply State.countEcc_leaves
    | with_reducible apply State.finishCommit_leaves
    | with_reducible apply State.loseTiles_leaves
    | with_reducible apply State.nextCommit_leaves
    | with_reducible apply State.placeTile_leaves
    | with_reducible apply State.raise_leaves
    | with_reducible apply State.setBadTable_leaves
    | with_reducible apply State.setCommits_leaves
    | with_reducible apply State.showSpace_leaves
    | with_reducible apply State.spend_leaves
    | with_reducible apply Leaves.upd_nand
    | with_reducible apply Leaves.ite
    | with_reducible refine Leaves.forEach (fun _ _ _ => ?_) ?_
    | with_reducible refine Leaves.forEachFst (fun _ _ _ => ?_) ?_
    | split
    | dsimp only

end Sys2Proof.Machine
end

