-- ==== Sys2Proof/Laws/Image.lean ====
section
/-!
SUPPORT. What each operation of Machine/Image.lean leaves alone.
-/

set_option linter.all false

namespace Sys2Proof.Machine

theorem State.readHbm_leaves {μ : Nat} {s₀ : State} {s : State} (hl : Leaves μ s₀ s) (hμ : 0x100219900c0000082018 ||| μ = μ) (a len : Nat) :
    Leaves μ s₀ (State.readHbm s a len) := by
  refine hl.step (k := 0x100219900c0000082018) ?_ hμ
  clear hl hμ
  unfold State.readHbm
  try dsimp only
  repeat' first
    | with_reducible assumption
    | with_reducible exact Leaves.refl _ _
    | decide
    | with_reducible apply State.hbmRead_leaves
    | (refine Leaves.pair (by assumption) ?_; with_reducible apply State.hbmRead_leaves)
    | dsimp only

theorem State.loadReg_leaves {μ : Nat} {s₀ : State} {s : State} (hl : Leaves μ s₀ s) (hμ : 0x7fffff ||| μ = μ) (off val mask : Nat) :
    Leaves μ s₀ (State.loadReg s off val mask) := by
  refine hl.step (k := 0x7fffff) ?_ hμ
  clear hl hμ
  unfold State.loadReg
  try dsimp only
  repeat' first
    | with_reducible assumption
    | with_reducible exact Leaves.refl _ _
    | decide
    | with_reducible apply Leaves.setReg
    | exact Mask.bit (regPart_bit _) (by decide)
    | split
    | dsimp only

theorem State.putStep_leaves {μ : Nat} {s₀ : State} {s : State} (hl : Leaves μ s₀ s) (hμ : 0x4000000 ||| μ = μ) (t p st w : Nat) :
    Leaves μ s₀ (State.putStep s t p st w) := by
  refine hl.step (k := 0x4000000) ?_ hμ
  clear hl hμ
  unfold State.putStep
  try dsimp only
  repeat' first
    | with_reducible assumption
    | with_reducible exact Leaves.refl _ _
    | decide
    | with_reducible apply Leaves.upd_steps
    | exact fun h => Tab.wf_set _ _ _ h
    | exact fun h => Bytes.wf_write _ _ h
    | exact fun h => Bytes.wf_set _ _ h
    | exact fun h => bufSet_wf _ _ h
    | exact fun h => Tab.wf_clear _ _ _ h
    | exact fun h => Tab.wf_filter _ _ h
    | dsimp only

theorem State.putRow_leaves {μ : Nat} {s₀ : State} {s : State} (hl : Leaves μ s₀ s) (hμ : 0x8000000 ||| μ = μ) (t r fields : Nat) :
    Leaves μ s₀ (State.putRow s t r fields) := by
  refine hl.step (k := 0x8000000) ?_ hμ
  clear hl hμ
  unfold State.putRow
  try dsimp only
  repeat' first
    | with_reducible assumption
    | with_reducible exact Leaves.refl _ _
    | decide
    | with_reducible apply Leaves.upd_routes
    | exact fun h => Tab.wf_set _ _ _ h
    | exact fun h => Bytes.wf_write _ _ h
    | exact fun h => Bytes.wf_set _ _ h
    | exact fun h => bufSet_wf _ _ h
    | exact fun h => Tab.wf_clear _ _ _ h
    | exact fun h => Tab.wf_filter _ _ h
    | dsimp only

theorem State.writeFrame_leaves {μ : Nat} {s₀ : State} {s : State} (hl : Leaves μ s₀ s) (hμ : 0x2400000c7fffff ||| μ = μ) (g : Src) (f : Frm) :
    Leaves μ s₀ (State.writeFrame s g f) := by
  refine hl.step (k := 0x2400000c7fffff) ?_ hμ
  clear hl hμ
  unfold State.writeFrame
  try dsimp only
  repeat' first
    | with_reducible assumption
    | with_reducible exact Leaves.refl _ _
    | decide
    | (with_reducible apply Part.bit (p := .gafRegs) <;> first | decide | exact regPart_gafRegs (by omega) (by omega) (by omega))
    | with_reducible apply Leaves.setReg
    | with_reducible apply State.loadReg_leaves
    | with_reducible apply State.putRow_leaves
    | with_reducible apply State.putStep_leaves
    | with_reducible apply Leaves.upd_fab
    | with_reducible apply Leaves.upd_slots
    | exact Mask.bit (regPart_bit _) (by decide)
    | with_reducible apply Leaves.ite
    | with_reducible apply Leaves.iteFst
    | with_reducible refine Leaves.forEach (fun _ _ _ => ?_) ?_
    | with_reducible refine Leaves.forEachFst (fun _ _ _ => ?_) ?_
    | dsimp only

theorem Src.scanFrames_leaves {μ : Nat} {s₀ : State} {s : State} (hl : Leaves μ s₀ s) (hμ : 0x2400000c7fffff ||| μ = μ) (g : Src)
    (m : Pick) (i : Nat) (x : Sec) (fuel pos seq : Nat) : Leaves μ s₀ (Src.scanFrames g m i x fuel pos seq s).st := by
  induction fuel generalizing pos seq s with
  | zero => exact hl
  | succ fuel ih =>
    unfold Src.scanFrames
    split
    · split <;> exact hl
    · dsimp only
      split
      · exact ih hl _ _
      · split
        · exact hl
        · exact ih (.ite (State.writeFrame_leaves hl (Mask.trans (by decide) hμ) _ _) hl) _ _

theorem Src.scanSections_leaves {μ : Nat} {s₀ : State} {s : State} (hl : Leaves μ s₀ s) (hμ : 0x2400000c7fffff ||| μ = μ) (g : Src)
    (m : Pick) (l : List (Nat × Sec)) : Leaves μ s₀ (Src.scanSections g m l s).st := by
  induction l generalizing s with
  | nil => exact hl
  | cons x l ih =>
    unfold Src.scanSections
    have h := Src.scanFrames_leaves hl (Mask.trans (by decide) hμ) g m x.1 x.2 ((x.2.stop - x.2.off) / 32 + 1) x.2.off 0
    dsimp only
    split
    · exact h
    · exact ih h

theorem State.clearLayers_leaves {μ : Nat} {s₀ : State} {s : State} (hl : Leaves μ s₀ s) (hμ : 0x20000000000c000000 ||| μ = μ) (pt : Nat) (win : Option Bool) :
    Leaves μ s₀ (State.clearLayers s pt win) := by
  refine hl.step (k := 0x20000000000c000000) ?_ hμ
  clear hl hμ
  unfold State.clearLayers
  try dsimp only
  repeat' first
    | with_reducible assumption
    | with_reducible exact Leaves.refl _ _
    | decide
    | with_reducible apply Leaves.upd_bst
    | with_reducible apply Leaves.upd_routes
    | exact fun h => Tab.wf_set _ _ _ h
    | exact fun h => Bytes.wf_write _ _ h
    | exact fun h => Bytes.wf_set _ _ h
    | exact fun h => bufSet_wf _ _ h
    | exact fun h => Tab.wf_clear _ _ _ h
    | exact fun h => Tab.wf_filter _ _ h
    | with_reducible apply Leaves.upd_steps
    | split
    | dsimp only

theorem State.clearProg_leaves {μ : Nat} {s₀ : State} {s : State} (hl : Leaves μ s₀ s) (hμ : 0x1000 ||| μ = μ) (n : Nat) :
    Leaves μ s₀ (State.clearProg s n) :=
  hl.clearRegs fun off h1 h2 => Mask.bit (Part.bit (regPart_gafRegs (by omega) (by omega) (by omega)) (by decide)) hμ

theorem State.clearPart_leaves {μ : Nat} {s₀ : State} {s : State} (hl : Leaves μ s₀ s) (hμ : 0x20000000000000 ||| μ = μ) (k : Nat) :
    Leaves μ s₀ (State.clearPart s k) := by
  refine hl.step (k := 0x20000000000000) ?_ hμ
  clear hl hμ
  unfold State.clearPart
  try dsimp only
  repeat' first
    | with_reducible assumption
    | with_reducible exact Leaves.refl _ _
    | decide
    | with_reducible apply Leaves.upd_fab
    | dsimp only

theorem State.clearArray_leaves {μ : Nat} {s₀ : State} {s : State} (hl : Leaves μ s₀ s) (hμ : 0x20000400000c001000 ||| μ = μ) (kept : Nat → Bool) :
    Leaves μ s₀ (State.clearArray s kept) := by
  refine hl.step (k := 0x20000400000c001000) ?_ hμ
  clear hl hμ
  unfold State.clearArray
  try dsimp only
  repeat' first
    | with_reducible assumption
    | with_reducible exact Leaves.refl _ _
    | decide
    | with_reducible apply State.clearLayers_leaves
    | with_reducible apply State.clearProg_leaves
    | with_reducible apply Leaves.upd_slots
    | with_reducible apply Leaves.ite
    | with_reducible refine Leaves.forEach (fun _ _ _ => ?_) ?_
    | with_reducible refine Leaves.forEachFst (fun _ _ _ => ?_) ?_
    | dsimp only

theorem State.clearAll_leaves {μ : Nat} {s₀ : State} {s : State} (hl : Leaves μ s₀ s) (hμ : 0x20002400000c001000 ||| μ = μ) (kept : Nat → Bool) :
    Leaves μ s₀ (State.clearAll s kept) := by
  refine hl.step (k := 0x20002400000c001000) ?_ hμ
  clear hl hμ
  unfold State.clearAll
  try dsimp only
  repeat' first
    | with_reducible assumption
    | with_reducible exact Leaves.refl _ _
    | decide
    | with_reducible apply State.clearArray_leaves
    | with_reducible apply State.clearPart_leaves
    | with_reducible refine Leaves.forEach (fun _ _ _ => ?_) ?_
    | with_reducible refine Leaves.forEachFst (fun _ _ _ => ?_) ?_
    | dsimp only

theorem State.markEss_leaves {μ : Nat} {s₀ : State} {s : State} (hl : Leaves μ s₀ s) (hμ : 0x20000000000000 ||| μ = μ) (g : Src) (ks : List Nat) :
    Leaves μ s₀ (State.markEss s g ks) := by
  refine hl.step (k := 0x20000000000000) ?_ hμ
  clear hl hμ
  unfold State.markEss
  try dsimp only
  repeat' first
    | with_reducible assumption
    | with_reducible exact Leaves.refl _ _
    | decide
    | with_reducible apply Leaves.upd_fab
    | with_reducible refine Leaves.foldl (fun _ _ _ => ?_) ?_
    | with_reducible refine Leaves.foldlFst (fun _ _ _ => ?_) ?_
    | dsimp only

theorem State.clearFor_leaves {μ : Nat} {s₀ : State} {s : State} (hl : Leaves μ s₀ s) (hμ : 0x20002000000c001000 ||| μ = μ) (g : Src) :
    Leaves μ s₀ (State.clearFor s g) := by
  refine hl.step (k := 0x20002000000c001000) ?_ hμ
  clear hl hμ
  unfold State.clearFor
  try dsimp only
  repeat' first
    | with_reducible assumption
    | with_reducible exact Leaves.refl _ _
    | decide
    | with_reducible apply State.clearLayers_leaves
    | with_reducible apply State.clearPart_leaves
    | with_reducible apply State.clearProg_leaves
    | with_reducible apply Leaves.ite
    | with_reducible refine Leaves.forEach (fun _ _ _ => ?_) ?_
    | with_reducible refine Leaves.forEachFst (fun _ _ _ => ?_) ?_
    | dsimp only

theorem State.loadImage_leaves {μ : Nat} {s₀ : State} {s : State} (hl : Leaves μ s₀ s) (hμ : 0x2400000c7fffff ||| μ = μ) (g : Src)
    (m : Pick) : Leaves μ s₀ (State.loadImage s g m).st := Src.scanSections_leaves hl hμ g m _

/-- A frame of tiles is written to their step words or route rows alone. -/
theorem State.writeTiles_leaves {μ : Nat} {s₀ s : State} (hl : Leaves μ s₀ s) (hμ : 0xc000000 ||| μ = μ) (g : Src) (f : Frm)
    (ts : List Nat) (hf : Frm.ofTiles ts f = true) : Leaves μ s₀ (s.writeFrame g f) := by
  simp only [Frm.ofTiles, Bool.and_eq_true, Bool.or_eq_true, beq_iff_eq] at hf
  unfold State.writeFrame
  dsimp only
  split
  · exact Leaves.forEach (fun _ _ h => State.putStep_leaves h (Mask.trans (by decide) hμ) _ _ _ _) hl
  · have h2 : f.typ = 2 := by tauto
    rw [if_pos h2]
    exact Leaves.forEach (fun _ _ h => State.putRow_leaves h (Mask.trans (by decide) hμ) _ _ _) hl

/-- A scan that takes the frames of tiles alone writes their step words and route rows alone. -/
theorem Src.scanFramesTiles_leaves {μ : Nat} {s₀ s : State} (hl : Leaves μ s₀ s) (hμ : 0xc000000 ||| μ = μ) (g : Src)
    (ts : List Nat) (i : Nat) (x : Sec) (fuel pos seq : Nat) :
    Leaves μ s₀ (Src.scanFrames g (.only (Frm.ofTiles ts)) i x fuel pos seq s).st := by
  induction fuel generalizing pos seq s with
  | zero => exact hl
  | succ fuel ih =>
    unfold Src.scanFrames
    split
    · split <;> exact hl
    · dsimp only
      split
      · exact ih hl _ _
      · next hr =>
        split
        · exact hl
        · refine ih (.ite (State.writeTiles_leaves hl hμ _ _ ts ?_) hl) _ _
          simpa [Pick.only] using hr

/-- The same of the sections of an image. -/
theorem Src.scanTiles_leaves {μ : Nat} {s₀ s : State} (hl : Leaves μ s₀ s) (hμ : 0xc000000 ||| μ = μ) (g : Src)
    (ts : List Nat) (l : List (Nat × Sec)) : Leaves μ s₀ (Src.scanSections g (.only (Frm.ofTiles ts)) l s).st := by
  induction l generalizing s with
  | nil => exact hl
  | cons x l ih =>
    unfold Src.scanSections
    have h := Src.scanFramesTiles_leaves hl hμ g ts x.1 x.2 ((x.2.stop - x.2.off) / 32 + 1) x.2.off 0
    dsimp only
    split
    · exact h
    · exact ih h

/-- A reload of tiles from an image writes their step words and route rows alone. -/
theorem State.loadTiles_leaves {μ : Nat} {s₀ s : State} (hl : Leaves μ s₀ s) (hμ : 0xc000000 ||| μ = μ) (g : Src)
    (ts : List Nat) : Leaves μ s₀ (s.loadImage g (.only (Frm.ofTiles ts))).st :=
  Src.scanTiles_leaves hl hμ g ts _


end Sys2Proof.Machine
end

