-- ==== Sys2Proof/Laws/Loader.lean ====
section
/-!
SUPPORT. What each operation of Machine/Loader.lean leaves alone.
-/

set_option linter.all false

namespace Sys2Proof.Machine

theorem readyFld_bit (n : Nat) (win : Bool) {m : Nat} (hm : m.testBit Part.gafRegs.ctorIdx = true) :
    m.testBit (regPart (readyFld n win).off).ctorIdx = true := by
  cases win
  · exact Part.bit (F.GAF_STATUS_READY_A_part n) hm
  · exact Part.bit (F.GAF_STATUS_READY_B_part n) hm

theorem State.showStore_leaves {μ : Nat} {s₀ : State} {s : State} (hl : Leaves μ s₀ s) (hμ : 0x40 ||| μ = μ)  :
    Leaves μ s₀ (State.showStore s) := by
  refine hl.step (k := 0x40) ?_ hμ
  clear hl hμ
  unfold State.showStore
  try dsimp only
  repeat' first
    | with_reducible assumption
    | with_reducible exact Leaves.refl _ _
    | decide
    | (with_reducible apply Part.bit (p := .cfgRegs) <;> first | decide | exact regPart_cfgRegs (by omega) (by omega))
    | with_reducible apply Leaves.setReg
    | exact Mask.bit (regPart_bit _) (by decide)
    | with_reducible refine Leaves.forEach (fun _ _ _ => ?_) ?_
    | with_reducible refine Leaves.forEachFst (fun _ _ _ => ?_) ?_
    | dsimp only

theorem State.setSlot_leaves {μ : Nat} {s₀ : State} {s : State} (hl : Leaves μ s₀ s) (hμ : 0x2000000000000040 ||| μ = μ) (k : Nat) (d : Slot) :
    Leaves μ s₀ (State.setSlot s k d) := by
  refine hl.step (k := 0x2000000000000040) ?_ hμ
  clear hl hμ
  unfold State.setSlot
  try dsimp only
  repeat' first
    | with_reducible assumption
    | with_reducible exact Leaves.refl _ _
    | decide
    | with_reducible apply State.showStore_leaves
    | with_reducible apply Leaves.upd_cstore
    | dsimp only

theorem State.setPar_leaves {μ : Nat} {s₀ : State} {s : State} (hl : Leaves μ s₀ s) (hμ : 0x2000000000000040 ||| μ = μ) (i : Nat) (p : Par) :
    Leaves μ s₀ (State.setPar s i p) := by
  refine hl.step (k := 0x2000000000000040) ?_ hμ
  clear hl hμ
  unfold State.setPar
  try dsimp only
  repeat' first
    | with_reducible assumption
    | with_reducible exact Leaves.refl _ _
    | decide
    | with_reducible apply State.showStore_leaves
    | with_reducible apply Leaves.upd_cstore
    | dsimp only

theorem State.setLdr_leaves {μ : Nat} {s₀ : State} {s : State} (hl : Leaves μ s₀ s) (hμ : 0x4000000000000000 ||| μ = μ) (l : Loader) :
    Leaves μ s₀ (State.setLdr s l) := by
  refine hl.step (k := 0x4000000000000000) ?_ hμ
  clear hl hμ
  unfold State.setLdr
  try dsimp only
  repeat' first
    | with_reducible assumption
    | with_reducible exact Leaves.refl _ _
    | decide
    | with_reducible apply Leaves.upd_ldr
    | dsimp only

theorem State.showBusy_leaves {μ : Nat} {s₀ : State} {s : State} (hl : Leaves μ s₀ s) (hμ : 0x40 ||| μ = μ)  :
    Leaves μ s₀ (State.showBusy s) := by
  refine hl.step (k := 0x40) ?_ hμ
  clear hl hμ
  unfold State.showBusy
  try dsimp only
  repeat' first
    | with_reducible assumption
    | with_reducible exact Leaves.refl _ _
    | decide
    | with_reducible apply Part.bit (F.CFG_STAT_LOAD_BUSY_part ..)
    | with_reducible apply Leaves.wr
    | dsimp only

theorem State.useSectors_leaves {μ : Nat} {s₀ : State} {s : State} (hl : Leaves μ s₀ s) (hμ : 0x10041990080000002012 ||| μ = μ) (l : List Nat) :
    Leaves μ s₀ (State.useSectors s l) := by
  refine hl.step (k := 0x10041990080000002012) ?_ hμ
  clear hl hμ
  unfold State.useSectors
  try dsimp only
  repeat' first
    | with_reducible assumption
    | with_reducible exact Leaves.refl _ _
    | decide
    | with_reducible apply State.evalVotes_leaves
    | with_reducible apply Leaves.upd_pwr
    | dsimp only

theorem State.testSectors_leaves {μ : Nat} {s₀ : State} {s : State} (hl : Leaves μ s₀ s) (hμ : 0x10041990080000002012 ||| μ = μ) (l : List Nat) :
    Leaves μ s₀ (State.testSectors s l) := by
  refine hl.step (k := 0x10041990080000002012) ?_ hμ
  clear hl hμ
  unfold State.testSectors
  try dsimp only
  repeat' first
    | with_reducible assumption
    | with_reducible exact Leaves.refl _ _
    | decide
    | with_reducible apply State.evalVotes_leaves
    | with_reducible apply Leaves.upd_pwr
    | dsimp only

theorem State.loadErr_leaves {μ : Nat} {s₀ : State} {s : State} (hl : Leaves μ s₀ s) (hμ : 0x40 ||| μ = μ) (f : ImgFail) :
    Leaves μ s₀ (State.loadErr s f) := by
  refine hl.step (k := 0x40) ?_ hμ
  clear hl hμ
  unfold State.loadErr
  try dsimp only
  repeat' first
    | with_reducible assumption
    | with_reducible exact Leaves.refl _ _
    | decide
    | with_reducible apply Part.bit (F.CFG_LOAD_ERR_CNT_COUNT_part ..)
    | (with_reducible apply Part.bit (p := .cfgRegs) <;> first | decide | exact regPart_cfgRegs (by omega) (by omega))
    | with_reducible apply Leaves.bump
    | with_reducible apply Leaves.setReg
    | with_reducible apply Leaves.ite
    | dsimp only

theorem State.setLoading_leaves {μ : Nat} {s₀ : State} {s : State} (hl : Leaves μ s₀ s) (hμ : 0x1008 ||| μ = μ) (n : Nat) :
    Leaves μ s₀ (State.setLoading s n) := by
  refine hl.step (k := 0x1008) ?_ hμ
  clear hl hμ
  unfold State.setLoading
  try dsimp only
  repeat' first
    | with_reducible assumption
    | with_reducible exact Leaves.refl _ _
    | decide
    | with_reducible apply Part.bit (F.FLT_STAT_FENCED_part ..)
    | with_reducible apply Part.bit (F.GAF_STATUS_STATE_part ..)
    | with_reducible apply Leaves.wr
    | with_reducible apply readyFld_bit
    | dsimp only

theorem State.setWinSrc_leaves {μ : Nat} {s₀ : State} {s : State} (hl : Leaves μ s₀ s) (hμ : 0x4000000000000040 ||| μ = μ) (n w : Nat) (i : Option Nat) :
    Leaves μ s₀ (State.setWinSrc s n w i) := by
  refine hl.step (k := 0x4000000000000040) ?_ hμ
  clear hl hμ
  unfold State.setWinSrc
  try dsimp only
  repeat' first
    | with_reducible assumption
    | with_reducible exact Leaves.refl _ _
    | decide
    | with_reducible apply State.setLdr_leaves
    | with_reducible apply State.showStore_leaves
    | with_reducible apply Leaves.ite
    | dsimp only

theorem State.setPartSrc_leaves {μ : Nat} {s₀ : State} {s : State} (hl : Leaves μ s₀ s) (hμ : 0x4000000000000040 ||| μ = μ) (k : Nat) (i : Option Nat) :
    Leaves μ s₀ (State.setPartSrc s k i) := by
  refine hl.step (k := 0x4000000000000040) ?_ hμ
  clear hl hμ
  unfold State.setPartSrc
  try dsimp only
  repeat' first
    | with_reducible assumption
    | with_reducible exact Leaves.refl _ _
    | decide
    | with_reducible apply State.setLdr_leaves
    | with_reducible apply State.showStore_leaves
    | dsimp only

theorem State.measure_leaves {μ : Nat} {s₀ : State} {s : State} (hl : Leaves μ s₀ s) (hμ : 0x800000000000000000 ||| μ = μ) (i : Nat) (g : Src) :
    Leaves μ s₀ (State.measure s i g) := by
  refine hl.step (k := 0x800000000000000000) ?_ hμ
  clear hl hμ
  unfold State.measure
  try dsimp only
  repeat' first
    | with_reducible assumption
    | with_reducible exact Leaves.refl _ _
    | decide
    | with_reducible apply Leaves.upd_lcs
    | dsimp only

theorem State.reloadTiles_leaves {μ : Nat} {s₀ : State} {s : State} (hl : Leaves μ s₀ s) (hμ : 0x20000000000c000000 ||| μ = μ) (ts : List Nat) (ρ : List (Src × Option Bool)) :
    Leaves μ s₀ (State.reloadTiles s ts ρ).1 := by
  refine hl.step (k := 0x20000000000c000000) ?_ hμ
  clear hl hμ
  induction ρ generalizing s ts with
  | nil =>
    unfold State.reloadTiles
    repeat' first
      | with_reducible assumption
      | with_reducible exact Leaves.refl _ _
      | decide
      | with_reducible apply State.clearLayers_leaves
      | with_reducible apply State.loadTiles_leaves
      | with_reducible refine Leaves.forEach (fun _ _ _ => ?_) ?_
      | with_reducible refine Leaves.forEachFst (fun _ _ _ => ?_) ?_
      | split
      | dsimp only
  | cons x xs ih =>
    unfold State.reloadTiles
    try dsimp only
    repeat' first
      | with_reducible assumption
      | with_reducible exact Leaves.refl _ _
      | decide
      | with_reducible apply State.clearLayers_leaves
      | with_reducible apply State.loadTiles_leaves
      | with_reducible refine Leaves.forEach (fun _ _ _ => ?_) ?_
      | with_reducible refine Leaves.forEachFst (fun _ _ _ => ?_) ?_
      | split
      | dsimp only
      | (with_reducible refine Leaves.step ?_ (ih ..) (by decide))

theorem execStageParison_leaves {s s' : State}  (h : execStageParison s = .next s') : Leaves 0x110079d0080000102050 s s' := by
  unfold execStageParison at h
  refine act_leaves h ?_
  try dsimp only
  clear h
  repeat' first
    | with_reducible apply State.endClock_leaves
    | with_reducible assumption
    | with_reducible exact Leaves.refl _ _
    | decide
    | with_reducible apply State.endLong_leaves
    | with_reducible apply State.setLdr_leaves
    | with_reducible apply State.setPar_leaves
    | with_reducible apply State.showBusy_leaves
    | with_reducible apply State.startLong_leaves
    | with_reducible apply Leaves.ite
    | split
    | dsimp only

theorem execParisonStageComplete_leaves {s s' : State} (up : Upsets) (h : execParisonStageComplete up s = .next s') : Leaves 0x110679d00e000018205a s s' := by
  unfold execParisonStageComplete at h
  refine act_leaves h ?_
  try dsimp only
  clear h
  repeat' first
    | with_reducible apply State.endClock_leaves
    | with_reducible assumption
    | with_reducible exact Leaves.refl _ _
    | decide
    | with_reducible apply State.endLong_leaves
    | with_reducible apply State.loadErr_leaves
    | with_reducible apply State.onceHbm_leaves
    | intro _
    | with_reducible apply State.raise_leaves
    | with_reducible apply State.readHbm_leaves
    | with_reducible apply State.setLdr_leaves
    | with_reducible apply State.setPar_leaves
    | with_reducible apply State.showBusy_leaves
    | with_reducible apply State.storeWrite_leaves
    | with_reducible apply State.upsets_leaves
    | split
    | dsimp only

theorem State.beginJob_leaves {μ : Nat} {s₀ : State} {s : State} (hl : Leaves μ s₀ s) (hμ : 0x10065fb10f210028745b ||| μ = μ) (j : Job) :
    Leaves μ s₀ (State.beginJob s j) := by
  refine hl.step (k := 0x10065fb10f210028745b) ?_ hμ
  clear hl hμ
  unfold State.beginJob
  try dsimp only
  repeat' first
    | with_reducible assumption
    | with_reducible exact Leaves.refl _ _
    | decide
    | with_reducible apply State.drainPart_leaves
    | with_reducible apply State.setLdr_leaves
    | with_reducible apply State.setLoading_leaves
    | with_reducible apply State.showBusy_leaves
    | with_reducible apply State.useSectors_leaves
    | with_reducible apply Leaves.wr
    | with_reducible apply readyFld_bit
    | with_reducible apply Leaves.ite
    | dsimp only

theorem execCommitParison_leaves {s s' : State}  (h : execCommitParison s = .next s') : Leaves 0x11065ff10f210038745b s s' := by
  unfold execCommitParison at h
  refine act_leaves h ?_
  try dsimp only
  clear h
  repeat' first
    | with_reducible apply State.endClock_leaves
    | with_reducible assumption
    | with_reducible exact Leaves.refl _ _
    | decide
    | with_reducible apply State.beginJob_leaves
    | with_reducible apply State.endLong_leaves
    | with_reducible apply State.startLong_leaves
    | with_reducible apply Leaves.ite
    | split
    | dsimp only

theorem State.nextReload_leaves {μ : Nat} {s₀ : State} {s : State} (hl : Leaves μ s₀ s) (hμ : 0x10065fb10f210028745b ||| μ = μ)  :
    Leaves μ s₀ (State.nextReload s) := by
  refine hl.step (k := 0x10065fb10f210028745b) ?_ hμ
  clear hl hμ
  unfold State.nextReload
  try dsimp only
  repeat' first
    | with_reducible assumption
    | with_reducible exact Leaves.refl _ _
    | decide
    | with_reducible apply State.beginJob_leaves
    | with_reducible apply State.setLdr_leaves
    | with_reducible apply Leaves.ite
    | split
    | dsimp only

theorem State.clearJob_leaves {μ : Nat} {s₀ : State} {s : State} (hl : Leaves μ s₀ s) (hμ : 0x20002000000c001000 ||| μ = μ) (j : Job) (g : Src) :
    Leaves μ s₀ (State.clearJob s j g) := by
  refine hl.step (k := 0x20002000000c001000) ?_ hμ
  clear hl hμ
  unfold State.clearJob
  try dsimp only
  repeat' first
    | with_reducible assumption
    | with_reducible exact Leaves.refl _ _
    | decide
    | with_reducible apply State.clearFor_leaves
    | with_reducible apply State.clearLayers_leaves
    | with_reducible apply State.clearPart_leaves
    | with_reducible apply Leaves.ite
    | with_reducible refine Leaves.forEach (fun _ _ _ => ?_) ?_
    | with_reducible refine Leaves.forEachFst (fun _ _ _ => ?_) ?_
    | dsimp only

theorem State.writeJob_leaves {μ : Nat} {s₀ : State} {s : State} (hl : Leaves μ s₀ s) (hμ : 0x20002400000c7fffff ||| μ = μ) (j : Job) (g : Src) :
    Leaves μ s₀ (State.writeJob s j g).1 := by
  refine hl.step (k := 0x20002400000c7fffff) ?_ hμ
  clear hl hμ
  unfold State.writeJob
  try dsimp only
  repeat' first
    | with_reducible assumption
    | with_reducible exact Leaves.refl _ _
    | decide
    | with_reducible apply State.clearJob_leaves
    | with_reducible apply State.loadImage_leaves
    | with_reducible apply State.markEss_leaves
    | with_reducible apply Leaves.ite
    | split
    | dsimp only

theorem State.failJob_leaves {μ : Nat} {s₀ : State} {s : State} (hl : Leaves μ s₀ s) (hμ : 0x11065ff10fe10038745b ||| μ = μ) (j : Job) (f : ImgFail) :
    Leaves μ s₀ (State.failJob s j f) := by
  refine hl.step (k := 0x11065ff10fe10038745b) ?_ hμ
  clear hl hμ
  unfold State.failJob
  try dsimp only
  repeat' first
    | with_reducible assumption
    | with_reducible exact Leaves.refl _ _
    | decide
    | with_reducible apply State.endLong_leaves
    | with_reducible apply State.halted_leaves
    | with_reducible apply State.loadErr_leaves
    | with_reducible apply State.nextReload_leaves
    | with_reducible apply State.raise_leaves
    | with_reducible apply State.useSectors_leaves
    | with_reducible apply Leaves.ite
    | dsimp only

theorem State.armLoaded_leaves {μ : Nat} {s₀ : State} {s : State} (hl : Leaves μ s₀ s) (hμ : 0xe831005108 ||| μ = μ) (n : Nat) :
    Leaves μ s₀ (State.armLoaded s n) := by
  refine hl.step (k := 0xe831005108) ?_ hμ
  clear hl hμ
  unfold State.armLoaded
  try dsimp only
  repeat' first
    | with_reducible assumption
    | with_reducible exact Leaves.refl _ _
    | decide
    | with_reducible apply State.armed_leaves
    | with_reducible apply State.startR44_leaves
    | with_reducible apply Leaves.wr
    | with_reducible apply readyFld_bit
    | dsimp only

theorem State.finishJob_leaves {μ : Nat} {s₀ : State} {s : State} (hl : Leaves μ s₀ s) (hμ : 0x11865ff10fe93138755b ||| μ = μ) (j : Job) (g : Src) :
    Leaves μ s₀ (State.finishJob s j g) := by
  refine hl.step (k := 0x11865ff10fe93138755b) ?_ hμ
  clear hl hμ
  unfold State.finishJob
  try dsimp only
  repeat' first
    | with_reducible assumption
    | with_reducible exact Leaves.refl _ _
    | decide
    | with_reducible apply Part.bit (F.CFG_RELOAD_CNT_COUNT_part ..)
    | with_reducible apply Leaves.bump
    | with_reducible apply State.armLoaded_leaves
    | with_reducible apply State.endLong_leaves
    | with_reducible apply State.measure_leaves
    | with_reducible apply State.nextReload_leaves
    | with_reducible apply State.raise_leaves
    | with_reducible apply State.setPartSrc_leaves
    | with_reducible apply State.setWinSrc_leaves
    | with_reducible apply State.useSectors_leaves
    | with_reducible apply Leaves.upd_fab
    | with_reducible apply Leaves.wr
    | with_reducible apply readyFld_bit
    | with_reducible apply Leaves.ite
    | dsimp only

theorem execParisonCommitComplete_leaves {s s' : State} (upset : Option (BitVec 31)) (h : execParisonCommitComplete upset s = .next s') : Leaves 0x11a65ff50fe93d7fffff s s' := by
  unfold execParisonCommitComplete at h
  refine act_leaves h ?_
  try dsimp only
  clear h
  repeat' first
    | with_reducible apply State.endClock_leaves
    | with_reducible assumption
    | with_reducible exact Leaves.refl _ _
    | decide
    | with_reducible apply State.failJob_leaves
    | with_reducible apply State.finishJob_leaves
    | with_reducible apply State.setLdr_leaves
    | with_reducible apply State.showBusy_leaves
    | with_reducible apply State.writeJob_leaves
    | with_reducible apply Leaves.ite
    | (refine Leaves.pair (by assumption) ?_; with_reducible apply State.writeJob_leaves)
    | split
    | dsimp only

theorem State.endProg_leaves {μ : Nat} {s₀ : State} {s : State} (hl : Leaves μ s₀ s) (hμ : 0x10005990080000002050 ||| μ = μ) (cause : Option Nat) :
    Leaves μ s₀ (State.endProg s cause) := by
  refine hl.step (k := 0x10005990080000002050) ?_ hμ
  clear hl hμ
  unfold State.endProg
  try dsimp only
  repeat' first
    | with_reducible assumption
    | with_reducible exact Leaves.refl _ _
    | decide
    | with_reducible apply Part.bit (F.CFG_PROG_CTRL_GO_part ..)
    | with_reducible apply Part.bit (F.CFG_PROG_STAT_BUSY_part ..)
    | with_reducible apply Part.bit (F.CFG_PROG_STAT_DONE_part ..)
    | with_reducible apply Part.bit (F.CFG_PROG_STAT_ERR_part ..)
    | with_reducible apply Part.bit (F.CFG_PROG_STAT_CAUSE_part ..)
    | with_reducible apply Leaves.wr
    | with_reducible apply State.raise_leaves
    | with_reducible apply State.setLdr_leaves
    | split
    | dsimp only

theorem State.startProg_leaves {μ : Nat} {s₀ : State} {s : State} (hl : Leaves μ s₀ s) (hμ : 0x10007990080000002050 ||| μ = μ)  :
    Leaves μ s₀ (State.startProg s) := by
  refine hl.step (k := 0x10007990080000002050) ?_ hμ
  clear hl hμ
  unfold State.startProg
  try dsimp only
  repeat' first
    | with_reducible assumption
    | with_reducible exact Leaves.refl _ _
    | decide
    | with_reducible apply Part.bit (F.CFG_PROG_STAT_BUSY_part ..)
    | with_reducible apply Leaves.wr
    | with_reducible apply State.endProg_leaves
    | with_reducible apply State.setLdr_leaves
    | with_reducible apply State.setSlot_leaves
    | with_reducible apply Leaves.ite
    | split
    | dsimp only

theorem State.writeSlot_leaves {μ : Nat} {s₀ : State} {s0 : State} (hl : Leaves μ s₀ s0) (hμ : 0x100279900c0000082058 ||| μ = μ) (p : Prog) (fault : Bool) :
    Leaves μ s₀ (State.writeSlot s0 p fault) := by
  refine hl.step (k := 0x100279900c0000082058) ?_ hμ
  clear hl hμ
  unfold State.writeSlot
  try dsimp only
  repeat' first
    | with_reducible assumption
    | with_reducible exact Leaves.refl _ _
    | decide
    | with_reducible apply State.endProg_leaves
    | with_reducible apply State.hbmRead_leaves
    | with_reducible apply State.loadErr_leaves
    | with_reducible apply State.raise_leaves
    | with_reducible apply State.readHbm_leaves
    | with_reducible apply State.setSlot_leaves
    | with_reducible apply State.storeWrite_leaves
    | with_reducible apply Leaves.ite
    | with_reducible apply Leaves.iteFst
    | (refine Leaves.pair (by assumption) ?_; with_reducible apply State.hbmRead_leaves)
    | split
    | dsimp only

theorem State.writeBoot_leaves {μ : Nat} {s₀ : State} {s0 : State} (hl : Leaves μ s₀ s0) (hμ : 0x100279900c0000082058 ||| μ = μ) (p : Prog) (fault : Bool) :
    Leaves μ s₀ (State.writeBoot s0 p fault) := by
  refine hl.step (k := 0x100279900c0000082058) ?_ hμ
  clear hl hμ
  unfold State.writeBoot
  try dsimp only
  repeat' first
    | with_reducible assumption
    | with_reducible exact Leaves.refl _ _
    | decide
    | with_reducible apply State.endProg_leaves
    | with_reducible apply State.hbmRead_leaves
    | with_reducible apply State.putRecord_leaves
    | with_reducible apply Leaves.ite
    | with_reducible apply Leaves.iteFst
    | (refine Leaves.pair (by assumption) ?_; with_reducible apply State.hbmRead_leaves)
    | dsimp only

theorem State.readSlot_leaves {μ : Nat} {s₀ : State} {s : State} (hl : Leaves μ s₀ s) (hμ : 0x18065b900f000008205b ||| μ = μ) (p : Prog) (fault : Bool) :
    Leaves μ s₀ (State.readSlot s p fault) := by
  refine hl.step (k := 0x18065b900f000008205b) ?_ hμ
  clear hl hμ
  unfold State.readSlot
  try dsimp only
  repeat' first
    | with_reducible assumption
    | with_reducible exact Leaves.refl _ _
    | decide
    | with_reducible apply State.drawn_leaves
    | with_reducible apply State.endProg_leaves
    | with_reducible apply State.hbmWrite_leaves
    | with_reducible apply Leaves.ite
    | dsimp only

theorem execCfgProgDone_leaves {s s' : State} (writeFault : Bool) (up : Upsets) (h : execCfgProgDone writeFault up s = .next s') : Leaves 0x18067b900f000008205b s s' := by
  unfold execCfgProgDone at h
  refine act_leaves h ?_
  try dsimp only
  clear h
  repeat' first
    | with_reducible apply State.endClock_leaves
    | with_reducible assumption
    | with_reducible exact Leaves.refl _ _
    | decide
    | with_reducible apply State.endProg_leaves
    | with_reducible apply State.onceHbm_leaves
    | intro _
    | with_reducible apply State.readSlot_leaves
    | with_reducible apply State.setPar_leaves
    | with_reducible apply State.setSlot_leaves
    | with_reducible apply State.upsets_leaves
    | with_reducible apply State.writeBoot_leaves
    | with_reducible apply State.writeSlot_leaves
    | with_reducible apply Leaves.ite
    | split
    | dsimp only

theorem State.showCullet_leaves {μ : Nat} {s₀ : State} {s : State} (hl : Leaves μ s₀ s) (hμ : 0x80 ||| μ = μ)  :
    Leaves μ s₀ (State.showCullet s) := by
  refine hl.step (k := 0x80) ?_ hμ
  clear hl hμ
  unfold State.showCullet
  try dsimp only
  repeat' first
    | with_reducible assumption
    | with_reducible exact Leaves.refl _ _
    | decide
    | (intro i hi; simp only [MbxCmd.entry, FaultRec.logWords, List.length_cons, List.length_nil, List.length_map, upTo, List.length_range] at hi; exact Part.bit (regPart_bstRegs (by omega) (by omega)) (by decide))
    | (with_reducible apply Part.bit (p := .bstRegs) <;> first | decide | exact regPart_bstRegs (by omega) (by omega))
    | with_reducible apply Leaves.setWords
    | with_reducible apply Leaves.setReg
    | dsimp only

theorem State.growCullet_leaves {μ : Nat} {s₀ : State} {s : State} (hl : Leaves μ s₀ s) (hμ : 0x10003990080000002090 ||| μ = μ) (c : Cullet) :
    Leaves μ s₀ (State.growCullet s c) := by
  refine hl.step (k := 0x10003990080000002090) ?_ hμ
  clear hl hμ
  unfold State.growCullet
  try dsimp only
  repeat' first
    | with_reducible assumption
    | with_reducible exact Leaves.refl _ _
    | decide
    | with_reducible apply Part.bit (F.BST_STAT_CULLET_part ..)
    | with_reducible apply Leaves.wr
    | with_reducible apply State.putCullet_leaves
    | with_reducible apply State.raise_leaves
    | with_reducible apply State.showCullet_leaves
    | with_reducible apply Leaves.upd_cstore
    | with_reducible apply Leaves.ite
    | dsimp only

theorem State.addRepair_leaves {μ : Nat} {s₀ : State} {s : State} (hl : Leaves μ s₀ s) (hμ : 0x2000000000000000 ||| μ = μ) (w : Nat) :
    Leaves μ s₀ (State.addRepair s w) := by
  refine hl.step (k := 0x2000000000000000) ?_ hμ
  clear hl hμ
  unfold State.addRepair
  try dsimp only
  repeat' first
    | with_reducible assumption
    | with_reducible exact Leaves.refl _ _
    | decide
    | with_reducible apply State.putRepairs_leaves
    | with_reducible apply Leaves.upd_cstore
    | with_reducible apply Leaves.ite
    | dsimp only

theorem State.mapSpare_leaves {μ : Nat} {s₀ : State} {s : State} (hl : Leaves μ s₀ s) (hμ : 0xc000 ||| μ = μ) (c k : Nat) :
    Leaves μ s₀ (State.mapSpare s c k) := by
  refine hl.step (k := 0xc000) ?_ hμ
  clear hl hμ
  unfold State.mapSpare
  try dsimp only
  repeat' first
    | with_reducible assumption
    | with_reducible exact Leaves.refl _ _
    | decide
    | with_reducible apply Part.bit (F.SEC_PHYS_MAP_SPARE_IN_USE_part ..)
    | with_reducible apply Part.bit (F.SEC_PHYS_MAP_SPARE_FOR_part ..)
    | with_reducible apply Part.bit (F.MPU_PHYS_part ..)
    | with_reducible apply Leaves.wr
    | dsimp only

theorem State.copyLayers_leaves {μ : Nat} {s₀ : State} {s : State} (hl : Leaves μ s₀ s) (hμ : 0x20000000000c000000 ||| μ = μ) (pt to_ : Nat) :
    Leaves μ s₀ (State.copyLayers s pt to_) := by
  refine hl.step (k := 0x20000000000c000000) ?_ hμ
  clear hl hμ
  unfold State.copyLayers
  try dsimp only
  repeat' first
    | with_reducible assumption
    | with_reducible exact Leaves.refl _ _
    | decide
    | with_reducible apply State.clearLayers_leaves
    | with_reducible apply Leaves.upd_routes
    | exact fun h => Tab.wf_set _ _ _ h
    | exact fun h => Bytes.wf_write _ _ h
    | exact fun h => Bytes.wf_set _ _ h
    | exact fun h => bufSet_wf _ _ h
    | exact fun h => Tab.wf_clear _ _ _ h
    | exact fun h => Tab.wf_filter _ _ h
    | with_reducible apply Leaves.upd_steps
    | with_reducible refine Leaves.forEach (fun _ _ _ => ?_) ?_
    | with_reducible refine Leaves.forEachFst (fun _ _ _ => ?_) ?_
    | dsimp only

theorem State.fillSpare_leaves {μ : Nat} {s₀ : State} {s : State} (hl : Leaves μ s₀ s) (hμ : 0x20000000000c000000 ||| μ = μ) (t old : Nat) :
    Leaves μ s₀ (State.fillSpare s t old) := by
  refine hl.step (k := 0x20000000000c000000) ?_ hμ
  clear hl hμ
  unfold State.fillSpare
  try dsimp only
  repeat' first
    | with_reducible assumption
    | with_reducible exact Leaves.refl _ _
    | decide
    | with_reducible apply State.copyLayers_leaves
    | with_reducible apply State.reloadTiles_leaves
    | with_reducible apply Leaves.ite
    | with_reducible apply Leaves.iteFst
    | (refine Leaves.pair (by assumption) ?_; with_reducible apply State.reloadTiles_leaves)
    | split
    | dsimp only

theorem State.refuseRemap_leaves {μ : Nat} {s₀ : State} {s : State} (hl : Leaves μ s₀ s) (hμ : 0x1000199008000000a010 ||| μ = μ) (c : Nat) :
    Leaves μ s₀ (State.refuseRemap s c) := by
  refine hl.step (k := 0x1000199008000000a010) ?_ hμ
  clear hl hμ
  unfold State.refuseRemap
  try dsimp only
  repeat' first
    | with_reducible assumption
    | with_reducible exact Leaves.refl _ _
    | decide
    | with_reducible apply Part.bit (F.SEC_STATUS_REMAP_ERR_part ..)
    | with_reducible apply Part.bit (F.SEC_CTRL_REMAP_part ..)
    | with_reducible apply Leaves.wr
    | with_reducible apply State.raise_leaves
    | dsimp only

theorem State.remapOver_leaves {μ : Nat} {s₀ : State} {s : State} (hl : Leaves μ s₀ s) (hμ : 0x4000000000008000 ||| μ = μ) (c : Nat) :
    Leaves μ s₀ (State.remapOver s c) := by
  refine hl.step (k := 0x4000000000008000) ?_ hμ
  clear hl hμ
  unfold State.remapOver
  try dsimp only
  repeat' first
    | with_reducible assumption
    | with_reducible exact Leaves.refl _ _
    | decide
    | with_reducible apply Part.bit (F.SEC_STATUS_REMAP_BUSY_part ..)
    | with_reducible apply Leaves.wr
    | with_reducible apply State.setLdr_leaves
    | dsimp only

theorem State.askRemap_leaves {μ : Nat} {s₀ : State} {s : State} (hl : Leaves μ s₀ s) (hμ : 0x1004599008000000a012 ||| μ = μ) (c : Nat) :
    Leaves μ s₀ (State.askRemap s c) := by
  refine hl.step (k := 0x1004599008000000a012) ?_ hμ
  clear hl hμ
  unfold State.askRemap
  try dsimp only
  repeat' first
    | with_reducible assumption
    | with_reducible exact Leaves.refl _ _
    | decide
    | with_reducible apply Part.bit (F.SEC_STATUS_REMAP_BUSY_part ..)
    | with_reducible apply Leaves.wr
    | with_reducible apply State.evalSector_leaves
    | with_reducible apply State.refuseRemap_leaves
    | with_reducible apply State.setLdr_leaves
    | with_reducible apply Leaves.ite
    | dsimp only

theorem execRemapCopyDone_leaves {s s' : State} (c : Fin 16) (h : execRemapCopyDone c s = .next s') : Leaves 0x1024799008000c00e092 s s' := by
  unfold execRemapCopyDone at h
  refine act_leaves h ?_
  try dsimp only
  clear h
  repeat' first
    | with_reducible apply State.endClock_leaves
    | with_reducible assumption
    | with_reducible exact Leaves.refl _ _
    | decide
    | with_reducible apply Part.bit (F.SEC_CTRL_REMAP_part ..)
    | with_reducible apply Leaves.wr
    | with_reducible apply State.addRepair_leaves
    | with_reducible apply State.evalSector_leaves
    | with_reducible apply State.fillSpare_leaves
    | with_reducible apply State.growCullet_leaves
    | with_reducible apply State.mapSpare_leaves
    | with_reducible apply State.raise_leaves
    | with_reducible apply State.refuseRemap_leaves
    | with_reducible apply State.remapOver_leaves
    | with_reducible apply Leaves.ite
    | split
    | dsimp only

theorem State.askVerify_leaves {μ : Nat} {s₀ : State} {s : State} (hl : Leaves μ s₀ s) (hμ : 0x1004199008000000a012 ||| μ = μ) (c : Nat) :
    Leaves μ s₀ (State.askVerify s c) := by
  refine hl.step (k := 0x1004199008000000a012) ?_ hμ
  clear hl hμ
  unfold State.askVerify
  try dsimp only
  repeat' first
    | with_reducible assumption
    | with_reducible exact Leaves.refl _ _
    | decide
    | with_reducible apply Part.bit (F.SEC_STATUS_VERIFY_BUSY_part ..)
    | with_reducible apply Part.bit (F.SEC_STATUS_VERIFY_REFUSED_part ..)
    | with_reducible apply Part.bit (F.SEC_CTRL_VERIFY_part ..)
    | with_reducible apply Leaves.wr
    | with_reducible apply State.evalSector_leaves
    | with_reducible apply Leaves.ite
    | dsimp only

theorem State.foldsDrawn_leaves {μ : Nat} {s₀ : State} {s : State} (hl : Leaves μ s₀ s) (hμ : 0x8000000000000000000 ||| μ = μ)  :
    Leaves μ s₀ (State.foldsDrawn s) := by
  refine hl.step (k := 0x8000000000000000000) ?_ hμ
  clear hl hμ
  unfold State.foldsDrawn
  try dsimp only
  repeat' first
    | with_reducible assumption
    | with_reducible exact Leaves.refl _ _
    | decide
    | with_reducible apply Leaves.upd_free
    | dsimp only

theorem State.rowByVerify_leaves {μ : Nat} {s₀ : State} {s : State} (hl : Leaves μ s₀ s) (hμ : 0x4000 ||| μ = μ) (t r : Nat) :
    Leaves μ s₀ (State.rowByVerify s t r) := by
  refine hl.step (k := 0x4000) ?_ hμ
  clear hl hμ
  unfold State.rowByVerify
  try dsimp only
  repeat' first
    | with_reducible assumption
    | with_reducible exact Leaves.refl _ _
    | decide
    | with_reducible apply Part.bit (F.MPU_RT_ERR_CNT_COUNT_part ..)
    | (with_reducible apply Part.bit (p := .mpuRegs) <;> first | decide | exact regPart_mpuRegs (by omega) (by omega))
    | with_reducible apply Leaves.bump
    | with_reducible apply Leaves.setReg
    | exact Mask.bit (regPart_bit _) (by decide)
    | with_reducible apply Leaves.ite
    | dsimp only

theorem execVerifyPassEnd_leaves {s s' : State} (c : Fin 16) (bad : List (Fin 8 × Fin 16384)) (h : execVerifyPassEnd c bad s = .next s') : Leaves 0x1804199008000800e012 s s' := by
  unfold execVerifyPassEnd at h
  refine act_leaves h ?_
  try dsimp only
  clear h
  repeat' first
    | with_reducible apply State.endClock_leaves
    | with_reducible assumption
    | with_reducible exact Leaves.refl _ _
    | decide
    | with_reducible apply Part.bit (F.SEC_STATUS_VERIFY_OK_part ..)
    | with_reducible apply Part.bit (F.SEC_STATUS_VERIFY_BUSY_part ..)
    | with_reducible apply Part.bit (F.SEC_CTRL_VERIFY_part ..)
    | with_reducible apply Leaves.wr
    | with_reducible apply State.evalSector_leaves
    | with_reducible apply State.foldLast_leaves
    | with_reducible apply State.foldRecord_leaves
    | with_reducible apply State.foldsDrawn_leaves
    | with_reducible apply State.raise_leaves
    | with_reducible apply State.rowByVerify_leaves
    | with_reducible apply State.spoilRow_leaves
    | with_reducible apply Leaves.ite
    | with_reducible apply Leaves.iteFst
    | with_reducible refine Leaves.forEach (fun _ _ _ => ?_) ?_
    | with_reducible refine Leaves.forEachFst (fun _ _ _ => ?_) ?_
    | dsimp only

theorem State.scrubErr_leaves {μ : Nat} {s₀ : State} {s : State} (hl : Leaves μ s₀ s) (hμ : 0x40 ||| μ = μ) (w : Nat) :
    Leaves μ s₀ (State.scrubErr s w) := by
  refine hl.step (k := 0x40) ?_ hμ
  clear hl hμ
  unfold State.scrubErr
  try dsimp only
  repeat' first
    | with_reducible assumption
    | with_reducible exact Leaves.refl _ _
    | decide
    | (with_reducible apply Part.bit (p := .cfgRegs) <;> first | decide | exact regPart_cfgRegs (by omega) (by omega))
    | with_reducible apply Leaves.setReg
    | with_reducible apply Leaves.ite
    | dsimp only

theorem State.scrubUe_leaves {μ : Nat} {s₀ : State} {s : State} (hl : Leaves μ s₀ s) (hμ : 0x10021990080000002058 ||| μ = μ) (w : Nat) :
    Leaves μ s₀ (State.scrubUe s w) := by
  refine hl.step (k := 0x10021990080000002058) ?_ hμ
  clear hl hμ
  unfold State.scrubUe
  try dsimp only
  repeat' first
    | with_reducible assumption
    | with_reducible exact Leaves.refl _ _
    | decide
    | with_reducible apply Part.bit (F.CFG_SCRUB_UE_CNT_COUNT_part ..)
    | with_reducible apply Leaves.bump
    | with_reducible apply State.raise_leaves
    | with_reducible apply State.report_leaves
    | with_reducible apply State.scrubErr_leaves
    | dsimp only

theorem State.askReload_leaves {μ : Nat} {s₀ : State} {s : State} (hl : Leaves μ s₀ s) (hμ : 0x10065fb10f210028745b ||| μ = μ) (j : Job) :
    Leaves μ s₀ (State.askReload s j) := by
  refine hl.step (k := 0x10065fb10f210028745b) ?_ hμ
  clear hl hμ
  unfold State.askReload
  try dsimp only
  repeat' first
    | with_reducible assumption
    | with_reducible exact Leaves.refl _ _
    | decide
    | with_reducible apply State.nextReload_leaves
    | with_reducible apply State.setLdr_leaves
    | with_reducible apply Leaves.ite
    | dsimp only

theorem State.scrubWordAt_leaves {μ : Nat} {s₀ : State} {s : State} (hl : Leaves μ s₀ s) (hμ : 0x10065fb10f210028745b ||| μ = μ) (k w : Nat) (ue : Bool) :
    Leaves μ s₀ (State.scrubWordAt s k w ue) := by
  refine hl.step (k := 0x10065fb10f210028745b) ?_ hμ
  clear hl hμ
  unfold State.scrubWordAt
  try dsimp only
  repeat' first
    | with_reducible assumption
    | with_reducible exact Leaves.refl _ _
    | decide
    | with_reducible apply Part.bit (F.CFG_SCRUB_CE_CNT_COUNT_part ..)
    | with_reducible apply Leaves.bump
    | with_reducible apply State.askReload_leaves
    | with_reducible apply State.raise_leaves
    | with_reducible apply State.scrubUe_leaves
    | with_reducible apply Leaves.ite
    | dsimp only

theorem execFabricScrubPass_leaves {s s' : State} (found : List (Fin 8 × Fin 32768 × Bool)) (h : execFabricScrubPass found s = .next s') : Leaves 0x10065fb10f210028745b s s' := by
  unfold execFabricScrubPass at h
  refine act_leaves h ?_
  try dsimp only
  clear h
  repeat' first
    | with_reducible apply State.endClock_leaves
    | with_reducible assumption
    | with_reducible exact Leaves.refl _ _
    | decide
    | with_reducible apply State.scrubWordAt_leaves
    | with_reducible apply Leaves.ite
    | with_reducible apply Leaves.iteFst
    | with_reducible refine Leaves.forEach (fun _ _ _ => ?_) ?_
    | with_reducible refine Leaves.forEachFst (fun _ _ _ => ?_) ?_
    | dsimp only

theorem State.scrubWindow_leaves {μ : Nat} {s₀ : State} {s : State} (hl : Leaves μ s₀ s) (hμ : 0x18065fb10f210028745b ||| μ = μ) (n : Nat) (w : Bool) :
    Leaves μ s₀ (State.scrubWindow s n w) := by
  refine hl.step (k := 0x18065fb10f210028745b) ?_ hμ
  clear hl hμ
  unfold State.scrubWindow
  try dsimp only
  repeat' first
    | with_reducible assumption
    | with_reducible exact Leaves.refl _ _
    | decide
    | with_reducible apply State.askReload_leaves
    | with_reducible apply State.foldsDrawn_leaves
    | with_reducible apply State.raise_leaves
    | with_reducible apply State.scrubErr_leaves
    | with_reducible apply Leaves.wr
    | with_reducible apply readyFld_bit
    | with_reducible apply Leaves.ite
    | split
    | dsimp only

theorem execWindowScrubPass_leaves {s s' : State}  (h : execWindowScrubPass s = .next s') : Leaves 0x18065fb10f210028745b s s' := by
  unfold execWindowScrubPass at h
  refine act_leaves h ?_
  try dsimp only
  clear h
  repeat' first
    | with_reducible apply State.endClock_leaves
    | with_reducible assumption
    | with_reducible exact Leaves.refl _ _
    | decide
    | with_reducible apply State.scrubWindow_leaves
    | with_reducible apply Leaves.ite
    | with_reducible refine Leaves.forEach (fun _ _ _ => ?_) ?_
    | with_reducible refine Leaves.forEachFst (fun _ _ _ => ?_) ?_
    | dsimp only

theorem State.patrolWord_leaves {μ : Nat} {s₀ : State} {s : State} (hl : Leaves μ s₀ s) (hμ : 0x10023990080000002058 ||| μ = μ) (w : Nat) :
    Leaves μ s₀ (State.patrolWord s w) := by
  refine hl.step (k := 0x10023990080000002058) ?_ hμ
  clear hl hμ
  unfold State.patrolWord
  try dsimp only
  repeat' first
    | with_reducible assumption
    | with_reducible exact Leaves.refl _ _
    | decide
    | with_reducible apply State.scrubUe_leaves
    | with_reducible apply State.showStore_leaves
    | with_reducible apply Leaves.upd_cstore
    | with_reducible apply Leaves.ite
    | split
    | dsimp only

theorem execStorePatrol_leaves {s s' : State} (found : List (BitVec 31)) (h : execStorePatrol found s = .next s') : Leaves 0x10023990080000002058 s s' := by
  unfold execStorePatrol at h
  refine act_leaves h ?_
  try dsimp only
  clear h
  repeat' first
    | with_reducible apply State.endClock_leaves
    | with_reducible assumption
    | with_reducible exact Leaves.refl _ _
    | decide
    | with_reducible apply State.patrolWord_leaves
    | with_reducible refine Leaves.forEach (fun _ _ _ => ?_) ?_
    | with_reducible refine Leaves.forEachFst (fun _ _ _ => ?_) ?_
    | dsimp only

end Sys2Proof.Machine
end

