-- ==== Sys2Proof/Laws/Bist.lean ====
section
/-!
SUPPORT. What each operation of Machine/Bist.lean leaves alone.
-/

set_option linter.all false

namespace Sys2Proof.Machine

theorem State.countFail_leaves {μ : Nat} {s₀ : State} {s : State} (hl : Leaves μ s₀ s) (hμ : 0x80 ||| μ = μ) (w : Nat) :
    Leaves μ s₀ (State.countFail s w) := by
  refine hl.step (k := 0x80) ?_ hμ
  clear hl hμ
  unfold State.countFail
  try dsimp only
  repeat' first
    | with_reducible assumption
    | with_reducible exact Leaves.refl _ _
    | decide
    | with_reducible apply Part.bit (F.BST_FAIL_CNT_COUNT_part ..)
    | (with_reducible apply Part.bit (p := .bstRegs) <;> first | decide | exact regPart_bstRegs (by omega) (by omega))
    | with_reducible apply Leaves.bump
    | with_reducible apply Leaves.setReg
    | with_reducible apply Leaves.ite
    | dsimp only

theorem State.repairRow_leaves {μ : Nat} {s₀ : State} {s : State} (hl : Leaves μ s₀ s) (hμ : 0x2000000000000080 ||| μ = μ) (w n : Nat) :
    Leaves μ s₀ (State.repairRow s w n) := by
  refine hl.step (k := 0x2000000000000080) ?_ hμ
  clear hl hμ
  unfold State.repairRow
  try dsimp only
  repeat' first
    | with_reducible assumption
    | with_reducible exact Leaves.refl _ _
    | decide
    | with_reducible apply Part.bit (F.BST_REPAIR_CNT_COUNT_part ..)
    | with_reducible apply Leaves.bump
    | with_reducible apply State.addRepair_leaves
    | with_reducible apply Leaves.upd_cstore
    | with_reducible apply Leaves.ite
    | dsimp only

theorem State.takeFound_leaves {μ : Nat} {s₀ : State} {s : State} (hl : Leaves μ s₀ s) (hμ : 0x10203990080000002090 ||| μ = μ) (w : Nat) (spare : Option Nat) (fresh : Bool) :
    Leaves μ s₀ (State.takeFound s w spare fresh) := by
  refine hl.step (k := 0x10203990080000002090) ?_ hμ
  clear hl hμ
  unfold State.takeFound
  try dsimp only
  repeat' first
    | with_reducible assumption
    | with_reducible exact Leaves.refl _ _
    | decide
    | with_reducible apply State.countFail_leaves
    | with_reducible apply State.growCullet_leaves
    | with_reducible apply State.repairRow_leaves
    | with_reducible apply Leaves.upd_bst
    | with_reducible apply Leaves.upd_cstore
    | with_reducible apply Leaves.ite
    | split
    | dsimp only

theorem State.takeFounds_leaves {μ : Nat} {s₀ : State} {s : State} (hl : Leaves μ s₀ s) (hμ : 0x10203990080000002090 ||| μ = μ) (ρ : List Found) (ξ1 : List (Nat × Option Nat)) :
    Leaves μ s₀ (State.takeFounds s ρ ξ1).1 := by
  refine hl.step (k := 0x10203990080000002090) ?_ hμ
  clear hl hμ
  induction ρ generalizing s ξ1 with
  | nil =>
    unfold State.takeFounds
    repeat' first
      | with_reducible assumption
      | with_reducible exact Leaves.refl _ _
      | decide
      | with_reducible apply State.takeFound_leaves
      | with_reducible apply Leaves.ite
      | with_reducible apply Leaves.iteFst
      | split
      | dsimp only
  | cons x xs ih =>
    unfold State.takeFounds
    try dsimp only
    repeat' first
      | with_reducible assumption
      | with_reducible exact Leaves.refl _ _
      | decide
      | with_reducible apply State.takeFound_leaves
      | with_reducible apply Leaves.ite
      | with_reducible apply Leaves.iteFst
      | split
      | dsimp only
      | (with_reducible refine Leaves.step ?_ (ih ..) (by decide))

theorem State.settleSector_leaves {μ : Nat} {s₀ : State} {s : State} (hl : Leaves μ s₀ s) (hμ : 0x200000000000c000 ||| μ = μ) (c : Nat) :
    Leaves μ s₀ (State.settleSector s c) := by
  refine hl.step (k := 0x200000000000c000) ?_ hμ
  clear hl hμ
  unfold State.settleSector
  try dsimp only
  repeat' first
    | with_reducible assumption
    | with_reducible exact Leaves.refl _ _
    | decide
    | with_reducible apply Part.bit (F.SEC_STATUS_UNUSABLE_part ..)
    | with_reducible apply Leaves.wr
    | with_reducible apply State.addRepair_leaves
    | with_reducible apply State.mapSpare_leaves
    | with_reducible apply Leaves.ite
    | split
    | dsimp only

theorem State.settleAll_leaves {μ : Nat} {s₀ : State} {s : State} (hl : Leaves μ s₀ s) (hμ : 0x200000000000c000 ||| μ = μ)  :
    Leaves μ s₀ (State.settleAll s) := by
  refine hl.step (k := 0x200000000000c000) ?_ hμ
  clear hl hμ
  unfold State.settleAll
  try dsimp only
  repeat' first
    | with_reducible assumption
    | with_reducible exact Leaves.refl _ _
    | decide
    | with_reducible apply State.settleSector_leaves
    | with_reducible refine Leaves.forEach (fun _ _ _ => ?_) ?_
    | with_reducible refine Leaves.forEachFst (fun _ _ _ => ?_) ?_
    | dsimp only

theorem State.handleTest_leaves {μ : Nat} {s₀ : State} {s : State} (hl : Leaves μ s₀ s) (hμ : 0x1020399008000000e090 ||| μ = μ) (found : List Found) :
    Leaves μ s₀ (State.handleTest s found).1 := by
  refine hl.step (k := 0x1020399008000000e090) ?_ hμ
  clear hl hμ
  unfold State.handleTest
  try dsimp only
  repeat' first
    | with_reducible assumption
    | with_reducible exact Leaves.refl _ _
    | decide
    | with_reducible apply Part.bit (F.BST_STAT_FAIL_part ..)
    | with_reducible apply Part.bit (F.BST_STAT_REPAIR_part ..)
    | with_reducible apply Leaves.wr
    | with_reducible apply State.raise_leaves
    | with_reducible apply State.settleAll_leaves
    | with_reducible apply State.takeFounds_leaves
    | with_reducible apply Leaves.ite
    | with_reducible apply Leaves.iteFst
    | (refine Leaves.pair (by assumption) ?_; with_reducible apply State.takeFounds_leaves)
    | split
    | dsimp only

theorem State.takeTest_leaves {μ : Nat} {s₀ : State} {s : State} (hl : Leaves μ s₀ s) (hμ : 0x1020399008000000e090 ||| μ = μ) (found : List Found) :
    Leaves μ s₀ (State.takeTest s found) := by
  refine hl.step (k := 0x1020399008000000e090) ?_ hμ
  clear hl hμ
  unfold State.takeTest
  try dsimp only
  repeat' first
    | with_reducible assumption
    | with_reducible exact Leaves.refl _ _
    | decide
    | with_reducible apply State.handleTest_leaves
    | (refine Leaves.pair (by assumption) ?_; with_reducible apply State.handleTest_leaves)
    | dsimp only

theorem State.loseBuffers_leaves {μ : Nat} {s₀ : State} {s : State} (hl : Leaves μ s₀ s) (hμ : 0x1f00000000 ||| μ = μ) (pt : Nat) :
    Leaves μ s₀ (State.loseBuffers s pt) := by
  refine hl.step (k := 0x1f00000000) ?_ hμ
  clear hl hμ
  unfold State.loseBuffers
  try dsimp only
  repeat' first
    | with_reducible assumption
    | with_reducible exact Leaves.refl _ _
    | decide
    | with_reducible apply State.clearBuffers_leaves
    | with_reducible refine Leaves.forEach (fun _ _ _ => ?_) ?_
    | with_reducible refine Leaves.forEachFst (fun _ _ _ => ?_) ?_
    | dsimp only

theorem State.patternTiles_leaves {μ : Nat} {s₀ : State} {s : State} (hl : Leaves μ s₀ s) (hμ : 0x200000001f3c000000 ||| μ = μ) (pts : List Nat) :
    Leaves μ s₀ (State.patternTiles s pts) := by
  refine hl.step (k := 0x200000001f3c000000) ?_ hμ
  clear hl hμ
  unfold State.patternTiles
  try dsimp only
  repeat' first
    | with_reducible assumption
    | with_reducible exact Leaves.refl _ _
    | decide
    | with_reducible apply State.clearDm_leaves
    | with_reducible apply State.clearLayers_leaves
    | with_reducible apply State.loseBuffers_leaves
    | with_reducible apply Leaves.upd_bst
    | with_reducible refine Leaves.forEach (fun _ _ _ => ?_) ?_
    | with_reducible refine Leaves.forEachFst (fun _ _ _ => ?_) ?_
    | dsimp only

theorem State.patternAll_leaves {μ : Nat} {s₀ : State} {s : State} (hl : Leaves μ s₀ s) (hμ : 0x200020001f3c001000 ||| μ = μ)  :
    Leaves μ s₀ (State.patternAll s) := by
  refine hl.step (k := 0x200020001f3c001000) ?_ hμ
  clear hl hμ
  unfold State.patternAll
  try dsimp only
  repeat' first
    | with_reducible assumption
    | with_reducible exact Leaves.refl _ _
    | decide
    | with_reducible apply State.clearProg_leaves
    | with_reducible apply State.patternTiles_leaves
    | with_reducible apply Leaves.upd_fab
    | with_reducible refine Leaves.forEach (fun _ _ _ => ?_) ?_
    | with_reducible refine Leaves.forEachFst (fun _ _ _ => ?_) ?_
    | dsimp only

theorem State.applyMaps_leaves {μ : Nat} {s₀ : State} {s : State} (hl : Leaves μ s₀ s) (hμ : 0xc080 ||| μ = μ)  :
    Leaves μ s₀ (State.applyMaps s) := by
  refine hl.step (k := 0xc080) ?_ hμ
  clear hl hμ
  unfold State.applyMaps
  try dsimp only
  repeat' first
    | with_reducible assumption
    | with_reducible exact Leaves.refl _ _
    | decide
    | with_reducible apply Part.bit (F.SEC_STATUS_UNUSABLE_part ..)
    | with_reducible apply Leaves.wr
    | with_reducible apply State.mapSpare_leaves
    | with_reducible apply State.showCullet_leaves
    | with_reducible apply Leaves.ite
    | with_reducible refine Leaves.forEach (fun _ _ _ => ?_) ?_
    | with_reducible refine Leaves.forEachFst (fun _ _ _ => ?_) ?_
    | dsimp only

theorem execBistRun_leaves {s s' : State}  (h : execBistRun s = .next s') : Leaves 0x110419d0080000102092 s s' := by
  unfold execBistRun at h
  refine act_leaves h ?_
  try dsimp only
  clear h
  repeat' first
    | with_reducible apply State.endClock_leaves
    | with_reducible assumption
    | with_reducible exact Leaves.refl _ _
    | decide
    | with_reducible apply Part.bit (F.BST_STAT_BUSY_part ..)
    | with_reducible apply Leaves.wr
    | with_reducible apply State.endLong_leaves
    | with_reducible apply State.startLong_leaves
    | with_reducible apply State.testSectors_leaves
    | with_reducible apply Leaves.ite
    | split
    | dsimp only

theorem State.unready_leaves {μ : Nat} {s₀ : State} {s : State} (hl : Leaves μ s₀ s) (hμ : 0x1000 ||| μ = μ) (cs : List Nat) :
    Leaves μ s₀ (State.unready s cs) := by
  refine hl.step (k := 0x1000) ?_ hμ
  clear hl hμ
  unfold State.unready
  try dsimp only
  repeat' first
    | with_reducible assumption
    | with_reducible exact Leaves.refl _ _
    | decide
    | with_reducible apply Leaves.wr
    | with_reducible apply readyFld_bit
    | with_reducible refine Leaves.forEach (fun _ _ _ => ?_) ?_
    | with_reducible refine Leaves.forEachFst (fun _ _ _ => ?_) ?_
    | dsimp only

theorem execBistRunComplete_leaves {s s' : State} (found : List Found) (h : execBistRunComplete found s = .next s') : Leaves 0x11263bd00f1f3c18f09b s s' := by
  unfold execBistRunComplete at h
  refine act_leaves h ?_
  try dsimp only
  clear h
  repeat' first
    | with_reducible apply State.endClock_leaves
    | with_reducible assumption
    | with_reducible exact Leaves.refl _ _
    | decide
    | with_reducible apply Part.bit (F.BST_STAT_BUSY_part ..)
    | with_reducible apply Leaves.wr
    | with_reducible apply State.endLong_leaves
    | with_reducible apply State.handleTest_leaves
    | with_reducible apply State.hbmWrite_leaves
    | with_reducible apply State.onceHbm_leaves
    | intro _
    | with_reducible apply State.patternTiles_leaves
    | with_reducible apply State.raise_leaves
    | with_reducible apply State.testSectors_leaves
    | with_reducible apply State.unready_leaves
    | with_reducible apply Leaves.ite
    | with_reducible apply Leaves.iteFst
    | (refine Leaves.pair (by assumption) ?_; with_reducible apply State.handleTest_leaves)
    | split
    | dsimp only

theorem execPeriodicSlice_leaves {s s' : State}  (h : execPeriodicSlice s = .next s') : Leaves 0x10241990080000002092 s s' := by
  unfold execPeriodicSlice at h
  refine act_leaves h ?_
  try dsimp only
  clear h
  repeat' first
    | with_reducible apply State.endClock_leaves
    | with_reducible assumption
    | with_reducible exact Leaves.refl _ _
    | decide
    | with_reducible apply Part.bit (F.BST_STAT_BUSY_part ..)
    | with_reducible apply Leaves.wr
    | with_reducible apply State.evalVotes_leaves
    | with_reducible apply Leaves.upd_bst
    | with_reducible apply Leaves.ite
    | split
    | dsimp only

theorem State.marchOn_leaves {μ : Nat} {s₀ : State} {s : State} (hl : Leaves μ s₀ s) (hμ : 0x200000000000000000 ||| μ = μ)  :
    Leaves μ s₀ (State.marchOn s) := by
  refine hl.step (k := 0x200000000000000000) ?_ hμ
  clear hl hμ
  unfold State.marchOn
  try dsimp only
  repeat' first
    | with_reducible assumption
    | with_reducible exact Leaves.refl _ _
    | decide
    | with_reducible apply Leaves.upd_bst
    | with_reducible apply Leaves.ite
    | dsimp only

theorem execSliceEnd_leaves {s s' : State} (found : List Found) (h : execSliceEnd found s = .next s') : Leaves 0x10243990081f3c00e092 s s' := by
  unfold execSliceEnd at h
  refine act_leaves h ?_
  try dsimp only
  clear h
  repeat' first
    | with_reducible apply State.endClock_leaves
    | with_reducible assumption
    | with_reducible exact Leaves.refl _ _
    | decide
    | with_reducible apply Part.bit (F.BST_STAT_BUSY_part ..)
    | with_reducible apply Leaves.wr
    | with_reducible apply State.evalVotes_leaves
    | with_reducible apply State.marchOn_leaves
    | with_reducible apply State.patternTiles_leaves
    | with_reducible apply State.takeTest_leaves
    | with_reducible apply Leaves.ite
    | split
    | dsimp only

theorem State.gapUpset_leaves {μ : Nat} {s₀ : State} {s : State} (hl : Leaves μ s₀ s) (hμ : 0x20000000 ||| μ = μ) (n : Fin 16) (a : Nat) (bad : Option (Fin 128 × Fin 1024)) :
    Leaves μ s₀ (State.gapUpset s n a bad) := by
  refine hl.step (k := 0x20000000) ?_ hμ
  clear hl hμ
  unfold State.gapUpset
  try dsimp only
  repeat' first
    | with_reducible assumption
    | with_reducible exact Leaves.refl _ _
    | decide
    | with_reducible apply Leaves.upd_dmBad
    | exact fun h => Tab.wf_set _ _ _ h
    | exact fun h => Bytes.wf_write _ _ h
    | exact fun h => Bytes.wf_set _ _ h
    | exact fun h => bufSet_wf _ _ h
    | exact fun h => Tab.wf_clear _ _ _ h
    | exact fun h => Tab.wf_filter _ _ h
    | with_reducible apply Leaves.ite
    | split
    | dsimp only

theorem execIdleGapScan_leaves {s s' : State} (n : Fin 16) (bad : Option (Fin 128 × Fin 1024)) (h : execIdleGapScan n bad s = .next s') : Leaves 0x200000000020000080 s s' := by
  unfold execIdleGapScan at h
  refine act_leaves h ?_
  try dsimp only
  clear h
  repeat' first
    | with_reducible apply State.endClock_leaves
    | with_reducible assumption
    | with_reducible exact Leaves.refl _ _
    | decide
    | with_reducible apply Part.bit (F.BST_STAT_SUSPECT_part ..)
    | (with_reducible apply Part.bit (p := .bstRegs) <;> first | decide | exact regPart_bstRegs (by omega) (by omega))
    | with_reducible apply Leaves.wr
    | with_reducible apply Leaves.setReg
    | with_reducible apply State.gapUpset_leaves
    | with_reducible apply Leaves.upd_bst
    | with_reducible apply Leaves.ite
    | split
    | dsimp only

end Sys2Proof.Machine
end

