-- ==== Sys2Proof/Laws/Timebase.lean ====
section
/-!
SUPPORT. What each operation of Machine/Timebase.lean leaves alone.
-/

set_option linter.all false

namespace Sys2Proof.Machine

theorem State.setTb_leaves {μ : Nat} {s₀ : State} {s : State} (hl : Leaves μ s₀ s) (hμ : 0x80000000000 ||| μ = μ) (x : Timebase) :
    Leaves μ s₀ (State.setTb s x) := by
  refine hl.step (k := 0x80000000000) ?_ hμ
  clear hl hμ
  unfold State.setTb
  try dsimp only
  repeat' first
    | with_reducible assumption
    | with_reducible exact Leaves.refl _ _
    | decide
    | with_reducible apply Leaves.upd_tb
    | dsimp only

theorem State.setRole_leaves {μ : Nat} {s₀ : State} {s : State} (hl : Leaves μ s₀ s) (hμ : 0x10001990080000002110 ||| μ = μ) (r : Nat) :
    Leaves μ s₀ (State.setRole s r) := by
  refine hl.step (k := 0x10001990080000002110) ?_ hμ
  clear hl hμ
  unfold State.setRole
  try dsimp only
  repeat' first
    | with_reducible assumption
    | with_reducible exact Leaves.refl _ _
    | decide
    | with_reducible apply Part.bit (F.TB_STATUS_ROLE_part ..)
    | with_reducible apply Leaves.wr
    | with_reducible apply State.raise_leaves
    | with_reducible apply Leaves.ite
    | dsimp only

theorem State.setAligned_leaves {μ : Nat} {s₀ : State} {s : State} (hl : Leaves μ s₀ s) (hμ : 0x10001990080000002110 ||| μ = μ) (b : Bool) :
    Leaves μ s₀ (State.setAligned s b) := by
  refine hl.step (k := 0x10001990080000002110) ?_ hμ
  clear hl hμ
  unfold State.setAligned
  try dsimp only
  repeat' first
    | with_reducible assumption
    | with_reducible exact Leaves.refl _ _
    | decide
    | with_reducible apply Part.bit (F.TB_STATUS_ALIGNED_part ..)
    | with_reducible apply Leaves.wr
    | with_reducible apply State.raise_leaves
    | with_reducible apply Leaves.ite
    | dsimp only

theorem State.setLine_leaves {μ : Nat} {s₀ : State} {s : State} (hl : Leaves μ s₀ s) (hμ : 0x100 ||| μ = μ) (l : Nat) :
    Leaves μ s₀ (State.setLine s l) := by
  refine hl.step (k := 0x100) ?_ hμ
  clear hl hμ
  unfold State.setLine
  try dsimp only
  repeat' first
    | with_reducible assumption
    | with_reducible exact Leaves.refl _ _
    | decide
    | with_reducible apply Part.bit (F.TB_LINE_LO_part ..)
    | with_reducible apply Part.bit (F.TB_LINE_HI_part ..)
    | with_reducible apply Leaves.wr
    | dsimp only

theorem State.stepTime_leaves {μ : Nat} {s₀ : State} {s : State} (hl : Leaves μ s₀ s) (hμ : 0x80000000100 ||| μ = μ) (t : Nat) :
    Leaves μ s₀ (State.stepTime s t) := by
  refine hl.step (k := 0x80000000100) ?_ hμ
  clear hl hμ
  unfold State.stepTime
  try dsimp only
  repeat' first
    | with_reducible assumption
    | with_reducible exact Leaves.refl _ _
    | decide
    | with_reducible apply Part.bit (F.TB_TIME_STEP_CNT_COUNT_part ..)
    | (with_reducible apply Part.bit (p := .tbRegs) <;> first | decide | exact regPart_tbRegs (by omega) (by omega))
    | with_reducible apply Leaves.bump
    | with_reducible apply Leaves.wr64
    | with_reducible apply State.setTb_leaves
    | with_reducible apply Leaves.ite
    | dsimp only

theorem State.passLine_leaves {μ : Nat} {s₀ : State} {s : State} (hl : Leaves μ s₀ s) (hμ : 0x10001990080000002110 ||| μ = μ) (l : Nat) :
    Leaves μ s₀ (State.passLine s l) := by
  refine hl.step (k := 0x10001990080000002110) ?_ hμ
  clear hl hμ
  unfold State.passLine
  try dsimp only
  repeat' first
    | with_reducible assumption
    | with_reducible exact Leaves.refl _ _
    | decide
    | with_reducible apply Part.bit (F.TB_LINE_SKIP_CNT_COUNT_part ..)
    | with_reducible apply Leaves.bump
    | with_reducible apply State.raise_leaves
    | with_reducible apply State.setTb_leaves
    | with_reducible apply Leaves.ite
    | dsimp only

theorem State.followLine_leaves {μ : Nat} {s₀ : State} {s : State} (hl : Leaves μ s₀ s) (hμ : 0x100 ||| μ = μ) (l : Nat) :
    Leaves μ s₀ (State.followLine s l) := by
  refine hl.step (k := 0x100) ?_ hμ
  clear hl hμ
  unfold State.followLine
  try dsimp only
  repeat' first
    | with_reducible assumption
    | with_reducible exact Leaves.refl _ _
    | decide
    | with_reducible apply State.setLine_leaves
    | with_reducible apply Leaves.ite
    | dsimp only

theorem State.passGap_leaves {μ : Nat} {s₀ : State} {s : State} (hl : Leaves μ s₀ s) (hμ : 0x10001990080000002110 ||| μ = μ) (l : Nat) :
    Leaves μ s₀ (State.passGap s l) := by
  refine hl.step (k := 0x10001990080000002110) ?_ hμ
  clear hl hμ
  unfold State.passGap
  try dsimp only
  repeat' first
    | with_reducible assumption
    | with_reducible exact Leaves.refl _ _
    | decide
    | with_reducible apply State.passLine_leaves
    | with_reducible refine Leaves.forEach (fun _ _ _ => ?_) ?_
    | with_reducible refine Leaves.forEachFst (fun _ _ _ => ?_) ?_
    | split
    | dsimp only

theorem State.hold_leaves {μ : Nat} {s₀ : State} {s : State} (hl : Leaves μ s₀ s) (hμ : 0x80000000000 ||| μ = μ) (h : Held) :
    Leaves μ s₀ (State.hold s h) := by
  refine hl.step (k := 0x80000000000) ?_ hμ
  clear hl hμ
  unfold State.hold
  try dsimp only
  repeat' first
    | with_reducible assumption
    | with_reducible exact Leaves.refl _ _
    | decide
    | with_reducible apply State.setTb_leaves
    | dsimp only

theorem State.ownLine_leaves {μ : Nat} {s₀ : State} {s : State} (hl : Leaves μ s₀ s) (hμ : 0x10001990080000002110 ||| μ = μ) (l : Nat) :
    Leaves μ s₀ (State.ownLine s l) := by
  refine hl.step (k := 0x10001990080000002110) ?_ hμ
  clear hl hμ
  unfold State.ownLine
  try dsimp only
  repeat' first
    | with_reducible assumption
    | with_reducible exact Leaves.refl _ _
    | decide
    | with_reducible apply State.hold_leaves
    | with_reducible apply State.nextSeq_leaves
    | with_reducible apply State.passLine_leaves
    | with_reducible apply State.sendGroup_leaves
    | with_reducible apply State.setTb_leaves
    | with_reducible apply Leaves.ite
    | with_reducible apply Leaves.iteFst
    | split
    | dsimp only

theorem State.createLine_leaves {μ : Nat} {s₀ : State} {s : State} (hl : Leaves μ s₀ s) (hμ : 0x10001990080000002110 ||| μ = μ)  :
    Leaves μ s₀ (State.createLine s) := by
  refine hl.step (k := 0x10001990080000002110) ?_ hμ
  clear hl hμ
  unfold State.createLine
  try dsimp only
  repeat' first
    | with_reducible assumption
    | with_reducible exact Leaves.refl _ _
    | decide
    | with_reducible apply Part.bit (F.TB_CTRL_CPL_LOAD_part ..)
    | with_reducible apply Leaves.wr
    | with_reducible apply State.ownLine_leaves
    | with_reducible apply State.passLine_leaves
    | with_reducible apply State.setLine_leaves
    | with_reducible apply State.setTb_leaves
    | with_reducible apply Leaves.ite
    | dsimp only

theorem State.count_leaves {μ : Nat} {s₀ : State} {s : State} (hl : Leaves μ s₀ s) (hμ : 0x10001990080000002110 ||| μ = μ) (fwd : Bool) :
    Leaves μ s₀ (State.count s fwd) := by
  refine hl.step (k := 0x10001990080000002110) ?_ hμ
  clear hl hμ
  unfold State.count
  try dsimp only
  repeat' first
    | with_reducible assumption
    | with_reducible exact Leaves.refl _ _
    | decide
    | with_reducible apply Part.bit (F.TB_OVERSPEED_CNT_COUNT_part ..)
    | with_reducible apply Part.bit (F.TB_STATUS_OVERSPEED_part ..)
    | (with_reducible apply Part.bit (p := .tbRegs) <;> first | decide | exact regPart_tbRegs (by omega) (by omega))
    | with_reducible apply Leaves.bump
    | with_reducible apply Leaves.wr
    | with_reducible apply Leaves.wr64
    | with_reducible apply State.createLine_leaves
    | with_reducible apply State.raise_leaves
    | with_reducible apply State.setTb_leaves
    | with_reducible apply Leaves.ite
    | split
    | dsimp only

theorem State.acceptCount_leaves {μ : Nat} {s₀ : State} {s : State} (hl : Leaves μ s₀ s) (hμ : 0x80000000000 ||| μ = μ) (fwd : Bool) (first : Nat) :
    Leaves μ s₀ (State.acceptCount s fwd first) := by
  refine hl.step (k := 0x80000000000) ?_ hμ
  clear hl hμ
  unfold State.acceptCount
  try dsimp only
  repeat' first
    | with_reducible assumption
    | with_reducible exact Leaves.refl _ _
    | decide
    | with_reducible apply State.setTb_leaves
    | dsimp only

theorem State.registerCounts_leaves {μ : Nat} {s₀ : State} {s : State} (hl : Leaves μ s₀ s) (hμ : 0x10001990080000002110 ||| μ = μ)  :
    Leaves μ s₀ (State.registerCounts s) := by
  refine hl.step (k := 0x10001990080000002110) ?_ hμ
  clear hl hμ
  unfold State.registerCounts
  try dsimp only
  repeat' first
    | with_reducible assumption
    | with_reducible exact Leaves.refl _ _
    | decide
    | with_reducible apply State.count_leaves
    | with_reducible apply State.setTb_leaves
    | with_reducible apply Leaves.ite
    | with_reducible apply Leaves.iteFst
    | with_reducible refine Leaves.forEach (fun _ _ _ => ?_) ?_
    | with_reducible refine Leaves.forEachFst (fun _ _ _ => ?_) ?_
    | dsimp only

theorem State.decodeEdges_leaves {μ : Nat} {s₀ : State} {s : State} (hl : Leaves μ s₀ s) (hμ : 0x10001990080000002110 ||| μ = μ) (a b ca cb : Bool) :
    Leaves μ s₀ (State.decodeEdges s a b ca cb) := by
  refine hl.step (k := 0x10001990080000002110) ?_ hμ
  clear hl hμ
  unfold State.decodeEdges
  try dsimp only
  repeat' first
    | with_reducible assumption
    | with_reducible exact Leaves.refl _ _
    | decide
    | with_reducible apply Part.bit (F.TB_ENC_ERR_CNT_COUNT_part ..)
    | with_reducible apply Part.bit (F.TB_STATUS_ENC_ERR_part ..)
    | with_reducible apply Leaves.bump
    | with_reducible apply Leaves.wr
    | with_reducible apply State.acceptCount_leaves
    | with_reducible apply State.raise_leaves
    | with_reducible apply Leaves.ite
    | dsimp only

theorem State.sampleAB_leaves {μ : Nat} {s₀ : State} {s : State} (hl : Leaves μ s₀ s) (hμ : 0x10001990080000002110 ||| μ = μ)  :
    Leaves μ s₀ (State.sampleAB s) := by
  refine hl.step (k := 0x10001990080000002110) ?_ hμ
  clear hl hμ
  unfold State.sampleAB
  try dsimp only
  repeat' first
    | with_reducible assumption
    | with_reducible exact Leaves.refl _ _
    | decide
    | with_reducible apply State.decodeEdges_leaves
    | with_reducible apply State.setTb_leaves
    | with_reducible apply Leaves.ite
    | with_reducible apply Leaves.iteFst
    | dsimp only

theorem State.sampleZ_leaves {μ : Nat} {s₀ : State} {s : State} (hl : Leaves μ s₀ s) (hμ : 0x10001990080000002110 ||| μ = μ)  :
    Leaves μ s₀ (State.sampleZ s) := by
  refine hl.step (k := 0x10001990080000002110) ?_ hμ
  clear hl hμ
  unfold State.sampleZ
  try dsimp only
  repeat' first
    | with_reducible assumption
    | with_reducible exact Leaves.refl _ _
    | decide
    | (with_reducible apply Part.bit (p := .tbRegs) <;> first | decide | exact regPart_tbRegs (by omega) (by omega))
    | with_reducible apply Leaves.setReg
    | with_reducible apply State.raise_leaves
    | with_reducible apply State.setTb_leaves
    | with_reducible apply Leaves.ite
    | with_reducible apply Leaves.iteFst
    | dsimp only

theorem State.lehrSample_leaves {μ : Nat} {s₀ : State} {s : State} (hl : Leaves μ s₀ s) (hμ : 0x80000000000000000 ||| μ = μ) (a b : Bool) :
    Leaves μ s₀ (State.lehrSample s a b) := by
  refine hl.step (k := 0x80000000000000000) ?_ hμ
  clear hl hμ
  unfold State.lehrSample
  try dsimp only
  repeat' first
    | with_reducible assumption
    | with_reducible exact Leaves.refl _ _
    | decide
    | with_reducible apply Leaves.upd_lehr
    | dsimp only

theorem execEncoderEdge_leaves {s s' : State} (a b : Bool) (h : execEncoderEdge a b s = .next s') : Leaves 0x10081990080000002110 s s' := by
  unfold execEncoderEdge at h
  try dsimp only at h
  repeat' first
    | (with_reducible refine act_leaves h ?_)
    | (obtain rfl := answer_next h)
    | split at h
  try dsimp only
  clear h
  repeat' first
    | with_reducible apply State.endClock_leaves
    | with_reducible assumption
    | with_reducible exact Leaves.refl _ _
    | decide
    | with_reducible apply State.lehrSample_leaves
    | with_reducible apply State.sampleAB_leaves
    | with_reducible apply State.setTb_leaves
    | with_reducible apply Leaves.ite
    | dsimp only

theorem execEncZEdge_leaves {s s' : State} (z : Bool) (h : execEncZEdge z s = .next s') : Leaves 0x10001990080000002110 s s' := by
  unfold execEncZEdge at h
  refine act_leaves h ?_
  try dsimp only
  clear h
  repeat' first
    | with_reducible apply State.endClock_leaves
    | with_reducible assumption
    | with_reducible exact Leaves.refl _ _
    | decide
    | with_reducible apply State.sampleZ_leaves
    | with_reducible apply State.setTb_leaves
    | dsimp only

theorem State.armDivider_leaves {μ : Nat} {s₀ : State} {s : State} (hl : Leaves μ s₀ s) (hμ : 0x80000000100 ||| μ = μ)  :
    Leaves μ s₀ (State.armDivider s) := by
  refine hl.step (k := 0x80000000100) ?_ hμ
  clear hl hμ
  unfold State.armDivider
  try dsimp only
  repeat' first
    | with_reducible assumption
    | with_reducible exact Leaves.refl _ _
    | decide
    | (with_reducible apply Part.bit (p := .tbRegs) <;> first | decide | exact regPart_tbRegs (by omega) (by omega))
    | with_reducible apply Leaves.wr64
    | with_reducible apply State.setLine_leaves
    | with_reducible apply State.setTb_leaves
    | dsimp only

theorem State.sendLink_leaves {μ : Nat} {s₀ : State} {s : State} (hl : Leaves μ s₀ s) (hμ : 0x10000000080000000000 ||| μ = μ) (p : Nat) (m : IrcMsg) :
    Leaves μ s₀ (State.sendLink s p m) := by
  refine hl.step (k := 0x10000000080000000000) ?_ hμ
  clear hl hμ
  unfold State.sendLink
  try dsimp only
  repeat' first
    | with_reducible assumption
    | with_reducible exact Leaves.refl _ _
    | decide
    | with_reducible apply State.nextSeq_leaves
    | with_reducible apply State.sendOn_leaves
    | dsimp only

theorem State.markUpstream_leaves {μ : Nat} {s₀ : State} {s : State} (hl : Leaves μ s₀ s) (hμ : 0x10000 ||| μ = μ) (up : Option Nat) :
    Leaves μ s₀ (State.markUpstream s up) := by
  refine hl.step (k := 0x10000) ?_ hμ
  clear hl hμ
  unfold State.markUpstream
  try dsimp only
  repeat' first
    | with_reducible assumption
    | with_reducible exact Leaves.refl _ _
    | decide
    | with_reducible apply Part.bit (F.IRC_STATUS_UPSTREAM_part ..)
    | with_reducible apply Leaves.wr
    | with_reducible refine Leaves.forEach (fun _ _ _ => ?_) ?_
    | with_reducible refine Leaves.forEachFst (fun _ _ _ => ?_) ?_
    | dsimp only

theorem State.followPort_leaves {μ : Nat} {s₀ : State} {s : State} (hl : Leaves μ s₀ s) (hμ : 0x80000000000 ||| μ = μ) (p : Nat) :
    Leaves μ s₀ (State.followPort s p) := by
  refine hl.step (k := 0x80000000000) ?_ hμ
  clear hl hμ
  unfold State.followPort
  try dsimp only
  repeat' first
    | with_reducible assumption
    | with_reducible exact Leaves.refl _ _
    | decide
    | with_reducible apply State.setTb_leaves
    | dsimp only

theorem State.ownClock_leaves {μ : Nat} {s₀ : State} {s : State} (hl : Leaves μ s₀ s) (hμ : 0x80000000000 ||| μ = μ)  :
    Leaves μ s₀ (State.ownClock s) := by
  refine hl.step (k := 0x80000000000) ?_ hμ
  clear hl hμ
  unfold State.ownClock
  try dsimp only
  repeat' first
    | with_reducible assumption
    | with_reducible exact Leaves.refl _ _
    | decide
    | with_reducible apply State.setTb_leaves
    | dsimp only

theorem State.setUpstream_leaves {μ : Nat} {s₀ : State} {s : State} (hl : Leaves μ s₀ s) (hμ : 0x80000010100 ||| μ = μ) (p : Nat) :
    Leaves μ s₀ (State.setUpstream s p) := by
  refine hl.step (k := 0x80000010100) ?_ hμ
  clear hl hμ
  unfold State.setUpstream
  try dsimp only
  repeat' first
    | with_reducible assumption
    | with_reducible exact Leaves.refl _ _
    | decide
    | with_reducible apply Part.bit (F.TB_STATUS_UPSTREAM_part ..)
    | with_reducible apply Leaves.wr
    | with_reducible apply State.followPort_leaves
    | with_reducible apply State.markUpstream_leaves
    | with_reducible apply Leaves.ite
    | dsimp only

theorem State.issueEpoch_leaves {μ : Nat} {s₀ : State} {s : State} (hl : Leaves μ s₀ s) (hμ : 0x10000000080000000000 ||| μ = μ) (map : Nat) (hops : List (Nat × Nat)) (step : Nat) :
    Leaves μ s₀ (State.issueEpoch s map hops step) := by
  refine hl.step (k := 0x10000000080000000000) ?_ hμ
  clear hl hμ
  unfold State.issueEpoch
  try dsimp only
  repeat' first
    | with_reducible assumption
    | with_reducible exact Leaves.refl _ _
    | decide
    | with_reducible apply State.flood_leaves
    | with_reducible apply State.setTb_leaves
    | dsimp only

theorem State.reissue_leaves {μ : Nat} {s₀ : State} {s : State} (hl : Leaves μ s₀ s) (hμ : 0x10000000080000000000 ||| μ = μ)  :
    Leaves μ s₀ (State.reissue s) := by
  refine hl.step (k := 0x10000000080000000000) ?_ hμ
  clear hl hμ
  unfold State.reissue
  try dsimp only
  repeat' first
    | with_reducible assumption
    | with_reducible exact Leaves.refl _ _
    | decide
    | with_reducible apply State.issueEpoch_leaves
    | dsimp only

theorem State.dropMember_leaves {μ : Nat} {s₀ : State} {s : State} (hl : Leaves μ s₀ s) (hμ : 0x10000000080000000000 ||| μ = μ) (m : Nat) :
    Leaves μ s₀ (State.dropMember s m) := by
  refine hl.step (k := 0x10000000080000000000) ?_ hμ
  clear hl hμ
  unfold State.dropMember
  try dsimp only
  repeat' first
    | with_reducible assumption
    | with_reducible exact Leaves.refl _ _
    | decide
    | with_reducible apply State.issueEpoch_leaves
    | dsimp only

theorem State.portDown_leaves {μ : Nat} {s₀ : State} {s : State} (hl : Leaves μ s₀ s) (hμ : 0x100000010000 ||| μ = μ) (p state : Nat) :
    Leaves μ s₀ (State.portDown s p state) := by
  refine hl.step (k := 0x100000010000) ?_ hμ
  clear hl hμ
  unfold State.portDown
  try dsimp only
  repeat' first
    | with_reducible assumption
    | with_reducible exact Leaves.refl _ _
    | decide
    | with_reducible apply Part.bit (F.IRC_STATUS_STATE_part ..)
    | with_reducible apply Part.bit (F.IRC_STATUS_PEER_VALID_part ..)
    | with_reducible apply Part.bit (F.IRC_HOP_DELAY_VALID_part ..)
    | with_reducible apply Part.bit (F.IRC_STATUS_UPSTREAM_part ..)
    | with_reducible apply Leaves.wr
    | with_reducible apply State.setIrcp_leaves
    | dsimp only

theorem State.loseUpstream_leaves {μ : Nat} {s₀ : State} {s : State} (hl : Leaves μ s₀ s) (hμ : 0x80000010100 ||| μ = μ) (p : Nat) :
    Leaves μ s₀ (State.loseUpstream s p) := by
  refine hl.step (k := 0x80000010100) ?_ hμ
  clear hl hμ
  unfold State.loseUpstream
  try dsimp only
  repeat' first
    | with_reducible assumption
    | with_reducible exact Leaves.refl _ _
    | decide
    | with_reducible apply State.setTb_leaves
    | with_reducible apply State.setUpstream_leaves
    | with_reducible apply Leaves.ite
    | split
    | dsimp only

theorem State.afterLoss_leaves {μ : Nat} {s₀ : State} {s : State} (hl : Leaves μ s₀ s) (hμ : 0x10000000080000010100 ||| μ = μ) (p : Nat) (wasGroup wasUp : Bool) :
    Leaves μ s₀ (State.afterLoss s p wasGroup wasUp) := by
  refine hl.step (k := 0x10000000080000010100) ?_ hμ
  clear hl hμ
  unfold State.afterLoss
  try dsimp only
  repeat' first
    | with_reducible assumption
    | with_reducible exact Leaves.refl _ _
    | decide
    | with_reducible apply State.loseUpstream_leaves
    | with_reducible apply State.reissue_leaves
    | with_reducible apply Leaves.ite
    | dsimp only

theorem State.portLost_leaves {μ : Nat} {s₀ : State} {s : State} (hl : Leaves μ s₀ s) (hμ : 0x10000000180000010100 ||| μ = μ) (p state : Nat) :
    Leaves μ s₀ (State.portLost s p state) := by
  refine hl.step (k := 0x10000000180000010100) ?_ hμ
  clear hl hμ
  unfold State.portLost
  try dsimp only
  repeat' first
    | with_reducible assumption
    | with_reducible exact Leaves.refl _ _
    | decide
    | with_reducible apply State.afterLoss_leaves
    | with_reducible apply State.portDown_leaves
    | dsimp only

theorem State.quarantine_leaves {μ : Nat} {s₀ : State} {s : State} (hl : Leaves μ s₀ s) (hμ : 0x10001990180000012110 ||| μ = μ) (p : Nat) :
    Leaves μ s₀ (State.quarantine s p) := by
  refine hl.step (k := 0x10001990180000012110) ?_ hμ
  clear hl hμ
  unfold State.quarantine
  try dsimp only
  repeat' first
    | with_reducible assumption
    | with_reducible exact Leaves.refl _ _
    | decide
    | with_reducible apply Part.bit (F.IRC_QUAR_CNT_COUNT_part ..)
    | with_reducible apply Part.bit (F.IRC_STATUS_QUAR_part ..)
    | with_reducible apply Leaves.bump
    | with_reducible apply Leaves.wr
    | with_reducible apply State.afterLoss_leaves
    | with_reducible apply State.portDown_leaves
    | with_reducible apply State.raise_leaves
    | with_reducible apply State.setIrcp_leaves
    | dsimp only

theorem State.violation_leaves {μ : Nat} {s₀ : State} {s : State} (hl : Leaves μ s₀ s) (hμ : 0x10001990180000012110 ||| μ = μ) (p reason : Nat) (h : FrameHdr) (isNack : Bool) :
    Leaves μ s₀ (State.violation s p reason h isNack) := by
  refine hl.step (k := 0x10001990180000012110) ?_ hμ
  clear hl hμ
  unfold State.violation
  try dsimp only
  repeat' first
    | with_reducible assumption
    | with_reducible exact Leaves.refl _ _
    | decide
    | with_reducible apply Part.bit (F.IRC_VIOL_CNT_COUNT_part ..)
    | with_reducible apply Part.bit (F.IRC_STATUS_VIOL_part ..)
    | with_reducible apply Leaves.bump
    | with_reducible apply Leaves.wr
    | with_reducible apply State.quarantine_leaves
    | with_reducible apply State.raise_leaves
    | with_reducible apply State.sendLink_leaves
    | with_reducible apply State.setIrcp_leaves
    | with_reducible apply Leaves.ite
    | dsimp only

theorem State.forward_leaves {μ : Nat} {s₀ : State} {s : State} (hl : Leaves μ s₀ s) (hμ : 0x10000000000000000000 ||| μ = μ) (p : Nat) (h : FrameHdr) (m : IrcMsg) :
    Leaves μ s₀ (State.forward s p h m) := by
  refine hl.step (k := 0x10000000000000000000) ?_ hμ
  clear hl hμ
  unfold State.forward
  try dsimp only
  repeat' first
    | with_reducible assumption
    | with_reducible exact Leaves.refl _ _
    | decide
    | with_reducible apply State.sendGroup_leaves
    | with_reducible apply Leaves.ite
    | dsimp only

theorem State.ackTo_leaves {μ : Nat} {s₀ : State} {s : State} (hl : Leaves μ s₀ s) (hμ : 0x10000000080000000000 ||| μ = μ) (p : Nat) (h : FrameHdr) (m : IrcMsg) :
    Leaves μ s₀ (State.ackTo s p h m) := by
  refine hl.step (k := 0x10000000080000000000) ?_ hμ
  clear hl hμ
  unfold State.ackTo
  try dsimp only
  repeat' first
    | with_reducible assumption
    | with_reducible exact Leaves.refl _ _
    | decide
    | with_reducible apply State.sendTo_leaves
    | dsimp only

theorem State.takeAndForward_leaves {μ : Nat} {s₀ : State} {s : State} (hl : Leaves μ s₀ s) (hμ : 0x10000000000000000000 ||| μ = μ) (p : Nat) (h : FrameHdr) (m : IrcMsg) (f : State → State) (hf : ∀  u, Leaves μ s₀ u → Leaves μ s₀ (f  u)) :
    Leaves μ s₀ (State.takeAndForward s p h m f) := by
  unfold State.takeAndForward
  try dsimp only
  repeat' first
    | with_reducible apply hf
    | with_reducible exact Mask.trans (by decide) hμ
    | with_reducible exact Mask.bit (by decide) hμ
    | with_reducible assumption
    | with_reducible exact Leaves.refl _ _
    | decide
    | with_reducible apply State.forward_leaves
    | with_reducible apply Leaves.ite
    | dsimp only

theorem State.secondCopy_leaves {μ : Nat} {s₀ : State} {s : State} (hl : Leaves μ s₀ s) (hμ : 0x10000000080000000000 ||| μ = μ) (p : Nat) (h : FrameHdr) (m : IrcMsg) :
    Leaves μ s₀ (State.secondCopy s p h m) := by
  refine hl.step (k := 0x10000000080000000000) ?_ hμ
  clear hl hμ
  unfold State.secondCopy
  try dsimp only
  repeat' first
    | with_reducible assumption
    | with_reducible exact Leaves.refl _ _
    | decide
    | with_reducible apply State.ackTo_leaves
    | with_reducible apply Leaves.ite
    | dsimp only

theorem State.receive_leaves {μ : Nat} {s₀ : State} {s : State} (hl : Leaves μ s₀ s) (hμ : 0x10001990180000012110 ||| μ = μ) (p : Nat) (h : FrameHdr) (m : IrcMsg) (release : Nat) (f : State → State) (hf : ∀  u, Leaves μ s₀ u → Leaves μ s₀ (f  u)) :
    Leaves μ s₀ (State.receive s p h m release f) := by
  unfold State.receive
  try dsimp only
  repeat' first
    | with_reducible apply hf
    | with_reducible exact Mask.trans (by decide) hμ
    | with_reducible exact Mask.bit (by decide) hμ
    | with_reducible assumption
    | with_reducible exact Leaves.refl _ _
    | decide
    | with_reducible apply Part.bit (F.IRC_STALE_CNT_COUNT_part ..)
    | with_reducible apply Leaves.bump
    | with_reducible apply State.forward_leaves
    | with_reducible apply State.secondCopy_leaves
    | with_reducible apply State.setTb_leaves
    | with_reducible apply State.takeAndForward_leaves
    | intro _
    | with_reducible apply State.violation_leaves
    | with_reducible apply Leaves.ite
    | split
    | dsimp only

theorem State.sawEpoch_leaves {μ : Nat} {s₀ : State} {s : State} (hl : Leaves μ s₀ s) (hμ : 0x80000000000 ||| μ = μ) (n : Nat) :
    Leaves μ s₀ (State.sawEpoch s n) := by
  refine hl.step (k := 0x80000000000) ?_ hμ
  clear hl hμ
  unfold State.sawEpoch
  try dsimp only
  repeat' first
    | with_reducible assumption
    | with_reducible exact Leaves.refl _ _
    | decide
    | with_reducible apply State.setTb_leaves
    | with_reducible apply Leaves.ite
    | split
    | dsimp only

theorem State.learnGroup_leaves {μ : Nat} {s₀ : State} {s : State} (hl : Leaves μ s₀ s) (hμ : 0x80000000100 ||| μ = μ) (epoch master : Nat) (key : Key) :
    Leaves μ s₀ (State.learnGroup s epoch master key) := by
  refine hl.step (k := 0x80000000100) ?_ hμ
  clear hl hμ
  unfold State.learnGroup
  try dsimp only
  repeat' first
    | with_reducible assumption
    | with_reducible exact Leaves.refl _ _
    | decide
    | with_reducible apply Part.bit (F.TB_GROUP_EPOCH_part ..)
    | with_reducible apply Part.bit (F.TB_GROUP_MASTER_ID_part ..)
    | with_reducible apply Leaves.wr
    | with_reducible apply State.setTb_leaves
    | dsimp only

theorem State.meetGroup_leaves {μ : Nat} {s₀ : State} {s : State} (hl : Leaves μ s₀ s) (hμ : 0x10000000080000010100 ||| μ = μ) (p : Nat) (entered current : Bool) (id master : Nat) (key : Key) :
    Leaves μ s₀ (State.meetGroup s p entered current id master key) := by
  refine hl.step (k := 0x10000000080000010100) ?_ hμ
  clear hl hμ
  unfold State.meetGroup
  try dsimp only
  repeat' first
    | with_reducible assumption
    | with_reducible exact Leaves.refl _ _
    | decide
    | with_reducible apply State.issueEpoch_leaves
    | with_reducible apply State.reissue_leaves
    | with_reducible apply State.setTb_leaves
    | with_reducible apply State.setUpstream_leaves
    | with_reducible apply Leaves.ite
    | dsimp only

theorem execHello_leaves {s s' : State} (p : Fin 4) (h : FrameHdr) (key : Key) (id : Fin 64) (epoch : BitVec 16) (current : Bool) (master : Fin 64) (masterKey : Key) (hops : Fin 16) (port : Fin 4) (h : execHello p h key id epoch current master masterKey hops port s = .next s') : Leaves 0x10001990180000012110 s s' := by
  unfold execHello at h
  refine act_leaves h ?_
  try dsimp only
  clear h
  repeat' first
    | with_reducible apply State.endClock_leaves
    | with_reducible assumption
    | with_reducible exact Leaves.refl _ _
    | decide
    | with_reducible apply Part.bit (F.IRC_STATUS_PEER_VALID_part ..)
    | with_reducible apply Part.bit (F.IRC_STATUS_PEER_ID_part ..)
    | with_reducible apply Part.bit (F.IRC_STATUS_STATE_part ..)
    | (with_reducible apply Part.bit (p := .ircRegs) <;> first | decide | exact regPart_ircRegs (by omega) (by omega))
    | with_reducible apply Leaves.wr
    | with_reducible apply Leaves.wr64
    | with_reducible apply State.learnGroup_leaves
    | with_reducible apply State.meetGroup_leaves
    | with_reducible apply State.receive_leaves
    | intro _
    | with_reducible apply State.sawEpoch_leaves
    | with_reducible apply State.setIrcp_leaves
    | with_reducible apply Leaves.ite
    | dsimp only

theorem execDlyReq_leaves {s s' : State} (p : Fin 4) (h : FrameHdr) (t1 t2 t3 : BitVec 64) (h : execDlyReq p h t1 t2 t3 s = .next s') : Leaves 0x10001990180000012110 s s' := by
  unfold execDlyReq at h
  refine act_leaves h ?_
  try dsimp only
  clear h
  repeat' first
    | with_reducible apply State.endClock_leaves
    | with_reducible assumption
    | with_reducible exact Leaves.refl _ _
    | decide
    | with_reducible apply State.receive_leaves
    | intro _
    | with_reducible apply State.sendLink_leaves
    | dsimp only

theorem execDlyResp_leaves {s s' : State} (p : Fin 4) (h : FrameHdr) (t2 t3 t4 : BitVec 64) (h : execDlyResp p h t2 t3 t4 s = .next s') : Leaves 0x10001990180000012110 s s' := by
  unfold execDlyResp at h
  refine act_leaves h ?_
  try dsimp only
  clear h
  repeat' first
    | with_reducible apply State.endClock_leaves
    | with_reducible assumption
    | with_reducible exact Leaves.refl _ _
    | decide
    | with_reducible apply Part.bit (F.IRC_HOP_DELAY_DELAY_part ..)
    | with_reducible apply Part.bit (F.IRC_HOP_DELAY_VALID_part ..)
    | with_reducible apply Leaves.wr
    | with_reducible apply State.followPort_leaves
    | with_reducible apply State.receive_leaves
    | intro _
    | with_reducible apply State.setIrcp_leaves
    | with_reducible apply Leaves.ite
    | dsimp only

theorem execNack_leaves {s s' : State} (p : Fin 4) (h : FrameHdr) (reason : Fin 8) (seq : BitVec 16) (h : execNack p h reason seq s = .next s') : Leaves 0x10001990180000012110 s s' := by
  unfold execNack at h
  refine act_leaves h ?_
  try dsimp only
  clear h
  repeat' first
    | with_reducible apply State.endClock_leaves
    | with_reducible assumption
    | with_reducible exact Leaves.refl _ _
    | decide
    | with_reducible apply Part.bit (F.IRC_NACK_RX_CNT_COUNT_part ..)
    | with_reducible apply Part.bit (F.IRC_STATUS_NACK_RX_part ..)
    | with_reducible apply Leaves.bump
    | with_reducible apply Leaves.wr
    | with_reducible apply State.raise_leaves
    | with_reducible apply State.receive_leaves
    | intro _
    | dsimp only

theorem State.floodElect_leaves {μ : Nat} {s₀ : State} {s : State} (hl : Leaves μ s₀ s) (hμ : 0x10000000080000000000 ||| μ = μ)  :
    Leaves μ s₀ (State.floodElect s) := by
  refine hl.step (k := 0x10000000080000000000) ?_ hμ
  clear hl hμ
  unfold State.floodElect
  try dsimp only
  repeat' first
    | with_reducible assumption
    | with_reducible exact Leaves.refl _ _
    | decide
    | with_reducible apply State.flood_leaves
    | dsimp only

theorem State.enterElection_leaves {μ : Nat} {s₀ : State} {s : State} (hl : Leaves μ s₀ s) (hμ : 0x10001990080000002110 ||| μ = μ)  :
    Leaves μ s₀ (State.enterElection s) := by
  refine hl.step (k := 0x10001990080000002110) ?_ hμ
  clear hl hμ
  unfold State.enterElection
  try dsimp only
  repeat' first
    | with_reducible assumption
    | with_reducible exact Leaves.refl _ _
    | decide
    | with_reducible apply Part.bit (F.TB_STATUS_ELECTING_part ..)
    | with_reducible apply Leaves.wr
    | with_reducible apply State.floodElect_leaves
    | with_reducible apply State.setRole_leaves
    | with_reducible apply State.setTb_leaves
    | dsimp only

theorem State.heardElect_leaves {μ : Nat} {s₀ : State} {s : State} (hl : Leaves μ s₀ s) (hμ : 0x80000000000 ||| μ = μ) (h : FrameHdr) (key time : Nat) :
    Leaves μ s₀ (State.heardElect s h key time) := by
  refine hl.step (k := 0x80000000000) ?_ hμ
  clear hl hμ
  unfold State.heardElect
  try dsimp only
  repeat' first
    | with_reducible assumption
    | with_reducible exact Leaves.refl _ _
    | decide
    | with_reducible apply State.sawEpoch_leaves
    | with_reducible apply State.setTb_leaves
    | with_reducible apply Leaves.ite
    | with_reducible apply Leaves.iteFst
    | dsimp only

theorem execElect_leaves {s s' : State} (p : Fin 4) (h : FrameHdr) (key : Key) (time : BitVec 64) (h : execElect p h key time s = .next s') : Leaves 0x10001990180000012110 s s' := by
  unfold execElect at h
  refine act_leaves h ?_
  try dsimp only
  clear h
  repeat' first
    | with_reducible apply State.endClock_leaves
    | with_reducible assumption
    | with_reducible exact Leaves.refl _ _
    | decide
    | with_reducible apply State.floodElect_leaves
    | with_reducible apply State.heardElect_leaves
    | with_reducible apply State.receive_leaves
    | intro _
    | with_reducible apply State.setTb_leaves
    | with_reducible apply Leaves.ite
    | dsimp only

theorem State.becomeMaster_leaves {μ : Nat} {s₀ : State} {s : State} (hl : Leaves μ s₀ s) (hμ : 0x10000000080000000100 ||| μ = μ)  :
    Leaves μ s₀ (State.becomeMaster s) := by
  refine hl.step (k := 0x10000000080000000100) ?_ hμ
  clear hl hμ
  unfold State.becomeMaster
  try dsimp only
  repeat' first
    | with_reducible assumption
    | with_reducible exact Leaves.refl _ _
    | decide
    | with_reducible apply State.issueEpoch_leaves
    | with_reducible apply State.setTb_leaves
    | with_reducible apply State.stepTime_leaves
    | with_reducible apply Leaves.ite
    | with_reducible apply Leaves.iteFst
    | with_reducible refine Leaves.foldl (fun _ _ _ => ?_) ?_
    | with_reducible refine Leaves.foldlFst (fun _ _ _ => ?_) ?_
    | dsimp only

theorem execElectQuietExpiry_leaves {s s' : State}  (h : execElectQuietExpiry s = .next s') : Leaves 0x10001990080000002110 s s' := by
  unfold execElectQuietExpiry at h
  refine act_leaves h ?_
  try dsimp only
  clear h
  repeat' first
    | with_reducible apply State.endClock_leaves
    | with_reducible assumption
    | with_reducible exact Leaves.refl _ _
    | decide
    | with_reducible apply State.becomeMaster_leaves
    | with_reducible apply State.enterElection_leaves
    | with_reducible apply Leaves.ite
    | dsimp only

theorem execEpoch_leaves {s s' : State} (p : Fin 4) (h : FrameHdr) (num : BitVec 16) (act_ : BitVec 64) (map : BitVec 64) (hops : List (Fin 64 × Fin 16)) (step : BitVec 64) (h : execEpoch p h num act_ map hops step s = .next s') : Leaves 0x10001990180000012110 s s' := by
  unfold execEpoch at h
  refine act_leaves h ?_
  try dsimp only
  clear h
  repeat' first
    | with_reducible apply State.endClock_leaves
    | with_reducible assumption
    | with_reducible exact Leaves.refl _ _
    | decide
    | with_reducible apply State.ackTo_leaves
    | with_reducible apply State.receive_leaves
    | intro _
    | with_reducible apply State.sawEpoch_leaves
    | with_reducible apply State.setTb_leaves
    | with_reducible apply Leaves.ite
    | with_reducible apply Leaves.iteFst
    | dsimp only

theorem State.epochStep_leaves {μ : Nat} {s₀ : State} {s : State} (hl : Leaves μ s₀ s) (hμ : 0x80000000100 ||| μ = μ) (e : PendingEpoch) (named : Bool) :
    Leaves μ s₀ (State.epochStep s e named) := by
  refine hl.step (k := 0x80000000100) ?_ hμ
  clear hl hμ
  unfold State.epochStep
  try dsimp only
  repeat' first
    | with_reducible assumption
    | with_reducible exact Leaves.refl _ _
    | decide
    | with_reducible apply Part.bit (F.TB_STATUS_TIME_AHEAD_part ..)
    | with_reducible apply Leaves.wr
    | with_reducible apply State.setTb_leaves
    | with_reducible apply State.stepTime_leaves
    | with_reducible apply Leaves.ite
    | dsimp only

theorem State.leadEpoch_leaves {μ : Nat} {s₀ : State} {s : State} (hl : Leaves μ s₀ s) (hμ : 0x10001990080000012110 ||| μ = μ) (e : PendingEpoch) :
    Leaves μ s₀ (State.leadEpoch s e) := by
  refine hl.step (k := 0x10001990080000012110) ?_ hμ
  clear hl hμ
  unfold State.leadEpoch
  try dsimp only
  repeat' first
    | with_reducible assumption
    | with_reducible exact Leaves.refl _ _
    | decide
    | with_reducible apply Part.bit (F.TB_STATUS_MAX_HOPS_part ..)
    | with_reducible apply Part.bit (F.TB_STATUS_HOPS_part ..)
    | with_reducible apply Part.bit (F.TB_STATUS_OFFSET_SHORT_part ..)
    | with_reducible apply Leaves.wr
    | with_reducible apply State.markUpstream_leaves
    | with_reducible apply State.ownClock_leaves
    | with_reducible apply State.raise_leaves
    | with_reducible apply State.setAligned_leaves
    | with_reducible apply State.setRole_leaves
    | with_reducible apply Leaves.ite
    | with_reducible refine Leaves.foldl (fun _ _ _ => ?_) ?_
    | with_reducible refine Leaves.foldlFst (fun _ _ _ => ?_) ?_
    | dsimp only

theorem State.followEpoch_leaves {μ : Nat} {s₀ : State} {s : State} (hl : Leaves μ s₀ s) (hμ : 0x10001990080000012110 ||| μ = μ) (e : PendingEpoch) :
    Leaves μ s₀ (State.followEpoch s e) := by
  refine hl.step (k := 0x10001990080000012110) ?_ hμ
  clear hl hμ
  unfold State.followEpoch
  try dsimp only
  repeat' first
    | with_reducible assumption
    | with_reducible exact Leaves.refl _ _
    | decide
    | with_reducible apply Part.bit (F.TB_STATUS_HOPS_part ..)
    | with_reducible apply Leaves.wr
    | with_reducible apply State.setRole_leaves
    | with_reducible apply State.setUpstream_leaves
    | with_reducible apply Leaves.ite
    | split
    | dsimp only

theorem execEpochActivation_leaves {s s' : State}  (h : execEpochActivation s = .next s') : Leaves 0x10001990080000012110 s s' := by
  unfold execEpochActivation at h
  refine act_leaves h ?_
  try dsimp only
  clear h
  repeat' first
    | with_reducible apply State.endClock_leaves
    | with_reducible assumption
    | with_reducible exact Leaves.refl _ _
    | decide
    | with_reducible apply Part.bit (F.TB_GROUP_EPOCH_part ..)
    | with_reducible apply Part.bit (F.TB_GROUP_COUNT_part ..)
    | with_reducible apply Part.bit (F.TB_GROUP_MASTER_ID_part ..)
    | with_reducible apply Part.bit (F.TB_STATUS_ELECTING_part ..)
    | (with_reducible apply Part.bit (p := .tbRegs) <;> first | decide | exact regPart_tbRegs (by omega) (by omega))
    | with_reducible apply Leaves.wr
    | with_reducible apply Leaves.wr64
    | with_reducible apply State.epochStep_leaves
    | with_reducible apply State.followEpoch_leaves
    | with_reducible apply State.leadEpoch_leaves
    | with_reducible apply State.ownClock_leaves
    | with_reducible apply State.raise_leaves
    | with_reducible apply State.setAligned_leaves
    | with_reducible apply State.setRole_leaves
    | with_reducible apply State.setTb_leaves
    | with_reducible apply Leaves.ite
    | split
    | dsimp only

theorem State.askJoin_leaves {μ : Nat} {s₀ : State} {s : State} (hl : Leaves μ s₀ s) (hμ : 0x10000000080000000000 ||| μ = μ)  :
    Leaves μ s₀ (State.askJoin s) := by
  refine hl.step (k := 0x10000000080000000000) ?_ hμ
  clear hl hμ
  unfold State.askJoin
  try dsimp only
  repeat' first
    | with_reducible assumption
    | with_reducible exact Leaves.refl _ _
    | decide
    | with_reducible apply State.sendTo_leaves
    | with_reducible apply Leaves.ite
    | dsimp only

theorem execJoinReq_leaves {s s' : State} (p : Fin 4) (h : FrameHdr) (key : Key) (id : Fin 64) (hops : Fin 16) (d : BitVec 64) (h : execJoinReq p h key id hops d s = .next s') : Leaves 0x10001990180000012110 s s' := by
  unfold execJoinReq at h
  refine act_leaves h ?_
  try dsimp only
  clear h
  repeat' first
    | with_reducible apply State.endClock_leaves
    | with_reducible assumption
    | with_reducible exact Leaves.refl _ _
    | decide
    | with_reducible apply State.ackTo_leaves
    | with_reducible apply State.issueEpoch_leaves
    | with_reducible apply State.receive_leaves
    | intro _
    | with_reducible apply State.sendTo_leaves
    | with_reducible apply State.setTb_leaves
    | with_reducible apply Leaves.ite
    | with_reducible apply Leaves.iteFst
    | dsimp only

theorem execJoinAck_leaves {s s' : State} (p : Fin 4) (h : FrameHdr) (refused : Option (Fin 4)) (h : execJoinAck p h refused s = .next s') : Leaves 0x10001990180000012110 s s' := by
  unfold execJoinAck at h
  refine act_leaves h ?_
  try dsimp only
  clear h
  repeat' first
    | with_reducible apply State.endClock_leaves
    | with_reducible assumption
    | with_reducible exact Leaves.refl _ _
    | decide
    | with_reducible apply State.ackTo_leaves
    | with_reducible apply State.raise_leaves
    | with_reducible apply State.receive_leaves
    | intro _
    | with_reducible apply Leaves.ite
    | dsimp only

theorem execJoinRetryTimer_leaves {s s' : State}  (h : execJoinRetryTimer s = .next s') : Leaves 0x10000000080000000000 s s' := by
  unfold execJoinRetryTimer at h
  refine act_leaves h ?_
  try dsimp only
  clear h
  repeat' first
    | with_reducible apply State.endClock_leaves
    | with_reducible assumption
    | with_reducible exact Leaves.refl _ _
    | decide
    | with_reducible apply State.askJoin_leaves
    | dsimp only

theorem execLeave_leaves {s s' : State} (p : Fin 4) (h : FrameHdr) (id : Fin 64) (h : execLeave p h id s = .next s') : Leaves 0x10001990180000012110 s s' := by
  unfold execLeave at h
  refine act_leaves h ?_
  try dsimp only
  clear h
  repeat' first
    | with_reducible apply State.endClock_leaves
    | with_reducible assumption
    | with_reducible exact Leaves.refl _ _
    | decide
    | with_reducible apply State.ackTo_leaves
    | with_reducible apply State.dropMember_leaves
    | with_reducible apply State.enterElection_leaves
    | with_reducible apply State.receive_leaves
    | intro _
    | with_reducible apply Leaves.ite
    | dsimp only

theorem State.align_leaves {μ : Nat} {s₀ : State} {s : State} (hl : Leaves μ s₀ s) (hμ : 0x10001990080000012110 ||| μ = μ) (p t : Nat) :
    Leaves μ s₀ (State.align s p t) := by
  refine hl.step (k := 0x10001990080000012110) ?_ hμ
  clear hl hμ
  unfold State.align
  try dsimp only
  repeat' first
    | with_reducible assumption
    | with_reducible exact Leaves.refl _ _
    | decide
    | with_reducible apply Part.bit (F.TB_STATUS_TIME_AHEAD_part ..)
    | with_reducible apply Leaves.wr
    | with_reducible apply State.askJoin_leaves
    | with_reducible apply State.setAligned_leaves
    | with_reducible apply State.setRole_leaves
    | with_reducible apply State.setTb_leaves
    | with_reducible apply State.setUpstream_leaves
    | with_reducible apply State.stepTime_leaves
    | with_reducible apply Leaves.ite
    | dsimp only

theorem execHeartbeat_leaves {s s' : State} (p : Fin 4) (h : FrameHdr) (time : BitVec 64) (h : execHeartbeat p h time s = .next s') : Leaves 0x18001990180000012110 s s' := by
  unfold execHeartbeat at h
  refine act_leaves h ?_
  try dsimp only
  clear h
  repeat' first
    | with_reducible apply State.endClock_leaves
    | with_reducible assumption
    | with_reducible exact Leaves.refl _ _
    | decide
    | with_reducible apply State.align_leaves
    | with_reducible apply State.drawn_leaves
    | with_reducible apply State.receive_leaves
    | intro _
    | with_reducible apply State.setTb_leaves
    | with_reducible apply Leaves.ite
    | dsimp only

theorem State.behind_leaves {μ : Nat} {s₀ : State} {s : State} (hl : Leaves μ s₀ s) (hμ : 0x10001990080000002110 ||| μ = μ) (m : Nat) :
    Leaves μ s₀ (State.behind s m) := by
  refine hl.step (k := 0x10001990080000002110) ?_ hμ
  clear hl hμ
  unfold State.behind
  try dsimp only
  repeat' first
    | with_reducible assumption
    | with_reducible exact Leaves.refl _ _
    | decide
    | (with_reducible apply Part.bit (p := .tbRegs) <;> first | decide | exact regPart_tbRegs (by omega) (by omega))
    | with_reducible apply Leaves.wr64
    | with_reducible apply State.raise_leaves
    | with_reducible apply State.setTb_leaves
    | with_reducible apply Leaves.ite
    | dsimp only

theorem State.heardAt_leaves {μ : Nat} {s₀ : State} {s : State} (hl : Leaves μ s₀ s) (hμ : 0x10000000080000000000 ||| μ = μ) (m hops links : Nat) :
    Leaves μ s₀ (State.heardAt s m hops links) := by
  refine hl.step (k := 0x10000000080000000000) ?_ hμ
  clear hl hμ
  unfold State.heardAt
  try dsimp only
  repeat' first
    | with_reducible assumption
    | with_reducible exact Leaves.refl _ _
    | decide
    | with_reducible apply State.reissue_leaves
    | with_reducible apply State.setTb_leaves
    | with_reducible apply Leaves.ite
    | with_reducible apply Leaves.iteFst
    | dsimp only

theorem State.statusOfMember_leaves {μ : Nat} {s₀ : State} {s : State} (hl : Leaves μ s₀ s) (hμ : 0x80000000000 ||| μ = μ) (m : Nat) :
    Leaves μ s₀ (State.statusOfMember s m) := by
  refine hl.step (k := 0x80000000000) ?_ hμ
  clear hl hμ
  unfold State.statusOfMember
  try dsimp only
  repeat' first
    | with_reducible assumption
    | with_reducible exact Leaves.refl _ _
    | decide
    | with_reducible apply State.setTb_leaves
    | dsimp only

theorem execStatus_leaves {s s' : State} (p : Fin 4) (h : FrameHdr) (aligned : Bool) (skips : BitVec 16) (better : Option Key) (links : BitVec 64) (h : execStatus p h aligned skips better links s = .next s') : Leaves 0x10001990180000012110 s s' := by
  unfold execStatus at h
  refine act_leaves h ?_
  try dsimp only
  clear h
  repeat' first
    | with_reducible apply State.endClock_leaves
    | with_reducible assumption
    | with_reducible exact Leaves.refl _ _
    | decide
    | with_reducible apply State.behind_leaves
    | with_reducible apply State.heardAt_leaves
    | with_reducible apply State.issueEpoch_leaves
    | with_reducible apply State.receive_leaves
    | intro _
    | with_reducible apply State.statusOfMember_leaves
    | with_reducible apply Leaves.ite
    | dsimp only

theorem State.clearSkips_leaves {μ : Nat} {s₀ : State} {s : State} (hl : Leaves μ s₀ s) (hμ : 0x80000000000 ||| μ = μ)  :
    Leaves μ s₀ (State.clearSkips s) := by
  refine hl.step (k := 0x80000000000) ?_ hμ
  clear hl hμ
  unfold State.clearSkips
  try dsimp only
  repeat' first
    | with_reducible assumption
    | with_reducible exact Leaves.refl _ _
    | decide
    | with_reducible apply State.setTb_leaves
    | dsimp only

theorem execHeartbeatTimer_leaves {s s' : State}  (h : execHeartbeatTimer s = .next s') : Leaves 0x10000000080000000000 s s' := by
  unfold execHeartbeatTimer at h
  refine act_leaves h ?_
  try dsimp only
  clear h
  repeat' first
    | with_reducible apply State.endClock_leaves
    | with_reducible assumption
    | with_reducible exact Leaves.refl _ _
    | decide
    | with_reducible apply State.clearSkips_leaves
    | with_reducible apply State.flood_leaves
    | with_reducible apply State.sendTo_leaves
    | with_reducible apply Leaves.ite
    | dsimp only

theorem execHeartbeatLoss_leaves {s s' : State}  (h : execHeartbeatLoss s = .next s') : Leaves 0x10001990080000002110 s s' := by
  unfold execHeartbeatLoss at h
  refine act_leaves h ?_
  try dsimp only
  clear h
  repeat' first
    | with_reducible apply State.endClock_leaves
    | with_reducible assumption
    | with_reducible exact Leaves.refl _ _
    | decide
    | with_reducible apply State.enterElection_leaves
    | with_reducible apply Leaves.ite
    | dsimp only

theorem execMemberLoss_leaves {s s' : State} (m : Fin 64) (h : execMemberLoss m s = .next s') : Leaves 0x10000000080000000000 s s' := by
  unfold execMemberLoss at h
  refine act_leaves h ?_
  try dsimp only
  clear h
  repeat' first
    | with_reducible apply State.endClock_leaves
    | with_reducible assumption
    | with_reducible exact Leaves.refl _ _
    | decide
    | with_reducible apply State.dropMember_leaves
    | with_reducible apply Leaves.ite
    | with_reducible apply Leaves.iteFst
    | dsimp only

theorem execTrigger_leaves {s s' : State} (p : Fin 4) (h : FrameHdr) (line : BitVec 48) (release : BitVec 64) (marks : BitVec 32) (targets : List (Fin 16 × BitVec 48)) (h : execTrigger p h line release marks targets s = .next s') : Leaves 0x10001990180000012110 s s' := by
  unfold execTrigger at h
  refine act_leaves h ?_
  try dsimp only
  clear h
  repeat' first
    | with_reducible apply State.endClock_leaves
    | with_reducible assumption
    | with_reducible exact Leaves.refl _ _
    | decide
    | with_reducible apply Part.bit (F.TB_LATE_CNT_COUNT_part ..)
    | with_reducible apply Part.bit (F.TB_STATUS_LATE_part ..)
    | with_reducible apply Leaves.bump
    | with_reducible apply Leaves.wr
    | with_reducible apply State.followLine_leaves
    | with_reducible apply State.hold_leaves
    | with_reducible apply State.passLine_leaves
    | with_reducible apply State.raise_leaves
    | with_reducible apply State.receive_leaves
    | intro _
    | with_reducible apply Leaves.ite
    | with_reducible apply Leaves.iteFst
    | dsimp only

theorem State.farArrive_leaves {μ : Nat} {s₀ : State} {s : State} (hl : Leaves μ s₀ s) (hμ : 0x3000004100 ||| μ = μ) (n t k tag data : Nat) :
    Leaves μ s₀ (State.farArrive s n t k tag data) := by
  refine hl.step (k := 0x3000004100) ?_ hμ
  clear hl hμ
  unfold State.farArrive
  try dsimp only
  repeat' first
    | with_reducible assumption
    | with_reducible exact Leaves.refl _ _
    | decide
    | with_reducible apply State.farMeet_leaves
    | with_reducible apply State.setTile_leaves
    | dsimp only

theorem execFar_leaves {s s' : State} (p : Fin 4) (h : FrameHdr) (region : Fin 16) (tile : Fin 128) (tag : BitVec 16) (data : BitVec 1024) (h : execFar p h region tile tag data s = .next s') : Leaves 0x10001990183000016110 s s' := by
  unfold execFar at h
  refine act_leaves h ?_
  try dsimp only
  clear h
  repeat' first
    | with_reducible apply State.endClock_leaves
    | with_reducible assumption
    | with_reducible exact Leaves.refl _ _
    | decide
    | with_reducible apply State.farArrive_leaves
    | with_reducible apply State.receive_leaves
    | intro _
    | with_reducible apply Leaves.ite
    | with_reducible refine Leaves.forEach (fun _ _ _ => ?_) ?_
    | with_reducible refine Leaves.forEachFst (fun _ _ _ => ?_) ?_
    | split
    | dsimp only

theorem execEvent_leaves {s s' : State} (p : Fin 4) (h : FrameHdr) (source : Fin 768) (h : execEvent p h source s = .next s') : Leaves 0x10001990180000012110 s s' := by
  unfold execEvent at h
  refine act_leaves h ?_
  try dsimp only
  clear h
  repeat' first
    | with_reducible apply State.endClock_leaves
    | with_reducible assumption
    | with_reducible exact Leaves.refl _ _
    | decide
    | with_reducible apply State.occur_leaves
    | with_reducible apply State.receive_leaves
    | intro _
    | with_reducible apply Leaves.ite
    | dsimp only

theorem execAck_leaves {s s' : State} (p : Fin 4) (h : FrameHdr) (type : BitVec 8) (seq : BitVec 16) (h : execAck p h type seq s = .next s') : Leaves 0x10001990180000012110 s s' := by
  unfold execAck at h
  refine act_leaves h ?_
  try dsimp only
  clear h
  repeat' first
    | with_reducible apply State.endClock_leaves
    | with_reducible assumption
    | with_reducible exact Leaves.refl _ _
    | decide
    | with_reducible apply State.receive_leaves
    | intro _
    | with_reducible apply State.setTb_leaves
    | dsimp only

theorem State.partnerLost_leaves {μ : Nat} {s₀ : State} {s : State} (hl : Leaves μ s₀ s) (hμ : 0x10001990080000002110 ||| μ = μ) (h : FrameHdr) (m : IrcMsg) :
    Leaves μ s₀ (State.partnerLost s h m) := by
  refine hl.step (k := 0x10001990080000002110) ?_ hμ
  clear hl hμ
  unfold State.partnerLost
  try dsimp only
  repeat' first
    | with_reducible assumption
    | with_reducible exact Leaves.refl _ _
    | decide
    | with_reducible apply State.dropMember_leaves
    | with_reducible apply State.enterElection_leaves
    | with_reducible apply State.issueEpoch_leaves
    | with_reducible apply Leaves.ite
    | split
    | dsimp only

theorem execAckRetryTimer_leaves {s s' : State} (i : Nat) (h : execAckRetryTimer i s = .next s') : Leaves 0x10001990080000002110 s s' := by
  unfold execAckRetryTimer at h
  refine act_leaves h ?_
  try dsimp only
  clear h
  repeat' first
    | with_reducible apply State.endClock_leaves
    | with_reducible assumption
    | with_reducible exact Leaves.refl _ _
    | decide
    | with_reducible apply State.partnerLost_leaves
    | with_reducible apply State.sendGroup_leaves
    | with_reducible apply State.sendOn_leaves
    | with_reducible apply State.setTb_leaves
    | with_reducible apply Leaves.ite
    | split
    | dsimp only

theorem execHelloTimer_leaves {s s' : State} (p : Fin 4) (h : execHelloTimer p s = .next s') : Leaves 0x10000000080000000000 s s' := by
  unfold execHelloTimer at h
  refine act_leaves h ?_
  try dsimp only
  clear h
  repeat' first
    | with_reducible apply State.endClock_leaves
    | with_reducible assumption
    | with_reducible exact Leaves.refl _ _
    | decide
    | with_reducible apply State.sendLink_leaves
    | with_reducible apply Leaves.ite
    | dsimp only

theorem execHopMeasureTimer_leaves {s s' : State} (p : Fin 4) (t1 : BitVec 64) (h : execHopMeasureTimer p t1 s = .next s') : Leaves 0x10000000180000000000 s s' := by
  unfold execHopMeasureTimer at h
  refine act_leaves h ?_
  try dsimp only
  clear h
  repeat' first
    | with_reducible apply State.endClock_leaves
    | with_reducible assumption
    | with_reducible exact Leaves.refl _ _
    | decide
    | with_reducible apply State.sendLink_leaves
    | with_reducible apply State.setIrcp_leaves
    | with_reducible apply Leaves.ite
    | dsimp only

theorem execIrcBackoffExpiry_leaves {s s' : State} (p : Fin 4) (h : execIrcBackoffExpiry p s = .next s') : Leaves 0x10000 s s' := by
  unfold execIrcBackoffExpiry at h
  refine act_leaves h ?_
  try dsimp only
  clear h
  repeat' first
    | with_reducible apply State.endClock_leaves
    | with_reducible assumption
    | with_reducible exact Leaves.refl _ _
    | decide
    | with_reducible apply Part.bit (F.IRC_STATUS_STATE_part ..)
    | with_reducible apply Leaves.wr
    | with_reducible apply Leaves.ite
    | dsimp only

theorem execIrcLinkUp_leaves {s s' : State} (p : Fin 4) (h : execIrcLinkUp p s = .next s') : Leaves 0x10001990080000012010 s s' := by
  unfold execIrcLinkUp at h
  refine act_leaves h ?_
  try dsimp only
  clear h
  repeat' first
    | with_reducible apply State.endClock_leaves
    | with_reducible assumption
    | with_reducible exact Leaves.refl _ _
    | decide
    | with_reducible apply Part.bit (F.IRC_STATUS_STATE_part ..)
    | with_reducible apply Leaves.wr
    | with_reducible apply State.raise_leaves
    | with_reducible apply Leaves.ite
    | dsimp only

theorem execIrcLinkDown_leaves {s s' : State} (p : Fin 4) (h : execIrcLinkDown p s = .next s') : Leaves 0x10001990180000012110 s s' := by
  unfold execIrcLinkDown at h
  refine act_leaves h ?_
  try dsimp only
  clear h
  repeat' first
    | with_reducible apply State.endClock_leaves
    | with_reducible assumption
    | with_reducible exact Leaves.refl _ _
    | decide
    | with_reducible apply Part.bit (F.IRC_STATUS_LINK_DOWN_part ..)
    | with_reducible apply Leaves.wr
    | with_reducible apply State.portLost_leaves
    | with_reducible apply State.raise_leaves
    | with_reducible apply Leaves.ite
    | dsimp only

theorem State.endQuarantine_leaves {μ : Nat} {s₀ : State} {s : State} (hl : Leaves μ s₀ s) (hμ : 0x10000 ||| μ = μ) (p : Nat) :
    Leaves μ s₀ (State.endQuarantine s p) := by
  refine hl.step (k := 0x10000) ?_ hμ
  clear hl hμ
  unfold State.endQuarantine
  try dsimp only
  repeat' first
    | with_reducible assumption
    | with_reducible exact Leaves.refl _ _
    | decide
    | with_reducible apply Part.bit (F.IRC_STATUS_STATE_part ..)
    | with_reducible apply Part.bit (F.IRC_CTRL_QUAR_CLR_part ..)
    | with_reducible apply Leaves.wr
    | with_reducible apply Leaves.ite
    | dsimp only

theorem execQuarantineExpiry_leaves {s s' : State} (p : Fin 4) (h : execQuarantineExpiry p s = .next s') : Leaves 0x10000 s s' := by
  unfold execQuarantineExpiry at h
  refine act_leaves h ?_
  try dsimp only
  clear h
  repeat' first
    | with_reducible apply State.endClock_leaves
    | with_reducible assumption
    | with_reducible exact Leaves.refl _ _
    | decide
    | with_reducible apply State.endQuarantine_leaves
    | with_reducible apply Leaves.ite
    | dsimp only

theorem State.sendLeave_leaves {μ : Nat} {s₀ : State} {s : State} (hl : Leaves μ s₀ s) (hμ : 0x10000000080000000000 ||| μ = μ)  :
    Leaves μ s₀ (State.sendLeave s) := by
  refine hl.step (k := 0x10000000080000000000) ?_ hμ
  clear hl hμ
  unfold State.sendLeave
  try dsimp only
  repeat' first
    | with_reducible assumption
    | with_reducible exact Leaves.refl _ _
    | decide
    | with_reducible apply State.flood_leaves
    | with_reducible apply Leaves.ite
    | dsimp only

theorem State.groupOn_leaves {μ : Nat} {s₀ : State} {s : State} (hl : Leaves μ s₀ s) (hμ : 0x10001990080000002110 ||| μ = μ)  :
    Leaves μ s₀ (State.groupOn s) := by
  refine hl.step (k := 0x10001990080000002110) ?_ hμ
  clear hl hμ
  unfold State.groupOn
  try dsimp only
  repeat' first
    | with_reducible assumption
    | with_reducible exact Leaves.refl _ _
    | decide
    | with_reducible apply State.setRole_leaves
    | dsimp only

theorem State.dropForeign_leaves {μ : Nat} {s₀ : State} {s : State} (hl : Leaves μ s₀ s) (hμ : 0x80000000000 ||| μ = μ)  :
    Leaves μ s₀ (State.dropForeign s) := by
  refine hl.step (k := 0x80000000000) ?_ hμ
  clear hl hμ
  unfold State.dropForeign
  try dsimp only
  repeat' first
    | with_reducible assumption
    | with_reducible exact Leaves.refl _ _
    | decide
    | with_reducible apply State.setTb_leaves
    | dsimp only

theorem State.groupOff_leaves {μ : Nat} {s₀ : State} {s : State} (hl : Leaves μ s₀ s) (hμ : 0x10001990080000012110 ||| μ = μ)  :
    Leaves μ s₀ (State.groupOff s) := by
  refine hl.step (k := 0x10001990080000012110) ?_ hμ
  clear hl hμ
  unfold State.groupOff
  try dsimp only
  repeat' first
    | with_reducible assumption
    | with_reducible exact Leaves.refl _ _
    | decide
    | with_reducible apply Part.bit (F.TB_STATUS_ELECTING_part ..)
    | with_reducible apply Part.bit (F.IRC_STATUS_STATE_part ..)
    | with_reducible apply Leaves.wr
    | with_reducible apply State.dropForeign_leaves
    | with_reducible apply State.markUpstream_leaves
    | with_reducible apply State.ownClock_leaves
    | with_reducible apply State.sendLeave_leaves
    | with_reducible apply State.setAligned_leaves
    | with_reducible apply State.setRole_leaves
    | with_reducible apply State.setTb_leaves
    | with_reducible refine Leaves.forEach (fun _ _ _ => ?_) ?_
    | with_reducible refine Leaves.forEachFst (fun _ _ _ => ?_) ?_
    | dsimp only

end Sys2Proof.Machine
end

