-- ==== Sys2Proof/Laws/Power.lean ====
section
/-!
SUPPORT. What each operation of Machine/Power.lean leaves alone.
-/

set_option linter.all false

namespace Sys2Proof.Machine

theorem State.pmbus_leaves {μ : Nat} {s₀ : State} {s : State} (hl : Leaves μ s₀ s) (hμ : 0x10000000000000000000 ||| μ = μ) (cmd data : Nat) :
    Leaves μ s₀ (State.pmbus s cmd data) := by
  refine hl.step (k := 0x10000000000000000000) ?_ hμ
  clear hl hμ
  unfold State.pmbus
  try dsimp only
  repeat' first
    | with_reducible assumption
    | with_reducible exact Leaves.refl _ _
    | decide
    | with_reducible apply State.emit_leaves
    | dsimp only

theorem State.commandMv_leaves {μ : Nat} {s₀ : State} {s : State} (hl : Leaves μ s₀ s) (hμ : 0x10040000000000000000 ||| μ = μ) (mv : Nat) :
    Leaves μ s₀ (State.commandMv s mv) := by
  refine hl.step (k := 0x10040000000000000000) ?_ hμ
  clear hl hμ
  unfold State.commandMv
  try dsimp only
  repeat' first
    | with_reducible assumption
    | with_reducible exact Leaves.refl _ _
    | decide
    | with_reducible apply State.pmbus_leaves
    | with_reducible apply Leaves.upd_pwr
    | dsimp only

theorem State.pmbusErr_leaves {μ : Nat} {s₀ : State} {s : State} (hl : Leaves μ s₀ s) (hμ : 0x10001990080000002012 ||| μ = μ)  :
    Leaves μ s₀ (State.pmbusErr s) := by
  refine hl.step (k := 0x10001990080000002012) ?_ hμ
  clear hl hμ
  unfold State.pmbusErr
  try dsimp only
  repeat' first
    | with_reducible assumption
    | with_reducible exact Leaves.refl _ _
    | decide
    | with_reducible apply Part.bit (F.PWR_PMBUS_ERR_CNT_COUNT_part ..)
    | with_reducible apply Part.bit (F.PWR_STAT_PMBUS_ERR_part ..)
    | with_reducible apply Leaves.bump
    | with_reducible apply Leaves.wr
    | with_reducible apply State.raise_leaves
    | dsimp only

theorem State.setPerf_leaves {μ : Nat} {s₀ : State} {s : State} (hl : Leaves μ s₀ s) (hμ : 0x40000000000000000 ||| μ = μ) (c : Option PerfChange) :
    Leaves μ s₀ (State.setPerf s c) := by
  refine hl.step (k := 0x40000000000000000) ?_ hμ
  clear hl hμ
  unfold State.setPerf
  try dsimp only
  repeat' first
    | with_reducible assumption
    | with_reducible exact Leaves.refl _ _
    | decide
    | with_reducible apply Leaves.upd_pwr
    | dsimp only

theorem execSetPerfLevel_leaves {s s' : State}  (h : execSetPerfLevel s = .next s') : Leaves 0x110419d0080000102012 s s' := by
  unfold execSetPerfLevel at h
  refine act_leaves h ?_
  try dsimp only
  clear h
  repeat' first
    | with_reducible apply State.endClock_leaves
    | with_reducible assumption
    | with_reducible exact Leaves.refl _ _
    | decide
    | with_reducible apply Part.bit (F.PWR_STAT_PERF_BUSY_part ..)
    | with_reducible apply Leaves.wr
    | with_reducible apply State.commandMv_leaves
    | with_reducible apply State.endShort_leaves
    | with_reducible apply State.setPerf_leaves
    | with_reducible apply State.startShort_leaves
    | with_reducible apply Leaves.ite
    | split
    | dsimp only

theorem State.endPerf_leaves {μ : Nat} {s₀ : State} {s : State} (hl : Leaves μ s₀ s) (hμ : 0x110419d0080000102012 ||| μ = μ) (ok : Bool) :
    Leaves μ s₀ (State.endPerf s ok) := by
  refine hl.step (k := 0x110419d0080000102012) ?_ hμ
  clear hl hμ
  unfold State.endPerf
  try dsimp only
  repeat' first
    | with_reducible assumption
    | with_reducible exact Leaves.refl _ _
    | decide
    | with_reducible apply Part.bit (F.PWR_STAT_PERF_BUSY_part ..)
    | with_reducible apply Part.bit (F.PWR_STAT_PERF_ERR_part ..)
    | with_reducible apply Leaves.wr
    | with_reducible apply State.endShort_leaves
    | with_reducible apply State.raise_leaves
    | with_reducible apply State.setPerf_leaves
    | with_reducible apply Leaves.ite
    | dsimp only

theorem State.applyLevel_leaves {μ : Nat} {s₀ : State} {s : State} (hl : Leaves μ s₀ s) (hμ : 0x8006 ||| μ = μ) (p : Nat) :
    Leaves μ s₀ (State.applyLevel s p) := by
  refine hl.step (k := 0x8006) ?_ hμ
  clear hl hμ
  unfold State.applyLevel
  try dsimp only
  repeat' first
    | with_reducible assumption
    | with_reducible exact Leaves.refl _ _
    | decide
    | with_reducible apply Part.bit (F.CLK_PLL_CFG_N_part ..)
    | with_reducible apply Part.bit (F.CLK_PLL_FRAC_part ..)
    | with_reducible apply Part.bit (F.CLK_PLL_DEN_part ..)
    | with_reducible apply Part.bit (F.PWR_STAT_PERF_part ..)
    | (with_reducible apply Part.bit (p := .secRegs) <;> first | decide | exact regPart_secRegs (by omega) (by omega))
    | with_reducible apply Leaves.wr
    | with_reducible apply Leaves.setReg
    | exact Mask.bit (regPart_bit _) (by decide)
    | with_reducible refine Leaves.forEach (fun _ _ _ => ?_) ?_
    | with_reducible refine Leaves.forEachFst (fun _ _ _ => ?_) ?_
    | dsimp only

theorem State.restartClock_leaves {μ : Nat} {s₀ : State} {s : State} (hl : Leaves μ s₀ s) (hμ : 0x110419d00860c1107012 ||| μ = μ) (c : PerfChange) :
    Leaves μ s₀ (State.restartClock s c) := by
  refine hl.step (k := 0x110419d00860c1107012) ?_ hμ
  clear hl hμ
  unfold State.restartClock
  try dsimp only
  repeat' first
    | with_reducible assumption
    | with_reducible exact Leaves.refl _ _
    | decide
    | with_reducible apply State.commandMv_leaves
    | with_reducible apply State.dispatch_leaves
    | with_reducible apply State.drainCrossing_leaves
    | with_reducible apply State.endPerf_leaves
    | with_reducible apply State.setPerf_leaves
    | with_reducible apply Leaves.ite
    | with_reducible refine Leaves.forEach (fun _ _ _ => ?_) ?_
    | with_reducible refine Leaves.forEachFst (fun _ _ _ => ?_) ?_
    | split
    | dsimp only

theorem execPerfSwitchWindow_leaves {s s' : State}  (h : execPerfSwitchWindow s = .next s') : Leaves 0x110419d00860c110f016 s s' := by
  unfold execPerfSwitchWindow at h
  refine act_leaves h ?_
  try dsimp only
  clear h
  repeat' first
    | with_reducible apply State.endClock_leaves
    | with_reducible assumption
    | with_reducible exact Leaves.refl _ _
    | decide
    | with_reducible apply Part.bit (F.CLK_STAT_LOCKED_part ..)
    | with_reducible apply Leaves.wr
    | with_reducible apply State.applyLevel_leaves
    | with_reducible apply State.restartClock_leaves
    | with_reducible apply State.setPerf_leaves
    | with_reducible apply Leaves.ite
    | split
    | dsimp only

theorem State.supplyFails_leaves {μ : Nat} {s₀ : State} {s : State} (hl : Leaves μ s₀ s) (hμ : 0x110419d0080000102012 ||| μ = μ) (again : Bool) :
    Leaves μ s₀ (State.supplyFails s again) := by
  refine hl.step (k := 0x110419d0080000102012) ?_ hμ
  clear hl hμ
  unfold State.supplyFails
  try dsimp only
  repeat' first
    | with_reducible assumption
    | with_reducible exact Leaves.refl _ _
    | decide
    | with_reducible apply State.commandMv_leaves
    | with_reducible apply State.endPerf_leaves
    | with_reducible apply State.pmbusErr_leaves
    | with_reducible apply Leaves.ite
    | split
    | dsimp only

theorem State.takeReading_leaves {μ : Nat} {s₀ : State} {s : State} (hl : Leaves μ s₀ s) (hμ : 0x110419d0080000102012 ||| μ = μ) (mv : Nat) :
    Leaves μ s₀ (State.takeReading s mv) := by
  refine hl.step (k := 0x110419d0080000102012) ?_ hμ
  clear hl hμ
  unfold State.takeReading
  try dsimp only
  repeat' first
    | with_reducible assumption
    | with_reducible exact Leaves.refl _ _
    | decide
    | with_reducible apply Part.bit (F.PWR_VOUT_MV_part ..)
    | with_reducible apply Leaves.wr
    | with_reducible apply State.endPerf_leaves
    | with_reducible apply State.pmbus_leaves
    | with_reducible apply State.setPerf_leaves
    | with_reducible apply Leaves.ite
    | split
    | dsimp only

theorem execSupplySettled_leaves {s s' : State} (mv : Option (BitVec 16)) (h : execSupplySettled mv s = .next s') : Leaves 0x110419d0080000102012 s s' := by
  unfold execSupplySettled at h
  refine act_leaves h ?_
  try dsimp only
  clear h
  repeat' first
    | with_reducible apply State.endClock_leaves
    | with_reducible assumption
    | with_reducible exact Leaves.refl _ _
    | decide
    | with_reducible apply State.supplyFails_leaves
    | with_reducible apply State.takeReading_leaves
    | split
    | dsimp only

theorem execSupplySettleTimeout_leaves {s s' : State} (again : Bool) (h : execSupplySettleTimeout again s = .next s') : Leaves 0x110419d0080000102012 s s' := by
  unfold execSupplySettleTimeout at h
  refine act_leaves h ?_
  try dsimp only
  clear h
  repeat' first
    | with_reducible apply State.endClock_leaves
    | with_reducible assumption
    | with_reducible exact Leaves.refl _ _
    | decide
    | with_reducible apply State.supplyFails_leaves
    | with_reducible apply Leaves.ite
    | dsimp only

theorem execPmbAlert_leaves {s s' : State}  (h : execPmbAlert s = .next s') : Leaves 0x10001990080000002012 s s' := by
  unfold execPmbAlert at h
  refine act_leaves h ?_
  try dsimp only
  clear h
  repeat' first
    | with_reducible apply State.endClock_leaves
    | with_reducible assumption
    | with_reducible exact Leaves.refl _ _
    | decide
    | with_reducible apply State.pmbus_leaves
    | with_reducible apply State.pmbusErr_leaves
    | dsimp only

theorem execPowerDownDrainEnd_leaves {s s' : State} (d : Fin 18) (h : execPowerDownDrainEnd d s = .next s') : Leaves 0x40000000000000000 s s' := by
  unfold execPowerDownDrainEnd at h
  refine act_leaves h ?_
  try dsimp only
  clear h
  repeat' first
    | with_reducible apply State.endClock_leaves
    | with_reducible assumption
    | with_reducible exact Leaves.refl _ _
    | decide
    | with_reducible apply State.setDom_leaves
    | with_reducible apply Leaves.ite
    | with_reducible refine Leaves.forEach (fun _ _ _ => ?_) ?_
    | with_reducible refine Leaves.forEachFst (fun _ _ _ => ?_) ?_
    | dsimp only

theorem State.loseSector_leaves {μ : Nat} {s₀ : State} {s : State} (hl : Leaves μ s₀ s) (hμ : 0x200000001f3c000000 ||| μ = μ) (c st : Nat) :
    Leaves μ s₀ (State.loseSector s c st) := by
  refine hl.step (k := 0x200000001f3c000000) ?_ hμ
  clear hl hμ
  unfold State.loseSector
  try dsimp only
  repeat' first
    | with_reducible assumption
    | with_reducible exact Leaves.refl _ _
    | decide
    | with_reducible apply State.clearBuffers_leaves
    | with_reducible apply State.clearDm_leaves
    | with_reducible apply State.clearLayers_leaves
    | with_reducible apply Leaves.ite
    | with_reducible refine Leaves.forEach (fun _ _ _ => ?_) ?_
    | with_reducible refine Leaves.forEachFst (fun _ _ _ => ?_) ?_
    | dsimp only

theorem State.gateSector_leaves {μ : Nat} {s₀ : State} {s : State} (hl : Leaves μ s₀ s) (hμ : 0x10241990081f3c00a010 ||| μ = μ) (c : Nat) :
    Leaves μ s₀ (State.gateSector s c) := by
  refine hl.step (k := 0x10241990081f3c00a010) ?_ hμ
  clear hl hμ
  unfold State.gateSector
  try dsimp only
  repeat' first
    | with_reducible assumption
    | with_reducible exact Leaves.refl _ _
    | decide
    | with_reducible apply Part.bit (F.SEC_STATUS_PSTATE_part ..)
    | with_reducible apply Leaves.wr
    | with_reducible apply State.loseSector_leaves
    | with_reducible apply State.raise_leaves
    | with_reducible apply State.setDom_leaves
    | split
    | dsimp only

theorem State.gateStack_leaves {μ : Nat} {s₀ : State} {s : State} (hl : Leaves μ s₀ s) (hμ : 0x10041990080000082010 ||| μ = μ) (d : Nat) :
    Leaves μ s₀ (State.gateStack s d) := by
  refine hl.step (k := 0x10041990080000082010) ?_ hμ
  clear hl hμ
  unfold State.gateStack
  try dsimp only
  repeat' first
    | with_reducible assumption
    | with_reducible exact Leaves.refl _ _
    | decide
    | with_reducible apply Part.bit (F.HBM_STATUS_SELF_REFRESH_part ..)
    | with_reducible apply Leaves.wr
    | with_reducible apply State.raise_leaves
    | with_reducible apply State.setDom_leaves
    | with_reducible apply Leaves.ite
    | dsimp only

theorem execPowerGatingComplete_leaves {s s' : State} (d : Fin 18) (h : execPowerGatingComplete d s = .next s') : Leaves 0x10241990081f3c08a012 s s' := by
  unfold execPowerGatingComplete at h
  refine act_leaves h ?_
  try dsimp only
  clear h
  repeat' first
    | with_reducible apply State.endClock_leaves
    | with_reducible assumption
    | with_reducible exact Leaves.refl _ _
    | decide
    | with_reducible apply State.evalSector_leaves
    | with_reducible apply State.gateSector_leaves
    | with_reducible apply State.gateStack_leaves
    | with_reducible apply Leaves.ite
    | with_reducible refine Leaves.forEach (fun _ _ _ => ?_) ?_
    | with_reducible refine Leaves.forEachFst (fun _ _ _ => ?_) ?_
    | dsimp only

theorem State.reloadSector_leaves {μ : Nat} {s₀ : State} {s : State} (hl : Leaves μ s₀ s) (hμ : 0x20000000000c000000 ||| μ = μ) (c : Nat) (upset : Option Nat) :
    Leaves μ s₀ (State.reloadSector s c upset).1 := by
  refine hl.step (k := 0x20000000000c000000) ?_ hμ
  clear hl hμ
  unfold State.reloadSector
  try dsimp only
  repeat' first
    | with_reducible assumption
    | with_reducible exact Leaves.refl _ _
    | decide
    | with_reducible apply State.reloadTiles_leaves
    | with_reducible apply Leaves.ite
    | (refine Leaves.pair (by assumption) ?_; with_reducible apply State.reloadTiles_leaves)
    | split
    | dsimp only

theorem State.reloadFailed_leaves {μ : Nat} {s₀ : State} {s : State} (hl : Leaves μ s₀ s) (hμ : 0x110619d008c00010705a ||| μ = μ) (n c : Nat) (f : ImgFail) :
    Leaves μ s₀ (State.reloadFailed s n c f) := by
  refine hl.step (k := 0x110619d008c00010705a) ?_ hμ
  clear hl hμ
  unfold State.reloadFailed
  try dsimp only
  repeat' first
    | with_reducible assumption
    | with_reducible exact Leaves.refl _ _
    | decide
    | with_reducible apply State.fault2_leaves
    | with_reducible apply State.loadErr_leaves
    | with_reducible apply State.raise_leaves
    | with_reducible apply State.setGaf_leaves
    | with_reducible apply State.startFailed_leaves
    | with_reducible apply Leaves.ite
    | dsimp only

theorem State.gobRefused_leaves {μ : Nat} {s₀ : State} {s : State} (hl : Leaves μ s₀ s) (hμ : 0x10061bb00f000008241b ||| μ = μ) (w : GobWrite) :
    Leaves μ s₀ (State.gobRefused s w) := by
  refine hl.step (k := 0x10061bb00f000008241b) ?_ hμ
  clear hl hμ
  unfold State.gobRefused
  try dsimp only
  repeat' first
    | with_reducible assumption
    | with_reducible exact Leaves.refl _ _
    | decide
    | with_reducible apply State.endDesc_leaves
    | with_reducible apply State.putDesc_leaves
    | split
    | dsimp only

theorem State.gobsProceed_leaves {μ : Nat} {s₀ : State} {s : State} (hl : Leaves μ s₀ s) (hμ : 0x10061bb00f210008641b ||| μ = μ) (c : Nat) :
    Leaves μ s₀ (State.gobsProceed s c) := by
  refine hl.step (k := 0x10061bb00f210008641b) ?_ hμ
  clear hl hμ
  unfold State.gobsProceed
  try dsimp only
  repeat' first
    | with_reducible assumption
    | with_reducible exact Leaves.refl _ _
    | decide
    | with_reducible apply State.applyWaiting_leaves
    | with_reducible apply State.gobRefused_leaves
    | with_reducible apply State.setTile_leaves
    | with_reducible apply Leaves.ite
    | with_reducible refine Leaves.forEach (fun _ _ _ => ?_) ?_
    | with_reducible refine Leaves.forEachFst (fun _ _ _ => ?_) ?_
    | dsimp only

theorem State.sectorUp_leaves {μ : Nat} {s₀ : State} {s : State} (hl : Leaves μ s₀ s) (hμ : 0x11161bf00fe93118751b ||| μ = μ) (c : Nat) (lost : Bool) :
    Leaves μ s₀ (State.sectorUp s c lost) := by
  refine hl.step (k := 0x11161bf00fe93118751b) ?_ hμ
  clear hl hμ
  unfold State.sectorUp
  try dsimp only
  repeat' first
    | with_reducible assumption
    | with_reducible exact Leaves.refl _ _
    | decide
    | with_reducible apply State.evalSector_leaves
    | with_reducible apply State.goOn_leaves
    | with_reducible apply State.gobsProceed_leaves
    | with_reducible apply State.proceed_leaves
    | with_reducible apply State.tryEndWake_leaves
    | with_reducible apply State.wakeStart_leaves
    | with_reducible apply Leaves.ite
    | split
    | dsimp only

theorem State.wakeReload_leaves {μ : Nat} {s₀ : State} {s : State} (hl : Leaves μ s₀ s) (hμ : 0x112619d008c00c10705a ||| μ = μ) (c : Nat) (upset : Option Nat) :
    Leaves μ s₀ (State.wakeReload s c upset) := by
  refine hl.step (k := 0x112619d008c00c10705a) ?_ hμ
  clear hl hμ
  unfold State.wakeReload
  try dsimp only
  repeat' first
    | with_reducible assumption
    | with_reducible exact Leaves.refl _ _
    | decide
    | with_reducible apply State.reloadFailed_leaves
    | with_reducible apply State.reloadSector_leaves
    | (refine Leaves.pair (by assumption) ?_; with_reducible apply State.reloadSector_leaves)
    | split
    | dsimp only

theorem State.wakeSector_leaves {μ : Nat} {s₀ : State} {s : State} (hl : Leaves μ s₀ s) (hμ : 0x11361bf00fe93d18f55b ||| μ = μ) (c : Nat) (upset : Option Nat) :
    Leaves μ s₀ (State.wakeSector s c upset) := by
  refine hl.step (k := 0x11361bf00fe93d18f55b) ?_ hμ
  clear hl hμ
  unfold State.wakeSector
  try dsimp only
  repeat' first
    | with_reducible assumption
    | with_reducible exact Leaves.refl _ _
    | decide
    | with_reducible apply Part.bit (F.SEC_STATUS_PSTATE_part ..)
    | with_reducible apply Leaves.wr
    | with_reducible apply State.raise_leaves
    | with_reducible apply State.sectorUp_leaves
    | with_reducible apply State.setDom_leaves
    | with_reducible apply State.wakeReload_leaves
    | with_reducible apply Leaves.ite
    | dsimp only

theorem execSectorWakeComplete_leaves {s s' : State} (c : Fin 16) (upset : Option (BitVec 31)) (h : execSectorWakeComplete c upset s = .next s') : Leaves 0x11361bf00fe93d18f55b s s' := by
  unfold execSectorWakeComplete at h
  refine act_leaves h ?_
  try dsimp only
  clear h
  repeat' first
    | with_reducible apply State.endClock_leaves
    | with_reducible assumption
    | with_reducible exact Leaves.refl _ _
    | decide
    | with_reducible apply State.wakeSector_leaves
    | with_reducible apply Leaves.ite
    | with_reducible refine Leaves.forEach (fun _ _ _ => ?_) ?_
    | with_reducible refine Leaves.forEachFst (fun _ _ _ => ?_) ?_
    | dsimp only

theorem execWakeHoldExpiry_leaves {s s' : State} (d : Fin 18) (h : execWakeHoldExpiry d s = .next s') : Leaves 0x10041990080000002012 s s' := by
  unfold execWakeHoldExpiry at h
  refine act_leaves h ?_
  try dsimp only
  clear h
  repeat' first
    | with_reducible apply State.endClock_leaves
    | with_reducible assumption
    | with_reducible exact Leaves.refl _ _
    | decide
    | with_reducible apply State.evalSector_leaves
    | with_reducible apply State.setDom_leaves
    | with_reducible apply Leaves.ite
    | dsimp only

theorem execGatewayRequest_leaves {s s' : State} (d : Fin 28) (cls : Fin 4) (head : BitVec 64) (h : execGatewayRequest d cls head s = .next s') : Leaves 0x10041990080000002012 s s' := by
  unfold execGatewayRequest at h
  refine act_leaves h ?_
  try dsimp only
  clear h
  repeat' first
    | with_reducible apply State.endClock_leaves
    | with_reducible assumption
    | with_reducible exact Leaves.refl _ _
    | decide
    | with_reducible apply State.emit_leaves
    | with_reducible apply State.knock_leaves
    | with_reducible apply State.setDom_leaves
    | with_reducible apply Leaves.ite
    | split
    | dsimp only

theorem execHbmSelfRefreshEntry_leaves {s s' : State} (c : Fin 2) (h : execHbmSelfRefreshEntry c s = .next s') : Leaves 0x40000000000000000 s s' := by
  unfold execHbmSelfRefreshEntry at h
  refine act_leaves h ?_
  try dsimp only
  clear h
  repeat' first
    | with_reducible apply State.endClock_leaves
    | with_reducible assumption
    | with_reducible exact Leaves.refl _ _
    | decide
    | with_reducible apply State.setDom_leaves
    | with_reducible apply Leaves.ite
    | dsimp only

theorem execHbmSelfRefreshExit_leaves {s s' : State} (c : Fin 2) (h : execHbmSelfRefreshExit c s = .next s') : Leaves 0x10061b908f000008201b s s' := by
  unfold execHbmSelfRefreshExit at h
  refine act_leaves h ?_
  try dsimp only
  clear h
  repeat' first
    | with_reducible apply State.endClock_leaves
    | with_reducible assumption
    | with_reducible exact Leaves.refl _ _
    | decide
    | with_reducible apply Part.bit (F.HBM_STATUS_SELF_REFRESH_part ..)
    | with_reducible apply Leaves.wr
    | with_reducible apply State.proceed_leaves
    | with_reducible apply State.raise_leaves
    | with_reducible apply State.serveHeld_leaves
    | with_reducible apply State.setDom_leaves
    | with_reducible apply Leaves.ite
    | dsimp only

theorem State.leaveGroup_leaves {μ : Nat} {s₀ : State} {s : State} (hl : Leaves μ s₀ s) (hμ : 0x10001990080000002110 ||| μ = μ)  :
    Leaves μ s₀ (State.leaveGroup s) := by
  refine hl.step (k := 0x10001990080000002110) ?_ hμ
  clear hl hμ
  unfold State.leaveGroup
  try dsimp only
  repeat' first
    | with_reducible assumption
    | with_reducible exact Leaves.refl _ _
    | decide
    | with_reducible apply State.sendLeave_leaves
    | with_reducible apply State.setRole_leaves
    | with_reducible apply State.setTb_leaves
    | with_reducible apply Leaves.ite
    | dsimp only

theorem State.s4Steps_leaves {μ : Nat} {s₀ : State} {s : State} (hl : Leaves μ s₀ s) (hμ : 0x100c1990080000002112 ||| μ = μ)  :
    Leaves μ s₀ (State.s4Steps s) := by
  refine hl.step (k := 0x100c1990080000002112) ?_ hμ
  clear hl hμ
  unfold State.s4Steps
  try dsimp only
  repeat' first
    | with_reducible assumption
    | with_reducible exact Leaves.refl _ _
    | decide
    | with_reducible apply State.captureSave_leaves
    | with_reducible apply State.leaveGroup_leaves
    | with_reducible apply Leaves.upd_pwr
    | dsimp only

theorem State.askS4_leaves {μ : Nat} {s₀ : State} {s : State} (hl : Leaves μ s₀ s) (hμ : 0x100d9990080000002912 ||| μ = μ)  :
    Leaves μ s₀ (State.askS4 s) := by
  refine hl.step (k := 0x100d9990080000002912) ?_ hμ
  clear hl hμ
  unfold State.askS4
  try dsimp only
  repeat' first
    | with_reducible assumption
    | with_reducible exact Leaves.refl _ _
    | decide
    | with_reducible apply Part.bit (F.PWR_CTRL_S4_REQ_part ..)
    | with_reducible apply Part.bit (F.PWR_STAT_S4_RESULT_part ..)
    | with_reducible apply Leaves.wr
    | with_reducible apply State.endStore_leaves
    | with_reducible apply State.s4Steps_leaves
    | with_reducible apply Leaves.upd_pwr
    | with_reducible apply Leaves.ite
    | dsimp only

theorem State.abandonS4_leaves {μ : Nat} {s₀ : State} {s : State} (hl : Leaves μ s₀ s) (hμ : 0x10041990080000002012 ||| μ = μ)  :
    Leaves μ s₀ (State.abandonS4 s) := by
  refine hl.step (k := 0x10041990080000002012) ?_ hμ
  clear hl hμ
  unfold State.abandonS4
  try dsimp only
  repeat' first
    | with_reducible assumption
    | with_reducible exact Leaves.refl _ _
    | decide
    | with_reducible apply Part.bit (F.PWR_CTRL_S4_REQ_part ..)
    | with_reducible apply Part.bit (F.PWR_STAT_S4_RESULT_part ..)
    | with_reducible apply Part.bit (F.PWR_STAT_S4_ABORT_part ..)
    | with_reducible apply Leaves.wr
    | with_reducible apply State.askJoin_leaves
    | with_reducible apply State.raise_leaves
    | with_reducible apply Leaves.upd_pwr
    | with_reducible apply Leaves.ite
    | dsimp only

theorem State.fireWake_leaves {μ : Nat} {s₀ : State} {s : State} (hl : Leaves μ s₀ s) (hμ : 0x100c1990080000002012 ||| μ = μ) (b : Nat) :
    Leaves μ s₀ (State.fireWake s b) := by
  refine hl.step (k := 0x100c1990080000002012) ?_ hμ
  clear hl hμ
  unfold State.fireWake
  try dsimp only
  repeat' first
    | with_reducible assumption
    | with_reducible exact Leaves.refl _ _
    | decide
    | with_reducible apply Part.bit (F.PWR_WAKE_SRC_SRC_part ..)
    | with_reducible apply Leaves.wr
    | with_reducible apply State.abandonS4_leaves
    | with_reducible apply Leaves.upd_lehr
    | with_reducible apply Leaves.ite
    | dsimp only

theorem execWakeN_leaves {s s' : State}  (h : execWakeN s = .next s') : Leaves 0x100c1990080000002012 s s' := by
  unfold execWakeN at h
  refine actLehr_leaves h ?_
  try dsimp only
  clear h
  repeat' first
    | with_reducible apply State.endClock_leaves
    | with_reducible assumption
    | with_reducible exact Leaves.refl _ _
    | decide
    | with_reducible apply State.fireWake_leaves
    | dsimp only

theorem execEncWake_leaves {s s' : State}  (h : execEncWake s = .next s') : Leaves 0x100c1990080000002012 s s' := by
  unfold execEncWake at h
  refine actLehr_leaves h ?_
  try dsimp only
  clear h
  repeat' first
    | with_reducible apply State.endClock_leaves
    | with_reducible assumption
    | with_reducible exact Leaves.refl _ _
    | decide
    | with_reducible apply State.fireWake_leaves
    | with_reducible apply Leaves.ite
    | dsimp only

theorem execPerstWake_leaves {s s' : State}  (h : execPerstWake s = .next s') : Leaves 0x100c1990080000002012 s s' := by
  unfold execPerstWake at h
  refine actLehr_leaves h ?_
  try dsimp only
  clear h
  repeat' first
    | with_reducible apply State.endClock_leaves
    | with_reducible assumption
    | with_reducible exact Leaves.refl _ _
    | decide
    | with_reducible apply State.fireWake_leaves
    | dsimp only

theorem execTimerWake_leaves {s s' : State}  (h : execTimerWake s = .next s') : Leaves 0x100c1990080000002012 s s' := by
  unfold execTimerWake at h
  refine actLehr_leaves h ?_
  try dsimp only
  clear h
  repeat' first
    | with_reducible apply State.endClock_leaves
    | with_reducible assumption
    | with_reducible exact Leaves.refl _ _
    | decide
    | with_reducible apply State.fireWake_leaves
    | with_reducible apply Leaves.ite
    | dsimp only

theorem State.setXtal_leaves {μ : Nat} {s₀ : State} {s : State} (hl : Leaves μ s₀ s) (hμ : 0x10001990080000002012 ||| μ = μ) (b : Bool) :
    Leaves μ s₀ (State.setXtal s b) := by
  refine hl.step (k := 0x10001990080000002012) ?_ hμ
  clear hl hμ
  unfold State.setXtal
  try dsimp only
  repeat' first
    | with_reducible assumption
    | with_reducible exact Leaves.refl _ _
    | decide
    | with_reducible apply Part.bit (F.PWR_STAT_XTAL_OK_part ..)
    | with_reducible apply Part.bit (F.PWR_STAT_ON_XTAL_part ..)
    | with_reducible apply Leaves.wr
    | with_reducible apply State.raise_leaves
    | with_reducible apply Leaves.ite
    | dsimp only

theorem execXtalGood_leaves {s s' : State}  (h : execXtalGood s = .next s') : Leaves 0x10001990080000002012 s s' := by
  unfold execXtalGood at h
  refine actLehr_leaves h ?_
  try dsimp only
  clear h
  repeat' first
    | with_reducible apply State.endClock_leaves
    | with_reducible assumption
    | with_reducible exact Leaves.refl _ _
    | decide
    | with_reducible apply State.setXtal_leaves
    | with_reducible apply Leaves.ite
    | dsimp only

theorem execXtalLoss_leaves {s s' : State}  (h : execXtalLoss s = .next s') : Leaves 0x10001990080000002012 s s' := by
  unfold execXtalLoss at h
  refine actLehr_leaves h ?_
  try dsimp only
  clear h
  repeat' first
    | with_reducible apply State.endClock_leaves
    | with_reducible assumption
    | with_reducible exact Leaves.refl _ _
    | decide
    | with_reducible apply State.setXtal_leaves
    | with_reducible apply Leaves.ite
    | dsimp only

theorem State.saveOfs_leaves {μ : Nat} {s₀ : State} {s : State} (hl : Leaves μ s₀ s) (hμ : 0x80000000000000002 ||| μ = μ) (v : Nat) :
    Leaves μ s₀ (State.saveOfs s v) := by
  refine hl.step (k := 0x80000000000000002) ?_ hμ
  clear hl hμ
  unfold State.saveOfs
  try dsimp only
  repeat' first
    | with_reducible assumption
    | with_reducible exact Leaves.refl _ _
    | decide
    | with_reducible apply Part.bit (F.PWR_SAVE_IDX_IDX_part ..)
    | with_reducible apply Leaves.wr
    | with_reducible apply Leaves.upd_lehr
    | dsimp only

theorem State.applyPll_leaves {μ : Nat} {s₀ : State} {s : State} (hl : Leaves μ s₀ s) (hμ : 0x10041990080000002014 ||| μ = μ)  :
    Leaves μ s₀ (State.applyPll s) := by
  refine hl.step (k := 0x10041990080000002014) ?_ hμ
  clear hl hμ
  unfold State.applyPll
  try dsimp only
  repeat' first
    | with_reducible assumption
    | with_reducible exact Leaves.refl _ _
    | decide
    | with_reducible apply Part.bit (F.CLK_STAT_LOCKED_part ..)
    | with_reducible apply Part.bit (F.CLK_STAT_CFG_ERR_part ..)
    | with_reducible apply Part.bit (F.CLK_PLL_CFG_APPLY_part ..)
    | with_reducible apply Leaves.wr
    | with_reducible apply State.raise_leaves
    | with_reducible apply Leaves.upd_pwr
    | with_reducible apply Leaves.ite
    | dsimp only

theorem State.pll5Locked_leaves {μ : Nat} {s₀ : State} {s : State} (hl : Leaves μ s₀ s) (hμ : 0x40020000000000004 ||| μ = μ)  :
    Leaves μ s₀ (State.pll5Locked s) := by
  refine hl.step (k := 0x40020000000000004) ?_ hμ
  clear hl hμ
  unfold State.pll5Locked
  try dsimp only
  repeat' first
    | with_reducible assumption
    | with_reducible exact Leaves.refl _ _
    | decide
    | with_reducible apply Part.bit (F.CLK_PLL_CFG_APPLY_part ..)
    | with_reducible apply Leaves.wr
    | with_reducible apply Leaves.upd_fab
    | with_reducible apply Leaves.upd_pwr
    | with_reducible apply Leaves.ite
    | dsimp only

theorem execPllLock_leaves {s s' : State} (k : Fin 8) (h : execPllLock k s = .next s') : Leaves 0x110419f00860c1107016 s s' := by
  unfold execPllLock at h
  refine act_leaves h ?_
  try dsimp only
  clear h
  repeat' first
    | with_reducible apply State.endClock_leaves
    | with_reducible assumption
    | with_reducible exact Leaves.refl _ _
    | decide
    | with_reducible apply Part.bit (F.CLK_STAT_LOCKED_part ..)
    | with_reducible apply Leaves.wr
    | with_reducible apply State.pll5Locked_leaves
    | with_reducible apply State.raise_leaves
    | with_reducible apply State.restartClock_leaves
    | with_reducible apply Leaves.ite
    | split
    | dsimp only

theorem State.stepPllFault_leaves {μ : Nat} {s₀ : State} {s : State} (hl : Leaves μ s₀ s) (hμ : 0x110619d008c00010701a ||| μ = μ)  :
    Leaves μ s₀ (State.stepPllFault s) := by
  refine hl.step (k := 0x110619d008c00010701a) ?_ hμ
  clear hl hμ
  unfold State.stepPllFault
  try dsimp only
  repeat' first
    | with_reducible assumption
    | with_reducible exact Leaves.refl _ _
    | decide
    | with_reducible apply State.fault2_leaves
    | with_reducible apply State.report_leaves
    | with_reducible apply Leaves.ite
    | with_reducible refine Leaves.forEach (fun _ _ _ => ?_) ?_
    | with_reducible refine Leaves.forEachFst (fun _ _ _ => ?_) ?_
    | dsimp only

theorem State.pllFault_leaves {μ : Nat} {s₀ : State} {s : State} (hl : Leaves μ s₀ s) (hμ : 0x110e39d008c00010701b ||| μ = μ) (k : Nat) :
    Leaves μ s₀ (State.pllFault s k) := by
  refine hl.step (k := 0x110e39d008c00010701b) ?_ hμ
  clear hl hμ
  unfold State.pllFault
  try dsimp only
  repeat' first
    | with_reducible assumption
    | with_reducible exact Leaves.refl _ _
    | decide
    | with_reducible apply State.fault1_leaves
    | with_reducible apply State.report_leaves
    | with_reducible apply State.stepPllFault_leaves
    | with_reducible apply Leaves.ite
    | dsimp only

theorem State.pllSlips_leaves {μ : Nat} {s₀ : State} {s : State} (hl : Leaves μ s₀ s) (hμ : 0x8040000000000000000 ||| μ = μ) (k : Nat) :
    Leaves μ s₀ (State.pllSlips s k) := by
  refine hl.step (k := 0x8040000000000000000) ?_ hμ
  clear hl hμ
  unfold State.pllSlips
  try dsimp only
  repeat' first
    | with_reducible assumption
    | with_reducible exact Leaves.refl _ _
    | decide
    | with_reducible apply State.drawn_leaves
    | with_reducible apply Leaves.upd_pwr
    | with_reducible apply Leaves.ite
    | dsimp only

theorem execPllUnlock_leaves {s s' : State} (k : Fin 8) (h : execPllUnlock k s = .next s') : Leaves 0x190e39d008c00010701f s s' := by
  unfold execPllUnlock at h
  refine act_leaves h ?_
  try dsimp only
  clear h
  repeat' first
    | with_reducible apply State.endClock_leaves
    | with_reducible assumption
    | with_reducible exact Leaves.refl _ _
    | decide
    | with_reducible apply Part.bit (F.CLK_STAT_LOCKED_part ..)
    | with_reducible apply Part.bit (F.CLK_STAT_UNLOCK_part ..)
    | with_reducible apply Part.bit (F.CLK_UNLOCK_CNT_COUNT_part ..)
    | with_reducible apply Leaves.wr
    | with_reducible apply Leaves.bump
    | with_reducible apply State.pllFault_leaves
    | with_reducible apply State.pllSlips_leaves
    | with_reducible apply State.raise_leaves
    | with_reducible apply Leaves.ite
    | dsimp only

end Sys2Proof.Machine
end

