-- ==== Sys2Proof/Laws/Start.lean ====
section
/-!
SUPPORT. What each operation of Machine/Start.lean leaves alone.
-/

set_option linter.all false

namespace Sys2Proof.Machine

theorem State.programOtp_grows (s : State) (st k : Nat) : s.otp.grows (s.programOtp st k) := by
  have key : ∀ (l : List Nat) (a : Nat) (i : Nat), a.testBit i = true →
      (l.foldl (fun a i => a ||| 2 ^ i) a).testBit i = true := by
    intro l
    induction l with
    | nil => exact fun _ _ h => h
    | cons x l ih => exact fun a i h => ih _ i (by rw [Nat.testBit_or, h, Bool.true_or])
  refine ⟨fun i h => key _ _ i h, fun h => ?_⟩
  unfold State.programOtp
  dsimp only
  split <;> exact h

theorem canon_reset : Canon State.reset := by constructor <;> decide

theorem State.showLc_leaves {μ : Nat} {s₀ : State} {s : State} (hl : Leaves μ s₀ s) (hμ : 0x20 ||| μ = μ)  :
    Leaves μ s₀ (State.showLc s) := by
  refine hl.step (k := 0x20) ?_ hμ
  clear hl hμ
  unfold State.showLc
  try dsimp only
  repeat' first
    | with_reducible assumption
    | with_reducible exact Leaves.refl _ _
    | decide
    | with_reducible apply Part.bit (F.LCS_STATE_part ..)
    | with_reducible apply Part.bit (F.LCS_STAT_LOCKOUT_part ..)
    | with_reducible apply Part.bit (F.LCS_DBG_SCOPE_SCOPES_part ..)
    | (intro i hi; simp only [MbxCmd.entry, FaultRec.logWords, wordsOf, List.length_cons, List.length_nil, List.length_map, upTo, List.length_range] at hi; exact Part.bit (regPart_lcsRegs (by omega) (by omega)) (by decide))
    | with_reducible apply Leaves.wr
    | with_reducible apply Leaves.setWords
    | with_reducible apply Leaves.ite
    | dsimp only

theorem State.destroyAll_leaves {μ : Nat} {s₀ : State} {s : State} (hl : Leaves μ s₀ s) (hμ : 0x482000070000000000 ||| μ = μ) :
    Leaves μ s₀ (State.destroyAll s) := by
  refine hl.step (k := 0x482000070000000000) ?_ hμ
  clear hl hμ
  have h1 : Leaves 0x482000070000000000 s (if s.cstore.eol < 1 then s.withOtp { s.otp with destroyed := true } else s) :=
    .ite ((Leaves.refl _ _).upd_otp (by decide) ⟨fun _ h => h, fun _ => rfl⟩) (Leaves.refl _ _)
  unfold State.destroyAll
  dsimp only
  generalize (if s.cstore.eol < 1 then s.withOtp { s.otp with destroyed := true } else s) = s1 at h1 ⊢
  have h2 : Leaves 0x482000070000000000 s (if s.cstore.eol < 2 then
      s1.withCstore { s1.cstore with
        data := s1.cstore.data.filter fun e => decide (repairArea.base ≤ e.1) && decide (e.1 < shutArea.base)
        bad := s1.cstore.bad.filter fun e => decide (repairArea.base ≤ 8 * e.1) && decide (8 * e.1 < shutArea.base)
        slots := [], pars := [] }
    else s1) := .ite (h1.upd_cstore (by decide)) h1
  generalize (if s.cstore.eol < 2 then
      s1.withCstore { s1.cstore with
        data := s1.cstore.data.filter fun e => decide (repairArea.base ≤ e.1) && decide (e.1 < shutArea.base)
        bad := s1.cstore.bad.filter fun e => decide (repairArea.base ≤ 8 * e.1) && decide (8 * e.1 < shutArea.base)
        slots := [], pars := [] }
    else s1) = s2 at h2 ⊢
  exact (Leaves.ite ((((h2.upd_lehr (by decide)).upd_hbm (by decide) fun _ => Tab.wf_nil _).upd_hbmBad (by decide)
    fun _ => Tab.wf_nil _).upd_hbmSoft (by decide) fun _ => Tab.wf_nil _) h2).upd_cstore (by decide)

theorem State.makeKey_leaves {μ : Nat} {s₀ : State} {s : State} (hl : Leaves μ s₀ s) (hμ : 0x8400000000000000000 ||| μ = μ)  :
    Leaves μ s₀ (State.makeKey s) := by
  refine hl.step (k := 0x8400000000000000000) ?_ hμ
  clear hl hμ
  unfold State.makeKey
  try dsimp only
  repeat' first
    | with_reducible assumption
    | with_reducible exact Leaves.refl _ _
    | decide
    | with_reducible apply Leaves.upd_free
    | with_reducible apply Leaves.upd_otp
    | exact ⟨fun _ h => h, fun h => h⟩
    | exact State.programOtp_grows _ _ _
    | with_reducible apply Leaves.ite
    | dsimp only

theorem State.cutTransition_leaves {μ : Nat} {s₀ : State} {s : State} (hl : Leaves μ s₀ s) (hμ : 0x8400000000000000000 ||| μ = μ)  :
    Leaves μ s₀ (State.cutTransition s) := by
  refine hl.step (k := 0x8400000000000000000) ?_ hμ
  clear hl hμ
  unfold State.cutTransition
  try dsimp only
  repeat' first
    | with_reducible assumption
    | with_reducible exact Leaves.refl _ _
    | decide
    | with_reducible apply State.drawn_leaves
    | with_reducible apply Leaves.upd_otp
    | exact ⟨fun _ h => h, fun h => h⟩
    | exact State.programOtp_grows _ _ _
    | split
    | dsimp only

theorem State.unpowered_leaves {μ : Nat} {s₀ : State} {s : State} (hl : Leaves μ s₀ s) (hμ : 0x1fffffffffffff7fffff ||| μ = μ) :
    Leaves μ s₀ (State.unpowered s) := by
  refine hl.step (k := 0x1fffffffffffff7fffff) ?_ hμ
  refine ⟨fun p hp => ?_, fun _ => ?_, (State.cutTransition_leaves (Leaves.refl 0x1fffffffffffff7fffff s) (by decide)).otp⟩
  · cases p <;> first | rfl | exact Bool.noConfusion hp
  · have h := canon_reset
    exact ⟨h.regs, h.latch, h.steps, h.routes, h.dm, h.dmBad, h.results, h.stamps, h.gobIn, h.gobOut, h.reqArea, h.retBuf,
      h.farIn, h.hbm, h.hbmBad, h.hbmSoft⟩

theorem State.keepRegs_leaves {μ : Nat} {s₀ : State} {s : State} (hl : Leaves μ s₀ s) (hμ : 0x7fffff ||| μ = μ) (old : State)
    (l : List Nat) : Leaves μ s₀ (State.keepRegs s old l) :=
  Leaves.forEach (fun _ _ h => h.setReg (Mask.bit (regPart_bit _) hμ)) hl

theorem State.lehrKept_leaves {μ : Nat} {s₀ : State} {s : State} (hl : Leaves μ s₀ s) (hμ : 0x1fffffffffffff7fffff ||| μ = μ)  :
    Leaves μ s₀ (State.lehrKept s) := by
  refine hl.step (k := 0x1fffffffffffff7fffff) ?_ hμ
  clear hl hμ
  unfold State.lehrKept
  try dsimp only
  repeat' first
    | with_reducible assumption
    | with_reducible exact Leaves.refl _ _
    | decide
    | (with_reducible apply Part.bit (p := .pwrRegs) <;> first | decide | exact regPart_pwrRegs (by omega) (by omega))
    | with_reducible apply Leaves.setReg
    | with_reducible apply State.keepRegs_leaves
    | with_reducible apply State.unpowered_leaves
    | with_reducible apply Leaves.upd_flt
    | with_reducible apply Leaves.upd_lehr
    | dsimp only

theorem State.abortRunning_leaves {μ : Nat} {s₀ : State} {s : State} {old : State} (hl : Leaves μ s₀ s) (hμ : 0x11001990080000102010 ||| μ = μ)  :
    Leaves μ s₀ (State.abortRunning s old) := by
  refine hl.step (k := 0x11001990080000102010) ?_ hμ
  clear hl hμ
  unfold State.abortRunning
  try dsimp only
  repeat' first
    | with_reducible assumption
    | with_reducible exact Leaves.refl _ _
    | decide
    | with_reducible apply State.complete_leaves
    | with_reducible refine Leaves.forEach (fun _ _ _ => ?_) ?_
    | with_reducible refine Leaves.forEachFst (fun _ _ _ => ?_) ?_
    | dsimp only

theorem State.warmReset_leaves {μ : Nat} {s₀ : State} {s : State} (hl : Leaves μ s₀ s) (hμ : 0x1fffffffffffff7fffff ||| μ = μ) :
    Leaves μ s₀ (State.warmReset s) := by
  refine hl.step (k := 0x1fffffffffffff7fffff) ?_ hμ
  have h1 := State.lehrKept_leaves (Leaves.refl 0x1fffffffffffff7fffff s) (by decide)
  have h2 := ((((((((h1.back_steps (by decide)).back_routes (by decide)).back_hbm (by decide)).back_hbmBad
    (by decide)).back_hbmSoft (by decide)).upd_pcie (x := s.pcie) (by decide)).upd_bar4 (x := s.bar4) (by decide)).upd_jtag (x := s.jtag)
    (by decide)).upd_bst (x := { s.lehrKept.bst with
      patterns := s.bst.patterns, sensorsOut := s.bst.sensorsOut }) (by decide)
  have h3 : Leaves 0x1fffffffffffff7fffff s _ := State.keepRegs_leaves h2 (by decide) s [0xf00000]
  exact State.abortRunning_leaves h3 (by decide)

theorem State.readBoot_leaves {μ : Nat} {s₀ : State} {s : State} (hl : Leaves μ s₀ s) (hμ : 0x1000000000007fffff ||| μ = μ)  :
    Leaves μ s₀ (State.readBoot s) := by
  refine hl.step (k := 0x1000000000007fffff) ?_ hμ
  clear hl hμ
  unfold State.readBoot
  try dsimp only
  repeat' first
    | with_reducible assumption
    | with_reducible exact Leaves.refl _ _
    | decide
    | with_reducible apply Part.bit (F.CFG_IO_PULL_PULL_part ..)
    | with_reducible apply Part.bit (F.CFG_SCRUB_CTRL_EN_part ..)
    | with_reducible apply Part.bit (F.CFG_SCRUB_CTRL_WIN_EN_part ..)
    | with_reducible apply Part.bit (F.CFG_SCRUB_CTRL_AUTO_RELOAD_part ..)
    | with_reducible apply Part.bit (F.SYS_REL_CFG_ORDER_part ..)
    | with_reducible apply Part.bit (F.SYS_REL_CFG_PLL_MASK_part ..)
    | with_reducible apply Part.bit (F.SYS_REL_CFG_PLL_TIMEOUT_part ..)
    | with_reducible apply Part.bit (F.SYS_START_CTRL_AUTO_CONFIRM_part ..)
    | with_reducible apply Part.bit (F.SYS_START_CTRL_CONFIRM_MS_part ..)
    | with_reducible apply Part.bit (F.IRC_CTRL_EN_part ..)
    | (with_reducible apply Part.bit (p := .sysRegs) <;> first | decide | exact regPart_sysRegs (by omega))
    | (with_reducible apply Part.bit (p := .tbRegs) <;> first | decide | exact regPart_tbRegs (by omega) (by omega))
    | with_reducible apply Leaves.wr
    | with_reducible apply Leaves.setReg
    | with_reducible apply State.loadReg_leaves
    | with_reducible apply Leaves.upd_start
    | with_reducible apply Leaves.ite
    | with_reducible refine Leaves.forEach (fun _ _ _ => ?_) ?_
    | with_reducible refine Leaves.forEachFst (fun _ _ _ => ?_) ?_
    | dsimp only

theorem State.beginLoad_leaves {μ : Nat} {s₀ : State} {s : State} (hl : Leaves μ s₀ s) (hμ : 0x1004599008000000305b ||| μ = μ) (l : Load) :
    Leaves μ s₀ (State.beginLoad s l) := by
  refine hl.step (k := 0x1004599008000000305b) ?_ hμ
  clear hl hμ
  unfold State.beginLoad
  try dsimp only
  repeat' first
    | with_reducible assumption
    | with_reducible exact Leaves.refl _ _
    | decide
    | with_reducible apply Part.bit (F.SYS_START_STAT_PHASE_part ..)
    | with_reducible apply Leaves.wr
    | with_reducible apply State.setLdr_leaves
    | with_reducible apply State.setLoading_leaves
    | with_reducible apply State.showBusy_leaves
    | with_reducible apply State.useSectors_leaves
    | with_reducible apply Leaves.ite
    | with_reducible refine Leaves.forEach (fun _ _ _ => ?_) ?_
    | with_reducible refine Leaves.forEachFst (fun _ _ _ => ?_) ?_
    | dsimp only

theorem State.loadSlot_leaves {μ : Nat} {s₀ : State} {s : State} (hl : Leaves μ s₀ s) (hμ : 0x1004599008000000305b ||| μ = μ) (k : Nat) (warm : Bool) :
    Leaves μ s₀ (State.loadSlot s k warm) := by
  refine hl.step (k := 0x1004599008000000305b) ?_ hμ
  clear hl hμ
  unfold State.loadSlot
  try dsimp only
  repeat' first
    | with_reducible assumption
    | with_reducible exact Leaves.refl _ _
    | decide
    | with_reducible apply State.beginLoad_leaves
    | dsimp only

theorem State.loadGolden_leaves {μ : Nat} {s₀ : State} {s : State} (hl : Leaves μ s₀ s) (hμ : 0x1004799008000000305b ||| μ = μ) (cause : Nat) :
    Leaves μ s₀ (State.loadGolden s cause) := by
  refine hl.step (k := 0x1004799008000000305b) ?_ hμ
  clear hl hμ
  unfold State.loadGolden
  try dsimp only
  repeat' first
    | with_reducible assumption
    | with_reducible exact Leaves.refl _ _
    | decide
    | with_reducible apply Part.bit (F.SYS_START_STAT_GOLDEN_START_part ..)
    | with_reducible apply Leaves.wr
    | with_reducible apply State.loadSlot_leaves
    | with_reducible apply State.setAttempt_leaves
    | with_reducible apply State.setLdr_leaves
    | dsimp only

theorem State.waitHost_leaves {μ : Nat} {s₀ : State} {s : State} (hl : Leaves μ s₀ s) (hμ : 0x4000000000000041 ||| μ = μ)  :
    Leaves μ s₀ (State.waitHost s) := by
  refine hl.step (k := 0x4000000000000041) ?_ hμ
  clear hl hμ
  unfold State.waitHost
  try dsimp only
  repeat' first
    | with_reducible assumption
    | with_reducible exact Leaves.refl _ _
    | decide
    | with_reducible apply Part.bit (F.SYS_START_STAT_PHASE_part ..)
    | with_reducible apply Leaves.wr
    | with_reducible apply State.setLdr_leaves
    | with_reducible apply State.showBusy_leaves
    | dsimp only

theorem State.loadByBoot_leaves {μ : Nat} {s₀ : State} {s : State} (hl : Leaves μ s₀ s) (hμ : 0x1004599008000000305b ||| μ = μ)  :
    Leaves μ s₀ (State.loadByBoot s) := by
  refine hl.step (k := 0x1004599008000000305b) ?_ hμ
  clear hl hμ
  unfold State.loadByBoot
  try dsimp only
  repeat' first
    | with_reducible assumption
    | with_reducible exact Leaves.refl _ _
    | decide
    | with_reducible apply State.beginLoad_leaves
    | with_reducible apply State.loadSlot_leaves
    | with_reducible apply State.waitHost_leaves
    | with_reducible apply Leaves.ite
    | dsimp only

theorem State.openMailbox_leaves {μ : Nat} {s₀ : State} {s : State} (hl : Leaves μ s₀ s) (hμ : 0x40000000100000 ||| μ = μ)  :
    Leaves μ s₀ (State.openMailbox s) := by
  refine hl.step (k := 0x40000000100000) ?_ hμ
  clear hl hμ
  unfold State.openMailbox
  try dsimp only
  repeat' first
    | with_reducible assumption
    | with_reducible exact Leaves.refl _ _
    | decide
    | with_reducible apply Part.bit (F.PCI_MBX_STAT_READY_part ..)
    | with_reducible apply Leaves.wr
    | with_reducible apply State.takeQueue_leaves
    | dsimp only

theorem State.idleNow_leaves {μ : Nat} {s₀ : State} {s : State} (hl : Leaves μ s₀ s) (hμ : 0x1004199008c000007012 ||| μ = μ) (n cause : Nat) :
    Leaves μ s₀ (State.idleNow s n cause) := by
  refine hl.step (k := 0x1004199008c000007012) ?_ hμ
  clear hl hμ
  unfold State.idleNow
  try dsimp only
  repeat' first
    | with_reducible assumption
    | with_reducible exact Leaves.refl _ _
    | decide
    | with_reducible apply State.halted_leaves
    | with_reducible apply Leaves.ite
    | dsimp only

theorem State.offPart_leaves {μ : Nat} {s₀ : State} {s : State} (hl : Leaves μ s₀ s) (hμ : 0x21000000000040 ||| μ = μ) (k : Nat) :
    Leaves μ s₀ (State.offPart s k) := by
  refine hl.step (k := 0x21000000000040) ?_ hμ
  clear hl hμ
  unfold State.offPart
  try dsimp only
  repeat' first
    | with_reducible assumption
    | with_reducible exact Leaves.refl _ _
    | decide
    | with_reducible apply State.dropStrobes_leaves
    | with_reducible apply State.holdPart_leaves
    | with_reducible apply State.setIsolated_leaves
    | with_reducible apply State.setReleased_leaves
    | dsimp only

theorem State.pixelsOff_leaves {μ : Nat} {s₀ : State} {s : State} (hl : Leaves μ s₀ s) (hμ : 0x400000060000 ||| μ = μ)  :
    Leaves μ s₀ (State.pixelsOff s) := by
  refine hl.step (k := 0x400000060000) ?_ hμ
  clear hl hμ
  unfold State.pixelsOff
  try dsimp only
  repeat' first
    | with_reducible assumption
    | with_reducible exact Leaves.refl _ _
    | decide
    | with_reducible apply Part.bit (F.GTH_CTRL_EN_part ..)
    | with_reducible apply Part.bit (F.GTH_CTRL_TRAIN_part ..)
    | with_reducible apply Part.bit (F.GTH_STATUS_TRAIN_BUSY_part ..)
    | with_reducible apply Part.bit (F.GTH_LANE_LOCK_LOCK_part ..)
    | with_reducible apply Part.bit (F.MRV_CTRL_EN_part ..)
    | with_reducible apply Part.bit (F.MRV_STATUS_ACTIVE_part ..)
    | with_reducible apply Leaves.wr
    | with_reducible apply State.setMu_leaves
    | with_reducible refine Leaves.forEach (fun _ _ _ => ?_) ?_
    | with_reducible refine Leaves.forEachFst (fun _ _ _ => ?_) ?_
    | dsimp only

theorem State.portsOff_leaves {μ : Nat} {s₀ : State} {s : State} (hl : Leaves μ s₀ s) (hμ : 0x10011990080000212910 ||| μ = μ)  :
    Leaves μ s₀ (State.portsOff s) := by
  refine hl.step (k := 0x10011990080000212910) ?_ hμ
  clear hl hμ
  unfold State.portsOff
  try dsimp only
  repeat' first
    | with_reducible assumption
    | with_reducible exact Leaves.refl _ _
    | decide
    | with_reducible apply Part.bit (F.ETH_CTRL_EN_part ..)
    | with_reducible apply Part.bit (F.ETH_STAT_LINK_part ..)
    | with_reducible apply Part.bit (F.IRC_CTRL_EN_part ..)
    | with_reducible apply Part.bit (F.IRC_STATUS_STATE_part ..)
    | with_reducible apply Part.bit (F.STO_CTRL_EN_part ..)
    | with_reducible apply Leaves.wr
    | with_reducible apply State.setCommits_leaves
    | with_reducible apply State.setRole_leaves
    | with_reducible apply State.setTb_leaves
    | with_reducible apply State.unmount_leaves
    | with_reducible refine Leaves.forEach (fun _ _ _ => ?_) ?_
    | with_reducible refine Leaves.forEachFst (fun _ _ _ => ?_) ?_
    | dsimp only

theorem State.enterSafe_leaves {μ : Nat} {s₀ : State} {s : State} (hl : Leaves μ s₀ s) (hμ : 0x130559f148c00037795b ||| μ = μ)  :
    Leaves μ s₀ (State.enterSafe s) := by
  refine hl.step (k := 0x130559f148c00037795b) ?_ hμ
  clear hl hμ
  unfold State.enterSafe
  try dsimp only
  repeat' first
    | with_reducible assumption
    | with_reducible exact Leaves.refl _ _
    | decide
    | with_reducible apply Part.bit (F.FLT_STAT_FENCED_part ..)
    | with_reducible apply Part.bit (F.PCI_MBX_STAT_READY_part ..)
    | with_reducible apply Part.bit (F.SYS_START_STAT_PHASE_part ..)
    | with_reducible apply Leaves.wr
    | with_reducible apply State.idleNow_leaves
    | with_reducible apply State.offPart_leaves
    | with_reducible apply State.pixelsOff_leaves
    | with_reducible apply State.portsOff_leaves
    | with_reducible apply State.raise_leaves
    | with_reducible apply State.serveDm_leaves
    | with_reducible apply State.setLdr_leaves
    | with_reducible apply State.showBusy_leaves
    | with_reducible apply State.useSectors_leaves
    | with_reducible apply Leaves.upd_fab
    | with_reducible apply Leaves.upd_mbx
    | with_reducible refine Leaves.forEach (fun _ _ _ => ?_) ?_
    | with_reducible refine Leaves.forEachFst (fun _ _ _ => ?_) ?_
    | dsimp only

theorem State.markF0_leaves {μ : Nat} {s₀ : State} {s : State} (hl : Leaves μ s₀ s) (hμ : 0x10021990080000002018 ||| μ = μ) (r : FaultRec) :
    Leaves μ s₀ (State.markF0 s r) := by
  refine hl.step (k := 0x10021990080000002018) ?_ hμ
  clear hl hμ
  unfold State.markF0
  try dsimp only
  repeat' first
    | with_reducible assumption
    | with_reducible exact Leaves.refl _ _
    | decide
    | with_reducible apply Part.bit (F.FLT_STAT_F0_part ..)
    | with_reducible apply Leaves.wr
    | with_reducible apply State.recordFault_leaves
    | dsimp only

theorem State.safeStart_leaves {μ : Nat} {s₀ : State} {s : State} (hl : Leaves μ s₀ s) (hμ : 0x130779f148c00037795b ||| μ = μ) (cause : Nat) :
    Leaves μ s₀ (State.safeStart s cause) := by
  refine hl.step (k := 0x130779f148c00037795b) ?_ hμ
  clear hl hμ
  unfold State.safeStart
  try dsimp only
  repeat' first
    | with_reducible assumption
    | with_reducible exact Leaves.refl _ _
    | decide
    | with_reducible apply State.enterSafe_leaves
    | with_reducible apply State.markF0_leaves
    | with_reducible apply State.setAttempt_leaves
    | dsimp only

theorem State.chooseImage_leaves {μ : Nat} {s₀ : State} {s : State} (hl : Leaves μ s₀ s) (hμ : 0x130779f148c00037795b ||| μ = μ) (usual : State → State) (husual : ∀  u, Leaves μ s₀ u → Leaves μ s₀ (usual  u)) :
    Leaves μ s₀ (State.chooseImage s usual) := by
  unfold State.chooseImage
  try dsimp only
  repeat' first
    | with_reducible apply husual
    | with_reducible exact Mask.trans (by decide) hμ
    | with_reducible exact Mask.bit (by decide) hμ
    | with_reducible assumption
    | with_reducible exact Leaves.refl _ _
    | decide
    | with_reducible apply Part.bit (F.SYS_START_STAT_ATTEMPTS_part ..)
    | with_reducible apply Part.bit (F.SYS_START_STAT_CAUSE_part ..)
    | with_reducible apply Leaves.wr
    | with_reducible apply State.loadGolden_leaves
    | with_reducible apply State.openMailbox_leaves
    | with_reducible apply State.safeStart_leaves
    | with_reducible apply State.setAttempt_leaves
    | with_reducible apply Leaves.ite
    | dsimp only

theorem State.startCore_leaves {μ : Nat} {s₀ : State} {s : State} (hl : Leaves μ s₀ s) (hμ : 0x185c20000700007fffff ||| μ = μ)  :
    Leaves μ s₀ (State.startCore s) := by
  refine hl.step (k := 0x185c20000700007fffff) ?_ hμ
  clear hl hμ
  unfold State.startCore
  try dsimp only
  repeat' first
    | with_reducible assumption
    | with_reducible exact Leaves.refl _ _
    | decide
    | with_reducible apply Part.bit (F.TB_CTRL_ENC_EN_part ..)
    | with_reducible apply Part.bit (F.SYS_START_STAT_PHASE_part ..)
    | with_reducible apply Leaves.wr
    | with_reducible apply State.applyMaps_leaves
    | with_reducible apply State.commandMv_leaves
    | with_reducible apply State.destroyAll_leaves
    | with_reducible apply State.makeKey_leaves
    | with_reducible apply State.pmbus_leaves
    | with_reducible apply State.readBoot_leaves
    | with_reducible apply State.readMaps_leaves
    | with_reducible apply State.showLc_leaves
    | with_reducible apply State.showStore_leaves
    | with_reducible apply Leaves.ite
    | dsimp only

theorem State.coldTest_leaves {μ : Nat} {s₀ : State} {s : State} (hl : Leaves μ s₀ s) (hμ : 0x102079b0081f3c00f091 ||| μ = μ) (found : List Found) :
    Leaves μ s₀ (State.coldTest s found) := by
  refine hl.step (k := 0x102079b0081f3c00f091) ?_ hμ
  clear hl hμ
  unfold State.coldTest
  try dsimp only
  repeat' first
    | with_reducible assumption
    | with_reducible exact Leaves.refl _ _
    | decide
    | with_reducible apply Part.bit (F.SYS_START_STAT_BIST_SKIPPED_part ..)
    | with_reducible apply Part.bit (F.SYS_START_STAT_KIND_part ..)
    | with_reducible apply Leaves.wr
    | with_reducible apply State.patternAll_leaves
    | with_reducible apply State.setLdr_leaves
    | with_reducible apply State.setShutRec_leaves
    | with_reducible apply State.takeTest_leaves
    | with_reducible apply Leaves.ite
    | split
    | dsimp only

theorem execColdStart_leaves {s s' : State} (found : List Found) (h : execColdStart found s = .next s') : Leaves 0x1fffffffffffff7fffff s s' := by
  unfold execColdStart at h
  obtain rfl := answer_next h
  clear h
  try dsimp only
  repeat' first
    | with_reducible apply State.endClock_leaves
    | with_reducible assumption
    | with_reducible exact Leaves.refl _ _
    | decide
    | with_reducible apply Part.bit (F.SYS_START_STAT_PHASE_part ..)
    | with_reducible apply Leaves.wr
    | with_reducible apply State.chooseImage_leaves
    | intro _
    | with_reducible apply State.coldTest_leaves
    | with_reducible apply State.endClock_leaves
    | with_reducible apply State.loadByBoot_leaves
    | with_reducible apply State.startCore_leaves
    | with_reducible apply State.unpowered_leaves
    | dsimp only

theorem execPowerLoss_leaves {s s' : State}  (h : execPowerLoss s = .next s') : Leaves 0x1fffffffffffff7fffff s s' := by
  unfold execPowerLoss at h
  obtain rfl := answer_next h
  clear h
  try dsimp only
  repeat' first
    | with_reducible apply State.endClock_leaves
    | with_reducible assumption
    | with_reducible exact Leaves.refl _ _
    | decide
    | with_reducible apply State.endClock_leaves
    | with_reducible apply State.unpowered_leaves
    | with_reducible apply Leaves.upd_nand
    | with_reducible apply Leaves.upd_spineOn
    | with_reducible apply Leaves.ite
    | dsimp only

theorem State.verifyAssigned_leaves {μ : Nat} {s₀ : State} {s : State} (hl : Leaves μ s₀ s) (hμ : 0x8000 ||| μ = μ)  :
    Leaves μ s₀ (State.verifyAssigned s) := by
  refine hl.step (k := 0x8000) ?_ hμ
  clear hl hμ
  unfold State.verifyAssigned
  try dsimp only
  repeat' first
    | with_reducible assumption
    | with_reducible exact Leaves.refl _ _
    | decide
    | with_reducible apply Part.bit (F.SEC_STATUS_VERIFY_BUSY_part ..)
    | with_reducible apply Leaves.wr
    | with_reducible refine Leaves.forEach (fun _ _ _ => ?_) ?_
    | with_reducible refine Leaves.forEachFst (fun _ _ _ => ?_) ?_
    | dsimp only

theorem State.readRegs_leaves {μ : Nat} {s₀ : State} {s : State} (hl : Leaves μ s₀ s) (hμ : 0x2400000c7fffff ||| μ = μ) (k : Nat) :
    Leaves μ s₀ (State.readRegs s k) := by
  refine hl.step (k := 0x2400000c7fffff) ?_ hμ
  clear hl hμ
  unfold State.readRegs
  try dsimp only
  repeat' first
    | with_reducible assumption
    | with_reducible exact Leaves.refl _ _
    | decide
    | with_reducible apply State.loadImage_leaves
    | split
    | dsimp only

theorem State.loadWarm_leaves {μ : Nat} {s₀ : State} {s : State} (hl : Leaves μ s₀ s) (hμ : 0x100459b408000c7fffff ||| μ = μ)  :
    Leaves μ s₀ (State.loadWarm s) := by
  refine hl.step (k := 0x100459b408000c7fffff) ?_ hμ
  clear hl hμ
  unfold State.loadWarm
  try dsimp only
  repeat' first
    | with_reducible assumption
    | with_reducible exact Leaves.refl _ _
    | decide
    | with_reducible apply Part.bit (F.CFG_STAT_SOURCE_part ..)
    | with_reducible apply Part.bit (F.CFG_STAT_SLOT_part ..)
    | with_reducible apply Leaves.wr
    | with_reducible apply State.evalVotes_leaves
    | with_reducible apply State.loadByBoot_leaves
    | with_reducible apply State.loadSlot_leaves
    | with_reducible apply State.readRegs_leaves
    | with_reducible apply State.verifyAssigned_leaves
    | with_reducible apply Leaves.ite
    | with_reducible apply Leaves.iteFst
    | dsimp only

theorem State.goWarm_leaves {μ : Nat} {s₀ : State} {s : State} (hl : Leaves μ s₀ s) (hμ : 0x1b5f79f54fc00c7fffff ||| μ = μ)  :
    Leaves μ s₀ (State.goWarm s) := by
  refine hl.step (k := 0x1b5f79f54fc00c7fffff) ?_ hμ
  clear hl hμ
  unfold State.goWarm
  try dsimp only
  repeat' first
    | with_reducible assumption
    | with_reducible exact Leaves.refl _ _
    | decide
    | with_reducible apply Part.bit (F.SYS_START_STAT_KIND_part ..)
    | with_reducible apply Part.bit (F.SYS_START_STAT_BIST_SKIPPED_part ..)
    | with_reducible apply Leaves.wr
    | with_reducible apply State.chooseImage_leaves
    | intro _
    | with_reducible apply State.loadWarm_leaves
    | with_reducible apply State.setLdr_leaves
    | with_reducible apply State.startCore_leaves
    | with_reducible apply Leaves.upd_start
    | dsimp only

theorem execWarmStart_leaves {s s' : State}  (h : execWarmStart s = .next s') : Leaves 0x1fffffffffffff7fffff s s' := by
  unfold execWarmStart at h
  obtain rfl := answer_next h
  clear h
  try dsimp only
  repeat' first
    | with_reducible apply State.endClock_leaves
    | with_reducible assumption
    | with_reducible exact Leaves.refl _ _
    | decide
    | with_reducible apply State.captureSave_leaves
    | with_reducible apply State.endClock_leaves
    | with_reducible apply State.goWarm_leaves
    | with_reducible apply State.warmReset_leaves
    | with_reducible apply Leaves.ite
    | dsimp only

theorem execF1ResetAssert_leaves {s s' : State}  (h : execF1ResetAssert s = .next s') : Leaves 0x1fffffffffffff7fffff s s' := by
  unfold execF1ResetAssert at h
  refine act_leaves h ?_
  try dsimp only
  clear h
  repeat' first
    | with_reducible apply State.endClock_leaves
    | with_reducible assumption
    | with_reducible exact Leaves.refl _ _
    | decide
    | with_reducible apply Part.bit (F.FLT_STAT_PIN_LEVEL_part ..)
    | with_reducible apply Leaves.wr
    | with_reducible apply State.captureSave_leaves
    | with_reducible apply State.warmReset_leaves
    | with_reducible apply Leaves.upd_start
    | with_reducible apply Leaves.ite
    | dsimp only

theorem State.startFails_leaves {μ : Nat} {s₀ : State} {s : State} (hl : Leaves μ s₀ s) (hμ : 0x130779f148c00037795b ||| μ = μ) (cause : Nat) :
    Leaves μ s₀ (State.startFails s cause) := by
  refine hl.step (k := 0x130779f148c00037795b) ?_ hμ
  clear hl hμ
  unfold State.startFails
  try dsimp only
  repeat' first
    | with_reducible assumption
    | with_reducible exact Leaves.refl _ _
    | decide
    | with_reducible apply Part.bit (F.CFG_STAT_GOLDEN_part ..)
    | with_reducible apply Leaves.wr
    | with_reducible apply State.loadGolden_leaves
    | with_reducible apply State.raise_leaves
    | with_reducible apply State.safeStart_leaves
    | with_reducible apply Leaves.ite
    | dsimp only

theorem State.endLoadCmd_leaves {μ : Nat} {s₀ : State} {s : State} (hl : Leaves μ s₀ s) (hμ : 0x110019d0080000102010 ||| μ = μ) (status result : Nat) :
    Leaves μ s₀ (State.endLoadCmd s status result) := by
  refine hl.step (k := 0x110019d0080000102010) ?_ hμ
  clear hl hμ
  unfold State.endLoadCmd
  try dsimp only
  repeat' first
    | with_reducible assumption
    | with_reducible exact Leaves.refl _ _
    | decide
    | with_reducible apply State.endLong_leaves
    | with_reducible apply Leaves.ite
    | dsimp only

theorem State.loadsFail_leaves {μ : Nat} {s₀ : State} {s : State} (hl : Leaves μ s₀ s) (hμ : 0x1004199008c000007012 ||| μ = μ)  :
    Leaves μ s₀ (State.loadsFail s) := by
  refine hl.step (k := 0x1004199008c000007012) ?_ hμ
  clear hl hμ
  unfold State.loadsFail
  try dsimp only
  repeat' first
    | with_reducible assumption
    | with_reducible exact Leaves.refl _ _
    | decide
    | with_reducible apply State.halted_leaves
    | with_reducible apply Leaves.ite
    | with_reducible refine Leaves.forEach (fun _ _ _ => ?_) ?_
    | with_reducible refine Leaves.forEachFst (fun _ _ _ => ?_) ?_
    | dsimp only

theorem State.failLoad_leaves {μ : Nat} {s₀ : State} {s : State} (hl : Leaves μ s₀ s) (hμ : 0x130779f148c00037795b ||| μ = μ) (l : Load) (f : ImgFail) :
    Leaves μ s₀ (State.failLoad s l f) := by
  refine hl.step (k := 0x130779f148c00037795b) ?_ hμ
  clear hl hμ
  unfold State.failLoad
  try dsimp only
  repeat' first
    | with_reducible assumption
    | with_reducible exact Leaves.refl _ _
    | decide
    | with_reducible apply State.endLoadCmd_leaves
    | with_reducible apply State.loadErr_leaves
    | with_reducible apply State.loadsFail_leaves
    | with_reducible apply State.raise_leaves
    | with_reducible apply State.setLdr_leaves
    | with_reducible apply State.showBusy_leaves
    | with_reducible apply State.startFails_leaves
    | with_reducible apply State.useSectors_leaves
    | with_reducible apply Leaves.ite
    | dsimp only

theorem execLoadImage_leaves {s s' : State}  (h : execLoadImage s = .next s') : Leaves 0x110459d008000010305b s s' := by
  unfold execLoadImage at h
  refine act_leaves h ?_
  try dsimp only
  clear h
  repeat' first
    | with_reducible apply State.endClock_leaves
    | with_reducible assumption
    | with_reducible exact Leaves.refl _ _
    | decide
    | with_reducible apply State.beginLoad_leaves
    | with_reducible apply State.endLong_leaves
    | with_reducible apply State.startLong_leaves
    | with_reducible apply Leaves.ite
    | split
    | dsimp only

theorem State.endF1_leaves {μ : Nat} {s₀ : State} {s : State} (hl : Leaves μ s₀ s) (hμ : 0x10101990080000002018 ||| μ = μ)  :
    Leaves μ s₀ (State.endF1 s) := by
  refine hl.step (k := 0x10101990080000002018) ?_ hμ
  clear hl hμ
  unfold State.endF1
  try dsimp only
  repeat' first
    | with_reducible assumption
    | with_reducible exact Leaves.refl _ _
    | decide
    | with_reducible apply Part.bit (F.FLT_STAT_F1_PREV_part ..)
    | with_reducible apply Part.bit (F.FLT_F1_CNT_COUNT_part ..)
    | with_reducible apply Part.bit (F.FLT_STAT_PIN_LEVEL_part ..)
    | (intro i hi; simp only [MbxCmd.entry, FaultRec.logWords, List.length_cons, List.length_nil, List.length_map, upTo, List.length_range] at hi; exact Part.bit (regPart_fltRegs (by omega) (by omega)) (by decide))
    | with_reducible apply Leaves.wr
    | with_reducible apply Leaves.bump
    | with_reducible apply Leaves.setWords
    | with_reducible apply State.raise_leaves
    | with_reducible apply Leaves.upd_start
    | with_reducible apply Leaves.ite
    | with_reducible apply Leaves.iteFst
    | dsimp only

theorem State.doConfirm_leaves {μ : Nat} {s₀ : State} {s : State} (hl : Leaves μ s₀ s) (hμ : 0x10103990080000002011 ||| μ = μ)  :
    Leaves μ s₀ (State.doConfirm s) := by
  refine hl.step (k := 0x10103990080000002011) ?_ hμ
  clear hl hμ
  unfold State.doConfirm
  try dsimp only
  repeat' first
    | with_reducible assumption
    | with_reducible exact Leaves.refl _ _
    | decide
    | with_reducible apply Part.bit (F.SYS_START_CTRL_CONFIRM_part ..)
    | with_reducible apply Part.bit (F.SYS_START_STAT_PHASE_part ..)
    | with_reducible apply Leaves.wr
    | with_reducible apply State.raise_leaves
    | with_reducible apply State.setAttempt_leaves
    | with_reducible apply Leaves.upd_start
    | dsimp only

theorem State.askConfirm_leaves {μ : Nat} {s₀ : State} {s : State} (hl : Leaves μ s₀ s) (hμ : 0x10103990080000002011 ||| μ = μ)  :
    Leaves μ s₀ (State.askConfirm s) := by
  refine hl.step (k := 0x10103990080000002011) ?_ hμ
  clear hl hμ
  unfold State.askConfirm
  try dsimp only
  repeat' first
    | with_reducible assumption
    | with_reducible exact Leaves.refl _ _
    | decide
    | with_reducible apply Part.bit (F.SYS_START_CTRL_CONFIRM_part ..)
    | with_reducible apply Leaves.wr
    | with_reducible apply State.doConfirm_leaves
    | with_reducible apply Leaves.ite
    | dsimp only

theorem execAutoConfirm_leaves {s s' : State}  (h : execAutoConfirm s = .next s') : Leaves 0x10103990080000002011 s s' := by
  unfold execAutoConfirm at h
  refine act_leaves h ?_
  try dsimp only
  clear h
  repeat' first
    | with_reducible apply State.endClock_leaves
    | with_reducible assumption
    | with_reducible exact Leaves.refl _ _
    | decide
    | with_reducible apply State.doConfirm_leaves
    | with_reducible apply Leaves.ite
    | dsimp only

theorem execSpineCut_leaves {s s' : State}  (h : execSpineCut s = .next s') : Leaves 0x1fffffffffffff7fffff s s' := by
  unfold execSpineCut at h
  refine act_leaves h ?_
  try dsimp only
  clear h
  repeat' first
    | with_reducible apply State.endClock_leaves
    | with_reducible assumption
    | with_reducible exact Leaves.refl _ _
    | decide
    | with_reducible apply State.lehrKept_leaves
    | with_reducible apply State.s4Steps_leaves
    | with_reducible apply Leaves.upd_lehr
    | with_reducible apply Leaves.upd_spineOn
    | with_reducible apply Leaves.ite
    | dsimp only

theorem State.wakeSpine_leaves {μ : Nat} {s₀ : State} {s : State} (hl : Leaves μ s₀ s) (hμ : 0x1fffffffffffff7fffff ||| μ = μ)  :
    Leaves μ s₀ (State.wakeSpine s) := by
  refine hl.step (k := 0x1fffffffffffff7fffff) ?_ hμ
  clear hl hμ
  unfold State.wakeSpine
  try dsimp only
  repeat' first
    | with_reducible assumption
    | with_reducible exact Leaves.refl _ _
    | decide
    | with_reducible apply State.lehrKept_leaves
    | with_reducible apply State.openMailbox_leaves
    | with_reducible apply State.setLdr_leaves
    | with_reducible apply State.startCore_leaves
    | with_reducible apply Leaves.upd_lehr
    | with_reducible apply Leaves.upd_pcie
    | with_reducible apply Leaves.upd_start
    | dsimp only

theorem execS4Wake_leaves {s s' : State}  (h : execS4Wake s = .next s') : Leaves 0x1fffffffffffff7fffff s s' := by
  unfold execS4Wake at h
  try dsimp only at h
  repeat' first
    | (with_reducible refine act_leaves h ?_)
    | (obtain rfl := answer_next h)
    | split at h
  try dsimp only
  clear h
  repeat' first
    | with_reducible apply State.endClock_leaves
    | with_reducible assumption
    | with_reducible exact Leaves.refl _ _
    | decide
    | with_reducible apply State.endClock_leaves
    | with_reducible apply State.loadByBoot_leaves
    | with_reducible apply State.loadSlot_leaves
    | with_reducible apply State.wakeSpine_leaves
    | with_reducible apply Leaves.ite
    | with_reducible apply Leaves.iteFst
    | dsimp only

theorem execSeqPgRise_leaves {s s' : State}  (h : execSeqPgRise s = .next s') : Leaves 0x80020000000000000 s s' := by
  unfold execSeqPgRise at h
  refine actLehr_leaves h ?_
  try dsimp only
  clear h
  repeat' first
    | with_reducible apply State.endClock_leaves
    | with_reducible assumption
    | with_reducible exact Leaves.refl _ _
    | decide
    | with_reducible apply Leaves.upd_fab
    | with_reducible apply Leaves.upd_lehr
    | dsimp only

theorem execSupplyPowerGoodLoss_leaves {s s' : State}  (h : execSupplyPowerGoodLoss s = .next s') : Leaves 0x80020000000000000 s s' := by
  unfold execSupplyPowerGoodLoss at h
  refine actLehr_leaves h ?_
  try dsimp only
  clear h
  repeat' first
    | with_reducible apply State.endClock_leaves
    | with_reducible assumption
    | with_reducible exact Leaves.refl _ _
    | decide
    | with_reducible apply Leaves.upd_fab
    | with_reducible apply Leaves.upd_lehr
    | with_reducible apply Leaves.ite
    | dsimp only

end Sys2Proof.Machine
end

