-- ==== Sys2Proof/Laws/Lifecycle.lean ====
section
/-!
SUPPORT. What each operation of Machine/Lifecycle.lean leaves alone.
-/

set_option linter.all false

namespace Sys2Proof.Machine

theorem tap_leaves {m : Nat} {s t : State} {f : State → State} (h : tap s f = .next t)
    (hf : Leaves m s (f s)) : Leaves m s t := answer_next h ▸ State.endClock_leaves (.ite hf (.refl _ _))

theorem State.wakeBuffer_leaves {μ : Nat} {s₀ : State} {s : State} (hl : Leaves μ s₀ s) (hμ : 0x10041990080000002012 ||| μ = μ) (a n : Nat) :
    Leaves μ s₀ (State.wakeBuffer s a n) := by
  refine hl.step (k := 0x10041990080000002012) ?_ hμ
  clear hl hμ
  unfold State.wakeBuffer
  try dsimp only
  repeat' first
    | with_reducible assumption
    | with_reducible exact Leaves.refl _ _
    | decide
    | with_reducible apply State.knock_leaves
    | with_reducible refine Leaves.forEach (fun _ _ _ => ?_) ?_
    | with_reducible refine Leaves.forEachFst (fun _ _ _ => ?_) ?_
    | dsimp only

theorem State.revoke_leaves {μ : Nat} {s₀ : State} {s : State} (hl : Leaves μ s₀ s) (hμ : 0x10801990080000002030 ||| μ = μ)  :
    Leaves μ s₀ (State.revoke s) := by
  refine hl.step (k := 0x10801990080000002030) ?_ hμ
  clear hl hμ
  unfold State.revoke
  try dsimp only
  repeat' first
    | with_reducible assumption
    | with_reducible exact Leaves.refl _ _
    | decide
    | with_reducible apply State.raise_leaves
    | with_reducible apply State.showLc_leaves
    | with_reducible apply Leaves.upd_lcs
    | with_reducible apply Leaves.ite
    | dsimp only

theorem State.endAuth_leaves {μ : Nat} {s₀ : State} {s : State} (hl : Leaves μ s₀ s) (hμ : 0x110019d0080000102010 ||| μ = μ) (status : Nat) :
    Leaves μ s₀ (State.endAuth s status) := by
  refine hl.step (k := 0x110019d0080000102010) ?_ hμ
  clear hl hμ
  unfold State.endAuth
  try dsimp only
  repeat' first
    | with_reducible assumption
    | with_reducible exact Leaves.refl _ _
    | decide
    | with_reducible apply State.endShort_leaves
    | with_reducible apply Leaves.ite
    | dsimp only

theorem execDebugAuthChallenge_leaves {s s' : State}  (h : execDebugAuthChallenge s = .next s') : Leaves 0x19861bd00f000018201b s s' := by
  unfold execDebugAuthChallenge at h
  refine act_leaves h ?_
  try dsimp only
  clear h
  repeat' first
    | with_reducible apply State.endClock_leaves
    | with_reducible assumption
    | with_reducible exact Leaves.refl _ _
    | decide
    | with_reducible apply State.drawn_leaves
    | with_reducible apply State.endAuth_leaves
    | with_reducible apply State.hbmWrite_leaves
    | with_reducible apply State.startShort_leaves
    | with_reducible apply State.wakeBuffer_leaves
    | with_reducible apply Leaves.upd_lcs
    | with_reducible apply Leaves.ite
    | split
    | dsimp only

theorem State.grant_leaves {μ : Nat} {s₀ : State} {s : State} (hl : Leaves μ s₀ s) (hμ : 0x10881990080000002030 ||| μ = μ) (r : List Byte) :
    Leaves μ s₀ (State.grant s r) := by
  refine hl.step (k := 0x10881990080000002030) ?_ hμ
  clear hl hμ
  unfold State.grant
  try dsimp only
  repeat' first
    | with_reducible assumption
    | with_reducible exact Leaves.refl _ _
    | decide
    | with_reducible apply State.raise_leaves
    | with_reducible apply State.showLc_leaves
    | with_reducible apply Leaves.upd_lcs
    | with_reducible apply Leaves.upd_lehr
    | with_reducible apply Leaves.ite
    | dsimp only

theorem State.authFail_leaves {μ : Nat} {s₀ : State} {s : State} (hl : Leaves μ s₀ s) (hμ : 0x10081990080000002030 ||| μ = μ)  :
    Leaves μ s₀ (State.authFail s) := by
  refine hl.step (k := 0x10081990080000002030) ?_ hμ
  clear hl hμ
  unfold State.authFail
  try dsimp only
  repeat' first
    | with_reducible assumption
    | with_reducible exact Leaves.refl _ _
    | decide
    | with_reducible apply Part.bit (F.LCS_STAT_LOCKOUT_part ..)
    | with_reducible apply Part.bit (F.LCS_AUTH_FAIL_CNT_COUNT_part ..)
    | with_reducible apply Part.bit (F.LCS_STAT_AUTH_FAIL_part ..)
    | with_reducible apply Leaves.wr
    | with_reducible apply Leaves.bump
    | with_reducible apply State.raise_leaves
    | with_reducible apply Leaves.upd_lehr
    | with_reducible apply Leaves.ite
    | dsimp only

theorem execDebugAuthResponse_leaves {s s' : State}  (h : execDebugAuthResponse s = .next s') : Leaves 0x118e19d00c000018203a s s' := by
  unfold execDebugAuthResponse at h
  refine act_leaves h ?_
  try dsimp only
  clear h
  repeat' first
    | with_reducible apply State.endClock_leaves
    | with_reducible assumption
    | with_reducible exact Leaves.refl _ _
    | decide
    | with_reducible apply State.authFail_leaves
    | with_reducible apply State.endAuth_leaves
    | with_reducible apply State.grant_leaves
    | with_reducible apply State.hbmRead_leaves
    | with_reducible apply State.startShort_leaves
    | with_reducible apply State.wakeBuffer_leaves
    | with_reducible apply Leaves.upd_lcs
    | with_reducible apply Leaves.ite
    | with_reducible apply Leaves.iteFst
    | (refine Leaves.pair (by assumption) ?_; with_reducible apply State.hbmRead_leaves)
    | split
    | dsimp only

theorem execDebugAuthRelease_leaves {s s' : State}  (h : execDebugAuthRelease s = .next s') : Leaves 0x118019d0080000102030 s s' := by
  unfold execDebugAuthRelease at h
  refine act_leaves h ?_
  try dsimp only
  clear h
  repeat' first
    | with_reducible apply State.endClock_leaves
    | with_reducible assumption
    | with_reducible exact Leaves.refl _ _
    | decide
    | with_reducible apply State.endAuth_leaves
    | with_reducible apply State.revoke_leaves
    | with_reducible apply State.startShort_leaves
    | with_reducible apply Leaves.ite
    | split
    | dsimp only

theorem execGrantExpiry_leaves {s s' : State}  (h : execGrantExpiry s = .next s') : Leaves 0x10801990080000002030 s s' := by
  unfold execGrantExpiry at h
  refine act_leaves h ?_
  try dsimp only
  clear h
  repeat' first
    | with_reducible apply State.endClock_leaves
    | with_reducible assumption
    | with_reducible exact Leaves.refl _ _
    | decide
    | with_reducible apply State.revoke_leaves
    | with_reducible apply Leaves.ite
    | split
    | dsimp only

theorem execLockoutExpiry_leaves {s s' : State}  (h : execLockoutExpiry s = .next s') : Leaves 0x80000000000000020 s s' := by
  unfold execLockoutExpiry at h
  refine act_leaves h ?_
  try dsimp only
  clear h
  repeat' first
    | with_reducible apply State.endClock_leaves
    | with_reducible assumption
    | with_reducible exact Leaves.refl _ _
    | decide
    | with_reducible apply Part.bit (F.LCS_STAT_LOCKOUT_part ..)
    | with_reducible apply Leaves.wr
    | with_reducible apply Leaves.upd_lehr
    | with_reducible apply Leaves.ite
    | split
    | dsimp only

theorem execLcTransition_leaves {s s' : State}  (h : execLcTransition s = .next s') : Leaves 0x118019d0080000102030 s s' := by
  unfold execLcTransition at h
  refine act_leaves h ?_
  try dsimp only
  clear h
  repeat' first
    | with_reducible apply State.endClock_leaves
    | with_reducible assumption
    | with_reducible exact Leaves.refl _ _
    | decide
    | with_reducible apply Part.bit (F.LCS_STATE_TRANS_BUSY_part ..)
    | with_reducible apply Leaves.wr
    | with_reducible apply State.endLong_leaves
    | with_reducible apply State.revoke_leaves
    | with_reducible apply State.startLong_leaves
    | with_reducible apply Leaves.upd_lcs
    | with_reducible apply Leaves.ite
    | split
    | dsimp only

theorem State.transFails_leaves {μ : Nat} {s₀ : State} {s : State} (hl : Leaves μ s₀ s) (hμ : 0x118019d0080000102030 ||| μ = μ) (result : Nat) :
    Leaves μ s₀ (State.transFails s result) := by
  refine hl.step (k := 0x118019d0080000102030) ?_ hμ
  clear hl hμ
  unfold State.transFails
  try dsimp only
  repeat' first
    | with_reducible assumption
    | with_reducible exact Leaves.refl _ _
    | decide
    | with_reducible apply Part.bit (F.LCS_STATE_TRANS_BUSY_part ..)
    | with_reducible apply Part.bit (F.LCS_STAT_TRANS_ERR_part ..)
    | with_reducible apply Leaves.wr
    | with_reducible apply State.endLong_leaves
    | with_reducible apply State.raise_leaves
    | with_reducible apply State.showLc_leaves
    | with_reducible apply Leaves.upd_lcs
    | dsimp only

theorem State.endOfLife_leaves {μ : Nat} {s₀ : State} {s : State} (hl : Leaves μ s₀ s) (hμ : 0x105c79b10fc00010707b ||| μ = μ)  :
    Leaves μ s₀ (State.endOfLife s) := by
  refine hl.step (k := 0x105c79b10fc00010707b) ?_ hμ
  clear hl hμ
  unfold State.endOfLife
  try dsimp only
  repeat' first
    | with_reducible assumption
    | with_reducible exact Leaves.refl _ _
    | decide
    | with_reducible apply Part.bit (F.FLT_STAT_FENCED_part ..)
    | with_reducible apply Part.bit (F.PCI_MBX_STAT_READY_part ..)
    | with_reducible apply Leaves.wr
    | with_reducible apply State.destroyAll_leaves
    | with_reducible apply State.idleNow_leaves
    | with_reducible apply State.loadByBoot_leaves
    | with_reducible apply State.offPart_leaves
    | with_reducible apply State.setLdr_leaves
    | with_reducible apply State.showLc_leaves
    | with_reducible apply State.showStore_leaves
    | with_reducible apply State.useSectors_leaves
    | with_reducible apply Leaves.upd_fab
    | with_reducible apply Leaves.upd_start
    | with_reducible apply Leaves.ite
    | with_reducible refine Leaves.forEach (fun _ _ _ => ?_) ?_
    | with_reducible refine Leaves.forEachFst (fun _ _ _ => ?_) ?_
    | dsimp only

theorem execLcTransitionComplete_leaves {s s' : State} (weak : Option (Fin 64)) (h : execLcTransitionComplete weak s = .next s') : Leaves 0x11dc79f10fc00010707b s s' := by
  unfold execLcTransitionComplete at h
  refine act_leaves h ?_
  try dsimp only
  clear h
  repeat' first
    | with_reducible apply State.endClock_leaves
    | with_reducible assumption
    | with_reducible exact Leaves.refl _ _
    | decide
    | with_reducible apply Part.bit (F.LCS_STATE_TRANS_BUSY_part ..)
    | with_reducible apply Leaves.wr
    | with_reducible apply State.endLong_leaves
    | with_reducible apply State.endOfLife_leaves
    | with_reducible apply State.raise_leaves
    | with_reducible apply State.showLc_leaves
    | with_reducible apply State.transFails_leaves
    | with_reducible apply Leaves.upd_lcs
    | with_reducible apply Leaves.upd_otp
    | exact ⟨fun _ h => h, fun h => h⟩
    | exact State.programOtp_grows _ _ _
    | with_reducible apply Leaves.ite
    | split
    | dsimp only

theorem execAttest_leaves {s s' : State}  (h : execAttest s = .next s') : Leaves 0x19061bd00f000018203b s s' := by
  unfold execAttest at h
  refine act_leaves h ?_
  try dsimp only
  clear h
  repeat' first
    | with_reducible apply State.endClock_leaves
    | with_reducible assumption
    | with_reducible exact Leaves.refl _ _
    | decide
    | with_reducible apply Part.bit (F.LCS_ATTEST_CNT_COUNT_part ..)
    | with_reducible apply Leaves.bump
    | with_reducible apply State.drawn_leaves
    | with_reducible apply State.endLong_leaves
    | with_reducible apply State.hbmRead_leaves
    | with_reducible apply State.hbmWrite_leaves
    | with_reducible apply State.startLong_leaves
    | with_reducible apply State.wakeBuffer_leaves
    | with_reducible apply Leaves.ite
    | with_reducible apply Leaves.iteFst
    | (refine Leaves.pair (by assumption) ?_; with_reducible apply State.hbmRead_leaves)
    | split
    | dsimp only

theorem State.spdmAnswer_leaves {μ : Nat} {s₀ : State} {s : State} (hl : Leaves μ s₀ s) (hμ : 0x10001990080000002010 ||| μ = μ) (code : Nat) (msg : List Byte) :
    Leaves μ s₀ (State.spdmAnswer s code msg) := by
  refine hl.step (k := 0x10001990080000002010) ?_ hμ
  clear hl hμ
  unfold State.spdmAnswer
  try dsimp only
  repeat' first
    | with_reducible assumption
    | with_reducible exact Leaves.refl _ _
    | decide
    | with_reducible apply State.emit_leaves
    | with_reducible apply State.raise_leaves
    | dsimp only

theorem State.spdmError_leaves {μ : Nat} {s₀ : State} {s : State} (hl : Leaves μ s₀ s) (hμ : 0x10001990080000002010 ||| μ = μ)  :
    Leaves μ s₀ (State.spdmError s) := by
  refine hl.step (k := 0x10001990080000002010) ?_ hμ
  clear hl hμ
  unfold State.spdmError
  try dsimp only
  repeat' first
    | with_reducible assumption
    | with_reducible exact Leaves.refl _ _
    | decide
    | with_reducible apply State.spdmAnswer_leaves
    | dsimp only

theorem spdm_leaves {m : Nat} {s t : State} {f : State → State} (h : spdm s f = .next t) (he : Leaves m s s.spdmError)
    (hf : Leaves m s (f s)) : Leaves m s t := act_leaves h (.ite (.refl _ _) (.ite he hf))

theorem execGetVersion_leaves {s s' : State}  (h : execGetVersion s = .next s') : Leaves 0x10001990080000002010 s s' := by
  unfold execGetVersion at h
  refine spdm_leaves h (State.spdmError_leaves (.refl _ _) (by decide)) ?_
  try dsimp only
  clear h
  repeat' first
    | with_reducible apply State.endClock_leaves
    | with_reducible assumption
    | with_reducible exact Leaves.refl _ _
    | decide
    | with_reducible apply State.spdmAnswer_leaves
    | dsimp only

theorem execGetCapabilities_leaves {s s' : State}  (h : execGetCapabilities s = .next s') : Leaves 0x10001990080000002010 s s' := by
  unfold execGetCapabilities at h
  refine spdm_leaves h (State.spdmError_leaves (.refl _ _) (by decide)) ?_
  try dsimp only
  clear h
  repeat' first
    | with_reducible apply State.endClock_leaves
    | with_reducible assumption
    | with_reducible exact Leaves.refl _ _
    | decide
    | with_reducible apply State.spdmAnswer_leaves
    | dsimp only

theorem execNegotiateAlgorithms_leaves {s s' : State}  (h : execNegotiateAlgorithms s = .next s') : Leaves 0x10001990080000002010 s s' := by
  unfold execNegotiateAlgorithms at h
  refine spdm_leaves h (State.spdmError_leaves (.refl _ _) (by decide)) ?_
  try dsimp only
  clear h
  repeat' first
    | with_reducible apply State.endClock_leaves
    | with_reducible assumption
    | with_reducible exact Leaves.refl _ _
    | decide
    | with_reducible apply State.spdmAnswer_leaves
    | dsimp only

theorem execGetDigests_leaves {s s' : State}  (h : execGetDigests s = .next s') : Leaves 0x10001990080000002010 s s' := by
  unfold execGetDigests at h
  refine spdm_leaves h (State.spdmError_leaves (.refl _ _) (by decide)) ?_
  try dsimp only
  clear h
  repeat' first
    | with_reducible apply State.endClock_leaves
    | with_reducible assumption
    | with_reducible exact Leaves.refl _ _
    | decide
    | with_reducible apply State.spdmAnswer_leaves
    | dsimp only

theorem execGetCertificate_leaves {s s' : State} (off len : BitVec 16) (h : execGetCertificate off len s = .next s') : Leaves 0x10001990080000002010 s s' := by
  unfold execGetCertificate at h
  refine spdm_leaves h (State.spdmError_leaves (.refl _ _) (by decide)) ?_
  try dsimp only
  clear h
  repeat' first
    | with_reducible apply State.endClock_leaves
    | with_reducible assumption
    | with_reducible exact Leaves.refl _ _
    | decide
    | with_reducible apply State.spdmAnswer_leaves
    | dsimp only

theorem execChallenge_leaves {s s' : State} (nonce : BitVec 256) (h : execChallenge nonce s = .next s') : Leaves 0x18001990080000002010 s s' := by
  unfold execChallenge at h
  refine spdm_leaves h (State.spdmError_leaves (.refl _ _) (by decide)) ?_
  try dsimp only
  clear h
  repeat' first
    | with_reducible apply State.endClock_leaves
    | with_reducible assumption
    | with_reducible exact Leaves.refl _ _
    | decide
    | with_reducible apply State.drawn_leaves
    | with_reducible apply State.spdmAnswer_leaves
    | dsimp only

theorem execGetMeasurements_leaves {s s' : State} (nonce : BitVec 256) (h : execGetMeasurements nonce s = .next s') : Leaves 0x18001990080000002010 s s' := by
  unfold execGetMeasurements at h
  refine spdm_leaves h (State.spdmError_leaves (.refl _ _) (by decide)) ?_
  try dsimp only
  clear h
  repeat' first
    | with_reducible apply State.endClock_leaves
    | with_reducible assumption
    | with_reducible exact Leaves.refl _ _
    | decide
    | with_reducible apply State.drawn_leaves
    | with_reducible apply State.spdmAnswer_leaves
    | dsimp only

theorem execSpdmUnsupportedRequest_leaves {s s' : State} (_code : BitVec 8) (h : execSpdmUnsupportedRequest _code s = .next s') : Leaves 0x10001990080000002010 s s' := by
  unfold execSpdmUnsupportedRequest at h
  refine act_leaves h ?_
  try dsimp only
  clear h
  repeat' first
    | with_reducible apply State.endClock_leaves
    | with_reducible assumption
    | with_reducible exact Leaves.refl _ _
    | decide
    | with_reducible apply State.spdmError_leaves
    | with_reducible apply Leaves.ite
    | dsimp only

theorem State.selectIr_leaves {μ : Nat} {s₀ : State} {s : State} (hl : Leaves μ s₀ s) (hμ : 0x11001990080000002030 ||| μ = μ) (ir : Nat) :
    Leaves μ s₀ (State.selectIr s ir) := by
  refine hl.step (k := 0x11001990080000002030) ?_ hμ
  clear hl hμ
  unfold State.selectIr
  try dsimp only
  repeat' first
    | with_reducible assumption
    | with_reducible exact Leaves.refl _ _
    | decide
    | with_reducible apply Part.bit (F.LCS_STAT_BSCAN_part ..)
    | with_reducible apply Leaves.wr
    | with_reducible apply State.emit_leaves
    | with_reducible apply State.raise_leaves
    | with_reducible apply Leaves.upd_jtag
    | with_reducible apply Leaves.ite
    | dsimp only

theorem State.scanCells_leaves {μ : Nat} {s₀ : State} {s : State} (hl : Leaves μ s₀ s) (hμ : 0x11001990080000002030 ||| μ = μ) (ir : Nat) (capture shift : BitVec 1412) :
    Leaves μ s₀ (State.scanCells s ir capture shift) := by
  refine hl.step (k := 0x11001990080000002030) ?_ hμ
  clear hl hμ
  unfold State.scanCells
  try dsimp only
  repeat' first
    | with_reducible assumption
    | with_reducible exact Leaves.refl _ _
    | decide
    | with_reducible apply State.emit_leaves
    | with_reducible apply State.selectIr_leaves
    | with_reducible apply Leaves.upd_jtag
    | dsimp only

theorem execExtest_leaves {s s' : State} (capture shift : BitVec 1412) (h : execExtest capture shift s = .next s') : Leaves 0x11001990080000002030 s s' := by
  unfold execExtest at h
  refine tap_leaves h ?_
  try dsimp only
  clear h
  repeat' first
    | with_reducible apply State.endClock_leaves
    | with_reducible assumption
    | with_reducible exact Leaves.refl _ _
    | decide
    | with_reducible apply State.scanCells_leaves
    | dsimp only

theorem execIdcode_leaves {s s' : State}  (h : execIdcode s = .next s') : Leaves 0x11001990080000002030 s s' := by
  unfold execIdcode at h
  refine tap_leaves h ?_
  try dsimp only
  clear h
  repeat' first
    | with_reducible apply State.endClock_leaves
    | with_reducible assumption
    | with_reducible exact Leaves.refl _ _
    | decide
    | with_reducible apply State.emit_leaves
    | with_reducible apply State.selectIr_leaves
    | dsimp only

theorem execSamplePreload_leaves {s s' : State} (capture shift : BitVec 1412) (h : execSamplePreload capture shift s = .next s') : Leaves 0x11001990080000002030 s s' := by
  unfold execSamplePreload at h
  refine tap_leaves h ?_
  try dsimp only
  clear h
  repeat' first
    | with_reducible apply State.endClock_leaves
    | with_reducible assumption
    | with_reducible exact Leaves.refl _ _
    | decide
    | with_reducible apply State.scanCells_leaves
    | dsimp only

theorem execHighz_leaves {s s' : State}  (h : execHighz s = .next s') : Leaves 0x11001990080000002030 s s' := by
  unfold execHighz at h
  refine tap_leaves h ?_
  try dsimp only
  clear h
  repeat' first
    | with_reducible apply State.endClock_leaves
    | with_reducible assumption
    | with_reducible exact Leaves.refl _ _
    | decide
    | with_reducible apply State.emit_leaves
    | with_reducible apply State.selectIr_leaves
    | dsimp only

theorem execClamp_leaves {s s' : State}  (h : execClamp s = .next s') : Leaves 0x11001990080000002030 s s' := by
  unfold execClamp at h
  refine tap_leaves h ?_
  try dsimp only
  clear h
  repeat' first
    | with_reducible apply State.endClock_leaves
    | with_reducible assumption
    | with_reducible exact Leaves.refl _ _
    | decide
    | with_reducible apply State.emit_leaves
    | with_reducible apply State.selectIr_leaves
    | dsimp only

theorem execExtestPulse_leaves {s s' : State} (capture shift : BitVec 1412) (h : execExtestPulse capture shift s = .next s') : Leaves 0x11001990080000002030 s s' := by
  unfold execExtestPulse at h
  refine tap_leaves h ?_
  try dsimp only
  clear h
  repeat' first
    | with_reducible apply State.endClock_leaves
    | with_reducible assumption
    | with_reducible exact Leaves.refl _ _
    | decide
    | with_reducible apply State.scanCells_leaves
    | dsimp only

theorem execExtestTrain_leaves {s s' : State} (capture shift : BitVec 1412) (h : execExtestTrain capture shift s = .next s') : Leaves 0x11001990080000002030 s s' := by
  unfold execExtestTrain at h
  refine tap_leaves h ?_
  try dsimp only
  clear h
  repeat' first
    | with_reducible apply State.endClock_leaves
    | with_reducible assumption
    | with_reducible exact Leaves.refl _ _
    | decide
    | with_reducible apply State.scanCells_leaves
    | dsimp only

theorem execBypass_leaves {s s' : State}  (h : execBypass s = .next s') : Leaves 0x11001990080000002030 s s' := by
  unfold execBypass at h
  refine tap_leaves h ?_
  try dsimp only
  clear h
  repeat' first
    | with_reducible apply State.endClock_leaves
    | with_reducible assumption
    | with_reducible exact Leaves.refl _ _
    | decide
    | with_reducible apply State.emit_leaves
    | with_reducible apply State.selectIr_leaves
    | dsimp only

theorem execTestLogicReset_leaves {s s' : State}  (h : execTestLogicReset s = .next s') : Leaves 0x1000000000000000000 s s' := by
  unfold execTestLogicReset at h
  refine tap_leaves h ?_
  try dsimp only
  clear h
  repeat' first
    | with_reducible apply State.endClock_leaves
    | with_reducible assumption
    | with_reducible exact Leaves.refl _ _
    | decide
    | with_reducible apply Leaves.upd_jtag
    | dsimp only

theorem State.puntyCmd_leaves {μ : Nat} {s₀ : State} {s : State} (hl : Leaves μ s₀ s) (hμ : 0x110019d0080000102010 ||| μ = μ) (raw : Nat) :
    Leaves μ s₀ (State.puntyCmd s raw) := by
  refine hl.step (k := 0x110019d0080000102010) ?_ hμ
  clear hl hμ
  unfold State.puntyCmd
  try dsimp only
  repeat' first
    | with_reducible assumption
    | with_reducible exact Leaves.refl _ _
    | decide
    | with_reducible apply State.complete_leaves
    | with_reducible apply Leaves.upd_jtag
    | with_reducible apply Leaves.upd_mbx
    | with_reducible apply Leaves.ite
    | dsimp only

theorem execLcsCmd_leaves {s s' : State} (cmd : Option (BitVec 256)) (h : execLcsCmd cmd s = .next s') : Leaves 0x110019d0080000102030 s s' := by
  unfold execLcsCmd at h
  refine act_leaves h ?_
  try dsimp only
  clear h
  repeat' first
    | with_reducible apply State.endClock_leaves
    | with_reducible assumption
    | with_reducible exact Leaves.refl _ _
    | decide
    | with_reducible apply State.emit_leaves
    | with_reducible apply State.puntyCmd_leaves
    | with_reducible apply State.selectIr_leaves
    | split
    | dsimp only

theorem State.puntyDenied_leaves {μ : Nat} {s₀ : State} {s : State} (hl : Leaves μ s₀ s) (hμ : 0x11000000000000000020 ||| μ = μ)  :
    Leaves μ s₀ (State.puntyDenied s) := by
  refine hl.step (k := 0x11000000000000000020) ?_ hμ
  clear hl hμ
  unfold State.puntyDenied
  try dsimp only
  repeat' first
    | with_reducible assumption
    | with_reducible exact Leaves.refl _ _
    | decide
    | with_reducible apply Part.bit (F.LCS_DENIED_CNT_COUNT_part ..)
    | with_reducible apply Leaves.bump
    | with_reducible apply State.emit_leaves
    | with_reducible apply Leaves.upd_jtag
    | dsimp only

theorem execFabRb_leaves {s s' : State} (sel : BitVec 20) (h : execFabRb sel s = .next s') : Leaves 0x11001990080000002030 s s' := by
  unfold execFabRb at h
  refine act_leaves h ?_
  try dsimp only
  clear h
  repeat' first
    | with_reducible apply State.endClock_leaves
    | with_reducible assumption
    | with_reducible exact Leaves.refl _ _
    | decide
    | with_reducible apply State.emit_leaves
    | with_reducible apply State.puntyDenied_leaves
    | with_reducible apply State.selectIr_leaves
    | with_reducible apply Leaves.ite
    | dsimp only

end Sys2Proof.Machine
end

