-- ==== Sys2Proof/Laws/Bus.lean ====
section
/-!
SUPPORT. What each operation of Machine/Bus.lean leaves alone.
-/

set_option linter.all false

namespace Sys2Proof.Machine

theorem State.setShadow_leaves {μ : Nat} {s₀ : State} {s : State} (hl : Leaves μ s₀ s) (hμ : 0x2000000 ||| μ = μ) (k : Nat) (v : Option Word) :
    Leaves μ s₀ (State.setShadow s k v) := by
  refine hl.step (k := 0x2000000) ?_ hμ
  clear hl hμ
  unfold State.setShadow
  try dsimp only
  repeat' first
    | with_reducible assumption
    | with_reducible exact Leaves.refl _ _
    | decide
    | with_reducible apply Leaves.upd_shadow
    | dsimp only

theorem State.readHi_leaves {μ : Nat} {s₀ : State} {s : State} (hl : Leaves μ s₀ s) (hμ : 0x2000000 ||| μ = μ) (p : Path) (off : Nat) :
    Leaves μ s₀ (State.readHi s p off).1 := by
  refine hl.step (k := 0x2000000) ?_ hμ
  clear hl hμ
  unfold State.readHi
  try dsimp only
  repeat' first
    | with_reducible assumption
    | with_reducible exact Leaves.refl _ _
    | decide
    | with_reducible apply State.setShadow_leaves
    | split
    | dsimp only

theorem State.readStamp_leaves {μ : Nat} {s₀ : State} {s : State} (hl : Leaves μ s₀ s) (hμ : 0x400000000200000 ||| μ = μ) (off : Nat) :
    Leaves μ s₀ (State.readStamp s off) := by
  refine hl.step (k := 0x400000000200000) ?_ hμ
  clear hl hμ
  unfold State.readStamp
  try dsimp only
  repeat' first
    | with_reducible assumption
    | with_reducible exact Leaves.refl _ _
    | decide
    | with_reducible apply State.popStamp_leaves
    | with_reducible apply State.sawStamp_leaves
    | split
    | dsimp only

theorem State.readReg_leaves {μ : Nat} {s₀ : State} {s : State} (hl : Leaves μ s₀ s) (hμ : 0x4000000027fffff ||| μ = μ) (p : Path) (off : Nat) (r : RegRow) :
    Leaves μ s₀ (State.readReg s p off r).1 := by
  refine hl.step (k := 0x4000000027fffff) ?_ hμ
  clear hl hμ
  unfold State.readReg
  try dsimp only
  repeat' first
    | with_reducible assumption
    | with_reducible exact Leaves.refl _ _
    | decide
    | with_reducible apply State.readHi_leaves
    | with_reducible apply State.readStamp_leaves
    | with_reducible apply State.setShadow_leaves
    | with_reducible apply Leaves.setReg
    | exact Mask.bit (regPart_bit _) (by decide)
    | with_reducible apply Leaves.ite
    | (refine Leaves.pair (by assumption) ?_; with_reducible apply State.readHi_leaves)
    | split
    | dsimp only

theorem State.read32_leaves {μ : Nat} {s₀ : State} {s : State} (hl : Leaves μ s₀ s) (hμ : 0x10001d900800027fffff ||| μ = μ) (p : Path) (off : Nat) :
    Leaves μ s₀ (State.read32 s p off).1 := by
  refine hl.step (k := 0x10001d900800027fffff) ?_ hμ
  clear hl hμ
  unfold State.read32
  try dsimp only
  repeat' first
    | with_reducible assumption
    | with_reducible exact Leaves.refl _ _
    | decide
    | with_reducible apply State.accessErr_leaves
    | with_reducible apply State.countAccess_leaves
    | with_reducible apply State.readReg_leaves
    | with_reducible apply Leaves.ite
    | with_reducible apply Leaves.iteFst
    | (refine Leaves.pair (by assumption) ?_; with_reducible apply State.readReg_leaves)
    | split
    | dsimp only

theorem State.ctrlRead_leaves {μ : Nat} {s₀ : State} {s : State} (hl : Leaves μ s₀ s) (hμ : 0x13001d900800027fffff ||| μ = μ) (p : Path) (width off : Nat) :
    Leaves μ s₀ (State.ctrlRead s p width off) := by
  refine hl.step (k := 0x13001d900800027fffff) ?_ hμ
  clear hl hμ
  unfold State.ctrlRead
  try dsimp only
  repeat' first
    | with_reducible assumption
    | with_reducible exact Leaves.refl _ _
    | decide
    | with_reducible apply State.accessErr_leaves
    | with_reducible apply State.answerRead_leaves
    | with_reducible apply State.read32_leaves
    | with_reducible apply Leaves.upd_dbgReads
    | with_reducible apply Leaves.ite
    | with_reducible apply Leaves.iteFst
    | (refine Leaves.pair (by assumption) ?_; with_reducible apply State.read32_leaves)
    | dsimp only

theorem State.writeTraces_leaves {μ : Nat} {s₀ : State} {s : State} (hl : Leaves μ s₀ s) (hμ : 0x10001990080000002011 ||| μ = μ) (p : Path) (off v : Nat) (b : Block) (i : Nat) (r : RegRow) :
    Leaves μ s₀ (State.writeTraces s p off v b i r) := by
  refine hl.step (k := 0x10001990080000002011) ?_ hμ
  clear hl hμ
  unfold State.writeTraces
  try dsimp only
  repeat' first
    | with_reducible assumption
    | with_reducible exact Leaves.refl _ _
    | decide
    | with_reducible apply Part.bit (F.SYS_LOCKED_WRITE_CNT_COUNT_part ..)
    | with_reducible apply Leaves.bump
    | with_reducible apply State.accessErr_leaves
    | with_reducible apply Leaves.ite
    | dsimp only

theorem State.putReg_leaves {μ : Nat} {s₀ : State} {s : State} (hl : Leaves μ s₀ s) (hμ : 0x100819d40800007fffff ||| μ = μ) (off v : Nat) (b : Block) (i rel : Nat) (r : RegRow) :
    Leaves μ s₀ (State.putReg s off v b i rel r) := by
  refine hl.step (k := 0x100819d40800007fffff) ?_ hμ
  clear hl hμ
  unfold State.putReg
  try dsimp only
  repeat' first
    | with_reducible assumption
    | with_reducible exact Leaves.refl _ _
    | decide
    | with_reducible apply Part.bit (F.MRV_STATUS_COEF_BUSY_part ..)
    | with_reducible apply State.mbxTail_leaves
    | with_reducible apply State.mrvErr_leaves
    | with_reducible apply State.saveOfs_leaves
    | with_reducible apply Leaves.upd_slots
    | with_reducible apply Leaves.setReg
    | exact Mask.bit (regPart_bit _) (by decide)
    | with_reducible apply Leaves.ite
    | split
    | dsimp only

theorem State.storeReg_leaves {μ : Nat} {s₀ : State} {s : State} (hl : Leaves μ s₀ s) (hμ : 0x100819d40800007fffff ||| μ = μ) (p : Path) (off v : Nat) (b : Block) (i rel : Nat) (r : RegRow) :
    Leaves μ s₀ (State.storeReg s p off v b i rel r) := by
  refine hl.step (k := 0x100819d40800007fffff) ?_ hμ
  clear hl hμ
  unfold State.storeReg
  try dsimp only
  repeat' first
    | with_reducible assumption
    | with_reducible exact Leaves.refl _ _
    | decide
    | with_reducible apply State.putReg_leaves
    | with_reducible apply State.writeTraces_leaves
    | dsimp only

theorem State.tbCtrl_leaves {μ : Nat} {s₀ : State} {s : State} (hl : Leaves μ s₀ s) (hμ : 0x10001990080000012110 ||| μ = μ) (old v : Nat) :
    Leaves μ s₀ (State.tbCtrl s old v) := by
  refine hl.step (k := 0x10001990080000012110) ?_ hμ
  clear hl hμ
  unfold State.tbCtrl
  try dsimp only
  repeat' first
    | with_reducible assumption
    | with_reducible exact Leaves.refl _ _
    | decide
    | with_reducible apply Part.bit (F.TB_CTRL_ARM_part ..)
    | with_reducible apply Leaves.wr
    | with_reducible apply State.armDivider_leaves
    | with_reducible apply State.groupOff_leaves
    | with_reducible apply State.groupOn_leaves
    | with_reducible apply Leaves.ite
    | dsimp only

theorem State.dmaCtrl_leaves {μ : Nat} {s₀ : State} {s : State} (hl : Leaves μ s₀ s) (hμ : 0x10061bb00f000008241b ||| μ = μ) (e v : Nat) :
    Leaves μ s₀ (State.dmaCtrl s e v) := by
  refine hl.step (k := 0x10061bb00f000008241b) ?_ hμ
  clear hl hμ
  unfold State.dmaCtrl
  try dsimp only
  repeat' first
    | with_reducible assumption
    | with_reducible exact Leaves.refl _ _
    | decide
    | with_reducible apply Part.bit (F.DMA_STAT_STOPPED_part ..)
    | with_reducible apply Leaves.wr
    | with_reducible apply State.abortEngine_leaves
    | with_reducible apply Leaves.ite
    | dsimp only

theorem State.dmaWritten_leaves {μ : Nat} {s₀ : State} {s : State} (hl : Leaves μ s₀ s) (hμ : 0x10061bb00f000008241b ||| μ = μ) (rel v : Nat) :
    Leaves μ s₀ (State.dmaWritten s rel v) := by
  refine hl.step (k := 0x10061bb00f000008241b) ?_ hμ
  clear hl hμ
  unfold State.dmaWritten
  try dsimp only
  repeat' first
    | with_reducible assumption
    | with_reducible exact Leaves.refl _ _
    | decide
    | with_reducible apply State.dmaCtrl_leaves
    | with_reducible apply State.showEng_leaves
    | with_reducible apply State.unhold_leaves
    | with_reducible apply Leaves.ite
    | dsimp only

theorem State.stoCtrl_leaves {μ : Nat} {s₀ : State} {s : State} (hl : Leaves μ s₀ s) (hμ : 0x18019990080000002814 ||| μ = μ) (v : Nat) :
    Leaves μ s₀ (State.stoCtrl s v) := by
  refine hl.step (k := 0x18019990080000002814) ?_ hμ
  clear hl hμ
  unfold State.stoCtrl
  try dsimp only
  repeat' first
    | with_reducible assumption
    | with_reducible exact Leaves.refl _ _
    | decide
    | with_reducible apply State.abortStore_leaves
    | with_reducible apply State.mount_leaves
    | with_reducible apply State.unmount_leaves
    | with_reducible apply Leaves.ite
    | dsimp only

theorem State.secCtrl_leaves {μ : Nat} {s₀ : State} {s : State} (hl : Leaves μ s₀ s) (hμ : 0x1004599008000000a012 ||| μ = μ) (c v : Nat) :
    Leaves μ s₀ (State.secCtrl s c v) := by
  refine hl.step (k := 0x1004599008000000a012) ?_ hμ
  clear hl hμ
  unfold State.secCtrl
  try dsimp only
  repeat' first
    | with_reducible assumption
    | with_reducible exact Leaves.refl _ _
    | decide
    | with_reducible apply State.askRemap_leaves
    | with_reducible apply State.askVerify_leaves
    | with_reducible apply State.evalSector_leaves
    | with_reducible apply Leaves.ite
    | dsimp only

theorem State.ircCtrl_leaves {μ : Nat} {s₀ : State} {s : State} (hl : Leaves μ s₀ s) (hμ : 0x10001990180000012110 ||| μ = μ) (p v : Nat) :
    Leaves μ s₀ (State.ircCtrl s p v) := by
  refine hl.step (k := 0x10001990180000012110) ?_ hμ
  clear hl hμ
  unfold State.ircCtrl
  try dsimp only
  repeat' first
    | with_reducible assumption
    | with_reducible exact Leaves.refl _ _
    | decide
    | with_reducible apply Part.bit (F.IRC_STATUS_LINK_DOWN_part ..)
    | with_reducible apply Part.bit (F.IRC_STATUS_STATE_part ..)
    | with_reducible apply Leaves.wr
    | with_reducible apply State.endQuarantine_leaves
    | with_reducible apply State.portLost_leaves
    | with_reducible apply State.raise_leaves
    | with_reducible apply Leaves.ite
    | dsimp only

theorem State.mrvCtrl_leaves {μ : Nat} {s₀ : State} {s : State} (hl : Leaves μ s₀ s) (hμ : 0x10061b90cf21000c601b ||| μ = μ) (m old : Nat) :
    Leaves μ s₀ (State.mrvCtrl s m old) := by
  refine hl.step (k := 0x10061b90cf21000c601b) ?_ hμ
  clear hl hμ
  unfold State.mrvCtrl
  try dsimp only
  repeat' first
    | with_reducible assumption
    | with_reducible exact Leaves.refl _ _
    | decide
    | with_reducible apply State.deactivate_leaves
    | with_reducible apply State.markLeaders_leaves
    | with_reducible apply State.setMu_leaves
    | with_reducible apply Leaves.ite
    | dsimp only

theorem State.checkRing_leaves {μ : Nat} {s₀ : State} {s : State} (hl : Leaves μ s₀ s) (hμ : 0x800000080000 ||| μ = μ) (k : Nat) :
    Leaves μ s₀ (State.checkRing s k) := by
  refine hl.step (k := 0x800000080000) ?_ hμ
  clear hl hμ
  unfold State.checkRing
  try dsimp only
  repeat' first
    | with_reducible assumption
    | with_reducible exact Leaves.refl _ _
    | decide
    | with_reducible apply Part.bit (F.HBM_RING_BASE_HI_EN_part ..)
    | with_reducible apply Part.bit (F.HBM_STATUS_RING_ERR_part ..)
    | with_reducible apply Leaves.wr
    | with_reducible apply State.setRing_leaves
    | with_reducible apply Leaves.ite
    | dsimp only

theorem State.hbmWritten_leaves {μ : Nat} {s₀ : State} {s : State} (hl : Leaves μ s₀ s) (hμ : 0x800000080000 ||| μ = μ) (c rel : Nat) :
    Leaves μ s₀ (State.hbmWritten s c rel) := by
  refine hl.step (k := 0x800000080000) ?_ hμ
  clear hl hμ
  unfold State.hbmWritten
  try dsimp only
  repeat' first
    | with_reducible assumption
    | with_reducible exact Leaves.refl _ _
    | decide
    | with_reducible apply State.checkRing_leaves
    | with_reducible apply Leaves.ite
    | dsimp only

theorem State.pendMeets_leaves {μ : Nat} {s₀ : State} {s : State} (hl : Leaves μ s₀ s) (hμ : 0x10001990080000002010 ||| μ = μ) (g same : Nat) :
    Leaves μ s₀ (State.pendMeets s g same) := by
  refine hl.step (k := 0x10001990080000002010) ?_ hμ
  clear hl hμ
  unfold State.pendMeets
  try dsimp only
  repeat' first
    | with_reducible assumption
    | with_reducible exact Leaves.refl _ _
    | decide
    | with_reducible apply State.raise_leaves
    | with_reducible refine Leaves.forEach (fun _ _ _ => ?_) ?_
    | with_reducible refine Leaves.forEachFst (fun _ _ _ => ?_) ?_
    | dsimp only

theorem State.written_leaves {μ : Nat} {s₀ : State} {s : State} (hl : Leaves μ s₀ s) (hμ : 0x189ffff0df21001fef7f ||| μ = μ) (b : Block) (i rel old v : Nat) :
    Leaves μ s₀ (State.written s b i rel old v) := by
  refine hl.step (k := 0x189ffff0df21001fef7f) ?_ hμ
  clear hl hμ
  unfold State.written
  try dsimp only
  repeat' first
    | with_reducible assumption
    | with_reducible exact Leaves.refl _ _
    | decide
    | with_reducible apply Part.bit (F.LCS_DBG_CTRL_RELEASE_part ..)
    | with_reducible apply Leaves.wr
    | with_reducible apply State.applyPll_leaves
    | with_reducible apply State.askConfirm_leaves
    | with_reducible apply State.askS4_leaves
    | with_reducible apply State.dmaWritten_leaves
    | with_reducible apply State.evalVotes_leaves
    | with_reducible apply State.hbmWritten_leaves
    | with_reducible apply State.ircCtrl_leaves
    | with_reducible apply State.mrvCtrl_leaves
    | with_reducible apply State.ptpWritten_leaves
    | with_reducible apply State.release_leaves
    | with_reducible apply State.requestSwitch_leaves
    | with_reducible apply State.revoke_leaves
    | with_reducible apply State.secCtrl_leaves
    | with_reducible apply State.showStore_leaves
    | with_reducible apply State.startProg_leaves
    | with_reducible apply State.startTraining_leaves
    | with_reducible apply State.stoCtrl_leaves
    | with_reducible apply State.takeQueue_leaves
    | with_reducible apply State.tbCtrl_leaves
    | with_reducible apply Leaves.ite
    | split
    | dsimp only

theorem State.dbgWrite_leaves {μ : Nat} {s₀ : State} {s : State} (hl : Leaves μ s₀ s) (hμ : 0x100019900800007fffff ||| μ = μ) (p : Path) (off v : Nat) :
    Leaves μ s₀ (State.dbgWrite s p off v) := by
  refine hl.step (k := 0x100019900800007fffff) ?_ hμ
  clear hl hμ
  unfold State.dbgWrite
  try dsimp only
  repeat' first
    | with_reducible assumption
    | with_reducible exact Leaves.refl _ _
    | decide
    | with_reducible apply State.accessErr_leaves
    | with_reducible apply State.countAccess_leaves
    | with_reducible apply Leaves.setReg
    | exact Mask.bit (regPart_bit _) (by decide)
    | with_reducible apply Leaves.ite
    | dsimp only

theorem State.columnsAs_leaves {μ : Nat} {s₀ : State} {s : State} (hl : Leaves μ s₀ s) (hμ : 0x400000000000 ||| μ = μ) (b : Block) (i : Nat) :
    Leaves μ s₀ (State.columnsAs s b i) := by
  refine hl.step (k := 0x400000000000) ?_ hμ
  clear hl hμ
  unfold State.columnsAs
  try dsimp only
  repeat' first
    | with_reducible assumption
    | with_reducible exact Leaves.refl _ _
    | decide
    | with_reducible apply State.drainFifo_leaves
    | with_reducible apply Leaves.ite
    | dsimp only

theorem State.write32_leaves {μ : Nat} {s₀ : State} {s : State} (hl : Leaves μ s₀ s) (hμ : 0x189ffff4df21007fffff ||| μ = μ) (p : Path) (off v : Nat) :
    Leaves μ s₀ (State.write32 s p off v) := by
  refine hl.step (k := 0x189ffff4df21007fffff) ?_ hμ
  clear hl hμ
  unfold State.write32
  try dsimp only
  repeat' first
    | with_reducible assumption
    | with_reducible exact Leaves.refl _ _
    | decide
    | with_reducible apply State.accessErr_leaves
    | with_reducible apply State.columnsAs_leaves
    | with_reducible apply State.dbgWrite_leaves
    | with_reducible apply State.storeReg_leaves
    | with_reducible apply State.written_leaves
    | with_reducible apply Leaves.ite
    | split
    | dsimp only

theorem State.ctrlWrite_leaves {μ : Nat} {s₀ : State} {s : State} (hl : Leaves μ s₀ s) (hμ : 0x189ffff4df21007fffff ||| μ = μ) (p : Path) (width off v : Nat) :
    Leaves μ s₀ (State.ctrlWrite s p width off v) := by
  refine hl.step (k := 0x189ffff4df21007fffff) ?_ hμ
  clear hl hμ
  unfold State.ctrlWrite
  try dsimp only
  repeat' first
    | with_reducible assumption
    | with_reducible exact Leaves.refl _ _
    | decide
    | with_reducible apply State.accessErr_leaves
    | with_reducible apply State.write32_leaves
    | with_reducible apply Leaves.ite
    | dsimp only

theorem State.access_leaves {μ : Nat} {s₀ : State} {s : State} (hl : Leaves μ s₀ s) (hμ : 0x1b9ffff4df21027fffff ||| μ = μ) (p : Path) (width off : Nat) (write : Option (BitVec 64)) :
    Leaves μ s₀ (State.access s p width off write) := by
  refine hl.step (k := 0x1b9ffff4df21027fffff) ?_ hμ
  clear hl hμ
  unfold State.access
  try dsimp only
  repeat' first
    | with_reducible assumption
    | with_reducible exact Leaves.refl _ _
    | decide
    | with_reducible apply State.ctrlRead_leaves
    | with_reducible apply State.ctrlWrite_leaves
    | split
    | dsimp only

theorem onPath_leaves {m : Nat} {s t : State} {p : Path} {f : State → State} (h : onPath p s f = .next t)
    (hf : Leaves m s (f s)) : Leaves m s t := act_leaves h (.ite hf (.refl _ _))

theorem writeAt_leaves {s t : State} (p : Path) (off : Nat) (v : BitVec 32) (h : writeAt p off v s = .next t) :
    Leaves 0x189ffff4df21007fffff s t := onPath_leaves h (State.write32_leaves (.refl _ _) (by decide) _ _ _)

theorem execRegisterWrite_leaves {s s' : State} (a : Access) (v : BitVec 64) (h : execRegisterWrite a v s = .next s') : Leaves 0x189ffff4df21007fffff s s' := by
  unfold execRegisterWrite at h
  refine onPath_leaves h ?_
  try dsimp only
  clear h
  repeat' first
    | with_reducible apply State.endClock_leaves
    | with_reducible assumption
    | with_reducible exact Leaves.refl _ _
    | decide
    | with_reducible apply State.ctrlWrite_leaves
    | dsimp only

theorem execLoCaptureRead_leaves {s s' : State} (p : Path) (off : BitVec 26) (h : execLoCaptureRead p off s = .next s') : Leaves 0x13001d900800027fffff s s' := by
  unfold execLoCaptureRead at h
  refine onPath_leaves h ?_
  try dsimp only
  clear h
  repeat' first
    | with_reducible apply State.endClock_leaves
    | with_reducible assumption
    | with_reducible exact Leaves.refl _ _
    | decide
    | with_reducible apply State.ctrlRead_leaves
    | dsimp only

theorem execCounterSnapshotRead_leaves {s s' : State} (p : Path) (off : BitVec 26) (h : execCounterSnapshotRead p off s = .next s') : Leaves 0x13001d900800027fffff s s' := by
  unfold execCounterSnapshotRead at h
  refine onPath_leaves h ?_
  try dsimp only
  clear h
  repeat' first
    | with_reducible apply State.endClock_leaves
    | with_reducible assumption
    | with_reducible exact Leaves.refl _ _
    | decide
    | with_reducible apply State.ctrlRead_leaves
    | dsimp only

theorem execArrayDebugWindowAccess_leaves {s s' : State} (a : Access) (write : Option (BitVec 64)) (h : execArrayDebugWindowAccess a write s = .next s') : Leaves 0x1b9ffff4df21027fffff s s' := by
  unfold execArrayDebugWindowAccess at h
  refine onPath_leaves h ?_
  try dsimp only
  clear h
  repeat' first
    | with_reducible apply State.endClock_leaves
    | with_reducible assumption
    | with_reducible exact Leaves.refl _ _
    | decide
    | with_reducible apply State.access_leaves
    | with_reducible apply Leaves.ite
    | dsimp only

theorem execDebugDmReadTimeout_leaves {s s' : State} (p : Path) (off : BitVec 26) (h : execDebugDmReadTimeout p off s = .next s') : Leaves 0x13000000000000000001 s s' := by
  unfold execDebugDmReadTimeout at h
  refine act_leaves h ?_
  try dsimp only
  clear h
  repeat' first
    | with_reducible apply State.endClock_leaves
    | with_reducible assumption
    | with_reducible exact Leaves.refl _ _
    | decide
    | with_reducible apply State.answerRead_leaves
    | with_reducible apply State.countAccess_leaves
    | with_reducible apply Leaves.upd_dbgReads
    | split
    | dsimp only

theorem execBar0Request_leaves {s s' : State} (width : Nat) (off : BitVec 26) (write : Option (BitVec 64)) (tlp : Tlp) (h : execBar0Request width off write tlp s = .next s') : Leaves 0x1b9ffff4df21027fffff s s' := by
  unfold execBar0Request at h
  refine actPcie_leaves h ?_
  try dsimp only
  clear h
  repeat' first
    | with_reducible apply State.endClock_leaves
    | with_reducible assumption
    | with_reducible exact Leaves.refl _ _
    | decide
    | with_reducible apply State.access_leaves
    | with_reducible apply State.answerRead_leaves
    | with_reducible apply State.dropTlp_leaves
    | with_reducible apply State.unsupported_leaves
    | with_reducible apply Leaves.ite
    | dsimp only

theorem execDbgMem_leaves {s s' : State} (v : BitVec 64) (h : execDbgMem v s = .next s') : Leaves 0x1b9ffff4df21027fffff s s' := by
  unfold execDbgMem at h
  refine act_leaves h ?_
  try dsimp only
  clear h
  repeat' first
    | with_reducible apply State.endClock_leaves
    | with_reducible assumption
    | with_reducible exact Leaves.refl _ _
    | decide
    | with_reducible apply State.ctrlRead_leaves
    | with_reducible apply State.ctrlWrite_leaves
    | with_reducible apply State.emit_leaves
    | with_reducible apply State.puntyDenied_leaves
    | with_reducible apply State.selectIr_leaves
    | with_reducible apply Leaves.upd_jtag
    | with_reducible apply Leaves.ite
    | dsimp only

theorem execRemap_leaves {s s' : State} (p : Path) (c : Fin 16) (v : BitVec 32) (h : execRemap p c v s = .next s') : Leaves 0x189ffff4df21007fffff s s' :=
  writeAt_leaves _ _ _ h

theorem execVerify_leaves {s s' : State} (p : Path) (c : Fin 16) (v : BitVec 32) (h : execVerify p c v s = .next s') : Leaves 0x189ffff4df21007fffff s s' :=
  writeAt_leaves _ _ _ h

theorem execRingDescriptorWrite_leaves {s s' : State} (p : Path) (k : Fin 4) (w : Fin 5) (v : BitVec 32) (h : execRingDescriptorWrite p k w v s = .next s') : Leaves 0x189ffff4df21007fffff s s' :=
  writeAt_leaves _ _ _ h

theorem execArm_leaves {s s' : State} (p : Path) (v : BitVec 32) (h : execArm p v s = .next s') : Leaves 0x189ffff4df21007fffff s s' :=
  writeAt_leaves _ _ _ h

theorem execCplLoad_leaves {s s' : State} (p : Path) (v : BitVec 32) (h : execCplLoad p v s = .next s') : Leaves 0x189ffff4df21007fffff s s' :=
  writeAt_leaves _ _ _ h

theorem execQuarClr_leaves {s s' : State} (path : Path) (p : Fin 4) (v : BitVec 32) (h : execQuarClr path p v s = .next s') : Leaves 0x189ffff4df21007fffff s s' :=
  writeAt_leaves _ _ _ h

theorem execTrain_leaves {s s' : State} (path : Path) (g : Fin 4) (v : BitVec 32) (h : execTrain path g v s = .next s') : Leaves 0x189ffff4df21007fffff s s' :=
  writeAt_leaves _ _ _ h

theorem execMrvEnWrite_leaves {s s' : State} (path : Path) (m : Fin 16) (v : BitVec 32) (h : execMrvEnWrite path m v s = .next s') : Leaves 0x189ffff4df21007fffff s s' :=
  writeAt_leaves _ _ _ h

theorem execCoefWrite_leaves {s s' : State} (path : Path) (m : Fin 16) (k : Fin 8) (w : Fin 25) (v : BitVec 32) (h : execCoefWrite path m k w v s = .next s') : Leaves 0x189ffff4df21007fffff s s' :=
  writeAt_leaves _ _ _ h

theorem execNocCtrlSwitch_leaves {s s' : State} (path : Path) (v : BitVec 32) (h : execNocCtrlSwitch path v s = .next s') : Leaves 0x189ffff4df21007fffff s s' :=
  writeAt_leaves _ _ _ h

theorem execDmaTailWrite_leaves {s s' : State} (path : Path) (e : Fin 16) (v : BitVec 32) (h : execDmaTailWrite path e v s = .next s') : Leaves 0x189ffff4df21007fffff s s' :=
  writeAt_leaves _ _ _ h

theorem execDmaAbort_leaves {s s' : State} (path : Path) (e : Fin 16) (v : BitVec 32) (h : execDmaAbort path e v s = .next s') : Leaves 0x189ffff4df21007fffff s s' :=
  writeAt_leaves _ _ _ h

theorem execDmaEnWrite_leaves {s s' : State} (path : Path) (e : Fin 16) (v : BitVec 32) (h : execDmaEnWrite path e v s = .next s') : Leaves 0x189ffff4df21007fffff s s' :=
  writeAt_leaves _ _ _ h

theorem execDmaCplTailWrite_leaves {s s' : State} (path : Path) (e : Fin 16) (v : BitVec 32) (h : execDmaCplTailWrite path e v s = .next s') : Leaves 0x189ffff4df21007fffff s s' :=
  writeAt_leaves _ _ _ h

theorem execTsIdRead_leaves {s s' : State} (p : Path) (e : Fin 4) (h : execTsIdRead p e s = .next s') : Leaves 0x13001d900800027fffff s s' := by
  unfold execTsIdRead at h
  refine onPath_leaves h ?_
  try dsimp only
  clear h
  repeat' first
    | with_reducible apply State.endClock_leaves
    | with_reducible assumption
    | with_reducible exact Leaves.refl _ _
    | decide
    | with_reducible apply State.ctrlRead_leaves
    | dsimp only

theorem execPtpOfsNsWrite_leaves {s s' : State} (p : Path) (e : Fin 4) (v : BitVec 32) (h : execPtpOfsNsWrite p e v s = .next s') : Leaves 0x189ffff4df21007fffff s s' :=
  writeAt_leaves _ _ _ h

theorem execMbxTailWrite_leaves {s s' : State} (p : Path) (v : BitVec 32) (h : execMbxTailWrite p v s = .next s') : Leaves 0x189ffff4df21007fffff s s' :=
  writeAt_leaves _ _ _ h

theorem execMbxCplTailWrite_leaves {s s' : State} (p : Path) (v : BitVec 32) (h : execMbxCplTailWrite p v s = .next s') : Leaves 0x189ffff4df21007fffff s s' :=
  writeAt_leaves _ _ _ h

theorem execEvtPendWrite_leaves {s s' : State} (p : Path) (g : Fin 24) (v same : BitVec 32) (h : execEvtPendWrite p g v same s = .next s') : Leaves 0x189ffff4df21007fffff s s' := by
  unfold execEvtPendWrite at h
  refine onPath_leaves h ?_
  try dsimp only
  clear h
  repeat' first
    | with_reducible apply State.endClock_leaves
    | with_reducible assumption
    | with_reducible exact Leaves.refl _ _
    | decide
    | with_reducible apply State.pendMeets_leaves
    | with_reducible apply State.write32_leaves
    | dsimp only

theorem execStoEnWrite_leaves {s s' : State} (p : Path) (v : BitVec 32) (h : execStoEnWrite p v s = .next s') : Leaves 0x189ffff4df21007fffff s s' :=
  writeAt_leaves _ _ _ h

theorem execStoReleaseWrite_leaves {s s' : State} (p : Path) (v : BitVec 32) (h : execStoReleaseWrite p v s = .next s') : Leaves 0x189ffff4df21007fffff s s' :=
  writeAt_leaves _ _ _ h

theorem execStoAbort_leaves {s s' : State} (p : Path) (v : BitVec 32) (h : execStoAbort p v s = .next s') : Leaves 0x189ffff4df21007fffff s s' :=
  writeAt_leaves _ _ _ h

theorem execCfgProgWriteSlot_leaves {s s' : State} (p : Path) (v : BitVec 32) (h : execCfgProgWriteSlot p v s = .next s') : Leaves 0x189ffff4df21007fffff s s' :=
  writeAt_leaves _ _ _ h

theorem execCfgProgEraseSlot_leaves {s s' : State} (p : Path) (v : BitVec 32) (h : execCfgProgEraseSlot p v s = .next s') : Leaves 0x189ffff4df21007fffff s s' :=
  writeAt_leaves _ _ _ h

theorem execCfgProgWriteBootRecord_leaves {s s' : State} (p : Path) (v : BitVec 32) (h : execCfgProgWriteBootRecord p v s = .next s') : Leaves 0x189ffff4df21007fffff s s' :=
  writeAt_leaves _ _ _ h

theorem execCfgProgReadSlot_leaves {s s' : State} (p : Path) (v : BitVec 32) (h : execCfgProgReadSlot p v s = .next s') : Leaves 0x189ffff4df21007fffff s s' :=
  writeAt_leaves _ _ _ h

theorem execCfgProgEraseParison_leaves {s s' : State} (p : Path) (v : BitVec 32) (h : execCfgProgEraseParison p v s = .next s') : Leaves 0x189ffff4df21007fffff s s' :=
  writeAt_leaves _ _ _ h

theorem execConfirm_leaves {s s' : State} (p : Path) (v : BitVec 32) (h : execConfirm p v s = .next s') : Leaves 0x189ffff4df21007fffff s s' :=
  writeAt_leaves _ _ _ h

theorem execPwrVoteWrite_leaves {s s' : State} (p : Path) (n : Fin 17) (v : BitVec 32) (h : execPwrVoteWrite p n v s = .next s') : Leaves 0x189ffff4df21007fffff s s' :=
  writeAt_leaves _ _ _ h

theorem execS4Req_leaves {s s' : State} (p : Path) (v : BitVec 32) (h : execS4Req p v s = .next s') : Leaves 0x189ffff4df21007fffff s s' :=
  writeAt_leaves _ _ _ h

theorem execPwrSaveOfsWrite_leaves {s s' : State} (p : Path) (v : BitVec 32) (h : execPwrSaveOfsWrite p v s = .next s') : Leaves 0x189ffff4df21007fffff s s' :=
  writeAt_leaves _ _ _ h

theorem execApply_leaves {s s' : State} (p : Path) (v : BitVec 32) (h : execApply p v s = .next s') : Leaves 0x189ffff4df21007fffff s s' :=
  writeAt_leaves _ _ _ h

theorem execLcsDbgRelease_leaves {s s' : State} (p : Path) (v : BitVec 32) (h : execLcsDbgRelease p v s = .next s') : Leaves 0x189ffff4df21007fffff s s' :=
  writeAt_leaves _ _ _ h

theorem State.portStrobes_leaves {μ : Nat} {s₀ : State} {s : State} (hl : Leaves μ s₀ s) (hμ : 0x1000000000040 ||| μ = μ) (line : Nat) :
    Leaves μ s₀ (State.portStrobes s line) := by
  refine hl.step (k := 0x1000000000040) ?_ hμ
  clear hl hμ
  unfold State.portStrobes
  try dsimp only
  repeat' first
    | with_reducible assumption
    | with_reducible exact Leaves.refl _ _
    | decide
    | with_reducible apply Part.bit (F.CFG_TRIG_DROP_CNT_COUNT_part ..)
    | with_reducible apply Leaves.bump
    | with_reducible apply Leaves.upd_strobes
    | with_reducible apply Leaves.ite
    | with_reducible refine Leaves.forEach (fun _ _ _ => ?_) ?_
    | with_reducible refine Leaves.forEachFst (fun _ _ _ => ?_) ?_
    | dsimp only

theorem State.deliverLine_leaves {μ : Nat} {s₀ : State} {s : State} (hl : Leaves μ s₀ s) (hμ : 0x10041991284000023150 ||| μ = μ) (h : Held) :
    Leaves μ s₀ (State.deliverLine s h) := by
  refine hl.step (k := 0x10041991284000023150) ?_ hμ
  clear hl hμ
  unfold State.deliverLine
  try dsimp only
  repeat' first
    | with_reducible assumption
    | with_reducible exact Leaves.refl _ _
    | decide
    | with_reducible apply State.emit_leaves
    | with_reducible apply State.passGap_leaves
    | with_reducible apply State.portStrobes_leaves
    | with_reducible apply State.pushTags_leaves
    | with_reducible apply State.setTb_leaves
    | with_reducible apply State.toGaffers_leaves
    | dsimp only

theorem State.passRelease_leaves {μ : Nat} {s₀ : State} {s : State} (hl : Leaves μ s₀ s) (hμ : 0x10001990080000002110 ||| μ = μ) (h : Held) :
    Leaves μ s₀ (State.passRelease s h) := by
  refine hl.step (k := 0x10001990080000002110) ?_ hμ
  clear hl hμ
  unfold State.passRelease
  try dsimp only
  repeat' first
    | with_reducible assumption
    | with_reducible exact Leaves.refl _ _
    | decide
    | with_reducible apply State.passLine_leaves
    | with_reducible apply State.setTb_leaves
    | with_reducible apply Leaves.ite
    | dsimp only

theorem execTriggerRelease_leaves {s s' : State}  (h : execTriggerRelease s = .next s') : Leaves 0x10041991284000023150 s s' := by
  unfold execTriggerRelease at h
  refine act_leaves h ?_
  try dsimp only
  clear h
  repeat' first
    | with_reducible apply State.endClock_leaves
    | with_reducible assumption
    | with_reducible exact Leaves.refl _ _
    | decide
    | with_reducible apply State.deliverLine_leaves
    | with_reducible apply State.followLine_leaves
    | with_reducible apply State.passLine_leaves
    | with_reducible apply State.passRelease_leaves
    | with_reducible apply State.setTb_leaves
    | with_reducible apply Leaves.ite
    | split
    | dsimp only

theorem execTriggerPortStrobe_leaves {s s' : State} (k : Fin 8) (h : execTriggerPortStrobe k s = .next s') : Leaves 0x10000021000000000000 s s' := by
  unfold execTriggerPortStrobe at h
  refine act_leaves h ?_
  try dsimp only
  clear h
  repeat' first
    | with_reducible apply State.endClock_leaves
    | with_reducible assumption
    | with_reducible exact Leaves.refl _ _
    | decide
    | with_reducible apply State.emit_leaves
    | with_reducible apply Leaves.upd_fab
    | with_reducible apply Leaves.upd_strobes
    | split
    | dsimp only

end Sys2Proof.Machine
end

