-- ==== Sys2Proof/Laws/Faults.lean ====
section
/-!
SUPPORT. What each operation of Machine/Faults.lean leaves alone.
-/

set_option linter.all false

namespace Sys2Proof.Machine

theorem State.sectorOff_leaves {μ : Nat} {s₀ : State} {s : State} (hl : Leaves μ s₀ s) (hμ : 0x240000001f3c008000 ||| μ = μ) (c : Nat) :
    Leaves μ s₀ (State.sectorOff s c) := by
  refine hl.step (k := 0x240000001f3c008000) ?_ hμ
  clear hl hμ
  unfold State.sectorOff
  try dsimp only
  repeat' first
    | with_reducible assumption
    | with_reducible exact Leaves.refl _ _
    | decide
    | with_reducible apply Part.bit (F.SEC_STATUS_PSTATE_part ..)
    | with_reducible apply Leaves.wr
    | with_reducible apply State.loseSector_leaves
    | with_reducible apply State.setDom_leaves
    | dsimp only

theorem State.stackOff_leaves {μ : Nat} {s₀ : State} {s : State} (hl : Leaves μ s₀ s) (hμ : 0x40000000000080000 ||| μ = μ) (c : Nat) :
    Leaves μ s₀ (State.stackOff s c) := by
  refine hl.step (k := 0x40000000000080000) ?_ hμ
  clear hl hμ
  unfold State.stackOff
  try dsimp only
  repeat' first
    | with_reducible assumption
    | with_reducible exact Leaves.refl _ _
    | decide
    | with_reducible apply Part.bit (F.HBM_STATUS_SELF_REFRESH_part ..)
    | with_reducible apply Leaves.wr
    | with_reducible apply State.setDom_leaves
    | dsimp only

theorem State.fault0_leaves {μ : Nat} {s₀ : State} {s : State} (hl : Leaves μ s₀ s) (hμ : 0x132759f148df3c3ff95b ||| μ = μ) (r : FaultRec) :
    Leaves μ s₀ (State.fault0 s r) := by
  refine hl.step (k := 0x132759f148df3c3ff95b) ?_ hμ
  clear hl hμ
  unfold State.fault0
  try dsimp only
  repeat' first
    | with_reducible assumption
    | with_reducible exact Leaves.refl _ _
    | decide
    | with_reducible apply State.enterSafe_leaves
    | with_reducible apply State.markF0_leaves
    | with_reducible apply State.raise_leaves
    | with_reducible apply State.recordFault_leaves
    | with_reducible apply State.sectorOff_leaves
    | with_reducible apply State.stackOff_leaves
    | with_reducible apply Leaves.ite
    | with_reducible refine Leaves.forEach (fun _ _ _ => ?_) ?_
    | with_reducible refine Leaves.forEachFst (fun _ _ _ => ?_) ?_
    | dsimp only

theorem State.faultF2_leaves {μ : Nat} {s₀ : State} {s : State} (hl : Leaves μ s₀ s) (hμ : 0x110619d008c00010701a ||| μ = μ) (src detail : Nat) :
    Leaves μ s₀ (State.faultF2 s src detail) := by
  refine hl.step (k := 0x110619d008c00010701a) ?_ hμ
  clear hl hμ
  unfold State.faultF2
  try dsimp only
  repeat' first
    | with_reducible assumption
    | with_reducible exact Leaves.refl _ _
    | decide
    | with_reducible apply State.fault2_leaves
    | with_reducible apply State.report_leaves
    | with_reducible apply State.stepPllFault_leaves
    | with_reducible apply Leaves.ite
    | split
    | dsimp only

theorem State.heat_leaves {μ : Nat} {s₀ : State} {s : State} (hl : Leaves μ s₀ s) (hμ : 0x8 ||| μ = μ) (src detail : Nat) :
    Leaves μ s₀ (State.heat s src detail) := by
  refine hl.step (k := 0x8) ?_ hμ
  clear hl hμ
  unfold State.heat
  try dsimp only
  repeat' first
    | with_reducible assumption
    | with_reducible exact Leaves.refl _ _
    | decide
    | with_reducible apply Part.bit (F.FLT_TEMP_MAX_part ..)
    | with_reducible apply Leaves.wr
    | with_reducible apply Leaves.ite
    | dsimp only

theorem State.faultF3_leaves {μ : Nat} {s₀ : State} {s : State} (hl : Leaves μ s₀ s) (hμ : 0x100a1990080000002018 ||| μ = μ) (src detail : Nat) :
    Leaves μ s₀ (State.faultF3 s src detail) := by
  refine hl.step (k := 0x100a1990080000002018) ?_ hμ
  clear hl hμ
  unfold State.faultF3
  try dsimp only
  repeat' first
    | with_reducible assumption
    | with_reducible exact Leaves.refl _ _
    | decide
    | with_reducible apply State.report_leaves
    | with_reducible apply Leaves.upd_lehr
    | with_reducible apply Leaves.ite
    | with_reducible apply Leaves.iteFst
    | dsimp only

theorem State.rearm_leaves {μ : Nat} {s₀ : State} {s : State} (hl : Leaves μ s₀ s) (hμ : 0x20000000000000000 ||| μ = μ) (src detail : Nat) :
    Leaves μ s₀ (State.rearm s src detail) := by
  refine hl.step (k := 0x20000000000000000) ?_ hμ
  clear hl hμ
  unfold State.rearm
  try dsimp only
  repeat' first
    | with_reducible assumption
    | with_reducible exact Leaves.refl _ _
    | decide
    | with_reducible apply Leaves.upd_flt
    | with_reducible apply Leaves.ite
    | dsimp only

theorem State.occurrence_leaves {μ : Nat} {s₀ : State} {s : State} (hl : Leaves μ s₀ s) (hμ : 0x132f79f148df3c3ff95b ||| μ = μ) (src detail : Nat) :
    Leaves μ s₀ (State.occurrence s src detail) := by
  refine hl.step (k := 0x132f79f148df3c3ff95b) ?_ hμ
  clear hl hμ
  unfold State.occurrence
  try dsimp only
  repeat' first
    | with_reducible assumption
    | with_reducible exact Leaves.refl _ _
    | decide
    | with_reducible apply State.fault0_leaves
    | with_reducible apply State.fault1_leaves
    | with_reducible apply State.faultF2_leaves
    | with_reducible apply State.faultF3_leaves
    | with_reducible apply State.heat_leaves
    | with_reducible apply State.raise_leaves
    | with_reducible apply State.rearm_leaves
    | with_reducible apply Leaves.ite
    | split
    | dsimp only

theorem execFaultOccurrence_leaves {s s' : State} (src : Fin 64) (detail : BitVec 32) (also : List (Fin 64 × BitVec 32)) (h : execFaultOccurrence src detail also s = .next s') : Leaves 0x132f79f148df3c3ff95b s s' := by
  unfold execFaultOccurrence at h
  refine act_leaves h ?_
  try dsimp only
  clear h
  repeat' first
    | with_reducible apply State.endClock_leaves
    | with_reducible assumption
    | with_reducible exact Leaves.refl _ _
    | decide
    | with_reducible apply State.occurrence_leaves
    | with_reducible refine Leaves.forEach (fun _ _ _ => ?_) ?_
    | with_reducible refine Leaves.forEachFst (fun _ _ _ => ?_) ?_
    | dsimp only

theorem execMcWatchdog_leaves {s s' : State}  (h : execMcWatchdog s = .next s') : Leaves 0x100a3990084000002019 s s' := by
  unfold execMcWatchdog at h
  refine act_leaves h ?_
  try dsimp only
  clear h
  repeat' first
    | with_reducible apply State.endClock_leaves
    | with_reducible assumption
    | with_reducible exact Leaves.refl _ _
    | decide
    | with_reducible apply State.fault1_leaves
    | dsimp only

theorem State.markWire_leaves {μ : Nat} {s₀ : State} {s : State} (hl : Leaves μ s₀ s) (hμ : 0x10001990080000002018 ||| μ = μ) (src : Nat) :
    Leaves μ s₀ (State.markWire s src) := by
  refine hl.step (k := 0x10001990080000002018) ?_ hμ
  clear hl hμ
  unfold State.markWire
  try dsimp only
  repeat' first
    | with_reducible assumption
    | with_reducible exact Leaves.refl _ _
    | decide
    | with_reducible apply Part.bit (F.FLT_STAT_WIRE_part ..)
    | (with_reducible apply Part.bit (p := .fltRegs) <;> first | decide | exact regPart_fltRegs (by omega) (by omega))
    | with_reducible apply Leaves.wr
    | with_reducible apply Leaves.setReg
    | with_reducible apply State.raise_leaves
    | exact Mask.bit (regPart_bit _) (by decide)
    | dsimp only

theorem execBrokenWire_leaves {s s' : State} (src : Fin 64) (h : execBrokenWire src s = .next s') : Leaves 0x1b2f79f148df3c3ff95b s s' := by
  unfold execBrokenWire at h
  refine act_leaves h ?_
  try dsimp only
  clear h
  repeat' first
    | with_reducible apply State.endClock_leaves
    | with_reducible assumption
    | with_reducible exact Leaves.refl _ _
    | decide
    | with_reducible apply State.drawn_leaves
    | with_reducible apply State.fault0_leaves
    | with_reducible apply State.fault1_leaves
    | with_reducible apply State.markWire_leaves
    | with_reducible apply State.recordFault_leaves
    | with_reducible apply Leaves.ite
    | split
    | dsimp only

theorem execPairTest_leaves {s s' : State}  (h : execPairTest s = .next s') : Leaves 0x20000000000000008 s s' := by
  unfold execPairTest at h
  refine act_leaves h ?_
  try dsimp only
  clear h
  repeat' first
    | with_reducible apply State.endClock_leaves
    | with_reducible assumption
    | with_reducible exact Leaves.refl _ _
    | decide
    | with_reducible apply Part.bit (F.FLT_STAT_TEST_BUSY_part ..)
    | with_reducible apply Leaves.wr
    | with_reducible apply Leaves.upd_flt
    | dsimp only

theorem execPairTestTimeout_leaves {s s' : State} (src : Fin 64) (h : execPairTestTimeout src s = .next s') : Leaves 0x18021990080000002018 s s' := by
  unfold execPairTestTimeout at h
  refine act_leaves h ?_
  try dsimp only
  clear h
  repeat' first
    | with_reducible apply State.endClock_leaves
    | with_reducible assumption
    | with_reducible exact Leaves.refl _ _
    | decide
    | with_reducible apply State.drawn_leaves
    | with_reducible apply State.markWire_leaves
    | with_reducible apply State.recordFault_leaves
    | split
    | dsimp only

theorem execLcFaultPulseEnd_leaves {s s' : State} (netLow : Bool) (h : execLcFaultPulseEnd netLow s = .next s') : Leaves 0x20000000000000008 s s' := by
  unfold execLcFaultPulseEnd at h
  refine act_leaves h ?_
  try dsimp only
  clear h
  repeat' first
    | with_reducible apply State.endClock_leaves
    | with_reducible assumption
    | with_reducible exact Leaves.refl _ _
    | decide
    | with_reducible apply Part.bit (F.FLT_STAT_PIN_LEVEL_part ..)
    | with_reducible apply Leaves.wr
    | with_reducible apply Leaves.upd_flt
    | dsimp only

end Sys2Proof.Machine
end

