-- ==== Sys2Proof/Laws/Region.lean ====
section
/-!
SUPPORT. What each operation of Machine/Region.lean leaves alone.
-/

set_option linter.all false

namespace Sys2Proof.Machine

theorem State.startOrFail_leaves {μ : Nat} {s₀ : State} {s : State} (hl : Leaves μ s₀ s) (hμ : 0x110019d0080000102010 ||| μ = μ) (n : Nat) (go : State → State) (hgo : ∀  u, Leaves μ s₀ u → Leaves μ s₀ (go  u)) :
    Leaves μ s₀ (State.startOrFail s n go) := by
  unfold State.startOrFail
  try dsimp only
  repeat' first
    | with_reducible apply hgo
    | with_reducible exact Mask.trans (by decide) hμ
    | with_reducible exact Mask.bit (by decide) hμ
    | with_reducible assumption
    | with_reducible exact Leaves.refl _ _
    | decide
    | with_reducible apply State.startFailed_leaves
    | with_reducible apply Leaves.ite
    | dsimp only

theorem execRegionStart_leaves {s s' : State}  (h : execRegionStart s = .next s') : Leaves 0x110419d008e83110711a s s' := by
  unfold execRegionStart at h
  refine act_leaves h ?_
  try dsimp only
  clear h
  repeat' first
    | with_reducible apply State.endClock_leaves
    | with_reducible assumption
    | with_reducible exact Leaves.refl _ _
    | decide
    | with_reducible apply State.beginStart_leaves
    | with_reducible apply State.endShort_leaves
    | with_reducible apply State.startOrFail_leaves
    | intro _
    | with_reducible apply State.startShort_leaves
    | with_reducible apply Leaves.ite
    | split
    | dsimp only

theorem State.stopRegion_leaves {μ : Nat} {s₀ : State} {s : State} (hl : Leaves μ s₀ s) (hμ : 0x1004199008c000007012 ||| μ = μ) (n : Nat) :
    Leaves μ s₀ (State.stopRegion s n) := by
  refine hl.step (k := 0x1004199008c000007012) ?_ hμ
  clear hl hμ
  unfold State.stopRegion
  try dsimp only
  repeat' first
    | with_reducible assumption
    | with_reducible exact Leaves.refl _ _
    | decide
    | with_reducible apply State.cancelNext_leaves
    | with_reducible apply State.halted_leaves
    | with_reducible apply State.setGaf_leaves
    | with_reducible apply Leaves.ite
    | dsimp only

theorem execRegionStop_leaves {s s' : State}  (h : execRegionStop s = .next s') : Leaves 0x110419d008c000107012 s s' := by
  unfold execRegionStop at h
  refine act_leaves h ?_
  try dsimp only
  clear h
  repeat' first
    | with_reducible apply State.endClock_leaves
    | with_reducible assumption
    | with_reducible exact Leaves.refl _ _
    | decide
    | with_reducible apply State.endShort_leaves
    | with_reducible apply State.startShort_leaves
    | with_reducible apply State.stopRegion_leaves
    | with_reducible apply Leaves.ite
    | split
    | dsimp only

theorem execRegionRestart_leaves {s s' : State}  (h : execRegionRestart s = .next s') : Leaves 0x110419d008e83110711a s s' := by
  unfold execRegionRestart at h
  refine act_leaves h ?_
  try dsimp only
  clear h
  repeat' first
    | with_reducible apply State.endClock_leaves
    | with_reducible assumption
    | with_reducible exact Leaves.refl _ _
    | decide
    | with_reducible apply State.cancelNext_leaves
    | with_reducible apply State.endShort_leaves
    | with_reducible apply State.restartNow_leaves
    | with_reducible apply State.setGaf_leaves
    | with_reducible apply State.startOrFail_leaves
    | intro _
    | with_reducible apply State.startShort_leaves
    | with_reducible apply Leaves.ite
    | split
    | dsimp only

theorem State.dropStart_leaves {μ : Nat} {s₀ : State} {s : State} (hl : Leaves μ s₀ s) (hμ : 0x110019d0084000102010 ||| μ = μ) (n : Nat) :
    Leaves μ s₀ (State.dropStart s n) := by
  refine hl.step (k := 0x110019d0084000102010) ?_ hμ
  clear hl hμ
  unfold State.dropStart
  try dsimp only
  repeat' first
    | with_reducible assumption
    | with_reducible exact Leaves.refl _ _
    | decide
    | with_reducible apply State.regionDone_leaves
    | with_reducible apply State.setGaf_leaves
    | with_reducible apply Leaves.ite
    | dsimp only

theorem execShutdownOrderly_leaves {s s' : State}  (h : execShutdownOrderly s = .next s') : Leaves 0x112599d008c000107892 s s' := by
  unfold execShutdownOrderly at h
  refine act_leaves h ?_
  try dsimp only
  clear h
  repeat' first
    | with_reducible apply State.endClock_leaves
    | with_reducible assumption
    | with_reducible exact Leaves.refl _ _
    | decide
    | with_reducible apply Part.bit (F.BST_STAT_BUSY_part ..)
    | with_reducible apply Leaves.wr
    | with_reducible apply State.dropStart_leaves
    | with_reducible apply State.endLong_leaves
    | with_reducible apply State.endStore_leaves
    | with_reducible apply State.startLong_leaves
    | with_reducible apply State.stopRegion_leaves
    | with_reducible apply State.testSectors_leaves
    | with_reducible apply Leaves.upd_bst
    | with_reducible apply Leaves.ite
    | with_reducible refine Leaves.forEach (fun _ _ _ => ?_) ?_
    | with_reducible refine Leaves.forEachFst (fun _ _ _ => ?_) ?_
    | split
    | dsimp only

theorem State.writeShut_leaves {μ : Nat} {s₀ : State} {s : State} (hl : Leaves μ s₀ s) (hμ : 0x2000000000000000 ||| μ = μ) (clean : Bool) :
    Leaves μ s₀ (State.writeShut s clean) := by
  refine hl.step (k := 0x2000000000000000) ?_ hμ
  clear hl hμ
  unfold State.writeShut
  try dsimp only
  repeat' first
    | with_reducible assumption
    | with_reducible exact Leaves.refl _ _
    | decide
    | with_reducible apply State.setShutRec_leaves
    | with_reducible apply State.storeWrite_leaves
    | dsimp only

theorem State.noContent_leaves {μ : Nat} {s₀ : State} {s : State} (hl : Leaves μ s₀ s) (hμ : 0x102419b108df3c00705a ||| μ = μ)  :
    Leaves μ s₀ (State.noContent s) := by
  refine hl.step (k := 0x102419b108df3c00705a) ?_ hμ
  clear hl hμ
  unfold State.noContent
  try dsimp only
  repeat' first
    | with_reducible assumption
    | with_reducible exact Leaves.refl _ _
    | decide
    | with_reducible apply Part.bit (F.FLT_STAT_FENCED_part ..)
    | with_reducible apply Part.bit (F.CFG_STAT_IMAGE_OK_part ..)
    | with_reducible apply Leaves.wr
    | with_reducible apply State.halted_leaves
    | with_reducible apply State.offPart_leaves
    | with_reducible apply State.patternAll_leaves
    | with_reducible apply readyFld_bit
    | with_reducible apply Leaves.ite
    | with_reducible refine Leaves.forEach (fun _ _ _ => ?_) ?_
    | with_reducible refine Leaves.forEachFst (fun _ _ _ => ?_) ?_
    | dsimp only

theorem execShutdownOrderlyComplete_leaves {s s' : State} (found : List Found) (h : execShutdownOrderlyComplete found s = .next s') : Leaves 0x112db9f108df3c10f8da s s' := by
  unfold execShutdownOrderlyComplete at h
  refine act_leaves h ?_
  try dsimp only
  clear h
  repeat' first
    | with_reducible apply State.endClock_leaves
    | with_reducible assumption
    | with_reducible exact Leaves.refl _ _
    | decide
    | with_reducible apply Part.bit (F.BST_STAT_BUSY_part ..)
    | with_reducible apply Leaves.wr
    | with_reducible apply State.captureSave_leaves
    | with_reducible apply State.endLong_leaves
    | with_reducible apply State.endStore_leaves
    | with_reducible apply State.noContent_leaves
    | with_reducible apply State.raise_leaves
    | with_reducible apply State.takeTest_leaves
    | with_reducible apply State.testSectors_leaves
    | with_reducible apply State.writeShut_leaves
    | with_reducible apply Leaves.upd_bst
    | with_reducible apply Leaves.ite
    | dsimp only

end Sys2Proof.Machine
end

