-- ==== Sys2Proof/Laws/FullLoad.lean ====
section
/-!
SUPPORT. What each operation of Machine/FullLoad.lean leaves alone.
-/

set_option linter.all false

namespace Sys2Proof.Machine

theorem State.loadParts_leaves {μ : Nat} {s₀ : State} {s : State} (hl : Leaves μ s₀ s) (hμ : 0x2500000c7fffff ||| μ = μ) (g : Src) (ρ : List Nat) :
    Leaves μ s₀ (State.loadParts s g ρ).1 := by
  refine hl.step (k := 0x2500000c7fffff) ?_ hμ
  clear hl hμ
  induction ρ generalizing s g with
  | nil =>
    unfold State.loadParts
    repeat' first
      | with_reducible assumption
      | with_reducible exact Leaves.refl _ _
      | decide
      | with_reducible apply State.clearPart_leaves
      | with_reducible apply State.isolatePart_leaves
      | with_reducible apply State.loadImage_leaves
      | with_reducible apply State.markEss_leaves
      | with_reducible apply Leaves.upd_fab
      | split
      | dsimp only
  | cons x xs ih =>
    unfold State.loadParts
    try dsimp only
    repeat' first
      | with_reducible assumption
      | with_reducible exact Leaves.refl _ _
      | decide
      | with_reducible apply State.clearPart_leaves
      | with_reducible apply State.isolatePart_leaves
      | with_reducible apply State.loadImage_leaves
      | with_reducible apply State.markEss_leaves
      | with_reducible apply Leaves.upd_fab
      | split
      | dsimp only
      | (with_reducible refine Leaves.step ?_ (ih ..) (by decide))

theorem State.writeAtStart_leaves {μ : Nat} {s₀ : State} {s : State} (hl : Leaves μ s₀ s) (hμ : 0x20002400000c7fffff ||| μ = μ) (g : Src) (pick : Pick) (kept : Nat → Bool) :
    Leaves μ s₀ (State.writeAtStart s g pick kept).1 := by
  refine hl.step (k := 0x20002400000c7fffff) ?_ hμ
  clear hl hμ
  unfold State.writeAtStart
  try dsimp only
  repeat' first
    | with_reducible assumption
    | with_reducible exact Leaves.refl _ _
    | decide
    | with_reducible apply State.clearAll_leaves
    | with_reducible apply State.loadImage_leaves
    | with_reducible apply State.markEss_leaves
    | with_reducible apply Leaves.upd_fab
    | split
    | dsimp only

theorem State.writeRunning_leaves {μ : Nat} {s₀ : State} {s : State} (hl : Leaves μ s₀ s) (hμ : 0x20002500000c7fffff ||| μ = μ) (g : Src) :
    Leaves μ s₀ (State.writeRunning s g).1 := by
  refine hl.step (k := 0x20002500000c7fffff) ?_ hμ
  clear hl hμ
  unfold State.writeRunning
  try dsimp only
  repeat' first
    | with_reducible assumption
    | with_reducible exact Leaves.refl _ _
    | decide
    | with_reducible apply State.clearArray_leaves
    | with_reducible apply State.loadImage_leaves
    | with_reducible apply State.loadParts_leaves
    | (refine Leaves.pair (by assumption) ?_; with_reducible apply State.loadParts_leaves)
    | split
    | dsimp only

theorem State.writeFull_leaves {μ : Nat} {s₀ : State} {s : State} (hl : Leaves μ s₀ s) (hμ : 0x20002500000c7fffff ||| μ = μ) (l : Load) (g : Src) :
    Leaves μ s₀ (State.writeFull s l g).1 := by
  refine hl.step (k := 0x20002500000c7fffff) ?_ hμ
  clear hl hμ
  unfold State.writeFull
  try dsimp only
  repeat' first
    | with_reducible assumption
    | with_reducible exact Leaves.refl _ _
    | decide
    | with_reducible apply Part.bit (F.SYS_START_STAT_SKIP_part ..)
    | with_reducible apply Leaves.wr
    | with_reducible apply State.writeAtStart_leaves
    | with_reducible apply State.writeRunning_leaves
    | with_reducible apply Leaves.ite
    | (refine Leaves.pair (by assumption) ?_; with_reducible apply State.writeAtStart_leaves)
    | (refine Leaves.pair (by assumption) ?_; with_reducible apply State.writeRunning_leaves)
    | split
    | dsimp only

theorem State.readFlash_leaves {μ : Nat} {s₀ : State} {s : State} (hl : Leaves μ s₀ s) (hμ : 0x10000000000000000000 ||| μ = μ) (f : Flash) (a : Nat) :
    Leaves μ s₀ (State.readFlash s f a) := by
  refine hl.step (k := 0x10000000000000000000) ?_ hμ
  clear hl hμ
  unfold State.readFlash
  try dsimp only
  repeat' first
    | with_reducible assumption
    | with_reducible exact Leaves.refl _ _
    | decide
    | with_reducible apply State.emit_leaves
    | with_reducible apply Leaves.ite
    | split
    | dsimp only

theorem State.loadHbm_leaves {μ : Nat} {s₀ : State} {s0 : State} (hl : Leaves μ s₀ s0) (hμ : 0x102219b50c000c7fffff ||| μ = μ) (l : Load) (a len src : Nat) (serial : Bool) :
    Leaves μ s₀ (State.loadHbm s0 l a len src serial).1 := by
  refine hl.step (k := 0x102219b50c000c7fffff) ?_ hμ
  clear hl hμ
  unfold State.loadHbm
  try dsimp only
  repeat' first
    | with_reducible assumption
    | with_reducible exact Leaves.refl _ _
    | decide
    | with_reducible apply State.readHbm_leaves
    | with_reducible apply State.writeFull_leaves
    | (refine Leaves.pair (by assumption) ?_; with_reducible apply State.writeFull_leaves)
    | split
    | dsimp only

theorem State.runLoad_leaves {μ : Nat} {s₀ : State} {s : State} (hl : Leaves μ s₀ s) (hμ : 0x10261bb50f000c7fffff ||| μ = μ) (l : Load) (upset : Option Nat) (f : Flash) :
    Leaves μ s₀ (State.runLoad s l upset f).1 := by
  refine hl.step (k := 0x10261bb50f000c7fffff) ?_ hμ
  clear hl hμ
  unfold State.runLoad
  try dsimp only
  repeat' first
    | with_reducible assumption
    | with_reducible exact Leaves.refl _ _
    | decide
    | with_reducible apply State.hbmWrite_leaves
    | with_reducible apply State.loadHbm_leaves
    | with_reducible apply State.writeFull_leaves
    | with_reducible apply Leaves.ite
    | with_reducible apply Leaves.iteFst
    | (refine Leaves.pair (by assumption) ?_; with_reducible apply State.loadHbm_leaves)
    | (refine Leaves.pair (by assumption) ?_; with_reducible apply State.writeFull_leaves)
    | split
    | dsimp only

theorem State.restoreReg_leaves {μ : Nat} {s₀ : State} {s : State} (hl : Leaves μ s₀ s) (hμ : 0x189ffff4df21007fffff ||| μ = μ) (off val : Nat) :
    Leaves μ s₀ (State.restoreReg s off val) := by
  refine hl.step (k := 0x189ffff4df21007fffff) ?_ hμ
  clear hl hμ
  unfold State.restoreReg
  try dsimp only
  repeat' first
    | with_reducible assumption
    | with_reducible exact Leaves.refl _ _
    | decide
    | with_reducible apply State.columnsAs_leaves
    | with_reducible apply State.putReg_leaves
    | with_reducible apply State.written_leaves
    | split
    | dsimp only

theorem State.restoreRegs_leaves {μ : Nat} {s₀ : State} {s : State} (hl : Leaves μ s₀ s) (hμ : 0x189ffff4df21007fffff ||| μ = μ)  :
    Leaves μ s₀ (State.restoreRegs s) := by
  refine hl.step (k := 0x189ffff4df21007fffff) ?_ hμ
  clear hl hμ
  unfold State.restoreRegs
  try dsimp only
  repeat' first
    | with_reducible assumption
    | with_reducible exact Leaves.refl _ _
    | decide
    | with_reducible apply Part.bit (F.PWR_SAVE_CFG_CAPTURED_part ..)
    | with_reducible apply Leaves.wr
    | with_reducible apply State.restoreReg_leaves
    | with_reducible apply State.setLdr_leaves
    | with_reducible apply Leaves.upd_start
    | with_reducible apply Leaves.ite
    | with_reducible apply Leaves.iteFst
    | with_reducible refine Leaves.forEach (fun _ _ _ => ?_) ?_
    | with_reducible refine Leaves.forEachFst (fun _ _ _ => ?_) ?_
    | dsimp only

theorem State.regionLoaded_leaves {μ : Nat} {s₀ : State} {s : State} (hl : Leaves μ s₀ s) (hμ : 0x1004199008c000007012 ||| μ = μ) (n : Nat) :
    Leaves μ s₀ (State.regionLoaded s n) := by
  refine hl.step (k := 0x1004199008c000007012) ?_ hμ
  clear hl hμ
  unfold State.regionLoaded
  try dsimp only
  repeat' first
    | with_reducible assumption
    | with_reducible exact Leaves.refl _ _
    | decide
    | with_reducible apply State.halted_leaves
    | with_reducible apply Leaves.wr
    | with_reducible apply readyFld_bit
    | with_reducible apply Leaves.ite
    | dsimp only

theorem State.finishLoad_leaves {μ : Nat} {s₀ : State} {s : State} (hl : Leaves μ s₀ s) (hμ : 0x199ffff4dfe1007fffff ||| μ = μ) (l : Load) (g : Src) :
    Leaves μ s₀ (State.finishLoad s l g) := by
  refine hl.step (k := 0x199ffff4dfe1007fffff) ?_ hμ
  clear hl hμ
  unfold State.finishLoad
  try dsimp only
  repeat' first
    | with_reducible assumption
    | with_reducible exact Leaves.refl _ _
    | decide
    | with_reducible apply Part.bit (F.CFG_STAT_SOURCE_part ..)
    | with_reducible apply Part.bit (F.CFG_STAT_SLOT_part ..)
    | with_reducible apply Part.bit (F.CFG_STAT_IMAGE_OK_part ..)
    | with_reducible apply Part.bit (F.CFG_STAT_GOLDEN_part ..)
    | with_reducible apply Part.bit (F.SYS_START_STAT_PHASE_part ..)
    | (with_reducible apply Part.bit (p := .cfgRegs) <;> first | decide | exact regPart_cfgRegs (by omega) (by omega))
    | with_reducible apply Leaves.wr
    | with_reducible apply Leaves.wr64
    | with_reducible apply State.endLoadCmd_leaves
    | with_reducible apply State.raise_leaves
    | with_reducible apply State.regionLoaded_leaves
    | with_reducible apply State.requestSwitch_leaves
    | with_reducible apply State.restoreRegs_leaves
    | with_reducible apply State.setLdr_leaves
    | with_reducible apply State.showBusy_leaves
    | with_reducible apply State.showStore_leaves
    | with_reducible apply State.useSectors_leaves
    | with_reducible apply Leaves.upd_fab
    | with_reducible apply Leaves.upd_lcs
    | with_reducible apply Leaves.ite
    | with_reducible refine Leaves.forEach (fun _ _ _ => ?_) ?_
    | with_reducible refine Leaves.forEachFst (fun _ _ _ => ?_) ?_
    | dsimp only

theorem State.meetFlash_leaves {μ : Nat} {s₀ : State} {s : State} (hl : Leaves μ s₀ s) (hμ : 0x10000000000000000000 ||| μ = μ) (l : Load) (f : Flash) :
    Leaves μ s₀ (State.meetFlash s l f) := by
  refine hl.step (k := 0x10000000000000000000) ?_ hμ
  clear hl hμ
  unfold State.meetFlash
  try dsimp only
  repeat' first
    | with_reducible assumption
    | with_reducible exact Leaves.refl _ _
    | decide
    | with_reducible apply State.readFlash_leaves
    | with_reducible apply Leaves.ite
    | dsimp only

theorem execFullLoadComplete_leaves {s s' : State} (upset : Option (BitVec 31)) (flash : Flash) (up : Upsets) (h : execFullLoadComplete upset flash up s = .next s') : Leaves 0x1bbffff5dfe10c7fffff s s' := by
  unfold execFullLoadComplete at h
  refine act_leaves h ?_
  try dsimp only
  clear h
  repeat' first
    | with_reducible apply State.endClock_leaves
    | with_reducible assumption
    | with_reducible exact Leaves.refl _ _
    | decide
    | with_reducible apply State.drainPart_leaves
    | with_reducible apply State.failLoad_leaves
    | with_reducible apply State.finishLoad_leaves
    | with_reducible apply State.idleNow_leaves
    | with_reducible apply State.meetFlash_leaves
    | with_reducible apply State.onceHbm_leaves
    | intro _
    | with_reducible apply State.runLoad_leaves
    | with_reducible apply State.undrain_leaves
    | with_reducible apply State.upsets_leaves
    | with_reducible apply State.waitHost_leaves
    | with_reducible apply Leaves.ite
    | with_reducible refine Leaves.forEach (fun _ _ _ => ?_) ?_
    | with_reducible refine Leaves.forEachFst (fun _ _ _ => ?_) ?_
    | (refine Leaves.pair (by assumption) ?_; with_reducible apply State.runLoad_leaves)
    | split
    | dsimp only

theorem execHostWaitExpiry_leaves {s s' : State}  (h : execHostWaitExpiry s = .next s') : Leaves 0x130779f148c00037795b s s' := by
  unfold execHostWaitExpiry at h
  refine act_leaves h ?_
  try dsimp only
  clear h
  repeat' first
    | with_reducible apply State.endClock_leaves
    | with_reducible assumption
    | with_reducible exact Leaves.refl _ _
    | decide
    | with_reducible apply State.loadErr_leaves
    | with_reducible apply State.raise_leaves
    | with_reducible apply State.setLdr_leaves
    | with_reducible apply State.startFails_leaves
    | with_reducible apply Leaves.ite
    | dsimp only

theorem State.stageOn_leaves {μ : Nat} {s₀ : State} {s : State} (hl : Leaves μ s₀ s) (hμ : 0x20000000000000 ||| μ = μ) (r : Releasing) :
    Leaves μ s₀ (State.stageOn s r) := by
  refine hl.step (k := 0x20000000000000) ?_ hμ
  clear hl hμ
  unfold State.stageOn
  try dsimp only
  repeat' first
    | with_reducible assumption
    | with_reducible exact Leaves.refl _ _
    | decide
    | with_reducible apply Leaves.upd_fab
    | split
    | dsimp only

theorem execReleaseBegin_leaves {s s' : State}  (h : execReleaseBegin s = .next s') : Leaves 0x20000000000000 s s' := by
  unfold execReleaseBegin at h
  refine act_leaves h ?_
  try dsimp only
  clear h
  repeat' first
    | with_reducible apply State.endClock_leaves
    | with_reducible assumption
    | with_reducible exact Leaves.refl _ _
    | decide
    | with_reducible apply State.stageOn_leaves
    | with_reducible apply Leaves.ite
    | split
    | dsimp only

theorem execPllTimeoutExpiry_leaves {s s' : State}  (h : execPllTimeoutExpiry s = .next s') : Leaves 0x130779f148c00037795b s s' := by
  unfold execPllTimeoutExpiry at h
  refine act_leaves h ?_
  try dsimp only
  clear h
  repeat' first
    | with_reducible apply State.endClock_leaves
    | with_reducible assumption
    | with_reducible exact Leaves.refl _ _
    | decide
    | with_reducible apply State.halted_leaves
    | with_reducible apply State.startFails_leaves
    | with_reducible apply Leaves.upd_fab
    | with_reducible apply Leaves.ite
    | with_reducible refine Leaves.forEach (fun _ _ _ => ?_) ?_
    | with_reducible refine Leaves.forEachFst (fun _ _ _ => ?_) ?_
    | split
    | dsimp only

theorem State.setLocks_leaves {μ : Nat} {s₀ : State} {s : State} (hl : Leaves μ s₀ s) (hμ : 0x8d140 ||| μ = μ)  :
    Leaves μ s₀ (State.setLocks s) := by
  refine hl.step (k := 0x8d140) ?_ hμ
  clear hl hμ
  unfold State.setLocks
  try dsimp only
  repeat' first
    | with_reducible assumption
    | with_reducible exact Leaves.refl _ _
    | decide
    | with_reducible apply Part.bit (F.GAF_LOCK_part ..)
    | with_reducible apply Part.bit (F.SEC_LOCK_part ..)
    | with_reducible apply Part.bit (F.MPU_LOCK_part ..)
    | with_reducible apply Part.bit (F.HBM_LOCK_part ..)
    | with_reducible apply Part.bit (F.TB_LOCK_part ..)
    | with_reducible apply Part.bit (F.CFG_LOCK_part ..)
    | with_reducible apply Leaves.wr
    | with_reducible refine Leaves.forEach (fun _ _ _ => ?_) ?_
    | with_reducible refine Leaves.forEachFst (fun _ _ _ => ?_) ?_
    | dsimp only

theorem State.startTimebase_leaves {μ : Nat} {s₀ : State} {s : State} (hl : Leaves μ s₀ s) (hμ : 0x10001990080000002110 ||| μ = μ)  :
    Leaves μ s₀ (State.startTimebase s) := by
  refine hl.step (k := 0x10001990080000002110) ?_ hμ
  clear hl hμ
  unfold State.startTimebase
  try dsimp only
  repeat' first
    | with_reducible assumption
    | with_reducible exact Leaves.refl _ _
    | decide
    | with_reducible apply Part.bit (F.TB_CTRL_GROUP_EN_part ..)
    | (with_reducible apply Part.bit (p := .tbRegs) <;> first | decide | exact regPart_tbRegs (by omega) (by omega))
    | with_reducible apply Leaves.wr
    | with_reducible apply Leaves.setReg
    | with_reducible apply State.armDivider_leaves
    | with_reducible apply State.groupOn_leaves
    | with_reducible apply Leaves.ite
    | dsimp only

theorem State.startPorts_leaves {μ : Nat} {s₀ : State} {s : State} (hl : Leaves μ s₀ s) (hμ : 0x18019990080000202814 ||| μ = μ)  :
    Leaves μ s₀ (State.startPorts s) := by
  refine hl.step (k := 0x18019990080000202814) ?_ hμ
  clear hl hμ
  unfold State.startPorts
  try dsimp only
  repeat' first
    | with_reducible assumption
    | with_reducible exact Leaves.refl _ _
    | decide
    | with_reducible apply Part.bit (F.ETH_CTRL_EN_part ..)
    | with_reducible apply Part.bit (F.STO_CTRL_EN_part ..)
    | with_reducible apply Leaves.wr
    | with_reducible apply State.mount_leaves
    | with_reducible apply Leaves.ite
    | with_reducible refine Leaves.forEach (fun _ _ _ => ?_) ?_
    | with_reducible refine Leaves.forEachFst (fun _ _ _ => ?_) ?_
    | dsimp only

theorem State.startActions_leaves {μ : Nat} {s₀ : State} {s : State} (hl : Leaves μ s₀ s) (hμ : 0x18019990080000202914 ||| μ = μ)  :
    Leaves μ s₀ (State.startActions s) := by
  refine hl.step (k := 0x18019990080000202914) ?_ hμ
  clear hl hμ
  unfold State.startActions
  try dsimp only
  repeat' first
    | with_reducible assumption
    | with_reducible exact Leaves.refl _ _
    | decide
    | with_reducible apply Part.bit (F.TB_CTRL_TRIG_EN_part ..)
    | with_reducible apply Leaves.wr
    | with_reducible apply State.startPorts_leaves
    | with_reducible apply State.startTimebase_leaves
    | with_reducible apply Leaves.ite
    | dsimp only

theorem State.released_leaves {μ : Nat} {s₀ : State} {s : State} (hl : Leaves μ s₀ s) (hμ : 0x1819b99008e8312af95f ||| μ = μ)  :
    Leaves μ s₀ (State.released s) := by
  refine hl.step (k := 0x1819b99008e8312af95f) ?_ hμ
  clear hl hμ
  unfold State.released
  try dsimp only
  repeat' first
    | with_reducible assumption
    | with_reducible exact Leaves.refl _ _
    | decide
    | with_reducible apply Part.bit (F.SYS_START_TIME_RELEASE_US_part ..)
    | with_reducible apply Part.bit (F.SYS_START_STAT_PHASE_part ..)
    | with_reducible apply Leaves.wr
    | with_reducible apply State.armLoaded_leaves
    | with_reducible apply State.doConfirm_leaves
    | with_reducible apply State.endF1_leaves
    | with_reducible apply State.raise_leaves
    | with_reducible apply State.setLocks_leaves
    | with_reducible apply State.startActions_leaves
    | with_reducible apply State.startTraining_leaves
    | with_reducible apply State.tryEndWake_leaves
    | with_reducible apply Leaves.upd_lehr
    | with_reducible apply Leaves.ite
    | with_reducible refine Leaves.forEach (fun _ _ _ => ?_) ?_
    | with_reducible refine Leaves.forEachFst (fun _ _ _ => ?_) ?_
    | dsimp only

theorem State.endRelease_leaves {μ : Nat} {s₀ : State} {s : State} (hl : Leaves μ s₀ s) (hμ : 0x1819b9b008e8312af95f ||| μ = μ) (r : Releasing) :
    Leaves μ s₀ (State.endRelease s r) := by
  refine hl.step (k := 0x1819b9b008e8312af95f) ?_ hμ
  clear hl hμ
  unfold State.endRelease
  try dsimp only
  repeat' first
    | with_reducible assumption
    | with_reducible exact Leaves.refl _ _
    | decide
    | with_reducible apply State.released_leaves
    | with_reducible apply State.setIsolated_leaves
    | with_reducible apply State.setReleased_leaves
    | with_reducible apply Leaves.upd_fab
    | with_reducible apply Leaves.ite
    | with_reducible refine Leaves.forEach (fun _ _ _ => ?_) ?_
    | with_reducible refine Leaves.forEachFst (fun _ _ _ => ?_) ?_
    | dsimp only

theorem execReleaseGapExpiry_leaves {s s' : State}  (h : execReleaseGapExpiry s = .next s') : Leaves 0x1819b9b008e8312af95f s s' := by
  unfold execReleaseGapExpiry at h
  refine act_leaves h ?_
  try dsimp only
  clear h
  repeat' first
    | with_reducible apply State.endClock_leaves
    | with_reducible assumption
    | with_reducible exact Leaves.refl _ _
    | decide
    | with_reducible apply State.endRelease_leaves
    | with_reducible apply State.stageOn_leaves
    | with_reducible apply Leaves.ite
    | split
    | dsimp only

end Sys2Proof.Machine
end

