-- ==== Sys2Proof/Laws/Reg.lean ====
section
/-!
SUPPORT. Register fields after register writes, counts and occurrences of events: what later proofs cite instead of
unfolding them.
-/

namespace Sys2Proof.Machine

/-- A field of a 32-bit word. -/
def Fld.ok (f : Fld) : Prop := f.lo ≤ f.hi ∧ f.hi < 32

/-- Two fields that share no bit. -/
def Fld.apart (f g : Fld) : Prop := f.off ≠ g.off ∨ f.hi < g.lo ∨ g.hi < f.lo

theorem State.reg_setReg (s : State) (o : Nat) (w : Word) : (s.setReg o w).reg o = w := Tab.get_set_same _ _ _ _

theorem State.reg_setReg_ne (s : State) {o p : Nat} (w : Word) (h : p ≠ o) : (s.setReg o w).reg p = s.reg p :=
  Tab.get_set_ne _ _ _ h

theorem State.rd_setReg_ne (s : State) {o : Nat} (w : Word) (f : Fld) (h : f.off ≠ o) : (s.setReg o w).rd f = s.rd f :=
  congrArg f.of (s.reg_setReg_ne w h)

theorem State.rd_setReg (s : State) (w : Word) (f : Fld) : (s.setReg f.off w).rd f = f.of w :=
  congrArg f.of (s.reg_setReg f.off w)

/-- A word with one field replaced, in three parts: above the field, the field, below it. -/
theorem Fld.put_toNat (f : Fld) (h : f.ok) (w : Word) (v : Nat) :
    (f.put w v).toNat = (w.toNat / 2 ^ (f.hi + 1) * 2 ^ (f.hi - f.lo + 1) + v % 2 ^ (f.hi - f.lo + 1)) * 2 ^ f.lo +
      w.toNat % 2 ^ f.lo := by
  obtain ⟨h1, h2⟩ := h
  have hp : 2 ^ (f.hi + 1) = 2 ^ f.lo * 2 ^ (f.hi - f.lo + 1) := by rw [← Nat.pow_add]; congr 1; omega
  have hw := w.isLt
  have ha : w.toNat / 2 ^ (f.hi + 1) * 2 ^ (f.hi + 1) ≤ w.toNat := Nat.div_mul_le_self _ _
  have hd : (2 : Nat) ^ 32 = 2 ^ (31 - f.hi) * (2 ^ f.lo * 2 ^ (f.hi - f.lo + 1)) := by
    rw [← hp, ← Nat.pow_add]; congr 1; omega
  unfold Fld.put slice
  simp only [BitVec.toNat_ofNat]
  generalize hP : 2 ^ f.lo = P at *
  generalize hQ : 2 ^ (f.hi - f.lo + 1) = Q at *
  have hP0 : 0 < P := hP ▸ Nat.two_pow_pos _
  have hQ0 : 0 < Q := hQ ▸ Nat.two_pow_pos _
  rw [hp, ← Nat.div_div_eq_div_mul] at ha ⊢
  have e1 := Nat.div_add_mod w.toNat P
  have e2 := Nat.div_add_mod (w.toNat / P) Q
  have hm : v % Q < Q := Nat.mod_lt _ hQ0
  have hl : w.toNat % P < P := Nat.mod_lt _ hP0
  generalize w.toNat / P / Q = a at *
  generalize w.toNat / P % Q = m at *
  generalize w.toNat % P = l at *
  generalize v % Q = x at *
  have hlt : (a * Q + x) * P + l < 2 ^ 32 := by
    have e3 : a < 2 ^ (31 - f.hi) := by
      by_contra hc
      have : 2 ^ (31 - f.hi) * (P * Q) ≤ a * (P * Q) := Nat.mul_le_mul_right _ (by omega)
      omega
    have e4 : (a + 1) * (P * Q) ≤ 2 ^ (31 - f.hi) * (P * Q) := Nat.mul_le_mul_right _ e3
    have e5 : (x + 1) * P ≤ Q * P := Nat.mul_le_mul_right _ hm
    rw [hd]
    nlinarith
  have e6 : w.toNat - m * P + x * P = (a * Q + x) * P + l := by
    have : w.toNat = (Q * a + m) * P + l := by rw [e2, Nat.mul_comm]; exact e1.symm
    have : w.toNat = a * Q * P + m * P + l := by rw [this]; ring
    have : (a * Q + x) * P = a * Q * P + x * P := by ring
    omega
  rw [e6]
  exact Nat.mod_eq_of_lt hlt

theorem Fld.of_put (f : Fld) (h : f.ok) (w : Word) (v : Nat) : f.of (f.put w v) = v % 2 ^ (f.hi - f.lo + 1) := by
  unfold Fld.of slice
  rw [f.put_toNat h, Nat.add_comm, Nat.add_mul_div_right _ _ (Nat.two_pow_pos _),
    Nat.div_eq_of_lt (Nat.mod_lt _ (Nat.two_pow_pos _)), Nat.zero_add, Nat.mul_comm, Nat.mul_add_mod, Nat.mod_mod]

theorem Fld.of_put_above (f g : Fld) (h : f.ok) (hg : f.hi < g.lo) (w : Word) (v : Nat) :
    g.of (f.put w v) = g.of w := by
  have key : (f.put w v).toNat / 2 ^ (f.hi + 1) = w.toNat / 2 ^ (f.hi + 1) := by
    have hp : 2 ^ (f.hi + 1) = 2 ^ f.lo * 2 ^ (f.hi - f.lo + 1) := by rw [← Nat.pow_add]; have := h.1; congr 1; omega
    rw [f.put_toNat h]
    generalize w.toNat / 2 ^ (f.hi + 1) = a
    rw [hp, ← Nat.div_div_eq_div_mul, Nat.add_comm, Nat.add_mul_div_right _ _ (Nat.two_pow_pos _),
      Nat.div_eq_of_lt (Nat.mod_lt _ (Nat.two_pow_pos _)), Nat.zero_add, Nat.add_comm,
      Nat.add_mul_div_right _ _ (Nat.two_pow_pos _), Nat.div_eq_of_lt (Nat.mod_lt _ (Nat.two_pow_pos _)), Nat.zero_add]
  unfold Fld.of slice
  have hs : 2 ^ g.lo = 2 ^ (f.hi + 1) * 2 ^ (g.lo - (f.hi + 1)) := by rw [← Nat.pow_add]; congr 1; omega
  rw [hs, ← Nat.div_div_eq_div_mul, key, Nat.div_div_eq_div_mul]

theorem Fld.of_put_below (f g : Fld) (h : f.ok) (hg : g.hi < f.lo) (hl : g.lo ≤ g.hi) (w : Word) (v : Nat) :
    g.of (f.put w v) = g.of w := by
  have key : (f.put w v).toNat % 2 ^ f.lo = w.toNat % 2 ^ f.lo := by
    rw [f.put_toNat h, Nat.mul_comm, Nat.mul_add_mod, Nat.mod_mod]
  have sl : ∀ x : Nat, slice x g.hi g.lo = slice (x % 2 ^ f.lo) g.hi g.lo := by
    intro x
    unfold slice
    have hs : 2 ^ f.lo = 2 ^ g.lo * 2 ^ (f.lo - g.lo) := by rw [← Nat.pow_add]; congr 1; omega
    rw [hs, Nat.mod_mul_right_div_self, Nat.mod_mod_of_dvd]
    exact Nat.pow_dvd_pow 2 (by omega)
  unfold Fld.of
  rw [sl, key, ← sl]

/-- A field reads what was written to it. -/
theorem State.rd_wr (s : State) (f : Fld) (v : Nat) (h : f.ok) : (s.wr f v).rd f = v % 2 ^ (f.hi - f.lo + 1) := by
  unfold State.wr
  rw [State.rd_setReg, Fld.of_put f h]

/-- A field that shares no bit with the one written reads as before. -/
theorem State.rd_wr_apart (s : State) (f g : Fld) (v : Nat) (h : f.ok) (hg : g.ok) (ha : f.apart g) :
    (s.wr f v).rd g = s.rd g := by
  unfold State.wr
  by_cases ho : g.off = f.off
  · unfold State.rd
    rw [ho, State.reg_setReg]
    rcases ha with ha | ha | ha
    · exact absurd ho.symm ha
    · exact f.of_put_above g h ha _ _
    · exact f.of_put_below g h ha hg.1 _ _
  · exact s.rd_setReg_ne _ g ho

theorem State.rd_bump_apart (s : State) (f g : Fld) (h : f.ok) (hg : g.ok) (ha : f.apart g) :
    (s.bump f).rd g = s.rd g := by
  unfold State.bump
  split
  · exact s.rd_wr_apart f g _ h hg ha
  · rfl

/-- A counter snapshot counts one occurrence and stops at its largest value (R438). -/
theorem State.rd_bump (s : State) (f : Fld) (h : f.hi = 31 ∧ f.lo = 0) :
    (s.bump f).rd f = min 0xffffffff (s.rd f + 1) := by
  have hlt : s.rd f < 2 ^ 32 := by
    unfold State.rd Fld.of slice
    rw [h.1, h.2]
    exact Nat.mod_lt _ (Nat.two_pow_pos _)
  unfold State.bump
  split
  · rw [s.rd_wr f _ ⟨by omega, by omega⟩, h.1, h.2]
    omega
  · omega

theorem Leaves.rd {m : Nat} {s t : State} (h : Leaves m s t) {f : Fld} {p : Part} (hp : regPart f.off = p)
    (hr : p.ctorIdx < 23) (hm : m.testBit p.ctorIdx = false) : t.rd f = s.rd f := by
  have h1 := h.same p hm
  unfold State.rd
  congr 1
  cases p <;> first | exact h1 _ hp | exact absurd hr (by decide)

/-- An occurrence of an event leaves every field outside EVT and the gaffers' wait counts. -/
theorem State.rd_raise (s : State) (e : Nat) {f : Fld} {p : Part} (hp : regPart f.off = p)
    (hm : (Nat.testBit 0x7fffff p.ctorIdx && p != .evtRegs && p != .waitRegs) = true) : (s.raise e).rd f = s.rd f := by
  refine (State.raise_leaves (Leaves.refl 0x10001990080000002010 s) (by decide) e).rd hp ?_ ?_ <;> revert hm <;> cases p <;> decide

theorem evtBit_ok (e : Nat) : (evtBit e).ok := ⟨Nat.le_refl _, Nat.mod_lt _ (by decide)⟩

/-- An occurrence sets its pending bit (R283). -/
theorem State.rd_occur_self (s : State) (e : Nat) (b : Bool) : (s.occur e b).rd (evtBit e) = 1 := by
  unfold State.occur
  rw [(State.routeEvent_leaves (Leaves.refl 0x10001980080000000000 _) (by decide) e _ b).rd (p := .evtRegs)
    (regPart_evtRegs (by simp only [evtBit]; omega) (by simp only [evtBit]; omega)) (by decide) (by decide),
    State.rd_wr _ _ _ (evtBit_ok e)]
  simp only [evtBit, Nat.sub_self, Nat.zero_add, Nat.pow_one]

theorem State.rd_raise_self (s : State) (e : Nat) : (s.raise e).rd (evtBit e) = 1 := s.rd_occur_self e true

/-- An occurrence of another source leaves a pending bit set. -/
theorem State.rd_occur_other (s : State) (a e : Nat) (b : Bool) (h : s.rd (evtBit a) = 1) : (s.occur e b).rd (evtBit a) = 1 := by
  have hr : regPart (evtBit a).off = .evtRegs :=
    regPart_evtRegs (by simp only [evtBit]; omega) (by simp only [evtBit]; omega)
  unfold State.occur
  rw [(State.routeEvent_leaves (Leaves.refl 0x10001980080000000000 _) (by decide) e _ b).rd hr (by decide) (by decide)]
  have h1 : ((s.releaseWaits e).countWaits e).rd (evtBit a) = 1 := by
    rw [(State.countWaits_leaves (State.releaseWaits_leaves (Leaves.refl 0x10000000002000 s) (by decide) e)
      (by decide) e).rd hr (by decide) (by decide), h]
  generalize (s.releaseWaits e).countWaits e = u at h1 ⊢
  by_cases he : evtBit a = evtBit e
  · rw [he, State.rd_wr _ _ _ (evtBit_ok e)]
    simp only [evtBit, Nat.sub_self, Nat.zero_add, Nat.pow_one]
  · rw [State.rd_wr_apart _ _ _ _ (evtBit_ok e) (evtBit_ok a) ?_, h1]
    unfold Fld.apart
    simp only [evtBit, Fld.mk.injEq] at he ⊢
    omega

theorem State.rd_raise_other (s : State) (a e : Nat) (h : s.rd (evtBit a) = 1) : (s.raise e).rd (evtBit a) = 1 :=
  s.rd_occur_other a e true h

end Sys2Proof.Machine
end

