-- ==== Sys2Proof/Laws/State.lean ====
section
/-!
SUPPORT. What each update of one field does to each field: true by definition, so that no proof unfolds an update.
-/

namespace Sys2Proof.Machine

@[simp] theorem State.withRegs_pending (s : State) (x : Tab Word) : (s.withRegs x).pending = s.pending := rfl
@[simp] theorem State.withRegs_regs (s : State) (x : Tab Word) : (s.withRegs x).regs = x := rfl
@[simp] theorem State.withRegs_latch (s : State) (x : Tab Word) : (s.withRegs x).latch = s.latch := rfl
@[simp] theorem State.withRegs_shadow (s : State) (x : Tab Word) : (s.withRegs x).shadow = s.shadow := rfl
@[simp] theorem State.withRegs_steps (s : State) (x : Tab Word) : (s.withRegs x).steps = s.steps := rfl
@[simp] theorem State.withRegs_routes (s : State) (x : Tab Word) : (s.withRegs x).routes = s.routes := rfl
@[simp] theorem State.withRegs_dm (s : State) (x : Tab Word) : (s.withRegs x).dm = s.dm := rfl
@[simp] theorem State.withRegs_dmBad (s : State) (x : Tab Word) : (s.withRegs x).dmBad = s.dmBad := rfl
@[simp] theorem State.withRegs_results (s : State) (x : Tab Word) : (s.withRegs x).results = s.results := rfl
@[simp] theorem State.withRegs_stamps (s : State) (x : Tab Word) : (s.withRegs x).stamps = s.stamps := rfl
@[simp] theorem State.withRegs_gobIn (s : State) (x : Tab Word) : (s.withRegs x).gobIn = s.gobIn := rfl
@[simp] theorem State.withRegs_gobOut (s : State) (x : Tab Word) : (s.withRegs x).gobOut = s.gobOut := rfl
@[simp] theorem State.withRegs_reqArea (s : State) (x : Tab Word) : (s.withRegs x).reqArea = s.reqArea := rfl
@[simp] theorem State.withRegs_retBuf (s : State) (x : Tab Word) : (s.withRegs x).retBuf = s.retBuf := rfl
@[simp] theorem State.withRegs_farIn (s : State) (x : Tab Word) : (s.withRegs x).farIn = s.farIn := rfl
@[simp] theorem State.withRegs_tiles (s : State) (x : Tab Word) : (s.withRegs x).tiles = s.tiles := rfl
@[simp] theorem State.withRegs_gafs (s : State) (x : Tab Word) : (s.withRegs x).gafs = s.gafs := rfl
@[simp] theorem State.withRegs_ports (s : State) (x : Tab Word) : (s.withRegs x).ports = s.ports := rfl
@[simp] theorem State.withRegs_hbm (s : State) (x : Tab Word) : (s.withRegs x).hbm = s.hbm := rfl
@[simp] theorem State.withRegs_hbmBad (s : State) (x : Tab Word) : (s.withRegs x).hbmBad = s.hbmBad := rfl
@[simp] theorem State.withRegs_hbmSoft (s : State) (x : Tab Word) : (s.withRegs x).hbmSoft = s.hbmSoft := rfl
@[simp] theorem State.withRegs_tb (s : State) (x : Tab Word) : (s.withRegs x).tb = s.tb := rfl
@[simp] theorem State.withRegs_irc (s : State) (x : Tab Word) : (s.withRegs x).irc = s.irc := rfl
@[simp] theorem State.withRegs_pbs (s : State) (x : Tab Word) : (s.withRegs x).pbs = s.pbs := rfl
@[simp] theorem State.withRegs_mrv (s : State) (x : Tab Word) : (s.withRegs x).mrv = s.mrv := rfl
@[simp] theorem State.withRegs_rings (s : State) (x : Tab Word) : (s.withRegs x).rings = s.rings := rfl
@[simp] theorem State.withRegs_strobes (s : State) (x : Tab Word) : (s.withRegs x).strobes = s.strobes := rfl
@[simp] theorem State.withRegs_discardEv (s : State) (x : Tab Word) : (s.withRegs x).discardEv = s.discardEv := rfl
@[simp] theorem State.withRegs_slots (s : State) (x : Tab Word) : (s.withRegs x).slots = s.slots := rfl
@[simp] theorem State.withRegs_noc (s : State) (x : Tab Word) : (s.withRegs x).noc = s.noc := rfl
@[simp] theorem State.withRegs_dma (s : State) (x : Tab Word) : (s.withRegs x).dma = s.dma := rfl
@[simp] theorem State.withRegs_fab (s : State) (x : Tab Word) : (s.withRegs x).fab = s.fab := rfl
@[simp] theorem State.withRegs_mbx (s : State) (x : Tab Word) : (s.withRegs x).mbx = s.mbx := rfl
@[simp] theorem State.withRegs_pcie (s : State) (x : Tab Word) : (s.withRegs x).pcie = s.pcie := rfl
@[simp] theorem State.withRegs_bar4 (s : State) (x : Tab Word) : (s.withRegs x).bar4 = s.bar4 := rfl
@[simp] theorem State.withRegs_hbmHeld (s : State) (x : Tab Word) : (s.withRegs x).hbmHeld = s.hbmHeld := rfl
@[simp] theorem State.withRegs_eth (s : State) (x : Tab Word) : (s.withRegs x).eth = s.eth := rfl
@[simp] theorem State.withRegs_mcLog (s : State) (x : Tab Word) : (s.withRegs x).mcLog = s.mcLog := rfl
@[simp] theorem State.withRegs_evtSent (s : State) (x : Tab Word) : (s.withRegs x).evtSent = s.evtSent := rfl
@[simp] theorem State.withRegs_cstore (s : State) (x : Tab Word) : (s.withRegs x).cstore = s.cstore := rfl
@[simp] theorem State.withRegs_ldr (s : State) (x : Tab Word) : (s.withRegs x).ldr = s.ldr := rfl
@[simp] theorem State.withRegs_nand (s : State) (x : Tab Word) : (s.withRegs x).nand = s.nand := rfl
@[simp] theorem State.withRegs_sto (s : State) (x : Tab Word) : (s.withRegs x).sto = s.sto := rfl
@[simp] theorem State.withRegs_flt (s : State) (x : Tab Word) : (s.withRegs x).flt = s.flt := rfl
@[simp] theorem State.withRegs_pwr (s : State) (x : Tab Word) : (s.withRegs x).pwr = s.pwr := rfl
@[simp] theorem State.withRegs_lehr (s : State) (x : Tab Word) : (s.withRegs x).lehr = s.lehr := rfl
@[simp] theorem State.withRegs_start (s : State) (x : Tab Word) : (s.withRegs x).start = s.start := rfl
@[simp] theorem State.withRegs_bst (s : State) (x : Tab Word) : (s.withRegs x).bst = s.bst := rfl
@[simp] theorem State.withRegs_otp (s : State) (x : Tab Word) : (s.withRegs x).otp = s.otp := rfl
@[simp] theorem State.withRegs_lcs (s : State) (x : Tab Word) : (s.withRegs x).lcs = s.lcs := rfl
@[simp] theorem State.withRegs_jtag (s : State) (x : Tab Word) : (s.withRegs x).jtag = s.jtag := rfl
@[simp] theorem State.withRegs_dbgReads (s : State) (x : Tab Word) : (s.withRegs x).dbgReads = s.dbgReads := rfl
@[simp] theorem State.withRegs_spineOn (s : State) (x : Tab Word) : (s.withRegs x).spineOn = s.spineOn := rfl
@[simp] theorem State.withRegs_free (s : State) (x : Tab Word) : (s.withRegs x).free = s.free := rfl
@[simp] theorem State.withRegs_out (s : State) (x : Tab Word) : (s.withRegs x).out = s.out := rfl
@[simp] theorem State.withLatch_pending (s : State) (x : Tab Word) : (s.withLatch x).pending = s.pending := rfl
@[simp] theorem State.withLatch_regs (s : State) (x : Tab Word) : (s.withLatch x).regs = s.regs := rfl
@[simp] theorem State.withLatch_latch (s : State) (x : Tab Word) : (s.withLatch x).latch = x := rfl
@[simp] theorem State.withLatch_shadow (s : State) (x : Tab Word) : (s.withLatch x).shadow = s.shadow := rfl
@[simp] theorem State.withLatch_steps (s : State) (x : Tab Word) : (s.withLatch x).steps = s.steps := rfl
@[simp] theorem State.withLatch_routes (s : State) (x : Tab Word) : (s.withLatch x).routes = s.routes := rfl
@[simp] theorem State.withLatch_dm (s : State) (x : Tab Word) : (s.withLatch x).dm = s.dm := rfl
@[simp] theorem State.withLatch_dmBad (s : State) (x : Tab Word) : (s.withLatch x).dmBad = s.dmBad := rfl
@[simp] theorem State.withLatch_results (s : State) (x : Tab Word) : (s.withLatch x).results = s.results := rfl
@[simp] theorem State.withLatch_stamps (s : State) (x : Tab Word) : (s.withLatch x).stamps = s.stamps := rfl
@[simp] theorem State.withLatch_gobIn (s : State) (x : Tab Word) : (s.withLatch x).gobIn = s.gobIn := rfl
@[simp] theorem State.withLatch_gobOut (s : State) (x : Tab Word) : (s.withLatch x).gobOut = s.gobOut := rfl
@[simp] theorem State.withLatch_reqArea (s : State) (x : Tab Word) : (s.withLatch x).reqArea = s.reqArea := rfl
@[simp] theorem State.withLatch_retBuf (s : State) (x : Tab Word) : (s.withLatch x).retBuf = s.retBuf := rfl
@[simp] theorem State.withLatch_farIn (s : State) (x : Tab Word) : (s.withLatch x).farIn = s.farIn := rfl
@[simp] theorem State.withLatch_tiles (s : State) (x : Tab Word) : (s.withLatch x).tiles = s.tiles := rfl
@[simp] theorem State.withLatch_gafs (s : State) (x : Tab Word) : (s.withLatch x).gafs = s.gafs := rfl
@[simp] theorem State.withLatch_ports (s : State) (x : Tab Word) : (s.withLatch x).ports = s.ports := rfl
@[simp] theorem State.withLatch_hbm (s : State) (x : Tab Word) : (s.withLatch x).hbm = s.hbm := rfl
@[simp] theorem State.withLatch_hbmBad (s : State) (x : Tab Word) : (s.withLatch x).hbmBad = s.hbmBad := rfl
@[simp] theorem State.withLatch_hbmSoft (s : State) (x : Tab Word) : (s.withLatch x).hbmSoft = s.hbmSoft := rfl
@[simp] theorem State.withLatch_tb (s : State) (x : Tab Word) : (s.withLatch x).tb = s.tb := rfl
@[simp] theorem State.withLatch_irc (s : State) (x : Tab Word) : (s.withLatch x).irc = s.irc := rfl
@[simp] theorem State.withLatch_pbs (s : State) (x : Tab Word) : (s.withLatch x).pbs = s.pbs := rfl
@[simp] theorem State.withLatch_mrv (s : State) (x : Tab Word) : (s.withLatch x).mrv = s.mrv := rfl
@[simp] theorem State.withLatch_rings (s : State) (x : Tab Word) : (s.withLatch x).rings = s.rings := rfl
@[simp] theorem State.withLatch_strobes (s : State) (x : Tab Word) : (s.withLatch x).strobes = s.strobes := rfl
@[simp] theorem State.withLatch_discardEv (s : State) (x : Tab Word) : (s.withLatch x).discardEv = s.discardEv := rfl
@[simp] theorem State.withLatch_slots (s : State) (x : Tab Word) : (s.withLatch x).slots = s.slots := rfl
@[simp] theorem State.withLatch_noc (s : State) (x : Tab Word) : (s.withLatch x).noc = s.noc := rfl
@[simp] theorem State.withLatch_dma (s : State) (x : Tab Word) : (s.withLatch x).dma = s.dma := rfl
@[simp] theorem State.withLatch_fab (s : State) (x : Tab Word) : (s.withLatch x).fab = s.fab := rfl
@[simp] theorem State.withLatch_mbx (s : State) (x : Tab Word) : (s.withLatch x).mbx = s.mbx := rfl
@[simp] theorem State.withLatch_pcie (s : State) (x : Tab Word) : (s.withLatch x).pcie = s.pcie := rfl
@[simp] theorem State.withLatch_bar4 (s : State) (x : Tab Word) : (s.withLatch x).bar4 = s.bar4 := rfl
@[simp] theorem State.withLatch_hbmHeld (s : State) (x : Tab Word) : (s.withLatch x).hbmHeld = s.hbmHeld := rfl
@[simp] theorem State.withLatch_eth (s : State) (x : Tab Word) : (s.withLatch x).eth = s.eth := rfl
@[simp] theorem State.withLatch_mcLog (s : State) (x : Tab Word) : (s.withLatch x).mcLog = s.mcLog := rfl
@[simp] theorem State.withLatch_evtSent (s : State) (x : Tab Word) : (s.withLatch x).evtSent = s.evtSent := rfl
@[simp] theorem State.withLatch_cstore (s : State) (x : Tab Word) : (s.withLatch x).cstore = s.cstore := rfl
@[simp] theorem State.withLatch_ldr (s : State) (x : Tab Word) : (s.withLatch x).ldr = s.ldr := rfl
@[simp] theorem State.withLatch_nand (s : State) (x : Tab Word) : (s.withLatch x).nand = s.nand := rfl
@[simp] theorem State.withLatch_sto (s : State) (x : Tab Word) : (s.withLatch x).sto = s.sto := rfl
@[simp] theorem State.withLatch_flt (s : State) (x : Tab Word) : (s.withLatch x).flt = s.flt := rfl
@[simp] theorem State.withLatch_pwr (s : State) (x : Tab Word) : (s.withLatch x).pwr = s.pwr := rfl
@[simp] theorem State.withLatch_lehr (s : State) (x : Tab Word) : (s.withLatch x).lehr = s.lehr := rfl
@[simp] theorem State.withLatch_start (s : State) (x : Tab Word) : (s.withLatch x).start = s.start := rfl
@[simp] theorem State.withLatch_bst (s : State) (x : Tab Word) : (s.withLatch x).bst = s.bst := rfl
@[simp] theorem State.withLatch_otp (s : State) (x : Tab Word) : (s.withLatch x).otp = s.otp := rfl
@[simp] theorem State.withLatch_lcs (s : State) (x : Tab Word) : (s.withLatch x).lcs = s.lcs := rfl
@[simp] theorem State.withLatch_jtag (s : State) (x : Tab Word) : (s.withLatch x).jtag = s.jtag := rfl
@[simp] theorem State.withLatch_dbgReads (s : State) (x : Tab Word) : (s.withLatch x).dbgReads = s.dbgReads := rfl
@[simp] theorem State.withLatch_spineOn (s : State) (x : Tab Word) : (s.withLatch x).spineOn = s.spineOn := rfl
@[simp] theorem State.withLatch_free (s : State) (x : Tab Word) : (s.withLatch x).free = s.free := rfl
@[simp] theorem State.withLatch_out (s : State) (x : Tab Word) : (s.withLatch x).out = s.out := rfl
@[simp] theorem State.withShadow_pending (s : State) (x : Tab (Option Word)) : (s.withShadow x).pending = s.pending := rfl
@[simp] theorem State.withShadow_regs (s : State) (x : Tab (Option Word)) : (s.withShadow x).regs = s.regs := rfl
@[simp] theorem State.withShadow_latch (s : State) (x : Tab (Option Word)) : (s.withShadow x).latch = s.latch := rfl
@[simp] theorem State.withShadow_shadow (s : State) (x : Tab (Option Word)) : (s.withShadow x).shadow = x := rfl
@[simp] theorem State.withShadow_steps (s : State) (x : Tab (Option Word)) : (s.withShadow x).steps = s.steps := rfl
@[simp] theorem State.withShadow_routes (s : State) (x : Tab (Option Word)) : (s.withShadow x).routes = s.routes := rfl
@[simp] theorem State.withShadow_dm (s : State) (x : Tab (Option Word)) : (s.withShadow x).dm = s.dm := rfl
@[simp] theorem State.withShadow_dmBad (s : State) (x : Tab (Option Word)) : (s.withShadow x).dmBad = s.dmBad := rfl
@[simp] theorem State.withShadow_results (s : State) (x : Tab (Option Word)) : (s.withShadow x).results = s.results := rfl
@[simp] theorem State.withShadow_stamps (s : State) (x : Tab (Option Word)) : (s.withShadow x).stamps = s.stamps := rfl
@[simp] theorem State.withShadow_gobIn (s : State) (x : Tab (Option Word)) : (s.withShadow x).gobIn = s.gobIn := rfl
@[simp] theorem State.withShadow_gobOut (s : State) (x : Tab (Option Word)) : (s.withShadow x).gobOut = s.gobOut := rfl
@[simp] theorem State.withShadow_reqArea (s : State) (x : Tab (Option Word)) : (s.withShadow x).reqArea = s.reqArea := rfl
@[simp] theorem State.withShadow_retBuf (s : State) (x : Tab (Option Word)) : (s.withShadow x).retBuf = s.retBuf := rfl
@[simp] theorem State.withShadow_farIn (s : State) (x : Tab (Option Word)) : (s.withShadow x).farIn = s.farIn := rfl
@[simp] theorem State.withShadow_tiles (s : State) (x : Tab (Option Word)) : (s.withShadow x).tiles = s.tiles := rfl
@[simp] theorem State.withShadow_gafs (s : State) (x : Tab (Option Word)) : (s.withShadow x).gafs = s.gafs := rfl
@[simp] theorem State.withShadow_ports (s : State) (x : Tab (Option Word)) : (s.withShadow x).ports = s.ports := rfl
@[simp] theorem State.withShadow_hbm (s : State) (x : Tab (Option Word)) : (s.withShadow x).hbm = s.hbm := rfl
@[simp] theorem State.withShadow_hbmBad (s : State) (x : Tab (Option Word)) : (s.withShadow x).hbmBad = s.hbmBad := rfl
@[simp] theorem State.withShadow_hbmSoft (s : State) (x : Tab (Option Word)) : (s.withShadow x).hbmSoft = s.hbmSoft := rfl
@[simp] theorem State.withShadow_tb (s : State) (x : Tab (Option Word)) : (s.withShadow x).tb = s.tb := rfl
@[simp] theorem State.withShadow_irc (s : State) (x : Tab (Option Word)) : (s.withShadow x).irc = s.irc := rfl
@[simp] theorem State.withShadow_pbs (s : State) (x : Tab (Option Word)) : (s.withShadow x).pbs = s.pbs := rfl
@[simp] theorem State.withShadow_mrv (s : State) (x : Tab (Option Word)) : (s.withShadow x).mrv = s.mrv := rfl
@[simp] theorem State.withShadow_rings (s : State) (x : Tab (Option Word)) : (s.withShadow x).rings = s.rings := rfl
@[simp] theorem State.withShadow_strobes (s : State) (x : Tab (Option Word)) : (s.withShadow x).strobes = s.strobes := rfl
@[simp] theorem State.withShadow_discardEv (s : State) (x : Tab (Option Word)) : (s.withShadow x).discardEv = s.discardEv := rfl
@[simp] theorem State.withShadow_slots (s : State) (x : Tab (Option Word)) : (s.withShadow x).slots = s.slots := rfl
@[simp] theorem State.withShadow_noc (s : State) (x : Tab (Option Word)) : (s.withShadow x).noc = s.noc := rfl
@[simp] theorem State.withShadow_dma (s : State) (x : Tab (Option Word)) : (s.withShadow x).dma = s.dma := rfl
@[simp] theorem State.withShadow_fab (s : State) (x : Tab (Option Word)) : (s.withShadow x).fab = s.fab := rfl
@[simp] theorem State.withShadow_mbx (s : State) (x : Tab (Option Word)) : (s.withShadow x).mbx = s.mbx := rfl
@[simp] theorem State.withShadow_pcie (s : State) (x : Tab (Option Word)) : (s.withShadow x).pcie = s.pcie := rfl
@[simp] theorem State.withShadow_bar4 (s : State) (x : Tab (Option Word)) : (s.withShadow x).bar4 = s.bar4 := rfl
@[simp] theorem State.withShadow_hbmHeld (s : State) (x : Tab (Option Word)) : (s.withShadow x).hbmHeld = s.hbmHeld := rfl
@[simp] theorem State.withShadow_eth (s : State) (x : Tab (Option Word)) : (s.withShadow x).eth = s.eth := rfl
@[simp] theorem State.withShadow_mcLog (s : State) (x : Tab (Option Word)) : (s.withShadow x).mcLog = s.mcLog := rfl
@[simp] theorem State.withShadow_evtSent (s : State) (x : Tab (Option Word)) : (s.withShadow x).evtSent = s.evtSent := rfl
@[simp] theorem State.withShadow_cstore (s : State) (x : Tab (Option Word)) : (s.withShadow x).cstore = s.cstore := rfl
@[simp] theorem State.withShadow_ldr (s : State) (x : Tab (Option Word)) : (s.withShadow x).ldr = s.ldr := rfl
@[simp] theorem State.withShadow_nand (s : State) (x : Tab (Option Word)) : (s.withShadow x).nand = s.nand := rfl
@[simp] theorem State.withShadow_sto (s : State) (x : Tab (Option Word)) : (s.withShadow x).sto = s.sto := rfl
@[simp] theorem State.withShadow_flt (s : State) (x : Tab (Option Word)) : (s.withShadow x).flt = s.flt := rfl
@[simp] theorem State.withShadow_pwr (s : State) (x : Tab (Option Word)) : (s.withShadow x).pwr = s.pwr := rfl
@[simp] theorem State.withShadow_lehr (s : State) (x : Tab (Option Word)) : (s.withShadow x).lehr = s.lehr := rfl
@[simp] theorem State.withShadow_start (s : State) (x : Tab (Option Word)) : (s.withShadow x).start = s.start := rfl
@[simp] theorem State.withShadow_bst (s : State) (x : Tab (Option Word)) : (s.withShadow x).bst = s.bst := rfl
@[simp] theorem State.withShadow_otp (s : State) (x : Tab (Option Word)) : (s.withShadow x).otp = s.otp := rfl
@[simp] theorem State.withShadow_lcs (s : State) (x : Tab (Option Word)) : (s.withShadow x).lcs = s.lcs := rfl
@[simp] theorem State.withShadow_jtag (s : State) (x : Tab (Option Word)) : (s.withShadow x).jtag = s.jtag := rfl
@[simp] theorem State.withShadow_dbgReads (s : State) (x : Tab (Option Word)) : (s.withShadow x).dbgReads = s.dbgReads := rfl
@[simp] theorem State.withShadow_spineOn (s : State) (x : Tab (Option Word)) : (s.withShadow x).spineOn = s.spineOn := rfl
@[simp] theorem State.withShadow_free (s : State) (x : Tab (Option Word)) : (s.withShadow x).free = s.free := rfl
@[simp] theorem State.withShadow_out (s : State) (x : Tab (Option Word)) : (s.withShadow x).out = s.out := rfl
@[simp] theorem State.withSteps_pending (s : State) (x : Tab StepWord) : (s.withSteps x).pending = s.pending := rfl
@[simp] theorem State.withSteps_regs (s : State) (x : Tab StepWord) : (s.withSteps x).regs = s.regs := rfl
@[simp] theorem State.withSteps_latch (s : State) (x : Tab StepWord) : (s.withSteps x).latch = s.latch := rfl
@[simp] theorem State.withSteps_shadow (s : State) (x : Tab StepWord) : (s.withSteps x).shadow = s.shadow := rfl
@[simp] theorem State.withSteps_steps (s : State) (x : Tab StepWord) : (s.withSteps x).steps = x := rfl
@[simp] theorem State.withSteps_routes (s : State) (x : Tab StepWord) : (s.withSteps x).routes = s.routes := rfl
@[simp] theorem State.withSteps_dm (s : State) (x : Tab StepWord) : (s.withSteps x).dm = s.dm := rfl
@[simp] theorem State.withSteps_dmBad (s : State) (x : Tab StepWord) : (s.withSteps x).dmBad = s.dmBad := rfl
@[simp] theorem State.withSteps_results (s : State) (x : Tab StepWord) : (s.withSteps x).results = s.results := rfl
@[simp] theorem State.withSteps_stamps (s : State) (x : Tab StepWord) : (s.withSteps x).stamps = s.stamps := rfl
@[simp] theorem State.withSteps_gobIn (s : State) (x : Tab StepWord) : (s.withSteps x).gobIn = s.gobIn := rfl
@[simp] theorem State.withSteps_gobOut (s : State) (x : Tab StepWord) : (s.withSteps x).gobOut = s.gobOut := rfl
@[simp] theorem State.withSteps_reqArea (s : State) (x : Tab StepWord) : (s.withSteps x).reqArea = s.reqArea := rfl
@[simp] theorem State.withSteps_retBuf (s : State) (x : Tab StepWord) : (s.withSteps x).retBuf = s.retBuf := rfl
@[simp] theorem State.withSteps_farIn (s : State) (x : Tab StepWord) : (s.withSteps x).farIn = s.farIn := rfl
@[simp] theorem State.withSteps_tiles (s : State) (x : Tab StepWord) : (s.withSteps x).tiles = s.tiles := rfl
@[simp] theorem State.withSteps_gafs (s : State) (x : Tab StepWord) : (s.withSteps x).gafs = s.gafs := rfl
@[simp] theorem State.withSteps_ports (s : State) (x : Tab StepWord) : (s.withSteps x).ports = s.ports := rfl
@[simp] theorem State.withSteps_hbm (s : State) (x : Tab StepWord) : (s.withSteps x).hbm = s.hbm := rfl
@[simp] theorem State.withSteps_hbmBad (s : State) (x : Tab StepWord) : (s.withSteps x).hbmBad = s.hbmBad := rfl
@[simp] theorem State.withSteps_hbmSoft (s : State) (x : Tab StepWord) : (s.withSteps x).hbmSoft = s.hbmSoft := rfl
@[simp] theorem State.withSteps_tb (s : State) (x : Tab StepWord) : (s.withSteps x).tb = s.tb := rfl
@[simp] theorem State.withSteps_irc (s : State) (x : Tab StepWord) : (s.withSteps x).irc = s.irc := rfl
@[simp] theorem State.withSteps_pbs (s : State) (x : Tab StepWord) : (s.withSteps x).pbs = s.pbs := rfl
@[simp] theorem State.withSteps_mrv (s : State) (x : Tab StepWord) : (s.withSteps x).mrv = s.mrv := rfl
@[simp] theorem State.withSteps_rings (s : State) (x : Tab StepWord) : (s.withSteps x).rings = s.rings := rfl
@[simp] theorem State.withSteps_strobes (s : State) (x : Tab StepWord) : (s.withSteps x).strobes = s.strobes := rfl
@[simp] theorem State.withSteps_discardEv (s : State) (x : Tab StepWord) : (s.withSteps x).discardEv = s.discardEv := rfl
@[simp] theorem State.withSteps_slots (s : State) (x : Tab StepWord) : (s.withSteps x).slots = s.slots := rfl
@[simp] theorem State.withSteps_noc (s : State) (x : Tab StepWord) : (s.withSteps x).noc = s.noc := rfl
@[simp] theorem State.withSteps_dma (s : State) (x : Tab StepWord) : (s.withSteps x).dma = s.dma := rfl
@[simp] theorem State.withSteps_fab (s : State) (x : Tab StepWord) : (s.withSteps x).fab = s.fab := rfl
@[simp] theorem State.withSteps_mbx (s : State) (x : Tab StepWord) : (s.withSteps x).mbx = s.mbx := rfl
@[simp] theorem State.withSteps_pcie (s : State) (x : Tab StepWord) : (s.withSteps x).pcie = s.pcie := rfl
@[simp] theorem State.withSteps_bar4 (s : State) (x : Tab StepWord) : (s.withSteps x).bar4 = s.bar4 := rfl
@[simp] theorem State.withSteps_hbmHeld (s : State) (x : Tab StepWord) : (s.withSteps x).hbmHeld = s.hbmHeld := rfl
@[simp] theorem State.withSteps_eth (s : State) (x : Tab StepWord) : (s.withSteps x).eth = s.eth := rfl
@[simp] theorem State.withSteps_mcLog (s : State) (x : Tab StepWord) : (s.withSteps x).mcLog = s.mcLog := rfl
@[simp] theorem State.withSteps_evtSent (s : State) (x : Tab StepWord) : (s.withSteps x).evtSent = s.evtSent := rfl
@[simp] theorem State.withSteps_cstore (s : State) (x : Tab StepWord) : (s.withSteps x).cstore = s.cstore := rfl
@[simp] theorem State.withSteps_ldr (s : State) (x : Tab StepWord) : (s.withSteps x).ldr = s.ldr := rfl
@[simp] theorem State.withSteps_nand (s : State) (x : Tab StepWord) : (s.withSteps x).nand = s.nand := rfl
@[simp] theorem State.withSteps_sto (s : State) (x : Tab StepWord) : (s.withSteps x).sto = s.sto := rfl
@[simp] theorem State.withSteps_flt (s : State) (x : Tab StepWord) : (s.withSteps x).flt = s.flt := rfl
@[simp] theorem State.withSteps_pwr (s : State) (x : Tab StepWord) : (s.withSteps x).pwr = s.pwr := rfl
@[simp] theorem State.withSteps_lehr (s : State) (x : Tab StepWord) : (s.withSteps x).lehr = s.lehr := rfl
@[simp] theorem State.withSteps_start (s : State) (x : Tab StepWord) : (s.withSteps x).start = s.start := rfl
@[simp] theorem State.withSteps_bst (s : State) (x : Tab StepWord) : (s.withSteps x).bst = s.bst := rfl
@[simp] theorem State.withSteps_otp (s : State) (x : Tab StepWord) : (s.withSteps x).otp = s.otp := rfl
@[simp] theorem State.withSteps_lcs (s : State) (x : Tab StepWord) : (s.withSteps x).lcs = s.lcs := rfl
@[simp] theorem State.withSteps_jtag (s : State) (x : Tab StepWord) : (s.withSteps x).jtag = s.jtag := rfl
@[simp] theorem State.withSteps_dbgReads (s : State) (x : Tab StepWord) : (s.withSteps x).dbgReads = s.dbgReads := rfl
@[simp] theorem State.withSteps_spineOn (s : State) (x : Tab StepWord) : (s.withSteps x).spineOn = s.spineOn := rfl
@[simp] theorem State.withSteps_free (s : State) (x : Tab StepWord) : (s.withSteps x).free = s.free := rfl
@[simp] theorem State.withSteps_out (s : State) (x : Tab StepWord) : (s.withSteps x).out = s.out := rfl
@[simp] theorem State.withRoutes_pending (s : State) (x : Tab Nat) : (s.withRoutes x).pending = s.pending := rfl
@[simp] theorem State.withRoutes_regs (s : State) (x : Tab Nat) : (s.withRoutes x).regs = s.regs := rfl
@[simp] theorem State.withRoutes_latch (s : State) (x : Tab Nat) : (s.withRoutes x).latch = s.latch := rfl
@[simp] theorem State.withRoutes_shadow (s : State) (x : Tab Nat) : (s.withRoutes x).shadow = s.shadow := rfl
@[simp] theorem State.withRoutes_steps (s : State) (x : Tab Nat) : (s.withRoutes x).steps = s.steps := rfl
@[simp] theorem State.withRoutes_routes (s : State) (x : Tab Nat) : (s.withRoutes x).routes = x := rfl
@[simp] theorem State.withRoutes_dm (s : State) (x : Tab Nat) : (s.withRoutes x).dm = s.dm := rfl
@[simp] theorem State.withRoutes_dmBad (s : State) (x : Tab Nat) : (s.withRoutes x).dmBad = s.dmBad := rfl
@[simp] theorem State.withRoutes_results (s : State) (x : Tab Nat) : (s.withRoutes x).results = s.results := rfl
@[simp] theorem State.withRoutes_stamps (s : State) (x : Tab Nat) : (s.withRoutes x).stamps = s.stamps := rfl
@[simp] theorem State.withRoutes_gobIn (s : State) (x : Tab Nat) : (s.withRoutes x).gobIn = s.gobIn := rfl
@[simp] theorem State.withRoutes_gobOut (s : State) (x : Tab Nat) : (s.withRoutes x).gobOut = s.gobOut := rfl
@[simp] theorem State.withRoutes_reqArea (s : State) (x : Tab Nat) : (s.withRoutes x).reqArea = s.reqArea := rfl
@[simp] theorem State.withRoutes_retBuf (s : State) (x : Tab Nat) : (s.withRoutes x).retBuf = s.retBuf := rfl
@[simp] theorem State.withRoutes_farIn (s : State) (x : Tab Nat) : (s.withRoutes x).farIn = s.farIn := rfl
@[simp] theorem State.withRoutes_tiles (s : State) (x : Tab Nat) : (s.withRoutes x).tiles = s.tiles := rfl
@[simp] theorem State.withRoutes_gafs (s : State) (x : Tab Nat) : (s.withRoutes x).gafs = s.gafs := rfl
@[simp] theorem State.withRoutes_ports (s : State) (x : Tab Nat) : (s.withRoutes x).ports = s.ports := rfl
@[simp] theorem State.withRoutes_hbm (s : State) (x : Tab Nat) : (s.withRoutes x).hbm = s.hbm := rfl
@[simp] theorem State.withRoutes_hbmBad (s : State) (x : Tab Nat) : (s.withRoutes x).hbmBad = s.hbmBad := rfl
@[simp] theorem State.withRoutes_hbmSoft (s : State) (x : Tab Nat) : (s.withRoutes x).hbmSoft = s.hbmSoft := rfl
@[simp] theorem State.withRoutes_tb (s : State) (x : Tab Nat) : (s.withRoutes x).tb = s.tb := rfl
@[simp] theorem State.withRoutes_irc (s : State) (x : Tab Nat) : (s.withRoutes x).irc = s.irc := rfl
@[simp] theorem State.withRoutes_pbs (s : State) (x : Tab Nat) : (s.withRoutes x).pbs = s.pbs := rfl
@[simp] theorem State.withRoutes_mrv (s : State) (x : Tab Nat) : (s.withRoutes x).mrv = s.mrv := rfl
@[simp] theorem State.withRoutes_rings (s : State) (x : Tab Nat) : (s.withRoutes x).rings = s.rings := rfl
@[simp] theorem State.withRoutes_strobes (s : State) (x : Tab Nat) : (s.withRoutes x).strobes = s.strobes := rfl
@[simp] theorem State.withRoutes_discardEv (s : State) (x : Tab Nat) : (s.withRoutes x).discardEv = s.discardEv := rfl
@[simp] theorem State.withRoutes_slots (s : State) (x : Tab Nat) : (s.withRoutes x).slots = s.slots := rfl
@[simp] theorem State.withRoutes_noc (s : State) (x : Tab Nat) : (s.withRoutes x).noc = s.noc := rfl
@[simp] theorem State.withRoutes_dma (s : State) (x : Tab Nat) : (s.withRoutes x).dma = s.dma := rfl
@[simp] theorem State.withRoutes_fab (s : State) (x : Tab Nat) : (s.withRoutes x).fab = s.fab := rfl
@[simp] theorem State.withRoutes_mbx (s : State) (x : Tab Nat) : (s.withRoutes x).mbx = s.mbx := rfl
@[simp] theorem State.withRoutes_pcie (s : State) (x : Tab Nat) : (s.withRoutes x).pcie = s.pcie := rfl
@[simp] theorem State.withRoutes_bar4 (s : State) (x : Tab Nat) : (s.withRoutes x).bar4 = s.bar4 := rfl
@[simp] theorem State.withRoutes_hbmHeld (s : State) (x : Tab Nat) : (s.withRoutes x).hbmHeld = s.hbmHeld := rfl
@[simp] theorem State.withRoutes_eth (s : State) (x : Tab Nat) : (s.withRoutes x).eth = s.eth := rfl
@[simp] theorem State.withRoutes_mcLog (s : State) (x : Tab Nat) : (s.withRoutes x).mcLog = s.mcLog := rfl
@[simp] theorem State.withRoutes_evtSent (s : State) (x : Tab Nat) : (s.withRoutes x).evtSent = s.evtSent := rfl
@[simp] theorem State.withRoutes_cstore (s : State) (x : Tab Nat) : (s.withRoutes x).cstore = s.cstore := rfl
@[simp] theorem State.withRoutes_ldr (s : State) (x : Tab Nat) : (s.withRoutes x).ldr = s.ldr := rfl
@[simp] theorem State.withRoutes_nand (s : State) (x : Tab Nat) : (s.withRoutes x).nand = s.nand := rfl
@[simp] theorem State.withRoutes_sto (s : State) (x : Tab Nat) : (s.withRoutes x).sto = s.sto := rfl
@[simp] theorem State.withRoutes_flt (s : State) (x : Tab Nat) : (s.withRoutes x).flt = s.flt := rfl
@[simp] theorem State.withRoutes_pwr (s : State) (x : Tab Nat) : (s.withRoutes x).pwr = s.pwr := rfl
@[simp] theorem State.withRoutes_lehr (s : State) (x : Tab Nat) : (s.withRoutes x).lehr = s.lehr := rfl
@[simp] theorem State.withRoutes_start (s : State) (x : Tab Nat) : (s.withRoutes x).start = s.start := rfl
@[simp] theorem State.withRoutes_bst (s : State) (x : Tab Nat) : (s.withRoutes x).bst = s.bst := rfl
@[simp] theorem State.withRoutes_otp (s : State) (x : Tab Nat) : (s.withRoutes x).otp = s.otp := rfl
@[simp] theorem State.withRoutes_lcs (s : State) (x : Tab Nat) : (s.withRoutes x).lcs = s.lcs := rfl
@[simp] theorem State.withRoutes_jtag (s : State) (x : Tab Nat) : (s.withRoutes x).jtag = s.jtag := rfl
@[simp] theorem State.withRoutes_dbgReads (s : State) (x : Tab Nat) : (s.withRoutes x).dbgReads = s.dbgReads := rfl
@[simp] theorem State.withRoutes_spineOn (s : State) (x : Tab Nat) : (s.withRoutes x).spineOn = s.spineOn := rfl
@[simp] theorem State.withRoutes_free (s : State) (x : Tab Nat) : (s.withRoutes x).free = s.free := rfl
@[simp] theorem State.withRoutes_out (s : State) (x : Tab Nat) : (s.withRoutes x).out = s.out := rfl
@[simp] theorem State.withDm_pending (s : State) (x : Tab Bool) : (s.withDm x).pending = s.pending := rfl
@[simp] theorem State.withDm_regs (s : State) (x : Tab Bool) : (s.withDm x).regs = s.regs := rfl
@[simp] theorem State.withDm_latch (s : State) (x : Tab Bool) : (s.withDm x).latch = s.latch := rfl
@[simp] theorem State.withDm_shadow (s : State) (x : Tab Bool) : (s.withDm x).shadow = s.shadow := rfl
@[simp] theorem State.withDm_steps (s : State) (x : Tab Bool) : (s.withDm x).steps = s.steps := rfl
@[simp] theorem State.withDm_routes (s : State) (x : Tab Bool) : (s.withDm x).routes = s.routes := rfl
@[simp] theorem State.withDm_dm (s : State) (x : Tab Bool) : (s.withDm x).dm = x := rfl
@[simp] theorem State.withDm_dmBad (s : State) (x : Tab Bool) : (s.withDm x).dmBad = s.dmBad := rfl
@[simp] theorem State.withDm_results (s : State) (x : Tab Bool) : (s.withDm x).results = s.results := rfl
@[simp] theorem State.withDm_stamps (s : State) (x : Tab Bool) : (s.withDm x).stamps = s.stamps := rfl
@[simp] theorem State.withDm_gobIn (s : State) (x : Tab Bool) : (s.withDm x).gobIn = s.gobIn := rfl
@[simp] theorem State.withDm_gobOut (s : State) (x : Tab Bool) : (s.withDm x).gobOut = s.gobOut := rfl
@[simp] theorem State.withDm_reqArea (s : State) (x : Tab Bool) : (s.withDm x).reqArea = s.reqArea := rfl
@[simp] theorem State.withDm_retBuf (s : State) (x : Tab Bool) : (s.withDm x).retBuf = s.retBuf := rfl
@[simp] theorem State.withDm_farIn (s : State) (x : Tab Bool) : (s.withDm x).farIn = s.farIn := rfl
@[simp] theorem State.withDm_tiles (s : State) (x : Tab Bool) : (s.withDm x).tiles = s.tiles := rfl
@[simp] theorem State.withDm_gafs (s : State) (x : Tab Bool) : (s.withDm x).gafs = s.gafs := rfl
@[simp] theorem State.withDm_ports (s : State) (x : Tab Bool) : (s.withDm x).ports = s.ports := rfl
@[simp] theorem State.withDm_hbm (s : State) (x : Tab Bool) : (s.withDm x).hbm = s.hbm := rfl
@[simp] theorem State.withDm_hbmBad (s : State) (x : Tab Bool) : (s.withDm x).hbmBad = s.hbmBad := rfl
@[simp] theorem State.withDm_hbmSoft (s : State) (x : Tab Bool) : (s.withDm x).hbmSoft = s.hbmSoft := rfl
@[simp] theorem State.withDm_tb (s : State) (x : Tab Bool) : (s.withDm x).tb = s.tb := rfl
@[simp] theorem State.withDm_irc (s : State) (x : Tab Bool) : (s.withDm x).irc = s.irc := rfl
@[simp] theorem State.withDm_pbs (s : State) (x : Tab Bool) : (s.withDm x).pbs = s.pbs := rfl
@[simp] theorem State.withDm_mrv (s : State) (x : Tab Bool) : (s.withDm x).mrv = s.mrv := rfl
@[simp] theorem State.withDm_rings (s : State) (x : Tab Bool) : (s.withDm x).rings = s.rings := rfl
@[simp] theorem State.withDm_strobes (s : State) (x : Tab Bool) : (s.withDm x).strobes = s.strobes := rfl
@[simp] theorem State.withDm_discardEv (s : State) (x : Tab Bool) : (s.withDm x).discardEv = s.discardEv := rfl
@[simp] theorem State.withDm_slots (s : State) (x : Tab Bool) : (s.withDm x).slots = s.slots := rfl
@[simp] theorem State.withDm_noc (s : State) (x : Tab Bool) : (s.withDm x).noc = s.noc := rfl
@[simp] theorem State.withDm_dma (s : State) (x : Tab Bool) : (s.withDm x).dma = s.dma := rfl
@[simp] theorem State.withDm_fab (s : State) (x : Tab Bool) : (s.withDm x).fab = s.fab := rfl
@[simp] theorem State.withDm_mbx (s : State) (x : Tab Bool) : (s.withDm x).mbx = s.mbx := rfl
@[simp] theorem State.withDm_pcie (s : State) (x : Tab Bool) : (s.withDm x).pcie = s.pcie := rfl
@[simp] theorem State.withDm_bar4 (s : State) (x : Tab Bool) : (s.withDm x).bar4 = s.bar4 := rfl
@[simp] theorem State.withDm_hbmHeld (s : State) (x : Tab Bool) : (s.withDm x).hbmHeld = s.hbmHeld := rfl
@[simp] theorem State.withDm_eth (s : State) (x : Tab Bool) : (s.withDm x).eth = s.eth := rfl
@[simp] theorem State.withDm_mcLog (s : State) (x : Tab Bool) : (s.withDm x).mcLog = s.mcLog := rfl
@[simp] theorem State.withDm_evtSent (s : State) (x : Tab Bool) : (s.withDm x).evtSent = s.evtSent := rfl
@[simp] theorem State.withDm_cstore (s : State) (x : Tab Bool) : (s.withDm x).cstore = s.cstore := rfl
@[simp] theorem State.withDm_ldr (s : State) (x : Tab Bool) : (s.withDm x).ldr = s.ldr := rfl
@[simp] theorem State.withDm_nand (s : State) (x : Tab Bool) : (s.withDm x).nand = s.nand := rfl
@[simp] theorem State.withDm_sto (s : State) (x : Tab Bool) : (s.withDm x).sto = s.sto := rfl
@[simp] theorem State.withDm_flt (s : State) (x : Tab Bool) : (s.withDm x).flt = s.flt := rfl
@[simp] theorem State.withDm_pwr (s : State) (x : Tab Bool) : (s.withDm x).pwr = s.pwr := rfl
@[simp] theorem State.withDm_lehr (s : State) (x : Tab Bool) : (s.withDm x).lehr = s.lehr := rfl
@[simp] theorem State.withDm_start (s : State) (x : Tab Bool) : (s.withDm x).start = s.start := rfl
@[simp] theorem State.withDm_bst (s : State) (x : Tab Bool) : (s.withDm x).bst = s.bst := rfl
@[simp] theorem State.withDm_otp (s : State) (x : Tab Bool) : (s.withDm x).otp = s.otp := rfl
@[simp] theorem State.withDm_lcs (s : State) (x : Tab Bool) : (s.withDm x).lcs = s.lcs := rfl
@[simp] theorem State.withDm_jtag (s : State) (x : Tab Bool) : (s.withDm x).jtag = s.jtag := rfl
@[simp] theorem State.withDm_dbgReads (s : State) (x : Tab Bool) : (s.withDm x).dbgReads = s.dbgReads := rfl
@[simp] theorem State.withDm_spineOn (s : State) (x : Tab Bool) : (s.withDm x).spineOn = s.spineOn := rfl
@[simp] theorem State.withDm_free (s : State) (x : Tab Bool) : (s.withDm x).free = s.free := rfl
@[simp] theorem State.withDm_out (s : State) (x : Tab Bool) : (s.withDm x).out = s.out := rfl
@[simp] theorem State.withDmBad_pending (s : State) (x : Tab Bool) : (s.withDmBad x).pending = s.pending := rfl
@[simp] theorem State.withDmBad_regs (s : State) (x : Tab Bool) : (s.withDmBad x).regs = s.regs := rfl
@[simp] theorem State.withDmBad_latch (s : State) (x : Tab Bool) : (s.withDmBad x).latch = s.latch := rfl
@[simp] theorem State.withDmBad_shadow (s : State) (x : Tab Bool) : (s.withDmBad x).shadow = s.shadow := rfl
@[simp] theorem State.withDmBad_steps (s : State) (x : Tab Bool) : (s.withDmBad x).steps = s.steps := rfl
@[simp] theorem State.withDmBad_routes (s : State) (x : Tab Bool) : (s.withDmBad x).routes = s.routes := rfl
@[simp] theorem State.withDmBad_dm (s : State) (x : Tab Bool) : (s.withDmBad x).dm = s.dm := rfl
@[simp] theorem State.withDmBad_dmBad (s : State) (x : Tab Bool) : (s.withDmBad x).dmBad = x := rfl
@[simp] theorem State.withDmBad_results (s : State) (x : Tab Bool) : (s.withDmBad x).results = s.results := rfl
@[simp] theorem State.withDmBad_stamps (s : State) (x : Tab Bool) : (s.withDmBad x).stamps = s.stamps := rfl
@[simp] theorem State.withDmBad_gobIn (s : State) (x : Tab Bool) : (s.withDmBad x).gobIn = s.gobIn := rfl
@[simp] theorem State.withDmBad_gobOut (s : State) (x : Tab Bool) : (s.withDmBad x).gobOut = s.gobOut := rfl
@[simp] theorem State.withDmBad_reqArea (s : State) (x : Tab Bool) : (s.withDmBad x).reqArea = s.reqArea := rfl
@[simp] theorem State.withDmBad_retBuf (s : State) (x : Tab Bool) : (s.withDmBad x).retBuf = s.retBuf := rfl
@[simp] theorem State.withDmBad_farIn (s : State) (x : Tab Bool) : (s.withDmBad x).farIn = s.farIn := rfl
@[simp] theorem State.withDmBad_tiles (s : State) (x : Tab Bool) : (s.withDmBad x).tiles = s.tiles := rfl
@[simp] theorem State.withDmBad_gafs (s : State) (x : Tab Bool) : (s.withDmBad x).gafs = s.gafs := rfl
@[simp] theorem State.withDmBad_ports (s : State) (x : Tab Bool) : (s.withDmBad x).ports = s.ports := rfl
@[simp] theorem State.withDmBad_hbm (s : State) (x : Tab Bool) : (s.withDmBad x).hbm = s.hbm := rfl
@[simp] theorem State.withDmBad_hbmBad (s : State) (x : Tab Bool) : (s.withDmBad x).hbmBad = s.hbmBad := rfl
@[simp] theorem State.withDmBad_hbmSoft (s : State) (x : Tab Bool) : (s.withDmBad x).hbmSoft = s.hbmSoft := rfl
@[simp] theorem State.withDmBad_tb (s : State) (x : Tab Bool) : (s.withDmBad x).tb = s.tb := rfl
@[simp] theorem State.withDmBad_irc (s : State) (x : Tab Bool) : (s.withDmBad x).irc = s.irc := rfl
@[simp] theorem State.withDmBad_pbs (s : State) (x : Tab Bool) : (s.withDmBad x).pbs = s.pbs := rfl
@[simp] theorem State.withDmBad_mrv (s : State) (x : Tab Bool) : (s.withDmBad x).mrv = s.mrv := rfl
@[simp] theorem State.withDmBad_rings (s : State) (x : Tab Bool) : (s.withDmBad x).rings = s.rings := rfl
@[simp] theorem State.withDmBad_strobes (s : State) (x : Tab Bool) : (s.withDmBad x).strobes = s.strobes := rfl
@[simp] theorem State.withDmBad_discardEv (s : State) (x : Tab Bool) : (s.withDmBad x).discardEv = s.discardEv := rfl
@[simp] theorem State.withDmBad_slots (s : State) (x : Tab Bool) : (s.withDmBad x).slots = s.slots := rfl
@[simp] theorem State.withDmBad_noc (s : State) (x : Tab Bool) : (s.withDmBad x).noc = s.noc := rfl
@[simp] theorem State.withDmBad_dma (s : State) (x : Tab Bool) : (s.withDmBad x).dma = s.dma := rfl
@[simp] theorem State.withDmBad_fab (s : State) (x : Tab Bool) : (s.withDmBad x).fab = s.fab := rfl
@[simp] theorem State.withDmBad_mbx (s : State) (x : Tab Bool) : (s.withDmBad x).mbx = s.mbx := rfl
@[simp] theorem State.withDmBad_pcie (s : State) (x : Tab Bool) : (s.withDmBad x).pcie = s.pcie := rfl
@[simp] theorem State.withDmBad_bar4 (s : State) (x : Tab Bool) : (s.withDmBad x).bar4 = s.bar4 := rfl
@[simp] theorem State.withDmBad_hbmHeld (s : State) (x : Tab Bool) : (s.withDmBad x).hbmHeld = s.hbmHeld := rfl
@[simp] theorem State.withDmBad_eth (s : State) (x : Tab Bool) : (s.withDmBad x).eth = s.eth := rfl
@[simp] theorem State.withDmBad_mcLog (s : State) (x : Tab Bool) : (s.withDmBad x).mcLog = s.mcLog := rfl
@[simp] theorem State.withDmBad_evtSent (s : State) (x : Tab Bool) : (s.withDmBad x).evtSent = s.evtSent := rfl
@[simp] theorem State.withDmBad_cstore (s : State) (x : Tab Bool) : (s.withDmBad x).cstore = s.cstore := rfl
@[simp] theorem State.withDmBad_ldr (s : State) (x : Tab Bool) : (s.withDmBad x).ldr = s.ldr := rfl
@[simp] theorem State.withDmBad_nand (s : State) (x : Tab Bool) : (s.withDmBad x).nand = s.nand := rfl
@[simp] theorem State.withDmBad_sto (s : State) (x : Tab Bool) : (s.withDmBad x).sto = s.sto := rfl
@[simp] theorem State.withDmBad_flt (s : State) (x : Tab Bool) : (s.withDmBad x).flt = s.flt := rfl
@[simp] theorem State.withDmBad_pwr (s : State) (x : Tab Bool) : (s.withDmBad x).pwr = s.pwr := rfl
@[simp] theorem State.withDmBad_lehr (s : State) (x : Tab Bool) : (s.withDmBad x).lehr = s.lehr := rfl
@[simp] theorem State.withDmBad_start (s : State) (x : Tab Bool) : (s.withDmBad x).start = s.start := rfl
@[simp] theorem State.withDmBad_bst (s : State) (x : Tab Bool) : (s.withDmBad x).bst = s.bst := rfl
@[simp] theorem State.withDmBad_otp (s : State) (x : Tab Bool) : (s.withDmBad x).otp = s.otp := rfl
@[simp] theorem State.withDmBad_lcs (s : State) (x : Tab Bool) : (s.withDmBad x).lcs = s.lcs := rfl
@[simp] theorem State.withDmBad_jtag (s : State) (x : Tab Bool) : (s.withDmBad x).jtag = s.jtag := rfl
@[simp] theorem State.withDmBad_dbgReads (s : State) (x : Tab Bool) : (s.withDmBad x).dbgReads = s.dbgReads := rfl
@[simp] theorem State.withDmBad_spineOn (s : State) (x : Tab Bool) : (s.withDmBad x).spineOn = s.spineOn := rfl
@[simp] theorem State.withDmBad_free (s : State) (x : Tab Bool) : (s.withDmBad x).free = s.free := rfl
@[simp] theorem State.withDmBad_out (s : State) (x : Tab Bool) : (s.withDmBad x).out = s.out := rfl
@[simp] theorem State.withResults_pending (s : State) (x : Tab Bool) : (s.withResults x).pending = s.pending := rfl
@[simp] theorem State.withResults_regs (s : State) (x : Tab Bool) : (s.withResults x).regs = s.regs := rfl
@[simp] theorem State.withResults_latch (s : State) (x : Tab Bool) : (s.withResults x).latch = s.latch := rfl
@[simp] theorem State.withResults_shadow (s : State) (x : Tab Bool) : (s.withResults x).shadow = s.shadow := rfl
@[simp] theorem State.withResults_steps (s : State) (x : Tab Bool) : (s.withResults x).steps = s.steps := rfl
@[simp] theorem State.withResults_routes (s : State) (x : Tab Bool) : (s.withResults x).routes = s.routes := rfl
@[simp] theorem State.withResults_dm (s : State) (x : Tab Bool) : (s.withResults x).dm = s.dm := rfl
@[simp] theorem State.withResults_dmBad (s : State) (x : Tab Bool) : (s.withResults x).dmBad = s.dmBad := rfl
@[simp] theorem State.withResults_results (s : State) (x : Tab Bool) : (s.withResults x).results = x := rfl
@[simp] theorem State.withResults_stamps (s : State) (x : Tab Bool) : (s.withResults x).stamps = s.stamps := rfl
@[simp] theorem State.withResults_gobIn (s : State) (x : Tab Bool) : (s.withResults x).gobIn = s.gobIn := rfl
@[simp] theorem State.withResults_gobOut (s : State) (x : Tab Bool) : (s.withResults x).gobOut = s.gobOut := rfl
@[simp] theorem State.withResults_reqArea (s : State) (x : Tab Bool) : (s.withResults x).reqArea = s.reqArea := rfl
@[simp] theorem State.withResults_retBuf (s : State) (x : Tab Bool) : (s.withResults x).retBuf = s.retBuf := rfl
@[simp] theorem State.withResults_farIn (s : State) (x : Tab Bool) : (s.withResults x).farIn = s.farIn := rfl
@[simp] theorem State.withResults_tiles (s : State) (x : Tab Bool) : (s.withResults x).tiles = s.tiles := rfl
@[simp] theorem State.withResults_gafs (s : State) (x : Tab Bool) : (s.withResults x).gafs = s.gafs := rfl
@[simp] theorem State.withResults_ports (s : State) (x : Tab Bool) : (s.withResults x).ports = s.ports := rfl
@[simp] theorem State.withResults_hbm (s : State) (x : Tab Bool) : (s.withResults x).hbm = s.hbm := rfl
@[simp] theorem State.withResults_hbmBad (s : State) (x : Tab Bool) : (s.withResults x).hbmBad = s.hbmBad := rfl
@[simp] theorem State.withResults_hbmSoft (s : State) (x : Tab Bool) : (s.withResults x).hbmSoft = s.hbmSoft := rfl
@[simp] theorem State.withResults_tb (s : State) (x : Tab Bool) : (s.withResults x).tb = s.tb := rfl
@[simp] theorem State.withResults_irc (s : State) (x : Tab Bool) : (s.withResults x).irc = s.irc := rfl
@[simp] theorem State.withResults_pbs (s : State) (x : Tab Bool) : (s.withResults x).pbs = s.pbs := rfl
@[simp] theorem State.withResults_mrv (s : State) (x : Tab Bool) : (s.withResults x).mrv = s.mrv := rfl
@[simp] theorem State.withResults_rings (s : State) (x : Tab Bool) : (s.withResults x).rings = s.rings := rfl
@[simp] theorem State.withResults_strobes (s : State) (x : Tab Bool) : (s.withResults x).strobes = s.strobes := rfl
@[simp] theorem State.withResults_discardEv (s : State) (x : Tab Bool) : (s.withResults x).discardEv = s.discardEv := rfl
@[simp] theorem State.withResults_slots (s : State) (x : Tab Bool) : (s.withResults x).slots = s.slots := rfl
@[simp] theorem State.withResults_noc (s : State) (x : Tab Bool) : (s.withResults x).noc = s.noc := rfl
@[simp] theorem State.withResults_dma (s : State) (x : Tab Bool) : (s.withResults x).dma = s.dma := rfl
@[simp] theorem State.withResults_fab (s : State) (x : Tab Bool) : (s.withResults x).fab = s.fab := rfl
@[simp] theorem State.withResults_mbx (s : State) (x : Tab Bool) : (s.withResults x).mbx = s.mbx := rfl
@[simp] theorem State.withResults_pcie (s : State) (x : Tab Bool) : (s.withResults x).pcie = s.pcie := rfl
@[simp] theorem State.withResults_bar4 (s : State) (x : Tab Bool) : (s.withResults x).bar4 = s.bar4 := rfl
@[simp] theorem State.withResults_hbmHeld (s : State) (x : Tab Bool) : (s.withResults x).hbmHeld = s.hbmHeld := rfl
@[simp] theorem State.withResults_eth (s : State) (x : Tab Bool) : (s.withResults x).eth = s.eth := rfl
@[simp] theorem State.withResults_mcLog (s : State) (x : Tab Bool) : (s.withResults x).mcLog = s.mcLog := rfl
@[simp] theorem State.withResults_evtSent (s : State) (x : Tab Bool) : (s.withResults x).evtSent = s.evtSent := rfl
@[simp] theorem State.withResults_cstore (s : State) (x : Tab Bool) : (s.withResults x).cstore = s.cstore := rfl
@[simp] theorem State.withResults_ldr (s : State) (x : Tab Bool) : (s.withResults x).ldr = s.ldr := rfl
@[simp] theorem State.withResults_nand (s : State) (x : Tab Bool) : (s.withResults x).nand = s.nand := rfl
@[simp] theorem State.withResults_sto (s : State) (x : Tab Bool) : (s.withResults x).sto = s.sto := rfl
@[simp] theorem State.withResults_flt (s : State) (x : Tab Bool) : (s.withResults x).flt = s.flt := rfl
@[simp] theorem State.withResults_pwr (s : State) (x : Tab Bool) : (s.withResults x).pwr = s.pwr := rfl
@[simp] theorem State.withResults_lehr (s : State) (x : Tab Bool) : (s.withResults x).lehr = s.lehr := rfl
@[simp] theorem State.withResults_start (s : State) (x : Tab Bool) : (s.withResults x).start = s.start := rfl
@[simp] theorem State.withResults_bst (s : State) (x : Tab Bool) : (s.withResults x).bst = s.bst := rfl
@[simp] theorem State.withResults_otp (s : State) (x : Tab Bool) : (s.withResults x).otp = s.otp := rfl
@[simp] theorem State.withResults_lcs (s : State) (x : Tab Bool) : (s.withResults x).lcs = s.lcs := rfl
@[simp] theorem State.withResults_jtag (s : State) (x : Tab Bool) : (s.withResults x).jtag = s.jtag := rfl
@[simp] theorem State.withResults_dbgReads (s : State) (x : Tab Bool) : (s.withResults x).dbgReads = s.dbgReads := rfl
@[simp] theorem State.withResults_spineOn (s : State) (x : Tab Bool) : (s.withResults x).spineOn = s.spineOn := rfl
@[simp] theorem State.withResults_free (s : State) (x : Tab Bool) : (s.withResults x).free = s.free := rfl
@[simp] theorem State.withResults_out (s : State) (x : Tab Bool) : (s.withResults x).out = s.out := rfl
@[simp] theorem State.withStamps_pending (s : State) (x : Tab Nat) : (s.withStamps x).pending = s.pending := rfl
@[simp] theorem State.withStamps_regs (s : State) (x : Tab Nat) : (s.withStamps x).regs = s.regs := rfl
@[simp] theorem State.withStamps_latch (s : State) (x : Tab Nat) : (s.withStamps x).latch = s.latch := rfl
@[simp] theorem State.withStamps_shadow (s : State) (x : Tab Nat) : (s.withStamps x).shadow = s.shadow := rfl
@[simp] theorem State.withStamps_steps (s : State) (x : Tab Nat) : (s.withStamps x).steps = s.steps := rfl
@[simp] theorem State.withStamps_routes (s : State) (x : Tab Nat) : (s.withStamps x).routes = s.routes := rfl
@[simp] theorem State.withStamps_dm (s : State) (x : Tab Nat) : (s.withStamps x).dm = s.dm := rfl
@[simp] theorem State.withStamps_dmBad (s : State) (x : Tab Nat) : (s.withStamps x).dmBad = s.dmBad := rfl
@[simp] theorem State.withStamps_results (s : State) (x : Tab Nat) : (s.withStamps x).results = s.results := rfl
@[simp] theorem State.withStamps_stamps (s : State) (x : Tab Nat) : (s.withStamps x).stamps = x := rfl
@[simp] theorem State.withStamps_gobIn (s : State) (x : Tab Nat) : (s.withStamps x).gobIn = s.gobIn := rfl
@[simp] theorem State.withStamps_gobOut (s : State) (x : Tab Nat) : (s.withStamps x).gobOut = s.gobOut := rfl
@[simp] theorem State.withStamps_reqArea (s : State) (x : Tab Nat) : (s.withStamps x).reqArea = s.reqArea := rfl
@[simp] theorem State.withStamps_retBuf (s : State) (x : Tab Nat) : (s.withStamps x).retBuf = s.retBuf := rfl
@[simp] theorem State.withStamps_farIn (s : State) (x : Tab Nat) : (s.withStamps x).farIn = s.farIn := rfl
@[simp] theorem State.withStamps_tiles (s : State) (x : Tab Nat) : (s.withStamps x).tiles = s.tiles := rfl
@[simp] theorem State.withStamps_gafs (s : State) (x : Tab Nat) : (s.withStamps x).gafs = s.gafs := rfl
@[simp] theorem State.withStamps_ports (s : State) (x : Tab Nat) : (s.withStamps x).ports = s.ports := rfl
@[simp] theorem State.withStamps_hbm (s : State) (x : Tab Nat) : (s.withStamps x).hbm = s.hbm := rfl
@[simp] theorem State.withStamps_hbmBad (s : State) (x : Tab Nat) : (s.withStamps x).hbmBad = s.hbmBad := rfl
@[simp] theorem State.withStamps_hbmSoft (s : State) (x : Tab Nat) : (s.withStamps x).hbmSoft = s.hbmSoft := rfl
@[simp] theorem State.withStamps_tb (s : State) (x : Tab Nat) : (s.withStamps x).tb = s.tb := rfl
@[simp] theorem State.withStamps_irc (s : State) (x : Tab Nat) : (s.withStamps x).irc = s.irc := rfl
@[simp] theorem State.withStamps_pbs (s : State) (x : Tab Nat) : (s.withStamps x).pbs = s.pbs := rfl
@[simp] theorem State.withStamps_mrv (s : State) (x : Tab Nat) : (s.withStamps x).mrv = s.mrv := rfl
@[simp] theorem State.withStamps_rings (s : State) (x : Tab Nat) : (s.withStamps x).rings = s.rings := rfl
@[simp] theorem State.withStamps_strobes (s : State) (x : Tab Nat) : (s.withStamps x).strobes = s.strobes := rfl
@[simp] theorem State.withStamps_discardEv (s : State) (x : Tab Nat) : (s.withStamps x).discardEv = s.discardEv := rfl
@[simp] theorem State.withStamps_slots (s : State) (x : Tab Nat) : (s.withStamps x).slots = s.slots := rfl
@[simp] theorem State.withStamps_noc (s : State) (x : Tab Nat) : (s.withStamps x).noc = s.noc := rfl
@[simp] theorem State.withStamps_dma (s : State) (x : Tab Nat) : (s.withStamps x).dma = s.dma := rfl
@[simp] theorem State.withStamps_fab (s : State) (x : Tab Nat) : (s.withStamps x).fab = s.fab := rfl
@[simp] theorem State.withStamps_mbx (s : State) (x : Tab Nat) : (s.withStamps x).mbx = s.mbx := rfl
@[simp] theorem State.withStamps_pcie (s : State) (x : Tab Nat) : (s.withStamps x).pcie = s.pcie := rfl
@[simp] theorem State.withStamps_bar4 (s : State) (x : Tab Nat) : (s.withStamps x).bar4 = s.bar4 := rfl
@[simp] theorem State.withStamps_hbmHeld (s : State) (x : Tab Nat) : (s.withStamps x).hbmHeld = s.hbmHeld := rfl
@[simp] theorem State.withStamps_eth (s : State) (x : Tab Nat) : (s.withStamps x).eth = s.eth := rfl
@[simp] theorem State.withStamps_mcLog (s : State) (x : Tab Nat) : (s.withStamps x).mcLog = s.mcLog := rfl
@[simp] theorem State.withStamps_evtSent (s : State) (x : Tab Nat) : (s.withStamps x).evtSent = s.evtSent := rfl
@[simp] theorem State.withStamps_cstore (s : State) (x : Tab Nat) : (s.withStamps x).cstore = s.cstore := rfl
@[simp] theorem State.withStamps_ldr (s : State) (x : Tab Nat) : (s.withStamps x).ldr = s.ldr := rfl
@[simp] theorem State.withStamps_nand (s : State) (x : Tab Nat) : (s.withStamps x).nand = s.nand := rfl
@[simp] theorem State.withStamps_sto (s : State) (x : Tab Nat) : (s.withStamps x).sto = s.sto := rfl
@[simp] theorem State.withStamps_flt (s : State) (x : Tab Nat) : (s.withStamps x).flt = s.flt := rfl
@[simp] theorem State.withStamps_pwr (s : State) (x : Tab Nat) : (s.withStamps x).pwr = s.pwr := rfl
@[simp] theorem State.withStamps_lehr (s : State) (x : Tab Nat) : (s.withStamps x).lehr = s.lehr := rfl
@[simp] theorem State.withStamps_start (s : State) (x : Tab Nat) : (s.withStamps x).start = s.start := rfl
@[simp] theorem State.withStamps_bst (s : State) (x : Tab Nat) : (s.withStamps x).bst = s.bst := rfl
@[simp] theorem State.withStamps_otp (s : State) (x : Tab Nat) : (s.withStamps x).otp = s.otp := rfl
@[simp] theorem State.withStamps_lcs (s : State) (x : Tab Nat) : (s.withStamps x).lcs = s.lcs := rfl
@[simp] theorem State.withStamps_jtag (s : State) (x : Tab Nat) : (s.withStamps x).jtag = s.jtag := rfl
@[simp] theorem State.withStamps_dbgReads (s : State) (x : Tab Nat) : (s.withStamps x).dbgReads = s.dbgReads := rfl
@[simp] theorem State.withStamps_spineOn (s : State) (x : Tab Nat) : (s.withStamps x).spineOn = s.spineOn := rfl
@[simp] theorem State.withStamps_free (s : State) (x : Tab Nat) : (s.withStamps x).free = s.free := rfl
@[simp] theorem State.withStamps_out (s : State) (x : Tab Nat) : (s.withStamps x).out = s.out := rfl
@[simp] theorem State.withGobIn_pending (s : State) (x : Bytes) : (s.withGobIn x).pending = s.pending := rfl
@[simp] theorem State.withGobIn_regs (s : State) (x : Bytes) : (s.withGobIn x).regs = s.regs := rfl
@[simp] theorem State.withGobIn_latch (s : State) (x : Bytes) : (s.withGobIn x).latch = s.latch := rfl
@[simp] theorem State.withGobIn_shadow (s : State) (x : Bytes) : (s.withGobIn x).shadow = s.shadow := rfl
@[simp] theorem State.withGobIn_steps (s : State) (x : Bytes) : (s.withGobIn x).steps = s.steps := rfl
@[simp] theorem State.withGobIn_routes (s : State) (x : Bytes) : (s.withGobIn x).routes = s.routes := rfl
@[simp] theorem State.withGobIn_dm (s : State) (x : Bytes) : (s.withGobIn x).dm = s.dm := rfl
@[simp] theorem State.withGobIn_dmBad (s : State) (x : Bytes) : (s.withGobIn x).dmBad = s.dmBad := rfl
@[simp] theorem State.withGobIn_results (s : State) (x : Bytes) : (s.withGobIn x).results = s.results := rfl
@[simp] theorem State.withGobIn_stamps (s : State) (x : Bytes) : (s.withGobIn x).stamps = s.stamps := rfl
@[simp] theorem State.withGobIn_gobIn (s : State) (x : Bytes) : (s.withGobIn x).gobIn = x := rfl
@[simp] theorem State.withGobIn_gobOut (s : State) (x : Bytes) : (s.withGobIn x).gobOut = s.gobOut := rfl
@[simp] theorem State.withGobIn_reqArea (s : State) (x : Bytes) : (s.withGobIn x).reqArea = s.reqArea := rfl
@[simp] theorem State.withGobIn_retBuf (s : State) (x : Bytes) : (s.withGobIn x).retBuf = s.retBuf := rfl
@[simp] theorem State.withGobIn_farIn (s : State) (x : Bytes) : (s.withGobIn x).farIn = s.farIn := rfl
@[simp] theorem State.withGobIn_tiles (s : State) (x : Bytes) : (s.withGobIn x).tiles = s.tiles := rfl
@[simp] theorem State.withGobIn_gafs (s : State) (x : Bytes) : (s.withGobIn x).gafs = s.gafs := rfl
@[simp] theorem State.withGobIn_ports (s : State) (x : Bytes) : (s.withGobIn x).ports = s.ports := rfl
@[simp] theorem State.withGobIn_hbm (s : State) (x : Bytes) : (s.withGobIn x).hbm = s.hbm := rfl
@[simp] theorem State.withGobIn_hbmBad (s : State) (x : Bytes) : (s.withGobIn x).hbmBad = s.hbmBad := rfl
@[simp] theorem State.withGobIn_hbmSoft (s : State) (x : Bytes) : (s.withGobIn x).hbmSoft = s.hbmSoft := rfl
@[simp] theorem State.withGobIn_tb (s : State) (x : Bytes) : (s.withGobIn x).tb = s.tb := rfl
@[simp] theorem State.withGobIn_irc (s : State) (x : Bytes) : (s.withGobIn x).irc = s.irc := rfl
@[simp] theorem State.withGobIn_pbs (s : State) (x : Bytes) : (s.withGobIn x).pbs = s.pbs := rfl
@[simp] theorem State.withGobIn_mrv (s : State) (x : Bytes) : (s.withGobIn x).mrv = s.mrv := rfl
@[simp] theorem State.withGobIn_rings (s : State) (x : Bytes) : (s.withGobIn x).rings = s.rings := rfl
@[simp] theorem State.withGobIn_strobes (s : State) (x : Bytes) : (s.withGobIn x).strobes = s.strobes := rfl
@[simp] theorem State.withGobIn_discardEv (s : State) (x : Bytes) : (s.withGobIn x).discardEv = s.discardEv := rfl
@[simp] theorem State.withGobIn_slots (s : State) (x : Bytes) : (s.withGobIn x).slots = s.slots := rfl
@[simp] theorem State.withGobIn_noc (s : State) (x : Bytes) : (s.withGobIn x).noc = s.noc := rfl
@[simp] theorem State.withGobIn_dma (s : State) (x : Bytes) : (s.withGobIn x).dma = s.dma := rfl
@[simp] theorem State.withGobIn_fab (s : State) (x : Bytes) : (s.withGobIn x).fab = s.fab := rfl
@[simp] theorem State.withGobIn_mbx (s : State) (x : Bytes) : (s.withGobIn x).mbx = s.mbx := rfl
@[simp] theorem State.withGobIn_pcie (s : State) (x : Bytes) : (s.withGobIn x).pcie = s.pcie := rfl
@[simp] theorem State.withGobIn_bar4 (s : State) (x : Bytes) : (s.withGobIn x).bar4 = s.bar4 := rfl
@[simp] theorem State.withGobIn_hbmHeld (s : State) (x : Bytes) : (s.withGobIn x).hbmHeld = s.hbmHeld := rfl
@[simp] theorem State.withGobIn_eth (s : State) (x : Bytes) : (s.withGobIn x).eth = s.eth := rfl
@[simp] theorem State.withGobIn_mcLog (s : State) (x : Bytes) : (s.withGobIn x).mcLog = s.mcLog := rfl
@[simp] theorem State.withGobIn_evtSent (s : State) (x : Bytes) : (s.withGobIn x).evtSent = s.evtSent := rfl
@[simp] theorem State.withGobIn_cstore (s : State) (x : Bytes) : (s.withGobIn x).cstore = s.cstore := rfl
@[simp] theorem State.withGobIn_ldr (s : State) (x : Bytes) : (s.withGobIn x).ldr = s.ldr := rfl
@[simp] theorem State.withGobIn_nand (s : State) (x : Bytes) : (s.withGobIn x).nand = s.nand := rfl
@[simp] theorem State.withGobIn_sto (s : State) (x : Bytes) : (s.withGobIn x).sto = s.sto := rfl
@[simp] theorem State.withGobIn_flt (s : State) (x : Bytes) : (s.withGobIn x).flt = s.flt := rfl
@[simp] theorem State.withGobIn_pwr (s : State) (x : Bytes) : (s.withGobIn x).pwr = s.pwr := rfl
@[simp] theorem State.withGobIn_lehr (s : State) (x : Bytes) : (s.withGobIn x).lehr = s.lehr := rfl
@[simp] theorem State.withGobIn_start (s : State) (x : Bytes) : (s.withGobIn x).start = s.start := rfl
@[simp] theorem State.withGobIn_bst (s : State) (x : Bytes) : (s.withGobIn x).bst = s.bst := rfl
@[simp] theorem State.withGobIn_otp (s : State) (x : Bytes) : (s.withGobIn x).otp = s.otp := rfl
@[simp] theorem State.withGobIn_lcs (s : State) (x : Bytes) : (s.withGobIn x).lcs = s.lcs := rfl
@[simp] theorem State.withGobIn_jtag (s : State) (x : Bytes) : (s.withGobIn x).jtag = s.jtag := rfl
@[simp] theorem State.withGobIn_dbgReads (s : State) (x : Bytes) : (s.withGobIn x).dbgReads = s.dbgReads := rfl
@[simp] theorem State.withGobIn_spineOn (s : State) (x : Bytes) : (s.withGobIn x).spineOn = s.spineOn := rfl
@[simp] theorem State.withGobIn_free (s : State) (x : Bytes) : (s.withGobIn x).free = s.free := rfl
@[simp] theorem State.withGobIn_out (s : State) (x : Bytes) : (s.withGobIn x).out = s.out := rfl
@[simp] theorem State.withGobOut_pending (s : State) (x : Bytes) : (s.withGobOut x).pending = s.pending := rfl
@[simp] theorem State.withGobOut_regs (s : State) (x : Bytes) : (s.withGobOut x).regs = s.regs := rfl
@[simp] theorem State.withGobOut_latch (s : State) (x : Bytes) : (s.withGobOut x).latch = s.latch := rfl
@[simp] theorem State.withGobOut_shadow (s : State) (x : Bytes) : (s.withGobOut x).shadow = s.shadow := rfl
@[simp] theorem State.withGobOut_steps (s : State) (x : Bytes) : (s.withGobOut x).steps = s.steps := rfl
@[simp] theorem State.withGobOut_routes (s : State) (x : Bytes) : (s.withGobOut x).routes = s.routes := rfl
@[simp] theorem State.withGobOut_dm (s : State) (x : Bytes) : (s.withGobOut x).dm = s.dm := rfl
@[simp] theorem State.withGobOut_dmBad (s : State) (x : Bytes) : (s.withGobOut x).dmBad = s.dmBad := rfl
@[simp] theorem State.withGobOut_results (s : State) (x : Bytes) : (s.withGobOut x).results = s.results := rfl
@[simp] theorem State.withGobOut_stamps (s : State) (x : Bytes) : (s.withGobOut x).stamps = s.stamps := rfl
@[simp] theorem State.withGobOut_gobIn (s : State) (x : Bytes) : (s.withGobOut x).gobIn = s.gobIn := rfl
@[simp] theorem State.withGobOut_gobOut (s : State) (x : Bytes) : (s.withGobOut x).gobOut = x := rfl
@[simp] theorem State.withGobOut_reqArea (s : State) (x : Bytes) : (s.withGobOut x).reqArea = s.reqArea := rfl
@[simp] theorem State.withGobOut_retBuf (s : State) (x : Bytes) : (s.withGobOut x).retBuf = s.retBuf := rfl
@[simp] theorem State.withGobOut_farIn (s : State) (x : Bytes) : (s.withGobOut x).farIn = s.farIn := rfl
@[simp] theorem State.withGobOut_tiles (s : State) (x : Bytes) : (s.withGobOut x).tiles = s.tiles := rfl
@[simp] theorem State.withGobOut_gafs (s : State) (x : Bytes) : (s.withGobOut x).gafs = s.gafs := rfl
@[simp] theorem State.withGobOut_ports (s : State) (x : Bytes) : (s.withGobOut x).ports = s.ports := rfl
@[simp] theorem State.withGobOut_hbm (s : State) (x : Bytes) : (s.withGobOut x).hbm = s.hbm := rfl
@[simp] theorem State.withGobOut_hbmBad (s : State) (x : Bytes) : (s.withGobOut x).hbmBad = s.hbmBad := rfl
@[simp] theorem State.withGobOut_hbmSoft (s : State) (x : Bytes) : (s.withGobOut x).hbmSoft = s.hbmSoft := rfl
@[simp] theorem State.withGobOut_tb (s : State) (x : Bytes) : (s.withGobOut x).tb = s.tb := rfl
@[simp] theorem State.withGobOut_irc (s : State) (x : Bytes) : (s.withGobOut x).irc = s.irc := rfl
@[simp] theorem State.withGobOut_pbs (s : State) (x : Bytes) : (s.withGobOut x).pbs = s.pbs := rfl
@[simp] theorem State.withGobOut_mrv (s : State) (x : Bytes) : (s.withGobOut x).mrv = s.mrv := rfl
@[simp] theorem State.withGobOut_rings (s : State) (x : Bytes) : (s.withGobOut x).rings = s.rings := rfl
@[simp] theorem State.withGobOut_strobes (s : State) (x : Bytes) : (s.withGobOut x).strobes = s.strobes := rfl
@[simp] theorem State.withGobOut_discardEv (s : State) (x : Bytes) : (s.withGobOut x).discardEv = s.discardEv := rfl
@[simp] theorem State.withGobOut_slots (s : State) (x : Bytes) : (s.withGobOut x).slots = s.slots := rfl
@[simp] theorem State.withGobOut_noc (s : State) (x : Bytes) : (s.withGobOut x).noc = s.noc := rfl
@[simp] theorem State.withGobOut_dma (s : State) (x : Bytes) : (s.withGobOut x).dma = s.dma := rfl
@[simp] theorem State.withGobOut_fab (s : State) (x : Bytes) : (s.withGobOut x).fab = s.fab := rfl
@[simp] theorem State.withGobOut_mbx (s : State) (x : Bytes) : (s.withGobOut x).mbx = s.mbx := rfl
@[simp] theorem State.withGobOut_pcie (s : State) (x : Bytes) : (s.withGobOut x).pcie = s.pcie := rfl
@[simp] theorem State.withGobOut_bar4 (s : State) (x : Bytes) : (s.withGobOut x).bar4 = s.bar4 := rfl
@[simp] theorem State.withGobOut_hbmHeld (s : State) (x : Bytes) : (s.withGobOut x).hbmHeld = s.hbmHeld := rfl
@[simp] theorem State.withGobOut_eth (s : State) (x : Bytes) : (s.withGobOut x).eth = s.eth := rfl
@[simp] theorem State.withGobOut_mcLog (s : State) (x : Bytes) : (s.withGobOut x).mcLog = s.mcLog := rfl
@[simp] theorem State.withGobOut_evtSent (s : State) (x : Bytes) : (s.withGobOut x).evtSent = s.evtSent := rfl
@[simp] theorem State.withGobOut_cstore (s : State) (x : Bytes) : (s.withGobOut x).cstore = s.cstore := rfl
@[simp] theorem State.withGobOut_ldr (s : State) (x : Bytes) : (s.withGobOut x).ldr = s.ldr := rfl
@[simp] theorem State.withGobOut_nand (s : State) (x : Bytes) : (s.withGobOut x).nand = s.nand := rfl
@[simp] theorem State.withGobOut_sto (s : State) (x : Bytes) : (s.withGobOut x).sto = s.sto := rfl
@[simp] theorem State.withGobOut_flt (s : State) (x : Bytes) : (s.withGobOut x).flt = s.flt := rfl
@[simp] theorem State.withGobOut_pwr (s : State) (x : Bytes) : (s.withGobOut x).pwr = s.pwr := rfl
@[simp] theorem State.withGobOut_lehr (s : State) (x : Bytes) : (s.withGobOut x).lehr = s.lehr := rfl
@[simp] theorem State.withGobOut_start (s : State) (x : Bytes) : (s.withGobOut x).start = s.start := rfl
@[simp] theorem State.withGobOut_bst (s : State) (x : Bytes) : (s.withGobOut x).bst = s.bst := rfl
@[simp] theorem State.withGobOut_otp (s : State) (x : Bytes) : (s.withGobOut x).otp = s.otp := rfl
@[simp] theorem State.withGobOut_lcs (s : State) (x : Bytes) : (s.withGobOut x).lcs = s.lcs := rfl
@[simp] theorem State.withGobOut_jtag (s : State) (x : Bytes) : (s.withGobOut x).jtag = s.jtag := rfl
@[simp] theorem State.withGobOut_dbgReads (s : State) (x : Bytes) : (s.withGobOut x).dbgReads = s.dbgReads := rfl
@[simp] theorem State.withGobOut_spineOn (s : State) (x : Bytes) : (s.withGobOut x).spineOn = s.spineOn := rfl
@[simp] theorem State.withGobOut_free (s : State) (x : Bytes) : (s.withGobOut x).free = s.free := rfl
@[simp] theorem State.withGobOut_out (s : State) (x : Bytes) : (s.withGobOut x).out = s.out := rfl
@[simp] theorem State.withReqArea_pending (s : State) (x : Bytes) : (s.withReqArea x).pending = s.pending := rfl
@[simp] theorem State.withReqArea_regs (s : State) (x : Bytes) : (s.withReqArea x).regs = s.regs := rfl
@[simp] theorem State.withReqArea_latch (s : State) (x : Bytes) : (s.withReqArea x).latch = s.latch := rfl
@[simp] theorem State.withReqArea_shadow (s : State) (x : Bytes) : (s.withReqArea x).shadow = s.shadow := rfl
@[simp] theorem State.withReqArea_steps (s : State) (x : Bytes) : (s.withReqArea x).steps = s.steps := rfl
@[simp] theorem State.withReqArea_routes (s : State) (x : Bytes) : (s.withReqArea x).routes = s.routes := rfl
@[simp] theorem State.withReqArea_dm (s : State) (x : Bytes) : (s.withReqArea x).dm = s.dm := rfl
@[simp] theorem State.withReqArea_dmBad (s : State) (x : Bytes) : (s.withReqArea x).dmBad = s.dmBad := rfl
@[simp] theorem State.withReqArea_results (s : State) (x : Bytes) : (s.withReqArea x).results = s.results := rfl
@[simp] theorem State.withReqArea_stamps (s : State) (x : Bytes) : (s.withReqArea x).stamps = s.stamps := rfl
@[simp] theorem State.withReqArea_gobIn (s : State) (x : Bytes) : (s.withReqArea x).gobIn = s.gobIn := rfl
@[simp] theorem State.withReqArea_gobOut (s : State) (x : Bytes) : (s.withReqArea x).gobOut = s.gobOut := rfl
@[simp] theorem State.withReqArea_reqArea (s : State) (x : Bytes) : (s.withReqArea x).reqArea = x := rfl
@[simp] theorem State.withReqArea_retBuf (s : State) (x : Bytes) : (s.withReqArea x).retBuf = s.retBuf := rfl
@[simp] theorem State.withReqArea_farIn (s : State) (x : Bytes) : (s.withReqArea x).farIn = s.farIn := rfl
@[simp] theorem State.withReqArea_tiles (s : State) (x : Bytes) : (s.withReqArea x).tiles = s.tiles := rfl
@[simp] theorem State.withReqArea_gafs (s : State) (x : Bytes) : (s.withReqArea x).gafs = s.gafs := rfl
@[simp] theorem State.withReqArea_ports (s : State) (x : Bytes) : (s.withReqArea x).ports = s.ports := rfl
@[simp] theorem State.withReqArea_hbm (s : State) (x : Bytes) : (s.withReqArea x).hbm = s.hbm := rfl
@[simp] theorem State.withReqArea_hbmBad (s : State) (x : Bytes) : (s.withReqArea x).hbmBad = s.hbmBad := rfl
@[simp] theorem State.withReqArea_hbmSoft (s : State) (x : Bytes) : (s.withReqArea x).hbmSoft = s.hbmSoft := rfl
@[simp] theorem State.withReqArea_tb (s : State) (x : Bytes) : (s.withReqArea x).tb = s.tb := rfl
@[simp] theorem State.withReqArea_irc (s : State) (x : Bytes) : (s.withReqArea x).irc = s.irc := rfl
@[simp] theorem State.withReqArea_pbs (s : State) (x : Bytes) : (s.withReqArea x).pbs = s.pbs := rfl
@[simp] theorem State.withReqArea_mrv (s : State) (x : Bytes) : (s.withReqArea x).mrv = s.mrv := rfl
@[simp] theorem State.withReqArea_rings (s : State) (x : Bytes) : (s.withReqArea x).rings = s.rings := rfl
@[simp] theorem State.withReqArea_strobes (s : State) (x : Bytes) : (s.withReqArea x).strobes = s.strobes := rfl
@[simp] theorem State.withReqArea_discardEv (s : State) (x : Bytes) : (s.withReqArea x).discardEv = s.discardEv := rfl
@[simp] theorem State.withReqArea_slots (s : State) (x : Bytes) : (s.withReqArea x).slots = s.slots := rfl
@[simp] theorem State.withReqArea_noc (s : State) (x : Bytes) : (s.withReqArea x).noc = s.noc := rfl
@[simp] theorem State.withReqArea_dma (s : State) (x : Bytes) : (s.withReqArea x).dma = s.dma := rfl
@[simp] theorem State.withReqArea_fab (s : State) (x : Bytes) : (s.withReqArea x).fab = s.fab := rfl
@[simp] theorem State.withReqArea_mbx (s : State) (x : Bytes) : (s.withReqArea x).mbx = s.mbx := rfl
@[simp] theorem State.withReqArea_pcie (s : State) (x : Bytes) : (s.withReqArea x).pcie = s.pcie := rfl
@[simp] theorem State.withReqArea_bar4 (s : State) (x : Bytes) : (s.withReqArea x).bar4 = s.bar4 := rfl
@[simp] theorem State.withReqArea_hbmHeld (s : State) (x : Bytes) : (s.withReqArea x).hbmHeld = s.hbmHeld := rfl
@[simp] theorem State.withReqArea_eth (s : State) (x : Bytes) : (s.withReqArea x).eth = s.eth := rfl
@[simp] theorem State.withReqArea_mcLog (s : State) (x : Bytes) : (s.withReqArea x).mcLog = s.mcLog := rfl
@[simp] theorem State.withReqArea_evtSent (s : State) (x : Bytes) : (s.withReqArea x).evtSent = s.evtSent := rfl
@[simp] theorem State.withReqArea_cstore (s : State) (x : Bytes) : (s.withReqArea x).cstore = s.cstore := rfl
@[simp] theorem State.withReqArea_ldr (s : State) (x : Bytes) : (s.withReqArea x).ldr = s.ldr := rfl
@[simp] theorem State.withReqArea_nand (s : State) (x : Bytes) : (s.withReqArea x).nand = s.nand := rfl
@[simp] theorem State.withReqArea_sto (s : State) (x : Bytes) : (s.withReqArea x).sto = s.sto := rfl
@[simp] theorem State.withReqArea_flt (s : State) (x : Bytes) : (s.withReqArea x).flt = s.flt := rfl
@[simp] theorem State.withReqArea_pwr (s : State) (x : Bytes) : (s.withReqArea x).pwr = s.pwr := rfl
@[simp] theorem State.withReqArea_lehr (s : State) (x : Bytes) : (s.withReqArea x).lehr = s.lehr := rfl
@[simp] theorem State.withReqArea_start (s : State) (x : Bytes) : (s.withReqArea x).start = s.start := rfl
@[simp] theorem State.withReqArea_bst (s : State) (x : Bytes) : (s.withReqArea x).bst = s.bst := rfl
@[simp] theorem State.withReqArea_otp (s : State) (x : Bytes) : (s.withReqArea x).otp = s.otp := rfl
@[simp] theorem State.withReqArea_lcs (s : State) (x : Bytes) : (s.withReqArea x).lcs = s.lcs := rfl
@[simp] theorem State.withReqArea_jtag (s : State) (x : Bytes) : (s.withReqArea x).jtag = s.jtag := rfl
@[simp] theorem State.withReqArea_dbgReads (s : State) (x : Bytes) : (s.withReqArea x).dbgReads = s.dbgReads := rfl
@[simp] theorem State.withReqArea_spineOn (s : State) (x : Bytes) : (s.withReqArea x).spineOn = s.spineOn := rfl
@[simp] theorem State.withReqArea_free (s : State) (x : Bytes) : (s.withReqArea x).free = s.free := rfl
@[simp] theorem State.withReqArea_out (s : State) (x : Bytes) : (s.withReqArea x).out = s.out := rfl
@[simp] theorem State.withRetBuf_pending (s : State) (x : Bytes) : (s.withRetBuf x).pending = s.pending := rfl
@[simp] theorem State.withRetBuf_regs (s : State) (x : Bytes) : (s.withRetBuf x).regs = s.regs := rfl
@[simp] theorem State.withRetBuf_latch (s : State) (x : Bytes) : (s.withRetBuf x).latch = s.latch := rfl
@[simp] theorem State.withRetBuf_shadow (s : State) (x : Bytes) : (s.withRetBuf x).shadow = s.shadow := rfl
@[simp] theorem State.withRetBuf_steps (s : State) (x : Bytes) : (s.withRetBuf x).steps = s.steps := rfl
@[simp] theorem State.withRetBuf_routes (s : State) (x : Bytes) : (s.withRetBuf x).routes = s.routes := rfl
@[simp] theorem State.withRetBuf_dm (s : State) (x : Bytes) : (s.withRetBuf x).dm = s.dm := rfl
@[simp] theorem State.withRetBuf_dmBad (s : State) (x : Bytes) : (s.withRetBuf x).dmBad = s.dmBad := rfl
@[simp] theorem State.withRetBuf_results (s : State) (x : Bytes) : (s.withRetBuf x).results = s.results := rfl
@[simp] theorem State.withRetBuf_stamps (s : State) (x : Bytes) : (s.withRetBuf x).stamps = s.stamps := rfl
@[simp] theorem State.withRetBuf_gobIn (s : State) (x : Bytes) : (s.withRetBuf x).gobIn = s.gobIn := rfl
@[simp] theorem State.withRetBuf_gobOut (s : State) (x : Bytes) : (s.withRetBuf x).gobOut = s.gobOut := rfl
@[simp] theorem State.withRetBuf_reqArea (s : State) (x : Bytes) : (s.withRetBuf x).reqArea = s.reqArea := rfl
@[simp] theorem State.withRetBuf_retBuf (s : State) (x : Bytes) : (s.withRetBuf x).retBuf = x := rfl
@[simp] theorem State.withRetBuf_farIn (s : State) (x : Bytes) : (s.withRetBuf x).farIn = s.farIn := rfl
@[simp] theorem State.withRetBuf_tiles (s : State) (x : Bytes) : (s.withRetBuf x).tiles = s.tiles := rfl
@[simp] theorem State.withRetBuf_gafs (s : State) (x : Bytes) : (s.withRetBuf x).gafs = s.gafs := rfl
@[simp] theorem State.withRetBuf_ports (s : State) (x : Bytes) : (s.withRetBuf x).ports = s.ports := rfl
@[simp] theorem State.withRetBuf_hbm (s : State) (x : Bytes) : (s.withRetBuf x).hbm = s.hbm := rfl
@[simp] theorem State.withRetBuf_hbmBad (s : State) (x : Bytes) : (s.withRetBuf x).hbmBad = s.hbmBad := rfl
@[simp] theorem State.withRetBuf_hbmSoft (s : State) (x : Bytes) : (s.withRetBuf x).hbmSoft = s.hbmSoft := rfl
@[simp] theorem State.withRetBuf_tb (s : State) (x : Bytes) : (s.withRetBuf x).tb = s.tb := rfl
@[simp] theorem State.withRetBuf_irc (s : State) (x : Bytes) : (s.withRetBuf x).irc = s.irc := rfl
@[simp] theorem State.withRetBuf_pbs (s : State) (x : Bytes) : (s.withRetBuf x).pbs = s.pbs := rfl
@[simp] theorem State.withRetBuf_mrv (s : State) (x : Bytes) : (s.withRetBuf x).mrv = s.mrv := rfl
@[simp] theorem State.withRetBuf_rings (s : State) (x : Bytes) : (s.withRetBuf x).rings = s.rings := rfl
@[simp] theorem State.withRetBuf_strobes (s : State) (x : Bytes) : (s.withRetBuf x).strobes = s.strobes := rfl
@[simp] theorem State.withRetBuf_discardEv (s : State) (x : Bytes) : (s.withRetBuf x).discardEv = s.discardEv := rfl
@[simp] theorem State.withRetBuf_slots (s : State) (x : Bytes) : (s.withRetBuf x).slots = s.slots := rfl
@[simp] theorem State.withRetBuf_noc (s : State) (x : Bytes) : (s.withRetBuf x).noc = s.noc := rfl
@[simp] theorem State.withRetBuf_dma (s : State) (x : Bytes) : (s.withRetBuf x).dma = s.dma := rfl
@[simp] theorem State.withRetBuf_fab (s : State) (x : Bytes) : (s.withRetBuf x).fab = s.fab := rfl
@[simp] theorem State.withRetBuf_mbx (s : State) (x : Bytes) : (s.withRetBuf x).mbx = s.mbx := rfl
@[simp] theorem State.withRetBuf_pcie (s : State) (x : Bytes) : (s.withRetBuf x).pcie = s.pcie := rfl
@[simp] theorem State.withRetBuf_bar4 (s : State) (x : Bytes) : (s.withRetBuf x).bar4 = s.bar4 := rfl
@[simp] theorem State.withRetBuf_hbmHeld (s : State) (x : Bytes) : (s.withRetBuf x).hbmHeld = s.hbmHeld := rfl
@[simp] theorem State.withRetBuf_eth (s : State) (x : Bytes) : (s.withRetBuf x).eth = s.eth := rfl
@[simp] theorem State.withRetBuf_mcLog (s : State) (x : Bytes) : (s.withRetBuf x).mcLog = s.mcLog := rfl
@[simp] theorem State.withRetBuf_evtSent (s : State) (x : Bytes) : (s.withRetBuf x).evtSent = s.evtSent := rfl
@[simp] theorem State.withRetBuf_cstore (s : State) (x : Bytes) : (s.withRetBuf x).cstore = s.cstore := rfl
@[simp] theorem State.withRetBuf_ldr (s : State) (x : Bytes) : (s.withRetBuf x).ldr = s.ldr := rfl
@[simp] theorem State.withRetBuf_nand (s : State) (x : Bytes) : (s.withRetBuf x).nand = s.nand := rfl
@[simp] theorem State.withRetBuf_sto (s : State) (x : Bytes) : (s.withRetBuf x).sto = s.sto := rfl
@[simp] theorem State.withRetBuf_flt (s : State) (x : Bytes) : (s.withRetBuf x).flt = s.flt := rfl
@[simp] theorem State.withRetBuf_pwr (s : State) (x : Bytes) : (s.withRetBuf x).pwr = s.pwr := rfl
@[simp] theorem State.withRetBuf_lehr (s : State) (x : Bytes) : (s.withRetBuf x).lehr = s.lehr := rfl
@[simp] theorem State.withRetBuf_start (s : State) (x : Bytes) : (s.withRetBuf x).start = s.start := rfl
@[simp] theorem State.withRetBuf_bst (s : State) (x : Bytes) : (s.withRetBuf x).bst = s.bst := rfl
@[simp] theorem State.withRetBuf_otp (s : State) (x : Bytes) : (s.withRetBuf x).otp = s.otp := rfl
@[simp] theorem State.withRetBuf_lcs (s : State) (x : Bytes) : (s.withRetBuf x).lcs = s.lcs := rfl
@[simp] theorem State.withRetBuf_jtag (s : State) (x : Bytes) : (s.withRetBuf x).jtag = s.jtag := rfl
@[simp] theorem State.withRetBuf_dbgReads (s : State) (x : Bytes) : (s.withRetBuf x).dbgReads = s.dbgReads := rfl
@[simp] theorem State.withRetBuf_spineOn (s : State) (x : Bytes) : (s.withRetBuf x).spineOn = s.spineOn := rfl
@[simp] theorem State.withRetBuf_free (s : State) (x : Bytes) : (s.withRetBuf x).free = s.free := rfl
@[simp] theorem State.withRetBuf_out (s : State) (x : Bytes) : (s.withRetBuf x).out = s.out := rfl
@[simp] theorem State.withFarIn_pending (s : State) (x : Tab Nat) : (s.withFarIn x).pending = s.pending := rfl
@[simp] theorem State.withFarIn_regs (s : State) (x : Tab Nat) : (s.withFarIn x).regs = s.regs := rfl
@[simp] theorem State.withFarIn_latch (s : State) (x : Tab Nat) : (s.withFarIn x).latch = s.latch := rfl
@[simp] theorem State.withFarIn_shadow (s : State) (x : Tab Nat) : (s.withFarIn x).shadow = s.shadow := rfl
@[simp] theorem State.withFarIn_steps (s : State) (x : Tab Nat) : (s.withFarIn x).steps = s.steps := rfl
@[simp] theorem State.withFarIn_routes (s : State) (x : Tab Nat) : (s.withFarIn x).routes = s.routes := rfl
@[simp] theorem State.withFarIn_dm (s : State) (x : Tab Nat) : (s.withFarIn x).dm = s.dm := rfl
@[simp] theorem State.withFarIn_dmBad (s : State) (x : Tab Nat) : (s.withFarIn x).dmBad = s.dmBad := rfl
@[simp] theorem State.withFarIn_results (s : State) (x : Tab Nat) : (s.withFarIn x).results = s.results := rfl
@[simp] theorem State.withFarIn_stamps (s : State) (x : Tab Nat) : (s.withFarIn x).stamps = s.stamps := rfl
@[simp] theorem State.withFarIn_gobIn (s : State) (x : Tab Nat) : (s.withFarIn x).gobIn = s.gobIn := rfl
@[simp] theorem State.withFarIn_gobOut (s : State) (x : Tab Nat) : (s.withFarIn x).gobOut = s.gobOut := rfl
@[simp] theorem State.withFarIn_reqArea (s : State) (x : Tab Nat) : (s.withFarIn x).reqArea = s.reqArea := rfl
@[simp] theorem State.withFarIn_retBuf (s : State) (x : Tab Nat) : (s.withFarIn x).retBuf = s.retBuf := rfl
@[simp] theorem State.withFarIn_farIn (s : State) (x : Tab Nat) : (s.withFarIn x).farIn = x := rfl
@[simp] theorem State.withFarIn_tiles (s : State) (x : Tab Nat) : (s.withFarIn x).tiles = s.tiles := rfl
@[simp] theorem State.withFarIn_gafs (s : State) (x : Tab Nat) : (s.withFarIn x).gafs = s.gafs := rfl
@[simp] theorem State.withFarIn_ports (s : State) (x : Tab Nat) : (s.withFarIn x).ports = s.ports := rfl
@[simp] theorem State.withFarIn_hbm (s : State) (x : Tab Nat) : (s.withFarIn x).hbm = s.hbm := rfl
@[simp] theorem State.withFarIn_hbmBad (s : State) (x : Tab Nat) : (s.withFarIn x).hbmBad = s.hbmBad := rfl
@[simp] theorem State.withFarIn_hbmSoft (s : State) (x : Tab Nat) : (s.withFarIn x).hbmSoft = s.hbmSoft := rfl
@[simp] theorem State.withFarIn_tb (s : State) (x : Tab Nat) : (s.withFarIn x).tb = s.tb := rfl
@[simp] theorem State.withFarIn_irc (s : State) (x : Tab Nat) : (s.withFarIn x).irc = s.irc := rfl
@[simp] theorem State.withFarIn_pbs (s : State) (x : Tab Nat) : (s.withFarIn x).pbs = s.pbs := rfl
@[simp] theorem State.withFarIn_mrv (s : State) (x : Tab Nat) : (s.withFarIn x).mrv = s.mrv := rfl
@[simp] theorem State.withFarIn_rings (s : State) (x : Tab Nat) : (s.withFarIn x).rings = s.rings := rfl
@[simp] theorem State.withFarIn_strobes (s : State) (x : Tab Nat) : (s.withFarIn x).strobes = s.strobes := rfl
@[simp] theorem State.withFarIn_discardEv (s : State) (x : Tab Nat) : (s.withFarIn x).discardEv = s.discardEv := rfl
@[simp] theorem State.withFarIn_slots (s : State) (x : Tab Nat) : (s.withFarIn x).slots = s.slots := rfl
@[simp] theorem State.withFarIn_noc (s : State) (x : Tab Nat) : (s.withFarIn x).noc = s.noc := rfl
@[simp] theorem State.withFarIn_dma (s : State) (x : Tab Nat) : (s.withFarIn x).dma = s.dma := rfl
@[simp] theorem State.withFarIn_fab (s : State) (x : Tab Nat) : (s.withFarIn x).fab = s.fab := rfl
@[simp] theorem State.withFarIn_mbx (s : State) (x : Tab Nat) : (s.withFarIn x).mbx = s.mbx := rfl
@[simp] theorem State.withFarIn_pcie (s : State) (x : Tab Nat) : (s.withFarIn x).pcie = s.pcie := rfl
@[simp] theorem State.withFarIn_bar4 (s : State) (x : Tab Nat) : (s.withFarIn x).bar4 = s.bar4 := rfl
@[simp] theorem State.withFarIn_hbmHeld (s : State) (x : Tab Nat) : (s.withFarIn x).hbmHeld = s.hbmHeld := rfl
@[simp] theorem State.withFarIn_eth (s : State) (x : Tab Nat) : (s.withFarIn x).eth = s.eth := rfl
@[simp] theorem State.withFarIn_mcLog (s : State) (x : Tab Nat) : (s.withFarIn x).mcLog = s.mcLog := rfl
@[simp] theorem State.withFarIn_evtSent (s : State) (x : Tab Nat) : (s.withFarIn x).evtSent = s.evtSent := rfl
@[simp] theorem State.withFarIn_cstore (s : State) (x : Tab Nat) : (s.withFarIn x).cstore = s.cstore := rfl
@[simp] theorem State.withFarIn_ldr (s : State) (x : Tab Nat) : (s.withFarIn x).ldr = s.ldr := rfl
@[simp] theorem State.withFarIn_nand (s : State) (x : Tab Nat) : (s.withFarIn x).nand = s.nand := rfl
@[simp] theorem State.withFarIn_sto (s : State) (x : Tab Nat) : (s.withFarIn x).sto = s.sto := rfl
@[simp] theorem State.withFarIn_flt (s : State) (x : Tab Nat) : (s.withFarIn x).flt = s.flt := rfl
@[simp] theorem State.withFarIn_pwr (s : State) (x : Tab Nat) : (s.withFarIn x).pwr = s.pwr := rfl
@[simp] theorem State.withFarIn_lehr (s : State) (x : Tab Nat) : (s.withFarIn x).lehr = s.lehr := rfl
@[simp] theorem State.withFarIn_start (s : State) (x : Tab Nat) : (s.withFarIn x).start = s.start := rfl
@[simp] theorem State.withFarIn_bst (s : State) (x : Tab Nat) : (s.withFarIn x).bst = s.bst := rfl
@[simp] theorem State.withFarIn_otp (s : State) (x : Tab Nat) : (s.withFarIn x).otp = s.otp := rfl
@[simp] theorem State.withFarIn_lcs (s : State) (x : Tab Nat) : (s.withFarIn x).lcs = s.lcs := rfl
@[simp] theorem State.withFarIn_jtag (s : State) (x : Tab Nat) : (s.withFarIn x).jtag = s.jtag := rfl
@[simp] theorem State.withFarIn_dbgReads (s : State) (x : Tab Nat) : (s.withFarIn x).dbgReads = s.dbgReads := rfl
@[simp] theorem State.withFarIn_spineOn (s : State) (x : Tab Nat) : (s.withFarIn x).spineOn = s.spineOn := rfl
@[simp] theorem State.withFarIn_free (s : State) (x : Tab Nat) : (s.withFarIn x).free = s.free := rfl
@[simp] theorem State.withFarIn_out (s : State) (x : Tab Nat) : (s.withFarIn x).out = s.out := rfl
@[simp] theorem State.withTiles_pending (s : State) (x : Tab Tile) : (s.withTiles x).pending = s.pending := rfl
@[simp] theorem State.withTiles_regs (s : State) (x : Tab Tile) : (s.withTiles x).regs = s.regs := rfl
@[simp] theorem State.withTiles_latch (s : State) (x : Tab Tile) : (s.withTiles x).latch = s.latch := rfl
@[simp] theorem State.withTiles_shadow (s : State) (x : Tab Tile) : (s.withTiles x).shadow = s.shadow := rfl
@[simp] theorem State.withTiles_steps (s : State) (x : Tab Tile) : (s.withTiles x).steps = s.steps := rfl
@[simp] theorem State.withTiles_routes (s : State) (x : Tab Tile) : (s.withTiles x).routes = s.routes := rfl
@[simp] theorem State.withTiles_dm (s : State) (x : Tab Tile) : (s.withTiles x).dm = s.dm := rfl
@[simp] theorem State.withTiles_dmBad (s : State) (x : Tab Tile) : (s.withTiles x).dmBad = s.dmBad := rfl
@[simp] theorem State.withTiles_results (s : State) (x : Tab Tile) : (s.withTiles x).results = s.results := rfl
@[simp] theorem State.withTiles_stamps (s : State) (x : Tab Tile) : (s.withTiles x).stamps = s.stamps := rfl
@[simp] theorem State.withTiles_gobIn (s : State) (x : Tab Tile) : (s.withTiles x).gobIn = s.gobIn := rfl
@[simp] theorem State.withTiles_gobOut (s : State) (x : Tab Tile) : (s.withTiles x).gobOut = s.gobOut := rfl
@[simp] theorem State.withTiles_reqArea (s : State) (x : Tab Tile) : (s.withTiles x).reqArea = s.reqArea := rfl
@[simp] theorem State.withTiles_retBuf (s : State) (x : Tab Tile) : (s.withTiles x).retBuf = s.retBuf := rfl
@[simp] theorem State.withTiles_farIn (s : State) (x : Tab Tile) : (s.withTiles x).farIn = s.farIn := rfl
@[simp] theorem State.withTiles_tiles (s : State) (x : Tab Tile) : (s.withTiles x).tiles = x := rfl
@[simp] theorem State.withTiles_gafs (s : State) (x : Tab Tile) : (s.withTiles x).gafs = s.gafs := rfl
@[simp] theorem State.withTiles_ports (s : State) (x : Tab Tile) : (s.withTiles x).ports = s.ports := rfl
@[simp] theorem State.withTiles_hbm (s : State) (x : Tab Tile) : (s.withTiles x).hbm = s.hbm := rfl
@[simp] theorem State.withTiles_hbmBad (s : State) (x : Tab Tile) : (s.withTiles x).hbmBad = s.hbmBad := rfl
@[simp] theorem State.withTiles_hbmSoft (s : State) (x : Tab Tile) : (s.withTiles x).hbmSoft = s.hbmSoft := rfl
@[simp] theorem State.withTiles_tb (s : State) (x : Tab Tile) : (s.withTiles x).tb = s.tb := rfl
@[simp] theorem State.withTiles_irc (s : State) (x : Tab Tile) : (s.withTiles x).irc = s.irc := rfl
@[simp] theorem State.withTiles_pbs (s : State) (x : Tab Tile) : (s.withTiles x).pbs = s.pbs := rfl
@[simp] theorem State.withTiles_mrv (s : State) (x : Tab Tile) : (s.withTiles x).mrv = s.mrv := rfl
@[simp] theorem State.withTiles_rings (s : State) (x : Tab Tile) : (s.withTiles x).rings = s.rings := rfl
@[simp] theorem State.withTiles_strobes (s : State) (x : Tab Tile) : (s.withTiles x).strobes = s.strobes := rfl
@[simp] theorem State.withTiles_discardEv (s : State) (x : Tab Tile) : (s.withTiles x).discardEv = s.discardEv := rfl
@[simp] theorem State.withTiles_slots (s : State) (x : Tab Tile) : (s.withTiles x).slots = s.slots := rfl
@[simp] theorem State.withTiles_noc (s : State) (x : Tab Tile) : (s.withTiles x).noc = s.noc := rfl
@[simp] theorem State.withTiles_dma (s : State) (x : Tab Tile) : (s.withTiles x).dma = s.dma := rfl
@[simp] theorem State.withTiles_fab (s : State) (x : Tab Tile) : (s.withTiles x).fab = s.fab := rfl
@[simp] theorem State.withTiles_mbx (s : State) (x : Tab Tile) : (s.withTiles x).mbx = s.mbx := rfl
@[simp] theorem State.withTiles_pcie (s : State) (x : Tab Tile) : (s.withTiles x).pcie = s.pcie := rfl
@[simp] theorem State.withTiles_bar4 (s : State) (x : Tab Tile) : (s.withTiles x).bar4 = s.bar4 := rfl
@[simp] theorem State.withTiles_hbmHeld (s : State) (x : Tab Tile) : (s.withTiles x).hbmHeld = s.hbmHeld := rfl
@[simp] theorem State.withTiles_eth (s : State) (x : Tab Tile) : (s.withTiles x).eth = s.eth := rfl
@[simp] theorem State.withTiles_mcLog (s : State) (x : Tab Tile) : (s.withTiles x).mcLog = s.mcLog := rfl
@[simp] theorem State.withTiles_evtSent (s : State) (x : Tab Tile) : (s.withTiles x).evtSent = s.evtSent := rfl
@[simp] theorem State.withTiles_cstore (s : State) (x : Tab Tile) : (s.withTiles x).cstore = s.cstore := rfl
@[simp] theorem State.withTiles_ldr (s : State) (x : Tab Tile) : (s.withTiles x).ldr = s.ldr := rfl
@[simp] theorem State.withTiles_nand (s : State) (x : Tab Tile) : (s.withTiles x).nand = s.nand := rfl
@[simp] theorem State.withTiles_sto (s : State) (x : Tab Tile) : (s.withTiles x).sto = s.sto := rfl
@[simp] theorem State.withTiles_flt (s : State) (x : Tab Tile) : (s.withTiles x).flt = s.flt := rfl
@[simp] theorem State.withTiles_pwr (s : State) (x : Tab Tile) : (s.withTiles x).pwr = s.pwr := rfl
@[simp] theorem State.withTiles_lehr (s : State) (x : Tab Tile) : (s.withTiles x).lehr = s.lehr := rfl
@[simp] theorem State.withTiles_start (s : State) (x : Tab Tile) : (s.withTiles x).start = s.start := rfl
@[simp] theorem State.withTiles_bst (s : State) (x : Tab Tile) : (s.withTiles x).bst = s.bst := rfl
@[simp] theorem State.withTiles_otp (s : State) (x : Tab Tile) : (s.withTiles x).otp = s.otp := rfl
@[simp] theorem State.withTiles_lcs (s : State) (x : Tab Tile) : (s.withTiles x).lcs = s.lcs := rfl
@[simp] theorem State.withTiles_jtag (s : State) (x : Tab Tile) : (s.withTiles x).jtag = s.jtag := rfl
@[simp] theorem State.withTiles_dbgReads (s : State) (x : Tab Tile) : (s.withTiles x).dbgReads = s.dbgReads := rfl
@[simp] theorem State.withTiles_spineOn (s : State) (x : Tab Tile) : (s.withTiles x).spineOn = s.spineOn := rfl
@[simp] theorem State.withTiles_free (s : State) (x : Tab Tile) : (s.withTiles x).free = s.free := rfl
@[simp] theorem State.withTiles_out (s : State) (x : Tab Tile) : (s.withTiles x).out = s.out := rfl
@[simp] theorem State.withGafs_pending (s : State) (x : Tab Gaffer) : (s.withGafs x).pending = s.pending := rfl
@[simp] theorem State.withGafs_regs (s : State) (x : Tab Gaffer) : (s.withGafs x).regs = s.regs := rfl
@[simp] theorem State.withGafs_latch (s : State) (x : Tab Gaffer) : (s.withGafs x).latch = s.latch := rfl
@[simp] theorem State.withGafs_shadow (s : State) (x : Tab Gaffer) : (s.withGafs x).shadow = s.shadow := rfl
@[simp] theorem State.withGafs_steps (s : State) (x : Tab Gaffer) : (s.withGafs x).steps = s.steps := rfl
@[simp] theorem State.withGafs_routes (s : State) (x : Tab Gaffer) : (s.withGafs x).routes = s.routes := rfl
@[simp] theorem State.withGafs_dm (s : State) (x : Tab Gaffer) : (s.withGafs x).dm = s.dm := rfl
@[simp] theorem State.withGafs_dmBad (s : State) (x : Tab Gaffer) : (s.withGafs x).dmBad = s.dmBad := rfl
@[simp] theorem State.withGafs_results (s : State) (x : Tab Gaffer) : (s.withGafs x).results = s.results := rfl
@[simp] theorem State.withGafs_stamps (s : State) (x : Tab Gaffer) : (s.withGafs x).stamps = s.stamps := rfl
@[simp] theorem State.withGafs_gobIn (s : State) (x : Tab Gaffer) : (s.withGafs x).gobIn = s.gobIn := rfl
@[simp] theorem State.withGafs_gobOut (s : State) (x : Tab Gaffer) : (s.withGafs x).gobOut = s.gobOut := rfl
@[simp] theorem State.withGafs_reqArea (s : State) (x : Tab Gaffer) : (s.withGafs x).reqArea = s.reqArea := rfl
@[simp] theorem State.withGafs_retBuf (s : State) (x : Tab Gaffer) : (s.withGafs x).retBuf = s.retBuf := rfl
@[simp] theorem State.withGafs_farIn (s : State) (x : Tab Gaffer) : (s.withGafs x).farIn = s.farIn := rfl
@[simp] theorem State.withGafs_tiles (s : State) (x : Tab Gaffer) : (s.withGafs x).tiles = s.tiles := rfl
@[simp] theorem State.withGafs_gafs (s : State) (x : Tab Gaffer) : (s.withGafs x).gafs = x := rfl
@[simp] theorem State.withGafs_ports (s : State) (x : Tab Gaffer) : (s.withGafs x).ports = s.ports := rfl
@[simp] theorem State.withGafs_hbm (s : State) (x : Tab Gaffer) : (s.withGafs x).hbm = s.hbm := rfl
@[simp] theorem State.withGafs_hbmBad (s : State) (x : Tab Gaffer) : (s.withGafs x).hbmBad = s.hbmBad := rfl
@[simp] theorem State.withGafs_hbmSoft (s : State) (x : Tab Gaffer) : (s.withGafs x).hbmSoft = s.hbmSoft := rfl
@[simp] theorem State.withGafs_tb (s : State) (x : Tab Gaffer) : (s.withGafs x).tb = s.tb := rfl
@[simp] theorem State.withGafs_irc (s : State) (x : Tab Gaffer) : (s.withGafs x).irc = s.irc := rfl
@[simp] theorem State.withGafs_pbs (s : State) (x : Tab Gaffer) : (s.withGafs x).pbs = s.pbs := rfl
@[simp] theorem State.withGafs_mrv (s : State) (x : Tab Gaffer) : (s.withGafs x).mrv = s.mrv := rfl
@[simp] theorem State.withGafs_rings (s : State) (x : Tab Gaffer) : (s.withGafs x).rings = s.rings := rfl
@[simp] theorem State.withGafs_strobes (s : State) (x : Tab Gaffer) : (s.withGafs x).strobes = s.strobes := rfl
@[simp] theorem State.withGafs_discardEv (s : State) (x : Tab Gaffer) : (s.withGafs x).discardEv = s.discardEv := rfl
@[simp] theorem State.withGafs_slots (s : State) (x : Tab Gaffer) : (s.withGafs x).slots = s.slots := rfl
@[simp] theorem State.withGafs_noc (s : State) (x : Tab Gaffer) : (s.withGafs x).noc = s.noc := rfl
@[simp] theorem State.withGafs_dma (s : State) (x : Tab Gaffer) : (s.withGafs x).dma = s.dma := rfl
@[simp] theorem State.withGafs_fab (s : State) (x : Tab Gaffer) : (s.withGafs x).fab = s.fab := rfl
@[simp] theorem State.withGafs_mbx (s : State) (x : Tab Gaffer) : (s.withGafs x).mbx = s.mbx := rfl
@[simp] theorem State.withGafs_pcie (s : State) (x : Tab Gaffer) : (s.withGafs x).pcie = s.pcie := rfl
@[simp] theorem State.withGafs_bar4 (s : State) (x : Tab Gaffer) : (s.withGafs x).bar4 = s.bar4 := rfl
@[simp] theorem State.withGafs_hbmHeld (s : State) (x : Tab Gaffer) : (s.withGafs x).hbmHeld = s.hbmHeld := rfl
@[simp] theorem State.withGafs_eth (s : State) (x : Tab Gaffer) : (s.withGafs x).eth = s.eth := rfl
@[simp] theorem State.withGafs_mcLog (s : State) (x : Tab Gaffer) : (s.withGafs x).mcLog = s.mcLog := rfl
@[simp] theorem State.withGafs_evtSent (s : State) (x : Tab Gaffer) : (s.withGafs x).evtSent = s.evtSent := rfl
@[simp] theorem State.withGafs_cstore (s : State) (x : Tab Gaffer) : (s.withGafs x).cstore = s.cstore := rfl
@[simp] theorem State.withGafs_ldr (s : State) (x : Tab Gaffer) : (s.withGafs x).ldr = s.ldr := rfl
@[simp] theorem State.withGafs_nand (s : State) (x : Tab Gaffer) : (s.withGafs x).nand = s.nand := rfl
@[simp] theorem State.withGafs_sto (s : State) (x : Tab Gaffer) : (s.withGafs x).sto = s.sto := rfl
@[simp] theorem State.withGafs_flt (s : State) (x : Tab Gaffer) : (s.withGafs x).flt = s.flt := rfl
@[simp] theorem State.withGafs_pwr (s : State) (x : Tab Gaffer) : (s.withGafs x).pwr = s.pwr := rfl
@[simp] theorem State.withGafs_lehr (s : State) (x : Tab Gaffer) : (s.withGafs x).lehr = s.lehr := rfl
@[simp] theorem State.withGafs_start (s : State) (x : Tab Gaffer) : (s.withGafs x).start = s.start := rfl
@[simp] theorem State.withGafs_bst (s : State) (x : Tab Gaffer) : (s.withGafs x).bst = s.bst := rfl
@[simp] theorem State.withGafs_otp (s : State) (x : Tab Gaffer) : (s.withGafs x).otp = s.otp := rfl
@[simp] theorem State.withGafs_lcs (s : State) (x : Tab Gaffer) : (s.withGafs x).lcs = s.lcs := rfl
@[simp] theorem State.withGafs_jtag (s : State) (x : Tab Gaffer) : (s.withGafs x).jtag = s.jtag := rfl
@[simp] theorem State.withGafs_dbgReads (s : State) (x : Tab Gaffer) : (s.withGafs x).dbgReads = s.dbgReads := rfl
@[simp] theorem State.withGafs_spineOn (s : State) (x : Tab Gaffer) : (s.withGafs x).spineOn = s.spineOn := rfl
@[simp] theorem State.withGafs_free (s : State) (x : Tab Gaffer) : (s.withGafs x).free = s.free := rfl
@[simp] theorem State.withGafs_out (s : State) (x : Tab Gaffer) : (s.withGafs x).out = s.out := rfl
@[simp] theorem State.withPorts_pending (s : State) (x : Tab Port) : (s.withPorts x).pending = s.pending := rfl
@[simp] theorem State.withPorts_regs (s : State) (x : Tab Port) : (s.withPorts x).regs = s.regs := rfl
@[simp] theorem State.withPorts_latch (s : State) (x : Tab Port) : (s.withPorts x).latch = s.latch := rfl
@[simp] theorem State.withPorts_shadow (s : State) (x : Tab Port) : (s.withPorts x).shadow = s.shadow := rfl
@[simp] theorem State.withPorts_steps (s : State) (x : Tab Port) : (s.withPorts x).steps = s.steps := rfl
@[simp] theorem State.withPorts_routes (s : State) (x : Tab Port) : (s.withPorts x).routes = s.routes := rfl
@[simp] theorem State.withPorts_dm (s : State) (x : Tab Port) : (s.withPorts x).dm = s.dm := rfl
@[simp] theorem State.withPorts_dmBad (s : State) (x : Tab Port) : (s.withPorts x).dmBad = s.dmBad := rfl
@[simp] theorem State.withPorts_results (s : State) (x : Tab Port) : (s.withPorts x).results = s.results := rfl
@[simp] theorem State.withPorts_stamps (s : State) (x : Tab Port) : (s.withPorts x).stamps = s.stamps := rfl
@[simp] theorem State.withPorts_gobIn (s : State) (x : Tab Port) : (s.withPorts x).gobIn = s.gobIn := rfl
@[simp] theorem State.withPorts_gobOut (s : State) (x : Tab Port) : (s.withPorts x).gobOut = s.gobOut := rfl
@[simp] theorem State.withPorts_reqArea (s : State) (x : Tab Port) : (s.withPorts x).reqArea = s.reqArea := rfl
@[simp] theorem State.withPorts_retBuf (s : State) (x : Tab Port) : (s.withPorts x).retBuf = s.retBuf := rfl
@[simp] theorem State.withPorts_farIn (s : State) (x : Tab Port) : (s.withPorts x).farIn = s.farIn := rfl
@[simp] theorem State.withPorts_tiles (s : State) (x : Tab Port) : (s.withPorts x).tiles = s.tiles := rfl
@[simp] theorem State.withPorts_gafs (s : State) (x : Tab Port) : (s.withPorts x).gafs = s.gafs := rfl
@[simp] theorem State.withPorts_ports (s : State) (x : Tab Port) : (s.withPorts x).ports = x := rfl
@[simp] theorem State.withPorts_hbm (s : State) (x : Tab Port) : (s.withPorts x).hbm = s.hbm := rfl
@[simp] theorem State.withPorts_hbmBad (s : State) (x : Tab Port) : (s.withPorts x).hbmBad = s.hbmBad := rfl
@[simp] theorem State.withPorts_hbmSoft (s : State) (x : Tab Port) : (s.withPorts x).hbmSoft = s.hbmSoft := rfl
@[simp] theorem State.withPorts_tb (s : State) (x : Tab Port) : (s.withPorts x).tb = s.tb := rfl
@[simp] theorem State.withPorts_irc (s : State) (x : Tab Port) : (s.withPorts x).irc = s.irc := rfl
@[simp] theorem State.withPorts_pbs (s : State) (x : Tab Port) : (s.withPorts x).pbs = s.pbs := rfl
@[simp] theorem State.withPorts_mrv (s : State) (x : Tab Port) : (s.withPorts x).mrv = s.mrv := rfl
@[simp] theorem State.withPorts_rings (s : State) (x : Tab Port) : (s.withPorts x).rings = s.rings := rfl
@[simp] theorem State.withPorts_strobes (s : State) (x : Tab Port) : (s.withPorts x).strobes = s.strobes := rfl
@[simp] theorem State.withPorts_discardEv (s : State) (x : Tab Port) : (s.withPorts x).discardEv = s.discardEv := rfl
@[simp] theorem State.withPorts_slots (s : State) (x : Tab Port) : (s.withPorts x).slots = s.slots := rfl
@[simp] theorem State.withPorts_noc (s : State) (x : Tab Port) : (s.withPorts x).noc = s.noc := rfl
@[simp] theorem State.withPorts_dma (s : State) (x : Tab Port) : (s.withPorts x).dma = s.dma := rfl
@[simp] theorem State.withPorts_fab (s : State) (x : Tab Port) : (s.withPorts x).fab = s.fab := rfl
@[simp] theorem State.withPorts_mbx (s : State) (x : Tab Port) : (s.withPorts x).mbx = s.mbx := rfl
@[simp] theorem State.withPorts_pcie (s : State) (x : Tab Port) : (s.withPorts x).pcie = s.pcie := rfl
@[simp] theorem State.withPorts_bar4 (s : State) (x : Tab Port) : (s.withPorts x).bar4 = s.bar4 := rfl
@[simp] theorem State.withPorts_hbmHeld (s : State) (x : Tab Port) : (s.withPorts x).hbmHeld = s.hbmHeld := rfl
@[simp] theorem State.withPorts_eth (s : State) (x : Tab Port) : (s.withPorts x).eth = s.eth := rfl
@[simp] theorem State.withPorts_mcLog (s : State) (x : Tab Port) : (s.withPorts x).mcLog = s.mcLog := rfl
@[simp] theorem State.withPorts_evtSent (s : State) (x : Tab Port) : (s.withPorts x).evtSent = s.evtSent := rfl
@[simp] theorem State.withPorts_cstore (s : State) (x : Tab Port) : (s.withPorts x).cstore = s.cstore := rfl
@[simp] theorem State.withPorts_ldr (s : State) (x : Tab Port) : (s.withPorts x).ldr = s.ldr := rfl
@[simp] theorem State.withPorts_nand (s : State) (x : Tab Port) : (s.withPorts x).nand = s.nand := rfl
@[simp] theorem State.withPorts_sto (s : State) (x : Tab Port) : (s.withPorts x).sto = s.sto := rfl
@[simp] theorem State.withPorts_flt (s : State) (x : Tab Port) : (s.withPorts x).flt = s.flt := rfl
@[simp] theorem State.withPorts_pwr (s : State) (x : Tab Port) : (s.withPorts x).pwr = s.pwr := rfl
@[simp] theorem State.withPorts_lehr (s : State) (x : Tab Port) : (s.withPorts x).lehr = s.lehr := rfl
@[simp] theorem State.withPorts_start (s : State) (x : Tab Port) : (s.withPorts x).start = s.start := rfl
@[simp] theorem State.withPorts_bst (s : State) (x : Tab Port) : (s.withPorts x).bst = s.bst := rfl
@[simp] theorem State.withPorts_otp (s : State) (x : Tab Port) : (s.withPorts x).otp = s.otp := rfl
@[simp] theorem State.withPorts_lcs (s : State) (x : Tab Port) : (s.withPorts x).lcs = s.lcs := rfl
@[simp] theorem State.withPorts_jtag (s : State) (x : Tab Port) : (s.withPorts x).jtag = s.jtag := rfl
@[simp] theorem State.withPorts_dbgReads (s : State) (x : Tab Port) : (s.withPorts x).dbgReads = s.dbgReads := rfl
@[simp] theorem State.withPorts_spineOn (s : State) (x : Tab Port) : (s.withPorts x).spineOn = s.spineOn := rfl
@[simp] theorem State.withPorts_free (s : State) (x : Tab Port) : (s.withPorts x).free = s.free := rfl
@[simp] theorem State.withPorts_out (s : State) (x : Tab Port) : (s.withPorts x).out = s.out := rfl
@[simp] theorem State.withHbm_pending (s : State) (x : Bytes) : (s.withHbm x).pending = s.pending := rfl
@[simp] theorem State.withHbm_regs (s : State) (x : Bytes) : (s.withHbm x).regs = s.regs := rfl
@[simp] theorem State.withHbm_latch (s : State) (x : Bytes) : (s.withHbm x).latch = s.latch := rfl
@[simp] theorem State.withHbm_shadow (s : State) (x : Bytes) : (s.withHbm x).shadow = s.shadow := rfl
@[simp] theorem State.withHbm_steps (s : State) (x : Bytes) : (s.withHbm x).steps = s.steps := rfl
@[simp] theorem State.withHbm_routes (s : State) (x : Bytes) : (s.withHbm x).routes = s.routes := rfl
@[simp] theorem State.withHbm_dm (s : State) (x : Bytes) : (s.withHbm x).dm = s.dm := rfl
@[simp] theorem State.withHbm_dmBad (s : State) (x : Bytes) : (s.withHbm x).dmBad = s.dmBad := rfl
@[simp] theorem State.withHbm_results (s : State) (x : Bytes) : (s.withHbm x).results = s.results := rfl
@[simp] theorem State.withHbm_stamps (s : State) (x : Bytes) : (s.withHbm x).stamps = s.stamps := rfl
@[simp] theorem State.withHbm_gobIn (s : State) (x : Bytes) : (s.withHbm x).gobIn = s.gobIn := rfl
@[simp] theorem State.withHbm_gobOut (s : State) (x : Bytes) : (s.withHbm x).gobOut = s.gobOut := rfl
@[simp] theorem State.withHbm_reqArea (s : State) (x : Bytes) : (s.withHbm x).reqArea = s.reqArea := rfl
@[simp] theorem State.withHbm_retBuf (s : State) (x : Bytes) : (s.withHbm x).retBuf = s.retBuf := rfl
@[simp] theorem State.withHbm_farIn (s : State) (x : Bytes) : (s.withHbm x).farIn = s.farIn := rfl
@[simp] theorem State.withHbm_tiles (s : State) (x : Bytes) : (s.withHbm x).tiles = s.tiles := rfl
@[simp] theorem State.withHbm_gafs (s : State) (x : Bytes) : (s.withHbm x).gafs = s.gafs := rfl
@[simp] theorem State.withHbm_ports (s : State) (x : Bytes) : (s.withHbm x).ports = s.ports := rfl
@[simp] theorem State.withHbm_hbm (s : State) (x : Bytes) : (s.withHbm x).hbm = x := rfl
@[simp] theorem State.withHbm_hbmBad (s : State) (x : Bytes) : (s.withHbm x).hbmBad = s.hbmBad := rfl
@[simp] theorem State.withHbm_hbmSoft (s : State) (x : Bytes) : (s.withHbm x).hbmSoft = s.hbmSoft := rfl
@[simp] theorem State.withHbm_tb (s : State) (x : Bytes) : (s.withHbm x).tb = s.tb := rfl
@[simp] theorem State.withHbm_irc (s : State) (x : Bytes) : (s.withHbm x).irc = s.irc := rfl
@[simp] theorem State.withHbm_pbs (s : State) (x : Bytes) : (s.withHbm x).pbs = s.pbs := rfl
@[simp] theorem State.withHbm_mrv (s : State) (x : Bytes) : (s.withHbm x).mrv = s.mrv := rfl
@[simp] theorem State.withHbm_rings (s : State) (x : Bytes) : (s.withHbm x).rings = s.rings := rfl
@[simp] theorem State.withHbm_strobes (s : State) (x : Bytes) : (s.withHbm x).strobes = s.strobes := rfl
@[simp] theorem State.withHbm_discardEv (s : State) (x : Bytes) : (s.withHbm x).discardEv = s.discardEv := rfl
@[simp] theorem State.withHbm_slots (s : State) (x : Bytes) : (s.withHbm x).slots = s.slots := rfl
@[simp] theorem State.withHbm_noc (s : State) (x : Bytes) : (s.withHbm x).noc = s.noc := rfl
@[simp] theorem State.withHbm_dma (s : State) (x : Bytes) : (s.withHbm x).dma = s.dma := rfl
@[simp] theorem State.withHbm_fab (s : State) (x : Bytes) : (s.withHbm x).fab = s.fab := rfl
@[simp] theorem State.withHbm_mbx (s : State) (x : Bytes) : (s.withHbm x).mbx = s.mbx := rfl
@[simp] theorem State.withHbm_pcie (s : State) (x : Bytes) : (s.withHbm x).pcie = s.pcie := rfl
@[simp] theorem State.withHbm_bar4 (s : State) (x : Bytes) : (s.withHbm x).bar4 = s.bar4 := rfl
@[simp] theorem State.withHbm_hbmHeld (s : State) (x : Bytes) : (s.withHbm x).hbmHeld = s.hbmHeld := rfl
@[simp] theorem State.withHbm_eth (s : State) (x : Bytes) : (s.withHbm x).eth = s.eth := rfl
@[simp] theorem State.withHbm_mcLog (s : State) (x : Bytes) : (s.withHbm x).mcLog = s.mcLog := rfl
@[simp] theorem State.withHbm_evtSent (s : State) (x : Bytes) : (s.withHbm x).evtSent = s.evtSent := rfl
@[simp] theorem State.withHbm_cstore (s : State) (x : Bytes) : (s.withHbm x).cstore = s.cstore := rfl
@[simp] theorem State.withHbm_ldr (s : State) (x : Bytes) : (s.withHbm x).ldr = s.ldr := rfl
@[simp] theorem State.withHbm_nand (s : State) (x : Bytes) : (s.withHbm x).nand = s.nand := rfl
@[simp] theorem State.withHbm_sto (s : State) (x : Bytes) : (s.withHbm x).sto = s.sto := rfl
@[simp] theorem State.withHbm_flt (s : State) (x : Bytes) : (s.withHbm x).flt = s.flt := rfl
@[simp] theorem State.withHbm_pwr (s : State) (x : Bytes) : (s.withHbm x).pwr = s.pwr := rfl
@[simp] theorem State.withHbm_lehr (s : State) (x : Bytes) : (s.withHbm x).lehr = s.lehr := rfl
@[simp] theorem State.withHbm_start (s : State) (x : Bytes) : (s.withHbm x).start = s.start := rfl
@[simp] theorem State.withHbm_bst (s : State) (x : Bytes) : (s.withHbm x).bst = s.bst := rfl
@[simp] theorem State.withHbm_otp (s : State) (x : Bytes) : (s.withHbm x).otp = s.otp := rfl
@[simp] theorem State.withHbm_lcs (s : State) (x : Bytes) : (s.withHbm x).lcs = s.lcs := rfl
@[simp] theorem State.withHbm_jtag (s : State) (x : Bytes) : (s.withHbm x).jtag = s.jtag := rfl
@[simp] theorem State.withHbm_dbgReads (s : State) (x : Bytes) : (s.withHbm x).dbgReads = s.dbgReads := rfl
@[simp] theorem State.withHbm_spineOn (s : State) (x : Bytes) : (s.withHbm x).spineOn = s.spineOn := rfl
@[simp] theorem State.withHbm_free (s : State) (x : Bytes) : (s.withHbm x).free = s.free := rfl
@[simp] theorem State.withHbm_out (s : State) (x : Bytes) : (s.withHbm x).out = s.out := rfl
@[simp] theorem State.withHbmBad_pending (s : State) (x : Tab Bool) : (s.withHbmBad x).pending = s.pending := rfl
@[simp] theorem State.withHbmBad_regs (s : State) (x : Tab Bool) : (s.withHbmBad x).regs = s.regs := rfl
@[simp] theorem State.withHbmBad_latch (s : State) (x : Tab Bool) : (s.withHbmBad x).latch = s.latch := rfl
@[simp] theorem State.withHbmBad_shadow (s : State) (x : Tab Bool) : (s.withHbmBad x).shadow = s.shadow := rfl
@[simp] theorem State.withHbmBad_steps (s : State) (x : Tab Bool) : (s.withHbmBad x).steps = s.steps := rfl
@[simp] theorem State.withHbmBad_routes (s : State) (x : Tab Bool) : (s.withHbmBad x).routes = s.routes := rfl
@[simp] theorem State.withHbmBad_dm (s : State) (x : Tab Bool) : (s.withHbmBad x).dm = s.dm := rfl
@[simp] theorem State.withHbmBad_dmBad (s : State) (x : Tab Bool) : (s.withHbmBad x).dmBad = s.dmBad := rfl
@[simp] theorem State.withHbmBad_results (s : State) (x : Tab Bool) : (s.withHbmBad x).results = s.results := rfl
@[simp] theorem State.withHbmBad_stamps (s : State) (x : Tab Bool) : (s.withHbmBad x).stamps = s.stamps := rfl
@[simp] theorem State.withHbmBad_gobIn (s : State) (x : Tab Bool) : (s.withHbmBad x).gobIn = s.gobIn := rfl
@[simp] theorem State.withHbmBad_gobOut (s : State) (x : Tab Bool) : (s.withHbmBad x).gobOut = s.gobOut := rfl
@[simp] theorem State.withHbmBad_reqArea (s : State) (x : Tab Bool) : (s.withHbmBad x).reqArea = s.reqArea := rfl
@[simp] theorem State.withHbmBad_retBuf (s : State) (x : Tab Bool) : (s.withHbmBad x).retBuf = s.retBuf := rfl
@[simp] theorem State.withHbmBad_farIn (s : State) (x : Tab Bool) : (s.withHbmBad x).farIn = s.farIn := rfl
@[simp] theorem State.withHbmBad_tiles (s : State) (x : Tab Bool) : (s.withHbmBad x).tiles = s.tiles := rfl
@[simp] theorem State.withHbmBad_gafs (s : State) (x : Tab Bool) : (s.withHbmBad x).gafs = s.gafs := rfl
@[simp] theorem State.withHbmBad_ports (s : State) (x : Tab Bool) : (s.withHbmBad x).ports = s.ports := rfl
@[simp] theorem State.withHbmBad_hbm (s : State) (x : Tab Bool) : (s.withHbmBad x).hbm = s.hbm := rfl
@[simp] theorem State.withHbmBad_hbmBad (s : State) (x : Tab Bool) : (s.withHbmBad x).hbmBad = x := rfl
@[simp] theorem State.withHbmBad_hbmSoft (s : State) (x : Tab Bool) : (s.withHbmBad x).hbmSoft = s.hbmSoft := rfl
@[simp] theorem State.withHbmBad_tb (s : State) (x : Tab Bool) : (s.withHbmBad x).tb = s.tb := rfl
@[simp] theorem State.withHbmBad_irc (s : State) (x : Tab Bool) : (s.withHbmBad x).irc = s.irc := rfl
@[simp] theorem State.withHbmBad_pbs (s : State) (x : Tab Bool) : (s.withHbmBad x).pbs = s.pbs := rfl
@[simp] theorem State.withHbmBad_mrv (s : State) (x : Tab Bool) : (s.withHbmBad x).mrv = s.mrv := rfl
@[simp] theorem State.withHbmBad_rings (s : State) (x : Tab Bool) : (s.withHbmBad x).rings = s.rings := rfl
@[simp] theorem State.withHbmBad_strobes (s : State) (x : Tab Bool) : (s.withHbmBad x).strobes = s.strobes := rfl
@[simp] theorem State.withHbmBad_discardEv (s : State) (x : Tab Bool) : (s.withHbmBad x).discardEv = s.discardEv := rfl
@[simp] theorem State.withHbmBad_slots (s : State) (x : Tab Bool) : (s.withHbmBad x).slots = s.slots := rfl
@[simp] theorem State.withHbmBad_noc (s : State) (x : Tab Bool) : (s.withHbmBad x).noc = s.noc := rfl
@[simp] theorem State.withHbmBad_dma (s : State) (x : Tab Bool) : (s.withHbmBad x).dma = s.dma := rfl
@[simp] theorem State.withHbmBad_fab (s : State) (x : Tab Bool) : (s.withHbmBad x).fab = s.fab := rfl
@[simp] theorem State.withHbmBad_mbx (s : State) (x : Tab Bool) : (s.withHbmBad x).mbx = s.mbx := rfl
@[simp] theorem State.withHbmBad_pcie (s : State) (x : Tab Bool) : (s.withHbmBad x).pcie = s.pcie := rfl
@[simp] theorem State.withHbmBad_bar4 (s : State) (x : Tab Bool) : (s.withHbmBad x).bar4 = s.bar4 := rfl
@[simp] theorem State.withHbmBad_hbmHeld (s : State) (x : Tab Bool) : (s.withHbmBad x).hbmHeld = s.hbmHeld := rfl
@[simp] theorem State.withHbmBad_eth (s : State) (x : Tab Bool) : (s.withHbmBad x).eth = s.eth := rfl
@[simp] theorem State.withHbmBad_mcLog (s : State) (x : Tab Bool) : (s.withHbmBad x).mcLog = s.mcLog := rfl
@[simp] theorem State.withHbmBad_evtSent (s : State) (x : Tab Bool) : (s.withHbmBad x).evtSent = s.evtSent := rfl
@[simp] theorem State.withHbmBad_cstore (s : State) (x : Tab Bool) : (s.withHbmBad x).cstore = s.cstore := rfl
@[simp] theorem State.withHbmBad_ldr (s : State) (x : Tab Bool) : (s.withHbmBad x).ldr = s.ldr := rfl
@[simp] theorem State.withHbmBad_nand (s : State) (x : Tab Bool) : (s.withHbmBad x).nand = s.nand := rfl
@[simp] theorem State.withHbmBad_sto (s : State) (x : Tab Bool) : (s.withHbmBad x).sto = s.sto := rfl
@[simp] theorem State.withHbmBad_flt (s : State) (x : Tab Bool) : (s.withHbmBad x).flt = s.flt := rfl
@[simp] theorem State.withHbmBad_pwr (s : State) (x : Tab Bool) : (s.withHbmBad x).pwr = s.pwr := rfl
@[simp] theorem State.withHbmBad_lehr (s : State) (x : Tab Bool) : (s.withHbmBad x).lehr = s.lehr := rfl
@[simp] theorem State.withHbmBad_start (s : State) (x : Tab Bool) : (s.withHbmBad x).start = s.start := rfl
@[simp] theorem State.withHbmBad_bst (s : State) (x : Tab Bool) : (s.withHbmBad x).bst = s.bst := rfl
@[simp] theorem State.withHbmBad_otp (s : State) (x : Tab Bool) : (s.withHbmBad x).otp = s.otp := rfl
@[simp] theorem State.withHbmBad_lcs (s : State) (x : Tab Bool) : (s.withHbmBad x).lcs = s.lcs := rfl
@[simp] theorem State.withHbmBad_jtag (s : State) (x : Tab Bool) : (s.withHbmBad x).jtag = s.jtag := rfl
@[simp] theorem State.withHbmBad_dbgReads (s : State) (x : Tab Bool) : (s.withHbmBad x).dbgReads = s.dbgReads := rfl
@[simp] theorem State.withHbmBad_spineOn (s : State) (x : Tab Bool) : (s.withHbmBad x).spineOn = s.spineOn := rfl
@[simp] theorem State.withHbmBad_free (s : State) (x : Tab Bool) : (s.withHbmBad x).free = s.free := rfl
@[simp] theorem State.withHbmBad_out (s : State) (x : Tab Bool) : (s.withHbmBad x).out = s.out := rfl
@[simp] theorem State.withHbmSoft_pending (s : State) (x : Tab Bool) : (s.withHbmSoft x).pending = s.pending := rfl
@[simp] theorem State.withHbmSoft_regs (s : State) (x : Tab Bool) : (s.withHbmSoft x).regs = s.regs := rfl
@[simp] theorem State.withHbmSoft_latch (s : State) (x : Tab Bool) : (s.withHbmSoft x).latch = s.latch := rfl
@[simp] theorem State.withHbmSoft_shadow (s : State) (x : Tab Bool) : (s.withHbmSoft x).shadow = s.shadow := rfl
@[simp] theorem State.withHbmSoft_steps (s : State) (x : Tab Bool) : (s.withHbmSoft x).steps = s.steps := rfl
@[simp] theorem State.withHbmSoft_routes (s : State) (x : Tab Bool) : (s.withHbmSoft x).routes = s.routes := rfl
@[simp] theorem State.withHbmSoft_dm (s : State) (x : Tab Bool) : (s.withHbmSoft x).dm = s.dm := rfl
@[simp] theorem State.withHbmSoft_dmBad (s : State) (x : Tab Bool) : (s.withHbmSoft x).dmBad = s.dmBad := rfl
@[simp] theorem State.withHbmSoft_results (s : State) (x : Tab Bool) : (s.withHbmSoft x).results = s.results := rfl
@[simp] theorem State.withHbmSoft_stamps (s : State) (x : Tab Bool) : (s.withHbmSoft x).stamps = s.stamps := rfl
@[simp] theorem State.withHbmSoft_gobIn (s : State) (x : Tab Bool) : (s.withHbmSoft x).gobIn = s.gobIn := rfl
@[simp] theorem State.withHbmSoft_gobOut (s : State) (x : Tab Bool) : (s.withHbmSoft x).gobOut = s.gobOut := rfl
@[simp] theorem State.withHbmSoft_reqArea (s : State) (x : Tab Bool) : (s.withHbmSoft x).reqArea = s.reqArea := rfl
@[simp] theorem State.withHbmSoft_retBuf (s : State) (x : Tab Bool) : (s.withHbmSoft x).retBuf = s.retBuf := rfl
@[simp] theorem State.withHbmSoft_farIn (s : State) (x : Tab Bool) : (s.withHbmSoft x).farIn = s.farIn := rfl
@[simp] theorem State.withHbmSoft_tiles (s : State) (x : Tab Bool) : (s.withHbmSoft x).tiles = s.tiles := rfl
@[simp] theorem State.withHbmSoft_gafs (s : State) (x : Tab Bool) : (s.withHbmSoft x).gafs = s.gafs := rfl
@[simp] theorem State.withHbmSoft_ports (s : State) (x : Tab Bool) : (s.withHbmSoft x).ports = s.ports := rfl
@[simp] theorem State.withHbmSoft_hbm (s : State) (x : Tab Bool) : (s.withHbmSoft x).hbm = s.hbm := rfl
@[simp] theorem State.withHbmSoft_hbmBad (s : State) (x : Tab Bool) : (s.withHbmSoft x).hbmBad = s.hbmBad := rfl
@[simp] theorem State.withHbmSoft_hbmSoft (s : State) (x : Tab Bool) : (s.withHbmSoft x).hbmSoft = x := rfl
@[simp] theorem State.withHbmSoft_tb (s : State) (x : Tab Bool) : (s.withHbmSoft x).tb = s.tb := rfl
@[simp] theorem State.withHbmSoft_irc (s : State) (x : Tab Bool) : (s.withHbmSoft x).irc = s.irc := rfl
@[simp] theorem State.withHbmSoft_pbs (s : State) (x : Tab Bool) : (s.withHbmSoft x).pbs = s.pbs := rfl
@[simp] theorem State.withHbmSoft_mrv (s : State) (x : Tab Bool) : (s.withHbmSoft x).mrv = s.mrv := rfl
@[simp] theorem State.withHbmSoft_rings (s : State) (x : Tab Bool) : (s.withHbmSoft x).rings = s.rings := rfl
@[simp] theorem State.withHbmSoft_strobes (s : State) (x : Tab Bool) : (s.withHbmSoft x).strobes = s.strobes := rfl
@[simp] theorem State.withHbmSoft_discardEv (s : State) (x : Tab Bool) : (s.withHbmSoft x).discardEv = s.discardEv := rfl
@[simp] theorem State.withHbmSoft_slots (s : State) (x : Tab Bool) : (s.withHbmSoft x).slots = s.slots := rfl
@[simp] theorem State.withHbmSoft_noc (s : State) (x : Tab Bool) : (s.withHbmSoft x).noc = s.noc := rfl
@[simp] theorem State.withHbmSoft_dma (s : State) (x : Tab Bool) : (s.withHbmSoft x).dma = s.dma := rfl
@[simp] theorem State.withHbmSoft_fab (s : State) (x : Tab Bool) : (s.withHbmSoft x).fab = s.fab := rfl
@[simp] theorem State.withHbmSoft_mbx (s : State) (x : Tab Bool) : (s.withHbmSoft x).mbx = s.mbx := rfl
@[simp] theorem State.withHbmSoft_pcie (s : State) (x : Tab Bool) : (s.withHbmSoft x).pcie = s.pcie := rfl
@[simp] theorem State.withHbmSoft_bar4 (s : State) (x : Tab Bool) : (s.withHbmSoft x).bar4 = s.bar4 := rfl
@[simp] theorem State.withHbmSoft_hbmHeld (s : State) (x : Tab Bool) : (s.withHbmSoft x).hbmHeld = s.hbmHeld := rfl
@[simp] theorem State.withHbmSoft_eth (s : State) (x : Tab Bool) : (s.withHbmSoft x).eth = s.eth := rfl
@[simp] theorem State.withHbmSoft_mcLog (s : State) (x : Tab Bool) : (s.withHbmSoft x).mcLog = s.mcLog := rfl
@[simp] theorem State.withHbmSoft_evtSent (s : State) (x : Tab Bool) : (s.withHbmSoft x).evtSent = s.evtSent := rfl
@[simp] theorem State.withHbmSoft_cstore (s : State) (x : Tab Bool) : (s.withHbmSoft x).cstore = s.cstore := rfl
@[simp] theorem State.withHbmSoft_ldr (s : State) (x : Tab Bool) : (s.withHbmSoft x).ldr = s.ldr := rfl
@[simp] theorem State.withHbmSoft_nand (s : State) (x : Tab Bool) : (s.withHbmSoft x).nand = s.nand := rfl
@[simp] theorem State.withHbmSoft_sto (s : State) (x : Tab Bool) : (s.withHbmSoft x).sto = s.sto := rfl
@[simp] theorem State.withHbmSoft_flt (s : State) (x : Tab Bool) : (s.withHbmSoft x).flt = s.flt := rfl
@[simp] theorem State.withHbmSoft_pwr (s : State) (x : Tab Bool) : (s.withHbmSoft x).pwr = s.pwr := rfl
@[simp] theorem State.withHbmSoft_lehr (s : State) (x : Tab Bool) : (s.withHbmSoft x).lehr = s.lehr := rfl
@[simp] theorem State.withHbmSoft_start (s : State) (x : Tab Bool) : (s.withHbmSoft x).start = s.start := rfl
@[simp] theorem State.withHbmSoft_bst (s : State) (x : Tab Bool) : (s.withHbmSoft x).bst = s.bst := rfl
@[simp] theorem State.withHbmSoft_otp (s : State) (x : Tab Bool) : (s.withHbmSoft x).otp = s.otp := rfl
@[simp] theorem State.withHbmSoft_lcs (s : State) (x : Tab Bool) : (s.withHbmSoft x).lcs = s.lcs := rfl
@[simp] theorem State.withHbmSoft_jtag (s : State) (x : Tab Bool) : (s.withHbmSoft x).jtag = s.jtag := rfl
@[simp] theorem State.withHbmSoft_dbgReads (s : State) (x : Tab Bool) : (s.withHbmSoft x).dbgReads = s.dbgReads := rfl
@[simp] theorem State.withHbmSoft_spineOn (s : State) (x : Tab Bool) : (s.withHbmSoft x).spineOn = s.spineOn := rfl
@[simp] theorem State.withHbmSoft_free (s : State) (x : Tab Bool) : (s.withHbmSoft x).free = s.free := rfl
@[simp] theorem State.withHbmSoft_out (s : State) (x : Tab Bool) : (s.withHbmSoft x).out = s.out := rfl
@[simp] theorem State.withTb_pending (s : State) (x : Timebase) : (s.withTb x).pending = s.pending := rfl
@[simp] theorem State.withTb_regs (s : State) (x : Timebase) : (s.withTb x).regs = s.regs := rfl
@[simp] theorem State.withTb_latch (s : State) (x : Timebase) : (s.withTb x).latch = s.latch := rfl
@[simp] theorem State.withTb_shadow (s : State) (x : Timebase) : (s.withTb x).shadow = s.shadow := rfl
@[simp] theorem State.withTb_steps (s : State) (x : Timebase) : (s.withTb x).steps = s.steps := rfl
@[simp] theorem State.withTb_routes (s : State) (x : Timebase) : (s.withTb x).routes = s.routes := rfl
@[simp] theorem State.withTb_dm (s : State) (x : Timebase) : (s.withTb x).dm = s.dm := rfl
@[simp] theorem State.withTb_dmBad (s : State) (x : Timebase) : (s.withTb x).dmBad = s.dmBad := rfl
@[simp] theorem State.withTb_results (s : State) (x : Timebase) : (s.withTb x).results = s.results := rfl
@[simp] theorem State.withTb_stamps (s : State) (x : Timebase) : (s.withTb x).stamps = s.stamps := rfl
@[simp] theorem State.withTb_gobIn (s : State) (x : Timebase) : (s.withTb x).gobIn = s.gobIn := rfl
@[simp] theorem State.withTb_gobOut (s : State) (x : Timebase) : (s.withTb x).gobOut = s.gobOut := rfl
@[simp] theorem State.withTb_reqArea (s : State) (x : Timebase) : (s.withTb x).reqArea = s.reqArea := rfl
@[simp] theorem State.withTb_retBuf (s : State) (x : Timebase) : (s.withTb x).retBuf = s.retBuf := rfl
@[simp] theorem State.withTb_farIn (s : State) (x : Timebase) : (s.withTb x).farIn = s.farIn := rfl
@[simp] theorem State.withTb_tiles (s : State) (x : Timebase) : (s.withTb x).tiles = s.tiles := rfl
@[simp] theorem State.withTb_gafs (s : State) (x : Timebase) : (s.withTb x).gafs = s.gafs := rfl
@[simp] theorem State.withTb_ports (s : State) (x : Timebase) : (s.withTb x).ports = s.ports := rfl
@[simp] theorem State.withTb_hbm (s : State) (x : Timebase) : (s.withTb x).hbm = s.hbm := rfl
@[simp] theorem State.withTb_hbmBad (s : State) (x : Timebase) : (s.withTb x).hbmBad = s.hbmBad := rfl
@[simp] theorem State.withTb_hbmSoft (s : State) (x : Timebase) : (s.withTb x).hbmSoft = s.hbmSoft := rfl
@[simp] theorem State.withTb_tb (s : State) (x : Timebase) : (s.withTb x).tb = x := rfl
@[simp] theorem State.withTb_irc (s : State) (x : Timebase) : (s.withTb x).irc = s.irc := rfl
@[simp] theorem State.withTb_pbs (s : State) (x : Timebase) : (s.withTb x).pbs = s.pbs := rfl
@[simp] theorem State.withTb_mrv (s : State) (x : Timebase) : (s.withTb x).mrv = s.mrv := rfl
@[simp] theorem State.withTb_rings (s : State) (x : Timebase) : (s.withTb x).rings = s.rings := rfl
@[simp] theorem State.withTb_strobes (s : State) (x : Timebase) : (s.withTb x).strobes = s.strobes := rfl
@[simp] theorem State.withTb_discardEv (s : State) (x : Timebase) : (s.withTb x).discardEv = s.discardEv := rfl
@[simp] theorem State.withTb_slots (s : State) (x : Timebase) : (s.withTb x).slots = s.slots := rfl
@[simp] theorem State.withTb_noc (s : State) (x : Timebase) : (s.withTb x).noc = s.noc := rfl
@[simp] theorem State.withTb_dma (s : State) (x : Timebase) : (s.withTb x).dma = s.dma := rfl
@[simp] theorem State.withTb_fab (s : State) (x : Timebase) : (s.withTb x).fab = s.fab := rfl
@[simp] theorem State.withTb_mbx (s : State) (x : Timebase) : (s.withTb x).mbx = s.mbx := rfl
@[simp] theorem State.withTb_pcie (s : State) (x : Timebase) : (s.withTb x).pcie = s.pcie := rfl
@[simp] theorem State.withTb_bar4 (s : State) (x : Timebase) : (s.withTb x).bar4 = s.bar4 := rfl
@[simp] theorem State.withTb_hbmHeld (s : State) (x : Timebase) : (s.withTb x).hbmHeld = s.hbmHeld := rfl
@[simp] theorem State.withTb_eth (s : State) (x : Timebase) : (s.withTb x).eth = s.eth := rfl
@[simp] theorem State.withTb_mcLog (s : State) (x : Timebase) : (s.withTb x).mcLog = s.mcLog := rfl
@[simp] theorem State.withTb_evtSent (s : State) (x : Timebase) : (s.withTb x).evtSent = s.evtSent := rfl
@[simp] theorem State.withTb_cstore (s : State) (x : Timebase) : (s.withTb x).cstore = s.cstore := rfl
@[simp] theorem State.withTb_ldr (s : State) (x : Timebase) : (s.withTb x).ldr = s.ldr := rfl
@[simp] theorem State.withTb_nand (s : State) (x : Timebase) : (s.withTb x).nand = s.nand := rfl
@[simp] theorem State.withTb_sto (s : State) (x : Timebase) : (s.withTb x).sto = s.sto := rfl
@[simp] theorem State.withTb_flt (s : State) (x : Timebase) : (s.withTb x).flt = s.flt := rfl
@[simp] theorem State.withTb_pwr (s : State) (x : Timebase) : (s.withTb x).pwr = s.pwr := rfl
@[simp] theorem State.withTb_lehr (s : State) (x : Timebase) : (s.withTb x).lehr = s.lehr := rfl
@[simp] theorem State.withTb_start (s : State) (x : Timebase) : (s.withTb x).start = s.start := rfl
@[simp] theorem State.withTb_bst (s : State) (x : Timebase) : (s.withTb x).bst = s.bst := rfl
@[simp] theorem State.withTb_otp (s : State) (x : Timebase) : (s.withTb x).otp = s.otp := rfl
@[simp] theorem State.withTb_lcs (s : State) (x : Timebase) : (s.withTb x).lcs = s.lcs := rfl
@[simp] theorem State.withTb_jtag (s : State) (x : Timebase) : (s.withTb x).jtag = s.jtag := rfl
@[simp] theorem State.withTb_dbgReads (s : State) (x : Timebase) : (s.withTb x).dbgReads = s.dbgReads := rfl
@[simp] theorem State.withTb_spineOn (s : State) (x : Timebase) : (s.withTb x).spineOn = s.spineOn := rfl
@[simp] theorem State.withTb_free (s : State) (x : Timebase) : (s.withTb x).free = s.free := rfl
@[simp] theorem State.withTb_out (s : State) (x : Timebase) : (s.withTb x).out = s.out := rfl
@[simp] theorem State.withIrc_pending (s : State) (x : Tab IrcPort) : (s.withIrc x).pending = s.pending := rfl
@[simp] theorem State.withIrc_regs (s : State) (x : Tab IrcPort) : (s.withIrc x).regs = s.regs := rfl
@[simp] theorem State.withIrc_latch (s : State) (x : Tab IrcPort) : (s.withIrc x).latch = s.latch := rfl
@[simp] theorem State.withIrc_shadow (s : State) (x : Tab IrcPort) : (s.withIrc x).shadow = s.shadow := rfl
@[simp] theorem State.withIrc_steps (s : State) (x : Tab IrcPort) : (s.withIrc x).steps = s.steps := rfl
@[simp] theorem State.withIrc_routes (s : State) (x : Tab IrcPort) : (s.withIrc x).routes = s.routes := rfl
@[simp] theorem State.withIrc_dm (s : State) (x : Tab IrcPort) : (s.withIrc x).dm = s.dm := rfl
@[simp] theorem State.withIrc_dmBad (s : State) (x : Tab IrcPort) : (s.withIrc x).dmBad = s.dmBad := rfl
@[simp] theorem State.withIrc_results (s : State) (x : Tab IrcPort) : (s.withIrc x).results = s.results := rfl
@[simp] theorem State.withIrc_stamps (s : State) (x : Tab IrcPort) : (s.withIrc x).stamps = s.stamps := rfl
@[simp] theorem State.withIrc_gobIn (s : State) (x : Tab IrcPort) : (s.withIrc x).gobIn = s.gobIn := rfl
@[simp] theorem State.withIrc_gobOut (s : State) (x : Tab IrcPort) : (s.withIrc x).gobOut = s.gobOut := rfl
@[simp] theorem State.withIrc_reqArea (s : State) (x : Tab IrcPort) : (s.withIrc x).reqArea = s.reqArea := rfl
@[simp] theorem State.withIrc_retBuf (s : State) (x : Tab IrcPort) : (s.withIrc x).retBuf = s.retBuf := rfl
@[simp] theorem State.withIrc_farIn (s : State) (x : Tab IrcPort) : (s.withIrc x).farIn = s.farIn := rfl
@[simp] theorem State.withIrc_tiles (s : State) (x : Tab IrcPort) : (s.withIrc x).tiles = s.tiles := rfl
@[simp] theorem State.withIrc_gafs (s : State) (x : Tab IrcPort) : (s.withIrc x).gafs = s.gafs := rfl
@[simp] theorem State.withIrc_ports (s : State) (x : Tab IrcPort) : (s.withIrc x).ports = s.ports := rfl
@[simp] theorem State.withIrc_hbm (s : State) (x : Tab IrcPort) : (s.withIrc x).hbm = s.hbm := rfl
@[simp] theorem State.withIrc_hbmBad (s : State) (x : Tab IrcPort) : (s.withIrc x).hbmBad = s.hbmBad := rfl
@[simp] theorem State.withIrc_hbmSoft (s : State) (x : Tab IrcPort) : (s.withIrc x).hbmSoft = s.hbmSoft := rfl
@[simp] theorem State.withIrc_tb (s : State) (x : Tab IrcPort) : (s.withIrc x).tb = s.tb := rfl
@[simp] theorem State.withIrc_irc (s : State) (x : Tab IrcPort) : (s.withIrc x).irc = x := rfl
@[simp] theorem State.withIrc_pbs (s : State) (x : Tab IrcPort) : (s.withIrc x).pbs = s.pbs := rfl
@[simp] theorem State.withIrc_mrv (s : State) (x : Tab IrcPort) : (s.withIrc x).mrv = s.mrv := rfl
@[simp] theorem State.withIrc_rings (s : State) (x : Tab IrcPort) : (s.withIrc x).rings = s.rings := rfl
@[simp] theorem State.withIrc_strobes (s : State) (x : Tab IrcPort) : (s.withIrc x).strobes = s.strobes := rfl
@[simp] theorem State.withIrc_discardEv (s : State) (x : Tab IrcPort) : (s.withIrc x).discardEv = s.discardEv := rfl
@[simp] theorem State.withIrc_slots (s : State) (x : Tab IrcPort) : (s.withIrc x).slots = s.slots := rfl
@[simp] theorem State.withIrc_noc (s : State) (x : Tab IrcPort) : (s.withIrc x).noc = s.noc := rfl
@[simp] theorem State.withIrc_dma (s : State) (x : Tab IrcPort) : (s.withIrc x).dma = s.dma := rfl
@[simp] theorem State.withIrc_fab (s : State) (x : Tab IrcPort) : (s.withIrc x).fab = s.fab := rfl
@[simp] theorem State.withIrc_mbx (s : State) (x : Tab IrcPort) : (s.withIrc x).mbx = s.mbx := rfl
@[simp] theorem State.withIrc_pcie (s : State) (x : Tab IrcPort) : (s.withIrc x).pcie = s.pcie := rfl
@[simp] theorem State.withIrc_bar4 (s : State) (x : Tab IrcPort) : (s.withIrc x).bar4 = s.bar4 := rfl
@[simp] theorem State.withIrc_hbmHeld (s : State) (x : Tab IrcPort) : (s.withIrc x).hbmHeld = s.hbmHeld := rfl
@[simp] theorem State.withIrc_eth (s : State) (x : Tab IrcPort) : (s.withIrc x).eth = s.eth := rfl
@[simp] theorem State.withIrc_mcLog (s : State) (x : Tab IrcPort) : (s.withIrc x).mcLog = s.mcLog := rfl
@[simp] theorem State.withIrc_evtSent (s : State) (x : Tab IrcPort) : (s.withIrc x).evtSent = s.evtSent := rfl
@[simp] theorem State.withIrc_cstore (s : State) (x : Tab IrcPort) : (s.withIrc x).cstore = s.cstore := rfl
@[simp] theorem State.withIrc_ldr (s : State) (x : Tab IrcPort) : (s.withIrc x).ldr = s.ldr := rfl
@[simp] theorem State.withIrc_nand (s : State) (x : Tab IrcPort) : (s.withIrc x).nand = s.nand := rfl
@[simp] theorem State.withIrc_sto (s : State) (x : Tab IrcPort) : (s.withIrc x).sto = s.sto := rfl
@[simp] theorem State.withIrc_flt (s : State) (x : Tab IrcPort) : (s.withIrc x).flt = s.flt := rfl
@[simp] theorem State.withIrc_pwr (s : State) (x : Tab IrcPort) : (s.withIrc x).pwr = s.pwr := rfl
@[simp] theorem State.withIrc_lehr (s : State) (x : Tab IrcPort) : (s.withIrc x).lehr = s.lehr := rfl
@[simp] theorem State.withIrc_start (s : State) (x : Tab IrcPort) : (s.withIrc x).start = s.start := rfl
@[simp] theorem State.withIrc_bst (s : State) (x : Tab IrcPort) : (s.withIrc x).bst = s.bst := rfl
@[simp] theorem State.withIrc_otp (s : State) (x : Tab IrcPort) : (s.withIrc x).otp = s.otp := rfl
@[simp] theorem State.withIrc_lcs (s : State) (x : Tab IrcPort) : (s.withIrc x).lcs = s.lcs := rfl
@[simp] theorem State.withIrc_jtag (s : State) (x : Tab IrcPort) : (s.withIrc x).jtag = s.jtag := rfl
@[simp] theorem State.withIrc_dbgReads (s : State) (x : Tab IrcPort) : (s.withIrc x).dbgReads = s.dbgReads := rfl
@[simp] theorem State.withIrc_spineOn (s : State) (x : Tab IrcPort) : (s.withIrc x).spineOn = s.spineOn := rfl
@[simp] theorem State.withIrc_free (s : State) (x : Tab IrcPort) : (s.withIrc x).free = s.free := rfl
@[simp] theorem State.withIrc_out (s : State) (x : Tab IrcPort) : (s.withIrc x).out = s.out := rfl
@[simp] theorem State.withPbs_pending (s : State) (x : Tab Pbs) : (s.withPbs x).pending = s.pending := rfl
@[simp] theorem State.withPbs_regs (s : State) (x : Tab Pbs) : (s.withPbs x).regs = s.regs := rfl
@[simp] theorem State.withPbs_latch (s : State) (x : Tab Pbs) : (s.withPbs x).latch = s.latch := rfl
@[simp] theorem State.withPbs_shadow (s : State) (x : Tab Pbs) : (s.withPbs x).shadow = s.shadow := rfl
@[simp] theorem State.withPbs_steps (s : State) (x : Tab Pbs) : (s.withPbs x).steps = s.steps := rfl
@[simp] theorem State.withPbs_routes (s : State) (x : Tab Pbs) : (s.withPbs x).routes = s.routes := rfl
@[simp] theorem State.withPbs_dm (s : State) (x : Tab Pbs) : (s.withPbs x).dm = s.dm := rfl
@[simp] theorem State.withPbs_dmBad (s : State) (x : Tab Pbs) : (s.withPbs x).dmBad = s.dmBad := rfl
@[simp] theorem State.withPbs_results (s : State) (x : Tab Pbs) : (s.withPbs x).results = s.results := rfl
@[simp] theorem State.withPbs_stamps (s : State) (x : Tab Pbs) : (s.withPbs x).stamps = s.stamps := rfl
@[simp] theorem State.withPbs_gobIn (s : State) (x : Tab Pbs) : (s.withPbs x).gobIn = s.gobIn := rfl
@[simp] theorem State.withPbs_gobOut (s : State) (x : Tab Pbs) : (s.withPbs x).gobOut = s.gobOut := rfl
@[simp] theorem State.withPbs_reqArea (s : State) (x : Tab Pbs) : (s.withPbs x).reqArea = s.reqArea := rfl
@[simp] theorem State.withPbs_retBuf (s : State) (x : Tab Pbs) : (s.withPbs x).retBuf = s.retBuf := rfl
@[simp] theorem State.withPbs_farIn (s : State) (x : Tab Pbs) : (s.withPbs x).farIn = s.farIn := rfl
@[simp] theorem State.withPbs_tiles (s : State) (x : Tab Pbs) : (s.withPbs x).tiles = s.tiles := rfl
@[simp] theorem State.withPbs_gafs (s : State) (x : Tab Pbs) : (s.withPbs x).gafs = s.gafs := rfl
@[simp] theorem State.withPbs_ports (s : State) (x : Tab Pbs) : (s.withPbs x).ports = s.ports := rfl
@[simp] theorem State.withPbs_hbm (s : State) (x : Tab Pbs) : (s.withPbs x).hbm = s.hbm := rfl
@[simp] theorem State.withPbs_hbmBad (s : State) (x : Tab Pbs) : (s.withPbs x).hbmBad = s.hbmBad := rfl
@[simp] theorem State.withPbs_hbmSoft (s : State) (x : Tab Pbs) : (s.withPbs x).hbmSoft = s.hbmSoft := rfl
@[simp] theorem State.withPbs_tb (s : State) (x : Tab Pbs) : (s.withPbs x).tb = s.tb := rfl
@[simp] theorem State.withPbs_irc (s : State) (x : Tab Pbs) : (s.withPbs x).irc = s.irc := rfl
@[simp] theorem State.withPbs_pbs (s : State) (x : Tab Pbs) : (s.withPbs x).pbs = x := rfl
@[simp] theorem State.withPbs_mrv (s : State) (x : Tab Pbs) : (s.withPbs x).mrv = s.mrv := rfl
@[simp] theorem State.withPbs_rings (s : State) (x : Tab Pbs) : (s.withPbs x).rings = s.rings := rfl
@[simp] theorem State.withPbs_strobes (s : State) (x : Tab Pbs) : (s.withPbs x).strobes = s.strobes := rfl
@[simp] theorem State.withPbs_discardEv (s : State) (x : Tab Pbs) : (s.withPbs x).discardEv = s.discardEv := rfl
@[simp] theorem State.withPbs_slots (s : State) (x : Tab Pbs) : (s.withPbs x).slots = s.slots := rfl
@[simp] theorem State.withPbs_noc (s : State) (x : Tab Pbs) : (s.withPbs x).noc = s.noc := rfl
@[simp] theorem State.withPbs_dma (s : State) (x : Tab Pbs) : (s.withPbs x).dma = s.dma := rfl
@[simp] theorem State.withPbs_fab (s : State) (x : Tab Pbs) : (s.withPbs x).fab = s.fab := rfl
@[simp] theorem State.withPbs_mbx (s : State) (x : Tab Pbs) : (s.withPbs x).mbx = s.mbx := rfl
@[simp] theorem State.withPbs_pcie (s : State) (x : Tab Pbs) : (s.withPbs x).pcie = s.pcie := rfl
@[simp] theorem State.withPbs_bar4 (s : State) (x : Tab Pbs) : (s.withPbs x).bar4 = s.bar4 := rfl
@[simp] theorem State.withPbs_hbmHeld (s : State) (x : Tab Pbs) : (s.withPbs x).hbmHeld = s.hbmHeld := rfl
@[simp] theorem State.withPbs_eth (s : State) (x : Tab Pbs) : (s.withPbs x).eth = s.eth := rfl
@[simp] theorem State.withPbs_mcLog (s : State) (x : Tab Pbs) : (s.withPbs x).mcLog = s.mcLog := rfl
@[simp] theorem State.withPbs_evtSent (s : State) (x : Tab Pbs) : (s.withPbs x).evtSent = s.evtSent := rfl
@[simp] theorem State.withPbs_cstore (s : State) (x : Tab Pbs) : (s.withPbs x).cstore = s.cstore := rfl
@[simp] theorem State.withPbs_ldr (s : State) (x : Tab Pbs) : (s.withPbs x).ldr = s.ldr := rfl
@[simp] theorem State.withPbs_nand (s : State) (x : Tab Pbs) : (s.withPbs x).nand = s.nand := rfl
@[simp] theorem State.withPbs_sto (s : State) (x : Tab Pbs) : (s.withPbs x).sto = s.sto := rfl
@[simp] theorem State.withPbs_flt (s : State) (x : Tab Pbs) : (s.withPbs x).flt = s.flt := rfl
@[simp] theorem State.withPbs_pwr (s : State) (x : Tab Pbs) : (s.withPbs x).pwr = s.pwr := rfl
@[simp] theorem State.withPbs_lehr (s : State) (x : Tab Pbs) : (s.withPbs x).lehr = s.lehr := rfl
@[simp] theorem State.withPbs_start (s : State) (x : Tab Pbs) : (s.withPbs x).start = s.start := rfl
@[simp] theorem State.withPbs_bst (s : State) (x : Tab Pbs) : (s.withPbs x).bst = s.bst := rfl
@[simp] theorem State.withPbs_otp (s : State) (x : Tab Pbs) : (s.withPbs x).otp = s.otp := rfl
@[simp] theorem State.withPbs_lcs (s : State) (x : Tab Pbs) : (s.withPbs x).lcs = s.lcs := rfl
@[simp] theorem State.withPbs_jtag (s : State) (x : Tab Pbs) : (s.withPbs x).jtag = s.jtag := rfl
@[simp] theorem State.withPbs_dbgReads (s : State) (x : Tab Pbs) : (s.withPbs x).dbgReads = s.dbgReads := rfl
@[simp] theorem State.withPbs_spineOn (s : State) (x : Tab Pbs) : (s.withPbs x).spineOn = s.spineOn := rfl
@[simp] theorem State.withPbs_free (s : State) (x : Tab Pbs) : (s.withPbs x).free = s.free := rfl
@[simp] theorem State.withPbs_out (s : State) (x : Tab Pbs) : (s.withPbs x).out = s.out := rfl
@[simp] theorem State.withMrv_pending (s : State) (x : Tab Marver) : (s.withMrv x).pending = s.pending := rfl
@[simp] theorem State.withMrv_regs (s : State) (x : Tab Marver) : (s.withMrv x).regs = s.regs := rfl
@[simp] theorem State.withMrv_latch (s : State) (x : Tab Marver) : (s.withMrv x).latch = s.latch := rfl
@[simp] theorem State.withMrv_shadow (s : State) (x : Tab Marver) : (s.withMrv x).shadow = s.shadow := rfl
@[simp] theorem State.withMrv_steps (s : State) (x : Tab Marver) : (s.withMrv x).steps = s.steps := rfl
@[simp] theorem State.withMrv_routes (s : State) (x : Tab Marver) : (s.withMrv x).routes = s.routes := rfl
@[simp] theorem State.withMrv_dm (s : State) (x : Tab Marver) : (s.withMrv x).dm = s.dm := rfl
@[simp] theorem State.withMrv_dmBad (s : State) (x : Tab Marver) : (s.withMrv x).dmBad = s.dmBad := rfl
@[simp] theorem State.withMrv_results (s : State) (x : Tab Marver) : (s.withMrv x).results = s.results := rfl
@[simp] theorem State.withMrv_stamps (s : State) (x : Tab Marver) : (s.withMrv x).stamps = s.stamps := rfl
@[simp] theorem State.withMrv_gobIn (s : State) (x : Tab Marver) : (s.withMrv x).gobIn = s.gobIn := rfl
@[simp] theorem State.withMrv_gobOut (s : State) (x : Tab Marver) : (s.withMrv x).gobOut = s.gobOut := rfl
@[simp] theorem State.withMrv_reqArea (s : State) (x : Tab Marver) : (s.withMrv x).reqArea = s.reqArea := rfl
@[simp] theorem State.withMrv_retBuf (s : State) (x : Tab Marver) : (s.withMrv x).retBuf = s.retBuf := rfl
@[simp] theorem State.withMrv_farIn (s : State) (x : Tab Marver) : (s.withMrv x).farIn = s.farIn := rfl
@[simp] theorem State.withMrv_tiles (s : State) (x : Tab Marver) : (s.withMrv x).tiles = s.tiles := rfl
@[simp] theorem State.withMrv_gafs (s : State) (x : Tab Marver) : (s.withMrv x).gafs = s.gafs := rfl
@[simp] theorem State.withMrv_ports (s : State) (x : Tab Marver) : (s.withMrv x).ports = s.ports := rfl
@[simp] theorem State.withMrv_hbm (s : State) (x : Tab Marver) : (s.withMrv x).hbm = s.hbm := rfl
@[simp] theorem State.withMrv_hbmBad (s : State) (x : Tab Marver) : (s.withMrv x).hbmBad = s.hbmBad := rfl
@[simp] theorem State.withMrv_hbmSoft (s : State) (x : Tab Marver) : (s.withMrv x).hbmSoft = s.hbmSoft := rfl
@[simp] theorem State.withMrv_tb (s : State) (x : Tab Marver) : (s.withMrv x).tb = s.tb := rfl
@[simp] theorem State.withMrv_irc (s : State) (x : Tab Marver) : (s.withMrv x).irc = s.irc := rfl
@[simp] theorem State.withMrv_pbs (s : State) (x : Tab Marver) : (s.withMrv x).pbs = s.pbs := rfl
@[simp] theorem State.withMrv_mrv (s : State) (x : Tab Marver) : (s.withMrv x).mrv = x := rfl
@[simp] theorem State.withMrv_rings (s : State) (x : Tab Marver) : (s.withMrv x).rings = s.rings := rfl
@[simp] theorem State.withMrv_strobes (s : State) (x : Tab Marver) : (s.withMrv x).strobes = s.strobes := rfl
@[simp] theorem State.withMrv_discardEv (s : State) (x : Tab Marver) : (s.withMrv x).discardEv = s.discardEv := rfl
@[simp] theorem State.withMrv_slots (s : State) (x : Tab Marver) : (s.withMrv x).slots = s.slots := rfl
@[simp] theorem State.withMrv_noc (s : State) (x : Tab Marver) : (s.withMrv x).noc = s.noc := rfl
@[simp] theorem State.withMrv_dma (s : State) (x : Tab Marver) : (s.withMrv x).dma = s.dma := rfl
@[simp] theorem State.withMrv_fab (s : State) (x : Tab Marver) : (s.withMrv x).fab = s.fab := rfl
@[simp] theorem State.withMrv_mbx (s : State) (x : Tab Marver) : (s.withMrv x).mbx = s.mbx := rfl
@[simp] theorem State.withMrv_pcie (s : State) (x : Tab Marver) : (s.withMrv x).pcie = s.pcie := rfl
@[simp] theorem State.withMrv_bar4 (s : State) (x : Tab Marver) : (s.withMrv x).bar4 = s.bar4 := rfl
@[simp] theorem State.withMrv_hbmHeld (s : State) (x : Tab Marver) : (s.withMrv x).hbmHeld = s.hbmHeld := rfl
@[simp] theorem State.withMrv_eth (s : State) (x : Tab Marver) : (s.withMrv x).eth = s.eth := rfl
@[simp] theorem State.withMrv_mcLog (s : State) (x : Tab Marver) : (s.withMrv x).mcLog = s.mcLog := rfl
@[simp] theorem State.withMrv_evtSent (s : State) (x : Tab Marver) : (s.withMrv x).evtSent = s.evtSent := rfl
@[simp] theorem State.withMrv_cstore (s : State) (x : Tab Marver) : (s.withMrv x).cstore = s.cstore := rfl
@[simp] theorem State.withMrv_ldr (s : State) (x : Tab Marver) : (s.withMrv x).ldr = s.ldr := rfl
@[simp] theorem State.withMrv_nand (s : State) (x : Tab Marver) : (s.withMrv x).nand = s.nand := rfl
@[simp] theorem State.withMrv_sto (s : State) (x : Tab Marver) : (s.withMrv x).sto = s.sto := rfl
@[simp] theorem State.withMrv_flt (s : State) (x : Tab Marver) : (s.withMrv x).flt = s.flt := rfl
@[simp] theorem State.withMrv_pwr (s : State) (x : Tab Marver) : (s.withMrv x).pwr = s.pwr := rfl
@[simp] theorem State.withMrv_lehr (s : State) (x : Tab Marver) : (s.withMrv x).lehr = s.lehr := rfl
@[simp] theorem State.withMrv_start (s : State) (x : Tab Marver) : (s.withMrv x).start = s.start := rfl
@[simp] theorem State.withMrv_bst (s : State) (x : Tab Marver) : (s.withMrv x).bst = s.bst := rfl
@[simp] theorem State.withMrv_otp (s : State) (x : Tab Marver) : (s.withMrv x).otp = s.otp := rfl
@[simp] theorem State.withMrv_lcs (s : State) (x : Tab Marver) : (s.withMrv x).lcs = s.lcs := rfl
@[simp] theorem State.withMrv_jtag (s : State) (x : Tab Marver) : (s.withMrv x).jtag = s.jtag := rfl
@[simp] theorem State.withMrv_dbgReads (s : State) (x : Tab Marver) : (s.withMrv x).dbgReads = s.dbgReads := rfl
@[simp] theorem State.withMrv_spineOn (s : State) (x : Tab Marver) : (s.withMrv x).spineOn = s.spineOn := rfl
@[simp] theorem State.withMrv_free (s : State) (x : Tab Marver) : (s.withMrv x).free = s.free := rfl
@[simp] theorem State.withMrv_out (s : State) (x : Tab Marver) : (s.withMrv x).out = s.out := rfl
@[simp] theorem State.withRings_pending (s : State) (x : Tab Ring) : (s.withRings x).pending = s.pending := rfl
@[simp] theorem State.withRings_regs (s : State) (x : Tab Ring) : (s.withRings x).regs = s.regs := rfl
@[simp] theorem State.withRings_latch (s : State) (x : Tab Ring) : (s.withRings x).latch = s.latch := rfl
@[simp] theorem State.withRings_shadow (s : State) (x : Tab Ring) : (s.withRings x).shadow = s.shadow := rfl
@[simp] theorem State.withRings_steps (s : State) (x : Tab Ring) : (s.withRings x).steps = s.steps := rfl
@[simp] theorem State.withRings_routes (s : State) (x : Tab Ring) : (s.withRings x).routes = s.routes := rfl
@[simp] theorem State.withRings_dm (s : State) (x : Tab Ring) : (s.withRings x).dm = s.dm := rfl
@[simp] theorem State.withRings_dmBad (s : State) (x : Tab Ring) : (s.withRings x).dmBad = s.dmBad := rfl
@[simp] theorem State.withRings_results (s : State) (x : Tab Ring) : (s.withRings x).results = s.results := rfl
@[simp] theorem State.withRings_stamps (s : State) (x : Tab Ring) : (s.withRings x).stamps = s.stamps := rfl
@[simp] theorem State.withRings_gobIn (s : State) (x : Tab Ring) : (s.withRings x).gobIn = s.gobIn := rfl
@[simp] theorem State.withRings_gobOut (s : State) (x : Tab Ring) : (s.withRings x).gobOut = s.gobOut := rfl
@[simp] theorem State.withRings_reqArea (s : State) (x : Tab Ring) : (s.withRings x).reqArea = s.reqArea := rfl
@[simp] theorem State.withRings_retBuf (s : State) (x : Tab Ring) : (s.withRings x).retBuf = s.retBuf := rfl
@[simp] theorem State.withRings_farIn (s : State) (x : Tab Ring) : (s.withRings x).farIn = s.farIn := rfl
@[simp] theorem State.withRings_tiles (s : State) (x : Tab Ring) : (s.withRings x).tiles = s.tiles := rfl
@[simp] theorem State.withRings_gafs (s : State) (x : Tab Ring) : (s.withRings x).gafs = s.gafs := rfl
@[simp] theorem State.withRings_ports (s : State) (x : Tab Ring) : (s.withRings x).ports = s.ports := rfl
@[simp] theorem State.withRings_hbm (s : State) (x : Tab Ring) : (s.withRings x).hbm = s.hbm := rfl
@[simp] theorem State.withRings_hbmBad (s : State) (x : Tab Ring) : (s.withRings x).hbmBad = s.hbmBad := rfl
@[simp] theorem State.withRings_hbmSoft (s : State) (x : Tab Ring) : (s.withRings x).hbmSoft = s.hbmSoft := rfl
@[simp] theorem State.withRings_tb (s : State) (x : Tab Ring) : (s.withRings x).tb = s.tb := rfl
@[simp] theorem State.withRings_irc (s : State) (x : Tab Ring) : (s.withRings x).irc = s.irc := rfl
@[simp] theorem State.withRings_pbs (s : State) (x : Tab Ring) : (s.withRings x).pbs = s.pbs := rfl
@[simp] theorem State.withRings_mrv (s : State) (x : Tab Ring) : (s.withRings x).mrv = s.mrv := rfl
@[simp] theorem State.withRings_rings (s : State) (x : Tab Ring) : (s.withRings x).rings = x := rfl
@[simp] theorem State.withRings_strobes (s : State) (x : Tab Ring) : (s.withRings x).strobes = s.strobes := rfl
@[simp] theorem State.withRings_discardEv (s : State) (x : Tab Ring) : (s.withRings x).discardEv = s.discardEv := rfl
@[simp] theorem State.withRings_slots (s : State) (x : Tab Ring) : (s.withRings x).slots = s.slots := rfl
@[simp] theorem State.withRings_noc (s : State) (x : Tab Ring) : (s.withRings x).noc = s.noc := rfl
@[simp] theorem State.withRings_dma (s : State) (x : Tab Ring) : (s.withRings x).dma = s.dma := rfl
@[simp] theorem State.withRings_fab (s : State) (x : Tab Ring) : (s.withRings x).fab = s.fab := rfl
@[simp] theorem State.withRings_mbx (s : State) (x : Tab Ring) : (s.withRings x).mbx = s.mbx := rfl
@[simp] theorem State.withRings_pcie (s : State) (x : Tab Ring) : (s.withRings x).pcie = s.pcie := rfl
@[simp] theorem State.withRings_bar4 (s : State) (x : Tab Ring) : (s.withRings x).bar4 = s.bar4 := rfl
@[simp] theorem State.withRings_hbmHeld (s : State) (x : Tab Ring) : (s.withRings x).hbmHeld = s.hbmHeld := rfl
@[simp] theorem State.withRings_eth (s : State) (x : Tab Ring) : (s.withRings x).eth = s.eth := rfl
@[simp] theorem State.withRings_mcLog (s : State) (x : Tab Ring) : (s.withRings x).mcLog = s.mcLog := rfl
@[simp] theorem State.withRings_evtSent (s : State) (x : Tab Ring) : (s.withRings x).evtSent = s.evtSent := rfl
@[simp] theorem State.withRings_cstore (s : State) (x : Tab Ring) : (s.withRings x).cstore = s.cstore := rfl
@[simp] theorem State.withRings_ldr (s : State) (x : Tab Ring) : (s.withRings x).ldr = s.ldr := rfl
@[simp] theorem State.withRings_nand (s : State) (x : Tab Ring) : (s.withRings x).nand = s.nand := rfl
@[simp] theorem State.withRings_sto (s : State) (x : Tab Ring) : (s.withRings x).sto = s.sto := rfl
@[simp] theorem State.withRings_flt (s : State) (x : Tab Ring) : (s.withRings x).flt = s.flt := rfl
@[simp] theorem State.withRings_pwr (s : State) (x : Tab Ring) : (s.withRings x).pwr = s.pwr := rfl
@[simp] theorem State.withRings_lehr (s : State) (x : Tab Ring) : (s.withRings x).lehr = s.lehr := rfl
@[simp] theorem State.withRings_start (s : State) (x : Tab Ring) : (s.withRings x).start = s.start := rfl
@[simp] theorem State.withRings_bst (s : State) (x : Tab Ring) : (s.withRings x).bst = s.bst := rfl
@[simp] theorem State.withRings_otp (s : State) (x : Tab Ring) : (s.withRings x).otp = s.otp := rfl
@[simp] theorem State.withRings_lcs (s : State) (x : Tab Ring) : (s.withRings x).lcs = s.lcs := rfl
@[simp] theorem State.withRings_jtag (s : State) (x : Tab Ring) : (s.withRings x).jtag = s.jtag := rfl
@[simp] theorem State.withRings_dbgReads (s : State) (x : Tab Ring) : (s.withRings x).dbgReads = s.dbgReads := rfl
@[simp] theorem State.withRings_spineOn (s : State) (x : Tab Ring) : (s.withRings x).spineOn = s.spineOn := rfl
@[simp] theorem State.withRings_free (s : State) (x : Tab Ring) : (s.withRings x).free = s.free := rfl
@[simp] theorem State.withRings_out (s : State) (x : Tab Ring) : (s.withRings x).out = s.out := rfl
@[simp] theorem State.withStrobes_pending (s : State) (x : List (Nat × Nat × Nat)) : (s.withStrobes x).pending = s.pending := rfl
@[simp] theorem State.withStrobes_regs (s : State) (x : List (Nat × Nat × Nat)) : (s.withStrobes x).regs = s.regs := rfl
@[simp] theorem State.withStrobes_latch (s : State) (x : List (Nat × Nat × Nat)) : (s.withStrobes x).latch = s.latch := rfl
@[simp] theorem State.withStrobes_shadow (s : State) (x : List (Nat × Nat × Nat)) : (s.withStrobes x).shadow = s.shadow := rfl
@[simp] theorem State.withStrobes_steps (s : State) (x : List (Nat × Nat × Nat)) : (s.withStrobes x).steps = s.steps := rfl
@[simp] theorem State.withStrobes_routes (s : State) (x : List (Nat × Nat × Nat)) : (s.withStrobes x).routes = s.routes := rfl
@[simp] theorem State.withStrobes_dm (s : State) (x : List (Nat × Nat × Nat)) : (s.withStrobes x).dm = s.dm := rfl
@[simp] theorem State.withStrobes_dmBad (s : State) (x : List (Nat × Nat × Nat)) : (s.withStrobes x).dmBad = s.dmBad := rfl
@[simp] theorem State.withStrobes_results (s : State) (x : List (Nat × Nat × Nat)) : (s.withStrobes x).results = s.results := rfl
@[simp] theorem State.withStrobes_stamps (s : State) (x : List (Nat × Nat × Nat)) : (s.withStrobes x).stamps = s.stamps := rfl
@[simp] theorem State.withStrobes_gobIn (s : State) (x : List (Nat × Nat × Nat)) : (s.withStrobes x).gobIn = s.gobIn := rfl
@[simp] theorem State.withStrobes_gobOut (s : State) (x : List (Nat × Nat × Nat)) : (s.withStrobes x).gobOut = s.gobOut := rfl
@[simp] theorem State.withStrobes_reqArea (s : State) (x : List (Nat × Nat × Nat)) : (s.withStrobes x).reqArea = s.reqArea := rfl
@[simp] theorem State.withStrobes_retBuf (s : State) (x : List (Nat × Nat × Nat)) : (s.withStrobes x).retBuf = s.retBuf := rfl
@[simp] theorem State.withStrobes_farIn (s : State) (x : List (Nat × Nat × Nat)) : (s.withStrobes x).farIn = s.farIn := rfl
@[simp] theorem State.withStrobes_tiles (s : State) (x : List (Nat × Nat × Nat)) : (s.withStrobes x).tiles = s.tiles := rfl
@[simp] theorem State.withStrobes_gafs (s : State) (x : List (Nat × Nat × Nat)) : (s.withStrobes x).gafs = s.gafs := rfl
@[simp] theorem State.withStrobes_ports (s : State) (x : List (Nat × Nat × Nat)) : (s.withStrobes x).ports = s.ports := rfl
@[simp] theorem State.withStrobes_hbm (s : State) (x : List (Nat × Nat × Nat)) : (s.withStrobes x).hbm = s.hbm := rfl
@[simp] theorem State.withStrobes_hbmBad (s : State) (x : List (Nat × Nat × Nat)) : (s.withStrobes x).hbmBad = s.hbmBad := rfl
@[simp] theorem State.withStrobes_hbmSoft (s : State) (x : List (Nat × Nat × Nat)) : (s.withStrobes x).hbmSoft = s.hbmSoft := rfl
@[simp] theorem State.withStrobes_tb (s : State) (x : List (Nat × Nat × Nat)) : (s.withStrobes x).tb = s.tb := rfl
@[simp] theorem State.withStrobes_irc (s : State) (x : List (Nat × Nat × Nat)) : (s.withStrobes x).irc = s.irc := rfl
@[simp] theorem State.withStrobes_pbs (s : State) (x : List (Nat × Nat × Nat)) : (s.withStrobes x).pbs = s.pbs := rfl
@[simp] theorem State.withStrobes_mrv (s : State) (x : List (Nat × Nat × Nat)) : (s.withStrobes x).mrv = s.mrv := rfl
@[simp] theorem State.withStrobes_rings (s : State) (x : List (Nat × Nat × Nat)) : (s.withStrobes x).rings = s.rings := rfl
@[simp] theorem State.withStrobes_strobes (s : State) (x : List (Nat × Nat × Nat)) : (s.withStrobes x).strobes = x := rfl
@[simp] theorem State.withStrobes_discardEv (s : State) (x : List (Nat × Nat × Nat)) : (s.withStrobes x).discardEv = s.discardEv := rfl
@[simp] theorem State.withStrobes_slots (s : State) (x : List (Nat × Nat × Nat)) : (s.withStrobes x).slots = s.slots := rfl
@[simp] theorem State.withStrobes_noc (s : State) (x : List (Nat × Nat × Nat)) : (s.withStrobes x).noc = s.noc := rfl
@[simp] theorem State.withStrobes_dma (s : State) (x : List (Nat × Nat × Nat)) : (s.withStrobes x).dma = s.dma := rfl
@[simp] theorem State.withStrobes_fab (s : State) (x : List (Nat × Nat × Nat)) : (s.withStrobes x).fab = s.fab := rfl
@[simp] theorem State.withStrobes_mbx (s : State) (x : List (Nat × Nat × Nat)) : (s.withStrobes x).mbx = s.mbx := rfl
@[simp] theorem State.withStrobes_pcie (s : State) (x : List (Nat × Nat × Nat)) : (s.withStrobes x).pcie = s.pcie := rfl
@[simp] theorem State.withStrobes_bar4 (s : State) (x : List (Nat × Nat × Nat)) : (s.withStrobes x).bar4 = s.bar4 := rfl
@[simp] theorem State.withStrobes_hbmHeld (s : State) (x : List (Nat × Nat × Nat)) : (s.withStrobes x).hbmHeld = s.hbmHeld := rfl
@[simp] theorem State.withStrobes_eth (s : State) (x : List (Nat × Nat × Nat)) : (s.withStrobes x).eth = s.eth := rfl
@[simp] theorem State.withStrobes_mcLog (s : State) (x : List (Nat × Nat × Nat)) : (s.withStrobes x).mcLog = s.mcLog := rfl
@[simp] theorem State.withStrobes_evtSent (s : State) (x : List (Nat × Nat × Nat)) : (s.withStrobes x).evtSent = s.evtSent := rfl
@[simp] theorem State.withStrobes_cstore (s : State) (x : List (Nat × Nat × Nat)) : (s.withStrobes x).cstore = s.cstore := rfl
@[simp] theorem State.withStrobes_ldr (s : State) (x : List (Nat × Nat × Nat)) : (s.withStrobes x).ldr = s.ldr := rfl
@[simp] theorem State.withStrobes_nand (s : State) (x : List (Nat × Nat × Nat)) : (s.withStrobes x).nand = s.nand := rfl
@[simp] theorem State.withStrobes_sto (s : State) (x : List (Nat × Nat × Nat)) : (s.withStrobes x).sto = s.sto := rfl
@[simp] theorem State.withStrobes_flt (s : State) (x : List (Nat × Nat × Nat)) : (s.withStrobes x).flt = s.flt := rfl
@[simp] theorem State.withStrobes_pwr (s : State) (x : List (Nat × Nat × Nat)) : (s.withStrobes x).pwr = s.pwr := rfl
@[simp] theorem State.withStrobes_lehr (s : State) (x : List (Nat × Nat × Nat)) : (s.withStrobes x).lehr = s.lehr := rfl
@[simp] theorem State.withStrobes_start (s : State) (x : List (Nat × Nat × Nat)) : (s.withStrobes x).start = s.start := rfl
@[simp] theorem State.withStrobes_bst (s : State) (x : List (Nat × Nat × Nat)) : (s.withStrobes x).bst = s.bst := rfl
@[simp] theorem State.withStrobes_otp (s : State) (x : List (Nat × Nat × Nat)) : (s.withStrobes x).otp = s.otp := rfl
@[simp] theorem State.withStrobes_lcs (s : State) (x : List (Nat × Nat × Nat)) : (s.withStrobes x).lcs = s.lcs := rfl
@[simp] theorem State.withStrobes_jtag (s : State) (x : List (Nat × Nat × Nat)) : (s.withStrobes x).jtag = s.jtag := rfl
@[simp] theorem State.withStrobes_dbgReads (s : State) (x : List (Nat × Nat × Nat)) : (s.withStrobes x).dbgReads = s.dbgReads := rfl
@[simp] theorem State.withStrobes_spineOn (s : State) (x : List (Nat × Nat × Nat)) : (s.withStrobes x).spineOn = s.spineOn := rfl
@[simp] theorem State.withStrobes_free (s : State) (x : List (Nat × Nat × Nat)) : (s.withStrobes x).free = s.free := rfl
@[simp] theorem State.withStrobes_out (s : State) (x : List (Nat × Nat × Nat)) : (s.withStrobes x).out = s.out := rfl
@[simp] theorem State.withDiscardEv_pending (s : State) (x : Tab (Option Nat)) : (s.withDiscardEv x).pending = s.pending := rfl
@[simp] theorem State.withDiscardEv_regs (s : State) (x : Tab (Option Nat)) : (s.withDiscardEv x).regs = s.regs := rfl
@[simp] theorem State.withDiscardEv_latch (s : State) (x : Tab (Option Nat)) : (s.withDiscardEv x).latch = s.latch := rfl
@[simp] theorem State.withDiscardEv_shadow (s : State) (x : Tab (Option Nat)) : (s.withDiscardEv x).shadow = s.shadow := rfl
@[simp] theorem State.withDiscardEv_steps (s : State) (x : Tab (Option Nat)) : (s.withDiscardEv x).steps = s.steps := rfl
@[simp] theorem State.withDiscardEv_routes (s : State) (x : Tab (Option Nat)) : (s.withDiscardEv x).routes = s.routes := rfl
@[simp] theorem State.withDiscardEv_dm (s : State) (x : Tab (Option Nat)) : (s.withDiscardEv x).dm = s.dm := rfl
@[simp] theorem State.withDiscardEv_dmBad (s : State) (x : Tab (Option Nat)) : (s.withDiscardEv x).dmBad = s.dmBad := rfl
@[simp] theorem State.withDiscardEv_results (s : State) (x : Tab (Option Nat)) : (s.withDiscardEv x).results = s.results := rfl
@[simp] theorem State.withDiscardEv_stamps (s : State) (x : Tab (Option Nat)) : (s.withDiscardEv x).stamps = s.stamps := rfl
@[simp] theorem State.withDiscardEv_gobIn (s : State) (x : Tab (Option Nat)) : (s.withDiscardEv x).gobIn = s.gobIn := rfl
@[simp] theorem State.withDiscardEv_gobOut (s : State) (x : Tab (Option Nat)) : (s.withDiscardEv x).gobOut = s.gobOut := rfl
@[simp] theorem State.withDiscardEv_reqArea (s : State) (x : Tab (Option Nat)) : (s.withDiscardEv x).reqArea = s.reqArea := rfl
@[simp] theorem State.withDiscardEv_retBuf (s : State) (x : Tab (Option Nat)) : (s.withDiscardEv x).retBuf = s.retBuf := rfl
@[simp] theorem State.withDiscardEv_farIn (s : State) (x : Tab (Option Nat)) : (s.withDiscardEv x).farIn = s.farIn := rfl
@[simp] theorem State.withDiscardEv_tiles (s : State) (x : Tab (Option Nat)) : (s.withDiscardEv x).tiles = s.tiles := rfl
@[simp] theorem State.withDiscardEv_gafs (s : State) (x : Tab (Option Nat)) : (s.withDiscardEv x).gafs = s.gafs := rfl
@[simp] theorem State.withDiscardEv_ports (s : State) (x : Tab (Option Nat)) : (s.withDiscardEv x).ports = s.ports := rfl
@[simp] theorem State.withDiscardEv_hbm (s : State) (x : Tab (Option Nat)) : (s.withDiscardEv x).hbm = s.hbm := rfl
@[simp] theorem State.withDiscardEv_hbmBad (s : State) (x : Tab (Option Nat)) : (s.withDiscardEv x).hbmBad = s.hbmBad := rfl
@[simp] theorem State.withDiscardEv_hbmSoft (s : State) (x : Tab (Option Nat)) : (s.withDiscardEv x).hbmSoft = s.hbmSoft := rfl
@[simp] theorem State.withDiscardEv_tb (s : State) (x : Tab (Option Nat)) : (s.withDiscardEv x).tb = s.tb := rfl
@[simp] theorem State.withDiscardEv_irc (s : State) (x : Tab (Option Nat)) : (s.withDiscardEv x).irc = s.irc := rfl
@[simp] theorem State.withDiscardEv_pbs (s : State) (x : Tab (Option Nat)) : (s.withDiscardEv x).pbs = s.pbs := rfl
@[simp] theorem State.withDiscardEv_mrv (s : State) (x : Tab (Option Nat)) : (s.withDiscardEv x).mrv = s.mrv := rfl
@[simp] theorem State.withDiscardEv_rings (s : State) (x : Tab (Option Nat)) : (s.withDiscardEv x).rings = s.rings := rfl
@[simp] theorem State.withDiscardEv_strobes (s : State) (x : Tab (Option Nat)) : (s.withDiscardEv x).strobes = s.strobes := rfl
@[simp] theorem State.withDiscardEv_discardEv (s : State) (x : Tab (Option Nat)) : (s.withDiscardEv x).discardEv = x := rfl
@[simp] theorem State.withDiscardEv_slots (s : State) (x : Tab (Option Nat)) : (s.withDiscardEv x).slots = s.slots := rfl
@[simp] theorem State.withDiscardEv_noc (s : State) (x : Tab (Option Nat)) : (s.withDiscardEv x).noc = s.noc := rfl
@[simp] theorem State.withDiscardEv_dma (s : State) (x : Tab (Option Nat)) : (s.withDiscardEv x).dma = s.dma := rfl
@[simp] theorem State.withDiscardEv_fab (s : State) (x : Tab (Option Nat)) : (s.withDiscardEv x).fab = s.fab := rfl
@[simp] theorem State.withDiscardEv_mbx (s : State) (x : Tab (Option Nat)) : (s.withDiscardEv x).mbx = s.mbx := rfl
@[simp] theorem State.withDiscardEv_pcie (s : State) (x : Tab (Option Nat)) : (s.withDiscardEv x).pcie = s.pcie := rfl
@[simp] theorem State.withDiscardEv_bar4 (s : State) (x : Tab (Option Nat)) : (s.withDiscardEv x).bar4 = s.bar4 := rfl
@[simp] theorem State.withDiscardEv_hbmHeld (s : State) (x : Tab (Option Nat)) : (s.withDiscardEv x).hbmHeld = s.hbmHeld := rfl
@[simp] theorem State.withDiscardEv_eth (s : State) (x : Tab (Option Nat)) : (s.withDiscardEv x).eth = s.eth := rfl
@[simp] theorem State.withDiscardEv_mcLog (s : State) (x : Tab (Option Nat)) : (s.withDiscardEv x).mcLog = s.mcLog := rfl
@[simp] theorem State.withDiscardEv_evtSent (s : State) (x : Tab (Option Nat)) : (s.withDiscardEv x).evtSent = s.evtSent := rfl
@[simp] theorem State.withDiscardEv_cstore (s : State) (x : Tab (Option Nat)) : (s.withDiscardEv x).cstore = s.cstore := rfl
@[simp] theorem State.withDiscardEv_ldr (s : State) (x : Tab (Option Nat)) : (s.withDiscardEv x).ldr = s.ldr := rfl
@[simp] theorem State.withDiscardEv_nand (s : State) (x : Tab (Option Nat)) : (s.withDiscardEv x).nand = s.nand := rfl
@[simp] theorem State.withDiscardEv_sto (s : State) (x : Tab (Option Nat)) : (s.withDiscardEv x).sto = s.sto := rfl
@[simp] theorem State.withDiscardEv_flt (s : State) (x : Tab (Option Nat)) : (s.withDiscardEv x).flt = s.flt := rfl
@[simp] theorem State.withDiscardEv_pwr (s : State) (x : Tab (Option Nat)) : (s.withDiscardEv x).pwr = s.pwr := rfl
@[simp] theorem State.withDiscardEv_lehr (s : State) (x : Tab (Option Nat)) : (s.withDiscardEv x).lehr = s.lehr := rfl
@[simp] theorem State.withDiscardEv_start (s : State) (x : Tab (Option Nat)) : (s.withDiscardEv x).start = s.start := rfl
@[simp] theorem State.withDiscardEv_bst (s : State) (x : Tab (Option Nat)) : (s.withDiscardEv x).bst = s.bst := rfl
@[simp] theorem State.withDiscardEv_otp (s : State) (x : Tab (Option Nat)) : (s.withDiscardEv x).otp = s.otp := rfl
@[simp] theorem State.withDiscardEv_lcs (s : State) (x : Tab (Option Nat)) : (s.withDiscardEv x).lcs = s.lcs := rfl
@[simp] theorem State.withDiscardEv_jtag (s : State) (x : Tab (Option Nat)) : (s.withDiscardEv x).jtag = s.jtag := rfl
@[simp] theorem State.withDiscardEv_dbgReads (s : State) (x : Tab (Option Nat)) : (s.withDiscardEv x).dbgReads = s.dbgReads := rfl
@[simp] theorem State.withDiscardEv_spineOn (s : State) (x : Tab (Option Nat)) : (s.withDiscardEv x).spineOn = s.spineOn := rfl
@[simp] theorem State.withDiscardEv_free (s : State) (x : Tab (Option Nat)) : (s.withDiscardEv x).free = s.free := rfl
@[simp] theorem State.withDiscardEv_out (s : State) (x : Tab (Option Nat)) : (s.withDiscardEv x).out = s.out := rfl
@[simp] theorem State.withSlots_pending (s : State) (x : Tab Nat) : (s.withSlots x).pending = s.pending := rfl
@[simp] theorem State.withSlots_regs (s : State) (x : Tab Nat) : (s.withSlots x).regs = s.regs := rfl
@[simp] theorem State.withSlots_latch (s : State) (x : Tab Nat) : (s.withSlots x).latch = s.latch := rfl
@[simp] theorem State.withSlots_shadow (s : State) (x : Tab Nat) : (s.withSlots x).shadow = s.shadow := rfl
@[simp] theorem State.withSlots_steps (s : State) (x : Tab Nat) : (s.withSlots x).steps = s.steps := rfl
@[simp] theorem State.withSlots_routes (s : State) (x : Tab Nat) : (s.withSlots x).routes = s.routes := rfl
@[simp] theorem State.withSlots_dm (s : State) (x : Tab Nat) : (s.withSlots x).dm = s.dm := rfl
@[simp] theorem State.withSlots_dmBad (s : State) (x : Tab Nat) : (s.withSlots x).dmBad = s.dmBad := rfl
@[simp] theorem State.withSlots_results (s : State) (x : Tab Nat) : (s.withSlots x).results = s.results := rfl
@[simp] theorem State.withSlots_stamps (s : State) (x : Tab Nat) : (s.withSlots x).stamps = s.stamps := rfl
@[simp] theorem State.withSlots_gobIn (s : State) (x : Tab Nat) : (s.withSlots x).gobIn = s.gobIn := rfl
@[simp] theorem State.withSlots_gobOut (s : State) (x : Tab Nat) : (s.withSlots x).gobOut = s.gobOut := rfl
@[simp] theorem State.withSlots_reqArea (s : State) (x : Tab Nat) : (s.withSlots x).reqArea = s.reqArea := rfl
@[simp] theorem State.withSlots_retBuf (s : State) (x : Tab Nat) : (s.withSlots x).retBuf = s.retBuf := rfl
@[simp] theorem State.withSlots_farIn (s : State) (x : Tab Nat) : (s.withSlots x).farIn = s.farIn := rfl
@[simp] theorem State.withSlots_tiles (s : State) (x : Tab Nat) : (s.withSlots x).tiles = s.tiles := rfl
@[simp] theorem State.withSlots_gafs (s : State) (x : Tab Nat) : (s.withSlots x).gafs = s.gafs := rfl
@[simp] theorem State.withSlots_ports (s : State) (x : Tab Nat) : (s.withSlots x).ports = s.ports := rfl
@[simp] theorem State.withSlots_hbm (s : State) (x : Tab Nat) : (s.withSlots x).hbm = s.hbm := rfl
@[simp] theorem State.withSlots_hbmBad (s : State) (x : Tab Nat) : (s.withSlots x).hbmBad = s.hbmBad := rfl
@[simp] theorem State.withSlots_hbmSoft (s : State) (x : Tab Nat) : (s.withSlots x).hbmSoft = s.hbmSoft := rfl
@[simp] theorem State.withSlots_tb (s : State) (x : Tab Nat) : (s.withSlots x).tb = s.tb := rfl
@[simp] theorem State.withSlots_irc (s : State) (x : Tab Nat) : (s.withSlots x).irc = s.irc := rfl
@[simp] theorem State.withSlots_pbs (s : State) (x : Tab Nat) : (s.withSlots x).pbs = s.pbs := rfl
@[simp] theorem State.withSlots_mrv (s : State) (x : Tab Nat) : (s.withSlots x).mrv = s.mrv := rfl
@[simp] theorem State.withSlots_rings (s : State) (x : Tab Nat) : (s.withSlots x).rings = s.rings := rfl
@[simp] theorem State.withSlots_strobes (s : State) (x : Tab Nat) : (s.withSlots x).strobes = s.strobes := rfl
@[simp] theorem State.withSlots_discardEv (s : State) (x : Tab Nat) : (s.withSlots x).discardEv = s.discardEv := rfl
@[simp] theorem State.withSlots_slots (s : State) (x : Tab Nat) : (s.withSlots x).slots = x := rfl
@[simp] theorem State.withSlots_noc (s : State) (x : Tab Nat) : (s.withSlots x).noc = s.noc := rfl
@[simp] theorem State.withSlots_dma (s : State) (x : Tab Nat) : (s.withSlots x).dma = s.dma := rfl
@[simp] theorem State.withSlots_fab (s : State) (x : Tab Nat) : (s.withSlots x).fab = s.fab := rfl
@[simp] theorem State.withSlots_mbx (s : State) (x : Tab Nat) : (s.withSlots x).mbx = s.mbx := rfl
@[simp] theorem State.withSlots_pcie (s : State) (x : Tab Nat) : (s.withSlots x).pcie = s.pcie := rfl
@[simp] theorem State.withSlots_bar4 (s : State) (x : Tab Nat) : (s.withSlots x).bar4 = s.bar4 := rfl
@[simp] theorem State.withSlots_hbmHeld (s : State) (x : Tab Nat) : (s.withSlots x).hbmHeld = s.hbmHeld := rfl
@[simp] theorem State.withSlots_eth (s : State) (x : Tab Nat) : (s.withSlots x).eth = s.eth := rfl
@[simp] theorem State.withSlots_mcLog (s : State) (x : Tab Nat) : (s.withSlots x).mcLog = s.mcLog := rfl
@[simp] theorem State.withSlots_evtSent (s : State) (x : Tab Nat) : (s.withSlots x).evtSent = s.evtSent := rfl
@[simp] theorem State.withSlots_cstore (s : State) (x : Tab Nat) : (s.withSlots x).cstore = s.cstore := rfl
@[simp] theorem State.withSlots_ldr (s : State) (x : Tab Nat) : (s.withSlots x).ldr = s.ldr := rfl
@[simp] theorem State.withSlots_nand (s : State) (x : Tab Nat) : (s.withSlots x).nand = s.nand := rfl
@[simp] theorem State.withSlots_sto (s : State) (x : Tab Nat) : (s.withSlots x).sto = s.sto := rfl
@[simp] theorem State.withSlots_flt (s : State) (x : Tab Nat) : (s.withSlots x).flt = s.flt := rfl
@[simp] theorem State.withSlots_pwr (s : State) (x : Tab Nat) : (s.withSlots x).pwr = s.pwr := rfl
@[simp] theorem State.withSlots_lehr (s : State) (x : Tab Nat) : (s.withSlots x).lehr = s.lehr := rfl
@[simp] theorem State.withSlots_start (s : State) (x : Tab Nat) : (s.withSlots x).start = s.start := rfl
@[simp] theorem State.withSlots_bst (s : State) (x : Tab Nat) : (s.withSlots x).bst = s.bst := rfl
@[simp] theorem State.withSlots_otp (s : State) (x : Tab Nat) : (s.withSlots x).otp = s.otp := rfl
@[simp] theorem State.withSlots_lcs (s : State) (x : Tab Nat) : (s.withSlots x).lcs = s.lcs := rfl
@[simp] theorem State.withSlots_jtag (s : State) (x : Tab Nat) : (s.withSlots x).jtag = s.jtag := rfl
@[simp] theorem State.withSlots_dbgReads (s : State) (x : Tab Nat) : (s.withSlots x).dbgReads = s.dbgReads := rfl
@[simp] theorem State.withSlots_spineOn (s : State) (x : Tab Nat) : (s.withSlots x).spineOn = s.spineOn := rfl
@[simp] theorem State.withSlots_free (s : State) (x : Tab Nat) : (s.withSlots x).free = s.free := rfl
@[simp] theorem State.withSlots_out (s : State) (x : Tab Nat) : (s.withSlots x).out = s.out := rfl
@[simp] theorem State.withNoc_pending (s : State) (x : Noc) : (s.withNoc x).pending = s.pending := rfl
@[simp] theorem State.withNoc_regs (s : State) (x : Noc) : (s.withNoc x).regs = s.regs := rfl
@[simp] theorem State.withNoc_latch (s : State) (x : Noc) : (s.withNoc x).latch = s.latch := rfl
@[simp] theorem State.withNoc_shadow (s : State) (x : Noc) : (s.withNoc x).shadow = s.shadow := rfl
@[simp] theorem State.withNoc_steps (s : State) (x : Noc) : (s.withNoc x).steps = s.steps := rfl
@[simp] theorem State.withNoc_routes (s : State) (x : Noc) : (s.withNoc x).routes = s.routes := rfl
@[simp] theorem State.withNoc_dm (s : State) (x : Noc) : (s.withNoc x).dm = s.dm := rfl
@[simp] theorem State.withNoc_dmBad (s : State) (x : Noc) : (s.withNoc x).dmBad = s.dmBad := rfl
@[simp] theorem State.withNoc_results (s : State) (x : Noc) : (s.withNoc x).results = s.results := rfl
@[simp] theorem State.withNoc_stamps (s : State) (x : Noc) : (s.withNoc x).stamps = s.stamps := rfl
@[simp] theorem State.withNoc_gobIn (s : State) (x : Noc) : (s.withNoc x).gobIn = s.gobIn := rfl
@[simp] theorem State.withNoc_gobOut (s : State) (x : Noc) : (s.withNoc x).gobOut = s.gobOut := rfl
@[simp] theorem State.withNoc_reqArea (s : State) (x : Noc) : (s.withNoc x).reqArea = s.reqArea := rfl
@[simp] theorem State.withNoc_retBuf (s : State) (x : Noc) : (s.withNoc x).retBuf = s.retBuf := rfl
@[simp] theorem State.withNoc_farIn (s : State) (x : Noc) : (s.withNoc x).farIn = s.farIn := rfl
@[simp] theorem State.withNoc_tiles (s : State) (x : Noc) : (s.withNoc x).tiles = s.tiles := rfl
@[simp] theorem State.withNoc_gafs (s : State) (x : Noc) : (s.withNoc x).gafs = s.gafs := rfl
@[simp] theorem State.withNoc_ports (s : State) (x : Noc) : (s.withNoc x).ports = s.ports := rfl
@[simp] theorem State.withNoc_hbm (s : State) (x : Noc) : (s.withNoc x).hbm = s.hbm := rfl
@[simp] theorem State.withNoc_hbmBad (s : State) (x : Noc) : (s.withNoc x).hbmBad = s.hbmBad := rfl
@[simp] theorem State.withNoc_hbmSoft (s : State) (x : Noc) : (s.withNoc x).hbmSoft = s.hbmSoft := rfl
@[simp] theorem State.withNoc_tb (s : State) (x : Noc) : (s.withNoc x).tb = s.tb := rfl
@[simp] theorem State.withNoc_irc (s : State) (x : Noc) : (s.withNoc x).irc = s.irc := rfl
@[simp] theorem State.withNoc_pbs (s : State) (x : Noc) : (s.withNoc x).pbs = s.pbs := rfl
@[simp] theorem State.withNoc_mrv (s : State) (x : Noc) : (s.withNoc x).mrv = s.mrv := rfl
@[simp] theorem State.withNoc_rings (s : State) (x : Noc) : (s.withNoc x).rings = s.rings := rfl
@[simp] theorem State.withNoc_strobes (s : State) (x : Noc) : (s.withNoc x).strobes = s.strobes := rfl
@[simp] theorem State.withNoc_discardEv (s : State) (x : Noc) : (s.withNoc x).discardEv = s.discardEv := rfl
@[simp] theorem State.withNoc_slots (s : State) (x : Noc) : (s.withNoc x).slots = s.slots := rfl
@[simp] theorem State.withNoc_noc (s : State) (x : Noc) : (s.withNoc x).noc = x := rfl
@[simp] theorem State.withNoc_dma (s : State) (x : Noc) : (s.withNoc x).dma = s.dma := rfl
@[simp] theorem State.withNoc_fab (s : State) (x : Noc) : (s.withNoc x).fab = s.fab := rfl
@[simp] theorem State.withNoc_mbx (s : State) (x : Noc) : (s.withNoc x).mbx = s.mbx := rfl
@[simp] theorem State.withNoc_pcie (s : State) (x : Noc) : (s.withNoc x).pcie = s.pcie := rfl
@[simp] theorem State.withNoc_bar4 (s : State) (x : Noc) : (s.withNoc x).bar4 = s.bar4 := rfl
@[simp] theorem State.withNoc_hbmHeld (s : State) (x : Noc) : (s.withNoc x).hbmHeld = s.hbmHeld := rfl
@[simp] theorem State.withNoc_eth (s : State) (x : Noc) : (s.withNoc x).eth = s.eth := rfl
@[simp] theorem State.withNoc_mcLog (s : State) (x : Noc) : (s.withNoc x).mcLog = s.mcLog := rfl
@[simp] theorem State.withNoc_evtSent (s : State) (x : Noc) : (s.withNoc x).evtSent = s.evtSent := rfl
@[simp] theorem State.withNoc_cstore (s : State) (x : Noc) : (s.withNoc x).cstore = s.cstore := rfl
@[simp] theorem State.withNoc_ldr (s : State) (x : Noc) : (s.withNoc x).ldr = s.ldr := rfl
@[simp] theorem State.withNoc_nand (s : State) (x : Noc) : (s.withNoc x).nand = s.nand := rfl
@[simp] theorem State.withNoc_sto (s : State) (x : Noc) : (s.withNoc x).sto = s.sto := rfl
@[simp] theorem State.withNoc_flt (s : State) (x : Noc) : (s.withNoc x).flt = s.flt := rfl
@[simp] theorem State.withNoc_pwr (s : State) (x : Noc) : (s.withNoc x).pwr = s.pwr := rfl
@[simp] theorem State.withNoc_lehr (s : State) (x : Noc) : (s.withNoc x).lehr = s.lehr := rfl
@[simp] theorem State.withNoc_start (s : State) (x : Noc) : (s.withNoc x).start = s.start := rfl
@[simp] theorem State.withNoc_bst (s : State) (x : Noc) : (s.withNoc x).bst = s.bst := rfl
@[simp] theorem State.withNoc_otp (s : State) (x : Noc) : (s.withNoc x).otp = s.otp := rfl
@[simp] theorem State.withNoc_lcs (s : State) (x : Noc) : (s.withNoc x).lcs = s.lcs := rfl
@[simp] theorem State.withNoc_jtag (s : State) (x : Noc) : (s.withNoc x).jtag = s.jtag := rfl
@[simp] theorem State.withNoc_dbgReads (s : State) (x : Noc) : (s.withNoc x).dbgReads = s.dbgReads := rfl
@[simp] theorem State.withNoc_spineOn (s : State) (x : Noc) : (s.withNoc x).spineOn = s.spineOn := rfl
@[simp] theorem State.withNoc_free (s : State) (x : Noc) : (s.withNoc x).free = s.free := rfl
@[simp] theorem State.withNoc_out (s : State) (x : Noc) : (s.withNoc x).out = s.out := rfl
@[simp] theorem State.withDma_pending (s : State) (x : Tab Engine) : (s.withDma x).pending = s.pending := rfl
@[simp] theorem State.withDma_regs (s : State) (x : Tab Engine) : (s.withDma x).regs = s.regs := rfl
@[simp] theorem State.withDma_latch (s : State) (x : Tab Engine) : (s.withDma x).latch = s.latch := rfl
@[simp] theorem State.withDma_shadow (s : State) (x : Tab Engine) : (s.withDma x).shadow = s.shadow := rfl
@[simp] theorem State.withDma_steps (s : State) (x : Tab Engine) : (s.withDma x).steps = s.steps := rfl
@[simp] theorem State.withDma_routes (s : State) (x : Tab Engine) : (s.withDma x).routes = s.routes := rfl
@[simp] theorem State.withDma_dm (s : State) (x : Tab Engine) : (s.withDma x).dm = s.dm := rfl
@[simp] theorem State.withDma_dmBad (s : State) (x : Tab Engine) : (s.withDma x).dmBad = s.dmBad := rfl
@[simp] theorem State.withDma_results (s : State) (x : Tab Engine) : (s.withDma x).results = s.results := rfl
@[simp] theorem State.withDma_stamps (s : State) (x : Tab Engine) : (s.withDma x).stamps = s.stamps := rfl
@[simp] theorem State.withDma_gobIn (s : State) (x : Tab Engine) : (s.withDma x).gobIn = s.gobIn := rfl
@[simp] theorem State.withDma_gobOut (s : State) (x : Tab Engine) : (s.withDma x).gobOut = s.gobOut := rfl
@[simp] theorem State.withDma_reqArea (s : State) (x : Tab Engine) : (s.withDma x).reqArea = s.reqArea := rfl
@[simp] theorem State.withDma_retBuf (s : State) (x : Tab Engine) : (s.withDma x).retBuf = s.retBuf := rfl
@[simp] theorem State.withDma_farIn (s : State) (x : Tab Engine) : (s.withDma x).farIn = s.farIn := rfl
@[simp] theorem State.withDma_tiles (s : State) (x : Tab Engine) : (s.withDma x).tiles = s.tiles := rfl
@[simp] theorem State.withDma_gafs (s : State) (x : Tab Engine) : (s.withDma x).gafs = s.gafs := rfl
@[simp] theorem State.withDma_ports (s : State) (x : Tab Engine) : (s.withDma x).ports = s.ports := rfl
@[simp] theorem State.withDma_hbm (s : State) (x : Tab Engine) : (s.withDma x).hbm = s.hbm := rfl
@[simp] theorem State.withDma_hbmBad (s : State) (x : Tab Engine) : (s.withDma x).hbmBad = s.hbmBad := rfl
@[simp] theorem State.withDma_hbmSoft (s : State) (x : Tab Engine) : (s.withDma x).hbmSoft = s.hbmSoft := rfl
@[simp] theorem State.withDma_tb (s : State) (x : Tab Engine) : (s.withDma x).tb = s.tb := rfl
@[simp] theorem State.withDma_irc (s : State) (x : Tab Engine) : (s.withDma x).irc = s.irc := rfl
@[simp] theorem State.withDma_pbs (s : State) (x : Tab Engine) : (s.withDma x).pbs = s.pbs := rfl
@[simp] theorem State.withDma_mrv (s : State) (x : Tab Engine) : (s.withDma x).mrv = s.mrv := rfl
@[simp] theorem State.withDma_rings (s : State) (x : Tab Engine) : (s.withDma x).rings = s.rings := rfl
@[simp] theorem State.withDma_strobes (s : State) (x : Tab Engine) : (s.withDma x).strobes = s.strobes := rfl
@[simp] theorem State.withDma_discardEv (s : State) (x : Tab Engine) : (s.withDma x).discardEv = s.discardEv := rfl
@[simp] theorem State.withDma_slots (s : State) (x : Tab Engine) : (s.withDma x).slots = s.slots := rfl
@[simp] theorem State.withDma_noc (s : State) (x : Tab Engine) : (s.withDma x).noc = s.noc := rfl
@[simp] theorem State.withDma_dma (s : State) (x : Tab Engine) : (s.withDma x).dma = x := rfl
@[simp] theorem State.withDma_fab (s : State) (x : Tab Engine) : (s.withDma x).fab = s.fab := rfl
@[simp] theorem State.withDma_mbx (s : State) (x : Tab Engine) : (s.withDma x).mbx = s.mbx := rfl
@[simp] theorem State.withDma_pcie (s : State) (x : Tab Engine) : (s.withDma x).pcie = s.pcie := rfl
@[simp] theorem State.withDma_bar4 (s : State) (x : Tab Engine) : (s.withDma x).bar4 = s.bar4 := rfl
@[simp] theorem State.withDma_hbmHeld (s : State) (x : Tab Engine) : (s.withDma x).hbmHeld = s.hbmHeld := rfl
@[simp] theorem State.withDma_eth (s : State) (x : Tab Engine) : (s.withDma x).eth = s.eth := rfl
@[simp] theorem State.withDma_mcLog (s : State) (x : Tab Engine) : (s.withDma x).mcLog = s.mcLog := rfl
@[simp] theorem State.withDma_evtSent (s : State) (x : Tab Engine) : (s.withDma x).evtSent = s.evtSent := rfl
@[simp] theorem State.withDma_cstore (s : State) (x : Tab Engine) : (s.withDma x).cstore = s.cstore := rfl
@[simp] theorem State.withDma_ldr (s : State) (x : Tab Engine) : (s.withDma x).ldr = s.ldr := rfl
@[simp] theorem State.withDma_nand (s : State) (x : Tab Engine) : (s.withDma x).nand = s.nand := rfl
@[simp] theorem State.withDma_sto (s : State) (x : Tab Engine) : (s.withDma x).sto = s.sto := rfl
@[simp] theorem State.withDma_flt (s : State) (x : Tab Engine) : (s.withDma x).flt = s.flt := rfl
@[simp] theorem State.withDma_pwr (s : State) (x : Tab Engine) : (s.withDma x).pwr = s.pwr := rfl
@[simp] theorem State.withDma_lehr (s : State) (x : Tab Engine) : (s.withDma x).lehr = s.lehr := rfl
@[simp] theorem State.withDma_start (s : State) (x : Tab Engine) : (s.withDma x).start = s.start := rfl
@[simp] theorem State.withDma_bst (s : State) (x : Tab Engine) : (s.withDma x).bst = s.bst := rfl
@[simp] theorem State.withDma_otp (s : State) (x : Tab Engine) : (s.withDma x).otp = s.otp := rfl
@[simp] theorem State.withDma_lcs (s : State) (x : Tab Engine) : (s.withDma x).lcs = s.lcs := rfl
@[simp] theorem State.withDma_jtag (s : State) (x : Tab Engine) : (s.withDma x).jtag = s.jtag := rfl
@[simp] theorem State.withDma_dbgReads (s : State) (x : Tab Engine) : (s.withDma x).dbgReads = s.dbgReads := rfl
@[simp] theorem State.withDma_spineOn (s : State) (x : Tab Engine) : (s.withDma x).spineOn = s.spineOn := rfl
@[simp] theorem State.withDma_free (s : State) (x : Tab Engine) : (s.withDma x).free = s.free := rfl
@[simp] theorem State.withDma_out (s : State) (x : Tab Engine) : (s.withDma x).out = s.out := rfl
@[simp] theorem State.withFab_pending (s : State) (x : Fab) : (s.withFab x).pending = s.pending := rfl
@[simp] theorem State.withFab_regs (s : State) (x : Fab) : (s.withFab x).regs = s.regs := rfl
@[simp] theorem State.withFab_latch (s : State) (x : Fab) : (s.withFab x).latch = s.latch := rfl
@[simp] theorem State.withFab_shadow (s : State) (x : Fab) : (s.withFab x).shadow = s.shadow := rfl
@[simp] theorem State.withFab_steps (s : State) (x : Fab) : (s.withFab x).steps = s.steps := rfl
@[simp] theorem State.withFab_routes (s : State) (x : Fab) : (s.withFab x).routes = s.routes := rfl
@[simp] theorem State.withFab_dm (s : State) (x : Fab) : (s.withFab x).dm = s.dm := rfl
@[simp] theorem State.withFab_dmBad (s : State) (x : Fab) : (s.withFab x).dmBad = s.dmBad := rfl
@[simp] theorem State.withFab_results (s : State) (x : Fab) : (s.withFab x).results = s.results := rfl
@[simp] theorem State.withFab_stamps (s : State) (x : Fab) : (s.withFab x).stamps = s.stamps := rfl
@[simp] theorem State.withFab_gobIn (s : State) (x : Fab) : (s.withFab x).gobIn = s.gobIn := rfl
@[simp] theorem State.withFab_gobOut (s : State) (x : Fab) : (s.withFab x).gobOut = s.gobOut := rfl
@[simp] theorem State.withFab_reqArea (s : State) (x : Fab) : (s.withFab x).reqArea = s.reqArea := rfl
@[simp] theorem State.withFab_retBuf (s : State) (x : Fab) : (s.withFab x).retBuf = s.retBuf := rfl
@[simp] theorem State.withFab_farIn (s : State) (x : Fab) : (s.withFab x).farIn = s.farIn := rfl
@[simp] theorem State.withFab_tiles (s : State) (x : Fab) : (s.withFab x).tiles = s.tiles := rfl
@[simp] theorem State.withFab_gafs (s : State) (x : Fab) : (s.withFab x).gafs = s.gafs := rfl
@[simp] theorem State.withFab_ports (s : State) (x : Fab) : (s.withFab x).ports = s.ports := rfl
@[simp] theorem State.withFab_hbm (s : State) (x : Fab) : (s.withFab x).hbm = s.hbm := rfl
@[simp] theorem State.withFab_hbmBad (s : State) (x : Fab) : (s.withFab x).hbmBad = s.hbmBad := rfl
@[simp] theorem State.withFab_hbmSoft (s : State) (x : Fab) : (s.withFab x).hbmSoft = s.hbmSoft := rfl
@[simp] theorem State.withFab_tb (s : State) (x : Fab) : (s.withFab x).tb = s.tb := rfl
@[simp] theorem State.withFab_irc (s : State) (x : Fab) : (s.withFab x).irc = s.irc := rfl
@[simp] theorem State.withFab_pbs (s : State) (x : Fab) : (s.withFab x).pbs = s.pbs := rfl
@[simp] theorem State.withFab_mrv (s : State) (x : Fab) : (s.withFab x).mrv = s.mrv := rfl
@[simp] theorem State.withFab_rings (s : State) (x : Fab) : (s.withFab x).rings = s.rings := rfl
@[simp] theorem State.withFab_strobes (s : State) (x : Fab) : (s.withFab x).strobes = s.strobes := rfl
@[simp] theorem State.withFab_discardEv (s : State) (x : Fab) : (s.withFab x).discardEv = s.discardEv := rfl
@[simp] theorem State.withFab_slots (s : State) (x : Fab) : (s.withFab x).slots = s.slots := rfl
@[simp] theorem State.withFab_noc (s : State) (x : Fab) : (s.withFab x).noc = s.noc := rfl
@[simp] theorem State.withFab_dma (s : State) (x : Fab) : (s.withFab x).dma = s.dma := rfl
@[simp] theorem State.withFab_fab (s : State) (x : Fab) : (s.withFab x).fab = x := rfl
@[simp] theorem State.withFab_mbx (s : State) (x : Fab) : (s.withFab x).mbx = s.mbx := rfl
@[simp] theorem State.withFab_pcie (s : State) (x : Fab) : (s.withFab x).pcie = s.pcie := rfl
@[simp] theorem State.withFab_bar4 (s : State) (x : Fab) : (s.withFab x).bar4 = s.bar4 := rfl
@[simp] theorem State.withFab_hbmHeld (s : State) (x : Fab) : (s.withFab x).hbmHeld = s.hbmHeld := rfl
@[simp] theorem State.withFab_eth (s : State) (x : Fab) : (s.withFab x).eth = s.eth := rfl
@[simp] theorem State.withFab_mcLog (s : State) (x : Fab) : (s.withFab x).mcLog = s.mcLog := rfl
@[simp] theorem State.withFab_evtSent (s : State) (x : Fab) : (s.withFab x).evtSent = s.evtSent := rfl
@[simp] theorem State.withFab_cstore (s : State) (x : Fab) : (s.withFab x).cstore = s.cstore := rfl
@[simp] theorem State.withFab_ldr (s : State) (x : Fab) : (s.withFab x).ldr = s.ldr := rfl
@[simp] theorem State.withFab_nand (s : State) (x : Fab) : (s.withFab x).nand = s.nand := rfl
@[simp] theorem State.withFab_sto (s : State) (x : Fab) : (s.withFab x).sto = s.sto := rfl
@[simp] theorem State.withFab_flt (s : State) (x : Fab) : (s.withFab x).flt = s.flt := rfl
@[simp] theorem State.withFab_pwr (s : State) (x : Fab) : (s.withFab x).pwr = s.pwr := rfl
@[simp] theorem State.withFab_lehr (s : State) (x : Fab) : (s.withFab x).lehr = s.lehr := rfl
@[simp] theorem State.withFab_start (s : State) (x : Fab) : (s.withFab x).start = s.start := rfl
@[simp] theorem State.withFab_bst (s : State) (x : Fab) : (s.withFab x).bst = s.bst := rfl
@[simp] theorem State.withFab_otp (s : State) (x : Fab) : (s.withFab x).otp = s.otp := rfl
@[simp] theorem State.withFab_lcs (s : State) (x : Fab) : (s.withFab x).lcs = s.lcs := rfl
@[simp] theorem State.withFab_jtag (s : State) (x : Fab) : (s.withFab x).jtag = s.jtag := rfl
@[simp] theorem State.withFab_dbgReads (s : State) (x : Fab) : (s.withFab x).dbgReads = s.dbgReads := rfl
@[simp] theorem State.withFab_spineOn (s : State) (x : Fab) : (s.withFab x).spineOn = s.spineOn := rfl
@[simp] theorem State.withFab_free (s : State) (x : Fab) : (s.withFab x).free = s.free := rfl
@[simp] theorem State.withFab_out (s : State) (x : Fab) : (s.withFab x).out = s.out := rfl
@[simp] theorem State.withMbx_pending (s : State) (x : Mailbox) : (s.withMbx x).pending = s.pending := rfl
@[simp] theorem State.withMbx_regs (s : State) (x : Mailbox) : (s.withMbx x).regs = s.regs := rfl
@[simp] theorem State.withMbx_latch (s : State) (x : Mailbox) : (s.withMbx x).latch = s.latch := rfl
@[simp] theorem State.withMbx_shadow (s : State) (x : Mailbox) : (s.withMbx x).shadow = s.shadow := rfl
@[simp] theorem State.withMbx_steps (s : State) (x : Mailbox) : (s.withMbx x).steps = s.steps := rfl
@[simp] theorem State.withMbx_routes (s : State) (x : Mailbox) : (s.withMbx x).routes = s.routes := rfl
@[simp] theorem State.withMbx_dm (s : State) (x : Mailbox) : (s.withMbx x).dm = s.dm := rfl
@[simp] theorem State.withMbx_dmBad (s : State) (x : Mailbox) : (s.withMbx x).dmBad = s.dmBad := rfl
@[simp] theorem State.withMbx_results (s : State) (x : Mailbox) : (s.withMbx x).results = s.results := rfl
@[simp] theorem State.withMbx_stamps (s : State) (x : Mailbox) : (s.withMbx x).stamps = s.stamps := rfl
@[simp] theorem State.withMbx_gobIn (s : State) (x : Mailbox) : (s.withMbx x).gobIn = s.gobIn := rfl
@[simp] theorem State.withMbx_gobOut (s : State) (x : Mailbox) : (s.withMbx x).gobOut = s.gobOut := rfl
@[simp] theorem State.withMbx_reqArea (s : State) (x : Mailbox) : (s.withMbx x).reqArea = s.reqArea := rfl
@[simp] theorem State.withMbx_retBuf (s : State) (x : Mailbox) : (s.withMbx x).retBuf = s.retBuf := rfl
@[simp] theorem State.withMbx_farIn (s : State) (x : Mailbox) : (s.withMbx x).farIn = s.farIn := rfl
@[simp] theorem State.withMbx_tiles (s : State) (x : Mailbox) : (s.withMbx x).tiles = s.tiles := rfl
@[simp] theorem State.withMbx_gafs (s : State) (x : Mailbox) : (s.withMbx x).gafs = s.gafs := rfl
@[simp] theorem State.withMbx_ports (s : State) (x : Mailbox) : (s.withMbx x).ports = s.ports := rfl
@[simp] theorem State.withMbx_hbm (s : State) (x : Mailbox) : (s.withMbx x).hbm = s.hbm := rfl
@[simp] theorem State.withMbx_hbmBad (s : State) (x : Mailbox) : (s.withMbx x).hbmBad = s.hbmBad := rfl
@[simp] theorem State.withMbx_hbmSoft (s : State) (x : Mailbox) : (s.withMbx x).hbmSoft = s.hbmSoft := rfl
@[simp] theorem State.withMbx_tb (s : State) (x : Mailbox) : (s.withMbx x).tb = s.tb := rfl
@[simp] theorem State.withMbx_irc (s : State) (x : Mailbox) : (s.withMbx x).irc = s.irc := rfl
@[simp] theorem State.withMbx_pbs (s : State) (x : Mailbox) : (s.withMbx x).pbs = s.pbs := rfl
@[simp] theorem State.withMbx_mrv (s : State) (x : Mailbox) : (s.withMbx x).mrv = s.mrv := rfl
@[simp] theorem State.withMbx_rings (s : State) (x : Mailbox) : (s.withMbx x).rings = s.rings := rfl
@[simp] theorem State.withMbx_strobes (s : State) (x : Mailbox) : (s.withMbx x).strobes = s.strobes := rfl
@[simp] theorem State.withMbx_discardEv (s : State) (x : Mailbox) : (s.withMbx x).discardEv = s.discardEv := rfl
@[simp] theorem State.withMbx_slots (s : State) (x : Mailbox) : (s.withMbx x).slots = s.slots := rfl
@[simp] theorem State.withMbx_noc (s : State) (x : Mailbox) : (s.withMbx x).noc = s.noc := rfl
@[simp] theorem State.withMbx_dma (s : State) (x : Mailbox) : (s.withMbx x).dma = s.dma := rfl
@[simp] theorem State.withMbx_fab (s : State) (x : Mailbox) : (s.withMbx x).fab = s.fab := rfl
@[simp] theorem State.withMbx_mbx (s : State) (x : Mailbox) : (s.withMbx x).mbx = x := rfl
@[simp] theorem State.withMbx_pcie (s : State) (x : Mailbox) : (s.withMbx x).pcie = s.pcie := rfl
@[simp] theorem State.withMbx_bar4 (s : State) (x : Mailbox) : (s.withMbx x).bar4 = s.bar4 := rfl
@[simp] theorem State.withMbx_hbmHeld (s : State) (x : Mailbox) : (s.withMbx x).hbmHeld = s.hbmHeld := rfl
@[simp] theorem State.withMbx_eth (s : State) (x : Mailbox) : (s.withMbx x).eth = s.eth := rfl
@[simp] theorem State.withMbx_mcLog (s : State) (x : Mailbox) : (s.withMbx x).mcLog = s.mcLog := rfl
@[simp] theorem State.withMbx_evtSent (s : State) (x : Mailbox) : (s.withMbx x).evtSent = s.evtSent := rfl
@[simp] theorem State.withMbx_cstore (s : State) (x : Mailbox) : (s.withMbx x).cstore = s.cstore := rfl
@[simp] theorem State.withMbx_ldr (s : State) (x : Mailbox) : (s.withMbx x).ldr = s.ldr := rfl
@[simp] theorem State.withMbx_nand (s : State) (x : Mailbox) : (s.withMbx x).nand = s.nand := rfl
@[simp] theorem State.withMbx_sto (s : State) (x : Mailbox) : (s.withMbx x).sto = s.sto := rfl
@[simp] theorem State.withMbx_flt (s : State) (x : Mailbox) : (s.withMbx x).flt = s.flt := rfl
@[simp] theorem State.withMbx_pwr (s : State) (x : Mailbox) : (s.withMbx x).pwr = s.pwr := rfl
@[simp] theorem State.withMbx_lehr (s : State) (x : Mailbox) : (s.withMbx x).lehr = s.lehr := rfl
@[simp] theorem State.withMbx_start (s : State) (x : Mailbox) : (s.withMbx x).start = s.start := rfl
@[simp] theorem State.withMbx_bst (s : State) (x : Mailbox) : (s.withMbx x).bst = s.bst := rfl
@[simp] theorem State.withMbx_otp (s : State) (x : Mailbox) : (s.withMbx x).otp = s.otp := rfl
@[simp] theorem State.withMbx_lcs (s : State) (x : Mailbox) : (s.withMbx x).lcs = s.lcs := rfl
@[simp] theorem State.withMbx_jtag (s : State) (x : Mailbox) : (s.withMbx x).jtag = s.jtag := rfl
@[simp] theorem State.withMbx_dbgReads (s : State) (x : Mailbox) : (s.withMbx x).dbgReads = s.dbgReads := rfl
@[simp] theorem State.withMbx_spineOn (s : State) (x : Mailbox) : (s.withMbx x).spineOn = s.spineOn := rfl
@[simp] theorem State.withMbx_free (s : State) (x : Mailbox) : (s.withMbx x).free = s.free := rfl
@[simp] theorem State.withMbx_out (s : State) (x : Mailbox) : (s.withMbx x).out = s.out := rfl
@[simp] theorem State.withPcie_pending (s : State) (x : Pcie) : (s.withPcie x).pending = s.pending := rfl
@[simp] theorem State.withPcie_regs (s : State) (x : Pcie) : (s.withPcie x).regs = s.regs := rfl
@[simp] theorem State.withPcie_latch (s : State) (x : Pcie) : (s.withPcie x).latch = s.latch := rfl
@[simp] theorem State.withPcie_shadow (s : State) (x : Pcie) : (s.withPcie x).shadow = s.shadow := rfl
@[simp] theorem State.withPcie_steps (s : State) (x : Pcie) : (s.withPcie x).steps = s.steps := rfl
@[simp] theorem State.withPcie_routes (s : State) (x : Pcie) : (s.withPcie x).routes = s.routes := rfl
@[simp] theorem State.withPcie_dm (s : State) (x : Pcie) : (s.withPcie x).dm = s.dm := rfl
@[simp] theorem State.withPcie_dmBad (s : State) (x : Pcie) : (s.withPcie x).dmBad = s.dmBad := rfl
@[simp] theorem State.withPcie_results (s : State) (x : Pcie) : (s.withPcie x).results = s.results := rfl
@[simp] theorem State.withPcie_stamps (s : State) (x : Pcie) : (s.withPcie x).stamps = s.stamps := rfl
@[simp] theorem State.withPcie_gobIn (s : State) (x : Pcie) : (s.withPcie x).gobIn = s.gobIn := rfl
@[simp] theorem State.withPcie_gobOut (s : State) (x : Pcie) : (s.withPcie x).gobOut = s.gobOut := rfl
@[simp] theorem State.withPcie_reqArea (s : State) (x : Pcie) : (s.withPcie x).reqArea = s.reqArea := rfl
@[simp] theorem State.withPcie_retBuf (s : State) (x : Pcie) : (s.withPcie x).retBuf = s.retBuf := rfl
@[simp] theorem State.withPcie_farIn (s : State) (x : Pcie) : (s.withPcie x).farIn = s.farIn := rfl
@[simp] theorem State.withPcie_tiles (s : State) (x : Pcie) : (s.withPcie x).tiles = s.tiles := rfl
@[simp] theorem State.withPcie_gafs (s : State) (x : Pcie) : (s.withPcie x).gafs = s.gafs := rfl
@[simp] theorem State.withPcie_ports (s : State) (x : Pcie) : (s.withPcie x).ports = s.ports := rfl
@[simp] theorem State.withPcie_hbm (s : State) (x : Pcie) : (s.withPcie x).hbm = s.hbm := rfl
@[simp] theorem State.withPcie_hbmBad (s : State) (x : Pcie) : (s.withPcie x).hbmBad = s.hbmBad := rfl
@[simp] theorem State.withPcie_hbmSoft (s : State) (x : Pcie) : (s.withPcie x).hbmSoft = s.hbmSoft := rfl
@[simp] theorem State.withPcie_tb (s : State) (x : Pcie) : (s.withPcie x).tb = s.tb := rfl
@[simp] theorem State.withPcie_irc (s : State) (x : Pcie) : (s.withPcie x).irc = s.irc := rfl
@[simp] theorem State.withPcie_pbs (s : State) (x : Pcie) : (s.withPcie x).pbs = s.pbs := rfl
@[simp] theorem State.withPcie_mrv (s : State) (x : Pcie) : (s.withPcie x).mrv = s.mrv := rfl
@[simp] theorem State.withPcie_rings (s : State) (x : Pcie) : (s.withPcie x).rings = s.rings := rfl
@[simp] theorem State.withPcie_strobes (s : State) (x : Pcie) : (s.withPcie x).strobes = s.strobes := rfl
@[simp] theorem State.withPcie_discardEv (s : State) (x : Pcie) : (s.withPcie x).discardEv = s.discardEv := rfl
@[simp] theorem State.withPcie_slots (s : State) (x : Pcie) : (s.withPcie x).slots = s.slots := rfl
@[simp] theorem State.withPcie_noc (s : State) (x : Pcie) : (s.withPcie x).noc = s.noc := rfl
@[simp] theorem State.withPcie_dma (s : State) (x : Pcie) : (s.withPcie x).dma = s.dma := rfl
@[simp] theorem State.withPcie_fab (s : State) (x : Pcie) : (s.withPcie x).fab = s.fab := rfl
@[simp] theorem State.withPcie_mbx (s : State) (x : Pcie) : (s.withPcie x).mbx = s.mbx := rfl
@[simp] theorem State.withPcie_pcie (s : State) (x : Pcie) : (s.withPcie x).pcie = x := rfl
@[simp] theorem State.withPcie_bar4 (s : State) (x : Pcie) : (s.withPcie x).bar4 = s.bar4 := rfl
@[simp] theorem State.withPcie_hbmHeld (s : State) (x : Pcie) : (s.withPcie x).hbmHeld = s.hbmHeld := rfl
@[simp] theorem State.withPcie_eth (s : State) (x : Pcie) : (s.withPcie x).eth = s.eth := rfl
@[simp] theorem State.withPcie_mcLog (s : State) (x : Pcie) : (s.withPcie x).mcLog = s.mcLog := rfl
@[simp] theorem State.withPcie_evtSent (s : State) (x : Pcie) : (s.withPcie x).evtSent = s.evtSent := rfl
@[simp] theorem State.withPcie_cstore (s : State) (x : Pcie) : (s.withPcie x).cstore = s.cstore := rfl
@[simp] theorem State.withPcie_ldr (s : State) (x : Pcie) : (s.withPcie x).ldr = s.ldr := rfl
@[simp] theorem State.withPcie_nand (s : State) (x : Pcie) : (s.withPcie x).nand = s.nand := rfl
@[simp] theorem State.withPcie_sto (s : State) (x : Pcie) : (s.withPcie x).sto = s.sto := rfl
@[simp] theorem State.withPcie_flt (s : State) (x : Pcie) : (s.withPcie x).flt = s.flt := rfl
@[simp] theorem State.withPcie_pwr (s : State) (x : Pcie) : (s.withPcie x).pwr = s.pwr := rfl
@[simp] theorem State.withPcie_lehr (s : State) (x : Pcie) : (s.withPcie x).lehr = s.lehr := rfl
@[simp] theorem State.withPcie_start (s : State) (x : Pcie) : (s.withPcie x).start = s.start := rfl
@[simp] theorem State.withPcie_bst (s : State) (x : Pcie) : (s.withPcie x).bst = s.bst := rfl
@[simp] theorem State.withPcie_otp (s : State) (x : Pcie) : (s.withPcie x).otp = s.otp := rfl
@[simp] theorem State.withPcie_lcs (s : State) (x : Pcie) : (s.withPcie x).lcs = s.lcs := rfl
@[simp] theorem State.withPcie_jtag (s : State) (x : Pcie) : (s.withPcie x).jtag = s.jtag := rfl
@[simp] theorem State.withPcie_dbgReads (s : State) (x : Pcie) : (s.withPcie x).dbgReads = s.dbgReads := rfl
@[simp] theorem State.withPcie_spineOn (s : State) (x : Pcie) : (s.withPcie x).spineOn = s.spineOn := rfl
@[simp] theorem State.withPcie_free (s : State) (x : Pcie) : (s.withPcie x).free = s.free := rfl
@[simp] theorem State.withPcie_out (s : State) (x : Pcie) : (s.withPcie x).out = s.out := rfl
@[simp] theorem State.withBar4_pending (s : State) (x : Tab Byte) : (s.withBar4 x).pending = s.pending := rfl
@[simp] theorem State.withBar4_regs (s : State) (x : Tab Byte) : (s.withBar4 x).regs = s.regs := rfl
@[simp] theorem State.withBar4_latch (s : State) (x : Tab Byte) : (s.withBar4 x).latch = s.latch := rfl
@[simp] theorem State.withBar4_shadow (s : State) (x : Tab Byte) : (s.withBar4 x).shadow = s.shadow := rfl
@[simp] theorem State.withBar4_steps (s : State) (x : Tab Byte) : (s.withBar4 x).steps = s.steps := rfl
@[simp] theorem State.withBar4_routes (s : State) (x : Tab Byte) : (s.withBar4 x).routes = s.routes := rfl
@[simp] theorem State.withBar4_dm (s : State) (x : Tab Byte) : (s.withBar4 x).dm = s.dm := rfl
@[simp] theorem State.withBar4_dmBad (s : State) (x : Tab Byte) : (s.withBar4 x).dmBad = s.dmBad := rfl
@[simp] theorem State.withBar4_results (s : State) (x : Tab Byte) : (s.withBar4 x).results = s.results := rfl
@[simp] theorem State.withBar4_stamps (s : State) (x : Tab Byte) : (s.withBar4 x).stamps = s.stamps := rfl
@[simp] theorem State.withBar4_gobIn (s : State) (x : Tab Byte) : (s.withBar4 x).gobIn = s.gobIn := rfl
@[simp] theorem State.withBar4_gobOut (s : State) (x : Tab Byte) : (s.withBar4 x).gobOut = s.gobOut := rfl
@[simp] theorem State.withBar4_reqArea (s : State) (x : Tab Byte) : (s.withBar4 x).reqArea = s.reqArea := rfl
@[simp] theorem State.withBar4_retBuf (s : State) (x : Tab Byte) : (s.withBar4 x).retBuf = s.retBuf := rfl
@[simp] theorem State.withBar4_farIn (s : State) (x : Tab Byte) : (s.withBar4 x).farIn = s.farIn := rfl
@[simp] theorem State.withBar4_tiles (s : State) (x : Tab Byte) : (s.withBar4 x).tiles = s.tiles := rfl
@[simp] theorem State.withBar4_gafs (s : State) (x : Tab Byte) : (s.withBar4 x).gafs = s.gafs := rfl
@[simp] theorem State.withBar4_ports (s : State) (x : Tab Byte) : (s.withBar4 x).ports = s.ports := rfl
@[simp] theorem State.withBar4_hbm (s : State) (x : Tab Byte) : (s.withBar4 x).hbm = s.hbm := rfl
@[simp] theorem State.withBar4_hbmBad (s : State) (x : Tab Byte) : (s.withBar4 x).hbmBad = s.hbmBad := rfl
@[simp] theorem State.withBar4_hbmSoft (s : State) (x : Tab Byte) : (s.withBar4 x).hbmSoft = s.hbmSoft := rfl
@[simp] theorem State.withBar4_tb (s : State) (x : Tab Byte) : (s.withBar4 x).tb = s.tb := rfl
@[simp] theorem State.withBar4_irc (s : State) (x : Tab Byte) : (s.withBar4 x).irc = s.irc := rfl
@[simp] theorem State.withBar4_pbs (s : State) (x : Tab Byte) : (s.withBar4 x).pbs = s.pbs := rfl
@[simp] theorem State.withBar4_mrv (s : State) (x : Tab Byte) : (s.withBar4 x).mrv = s.mrv := rfl
@[simp] theorem State.withBar4_rings (s : State) (x : Tab Byte) : (s.withBar4 x).rings = s.rings := rfl
@[simp] theorem State.withBar4_strobes (s : State) (x : Tab Byte) : (s.withBar4 x).strobes = s.strobes := rfl
@[simp] theorem State.withBar4_discardEv (s : State) (x : Tab Byte) : (s.withBar4 x).discardEv = s.discardEv := rfl
@[simp] theorem State.withBar4_slots (s : State) (x : Tab Byte) : (s.withBar4 x).slots = s.slots := rfl
@[simp] theorem State.withBar4_noc (s : State) (x : Tab Byte) : (s.withBar4 x).noc = s.noc := rfl
@[simp] theorem State.withBar4_dma (s : State) (x : Tab Byte) : (s.withBar4 x).dma = s.dma := rfl
@[simp] theorem State.withBar4_fab (s : State) (x : Tab Byte) : (s.withBar4 x).fab = s.fab := rfl
@[simp] theorem State.withBar4_mbx (s : State) (x : Tab Byte) : (s.withBar4 x).mbx = s.mbx := rfl
@[simp] theorem State.withBar4_pcie (s : State) (x : Tab Byte) : (s.withBar4 x).pcie = s.pcie := rfl
@[simp] theorem State.withBar4_bar4 (s : State) (x : Tab Byte) : (s.withBar4 x).bar4 = x := rfl
@[simp] theorem State.withBar4_hbmHeld (s : State) (x : Tab Byte) : (s.withBar4 x).hbmHeld = s.hbmHeld := rfl
@[simp] theorem State.withBar4_eth (s : State) (x : Tab Byte) : (s.withBar4 x).eth = s.eth := rfl
@[simp] theorem State.withBar4_mcLog (s : State) (x : Tab Byte) : (s.withBar4 x).mcLog = s.mcLog := rfl
@[simp] theorem State.withBar4_evtSent (s : State) (x : Tab Byte) : (s.withBar4 x).evtSent = s.evtSent := rfl
@[simp] theorem State.withBar4_cstore (s : State) (x : Tab Byte) : (s.withBar4 x).cstore = s.cstore := rfl
@[simp] theorem State.withBar4_ldr (s : State) (x : Tab Byte) : (s.withBar4 x).ldr = s.ldr := rfl
@[simp] theorem State.withBar4_nand (s : State) (x : Tab Byte) : (s.withBar4 x).nand = s.nand := rfl
@[simp] theorem State.withBar4_sto (s : State) (x : Tab Byte) : (s.withBar4 x).sto = s.sto := rfl
@[simp] theorem State.withBar4_flt (s : State) (x : Tab Byte) : (s.withBar4 x).flt = s.flt := rfl
@[simp] theorem State.withBar4_pwr (s : State) (x : Tab Byte) : (s.withBar4 x).pwr = s.pwr := rfl
@[simp] theorem State.withBar4_lehr (s : State) (x : Tab Byte) : (s.withBar4 x).lehr = s.lehr := rfl
@[simp] theorem State.withBar4_start (s : State) (x : Tab Byte) : (s.withBar4 x).start = s.start := rfl
@[simp] theorem State.withBar4_bst (s : State) (x : Tab Byte) : (s.withBar4 x).bst = s.bst := rfl
@[simp] theorem State.withBar4_otp (s : State) (x : Tab Byte) : (s.withBar4 x).otp = s.otp := rfl
@[simp] theorem State.withBar4_lcs (s : State) (x : Tab Byte) : (s.withBar4 x).lcs = s.lcs := rfl
@[simp] theorem State.withBar4_jtag (s : State) (x : Tab Byte) : (s.withBar4 x).jtag = s.jtag := rfl
@[simp] theorem State.withBar4_dbgReads (s : State) (x : Tab Byte) : (s.withBar4 x).dbgReads = s.dbgReads := rfl
@[simp] theorem State.withBar4_spineOn (s : State) (x : Tab Byte) : (s.withBar4 x).spineOn = s.spineOn := rfl
@[simp] theorem State.withBar4_free (s : State) (x : Tab Byte) : (s.withBar4 x).free = s.free := rfl
@[simp] theorem State.withBar4_out (s : State) (x : Tab Byte) : (s.withBar4 x).out = s.out := rfl
@[simp] theorem State.withHbmHeld_pending (s : State) (x : List Held2) : (s.withHbmHeld x).pending = s.pending := rfl
@[simp] theorem State.withHbmHeld_regs (s : State) (x : List Held2) : (s.withHbmHeld x).regs = s.regs := rfl
@[simp] theorem State.withHbmHeld_latch (s : State) (x : List Held2) : (s.withHbmHeld x).latch = s.latch := rfl
@[simp] theorem State.withHbmHeld_shadow (s : State) (x : List Held2) : (s.withHbmHeld x).shadow = s.shadow := rfl
@[simp] theorem State.withHbmHeld_steps (s : State) (x : List Held2) : (s.withHbmHeld x).steps = s.steps := rfl
@[simp] theorem State.withHbmHeld_routes (s : State) (x : List Held2) : (s.withHbmHeld x).routes = s.routes := rfl
@[simp] theorem State.withHbmHeld_dm (s : State) (x : List Held2) : (s.withHbmHeld x).dm = s.dm := rfl
@[simp] theorem State.withHbmHeld_dmBad (s : State) (x : List Held2) : (s.withHbmHeld x).dmBad = s.dmBad := rfl
@[simp] theorem State.withHbmHeld_results (s : State) (x : List Held2) : (s.withHbmHeld x).results = s.results := rfl
@[simp] theorem State.withHbmHeld_stamps (s : State) (x : List Held2) : (s.withHbmHeld x).stamps = s.stamps := rfl
@[simp] theorem State.withHbmHeld_gobIn (s : State) (x : List Held2) : (s.withHbmHeld x).gobIn = s.gobIn := rfl
@[simp] theorem State.withHbmHeld_gobOut (s : State) (x : List Held2) : (s.withHbmHeld x).gobOut = s.gobOut := rfl
@[simp] theorem State.withHbmHeld_reqArea (s : State) (x : List Held2) : (s.withHbmHeld x).reqArea = s.reqArea := rfl
@[simp] theorem State.withHbmHeld_retBuf (s : State) (x : List Held2) : (s.withHbmHeld x).retBuf = s.retBuf := rfl
@[simp] theorem State.withHbmHeld_farIn (s : State) (x : List Held2) : (s.withHbmHeld x).farIn = s.farIn := rfl
@[simp] theorem State.withHbmHeld_tiles (s : State) (x : List Held2) : (s.withHbmHeld x).tiles = s.tiles := rfl
@[simp] theorem State.withHbmHeld_gafs (s : State) (x : List Held2) : (s.withHbmHeld x).gafs = s.gafs := rfl
@[simp] theorem State.withHbmHeld_ports (s : State) (x : List Held2) : (s.withHbmHeld x).ports = s.ports := rfl
@[simp] theorem State.withHbmHeld_hbm (s : State) (x : List Held2) : (s.withHbmHeld x).hbm = s.hbm := rfl
@[simp] theorem State.withHbmHeld_hbmBad (s : State) (x : List Held2) : (s.withHbmHeld x).hbmBad = s.hbmBad := rfl
@[simp] theorem State.withHbmHeld_hbmSoft (s : State) (x : List Held2) : (s.withHbmHeld x).hbmSoft = s.hbmSoft := rfl
@[simp] theorem State.withHbmHeld_tb (s : State) (x : List Held2) : (s.withHbmHeld x).tb = s.tb := rfl
@[simp] theorem State.withHbmHeld_irc (s : State) (x : List Held2) : (s.withHbmHeld x).irc = s.irc := rfl
@[simp] theorem State.withHbmHeld_pbs (s : State) (x : List Held2) : (s.withHbmHeld x).pbs = s.pbs := rfl
@[simp] theorem State.withHbmHeld_mrv (s : State) (x : List Held2) : (s.withHbmHeld x).mrv = s.mrv := rfl
@[simp] theorem State.withHbmHeld_rings (s : State) (x : List Held2) : (s.withHbmHeld x).rings = s.rings := rfl
@[simp] theorem State.withHbmHeld_strobes (s : State) (x : List Held2) : (s.withHbmHeld x).strobes = s.strobes := rfl
@[simp] theorem State.withHbmHeld_discardEv (s : State) (x : List Held2) : (s.withHbmHeld x).discardEv = s.discardEv := rfl
@[simp] theorem State.withHbmHeld_slots (s : State) (x : List Held2) : (s.withHbmHeld x).slots = s.slots := rfl
@[simp] theorem State.withHbmHeld_noc (s : State) (x : List Held2) : (s.withHbmHeld x).noc = s.noc := rfl
@[simp] theorem State.withHbmHeld_dma (s : State) (x : List Held2) : (s.withHbmHeld x).dma = s.dma := rfl
@[simp] theorem State.withHbmHeld_fab (s : State) (x : List Held2) : (s.withHbmHeld x).fab = s.fab := rfl
@[simp] theorem State.withHbmHeld_mbx (s : State) (x : List Held2) : (s.withHbmHeld x).mbx = s.mbx := rfl
@[simp] theorem State.withHbmHeld_pcie (s : State) (x : List Held2) : (s.withHbmHeld x).pcie = s.pcie := rfl
@[simp] theorem State.withHbmHeld_bar4 (s : State) (x : List Held2) : (s.withHbmHeld x).bar4 = s.bar4 := rfl
@[simp] theorem State.withHbmHeld_hbmHeld (s : State) (x : List Held2) : (s.withHbmHeld x).hbmHeld = x := rfl
@[simp] theorem State.withHbmHeld_eth (s : State) (x : List Held2) : (s.withHbmHeld x).eth = s.eth := rfl
@[simp] theorem State.withHbmHeld_mcLog (s : State) (x : List Held2) : (s.withHbmHeld x).mcLog = s.mcLog := rfl
@[simp] theorem State.withHbmHeld_evtSent (s : State) (x : List Held2) : (s.withHbmHeld x).evtSent = s.evtSent := rfl
@[simp] theorem State.withHbmHeld_cstore (s : State) (x : List Held2) : (s.withHbmHeld x).cstore = s.cstore := rfl
@[simp] theorem State.withHbmHeld_ldr (s : State) (x : List Held2) : (s.withHbmHeld x).ldr = s.ldr := rfl
@[simp] theorem State.withHbmHeld_nand (s : State) (x : List Held2) : (s.withHbmHeld x).nand = s.nand := rfl
@[simp] theorem State.withHbmHeld_sto (s : State) (x : List Held2) : (s.withHbmHeld x).sto = s.sto := rfl
@[simp] theorem State.withHbmHeld_flt (s : State) (x : List Held2) : (s.withHbmHeld x).flt = s.flt := rfl
@[simp] theorem State.withHbmHeld_pwr (s : State) (x : List Held2) : (s.withHbmHeld x).pwr = s.pwr := rfl
@[simp] theorem State.withHbmHeld_lehr (s : State) (x : List Held2) : (s.withHbmHeld x).lehr = s.lehr := rfl
@[simp] theorem State.withHbmHeld_start (s : State) (x : List Held2) : (s.withHbmHeld x).start = s.start := rfl
@[simp] theorem State.withHbmHeld_bst (s : State) (x : List Held2) : (s.withHbmHeld x).bst = s.bst := rfl
@[simp] theorem State.withHbmHeld_otp (s : State) (x : List Held2) : (s.withHbmHeld x).otp = s.otp := rfl
@[simp] theorem State.withHbmHeld_lcs (s : State) (x : List Held2) : (s.withHbmHeld x).lcs = s.lcs := rfl
@[simp] theorem State.withHbmHeld_jtag (s : State) (x : List Held2) : (s.withHbmHeld x).jtag = s.jtag := rfl
@[simp] theorem State.withHbmHeld_dbgReads (s : State) (x : List Held2) : (s.withHbmHeld x).dbgReads = s.dbgReads := rfl
@[simp] theorem State.withHbmHeld_spineOn (s : State) (x : List Held2) : (s.withHbmHeld x).spineOn = s.spineOn := rfl
@[simp] theorem State.withHbmHeld_free (s : State) (x : List Held2) : (s.withHbmHeld x).free = s.free := rfl
@[simp] theorem State.withHbmHeld_out (s : State) (x : List Held2) : (s.withHbmHeld x).out = s.out := rfl
@[simp] theorem State.withEth_pending (s : State) (x : Tab EthPort) : (s.withEth x).pending = s.pending := rfl
@[simp] theorem State.withEth_regs (s : State) (x : Tab EthPort) : (s.withEth x).regs = s.regs := rfl
@[simp] theorem State.withEth_latch (s : State) (x : Tab EthPort) : (s.withEth x).latch = s.latch := rfl
@[simp] theorem State.withEth_shadow (s : State) (x : Tab EthPort) : (s.withEth x).shadow = s.shadow := rfl
@[simp] theorem State.withEth_steps (s : State) (x : Tab EthPort) : (s.withEth x).steps = s.steps := rfl
@[simp] theorem State.withEth_routes (s : State) (x : Tab EthPort) : (s.withEth x).routes = s.routes := rfl
@[simp] theorem State.withEth_dm (s : State) (x : Tab EthPort) : (s.withEth x).dm = s.dm := rfl
@[simp] theorem State.withEth_dmBad (s : State) (x : Tab EthPort) : (s.withEth x).dmBad = s.dmBad := rfl
@[simp] theorem State.withEth_results (s : State) (x : Tab EthPort) : (s.withEth x).results = s.results := rfl
@[simp] theorem State.withEth_stamps (s : State) (x : Tab EthPort) : (s.withEth x).stamps = s.stamps := rfl
@[simp] theorem State.withEth_gobIn (s : State) (x : Tab EthPort) : (s.withEth x).gobIn = s.gobIn := rfl
@[simp] theorem State.withEth_gobOut (s : State) (x : Tab EthPort) : (s.withEth x).gobOut = s.gobOut := rfl
@[simp] theorem State.withEth_reqArea (s : State) (x : Tab EthPort) : (s.withEth x).reqArea = s.reqArea := rfl
@[simp] theorem State.withEth_retBuf (s : State) (x : Tab EthPort) : (s.withEth x).retBuf = s.retBuf := rfl
@[simp] theorem State.withEth_farIn (s : State) (x : Tab EthPort) : (s.withEth x).farIn = s.farIn := rfl
@[simp] theorem State.withEth_tiles (s : State) (x : Tab EthPort) : (s.withEth x).tiles = s.tiles := rfl
@[simp] theorem State.withEth_gafs (s : State) (x : Tab EthPort) : (s.withEth x).gafs = s.gafs := rfl
@[simp] theorem State.withEth_ports (s : State) (x : Tab EthPort) : (s.withEth x).ports = s.ports := rfl
@[simp] theorem State.withEth_hbm (s : State) (x : Tab EthPort) : (s.withEth x).hbm = s.hbm := rfl
@[simp] theorem State.withEth_hbmBad (s : State) (x : Tab EthPort) : (s.withEth x).hbmBad = s.hbmBad := rfl
@[simp] theorem State.withEth_hbmSoft (s : State) (x : Tab EthPort) : (s.withEth x).hbmSoft = s.hbmSoft := rfl
@[simp] theorem State.withEth_tb (s : State) (x : Tab EthPort) : (s.withEth x).tb = s.tb := rfl
@[simp] theorem State.withEth_irc (s : State) (x : Tab EthPort) : (s.withEth x).irc = s.irc := rfl
@[simp] theorem State.withEth_pbs (s : State) (x : Tab EthPort) : (s.withEth x).pbs = s.pbs := rfl
@[simp] theorem State.withEth_mrv (s : State) (x : Tab EthPort) : (s.withEth x).mrv = s.mrv := rfl
@[simp] theorem State.withEth_rings (s : State) (x : Tab EthPort) : (s.withEth x).rings = s.rings := rfl
@[simp] theorem State.withEth_strobes (s : State) (x : Tab EthPort) : (s.withEth x).strobes = s.strobes := rfl
@[simp] theorem State.withEth_discardEv (s : State) (x : Tab EthPort) : (s.withEth x).discardEv = s.discardEv := rfl
@[simp] theorem State.withEth_slots (s : State) (x : Tab EthPort) : (s.withEth x).slots = s.slots := rfl
@[simp] theorem State.withEth_noc (s : State) (x : Tab EthPort) : (s.withEth x).noc = s.noc := rfl
@[simp] theorem State.withEth_dma (s : State) (x : Tab EthPort) : (s.withEth x).dma = s.dma := rfl
@[simp] theorem State.withEth_fab (s : State) (x : Tab EthPort) : (s.withEth x).fab = s.fab := rfl
@[simp] theorem State.withEth_mbx (s : State) (x : Tab EthPort) : (s.withEth x).mbx = s.mbx := rfl
@[simp] theorem State.withEth_pcie (s : State) (x : Tab EthPort) : (s.withEth x).pcie = s.pcie := rfl
@[simp] theorem State.withEth_bar4 (s : State) (x : Tab EthPort) : (s.withEth x).bar4 = s.bar4 := rfl
@[simp] theorem State.withEth_hbmHeld (s : State) (x : Tab EthPort) : (s.withEth x).hbmHeld = s.hbmHeld := rfl
@[simp] theorem State.withEth_eth (s : State) (x : Tab EthPort) : (s.withEth x).eth = x := rfl
@[simp] theorem State.withEth_mcLog (s : State) (x : Tab EthPort) : (s.withEth x).mcLog = s.mcLog := rfl
@[simp] theorem State.withEth_evtSent (s : State) (x : Tab EthPort) : (s.withEth x).evtSent = s.evtSent := rfl
@[simp] theorem State.withEth_cstore (s : State) (x : Tab EthPort) : (s.withEth x).cstore = s.cstore := rfl
@[simp] theorem State.withEth_ldr (s : State) (x : Tab EthPort) : (s.withEth x).ldr = s.ldr := rfl
@[simp] theorem State.withEth_nand (s : State) (x : Tab EthPort) : (s.withEth x).nand = s.nand := rfl
@[simp] theorem State.withEth_sto (s : State) (x : Tab EthPort) : (s.withEth x).sto = s.sto := rfl
@[simp] theorem State.withEth_flt (s : State) (x : Tab EthPort) : (s.withEth x).flt = s.flt := rfl
@[simp] theorem State.withEth_pwr (s : State) (x : Tab EthPort) : (s.withEth x).pwr = s.pwr := rfl
@[simp] theorem State.withEth_lehr (s : State) (x : Tab EthPort) : (s.withEth x).lehr = s.lehr := rfl
@[simp] theorem State.withEth_start (s : State) (x : Tab EthPort) : (s.withEth x).start = s.start := rfl
@[simp] theorem State.withEth_bst (s : State) (x : Tab EthPort) : (s.withEth x).bst = s.bst := rfl
@[simp] theorem State.withEth_otp (s : State) (x : Tab EthPort) : (s.withEth x).otp = s.otp := rfl
@[simp] theorem State.withEth_lcs (s : State) (x : Tab EthPort) : (s.withEth x).lcs = s.lcs := rfl
@[simp] theorem State.withEth_jtag (s : State) (x : Tab EthPort) : (s.withEth x).jtag = s.jtag := rfl
@[simp] theorem State.withEth_dbgReads (s : State) (x : Tab EthPort) : (s.withEth x).dbgReads = s.dbgReads := rfl
@[simp] theorem State.withEth_spineOn (s : State) (x : Tab EthPort) : (s.withEth x).spineOn = s.spineOn := rfl
@[simp] theorem State.withEth_free (s : State) (x : Tab EthPort) : (s.withEth x).free = s.free := rfl
@[simp] theorem State.withEth_out (s : State) (x : Tab EthPort) : (s.withEth x).out = s.out := rfl
@[simp] theorem State.withMcLog_pending (s : State) (x : List Nat) : (s.withMcLog x).pending = s.pending := rfl
@[simp] theorem State.withMcLog_regs (s : State) (x : List Nat) : (s.withMcLog x).regs = s.regs := rfl
@[simp] theorem State.withMcLog_latch (s : State) (x : List Nat) : (s.withMcLog x).latch = s.latch := rfl
@[simp] theorem State.withMcLog_shadow (s : State) (x : List Nat) : (s.withMcLog x).shadow = s.shadow := rfl
@[simp] theorem State.withMcLog_steps (s : State) (x : List Nat) : (s.withMcLog x).steps = s.steps := rfl
@[simp] theorem State.withMcLog_routes (s : State) (x : List Nat) : (s.withMcLog x).routes = s.routes := rfl
@[simp] theorem State.withMcLog_dm (s : State) (x : List Nat) : (s.withMcLog x).dm = s.dm := rfl
@[simp] theorem State.withMcLog_dmBad (s : State) (x : List Nat) : (s.withMcLog x).dmBad = s.dmBad := rfl
@[simp] theorem State.withMcLog_results (s : State) (x : List Nat) : (s.withMcLog x).results = s.results := rfl
@[simp] theorem State.withMcLog_stamps (s : State) (x : List Nat) : (s.withMcLog x).stamps = s.stamps := rfl
@[simp] theorem State.withMcLog_gobIn (s : State) (x : List Nat) : (s.withMcLog x).gobIn = s.gobIn := rfl
@[simp] theorem State.withMcLog_gobOut (s : State) (x : List Nat) : (s.withMcLog x).gobOut = s.gobOut := rfl
@[simp] theorem State.withMcLog_reqArea (s : State) (x : List Nat) : (s.withMcLog x).reqArea = s.reqArea := rfl
@[simp] theorem State.withMcLog_retBuf (s : State) (x : List Nat) : (s.withMcLog x).retBuf = s.retBuf := rfl
@[simp] theorem State.withMcLog_farIn (s : State) (x : List Nat) : (s.withMcLog x).farIn = s.farIn := rfl
@[simp] theorem State.withMcLog_tiles (s : State) (x : List Nat) : (s.withMcLog x).tiles = s.tiles := rfl
@[simp] theorem State.withMcLog_gafs (s : State) (x : List Nat) : (s.withMcLog x).gafs = s.gafs := rfl
@[simp] theorem State.withMcLog_ports (s : State) (x : List Nat) : (s.withMcLog x).ports = s.ports := rfl
@[simp] theorem State.withMcLog_hbm (s : State) (x : List Nat) : (s.withMcLog x).hbm = s.hbm := rfl
@[simp] theorem State.withMcLog_hbmBad (s : State) (x : List Nat) : (s.withMcLog x).hbmBad = s.hbmBad := rfl
@[simp] theorem State.withMcLog_hbmSoft (s : State) (x : List Nat) : (s.withMcLog x).hbmSoft = s.hbmSoft := rfl
@[simp] theorem State.withMcLog_tb (s : State) (x : List Nat) : (s.withMcLog x).tb = s.tb := rfl
@[simp] theorem State.withMcLog_irc (s : State) (x : List Nat) : (s.withMcLog x).irc = s.irc := rfl
@[simp] theorem State.withMcLog_pbs (s : State) (x : List Nat) : (s.withMcLog x).pbs = s.pbs := rfl
@[simp] theorem State.withMcLog_mrv (s : State) (x : List Nat) : (s.withMcLog x).mrv = s.mrv := rfl
@[simp] theorem State.withMcLog_rings (s : State) (x : List Nat) : (s.withMcLog x).rings = s.rings := rfl
@[simp] theorem State.withMcLog_strobes (s : State) (x : List Nat) : (s.withMcLog x).strobes = s.strobes := rfl
@[simp] theorem State.withMcLog_discardEv (s : State) (x : List Nat) : (s.withMcLog x).discardEv = s.discardEv := rfl
@[simp] theorem State.withMcLog_slots (s : State) (x : List Nat) : (s.withMcLog x).slots = s.slots := rfl
@[simp] theorem State.withMcLog_noc (s : State) (x : List Nat) : (s.withMcLog x).noc = s.noc := rfl
@[simp] theorem State.withMcLog_dma (s : State) (x : List Nat) : (s.withMcLog x).dma = s.dma := rfl
@[simp] theorem State.withMcLog_fab (s : State) (x : List Nat) : (s.withMcLog x).fab = s.fab := rfl
@[simp] theorem State.withMcLog_mbx (s : State) (x : List Nat) : (s.withMcLog x).mbx = s.mbx := rfl
@[simp] theorem State.withMcLog_pcie (s : State) (x : List Nat) : (s.withMcLog x).pcie = s.pcie := rfl
@[simp] theorem State.withMcLog_bar4 (s : State) (x : List Nat) : (s.withMcLog x).bar4 = s.bar4 := rfl
@[simp] theorem State.withMcLog_hbmHeld (s : State) (x : List Nat) : (s.withMcLog x).hbmHeld = s.hbmHeld := rfl
@[simp] theorem State.withMcLog_eth (s : State) (x : List Nat) : (s.withMcLog x).eth = s.eth := rfl
@[simp] theorem State.withMcLog_mcLog (s : State) (x : List Nat) : (s.withMcLog x).mcLog = x := rfl
@[simp] theorem State.withMcLog_evtSent (s : State) (x : List Nat) : (s.withMcLog x).evtSent = s.evtSent := rfl
@[simp] theorem State.withMcLog_cstore (s : State) (x : List Nat) : (s.withMcLog x).cstore = s.cstore := rfl
@[simp] theorem State.withMcLog_ldr (s : State) (x : List Nat) : (s.withMcLog x).ldr = s.ldr := rfl
@[simp] theorem State.withMcLog_nand (s : State) (x : List Nat) : (s.withMcLog x).nand = s.nand := rfl
@[simp] theorem State.withMcLog_sto (s : State) (x : List Nat) : (s.withMcLog x).sto = s.sto := rfl
@[simp] theorem State.withMcLog_flt (s : State) (x : List Nat) : (s.withMcLog x).flt = s.flt := rfl
@[simp] theorem State.withMcLog_pwr (s : State) (x : List Nat) : (s.withMcLog x).pwr = s.pwr := rfl
@[simp] theorem State.withMcLog_lehr (s : State) (x : List Nat) : (s.withMcLog x).lehr = s.lehr := rfl
@[simp] theorem State.withMcLog_start (s : State) (x : List Nat) : (s.withMcLog x).start = s.start := rfl
@[simp] theorem State.withMcLog_bst (s : State) (x : List Nat) : (s.withMcLog x).bst = s.bst := rfl
@[simp] theorem State.withMcLog_otp (s : State) (x : List Nat) : (s.withMcLog x).otp = s.otp := rfl
@[simp] theorem State.withMcLog_lcs (s : State) (x : List Nat) : (s.withMcLog x).lcs = s.lcs := rfl
@[simp] theorem State.withMcLog_jtag (s : State) (x : List Nat) : (s.withMcLog x).jtag = s.jtag := rfl
@[simp] theorem State.withMcLog_dbgReads (s : State) (x : List Nat) : (s.withMcLog x).dbgReads = s.dbgReads := rfl
@[simp] theorem State.withMcLog_spineOn (s : State) (x : List Nat) : (s.withMcLog x).spineOn = s.spineOn := rfl
@[simp] theorem State.withMcLog_free (s : State) (x : List Nat) : (s.withMcLog x).free = s.free := rfl
@[simp] theorem State.withMcLog_out (s : State) (x : List Nat) : (s.withMcLog x).out = s.out := rfl
@[simp] theorem State.withEvtSent_pending (s : State) (x : Tab Nat) : (s.withEvtSent x).pending = s.pending := rfl
@[simp] theorem State.withEvtSent_regs (s : State) (x : Tab Nat) : (s.withEvtSent x).regs = s.regs := rfl
@[simp] theorem State.withEvtSent_latch (s : State) (x : Tab Nat) : (s.withEvtSent x).latch = s.latch := rfl
@[simp] theorem State.withEvtSent_shadow (s : State) (x : Tab Nat) : (s.withEvtSent x).shadow = s.shadow := rfl
@[simp] theorem State.withEvtSent_steps (s : State) (x : Tab Nat) : (s.withEvtSent x).steps = s.steps := rfl
@[simp] theorem State.withEvtSent_routes (s : State) (x : Tab Nat) : (s.withEvtSent x).routes = s.routes := rfl
@[simp] theorem State.withEvtSent_dm (s : State) (x : Tab Nat) : (s.withEvtSent x).dm = s.dm := rfl
@[simp] theorem State.withEvtSent_dmBad (s : State) (x : Tab Nat) : (s.withEvtSent x).dmBad = s.dmBad := rfl
@[simp] theorem State.withEvtSent_results (s : State) (x : Tab Nat) : (s.withEvtSent x).results = s.results := rfl
@[simp] theorem State.withEvtSent_stamps (s : State) (x : Tab Nat) : (s.withEvtSent x).stamps = s.stamps := rfl
@[simp] theorem State.withEvtSent_gobIn (s : State) (x : Tab Nat) : (s.withEvtSent x).gobIn = s.gobIn := rfl
@[simp] theorem State.withEvtSent_gobOut (s : State) (x : Tab Nat) : (s.withEvtSent x).gobOut = s.gobOut := rfl
@[simp] theorem State.withEvtSent_reqArea (s : State) (x : Tab Nat) : (s.withEvtSent x).reqArea = s.reqArea := rfl
@[simp] theorem State.withEvtSent_retBuf (s : State) (x : Tab Nat) : (s.withEvtSent x).retBuf = s.retBuf := rfl
@[simp] theorem State.withEvtSent_farIn (s : State) (x : Tab Nat) : (s.withEvtSent x).farIn = s.farIn := rfl
@[simp] theorem State.withEvtSent_tiles (s : State) (x : Tab Nat) : (s.withEvtSent x).tiles = s.tiles := rfl
@[simp] theorem State.withEvtSent_gafs (s : State) (x : Tab Nat) : (s.withEvtSent x).gafs = s.gafs := rfl
@[simp] theorem State.withEvtSent_ports (s : State) (x : Tab Nat) : (s.withEvtSent x).ports = s.ports := rfl
@[simp] theorem State.withEvtSent_hbm (s : State) (x : Tab Nat) : (s.withEvtSent x).hbm = s.hbm := rfl
@[simp] theorem State.withEvtSent_hbmBad (s : State) (x : Tab Nat) : (s.withEvtSent x).hbmBad = s.hbmBad := rfl
@[simp] theorem State.withEvtSent_hbmSoft (s : State) (x : Tab Nat) : (s.withEvtSent x).hbmSoft = s.hbmSoft := rfl
@[simp] theorem State.withEvtSent_tb (s : State) (x : Tab Nat) : (s.withEvtSent x).tb = s.tb := rfl
@[simp] theorem State.withEvtSent_irc (s : State) (x : Tab Nat) : (s.withEvtSent x).irc = s.irc := rfl
@[simp] theorem State.withEvtSent_pbs (s : State) (x : Tab Nat) : (s.withEvtSent x).pbs = s.pbs := rfl
@[simp] theorem State.withEvtSent_mrv (s : State) (x : Tab Nat) : (s.withEvtSent x).mrv = s.mrv := rfl
@[simp] theorem State.withEvtSent_rings (s : State) (x : Tab Nat) : (s.withEvtSent x).rings = s.rings := rfl
@[simp] theorem State.withEvtSent_strobes (s : State) (x : Tab Nat) : (s.withEvtSent x).strobes = s.strobes := rfl
@[simp] theorem State.withEvtSent_discardEv (s : State) (x : Tab Nat) : (s.withEvtSent x).discardEv = s.discardEv := rfl
@[simp] theorem State.withEvtSent_slots (s : State) (x : Tab Nat) : (s.withEvtSent x).slots = s.slots := rfl
@[simp] theorem State.withEvtSent_noc (s : State) (x : Tab Nat) : (s.withEvtSent x).noc = s.noc := rfl
@[simp] theorem State.withEvtSent_dma (s : State) (x : Tab Nat) : (s.withEvtSent x).dma = s.dma := rfl
@[simp] theorem State.withEvtSent_fab (s : State) (x : Tab Nat) : (s.withEvtSent x).fab = s.fab := rfl
@[simp] theorem State.withEvtSent_mbx (s : State) (x : Tab Nat) : (s.withEvtSent x).mbx = s.mbx := rfl
@[simp] theorem State.withEvtSent_pcie (s : State) (x : Tab Nat) : (s.withEvtSent x).pcie = s.pcie := rfl
@[simp] theorem State.withEvtSent_bar4 (s : State) (x : Tab Nat) : (s.withEvtSent x).bar4 = s.bar4 := rfl
@[simp] theorem State.withEvtSent_hbmHeld (s : State) (x : Tab Nat) : (s.withEvtSent x).hbmHeld = s.hbmHeld := rfl
@[simp] theorem State.withEvtSent_eth (s : State) (x : Tab Nat) : (s.withEvtSent x).eth = s.eth := rfl
@[simp] theorem State.withEvtSent_mcLog (s : State) (x : Tab Nat) : (s.withEvtSent x).mcLog = s.mcLog := rfl
@[simp] theorem State.withEvtSent_evtSent (s : State) (x : Tab Nat) : (s.withEvtSent x).evtSent = x := rfl
@[simp] theorem State.withEvtSent_cstore (s : State) (x : Tab Nat) : (s.withEvtSent x).cstore = s.cstore := rfl
@[simp] theorem State.withEvtSent_ldr (s : State) (x : Tab Nat) : (s.withEvtSent x).ldr = s.ldr := rfl
@[simp] theorem State.withEvtSent_nand (s : State) (x : Tab Nat) : (s.withEvtSent x).nand = s.nand := rfl
@[simp] theorem State.withEvtSent_sto (s : State) (x : Tab Nat) : (s.withEvtSent x).sto = s.sto := rfl
@[simp] theorem State.withEvtSent_flt (s : State) (x : Tab Nat) : (s.withEvtSent x).flt = s.flt := rfl
@[simp] theorem State.withEvtSent_pwr (s : State) (x : Tab Nat) : (s.withEvtSent x).pwr = s.pwr := rfl
@[simp] theorem State.withEvtSent_lehr (s : State) (x : Tab Nat) : (s.withEvtSent x).lehr = s.lehr := rfl
@[simp] theorem State.withEvtSent_start (s : State) (x : Tab Nat) : (s.withEvtSent x).start = s.start := rfl
@[simp] theorem State.withEvtSent_bst (s : State) (x : Tab Nat) : (s.withEvtSent x).bst = s.bst := rfl
@[simp] theorem State.withEvtSent_otp (s : State) (x : Tab Nat) : (s.withEvtSent x).otp = s.otp := rfl
@[simp] theorem State.withEvtSent_lcs (s : State) (x : Tab Nat) : (s.withEvtSent x).lcs = s.lcs := rfl
@[simp] theorem State.withEvtSent_jtag (s : State) (x : Tab Nat) : (s.withEvtSent x).jtag = s.jtag := rfl
@[simp] theorem State.withEvtSent_dbgReads (s : State) (x : Tab Nat) : (s.withEvtSent x).dbgReads = s.dbgReads := rfl
@[simp] theorem State.withEvtSent_spineOn (s : State) (x : Tab Nat) : (s.withEvtSent x).spineOn = s.spineOn := rfl
@[simp] theorem State.withEvtSent_free (s : State) (x : Tab Nat) : (s.withEvtSent x).free = s.free := rfl
@[simp] theorem State.withEvtSent_out (s : State) (x : Tab Nat) : (s.withEvtSent x).out = s.out := rfl
@[simp] theorem State.withCstore_pending (s : State) (x : CStore) : (s.withCstore x).pending = s.pending := rfl
@[simp] theorem State.withCstore_regs (s : State) (x : CStore) : (s.withCstore x).regs = s.regs := rfl
@[simp] theorem State.withCstore_latch (s : State) (x : CStore) : (s.withCstore x).latch = s.latch := rfl
@[simp] theorem State.withCstore_shadow (s : State) (x : CStore) : (s.withCstore x).shadow = s.shadow := rfl
@[simp] theorem State.withCstore_steps (s : State) (x : CStore) : (s.withCstore x).steps = s.steps := rfl
@[simp] theorem State.withCstore_routes (s : State) (x : CStore) : (s.withCstore x).routes = s.routes := rfl
@[simp] theorem State.withCstore_dm (s : State) (x : CStore) : (s.withCstore x).dm = s.dm := rfl
@[simp] theorem State.withCstore_dmBad (s : State) (x : CStore) : (s.withCstore x).dmBad = s.dmBad := rfl
@[simp] theorem State.withCstore_results (s : State) (x : CStore) : (s.withCstore x).results = s.results := rfl
@[simp] theorem State.withCstore_stamps (s : State) (x : CStore) : (s.withCstore x).stamps = s.stamps := rfl
@[simp] theorem State.withCstore_gobIn (s : State) (x : CStore) : (s.withCstore x).gobIn = s.gobIn := rfl
@[simp] theorem State.withCstore_gobOut (s : State) (x : CStore) : (s.withCstore x).gobOut = s.gobOut := rfl
@[simp] theorem State.withCstore_reqArea (s : State) (x : CStore) : (s.withCstore x).reqArea = s.reqArea := rfl
@[simp] theorem State.withCstore_retBuf (s : State) (x : CStore) : (s.withCstore x).retBuf = s.retBuf := rfl
@[simp] theorem State.withCstore_farIn (s : State) (x : CStore) : (s.withCstore x).farIn = s.farIn := rfl
@[simp] theorem State.withCstore_tiles (s : State) (x : CStore) : (s.withCstore x).tiles = s.tiles := rfl
@[simp] theorem State.withCstore_gafs (s : State) (x : CStore) : (s.withCstore x).gafs = s.gafs := rfl
@[simp] theorem State.withCstore_ports (s : State) (x : CStore) : (s.withCstore x).ports = s.ports := rfl
@[simp] theorem State.withCstore_hbm (s : State) (x : CStore) : (s.withCstore x).hbm = s.hbm := rfl
@[simp] theorem State.withCstore_hbmBad (s : State) (x : CStore) : (s.withCstore x).hbmBad = s.hbmBad := rfl
@[simp] theorem State.withCstore_hbmSoft (s : State) (x : CStore) : (s.withCstore x).hbmSoft = s.hbmSoft := rfl
@[simp] theorem State.withCstore_tb (s : State) (x : CStore) : (s.withCstore x).tb = s.tb := rfl
@[simp] theorem State.withCstore_irc (s : State) (x : CStore) : (s.withCstore x).irc = s.irc := rfl
@[simp] theorem State.withCstore_pbs (s : State) (x : CStore) : (s.withCstore x).pbs = s.pbs := rfl
@[simp] theorem State.withCstore_mrv (s : State) (x : CStore) : (s.withCstore x).mrv = s.mrv := rfl
@[simp] theorem State.withCstore_rings (s : State) (x : CStore) : (s.withCstore x).rings = s.rings := rfl
@[simp] theorem State.withCstore_strobes (s : State) (x : CStore) : (s.withCstore x).strobes = s.strobes := rfl
@[simp] theorem State.withCstore_discardEv (s : State) (x : CStore) : (s.withCstore x).discardEv = s.discardEv := rfl
@[simp] theorem State.withCstore_slots (s : State) (x : CStore) : (s.withCstore x).slots = s.slots := rfl
@[simp] theorem State.withCstore_noc (s : State) (x : CStore) : (s.withCstore x).noc = s.noc := rfl
@[simp] theorem State.withCstore_dma (s : State) (x : CStore) : (s.withCstore x).dma = s.dma := rfl
@[simp] theorem State.withCstore_fab (s : State) (x : CStore) : (s.withCstore x).fab = s.fab := rfl
@[simp] theorem State.withCstore_mbx (s : State) (x : CStore) : (s.withCstore x).mbx = s.mbx := rfl
@[simp] theorem State.withCstore_pcie (s : State) (x : CStore) : (s.withCstore x).pcie = s.pcie := rfl
@[simp] theorem State.withCstore_bar4 (s : State) (x : CStore) : (s.withCstore x).bar4 = s.bar4 := rfl
@[simp] theorem State.withCstore_hbmHeld (s : State) (x : CStore) : (s.withCstore x).hbmHeld = s.hbmHeld := rfl
@[simp] theorem State.withCstore_eth (s : State) (x : CStore) : (s.withCstore x).eth = s.eth := rfl
@[simp] theorem State.withCstore_mcLog (s : State) (x : CStore) : (s.withCstore x).mcLog = s.mcLog := rfl
@[simp] theorem State.withCstore_evtSent (s : State) (x : CStore) : (s.withCstore x).evtSent = s.evtSent := rfl
@[simp] theorem State.withCstore_cstore (s : State) (x : CStore) : (s.withCstore x).cstore = x := rfl
@[simp] theorem State.withCstore_ldr (s : State) (x : CStore) : (s.withCstore x).ldr = s.ldr := rfl
@[simp] theorem State.withCstore_nand (s : State) (x : CStore) : (s.withCstore x).nand = s.nand := rfl
@[simp] theorem State.withCstore_sto (s : State) (x : CStore) : (s.withCstore x).sto = s.sto := rfl
@[simp] theorem State.withCstore_flt (s : State) (x : CStore) : (s.withCstore x).flt = s.flt := rfl
@[simp] theorem State.withCstore_pwr (s : State) (x : CStore) : (s.withCstore x).pwr = s.pwr := rfl
@[simp] theorem State.withCstore_lehr (s : State) (x : CStore) : (s.withCstore x).lehr = s.lehr := rfl
@[simp] theorem State.withCstore_start (s : State) (x : CStore) : (s.withCstore x).start = s.start := rfl
@[simp] theorem State.withCstore_bst (s : State) (x : CStore) : (s.withCstore x).bst = s.bst := rfl
@[simp] theorem State.withCstore_otp (s : State) (x : CStore) : (s.withCstore x).otp = s.otp := rfl
@[simp] theorem State.withCstore_lcs (s : State) (x : CStore) : (s.withCstore x).lcs = s.lcs := rfl
@[simp] theorem State.withCstore_jtag (s : State) (x : CStore) : (s.withCstore x).jtag = s.jtag := rfl
@[simp] theorem State.withCstore_dbgReads (s : State) (x : CStore) : (s.withCstore x).dbgReads = s.dbgReads := rfl
@[simp] theorem State.withCstore_spineOn (s : State) (x : CStore) : (s.withCstore x).spineOn = s.spineOn := rfl
@[simp] theorem State.withCstore_free (s : State) (x : CStore) : (s.withCstore x).free = s.free := rfl
@[simp] theorem State.withCstore_out (s : State) (x : CStore) : (s.withCstore x).out = s.out := rfl
@[simp] theorem State.withLdr_pending (s : State) (x : Loader) : (s.withLdr x).pending = s.pending := rfl
@[simp] theorem State.withLdr_regs (s : State) (x : Loader) : (s.withLdr x).regs = s.regs := rfl
@[simp] theorem State.withLdr_latch (s : State) (x : Loader) : (s.withLdr x).latch = s.latch := rfl
@[simp] theorem State.withLdr_shadow (s : State) (x : Loader) : (s.withLdr x).shadow = s.shadow := rfl
@[simp] theorem State.withLdr_steps (s : State) (x : Loader) : (s.withLdr x).steps = s.steps := rfl
@[simp] theorem State.withLdr_routes (s : State) (x : Loader) : (s.withLdr x).routes = s.routes := rfl
@[simp] theorem State.withLdr_dm (s : State) (x : Loader) : (s.withLdr x).dm = s.dm := rfl
@[simp] theorem State.withLdr_dmBad (s : State) (x : Loader) : (s.withLdr x).dmBad = s.dmBad := rfl
@[simp] theorem State.withLdr_results (s : State) (x : Loader) : (s.withLdr x).results = s.results := rfl
@[simp] theorem State.withLdr_stamps (s : State) (x : Loader) : (s.withLdr x).stamps = s.stamps := rfl
@[simp] theorem State.withLdr_gobIn (s : State) (x : Loader) : (s.withLdr x).gobIn = s.gobIn := rfl
@[simp] theorem State.withLdr_gobOut (s : State) (x : Loader) : (s.withLdr x).gobOut = s.gobOut := rfl
@[simp] theorem State.withLdr_reqArea (s : State) (x : Loader) : (s.withLdr x).reqArea = s.reqArea := rfl
@[simp] theorem State.withLdr_retBuf (s : State) (x : Loader) : (s.withLdr x).retBuf = s.retBuf := rfl
@[simp] theorem State.withLdr_farIn (s : State) (x : Loader) : (s.withLdr x).farIn = s.farIn := rfl
@[simp] theorem State.withLdr_tiles (s : State) (x : Loader) : (s.withLdr x).tiles = s.tiles := rfl
@[simp] theorem State.withLdr_gafs (s : State) (x : Loader) : (s.withLdr x).gafs = s.gafs := rfl
@[simp] theorem State.withLdr_ports (s : State) (x : Loader) : (s.withLdr x).ports = s.ports := rfl
@[simp] theorem State.withLdr_hbm (s : State) (x : Loader) : (s.withLdr x).hbm = s.hbm := rfl
@[simp] theorem State.withLdr_hbmBad (s : State) (x : Loader) : (s.withLdr x).hbmBad = s.hbmBad := rfl
@[simp] theorem State.withLdr_hbmSoft (s : State) (x : Loader) : (s.withLdr x).hbmSoft = s.hbmSoft := rfl
@[simp] theorem State.withLdr_tb (s : State) (x : Loader) : (s.withLdr x).tb = s.tb := rfl
@[simp] theorem State.withLdr_irc (s : State) (x : Loader) : (s.withLdr x).irc = s.irc := rfl
@[simp] theorem State.withLdr_pbs (s : State) (x : Loader) : (s.withLdr x).pbs = s.pbs := rfl
@[simp] theorem State.withLdr_mrv (s : State) (x : Loader) : (s.withLdr x).mrv = s.mrv := rfl
@[simp] theorem State.withLdr_rings (s : State) (x : Loader) : (s.withLdr x).rings = s.rings := rfl
@[simp] theorem State.withLdr_strobes (s : State) (x : Loader) : (s.withLdr x).strobes = s.strobes := rfl
@[simp] theorem State.withLdr_discardEv (s : State) (x : Loader) : (s.withLdr x).discardEv = s.discardEv := rfl
@[simp] theorem State.withLdr_slots (s : State) (x : Loader) : (s.withLdr x).slots = s.slots := rfl
@[simp] theorem State.withLdr_noc (s : State) (x : Loader) : (s.withLdr x).noc = s.noc := rfl
@[simp] theorem State.withLdr_dma (s : State) (x : Loader) : (s.withLdr x).dma = s.dma := rfl
@[simp] theorem State.withLdr_fab (s : State) (x : Loader) : (s.withLdr x).fab = s.fab := rfl
@[simp] theorem State.withLdr_mbx (s : State) (x : Loader) : (s.withLdr x).mbx = s.mbx := rfl
@[simp] theorem State.withLdr_pcie (s : State) (x : Loader) : (s.withLdr x).pcie = s.pcie := rfl
@[simp] theorem State.withLdr_bar4 (s : State) (x : Loader) : (s.withLdr x).bar4 = s.bar4 := rfl
@[simp] theorem State.withLdr_hbmHeld (s : State) (x : Loader) : (s.withLdr x).hbmHeld = s.hbmHeld := rfl
@[simp] theorem State.withLdr_eth (s : State) (x : Loader) : (s.withLdr x).eth = s.eth := rfl
@[simp] theorem State.withLdr_mcLog (s : State) (x : Loader) : (s.withLdr x).mcLog = s.mcLog := rfl
@[simp] theorem State.withLdr_evtSent (s : State) (x : Loader) : (s.withLdr x).evtSent = s.evtSent := rfl
@[simp] theorem State.withLdr_cstore (s : State) (x : Loader) : (s.withLdr x).cstore = s.cstore := rfl
@[simp] theorem State.withLdr_ldr (s : State) (x : Loader) : (s.withLdr x).ldr = x := rfl
@[simp] theorem State.withLdr_nand (s : State) (x : Loader) : (s.withLdr x).nand = s.nand := rfl
@[simp] theorem State.withLdr_sto (s : State) (x : Loader) : (s.withLdr x).sto = s.sto := rfl
@[simp] theorem State.withLdr_flt (s : State) (x : Loader) : (s.withLdr x).flt = s.flt := rfl
@[simp] theorem State.withLdr_pwr (s : State) (x : Loader) : (s.withLdr x).pwr = s.pwr := rfl
@[simp] theorem State.withLdr_lehr (s : State) (x : Loader) : (s.withLdr x).lehr = s.lehr := rfl
@[simp] theorem State.withLdr_start (s : State) (x : Loader) : (s.withLdr x).start = s.start := rfl
@[simp] theorem State.withLdr_bst (s : State) (x : Loader) : (s.withLdr x).bst = s.bst := rfl
@[simp] theorem State.withLdr_otp (s : State) (x : Loader) : (s.withLdr x).otp = s.otp := rfl
@[simp] theorem State.withLdr_lcs (s : State) (x : Loader) : (s.withLdr x).lcs = s.lcs := rfl
@[simp] theorem State.withLdr_jtag (s : State) (x : Loader) : (s.withLdr x).jtag = s.jtag := rfl
@[simp] theorem State.withLdr_dbgReads (s : State) (x : Loader) : (s.withLdr x).dbgReads = s.dbgReads := rfl
@[simp] theorem State.withLdr_spineOn (s : State) (x : Loader) : (s.withLdr x).spineOn = s.spineOn := rfl
@[simp] theorem State.withLdr_free (s : State) (x : Loader) : (s.withLdr x).free = s.free := rfl
@[simp] theorem State.withLdr_out (s : State) (x : Loader) : (s.withLdr x).out = s.out := rfl
@[simp] theorem State.withNand_pending (s : State) (x : Nand) : (s.withNand x).pending = s.pending := rfl
@[simp] theorem State.withNand_regs (s : State) (x : Nand) : (s.withNand x).regs = s.regs := rfl
@[simp] theorem State.withNand_latch (s : State) (x : Nand) : (s.withNand x).latch = s.latch := rfl
@[simp] theorem State.withNand_shadow (s : State) (x : Nand) : (s.withNand x).shadow = s.shadow := rfl
@[simp] theorem State.withNand_steps (s : State) (x : Nand) : (s.withNand x).steps = s.steps := rfl
@[simp] theorem State.withNand_routes (s : State) (x : Nand) : (s.withNand x).routes = s.routes := rfl
@[simp] theorem State.withNand_dm (s : State) (x : Nand) : (s.withNand x).dm = s.dm := rfl
@[simp] theorem State.withNand_dmBad (s : State) (x : Nand) : (s.withNand x).dmBad = s.dmBad := rfl
@[simp] theorem State.withNand_results (s : State) (x : Nand) : (s.withNand x).results = s.results := rfl
@[simp] theorem State.withNand_stamps (s : State) (x : Nand) : (s.withNand x).stamps = s.stamps := rfl
@[simp] theorem State.withNand_gobIn (s : State) (x : Nand) : (s.withNand x).gobIn = s.gobIn := rfl
@[simp] theorem State.withNand_gobOut (s : State) (x : Nand) : (s.withNand x).gobOut = s.gobOut := rfl
@[simp] theorem State.withNand_reqArea (s : State) (x : Nand) : (s.withNand x).reqArea = s.reqArea := rfl
@[simp] theorem State.withNand_retBuf (s : State) (x : Nand) : (s.withNand x).retBuf = s.retBuf := rfl
@[simp] theorem State.withNand_farIn (s : State) (x : Nand) : (s.withNand x).farIn = s.farIn := rfl
@[simp] theorem State.withNand_tiles (s : State) (x : Nand) : (s.withNand x).tiles = s.tiles := rfl
@[simp] theorem State.withNand_gafs (s : State) (x : Nand) : (s.withNand x).gafs = s.gafs := rfl
@[simp] theorem State.withNand_ports (s : State) (x : Nand) : (s.withNand x).ports = s.ports := rfl
@[simp] theorem State.withNand_hbm (s : State) (x : Nand) : (s.withNand x).hbm = s.hbm := rfl
@[simp] theorem State.withNand_hbmBad (s : State) (x : Nand) : (s.withNand x).hbmBad = s.hbmBad := rfl
@[simp] theorem State.withNand_hbmSoft (s : State) (x : Nand) : (s.withNand x).hbmSoft = s.hbmSoft := rfl
@[simp] theorem State.withNand_tb (s : State) (x : Nand) : (s.withNand x).tb = s.tb := rfl
@[simp] theorem State.withNand_irc (s : State) (x : Nand) : (s.withNand x).irc = s.irc := rfl
@[simp] theorem State.withNand_pbs (s : State) (x : Nand) : (s.withNand x).pbs = s.pbs := rfl
@[simp] theorem State.withNand_mrv (s : State) (x : Nand) : (s.withNand x).mrv = s.mrv := rfl
@[simp] theorem State.withNand_rings (s : State) (x : Nand) : (s.withNand x).rings = s.rings := rfl
@[simp] theorem State.withNand_strobes (s : State) (x : Nand) : (s.withNand x).strobes = s.strobes := rfl
@[simp] theorem State.withNand_discardEv (s : State) (x : Nand) : (s.withNand x).discardEv = s.discardEv := rfl
@[simp] theorem State.withNand_slots (s : State) (x : Nand) : (s.withNand x).slots = s.slots := rfl
@[simp] theorem State.withNand_noc (s : State) (x : Nand) : (s.withNand x).noc = s.noc := rfl
@[simp] theorem State.withNand_dma (s : State) (x : Nand) : (s.withNand x).dma = s.dma := rfl
@[simp] theorem State.withNand_fab (s : State) (x : Nand) : (s.withNand x).fab = s.fab := rfl
@[simp] theorem State.withNand_mbx (s : State) (x : Nand) : (s.withNand x).mbx = s.mbx := rfl
@[simp] theorem State.withNand_pcie (s : State) (x : Nand) : (s.withNand x).pcie = s.pcie := rfl
@[simp] theorem State.withNand_bar4 (s : State) (x : Nand) : (s.withNand x).bar4 = s.bar4 := rfl
@[simp] theorem State.withNand_hbmHeld (s : State) (x : Nand) : (s.withNand x).hbmHeld = s.hbmHeld := rfl
@[simp] theorem State.withNand_eth (s : State) (x : Nand) : (s.withNand x).eth = s.eth := rfl
@[simp] theorem State.withNand_mcLog (s : State) (x : Nand) : (s.withNand x).mcLog = s.mcLog := rfl
@[simp] theorem State.withNand_evtSent (s : State) (x : Nand) : (s.withNand x).evtSent = s.evtSent := rfl
@[simp] theorem State.withNand_cstore (s : State) (x : Nand) : (s.withNand x).cstore = s.cstore := rfl
@[simp] theorem State.withNand_ldr (s : State) (x : Nand) : (s.withNand x).ldr = s.ldr := rfl
@[simp] theorem State.withNand_nand (s : State) (x : Nand) : (s.withNand x).nand = x := rfl
@[simp] theorem State.withNand_sto (s : State) (x : Nand) : (s.withNand x).sto = s.sto := rfl
@[simp] theorem State.withNand_flt (s : State) (x : Nand) : (s.withNand x).flt = s.flt := rfl
@[simp] theorem State.withNand_pwr (s : State) (x : Nand) : (s.withNand x).pwr = s.pwr := rfl
@[simp] theorem State.withNand_lehr (s : State) (x : Nand) : (s.withNand x).lehr = s.lehr := rfl
@[simp] theorem State.withNand_start (s : State) (x : Nand) : (s.withNand x).start = s.start := rfl
@[simp] theorem State.withNand_bst (s : State) (x : Nand) : (s.withNand x).bst = s.bst := rfl
@[simp] theorem State.withNand_otp (s : State) (x : Nand) : (s.withNand x).otp = s.otp := rfl
@[simp] theorem State.withNand_lcs (s : State) (x : Nand) : (s.withNand x).lcs = s.lcs := rfl
@[simp] theorem State.withNand_jtag (s : State) (x : Nand) : (s.withNand x).jtag = s.jtag := rfl
@[simp] theorem State.withNand_dbgReads (s : State) (x : Nand) : (s.withNand x).dbgReads = s.dbgReads := rfl
@[simp] theorem State.withNand_spineOn (s : State) (x : Nand) : (s.withNand x).spineOn = s.spineOn := rfl
@[simp] theorem State.withNand_free (s : State) (x : Nand) : (s.withNand x).free = s.free := rfl
@[simp] theorem State.withNand_out (s : State) (x : Nand) : (s.withNand x).out = s.out := rfl
@[simp] theorem State.withSto_pending (s : State) (x : Sto) : (s.withSto x).pending = s.pending := rfl
@[simp] theorem State.withSto_regs (s : State) (x : Sto) : (s.withSto x).regs = s.regs := rfl
@[simp] theorem State.withSto_latch (s : State) (x : Sto) : (s.withSto x).latch = s.latch := rfl
@[simp] theorem State.withSto_shadow (s : State) (x : Sto) : (s.withSto x).shadow = s.shadow := rfl
@[simp] theorem State.withSto_steps (s : State) (x : Sto) : (s.withSto x).steps = s.steps := rfl
@[simp] theorem State.withSto_routes (s : State) (x : Sto) : (s.withSto x).routes = s.routes := rfl
@[simp] theorem State.withSto_dm (s : State) (x : Sto) : (s.withSto x).dm = s.dm := rfl
@[simp] theorem State.withSto_dmBad (s : State) (x : Sto) : (s.withSto x).dmBad = s.dmBad := rfl
@[simp] theorem State.withSto_results (s : State) (x : Sto) : (s.withSto x).results = s.results := rfl
@[simp] theorem State.withSto_stamps (s : State) (x : Sto) : (s.withSto x).stamps = s.stamps := rfl
@[simp] theorem State.withSto_gobIn (s : State) (x : Sto) : (s.withSto x).gobIn = s.gobIn := rfl
@[simp] theorem State.withSto_gobOut (s : State) (x : Sto) : (s.withSto x).gobOut = s.gobOut := rfl
@[simp] theorem State.withSto_reqArea (s : State) (x : Sto) : (s.withSto x).reqArea = s.reqArea := rfl
@[simp] theorem State.withSto_retBuf (s : State) (x : Sto) : (s.withSto x).retBuf = s.retBuf := rfl
@[simp] theorem State.withSto_farIn (s : State) (x : Sto) : (s.withSto x).farIn = s.farIn := rfl
@[simp] theorem State.withSto_tiles (s : State) (x : Sto) : (s.withSto x).tiles = s.tiles := rfl
@[simp] theorem State.withSto_gafs (s : State) (x : Sto) : (s.withSto x).gafs = s.gafs := rfl
@[simp] theorem State.withSto_ports (s : State) (x : Sto) : (s.withSto x).ports = s.ports := rfl
@[simp] theorem State.withSto_hbm (s : State) (x : Sto) : (s.withSto x).hbm = s.hbm := rfl
@[simp] theorem State.withSto_hbmBad (s : State) (x : Sto) : (s.withSto x).hbmBad = s.hbmBad := rfl
@[simp] theorem State.withSto_hbmSoft (s : State) (x : Sto) : (s.withSto x).hbmSoft = s.hbmSoft := rfl
@[simp] theorem State.withSto_tb (s : State) (x : Sto) : (s.withSto x).tb = s.tb := rfl
@[simp] theorem State.withSto_irc (s : State) (x : Sto) : (s.withSto x).irc = s.irc := rfl
@[simp] theorem State.withSto_pbs (s : State) (x : Sto) : (s.withSto x).pbs = s.pbs := rfl
@[simp] theorem State.withSto_mrv (s : State) (x : Sto) : (s.withSto x).mrv = s.mrv := rfl
@[simp] theorem State.withSto_rings (s : State) (x : Sto) : (s.withSto x).rings = s.rings := rfl
@[simp] theorem State.withSto_strobes (s : State) (x : Sto) : (s.withSto x).strobes = s.strobes := rfl
@[simp] theorem State.withSto_discardEv (s : State) (x : Sto) : (s.withSto x).discardEv = s.discardEv := rfl
@[simp] theorem State.withSto_slots (s : State) (x : Sto) : (s.withSto x).slots = s.slots := rfl
@[simp] theorem State.withSto_noc (s : State) (x : Sto) : (s.withSto x).noc = s.noc := rfl
@[simp] theorem State.withSto_dma (s : State) (x : Sto) : (s.withSto x).dma = s.dma := rfl
@[simp] theorem State.withSto_fab (s : State) (x : Sto) : (s.withSto x).fab = s.fab := rfl
@[simp] theorem State.withSto_mbx (s : State) (x : Sto) : (s.withSto x).mbx = s.mbx := rfl
@[simp] theorem State.withSto_pcie (s : State) (x : Sto) : (s.withSto x).pcie = s.pcie := rfl
@[simp] theorem State.withSto_bar4 (s : State) (x : Sto) : (s.withSto x).bar4 = s.bar4 := rfl
@[simp] theorem State.withSto_hbmHeld (s : State) (x : Sto) : (s.withSto x).hbmHeld = s.hbmHeld := rfl
@[simp] theorem State.withSto_eth (s : State) (x : Sto) : (s.withSto x).eth = s.eth := rfl
@[simp] theorem State.withSto_mcLog (s : State) (x : Sto) : (s.withSto x).mcLog = s.mcLog := rfl
@[simp] theorem State.withSto_evtSent (s : State) (x : Sto) : (s.withSto x).evtSent = s.evtSent := rfl
@[simp] theorem State.withSto_cstore (s : State) (x : Sto) : (s.withSto x).cstore = s.cstore := rfl
@[simp] theorem State.withSto_ldr (s : State) (x : Sto) : (s.withSto x).ldr = s.ldr := rfl
@[simp] theorem State.withSto_nand (s : State) (x : Sto) : (s.withSto x).nand = s.nand := rfl
@[simp] theorem State.withSto_sto (s : State) (x : Sto) : (s.withSto x).sto = x := rfl
@[simp] theorem State.withSto_flt (s : State) (x : Sto) : (s.withSto x).flt = s.flt := rfl
@[simp] theorem State.withSto_pwr (s : State) (x : Sto) : (s.withSto x).pwr = s.pwr := rfl
@[simp] theorem State.withSto_lehr (s : State) (x : Sto) : (s.withSto x).lehr = s.lehr := rfl
@[simp] theorem State.withSto_start (s : State) (x : Sto) : (s.withSto x).start = s.start := rfl
@[simp] theorem State.withSto_bst (s : State) (x : Sto) : (s.withSto x).bst = s.bst := rfl
@[simp] theorem State.withSto_otp (s : State) (x : Sto) : (s.withSto x).otp = s.otp := rfl
@[simp] theorem State.withSto_lcs (s : State) (x : Sto) : (s.withSto x).lcs = s.lcs := rfl
@[simp] theorem State.withSto_jtag (s : State) (x : Sto) : (s.withSto x).jtag = s.jtag := rfl
@[simp] theorem State.withSto_dbgReads (s : State) (x : Sto) : (s.withSto x).dbgReads = s.dbgReads := rfl
@[simp] theorem State.withSto_spineOn (s : State) (x : Sto) : (s.withSto x).spineOn = s.spineOn := rfl
@[simp] theorem State.withSto_free (s : State) (x : Sto) : (s.withSto x).free = s.free := rfl
@[simp] theorem State.withSto_out (s : State) (x : Sto) : (s.withSto x).out = s.out := rfl
@[simp] theorem State.withFlt_pending (s : State) (x : Collector) : (s.withFlt x).pending = s.pending := rfl
@[simp] theorem State.withFlt_regs (s : State) (x : Collector) : (s.withFlt x).regs = s.regs := rfl
@[simp] theorem State.withFlt_latch (s : State) (x : Collector) : (s.withFlt x).latch = s.latch := rfl
@[simp] theorem State.withFlt_shadow (s : State) (x : Collector) : (s.withFlt x).shadow = s.shadow := rfl
@[simp] theorem State.withFlt_steps (s : State) (x : Collector) : (s.withFlt x).steps = s.steps := rfl
@[simp] theorem State.withFlt_routes (s : State) (x : Collector) : (s.withFlt x).routes = s.routes := rfl
@[simp] theorem State.withFlt_dm (s : State) (x : Collector) : (s.withFlt x).dm = s.dm := rfl
@[simp] theorem State.withFlt_dmBad (s : State) (x : Collector) : (s.withFlt x).dmBad = s.dmBad := rfl
@[simp] theorem State.withFlt_results (s : State) (x : Collector) : (s.withFlt x).results = s.results := rfl
@[simp] theorem State.withFlt_stamps (s : State) (x : Collector) : (s.withFlt x).stamps = s.stamps := rfl
@[simp] theorem State.withFlt_gobIn (s : State) (x : Collector) : (s.withFlt x).gobIn = s.gobIn := rfl
@[simp] theorem State.withFlt_gobOut (s : State) (x : Collector) : (s.withFlt x).gobOut = s.gobOut := rfl
@[simp] theorem State.withFlt_reqArea (s : State) (x : Collector) : (s.withFlt x).reqArea = s.reqArea := rfl
@[simp] theorem State.withFlt_retBuf (s : State) (x : Collector) : (s.withFlt x).retBuf = s.retBuf := rfl
@[simp] theorem State.withFlt_farIn (s : State) (x : Collector) : (s.withFlt x).farIn = s.farIn := rfl
@[simp] theorem State.withFlt_tiles (s : State) (x : Collector) : (s.withFlt x).tiles = s.tiles := rfl
@[simp] theorem State.withFlt_gafs (s : State) (x : Collector) : (s.withFlt x).gafs = s.gafs := rfl
@[simp] theorem State.withFlt_ports (s : State) (x : Collector) : (s.withFlt x).ports = s.ports := rfl
@[simp] theorem State.withFlt_hbm (s : State) (x : Collector) : (s.withFlt x).hbm = s.hbm := rfl
@[simp] theorem State.withFlt_hbmBad (s : State) (x : Collector) : (s.withFlt x).hbmBad = s.hbmBad := rfl
@[simp] theorem State.withFlt_hbmSoft (s : State) (x : Collector) : (s.withFlt x).hbmSoft = s.hbmSoft := rfl
@[simp] theorem State.withFlt_tb (s : State) (x : Collector) : (s.withFlt x).tb = s.tb := rfl
@[simp] theorem State.withFlt_irc (s : State) (x : Collector) : (s.withFlt x).irc = s.irc := rfl
@[simp] theorem State.withFlt_pbs (s : State) (x : Collector) : (s.withFlt x).pbs = s.pbs := rfl
@[simp] theorem State.withFlt_mrv (s : State) (x : Collector) : (s.withFlt x).mrv = s.mrv := rfl
@[simp] theorem State.withFlt_rings (s : State) (x : Collector) : (s.withFlt x).rings = s.rings := rfl
@[simp] theorem State.withFlt_strobes (s : State) (x : Collector) : (s.withFlt x).strobes = s.strobes := rfl
@[simp] theorem State.withFlt_discardEv (s : State) (x : Collector) : (s.withFlt x).discardEv = s.discardEv := rfl
@[simp] theorem State.withFlt_slots (s : State) (x : Collector) : (s.withFlt x).slots = s.slots := rfl
@[simp] theorem State.withFlt_noc (s : State) (x : Collector) : (s.withFlt x).noc = s.noc := rfl
@[simp] theorem State.withFlt_dma (s : State) (x : Collector) : (s.withFlt x).dma = s.dma := rfl
@[simp] theorem State.withFlt_fab (s : State) (x : Collector) : (s.withFlt x).fab = s.fab := rfl
@[simp] theorem State.withFlt_mbx (s : State) (x : Collector) : (s.withFlt x).mbx = s.mbx := rfl
@[simp] theorem State.withFlt_pcie (s : State) (x : Collector) : (s.withFlt x).pcie = s.pcie := rfl
@[simp] theorem State.withFlt_bar4 (s : State) (x : Collector) : (s.withFlt x).bar4 = s.bar4 := rfl
@[simp] theorem State.withFlt_hbmHeld (s : State) (x : Collector) : (s.withFlt x).hbmHeld = s.hbmHeld := rfl
@[simp] theorem State.withFlt_eth (s : State) (x : Collector) : (s.withFlt x).eth = s.eth := rfl
@[simp] theorem State.withFlt_mcLog (s : State) (x : Collector) : (s.withFlt x).mcLog = s.mcLog := rfl
@[simp] theorem State.withFlt_evtSent (s : State) (x : Collector) : (s.withFlt x).evtSent = s.evtSent := rfl
@[simp] theorem State.withFlt_cstore (s : State) (x : Collector) : (s.withFlt x).cstore = s.cstore := rfl
@[simp] theorem State.withFlt_ldr (s : State) (x : Collector) : (s.withFlt x).ldr = s.ldr := rfl
@[simp] theorem State.withFlt_nand (s : State) (x : Collector) : (s.withFlt x).nand = s.nand := rfl
@[simp] theorem State.withFlt_sto (s : State) (x : Collector) : (s.withFlt x).sto = s.sto := rfl
@[simp] theorem State.withFlt_flt (s : State) (x : Collector) : (s.withFlt x).flt = x := rfl
@[simp] theorem State.withFlt_pwr (s : State) (x : Collector) : (s.withFlt x).pwr = s.pwr := rfl
@[simp] theorem State.withFlt_lehr (s : State) (x : Collector) : (s.withFlt x).lehr = s.lehr := rfl
@[simp] theorem State.withFlt_start (s : State) (x : Collector) : (s.withFlt x).start = s.start := rfl
@[simp] theorem State.withFlt_bst (s : State) (x : Collector) : (s.withFlt x).bst = s.bst := rfl
@[simp] theorem State.withFlt_otp (s : State) (x : Collector) : (s.withFlt x).otp = s.otp := rfl
@[simp] theorem State.withFlt_lcs (s : State) (x : Collector) : (s.withFlt x).lcs = s.lcs := rfl
@[simp] theorem State.withFlt_jtag (s : State) (x : Collector) : (s.withFlt x).jtag = s.jtag := rfl
@[simp] theorem State.withFlt_dbgReads (s : State) (x : Collector) : (s.withFlt x).dbgReads = s.dbgReads := rfl
@[simp] theorem State.withFlt_spineOn (s : State) (x : Collector) : (s.withFlt x).spineOn = s.spineOn := rfl
@[simp] theorem State.withFlt_free (s : State) (x : Collector) : (s.withFlt x).free = s.free := rfl
@[simp] theorem State.withFlt_out (s : State) (x : Collector) : (s.withFlt x).out = s.out := rfl
@[simp] theorem State.withPwr_pending (s : State) (x : PwrState) : (s.withPwr x).pending = s.pending := rfl
@[simp] theorem State.withPwr_regs (s : State) (x : PwrState) : (s.withPwr x).regs = s.regs := rfl
@[simp] theorem State.withPwr_latch (s : State) (x : PwrState) : (s.withPwr x).latch = s.latch := rfl
@[simp] theorem State.withPwr_shadow (s : State) (x : PwrState) : (s.withPwr x).shadow = s.shadow := rfl
@[simp] theorem State.withPwr_steps (s : State) (x : PwrState) : (s.withPwr x).steps = s.steps := rfl
@[simp] theorem State.withPwr_routes (s : State) (x : PwrState) : (s.withPwr x).routes = s.routes := rfl
@[simp] theorem State.withPwr_dm (s : State) (x : PwrState) : (s.withPwr x).dm = s.dm := rfl
@[simp] theorem State.withPwr_dmBad (s : State) (x : PwrState) : (s.withPwr x).dmBad = s.dmBad := rfl
@[simp] theorem State.withPwr_results (s : State) (x : PwrState) : (s.withPwr x).results = s.results := rfl
@[simp] theorem State.withPwr_stamps (s : State) (x : PwrState) : (s.withPwr x).stamps = s.stamps := rfl
@[simp] theorem State.withPwr_gobIn (s : State) (x : PwrState) : (s.withPwr x).gobIn = s.gobIn := rfl
@[simp] theorem State.withPwr_gobOut (s : State) (x : PwrState) : (s.withPwr x).gobOut = s.gobOut := rfl
@[simp] theorem State.withPwr_reqArea (s : State) (x : PwrState) : (s.withPwr x).reqArea = s.reqArea := rfl
@[simp] theorem State.withPwr_retBuf (s : State) (x : PwrState) : (s.withPwr x).retBuf = s.retBuf := rfl
@[simp] theorem State.withPwr_farIn (s : State) (x : PwrState) : (s.withPwr x).farIn = s.farIn := rfl
@[simp] theorem State.withPwr_tiles (s : State) (x : PwrState) : (s.withPwr x).tiles = s.tiles := rfl
@[simp] theorem State.withPwr_gafs (s : State) (x : PwrState) : (s.withPwr x).gafs = s.gafs := rfl
@[simp] theorem State.withPwr_ports (s : State) (x : PwrState) : (s.withPwr x).ports = s.ports := rfl
@[simp] theorem State.withPwr_hbm (s : State) (x : PwrState) : (s.withPwr x).hbm = s.hbm := rfl
@[simp] theorem State.withPwr_hbmBad (s : State) (x : PwrState) : (s.withPwr x).hbmBad = s.hbmBad := rfl
@[simp] theorem State.withPwr_hbmSoft (s : State) (x : PwrState) : (s.withPwr x).hbmSoft = s.hbmSoft := rfl
@[simp] theorem State.withPwr_tb (s : State) (x : PwrState) : (s.withPwr x).tb = s.tb := rfl
@[simp] theorem State.withPwr_irc (s : State) (x : PwrState) : (s.withPwr x).irc = s.irc := rfl
@[simp] theorem State.withPwr_pbs (s : State) (x : PwrState) : (s.withPwr x).pbs = s.pbs := rfl
@[simp] theorem State.withPwr_mrv (s : State) (x : PwrState) : (s.withPwr x).mrv = s.mrv := rfl
@[simp] theorem State.withPwr_rings (s : State) (x : PwrState) : (s.withPwr x).rings = s.rings := rfl
@[simp] theorem State.withPwr_strobes (s : State) (x : PwrState) : (s.withPwr x).strobes = s.strobes := rfl
@[simp] theorem State.withPwr_discardEv (s : State) (x : PwrState) : (s.withPwr x).discardEv = s.discardEv := rfl
@[simp] theorem State.withPwr_slots (s : State) (x : PwrState) : (s.withPwr x).slots = s.slots := rfl
@[simp] theorem State.withPwr_noc (s : State) (x : PwrState) : (s.withPwr x).noc = s.noc := rfl
@[simp] theorem State.withPwr_dma (s : State) (x : PwrState) : (s.withPwr x).dma = s.dma := rfl
@[simp] theorem State.withPwr_fab (s : State) (x : PwrState) : (s.withPwr x).fab = s.fab := rfl
@[simp] theorem State.withPwr_mbx (s : State) (x : PwrState) : (s.withPwr x).mbx = s.mbx := rfl
@[simp] theorem State.withPwr_pcie (s : State) (x : PwrState) : (s.withPwr x).pcie = s.pcie := rfl
@[simp] theorem State.withPwr_bar4 (s : State) (x : PwrState) : (s.withPwr x).bar4 = s.bar4 := rfl
@[simp] theorem State.withPwr_hbmHeld (s : State) (x : PwrState) : (s.withPwr x).hbmHeld = s.hbmHeld := rfl
@[simp] theorem State.withPwr_eth (s : State) (x : PwrState) : (s.withPwr x).eth = s.eth := rfl
@[simp] theorem State.withPwr_mcLog (s : State) (x : PwrState) : (s.withPwr x).mcLog = s.mcLog := rfl
@[simp] theorem State.withPwr_evtSent (s : State) (x : PwrState) : (s.withPwr x).evtSent = s.evtSent := rfl
@[simp] theorem State.withPwr_cstore (s : State) (x : PwrState) : (s.withPwr x).cstore = s.cstore := rfl
@[simp] theorem State.withPwr_ldr (s : State) (x : PwrState) : (s.withPwr x).ldr = s.ldr := rfl
@[simp] theorem State.withPwr_nand (s : State) (x : PwrState) : (s.withPwr x).nand = s.nand := rfl
@[simp] theorem State.withPwr_sto (s : State) (x : PwrState) : (s.withPwr x).sto = s.sto := rfl
@[simp] theorem State.withPwr_flt (s : State) (x : PwrState) : (s.withPwr x).flt = s.flt := rfl
@[simp] theorem State.withPwr_pwr (s : State) (x : PwrState) : (s.withPwr x).pwr = x := rfl
@[simp] theorem State.withPwr_lehr (s : State) (x : PwrState) : (s.withPwr x).lehr = s.lehr := rfl
@[simp] theorem State.withPwr_start (s : State) (x : PwrState) : (s.withPwr x).start = s.start := rfl
@[simp] theorem State.withPwr_bst (s : State) (x : PwrState) : (s.withPwr x).bst = s.bst := rfl
@[simp] theorem State.withPwr_otp (s : State) (x : PwrState) : (s.withPwr x).otp = s.otp := rfl
@[simp] theorem State.withPwr_lcs (s : State) (x : PwrState) : (s.withPwr x).lcs = s.lcs := rfl
@[simp] theorem State.withPwr_jtag (s : State) (x : PwrState) : (s.withPwr x).jtag = s.jtag := rfl
@[simp] theorem State.withPwr_dbgReads (s : State) (x : PwrState) : (s.withPwr x).dbgReads = s.dbgReads := rfl
@[simp] theorem State.withPwr_spineOn (s : State) (x : PwrState) : (s.withPwr x).spineOn = s.spineOn := rfl
@[simp] theorem State.withPwr_free (s : State) (x : PwrState) : (s.withPwr x).free = s.free := rfl
@[simp] theorem State.withPwr_out (s : State) (x : PwrState) : (s.withPwr x).out = s.out := rfl
@[simp] theorem State.withLehr_pending (s : State) (x : Lehr) : (s.withLehr x).pending = s.pending := rfl
@[simp] theorem State.withLehr_regs (s : State) (x : Lehr) : (s.withLehr x).regs = s.regs := rfl
@[simp] theorem State.withLehr_latch (s : State) (x : Lehr) : (s.withLehr x).latch = s.latch := rfl
@[simp] theorem State.withLehr_shadow (s : State) (x : Lehr) : (s.withLehr x).shadow = s.shadow := rfl
@[simp] theorem State.withLehr_steps (s : State) (x : Lehr) : (s.withLehr x).steps = s.steps := rfl
@[simp] theorem State.withLehr_routes (s : State) (x : Lehr) : (s.withLehr x).routes = s.routes := rfl
@[simp] theorem State.withLehr_dm (s : State) (x : Lehr) : (s.withLehr x).dm = s.dm := rfl
@[simp] theorem State.withLehr_dmBad (s : State) (x : Lehr) : (s.withLehr x).dmBad = s.dmBad := rfl
@[simp] theorem State.withLehr_results (s : State) (x : Lehr) : (s.withLehr x).results = s.results := rfl
@[simp] theorem State.withLehr_stamps (s : State) (x : Lehr) : (s.withLehr x).stamps = s.stamps := rfl
@[simp] theorem State.withLehr_gobIn (s : State) (x : Lehr) : (s.withLehr x).gobIn = s.gobIn := rfl
@[simp] theorem State.withLehr_gobOut (s : State) (x : Lehr) : (s.withLehr x).gobOut = s.gobOut := rfl
@[simp] theorem State.withLehr_reqArea (s : State) (x : Lehr) : (s.withLehr x).reqArea = s.reqArea := rfl
@[simp] theorem State.withLehr_retBuf (s : State) (x : Lehr) : (s.withLehr x).retBuf = s.retBuf := rfl
@[simp] theorem State.withLehr_farIn (s : State) (x : Lehr) : (s.withLehr x).farIn = s.farIn := rfl
@[simp] theorem State.withLehr_tiles (s : State) (x : Lehr) : (s.withLehr x).tiles = s.tiles := rfl
@[simp] theorem State.withLehr_gafs (s : State) (x : Lehr) : (s.withLehr x).gafs = s.gafs := rfl
@[simp] theorem State.withLehr_ports (s : State) (x : Lehr) : (s.withLehr x).ports = s.ports := rfl
@[simp] theorem State.withLehr_hbm (s : State) (x : Lehr) : (s.withLehr x).hbm = s.hbm := rfl
@[simp] theorem State.withLehr_hbmBad (s : State) (x : Lehr) : (s.withLehr x).hbmBad = s.hbmBad := rfl
@[simp] theorem State.withLehr_hbmSoft (s : State) (x : Lehr) : (s.withLehr x).hbmSoft = s.hbmSoft := rfl
@[simp] theorem State.withLehr_tb (s : State) (x : Lehr) : (s.withLehr x).tb = s.tb := rfl
@[simp] theorem State.withLehr_irc (s : State) (x : Lehr) : (s.withLehr x).irc = s.irc := rfl
@[simp] theorem State.withLehr_pbs (s : State) (x : Lehr) : (s.withLehr x).pbs = s.pbs := rfl
@[simp] theorem State.withLehr_mrv (s : State) (x : Lehr) : (s.withLehr x).mrv = s.mrv := rfl
@[simp] theorem State.withLehr_rings (s : State) (x : Lehr) : (s.withLehr x).rings = s.rings := rfl
@[simp] theorem State.withLehr_strobes (s : State) (x : Lehr) : (s.withLehr x).strobes = s.strobes := rfl
@[simp] theorem State.withLehr_discardEv (s : State) (x : Lehr) : (s.withLehr x).discardEv = s.discardEv := rfl
@[simp] theorem State.withLehr_slots (s : State) (x : Lehr) : (s.withLehr x).slots = s.slots := rfl
@[simp] theorem State.withLehr_noc (s : State) (x : Lehr) : (s.withLehr x).noc = s.noc := rfl
@[simp] theorem State.withLehr_dma (s : State) (x : Lehr) : (s.withLehr x).dma = s.dma := rfl
@[simp] theorem State.withLehr_fab (s : State) (x : Lehr) : (s.withLehr x).fab = s.fab := rfl
@[simp] theorem State.withLehr_mbx (s : State) (x : Lehr) : (s.withLehr x).mbx = s.mbx := rfl
@[simp] theorem State.withLehr_pcie (s : State) (x : Lehr) : (s.withLehr x).pcie = s.pcie := rfl
@[simp] theorem State.withLehr_bar4 (s : State) (x : Lehr) : (s.withLehr x).bar4 = s.bar4 := rfl
@[simp] theorem State.withLehr_hbmHeld (s : State) (x : Lehr) : (s.withLehr x).hbmHeld = s.hbmHeld := rfl
@[simp] theorem State.withLehr_eth (s : State) (x : Lehr) : (s.withLehr x).eth = s.eth := rfl
@[simp] theorem State.withLehr_mcLog (s : State) (x : Lehr) : (s.withLehr x).mcLog = s.mcLog := rfl
@[simp] theorem State.withLehr_evtSent (s : State) (x : Lehr) : (s.withLehr x).evtSent = s.evtSent := rfl
@[simp] theorem State.withLehr_cstore (s : State) (x : Lehr) : (s.withLehr x).cstore = s.cstore := rfl
@[simp] theorem State.withLehr_ldr (s : State) (x : Lehr) : (s.withLehr x).ldr = s.ldr := rfl
@[simp] theorem State.withLehr_nand (s : State) (x : Lehr) : (s.withLehr x).nand = s.nand := rfl
@[simp] theorem State.withLehr_sto (s : State) (x : Lehr) : (s.withLehr x).sto = s.sto := rfl
@[simp] theorem State.withLehr_flt (s : State) (x : Lehr) : (s.withLehr x).flt = s.flt := rfl
@[simp] theorem State.withLehr_pwr (s : State) (x : Lehr) : (s.withLehr x).pwr = s.pwr := rfl
@[simp] theorem State.withLehr_lehr (s : State) (x : Lehr) : (s.withLehr x).lehr = x := rfl
@[simp] theorem State.withLehr_start (s : State) (x : Lehr) : (s.withLehr x).start = s.start := rfl
@[simp] theorem State.withLehr_bst (s : State) (x : Lehr) : (s.withLehr x).bst = s.bst := rfl
@[simp] theorem State.withLehr_otp (s : State) (x : Lehr) : (s.withLehr x).otp = s.otp := rfl
@[simp] theorem State.withLehr_lcs (s : State) (x : Lehr) : (s.withLehr x).lcs = s.lcs := rfl
@[simp] theorem State.withLehr_jtag (s : State) (x : Lehr) : (s.withLehr x).jtag = s.jtag := rfl
@[simp] theorem State.withLehr_dbgReads (s : State) (x : Lehr) : (s.withLehr x).dbgReads = s.dbgReads := rfl
@[simp] theorem State.withLehr_spineOn (s : State) (x : Lehr) : (s.withLehr x).spineOn = s.spineOn := rfl
@[simp] theorem State.withLehr_free (s : State) (x : Lehr) : (s.withLehr x).free = s.free := rfl
@[simp] theorem State.withLehr_out (s : State) (x : Lehr) : (s.withLehr x).out = s.out := rfl
@[simp] theorem State.withStart_pending (s : State) (x : Start) : (s.withStart x).pending = s.pending := rfl
@[simp] theorem State.withStart_regs (s : State) (x : Start) : (s.withStart x).regs = s.regs := rfl
@[simp] theorem State.withStart_latch (s : State) (x : Start) : (s.withStart x).latch = s.latch := rfl
@[simp] theorem State.withStart_shadow (s : State) (x : Start) : (s.withStart x).shadow = s.shadow := rfl
@[simp] theorem State.withStart_steps (s : State) (x : Start) : (s.withStart x).steps = s.steps := rfl
@[simp] theorem State.withStart_routes (s : State) (x : Start) : (s.withStart x).routes = s.routes := rfl
@[simp] theorem State.withStart_dm (s : State) (x : Start) : (s.withStart x).dm = s.dm := rfl
@[simp] theorem State.withStart_dmBad (s : State) (x : Start) : (s.withStart x).dmBad = s.dmBad := rfl
@[simp] theorem State.withStart_results (s : State) (x : Start) : (s.withStart x).results = s.results := rfl
@[simp] theorem State.withStart_stamps (s : State) (x : Start) : (s.withStart x).stamps = s.stamps := rfl
@[simp] theorem State.withStart_gobIn (s : State) (x : Start) : (s.withStart x).gobIn = s.gobIn := rfl
@[simp] theorem State.withStart_gobOut (s : State) (x : Start) : (s.withStart x).gobOut = s.gobOut := rfl
@[simp] theorem State.withStart_reqArea (s : State) (x : Start) : (s.withStart x).reqArea = s.reqArea := rfl
@[simp] theorem State.withStart_retBuf (s : State) (x : Start) : (s.withStart x).retBuf = s.retBuf := rfl
@[simp] theorem State.withStart_farIn (s : State) (x : Start) : (s.withStart x).farIn = s.farIn := rfl
@[simp] theorem State.withStart_tiles (s : State) (x : Start) : (s.withStart x).tiles = s.tiles := rfl
@[simp] theorem State.withStart_gafs (s : State) (x : Start) : (s.withStart x).gafs = s.gafs := rfl
@[simp] theorem State.withStart_ports (s : State) (x : Start) : (s.withStart x).ports = s.ports := rfl
@[simp] theorem State.withStart_hbm (s : State) (x : Start) : (s.withStart x).hbm = s.hbm := rfl
@[simp] theorem State.withStart_hbmBad (s : State) (x : Start) : (s.withStart x).hbmBad = s.hbmBad := rfl
@[simp] theorem State.withStart_hbmSoft (s : State) (x : Start) : (s.withStart x).hbmSoft = s.hbmSoft := rfl
@[simp] theorem State.withStart_tb (s : State) (x : Start) : (s.withStart x).tb = s.tb := rfl
@[simp] theorem State.withStart_irc (s : State) (x : Start) : (s.withStart x).irc = s.irc := rfl
@[simp] theorem State.withStart_pbs (s : State) (x : Start) : (s.withStart x).pbs = s.pbs := rfl
@[simp] theorem State.withStart_mrv (s : State) (x : Start) : (s.withStart x).mrv = s.mrv := rfl
@[simp] theorem State.withStart_rings (s : State) (x : Start) : (s.withStart x).rings = s.rings := rfl
@[simp] theorem State.withStart_strobes (s : State) (x : Start) : (s.withStart x).strobes = s.strobes := rfl
@[simp] theorem State.withStart_discardEv (s : State) (x : Start) : (s.withStart x).discardEv = s.discardEv := rfl
@[simp] theorem State.withStart_slots (s : State) (x : Start) : (s.withStart x).slots = s.slots := rfl
@[simp] theorem State.withStart_noc (s : State) (x : Start) : (s.withStart x).noc = s.noc := rfl
@[simp] theorem State.withStart_dma (s : State) (x : Start) : (s.withStart x).dma = s.dma := rfl
@[simp] theorem State.withStart_fab (s : State) (x : Start) : (s.withStart x).fab = s.fab := rfl
@[simp] theorem State.withStart_mbx (s : State) (x : Start) : (s.withStart x).mbx = s.mbx := rfl
@[simp] theorem State.withStart_pcie (s : State) (x : Start) : (s.withStart x).pcie = s.pcie := rfl
@[simp] theorem State.withStart_bar4 (s : State) (x : Start) : (s.withStart x).bar4 = s.bar4 := rfl
@[simp] theorem State.withStart_hbmHeld (s : State) (x : Start) : (s.withStart x).hbmHeld = s.hbmHeld := rfl
@[simp] theorem State.withStart_eth (s : State) (x : Start) : (s.withStart x).eth = s.eth := rfl
@[simp] theorem State.withStart_mcLog (s : State) (x : Start) : (s.withStart x).mcLog = s.mcLog := rfl
@[simp] theorem State.withStart_evtSent (s : State) (x : Start) : (s.withStart x).evtSent = s.evtSent := rfl
@[simp] theorem State.withStart_cstore (s : State) (x : Start) : (s.withStart x).cstore = s.cstore := rfl
@[simp] theorem State.withStart_ldr (s : State) (x : Start) : (s.withStart x).ldr = s.ldr := rfl
@[simp] theorem State.withStart_nand (s : State) (x : Start) : (s.withStart x).nand = s.nand := rfl
@[simp] theorem State.withStart_sto (s : State) (x : Start) : (s.withStart x).sto = s.sto := rfl
@[simp] theorem State.withStart_flt (s : State) (x : Start) : (s.withStart x).flt = s.flt := rfl
@[simp] theorem State.withStart_pwr (s : State) (x : Start) : (s.withStart x).pwr = s.pwr := rfl
@[simp] theorem State.withStart_lehr (s : State) (x : Start) : (s.withStart x).lehr = s.lehr := rfl
@[simp] theorem State.withStart_start (s : State) (x : Start) : (s.withStart x).start = x := rfl
@[simp] theorem State.withStart_bst (s : State) (x : Start) : (s.withStart x).bst = s.bst := rfl
@[simp] theorem State.withStart_otp (s : State) (x : Start) : (s.withStart x).otp = s.otp := rfl
@[simp] theorem State.withStart_lcs (s : State) (x : Start) : (s.withStart x).lcs = s.lcs := rfl
@[simp] theorem State.withStart_jtag (s : State) (x : Start) : (s.withStart x).jtag = s.jtag := rfl
@[simp] theorem State.withStart_dbgReads (s : State) (x : Start) : (s.withStart x).dbgReads = s.dbgReads := rfl
@[simp] theorem State.withStart_spineOn (s : State) (x : Start) : (s.withStart x).spineOn = s.spineOn := rfl
@[simp] theorem State.withStart_free (s : State) (x : Start) : (s.withStart x).free = s.free := rfl
@[simp] theorem State.withStart_out (s : State) (x : Start) : (s.withStart x).out = s.out := rfl
@[simp] theorem State.withBst_pending (s : State) (x : Bist) : (s.withBst x).pending = s.pending := rfl
@[simp] theorem State.withBst_regs (s : State) (x : Bist) : (s.withBst x).regs = s.regs := rfl
@[simp] theorem State.withBst_latch (s : State) (x : Bist) : (s.withBst x).latch = s.latch := rfl
@[simp] theorem State.withBst_shadow (s : State) (x : Bist) : (s.withBst x).shadow = s.shadow := rfl
@[simp] theorem State.withBst_steps (s : State) (x : Bist) : (s.withBst x).steps = s.steps := rfl
@[simp] theorem State.withBst_routes (s : State) (x : Bist) : (s.withBst x).routes = s.routes := rfl
@[simp] theorem State.withBst_dm (s : State) (x : Bist) : (s.withBst x).dm = s.dm := rfl
@[simp] theorem State.withBst_dmBad (s : State) (x : Bist) : (s.withBst x).dmBad = s.dmBad := rfl
@[simp] theorem State.withBst_results (s : State) (x : Bist) : (s.withBst x).results = s.results := rfl
@[simp] theorem State.withBst_stamps (s : State) (x : Bist) : (s.withBst x).stamps = s.stamps := rfl
@[simp] theorem State.withBst_gobIn (s : State) (x : Bist) : (s.withBst x).gobIn = s.gobIn := rfl
@[simp] theorem State.withBst_gobOut (s : State) (x : Bist) : (s.withBst x).gobOut = s.gobOut := rfl
@[simp] theorem State.withBst_reqArea (s : State) (x : Bist) : (s.withBst x).reqArea = s.reqArea := rfl
@[simp] theorem State.withBst_retBuf (s : State) (x : Bist) : (s.withBst x).retBuf = s.retBuf := rfl
@[simp] theorem State.withBst_farIn (s : State) (x : Bist) : (s.withBst x).farIn = s.farIn := rfl
@[simp] theorem State.withBst_tiles (s : State) (x : Bist) : (s.withBst x).tiles = s.tiles := rfl
@[simp] theorem State.withBst_gafs (s : State) (x : Bist) : (s.withBst x).gafs = s.gafs := rfl
@[simp] theorem State.withBst_ports (s : State) (x : Bist) : (s.withBst x).ports = s.ports := rfl
@[simp] theorem State.withBst_hbm (s : State) (x : Bist) : (s.withBst x).hbm = s.hbm := rfl
@[simp] theorem State.withBst_hbmBad (s : State) (x : Bist) : (s.withBst x).hbmBad = s.hbmBad := rfl
@[simp] theorem State.withBst_hbmSoft (s : State) (x : Bist) : (s.withBst x).hbmSoft = s.hbmSoft := rfl
@[simp] theorem State.withBst_tb (s : State) (x : Bist) : (s.withBst x).tb = s.tb := rfl
@[simp] theorem State.withBst_irc (s : State) (x : Bist) : (s.withBst x).irc = s.irc := rfl
@[simp] theorem State.withBst_pbs (s : State) (x : Bist) : (s.withBst x).pbs = s.pbs := rfl
@[simp] theorem State.withBst_mrv (s : State) (x : Bist) : (s.withBst x).mrv = s.mrv := rfl
@[simp] theorem State.withBst_rings (s : State) (x : Bist) : (s.withBst x).rings = s.rings := rfl
@[simp] theorem State.withBst_strobes (s : State) (x : Bist) : (s.withBst x).strobes = s.strobes := rfl
@[simp] theorem State.withBst_discardEv (s : State) (x : Bist) : (s.withBst x).discardEv = s.discardEv := rfl
@[simp] theorem State.withBst_slots (s : State) (x : Bist) : (s.withBst x).slots = s.slots := rfl
@[simp] theorem State.withBst_noc (s : State) (x : Bist) : (s.withBst x).noc = s.noc := rfl
@[simp] theorem State.withBst_dma (s : State) (x : Bist) : (s.withBst x).dma = s.dma := rfl
@[simp] theorem State.withBst_fab (s : State) (x : Bist) : (s.withBst x).fab = s.fab := rfl
@[simp] theorem State.withBst_mbx (s : State) (x : Bist) : (s.withBst x).mbx = s.mbx := rfl
@[simp] theorem State.withBst_pcie (s : State) (x : Bist) : (s.withBst x).pcie = s.pcie := rfl
@[simp] theorem State.withBst_bar4 (s : State) (x : Bist) : (s.withBst x).bar4 = s.bar4 := rfl
@[simp] theorem State.withBst_hbmHeld (s : State) (x : Bist) : (s.withBst x).hbmHeld = s.hbmHeld := rfl
@[simp] theorem State.withBst_eth (s : State) (x : Bist) : (s.withBst x).eth = s.eth := rfl
@[simp] theorem State.withBst_mcLog (s : State) (x : Bist) : (s.withBst x).mcLog = s.mcLog := rfl
@[simp] theorem State.withBst_evtSent (s : State) (x : Bist) : (s.withBst x).evtSent = s.evtSent := rfl
@[simp] theorem State.withBst_cstore (s : State) (x : Bist) : (s.withBst x).cstore = s.cstore := rfl
@[simp] theorem State.withBst_ldr (s : State) (x : Bist) : (s.withBst x).ldr = s.ldr := rfl
@[simp] theorem State.withBst_nand (s : State) (x : Bist) : (s.withBst x).nand = s.nand := rfl
@[simp] theorem State.withBst_sto (s : State) (x : Bist) : (s.withBst x).sto = s.sto := rfl
@[simp] theorem State.withBst_flt (s : State) (x : Bist) : (s.withBst x).flt = s.flt := rfl
@[simp] theorem State.withBst_pwr (s : State) (x : Bist) : (s.withBst x).pwr = s.pwr := rfl
@[simp] theorem State.withBst_lehr (s : State) (x : Bist) : (s.withBst x).lehr = s.lehr := rfl
@[simp] theorem State.withBst_start (s : State) (x : Bist) : (s.withBst x).start = s.start := rfl
@[simp] theorem State.withBst_bst (s : State) (x : Bist) : (s.withBst x).bst = x := rfl
@[simp] theorem State.withBst_otp (s : State) (x : Bist) : (s.withBst x).otp = s.otp := rfl
@[simp] theorem State.withBst_lcs (s : State) (x : Bist) : (s.withBst x).lcs = s.lcs := rfl
@[simp] theorem State.withBst_jtag (s : State) (x : Bist) : (s.withBst x).jtag = s.jtag := rfl
@[simp] theorem State.withBst_dbgReads (s : State) (x : Bist) : (s.withBst x).dbgReads = s.dbgReads := rfl
@[simp] theorem State.withBst_spineOn (s : State) (x : Bist) : (s.withBst x).spineOn = s.spineOn := rfl
@[simp] theorem State.withBst_free (s : State) (x : Bist) : (s.withBst x).free = s.free := rfl
@[simp] theorem State.withBst_out (s : State) (x : Bist) : (s.withBst x).out = s.out := rfl
@[simp] theorem State.withOtp_pending (s : State) (x : Otp) : (s.withOtp x).pending = s.pending := rfl
@[simp] theorem State.withOtp_regs (s : State) (x : Otp) : (s.withOtp x).regs = s.regs := rfl
@[simp] theorem State.withOtp_latch (s : State) (x : Otp) : (s.withOtp x).latch = s.latch := rfl
@[simp] theorem State.withOtp_shadow (s : State) (x : Otp) : (s.withOtp x).shadow = s.shadow := rfl
@[simp] theorem State.withOtp_steps (s : State) (x : Otp) : (s.withOtp x).steps = s.steps := rfl
@[simp] theorem State.withOtp_routes (s : State) (x : Otp) : (s.withOtp x).routes = s.routes := rfl
@[simp] theorem State.withOtp_dm (s : State) (x : Otp) : (s.withOtp x).dm = s.dm := rfl
@[simp] theorem State.withOtp_dmBad (s : State) (x : Otp) : (s.withOtp x).dmBad = s.dmBad := rfl
@[simp] theorem State.withOtp_results (s : State) (x : Otp) : (s.withOtp x).results = s.results := rfl
@[simp] theorem State.withOtp_stamps (s : State) (x : Otp) : (s.withOtp x).stamps = s.stamps := rfl
@[simp] theorem State.withOtp_gobIn (s : State) (x : Otp) : (s.withOtp x).gobIn = s.gobIn := rfl
@[simp] theorem State.withOtp_gobOut (s : State) (x : Otp) : (s.withOtp x).gobOut = s.gobOut := rfl
@[simp] theorem State.withOtp_reqArea (s : State) (x : Otp) : (s.withOtp x).reqArea = s.reqArea := rfl
@[simp] theorem State.withOtp_retBuf (s : State) (x : Otp) : (s.withOtp x).retBuf = s.retBuf := rfl
@[simp] theorem State.withOtp_farIn (s : State) (x : Otp) : (s.withOtp x).farIn = s.farIn := rfl
@[simp] theorem State.withOtp_tiles (s : State) (x : Otp) : (s.withOtp x).tiles = s.tiles := rfl
@[simp] theorem State.withOtp_gafs (s : State) (x : Otp) : (s.withOtp x).gafs = s.gafs := rfl
@[simp] theorem State.withOtp_ports (s : State) (x : Otp) : (s.withOtp x).ports = s.ports := rfl
@[simp] theorem State.withOtp_hbm (s : State) (x : Otp) : (s.withOtp x).hbm = s.hbm := rfl
@[simp] theorem State.withOtp_hbmBad (s : State) (x : Otp) : (s.withOtp x).hbmBad = s.hbmBad := rfl
@[simp] theorem State.withOtp_hbmSoft (s : State) (x : Otp) : (s.withOtp x).hbmSoft = s.hbmSoft := rfl
@[simp] theorem State.withOtp_tb (s : State) (x : Otp) : (s.withOtp x).tb = s.tb := rfl
@[simp] theorem State.withOtp_irc (s : State) (x : Otp) : (s.withOtp x).irc = s.irc := rfl
@[simp] theorem State.withOtp_pbs (s : State) (x : Otp) : (s.withOtp x).pbs = s.pbs := rfl
@[simp] theorem State.withOtp_mrv (s : State) (x : Otp) : (s.withOtp x).mrv = s.mrv := rfl
@[simp] theorem State.withOtp_rings (s : State) (x : Otp) : (s.withOtp x).rings = s.rings := rfl
@[simp] theorem State.withOtp_strobes (s : State) (x : Otp) : (s.withOtp x).strobes = s.strobes := rfl
@[simp] theorem State.withOtp_discardEv (s : State) (x : Otp) : (s.withOtp x).discardEv = s.discardEv := rfl
@[simp] theorem State.withOtp_slots (s : State) (x : Otp) : (s.withOtp x).slots = s.slots := rfl
@[simp] theorem State.withOtp_noc (s : State) (x : Otp) : (s.withOtp x).noc = s.noc := rfl
@[simp] theorem State.withOtp_dma (s : State) (x : Otp) : (s.withOtp x).dma = s.dma := rfl
@[simp] theorem State.withOtp_fab (s : State) (x : Otp) : (s.withOtp x).fab = s.fab := rfl
@[simp] theorem State.withOtp_mbx (s : State) (x : Otp) : (s.withOtp x).mbx = s.mbx := rfl
@[simp] theorem State.withOtp_pcie (s : State) (x : Otp) : (s.withOtp x).pcie = s.pcie := rfl
@[simp] theorem State.withOtp_bar4 (s : State) (x : Otp) : (s.withOtp x).bar4 = s.bar4 := rfl
@[simp] theorem State.withOtp_hbmHeld (s : State) (x : Otp) : (s.withOtp x).hbmHeld = s.hbmHeld := rfl
@[simp] theorem State.withOtp_eth (s : State) (x : Otp) : (s.withOtp x).eth = s.eth := rfl
@[simp] theorem State.withOtp_mcLog (s : State) (x : Otp) : (s.withOtp x).mcLog = s.mcLog := rfl
@[simp] theorem State.withOtp_evtSent (s : State) (x : Otp) : (s.withOtp x).evtSent = s.evtSent := rfl
@[simp] theorem State.withOtp_cstore (s : State) (x : Otp) : (s.withOtp x).cstore = s.cstore := rfl
@[simp] theorem State.withOtp_ldr (s : State) (x : Otp) : (s.withOtp x).ldr = s.ldr := rfl
@[simp] theorem State.withOtp_nand (s : State) (x : Otp) : (s.withOtp x).nand = s.nand := rfl
@[simp] theorem State.withOtp_sto (s : State) (x : Otp) : (s.withOtp x).sto = s.sto := rfl
@[simp] theorem State.withOtp_flt (s : State) (x : Otp) : (s.withOtp x).flt = s.flt := rfl
@[simp] theorem State.withOtp_pwr (s : State) (x : Otp) : (s.withOtp x).pwr = s.pwr := rfl
@[simp] theorem State.withOtp_lehr (s : State) (x : Otp) : (s.withOtp x).lehr = s.lehr := rfl
@[simp] theorem State.withOtp_start (s : State) (x : Otp) : (s.withOtp x).start = s.start := rfl
@[simp] theorem State.withOtp_bst (s : State) (x : Otp) : (s.withOtp x).bst = s.bst := rfl
@[simp] theorem State.withOtp_otp (s : State) (x : Otp) : (s.withOtp x).otp = x := rfl
@[simp] theorem State.withOtp_lcs (s : State) (x : Otp) : (s.withOtp x).lcs = s.lcs := rfl
@[simp] theorem State.withOtp_jtag (s : State) (x : Otp) : (s.withOtp x).jtag = s.jtag := rfl
@[simp] theorem State.withOtp_dbgReads (s : State) (x : Otp) : (s.withOtp x).dbgReads = s.dbgReads := rfl
@[simp] theorem State.withOtp_spineOn (s : State) (x : Otp) : (s.withOtp x).spineOn = s.spineOn := rfl
@[simp] theorem State.withOtp_free (s : State) (x : Otp) : (s.withOtp x).free = s.free := rfl
@[simp] theorem State.withOtp_out (s : State) (x : Otp) : (s.withOtp x).out = s.out := rfl
@[simp] theorem State.withLcs_pending (s : State) (x : Lcs) : (s.withLcs x).pending = s.pending := rfl
@[simp] theorem State.withLcs_regs (s : State) (x : Lcs) : (s.withLcs x).regs = s.regs := rfl
@[simp] theorem State.withLcs_latch (s : State) (x : Lcs) : (s.withLcs x).latch = s.latch := rfl
@[simp] theorem State.withLcs_shadow (s : State) (x : Lcs) : (s.withLcs x).shadow = s.shadow := rfl
@[simp] theorem State.withLcs_steps (s : State) (x : Lcs) : (s.withLcs x).steps = s.steps := rfl
@[simp] theorem State.withLcs_routes (s : State) (x : Lcs) : (s.withLcs x).routes = s.routes := rfl
@[simp] theorem State.withLcs_dm (s : State) (x : Lcs) : (s.withLcs x).dm = s.dm := rfl
@[simp] theorem State.withLcs_dmBad (s : State) (x : Lcs) : (s.withLcs x).dmBad = s.dmBad := rfl
@[simp] theorem State.withLcs_results (s : State) (x : Lcs) : (s.withLcs x).results = s.results := rfl
@[simp] theorem State.withLcs_stamps (s : State) (x : Lcs) : (s.withLcs x).stamps = s.stamps := rfl
@[simp] theorem State.withLcs_gobIn (s : State) (x : Lcs) : (s.withLcs x).gobIn = s.gobIn := rfl
@[simp] theorem State.withLcs_gobOut (s : State) (x : Lcs) : (s.withLcs x).gobOut = s.gobOut := rfl
@[simp] theorem State.withLcs_reqArea (s : State) (x : Lcs) : (s.withLcs x).reqArea = s.reqArea := rfl
@[simp] theorem State.withLcs_retBuf (s : State) (x : Lcs) : (s.withLcs x).retBuf = s.retBuf := rfl
@[simp] theorem State.withLcs_farIn (s : State) (x : Lcs) : (s.withLcs x).farIn = s.farIn := rfl
@[simp] theorem State.withLcs_tiles (s : State) (x : Lcs) : (s.withLcs x).tiles = s.tiles := rfl
@[simp] theorem State.withLcs_gafs (s : State) (x : Lcs) : (s.withLcs x).gafs = s.gafs := rfl
@[simp] theorem State.withLcs_ports (s : State) (x : Lcs) : (s.withLcs x).ports = s.ports := rfl
@[simp] theorem State.withLcs_hbm (s : State) (x : Lcs) : (s.withLcs x).hbm = s.hbm := rfl
@[simp] theorem State.withLcs_hbmBad (s : State) (x : Lcs) : (s.withLcs x).hbmBad = s.hbmBad := rfl
@[simp] theorem State.withLcs_hbmSoft (s : State) (x : Lcs) : (s.withLcs x).hbmSoft = s.hbmSoft := rfl
@[simp] theorem State.withLcs_tb (s : State) (x : Lcs) : (s.withLcs x).tb = s.tb := rfl
@[simp] theorem State.withLcs_irc (s : State) (x : Lcs) : (s.withLcs x).irc = s.irc := rfl
@[simp] theorem State.withLcs_pbs (s : State) (x : Lcs) : (s.withLcs x).pbs = s.pbs := rfl
@[simp] theorem State.withLcs_mrv (s : State) (x : Lcs) : (s.withLcs x).mrv = s.mrv := rfl
@[simp] theorem State.withLcs_rings (s : State) (x : Lcs) : (s.withLcs x).rings = s.rings := rfl
@[simp] theorem State.withLcs_strobes (s : State) (x : Lcs) : (s.withLcs x).strobes = s.strobes := rfl
@[simp] theorem State.withLcs_discardEv (s : State) (x : Lcs) : (s.withLcs x).discardEv = s.discardEv := rfl
@[simp] theorem State.withLcs_slots (s : State) (x : Lcs) : (s.withLcs x).slots = s.slots := rfl
@[simp] theorem State.withLcs_noc (s : State) (x : Lcs) : (s.withLcs x).noc = s.noc := rfl
@[simp] theorem State.withLcs_dma (s : State) (x : Lcs) : (s.withLcs x).dma = s.dma := rfl
@[simp] theorem State.withLcs_fab (s : State) (x : Lcs) : (s.withLcs x).fab = s.fab := rfl
@[simp] theorem State.withLcs_mbx (s : State) (x : Lcs) : (s.withLcs x).mbx = s.mbx := rfl
@[simp] theorem State.withLcs_pcie (s : State) (x : Lcs) : (s.withLcs x).pcie = s.pcie := rfl
@[simp] theorem State.withLcs_bar4 (s : State) (x : Lcs) : (s.withLcs x).bar4 = s.bar4 := rfl
@[simp] theorem State.withLcs_hbmHeld (s : State) (x : Lcs) : (s.withLcs x).hbmHeld = s.hbmHeld := rfl
@[simp] theorem State.withLcs_eth (s : State) (x : Lcs) : (s.withLcs x).eth = s.eth := rfl
@[simp] theorem State.withLcs_mcLog (s : State) (x : Lcs) : (s.withLcs x).mcLog = s.mcLog := rfl
@[simp] theorem State.withLcs_evtSent (s : State) (x : Lcs) : (s.withLcs x).evtSent = s.evtSent := rfl
@[simp] theorem State.withLcs_cstore (s : State) (x : Lcs) : (s.withLcs x).cstore = s.cstore := rfl
@[simp] theorem State.withLcs_ldr (s : State) (x : Lcs) : (s.withLcs x).ldr = s.ldr := rfl
@[simp] theorem State.withLcs_nand (s : State) (x : Lcs) : (s.withLcs x).nand = s.nand := rfl
@[simp] theorem State.withLcs_sto (s : State) (x : Lcs) : (s.withLcs x).sto = s.sto := rfl
@[simp] theorem State.withLcs_flt (s : State) (x : Lcs) : (s.withLcs x).flt = s.flt := rfl
@[simp] theorem State.withLcs_pwr (s : State) (x : Lcs) : (s.withLcs x).pwr = s.pwr := rfl
@[simp] theorem State.withLcs_lehr (s : State) (x : Lcs) : (s.withLcs x).lehr = s.lehr := rfl
@[simp] theorem State.withLcs_start (s : State) (x : Lcs) : (s.withLcs x).start = s.start := rfl
@[simp] theorem State.withLcs_bst (s : State) (x : Lcs) : (s.withLcs x).bst = s.bst := rfl
@[simp] theorem State.withLcs_otp (s : State) (x : Lcs) : (s.withLcs x).otp = s.otp := rfl
@[simp] theorem State.withLcs_lcs (s : State) (x : Lcs) : (s.withLcs x).lcs = x := rfl
@[simp] theorem State.withLcs_jtag (s : State) (x : Lcs) : (s.withLcs x).jtag = s.jtag := rfl
@[simp] theorem State.withLcs_dbgReads (s : State) (x : Lcs) : (s.withLcs x).dbgReads = s.dbgReads := rfl
@[simp] theorem State.withLcs_spineOn (s : State) (x : Lcs) : (s.withLcs x).spineOn = s.spineOn := rfl
@[simp] theorem State.withLcs_free (s : State) (x : Lcs) : (s.withLcs x).free = s.free := rfl
@[simp] theorem State.withLcs_out (s : State) (x : Lcs) : (s.withLcs x).out = s.out := rfl
@[simp] theorem State.withJtag_pending (s : State) (x : Jtag) : (s.withJtag x).pending = s.pending := rfl
@[simp] theorem State.withJtag_regs (s : State) (x : Jtag) : (s.withJtag x).regs = s.regs := rfl
@[simp] theorem State.withJtag_latch (s : State) (x : Jtag) : (s.withJtag x).latch = s.latch := rfl
@[simp] theorem State.withJtag_shadow (s : State) (x : Jtag) : (s.withJtag x).shadow = s.shadow := rfl
@[simp] theorem State.withJtag_steps (s : State) (x : Jtag) : (s.withJtag x).steps = s.steps := rfl
@[simp] theorem State.withJtag_routes (s : State) (x : Jtag) : (s.withJtag x).routes = s.routes := rfl
@[simp] theorem State.withJtag_dm (s : State) (x : Jtag) : (s.withJtag x).dm = s.dm := rfl
@[simp] theorem State.withJtag_dmBad (s : State) (x : Jtag) : (s.withJtag x).dmBad = s.dmBad := rfl
@[simp] theorem State.withJtag_results (s : State) (x : Jtag) : (s.withJtag x).results = s.results := rfl
@[simp] theorem State.withJtag_stamps (s : State) (x : Jtag) : (s.withJtag x).stamps = s.stamps := rfl
@[simp] theorem State.withJtag_gobIn (s : State) (x : Jtag) : (s.withJtag x).gobIn = s.gobIn := rfl
@[simp] theorem State.withJtag_gobOut (s : State) (x : Jtag) : (s.withJtag x).gobOut = s.gobOut := rfl
@[simp] theorem State.withJtag_reqArea (s : State) (x : Jtag) : (s.withJtag x).reqArea = s.reqArea := rfl
@[simp] theorem State.withJtag_retBuf (s : State) (x : Jtag) : (s.withJtag x).retBuf = s.retBuf := rfl
@[simp] theorem State.withJtag_farIn (s : State) (x : Jtag) : (s.withJtag x).farIn = s.farIn := rfl
@[simp] theorem State.withJtag_tiles (s : State) (x : Jtag) : (s.withJtag x).tiles = s.tiles := rfl
@[simp] theorem State.withJtag_gafs (s : State) (x : Jtag) : (s.withJtag x).gafs = s.gafs := rfl
@[simp] theorem State.withJtag_ports (s : State) (x : Jtag) : (s.withJtag x).ports = s.ports := rfl
@[simp] theorem State.withJtag_hbm (s : State) (x : Jtag) : (s.withJtag x).hbm = s.hbm := rfl
@[simp] theorem State.withJtag_hbmBad (s : State) (x : Jtag) : (s.withJtag x).hbmBad = s.hbmBad := rfl
@[simp] theorem State.withJtag_hbmSoft (s : State) (x : Jtag) : (s.withJtag x).hbmSoft = s.hbmSoft := rfl
@[simp] theorem State.withJtag_tb (s : State) (x : Jtag) : (s.withJtag x).tb = s.tb := rfl
@[simp] theorem State.withJtag_irc (s : State) (x : Jtag) : (s.withJtag x).irc = s.irc := rfl
@[simp] theorem State.withJtag_pbs (s : State) (x : Jtag) : (s.withJtag x).pbs = s.pbs := rfl
@[simp] theorem State.withJtag_mrv (s : State) (x : Jtag) : (s.withJtag x).mrv = s.mrv := rfl
@[simp] theorem State.withJtag_rings (s : State) (x : Jtag) : (s.withJtag x).rings = s.rings := rfl
@[simp] theorem State.withJtag_strobes (s : State) (x : Jtag) : (s.withJtag x).strobes = s.strobes := rfl
@[simp] theorem State.withJtag_discardEv (s : State) (x : Jtag) : (s.withJtag x).discardEv = s.discardEv := rfl
@[simp] theorem State.withJtag_slots (s : State) (x : Jtag) : (s.withJtag x).slots = s.slots := rfl
@[simp] theorem State.withJtag_noc (s : State) (x : Jtag) : (s.withJtag x).noc = s.noc := rfl
@[simp] theorem State.withJtag_dma (s : State) (x : Jtag) : (s.withJtag x).dma = s.dma := rfl
@[simp] theorem State.withJtag_fab (s : State) (x : Jtag) : (s.withJtag x).fab = s.fab := rfl
@[simp] theorem State.withJtag_mbx (s : State) (x : Jtag) : (s.withJtag x).mbx = s.mbx := rfl
@[simp] theorem State.withJtag_pcie (s : State) (x : Jtag) : (s.withJtag x).pcie = s.pcie := rfl
@[simp] theorem State.withJtag_bar4 (s : State) (x : Jtag) : (s.withJtag x).bar4 = s.bar4 := rfl
@[simp] theorem State.withJtag_hbmHeld (s : State) (x : Jtag) : (s.withJtag x).hbmHeld = s.hbmHeld := rfl
@[simp] theorem State.withJtag_eth (s : State) (x : Jtag) : (s.withJtag x).eth = s.eth := rfl
@[simp] theorem State.withJtag_mcLog (s : State) (x : Jtag) : (s.withJtag x).mcLog = s.mcLog := rfl
@[simp] theorem State.withJtag_evtSent (s : State) (x : Jtag) : (s.withJtag x).evtSent = s.evtSent := rfl
@[simp] theorem State.withJtag_cstore (s : State) (x : Jtag) : (s.withJtag x).cstore = s.cstore := rfl
@[simp] theorem State.withJtag_ldr (s : State) (x : Jtag) : (s.withJtag x).ldr = s.ldr := rfl
@[simp] theorem State.withJtag_nand (s : State) (x : Jtag) : (s.withJtag x).nand = s.nand := rfl
@[simp] theorem State.withJtag_sto (s : State) (x : Jtag) : (s.withJtag x).sto = s.sto := rfl
@[simp] theorem State.withJtag_flt (s : State) (x : Jtag) : (s.withJtag x).flt = s.flt := rfl
@[simp] theorem State.withJtag_pwr (s : State) (x : Jtag) : (s.withJtag x).pwr = s.pwr := rfl
@[simp] theorem State.withJtag_lehr (s : State) (x : Jtag) : (s.withJtag x).lehr = s.lehr := rfl
@[simp] theorem State.withJtag_start (s : State) (x : Jtag) : (s.withJtag x).start = s.start := rfl
@[simp] theorem State.withJtag_bst (s : State) (x : Jtag) : (s.withJtag x).bst = s.bst := rfl
@[simp] theorem State.withJtag_otp (s : State) (x : Jtag) : (s.withJtag x).otp = s.otp := rfl
@[simp] theorem State.withJtag_lcs (s : State) (x : Jtag) : (s.withJtag x).lcs = s.lcs := rfl
@[simp] theorem State.withJtag_jtag (s : State) (x : Jtag) : (s.withJtag x).jtag = x := rfl
@[simp] theorem State.withJtag_dbgReads (s : State) (x : Jtag) : (s.withJtag x).dbgReads = s.dbgReads := rfl
@[simp] theorem State.withJtag_spineOn (s : State) (x : Jtag) : (s.withJtag x).spineOn = s.spineOn := rfl
@[simp] theorem State.withJtag_free (s : State) (x : Jtag) : (s.withJtag x).free = s.free := rfl
@[simp] theorem State.withJtag_out (s : State) (x : Jtag) : (s.withJtag x).out = s.out := rfl
@[simp] theorem State.withDbgReads_pending (s : State) (x : List (Path × Nat × Nat)) : (s.withDbgReads x).pending = s.pending := rfl
@[simp] theorem State.withDbgReads_regs (s : State) (x : List (Path × Nat × Nat)) : (s.withDbgReads x).regs = s.regs := rfl
@[simp] theorem State.withDbgReads_latch (s : State) (x : List (Path × Nat × Nat)) : (s.withDbgReads x).latch = s.latch := rfl
@[simp] theorem State.withDbgReads_shadow (s : State) (x : List (Path × Nat × Nat)) : (s.withDbgReads x).shadow = s.shadow := rfl
@[simp] theorem State.withDbgReads_steps (s : State) (x : List (Path × Nat × Nat)) : (s.withDbgReads x).steps = s.steps := rfl
@[simp] theorem State.withDbgReads_routes (s : State) (x : List (Path × Nat × Nat)) : (s.withDbgReads x).routes = s.routes := rfl
@[simp] theorem State.withDbgReads_dm (s : State) (x : List (Path × Nat × Nat)) : (s.withDbgReads x).dm = s.dm := rfl
@[simp] theorem State.withDbgReads_dmBad (s : State) (x : List (Path × Nat × Nat)) : (s.withDbgReads x).dmBad = s.dmBad := rfl
@[simp] theorem State.withDbgReads_results (s : State) (x : List (Path × Nat × Nat)) : (s.withDbgReads x).results = s.results := rfl
@[simp] theorem State.withDbgReads_stamps (s : State) (x : List (Path × Nat × Nat)) : (s.withDbgReads x).stamps = s.stamps := rfl
@[simp] theorem State.withDbgReads_gobIn (s : State) (x : List (Path × Nat × Nat)) : (s.withDbgReads x).gobIn = s.gobIn := rfl
@[simp] theorem State.withDbgReads_gobOut (s : State) (x : List (Path × Nat × Nat)) : (s.withDbgReads x).gobOut = s.gobOut := rfl
@[simp] theorem State.withDbgReads_reqArea (s : State) (x : List (Path × Nat × Nat)) : (s.withDbgReads x).reqArea = s.reqArea := rfl
@[simp] theorem State.withDbgReads_retBuf (s : State) (x : List (Path × Nat × Nat)) : (s.withDbgReads x).retBuf = s.retBuf := rfl
@[simp] theorem State.withDbgReads_farIn (s : State) (x : List (Path × Nat × Nat)) : (s.withDbgReads x).farIn = s.farIn := rfl
@[simp] theorem State.withDbgReads_tiles (s : State) (x : List (Path × Nat × Nat)) : (s.withDbgReads x).tiles = s.tiles := rfl
@[simp] theorem State.withDbgReads_gafs (s : State) (x : List (Path × Nat × Nat)) : (s.withDbgReads x).gafs = s.gafs := rfl
@[simp] theorem State.withDbgReads_ports (s : State) (x : List (Path × Nat × Nat)) : (s.withDbgReads x).ports = s.ports := rfl
@[simp] theorem State.withDbgReads_hbm (s : State) (x : List (Path × Nat × Nat)) : (s.withDbgReads x).hbm = s.hbm := rfl
@[simp] theorem State.withDbgReads_hbmBad (s : State) (x : List (Path × Nat × Nat)) : (s.withDbgReads x).hbmBad = s.hbmBad := rfl
@[simp] theorem State.withDbgReads_hbmSoft (s : State) (x : List (Path × Nat × Nat)) : (s.withDbgReads x).hbmSoft = s.hbmSoft := rfl
@[simp] theorem State.withDbgReads_tb (s : State) (x : List (Path × Nat × Nat)) : (s.withDbgReads x).tb = s.tb := rfl
@[simp] theorem State.withDbgReads_irc (s : State) (x : List (Path × Nat × Nat)) : (s.withDbgReads x).irc = s.irc := rfl
@[simp] theorem State.withDbgReads_pbs (s : State) (x : List (Path × Nat × Nat)) : (s.withDbgReads x).pbs = s.pbs := rfl
@[simp] theorem State.withDbgReads_mrv (s : State) (x : List (Path × Nat × Nat)) : (s.withDbgReads x).mrv = s.mrv := rfl
@[simp] theorem State.withDbgReads_rings (s : State) (x : List (Path × Nat × Nat)) : (s.withDbgReads x).rings = s.rings := rfl
@[simp] theorem State.withDbgReads_strobes (s : State) (x : List (Path × Nat × Nat)) : (s.withDbgReads x).strobes = s.strobes := rfl
@[simp] theorem State.withDbgReads_discardEv (s : State) (x : List (Path × Nat × Nat)) : (s.withDbgReads x).discardEv = s.discardEv := rfl
@[simp] theorem State.withDbgReads_slots (s : State) (x : List (Path × Nat × Nat)) : (s.withDbgReads x).slots = s.slots := rfl
@[simp] theorem State.withDbgReads_noc (s : State) (x : List (Path × Nat × Nat)) : (s.withDbgReads x).noc = s.noc := rfl
@[simp] theorem State.withDbgReads_dma (s : State) (x : List (Path × Nat × Nat)) : (s.withDbgReads x).dma = s.dma := rfl
@[simp] theorem State.withDbgReads_fab (s : State) (x : List (Path × Nat × Nat)) : (s.withDbgReads x).fab = s.fab := rfl
@[simp] theorem State.withDbgReads_mbx (s : State) (x : List (Path × Nat × Nat)) : (s.withDbgReads x).mbx = s.mbx := rfl
@[simp] theorem State.withDbgReads_pcie (s : State) (x : List (Path × Nat × Nat)) : (s.withDbgReads x).pcie = s.pcie := rfl
@[simp] theorem State.withDbgReads_bar4 (s : State) (x : List (Path × Nat × Nat)) : (s.withDbgReads x).bar4 = s.bar4 := rfl
@[simp] theorem State.withDbgReads_hbmHeld (s : State) (x : List (Path × Nat × Nat)) : (s.withDbgReads x).hbmHeld = s.hbmHeld := rfl
@[simp] theorem State.withDbgReads_eth (s : State) (x : List (Path × Nat × Nat)) : (s.withDbgReads x).eth = s.eth := rfl
@[simp] theorem State.withDbgReads_mcLog (s : State) (x : List (Path × Nat × Nat)) : (s.withDbgReads x).mcLog = s.mcLog := rfl
@[simp] theorem State.withDbgReads_evtSent (s : State) (x : List (Path × Nat × Nat)) : (s.withDbgReads x).evtSent = s.evtSent := rfl
@[simp] theorem State.withDbgReads_cstore (s : State) (x : List (Path × Nat × Nat)) : (s.withDbgReads x).cstore = s.cstore := rfl
@[simp] theorem State.withDbgReads_ldr (s : State) (x : List (Path × Nat × Nat)) : (s.withDbgReads x).ldr = s.ldr := rfl
@[simp] theorem State.withDbgReads_nand (s : State) (x : List (Path × Nat × Nat)) : (s.withDbgReads x).nand = s.nand := rfl
@[simp] theorem State.withDbgReads_sto (s : State) (x : List (Path × Nat × Nat)) : (s.withDbgReads x).sto = s.sto := rfl
@[simp] theorem State.withDbgReads_flt (s : State) (x : List (Path × Nat × Nat)) : (s.withDbgReads x).flt = s.flt := rfl
@[simp] theorem State.withDbgReads_pwr (s : State) (x : List (Path × Nat × Nat)) : (s.withDbgReads x).pwr = s.pwr := rfl
@[simp] theorem State.withDbgReads_lehr (s : State) (x : List (Path × Nat × Nat)) : (s.withDbgReads x).lehr = s.lehr := rfl
@[simp] theorem State.withDbgReads_start (s : State) (x : List (Path × Nat × Nat)) : (s.withDbgReads x).start = s.start := rfl
@[simp] theorem State.withDbgReads_bst (s : State) (x : List (Path × Nat × Nat)) : (s.withDbgReads x).bst = s.bst := rfl
@[simp] theorem State.withDbgReads_otp (s : State) (x : List (Path × Nat × Nat)) : (s.withDbgReads x).otp = s.otp := rfl
@[simp] theorem State.withDbgReads_lcs (s : State) (x : List (Path × Nat × Nat)) : (s.withDbgReads x).lcs = s.lcs := rfl
@[simp] theorem State.withDbgReads_jtag (s : State) (x : List (Path × Nat × Nat)) : (s.withDbgReads x).jtag = s.jtag := rfl
@[simp] theorem State.withDbgReads_dbgReads (s : State) (x : List (Path × Nat × Nat)) : (s.withDbgReads x).dbgReads = x := rfl
@[simp] theorem State.withDbgReads_spineOn (s : State) (x : List (Path × Nat × Nat)) : (s.withDbgReads x).spineOn = s.spineOn := rfl
@[simp] theorem State.withDbgReads_free (s : State) (x : List (Path × Nat × Nat)) : (s.withDbgReads x).free = s.free := rfl
@[simp] theorem State.withDbgReads_out (s : State) (x : List (Path × Nat × Nat)) : (s.withDbgReads x).out = s.out := rfl
@[simp] theorem State.withSpineOn_pending (s : State) (x : Bool) : (s.withSpineOn x).pending = s.pending := rfl
@[simp] theorem State.withSpineOn_regs (s : State) (x : Bool) : (s.withSpineOn x).regs = s.regs := rfl
@[simp] theorem State.withSpineOn_latch (s : State) (x : Bool) : (s.withSpineOn x).latch = s.latch := rfl
@[simp] theorem State.withSpineOn_shadow (s : State) (x : Bool) : (s.withSpineOn x).shadow = s.shadow := rfl
@[simp] theorem State.withSpineOn_steps (s : State) (x : Bool) : (s.withSpineOn x).steps = s.steps := rfl
@[simp] theorem State.withSpineOn_routes (s : State) (x : Bool) : (s.withSpineOn x).routes = s.routes := rfl
@[simp] theorem State.withSpineOn_dm (s : State) (x : Bool) : (s.withSpineOn x).dm = s.dm := rfl
@[simp] theorem State.withSpineOn_dmBad (s : State) (x : Bool) : (s.withSpineOn x).dmBad = s.dmBad := rfl
@[simp] theorem State.withSpineOn_results (s : State) (x : Bool) : (s.withSpineOn x).results = s.results := rfl
@[simp] theorem State.withSpineOn_stamps (s : State) (x : Bool) : (s.withSpineOn x).stamps = s.stamps := rfl
@[simp] theorem State.withSpineOn_gobIn (s : State) (x : Bool) : (s.withSpineOn x).gobIn = s.gobIn := rfl
@[simp] theorem State.withSpineOn_gobOut (s : State) (x : Bool) : (s.withSpineOn x).gobOut = s.gobOut := rfl
@[simp] theorem State.withSpineOn_reqArea (s : State) (x : Bool) : (s.withSpineOn x).reqArea = s.reqArea := rfl
@[simp] theorem State.withSpineOn_retBuf (s : State) (x : Bool) : (s.withSpineOn x).retBuf = s.retBuf := rfl
@[simp] theorem State.withSpineOn_farIn (s : State) (x : Bool) : (s.withSpineOn x).farIn = s.farIn := rfl
@[simp] theorem State.withSpineOn_tiles (s : State) (x : Bool) : (s.withSpineOn x).tiles = s.tiles := rfl
@[simp] theorem State.withSpineOn_gafs (s : State) (x : Bool) : (s.withSpineOn x).gafs = s.gafs := rfl
@[simp] theorem State.withSpineOn_ports (s : State) (x : Bool) : (s.withSpineOn x).ports = s.ports := rfl
@[simp] theorem State.withSpineOn_hbm (s : State) (x : Bool) : (s.withSpineOn x).hbm = s.hbm := rfl
@[simp] theorem State.withSpineOn_hbmBad (s : State) (x : Bool) : (s.withSpineOn x).hbmBad = s.hbmBad := rfl
@[simp] theorem State.withSpineOn_hbmSoft (s : State) (x : Bool) : (s.withSpineOn x).hbmSoft = s.hbmSoft := rfl
@[simp] theorem State.withSpineOn_tb (s : State) (x : Bool) : (s.withSpineOn x).tb = s.tb := rfl
@[simp] theorem State.withSpineOn_irc (s : State) (x : Bool) : (s.withSpineOn x).irc = s.irc := rfl
@[simp] theorem State.withSpineOn_pbs (s : State) (x : Bool) : (s.withSpineOn x).pbs = s.pbs := rfl
@[simp] theorem State.withSpineOn_mrv (s : State) (x : Bool) : (s.withSpineOn x).mrv = s.mrv := rfl
@[simp] theorem State.withSpineOn_rings (s : State) (x : Bool) : (s.withSpineOn x).rings = s.rings := rfl
@[simp] theorem State.withSpineOn_strobes (s : State) (x : Bool) : (s.withSpineOn x).strobes = s.strobes := rfl
@[simp] theorem State.withSpineOn_discardEv (s : State) (x : Bool) : (s.withSpineOn x).discardEv = s.discardEv := rfl
@[simp] theorem State.withSpineOn_slots (s : State) (x : Bool) : (s.withSpineOn x).slots = s.slots := rfl
@[simp] theorem State.withSpineOn_noc (s : State) (x : Bool) : (s.withSpineOn x).noc = s.noc := rfl
@[simp] theorem State.withSpineOn_dma (s : State) (x : Bool) : (s.withSpineOn x).dma = s.dma := rfl
@[simp] theorem State.withSpineOn_fab (s : State) (x : Bool) : (s.withSpineOn x).fab = s.fab := rfl
@[simp] theorem State.withSpineOn_mbx (s : State) (x : Bool) : (s.withSpineOn x).mbx = s.mbx := rfl
@[simp] theorem State.withSpineOn_pcie (s : State) (x : Bool) : (s.withSpineOn x).pcie = s.pcie := rfl
@[simp] theorem State.withSpineOn_bar4 (s : State) (x : Bool) : (s.withSpineOn x).bar4 = s.bar4 := rfl
@[simp] theorem State.withSpineOn_hbmHeld (s : State) (x : Bool) : (s.withSpineOn x).hbmHeld = s.hbmHeld := rfl
@[simp] theorem State.withSpineOn_eth (s : State) (x : Bool) : (s.withSpineOn x).eth = s.eth := rfl
@[simp] theorem State.withSpineOn_mcLog (s : State) (x : Bool) : (s.withSpineOn x).mcLog = s.mcLog := rfl
@[simp] theorem State.withSpineOn_evtSent (s : State) (x : Bool) : (s.withSpineOn x).evtSent = s.evtSent := rfl
@[simp] theorem State.withSpineOn_cstore (s : State) (x : Bool) : (s.withSpineOn x).cstore = s.cstore := rfl
@[simp] theorem State.withSpineOn_ldr (s : State) (x : Bool) : (s.withSpineOn x).ldr = s.ldr := rfl
@[simp] theorem State.withSpineOn_nand (s : State) (x : Bool) : (s.withSpineOn x).nand = s.nand := rfl
@[simp] theorem State.withSpineOn_sto (s : State) (x : Bool) : (s.withSpineOn x).sto = s.sto := rfl
@[simp] theorem State.withSpineOn_flt (s : State) (x : Bool) : (s.withSpineOn x).flt = s.flt := rfl
@[simp] theorem State.withSpineOn_pwr (s : State) (x : Bool) : (s.withSpineOn x).pwr = s.pwr := rfl
@[simp] theorem State.withSpineOn_lehr (s : State) (x : Bool) : (s.withSpineOn x).lehr = s.lehr := rfl
@[simp] theorem State.withSpineOn_start (s : State) (x : Bool) : (s.withSpineOn x).start = s.start := rfl
@[simp] theorem State.withSpineOn_bst (s : State) (x : Bool) : (s.withSpineOn x).bst = s.bst := rfl
@[simp] theorem State.withSpineOn_otp (s : State) (x : Bool) : (s.withSpineOn x).otp = s.otp := rfl
@[simp] theorem State.withSpineOn_lcs (s : State) (x : Bool) : (s.withSpineOn x).lcs = s.lcs := rfl
@[simp] theorem State.withSpineOn_jtag (s : State) (x : Bool) : (s.withSpineOn x).jtag = s.jtag := rfl
@[simp] theorem State.withSpineOn_dbgReads (s : State) (x : Bool) : (s.withSpineOn x).dbgReads = s.dbgReads := rfl
@[simp] theorem State.withSpineOn_spineOn (s : State) (x : Bool) : (s.withSpineOn x).spineOn = x := rfl
@[simp] theorem State.withSpineOn_free (s : State) (x : Bool) : (s.withSpineOn x).free = s.free := rfl
@[simp] theorem State.withSpineOn_out (s : State) (x : Bool) : (s.withSpineOn x).out = s.out := rfl
@[simp] theorem State.withFree_pending (s : State) (x : Nat) : (s.withFree x).pending = s.pending := rfl
@[simp] theorem State.withFree_regs (s : State) (x : Nat) : (s.withFree x).regs = s.regs := rfl
@[simp] theorem State.withFree_latch (s : State) (x : Nat) : (s.withFree x).latch = s.latch := rfl
@[simp] theorem State.withFree_shadow (s : State) (x : Nat) : (s.withFree x).shadow = s.shadow := rfl
@[simp] theorem State.withFree_steps (s : State) (x : Nat) : (s.withFree x).steps = s.steps := rfl
@[simp] theorem State.withFree_routes (s : State) (x : Nat) : (s.withFree x).routes = s.routes := rfl
@[simp] theorem State.withFree_dm (s : State) (x : Nat) : (s.withFree x).dm = s.dm := rfl
@[simp] theorem State.withFree_dmBad (s : State) (x : Nat) : (s.withFree x).dmBad = s.dmBad := rfl
@[simp] theorem State.withFree_results (s : State) (x : Nat) : (s.withFree x).results = s.results := rfl
@[simp] theorem State.withFree_stamps (s : State) (x : Nat) : (s.withFree x).stamps = s.stamps := rfl
@[simp] theorem State.withFree_gobIn (s : State) (x : Nat) : (s.withFree x).gobIn = s.gobIn := rfl
@[simp] theorem State.withFree_gobOut (s : State) (x : Nat) : (s.withFree x).gobOut = s.gobOut := rfl
@[simp] theorem State.withFree_reqArea (s : State) (x : Nat) : (s.withFree x).reqArea = s.reqArea := rfl
@[simp] theorem State.withFree_retBuf (s : State) (x : Nat) : (s.withFree x).retBuf = s.retBuf := rfl
@[simp] theorem State.withFree_farIn (s : State) (x : Nat) : (s.withFree x).farIn = s.farIn := rfl
@[simp] theorem State.withFree_tiles (s : State) (x : Nat) : (s.withFree x).tiles = s.tiles := rfl
@[simp] theorem State.withFree_gafs (s : State) (x : Nat) : (s.withFree x).gafs = s.gafs := rfl
@[simp] theorem State.withFree_ports (s : State) (x : Nat) : (s.withFree x).ports = s.ports := rfl
@[simp] theorem State.withFree_hbm (s : State) (x : Nat) : (s.withFree x).hbm = s.hbm := rfl
@[simp] theorem State.withFree_hbmBad (s : State) (x : Nat) : (s.withFree x).hbmBad = s.hbmBad := rfl
@[simp] theorem State.withFree_hbmSoft (s : State) (x : Nat) : (s.withFree x).hbmSoft = s.hbmSoft := rfl
@[simp] theorem State.withFree_tb (s : State) (x : Nat) : (s.withFree x).tb = s.tb := rfl
@[simp] theorem State.withFree_irc (s : State) (x : Nat) : (s.withFree x).irc = s.irc := rfl
@[simp] theorem State.withFree_pbs (s : State) (x : Nat) : (s.withFree x).pbs = s.pbs := rfl
@[simp] theorem State.withFree_mrv (s : State) (x : Nat) : (s.withFree x).mrv = s.mrv := rfl
@[simp] theorem State.withFree_rings (s : State) (x : Nat) : (s.withFree x).rings = s.rings := rfl
@[simp] theorem State.withFree_strobes (s : State) (x : Nat) : (s.withFree x).strobes = s.strobes := rfl
@[simp] theorem State.withFree_discardEv (s : State) (x : Nat) : (s.withFree x).discardEv = s.discardEv := rfl
@[simp] theorem State.withFree_slots (s : State) (x : Nat) : (s.withFree x).slots = s.slots := rfl
@[simp] theorem State.withFree_noc (s : State) (x : Nat) : (s.withFree x).noc = s.noc := rfl
@[simp] theorem State.withFree_dma (s : State) (x : Nat) : (s.withFree x).dma = s.dma := rfl
@[simp] theorem State.withFree_fab (s : State) (x : Nat) : (s.withFree x).fab = s.fab := rfl
@[simp] theorem State.withFree_mbx (s : State) (x : Nat) : (s.withFree x).mbx = s.mbx := rfl
@[simp] theorem State.withFree_pcie (s : State) (x : Nat) : (s.withFree x).pcie = s.pcie := rfl
@[simp] theorem State.withFree_bar4 (s : State) (x : Nat) : (s.withFree x).bar4 = s.bar4 := rfl
@[simp] theorem State.withFree_hbmHeld (s : State) (x : Nat) : (s.withFree x).hbmHeld = s.hbmHeld := rfl
@[simp] theorem State.withFree_eth (s : State) (x : Nat) : (s.withFree x).eth = s.eth := rfl
@[simp] theorem State.withFree_mcLog (s : State) (x : Nat) : (s.withFree x).mcLog = s.mcLog := rfl
@[simp] theorem State.withFree_evtSent (s : State) (x : Nat) : (s.withFree x).evtSent = s.evtSent := rfl
@[simp] theorem State.withFree_cstore (s : State) (x : Nat) : (s.withFree x).cstore = s.cstore := rfl
@[simp] theorem State.withFree_ldr (s : State) (x : Nat) : (s.withFree x).ldr = s.ldr := rfl
@[simp] theorem State.withFree_nand (s : State) (x : Nat) : (s.withFree x).nand = s.nand := rfl
@[simp] theorem State.withFree_sto (s : State) (x : Nat) : (s.withFree x).sto = s.sto := rfl
@[simp] theorem State.withFree_flt (s : State) (x : Nat) : (s.withFree x).flt = s.flt := rfl
@[simp] theorem State.withFree_pwr (s : State) (x : Nat) : (s.withFree x).pwr = s.pwr := rfl
@[simp] theorem State.withFree_lehr (s : State) (x : Nat) : (s.withFree x).lehr = s.lehr := rfl
@[simp] theorem State.withFree_start (s : State) (x : Nat) : (s.withFree x).start = s.start := rfl
@[simp] theorem State.withFree_bst (s : State) (x : Nat) : (s.withFree x).bst = s.bst := rfl
@[simp] theorem State.withFree_otp (s : State) (x : Nat) : (s.withFree x).otp = s.otp := rfl
@[simp] theorem State.withFree_lcs (s : State) (x : Nat) : (s.withFree x).lcs = s.lcs := rfl
@[simp] theorem State.withFree_jtag (s : State) (x : Nat) : (s.withFree x).jtag = s.jtag := rfl
@[simp] theorem State.withFree_dbgReads (s : State) (x : Nat) : (s.withFree x).dbgReads = s.dbgReads := rfl
@[simp] theorem State.withFree_spineOn (s : State) (x : Nat) : (s.withFree x).spineOn = s.spineOn := rfl
@[simp] theorem State.withFree_free (s : State) (x : Nat) : (s.withFree x).free = x := rfl
@[simp] theorem State.withFree_out (s : State) (x : Nat) : (s.withFree x).out = s.out := rfl
@[simp] theorem State.withOut_pending (s : State) (x : List Output) : (s.withOut x).pending = s.pending := rfl
@[simp] theorem State.withOut_regs (s : State) (x : List Output) : (s.withOut x).regs = s.regs := rfl
@[simp] theorem State.withOut_latch (s : State) (x : List Output) : (s.withOut x).latch = s.latch := rfl
@[simp] theorem State.withOut_shadow (s : State) (x : List Output) : (s.withOut x).shadow = s.shadow := rfl
@[simp] theorem State.withOut_steps (s : State) (x : List Output) : (s.withOut x).steps = s.steps := rfl
@[simp] theorem State.withOut_routes (s : State) (x : List Output) : (s.withOut x).routes = s.routes := rfl
@[simp] theorem State.withOut_dm (s : State) (x : List Output) : (s.withOut x).dm = s.dm := rfl
@[simp] theorem State.withOut_dmBad (s : State) (x : List Output) : (s.withOut x).dmBad = s.dmBad := rfl
@[simp] theorem State.withOut_results (s : State) (x : List Output) : (s.withOut x).results = s.results := rfl
@[simp] theorem State.withOut_stamps (s : State) (x : List Output) : (s.withOut x).stamps = s.stamps := rfl
@[simp] theorem State.withOut_gobIn (s : State) (x : List Output) : (s.withOut x).gobIn = s.gobIn := rfl
@[simp] theorem State.withOut_gobOut (s : State) (x : List Output) : (s.withOut x).gobOut = s.gobOut := rfl
@[simp] theorem State.withOut_reqArea (s : State) (x : List Output) : (s.withOut x).reqArea = s.reqArea := rfl
@[simp] theorem State.withOut_retBuf (s : State) (x : List Output) : (s.withOut x).retBuf = s.retBuf := rfl
@[simp] theorem State.withOut_farIn (s : State) (x : List Output) : (s.withOut x).farIn = s.farIn := rfl
@[simp] theorem State.withOut_tiles (s : State) (x : List Output) : (s.withOut x).tiles = s.tiles := rfl
@[simp] theorem State.withOut_gafs (s : State) (x : List Output) : (s.withOut x).gafs = s.gafs := rfl
@[simp] theorem State.withOut_ports (s : State) (x : List Output) : (s.withOut x).ports = s.ports := rfl
@[simp] theorem State.withOut_hbm (s : State) (x : List Output) : (s.withOut x).hbm = s.hbm := rfl
@[simp] theorem State.withOut_hbmBad (s : State) (x : List Output) : (s.withOut x).hbmBad = s.hbmBad := rfl
@[simp] theorem State.withOut_hbmSoft (s : State) (x : List Output) : (s.withOut x).hbmSoft = s.hbmSoft := rfl
@[simp] theorem State.withOut_tb (s : State) (x : List Output) : (s.withOut x).tb = s.tb := rfl
@[simp] theorem State.withOut_irc (s : State) (x : List Output) : (s.withOut x).irc = s.irc := rfl
@[simp] theorem State.withOut_pbs (s : State) (x : List Output) : (s.withOut x).pbs = s.pbs := rfl
@[simp] theorem State.withOut_mrv (s : State) (x : List Output) : (s.withOut x).mrv = s.mrv := rfl
@[simp] theorem State.withOut_rings (s : State) (x : List Output) : (s.withOut x).rings = s.rings := rfl
@[simp] theorem State.withOut_strobes (s : State) (x : List Output) : (s.withOut x).strobes = s.strobes := rfl
@[simp] theorem State.withOut_discardEv (s : State) (x : List Output) : (s.withOut x).discardEv = s.discardEv := rfl
@[simp] theorem State.withOut_slots (s : State) (x : List Output) : (s.withOut x).slots = s.slots := rfl
@[simp] theorem State.withOut_noc (s : State) (x : List Output) : (s.withOut x).noc = s.noc := rfl
@[simp] theorem State.withOut_dma (s : State) (x : List Output) : (s.withOut x).dma = s.dma := rfl
@[simp] theorem State.withOut_fab (s : State) (x : List Output) : (s.withOut x).fab = s.fab := rfl
@[simp] theorem State.withOut_mbx (s : State) (x : List Output) : (s.withOut x).mbx = s.mbx := rfl
@[simp] theorem State.withOut_pcie (s : State) (x : List Output) : (s.withOut x).pcie = s.pcie := rfl
@[simp] theorem State.withOut_bar4 (s : State) (x : List Output) : (s.withOut x).bar4 = s.bar4 := rfl
@[simp] theorem State.withOut_hbmHeld (s : State) (x : List Output) : (s.withOut x).hbmHeld = s.hbmHeld := rfl
@[simp] theorem State.withOut_eth (s : State) (x : List Output) : (s.withOut x).eth = s.eth := rfl
@[simp] theorem State.withOut_mcLog (s : State) (x : List Output) : (s.withOut x).mcLog = s.mcLog := rfl
@[simp] theorem State.withOut_evtSent (s : State) (x : List Output) : (s.withOut x).evtSent = s.evtSent := rfl
@[simp] theorem State.withOut_cstore (s : State) (x : List Output) : (s.withOut x).cstore = s.cstore := rfl
@[simp] theorem State.withOut_ldr (s : State) (x : List Output) : (s.withOut x).ldr = s.ldr := rfl
@[simp] theorem State.withOut_nand (s : State) (x : List Output) : (s.withOut x).nand = s.nand := rfl
@[simp] theorem State.withOut_sto (s : State) (x : List Output) : (s.withOut x).sto = s.sto := rfl
@[simp] theorem State.withOut_flt (s : State) (x : List Output) : (s.withOut x).flt = s.flt := rfl
@[simp] theorem State.withOut_pwr (s : State) (x : List Output) : (s.withOut x).pwr = s.pwr := rfl
@[simp] theorem State.withOut_lehr (s : State) (x : List Output) : (s.withOut x).lehr = s.lehr := rfl
@[simp] theorem State.withOut_start (s : State) (x : List Output) : (s.withOut x).start = s.start := rfl
@[simp] theorem State.withOut_bst (s : State) (x : List Output) : (s.withOut x).bst = s.bst := rfl
@[simp] theorem State.withOut_otp (s : State) (x : List Output) : (s.withOut x).otp = s.otp := rfl
@[simp] theorem State.withOut_lcs (s : State) (x : List Output) : (s.withOut x).lcs = s.lcs := rfl
@[simp] theorem State.withOut_jtag (s : State) (x : List Output) : (s.withOut x).jtag = s.jtag := rfl
@[simp] theorem State.withOut_dbgReads (s : State) (x : List Output) : (s.withOut x).dbgReads = s.dbgReads := rfl
@[simp] theorem State.withOut_spineOn (s : State) (x : List Output) : (s.withOut x).spineOn = s.spineOn := rfl
@[simp] theorem State.withOut_free (s : State) (x : List Output) : (s.withOut x).free = s.free := rfl
@[simp] theorem State.withOut_out (s : State) (x : List Output) : (s.withOut x).out = x := rfl

end Sys2Proof.Machine
end

