-- ==== Sys2Proof/Laws/Tick.lean ====
section
/-!
SUPPORT. What each operation of Machine/Tick.lean leaves alone.
-/

set_option linter.all false

namespace Sys2Proof.Machine

theorem State.tickTime_leaves {μ : Nat} {s₀ : State} {s : State} (hl : Leaves μ s₀ s) (hμ : 0x100 ||| μ = μ)  :
    Leaves μ s₀ (State.tickTime s) := by
  refine hl.step (k := 0x100) ?_ hμ
  clear hl hμ
  unfold State.tickTime
  try dsimp only
  repeat' first
    | with_reducible assumption
    | with_reducible exact Leaves.refl _ _
    | decide
    | (with_reducible apply Part.bit (p := .tbRegs) <;> first | decide | exact regPart_tbRegs (by omega) (by omega))
    | with_reducible apply Leaves.wr64
    | dsimp only

theorem State.tickLehr_leaves {μ : Nat} {s₀ : State} {s : State} (hl : Leaves μ s₀ s) (hμ : 0x80000000000000002 ||| μ = μ)  :
    Leaves μ s₀ (State.tickLehr s) := by
  refine hl.step (k := 0x80000000000000002) ?_ hμ
  clear hl hμ
  unfold State.tickLehr
  try dsimp only
  repeat' first
    | with_reducible assumption
    | with_reducible exact Leaves.refl _ _
    | decide
    | (with_reducible apply Part.bit (p := .pwrRegs) <;> first | decide | exact regPart_pwrRegs (by omega) (by omega))
    | with_reducible apply Leaves.wr64
    | with_reducible apply Leaves.upd_lehr
    | with_reducible apply Leaves.ite
    | dsimp only

theorem State.tickNoc_leaves {μ : Nat} {s₀ : State} {s : State} (hl : Leaves μ s₀ s) (hμ : 0x8000000000200 ||| μ = μ)  :
    Leaves μ s₀ (State.tickNoc s) := by
  refine hl.step (k := 0x8000000000200) ?_ hμ
  clear hl hμ
  unfold State.tickNoc
  try dsimp only
  repeat' first
    | with_reducible assumption
    | with_reducible exact Leaves.refl _ _
    | decide
    | (with_reducible apply Part.bit (p := .nocRegs) <;> first | decide | exact regPart_nocRegs (by omega) (by omega))
    | with_reducible apply Leaves.wr64
    | with_reducible apply Leaves.upd_noc
    | with_reducible apply Leaves.ite
    | dsimp only

theorem State.tickPtp_leaves {μ : Nat} {s₀ : State} {s : State} (hl : Leaves μ s₀ s) (hμ : 0x400000000000000 ||| μ = μ)  :
    Leaves μ s₀ (State.tickPtp s) := by
  refine hl.step (k := 0x400000000000000) ?_ hμ
  clear hl hμ
  unfold State.tickPtp
  try dsimp only
  repeat' first
    | with_reducible assumption
    | with_reducible exact Leaves.refl _ _
    | decide
    | with_reducible apply State.setEthp_leaves
    | with_reducible refine Leaves.forEach (fun _ _ _ => ?_) ?_
    | with_reducible refine Leaves.forEachFst (fun _ _ _ => ?_) ?_
    | split
    | dsimp only

theorem State.tickTest_leaves {μ : Nat} {s₀ : State} {s : State} (hl : Leaves μ s₀ s) (hμ : 0x8 ||| μ = μ)  :
    Leaves μ s₀ (State.tickTest s) := by
  refine hl.step (k := 0x8) ?_ hμ
  clear hl hμ
  unfold State.tickTest
  try dsimp only
  repeat' first
    | with_reducible assumption
    | with_reducible exact Leaves.refl _ _
    | decide
    | with_reducible apply Part.bit (F.FLT_STAT_TEST_BUSY_part ..)
    | with_reducible apply Leaves.wr
    | with_reducible apply Leaves.ite
    | dsimp only

theorem State.tick_leaves {μ : Nat} {s₀ : State} {s : State} (hl : Leaves μ s₀ s) (hμ : 0x18089db8080000002b1a ||| μ = μ)  :
    Leaves μ s₀ (State.tick s) := by
  refine hl.step (k := 0x18089db8080000002b1a) ?_ hμ
  clear hl hμ
  unfold State.tick
  try dsimp only
  repeat' first
    | with_reducible assumption
    | with_reducible exact Leaves.refl _ _
    | decide
    | with_reducible apply State.creditTick_leaves
    | with_reducible apply State.endClock_leaves
    | with_reducible apply State.registerCounts_leaves
    | with_reducible apply State.sampleAB_leaves
    | with_reducible apply State.sampleZ_leaves
    | with_reducible apply State.tickFab_leaves
    | with_reducible apply State.tickLehr_leaves
    | with_reducible apply State.tickNoc_leaves
    | with_reducible apply State.tickPtp_leaves
    | with_reducible apply State.tickTest_leaves
    | with_reducible apply State.tickTime_leaves
    | with_reducible apply Leaves.ite
    | dsimp only

end Sys2Proof.Machine
end

