-- ==== Sys2Proof/Tests/Slice0.lean ====
section
/-!
SUPPORT. Own tests: the smoke test of `Instr.wf`, a few single steps with values worked out in the manual, and for every
clause of a statement that has hypotheses a witness: a concrete state and operands that meet them together.
-/

open Sys2Proof Sys2Proof.Machine

namespace Sys2Proof.Tests

set_option Elab.async false
set_option linter.unusedVariables false

/-- The state a command answers, or the state before. -/
def after (c : Instr) (s : State) : State :=
  match exec c s with
  | .next t => t
  | _ => s

/-- A sound frame of member 7 that carries a message. -/
def fromSeven (bcast : Bool) (m : IrcMsg) : FrameHdr := sealed ⟨0, 0, 0, 7, bcast, 0, restOf m⟩ m

/-- A frame that ends in the check sequence of its body is sound (R274). -/
theorem fcsGood_append (bs : List Byte) : fcsGood (bs ++ fcsOf bs) = true := by
  simp [fcsGood, frameBody, fcsOf, leBytes]

/-! ### Terms that stand for no operation (one for each check of `Instr.wf`) -/

theorem test_wf_gobInData : Instr.wf (.gobInDataWrite 0 2047 [1, 2]) = false := by decide

theorem test_wf_gthTrainDone : Instr.wf (.gthTrainDone 0 []) = false := by decide

theorem test_wf_pixelBusBeat : Instr.wf (.pixelBusBeat 0 ⟨[], 0, 0, false, false, false⟩) = false := by decide

theorem test_wf_bar2Read : Instr.wf (.bar2Request 0 0 none .good []) = false := by decide

theorem test_wf_bar2Write : Instr.wf (.bar2Request 0 0 (some []) .good []) = false := by decide

theorem test_wf_bar4 : Instr.wf (.bar4Request 0xffff#16 0 none .good) = false := by decide

theorem test_wf_trigger : Instr.wf (.trigger 0 (fromSeven true (.trigger 0 0 2 [])) 0#48 0#64 2#32 []) = false := by decide +kernel

/-- A term that no operation carries runs too: nothing stops the machine. -/
theorem test_ill_formed_runs : ∃ t, exec (.bar4Request 0xffff#16 0 none .good) State.reset = .next t :=
  ⟨_, rfl⟩

/-! ### Values the manual works out -/

/-- The worked case of R440, TB_TIME across a carry: the low half is answered and the high half captured. -/
theorem test_timeLowCaptures :
    (after (.loCaptureRead .core 0x80030#26) (State.reset.wr64 0x80030 0x1fffffff0)).out =
      [.read .core 0x80030 0xfffffff0] := by decide +kernel

/-- The same worked case: TB_TIME has moved on, and the high half read is the captured one. -/
theorem test_timeHighIsCaptured :
    (after (.loCaptureRead .core 0x80034#26)
      ((after (.loCaptureRead .core 0x80030#26) (State.reset.wr64 0x80030 0x1fffffff0)).wr64 0x80030 0x200000000)).out =
      [.read .core 0x80030 0xfffffff0, .read .core 0x80034 1] := by decide +kernel

/-- The worked case of R419: the word after bit 28 decodes as INVALID, the whole pattern as PRODUCTION. -/
theorem test_lcPrefix : lcDecode 0x1fffffff = 4 ∧ lcDecode 0xffffffffff = 2 := by decide

/-- R419: 25 OTP words and the 24 bits 16 to 39 lead from TEST to PRODUCTION. -/
theorem test_lcOperations : State.reset.otp.operations 2 = 49 := by decide +kernel

/-- The step word of step 2 of the 4-bit counter: EVAL_EN with truth table 0x0066 on DM[2], DM[1], ZERO, DM[0]. -/
theorem test_counterStep : stepKind 0x20066001000700000000 = 2 ∧ stepTT 0x20066001000700000000 = 0x66 := by decide

/-- Its step 0: IN of gob-in bit 112. -/
theorem test_counterIn : stepKind 0x30070000000000000000 = 3 ∧ stepTT 0x30070000000000000000 = 112 := by decide

/-- R438: a counter stops at its largest value. -/
theorem test_counterStops :
    ((State.reset.wr F.NOC_PAR_CNT_COUNT 0xffffffff).bump F.NOC_PAR_CNT_COUNT).rd F.NOC_PAR_CNT_COUNT = 0xffffffff := by
  decide +kernel

/-- R438: reading a counter clears it. -/
theorem test_counterReadClears :
    (after (.counterSnapshotRead .core 0x0c#26) (State.reset.setReg 0x0c 5)).out = [.read .core 0x0c 5] ∧
      (after (.counterSnapshotRead .core 0x0c#26) (State.reset.setReg 0x0c 5)).reg 0x0c = 0 := by decide +kernel

/-- R10: a bit set in the clock of its clear stays set. -/
theorem test_setWins :
    (after (.evtPendWrite .core 1 0x3#32 0x1#32) (State.reset.setReg 0x40104 0x3)).reg 0x40104 = 0x1 := by decide +kernel

/-- R34: at reset logical tile 9 is at position 1 of sector 1. -/
theorem test_physAtReset : State.reset.phys 9 = 10 := by decide +kernel

/-- R153: the Z edge copies the low word. -/
theorem test_zEdge : (after (.encZEdge true) ((State.reset.wr64 0x80018 0x500000007).wr F.TB_ENC_CFG_FILT 1)).reg 0x80038 = 7 := by decide +kernel

/-- R151: both levels at once leave the position alone. -/
theorem test_illegalTransition :
    (after (.encoderEdge true true) ((State.reset.wr F.TB_CTRL_ENC_EN 1).wr F.TB_ENC_CFG_FILT 1)).rd64 0x80018 = 0 ∧
      (after (.encoderEdge true true) ((State.reset.wr F.TB_CTRL_ENC_EN 1).wr F.TB_ENC_CFG_FILT 1)).rd F.TB_ENC_ERR_CNT_COUNT = 1 := by decide +kernel

/-- R430: the identification code of stepping B0. -/
theorem test_idcode : (after .idcode State.reset).out = [.punty 1, .punty 0x213129cf] := by decide +kernel

/-- R26: without ARRAY the window reads 0. -/
theorem test_windowClosed :
    (after (.arrayDebugWindowAccess ⟨.core, 4, 0x1008000#26⟩ none)
      ((State.reset.setReg 0x1008000 5).wr F.LCS_DBG_SCOPE_SCOPES 0)).out = [.read .core 0x1008000 0] := by decide +kernel

/-- R155: an idle tick of 1.6 ns is 16 counts of TB_TIME. -/
theorem test_tick : State.reset.tick.now = 16 := by decide +kernel

/-! ### Witnesses of the statements about the machine -/

theorem witness_idleTick : ∃ s : State, s.pending = [] ∧ s.live = true := ⟨State.reset, by decide, by decide +kernel⟩

theorem witness_idleTickOff : ∃ s : State, s.pending = [] ∧ s.live = false ∧ s.lehrOn = false :=
  ⟨State.reset.withSpineOn false, by decide, by decide +kernel, by decide +kernel⟩

theorem witness_idleTickS4 : ∃ s : State, s.pending = [] ∧ s.live = false ∧ s.lehrOn = true :=
  ⟨(State.reset.withSpineOn false).withLehr { State.reset.lehr with s4 := true }, by decide, by decide +kernel,
    by decide +kernel⟩

theorem witness_queueStep : ∃ s t : State, s.pending ≠ [] ∧ step s = .next t :=
  ⟨{ State.reset with pending := [.powerLoss] }, (State.reset.unpowered).withSpineOn false, by decide, rfl⟩

theorem witness_footprintKept : ∃ (c : Instr) (s t : State), exec c s = .next t :=
  ⟨.pciePerstDeassert, State.reset, after .pciePerstDeassert State.reset, rfl⟩

theorem witness_canonKept : ∃ s t : State, Canon s ∧ step s = .next t :=
  ⟨State.reset, State.reset.tick, by constructor <;> decide, rfl⟩

theorem witness_memoryKept : ∃ (c : Instr) (q : List Instr) (s t : State),
    s.pending = c :: q ∧ step s = .next t ∧ Part.hbm ∉ footprint c ∧ Part.gobIn ∉ footprint c ∧
      Part.gobOut ∉ footprint c ∧ Part.dm ∉ footprint c :=
  ⟨.pciePerstDeassert, [], { State.reset with pending := [.pciePerstDeassert] }, after .pciePerstDeassert State.reset,
    rfl, rfl, by decide, by decide, by decide, by decide⟩

theorem witness_otpStep : ∃ s t : State, step s = .next t ∧ s.otp.lc < 2 ^ 64 ∧ t.otp.lc < 2 ^ 64 ∧ lcDecode s.otp.lc = 1 :=
  ⟨State.reset, State.reset.tick, rfl, by decide, by decide +kernel, by decide⟩

theorem witness_endOfLifeStep :
    ∃ s t : State, step s = .next t ∧ s.otp.lc < 2 ^ 64 ∧ t.otp.lc < 2 ^ 64 ∧ lcDecode s.otp.lc = 3 :=
  ⟨State.reset.withOtp { State.reset.otp with lc := 2 ^ 64 - 1 },
    (State.reset.withOtp { State.reset.otp with lc := 2 ^ 64 - 1 }).tick, rfl, by decide, by decide +kernel, by decide⟩

theorem witness_productionStep :
    ∃ s t : State, step s = .next t ∧ s.otp.lc < 2 ^ 64 ∧ t.otp.lc < 2 ^ 64 ∧ lcDecode s.otp.lc = 2 :=
  ⟨State.reset.withOtp { State.reset.otp with lc := 2 ^ 40 - 1 },
    (State.reset.withOtp { State.reset.otp with lc := 2 ^ 40 - 1 }).tick, rfl, by decide, by decide +kernel, by decide⟩

theorem witness_poweredOff : ∃ (c : Instr) (s t : State), s.spineOn = false ∧ exec c s = .next t :=
  ⟨.encZEdge true, State.reset.withSpineOn false, State.reset.withSpineOn false, by decide, rfl⟩

theorem witness_heldInReset : ∃ (c : Instr) (s t : State), s.start.inReset = true ∧ exec c s = .next t :=
  ⟨.encZEdge true, State.reset.withStart { State.reset.start with inReset := true },
    State.reset.withStart { State.reset.start with inReset := true }, by decide, rfl⟩

/-! ### Witnesses of the clauses -/

theorem witness_hbmTemperatureRule_reaches :
    ∃ (s : State) (c : Fin 2) (temp : BitVec 8),
    s.live = true ∧ s.rd (F.HBM_CTRL_TEMP_HI c) < 128 ∧ (s.rd (F.HBM_CTRL_TEMP_HI c) : Int) ≤ toSigned 8 temp.toNat ∧
        toSigned 8 (s.rd (F.HBM_TEMP c)) < s.rd (F.HBM_CTRL_TEMP_HI c) :=
  ⟨State.reset.wr (F.HBM_CTRL_TEMP_HI 1) 90, 1, 95#8, by decide +kernel⟩

theorem witness_indexPulseRule_edge :
    ∃ (s : State) (z : Bool),
    s.live = true ∧ s.tb.encZ = false ∧ (pinFilter (s.rd F.TB_ENC_CFG_FILT) s.tb.encZ s.tb.runZ z).1 = true :=
  ⟨(State.reset.setReg 0x80018 77).wr F.TB_ENC_CFG_FILT 1, true, by decide +kernel⟩

theorem witness_illegalTransitionRule_both :
    ∃ (s : State) (a : Bool) (b : Bool),
    s.live = true ∧ s.on F.TB_CTRL_ENC_EN = true ∧
        (pinFilter (s.rd F.TB_ENC_CFG_FILT) s.tb.encA s.tb.runA a).1 ≠ s.tb.encA ∧
        (pinFilter (s.rd F.TB_ENC_CFG_FILT) s.tb.encB s.tb.runB b).1 ≠ s.tb.encB :=
  ⟨((State.reset.wr F.TB_CTRL_ENC_EN 1).wr F.TB_ENC_CFG_MODE 2).wr F.TB_ENC_CFG_FILT 1, true, true, by decide +kernel⟩

theorem witness_debugWindowClosedRule_read :
    ∃ (s : State) (p : Path) (off : BitVec 26),
    s.live = true ∧ s.pathOpen p = true ∧ off.toNat % 4 = 0 ∧ inDebug off.toNat = true ∧ s.arrayScope = false :=
  ⟨State.reset.wr F.LCS_DBG_SCOPE_SCOPES 0, .core, 0x1008100#26, by decide +kernel⟩

theorem witness_debugWindowClosedRule_readWide :
    ∃ (s : State) (p : Path) (off : BitVec 26),
    s.live = true ∧ s.pathOpen p = true ∧ off.toNat % 8 = 0 ∧ inDebug off.toNat = true ∧ s.arrayScope = false :=
  ⟨State.reset.wr F.LCS_DBG_SCOPE_SCOPES 0, .core, 0x1008100#26, by decide +kernel⟩

theorem witness_debugWindowClosedRule_write :
    ∃ (s : State) (p : Path) (off : BitVec 26) (v : BitVec 64),
    s.live = true ∧ s.pathOpen p = true ∧ off.toNat % 4 = 0 ∧ inDebug off.toNat = true ∧ s.arrayScope = false :=
  ⟨State.reset.wr F.LCS_DBG_SCOPE_SCOPES 0, .core, 0x1008000#26, 5#64, by decide +kernel⟩

theorem witness_debugWindowClosedRule_writeWide :
    ∃ (s : State) (p : Path) (off : BitVec 26) (v : BitVec 64),
    s.live = true ∧ s.pathOpen p = true ∧ off.toNat % 8 = 0 ∧ inDebug off.toNat = true ∧ s.arrayScope = false :=
  ⟨State.reset.wr F.LCS_DBG_SCOPE_SCOPES 0, .core, 0x1008000#26, 5#64, by decide +kernel⟩

theorem witness_routerParityRule_parity :
    ∃ (s : State) (r : Fin 48) (out : Fin 7) (j : Fin 3) (inject : List Packet) (flip : BitVec 64) (s1 : State) (x :
        At),
    s.live = true ∧ (s.handPackets r inject).feed r (s.nocCycle j) = s1 ∧ hasPort r out = true ∧
        Tab.get (fun _ => 0) s.noc.sentAt (r.val * 8 + out.val) ≠ s.nocCycle j + 1 ∧
        s1.chosen r out (s.nocCycle j % 128) (s1.waiting r out (s.nocCycle j)) = some x ∧
        sideOk (x.2.2.side ^^^ flip) = false :=
  ⟨State.reset.withNoc
      { State.reset.noc with queues := [(((8 * 8 + 5) * 4 + 0) * 4 + 1, [⟨withPar 0, 0, withPar 0, 1, true, true, 0, 0, 0, [1]⟩])] }, 8, 1, 0, [], 1, State.reset.withNoc { State.reset.noc with queues := [(((8 * 8 + 5) * 4 + 0) * 4 + 1, [⟨withPar 0, 0, withPar 0, 1, true, true, 0, 0, 0, [1]⟩])] }, (5, 0, ⟨withPar 0, 0, withPar 0, 1, true, true, 0, 0, 0, [1]⟩), by decide +kernel⟩

theorem witness_pairReadsRule_captured :
    ∃ (s : State) (p : Path) (off : BitVec 26) (v : Word),
    s.live = true ∧ s.pathOpen p = true ∧ off.toNat % 4 = 0 ∧ isPairLo (off.toNat - 4) = true ∧
        isPairLo off.toNat = false ∧ (regRow? off.toNat).isSome = true ∧
        Tab.get (fun _ => none) s.shadow (shadowKey p off.toNat) = some v :=
  ⟨State.reset.withShadow (Tab.set (fun _ => none) [] (shadowKey .core 0x80034) (some 1)), .core, 0x80034#26, 1#32,
      by decide +kernel⟩

theorem witness_pairReadsRule_live :
    ∃ (s : State) (p : Path) (off : BitVec 26),
    s.live = true ∧ s.pathOpen p = true ∧ off.toNat % 4 = 0 ∧ isPairLo (off.toNat - 4) = true ∧
        isPairLo off.toNat = false ∧ (regRow? off.toNat).isSome = true ∧
        Tab.get (fun _ => none) s.shadow (shadowKey p off.toNat) = none :=
  ⟨State.reset, .core, 0x80034#26, by decide +kernel⟩

theorem witness_nocCommands_nocCtrlSwitch :
    ∃ (s : State) (path : Path) (v : BitVec 32),
    s.live = true ∧ s.pathOpen path = true :=
  ⟨State.reset, .core, 0#32, by decide +kernel⟩

theorem witness_nocCommands_nocBankSwitch :
    ∃ (s : State),
    s.live = true ∧ s.on F.NOC_STAT_SWITCH_PEND = true ∧ s.switchFault (1 - s.rd F.NOC_STAT_BANK) = none :=
  ⟨State.reset.wr F.NOC_STAT_SWITCH_PEND 1, by decide +kernel⟩

theorem witness_nocCommands_nocBankSwitchRefused :
    ∃ (s : State) (cause : Nat),
    s.live = true ∧ s.on F.NOC_STAT_SWITCH_PEND = true ∧ s.switchFault (1 - s.rd F.NOC_STAT_BANK) = some cause :=
  ⟨(State.reset.wr F.NOC_STAT_SWITCH_PEND 1).withSlots [(49152 + 127, 8)], 3, by decide +kernel⟩

theorem witness_nocCommands_nocPacket :
    ∃ (s : State) (r : Fin 48) (out : Fin 7) (j : Fin 3) (inject : List Packet) (flip : BitVec 64) (s1 : State) (x :
        At),
    s.live = true ∧ (s.handPackets r inject).feed r (s.nocCycle j) = s1 ∧ hasPort r out = true ∧
        Tab.get (fun _ => 0) s.noc.sentAt (r.val * 8 + out.val) ≠ s.nocCycle j + 1 ∧
        s1.chosen r out (s.nocCycle j % 128) (s1.waiting r out (s.nocCycle j)) = some x ∧
        sideOk (x.2.2.side ^^^ flip) = true :=
  ⟨State.reset.withNoc
      { State.reset.noc with queues := [(((8 * 8 + 5) * 4 + 0) * 4 + 1, [⟨withPar 0, 0, withPar 0, 1, true, true, 0, 0, 0, [1]⟩])] }, 8, 1, 0, [], 0, State.reset.withNoc { State.reset.noc with queues := [(((8 * 8 + 5) * 4 + 0) * 4 + 1, [⟨withPar 0, 0, withPar 0, 1, true, true, 0, 0, 0, [1]⟩])] }, (5, 0, ⟨withPar 0, 0, withPar 0, 1, true, true, 0, 0, 0, [1]⟩), by decide +kernel⟩

theorem witness_nocCommands_nocPacketHop :
    ∃ (s : State) (r : Fin 48) (out : Fin 7) (j : Fin 3) (inject : List Packet) (flip : BitVec 64) (s1 : State) (x :
        At),
    s.live = true ∧ (s.handPackets r inject).feed r (s.nocCycle j) = s1 ∧ hasPort r out = true ∧
        Tab.get (fun _ => 0) s.noc.sentAt (r.val * 8 + out.val) ≠ s.nocCycle j + 1 ∧
        s1.chosen r out (s.nocCycle j % 128) (s1.waiting r out (s.nocCycle j)) = some x ∧
        sideOk (x.2.2.side ^^^ flip) = true ∧ out.val < 5 ∧ x.2.2.first = true ∧
        s1.hops (linkEnd r out).1 (linkEnd r out).2 (x.2.2.side ^^^ flip) ≠ [] :=
  ⟨State.reset.withNoc
      { State.reset.noc with queues := [(((8 * 8 + 5) * 4 + 0) * 4 + 1, [⟨withPar 0, 0, withPar 0, 1, true, true, 0, 0, 0, [1]⟩])] }, 8, 1, 0, [], 0, State.reset.withNoc { State.reset.noc with queues := [(((8 * 8 + 5) * 4 + 0) * 4 + 1, [⟨withPar 0, 0, withPar 0, 1, true, true, 0, 0, 0, [1]⟩])] }, (5, 0, ⟨withPar 0, 0, withPar 0, 1, true, true, 0, 0, 0, [1]⟩), by decide +kernel⟩

theorem witness_nocCommands_nocPacketParity :
    ∃ (s : State) (r : Fin 48) (out : Fin 7) (j : Fin 3) (inject : List Packet) (flip : BitVec 64) (s1 : State) (x :
        At),
    s.live = true ∧ (s.handPackets r inject).feed r (s.nocCycle j) = s1 ∧ hasPort r out = true ∧
        Tab.get (fun _ => 0) s.noc.sentAt (r.val * 8 + out.val) ≠ s.nocCycle j + 1 ∧
        s1.chosen r out (s.nocCycle j % 128) (s1.waiting r out (s.nocCycle j)) = some x ∧
        sideOk (x.2.2.side ^^^ flip) = false :=
  ⟨State.reset.withNoc
      { State.reset.noc with queues := [(((8 * 8 + 5) * 4 + 0) * 4 + 1, [⟨withPar 0, 0, withPar 0, 1, true, true, 0, 0, 0, [1]⟩])] }, 8, 1, 0, [], 1, State.reset.withNoc { State.reset.noc with queues := [(((8 * 8 + 5) * 4 + 0) * 4 + 1, [⟨withPar 0, 0, withPar 0, 1, true, true, 0, 0, 0, [1]⟩])] }, (5, 0, ⟨withPar 0, 0, withPar 0, 1, true, true, 0, 0, 0, [1]⟩), by decide +kernel⟩

theorem witness_nocCommands_nocPacketNone :
    ∃ (s : State) (r : Fin 48) (out : Fin 7) (j : Fin 3) (inject : List Packet) (flip : BitVec 64) (s1 : State),
    s.live = true ∧ (s.handPackets r inject).feed r (s.nocCycle j) = s1 ∧
        s1.chosen r out (s.nocCycle j % 128) (s1.waiting r out (s.nocCycle j)) = none :=
  ⟨State.reset, 8, 1, 0, [], 0, State.reset, by decide +kernel⟩

theorem witness_nocCommands_nocPacketInject :
    ∃ (s : State) (r : Fin 48) (out : Fin 7) (j : Fin 3) (x : Packet) (flip : BitVec 64),
    s.live = true ∧ s.noc.queues = [] ∧ s.noc.sources = [] ∧ x.endpoint.val < endpoints r x.port ∧
        (x.payload.length ≤ (if x.cls = 3 then 1 else 8)) ∧ s.injectRate r (5 + b2n x.port) x.endpoint = 0 :=
  ⟨State.reset, 8, 1, 0, ⟨false, 0, 1, 0, 0, false, 0, 0, []⟩, 0, by decide +kernel⟩

theorem witness_nocCommands_gatewayFenced :
    ∃ (s : State) (d : Fin 28) (cls : Fin 4) (head : BitVec 64),
    s.live = true ∧ d.val < 16 ∧ s.fencedTile (8 * d) = true :=
  ⟨((State.reset.wr (F.SEC_CTRL_ASSIGNED 0) 1).wr (F.GAF_STATUS_STATE 0) 5), 0, 1, 0, by decide +kernel⟩

theorem witness_nocCommands_gatewayDead :
    ∃ (s : State) (d : Fin 28) (cls : Fin 4) (head : BitVec 64),
    s.live = true ∧ 16 ≤ d.val ∧ d.val < 18 ∧ s.stackDead (d - 16) = true :=
  ⟨State.reset.wr (F.HBM_STATUS_LINK_ERR 1) 1, 17, 1, 0, by decide +kernel⟩

theorem witness_nocCommands_gatewayAsleep :
    ∃ (s : State) (d : Fin 28) (cls : Fin 4) (head : BitVec 64),
    s.live = true ∧ d.val < 18 ∧ head.getLsbD 41 = true ∧ (d.val < 16 && s.fencedTile (8 * d)) = false ∧
        (decide (16 ≤ d.val) && s.stackDead (d - 16)) = false ∧ s.mustWait d = true :=
  ⟨State.reset.wr (F.SEC_STATUS_PSTATE 0) 1, 0, 1, 0x20000000000, by decide +kernel⟩

theorem witness_nocCommands_gatewayAwake :
    ∃ (s : State) (d : Fin 28) (cls : Fin 4) (head : BitVec 64),
    s.live = true ∧ d.val < 18 ∧ (d.val < 16 && s.fencedTile (8 * d)) = false ∧
        (decide (16 ≤ d.val) && s.stackDead (d - 16)) = false ∧ s.mustWait d = false ∧ s.domWaits d = false :=
  ⟨State.reset.wr (F.SEC_STATUS_PSTATE 0) 0, 0, 1, 0, by decide +kernel⟩

theorem witness_nocCommands_gatewayWakes :
    ∃ (s : State) (d : Fin 28) (cls : Fin 4) (head : BitVec 64),
    s.live = true ∧ d.val < 18 ∧ head.getLsbD 41 = false ∧ (d.val < 16 && s.heldDown d) = false ∧
        (d.val < 16 && s.fencedTile (8 * d)) = false ∧ (decide (16 ≤ d.val) && s.stackDead (d - 16)) = false ∧
        s.asleep d = true ∧ (s.dom d).down = none :=
  ⟨State.reset.wr (F.SEC_STATUS_PSTATE 0) 1, 0, 1, 0, by decide +kernel⟩

theorem witness_nocCommands_gatewayUntrained :
    ∃ (s : State) (d : Fin 28) (cls : Fin 4) (head : BitVec 64),
    s.live = true ∧ 16 ≤ d.val ∧ d.val < 18 ∧ s.stackDead (d - 16) = false ∧ s.stackServes (d - 16) = false ∧
        s.mustWait d = false :=
  ⟨State.reset, 16, 1, 0, by decide +kernel⟩

theorem witness_nocCommands_gatewayOff :
    ∃ (s : State) (d : Fin 28) (cls : Fin 4) (head : BitVec 64),
    s.live = true ∧ 18 ≤ d.val ∧ s.offByEn d = true :=
  ⟨State.reset, 19, 1, 0, by decide +kernel⟩

theorem witness_nocCommands_gatewayOn :
    ∃ (s : State) (d : Fin 28) (cls : Fin 4) (head : BitVec 64),
    s.live = true ∧ 18 ≤ d.val ∧ s.offByEn d = false :=
  ⟨State.reset.wr (F.ETH_CTRL_EN 1) 1, 20, 1, 0, by decide +kernel⟩

theorem witness_registerAccess_registerWrite :
    ∃ (s : State) (a : Access) (v : BitVec 64) (r : RegRow) (b : Block) (i : Nat) (rel : Nat),
    s.live = true ∧ s.pathOpen a.path = true ∧ a.width = 4 ∧ a.off.toNat % 4 = 0 ∧ inDebug a.off.toNat = false ∧
        regRow? a.off.toNat = some r ∧ blockAt a.off.toNat = some (b, i, rel) ∧ quietReg b i rel = true ∧
        r.breaksZero (v.toNat % 2 ^ 32) = false :=
  ⟨State.reset, ⟨.core, 4, 0x108#26⟩, 0x01200002#64, ⟨"REL_CFG", 0x108, 0x0, 1, [⟨31, 27, .mbz, 0⟩, ⟨26, 24, .rw, 0⟩,
      ⟨23, 16, .rw, 0x20⟩, ⟨15, 8, .mbz, 0⟩, ⟨7, 0, .rw, 2⟩]⟩, .sys, 0, 0x108, by decide +kernel⟩

theorem witness_registerAccess_misalignedWrite :
    ∃ (s : State) (a : Access) (v : BitVec 64),
    s.live = true ∧ s.pathOpen a.path = true ∧
        ((a.width = 4 && a.off.toNat % 4 == 0) || (a.width = 8 && a.off.toNat % 8 == 0)) = false :=
  ⟨State.reset, ⟨.core, 4, 0x109#26⟩, 0#64, by decide +kernel⟩

theorem witness_registerAccess_holeWrite :
    ∃ (s : State) (a : Access) (v : BitVec 64),
    s.live = true ∧ s.pathOpen a.path = true ∧ a.width = 4 ∧ a.off.toNat % 4 = 0 ∧ inDebug a.off.toNat = false ∧
        regRow? a.off.toNat = none :=
  ⟨State.reset, ⟨.core, 4, 0x200#26⟩, 0#64, by decide +kernel⟩

theorem witness_registerAccess_loCaptureRead :
    ∃ (s : State) (p : Path) (off : BitVec 26),
    s.live = true ∧ s.pathOpen p = true ∧ off.toNat % 4 = 0 ∧ isPairLo off.toNat = true ∧
        (regRow? off.toNat).isSome = true :=
  ⟨State.reset, .core, 0x80030#26, by decide +kernel⟩

theorem witness_registerAccess_counterSnapshotRead :
    ∃ (s : State) (p : Path) (off : BitVec 26) (r : RegRow),
    s.live = true ∧ s.pathOpen p = true ∧ off.toNat % 4 = 0 ∧ inDebug off.toNat = false ∧
        regRow? off.toNat = some r ∧ r.counts = true :=
  ⟨State.reset, .core, 0x0c#26, ⟨"ACCESS_ERR_CNT", 0xc, 0x0, 1, [⟨31, 0, .rc, 0⟩]⟩, by decide +kernel⟩

theorem witness_registerAccess_debugWindowRead :
    ∃ (s : State) (p : Path) (off : BitVec 26),
    s.live = true ∧ s.pathOpen p = true ∧ off.toNat % 4 = 0 ∧ inDebug off.toNat = true ∧ s.arrayScope = true ∧
        sliceHas (windowTile off.toNat).2 = true ∧ s.dmWaits off.toNat = false :=
  ⟨State.reset, .core, 0x1008100#26, by decide +kernel⟩

theorem witness_registerAccess_debugWindowWaits :
    ∃ (s : State) (p : Path) (off : BitVec 26),
    s.live = true ∧ s.pathOpen p = true ∧ off.toNat % 4 = 0 ∧ inDebug off.toNat = true ∧ s.arrayScope = true ∧
        s.dmWaits off.toNat = true :=
  ⟨(State.reset.wr (F.SEC_CTRL_ASSIGNED 0) 1).withGafs [(0, { Gaffer.init with phase := .window })], .core,
      0x1008100#26, by decide +kernel⟩

theorem witness_registerAccess_debugWindowClosed :
    ∃ (s : State) (p : Path) (off : BitVec 26),
    s.live = true ∧ s.pathOpen p = true ∧ off.toNat % 4 = 0 ∧ inDebug off.toNat = true ∧ s.arrayScope = false :=
  ⟨State.reset.wr F.LCS_DBG_SCOPE_SCOPES 0, .core, 0x1008100#26, by decide +kernel⟩

theorem witness_registerAccess_debugWindowSelect :
    ∃ (s : State) (p : Path) (off : BitVec 26) (v : BitVec 64),
    s.live = true ∧ s.pathOpen p = true ∧ off.toNat % 4 = 0 ∧ inDebug off.toNat = true ∧ s.arrayScope = true ∧
        (windowTile off.toNat).2 = 0x8000 ∧ v.toNat % 2 ^ 32 < 2 ^ 16 :=
  ⟨State.reset, .core, 0x1008000#26, 5#64, by decide +kernel⟩

theorem witness_registerAccess_debugDmReadTimeout :
    ∃ (s : State) (p : Path) (off : BitVec 26) (r : Path × Nat × Nat),
    s.live = true ∧ (s.dbgReads.find? fun r => r.1 == p && r.2.1 == off.toNat) = some r :=
  ⟨State.reset.withDbgReads [(.core, 0x1008100, 4)], .core, 0x1008100#26, (.core, 0x1008100, 4), by decide +kernel⟩

theorem witness_registerAccess_bar0Request :
    ∃ (s : State) (off : BitVec 26) (r : RegRow) (tlp : Tlp),
    s.live = true ∧ s.on F.PCI_STAT_READY = true ∧ s.tlpFault tlp false = none ∧ off.toNat % 4 = 0 ∧
        inDebug off.toNat = false ∧ regRow? off.toNat = some r ∧
        (isPairLo off.toNat || isPairLo (off.toNat - 4) || r.counts) = false ∧ s.pcie.d3hot = false ∧
        stampRegOf off.toNat = none :=
  ⟨State.reset.wr F.PCI_STAT_READY 1, 0#26, ⟨"ID", 0x0, 0x0, 1, [⟨31, 16, .ro, 0x1312⟩, ⟨15, 8, .ro, 0xb0⟩, ⟨7, 2,
      .res, 0⟩, ⟨1, 0, .ro, 0⟩]⟩, .good, by decide +kernel⟩

theorem witness_registerAccess_bar0Write :
    ∃ (s : State) (off : BitVec 26) (v : BitVec 64) (tlp : Tlp) (r : RegRow) (b : Block) (i : Nat) (rel : Nat),
    s.live = true ∧ s.on F.PCI_STAT_READY = true ∧ s.tlpFault tlp true = none ∧ s.pcie.d3hot = false ∧
        off.toNat % 4 = 0 ∧ inDebug off.toNat = false ∧ regRow? off.toNat = some r ∧ blockAt off.toNat = some (b, i,
        rel) ∧ quietReg b i rel = true ∧ r.breaksZero (v.toNat % 2 ^ 32) = false :=
  ⟨State.reset.wr F.PCI_STAT_READY 1, 0x108#26, 0x01200002#64, .good, ⟨"REL_CFG", 0x108, 0x0, 1, [⟨31, 27, .mbz, 0⟩,
      ⟨26, 24, .rw, 0⟩, ⟨23, 16, .rw, 0x20⟩, ⟨15, 8, .mbz, 0⟩, ⟨7, 0, .rw, 2⟩]⟩, .sys, 0, 0x108, by decide +kernel⟩

theorem witness_sectorCommands_remap :
    ∃ (s : State) (p : Path) (c : Fin 16) (v : BitVec 32) (x : State),
    s.live = true ∧ s.pathOpen p = true ∧ s.stored p (0xa00000 + 0x10000 * c) (v ||| 0x400000).toNat = x ∧
        x.on (F.SEC_STATUS_REMAP_BUSY c) = false ∧ x.remapOk c = true :=
  ⟨State.reset, .core, 0, 0#32, State.reset.stored .core 0xa00000 0x400000, by decide +kernel⟩

theorem witness_sectorCommands_remapRefused :
    ∃ (s : State) (p : Path) (c : Fin 16) (v : BitVec 32) (x : State),
    s.live = true ∧ s.pathOpen p = true ∧ s.stored p (0xa00000 + 0x10000 * c) (v ||| 0x400000).toNat = x ∧
        x.on (F.SEC_STATUS_REMAP_BUSY c) = false ∧ x.remapOk c = false :=
  ⟨State.reset.wr (F.SEC_PHYS_MAP_SPARE_IN_USE 0) 1, .core, 0, 0#32,
      (State.reset.wr (F.SEC_PHYS_MAP_SPARE_IN_USE 0) 1).stored .core 0xa00000 0x400000, by decide +kernel⟩

theorem witness_sectorCommands_remapCopyDone :
    ∃ (s : State) (c : Fin 16) (k : Nat),
    s.live = true ∧ Tab.get (fun _ => none) s.ldr.remaps c.val = some k ∧ s.rd (F.SEC_STATUS_PSTATE c) = 0 ∧
        (s.bst.slice == some (9 * c.val + 8)) = false :=
  ⟨(State.reset.wr (F.SEC_STATUS_PSTATE 3) 0).withLdr { Loader.init with remaps := [(3, some 5)] }, 3, 5,
      by decide +kernel⟩

theorem witness_sectorCommands_remapCopyDoneMaps :
    ∃ (s : State) (c : Fin 16) (k : Nat),
    s.live = true ∧ k < 8 ∧ Tab.get (fun _ => none) s.ldr.remaps c.val = some k ∧ s.rd (F.SEC_STATUS_PSTATE c) = 0 ∧
        (s.bst.slice == some (9 * c.val + 8)) = false :=
  ⟨(State.reset.wr (F.SEC_STATUS_PSTATE 3) 0).withLdr { Loader.init with remaps := [(3, some 5)] }, 3, 5,
      by decide +kernel⟩

theorem witness_sectorCommands_verify :
    ∃ (s : State) (p : Path) (c : Fin 16) (v : BitVec 32) (x : State),
    s.live = true ∧ s.pathOpen p = true ∧ s.stored p (0xa00000 + 0x10000 * c) (v ||| 0x800000).toNat = x ∧
        x.on (F.SEC_STATUS_VERIFY_BUSY c) = false ∧
        (!x.on (F.SEC_CTRL_ASSIGNED c) || x.run (x.rd (F.SEC_CTRL_REGION c)) == 0 || x.run (x.rd (F.SEC_CTRL_REGION
        c)) == 1 || x.run (x.rd (F.SEC_CTRL_REGION c)) == 5) = true :=
  ⟨State.reset, .core, 0, 0#32, State.reset.stored .core 0xa00000 0x800000, by decide +kernel⟩

theorem witness_sectorCommands_verifyRefused :
    ∃ (s : State) (p : Path) (c : Fin 16) (v : BitVec 32) (x : State),
    s.live = true ∧ s.pathOpen p = true ∧ s.stored p (0xa00000 + 0x10000 * c) (v ||| 0x800000).toNat = x ∧
        x.on (F.SEC_STATUS_VERIFY_BUSY c) = false ∧
        (!x.on (F.SEC_CTRL_ASSIGNED c) || x.run (x.rd (F.SEC_CTRL_REGION c)) == 0 || x.run (x.rd (F.SEC_CTRL_REGION
        c)) == 1 || x.run (x.rd (F.SEC_CTRL_REGION c)) == 5) = false :=
  ⟨State.reset.wr (F.GAF_STATUS_STATE 0) 2, .core, 0, 0x10#32,
      (State.reset.wr (F.GAF_STATUS_STATE 0) 2).stored .core 0xa00000 0x800010, by decide +kernel⟩

theorem witness_sectorCommands_verifyPassClean :
    ∃ (s : State) (c : Fin 16),
    s.live = true ∧ s.on (F.SEC_STATUS_VERIFY_BUSY c) = true ∧ s.rd (F.SEC_STATUS_PSTATE c) = 0 ∧ (∀ k ∈ upTo 8,
        ∀ w ∈ (if s.verifyDual c then [false, true] else [false]),
        (s.foldSeen (8 * c.val + k) (s.verifyDual c) w (s.verifyLen c w)).toNat = s.foldExp (8 * c.val + k) w) ∧
        (∀ k ∈ upTo 8, ∀ r ∈ s.verifyRows c, s.badRows (8 * c.val + k) r.1 r.2 = []) :=
  ⟨(State.reset.wr (F.SEC_STATUS_VERIFY_BUSY 2) 1).wr (F.SEC_STATUS_PSTATE 2) 0, 2, by decide +kernel⟩

theorem witness_sectorCommands_verifyPassMismatch :
    ∃ (s : State) (c : Fin 16) (bad : List (Fin 8 × Fin 16384)) (k : Nat),
    s.live = true ∧ s.on (F.SEC_STATUS_VERIFY_BUSY c) = true ∧ s.rd (F.SEC_STATUS_PSTATE c) = 0 ∧ k < 8 ∧
        (s.foldSeen (8 * c.val + k) (s.verifyDual c) false (s.verifyLen c false)).toNat ≠ s.foldExp (8 * c.val + k)
        false :=
  ⟨((State.reset.wr (F.SEC_STATUS_VERIFY_BUSY 2) 1).wr (F.SEC_STATUS_PSTATE 2) 0).setReg (0x200010 + 0x10000 * 19) 5,
      2, [], 3, by decide +kernel⟩

theorem witness_sectorCommands_verifyPassBadRow :
    ∃ (s : State) (c : Fin 16) (k : Fin 8) (i : Fin 16384) (r : Nat × Nat),
    s.live = true ∧ s.on (F.SEC_STATUS_VERIFY_BUSY c) = true ∧ s.rd (F.SEC_STATUS_PSTATE c) = 0 ∧
        r ∈ s.verifyRows c ∧ (r.1 ≤ i.val ∧ i.val < r.1 + r.2) :=
  ⟨(State.reset.wr (F.SEC_STATUS_VERIFY_BUSY 2) 1).wr (F.SEC_STATUS_PSTATE 2) 0, 2, 3, 1, (0, 2048),
      by decide +kernel⟩

theorem witness_sectorCommands_dmClearEnd :
    ∃ (s : State) (n : Fin 16),
    s.live = true :=
  ⟨State.reset, 0, by decide +kernel⟩

theorem witness_stepWords_stepNop :
    ∃ (s : State) (t : Fin 128) (p : Fin 1024) (k : Fin 16384),
    s.live = true :=
  ⟨State.reset, 0, 0, 0, by decide +kernel⟩

theorem witness_stepWords_eval :
    ∃ (s : State) (t : Fin 128) (p : Fin 1024) (k : Fin 16384) (dmBad : Option DmBad) (rowBad : Option (Fin 16384))
        (n : Nat) (repl : Bool) (st : Nat) (w : Nat),
    s.live = true ∧ s.fetches t p k 1 n repl st w :=
  ⟨((State.reset.wr (F.SEC_CTRL_ASSIGNED 0) 1).setGaf 0 { State.reset.gaf 0 with phase := .window }).withSteps [(0 *
      2048 + 3, 0x1ffff000000000000000#80)], 0, 0, 3, none, none, 0, false, 3, 0x1ffff000000000000000,
      by decide +kernel⟩

theorem witness_stepWords_evalEn :
    ∃ (s : State) (t : Fin 128) (p : Fin 1024) (k : Fin 16384) (dmBad : Option DmBad) (rowBad : Option (Fin 16384))
        (n : Nat) (repl : Bool) (st : Nat) (w : Nat),
    s.live = true ∧ s.fetches t p k 2 n repl st w :=
  ⟨((State.reset.wr (F.SEC_CTRL_ASSIGNED 0) 1).setGaf 0 { State.reset.gaf 0 with phase := .window }).withSteps [(0 *
      2048 + 3, 0x200ff000000000000000#80)], 0, 0, 3, none, none, 0, false, 3, 0x200ff000000000000000,
      by decide +kernel⟩

theorem witness_stepWords_stepIn :
    ∃ (s : State) (t : Fin 128) (p : Fin 1024) (k : Fin 16384) (n : Nat) (repl : Bool) (st : Nat) (w : Nat),
    s.live = true ∧ s.fetches t p k 3 n repl st w :=
  ⟨((State.reset.wr (F.SEC_CTRL_ASSIGNED 0) 1).setGaf 0 { State.reset.gaf 0 with phase := .window }).withSteps [(0 *
      2048 + 3, 0x30010000000000000000#80)], 0, 0, 3, 0, false, 3, 0x30010000000000000000, by decide +kernel⟩

theorem witness_stepWords_mdata :
    ∃ (s : State) (t : Fin 128) (p : Fin 1024) (k : Fin 16384) (n : Nat) (repl : Bool) (st : Nat) (w : Nat),
    s.live = true ∧ s.fetches t p k 6 n repl st w :=
  ⟨(((State.reset.wr (F.SEC_CTRL_ASSIGNED 0) 1).wr (F.MPU_CL_MODE 0) 1).setGaf 0
      { State.reset.gaf 0 with phase := .window }).withSteps [(0 * 2048 + 3, 0x60010000000000000000#80)], 0, 0, 3, 0,
      true, 3, 0x60010000000000000000, by decide +kernel⟩

theorem witness_stepWords_brk :
    ∃ (s : State) (t : Fin 128) (p : Fin 1024) (k : Fin 16384) (dmBad : Option DmBad) (rowBad : Option (Fin 16384))
        (n : Nat) (repl : Bool) (st : Nat) (w : Nat),
    s.live = true ∧ s.fetches t p k 7 n repl st w :=
  ⟨((State.reset.wr (F.SEC_CTRL_ASSIGNED 0) 1).setGaf 0 { State.reset.gaf 0 with phase := .window }).withSteps [(0 *
      2048 + 3, 0x7ffff000000000000000#80)], 0, 0, 3, none, none, 0, false, 3, 0x7ffff000000000000000,
      by decide +kernel⟩

theorem witness_stepWords_invalidStepWord :
    ∃ (s : State) (t : Fin 128) (p : Fin 1024) (k : Fin 16384) (w : BitVec 80) (n : Nat) (repl : Bool) (st : Nat)
        (cause : Nat),
    s.live = true ∧ s.unitAt t p k = some (n, repl, st) ∧ stepInvalid repl w.toNat = some cause :=
  ⟨(State.reset.wr (F.SEC_CTRL_ASSIGNED 0) 1).setGaf 0 { State.reset.gaf 0 with phase := .window }, 0, 0, 3,
      0x80000000000000000000#80, 0, false, 3, 1, by decide +kernel⟩

theorem witness_stepBuffers_stepOut :
    ∃ (s : State) (t : Fin 128) (p : Fin 1024) (k : Fin 16384) (dmBad : Option DmBad) (rowBad : Option (Fin 16384))
        (n : Nat) (repl : Bool) (st : Nat) (w : Nat),
    s.live = true ∧ s.fetches t p k 4 n repl st w :=
  ⟨((State.reset.wr (F.SEC_CTRL_ASSIGNED 0) 1).setGaf 0 { State.reset.gaf 0 with phase := .window }).withSteps [(0 *
      2048 + 3, 0x40010000000000000000#80)], 0, 0, 3, none, none, 0, false, 3, 0x40010000000000000000,
      by decide +kernel⟩

theorem witness_stepBuffers_mreq :
    ∃ (s : State) (t : Fin 128) (p : Fin 1024) (k : Fin 16384) (dmBad : Option DmBad) (rowBad : Option (Fin 16384))
        (n : Nat) (repl : Bool) (st : Nat) (w : Nat),
    s.live = true ∧ s.fetches t p k 5 n repl st w :=
  ⟨((State.reset.wr (F.SEC_CTRL_ASSIGNED 0) 1).setGaf 0 { State.reset.gaf 0 with phase := .window }).withSteps [(0 *
      2048 + 3, 0x50010000000000000000#80)], 0, 0, 3, none, none, 0, false, 3, 0x50010000000000000000,
      by decide +kernel⟩

theorem witness_cycleBoundaries_cycleBoundaryB0 :
    ∃ (s : State) (n : Fin 16),
    s.live = true ∧ (s.gaf n).phase = .window :=
  ⟨(State.reset.wr (F.SEC_CTRL_ASSIGNED 0) 1).setGaf 0 { State.reset.gaf 0 with phase := .window }, 0,
      by decide +kernel⟩

theorem witness_cycleBoundaries_foldCompare :
    ∃ (s : State) (n : Fin 16),
    s.live = true ∧ (s.gaf n).phase = .b0 ∧ (∀ t ∈ s.regionTiles n,
        (s.fold t (s.dual n) (s.gaf n).cur.win (s.lenCode n (s.gaf n).cur.win)).toNat = s.foldExp t (s.gaf
        n).cur.win) :=
  ⟨(State.reset.wr (F.SEC_CTRL_ASSIGNED 0) 1).setGaf 0 { State.reset.gaf 0 with phase := .b0 }, 0, by decide +kernel⟩

theorem witness_cycleBoundaries_foldCompareMismatch :
    ∃ (s : State) (n : Fin 16) (t : Nat),
    s.live = true ∧ (s.gaf n).phase = .b0 ∧ t ∈ s.regionTiles n ∧
        (s.fold t (s.dual n) (s.gaf n).cur.win (s.lenCode n (s.gaf n).cur.win)).toNat ≠ s.foldExp t (s.gaf n).cur.win
        ∧ 2 ≤ s.run n ∧ s.run n ≤ 4 ∧ (s.gaf n).fence = none ∧ s.flt.f1 = false ∧ s.safe = false :=
  ⟨((((State.reset.wr (F.SEC_CTRL_ASSIGNED 0) 1).wr (F.GAF_STATUS_STATE 0) 3).wr64 0x200010 1)).setGaf 0
      { State.reset.gaf 0 with phase := .b0 }, 0, 0, by decide +kernel⟩

theorem witness_cycleBoundaries_gobOutCommit :
    ∃ (s : State) (n : Fin 16),
    s.live = true ∧ (s.gaf n).phase = .b3 :=
  ⟨(State.reset.wr (F.SEC_CTRL_ASSIGNED 0) 1).setGaf 0 { State.reset.gaf 0 with phase := .b3 }, 0, by decide +kernel⟩

theorem witness_cycleBoundaries_memoryCheck :
    ∃ (s : State) (n : Fin 16),
    s.live = true ∧ (s.gaf n).phase = .b4 ∧ s.lacking n = [] :=
  ⟨(State.reset.wr (F.SEC_CTRL_ASSIGNED 0) 1).setGaf 0 { State.reset.gaf 0 with phase := .b4 }, 0, by decide +kernel⟩

theorem witness_cycleBoundaries_memoryCheckStalls :
    ∃ (s : State) (n : Fin 16),
    s.live = true ∧ (s.gaf n).phase = .b4 ∧ s.lacking n ≠ [] ∧ s.rd (F.GAF_STALL_BOUND_BOUND n) ≠ 0 :=
  ⟨(((State.reset.wr (F.SEC_CTRL_ASSIGNED 0) 1).wr (F.GAF_STALL_BOUND_BOUND 0) 5).setGaf 0
      { State.reset.gaf 0 with phase := .b4 }).setPort 0 ⟨[⟨0, 0, false, 0, 0, [], 0, false, false, false, false,
      false, false⟩], []⟩, 0, by decide +kernel⟩

theorem witness_cycleBoundaries_memoryCheckPoisons :
    ∃ (s : State) (n : Fin 16),
    s.live = true ∧ (s.gaf n).phase = .b4 ∧ s.lacking n ≠ [] ∧ s.rd (F.GAF_STALL_BOUND_BOUND n) = 0 :=
  ⟨(((State.reset.wr (F.SEC_CTRL_ASSIGNED 0) 1).wr (F.GAF_STALL_BOUND_BOUND 0) 0).setGaf 0
      { State.reset.gaf 0 with phase := .b4 }).setPort 0 ⟨[⟨0, 0, false, 0, 0, [], 0, false, false, false, false,
      false, false⟩], []⟩, 0, by decide +kernel⟩

theorem witness_cycleBoundaries_stallEnd :
    ∃ (s : State) (n : Fin 16),
    s.live = true ∧ (s.gaf n).phase = .stalled ∧ s.lacking n = [] :=
  ⟨(State.reset.wr (F.SEC_CTRL_ASSIGNED 0) 1).setGaf 0 { State.reset.gaf 0 with phase := .stalled }, 0,
      by decide +kernel⟩

theorem witness_cycleBoundaries_stallBoundExpiry :
    ∃ (s : State) (n : Fin 16),
    s.live = true ∧ (s.gaf n).phase = .stalled :=
  ⟨(State.reset.wr (F.SEC_CTRL_ASSIGNED 0) 1).setGaf 0 { State.reset.gaf 0 with phase := .stalled }, 0,
      by decide +kernel⟩

theorem witness_cycleBoundaries_specialOperandLatch :
    ∃ (s : State) (n : Fin 16),
    s.live = true ∧ (s.gaf n).phase = .b8 :=
  ⟨(State.reset.wr (F.SEC_CTRL_ASSIGNED 0) 1).setGaf 0 { State.reset.gaf 0 with phase := .b8 }, 0, by decide +kernel⟩

theorem witness_cycleBoundaries_windowFix :
    ∃ (s : State) (n : Fin 16),
    s.live = true ∧ (s.gaf n).phase = .b12 :=
  ⟨State.reset.setGaf 0 { State.reset.gaf 0 with phase := .b12 }, 0, by decide +kernel⟩

theorem witness_cycleBoundaries_cycleEndFences :
    ∃ (s : State) (n : Fin 16) (cause : Nat) (src : Nat),
    s.live = true ∧ (s.gaf n).phase = .b16 ∧ (s.gaf n).fence = some (cause, src) ∧ (s.gaf n).restart = false :=
  ⟨State.reset.setGaf 0 { State.reset.gaf 0 with phase := .b16, fence := some (4, 16) }, 0, 4, 16, by decide +kernel⟩

theorem witness_cycleBoundaries_cycleEndStops :
    ∃ (s : State) (n : Fin 16) (cause : Nat),
    s.live = true ∧ (s.gaf n).phase = .b16 ∧ (s.gaf n).fence = none ∧ (s.gaf n).stop = some cause :=
  ⟨State.reset.setGaf 0 { State.reset.gaf 0 with phase := .b16, stop := some 2 }, 0, 2, by decide +kernel⟩

theorem witness_cycleBoundaries_cycleEndArmed :
    ∃ (s : State) (n : Fin 16),
    s.live = true ∧ (s.gaf n).phase = .b16 ∧ (s.gaf n).fence = none ∧ (s.gaf n).stop = none ∧
        (s.gaf n).haltHit = false ∧ (s.gaf n).restart = false ∧ (s.gaf n).next = none :=
  ⟨State.reset.setGaf 0 { State.reset.gaf 0 with phase := .b16 }, 0, by decide +kernel⟩

theorem witness_cycleBoundaries_cycleEnd :
    ∃ (s : State) (n : Fin 16) (c : Cycle),
    s.live = true ∧ (s.gaf n).phase = .b16 ∧ (s.gaf n).fence = none ∧ (s.gaf n).stop = none ∧
        (s.gaf n).haltHit = false ∧ (s.gaf n).restart = false ∧ (s.gaf n).next = some c ∧
        ((s.gaf n).nextFixed = true ∨ s.windowOpen = false) :=
  ⟨State.reset.setGaf 0 { State.reset.gaf 0 with phase := .b16, next := some ⟨false, false, []⟩ }, 0, ⟨false, false,
      []⟩, by decide +kernel⟩

theorem witness_gobDeliveries_gobInDataWrite :
    ∃ (s : State) (t : Fin 128) (off : Fin 2048) (bytes : List Byte) (keep : List Byte),
    s.live = true ∧ off.val + bytes.length ≤ 2048 ∧ s.fencedTile t = false ∧ (s.tileRegion t).isSome = true ∧
        s.mustWait (t.val / 8) = false ∧ s.gobHeld t = false ∧ s.on (F.MPU_GOB_STAT_FILL_CLOSED t) = false ∧
        ((if s.latched (F.MPU_GOB_CFG_FAR_IN t) = 1 then bytes.take (1920 - off.val) else bytes) = keep) :=
  ⟨(State.reset.wr (F.SEC_STATUS_PSTATE 0) 0).wr (F.SEC_CTRL_ASSIGNED 0) 1, 0, 64, [1#8, 2#8], [1#8, 2#8],
      by decide +kernel⟩

theorem witness_gobDeliveries_gobInDataWriteDropped :
    ∃ (s : State) (t : Fin 128) (off : Fin 2048) (bytes : List Byte),
    s.live = true ∧ off.val + bytes.length ≤ 2048 ∧ s.fencedTile t = false ∧ (s.tileRegion t).isSome = true ∧
        s.mustWait (t.val / 8) = false ∧ s.gobHeld t = false ∧ s.on (F.MPU_GOB_STAT_FILL_CLOSED t) = true :=
  ⟨((State.reset.wr (F.SEC_STATUS_PSTATE 0) 0).wr (F.SEC_CTRL_ASSIGNED 0) 1).wr (F.MPU_GOB_STAT_FILL_CLOSED 0) 1, 0,
      64, [1#8, 2#8], by decide +kernel⟩

theorem witness_gobDeliveries_gobInDataWriteWaits :
    ∃ (s : State) (t : Fin 128) (off : Fin 2048) (bytes : List Byte),
    s.live = true ∧ off.val + bytes.length ≤ 2048 ∧ s.fencedTile t = false ∧ (s.tileRegion t).isSome = true ∧
        s.mustWait (t.val / 8) = false ∧ s.gobHeld t = true :=
  ⟨((State.reset.wr (F.SEC_STATUS_PSTATE 0) 0).wr (F.SEC_CTRL_ASSIGNED 0) 1).setGaf 0
      { State.reset.gaf 0 with phase := .b0 }, 0, 64, [1#8, 2#8], by decide +kernel⟩

theorem witness_gobDeliveries_gobInClose :
    ∃ (s : State) (t : Fin 128) (hdr : BitVec 64),
    s.live = true ∧ s.fencedTile t = false ∧ (s.tileRegion t).isSome = true ∧ s.mustWait (t.val / 8) = false ∧
        s.gobHeld t = false ∧ s.on (F.MPU_GOB_STAT_FILL_CLOSED t) = false :=
  ⟨(State.reset.wr (F.SEC_STATUS_PSTATE 0) 0).wr (F.SEC_CTRL_ASSIGNED 0) 1, 0, 0x203#64, by decide +kernel⟩

theorem witness_gobDeliveries_gobInCloseDropped :
    ∃ (s : State) (t : Fin 128) (hdr : BitVec 64),
    s.live = true ∧ s.fencedTile t = false ∧ (s.tileRegion t).isSome = true ∧ s.mustWait (t.val / 8) = false ∧
        s.gobHeld t = false ∧ s.on (F.MPU_GOB_STAT_FILL_CLOSED t) = true :=
  ⟨((State.reset.wr (F.SEC_STATUS_PSTATE 0) 0).wr (F.SEC_CTRL_ASSIGNED 0) 1).wr (F.MPU_GOB_STAT_FILL_CLOSED 0) 1, 0,
      0x203#64, by decide +kernel⟩

theorem witness_gobDeliveries_gobInCloseWaits :
    ∃ (s : State) (t : Fin 128) (hdr : BitVec 64),
    s.live = true ∧ s.fencedTile t = false ∧ (s.tileRegion t).isSome = true ∧ s.mustWait (t.val / 8) = false ∧
        s.gobHeld t = true :=
  ⟨((State.reset.wr (F.SEC_STATUS_PSTATE 0) 0).wr (F.SEC_CTRL_ASSIGNED 0) 1).setGaf 0
      { State.reset.gaf 0 with phase := .b0 }, 0, 0x203#64, by decide +kernel⟩

theorem witness_gobDeliveries_gobInDataWriteWakes :
    ∃ (s : State) (t : Fin 128) (off : Fin 2048) (bytes : List Byte),
    s.live = true ∧ off.val + bytes.length ≤ 2048 ∧ s.fencedTile t = false ∧ (s.tileRegion t).isSome = true ∧
        s.asleep (t.val / 8) = true ∧ (s.dom (t.val / 8)).down = none ∧ s.heldDown (t.val / 8) = false :=
  ⟨State.reset.wr (F.SEC_CTRL_ASSIGNED 0) 1, 0, 64, [1#8, 2#8], by decide +kernel⟩

theorem witness_gobDeliveries_gobInFenced :
    ∃ (s : State) (t : Fin 128) (off : Fin 2048) (bytes : List Byte),
    s.live = true ∧ s.fencedTile t = true :=
  ⟨(State.reset.wr (F.SEC_CTRL_ASSIGNED 0) 1).wr (F.GAF_STATUS_STATE 0) 5, 0, 64, [1#8, 2#8], by decide +kernel⟩

theorem witness_gobDeliveries_injectDeliveryEnd :
    ∃ (s : State) (n : Fin 16) (up : Upsets) (j : Inject) (js : List Inject),
    s.live = true ∧ (s.gaf n).injects = j :: js ∧ s.hbmReady j.addr (64 * j.len) = true :=
  ⟨(State.reset.wr (F.HBM_STATUS_TRAINED 0) 1).setGaf 0 { State.reset.gaf 0 with injects := [⟨0, 1, 0, 0⟩] }, 0, [],
      ⟨0, 1, 0, 0⟩, [], by decide +kernel⟩

theorem witness_gobDeliveries_injectDelivers :
    ∃ (s : State) (n : Fin 16) (up : Upsets) (j : Inject) (js : List Inject) (t : Nat),
    s.live = true ∧ (s.gaf n).injects = j :: js ∧ s.hbmReady j.addr (64 * j.len) = true ∧ s.stackDead 0 = false ∧
        s.stackDead 1 = false ∧ (s.upsets (upsetList up)).badWords j.addr (64 * j.len) = [] ∧ t ∈ s.regionTiles n ∧
        s.fencedTile t = false ∧ s.mustWait (t / 8) = false ∧ s.gobHeld t = false ∧
        s.on (F.MPU_GOB_STAT_FILL_CLOSED t) = false ∧ j.len = 1 :=
  ⟨((((State.reset.wr (F.SEC_STATUS_PSTATE 0) 0).wr (F.SEC_CTRL_ASSIGNED 0) 1).wr (F.HBM_STATUS_TRAINED 0) 1).withHbm
      [(3, 5)]).setGaf 0 { State.reset.gaf 0 with injects := [⟨0, 1, 0, 0⟩] }, 0, [], ⟨0, 1, 0, 0⟩, [], 0,
      by decide +kernel⟩

theorem witness_gobDeliveries_commitDrainEnd :
    ∃ (s : State) (n : Fin 16) (d : Drain) (ds : List Drain),
    s.live = true ∧ (s.gaf n).drains = d :: ds ∧ s.hbmReady d.record 64 = true ∧
        s.hbmReady (d.record + 64) (s.drainBytes d).length = true ∧
        inHbm d.record (64 + (s.drainBytes d).length) = true ∧ s.stackDead 0 = false ∧ s.stackDead 1 = false :=
  ⟨(State.reset.wr (F.HBM_STATUS_TRAINED 0) 1).setGaf 0 { State.reset.gaf 0 with drains := [⟨0, 0, 1, 0, 0, [0]⟩] },
      0, ⟨0, 0, 1, 0, 0, [0]⟩, [], by decide +kernel⟩

theorem witness_gobDeliveries_commitDrainEndWaits :
    ∃ (s : State) (n : Fin 16) (d : Drain) (ds : List Drain),
    s.live = true ∧ (s.gaf n).drains = d :: ds ∧ s.hbmReady d.record 64 = false ∧
        s.hbmReady (d.record + 64) (s.drainBytes d).length = false :=
  ⟨State.reset.setGaf 0 { State.reset.gaf 0 with drains := [⟨0, 0, 1, 0, 0, [0]⟩] }, 0, ⟨0, 0, 1, 0, 0, [0]⟩, [],
      by decide +kernel⟩

theorem witness_gobDeliveries_commitDrainEndBeyond :
    ∃ (s : State) (n : Fin 16) (d : Drain) (ds : List Drain),
    s.live = true ∧ (s.gaf n).drains = d :: ds ∧ 2 ^ 35 ≤ d.record :=
  ⟨State.reset.setGaf 0 { State.reset.gaf 0 with drains := [⟨2 ^ 35, 0, 1, 0, 0, [0]⟩] }, 0, ⟨2 ^ 35, 0, 1, 0, 0,
      [0]⟩, [], by decide +kernel⟩

theorem witness_gafferControl_gafferNop :
    ∃ (s : State) (n : Fin 16) (w : Nat),
    s.live = true ∧ s.reaches n 0 w :=
  ⟨(State.reset.setReg 0x100800 0x0#32).wr (F.GAF_STATUS_STATE 0) 2, 0, 0, by decide +kernel⟩

theorem witness_gafferControl_run :
    ∃ (s : State) (n : Fin 16) (w : Nat) (x : State) (win : Bool),
    s.live = true ∧ s.reaches n 3 w ∧ s.windowOpen = false ∧ s.runHolds n = false ∧ (s.dual n = true ∨
        slice w 25 24 = 0) ∧ ((if slice w 25 24 = 2 then s.applySwitch n else s) = x) ∧
        ((if slice w 25 24 = 2 then x.on (F.GAF_STATUS_SEL n) else slice w 25 24 == 1) = win) ∧
        ((if win then x.on (F.GAF_STATUS_READY_B n) else x.on (F.GAF_STATUS_READY_A n)) = true) ∧
        runValid (x.dual n) w (x.lenCode n win) = true :=
  ⟨((State.reset.setReg 0x100800 0x0c00007f#32).wr (F.GAF_STATUS_STATE 0) 2).wr (F.GAF_STATUS_READY_A 0) 1, 0,
      0x0c00007f, ((State.reset.setReg 0x100800 0x0c00007f#32).wr (F.GAF_STATUS_STATE 0) 2).wr (F.GAF_STATUS_READY_A
      0) 1, false, by decide +kernel⟩

theorem witness_gafferControl_runHeld :
    ∃ (s : State) (n : Fin 16) (w : Nat) (c : PerfChange),
    s.live = true ∧ s.reaches n 3 w ∧ s.windowOpen = true ∧ s.pwr.perf = some c ∧
        c.held.contains (2 * n.val + 1) = false :=
  ⟨((State.reset.setReg 0x100800 0x0c00007f#32).wr (F.GAF_STATUS_STATE 0) 2).withPwr
      { State.reset.pwr with perf := some ⟨1, 3, .window, []⟩ }, 0, 0x0c00007f, ⟨1, 3, .window, []⟩,
      by decide +kernel⟩

theorem witness_gafferControl_runRefused :
    ∃ (s : State) (n : Fin 16) (w : Nat) (x : State) (win : Bool),
    s.live = true ∧ s.reaches n 3 w ∧ s.windowOpen = false ∧ s.runHolds n = false ∧ (s.dual n = true ∨
        slice w 25 24 = 0) ∧ ((if slice w 25 24 = 2 then s.applySwitch n else s) = x) ∧
        ((if slice w 25 24 = 2 then x.on (F.GAF_STATUS_SEL n) else slice w 25 24 == 1) = win) ∧
        ((if win then x.on (F.GAF_STATUS_READY_B n) else x.on (F.GAF_STATUS_READY_A n)) = false ∨
        runValid (x.dual n) w (x.lenCode n win) = false) ∧ s.on (F.GAF_PROG_ERR_VALID n) = false :=
  ⟨(State.reset.setReg 0x100800 0x0c00007f#32).wr (F.GAF_STATUS_STATE 0) 2, 0, 0x0c00007f,
      (State.reset.setReg 0x100800 0x0c00007f#32).wr (F.GAF_STATUS_STATE 0) 2, false, by decide +kernel⟩

theorem witness_gafferControl_selectWindow :
    ∃ (s : State) (n : Fin 16) (w : Nat),
    s.live = true ∧ s.reaches n 4 w :=
  ⟨(((State.reset.setReg 0x100800 0x10000001#32).wr (F.GAF_STATUS_STATE 0) 2).wr (F.SEC_CTRL_ASSIGNED 0) 1).wr
      (F.SEC_CTRL_DUAL 0) 1, 0, 0x10000001, by decide +kernel⟩

theorem witness_gafferControl_loop :
    ∃ (s : State) (n : Fin 16) (w : Nat),
    s.live = true ∧ s.reaches n 5 w ∧ slice w 15 0 ≠ 0 ∧ (s.gaf n).loops.length < 4 :=
  ⟨((State.reset.setReg 0x100800 0x14010005#32).setReg 0x100804 0x18000000#32).wr (F.GAF_STATUS_STATE 0) 2, 0,
      0x14010005, by decide +kernel⟩

theorem witness_gafferControl_loopSkips :
    ∃ (s : State) (n : Fin 16) (w : Nat),
    s.live = true ∧ s.reaches n 5 w ∧ slice w 15 0 = 0 :=
  ⟨((State.reset.setReg 0x100800 0x14010000#32).setReg 0x100804 0x18000000#32).wr (F.GAF_STATUS_STATE 0) 2, 0,
      0x14010000, by decide +kernel⟩

theorem witness_gafferControl_loopTooDeep :
    ∃ (s : State) (n : Fin 16) (w : Nat),
    s.live = true ∧ s.reaches n 5 w ∧ slice w 15 0 ≠ 0 ∧ 4 ≤ (s.gaf n).loops.length ∧
        s.on (F.GAF_PROG_ERR_VALID n) = false :=
  ⟨(((State.reset.setReg 0x100800 0x14010005#32).setReg 0x100804 0x18000000#32).wr (F.GAF_STATUS_STATE 0) 2).setGaf 0
      { State.reset.gaf 0 with loops := [(1, 1), (1, 1), (1, 1), (1, 1)] }, 0, 0x14010005, by decide +kernel⟩

theorem witness_gafferControl_endloop :
    ∃ (s : State) (n : Fin 16) (w : Nat) (c : Nat) (a : Nat) (ls : List (Nat × Nat)),
    s.live = true ∧ s.reaches n 6 w ∧ (s.gaf n).loops = (c, a) :: ls ∧ 1 < c ∧ a < 512 :=
  ⟨((State.reset.setReg 0x100800 0x18000000#32).wr (F.GAF_STATUS_STATE 0) 2).setGaf 0
      { State.reset.gaf 0 with loops := [(2, 7)] }, 0, 0x18000000, 2, 7, [], by decide +kernel⟩

theorem witness_gafferControl_endloopCloses :
    ∃ (s : State) (n : Fin 16) (w : Nat) (c : Nat) (a : Nat) (ls : List (Nat × Nat)),
    s.live = true ∧ s.reaches n 6 w ∧ (s.gaf n).loops = (c, a) :: ls ∧ c ≤ 1 :=
  ⟨((State.reset.setReg 0x100800 0x18000000#32).wr (F.GAF_STATUS_STATE 0) 2).setGaf 0
      { State.reset.gaf 0 with loops := [(1, 7)] }, 0, 0x18000000, 1, 7, [], by decide +kernel⟩

theorem witness_gafferControl_endloopUnmatched :
    ∃ (s : State) (n : Fin 16) (w : Nat),
    s.live = true ∧ s.reaches n 6 w ∧ (s.gaf n).loops = [] ∧ s.on (F.GAF_PROG_ERR_VALID n) = false :=
  ⟨(State.reset.setReg 0x100800 0x18000000#32).wr (F.GAF_STATUS_STATE 0) 2, 0, 0x18000000, by decide +kernel⟩

theorem witness_gafferControl_jump :
    ∃ (s : State) (n : Fin 16) (w : Nat),
    s.live = true ∧ s.reaches n 13 w :=
  ⟨(State.reset.setReg 0x100800 0x34000005#32).wr (F.GAF_STATUS_STATE 0) 2, 0, 0x34000005, by decide +kernel⟩

theorem witness_gafferControl_halt :
    ∃ (s : State) (n : Fin 16) (w : Nat),
    s.live = true ∧ s.reaches n 14 w ∧ (s.gaf n).phase = .none ∧ (s.gaf n).next = none :=
  ⟨(State.reset.setReg 0x100800 0x38000000#32).wr (F.GAF_STATUS_STATE 0) 2, 0, 0x38000000, by decide +kernel⟩

theorem witness_gafferControl_haltHolds :
    ∃ (s : State) (n : Fin 16) (w : Nat),
    s.live = true ∧ s.reaches n 14 w ∧ ((s.gaf n).phase ≠ .none ∨ (s.gaf n).next ≠ none) :=
  ⟨((State.reset.setReg 0x100800 0x38000000#32).wr (F.GAF_STATUS_STATE 0) 3).setGaf 0
      { State.reset.gaf 0 with phase := .window }, 0, 0x38000000, by decide +kernel⟩

theorem witness_gafferControl_programErrorPast :
    ∃ (s : State) (n : Fin 16) (w : Option (BitVec 32)),
    s.live = true ∧ s.issues n = true ∧ (s.gaf n).past = true ∧ s.on (F.GAF_PROG_ERR_VALID n) = false ∧
        s.safe = false :=
  ⟨(State.reset.wr (F.GAF_STATUS_STATE 0) 2).setGaf 0 { State.reset.gaf 0 with past := true }, 0, none,
      by decide +kernel⟩

theorem witness_gafferControl_programError :
    ∃ (s : State) (n : Fin 16) (w : Option (BitVec 32)),
    s.live = true ∧ s.issues n = true ∧ (s.gaf n).past = false ∧
        (w.any fun v => s.wordValid n (s.pcOf n) v.toNat) = false ∧ s.on (F.GAF_PROG_ERR_VALID n) = false ∧
        s.safe = false :=
  ⟨State.reset.wr (F.GAF_STATUS_STATE 0) 2, 0, none, by decide +kernel⟩

theorem witness_gafferEffects_waitTrig :
    ∃ (s : State) (n : Fin 16) (w : Nat) (e : TrigEntry) (es : List TrigEntry),
    s.live = true ∧ s.reaches n 1 w ∧ (s.gaf n).queue = e :: es :=
  ⟨((State.reset.setReg 0x100800 0x04000000#32).wr (F.GAF_STATUS_STATE 0) 2).setGaf 0
      { State.reset.gaf 0 with queue := [⟨5, 1, false⟩] }, 0, 0x04000000, ⟨5, 1, false⟩, [], by decide +kernel⟩

theorem witness_gafferEffects_waitTrigWaits :
    ∃ (s : State) (n : Fin 16) (w : Nat),
    s.live = true ∧ s.reaches n 1 w ∧ (s.gaf n).queue = [] :=
  ⟨(State.reset.setReg 0x100800 0x04000000#32).wr (F.GAF_STATUS_STATE 0) 2, 0, 0x04000000, by decide +kernel⟩

theorem witness_gafferEffects_waitEvt :
    ∃ (s : State) (n : Fin 16) (w : Nat) (k : Nat),
    s.live = true ∧ s.reaches n 2 w ∧ (firstIdx 8 fun k => bit w k && decide (s.rd (evtPendFld n k) ≠ 0)) = some k :=
  ⟨((State.reset.setReg 0x100800 0x08000001#32).wr (F.GAF_STATUS_STATE 0) 2).wr (evtPendFld 0 0) 3, 0, 0x08000001, 0,
      by decide +kernel⟩

theorem witness_gafferEffects_waitEvtWaits :
    ∃ (s : State) (n : Fin 16) (w : Nat),
    s.live = true ∧ s.reaches n 2 w ∧ (firstIdx 8 fun k => bit w k && decide (s.rd (evtPendFld n k) ≠ 0)) = none :=
  ⟨(State.reset.setReg 0x100800 0x08000001#32).wr (F.GAF_STATUS_STATE 0) 2, 0, 0x08000001, by decide +kernel⟩

theorem witness_gafferEffects_inject :
    ∃ (s : State) (n : Fin 16) (w : Nat),
    s.live = true ∧ s.reaches n 7 w ∧ (s.gaf n).injects.length < 2 ∧
        s.on (F.GAF_INJ_HI_VALID n (slice w 2 0)) = true ∧ 1 ≤ s.rd (F.GAF_INJ_HI_LEN n (slice w 2 0)) ∧
        s.rd (F.GAF_INJ_HI_LEN n (slice w 2 0)) ≤ 29 ∧
        inHbm (64 * s.rd (F.GAF_INJ_LO_ADDR_LO n (slice w 2 0)) + 2 ^ 32 * s.rd (F.GAF_INJ_HI_ADDR_HI n (slice w 2
        0))) (64 * s.rd (F.GAF_INJ_HI_LEN n (slice w 2 0))) = true :=
  ⟨(((State.reset.setReg 0x100800 0x1c000000#32).wr (F.GAF_STATUS_STATE 0) 2).wr (F.GAF_INJ_HI_VALID 0 0) 1).wr
      (F.GAF_INJ_HI_LEN 0 0) 2, 0, 0x1c000000, by decide +kernel⟩

theorem witness_gafferEffects_injectRefused :
    ∃ (s : State) (n : Fin 16) (w : Nat),
    s.live = true ∧ s.reaches n 7 w ∧ (s.gaf n).injects.length < 2 ∧
        (s.on (F.GAF_INJ_HI_VALID n (slice w 2 0)) && decide (1 ≤ s.rd (F.GAF_INJ_HI_LEN n (slice w 2 0))) && decide
        (s.rd (F.GAF_INJ_HI_LEN n (slice w 2 0)) ≤ 29) && inHbm (64 * s.rd (F.GAF_INJ_LO_ADDR_LO n (slice w 2 0)) + 2
        ^ 32 * s.rd (F.GAF_INJ_HI_ADDR_HI n (slice w 2 0))) (64 * s.rd (F.GAF_INJ_HI_LEN n (slice w 2 0)))) = false :=
  ⟨(State.reset.setReg 0x100800 0x1c000000#32).wr (F.GAF_STATUS_STATE 0) 2, 0, 0x1c000000, by decide +kernel⟩

theorem witness_gafferEffects_injectHolds :
    ∃ (s : State) (n : Fin 16) (w : Nat),
    s.live = true ∧ s.reaches n 7 w ∧ 2 ≤ (s.gaf n).injects.length :=
  ⟨((State.reset.setReg 0x100800 0x1c000000#32).wr (F.GAF_STATUS_STATE 0) 2).setGaf 0
      { State.reset.gaf 0 with injects := [⟨0, 1, 0, 0⟩, ⟨0, 1, 0, 0⟩] }, 0, 0x1c000000, by decide +kernel⟩

theorem witness_gafferEffects_commitAttaches :
    ∃ (s : State) (n : Fin 16) (w : Nat) (c : Cycle),
    s.live = true ∧ s.reaches n 8 w ∧ (s.gaf n).next = some c :=
  ⟨((State.reset.setReg 0x100800 0x20000000#32).wr (F.GAF_STATUS_STATE 0) 2).setGaf 0
      { State.reset.gaf 0 with next := some ⟨false, false, []⟩ }, 0, 0x20000000, ⟨false, false, []⟩,
      by decide +kernel⟩

theorem witness_gafferEffects_commitAttachesCurrent :
    ∃ (s : State) (n : Fin 16) (w : Nat),
    s.live = true ∧ s.reaches n 8 w ∧ (s.gaf n).next = none ∧ (s.gaf n).phase = .window :=
  ⟨((State.reset.setReg 0x100800 0x20000000#32).wr (F.GAF_STATUS_STATE 0) 2).setGaf 0
      { State.reset.gaf 0 with phase := .window }, 0, 0x20000000, by decide +kernel⟩

theorem witness_gafferEffects_commitRefused :
    ∃ (s : State) (n : Fin 16) (w : Nat) (size : Nat) (a : Nat),
    s.live = true ∧ s.reaches n 8 w ∧ (s.gaf n).next = none ∧ (s.gaf n).phase ≠ .window ∧
        64 * (1 + (s.regionTiles n).length * (1 + min 32 (s.rd (F.GAF_COM_HI_BYTES n (slice w 1 0))))) = size ∧
        64 * s.rd (F.GAF_COM_LO_ADDR_LO n (slice w 1 0)) + 2 ^ 32 * s.rd (F.GAF_COM_HI_ADDR_HI n (slice w 1 0)) +
        s.rd (F.GAF_COM_SEQ_SEQ n (slice w 1 0)) % 2 ^ min 20 (s.rd (F.GAF_COM_HI_RING n (slice w 1 0))) * size = a ∧
        (s.on (F.GAF_COM_HI_VALID n (slice w 1 0)) && inHbm a size) = false :=
  ⟨(State.reset.setReg 0x100800 0x20000000#32).wr (F.GAF_STATUS_STATE 0) 2, 0, 0x20000000, 64, 0, by decide +kernel⟩

theorem witness_gafferEffects_commit :
    ∃ (s : State) (n : Fin 16) (w : Nat) (size : Nat) (a : Nat) (d : Drain),
    s.live = true ∧ s.reaches n 8 w ∧ (s.gaf n).next = none ∧ (s.gaf n).phase ≠ .window ∧
        64 * (1 + (s.regionTiles n).length * (1 + min 32 (s.rd (F.GAF_COM_HI_BYTES n (slice w 1 0))))) = size ∧
        64 * s.rd (F.GAF_COM_LO_ADDR_LO n (slice w 1 0)) + 2 ^ 32 * s.rd (F.GAF_COM_HI_ADDR_HI n (slice w 1 0)) +
        s.rd (F.GAF_COM_SEQ_SEQ n (slice w 1 0)) % 2 ^ min 20 (s.rd (F.GAF_COM_HI_RING n (slice w 1 0))) * size = a ∧
        (s.on (F.GAF_COM_HI_VALID n (slice w 1 0)) && inHbm a size) = true ∧
        Drain.mk a (s.rd (F.GAF_COM_SEQ_SEQ n (slice w 1 0))) (min 32 (s.rd (F.GAF_COM_HI_BYTES n (slice w 1 0))))
        (s.gaf n).commitTime (s.statusOf ((s.regionTiles n).headD 0) % 2 ^ 48) (s.regionTiles n) = d :=
  ⟨(((State.reset.setReg 0x100800 0x20000000#32).wr (F.GAF_STATUS_STATE 0) 2).wr (F.GAF_COM_HI_VALID 0 0) 1).wr
      (F.HBM_STATUS_TRAINED 0) 1, 0, 0x20000000, 64, 0, ⟨0, 0, 0, 0, 0, []⟩, by decide +kernel⟩

theorem witness_gafferEffects_xchg :
    ∃ (s : State) (n : Fin 16) (w : Nat),
    s.live = true ∧ s.reaches n 9 w :=
  ⟨(State.reset.setReg 0x100800 0x24000000#32).wr (F.GAF_STATUS_STATE 0) 2, 0, 0x24000000, by decide +kernel⟩

theorem witness_gafferEffects_signal :
    ∃ (s : State) (n : Fin 16) (w : Nat),
    s.live = true ∧ s.reaches n 10 w :=
  ⟨(State.reset.setReg 0x100800 0x28000001#32).wr (F.GAF_STATUS_STATE 0) 2, 0, 0x28000001, by decide +kernel⟩

theorem witness_gafferEffects_setStall :
    ∃ (s : State) (n : Fin 16) (w : Nat),
    s.live = true ∧ s.reaches n 11 w :=
  ⟨(State.reset.setReg 0x100800 0x2c000123#32).wr (F.GAF_STATUS_STATE 0) 2, 0, 0x2c000123, by decide +kernel⟩

theorem witness_gafferEffects_mark :
    ∃ (s : State) (n : Fin 16) (w : Nat) (p : Nat),
    s.live = true ∧ s.reaches n 12 w ∧ s.rd (F.GAF_LOG_PTR_TRACE_PTR n) = p :=
  ⟨(State.reset.setReg 0x100800 0x30000055#32).wr (F.GAF_STATUS_STATE 0) 2, 0, 0x30000055, 0, by decide +kernel⟩

theorem witness_memoryPorts_hbmRequestRead :
    ∃ (s : State) (t : Fin 128) (tag : Fin 32) (x : Upset) (r : MemReq),
    s.live = true ∧ s.holder t tag = some r ∧ r.write = false ∧ r.performed = false ∧
        firstOfBlock (s.port t).reqs r = true ∧ s.stackDead (stackOf r.addr) = false ∧
        s.stackServes (stackOf r.addr) = true :=
  ⟨(State.reset.wr (F.HBM_STATUS_TRAINED 0) 1).setPort 3 ⟨[⟨2, 0, false, 0x1000, 0, [], 5, false, false, false,
      false, false, false⟩], []⟩, 3, 2, .none, ⟨2, 0, false, 0x1000, 0, [], 5, false, false, false, false, false,
      false⟩, by decide +kernel⟩

theorem witness_memoryPorts_hbmRequestWrite :
    ∃ (s : State) (t : Fin 128) (tag : Fin 32) (x : Upset) (r : MemReq),
    s.live = true ∧ s.holder t tag = some r ∧ r.write = true ∧ r.performed = false ∧
        firstOfBlock (s.port t).reqs r = true ∧ s.stackDead (stackOf r.addr) = false ∧
        s.stackServes (stackOf r.addr) = true :=
  ⟨(State.reset.wr (F.HBM_STATUS_TRAINED 0) 1).setPort 3 ⟨[⟨2, 0, true, 0x1000, 3, [1#8, 2#8], 5, false, false,
      false, false, false, false⟩], []⟩, 3, 2, .none, ⟨2, 0, true, 0x1000, 3, [1#8, 2#8], 5, false, false, false,
      false, false, false⟩, by decide +kernel⟩

theorem witness_memoryPorts_hbmRequestDead :
    ∃ (s : State) (block : BitVec 29) (be : BitVec 64) (data : BitVec 512) (x : Upset),
    s.live = true ∧ s.stackDead (stackOf (64 * block.toNat)) = true :=
  ⟨State.reset.wr (F.HBM_STATUS_LINK_ERR 0) 1, 2#29, 0x3#64, 0x1234#512, .none, by decide +kernel⟩

theorem witness_memoryPorts_hbmRequestDeadRead :
    ∃ (s : State) (block : BitVec 29) (x : Upset),
    s.live = true ∧ s.stackDead (stackOf (64 * block.toNat)) = true :=
  ⟨State.reset.wr (F.HBM_STATUS_LINK_ERR 0) 1, 2#29, .none, by decide +kernel⟩

theorem witness_memoryPorts_hbmRequest :
    ∃ (s : State) (block : BitVec 29) (be : BitVec 64) (data : BitVec 512) (x : Upset),
    s.live = true ∧ s.stackDead (stackOf (64 * block.toNat)) = false ∧
        s.stackServes (stackOf (64 * block.toNat)) = true :=
  ⟨State.reset.wr (F.HBM_STATUS_TRAINED 0) 1, 2#29, 0x3#64, 0x1234#512, .none, by decide +kernel⟩

theorem witness_memoryPorts_hbmRequestReadBlock :
    ∃ (s : State) (block : BitVec 29) (x : Upset) (e : Bool),
    s.live = true ∧ s.stackDead (stackOf (64 * block.toNat)) = false ∧
        s.stackServes (stackOf (64 * block.toNat)) = true ∧
        !((s.upsets (upsetWords x (64 * block.toNat))).badWords (64 * block.toNat) 64).isEmpty = e :=
  ⟨State.reset.wr (F.HBM_STATUS_TRAINED 0) 1, 2#29, .none, false, by decide +kernel⟩

theorem witness_memoryPorts_hbmRequestWaits :
    ∃ (s : State) (block : BitVec 29) (x : Upset),
    s.live = true ∧ s.untrained (stackOf (64 * block.toNat)) = true :=
  ⟨State.reset, 2#29, .none, by decide +kernel⟩

theorem witness_memoryPorts_hbmRequestWakes :
    ∃ (s : State) (block : BitVec 29) (x : Upset),
    s.live = true ∧ s.stackDead (stackOf (64 * block.toNat)) = false ∧
        s.asleep (16 + stackOf (64 * block.toNat)) = true ∧ (s.dom (16 + stackOf (64 * block.toNat))).down = none :=
  ⟨(State.reset.wr (F.HBM_STATUS_TRAINED 0) 1).wr (F.HBM_STATUS_SELF_REFRESH 0) 1, 2#29, .none, by decide +kernel⟩

theorem witness_memoryPorts_readLanding :
    ∃ (s : State) (t : Fin 128) (tag : Fin 32) (r : MemReq),
    s.live = true ∧ s.holder t tag = some r ∧ r.write = false ∧ r.performed = true ∧ r.answered = false ∧
        r.poisoned = false ∧ r.stale = false :=
  ⟨State.reset.setPort 3 ⟨[⟨2, 0, false, 0x1000, 0, [1#8], 5, true, false, false, false, false, false⟩], []⟩, 3, 2,
      ⟨2, 0, false, 0x1000, 0, [1#8], 5, true, false, false, false, false, false⟩, by decide +kernel⟩

theorem witness_memoryPorts_readLandingLate :
    ∃ (s : State) (t : Fin 128) (tag : Fin 32) (r : MemReq),
    s.live = true ∧ s.holder t tag = some r ∧ r.write = false ∧ r.performed = true ∧ r.answered = false ∧
        r.poisoned = true :=
  ⟨State.reset.setPort 3 ⟨[⟨2, 0, false, 0x1000, 0, [1#8], 5, true, false, false, true, false, false⟩], []⟩, 3, 2,
      ⟨2, 0, false, 0x1000, 0, [1#8], 5, true, false, false, true, false, false⟩, by decide +kernel⟩

theorem witness_memoryPorts_readLandingStale :
    ∃ (s : State) (t : Fin 128) (tag : Fin 32) (r : MemReq),
    s.live = true ∧ s.holder t tag = some r ∧ r.write = false ∧ r.performed = true ∧ r.answered = false ∧
        r.poisoned = false ∧ r.stale = true :=
  ⟨State.reset.setPort 3 ⟨[⟨2, 0, false, 0x1000, 0, [1#8], 5, true, false, false, false, true, false⟩], []⟩, 3, 2,
      ⟨2, 0, false, 0x1000, 0, [1#8], 5, true, false, false, false, true, false⟩, by decide +kernel⟩

theorem witness_memoryPorts_writeAck :
    ∃ (s : State) (t : Fin 128) (tag : Fin 32) (r : MemReq),
    s.live = true ∧ s.holder t tag = some r ∧ r.write = true ∧ r.performed = true :=
  ⟨State.reset.setPort 3 ⟨[⟨2, 0, true, 0x1000, 0, [1#8], 5, true, false, false, false, false, false⟩], []⟩, 3, 2,
      ⟨2, 0, true, 0x1000, 0, [1#8], 5, true, false, false, false, false, false⟩, by decide +kernel⟩

theorem witness_hbmStacks_patrolScrub :
    ∃ (s : State) (c : Fin 2) (found : Upsets),
    s.live = true ∧ s.on (F.HBM_CTRL_SCRUB_EN c) = true ∧ s.on (F.HBM_STATUS_TRAINED c) = true :=
  ⟨(State.reset.wr (F.HBM_CTRL_SCRUB_EN 0) 1).wr (F.HBM_STATUS_TRAINED 0) 1, 0, [(5#32, true)], by decide +kernel⟩

theorem witness_hbmStacks_patrolScrubOff :
    ∃ (s : State) (c : Fin 2) (found : Upsets),
    s.live = true ∧ (s.on (F.HBM_CTRL_SCRUB_EN c) = false ∨ s.on (F.HBM_STATUS_TRAINED c) = false) :=
  ⟨State.reset, 0, [(5#32, true)], by decide +kernel⟩

theorem witness_hbmStacks_hbmTempHigh :
    ∃ (s : State) (c : Fin 2) (temp : BitVec 8),
    s.live = true ∧ toSigned 8 (s.rd (F.HBM_CTRL_TEMP_HI c)) ≤ toSigned 8 temp.toNat ∧
        toSigned 8 (s.rd (F.HBM_TEMP c)) < toSigned 8 (s.rd (F.HBM_CTRL_TEMP_HI c)) :=
  ⟨State.reset.wr (F.HBM_CTRL_TEMP_HI 0) 90, 0, 95#8, by decide +kernel⟩

theorem witness_hbmStacks_hbmTempBelow :
    ∃ (s : State) (c : Fin 2) (temp : BitVec 8),
    s.live = true ∧ (toSigned 8 temp.toNat < toSigned 8 (s.rd (F.HBM_CTRL_TEMP_HI c)) ∨
        toSigned 8 (s.rd (F.HBM_CTRL_TEMP_HI c)) ≤ toSigned 8 (s.rd (F.HBM_TEMP c))) :=
  ⟨State.reset.wr (F.HBM_CTRL_TEMP_HI 0) 90, 0, 15#8, by decide +kernel⟩

theorem witness_hbmStacks_hbmTraining :
    ∃ (s : State) (c : Fin 2) (ok : Bool),
    s.live = true ∧ s.untrained c = true :=
  ⟨State.reset, 0, true, by decide +kernel⟩

theorem witness_hbmStacks_hbmTrainingTimeout :
    ∃ (s : State) (c : Fin 2),
    s.live = true ∧ s.untrained c = true :=
  ⟨State.reset, 0, by decide +kernel⟩

theorem witness_hbmStacks_hbmSelfRefreshEntry :
    ∃ (s : State) (c : Fin 2),
    s.live = true ∧ bit (s.rd F.PWR_HBM_CFG_SR_EN) c = true ∧ s.stackServes c = true ∧
        (s.dom (16 + c)).wakeVote = false :=
  ⟨(State.reset.wr F.PWR_HBM_CFG_SR_EN 3).wr (F.HBM_STATUS_TRAINED 0) 1, 0, by decide +kernel⟩

theorem witness_hbmStacks_hbmSelfRefreshExit :
    ∃ (s : State) (c : Fin 2),
    s.live = true ∧ (s.dom (16 + c)).waking = true ∧ s.on (F.HBM_STATUS_SELF_REFRESH c) = true :=
  ⟨(State.reset.setDom 16 { State.reset.dom 16 with waking := true }).wr (F.HBM_STATUS_SELF_REFRESH 0) 1, 0,
      by decide +kernel⟩

theorem witness_hbmStacks_ringDescriptorWrite :
    ∃ (s : State) (p : Path) (k : Fin 4) (w : Fin 5) (v : BitVec 32) (x : State),
    s.live = true ∧ s.pathOpen p = true ∧ s.stored p (0xe00200 + 0x20 * k.val + 4 * w.val) v.toNat = x ∧
        (x.ringInHbm k = true ∨ x.on (F.HBM_RING_BASE_HI_EN 0 k) = false) :=
  ⟨State.reset, .core, 1, 4, 0x0a000002#32, State.reset.stored .core (0xe00200 + 0x20 * 1 + 4 * 4) 0x0a000002,
      by decide +kernel⟩

theorem witness_hbmStacks_ringDescriptorWriteOutside :
    ∃ (s : State) (p : Path) (k : Fin 4) (w : Fin 5) (v : BitVec 32) (x : State),
    s.live = true ∧ s.pathOpen p = true ∧ s.stored p (0xe00200 + 0x20 * k.val + 4 * w.val) v.toNat = x ∧
        x.ringInHbm k = false ∧ x.on (F.HBM_RING_BASE_HI_EN 0 k) = true :=
  ⟨State.reset.setReg 0xe00210 0x1800ffff#32, .core, 0, 1, 0x80000007#32,
      (State.reset.setReg 0xe00210 0x1800ffff#32).stored .core (0xe00200 + 0x20 * 0 + 4 * 1) 0x80000007,
      by decide +kernel⟩

theorem witness_encoder_encoderEdge :
    ∃ (s : State) (a : Bool) (b : Bool) (a1 : Bool) (b1 : Bool) (fwd : Bool) (first : Nat),
    s.live = true ∧ s.on F.TB_CTRL_ENC_EN = true ∧
        (pinFilter (s.rd F.TB_ENC_CFG_FILT) s.tb.encA s.tb.runA a).1 = a1 ∧
        (pinFilter (s.rd F.TB_ENC_CFG_FILT) s.tb.encB s.tb.runB b).1 = b1 ∧ (a1 != s.tb.encA) = !(b1 != s.tb.encB) ∧
        (xor (if a1 != s.tb.encA then a1 != b1 else a1 == b1) (s.on F.TB_ENC_CFG_DIR_INV) = fwd) ∧
        (s.rd F.TB_ENC_CFG_MODE = 1 → (a1 != s.tb.encA) = true) ∧ (s.rd F.TB_ENC_CFG_MODE = 2 →
        (a1 != s.tb.encA) = true ∧ a1 = fwd) ∧
        ((if (if a1 != s.tb.encA then s.tb.runA else s.tb.runB) = 0 then s.real else if a1 != s.tb.encA then
        s.tb.firstA else s.tb.firstB) = first) :=
  ⟨(State.reset.wr F.TB_CTRL_ENC_EN 1).wr F.TB_ENC_CFG_FILT 1, true, false, true, false, true, 0, by decide +kernel⟩

theorem witness_encoder_encoderEdgeNotCounted :
    ∃ (s : State) (a : Bool) (b : Bool) (a1 : Bool) (b1 : Bool),
    s.live = true ∧ (pinFilter (s.rd F.TB_ENC_CFG_FILT) s.tb.encA s.tb.runA a).1 = a1 ∧
        (pinFilter (s.rd F.TB_ENC_CFG_FILT) s.tb.encB s.tb.runB b).1 = b1 ∧ (s.on F.TB_CTRL_ENC_EN = false ∨
        (a1 = s.tb.encA ∧ b1 = s.tb.encB) ∨ (a1 = s.tb.encA ∧ (s.rd F.TB_ENC_CFG_MODE = 1 ∨
        s.rd F.TB_ENC_CFG_MODE = 2)) ∨ (b1 = s.tb.encB ∧ s.rd F.TB_ENC_CFG_MODE = 2 ∧
        a1 ≠ xor (a1 != b1) (s.on F.TB_ENC_CFG_DIR_INV))) :=
  ⟨State.reset.wr F.TB_ENC_CFG_FILT 1, true, false, true, false, by decide +kernel⟩

theorem witness_encoder_encoderEdgeError :
    ∃ (s : State) (a : Bool) (b : Bool),
    s.live = true ∧ s.on F.TB_CTRL_ENC_EN = true ∧
        (pinFilter (s.rd F.TB_ENC_CFG_FILT) s.tb.encA s.tb.runA a).1 ≠ s.tb.encA ∧
        (pinFilter (s.rd F.TB_ENC_CFG_FILT) s.tb.encB s.tb.runB b).1 ≠ s.tb.encB :=
  ⟨(State.reset.wr F.TB_CTRL_ENC_EN 1).wr F.TB_ENC_CFG_FILT 1, true, true, by decide +kernel⟩

theorem witness_encoder_encoderPulseFiltered :
    ∃ (s : State) (a : Bool),
    s.live = true ∧ a ≠ s.tb.encA ∧ s.tb.runA + 1 < max 1 (s.rd F.TB_ENC_CFG_FILT) :=
  ⟨State.reset.wr F.TB_ENC_CFG_FILT 3, true, by decide +kernel⟩

theorem witness_encoder_encoderLevelAccepted :
    ∃ (s : State) (a : Bool),
    s.live = true ∧ a ≠ s.tb.encA ∧ max 1 (s.rd F.TB_ENC_CFG_FILT) ≤ s.tb.runA + 1 :=
  ⟨(State.reset.wr F.TB_ENC_CFG_FILT 3).setTb { State.reset.tb with runA := 2 }, true, by decide +kernel⟩

theorem witness_encoder_encoderInS4 :
    ∃ (s : State) (a : Bool) (b : Bool),
    s.spineOn = false ∧ s.lehr.s4 = true :=
  ⟨(State.reset.withSpineOn false).withLehr { State.reset.lehr with s4 := true }, true, false, by decide +kernel⟩

theorem witness_encoder_encZEdge :
    ∃ (s : State) (z : Bool),
    s.live = true ∧ s.tb.encZ = false ∧ (pinFilter (s.rd F.TB_ENC_CFG_FILT) s.tb.encZ s.tb.runZ z).1 = true :=
  ⟨State.reset.wr F.TB_ENC_CFG_FILT 1, true, by decide +kernel⟩

theorem witness_encoder_encZEdgeQuiet :
    ∃ (s : State) (z : Bool),
    s.live = true ∧ (s.tb.encZ = true ∨ (pinFilter (s.rd F.TB_ENC_CFG_FILT) s.tb.encZ s.tb.runZ z).1 = false) :=
  ⟨State.reset, false, by decide +kernel⟩

theorem witness_encoder_arm :
    ∃ (s : State) (p : Path) (v : BitVec 32) (x : State),
    s.live = true ∧ s.pathOpen p = true ∧ s.stored p 0x80000 (v ||| 1).toNat = x :=
  ⟨State.reset, .core, 0#32, State.reset.stored .core 0x80000 1, by decide +kernel⟩

theorem witness_encoder_cplLoad :
    ∃ (s : State) (p : Path) (v : BitVec 32),
    s.live = true ∧ s.pathOpen p = true :=
  ⟨State.reset, .core, 0#32, by decide +kernel⟩

theorem witness_lineRelease_triggerRelease :
    ∃ (s : State) (x : Held),
    s.live = true ∧ s.dueLine = some x ∧ s.role ≠ 1 ∧ s.on F.TB_CTRL_TRIG_EN = true :=
  ⟨(State.reset.wr F.TB_CTRL_TRIG_EN 1).setTb { State.reset.tb with held := [⟨5, 0, 0, [], 0, none⟩] }, ⟨5, 0, 0, [],
      0, none⟩, by decide +kernel⟩

theorem witness_lineRelease_triggerReleasePasses :
    ∃ (s : State) (x : Held),
    s.live = true ∧ s.dueLine = some x ∧ (s.role = 1 ∨ s.on F.TB_CTRL_TRIG_EN = false) :=
  ⟨State.reset.setTb { State.reset.tb with armed := true, held := [⟨5, 0, 0, [], 0, none⟩] }, ⟨5, 0, 0, [], 0, none⟩,
      by decide +kernel⟩

theorem witness_lineRelease_triggerReleaseWaits :
    ∃ (s : State),
    s.live = true ∧ s.dueLine = none :=
  ⟨State.reset, by decide +kernel⟩

theorem witness_lineRelease_triggerPortStrobe :
    ∃ (s : State) (k : Fin 8) (x : Nat × Nat × Nat),
    s.live = true ∧ s.partReleased k = true ∧ (s.fab.trig.any fun y => y.1 == k.val) = false ∧
        (s.strobes.find? fun y => y.1 == k.val && s.fab.trigEdges.any fun e => e.1 == k.val && decide (y.2.2 + 64 ≤
        e.2)) = some x :=
  ⟨((State.reset.wr F.CFG_FAB_STAT_RELEASED 4).withFab { State.reset.fab with trigEdges := [(2, 900)] }).withStrobes
      [(2, 7, 0)], 2, (2, 7, 0), by decide +kernel⟩

theorem witness_lineRelease_triggerPortStrobeWaits :
    ∃ (s : State) (k : Fin 8),
    s.live = true ∧ s.strobeDue k = none :=
  ⟨State.reset, 2, by decide +kernel⟩

theorem witness_lineRelease_trigger :
    ∃ (s : State) (p : Fin 4) (h : FrameHdr) (line : BitVec 48) (release : BitVec 64) (marks : BitVec 32) (targets :
        List (Fin 16 × BitVec 48)),
    s.live = true ∧ s.hears p h (.trigger line release marks targets) release.toNat ∧ s.role = 2 :=
  ⟨(State.reset.wr (F.IRC_STATUS_STATE 1) 3).wr F.TB_STATUS_ROLE 2, 1, (sealed ⟨0, 0, 0, 7, true, 0, ⟨none, 0, [], 0,
      0, 0, 0, false⟩⟩ (.trigger 5#48 100#64 0#32 [])), 5#48, 100#64, 0#32, [], by decide +kernel⟩

theorem witness_lineRelease_triggerPassed :
    ∃ (s : State) (p : Fin 4) (h : FrameHdr) (line : BitVec 48) (release : BitVec 64) (marks : BitVec 32) (targets :
        List (Fin 16 × BitVec 48)),
    s.live = true ∧ s.hears p h (.trigger line release marks targets) release.toNat ∧ s.role = 1 :=
  ⟨((State.reset.wr (F.IRC_STATUS_STATE 1) 3).wr F.TB_STATUS_ROLE 1).setTb { State.reset.tb with armed := true }, 1,
      (sealed ⟨0, 0, 0, 7, true, 0, ⟨none, 0, [], 0, 0, 0, 0, false⟩⟩ (.trigger 5#48 100#64 0#32 [])), 5#48, 100#64,
      0#32, [], by decide +kernel⟩

theorem witness_lineRelease_triggerNotForMe :
    ∃ (s : State) (p : Fin 4) (h : FrameHdr) (line : BitVec 48) (release : BitVec 64) (marks : BitVec 32) (targets :
        List (Fin 16 × BitVec 48)),
    s.live = true ∧ s.hears p h (.trigger line release marks targets) release.toNat ∧ (s.role = 0 ∨ s.role = 3) :=
  ⟨State.reset.wr (F.IRC_STATUS_STATE 1) 3, 1, (sealed ⟨0, 0, 0, 7, true, 0, ⟨none, 0, [], 0, 0, 0, 0,
      false⟩⟩ (.trigger 5#48 100#64 0#32 [])), 5#48, 100#64, 0#32, [], by decide +kernel⟩

theorem witness_linkMessages_hello :
    ∃ (s : State) (p : Fin 4) (h : FrameHdr) (key : Key) (id : Fin 64) (epoch : BitVec 16) (current : Bool) (master :
        Fin 64) (masterKey : Key) (hops : Fin 16) (port : Fin 4),
    s.live = true ∧ s.hears p h (.hello key id epoch current master masterKey hops port) 0 :=
  ⟨State.reset.wr (F.IRC_STATUS_STATE 1) 2, 1, fromSeven false (.hello ⟨1#8, 0x55#64⟩ 7 3#16 true 7 ⟨1#8,
      0x55#64⟩ 0 2), ⟨1#8, 0x55#64⟩, 7, 3#16, true, 7, ⟨1#8, 0x55#64⟩, 0, 2, by decide +kernel⟩

theorem witness_linkMessages_dlyReq :
    ∃ (s : State) (p : Fin 4) (h : FrameHdr) (t1 : BitVec 64) (t2 : BitVec 64) (t3 : BitVec 64),
    s.live = true ∧ s.hears p h (.dlyReq t1) 0 :=
  ⟨State.reset.wr (F.IRC_STATUS_STATE 1) 2, 1, fromSeven false (.dlyReq 5#64), 5#64, 9#64, 11#64, by decide +kernel⟩

theorem witness_linkMessages_dlyResp :
    ∃ (s : State) (p : Fin 4) (h : FrameHdr) (t2 : BitVec 64) (t3 : BitVec 64) (t4 : BitVec 64) (ds : List Int),
    s.live = true ∧ s.hears p h (.dlyResp t2 t3) 0 ∧
        (((((t4.toNat : Int) - (s.ircp p).t1) - ((t3.toNat : Int) - t2.toNat)) * 16 / 2 + toSigned 16 (s.rd
        (F.IRC_DLY_ASYM_ASYM p))) :: (s.ircp p).delays).take 16 = ds :=
  ⟨State.reset.wr (F.IRC_STATUS_STATE 1) 2, 1, fromSeven false (.dlyResp 9#64 11#64), 9#64, 11#64, 20#64, [144],
      by decide +kernel⟩

theorem witness_linkMessages_nack :
    ∃ (s : State) (p : Fin 4) (h : FrameHdr) (reason : Fin 8) (seq : BitVec 16),
    s.live = true ∧ s.hears p h (.nack reason seq) 0 :=
  ⟨State.reset.wr (F.IRC_STATUS_STATE 1) 3, 1, fromSeven false (.nack 1 5#16), 1, 5#16, by decide +kernel⟩

theorem witness_linkMessages_event :
    ∃ (s : State) (p : Fin 4) (h : FrameHdr) (source : Fin 768),
    s.live = true ∧ s.hears p h (.event source) 0 :=
  ⟨(State.reset.wr (F.IRC_STATUS_STATE 1) 3).wr (F.EVT_ROUTE_IRC_RX_EN 40) 1, 1, fromSeven true (.event 40), 40,
      by decide +kernel⟩

theorem witness_linkMessages_ack :
    ∃ (s : State) (p : Fin 4) (h : FrameHdr) (type : BitVec 8) (seq : BitVec 16),
    s.live = true ∧ s.hears p h (.ack type seq) 0 :=
  ⟨State.reset.wr (F.IRC_STATUS_STATE 1) 3, 1, fromSeven true (.ack 5#8 1#16), 5#8, 1#16, by decide +kernel⟩

theorem witness_linkMessages_far :
    ∃ (s : State) (p : Fin 4) (h : FrameHdr) (region : Fin 16) (tile : Fin 128) (tag : BitVec 16) (data : BitVec
        1024),
    s.live = true ∧ s.hears p h (.far region tile tag data) 0 :=
  ⟨State.reset.wr (F.IRC_STATUS_STATE 1) 3, 1, fromSeven true (.far 2 9 4#16 0#1024), 2, 9, 4#16, 0#1024,
      by decide +kernel⟩

theorem witness_linkMessages_frameMalformed :
    ∃ (s : State) (p : Fin 4) (h : FrameHdr) (type : BitVec 8) (seq : BitVec 16) (r : Nat),
    s.live = true ∧ s.linked p = true ∧ s.malformed p h (.ack type seq) = some r :=
  ⟨State.reset.wr (F.IRC_STATUS_STATE 1) 2, 1, ⟨0, 0, 0, 7, true, 0, restOf (.ack 5#8 1#16)⟩, 5#8, 1#16, 1,
      by decide +kernel⟩

theorem witness_linkMessages_frameStale :
    ∃ (s : State) (p : Fin 4) (h : FrameHdr) (type : BitVec 8) (seq : BitVec 16),
    s.live = true ∧ s.linked p = true ∧ s.malformed p h (.ack type seq) = none ∧ s.stale 14 h 0 = true :=
  ⟨State.reset.wr (F.IRC_STATUS_STATE 1) 3, 1, sealed ⟨0, 0, 9, 7, true, 0, restOf (.ack 5#8 1#16)⟩ (.ack 5#8 1#16),
      5#8, 1#16, by decide +kernel⟩

theorem witness_linkMessages_frameUnlinked :
    ∃ (s : State) (p : Fin 4) (h : FrameHdr) (type : BitVec 8) (seq : BitVec 16),
    s.live = true ∧ s.linked p = false :=
  ⟨State.reset, 1, sealed ⟨0, 0, 9, 7, true, 0, restOf (.ack 5#8 1#16)⟩ (.ack 5#8 1#16), 5#8, 1#16, by decide +kernel⟩

theorem witness_groupMessages_elect :
    ∃ (s : State) (p : Fin 4) (h : FrameHdr) (key : Key) (time : BitVec 64),
    s.live = true ∧ s.hears p h (.elect key time) 0 ∧ s.on F.TB_CTRL_GROUP_EN = true :=
  ⟨((State.reset.wr (F.IRC_STATUS_STATE 1) 3).wr F.TB_STATUS_ROLE 1).wr F.TB_CTRL_GROUP_EN 1, 1,
      fromSeven true (.elect ⟨1#8, 0x55#64⟩ 40#64), ⟨1#8, 0x55#64⟩, 40#64, by decide +kernel⟩

theorem witness_groupMessages_electIgnored :
    ∃ (s : State) (p : Fin 4) (h : FrameHdr) (key : Key) (time : BitVec 64),
    s.live = true ∧ s.hears p h (.elect key time) 0 ∧ s.on F.TB_CTRL_GROUP_EN = false :=
  ⟨State.reset.wr (F.IRC_STATUS_STATE 1) 3, 1, fromSeven true (.elect ⟨1#8, 0x55#64⟩ 40#64), ⟨1#8, 0x55#64⟩, 40#64,
      by decide +kernel⟩

theorem witness_groupMessages_epoch :
    ∃ (s : State) (p : Fin 4) (h : FrameHdr) (num : BitVec 16) (act : BitVec 64) (map : BitVec 64) (hops : List (Fin
        64 × Fin 16)) (step : BitVec 64),
    s.live = true ∧ s.hears p h (.epoch num act map hops step) 0 ∧ s.takesEpoch h.src.val num.toNat = true :=
  ⟨State.reset.wr (F.IRC_STATUS_STATE 1) 3, 1, fromSeven true (.epoch 3#16 1000#64 0x81#64 [] 0#64), 3#16, 1000#64,
      0x81#64, [], 0#64, by decide +kernel⟩

theorem witness_groupMessages_epochOld :
    ∃ (s : State) (p : Fin 4) (h : FrameHdr) (num : BitVec 16) (act : BitVec 64) (map : BitVec 64) (hops : List (Fin
        64 × Fin 16)) (step : BitVec 64),
    s.live = true ∧ s.hears p h (.epoch num act map hops step) 0 ∧ s.takesEpoch h.src.val num.toNat = false :=
  ⟨(State.reset.wr (F.IRC_STATUS_STATE 1) 3).setTb { State.reset.tb with inEpoch := true }, 1,
      fromSeven true (.epoch 0#16 1000#64 0x81#64 [] 0#64), 0#16, 1000#64, 0x81#64, [], 0#64, by decide +kernel⟩

theorem witness_groupMessages_joinReq :
    ∃ (s : State) (p : Fin 4) (h : FrameHdr) (key : Key) (id : Fin 64) (hops : Fin 16) (d : BitVec 64),
    s.live = true ∧ s.hears p h (.joinReq key id hops d) 0 ∧ s.role = 3 ∧ (bit s.nextGroup.1 id.val = false ∨
        (d ≠ 0 ∧ s.tb.electees.contains id.val = true)) ∧ 400 + 2000 * hops.val ≤ 16 * s.rd F.TB_REL_REL_OFFSET ∧
        (bitsOf 64 (setBitTo s.nextGroup.1 id.val false)).length < 64 :=
  ⟨((State.reset.wr (F.IRC_STATUS_STATE 1) 3).wr F.TB_STATUS_ROLE 3).wr F.TB_REL_REL_OFFSET 1000, 1,
      fromSeven true (.joinReq ⟨1#8, 0x55#64⟩ 7 1 0#64), ⟨1#8, 0x55#64⟩, 7, 1, 0#64, by decide +kernel⟩

theorem witness_groupMessages_joinReqRefused :
    ∃ (s : State) (p : Fin 4) (h : FrameHdr) (key : Key) (id : Fin 64) (hops : Fin 16) (d : BitVec 64) (r : Fin 4),
    s.live = true ∧ s.hears p h (.joinReq key id hops d) 0 ∧ s.role = 3 ∧ ((if bit s.nextGroup.1 id.val ∧ (d = 0 ∨
        s.tb.electees.contains id.val = false) then some 1 else if 16 * s.rd F.TB_REL_REL_OFFSET < 400 + 2000 *
        hops.val then some 2 else if 64 ≤ (bitsOf 64 (setBitTo s.nextGroup.1 id.val false)).length then some 3 else
        none) = some r) :=
  ⟨((State.reset.wr (F.IRC_STATUS_STATE 1) 3).wr F.TB_STATUS_ROLE 3).wr F.TB_REL_REL_OFFSET 0, 1,
      fromSeven true (.joinReq ⟨1#8, 0x55#64⟩ 7 1 0#64), ⟨1#8, 0x55#64⟩, 7, 1, 0#64, 2, by decide +kernel⟩

theorem witness_groupMessages_joinAck :
    ∃ (s : State) (p : Fin 4) (h : FrameHdr) (refused : Option (Fin 4)),
    s.live = true ∧ s.hears p h (.joinAck refused) 0 :=
  ⟨State.reset.wr (F.IRC_STATUS_STATE 1) 3, 1, fromSeven true (.joinAck (some 2)), some 2, by decide +kernel⟩

theorem witness_groupMessages_leave :
    ∃ (s : State) (p : Fin 4) (h : FrameHdr) (id : Fin 64),
    s.live = true ∧ s.hears p h (.leave id) 0 :=
  ⟨(State.reset.wr (F.IRC_STATUS_STATE 1) 3).wr F.TB_STATUS_ROLE 2, 1, fromSeven true (.leave 0), 0,
      by decide +kernel⟩

theorem witness_groupMessages_heartbeat :
    ∃ (s : State) (p : Fin 4) (h : FrameHdr) (time : BitVec 64),
    s.live = true ∧ s.hears p h (.heartbeat time) 0 :=
  ⟨(State.reset.wr (F.IRC_STATUS_STATE 1) 3).wr F.TB_STATUS_ROLE 2, 1, fromSeven true (.heartbeat 40#64), 40#64,
      by decide +kernel⟩

theorem witness_groupMessages_status :
    ∃ (s : State) (p : Fin 4) (h : FrameHdr) (aligned : Bool) (skips : BitVec 16) (better : Option Key) (links :
        BitVec 64),
    s.live = true ∧ s.hears p h (.status aligned skips better links) 0 ∧ s.role = 3 :=
  ⟨(State.reset.wr (F.IRC_STATUS_STATE 1) 3).wr F.TB_STATUS_ROLE 3, 1, fromSeven true (.status true 1#16 none 0#64),
      true, 1#16, none, 0#64, by decide +kernel⟩

theorem witness_groupMessages_statusIgnored :
    ∃ (s : State) (p : Fin 4) (h : FrameHdr) (aligned : Bool) (skips : BitVec 16) (better : Option Key) (links :
        BitVec 64),
    s.live = true ∧ s.hears p h (.status aligned skips better links) 0 ∧ s.role ≠ 3 :=
  ⟨State.reset.wr (F.IRC_STATUS_STATE 1) 3, 1, fromSeven true (.status true 1#16 none 0#64), true, 1#16, none, 0#64,
      by decide +kernel⟩

theorem witness_timebaseTimers_helloTimer :
    ∃ (s : State) (p : Fin 4),
    s.live = true ∧ s.linked p = true :=
  ⟨State.reset.wr (F.IRC_STATUS_STATE 1) 2, 1, by decide +kernel⟩

theorem witness_timebaseTimers_helloTimerUnlinked :
    ∃ (s : State) (p : Fin 4),
    s.live = true ∧ s.linked p = false :=
  ⟨State.reset, 1, by decide +kernel⟩

theorem witness_timebaseTimers_hopMeasureTimer :
    ∃ (s : State) (p : Fin 4) (t1 : BitVec 64),
    s.live = true ∧ s.linked p = true :=
  ⟨State.reset.wr (F.IRC_STATUS_STATE 1) 2, 1, 99#64, by decide +kernel⟩

theorem witness_timebaseTimers_heartbeatTimer :
    ∃ (s : State),
    s.live = true ∧ s.role = 3 :=
  ⟨(State.reset.wr (F.IRC_STATUS_STATE 1) 3).wr F.TB_STATUS_ROLE 3, by decide +kernel⟩

theorem witness_timebaseTimers_heartbeatTimerMember :
    ∃ (s : State),
    s.live = true ∧ s.role = 2 :=
  ⟨(State.reset.wr (F.IRC_STATUS_STATE 1) 3).wr F.TB_STATUS_ROLE 2, by decide +kernel⟩

theorem witness_timebaseTimers_heartbeatTimerAlone :
    ∃ (s : State),
    s.live = true ∧ s.role ≠ 2 ∧ s.role ≠ 3 :=
  ⟨State.reset, by decide +kernel⟩

theorem witness_timebaseTimers_ackRetryTimer :
    ∃ (s : State) (i : Nat) (p : Nat) (h : FrameHdr) (m : IrcMsg) (c : Nat),
    s.live = true ∧ s.tb.unacked[i]? = some (p, h, m, c) ∧ c < 8 :=
  ⟨State.reset.setTb { State.reset.tb with unacked := [(1, ⟨0, 0, 0, 7, true, 0, restOf (.leave 3)⟩, .leave 3, 1)] },
      0, 1, ⟨0, 0, 0, 7, true, 0, restOf (.leave 3)⟩, .leave 3, 1, by decide +kernel⟩

theorem witness_timebaseTimers_ackRetryTimerGivesUp :
    ∃ (s : State) (i : Nat) (p : Nat) (h : FrameHdr) (m : IrcMsg) (c : Nat),
    s.live = true ∧ s.tb.unacked[i]? = some (p, h, m, c) ∧ 8 ≤ c :=
  ⟨State.reset.setTb { State.reset.tb with unacked := [(1, ⟨0, 0, 0, 7, true, 0, restOf (.leave 3)⟩, .leave 3, 8)] },
      0, 1, ⟨0, 0, 0, 7, true, 0, restOf (.leave 3)⟩, .leave 3, 8, by decide +kernel⟩

theorem witness_timebaseTimers_electQuietExpiry :
    ∃ (s : State),
    s.live = true ∧ s.on F.TB_CTRL_GROUP_EN = true ∧ s.role = 1 ∧ s.on F.TB_STATUS_ELECTING = true ∧
        s.tb.bestKey = s.myKey ∧ s.rd F.TB_MEMBER_PRIO ≠ 0xff ∧ s.tb.pendEpochs = [] :=
  ⟨(((State.reset.wr F.TB_CTRL_GROUP_EN 1).wr F.TB_STATUS_ROLE 1).wr F.TB_STATUS_ELECTING 1).setTb
      { State.reset.tb with bestKey := ((State.reset.wr F.TB_CTRL_GROUP_EN 1).wr F.TB_STATUS_ROLE 1).myKey },
      by decide +kernel, by decide +kernel, by decide +kernel, by decide +kernel, rfl, by decide +kernel⟩

theorem witness_timebaseTimers_electQuietExpiryBegins :
    ∃ (s : State),
    s.live = true ∧ s.on F.TB_CTRL_GROUP_EN = true ∧ s.role = 1 ∧ s.on F.TB_STATUS_ELECTING = false ∧
        ((upTo 4).any fun p => s.linked p) = true ∧
        ((upTo 4).all fun p => !(s.linked p && (s.ircp p).peerCurrent)) = true :=
  ⟨((State.reset.wr F.TB_CTRL_GROUP_EN 1).wr F.TB_STATUS_ROLE 1).wr (F.IRC_STATUS_STATE 1) 2, by decide +kernel⟩

theorem witness_timebaseTimers_heartbeatLoss :
    ∃ (s : State),
    s.live = true ∧ s.role = 2 ∧ s.tb.lastHeartbeat + 3 * s.hbPeriod ≤ s.real :=
  ⟨(State.reset.wr F.TB_STATUS_ROLE 2).wr64 0x80030 0xffffffffff, by decide +kernel⟩

theorem witness_timebaseTimers_memberLoss :
    ∃ (s : State) (m : Fin 64),
    s.live = true ∧ s.role = 3 ∧ m.val ≠ s.myId ∧ bit s.members m.val = true ∧
        ((s.tb.statusSeen.find? fun x => x.1 == m.val).map fun x => x.2).getD 0 + 3 * s.hbPeriod ≤ s.real :=
  ⟨((State.reset.wr F.TB_STATUS_ROLE 3).wr64 0x80030 0xffffffffff).wr64 0x80048 0xff, 5, by decide +kernel⟩

theorem witness_timebaseTimers_epochActivation :
    ∃ (s : State) (e : PendingEpoch) (later : List PendingEpoch),
    s.live = true ∧ s.tb.pendEpochs = e :: later ∧ e.act ≤ s.now :=
  ⟨State.reset.setTb { State.reset.tb with pendEpochs := [⟨1, 0, 1, [(0, 0)], 0, 0⟩] }, ⟨1, 0, 1, [(0, 0)], 0, 0⟩,
      [], by decide +kernel⟩

theorem witness_timebaseTimers_joinRetryTimer :
    ∃ (s : State) (q : Nat),
    s.live = true ∧ s.rd F.TB_STATUS_UPSTREAM = q ∧ s.role = 1 ∧ s.on F.TB_STATUS_ALIGNED = true ∧
        (s.tb.inEpoch = false ∨ s.on F.TB_STATUS_TIME_AHEAD = true) ∧ (s.ircp q).peerCurrent = true ∧
        s.rd (F.IRC_STATUS_STATE q) = 3 :=
  ⟨((State.reset.wr F.TB_STATUS_ROLE 1).wr F.TB_STATUS_ALIGNED 1).wr (F.IRC_STATUS_STATE 0) 3 |>.setIrcp 0
      { State.reset.ircp 0 with peerCurrent := true }, 0, by decide +kernel⟩

theorem witness_ircelPorts_ircBackoffExpiry :
    ∃ (s : State) (p : Fin 4),
    s.live = true ∧ s.on (F.IRC_CTRL_EN p) = true ∧ s.rd (F.IRC_STATUS_STATE p) = 0 ∧
        bit (s.rd F.CLK_STAT_LOCKED) 2 = true ∧ bit s.cstore.cullet.irc p = false :=
  ⟨(State.reset.wr (F.IRC_CTRL_EN 1) 1).wr F.CLK_STAT_LOCKED 0xff, 1, by decide +kernel⟩

theorem witness_ircelPorts_ircBackoffExpiryCulled :
    ∃ (s : State) (p : Fin 4),
    s.live = true ∧ bit s.cstore.cullet.irc p = true :=
  ⟨State.reset.withCstore { State.reset.cstore with cullet := { State.reset.cstore.cullet with irc := 2 } }, 1,
      by decide +kernel⟩

theorem witness_ircelPorts_ircLinkUp :
    ∃ (s : State) (p : Fin 4),
    s.live = true ∧ s.rd (F.IRC_STATUS_STATE p) = 1 :=
  ⟨State.reset.wr (F.IRC_STATUS_STATE 1) 1, 1, by decide +kernel⟩

theorem witness_ircelPorts_ircLinkDown :
    ∃ (s : State) (p : Fin 4),
    s.live = true ∧ s.linked p = true :=
  ⟨State.reset.wr (F.IRC_STATUS_STATE 1) 2, 1, by decide +kernel⟩

theorem witness_ircelPorts_quarantineExpiry :
    ∃ (s : State) (p : Fin 4),
    s.live = true ∧ s.rd (F.IRC_STATUS_STATE p) = 4 ∧ s.rd (F.IRC_QUAR_CFG_TIME p) ≠ 0 :=
  ⟨(State.reset.wr (F.IRC_STATUS_STATE 1) 4).wr (F.IRC_QUAR_CFG_TIME 1) 5, 1, by decide +kernel⟩

theorem witness_ircelPorts_quarantineForever :
    ∃ (s : State) (p : Fin 4),
    s.live = true ∧ s.rd (F.IRC_QUAR_CFG_TIME p) = 0 :=
  ⟨(State.reset.wr (F.IRC_STATUS_STATE 1) 4).wr (F.IRC_QUAR_CFG_TIME 1) 0, 1, by decide +kernel⟩

theorem witness_ircelPorts_quarClr :
    ∃ (s : State) (p : Path) (k : Fin 4) (v : BitVec 32) (x : State),
    s.live = true ∧ s.pathOpen p = true ∧ s.stored p (0xb00000 + 0x10000 * k.val) (v ||| 2).toNat = x :=
  ⟨State.reset, .core, 1, 1#32, State.reset.stored .core (0xb00000 + 0x10000 * 1) 3, by decide +kernel⟩

theorem witness_gatherBanks_train :
    ∃ (s : State) (p : Path) (g : Fin 4) (v : BitVec 32) (x : State),
    s.live = true ∧ s.pathOpen p = true ∧ s.stored p (0xc00000 + 0x10000 * g.val) (v ||| 0x80000000).toNat = x ∧
        x.on (F.GTH_STATUS_TRAIN_BUSY g) = false :=
  ⟨State.reset, .core, 1, 0x91#32, State.reset.stored .core (0xc00000 + 0x10000 * 1) 0x80000091, by decide +kernel⟩

theorem witness_gatherBanks_trainBusy :
    ∃ (s : State) (p : Path) (g : Fin 4) (v : BitVec 32) (x : State),
    s.live = true ∧ s.pathOpen p = true ∧ s.stored p (0xc00000 + 0x10000 * g.val) (v ||| 0x80000000).toNat = x ∧
        x.on (F.GTH_STATUS_TRAIN_BUSY g) = true :=
  ⟨State.reset.wr (F.GTH_STATUS_TRAIN_BUSY 1) 1, .core, 1, 0x91#32,
      (State.reset.wr (F.GTH_STATUS_TRAIN_BUSY 1) 1).stored .core (0xc00000 + 0x10000 * 1) 0x80000091,
      by decide +kernel⟩

theorem witness_gatherBanks_gthTrainDone :
    ∃ (s : State) (g : Fin 4) (lanes : List LaneTrain),
    s.live = true ∧ s.pixelOn = true ∧ s.on (F.GTH_STATUS_TRAIN_BUSY g) = true :=
  ⟨((State.reset.wr (F.GTH_STATUS_TRAIN_BUSY 1) 1).wr (F.GTH_LANE_EN_LANES 1) 3).wr (F.GTH_CTRL_EN 1) 1, 1,
      List.replicate 24 ⟨true, 5, 20, 1⟩, by decide +kernel⟩

theorem witness_gatherBanks_gthTrainDoneIdle :
    ∃ (s : State) (g : Fin 4) (lanes : List LaneTrain),
    s.live = true ∧ (s.pixelOn = false ∨ s.on (F.GTH_STATUS_TRAIN_BUSY g) = false) :=
  ⟨State.reset, 1, [], by decide +kernel⟩

theorem witness_gatherBanks_eyeTrack :
    ∃ (s : State) (g : Fin 4) (lane : Fin 24) (up : Bool) (eye : Fin 64),
    s.live = true ∧ s.pixelOn = true ∧ s.on (F.GTH_CTRL_TRACK g) = true ∧
        bit (s.rd (F.GTH_LANE_LOCK_LOCK g)) lane = true ∧ s.rd (F.GTH_TRAIN_CFG_EYE_MIN g) ≤ eye.val ∧
        (if up then s.rd (F.GTH_LANE_EYE_TAP g lane) < 63 else 0 < s.rd (F.GTH_LANE_EYE_TAP g lane)) :=
  ⟨(State.reset.wr (F.GTH_CTRL_TRACK 1) 1).wr (F.GTH_LANE_LOCK_LOCK 1) 4 |>.wr (F.GTH_CTRL_EN 1) 1, 1, 2, true, 30,
      by decide +kernel⟩

theorem witness_gatherBanks_eyeTrackLost :
    ∃ (s : State) (g : Fin 4) (lane : Fin 24) (dir : Option Bool) (eye : Fin 64),
    s.live = true ∧ s.pixelOn = true ∧ s.on (F.GTH_CTRL_TRACK g) = true ∧
        bit (s.rd (F.GTH_LANE_LOCK_LOCK g)) lane = true ∧ (eye.val < s.rd (F.GTH_TRAIN_CFG_EYE_MIN g) ∨
        (dir = some true ∧ s.rd (F.GTH_LANE_EYE_TAP g lane) = 63) ∨ (dir = some false ∧
        s.rd (F.GTH_LANE_EYE_TAP g lane) = 0)) :=
  ⟨(State.reset.wr (F.GTH_CTRL_TRACK 1) 1).wr (F.GTH_LANE_LOCK_LOCK 1) 4 |>.wr (F.GTH_CTRL_EN 1) 1, 1, 2, none, 3,
      by decide +kernel⟩

theorem witness_gatherBanks_eyeTrackOff :
    ∃ (s : State) (g : Fin 4) (lane : Fin 24) (dir : Option Bool) (eye : Fin 64),
    s.live = true ∧ (s.pixelOn = false ∨ s.on (F.GTH_CTRL_TRACK g) = false ∨
        bit (s.rd (F.GTH_LANE_LOCK_LOCK g)) lane = false ∨ (dir = none ∧
        s.rd (F.GTH_TRAIN_CFG_EYE_MIN g) ≤ eye.val)) :=
  ⟨State.reset, 1, 2, none, 3, by decide +kernel⟩

theorem witness_gatherBanks_laneWord :
    ∃ (s : State) (g : Fin 4) (lane : Fin 24) (w : BitVec 12),
    s.live = true ∧ s.pixelOn = true ∧ bit (s.rd (F.GTH_LANE_LOCK_LOCK g)) lane = true ∧ s.partReleased g = true :=
  ⟨(State.reset.wr (F.GTH_LANE_LOCK_LOCK 1) 4).wr F.CFG_FAB_STAT_RELEASED 0xff |>.wr (F.GTH_CTRL_EN 1) 1, 1, 2,
      0x123#12, by decide +kernel⟩

theorem witness_gatherBanks_laneWordDiscarded :
    ∃ (s : State) (g : Fin 4) (lane : Fin 24) (w : BitVec 12),
    s.live = true ∧ s.pixelOn = true ∧ bit (s.rd (F.GTH_LANE_LOCK_LOCK g)) lane = true ∧ s.partReleased g = false :=
  ⟨State.reset.wr (F.GTH_LANE_LOCK_LOCK 1) 4 |>.wr (F.GTH_CTRL_EN 1) 1, 1, 2, 0x123#12, by decide +kernel⟩

theorem witness_gatherBanks_laneWordUnaligned :
    ∃ (s : State) (g : Fin 4) (lane : Fin 24) (w : BitVec 12),
    s.live = true ∧ (s.pixelOn = false ∨ bit (s.rd (F.GTH_LANE_LOCK_LOCK g)) lane = false) :=
  ⟨State.reset, 1, 2, 0x123#12, by decide +kernel⟩

theorem witness_gatherBanks_pixelBusBeat :
    ∃ (s : State) (k : Fin 8) (b : Beat),
    s.live = true ∧ s.pixelOn = true ∧ s.pbOn k = true ∧ s.partReleased (k.val / 2) = true ∧ b.sol = false ∧
        b.eol = false ∧ b.syncErr = false ∧ (∀ m ∈ s.subscribers k, s.beatError m b = false) :=
  ⟨((State.reset.wr (F.GTH_PBS_CTRL_EN 0 0) 1).wr (F.GTH_CTRL_EN 0) 1).wr F.CFG_FAB_STAT_RELEASED 0xff, 0,
      ⟨List.replicate 8 5#16, 0#13, 8, false, false, false⟩, by decide +kernel⟩

theorem witness_gatherBanks_pixelBusBeatStarts :
    ∃ (s : State) (k : Fin 8) (b : Beat),
    s.live = true ∧ s.pixelOn = true ∧ s.pbOn k = true ∧ s.partReleased (k.val / 2) = true ∧ b.sol = true ∧
        (s.pb k).tags = [] :=
  ⟨((State.reset.wr (F.GTH_PBS_CTRL_EN 0 0) 1).wr (F.GTH_CTRL_EN 0) 1).wr F.CFG_FAB_STAT_RELEASED 0xff, 0,
      ⟨List.replicate 8 5#16, 0#13, 8, true, false, false⟩, by decide +kernel⟩

theorem witness_gatherBanks_pixelBusBeatSyncError :
    ∃ (s : State) (k : Fin 8) (b : Beat),
    s.live = true ∧ s.pixelOn = true ∧ s.pbOn k = true ∧ s.partReleased (k.val / 2) = true ∧ b.syncErr = true ∧
        (b.sol = true ∨ (s.pb k).syncSeen = false) :=
  ⟨((State.reset.wr (F.GTH_PBS_CTRL_EN 0 0) 1).wr (F.GTH_CTRL_EN 0) 1).wr F.CFG_FAB_STAT_RELEASED 0xff, 0,
      ⟨List.replicate 8 5#16, 0#13, 8, false, false, true⟩, by decide +kernel⟩

theorem witness_gatherBanks_pixelBusBeatFormat :
    ∃ (s : State) (k : Fin 8) (b : Beat) (m : Nat),
    s.live = true ∧ s.pixelOn = true ∧ s.pbOn k = true ∧ s.partReleased (k.val / 2) = true ∧ b.sol = false ∧
        m ∈ s.subscribers k ∧ s.beatError m b = true :=
  ⟨((((State.reset.wr (F.GTH_PBS_CTRL_EN 0 0) 1).wr (F.GTH_CTRL_EN 0) 1).wr F.CFG_FAB_STAT_RELEASED 0xff).wr
      (F.MRV_SPAN 0) 100).setMu 0 { State.reset.mu 0 with inRow := true, nextCol := some 8 }, 0,
      ⟨List.replicate 8 5#16, 0#13, 8, false, false, false⟩, 0, by decide +kernel⟩

theorem witness_gatherBanks_pixelBusBeatTagged :
    ∃ (s : State) (k : Fin 8) (b : Beat) (t : Tag) (ts : List Tag),
    s.live = true ∧ s.pixelOn = true ∧ s.pbOn k = true ∧ s.partReleased (k.val / 2) = true ∧ b.sol = true ∧
        (s.pb k).tags = t :: ts ∧ s.real ≤ t.real + 100 * s.rd (F.GTH_PBS_CTRL_TAG_AGE (k.val / 2) (k.val % 2)) :=
  ⟨(((State.reset.wr (F.GTH_PBS_CTRL_EN 0 0) 1).wr (F.GTH_CTRL_EN 0) 1).wr F.CFG_FAB_STAT_RELEASED 0xff).setPb 0
      { State.reset.pb 0 with tags := [⟨5, 7, 9⟩] }, 0, ⟨List.replicate 8 5#16, 0#13, 8, true, false, false⟩, ⟨5, 7,
      9⟩, [], by decide +kernel⟩

theorem witness_gatherBanks_pixelBusBeatEnds :
    ∃ (s : State) (k : Fin 8) (b : Beat),
    s.live = true ∧ s.pixelOn = true ∧ s.pbOn k = true ∧ s.partReleased (k.val / 2) = true ∧ b.eol = true :=
  ⟨((State.reset.wr (F.GTH_PBS_CTRL_EN 0 0) 1).wr (F.GTH_CTRL_EN 0) 1).wr F.CFG_FAB_STAT_RELEASED 0xff, 0,
      ⟨List.replicate 8 5#16, 0#13, 8, false, true, false⟩, by decide +kernel⟩

theorem witness_gatherBanks_pixelBusBeatOff :
    ∃ (s : State) (k : Fin 8) (b : Beat),
    s.live = true ∧ (s.pixelOn = false ∨ s.pbOn k = false ∨ s.partReleased (k.val / 2) = false) :=
  ⟨State.reset, 0, ⟨List.replicate 8 5#16, 0#13, 8, false, false, false⟩, by decide +kernel⟩

theorem witness_marver_mrvEnWrite :
    ∃ (s : State) (p : Path) (m : Fin 16) (v : BitVec 32) (x : State),
    s.live = true ∧ s.pathOpen p = true ∧ s.stored p (0xc80000 + 0x10000 * m.val) v.toNat = x :=
  ⟨State.reset, .core, 3, 1#32, State.reset.stored .core (0xc80000 + 0x10000 * 3) 1, by decide +kernel⟩

theorem witness_marver_coefWrite :
    ∃ (s : State) (p : Path) (m : Fin 16) (k : Fin 8) (w : Fin 25) (v : BitVec 32),
    s.live = true ∧ s.pathOpen p = true ∧ k.val ≠ (s.mu m).set :=
  ⟨State.reset, .core, 3, 1, 2, 7#32, by decide +kernel⟩

theorem witness_marver_coefWriteBusy :
    ∃ (s : State) (p : Path) (m : Fin 16) (k : Fin 8) (w : Fin 25) (v : BitVec 32),
    s.live = true ∧ s.pathOpen p = true ∧ k.val = (s.mu m).set :=
  ⟨State.reset.setMu 3 { State.reset.mu 3 with set := 1 }, .core, 3, 1, 2, 7#32, by decide +kernel⟩

theorem witness_marver_candidateClose :
    ∃ (s : State) (m : Fin 16) (c : Cand) (q : List MrvEv),
    s.live = true ∧ (s.mu m).queue = .close c :: q ∧ s.rd (F.MRV_EXTRACT_MIN_AREA m) ≤ c.area :=
  ⟨State.reset.setMu 3
      { State.reset.mu 3 with queue := [.close ⟨true, 0, 1, 5, false, false, false, 2, 3, 4, 9, 1, (0, 2), 7, [], []⟩] }, 3, ⟨true, 0, 1, 5, false, false, false, 2, 3, 4, 9, 1, (0, 2), 7, [], []⟩, [], by decide +kernel⟩

theorem witness_marver_candidateCloseNone :
    ∃ (s : State) (m : Fin 16),
    s.live = true ∧ ((s.mu m).queue.head?.all fun e => match e with | .close _ => false | .mark .. => true) = true :=
  ⟨State.reset, 3, by decide +kernel⟩

theorem witness_marver_candidateCloseSmall :
    ∃ (s : State) (m : Fin 16) (c : Cand) (q : List MrvEv),
    s.live = true ∧ (s.mu m).queue = .close c :: q ∧ c.area < s.rd (F.MRV_EXTRACT_MIN_AREA m) :=
  ⟨(State.reset.wr (F.MRV_EXTRACT_MIN_AREA 3) 1000).setMu 3
      { State.reset.mu 3 with queue := [.close ⟨true, 0, 1, 5, false, false, false, 2, 3, 4, 9, 1, (0, 2), 7, [], []⟩] }, 3, ⟨true, 0, 1, 5, false, false, false, 2, 3, 4, 9, 1, (0, 2), 7, [], []⟩, [], by decide +kernel⟩

theorem witness_marver_endOfRowMark :
    ∃ (s : State) (m : Fin 16) (line : Nat) (before : Nat) (taint : Bool) (q : List MrvEv),
    s.live = true ∧ (s.mu m).queue = .mark line before taint :: q :=
  ⟨State.reset.setMu 3 { State.reset.mu 3 with queue := [.mark 5 4 false] }, 3, 5, 4, false, [], by decide +kernel⟩

theorem witness_marver_patchComplete :
    ∃ (s : State) (m : Fin 16) (p : Patch) (ps : List Patch) (r : Row) (rs : List Row),
    s.live = true ∧ (s.mu m).patches = p :: ps ∧ (s.mu m).history = r :: rs ∧
        63 ≤ lineAt r.line (31 - (p.last : Int)) ∧ lineAt r.line (31 - (p.last : Int)) < 2 ^ 47 :=
  ⟨State.reset.setMu 3
      { State.reset.mu 3 with patches := [⟨0, 5, 0, false, false, 0, []⟩], history := [⟨40, false, []⟩] }, 3, ⟨0, 5,
      0, false, false, 0, []⟩, [], ⟨40, false, []⟩, [], by decide +kernel⟩

theorem witness_marver_patchNotYet :
    ∃ (s : State) (m : Fin 16) (p : Patch) (ps : List Patch) (r : Row) (rs : List Row),
    s.live = true ∧ (s.mu m).patches = p :: ps ∧ (s.mu m).history = r :: rs ∧
        (lineAt r.line (31 - (p.last : Int)) < 63 ∨ 2 ^ 47 ≤ lineAt r.line (31 - (p.last : Int))) :=
  ⟨State.reset.setMu 3
      { State.reset.mu 3 with patches := [⟨0, 5, 0, false, false, 0, []⟩], history := [⟨6, false, []⟩] }, 3, ⟨0, 5,
      0, false, false, 0, []⟩, [], ⟨6, false, []⟩, [], by decide +kernel⟩

theorem witness_marver_patchIncomplete :
    ∃ (s : State) (m : Fin 16),
    s.live = true ∧ (s.mu m).patches = [] :=
  ⟨State.reset, 3, by decide +kernel⟩

theorem witness_marver_gobSwapNotice :
    ∃ (s : State) (n : Fin 16) (l : Nat) (ls : List Nat) (b : Batch) (bs : List Batch),
    s.live = true ∧ (s.gaf n).swapNotes ≠ 0 ∧ s.packGroup n = l :: ls ∧ (s.mu l).waiting = b :: bs :=
  ⟨((State.reset.wr (F.MRV_CTRL_PACK_EN 3) 1).setMu 3 { State.reset.mu 3 with waiting := [Batch.init] }).setGaf 0
      { State.reset.gaf 0 with swapNotes := 1 }, 0, 3, [], Batch.init, [], by decide +kernel⟩

theorem witness_marver_gobSwapNoticeEmpty :
    ∃ (s : State) (n : Fin 16) (l : Nat) (ls : List Nat),
    s.live = true ∧ (s.gaf n).swapNotes ≠ 0 ∧ s.packGroup n = l :: ls ∧ (s.mu l).waiting = [] :=
  ⟨(State.reset.wr (F.MRV_CTRL_PACK_EN 3) 1).setGaf 0 { State.reset.gaf 0 with swapNotes := 1 }, 0, 3, [],
      by decide +kernel⟩

theorem witness_marver_gobSwapNoticeAlone :
    ∃ (s : State) (n : Fin 16),
    s.live = true ∧ s.packGroup n = [] :=
  ⟨State.reset.setGaf 0 { State.reset.gaf 0 with swapNotes := 1 }, 0, by decide +kernel⟩

theorem witness_marver_mergeNotice :
    ∃ (s : State) (n : Fin 16) (c : Nat) (cs : List Nat),
    s.live = true ∧ (s.gaf n).mergeNotes = c :: cs :=
  ⟨(State.reset.wr (F.MRV_CTRL_PACK_EN 3) 1).setGaf 0 { State.reset.gaf 0 with mergeNotes := [3] }, 0, 3, [],
      by decide +kernel⟩

theorem witness_fabric_globalLineSwitch :
    ∃ (s : State) (g : Fin 16) (sel : Bool) (oldRuns : Bool),
    s.live = true :=
  ⟨State.reset, 2, false, true, by decide +kernel⟩

theorem witness_fabric_clockStuck :
    ∃ (s : State) (g : Fin 16),
    s.live = true ∧ (s.gline g).phase = .leaving :=
  ⟨State.reset.setGline 2 ⟨false, .leaving, true⟩, 2, by decide +kernel⟩

theorem witness_fabric_newClockArrival :
    ∃ (s : State) (g : Fin 16),
    s.live = true ∧ (s.gline g).phase = .joining :=
  ⟨State.reset.setGline 2 ⟨false, .joining, true⟩, 2, by decide +kernel⟩

theorem witness_fabric_vccoChange :
    ∃ (s : State) (b : Fin 12) (good : Bool),
    s.live = true ∧ bit (s.rd F.CFG_IO_STAT_VCCO_OK) b ≠ good :=
  ⟨State.reset.wr F.CFG_IO_STAT_VCCO_OK 0, 2, true, by decide +kernel⟩

theorem witness_fabric_vccoSame :
    ∃ (s : State) (b : Fin 12) (good : Bool),
    s.live = true ∧ bit (s.rd F.CFG_IO_STAT_VCCO_OK) b = good :=
  ⟨State.reset.wr F.CFG_IO_STAT_VCCO_OK 0, 2, false, by decide +kernel⟩

theorem witness_fabric_clockStuckNot :
    ∃ (s : State) (g : Fin 16),
    s.live = true ∧ (s.gline g).phase ≠ .leaving :=
  ⟨State.reset, 2, by decide +kernel⟩

theorem witness_fabric_newClockNotAwaited :
    ∃ (s : State) (g : Fin 16),
    s.live = true ∧ (s.gline g).phase ≠ .joining :=
  ⟨State.reset, 2, by decide +kernel⟩

theorem witness_fabric_windowPortRequest :
    ∃ (s : State) (k : Fin 8) (block : BitVec 21) (w : Option (BitVec 64 × BitVec 512)),
    s.live = true ∧ s.winQueue k = [] ∧ (s.winLive k).length < 16 :=
  ⟨State.reset, 2, 5#21, none, by decide +kernel⟩

theorem witness_fabric_windowPortFull :
    ∃ (s : State) (k : Fin 8) (block : BitVec 21) (w : Option (BitVec 64 × BitVec 512)),
    s.live = true ∧ 16 ≤ (s.winLive k).length ∧ s.windowServes k = true ∧ s.winQueue k = [] :=
  ⟨((State.reset.wr F.CFG_FAB_STAT_RELEASED 0xff).withFab { State.reset.fab with winOn := [2] }).setWinOpen 2
      (List.replicate 16 (coreReq 2 5 none)), 2, 5#21, none, by decide +kernel⟩

theorem witness_fabric_windowPortNext :
    ∃ (s : State) (k : Fin 8) (r : WinReq) (rs : List WinReq),
    s.live = true ∧ s.winQueue k = r :: rs ∧ s.windowServes k = true ∧ (s.winLive k).length < 16 ∧
        s.fab.winEdges.contains k.val = true :=
  ⟨((State.reset.wr F.CFG_FAB_STAT_RELEASED 0xff).withFab
      { State.reset.fab with winOn := [2], winEdges := [2] }).setWinQueue 2 [coreReq 2 5 none], 2, coreReq 2 5 none,
      [], by decide +kernel⟩

theorem witness_fabric_windowPortNoEdge :
    ∃ (s : State) (k : Fin 8),
    s.live = true ∧ s.windowServes k = true ∧ s.fab.winEdges.contains k.val = false :=
  ⟨((State.reset.wr F.CFG_FAB_STAT_RELEASED 0xff).withFab { State.reset.fab with winOn := [2] }).setWinQueue 2
      [coreReq 2 5 none], 2, by decide +kernel⟩

theorem witness_fabric_windowPortNone :
    ∃ (s : State) (k : Fin 8),
    s.live = true ∧ s.winQueue k = [] :=
  ⟨State.reset, 2, by decide +kernel⟩

theorem witness_fabric_windowPortAnswer :
    ∃ (s : State) (k : Fin 8) (data : BitVec 512) (r : WinReq) (rs : List WinReq),
    s.live = true ∧ s.winOpen k = r :: rs ∧ s.fab.draining.contains k.val = false :=
  ⟨State.reset.setWinOpen 2 [coreReq 2 5 none], 2, 9#512, coreReq 2 5 none, [], by decide +kernel⟩

theorem witness_fabric_windowPortAnswerNone :
    ∃ (s : State) (k : Fin 8) (data : BitVec 512),
    s.live = true ∧ s.winOpen k = [] :=
  ⟨State.reset, 2, 9#512, by decide +kernel⟩

theorem witness_fabric_windowTimeout :
    ∃ (s : State) (k : Fin 8) (r : WinReq),
    s.live = true ∧ (s.winLive k).head? = some r ∧ s.fab.draining.contains k.val = false :=
  ⟨State.reset.setWinOpen 2 [coreReq 2 5 none], 2, coreReq 2 5 none, by decide +kernel⟩

theorem witness_fabric_windowTimeoutWaiting :
    ∃ (s : State) (k : Fin 8) (r : WinReq) (rs : List WinReq),
    s.live = true ∧ s.winLive k = [] ∧ s.winQueue k = r :: rs ∧ s.fab.draining.contains k.val = false :=
  ⟨State.reset.setWinQueue 2 [coreReq 2 5 none], 2, coreReq 2 5 none, [], by decide +kernel⟩

theorem witness_fabric_windowTimeoutNone :
    ∃ (s : State) (k : Fin 8),
    s.live = true ∧ s.winLive k = [] ∧ s.winQueue k = [] :=
  ⟨State.reset, 2, by decide +kernel⟩

theorem witness_dmaDescriptors_dmaTailWrite :
    ∃ (s : State) (p : Path) (e : Fin 16) (v : BitVec 32),
    s.live = true ∧ s.pathOpen p = true :=
  ⟨State.reset, .core, 3, 5#32, by decide +kernel⟩

theorem witness_dmaDescriptors_dmaEnWrite :
    ∃ (s : State) (p : Path) (e : Fin 16) (v : BitVec 32) (x : State),
    s.live = true ∧ s.pathOpen p = true ∧ s.stored p (0xa0100 + 0x40 * e.val) (v ||| 1).toNat = x :=
  ⟨State.reset, .core, 3, 0#32, State.reset.stored .core (0xa0100 + 0x40 * 3) 1, by decide +kernel⟩

theorem witness_dmaDescriptors_dmaAbort :
    ∃ (s : State) (p : Path) (e : Fin 16) (v : BitVec 32) (x : State),
    s.live = true ∧ s.pathOpen p = true ∧ s.stored p (0xa0100 + 0x40 * e.val) (v ||| 0x80000000).toNat = x :=
  ⟨State.reset, .core, 3, 1#32, State.reset.stored .core (0xa0100 + 0x40 * 3) 0x80000001, by decide +kernel⟩

theorem witness_dmaDescriptors_dmaCplTailWrite :
    ∃ (s : State) (p : Path) (e : Fin 16) (v : BitVec 32) (x : State),
    s.live = true ∧ s.pathOpen p = true ∧ s.stored p (0xa012c + 0x40 * e.val) v.toNat = x :=
  ⟨State.reset, .core, 3, 5#32, State.reset.stored .core (0xa012c + 0x40 * 3) 5, by decide +kernel⟩

theorem witness_dmaDescriptors_descriptorFetch :
    ∃ (s : State) (e : Fin 16) (host : HostData) (up : Upsets) (i : Nat) (raw : Nat),
    s.live = true ∧ s.canFetch e = true ∧ s.on (F.DMA_CTRL_DESC_HOST e) = true ∧
        s.rd (F.DMA_HEAD e) % ringLen (s.rd (F.DMA_RING_CFG_LOG2N e)) = i ∧
        (s.readEntry e (s.entryAt e) host).2 = some raw ∧ s.descFault (newDesc (s.freeDesc e) i raw) = none :=
  ⟨(((State.reset.wr (F.DMA_CTRL_EN 3) 1).wr (F.DMA_CTRL_DESC_HOST 3) 1).wr (F.DMA_TAIL 3) 2).wr F.PCI_STAT_L0 1, 3,
      .ok (leBytes 32 (2 ^ 255 + 64 * 2 ^ 128)), [], 0, 2 ^ 255 + 64 * 2 ^ 128, by decide +kernel⟩

theorem witness_dmaDescriptors_descriptorFetchHbm :
    ∃ (s : State) (e : Fin 16) (host : HostData) (up : Upsets) (i : Nat) (raw : Nat),
    s.live = true ∧ s.canFetch e = true ∧ s.on (F.DMA_CTRL_DESC_HOST e) = false ∧ inHbm (s.entryAt e) 32 = true ∧
        s.hbmReady (s.entryAt e) 32 = true ∧ s.rd (F.DMA_HEAD e) % ringLen (s.rd (F.DMA_RING_CFG_LOG2N e)) = i ∧
        ((s.upsets (upsetList up)).readEntry e (s.entryAt e) host).2 = some raw ∧
        s.descFault (newDesc (s.freeDesc e) i raw) = none :=
  ⟨(((State.reset.wr (F.DMA_CTRL_EN 3) 1).wr (F.DMA_TAIL 3) 2).wr (F.HBM_STATUS_TRAINED 0) 1).withHbm (Bytes.write
      State.reset.hbm 0 (leBytes 32 (2 ^ 255 + 64 * 2 ^ 128))), 3, .error, [], 0, 2 ^ 255 + 64 * 2 ^ 128,
      by decide +kernel⟩

theorem witness_dmaDescriptors_descriptorFetchWaits :
    ∃ (s : State) (e : Fin 16) (host : HostData) (up : Upsets),
    s.live = true ∧ s.canFetch e = true ∧ s.on (F.DMA_CTRL_DESC_HOST e) = false ∧ inHbm (s.entryAt e) 32 = true ∧
        s.hbmReady (s.entryAt e) 32 = false :=
  ⟨(State.reset.wr (F.DMA_CTRL_EN 3) 1).wr (F.DMA_TAIL 3) 2, 3, .error, [], by decide +kernel⟩

theorem witness_dmaDescriptors_descriptorFetchInvalid :
    ∃ (s : State) (e : Fin 16) (host : HostData) (up : Upsets) (i : Nat) (raw : Nat) (r : Nat),
    s.live = true ∧ s.canFetch e = true ∧ s.on (F.DMA_CTRL_DESC_HOST e) = true ∧
        s.rd (F.DMA_HEAD e) % ringLen (s.rd (F.DMA_RING_CFG_LOG2N e)) = i ∧
        (s.readEntry e (s.entryAt e) host).2 = some raw ∧ s.descFault (newDesc (s.freeDesc e) i raw) = some r ∧
        s.cplFull e = false ∧ (s.eng e).held = [] :=
  ⟨(((State.reset.wr (F.DMA_CTRL_EN 3) 1).wr (F.DMA_CTRL_DESC_HOST 3) 1).wr (F.DMA_TAIL 3) 2).wr F.PCI_STAT_L0 1, 3,
      .ok [], [], 0, 0, 1, by decide +kernel⟩

theorem witness_dmaDescriptors_descriptorFetchLost :
    ∃ (s : State) (e : Fin 16) (host : HostData) (up : Upsets) (i : Nat),
    s.live = true ∧ s.canFetch e = true ∧ s.on (F.DMA_CTRL_DESC_HOST e) = true ∧
        s.rd (F.DMA_HEAD e) % ringLen (s.rd (F.DMA_RING_CFG_LOG2N e)) = i ∧ (host = .error ∨ host = .poisoned) ∧
        s.cplFull e = false ∧ (s.eng e).held = [] :=
  ⟨(((State.reset.wr (F.DMA_CTRL_EN 3) 1).wr (F.DMA_CTRL_DESC_HOST 3) 1).wr (F.DMA_TAIL 3) 2).wr F.PCI_STAT_L0 1, 3,
      .error, [], 0, by decide +kernel⟩

theorem witness_dmaDescriptors_descriptorFetchIdle :
    ∃ (s : State) (e : Fin 16) (host : HostData) (up : Upsets),
    s.live = true ∧ s.canFetch e = false :=
  ⟨State.reset, 3, .error, [], by decide +kernel⟩

theorem witness_dmaDescriptors_dmaDescriptorStart :
    ∃ (s : State) (e : Fin 16) (d : Desc),
    s.live = true ∧ s.nextDesc e = some d ∧ s.engRuns e = true ∧ s.cplFull e = false ∧ (s.eng e).held = [] ∧
        s.holdsDone e d = true ∧ s.refuses d = none ∧
        (d.domains.any fun c => decide (16 ≤ c) && s.stackDead (c - 16)) = false ∧
        (d.domains.any fun c => s.domWaits c) = false :=
  ⟨(State.reset.wr (F.DMA_CTRL_EN 3) 1).setEng 3 ⟨[newDesc 0 0 (2 ^ 255 + 64 * 2 ^ 128)],
      []⟩ |>.wr (F.HBM_STATUS_TRAINED 0) 1 |>.wr (F.HBM_STATUS_TRAINED 1) 1, 3, newDesc 0 0 (2 ^ 255 + 64 * 2 ^ 128),
      by decide +kernel⟩

theorem witness_dmaDescriptors_dmaDescriptorStartRefused :
    ∃ (s : State) (e : Fin 16) (d : Desc) (st : Nat),
    s.live = true ∧ s.nextDesc e = some d ∧ s.desc? e d.slot = some d ∧ s.outstanding e d = false ∧ d.ended = none ∧
        s.engRuns e = true ∧ s.cplFull e = false ∧ (s.eng e).held = [] ∧ s.holdsDone e d = true ∧
        (s.refuses d = some st ∨ (s.refuses d = none ∧
        (d.domains.any fun c => decide (16 ≤ c) && s.stackDead (c - 16)) = true ∧ st = 2)) :=
  ⟨(State.reset.wr (F.DMA_CTRL_EN 3) 1).setEng 3 ⟨[newDesc 0 0 (4 * 2 ^ 155)], []⟩ |>.wr (F.ETH_CTRL_EN 0) 0, 3,
      newDesc 0 0 (4 * 2 ^ 155), 4, by decide +kernel⟩

theorem witness_dmaDescriptors_dmaDescriptorStartWaits :
    ∃ (s : State) (e : Fin 16) (d : Desc),
    s.live = true ∧ s.nextDesc e = some d ∧ s.engRuns e = true ∧ s.cplFull e = false ∧ (s.eng e).held = [] ∧
        s.holdsDone e d = true ∧ s.refuses d = none ∧
        (d.domains.any fun c => decide (16 ≤ c) && s.stackDead (c - 16)) = false ∧
        (d.domains.any fun c => s.domWaits c) = true :=
  ⟨(State.reset.wr (F.DMA_CTRL_EN 3) 1).setEng 3 ⟨[newDesc 0 0 (2 ^ 255 + 64 * 2 ^ 128)], []⟩, 3,
      newDesc 0 0 (2 ^ 255 + 64 * 2 ^ 128), by decide +kernel⟩

theorem witness_dmaDescriptors_dmaDescriptorStartHeld :
    ∃ (s : State) (e : Fin 16),
    s.live = true ∧ (s.nextDesc e = none ∨ s.engRuns e = false ∨ s.cplFull e = true ∨ (s.eng e).held ≠ [] ∨
        ((s.nextDesc e).any fun d => s.holdsDone e d) = false) :=
  ⟨State.reset, 3, by decide +kernel⟩

theorem witness_dmaDescriptors_dmaDescriptorComplete :
    ∃ (s : State) (e : Fin 16) (k : Fin 64) (up : Upsets) (d : Desc),
    s.live = true ∧ s.desc? e k = some d ∧ d.started = true ∧ (d.asked ≠ 0 ∨ d.sspace = 1) ∧ s.descDone e d = true ∧
        (d.domains.any fun c => s.domWaits c) = false ∧ s.cplFull e = false ∧ (s.eng e).held = [] :=
  ⟨((State.reset.wr (F.DMA_CTRL_EN 3) 1).setEng 3
      ⟨[{ newDesc 0 0 (64 * 2 ^ 128 + 2 ^ 152 + 2 ^ 155) with started := true, done := 64 }], []⟩), 3, 0, [],
      { newDesc 0 0 (64 * 2 ^ 128 + 2 ^ 152 + 2 ^ 155) with started := true, done := 64 }, by decide +kernel⟩

theorem witness_dmaDescriptors_dmaDescriptorCompleteHeld :
    ∃ (s : State) (e : Fin 16) (k : Fin 64) (up : Upsets) (d : Desc),
    s.live = true ∧ s.desc? e k = some d ∧ d.started = true ∧ (d.asked ≠ 0 ∨ d.sspace = 1) ∧ s.descDone e d = true ∧
        (d.domains.any fun c => s.domWaits c) = false ∧ (s.cplFull e = true ∨ (s.eng e).held ≠ []) :=
  ⟨(State.reset.wr (F.DMA_CPL_TAIL_TAIL 3) 1).setEng 3
      ⟨[{ newDesc 0 0 (64 * 2 ^ 128 + 2 ^ 152 + 2 ^ 155) with started := true, done := 64 }], []⟩, 3, 0, [],
      { newDesc 0 0 (64 * 2 ^ 128 + 2 ^ 152 + 2 ^ 155) with started := true, done := 64 }, by decide +kernel⟩

theorem witness_dmaDescriptors_dmaDrainIntoHbm :
    ∃ (s : State) (e : Fin 16) (k : Fin 64) (up : Upsets) (raw : Nat),
    s.live = true ∧ s.desc? e k = some { newDesc k.val 0 raw with started := true } ∧
        ((newDesc k.val 0 raw).sspace = 3 ∧ (newDesc k.val 0 raw).dspace = 0 ∧
        inWindow (newDesc k.val 0 raw).dst = false) ∧ (newDesc k.val 0 raw).total ≠ 0 ∧
        s.refuses (newDesc k.val 0 raw) = none ∧ s.outstanding e (newDesc k.val 0 raw) = false ∧
        ((newDesc k.val 0 raw).domains.any fun c => s.domWaits c || (decide (16 ≤ c) && s.stackDead (c - 16))) =
        false ∧ s.cplFull e = false ∧ (s.eng e).held = [] ∧ s.on (F.DMA_CTRL_CPL_HOST e) = true :=
  ⟨(((State.reset.wr (F.DMA_CTRL_CPL_HOST 3) 1).wr (F.HBM_STATUS_TRAINED 0) 1).wr (F.SEC_STATUS_PSTATE 0) 0 |>.wr
      (F.HBM_STATUS_SELF_REFRESH 0) 0).setEng 3 ⟨[{ newDesc 0 0 (64 * 2 ^ 128 + 3 * 2 ^ 152) with started := true }],
      []⟩, 3, 0, [], 64 * 2 ^ 128 + 3 * 2 ^ 152, by decide +kernel⟩

theorem witness_dmaDescriptors_dmaDescriptorNone :
    ∃ (s : State) (e : Fin 16) (k : Fin 64) (up : Upsets),
    s.live = true ∧ ((s.desc? e k).all fun d => !d.started || d.ended.isSome) = true :=
  ⟨State.reset, 3, 0, [], by decide +kernel⟩

theorem witness_dmaDescriptors_dmaDescriptorIncomplete :
    ∃ (s : State) (e : Fin 16) (k : Fin 64) (up : Upsets) (d : Desc),
    s.live = true ∧ s.desc? e k = some d ∧ (d.started = true ∧ d.ended = none) ∧ (d.asked ≠ 0 ∨ d.sspace = 1) ∧
        s.refuses d = none ∧ s.descDone e d = false ∧ (d.domains.any fun c => s.domWaits c) = false :=
  ⟨(State.reset.wr (F.DMA_CTRL_EN 3) 1).setEng 3
      ⟨[{ newDesc 0 0 (64 * 2 ^ 128 + 2 ^ 152 + 2 ^ 155) with started := true }], []⟩, 3, 0, [],
      { newDesc 0 0 (64 * 2 ^ 128 + 2 ^ 152 + 2 ^ 155) with started := true }, by decide +kernel⟩

theorem witness_dmaDescriptors_hostCompletion :
    ∃ (s : State) (tag : Fin 768) (data : List Byte) (r : HostRead) (d : Desc),
    s.live = true ∧ s.hostRead? tag = some r ∧ s.desc? r.eng r.slot = some d ∧ (d.landed = [] ∧ d.ended = none ∧
        d.got = r.off) ∧ (d.dspace = 0 ∧ inWindow d.dst = false) ∧ s.refuses d = none ∧
        ((stacksTouched (d.dst + r.off) (data.take r.len).length).all fun c => !s.stackDead c && s.stackServes c) =
        true :=
  ⟨((State.reset.wr (F.HBM_STATUS_TRAINED 0) 1).setEng 3
      ⟨[{ newDesc 0 0 (64 * 2 ^ 128 + 2 ^ 152) with started := true, asked := 64 }],
      []⟩).withPcie { State.reset.pcie with reads := [⟨5, 3, 0, 0, 0, 64⟩] }, 5, [7#8], ⟨5, 3, 0, 0, 0, 64⟩,
      { newDesc 0 0 (64 * 2 ^ 128 + 2 ^ 152) with started := true, asked := 64 }, by decide +kernel⟩

theorem witness_dmaDescriptors_hostCompletionEarly :
    ∃ (s : State) (tag : Fin 768) (data : List Byte) (r : HostRead) (d : Desc),
    s.live = true ∧ s.hostRead? tag = some r ∧ s.desc? r.eng r.slot = some d ∧ (d.landed = [] ∧ d.ended = none ∧
        d.got < r.off) ∧ data.take r.len ≠ [] :=
  ⟨((State.reset.wr (F.HBM_STATUS_TRAINED 0) 1).setEng 3
      ⟨[{ newDesc 0 0 (64 * 2 ^ 128 + 2 ^ 152) with started := true, asked := 64 }],
      []⟩).withPcie { State.reset.pcie with reads := [⟨5, 3, 0, 32, 0, 32⟩] }, 5, [7#8], ⟨5, 3, 0, 32, 0, 32⟩,
      { newDesc 0 0 (64 * 2 ^ 128 + 2 ^ 152) with started := true, asked := 64 }, by decide +kernel⟩

theorem witness_dmaDescriptors_hostCompletionError :
    ∃ (s : State) (tag : Fin 768) (st : HostData) (r : HostRead) (d : Desc),
    s.live = true ∧ s.hostRead? tag = some r ∧ s.desc? r.eng r.slot = some d ∧ (st = .error ∨ st = .poisoned) :=
  ⟨(State.reset.setEng 3 ⟨[{ newDesc 0 0 (64 * 2 ^ 128 + 2 ^ 152) with started := true, asked := 64 }],
      []⟩).withPcie { State.reset.pcie with reads := [⟨5, 3, 0, 0, 0, 64⟩] }, 5, .error, ⟨5, 3, 0, 0, 0, 64⟩,
      { newDesc 0 0 (64 * 2 ^ 128 + 2 ^ 152) with started := true, asked := 64 }, by decide +kernel⟩

theorem witness_dmaDescriptors_hostCompletionReplayed :
    ∃ (s : State) (tag : Fin 768) (data : List Byte) (r : HostRead),
    s.live = true ∧ s.hostRead? tag = some r :=
  ⟨State.reset.withPcie { State.reset.pcie with reads := [⟨5, 3, 0, 0, 0, 64⟩] }, 5, [], ⟨5, 3, 0, 0, 0, 64⟩,
      by decide +kernel⟩

theorem witness_dmaDescriptors_hostCompletionUnexpected :
    ∃ (s : State) (tag : Fin 768) (st : HostData),
    s.live = true ∧ s.hostRead? tag = none :=
  ⟨State.reset, 5, .error, by decide +kernel⟩

theorem witness_dmaDescriptors_completionTimeout :
    ∃ (s : State) (tag : Fin 768) (r : HostRead) (d : Desc),
    s.live = true ∧ s.hostRead? tag = some r ∧ s.desc? r.eng r.slot = some d ∧ s.pcie.noTimeout = false :=
  ⟨(State.reset.setEng 3 ⟨[{ newDesc 0 0 (64 * 2 ^ 128 + 2 ^ 152) with started := true, asked := 64 }],
      []⟩).withPcie { State.reset.pcie with reads := [⟨5, 3, 0, 0, 0, 64⟩] }, 5, ⟨5, 3, 0, 0, 0, 64⟩,
      { newDesc 0 0 (64 * 2 ^ 128 + 2 ^ 152) with started := true, asked := 64 }, by decide +kernel⟩

theorem witness_dmaDescriptors_completionTimeoutNone :
    ∃ (s : State) (tag : Fin 768),
    s.live = true ∧ (s.hostRead? tag = none ∨ s.pcie.noTimeout = true) :=
  ⟨State.reset, 5, by decide +kernel⟩

theorem witness_pcie_pciePerstDeassert :
    ∃ (s : State),
    s.live = true :=
  ⟨State.reset, by decide +kernel⟩

theorem witness_pcie_pcieReady :
    ∃ (s : State) (speed : Fin 5) (width : Fin 5),
    s.live = true ∧ s.pcie.perst = false ∧ s.on F.PCI_STAT_READY = false :=
  ⟨State.reset.withPcie { State.reset.pcie with perst := false }, 4, 4, by decide +kernel⟩

theorem witness_pcie_pcieReadyAgain :
    ∃ (s : State) (speed : Fin 5) (width : Fin 5),
    s.live = true ∧ (s.pcie.perst = true ∨ s.on F.PCI_STAT_READY = true) :=
  ⟨State.reset.withPcie { State.reset.pcie with perst := true }, 4, 4, by decide +kernel⟩

theorem witness_pcie_pcieLinkUp :
    ∃ (s : State) (speed : Fin 5) (width : Fin 5),
    s.live = true ∧ s.pcie.perst = false ∧ s.on F.PCI_STAT_L0 = false ∧ s.pcie.d3hot = false :=
  ⟨State.reset.withPcie { State.reset.pcie with perst := false }, 4, 4, by decide +kernel⟩

theorem witness_pcie_pcieInReset :
    ∃ (s : State) (speed : Fin 5) (width : Fin 5),
    s.live = true ∧ (s.pcie.perst = true ∨ s.on F.PCI_STAT_L0 = true) :=
  ⟨State.reset.withPcie { State.reset.pcie with perst := true }, 4, 4, by decide +kernel⟩

theorem witness_pcie_fundamentalReset :
    ∃ (s : State),
    s.live = true :=
  ⟨State.reset, by decide +kernel⟩

theorem witness_pcie_hotReset :
    ∃ (s : State),
    s.live = true :=
  ⟨State.reset, by decide +kernel⟩

theorem witness_pcie_pcieLinkDown :
    ∃ (s : State),
    s.live = true :=
  ⟨State.reset, by decide +kernel⟩

theorem witness_pcie_functionLevelReset :
    ∃ (s : State),
    s.live = true :=
  ⟨State.reset, by decide +kernel⟩

theorem witness_requests_configurationRequest :
    ∃ (s : State) (on : Bool) (mask : Bool),
    s.live = true ∧ s.pcie.perst = false ∧ s.on F.PCI_STAT_READY = true :=
  ⟨(State.reset.withPcie { State.reset.pcie with perst := false }).wr F.PCI_STAT_READY 1, true, false,
      by decide +kernel⟩

theorem witness_requests_configurationPower :
    ∃ (s : State) (d3 : Bool),
    s.live = true ∧ s.pcie.perst = false ∧ s.on F.PCI_STAT_READY = true :=
  ⟨(State.reset.withPcie { State.reset.pcie with perst := false }).wr F.PCI_STAT_READY 1, true, by decide +kernel⟩

theorem witness_requests_configurationAspm :
    ∃ (s : State) (l1 : Bool) (l11 : Bool),
    s.live = true ∧ s.pcie.perst = false ∧ s.on F.PCI_STAT_READY = true :=
  ⟨(State.reset.withPcie { State.reset.pcie with perst := false }).wr F.PCI_STAT_READY 1, true, false,
      by decide +kernel⟩

theorem witness_requests_configurationSizes :
    ∃ (s : State) (p : Fin 3) (r : Fin 6),
    s.live = true ∧ s.pcie.perst = false ∧ s.on F.PCI_STAT_READY = true :=
  ⟨(State.reset.withPcie { State.reset.pcie with perst := false }).wr F.PCI_STAT_READY 1, 2, 5, by decide +kernel⟩

theorem witness_requests_configurationTimeout :
    ∃ (s : State) (off : Bool) (range : Fin 5),
    s.live = true ∧ s.pcie.perst = false ∧ s.on F.PCI_STAT_READY = true :=
  ⟨(State.reset.withPcie { State.reset.pcie with perst := false }).wr F.PCI_STAT_READY 1, true, 2, by decide +kernel⟩

theorem witness_requests_configurationEcrc :
    ∃ (s : State) (gen : Bool) (check : Bool),
    s.live = true ∧ s.pcie.perst = false ∧ s.on F.PCI_STAT_READY = true :=
  ⟨(State.reset.withPcie { State.reset.pcie with perst := false }).wr F.PCI_STAT_READY 1, false, true,
      by decide +kernel⟩

theorem witness_requests_configurationDiscovery :
    ∃ (s : State) (i : BitVec 8),
    s.live = true ∧ s.pcie.perst = false ∧ s.on F.PCI_STAT_READY = true :=
  ⟨(State.reset.withPcie { State.reset.pcie with perst := false }).wr F.PCI_STAT_READY 1, 1#8, by decide +kernel⟩

theorem witness_requests_configurationAerClear :
    ∃ (s : State),
    s.live = true ∧ s.pcie.perst = false ∧ s.on F.PCI_STAT_READY = true :=
  ⟨(State.reset.withPcie { State.reset.pcie with perst := false }).wr F.PCI_STAT_READY 1, by decide +kernel⟩

theorem witness_requests_configurationCaps :
    ∃ (s : State),
    s.live = true ∧ s.pcie.perst = false ∧ s.on F.PCI_STAT_READY = true :=
  ⟨(State.reset.withPcie { State.reset.pcie with perst := false }).wr F.PCI_STAT_READY 1, by decide +kernel⟩

theorem witness_requests_configurationAerRead :
    ∃ (s : State),
    s.live = true ∧ s.pcie.perst = false ∧ s.on F.PCI_STAT_READY = true :=
  ⟨(State.reset.withPcie { State.reset.pcie with perst := false }).wr F.PCI_STAT_READY 1, by decide +kernel⟩

theorem witness_requests_configurationOther :
    ∃ (s : State),
    s.live = true ∧ s.pcie.perst = false ∧ s.on F.PCI_STAT_READY = true :=
  ⟨(State.reset.withPcie { State.reset.pcie with perst := false }).wr F.PCI_STAT_READY 1, by decide +kernel⟩

theorem witness_requests_configurationRequestRetry :
    ∃ (s : State) (q : CfgReq),
    s.live = true ∧ s.pcie.perst = false ∧ s.on F.PCI_STAT_READY = false :=
  ⟨State.reset.withPcie { State.reset.pcie with perst := false }, .caps, by decide +kernel⟩

theorem witness_requests_configurationInReset :
    ∃ (s : State) (q : CfgReq),
    s.live = true ∧ s.pcie.perst = true :=
  ⟨State.reset.withPcie { State.reset.pcie with perst := true }, .caps, by decide +kernel⟩

theorem witness_requests_bar2Request :
    ∃ (s : State) (a : BitVec 35) (n : Fin 4097) (up : Upsets) (tlp : Tlp),
    s.live = true ∧ inHbm a.toNat n.val = true ∧ s.on F.PCI_STAT_READY = true ∧ s.tlpFault tlp false = none ∧
        s.pcie.d3hot = false ∧ n.val ≤ s.pcie.mrrs ∧
        ((stacksTouched a.toNat n.val).all fun c => s.stackServes c && !s.stackDead c) = true ∧
        (s.upsets (upsetList up)).badWords a.toNat n.val = [] :=
  ⟨(State.reset.wr (F.HBM_STATUS_TRAINED 0) 1).wr F.PCI_STAT_READY 1, 64#35, 8, [], .good, by decide +kernel⟩

theorem witness_requests_bar2RequestFails :
    ∃ (s : State) (a : BitVec 35) (n : Fin 4097) (up : Upsets) (tlp : Tlp),
    s.live = true ∧ inHbm a.toNat n.val = true ∧ s.on F.PCI_STAT_READY = true ∧ s.tlpFault tlp false = none ∧
        s.pcie.d3hot = false ∧ n.val ≤ s.pcie.mrrs ∧ s.hbmReady a.toNat n.val = true ∧
        ((stacksTouched a.toNat n.val).any s.stackDead = true ∨
        (s.upsets (upsetList up)).badWords a.toNat n.val ≠ []) :=
  ⟨(State.reset.wr (F.HBM_STATUS_LINK_ERR 0) 1).wr F.PCI_STAT_READY 1, 64#35, 8, [], .good, by decide +kernel⟩

theorem witness_requests_bar2RequestWrite :
    ∃ (s : State) (a : BitVec 35) (n : Fin 4097) (bs : List (Option Byte)) (up : Upsets) (tlp : Tlp),
    s.live = true ∧ inHbm a.toNat bs.length = true ∧ s.on F.PCI_STAT_READY = true ∧ s.tlpFault tlp true = none ∧
        s.pcie.d3hot = false ∧ bs.length ≤ s.pcie.mps ∧
        ((stacksTouched a.toNat bs.length).all fun c => s.stackServes c && !s.stackDead c) = true :=
  ⟨(State.reset.wr (F.HBM_STATUS_TRAINED 0) 1).wr F.PCI_STAT_READY 1, 64#35, 0, [some 7#8, none], [], .good,
      by decide +kernel⟩

theorem witness_requests_bar2RequestWaits :
    ∃ (s : State) (a : BitVec 35) (n : Fin 4097) (up : Upsets) (tlp : Tlp),
    s.live = true ∧ inHbm a.toNat n.val = true ∧ s.on F.PCI_STAT_READY = true ∧ s.tlpFault tlp false = none ∧
        s.pcie.d3hot = false ∧ n.val ≤ s.pcie.mrrs ∧ s.hbmReady a.toNat n.val = false :=
  ⟨State.reset.wr F.PCI_STAT_READY 1, 64#35, 8, [], .good, by decide +kernel⟩

theorem witness_requests_bar2RequestUnsupported :
    ∃ (s : State) (a : BitVec 35) (n : Fin 4097) (up : Upsets) (tlp : Tlp),
    s.live = true ∧ s.on F.PCI_STAT_READY = true ∧ s.tlpFault tlp false = none ∧ (s.pcie.d3hot = true ∨
        inHbm a.toNat n.val = false ∨ s.pcie.mrrs < n.val) :=
  ⟨State.reset.wr F.PCI_STAT_READY 1, 0x7ffffffff#35, 8, [], .good, by decide +kernel⟩

theorem witness_requests_bar2RequestNotReady :
    ∃ (s : State) (a : BitVec 35) (n : Fin 4097) (w : Option (List (Option Byte))) (up : Upsets) (tlp : Tlp),
    s.live = true ∧ s.on F.PCI_STAT_READY = false :=
  ⟨State.reset, 64#35, 8, none, [], .good, by decide +kernel⟩

theorem witness_requests_bar4Request :
    ∃ (s : State) (off : BitVec 16) (n : Fin 9) (tlp : Tlp),
    s.live = true ∧ off.toNat + n.val ≤ 65536 ∧ s.on F.PCI_STAT_READY = true ∧ s.tlpFault tlp false = none ∧
        s.pcie.d3hot = false :=
  ⟨State.reset.wr F.PCI_STAT_READY 1, 12#16, 4, .good, by decide +kernel⟩

theorem witness_requests_bar4RequestWrite :
    ∃ (s : State) (off : BitVec 16) (n : Fin 9) (v : BitVec 64) (tlp : Tlp),
    s.live = true ∧ off.toNat + n.val ≤ 65536 ∧ s.on F.PCI_STAT_READY = true ∧ s.tlpFault tlp true = none ∧
        s.pcie.d3hot = false :=
  ⟨State.reset.wr F.PCI_STAT_READY 1, 16#16, 4, 0xfee00000#64, .good, by decide +kernel⟩

theorem witness_requests_bar4RequestUnsupported :
    ∃ (s : State) (off : BitVec 16) (n : Fin 9) (tlp : Tlp),
    s.live = true ∧ s.on F.PCI_STAT_READY = true ∧ s.tlpFault tlp false = none ∧ (s.pcie.d3hot = true ∨
        65536 < off.toNat + n.val) :=
  ⟨State.reset.wr F.PCI_STAT_READY 1, 0xffff#16, 4, .good, by decide +kernel⟩

theorem witness_requests_bar4RequestNotReady :
    ∃ (s : State) (off : BitVec 16) (n : Fin 9) (w : Option (BitVec 64)) (tlp : Tlp),
    s.live = true ∧ s.on F.PCI_STAT_READY = false :=
  ⟨State.reset, 16#16, 4, none, .good, by decide +kernel⟩

theorem witness_requests_bar2RequestError :
    ∃ (s : State) (a : BitVec 35) (n : Fin 4097) (w : Option (List (Option Byte))) (up : Upsets) (tlp : Tlp),
    s.live = true ∧ s.on F.PCI_STAT_READY = true ∧ (s.tlpFault tlp w.isSome).isSome = true :=
  ⟨State.reset.wr F.PCI_STAT_READY 1, 64#35, 8, some [some 5#8], [], .poisoned, by decide +kernel⟩

theorem witness_requests_bar4RequestError :
    ∃ (s : State) (off : BitVec 16) (n : Fin 9) (w : Option (BitVec 64)) (tlp : Tlp),
    s.live = true ∧ s.on F.PCI_STAT_READY = true ∧ (s.tlpFault tlp w.isSome).isSome = true :=
  ⟨State.reset.wr F.PCI_STAT_READY 1, 16#16, 4, some 7#64, .poisoned, by decide +kernel⟩

theorem witness_requests_unsupportedRequest :
    ∃ (s : State) (posted : Bool),
    s.live = true :=
  ⟨State.reset, false, by decide +kernel⟩

theorem witness_requests_msixUnmask :
    ∃ (s : State) (v : Fin 2048),
    s.live = true ∧ s.pba v = true ∧ s.pcie.msixOn = true ∧ s.pcie.msixMask = false ∧ s.hostOpen = true ∧
        s.pcie.sent.contains v.val = false :=
  ⟨((State.reset.withPcie { State.reset.pcie with msixOn := true, msixMask := false }).wr F.PCI_STAT_L0 1).setPba 5
      true, 5, by decide +kernel⟩

theorem witness_requests_msixUnmaskIdle :
    ∃ (s : State) (v : Fin 2048),
    s.live = true ∧ (s.pba v = false ∨ s.pcie.msixOn = false ∨ s.pcie.msixMask = true) :=
  ⟨State.reset, 5, by decide +kernel⟩

theorem witness_ethernet_ethFrameReceived :
    ∃ (s : State) (e : Fin 4) (bytes : List Byte) (a : Nat),
    s.live = true ∧ s.on (F.ETH_CTRL_EN e) = true ∧ fcsGood bytes = true ∧ 64 ≤ bytes.length ∧ bytes.length ≤ 9216 ∧
        (frameByte bytes 12 == 0x88 && frameByte bytes 13 == 0x08) = false ∧ s.rxFull e = false ∧
        s.rd64 (0xf10008 + 0x10000 * e.val) + s.rd (F.ETH_RX_HEAD_HEAD e) % s.rxSlots e * 10240 = a :=
  ⟨State.reset.wr (F.ETH_CTRL_EN 1) 1, 1, List.replicate 60 0 ++ fcsOf (List.replicate 60 0), 0, by decide +kernel,
      by decide +kernel, fcsGood_append _, by decide +kernel⟩

theorem witness_ethernet_ethFrameBad :
    ∃ (s : State) (e : Fin 4) (bytes : List Byte),
    s.live = true ∧ s.on (F.ETH_CTRL_EN e) = true ∧ fcsGood bytes = false :=
  ⟨State.reset.wr (F.ETH_CTRL_EN 1) 1, 1, [1, 2, 3, 4, 5], by decide +kernel⟩

theorem witness_ethernet_ethFrameDropped :
    ∃ (s : State) (e : Fin 4) (bytes : List Byte),
    s.live = true ∧ s.on (F.ETH_CTRL_EN e) = true ∧ fcsGood bytes = true ∧ (bytes.length < 64 ∨ 9216 < bytes.length ∨
        (frameByte bytes 12 = 0x88 ∧ frameByte bytes 13 = 0x08) ∨ s.rxFull e = true) :=
  ⟨State.reset.wr (F.ETH_CTRL_EN 1) 1, 1, List.replicate 9 0 ++ fcsOf (List.replicate 9 0), by decide +kernel,
      by decide +kernel, fcsGood_append _, by decide +kernel⟩

theorem witness_ethernet_ethFrameOff :
    ∃ (s : State) (e : Fin 4) (bytes : List Byte),
    s.live = true ∧ s.on (F.ETH_CTRL_EN e) = false :=
  ⟨State.reset.wr (F.ETH_CTRL_EN 1) 0, 1, [], by decide +kernel⟩

theorem witness_ethernet_ethLinkChange :
    ∃ (s : State) (e : Fin 4) (up : Bool),
    s.live = true ∧ s.on (F.ETH_STAT_LINK e) ≠ up ∧ (up = true → s.on (F.ETH_CTRL_EN e) = true ∧
        bit s.cstore.cullet.eth e = false) :=
  ⟨State.reset.wr (F.ETH_CTRL_EN 1) 1, 1, true, by decide +kernel⟩

theorem witness_ethernet_ethLinkChangeNone :
    ∃ (s : State) (e : Fin 4) (up : Bool),
    s.live = true ∧ (s.on (F.ETH_STAT_LINK e) = up ∨ (up = true ∧ (s.on (F.ETH_CTRL_EN e) = false ∨
        bit s.cstore.cullet.eth e = true))) :=
  ⟨State.reset, 1, false, by decide +kernel⟩

theorem witness_ethernet_tsIdRead :
    ∃ (s : State) (p : Path) (e : Fin 4),
    s.live = true ∧ s.pathOpen p = true :=
  ⟨State.reset, .core, 2, by decide +kernel⟩

theorem witness_ethernet_ptpOfsNsWrite :
    ∃ (s : State) (p : Path) (e : Fin 4) (v : BitVec 32),
    s.live = true ∧ s.pathOpen p = true :=
  ⟨State.reset, .core, 2, 100#32, by decide +kernel⟩

theorem witness_mailbox_mbxTailWrite :
    ∃ (s : State) (p : Path) (v : BitVec 32),
    s.live = true ∧ s.pathOpen p = true ∧ (v.toNat % 128 + 128 - s.rd F.PCI_MBX_HEAD_HEAD) % 128 ≤ 64 :=
  ⟨State.reset, .core, 3#32, by decide +kernel⟩

theorem witness_mailbox_mbxTailWriteOverflow :
    ∃ (s : State) (p : Path) (v : BitVec 32),
    s.live = true ∧ s.pathOpen p = true ∧ 64 < (v.toNat % 128 + 128 - s.rd F.PCI_MBX_HEAD_HEAD) % 128 :=
  ⟨State.reset, .core, 100#32, by decide +kernel⟩

theorem witness_mailbox_mbxCplTailWrite :
    ∃ (s : State) (p : Path) (v : BitVec 32),
    s.live = true ∧ s.pathOpen p = true :=
  ⟨State.reset, .core, 3#32, by decide +kernel⟩

theorem witness_mailbox_badOpcode :
    ∃ (s : State) (c : MbxCmd) (cs : List MbxCmd),
    s.live = true ∧ s.mbx.bad = c :: cs ∧ s.mbxReady = true :=
  ⟨(State.reset.wr F.PCI_MBX_STAT_READY 1).withMbx { State.reset.mbx with bad := [⟨0, 0xff, false, false⟩] }, ⟨0,
      0xff, false, false⟩, [], by decide +kernel⟩

theorem witness_mailbox_badOpcodeWaits :
    ∃ (s : State),
    s.live = true ∧ (s.mbx.bad = [] ∨ s.mbxReady = false) :=
  ⟨State.reset, by decide +kernel⟩

theorem witness_mailbox_evtPendWrite :
    ∃ (s : State) (p : Path) (g : Fin 24) (v : BitVec 32) (same : BitVec 32),
    s.live = true ∧ s.pathOpen p = true :=
  ⟨State.reset.raise 40, .core, 1, 0x100#32, 0#32, by decide +kernel⟩

theorem witness_imageLoads_loadImage :
    ∃ (s : State) (c : MbxCmd),
    s.live = true ∧ s.longNext 0x01 = some c ∧ c.reservedZero ([4, 5] ++ (upTo 12).map fun k => 8 + k) = true ∧
        (c.byte 4 = 0 ∧ c.byte 5 < 5 ∧ s.lcState ≠ 3 ∨ c.byte 4 = 1 ∧ inHbm (c.num 8 8) (c.num 16 4) = true) ∧
        s.lcState ≠ 4 ∧ (s.ldr.hostWait = true ∨ s.loaderBusy = false ∧ s.fab.releasing = none ∧ (∀ n, n < 16 →
        s.sectors n = [] ∨ s.run n = 0 ∨ s.run n = 5)) :=
  ⟨(State.reset.wr F.PCI_MBX_STAT_READY 1).withMbx
      { State.reset.mbx with long := [⟨0, 2 ^ 128 * 4096 + 2 ^ 32 + 1, false, false⟩] }, ⟨0,
      2 ^ 128 * 4096 + 2 ^ 32 + 1, false, false⟩, by decide +kernel⟩

theorem witness_imageLoads_loadImageBadParam :
    ∃ (s : State) (c : MbxCmd),
    s.live = true ∧ s.longNext 0x01 = some c ∧ c.seen ∧ (c.reservedZero ([4, 5] ++
        (upTo 12).map fun k => 8 + k) = false ∨ 2 ≤ c.byte 4 ∨ c.byte 4 = 0 ∧ 5 ≤ c.byte 5 ∨ c.byte 4 = 1 ∧
        inHbm (c.num 8 8) (c.num 16 4) = false) :=
  ⟨(State.reset.wr F.PCI_MBX_STAT_READY 1).withMbx { State.reset.mbx with long := [⟨0, 2 ^ 33 + 1, false, false⟩] },
      ⟨0, 2 ^ 33 + 1, false, false⟩, by decide +kernel⟩

theorem witness_imageLoads_fullLoadComplete :
    ∃ (s : State) (upset : Option (BitVec 31)) (flash : Flash) (up : Upsets) (l : Load) (y : State),
    s.live = true ∧ s.ldr.load = some l ∧
        ((s.upsets (upsetList up)).wakeHbm (if l.source = 1 then l.addr else 0) (s.loadBytes l flash) = y) ∧
        (y.hbmReady (if l.source = 1 then l.addr else 0) (s.loadBytes l flash) = true) ∧ y.loadWaits l = false ∧
        (l.source = 2 → y.start.boot ≠ [] ∨ flashHasContainer flash (y.flashMode flash) l.addr = true) ∧
        y.regionLost = false ∧ (l.start = true ∨ y.windowsOpen = false) :=
  ⟨(forEach (upTo 16) (fun n s => (s.wr (F.GAF_STATUS_STATE n) 1).wr (F.SEC_STATUS_PSTATE n) 0) State.reset).withLdr
      { State.reset.ldr with load := some ⟨0, 1, 0, 0, false, false⟩ }, none, ⟨[], 0, []⟩, [], ⟨0, 1, 0, 0, false,
      false⟩, (forEach (upTo 16) (fun n s => (s.wr (F.GAF_STATUS_STATE n) 1).wr (F.SEC_STATUS_PSTATE n) 0)
      State.reset).withLdr { State.reset.ldr with load := some ⟨0, 1, 0, 0, false, false⟩ }, by decide +kernel⟩

theorem witness_imageLoads_fullLoadDrains :
    ∃ (s : State) (upset : Option (BitVec 31)) (flash : Flash) (up : Upsets) (l : Load) (y : State),
    s.live = true ∧ s.ldr.load = some l ∧
        ((s.upsets (upsetList up)).wakeHbm (if l.source = 1 then l.addr else 0) (s.loadBytes l flash) = y) ∧
        (y.hbmReady (if l.source = 1 then l.addr else 0) (s.loadBytes l flash) = true) ∧ y.loadWaits l = false ∧
        (l.source = 2 → y.start.boot ≠ [] ∨ flashHasContainer flash (y.flashMode flash) l.addr = true) ∧
        y.regionLost = false ∧ l.start = false ∧ y.windowsOpen = true :=
  ⟨((forEach (upTo 16) (fun n s => (s.wr (F.GAF_STATUS_STATE n) 1).wr (F.SEC_STATUS_PSTATE n) 0) State.reset).withLdr
      { State.reset.ldr with load := some ⟨0, 1, 0, 0, false, false⟩ }).setWinOpen 2 [coreReq 2 5 none], none, ⟨[],
      0, []⟩, [], ⟨0, 1, 0, 0, false, false⟩,
      ((forEach (upTo 16) (fun n s => (s.wr (F.GAF_STATUS_STATE n) 1).wr (F.SEC_STATUS_PSTATE n) 0)
      State.reset).withLdr { State.reset.ldr with load := some ⟨0, 1, 0, 0, false, false⟩ }).setWinOpen 2 [coreReq 2
      5 none], by decide +kernel⟩

theorem witness_imageLoads_fullLoadCompleteWaits :
    ∃ (s : State) (upset : Option (BitVec 31)) (flash : Flash) (up : Upsets),
    s.live = true ∧ s.ldr.load.all (fun l => s.loadWaits l) = true :=
  ⟨State.reset.withLdr { State.reset.ldr with load := some ⟨1, 0, 0, 0, false, false⟩ }, none, ⟨[], 0, []⟩, [],
      by decide +kernel⟩

theorem witness_imageLoads_hostWaitExpiry :
    ∃ (s : State),
    s.live = true ∧ s.ldr.hostWait = true ∧ s.start.boot ≠ [] ∧ fieldAt s.start.boot 8 1 = 1 ∧
        fieldAt s.start.boot 16 2 ≠ 0 :=
  ⟨(State.reset.withLdr { State.reset.ldr with hostWait := true }).withStart
      { State.reset.start with boot := [0, 0, 0, 0, 0, 0, 0, 0, 1, 0, 0, 0, 0, 0, 0, 0, 9, 0] }, by decide +kernel⟩

theorem witness_imageLoads_hostWaitUnlimited :
    ∃ (s : State),
    s.live = true ∧ (s.ldr.hostWait = false ∨ s.start.boot = [] ∨ fieldAt s.start.boot 8 1 ≠ 1 ∨
        fieldAt s.start.boot 16 2 = 0) :=
  ⟨State.reset.withLdr { State.reset.ldr with hostWait := true }, by decide +kernel⟩

theorem witness_imageLoads_stageParison :
    ∃ (s : State) (c : MbxCmd),
    s.live = true ∧ s.longNext 0x02 = some c ∧ c.reservedZero (4 :: (upTo 12).map fun k => 8 + k) = true ∧
        c.byte 4 < 64 ∧ inHbm (c.num 8 8) (c.num 16 4) = true ∧ s.lcState ≠ 4 ∧ s.parInUse (c.byte 4) = false ∧
        (s.ldr.job.map fun j => j.par) ≠ some (some (c.byte 4)) :=
  ⟨(State.reset.wr F.PCI_MBX_STAT_READY 1).withMbx
      { State.reset.mbx with long := [⟨0, 2 ^ 128 * 4096 + 2 ^ 32 * 5 + 2, false, false⟩] }, ⟨0,
      2 ^ 128 * 4096 + 2 ^ 32 * 5 + 2, false, false⟩, by decide +kernel⟩

theorem witness_imageLoads_stageParisonInUse :
    ∃ (s : State) (c : MbxCmd),
    s.live = true ∧ s.longNext 0x02 = some c ∧ c.seen ∧ c.reservedZero (4 :: (upTo 12).map fun k => 8 + k) = true ∧
        c.byte 4 < 64 ∧ inHbm (c.num 8 8) (c.num 16 4) = true ∧ s.lcState ≠ 4 ∧ s.parInUse (c.byte 4) = true :=
  ⟨((State.reset.wr F.PCI_MBX_STAT_READY 1).withMbx
      { State.reset.mbx with long := [⟨0, 2 ^ 128 * 4096 + 2 ^ 32 * 5 + 2, false, false⟩] }).withLdr
      { State.reset.ldr with wins := [(2, some 5)] }, ⟨0, 2 ^ 128 * 4096 + 2 ^ 32 * 5 + 2, false, false⟩,
      by decide +kernel⟩

theorem witness_imageLoads_parisonStageComplete :
    ∃ (s : State) (i : Nat) (a : Nat) (len : Nat) (g : Src) (up : Upsets),
    s.live = true ∧ s.ldr.stage = some (i, a, len) ∧ s.hbmReady a len = true ∧
        (s.upsets (upsetList up)).hbmSrc a len = g :=
  ⟨(State.reset.wr (F.HBM_STATUS_TRAINED 0) 1).withLdr { State.reset.ldr with stage := some (3, 0, 4096) }, 3, 0,
      4096, State.reset.hbmSrc 0 4096, [], by decide +kernel⟩

theorem witness_imageLoads_parisonStageWaits :
    ∃ (s : State) (i : Nat) (a : Nat) (len : Nat) (up : Upsets),
    s.live = true ∧ s.ldr.stage = some (i, a, len) ∧ s.hbmReady a len = false :=
  ⟨State.reset.withLdr { State.reset.ldr with stage := some (3, 0, 4096) }, 3, 0, 4096, [], by decide +kernel⟩

theorem witness_imageLoads_commitParison :
    ∃ (s : State) (c : MbxCmd) (p : Par),
    s.live = true ∧ s.longNext 0x03 = some c ∧ c.reservedZero [4, 5, 6] = true ∧ (c.byte 4 < 64 ∧ c.byte 5 < 16 ∧
        c.byte 6 < 2) ∧ s.lcState ≠ 4 ∧ s.par (c.byte 4) = p ∧ p.state = 2 ∧ c.byte 5 = p.target ∧
        (c.byte 6 = if p.kind = 1 ∧ p.window < 2 then p.window else 0) ∧ s.loaderBusy = false ∧ s.commitOk p = true :=
  ⟨(((State.reset.wr F.PCI_MBX_STAT_READY 1).withMbx
      { State.reset.mbx with long := [⟨0, 2 ^ 32 * 3 + 3, false, false⟩] }).withCstore
      { State.reset.cstore with pars := [(3, ⟨2, 2, 0, 0, 0, 0, 0, 0⟩)] }).wr F.CFG_FAB_STAT_RELEASED 1, ⟨0,
      2 ^ 32 * 3 + 3, false, false⟩, ⟨2, 2, 0, 0, 0, 0, 0, 0⟩, by decide +kernel⟩

theorem witness_imageLoads_commitParisonNotStaged :
    ∃ (s : State) (c : MbxCmd),
    s.live = true ∧ s.longNext 0x03 = some c ∧ c.seen ∧ c.reservedZero [4, 5, 6] = true ∧ (c.byte 4 < 64 ∧
        c.byte 5 < 16 ∧ c.byte 6 < 2) ∧ s.lcState ≠ 4 ∧ (s.par (c.byte 4)).state ≠ 2 :=
  ⟨(State.reset.wr F.PCI_MBX_STAT_READY 1).withMbx
      { State.reset.mbx with long := [⟨0, 2 ^ 32 * 3 + 3, false, false⟩] }, ⟨0, 2 ^ 32 * 3 + 3, false, false⟩,
      by decide +kernel⟩

theorem witness_imageLoads_parisonCommitComplete :
    ∃ (s : State) (upset : Option (BitVec 31)) (j : Job) (g : Src) (x : State),
    s.live = true ∧ s.ldr.job = some j ∧ (j.kind = 1 → s.awake j.target = true) ∧ (j.kind = 2 →
        s.fab.releasing = none ∧ s.fab.draining.contains j.target = false) ∧ s.ldr.reloads = [] ∧
        s.jobSrc j (upset.map fun w => w.toNat) = g ∧ (s.setLdr { s.ldr with job := none }).showBusy = x :=
  ⟨State.reset.withLdr { State.reset.ldr with job := some ⟨none, 2, 1, 0, true⟩ }, none, ⟨none, 2, 1, 0, true⟩,
      (State.reset.withLdr { State.reset.ldr with job := some ⟨none, 2, 1, 0, true⟩ }).jobSrc ⟨none, 2, 1, 0,
      true⟩ none, ((State.reset.withLdr { State.reset.ldr with job := some ⟨none, 2, 1, 0, true⟩ }).setLdr
      { State.reset.ldr with job := none }).showBusy, by decide +kernel⟩

theorem witness_regionCommands_regionStart :
    ∃ (s : State) (c : MbxCmd),
    s.live = true ∧ s.shortNext 0x10 = some c ∧ c.seen ∧ c.reservedZero [4] = true ∧ c.byte 4 < 16 ∧
        s.regionHeld (c.byte 4) = false ∧ s.run (c.byte 4) = 0 ∧ s.sectors (c.byte 4) ≠ [] ∧
        s.unloadable (c.byte 4) = false ∧ s.awake (c.byte 4) = true :=
  ⟨(((State.reset.wr F.PCI_MBX_STAT_READY 1).wr (F.SEC_STATUS_PSTATE 0) 0).wr (F.SEC_CTRL_ASSIGNED 0) 1).withMbx
      { State.reset.mbx with short := [⟨0, 0x10, false, false⟩] }, ⟨0, 0x10, false, false⟩, by decide +kernel⟩

theorem witness_regionCommands_regionStartWakes :
    ∃ (s : State) (c : MbxCmd),
    s.live = true ∧ s.shortNext 0x10 = some c ∧ c.reservedZero [4] = true ∧ c.byte 4 < 16 ∧
        s.regionHeld (c.byte 4) = false ∧ s.run (c.byte 4) = 0 ∧ s.unloadable (c.byte 4) = false ∧
        s.awake (c.byte 4) = false :=
  ⟨(((State.reset.wr F.PCI_MBX_STAT_READY 1).wr (F.SEC_CTRL_ASSIGNED 0) 1).wr (F.SEC_STATUS_PSTATE 0) 1).withMbx
      { State.reset.mbx with short := [⟨0, 0x10, false, false⟩] }, ⟨0, 0x10, false, false⟩, by decide +kernel⟩

theorem witness_regionCommands_regionStartBadState :
    ∃ (s : State) (c : MbxCmd),
    s.live = true ∧ s.shortNext 0x10 = some c ∧ c.seen ∧ c.reservedZero [4] = true ∧ c.byte 4 < 16 ∧
        s.regionHeld (c.byte 4) = false ∧ s.run (c.byte 4) ≠ 0 :=
  ⟨((State.reset.wr F.PCI_MBX_STAT_READY 1).wr (F.GAF_STATUS_STATE 0) 2).withMbx
      { State.reset.mbx with short := [⟨0, 0x10, false, false⟩] }, ⟨0, 0x10, false, false⟩, by decide +kernel⟩

theorem witness_regionCommands_regionStop :
    ∃ (s : State) (c : MbxCmd),
    s.live = true ∧ s.shortNext 0x11 = some c ∧ c.seen ∧ c.reservedZero [4] = true ∧ c.byte 4 < 16 ∧
        s.regionHeld (c.byte 4) = false ∧ (2 ≤ s.run (c.byte 4) ∧ s.run (c.byte 4) ≤ 4) ∧
        (s.gaf (c.byte 4)).phase = .none :=
  ⟨((State.reset.wr F.PCI_MBX_STAT_READY 1).wr (F.GAF_STATUS_STATE 0) 2).withMbx
      { State.reset.mbx with short := [⟨0, 0x11, false, false⟩] }, ⟨0, 0x11, false, false⟩, by decide +kernel⟩

theorem witness_regionCommands_regionStopInCycle :
    ∃ (s : State) (c : MbxCmd),
    s.live = true ∧ s.shortNext 0x11 = some c ∧ c.reservedZero [4] = true ∧ c.byte 4 < 16 ∧
        s.regionHeld (c.byte 4) = false ∧ (2 ≤ s.run (c.byte 4) ∧ s.run (c.byte 4) ≤ 4) ∧
        (s.gaf (c.byte 4)).phase ≠ .none :=
  ⟨(((State.reset.wr F.PCI_MBX_STAT_READY 1).wr (F.GAF_STATUS_STATE 0) 3).setGaf 0
      { State.reset.gaf 0 with phase := .window }).withMbx
      { State.reset.mbx with short := [⟨0, 0x11, false, false⟩] }, ⟨0, 0x11, false, false⟩, by decide +kernel⟩

theorem witness_regionCommands_regionRestart :
    ∃ (s : State) (c : MbxCmd),
    s.live = true ∧ s.shortNext 0x12 = some c ∧ c.seen ∧ c.reservedZero [4] = true ∧ c.byte 4 < 16 ∧
        s.regionHeld (c.byte 4) = false ∧ s.sectors (c.byte 4) ≠ [] ∧ s.unloadable (c.byte 4) = false ∧
        (s.gaf (c.byte 4)).phase = .none ∧ s.awake (c.byte 4) = true :=
  ⟨((((State.reset.wr F.PCI_MBX_STAT_READY 1).wr (F.SEC_STATUS_PSTATE 0) 0).wr (F.SEC_CTRL_ASSIGNED 0) 1).wr
      (F.GAF_STATUS_STATE 0) 5).withMbx { State.reset.mbx with short := [⟨0, 0x12, false, false⟩] }, ⟨0, 0x12, false,
      false⟩, by decide +kernel⟩

theorem witness_regionCommands_regionRestartInCycle :
    ∃ (s : State) (c : MbxCmd),
    s.live = true ∧ s.shortNext 0x12 = some c ∧ c.reservedZero [4] = true ∧ c.byte 4 < 16 ∧
        s.regionHeld (c.byte 4) = false ∧ s.sectors (c.byte 4) ≠ [] ∧ s.unloadable (c.byte 4) = false ∧
        (s.gaf (c.byte 4)).phase ≠ .none :=
  ⟨((((State.reset.wr F.PCI_MBX_STAT_READY 1).wr (F.SEC_CTRL_ASSIGNED 0) 1).wr (F.GAF_STATUS_STATE 0) 3).setGaf 0
      { State.reset.gaf 0 with phase := .window }).withMbx
      { State.reset.mbx with short := [⟨0, 0x12, false, false⟩] }, ⟨0, 0x12, false, false⟩, by decide +kernel⟩

theorem witness_regionCommands_shutdownOrderly :
    ∃ (s : State) (c : MbxCmd),
    s.live = true ∧ s.longNext 0x31 = some c ∧ c.reservedZero [] = true ∧ s.loaderBusy = false ∧
        s.fab.releasing = none ∧ s.bst.slice = none :=
  ⟨((State.reset.wr F.PCI_MBX_STAT_READY 1).wr (F.GAF_STATUS_STATE 0) 2).withMbx
      { State.reset.mbx with long := [⟨0, 0x31, false, false⟩] }, ⟨0, 0x31, false, false⟩, by decide +kernel⟩

theorem witness_regionCommands_shutdownOrderlyBusy :
    ∃ (s : State) (c : MbxCmd),
    s.live = true ∧ s.longNext 0x31 = some c ∧ c.seen ∧ c.reservedZero [] = true ∧ s.loaderBusy = true :=
  ⟨((State.reset.wr F.PCI_MBX_STAT_READY 1).withLdr
      { State.reset.ldr with load := some ⟨1, 0, 0, 0, false, false⟩ }).withMbx
      { State.reset.mbx with long := [⟨0, 0x31, false, false⟩] }, ⟨0, 0x31, false, false⟩, by decide +kernel⟩

theorem witness_regionCommands_shutdownOrderlyComplete :
    ∃ (s : State) (found : List Found) (c : MbxCmd),
    s.live = true ∧ s.mbx.longRun = some c ∧ c.seen ∧ c.byte 0 = 0x31 ∧ (∀ n, n < 16 → s.run n = 0 ∨ s.run n = 5) ∧
        (s.on F.STO_STAT_READY = false ∨ s.sto.queue = []) ∧ (∀ k, k < 16 → s.rd (F.SEC_STATUS_PSTATE k) = 0 ∨
        s.on (F.SEC_STATUS_UNUSABLE k) = true) :=
  ⟨(forEach (upTo 16) (fun n s => s.wr (F.SEC_STATUS_PSTATE n) 0) (State.reset.wr F.BST_STAT_BUSY 1)).withMbx
      { State.reset.mbx with longRun := some ⟨0, 0x31, false, false⟩ }, [], ⟨0, 0x31, false, false⟩,
      by decide +kernel⟩

theorem witness_perfLevels_setPerfLevel :
    ∃ (s : State) (c : MbxCmd) (old : Nat),
    s.live = true ∧ s.shortNext 0x20 = some c ∧ c.reservedZero [4] = true ∧ c.byte 4 < 4 ∧
        s.rd F.PWR_STAT_PERF = old ∧ c.byte 4 ≠ old ∧ (s.allQuiet = true ∨ relocks old (c.byte 4) = false) :=
  ⟨(State.reset.wr F.PCI_MBX_STAT_READY 1).withMbx
      { State.reset.mbx with short := [⟨0, 2 ^ 33 + 0x20, false, false⟩] }, ⟨0, 2 ^ 33 + 0x20, false, false⟩, 0,
      by decide +kernel⟩

theorem witness_perfLevels_setPerfLevelSame :
    ∃ (s : State) (c : MbxCmd),
    s.live = true ∧ s.shortNext 0x20 = some c ∧ c.seen ∧ c.reservedZero [4] = true ∧ c.byte 4 < 4 ∧
        c.byte 4 = s.rd F.PWR_STAT_PERF :=
  ⟨(State.reset.wr F.PCI_MBX_STAT_READY 1).withMbx { State.reset.mbx with short := [⟨0, 0x20, false, false⟩] }, ⟨0,
      0x20, false, false⟩, by decide +kernel⟩

theorem witness_perfLevels_perfSwitchWindow :
    ∃ (s : State) (c : PerfChange),
    s.live = true ∧ s.pwr.perf = some c ∧ c.phase = .window ∧ c.target < 4 ∧ (∀ n, n < 16 →
        (s.gaf n).phase = .none) :=
  ⟨State.reset.withPwr { State.reset.pwr with perf := some ⟨2, 3, .window, []⟩ }, ⟨2, 3, .window, []⟩,
      by decide +kernel⟩

theorem witness_perfLevels_perfWindowWaits :
    ∃ (s : State) (c : PerfChange),
    s.live = true ∧ s.pwr.perf = some c ∧ (c.phase ≠ .window ∨ (s.gaf 3).phase ≠ .none) :=
  ⟨State.reset.withPwr { State.reset.pwr with perf := some ⟨2, 3, .lowering, []⟩ }, ⟨2, 3, .lowering, []⟩,
      by decide +kernel⟩

theorem witness_perfLevels_supplySettled :
    ∃ (s : State) (mv : BitVec 16) (c : PerfChange),
    s.live = true ∧ s.settled mv.toNat = true ∧ s.pwr.perf = some c ∧ c.phase = .raising :=
  ⟨State.reset.withPwr { State.reset.pwr with perf := some ⟨2, 3, .raising, []⟩, target := 620 }, 612#16, ⟨2, 3,
      .raising, []⟩, by decide +kernel⟩

theorem witness_perfLevels_supplySettledDone :
    ∃ (s : State) (mv : BitVec 16) (c : PerfChange),
    s.live = true ∧ s.settled mv.toNat = true ∧ s.pwr.perf = some c ∧ c.phase = .lowering :=
  ⟨State.reset.withPwr { State.reset.pwr with perf := some ⟨3, 2, .lowering, []⟩, target := 560 }, 570#16, ⟨3, 2,
      .lowering, []⟩, by decide +kernel⟩

theorem witness_perfLevels_supplyUnsettled :
    ∃ (s : State) (mv : BitVec 16),
    s.live = true ∧ s.settled mv.toNat = false :=
  ⟨State.reset.withPwr { State.reset.pwr with target := 560 }, 571#16, by decide +kernel⟩

theorem witness_perfLevels_supplySettleTimeout :
    ∃ (s : State) (again : Bool) (c : PerfChange),
    s.live = true ∧ s.pwr.perf = some c ∧ (c.phase = .raising ∨ c.phase = .lowering) ∧
        s.settled (s.rd F.PWR_VOUT_MV) = false :=
  ⟨State.reset.withPwr { State.reset.pwr with perf := some ⟨3, 2, .lowering, []⟩, target := 560 }, true, ⟨3, 2,
      .lowering, []⟩, by decide +kernel⟩

theorem witness_perfLevels_supplyTimeoutOther :
    ∃ (s : State) (again : Bool),
    s.live = true ∧ s.settled (s.rd F.PWR_VOUT_MV) = false ∧
        s.pwr.perf.all (fun c => decide (c.phase ≠ .raising) && decide (c.phase ≠ .lowering)) = true :=
  ⟨State.reset.withPwr { State.reset.pwr with target := 560 }, false, by decide +kernel⟩

theorem witness_perfLevels_supplyTimeoutSettled :
    ∃ (s : State) (again : Bool),
    s.live = true ∧ s.settled (s.rd F.PWR_VOUT_MV) = true :=
  ⟨(State.reset.withPwr { State.reset.pwr with target := 560 }).wr F.PWR_VOUT_MV 565, true, by decide +kernel⟩

theorem witness_perfLevels_supplyReadFails :
    ∃ (s : State) (c : PerfChange),
    s.live = true ∧ s.pwr.perf = some c ∧ (c.phase = .raising ∨ c.phase = .lowering) :=
  ⟨State.reset.withPwr { State.reset.pwr with perf := some ⟨3, 2, .raising, []⟩, target := 560 }, ⟨3, 2, .raising,
      []⟩, by decide +kernel⟩

theorem witness_perfLevels_supplyReadFailsOther :
    ∃ (s : State),
    s.live = true ∧ s.pwr.perf.all (fun c => decide (c.phase ≠ .raising) && decide (c.phase ≠ .lowering)) = true :=
  ⟨State.reset, by decide +kernel⟩

theorem witness_perfLevels_pmbAlert :
    ∃ (s : State),
    s.live = true :=
  ⟨State.reset, by decide +kernel⟩

theorem witness_perfLevels_pllLock :
    ∃ (s : State) (k : Fin 8),
    s.live = true ∧ bit (s.rd F.CLK_STAT_LOCKED) k = false :=
  ⟨State.reset.wr F.CLK_STAT_LOCKED 0, 5, by decide +kernel⟩

theorem witness_perfLevels_pllLockedAlready :
    ∃ (s : State) (k : Fin 8),
    s.live = true ∧ bit (s.rd F.CLK_STAT_LOCKED) k = true :=
  ⟨State.reset.wr F.CLK_STAT_LOCKED 255, 0, by decide +kernel⟩

theorem witness_perfLevels_pllUnlock :
    ∃ (s : State) (k : Fin 8),
    s.live = true ∧ bit (s.rd F.CLK_STAT_LOCKED) k = true :=
  ⟨State.reset.wr F.CLK_STAT_LOCKED 255, 1, by decide +kernel⟩

theorem witness_perfLevels_pllUnlockedAlready :
    ∃ (s : State) (k : Fin 8),
    s.live = true ∧ bit (s.rd F.CLK_STAT_LOCKED) k = false :=
  ⟨State.reset.wr F.CLK_STAT_LOCKED 0, 0, by decide +kernel⟩

theorem witness_perfLevels_apply :
    ∃ (s : State) (p : Path) (v : BitVec 32) (x : State),
    s.live = true ∧ s.pathOpen p = true ∧ s.stored p 0x201a0 (v ||| 0x80000000).toNat = x :=
  ⟨State.reset, .core, 0#32, State.reset.stored .core 0x201a0 0x80000000, by decide +kernel⟩

theorem witness_store_storeCommit :
    ∃ (s : State) (cmd : MbxCmd) (r : RingDesc) (t : Nat) (need : Nat),
    s.live = true ∧ s.longNext 0x60 = some cmd ∧ cmd.seen ∧ cmd.reservedZero [4, 8, 9, 10, 11, 12, 13, 16, 17, 18,
        19] = true ∧ cmd.byte 4 < 4 ∧ s.on F.STO_STAT_READY = true ∧ s.sto.queue.length < 16 ∧
        s.on (F.HBM_RING_BASE_HI_EN 0 (cmd.byte 4)) = true ∧ s.ringDesc (cmd.byte 4) = r ∧ 0 < cmd.num 16 4 ∧
        cmd.num 16 4 ≤ 2 ^ r.log2n ∧
        (s.rd64 (0xe00214 + 0x20 * cmd.byte 4) : Int) - (2 ^ r.log2n : Nat) + 2 ≤ (cmd.num 8 6 : Int) ∧
        tilesNeeded (cmd.num 16 4) r.stride = need ∧ need ≤ s.rd64 0xb0028 ∧ s.rd64 0xb0030 = t :=
  ⟨((((State.reset.wr F.PCI_MBX_STAT_READY 1).withMbx
      { State.reset.mbx with long := [⟨0, 2 ^ 128 * 2 + 2 ^ 64 * 7 + 0x60, false, false⟩] }).wr F.STO_STAT_READY
      1).wr (F.HBM_RING_BASE_HI_EN 0 0) 1).wr64 0xb0028 1000, ⟨0, 2 ^ 128 * 2 + 2 ^ 64 * 7 + 0x60, false, false⟩,
      { State.reset.ringDesc 0 with live := true }, 0, 2, by decide +kernel⟩

theorem witness_store_storeCommitNoSpace :
    ∃ (s : State) (cmd : MbxCmd) (r : RingDesc),
    s.live = true ∧ s.longNext 0x60 = some cmd ∧ cmd.seen ∧ cmd.reservedZero [4, 8, 9, 10, 11, 12, 13, 16, 17, 18,
        19] = true ∧ cmd.byte 4 < 4 ∧ s.on F.STO_STAT_READY = true ∧ s.sto.queue.length < 16 ∧
        s.on (F.HBM_RING_BASE_HI_EN 0 (cmd.byte 4)) = true ∧ s.ringDesc (cmd.byte 4) = r ∧ 0 < cmd.num 16 4 ∧
        cmd.num 16 4 ≤ 2 ^ r.log2n ∧
        (s.rd64 (0xe00214 + 0x20 * cmd.byte 4) : Int) - (2 ^ r.log2n : Nat) + 2 ≤ (cmd.num 8 6 : Int) ∧
        s.rd64 0xb0028 < tilesNeeded (cmd.num 16 4) r.stride :=
  ⟨(((State.reset.wr F.PCI_MBX_STAT_READY 1).withMbx
      { State.reset.mbx with long := [⟨0, 2 ^ 128 * 2 + 2 ^ 64 * 7 + 0x60, false, false⟩] }).wr F.STO_STAT_READY
      1).wr (F.HBM_RING_BASE_HI_EN 0 0) 1, ⟨0, 2 ^ 128 * 2 + 2 ^ 64 * 7 + 0x60, false, false⟩,
      { State.reset.ringDesc 0 with live := true }, by decide +kernel⟩

theorem witness_store_stoLineReady :
    ∃ (s : State) (c : Commit) (cs : List Commit) (up : Upsets),
    s.live = true ∧ s.sto.queue = c :: cs ∧ s.on F.STO_STAT_READY = true ∧ c.taken < c.count ∧
        s.ringHas c.ring (c.line + c.taken) = true ∧
        s.hbmReady (s.lineRanges c (c.line + c.taken)).1.1 (s.lineRanges c (c.line + c.taken)).1.2 = true ∧
        s.hbmReady (s.lineRanges c (c.line + c.taken)).2.1 (s.lineRanges c (c.line + c.taken)).2.2 = true :=
  ⟨((((State.reset.wr F.STO_STAT_READY 1).wr (F.HBM_STATUS_TRAINED 0) 1).wr (F.HBM_STATUS_TRAINED 1) 1).wr64 0xe00214
      50).withSto { State.reset.sto with queue := [⟨0, 0, 2, 0, 7, 2, 1, 0, 0, [], 1, false⟩] }, ⟨0, 0, 2, 0, 7, 2,
      1, 0, 0, [], 1, false⟩, [], [], by decide +kernel⟩

theorem witness_store_stoLineHeld :
    ∃ (s : State) (c : Commit) (cs : List Commit) (up : Upsets),
    s.live = true ∧ s.sto.queue = c :: cs ∧ s.on F.STO_STAT_READY = true ∧ c.taken < c.count ∧
        s.ringHas c.ring (c.line + c.taken) = true ∧
        (s.hbmReady (s.lineRanges c (c.line + c.taken)).1.1 (s.lineRanges c (c.line + c.taken)).1.2 = false ∨
        s.hbmReady (s.lineRanges c (c.line + c.taken)).2.1 (s.lineRanges c (c.line + c.taken)).2.2 = false) :=
  ⟨((((State.reset.wr F.STO_STAT_READY 1).wr64 0xe00214 50).wr (F.HBM_STATUS_TRAINED 0) 0).wr (F.HBM_STATUS_TRAINED
      1) 0).withSto { State.reset.sto with queue := [⟨0, 0, 2, 0, 7, 2, 1, 0, 0, [], 1, false⟩] }, ⟨0, 0, 2, 0, 7, 2,
      1, 0, 0, [], 1, false⟩, [], [], by decide +kernel⟩

theorem witness_store_stoLineWaits :
    ∃ (s : State) (c : Commit) (cs : List Commit) (up : Upsets),
    s.live = true ∧ s.sto.queue = c :: cs ∧ (s.on F.STO_STAT_READY = false ∨ c.count ≤ c.taken ∨
        s.ringHas c.ring (c.line + c.taken) = false) :=
  ⟨(State.reset.wr F.STO_STAT_READY 1).withSto
      { State.reset.sto with queue := [⟨0, 0, 2, 0, 7, 2, 1, 0, 0, [], 1, false⟩] }, ⟨0, 0, 2, 0, 7, 2, 1, 0, 0, [],
      1, false⟩, [], [], by decide +kernel⟩

theorem witness_store_lineWaitExpiry :
    ∃ (s : State) (c : Commit) (cs : List Commit),
    s.live = true ∧ s.sto.queue = c :: cs ∧ s.on F.STO_STAT_READY = true ∧ c.taken < c.count ∧
        s.ringHas c.ring (c.line + c.taken) = false :=
  ⟨(State.reset.wr F.STO_STAT_READY 1).withSto
      { State.reset.sto with queue := [⟨0, 0, 2, 0, 7, 2, 1, 0, 0, [], 1, false⟩] }, ⟨0, 0, 2, 0, 7, 2, 1, 0, 0, [],
      1, false⟩, [], by decide +kernel⟩

theorem witness_store_stoCommitFinish :
    ∃ (s : State) (c : Commit) (cs : List Commit),
    s.live = true ∧ s.sto.queue = c :: cs ∧ s.on F.STO_STAT_READY = true ∧ c.count ≤ c.taken :=
  ⟨(State.reset.wr F.STO_STAT_READY 1).withSto
      { State.reset.sto with queue := [⟨4, 0, 2, 0, 7, 2, 1, 0, 2, [9], 1, true⟩] }, ⟨4, 0, 2, 0, 7, 2, 1, 0, 2, [9],
      1, true⟩, [], by decide +kernel⟩

theorem witness_store_storeRead :
    ∃ (s : State) (cmd : MbxCmd),
    s.live = true ∧ s.longNext 0x61 = some cmd ∧ cmd.reservedZero ((upTo 20).map fun i => 8 + i) = true ∧
        s.on F.STO_STAT_READY = true ∧ 0 < cmd.readArgs.2.2 ∧ s.rd64 0xb0038 ≤ cmd.readArgs.2.1 ∧
        cmd.readArgs.2.1 + cmd.readArgs.2.2 ≤ s.rd64 0xb0030 ∧
        inHbm cmd.readArgs.1 (4096 * cmd.readArgs.2.2) = true :=
  ⟨(((State.reset.wr F.PCI_MBX_STAT_READY 1).withMbx
      { State.reset.mbx with long := [⟨0, 2 ^ 192 * 2 + 0x61, false, false⟩] }).wr F.STO_STAT_READY 1).wr64 0xb0030
      8, ⟨0, 2 ^ 192 * 2 + 0x61, false, false⟩, by decide +kernel⟩

theorem witness_store_storeReadOutside :
    ∃ (s : State) (cmd : MbxCmd),
    s.live = true ∧ s.longNext 0x61 = some cmd ∧ cmd.seen ∧ cmd.reservedZero ((upTo 20).map fun i => 8 + i) = true ∧
        s.on F.STO_STAT_READY = true ∧ (cmd.readArgs.2.2 = 0 ∨ cmd.readArgs.2.1 < s.rd64 0xb0038 ∨
        s.rd64 0xb0030 < cmd.readArgs.2.1 + cmd.readArgs.2.2 ∨
        inHbm cmd.readArgs.1 (4096 * cmd.readArgs.2.2) = false) :=
  ⟨((State.reset.wr F.PCI_MBX_STAT_READY 1).withMbx
      { State.reset.mbx with long := [⟨0, 2 ^ 192 * 2 + 0x61, false, false⟩] }).wr F.STO_STAT_READY 1, ⟨0,
      2 ^ 192 * 2 + 0x61, false, false⟩, by decide +kernel⟩

theorem witness_store_storeReadComplete :
    ∃ (s : State) (corrected : List (BitVec 64)) (failed : List (BitVec 64)) (cmd : MbxCmd) (a : Nat) (t : Nat) (n :
        Nat),
    s.live = true ∧ s.mbx.longRun = some cmd ∧ cmd.seen ∧ cmd.byte 0 = 0x61 ∧ cmd.readArgs = (a, t, n) ∧ (∀ i,
        i < n → s.tileWaits (t + i) = false) ∧ inHbm a (4096 * n) = true ∧ s.hbmReady a (4096 * n) = true :=
  ⟨((State.reset.wr (F.HBM_STATUS_TRAINED 0) 1).wr (F.HBM_STATUS_TRAINED 1) 1).withMbx
      { State.reset.mbx with longRun := some ⟨0, 2 ^ 192 * 2 + 0x61, false, false⟩ }, [], [], ⟨0, 2 ^ 192 * 2 + 0x61,
      false, false⟩, 0, 0, 2, by decide +kernel⟩

theorem witness_store_storeReadCompleteHeld :
    ∃ (s : State) (corrected : List (BitVec 64)) (failed : List (BitVec 64)) (cmd : MbxCmd),
    s.live = true ∧ s.mbx.longRun = some cmd ∧ cmd.byte 0 = 0x61 ∧
        s.hbmReady cmd.readArgs.1 (4096 * cmd.readArgs.2.2) = false :=
  ⟨((State.reset.wr (F.HBM_STATUS_TRAINED 0) 0).wr (F.HBM_STATUS_TRAINED 1) 0).withMbx
      { State.reset.mbx with longRun := some ⟨0, 2 ^ 192 * 2 + 0x61, false, false⟩ }, [], [], ⟨0, 2 ^ 192 * 2 + 0x61,
      false, false⟩, by decide +kernel⟩

theorem witness_storeControl_stoEnWrite :
    ∃ (s : State) (p : Path) (v : BitVec 32) (x : State),
    s.live = true ∧ s.pathOpen p = true ∧ s.stored p 0xb0000 (v ||| 1).toNat = x ∧ x.on F.STO_STAT_READY = false ∧
        bit v.toNat 31 = false :=
  ⟨State.reset, .core, 0#32, State.reset.stored .core 0xb0000 1, by decide +kernel⟩

theorem witness_storeControl_stoEnWriteMounted :
    ∃ (s : State) (p : Path) (v : BitVec 32) (x : State),
    s.live = true ∧ s.pathOpen p = true ∧ s.stored p 0xb0000 (v ||| 1).toNat = x ∧ x.on F.STO_STAT_READY = true ∧
        bit v.toNat 31 = false :=
  ⟨State.reset.wr F.STO_STAT_READY 1, .core, 0#32, (State.reset.wr F.STO_STAT_READY 1).stored .core 0xb0000 1,
      by decide +kernel⟩

theorem witness_storeControl_stoReleaseWrite :
    ∃ (s : State) (p : Path) (v : BitVec 32) (x : State),
    s.live = true ∧ s.pathOpen p = true ∧ s.stored p 0xb0044 v.toNat = x ∧ x.on F.STO_STAT_READY = true ∧
        x.rd64 0xb0038 < x.rd64 0xb0040 ∧ (x.sto.queue.head?.all fun c => decide (x.rd64 0xb0040 ≤ c.first)) = true :=
  ⟨(State.reset.wr F.STO_STAT_READY 1).wr64 0xb0040 9, .core, 0#32,
      ((State.reset.wr F.STO_STAT_READY 1).wr64 0xb0040 9).stored .core 0xb0044 0, by decide +kernel⟩

theorem witness_storeControl_stoReleaseClamped :
    ∃ (s : State) (p : Path) (v : BitVec 32) (x : State) (c : Commit) (cs : List Commit),
    s.live = true ∧ s.pathOpen p = true ∧ s.stored p 0xb0044 v.toNat = x ∧ x.on F.STO_STAT_READY = true ∧
        x.rd64 0xb0038 < x.rd64 0xb0040 ∧ x.sto.queue = c :: cs ∧ c.first < x.rd64 0xb0040 :=
  ⟨((State.reset.wr F.STO_STAT_READY 1).wr64 0xb0040 9).withSto
      { State.reset.sto with queue := [⟨4, 0, 2, 0, 7, 2, 1, 0, 2, [9], 1, true⟩] }, .core, 0#32,
      (((State.reset.wr F.STO_STAT_READY 1).wr64 0xb0040 9).withSto
      { State.reset.sto with queue := [⟨4, 0, 2, 0, 7, 2, 1, 0, 2, [9], 1, true⟩] }).stored .core 0xb0044 0, ⟨4, 0,
      2, 0, 7, 2, 1, 0, 2, [9], 1, true⟩, [], by decide +kernel⟩

theorem witness_storeControl_stoAbort :
    ∃ (s : State) (p : Path) (v : BitVec 32) (x : State),
    s.live = true ∧ s.pathOpen p = true ∧ s.stored p 0xb0000 (v ||| 0x80000000).toNat = x :=
  ⟨(State.reset.wr F.STO_STAT_READY 1).withSto
      { State.reset.sto with queue := [⟨4, 0, 2, 0, 7, 2, 1, 0, 2, [9], 1, true⟩] }, .core, 1#32,
      ((State.reset.wr F.STO_STAT_READY 1).withSto
      { State.reset.sto with queue := [⟨4, 0, 2, 0, 7, 2, 1, 0, 2, [9], 1, true⟩] }).stored .core 0xb0000 0x80000001,
      by decide +kernel⟩

theorem witness_storeControl_grownBadBlock :
    ∃ (s : State) (die : Fin 64) (block : Fin 1048576) (corrected : List (BitVec 64)) (failed : List (BitVec 64))
        (moved : List Nat),
    s.live = true ∧ s.on F.STO_STAT_READY = true ∧ die.val < s.rd F.STO_GEOM_DIES ∧
        block.val < s.rd F.STO_GEOM_BLOCKS ∧ s.blockGood die block = true ∧ s.sto.queue = [] ∧
        (s.liveTiles die block).filter (fun t => !(failed.contains (BitVec.ofNat 64 t))) = moved :=
  ⟨((State.reset.wr F.STO_STAT_READY 1).wr F.STO_GEOM_DIES 2).wr F.STO_GEOM_BLOCKS 100, 1, 99, [], [5], [],
      by decide +kernel⟩

theorem witness_storeControl_grownBadBlockUnknown :
    ∃ (s : State) (die : Fin 64) (block : Fin 1048576) (corrected : List (BitVec 64)) (failed : List (BitVec 64)),
    s.live = true ∧ (s.on F.STO_STAT_READY = false ∨ s.rd F.STO_GEOM_DIES ≤ die.val ∨
        s.rd F.STO_GEOM_BLOCKS ≤ block.val ∨ s.blockGood die block = false) :=
  ⟨State.reset, 1, 99, [], [], by decide +kernel⟩

theorem witness_storeControl_throttleRelease :
    ∃ (s : State),
    s.live = true ∧ 0 < s.nand.credit :=
  ⟨(State.reset.wr F.STO_STAT_THROTTLED 1).withNand { State.reset.nand with credit := 5 }, by decide +kernel⟩

theorem witness_storeControl_throttleHolds :
    ∃ (s : State),
    s.live = true ∧ s.nand.credit ≤ 0 :=
  ⟨State.reset.wr F.STO_STAT_THROTTLED 1, by decide +kernel⟩

theorem witness_storeControl_storeCommitReserves :
    ∃ (s : State) (cmd : MbxCmd) (t : Nat) (n : Nat),
    s.live = true ∧ s.longNext 0x60 = some cmd ∧ cmd.seen ∧ cmd.paramBad = false ∧ s.on F.STO_STAT_READY = true ∧
        s.sto.queue = [] ∧ s.on (F.HBM_RING_BASE_HI_EN 0 (cmd.byte 4)) = true ∧
        cmd.num 16 4 ≤ 2 ^ (s.ringDesc (cmd.byte 4 % 4)).log2n ∧
        (s.rd64 (0xe00214 + 0x20 * (cmd.byte 4 % 4)) : Int) - (2 ^ (s.ringDesc (cmd.byte 4 % 4)).log2n : Nat) + 2 ≤
        (cmd.num 8 6 : Int) ∧ tilesNeeded (cmd.num 16 4) (s.ringDesc (cmd.byte 4 % 4)).stride = n ∧
        n ≤ s.rd64 0xb0028 ∧ s.rd64 0xb0030 = t :=
  ⟨((((State.reset.wr F.PCI_MBX_STAT_READY 1).withMbx
      { State.reset.mbx with long := [⟨0, 2 ^ 128 * 2 + 2 ^ 64 * 7 + 0x60, false, false⟩] }).wr F.STO_STAT_READY
      1).wr (F.HBM_RING_BASE_HI_EN 0 0) 1).wr64 0xb0028 1000, ⟨0, 2 ^ 128 * 2 + 2 ^ 64 * 7 + 0x60, false, false⟩, 0,
      2, by decide +kernel⟩

theorem witness_storeControl_stoLineTaken :
    ∃ (s : State) (c : Commit) (up : Upsets),
    s.live = true ∧ s.sto.queue = [c] ∧ s.on F.STO_STAT_READY = true ∧ c.taken < c.count ∧
        s.ringHas c.ring (c.line + c.taken) = true ∧
        s.hbmReady (s.lineRanges c (c.line + c.taken)).1.1 (s.lineRanges c (c.line + c.taken)).1.2 = true ∧
        s.hbmReady (s.lineRanges c (c.line + c.taken)).2.1 (s.lineRanges c (c.line + c.taken)).2.2 = true :=
  ⟨((((State.reset.wr F.STO_STAT_READY 1).wr (F.HBM_STATUS_TRAINED 0) 1).wr (F.HBM_STATUS_TRAINED 1) 1).wr64 0xe00214
      50).withSto { State.reset.sto with queue := [⟨0, 0, 2, 0, 7, 2, 1, 0, 0, [], 1, false⟩] }, ⟨0, 0, 2, 0, 7, 2,
      1, 0, 0, [], 1, false⟩, [], by decide +kernel⟩

theorem witness_storeControl_lineGivenUp :
    ∃ (s : State) (c : Commit),
    s.live = true ∧ s.sto.queue = [c] ∧ s.on F.STO_STAT_READY = true ∧ c.taken < c.count ∧
        s.ringHas c.ring (c.line + c.taken) = false :=
  ⟨(State.reset.wr F.STO_STAT_READY 1).withSto
      { State.reset.sto with queue := [⟨0, 0, 2, 0, 7, 2, 1, 0, 0, [], 1, false⟩] }, ⟨0, 0, 2, 0, 7, 2, 1, 0, 0, [],
      1, false⟩, by decide +kernel⟩

theorem witness_storeControl_commitFinished :
    ∃ (s : State) (c : Commit),
    s.live = true ∧ s.sto.queue = [c] ∧ s.on F.STO_STAT_READY = true ∧ c.count ≤ c.taken :=
  ⟨(State.reset.wr F.STO_STAT_READY 1).withSto
      { State.reset.sto with queue := [⟨4, 0, 2, 0, 7, 2, 1, 0, 2, [9], 1, true⟩] }, ⟨4, 0, 2, 0, 7, 2, 1, 0, 2, [9],
      1, true⟩, by decide +kernel⟩

theorem witness_storeControl_storeReadStarts :
    ∃ (s : State) (cmd : MbxCmd),
    s.live = true ∧ s.longNext 0x61 = some cmd ∧ cmd.paramBad = false ∧ s.on F.STO_STAT_READY = true ∧
        s.rd64 0xb0038 ≤ cmd.readArgs.2.1 ∧ cmd.readArgs.2.1 + cmd.readArgs.2.2 ≤ s.rd64 0xb0030 :=
  ⟨(((State.reset.wr F.PCI_MBX_STAT_READY 1).withMbx
      { State.reset.mbx with long := [⟨0, 2 ^ 192 * 2 + 0x61, false, false⟩] }).wr F.STO_STAT_READY 1).wr64 0xb0030
      8, ⟨0, 2 ^ 192 * 2 + 0x61, false, false⟩, by decide +kernel⟩

theorem witness_storeControl_storeReadEnds :
    ∃ (s : State) (corrected : List (BitVec 64)) (failed : List (BitVec 64)) (cmd : MbxCmd),
    s.live = true ∧ s.mbx.longRun = some cmd ∧ cmd.byte 0 = 0x61 ∧ s.sto.queue = [] ∧
        s.hbmReady cmd.readArgs.1 (4096 * cmd.readArgs.2.2) = true :=
  ⟨((State.reset.wr (F.HBM_STATUS_TRAINED 0) 1).wr (F.HBM_STATUS_TRAINED 1) 1).withMbx
      { State.reset.mbx with longRun := some ⟨0, 2 ^ 192 * 2 + 0x61, false, false⟩ }, [], [], ⟨0, 2 ^ 192 * 2 + 0x61,
      false, false⟩, by decide +kernel⟩

theorem witness_configStore_cfgProgWriteSlot :
    ∃ (s : State) (p : Path) (v : BitVec 32) (x : State) (t : Nat) (a : Nat) (len : Nat),
    s.live = true ∧ s.pathOpen p = true ∧ s.stored p 0x60060 (progGo v 0).toNat = x ∧ x.rd F.CFG_PROG_CTRL_OP = 0 ∧
        x.ldr.prog = none ∧ x.rd F.CFG_PROG_CTRL_TARGET = t ∧
        64 * x.rd F.CFG_PROG_ADDR_LO_ADDR_LO + 2 ^ 32 * x.rd F.CFG_PROG_ADDR_HI_ADDR_HI = a ∧
        x.rd F.CFG_PROG_LEN_LEN = len :=
  ⟨State.reset.wr F.CFG_PROG_LEN_LEN 4096, .core, 1#32,
      (State.reset.wr F.CFG_PROG_LEN_LEN 4096).stored .core 0x60060 (progGo 1#32 0).toNat,
      ((State.reset.wr F.CFG_PROG_LEN_LEN 4096).stored .core 0x60060 (progGo 1#32 0).toNat).rd
      F.CFG_PROG_CTRL_TARGET, 0, 4096, by decide +kernel⟩

theorem witness_configStore_cfgProgEraseSlot :
    ∃ (s : State) (p : Path) (v : BitVec 32) (x : State) (t : Nat) (a : Nat) (len : Nat),
    s.live = true ∧ s.pathOpen p = true ∧ s.stored p 0x60060 (progGo v 1).toNat = x ∧ x.rd F.CFG_PROG_CTRL_OP = 1 ∧
        x.ldr.prog = none ∧ x.rd F.CFG_PROG_CTRL_TARGET = t ∧
        64 * x.rd F.CFG_PROG_ADDR_LO_ADDR_LO + 2 ^ 32 * x.rd F.CFG_PROG_ADDR_HI_ADDR_HI = a ∧
        x.rd F.CFG_PROG_LEN_LEN = len :=
  ⟨State.reset, .core, 1#32, (State.reset).stored .core 0x60060 (progGo 1#32 1).toNat,
      ((State.reset).stored .core 0x60060 (progGo 1#32 1).toNat).rd F.CFG_PROG_CTRL_TARGET, 0, 0, by decide +kernel⟩

theorem witness_configStore_cfgProgWriteBootRecord :
    ∃ (s : State) (p : Path) (v : BitVec 32) (x : State) (t : Nat) (a : Nat) (len : Nat),
    s.live = true ∧ s.pathOpen p = true ∧ s.stored p 0x60060 (progGo v 2).toNat = x ∧ x.rd F.CFG_PROG_CTRL_OP = 2 ∧
        x.ldr.prog = none ∧ x.rd F.CFG_PROG_CTRL_TARGET = t ∧
        64 * x.rd F.CFG_PROG_ADDR_LO_ADDR_LO + 2 ^ 32 * x.rd F.CFG_PROG_ADDR_HI_ADDR_HI = a ∧
        x.rd F.CFG_PROG_LEN_LEN = len :=
  ⟨State.reset, .core, 0#32, (State.reset).stored .core 0x60060 (progGo 0#32 2).toNat,
      ((State.reset).stored .core 0x60060 (progGo 0#32 2).toNat).rd F.CFG_PROG_CTRL_TARGET, 0, 0, by decide +kernel⟩

theorem witness_configStore_cfgProgReadSlot :
    ∃ (s : State) (p : Path) (v : BitVec 32) (x : State) (t : Nat) (a : Nat) (len : Nat),
    s.live = true ∧ s.pathOpen p = true ∧ s.stored p 0x60060 (progGo v 3).toNat = x ∧ x.rd F.CFG_PROG_CTRL_OP = 3 ∧
        x.ldr.prog = none ∧ x.rd F.CFG_PROG_CTRL_TARGET = t ∧
        64 * x.rd F.CFG_PROG_ADDR_LO_ADDR_LO + 2 ^ 32 * x.rd F.CFG_PROG_ADDR_HI_ADDR_HI = a ∧
        x.rd F.CFG_PROG_LEN_LEN = len :=
  ⟨State.reset, .core, 1#32, (State.reset).stored .core 0x60060 (progGo 1#32 3).toNat,
      ((State.reset).stored .core 0x60060 (progGo 1#32 3).toNat).rd F.CFG_PROG_CTRL_TARGET, 0, 0, by decide +kernel⟩

theorem witness_configStore_cfgProgEraseParison :
    ∃ (s : State) (p : Path) (v : BitVec 32) (x : State) (t : Nat) (a : Nat) (len : Nat),
    s.live = true ∧ s.pathOpen p = true ∧ s.stored p 0x60060 (progGo v 4).toNat = x ∧ x.rd F.CFG_PROG_CTRL_OP = 4 ∧
        x.ldr.prog = none ∧ x.rd F.CFG_PROG_CTRL_TARGET = t ∧
        64 * x.rd F.CFG_PROG_ADDR_LO_ADDR_LO + 2 ^ 32 * x.rd F.CFG_PROG_ADDR_HI_ADDR_HI = a ∧
        x.rd F.CFG_PROG_LEN_LEN = len :=
  ⟨State.reset, .core, 7#32, (State.reset).stored .core 0x60060 (progGo 7#32 4).toNat,
      ((State.reset).stored .core 0x60060 (progGo 7#32 4).toNat).rd F.CFG_PROG_CTRL_TARGET, 0, 0, by decide +kernel⟩

theorem witness_configStore_cfgProgRuns :
    ∃ (s : State) (p : Path) (v : BitVec 32) (x : State),
    s.live = true ∧ s.pathOpen p = true ∧ s.stored p 0x60060 (progGo v 1).toNat = x ∧ x.ldr.prog ≠ none :=
  ⟨State.reset.withLdr { State.reset.ldr with prog := some ⟨0, 1, 0, 4096⟩ }, .core, 2#32,
      (State.reset.withLdr { State.reset.ldr with prog := some ⟨0, 1, 0, 4096⟩ }).stored .core 0x60060 (progGo 2#32
      1).toNat, by decide +kernel⟩

theorem witness_configStore_cfgProgDoneWriteSlot :
    ∃ (s : State) (writeFault : Bool) (up : Upsets) (q : Prog) (g : Src) (e : Bool),
    s.live = true ∧ s.ldr.prog = some q ∧ q.op = 0 ∧ writeFault = false ∧ s.hbmReady q.addr q.len = true ∧
        (s.upsets (upsetList up)).hbmSrc q.addr q.len = g ∧
        ((stacksTouched q.addr q.len).any s.stackDead || !((s.upsets (upsetList up)).badWords q.addr q.len).isEmpty)
        = e :=
  ⟨((State.reset.wr (F.HBM_STATUS_TRAINED 0) 1).wr (F.HBM_STATUS_TRAINED 1) 1).withLdr
      { State.reset.ldr with prog := some ⟨0, 1, 0, 4096⟩ }, false, [], ⟨0, 1, 0, 4096⟩,
      ((((State.reset.wr (F.HBM_STATUS_TRAINED 0) 1).wr (F.HBM_STATUS_TRAINED 1) 1).withLdr
      { State.reset.ldr with prog := some ⟨0, 1, 0, 4096⟩ }).upsets []).hbmSrc 0 4096, false, by decide +kernel⟩

theorem witness_configStore_cfgProgDoneEraseSlot :
    ∃ (s : State) (writeFault : Bool) (up : Upsets) (q : Prog),
    s.live = true ∧ s.ldr.prog = some q ∧ q.op = 1 ∧ writeFault = false :=
  ⟨((State.reset.wr (F.HBM_STATUS_TRAINED 0) 1).wr (F.HBM_STATUS_TRAINED 1) 1).withLdr
      { State.reset.ldr with prog := some ⟨1, 1, 0, 0⟩ }, false, [], ⟨1, 1, 0, 0⟩, by decide +kernel⟩

theorem witness_configStore_cfgProgDoneWriteBoot :
    ∃ (s : State) (writeFault : Bool) (up : Upsets) (q : Prog) (raw : List Byte) (gen : Nat),
    s.live = true ∧ s.ldr.prog = some q ∧ q.op = 2 ∧ writeFault = false ∧ s.hbmReady q.addr 4096 = true ∧
        (stacksTouched q.addr 4096).any s.stackDead = false ∧ (s.upsets (upsetList up)).badWords q.addr 4096 = [] ∧
        Bytes.read s.hbm q.addr 4096 = raw ∧ s.cstore.recGen bootArea + 1 = gen :=
  ⟨((State.reset.wr (F.HBM_STATUS_TRAINED 0) 1).wr (F.HBM_STATUS_TRAINED 1) 1).withLdr
      { State.reset.ldr with prog := some ⟨2, 0, 0, 0⟩ }, false, [], ⟨2, 0, 0, 0⟩, Bytes.read State.reset.hbm 0 4096,
      1, by decide +kernel, by decide +kernel, by decide +kernel, by decide +kernel, by decide +kernel,
      by decide +kernel, by decide +kernel, rfl, by decide +kernel⟩

theorem witness_configStore_cfgProgDoneReadSlot :
    ∃ (s : State) (writeFault : Bool) (up : Upsets) (q : Prog) (d : Slot),
    s.live = true ∧ s.ldr.prog = some q ∧ q.op = 3 ∧ s.slotDesc q.target = d ∧ s.hbmReady q.addr d.length = true :=
  ⟨((State.reset.wr (F.HBM_STATUS_TRAINED 0) 1).wr (F.HBM_STATUS_TRAINED 1) 1).withLdr
      { State.reset.ldr with prog := some ⟨3, 1, 0, 0⟩ }, true, [], ⟨3, 1, 0, 0⟩, ⟨0, 0, false⟩, by decide +kernel⟩

theorem witness_configStore_cfgProgDoneEraseParison :
    ∃ (s : State) (writeFault : Bool) (up : Upsets) (q : Prog),
    s.live = true ∧ s.ldr.prog = some q ∧ q.op = 4 ∧ writeFault = false :=
  ⟨((State.reset.wr (F.HBM_STATUS_TRAINED 0) 1).wr (F.HBM_STATUS_TRAINED 1) 1).withLdr
      { State.reset.ldr with prog := some ⟨4, 7, 0, 0⟩ }, false, [], ⟨4, 7, 0, 0⟩, by decide +kernel⟩

theorem witness_configStore_cfgProgDoneFault :
    ∃ (s : State) (writeFault : Bool) (up : Upsets) (q : Prog),
    s.live = true ∧ s.ldr.prog = some q ∧ q.op ≠ 3 ∧ writeFault = true ∧ s.hbmReady q.addr (s.progLength q) = true :=
  ⟨((State.reset.wr (F.HBM_STATUS_TRAINED 0) 1).wr (F.HBM_STATUS_TRAINED 1) 1).withLdr
      { State.reset.ldr with prog := some ⟨1, 1, 0, 0⟩ }, true, [], ⟨1, 1, 0, 0⟩, by decide +kernel⟩

theorem witness_configStore_cfgProgDoneWaits :
    ∃ (s : State) (writeFault : Bool) (up : Upsets) (q : Prog),
    s.live = true ∧ s.ldr.prog = some q ∧ s.hbmReady q.addr (s.progLength q) = false :=
  ⟨((State.reset.wr (F.HBM_STATUS_TRAINED 0) 0).wr (F.HBM_STATUS_TRAINED 1) 0).withLdr
      { State.reset.ldr with prog := some ⟨0, 1, 0, 4096⟩ }, false, [], ⟨0, 1, 0, 4096⟩, by decide +kernel⟩

theorem witness_configStore_cfgProgDoneBootFails :
    ∃ (s : State) (writeFault : Bool) (up : Upsets) (q : Prog),
    s.live = true ∧ s.ldr.prog = some q ∧ q.op = 2 ∧ writeFault = false ∧ s.hbmReady q.addr 4096 = true ∧
        ((stacksTouched q.addr 4096).any s.stackDead || !((s.upsets (upsetList up)).badWords q.addr 4096).isEmpty) =
        true :=
  ⟨((State.reset.wr (F.HBM_STATUS_TRAINED 0) 1).wr (F.HBM_STATUS_TRAINED 1) 1).withLdr
      { State.reset.ldr with prog := some ⟨2, 0, 0, 0⟩ }, false, [(5, true)], ⟨2, 0, 0, 0⟩, by decide +kernel⟩

theorem witness_configStore_cfgProgDoneIdle :
    ∃ (s : State) (writeFault : Bool) (up : Upsets),
    s.live = true ∧ s.ldr.prog = none :=
  ⟨State.reset, false, [], by decide +kernel⟩

theorem witness_configStore_fabricScrubPass :
    ∃ (s : State) (found : List (Fin 8 × Fin 32768 × Bool)),
    s.live = true ∧ s.on F.CFG_SCRUB_CTRL_EN = true ∧ s.loaderBusy = false ∧
        s.on F.CFG_SCRUB_CTRL_AUTO_RELOAD = false :=
  ⟨(State.reset.wr F.CFG_SCRUB_CTRL_EN 1).wr F.CFG_FAB_STAT_RELEASED 255, [(0, 3, false), (1, 4, true)],
      by decide +kernel⟩

theorem witness_configStore_fabricScrubReload :
    ∃ (s : State) (k : Fin 8) (w : Fin 32768),
    s.live = true ∧ s.on F.CFG_SCRUB_CTRL_EN = true ∧ s.loaderBusy = false ∧
        s.on F.CFG_SCRUB_CTRL_AUTO_RELOAD = true ∧ s.ldr.reloads = [] ∧ bit (s.rd F.CFG_FAB_STAT_RELEASED) k = true ∧
        s.essential k w = true ∧ (s.ldr.full.isSome = true ∨ (s.partSrc k).isSome = true) :=
  ⟨(((State.reset.wr F.CFG_SCRUB_CTRL_EN 1).wr F.CFG_SCRUB_CTRL_AUTO_RELOAD 1).wr F.CFG_FAB_STAT_RELEASED
      255).withLdr { State.reset.ldr with full := some 1 }, 2, 5, by decide +kernel⟩

theorem witness_configStore_fabricScrubOff :
    ∃ (s : State) (found : List (Fin 8 × Fin 32768 × Bool)),
    s.live = true ∧ (s.on F.CFG_SCRUB_CTRL_EN = false ∨ s.loaderBusy = true) :=
  ⟨State.reset.wr F.CFG_SCRUB_CTRL_EN 0, [(0, 3, false)], by decide +kernel⟩

theorem witness_configStore_windowScrubPass :
    ∃ (s : State),
    s.live = true ∧ s.on F.CFG_SCRUB_CTRL_WIN_EN = true ∧ s.loaderBusy = false ∧
        s.on F.CFG_SCRUB_CTRL_AUTO_RELOAD = false :=
  ⟨((((State.reset.wr F.CFG_SCRUB_CTRL_WIN_EN 1).wr (F.SEC_CTRL_ASSIGNED 0) 1).wr (F.SEC_CTRL_DUAL 0) 1).wr
      (F.SEC_STATUS_PSTATE 0) 0).wr (F.GAF_STATUS_READY_B 0) 1, by decide +kernel⟩

theorem witness_configStore_windowScrubOff :
    ∃ (s : State),
    s.live = true ∧ (s.on F.CFG_SCRUB_CTRL_WIN_EN = false ∨ s.loaderBusy = true) :=
  ⟨State.reset.wr F.CFG_SCRUB_CTRL_WIN_EN 0, by decide +kernel⟩

theorem witness_configStore_storePatrol :
    ∃ (s : State) (found : List (BitVec 31)),
    s.live = true :=
  ⟨State.reset.withCstore { State.reset.cstore with slots := [(0, ⟨2, 4096, false⟩)] }, [0x20300#31],
      by decide +kernel⟩

theorem witness_starts_coldStart :
    ∃ (s : State) (found : List Found),
    s.lcs.trans = none ∧ lcDecode s.otp.lc < 3 :=
  ⟨State.reset, [], by decide +kernel⟩

theorem witness_starts_coldStartEndOfLife :
    ∃ (s : State) (found : List Found),
    s.lcs.trans = none ∧ lcDecode s.otp.lc = 3 :=
  ⟨State.reset.withOtp { State.reset.otp with lc := 2 ^ 64 - 1 }, [], by decide +kernel⟩

theorem witness_starts_warmStart :
    ∃ (s : State),
    s.spineOn = true ∧ s.safe = false ∧ s.lcs.trans = none ∧ lcDecode s.otp.lc < 3 :=
  ⟨State.reset, by decide +kernel⟩

theorem witness_starts_warmStartSafe :
    ∃ (s : State),
    (s.spineOn = false ∨ s.safe = true) :=
  ⟨State.reset.wr F.SYS_START_STAT_PHASE 7, by decide +kernel⟩

theorem witness_starts_f1ResetAssert :
    ∃ (s : State),
    s.live = true ∧ s.flt.f1 = true ∧ s.safe = false ∧ s.lcs.trans = none :=
  ⟨State.reset.withFlt { State.reset.flt with f1 := true }, by decide +kernel⟩

theorem witness_starts_f1ResetIdle :
    ∃ (s : State),
    s.live = true ∧ (s.flt.f1 = false ∨ s.safe = true) :=
  ⟨State.reset, by decide +kernel⟩

theorem witness_starts_s4Wake :
    ∃ (s : State),
    s.spineOn = false ∧ s.lehr.s4 = true ∧ s.lehr.waking = true ∧ s.lehr.railsOff = false ∧ s.lcs.trans = none ∧
        lcDecode s.otp.lc < 3 :=
  ⟨(State.reset.withSpineOn false).withLehr { State.reset.lehr with s4 := true, waking := true, slot := (0, 1) },
      by decide +kernel⟩

theorem witness_starts_s4Sleeps :
    ∃ (s : State),
    (s.spineOn = true ∨ s.lehr.s4 = false ∨ s.lehr.waking = false ∨ s.lehr.railsOff = true) :=
  ⟨(State.reset.withSpineOn false).withLehr { State.reset.lehr with s4 := true }, by decide +kernel⟩

theorem witness_starts_spineCut :
    ∃ (s : State),
    s.live = true ∧ s.pwr.s4Entry = true ∧ s.pwr.s4Left = true ∧ s.sto.queue = [] ∧ s.safe = false ∧
        s.lcs.trans = none :=
  ⟨State.reset.withPwr { State.reset.pwr with s4Entry := true, s4Left := true }, by decide +kernel⟩

theorem witness_starts_spineCutSteps :
    ∃ (s : State),
    s.live = true ∧ s.pwr.s4Entry = true ∧ s.pwr.s4Left = false ∧ s.sto.queue = [] ∧ s.safe = false :=
  ⟨State.reset.withPwr { State.reset.pwr with s4Entry := true }, by decide +kernel⟩

theorem witness_starts_spineCutWaits :
    ∃ (s : State),
    s.live = true ∧ (s.pwr.s4Entry = false ∨ s.sto.queue ≠ [] ∨ s.safe = true) :=
  ⟨State.reset, by decide +kernel⟩

theorem witness_release_releaseBegin :
    ∃ (s : State) (r : Releasing),
    s.live = true ∧ s.fab.releasing = some r ∧ r.stage = 0 ∧ (r.full = false ∨ s.pllsLocked r.mask = true) :=
  ⟨State.reset.withFab { State.reset.fab with releasing := some ⟨[2], false, 0, 3, 0⟩ }, ⟨[2], false, 0, 3, 0⟩,
      by decide +kernel⟩

theorem witness_release_releaseWaits :
    ∃ (s : State),
    s.live = true ∧ s.fab.releasing.all (fun r => r.stage != 0 || (r.full && !s.pllsLocked r.mask)) = true :=
  ⟨State.reset, by decide +kernel⟩

theorem witness_release_pllTimeoutExpiry :
    ∃ (s : State) (r : Releasing),
    s.live = true ∧ s.fab.releasing = some r ∧ r.stage = 0 ∧ r.full = true ∧ s.pllsLocked r.mask = false :=
  ⟨(State.reset.wr F.CLK_STAT_LOCKED 0).withFab { State.reset.fab with releasing := some ⟨upTo 8, true, 0, 0, 255⟩ },
      ⟨upTo 8, true, 0, 0, 255⟩, by decide +kernel⟩

theorem witness_release_pllTimeoutLate :
    ∃ (s : State),
    s.live = true ∧ s.fab.releasing.all (fun r => r.stage != 0 || !r.full || s.pllsLocked r.mask) = true :=
  ⟨State.reset, by decide +kernel⟩

theorem witness_release_releaseGapExpiry :
    ∃ (s : State) (r : Releasing),
    s.live = true ∧ s.fab.releasing = some r ∧ r.stage = 1 :=
  ⟨State.reset.withFab { State.reset.fab with releasing := some ⟨[2], false, 1, 3, 0⟩ }, ⟨[2], false, 1, 3, 0⟩,
      by decide +kernel⟩

theorem witness_release_releaseEnds :
    ∃ (s : State) (r : Releasing),
    s.live = true ∧ s.fab.releasing = some r ∧ r.stage = 2 ∧ r.full = false ∧ (∀ k ∈ r.parts, k < 8) :=
  ⟨State.reset.withFab { State.reset.fab with releasing := some ⟨[2], false, 2, 3, 0⟩ }, ⟨[2], false, 2, 3, 0⟩,
      by decide +kernel⟩

theorem witness_release_releaseFullEnds :
    ∃ (s : State) (r : Releasing),
    s.live = true ∧ s.fab.releasing = some r ∧ r.stage = 2 ∧ r.full = true ∧ r.parts = upTo 8 :=
  ⟨(State.reset.wr F.SYS_START_STAT_PHASE 4).withFab
      { State.reset.fab with releasing := some ⟨upTo 8, true, 2, 0, 0⟩ }, ⟨upTo 8, true, 2, 0, 0⟩, by decide +kernel⟩

theorem witness_release_confirm :
    ∃ (s : State) (p : Path) (v : BitVec 32) (x : State),
    s.live = true ∧ s.pathOpen p = true ∧ s.stored p 0x104 (v ||| 0x80000000).toNat = x :=
  ⟨State.reset.wr F.SYS_START_STAT_PHASE 5, .core, 0#32,
      (State.reset.wr F.SYS_START_STAT_PHASE 5).stored .core 0x104 0x80000000, by decide +kernel⟩

theorem witness_release_autoConfirm :
    ∃ (s : State),
    s.live = true ∧ s.on F.SYS_START_CTRL_AUTO_CONFIRM = true ∧ s.rd F.SYS_START_STAT_PHASE = 5 ∧ s.flt.f1 = false :=
  ⟨(State.reset.wr F.SYS_START_CTRL_AUTO_CONFIRM 1).wr F.SYS_START_STAT_PHASE 5, by decide +kernel⟩

theorem witness_release_autoConfirmOff :
    ∃ (s : State),
    s.live = true ∧ (s.on F.SYS_START_CTRL_AUTO_CONFIRM = false ∨ s.rd F.SYS_START_STAT_PHASE ≠ 5 ∨
        s.flt.f1 = true) :=
  ⟨State.reset, by decide +kernel⟩

theorem witness_powerDomains_pwrVoteWrite :
    ∃ (s : State) (p : Path) (n : Fin 17) (v : BitVec 32) (x : State),
    s.live = true ∧ s.pathOpen p = true ∧ s.stored p (0x10010 + 4 * n.val) v.toNat = x :=
  ⟨State.reset, .core, 16, 2#32, State.reset.stored .core 0x10050 2, by decide +kernel⟩

theorem witness_powerDomains_powerDownDrainEnd :
    ∃ (s : State) (d : Fin 18),
    s.live = true ∧ (s.dom d).down.isSome = true ∧ (s.dom d).isolated = false ∧ s.drained d = true :=
  ⟨State.reset.setDom 3 { State.reset.dom 3 with down := some 2 }, 3, by decide +kernel⟩

theorem witness_powerDomains_powerDownDrainWaits :
    ∃ (s : State) (d : Fin 18),
    s.live = true ∧ ((s.dom d).down = none ∨ (s.dom d).isolated = true ∨ s.drained d = false) :=
  ⟨State.reset, 3, by decide +kernel⟩

theorem witness_powerDomains_powerGatingComplete :
    ∃ (s : State) (d : Fin 18) (st : Nat),
    s.live = true ∧ (s.dom d).down = some st ∧ (s.dom d).isolated = true ∧ d.val < 16 ∧ st < 4 :=
  ⟨State.reset.setDom 3 { State.reset.dom 3 with down := some 2, isolated := true }, 3, 2, by decide +kernel⟩

theorem witness_powerDomains_stackGated :
    ∃ (s : State) (d : Fin 18) (st : Nat),
    s.live = true ∧ (s.dom d).down = some st ∧ (s.dom d).isolated = true ∧ 16 ≤ d.val :=
  ⟨State.reset.setDom 17 { State.reset.dom 17 with down := some 1, isolated := true }, 17, 1, by decide +kernel⟩

theorem witness_powerDomains_powerGatingIdle :
    ∃ (s : State) (d : Fin 18),
    s.live = true ∧ ((s.dom d).down = none ∨ (s.dom d).isolated = false) :=
  ⟨State.reset, 3, by decide +kernel⟩

theorem witness_powerDomains_sectorWakeComplete :
    ∃ (s : State) (c : Fin 16) (upset : Option (BitVec 31)),
    s.live = true ∧ (s.dom c).waking = true :=
  ⟨State.reset.setDom 3 { State.reset.dom 3 with waking := true }, 3, none, by decide +kernel⟩

theorem witness_powerDomains_sectorAwake :
    ∃ (s : State) (c : Fin 16) (upset : Option (BitVec 31)),
    s.live = true ∧ (s.dom c).waking = false :=
  ⟨State.reset, 3, none, by decide +kernel⟩

theorem witness_powerDomains_wakeHoldExpiry :
    ∃ (s : State) (d : Fin 18),
    s.live = true ∧ (s.dom d).wakeVote = true ∧ (s.dom d).waking = false ∧ (s.dom d).held = [] :=
  ⟨State.reset.setDom 17 { State.reset.dom 17 with wakeVote := true }, 17, by decide +kernel⟩

theorem witness_powerDomains_wakeHoldStays :
    ∃ (s : State) (d : Fin 18),
    s.live = true ∧ ((s.dom d).wakeVote = false ∨ (s.dom d).waking = true ∨ (s.dom d).held ≠ []) :=
  ⟨State.reset, 3, by decide +kernel⟩

theorem witness_wakes_s4Req :
    ∃ (s : State) (p : Path) (v : BitVec 32) (x : State),
    s.live = true ∧ s.pathOpen p = true ∧ s.stored p 0x10000 (v ||| 0x80000000).toNat = x ∧ x.pwr.s4Entry = false ∧
        x.safe = false :=
  ⟨State.reset.wr F.PWR_WAKE_EN_SRC 2, .core, 0#32,
      (State.reset.wr F.PWR_WAKE_EN_SRC 2).stored .core 0x10000 0x80000000, by decide +kernel⟩

theorem witness_wakes_s4ReqSafe :
    ∃ (s : State) (p : Path) (v : BitVec 32) (x : State),
    s.live = true ∧ s.pathOpen p = true ∧ s.stored p 0x10000 (v ||| 0x80000000).toNat = x ∧ x.pwr.s4Entry = false ∧
        x.safe = true :=
  ⟨State.reset.wr F.SYS_START_STAT_PHASE 7, .core, 0#32,
      (State.reset.wr F.SYS_START_STAT_PHASE 7).stored .core 0x10000 0x80000000, by decide +kernel⟩

theorem witness_wakes_wakeN :
    ∃ (s : State),
    s.lehrOn = true ∧ bit (s.rd F.PWR_WAKE_EN_SRC) 1 = true :=
  ⟨(State.reset.wr F.PWR_WAKE_EN_SRC 2).withPwr { State.reset.pwr with s4Entry := true }, by decide +kernel⟩

theorem witness_wakes_encWake :
    ∃ (s : State),
    s.lehr.s4 = true ∧ bit (s.rd F.PWR_WAKE_EN_SRC) 2 = true ∧ max 1 (s.rd F.PWR_WAKE_EN_ENC_EDGES) ≤ s.lehr.edges :=
  ⟨((State.reset.wr F.PWR_WAKE_EN_SRC 4).withSpineOn false).withLehr
      { State.reset.lehr with s4 := true, edges := 16 }, by decide +kernel⟩

theorem witness_wakes_encWakeFewEdges :
    ∃ (s : State),
    (s.lehr.s4 = false ∨ s.lehr.edges < max 1 (s.rd F.PWR_WAKE_EN_ENC_EDGES)) :=
  ⟨(State.reset.withSpineOn false).withLehr { State.reset.lehr with s4 := true }, by decide +kernel⟩

theorem witness_wakes_perstWake :
    ∃ (s : State),
    s.lehrOn = true ∧ bit (s.rd F.PWR_WAKE_EN_SRC) 3 = true :=
  ⟨State.reset.wr F.PWR_WAKE_EN_SRC 8, by decide +kernel⟩

theorem witness_wakes_timerWake :
    ∃ (s : State),
    s.lehrOn = true ∧ s.rd64 0x10070 ≤ s.rd64 0x10068 ∧ bit (s.rd F.PWR_WAKE_EN_SRC) 0 = true :=
  ⟨State.reset.wr F.PWR_WAKE_EN_SRC 1, by decide +kernel⟩

theorem witness_wakes_timerWaits :
    ∃ (s : State),
    (s.rd64 0x10068 < s.rd64 0x10070 ∨ bit (s.rd F.PWR_WAKE_EN_SRC) 0 = false) :=
  ⟨State.reset, by decide +kernel⟩

theorem witness_wakes_wakeNDisabled :
    ∃ (s : State),
    bit (s.rd F.PWR_WAKE_EN_SRC) 1 = false :=
  ⟨State.reset.wr F.PWR_WAKE_EN_SRC 4, by decide +kernel⟩

theorem witness_wakes_xtalGood :
    ∃ (s : State),
    s.lehrOn = true ∧ s.on F.PWR_STAT_ON_XTAL = false :=
  ⟨State.reset.wr F.PWR_STAT_ON_XTAL 0, by decide +kernel⟩

theorem witness_wakes_xtalLoss :
    ∃ (s : State),
    s.lehrOn = true ∧ s.on F.PWR_STAT_ON_XTAL = true :=
  ⟨State.reset.wr F.PWR_STAT_ON_XTAL 1, by decide +kernel⟩

theorem witness_wakes_xtalStays :
    ∃ (s : State),
    s.on F.PWR_STAT_ON_XTAL = true :=
  ⟨State.reset.wr F.PWR_STAT_ON_XTAL 1, by decide +kernel⟩

theorem witness_wakes_pwrSaveOfsWrite :
    ∃ (s : State) (p : Path) (v : BitVec 32),
    s.live = true ∧ s.pathOpen p = true :=
  ⟨State.reset.wr F.PWR_SAVE_IDX_IDX 8191, .core, 0x90000#32, by decide +kernel⟩

theorem witness_wakes_supplyPowerGoodLoss :
    ∃ (s : State),
    s.lehrOn = true :=
  ⟨State.reset, by decide +kernel⟩

theorem witness_wakes_seqPgRise :
    ∃ (s : State),
    s.lehrOn = true :=
  ⟨State.reset.withFab { State.reset.fab with supplyLost := true }, by decide +kernel⟩

theorem witness_faults_faultF0 :
    ∃ (s : State) (src : Fin 64) (detail : BitVec 32),
    s.live = true ∧ src.val ≤ 2 ∧ s.safe = false ∧ s.shows src.val detail.toNat = true :=
  ⟨State.reset, 1, 126#32, by decide +kernel⟩

theorem witness_faults_faultF0Safe :
    ∃ (s : State) (src : Fin 64) (detail : BitVec 32),
    s.live = true ∧ (src.val = 0 ∨ src.val = 2) ∧ s.safe = true :=
  ⟨State.reset.wr F.SYS_START_STAT_PHASE 7, 2, 0#32, by decide +kernel⟩

theorem witness_faults_faultF1 :
    ∃ (s : State) (src : Fin 64) (detail : BitVec 32),
    s.live = true ∧ (8 ≤ src.val ∧ src.val ≤ 12) ∧ s.safe = false ∧ s.flt.f1 = false :=
  ⟨State.reset, 9, 7#32, by decide +kernel⟩

theorem witness_faults_faultF2 :
    ∃ (s : State) (src : Fin 64) (detail : BitVec 32) (n : Nat) (cause : Nat),
    s.live = true ∧ (16 ≤ src.val ∧ src.val ≤ 20) ∧ s.faultRegion src detail.toNat = some n ∧ s.flt.f1 = false ∧
        s.safe = false ∧ s.run n ≠ 1 ∧ s.run n ≠ 5 ∧ (s.gaf n).fence = none ∧
        (cause = if src.val = 19 then 5 else 4) :=
  ⟨(State.reset.wr (F.SEC_CTRL_ASSIGNED 0) 1).wr (F.GAF_STATUS_STATE 0) 2, 19, 0#32, 0, 5, by decide +kernel⟩

theorem witness_faults_faultF2Loading :
    ∃ (s : State) (src : Fin 64) (detail : BitVec 32) (n : Nat),
    s.live = true ∧ (16 ≤ src.val ∧ src.val ≤ 20) ∧ s.faultRegion src detail.toNat = some n ∧ s.flt.f1 = false ∧
        s.safe = false ∧ s.run n = 1 ∧ (s.gaf n).fence = none :=
  ⟨(State.reset.wr (F.SEC_CTRL_ASSIGNED 0) 1).wr (F.GAF_STATUS_STATE 0) 1, 19, 0#32, 0, by decide +kernel⟩

theorem witness_faults_faultF2Contained :
    ∃ (s : State) (src : Fin 64) (detail : BitVec 32),
    s.live = true ∧ (16 ≤ src.val ∧ src.val ≤ 20) ∧ (s.flt.f1 = true ∨ s.safe = true) :=
  ⟨State.reset.withFlt { State.reset.flt with f1 := true }, 19, 0#32, by decide +kernel⟩

theorem witness_faults_faultStepPll :
    ∃ (s : State) (src : Fin 64) (detail : BitVec 32),
    s.live = true ∧ src.val = 21 ∧ s.flt.f1 = false ∧ s.safe = false :=
  ⟨State.reset.wr (F.GAF_STATUS_STATE 3) 2, 21, 0#32, by decide +kernel⟩

theorem witness_faults_faultNoRegion :
    ∃ (s : State) (src : Fin 64) (detail : BitVec 32),
    s.live = true ∧ (16 ≤ src.val ∧ src.val ≤ 20) ∧ s.faultRegion src detail.toNat = none :=
  ⟨State.reset, 18, 3#32, by decide +kernel⟩

theorem witness_faults_faultF3 :
    ∃ (s : State) (src : Fin 64) (detail : BitVec 32),
    s.live = true ∧ (24 ≤ src.val ∧ src.val ≤ 29) ∧ s.shows src.val detail.toNat = true :=
  ⟨State.reset, 29, 120#32, by decide +kernel⟩

theorem witness_faults_faultNotShown :
    ∃ (s : State) (src : Fin 64) (detail : BitVec 32),
    s.live = true ∧ s.shows src.val detail.toNat = false :=
  ⟨(State.reset.wr F.FLT_TEMP_WARN 90).wr F.FLT_TEMP_MAX 20, 29, 50#32, by decide +kernel⟩

theorem witness_faults_faultsTogether :
    ∃ (s : State) (src : Fin 64) (x : Fin 64) (detail : BitVec 32) (d : BitVec 32),
    s.live = true ∧ (24 ≤ src.val ∧ src.val < x.val ∧ x.val ≤ 28) ∧ s.on F.FLT_FIRST_SRC_VALID = false ∧
        (s.rd F.FLT_LOG_HEAD_HEAD + 128 - s.rd F.FLT_LOG_TAIL_TAIL) % 128 < 63 :=
  ⟨State.reset, 24, 26, 5#32, 6#32, by decide +kernel⟩

theorem witness_faults_faultUnused :
    ∃ (s : State) (src : Fin 64) (detail : BitVec 32),
    s.live = true ∧ faultClass src = none :=
  ⟨State.reset, 5, 100#32, by decide +kernel⟩

theorem witness_faults_brokenWire :
    ∃ (s : State) (src : Fin 64) (c : Nat),
    s.live = true ∧ faultClass src = some c ∧ s.safe = false ∧ s.flt.f1 = false :=
  ⟨State.reset, 17, 2, by decide +kernel⟩

theorem witness_faults_brokenWireUnused :
    ∃ (s : State) (src : Fin 64),
    s.live = true ∧ faultClass src = none :=
  ⟨State.reset, 40, by decide +kernel⟩

theorem witness_faults_pairTest :
    ∃ (s : State),
    s.live = true :=
  ⟨State.reset, by decide +kernel⟩

theorem witness_faults_pairTestTimeout :
    ∃ (s : State) (src : Fin 64),
    s.live = true ∧ (faultClass src).isSome = true :=
  ⟨State.reset, 9, by decide +kernel⟩

theorem witness_faults_mcWatchdog :
    ∃ (s : State),
    s.live = true ∧ s.safe = false ∧ s.flt.f1 = false :=
  ⟨State.reset, by decide +kernel⟩

theorem witness_faults_mcWatchdogContained :
    ∃ (s : State),
    s.live = true ∧ (s.safe = true ∨ s.flt.f1 = true) :=
  ⟨State.reset.withFlt { State.reset.flt with f1 := true }, by decide +kernel⟩

theorem witness_faults_lcFaultPulseEnd :
    ∃ (s : State) (netLow : Bool),
    s.live = true :=
  ⟨State.reset.withFlt { State.reset.flt with pulses := true }, false, by decide +kernel⟩

theorem witness_bist_bistRun :
    ∃ (s : State) (c : MbxCmd),
    s.live = true ∧ s.longNext 0x30 = some c ∧ c.reservedZero (4 :: (upTo 8).map fun k => 8 + k) = true ∧
        c.byte 4 < 16 ∧ inHbm (c.num 8 8) 8 = true ∧ s.scopeOk (c.byte 4) = true :=
  ⟨(State.reset.wr F.PCI_MBX_STAT_READY 1).withMbx
      { State.reset.mbx with long := [⟨0, 2 ^ 32 * 4 + 0x30, false, false⟩] }, ⟨0, 2 ^ 32 * 4 + 0x30, false, false⟩,
      by decide +kernel⟩

theorem witness_bist_bistRunBadState :
    ∃ (s : State) (c : MbxCmd),
    s.live = true ∧ s.longNext 0x30 = some c ∧ c.seen ∧ c.reservedZero (4 :: (upTo 8).map fun k => 8 + k) = true ∧
        c.byte 4 < 16 ∧ inHbm (c.num 8 8) 8 = true ∧ s.scopeOk (c.byte 4) = false :=
  ⟨(((State.reset.wr F.PCI_MBX_STAT_READY 1).wr (F.SEC_CTRL_ASSIGNED 0) 1).wr (F.GAF_STATUS_STATE 0) 3).withMbx
      { State.reset.mbx with long := [⟨0, 2 ^ 32 * 8 + 0x30, false, false⟩] }, ⟨0, 2 ^ 32 * 8 + 0x30, false, false⟩,
      by decide +kernel⟩

theorem witness_bist_bistRunComplete :
    ∃ (s : State) (found : List Found) (c : MbxCmd),
    s.live = true ∧ s.mbx.longRun = some c ∧ c.seen ∧ c.byte 0 = 0x30 ∧
        s.hbmReady (c.num 8 8) (8 + 8 * min 4096 (found.filter (s.inScope (c.byte 4))).length) = true ∧
        ((s.scopeWakes (c.byte 4)).all fun x => s.rd (F.SEC_STATUS_PSTATE x) == 0) = true ∧
        inHbm (c.num 8 8) (8 + 8 * min 4096 (found.filter (s.inScope (c.byte 4))).length) = true :=
  ⟨(((State.reset.wr F.BST_STAT_BUSY 1).wr (F.HBM_STATUS_TRAINED 0) 1).wr (F.HBM_STATUS_TRAINED 1) 1).withMbx
      { State.reset.mbx with longRun := some ⟨0, 0x30, false, false⟩ }, [⟨0x700000000000#64, 0⟩], ⟨0, 0x30, false,
      false⟩, by decide +kernel⟩

theorem witness_bist_bistRunWaits :
    ∃ (s : State) (found : List Found) (c : MbxCmd),
    s.live = true ∧ s.mbx.longRun = some c ∧ c.byte 0 = 0x30 ∧
        s.hbmReady (c.num 8 8) (8 + 8 * min 4096 (found.filter (s.inScope (c.byte 4))).length) = false :=
  ⟨((State.reset.wr F.BST_STAT_BUSY 1).wr (F.HBM_STATUS_TRAINED 0) 0).withMbx
      { State.reset.mbx with longRun := some ⟨0, 0x30, false, false⟩ }, [], ⟨0, 0x30, false, false⟩,
      by decide +kernel⟩

theorem witness_bist_bistIdle :
    ∃ (s : State) (found : List Found),
    s.live = true ∧ s.mbx.longRun = none :=
  ⟨State.reset, [], by decide +kernel⟩

theorem witness_bist_periodicSlice :
    ∃ (s : State) (c : Nat),
    s.live = true ∧ s.on F.BST_CTRL_SLICE_EN = true ∧ s.bst.slice = none ∧ s.on F.BST_STAT_BUSY = false ∧
        (((upTo 16).map fun i => (s.bst.nextSpare + i) % 16).find? fun c => s.sliceable c) = some c :=
  ⟨(State.reset.wr F.BST_CTRL_SLICE_EN 1).wr F.BST_CTRL_WAKE 1, 0, by decide +kernel⟩

theorem witness_bist_sliceOff :
    ∃ (s : State),
    s.live = true ∧ (s.on F.BST_CTRL_SLICE_EN = false ∨ s.bst.slice.isSome = true ∨ s.on F.BST_STAT_BUSY = true) :=
  ⟨State.reset.wr F.BST_STAT_BUSY 1, by decide +kernel⟩

theorem witness_bist_sliceEnd :
    ∃ (s : State) (found : List Found) (pt : Nat),
    s.live = true ∧ s.bst.slice = some pt ∧ s.rd (F.SEC_STATUS_PSTATE (pt / 9)) = 0 :=
  ⟨(State.reset.wr (F.SEC_STATUS_PSTATE 0) 0).withBst { State.reset.bst with slice := some 8 }, [], 8,
      by decide +kernel⟩

theorem witness_bist_sliceWaits :
    ∃ (s : State) (found : List Found) (pt : Nat),
    s.live = true ∧ s.bst.slice = some pt ∧ s.rd (F.SEC_STATUS_PSTATE (pt / 9)) ≠ 0 :=
  ⟨(State.reset.wr (F.SEC_STATUS_PSTATE 0) 3).withBst { State.reset.bst with slice := some 8 }, [], 8,
      by decide +kernel⟩

theorem witness_bist_noSlice :
    ∃ (s : State) (found : List Found),
    s.live = true ∧ s.bst.slice = none :=
  ⟨State.reset, [], by decide +kernel⟩

theorem witness_bist_idleGapScan :
    ∃ (s : State) (n : Fin 16) (bad : Option (Fin 128 × Fin 1024)) (x : State) (a : Nat),
    s.live = true ∧ s.on F.BST_CTRL_GAP_EN = true ∧ s.run n = 2 ∧ (s.gaf n).phase = .none ∧ (s.gaf n).next = none ∧
        (s.gaf n).dmClear = false ∧ Tab.get (fun _ => 0) s.bst.gap n.val = a ∧ s.gapUpset n a bad = x :=
  ⟨((State.reset.wr F.BST_CTRL_GAP_EN 1).wr (F.GAF_STATUS_STATE 0) 2).wr (F.SEC_CTRL_ASSIGNED 0) 1, 0, some (3, 5),
      (((State.reset.wr F.BST_CTRL_GAP_EN 1).wr (F.GAF_STATUS_STATE 0) 2).wr (F.SEC_CTRL_ASSIGNED 0) 1).gapUpset 0 0
      (some (3, 5)), 0, by decide +kernel⟩

theorem witness_bist_gapScanOff :
    ∃ (s : State) (n : Fin 16) (bad : Option (Fin 128 × Fin 1024)),
    s.live = true ∧ (s.on F.BST_CTRL_GAP_EN = false ∨ s.run n ≠ 2) :=
  ⟨State.reset, 0, some (3, 5), by decide +kernel⟩

theorem witness_lifecycle_lcTransition :
    ∃ (s : State) (c : MbxCmd),
    s.live = true ∧ s.longNext 0x40 = some c ∧ c.reservedZero [4] = true ∧ c.byte 4 ≤ 4 ∧
        s.transAnswer c (c.byte 4) = none :=
  ⟨((State.reset.wr F.PCI_MBX_STAT_READY 1).withMbx
      { State.reset.mbx with long := [⟨0, 2 ^ 32 * 2 + 0x40, false, false⟩] }).withLcs
      { State.reset.lcs with granted := 4, ends := some 9 }, ⟨0, 2 ^ 32 * 2 + 0x40, false, false⟩, by decide +kernel⟩

theorem witness_lifecycle_lcTransitionAnswered :
    ∃ (s : State) (c : MbxCmd) (code : Nat),
    s.live = true ∧ s.longNext 0x40 = some c ∧ c.seen ∧ c.reservedZero [4] = true ∧ c.byte 4 ≤ 4 ∧
        s.transAnswer c (c.byte 4) = some code :=
  ⟨(State.reset.wr F.PCI_MBX_STAT_READY 1).withMbx { State.reset.mbx with long := [⟨0, 0x40, false, false⟩] }, ⟨0,
      0x40, false, false⟩, 5, by decide +kernel⟩

theorem witness_lifecycle_lcTransitionBadParam :
    ∃ (s : State) (c : MbxCmd),
    s.live = true ∧ s.longNext 0x40 = some c ∧ c.seen ∧ (c.reservedZero [4] = false ∨ 4 < c.byte 4) :=
  ⟨(State.reset.wr F.PCI_MBX_STAT_READY 1).withMbx
      { State.reset.mbx with long := [⟨0, 2 ^ 32 * 5 + 0x40, false, false⟩] }, ⟨0, 2 ^ 32 * 5 + 0x40, false, false⟩,
      by decide +kernel⟩

theorem witness_lifecycle_lcTransitionComplete :
    ∃ (s : State) (weak : Option (Fin 64)) (t : Nat),
    s.live = true ∧ s.lcs.trans = some t ∧ (s.otp.needsOwner t = false ∨ s.stagedCovers = true) ∧
        (weak.all fun b => !(s.otp.missing t).contains b.val) = true :=
  ⟨(State.reset.withMbx { State.reset.mbx with longRun := some ⟨0, 2 ^ 32 * 2 + 0x40, false, false⟩ }).withLcs
      { State.reset.lcs with trans := some 2 }, some 3, 2, by decide +kernel⟩

theorem witness_lifecycle_lcTransitionUncovered :
    ∃ (s : State) (weak : Option (Fin 64)) (t : Nat),
    s.live = true ∧ s.lcs.trans = some t ∧ s.otp.needsOwner t = true ∧ s.stagedCovers = false :=
  ⟨((State.reset.withMbx { State.reset.mbx with longRun := some ⟨0, 2 ^ 32 * 2 + 0x40, false, false⟩ }).withLcs
      { State.reset.lcs with trans := some 2 }).withOtp { State.reset.otp with cfg := 2 }, none, 2, by decide +kernel⟩

theorem witness_lifecycle_lcTransitionWeak :
    ∃ (s : State) (b : Fin 64) (t : Nat),
    s.live = true ∧ s.lcs.trans = some t ∧ (s.otp.needsOwner t = false ∨ s.stagedCovers = true) ∧
        (s.otp.missing t).contains b.val = true :=
  ⟨(State.reset.withMbx { State.reset.mbx with longRun := some ⟨0, 2 ^ 32 * 2 + 0x40, false, false⟩ }).withLcs
      { State.reset.lcs with trans := some 2 }, 29, 2, by decide +kernel⟩

theorem witness_lifecycle_noTransition :
    ∃ (s : State) (weak : Option (Fin 64)),
    s.live = true ∧ s.lcs.trans = none :=
  ⟨State.reset, none, by decide +kernel⟩

theorem witness_lifecycle_grantExpiry :
    ∃ (s : State) (e : Nat),
    s.live = true ∧ s.lcs.ends = some e ∧ e ≤ s.rd64 0x10068 ∧ s.lcs.granted ≠ 0 :=
  ⟨State.reset.withLcs { State.reset.lcs with granted := 8, ends := some 0 }, 0, by decide +kernel⟩

theorem witness_lifecycle_grantHolds :
    ∃ (s : State),
    s.live = true ∧ (s.lcs.ends.all fun e => s.rd64 0x10068 < e) = true :=
  ⟨State.reset.withLcs { State.reset.lcs with granted := 8, ends := some 1 }, by decide +kernel⟩

theorem witness_lifecycle_lockoutExpiry :
    ∃ (s : State) (t : Nat),
    s.live = true ∧ s.lehr.lockedAt = some t ∧ t + 327680 ≤ s.rd64 0x10068 :=
  ⟨(State.reset.setWords 0x10068 [327680]).withLehr { State.reset.lehr with lockedAt := some 0, authFails := 4 }, 0,
      by decide +kernel⟩

theorem witness_lifecycle_lockoutHolds :
    ∃ (s : State),
    s.live = true ∧ (s.lehr.lockedAt.all fun t => s.rd64 0x10068 < t + 327680) = true :=
  ⟨State.reset.withLehr { State.reset.lehr with lockedAt := some 0, authFails := 4 }, by decide +kernel⟩

theorem witness_lifecycle_lcsDbgRelease :
    ∃ (s : State) (p : Path) (v : BitVec 32),
    s.live = true ∧ s.pathOpen p = true ∧ v.toNat < 2 :=
  ⟨State.reset.withLcs { State.reset.lcs with granted := 8, ends := some 1 }, .core, 1#32, by decide +kernel⟩

theorem witness_debugAuth_debugAuthChallenge :
    ∃ (s : State) (c : MbxCmd),
    s.live = true ∧ s.shortNext 0x41 = some c ∧ c.seen ∧ c.byte 4 = 0 ∧ c.authOk 64 = true ∧ s.authGate = none ∧
        s.bufferSleeps (c.num 8 8) 64 = [] ∧ s.bufferDead (c.num 8 8) 64 = false ∧ s.on F.LCS_STAT_LOCKOUT = false :=
  ⟨(((State.reset.wr F.PCI_MBX_STAT_READY 1).wr F.LCS_STATE 2).wr (F.HBM_STATUS_TRAINED 0) 1).withMbx
      { State.reset.mbx with short := [⟨0, 0x41, false, false⟩] }, ⟨0, 0x41, false, false⟩, by decide +kernel⟩

theorem witness_debugAuth_debugAuthChallengeLocked :
    ∃ (s : State) (c : MbxCmd),
    s.live = true ∧ s.shortNext 0x41 = some c ∧ c.seen ∧ c.byte 4 = 0 ∧ c.authOk 64 = true ∧ s.authGate = none ∧
        s.bufferSleeps (c.num 8 8) 64 = [] ∧ s.on F.LCS_STAT_LOCKOUT = true :=
  ⟨(((State.reset.wr F.PCI_MBX_STAT_READY 1).wr F.LCS_STATE 2).wr F.LCS_STAT_LOCKOUT 1).withMbx
      { State.reset.mbx with short := [⟨0, 0x41, false, false⟩] }, ⟨0, 0x41, false, false⟩, by decide +kernel⟩

theorem witness_debugAuth_debugAuthGated :
    ∃ (s : State) (c : MbxCmd) (code : Nat),
    s.live = true ∧ s.shortNext 0x41 = some c ∧ c.seen ∧ c.byte 4 = 0 ∧ c.authOk 64 = true ∧ s.authGate = some code :=
  ⟨(State.reset.wr F.PCI_MBX_STAT_READY 1).withMbx { State.reset.mbx with short := [⟨0, 0x41, false, false⟩] }, ⟨0,
      0x41, false, false⟩, 0, by decide +kernel⟩

theorem witness_debugAuth_debugAuthResponse :
    ∃ (s : State) (c : MbxCmd),
    s.live = true ∧ s.shortNext 0x41 = some c ∧ c.seen ∧ c.byte 4 = 1 ∧ c.authOk 216 = true ∧ s.authGate = none ∧
        s.bufferSleeps (c.num 8 8) 216 = [] ∧ s.bufferDead (c.num 8 8) 216 = false ∧
        s.badWords (c.num 8 8) 216 = [] ∧ (stacksTouched (c.num 8 8) 216).any s.stackDead = false :=
  ⟨(((State.reset.wr F.PCI_MBX_STAT_READY 1).wr F.LCS_STATE 2).wr (F.HBM_STATUS_TRAINED 0) 1).withMbx
      { State.reset.mbx with short := [⟨0, 2 ^ 32 + 0x41, false, false⟩] }, ⟨0, 2 ^ 32 + 0x41, false, false⟩,
      by decide +kernel⟩

theorem witness_debugAuth_debugAuthRelease :
    ∃ (s : State) (c : MbxCmd),
    s.live = true ∧ s.shortNext 0x41 = some c ∧ c.seen ∧ c.byte 4 = 2 ∧ c.authOk 0 = true ∧ s.authGate = none :=
  ⟨(((State.reset.wr F.PCI_MBX_STAT_READY 1).wr F.LCS_STATE 2).withMbx
      { State.reset.mbx with short := [⟨0, 2 ^ 32 * 2 + 0x41, false, false⟩] }).withLcs
      { State.reset.lcs with granted := 8 }, ⟨0, 2 ^ 32 * 2 + 0x41, false, false⟩, by decide +kernel⟩

theorem witness_debugAuth_debugAuthNone :
    ∃ (s : State),
    s.live = true ∧ s.shortNext 0x41 = none :=
  ⟨State.reset, by decide +kernel⟩

theorem witness_debugAuth_attest :
    ∃ (s : State) (c : MbxCmd),
    s.live = true ∧ s.longNext 0x50 = some c ∧ c.seen ∧ c.reservedZero ((upTo 24).map fun k => 8 + k) = true ∧
        s.keyless = false ∧ (s.on (F.HBM_STATUS_TRAINED 0) = true ∧ s.on (F.HBM_STATUS_TRAINED 1) = true) ∧
        (s.mustWait 16 = false ∧ s.mustWait 17 = false) ∧ s.badWords (c.num 8 8) 16 = [] ∧ (s.stackDead 0 = false ∧
        s.stackDead 1 = false) :=
  ⟨(((State.reset.wr F.PCI_MBX_STAT_READY 1).wr (F.HBM_STATUS_TRAINED 0) 1).wr (F.HBM_STATUS_TRAINED 1) 1).withMbx
      { State.reset.mbx with long := [⟨0, 0x50, false, false⟩] }, ⟨0, 0x50, false, false⟩, by decide +kernel⟩

theorem witness_debugAuth_attestDenied :
    ∃ (s : State) (c : MbxCmd),
    s.live = true ∧ s.longNext 0x50 = some c ∧ c.seen ∧ c.reservedZero ((upTo 24).map fun k => 8 + k) = true ∧
        s.keyless = true :=
  ⟨((State.reset.wr F.PCI_MBX_STAT_READY 1).wr F.LCS_STATE 3).withMbx
      { State.reset.mbx with long := [⟨0, 0x50, false, false⟩] }, ⟨0, 0x50, false, false⟩, by decide +kernel⟩

theorem witness_spdm_getVersion :
    ∃ (s : State),
    s.live = true ∧ s.on F.PCI_STAT_READY = true ∧ s.keyless = false :=
  ⟨State.reset.wr F.PCI_STAT_READY 1, by decide +kernel⟩

theorem witness_spdm_getCapabilities :
    ∃ (s : State),
    s.live = true ∧ s.on F.PCI_STAT_READY = true ∧ s.keyless = false :=
  ⟨State.reset.wr F.PCI_STAT_READY 1, by decide +kernel⟩

theorem witness_spdm_negotiateAlgorithms :
    ∃ (s : State),
    s.live = true ∧ s.on F.PCI_STAT_READY = true ∧ s.keyless = false :=
  ⟨State.reset.wr F.PCI_STAT_READY 1, by decide +kernel⟩

theorem witness_spdm_getDigests :
    ∃ (s : State),
    s.live = true ∧ s.on F.PCI_STAT_READY = true ∧ s.keyless = false :=
  ⟨State.reset.wr F.PCI_STAT_READY 1, by decide +kernel⟩

theorem witness_spdm_getCertificate :
    ∃ (s : State) (off : BitVec 16) (len : BitVec 16),
    s.live = true ∧ s.on F.PCI_STAT_READY = true ∧ s.keyless = false :=
  ⟨State.reset.wr F.PCI_STAT_READY 1, 0#16, 0xffff#16, by decide +kernel⟩

theorem witness_spdm_challenge :
    ∃ (s : State) (nonce : BitVec 256),
    s.live = true ∧ s.on F.PCI_STAT_READY = true ∧ s.keyless = false :=
  ⟨State.reset.wr F.PCI_STAT_READY 1, 7#256, by decide +kernel⟩

theorem witness_spdm_getMeasurements :
    ∃ (s : State) (nonce : BitVec 256),
    s.live = true ∧ s.on F.PCI_STAT_READY = true ∧ s.keyless = false :=
  ⟨State.reset.wr F.PCI_STAT_READY 1, 7#256, by decide +kernel⟩

theorem witness_spdm_spdmUnsupportedRequest :
    ∃ (s : State) (code : BitVec 8),
    s.live = true ∧ s.on F.PCI_STAT_READY = true :=
  ⟨State.reset.wr F.PCI_STAT_READY 1, 0xe4#8, by decide +kernel⟩

theorem witness_spdm_keyless :
    ∃ (s : State),
    s.live = true ∧ s.on F.PCI_STAT_READY = true ∧ s.keyless = true :=
  ⟨(State.reset.wr F.PCI_STAT_READY 1).wr F.LCS_STATE 3, by decide +kernel⟩

theorem witness_spdm_notReady :
    ∃ (s : State),
    s.live = true ∧ s.on F.PCI_STAT_READY = false :=
  ⟨State.reset, by decide +kernel⟩

theorem witness_punty_extest :
    ∃ (s : State) (capture : BitVec 1412) (shift : BitVec 1412),
    s.spineOn = true :=
  ⟨State.reset, 5#1412, 9#1412, by decide +kernel⟩

theorem witness_punty_extestPulse :
    ∃ (s : State) (capture : BitVec 1412) (shift : BitVec 1412),
    s.spineOn = true :=
  ⟨State.reset, 5#1412, 9#1412, by decide +kernel⟩

theorem witness_punty_extestTrain :
    ∃ (s : State) (capture : BitVec 1412) (shift : BitVec 1412),
    s.spineOn = true :=
  ⟨State.reset, 5#1412, 9#1412, by decide +kernel⟩

theorem witness_punty_samplePreload :
    ∃ (s : State) (capture : BitVec 1412) (shift : BitVec 1412),
    s.spineOn = true :=
  ⟨State.reset, 5#1412, 9#1412, by decide +kernel⟩

theorem witness_punty_idcode :
    ∃ (s : State),
    s.spineOn = true :=
  ⟨State.reset, by decide +kernel⟩

theorem witness_punty_highz :
    ∃ (s : State),
    s.spineOn = true :=
  ⟨State.reset, by decide +kernel⟩

theorem witness_punty_clamp :
    ∃ (s : State),
    s.spineOn = true :=
  ⟨State.reset, by decide +kernel⟩

theorem witness_punty_bypass :
    ∃ (s : State),
    s.spineOn = true :=
  ⟨State.reset, by decide +kernel⟩

theorem witness_punty_testLogicReset :
    ∃ (s : State),
    s.spineOn = true :=
  ⟨State.reset, by decide +kernel⟩

theorem witness_punty_lcsCmd :
    ∃ (s : State) (v : BitVec 256),
    s.live = true :=
  ⟨State.reset, 0x200000041#256, by decide +kernel⟩

theorem witness_punty_lcsCmdCapture :
    ∃ (s : State),
    s.live = true :=
  ⟨State.reset.withJtag { State.reset.jtag with cpl := some 5 }, by decide +kernel⟩

theorem witness_punty_dbgMemRead :
    ∃ (s : State) (v : BitVec 64) (r : RegRow),
    s.live = true ∧ s.scopes % 4 / 2 = 1 ∧ v.toNat < 2 ^ 58 ∧ v.toNat / 2 ^ 32 % 4 = 0 ∧
        inDebug (v.toNat / 2 ^ 32) = false ∧ regRow? (v.toNat / 2 ^ 32) = some r ∧
        (isPairLo (v.toNat / 2 ^ 32) || isPairLo (v.toNat / 2 ^ 32 - 4) || r.counts) = false ∧
        stampRegOf (v.toNat / 2 ^ 32) = none ∧ v.toNat / 2 ^ 32 ≠ F.LCS_STAT_BSCAN.off ∧
        (regPart (v.toNat / 2 ^ 32) ≠ .evtRegs ∧ regPart (v.toNat / 2 ^ 32) ≠ .waitRegs) :=
  ⟨State.reset, 0x10800000000#64, ⟨"REL_CFG", 0x108, 0x0, 1, [⟨31, 27, .mbz, 0⟩, ⟨26, 24, .rw, 0⟩, ⟨23, 16, .rw,
      0x20⟩, ⟨15, 8, .mbz, 0⟩, ⟨7, 0, .rw, 2⟩]⟩, by decide +kernel⟩

theorem witness_punty_dbgMemCounterRead :
    ∃ (s : State) (v : BitVec 64) (r : RegRow),
    s.live = true ∧ s.scopes % 4 / 2 = 1 ∧ v.toNat < 2 ^ 58 ∧ v.toNat / 2 ^ 32 % 4 = 0 ∧
        inDebug (v.toNat / 2 ^ 32) = false ∧ regRow? (v.toNat / 2 ^ 32) = some r ∧ r.counts = true :=
  ⟨State.reset, 0x0c00000000#64, ⟨"ACCESS_ERR_CNT", 0xc, 0x0, 1, [⟨31, 0, .rc, 0⟩]⟩, by decide +kernel⟩

theorem witness_punty_dbgMemWrite :
    ∃ (s : State) (v : BitVec 64) (r : RegRow) (b : Block) (i : Nat) (rel : Nat),
    s.live = true ∧ s.scopes % 4 / 2 = 1 ∧ 2 ^ 63 ≤ v.toNat ∧ v.toNat / 2 ^ 32 % 2 ^ 26 % 4 = 0 ∧
        inDebug (v.toNat / 2 ^ 32 % 2 ^ 26) = false ∧ regRow? (v.toNat / 2 ^ 32 % 2 ^ 26) = some r ∧
        blockAt (v.toNat / 2 ^ 32 % 2 ^ 26) = some (b, i, rel) ∧ quietReg b i rel = true ∧
        r.breaksZero (v.toNat % 2 ^ 32) = false ∧ v.toNat / 2 ^ 32 % 2 ^ 26 ≠ F.LCS_STAT_BSCAN.off ∧
        (regPart (v.toNat / 2 ^ 32 % 2 ^ 26) ≠ .evtRegs ∧ regPart (v.toNat / 2 ^ 32 % 2 ^ 26) ≠ .waitRegs) :=
  ⟨State.reset, 0x8000010801200002#64, ⟨"REL_CFG", 0x108, 0x0, 1, [⟨31, 27, .mbz, 0⟩, ⟨26, 24, .rw, 0⟩, ⟨23, 16, .rw,
      0x20⟩, ⟨15, 8, .mbz, 0⟩, ⟨7, 0, .rw, 2⟩]⟩, .sys, 0, 0x108, by decide +kernel⟩

theorem witness_punty_dbgMemDenied :
    ∃ (s : State) (v : BitVec 64),
    s.live = true ∧ s.scopes % 4 / 2 = 0 :=
  ⟨State.reset.wr F.LCS_DBG_SCOPE_SCOPES 0, 0x0c00000000#64, by decide +kernel⟩

theorem witness_punty_fabRb :
    ∃ (s : State) (sel : BitVec 20),
    s.live = true ∧ s.scopes % 8 / 4 = 1 :=
  ⟨State.reset, 0x20001#20, by decide +kernel⟩

theorem witness_punty_fabRbDenied :
    ∃ (s : State) (sel : BitVec 20),
    s.live = true ∧ s.scopes % 8 / 4 = 0 :=
  ⟨State.reset.wr F.LCS_DBG_SCOPE_SCOPES 0, 0x20001#20, by decide +kernel⟩

end Sys2Proof.Tests
end

namespace Sys2Proof.Machine

/-! ### The frame of a command as a list of parts -/

/-- The mask that has the bit of each part of a list. -/
def partsMask (ps : List Part) : Nat := ps.foldr (fun p m => 2 ^ p.ctorIdx ||| m) 0

theorem Part.ctorIdx_injective : Function.Injective Part.ctorIdx := fun p q h => by
  rw [← Part.ofNat_ctorIdx p, ← Part.ofNat_ctorIdx q, h]

@[simp] theorem testBit_partsMask (ps : List Part) (p : Part) :
    (partsMask ps).testBit p.ctorIdx = decide (p ∈ ps) := by
  induction ps with
  | nil => simp [partsMask]
  | cons q ps ih =>
    have hq : (2 ^ q.ctorIdx).testBit p.ctorIdx = decide (p = q) := by
      rw [Nat.testBit_two_pow]
      exact decide_eq_decide.2 (eq_comm.trans Part.ctorIdx_injective.eq_iff)
    change (2 ^ q.ctorIdx ||| partsMask ps).testBit p.ctorIdx = _
    simp [Nat.testBit_or, hq, ih]

/-- A wider mask allows more. -/
theorem Leaves.within {m k : Nat} {s t : State} (h : Leaves m s t) (hm : m ||| k = k) : Leaves k s t :=
  (Leaves.refl k s).step h hm

/-- What stays within the mask of a list of parts keeps every other part. -/
theorem Leaves.keeps {ps : List Part} {s t : State} (h : Leaves (partsMask ps) s t) : Keeps ps s t :=
  fun p hp => h.same p (by simp [hp])

/-- Every command stays within the parts of its footprint: for each command, the mask of its meaning's own frame lemma lies within
that of the parts named. -/
theorem exec_leaves {c : Instr} {s t : State} (h : exec c s = .next t) : Leaves (partsMask (footprint c)) s t := by
  cases c <;> simp only [exec, footprint] at h ⊢
  case registerWrite => exact (execRegisterWrite_leaves _ _ h).within rfl
  case loCaptureRead => exact (execLoCaptureRead_leaves _ _ h).within rfl
  case counterSnapshotRead => exact (execCounterSnapshotRead_leaves _ _ h).within rfl
  case arrayDebugWindowAccess => exact (execArrayDebugWindowAccess_leaves _ _ h).within rfl
  case debugDmReadTimeout => exact (execDebugDmReadTimeout_leaves _ _ h).within rfl
  case remap => exact (execRemap_leaves _ _ _ h).within rfl
  case remapCopyDone => exact (execRemapCopyDone_leaves _ h).within rfl
  case verify => exact (execVerify_leaves _ _ _ h).within rfl
  case verifyPassEnd => exact (execVerifyPassEnd_leaves _ _ h).within rfl
  case dmClearEnd => exact (execDmClearEnd_leaves _ h).within rfl
  case stepNop => exact (execStepNop_leaves _ _ _ h).within rfl
  case eval => exact (execEval_leaves _ _ _ _ _ h).within rfl
  case evalEn => exact (execEvalEn_leaves _ _ _ _ _ h).within rfl
  case stepIn => exact (execStepIn_leaves _ _ _ h).within rfl
  case stepOut => exact (execStepOut_leaves _ _ _ _ _ h).within rfl
  case mreq => exact (execMreq_leaves _ _ _ _ _ h).within rfl
  case mdata => exact (execMdata_leaves _ _ _ h).within rfl
  case brk => exact (execBrk_leaves _ _ _ _ _ h).within rfl
  case invalidStepWord => exact (execInvalidStepWord_leaves _ _ _ _ h).within rfl
  case cycleBoundaryB0 => exact (execCycleBoundaryB0_leaves _ h).within rfl
  case foldCompare => exact (execFoldCompare_leaves _ h).within rfl
  case gobOutCommit => exact (execGobOutCommit_leaves _ h).within rfl
  case memoryCheck => exact (execMemoryCheck_leaves _ h).within rfl
  case stallEnd => exact (execStallEnd_leaves _ h).within rfl
  case stallBoundExpiry => exact (execStallBoundExpiry_leaves _ h).within rfl
  case specialOperandLatch => exact (execSpecialOperandLatch_leaves _ h).within rfl
  case windowFix => exact (execWindowFix_leaves _ h).within rfl
  case cycleEnd => exact (execCycleEnd_leaves _ h).within rfl
  case gobInDataWrite => exact (execGobInDataWrite_leaves _ _ _ h).within rfl
  case gobInClose => exact (execGobInClose_leaves _ _ h).within rfl
  case gafferNop => exact (execGafferNop_leaves _ h).within rfl
  case waitTrig => exact (execWaitTrig_leaves _ h).within rfl
  case waitEvt => exact (execWaitEvt_leaves _ h).within rfl
  case run => exact (execRun_leaves _ h).within rfl
  case selectWindow => exact (execSelectWindow_leaves _ h).within rfl
  case loop => exact (execLoop_leaves _ h).within rfl
  case endloop => exact (execEndloop_leaves _ h).within rfl
  case inject => exact (execInject_leaves _ h).within rfl
  case injectDeliveryEnd => exact (execInjectDeliveryEnd_leaves _ _ h).within rfl
  case commit => exact (execCommit_leaves _ h).within rfl
  case commitDrainEnd => exact (execCommitDrainEnd_leaves _ h).within rfl
  case xchg => exact (execXchg_leaves _ h).within rfl
  case signal => exact (execSignal_leaves _ h).within rfl
  case setStall => exact (execSetStall_leaves _ h).within rfl
  case mark => exact (execMark_leaves _ h).within rfl
  case jump => exact (execJump_leaves _ h).within rfl
  case halt => exact (execHalt_leaves _ h).within rfl
  case programError => exact (execProgramError_leaves _ _ h).within rfl
  case readLanding => exact (execReadLanding_leaves _ _ h).within rfl
  case writeAck => exact (execWriteAck_leaves _ _ h).within rfl
  case hbmRequest => exact (execHbmRequest_leaves _ _ h).within rfl
  case patrolScrub => exact (execPatrolScrub_leaves _ _ h).within rfl
  case hbmTempHigh => exact (execHbmTempHigh_leaves _ _ h).within rfl
  case hbmTraining => exact (execHbmTraining_leaves _ _ h).within rfl
  case hbmTrainingTimeout => exact (execHbmTrainingTimeout_leaves _ h).within rfl
  case hbmSelfRefreshEntry => exact (execHbmSelfRefreshEntry_leaves _ h).within rfl
  case ringDescriptorWrite => exact (execRingDescriptorWrite_leaves _ _ _ _ h).within rfl
  case encoderEdge => exact (execEncoderEdge_leaves _ _ h).within rfl
  case encZEdge => exact (execEncZEdge_leaves _ h).within rfl
  case arm => exact (execArm_leaves _ _ h).within rfl
  case cplLoad => exact (execCplLoad_leaves _ _ h).within rfl
  case triggerRelease => exact (execTriggerRelease_leaves h).within rfl
  case triggerPortStrobe => exact (execTriggerPortStrobe_leaves _ h).within rfl
  case hello => exact (execHello_leaves _ _ _ _ _ _ _ _ _ _ h).within rfl
  case dlyReq => exact (execDlyReq_leaves _ _ _ _ _ h).within rfl
  case dlyResp => exact (execDlyResp_leaves _ _ _ _ _ h).within rfl
  case elect => exact (execElect_leaves _ _ _ _ h).within rfl
  case epoch => exact (execEpoch_leaves _ _ _ _ _ _ _ h).within rfl
  case joinReq => exact (execJoinReq_leaves _ _ _ _ _ _ h).within rfl
  case joinAck => exact (execJoinAck_leaves _ _ _ h).within rfl
  case leave => exact (execLeave_leaves _ _ _ h).within rfl
  case heartbeat => exact (execHeartbeat_leaves _ _ _ h).within rfl
  case status => exact (execStatus_leaves _ _ _ _ _ _ h).within rfl
  case trigger => exact (execTrigger_leaves _ _ _ _ _ _ h).within rfl
  case far => exact (execFar_leaves _ _ _ _ _ _ h).within rfl
  case event => exact (execEvent_leaves _ _ _ h).within rfl
  case ack => exact (execAck_leaves _ _ _ _ h).within rfl
  case nack => exact (execNack_leaves _ _ _ _ h).within rfl
  case helloTimer => exact (execHelloTimer_leaves _ h).within rfl
  case heartbeatTimer => exact (execHeartbeatTimer_leaves h).within rfl
  case ackRetryTimer => exact (execAckRetryTimer_leaves _ h).within rfl
  case hopMeasureTimer => exact (execHopMeasureTimer_leaves _ _ h).within rfl
  case electQuietExpiry => exact (execElectQuietExpiry_leaves h).within rfl
  case heartbeatLoss => exact (execHeartbeatLoss_leaves h).within rfl
  case memberLoss => exact (execMemberLoss_leaves _ h).within rfl
  case epochActivation => exact (execEpochActivation_leaves h).within rfl
  case joinRetryTimer => exact (execJoinRetryTimer_leaves h).within rfl
  case ircBackoffExpiry => exact (execIrcBackoffExpiry_leaves _ h).within rfl
  case ircLinkUp => exact (execIrcLinkUp_leaves _ h).within rfl
  case ircLinkDown => exact (execIrcLinkDown_leaves _ h).within rfl
  case quarantineExpiry => exact (execQuarantineExpiry_leaves _ h).within rfl
  case quarClr => exact (execQuarClr_leaves _ _ _ h).within rfl
  case train => exact (execTrain_leaves _ _ _ h).within rfl
  case gthTrainDone => exact (execGthTrainDone_leaves _ _ h).within rfl
  case eyeTrack => exact (execEyeTrack_leaves _ _ _ _ h).within rfl
  case laneWord => exact (execLaneWord_leaves _ _ _ h).within rfl
  case pixelBusBeat => exact (execPixelBusBeat_leaves _ _ h).within rfl
  case mrvEnWrite => exact (execMrvEnWrite_leaves _ _ _ h).within rfl
  case coefWrite => exact (execCoefWrite_leaves _ _ _ _ _ h).within rfl
  case endOfRowMark => exact (execEndOfRowMark_leaves _ h).within rfl
  case candidateClose => exact (execCandidateClose_leaves _ h).within rfl
  case patchComplete => exact (execPatchComplete_leaves _ h).within rfl
  case gobSwapNotice => exact (execGobSwapNotice_leaves _ h).within rfl
  case mergeNotice => exact (execMergeNotice_leaves _ h).within rfl
  case globalLineSwitch => exact (execGlobalLineSwitch_leaves _ _ _ h).within rfl
  case clockStuck => exact (execClockStuck_leaves _ h).within rfl
  case vccoChange => exact (execVccoChange_leaves _ _ h).within rfl
  case windowPortRequest => exact (execWindowPortRequest_leaves _ _ h).within rfl
  case windowPortAnswer => exact (execWindowPortAnswer_leaves _ _ h).within rfl
  case windowTimeout => exact (execWindowTimeout_leaves _ h).within rfl
  case nocCtrlSwitch => exact (execNocCtrlSwitch_leaves _ _ h).within rfl
  case nocBankSwitch => exact (execNocBankSwitch_leaves h).within rfl
  case nocPacket => exact (execNocPacket_leaves _ _ _ _ _ h).within rfl
  case gatewayRequest => exact (execGatewayRequest_leaves _ _ _ h).within rfl
  case dmaTailWrite => exact (execDmaTailWrite_leaves _ _ _ h).within rfl
  case descriptorFetch => exact (execDescriptorFetch_leaves _ _ _ h).within rfl
  case dmaDescriptorStart => exact (execDmaDescriptorStart_leaves _ h).within rfl
  case dmaDescriptorComplete => exact (execDmaDescriptorComplete_leaves _ _ _ h).within rfl
  case dmaAbort => exact (execDmaAbort_leaves _ _ _ h).within rfl
  case dmaEnWrite => exact (execDmaEnWrite_leaves _ _ _ h).within rfl
  case dmaCplTailWrite => exact (execDmaCplTailWrite_leaves _ _ _ h).within rfl
  case pciePerstDeassert => exact (execPciePerstDeassert_leaves h).within rfl
  case pcieReady => exact (execPcieReady_leaves _ _ h).within rfl
  case fundamentalReset => exact (execFundamentalReset_leaves h).within rfl
  case hotReset => exact (execHotReset_leaves h).within rfl
  case pcieLinkDown => exact (execPcieLinkDown_leaves h).within rfl
  case functionLevelReset => exact (execFunctionLevelReset_leaves h).within rfl
  case configurationRequest => exact (execConfigurationRequest_leaves _ h).within rfl
  case bar0Request => exact (execBar0Request_leaves _ _ _ _ h).within rfl
  case bar2Request => exact (execBar2Request_leaves _ _ _ _ _ h).within rfl
  case bar4Request => exact (execBar4Request_leaves _ _ _ _ h).within rfl
  case unsupportedRequest => exact (execUnsupportedRequest_leaves _ h).within rfl
  case hostCompletion => exact (execHostCompletion_leaves _ _ h).within rfl
  case completionTimeout => exact (execCompletionTimeout_leaves _ h).within rfl
  case msixUnmask => exact (execMsixUnmask_leaves _ h).within rfl
  case ethFrameReceived => exact (execEthFrameReceived_leaves _ _ h).within rfl
  case ethLinkChange => exact (execEthLinkChange_leaves _ _ h).within rfl
  case tsIdRead => exact (execTsIdRead_leaves _ _ h).within rfl
  case ptpOfsNsWrite => exact (execPtpOfsNsWrite_leaves _ _ _ h).within rfl
  case mbxTailWrite => exact (execMbxTailWrite_leaves _ _ h).within rfl
  case mbxCplTailWrite => exact (execMbxCplTailWrite_leaves _ _ h).within rfl
  case badOpcode => exact (execBadOpcode_leaves h).within rfl
  case evtPendWrite => exact (execEvtPendWrite_leaves _ _ _ _ h).within rfl
  case loadImage => exact (execLoadImage_leaves h).within rfl
  case fullLoadComplete => exact (execFullLoadComplete_leaves _ _ _ h).within rfl
  case hostWaitExpiry => exact (execHostWaitExpiry_leaves h).within rfl
  case stageParison => exact (execStageParison_leaves h).within rfl
  case parisonStageComplete => exact (execParisonStageComplete_leaves _ h).within rfl
  case commitParison => exact (execCommitParison_leaves h).within rfl
  case parisonCommitComplete => exact (execParisonCommitComplete_leaves _ h).within rfl
  case regionStart => exact (execRegionStart_leaves h).within rfl
  case regionStop => exact (execRegionStop_leaves h).within rfl
  case regionRestart => exact (execRegionRestart_leaves h).within rfl
  case setPerfLevel => exact (execSetPerfLevel_leaves h).within rfl
  case perfSwitchWindow => exact (execPerfSwitchWindow_leaves h).within rfl
  case supplySettled => exact (execSupplySettled_leaves _ h).within rfl
  case supplySettleTimeout => exact (execSupplySettleTimeout_leaves _ h).within rfl
  case pmbAlert => exact (execPmbAlert_leaves h).within rfl
  case bistRun => exact (execBistRun_leaves h).within rfl
  case shutdownOrderly => exact (execShutdownOrderly_leaves h).within rfl
  case lcTransition => exact (execLcTransition_leaves h).within rfl
  case debugAuthChallenge => exact (execDebugAuthChallenge_leaves h).within rfl
  case debugAuthResponse => exact (execDebugAuthResponse_leaves h).within rfl
  case debugAuthRelease => exact (execDebugAuthRelease_leaves h).within rfl
  case attest => exact (execAttest_leaves h).within rfl
  case storeCommit => exact (execStoreCommit_leaves h).within rfl
  case stoLineReady => exact (execStoLineReady_leaves _ h).within rfl
  case lineWaitExpiry => exact (execLineWaitExpiry_leaves h).within rfl
  case stoCommitFinish => exact (execStoCommitFinish_leaves h).within rfl
  case storeRead => exact (execStoreRead_leaves h).within rfl
  case storeReadComplete => exact (execStoreReadComplete_leaves _ _ h).within rfl
  case stoEnWrite => exact (execStoEnWrite_leaves _ _ h).within rfl
  case stoReleaseWrite => exact (execStoReleaseWrite_leaves _ _ h).within rfl
  case stoAbort => exact (execStoAbort_leaves _ _ h).within rfl
  case grownBadBlock => exact (execGrownBadBlock_leaves _ _ _ _ h).within rfl
  case cfgProgWriteSlot => exact (execCfgProgWriteSlot_leaves _ _ h).within rfl
  case cfgProgEraseSlot => exact (execCfgProgEraseSlot_leaves _ _ h).within rfl
  case cfgProgWriteBootRecord => exact (execCfgProgWriteBootRecord_leaves _ _ h).within rfl
  case cfgProgReadSlot => exact (execCfgProgReadSlot_leaves _ _ h).within rfl
  case cfgProgEraseParison => exact (execCfgProgEraseParison_leaves _ _ h).within rfl
  case cfgProgDone => exact (execCfgProgDone_leaves _ _ h).within rfl
  case fabricScrubPass => exact (execFabricScrubPass_leaves _ h).within rfl
  case windowScrubPass => exact (execWindowScrubPass_leaves h).within rfl
  case storePatrol => exact (execStorePatrol_leaves _ h).within rfl
  case coldStart => exact (execColdStart_leaves _ h).within rfl
  case warmStart => exact (execWarmStart_leaves h).within rfl
  case powerLoss => exact (execPowerLoss_leaves h).within rfl
  case pllTimeoutExpiry => exact (execPllTimeoutExpiry_leaves h).within rfl
  case releaseBegin => exact (execReleaseBegin_leaves h).within rfl
  case releaseGapExpiry => exact (execReleaseGapExpiry_leaves h).within rfl
  case confirm => exact (execConfirm_leaves _ _ h).within rfl
  case autoConfirm => exact (execAutoConfirm_leaves h).within rfl
  case pwrVoteWrite => exact (execPwrVoteWrite_leaves _ _ _ h).within rfl
  case powerDownDrainEnd => exact (execPowerDownDrainEnd_leaves _ h).within rfl
  case powerGatingComplete => exact (execPowerGatingComplete_leaves _ h).within rfl
  case sectorWakeComplete => exact (execSectorWakeComplete_leaves _ _ h).within rfl
  case wakeHoldExpiry => exact (execWakeHoldExpiry_leaves _ h).within rfl
  case s4Req => exact (execS4Req_leaves _ _ h).within rfl
  case spineCut => exact (execSpineCut_leaves h).within rfl
  case wakeN => exact (execWakeN_leaves h).within rfl
  case encWake => exact (execEncWake_leaves h).within rfl
  case perstWake => exact (execPerstWake_leaves h).within rfl
  case timerWake => exact (execTimerWake_leaves h).within rfl
  case s4Wake => exact (execS4Wake_leaves h).within rfl
  case xtalGood => exact (execXtalGood_leaves h).within rfl
  case xtalLoss => exact (execXtalLoss_leaves h).within rfl
  case pwrSaveOfsWrite => exact (execPwrSaveOfsWrite_leaves _ _ h).within rfl
  case apply => exact (execApply_leaves _ _ h).within rfl
  case pllLock => exact (execPllLock_leaves _ h).within rfl
  case pllUnlock => exact (execPllUnlock_leaves _ h).within rfl
  case faultOccurrence => exact (execFaultOccurrence_leaves _ _ _ h).within rfl
  case f1ResetAssert => exact (execF1ResetAssert_leaves h).within rfl
  case brokenWire => exact (execBrokenWire_leaves _ h).within rfl
  case pairTest => exact (execPairTest_leaves h).within rfl
  case pairTestTimeout => exact (execPairTestTimeout_leaves _ h).within rfl
  case mcWatchdog => exact (execMcWatchdog_leaves h).within rfl
  case lcFaultPulseEnd => exact (execLcFaultPulseEnd_leaves _ h).within rfl
  case periodicSlice => exact (execPeriodicSlice_leaves h).within rfl
  case idleGapScan => exact (execIdleGapScan_leaves _ _ h).within rfl
  case grantExpiry => exact (execGrantExpiry_leaves h).within rfl
  case lockoutExpiry => exact (execLockoutExpiry_leaves h).within rfl
  case lcsDbgRelease => exact (execLcsDbgRelease_leaves _ _ h).within rfl
  case getVersion => exact (execGetVersion_leaves h).within rfl
  case getCapabilities => exact (execGetCapabilities_leaves h).within rfl
  case negotiateAlgorithms => exact (execNegotiateAlgorithms_leaves h).within rfl
  case getDigests => exact (execGetDigests_leaves h).within rfl
  case getCertificate => exact (execGetCertificate_leaves _ _ h).within rfl
  case challenge => exact (execChallenge_leaves _ h).within rfl
  case getMeasurements => exact (execGetMeasurements_leaves _ h).within rfl
  case spdmUnsupportedRequest => exact (execSpdmUnsupportedRequest_leaves _ h).within rfl
  case extest => exact (execExtest_leaves _ _ h).within rfl
  case idcode => exact (execIdcode_leaves h).within rfl
  case samplePreload => exact (execSamplePreload_leaves _ _ h).within rfl
  case highz => exact (execHighz_leaves h).within rfl
  case clamp => exact (execClamp_leaves h).within rfl
  case extestPulse => exact (execExtestPulse_leaves _ _ h).within rfl
  case extestTrain => exact (execExtestTrain_leaves _ _ h).within rfl
  case lcsCmd => exact (execLcsCmd_leaves _ h).within rfl
  case dbgMem => exact (execDbgMem_leaves _ h).within rfl
  case fabRb => exact (execFabRb_leaves _ h).within rfl
  case bypass => exact (execBypass_leaves h).within rfl
  case testLogicReset => exact (execTestLogicReset_leaves h).within rfl
  case bistRunComplete => exact (execBistRunComplete_leaves _ h).within rfl
  case shutdownOrderlyComplete => exact (execShutdownOrderlyComplete_leaves _ h).within rfl
  case lcTransitionComplete => exact (execLcTransitionComplete_leaves _ h).within rfl
  case hbmSelfRefreshExit => exact (execHbmSelfRefreshExit_leaves _ h).within rfl
  case pcieLinkUp => exact (execPcieLinkUp_leaves _ _ h).within rfl
  case sliceEnd => exact (execSliceEnd_leaves _ h).within rfl
  case newClockArrival => exact (execNewClockArrival_leaves _ h).within rfl
  case supplyPowerGoodLoss => exact (execSupplyPowerGoodLoss_leaves h).within rfl
  case seqPgRise => exact (execSeqPgRise_leaves h).within rfl
  case throttleRelease => exact (execThrottleRelease_leaves h).within rfl

/-- Settles O6: the frame of each command, by the frame lemma of its meaning. -/
theorem footprintKept : Obligations.FootprintKept := by
  unfold Obligations.FootprintKept
  exact fun _ _ _ h => (exec_leaves h).keeps

end Sys2Proof.Machine

namespace Sys2Proof.Machine

/-! ### Commands on a live device and over an open path -/

theorem act_live {s : State} (hl : s.live = true) (f : State → State) : act s f = .next (s.endClock (f s)) := by
  simp [act, hl]

theorem onPath_open {s : State} {p : Path} (hl : s.live = true) (hp : s.pathOpen p = true) (f : State → State) :
    onPath p s f = .next (s.endClock (f s)) := by
  simp [onPath, act_live hl, hp]

theorem writeAt_open {s : State} {p : Path} (hl : s.live = true) (hp : s.pathOpen p = true) (off : Nat) (v : BitVec 32) :
    writeAt p off v s = .next (s.endClock (s.write32 p off v.toNat)) :=
  onPath_open hl hp _

@[simp] theorem State.endClock_self (s : State) : s.endClock s = s := rfl
@[simp] theorem State.endClock_reg (s t : State) (o : Nat) : (s.endClock t).reg o = t.reg o := rfl
@[simp] theorem State.endClock_rd (s t : State) (f : Fld) : (s.endClock t).rd f = t.rd f := rfl
@[simp] theorem State.endClock_mbx (s t : State) : (s.endClock t).mbx = t.mbx := rfl
@[simp] theorem State.endClock_shadow (s t : State) : (s.endClock t).shadow = t.shadow := rfl
@[simp] theorem State.endClock_jtag (s t : State) : (s.endClock t).jtag = t.jtag := rfl
@[simp] theorem State.endClock_out (s t : State) : (s.endClock t).out = t.out := rfl

/-! ### Where registers lie -/

/-- Every block of the register map lies below the array debug window (R24). -/
theorem blockAt_lt {off : Nat} {x : Block × Nat × Nat} (h : blockAt off = some x) : off < 0x1000000 := by
  have below : ∀ b ∈ blockMap, b.2.1 + 0x10000 * b.2.2 ≤ 0x1000000 := by decide
  obtain ⟨b, hb, -⟩ := Option.map_eq_some_iff.1 h
  have hin := List.find?_some hb
  have hle := below b (List.mem_of_find?_eq_some hb)
  simp only [Bool.and_eq_true, decide_eq_true_eq] at hin
  omega

theorem inDebug_of_blockAt {off : Nat} {x : Block × Nat × Nat} (h : blockAt off = some x) : inDebug off = false := by
  have := blockAt_lt h
  simp only [inDebug, Bool.and_eq_false_iff, decide_eq_false_iff_not]
  omega

theorem inDebug_of_regRow? {off : Nat} {r : RegRow} (h : regRow? off = some r) : inDebug off = false := by
  cases hb : blockAt off with
  | none => simp [regRow?, hb] at h
  | some x => exact inDebug_of_blockAt hb

/-! ### A read of one register -/

theorem State.ctrlRead_register (s : State) (p : Path) {off : Nat} {r : RegRow} (ha : off % 4 = 0)
    (hr : regRow? off = some r) :
    s.ctrlRead p 4 off = (s.readReg p off r).1.answerRead p off (s.readReg p off r).2 false := by
  simp [State.ctrlRead, State.dmWaits, State.read32, ha, inDebug_of_regRow? hr, hr]

/-- The _HI half of a pair is read through the capture shadow (R7). -/
theorem State.readReg_hi (s : State) (p : Path) {off : Nat} (r : RegRow) (hlo : isPairLo (off - 4) = true)
    (hno : isPairLo off = false) : s.readReg p off r = s.readHi p off := by
  simp [State.readReg, hlo, hno]

theorem State.readHi_captured {s : State} {p : Path} {off : Nat} {v : Word}
    (h : Tab.get (fun _ => none) s.shadow (shadowKey p off) = some v) :
    s.readHi p off = (s.setShadow (shadowKey p off) none, v.toNat) := by
  simp [State.readHi, h]

theorem State.readHi_live {s : State} {p : Path} {off : Nat}
    (h : Tab.get (fun _ => none) s.shadow (shadowKey p off) = none) :
    s.readHi p off = (s, (s.peek off).toNat) := by
  simp [State.readHi, h]

@[simp] theorem State.answerRead_shadow (s : State) (p : Path) (off val : Nat) (err : Bool) :
    (s.answerRead p off val err).shadow = s.shadow := by
  cases p <;> rfl

/-- The answer of a read reaches its path (R432, R442). -/
theorem answers_answerRead {s u : State} (h : u.out = s.out) (p : Path) (off val : Nat) (err : Bool) :
    Answers s (s.endClock (u.answerRead p off val err)) p off val err := by
  cases p with
  | punty => rfl
  | core => exact congrArg (· ++ [_]) h
  | pcie => exact congrArg (· ++ [_]) h

/-- An answered read changes what it answers on and what its side effect changed. -/
theorem keeps_answerRead {ps : List Part} {s u : State} (h : Leaves (partsMask ps) s u)
    (hm : 0x11000000000000000000 ||| partsMask ps = partsMask ps) (p : Path) (off val : Nat) (err : Bool) :
    Keeps ps s (s.endClock (u.answerRead p off val err)) :=
  (State.endClock_leaves (State.answerRead_leaves h hm p off val err)).keeps

theorem exec_loCaptureRead {s : State} {p : Path} (hl : s.live = true) (hp : s.pathOpen p = true) (off : BitVec 26) :
    exec (.loCaptureRead p off) s = .next (s.endClock (s.ctrlRead p 4 off.toNat)) := by
  simp only [exec, execLoCaptureRead, onPath_open hl hp]

/-- Settles O19: a read of _HI goes through the shadow of its path, in both of its cases. -/
theorem pairReadsRule : Obligations.PairReadsRule := by
  unfold Obligations.PairReadsRule
  refine ⟨fun s p off v hl hp ha hlo hno hr hs => ?captured, fun s p off hl hp ha hlo hno hr hs => ?live⟩
  all_goals
    obtain ⟨r, hr⟩ := Option.isSome_iff_exists.1 hr
    have hread := s.ctrlRead_register p ha hr
    rw [s.readReg_hi p r hlo hno] at hread
    refine ⟨_, exec_loCaptureRead hl hp off, ?_⟩
  case captured =>
    rw [hread, State.readHi_captured hs]
    refine ⟨answers_answerRead rfl .., ?_, fun k hk => ?_, keeps_answerRead ?_ (by decide) _ _ _ _⟩
    · simp [State.setShadow]
    · simpa [State.setShadow] using Tab.get_set_ne _ _ none hk
    · exact State.setShadow_leaves (.refl _ _) (by decide) _ _
  case live =>
    rw [hread, State.readHi_live hs]
    exact ⟨answers_answerRead rfl .., keeps_answerRead (.refl _ _) (by decide) _ _ _ _⟩

end Sys2Proof.Machine

namespace Sys2Proof.Machine

/-! ### A write of a marver register lets the pixels that have left the FIFO in -/

theorem exec_registerWrite {s : State} (a : Access) (hl : s.live = true) (hp : s.pathOpen a.path = true) (v : BitVec 64) :
    exec (.registerWrite a v) s = .next (s.endClock (s.ctrlWrite a.path a.width a.off.toNat v.toNat)) := by
  simp only [exec, execRegisterWrite, onPath_open hl hp]

/-- 1.6 ns after a pixel of value 7 reached the empty FIFO of marver unit 0: the unit has taken it by now (R195), and nothing has
moved it on yet. -/
def pixelTaken : State := (State.reset.setMu 0 { Marver.init with level := 25, fifo := [(0, 7)] }).wr64 0x80030 16

/-- The row of MRV[m].CORR in the register map. -/
def mrvCorrRow : RegRow := ⟨"CORR", 0x10, 0x0, 1, [⟨31, 1, .mbz, 0⟩, ⟨0, 0, .rw, 0⟩]⟩

/-- Refutes O21 in its first clause, which lets a write of a register that sets nothing going change no more than registers: a
write of MRV[0].CORR first moves a pixel that the unit has taken out of its FIFO and into its row, with the correction that was in
force (R198), so what the unit holds beside its registers changes. -/
theorem not_registerAccess : ¬ Obligations.RegisterAccess := by
  unfold Obligations.RegisterAccess
  rintro ⟨registerWrite, -⟩
  obtain ⟨u, hu, -, -, -, hregs⟩ := registerWrite pixelTaken ⟨.core, 4, 0xc80010#26⟩ 1#64 mrvCorrRow .mrv 0 0x10
    (by decide +kernel) rfl rfl (by decide) (by decide) (by decide +kernel) (by decide +kernel) (by decide) (by decide)
  rw [exec_registerWrite _ (by decide +kernel) rfl] at hu
  have hkept : (u.mu 0).fifo = [(0, 7)] := by
    rw [hregs]
    exact (by decide +kernel : (pixelTaken.mu 0).fifo = [(0, 7)])
  have htaken : (u.mu 0).fifo = [] := by
    rw [← answer_next hu]
    decide +kernel
  simp [hkept] at htaken

end Sys2Proof.Machine

namespace Sys2Proof.Machine

/-! ### Registers and fields -/

theorem Fld.of_lt (f : Fld) (w : Word) : f.of w < 2 ^ (f.hi - f.lo + 1) := Nat.mod_lt _ (Nat.two_pow_pos _)

theorem State.rd_lt (s : State) (f : Fld) : s.rd f < 2 ^ (f.hi - f.lo + 1) := f.of_lt _

@[simp] theorem State.withMbx_rd (s : State) (x : Mailbox) (f : Fld) : (s.withMbx x).rd f = s.rd f := rfl

theorem Leaves.on {m : Nat} {s t : State} (h : Leaves m s t) {f : Fld} {p : Part} (hp : regPart f.off = p)
    (hr : p.ctorIdx < 23) (hm : m.testBit p.ctorIdx = false) : t.on f = s.on f := by
  simp only [State.on, h.rd hp hr hm]

/-- A register outside the mask is as it was. -/
theorem Leaves.reg {m : Nat} {s t : State} (h : Leaves m s t) {off : Nat}
    (hm : m.testBit (regPart off).ctorIdx = false) : t.reg off = s.reg off := by
  have hr := regPart_bit off
  have hs := h.same _ hm
  cases hp : regPart off <;> rw [hp] at hr hs <;> first | exact hs off hp | exact absurd hr (by decide)

theorem State.reg_wr_ne (s : State) {f : Fld} {o : Nat} (v : Nat) (h : o ≠ f.off) : (s.wr f v).reg o = s.reg o :=
  s.reg_setReg_ne _ h

/-- Writing words leaves the registers below and above them. -/
theorem State.reg_setWords_out (s : State) {off o : Nat} (l : List Nat) (h : o < off ∨ off + 4 * l.length ≤ o) :
    (s.setWords off l).reg o = s.reg o := by
  induction l generalizing s off with
  | nil => rfl
  | cons w l ih =>
    simp only [List.length_cons] at h
    rw [State.setWords, ih _ (by omega), State.reg_setReg_ne _ _ (by omega)]

/-- Words are written upward, one to a register. -/
theorem State.reg_setWords (s : State) (off : Nat) {l : List Nat} {i : Nat} (h : i < l.length) :
    (s.setWords off l).reg (off + 4 * i) = BitVec.ofNat 32 l[i] := by
  induction l generalizing s off i with
  | nil => simp at h
  | cons w l ih =>
    cases i with
    | zero => rw [State.setWords, State.reg_setWords_out _ _ (by omega)]; exact State.reg_setReg _ _ _
    | succ i =>
      have := ih (s.setReg off (BitVec.ofNat 32 w)) (off + 4) (by simpa using h)
      rw [show off + 4 * (i + 1) = off + 4 + 4 * i by omega]
      exact this

/-! ### A write of one register -/

theorem State.write32_register (s : State) (p : Path) {off : Nat} (v : Nat) {r : RegRow} {b : Block} {i rel : Nat}
    (hr : regRow? off = some r) (hb : blockAt off = some (b, i, rel)) :
    s.write32 p off v = ((s.columnsAs b i).storeReg p off v b i rel r).written b i rel (s.reg off).toNat v := by
  simp [State.write32, inDebug_of_blockAt hb, hr, hb]

/-! ### The mailbox's command queue (R279) -/

@[simp] theorem State.handOver_reg (s : State) (c : MbxCmd) (o : Nat) : (s.handOver c).reg o = s.reg o := by
  unfold State.handOver
  split
  · rfl
  · split
    · rfl
    · split <;> rfl

@[simp] theorem State.handOver_rd (s : State) (c : MbxCmd) (f : Fld) : (s.handOver c).rd f = s.rd f :=
  congrArg f.of (s.handOver_reg c f.off)

@[simp] theorem State.handOver_on (s : State) (c : MbxCmd) (f : Fld) : (s.handOver c).on f = s.on f :=
  congrArg (· != 0) (s.handOver_rd c f)

theorem mbxHead_ok : F.PCI_MBX_HEAD_HEAD.ok := ⟨by decide, by decide⟩

/-- While the core is not ready the queue stays. -/
theorem State.takeQueue_unready {s : State} (h : s.on F.PCI_MBX_STAT_READY = false) (fuel : Nat) :
    s.takeQueue fuel = s := by
  cases fuel <;> simp [State.takeQueue, h]

/-- Taking commands writes MBX_HEAD alone. -/
theorem State.rd_takeQueue {f : Fld} (hf : f.ok) (ha : F.PCI_MBX_HEAD_HEAD.apart f) (s : State) (fuel : Nat) :
    (s.takeQueue fuel).rd f = s.rd f := by
  induction fuel generalizing s with
  | zero => rfl
  | succ fuel ih =>
    unfold State.takeQueue
    dsimp only
    split
    · rfl
    · rw [ih, State.rd_wr_apart _ _ _ _ mbxHead_ok hf ha, State.handOver_rd]

/-- A ready core takes every command that waits, so MBX_HEAD reaches MBX_TAIL. -/
theorem State.head_takeQueue {s : State} {fuel : Nat} (hr : s.on F.PCI_MBX_STAT_READY = true)
    (hn : (s.rd F.PCI_MBX_TAIL_TAIL + 128 - s.rd F.PCI_MBX_HEAD_HEAD) % 128 ≤ fuel) :
    (s.takeQueue fuel).rd F.PCI_MBX_HEAD_HEAD = s.rd F.PCI_MBX_TAIL_TAIL := by
  have hh : s.rd F.PCI_MBX_HEAD_HEAD < 128 := s.rd_lt _
  have ht : s.rd F.PCI_MBX_TAIL_TAIL < 128 := s.rd_lt _
  induction fuel generalizing s with
  | zero =>
    change s.rd F.PCI_MBX_HEAD_HEAD = _
    omega
  | succ fuel ih =>
    unfold State.takeQueue
    by_cases he : s.rd F.PCI_MBX_HEAD_HEAD = s.rd F.PCI_MBX_TAIL_TAIL
    · simp [he]
    · simp only [he, hr, decide_false, Bool.not_true, Bool.or_self, Bool.false_eq_true, if_false]
      generalize hc : s.handOver (s.queueEntry (s.rd F.PCI_MBX_HEAD_HEAD % 64)) = c
      have kept : ∀ f : Fld, c.rd f = s.rd f := fun f => hc ▸ s.handOver_rd _ f
      have hhead := c.rd_wr F.PCI_MBX_HEAD_HEAD (s.rd F.PCI_MBX_HEAD_HEAD + 1) mbxHead_ok
      have htail : (c.wr F.PCI_MBX_HEAD_HEAD (s.rd F.PCI_MBX_HEAD_HEAD + 1)).rd F.PCI_MBX_TAIL_TAIL =
          s.rd F.PCI_MBX_TAIL_TAIL := by
        rw [State.rd_wr_apart _ _ _ _ mbxHead_ok ⟨by decide, by decide⟩ (.inl (by decide)), kept]
      have hready : (c.wr F.PCI_MBX_HEAD_HEAD (s.rd F.PCI_MBX_HEAD_HEAD + 1)).on F.PCI_MBX_STAT_READY = true := by
        rw [State.on, State.rd_wr_apart _ _ _ _ mbxHead_ok ⟨by decide, by decide⟩ (.inl (by decide)), kept]
        exact hr
      change _ = _ % 128 at hhead
      rw [← htail]
      exact ih hready (by omega) (State.rd_lt _ _) (State.rd_lt _ _)

theorem State.mbxTail_fits {s : State} {v : Nat} (h : (v % 128 + 128 - s.rd F.PCI_MBX_HEAD_HEAD) % 128 ≤ 64) :
    s.mbxTail v = (s.wr F.PCI_MBX_TAIL_TAIL v).takeQueue 64 := by
  rw [State.mbxTail, if_neg (by omega)]

theorem State.mbxTail_overflows {s : State} {v : Nat} (h : 64 < (v % 128 + 128 - s.rd F.PCI_MBX_HEAD_HEAD) % 128) :
    s.mbxTail v = (s.wr F.PCI_MBX_STAT_OVF 1).raise Ev.PCI_MBX_ERR := by
  rw [State.mbxTail, if_pos h]

/-- The row of MBX_TAIL in the register map. -/
def mbxTailRow : RegRow := ⟨"MBX_TAIL", 0x8, 0x0, 1, [⟨31, 7, .mbz, 0⟩, ⟨6, 0, .rw, 0⟩]⟩

/-- A write of MBX_TAIL leaves the traces of R9 and then moves the tail. -/
theorem State.write32_mbxTail (s : State) (p : Path) (v : Nat) :
    ∃ x, Leaves 0x10001990080000002011 s x ∧ s.write32 p 0xf00008 v = x.mbxTail v := by
  have hr : regRow? 0xf00008 = some mbxTailRow := by decide +kernel
  have hb : blockAt 0xf00008 = some (.pci, 0, 8) := by decide +kernel
  refine ⟨_, State.writeTraces_leaves (.refl _ s) (by decide) p 0xf00008 v .pci 0 mbxTailRow, ?_⟩
  rw [s.write32_register p v hr hb]
  simp [State.columnsAs, State.storeReg, State.putReg, State.written]

end Sys2Proof.Machine

namespace Sys2Proof.Machine

/-! ### Writes of MBX_TAIL and MBX_CPL_TAIL -/

theorem exec_mbxTailWrite {s : State} {p : Path} (hl : s.live = true) (hp : s.pathOpen p = true) (v : BitVec 32) :
    exec (.mbxTailWrite p v) s = .next (s.endClock (s.write32 p 0xf00008 v.toNat)) :=
  writeAt_open hl hp _ v

theorem exec_mbxCplTailWrite {s : State} {p : Path} (hl : s.live = true) (hp : s.pathOpen p = true) (v : BitVec 32) :
    exec (.mbxCplTailWrite p v) s = .next (s.endClock (s.write32 p 0xf00014 v.toNat)) :=
  writeAt_open hl hp _ v

theorem State.rd_wr_mbxTail (s : State) (v : Nat) : (s.wr F.PCI_MBX_TAIL_TAIL v).rd F.PCI_MBX_TAIL_TAIL = v % 128 :=
  s.rd_wr _ v ⟨by decide, by decide⟩

/-- MBX_TAIL shares its register with no other field. -/
theorem State.rd_wr_mbxTail_ne (s : State) (v : Nat) {f : Fld} (h : f.off ≠ 0xf00008) :
    (s.wr F.PCI_MBX_TAIL_TAIL v).rd f = s.rd f :=
  s.rd_setReg_ne _ f h

/-- A write of MBX_TAIL that leaves at most 64 commands waiting stores, and a ready core takes them all (R279). -/
theorem State.write32_mbxTail_fits {s : State} {p : Path} {v : Nat}
    (h : (v % 128 + 128 - s.rd F.PCI_MBX_HEAD_HEAD) % 128 ≤ 64) :
    (s.write32 p 0xf00008 v).rd F.PCI_MBX_TAIL_TAIL = v % 128 ∧
      (s.on F.PCI_MBX_STAT_READY = true → (s.write32 p 0xf00008 v).rd F.PCI_MBX_HEAD_HEAD = v % 128) ∧
      (s.on F.PCI_MBX_STAT_READY = false → (s.write32 p 0xf00008 v).rd F.PCI_MBX_HEAD_HEAD = s.rd F.PCI_MBX_HEAD_HEAD ∧
        (s.write32 p 0xf00008 v).mbx = s.mbx) := by
  obtain ⟨x, hx, hw⟩ := s.write32_mbxTail p v
  have hhead := hx.rd F.PCI_MBX_HEAD_HEAD_part (by decide) (by decide)
  have hmbx : x.mbx = s.mbx := hx.same .mbx (by decide)
  rw [hw, State.mbxTail_fits (by rw [hhead]; exact h), ← hx.on F.PCI_MBX_STAT_READY_part (by decide) (by decide)]
  have hready : (x.wr F.PCI_MBX_TAIL_TAIL v).on F.PCI_MBX_STAT_READY = x.on F.PCI_MBX_STAT_READY :=
    congrArg (· != 0) (x.rd_wr_mbxTail_ne v (by decide))
  have hhead' : (x.wr F.PCI_MBX_TAIL_TAIL v).rd F.PCI_MBX_HEAD_HEAD = s.rd F.PCI_MBX_HEAD_HEAD :=
    (x.rd_wr_mbxTail_ne v (by decide)).trans hhead
  refine ⟨?_, fun hr => ?_, fun hr => ?_⟩
  · rw [State.rd_takeQueue ⟨by decide, by decide⟩ (.inl (by decide)), State.rd_wr_mbxTail]
  · rw [State.head_takeQueue (hready.trans hr) (by rw [State.rd_wr_mbxTail, hhead']; exact h), State.rd_wr_mbxTail]
  · rw [State.takeQueue_unready (hready.trans hr)]
    exact ⟨hhead', hmbx⟩

/-- A write of MBX_TAIL that would leave more than 64 commands waiting is ignored, recorded and raised (R279). -/
theorem State.write32_mbxTail_overflows {s : State} {p : Path} {v : Nat}
    (h : 64 < (v % 128 + 128 - s.rd F.PCI_MBX_HEAD_HEAD) % 128) :
    (s.write32 p 0xf00008 v).rd F.PCI_MBX_TAIL_TAIL = s.rd F.PCI_MBX_TAIL_TAIL ∧
      (s.write32 p 0xf00008 v).rd F.PCI_MBX_STAT_OVF = 1 ∧
      Pends (s.write32 p 0xf00008 v) Ev.PCI_MBX_ERR ∧
      (s.write32 p 0xf00008 v).mbx = s.mbx := by
  obtain ⟨x, hx, hw⟩ := s.write32_mbxTail p v
  have hhead := hx.rd F.PCI_MBX_HEAD_HEAD_part (by decide) (by decide)
  rw [hw, State.mbxTail_overflows (by rw [hhead]; exact h)]
  refine ⟨?_, ?_, State.rd_raise_self _ _, ?_⟩
  · rw [State.rd_raise _ _ F.PCI_MBX_TAIL_TAIL_part (by decide), State.wr, State.rd_setReg_ne _ _ _ (by decide)]
    exact hx.rd F.PCI_MBX_TAIL_TAIL_part (by decide) (by decide)
  · rw [State.rd_raise _ _ F.PCI_MBX_STAT_OVF_part (by decide), State.rd_wr _ _ _ ⟨by decide, by decide⟩]
    rfl
  · have hraise := State.raise_leaves (.refl 0x10001990080000002010 (x.wr F.PCI_MBX_STAT_OVF 1)) (by decide) Ev.PCI_MBX_ERR
    exact (hraise.same .mbx (by decide)).trans (hx.same .mbx (by decide))

/-- The row of MBX_CPL_TAIL in the register map. -/
def mbxCplTailRow : RegRow := ⟨"MBX_CPL_TAIL", 0x14, 0x0, 1, [⟨31, 7, .mbz, 0⟩, ⟨6, 0, .rw, 0⟩]⟩

theorem mbxCplTailRow_written (old v : Nat) :
    F.PCI_MBX_CPL_TAIL_TAIL.of (BitVec.ofNat 32 (mbxCplTailRow.written false old v)) = v % 128 := by
  simp [mbxCplTailRow, RegRow.written, Field.written, Fld.of, F.PCI_MBX_CPL_TAIL_TAIL, slice]

/-- A write of MBX_CPL_TAIL leaves the traces of R9, stores, and lets a ready core go on (R279). -/
theorem State.write32_mbxCplTail (s : State) (p : Path) (v : Nat) :
    ∃ x, Leaves 0x10001990080000002011 s x ∧ s.write32 p 0xf00014 v = (x.setReg 0xf00014
      (BitVec.ofNat 32 (mbxCplTailRow.written false (x.reg 0xf00014).toNat v))).takeQueue 64 := by
  have hr : regRow? 0xf00014 = some mbxCplTailRow := by decide +kernel
  have hb : blockAt 0xf00014 = some (.pci, 0, 0x14) := by decide +kernel
  refine ⟨_, State.writeTraces_leaves (.refl _ s) (by decide) p 0xf00014 v .pci 0 mbxCplTailRow, ?_⟩
  rw [s.write32_register p v hr hb]
  simp [State.columnsAs, State.storeReg, State.putReg, State.written, State.coefBusy, State.locked, lockOff]

theorem State.write32_mbxCplTail_stores (s : State) (p : Path) (v : Nat) :
    (s.write32 p 0xf00014 v).rd F.PCI_MBX_CPL_TAIL_TAIL = v % 128 ∧
      (s.on F.PCI_MBX_STAT_READY = false → (s.write32 p 0xf00014 v).mbx = s.mbx) := by
  obtain ⟨x, hx, hw⟩ := s.write32_mbxCplTail p v
  rw [hw]
  refine ⟨?_, fun hr => ?_⟩
  · rw [State.rd_takeQueue ⟨by decide, by decide⟩ (.inl (by decide))]
    exact (State.rd_setReg _ _ F.PCI_MBX_CPL_TAIL_TAIL).trans (mbxCplTailRow_written _ v)
  · have hready : x.on F.PCI_MBX_STAT_READY = false :=
      (hx.on F.PCI_MBX_STAT_READY_part (by decide) (by decide)).trans hr
    rw [State.takeQueue_unready]
    · exact hx.same .mbx (by decide)
    · rwa [State.on, State.rd_setReg_ne _ _ _ (by decide)]

end Sys2Proof.Machine

namespace Sys2Proof.Machine

/-! ### The completion of a mailbox command (R279, R281) -/

theorem mbxCplHead_ok : F.PCI_MBX_CPL_HEAD_HEAD.ok := ⟨by decide, by decide⟩

/-- The completion entry of a command, put where MBX_CPL_HEAD points, with the head moved on. -/
def State.putCompletion (s : State) (c : MbxCmd) (status result : Nat) : State :=
  (s.setWords (0xf01800 + 16 * (s.rd F.PCI_MBX_CPL_HEAD_HEAD % 64)) (c.entry status result)).wr F.PCI_MBX_CPL_HEAD_HEAD
    (s.rd F.PCI_MBX_CPL_HEAD_HEAD + 1)

/-- A failed command of the host's queue is counted, and completes with an entry and perhaps an event. -/
theorem State.complete_seen {s : State} {c : MbxCmd} {status : Nat} (hc : c.seen) (hs : status ≠ 0) (result : Nat) :
    s.complete c status result = (s.bump F.PCI_MBX_ERR_CNT_COUNT).putCompletion c status result ∨
      s.complete c status result =
        ((s.bump F.PCI_MBX_ERR_CNT_COUNT).putCompletion c status result).raise Ev.PCI_MBX_CPL := by
  obtain ⟨hp, hd⟩ := hc
  simp only [State.complete, State.putCompletion, hp, hd, hs, if_false, Bool.false_eq_true]
  split
  · exact .inr rfl
  · exact .inl rfl

/-- A failed command that a PCIe reset has dropped is counted only (R271). -/
theorem State.complete_dropped {s : State} {c : MbxCmd} {status : Nat} (hp : c.punty = false) (hd : c.dropped = true)
    (hs : status ≠ 0) (result : Nat) : s.complete c status result = s.bump F.PCI_MBX_ERR_CNT_COUNT := by
  simp [State.complete, hp, hd, hs]

/-- The registers outside the completion ring and the head that a completion leaves. -/
theorem State.reg_putCompletion (s : State) (c : MbxCmd) (status result : Nat) {o : Nat} (h : o < 0xf01800)
    (hne : o ≠ 0xf00010) : (s.putCompletion c status result).reg o = s.reg o := by
  rw [State.putCompletion, State.reg_wr_ne _ _ hne, State.reg_setWords_out _ _ (.inl (by omega))]

/-- Word `i` of the entry stands in the ring. -/
theorem State.reg_putCompletion_ring (s : State) (c : MbxCmd) (status result : Nat) {i : Nat}
    (h : i < (c.entry status result).length) :
    ((s.putCompletion c status result).reg (0xf01800 + 16 * (s.rd F.PCI_MBX_CPL_HEAD_HEAD % 64) + 4 * i)).toNat =
      (c.entry status result)[i] % 2 ^ 32 := by
  rw [State.putCompletion, State.reg_wr_ne _ _ (by simp only [F.PCI_MBX_CPL_HEAD_HEAD]; omega), State.reg_setWords _ _ h,
    BitVec.toNat_ofNat]

theorem State.rd_putCompletion_head (s : State) (c : MbxCmd) (status result : Nat) :
    (s.putCompletion c status result).rd F.PCI_MBX_CPL_HEAD_HEAD = (s.rd F.PCI_MBX_CPL_HEAD_HEAD + 1) % 128 :=
  State.rd_wr _ _ _ mbxCplHead_ok

/-- The first word of an entry is not cut off: a tag of 16 bits, an opcode of 8, and the status. -/
theorem MbxCmd.entry_head_lt (c : MbxCmd) {status : Nat} (h : status < 256) :
    c.num 2 2 + 2 ^ 16 * c.byte 0 + 2 ^ 24 * status < 2 ^ 32 := by
  have hn : c.num 2 2 < 2 ^ 16 := Nat.mod_lt _ (by decide)
  have hb : c.byte 0 < 2 ^ 8 := Nat.mod_lt _ (by decide)
  omega

/-- Whether or not it raises its event, a completion leaves the registers of block PCI as its entry and its count have them. -/
theorem State.reg_complete_seen {s : State} {c : MbxCmd} {status : Nat} (hc : c.seen) (hs : status ≠ 0) (result : Nat)
    {o : Nat} (ho : regPart o = .pciRegs) :
    (s.complete c status result).reg o = ((s.bump F.PCI_MBX_ERR_CNT_COUNT).putCompletion c status result).reg o := by
  rcases s.complete_seen hc hs result with h | h
  · rw [h]
  · rw [h]
    exact (State.raise_leaves (.refl 0x10001990080000002010 _) (by decide) _).reg (by rw [ho]; decide)

/-- A failed command of the host's queue completes with its status (R279). -/
theorem completed_complete {s : State} {c : MbxCmd} {status : Nat} (hc : c.seen) (hs : status ≠ 0) (hlt : status < 256)
    (result : Nat) : Completed s (s.complete c status result) c status result := by
  have hhead : (s.bump F.PCI_MBX_ERR_CNT_COUNT).rd F.PCI_MBX_CPL_HEAD_HEAD = s.rd F.PCI_MBX_CPL_HEAD_HEAD :=
    s.rd_bump_apart _ _ ⟨by decide, by decide⟩ mbxCplHead_ok (.inl (by decide))
  have word : ∀ i (hi : i < (c.entry status result).length),
      ((s.complete c status result).reg (0xf01800 + 16 * (s.rd F.PCI_MBX_CPL_HEAD_HEAD % 64) + 4 * i)).toNat =
        (c.entry status result)[i] % 2 ^ 32 := by
    intro i hi
    have h4 : i < 4 := hi
    rw [s.reg_complete_seen hc hs result (regPart_pciRegs (by omega) (by omega)), ← hhead]
    exact State.reg_putCompletion_ring _ c status result hi
  refine ⟨?_, ?_, ?_, ?_⟩
  · have := (s.bump F.PCI_MBX_ERR_CNT_COUNT).rd_putCompletion_head c status result
    rw [hhead] at this
    rw [← this]
    exact congrArg _ (s.reg_complete_seen hc hs result F.PCI_MBX_CPL_HEAD_HEAD_part)
  · exact (word 0 (by simp [MbxCmd.entry])).trans (Nat.mod_eq_of_lt (c.entry_head_lt hlt))
  · rw [show ∀ x, 0xf01804 + x = 0xf01800 + x + 4 * 1 by intro x; omega]
    exact word 1 (by simp [MbxCmd.entry])
  · rw [show ∀ x, 0xf01808 + x = 0xf01800 + x + 4 * 2 by intro x; omega]
    exact word 2 (by simp [MbxCmd.entry])

/-- A failed command of the host's queue is counted, seen or dropped (R281). -/
theorem counted_complete {s : State} {c : MbxCmd} {status : Nat} (hp : c.punty = false) (hs : status ≠ 0) (result : Nat) :
    Counted s (s.complete c status result) F.PCI_MBX_ERR_CNT_COUNT := by
  have hbump := s.rd_bump F.PCI_MBX_ERR_CNT_COUNT ⟨rfl, rfl⟩
  cases hd : c.dropped with
  | true => rw [State.complete_dropped hp hd hs]; exact hbump
  | false =>
    rw [Counted, ← hbump]
    refine congrArg _ ((s.reg_complete_seen ⟨hp, hd⟩ hs result F.PCI_MBX_ERR_CNT_COUNT_part).trans ?_)
    exact State.reg_putCompletion _ c status result (by decide) (by decide)

theorem State.complete_mbx (s : State) (c : MbxCmd) (status result : Nat) : (s.complete c status result).mbx = s.mbx :=
  (State.complete_leaves (.refl 0x11001990080000102010 s) (by decide) c status result).same .mbx (by decide)

theorem MbxCmd.badCode_ne_zero (c : MbxCmd) : c.badCode ≠ 0 := by
  unfold MbxCmd.badCode
  split <;> decide

theorem MbxCmd.badCode_lt (c : MbxCmd) : c.badCode < 256 := by
  unfold MbxCmd.badCode
  split <;> decide

/-- BAD_OPCODE completes the oldest command that waits for it, once the mailbox is ready. -/
theorem exec_badOpcode {s : State} (hl : s.live = true) {c : MbxCmd} {cs : List MbxCmd} (hb : s.mbx.bad = c :: cs)
    (hr : s.mbxReady = true) : exec .badOpcode s =
      .next (s.endClock ((s.withMbx { s.mbx with bad := cs }).complete c c.badCode 0)) := by
  simp only [exec, execBadOpcode, act_live hl, hb, hr, if_true]

theorem exec_badOpcode_waits {s : State} (hl : s.live = true) (h : s.mbx.bad = [] ∨ s.mbxReady = false) :
    exec .badOpcode s = .next s := by
  simp only [exec, execBadOpcode, act_live hl]
  cases hb : s.mbx.bad with
  | nil => rfl
  | cons c cs =>
    have hr : s.mbxReady = false := h.resolve_left (by simp [hb])
    simp [hr]

end Sys2Proof.Machine

namespace Sys2Proof.Machine

/-! ### Pending bits (R10, R283) -/

/-- The row of EVT_PEND in the register map. -/
def evtPendRow : RegRow := ⟨"PEND", 0x100, 0x4, 24, [⟨31, 0, .w1c, 0⟩]⟩

theorem regRow?_evtPend (g : Fin 24) : regRow? (0x40100 + 4 * g) = some evtPendRow := by
  revert g
  decide +kernel

theorem blockAt_evtPend (g : Fin 24) : blockAt (0x40100 + 4 * g) = some (Block.evt, 0, 0x100 + 4 * g.val) := by
  revert g
  decide +kernel

theorem evtPendRow_written (locked : Bool) (old v : BitVec 32) :
    BitVec.ofNat 32 (evtPendRow.written locked old.toNat v.toNat) = old &&& ~~~v := by
  have ho : slice old.toNat 31 0 = old.toNat := by simp [slice, Nat.mod_eq_of_lt old.isLt]
  have hv : slice v.toNat 31 0 = v.toNat := by simp [slice, Nat.mod_eq_of_lt v.isLt]
  simp only [evtPendRow, RegRow.written, List.foldl, Field.written, ho, hv, BitVec.ofNat_toNat, BitVec.setWidth_eq,
    Nat.zero_add, Nat.pow_zero, Nat.mul_one]

/-- A write of EVT_PEND clears the bits it names and does nothing else. -/
theorem State.write32_evtPend (s : State) (p : Path) (g : Fin 24) (v : BitVec 32) :
    s.write32 p (0x40100 + 4 * g) v.toNat = s.setReg (0x40100 + 4 * g) (s.reg (0x40100 + 4 * g) &&& ~~~v) := by
  have hzero : evtPendRow.breaksZero v.toNat = false := rfl
  have hlock : evtPendRow.lockable = false := rfl
  have htail : 0x40100 + 4 * g.val ≠ 0xf00008 := by omega
  have hsave : 0x40100 + 4 * g.val ≠ 0x10088 := by omega
  rw [s.write32_register p _ (regRow?_evtPend g) (blockAt_evtPend g), ← evtPendRow_written (s.locked .evt 0)]
  simp [State.columnsAs, State.storeReg, State.writeTraces, State.putReg, State.written, State.coefBusy, hzero, hlock,
    htail, hsave]

/-- The pending bit of source `i` of group `g` is a bit of the group's register. -/
theorem State.rd_evtBit (s : State) (g : Fin 24) {i : Nat} (hi : i < 32) :
    s.rd (evtBit (32 * g + i)) = b2n ((s.reg (0x40100 + 4 * g)).getLsbD i) := by
  have hlt := g.isLt
  have hoff : (32 * g.val + i) % 768 / 32 = g := by omega
  have hbit : (32 * g.val + i) % 32 = i := by omega
  simp only [State.rd, evtBit, Fld.of, hoff, hbit, slice, Nat.sub_self, Nat.zero_add, Nat.pow_one, BitVec.getLsbD,
    Nat.testBit_eq_decide_div_mod_eq, b2n]
  rcases Nat.mod_two_eq_zero_or_one ((s.reg (0x40100 + 4 * g.val)).toNat / 2 ^ i) with hm | hm <;> simp [hm]

/-- An occurrence of another source leaves a pending bit as it is. -/
theorem State.rd_raise_ne (s : State) {a e : Nat} (h : evtBit a ≠ evtBit e) :
    (s.raise e).rd (evtBit a) = s.rd (evtBit a) := by
  have hp : regPart (evtBit a).off = .evtRegs := regPart_evtRegs (by simp only [evtBit]; omega) (by simp only [evtBit]; omega)
  have hapart : (evtBit e).apart (evtBit a) := by
    simp only [evtBit, ne_eq, Fld.mk.injEq, Fld.apart] at h ⊢
    omega
  have hwaits := State.countWaits_leaves (State.releaseWaits_leaves (.refl 0x10000000002000 s) (by decide) e) (by decide) e
  unfold State.raise State.occur
  rw [(State.routeEvent_leaves (.refl 0x10001980080000000000 _) (by decide) e _ true).rd hp (by decide) (by decide),
    State.rd_wr_apart _ _ _ _ (evtBit_ok e) (evtBit_ok a) hapart]
  exact hwaits.rd hp (by decide) (by decide)

/-- Occurrences of other sources leave a pending bit as it is. -/
theorem State.rd_forEach_raise_ne {α : Type} (l : List α) (f : α → Nat) (s : State) {a : Nat}
    (h : ∀ x ∈ l, evtBit a ≠ evtBit (f x)) :
    (forEach l (fun x s => s.raise (f x)) s).rd (evtBit a) = s.rd (evtBit a) := by
  unfold forEach
  induction l generalizing s with
  | nil => rfl
  | cons x l ih => exact (ih _ fun y hy => h y (.tail _ hy)).trans (s.rd_raise_ne (h x (.head _)))

/-- Every source that occurs is pending afterwards. -/
theorem pends_forEach_raise {α : Type} {l : List α} (f : α → Nat) (s : State) {a : Nat}
    (h : (∃ x ∈ l, f x = a) ∨ Pends s a) : Pends (forEach l (fun x s => s.raise (f x)) s) a := by
  unfold forEach
  induction l generalizing s with
  | nil => simpa using h
  | cons x l ih =>
    refine ih _ ?_
    rcases h with ⟨y, hy, rfl⟩ | h
    · rcases List.mem_cons.1 hy with rfl | hy
      · exact .inr (s.rd_raise_self _)
      · exact .inl ⟨y, hy, rfl⟩
    · exact .inr (s.rd_raise_other _ _ h)

/-- The sources of a group that occur in the clock of the write. -/
theorem mem_pendMeets {g same i : Nat} :
    i ∈ (bitsOf 32 same).filter (fun i => Ev.named (32 * g + i)) ↔
      i < 32 ∧ same.testBit i = true ∧ Ev.named (32 * g + i) = true := by
  simp only [bitsOf, List.mem_filter, List.mem_range, and_assoc]

theorem State.pends_pendMeets (s : State) {g same i : Nat} (hi : i < 32) (hs : same.testBit i = true)
    (hn : Ev.named (32 * g + i) = true) : Pends (s.pendMeets g same) (32 * g + i) :=
  pends_forEach_raise _ s (.inl ⟨i, mem_pendMeets.2 ⟨hi, hs, hn⟩, rfl⟩)

/-- A source of the group that does not occur in the clock of the write keeps its pending bit. -/
theorem State.rd_pendMeets (s : State) (g : Fin 24) {same i : Nat} (hi : i < 32)
    (hs : (same.testBit i && Ev.named (32 * g + i)) = false) :
    (s.pendMeets g same).rd (evtBit (32 * g + i)) = s.rd (evtBit (32 * g + i)) := by
  refine s.rd_forEach_raise_ne _ _ fun j hj he => ?_
  obtain ⟨hj, hsame, hnamed⟩ := mem_pendMeets.1 hj
  simp only [evtBit, Fld.mk.injEq] at he
  have : i = j := by omega
  simp [this, hsame, hnamed] at hs

theorem exec_evtPendWrite {s : State} {p : Path} (hl : s.live = true) (hp : s.pathOpen p = true) (g : Fin 24)
    (v same : BitVec 32) : exec (.evtPendWrite p g v same) s = .next (s.endClock
      ((s.setReg (0x40100 + 4 * g) (s.reg (0x40100 + 4 * g) &&& ~~~v)).pendMeets g same.toNat)) := by
  simp only [exec, execEvtPendWrite, onPath_open hl hp, State.write32_evtPend]

/-- What a write of EVT_PEND clears, before the occurrences of its clock. -/
theorem State.rd_clearPend (s : State) (g : Fin 24) (v : BitVec 32) {i : Nat} (hi : i < 32) :
    (s.setReg (0x40100 + 4 * g) (s.reg (0x40100 + 4 * g) &&& ~~~v)).rd (evtBit (32 * g + i)) =
      if v.toNat.testBit i then 0 else s.rd (evtBit (32 * g + i)) := by
  rw [State.rd_evtBit _ g hi, State.rd_evtBit s g hi, State.reg_setReg, BitVec.getLsbD_and, BitVec.getLsbD_not]
  change b2n (_ && (decide (i < 32) && !v.toNat.testBit i)) = _
  cases v.toNat.testBit i <;> simp [hi, b2n]

/-- A write of EVT_PEND with the occurrences of its clock changes only pending bits and the gaffers' counts among the registers. -/
theorem State.reg_evtPendWrite (s : State) (g : Fin 24) (w : Word) (same : Nat) {o : Nat} (he : regPart o ≠ .evtRegs)
    (hw : regPart o ≠ .waitRegs) : ((s.setReg (0x40100 + 4 * g) w).pendMeets g same).reg o = s.reg o := by
  have hlt := g.isLt
  have hpart : regPart (0x40100 + 4 * g) = .evtRegs := regPart_evtRegs (by omega) (by omega)
  have hl := State.pendMeets_leaves (Leaves.setReg (.refl 0x10001990080000002010 s) (Part.bit hpart (by decide)) (w := w))
    (by decide) g same
  have outside : ∀ q : Part, Nat.testBit 0x7fffff q.ctorIdx = true → q ≠ .evtRegs → q ≠ .waitRegs →
      Nat.testBit 0x10001990080000002010 q.ctorIdx = false := by
    intro q
    cases q <;> decide
  exact hl.reg (outside _ (regPart_bit o) he hw)

/-! ### The statement about the mailbox -/

/-- Settles O44: the two sides of a write of MBX_TAIL, a write of MBX_CPL_TAIL, the two sides of BAD_OPCODE, and a write of
EVT_PEND. -/
theorem mailbox : Obligations.Mailbox := by
  unfold Obligations.Mailbox
  refine ⟨fun s p v hl hp hfit => ?mbxTailWrite, fun s p v hl hp hover => ?mbxTailWriteOverflow,
    fun s p v hl hp => ?mbxCplTailWrite, fun s c cs hl hb hr => ?badOpcode, fun s hl h => ?badOpcodeWaits,
    fun s p g v same hl hp => ?evtPendWrite⟩
  case mbxTailWrite => exact ⟨_, exec_mbxTailWrite hl hp v, State.write32_mbxTail_fits hfit⟩
  case mbxTailWriteOverflow => exact ⟨_, exec_mbxTailWrite hl hp v, State.write32_mbxTail_overflows hover⟩
  case mbxCplTailWrite => exact ⟨_, exec_mbxCplTailWrite hl hp v, s.write32_mbxCplTail_stores p _⟩
  case badOpcode =>
    refine ⟨_, exec_badOpcode hl hb hr, ?_, fun hc => ?_, fun hc => ?_⟩
    · rw [State.endClock_mbx, State.complete_mbx]
      rfl
    · have h := completed_complete (s := s.withMbx { s.mbx with bad := cs }) hc c.badCode_ne_zero c.badCode_lt 0
      simpa only [Completed, State.withMbx_rd, State.endClock_rd, State.endClock_reg] using h
    · have h := counted_complete (s := s.withMbx { s.mbx with bad := cs }) hc c.badCode_ne_zero 0
      simpa only [Counted, State.withMbx_rd, State.endClock_rd] using h
  case badOpcodeWaits => exact ⟨s, exec_badOpcode_waits hl h, rfl⟩
  case evtPendWrite =>
    refine ⟨_, exec_evtPendWrite hl hp g v same, fun i hi hs hn => State.pends_pendMeets _ hi hs hn,
      fun i hi hs hv => ?_, fun i hi hs hv => ?_, fun o he hw => s.reg_evtPendWrite g _ _ he hw⟩
    · rw [State.endClock_rd, State.rd_pendMeets _ g hi hs, State.rd_clearPend s g v hi, if_pos hv]
    · rw [State.endClock_rd, State.rd_pendMeets _ g hi hs, State.rd_clearPend s g v hi, hv, if_neg (by decide)]

end Sys2Proof.Machine

namespace Sys2Proof.Machine

/-! ### No command stops (log entry 4) -/

/-- Each meaning is a guarded update of the state, so that each answers; the two that choose between answers first choose. -/
theorem exec_answers (c : Instr) (s : State) : ∃ t, exec c s = .next t := by
  cases c <;> simp only [exec]
  case encoderEdge a b =>
    change ∃ t, execEncoderEdge a b s = .next t
    unfold execEncoderEdge
    split
    · exact ⟨_, rfl⟩
    · exact ⟨_, rfl⟩
  case s4Wake =>
    change ∃ t, execS4Wake s = .next t
    unfold execS4Wake
    split
    · exact ⟨_, rfl⟩
    · exact ⟨_, rfl⟩
  all_goals exact ⟨_, rfl⟩

/-- Settles O10: a step answers what its command answers, or a tick. -/
theorem everyCommandAnswers : Obligations.EveryCommandAnswers := by
  unfold Obligations.EveryCommandAnswers
  refine ⟨exec_answers, fun s => ?_⟩
  unfold step
  split
  · exact ⟨_, rfl⟩
  · exact exec_answers _ _

/-! ### A step as a tick or a command -/

/-- A step is one tick on an empty queue, and otherwise the command at its front on the state with the queue's rest. -/
theorem step_cases {s t : State} (h : step s = .next t) :
    (s.pending = [] ∧ t = s.tick) ∨ ∃ c q, s.pending = c :: q ∧ exec c { s with pending := q } = .next t := by
  unfold step at h
  cases hp : s.pending with
  | nil =>
    rw [hp] at h
    exact .inl ⟨rfl, (Host.Outcome.next.inj h).symm⟩
  | cons c q =>
    rw [hp] at h
    exact .inr ⟨c, q, rfl, h⟩

/-- No store holds commands. -/
theorem Canon.withPending {s : State} (h : Canon s) (q : List Instr) : Canon { s with pending := q } := { h with }

/-- Settles O5: a tick and every command keep the canonical form, by their frame lemmas. -/
theorem canonKept : Obligations.CanonKept := by
  unfold Obligations.CanonKept
  intro s t hs h
  rcases step_cases h with ⟨-, rfl⟩ | ⟨c, q, -, hc⟩
  · exact (State.tick_leaves (.refl 0x18089db8080000002b1a s) (by decide)).canon hs
  · exact (exec_leaves hc).canon (hs.withPending q)

/-- Settles O7: the frame of the command at the front, read byte by byte. -/
theorem memoryKept : Obligations.MemoryKept := by
  unfold Obligations.MemoryKept
  intro c q s t hq h
  rcases step_cases h with ⟨hnil, -⟩ | ⟨c', q', hq', hc⟩
  · rw [hnil] at hq
    cases hq
  · obtain ⟨rfl, rfl⟩ := List.cons.inj (hq'.symm.trans hq)
    have kept : ∀ p : Part, p ∉ footprint c' → p.same _ t := (exec_leaves hc).keeps
    refine ⟨fun hp a => ?hbm, fun hp a => ?gobIn, fun hp a => ?gobOut, fun hp k => ?dm⟩
    case hbm => exact congrArg (Bytes.get · a) (kept _ hp)
    case gobIn => exact congrArg (Bytes.get · a) (kept _ hp)
    case gobOut => exact congrArg (Bytes.get · a) (kept _ hp)
    case dm => exact congrArg (Tab.get (fun _ => false) · k) (kept _ hp)

/-! ### Without the spine (R14, R368) -/

section
variable {s : State} (hoff : s.spineOn = false) (f : State → State)
include hoff

theorem act_unpowered : act s f = .next s := by simp [act, State.live, hoff]

theorem actPcie_unpowered : actPcie s f = .next s := by simp [actPcie, State.live, hoff]

theorem spdm_unpowered : spdm s f = .next s := act_unpowered hoff _

theorem tap_unpowered : tap s f = .next s := by simp [tap, hoff]

end

/-- Settles O11: the guard of each meaning shuts the command out; ENCODER_EDGE and WARM_START have guards of their own. -/
theorem poweredOffIgnores : Obligations.PoweredOffIgnores := by
  unfold Obligations.PoweredOffIgnores
  intro c s t hoff hc h
  refine Host.Outcome.next.inj (h.symm.trans ?_)
  cases c <;> simp only [exec]
  case coldStart | powerLoss | wakeN | encWake | perstWake | timerWake | s4Wake | xtalGood | xtalLoss |
      supplyPowerGoodLoss | seqPgRise =>
    exact hc.elim
  case encoderEdge =>
    have hs4 : s.lehr.s4 = false := hc
    simp [execEncoderEdge, hs4, act_unpowered hoff]
  case warmStart => simp [execWarmStart, hoff]
  case pciePerstDeassert | pcieReady | pcieLinkUp | fundamentalReset | hotReset | pcieLinkDown | functionLevelReset |
      configurationRequest | bar0Request | bar2Request | bar4Request | msixUnmask | unsupportedRequest =>
    exact actPcie_unpowered hoff _
  case extest | idcode | samplePreload | highz | clamp | extestPulse | extestTrain | bypass | testLogicReset =>
    exact tap_unpowered hoff _
  case getVersion | getCapabilities | negotiateAlgorithms | getDigests | getCertificate | challenge | getMeasurements =>
    exact spdm_unpowered hoff _
  all_goals exact act_unpowered hoff _

end Sys2Proof.Machine


namespace Sys2Proof.Machine

/-! ### Value pairs (R7) -/

/-- A value pair reads what was written to it. -/
theorem State.rd64_wr64 (s : State) (lo v : Nat) : (s.wr64 lo v).rd64 lo = v % 2 ^ 64 := by
  have hlo : (s.wr64 lo v).reg lo = BitVec.ofNat 32 v :=
    (State.reg_setReg_ne _ _ (by omega)).trans (State.reg_setReg _ _ _)
  have hhi : (s.wr64 lo v).reg (lo + 4) = BitVec.ofNat 32 (v / 2 ^ 32) := State.reg_setReg _ _ _
  rw [State.rd64, hlo, hhi, BitVec.toNat_ofNat, BitVec.toNat_ofNat]
  omega

/-- Writing a value pair leaves the registers outside it. -/
theorem State.reg_wr64_ne (s : State) {lo o : Nat} (v : Nat) (h : o ≠ lo) (h' : o ≠ lo + 4) :
    (s.wr64 lo v).reg o = s.reg o :=
  (State.reg_setReg_ne _ _ h').trans (State.reg_setReg_ne _ _ h)

theorem State.rd64_eq {s t : State} {lo : Nat} (h : t.reg lo = s.reg lo) (h' : t.reg (lo + 4) = s.reg (lo + 4)) :
    t.rd64 lo = s.rd64 lo := by
  rw [State.rd64, State.rd64, h, h']

/-- A value pair outside the mask is as it was. -/
theorem Leaves.rd64 {m : Nat} {s t : State} (h : Leaves m s t) {lo : Nat}
    (hm : m.testBit (regPart lo).ctorIdx = false) (hm' : m.testBit (regPart (lo + 4)).ctorIdx = false) :
    t.rd64 lo = s.rd64 lo :=
  State.rd64_eq (h.reg hm) (h.reg hm')

/-! ### What a tick makes of the encoder's inputs (R149, R154) -/

/-- Levels of ENC_A and ENC_B that are those accepted count nothing. -/
theorem State.sampleAB_steady {s : State} (ha : s.tb.pinA = s.tb.encA) (hb : s.tb.pinB = s.tb.encB) :
    s.sampleAB = s.setTb { s.tb with
      runA := 0, firstA := if s.tb.runA = 0 then s.real else s.tb.firstA
      runB := 0, firstB := if s.tb.runB = 0 then s.real else s.tb.firstB } := by
  simp [State.sampleAB, State.decodeEdges, pinFilter, ha, hb]

/-- A level of ENC_Z that is the one accepted is no rising edge. -/
theorem State.sampleZ_steady {s : State} (hz : s.tb.pinZ = s.tb.encZ) :
    s.sampleZ = s.setTb { s.tb with runZ := 0 } := by
  simp [State.sampleZ, pinFilter, hz]

theorem State.registerCounts_none {s : State} (h : s.tb.counts = []) : s.registerCounts = s := by
  have htb : { s.tb with counts := [] } = s.tb := by rw [← h]
  simp only [State.registerCounts, h, List.filter_nil, htb]
  rfl

/-- The one count that waits, its time come, is registered while ENC_EN is 1 (R154, R156). -/
theorem State.registerCounts_due {s : State} {fwd : Bool} {t : Nat} (h : s.tb.counts = [(fwd, t)]) (ht : t ≤ s.real)
    (hen : s.on F.TB_CTRL_ENC_EN = true) : s.registerCounts = (s.setTb { s.tb with counts := [] }).count fwd := by
  have hen' : (s.setTb { s.tb with counts := [] }).on F.TB_CTRL_ENC_EN = true := hen
  simp [State.registerCounts, h, ht, forEach, hen']

/-! ### What lines and events leave of the encoder -/

/-- What of the timebase the encoder alone changes: the levels of ENC_A and ENC_B and the counts that wait. -/
def Timebase.encoder (x : Timebase) : List Bool × List (Bool × Nat) := ([x.encA, x.encB, x.pinA, x.pinB], x.counts)

/-- TB_POS and the encoder's inputs in `t` are those of `s`. -/
structure PosKept (s t : State) : Prop where
  lo : t.reg 0x80018 = s.reg 0x80018
  hi : t.reg 0x8001c = s.reg 0x8001c
  encoder : t.tb.encoder = s.tb.encoder

theorem PosKept.refl (s : State) : PosKept s s := ⟨rfl, rfl, rfl⟩

theorem PosKept.trans {s t u : State} (h : PosKept s t) (k : PosKept t u) : PosKept s u :=
  ⟨k.lo.trans h.lo, k.hi.trans h.hi, k.encoder.trans h.encoder⟩

theorem PosKept.pos {s t : State} (h : PosKept s t) : t.rd64 0x80018 = s.rd64 0x80018 := State.rd64_eq h.lo h.hi

theorem PosKept.ite {s t u : State} {c : Prop} [Decidable c] (ht : PosKept s t) (hu : PosKept s u) :
    PosKept s (if c then t else u) := by
  split
  · exact ht
  · exact hu

section
variable {s t : State} (h : PosKept s t)
include h

theorem PosKept.setTb {x : Timebase} (hx : x.encoder = t.tb.encoder) : PosKept s (t.setTb x) :=
  ⟨h.lo, h.hi, hx.trans h.encoder⟩

theorem PosKept.wr {f : Fld} (v : Nat) (hf : f.off ≠ 0x80018 ∧ f.off ≠ 0x8001c) : PosKept s (t.wr f v) :=
  ⟨(State.reg_wr_ne _ _ hf.1.symm).trans h.lo, (State.reg_wr_ne _ _ hf.2.symm).trans h.hi, h.encoder⟩

theorem PosKept.bump {f : Fld} (hf : f.off ≠ 0x80018 ∧ f.off ≠ 0x8001c) : PosKept s (t.bump f) :=
  .ite (h.wr _ hf) h

theorem PosKept.setLine (l : Nat) : PosKept s (t.setLine l) := (h.wr _ (by decide)).wr _ (by decide)

/-- What stays within a mask that has neither the timebase nor its registers. -/
theorem PosKept.leaves {m : Nat} {u : State} (k : Leaves m t u) (hr : m.testBit Part.tbRegs.ctorIdx = false)
    (ht : m.testBit Part.tb.ctorIdx = false) : PosKept s u := by
  have hpart : regPart 0x80018 = .tbRegs ∧ regPart 0x8001c = .tbRegs := by decide
  refine h.trans ⟨k.reg ?_, k.reg ?_, congrArg Timebase.encoder (k.same .tb ht)⟩
  · rw [hpart.1]; exact hr
  · rw [hpart.2]; exact hr

theorem PosKept.nextSeq (m : IrcMsg) : PosKept s (t.nextSeq m) := h.trans ⟨rfl, rfl, rfl⟩

/-- A flooded frame counts among the frames seen and perhaps waits for its acknowledgement. -/
theorem PosKept.flood (m : IrcMsg) : PosKept s (t.flood m) := by
  have hsent := (h.leaves (State.sendGroup_leaves (.refl 0x10000000000000000000 t) (by decide) none (t.hdr m true 0) m)
    (by decide) (by decide)).nextSeq m
  unfold State.flood
  refine hsent.setTb ?_
  split
  · rfl
  · rfl

theorem PosKept.routeEvent (e : Nat) (rose flood : Bool) : PosKept s (t.routeEvent e rose flood) := by
  have hmsix : PosKept s (if t.on (F.EVT_ROUTE_MSIX_EN e) && rose then t.msix (t.rd (F.EVT_ROUTE_VECTOR e)) else t) :=
    .ite (h.leaves (State.msix_leaves (.refl 0x10000180000000000000 t) (by decide) _) (by decide) (by decide)) h
  unfold State.routeEvent
  dsimp only
  generalize (if t.on (F.EVT_ROUTE_MSIX_EN e) && rose then t.msix (t.rd (F.EVT_ROUTE_VECTOR e)) else t) = u at *
  have hlog : PosKept s (if u.on (F.EVT_ROUTE_MC_EN e) then u.withMcLog (u.mcLog ++ [e]) else u) :=
    .ite ⟨hmsix.lo, hmsix.hi, hmsix.encoder⟩ hmsix
  generalize (if u.on (F.EVT_ROUTE_MC_EN e) then u.withMcLog (u.mcLog ++ [e]) else u) = w at *
  have hflood := hlog.flood (.event (Fin.ofNat 768 e))
  exact .ite ⟨hflood.lo, hflood.hi, hflood.encoder⟩ hlog

theorem PosKept.raise (e : Nat) : PosKept s (t.raise e) := by
  have hwaits := h.leaves (State.countWaits_leaves (State.releaseWaits_leaves (.refl 0x10000000002000 t) (by decide) e)
    (by decide) e) (by decide) (by decide)
  refine (hwaits.wr 1 ⟨?_, ?_⟩).routeEvent e _ _
  · simp only [evtBit]; omega
  · simp only [evtBit]; omega

theorem PosKept.passLine (l : Nat) : PosKept s (t.passLine l) := by
  have hpassed : PosKept s (t.setTb { t.tb with passed := l :: t.tb.passed }) := h.setTb rfl
  exact .ite h ((hpassed.bump (by decide)).raise _)

theorem PosKept.hold (x : Held) : PosKept s (t.hold x) := h.setTb rfl

theorem PosKept.ownLine (l : Nat) : PosKept s (t.ownLine l) := by
  have hsent (hd : FrameHdr) (m : IrcMsg) : PosKept s ((t.sendGroup none hd m).nextSeq m) :=
    (h.leaves (State.sendGroup_leaves (.refl 0x10000000000000000000 t) (by decide) none hd m) (by decide) (by decide)).nextSeq m
  unfold State.ownLine
  refine .ite (h.passLine l) (.ite (PosKept.hold (PosKept.setTb (hsent _ _) ?_) _) (h.hold _))
  rfl

theorem PosKept.createLine : PosKept s t.createLine := by
  have hload : PosKept s (if t.on F.TB_CTRL_CPL_LOAD then
      (t.setTb { t.tb with cpl := t.cplReg }).wr F.TB_CTRL_CPL_LOAD 0 else t) :=
    .ite (PosKept.wr (h.setTb (by rfl)) _ (by decide)) h
  unfold State.createLine
  dsimp only
  generalize (if t.on F.TB_CTRL_CPL_LOAD then (t.setTb { t.tb with cpl := t.cplReg }).wr F.TB_CTRL_CPL_LOAD 0 else t) = u at *
  have hnext : PosKept s ((u.setTb { u.tb with next := u.tb.next + u.tb.cpl }).setLine ((t.line + 1) % 2 ^ 48)) :=
    PosKept.setLine (hload.setTb (by rfl)) _
  exact .ite (hnext.ownLine _) (.ite (hnext.passLine _) hnext)

/-- An index pulse copies the position, and does not move it (R153). -/
theorem PosKept.sampleZ : PosKept s t.sampleZ := by
  have hlevel : PosKept s (t.setTb { t.tb with
      encZ := (pinFilter (t.rd F.TB_ENC_CFG_FILT) t.tb.encZ t.tb.runZ t.tb.pinZ).1
      runZ := (pinFilter (t.rd F.TB_ENC_CFG_FILT) t.tb.encZ t.tb.runZ t.tb.pinZ).2 }) := h.setTb (by rfl)
  unfold State.sampleZ
  dsimp only
  generalize t.setTb _ = u at *
  have hcopied : PosKept s (u.setReg 0x80038 (u.reg 0x80018)) :=
    ⟨(State.reg_setReg_ne _ _ (by decide)).trans hlevel.lo,
      (State.reg_setReg_ne _ _ (by decide)).trans hlevel.hi, hlevel.encoder⟩
  exact .ite (hcopied.raise _) hlevel

end

/-- The state in which a count has moved TB_POS by one in its direction (R150). -/
def State.moved (s : State) (fwd : Bool) : State :=
  (s.setTb { s.tb with lastCount := some s.real }).wr64 0x80018
    ((s.rd64 0x80018 + (if fwd then 1 else 2 ^ 64 - 1)) % 2 ^ 64)

theorem State.moved_pos (s : State) (fwd : Bool) :
    (s.moved fwd).rd64 0x80018 = (s.rd64 0x80018 + (if fwd then 1 else 2 ^ 64 - 1)) % 2 ^ 64 :=
  (State.rd64_wr64 _ _ _).trans (Nat.mod_mod _ _)

/-- The line that a count creates and the overspeed that it shows leave the position it has moved to (R152, R156). -/
theorem State.count_posKept (s : State) (fwd : Bool) : PosKept (s.moved fwd) (s.count fwd) := by
  have line (c : Bool) : PosKept (s.moved fwd) (if c then (s.moved fwd).createLine else s.moved fwd) :=
    .ite (PosKept.refl _).createLine (.refl _)
  unfold State.count
  exact .ite ((((line _).bump (by decide)).wr 1 (by decide)).raise Ev.TB_ENC_OVERSPEED) (line _)

/-! ### The clocks of a tick (R155, R247, R373) -/

/-- What a tick of a live device does after it has sampled the encoder's pins. -/
def State.tickClocks (s : State) : State := s.tickFab.tickTime.tickLehr.tickNoc.tickPtp.creditTick.tickTest

theorem State.tick_live {s : State} (h : s.live = true) :
    s.tick = s.endClock s.registerCounts.sampleAB.sampleZ.tickClocks := by
  simp [State.tick, State.tickClocks, h]

theorem State.tick_lehr {s : State} (h : s.live = false) :
    s.tick = s.endClock (if s.lehrOn then s.tickLehr else s) := by
  simp [State.tick, h]

/-- The fabric's clock edges move the fabric and draw free values. -/
theorem State.tickFab_moves (s : State) : Leaves (partsMask [.fab, .free]) s s.tickFab :=
  .ite (.refl _ s) (((Leaves.refl _ s).upd_fab (by decide)).upd_free (by decide) |>.upd_free (by decide))

theorem State.tickFab_unloaded {s : State} (h : s.fab.words = []) : s.tickFab = s := by
  simp [State.tickFab, h]

theorem State.tickClocks_leaves (s : State) :
    Leaves (partsMask [.tbRegs, .pwrRegs, .nocRegs, .stoRegs, .fltRegs, .noc, .lehr, .eth, .nand, .fab, .free])
      s s.tickClocks := by
  have hfab := s.tickFab_moves.within (k := partsMask [.tbRegs, .pwrRegs, .nocRegs, .stoRegs, .fltRegs, .noc, .lehr, .eth,
    .nand, .fab, .free]) (by decide)
  have hlehr := State.tickLehr_leaves (State.tickTime_leaves hfab (by decide)) (by decide)
  have hptp := State.tickPtp_leaves (State.tickNoc_leaves hlehr (by decide)) (by decide)
  exact State.tickTest_leaves (State.creditTick_leaves hptp (by decide)) (by decide)

/-- After the fabric and TB_TIME, a tick goes on with the other clocks. -/
theorem State.tickClocks_afterTime (s : State) :
    Leaves (partsMask [.pwrRegs, .nocRegs, .stoRegs, .fltRegs, .noc, .lehr, .eth, .nand]) s.tickFab.tickTime s.tickClocks := by
  have hnoc := State.tickNoc_leaves (State.tickLehr_leaves (.refl (partsMask [.pwrRegs, .nocRegs, .stoRegs, .fltRegs, .noc,
    .lehr, .eth, .nand]) s.tickFab.tickTime) (by decide)) (by decide)
  exact State.tickTest_leaves (State.creditTick_leaves (State.tickPtp_leaves hnoc (by decide)) (by decide)) (by decide)

/-- TB_TIME counts 16 (R155). -/
theorem State.tickClocks_now (s : State) : s.tickClocks.now = (s.now + 16) % 2 ^ 64 := by
  have hfab : s.tickFab.now = s.now := s.tickFab_moves.rd64 (by decide) (by decide)
  calc s.tickClocks.now = s.tickFab.tickTime.now := s.tickClocks_afterTime.rd64 (by decide) (by decide)
    _ = (s.tickFab.now + 16) % 2 ^ 64 := State.rd64_wr64 _ _ _
    _ = (s.now + 16) % 2 ^ 64 := by rw [hfab]

/-- The lehr's time counts when its fraction fills (R373). -/
theorem State.tickLehr_time (s : State) : s.tickLehr.rd64 0x10068 =
    if s.lehr.acc + 8192 < 156250000 then s.rd64 0x10068 else (s.rd64 0x10068 + 1) % 2 ^ 48 := by
  unfold State.tickLehr
  dsimp only
  split
  · rfl
  · rw [State.rd64_wr64]
    omega

theorem State.tickClocks_lehrTime (s : State) : s.tickClocks.rd64 0x10068 =
    if s.lehr.acc + 8192 < 156250000 then s.rd64 0x10068 else (s.rd64 0x10068 + 1) % 2 ^ 48 := by
  have hbefore := State.tickTime_leaves (s.tickFab_moves.within (k := partsMask [.tbRegs, .fab, .free]) (by decide)) (by decide)
  have hlehr : s.tickFab.tickTime.lehr = s.lehr := hbefore.same .lehr (by decide)
  have hnoc := State.tickNoc_leaves (.refl (partsMask [.nocRegs, .stoRegs, .fltRegs, .noc, .eth, .nand])
    s.tickFab.tickTime.tickLehr) (by decide)
  have hafter := State.tickTest_leaves (State.creditTick_leaves (State.tickPtp_leaves hnoc (by decide)) (by decide)) (by decide)
  rw [← hbefore.rd64 (lo := 0x10068) (by decide) (by decide), ← hlehr, ← State.tickLehr_time]
  exact hafter.rd64 (by decide) (by decide)

/-- The frame number of the slot tables counts when 128 router cycles are over (R247). -/
theorem State.tickNoc_frame (s : State) : s.tickNoc.rd64 0x90008 =
    if s.noc.acc + 12 < 640 then s.rd64 0x90008 else (s.rd64 0x90008 + 1) % 2 ^ 64 := by
  unfold State.tickNoc
  dsimp only
  split
  · rfl
  · exact State.rd64_wr64 _ _ _

theorem State.tickClocks_frame (s : State) : s.tickClocks.rd64 0x90008 =
    if s.noc.acc + 12 < 640 then s.rd64 0x90008 else (s.rd64 0x90008 + 1) % 2 ^ 64 := by
  have hbefore := State.tickLehr_leaves (State.tickTime_leaves (s.tickFab_moves.within
    (k := partsMask [.tbRegs, .pwrRegs, .lehr, .fab, .free]) (by decide)) (by decide)) (by decide)
  have hnoc : s.tickFab.tickTime.tickLehr.noc = s.noc := hbefore.same .noc (by decide)
  have hptp := State.tickPtp_leaves (.refl (partsMask [.stoRegs, .fltRegs, .eth, .nand])
    s.tickFab.tickTime.tickLehr.tickNoc) (by decide)
  have hafter := State.tickTest_leaves (State.creditTick_leaves hptp (by decide)) (by decide)
  rw [← hbefore.rd64 (lo := 0x90008) (by decide) (by decide), ← hnoc, ← State.tickNoc_frame]
  exact hafter.rd64 (by decide) (by decide)

/-- With no bit-stream loaded a tick moves nothing of the fabric. -/
theorem State.tickClocks_unloaded {s : State} (h : s.fab.words = []) :
    s.tickClocks.fab = s.fab ∧ s.tickClocks.free = s.free := by
  have hafter := State.tickTime_leaves (.refl (partsMask [.tbRegs]) s) (by decide)
  have hrest := s.tickClocks_afterTime
  rw [s.tickFab_unloaded h] at hrest
  exact ⟨(hrest.same .fab (by decide)).trans (hafter.same .fab (by decide)),
    (hrest.same .free (by decide)).trans (hafter.same .free (by decide))⟩

/-- The clocks of a tick leave the position and the encoder's inputs. -/
theorem State.tickClocks_posKept (s : State) : PosKept s s.tickClocks := by
  have hfab := (PosKept.refl s).leaves s.tickFab_moves (by decide) (by decide)
  have htime : PosKept s.tickFab s.tickFab.tickTime :=
    ⟨State.reg_wr64_ne _ _ (by decide) (by decide), State.reg_wr64_ne _ _ (by decide) (by decide), rfl⟩
  exact (hfab.trans htime).leaves s.tickClocks_afterTime (by decide) (by decide)

/-! ### The statement about the empty queue -/

/-- With the pins at the levels accepted and no count waiting, the encoder's part of a tick restarts the runs of samples alone. -/
theorem State.inputs_steady {s : State} (ha : s.tb.pinA = s.tb.encA) (hb : s.tb.pinB = s.tb.encB)
    (hz : s.tb.pinZ = s.tb.encZ) (hc : s.tb.counts = []) : ∃ x, s.registerCounts.sampleAB.sampleZ = s.withTb x := by
  rw [State.registerCounts_none hc, State.sampleAB_steady ha hb]
  exact ⟨_, State.sampleZ_steady (s := s.setTb _) hz⟩

/-- A tick registers the one count that waits, its time come (R154): TB_POS moves, and no count waits any more. -/
theorem State.tick_registers {s : State} {fwd : Bool} {t : Nat} (hl : s.live = true) (ha : s.tb.pinA = s.tb.encA)
    (hb : s.tb.pinB = s.tb.encB) (hc : s.tb.counts = [(fwd, t)]) (ht : t ≤ s.real) (hen : s.on F.TB_CTRL_ENC_EN = true) :
    PosKept ((s.setTb { s.tb with counts := [] }).moved fwd) s.tick := by
  have hcount := State.count_posKept (s.setTb { s.tb with counts := [] }) fwd
  rw [State.tick_live hl, State.registerCounts_due hc ht hen]
  generalize (s.setTb { s.tb with counts := [] }).count fwd = v at hcount ⊢
  have henc : v.tb.encoder = ([s.tb.encA, s.tb.encB, s.tb.pinA, s.tb.pinB], []) := hcount.encoder
  simp only [Timebase.encoder, Prod.mk.injEq, List.cons.injEq] at henc
  obtain ⟨⟨hea, heb, hpa, hpb, -⟩, -⟩ := henc
  have hsample : PosKept v v.sampleAB := by
    rw [State.sampleAB_steady (by rw [hpa, hea, ha]) (by rw [hpb, heb, hb])]
    exact (PosKept.refl v).setTb rfl
  have hend := (hcount.trans hsample).sampleZ.trans (State.tickClocks_posKept _)
  exact ⟨hend.lo, hend.hi, hend.encoder⟩

/-- Settles O2: the tick of a live device with steady pins, that with a count to register, and the tick of one that is
not live. -/
theorem idleTick : Obligations.IdleTick := by
  unfold Obligations.IdleTick
  intro s hq
  refine ⟨s.tick, by simp [step, hq], fun hl ha hb hz hc => ?steady, fun fwd t hl ha hb hc ht hen => ?counts,
    fun hl => ?lehr, fun hl hlehr => ?nothing⟩
  case steady =>
    obtain ⟨x, hx⟩ := State.inputs_steady ha hb hz hc
    rw [State.tick_live hl, hx]
    refine ⟨State.tickClocks_now _, State.tickClocks_unloaded (s := s.withTb x), State.tickClocks_lehrTime _,
      State.tickClocks_frame _, Leaves.keeps (State.endClock_leaves ?_)⟩
    have htb := (Leaves.refl (partsMask [.tb]) s).upd_tb (x := x) (by decide)
    exact (htb.within (by decide)).step (State.tickClocks_leaves _) (by decide)
  case counts =>
    have h := State.tick_registers hl ha hb hc ht hen
    exact ⟨h.pos.trans (State.moved_pos _ _), congrArg Prod.snd h.encoder⟩
  case lehr =>
    rw [State.tick_lehr hl]
    exact Leaves.keeps (State.endClock_leaves (.ite (State.tickLehr_leaves (.refl _ s) (by decide)) (.refl _ s)))
  case nothing => simp [State.tick_lehr hl, hlehr]

end Sys2Proof.Machine


namespace Sys2Proof.Machine

/-! ### Access errors (R7, R26, R445) -/

section
variable (s : State) (path : Nat) (write outside : Bool) (addr : Nat)

theorem State.countAccess_sys : Leaves (partsMask [.sysRegs]) s (s.countAccess path write outside addr) :=
  State.countAccess_leaves (.refl _ s) (by decide) path write outside addr

theorem State.countAccess_counts : Counted s (s.countAccess path write outside addr) F.SYS_ACCESS_ERR_CNT_COUNT := by
  have hbump := s.rd_bump F.SYS_ACCESS_ERR_CNT_COUNT ⟨rfl, rfl⟩
  unfold State.countAccess
  dsimp only
  split
  · exact hbump
  · exact (State.rd_setReg_ne _ _ _ (by decide)).trans hbump

theorem State.reg_bump_ne {f : Fld} {o : Nat} (h : o ≠ f.off) : (s.bump f).reg o = s.reg o := by
  unfold State.bump
  split
  · exact s.reg_wr_ne _ h
  · rfl

/-- Counting an access error changes the count and its record alone. -/
theorem State.reg_countAccess_ne {o : Nat} (hc : o ≠ F.SYS_ACCESS_ERR_CNT_COUNT.off)
    (hr : o ≠ F.SYS_ACCESS_ERR_REC_VALID.off) :
    (s.countAccess path write outside addr).reg o = s.reg o := by
  have hbump := s.reg_bump_ne hc
  unfold State.countAccess
  dsimp only
  split
  · exact hbump
  · exact (State.reg_setReg_ne _ _ hr).trans hbump

theorem State.countAccess_arrayScope : (s.countAccess path write outside addr).arrayScope = s.arrayScope :=
  congrArg (bit · 0) ((s.countAccess_sys path write outside addr).rd F.LCS_DBG_SCOPE_SCOPES_part (by decide) (by decide))

end

/-- Two accesses counted are two more on the count (R7, R438). -/
theorem counted_twice {s t u : State} {f : Fld} (h : Counted s t f) (k : Counted t u f) :
    u.rd f = min 0xffffffff (s.rd f + 2) := by
  rw [Counted] at h k
  omega

/-! ### The array debug window without its scope (R26) -/

theorem inDebug_add_four {off : Nat} (ha : off % 8 = 0) (hd : inDebug off = true) : inDebug (off + 4) = true := by
  simp only [inDebug, Bool.and_eq_true, decide_eq_true_eq] at hd ⊢
  omega

section
variable {s : State} (p : Path) {off : Nat} (hd : inDebug off = true) (hs : s.arrayScope = false)
include hd hs

theorem State.read32_closed : s.read32 p off = (s.countAccess (pathCode p) false false off, 0, true) := by
  simp [State.read32, hd, hs]

theorem State.write32_closed (v : Nat) : s.write32 p off v = s.countAccess (pathCode p) true false off := by
  simp [State.write32, State.dbgWrite, hd, hs]

theorem State.ctrlRead_closed (ha : off % 4 = 0) :
    s.ctrlRead p 4 off = (s.countAccess (pathCode p) false false off).answerRead p off 0 true := by
  simp [State.ctrlRead, ha, hs, State.read32_closed p hd hs]

theorem State.ctrlWrite_closed (ha : off % 4 = 0) (v : Nat) :
    s.ctrlWrite p 4 off v = s.countAccess (pathCode p) true false off := by
  simp [State.ctrlWrite, ha, State.write32_closed p hd hs]

theorem State.ctrlRead_closedWide (ha : off % 8 = 0) : s.ctrlRead p 8 off =
    ((s.countAccess (pathCode p) false false off).countAccess (pathCode p) false false (off + 4)).answerRead p off 0 true := by
  have hscope := (s.countAccess_arrayScope (pathCode p) false false off).trans hs
  simp [State.ctrlRead, ha, hs, State.read32_closed p hd hs, State.read32_closed p (inDebug_add_four ha hd) hscope]

theorem State.ctrlWrite_closedWide (ha : off % 8 = 0) (v : Nat) : s.ctrlWrite p 8 off v =
    (s.countAccess (pathCode p) true false off).countAccess (pathCode p) true false (off + 4) := by
  have hscope := (s.countAccess_arrayScope (pathCode p) true false off).trans hs
  simp [State.ctrlWrite, ha, State.write32_closed p hd hs, State.write32_closed p (inDebug_add_four ha hd) hscope]

end

theorem exec_arrayDebugWindowAccess {s : State} (a : Access) (w : Option (BitVec 64)) (hl : s.live = true)
    (hp : s.pathOpen a.path = true) (hd : inDebug a.off.toNat = true) :
    exec (.arrayDebugWindowAccess a w) s = .next (s.endClock (s.access a.path a.width a.off.toNat w)) := by
  simp only [exec, execArrayDebugWindowAccess, onPath_open hl hp, hd, if_true]

@[simp] theorem State.answerRead_rd (s : State) (p : Path) (off val : Nat) (err : Bool) (f : Fld) :
    (s.answerRead p off val err).rd f = s.rd f := by
  cases p <;> rfl

/-- Settles O17: each access of 32 bits of the closed window is one count, and one of 64 bits is two. -/
theorem debugWindowClosedRule : Obligations.DebugWindowClosedRule := by
  unfold Obligations.DebugWindowClosedRule
  refine ⟨fun s p off hl hp ha hd hs => ?read, fun s p off hl hp ha hd hs => ?readWide,
    fun s p off v hl hp ha hd hs => ?write, fun s p off v hl hp ha hd hs => ?writeWide⟩
  case read =>
    have hcount := s.countAccess_sys (pathCode p) false false off.toNat
    refine ⟨_, exec_arrayDebugWindowAccess _ _ hl hp hd, ?_⟩
    rw [State.access, State.ctrlRead_closed p hd hs ha]
    refine ⟨answers_answerRead (hcount.same .out (by decide)) .., ?_,
      keeps_answerRead (hcount.within (by decide)) (by decide) _ _ _ _⟩
    simpa only [Counted, State.endClock_rd, State.answerRead_rd] using s.countAccess_counts (pathCode p) false false off.toNat
  case readWide =>
    have hcount := (s.countAccess_sys (pathCode p) false false off.toNat).step (State.countAccess_sys _ (pathCode p) false false
      (off.toNat + 4)) (by decide)
    refine ⟨_, exec_arrayDebugWindowAccess _ _ hl hp hd, ?_⟩
    rw [State.access, State.ctrlRead_closedWide p hd hs ha]
    refine ⟨answers_answerRead (hcount.same .out (by decide)) .., ?_,
      keeps_answerRead (hcount.within (by decide)) (by decide) _ _ _ _⟩
    rw [State.endClock_rd, State.answerRead_rd]
    exact counted_twice (s.countAccess_counts ..) (State.countAccess_counts ..)
  case write =>
    refine ⟨_, exec_arrayDebugWindowAccess _ _ hl hp hd, ?_⟩
    rw [State.access, State.ctrlWrite_closed p hd hs ha]
    exact ⟨s.countAccess_counts .., fun o hc hr => s.reg_countAccess_ne _ _ _ _ hc hr,
      (State.endClock_leaves (s.countAccess_sys ..)).keeps⟩
  case writeWide =>
    refine ⟨_, exec_arrayDebugWindowAccess _ _ hl hp hd, ?_⟩
    rw [State.access, State.ctrlWrite_closedWide p hd hs ha]
    exact ⟨counted_twice (s.countAccess_counts ..) (State.countAccess_counts ..),
      (State.endClock_leaves ((s.countAccess_sys ..).step (State.countAccess_sys ..) (by decide))).keeps⟩

end Sys2Proof.Machine


namespace Sys2Proof.Machine

/-! ### One bit of a field -/

/-- The bit put is the bit read. -/
theorem testBit_setBitTo (w i : Nat) (b : Bool) : (setBitTo w i b).testBit i = b := by
  unfold setBitTo
  split
  · assumption
  · next hw =>
    cases b with
    | true =>
      rw [if_pos rfl, Nat.add_comm, Nat.testBit_two_pow_add_eq]
      simpa using hw
    | false =>
      have hset : w.testBit i = true := by simpa using hw
      have hsplit := Nat.testBit_two_pow_add_eq (w - 2 ^ i) i
      rw [Nat.add_sub_cancel' (Nat.ge_two_pow_of_testBit hset), hset] at hsplit
      simpa using hsplit

/-- A bit put into a field that has it is read back. -/
theorem State.bit_rd_wr (s : State) {f : Fld} (hf : f.ok) {i : Nat} (hi : i < f.hi - f.lo + 1) (b : Bool) :
    bit ((s.wr f (setBitTo (s.rd f) i b)).rd f) i = b := by
  rw [s.rd_wr f _ hf, bit, Nat.testBit_mod_two_pow, testBit_setBitTo]
  simp [hi]

/-! ### What register writes and updates leave -/

@[simp] theorem State.withPwr_rd (s : State) (x : PwrState) (f : Fld) : (s.withPwr x).rd f = s.rd f := rfl
@[simp] theorem State.endClock_lehr (s t : State) : (s.endClock t).lehr = t.lehr := rfl
@[simp] theorem State.endClock_pwr (s t : State) : (s.endClock t).pwr = t.pwr := rfl
@[simp] theorem State.endClock_sto (s t : State) : (s.endClock t).sto = t.sto := rfl
@[simp] theorem State.wr_spineOn (s : State) (f : Fld) (v : Nat) : (s.wr f v).spineOn = s.spineOn :=
  State.withRegs_spineOn _ _
@[simp] theorem State.wr_lehr (s : State) (f : Fld) (v : Nat) : (s.wr f v).lehr = s.lehr := State.withRegs_lehr _ _
@[simp] theorem State.wr_pwr (s : State) (f : Fld) (v : Nat) : (s.wr f v).pwr = s.pwr := State.withRegs_pwr _ _

/-! ### A write that stores and sets going (R8, R368) -/

/-- A write of a register outside the marver units stores, and then sets going what its block makes of it. -/
theorem State.write32_stored (s : State) (p : Path) {off : Nat} (v : Nat) {r : RegRow} {b : Block} {i rel : Nat}
    (hr : regRow? off = some r) (hb : blockAt off = some (b, i, rel)) (hm : b ≠ .mrv) :
    s.write32 p off v = (s.stored p off v).written b i rel (s.reg off).toNat v := by
  rw [s.write32_register p v hr hb, State.columnsAs, if_neg hm]
  simp only [State.stored, hr, hb]

/-- The row of PWR_CTRL in the register map. -/
def pwrCtrlRow : RegRow := ⟨"CTRL", 0x0, 0x0, 1, [⟨31, 31, .w1s, 0⟩, ⟨30, 0, .mbz, 0⟩]⟩

theorem exec_s4Req {s : State} {p : Path} (hl : s.live = true) (hp : s.pathOpen p = true) (v : BitVec 32) :
    exec (.s4Req p v) s = .next (s.endClock (s.stored p 0x10000 (v ||| 0x80000000).toNat).askS4) := by
  have hr : regRow? 0x10000 = some pwrCtrlRow := by decide +kernel
  have hb : blockAt 0x10000 = some (.pwr, 0, 0) := by decide +kernel
  have hbit : bit (v ||| 0x80000000).toNat 31 = true := by
    rw [bit, BitVec.toNat_or, Nat.testBit_or, Bool.or_eq_true]
    exact .inr (by decide)
  simp only [exec, execS4Req, writeAt_open hl hp, s.write32_stored p _ hr hb (by decide), State.written, hbit, if_true]

/-! ### The request for S4 (R368) -/

/-- The entry begins: what the request sets, before the store ends and the steps after it. -/
def State.s4Begun (s : State) : State := s.withPwr { s.pwr with s4Entry := true, s4Left := false }

section
variable {s : State} (he : s.pwr.s4Entry = false)
include he

theorem State.askS4_safe (hs : s.safe = true) : s.askS4 = s.wr F.PWR_CTRL_S4_REQ 0 := by
  simp [State.askS4, he, hs]

theorem State.askS4_busy (hs : s.safe = false) (hq : s.allQuiet = false) :
    s.askS4 = (s.wr F.PWR_CTRL_S4_REQ 0).wr F.PWR_STAT_S4_RESULT 3 := by
  simp [State.askS4, he, hs, hq]

theorem State.askS4_sourceless (hs : s.safe = false) (hq : s.allQuiet = true) (hw : s.rd F.PWR_WAKE_EN_SRC = 0) :
    s.askS4 = (s.wr F.PWR_CTRL_S4_REQ 0).wr F.PWR_STAT_S4_RESULT 4 := by
  simp [State.askS4, he, hs, hq, hw]

theorem State.askS4_begins (hs : s.safe = false) (hq : s.allQuiet = true) (hw : s.rd F.PWR_WAKE_EN_SRC ≠ 0) :
    s.askS4 = if s.s4Begun.endStore.sto.queue.isEmpty then s.s4Begun.endStore.s4Steps else s.s4Begun.endStore := by
  simp [State.askS4, he, hs, hq, hw, State.s4Begun]

end

/-- A refused request leaves its result, and the request bit cleared. -/
theorem State.rd_s4Refused (s : State) {n : Nat} (hn : n < 8) :
    ((s.wr F.PWR_CTRL_S4_REQ 0).wr F.PWR_STAT_S4_RESULT n).rd F.PWR_STAT_S4_RESULT = n ∧
      ((s.wr F.PWR_CTRL_S4_REQ 0).wr F.PWR_STAT_S4_RESULT n).rd F.PWR_CTRL_S4_REQ = 0 := by
  refine ⟨(State.rd_wr _ _ _ ⟨by decide, by decide⟩).trans (Nat.mod_eq_of_lt hn), ?_⟩
  exact (State.rd_setReg_ne _ _ _ (by decide)).trans (State.rd_wr _ _ _ ⟨by decide, by decide⟩)

/-- The end of the store leaves the power state. -/
theorem State.endStore_pwr (s : State) : s.endStore.pwr = s.pwr :=
  (State.endStore_leaves (.refl 0x10019990080000002810 s) (by decide)).same .pwr (by decide)

/-- The steps of the entry are marked as taken, and the save list is captured (R374). -/
theorem State.s4Steps_taken (s : State) : s.s4Steps.pwr = { s.pwr with s4Left := true } ∧
    s.s4Steps.rd F.PWR_SAVE_CFG_CAPTURED = 1 := by
  have hleave := State.captureSave_leaves (State.leaveGroup_leaves
    (.refl (partsMask (eventParts ++ [.tbRegs, .pwrRegs, .lehr])) s) (by decide)) (by decide)
  have hpwr : s.leaveGroup.captureSave.pwr = s.pwr := hleave.same .pwr (by decide)
  have hcaptured : s.leaveGroup.captureSave.rd F.PWR_SAVE_CFG_CAPTURED = 1 := State.rd_wr _ _ _ ⟨by decide, by decide⟩
  refine ⟨?_, (State.withPwr_rd _ _ _).trans hcaptured⟩
  rw [← hpwr]
  exact State.withPwr_pwr _ _

theorem State.s4Steps_sto (s : State) : s.s4Steps.sto = s.sto :=
  (State.s4Steps_leaves (.refl 0x100c1990080000002112 s) (by decide)).same .sto (by decide)

/-- Ending commits leaves no other commit and nothing else of the store. -/
theorem State.endCommits_sto (s : State) : s.endCommits.sto = { s.sto with queue := [] } := by
  have habort := State.abortCommits_leaves (.refl 0x10009990080000002810 (s.setCommits [])) (by decide) s.sto.queue
  have hsto : (s.setCommits []).sto = { s.sto with queue := [] } := State.withRegs_sto _ _
  exact (habort.same .sto (by decide)).trans hsto

/-- A store that is READY keeps its commits at the request; any other ends them (R300). -/
theorem State.s4Begun_endStore_sto (s : State) :
    s.s4Begun.endStore.sto = if s.on F.STO_STAT_READY then s.sto else { s.sto with queue := [] } := by
  have hready : s.s4Begun.on F.STO_STAT_READY = s.on F.STO_STAT_READY := congrArg (· != 0) (s.withPwr_rd _ _)
  unfold State.endStore
  rw [hready]
  split
  · exact State.withPwr_sto _ _
  · exact (State.endCommits_sto _).trans (congrArg (fun x : Sto => { x with queue := [] }) (State.withPwr_sto _ _))

theorem State.s4Begun_endStore_pwr (s : State) : s.s4Begun.endStore.pwr = { s.pwr with s4Entry := true, s4Left := false } :=
  (State.endStore_pwr _).trans (State.withPwr_pwr _ _)

section
variable {s : State} (he : s.pwr.s4Entry = false) (hs : s.safe = false) (hq : s.allQuiet = true)
  (hw : s.rd F.PWR_WAKE_EN_SRC ≠ 0)
include he hs hq hw

/-- With no commit left to finish, the entry takes its steps (R368). -/
theorem State.askS4_steps (h : s.s4Begun.endStore.sto.queue = []) : s.askS4 = s.s4Begun.endStore.s4Steps := by
  rw [State.askS4_begins he hs hq hw, h, List.isEmpty_nil, if_pos rfl]

/-- A commit in progress is awaited (R368). -/
theorem State.askS4_waits (h : s.s4Begun.endStore.sto.queue ≠ []) : s.askS4 = s.s4Begun.endStore := by
  rw [State.askS4_begins he hs hq hw, if_neg (by simpa using h)]

theorem State.askS4_entry : s.askS4.pwr.s4Entry = true := by
  by_cases h : s.s4Begun.endStore.sto.queue = []
  · rw [State.askS4_steps he hs hq hw h, (State.s4Steps_taken _).1, State.s4Begun_endStore_pwr]
  · rw [State.askS4_waits he hs hq hw h, State.s4Begun_endStore_pwr]

theorem State.askS4_taken (hnone : s.sto.queue = []) : s.askS4.pwr.s4Left = true ∧ s.askS4.rd F.PWR_SAVE_CFG_CAPTURED = 1 := by
  have h : s.s4Begun.endStore.sto.queue = [] := by
    rw [State.s4Begun_endStore_sto]
    split
    · exact hnone
    · rfl
  obtain ⟨hpwr, hcaptured⟩ := s.s4Begun.endStore.s4Steps_taken
  rw [State.askS4_steps he hs hq hw h, hpwr]
  exact ⟨rfl, hcaptured⟩

theorem State.askS4_held (hcommits : s.sto.queue ≠ []) (hready : s.on F.STO_STAT_READY = true) :
    s.askS4.pwr.s4Left = false ∧ s.askS4.lehr = s.lehr ∧ s.askS4.sto = s.sto := by
  have hsto := s.s4Begun_endStore_sto
  rw [hready, if_pos rfl] at hsto
  have hend := State.endStore_leaves (.refl 0x10019990080000002810 s.s4Begun) (by decide)
  rw [State.askS4_waits he hs hq hw (by rw [hsto]; exact hcommits), State.s4Begun_endStore_pwr]
  exact ⟨rfl, (hend.same .lehr (by decide)).trans (State.withPwr_lehr _ _), hsto⟩

theorem State.askS4_ends (hready : s.on F.STO_STAT_READY = false) : s.askS4.sto.queue = [] := by
  have hsto := s.s4Begun_endStore_sto
  rw [hready, if_neg Bool.false_ne_true] at hsto
  have h : s.s4Begun.endStore.sto.queue = [] := congrArg Sto.queue hsto
  rw [State.askS4_steps he hs hq hw h, State.s4Steps_sto, h]

end

/-! ### The wake sources (R369, R370) -/

theorem actLehr_on {s : State} (h : s.lehrOn = true) (f : State → State) : actLehr s f = .next (s.endClock (f s)) := by
  simp [actLehr, h]

/-- A command of the lehr that changes nothing changes nothing without the lehr either. -/
theorem actLehr_same {s : State} {f : State → State} (h : f s = s) : actLehr s f = .next s := by
  simp [actLehr, h]

/-- The latch of a wake source that fires. -/
def State.woken (s : State) (b : Nat) : State :=
  s.wr F.PWR_WAKE_SRC_SRC (setBitTo (s.rd F.PWR_WAKE_SRC_SRC) b true)

theorem State.fireWake_disabled {s : State} {b : Nat} (h : bit (s.rd F.PWR_WAKE_EN_SRC) b = false) : s.fireWake b = s := by
  simp [State.fireWake, h]

section
variable {s : State} {b : Nat} (h : bit (s.rd F.PWR_WAKE_EN_SRC) b = true)
include h

theorem State.fireWake_inS4 (h4 : s.lehr.s4 = true) :
    s.fireWake b = (s.woken b).withLehr { s.lehr with waking := true } := by
  exact (if_neg (by simp [h])).trans (if_pos h4)

theorem State.fireWake_entering (h4 : s.lehr.s4 = false) (he : s.pwr.s4Entry = true) :
    s.fireWake b = (s.woken b).abandonS4 := by
  exact (if_neg (by simp [h])).trans ((if_neg (Bool.eq_false_iff.1 h4)).trans (if_pos he))

theorem State.fireWake_running (h4 : s.lehr.s4 = false) (he : s.pwr.s4Entry = false) : s.fireWake b = s.woken b := by
  exact (if_neg (by simp [h])).trans ((if_neg (Bool.eq_false_iff.1 h4)).trans (if_neg (Bool.eq_false_iff.1 he)))

end

/-- A source that fires sets its bit (R369). -/
theorem State.bit_woken (s : State) {b : Nat} (hb : b < 4) : bit ((s.woken b).rd F.PWR_WAKE_SRC_SRC) b = true :=
  s.bit_rd_wr ⟨by decide, by decide⟩ hb true

/-- What abandoning an entry writes before its event. -/
def State.s4Abandoned (s : State) : State :=
  (((s.withPwr { s.pwr with s4Entry := false, s4Left := false }).wr F.PWR_CTRL_S4_REQ 0).wr F.PWR_STAT_S4_RESULT 2).wr
    F.PWR_STAT_S4_ABORT 1

/-- An abandoned entry raises its event, and may ask to join again. -/
theorem State.abandonS4_asks (s : State) : Leaves 0x10000000080000000000 (s.s4Abandoned.raise Ev.PWR_S4_ABORT) s.abandonS4 :=
  .ite (State.askJoin_leaves (.refl _ _) (by decide)) (.refl _ _)

theorem State.abandonS4_raises (s : State) : Leaves 0x10001990080000002010 s.s4Abandoned s.abandonS4 :=
  (State.raise_leaves (.refl _ _) (by decide) _).step s.abandonS4_asks (by decide)

/-- What an abandoned entry leaves (R370). -/
theorem State.abandonS4_result (s : State) :
    s.abandonS4.pwr.s4Entry = false ∧ s.abandonS4.rd F.PWR_STAT_S4_RESULT = 2 ∧
      s.abandonS4.rd F.PWR_STAT_S4_ABORT = 1 ∧ Pends s.abandonS4 Ev.PWR_S4_ABORT ∧
      s.abandonS4.rd F.PWR_WAKE_SRC_SRC = s.rd F.PWR_WAKE_SRC_SRC := by
  have kept {f : Fld} (hf : regPart f.off = .pwrRegs) : s.abandonS4.rd f = s.s4Abandoned.rd f :=
    s.abandonS4_raises.rd hf (by decide) (by decide)
  refine ⟨?entry, ?result, ?abort, ?pends, ?source⟩
  case entry => exact congrArg PwrState.s4Entry (s.abandonS4_raises.same .pwr (by decide))
  case result =>
    rw [kept F.PWR_STAT_S4_RESULT_part]
    exact (State.rd_wr_apart _ _ _ _ ⟨by decide, by decide⟩ ⟨by decide, by decide⟩ (.inr (.inl (by decide)))).trans
      (State.rd_wr _ _ _ ⟨by decide, by decide⟩)
  case abort => exact (kept F.PWR_STAT_S4_ABORT_part).trans (State.rd_wr _ _ _ ⟨by decide, by decide⟩)
  case pends =>
    exact (s.abandonS4_asks.rd (regPart_evtRegs (by decide) (by decide)) (by decide) (by decide)).trans (State.rd_raise_self _ _)
  case source =>
    rw [kept F.PWR_WAKE_SRC_SRC_part]
    exact ((State.rd_setReg_ne _ _ _ (by decide)).trans (State.rd_setReg_ne _ _ _ (by decide))).trans
      (State.rd_setReg_ne _ _ _ (by decide))

/-- What a wake source that fires while it is enabled leaves: its bit, a wake in S4, an entry abandoned, and otherwise nothing
more than registers of the block (R369, R370). -/
theorem State.fireWake_wakes {s : State} {b : Nat} (hb : b < 4) (h : bit (s.rd F.PWR_WAKE_EN_SRC) b = true) :
    bit ((s.fireWake b).rd F.PWR_WAKE_SRC_SRC) b = true ∧
      (s.lehr.s4 = true → (s.fireWake b).lehr.waking = true) ∧
      (s.lehr.s4 = false → s.pwr.s4Entry = true → (s.fireWake b).pwr.s4Entry = false ∧
        (s.fireWake b).rd F.PWR_STAT_S4_RESULT = 2 ∧ (s.fireWake b).rd F.PWR_STAT_S4_ABORT = 1 ∧
        Pends (s.fireWake b) Ev.PWR_S4_ABORT) ∧
      (s.lehr.s4 = true ∨ s.pwr.s4Entry = false → Leaves (partsMask [.pwrRegs, .lehr]) s (s.fireWake b)) := by
  have hbit := s.bit_woken hb
  have hleaves : Leaves (partsMask [.pwrRegs, .lehr]) s (s.woken b) := (Leaves.refl _ s).wr (by decide)
  cases h4 : s.lehr.s4 with
  | true =>
    rw [State.fireWake_inS4 h h4]
    exact ⟨hbit, fun _ => rfl, by simp, fun _ => hleaves.upd_lehr (by decide)⟩
  | false =>
    cases he : s.pwr.s4Entry with
    | true =>
      rw [State.fireWake_entering h h4 he]
      obtain ⟨hentry, hresult, habort, hpend, hsrc⟩ := (s.woken b).abandonS4_result
      exact ⟨hsrc ▸ hbit, by simp, fun _ _ => ⟨hentry, hresult, habort, hpend⟩, by simp⟩
    | false =>
      rw [State.fireWake_running h h4 he]
      exact ⟨hbit, by simp, by simp, fun _ => hleaves⟩

/-! ### The crystal and the save list (R372, R374) -/

theorem exec_wakeN {s : State} (h : s.lehrOn = true) : exec .wakeN s = .next (s.endClock (s.fireWake 1)) := by
  simp only [exec, execWakeN, actLehr_on h]

theorem exec_perstWake {s : State} (h : s.lehrOn = true) : exec .perstWake s = .next (s.endClock (s.fireWake 3)) := by
  simp only [exec, execPerstWake, actLehr_on h]

theorem exec_supplyPowerGoodLoss {s : State} (h : s.lehrOn = true) : exec .supplyPowerGoodLoss s = .next (s.endClock
    (if s.lehr.s4 then s.withLehr { s.lehr with railsOff := true } else s.withFab { s.fab with supplyLost := true })) := by
  simp only [exec, execSupplyPowerGoodLoss, actLehr_on h]

theorem exec_seqPgRise {s : State} (h : s.lehrOn = true) : exec .seqPgRise s = .next (s.endClock
    ((s.withLehr { s.lehr with railsOff := false }).withFab { s.fab with supplyLost := false })) := by
  simp only [exec, execSeqPgRise, actLehr_on h]

theorem exec_xtalGood {s : State} (h : s.lehrOn = true) (hx : s.on F.PWR_STAT_ON_XTAL = false) :
    exec .xtalGood s = .next (s.endClock (s.setXtal true)) := by
  simp [exec, execXtalGood, actLehr_on h, hx]

theorem exec_xtalLoss {s : State} (h : s.lehrOn = true) (hx : s.on F.PWR_STAT_ON_XTAL = true) :
    exec .xtalLoss s = .next (s.endClock (s.setXtal false)) := by
  simp [exec, execXtalLoss, actLehr_on h, hx]

/-- A change of the crystal shows in both flags; its event needs the spine (R14, R372). -/
theorem State.setXtal_shows (s : State) (b : Bool) :
    ((s.setXtal b).rd F.PWR_STAT_XTAL_OK = b2n b ∧ (s.setXtal b).rd F.PWR_STAT_ON_XTAL = b2n b) ∧
      (s.spineOn = true → Pends (s.setXtal b) Ev.PWR_XTAL) ∧
      (s.spineOn = false → ∀ o, o ≠ 0x10004 → (s.setXtal b).reg o = s.reg o) := by
  have hon : ((s.wr F.PWR_STAT_XTAL_OK (b2n b)).wr F.PWR_STAT_ON_XTAL (b2n b)).rd F.PWR_STAT_ON_XTAL = b2n b % 2 :=
    State.rd_wr _ _ _ ⟨by decide, by decide⟩
  have hok : ((s.wr F.PWR_STAT_XTAL_OK (b2n b)).wr F.PWR_STAT_ON_XTAL (b2n b)).rd F.PWR_STAT_XTAL_OK = b2n b % 2 :=
    (State.rd_wr_apart _ _ _ _ ⟨by decide, by decide⟩ ⟨by decide, by decide⟩ (.inr (.inl (by decide)))).trans
      (State.rd_wr _ _ _ ⟨by decide, by decide⟩)
  have hspine : ((s.wr F.PWR_STAT_XTAL_OK (b2n b)).wr F.PWR_STAT_ON_XTAL (b2n b)).spineOn = s.spineOn := by simp
  have hreg {o : Nat} (ho : o ≠ 0x10004) : ((s.wr F.PWR_STAT_XTAL_OK (b2n b)).wr F.PWR_STAT_ON_XTAL (b2n b)).reg o = s.reg o :=
    (State.reg_wr_ne _ _ ho).trans (State.reg_wr_ne _ _ ho)
  have hsmall : b2n b % 2 = b2n b := by cases b <;> rfl
  rw [hsmall] at hon hok
  unfold State.setXtal
  dsimp only
  generalize (s.wr F.PWR_STAT_XTAL_OK (b2n b)).wr F.PWR_STAT_ON_XTAL (b2n b) = t at *
  rw [← hspine]
  cases hs : t.spineOn with
  | true =>
    rw [if_pos rfl, State.rd_raise _ _ F.PWR_STAT_XTAL_OK_part (by decide),
      State.rd_raise _ _ F.PWR_STAT_ON_XTAL_part (by decide)]
    exact ⟨⟨hok, hon⟩, fun _ => t.rd_raise_self _, by simp⟩
  | false => exact ⟨⟨hok, hon⟩, by simp, fun _ o ho => hreg ho⟩

/-- The row of PWR_SAVE_OFS in the register map. -/
def pwrSaveOfsRow : RegRow :=
  ⟨"SAVE_OFS", 0x88, 0x0, 1, [⟨31, 26, .mbz, 0⟩, ⟨25, 2, .rw, 0⟩, ⟨1, 1, .mbz, 0⟩, ⟨0, 0, .ro, 0⟩]⟩

/-- A write of PWR_SAVE_OFS leaves the traces of R9 and R13, and stores in the list (R374). -/
theorem State.write32_saveOfs (s : State) (p : Path) (v : Nat) :
    ∃ x, Leaves 0x10001990080000002011 s x ∧ s.write32 p 0x10088 v = x.saveOfs v := by
  have hr : regRow? 0x10088 = some pwrSaveOfsRow := by decide +kernel
  have hb : blockAt 0x10088 = some (.pwr, 0, 0x88) := by decide +kernel
  refine ⟨_, State.writeTraces_leaves (.refl _ s) (by decide) p 0x10088 v .pwr 0 pwrSaveOfsRow, ?_⟩
  rw [s.write32_register p v hr hb]
  simp [State.columnsAs, State.storeReg, State.putReg, State.written]

/-- What a write of PWR_SAVE_OFS stores in the list (R374). -/
theorem State.saveOfs_stores (s : State) (v : Nat) :
    (s.saveOfs v).lehr.save = Tab.set (fun _ => (0, 0)) s.lehr.save (s.rd F.PWR_SAVE_IDX_IDX) (slice v 25 2 * 4,
        (Tab.get (fun _ => (0, 0)) s.lehr.save (s.rd F.PWR_SAVE_IDX_IDX)).2) ∧
      (s.saveOfs v).rd F.PWR_SAVE_IDX_IDX = (s.rd F.PWR_SAVE_IDX_IDX + 1) % 8192 :=
  ⟨congrArg Lehr.save (State.wr_lehr _ _ _), State.rd_wr _ _ _ ⟨by decide, by decide⟩⟩

/-- Settles O54: the request for S4 in each of its cases, the wake sources, the crystal, the save list and power-good. -/
theorem wakes : Obligations.Wakes := by
  unfold Obligations.Wakes
  refine ⟨fun s p v x hl hp hx he hs => ?s4Req, fun s p v x hl hp hx he hs => ?s4ReqSafe, fun s hon hen => ?wakeN,
    fun s h4 hen hedges => ?encWake, fun s hfew => ?encWakeFewEdges, fun s hon hen => ?perstWake,
    fun s hon htime hen => ?timerWake, fun s hwait => ?timerWaits, fun s hdis => ?wakeNDisabled, fun s hon hx => ?xtalGood,
    fun s hon hx => ?xtalLoss, fun s hx => ?xtalStays, fun s p v hl hp => ?pwrSaveOfsWrite, fun s hon => ?supplyPowerGoodLoss,
    fun s hon => ?seqPgRise⟩
  case s4Req =>
    refine ⟨_, exec_s4Req hl hp v, ?_⟩
    rw [hx]
    simp only [State.endClock_rd, State.endClock_pwr, State.endClock_lehr, State.endClock_sto]
    refine ⟨fun hq => ?busy, fun hq hw => ?sourceless, fun hq hw => ?begins, fun hq hw hnone => ?leaves,
      fun hq hw hcommits hready => ?waits, fun hq hw hready => ?ends⟩
    case busy =>
      rw [State.askS4_busy he hs hq]
      obtain ⟨hresult, hreq⟩ := x.rd_s4Refused (n := 3) (by decide)
      exact ⟨hresult, hreq, (State.wr_pwr _ _ _).trans (State.wr_pwr _ _ _)⟩
    case sourceless =>
      rw [State.askS4_sourceless he hs hq hw]
      obtain ⟨hresult, hreq⟩ := x.rd_s4Refused (n := 4) (by decide)
      exact ⟨hresult, hreq, (State.wr_pwr _ _ _).trans (State.wr_pwr _ _ _)⟩
    case begins => exact State.askS4_entry he hs hq hw
    case leaves => exact State.askS4_taken he hs hq hw hnone
    case waits => exact State.askS4_held he hs hq hw hcommits hready
    case ends => exact State.askS4_ends he hs hq hw hready
  case s4ReqSafe =>
    refine ⟨_, exec_s4Req hl hp v, ?_⟩
    rw [hx, State.askS4_safe he hs]
    beta_reduce
    rw [State.endClock_rd, State.endClock_rd, State.endClock_pwr, State.endClock_lehr]
    refine ⟨State.rd_wr _ _ _ ⟨by decide, by decide⟩, ⟨State.wr_pwr _ _ _, State.wr_lehr _ _ _⟩, ?_⟩
    exact (State.rd_setReg_ne _ _ _ (by decide)).trans (by simpa [State.safe] using hs)
  case wakeN =>
    obtain ⟨hbit, hwaking, habandon, hleaves⟩ := State.fireWake_wakes (by decide) hen
    refine ⟨_, exec_wakeN hon, ?_⟩
    simp only [Pends, State.endClock_rd, State.endClock_pwr, State.endClock_lehr]
    exact ⟨hbit, hwaking, habandon, fun he => (State.endClock_leaves (hleaves (.inr he))).keeps⟩
  case encWake =>
    obtain ⟨hbit, hwaking, -, hleaves⟩ := State.fireWake_wakes (by decide) hen
    refine ⟨_, actLehr_on (by simp [State.lehrOn, h4]) _, ?_⟩
    rw [if_pos (by simp [h4, hedges])]
    simp only [State.endClock_rd, State.endClock_lehr]
    exact ⟨hbit, hwaking h4, (State.endClock_leaves (hleaves (.inl h4))).keeps⟩
  case encWakeFewEdges =>
    refine ⟨_, actLehr_same (if_neg ?_), rfl⟩
    rcases hfew with h | h
    · simp [h]
    · simp only [Bool.and_eq_true, decide_eq_true_eq]
      omega
  case perstWake =>
    obtain ⟨hbit, hwaking, habandon, hleaves⟩ := State.fireWake_wakes (by decide) hen
    refine ⟨_, exec_perstWake hon, ?_⟩
    simp only [Pends, State.endClock_rd, State.endClock_pwr, State.endClock_lehr]
    refine ⟨hbit, hwaking, fun h4 he => ?_, fun he => (State.endClock_leaves (hleaves (.inr he))).keeps⟩
    obtain ⟨hentry, hresult, -, hpend⟩ := habandon h4 he
    exact ⟨hentry, hresult, hpend⟩
  case timerWake =>
    obtain ⟨hbit, hwaking, habandon, -⟩ := State.fireWake_wakes (by decide) hen
    refine ⟨_, actLehr_on hon _, ?_⟩
    rw [if_pos htime]
    simp only [Pends, State.endClock_rd, State.endClock_pwr, State.endClock_lehr]
    refine ⟨hbit, hwaking, fun h4 he => ?_⟩
    obtain ⟨hentry, hresult, -, hpend⟩ := habandon h4 he
    exact ⟨hentry, hresult, hpend⟩
  case timerWaits =>
    refine ⟨_, actLehr_same ?_, rfl⟩
    rcases hwait with h | h
    · exact if_neg (by omega)
    · rw [State.fireWake_disabled h, ite_self]
  case wakeNDisabled => exact ⟨s, actLehr_same (f := fun s => s.fireWake 1) (State.fireWake_disabled hdis), rfl⟩
  case xtalGood =>
    refine ⟨_, exec_xtalGood hon hx, ?_⟩
    simp only [Pends, State.endClock_rd, State.endClock_reg]
    exact s.setXtal_shows true
  case xtalLoss =>
    obtain ⟨hshow, hpend, -⟩ := s.setXtal_shows false
    refine ⟨_, exec_xtalLoss hon hx, ?_⟩
    simp only [Pends, State.endClock_rd]
    exact ⟨hshow, hpend⟩
  case xtalStays =>
    exact ⟨s, actLehr_same (f := fun s => if s.on F.PWR_STAT_ON_XTAL then s else s.setXtal true) (if_pos hx), rfl⟩
  case pwrSaveOfsWrite =>
    obtain ⟨x, hleaves, hx⟩ := s.write32_saveOfs p v.toNat
    have hidx := hleaves.rd F.PWR_SAVE_IDX_IDX_part (by decide) (by decide)
    have hlehr : x.lehr = s.lehr := hleaves.same .lehr (by decide)
    refine ⟨_, writeAt_open hl hp _ v, ?_⟩
    obtain ⟨hsave, hnext⟩ := x.saveOfs_stores v.toNat
    rw [hx, ← hidx, ← hlehr, State.endClock_rd, State.endClock_lehr, hsave]
    exact ⟨Tab.get_set_same _ _ _ _, hnext, fun i hi => Tab.get_set_ne _ _ _ hi⟩
  case supplyPowerGoodLoss =>
    refine ⟨_, exec_supplyPowerGoodLoss hon, fun h4 => ?_, fun h4 => ?_⟩
    · rw [h4]; rfl
    · rw [h4]; rfl
  case seqPgRise =>
    exact ⟨_, exec_seqPgRise hon, ⟨rfl, rfl⟩,
      (State.endClock_leaves (((Leaves.refl _ s).upd_lehr (by decide)).upd_fab (by decide))).keeps⟩

end Sys2Proof.Machine


namespace Sys2Proof.Machine

/-! ### What leaves the device stays sent -/

theorem State.emit_out (s : State) (o : Output) : (s.emit o).out = s.out ++ [o] := State.withOut_out _ _

theorem State.emits (s : State) (o : Output) : s.out <+: (s.emit o).out := s.emit_out o ▸ List.prefix_append _ _

@[simp] theorem State.wr_out (s : State) (f : Fld) (v : Nat) : (s.wr f v).out = s.out := State.withRegs_out _ _

/-- What leaves along a list only adds to what has left, if each element's operation does. -/
theorem forEach_emits {α : Type} {f : α → State → State} (hf : ∀ a s, s.out <+: (f a s).out) (l : List α) (s : State) :
    s.out <+: (forEach l f s).out := by
  unfold forEach
  induction l generalizing s with
  | nil => exact List.prefix_rfl
  | cons a l ih => exact (hf a s).trans (ih _)

theorem State.post_emits (s : State) (o : Output) : s.out <+: (s.post o).out := by
  unfold State.post
  split
  · exact s.emits o
  · exact List.prefix_rfl

theorem State.msix_emits (s : State) (v : Nat) : s.out <+: (s.msix v).out := by
  unfold State.msix State.sendMsix
  split
  · exact List.prefix_rfl
  · split
    · exact List.prefix_rfl
    · exact State.post_emits (s.withPcie { s.pcie with sent := v :: s.pcie.sent }) _

theorem State.flood_emits (s : State) (m : IrcMsg) : s.out <+: (s.flood m).out :=
  (forEach_emits (fun _ s => s.emits _) _ s).trans List.prefix_rfl

theorem State.routeEvent_emits (s : State) (src : Nat) (rose flood : Bool) : s.out <+: (s.routeEvent src rose flood).out := by
  have hmsix : s.out <+: (if s.on (F.EVT_ROUTE_MSIX_EN src) && rose then s.msix (s.rd (F.EVT_ROUTE_VECTOR src)) else s).out := by
    split
    · exact s.msix_emits _
    · exact List.prefix_rfl
  unfold State.routeEvent
  dsimp only
  generalize (if s.on (F.EVT_ROUTE_MSIX_EN src) && rose then s.msix (s.rd (F.EVT_ROUTE_VECTOR src)) else s) = t at *
  have hlog : (if t.on (F.EVT_ROUTE_MC_EN src) then t.withMcLog (t.mcLog ++ [src]) else t).out = t.out := by
    split <;> rfl
  rw [← hlog] at hmsix
  generalize (if t.on (F.EVT_ROUTE_MC_EN src) then t.withMcLog (t.mcLog ++ [src]) else t) = u at *
  split
  · exact hmsix.trans (State.flood_emits _ _)
  · exact hmsix

/-- An occurrence only adds to what has left the device (R283). -/
theorem State.raise_emits (s : State) (e : Nat) : s.out <+: (s.raise e).out := by
  have hwaits := State.countWaits_leaves (State.releaseWaits_leaves (.refl 0x10000000002000 s) (by decide) e) (by decide) e
  have hout : (((s.releaseWaits e).countWaits e).wr (evtBit e) 1).out = s.out :=
    (State.wr_out _ _ _).trans (hwaits.same .out (by decide))
  exact hout ▸ State.routeEvent_emits _ e _ true

/-! ### The selection of an instruction (R430, R431) -/

/-- The port with an instruction selected, its capture answered. -/
def State.selected (s : State) (ir : Nat) : State := (s.withJtag { s.jtag with ir := ir }).emit (.punty 1)

theorem State.selected_leaves (s : State) (ir : Nat) : Leaves (partsMask [.out, .jtag]) s (s.selected ir) :=
  State.emit_leaves ((Leaves.refl _ s).upd_jtag (by decide)) (by decide) _

theorem State.selected_jtag (s : State) (ir : Nat) : (s.selected ir).jtag = { s.jtag with ir := ir } := rfl
theorem State.selected_out (s : State) (ir : Nat) : (s.selected ir).out = s.out ++ [.punty 1] := rfl

/-- A selection that takes no pins, or finds them taken, answers its capture and no more. -/
theorem State.selectIr_plain {s : State} {ir : Nat} (h : (pinTaking ir && !pinTaking s.jtag.ir) = false) :
    s.selectIr ir = s.selected ir := by
  simp [State.selectIr, State.selected, h]

theorem State.selectIr_takes {s : State} {ir : Nat} (h : (pinTaking ir && !pinTaking s.jtag.ir) = true) :
    s.selectIr ir = ((s.selected ir).wr F.LCS_STAT_BSCAN 1).raise Ev.LCS_BSCAN := by
  simp [State.selectIr, State.selected, h]

theorem State.selectIr_jtag (s : State) (ir : Nat) : (s.selectIr ir).jtag = { s.jtag with ir := ir } := by
  cases h : pinTaking ir && !pinTaking s.jtag.ir with
  | false => rw [State.selectIr_plain h, State.selected_jtag]
  | true =>
    rw [State.selectIr_takes h, ← State.selected_jtag]
    exact (State.raise_leaves (((Leaves.refl 0x10001990080000002030 (s.selected ir)).wr (by decide))) (by decide) _).same
      .jtag (by decide)

theorem State.selectIr_out (s : State) (ir : Nat) : ∃ l, (s.selectIr ir).out = s.out ++ Output.punty 1 :: l := by
  cases h : pinTaking ir && !pinTaking s.jtag.ir with
  | false => exact ⟨[], by rw [State.selectIr_plain h, State.selected_out]⟩
  | true =>
    obtain ⟨l, hl⟩ := ((s.selected ir).wr F.LCS_STAT_BSCAN 1).raise_emits Ev.LCS_BSCAN
    refine ⟨l, ?_⟩
    rw [State.selectIr_takes h, ← hl, State.wr_out, State.selected_out, List.append_assoc, List.singleton_append]

/-- The first instruction that takes the pins is marked and raised; a further one changes no register (R431). -/
theorem State.selectIr_pins {s : State} {ir : Nat} (hir : pinTaking ir = true) :
    (pinTaking s.jtag.ir = false → (s.selectIr ir).rd F.LCS_STAT_BSCAN = 1 ∧ Pends (s.selectIr ir) Ev.LCS_BSCAN) ∧
      (pinTaking s.jtag.ir = true → (s.selectIr ir).regs = s.regs) := by
  refine ⟨fun h => ?_, fun h => ?_⟩
  · rw [State.selectIr_takes (by simp [hir, h])]
    exact ⟨(State.rd_raise _ _ F.LCS_STAT_BSCAN_part (by decide)).trans (State.rd_wr _ _ _ ⟨by decide, by decide⟩),
      State.rd_raise_self _ _⟩
  · rw [State.selectIr_plain (by simp [h])]
    rfl

/-! ### The port's instructions on a powered spine (R431) -/

theorem tap_on {s : State} (h : s.spineOn = true) (f : State → State) : tap s f = .next (s.endClock (f s)) := by
  simp [tap, h]

/-- A boundary scan by an instruction that takes the pins. -/
theorem State.scanCells_pins (s : State) {ir : Nat} (hir : pinTaking ir = true) (capture shift : BitVec 1412) :
    (s.scanCells ir capture shift).jtag = { s.jtag with ir := ir, cells := shift } ∧
      (∃ l : List Output, (s.scanCells ir capture shift).out = s.out ++ Output.punty 1 :: l ++ [Output.punty capture.toNat]) ∧
      (pinTaking s.jtag.ir = false → (s.scanCells ir capture shift).rd F.LCS_STAT_BSCAN = 1 ∧
        Pends (s.scanCells ir capture shift) Ev.LCS_BSCAN) ∧
      (pinTaking s.jtag.ir = true → (s.scanCells ir capture shift).regs = s.regs) := by
  have hjtag := s.selectIr_jtag ir
  obtain ⟨l, hl⟩ := s.selectIr_out ir
  obtain ⟨htakes, htaken⟩ := State.selectIr_pins (s := s) hir
  unfold State.scanCells
  generalize s.selectIr ir = t at *
  refine ⟨?_, ⟨l, ?_⟩, htakes, htaken⟩
  · exact congrArg (fun j : Jtag => { j with cells := shift }) hjtag
  · exact congrArg (· ++ [Output.punty capture.toNat]) hl

/-- A scan of the bypass register by an instruction that takes the pins. -/
theorem State.bypass_pins (s : State) {ir : Nat} (hir : pinTaking ir = true) :
    ((s.selectIr ir).emit (.punty 0)).jtag = { s.jtag with ir := ir } ∧
      (∃ l : List Output, ((s.selectIr ir).emit (.punty 0)).out = s.out ++ Output.punty 1 :: l ++ [Output.punty 0]) ∧
      (pinTaking s.jtag.ir = false → ((s.selectIr ir).emit (.punty 0)).rd F.LCS_STAT_BSCAN = 1 ∧
        Pends ((s.selectIr ir).emit (.punty 0)) Ev.LCS_BSCAN) := by
  have hjtag := s.selectIr_jtag ir
  obtain ⟨l, hl⟩ := s.selectIr_out ir
  obtain ⟨htakes, -⟩ := State.selectIr_pins (s := s) hir
  generalize s.selectIr ir = t at *
  exact ⟨hjtag, ⟨l, congrArg (· ++ [Output.punty 0]) hl⟩, htakes⟩

/-- An instruction that takes no pins: its capture, what its data register captures, and the port's own state. -/
theorem State.answered_plain (s : State) {ir : Nat} (hir : pinTaking ir = false) (n : Nat) :
    ((s.selectIr ir).emit (.punty n)).jtag = { s.jtag with ir := ir } ∧
      ((s.selectIr ir).emit (.punty n)).out = s.out ++ [Output.punty 1, Output.punty n] ∧
      Leaves (partsMask [.out, .jtag]) s ((s.selectIr ir).emit (.punty n)) := by
  rw [State.selectIr_plain (by simp [hir])]
  refine ⟨s.selected_jtag ir, ?_, State.emit_leaves (s.selected_leaves ir) (by decide) _⟩
  rw [State.emit_out, State.selected_out, List.append_assoc, List.singleton_append]

/-- A scan of the boundary-scan register by an instruction that takes no pins. -/
theorem State.scanCells_plain (s : State) {ir : Nat} (hir : pinTaking ir = false) (capture shift : BitVec 1412) :
    (s.scanCells ir capture shift).jtag = { s.jtag with ir := ir, cells := shift } ∧
      (s.scanCells ir capture shift).out = s.out ++ [Output.punty 1, Output.punty capture.toNat] ∧
      Leaves (partsMask [.out, .jtag]) s (s.scanCells ir capture shift) := by
  obtain ⟨hjtag, hout, hleaves⟩ := s.answered_plain hir capture.toNat
  unfold State.scanCells
  generalize (s.selectIr ir).emit (.punty capture.toNat) = t at *
  exact ⟨congrArg (fun j : Jtag => { j with cells := shift }) hjtag, hout, hleaves.upd_jtag (by decide)⟩

/-! ### The command path of the port (R432) -/

theorem State.complete_punty {s : State} {c : MbxCmd} (h : c.punty = true) (status result : Nat) :
    s.complete c status result =
      s.withJtag { s.jtag with cpl := some (entryNum (c.entry status result) % 2 ^ 127 + 2 ^ 127) } := by
  simp [State.complete, h]

/-- A command shifted in by the port. -/
abbrev puntyEntry (raw : Nat) : MbxCmd := ⟨0, raw, false, true⟩

theorem puntyEntry_byte (raw : Nat) : (puntyEntry raw).byte 0 = raw % 256 := by
  simp [MbxCmd.byte, slice]

section
variable {s : State} {raw : Nat}

/-- LC_TRANSITION and DEBUG_AUTH go to the long lane. -/
theorem State.puntyCmd_long (h : raw % 256 = 0x40 ∨ raw % 256 = 0x50) (hb : (puntyEntry raw).paramBad = false) :
    (s.puntyCmd raw).mbx = { s.mbx with long := s.mbx.long ++ [puntyEntry raw] } ∧ (s.puntyCmd raw).jtag.cpl = none := by
  have hcmd : s.puntyCmd raw =
      (s.withJtag { s.jtag with cpl := none }).withMbx { s.mbx with long := s.mbx.long ++ [puntyEntry raw] } := by
    rcases h with h | h <;> simp [State.puntyCmd, puntyEntry_byte, hb, h]
  rw [hcmd]
  exact ⟨rfl, rfl⟩

/-- ATTEST goes to the short lane. -/
theorem State.puntyCmd_short (h : raw % 256 = 0x41) (hb : (puntyEntry raw).paramBad = false) :
    (s.puntyCmd raw).mbx = { s.mbx with short := s.mbx.short ++ [puntyEntry raw] } ∧ (s.puntyCmd raw).jtag.cpl = none := by
  have hcmd : s.puntyCmd raw =
      (s.withJtag { s.jtag with cpl := none }).withMbx { s.mbx with short := s.mbx.short ++ [puntyEntry raw] } := by
    simp [State.puntyCmd, puntyEntry_byte, hb, h]
  rw [hcmd]
  exact ⟨rfl, rfl⟩

/-- A completion of the port's own command reaches no lane. -/
theorem State.completePunty_port (s : State) (status : Nat) :
    ((s.withJtag { s.jtag with cpl := none }).complete (puntyEntry raw) status 0).mbx = s.mbx ∧
      ((s.withJtag { s.jtag with cpl := none }).complete (puntyEntry raw) status 0).jtag.cpl.isSome = true := by
  rw [State.complete_punty rfl]
  exact ⟨rfl, rfl⟩

theorem State.puntyCmd_badParam (h : raw % 256 = 0x40 ∨ raw % 256 = 0x50 ∨ raw % 256 = 0x41)
    (hb : (puntyEntry raw).paramBad = true) : (s.puntyCmd raw).mbx = s.mbx ∧ (s.puntyCmd raw).jtag.cpl.isSome = true := by
  have hcmd : s.puntyCmd raw = (s.withJtag { s.jtag with cpl := none }).complete (puntyEntry raw) 2 0 := by
    rcases h with h | h | h <;> simp [State.puntyCmd, puntyEntry_byte, hb, h]
  exact hcmd ▸ s.completePunty_port 2

theorem State.puntyCmd_unknown (h₁ : raw % 256 ≠ 0x40) (h₂ : raw % 256 ≠ 0x50) (h₃ : raw % 256 ≠ 0x41) :
    (s.puntyCmd raw).mbx = s.mbx ∧ (s.puntyCmd raw).jtag.cpl.isSome = true := by
  have hcmd : s.puntyCmd raw = (s.withJtag { s.jtag with cpl := none }).complete (puntyEntry raw) 1 0 := by
    simp [State.puntyCmd, puntyEntry_byte, h₁, h₂, h₃]
  exact hcmd ▸ s.completePunty_port 1

end

/-- Whatever the command, it answers nothing at once and leaves the instruction selected. -/
theorem State.puntyCmd_port (s : State) (raw : Nat) :
    (s.puntyCmd raw).out = s.out ∧ (s.puntyCmd raw).jtag.ir = s.jtag.ir := by
  unfold State.puntyCmd
  dsimp only
  rw [State.complete_punty rfl, State.complete_punty rfl]
  split
  · exact ⟨rfl, rfl⟩
  · split
    · exact ⟨rfl, rfl⟩
    · split <;> exact ⟨rfl, rfl⟩

/-- The state in which the port hands a command over: the last completion captured. -/
def State.lcsCaptured (s : State) : State := (s.selected 0x20).emit (.punty (s.jtag.cpl.getD 0))

theorem State.lcsCaptured_out (s : State) : Output.punty (s.jtag.cpl.getD 0) ∈ s.lcsCaptured.out := by
  simp [State.lcsCaptured, State.emit_out]

theorem State.lcsCaptured_jtag (s : State) : s.lcsCaptured.jtag = { s.jtag with ir := 0x20 } :=
  (State.withOut_jtag _ _).trans (s.selected_jtag 0x20)

theorem State.lcsCaptured_mbx (s : State) : s.lcsCaptured.mbx = s.mbx :=
  (State.emit_leaves (s.selected_leaves 0x20) (by decide) _).same .mbx (by decide)

theorem exec_lcsCmd {s : State} (hl : s.live = true) (v : BitVec 256) :
    exec (.lcsCmd (some v)) s = .next (s.endClock (s.lcsCaptured.puntyCmd v.toNat)) := by
  have hsel : s.selectIr 0x20 = s.selected 0x20 := State.selectIr_plain (by simp [pinTaking])
  simp only [exec, execLcsCmd, act_live hl, hsel, State.lcsCaptured]

theorem exec_lcsCmdCapture {s : State} (hl : s.live = true) : exec (.lcsCmd none) s = .next (s.endClock s.lcsCaptured) := by
  have hsel : s.selectIr 0x20 = s.selected 0x20 := State.selectIr_plain (by simp [pinTaking])
  simp only [exec, execLcsCmd, act_live hl, hsel, State.lcsCaptured]

/-! ### Uses without their scope (R432) -/

theorem State.puntyDenied_counts {s t : State} (h : Leaves (partsMask [.out, .jtag]) s t) :
    Counted s t.puntyDenied F.LCS_DENIED_CNT_COUNT := by
  have hbump := ((t.emit (.punty 0)).withJtag { (t.emit (.punty 0)).jtag with access := 0 }).rd_bump
    F.LCS_DENIED_CNT_COUNT ⟨rfl, rfl⟩
  have hsame : ((t.emit (.punty 0)).withJtag { (t.emit (.punty 0)).jtag with access := 0 }).rd F.LCS_DENIED_CNT_COUNT =
      s.rd F.LCS_DENIED_CNT_COUNT := h.rd F.LCS_DENIED_CNT_COUNT_part (by decide) (by decide)
  rw [hsame] at hbump
  exact hbump

theorem State.bump_out (s : State) (f : Fld) : (s.bump f).out = s.out := by
  unfold State.bump
  split
  · exact s.wr_out _ _
  · rfl

theorem State.bump_jtag (s : State) (f : Fld) : (s.bump f).jtag = s.jtag := by
  unfold State.bump
  split
  · exact State.withRegs_jtag _ _
  · rfl

theorem State.puntyDenied_port (s : State) :
    s.puntyDenied.jtag = { s.jtag with access := 0 } ∧ Output.punty 0 ∈ s.puntyDenied.out := by
  unfold State.puntyDenied
  rw [State.bump_out, State.bump_jtag]
  exact ⟨rfl, List.mem_append_right _ (.head _)⟩

end Sys2Proof.Machine


namespace Sys2Proof.Machine

/-! ### Counters in the register map (R438, R440) -/

/-- A register with a counter snapshot is that counter, and no half of a hardware-changed pair nor the word after one. -/
theorem counterRows : ∀ e ∈ blockMap, ∀ r ∈ e.1.rows, r.counts = true →
    r.fields = [⟨31, 0, .rc, 0⟩] ∧ 4 ≤ r.off ∧
      ∀ l ∈ pairLos e.1 0 ++ pairLos e.1 1, r.has l = false ∧ r.has (l + 4) = false := by
  decide +kernel

theorem pairLos_subset (b : Block) (i : Nat) : pairLos b i ⊆ pairLos b 0 ++ pairLos b 1 := by
  intro l hl
  cases b with
  | hbm => cases i with
    | zero => exact List.mem_append_left _ hl
    | succ n => exact List.mem_append_right _ hl
  | _ => exact List.mem_append_left _ hl

/-- The word before a register lies in the register's block unless the register is the block's first. -/
theorem blockAt_sub_four {off : Nat} {b : Block} {i rel : Nat} (h : blockAt off = some (b, i, rel)) (hrel : 4 ≤ rel) :
    blockAt (off - 4) = some (b, i, rel - 4) := by
  have aligned : ∀ e ∈ blockMap, e.2.1 % 0x10000 = 0 := by decide
  obtain ⟨e, he, heq⟩ := Option.map_eq_some_iff.1 h
  obtain ⟨rfl, hi, hr⟩ : e.1 = b ∧ (off - e.2.1) / 0x10000 = i ∧ (off - e.2.1) % 0x10000 = rel := by simpa using heq
  have hmem := aligned e (List.mem_of_find?_eq_some he)
  have hin := List.find?_some he
  simp only [Bool.and_eq_true, decide_eq_true_eq] at hin
  have hsame : ∀ x ∈ blockMap, (decide (x.2.1 ≤ off - 4) && decide (off - 4 < x.2.1 + 0x10000 * x.2.2)) =
      (decide (x.2.1 ≤ off) && decide (off < x.2.1 + 0x10000 * x.2.2)) := by
    intro x hx
    have := aligned x hx
    rw [Bool.eq_iff_iff]
    simp only [Bool.and_eq_true, decide_eq_true_eq]
    omega
  rw [blockAt, List.find?_congr hsame, he]
  simp only [Option.map_some, Option.some.injEq, Prod.mk.injEq, true_and]
  omega

theorem regRow?_block {off : Nat} {r : RegRow} (h : regRow? off = some r) :
    ∃ b i rel, blockAt off = some (b, i, rel) ∧ (∃ e ∈ blockMap, e.1 = b) ∧ r ∈ b.rows ∧ r.has rel = true := by
  cases hb : blockAt off with
  | none => simp [regRow?, hb] at h
  | some x =>
    obtain ⟨b, i, rel⟩ := x
    simp only [regRow?, hb] at h
    split at h
    · simp at h
    · obtain ⟨e, he, heq⟩ := Option.map_eq_some_iff.1 hb
      exact ⟨b, i, rel, rfl, ⟨e, List.mem_of_find?_eq_some he, by simpa using congrArg Prod.fst heq⟩,
        List.mem_of_find?_eq_some h, by simpa using List.find?_some h⟩

theorem RegRow.off_le {r : RegRow} {rel : Nat} (h : r.has rel = true) : r.off ≤ rel := by
  unfold RegRow.has at h
  split at h
  · exact (beq_iff_eq.1 h).ge
  · simp only [Bool.and_eq_true, decide_eq_true_eq] at h
    exact h.1.1

theorem counter_not_paired {off : Nat} {r : RegRow} (h : regRow? off = some r) (hc : r.counts = true) :
    r.fields = [⟨31, 0, .rc, 0⟩] ∧ isPairLo off = false ∧ isPairLo (off - 4) = false := by
  obtain ⟨b, i, rel, hb, ⟨e, he, rfl⟩, hr, hrel⟩ := regRow?_block h
  obtain ⟨hfields, hoff, hapart⟩ := counterRows e he r hr hc
  have hfour : 4 ≤ rel := hoff.trans (RegRow.off_le hrel)
  have hlo {l : Nat} (hl : l ∈ pairLos e.1 i) := hapart l (pairLos_subset _ _ hl)
  refine ⟨hfields, ?_, ?_⟩
  · simp only [isPairLo, hb, List.contains_eq_mem, decide_eq_false_iff_not]
    intro hl
    exact Bool.false_ne_true ((hlo hl).1.symm.trans hrel)
  · simp only [isPairLo, blockAt_sub_four hb hfour, List.contains_eq_mem, decide_eq_false_iff_not]
    intro hl
    have hnext := (hlo hl).2
    rw [Nat.sub_add_cancel hfour, hrel] at hnext
    exact Bool.false_ne_true hnext.symm

/-- A read of a counter answers it and clears it (R438). -/
theorem State.readReg_counter (s : State) (p : Path) {off : Nat} {r : RegRow} (h : regRow? off = some r) (hc : r.counts = true) :
    s.readReg p off r = (s.setReg off 0, (s.reg off).toNat) := by
  obtain ⟨hfields, hlo, hhi⟩ := counter_not_paired h hc
  simp [State.readReg, hlo, hhi, hc, RegRow.afterRead, hfields]

/-! ### A write that only stores (R8, R13) -/

/-- What a quiet register sets going when it is written: nothing. -/
theorem State.written_quiet {b : Block} {i rel : Nat} (h : quietReg b i rel = true) (s : State) (old v : Nat) :
    s.written b i rel old v = s := by
  cases b with
  | pwr =>
    simp only [quietReg, Bool.and_eq_true, Bool.or_eq_true, bne_iff_ne, decide_eq_true_eq] at h
    simp only [State.written, if_neg h.1.1]
    exact if_neg (by omega)
  | dma =>
    simp only [quietReg, Bool.and_eq_true, Bool.or_eq_true, bne_iff_ne, decide_eq_true_eq] at h
    simp only [State.written, State.dmaWritten]
    rcases h with h | ⟨hctrl, hhold⟩
    · exact if_pos h
    · have hrest : rel % 0x40 = (rel - 0x100) % 0x40 ∨ rel < 0x100 := by omega
      rw [if_neg hctrl, if_neg hhold, ite_self]
  | hbm =>
    simp only [quietReg, Bool.or_eq_true, bne_iff_ne, decide_eq_true_eq] at h
    simp only [State.written, State.hbmWritten]
    refine if_neg ?_
    simp only [Bool.and_eq_true, decide_eq_true_eq]
    omega
  | _ => simp_all [State.written, quietReg]

/-- No quiet register keeps what is written to it elsewhere (R201, R265, R279, R374). -/
theorem State.putReg_quiet {off : Nat} {b : Block} {i rel : Nat} (hb : blockAt off = some (b, i, rel))
    (h : quietReg b i rel = true) (s : State) (v : Nat) (r : RegRow) :
    s.putReg off v b i rel r = s.setReg off (BitVec.ofNat 32 (r.written (s.locked b i) (s.reg off).toNat v)) := by
  have htail : off ≠ 0xf00008 := by
    rintro rfl
    obtain ⟨rfl, rfl, rfl⟩ : Block.pci = b ∧ 0 = i ∧ 8 = rel := by
      simpa using (by decide +kernel : blockAt 0xf00008 = some (.pci, 0, 8)).symm.trans hb
    exact absurd h (by decide)
  have hsave : off ≠ 0x10088 := by
    rintro rfl
    obtain ⟨rfl, rfl, rfl⟩ : Block.pwr = b ∧ 0 = i ∧ 0x88 = rel := by
      simpa using (by decide +kernel : blockAt 0x10088 = some (.pwr, 0, 0x88)).symm.trans hb
    exact absurd h (by decide)
  have hslots : ¬(b = .noc ∧ 0x1000 ≤ rel) := by
    rintro ⟨rfl, hrel⟩
    simp only [quietReg, Bool.and_eq_true, decide_eq_true_eq] at h
    omega
  have hcoef : s.coefBusy b i rel = false := by
    by_cases hm : b = .mrv
    · subst hm
      simp only [quietReg, Bool.and_eq_true, Bool.or_eq_true, decide_eq_true_eq] at h
      have hset : coefSet rel = none := if_neg (by omega)
      simp [State.coefBusy, hset]
    · simp [State.coefBusy, hm]
  simp [State.putReg, htail, hsave, hslots, hcoef]

/-- A lock bit lies apart from the count of the writes that met one (R13). -/
theorem lockOff_ne_count {b : Block} {i l : Nat} (h : lockOff b i = some l) : l ≠ F.SYS_LOCKED_WRITE_CNT_COUNT.off := by
  have hoff : F.SYS_LOCKED_WRITE_CNT_COUNT.off = 0x10 := rfl
  rw [hoff]
  cases b <;> simp only [lockOff, Option.some.injEq, reduceCtorEq] at h <;> omega

/-- The count of the writes that met a lock can be written by no write that meets one (R13). -/
theorem lockedCount_not_lockable {r : RegRow} (h : regRow? F.SYS_LOCKED_WRITE_CNT_COUNT.off = some r) : r.lockable = false := by
  have hrow : regRow? F.SYS_LOCKED_WRITE_CNT_COUNT.off = some ⟨"LOCKED_WRITE_CNT", 0x10, 0x0, 1, [⟨31, 0, .rc, 0⟩]⟩ := by
    decide +kernel
  obtain rfl := Option.some.inj (hrow.symm.trans h)
  rfl

theorem State.columnsAs_reg (s : State) (b : Block) (i o : Nat) : (s.columnsAs b i).reg o = s.reg o := by
  unfold State.columnsAs
  split <;> rfl

/-- The trace of a write that puts no 1 where a 0 belongs: at most one count more (R13). -/
theorem State.writeTraces_nonzero (s : State) (p : Path) (off : Nat) {v : Nat} (b : Block) (i : Nat) {r : RegRow}
    (hz : r.breaksZero v = false) :
    (∀ o, o ≠ F.SYS_LOCKED_WRITE_CNT_COUNT.off ∨ r.lockable = false → (s.writeTraces p off v b i r).reg o = s.reg o) ∧
      Leaves (partsMask [.sysRegs]) s (s.writeTraces p off v b i r) := by
  have htraces : s.writeTraces p off v b i r =
      if s.locked b i && r.lockable then s.bump F.SYS_LOCKED_WRITE_CNT_COUNT else s := by
    simp [State.writeTraces, hz]
  rw [htraces]
  split
  · next hlock =>
    rw [Bool.and_eq_true] at hlock
    refine ⟨fun o ho => s.reg_bump_ne (ho.resolve_right (by simp [hlock.2])), (Leaves.refl _ s).bump (by decide)⟩
  · exact ⟨fun _ _ => rfl, .refl _ s⟩

/-- A write of a quiet register that puts no 1 where a 0 belongs stores its word field by field, as its lock stood (R8, R13). -/
theorem State.write32_quiet (s : State) (p : Path) {off v : Nat} {r : RegRow} {b : Block} {i rel : Nat}
    (hr : regRow? off = some r) (hb : blockAt off = some (b, i, rel)) (hq : quietReg b i rel = true)
    (hz : r.breaksZero v = false) :
    (s.write32 p off v).reg off = BitVec.ofNat 32 (r.written (s.locked b i) (s.reg off).toNat v) ∧
      Leaves 0x4000007fffff s (s.write32 p off v) := by
  have hcols := State.columnsAs_leaves (.refl (partsMask [.mrv]) s) (by decide) b i
  rw [s.write32_register p v hr hb, State.written_quiet hq, State.storeReg, State.putReg_quiet hb hq]
  have hcolsReg := s.columnsAs_reg b i
  generalize s.columnsAs b i = t at hcols hcolsReg ⊢
  obtain ⟨hreg, hleaves⟩ := t.writeTraces_nonzero p off b i hz
  have hkept {o : Nat} (ho : o ≠ F.SYS_LOCKED_WRITE_CNT_COUNT.off ∨ r.lockable = false) :
      (t.writeTraces p off v b i r).reg o = s.reg o := (hreg o ho).trans (hcolsReg o)
  have hold : (t.writeTraces p off v b i r).reg off = s.reg off := by
    by_cases ho : off = F.SYS_LOCKED_WRITE_CNT_COUNT.off
    · exact hkept (.inr (lockedCount_not_lockable (ho ▸ hr)))
    · exact hkept (.inl ho)
  have hlocked : (t.writeTraces p off v b i r).locked b i = s.locked b i := by
    unfold State.locked
    split
    · next hl => rw [hkept (.inl (lockOff_ne_count hl))]
    · rfl
  rw [State.reg_setReg, hold, hlocked]
  exact ⟨rfl, ((hcols.within (by decide)).step hleaves (by decide)).setReg (Mask.bit (regPart_bit _) (by decide))⟩

/-! ### Memory access over the port (R432) -/

theorem State.withJtag_reg (s : State) (x : Jtag) (o : Nat) : (s.withJtag x).reg o = s.reg o := rfl
theorem State.withOut_reg (s : State) (x : List Output) (o : Nat) : (s.withOut x).reg o = s.reg o := rfl
theorem State.withJtag_peek (s : State) (x : Jtag) (o : Nat) : (s.withJtag x).peek o = s.peek o := rfl
theorem State.withOut_peek (s : State) (x : List Output) (o : Nat) : (s.withOut x).peek o = s.peek o := rfl
theorem State.withJtag_locked (s : State) (x : Jtag) (b : Block) (i : Nat) : (s.withJtag x).locked b i = s.locked b i := rfl
theorem State.withOut_locked (s : State) (x : List Output) (b : Block) (i : Nat) : (s.withOut x).locked b i = s.locked b i := rfl

/-- The port as DBG_MEM begins its access: the answer of the access before is captured. -/
def State.dbgCaptured (s : State) : State :=
  (s.withOut (s.out ++ [.punty 1, .punty s.jtag.access])).withJtag { s.jtag with ir := 0x21, access := 0 }

theorem State.dbgCaptured_out (s : State) : Output.punty s.jtag.access ∈ s.dbgCaptured.out :=
  List.mem_append_right _ (.tail _ (.head _))

theorem State.dbgCaptured_jtag (s : State) : s.dbgCaptured.jtag = { s.jtag with ir := 0x21, access := 0 } :=
  State.withJtag_jtag _ _

theorem State.dbgCaptured_reg (s : State) (o : Nat) : s.dbgCaptured.reg o = s.reg o :=
  (State.withJtag_reg _ _ _).trans (State.withOut_reg _ _ _)

theorem State.dbgCaptured_peek (s : State) (o : Nat) : s.dbgCaptured.peek o = s.peek o :=
  (State.withJtag_peek _ _ _).trans (State.withOut_peek _ _ _)

theorem State.dbgCaptured_locked (s : State) (b : Block) (i : Nat) : s.dbgCaptured.locked b i = s.locked b i :=
  (State.withJtag_locked _ _ _ _).trans (State.withOut_locked _ _ _ _)

theorem State.dbgCaptured_eq (s : State) : ((s.selected 0x21).emit (.punty (s.selected 0x21).jtag.access)).withJtag
    { (s.selected 0x21).jtag with access := 0 } = s.dbgCaptured := by
  rw [State.emit, s.selected_out, s.selected_jtag, List.append_assoc, List.singleton_append]
  rfl

/-- The offset of an access that DBG_MEM shifts in. -/
theorem slice_dbgOff (n : Nat) : slice n 57 32 = n / 2 ^ 32 % 2 ^ 26 := rfl

section
variable {s : State} {v : BitVec 64} (hl : s.live = true)
include hl

theorem exec_dbgMem (hscope : bit s.scopes 1 = true) (hd : inDebug (v.toNat / 2 ^ 32 % 2 ^ 26) = false) :
    exec (.dbgMem v) s = .next (s.endClock (if bit v.toNat 63 then
      (let t := s.dbgCaptured.ctrlWrite .punty 4 (v.toNat / 2 ^ 32 % 2 ^ 26) (v.toNat % 2 ^ 32)
       t.withJtag { t.jtag with access := 2 ^ 32 + 2 ^ 33 * b2n (writeErrs (v.toNat / 2 ^ 32 % 2 ^ 26) (v.toNat % 2 ^ 32)) })
      else s.dbgCaptured.ctrlRead .punty 4 (v.toNat / 2 ^ 32 % 2 ^ 26))) := by
  have hsel : s.selectIr 0x21 = s.selected 0x21 := State.selectIr_plain (by simp [pinTaking])
  have hscopes : (s.selected 0x21).scopes = s.scopes := rfl
  simp only [exec, execDbgMem, act_live hl, hsel, slice_dbgOff, hscopes, hscope, hd, Bool.not_true, Bool.false_and, Bool.or_false,
    Bool.false_eq_true, if_false, State.dbgCaptured_eq]

theorem exec_dbgMem_denied (hscope : bit s.scopes 1 = false) :
    exec (.dbgMem v) s = .next (s.endClock (s.selected 0x21).puntyDenied) := by
  have hsel : s.selectIr 0x21 = s.selected 0x21 := State.selectIr_plain (by simp [pinTaking])
  have hscopes : (s.selected 0x21).scopes = s.scopes := rfl
  simp [exec, execDbgMem, act_live hl, hsel, hscopes, hscope]

theorem exec_fabRb_denied {sel : BitVec 20} (hscope : bit s.scopes 2 = false) :
    exec (.fabRb sel) s = .next (s.endClock (s.selected 0x22).puntyDenied) := by
  have hsel : s.selectIr 0x22 = s.selected 0x22 := State.selectIr_plain (by simp [pinTaking])
  have hscopes : (s.selected 0x22).scopes = s.scopes := rfl
  simp [exec, execFabRb, act_live hl, hsel, hscopes, hscope]

theorem exec_fabRb {sel : BitVec 20} (hscope : bit s.scopes 2 = true) :
    exec (.fabRb sel) s = .next (s.endClock (((s.selected 0x22).emit (.punty (leNat (Bytes.read s.fab.words
        (slice sel.toNat 19 17 * 2 ^ 21 + slice sel.toNat 14 0 * 64) 64)))).emit
      (.punty (s.fab.liveAt (slice sel.toNat 19 17) (slice sel.toNat 14 0))))) := by
  have hsel : s.selectIr 0x22 = s.selected 0x22 := State.selectIr_plain (by simp [pinTaking])
  have hscopes : (s.selected 0x22).scopes = s.scopes := rfl
  have hfab : (s.selected 0x22).fab = s.fab := rfl
  simp [exec, execFabRb, act_live hl, hsel, hscopes, hscope, hfab, State.emit]

end

end Sys2Proof.Machine


namespace Sys2Proof.Machine

/-- A command that answers a state of which the claim holds. -/
theorem Runs.of {c : Instr} {s t : State} {P : State → Prop} (h : exec c s = .next t) (hP : P t) : Runs c s P := ⟨t, h, hP⟩

theorem bit_true_iff {n i : Nat} : bit n i = true ↔ n / 2 ^ i % 2 = 1 := by
  simp [bit, Nat.testBit_eq_decide_div_mod_eq]

theorem bit_false_iff {n i : Nat} : bit n i = false ↔ n / 2 ^ i % 2 = 0 := by
  rw [← Bool.not_eq_true, bit_true_iff]
  omega

section
variable {s : State} (hspine : s.spineOn = true)
include hspine

/-- A boundary scan by an instruction that takes the pins, whichever it is (R431). -/
theorem runs_scanCells_pins {c : Instr} {ir : Nat} {capture shift : BitVec 1412} (hir : pinTaking ir = true)
    (hc : exec c s = tap s fun s => s.scanCells ir capture shift) :
    Runs c s fun u =>
      u.jtag = { s.jtag with ir := ir, cells := shift } ∧
      (∃ l : List Output, u.out = s.out ++ Output.punty 1 :: l ++ [Output.punty capture.toNat]) ∧
      (pinTaking s.jtag.ir = false → u.rd F.LCS_STAT_BSCAN = 1 ∧ Pends u Ev.LCS_BSCAN) ∧
      (pinTaking s.jtag.ir = true → u.regs = s.regs) :=
  .of (hc.trans (tap_on hspine _)) (s.scanCells_pins hir capture shift)

/-- A bypass scan by an instruction that takes the pins. -/
theorem runs_bypass_pins {c : Instr} {ir : Nat} (hir : pinTaking ir = true)
    (hc : exec c s = tap s fun s => (s.selectIr ir).emit (.punty 0)) :
    Runs c s fun u =>
      u.jtag = { s.jtag with ir := ir } ∧
      (∃ l : List Output, u.out = s.out ++ Output.punty 1 :: l ++ [Output.punty 0]) ∧
      (pinTaking s.jtag.ir = false → u.rd F.LCS_STAT_BSCAN = 1 ∧ Pends u Ev.LCS_BSCAN) :=
  .of (hc.trans (tap_on hspine _)) (s.bypass_pins hir)

/-- A scan of one data register by an instruction that takes no pins. -/
theorem runs_answered_plain {c : Instr} {ir n : Nat} (hir : pinTaking ir = false)
    (hc : exec c s = tap s fun s => (s.selectIr ir).emit (.punty n)) :
    Runs c s fun u =>
      u.jtag = { s.jtag with ir := ir } ∧
      u.out = s.out ++ [Output.punty 1, Output.punty n] ∧
      Keeps [.out, .jtag] s u := by
  obtain ⟨hjtag, hout, hleaves⟩ := s.answered_plain hir n
  exact .of (hc.trans (tap_on hspine _)) ⟨hjtag, hout, (State.endClock_leaves hleaves).keeps⟩

end

section
variable {s : State} {v : BitVec 64} (hl : s.live = true) (hscope : s.scopes % 4 / 2 = 1) (hv : v.toNat < 2 ^ 58)
  (ha : v.toNat / 2 ^ 32 % 4 = 0)
include hl hscope hv ha

/-- A read over the port answers at the next capture what the register reads (R432). -/
theorem exec_dbgMem_read {r : RegRow} (hr : regRow? (v.toNat / 2 ^ 32) = some r) :
    exec (.dbgMem v) s = .next (s.endClock ((s.dbgCaptured.readReg .punty (v.toNat / 2 ^ 32) r).1.answerRead .punty
      (v.toNat / 2 ^ 32) (s.dbgCaptured.readReg .punty (v.toNat / 2 ^ 32) r).2 false)) := by
  have hoff : v.toNat / 2 ^ 32 % 2 ^ 26 = v.toNat / 2 ^ 32 := Nat.mod_eq_of_lt (by omega)
  have hread : bit v.toNat 63 = false := bit_false_iff.2 (by omega)
  rw [exec_dbgMem hl (bit_true_iff.2 (by omega)) (hoff.symm ▸ inDebug_of_regRow? hr), hread, if_neg Bool.false_ne_true, hoff,
    State.ctrlRead_register _ _ ha hr]

end

theorem State.answerRead_punty (s : State) (off : Nat) {n : Nat} (hn : n < 2 ^ 32) :
    (s.answerRead .punty off n false).jtag = { s.jtag with access := n + 2 ^ 32 } := by
  have h : (s.answerRead .punty off n false).jtag = { s.jtag with access := n % 2 ^ 32 + 2 ^ 32 + 2 ^ 33 * b2n false } := rfl
  rw [h, Nat.mod_eq_of_lt hn]
  rfl

/-- A read of a register without a side effect changes nothing and answers what the register shows. -/
theorem State.readReg_plain (s : State) (p : Path) {off : Nat} {r : RegRow}
    (h : (isPairLo off || isPairLo (off - 4) || r.counts) = false) (hst : stampRegOf off = none) :
    s.readReg p off r = (s, (s.peek off).toNat) := by
  simp only [Bool.or_eq_false_iff] at h
  obtain ⟨⟨hlo, hhi⟩, hc⟩ := h
  simp [State.readReg, hlo, hhi, hc, State.readStamp, hst]

theorem State.emits_jtag (s : State) (a b : Output) : ((s.emit a).emit b).jtag = s.jtag := rfl

theorem State.ctrlWrite_word (s : State) (p : Path) {off v : Nat} (ha : off % 4 = 0) (hv : v < 2 ^ 32) :
    s.ctrlWrite p 4 off v = s.write32 p off v := by
  rw [State.ctrlWrite, if_pos (by simp [ha]), Nat.mod_eq_of_lt hv]

theorem writeErrs_register {off v : Nat} {r : RegRow} (ha : off % 4 = 0) (hr : regRow? off = some r)
    (hz : r.breaksZero v = false) : writeErrs off v = false := by
  simp [writeErrs, ha, inDebug_of_regRow? hr, hr, hz]

theorem exec_samplePreload {s : State} (h : s.spineOn = true) (capture shift : BitVec 1412) :
    exec (.samplePreload capture shift) s = .next (s.endClock (s.scanCells 0x02 capture shift)) := by
  simp only [exec, execSamplePreload, tap_on h]

theorem exec_testLogicReset {s : State} (h : s.spineOn = true) :
    exec .testLogicReset s = .next (s.endClock (s.withJtag { s.jtag with ir := 0x01 })) := by
  simp only [exec, execTestLogicReset, tap_on h]

/-- Settles O60: every instruction of the port, with its scope and without. -/
theorem punty : Obligations.Punty := by
  unfold Obligations.Punty
  refine ⟨fun s _ _ h => runs_scanCells_pins h rfl rfl, fun s _ _ h => runs_scanCells_pins h rfl rfl,
    fun s _ _ h => runs_scanCells_pins h rfl rfl, fun s capture shift h => ?samplePreload,
    fun s h => runs_answered_plain h rfl rfl,
    fun s h => runs_bypass_pins h rfl rfl, fun s h => runs_bypass_pins h rfl rfl, fun s h => runs_answered_plain h rfl rfl,
    fun s h => ?testLogicReset, fun s v hl => ?lcsCmd, fun s hl => ?lcsCmdCapture,
    fun s v r hl hs hv ha _ hr hplain hst _ _ => ?dbgMemRead, fun s v r hl hs hv ha _ hr hc => ?dbgMemCounterRead,
    fun s v r b i rel hl hs hv ha hd hr hb hq hz _ _ => ?dbgMemWrite, fun s v hl hs => ?dbgMemDenied,
    fun s sel hl hs => ?fabRb, fun s sel hl hs => ?fabRbDenied⟩
  case samplePreload =>
    obtain ⟨hjtag, hout, hleaves⟩ := s.scanCells_plain (ir := 0x02) rfl capture shift
    exact .of (exec_samplePreload h capture shift) ⟨hjtag, hout, (State.endClock_leaves hleaves).keeps⟩
  case testLogicReset =>
    exact .of (exec_testLogicReset h) ⟨rfl, (State.endClock_leaves ((Leaves.refl _ s).upd_jtag (by decide))).keeps⟩
  case lcsCmd =>
    obtain ⟨hout, hir⟩ := s.lcsCaptured.puntyCmd_port v.toNat
    refine .of (exec_lcsCmd hl v) ?_
    rw [State.endClock_out, State.endClock_jtag, State.endClock_mbx, hout, hir, ← s.lcsCaptured_mbx]
    exact ⟨s.lcsCaptured_out, congrArg Jtag.ir s.lcsCaptured_jtag, State.puntyCmd_long, State.puntyCmd_short,
      State.puntyCmd_badParam, State.puntyCmd_unknown⟩
  case lcsCmdCapture => exact .of (exec_lcsCmdCapture hl) ⟨s.lcsCaptured_out, s.lcsCaptured_jtag, s.lcsCaptured_mbx⟩
  case dbgMemRead =>
    refine .of (exec_dbgMem_read hl hs hv ha hr) ?_
    rw [State.readReg_plain _ _ hplain hst, State.endClock_out, State.endClock_jtag, State.answerRead_punty _ _ (BitVec.isLt _),
      State.dbgCaptured_jtag, State.dbgCaptured_peek]
    exact ⟨s.dbgCaptured_out, rfl, rfl⟩
  case dbgMemCounterRead =>
    refine .of (exec_dbgMem_read hl hs hv ha hr) ?_
    rw [State.readReg_counter _ _ hr hc, State.endClock_reg, State.endClock_jtag, State.answerRead_punty _ _ (BitVec.isLt _),
      State.dbgCaptured_reg]
    exact ⟨rfl, State.reg_setReg _ _ _⟩
  case dbgMemWrite =>
    obtain ⟨hreg, hleaves⟩ := s.dbgCaptured.write32_quiet .punty hr hb hq hz
    refine .of (exec_dbgMem hl (bit_true_iff.2 (by omega)) hd) ?_
    rw [if_pos (bit_true_iff.2 (by omega)), State.ctrlWrite_word _ _ ha (Nat.mod_lt _ (by decide)), writeErrs_register ha hr hz]
    dsimp only
    rw [State.endClock_reg, State.endClock_jtag, State.endClock_out, State.withJtag_reg, hreg, State.withJtag_out,
      hleaves.same .out (by decide), State.dbgCaptured_reg, State.dbgCaptured_locked]
    exact ⟨rfl, rfl, s.dbgCaptured_out⟩
  case dbgMemDenied =>
    obtain ⟨hjtag, hout⟩ := (s.selected 0x21).puntyDenied_port
    exact .of (exec_dbgMem_denied hl (bit_false_iff.2 (by omega)))
      ⟨hjtag, State.puntyDenied_counts (s.selected_leaves 0x21), hout⟩
  case fabRb =>
    have hpart : slice sel.toNat 19 17 = sel.toNat / 2 ^ 17 := Nat.mod_eq_of_lt (by omega)
    have hword : slice sel.toNat 14 0 = sel.toNat % 2 ^ 15 := by simp [slice]
    have hleaves (a b : Output) : Leaves (partsMask [.out, .jtag]) s (((s.selected 0x22).emit a).emit b) :=
      State.emit_leaves (State.emit_leaves (s.selected_leaves 0x22) (by decide) a) (by decide) b
    refine .of (exec_fabRb hl (bit_true_iff.2 (by omega))) 
      ⟨⟨[], ?captured⟩, ?port, (State.endClock_leaves (hleaves _ _)).same .fab (by decide)⟩
    case captured =>
      rw [State.endClock_out, State.emit_out, State.emit_out, State.selected_out, hpart, hword]
      simp
    case port => rw [State.endClock_jtag, State.emits_jtag, State.selected_jtag]
  case fabRbDenied =>
    obtain ⟨-, hout⟩ := (s.selected 0x22).puntyDenied_port
    exact .of (exec_fabRb_denied hl (bit_false_iff.2 (by omega))) ⟨hout, State.puntyDenied_counts (s.selected_leaves 0x22)⟩

end Sys2Proof.Machine


namespace Sys2Proof.Machine

/-! ### Global lines (R224) -/

/-- A line put is the line read, and PENDING shows whether it waits for its new clock. -/
theorem State.setGline_shows (s : State) {g : Nat} (hg : g < 16) (x : GLine) :
    (s.setGline g x).gline g = x ∧ bit ((s.setGline g x).rd F.CFG_CLK_STAT_PENDING) g = decide (x.phase = .joining) :=
  ⟨Tab.get_set_same _ _ _ _, State.bit_rd_wr _ ⟨by decide, by decide⟩ hg _⟩

theorem State.gline_of_fab {s t : State} (h : t.fab = s.fab) (g : Nat) : t.gline g = s.gline g := by
  rw [State.gline, h, State.gline]

/-- A change that begins or is cancelled keeps the source in force. -/
theorem GLine.leave_kept (x : GLine) (oldRuns : Bool) : (x.leave oldRuns).want = x.want ∧ (x.leave oldRuns).sel = x.sel := by
  unfold GLine.leave
  split <;> exact ⟨rfl, rfl⟩

theorem GLine.leave_phase (x : GLine) (oldRuns : Bool) :
    (x.leave oldRuns).phase = if x.want = x.sel then .steady else if oldRuns then .joining else .leaving := by
  unfold GLine.leave
  split <;> rfl

/-- Line `x` when the signal that selects its source has changed. -/
def GLine.switched (x : GLine) (sel oldRuns : Bool) : GLine :=
  if x.phase = .joining then { x with want := sel } else ({ x with want := sel } : GLine).leave oldRuns

theorem GLine.switched_kept (x : GLine) (sel oldRuns : Bool) :
    (x.switched sel oldRuns).want = sel ∧ (x.switched sel oldRuns).sel = x.sel := by
  unfold GLine.switched
  split
  · exact ⟨rfl, rfl⟩
  · exact GLine.leave_kept _ _

theorem GLine.switched_phase (x : GLine) (sel oldRuns : Bool) : (x.switched sel oldRuns).phase =
    if x.phase = .joining then .joining else if sel = x.sel then .steady else if oldRuns then .joining else .leaving := by
  unfold GLine.switched
  split
  · assumption
  · exact GLine.leave_phase _ _

/-- A line whose old clock is stuck goes on to join, and the clock is recorded. -/
def State.clockStuckAt (s : State) (g : Nat) : State :=
  let s1 := s.setGline g { s.gline g with phase := .joining }
  s1.wr F.CFG_CLK_STAT_STUCK (setBitTo (s1.rd F.CFG_CLK_STAT_STUCK) g true)

section
variable {s : State} (hl : s.live = true)
include hl

theorem exec_globalLineSwitch_changed {g : Fin 16} {sel oldRuns : Bool} (hf : s.fab.flag (.lineFixed g) = false)
    (hm : s.fabLive.mux (.lineSel g) = sel) :
    exec (.globalLineSwitch g sel oldRuns) s = .next (s.endClock (s.setGline g ((s.gline g).switched sel oldRuns))) := by
  simp [exec, execGlobalLineSwitch, act_live hl, hf, hm, GLine.switched]

theorem exec_globalLineSwitch_same {g : Fin 16} {sel oldRuns : Bool}
    (h : s.fab.flag (.lineFixed g) = true ∨ s.fabLive.mux (.lineSel g) ≠ sel) :
    exec (.globalLineSwitch g sel oldRuns) s = .next s := by
  rcases h with h | h <;> simp [exec, execGlobalLineSwitch, act_live hl, h]

theorem exec_clockStuck {g : Fin 16} (h : (s.gline g).phase = .leaving) :
    exec (.clockStuck g) s = .next (s.endClock ((s.clockStuckAt g).raise Ev.CFG_CLK_STUCK)) := by
  simp only [exec, execClockStuck, act_live hl, h, if_true, State.clockStuckAt]

theorem exec_newClockArrival {g : Fin 16} (h : (s.gline g).phase = .joining) : exec (.newClockArrival g) s =
    .next (s.endClock (s.setGline g (({ s.gline g with sel := !(s.gline g).sel } : GLine).leave true))) := by
  simp only [exec, execNewClockArrival, act_live hl, h, if_true]

theorem exec_vccoChange {b : Fin 12} {good : Bool} (h : bit (s.rd F.CFG_IO_STAT_VCCO_OK) b ≠ good) :
    exec (.vccoChange b good) s = .next (s.endClock
      ((s.wr F.CFG_IO_STAT_VCCO_OK (setBitTo (s.rd F.CFG_IO_STAT_VCCO_OK) b good)).raise Ev.CFG_IO_VCCO)) := by
  simp only [exec, execVccoChange, act_live hl, h, if_false]

end

/-! ### The ports' open requests under the work of the DMA engines (R235, R261) -/

/-- The requests presented on every port, and the ports that drain, are as they were. -/
def PortsKept (s t : State) : Prop := t.fab.open_ = s.fab.open_ ∧ t.fab.draining = s.fab.draining

theorem PortsKept.refl (s : State) : PortsKept s s := ⟨rfl, rfl⟩

theorem PortsKept.trans {s t u : State} (h : PortsKept s t) (k : PortsKept t u) : PortsKept s u :=
  ⟨k.1.trans h.1, k.2.trans h.2⟩

/-- What leaves the fabric alone leaves its ports alone. -/
theorem Leaves.portsKept {m : Nat} {s t : State} (h : Leaves m s t) (hm : m.testBit Part.fab.ctorIdx = false) :
    PortsKept s t := by
  have hfab : t.fab = s.fab := h.same .fab hm
  exact ⟨congrArg Fab.open_ hfab, congrArg Fab.draining hfab⟩

theorem PortsKept.forEach {α β : Type} {f : α → State × β → State × β} (hf : ∀ a x, PortsKept x.1 (f a x).1)
    (l : List α) (x : State × β) : PortsKept x.1 (Machine.forEach l f x).1 := by
  unfold Machine.forEach
  induction l generalizing x with
  | nil => exact .refl _
  | cons a l ih => exact (hf a x).trans (ih _)

theorem State.setWinQueue_portsKept (s : State) (k : Nat) (l : List WinReq) : PortsKept s (s.setWinQueue k l) := ⟨rfl, rfl⟩

theorem State.askWindow_portsKept (s : State) (r : WinReq) : PortsKept s (s.askWindow r) := s.setWinQueue_portsKept _ _

theorem State.putDesc_portsKept (s : State) (e : Nat) (d : Desc) : PortsKept s (s.putDesc e d) := ⟨rfl, rfl⟩

theorem State.settle_portsKept (s : State) (e slot : Nat) : PortsKept s (s.settle e slot) :=
  (State.settle_leaves (.refl 0x10061b900f000008241b s) (by decide) e slot).portsKept (by decide)

theorem State.accessErr_portsKept (s : State) (path : Nat) (write outside : Bool) (addr : Nat) :
    PortsKept s (s.accessErr path write outside addr) :=
  (State.accessErr_leaves (.refl 0x10001990080000002011 s) (by decide) path write outside addr).portsKept (by decide)

theorem State.dropAsked_portsKept (s : State) (e : Nat) (d : Desc) : PortsKept s (s.dropAsked e d) := by
  unfold State.dropAsked Machine.forEach
  generalize upTo 8 = l
  induction l generalizing s with
  | nil => exact .refl s
  | cons k l ih =>
    refine .trans ?_ (ih _)
    dsimp only
    split
    · exact .refl s
    · split
      · exact .refl s
      · exact (s.putDesc_portsKept e _).trans (State.setWinQueue_portsKept _ _ _)

theorem State.endDesc_portsKept (s : State) (e : Nat) (d : Desc) (status : Nat) : PortsKept s (s.endDesc e d status) := by
  have hdrop := s.dropAsked_portsKept e d
  unfold State.endDesc
  dsimp only
  split
  · exact hdrop
  · exact (hdrop.trans (State.putDesc_portsKept _ _ _)).trans (State.settle_portsKept _ _ _)

theorem State.putPiece_portsKept (e at_ off : Nat) (bs : List Byte) (p : Nat × Nat) (x : State × Desc) :
    PortsKept x.1 (State.putPiece e at_ off bs p x).1 := by
  rw [State.putPiece_fst]
  split
  · exact x.1.askWindow_portsKept _
  · exact x.1.accessErr_portsKept _ _ _ _

theorem State.putWindow_portsKept (s : State) (e : Nat) (d : Desc) (bs : List Byte) : PortsKept s (s.putWindow e d bs).1 :=
  PortsKept.forEach (f := State.putPiece e (d.dst + d.got) d.got bs) (State.putPiece_portsKept _ _ _ _) _ (s, d)

theorem State.dmaPut_portsKept (s : State) (e : Nat) (d : Desc) (bs : List Byte) : PortsKept s (s.dmaPut e d bs) := by
  unfold State.dmaPut
  refine .trans ?_ (State.putDesc_portsKept _ _ _)
  split
  · split
    · exact s.putWindow_portsKept e d bs
    · exact (State.putFor_leaves (.refl 0x10061b900f000008201b s) (by decide) _ _ _ _ _).portsKept (by decide)
  · split
    · exact (State.hostWrite_leaves (.refl 0x10000080000000000000 s) (by decide) _ _).portsKept (by decide)
    · split
      · exact (State.putGob_leaves (.refl 0x10041990082100006012 s) (by decide) _ _ _).portsKept (by decide)
      · exact (State.putFrame_leaves (.refl 0x10001d90080000202010 s) (by decide) _ _ _).portsKept (by decide)

theorem State.flow_portsKept (e slot fuel : Nat) (s : State) : PortsKept s (s.flow e slot fuel) := by
  induction fuel generalizing s with
  | zero => exact .refl s
  | succ fuel ih =>
    unfold State.flow
    split
    · exact .refl s
    · split
      · exact .refl s
      · split
        · exact s.endDesc_portsKept _ _ _
        · exact (s.dmaPut_portsKept _ _ _).trans (ih _)

theorem State.land_portsKept (s : State) (e slot off : Nat) (bs : List Byte) : PortsKept s (s.land_ e slot off bs) := by
  unfold State.land_
  split
  · exact .refl s
  · exact ((s.putDesc_portsKept _ _).trans (State.flow_portsKept _ _ _ _)).trans (State.settle_portsKept _ _ _)

/-- The end of a request changes no request presented on a port, nor which ports drain. -/
theorem State.winDone_portsKept (s : State) (k : Nat) (r : WinReq) (bs : List Byte) : PortsKept s (s.winDone k r bs) := by
  unfold State.winDone
  split
  · unfold State.dmaWinDone
    split
    · exact .refl s
    · dsimp only
      split
      · exact (s.putDesc_portsKept _ _).trans (State.settle_portsKept _ _ _)
      · exact (s.putDesc_portsKept _ _).trans (State.land_portsKept _ _ _ _ _)
  · exact ⟨rfl, rfl⟩

/-! ### The ports of the user window (R235, R236) -/

section
variable {s t : State} (h : PortsKept s t)
include h

theorem PortsKept.winOpen (k : Nat) : t.winOpen k = s.winOpen k := by rw [State.winOpen, h.1, State.winOpen]

/-- A port that does not drain is not isolated. -/
theorem PortsKept.tryIsolate {k : Nat} (hd : s.fab.draining.contains k = false) : t.tryIsolate k = t := by
  simp only [State.tryIsolate, h.2, hd, Bool.false_and, Bool.false_eq_true, if_false]

end

theorem State.winOpen_setWinOpen (s : State) (k : Nat) (l : List WinReq) : (s.setWinOpen k l).winOpen k = l :=
  Tab.get_set_same _ _ _ _

theorem State.winQueue_setWinQueue (s : State) (k : Nat) (l : List WinReq) : (s.setWinQueue k l).winQueue k = l :=
  Tab.get_set_same _ _ _ _

theorem State.winDone_core (s : State) (k : Nat) {r : WinReq} (h : r.from_ = none) (bs : List Byte) :
    s.winDone k r bs = s.emit (.windowAnswer k (if r.write then [] else bs)) := by
  simp [State.winDone, h]

section
variable {s : State} {k : Nat}

theorem State.serveWindow_empty (h : s.winQueue k = []) : s.serveWindow k = s := by
  simp [State.serveWindow, h]

/-- A port that serves holds its requests back without an edge of its clock, or with 16 open. -/
theorem State.serveWindow_waits (hs : s.windowServes k = true)
    (h : ((s.winLive k).length < 16 && s.fab.winEdges.contains k) = false) : s.serveWindow k = s := by
  unfold State.serveWindow
  split
  · rfl
  · rw [if_neg (by simp [hs]), h, if_neg Bool.false_ne_true]

theorem State.serveWindow_refuses {r : WinReq} {rs : List WinReq} (hq : s.winQueue k = r :: rs) (hs : s.windowServes k = false) :
    s.serveWindow k = (s.setWinQueue k rs).winRefuse k r := by
  simp [State.serveWindow, hq, hs]

theorem State.serveWindow_presents {r : WinReq} {rs : List WinReq} (hq : s.winQueue k = r :: rs) (hs : s.windowServes k = true)
    (hn : (s.winLive k).length < 16) (he : s.fab.winEdges.contains k = true) :
    s.serveWindow k = (s.setWinQueue k rs).present k r := by
  simp only [State.serveWindow, hq, hs, hn, he, Bool.not_true, Bool.false_eq_true, if_false, decide_true, Bool.and_self, if_true]

end

/-- What presenting a request leaves. -/
theorem State.present_shows (s : State) (k : Nat) (r : WinReq) : (s.present k r).winOpen k = s.winOpen k ++ [r] ∧
    (s.present k r).winQueue k = s.winQueue k ∧
    (s.present k r).out = s.out ++ [.window k r.write (r.addr % 2 ^ 27 / 64 * 64) r.be r.data] :=
  ⟨Tab.get_set_same _ _ _ _, rfl, rfl⟩

/-- The block of a core's request within its slice. -/
theorem coreReq_addr (k : Fin 8) (block : BitVec 21) (w : Option (BitVec 64 × BitVec 512)) :
    (coreReq k block.toNat w).addr % 2 ^ 27 / 64 * 64 = 64 * block.toNat := by
  have hblock := block.isLt
  simp only [coreReq]
  omega

end Sys2Proof.Machine


namespace Sys2Proof.Machine

section
variable {s : State} {k : Fin 8} (hl : s.live = true)
include hl

theorem exec_windowPortRequest (block : BitVec 21) (w : Option (BitVec 64 × BitVec 512)) :
    exec (.windowPortRequest k (some (block, w))) s =
      .next (s.endClock ((s.setWinQueue k (s.winQueue k ++ [coreReq k block.toNat w])).serveWindow k)) := by
  simp only [exec, execWindowPortRequest, act_live hl]

theorem exec_windowPortNext : exec (.windowPortRequest k none) s = .next (s.endClock (s.serveWindow k)) := by
  simp only [exec, execWindowPortRequest, act_live hl]

theorem exec_windowPortAnswer_none (data : BitVec 512) (h : s.winOpen k = []) : exec (.windowPortAnswer k data) s = .next s := by
  simp [exec, execWindowPortAnswer, act_live hl, h]

theorem exec_windowPortAnswer_late {data : BitVec 512} {r : WinReq} {rs : List WinReq} (h : s.winOpen k = r :: rs)
    (hlate : r.late = true) : exec (.windowPortAnswer k data) s = .next (s.endClock (s.setWinOpen k rs)) := by
  simp [exec, execWindowPortAnswer, act_live hl, h, hlate]

theorem exec_windowPortAnswer {data : BitVec 512} {r : WinReq} {rs : List WinReq} (h : s.winOpen k = r :: rs)
    (hlate : r.late = false) : exec (.windowPortAnswer k data) s =
      .next (s.endClock (((s.setWinOpen k rs).winDone k r (leBytes 64 data.toNat)).tryIsolate k)) := by
  simp [exec, execWindowPortAnswer, act_live hl, h, hlate]

theorem exec_windowTimeout_open {r : WinReq} (h : (s.winLive k).head? = some r) :
    exec (.windowTimeout k) s = .next (s.endClock ((s.setWinOpen k (markLate (s.winOpen k))).winTimedOut k r)) := by
  simp only [exec, execWindowTimeout, act_live hl, h]

theorem exec_windowTimeout_waiting {r : WinReq} {rs : List WinReq} (h : s.winLive k = []) (hq : s.winQueue k = r :: rs) :
    exec (.windowTimeout k) s = .next (s.endClock ((s.setWinQueue k rs).winTimedOut k r)) := by
  simp only [exec, execWindowTimeout, act_live hl, h, hq, List.head?_nil]

theorem exec_windowTimeout_none (h : s.winLive k = []) (hq : s.winQueue k = []) : exec (.windowTimeout k) s = .next s := by
  simp [exec, execWindowTimeout, act_live hl, h, hq]

end

/-- A stuck clock is recorded and raised, and the line goes on to join (R224). -/
theorem State.clockStuckAt_shows (s : State) {g : Nat} (hg : g < 16) :
    ((s.clockStuckAt g).raise Ev.CFG_CLK_STUCK).gline g = { s.gline g with phase := .joining } ∧
      bit (((s.clockStuckAt g).raise Ev.CFG_CLK_STUCK).rd F.CFG_CLK_STAT_STUCK) g = true ∧
      Pends ((s.clockStuckAt g).raise Ev.CFG_CLK_STUCK) Ev.CFG_CLK_STUCK := by
  have hfab : ((s.clockStuckAt g).raise Ev.CFG_CLK_STUCK).fab = (s.clockStuckAt g).fab :=
    (State.raise_leaves (.refl 0x10001990080000002010 _) (by decide) _).same .fab (by decide)
  refine ⟨?_, ?_, State.rd_raise_self _ _⟩
  · rw [State.gline_of_fab hfab]
    exact Tab.get_set_same _ _ _ _
  · rw [State.rd_raise _ _ F.CFG_CLK_STAT_STUCK_part (by decide)]
    exact State.bit_rd_wr _ ⟨by decide, by decide⟩ hg true

/-- A refused request ends with its answer, counted and raised (R23). -/
theorem State.winRefuse_shows (s : State) (k block : Nat) (w : Option (BitVec 64 × BitVec 512)) :
    Leaves 0x10001990080000002011 s (s.winRefuse k (coreReq k block w)) ∧
      Counted s (s.winRefuse k (coreReq k block w)) F.SYS_ACCESS_ERR_CNT_COUNT ∧
      Pends (s.winRefuse k (coreReq k block w)) Ev.SYS_ACCESS_ERR ∧
      ∃ l : List Output, (s.winRefuse k (coreReq k block w)).out =
        l ++ [Output.windowAnswer k (if w.isSome then [] else List.replicate 64 0)] := by
  have hleaves : Leaves 0x10001990080000002011 s (s.accessErr (coreReq k block w).path (coreReq k block w).write true
      (coreReq k block w).addr) := State.accessErr_leaves (.refl _ s) (by decide) _ _ _ _
  have hcount : Counted s (s.accessErr (coreReq k block w).path (coreReq k block w).write true (coreReq k block w).addr)
      F.SYS_ACCESS_ERR_CNT_COUNT :=
    (State.rd_raise _ _ F.SYS_ACCESS_ERR_CNT_COUNT_part (by decide)).trans (s.countAccess_counts ..)
  have hpend : Pends (s.accessErr (coreReq k block w).path (coreReq k block w).write true (coreReq k block w).addr)
      Ev.SYS_ACCESS_ERR := State.rd_raise_self _ _
  rw [State.winRefuse, State.winDone_core _ _ rfl]
  generalize s.accessErr _ _ _ _ = t at *
  exact ⟨State.emit_leaves hleaves (by decide) _, hcount, hpend, t.out, rfl⟩

/-- A request that times out is counted and raised, and a core's is answered; the requests presented, and those that wait where
it was a core's, are as they were (R236). -/
theorem State.winTimedOut_shows (s : State) {k : Nat} (r : WinReq) (hd : s.fab.draining.contains k = false) :
    PortsKept s (s.winTimedOut k r) ∧
      (r.from_ = none → (s.winTimedOut k r).winQueue k = s.winQueue k) ∧
      (r.from_ = none → Output.windowAnswer k (if r.write then [] else List.replicate 64 0) ∈ (s.winTimedOut k r).out) ∧
      Counted s (s.winTimedOut k r) F.CFG_WIN_TO_CNT_COUNT ∧
      (s.winTimedOut k r).rd F.CFG_WIN_STAT_TIMEOUT = 1 ∧
      Pends (s.winTimedOut k r) Ev.CFG_WIN_TIMEOUT := by
  have hdone := s.winDone_portsKept k r (List.replicate 64 0)
  have hcfg : Counted s ((s.winDone k r (List.replicate 64 0)).bump F.CFG_WIN_TO_CNT_COUNT) F.CFG_WIN_TO_CNT_COUNT := by
    have hbump := (s.winDone k r (List.replicate 64 0)).rd_bump F.CFG_WIN_TO_CNT_COUNT ⟨rfl, rfl⟩
    rwa [(State.winDone_leaves (.refl 0x10061fb00f210028641b s) (by decide) k r _).rd F.CFG_WIN_TO_CNT_COUNT_part (by decide)
      (by decide)] at hbump
  have hcore : r.from_ = none → s.winDone k r (List.replicate 64 0) =
      s.emit (.windowAnswer k (if r.write then [] else List.replicate 64 0)) := fun h => s.winDone_core k h _
  unfold State.winTimedOut
  generalize s.winDone k r (List.replicate 64 0) = t at *
  have hleaves : Leaves 0x10001990080000002050 t
      (((t.bump F.CFG_WIN_TO_CNT_COUNT).wr F.CFG_WIN_STAT_TIMEOUT 1).raise Ev.CFG_WIN_TIMEOUT) :=
    State.raise_leaves (((Leaves.refl _ t).bump (by decide)).wr (by decide)) (by decide) _
  have hkept := hdone.trans (hleaves.portsKept (by decide))
  have hout : t.out <+: (((t.bump F.CFG_WIN_TO_CNT_COUNT).wr F.CFG_WIN_STAT_TIMEOUT 1).raise Ev.CFG_WIN_TIMEOUT).out := by
    have hemits := ((t.bump F.CFG_WIN_TO_CNT_COUNT).wr F.CFG_WIN_STAT_TIMEOUT 1).raise_emits Ev.CFG_WIN_TIMEOUT
    rwa [State.wr_out, State.bump_out] at hemits
  rw [hkept.tryIsolate hd]
  refine ⟨hkept, fun h => ?queue, fun h => ?answer, ?count, ?timeout, State.rd_raise_self _ _⟩
  case queue =>
    have hfab : (((t.bump F.CFG_WIN_TO_CNT_COUNT).wr F.CFG_WIN_STAT_TIMEOUT 1).raise Ev.CFG_WIN_TIMEOUT).fab = t.fab :=
      hleaves.same .fab (by decide)
    rw [State.winQueue, hfab, hcore h]
    rfl
  case answer =>
    refine hout.subset ?_
    rw [hcore h, State.emit_out]
    exact List.mem_append_right _ (.head _)
  case count =>
    exact ((State.rd_raise _ _ F.CFG_WIN_TO_CNT_COUNT_part (by decide)).trans (State.rd_setReg_ne _ _ _ (by decide))).trans hcfg
  case timeout =>
    exact (State.rd_raise _ _ F.CFG_WIN_STAT_TIMEOUT_part (by decide)).trans (State.rd_wr _ _ _ ⟨by decide, by decide⟩)

@[simp] theorem State.endClock_gline (s t : State) (g : Nat) : (s.endClock t).gline g = t.gline g := rfl
@[simp] theorem State.endClock_winOpen (s t : State) (k : Nat) : (s.endClock t).winOpen k = t.winOpen k := rfl
@[simp] theorem State.endClock_winQueue (s t : State) (k : Nat) : (s.endClock t).winQueue k = t.winQueue k := rfl

theorem State.setWinOpen_rd (s : State) (k : Nat) (l : List WinReq) (f : Fld) : (s.setWinOpen k l).rd f = s.rd f := rfl
theorem State.setWinQueue_rd (s : State) (k : Nat) (l : List WinReq) (f : Fld) : (s.setWinQueue k l).rd f = s.rd f := rfl

theorem State.winQueue_of_fab {s t : State} (h : t.fab = s.fab) (k : Nat) : t.winQueue k = s.winQueue k := by
  rw [State.winQueue, h, State.winQueue]

theorem State.winOpen_of_fab {s t : State} (h : t.fab = s.fab) (k : Nat) : t.winOpen k = s.winOpen k := by
  rw [State.winOpen, h, State.winOpen]

theorem State.winOpen_setWinQueue (s : State) (k j : Nat) (l : List WinReq) : (s.setWinQueue k l).winOpen j = s.winOpen j := rfl

/-- A request that joins an empty queue changes that queue alone. -/
theorem State.asked_shows (s : State) {k : Nat} (hq : s.winQueue k = []) (r : WinReq) :
    (s.setWinQueue k (s.winQueue k ++ [r])).winQueue k = [r] ∧
      (s.setWinQueue k (s.winQueue k ++ [r])).windowServes k = s.windowServes k ∧
      (s.setWinQueue k (s.winQueue k ++ [r])).winOpen k = s.winOpen k ∧
      (s.setWinQueue k (s.winQueue k ++ [r])).winLive k = s.winLive k ∧
      (s.setWinQueue k (s.winQueue k ++ [r])).fab.winEdges = s.fab.winEdges ∧
      (s.setWinQueue k (s.winQueue k ++ [r])).out = s.out :=
  ⟨(State.winQueue_setWinQueue _ _ _).trans (congrArg (· ++ [r]) hq), rfl, rfl, rfl, rfl, rfl⟩

/-- Settles O39: the lines and the supplies by what their registers show, the ports by what their queues hold. -/
theorem fabric : Obligations.Fabric := by
  unfold Obligations.Fabric
  refine ⟨fun s g sel oldRuns hl => ?globalLineSwitch, fun s g hl hp => ?clockStuck, fun s g hl hp => ?newClockArrival,
    fun s b good hl hb => ?vccoChange, fun s b good hl hb => ?vccoSame, fun s g hl hp => ?clockStuckNot,
    fun s g hl hp => ?newClockNotAwaited, fun s k block w hl hq hn => ?windowPortRequest,
    fun s k block w hl hn hs hq => ?windowPortFull, fun s k r rs hl hq hs hn he => ?windowPortNext,
    fun s k hl hs he => ?windowPortNoEdge, fun s k hl hq => ?windowPortNone,
    fun s k data r rs hl ho hd => ?windowPortAnswer, fun s k data hl ho => .of (exec_windowPortAnswer_none hl data ho) rfl,
    fun s k r hl hr hd => ?windowTimeout, fun s k r rs hl ho hq hd => ?windowTimeoutWaiting,
    fun s k hl ho hq => .of (exec_windowTimeout_none hl ho hq) rfl⟩
  case globalLineSwitch =>
    by_cases hsame : s.fab.flag (.lineFixed g) = true ∨ s.fabLive.mux (.lineSel g) ≠ sel
    · refine .of (exec_globalLineSwitch_same hl hsame) ⟨fun _ => rfl, fun hf hm => ?_, fun hf hm => ?_, fun hf hm => ?_⟩ <;>
        exact absurd hsame (by simp [hf, hm])
    · obtain ⟨hf, hm⟩ : s.fab.flag (.lineFixed g) = false ∧ s.fabLive.mux (.lineSel g) = sel := by
        simpa only [not_or, Bool.not_eq_true, not_not] using hsame
      obtain ⟨hline, hpending⟩ := s.setGline_shows g.isLt ((s.gline g).switched sel oldRuns)
      refine .of (exec_globalLineSwitch_changed hl hf hm) ?_
      rw [State.endClock_gline, State.endClock_rd, hline, hpending]
      exact ⟨fun h => absurd h hsame, fun _ _ => GLine.switched_kept _ _ _, fun _ _ => GLine.switched_phase _ _ _,
        fun _ _ => rfl⟩
  case clockStuck =>
    obtain ⟨hline, hstuck, hpend⟩ := s.clockStuckAt_shows g.isLt
    refine .of (exec_clockStuck hl hp) ?_
    rw [State.endClock_gline, State.endClock_rd, Pends, State.endClock_rd, hline]
    exact ⟨rfl, hstuck, hpend⟩
  case newClockArrival =>
    obtain ⟨hline, -⟩ := s.setGline_shows g.isLt (({ s.gline g with sel := !(s.gline g).sel } : GLine).leave true)
    refine .of (exec_newClockArrival hl hp) ?_
    rw [State.endClock_gline, hline]
    exact ⟨(GLine.leave_kept _ _).2, GLine.leave_phase _ _⟩
  case vccoChange =>
    refine .of (exec_vccoChange hl hb) ?_
    rw [Pends, State.endClock_rd, State.endClock_rd, State.rd_raise _ _ F.CFG_IO_STAT_VCCO_OK_part (by decide)]
    exact ⟨State.bit_rd_wr _ ⟨by decide, by decide⟩ b.isLt _, State.rd_raise_self _ _⟩
  case vccoSame => exact .of (t := s) (by simp [exec, execVccoChange, act_live hl, hb]) rfl
  case clockStuckNot => exact .of (t := s) (by simp [exec, execClockStuck, act_live hl, hp]) rfl
  case newClockNotAwaited => exact .of (t := s) (by simp [exec, execNewClockArrival, act_live hl, hp]) rfl
  case windowPortRequest =>
    obtain ⟨hqueue, hserves, hopen, hlive, hedges, hout⟩ := s.asked_shows hq (coreReq k block.toNat w)
    refine .of (exec_windowPortRequest hl block w) ?_
    rw [State.endClock_winQueue, State.endClock_winOpen, State.endClock_out, ← hserves, ← hopen, ← hout, ← hedges]
    have hcount := s.setWinQueue_rd k (s.winQueue k ++ [coreReq k block.toNat w]) F.SYS_ACCESS_ERR_CNT_COUNT
    rw [Counted, Pends, State.endClock_rd, State.endClock_rd, ← hcount]
    rw [← hlive] at hn
    generalize s.setWinQueue k (s.winQueue k ++ [coreReq k block.toNat w]) = t at *
    refine ⟨fun hs he => ?_, fun hs he => ?_, fun hs => ?_⟩
    · rw [State.serveWindow_waits hs (by simp only [he, Bool.and_false])]
      exact ⟨hqueue, rfl, rfl⟩
    · obtain ⟨hwinOpen, hwinQueue, hwinOut⟩ := (t.setWinQueue k []).present_shows k (coreReq k block.toNat w)
      rw [State.serveWindow_presents hqueue hs hn he, hwinOpen, hwinQueue, hwinOut, State.winQueue_setWinQueue, coreReq_addr]
      exact ⟨rfl, rfl, rfl⟩
    · obtain ⟨hleaves, hcounted, hpend, hanswer⟩ := (t.setWinQueue k []).winRefuse_shows k block.toNat w
      rw [Counted, State.setWinQueue_rd] at hcounted
      rw [State.serveWindow_refuses hqueue hs]
      have hfab : ((t.setWinQueue k []).winRefuse k (coreReq k block.toNat w)).fab = (t.setWinQueue k []).fab :=
        hleaves.same .fab (by decide)
      rw [State.winQueue_of_fab hfab, State.winOpen_of_fab hfab, State.winQueue_setWinQueue, State.winOpen_setWinQueue]
      exact ⟨rfl, rfl, hcounted, hpend, hanswer⟩
  case windowPortFull =>
    obtain ⟨hqueue, hserves, hopen, hlive, hedges, hout⟩ := s.asked_shows hq (coreReq k block.toNat w)
    refine .of (exec_windowPortRequest hl block w) ?_
    rw [State.endClock_winQueue, State.endClock_winOpen, State.endClock_out, ← hopen, ← hout]
    rw [← hlive] at hn
    rw [← hserves] at hs
    generalize s.setWinQueue k (s.winQueue k ++ [coreReq k block.toNat w]) = t at *
    rw [State.serveWindow_waits hs (by simp only [Nat.not_lt.2 hn, decide_false, Bool.false_and])]
    exact ⟨hqueue, rfl, rfl⟩
  case windowPortNext =>
    obtain ⟨hwinOpen, hwinQueue, hwinOut⟩ := (s.setWinQueue k rs).present_shows k r
    refine .of (exec_windowPortNext hl) ?_
    rw [State.endClock_winQueue, State.endClock_winOpen, State.endClock_out, State.serveWindow_presents hq hs hn he, hwinOpen,
      hwinQueue, hwinOut, State.winQueue_setWinQueue]
    exact ⟨rfl, rfl, rfl⟩
  case windowPortNoEdge =>
    refine .of (exec_windowPortNext hl) ?_
    rw [State.serveWindow_waits hs (by simp only [he, Bool.and_false]), State.endClock_self]
  case windowPortNone =>
    refine .of (exec_windowPortNext hl) ?_
    rw [State.serveWindow_empty hq, State.endClock_self]
  case windowPortAnswer =>
    cases hlate : r.late with
    | true =>
      exact .of (exec_windowPortAnswer_late hl ho hlate) ⟨State.winOpen_setWinOpen _ _ _, fun _ => ⟨rfl, rfl⟩, nofun⟩
    | false =>
      have hkept := (s.setWinOpen k rs).winDone_portsKept k r (leBytes 64 data.toNat)
      refine .of (exec_windowPortAnswer hl ho hlate) ?_
      rw [hkept.tryIsolate hd, State.endClock_winOpen, State.endClock_out, hkept.winOpen, State.winOpen_setWinOpen]
      refine ⟨rfl, nofun, fun _ hcore => ?_⟩
      rw [State.winDone_core _ _ hcore, State.emit_out]
      rfl
  case windowTimeout =>
    obtain ⟨hkept, -, hanswer, hcount, hflag, hpend⟩ := (s.setWinOpen k (markLate (s.winOpen k))).winTimedOut_shows r hd
    rw [Counted, State.setWinOpen_rd] at hcount
    refine .of (exec_windowTimeout_open hl hr) ?_
    rw [Counted, Pends, State.endClock_winOpen, State.endClock_out, State.endClock_rd, State.endClock_rd, State.endClock_rd,
      hkept.winOpen, State.winOpen_setWinOpen]
    exact ⟨rfl, hanswer, hcount, hflag, hpend⟩
  case windowTimeoutWaiting =>
    obtain ⟨-, hqueue, hanswer, hcount, hflag, hpend⟩ := (s.setWinQueue k rs).winTimedOut_shows r hd
    rw [Counted, State.setWinQueue_rd] at hcount
    rw [State.winQueue_setWinQueue] at hqueue
    refine .of (exec_windowTimeout_waiting hl ho hq) ?_
    rw [Counted, Pends, State.endClock_winQueue, State.endClock_out, State.endClock_rd, State.endClock_rd, State.endClock_rd]
    exact ⟨hqueue, hanswer, hcount, hflag, hpend⟩

end Sys2Proof.Machine


namespace Sys2Proof.Machine

/-! ### A request of BAR2 at a stack whose power-down it abandons (R269, R366, R367) -/

theorem exec_bar2Request_read {s : State} {a : BitVec 35} {n : Fin 4097} (hl : s.live = true) (ha : inHbm a.toNat n = true)
    (hr : s.on F.PCI_STAT_READY = true) (hd : s.pcie.d3hot = false) (hn : n.val ≤ s.pcie.mrrs) (up : Upsets) :
    exec (.bar2Request a n none .good up) s = .next (s.endClock ((s.upsets (upsetList up)).askHbm (.read a.toNat n))) := by
  simp [exec, execBar2Request, actPcie, hl, ha, hr, hd, hn, State.tlpFault, State.sizeOk]

/-- Stack 0, trained and awake, begins a power-down and is not isolated yet; the endpoint is ready. -/
def stackPoweringDown : State :=
  ((State.reset.wr F.PCI_STAT_READY 1).wr (F.HBM_STATUS_TRAINED 0) 1).setDom 16 { Domain.init with down := some 1 }

/-- Refutes O42 in its clause `bar2RequestWaits`, which holds a read wherever a stack of its range does not serve as the request
comes: a stack that has begun a power-down does not serve then (R366), but the request itself abandons the power-down (R367), so
the stack serves again and the read is answered in its own step, with nothing held. -/
theorem not_requests : ¬ Obligations.Requests := by
  unfold Obligations.Requests
  rintro ⟨-, -, -, -, -, -, -, -, -, -, -, -, -, -, -, -, bar2RequestWaits, -⟩
  obtain ⟨u, hu, hheld, -⟩ := bar2RequestWaits stackPoweringDown 0 8 [] .good (by decide +kernel) (by decide)
    (by decide +kernel) rfl rfl (by decide +kernel) (by decide +kernel)
  have hanswered : u.hbmHeld = [] := by
    rw [exec_bar2Request_read (by decide +kernel) (by decide) (by decide +kernel) rfl (by decide +kernel)] at hu
    rw [← answer_next hu]
    decide +kernel
  simp [hanswered] at hheld

end Sys2Proof.Machine

namespace Sys2Proof.Machine

/-! ### A remap whose spare has been taken meanwhile (R36) -/

theorem exec_remapCopyDone {s : State} {c : Fin 16} {k : Nat} (hl : s.live = true)
    (hk : Tab.get (fun _ => none) s.ldr.remaps c.val = some k) (hp : s.rd (F.SEC_STATUS_PSTATE c) = 0)
    (hb : (s.bst.slice == some (9 * c.val + 8)) = false) (hspare : s.spareSound c = false) :
    exec (.remapCopyDone c) s = .next (s.endClock (((s.remapOver c).refuseRemap c).evalSector c)) := by
  simp [exec, execRemapCopyDone, act, hl, hk, hp, hb, hspare]

/-- Sector 0 is awake and copies position 0 onto its spare, which has come into use since the request. -/
def spareTaken : State :=
  ((State.reset.wr (F.SEC_STATUS_PSTATE 0) 0).wr (F.SEC_PHYS_MAP_SPARE_IN_USE 0) 1).withLdr
    { Loader.init with remaps := [(0, some 0)] }

/-- Refutes O22 in its clause `remapCopyDone`, which gives the repair map the spare's entry at the end of every copy: the copy of
a remap whose spare was taken since the request ends as a refused one (log entry 143), and enters nothing into the map. -/
theorem not_sectorCommands : ¬ Obligations.SectorCommands := by
  unfold Obligations.SectorCommands
  rintro ⟨-, -, remapCopyDone, -⟩
  obtain ⟨u, hu, -, -, -, -, hrepair⟩ := remapCopyDone spareTaken 0 0 (by decide +kernel) rfl (by decide +kernel) rfl
  rw [exec_remapCopyDone (by decide +kernel) rfl (by decide +kernel) rfl (by decide +kernel)] at hu
  have hnone : u.cstore.repairs = [] := by
    rw [← answer_next hu]
    decide +kernel
  simp [hnone] at hrepair

/-! ### A step past the end of its BP's bank (R42, R47) -/

theorem exec_eval {s : State} {t : Fin 128} {p : Fin 1024} {k : Fin 16384} {n st w : Nat} {repl : Bool} (hl : s.live = true)
    (hw : s.fetches t p k 1 n repl st w) (dmBad : Option DmBad) (rowBad : Option (Fin 16384)) :
    exec (.eval t p k dmBad rowBad) s = .next (s.endClock (forEach (s.liveLanes t p w repl) (fun q s =>
      (s.result t q k st repl (s.lut n t q k repl true w)).capture t k st p q w repl (s.lut n t q k repl true w))
      (s.readFaults n t p w repl dmBad rowBad))) := by
  obtain ⟨hunit, rfl, hkind, hvalid⟩ := hw
  simp [exec, execEval, act, hl, State.atStep, hunit, hkind, hvalid]

/-- Region 0, which is not built for two windows, is in its window B; step 1024 of BP 0 of tile 0 fetches the word 2048 of its
bank, an EVAL whose truth table is 1 everywhere. -/
def windowPastBank : State :=
  ((State.reset.wr (F.SEC_CTRL_ASSIGNED 0) 1).setGaf 0
    { State.reset.gaf 0 with phase := .window, cur := ⟨true, false, []⟩ }).withSteps [(2048, 0x1ffff000000000000000#80)]

/-- Refutes O23 in its clause `eval`, which leaves every location alone but the one of the step in the BP that executes it: in a
region of one window whose cycle is of window B, step 1024 has the address 2048, one past the bank, and its result falls into
location 0 of the next BP. -/
theorem not_stepWords : ¬ Obligations.StepWords := by
  unfold Obligations.StepWords
  rintro ⟨-, eval, -⟩
  have hfetch : windowPastBank.fetches (0 : Fin 128) (0 : Fin 1024) (1024 : Fin 16384) 1 0 false 2048
    0x1ffff000000000000000 := by decide +kernel
  have hl : windowPastBank.live = true := by decide +kernel
  obtain ⟨u, hu, -, -, hkept⟩ := eval windowPastBank 0 0 1024 none none 0 false 2048 _ hl hfetch
  have hnext : u.dmGet 0 1 0 = windowPastBank.dmGet 0 1 0 := hkept 1 0 (by decide) (by decide) (.inl (by decide +kernel))
  rw [exec_eval hl hfetch] at hu
  rw [← answer_next hu] at hnext
  exact absurd hnext (by decide +kernel)

/-! ### Sectors of one region go down together (R362) -/

/-- Sectors 0 and 1, both of region 0, have begun to power down; all their ports are drained. -/
def regionDraining : State :=
  (((State.reset.wr (F.SEC_CTRL_ASSIGNED 0) 1).wr (F.SEC_CTRL_ASSIGNED 1) 1).setDom 0
    { Domain.init with down := some 1 }).setDom 1 { Domain.init with down := some 1 }

/-- Refutes O53 in its clause `powerDownDrainEnd`, which changes no domain but the one named: the sectors of one region are isolated
together (R362), so the end of sector 0's drain isolates sector 1 too. -/
theorem not_powerDomains : ¬ Obligations.PowerDomains := by
  unfold Obligations.PowerDomains
  rintro ⟨-, powerDownDrainEnd, -⟩
  obtain ⟨u, hu, -, hothers, -⟩ := powerDownDrainEnd regionDraining 0 (by decide +kernel) (by decide +kernel)
    (by decide +kernel) (by decide +kernel)
  have hkept : (u.dom 1).isolated = false := by
    rw [hothers 1 (by decide)]
    decide +kernel
  have hisolated : (u.dom 1).isolated = true := by
    rw [exec, execPowerDownDrainEnd, act, if_pos (by decide +kernel : regionDraining.live = true)] at hu
    rw [← answer_next hu]
    decide +kernel
  simp [hkept] at hisolated

end Sys2Proof.Machine

namespace Sys2Proof.Machine

/-! ### The state after reset -/

/-- SYS_ID as reset leaves it: the part and the revision above a byte that holds the fused grade. -/
theorem reset_sysId (h : Config.grade < 4) : (State.reset.reg 0).toNat / 2 ^ 8 = 0x1312b0 := by
  have hrow : (match regRow? 0 with | some r => r.reset | none => 0) = 0x1312b000 := by decide +kernel
  have hreg : State.reset.reg 0 = BitVec.ofNat 32 (0x1312b000 + Config.grade) :=
    congrArg (fun w => BitVec.ofNat 32 (w + Config.grade)) hrow
  rw [hreg, BitVec.toNat_ofNat]
  omega

/-- Every gaffer is IDLE after reset. -/
theorem reset_run (n : Fin 16) : State.reset.run n = 0 := by
  revert n
  decide +kernel

/-- Settles O4: every store is empty after reset, and the registers named are read from the register map. -/
theorem resetState : Obligations.ResetState := by
  unfold Obligations.ResetState
  have hminInt : State.reset.rd F.TB_ENC_CFG_MIN_INT = 31 := by decide +kernel
  have hnow : State.reset.now = 0 := by decide +kernel
  have hhead : State.reset.rd F.PCI_MBX_HEAD_HEAD = 0 := by decide +kernel
  have htail : State.reset.rd F.PCI_MBX_TAIL_TAIL = 0 := by decide +kernel
  have htest : State.reset.lcState = 1 := by decide +kernel
  exact ⟨canon_reset, rfl, rfl, reset_sysId, hminInt, hnow, hhead, htail, reset_run, fun _ _ _ => rfl,
    fun _ => ⟨rfl, rfl, rfl⟩, fun _ => rfl, htest⟩

end Sys2Proof.Machine

namespace Sys2Proof.Machine

/-! ### Fields after writes and occurrences, by conditions that compute -/

/-- A write leaves a field it shares no bit with; the condition computes on closed fields. -/
theorem State.rd_wr_other (s : State) (f g : Fld) (v : Nat) (h : (f.lo ≤ f.hi ∧ f.hi < 32 ∧ g.lo ≤ g.hi ∧ g.hi < 32) ∧
    (f.off ≠ g.off ∨ f.hi < g.lo ∨ g.hi < f.lo)) : (s.wr f v).rd g = s.rd g := by
  obtain ⟨⟨hf, hf', hg, hg'⟩, ha⟩ := h
  exact s.rd_wr_apart f g v ⟨hf, hf'⟩ ⟨hg, hg'⟩ ha

/-- A field reads what was written to it, where that fits. -/
theorem State.rd_wr_fit (s : State) (f : Fld) (v : Nat) (h : f.lo ≤ f.hi ∧ f.hi < 32) (hv : v < 2 ^ (f.hi - f.lo + 1)) :
    (s.wr f v).rd f = v := by
  rw [s.rd_wr f v h, Nat.mod_eq_of_lt hv]

theorem State.rd_bump_other (s : State) (f g : Fld) (h : (f.lo ≤ f.hi ∧ f.hi < 32 ∧ g.lo ≤ g.hi ∧ g.hi < 32) ∧
    (f.off ≠ g.off ∨ f.hi < g.lo ∨ g.hi < f.lo)) : (s.bump f).rd g = s.rd g := by
  obtain ⟨⟨hf, hf', hg, hg'⟩, ha⟩ := h
  exact s.rd_bump_apart f g ⟨hf, hf'⟩ ⟨hg, hg'⟩ ha

/-- Is the field one of a 32-bit word? The test computes on the fields of a register family. -/
def Fld.valid (f : Fld) : Bool := Nat.ble f.lo f.hi && Nat.blt f.hi 32

/-- Do two fields share no bit of a register? -/
def Fld.clear (f g : Fld) : Bool := f.valid && g.valid && (Nat.blt f.hi g.lo || Nat.blt g.hi f.lo)

theorem Fld.ok_of_valid {f : Fld} (h : f.valid = true) : f.ok := by
  obtain ⟨hlo, hhi⟩ := Bool.and_eq_true_iff.1 h
  exact ⟨Nat.le_of_ble_eq_true hlo, Nat.le_of_ble_eq_true hhi⟩

theorem State.rd_wr_clear (s : State) {f g : Fld} (v : Nat) (h : f.clear g = true) : (s.wr f v).rd g = s.rd g := by
  simp only [Fld.clear, Bool.and_eq_true, Bool.or_eq_true] at h
  obtain ⟨⟨hf, hg⟩, ha⟩ := h
  refine s.rd_wr_apart f g v (Fld.ok_of_valid hf) (Fld.ok_of_valid hg) (.inr ?_)
  exact ha.imp Nat.le_of_ble_eq_true Nat.le_of_ble_eq_true

/-- A field of a register family reads what was written to it, cut to its width. -/
theorem State.rd_wr_mod (s : State) {f : Fld} (v : Nat) (h : f.valid = true) :
    (s.wr f v).rd f = v % 2 ^ (f.hi - f.lo + 1) := s.rd_wr f v (Fld.ok_of_valid h)

/-- A field whose part the mask does not have. -/
theorem Leaves.rd_out {m : Nat} {s t : State} (h : Leaves m s t) {f : Fld} (hm : m.testBit (regPart f.off).ctorIdx = false) :
    t.rd f = s.rd f := congrArg f.of (h.reg hm)

/-- An occurrence leaves a field whose register is none of an event's. -/
theorem State.rd_raise_out (s : State) (e : Nat) {f : Fld}
    (hm : Nat.testBit 0x10001990080000002010 (regPart f.off).ctorIdx = false) : (s.raise e).rd f = s.rd f :=
  (State.raise_leaves (.refl _ s) rfl e).rd_out hm

theorem State.raise_pwr (s : State) (e : Nat) : (s.raise e).pwr = s.pwr :=
  (State.raise_leaves (.refl 0x10001990080000002010 s) rfl e).same .pwr (by decide)

theorem State.raise_mbx (s : State) (e : Nat) : (s.raise e).mbx = s.mbx :=
  (State.raise_leaves (.refl 0x10001990080000002010 s) rfl e).same .mbx (by decide)

theorem State.wr_mbx (s : State) (f : Fld) (v : Nat) : (s.wr f v).mbx = s.mbx := State.withRegs_mbx _ _

theorem State.bump_pwr (s : State) (f : Fld) : (s.bump f).pwr = s.pwr := by
  unfold State.bump
  split
  · exact State.wr_pwr _ _ _
  · rfl

theorem State.bump_mbx (s : State) (f : Fld) : (s.bump f).mbx = s.mbx := by
  unfold State.bump
  split
  · exact State.wr_mbx _ _ _
  · rfl

/-! ### Pending bits that only rise (R283) -/

/-- Every source that is pending in `s` is pending in `t`. -/
def Rises (s t : State) : Prop := ∀ e, Pends s e → Pends t e

theorem Rises.refl (s : State) : Rises s s := fun _ h => h

theorem Rises.trans {s t u : State} (h : Rises s t) (k : Rises t u) : Rises s u := fun e he => k e (h e he)

theorem regPart_evtBit (e : Nat) : regPart (evtBit e).off = .evtRegs :=
  regPart_evtRegs (by simp only [evtBit]; omega) (by simp only [evtBit]; omega)

/-- What leaves the registers of block EVT leaves the pending bits. -/
theorem Leaves.rises {m : Nat} {s t : State} (h : Leaves m s t) (hm : m.testBit Part.evtRegs.ctorIdx = false) : Rises s t :=
  fun e he => (h.rd (regPart_evtBit e) (by decide) hm).trans he

section
variable {s t : State} (h : Rises s t)
include h

theorem Rises.raise (e : Nat) : Rises s (t.raise e) := h.trans fun a ha => t.rd_raise_other a e ha

theorem Rises.leaves {m : Nat} {u : State} (k : Leaves m t u) (hm : m.testBit Part.evtRegs.ctorIdx = false) : Rises s u :=
  h.trans (k.rises hm)

theorem Rises.wr {f : Fld} (v : Nat) (hf : f.off < 0x40000 ∨ 0x50000 ≤ f.off) : Rises s (t.wr f v) :=
  h.trans fun e he => (t.rd_setReg_ne _ _ (by simp only [evtBit]; omega)).trans he

theorem Rises.bump {f : Fld} (hf : f.off < 0x40000 ∨ 0x50000 ≤ f.off) : Rises s (t.bump f) := by
  unfold State.bump
  split
  · exact h.wr _ hf
  · exact h

end

theorem Rises.ite {s t u : State} {c : Prop} [Decidable c] (ht : Rises s t) (hu : Rises s u) : Rises s (if c then t else u) := by
  split
  · exact ht
  · exact hu

theorem Rises.forEach {α : Type} {f : α → State → State} (hf : ∀ a s, Rises s (f a s)) (l : List α) (s : State) :
    Rises s (forEach l f s) := by
  unfold Machine.forEach
  induction l generalizing s with
  | nil => exact .refl s
  | cons a l ih => exact (hf a s).trans (ih _)

theorem Leaves.withReg_rises {s : State} {l : List Nat} {off : Nat} (h : off + 4 * l.length ≤ 0x40000 ∨ 0x50000 ≤ off) :
    Rises s (s.setWords off l) :=
  fun e he => (congrArg (evtBit e).of (s.reg_setWords_out l (by simp only [evtBit]; omega))).trans he

/-! ### The completion of a command whatever its status (R279, R281) -/

/-- An entry put into the ring is what its reader finds there, whatever happens outside block PCI afterwards. -/
theorem completed_putCompletion {s u : State} {c : MbxCmd} {status result : Nat} (hlt : status < 256)
    (hu : ∀ o, regPart o = .pciRegs → u.reg o = (s.putCompletion c status result).reg o) :
    Completed s u c status result := by
  have word : ∀ i (hi : i < (c.entry status result).length),
      (u.reg (0xf01800 + 16 * (s.rd F.PCI_MBX_CPL_HEAD_HEAD % 64) + 4 * i)).toNat = (c.entry status result)[i] % 2 ^ 32 := by
    intro i hi
    have h4 : i < 4 := hi
    rw [hu _ (regPart_pciRegs (by omega) (by omega))]
    exact State.reg_putCompletion_ring _ c status result hi
  refine ⟨?_, ?_, ?_, ?_⟩
  · rw [← s.rd_putCompletion_head c status result]
    exact congrArg _ (hu _ F.PCI_MBX_CPL_HEAD_HEAD_part)
  · exact (word 0 (by simp [MbxCmd.entry])).trans (Nat.mod_eq_of_lt (c.entry_head_lt hlt))
  · rw [show ∀ x, 0xf01804 + x = 0xf01800 + x + 4 * 1 by intro x; omega]
    exact word 1 (by simp [MbxCmd.entry])
  · rw [show ∀ x, 0xf01808 + x = 0xf01800 + x + 4 * 2 by intro x; omega]
    exact word 2 (by simp [MbxCmd.entry])

/-- A command of the host's queue that succeeds completes with status 0. -/
theorem completed_complete_ok {s : State} {c : MbxCmd} (hc : c.seen) (result : Nat) :
    Completed s (s.complete c 0 result) c 0 result := by
  obtain ⟨hp, hd⟩ := hc
  refine completed_putCompletion (by decide) fun o ho => ?_
  have hraise : ∀ t : State, (t.raise Ev.PCI_MBX_CPL).reg o = t.reg o := fun t =>
    (State.raise_leaves (.refl 0x10001990080000002010 t) rfl _).reg (by rw [ho]; decide)
  simp only [State.complete, State.putCompletion, hp, hd, if_true, Bool.false_eq_true, if_false]
  split
  · exact hraise _
  · rfl

theorem Completed.congr {s t u : State} {c : MbxCmd} {status result : Nat}
    (h : t.rd F.PCI_MBX_CPL_HEAD_HEAD = s.rd F.PCI_MBX_CPL_HEAD_HEAD) (k : Completed t u c status result) :
    Completed s u c status result := by
  simpa only [Completed, h] using k

theorem State.complete_rises (s : State) (c : MbxCmd) (status result : Nat) : Rises s (s.complete c status result) := by
  have hcount : Rises s (if status = 0 then s else s.bump F.PCI_MBX_ERR_CNT_COUNT) :=
    .ite (.refl s) ((Rises.refl s).bump (.inr (by decide)))
  unfold State.complete
  split
  · exact fun _ h => h
  · dsimp only
    generalize (if status = 0 then s else s.bump F.PCI_MBX_ERR_CNT_COUNT) = t at *
    have hput : Rises s (t.putCompletion c status result) :=
      (hcount.trans (Leaves.withReg_rises (.inr (by omega)))).wr _ (.inr (by decide))
    exact .ite hcount (.ite (hput.raise _) hput)

theorem State.complete_emits (s : State) (c : MbxCmd) (status result : Nat) : s.out <+: (s.complete c status result).out := by
  have hcount : (if status = 0 then s else s.bump F.PCI_MBX_ERR_CNT_COUNT).out = s.out := by
    split
    · rfl
    · exact State.bump_out _ _
  unfold State.complete
  split
  · exact List.prefix_rfl
  · dsimp only
    generalize (if status = 0 then s else s.bump F.PCI_MBX_ERR_CNT_COUNT) = t at *
    have hput : (t.putCompletion c status result).out = t.out :=
      (State.wr_out _ _ _).trans ((Leaves.setWords (.refl (2 ^ 23 - 1) t) (fun _ _ => regPart_bit _)).same .out (by decide))
    rw [← hcount]
    split
    · exact List.prefix_rfl
    · split
      · exact hput ▸ State.raise_emits _ _
      · exact hput ▸ List.prefix_rfl

/-! ### The short lane's running command completes (R279, R280) -/

/-- The running command completes as a command of a lane that no longer runs it. -/
theorem State.endShort_running {s : State} {c : MbxCmd} (hrun : s.mbx.shortRun = some c) (status result : Nat) :
    s.endShort status result = (s.withMbx { s.mbx with shortRun := none }).complete c status result := by
  simp only [State.endShort, hrun]

theorem State.endShort_idle {s : State} (hrun : s.mbx.shortRun = none) (status result : Nat) :
    s.endShort status result = s := by
  simp only [State.endShort, hrun]

section
variable (s : State) (status result : Nat)

theorem State.endShort_leaf : Leaves 0x110019d0080000102010 s (s.endShort status result) :=
  State.endShort_leaves (.refl _ s) rfl status result

theorem State.endShort_rises : Rises s (s.endShort status result) := by
  cases hrun : s.mbx.shortRun with
  | none =>
    rw [s.endShort_idle hrun]
    exact .refl s
  | some c =>
    rw [s.endShort_running hrun]
    exact fun e he => State.complete_rises _ c status result e ((s.withMbx_rd _ _).trans he)

theorem State.endShort_emits : s.out <+: (s.endShort status result).out := by
  cases hrun : s.mbx.shortRun with
  | none =>
    rw [s.endShort_idle hrun]
  | some c =>
    rw [s.endShort_running hrun, ← s.withMbx_out { s.mbx with shortRun := none }]
    exact State.complete_emits _ _ _ _

theorem State.endShort_pwr : (s.endShort status result).pwr = s.pwr := (s.endShort_leaf status result).same .pwr (by decide)

end

theorem completed_endShort {s : State} {c : MbxCmd} (hrun : s.mbx.shortRun = some c) (hc : c.seen) {status : Nat}
    (hlt : status < 256) (result : Nat) : Completed s (s.endShort status result) c status result := by
  rw [s.endShort_running hrun]
  refine Completed.congr (s.withMbx_rd { s.mbx with shortRun := none } _) ?_
  by_cases h : status = 0
  · subst h
    exact completed_complete_ok hc result
  · exact completed_complete hc h hlt result

end Sys2Proof.Machine

namespace Sys2Proof.Machine

/-! ### The supply: its commands, its errors and the level change (R354, R357, R358–R360) -/

/-- The transaction that PWR_AVS_CFG makes of a command and its data (R358). -/
def State.avsOut (s : State) (cmd data : Nat) : Output :=
  .pmbus (s.rd F.PWR_AVS_CFG_ADDR) (s.on F.PWR_AVS_CFG_PEC) (s.on F.PWR_AVS_CFG_SPEED) cmd data

@[simp] theorem State.pmbus_rd (s : State) (cmd data : Nat) (f : Fld) : (s.pmbus cmd data).rd f = s.rd f := (rfl)
@[simp] theorem State.pmbus_pwr (s : State) (cmd data : Nat) : (s.pmbus cmd data).pwr = s.pwr := (rfl)
@[simp] theorem State.pmbus_mbx (s : State) (cmd data : Nat) : (s.pmbus cmd data).mbx = s.mbx := (rfl)
theorem State.pmbus_out (s : State) (cmd data : Nat) : (s.pmbus cmd data).out = s.out ++ [s.avsOut cmd data] := (rfl)

@[simp] theorem State.commandMv_rd (s : State) (mv : Nat) (f : Fld) : (s.commandMv mv).rd f = s.rd f := (rfl)
@[simp] theorem State.commandMv_pwr (s : State) (mv : Nat) : (s.commandMv mv).pwr = { s.pwr with target := mv } := (rfl)
@[simp] theorem State.commandMv_mbx (s : State) (mv : Nat) : (s.commandMv mv).mbx = s.mbx := (rfl)
theorem State.commandMv_out (s : State) (mv : Nat) :
    (s.commandMv mv).out = s.out ++ [s.avsOut 0x21 (Config.voutWord mv).toNat] := (rfl)

@[simp] theorem State.setPerf_rd (s : State) (c : Option PerfChange) (f : Fld) : (s.setPerf c).rd f = s.rd f := (rfl)
@[simp] theorem State.setPerf_pwr (s : State) (c : Option PerfChange) : (s.setPerf c).pwr = { s.pwr with perf := c } := (rfl)
@[simp] theorem State.setPerf_mbx (s : State) (c : Option PerfChange) : (s.setPerf c).mbx = s.mbx := (rfl)
@[simp] theorem State.setPerf_out (s : State) (c : Option PerfChange) : (s.setPerf c).out = s.out := (rfl)

theorem State.targetMv_congr {s t : State} (h : t.rd F.PWR_AVS_TRIM_TRIM = s.rd F.PWR_AVS_TRIM_TRIM) (p : Nat) :
    t.targetMv p = s.targetMv p := by
  rw [State.targetMv, State.targetMv, h]

theorem State.avsOut_congr {s t : State} (h : t.reg 0x10090 = s.reg 0x10090) (cmd data : Nat) :
    t.avsOut cmd data = s.avsOut cmd data := by
  have hrd : ∀ f : Fld, f.off = 0x10090 → t.rd f = s.rd f := fun f hf => congrArg f.of (hf ▸ h)
  simp only [State.avsOut, State.on, hrd F.PWR_AVS_CFG_ADDR rfl, hrd F.PWR_AVS_CFG_PEC rfl, hrd F.PWR_AVS_CFG_SPEED rfl]

section
variable (s : State)

theorem State.pmbusErr_pwr : s.pmbusErr.pwr = s.pwr := by
  rw [State.pmbusErr, State.raise_pwr, State.wr_pwr, State.bump_pwr]

theorem State.pmbusErr_mbx : s.pmbusErr.mbx = s.mbx := by
  rw [State.pmbusErr, State.raise_mbx, State.wr_mbx, State.bump_mbx]

theorem State.pmbusErr_emits : s.out <+: s.pmbusErr.out := by
  have h : ((s.bump F.PWR_PMBUS_ERR_CNT_COUNT).wr F.PWR_STAT_PMBUS_ERR 1).out = s.out :=
    (State.wr_out _ _ _).trans (s.bump_out _)
  exact h ▸ State.raise_emits _ _

theorem State.pmbusErr_rises : Rises s s.pmbusErr :=
  (((Rises.refl s).bump (.inl (by decide))).wr _ (.inl (by decide))).raise _

theorem State.pmbusErr_pends : Pends s.pmbusErr Ev.PWR_PMBUS_ERR := State.rd_raise_self _ _

theorem State.pmbusErr_counted : Counted s s.pmbusErr F.PWR_PMBUS_ERR_CNT_COUNT := by
  rw [Counted, State.pmbusErr, State.rd_raise_out _ _ rfl, State.rd_wr_other _ _ _ _ (by decide), s.rd_bump _ (by decide)]

theorem State.pmbusErr_flag : s.pmbusErr.rd F.PWR_STAT_PMBUS_ERR = 1 := by
  rw [State.pmbusErr, State.rd_raise_out _ _ rfl, State.rd_wr_fit _ _ _ (by decide) (by decide)]

/-- A PMBus error writes its count and its flag, and what its event writes. -/
theorem State.pmbusErr_rd {f : Fld} (hm : Nat.testBit 0x10001990080000002010 (regPart f.off).ctorIdx = false) :
    s.pmbusErr.rd f = ((s.bump F.PWR_PMBUS_ERR_CNT_COUNT).wr F.PWR_STAT_PMBUS_ERR 1).rd f := State.rd_raise_out _ _ hm

theorem State.pmbusErr_reg {o : Nat} (ho : o ≠ 0x10004 ∧ o ≠ 0x100ac)
    (hm : Nat.testBit 0x10001990080000002010 (regPart o).ctorIdx = false) : s.pmbusErr.reg o = s.reg o := by
  rw [State.pmbusErr, (State.raise_leaves (.refl _ _) rfl _).reg hm, State.reg_wr_ne _ _ ho.1]
  unfold State.bump
  split
  · exact State.reg_wr_ne _ _ ho.2
  · rfl

theorem State.rd_endShort_out (status result : Nat) {f : Fld}
    (hm : Nat.testBit 0x110019d0080000102010 (regPart f.off).ctorIdx = false) : (s.endShort status result).rd f = s.rd f :=
  (s.endShort_leaf status result).rd_out hm

/-- A level change is over, and PWR_STAT shows no change under way. -/
def State.perfIdle (s : State) : State := (s.setPerf none).wr F.PWR_STAT_PERF_BUSY 0

theorem State.perfIdle_perf : s.perfIdle.rd F.PWR_STAT_PERF = s.rd F.PWR_STAT_PERF :=
  State.rd_wr_other (s.setPerf none) _ _ _ (by decide)

/-- A change that has succeeded raises its event and completes its command. -/
theorem State.endPerf_true : s.endPerf true = (s.perfIdle.raise Ev.PWR_PERF_DONE).endShort 0 (s.rd F.PWR_STAT_PERF) := by
  rw [← s.perfIdle_perf]
  simp only [State.endPerf, State.perfIdle, if_true]

/-- A change that has failed sets PERF_ERR, raises its event and completes its command. -/
theorem State.endPerf_false : s.endPerf false =
    ((s.perfIdle.wr F.PWR_STAT_PERF_ERR 1).raise Ev.PWR_PERF_FAIL).endShort 6 (s.rd F.PWR_STAT_PERF) := by
  rw [← s.perfIdle_perf]
  simp only [State.endPerf, State.perfIdle, Bool.false_eq_true, if_false]

theorem State.perfIdle_pwr : s.perfIdle.pwr = { s.pwr with perf := none } := State.wr_pwr _ _ _
theorem State.perfIdle_mbx : s.perfIdle.mbx = s.mbx := State.wr_mbx _ _ _
theorem State.perfIdle_out : s.perfIdle.out = s.out := State.wr_out _ _ _

theorem State.perfIdle_rises : Rises s s.perfIdle := Rises.wr (t := s.setPerf none) (fun _ h => h) _ (.inl (by decide))

theorem State.endPerf_pwr (ok : Bool) : (s.endPerf ok).pwr = { s.pwr with perf := none } := by
  cases ok with
  | true => rw [State.endPerf_true, State.endShort_pwr, State.raise_pwr, State.perfIdle_pwr]
  | false => rw [State.endPerf_false, State.endShort_pwr, State.raise_pwr, State.wr_pwr, State.perfIdle_pwr]

theorem State.endPerf_emits (ok : Bool) : s.out <+: (s.endPerf ok).out := by
  cases ok with
  | true =>
    rw [State.endPerf_true, ← s.perfIdle_out]
    exact (State.raise_emits _ _).trans (State.endShort_emits _ _ _)
  | false =>
    rw [State.endPerf_false, ← s.perfIdle_out, ← s.perfIdle.wr_out F.PWR_STAT_PERF_ERR 1]
    exact (State.raise_emits _ _).trans (State.endShort_emits _ _ _)

/-- The end of a level change leaves a field that neither it nor its event and completion write. -/
theorem State.endPerf_rd (ok : Bool) {f : Fld} (hm : Nat.testBit 0x110019d0080000102010 (regPart f.off).ctorIdx = false)
    (hf : (f.lo ≤ f.hi ∧ f.hi < 32) ∧ (0x10004 ≠ f.off ∨ 24 < f.lo ∨ (f.hi < 24 ∧ 3 < f.lo) ∨ f.hi < 3)) :
    (s.endPerf ok).rd f = s.rd f := by
  obtain ⟨⟨hl, hh⟩, ha⟩ := hf
  have hm' : Nat.testBit 0x10001990080000002010 (regPart f.off).ctorIdx = false := by
    revert hm
    cases regPart f.off <;> decide
  have hbusy : s.perfIdle.rd f = s.rd f :=
    (s.setPerf none).rd_wr_apart _ f _ ⟨by decide, by decide⟩ ⟨hl, hh⟩ (by simp only [Fld.apart, F.PWR_STAT_PERF_BUSY]; omega)
  have herr : (s.perfIdle.wr F.PWR_STAT_PERF_ERR 1).rd f = s.perfIdle.rd f :=
    s.perfIdle.rd_wr_apart _ f _ ⟨by decide, by decide⟩ ⟨hl, hh⟩ (by simp only [Fld.apart, F.PWR_STAT_PERF_ERR]; omega)
  cases ok with
  | true => rw [State.endPerf_true, State.rd_endShort_out _ _ _ hm, State.rd_raise_out _ _ hm', hbusy]
  | false => rw [State.endPerf_false, State.rd_endShort_out _ _ _ hm, State.rd_raise_out _ _ hm', herr, hbusy]

theorem State.perfIdle_busy : s.perfIdle.rd F.PWR_STAT_PERF_BUSY = 0 :=
  State.rd_wr_fit (s.setPerf none) _ _ (by decide) (by decide)

theorem State.endPerf_busy (ok : Bool) : (s.endPerf ok).rd F.PWR_STAT_PERF_BUSY = 0 := by
  cases ok with
  | true =>
    rw [State.endPerf_true, State.rd_endShort_out _ _ _ (by decide), State.rd_raise_out _ _ (by decide), State.perfIdle_busy]
  | false =>
    rw [State.endPerf_false, State.rd_endShort_out _ _ _ (by decide), State.rd_raise_out _ _ (by decide),
      State.rd_wr_other _ _ _ _ (by decide), State.perfIdle_busy]

theorem State.endPerf_failed : (s.endPerf false).rd F.PWR_STAT_PERF_ERR = 1 := by
  rw [State.endPerf_false, State.rd_endShort_out _ _ _ (by decide), State.rd_raise_out _ _ (by decide),
    State.rd_wr_fit _ _ _ (by decide) (by decide)]

theorem State.endPerf_done_pends : Pends (s.endPerf true) Ev.PWR_PERF_DONE := by
  rw [State.endPerf_true]
  exact State.endShort_rises _ _ _ _ (State.rd_raise_self _ _)

theorem State.endPerf_fail_pends : Pends (s.endPerf false) Ev.PWR_PERF_FAIL := by
  rw [State.endPerf_false]
  exact State.endShort_rises _ _ _ _ (State.rd_raise_self _ _)

theorem State.endPerf_rises (ok : Bool) : Rises s (s.endPerf ok) := by
  cases ok with
  | true =>
    rw [State.endPerf_true]
    exact (s.perfIdle_rises.raise _).trans (State.endShort_rises _ _ _)
  | false =>
    rw [State.endPerf_false]
    exact ((s.perfIdle_rises.wr _ (.inl (by decide))).raise _).trans (State.endShort_rises _ _ _)

end

/-- The status with which the command of a level change completes (R281). -/
def perfStatus (ok : Bool) : Nat := if ok then 0 else 6

/-- The command of a level change completes with the level in force (R354, R357). -/
theorem completed_endPerf {s : State} {c : MbxCmd} (hrun : s.mbx.shortRun = some c) (hc : c.seen) (ok : Bool) :
    Completed s (s.endPerf ok) c (perfStatus ok) (s.rd F.PWR_STAT_PERF) := by
  have hidle : s.perfIdle.rd F.PCI_MBX_CPL_HEAD_HEAD = s.rd F.PCI_MBX_CPL_HEAD_HEAD :=
    (s.setPerf none).rd_wr_other _ _ _ (by decide)
  rw [← s.perfIdle_mbx] at hrun
  cases ok with
  | true =>
    rw [State.endPerf_true]
    rw [← s.perfIdle.raise_mbx Ev.PWR_PERF_DONE] at hrun
    exact Completed.congr ((State.rd_raise_out _ _ (by decide)).trans hidle) (completed_endShort hrun hc (by decide) _)
  | false =>
    rw [State.endPerf_false]
    rw [← s.perfIdle.wr_mbx F.PWR_STAT_PERF_ERR 1, ← (s.perfIdle.wr F.PWR_STAT_PERF_ERR 1).raise_mbx Ev.PWR_PERF_FAIL] at hrun
    exact Completed.congr ((State.rd_raise_out _ _ (by decide)).trans ((State.rd_wr_other _ _ _ _ (by decide)).trans hidle))
      (completed_endShort hrun hc (by decide) _)

end Sys2Proof.Machine

namespace Sys2Proof.Machine

/-! ### SET_PERF_LEVEL (R281, R354, R356) -/

/-- The command that the short lane would start has the opcode asked for. -/
theorem State.shortNext_op {s : State} {op : Nat} {c : MbxCmd} (h : s.shortNext op = some c) : c.byte 0 = op := by
  unfold State.shortNext at h
  split at h
  · split at h
    · next hc =>
      cases h
      exact beq_iff_eq.1 (Bool.and_eq_true_iff.1 hc).2
    · cases h
  · cases h

/-- A SET_PERF_LEVEL whose reserved bytes are 0 and whose level is one of the four is well formed. -/
theorem MbxCmd.perfLevel_ok {c : MbxCmd} (hop : c.byte 0 = 0x20) (hz : c.reservedZero [4] = true) (hlt : c.byte 4 < 4) :
    c.paramBad = false := by
  simp [MbxCmd.paramBad, MbxCmd.outOfRange, hop, paramBytes, hz, hlt]

section
variable {s : State} {c : MbxCmd} (hl : s.live = true) (hn : s.shortNext 0x20 = some c) (hz : c.reservedZero [4] = true)
  (hlt : c.byte 4 < 4)
include hl hn hz hlt

theorem exec_setPerfLevel_same (h : c.byte 4 = s.rd F.PWR_STAT_PERF) :
    exec .setPerfLevel s = .next (s.endClock ((s.startShort c).endShort 0 (s.rd F.PWR_STAT_PERF))) := by
  have hold : (s.startShort c).rd F.PWR_STAT_PERF = s.rd F.PWR_STAT_PERF := rfl
  simp only [exec, execSetPerfLevel, act_live hl, hn, MbxCmd.perfLevel_ok (s.shortNext_op hn) hz hlt, hold, h,
    Bool.false_eq_true, if_true, if_false]

/-- A change to another level begins: the supply first where the level is faster, the window at once where it is slower. -/
theorem exec_setPerfLevel_change (h : c.byte 4 ≠ s.rd F.PWR_STAT_PERF)
    (hq : s.allQuiet = true ∨ relocks (s.rd F.PWR_STAT_PERF) (c.byte 4) = false) :
    exec .setPerfLevel s = .next (s.endClock (
      if c.byte 4 < s.rd F.PWR_STAT_PERF then
        (((s.startShort c).wr F.PWR_STAT_PERF_BUSY 1).setPerf (some ⟨c.byte 4, s.rd F.PWR_STAT_PERF, .raising, []⟩)).commandMv
          (s.targetMv (c.byte 4))
      else ((s.startShort c).wr F.PWR_STAT_PERF_BUSY 1).setPerf (some ⟨c.byte 4, s.rd F.PWR_STAT_PERF, .window, []⟩))) := by
  have hold : (s.startShort c).rd F.PWR_STAT_PERF = s.rd F.PWR_STAT_PERF := rfl
  have hquiet : (relocks (s.rd F.PWR_STAT_PERF) (c.byte 4) && !(s.startShort c).allQuiet) = false := by
    have : (s.startShort c).allQuiet = s.allQuiet := rfl
    rw [this]
    rcases hq with hq | hq <;> simp [hq]
  have htarget : ((s.startShort c).wr F.PWR_STAT_PERF_BUSY 1).targetMv (c.byte 4) = s.targetMv (c.byte 4) :=
    State.targetMv_congr (State.rd_wr_other (s.startShort c) _ _ _ (by decide)) _
  simp only [exec, execSetPerfLevel, act_live hl, hn, MbxCmd.perfLevel_ok (s.shortNext_op hn) hz hlt, hold, h, hquiet, htarget,
    Bool.false_eq_true, if_false]

end

/-! ### The supply's readings and failures (R357, R359, R360) -/

section
variable {s : State} (hl : s.live = true)
include hl

theorem exec_supplySettled (mv : BitVec 16) : exec (.supplySettled (some mv)) s = .next (s.endClock (s.takeReading mv.toNat)) := by
  simp only [exec, execSupplySettled, act_live hl]

theorem exec_supplySettled_none : exec (.supplySettled none) s = .next (s.endClock (s.supplyFails false)) := by
  simp only [exec, execSupplySettled, act_live hl]

theorem exec_supplySettleTimeout (h : s.settled (s.rd F.PWR_VOUT_MV) = false) (again : Bool) :
    exec (.supplySettleTimeout again) s = .next (s.endClock (s.supplyFails again)) := by
  simp only [exec, execSupplySettleTimeout, act_live hl, h, Bool.false_eq_true, if_false]

theorem exec_supplySettleTimeout_settled (h : s.settled (s.rd F.PWR_VOUT_MV) = true) (again : Bool) :
    exec (.supplySettleTimeout again) s = .next s := by
  simp only [exec, execSupplySettleTimeout, act_live hl, h, if_true, State.endClock_self]

theorem exec_pmbAlert : exec .pmbAlert s = .next (s.endClock ((s.pmbus 0x79 0).pmbus 0x03 0).pmbusErr) := by
  simp only [exec, execPmbAlert, act_live hl]

end

/-- A reading has been taken: PWR_VOUT shows it. -/
def State.readVout (s : State) (mv : Nat) : State := (s.pmbus 0x8b mv).wr F.PWR_VOUT_MV mv

section
variable (s : State) (mv : Nat)

theorem State.readVout_eq : (s.pmbus 0x8b mv).wr F.PWR_VOUT_MV mv = s.readVout mv := rfl
theorem State.readVout_pwr : (s.readVout mv).pwr = s.pwr := State.wr_pwr _ _ _
theorem State.readVout_mbx : (s.readVout mv).mbx = s.mbx := State.wr_mbx _ _ _
theorem State.readVout_out : (s.readVout mv).out = s.out ++ [s.avsOut 0x8b mv] := State.wr_out _ _ _

theorem State.readVout_mv (v : BitVec 16) : (s.readVout v.toNat).rd F.PWR_VOUT_MV = v.toNat :=
  State.rd_wr_fit _ _ _ (by decide) v.isLt

theorem State.readVout_rd {f : Fld} (h : f.off ≠ 0x10098) : (s.readVout mv).rd f = s.rd f := State.rd_setReg_ne _ _ _ h

variable {s mv}

theorem State.takeReading_unsettled (h : s.settled mv = false) : s.takeReading mv = s.readVout mv := by
  have h' : (s.readVout mv).settled mv = s.settled mv := by rw [State.settled, s.readVout_pwr, State.settled]
  simp only [State.takeReading, s.readVout_eq, h', h, Bool.not_false, if_true]

theorem State.takeReading_settled (h : s.settled mv = true) {c : PerfChange} (hc : s.pwr.perf = some c) :
    s.takeReading mv = if c.phase = .raising then (s.readVout mv).setPerf (some { c with phase := .window })
      else if c.phase = .lowering then (s.readVout mv).endPerf true else s.readVout mv := by
  have h' : (s.readVout mv).settled mv = s.settled mv := by rw [State.settled, s.readVout_pwr, State.settled]
  have hc' : (s.readVout mv).pwr.perf = some c := by rw [s.readVout_pwr, hc]
  simp only [State.takeReading, s.readVout_eq, h', h, hc', Bool.not_true, Bool.false_eq_true, if_false]

end

/-! ### A supply step that fails (R357, R360) -/

/-- The phases in which a level change waits for its supply. -/
def PerfPhase.supply (p : PerfPhase) : Prop := p = .raising ∨ p = .lowering

/-- The failed supply step's errors: one, and one more where the command of the old target fails too. -/
def State.supplyErrors (s : State) (old : Nat) (twice : Bool) : State :=
  if twice then (s.pmbusErr.commandMv (s.targetMv old)).pmbusErr else s.pmbusErr.commandMv (s.targetMv old)

theorem State.supplyFails_change {s : State} {c : PerfChange} (hc : s.pwr.perf = some c) (hp : c.phase.supply) (again : Bool) :
    s.supplyFails again = (s.supplyErrors c.old (again && decide (c.phase = .lowering))).endPerf false := by
  have hp' : (decide (c.phase = .raising) || decide (c.phase = .lowering)) = true := by simpa [PerfPhase.supply] using hp
  simp only [State.supplyFails, hc, hp', if_true, State.supplyErrors]

theorem State.supplyFails_other {s : State} (again : Bool)
    (h : s.pwr.perf.all (fun c => decide (c.phase ≠ .raising) && decide (c.phase ≠ .lowering)) = true) :
    s.supplyFails again = s.pmbusErr := by
  unfold State.supplyFails
  split
  · rfl
  · next c hc =>
    rw [hc] at h
    simp only [Option.all_some, Bool.and_eq_true, decide_eq_true_eq] at h
    simp [h]

section
variable (s : State) (old : Nat) (twice : Bool)

theorem State.supplyErrors_pwr : (s.supplyErrors old twice).pwr = { s.pwr with target := s.targetMv old } := by
  unfold State.supplyErrors
  split
  · rw [State.pmbusErr_pwr, State.commandMv_pwr, State.pmbusErr_pwr]
  · rw [State.commandMv_pwr, State.pmbusErr_pwr]

theorem State.supplyErrors_mbx : (s.supplyErrors old twice).mbx = s.mbx := by
  unfold State.supplyErrors
  split
  · rw [State.pmbusErr_mbx, State.commandMv_mbx, State.pmbusErr_mbx]
  · rw [State.commandMv_mbx, State.pmbusErr_mbx]

theorem State.supplyErrors_commands : s.avsOut 0x21 (Config.voutWord (s.targetMv old)).toNat ∈ (s.supplyErrors old twice).out := by
  have hcommand : s.avsOut 0x21 (Config.voutWord (s.targetMv old)).toNat ∈ (s.pmbusErr.commandMv (s.targetMv old)).out := by
    rw [State.commandMv_out, State.avsOut_congr (s.pmbusErr_reg (by decide) (by decide))]
    exact List.mem_append_right _ (List.mem_singleton_self _)
  unfold State.supplyErrors
  split
  · exact (State.pmbusErr_emits _).subset hcommand
  · exact hcommand

theorem State.supplyErrors_counts : (s.supplyErrors old twice).rd F.PWR_PMBUS_ERR_CNT_COUNT =
    min 0xffffffff (s.rd F.PWR_PMBUS_ERR_CNT_COUNT + 1 + b2n twice) := by
  have hfirst := s.pmbusErr_counted
  cases twice with
  | false => exact hfirst
  | true => exact counted_twice hfirst (State.pmbusErr_counted (s.pmbusErr.commandMv (s.targetMv old)))

theorem State.supplyErrors_flag : (s.supplyErrors old twice).rd F.PWR_STAT_PMBUS_ERR = 1 := by
  unfold State.supplyErrors
  split
  · exact State.pmbusErr_flag _
  · exact s.pmbusErr_flag

theorem State.supplyErrors_pends : Pends (s.supplyErrors old twice) Ev.PWR_PMBUS_ERR := by
  unfold State.supplyErrors
  split
  · exact State.pmbusErr_pends _
  · exact s.pmbusErr_pends

/-- The errors leave a field beside their flag and count, outside the events. -/
theorem State.supplyErrors_rd {f : Fld} (hk : ∀ t : State, t.pmbusErr.rd f = t.rd f) :
    (s.supplyErrors old twice).rd f = s.rd f := by
  unfold State.supplyErrors
  split
  · rw [hk, State.commandMv_rd, hk]
  · rw [State.commandMv_rd, hk]

end

theorem State.pmbusErr_perf (s : State) : s.pmbusErr.rd F.PWR_STAT_PERF = s.rd F.PWR_STAT_PERF := by
  rw [State.pmbusErr_rd _ (by decide), State.rd_wr_other _ _ _ _ (by decide), State.rd_bump_other _ _ _ (by decide)]

theorem State.pmbusErr_vout (s : State) : s.pmbusErr.rd F.PWR_VOUT_MV = s.rd F.PWR_VOUT_MV := by
  rw [State.pmbusErr_rd _ (by decide), State.rd_wr_other _ _ _ _ (by decide), State.rd_bump_other _ _ _ (by decide)]

theorem State.pmbusErr_cplHead (s : State) : s.pmbusErr.rd F.PCI_MBX_CPL_HEAD_HEAD = s.rd F.PCI_MBX_CPL_HEAD_HEAD := by
  rw [State.pmbusErr_rd _ (by decide), State.rd_wr_other _ _ _ _ (by decide), State.rd_bump_other _ _ _ (by decide)]

/-- What a failed supply step leaves: the change is over, PWR_STAT and its count show the errors, and the old target is commanded
again (R357). -/
theorem State.supplyFails_shows {s : State} {c : PerfChange} (hc : s.pwr.perf = some c) (hp : c.phase.supply) (again : Bool) :
    (s.supplyFails again).pwr = { s.pwr with perf := none, target := s.targetMv c.old } ∧
      ((s.supplyFails again).rd F.PWR_STAT_PERF_BUSY = 0 ∧ (s.supplyFails again).rd F.PWR_STAT_PERF_ERR = 1 ∧
        (s.supplyFails again).rd F.PWR_STAT_PMBUS_ERR = 1) ∧
      s.avsOut 0x21 (Config.voutWord (s.targetMv c.old)).toNat ∈ (s.supplyFails again).out ∧
      (s.supplyFails again).rd F.PWR_PMBUS_ERR_CNT_COUNT = min 0xffffffff (s.rd F.PWR_PMBUS_ERR_CNT_COUNT + 1 +
        b2n (again && decide (c.phase = .lowering))) ∧
      (s.supplyFails again).rd F.PWR_VOUT_MV = s.rd F.PWR_VOUT_MV ∧
      (s.supplyFails again).rd F.PWR_STAT_PERF = s.rd F.PWR_STAT_PERF ∧
      (Pends (s.supplyFails again) Ev.PWR_PERF_FAIL ∧ Pends (s.supplyFails again) Ev.PWR_PMBUS_ERR) ∧
      ∀ y, s.mbx.shortRun = some y → y.seen → Completed s (s.supplyFails again) y 6 (s.rd F.PWR_STAT_PERF) := by
  rw [State.supplyFails_change hc hp]
  generalize (again && decide (c.phase = .lowering)) = twice
  have hperf := s.supplyErrors_rd c.old twice State.pmbusErr_perf
  refine ⟨?_, ⟨State.endPerf_busy _ _, State.endPerf_failed _, ?_⟩, ?_, ?_, ?_, ?_, ⟨State.endPerf_fail_pends _, ?_⟩,
    fun y hy hseen => ?_⟩
  · rw [State.endPerf_pwr, State.supplyErrors_pwr]
  · rw [State.endPerf_rd _ _ (by decide) (by decide), State.supplyErrors_flag]
  · exact (State.endPerf_emits _ _).subset (s.supplyErrors_commands _ _)
  · rw [State.endPerf_rd _ _ (by decide) (by decide), State.supplyErrors_counts]
  · rw [State.endPerf_rd _ _ (by decide) (by decide), s.supplyErrors_rd _ _ State.pmbusErr_vout]
  · rw [State.endPerf_rd _ _ (by decide) (by decide), hperf]
  · exact State.endPerf_rises _ _ _ (s.supplyErrors_pends _ _)
  · rw [← hperf]
    exact Completed.congr (s.supplyErrors_rd _ _ State.pmbusErr_cplHead)
      (completed_endPerf ((s.supplyErrors_mbx c.old twice).symm ▸ hy) hseen false)

end Sys2Proof.Machine

namespace Sys2Proof.Machine

/-! ### The switch of a level in its window (R40, R353, R355) -/

/-- The registers that a list of writes of one word names hold it. -/
theorem State.reg_forEach_setReg {l : List Nat} (addr : Nat → Nat) (w : Word) (s : State) {k : Nat}
    (h : k ∈ l ∨ s.reg (addr k) = w) : (forEach l (fun c s => s.setReg (addr c) w) s).reg (addr k) = w := by
  unfold forEach
  induction l generalizing s with
  | nil => exact h.resolve_left (by simp)
  | cons c l ih =>
    refine ih _ ?_
    by_cases hc : addr k = addr c
    · exact .inr (hc ▸ State.reg_setReg _ _ _)
    · rcases h with h | h
      · exact .inl ((List.mem_cons.1 h).resolve_left fun hk => hc (congrArg addr hk))
      · exact .inr ((State.reg_setReg_ne _ _ hc).trans h)

/-- The word of SEC_ASSIST at a level (R40). -/
def assistWord (p : Nat) : Nat :=
  2 ^ 12 * (assistCodes p).1 + 2 ^ 8 * (assistCodes p).2.1 + 2 ^ 4 * (assistCodes p).2.2.1 + (assistCodes p).2.2.2

theorem assistWord_lt (p : Nat) : assistWord p < 2 ^ 32 := by
  unfold assistWord assistCodes
  split <;> decide

/-- The codes of a level are in the sectors' registers. -/
theorem State.applyLevel_assist (s : State) (p : Nat) {k : Nat} (hk : k < 16) :
    ((s.applyLevel p).reg (0xa00010 + 0x10000 * k)).toNat = assistWord p := by
  have hwritten := State.reg_forEach_setReg (l := upTo 16) (fun c => 0xa00010 + 0x10000 * (c % 16))
    (BitVec.ofNat 32 (assistWord p)) s (.inl (List.mem_range.2 hk))
  rw [← Nat.mod_eq_of_lt (assistWord_lt p), ← BitVec.toNat_ofNat, ← hwritten]
  simp only [State.applyLevel, Nat.mod_eq_of_lt hk]
  rw [State.reg_wr_ne _ _ (by simp only [F.PWR_STAT_PERF]; omega), State.reg_wr_ne _ _ (by simp only; omega),
    State.reg_wr_ne _ _ (by simp only [F.CLK_PLL_DEN]; omega), State.reg_wr_ne _ _ (by simp only [F.CLK_PLL_FRAC]; omega),
    State.reg_wr_ne _ _ (by simp only [F.CLK_PLL_CFG_N]; omega)]
  rfl

theorem State.applyLevel_perf (s : State) {p : Nat} (hp : p < 4) : (s.applyLevel p).rd F.PWR_STAT_PERF = p :=
  State.rd_wr_fit _ _ _ (by decide) hp

theorem State.applyLevel_leaf (s : State) (p : Nat) : Leaves 0x8006 s (s.applyLevel p) :=
  State.applyLevel_leaves (.refl _ s) rfl p

/-- The registers of the supply's bus are not among those a switch writes. -/
theorem State.applyLevel_reg (s : State) (p : Nat) {o : Nat} (h : 0x10004 < o) (h' : o < 0x20000) :
    (s.applyLevel p).reg o = s.reg o := by
  have hsec : (forEach (upTo 16) (fun c s => s.setReg (0xa00010 + 0x10000 * (c % 16)) (BitVec.ofNat 32 (assistWord p))) s).reg o =
      s.reg o := by
    have hl : Leaves (2 ^ Part.secRegs.ctorIdx) s
        (forEach (upTo 16) (fun c s => s.setReg (0xa00010 + 0x10000 * (c % 16)) (BitVec.ofNat 32 (assistWord p))) s) :=
      .forEach (fun c t ht => ht.setReg (Part.bit (regPart_secRegs (by omega) (by omega)) (by decide))) (.refl _ s)
    exact hl.reg (by rw [regPart_pwrRegs (by omega) h']; decide)
  simp only [State.applyLevel]
  rw [State.reg_wr_ne _ _ (by simp only [F.PWR_STAT_PERF]; omega), State.reg_wr_ne _ _ (by simp only; omega),
    State.reg_wr_ne _ _ (by simp only [F.CLK_PLL_DEN]; omega), State.reg_wr_ne _ _ (by simp only [F.CLK_PLL_FRAC]; omega),
    State.reg_wr_ne _ _ (by simp only [F.CLK_PLL_CFG_N]; omega)]
  exact hsec

/-! ### The step clock restarts (R354, R355) -/

/-- The step clock runs again: the crossing has drained, and the cycles held back have been dispatched. -/
def State.clockBack (s : State) (c : PerfChange) : State :=
  forEach (upTo 16) (fun n s =>
    match (s.gaf n).next with
    | some y => if (s.gaf n).phase = .none then s.dispatch n y else s
    | none => s) (s.setPerf (some { c with phase := .lowering })).drainCrossing

theorem State.restartClock_eq (s : State) (c : PerfChange) : s.restartClock c =
    if decide (c.target < c.old) = true then (s.clockBack c).endPerf true
    else (s.clockBack c).commandMv ((s.clockBack c).targetMv c.target) := rfl

/-- The clock's restart after the crossing has drained changes cycles and their gaffers alone. -/
theorem State.clockBack_drained (s : State) (c : PerfChange) :
    Leaves 0x60c1005000 (s.setPerf (some { c with phase := .lowering })).drainCrossing (s.clockBack c) := by
  refine .forEach (fun n t ht => ?_) (.refl _ _)
  split
  · split
    · exact State.dispatch_leaves ht rfl _ _
    · exact ht
  · exact ht

theorem State.clockBack_leaf (s : State) (c : PerfChange) : Leaves 0x100419900860c1007010 s (s.clockBack c) :=
  (State.drainCrossing_leaves (State.setPerf_leaves (.refl 0x100419900860c1007010 s) rfl _) rfl).step (s.clockBack_drained c) rfl

theorem State.clockBack_pwr (s : State) (c : PerfChange) :
    (s.clockBack c).pwr = { s.pwr with perf := some { c with phase := .lowering }, crossing := [] } := by
  have htaken : Leaves 0x10001990084000003010 ((s.setPerf (some { c with phase := .lowering })).withPwr
      { (s.setPerf (some { c with phase := .lowering })).pwr with crossing := [] })
      (s.setPerf (some { c with phase := .lowering })).drainCrossing :=
    .forEach (fun h t ht => State.gaffersTake_leaves ht rfl h) (.refl _ _)
  rw [(s.clockBack_drained c).same .pwr (by decide), htaken.same .pwr (by decide)]
  rfl

/-- The restart ends a change to a faster level, whose supply has been raised before (R354). -/
theorem State.restartClock_faster (s : State) {c : PerfChange} (h : c.target < c.old) :
    (s.restartClock c).pwr.perf = none ∧ (s.restartClock c).rd F.PWR_STAT_PERF_BUSY = 0 ∧
      Pends (s.restartClock c) Ev.PWR_PERF_DONE := by
  rw [s.restartClock_eq, if_pos (decide_eq_true h), State.endPerf_pwr]
  exact ⟨rfl, State.endPerf_busy _ _, State.endPerf_done_pends _⟩

/-- After the restart of a change to a slower level the supply goes down (R354). -/
theorem State.restartClock_slower (s : State) {c : PerfChange} (h : c.old ≤ c.target) :
    (s.restartClock c).pwr = { s.pwr with perf := some { c with phase := .lowering }, crossing := [], target := s.targetMv c.target } ∧
      (s.restartClock c).out = (s.clockBack c).out ++ [s.avsOut 0x21 (Config.voutWord (s.targetMv c.target)).toNat] := by
  have htarget : (s.clockBack c).targetMv c.target = s.targetMv c.target :=
    State.targetMv_congr ((s.clockBack_leaf c).rd_out (by decide)) _
  rw [s.restartClock_eq, if_neg (by simpa using h), htarget, State.commandMv_pwr, s.clockBack_pwr, State.commandMv_out,
    State.avsOut_congr ((s.clockBack_leaf c).reg (by decide))]
  exact ⟨rfl, rfl⟩

/-- The restart leaves a field that neither a cycle's start nor the end of a change writes. -/
theorem State.restartClock_rd (s : State) (c : PerfChange) {f : Fld} (hok : f.lo ≤ f.hi ∧ f.hi < 32)
    (hm : Nat.testBit 0x110419d00860c1107010 (regPart f.off).ctorIdx = false)
    (hf : 0x10004 ≠ f.off ∨ 24 < f.lo ∨ (f.hi < 24 ∧ 3 < f.lo) ∨ f.hi < 3) : (s.restartClock c).rd f = s.rd f := by
  have hback : (s.clockBack c).rd f = s.rd f :=
    (s.clockBack_leaf c).rd_out (by revert hm; cases regPart f.off <;> decide)
  rw [s.restartClock_eq]
  split
  · rw [State.endPerf_rd _ _ (by revert hm; cases regPart f.off <;> decide) ⟨hok, hf⟩, hback]
  · rw [State.commandMv_rd, hback]

theorem State.restartClock_reg (s : State) (c : PerfChange) {o : Nat} (h : 0xa00000 ≤ o) (h' : o < 0xb00000) :
    (s.restartClock c).reg o = s.reg o :=
  (State.restartClock_leaves (.refl 0x110419d00860c1107012 s) rfl c).reg (by rw [regPart_secRegs h h']; decide)

/-! ### The meaning of PERF_SWITCH_WINDOW -/

section
variable {s : State} (hl : s.live = true) {c : PerfChange} (hc : s.pwr.perf = some c)
include hl hc

/-- Outside its window a change does not switch (R355). -/
theorem exec_perfSwitchWindow_waits (h : c.phase ≠ .window ∨ ∃ n, n < 16 ∧ (s.gaf n).phase ≠ .none) :
    exec .perfSwitchWindow s = .next s := by
  have hw : (decide (c.phase ≠ .window) || !(upTo 16).all fun n => decide ((s.gaf n).phase = .none)) = true := by
    rcases h with h | ⟨n, hn, h⟩
    · simp [h]
    · rw [Bool.or_eq_true, Bool.not_eq_true', List.all_eq_false]
      exact .inr ⟨n, List.mem_range.2 hn, by simpa using h⟩
  simp only [exec, execPerfSwitchWindow, act_live hl, hc, hw, if_true, State.endClock_self]

/-- In its window, with no cycle under way, a change switches: PLL0 relocks, or the step clock goes on at once. -/
theorem exec_perfSwitchWindow (hw : c.phase = .window) (hg : ∀ n, n < 16 → (s.gaf n).phase = .none) :
    exec .perfSwitchWindow s = .next (s.endClock (if relocks c.old c.target then
      ((s.applyLevel c.target).setPerf (some { c with phase := .relock })).wr F.CLK_STAT_LOCKED
        (setBitTo ((s.applyLevel c.target).rd F.CLK_STAT_LOCKED) 0 false)
      else (s.applyLevel c.target).restartClock c)) := by
  have hall : (upTo 16).all (fun n => decide ((s.gaf n).phase = .none)) = true :=
    List.all_eq_true.2 fun n hn => decide_eq_true (hg n (List.mem_range.1 hn))
  simp only [exec, execPerfSwitchWindow, act_live hl, hc, hw, hall, ne_eq, not_true_eq_false, decide_false, Bool.not_true,
    Bool.or_self, Bool.false_eq_true, if_false]

end

end Sys2Proof.Machine

namespace Sys2Proof.Machine

/-! ### Fault records only set pending bits (R389–R392) -/

theorem Rises.of_evt {s t : State} (h : ∀ o, regPart o = .evtRegs → t.reg o = s.reg o) : Rises s t :=
  fun e he => (congrArg (evtBit e).of (h _ (regPart_evtBit e))).trans he

theorem State.logFault_rises (s : State) (r : FaultRec) : Rises s (s.logFault r) := by
  have hfull : Rises s ((s.bump F.FLT_OVF_CNT_COUNT).wr F.FLT_STAT_OVERFLOW 1) :=
    ((Rises.refl s).bump (.inl (by decide))).wr _ (.inl (by decide))
  have hput : Rises s ((s.setWords (0x31000 + 32 * (s.rd F.FLT_LOG_HEAD_HEAD % 64)) (r.logWords s.now s.flt.seq)).wr
      F.FLT_LOG_HEAD_HEAD (s.rd F.FLT_LOG_HEAD_HEAD + 1)) := by
    refine Rises.wr (Leaves.withReg_rises (.inl ?_)) _ (.inl (by decide))
    simp only [FaultRec.logWords, List.length_cons, List.length_nil]
    omega
  unfold State.logFault
  refine .ite ?_ hput
  exact .ite ((hfull.leaves ((Leaves.refl (2 ^ Part.flt.ctorIdx) _).upd_flt (by decide)) (by decide)).raise _) hfull

theorem State.recordFault_rises (s : State) (r : FaultRec) : Rises s (s.recordFault r) := by
  have hpin : Rises s ((s.withFlt { s.flt with seq := (s.flt.seq + 1) % 2 ^ 32 }).drivePin r.cls) :=
    (State.drivePin_leaves ((Leaves.refl 0x20000000000000008 s).upd_flt (by decide)) rfl _).rises (by decide)
  have hlog : Rises s ((((s.withFlt { s.flt with seq := (s.flt.seq + 1) % 2 ^ 32 }).drivePin r.cls).latchFault r).logFault r) :=
    (hpin.leaves (State.latchFault_leaves (.refl 0x8 _) rfl r) (by decide)).trans (State.logFault_rises _ r)
  have hcount : Rises s (((((s.withFlt { s.flt with seq := (s.flt.seq + 1) % 2 ^ 32 }).drivePin r.cls).latchFault r).logFault
      r).countClass r.cls) := by
    unfold State.countClass
    exact .ite ((hlog.bump (.inl (by decide))).raise _) (.ite ((hlog.bump (.inl (by decide))).raise _) hlog)
  unfold State.recordFault
  exact .ite (hcount.raise _) hcount

theorem State.report_rises (s : State) (src detail : Nat) (region : Option Nat) : Rises s (s.report src detail region) :=
  State.recordFault_rises _ _

/-- The other effects of an F1 fault are in the gaffers, the start-attempt record and the lehr. -/
theorem State.fault1_rises (s : State) (src detail : Nat) (wire : Bool) : Rises s (s.fault1 src detail wire) := by
  have hrecord := s.recordFault_rises ⟨src, 1, detail, none, wire⟩
  unfold State.fault1
  have hspoilt : Leaves 0xa2000004000000001 (s.recordFault ⟨src, 1, detail, none, wire⟩)
      (forEach (upTo 16) (fun n s => s.spoil n) (s.recordFault ⟨src, 1, detail, none, wire⟩).loseConfirm) :=
    .forEach (fun n t ht => State.spoil_leaves ht rfl n) (State.loseConfirm_leaves (.refl _ _) rfl)
  exact .ite hrecord (hrecord.leaves ((hspoilt.upd_flt (by decide)).upd_lehr (by decide)) (by decide))

/-! ### Votes, starts and stops only set pending bits (R364, R367, R392) -/

theorem State.abandon_rises (s : State) (d : Nat) : Rises s (s.abandon d) := by
  have hdown : Rises s (s.setDom d { s.dom d with down := none }) := fun _ h => h
  exact ((hdown.wr _ (.inl (by decide))).bump (.inl (by decide))).raise _

theorem State.setDom_rises (s : State) (d : Nat) (x : Domain) : Rises s (s.setDom d x) := fun _ h => h

theorem State.evalOne_rises (s : State) (c : Nat) : Rises s (s.evalOne c) := by
  unfold State.evalOne
  dsimp only
  split
  · exact .ite (.refl s) (.ite (s.abandon_rises c) ((s.abandon_rises c).trans (State.setDom_rises _ _ _)))
  · exact .ite (.refl s) (.ite (s.setDom_rises c _) (.ite (s.setDom_rises c _) (.refl s)))

theorem State.evalRegion_rises (s : State) (n : Nat) : Rises s (s.evalRegion n) :=
  .forEach (fun c t => t.evalOne_rises c) _ _

/-- The part of a halt that is in the gaffer: nothing issued remains, the state and its cause are shown, the queue is empty. -/
def State.haltGaf (s : State) (n code cause : Nat) : State :=
  (((s.setGaf n { s.gaf n with
    phase := .none, next := none, nextFixed := false, fence := none, stop := none,
    hit := false, haltHit := false, outBad := false }).wr (F.GAF_STATUS_STATE n) code).wr (F.GAF_STATUS_CAUSE n)
      cause).discardQueue n

/-- What a halt sets going: its event, the staleness of the requests, the sectors' votes. -/
def State.haltRest (s : State) (n : Nat) : State :=
  (forEach ((s.raise (Ev.GAF n 7)).regionTiles n) (fun t s => s.staleTile t) (s.raise (Ev.GAF n 7))).evalRegion n

theorem State.halted_eq (s : State) (n code cause : Nat) : s.halted n code cause = (s.haltGaf n code cause).haltRest n := rfl

theorem State.haltGaf_leaf (s : State) (n code cause : Nat) : Leaves 0x4000001000 s (s.haltGaf n code cause) :=
  State.discardQueue_leaves (((State.setGaf_leaves (.refl _ s) rfl _ _).wr (Part.bit (F.GAF_STATUS_STATE_part n) (by decide))).wr
    (Part.bit (F.GAF_STATUS_CAUSE_part n) (by decide))) rfl n

theorem State.haltRest_leaf (s : State) (n : Nat) : Leaves 0x10041990088000006012 s (s.haltRest n) :=
  State.evalRegion_leaves (.forEach (fun t _ ht => State.staleTile_leaves ht rfl t)
    (State.raise_leaves (.refl _ s) rfl _)) rfl n

theorem State.haltRest_rises (s : State) (n : Nat) : Rises s (s.haltRest n) :=
  (((Rises.refl s).raise _).trans (.forEach (fun t u => (State.staleTile_leaves (.refl 0x8000004000 u) rfl t).rises (by decide))
    _ _)).trans (State.evalRegion_rises _ n)

theorem State.halted_rises (s : State) (n code cause : Nat) : Rises s (s.halted n code cause) := by
  rw [State.halted_eq]
  exact ((s.haltGaf_leaf n code cause).rises (by decide)).trans (State.haltRest_rises _ n)

theorem State.regionDone_rises (s : State) (op n status result : Nat) : Rises s (s.regionDone op n status result) :=
  .ite (s.endShort_rises status result) (.refl s)

theorem State.startFailed_rises (s : State) (n : Nat) : Rises s (s.startFailed n) :=
  (s.regionDone_rises _ _ _ _).trans (State.regionDone_rises _ _ _ _ _)

theorem State.enterFenced_rises (s : State) (n cause source : Nat) : Rises s (s.enterFenced n cause source) := by
  have hwaking : Rises s (s.setGaf n { s.gaf n with waking := none }) := fun _ h => h
  have hhalted := hwaking.trans (State.halted_rises _ n 5 cause)
  unfold State.enterFenced
  dsimp only
  generalize (s.setGaf n { s.gaf n with waking := none }).halted n 5 cause = t at *
  have hfenced : Rises s (t.wr F.FLT_STAT_FENCED (setBitTo (t.rd F.FLT_STAT_FENCED) n true)) := hhalted.wr _ (.inl (by decide))
  generalize t.wr F.FLT_STAT_FENCED (setBitTo (t.rd F.FLT_STAT_FENCED) n true) = u at *
  have hlast : Rises s ((u.wr (F.FLT_FENCE_LAST_SOURCE n) source).wr (F.FLT_FENCE_COUNT n)
      (min 0xffff (u.rd (F.FLT_FENCE_COUNT n) + 1))) :=
    (hfenced.wr _ (.inl (by simp only [F.FLT_FENCE_LAST_SOURCE]; omega))).wr _ (.inl (by simp only [F.FLT_FENCE_COUNT]; omega))
  exact .ite (hlast.trans (State.startFailed_rises _ n)) hlast

theorem State.fence_rises (s : State) (n cause source : Nat) : Rises s (s.fence n cause source) := by
  unfold State.fence
  exact .ite (.refl s) (.ite (s.halted_rises n 0 6) (.ite (s.enterFenced_rises n cause source) fun _ h => h))

theorem State.fault2_rises (s : State) (n src detail cause : Nat) : Rises s (s.fault2 n src detail cause) := by
  unfold State.fault2
  exact .ite (s.report_rises _ _ _) ((s.report_rises _ _ _).trans (State.fence_rises _ _ _ _))

end Sys2Proof.Machine

namespace Sys2Proof.Machine

/-! ### What a fault record leaves of the containment (R396) -/

theorem State.raise_flt (s : State) (e : Nat) : (s.raise e).flt = s.flt :=
  (State.raise_leaves (.refl 0x10001990080000002010 s) rfl e).same .flt (by decide)

theorem State.wr_flt (s : State) (f : Fld) (v : Nat) : (s.wr f v).flt = s.flt := State.withRegs_flt _ _

theorem State.bump_flt (s : State) (f : Fld) : (s.bump f).flt = s.flt := by
  unfold State.bump
  split
  · exact State.wr_flt _ _ _
  · rfl

theorem State.setWords_flt (s : State) (off : Nat) (l : List Nat) : (s.setWords off l).flt = s.flt :=
  (Leaves.setWords (.refl (2 ^ 23 - 1) s) (fun _ _ => regPart_bit _)).same .flt (by decide)

theorem State.drivePin_f1 (s : State) (cls : Nat) : (s.drivePin cls).flt.f1 = s.flt.f1 := by
  unfold State.drivePin
  split
  · rw [State.wr_flt]
  · split
    · rw [State.wr_flt, State.withFlt_flt]
    · rfl

theorem State.logFault_f1 (s : State) (r : FaultRec) : (s.logFault r).flt.f1 = s.flt.f1 := by
  have hfull : ((s.bump F.FLT_OVF_CNT_COUNT).wr F.FLT_STAT_OVERFLOW 1).flt = s.flt := by rw [State.wr_flt, State.bump_flt]
  unfold State.logFault
  dsimp only
  split
  · split
    · rw [State.raise_flt, State.withFlt_flt, hfull]
    · rw [hfull]
  · rw [State.wr_flt, State.setWords_flt]

/-- A record begins and ends no containment. -/
theorem State.recordFault_f1 (s : State) (r : FaultRec) : (s.recordFault r).flt.f1 = s.flt.f1 := by
  have hcount : ((((s.withFlt { s.flt with seq := (s.flt.seq + 1) % 2 ^ 32 }).drivePin r.cls).latchFault r).logFault
      r).flt.f1 = s.flt.f1 := by
    rw [State.logFault_f1, (State.latchFault_leaves (.refl 0x8 _) rfl r).same .flt (by decide), State.drivePin_f1, State.withFlt_flt]
  unfold State.recordFault
  dsimp only
  generalize ((((s.withFlt { s.flt with seq := (s.flt.seq + 1) % 2 ^ 32 }).drivePin r.cls).latchFault r).logFault r) = t at *
  have hclass : (t.countClass r.cls).flt = t.flt :=
    (State.countClass_leaves (.refl 0x10001990080000002018 t) rfl _).same .flt (by decide)
  split
  · rw [State.raise_flt, hclass, hcount]
  · rw [hclass, hcount]

theorem State.report_f1 (s : State) (src detail : Nat) (region : Option Nat) : (s.report src detail region).flt.f1 = s.flt.f1 :=
  s.recordFault_f1 _

theorem State.report_safe (s : State) (src detail : Nat) (region : Option Nat) : (s.report src detail region).safe = s.safe :=
  congrArg (· == 7) ((State.report_leaves (.refl 0x10021990080000002018 s) rfl src detail region).rd_out (by decide))

/-- A fault of a region that is no containment's fences the region after its record (R388, R392). -/
theorem State.fault2_open {s : State} (hf : s.flt.f1 = false) (hs : s.safe = false) (n src detail cause : Nat) :
    s.fault2 n src detail cause = (s.report src detail (some n)).fence n cause src := by
  simp only [State.fault2, s.report_f1, hf, s.report_safe, hs, Bool.or_self, Bool.false_eq_true, if_false]

/-! ### One gaffer beside the others (R104) -/

/-- What `t` has of gaffer `n` is what `s` has: the registers of its block but the wait counts, and the rest of it. -/
structure GafKept (n : Nat) (s t : State) : Prop where
  reg : ∀ o, o / 0x10000 = 16 + n → regPart o = .gafRegs → t.reg o = s.reg o
  gaf : t.gaf n = s.gaf n

theorem GafKept.refl (n : Nat) (s : State) : GafKept n s s := ⟨fun _ _ _ => rfl, rfl⟩

theorem GafKept.trans {n : Nat} {s t u : State} (h : GafKept n s t) (k : GafKept n t u) : GafKept n s u :=
  ⟨fun o ho hp => (k.reg o ho hp).trans (h.reg o ho hp), k.gaf.trans h.gaf⟩

theorem GafKept.ite {n : Nat} {s t u : State} {c : Prop} [Decidable c] (ht : GafKept n s t) (hu : GafKept n s u) :
    GafKept n s (if c then t else u) := by
  split
  · exact ht
  · exact hu

theorem GafKept.forEach {α : Type} {n : Nat} {l : List α} {f : α → State → State} (s : State)
    (hf : ∀ a ∈ l, ∀ s, GafKept n s (f a s)) : GafKept n s (forEach l f s) := by
  unfold Machine.forEach
  induction l generalizing s with
  | nil => exact .refl n s
  | cons a l ih => exact (hf a (.head _) s).trans (ih _ fun b hb => hf b (.tail _ hb))

section
variable {n : Nat} {s t : State} (h : GafKept n s t)
include h

/-- What changes neither gaffers nor their registers. -/
theorem GafKept.leaves {m : Nat} {u : State} (k : Leaves m t u) (hr : m.testBit Part.gafRegs.ctorIdx = false)
    (hg : m.testBit Part.gafs.ctorIdx = false) : GafKept n s u :=
  h.trans ⟨fun _ _ hp => k.reg (hp ▸ hr), congrArg (Tab.get (fun _ => Gaffer.init) · n) (k.same .gafs hg)⟩

theorem GafKept.wr {f : Fld} (v : Nat) (hf : f.off / 0x10000 ≠ 16 + n) : GafKept n s (t.wr f v) :=
  h.trans ⟨fun _ ho _ => t.reg_wr_ne v fun hof => hf (hof ▸ ho), rfl⟩

theorem GafKept.setGaf {m : Nat} (hm : n ≠ m) (g : Gaffer) : GafKept n s (t.setGaf m g) :=
  h.trans ⟨fun _ _ _ => rfl, Tab.get_set_ne _ _ _ hm⟩

/-- A field of the gaffer's block outside the wait counts. -/
theorem GafKept.rd {f : Fld} (hf : f.off / 0x10000 = 16 + n) (hp : regPart f.off = .gafRegs) : t.rd f = s.rd f :=
  congrArg f.of (h.reg _ hf hp)

theorem GafKept.run (hn : n < 16) : t.run n = s.run n :=
  h.rd (by simp only [F.GAF_STATUS_STATE]; omega) (F.GAF_STATUS_STATE_part n)

end

theorem State.startFailed_kept (s : State) (n k : Nat) : GafKept n s (s.startFailed k) :=
  (GafKept.refl n s).leaves (State.startFailed_leaves (.refl 0x110019d0080000102010 s) rfl k) (by decide) (by decide)

section
variable {n m : Nat} (hnm : n ≠ m) (hm : m < 16) (s : State)
include hnm hm

theorem State.discardQueue_kept : GafKept n s (s.discardQueue m) := by
  unfold State.discardQueue State.setQueue State.bumpBy
  refine GafKept.wr (GafKept.setGaf (GafKept.wr (.refl n s) _ ?_) hnm _) _ ?_
  · simp only [F.GAF_TRIG_DISC_CNT_COUNT]; omega
  · simp only [F.GAF_STATUS_QDEPTH]; omega

theorem State.haltGaf_kept (code cause : Nat) : GafKept n s (s.haltGaf m code cause) := by
  unfold State.haltGaf
  refine GafKept.trans (GafKept.wr (GafKept.wr (GafKept.setGaf (.refl n s) hnm _) _ ?_) _ ?_) (State.discardQueue_kept hnm hm _)
  · simp only [F.GAF_STATUS_STATE]; omega
  · simp only [F.GAF_STATUS_CAUSE]; omega

/-- Another gaffer's halt, and what follows for its requests and its sectors' votes, leaves this one. -/
theorem State.halted_kept (code cause : Nat) : GafKept n s (s.halted m code cause) := by
  rw [State.halted_eq]
  exact (State.haltGaf_kept hnm hm s code cause).leaves (State.haltRest_leaf _ m) (by decide) (by decide)

theorem State.enterFenced_kept (cause source : Nat) : GafKept n s (s.enterFenced m cause source) := by
  have hhalted := ((GafKept.refl n s).setGaf hnm { s.gaf m with waking := none }).trans
    (State.halted_kept hnm hm (s.setGaf m { s.gaf m with waking := none }) 5 cause)
  unfold State.enterFenced
  dsimp only
  generalize (s.setGaf m { s.gaf m with waking := none }).halted m 5 cause = t at *
  have hlast : ∀ (a b c : Nat), GafKept n s (((t.wr F.FLT_STAT_FENCED a).wr (F.FLT_FENCE_LAST_SOURCE m) b).wr
      (F.FLT_FENCE_COUNT m) c) := fun a b c => by
    refine ((hhalted.wr a ?_).wr b ?_).wr c ?_
    · simp only [F.FLT_STAT_FENCED]; omega
    · simp only [F.FLT_FENCE_LAST_SOURCE]; omega
    · simp only [F.FLT_FENCE_COUNT]; omega
  exact .ite ((hlast _ _ _).trans (State.startFailed_kept _ n m)) (hlast _ _ _)

theorem State.fence_kept (cause source : Nat) : GafKept n s (s.fence m cause source) := by
  unfold State.fence
  exact .ite (.refl n s) (.ite (State.halted_kept hnm hm s 0 6) (.ite (State.enterFenced_kept hnm hm s cause source)
    ((GafKept.refl n s).setGaf hnm _)))

theorem State.fault2_kept (src detail cause : Nat) : GafKept n s (s.fault2 m src detail cause) := by
  have hreport : GafKept n s (s.report src detail (some m)) :=
    (GafKept.refl n s).leaves (State.report_leaves (.refl 0x10021990080000002018 s) rfl _ _ _) (by decide) (by decide)
  unfold State.fault2
  exact .ite hreport (hreport.trans (State.fence_kept hnm hm _ cause src))

end

/-! ### A gaffer halts, or is fenced (R105, R107, R392) -/

@[simp] theorem State.gaf_setGaf (s : State) (n : Nat) (g : Gaffer) : (s.setGaf n g).gaf n = g := Tab.get_set_same _ _ _ _
@[simp] theorem State.gaf_wr (s : State) (f : Fld) (v n : Nat) : (s.wr f v).gaf n = s.gaf n := rfl

section
variable (s : State) (n : Nat)

theorem State.discardQueue_gaf : (s.discardQueue n).gaf n = { s.gaf n with queue := [] } := by
  rw [State.discardQueue, State.setQueue, State.gaf_wr, State.gaf_setGaf]
  rfl

/-- Discarding the queue writes its count and its depth. -/
theorem State.discardQueue_rd {f : Fld} (hc : f.off ≠ (F.GAF_TRIG_DISC_CNT_COUNT n).off)
    (hq : (F.GAF_STATUS_QDEPTH n).clear f = true) : (s.discardQueue n).rd f = s.rd f := by
  rw [State.discardQueue, State.setQueue, State.rd_wr_clear _ _ hq]
  exact State.rd_setReg_ne _ _ _ hc

theorem State.haltGaf_gaf (code cause : Nat) : (s.haltGaf n code cause).gaf n = { s.gaf n with
    queue := [], phase := .none, next := none, nextFixed := false, fence := none, stop := none,
    hit := false, haltHit := false, outBad := false } := by
  rw [State.haltGaf, State.discardQueue_gaf, State.gaf_wr, State.gaf_wr, State.gaf_setGaf]

theorem gafStatus_ne_discCnt : 0x100004 + 0x10000 * (n % 16) ≠ 0x100038 + 0x10000 * (n % 16) := by omega

theorem State.haltGaf_run (code cause : Nat) : (s.haltGaf n code cause).run n = code % 8 := by
  rw [State.haltGaf, State.run, State.discardQueue_rd _ _ (gafStatus_ne_discCnt n) rfl, State.rd_wr_clear _ _ rfl]
  exact State.rd_wr_mod _ _ rfl

theorem State.haltGaf_cause (code cause : Nat) : (s.haltGaf n code cause).rd (F.GAF_STATUS_CAUSE n) = cause % 8 := by
  rw [State.haltGaf, State.discardQueue_rd _ _ (gafStatus_ne_discCnt n) rfl]
  exact State.rd_wr_mod _ _ rfl

/-- A halt shows its state and cause, and leaves the gaffer without a cycle or a queue. -/
theorem State.halted_shows (code cause : Nat) :
    (s.halted n code cause).run n = code % 8 ∧ (s.halted n code cause).rd (F.GAF_STATUS_CAUSE n) = cause % 8 ∧
      (s.halted n code cause).gaf n = { s.gaf n with
        queue := [], phase := .none, next := none, nextFixed := false, fence := none, stop := none,
        hit := false, haltHit := false, outBad := false } := by
  have hrest := State.haltRest_leaf (s.haltGaf n code cause) n
  rw [State.halted_eq, State.run, hrest.rd (F.GAF_STATUS_STATE_part n) (by decide) (by decide),
    hrest.rd (F.GAF_STATUS_CAUSE_part n) (by decide) (by decide), s.haltGaf_cause]
  exact ⟨s.haltGaf_run n code cause, rfl, (congrArg (Tab.get (fun _ => Gaffer.init) · n) (hrest.same .gafs (by decide))).trans
    (s.haltGaf_gaf n code cause)⟩

/-- A region that enters FENCED shows it, with the cause and the source of the fault (R392). -/
theorem State.enterFenced_shows (cause source : Nat) :
    (s.enterFenced n cause source).run n = 5 ∧ (s.enterFenced n cause source).rd (F.GAF_STATUS_CAUSE n) = cause % 8 ∧
      (s.enterFenced n cause source).rd (F.FLT_FENCE_LAST_SOURCE n) = source % 256 ∧
      ((s.enterFenced n cause source).gaf n).phase = .none ∧ ((s.enterFenced n cause source).gaf n).queue = [] := by
  obtain ⟨hrun, hcause, hgaf⟩ := (s.setGaf n { s.gaf n with waking := none }).halted_shows n 5 cause
  unfold State.enterFenced
  dsimp only
  generalize (s.setGaf n { s.gaf n with waking := none }).halted n 5 cause = t at *
  generalize hu : t.wr F.FLT_STAT_FENCED _ = u
  have hfenced : Leaves (2 ^ Part.fltRegs.ctorIdx) t u := hu ▸ (Leaves.refl _ t).wr (Part.bit F.FLT_STAT_FENCED_part (by decide))
  generalize hv : (u.wr (F.FLT_FENCE_LAST_SOURCE n) source).wr (F.FLT_FENCE_COUNT n) _ = v
  have hrecord : Leaves (2 ^ Part.fltRegs.ctorIdx) t v := hv ▸ (hfenced.wr (Part.bit (F.FLT_FENCE_LAST_SOURCE_part n)
    (by decide))).wr (Part.bit (F.FLT_FENCE_COUNT_part n) (by decide))
  have hsource : v.rd (F.FLT_FENCE_LAST_SOURCE n) = source % 256 := by
    rw [← hv, State.rd_wr_clear _ _ rfl]
    exact State.rd_wr_mod _ _ rfl
  have hdone : Leaves 0x110019d0080000102010 v (if (s.gaf n).waking.isSome = true then v.startFailed n else v) :=
    .ite (State.startFailed_leaves (.refl _ v) rfl n) (.refl _ v)
  have hgafs : (if (s.gaf n).waking.isSome = true then v.startFailed n else v).gaf n = t.gaf n :=
    (congrArg (Tab.get (fun _ => Gaffer.init) · n) (hdone.same .gafs (by decide))).trans
      (congrArg (Tab.get (fun _ => Gaffer.init) · n) (hrecord.same .gafs (by decide)))
  rw [State.run, hdone.rd (F.GAF_STATUS_STATE_part n) (by decide) (by decide),
    hrecord.rd (F.GAF_STATUS_STATE_part n) (by decide) (by decide),
    hdone.rd (F.GAF_STATUS_CAUSE_part n) (by decide) (by decide),
    hrecord.rd (F.GAF_STATUS_CAUSE_part n) (by decide) (by decide),
    hdone.rd (F.FLT_FENCE_LAST_SOURCE_part n) (by decide) (by decide), hgafs, hgaf]
  exact ⟨hrun, hcause, hsource, rfl, rfl⟩

/-- A fault at a region whose state is ARMED or later, with no cycle under way, fences it at once (R392). -/
theorem State.fence_idle {s : State} {n : Nat} (h : 2 ≤ s.run n ∧ s.run n ≤ 4) (hp : (s.gaf n).phase = .none)
    (hf : (s.gaf n).fence = none) (cause source : Nat) : s.fence n cause source = s.enterFenced n cause source := by
  have h5 : s.run n ≠ 5 := by omega
  have h1 : s.run n ≠ 1 := by omega
  simp [State.fence, h5, h1, hp, hf]

end
end Sys2Proof.Machine

namespace Sys2Proof.Machine

/-! ### One bit of a field beside the others -/

/-- A power of two that a number lacks changes no bit above it. -/
theorem testBit_add_two_pow {w i j : Nat} (hw : w.testBit i = false) (hj : j ≠ i) : (w + 2 ^ i).testBit j = w.testBit j := by
  rcases Nat.lt_or_gt_of_ne hj with hj | hj
  · rw [Nat.add_comm, Nat.testBit_two_pow_add_gt hj]
  · have hsame : (w + 2 ^ i) / 2 ^ (i + 1) = w / 2 ^ (i + 1) := by
      have heven : w / 2 ^ i % 2 = 0 := by
        rw [Nat.testBit_eq_decide_div_mod_eq] at hw
        have := of_decide_eq_false hw
        omega
      rw [Nat.pow_succ, ← Nat.div_div_eq_div_mul, ← Nat.div_div_eq_div_mul, Nat.add_div_right _ (Nat.two_pow_pos i)]
      omega
    have hshift : ∀ x : Nat, x.testBit j = (x / 2 ^ (i + 1)).testBit (j - (i + 1)) := fun x => by
      rw [Nat.testBit_div_two_pow]
      congr 1
      omega
    rw [hshift, hshift w, hsame]

/-- The bits beside the one put stay. -/
theorem testBit_setBitTo_ne (w : Nat) {i j : Nat} (hj : j ≠ i) (b : Bool) : (setBitTo w i b).testBit j = w.testBit j := by
  unfold setBitTo
  split
  · rfl
  · next hw =>
    cases b with
    | true =>
      rw [if_pos rfl]
      exact testBit_add_two_pow (by simpa using hw) hj
    | false =>
      have hset : w.testBit i = true := by simpa using hw
      have hle := Nat.ge_two_pow_of_testBit hset
      have hclear := testBit_setBitTo w i false
      rw [setBitTo, if_neg hw, if_neg (by decide)] at hclear
      rw [if_neg (by decide), ← testBit_add_two_pow hclear hj, Nat.sub_add_cancel hle]

theorem State.bit_rd_wr_ne (s : State) {f : Fld} (hf : f.ok) {i j : Nat} (hj : j < f.hi - f.lo + 1) (hne : j ≠ i) (b : Bool) :
    bit ((s.wr f (setBitTo (s.rd f) i b)).rd f) j = bit (s.rd f) j := by
  rw [s.rd_wr f _ hf, bit, Nat.testBit_mod_two_pow, testBit_setBitTo_ne _ hne]
  simp [hj, bit]

/-! ### Released lines and the restart of the clock only set pending bits (R108, R110–R113) -/

section
variable (s : State) (n line : Nat)

theorem State.overrunTrace_rises (master localSkip merged : Bool) : Rises s (s.overrunTrace n line master localSkip merged) := by
  have hlog : Leaves 0x4000001000 s (((s.skipLog n line master localSkip merged).wr (F.GAF_STATUS_OVERRUN n) 1).setGaf n
      { ((s.skipLog n line master localSkip merged).wr (F.GAF_STATUS_OVERRUN n) 1).gaf n with overrunSeen := true }) :=
    State.setGaf_leaves ((State.skipLog_leaves (.refl _ s) rfl _ _ _ _ _).wr (Part.bit (F.GAF_STATUS_OVERRUN_part n) (by decide)))
      rfl _ _
  exact (hlog.rises (by decide)).raise _

theorem State.skip_rises (master localSkip : Bool) : Rises s (s.skip n line master localSkip) := by
  have htrace : Rises s ((s.bump (F.GAF_SKIP_CNT_COUNT n)).overrunTrace n line master localSkip false) :=
    ((Rises.refl s).bump (.inr (by simp only [F.GAF_SKIP_CNT_COUNT]; omega))).trans (State.overrunTrace_rises _ _ _ _ _ _)
  unfold State.skip
  dsimp only
  generalize (s.bump (F.GAF_SKIP_CNT_COUNT n)).overrunTrace n line master localSkip false = t at *
  have hnoted : Rises s (t.withTb { t.tb with skipped := setBitTo t.tb.skipped n true }) := htrace.trans fun _ h => h
  refine .ite ((hnoted.bump (.inr ?_)).raise _) htrace
  simp only [F.GAF_LOCAL_SKIP_CNT_COUNT]
  omega

theorem State.setQueue_rises (q : List TrigEntry) : Rises s (s.setQueue n q) :=
  (State.setQueue_leaves (.refl 0x4000001000 s) rfl n q).rises (by decide)

theorem State.merge_rises (master localSkip : Bool) : Rises s (s.merge n line master localSkip) := by
  unfold State.merge
  split
  · exact s.skip_rises _ _ _ _
  · refine .ite (s.skip_rises _ _ _ _) (((s.setQueue_rises n _).bump (.inr ?_)).trans (State.overrunTrace_rises _ _ _ _ _ _))
    simp only [F.GAF_MERGE_CNT_COUNT]
    omega

theorem State.byMark_rises (mark target : Nat) : Rises s (s.byMark n line mark target) := by
  unfold State.byMark
  refine .ite (s.skip_rises _ _ _ _) (.ite ?_ (.ite (s.skip_rises _ _ _ _) (s.setQueue_rises _ _)))
  split
  · exact .ite (s.merge_rises _ _ _ _) (s.skip_rises _ _ _ _)
  · exact s.skip_rises _ _ _ _

theorem State.trigger_rises (mark target : Nat) : Rises s (s.trigger n line mark target) := by
  unfold State.trigger
  refine .ite (.refl s) (.ite ((Rises.refl s).bump (.inr ?_)) (.ite (s.byMark_rises _ _ _ _) ?_))
  · simp only [F.GAF_TRIG_DISC_CNT_COUNT]
    omega
  · split
    · exact s.setQueue_rises _ _
    · exact s.skip_rises _ _ _ _
    · exact s.merge_rises _ _ _ _

end

theorem State.gaffersTake_rises (s : State) (h : Held) : Rises s (s.gaffersTake h) :=
  .forEach (fun n u => u.trigger_rises n _ _ _) _ s

theorem State.drainCrossing_rises (s : State) : Rises s s.drainCrossing := by
  have hempty : Rises s (s.withPwr { s.pwr with crossing := [] }) := fun _ h => h
  exact hempty.trans (.forEach (fun h t => t.gaffersTake_rises h) _ _)

theorem State.restartClock_rises (s : State) (c : PerfChange) : Rises s (s.restartClock c) := by
  have hlowering : Rises s (s.setPerf (some { c with phase := .lowering })) := fun _ h => h
  have hback : Rises s (s.clockBack c) := (hlowering.trans (State.drainCrossing_rises _)).leaves (s.clockBack_drained c) (by decide)
  rw [s.restartClock_eq]
  refine .ite (hback.trans (State.endPerf_rises _ _)) fun e he => ?_
  rw [Pends, State.commandMv_rd]
  exact hback e he

/-! ### The locks of the PLLs (R356, R377) -/

theorem clkLocked_ok : F.CLK_STAT_LOCKED.ok := ⟨by decide, by decide⟩

/-- PLL `k` shows its lock, and the lock is raised. -/
def State.lockShown (s : State) (k : Nat) : State :=
  (s.wr F.CLK_STAT_LOCKED (setBitTo (s.rd F.CLK_STAT_LOCKED) k true)).raise (Ev.CLK_LOCK k)

section
variable (s : State) (k : Nat)

theorem State.lockShown_locked {j : Nat} (hk : k < 8) (hj : j < 8) :
    bit ((s.lockShown k).rd F.CLK_STAT_LOCKED) j = (decide (j = k) || bit (s.rd F.CLK_STAT_LOCKED) j) := by
  rw [State.lockShown, State.rd_raise_out _ _ (by decide)]
  by_cases h : j = k
  · rw [h, s.bit_rd_wr clkLocked_ok hk, decide_eq_true rfl, Bool.true_or]
  · rw [s.bit_rd_wr_ne clkLocked_ok hj h, decide_eq_false h, Bool.false_or]

theorem State.lockShown_pwr : (s.lockShown k).pwr = s.pwr := by
  rw [State.lockShown, State.raise_pwr, State.wr_pwr]

theorem State.lockShown_pends : Pends (s.lockShown k) (Ev.CLK_LOCK k) := State.rd_raise_self _ _

theorem State.pll5Locked_leaf : Leaves (2 ^ Part.pwr.ctorIdx + 2 ^ Part.fab.ctorIdx) (s.wr (F.CLK_PLL_CFG_APPLY 5) 0) s.pll5Locked := by
  unfold State.pll5Locked
  exact .ite (.refl _ _) (((Leaves.refl _ _).upd_pwr (by decide)).upd_fab (by decide))

/-- What the statement observes of a lock, wherever CLK_STAT keeps it. -/
theorem State.lockShown_shows (k : Fin 8) {u : State} (hu : u.rd F.CLK_STAT_LOCKED = (s.lockShown k).rd F.CLK_STAT_LOCKED)
    (hr : Rises (s.lockShown k) u) : bit (u.rd F.CLK_STAT_LOCKED) k = true ∧
      (∀ j, j < 8 → j ≠ k.val → bit (u.rd F.CLK_STAT_LOCKED) j = bit (s.rd F.CLK_STAT_LOCKED) j) ∧ Pends u (Ev.CLK_LOCK k) := by
  rw [hu]
  refine ⟨?_, fun j hj hne => ?_, hr _ (s.lockShown_pends k)⟩
  · rw [s.lockShown_locked k k.isLt k.isLt, decide_eq_true rfl, Bool.true_or]
  · rw [s.lockShown_locked k k.isLt hj, decide_eq_false hne, Bool.false_or]

theorem State.pll5Locked_locked : s.pll5Locked.rd F.CLK_STAT_LOCKED = s.rd F.CLK_STAT_LOCKED := by
  rw [s.pll5Locked_leaf.rd_out (by decide), State.rd_wr_other _ _ _ _ (by decide)]

theorem State.pll5Locked_rises : Rises s s.pll5Locked :=
  ((Rises.refl s).wr _ (.inl (by decide))).leaves s.pll5Locked_leaf (by decide)

theorem State.pll5Locked_apply : s.pll5Locked.rd (F.CLK_PLL_CFG_APPLY 5) = 0 := by
  rw [s.pll5Locked_leaf.rd_out (by decide)]
  exact State.rd_wr_fit _ _ _ (by decide) (by decide)

end

section
variable {s : State} (hl : s.live = true) (k : Fin 8)
include hl

theorem exec_pllLock_already (h : bit (s.rd F.CLK_STAT_LOCKED) k = true) : exec (.pllLock k) s = .next s := by
  simp only [exec, execPllLock, act_live hl, h, if_true, State.endClock_self]

theorem exec_pllUnlock_already (h : bit (s.rd F.CLK_STAT_LOCKED) k = false) : exec (.pllUnlock k) s = .next s := by
  simp only [exec, execPllUnlock, act_live hl, h, Bool.not_false, if_true, State.endClock_self]

theorem exec_pllLock_five (h : bit (s.rd F.CLK_STAT_LOCKED) 5 = false) :
    exec (.pllLock 5) s = .next (s.endClock (s.lockShown 5).pll5Locked) := by
  have h5 : (5 : Fin 8).val = 5 := rfl
  simp only [exec, execPllLock, act_live hl, h, Bool.false_eq_true, if_false, h5, if_true, State.lockShown]

/-- The lock of PLL0 lets a change that relocks it go on (R356). -/
theorem exec_pllLock_relock (h : bit (s.rd F.CLK_STAT_LOCKED) 0 = false) {c : PerfChange} (hc : s.pwr.perf = some c)
    (hp : c.phase = .relock) : exec (.pllLock 0) s = .next (s.endClock ((s.lockShown 0).restartClock c)) := by
  have h' : bit (s.rd F.CLK_STAT_LOCKED) (0 : Fin 8) = false := h
  have h0 : ((0 : Fin 8).val = 5) = False := by decide
  have hc' : ((s.wr F.CLK_STAT_LOCKED (setBitTo (s.rd F.CLK_STAT_LOCKED) (0 : Fin 8) true)).raise (Ev.CLK_LOCK (0 : Fin 8))).pwr.perf = some c :=
    (congrArg PwrState.perf (s.lockShown_pwr 0)).trans hc
  simp only [exec, execPllLock, act_live hl, h', Bool.false_eq_true, if_false, h0, hc', hp, decide_true, Bool.and_true]
  rfl

/-- Any other lock is shown, and no more. -/
theorem exec_pllLock (h : bit (s.rd F.CLK_STAT_LOCKED) k = false) (h5 : k ≠ 5)
    (h0 : k = 0 → ∀ c, s.pwr.perf = some c → c.phase ≠ .relock) :
    exec (.pllLock k) s = .next (s.endClock (s.lockShown k)) := by
  have hk5 : k.val ≠ 5 := fun hk => h5 (Fin.ext hk)
  have hpwr : ((s.wr F.CLK_STAT_LOCKED (setBitTo (s.rd F.CLK_STAT_LOCKED) k true)).raise (Ev.CLK_LOCK k)).pwr.perf = s.pwr.perf :=
    congrArg PwrState.perf (s.lockShown_pwr k)
  simp only [exec, execPllLock, act_live hl, h, Bool.false_eq_true, if_false, hk5, hpwr]
  cases hc : s.pwr.perf with
  | none => rfl
  | some c =>
    have hwait : (decide (k.val = 0) && decide (c.phase = .relock)) = false := by
      by_cases hk : k = 0
      · simp [h0 hk c hc]
      · simp [Fin.val_eq_zero_iff, hk]
    simp only [hwait, Bool.false_eq_true, if_false]
    rfl

end

/-! ### A PLL loses its lock (R377, R387) -/

/-- The loss of PLL `k`'s lock is shown, counted and raised, before its fault record. -/
def State.unlockShown (s : State) (k : Nat) : State :=
  ((((s.wr F.CLK_STAT_LOCKED (setBitTo (s.rd F.CLK_STAT_LOCKED) k false)).wr F.CLK_STAT_UNLOCK
    (setBitTo (s.rd F.CLK_STAT_UNLOCK) k true)).pllSlips k).bump F.CLK_UNLOCK_CNT_COUNT).raise (Ev.CLK_UNLOCK k)

theorem exec_pllUnlock {s : State} (hl : s.live = true) {k : Fin 8} (h : bit (s.rd F.CLK_STAT_LOCKED) k = true) :
    exec (.pllUnlock k) s = .next (s.endClock ((s.unlockShown k).pllFault k)) := by
  simp only [exec, execPllUnlock, act_live hl, h, Bool.not_true, Bool.false_eq_true, if_false, State.unlockShown]

theorem State.pllSlips_leaf (s : State) (k : Nat) : Leaves (2 ^ Part.pwr.ctorIdx + 2 ^ Part.free.ctorIdx) s (s.pllSlips k) := by
  unfold State.pllSlips
  exact .ite (((Leaves.refl _ s).upd_free (by decide)).upd_pwr (by decide)) (.refl _ s)

section
variable (s : State) {k : Nat} (hk : k < 8)

/-- What the loss shows in CLK_STAT and the count, seen through what follows it. -/
theorem State.unlockShown_rd {f : Fld} (hp : regPart f.off = .clkRegs) (hf : f.off ≠ F.CLK_UNLOCK_CNT_COUNT.off) :
    (s.unlockShown k).rd f = ((s.wr F.CLK_STAT_LOCKED (setBitTo (s.rd F.CLK_STAT_LOCKED) k false)).wr F.CLK_STAT_UNLOCK
      (setBitTo (s.rd F.CLK_STAT_UNLOCK) k true)).rd f := by
  rw [State.unlockShown, State.rd_raise_out _ _ (by rw [hp]; decide)]
  unfold State.bump
  split
  · rw [State.wr, State.rd_setReg_ne _ _ _ hf, (State.pllSlips_leaf _ k).rd_out (by rw [hp]; decide)]
  · exact (State.pllSlips_leaf _ k).rd_out (by rw [hp]; decide)

theorem State.unlockShown_counted : Counted s (s.unlockShown k) F.CLK_UNLOCK_CNT_COUNT := by
  rw [Counted, State.unlockShown, State.rd_raise_out _ _ (by decide), State.rd_bump _ _ (by decide),
    (State.pllSlips_leaf _ k).rd_out (by decide), State.rd_wr_other _ _ _ _ (by decide), State.rd_wr_other _ _ _ _ (by decide)]

theorem State.unlockShown_pends : Pends (s.unlockShown k) (Ev.CLK_UNLOCK k) := State.rd_raise_self _ _

include hk

theorem State.unlockShown_unlock : bit ((s.unlockShown k).rd F.CLK_STAT_UNLOCK) k = true := by
  have hsame : (s.wr F.CLK_STAT_LOCKED (setBitTo (s.rd F.CLK_STAT_LOCKED) k false)).rd F.CLK_STAT_UNLOCK =
      s.rd F.CLK_STAT_UNLOCK := State.rd_wr_other _ _ _ _ (by decide)
  rw [State.unlockShown_rd _ rfl (by decide), ← hsame]
  exact State.bit_rd_wr _ ⟨by decide, by decide⟩ hk true

theorem State.unlockShown_locked {j : Nat} (hj : j < 8) :
    bit ((s.unlockShown k).rd F.CLK_STAT_LOCKED) j = (decide (j ≠ k) && bit (s.rd F.CLK_STAT_LOCKED) j) := by
  rw [State.unlockShown_rd _ rfl (by decide), State.rd_wr_other _ _ _ _ (by decide)]
  by_cases h : j = k
  · rw [h, s.bit_rd_wr clkLocked_ok hk, decide_eq_false (by simp), Bool.false_and]
  · rw [s.bit_rd_wr_ne clkLocked_ok hj h, decide_eq_true h, Bool.true_and]

end

theorem State.unlockShown_leaf (s : State) (k : Nat) : Leaves (0x10001990080000002010 ||| 2 ^ Part.pwr.ctorIdx ||| 2 ^ Part.free.ctorIdx |||
    2 ^ Part.clkRegs.ctorIdx) s (s.unlockShown k) := by
  refine State.raise_leaves (Leaves.bump (Leaves.step ((Leaves.refl _ s).wr ?_ |>.wr ?_) (State.pllSlips_leaf _ k) ?_) ?_) ?_ _
  all_goals decide

/-! ### The fault record of a lost lock -/

theorem State.stepPllFault_leaf (s : State) : Leaves (0x110619d008c00010701a ||| 0x10021990080000002018) s s.stepPllFault := by
  unfold State.stepPllFault
  exact .ite (State.report_leaves (.refl _ s) (by decide) _ _ _)
    (.forEach (fun n t ht => State.fault2_leaves ht (by decide) _ _ _ _) (.refl _ s))

/-- The record of a lost lock leaves the PLLs' own registers. -/
theorem State.pllFault_rd (s : State) (k : Nat) {f : Fld} (hp : regPart f.off = .clkRegs) : (s.pllFault k).rd f = s.rd f := by
  unfold State.pllFault
  split
  · exact (State.fault1_leaves (.refl 0x100a3990084000002019 s) rfl _ _ _).rd_out (by rw [hp]; decide)
  · split
    · exact s.stepPllFault_leaf.rd_out (by rw [hp]; decide)
    · exact (State.report_leaves (.refl 0x10021990080000002018 s) rfl _ _ _).rd_out (by rw [hp]; decide)

theorem State.pllFault_rises (s : State) (k : Nat) : Rises s (s.pllFault k) := by
  unfold State.pllFault State.stepPllFault
  exact .ite (s.fault1_rises _ _ _) (.ite (.ite (s.report_rises _ _ _) (.forEach (fun n t => t.fault2_rises _ _ _ _) _ s))
    (s.report_rises _ _ _))

/-- The first F1 fault outside the safe state begins a containment (R396). -/
theorem State.fault1_f1 {s : State} (hs : s.safe = false) (src detail : Nat) (wire : Bool) :
    (s.fault1 src detail wire).flt.f1 = true := by
  unfold State.fault1
  dsimp only
  split
  · next h =>
    rw [State.recordFault_f1]
    simpa [hs] using h
  · rfl

@[simp] theorem State.withFlt_rd (s : State) (x : Collector) (f : Fld) : (s.withFlt x).rd f = s.rd f := rfl

theorem State.drivePin_reg (s : State) (cls : Nat) {o : Nat} (ho : o ≠ 0x30000) : (s.drivePin cls).reg o = s.reg o := by
  unfold State.drivePin
  split
  · exact s.reg_wr_ne _ ho
  · split
    · exact State.reg_wr_ne _ _ ho
    · rfl

theorem State.latchFault_reg (s : State) (r : FaultRec) {o : Nat} (ho : 0x30018 ≤ o) : (s.latchFault r).reg o = s.reg o := by
  unfold State.latchFault
  split
  · rfl
  · exact s.reg_setWords_out _ (.inr ho)

/-- The log is in its own registers, below the counts of its overflows and above every count of a class. -/
theorem State.logFault_rd_f3 (s : State) (r : FaultRec) : (s.logFault r).rd F.FLT_F3_CNT_COUNT = s.rd F.FLT_F3_CNT_COUNT := by
  have hfull : ((s.bump F.FLT_OVF_CNT_COUNT).wr F.FLT_STAT_OVERFLOW 1).rd F.FLT_F3_CNT_COUNT = s.rd F.FLT_F3_CNT_COUNT := by
    rw [State.rd_wr_other _ _ _ _ (by decide), State.rd_bump_other _ _ _ (by decide)]
  unfold State.logFault
  dsimp only
  split
  · split
    · rw [State.rd_raise_out _ _ (by decide), State.withFlt_rd, hfull]
    · exact hfull
  · rw [State.rd_wr_other _ _ _ _ (by decide)]
    exact congrArg F.FLT_F3_CNT_COUNT.of (s.reg_setWords_out _ (.inl (by simp only [F.FLT_F3_CNT_COUNT]; omega)))

/-- A record of class F3 is counted (R391, R400). -/
theorem State.report_counts_f3 (s : State) {src : Nat} (hc : faultClass src = some 3) (hne : src ≠ 29) (detail : Nat)
    (region : Option Nat) : Counted s (s.report src detail region) F.FLT_F3_CNT_COUNT := by
  unfold State.report State.recordFault State.countClass
  simp only [hc, hne, Option.getD_some, if_true, if_false, show ¬(3 = 2) by decide]
  rw [Counted, State.rd_raise_out _ _ (by decide), State.rd_bump _ _ (by decide), State.logFault_rd_f3]
  have hkept : ∀ (t : State) (r : FaultRec), ((t.drivePin 3).latchFault r).rd F.FLT_F3_CNT_COUNT = t.rd F.FLT_F3_CNT_COUNT :=
    fun t r => congrArg F.FLT_F3_CNT_COUNT.of (((t.drivePin 3).latchFault_reg r (by decide)).trans (t.drivePin_reg 3 (by decide)))
  rw [hkept]
  rfl

/-- The PLLs whose loss of lock is of class F3 are counted there (R387, R391). -/
theorem State.pllFault_f3 (s : State) {k : Fin 8} (hk : k = 2 ∨ k = 3 ∨ k = 5 ∨ k = 6) :
    Counted s (s.pllFault k) F.FLT_F3_CNT_COUNT := by
  have hrecord : s.pllFault k = s.report 27 k none := by
    rcases hk with rfl | rfl | rfl | rfl <;> simp [State.pllFault]
  rw [hrecord]
  exact s.report_counts_f3 (by decide) (by decide) _ _

/-- A loss of lock of PLL1, PLL4 or PLL7 is an F1 fault (R387). -/
theorem State.pllFault_f1 {s : State} (hs : s.safe = false) {k : Fin 8} (hk : k = 1 ∨ k = 4 ∨ k = 7) :
    (s.pllFault k).flt.f1 = true := by
  have hrecord : s.pllFault k = s.fault1 11 k false := by
    rcases hk with rfl | rfl | rfl <;> simp [State.pllFault]
  rw [hrecord]
  exact State.fault1_f1 hs _ _ _

theorem State.pllFault_zero (s : State) : s.pllFault 0 = s.stepPllFault := by
  simp [State.pllFault]

theorem State.unlockShown_safe (s : State) (k : Nat) : (s.unlockShown k).safe = s.safe :=
  congrArg (· == 7) ((s.unlockShown_leaf k).rd_out (by decide))

/-! ### PLL0's fences (R387) -/

/-- A fault that no containment hides leaves the containment as it is. -/
theorem State.fault2_contained {s : State} (hf : s.flt.f1 = false) (hs : s.safe = false) (n src detail cause : Nat) :
    (s.fault2 n src detail cause).flt.f1 = false ∧ (s.fault2 n src detail cause).safe = false := by
  have hfence := State.fence_leaves (.refl 0x110419d008c00010701a (s.report src detail (some n))) rfl n cause src
  rw [State.fault2_open hf hs]
  refine ⟨?_, ?_⟩
  · rw [hfence.same .flt (by decide), s.report_f1, hf]
  · exact (congrArg (· == 7) (hfence.rd_out (by decide))).trans ((s.report_safe _ _ _).trans hs)

theorem State.report_kept (s : State) (n src detail : Nat) (region : Option Nat) : GafKept n s (s.report src detail region) :=
  (GafKept.refl n s).leaves (State.report_leaves (.refl 0x10021990080000002018 s) rfl _ _ _) (by decide) (by decide)

section
variable {n : Nat} (hn : n < 16)
include hn

/-- A fenced region stays fenced through a fault of any region. -/
theorem State.fault2_fenced {s : State} (h : s.run n = 5) {m : Nat} (hm : m < 16) (src detail cause : Nat) :
    (s.fault2 m src detail cause).run n = 5 := by
  have hreport : (s.report src detail (some m)).run n = 5 := ((s.report_kept n src detail (some m)).run hn).trans h
  by_cases hnm : n = m
  · unfold State.fault2 State.fence
    subst hnm
    simp [hreport]
  · rw [(State.fault2_kept hnm hm s src detail cause).run hn, h]

/-- A region that waits for a cycle is fenced by a fault of its own at once. -/
theorem State.fault2_fences {s : State} (hf : s.flt.f1 = false) (hs : s.safe = false) (h : 2 ≤ s.run n ∧ s.run n ≤ 4)
    (hp : (s.gaf n).phase = .none) (hfence : (s.gaf n).fence = none) (src detail cause : Nat) :
    (s.fault2 n src detail cause).run n = 5 := by
  have hkept := s.report_kept n src detail (some n)
  rw [State.fault2_open hf hs, State.fence_idle (by rwa [hkept.run hn]) (by rwa [hkept.gaf]) (by rwa [hkept.gaf])]
  exact (State.enterFenced_shows _ n cause src).1

/-- Such a region stands fenced after the faults of a list of regions that has it. -/
theorem run_forEach_fault2 {l : List Nat} (hl : ∀ m ∈ l, m < 16) (src detail cause : Nat) (s : State)
    (h : s.run n = 5 ∨ n ∈ l ∧ s.flt.f1 = false ∧ s.safe = false ∧ (2 ≤ s.run n ∧ s.run n ≤ 4) ∧ (s.gaf n).phase = .none ∧
      (s.gaf n).fence = none) : (forEach l (fun m s => s.fault2 m src detail cause) s).run n = 5 := by
  unfold forEach
  induction l generalizing s with
  | nil => exact h.resolve_right (by simp)
  | cons m l ih =>
    have hm := hl m (.head _)
    refine ih (fun k hk => hl k (.tail _ hk)) _ ?_
    rcases h with h | ⟨hmem, hf, hs, hrun, hp, hfence⟩
    · exact .inl (State.fault2_fenced hn h hm _ _ _)
    · by_cases hnm : n = m
      · subst hnm
        exact .inl (State.fault2_fences hn hf hs hrun hp hfence _ _ _)
      · have hkept := State.fault2_kept hnm hm s src detail cause
        obtain ⟨hf', hs'⟩ := State.fault2_contained hf hs m src detail cause
        rw [hkept.run hn, hkept.gaf]
        exact .inr ⟨(List.mem_cons.1 hmem).resolve_left hnm, hf', hs', hrun, hp, hfence⟩

/-- A loss of PLL0's lock fences every region that waits for a cycle (R387). -/
theorem State.stepPllFault_fences {s : State} (hf : s.flt.f1 = false) (hs : s.safe = false) (h : 2 ≤ s.run n ∧ s.run n ≤ 4)
    (hp : (s.gaf n).phase = .none) (hfence : (s.gaf n).fence = none) : s.stepPllFault.run n = 5 := by
  have hmem : n ∈ (upTo 16).filter fun n => decide (2 ≤ s.run n) && decide (s.run n ≤ 4) :=
    List.mem_filter.2 ⟨List.mem_range.2 hn, by simp [h]⟩
  unfold State.stepPllFault
  dsimp only
  rw [if_neg (List.ne_nil_of_mem hmem)]
  exact run_forEach_fault2 hn (fun m hm => List.mem_range.1 (List.mem_filter.1 hm).1) _ _ _ s
    (.inr ⟨hmem, hf, hs, h, hp, hfence⟩)

end

/-- So does the loss as a whole, shown and recorded. -/
theorem State.pllUnlock_fences {s : State} {n : Nat} (hn : n < 16) (hf : s.flt.f1 = false) (hs : s.safe = false)
    (h : 2 ≤ s.run n ∧ s.run n ≤ 4) (hp : (s.gaf n).phase = .none) (hfence : (s.gaf n).fence = none) :
    ((s.unlockShown 0).pllFault 0).run n = 5 := by
  have hleaf := s.unlockShown_leaf 0
  have hkept : GafKept n s (s.unlockShown 0) := (GafKept.refl n s).leaves hleaf (by decide) (by decide)
  have hf' : (s.unlockShown 0).flt.f1 = false := (congrArg Collector.f1 (hleaf.same .flt (by decide))).trans hf
  rw [State.pllFault_zero]
  exact State.stepPllFault_fences hn hf' ((s.unlockShown_safe 0).trans hs) ((hkept.run hn).symm ▸ h) (hkept.gaf.symm ▸ hp)
    (hkept.gaf.symm ▸ hfence)

/-! ### APPLY (R375, R379) -/

/-- The row of PLL5's configuration in the register map. -/
def pll5CfgRow : RegRow :=
  ⟨"PLL_CFG", 0x1a0, 0x0, 1, [⟨31, 31, .w1s, 0⟩, ⟨30, 30, .rwl, 0⟩, ⟨29, 23, .mbz, 0⟩, ⟨22, 16, .rwl, 76⟩, ⟨15, 0, .mbz, 0⟩]⟩

theorem exec_apply {s : State} {p : Path} (hl : s.live = true) (hp : s.pathOpen p = true) (v : BitVec 32) :
    exec (.apply p v) s = .next (s.endClock (s.stored p 0x201a0 (v ||| 0x80000000).toNat).applyPll) := by
  have hr : regRow? 0x201a0 = some pll5CfgRow := by decide +kernel
  have hb : blockAt 0x201a0 = some (.clk, 0, 0x1a0) := by decide +kernel
  have hbit : bit (v ||| 0x80000000).toNat 31 = true := by
    rw [bit, BitVec.toNat_or, Nat.testBit_or, Bool.or_eq_true]
    exact .inr (by decide)
  simp only [exec, execApply, writeAt_open hl hp, s.write32_stored p _ hr hb (by decide), State.written, hbit, decide_true,
    Bool.and_true, if_true]

/-- May PLL5 take the settings that stand in its registers (R375)? -/
def State.pll5Ok (s : State) : Bool :=
  pllOk (s.rd (F.CLK_PLL_CFG_N 5)) (s.rd (F.CLK_PLL_FRAC 5)) (s.rd (F.CLK_PLL_DEN 5))
    ((upTo 4).map fun j => slice (s.reg (0x201b0 + 4 * j)).toNat 7 0)

theorem State.applyPll_takes {s : State} (h : s.pll5Ok = true) : bit (s.applyPll.rd F.CLK_STAT_LOCKED) 5 = false ∧
    s.applyPll.pwr.pll5 = pll5Offs.map fun o => s.reg o &&& 0x7fffffff := by
  have htaken : s.applyPll = (s.withPwr { s.pwr with pll5 := pll5Offs.map fun o => s.reg o &&& 0x7fffffff, pll5At := none }).wr
      F.CLK_STAT_LOCKED (setBitTo (s.rd F.CLK_STAT_LOCKED) 5 false) := if_pos h
  rw [htaken, State.wr_pwr]
  exact ⟨State.bit_rd_wr _ clkLocked_ok (by decide) false, rfl⟩

theorem State.applyPll_refuses {s : State} (h : s.pll5Ok = false) : bit (s.applyPll.rd F.CLK_STAT_CFG_ERR) 5 = true ∧
    s.applyPll.rd (F.CLK_PLL_CFG_APPLY 5) = 0 ∧ Pends s.applyPll Ev.CLK_CFG_ERR := by
  have hrefused : s.applyPll = ((s.wr F.CLK_STAT_CFG_ERR (setBitTo (s.rd F.CLK_STAT_CFG_ERR) 5 true)).wr
      (F.CLK_PLL_CFG_APPLY 5) 0).raise Ev.CLK_CFG_ERR := if_neg (Bool.eq_false_iff.1 h)
  rw [hrefused]
  refine ⟨?_, ?_, State.rd_raise_self _ _⟩
  · rw [State.rd_raise_out _ _ (by decide), State.rd_wr_other _ _ _ _ (by decide)]
    exact s.bit_rd_wr ⟨by decide, by decide⟩ (by decide) true
  · rw [State.rd_raise_out _ _ (by decide)]
    exact State.rd_wr_fit _ _ _ (by decide) (by decide)

/-! ### The statement about the levels, the supply and the PLLs -/

/-- A level is in force: PWR_STAT and the sectors' codes show it. -/
abbrev LevelShown (u : State) (p : Nat) : Prop :=
  u.rd F.PWR_STAT_PERF = p ∧ ∀ k, k < 16 → (u.reg (0xa00010 + 0x10000 * k)).toNat = assistWord p

@[simp] theorem State.setPerf_reg (s : State) (c : Option PerfChange) (o : Nat) : (s.setPerf c).reg o = s.reg o := (rfl)

/-- The switch of a level for which PLL0 relocks (R356). -/
def State.relocking (s : State) (c : PerfChange) : State :=
  ((s.applyLevel c.target).setPerf (some { c with phase := .relock })).wr F.CLK_STAT_LOCKED
    (setBitTo ((s.applyLevel c.target).rd F.CLK_STAT_LOCKED) 0 false)

theorem State.relocking_shows (s : State) {c : PerfChange} (ht : c.target < 4) : LevelShown (s.relocking c) c.target ∧
    (s.relocking c).pwr.perf = some { c with phase := .relock } ∧ bit ((s.relocking c).rd F.CLK_STAT_LOCKED) 0 = false := by
  have hlock := State.bit_rd_wr ((s.applyLevel c.target).setPerf (some { c with phase := .relock })) clkLocked_ok
    (i := 0) (by decide) false
  rw [State.setPerf_rd] at hlock
  refine ⟨⟨?_, fun k hk => ?_⟩, ?_, hlock⟩
  · rw [State.relocking, State.rd_wr_other _ _ _ _ (by decide), State.setPerf_rd, s.applyLevel_perf ht]
  · rw [State.relocking, State.reg_wr_ne _ _ (by simp only [F.CLK_STAT_LOCKED]; omega), State.setPerf_reg,
      s.applyLevel_assist c.target hk]
  · rw [State.relocking, State.wr_pwr, State.setPerf_pwr]

/-- The switch of a level after which the step clock goes on at once (R355). -/
theorem State.restartClock_level (s : State) {c : PerfChange} (ht : c.target < 4) :
    LevelShown ((s.applyLevel c.target).restartClock c) c.target := by
  refine ⟨?_, fun k hk => ?_⟩
  · rw [State.restartClock_rd _ _ (by decide) (by decide) (by decide), s.applyLevel_perf ht]
  · rw [State.restartClock_reg _ _ (by omega) (by omega), s.applyLevel_assist c.target hk]

theorem State.restartClock_lowers (s : State) {c : PerfChange} (h : c.old ≤ c.target) :
    (∃ y, ((s.applyLevel c.target).restartClock c).pwr.perf = some y ∧ y.target = c.target ∧ y.phase = .lowering) ∧
      ((s.applyLevel c.target).restartClock c).pwr.target = s.targetMv c.target ∧
      ∃ l : List Output, ((s.applyLevel c.target).restartClock c).out =
        l ++ [s.avsOut 0x21 (Config.voutWord (s.targetMv c.target)).toNat] := by
  have htarget : (s.applyLevel c.target).targetMv c.target = s.targetMv c.target :=
    State.targetMv_congr (congrArg F.PWR_AVS_TRIM_TRIM.of (s.applyLevel_reg _ (by decide) (by decide))) _
  obtain ⟨hpwr, hout⟩ := (s.applyLevel c.target).restartClock_slower h
  rw [hpwr, hout, htarget, State.avsOut_congr (s.applyLevel_reg _ (by decide) (by decide))]
  exact ⟨⟨_, rfl, rfl, rfl⟩, rfl, _, rfl⟩

/-- What the loss of a lock leaves, whatever its record's class (R377, R387). -/
theorem State.pllUnlocked_shows (s : State) (k : Fin 8) :
    (bit (((s.unlockShown k).pllFault k).rd F.CLK_STAT_LOCKED) k = false ∧
        bit (((s.unlockShown k).pllFault k).rd F.CLK_STAT_UNLOCK) k = true) ∧
      (∀ j, j < 8 → j ≠ k.val → bit (((s.unlockShown k).pllFault k).rd F.CLK_STAT_LOCKED) j = bit (s.rd F.CLK_STAT_LOCKED) j) ∧
      Counted s ((s.unlockShown k).pllFault k) F.CLK_UNLOCK_CNT_COUNT ∧
      Pends ((s.unlockShown k).pllFault k) (Ev.CLK_UNLOCK k) := by
  rw [Counted, State.pllFault_rd _ _ rfl, State.pllFault_rd _ _ rfl, State.pllFault_rd _ _ rfl]
  refine ⟨⟨?_, s.unlockShown_unlock k.isLt⟩, fun j hj hne => ?_, s.unlockShown_counted, State.pllFault_rises _ _ _ s.unlockShown_pends⟩
  · rw [s.unlockShown_locked k.isLt k.isLt, decide_eq_false (by simp), Bool.false_and]
  · rw [s.unlockShown_locked k.isLt hj, decide_eq_true hne, Bool.true_and]

end Sys2Proof.Machine

namespace Sys2Proof.Machine

/-! ### The end of a command's clock -/

/-- `u` is `t`, but for the list of the messages sent in the clock (R284). -/
def Clocked (t u : State) : Prop := ∃ p, u = t.withPcie p

/-- What holds of every state that a command leaves, whatever its list of sent messages. -/
theorem Runs.of_clocked {c : Instr} {s t : State} {P : State → Prop} (h : exec c s = .next (s.endClock t))
    (hP : ∀ u, Clocked t u → P u) : Runs c s P := ⟨_, h, hP _ ⟨_, rfl⟩⟩

section
variable {t u : State} (h : Clocked t u)
include h

theorem Clocked.leaves : Leaves (2 ^ Part.pcie.ctorIdx) t u := by
  obtain ⟨p, rfl⟩ := h
  exact (Leaves.refl _ t).upd_pcie (by decide)

theorem Clocked.reg (o : Nat) : u.reg o = t.reg o := by obtain ⟨p, rfl⟩ := h; rfl
theorem Clocked.rd (f : Fld) : u.rd f = t.rd f := congrArg f.of (h.reg _)
theorem Clocked.on (f : Fld) : u.on f = t.on f := congrArg (· != 0) (h.rd f)
theorem Clocked.pwr : u.pwr = t.pwr := h.leaves.same .pwr (by decide)
theorem Clocked.out : u.out = t.out := h.leaves.same .out (by decide)
theorem Clocked.mbx : u.mbx = t.mbx := h.leaves.same .mbx (by decide)
theorem Clocked.flt : u.flt = t.flt := h.leaves.same .flt (by decide)
theorem Clocked.gafs : u.gafs = t.gafs := h.leaves.same .gafs (by decide)
theorem Clocked.gaf (n : Nat) : u.gaf n = t.gaf n := congrArg (Tab.get (fun _ => Gaffer.init) · n) h.gafs
theorem Clocked.run (n : Nat) : u.run n = t.run n := h.rd _

theorem Clocked.pends {e : Nat} (k : Pends t e) : Pends u e := (h.rd _).trans k
theorem Clocked.counted {s : State} {f : Fld} (k : Counted s t f) : Counted s u f := (h.rd _).trans k

theorem Clocked.completed {s : State} {c : MbxCmd} {status result : Nat} (k : Completed s t c status result) :
    Completed s u c status result := by
  simpa only [Completed, h.rd, h.reg] using k

end

/-! ### Beginning a change of level -/

/-- The state in which a change has been accepted and shows that it is under way (R354). -/
def State.changeBegun (s : State) (c : MbxCmd) : State := (s.startShort c).wr F.PWR_STAT_PERF_BUSY 1

theorem State.pmbus_avsOut (s : State) (c d cmd data : Nat) : (s.pmbus c d).avsOut cmd data = s.avsOut cmd data :=
  (rfl)

theorem State.setPerf_avsOut (s : State) (c : Option PerfChange) (cmd data : Nat) : (s.setPerf c).avsOut cmd data = s.avsOut cmd data :=
  (rfl)

section
variable (s : State) (c : MbxCmd)

theorem State.changeBegun_eq : (s.startShort c).wr F.PWR_STAT_PERF_BUSY 1 = s.changeBegun c := (rfl)

theorem State.changeBegun_busy : (s.changeBegun c).rd F.PWR_STAT_PERF_BUSY = 1 := State.rd_wr_fit _ _ _ (by decide) (by decide)

theorem State.changeBegun_perf : (s.changeBegun c).rd F.PWR_STAT_PERF = s.rd F.PWR_STAT_PERF :=
  State.rd_wr_other (s.startShort c) _ _ _ (by decide)

theorem State.changeBegun_avs (cmd data : Nat) : (s.changeBegun c).avsOut cmd data = s.avsOut cmd data :=
  State.avsOut_congr (State.reg_wr_ne (s.startShort c) _ (by decide)) _ _

theorem State.changeBegun_out : (s.changeBegun c).out = s.out := State.wr_out _ _ _
theorem State.changeBegun_pwr : (s.changeBegun c).pwr = s.pwr := State.wr_pwr _ _ _
theorem State.changeBegun_mbx : (s.changeBegun c).mbx.shortRun = some c := congrArg Mailbox.shortRun (State.wr_mbx (s.startShort c) _ _)

end

theorem State.relocking_eq (s : State) (c : PerfChange) : ((s.applyLevel c.target).setPerf (some { c with phase := .relock })).wr
    F.CLK_STAT_LOCKED (setBitTo ((s.applyLevel c.target).rd F.CLK_STAT_LOCKED) 0 false) = s.relocking c := (rfl)

/-- Settles O47: the command and its switch, the supply's readings and failures, the locks, and APPLY, each by what its
operation shows. -/
theorem perfLevels : Obligations.PerfLevels := by
  unfold Obligations.PerfLevels
  refine ⟨fun s c old hl hn hz hlt hold hne hq => ?setPerfLevel, fun s c hl hn hseen hz hlt hsame => ?setPerfLevelSame,
    fun s c hl hc hw ht hg => ?perfSwitchWindow, fun s c hl hc h => ?perfWindowWaits,
    fun s mv c hl hs hc hp => ?supplySettled, fun s mv c hl hs hc hp => ?supplySettledDone, fun s mv hl hs => ?supplyUnsettled,
    fun s again c hl hc hp hs => ?supplySettleTimeout, fun s again hl hs h => ?supplyTimeoutOther,
    fun s again hl hs => ?supplyTimeoutSettled, fun s c hl hc hp => ?supplyReadFails, fun s hl h => ?supplyReadFailsOther,
    fun s hl => ?pmbAlert, fun s k hl h => ?pllLock, fun s k hl h => ?pllLockedAlready, fun s k hl h => ?pllUnlock,
    fun s k hl h => ?pllUnlockedAlready, fun s p v x hl hp hx => ?apply⟩
  case setPerfLevel =>
    subst hold
    refine .of_clocked (exec_setPerfLevel_change hl hn hz hlt hne hq) fun u hu => ?_
    by_cases hfast : c.byte 4 < s.rd F.PWR_STAT_PERF
    · rw [if_pos hfast, s.changeBegun_eq] at hu
      simp only [if_pos hfast, hu.rd, hu.pwr, hu.out, hu.mbx, State.commandMv_rd, State.setPerf_rd, State.commandMv_pwr,
        State.setPerf_pwr, State.commandMv_mbx, State.setPerf_mbx, State.commandMv_out, State.setPerf_out, State.setPerf_avsOut,
        s.changeBegun_out, s.changeBegun_avs]
      exact ⟨s.changeBegun_busy c, s.changeBegun_perf c, trivial, rfl, trivial, s.changeBegun_mbx c⟩
    · rw [if_neg hfast, s.changeBegun_eq] at hu
      simp only [if_neg hfast, hu.rd, hu.pwr, hu.out, hu.mbx, State.setPerf_rd, State.setPerf_pwr, State.setPerf_mbx,
        State.setPerf_out]
      exact ⟨s.changeBegun_busy c, s.changeBegun_perf c, trivial, s.changeBegun_out c, congrArg PwrState.target (s.changeBegun_pwr c),
        s.changeBegun_mbx c⟩
  case setPerfLevelSame =>
    have hrun : (s.startShort c).mbx.shortRun = some c := rfl
    refine .of_clocked (exec_setPerfLevel_same hl hn hz hlt hsame) fun u hu => ⟨hu.completed ?_, ?_, ?_⟩
    · exact Completed.congr (s.withMbx_rd _ _) (completed_endShort hrun hseen (by decide) _)
    · rw [hu.pwr, State.endShort_pwr, State.startShort, State.withMbx_pwr]
    · rw [hu.rd, State.rd_endShort_out _ _ _ (by decide), State.startShort, State.withMbx_rd]
  case perfSwitchWindow =>
    refine .of_clocked (exec_perfSwitchWindow hl hc hw hg) fun u hu => ?_
    simp only [hu.rd, hu.reg, hu.pwr, hu.out, Pends]
    cases hr : relocks c.old c.target with
    | true =>
      obtain ⟨⟨hperf, hassist⟩, hrelock, hlock⟩ := s.relocking_shows ht
      rw [if_pos rfl, s.relocking_eq]
      exact ⟨hperf, hassist, fun _ => ⟨hrelock, hlock⟩, nofun, nofun⟩
    | false =>
      obtain ⟨hperf, hassist⟩ := s.restartClock_level ht
      rw [if_neg (by decide)]
      exact ⟨hperf, hassist, nofun, fun _ h => State.restartClock_faster _ h, fun _ h => s.restartClock_lowers h⟩
  case perfWindowWaits =>
    exact .of (exec_perfSwitchWindow_waits hl hc (h.imp_right fun h => ⟨3, by decide, h⟩)) rfl
  case supplySettled =>
    refine .of_clocked (exec_supplySettled hl mv) fun u hu => ?_
    rw [State.takeReading_settled hs hc, if_pos hp] at hu
    rw [hu.rd, hu.pwr, hu.out, State.setPerf_rd, s.readVout_mv, State.setPerf_pwr, State.setPerf_out, s.readVout_out]
    exact ⟨rfl, rfl, rfl⟩
  case supplySettledDone =>
    refine .of_clocked (exec_supplySettled hl mv) fun u hu => ?_
    rw [State.takeReading_settled hs hc, if_neg (by rw [hp]; decide), if_pos hp] at hu
    rw [hu.rd, hu.pwr, hu.rd, State.endPerf_rd _ _ (by decide) (by decide), s.readVout_mv, State.endPerf_pwr, State.endPerf_busy]
    refine ⟨rfl, rfl, rfl, hu.pends (State.endPerf_done_pends _), fun y hy hseen => hu.completed ?_⟩
    have hcompleted := completed_endPerf (s := s.readVout mv.toNat) ((s.readVout_mbx _).symm ▸ hy) hseen true
    rw [s.readVout_rd _ (f := F.PWR_STAT_PERF) (by decide)] at hcompleted
    exact Completed.congr (s.readVout_rd _ (by decide)) hcompleted
  case supplyUnsettled =>
    refine .of_clocked (exec_supplySettled hl mv) fun u hu => ?_
    rw [State.takeReading_unsettled hs] at hu
    rw [hu.rd, hu.pwr, hu.out, s.readVout_mv, s.readVout_pwr, s.readVout_out]
    exact ⟨rfl, rfl, rfl⟩
  case supplySettleTimeout =>
    obtain ⟨hpwr, hflags, hout, hcount, -, hperf, hpends, hdone⟩ := State.supplyFails_shows hc hp again
    refine .of_clocked (exec_supplySettleTimeout hl hs again) fun u hu => ?_
    simp only [hu.rd, hu.pwr, hu.out, hpwr, Pends]
    exact ⟨trivial, hflags, trivial, hout, hcount, hperf, hpends, fun y hy hseen => hu.completed (hdone y hy hseen)⟩
  case supplyTimeoutOther =>
    refine .of_clocked (exec_supplySettleTimeout hl hs again) fun u hu => ?_
    rw [State.supplyFails_other again h] at hu
    exact ⟨hu.pwr.trans s.pmbusErr_pwr, hu.counted s.pmbusErr_counted, (hu.rd _).trans s.pmbusErr_flag, hu.pends s.pmbusErr_pends⟩
  case supplyTimeoutSettled => exact .of (exec_supplySettleTimeout_settled hl hs again) rfl
  case supplyReadFails =>
    obtain ⟨hpwr, hflags, hout, hcount, hvout, hperf, hpends, -⟩ := State.supplyFails_shows hc hp false
    refine .of_clocked (exec_supplySettled_none hl) fun u hu => ?_
    simp only [hu.rd, hu.pwr, hu.out, hpwr, Pends, Counted]
    exact ⟨trivial, hflags, trivial, hout, hcount, hvout, hperf, hpends⟩
  case supplyReadFailsOther =>
    refine .of_clocked (exec_supplySettled_none hl) fun u hu => ?_
    rw [State.supplyFails_other false h] at hu
    exact ⟨hu.pwr.trans s.pmbusErr_pwr, hu.counted s.pmbusErr_counted, (hu.rd _).trans s.pmbusErr_flag, hu.pends s.pmbusErr_pends⟩
  case pmbAlert =>
    obtain ⟨l, hout⟩ := ((s.pmbus 0x79 0).pmbus 0x03 0).pmbusErr_emits
    have hcount := ((s.pmbus 0x79 0).pmbus 0x03 0).pmbusErr_counted
    rw [Counted, State.pmbus_rd, State.pmbus_rd] at hcount
    refine .of_clocked (exec_pmbAlert hl) fun u hu => ⟨⟨l, ?_⟩, hu.counted hcount,
      (hu.rd _).trans (State.pmbusErr_flag _), hu.pends (State.pmbusErr_pends _)⟩
    rw [hu.out, ← hout, State.pmbus_out, State.pmbus_out, State.pmbus_avsOut, List.append_assoc, List.append_assoc]
    rfl
  case pllLock =>
    by_cases h5 : k = 5
    · subst h5
      obtain ⟨hshown, hothers, hpend⟩ := s.lockShown_shows 5 (State.pll5Locked_locked _) (State.pll5Locked_rises _)
      refine .of_clocked (exec_pllLock_five hl h) fun u hu => ?_
      simp only [hu.rd, hu.pwr, Pends]
      exact ⟨hshown, hothers, hpend, fun _ => State.pll5Locked_apply _, fun h0 => absurd h0 (by decide)⟩
    by_cases h0 : ∃ c, k = 0 ∧ s.pwr.perf = some c ∧ c.phase = .relock
    · obtain ⟨c, rfl, hc, hp⟩ := h0
      have hkept := State.restartClock_rd (s.lockShown 0) c (f := F.CLK_STAT_LOCKED) (by decide) (by decide) (by decide)
      obtain ⟨hshown, hothers, hpend⟩ := s.lockShown_shows 0 hkept (State.restartClock_rises _ c)
      refine .of_clocked (exec_pllLock_relock hl h hc hp) fun u hu => ?_
      simp only [hu.rd, hu.pwr, Pends]
      refine ⟨hshown, hothers, hpend, fun h => absurd h (by decide), fun _ y hy _ => ?_⟩
      obtain rfl : c = y := Option.some.inj (hc.symm.trans hy)
      split
      · next hfast =>
        obtain ⟨hnone, -, hdone⟩ := State.restartClock_faster (s.lockShown 0) hfast
        exact ⟨hnone, hdone⟩
      · next hslow =>
        obtain ⟨hpwr, -⟩ := State.restartClock_slower (s.lockShown 0) (Nat.le_of_not_lt hslow)
        exact ⟨_, congrArg PwrState.perf hpwr, rfl, rfl⟩
    · obtain ⟨hshown, hothers, hpend⟩ := s.lockShown_shows k rfl (.refl _)
      have hwait : k = 0 → ∀ c, s.pwr.perf = some c → c.phase ≠ .relock := fun hk c hc hp => h0 ⟨c, hk, hc, hp⟩
      refine .of_clocked (exec_pllLock hl k h h5 hwait) fun u hu => ?_
      simp only [hu.rd, hu.pwr, Pends]
      exact ⟨hshown, hothers, hpend, fun h => absurd h h5, fun hk c hc hp => absurd hp (hwait hk c hc)⟩
  case pllLockedAlready => exact .of (exec_pllLock_already hl k h) rfl
  case pllUnlock =>
    obtain ⟨⟨hlock, hunlock⟩, hothers, hcount, hpend⟩ := s.pllUnlocked_shows k
    refine .of_clocked (exec_pllUnlock hl h) fun u hu => ?_
    simp only [hu.rd, hu.flt, hu.run, Pends, Counted]
    refine ⟨⟨hlock, hunlock⟩, hothers, hcount, hpend, fun hk hs => ?_, fun hk hf hs n hn h2 h4 hp hfence => ?_, fun hk => ?_⟩
    · exact State.pllFault_f1 ((s.unlockShown_safe k).trans hs) hk
    · have h0 : k.val = 0 := congrArg Fin.val hk
      rw [h0]
      exact State.pllUnlock_fences hn hf hs ⟨h2, h4⟩ hp hfence
    · rw [← (s.unlockShown_leaf k).rd_out (f := F.FLT_F3_CNT_COUNT) (by decide)]
      exact State.pllFault_f3 _ hk
  case pllUnlockedAlready => exact .of (exec_pllUnlock_already hl k h) rfl
  case apply =>
    subst hx
    refine .of_clocked (exec_apply hl hp v) fun u hu => ?_
    simp only [hu.rd, hu.pwr, Pends]
    exact ⟨State.applyPll_takes, State.applyPll_refuses⟩

end Sys2Proof.Machine

namespace Sys2Proof.Machine

/-! ### What a list of operations leaves of one observation -/

section
variable {α β : Type} (v : State → β) {l : List α} {f : α → State → State}

/-- An observation that no element's operation changes. -/
theorem forEach_obs_out (h : ∀ b ∈ l, ∀ s, v (f b s) = v s) (s : State) : v (forEach l f s) = v s := by
  unfold forEach
  induction l generalizing s with
  | nil => rfl
  | cons b l ih => exact (ih (fun c hc => h c (.tail _ hc)) _).trans (h b (.head _) s)

/-- An observation that one element's operation changes, once, and no other's. -/
theorem forEach_obs_in {g : β → β} (hn : l.Nodup) {a : α} (ha : a ∈ l) (hout : ∀ b ∈ l, b ≠ a → ∀ s, v (f b s) = v s)
    (hin : ∀ s, v (f a s) = g (v s)) (s : State) : v (forEach l f s) = g (v s) := by
  obtain ⟨l₁, l₂, rfl⟩ := List.append_of_mem ha
  obtain ⟨hne₁, hne₂⟩ : (∀ b ∈ l₁, b ≠ a) ∧ ∀ b ∈ l₂, b ≠ a := by
    rw [List.nodup_append, List.nodup_cons] at hn
    obtain ⟨-, ⟨ha₂, -⟩, hapart⟩ := hn
    exact ⟨fun b hb => hapart b hb a (.head _), fun b hb h => ha₂ (h ▸ hb)⟩
  have hsplit : forEach (l₁ ++ a :: l₂) f s = forEach l₂ f (f a (forEach l₁ f s)) := by
    unfold forEach
    rw [List.foldl_append, List.foldl_cons]
  rw [hsplit, forEach_obs_out v fun b hb => hout b (by simp [hb]) (hne₂ b hb), hin,
    forEach_obs_out v fun b hb => hout b (by simp [hb]) (hne₁ b hb)]

/-- What one element's operation brings about and every operation keeps. -/
theorem forEach_reaches {p : State → Prop} {a : α} (ha : a ∈ l) (hstay : ∀ b ∈ l, ∀ s, p s → p (f b s))
    (hin : ∀ s, p (f a s)) (s : State) : p (forEach l f s) := by
  have hkeep : ∀ {l : List α}, (∀ b ∈ l, ∀ s, p s → p (f b s)) → ∀ s, p s → p (forEach l f s) := by
    intro l h s hs
    unfold forEach
    induction l generalizing s with
    | nil => exact hs
    | cons b l ih => exact ih (fun c hc => h c (.tail _ hc)) _ (h b (.head _) s hs)
  obtain ⟨l₁, l₂, rfl⟩ := List.append_of_mem ha
  have hsplit : forEach (l₁ ++ a :: l₂) f s = forEach l₂ f (f a (forEach l₁ f s)) := by
    unfold forEach
    rw [List.foldl_append, List.foldl_cons]
  rw [hsplit]
  exact hkeep (fun b hb => hstay b (by simp [hb])) _ (hin _)

end

/-! ### Counters along a list (R438) -/

/-- One occurrence more in a counter, which stops at its largest value. -/
def countUp (x : Nat) : Nat := min 0xffffffff (x + 1)

theorem State.rd_bump_countUp (s : State) (f : Fld) (h : f.hi = 31 ∧ f.lo = 0) : (s.bump f).rd f = countUp (s.rd f) := s.rd_bump f h

theorem counted_of_countUp {s u : State} {f : Fld} (h : u.rd f = countUp (s.rd f)) : Counted s u f := h

/-! ### The tiles of a region (R37) -/

theorem State.regionTiles_nodup (s : State) (n : Nat) : (s.regionTiles n).Nodup := List.nodup_range.filter _

theorem State.mem_regionTiles {s : State} {n t : Nat} : t ∈ s.regionTiles n ↔ t < 128 ∧ s.inRegion n (t / 8) = true := by
  rw [State.regionTiles, List.mem_filter, upTo, List.mem_range]

theorem State.regionTiles_lt {s : State} {n t : Nat} (h : t ∈ s.regionTiles n) : t < 128 := (State.mem_regionTiles.1 h).1

section
variable {m : Nat} {s t : State} (h : Leaves m s t) (hm : m.testBit Part.secRegs.ctorIdx = false)
include h hm

/-- The sectors' registers say which tiles a region has. -/
theorem Leaves.inRegion (n c : Nat) : t.inRegion n c = s.inRegion n c := by
  have hpart : regPart (F.SEC_CTRL_ASSIGNED c).off = .secRegs :=
    regPart_secRegs (by simp only [F.SEC_CTRL_ASSIGNED]; omega) (by simp only [F.SEC_CTRL_ASSIGNED]; omega)
  rw [State.inRegion, State.inRegion, h.on hpart (by decide) hm, h.rd (f := F.SEC_CTRL_REGION c) hpart (by decide) hm]

theorem Leaves.regionTiles (n : Nat) : t.regionTiles n = s.regionTiles n := by
  simp only [State.regionTiles, h.inRegion hm]

end

/-! ### Faults leave the tiles' registers but the tags in use (R132, R392) -/

theorem State.staleTile_mpu (s : State) (t : Nat) {o : Nat} (ho : o % 0x10000 ≠ 0x1004) : (s.staleTile t).reg o = s.reg o := by
  have hne : o ≠ (F.MPU_MP_STAT_TAGS_USED t).off := fun h => ho (by rw [h]; simp only [F.MPU_MP_STAT_TAGS_USED]; omega)
  rw [State.staleTile, State.setReqs, State.reg_wr_ne _ _ hne]
  rfl

section
variable (s : State) {o : Nat} (hp : regPart o = .mpuRegs) (ho : o % 0x10000 ≠ 0x1004)
include hp ho

theorem State.haltRest_mpu (n : Nat) : (s.haltRest n).reg o = s.reg o := by
  rw [State.haltRest, (State.evalRegion_leaves (.refl 0x10041990080000002012 _) rfl n).reg (by rw [hp]; decide),
    forEach_obs_out (State.reg · o) fun t _ u => u.staleTile_mpu t ho]
  exact (State.raise_leaves (.refl 0x10001990080000002010 s) rfl _).reg (by rw [hp]; decide)

theorem State.halted_mpu (n code cause : Nat) : (s.halted n code cause).reg o = s.reg o := by
  rw [State.halted_eq, State.haltRest_mpu _ hp ho]
  exact (s.haltGaf_leaf n code cause).reg (by rw [hp]; decide)

theorem State.enterFenced_mpu (n cause source : Nat) : (s.enterFenced n cause source).reg o = s.reg o := by
  have hne : ∀ f : Fld, regPart f.off = .fltRegs → o ≠ f.off := fun f hf h => by
    rw [h, hf] at hp
    cases hp
  have hhalted : ((s.setGaf n { s.gaf n with waking := none }).halted n 5 cause).reg o = s.reg o :=
    State.halted_mpu (s.setGaf n { s.gaf n with waking := none }) hp ho n 5 cause
  unfold State.enterFenced
  dsimp only
  generalize (s.setGaf n { s.gaf n with waking := none }).halted n 5 cause = t at *
  have hrecord : ∀ a b c : Nat, (((t.wr F.FLT_STAT_FENCED a).wr (F.FLT_FENCE_LAST_SOURCE n) b).wr (F.FLT_FENCE_COUNT n)
      c).reg o = s.reg o := fun a b c => by
    rw [State.reg_wr_ne _ _ (hne _ (F.FLT_FENCE_COUNT_part n)), State.reg_wr_ne _ _ (hne _ (F.FLT_FENCE_LAST_SOURCE_part n)),
      State.reg_wr_ne _ _ (hne _ F.FLT_STAT_FENCED_part), hhalted]
  split
  · rw [(State.startFailed_leaves (.refl 0x110019d0080000102010 _) rfl n).reg (by rw [hp]; decide), hrecord]
  · exact hrecord _ _ _

theorem State.fence_mpu (n cause source : Nat) : (s.fence n cause source).reg o = s.reg o := by
  unfold State.fence
  dsimp only
  split
  · rfl
  · split
    · exact s.halted_mpu hp ho n 0 6
    · split
      · exact s.enterFenced_mpu hp ho n cause source
      · rfl

theorem State.fault2_mpu (n src detail cause : Nat) : (s.fault2 n src detail cause).reg o = s.reg o := by
  have hreport : (s.report src detail (some n)).reg o = s.reg o :=
    (State.report_leaves (.refl 0x10021990080000002018 s) rfl _ _ _).reg (by rw [hp]; decide)
  unfold State.fault2
  dsimp only
  split
  · exact hreport
  · rw [State.fence_mpu _ hp ho, hreport]

end

end Sys2Proof.Machine

namespace Sys2Proof.Machine

/-! ### The records that the masks name -/

/-- One part of a step after another, each with its own mask. -/
theorem Leaves.comp {m k : Nat} {s t u : State} (h : Leaves m s t) (h' : Leaves k t u) : Leaves (m ||| k) s u := by
  have hbits : ∀ p : Part, (m ||| k).testBit p.ctorIdx = false → m.testBit p.ctorIdx = false ∧ k.testBit p.ctorIdx = false :=
    fun p hp => by rwa [Nat.testBit_or, Bool.or_eq_false_iff] at hp
  exact ⟨fun p hp => Part.same_trans (h.same p (hbits p hp).1) (h'.same p (hbits p hp).2),
    fun hc => h'.canon (h.canon hc), Otp.grows_trans h.otp h'.otp⟩

section
variable {m : Nat} {s t : State} (h : Leaves m s t)
include h

theorem Leaves.gaf (hm : m.testBit Part.gafs.ctorIdx = false) (n : Nat) : t.gaf n = s.gaf n :=
  congrArg (Tab.get (fun _ => Gaffer.init) · n) (h.same .gafs hm)

theorem Leaves.tile (hm : m.testBit Part.tiles.ctorIdx = false) (k : Nat) : t.tile k = s.tile k :=
  congrArg (Tab.get (fun _ => Tile.init) · k) (h.same .tiles hm)

theorem Leaves.port (hm : m.testBit Part.ports.ctorIdx = false) (k : Nat) : t.port k = s.port k :=
  congrArg (Tab.get (fun _ => Port.init) · k) (h.same .ports hm)

/-- A field of a region's status outside the mask. -/
theorem Leaves.run (hm : m.testBit Part.gafRegs.ctorIdx = false) (n : Nat) : t.run n = s.run n :=
  h.rd (F.GAF_STATUS_STATE_part n) (by decide) hm

end

section
variable (s : State)

@[simp] theorem State.gaf_setPhase (n : Nat) (p : Phase) : (s.setPhase n p).gaf n = { s.gaf n with phase := p } := s.gaf_setGaf n _

@[simp] theorem State.gaf_wr64 (lo v n : Nat) : (s.wr64 lo v).gaf n = s.gaf n := (rfl)

@[simp] theorem State.tile_setTile (t : Nat) (x : Tile) : (s.setTile t x).tile t = x := Tab.get_set_same _ _ _ _

theorem State.tile_setTile_ne {t k : Nat} (x : Tile) (h : k ≠ t) : (s.setTile t x).tile k = s.tile k := Tab.get_set_ne _ _ _ h

@[simp] theorem State.port_setPort (t : Nat) (x : Port) : (s.setPort t x).port t = x := Tab.get_set_same _ _ _ _

theorem State.port_setPort_ne {t k : Nat} (x : Port) (h : k ≠ t) : (s.setPort t x).port k = s.port k := Tab.get_set_ne _ _ _ h

/-- A gaffer's record is none of its registers. -/
theorem State.setPhase_leaf (n : Nat) (p : Phase) : Leaves 0x4000000000 s (s.setPhase n p) := State.setPhase_leaves (.refl _ s) rfl n p

end

/-! ### b16 (R49, R101, R355) -/

section
variable {s : State} {n : Fin 16} (hl : s.live = true) (hp : (s.gaf n).phase = .b12)
include hl hp

theorem exec_windowFix_shows {c : Cycle} (hc : (s.gaf n).next = some c) (hfix : (s.gaf n).nextFixed = true)
    (hw : s.windowOpen = false) :
    exec (.windowFix n) s = .next (s.endClock ((s.setPhase n .b16).wr (F.GAF_STATUS_WIN n) (b2n c.win))) := by
  simp only [exec, execWindowFix, act_live hl, hp, if_true, hc, hfix, hw, Bool.not_true, Bool.false_eq_true, if_false]

theorem exec_windowFix_unfixes {c : Cycle} (hc : (s.gaf n).next = some c) (hfix : (s.gaf n).nextFixed = true)
    (hw : s.windowOpen = true) :
    exec (.windowFix n) s = .next (s.endClock ((s.setPhase n .b16).setGaf n { (s.setPhase n .b16).gaf n with
      nextFixed := false, overrunSeen := (s.gaf n).overrunSeen || (s.gaf n).nextOps.overrun })) := by
  simp only [exec, execWindowFix, act_live hl, hp, if_true, hc, hfix, hw, Bool.not_true, Bool.false_eq_true, if_false]

theorem exec_windowFix_passes (h : (s.gaf n).next = none ∨ (s.gaf n).nextFixed = false) :
    exec (.windowFix n) s = .next (s.endClock (s.setPhase n .b16)) := by
  cases hc : (s.gaf n).next with
  | none => simp only [exec, execWindowFix, act_live hl, hp, if_true, hc]
  | some c =>
    have hfix : (s.gaf n).nextFixed = false := h.resolve_left (by simp [hc])
    simp only [exec, execWindowFix, act_live hl, hp, if_true, hc, hfix, Bool.not_false]

theorem windowFix_fixes : Runs (.windowFix n) s fun u =>
    (u.gaf n).phase = .b16 ∧
    (∀ c, (s.gaf n).next = some c → (s.gaf n).nextFixed = true → s.windowOpen = false → u.rd (F.GAF_STATUS_WIN n) = b2n c.win) ∧
    (s.windowOpen = true → (s.gaf n).next ≠ none → (u.gaf n).nextFixed = false) := by
  by_cases h : (s.gaf n).next = none ∨ (s.gaf n).nextFixed = false
  · refine Runs.of_clocked (exec_windowFix_passes hl hp h) fun u hu => ?_
    rw [hu.gaf, State.gaf_setPhase]
    refine ⟨rfl, fun c hc hfix => ?_, fun _ hnext => h.resolve_left hnext⟩
    simp [hc, hfix] at h
  · obtain ⟨hnext, hfix⟩ := not_or.1 h
    obtain ⟨c, hc⟩ := Option.ne_none_iff_exists'.1 hnext
    rw [Bool.not_eq_false] at hfix
    cases hw : s.windowOpen with
    | false =>
      refine Runs.of_clocked (exec_windowFix_shows hl hp hc hfix hw) fun u hu => ?_
      rw [hu.gaf, hu.rd, State.gaf_wr, State.gaf_setPhase]
      refine ⟨rfl, fun d hd _ _ => ?_, fun hopen => absurd hopen (by decide)⟩
      obtain rfl : c = d := Option.some.inj (hc.symm.trans hd)
      rw [State.rd_wr_mod _ _ rfl]
      cases c.win <;> rfl
    | true =>
      refine Runs.of_clocked (exec_windowFix_unfixes hl hp hc hfix hw) fun u hu => ?_
      rw [hu.gaf, State.gaf_setGaf, State.gaf_setPhase]
      exact ⟨rfl, fun _ _ _ hclosed => absurd hclosed (by decide), fun _ _ => rfl⟩

end

/-! ### The step after b23 (R101, R105, R107) -/

section
variable {s : State} {n : Fin 16} (hl : s.live = true) (hp : (s.gaf n).phase = .b16)
include hl hp

theorem exec_cycleEnd : exec (.cycleEnd n) s = .next (s.endClock (s.afterCycle n).serveDm) := by
  simp only [exec, execCycleEnd, act_live hl, hp, if_true]

/-- What follows a cycle shows through the answers to the debug window (R433). -/
theorem Runs.cycleEnd {P : State → Prop} (h : ∀ u, Leaves 0x13000080000000000000 (s.afterCycle n) u → P u) :
    Runs (.cycleEnd n) s P :=
  Runs.of_clocked (exec_cycleEnd hl hp) fun u hu => h u (by
    have := (State.serveDm_leaves (.refl 0x13000080000000000000 (s.afterCycle n)) rfl).step (hu.leaves) (by decide)
    exact this)

end

section
variable {s : State} {n : Nat}

theorem State.afterCycle_fence {cause src : Nat} (hf : (s.gaf n).fence = some (cause, src)) (hr : (s.gaf n).restart = false) :
    s.afterCycle n = (s.enterFenced n cause src).regionDone 0x11 n 6 cause := by
  simp only [State.afterCycle, hf, hr, State.thenRestart, Bool.false_eq_true, if_false]

theorem State.afterCycle_stop {cause : Nat} (hf : (s.gaf n).fence = none) (hs : (s.gaf n).stop = some cause) :
    s.afterCycle n = (s.halted n 0 cause).regionDone 0x11 n 0 0 := by
  simp only [State.afterCycle, hf, hs]

theorem State.afterCycle_next (hf : (s.gaf n).fence = none) (hs : (s.gaf n).stop = none) (hh : (s.gaf n).haltHit = false)
    (hr : (s.gaf n).restart = false) : s.afterCycle n = s.nextCycle n := by
  simp only [State.afterCycle, hf, hs, hh, hr, Bool.false_eq_true, if_false]

theorem State.nextCycle_none (hn : (s.gaf n).next = none) : s.nextCycle n = (s.setPhase n .none).wr (F.GAF_STATUS_STATE n) 2 := by
  simp only [State.nextCycle, hn]

theorem State.nextCycle_fixed {c : Cycle} (hn : (s.gaf n).next = some c) (hfix : (s.gaf n).nextFixed = true) :
    s.nextCycle n = s.startCycle n c (s.gaf n).nextOps := by
  simp only [State.nextCycle, hn, hfix, if_true]

theorem State.nextCycle_dispatch {c : Cycle} (hn : (s.gaf n).next = some c) (hfix : (s.gaf n).nextFixed = false)
    (hw : s.windowOpen = false) : s.nextCycle n = s.dispatch n c := by
  simp only [State.nextCycle, hn, hfix, hw, Bool.false_eq_true, if_false]

end

theorem State.freshTiles_leaf (s : State) (l : List Nat) : Leaves 0x20c0000000 s (forEach l (fun t s => s.freshTile t) s) :=
  (Leaves.refl _ s).forEach fun _ _ hu => State.freshTile_leaves hu rfl _

/-- A cycle that begins shows its window and is counted (R49, R105). -/
theorem State.startCycle_shows (s : State) (n : Fin 16) (c : Cycle) (o : SpecialOps) :
    ((s.startCycle n c o).gaf n).phase = .window ∧ ((s.startCycle n c o).gaf n).cur = c ∧
      ((s.startCycle n c o).gaf n).next = none ∧ (s.startCycle n c o).rd (F.GAF_STATUS_STATE n) = 3 ∧
      (s.startCycle n c o).rd (F.GAF_STATUS_WIN n) = b2n c.win ∧
      (s.startCycle n c o).cycles n = (s.cycles n + 1) % 2 ^ 64 := by
  unfold State.startCycle
  dsimp only
  generalize hg : s.setGaf n _ = t
  have hkept : Leaves 0x4000000000 s t := hg ▸ State.setGaf_leaves (.refl _ s) rfl _ _
  generalize hst : (t.wr (F.GAF_STATUS_WIN n) (b2n c.win)).wr (F.GAF_STATUS_STATE n) 3 = v
  have hstate : v.rd (F.GAF_STATUS_STATE n) = 3 := by
    rw [← hst, State.rd_wr_mod _ _ rfl]
    rfl
  have hwin : v.rd (F.GAF_STATUS_WIN n) = b2n c.win := by
    rw [← hst, State.rd_wr_clear _ _ rfl, State.rd_wr_mod _ _ rfl]
    cases c.win <;> rfl
  have hreg : ∀ p, regPart p = .gafRegs → p ≠ 0x100004 + 0x10000 * (n.val % 16) → v.reg p = s.reg p := fun p hp hne => by
    rw [← hst, State.reg_wr_ne _ _ hne, State.reg_wr_ne _ _ hne, hkept.reg (by rw [hp]; decide)]
  have hcycles : v.cycles n = s.cycles n :=
    State.rd64_eq (hreg _ (regPart_gafRegs (by omega) (by omega) (by omega)) (by omega))
      (hreg _ (regPart_gafRegs (by omega) (by omega) (by omega)) (by omega))
  generalize hw : v.wr64 (0x100020 + 0x10000 * (n.val % 16)) (v.cycles n + 1) = w
  have hfresh := w.freshTiles_leaf (w.regionTiles n)
  have hgaf : w.gaf n = t.gaf n := by rw [← hw, State.gaf_wr64, ← hst, State.gaf_wr, State.gaf_wr]
  have hstatus : ∀ {f : Fld}, f.off = 0x100004 + 0x10000 * (n.val % 16) → w.rd f = v.rd f := fun {f} hf =>
    congrArg f.of (hw ▸ v.reg_wr64_ne _ (by omega) (by omega))
  rw [hfresh.gaf (by decide), hfresh.rd (F.GAF_STATUS_STATE_part n) (by decide) (by decide),
    hfresh.rd (F.GAF_STATUS_WIN_part n) (by decide) (by decide), hstatus rfl, hstatus rfl, hgaf, ← hg, State.gaf_setGaf]
  refine ⟨rfl, rfl, rfl, hstate, hwin, ?_⟩
  rw [State.cycles, hfresh.rd64 (by rw [regPart_gafRegs (by omega) (by omega) (by omega)]; decide)
    (by rw [regPart_gafRegs (by omega) (by omega) (by omega)]; decide), ← hw, State.rd64_wr64, hcycles]

theorem State.dispatch_shows (s : State) (n : Fin 16) (c : Cycle) :
    ((s.dispatch n c).gaf n).phase = .window ∧ ((s.dispatch n c).gaf n).cur = c ∧
      ((s.dispatch n c).gaf n).next = none ∧ (s.dispatch n c).rd (F.GAF_STATUS_STATE n) = 3 ∧
      (s.dispatch n c).rd (F.GAF_STATUS_WIN n) = b2n c.win ∧
      (s.dispatch n c).cycles n = (s.cycles n + 1) % 2 ^ 64 := by
  unfold State.dispatch
  dsimp only
  generalize ht : (s.loadLatches n).setGaf n _ = t
  have hkept : Leaves 0x6001004000 s t := ht ▸ State.setGaf_leaves (State.loadLatches_leaves (.refl _ s) rfl n) rfl _ _
  have hcycles : t.cycles n = s.cycles n :=
    hkept.rd64 (by rw [regPart_gafRegs (by omega) (by omega) (by omega)]; decide)
      (by rw [regPart_gafRegs (by omega) (by omega) (by omega)]; decide)
  rw [← hcycles]
  exact t.startCycle_shows n c _

section
variable {s : State} {n : Fin 16} (hl : s.live = true) (hp : (s.gaf n).phase = .b16)
include hl hp

theorem cycleEnd_fences {cause src : Nat} (hf : (s.gaf n).fence = some (cause, src)) (hr : (s.gaf n).restart = false) :
    Runs (.cycleEnd n) s fun u => (u.gaf n).phase = .none ∧ u.rd (F.GAF_STATUS_STATE n) = 5 ∧
      u.rd (F.GAF_STATUS_CAUSE n) = cause % 8 ∧ u.rd (F.FLT_FENCE_LAST_SOURCE n) = src % 256 ∧ (u.gaf n).queue = [] := by
  refine Runs.cycleEnd hl hp fun u hu => ?_
  rw [State.afterCycle_fence hf hr] at hu
  have hall := (State.regionDone_leaves (.refl 0x110019d0080000102010 (s.enterFenced n cause src)) rfl 0x11 n 6 cause).comp hu
  obtain ⟨hrun, hcause, hsrc, hphase, hqueue⟩ := s.enterFenced_shows n cause src
  rw [hall.gaf (by decide)]
  exact ⟨hphase, (hall.run (by decide) n).trans hrun, (hall.rd (F.GAF_STATUS_CAUSE_part n) (by decide) (by decide)).trans hcause,
    (hall.rd (F.FLT_FENCE_LAST_SOURCE_part n) (by decide) (by decide)).trans hsrc, hqueue⟩

theorem cycleEnd_stops {cause : Nat} (hf : (s.gaf n).fence = none) (hs : (s.gaf n).stop = some cause) :
    Runs (.cycleEnd n) s fun u => (u.gaf n).phase = .none ∧ u.rd (F.GAF_STATUS_STATE n) = 0 ∧
      u.rd (F.GAF_STATUS_CAUSE n) = cause % 8 ∧ (u.gaf n).queue = [] := by
  refine Runs.cycleEnd hl hp fun u hu => ?_
  rw [State.afterCycle_stop hf hs] at hu
  have hall := (State.regionDone_leaves (.refl 0x110019d0080000102010 (s.halted n 0 cause)) rfl 0x11 n 0 0).comp hu
  obtain ⟨hrun, hcause, hgaf⟩ := s.halted_shows n 0 cause
  rw [hall.gaf (by decide), hgaf]
  exact ⟨rfl, (hall.run (by decide) n).trans hrun, (hall.rd (F.GAF_STATUS_CAUSE_part n) (by decide) (by decide)).trans hcause, rfl⟩

theorem cycleEnd_arms (hf : (s.gaf n).fence = none) (hs : (s.gaf n).stop = none) (hh : (s.gaf n).haltHit = false)
    (hr : (s.gaf n).restart = false) (hn : (s.gaf n).next = none) :
    Runs (.cycleEnd n) s fun u => (u.gaf n).phase = .none ∧ u.rd (F.GAF_STATUS_STATE n) = 2 := by
  refine Runs.cycleEnd hl hp fun u hu => ?_
  rw [State.afterCycle_next hf hs hh hr, State.nextCycle_none hn] at hu
  rw [hu.gaf (by decide), hu.rd (F.GAF_STATUS_STATE_part n) (by decide) (by decide), State.gaf_wr, State.gaf_setPhase,
    State.rd_wr_mod _ _ rfl]
  exact ⟨rfl, rfl⟩

theorem cycleEnd_continues {c : Cycle} (hf : (s.gaf n).fence = none) (hs : (s.gaf n).stop = none)
    (hh : (s.gaf n).haltHit = false) (hr : (s.gaf n).restart = false) (hn : (s.gaf n).next = some c)
    (hfix : (s.gaf n).nextFixed = true ∨ s.windowOpen = false) :
    Runs (.cycleEnd n) s fun u => (u.gaf n).phase = .window ∧ (u.gaf n).cur = c ∧ (u.gaf n).next = none ∧
      u.rd (F.GAF_STATUS_STATE n) = 3 ∧ u.rd (F.GAF_STATUS_WIN n) = b2n c.win ∧ u.cycles n = (s.cycles n + 1) % 2 ^ 64 := by
  refine Runs.cycleEnd hl hp fun u hu => ?_
  rw [hu.gaf (by decide), hu.rd (F.GAF_STATUS_STATE_part n) (by decide) (by decide),
    hu.rd (F.GAF_STATUS_WIN_part n) (by decide) (by decide), State.cycles,
    hu.rd64 (by rw [regPart_gafRegs (by omega) (by omega) (by omega)]; decide)
      (by rw [regPart_gafRegs (by omega) (by omega) (by omega)]; decide), State.afterCycle_next hf hs hh hr]
  cases hnf : (s.gaf n).nextFixed with
  | true =>
    rw [State.nextCycle_fixed hn hnf]
    exact s.startCycle_shows n c _
  | false =>
    rw [State.nextCycle_dispatch hn hnf (hfix.resolve_left (by simp [hnf]))]
    exact s.dispatch_shows n c

end
end Sys2Proof.Machine

namespace Sys2Proof.Machine

/-! ### b12: the latched copies load (R469) -/

/-- A latched copy beside the register that it copies. -/
def State.copyOf (o : Nat) (s : State) : Word × Word := (Tab.get regReset s.latch o, s.reg o)

theorem State.copyOf_withLatch_same (s : State) (o : Nat) :
    State.copyOf o (s.withLatch (Tab.set regReset s.latch o (s.reg o))) = (s.reg o, s.reg o) :=
  Prod.ext (Tab.get_set_same _ _ _ _) rfl

theorem State.copyOf_withLatch_ne (s : State) {o p : Nat} (w : Word) (h : o ≠ p) :
    State.copyOf o (s.withLatch (Tab.set regReset s.latch p w)) = s.copyOf o :=
  Prod.ext (Tab.get_set_ne _ _ _ h) rfl

/-- The capture ring's pointer is none of the registers with a copy. -/
theorem State.copyOf_loadCapture (s : State) (t : Nat) {o : Nat} (ho : o ≠ (F.MPU_CAP_STAT_WR_PTR t).off) :
    State.copyOf o (s.loadCapture t) = s.copyOf o := by
  unfold State.loadCapture
  split
  · rfl
  · split
    · exact Prod.ext rfl (State.reg_setReg_ne _ _ ho)
    · rfl

section
variable (s : State) {t o : Nat} (ht : t < 128) (ho : o ∈ latchedOffs)
include ht ho

theorem State.copyOf_loadLatch : State.copyOf (0x200000 + 0x10000 * t + o) (s.loadLatch t) =
    (s.reg (0x200000 + 0x10000 * t + o), s.reg (0x200000 + 0x10000 * t + o)) := by
  have hmod : t % 128 = t := Nat.mod_eq_of_lt ht
  have hcap : State.copyOf (0x200000 + 0x10000 * t + o) (s.loadCapture t) = s.copyOf (0x200000 + 0x10000 * t + o) :=
    s.copyOf_loadCapture t (by
      have : o ≠ 0x6c := fun h => absurd (h ▸ ho) (by decide)
      simp only [F.MPU_CAP_STAT_WR_PTR]
      omega)
  unfold State.loadLatch
  dsimp only
  rw [hmod, forEach_obs_in (State.copyOf (0x200000 + 0x10000 * t + o)) (g := fun x => (x.2, x.2)) (by decide) ho
    (fun b _ hb u => u.copyOf_withLatch_ne _ (by omega)) (fun u => u.copyOf_withLatch_same _), hcap]
  rfl

theorem State.copyOf_loadLatch_ne {k : Nat} (hk : k < 128) (hne : k ≠ t) :
    State.copyOf (0x200000 + 0x10000 * t + o) (s.loadLatch k) = s.copyOf (0x200000 + 0x10000 * t + o) := by
  have hsmall : ∀ p ∈ latchedOffs, p < 0x10000 := by decide
  have := hsmall o ho
  unfold State.loadLatch
  dsimp only
  rw [forEach_obs_out (State.copyOf (0x200000 + 0x10000 * t + o)) fun p hp u => u.copyOf_withLatch_ne _ (by
    have := hsmall p hp
    omega)]
  exact s.copyOf_loadCapture k (by simp only [F.MPU_CAP_STAT_WR_PTR]; omega)

end

theorem State.latch_loadLatches (s : State) {n t o : Nat} (ht : t ∈ s.regionTiles n) (ho : o ∈ latchedOffs) :
    Tab.get regReset (s.loadLatches n).latch (0x200000 + 0x10000 * t + o) = s.reg (0x200000 + 0x10000 * t + o) := by
  have hload := forEach_obs_in (State.copyOf (0x200000 + 0x10000 * t + o)) (f := fun k (u : State) => u.loadLatch k)
    (g := fun x => (x.2, x.2)) (s.regionTiles_nodup n) ht
    (fun k hk hne u => u.copyOf_loadLatch_ne (State.regionTiles_lt ht) ho (State.regionTiles_lt hk) hne)
    (fun u => u.copyOf_loadLatch (State.regionTiles_lt ht) ho) s
  exact congrArg Prod.fst hload

/-! ### b12: the request areas clear, and the next cycle latches its operands (R62, R68) -/

/-- The request areas of some tiles clear. -/
def State.clearReqs (s : State) (l : List Nat) : State :=
  forEach l (fun t s => (s.withReqArea (Tab.clear s.reqArea (t * 4096) ((t + 1) * 4096)))) s

theorem State.clearReqs_leaf (s : State) (l : List Nat) : Leaves 0x400000000 s (s.clearReqs l) :=
  (Leaves.refl _ s).forEach fun _ _ hu => hu.upd_reqArea (by decide) fun hw => Tab.wf_clear _ _ _ hw

theorem State.clearReqs_get (s : State) {l : List Nat} {t a : Nat} (ht : t ∈ l) (ha : t * 4096 ≤ a ∧ a < (t + 1) * 4096) :
    Bytes.get (s.clearReqs l).reqArea a = 0 := by
  refine forEach_reaches (p := fun u => Bytes.get u.reqArea a = 0) ht (fun k _ u hu => ?_) (fun u => ?_) s
  · by_cases hin : k * 4096 ≤ a ∧ a < (k + 1) * 4096
    · exact Tab.get_clear_in _ _ hin
    · exact (Tab.get_clear_out _ _ hin).trans hu
  · exact Tab.get_clear_in _ _ ha

/-- What the gaffer holds of its next cycle at b12. -/
def State.latchNext (s : State) (n : Nat) : State :=
  match (s.gaf n).next with
  | some c => s.setGaf n { s.gaf n with phase := .b12, nextOps := s.opsFor n c, nextFixed := true, overrunSeen := false }
  | none => s.setGaf n { s.gaf n with phase := .b12, nextFixed := false }

theorem State.latchNext_leaf (s : State) (n : Nat) : Leaves 0x4000000000 s (s.latchNext n) := by
  unfold State.latchNext
  split
  · exact State.setGaf_leaves (.refl _ s) rfl n _
  · exact State.setGaf_leaves (.refl _ s) rfl n _

theorem State.latchNext_phase (s : State) (n : Nat) : ((s.latchNext n).gaf n).phase = .b12 := by
  unfold State.latchNext
  split
  · rw [State.gaf_setGaf]
  · rw [State.gaf_setGaf]

theorem State.latchNext_some (s : State) {n : Nat} {c : Cycle} (hc : (s.gaf n).next = some c) :
    ((s.latchNext n).gaf n).nextFixed = true ∧ ((s.latchNext n).gaf n).nextOps = s.opsFor n c := by
  simp only [State.latchNext, hc, State.gaf_setGaf, and_self]

/-- What the region's record and line counter fix of the operands. -/
theorem Leaves.opsFor {m : Nat} {s t : State} (h : Leaves m s t) (hg : m.testBit Part.gafs.ctorIdx = false)
    (hr : m.testBit Part.gafRegs.ctorIdx = false) (n : Nat) (c : Cycle) : t.opsFor n c = s.opsFor n c := by
  have hlo : regPart (F.GAF_LINE_LO n).off = .gafRegs :=
    regPart_gafRegs (by simp only [F.GAF_LINE_LO]; omega) (by simp only [F.GAF_LINE_LO]; omega) (by simp only [F.GAF_LINE_LO]; omega)
  have hhi : regPart (F.GAF_LINE_HI n).off = .gafRegs :=
    regPart_gafRegs (by simp only [F.GAF_LINE_HI]; omega) (by simp only [F.GAF_LINE_HI]; omega) (by simp only [F.GAF_LINE_HI]; omega)
  simp only [State.opsFor, State.lineOf, h.gaf hg, h.rd hlo (by decide) hr, h.rd hhi (by decide) hr]

section
variable {s : State} {n : Fin 16} (hl : s.live = true) (hp : (s.gaf n).phase = .b8)
include hl hp

theorem exec_specialOperandLatch : exec (.specialOperandLatch n) s =
    .next (s.endClock (((s.loadLatches n).clearReqs ((s.loadLatches n).regionTiles n)).latchNext n)) := by
  simp only [exec, execSpecialOperandLatch, act_live hl, hp, if_true]
  rfl

theorem specialOperandLatch_latches : Runs (.specialOperandLatch n) s fun u =>
    (u.gaf n).phase = .b12 ∧
    (∀ t ∈ s.regionTiles n, ∀ a, t * 4096 ≤ a → a < (t + 1) * 4096 → Bytes.get u.reqArea a = 0) ∧
    (∀ t ∈ s.regionTiles n, ∀ o ∈ latchedOffs,
      Tab.get regReset u.latch (0x200000 + 0x10000 * t + o) = s.reg (0x200000 + 0x10000 * t + o)) ∧
    (∀ c, (s.gaf n).next = some c → (u.gaf n).nextFixed = true ∧ (u.gaf n).nextOps = s.opsFor n c) := by
  have hload : Leaves 0x2001004000 s (s.loadLatches n) := State.loadLatches_leaves (.refl _ s) rfl n
  have hlatch := fun t (ht : t ∈ s.regionTiles n) o (ho : o ∈ latchedOffs) => s.latch_loadLatches ht ho
  refine Runs.of_clocked (exec_specialOperandLatch hl hp) fun u hu => ?_
  rw [hload.regionTiles (by decide)] at hu
  generalize s.loadLatches n = v at *
  have hclear := v.clearReqs_leaf (s.regionTiles n)
  have hzero := fun t (ht : t ∈ s.regionTiles n) a (ha : t * 4096 ≤ a ∧ a < (t + 1) * 4096) => v.clearReqs_get ht ha
  generalize v.clearReqs (s.regionTiles n) = w at *
  have hkept := hload.comp hclear
  have hend := (w.latchNext_leaf n).comp hu.leaves
  refine ⟨?_, fun t ht a hlo hhi => ?_, fun t ht o ho => ?_, fun c hc => ?_⟩
  · rw [hu.gaf, w.latchNext_phase]
  · rw [show u.reqArea = w.reqArea from hend.same .reqArea (by decide)]
    exact hzero t ht a ⟨hlo, hhi⟩
  · rw [show u.latch = v.latch from (hclear.comp hend).same .latch (by decide)]
    exact hlatch t ht o ho
  · rw [hu.gaf, ← hkept.opsFor (by decide) (by decide)]
    exact w.latchNext_some ((congrArg Gaffer.next (hkept.gaf (by decide) n)).trans hc)

end

end Sys2Proof.Machine

namespace Sys2Proof.Machine

/-! ### b3: every tile writes its fold (R51, R52) -/

/-- The folds of region `n` for the window of its cycle, each with its tile. -/
def State.foldsOf (s : State) (n : Nat) : List (Nat × BitVec 64) :=
  (s.regionTiles n).map fun t => (t, s.fold t (s.dual n) (s.gaf n).cur.win (s.lenCode n (s.gaf n).cur.win))

/-- The tiles whose fold is not the expected one. -/
def State.badFolds (s : State) (n : Nat) : List Nat :=
  ((s.foldsOf n).filter fun x => x.2.toNat != s.foldExp x.1 (s.gaf n).cur.win).map fun x => x.1

/-- The region at b3 with its folds written. -/
def State.foldsWritten (s : State) (n : Nat) : State :=
  forEach (s.foldsOf n) (fun x s => s.foldLast x.1 x.2) (s.setPhase n .b3)

section
variable (s : State) (n : Nat)

theorem State.foldsOf_nodup : (s.foldsOf n).Nodup :=
  (s.regionTiles_nodup n).map fun _ _ h => congrArg Prod.fst h

theorem State.mem_foldsOf {x : Nat × BitVec 64} : x ∈ s.foldsOf n ↔ x.1 ∈ s.regionTiles n ∧
    x.2 = s.fold x.1 (s.dual n) (s.gaf n).cur.win (s.lenCode n (s.gaf n).cur.win) := by
  rw [State.foldsOf, List.mem_map]
  constructor
  · rintro ⟨t, ht, rfl⟩
    exact ⟨ht, rfl⟩
  · rintro ⟨ht, hx⟩
    exact ⟨x.1, ht, Prod.ext rfl hx.symm⟩

theorem State.mem_badFolds {t : Nat} : t ∈ s.badFolds n ↔ t ∈ s.regionTiles n ∧
    (s.fold t (s.dual n) (s.gaf n).cur.win (s.lenCode n (s.gaf n).cur.win)).toNat ≠ s.foldExp t (s.gaf n).cur.win := by
  simp only [State.badFolds, List.mem_map, List.mem_filter, s.mem_foldsOf, bne_iff_ne]
  constructor
  · rintro ⟨x, ⟨⟨ht, hx⟩, hne⟩, rfl⟩
    exact ⟨ht, hx ▸ hne⟩
  · rintro ⟨ht, hne⟩
    exact ⟨(t, _), ⟨⟨ht, rfl⟩, hne⟩, rfl⟩

theorem State.foldsWritten_leaf : Leaves 0x4000004000 s (s.foldsWritten n) :=
  (State.setPhase_leaves (.refl _ s) rfl n .b3).forEach fun _ _ hu => State.foldLast_leaves hu rfl _ _

theorem State.foldsWritten_gaf : (s.foldsWritten n).gaf n = { s.gaf n with phase := .b3 } := by
  have hkept : Leaves 0x4000 (s.setPhase n .b3) (s.foldsWritten n) :=
    (Leaves.refl _ _).forEach fun _ _ hu => State.foldLast_leaves hu rfl _ _
  rw [hkept.gaf (by decide), State.gaf_setPhase]

theorem State.foldsWritten_last {t : Nat} (ht : t ∈ s.regionTiles n) : (s.foldsWritten n).rd64 (0x200020 + 0x10000 * t) =
    (s.fold t (s.dual n) (s.gaf n).cur.win (s.lenCode n (s.gaf n).cur.win)).toNat := by
  have hlt := State.regionTiles_lt ht
  have hmod : t % 128 = t := Nat.mod_eq_of_lt hlt
  refine forEach_obs_in (State.rd64 · (0x200020 + 0x10000 * t))
    (g := fun _ => (s.fold t (s.dual n) (s.gaf n).cur.win (s.lenCode n (s.gaf n).cur.win)).toNat)
    (a := (t, s.fold t (s.dual n) (s.gaf n).cur.win (s.lenCode n (s.gaf n).cur.win)))
    (s.foldsOf_nodup n) ((s.mem_foldsOf n).2 ⟨ht, rfl⟩) (fun x hx hne u => ?_) (fun u => ?_) (s.setPhase n .b3)
  · obtain ⟨hxt, hfold⟩ := (s.mem_foldsOf n).1 hx
    have hx1 := State.regionTiles_lt hxt
    have hother : x.1 ≠ t := fun h => hne (Prod.ext h (h ▸ hfold))
    exact State.rd64_eq (u.reg_wr64_ne _ (by omega) (by omega)) (u.reg_wr64_ne _ (by omega) (by omega))
  · dsimp only
    rw [State.foldLast, hmod, State.rd64_wr64]
    exact Nat.mod_eq_of_lt (BitVec.isLt _)

end

/-! ### A fold that differs (R52, R53) -/

/-- A mismatch is counted, shown and raised in its sector. -/
def State.sectorMismatch (s : State) (c : Nat) : State :=
  ((s.wr (F.SEC_STATUS_FOLD_MISMATCH c) 1).bump (F.SEC_FOLD_CNT_COUNT c)).raise (Ev.SEC_FOLD_MISMATCH c)

section
variable (s : State) (c : Nat)

theorem State.sectorMismatch_leaf : Leaves 0x1000199008000000a010 s (s.sectorMismatch c) :=
  State.raise_leaves (((Leaves.refl _ s).wr (Part.bit (F.SEC_STATUS_FOLD_MISMATCH_part c) (by decide))).bump
    (Part.bit (F.SEC_FOLD_CNT_COUNT_part c) (by decide))) rfl _

/-- Every other register of the sectors stays. -/
theorem State.sectorMismatch_reg {o : Nat} (hp : regPart o = .secRegs) (h : o ≠ 0xa00004 + 0x10000 * (c % 16))
    (h' : o ≠ 0xa00018 + 0x10000 * (c % 16)) : (s.sectorMismatch c).reg o = s.reg o := by
  rw [State.sectorMismatch, (State.raise_leaves (.refl 0x10001990080000002010 _) rfl _).reg (by rw [hp]; decide),
    State.reg_bump_ne _ h', State.reg_wr_ne _ _ h]

theorem State.sectorMismatch_pends : Pends (s.sectorMismatch c) (Ev.SEC_FOLD_MISMATCH c) := State.rd_raise_self _ _

theorem State.sectorMismatch_rises : Rises s (s.sectorMismatch c) :=
  (((Rises.refl s).wr _ (.inr (by simp only [F.SEC_STATUS_FOLD_MISMATCH]; omega))).bump
    (.inr (by simp only [F.SEC_FOLD_CNT_COUNT]; omega))).raise _

theorem State.sectorMismatch_shows : (s.sectorMismatch c).rd (F.SEC_STATUS_FOLD_MISMATCH c) = 1 := by
  rw [State.sectorMismatch, (State.raise_leaves (.refl 0x10001990080000002010 _) rfl _).rd (F.SEC_STATUS_FOLD_MISMATCH_part c)
    (by decide) (by decide)]
  exact (congrArg _ (State.reg_bump_ne _ (by simp only [F.SEC_STATUS_FOLD_MISMATCH, F.SEC_FOLD_CNT_COUNT]; omega))).trans
    (State.rd_wr_mod _ _ rfl)

theorem State.sectorMismatch_counts : (s.sectorMismatch c).rd (F.SEC_FOLD_CNT_COUNT c) =
    countUp (s.rd (F.SEC_FOLD_CNT_COUNT c)) := by
  rw [State.sectorMismatch, (State.raise_leaves (.refl 0x10001990080000002010 _) rfl _).rd (F.SEC_FOLD_CNT_COUNT_part c)
    (by decide) (by decide), State.rd_bump_countUp _ _ ⟨rfl, rfl⟩]
  exact congrArg countUp
    (congrArg (F.SEC_FOLD_CNT_COUNT c).of (State.reg_wr_ne _ _ (by
      simp only [F.SEC_STATUS_FOLD_MISMATCH, F.SEC_FOLD_CNT_COUNT]
      omega)))

end

/-! ### The record of the first mismatch of a sector (R53) -/

section
variable (s : State) (t : Nat) (win : Bool)

theorem State.foldRecord_valid : (s.foldRecord t win false).on (F.SEC_FOLD_STAT_VALID (t / 8)) = true := by
  unfold State.foldRecord
  split
  · assumption
  · have hbit : slice (BitVec.ofNat 32 (2 ^ 23 + 2 ^ 20 * (t % 8) + 2 ^ 19 * b2n win + 2 ^ 18 * b2n false)).toNat 23 23 = 1 := by
      have hwin : b2n win ≤ 1 := by cases win <;> decide
      have hpos : t % 8 < 8 := Nat.mod_lt _ (by decide)
      have hver : b2n false = 0 := rfl
      rw [BitVec.toNat_ofNat, slice, hver]
      omega
    have hrd : (s.setReg (0xa00014 + 0x10000 * (t / 8 % 16)) (BitVec.ofNat 32 (2 ^ 23 + 2 ^ 20 * (t % 8) + 2 ^ 19 * b2n win +
        2 ^ 18 * b2n false))).rd (F.SEC_FOLD_STAT_VALID (t / 8)) = 1 :=
      (congrArg (F.SEC_FOLD_STAT_VALID (t / 8)).of (State.reg_setReg _ _ _)).trans hbit
    rw [State.on, hrd]
    rfl

/-- A record stays VALID under those of other tiles. -/
theorem State.foldRecord_keeps {c : Nat} (h : s.on (F.SEC_FOLD_STAT_VALID c) = true) :
    (s.foldRecord t win false).on (F.SEC_FOLD_STAT_VALID c) = true := by
  by_cases hoff : c % 16 = t / 8 % 16
  · have hfld : F.SEC_FOLD_STAT_VALID c = F.SEC_FOLD_STAT_VALID (t / 8) := by simp only [F.SEC_FOLD_STAT_VALID, hoff]
    rw [hfld]
    exact s.foldRecord_valid t win
  · unfold State.foldRecord
    split
    · exact h
    · rw [State.on, State.rd_setReg_ne _ _ _ (by simp only [F.SEC_FOLD_STAT_VALID]; omega)]
      exact h

/-- The other registers of the sectors stay. -/
theorem State.foldRecord_reg {o : Nat} (h : o ≠ 0xa00014 + 0x10000 * (t / 8 % 16)) : (s.foldRecord t win false).reg o = s.reg o := by
  unfold State.foldRecord
  split
  · rfl
  · exact State.reg_setReg_ne _ _ h

end

/-! ### The mismatches of a region at b3 (R52) -/

/-- The sectors of region `n` with a tile of the list. -/
def State.sectorsWith (s : State) (n : Nat) (bad : List Nat) : List Nat :=
  (s.sectors n).filter fun c => bad.any fun t => t / 8 == c

/-- The first mismatch of each sector recorded. -/
def State.foldRecords (s : State) (bad : List Nat) (win : Bool) : State := forEach bad (fun t s => s.foldRecord t win false) s

/-- The mismatches of the tiles `bad` of region `n` recorded, and shown in their sectors. -/
def State.mismatches (s : State) (n : Nat) (bad : List Nat) (win : Bool) : State :=
  forEach ((s.foldRecords bad win).sectorsWith n bad) (fun c s => s.sectorMismatch c) (s.foldRecords bad win)

section
variable (s : State) {n t : Nat} {bad : List Nat} (win : Bool)

theorem State.foldRecords_reg {o : Nat} (h : o % 0x10000 ≠ 0x14) : (s.foldRecords bad win).reg o = s.reg o :=
  forEach_obs_out (f := fun t (u : State) => u.foldRecord t win false) (State.reg · o)
    (fun t _ u => u.foldRecord_reg t win (by omega)) s

theorem State.foldRecords_inRegion (c : Nat) : (s.foldRecords bad win).inRegion n c = s.inRegion n c := by
  have hctrl : (s.foldRecords bad win).reg (0xa00000 + 0x10000 * (c % 16)) = s.reg (0xa00000 + 0x10000 * (c % 16)) :=
    s.foldRecords_reg win (by omega)
  rw [State.inRegion, State.inRegion, State.on, State.on, State.rd, State.rd, State.rd, State.rd]
  simp only [F.SEC_CTRL_ASSIGNED, F.SEC_CTRL_REGION, hctrl]

theorem State.mem_sectorsWith (h : t ∈ bad) (ht : t ∈ s.regionTiles n) : t / 8 ∈ s.sectorsWith n bad := by
  obtain ⟨hlt, hin⟩ := State.mem_regionTiles.1 ht
  rw [State.sectorsWith, List.mem_filter, State.sectors, List.mem_filter, upTo, List.mem_range, List.any_eq_true]
  exact ⟨⟨by omega, hin⟩, t, h, by simp⟩

theorem State.sectorsWith_lt {c : Nat} (h : c ∈ s.sectorsWith n bad) : c < 16 := by
  have := (List.mem_filter.1 (List.mem_filter.1 h).1).1
  rwa [upTo, List.mem_range] at this

theorem State.mismatches_leaf : Leaves 0x1000199008000000a010 s (s.mismatches n bad win) :=
  ((Leaves.refl _ s).forEach fun _ _ hu => State.foldRecord_leaves hu rfl _ _ _).forEach fun c u hu =>
    hu.step (u.sectorMismatch_leaf c) (by decide)

end

section
variable {s : State} {n t : Nat} {bad : List Nat} (win : Bool) (h : t ∈ bad) (ht : t ∈ s.regionTiles n)
include h ht

theorem State.sector_mem_mismatches : t / 8 ∈ (s.foldRecords bad win).sectorsWith n bad := by
  refine State.mem_sectorsWith _ h ?_
  obtain ⟨hlt, hin⟩ := State.mem_regionTiles.1 ht
  exact State.mem_regionTiles.2 ⟨hlt, (s.foldRecords_inRegion win _).trans hin⟩

theorem State.mismatches_pends : Pends (s.mismatches n bad win) (Ev.SEC_FOLD_MISMATCH (t / 8)) :=
  forEach_reaches (f := fun c (u : State) => u.sectorMismatch c) (State.sector_mem_mismatches win h ht)
    (fun c _ u hu => u.sectorMismatch_rises c _ hu) (fun u => u.sectorMismatch_pends _) _

theorem State.mismatches_shows : (s.mismatches n bad win).rd (F.SEC_STATUS_FOLD_MISMATCH (t / 8)) = 1 := by
  have hmem := State.sector_mem_mismatches win h ht
  have hlt := State.sectorsWith_lt _ hmem
  refine forEach_reaches (f := fun c (u : State) => u.sectorMismatch c)
    (p := fun u => u.rd (F.SEC_STATUS_FOLD_MISMATCH (t / 8)) = 1) hmem (fun c hc u hu => ?_) (fun u => u.sectorMismatch_shows _) _
  by_cases hct : c = t / 8
  · rw [hct]
    exact u.sectorMismatch_shows _
  · have hc16 := State.sectorsWith_lt _ hc
    exact (congrArg (F.SEC_STATUS_FOLD_MISMATCH (t / 8)).of (u.sectorMismatch_reg c (F.SEC_STATUS_FOLD_MISMATCH_part _)
      (by simp only [F.SEC_STATUS_FOLD_MISMATCH]; omega) (by simp only [F.SEC_STATUS_FOLD_MISMATCH]; omega))).trans hu

theorem State.mismatches_counts : Counted s (s.mismatches n bad win) (F.SEC_FOLD_CNT_COUNT (t / 8)) := by
  have hmem := State.sector_mem_mismatches win h ht
  have hlt := State.sectorsWith_lt _ hmem
  have hcount := forEach_obs_in (State.rd · (F.SEC_FOLD_CNT_COUNT (t / 8))) (f := fun c (u : State) => u.sectorMismatch c)
    (g := countUp) ((List.nodup_range.filter _).filter _) hmem (fun c hc hne u => ?_)
    (fun u => u.sectorMismatch_counts _) (s.foldRecords bad win)
  · refine counted_of_countUp (hcount.trans (congrArg countUp ?_))
    exact congrArg (F.SEC_FOLD_CNT_COUNT (t / 8)).of (s.foldRecords_reg win (by simp only [F.SEC_FOLD_CNT_COUNT]; omega))
  · have hc16 := State.sectorsWith_lt _ hc
    exact congrArg (F.SEC_FOLD_CNT_COUNT (t / 8)).of (u.sectorMismatch_reg c (F.SEC_FOLD_CNT_COUNT_part _)
      (by simp only [F.SEC_FOLD_CNT_COUNT]; omega) (by simp only [F.SEC_FOLD_CNT_COUNT]; omega))

omit ht in
theorem State.mismatches_valid : (s.mismatches n bad win).on (F.SEC_FOLD_STAT_VALID (t / 8)) = true := by
  have hpart : regPart (F.SEC_FOLD_STAT_VALID (t / 8)).off = .secRegs :=
    regPart_secRegs (by simp only [F.SEC_FOLD_STAT_VALID]; omega) (by simp only [F.SEC_FOLD_STAT_VALID]; omega)
  have hrecord : (s.foldRecords bad win).on (F.SEC_FOLD_STAT_VALID (t / 8)) = true :=
    forEach_reaches (f := fun t (u : State) => u.foldRecord t win false) (p := fun u => u.on (F.SEC_FOLD_STAT_VALID (t / 8)) = true) h
      (fun b _ u hu => u.foldRecord_keeps b win hu) (fun u => u.foldRecord_valid t win) s
  refine Eq.trans ?_ hrecord
  exact forEach_obs_out (f := fun c (u : State) => u.sectorMismatch c) (State.on · (F.SEC_FOLD_STAT_VALID (t / 8))) (fun c _ u =>
    congrArg (fun w => (F.SEC_FOLD_STAT_VALID (t / 8)).of w != 0)
    (u.sectorMismatch_reg c hpart (by simp only [F.SEC_FOLD_STAT_VALID]; omega) (by simp only [F.SEC_FOLD_STAT_VALID]; omega))) _

end

end Sys2Proof.Machine

namespace Sys2Proof.Machine

/-- A fault of a region before its b4 fences it after the cycle and spoils its gob-out (R52, R392). -/
theorem State.fence_early {s : State} {n : Nat} (h : 2 ≤ s.run n ∧ s.run n ≤ 4) (hp : (s.gaf n).phase = .b3)
    (hf : (s.gaf n).fence = none) (cause : Nat) :
    ((s.fence n cause 16).gaf n).fence = some (cause, 16) ∧ ((s.fence n cause 16).gaf n).outBad = true := by
  have h5 : s.run n ≠ 5 := by omega
  have h1 : s.run n ≠ 1 := by omega
  simp [State.fence, h5, h1, hf, hp]

section
variable {s : State} {n : Fin 16} (hl : s.live = true) (hp : (s.gaf n).phase = .b0)
include hl hp

theorem exec_foldCompare_match (hb : s.badFolds n = []) : exec (.foldCompare n) s = .next (s.endClock (s.foldsWritten n)) := by
  have hb' : (((s.regionTiles n).map fun t => (t, s.fold t (s.dual n) (s.gaf n).cur.win (s.lenCode n (s.gaf n).cur.win))).filter
      fun x => x.2.toNat != s.foldExp x.1 (s.gaf n).cur.win).map (fun x => x.1) = [] := hb
  simp only [exec, execFoldCompare, act_live hl, hp, if_true, hb']
  rfl

theorem exec_foldCompare_mismatch {t : Nat} {l : List Nat} (hb : s.badFolds n = t :: l) : exec (.foldCompare n) s =
    .next (s.endClock (((s.foldsWritten n).mismatches n (s.badFolds n) (s.gaf n).cur.win).fault2 n 16
      (t + 2 ^ 7 * b2n (s.gaf n).cur.win) 4)) := by
  have hb' : (((s.regionTiles n).map fun t => (t, s.fold t (s.dual n) (s.gaf n).cur.win (s.lenCode n (s.gaf n).cur.win))).filter
      fun x => x.2.toNat != s.foldExp x.1 (s.gaf n).cur.win).map (fun x => x.1) = t :: l := hb
  rw [hb]
  simp only [exec, execFoldCompare, act_live hl, hp, if_true, hb']
  rfl

theorem foldCompare_matches (h : ∀ t ∈ s.regionTiles n,
      (s.fold t (s.dual n) (s.gaf n).cur.win (s.lenCode n (s.gaf n).cur.win)).toNat = s.foldExp t (s.gaf n).cur.win) :
    Runs (.foldCompare n) s fun u => (u.gaf n).phase = .b3 ∧
      (∀ t ∈ s.regionTiles n, u.rd64 (0x200020 + 0x10000 * t) =
        (s.fold t (s.dual n) (s.gaf n).cur.win (s.lenCode n (s.gaf n).cur.win)).toNat) ∧
      Keeps [.mpuRegs, .gafs] s u := by
  have hb : s.badFolds n = [] := List.eq_nil_iff_forall_not_mem.2 fun t ht => by
    obtain ⟨htile, hne⟩ := (s.mem_badFolds n).1 ht
    exact hne (h t htile)
  refine ⟨_, exec_foldCompare_match hl hp hb, ?_, fun t ht => ?_, ?_⟩
  · exact congrArg Gaffer.phase (s.foldsWritten_gaf n)
  · exact s.foldsWritten_last n ht
  · have hleaf : Leaves (partsMask [.mpuRegs, .gafs]) s (s.foldsWritten n) := s.foldsWritten_leaf n
    exact (State.endClock_leaves hleaf).keeps

theorem foldCompare_mismatches {t : Nat} (ht : t ∈ s.regionTiles n)
    (hne : (s.fold t (s.dual n) (s.gaf n).cur.win (s.lenCode n (s.gaf n).cur.win)).toNat ≠ s.foldExp t (s.gaf n).cur.win)
    (hrun : 2 ≤ s.run n ∧ s.run n ≤ 4) (hf : (s.gaf n).fence = none) (hf1 : s.flt.f1 = false) (hs : s.safe = false) :
    Runs (.foldCompare n) s fun u => u.on (F.SEC_STATUS_FOLD_MISMATCH (t / 8)) = true ∧
      Counted s u (F.SEC_FOLD_CNT_COUNT (t / 8)) ∧ u.on (F.SEC_FOLD_STAT_VALID (t / 8)) = true ∧
      Pends u (Ev.SEC_FOLD_MISMATCH (t / 8)) ∧ (u.gaf n).fence = some (4, 16) ∧ (u.gaf n).outBad = true := by
  have hbad : t ∈ s.badFolds n := (s.mem_badFolds n).2 ⟨ht, hne⟩
  obtain ⟨t', l, hb⟩ : ∃ t' l, s.badFolds n = t' :: l := List.exists_cons_of_ne_nil (List.ne_nil_of_mem hbad)
  refine Runs.of_clocked (exec_foldCompare_mismatch hl hp hb) fun u hu => ?_
  generalize s.badFolds n = bad at *
  generalize (s.gaf n).cur.win = win at *
  have hw := s.foldsWritten_leaf n
  have hgaf := s.foldsWritten_gaf n
  generalize s.foldsWritten n = w at *
  rw [← hw.regionTiles (by decide)] at ht
  have hshow := State.mismatches_shows win hbad ht
  have hcount := State.mismatches_counts win hbad ht
  have hvalid := State.mismatches_valid win hbad (s := w) (n := n)
  have hpends := State.mismatches_pends win hbad ht
  have hm := w.mismatches_leaf (n := n) (bad := bad) win
  generalize w.mismatches n bad win = v at *
  have hv := hw.comp hm
  have hfault := State.fault2_leaves (.refl 0x110619d008c00010701a v) rfl n 16 (t' + 2 ^ 7 * b2n win) 4
  have hend := hfault.comp hu.leaves
  have hpart : regPart (F.SEC_FOLD_STAT_VALID (t / 8)).off = .secRegs :=
    regPart_secRegs (by simp only [F.SEC_FOLD_STAT_VALID]; omega) (by simp only [F.SEC_FOLD_STAT_VALID]; omega)
  have hopen : v.fault2 n 16 (t' + 2 ^ 7 * b2n win) 4 = (v.report 16 (t' + 2 ^ 7 * b2n win) (some n)).fence n 4 16 :=
    State.fault2_open ((congrArg Collector.f1 (hv.same .flt (by decide))).trans hf1)
      ((congrArg (· == 7) (hv.rd_out (by decide))).trans hs) _ _ _ _
  have hr := hv.comp (State.report_leaves (.refl 0x10021990080000002018 v) rfl 16 (t' + 2 ^ 7 * b2n win) (some n))
  have hgafr : (v.report 16 (t' + 2 ^ 7 * b2n win) (some n)).gaf n = w.gaf n :=
    (hm.comp (State.report_leaves (.refl 0x10021990080000002018 v) rfl 16 (t' + 2 ^ 7 * b2n win) (some n))).gaf (by decide) n
  obtain ⟨hfence, hout⟩ := State.fence_early (s := v.report 16 (t' + 2 ^ 7 * b2n win) (some n)) (n := n)
    (by rwa [hr.run (by decide)]) (by rw [hgafr, hgaf]) (by rwa [hgafr, hgaf]) 4
  refine ⟨?_, ?_, ?_, hu.pends (v.fault2_rises _ _ _ _ _ hpends), ?_, ?_⟩
  · rw [hend.on (F.SEC_STATUS_FOLD_MISMATCH_part _) (by decide) (by decide), State.on, hshow]
    rfl
  · rw [Counted, hend.rd (F.SEC_FOLD_CNT_COUNT_part _) (by decide) (by decide), hcount,
      hw.rd (F.SEC_FOLD_CNT_COUNT_part _) (by decide) (by decide)]
  · rwa [hend.on hpart (by decide) (by decide)]
  · rw [hu.gaf, hopen, hfence]
  · rw [hu.gaf, hopen, hout]

end
end Sys2Proof.Machine

namespace Sys2Proof.Machine

/-! ### What one tile's check at b8 leaves (R131–R134) -/

section
variable (s : State) (t : Nat)

theorem State.reg_bumpBy_ne {f : Fld} {o : Nat} (n : Nat) (h : o ≠ f.off) : (s.bumpBy f n).reg o = s.reg o := s.reg_wr_ne _ h

theorem State.setReqs_port (rs : List MemReq) : (s.setReqs t rs).port t = { s.port t with reqs := rs } :=
  (congrArg (Tab.get (fun _ => Port.init) · t) (State.withRegs_ports _ _)).trans (s.port_setPort t _)

theorem State.setReqs_port_ne {k : Nat} (rs : List MemReq) (h : k ≠ t) : (s.setReqs t rs).port k = s.port k :=
  (congrArg (Tab.get (fun _ => Port.init) · k) (State.withRegs_ports _ _)).trans (s.port_setPort_ne _ h)

theorem State.setReqs_tile (rs : List MemReq) (k : Nat) : (s.setReqs t rs).tile k = s.tile k :=
  (State.setReqs_leaves (.refl 0x8000004000 s) rfl t rs).tile (by decide) k

theorem State.setReqs_reg (rs : List MemReq) {o : Nat} (h : o ≠ (F.MPU_MP_STAT_TAGS_USED t).off) : (s.setReqs t rs).reg o = s.reg o :=
  State.reg_wr_ne _ _ h

theorem State.poisonSlots_leaf (ks : List Nat) : Leaves 0x2800004000 s (s.poisonSlots t ks) :=
  State.poisonSlots_leaves (.refl _ s) rfl t ks

/-- A slot poisoned stays so when its tile poisons another. -/
theorem State.poisonSlot_keeps (k : Nat) {j : Nat} (h : bit (s.tile t).poison j = true) :
    bit ((s.poisonSlot t k).tile t).poison j = true := by
  rw [State.poisonSlot, State.tile_setTile]
  by_cases hj : j = k
  · exact hj ▸ testBit_setBitTo _ _ _
  · exact (testBit_setBitTo_ne _ hj _).trans h

theorem State.poisonSlot_poisons (k : Nat) : bit ((s.poisonSlot t k).tile t).poison k = true := by
  rw [State.poisonSlot, State.tile_setTile]
  exact testBit_setBitTo _ _ _

theorem State.poisonSlot_tile_ne (j : Nat) {k : Nat} (h : k ≠ t) : (s.poisonSlot t j).tile k = s.tile k :=
  State.tile_setTile_ne _ _ h

theorem State.poisonSlot_reg (k o : Nat) : (s.poisonSlot t k).reg o = s.reg o := (rfl)

theorem State.fillSlot_tile_ne (j : Nat) (bs : List Byte) {k : Nat} (h : k ≠ t) : (s.fillSlot t j bs).tile k = s.tile k :=
  State.tile_setTile_ne _ _ h

theorem State.fillSlot_reg (k : Nat) (bs : List Byte) (o : Nat) : (s.fillSlot t k bs).reg o = s.reg o := (rfl)

/-- The traces of poisoned slots (R134). -/
def State.poisonTrace (s : State) (t : Nat) (ks : List Nat) : State :=
  ((s.bumpBy (F.MPU_POISON_CNT_COUNT t) ks.length).wr (F.MPU_MP_STAT_POISON t) 1).wr (F.MPU_POISON_LAST_MASK t)
    (ks.foldl (fun m k => setBitTo m k true) 0)

theorem State.poisonTrace_leaf (ks : List Nat) : Leaves 0x4000 s (s.poisonTrace t ks) :=
  (((Leaves.refl _ s).bumpBy (Part.bit (F.MPU_POISON_CNT_COUNT_part t) (by decide))).wr
    (Part.bit (F.MPU_MP_STAT_POISON_part t) (by decide))).wr (Part.bit (F.MPU_POISON_LAST_MASK_part t) (by decide))

theorem State.poisonSlots_eq (ks : List Nat) : s.poisonSlots t ks =
    if ks = [] then s else (forEach ks (fun k s => s.poisonSlot t k) s).poisonTrace t ks := rfl

theorem State.poisonSlots_poisons {ks : List Nat} {k : Nat} (hk : k ∈ ks) : bit ((s.poisonSlots t ks).tile t).poison k = true := by
  rw [State.poisonSlots_eq, if_neg (List.ne_nil_of_mem hk), (State.poisonTrace_leaf _ t ks).tile (by decide)]
  exact forEach_reaches (p := fun u : State => bit (u.tile t).poison k = true) hk (fun j _ u hu => u.poisonSlot_keeps t j hu)
    (fun u => u.poisonSlot_poisons t k) s

theorem State.poisonSlots_tile_ne (ks : List Nat) {k : Nat} (h : k ≠ t) : (s.poisonSlots t ks).tile k = s.tile k := by
  rw [State.poisonSlots_eq]
  split
  · rfl
  · rw [(State.poisonTrace_leaf _ t ks).tile (by decide)]
    exact forEach_obs_out (State.tile · k) (fun j _ u => u.poisonSlot_tile_ne t j h) s

/-- The stall count is none of the traces. -/
theorem State.poisonSlots_reg (ks : List Nat) {o : Nat} (h : o % 0x10000 = 0x1010) : (s.poisonSlots t ks).reg o = s.reg o := by
  have htrace : ∀ u : State, (u.poisonTrace t ks).reg o = u.reg o := fun u => by
    rw [State.poisonTrace, State.reg_wr_ne _ _ (by simp only [F.MPU_POISON_LAST_MASK]; omega),
      State.reg_wr_ne _ _ (by simp only [F.MPU_MP_STAT_POISON]; omega),
      State.reg_bumpBy_ne _ _ (by simp only [F.MPU_POISON_CNT_COUNT]; omega)]
  rw [State.poisonSlots_eq]
  split
  · rfl
  · exact (htrace _).trans (forEach_obs_out (State.reg · o) (fun k _ u => u.poisonSlot_reg t k o) s)

/-! ### Data of one tile becomes visible (R132, R134) -/

/-- Answers that fill their slots. -/
def State.fillSlots (s : State) (t : Nat) (rs : List MemReq) : State := forEach rs (fun r s => s.fillSlot t r.slot r.data) s

theorem State.fillSlots_leaf (rs : List MemReq) : Leaves 0x2800000000 s (s.fillSlots t rs) :=
  (Leaves.refl _ s).forEach fun _ _ hu => State.fillSlot_leaves hu rfl _ _ _

theorem State.fillSlots_tile_ne (rs : List MemReq) {k : Nat} (h : k ≠ t) : (s.fillSlots t rs).tile k = s.tile k :=
  forEach_obs_out (State.tile · k) (fun r _ u => u.fillSlot_tile_ne t r.slot r.data h) s

/-- The requests that a check at cycle `c` ends. -/
def MemReq.shown (r : MemReq) (c : Nat) : Bool := r.due == c && r.answered && !r.stale

theorem State.showTile_eq (c : Nat) (ks : List Nat) : s.showTile t c ks =
    ((((s.fillSlots t ((s.port t).reqs.filter fun r => r.shown c && !r.err)).poisonSlots t ks).setPort t
      { ((s.fillSlots t ((s.port t).reqs.filter fun r => r.shown c && !r.err)).poisonSlots t ks).port t with
        refused := (s.port t).refused.filter fun x => x.2 != c }).setReqs t ((s.port t).reqs.filter fun r => !r.shown c)) := rfl

theorem State.showTile_reqs (c : Nat) (ks : List Nat) :
    ((s.showTile t c ks).port t).reqs = (s.port t).reqs.filter fun r => !r.shown c := by
  rw [State.showTile_eq, State.setReqs_port]

theorem State.showTile_port_ne (c : Nat) (ks : List Nat) {k : Nat} (h : k ≠ t) : (s.showTile t c ks).port k = s.port k := by
  rw [State.showTile_eq, State.setReqs_port_ne _ _ _ h, State.port_setPort_ne _ _ h,
    (State.poisonSlots_leaf _ t ks).port (by decide), (State.fillSlots_leaf _ t _).port (by decide)]

theorem State.showTile_poisons (c : Nat) {ks : List Nat} {k : Nat} (hk : k ∈ ks) :
    bit ((s.showTile t c ks).tile t).poison k = true := by
  rw [State.showTile_eq, State.setReqs_tile]
  exact State.poisonSlots_poisons _ t hk

theorem State.showTile_tile_ne (c : Nat) (ks : List Nat) {k : Nat} (h : k ≠ t) : (s.showTile t c ks).tile k = s.tile k := by
  rw [State.showTile_eq, State.setReqs_tile]
  exact (State.poisonSlots_tile_ne _ t ks h).trans (State.fillSlots_tile_ne _ t _ h)

theorem State.showTile_reg (c : Nat) (ks : List Nat) {o : Nat} (h : o % 0x10000 = 0x1010) :
    (s.showTile t c ks).reg o = s.reg o := by
  rw [State.showTile_eq, State.setReqs_reg _ _ _ (by simp only [F.MPU_MP_STAT_TAGS_USED]; omega)]
  refine (State.poisonSlots_reg _ t ks h).trans ?_
  exact forEach_obs_out (State.reg · o) (fun (r : MemReq) _ u => u.fillSlot_reg t r.slot r.data o) s

end
end Sys2Proof.Machine

namespace Sys2Proof.Machine

/-! ### The data of a region becomes visible (R132, R134) -/

/-- The slots that a check poisons in each tile. -/
def State.poisoned (s : State) (n : Nat) (extra : Nat → List Nat) (t : Nat) : List Nat := s.badSlots t (s.cycles n) ++ extra t

/-- Every tile of region `n` shows what is due. -/
def State.showTiles (s : State) (n : Nat) (extra : Nat → List Nat) : State :=
  forEach (s.regionTiles n) (fun t u => u.showTile t (s.cycles n) (s.poisoned n extra t)) s

section
variable (s : State) (n : Nat) (extra : Nat → List Nat)

theorem State.show_eq : s.show n extra =
    if (s.regionTiles n).any (fun t => s.poisoned n extra t != []) then (s.showTiles n extra).raise (Ev.MPU_POISON n)
    else s.showTiles n extra := rfl

theorem State.show_leaf : Leaves 0x1000199008a800006010 s (s.show n extra) := State.show_leaves (.refl _ s) rfl n extra

theorem State.show_after : Leaves 0x10001990080000002010 (s.showTiles n extra) (s.show n extra) := by
  rw [s.show_eq]
  exact .ite (State.raise_leaves (.refl _ _) rfl _) (.refl _ _)

section
variable {t : Nat} (ht : t ∈ s.regionTiles n)
include ht

theorem State.show_reqs : ((s.show n extra).port t).reqs = (s.port t).reqs.filter fun r => !r.shown (s.cycles n) := by
  rw [(s.show_after n extra).port (by decide)]
  exact forEach_obs_in (f := fun t (u : State) => u.showTile t (s.cycles n) (s.poisoned n extra t))
    (fun u => (u.port t).reqs) (s.regionTiles_nodup n) ht
    (fun k _ hk u => congrArg Port.reqs (u.showTile_port_ne k _ _ (Ne.symm hk))) (fun u => u.showTile_reqs t _ _) s

theorem State.showTiles_poisons {k : Nat} (hk : k ∈ s.poisoned n extra t) :
    bit ((s.showTiles n extra).tile t).poison k = true := by
  unfold State.showTiles
  refine forEach_reaches (f := fun t (u : State) => u.showTile t (s.cycles n) (s.poisoned n extra t))
    (p := fun u => bit (u.tile t).poison k = true) ht (fun j _ u hu => ?_) (fun u => u.showTile_poisons t _ hk) s
  by_cases hj : j = t
  · rw [hj]
    exact u.showTile_poisons t _ hk
  · rwa [State.showTile_tile_ne _ _ _ _ (Ne.symm hj)]

theorem State.show_poisons {k : Nat} (hk : k ∈ extra t) : bit ((s.show n extra).tile t).poison k = true := by
  rw [(s.show_after n extra).tile (by decide)]
  exact s.showTiles_poisons n extra ht (List.mem_append_right _ hk)

end

theorem State.show_reg {o : Nat} (hp : regPart o = .mpuRegs) (h : o % 0x10000 = 0x1010) : (s.show n extra).reg o = s.reg o := by
  rw [(s.show_after n extra).reg (by rw [hp]; decide)]
  exact forEach_obs_out (f := fun t (u : State) => u.showTile t (s.cycles n) (s.poisoned n extra t)) (State.reg · o)
    (fun t _ u => u.showTile_reg t _ _ h) s

end

/-! ### The stall bound elapses (R134, R135) -/

/-- The requests of a tile once the bound has elapsed at cycle `c`. -/
def MemReq.expired (c : Nat) (r : MemReq) : MemReq :=
  if r.missing c then (if r.write then { r with late := true } else { r with poisoned := true }) else r

/-- The late writes of a tile, counted and raised. -/
def State.lateWrites (s : State) (t late : Nat) : State :=
  ((s.bumpBy (F.MPU_WR_LATE_CNT_COUNT t) late).wr (F.MPU_MP_STAT_WR_LATE t) 1).raise Ev.MPU_WR_LATE

/-- The bound elapses for each tile of region `n`. -/
def State.expireTiles (s : State) (n : Nat) : State := forEach (s.regionTiles n) (fun t u => u.expireTile t (s.cycles n)) s

section
variable (s : State) (n t c : Nat)

theorem State.expireTile_eq : s.expireTile t c =
    if ((s.port t).reqs.filter fun r => r.missing c && r.write).length = 0 then s.setReqs t ((s.port t).reqs.map (MemReq.expired c))
    else (s.setReqs t ((s.port t).reqs.map (MemReq.expired c))).lateWrites t
      ((s.port t).reqs.filter fun r => r.missing c && r.write).length := rfl

theorem State.expireTile_reg {o : Nat} (hp : regPart o = .mpuRegs) (h : o % 0x10000 = 0x1010) :
    (s.expireTile t c).reg o = s.reg o := by
  have hreqs : ∀ rs, (s.setReqs t rs).reg o = s.reg o := fun rs =>
    s.setReqs_reg t rs (by simp only [F.MPU_MP_STAT_TAGS_USED]; omega)
  rw [s.expireTile_eq]
  split
  · exact hreqs _
  · rw [State.lateWrites, (State.raise_leaves (.refl 0x10001990080000002010 _) rfl _).reg (by rw [hp]; decide),
      State.reg_wr_ne _ _ (by simp only [F.MPU_MP_STAT_WR_LATE]; omega),
      State.reg_bumpBy_ne _ _ (by simp only [F.MPU_WR_LATE_CNT_COUNT]; omega)]
    exact hreqs _

/-- The missed slots as the boundary found them, looked up by tile. -/
def State.missedAt (s : State) (n t : Nat) : List Nat :=
  ((((s.regionTiles n).map fun t => (t, s.missedSlots t (s.cycles n))).find? fun x => x.1 == t).map fun x => x.2).getD []

theorem State.missedAt_eq (ht : t ∈ s.regionTiles n) : s.missedAt n t = s.missedSlots t (s.cycles n) := by
  have hfind : (s.regionTiles n).find? (fun b => b == t) = some t := by
    obtain ⟨b, hb⟩ := Option.isSome_iff_exists.1 ((List.find?_isSome (p := fun b => b == t)).2 ⟨t, ht, beq_self_eq_true t⟩)
    exact hb.trans (congrArg some (eq_of_beq (List.find?_some (p := fun b => b == t) hb)))
  rw [State.missedAt, List.find?_map]
  simp only [Function.comp_def, hfind, Option.map_some, Option.getD_some]

theorem State.expire_eq : s.expire n = (s.expireTiles n).show n (s.missedAt n) := rfl

theorem State.expireTiles_leaf : Leaves 0x10001990088000006010 s (s.expireTiles n) :=
  (Leaves.refl _ s).forEach fun _ _ hu => State.expireTile_leaves hu rfl _ _

theorem State.expire_poisons {t k : Nat} (ht : t ∈ s.regionTiles n) (hk : k ∈ s.missedSlots t (s.cycles n)) :
    bit ((s.expire n).tile t).poison k = true := by
  rw [s.expire_eq]
  exact (s.expireTiles n).show_poisons n _ (by rwa [(s.expireTiles_leaf n).regionTiles (by decide)]) (by rwa [s.missedAt_eq n t ht])

theorem State.expire_reg {o : Nat} (hp : regPart o = .mpuRegs) (h : o % 0x10000 = 0x1010) : (s.expire n).reg o = s.reg o := by
  rw [s.expire_eq, State.show_reg _ _ _ hp h]
  exact forEach_obs_out (f := fun t (u : State) => u.expireTile t (s.cycles n)) (State.reg · o)
    (fun t _ u => u.expireTile_reg t _ hp h) s

end

/-! ### The tiles that lack data count the stall (R133) -/

/-- The stall counted in tiles. -/
def State.countStalls (s : State) (l : List Nat) : State := forEach l (fun t s => s.bump (F.MPU_STALL_CNT_COUNT t)) s

theorem State.countStalls_leaf (s : State) (l : List Nat) : Leaves 0x4000 s (s.countStalls l) :=
  (Leaves.refl _ s).forEach fun t _ hu => hu.bump (Part.bit (F.MPU_STALL_CNT_COUNT_part t) (by decide))

theorem State.lackingData_lt {s : State} {n t : Nat} (ht : t ∈ s.lackingData n) : t < 128 :=
  State.regionTiles_lt (List.mem_of_mem_filter ht)

theorem State.countStalls_counts {s : State} {n t : Nat} (ht : t ∈ s.lackingData n) :
    Counted s (s.countStalls (s.lackingData n)) (F.MPU_STALL_CNT_COUNT t) := by
  have hlt := State.lackingData_lt ht
  refine counted_of_countUp (forEach_obs_in (f := fun t (u : State) => u.bump (F.MPU_STALL_CNT_COUNT t))
    (State.rd · (F.MPU_STALL_CNT_COUNT t)) (g := countUp)
    ((s.regionTiles_nodup n).filter _) ht (fun k hk hne u => ?_) (fun u => u.rd_bump_countUp _ ⟨rfl, rfl⟩) s)
  have hk128 := State.lackingData_lt hk
  exact congrArg (F.MPU_STALL_CNT_COUNT t).of (u.reg_bump_ne (by simp only [F.MPU_STALL_CNT_COUNT]; omega))

/-- The bound as the check reads it, after the stall was counted. -/
theorem State.countStalls_bound (s : State) (n : Nat) :
    (s.countStalls (s.lackingData n)).rd (F.GAF_STALL_BOUND_BOUND n) = s.rd (F.GAF_STALL_BOUND_BOUND n) :=
  (s.countStalls_leaf _).rd (F.GAF_STALL_BOUND_BOUND_part n) (by decide) (by decide)

end Sys2Proof.Machine

namespace Sys2Proof.Machine

/-- What a check that passes shows is not outstanding any more, unless it is stale (R132). -/
theorem State.show_ends (s : State) {n t : Nat} (ht : t ∈ s.regionTiles n) {r : MemReq}
    (hr : r ∈ ((s.show n fun _ => []).port t).reqs) (hdue : r.due = s.cycles n) (hans : r.answered = true) : r.stale = true := by
  rw [s.show_reqs n _ ht, List.mem_filter] at hr
  simpa [MemReq.shown, hdue, hans] using hr.2

section
variable {s : State} {n : Fin 16} (hl : s.live = true)
include hl

section
variable (hp : (s.gaf n).phase = .b4)
include hp

theorem exec_memoryCheck_passes (h : s.lacking n = []) :
    exec (.memoryCheck n) s = .next (s.endClock ((s.show n fun _ => []).setPhase n .b8)) := by
  simp only [exec, execMemoryCheck, act_live hl, hp, if_true, h]

theorem exec_memoryCheck_lacks (h : s.lacking n ≠ []) : exec (.memoryCheck n) s = .next (s.endClock
    (if s.rd (F.GAF_STALL_BOUND_BOUND n) = 0 then ((s.countStalls (s.lackingData n)).expire n).setPhase n .b8
      else ((s.countStalls (s.lackingData n)).wr (F.GAF_STATUS_STATE n) 4).setPhase n .stalled)) := by
  rw [← s.countStalls_bound n]
  cases hlack : s.lacking n with
  | nil => exact absurd hlack h
  | cons t l =>
    simp only [exec, execMemoryCheck, act_live hl, hp, if_true, hlack]
    rfl

theorem memoryCheck_passes (h : s.lacking n = []) : Runs (.memoryCheck n) s fun u =>
    (u.gaf n).phase = .b8 ∧ u.run n = s.run n ∧
    (∀ t ∈ s.regionTiles n, ∀ r ∈ (u.port t).reqs, r.due = s.cycles n → r.answered = true → r.stale = true) := by
  refine Runs.of_clocked (exec_memoryCheck_passes hl hp h) fun u hu => ?_
  have hphase := ((s.show n fun _ => []).setPhase_leaf n .b8).comp hu.leaves
  refine ⟨?_, ?_, fun t ht r hr hdue hans => ?_⟩
  · rw [hu.gaf, State.gaf_setPhase]
  · exact ((s.show_leaf n _).comp hphase).run (by decide) n
  · rw [hphase.port (by decide)] at hr
    exact s.show_ends ht hr hdue hans

theorem memoryCheck_stalls (h : s.lacking n ≠ []) (hb : s.rd (F.GAF_STALL_BOUND_BOUND n) ≠ 0) : Runs (.memoryCheck n) s fun u =>
    (u.gaf n).phase = .stalled ∧ u.rd (F.GAF_STATUS_STATE n) = 4 ∧
    (∀ t ∈ s.lackingData n, Counted s u (F.MPU_STALL_CNT_COUNT t)) := by
  have hexec := exec_memoryCheck_lacks hl hp h
  rw [if_neg hb] at hexec
  refine Runs.of_clocked hexec fun u hu => ?_
  have hphase := (((s.countStalls (s.lackingData n)).wr (F.GAF_STATUS_STATE n) 4).setPhase_leaf n .stalled).comp hu.leaves
  refine ⟨?_, ?_, fun t ht => ?_⟩
  · rw [hu.gaf, State.gaf_setPhase]
  · rw [hphase.rd (F.GAF_STATUS_STATE_part n) (by decide) (by decide)]
    exact State.rd_wr_mod _ _ rfl
  · have hstate : Leaves (2 ^ Part.gafRegs.ctorIdx) (s.countStalls (s.lackingData n))
        ((s.countStalls (s.lackingData n)).wr (F.GAF_STATUS_STATE n) 4) :=
      (Leaves.refl _ _).wr (Part.bit (F.GAF_STATUS_STATE_part n) (by decide))
    rw [Counted, (hstate.comp hphase).rd (F.MPU_STALL_CNT_COUNT_part t) (by decide) (by decide)]
    exact State.countStalls_counts ht

theorem memoryCheck_poisons (h : s.lacking n ≠ []) (hb : s.rd (F.GAF_STALL_BOUND_BOUND n) = 0) : Runs (.memoryCheck n) s fun u =>
    (u.gaf n).phase = .b8 ∧
    (∀ t ∈ s.regionTiles n, ∀ k ∈ s.missedSlots t (s.cycles n), bit (u.tile t).poison k = true) ∧
    (∀ t ∈ s.lackingData n, Counted s u (F.MPU_STALL_CNT_COUNT t)) := by
  have hexec := exec_memoryCheck_lacks hl hp h
  rw [if_pos hb] at hexec
  refine Runs.of_clocked hexec fun u hu => ?_
  have hcount := s.countStalls_leaf (s.lackingData n)
  have hcounted := fun t (ht : t ∈ s.lackingData n) => State.countStalls_counts ht
  generalize s.countStalls (s.lackingData n) = v at *
  have hphase := ((v.expire n).setPhase_leaf n .b8).comp hu.leaves
  refine ⟨?_, fun t ht k hk => ?_, fun t ht => ?_⟩
  · rw [hu.gaf, State.gaf_setPhase]
  · have hcycles : v.cycles n = s.cycles n :=
      hcount.rd64 (by rw [regPart_gafRegs (by omega) (by omega) (by omega)]; decide)
        (by rw [regPart_gafRegs (by omega) (by omega) (by omega)]; decide)
    have hmiss : v.missedSlots t (v.cycles n) = s.missedSlots t (s.cycles n) := by
      rw [State.missedSlots, hcycles, hcount.port (by decide), State.missedSlots]
    rw [hphase.tile (by decide)]
    exact v.expire_poisons n (by rwa [hcount.regionTiles (by decide)]) (by rwa [hmiss])
  · rw [Counted, hphase.rd (F.MPU_STALL_CNT_COUNT_part t) (by decide) (by decide), ← hcounted t ht]
    exact congrArg (F.MPU_STALL_CNT_COUNT t).of (v.expire_reg n (F.MPU_STALL_CNT_COUNT_part t)
      (by simp only [F.MPU_STALL_CNT_COUNT]; omega))

end

section
variable (hp : (s.gaf n).phase = .stalled)
include hp

theorem exec_stallEnd (h : s.lacking n = []) :
    exec (.stallEnd n) s = .next (s.endClock (((s.show n fun _ => []).wr (F.GAF_STATUS_STATE n) 3).setPhase n .b8)) := by
  simp only [exec, execStallEnd, act_live hl, hp, h, List.isEmpty_nil, decide_true, Bool.and_true, if_true]

theorem exec_stallBoundExpiry :
    exec (.stallBoundExpiry n) s = .next (s.endClock (((s.expire n).wr (F.GAF_STATUS_STATE n) 3).setPhase n .b8)) := by
  simp only [exec, execStallBoundExpiry, act_live hl, hp, if_true]

theorem stallEnd_resumes (h : s.lacking n = []) : Runs (.stallEnd n) s fun u =>
    (u.gaf n).phase = .b8 ∧ u.rd (F.GAF_STATUS_STATE n) = 3 := by
  refine Runs.of_clocked (exec_stallEnd hl hp h) fun u hu => ?_
  have hphase := (((s.show n fun _ => []).wr (F.GAF_STATUS_STATE n) 3).setPhase_leaf n .b8).comp hu.leaves
  rw [hu.gaf, State.gaf_setPhase, hphase.rd (F.GAF_STATUS_STATE_part n) (by decide) (by decide)]
  exact ⟨rfl, State.rd_wr_mod _ _ rfl⟩

theorem stallBoundExpiry_poisons : Runs (.stallBoundExpiry n) s fun u =>
    (u.gaf n).phase = .b8 ∧ u.rd (F.GAF_STATUS_STATE n) = 3 ∧
    (∀ t ∈ s.regionTiles n, ∀ k ∈ s.missedSlots t (s.cycles n), bit (u.tile t).poison k = true) := by
  refine Runs.of_clocked (exec_stallBoundExpiry hl hp) fun u hu => ?_
  have hphase := (((s.expire n).wr (F.GAF_STATUS_STATE n) 3).setPhase_leaf n .b8).comp hu.leaves
  have hstate : Leaves (2 ^ Part.gafRegs.ctorIdx) (s.expire n) ((s.expire n).wr (F.GAF_STATUS_STATE n) 3) :=
    (Leaves.refl _ _).wr (Part.bit (F.GAF_STATUS_STATE_part n) (by decide))
  rw [hu.gaf, State.gaf_setPhase, hphase.rd (F.GAF_STATUS_STATE_part n) (by decide) (by decide)]
  refine ⟨rfl, State.rd_wr_mod _ _ rfl, fun t ht k hk => ?_⟩
  rw [(hstate.comp hphase).tile (by decide)]
  exact s.expire_poisons n ht hk

end

end

end Sys2Proof.Machine

namespace Sys2Proof.Machine

/-! ### b0: the gob-in sides (R85–R87) -/

section
variable (s : State) (k : Nat)

theorem State.clearGobIn_reg (side o : Nat) : (s.clearGobIn k side).reg o = s.reg o := (rfl)

/-- A swap writes the status of its own tile. -/
theorem State.gobSwapTile_reg {o : Nat} (h : o ≠ 0x200088 + 0x10000 * (k % 128)) : (s.gobSwapTile k).reg o = s.reg o := by
  rw [State.gobSwapTile, State.reg_wr_ne _ _ h, State.reg_wr_ne _ _ h, State.clearGobIn_reg]

theorem State.gobSwapTile_side : (s.gobSwapTile k).rd (F.MPU_GOB_STAT_READ_SIDE k) = 1 - s.rd (F.MPU_GOB_STAT_READ_SIDE k) := by
  rw [State.gobSwapTile, State.rd_wr_clear _ _ rfl, State.rd_wr_mod _ _ rfl]
  exact Nat.mod_eq_of_lt (Nat.lt_succ_of_le (Nat.sub_le 1 _))

theorem State.gobSwapTile_open : (s.gobSwapTile k).rd (F.MPU_GOB_STAT_FILL_CLOSED k) = 0 := by
  rw [State.gobSwapTile, State.rd_wr_mod _ _ rfl, Nat.zero_mod]

/-- The read side's contents go where the tile does not hold them. -/
def State.gobUnheld (s : State) (t : Nat) : State :=
  if s.latched (F.MPU_GOB_CFG_HOLD t) = 1 then s else s.clearGobIn t (s.rd (F.MPU_GOB_STAT_READ_SIDE t))

theorem State.gobUnheld_reg (o : Nat) : (s.gobUnheld k).reg o = s.reg o := by
  unfold State.gobUnheld
  split
  · rfl
  · exact s.clearGobIn_reg k _ o

theorem State.gobUnheld_rd (f : Fld) : (s.gobUnheld k).rd f = s.rd f := congrArg f.of (s.gobUnheld_reg k _)

theorem State.gobNoSwapTile_eq :
    s.gobNoSwapTile k = ((s.gobUnheld k).bump (F.MPU_GOB_NOSWAP_CNT_COUNT k)).wr (F.MPU_GOB_STAT_NOSWAP k) 1 := rfl

theorem State.gobNoSwapTile_side (t : Nat) :
    (s.gobNoSwapTile k).rd (F.MPU_GOB_STAT_READ_SIDE t) = s.rd (F.MPU_GOB_STAT_READ_SIDE t) := by
  rw [s.gobNoSwapTile_eq, State.rd_wr_clear _ _ rfl, ← s.gobUnheld_rd k]
  exact congrArg (F.MPU_GOB_STAT_READ_SIDE t).of (State.reg_bump_ne _ (by
    simp only [F.MPU_GOB_STAT_READ_SIDE, F.MPU_GOB_NOSWAP_CNT_COUNT]
    omega))

theorem State.gobNoSwapTile_shows : (s.gobNoSwapTile k).rd (F.MPU_GOB_STAT_NOSWAP k) = 1 := by
  rw [s.gobNoSwapTile_eq, State.rd_wr_mod _ _ rfl]
  rfl

theorem State.gobNoSwapTile_counts :
    (s.gobNoSwapTile k).rd (F.MPU_GOB_NOSWAP_CNT_COUNT k) = countUp (s.rd (F.MPU_GOB_NOSWAP_CNT_COUNT k)) := by
  rw [s.gobNoSwapTile_eq, ← s.gobUnheld_rd k, ← State.rd_bump_countUp _ _ ⟨rfl, rfl⟩]
  exact congrArg (F.MPU_GOB_NOSWAP_CNT_COUNT k).of (State.reg_wr_ne _ _ (by
    simp only [F.MPU_GOB_STAT_NOSWAP, F.MPU_GOB_NOSWAP_CNT_COUNT]
    omega))

theorem State.gobNoSwapTile_reg {o : Nat} (h : o ≠ 0x200088 + 0x10000 * (k % 128)) (h' : o ≠ 0x20008c + 0x10000 * (k % 128)) :
    (s.gobNoSwapTile k).reg o = s.reg o := by
  rw [s.gobNoSwapTile_eq, State.reg_wr_ne _ _ h, State.reg_bump_ne _ h', State.gobUnheld_reg]

end

/-! ### b0: all tiles of a region swap, or none (R85, R86) -/

/-- The sides of every tile of region `n` swap, and the swap is noted. -/
theorem State.gobBoundary_ready {s : State} {n : Nat} (h : s.gobReady n = true) :
    s.gobBoundary n = (forEach (s.regionTiles n) (fun t s => s.gobSwapTile t) s).setGaf n
      { (forEach (s.regionTiles n) (fun t s => s.gobSwapTile t) s).gaf n with
        swapNotes := ((forEach (s.regionTiles n) (fun t s => s.gobSwapTile t) s).gaf n).swapNotes + 1 } := by
  simp only [State.gobBoundary, h, if_true]

theorem State.gobBoundary_waits {s : State} {n : Nat} (h : s.gobReady n = false) :
    s.gobBoundary n = forEach (s.regionTiles n) (fun t s => s.gobNoSwapTile t) s := by
  simp only [State.gobBoundary, h, Bool.false_eq_true, if_false]

/-- The note of a swap is no mark of the cycle. -/
theorem State.gobBoundary_hit (s : State) (n : Nat) : ((s.gobBoundary n).gaf n).hit = (s.gaf n).hit := by
  cases h : s.gobReady n with
  | true =>
    have hswap : Leaves 0x100004000 s (forEach (s.regionTiles n) (fun t s => s.gobSwapTile t) s) :=
      (Leaves.refl _ s).forEach fun _ _ hu => State.gobSwapTile_leaves hu rfl _
    rw [State.gobBoundary_ready h, State.gaf_setGaf, hswap.gaf (by decide)]
  | false =>
    have hstay : Leaves 0x100004000 s (forEach (s.regionTiles n) (fun t s => s.gobNoSwapTile t) s) :=
      (Leaves.refl _ s).forEach fun _ _ hu => State.gobNoSwapTile_leaves hu rfl _
    rw [State.gobBoundary_waits h, hstay.gaf (by decide)]

theorem State.rd_setGaf (s : State) (n : Nat) (g : Gaffer) (f : Fld) : (s.setGaf n g).rd f = s.rd f := (rfl)

section
variable {s : State} {n t : Nat} (ht : t ∈ s.regionTiles n)
include ht

theorem State.gobBoundary_swaps (h : s.gobReady n = true) :
    (s.gobBoundary n).rd (F.MPU_GOB_STAT_READ_SIDE t) = 1 - s.rd (F.MPU_GOB_STAT_READ_SIDE t) ∧
      (s.gobBoundary n).rd (F.MPU_GOB_STAT_FILL_CLOSED t) = 0 := by
  have hother : ∀ k ∈ s.regionTiles n, k ≠ t → ∀ u : State, (u.gobSwapTile k).reg (0x200088 + 0x10000 * (t % 128)) =
      u.reg (0x200088 + 0x10000 * (t % 128)) := fun k hk hne u => by
    have := State.regionTiles_lt hk
    have := State.regionTiles_lt ht
    exact u.gobSwapTile_reg k (by omega)
  rw [State.gobBoundary_ready h, State.rd_setGaf, State.rd_setGaf]
  exact ⟨forEach_obs_in (f := fun k (u : State) => u.gobSwapTile k) (State.rd · (F.MPU_GOB_STAT_READ_SIDE t))
      (g := fun x => 1 - x) (s.regionTiles_nodup n) ht
      (fun k hk hne u => congrArg (F.MPU_GOB_STAT_READ_SIDE t).of (hother k hk hne u)) (fun u => u.gobSwapTile_side t) s,
    forEach_obs_in (f := fun k (u : State) => u.gobSwapTile k) (State.rd · (F.MPU_GOB_STAT_FILL_CLOSED t))
      (g := fun _ => 0) (s.regionTiles_nodup n) ht
      (fun k hk hne u => congrArg (F.MPU_GOB_STAT_FILL_CLOSED t).of (hother k hk hne u)) (fun u => u.gobSwapTile_open t) s⟩

theorem State.gobBoundary_stays (h : s.gobReady n = false) :
    (s.gobBoundary n).rd (F.MPU_GOB_STAT_READ_SIDE t) = s.rd (F.MPU_GOB_STAT_READ_SIDE t) ∧
      Counted s (s.gobBoundary n) (F.MPU_GOB_NOSWAP_CNT_COUNT t) ∧
      (s.gobBoundary n).rd (F.MPU_GOB_STAT_NOSWAP t) = 1 := by
  have hlt := State.regionTiles_lt ht
  rw [State.gobBoundary_waits h]
  refine ⟨?_, ?_, ?_⟩
  · exact forEach_obs_out (f := fun k (u : State) => u.gobNoSwapTile k) (State.rd · (F.MPU_GOB_STAT_READ_SIDE t))
      (fun k _ u => u.gobNoSwapTile_side k t) s
  · refine counted_of_countUp (forEach_obs_in (f := fun k (u : State) => u.gobNoSwapTile k)
      (State.rd · (F.MPU_GOB_NOSWAP_CNT_COUNT t)) (g := countUp)
      (s.regionTiles_nodup n) ht (fun k hk hne u => ?_) (fun u => u.gobNoSwapTile_counts t) s)
    have := State.regionTiles_lt hk
    exact congrArg (F.MPU_GOB_NOSWAP_CNT_COUNT t).of (u.gobNoSwapTile_reg k
      (by simp only [F.MPU_GOB_NOSWAP_CNT_COUNT]; omega) (by simp only [F.MPU_GOB_NOSWAP_CNT_COUNT]; omega))
  · refine forEach_obs_in (f := fun k (u : State) => u.gobNoSwapTile k) (State.rd · (F.MPU_GOB_STAT_NOSWAP t)) (g := fun _ => 1)
      (s.regionTiles_nodup n) ht (fun k hk hne u => ?_) (fun u => u.gobNoSwapTile_shows t) s
    have := State.regionTiles_lt hk
    exact congrArg (F.MPU_GOB_STAT_NOSWAP t).of (u.gobNoSwapTile_reg k
      (by simp only [F.MPU_GOB_STAT_NOSWAP]; omega) (by simp only [F.MPU_GOB_STAT_NOSWAP]; omega))

end

end Sys2Proof.Machine

namespace Sys2Proof.Machine

/-! ### b0: the rest of the boundary leaves the gob-in status (R81, R93, R94) -/

/-- A field of gob-in's status or count that a missing far slot does not show in. -/
structure Fld.GobIn (f : Fld) : Prop where
  part : regPart f.off = .mpuRegs
  off : f.off % 0x10000 = 0x88 ∨ f.off % 0x10000 = 0x8c
  apart : ∀ k, f.off ≠ (F.MPU_GOB_STAT_FAR_MISS k).off ∨ (F.MPU_GOB_STAT_FAR_MISS k).clear f = true

theorem gobIn_readSide (t : Nat) : (F.MPU_GOB_STAT_READ_SIDE t).GobIn :=
  ⟨F.MPU_GOB_STAT_READ_SIDE_part t, .inl (by simp only [F.MPU_GOB_STAT_READ_SIDE]; omega), fun _ => .inr rfl⟩

theorem gobIn_fillClosed (t : Nat) : (F.MPU_GOB_STAT_FILL_CLOSED t).GobIn :=
  ⟨F.MPU_GOB_STAT_FILL_CLOSED_part t, .inl (by simp only [F.MPU_GOB_STAT_FILL_CLOSED]; omega), fun _ => .inr rfl⟩

theorem gobIn_noSwap (t : Nat) : (F.MPU_GOB_STAT_NOSWAP t).GobIn :=
  ⟨F.MPU_GOB_STAT_NOSWAP_part t, .inl (by simp only [F.MPU_GOB_STAT_NOSWAP]; omega), fun _ => .inr rfl⟩

theorem gobIn_noSwapCnt (t : Nat) : (F.MPU_GOB_NOSWAP_CNT_COUNT t).GobIn :=
  ⟨F.MPU_GOB_NOSWAP_CNT_COUNT_part t, .inr (by simp only [F.MPU_GOB_NOSWAP_CNT_COUNT]; omega),
    fun k => .inl (by simp only [F.MPU_GOB_NOSWAP_CNT_COUNT, F.MPU_GOB_STAT_FAR_MISS]; omega)⟩

/-- Missing far slots, counted and shown. -/
def State.farMissed (s : State) (t : Nat) : State :=
  if (s.farMissing t).length = 0 then s
  else (s.bumpBy (F.MPU_FAR_MISS_CNT_COUNT t) (s.farMissing t).length).wr (F.MPU_GOB_STAT_FAR_MISS t) 1

/-- The far-in sides of a tile swapped. -/
def State.farTurn (s : State) (t : Nat) : State :=
  (s.withFarIn (Tab.clear s.farIn (farKey t 0 (s.tile t).farSide) (farKey t 8 (s.tile t).farSide))).setTile t
    { s.tile t with farSide := !(s.tile t).farSide }

theorem State.farSwapTile_eq (s : State) (t : Nat) : s.farSwapTile t = (s.farMissed t).farTurn t := rfl

theorem State.farTurn_rd (s : State) (t : Nat) (f : Fld) : (s.farTurn t).rd f = s.rd f := (rfl)

/-- A row that failed, marked and recorded (R81). -/
def State.rowRecorded (s : State) (t r : Nat) : State :=
  let s1 := (s.spoilRow t r).setTile t { (s.spoilRow t r).tile t with rowsBad := r :: ((s.spoilRow t r).tile t).rowsBad }
  if s1.on (F.MPU_RT_ERR_VALID t) then s1 else s1.setReg (0x200098 + 0x10000 * (t % 128)) (BitVec.ofNat 32 (2 ^ 31 + r))

theorem State.rowFails_eq (s : State) (n t r : Nat) : s.rowFails n t r =
    (((s.rowRecorded t r).bump (F.MPU_RT_ERR_CNT_COUNT t)).raise Ev.MPU_ROUTE_ERR).fault2 n 17 (t + 2 ^ 7 * r) 4 := rfl

theorem State.setTile_reg (s : State) (t : Nat) (x : Tile) (o : Nat) : (s.setTile t x).reg o = s.reg o := (rfl)

theorem State.spoilRow_reg (s : State) (t r o : Nat) : (s.spoilRow t r).reg o = s.reg o :=
  congrArg (Tab.get regReset · o) (State.withRoutes_regs s _)

theorem State.rowRecorded_reg (s : State) (t r : Nat) {o : Nat} (h : o ≠ 0x200098 + 0x10000 * (t % 128)) :
    (s.rowRecorded t r).reg o = s.reg o := by
  unfold State.rowRecorded
  dsimp only
  generalize hmark : (s.spoilRow t r).setTile t _ = v
  have hkept : v.reg o = s.reg o := by rw [← hmark, State.setTile_reg, State.spoilRow_reg]
  split
  · exact hkept
  · exact (State.reg_setReg_ne _ _ h).trans hkept

theorem State.rowRecorded_rises (s : State) (t r : Nat) : Rises s (s.rowRecorded t r) :=
  Rises.of_evt fun o ho => s.rowRecorded_reg t r fun h => by
    rw [h, regPart_mpuRegs (by omega) (by omega)] at ho
    cases ho

theorem State.rowFails_rises (s : State) (n t r : Nat) : Rises s (s.rowFails n t r) := by
  rw [s.rowFails_eq]
  exact (((s.rowRecorded_rises t r).bump (.inr (by simp only [F.MPU_RT_ERR_CNT_COUNT]; omega))).raise _).trans
    (State.fault2_rises _ _ _ _ _)

theorem State.sweepRows_rises (s : State) (n : Nat) : Rises s (s.sweepRows n) :=
  .forEach (fun t u => .forEach (fun r w => w.rowFails_rises n t r) _ u) _ s

section
variable (s : State) {f : Fld} (hf : f.GobIn)
include hf

theorem State.farSwapTile_rd (t : Nat) : (s.farSwapTile t).rd f = s.rd f := by
  rw [s.farSwapTile_eq, State.farTurn_rd]
  unfold State.farMissed
  split
  · rfl
  · have hcount : ∀ j, (s.bumpBy (F.MPU_FAR_MISS_CNT_COUNT t) j).rd f = s.rd f := fun j =>
      congrArg f.of (s.reg_bumpBy_ne j (by
        have := hf.off
        simp only [F.MPU_FAR_MISS_CNT_COUNT]
        omega))
    rw [← hcount (s.farMissing t).length]
    rcases hf.apart t with hoff | hclear
    · exact congrArg f.of (State.reg_wr_ne _ _ hoff)
    · exact State.rd_wr_clear _ _ hclear

theorem State.farSwap_rd (n : Nat) : (s.farSwap n).rd f = s.rd f := by
  have htiles := forEach_obs_out (l := (s.regionTiles n).filter fun t => s.farIn? t) (f := fun t (u : State) => u.farSwapTile t)
    (State.rd · f) (fun t _ u => u.farSwapTile_rd hf t) s
  unfold State.farSwap
  dsimp only
  generalize forEach ((s.regionTiles n).filter fun t => s.farIn? t) (fun t s => s.farSwapTile t) s = v at *
  split
  · rw [← htiles]
    exact (State.raise_leaves (.refl 0x10001990080000002010 v) rfl _).rd hf.part (by decide) (by decide)
  · exact htiles

theorem State.rowFails_rd (n t r : Nat) : (s.rowFails n t r).rd f = s.rd f := by
  have ho := hf.off
  have hrecord : (s.rowRecorded t r).reg f.off = s.reg f.off := s.rowRecorded_reg t r (by omega)
  refine congrArg f.of ?_
  rw [s.rowFails_eq, State.fault2_mpu _ hf.part (by omega),
    (State.raise_leaves (.refl 0x10001990080000002010 _) rfl _).reg (by rw [hf.part]; decide),
    State.reg_bump_ne _ (by simp only [F.MPU_RT_ERR_CNT_COUNT]; omega), hrecord]

theorem State.sweepRows_rd (n : Nat) : (s.sweepRows n).rd f = s.rd f := by
  unfold State.sweepRows
  refine forEach_obs_out (State.rd · f) (fun t _ u => ?_) s
  exact forEach_obs_out (f := fun r (w : State) => w.rowFails n t r) (State.rd · f) (fun r _ w => w.rowFails_rd hf n t r) u

end

/-! ### The step at b0 (R49) -/

/-- The far-in sides swap where the cycle exchanges (R93). -/
def State.farBoundary (s : State) (n : Nat) : State := if (s.gaf n).cur.xchg then s.farSwap n else s

/-- A breakpoint that was hit is raised (R72). -/
def State.hitBoundary (s : State) (n : Nat) : State := if (s.gaf n).hit then s.raise (Ev.GAF n 4) else s

section
variable (s : State) (n : Nat)

theorem State.farBoundary_gaf : (s.farBoundary n).gaf n = s.gaf n := by
  unfold State.farBoundary
  split
  · exact (State.farSwap_leaves (.refl 0x10001990083000006010 s) rfl n).gaf (by decide) n
  · rfl

theorem State.hitBoundary_pends (h : (s.gaf n).hit = true) : Pends (s.hitBoundary n) (Ev.GAF n 4) := by
  rw [State.hitBoundary, if_pos h]
  exact State.rd_raise_self _ _

theorem State.boundary_rd {f : Fld} (hf : f.GobIn) : (((s.farBoundary n).hitBoundary n).sweepRows n).rd f = s.rd f := by
  rw [State.sweepRows_rd _ hf]
  have hfar : (s.farBoundary n).rd f = s.rd f := by
    unfold State.farBoundary
    split
    · exact s.farSwap_rd hf n
    · rfl
  rw [← hfar]
  unfold State.hitBoundary
  split
  · exact (State.raise_leaves (.refl 0x10001990080000002010 _) rfl _).rd hf.part (by decide) (by decide)
  · rfl

end

section
variable {s : State} {n : Fin 16} (hl : s.live = true) (hp : (s.gaf n).phase = .window)
include hl hp

theorem exec_cycleBoundaryB0 : exec (.cycleBoundaryB0 n) s = .next (s.endClock
    (((((s.gobBoundary n).farBoundary n).hitBoundary n).sweepRows n).setPhase n .b0)) := by
  simp only [exec, execCycleBoundaryB0, act_live hl, hp, if_true]
  rfl

theorem cycleBoundaryB0_swaps : Runs (.cycleBoundaryB0 n) s fun u =>
    (u.gaf n).phase = .b0 ∧
    (s.gobReady n = true → ∀ t ∈ s.regionTiles n,
      u.rd (F.MPU_GOB_STAT_READ_SIDE t) = 1 - s.rd (F.MPU_GOB_STAT_READ_SIDE t) ∧ u.rd (F.MPU_GOB_STAT_FILL_CLOSED t) = 0) ∧
    (s.gobReady n = false → ∀ t ∈ s.regionTiles n,
      u.rd (F.MPU_GOB_STAT_READ_SIDE t) = s.rd (F.MPU_GOB_STAT_READ_SIDE t) ∧
      Counted s u (F.MPU_GOB_NOSWAP_CNT_COUNT t) ∧ u.rd (F.MPU_GOB_STAT_NOSWAP t) = 1) ∧
    ((s.gaf n).hit = true → Pends u (Ev.GAF n 4)) := by
  refine Runs.of_clocked (exec_cycleBoundaryB0 hl hp) fun u hu => ?_
  have hkeep : ∀ {f : Fld}, f.GobIn → u.rd f = (s.gobBoundary n).rd f := fun hf => by
    rw [hu.rd, (State.setPhase_leaf _ n .b0).rd hf.part (by decide) (by decide), State.boundary_rd _ _ hf]
  refine ⟨?_, fun hready t ht => ?_, fun hready t ht => ?_, fun hhit => ?_⟩
  · rw [hu.gaf, State.gaf_setPhase]
  · rw [hkeep (gobIn_readSide t), hkeep (gobIn_fillClosed t)]
    exact State.gobBoundary_swaps ht hready
  · rw [hkeep (gobIn_readSide t), hkeep (gobIn_noSwap t), Counted, hkeep (gobIn_noSwapCnt t)]
    exact State.gobBoundary_stays ht hready
  · have hmark : (((s.gobBoundary n).farBoundary n).gaf n).hit = true := by
      rw [State.farBoundary_gaf, State.gobBoundary_hit, hhit]
    exact hu.pends ((State.setPhase_leaf _ n .b0).rises (by decide) _
      (State.sweepRows_rises _ n _ (State.hitBoundary_pends _ _ hmark)))

end

end Sys2Proof.Machine

namespace Sys2Proof.Machine

/-! ### What a commit changes of a tile, and what leaves it (R65, R89, R91) -/

/-- The side, the status and the poison flags of a tile. -/
def State.sides (t : Nat) (s : State) : Bool × Nat × Nat := ((s.tile t).outSide, (s.tile t).status, (s.tile t).poison)

/-- No tile's side, status or poison has changed. -/
def SidesKept (s u : State) : Prop := ∀ t, u.sides t = s.sides t

theorem SidesKept.refl (s : State) : SidesKept s s := fun _ => rfl

theorem SidesKept.trans {s t u : State} (h : SidesKept s t) (k : SidesKept t u) : SidesKept s u := fun x => (k x).trans (h x)

theorem SidesKept.ite {s t u : State} {c : Prop} [Decidable c] (ht : SidesKept s t) (hu : SidesKept s u) :
    SidesKept s (if c then t else u) := by
  split
  · exact ht
  · exact hu

theorem Leaves.sidesKept {m : Nat} {s u : State} (h : Leaves m s u) (hm : m.testBit Part.tiles.ctorIdx = false) : SidesKept s u :=
  fun t => by rw [State.sides, State.sides, h.tile hm]

theorem SidesKept.forEach {α : Type} {f : α → State → State} (hf : ∀ a s, SidesKept s (f a s)) (l : List α) (s : State) :
    SidesKept s (forEach l f s) := fun t => forEach_obs_out (State.sides t) (fun a _ u => hf a u t) s

theorem SidesKept.setTile (s : State) (k : Nat) {x : Tile} (hside : x.outSide = (s.tile k).outSide)
    (hstatus : x.status = (s.tile k).status) (hpoison : x.poison = (s.tile k).poison) : SidesKept s (s.setTile k x) := fun t => by
  by_cases h : t = k
  · rw [h, State.sides, State.tile_setTile, hside, hstatus, hpoison, State.sides]
  · rw [State.sides, State.tile_setTile_ne _ _ h, State.sides]

theorem State.gobArrive_sides (s : State) (t : Nat) (w : GobWrite) : SidesKept s (s.gobArrive t w) := by
  have hknock : SidesKept s (s.knock (t / 8)) :=
    (State.knock_leaves (.refl 0x10041990080000002012 s) rfl (t / 8)).sidesKept (by decide)
  unfold State.gobArrive
  dsimp only
  generalize s.knock (t / 8) = v at *
  refine .ite (.refl s) (hknock.trans (.ite (.setTile v t rfl rfl rfl) ?_))
  exact (State.gobApply_leaves (.refl 0x100004000 v) rfl t w).sidesKept (by decide)

theorem State.putGob_sides (s : State) (e : Nat) (d : Desc) (bs : List Byte) : SidesKept s (s.putGob e d bs).1 := by
  unfold State.putGob
  dsimp only
  split
  · exact (SidesKept.forEach (fun t u => .forEach (fun p w => w.gobArrive_sides t _) _ u) _ s).trans
      (.forEach (fun t u => u.gobArrive_sides t _) _ _)
  · exact .forEach (fun t u => .forEach (fun p w => w.gobArrive_sides t _) _ u) _ s

theorem State.dmaPut_sides (s : State) (e : Nat) (d : Desc) (bs : List Byte) : SidesKept s (s.dmaPut e d bs) := by
  have hput : ∀ x : State × Desc, SidesKept s x.1 → SidesKept s (x.1.putDesc e { x.2 with got := x.2.got + bs.length }) :=
    fun x hx => hx.trans ((State.putDesc_leaves (.refl 0x10000000000000 x.1) rfl e _).sidesKept (by decide))
  unfold State.dmaPut
  refine hput _ ?_
  split
  · split
    · exact (State.putWindow_leaves (.refl 0x100019b0080000002011 s) rfl e d bs).sidesKept (by decide)
    · exact (State.putFor_leaves (.refl 0x10061b900f000008201b s) rfl _ _ _ _ _).sidesKept (by decide)
  · split
    · exact (State.hostWrite_leaves (.refl 0x10000080000000000000 s) rfl _ bs).sidesKept (by decide)
    · split
      · exact s.putGob_sides e d bs
      · exact (State.putFrame_leaves (.refl 0x10001d90080000202010 s) rfl e d bs).sidesKept (by decide)

/-- How many bytes of a drain were sent before its cut. -/
def State.drainSent (s : State) (d : Desc) : Nat := 64 * (s.draw % ((d.total + 63) / 64))

/-- Tiles whose drain was cut show it. -/
def State.markCuts (s : State) (l : List Nat) : State := forEach l (fun t s => s.wr (F.MPU_GOB_STAT_CUT t) 1) s

theorem State.markCuts_leaf (s : State) (l : List Nat) : Leaves 0x4000 s (s.markCuts l) :=
  (Leaves.refl _ s).forEach fun t _ hu => hu.wr (Part.bit (F.MPU_GOB_STAT_CUT_part t) (by decide))

theorem State.cutDesc_eq (s : State) (n e : Nat) (d : Desc) : s.cutDesc n e d =
    ((((s.drawn.dmaPut e { d with asked := d.len } ((s.gobOutBytes d).take (s.drainSent d))).markCuts
      ((gobTiles d.src).drop (s.drainSent d / (16 + d.len)))).endDesc e { d with asked := d.len } 3).raise (Ev.GAF n 5)) := rfl

theorem State.cutDesc_sides (s : State) (n e : Nat) (d : Desc) : SidesKept s (s.cutDesc n e d) := by
  rw [s.cutDesc_eq]
  generalize hput : s.drawn.dmaPut e _ _ = v
  have hmoved : SidesKept s v := hput ▸
    ((State.drawn_leaves (.refl 0x8000000000000000000 s) rfl).sidesKept (by decide)).trans (State.dmaPut_sides _ _ _ _)
  generalize hmark : v.markCuts _ = w
  have hmarked : Leaves 0x4000 v w := hmark ▸ v.markCuts_leaf _
  have hend := State.raise_leaves (State.endDesc_leaves (.refl 0x10061bb00f000008241b w) rfl e { d with asked := d.len } 3)
    rfl (Ev.GAF n 5)
  exact hmoved.trans ((hmarked.comp hend).sidesKept (by decide))

theorem State.dmaCut_sides (s : State) (n : Nat) : SidesKept s (s.dmaCut n) :=
  .forEach (fun e u => .forEach (fun d w => w.cutDesc_sides n e d) _ u) _ s

end Sys2Proof.Machine

namespace Sys2Proof.Machine

/-! ### b4: the exchange and the deliveries that waited keep what was committed (R87, R93, R183) -/

theorem State.farMeet_sides (s : State) (n t k tag data : Nat) : SidesKept s (s.farMeet n t k tag data) := by
  have hstore : SidesKept s ((s.farStore t k data).wr F.TB_XSYNC_SYNCED (setBitTo (s.rd F.TB_XSYNC_SYNCED) n true)) :=
    ((State.farStore_leaves (.refl 0x1000000100 s) (by decide) t k data).wr (Part.bit F.TB_XSYNC_SYNCED_part (by decide))).sidesKept
      (by decide)
  unfold State.farMeet
  exact .ite hstore (.ite (.setTile s t rfl rfl rfl) ((State.farDrop_leaves (.refl 0x4000 s) rfl t).sidesKept (by decide)))

theorem State.farRetry_sides (s : State) (n t : Nat) : SidesKept s (s.farRetry n t) :=
  (SidesKept.setTile s t (x := { s.tile t with farWait := [] }) rfl rfl rfl).trans
    (.forEach (fun (w : FarWait) u => u.farMeet_sides n t w.slot w.tag w.data) _ _)

theorem State.forgetTags_sides (s : State) (n : Nat) : SidesKept s (s.forgetTags n) :=
  .forEach (fun t u => .setTile u t (x := { u.tile t with farSeen := [] }) rfl rfl rfl) _ s

theorem State.applyWaiting_sides (s : State) (t : Nat) : SidesKept s (s.applyWaiting t) :=
  (SidesKept.setTile s t (x := { s.tile t with waiting := [] }) rfl rfl rfl).trans
    (.forEach (fun w u => (State.gobApply_leaves (.refl 0x100004000 u) rfl t w).sidesKept (by decide)) _ _)

/-- The far-out areas of region `n` sent, where the cycle is valid. -/
def State.farSends (s : State) (n : Nat) (valid : Bool) : State :=
  if valid then forEach ((s.regionTiles n).filter fun t => s.farOut? t) (fun t u => u.farSend n t (s.xOf n)) s else s

theorem State.farSends_leaf (s : State) (n : Nat) (valid : Bool) : Leaves 0x10000000080000000000 s (s.farSends n valid) :=
  .ite ((Leaves.refl _ s).forEach fun _ _ hu => State.farSend_leaves hu rfl n _ _) (.refl _ s)

theorem State.exchange_eq (s : State) (n : Nat) (valid : Bool) : s.exchange n valid =
    forEach ((((s.xSync n).farSends n valid).setX n ((s.xSync n).xOf n + 1)).regionTiles n) (fun t s => s.farRetry n t)
      (((s.xSync n).farSends n valid).setX n ((s.xSync n).xOf n + 1)) := rfl

theorem State.exchange_sides (s : State) (n : Nat) (valid : Bool) : SidesKept s (s.exchange n valid) := by
  have hsync : Leaves 0x4000 s (s.xSync n) := State.xSync_leaves (.refl _ s) rfl n
  have hsend := hsync.comp ((s.xSync n).farSends_leaf n valid)
  have hcount := hsend.comp (State.setX_leaves (.refl 0x4000 ((s.xSync n).farSends n valid)) rfl n ((s.xSync n).xOf n + 1))
  rw [s.exchange_eq]
  exact (hcount.sidesKept (by decide)).trans (.forEach (fun t u => u.farRetry_sides n t) _ _)

/-! ### b4: the commit of one tile (R65, R89) -/

/-- The status word of a side committed with operands `o` (R65). -/
def commitWord (o : SpecialOps) (valid : Bool) (poison : Nat) : Nat :=
  o.line % 2 ^ 48 + 2 ^ 48 * b2n valid + 2 ^ 49 * b2n o.first + 2 ^ 50 * b2n o.switched + 2 ^ 51 * b2n o.overrun +
    2 ^ 52 * b2n (poison != 0)

/-- A tile's sides after a commit. -/
def committed (o : SpecialOps) (valid : Bool) (x : Bool × Nat × Nat) : Bool × Nat × Nat := (!x.1, commitWord o valid x.2.2, x.2.2)

/-- A tile turned over at its commit. -/
def State.turnTile (s : State) (t : Nat) (o : SpecialOps) (valid : Bool) : State :=
  s.setTile t { s.tile t with outSide := !(s.tile t).outSide, status := commitWord o valid (s.tile t).poison }

/-- The fill side of tile `t` cleared. -/
def State.clearFill (s : State) (t : Nat) : State := s.withGobOut (Tab.clear s.gobOut (s.outFill t) (s.outFill t + 2048))

/-- The fill side of tile `t` holds zeros. -/
def State.fillClear (t : Nat) (s : State) : Prop := ∀ a, s.outFill t ≤ a → a < s.outFill t + 2048 → Bytes.get s.gobOut a = 0

section
variable (s : State) (t : Nat) (o : SpecialOps) (valid : Bool)

theorem State.commitTile_eq : s.commitTile t o valid = (s.turnTile t o valid).clearFill t := rfl

theorem State.clearFill_tile (k : Nat) : (s.clearFill t).tile k = s.tile k := (rfl)

theorem State.commitTile_sides : (s.commitTile t o valid).sides t = committed o valid (s.sides t) := by
  rw [State.commitTile_eq, State.sides, State.clearFill_tile, State.turnTile, State.tile_setTile, committed, State.sides]

theorem State.commitTile_tile_ne {k : Nat} (h : k ≠ t) : (s.commitTile t o valid).tile k = s.tile k := by
  rw [State.commitTile_eq, State.clearFill_tile, State.turnTile, State.tile_setTile_ne _ _ h]

theorem State.outFill_congr {s u : State} {t : Nat} (h : u.sides t = s.sides t) : u.outFill t = s.outFill t :=
  congrArg (fun b => (t * 2 + b2n (!b)) * 2048) (congrArg Prod.fst h)

theorem State.clearFill_clears : (s.clearFill t).fillClear t := fun _ hlo hhi => Tab.get_clear_in _ _ ⟨hlo, hhi⟩

/-- A byte that a clear leaves as it was, or clears. -/
theorem State.clearFill_get {a : Nat} (h : Bytes.get s.gobOut a = 0) : Bytes.get (s.clearFill t).gobOut a = 0 := by
  by_cases hin : s.outFill t ≤ a ∧ a < s.outFill t + 2048
  · exact Tab.get_clear_in _ _ hin
  · exact (Tab.get_clear_out _ _ hin).trans h

theorem State.commitTile_clears : (s.commitTile t o valid).fillClear t := by
  rw [State.commitTile_eq]
  exact State.clearFill_clears _ t

theorem State.commitTile_keeps {k : Nat} (h : s.fillClear k) : (s.commitTile t o valid).fillClear k := by
  by_cases hk : k = t
  · rw [hk]
    exact s.commitTile_clears t o valid
  · intro a hlo hhi
    have hfill : (s.commitTile t o valid).outFill k = s.outFill k :=
      congrArg (fun x : Tile => (k * 2 + b2n (!x.outSide)) * 2048) (s.commitTile_tile_ne t o valid hk)
    rw [hfill] at hlo hhi
    rw [State.commitTile_eq]
    exact State.clearFill_get _ t (h a hlo hhi)

end

/-- Every tile of a list commits. -/
def State.commitTiles (s : State) (l : List Nat) (o : SpecialOps) (valid : Bool) : State :=
  forEach l (fun t s => s.commitTile t o valid) s

section
variable (s : State) (o : SpecialOps) (valid : Bool) {l : List Nat} {t : Nat} (ht : t ∈ l)

include ht

theorem State.commitTiles_sides (hn : l.Nodup) : (s.commitTiles l o valid).sides t = committed o valid (s.sides t) :=
  forEach_obs_in (f := fun t (u : State) => u.commitTile t o valid) (State.sides t) hn ht
    (fun k _ hk u => by rw [State.sides, u.commitTile_tile_ne k o valid (Ne.symm hk), State.sides])
    (fun u => u.commitTile_sides t o valid) s

theorem State.commitTiles_clears : (s.commitTiles l o valid).fillClear t :=
  forEach_reaches (f := fun t (u : State) => u.commitTile t o valid) ht (fun k _ u hu => u.commitTile_keeps k o valid hu)
    (fun u => u.commitTile_clears t o valid) s

end

end Sys2Proof.Machine

namespace Sys2Proof.Machine

/-! ### The step at b4 (R49, R65, R87, R89, R90, R93, R119, R127) -/

/-- The drains of region `n` that still run are cut. -/
def State.cutAll (s : State) (n : Nat) : State := (s.cutDrains n).dmaCut n

/-- Region `n` at b4, its tiles committed. -/
def State.atB4 (s : State) (n : Nat) : State :=
  s.setGaf n { s.gaf n with phase := .b4, commitTime := s.now }

/-- The exchange of a cycle that exchanges, and the tags forgotten. -/
def State.exchanged (s : State) (n : Nat) (xchg valid : Bool) : State :=
  (if xchg && s.hasFar n then s.exchange n valid else s).forgetTags n

/-- The memory-port requests of a valid cycle go out. -/
def State.issued (s : State) (n : Nat) (valid : Bool) : State := if valid then s.issueRegion n else s

/-- The deliveries that waited apply. -/
def State.delivered (s : State) (n : Nat) : State := forEach (s.regionTiles n) (fun t s => s.applyWaiting t) s

/-- The COMMITs attached to the cycle start their drains, and descriptors that wait for the boundary are released. -/
def State.drainStarts (s : State) (n : Nat) (commits : List Nat) : State :=
  (forEach commits (fun k s => s.startDrain n k) s).dmaSync n

section
variable (s : State) (n : Nat)

theorem State.cutAll_leaf : Leaves 0x18061fb00f610028641b s (s.cutAll n) :=
  State.dmaCut_leaves (State.cutDrains_leaves (.refl _ s) (by decide) n) (by decide) n

theorem State.cutAll_sides : SidesKept s (s.cutAll n) :=
  ((State.cutDrains_leaves (.refl 0x18061b900f400008601b s) rfl n).sidesKept (by decide)).trans (State.dmaCut_sides _ n)

theorem State.atB4_leaf : Leaves 0x4000000000 s (s.atB4 n) := State.setGaf_leaves (.refl _ s) rfl n _

theorem State.atB4_phase : ((s.atB4 n).gaf n).phase = .b4 := by
  rw [State.atB4, State.gaf_setGaf]

theorem State.exchanged_leaf (xchg valid : Bool) : Leaves 0x1000000008b000004100 s (s.exchanged n xchg valid) :=
  State.forgetTags_leaves (.ite (State.exchange_leaves (.refl _ s) (by decide) n valid) (.refl _ s)) (by decide) n

theorem State.exchanged_sides (xchg valid : Bool) : SidesKept s (s.exchanged n xchg valid) :=
  (SidesKept.ite (s.exchange_sides n valid) (.refl s)).trans (State.forgetTags_sides _ n)

theorem State.issued_leaf (valid : Bool) : Leaves 0x10001990088000006010 s (s.issued n valid) :=
  .ite (State.issueRegion_leaves (.refl _ s) rfl n) (.refl _ s)

theorem State.delivered_leaf : Leaves 0x2100004000 s (s.delivered n) :=
  (Leaves.refl _ s).forEach fun _ _ hu => State.applyWaiting_leaves hu rfl _

theorem State.delivered_sides : SidesKept s (s.delivered n) := .forEach (fun t u => u.applyWaiting_sides t) _ s

theorem State.drainStarts_leaf (ks : List Nat) : Leaves 0x10061b900f400008301b s (s.drainStarts n ks) :=
  State.dmaSync_leaves ((Leaves.refl _ s).forEach fun _ _ hu => State.startDrain_leaves hu rfl n _) (by decide) n

/-- A drain that starts is noted in the gaffer, whose phase stays. -/
theorem State.startDrain_phase (k : Nat) : ((s.startDrain n k).gaf n).phase = (s.gaf n).phase := by
  unfold State.startDrain
  dsimp only
  split
  · exact congrArg Gaffer.phase ((State.raise_leaves (.refl 0x10001990080000002010 s) rfl _).gaf (by decide) n)
  · generalize hv : (s.wr (F.GAF_COM_SEQ_SEQ n k) _).hbmWrite _ _ = v
    have hgaf : v.gaf n = s.gaf n := by
      rw [← hv, (State.hbmWrite_leaves (.refl 0x10061b900f000008201b _) rfl _ _).gaf (by decide), State.gaf_wr]
    rw [State.gaf_setGaf, ← hgaf]

theorem State.drainStarts_phase (ks : List Nat) : ((s.drainStarts n ks).gaf n).phase = (s.gaf n).phase := by
  rw [State.drainStarts, (State.dmaSync_leaves (.refl 0x10000000000000 _) rfl n).gaf (by decide)]
  exact forEach_obs_out (f := fun k (u : State) => u.startDrain n k) (fun u => (u.gaf n).phase)
    (fun k _ u => u.startDrain_phase n k) s

end

/-- What follows the commit at b4. -/
def State.afterCommit (s : State) (n : Nat) (g : Gaffer) : State :=
  ((((s.atB4 n).exchanged n g.cur.xchg (!g.outBad)).issued n (!g.outBad)).delivered n).drainStarts n g.cur.commits

section
variable (s : State) (n : Nat) (g : Gaffer)

theorem State.afterCommit_phase : ((s.afterCommit n g).gaf n).phase = .b4 := by
  rw [State.afterCommit, State.drainStarts_phase, (State.delivered_leaf _ n).gaf (by decide),
    (State.issued_leaf _ n _).gaf (by decide), (State.exchanged_leaf _ n _ _).gaf (by decide), State.atB4_phase]

theorem State.afterCommit_gobOut : (s.afterCommit n g).gobOut = s.gobOut := by
  have hb4 := (s.atB4_leaf n).comp (State.exchanged_leaf _ n g.cur.xchg (!g.outBad))
  have hout := ((hb4.comp (State.issued_leaf _ n (!g.outBad))).comp (State.delivered_leaf _ n)).comp
    (State.drainStarts_leaf _ n g.cur.commits)
  exact hout.same .gobOut (by decide)

theorem State.afterCommit_sides : SidesKept s (s.afterCommit n g) :=
  ((((State.atB4_leaf s n).sidesKept (by decide)).trans (State.exchanged_sides _ n _ _)).trans
    ((State.issued_leaf _ n _).sidesKept (by decide))).trans ((State.delivered_sides _ n).trans
    ((State.drainStarts_leaf _ n _).sidesKept (by decide)))

end

section
variable {s : State} {n : Fin 16} (hl : s.live = true) (hp : (s.gaf n).phase = .b3)
include hl hp

theorem exec_gobOutCommit : exec (.gobOutCommit n) s = .next (s.endClock
    (((s.cutAll n).commitTiles ((s.cutAll n).regionTiles n) (s.gaf n).ops (!(s.gaf n).outBad)).afterCommit n (s.gaf n))) := by
  simp only [exec, execGobOutCommit, act_live hl, hp, if_true]
  rfl

theorem gobOutCommit_commits : Runs (.gobOutCommit n) s fun u =>
    (u.gaf n).phase = .b4 ∧
    (∀ t ∈ s.regionTiles n, u.sides t = committed (s.gaf n).ops (!(s.gaf n).outBad) (s.sides t)) ∧
    (∀ t ∈ s.regionTiles n, u.fillClear t) := by
  refine Runs.of_clocked (exec_gobOutCommit hl hp) fun u hu => ?_
  rw [(s.cutAll_leaf n).regionTiles (by decide)] at hu
  have hcut := s.cutAll_sides n
  generalize s.cutAll n = v at *
  have hsides := fun t (ht : t ∈ s.regionTiles n) =>
    v.commitTiles_sides (s.gaf n).ops (!(s.gaf n).outBad) ht (s.regionTiles_nodup n)
  have hclear := fun t (ht : t ∈ s.regionTiles n) => v.commitTiles_clears (s.gaf n).ops (!(s.gaf n).outBad) ht
  generalize v.commitTiles (s.regionTiles n) (s.gaf n).ops (!(s.gaf n).outBad) = w at *
  have hafter : SidesKept w u := (w.afterCommit_sides n (s.gaf n)).trans (hu.leaves.sidesKept (by decide))
  have hout : u.gobOut = w.gobOut := Eq.trans (hu.leaves.same .gobOut (by decide)) (w.afterCommit_gobOut n (s.gaf n))
  refine ⟨?_, fun t ht => ?_, fun t ht a hlo hhi => ?_⟩
  · rw [hu.gaf, w.afterCommit_phase]
  · rw [hafter t, hsides t ht, hcut t]
  · rw [State.outFill_congr (hafter t)] at hlo hhi
    rw [hout]
    exact hclear t ht a hlo hhi

end

/-- Settles O25: each boundary is the model's step from the boundary before it, whatever else its region holds. -/
theorem cycleBoundaries : Obligations.CycleBoundaries := by
  unfold Obligations.CycleBoundaries
  refine ⟨fun _ _ hl hp => cycleBoundaryB0_swaps hl hp, fun _ _ hl hp h => foldCompare_matches hl hp h,
    fun _ _ _ hl hp ht hne hlo hhi hf hf1 hs => foldCompare_mismatches hl hp ht hne ⟨hlo, hhi⟩ hf hf1 hs,
    fun s n hl hp => ?_, fun _ _ hl hp h => memoryCheck_passes hl hp h, fun _ _ hl hp h hb => memoryCheck_stalls hl hp h hb,
    fun _ _ hl hp h hb => memoryCheck_poisons hl hp h hb, fun _ _ hl hp h => stallEnd_resumes hl hp h,
    fun _ _ hl hp => stallBoundExpiry_poisons hl hp, fun _ _ hl hp => specialOperandLatch_latches hl hp,
    fun _ _ hl hp => windowFix_fixes hl hp, fun _ _ _ _ hl hp hf hr => cycleEnd_fences hl hp hf hr,
    fun _ _ _ hl hp hf hs => cycleEnd_stops hl hp hf hs, fun _ _ hl hp hf hs hh hr hn => cycleEnd_arms hl hp hf hs hh hr hn,
    fun _ _ _ hl hp hf hs hh hr hn hfix => cycleEnd_continues hl hp hf hs hh hr hn hfix⟩
  obtain ⟨u, hexec, hphase, hsides, hclear⟩ := gobOutCommit_commits hl hp
  exact ⟨u, hexec, hphase, fun t ht => congrArg Prod.fst (hsides t ht),
    fun t ht => congrArg (fun x => x.2.1) (hsides t ht), hclear⟩

end Sys2Proof.Machine

namespace Sys2Proof.Machine

/-! ### A gaffer's instruction and the word after it (R98, R99, R106) -/

/-- An instruction that its gaffer has reached acts on its word. -/
theorem State.instr_reaches {s : State} {n op w : Nat} (h : s.reaches n op w) (f : Nat → State → State) :
    s.instr n op f = f w s := by
  obtain ⟨hissues, hpast, hword, hop, hvalid⟩ := h
  simp only [State.instr, hissues, hpast, hword, hop, hvalid, Bool.not_false, beq_self_eq_true, Bool.and_self, if_true]

/-- `u` is `t` after gaffer `n` has gone on: of its registers the PC, of its record the mark of a program that has run out. -/
structure GoneOn (n : Nat) (t u : State) : Prop where
  leaves : Leaves (0x4000001000 ||| 2 ^ Part.pcie.ctorIdx) t u
  reg : ∀ o, o ≠ (F.GAF_STATUS_PC n).off → u.reg o = t.reg o
  rd : ∀ f, (F.GAF_STATUS_PC n).clear f = true → u.rd f = t.rd f
  gaf : u.gaf n = { t.gaf n with past := (u.gaf n).past }
  advanced : Advanced t u n

theorem State.pcOf_lt (s : State) (n : Nat) : s.pcOf n < 512 := s.rd_lt _

theorem State.advance_inside {s : State} {n : Nat} (h : s.pcOf n ≠ 511) :
    s.advance n = s.wr (F.GAF_STATUS_PC n) (s.pcOf n + 1) := by
  have := s.pcOf_lt n
  exact if_pos (by omega)

theorem State.advance_past {s : State} {n : Nat} (h : s.pcOf n = 511) :
    s.advance n = s.setGaf n { s.gaf n with past := true } := by
  rw [State.advance, h]
  rfl

theorem State.goneOn_advance (s : State) (n : Nat) : GoneOn n s (s.advance n) := by
  have hleaves : Leaves (0x4000001000 ||| 2 ^ Part.pcie.ctorIdx) s (s.advance n) :=
    State.advance_leaves (.refl _ s) (by decide) n
  by_cases h : s.pcOf n = 511
  · rw [State.advance_past h] at hleaves ⊢
    refine ⟨hleaves, fun _ _ => rfl, fun _ _ => rfl, ?_, ?_⟩
    · rw [State.gaf_setGaf]
    · rw [Advanced, if_pos h, State.gaf_setGaf]
  · rw [State.advance_inside h] at hleaves ⊢
    refine ⟨hleaves, fun o ho => State.reg_wr_ne _ _ ho, fun f hf => State.rd_wr_clear _ _ hf, rfl, ?_⟩
    have := s.pcOf_lt n
    rw [Advanced, if_neg h, State.pcOf, State.rd_wr_mod _ _ rfl]
    exact Nat.mod_eq_of_lt (show s.pcOf n + 1 < 512 by omega)

theorem GoneOn.clocked {n : Nat} {s t u : State} (h : GoneOn n s t) (k : Clocked t u) : GoneOn n s u where
  leaves := h.leaves.step k.leaves (by decide)
  reg o ho := (k.reg o).trans (h.reg o ho)
  rd f hf := (k.rd f).trans (h.rd f hf)
  gaf := by rw [k.gaf]; exact h.gaf
  advanced := by
    have hpc : u.pcOf n = t.pcOf n := k.rd _
    rw [Advanced, k.gaf, hpc]
    exact h.advanced

/-- An instruction that goes on after what it does. -/
theorem Runs.goesOn {c : Instr} {s t : State} {n : Nat} {P : State → Prop}
    (h : exec c s = .next (s.endClock (t.advance n))) (hP : ∀ u, GoneOn n t u → P u) : Runs c s P :=
  Runs.of_clocked h fun u hu => hP u ((t.goneOn_advance n).clocked hu)

/-- An instruction that moves no PC before it goes on has gone on from the state before it. -/
theorem GoneOn.advances {n : Nat} {s t u : State} (h : GoneOn n t u) (hpc : t.pcOf n = s.pcOf n) : Advanced s u n := by
  rw [Advanced, ← hpc]
  exact h.advanced

theorem GoneOn.rd_ne {n : Nat} {t u : State} (h : GoneOn n t u) {f : Fld} (hf : f.off ≠ (F.GAF_STATUS_PC n).off) :
    u.rd f = t.rd f := congrArg f.of (h.reg _ hf)

theorem GoneOn.hbm {n : Nat} {t u : State} (h : GoneOn n t u) : u.hbm = t.hbm := h.leaves.same .hbm (by decide)

theorem GoneOn.pends {n e : Nat} {t u : State} (h : GoneOn n t u) (k : Pends t e) : Pends u e := by
  refine (h.rd_ne ?_).trans k
  simp only [evtBit, F.GAF_STATUS_PC]
  omega

/-! ### WAIT_TRIG (R108, R109, R111) -/

/-- The line registers show an entry. -/
def State.lineShown (s : State) (n : Nat) (e : TrigEntry) : State :=
  (s.setReg (0x100018 + 0x10000 * (n % 16)) (BitVec.ofNat 32 e.line)).setReg (0x10001c + 0x10000 * (n % 16))
    (BitVec.ofNat 32 (2 ^ 24 * e.count + e.line / 2 ^ 32 % 2 ^ 16))

/-- An entry of merged lines is noted. -/
def State.mergeNoted (s : State) (n : Nat) (e : TrigEntry) : State :=
  if e.merged then s.setGaf n { s.gaf n with mergeNotes := (s.gaf n).mergeNotes ++ [e.count] } else s

/-- The oldest entry is taken. -/
def State.entryTaken (s : State) (n : Nat) (e : TrigEntry) (es : List TrigEntry) : State :=
  ((s.setQueue n es).lineShown n e).mergeNoted n e

section
variable (s : State) (n : Nat) (e : TrigEntry) (es : List TrigEntry)

theorem State.mergeNoted_reg (o : Nat) : (s.mergeNoted n e).reg o = s.reg o := by
  unfold State.mergeNoted
  split <;> rfl

theorem State.mergeNoted_rd (f : Fld) : (s.mergeNoted n e).rd f = s.rd f := congrArg f.of (s.mergeNoted_reg n e _)

theorem State.lineShown_lo : (s.lineShown n e).rd (F.GAF_LINE_LO n) = e.line % 2 ^ 32 := by
  rw [State.lineShown, State.rd_setReg_ne _ _ _ (by simp only [F.GAF_LINE_LO]; omega)]
  refine (State.rd_setReg s _ (F.GAF_LINE_LO n)).trans ?_
  simp only [Fld.of, slice, F.GAF_LINE_LO, BitVec.toNat_ofNat]
  omega

theorem State.lineShown_hi : (s.lineShown n e).rd (F.GAF_LINE_HI n) = e.line / 2 ^ 32 % 2 ^ 16 := by
  refine (State.rd_setReg _ _ (F.GAF_LINE_HI n)).trans ?_
  simp only [Fld.of, slice, F.GAF_LINE_HI, BitVec.toNat_ofNat]
  omega

theorem State.lineShown_count : (s.lineShown n e).rd (F.GAF_LINE_HI_COUNT n) = e.count % 256 := by
  refine (State.rd_setReg _ _ (F.GAF_LINE_HI_COUNT n)).trans ?_
  simp only [Fld.of, slice, F.GAF_LINE_HI_COUNT, BitVec.toNat_ofNat]
  omega

theorem State.lineShown_status {f : Fld} (h : f.off = 0x100004 + 0x10000 * (n % 16)) : (s.lineShown n e).rd f = s.rd f := by
  rw [State.lineShown, State.rd_setReg_ne _ _ _ (by omega), State.rd_setReg_ne _ _ _ (by omega)]

theorem State.entryTaken_depth : (s.entryTaken n e es).rd (F.GAF_STATUS_QDEPTH n) = es.length % 16 := by
  rw [State.entryTaken, State.mergeNoted_rd, State.lineShown_status _ _ _ rfl]
  exact State.rd_wr_mod _ _ rfl

theorem State.entryTaken_pc : (s.entryTaken n e es).pcOf n = s.pcOf n := by
  rw [State.entryTaken, State.pcOf, State.mergeNoted_rd, State.lineShown_status _ _ _ rfl]
  exact State.rd_wr_clear _ _ rfl

theorem State.lineShown_gaf : (s.lineShown n e).gaf n = s.gaf n := (rfl)

theorem State.setQueue_gaf (q : List TrigEntry) : (s.setQueue n q).gaf n = { s.gaf n with queue := q } := by
  rw [State.setQueue, State.gaf_wr, State.gaf_setGaf]

theorem State.entryTaken_gaf : (s.entryTaken n e es).gaf n = { s.gaf n with
    queue := es, mergeNotes := if e.merged then (s.gaf n).mergeNotes ++ [e.count] else (s.gaf n).mergeNotes } := by
  rw [State.entryTaken, State.mergeNoted]
  split
  · rw [State.gaf_setGaf, State.lineShown_gaf, State.setQueue_gaf]
  · rw [State.lineShown_gaf, State.setQueue_gaf]

end

section
variable {s : State} {n : Fin 16} {w : Nat} (hl : s.live = true) (hr : s.reaches n 1 w)
include hl hr

theorem exec_waitTrig {e : TrigEntry} {es : List TrigEntry} (hq : (s.gaf n).queue = e :: es) :
    exec (.waitTrig n) s = .next (s.endClock ((s.entryTaken n e es).advance n)) := by
  simp only [exec, execWaitTrig, act_live hl, State.instr_reaches hr, hq]
  rfl

theorem exec_waitTrig_waits (hq : (s.gaf n).queue = []) : exec (.waitTrig n) s = .next s := by
  simp only [exec, execWaitTrig, act_live hl, State.instr_reaches hr, hq, State.endClock_self]

theorem waitTrig_takes {e : TrigEntry} {es : List TrigEntry} (hq : (s.gaf n).queue = e :: es) :
    Runs (.waitTrig n) s fun u =>
      (u.gaf n).queue = es ∧ u.rd (F.GAF_LINE_LO n) = e.line % 2 ^ 32 ∧
      u.rd (F.GAF_LINE_HI n) = e.line / 2 ^ 32 % 2 ^ 16 ∧ u.rd (F.GAF_LINE_HI_COUNT n) = e.count % 256 ∧
      u.rd (F.GAF_STATUS_QDEPTH n) = es.length % 16 ∧
      ((u.gaf n).mergeNotes = (if e.merged then (s.gaf n).mergeNotes ++ [e.count] else (s.gaf n).mergeNotes)) ∧
      Advanced s u n := by
  refine Runs.goesOn (exec_waitTrig hl hr hq) fun u hu => ?_
  have hline : ∀ f : Fld, f.off ≠ 0x100004 + 0x10000 * (n.val % 16) → u.rd f = ((s.setQueue n es).lineShown n e).rd f :=
    fun f hf => (hu.rd_ne hf).trans (State.mergeNoted_rd _ _ _ f)
  have hgaf := s.entryTaken_gaf n e es
  refine ⟨?_, ?_, ?_, ?_, ?_, ?_, hu.advances (s.entryTaken_pc n e es)⟩
  · rw [hu.gaf, hgaf]
  · rw [hline _ (by simp only [F.GAF_LINE_LO]; omega), State.lineShown_lo]
  · rw [hline _ (by simp only [F.GAF_LINE_HI]; omega), State.lineShown_hi]
  · rw [hline _ (by simp only [F.GAF_LINE_HI_COUNT]; omega), State.lineShown_count]
  · rw [hu.rd _ rfl, State.entryTaken_depth]
  · rw [hu.gaf, hgaf]

end

/-! ### WAIT_EVT (R114) -/

section
variable {s : State} {n : Fin 16} {w : Nat} (hl : s.live = true) (hr : s.reaches n 2 w)
include hl hr

theorem exec_waitEvt {k : Nat} (hk : (firstIdx 8 fun k => bit w k && decide (s.rd (evtPendFld n k) ≠ 0)) = some k) :
    exec (.waitEvt n) s = .next (s.endClock
      (((s.wr (evtPendFld n k) (s.rd (evtPendFld n k) - 1)).wr (F.GAF_STATUS_LAST_COND n) k).advance n)) := by
  simp only [exec, execWaitEvt, act_live hl, State.instr_reaches hr, hk]

theorem exec_waitEvt_waits (hk : (firstIdx 8 fun k => bit w k && decide (s.rd (evtPendFld n k) ≠ 0)) = none) :
    exec (.waitEvt n) s = .next s := by
  simp only [exec, execWaitEvt, act_live hl, State.instr_reaches hr, hk, State.endClock_self]

theorem waitEvt_consumes {k : Nat} (hk : (firstIdx 8 fun k => bit w k && decide (s.rd (evtPendFld n k) ≠ 0)) = some k) :
    Runs (.waitEvt n) s fun u => u.rd (evtPendFld n k) = s.rd (evtPendFld n k) - 1 ∧
      u.rd (F.GAF_STATUS_LAST_COND n) = k ∧ Advanced s u n := by
  refine Runs.goesOn (exec_waitEvt hl hr hk) fun u hu => ?_
  have hlt : k < 8 := List.mem_range.1 (List.mem_of_find?_eq_some hk)
  have hapart : (evtPendFld n k).off ≠ 0x100004 + 0x10000 * (n.val % 16) := by simp only [evtPendFld]; omega
  have hpend : (evtPendFld n k).ok := by simp only [Fld.ok, evtPendFld]; omega
  have hwidth := s.rd_lt (evtPendFld n k)
  refine ⟨?_, ?_, hu.advances ?_⟩
  · have hpast : u.rd (evtPendFld n k) = (s.wr (evtPendFld n k) (s.rd (evtPendFld n k) - 1)).rd (evtPendFld n k) :=
      (hu.rd_ne hapart).trans (congrArg (evtPendFld n k).of (State.reg_wr_ne _ _ hapart))
    rw [hpast, State.rd_wr_fit _ _ _ hpend (Nat.lt_of_le_of_lt (Nat.sub_le _ _) hwidth)]
  · rw [hu.rd _ rfl, State.rd_wr_mod _ _ rfl]
    exact Nat.mod_eq_of_lt hlt
  · rw [State.pcOf, State.rd_wr_clear _ _ rfl]
    exact congrArg (F.GAF_STATUS_PC n).of (State.reg_wr_ne _ _ (Ne.symm hapart))

end

/-! ### INJECT (R118) -/

section
variable (s : State) (n k : Nat)

/-- The address that descriptor `k` names. -/
def State.injectAddr : Nat := 64 * s.rd (F.GAF_INJ_LO_ADDR_LO n k) + 2 ^ 32 * s.rd (F.GAF_INJ_HI_ADDR_HI n k)

/-- May descriptor `k` be delivered? -/
def State.injectOk : Bool :=
  s.on (F.GAF_INJ_HI_VALID n k) && decide (1 ≤ s.rd (F.GAF_INJ_HI_LEN n k)) && decide (s.rd (F.GAF_INJ_HI_LEN n k) ≤ 29) &&
    inHbm (s.injectAddr n k) (64 * s.rd (F.GAF_INJ_HI_LEN n k))

/-- The delivery that descriptor `k` begins. -/
def State.nextInject : Inject :=
  ⟨s.injectAddr n k, s.rd (F.GAF_INJ_HI_LEN n k), s.lineOf n, s.rd (F.GAF_LINE_HI_COUNT n)⟩

theorem State.injectOk_not : (!s.on (F.GAF_INJ_HI_VALID n k) || s.rd (F.GAF_INJ_HI_LEN n k) == 0 ||
    decide (29 < s.rd (F.GAF_INJ_HI_LEN n k)) || !inHbm (s.injectAddr n k) (64 * s.rd (F.GAF_INJ_HI_LEN n k))) =
    !s.injectOk n k := by
  have hlo : decide (1 ≤ s.rd (F.GAF_INJ_HI_LEN n k)) = !(s.rd (F.GAF_INJ_HI_LEN n k) == 0) := by
    cases s.rd (F.GAF_INJ_HI_LEN n k) <;> simp
  have hhi : decide (s.rd (F.GAF_INJ_HI_LEN n k) ≤ 29) = !decide (29 < s.rd (F.GAF_INJ_HI_LEN n k)) := by
    simp only [← decide_not, Nat.not_lt]
  rw [State.injectOk, hlo, hhi, Bool.not_and, Bool.not_and, Bool.not_and, Bool.not_not, Bool.not_not]

end

/-- An occurrence is none of a gaffer's own doings. -/
theorem State.raise_gaf (s : State) (e n : Nat) : (s.raise e).gaf n = s.gaf n :=
  (State.raise_leaves (.refl 0x10001990080000002010 s) rfl e).gaf (by decide) n

theorem State.raise_pc (s : State) (e n : Nat) : (s.raise e).pcOf n = s.pcOf n := s.rd_raise e (F.GAF_STATUS_PC_part n) rfl

theorem State.setInjects_gaf (s : State) (n : Nat) (l : List Inject) :
    (s.setInjects n l).gaf n = { s.gaf n with injects := l } := by
  rw [State.setInjects, State.gaf_wr, State.gaf_setGaf]

theorem State.setInjects_busy (s : State) (n : Nat) (l : List Inject) (j : Inject) :
    (s.setInjects n (l ++ [j])).rd (F.GAF_STATUS_INJ_BUSY n) = 1 := by
  refine (State.rd_wr_mod _ _ rfl).trans ?_
  cases l <;> rfl

theorem State.setInjects_pc (s : State) (n : Nat) (l : List Inject) : (s.setInjects n l).pcOf n = s.pcOf n :=
  State.rd_wr_clear _ _ rfl

section
variable {s : State} {n : Fin 16} {w : Nat} (hl : s.live = true) (hr : s.reaches n 7 w)
include hl hr

theorem exec_inject_holds (h : 2 ≤ (s.gaf n).injects.length) : exec (.inject n) s = .next s := by
  simp only [exec, execInject, act_live hl, State.instr_reaches hr, ge_iff_le, h, if_true, State.endClock_self]

variable (hn : (s.gaf n).injects.length < 2)
include hn

theorem exec_inject : exec (.inject n) s = .next (s.endClock (if !s.injectOk n (slice w 2 0)
    then (s.raise (Ev.GAF n 5)).advance n
    else (s.setInjects n ((s.gaf n).injects ++ [s.nextInject n (slice w 2 0)])).advance n)) := by
  simp only [exec, execInject, act_live hl, State.instr_reaches hr, ge_iff_le, Nat.not_le.2 hn, if_false, ← s.injectOk_not]
  rfl

theorem inject_starts (h : s.injectOk n (slice w 2 0) = true) : Runs (.inject n) s fun u =>
    (u.gaf n).injects = (s.gaf n).injects ++ [s.nextInject n (slice w 2 0)] ∧
    u.rd (F.GAF_STATUS_INJ_BUSY n) = 1 ∧ Advanced s u n := by
  have hexec := exec_inject hl hr hn
  rw [h, Bool.not_true, if_neg (by decide)] at hexec
  refine Runs.goesOn hexec fun u hu => ⟨?_, ?_, hu.advances (s.setInjects_pc n _)⟩
  · rw [hu.gaf, State.setInjects_gaf]
  · rw [hu.rd _ rfl, State.setInjects_busy]

theorem inject_refuses (h : s.injectOk n (slice w 2 0) = false) : Runs (.inject n) s fun u =>
    Pends u (Ev.GAF n 5) ∧ (u.gaf n).injects = (s.gaf n).injects ∧ Advanced s u n := by
  have hexec := exec_inject hl hr hn
  rw [h, Bool.not_false, if_pos rfl] at hexec
  refine Runs.goesOn hexec fun u hu => ⟨hu.pends (s.rd_raise_self _), ?_, hu.advances (s.raise_pc _ n)⟩
  rw [hu.gaf, State.raise_gaf]

end

/-! ### What is marked on a cycle (R103, R119, R120) -/

theorem Gaffer.attach_next {g : Gaffer} {c : Cycle} (h : g.next = some c) (f : Cycle → Cycle) :
    g.attach f = some { g with next := some (f c) } := by
  simp only [Gaffer.attach, h]

theorem Gaffer.attach_current {g : Gaffer} (h : g.next = none) (hp : g.phase = .window) (f : Cycle → Cycle) :
    g.attach f = some { g with cur := f g.cur } := by
  simp only [Gaffer.attach, h, hp, if_true]

theorem Gaffer.attach_none {g : Gaffer} (h : g.next = none) (hp : g.phase ≠ .window) (f : Cycle → Cycle) :
    g.attach f = none := by
  simp only [Gaffer.attach, h, hp, if_false]

theorem State.setGaf_hbm (s : State) (n : Nat) (g : Gaffer) : (s.setGaf n g).hbm = s.hbm := State.withGafs_hbm _ _

theorem State.setGaf_pc (s : State) (n : Nat) (g : Gaffer) : (s.setGaf n g).pcOf n = s.pcOf n := s.rd_setGaf n g _

/-! ### XCHG (R120) -/

/-- The gaffer in which the attached cycle exchanges, or the next one will. -/
def Gaffer.exchanging (g : Gaffer) : Gaffer :=
  (g.attach fun c => { c with xchg := true }).getD { g with xchgNext := true }

theorem exec_xchg {s : State} {n : Fin 16} {w : Nat} (hl : s.live = true) (hr : s.reaches n 9 w) :
    exec (.xchg n) s = .next (s.endClock ((s.setGaf n (s.gaf n).exchanging).advance n)) := by
  simp only [exec, execXchg, act_live hl, State.instr_reaches hr, Gaffer.exchanging]
  cases (s.gaf n).attach fun c => { c with xchg := true } <;> rfl

theorem xchg_marks {s : State} {n : Fin 16} {w : Nat} (hl : s.live = true) (hr : s.reaches n 9 w) :
    Runs (.xchg n) s fun u =>
      Advanced s u n ∧
      (∀ c, (s.gaf n).next = some c → (u.gaf n).next = some { c with xchg := true }) ∧
      ((s.gaf n).next = none → (s.gaf n).phase = .window → (u.gaf n).cur.xchg = true) ∧
      ((s.gaf n).next = none → (s.gaf n).phase ≠ .window → (u.gaf n).xchgNext = true) ∧
      (∀ o, o ≠ (F.GAF_STATUS_PC n).off → u.reg o = s.reg o) := by
  refine Runs.goesOn (exec_xchg hl hr) fun u hu => ?_
  have hgaf := hu.gaf
  rw [State.gaf_setGaf] at hgaf
  refine ⟨hu.advances (s.setGaf_pc n _), fun c hc => ?_, fun hc hp => ?_, fun hc hp => ?_, hu.reg⟩
  · rw [hgaf, Gaffer.exchanging, Gaffer.attach_next hc, Option.getD_some]
  · rw [hgaf, Gaffer.exchanging, Gaffer.attach_current hc hp, Option.getD_some]
  · rw [hgaf, Gaffer.exchanging, Gaffer.attach_none hc hp, Option.getD_none]

/-! ### SIGNAL and SET_STALL (R121, R122) -/

section
variable {s : State} {n : Fin 16} {w : Nat} (hl : s.live = true)
include hl

theorem signal_raises (hr : s.reaches n 10 w) :
    Runs (.signal n) s fun u => Pends u (Ev.GAF n (slice w 0 0)) ∧ Advanced s u n := by
  have hexec : exec (.signal n) s = .next (s.endClock ((s.raise (Ev.GAF n (slice w 0 0))).advance n)) := by
    simp only [exec, execSignal, act_live hl, State.instr_reaches hr]
  exact Runs.goesOn hexec fun u hu => ⟨hu.pends (s.rd_raise_self _), hu.advances (s.raise_pc _ n)⟩

theorem setStall_bounds (hr : s.reaches n 11 w) : Runs (.setStall n) s fun u =>
    u.rd (F.GAF_STALL_BOUND_BOUND n) = slice w 15 0 ∧ Advanced s u n ∧
    (∀ o, o ≠ (F.GAF_STATUS_PC n).off → o ≠ (F.GAF_STALL_BOUND_BOUND n).off → u.reg o = s.reg o) := by
  have hexec : exec (.setStall n) s = .next (s.endClock ((s.wr (F.GAF_STALL_BOUND_BOUND n) (slice w 15 0)).advance n)) := by
    simp only [exec, execSetStall, act_live hl, State.instr_reaches hr]
  have hapart : (F.GAF_STALL_BOUND_BOUND n).off ≠ (F.GAF_STATUS_PC n).off := by
    simp only [F.GAF_STALL_BOUND_BOUND, F.GAF_STATUS_PC]
    omega
  refine Runs.goesOn hexec fun u hu => ⟨?_, hu.advances ?_, fun o hpc hbound => ?_⟩
  · rw [hu.rd_ne hapart, State.rd_wr_mod _ _ rfl]
    exact Nat.mod_mod _ _
  · exact congrArg (F.GAF_STATUS_PC n).of (State.reg_wr_ne _ _ (Ne.symm hapart))
  · rw [hu.reg o hpc, State.reg_wr_ne _ _ hbound]

end
end Sys2Proof.Machine

namespace Sys2Proof.Machine

/-! ### A write to stacks that serve (R138, R141, R363) -/

/-- What every operation of a list keeps. -/
theorem forEach_keeps {α : Type} {l : List α} {f : α → State → State} {p : State → Prop}
    (h : ∀ b ∈ l, ∀ s, p s → p (f b s)) {s : State} (hs : p s) : p (forEach l f s) := by
  unfold forEach
  induction l generalizing s with
  | nil => exact hs
  | cons b l ih => exact ih (fun c hc => h c (.tail _ hc)) (h b (.head _) s hs)

/-- A request finds a stack awake. -/
theorem State.knock_awake {s : State} {c : Nat} (h : s.mustWait (16 + c) = false) : s.knock (16 + c) = s := by
  obtain ⟨hawake, hdown⟩ := Bool.or_eq_false_iff.1 h
  have hup : (s.dom (16 + c)).down = none := by simpa using hdown
  have hstack : decide (16 + c < 16) = false := by simp
  simp only [State.knock, hstack, Bool.false_and, Bool.false_eq_true, if_false, hup, hawake, Bool.not_false, if_true]

section
variable {s : State} {a : Nat} {bs : List Byte}

theorem State.wakeHbm_served {n : Nat} (h : ∀ c ∈ stacksTouched a n, s.stackServes c = true) : s.wakeHbm a n = s := by
  refine forEach_keeps (p := fun u => u = s) (fun c hc u hu => ?_) rfl
  obtain ⟨-, hwait⟩ := Bool.and_eq_true_iff.1 (h c hc)
  rw [hu, State.knock_awake (by simpa using hwait), ite_self]

/-- A write inside HBM whose stacks all serve is performed. -/
theorem State.hbmWrite_served (hin : inHbm a bs.length = true) (h : ∀ c ∈ stacksTouched a bs.length, s.stackServes c = true)
    (halive : ∀ c ∈ stacksTouched a bs.length, s.stackDead c = false) : s.hbmWrite a bs = s.hbmPutBytes a bs := by
  have hready : s.hbmReady a bs.length = true := List.all_eq_true.2 fun c hc => by rw [h c hc, Bool.or_true]
  have hall : ((stacksTouched a bs.length).all fun c => !s.stackDead c) = true :=
    List.all_eq_true.2 fun c hc => by rw [halive c hc, Bool.not_false]
  rw [State.hbmWrite, if_pos hin]
  simp only [State.hbmPutIn, State.wakeHbm_served h, hready, if_true, State.hbmStore, hall]

theorem State.read_hbmPutBytes : Bytes.read (s.hbmPutBytes a bs).hbm a bs.length = bs := Bytes.read_write _ _ _

end

/-- A block lies in one stack. -/
theorem stacksTouched_block {a : Nat} (h : a % 64 = 0) : stacksTouched a 64 = [stackOf a] := by
  have hbits : ∀ i, 8 ≤ i → (a + 64 - 1) / 2 ^ i = a / 2 ^ i := fun i hi => by
    have hblock : (a + 64 - 1) / 64 = a / 64 := by omega
    have hpow : (2 : Nat) ^ i = 64 * 2 ^ (i - 6) := by
      rw [show (64 : Nat) = 2 ^ 6 from rfl, ← Nat.pow_add]
      congr 1
      omega
    rw [hpow, ← Nat.div_div_eq_div_mul, hblock, Nat.div_div_eq_div_mul]
  have hstack : stackOf (a + 64 - 1) = stackOf a := by
    simp only [stackOf, pseudoIdx, slice, hbits 8 (by decide), hbits 14 (by decide), hbits 20 (by decide)]
  have hnear : ¬ a / 8192 + 2 ≤ (a + 64 - 1) / 8192 := by omega
  rw [stacksTouched, if_neg (by decide), if_neg hnear, if_pos hstack.symm]

/-- A block written to a stack that serves is read back. -/
theorem State.hbmWrite_block {s : State} {a : Nat} {bs : List Byte} (hlen : bs.length = 64) (ha : a % 64 = 0)
    (hin : inHbm a 64 = true) (hready : s.hbmReady a 64 = true) (halive : s.stackDead (stackOf a) = false) :
    Bytes.read (s.hbmWrite a bs).hbm a 64 = bs := by
  have hserves : s.stackServes (stackOf a) = true := by
    simpa [State.hbmReady, stacksTouched_block ha, halive] using hready
  rw [State.hbmWrite_served (by rw [hlen]; exact hin) (by simpa [hlen, stacksTouched_block ha] using hserves)
    (by simpa [hlen, stacksTouched_block ha] using halive), ← hlen, State.read_hbmPutBytes]

/-! ### COMMIT (R119, R264) -/

theorem leBytes_length (n v : Nat) : (leBytes n v).length = n := by
  induction n generalizing v with
  | zero => rfl
  | succ n ih => rw [leBytes, List.length_cons, ih]

theorem drainHeader_length (d : Drain) (sent : Nat) (done trunc : Bool) : (drainHeader d sent done trunc).length = 64 :=
  leBytes_length _ _

section
variable (s : State) (n k : Nat)

/-- The size of the record that descriptor `k` gives a drain. -/
def State.recordSize : Nat := 64 * (1 + (s.regionTiles n).length * (1 + min 32 (s.rd (F.GAF_COM_HI_BYTES n k))))

/-- The place of the next record in the descriptor's ring. -/
def State.recordAddr : Nat :=
  64 * s.rd (F.GAF_COM_LO_ADDR_LO n k) + 2 ^ 32 * s.rd (F.GAF_COM_HI_ADDR_HI n k) +
    s.rd (F.GAF_COM_SEQ_SEQ n k) % 2 ^ min 20 (s.rd (F.GAF_COM_HI_RING n k)) * s.recordSize n k

/-- The drain that descriptor `k` begins. -/
def State.nextDrain : Drain :=
  ⟨s.recordAddr n k, s.rd (F.GAF_COM_SEQ_SEQ n k), min 32 (s.rd (F.GAF_COM_HI_BYTES n k)), (s.gaf n).commitTime,
    s.statusOf ((s.regionTiles n).headD 0) % 2 ^ 48, s.regionTiles n⟩

/-- The record's number is counted, and its header goes out. -/
def State.headerSent : State :=
  (s.wr (F.GAF_COM_SEQ_SEQ n k) (s.rd (F.GAF_COM_SEQ_SEQ n k) + 1)).hbmWrite (s.recordAddr n k)
    (drainHeader (s.nextDrain n k) 0 false false)

theorem State.startDrain_eq : s.startDrain n k =
    if !s.on (F.GAF_COM_HI_VALID n k) || !inHbm (s.recordAddr n k) (s.recordSize n k) then s.raise (Ev.GAF n 5)
    else (s.headerSent n k).setGaf n
      { (s.headerSent n k).gaf n with drains := ((s.headerSent n k).gaf n).drains ++ [s.nextDrain n k] } := rfl

theorem State.headerSent_leaf : Leaves 0x10061b900f000008201b
    (s.wr (F.GAF_COM_SEQ_SEQ n k) (s.rd (F.GAF_COM_SEQ_SEQ n k) + 1)) (s.headerSent n k) :=
  State.hbmWrite_leaves (.refl _ _) rfl _ _

theorem State.headerSent_gaf : (s.headerSent n k).gaf n = s.gaf n := by
  rw [(s.headerSent_leaf n k).gaf (by decide), State.gaf_wr]

theorem comSeq_ne_status : (F.GAF_STATUS_PC n).off ≠ (F.GAF_COM_SEQ_SEQ n k).off := by
  simp only [F.GAF_STATUS_PC, F.GAF_COM_SEQ_SEQ]
  omega

theorem State.headerSent_pc : (s.headerSent n k).pcOf n = s.pcOf n :=
  ((s.headerSent_leaf n k).rd (F.GAF_STATUS_PC_part n) (by decide) (by decide)).trans
    (congrArg (F.GAF_STATUS_PC n).of (State.reg_wr_ne _ _ (comSeq_ne_status n k)))

theorem State.headerSent_seq :
    (s.headerSent n k).rd (F.GAF_COM_SEQ_SEQ n k) = (s.rd (F.GAF_COM_SEQ_SEQ n k) + 1) % 2 ^ 32 :=
  ((s.headerSent_leaf n k).rd (F.GAF_COM_SEQ_SEQ_part n k) (by decide) (by decide)).trans (State.rd_wr_mod _ _ rfl)

theorem State.recordAddr_block : s.recordAddr n k % 64 = 0 := by
  refine Nat.mod_eq_zero_of_dvd (Nat.dvd_add (Nat.dvd_add (Nat.dvd_mul_right _ _) ?_) ?_)
  · exact Dvd.dvd.mul_right (by decide) _
  · exact Dvd.dvd.mul_left (Nat.dvd_mul_right _ _) _

/-- The number of a record is no register of the stacks or of their gateways. -/
theorem State.wr_comSeq_hbm (v : Nat) :
    (∀ c, (s.wr (F.GAF_COM_SEQ_SEQ n k) v).stackDead c = s.stackDead c) ∧
      ∀ a m, (s.wr (F.GAF_COM_SEQ_SEQ n k) v).hbmReady a m = s.hbmReady a m := by
  have hwr : Leaves (2 ^ Part.gafRegs.ctorIdx) s (s.wr (F.GAF_COM_SEQ_SEQ n k) v) :=
    (Leaves.refl _ s).wr (Part.bit (F.GAF_COM_SEQ_SEQ_part n k) (by decide))
  generalize s.wr (F.GAF_COM_SEQ_SEQ n k) v = u at *
  have hdead : ∀ c, u.stackDead c = s.stackDead c := fun c => hwr.on (F.HBM_STATUS_LINK_ERR_part c) (by decide) (by decide)
  have hserves : ∀ c, u.stackServes c = s.stackServes c := fun c => by
    have hdoms : ∀ d, u.dom d = s.dom d := fun d =>
      congrArg (fun p : PwrState => Tab.get (fun _ => Domain.init) p.doms d) (hwr.same .pwr (by decide))
    have hsleep : ∀ d, u.asleep d = s.asleep d := fun d => by
      simp only [State.asleep, hwr.rd (F.SEC_STATUS_PSTATE_part _) (by decide) (by decide),
        hwr.on (F.HBM_STATUS_SELF_REFRESH_part _) (by decide) (by decide)]
    simp only [State.stackServes, State.mustWait, hdoms, hsleep,
      hwr.on (F.HBM_STATUS_TRAINED_part _) (by decide) (by decide)]
  exact ⟨hdead, fun a m => by simp only [State.hbmReady, hdead, hserves]⟩

variable {s n k}

theorem State.headerSent_read (hin : inHbm (s.recordAddr n k) (s.recordSize n k) = true)
    (hready : s.hbmReady (s.recordAddr n k) 64 = true) (halive : s.stackDead (stackOf (s.recordAddr n k)) = false) :
    Bytes.read (s.headerSent n k).hbm (s.recordAddr n k) 64 = drainHeader (s.nextDrain n k) 0 false false := by
  obtain ⟨hdead, hserves⟩ := s.wr_comSeq_hbm n k (s.rd (F.GAF_COM_SEQ_SEQ n k) + 1)
  refine State.hbmWrite_block (drainHeader_length _ _ _ _) (s.recordAddr_block n k) ?_ ((hserves _ _).trans hready)
    ((hdead _).trans halive)
  have hsize : 64 ≤ s.recordSize n k := Nat.le_mul_of_pos_right 64 (Nat.le_add_right 1 _)
  have hend := of_decide_eq_true hin
  exact decide_eq_true (by omega)

theorem State.startDrain_refuses (h : (s.on (F.GAF_COM_HI_VALID n k) && inHbm (s.recordAddr n k) (s.recordSize n k)) = false) :
    s.startDrain n k = s.raise (Ev.GAF n 5) := by
  rw [s.startDrain_eq, ← Bool.not_and, h, Bool.not_false, if_pos rfl]

theorem State.startDrain_starts (h : (s.on (F.GAF_COM_HI_VALID n k) && inHbm (s.recordAddr n k) (s.recordSize n k)) = true) :
    s.startDrain n k = (s.headerSent n k).setGaf n { s.gaf n with drains := (s.gaf n).drains ++ [s.nextDrain n k] } := by
  rw [s.startDrain_eq, ← Bool.not_and, h, Bool.not_true, if_neg (by decide), s.headerSent_gaf]

end

/-- A cycle with one COMMIT more. -/
def Cycle.committing (c : Cycle) (k : Nat) : Cycle := { c with commits := c.commits ++ [k] }

section
variable {s : State} {n : Fin 16} {w : Nat} (hl : s.live = true) (hr : s.reaches n 8 w)
include hl hr

theorem exec_commit_attached {g : Gaffer} (hg : (s.gaf n).attach (fun c => c.committing (slice w 1 0)) = some g) :
    exec (.commit n) s = .next (s.endClock ((s.setGaf n g).advance n)) := by
  unfold Cycle.committing at hg
  simp only [exec, execCommit, act_live hl, State.instr_reaches hr, hg]

theorem commit_attaches {g : Gaffer} (hg : (s.gaf n).attach (fun c => c.committing (slice w 1 0)) = some g) :
    Runs (.commit n) s fun u => u.gaf n = { g with past := (u.gaf n).past } ∧ Advanced s u n ∧ u.hbm = s.hbm := by
  refine Runs.goesOn (exec_commit_attached hl hr hg) fun u hu => ⟨?_, hu.advances (s.setGaf_pc n g), hu.hbm⟩
  have hgaf := hu.gaf
  rwa [State.gaf_setGaf] at hgaf

variable (hn : (s.gaf n).next = none) (hp : (s.gaf n).phase ≠ .window)
include hn hp

theorem exec_commit_drains : exec (.commit n) s = .next (s.endClock ((s.startDrain n (slice w 1 0)).advance n)) := by
  simp only [exec, execCommit, act_live hl, State.instr_reaches hr, Gaffer.attach_none hn hp]

theorem commit_refuses (h : (s.on (F.GAF_COM_HI_VALID n (slice w 1 0)) &&
      inHbm (s.recordAddr n (slice w 1 0)) (s.recordSize n (slice w 1 0))) = false) :
    Runs (.commit n) s fun u => Pends u (Ev.GAF n 5) ∧ (u.gaf n).drains = (s.gaf n).drains ∧ u.hbm = s.hbm ∧
      u.rd (F.GAF_COM_SEQ_SEQ n (slice w 1 0)) = s.rd (F.GAF_COM_SEQ_SEQ n (slice w 1 0)) ∧ Advanced s u n := by
  refine Runs.goesOn (exec_commit_drains hl hr hn hp) fun u hu => ?_
  rw [State.startDrain_refuses h] at hu
  refine ⟨hu.pends (s.rd_raise_self _), ?_, ?_, ?_, hu.advances (s.raise_pc _ n)⟩
  · rw [hu.gaf, State.raise_gaf]
  · exact hu.hbm.trans ((State.raise_leaves (.refl 0x10001990080000002010 s) rfl _).same .hbm (by decide))
  · rw [hu.rd_ne (Ne.symm (comSeq_ne_status n _)), s.rd_raise _ (F.GAF_COM_SEQ_SEQ_part n _) rfl]

theorem commit_drains (h : (s.on (F.GAF_COM_HI_VALID n (slice w 1 0)) &&
      inHbm (s.recordAddr n (slice w 1 0)) (s.recordSize n (slice w 1 0))) = true) :
    Runs (.commit n) s fun u =>
      (u.gaf n).drains = (s.gaf n).drains ++ [s.nextDrain n (slice w 1 0)] ∧
      u.rd (F.GAF_COM_SEQ_SEQ n (slice w 1 0)) = (s.rd (F.GAF_COM_SEQ_SEQ n (slice w 1 0)) + 1) % 2 ^ 32 ∧
      (s.hbmReady (s.recordAddr n (slice w 1 0)) 64 = true → s.stackDead (stackOf (s.recordAddr n (slice w 1 0))) = false →
        Bytes.read u.hbm (s.recordAddr n (slice w 1 0)) 64 = drainHeader (s.nextDrain n (slice w 1 0)) 0 false false) ∧
      Advanced s u n := by
  refine Runs.goesOn (exec_commit_drains hl hr hn hp) fun u hu => ?_
  obtain ⟨-, hin⟩ := Bool.and_eq_true_iff.1 h
  rw [State.startDrain_starts h] at hu
  refine ⟨?_, ?_, fun hready halive => ?_, hu.advances ?_⟩
  · rw [hu.gaf, State.gaf_setGaf]
  · rw [hu.rd_ne (Ne.symm (comSeq_ne_status n _)), State.rd_setGaf, State.headerSent_seq]
  · rw [hu.hbm, State.setGaf_hbm]
    exact State.headerSent_read hin hready halive
  · rw [State.setGaf_pc, State.headerSent_pc]

end

/-! ### MARK (R74, R121) -/

section
variable (s : State) (n w : Nat)

/-- The four words of a trace entry. -/
def State.traceEntry : List Nat :=
  [s.lineOf n, s.lineOf n / 2 ^ 32 + 2 ^ 16 * s.rd (F.GAF_LINE_HI_COUNT n) + 2 ^ 24 * slice w 7 0,
    s.cycles n, s.rd (F.GAF_STATUS_WIN n) + 2 * s.rd (F.GAF_STATUS_OVERRUN n)]

/-- The entry stands where the trace pointer was, and the pointer has moved. -/
def State.traced : State :=
  (s.setWords (0x102000 + 0x10000 * (n % 16) + 16 * (s.rd (F.GAF_LOG_PTR_TRACE_PTR n) % 256)) (s.traceEntry n w)).wr
    (F.GAF_LOG_PTR_TRACE_PTR n) (s.rd (F.GAF_LOG_PTR_TRACE_PTR n) + 1)

/-- The trace that has come round says so. -/
def State.marked : State :=
  if s.rd (F.GAF_LOG_PTR_TRACE_PTR n) = 255 then (s.traced n w).wr (F.GAF_LOG_PTR_TRACE_WRAPPED n) 1 else s.traced n w

theorem State.marked_reg {o : Nat} (h : o ≠ 0x100040 + 0x10000 * (n % 16)) : (s.marked n w).reg o =
    (s.setWords (0x102000 + 0x10000 * (n % 16) + 16 * (s.rd (F.GAF_LOG_PTR_TRACE_PTR n) % 256)) (s.traceEntry n w)).reg o := by
  unfold State.marked
  split
  · rw [State.reg_wr_ne _ _ h, State.traced, State.reg_wr_ne _ _ h]
  · rw [State.traced, State.reg_wr_ne _ _ h]

theorem State.marked_word {i : Nat} (h : i < 4) :
    (s.marked n w).reg (0x102000 + 0x10000 * (n % 16) + 16 * (s.rd (F.GAF_LOG_PTR_TRACE_PTR n) % 256) + 4 * i) =
      BitVec.ofNat 32 ((s.traceEntry n w)[i]'h) := by
  rw [State.marked_reg _ _ _ (by omega), State.reg_setWords _ _ h]

theorem State.marked_pc : (s.marked n w).pcOf n = s.pcOf n := by
  refine congrArg (F.GAF_STATUS_PC n).of ((s.marked_reg n w ?_).trans (State.reg_setWords_out _ _ (.inl ?_)))
  all_goals
    simp only [F.GAF_STATUS_PC]
    omega

theorem State.marked_ptr :
    (s.marked n w).rd (F.GAF_LOG_PTR_TRACE_PTR n) = (s.rd (F.GAF_LOG_PTR_TRACE_PTR n) + 1) % 256 := by
  unfold State.marked
  split
  · rw [State.rd_wr_clear _ _ rfl]
    exact State.rd_wr_mod _ _ rfl
  · exact State.rd_wr_mod _ _ rfl

theorem State.marked_wraps (h : s.rd (F.GAF_LOG_PTR_TRACE_PTR n) = 255) :
    (s.marked n w).rd (F.GAF_LOG_PTR_TRACE_WRAPPED n) = 1 := by
  rw [State.marked, if_pos h]
  exact State.rd_wr_mod _ _ rfl

theorem State.lineOf_hi : s.lineOf n / 2 ^ 32 = s.rd (F.GAF_LINE_HI n) := by
  have : s.rd (F.GAF_LINE_LO n) < 2 ^ 32 := s.rd_lt _
  rw [State.lineOf]
  omega

theorem State.traceEntry_line : (s.traceEntry n w)[1]'(show 1 < 4 by decide) =
    s.rd (F.GAF_LINE_HI n) + 2 ^ 16 * s.rd (F.GAF_LINE_HI_COUNT n) + 2 ^ 24 * slice w 7 0 := by
  rw [← s.lineOf_hi]
  rfl

/-- The second word of a trace entry is one of 32 bits. -/
theorem State.traceEntry_line_lt :
    s.rd (F.GAF_LINE_HI n) + 2 ^ 16 * s.rd (F.GAF_LINE_HI_COUNT n) + 2 ^ 24 * slice w 7 0 < 2 ^ 32 := by
  have hhi : s.rd (F.GAF_LINE_HI n) < 2 ^ 16 := s.rd_lt _
  have hcount : s.rd (F.GAF_LINE_HI_COUNT n) < 2 ^ 8 := s.rd_lt _
  have hcode : slice w 7 0 < 2 ^ 8 := Nat.mod_lt _ (by decide)
  omega

/-- The fourth word of a trace entry is two bits. -/
theorem State.traceEntry_status_lt : s.rd (F.GAF_STATUS_WIN n) + 2 * s.rd (F.GAF_STATUS_OVERRUN n) < 2 ^ 32 := by
  have hwin : s.rd (F.GAF_STATUS_WIN n) < 2 ^ 1 := s.rd_lt _
  have hover : s.rd (F.GAF_STATUS_OVERRUN n) < 2 ^ 1 := s.rd_lt _
  omega

end

section
variable {s : State} {n : Fin 16} {w : Nat} (hl : s.live = true) (hr : s.reaches n 12 w)
include hl hr

theorem exec_mark : exec (.mark n) s = .next (s.endClock ((s.marked n w).advance n)) := by
  simp only [exec, execMark, act_live hl, State.instr_reaches hr]
  rfl

theorem mark_traces {p : Nat} (hptr : s.rd (F.GAF_LOG_PTR_TRACE_PTR n) = p) : Runs (.mark n) s fun u =>
    (u.reg (0x102000 + 0x10000 * n + 16 * p)).toNat = s.lineOf n % 2 ^ 32 ∧
    (u.reg (0x102004 + 0x10000 * n + 16 * p)).toNat = s.rd (F.GAF_LINE_HI n) + 2 ^ 16 * s.rd (F.GAF_LINE_HI_COUNT n) +
      2 ^ 24 * slice w 7 0 ∧
    (u.reg (0x102008 + 0x10000 * n + 16 * p)).toNat = s.cycles n % 2 ^ 32 ∧
    (u.reg (0x10200c + 0x10000 * n + 16 * p)).toNat = s.rd (F.GAF_STATUS_WIN n) + 2 * s.rd (F.GAF_STATUS_OVERRUN n) ∧
    u.rd (F.GAF_LOG_PTR_TRACE_PTR n) = (p + 1) % 256 ∧
    (p = 255 → u.on (F.GAF_LOG_PTR_TRACE_WRAPPED n) = true) ∧
    Advanced s u n := by
  subst hptr
  refine Runs.goesOn (exec_mark hl hr) fun u hu => ?_
  have hp : s.rd (F.GAF_LOG_PTR_TRACE_PTR n) < 256 := s.rd_lt _
  have hword : ∀ {i : Nat} (h : i < 4) {o : Nat},
      o = 0x102000 + 0x10000 * n.val + 16 * s.rd (F.GAF_LOG_PTR_TRACE_PTR n) + 4 * i →
      u.reg o = BitVec.ofNat 32 ((s.traceEntry n w)[i]'h) := fun {i} h {o} ho => by
    rw [hu.reg o (by simp only [F.GAF_STATUS_PC]; omega), ← s.marked_word n w h, ho, Nat.mod_eq_of_lt n.isLt,
      Nat.mod_eq_of_lt hp]
  have hptr : ∀ f : Fld, f.off = 0x100040 + 0x10000 * (n.val % 16) → u.rd f = (s.marked n w).rd f := fun f hf =>
    hu.rd_ne (by simp only [hf, F.GAF_STATUS_PC]; omega)
  refine ⟨?_, ?_, ?_, ?_, ?_, fun h => ?_, hu.advances (s.marked_pc n w)⟩
  · rw [hword (i := 0) (by decide) (by omega)]
    exact BitVec.toNat_ofNat _ _
  · rw [hword (i := 1) (by decide) (by omega), BitVec.toNat_ofNat, s.traceEntry_line]
    exact Nat.mod_eq_of_lt (s.traceEntry_line_lt n w)
  · rw [hword (i := 2) (by decide) (by omega)]
    exact BitVec.toNat_ofNat _ _
  · rw [hword (i := 3) (by decide) (by omega), BitVec.toNat_ofNat]
    exact Nat.mod_eq_of_lt (s.traceEntry_status_lt n)
  · rw [hptr _ rfl, State.marked_ptr]
  · rw [State.on, hptr _ rfl, State.marked_wraps _ _ _ h]
    rfl

end

/-- Settles O28: each instruction is what it does to a state it has reached, and one that is done goes on at the next word. -/
theorem gafferEffects : Obligations.GafferEffects := by
  unfold Obligations.GafferEffects
  refine ⟨fun _ _ _ _ _ hl hr hq => waitTrig_takes hl hr hq, fun s _ _ hl hr hq => ⟨s, exec_waitTrig_waits hl hr hq, rfl⟩,
    fun _ _ _ _ hl hr hk => waitEvt_consumes hl hr hk, fun s _ _ hl hr hk => ⟨s, exec_waitEvt_waits hl hr hk, rfl⟩,
    fun s n w hl hr hn hv hlo hhi hin => inject_starts hl hr hn ?_,
    fun _ _ _ hl hr hn h => inject_refuses hl hr hn h, fun s _ _ hl hr h => ⟨s, exec_inject_holds hl hr h, rfl⟩,
    fun s n w c hl hr hc => ?_, fun s n w hl hr hc hp => ?_, ?_, ?_, fun _ _ _ hl hr => xchg_marks hl hr,
    fun _ _ _ hl hr => signal_raises hl hr, fun _ _ _ hl hr => setStall_bounds hl hr,
    fun _ _ _ _ hl hr hptr => mark_traces hl hr hptr⟩
  · rw [State.injectOk, hv, decide_eq_true hlo, decide_eq_true hhi]
    exact hin
  · obtain ⟨u, hexec, hgaf, hadvanced, hhbm⟩ := commit_attaches hl hr (Gaffer.attach_next hc _)
    exact ⟨u, hexec, congrArg Gaffer.next hgaf, hadvanced, hhbm⟩
  · obtain ⟨u, hexec, hgaf, hadvanced, hhbm⟩ := commit_attaches hl hr (Gaffer.attach_current hc hp _)
    exact ⟨u, hexec, congrArg Gaffer.cur hgaf, hadvanced, hhbm⟩
  · rintro s n w _ _ hl hr hn hp rfl rfl h
    exact commit_refuses hl hr hn hp h
  · rintro s n w _ _ _ hl hr hn hp rfl rfl h rfl
    exact commit_drains hl hr hn hp h

end Sys2Proof.Machine

namespace Sys2Proof.Machine

/-! ### Bits of a buffer (R65, R68) -/

theorem setBitTo_lt {w i m : Nat} (hw : w < 2 ^ m) (hi : i < m) (b : Bool) : setBitTo w i b < 2 ^ m := by
  refine Nat.lt_pow_two_of_testBit _ fun j hj => ?_
  rw [testBit_setBitTo_ne _ (by omega)]
  exact Nat.testBit_lt_two_pow (Nat.lt_of_lt_of_le hw (Nat.pow_le_pow_right (by decide) hj))

section
variable (m : Bytes) (base a : Nat) (v : Bool)

theorem bufSet_byte : (Bytes.get (bufSet m base a v) (base + a / 8)).toNat =
    setBitTo (Bytes.get m (base + a / 8)).toNat (a % 8) v := by
  rw [bufSet, Bytes.get_set_same, BitVec.toNat_ofNat]
  exact Nat.mod_eq_of_lt (setBitTo_lt (Bytes.get m (base + a / 8)).isLt (Nat.mod_lt _ (by decide)) v)

theorem bufBit_bufSet_same : bufBit (bufSet m base a v) base a = v := by
  rw [bufBit, bufSet_byte, bit, testBit_setBitTo]

theorem bufBit_bufSet_ne {c : Nat} (h : c ≠ a) : bufBit (bufSet m base a v) base c = bufBit m base c := by
  by_cases hbyte : c / 8 = a / 8
  · rw [bufBit, bufBit, hbyte, bufSet_byte, bit, testBit_setBitTo_ne _ (by omega), bit]
  · rw [bufBit, bufSet, Bytes.get_set_ne _ _ (by omega), bufBit]

theorem get_bufSet_ne {c : Nat} (h : c ≠ base + a / 8) : Bytes.get (bufSet m base a v) c = Bytes.get m c :=
  Bytes.get_set_ne _ _ h

end

/-! ### The lanes of a word (R68, R69) -/

theorem State.liveLanes_nodup (s : State) (t p w : Nat) (repl : Bool) : (s.liveLanes t p w repl).Nodup := by
  refine List.Nodup.filter _ ?_
  cases repl with
  | false => exact List.nodup_singleton p
  | true => exact List.nodup_range.map fun i j h => Nat.add_left_cancel h

/-- The lanes of a unit address each a bit of its own. -/
theorem bitAddr_injOn {s : State} {t p w q q' : Nat} {repl : Bool} (hq : q ∈ s.liveLanes t p w repl)
    (hq' : q' ∈ s.liveLanes t p w repl) (h : bitAddr repl w q = bitAddr repl w q') : q = q' := by
  obtain ⟨hlane, -⟩ := List.mem_filter.1 hq
  obtain ⟨hlane', -⟩ := List.mem_filter.1 hq'
  cases repl with
  | false => exact (List.mem_singleton.1 hlane).trans (List.mem_singleton.1 hlane').symm
  | true =>
    obtain ⟨i, hi, rfl⟩ := List.mem_map.1 hlane
    obtain ⟨j, hj, rfl⟩ := List.mem_map.1 hlane'
    have hi := List.mem_range.1 hi
    have hj := List.mem_range.1 hj
    simp only [bitAddr, if_true] at h
    omega

/-! ### What an operand reads (R59–R62, R76–R78) -/

/-- Two states in which every operand reads alike. -/
structure OpndSame (s u : State) : Prop where
  dm : u.dm = s.dm
  results : u.results = s.results
  routes : u.routes = s.routes
  latch : u.latch = s.latch
  gafs : u.gafs = s.gafs
  region : ∀ c, u.rd (F.SEC_CTRL_REGION c) = s.rd (F.SEC_CTRL_REGION c)
  inRegion : ∀ n c, u.inRegion n c = s.inRegion n c
  phys : ∀ t, u.phys t = s.phys t
  poison : ∀ t, (u.tile t).poison = (s.tile t).poison

section
variable {s u : State} (h : OpndSame s u)
include h

theorem OpndSame.gaf (n : Nat) : u.gaf n = s.gaf n := congrArg (Tab.get (fun _ => Gaffer.init) · n) h.gafs

theorem OpndSame.dmGet (t q loc : Nat) : u.dmGet t q loc = s.dmGet t q loc := by
  simp only [State.dmGet, State.dmKey, h.dm, h.phys]

theorem OpndSame.driven (t q k lat : Nat) : u.driven t q k lat = s.driven t q k lat := by
  simp only [State.driven, h.results]

theorem OpndSame.goodRow (t r : Nat) : u.goodRow t r = s.goodRow t r := by
  have hrow : u.row t r = s.row t r := by simp only [State.row, h.routes, h.phys]
  rw [State.goodRow, hrow, State.goodRow]

theorem OpndSame.trackVal (n t k i : Nat) : u.trackVal n t k i = s.trackVal n t k i := by
  simp only [State.trackVal, h.gaf, h.goodRow, h.driven, h.latch, h.inRegion]

theorem OpndSame.specialVal (n t q i : Nat) : u.specialVal n t q i = s.specialVal n t q i := by
  simp only [State.specialVal, h.gaf, h.poison, h.region]

theorem OpndSame.opndOf (n t q k : Nat) (repl : Bool) (w i : Nat) : u.opndOf n t q k repl w i = s.opndOf n t q k repl w i := by
  simp only [State.opndOf, State.opnd, h.dmGet, h.driven, h.trackVal, h.specialVal]

end

/-! ### A capture leaves what steps read and write (R74) -/

/-- What captures leave: the sides of every tile, and the registers but the ring, its pointer and the count of drops. -/
structure CapKept (s u : State) : Prop where
  sides : SidesKept s u
  reg : ∀ o, o < 0x1000000 → o % 0x10000 ≠ 0x6c → o % 0x10000 ≠ 0x70 → u.reg o = s.reg o

theorem CapKept.refl (s : State) : CapKept s s := ⟨.refl s, fun _ _ _ _ => rfl⟩

theorem CapKept.ite {s t u : State} {c : Prop} [Decidable c] (ht : CapKept s t) (hu : CapKept s u) :
    CapKept s (if c then t else u) := by
  split
  · exact ht
  · exact hu

section
variable {s u : State} (h : CapKept s u)
include h

theorem CapKept.wr {f : Fld} (v : Nat) (hf : f.off % 0x10000 = 0x6c ∨ f.off % 0x10000 = 0x70) : CapKept s (u.wr f v) :=
  ⟨fun t => h.sides t, fun o ho hptr hdrop => (u.reg_wr_ne v (by rintro rfl; omega)).trans (h.reg o ho hptr hdrop)⟩

theorem CapKept.capPut (t w : Nat) (l : List Nat) : CapKept s (u.capPut t w l) where
  sides := h.sides.trans ((State.capPut_leaves (.refl 0x400000 u) rfl t w l).sidesKept (by decide))
  reg o ho hptr hdrop := Eq.trans (forEach_obs_out (State.reg · o) (f := fun (x : Nat × Nat) (v : State) =>
    v.setReg (0x1000000 + 0x20000 * (t % 128) + 4 * ((w + x.1) % 8192)) (BitVec.ofNat 32 x.2))
    (fun x _ v => v.reg_setReg_ne _ (by omega)) u) (h.reg o ho hptr hdrop)

end

theorem State.append_kept (s : State) (t k st u lane : Nat) (v : Bool) : CapKept s (s.append t k st u lane v) := by
  have hentries : ∀ (step at_ count w : Nat) (l : List Nat), CapKept s ((s.setTile t { s.tile t with
      capStep := step, capFrom := at_, capCount := count }).capPut t w l) := fun step at_ count w l =>
    CapKept.capPut ⟨SidesKept.setTile s t (x := { s.tile t with capStep := step, capFrom := at_, capCount := count }) rfl rfl rfl,
      fun _ _ _ _ => rfl⟩ t w l
  have hptr : (0x20006c + 0x10000 * (t % 128)) % 0x10000 = 0x6c := by omega
  have hdrop : (0x200070 + 0x10000 * (t % 128)) % 0x10000 = 0x70 := by omega
  unfold State.append
  dsimp only
  exact .ite (.ite ((hentries _ _ _ _ _).wr _ (.inr hdrop)) (hentries _ _ _ _ _))
    (.ite (.ite (((hentries _ _ _ _ _).wr _ (.inl hptr)).wr _ (.inl hptr))
      (((hentries _ _ _ _ _).wr _ (.inl hptr)).wr _ (.inl hptr))) ((hentries _ _ _ _ _).wr _ (.inl hptr)))

theorem State.capture_kept (s : State) (t k st u q w : Nat) (repl v : Bool) : CapKept s (s.capture t k st u q w repl v) :=
  .ite (s.append_kept t k st u _ v) (.refl s)

/-! ### One lane writes its bit (R65, R91) -/

/-- The buffer that a step writes: gob-out with OUT, the request area with MREQ. -/
def State.stepBuf (req : Bool) (s : State) : Bytes :=
  match req with
  | false => s.gobOut
  | true => s.reqArea

/-- The byte at which tile `t`'s part of the buffer begins. -/
def State.stepBase (req : Bool) (t : Nat) (s : State) : Nat :=
  match req with
  | false => s.outFill t
  | true => t * 4096

/-- The number that a bit of the buffer has among those that steps have marked. -/
def stepMark (req : Bool) (a : Nat) : Nat :=
  match req with
  | false => a
  | true => 16384 + a

/-- Put the buffer. -/
def State.putStepBuf (req : Bool) (m : Bytes) (s : State) : State :=
  match req with
  | false => s.withGobOut m
  | true => s.withReqArea m

/-- The latest step that wrote bit `a`, and the bit. -/
def State.bufSeen (req : Bool) (t a : Nat) (s : State) : Nat × Bool :=
  (Tab.get (fun _ => 0) s.stamps (t * 65536 + stepMark req a), bufBit (s.stepBuf req) (s.stepBase req t) a)

/-- The bit after a write of step `k`. -/
def stamped (k : Nat) (v : Bool) (x : Nat × Bool) : Nat × Bool :=
  if k + 1 < x.1 then x else (k + 1, if x.1 = k + 1 then x.2 || v else v)

theorem stamped_bit (k : Nat) (v : Bool) (x : Nat × Bool) :
    (stamped k v x).2 = if k + 1 < x.1 then x.2 else if x.1 = k + 1 then x.2 || v else v := by
  unfold stamped
  split <;> rfl

/-- Write bit `a` of tile `t`'s part of the buffer in step `k`. -/
def State.bufWrite (req : Bool) (t k a : Nat) (v : Bool) (s : State) : State :=
  s.stampBit t (stepMark req a) k (bufBit (s.stepBuf req) (s.stepBase req t) a) v fun nv s =>
    s.putStepBuf req (bufSet (s.stepBuf req) (s.stepBase req t) a nv)

section
variable (req : Bool) (s : State) (x : Tab Nat) (m : Bytes) (t : Nat)

theorem State.putStepBuf_buf : (s.putStepBuf req m).stepBuf req = m := by cases req <;> rfl
theorem State.putStepBuf_base : (s.putStepBuf req m).stepBase req t = s.stepBase req t := by cases req <;> rfl
theorem State.putStepBuf_stamps : (s.putStepBuf req m).stamps = s.stamps := by cases req <;> rfl
theorem State.withStamps_buf : (s.withStamps x).stepBuf req = s.stepBuf req := by cases req <;> rfl
theorem State.withStamps_base : (s.withStamps x).stepBase req t = s.stepBase req t := by cases req <;> rfl

theorem stepMark_inj {a c : Nat} (h : c ≠ a) : stepMark req c ≠ stepMark req a := by
  cases req with
  | false => exact h
  | true => exact fun he => h (Nat.add_left_cancel he)

end

section
variable {req : Bool} {t k a : Nat} {v : Bool} {s : State}

/-- A later step's write stands. -/
theorem State.bufWrite_late (h : k + 1 < (s.bufSeen req t a).1) : s.bufWrite req t k a v = s := if_pos h

theorem State.bufWrite_now (h : ¬ k + 1 < (s.bufSeen req t a).1) : s.bufWrite req t k a v =
    (s.withStamps (Tab.set (fun _ => 0) s.stamps (t * 65536 + stepMark req a) (k + 1))).putStepBuf req
      (bufSet (s.stepBuf req) (s.stepBase req t) a (stamped k v (s.bufSeen req t a)).2) := by
  rw [stamped, if_neg h]
  refine (if_neg h).trans ?_
  rw [State.withStamps_buf, State.withStamps_base]
  rfl

theorem State.bufWrite_seen : (s.bufWrite req t k a v).bufSeen req t a = stamped k v (s.bufSeen req t a) := by
  by_cases h : k + 1 < (s.bufSeen req t a).1
  · rw [State.bufWrite_late h, stamped, if_pos h]
  · rw [State.bufWrite_now h, State.bufSeen, State.putStepBuf_buf, State.putStepBuf_base, State.putStepBuf_stamps,
      State.withStamps_base, bufBit_bufSet_same, State.withStamps_stamps, Tab.get_set_same, stamped, if_neg h]

theorem State.bufWrite_seen_ne {c : Nat} (hc : c ≠ a) : (s.bufWrite req t k a v).bufSeen req t c = s.bufSeen req t c := by
  by_cases h : k + 1 < (s.bufSeen req t a).1
  · rw [State.bufWrite_late h]
  · have hkey : t * 65536 + stepMark req c ≠ t * 65536 + stepMark req a := fun he =>
      stepMark_inj req hc (Nat.add_left_cancel he)
    rw [State.bufWrite_now h, State.bufSeen, State.putStepBuf_buf, State.putStepBuf_base, State.putStepBuf_stamps,
      State.withStamps_base, bufBit_bufSet_ne _ _ _ _ hc, State.withStamps_stamps, Tab.get_set_ne _ _ _ hkey, State.bufSeen]

theorem State.bufWrite_byte {c : Nat} (hc : c ≠ s.stepBase req t + a / 8) :
    Bytes.get ((s.bufWrite req t k a v).stepBuf req) c = Bytes.get (s.stepBuf req) c := by
  by_cases h : k + 1 < (s.bufSeen req t a).1
  · rw [State.bufWrite_late h]
  · rw [State.bufWrite_now h, State.putStepBuf_buf, get_bufSet_ne _ _ _ _ hc]

theorem State.bufWrite_leaf : Leaves 0x680000000 s (s.bufWrite req t k a v) := by
  by_cases h : k + 1 < (s.bufSeen req t a).1
  · rw [State.bufWrite_late h]
    exact .refl _ s
  · rw [State.bufWrite_now h]
    have hstamps := (Leaves.refl 0x680000000 s).upd_stamps (by decide)
      (Tab.wf_set (fun _ => 0) (t * 65536 + stepMark req a) (k + 1))
    cases req with
    | false => exact hstamps.upd_gobOut (by decide) fun hw => Bytes.wf_set _ _ hw
    | true => exact hstamps.upd_reqArea (by decide) fun hw => Bytes.wf_set _ _ hw

end

/-- One lane of a step that writes its buffer. -/
def State.bufLane (req : Bool) (n t p k st w : Nat) (repl : Bool) (q : Nat) (s : State) : State :=
  (s.bufWrite req t k (bitAddr repl w q) (s.opndOf n t q k repl w 0)).capture t k st p q w repl (s.opndOf n t q k repl w 0)

section
variable (req : Bool) (n t p k st w : Nat) (repl : Bool) (q : Nat) (s : State)

theorem State.bufLane_leaf : Leaves 0x2680404000 s (s.bufLane req n t p k st w repl q) :=
  State.capture_leaves (State.bufWrite_leaf.within (by decide)) (by decide) t k st p q w repl _

/-- The capture of a lane leaves what the lane wrote. -/
theorem State.bufLane_kept : CapKept (s.bufWrite req t k (bitAddr repl w q) (s.opndOf n t q k repl w 0))
    (s.bufLane req n t p k st w repl q) := State.capture_kept _ _ _ _ _ _ _ _ _

/-- A lane leaves the sides of every tile. -/
theorem State.bufLane_sides : SidesKept s (s.bufLane req n t p k st w repl q) :=
  (State.bufWrite_leaf.sidesKept (by decide)).trans (s.bufLane_kept req n t p k st w repl q).sides

theorem State.bufLane_phys (c : Nat) : (s.bufLane req n t p k st w repl q).phys c = s.phys c := by
  refine congrArg (F.MPU_PHYS c).of (((s.bufLane_kept req n t p k st w repl q).reg _ ?_ ?_ ?_).trans
    (State.bufWrite_leaf.reg (by rw [F.MPU_PHYS_part]; decide)))
  all_goals
    simp only [F.MPU_PHYS]
    omega

/-- What a lane writes no operand of the step reads. -/
theorem State.bufLane_opnds : OpndSame s (s.bufLane req n t p k st w repl q) :=
  have hleaf := s.bufLane_leaf req n t p k st w repl q
  { dm := hleaf.same .dm (by decide)
    results := hleaf.same .results (by decide)
    routes := hleaf.same .routes (by decide)
    latch := hleaf.same .latch (by decide)
    gafs := hleaf.same .gafs (by decide)
    region := fun c => hleaf.rd (p := .secRegs) (regPart_secRegs (by simp only [F.SEC_CTRL_REGION]; omega)
      (by simp only [F.SEC_CTRL_REGION]; omega)) (by decide) (by decide)
    inRegion := hleaf.inRegion (by decide)
    phys := s.bufLane_phys req n t p k st w repl q
    poison := fun c => congrArg (fun x => x.2.2) (s.bufLane_sides req n t p k st w repl q c) }

end

theorem Leaves.stepBuf {m : Nat} {s u : State} (h : Leaves m s u) (hout : m.testBit Part.gobOut.ctorIdx = false)
    (hreq : m.testBit Part.reqArea.ctorIdx = false) (req : Bool) : u.stepBuf req = s.stepBuf req := by
  cases req with
  | false => exact h.same .gobOut hout
  | true => exact h.same .reqArea hreq

theorem SidesKept.stepBase {s u : State} (h : SidesKept s u) (req : Bool) (t : Nat) : u.stepBase req t = s.stepBase req t := by
  cases req with
  | false => exact State.outFill_congr (h t)
  | true => rfl

/-- What writes no bit of a buffer and turns no side leaves what is seen of it. -/
theorem Leaves.bufSeen {m : Nat} {s u : State} (h : Leaves m s u) (hstamps : m.testBit Part.stamps.ctorIdx = false)
    (hout : m.testBit Part.gobOut.ctorIdx = false) (hreq : m.testBit Part.reqArea.ctorIdx = false) (hsides : SidesKept s u)
    (req : Bool) (t a : Nat) : u.bufSeen req t a = s.bufSeen req t a := by
  have hmarks : u.stamps = s.stamps := h.same .stamps hstamps
  rw [State.bufSeen, hmarks, h.stepBuf hout hreq, hsides.stepBase, State.bufSeen]

section
variable (req : Bool) (n t p k st w : Nat) (repl : Bool) (q : Nat) (s : State)

theorem State.bufLane_captured (a : Nat) : (s.bufLane req n t p k st w repl q).bufSeen req t a =
    (s.bufWrite req t k (bitAddr repl w q) (s.opndOf n t q k repl w 0)).bufSeen req t a :=
  (State.capture_leaves (.refl 0x2000404000 _) rfl t k st p q w repl _).bufSeen (by decide) (by decide) (by decide)
    (s.bufLane_kept req n t p k st w repl q).sides req t a

theorem State.bufLane_byte {c : Nat} (h : c ≠ s.stepBase req t + bitAddr repl w q / 8) :
    Bytes.get ((s.bufLane req n t p k st w repl q).stepBuf req) c = Bytes.get (s.stepBuf req) c := by
  rw [State.bufLane, (State.capture_leaves (.refl 0x2000404000 _) rfl t k st p q w repl _).stepBuf (by decide) (by decide),
    State.bufWrite_byte h]

end

/-! ### All lanes of a word -/

/-- Lane after lane writes the buffer. -/
def State.bufLanes (req : Bool) (n t p k st w : Nat) (repl : Bool) (l : List Nat) (s : State) : State :=
  forEach l (fun q s => s.bufLane req n t p k st w repl q) s

section
variable (req : Bool) (n t p k st w : Nat) (repl : Bool) (l : List Nat) (s : State)

theorem State.bufLanes_leaf : Leaves 0x2680404000 s (s.bufLanes req n t p k st w repl l) :=
  (Leaves.refl _ s).forEach fun q u hu => hu.step (u.bufLane_leaf req n t p k st w repl q) (by decide)

theorem State.bufLanes_sides : SidesKept s (s.bufLanes req n t p k st w repl l) :=
  .forEach (fun q u => u.bufLane_sides req n t p k st w repl q) l s

variable {l}

/-- Each lane's bit is written once, with the operand the lane read before the step. -/
theorem State.bufLanes_seen (hn : l.Nodup) (hinj : ∀ q ∈ l, ∀ q' ∈ l, bitAddr repl w q = bitAddr repl w q' → q = q') {q : Nat}
    (hq : q ∈ l) : (s.bufLanes req n t p k st w repl l).bufSeen req t (bitAddr repl w q) =
      stamped k (s.opndOf n t q k repl w 0) (s.bufSeen req t (bitAddr repl w q)) := by
  have hopnd : ∀ (b : Nat) (u : State), (u.bufLane req n t p k st w repl b).opndOf n t q k repl w 0 = u.opndOf n t q k repl w 0 :=
    fun b u => (u.bufLane_opnds req n t p k st w repl b).opndOf n t q k repl w 0
  refine congrArg Prod.fst (forEach_obs_in (f := fun q (u : State) => u.bufLane req n t p k st w repl q)
    (fun u => (u.bufSeen req t (bitAddr repl w q), u.opndOf n t q k repl w 0)) (g := fun x => (stamped k x.2 x.1, x.2)) hn hq
    (fun b hb hne u => ?_) (fun u => ?_) s)
  · rw [hopnd, State.bufLane_captured, State.bufWrite_seen_ne fun h => hne (hinj b hb q hq h.symm)]
  · rw [hopnd, State.bufLane_captured, State.bufWrite_seen]

theorem State.bufLanes_byte {c : Nat} (h : ∀ q ∈ l, c ≠ s.stepBase req t + bitAddr repl w q / 8) :
    Bytes.get ((s.bufLanes req n t p k st w repl l).stepBuf req) c = Bytes.get (s.stepBuf req) c := by
  refine (forEach_keeps (p := fun u => SidesKept s u ∧ Bytes.get (u.stepBuf req) c = Bytes.get (s.stepBuf req) c)
    (fun q hq u hu => ?_) ⟨.refl s, rfl⟩).2
  obtain ⟨hsides, hbyte⟩ := hu
  refine ⟨hsides.trans (u.bufLane_sides req n t p k st w repl q), ?_⟩
  rw [State.bufLane_byte _ _ _ _ _ _ _ _ _ _ (by rw [hsides.stepBase]; exact h q hq), hbyte]

end

/-! ### Faults met before the lanes turn no side (R81, R395) -/

section
variable (s : State) (n t : Nat)

theorem State.fault2_sides (src detail cause : Nat) : SidesKept s (s.fault2 n src detail cause) :=
  (State.fault2_leaves (.refl 0x110619d008c00010701a s) rfl n src detail cause).sidesKept (by decide)

theorem State.rowRecorded_sides (r : Nat) : SidesKept s (s.rowRecorded t r) := by
  have hspoilt : SidesKept s (s.spoilRow t r) := (State.spoilRow_leaves (.refl 0x8000000 s) rfl t r).sidesKept (by decide)
  have hmarked := hspoilt.trans (SidesKept.setTile _ t
    (x := { (s.spoilRow t r).tile t with rowsBad := r :: ((s.spoilRow t r).tile t).rowsBad }) rfl rfl rfl)
  unfold State.rowRecorded
  dsimp only
  generalize (s.spoilRow t r).setTile t _ = v at *
  exact .ite hmarked (hmarked.trans fun _ => rfl)

theorem State.rowFails_sides (r : Nat) : SidesKept s (s.rowFails n t r) := by
  have hcount : Leaves 0x10001990080000006010 (s.rowRecorded t r)
      (((s.rowRecorded t r).bump (F.MPU_RT_ERR_CNT_COUNT t)).raise Ev.MPU_ROUTE_ERR) :=
    State.raise_leaves ((Leaves.refl _ _).bump (Part.bit (F.MPU_RT_ERR_CNT_COUNT_part t) (by decide))) (by decide) _
  rw [s.rowFails_eq]
  exact ((s.rowRecorded_sides t r).trans (hcount.sidesKept (by decide))).trans (State.fault2_sides _ _ _ _ _)

theorem State.dmFails_sides (p : Nat) (repl : Bool) (q loc : Nat) : SidesKept s (s.dmFails n t p repl q loc) := by
  have hnoted : SidesKept s (s.setTile t { s.tile t with dmFails := (s.tile t).dmFails + 1 }) := .setTile s t rfl rfl rfl
  exact .ite hnoted ((hnoted.trans ((State.raise_leaves (.refl 0x10001990080000002010 _) rfl _).sidesKept (by decide))).trans
    (State.fault2_sides _ _ _ _ _))

/-- The route row that the step meets. -/
def State.rowMet (rowBad : Option (Fin 16384)) : State :=
  match rowBad with
  | some r =>
    if decide ((s.rowRange n).1 ≤ r.val) && decide (r.val < (s.rowRange n).1 + (s.rowRange n).2) &&
        !(s.tile t).rowsBad.contains r.val then s.rowFails n t r.val
    else s
  | none => s

theorem State.rowMet_sides (rowBad : Option (Fin 16384)) : SidesKept s (s.rowMet n t rowBad) := by
  cases rowBad with
  | none => exact .refl s
  | some r => exact .ite (s.rowFails_sides n t r) (.refl s)

theorem State.readFaults_eq (p w : Nat) (repl : Bool) (dmBad : Option DmBad) (rowBad : Option (Fin 16384)) :
    s.readFaults n t p w repl dmBad rowBad =
      forEach (((s.rowMet n t rowBad).dmUpset t p w repl dmBad).failingReads t p w repl)
        (fun x s => s.dmFails n t p repl x.1 x.2) ((s.rowMet n t rowBad).dmUpset t p w repl dmBad) := by
  cases rowBad <;> rfl

theorem State.readFaults_sides (p w : Nat) (repl : Bool) (dmBad : Option DmBad) (rowBad : Option (Fin 16384)) :
    SidesKept s (s.readFaults n t p w repl dmBad rowBad) := by
  have hupset : SidesKept (s.rowMet n t rowBad) ((s.rowMet n t rowBad).dmUpset t p w repl dmBad) :=
    (State.dmUpset_leaves (.refl 0x20000000 _) rfl t p w repl dmBad).sidesKept (by decide)
  have hread : ∀ (x : Nat × Nat) (u : State), SidesKept u (u.dmFails n t p repl x.1 x.2) := fun x u =>
    u.dmFails_sides n t p repl x.1 x.2
  rw [s.readFaults_eq]
  exact ((s.rowMet_sides n t rowBad).trans hupset).trans (.forEach hread _ _)

end

/-! ### OUT and MREQ -/

/-- A unit's step is what the word it fetches does. -/
theorem State.atStep_fetches {s : State} {t p k kind n st w : Nat} {repl : Bool} (h : s.fetches t p k kind n repl st w)
    (f : Nat → Bool → Nat → Nat → State → State) : s.atStep t p k kind f = f n repl st w s := by
  obtain ⟨hunit, hword, hkind, hvalid⟩ := h
  simp only [State.atStep, hunit, hword, hkind, hvalid, Option.isNone_none, decide_true, Bool.and_self, if_true]

section
variable {s : State} {t : Fin 128} {p : Fin 1024} {k : Fin 16384} {n st w : Nat} {repl : Bool} (hl : s.live = true)
  (dmBad : Option DmBad) (rowBad : Option (Fin 16384))
include hl

theorem exec_stepOut (h : s.fetches t p k 4 n repl st w) : exec (.stepOut t p k dmBad rowBad) s = .next (s.endClock
    ((s.readFaults n t p w repl dmBad rowBad).bufLanes false n t p k st w repl (s.liveLanes t p w repl))) := by
  simp only [exec, execStepOut, act_live hl, State.atStep_fetches h]
  rfl

theorem exec_mreq (h : s.fetches t p k 5 n repl st w) : exec (.mreq t p k dmBad rowBad) s = .next (s.endClock
    ((s.readFaults n t p w repl dmBad rowBad).bufLanes true n t p k st w repl (s.liveLanes t p w repl))) := by
  simp only [exec, execMreq, act_live hl, State.atStep_fetches h]
  rfl

omit hl

/-- What the lanes of a word write, whichever buffer it is. -/
theorem Runs.writesBuf {c : Instr} {req : Bool} (hexec : exec c s = .next (s.endClock
      ((s.readFaults n t p w repl dmBad rowBad).bufLanes req n t p k st w repl (s.liveLanes t p w repl)))) :
    Runs c s fun u =>
      (∀ q ∈ s.liveLanes t p w repl, bufBit (u.stepBuf req) (s.stepBase req t) (bitAddr repl w q) =
        (stamped k ((s.readFaults n t p w repl dmBad rowBad).opndOf n t q k repl w 0)
          (s.bufSeen req t (bitAddr repl w q))).2) ∧
      (∀ a, (∀ q ∈ s.liveLanes t p w repl, a ≠ s.stepBase req t + bitAddr repl w q / 8) →
        Bytes.get (u.stepBuf req) a = Bytes.get (s.stepBuf req) a) ∧
      u.dm = s.dm := by
  refine Runs.of_clocked hexec fun u hu => ?_
  have hfaults := State.readFaults_leaves (.refl 0x110619d008e02810701a s) rfl n t p w repl dmBad rowBad
  have hfaultSides := s.readFaults_sides n t p w repl dmBad rowBad
  generalize s.readFaults n t p w repl dmBad rowBad = v at *
  have hsides := (hfaultSides.trans (v.bufLanes_sides req n t p k st w repl (s.liveLanes t p w repl))).trans
    (hu.leaves.sidesKept (by decide))
  have hbuf := hu.leaves.stepBuf (by decide) (by decide) req
  refine ⟨fun q hq => ?_, fun a ha => ?_, ?_⟩
  · have hseen := v.bufLanes_seen req n t p k st w repl (s.liveLanes_nodup t p w repl)
      (fun q hq q' hq' => bitAddr_injOn hq hq') hq
    rw [← hu.leaves.bufSeen (by decide) (by decide) (by decide) (hu.leaves.sidesKept (by decide)),
      hfaults.bufSeen (by decide) (by decide) (by decide) hfaultSides] at hseen
    rw [← hseen, State.bufSeen, hsides.stepBase]
  · rw [hbuf, State.bufLanes_byte _ _ _ _ _ _ _ _ _ (by rw [hfaultSides.stepBase]; exact ha),
      hfaults.stepBuf (by decide) (by decide)]
  · exact (((hfaults.comp (v.bufLanes_leaf req n t p k st w repl _)).comp hu.leaves).same .dm (by decide))

end

/-- Settles O24: both words write the bit of each lane by one rule, whatever faults the step meets and the lanes capture. -/
theorem stepBuffers : Obligations.StepBuffers := by
  unfold Obligations.StepBuffers
  refine ⟨fun s t p k dmBad rowBad n repl st w hl hf => ?_, fun s t p k dmBad rowBad n repl st w hl hf => ?_⟩
  · obtain ⟨u, hexec, hbits, hbytes, hdm⟩ := Runs.writesBuf dmBad rowBad (exec_stepOut hl dmBad rowBad hf)
    exact ⟨u, hexec, fun q hq => (hbits q hq).trans (stamped_bit _ _ _), hbytes, hdm⟩
  · obtain ⟨u, hexec, hbits, hbytes, hdm⟩ := Runs.writesBuf dmBad rowBad (exec_mreq hl dmBad rowBad hf)
    exact ⟨u, hexec, fun q hq => (hbits q hq).trans (stamped_bit _ _ _), hbytes, hdm⟩

end Sys2Proof.Machine

namespace Sys2Proof.Machine

/-! ### The end of a drain at a stack whose power-down it abandons (R264, R366, R367) -/

theorem exec_commitDrainEnd {s : State} {n : Fin 16} {d : Drain} {ds : List Drain} (hl : s.live = true)
    (hd : (s.gaf n).drains = d :: ds) :
    exec (.commitDrainEnd n) s = .next (s.endClock
      (((s.setGaf n { s.gaf n with drains := ds }).hbmWrite (d.record + 64)
        ((s.setGaf n { s.gaf n with drains := ds }).drainBytes d)).hbmWrite d.record
          (drainHeader d d.tiles.length true false))) := by
  simp only [exec, execCommitDrainEnd, act_live hl, hd]

/-- A drain of tile 0 that takes its status word alone, with its record at address 0, which stack 0 serves. -/
def drainOfOne : Drain := ⟨0, 0, 0, 0, 0, [0]⟩

/-- Stack 0 has begun a power-down and is not isolated yet; the drain that gaffer 0 runs has its record there. -/
def drainAtPowerDown : State := stackPoweringDown.setGaf 0 { Gaffer.init with drains := [drainOfOne] }

/-- Refutes O26 in its clause `commitDrainEndWaits`, which holds the entries and the header wherever no stack of the record serves
as the drain ends: a stack that has begun a power-down does not serve then (R366), but the write of the entries abandons the
power-down (R367), so the stack serves again and takes both writes in the same step, with nothing held. -/
theorem not_gobDeliveries : ¬ Obligations.GobDeliveries := by
  unfold Obligations.GobDeliveries
  rintro ⟨-, -, -, -, -, -, -, -, -, -, -, commitDrainEndWaits, -⟩
  have hl : drainAtPowerDown.live = true := by decide +kernel
  have hdrains : (drainAtPowerDown.gaf (0 : Fin 16)).drains = [drainOfOne] := by decide +kernel
  obtain ⟨u, hu, -, -, hheld⟩ := commitDrainEndWaits drainAtPowerDown 0 drainOfOne [] hl hdrains
    (by decide +kernel) (by decide +kernel)
  have hwritten : u.hbmHeld = [] := by
    rw [exec_commitDrainEnd hl hdrains] at hu
    rw [← answer_next hu]
    decide +kernel
  simp [hwritten] at hheld

/-! ### A malformed frame that quarantines a port of the master (R166, R171, R184) -/

theorem exec_ack_malformed {s : State} {p : Fin 4} {h : FrameHdr} {type : BitVec 8} {seq : BitVec 16} {r : Nat}
    (hl : s.live = true) (hp : s.linked p = true) (hm : s.malformed p h (.ack type seq) = some r) :
    exec (.ack p h type seq) s = .next (s.endClock (s.violation p r h false)) := by
  simp [exec, execAck, act_live hl, State.receive, hp, hm, ircType]

/-- A master whose port 0 is in GROUP and goes into quarantine at its first violation. -/
def masterAtLimit : State :=
  ((State.reset.wr F.TB_STATUS_ROLE 3).wr (F.IRC_STATUS_STATE 0) 3).wr (F.IRC_QUAR_CFG_LIMIT 0) 1

/-- The header of an ACK from member 7, with 0 for its CRC. -/
def ackWithoutCrc : FrameHdr := ⟨0, 0, 0, 7, false, 0, restOf (.ack 5#8 1#16)⟩

/-- Refutes O33 in its clause `frameMalformed`, by which a malformed frame leaves the frames that wait for an ACK alone: where the
violation reaches LIMIT the port quarantines itself (R184), and a master whose port was in GROUP issues an epoch without the link
(R171), whose EPOCH frame waits for its ACK from then on (R165). -/
theorem not_linkMessages : ¬ Obligations.LinkMessages := by
  unfold Obligations.LinkMessages
  rintro ⟨-, -, -, -, -, -, -, frameMalformed, -⟩
  have hl : masterAtLimit.live = true := by decide +kernel
  have hp : masterAtLimit.linked (0 : Fin 4) = true := by decide +kernel
  have hm : masterAtLimit.malformed (0 : Fin 4) ackWithoutCrc (.ack 5#8 1#16) = some 1 := by decide +kernel
  obtain ⟨u, hu, -, -, hkept⟩ := frameMalformed masterAtLimit 0 ackWithoutCrc 5#8 1#16 1 hl hp hm
  have hnone : u.tb.unacked = [] := hkept
  have hepoch : u.tb.unacked.length = 1 := by
    rw [exec_ack_malformed hl hp hm] at hu
    rw [← answer_next hu]
    decide +kernel
  simp [hnone] at hepoch

end Sys2Proof.Machine

namespace Sys2Proof.Machine

/-! ### A stage at a stack whose power-down it abandons (R324, R366, R367) -/

/-- Stack 0 has begun a power-down and is not isolated yet; a stage of the first 4 KiB of HBM, which it serves, is under way. -/
def stageAtPowerDown : State := stackPoweringDown.withLdr { Loader.init with stage := some (3, 0, 4096) }

/-- Refutes O45 in its clause `parisonStageWaits`, by which a stage stays under way wherever a stack of its copy does not serve as
the command comes: a stack that has begun a power-down does not serve then (R366), but the stage's own read abandons the power-down
(R367), so the stack serves again and the stage ends in the same step. -/
theorem not_imageLoads : ¬ Obligations.ImageLoads := by
  unfold Obligations.ImageLoads
  rintro ⟨-, -, -, -, -, -, -, -, -, -, parisonStageWaits, -⟩
  have hl : stageAtPowerDown.live = true := by decide +kernel
  obtain ⟨u, hu, hldr, -⟩ := parisonStageWaits stageAtPowerDown 3 0 4096 [] hl rfl (by decide +kernel)
  have hstage : u.ldr.stage = some (3, 0, 4096) := congrArg Loader.stage hldr
  have hended : u.ldr.stage = none := by
    rw [exec, execParisonStageComplete, act_live hl] at hu
    rw [← answer_next hu]
    decide +kernel
  simp [hended] at hstage

/-! ### The recorded sources stay through an orderly shutdown (R327, R413) -/

/-- SHUTDOWN_ORDERLY runs, with every region IDLE, the replay store off and every sector awake; slot 0 is the recorded source of the
resident content. -/
def shuttingDown : State :=
  ((forEach (upTo 16) (fun c s => s.wr (F.SEC_STATUS_PSTATE c) 0) State.reset).withMbx
    { State.reset.mbx with longRun := some ⟨0, 0x31, false, false⟩ }).withLdr { Loader.init with full := some 0 }

/-- Refutes O46 in its clause `shutdownOrderlyComplete`, by which no recorded source is left after an orderly shutdown: the command
removes the content and leaves the loader alone, so a source that is recorded stays so until its content is next rewritten (R327). -/
theorem not_regionCommands : ¬ Obligations.RegionCommands := by
  unfold Obligations.RegionCommands
  rintro ⟨-, -, -, -, -, -, -, -, -, shutdownOrderlyComplete⟩
  obtain ⟨u, hu, -, -, -, -, -, -, ⟨hfull, -⟩, -⟩ := shutdownOrderlyComplete shuttingDown [] ⟨0, 0x31, false, false⟩
    (by decide +kernel) rfl ⟨rfl, rfl⟩ (by decide) (by decide +kernel) (by decide +kernel) (by decide +kernel)
  have hldr : u.ldr = shuttingDown.ldr := footprintKept _ _ _ hu .ldr (by decide)
  simp [hldr, shuttingDown] at hfull

end Sys2Proof.Machine

namespace Sys2Proof.Machine

/-! ### A gaffer that goes to a word (R98, R106) -/

/-- A command keeps every part that its footprint does not name, whatever else it shows. -/
theorem Runs.and_keeps {c : Instr} {s : State} {P : State → Prop} (h : Runs c s P) :
    Runs c s fun u => P u ∧ Keeps (footprint c) s u := by
  obtain ⟨u, hexec, hu⟩ := h
  exact ⟨u, hexec, hu, (exec_leaves hexec).keeps⟩

/-- A command has one outcome: what it is shown to do holds together. -/
theorem Runs.and {c : Instr} {s : State} {P Q : State → Prop} (h : Runs c s P) (k : Runs c s Q) :
    Runs c s fun u => P u ∧ Q u := by
  obtain ⟨u, hexec, hu⟩ := h
  obtain ⟨v, hexec', hv⟩ := k
  obtain rfl : u = v := answer_next (hexec.symm.trans hexec')
  exact ⟨u, hexec, hu, hv⟩

theorem State.goto_inside (s : State) {n pc : Nat} (h : pc < 512) : s.goto n pc = s.wr (F.GAF_STATUS_PC n) pc := if_pos h

theorem State.goto_past (s : State) {n pc : Nat} (h : ¬pc < 512) : s.goto n pc = s.setGaf n { s.gaf n with past := true } :=
  if_neg h

theorem State.wr_pc (s : State) {n pc : Nat} (h : pc < 512) : (s.wr (F.GAF_STATUS_PC n) pc).pcOf n = pc :=
  (State.rd_wr_mod _ _ rfl).trans (Nat.mod_eq_of_lt h)

theorem slice_lt (w hi lo : Nat) : slice w hi lo < 2 ^ (hi - lo + 1) := Nat.mod_lt _ (Nat.two_pow_pos _)

/-- What goes on from the state after an instruction stands where that state stood. -/
theorem Advanced.congr {n : Nat} {s t u : State} (h : Advanced s t n) (hpc : u.pcOf n = t.pcOf n)
    (hpast : (u.gaf n).past = (t.gaf n).past) : Advanced s u n := by
  rwa [Advanced, hpc, hpast]

/-! ### NOP, SELECT_WINDOW and JUMP (R98, R115) -/

/-- The window that the word of a SELECT_WINDOW selects: the one it names, or the other one. -/
def State.windowNamed (s : State) (n w : Nat) : Nat :=
  if slice w 1 0 = 3 then 1 - s.rd (F.GAF_STATUS_SEL n) else slice w 1 0

theorem State.windowNamed_mod (s : State) (n w : Nat) : s.windowNamed n w % 2 =
    if slice w 1 0 = 3 then 1 - s.rd (F.GAF_STATUS_SEL n) else slice w 0 0 := by
  unfold State.windowNamed
  split
  · omega
  · simp only [slice]
    omega

section
variable {s : State} {n : Fin 16} {w : Nat} (hl : s.live = true)
include hl

theorem gafferNop_goesOn (hr : s.reaches n 0 w) : Runs (.gafferNop n) s fun u =>
    Advanced s u n ∧ (∀ o, o ≠ (F.GAF_STATUS_PC n).off → u.reg o = s.reg o) ∧ Keeps [.gafRegs, .gafs] s u := by
  have hexec : exec (.gafferNop n) s = .next (s.endClock (s.advance n)) := by
    simp only [exec, execGafferNop, act_live hl, State.instr_reaches hr]
  obtain ⟨u, hu, ⟨hadvanced, hreg⟩, hkeeps⟩ := (Runs.goesOn hexec fun u hu => And.intro hu.advanced hu.reg).and_keeps
  exact ⟨u, hu, hadvanced, hreg, hkeeps⟩

theorem selectWindow_selects (hr : s.reaches n 4 w) : Runs (.selectWindow n) s fun u =>
    (u.rd (F.GAF_STATUS_SEL n) = (if slice w 1 0 = 3 then 1 - s.rd (F.GAF_STATUS_SEL n) else slice w 0 0)) ∧
    Advanced s u n ∧ (∀ o, o ≠ (F.GAF_STATUS_PC n).off → u.reg o = s.reg o) := by
  have hexec : exec (.selectWindow n) s = .next (s.endClock ((s.wr (F.GAF_STATUS_SEL n) (s.windowNamed n w)).advance n)) := by
    simp only [exec, execSelectWindow, act_live hl, State.instr_reaches hr, State.windowNamed]
  refine Runs.goesOn hexec fun u hu => ⟨?_, hu.advances (State.rd_wr_clear _ _ rfl), fun o ho => ?_⟩
  · rw [hu.rd _ rfl, State.rd_wr_mod _ _ rfl]
    exact s.windowNamed_mod n w
  · exact (hu.reg o ho).trans (State.reg_wr_ne _ _ ho)

theorem jump_goes (hr : s.reaches n 13 w) : Runs (.jump n) s fun u =>
    u.pcOf n = slice w 8 0 ∧ (∀ o, o ≠ (F.GAF_STATUS_PC n).off → u.reg o = s.reg o) ∧ u.gafs = s.gafs := by
  have hexec : exec (.jump n) s = .next (s.endClock (s.wr (F.GAF_STATUS_PC n) (slice w 8 0))) := by
    simp only [exec, execJump, act_live hl, State.instr_reaches hr, s.goto_inside (slice_lt w 8 0)]
  refine Runs.of_clocked hexec fun u hu => ⟨?_, fun o ho => ?_, hu.gafs.trans rfl⟩
  · exact (hu.rd _).trans (s.wr_pc (slice_lt w 8 0))
  · exact (hu.reg o).trans (State.reg_wr_ne _ _ ho)

end

/-! ### A fault in the registers of its gaffer (R105, R392) -/

section
variable (s : State) (n : Nat)

theorem State.reg_setGaf (g : Gaffer) (o : Nat) : (s.setGaf n g).reg o = s.reg o := (rfl)

/-- Discarding the queue writes the registers of its depth and of its count. -/
theorem State.discardQueue_reg {o : Nat} (hq : o ≠ (F.GAF_STATUS_QDEPTH n).off) (hc : o ≠ (F.GAF_TRIG_DISC_CNT_COUNT n).off) :
    (s.discardQueue n).reg o = s.reg o := by
  rw [State.discardQueue, State.setQueue, State.reg_wr_ne _ _ hq, State.reg_setGaf, State.reg_bumpBy_ne _ _ hc]

theorem State.haltGaf_reg (code cause : Nat) {o : Nat} (hs : o % 0x10000 ≠ 4) (hd : o % 0x10000 ≠ 0x38) :
    (s.haltGaf n code cause).reg o = s.reg o := by
  have hstatus : o ≠ 0x100004 + 0x10000 * (n % 16) := by omega
  have hdisc : o ≠ 0x100038 + 0x10000 * (n % 16) := by omega
  rw [State.haltGaf, State.discardQueue_reg _ _ hstatus hdisc, State.reg_wr_ne _ _ hstatus, State.reg_wr_ne _ _ hstatus,
    State.reg_setGaf]

/-- Beyond the halt, a region that enters FENCED changes nothing of any gaffer (R392). -/
theorem State.enterFenced_rest (cause source : Nat) :
    Leaves 0x110019d0080000102018 ((s.setGaf n { s.gaf n with waking := none }).halted n 5 cause) (s.enterFenced n cause source) := by
  unfold State.enterFenced
  dsimp only
  generalize (s.setGaf n { s.gaf n with waking := none }).halted n 5 cause = t
  have hrecord (a b c : Nat) : Leaves 0x110019d0080000102018 t (((t.wr F.FLT_STAT_FENCED a).wr (F.FLT_FENCE_LAST_SOURCE n)
      b).wr (F.FLT_FENCE_COUNT n) c) :=
    (((Leaves.refl _ t).wr (Part.bit F.FLT_STAT_FENCED_part (by decide))).wr
      (Part.bit (F.FLT_FENCE_LAST_SOURCE_part n) (by decide))).wr (Part.bit (F.FLT_FENCE_COUNT_part n) (by decide))
  exact .ite (State.startFailed_leaves (hrecord _ _ _) (by decide) n) (hrecord _ _ _)

/-- What a fault does to its region: nothing, the end of its load, a fence, or a mark for the end of its cycle (R392). -/
theorem State.fence_cases (cause source : Nat) :
    s.fence n cause source = s ∨ s.fence n cause source = s.halted n 0 6 ∨
      s.fence n cause source = s.enterFenced n cause source ∨ ∃ g, s.fence n cause source = s.setGaf n g := by
  unfold State.fence
  dsimp only
  split
  · exact .inl rfl
  · split
    · exact .inr (.inl rfl)
    · split
      · exact .inr (.inr (.inl rfl))
      · exact .inr (.inr (.inr ⟨_, rfl⟩))

/-- A fault that comes within a cycle is marked for its end. -/
theorem State.fence_inCycle {s : State} {n : Nat} (h : 2 ≤ s.run n ∧ s.run n ≤ 4) (hp : (s.gaf n).phase ≠ .none)
    (hf : (s.gaf n).fence = none) (cause source : Nat) :
    ((s.fence n cause source).gaf n).fence = some (cause, source) := by
  have h5 : s.run n ≠ 5 := by omega
  have h1 : s.run n ≠ 1 := by omega
  simp [State.fence, h5, h1, hp, hf]

section
variable {o : Nat} (hp : regPart o = .gafRegs) (hs : o % 0x10000 ≠ 4) (hd : o % 0x10000 ≠ 0x38)
include hp hs hd

theorem State.halted_gafReg (code cause : Nat) : (s.halted n code cause).reg o = s.reg o := by
  rw [State.halted_eq, (State.haltRest_leaf _ n).reg (by rw [hp]; decide)]
  exact s.haltGaf_reg n code cause hs hd

/-- A fault writes the status and the count of discarded triggers alone of its gaffer's registers. -/
theorem State.fault2_gafReg (src detail cause : Nat) : (s.fault2 n src detail cause).reg o = s.reg o := by
  have hreport : (s.report src detail (some n)).reg o = s.reg o :=
    (State.report_leaves (.refl 0x10021990080000002018 s) rfl _ _ _).reg (by rw [hp]; decide)
  unfold State.fault2
  dsimp only
  split
  · exact hreport
  · rw [← hreport]
    generalize s.report src detail (some n) = t
    rcases t.fence_cases n cause src with h | h | h | ⟨g, h⟩ <;> rw [h]
    · exact t.halted_gafReg n hp hs hd 0 6
    · rw [(t.enterFenced_rest n cause src).reg (by rw [hp]; decide), State.halted_gafReg _ n hp hs hd]
      rfl
    · rfl

end

end

/-! ### Program errors (R102, R106) -/

/-- A gaffer that issues is between ARMED and STALLED with no fence pending, and no F1 fault is contained (R104). -/
theorem State.issues_running {s : State} {n : Nat} (h : s.issues n = true) :
    (2 ≤ s.run n ∧ s.run n ≤ 4) ∧ (s.gaf n).fence = none ∧ s.flt.f1 = false := by
  simp only [State.issues, Bool.and_eq_true, decide_eq_true_eq, Option.isNone_iff_eq_none, Bool.not_eq_true'] at h
  obtain ⟨⟨⟨⟨⟨⟨hlo, hhi⟩, hfence⟩, -⟩, -⟩, hf1⟩, -⟩ := h
  exact ⟨⟨hlo, hhi⟩, hfence, hf1⟩

/-- The record of a program error of gaffer `n` (R106). -/
def State.errRecorded (s : State) (n cause pc : Nat) : State :=
  s.setReg (0x100028 + 0x10000 * (n % 16)) (BitVec.ofNat 32 (2 ^ 31 + 2 ^ 28 * cause + pc))

section
variable {s : State} {n : Nat} (hv : s.on (F.GAF_PROG_ERR_VALID n) = false) (cause pc : Nat)
include hv

/-- The first program error is recorded, and is a fault of its region. -/
theorem State.progErr_first :
    s.progErr n cause pc = (s.errRecorded n cause pc).fault2 n 19 (n + 2 ^ 4 * cause + 2 ^ 7 * pc) 5 := by
  simp only [State.progErr, hv, Bool.false_eq_true, if_false, State.errRecorded]

/-- A program error writes no other register of its gaffer than its record, its status and the count of discarded triggers. -/
theorem State.progErr_gafReg {o : Nat} (hp : regPart o = .gafRegs) (hs : o % 0x10000 ≠ 4) (hd : o % 0x10000 ≠ 0x38)
    (he : o % 0x10000 ≠ 0x28) : (s.progErr n cause pc).reg o = s.reg o := by
  rw [State.progErr_first hv, State.fault2_gafReg _ n hp hs hd]
  exact s.reg_setReg_ne _ (by omega)

/-- The record shows the cause and the word of the error. -/
theorem State.progErr_shows {cause pc : Nat} (hc : cause < 8) (hpc : pc < 512) :
    (s.progErr n cause pc).on (F.GAF_PROG_ERR_VALID n) = true ∧ (s.progErr n cause pc).rd (F.GAF_PROG_ERR_CAUSE n) = cause ∧
      (s.progErr n cause pc).rd (F.GAF_PROG_ERR_PC n) = pc := by
  have hword : (s.progErr n cause pc).reg (0x100028 + 0x10000 * (n % 16)) = BitVec.ofNat 32 (2 ^ 31 + 2 ^ 28 * cause + pc) := by
    rw [State.progErr_first hv, State.fault2_gafReg _ n (regPart_gafRegs (by omega) (by omega) (by omega)) (by omega) (by omega)]
    exact s.reg_setReg _ _
  simp only [State.on, State.rd, Fld.of, slice, F.GAF_PROG_ERR_VALID, F.GAF_PROG_ERR_CAUSE, F.GAF_PROG_ERR_PC, hword,
    BitVec.toNat_ofNat, bne_iff_ne]
  omega

/-- An error at a gaffer that issues fences its region: at once between cycles, otherwise at the end of the cycle (R105). -/
theorem State.progErr_fences (hn : n < 16) (hi : s.issues n = true) (hsafe : s.safe = false) :
    ((s.gaf n).phase = .none → (s.progErr n cause pc).run n = 5) ∧
      ((s.gaf n).phase ≠ .none → ((s.progErr n cause pc).gaf n).fence = some (5, 19)) := by
  obtain ⟨hrun, hfence, hf1⟩ := State.issues_running hi
  have hne (f : Fld) (hf : f.off ≠ 0x100028 + 0x10000 * (n % 16)) : (s.errRecorded n cause pc).rd f = s.rd f :=
    s.rd_setReg_ne _ f hf
  have hrun' : (s.errRecorded n cause pc).run n = s.run n := hne _ (by simp only [F.GAF_STATUS_STATE]; omega)
  have hsafe' : (s.errRecorded n cause pc).safe = false := by
    rw [State.safe, hne _ (by simp only [F.SYS_START_STAT_PHASE]; omega)]
    exact hsafe
  rw [State.progErr_first hv]
  refine ⟨fun hp => State.fault2_fences hn (s := s.errRecorded n cause pc) hf1 hsafe' (by rwa [hrun']) hp hfence _ _ _, fun hp => ?_⟩
  have hkept := (s.errRecorded n cause pc).report_kept n 19 (n + 2 ^ 4 * cause + 2 ^ 7 * pc) (some n)
  rw [State.fault2_open (s := s.errRecorded n cause pc) hf1 hsafe']
  exact State.fence_inCycle (by rwa [hkept.run hn, hrun']) (by rwa [hkept.gaf]) (by rwa [hkept.gaf]) _ _

end

/-- An instruction that is a program error at its word shows it. -/
theorem Runs.errs {c : Instr} {s t : State} {n cause : Nat} (hexec : exec c s = .next (s.endClock (t.progErr n cause (t.pcOf n))))
    (hv : t.on (F.GAF_PROG_ERR_VALID n) = false) (hc : cause < 8) (hpc : t.pcOf n = s.pcOf n) : Runs c s fun u =>
      u.on (F.GAF_PROG_ERR_VALID n) = true ∧ u.rd (F.GAF_PROG_ERR_CAUSE n) = cause ∧ u.rd (F.GAF_PROG_ERR_PC n) = s.pcOf n := by
  obtain ⟨hvalid, hcause, hpc'⟩ := State.progErr_shows hv hc (t.pcOf_lt n)
  exact Runs.of_clocked hexec fun u hu => ⟨(hu.on _).trans hvalid, (hu.rd _).trans hcause, (hu.rd _).trans (hpc'.trans hpc)⟩

/-- A program error of a gaffer that issues shows its cause and its word, and fences the region. -/
theorem Runs.progErr {c : Instr} {s t : State} {n : Fin 16} {cause pc : Nat}
    (hexec : exec c s = .next (s.endClock (t.progErr n cause pc))) (hv : t.on (F.GAF_PROG_ERR_VALID n) = false)
    (hc : cause < 8) (hpc : pc < 512) (hi : t.issues n = true) (hsafe : t.safe = false) : Runs c s fun u =>
      u.rd (F.GAF_PROG_ERR_CAUSE n) = cause ∧ u.rd (F.GAF_PROG_ERR_PC n) = pc ∧
      ((t.gaf n).phase = .none → u.run n = 5) ∧ ((t.gaf n).phase ≠ .none → (u.gaf n).fence = some (5, 19)) := by
  obtain ⟨-, hcause, hword⟩ := State.progErr_shows hv hc hpc
  obtain ⟨hfenced, hmarked⟩ := State.progErr_fences hv cause pc n.isLt hi hsafe
  refine Runs.of_clocked hexec fun u hu => ⟨(hu.rd _).trans hcause, (hu.rd _).trans hword, fun hp => ?_, fun hp => ?_⟩
  · rw [hu.run, hfenced hp]
  · rw [hu.gaf, hmarked hp]

/-! ### LOOP and ENDLOOP (R117) -/

section
variable (s : State) (n : Nat) (l : List (Nat × Nat))

theorem State.setLoops_gaf : (s.setLoops n l).gaf n = { s.gaf n with loops := l } := by
  rw [State.setLoops, State.gaf_wr, State.gaf_setGaf]

theorem State.setLoops_pc : (s.setLoops n l).pcOf n = s.pcOf n := State.rd_wr_clear _ _ rfl

theorem State.setLoops_depth : (s.setLoops n l).rd (F.GAF_STATUS_LOOP_DEPTH n) = l.length % 8 := State.rd_wr_mod _ _ rfl

end

section
variable {s : State} {n : Fin 16} {w : Nat} (hl : s.live = true)
include hl

theorem loop_opens (hr : s.reaches n 5 w) (hc : slice w 15 0 ≠ 0) (hd : (s.gaf n).loops.length < 4) : Runs (.loop n) s fun u =>
    (u.gaf n).loops = (slice w 15 0, s.pcOf n + 1) :: (s.gaf n).loops ∧
    u.rd (F.GAF_STATUS_LOOP_DEPTH n) = (s.gaf n).loops.length + 1 ∧ Advanced s u n := by
  have hexec : exec (.loop n) s = .next (s.endClock
      ((s.setLoops n ((slice w 15 0, s.pcOf n + 1) :: (s.gaf n).loops)).advance n)) := by
    simp only [exec, execLoop, act_live hl, State.instr_reaches hr, hc, if_false, ge_iff_le, Nat.not_le.2 hd]
  refine Runs.goesOn hexec fun u hu => ⟨?_, ?_, hu.advances (s.setLoops_pc n _)⟩
  · rw [hu.gaf, State.setLoops_gaf]
  · rw [hu.rd _ rfl, State.setLoops_depth, List.length_cons]
    omega

theorem loop_skips (hr : s.reaches n 5 w) (hc : slice w 15 0 = 0) : Runs (.loop n) s fun u =>
    (if slice w 24 16 = 511 then (u.gaf n).past = true else u.pcOf n = slice w 24 16 + 1) ∧
    (u.gaf n).loops = (s.gaf n).loops := by
  have hexec : exec (.loop n) s = .next (s.endClock (s.goto n (slice w 24 16 + 1))) := by
    simp only [exec, execLoop, act_live hl, State.instr_reaches hr, hc, if_true]
  have hlt : slice w 24 16 < 512 := slice_lt w 24 16
  refine Runs.of_clocked hexec fun u hu => ?_
  have hpc : u.pcOf n = (s.goto n (slice w 24 16 + 1)).pcOf n := hu.rd _
  rw [hu.gaf, hpc]
  by_cases hlast : slice w 24 16 = 511
  · rw [if_pos hlast, s.goto_past (by omega), State.gaf_setGaf]
    exact ⟨rfl, rfl⟩
  · rw [if_neg hlast, s.goto_inside (by omega), s.wr_pc (by omega)]
    exact ⟨rfl, rfl⟩

theorem loop_tooDeep (hr : s.reaches n 5 w) (hc : slice w 15 0 ≠ 0) (hd : 4 ≤ (s.gaf n).loops.length)
    (hv : s.on (F.GAF_PROG_ERR_VALID n) = false) : Runs (.loop n) s fun u =>
    u.on (F.GAF_PROG_ERR_VALID n) = true ∧ u.rd (F.GAF_PROG_ERR_CAUSE n) = 3 ∧ u.rd (F.GAF_PROG_ERR_PC n) = s.pcOf n := by
  refine Runs.errs (t := s) ?_ hv (by decide) rfl
  simp only [exec, execLoop, act_live hl, State.instr_reaches hr, hc, if_false, ge_iff_le, hd, if_true]

theorem endloop_repeats (hr : s.reaches n 6 w) {c a : Nat} {ls : List (Nat × Nat)} (hloops : (s.gaf n).loops = (c, a) :: ls)
    (hc : 1 < c) (ha : a < 512) : Runs (.endloop n) s fun u => (u.gaf n).loops = (c - 1, a) :: ls ∧ u.pcOf n = a := by
  have hexec : exec (.endloop n) s = .next (s.endClock
      ((s.setLoops n ((c - 1, a) :: ls)).wr (F.GAF_STATUS_PC n) a)) := by
    simp only [exec, execEndloop, act_live hl, State.instr_reaches hr, hloops, gt_iff_lt, hc, if_true, State.goto_inside _ ha]
  refine Runs.of_clocked hexec fun u hu => ⟨?_, (hu.rd _).trans (State.wr_pc _ ha)⟩
  rw [hu.gaf, State.gaf_wr, State.setLoops_gaf]

theorem endloop_closes (hr : s.reaches n 6 w) {c a : Nat} {ls : List (Nat × Nat)} (hloops : (s.gaf n).loops = (c, a) :: ls)
    (hc : c ≤ 1) : Runs (.endloop n) s fun u => (u.gaf n).loops = ls ∧ Advanced s u n := by
  have hexec : exec (.endloop n) s = .next (s.endClock ((s.setLoops n ls).advance n)) := by
    simp only [exec, execEndloop, act_live hl, State.instr_reaches hr, hloops, gt_iff_lt, Nat.not_lt.2 hc, if_false]
  refine Runs.goesOn hexec fun u hu => ⟨?_, hu.advances (s.setLoops_pc n _)⟩
  rw [hu.gaf, State.setLoops_gaf]

theorem endloop_unmatched (hr : s.reaches n 6 w) (hloops : (s.gaf n).loops = [])
    (hv : s.on (F.GAF_PROG_ERR_VALID n) = false) : Runs (.endloop n) s fun u =>
    u.on (F.GAF_PROG_ERR_VALID n) = true ∧ u.rd (F.GAF_PROG_ERR_CAUSE n) = 4 ∧ u.rd (F.GAF_PROG_ERR_PC n) = s.pcOf n := by
  refine Runs.errs (t := s) ?_ hv (by decide) rfl
  simp only [exec, execEndloop, act_live hl, State.instr_reaches hr, hloops]

end

/-! ### HALT (R105, R107) -/

section
variable (s : State) (n : Nat)

/-- A counter snapshot counts several occurrences and stops at its largest value (R438). -/
theorem State.rd_bumpBy (f : Fld) (h : f.hi = 31 ∧ f.lo = 0) : (s.bumpBy f n).rd f = min 0xffffffff (s.rd f + n) := by
  obtain ⟨hhi, hlo⟩ := h
  have hw : (s.bumpBy f n).rd f = min 0xffffffff (s.rd f + n) % 2 ^ (f.hi - f.lo + 1) :=
    s.rd_wr f _ ⟨by omega, by omega⟩
  rw [hw, hhi, hlo]
  exact Nat.mod_eq_of_lt (by omega)

/-- Each trigger that is discarded is counted. -/
theorem State.discardQueue_counts : (s.discardQueue n).rd (F.GAF_TRIG_DISC_CNT_COUNT n) =
    min 0xffffffff (s.rd (F.GAF_TRIG_DISC_CNT_COUNT n) + (s.gaf n).queue.length) := by
  rw [← s.rd_bumpBy (s.gaf n).queue.length (F.GAF_TRIG_DISC_CNT_COUNT n) ⟨rfl, rfl⟩]
  exact congrArg (F.GAF_TRIG_DISC_CNT_COUNT n).of (State.reg_wr_ne _ _ (gafStatus_ne_discCnt n).symm)

theorem State.haltGaf_discards (code cause : Nat) : (s.haltGaf n code cause).rd (F.GAF_TRIG_DISC_CNT_COUNT n) =
    min 0xffffffff (s.rd (F.GAF_TRIG_DISC_CNT_COUNT n) + (s.gaf n).queue.length) := by
  have hstatus := (gafStatus_ne_discCnt n).symm
  unfold State.haltGaf
  generalize ht : ((s.setGaf n _).wr (F.GAF_STATUS_STATE n) code).wr (F.GAF_STATUS_CAUSE n) cause = t
  have hqueue : (t.gaf n).queue = (s.gaf n).queue := by rw [← ht, State.gaf_wr, State.gaf_wr, State.gaf_setGaf]
  have hcount : t.rd (F.GAF_TRIG_DISC_CNT_COUNT n) = s.rd (F.GAF_TRIG_DISC_CNT_COUNT n) := by
    refine congrArg (F.GAF_TRIG_DISC_CNT_COUNT n).of ?_
    rw [← ht, State.reg_wr_ne _ _ hstatus, State.reg_wr_ne _ _ hstatus, State.reg_setGaf]
  rw [t.discardQueue_counts, hcount, hqueue]

theorem State.halted_discards (code cause : Nat) : (s.halted n code cause).rd (F.GAF_TRIG_DISC_CNT_COUNT n) =
    min 0xffffffff (s.rd (F.GAF_TRIG_DISC_CNT_COUNT n) + (s.gaf n).queue.length) := by
  rw [State.halted_eq, (State.haltRest_leaf _ n).rd (F.GAF_TRIG_DISC_CNT_COUNT_part n) (by decide) (by decide)]
  exact s.haltGaf_discards n code cause

/-- A halt raises GAF_STATE. -/
theorem State.halted_pends (code cause : Nat) : Pends (s.halted n code cause) (Ev.GAF n 7) := by
  rw [State.halted_eq]
  generalize s.haltGaf n code cause = t
  have hstale (k : Nat) (u : State) : Rises u (u.staleTile k) :=
    (State.staleTile_leaves (.refl 0x8000004000 u) rfl k).rises (by decide)
  exact (Rises.trans (.forEach hstale _ _) (State.evalRegion_rises _ n)) _ (t.rd_raise_self _)

end

section
variable {s : State} {n : Fin 16} {w : Nat} (hl : s.live = true) (hr : s.reaches n 14 w)
include hl hr

theorem halt_stops (hp : (s.gaf n).phase = .none) (hn : (s.gaf n).next = none) : Runs (.halt n) s fun u =>
    u.rd (F.GAF_STATUS_STATE n) = 0 ∧ u.rd (F.GAF_STATUS_CAUSE n) = 1 ∧ (u.gaf n).queue = [] ∧
    u.rd (F.GAF_TRIG_DISC_CNT_COUNT n) = min 0xffffffff (s.rd (F.GAF_TRIG_DISC_CNT_COUNT n) + (s.gaf n).queue.length) ∧
    Pends u (Ev.GAF n 7) := by
  have hexec : exec (.halt n) s = .next (s.endClock (s.halted n 0 1)) := by
    simp only [exec, execHalt, act_live hl, State.instr_reaches hr, hp, hn, decide_true, Option.isNone_none, Bool.and_self, if_true]
  obtain ⟨hrun, hcause, hgaf⟩ := s.halted_shows n 0 1
  refine Runs.of_clocked hexec fun u hu =>
    ⟨(hu.rd _).trans hrun, (hu.rd _).trans hcause, ?_, (hu.rd _).trans (s.halted_discards n 0 1), hu.pends (s.halted_pends n 0 1)⟩
  rw [hu.gaf, hgaf]

theorem halt_holds (h : (s.gaf n).phase ≠ .none ∨ (s.gaf n).next ≠ none) : Runs (.halt n) s fun u => u = s := by
  have hissued : (decide ((s.gaf n).phase = .none) && (s.gaf n).next.isNone) = false := by
    rw [Bool.and_eq_false_iff, decide_eq_false_iff_not, ← Bool.not_eq_true, Option.isNone_iff_eq_none]
    exact h
  refine ⟨s, ?_, rfl⟩
  simp only [exec, execHalt, act_live hl, State.instr_reaches hr, hissued, Bool.false_eq_true, if_false, State.endClock_self]

end

/-! ### PROGRAM_ERROR (R106) -/

section
variable {s : State} {n : Fin 16} (hl : s.live = true) (hi : s.issues n = true) (hpast : (s.gaf n).past = false)
  (hv : s.on (F.GAF_PROG_ERR_VALID n) = false) (hsafe : s.safe = false)

/-- The state in which the word at the PC of gaffer `n` is the one that it read. -/
def State.wordPut (s : State) (n : Fin 16) (v : BitVec 32) : State :=
  s.setReg (0x100800 + 0x10000 * (n % 16) + 4 * (s.pcOf n % 512)) v

theorem State.wordPut_reg (s : State) (n : Fin 16) (v : BitVec 32) :
    (s.wordPut n v).reg (0x100800 + 0x10000 * n.val + 4 * s.pcOf n) = v := by
  have hoff : 0x100800 + 0x10000 * (n.val % 16) + 4 * (s.pcOf n % 512) = 0x100800 + 0x10000 * n.val + 4 * s.pcOf n := by
    rw [Nat.mod_eq_of_lt n.isLt, Nat.mod_eq_of_lt (s.pcOf_lt n)]
  rw [State.wordPut, hoff, State.reg_setReg]

theorem State.wordPut_rd (s : State) (n : Fin 16) (v : BitVec 32) {f : Fld} (hf : f.off % 0x10000 < 0x800) :
    (s.wordPut n v).rd f = s.rd f := s.rd_setReg_ne _ f (by omega)

include hi in
theorem State.wordPut_issues (v : BitVec 32) : (s.wordPut n v).issues n = true := by
  have hrun : (s.wordPut n v).run n = s.run n := s.wordPut_rd n v (by simp only [F.GAF_STATUS_STATE]; omega)
  rw [← hi, State.issues, hrun]
  rfl

section
include hl hi hv hsafe

theorem programError_past (hpast : (s.gaf n).past = true) (w : Option (BitVec 32)) : Runs (.programError n w) s fun u =>
    u.rd (F.GAF_PROG_ERR_CAUSE n) = 6 ∧ u.rd (F.GAF_PROG_ERR_PC n) = 511 ∧
    ((s.gaf n).phase = .none → u.run n = 5) ∧ ((s.gaf n).phase ≠ .none → (u.gaf n).fence = some (5, 19)) := by
  have hexec : exec (.programError n w) s = .next (s.endClock (s.progErr n 6 511)) := by
    simp only [exec, execProgramError, act_live hl, hi, hpast, Bool.not_true, Bool.false_eq_true, if_false, if_true]
  exact Runs.progErr hexec hv (by decide) (by decide) hi hsafe

end

include hl hi hpast hv hsafe

theorem programError_parity : Runs (.programError n none) s fun u =>
    u.rd (F.GAF_PROG_ERR_CAUSE n) = 2 ∧ u.rd (F.GAF_PROG_ERR_PC n) = s.pcOf n ∧
    ((s.gaf n).phase = .none → u.run n = 5) ∧ ((s.gaf n).phase ≠ .none → (u.gaf n).fence = some (5, 19)) := by
  have hexec : exec (.programError n none) s = .next (s.endClock (s.progErr n 2 (s.pcOf n))) := by
    simp only [exec, execProgramError, act_live hl, hi, hpast, Bool.not_true, Bool.false_eq_true, if_false]
  exact Runs.progErr hexec hv (by decide) (s.pcOf_lt n) hi hsafe

theorem programError_invalid {v : BitVec 32} (hw : s.wordValid n (s.pcOf n) v.toNat = false) : Runs (.programError n (some v)) s
    fun u => u.reg (0x100800 + 0x10000 * n.val + 4 * s.pcOf n) = v ∧
      u.rd (F.GAF_PROG_ERR_CAUSE n) = 1 ∧ u.rd (F.GAF_PROG_ERR_PC n) = s.pcOf n ∧
      ((s.gaf n).phase = .none → u.run n = 5) ∧ ((s.gaf n).phase ≠ .none → (u.gaf n).fence = some (5, 19)) := by
  have hexec : exec (.programError n (some v)) s = .next (s.endClock ((s.wordPut n v).progErr n 1 (s.pcOf n))) := by
    simp only [exec, execProgramError, act_live hl, hi, hpast, hw, Bool.not_true, Bool.false_eq_true, if_false, State.wordPut]
  have hv' : (s.wordPut n v).on (F.GAF_PROG_ERR_VALID n) = false := by
    rw [State.on, s.wordPut_rd n v (by simp only [F.GAF_PROG_ERR_VALID]; omega)]
    exact hv
  have hsafe' : (s.wordPut n v).safe = false := by
    rw [State.safe, s.wordPut_rd n v (by decide)]
    exact hsafe
  have hpc := s.pcOf_lt n
  refine Runs.and (Runs.of_clocked hexec fun u hu => ?_)
    (Runs.progErr (t := s.wordPut n v) hexec hv' (by decide) hpc (State.wordPut_issues hi v) hsafe')
  rw [hu.reg, State.progErr_gafReg hv' 1 _ (regPart_gafRegs (by omega) (by omega) (by omega)) (by omega) (by omega) (by omega),
    s.wordPut_reg]

end

/-! ### RUN (R99, R100, R101, R102, R116) -/

section
variable (s : State) (n : Nat)

/-- An armed switch stays, waits for its window, or selects it (R116). -/
theorem State.applySwitch_cases : s.applySwitch n = s ∨ s.applySwitch n = s.wr (F.GAF_STATUS_SWITCH_WAIT n) 1 ∨
    ∃ win, s.applySwitch n = ((s.wr (F.GAF_STATUS_SEL n) win).wr (F.GAF_SWITCH_ARM n) 0).raise (Ev.GAF n 6) := by
  unfold State.applySwitch
  extract_lets at_ win ready
  split
  · split
    · exact .inr (.inr ⟨win, rfl⟩)
    · exact .inr (.inl rfl)
  · exact .inl rfl

/-- A switch changes no more of its gaffer than the registers of its status and of the switch. -/
theorem State.applySwitch_gaf : (s.applySwitch n).gaf n = s.gaf n := by
  rcases s.applySwitch_cases n with h | h | ⟨win, h⟩ <;> rw [h]
  · rw [State.gaf_wr]
  · rw [State.raise_gaf, State.gaf_wr, State.gaf_wr]

theorem State.applySwitch_pc : (s.applySwitch n).pcOf n = s.pcOf n := by
  have hoff : (F.GAF_STATUS_PC n).off ≠ (F.GAF_SWITCH_ARM n).off := by
    simp only [F.GAF_STATUS_PC, F.GAF_SWITCH_ARM]
    omega
  rcases s.applySwitch_cases n with h | h | ⟨win, h⟩ <;> rw [h]
  · exact State.rd_wr_clear _ _ rfl
  · rw [State.raise_pc]
    exact (State.rd_setReg_ne _ _ _ hoff).trans (State.rd_wr_clear _ _ rfl)

theorem State.applySwitch_progErr : (s.applySwitch n).on (F.GAF_PROG_ERR_VALID n) = s.on (F.GAF_PROG_ERR_VALID n) := by
  have hstatus : (F.GAF_PROG_ERR_VALID n).off ≠ 0x100004 + 0x10000 * (n % 16) := by
    simp only [F.GAF_PROG_ERR_VALID]
    omega
  have hswitch : (F.GAF_PROG_ERR_VALID n).off ≠ (F.GAF_SWITCH_ARM n).off := by
    simp only [F.GAF_PROG_ERR_VALID, F.GAF_SWITCH_ARM]
    omega
  have hpart : regPart (0x100028 + 0x10000 * (n % 16)) = .gafRegs := regPart_gafRegs (by omega) (by omega) (by omega)
  refine congrArg (· != 0) ?_
  rcases s.applySwitch_cases n with h | h | ⟨win, h⟩ <;> rw [h]
  · exact State.rd_setReg_ne _ _ _ hstatus
  · rw [State.rd_raise _ _ hpart rfl]
    exact (State.rd_setReg_ne _ _ _ hswitch).trans (State.rd_setReg_ne _ _ _ hstatus)

/-- A cycle that begins moves its gaffer to no other word. -/
theorem State.startCycle_stays (c : Cycle) (o : SpecialOps) :
    ((s.startCycle n c o).gaf n).past = (s.gaf n).past ∧ (s.startCycle n c o).pcOf n = s.pcOf n := by
  unfold State.startCycle
  dsimp only
  generalize ht : ((s.setGaf n _).wr (F.GAF_STATUS_WIN n) (b2n c.win)).wr (F.GAF_STATUS_STATE n) 3 = t
  have hpast : (t.gaf n).past = (s.gaf n).past := by rw [← ht, State.gaf_wr, State.gaf_wr, State.gaf_setGaf]
  have hpc : t.pcOf n = s.pcOf n := by
    rw [← ht, State.pcOf, State.rd_wr_clear _ _ rfl, State.rd_wr_clear _ _ rfl]
    exact s.setGaf_pc n _
  generalize hw : t.wr64 (0x100020 + 0x10000 * (n % 16)) (t.cycles n + 1) = w
  have hfresh := w.freshTiles_leaf (w.regionTiles n)
  rw [hfresh.gaf (by decide), State.pcOf, hfresh.rd (F.GAF_STATUS_PC_part n) (by decide) (by decide), ← hw, State.gaf_wr64]
  exact ⟨hpast, (congrArg (F.GAF_STATUS_PC n).of (t.reg_wr64_ne _ (by simp only [F.GAF_STATUS_PC]; omega)
    (by simp only [F.GAF_STATUS_PC]; omega))).trans hpc⟩

theorem State.dispatch_stays (c : Cycle) :
    ((s.dispatch n c).gaf n).past = (s.gaf n).past ∧ (s.dispatch n c).pcOf n = s.pcOf n := by
  have hload := State.loadLatches_leaves (.refl 0x2001004000 s) rfl n
  obtain ⟨hpast, hpc⟩ := ((s.loadLatches n).setGaf n { (s.loadLatches n).gaf n with overrunSeen := false }).startCycle_stays n c
    ((s.loadLatches n).opsFor n c)
  rw [State.gaf_setGaf] at hpast
  have hkept : ((s.loadLatches n).gaf n).past = (s.gaf n).past := congrArg Gaffer.past (hload.gaf (by decide) n)
  exact ⟨hpast.trans hkept, hpc.trans ((State.setGaf_pc _ n _).trans (hload.rd (F.GAF_STATUS_PC_part n) (by decide) (by decide)))⟩

theorem State.issueCycle_stays (win : Bool) :
    ((s.issueCycle n win).gaf n).past = (s.gaf n).past ∧ (s.issueCycle n win).pcOf n = s.pcOf n := by
  unfold State.issueCycle
  dsimp only
  split
  · obtain ⟨hpast, hpc⟩ := (s.setGaf n { s.gaf n with xchgNext := false }).dispatch_stays n ⟨win, (s.gaf n).xchgNext, []⟩
    rw [State.gaf_setGaf] at hpast
    exact ⟨hpast, hpc⟩
  · rw [State.gaf_setGaf, State.gaf_setGaf, State.setGaf_pc, State.setGaf_pc]
    exact ⟨rfl, rfl⟩

/-- A cycle issued to a gaffer that has none begins (R101). -/
theorem State.issueCycle_begins (s : State) (n : Fin 16) (win : Bool) (hp : (s.gaf n).phase = .none) :
    ((s.issueCycle n win).gaf n).phase = .window ∧ ((s.issueCycle n win).gaf n).cur = ⟨win, (s.gaf n).xchgNext, []⟩ ∧
      (s.issueCycle n win).run n = 3 := by
  rw [State.issueCycle, if_pos hp]
  obtain ⟨hphase, hcur, -, hrun, -⟩ :=
    (s.setGaf n { s.gaf n with xchgNext := false }).dispatch_shows n ⟨win, (s.gaf n).xchgNext, []⟩
  exact ⟨hphase, hcur, hrun⟩

/-- A cycle issued within another waits for its end (R101). -/
theorem State.issueCycle_waits (win : Bool) (hp : (s.gaf n).phase ≠ .none) :
    ((s.issueCycle n win).gaf n).phase = (s.gaf n).phase ∧
      ((s.issueCycle n win).gaf n).next = some ⟨win, (s.gaf n).xchgNext, []⟩ := by
  simp only [State.issueCycle, hp, if_false, State.gaf_setGaf, and_self]

/-- The state in which a RUN with the window field `v` finds its window: by 2, the armed switch has applied (R116). -/
theorem State.runFrom_kept {x : State} {v : Nat} (hx : (if v = 2 then s.applySwitch n else s) = x) :
    x.gaf n = s.gaf n ∧ x.pcOf n = s.pcOf n ∧ x.on (F.GAF_PROG_ERR_VALID n) = s.on (F.GAF_PROG_ERR_VALID n) := by
  rw [← hx]
  split
  · exact ⟨s.applySwitch_gaf n, s.applySwitch_pc n, s.applySwitch_progErr n⟩
  · exact ⟨rfl, rfl, rfl⟩

end

section
variable {s : State} {n : Fin 16} {w : Nat} (hl : s.live = true) (hr : s.reaches n 3 w)
include hl hr

/-- A RUN that a switch window holds is counted once (R355). -/
theorem run_held (hw : s.windowOpen = true) {c : PerfChange} (hperf : s.pwr.perf = some c)
    (hc : c.held.contains (2 * n.val + 1) = false) : Runs (.run n) s fun u =>
    u.pcOf n = s.pcOf n ∧ u.gafs = s.gafs ∧ Counted s u F.PWR_PERF_HOLD_CNT_COUNT := by
  have hexec : exec (.run n) s = .next (s.endClock (s.holdRun (2 * n.val + 1))) := by
    simp only [exec, execRun, act_live hl, State.instr_reaches hr, hw, if_true]
  have hkept := State.holdRun_leaves (.refl 0x40000000000000002 s) rfl (2 * n.val + 1)
  refine Runs.of_clocked hexec fun u hu => ⟨?_, hu.gafs.trans (hkept.same .gafs (by decide)), hu.counted ?_⟩
  · exact (hu.rd _).trans (hkept.rd (F.GAF_STATUS_PC_part n) (by decide) (by decide))
  · simp only [State.holdRun, hperf, hc, Bool.false_eq_true, if_false]
    exact State.rd_bump _ _ ⟨rfl, rfl⟩

variable (hw : s.windowOpen = false) (hh : s.runHolds n = false) (hsel : s.dual n = true ∨ slice w 25 24 = 0)
  {x : State} {win : Bool} (hx : (if slice w 25 24 = 2 then s.applySwitch n else s) = x)
  (hwin : (if slice w 25 24 = 2 then x.on (F.GAF_STATUS_SEL n) else slice w 25 24 == 1) = win)
include hw hh hsel hx hwin

/-- A RUN that nothing holds issues its cycle where its window is READY and its length fits, or is a program error (R102). -/
theorem exec_run : exec (.run n) s = .next (s.endClock
    (if runValid (x.dual n) w (x.lenCode n win) && (if win then x.on (F.GAF_STATUS_READY_B n) else x.on (F.GAF_STATUS_READY_A n))
      then (x.advance n).issueCycle n win else x.progErr n 5 (x.pcOf n))) := by
  have hsel' : (!s.dual n && slice w 25 24 != 0) = false := by
    rcases hsel with h | h <;> simp [h]
  simp only [exec, execRun, act_live hl, State.instr_reaches hr, hw, hh, hsel', Bool.false_eq_true, if_false, hx, hwin]

theorem run_issues (hready : (if win then x.on (F.GAF_STATUS_READY_B n) else x.on (F.GAF_STATUS_READY_A n)) = true)
    (hvalid : runValid (x.dual n) w (x.lenCode n win) = true) : Runs (.run n) s fun u =>
    Advanced s u n ∧
    ((s.gaf n).phase = .none → (u.gaf n).phase = .window ∧ (u.gaf n).cur = ⟨win, (s.gaf n).xchgNext, []⟩ ∧ u.run n = 3) ∧
    ((s.gaf n).phase ≠ .none → (u.gaf n).phase = (s.gaf n).phase ∧ (u.gaf n).next = some ⟨win, (s.gaf n).xchgNext, []⟩) := by
  have hexec := exec_run hl hr hw hh hsel hx hwin
  rw [hready, hvalid, Bool.and_self, if_pos rfl] at hexec
  obtain ⟨hgaf, hpc, -⟩ := s.runFrom_kept n hx
  have hon := x.goneOn_advance n
  have hphase : ((x.advance n).gaf n).phase = (s.gaf n).phase := by rw [hon.gaf, hgaf]
  have hxchg : ((x.advance n).gaf n).xchgNext = (s.gaf n).xchgNext := by rw [hon.gaf, hgaf]
  obtain ⟨hpast, hword⟩ := (x.advance n).issueCycle_stays n win
  refine Runs.of_clocked hexec fun u hu => ⟨?_, fun hp => ?_, fun hp => ?_⟩
  · exact (hon.advances hpc).congr ((hu.rd _).trans hword) ((congrArg Gaffer.past (hu.gaf n)).trans hpast)
  · rw [hu.gaf, hu.run, ← hxchg]
    exact (x.advance n).issueCycle_begins n win (hphase.trans hp)
  · rw [hu.gaf, ← hxchg, ← hphase]
    exact (x.advance n).issueCycle_waits n win (hphase.trans_ne hp)

theorem run_refused (hbad : (if win then x.on (F.GAF_STATUS_READY_B n) else x.on (F.GAF_STATUS_READY_A n)) = false ∨
      runValid (x.dual n) w (x.lenCode n win) = false) (hv : s.on (F.GAF_PROG_ERR_VALID n) = false) : Runs (.run n) s fun u =>
    u.on (F.GAF_PROG_ERR_VALID n) = true ∧ u.rd (F.GAF_PROG_ERR_CAUSE n) = 5 ∧ u.rd (F.GAF_PROG_ERR_PC n) = s.pcOf n := by
  have hexec := exec_run hl hr hw hh hsel hx hwin
  rw [Bool.and_eq_false_iff.2 hbad.symm, if_neg (by decide)] at hexec
  obtain ⟨-, hpc, hrecord⟩ := s.runFrom_kept n hx
  exact Runs.errs hexec (hrecord.trans hv) (by decide) hpc

end

/-! ### The instructions that decide what runs next -/

/-- Settles O27: each clause is the lemma above that says what its instruction does. -/
theorem gafferControl : Obligations.GafferControl := by
  unfold Obligations.GafferControl
  refine ⟨fun s n w hl hr => gafferNop_goesOn hl hr,
    fun s n w x win hl hr hw hh hsel hx hwin hready hvalid => run_issues hl hr hw hh hsel hx hwin hready hvalid,
    fun s n w c hl hr hw hperf hc => run_held hl hr hw hperf hc,
    fun s n w x win hl hr hw hh hsel hx hwin hbad hv => run_refused hl hr hw hh hsel hx hwin hbad hv,
    fun s n w hl hr => selectWindow_selects hl hr,
    fun s n w hl hr hc hd => loop_opens hl hr hc hd,
    fun s n w hl hr hc => loop_skips hl hr hc,
    fun s n w hl hr hc hd hv => ?loopTooDeep,
    fun s n w c a ls hl hr hloops hc ha => endloop_repeats hl hr hloops hc ha,
    fun s n w c a ls hl hr hloops hc => endloop_closes hl hr hloops hc,
    fun s n w hl hr hloops hv => ?endloopUnmatched,
    fun s n w hl hr => jump_goes hl hr,
    fun s n w hl hr hp hn => halt_stops hl hr hp hn,
    fun s n w hl hr h => halt_holds hl hr h,
    fun s n w hl hi hpast hv hsafe => programError_past hl hi hv hsafe hpast w,
    fun s n w hl hi hpast hw hv hsafe => ?programError⟩
  case loopTooDeep =>
    obtain ⟨u, hexec, -, hu⟩ := loop_tooDeep hl hr hc hd hv
    exact ⟨u, hexec, hu⟩
  case endloopUnmatched =>
    obtain ⟨u, hexec, -, hu⟩ := endloop_unmatched hl hr hloops hv
    exact ⟨u, hexec, hu⟩
  case programError =>
    cases w with
    | none =>
      obtain ⟨u, hexec, hcause, hpc, hfence⟩ := programError_parity hl hi hpast hv hsafe
      exact ⟨u, hexec, hcause, hpc, fun _ hnone => (nomatch hnone), hfence⟩
    | some v =>
      obtain ⟨u, hexec, hword, hcause, hpc, hfence⟩ := programError_invalid hl hi hpast hv hsafe hw
      exact ⟨u, hexec, hcause, hpc, fun _ hv => Option.some.inj hv ▸ hword, hfence⟩

end Sys2Proof.Machine

namespace Sys2Proof.Machine

/-! ### A ring that a write of its descriptor turns off (R143) -/

/-- Ring 0 is enabled, and live from a line that its header writer has begun. -/
def ringInUse : State := (State.reset.wr (F.HBM_RING_BASE_HI_EN 0 0) 1).setRing 0 ⟨{ Ring.init.desc with live := true }, []⟩

/-- Refutes O30 in its clause `ringDescriptorWrite`, by which a write of a descriptor only stores wherever EN is 0 after it: a write
that clears EN also takes the ring out of use, and drops its lines in progress, so that it is live again only from a line that its
header writer begins (R143). -/
theorem not_hbmStacks : ¬ Obligations.HbmStacks := by
  unfold Obligations.HbmStacks
  rintro ⟨-, -, -, -, -, -, -, -, ringDescriptorWrite, -⟩
  have hl : ringInUse.live = true := by decide +kernel
  obtain ⟨u, hu, hstored⟩ := ringDescriptorWrite ringInUse .core 0 1 0 _ hl rfl rfl (.inr (by decide +kernel))
  have hoff : (u.ring 0).desc.live = false := by
    rw [exec, execRingDescriptorWrite, writeAt_open hl rfl] at hu
    rw [← answer_next hu]
    decide +kernel
  have hlive : (u.ring 0).desc.live = true := by
    rw [hstored]
    decide +kernel
  exact Bool.noConfusion (hoff.symm.trans hlive)

/-! ### A flit discarded at a router's output, and the numbers of ports (R256) -/

/-- A packet of one flit of class 1 on VC0 that leaves by output E. -/
def flitEast : Flit :=
  { side := 0, payload := 0, head := 0, cls := 1, first := true, last := true, idx := 0, age := 0, ready := 0, todo := [1] }

/-- It stands at port W of router 1. -/
def flitAtRouter1 : State := State.reset.setInQueue 1 3 0 1 [flitEast]

/-- Port 11 of router 0, which no router has, names the queue of port 3 of router 1. -/
theorem State.inQueue_port11 (s : State) : s.inQueue 0 11 0 1 = s.inQueue 1 3 0 1 := rfl

/-- Refutes O20 in its clause `nocPacketParity`, which keeps the queues of every other router at every port number: its ports run
over all numbers, the queues of a router have eight keys of ports, and port 11 of router 0 is port 3 of router 1, whose flit the
parity error discards. -/
theorem not_nocCommands : ¬ Obligations.NocCommands := by
  unfold Obligations.NocCommands
  rintro ⟨-, -, -, -, -, nocPacketParity, -⟩
  have hl : flitAtRouter1.live = true := by decide +kernel
  obtain ⟨u, hu, -, -, -, -, hqueues⟩ := nocPacketParity flitAtRouter1 1 1 0 [] 1 _ (3, 0, flitEast) hl rfl (by decide +kernel)
    (by decide +kernel) (by decide +kernel) (by decide +kernel)
  have hgone : u.inQueue 1 3 0 1 = [] := by
    rw [exec, execNocPacket, act_live hl] at hu
    rw [← answer_next hu]
    decide +kernel
  have hstays : u.inQueue 0 11 0 1 = [flitEast] := (hqueues 0 11 0 1 (by decide)).trans (by decide +kernel)
  simp [State.inQueue_port11, hgone] at hstays

end Sys2Proof.Machine

namespace Sys2Proof.Machine

/-! ### A temperature report that reaches TEMP_HI (R140) -/

theorem toSigned_small {v : Nat} (h : v < 128) : toSigned 8 v = v := by
  have hmod : v % 2 ^ 8 = v := Nat.mod_eq_of_lt (by omega)
  rw [toSigned, hmod]
  exact if_pos h

theorem State.asleep_stack (s : State) (c : Nat) : s.asleep (16 + c) = s.on (F.HBM_STATUS_SELF_REFRESH c) := by
  rw [State.asleep, if_neg (by omega), Nat.add_sub_cancel_left]

/-- What a stack serves is in two bits of its STATUS and its domain. -/
theorem State.stackServes_congr {s t : State} {c : Nat} (ht : t.rd (F.HBM_STATUS_TRAINED c) = s.rd (F.HBM_STATUS_TRAINED c))
    (hr : t.rd (F.HBM_STATUS_SELF_REFRESH c) = s.rd (F.HBM_STATUS_SELF_REFRESH c)) (hp : t.pwr = s.pwr) :
    t.stackServes c = s.stackServes c := by
  simp only [State.stackServes, State.mustWait, State.asleep_stack, State.dom, State.on, ht, hr, hp]

section
variable {s : State} {c : Fin 2} {temp : BitVec 8}

theorem exec_hbmTempHigh_reaches (hl : s.live = true)
    (hhi : toSigned 8 (s.rd (F.HBM_CTRL_TEMP_HI c)) ≤ toSigned 8 temp.toNat)
    (hold : toSigned 8 (s.rd (F.HBM_TEMP c)) < toSigned 8 (s.rd (F.HBM_CTRL_TEMP_HI c))) :
    exec (.hbmTempHigh c temp) s = .next (s.endClock
      (((s.wr (F.HBM_TEMP c) temp.toNat).wr (F.HBM_STATUS_TEMP_HIGH c) 1).raise (Ev.HBM_TEMP c))) := by
  simp only [exec, execHbmTempHigh, act_live hl, hhi, hold, decide_true, Bool.and_self, if_true]

/-- A report leaves every bit of STATUS but TEMP_HIGH. -/
theorem State.rd_tempReached (s : State) (c : Fin 2) (temp e : Nat) {f : Fld} (ho : f.off = (F.HBM_STATUS_TEMP_HIGH c).off)
    (hf : (F.HBM_STATUS_TEMP_HIGH c).clear f = true) :
    (((s.wr (F.HBM_TEMP c) temp).wr (F.HBM_STATUS_TEMP_HIGH c) 1).raise e).rd f = s.rd f := by
  have hne : (F.HBM_STATUS_TEMP_HIGH c).off ≠ (F.HBM_TEMP c).off := by
    simp only [F.HBM_STATUS_TEMP_HIGH, F.HBM_TEMP]
    omega
  rw [State.rd_raise _ _ (ho ▸ F.HBM_STATUS_TEMP_HIGH_part c) rfl, State.rd_wr_clear _ _ hf]
  exact congrArg f.of (s.reg_wr_ne _ (ho ▸ hne))

theorem hbmTempHigh_reports (hl : s.live = true) (hhi : toSigned 8 (s.rd (F.HBM_CTRL_TEMP_HI c)) ≤ toSigned 8 temp.toNat)
    (hold : toSigned 8 (s.rd (F.HBM_TEMP c)) < toSigned 8 (s.rd (F.HBM_CTRL_TEMP_HI c))) :
    Runs (.hbmTempHigh c temp) s fun u => u.rd (F.HBM_STATUS_TEMP_HIGH c) = 1 ∧ Pends u (Ev.HBM_TEMP c) ∧
      ∀ f : Fld, f.off = (F.HBM_STATUS_TEMP_HIGH c).off → (F.HBM_STATUS_TEMP_HIGH c).clear f = true → u.rd f = s.rd f := by
  refine Runs.of_clocked (exec_hbmTempHigh_reaches hl hhi hold) fun u hu => ⟨?_, hu.pends (State.rd_raise_self _ _), fun f ho hf => ?_⟩
  · rw [hu.rd, State.rd_raise _ _ (F.HBM_STATUS_TEMP_HIGH_part c) rfl, State.rd_wr_mod _ _ rfl]
    rfl
  · exact (hu.rd f).trans (s.rd_tempReached c _ _ ho hf)

end

/-- Settles O14: of a stack, a report writes TEMP and TEMP_HIGH alone. -/
theorem hbmTemperatureRule : Obligations.HbmTemperatureRule := by
  unfold Obligations.HbmTemperatureRule
  intro s c temp hl hlt hhi hold
  rw [← toSigned_small hlt] at hhi hold
  obtain ⟨u, hexec, ⟨hhigh, hpends, hstatus⟩, hframe⟩ := (hbmTempHigh_reports hl hhi hold).and_keeps
  have hkeeps : Keeps (eventParts ++ [.hbmRegs]) s u := hframe
  have hserves : u.stackServes c = s.stackServes c :=
    State.stackServes_congr (hstatus _ rfl rfl) (hstatus _ rfl rfl) (hkeeps .pwr (by decide))
  exact ⟨u, hexec, hhigh, hpends, ⟨hserves, hstatus _ rfl rfl⟩, ⟨hkeeps .ports (by decide), hkeeps .hbmHeld (by decide)⟩,
    fun a => congrArg (Bytes.get · a) (hkeeps .hbm (by decide))⟩

end Sys2Proof.Machine

namespace Sys2Proof.Machine

/-! ### The requests of a port by their tags (R128) -/

theorem find?_putTag {l : List MemReq} {r : MemReq} (h : (l.find? fun x => x.tag == r.tag).isSome = true) :
    (l.map fun x => if x.tag == r.tag then r else x).find? (fun x => x.tag == r.tag) = some r := by
  induction l with
  | nil => simp at h
  | cons x l ih =>
    by_cases hx : x.tag = r.tag
    · simp [hx]
    · simpa [hx] using ih (by simpa [hx] using h)

section
variable {s u : State} {t tag : Nat} {r : MemReq}

theorem State.holder_tag (h : s.holder t tag = some r) : r.tag = tag := by simpa using List.find?_some h

theorem State.holder_congr (h : u.port t = s.port t) : u.holder t tag = s.holder t tag := by rw [State.holder, h, State.holder]

theorem State.endClock_holder (s v : State) (t tag : Nat) : (s.endClock v).holder t tag = v.holder t tag := rfl

/-- The request put back is the one that holds its tag. -/
theorem State.holder_putReq (h : s.holder t tag = some r) {r' : MemReq} (htag : r'.tag = r.tag) :
    (s.putReq t r').holder t tag = some r' := by
  obtain rfl : tag = r'.tag := (State.holder_tag h).symm.trans htag.symm
  rw [State.holder, State.putReq, State.setReqs_port]
  exact find?_putTag (Option.isSome_of_eq_some h)

theorem State.holder_freeReq (s : State) (t tag : Nat) : (s.freeReq t tag).holder t tag = none := by
  rw [State.holder, State.freeReq, State.setReqs_port]
  simp

theorem State.setReqs_used (s : State) (t : Nat) (rs : List MemReq) :
    (s.setReqs t rs).rd (F.MPU_MP_STAT_TAGS_USED t) = rs.length % 64 := State.rd_wr_mod _ _ rfl

theorem State.freeReq_leaf (s : State) (t tag : Nat) : Leaves (partsMask [.mpuRegs, .ports]) s (s.freeReq t tag) :=
  State.freeReq_leaves (.refl _ s) rfl t tag

end

/-! ### Landing and acknowledgement (R128, R132, R135) -/

section
variable {s : State} {t tag : Nat} {r : MemReq} (h : s.holder t tag = some r)
include h

theorem State.ackWrite_frees (hw : r.write = true) (hp : r.performed = true) : s.ackWrite t tag = s.freeReq t tag := by
  simp only [State.ackWrite, h, hw, hp, Bool.and_self, if_true]

variable (hw : r.write = false) (hp : r.performed = true) (ha : r.answered = false)
include hw hp ha

theorem State.land_answers (hpoison : r.poisoned = false) (hstale : r.stale = false) :
    s.land t tag = s.putReq t { r with answered := true } := by
  simp only [State.land, h, hw, hp, ha, hpoison, hstale, Bool.not_true, Bool.or_self, Bool.false_eq_true, if_false]

theorem State.land_stale (hpoison : r.poisoned = false) (hstale : r.stale = true) : s.land t tag = s.freeReq t tag := by
  simp only [State.land, h, hw, hp, ha, hpoison, hstale, Bool.not_true, Bool.or_self, Bool.false_eq_true, if_false, if_true]

theorem State.land_late (hpoison : r.poisoned = true) : s.land t tag = (((s.freeReq t tag).bump
    (F.MPU_LATE_DISC_CNT_COUNT t)).wr (F.MPU_MP_STAT_LATE_DISC t) 1).raise Ev.MPU_LATE_DISC := by
  simp only [State.land, h, hw, hp, ha, hpoison, Bool.not_true, Bool.or_self, Bool.false_eq_true, if_false, if_true]

end

theorem exec_readLanding {s : State} (hl : s.live = true) (t : Fin 128) (tag : Fin 32) :
    exec (.readLanding t tag) s = .next (s.endClock (s.land t tag)) := by
  simp only [exec, execReadLanding, act_live hl]

theorem exec_writeAck {s : State} (hl : s.live = true) (t : Fin 128) (tag : Fin 32) :
    exec (.writeAck t tag) s = .next (s.endClock (s.ackWrite t tag)) := by
  simp only [exec, execWriteAck, act_live hl]

/-- A command that frees a tag does nothing else. -/
theorem Runs.frees {c : Instr} {s : State} {t tag : Nat} (hexec : exec c s = .next (s.endClock (s.freeReq t tag))) :
    Runs c s fun u => u.holder t tag = none ∧ Keeps [.mpuRegs, .ports] s u :=
  ⟨_, hexec, (s.endClock_holder _ t tag).trans (s.holder_freeReq t tag), (State.endClock_leaves (s.freeReq_leaf t tag)).keeps⟩

section
variable {s : State} (hl : s.live = true) {t : Fin 128} {tag : Fin 32} {r : MemReq} (h : s.holder t tag = some r)
include hl h

theorem writeAck_frees (hw : r.write = true) (hp : r.performed = true) : Runs (.writeAck t tag) s fun u =>
    u.holder t tag = none ∧ Keeps [.mpuRegs, .ports] s u :=
  Runs.frees (State.ackWrite_frees h hw hp ▸ exec_writeAck hl t tag)

variable (hw : r.write = false) (hp : r.performed = true) (ha : r.answered = false)
include hw hp ha

theorem readLanding_stale (hpoison : r.poisoned = false) (hstale : r.stale = true) : Runs (.readLanding t tag) s fun u =>
    u.holder t tag = none ∧ Keeps [.mpuRegs, .ports] s u :=
  Runs.frees (State.land_stale h hw hp ha hpoison hstale ▸ exec_readLanding hl t tag)

theorem readLanding_answers (hpoison : r.poisoned = false) (hstale : r.stale = false) : Runs (.readLanding t tag) s fun u =>
    u.holder t tag = some { r with answered := true } ∧
    u.rd (F.MPU_MP_STAT_TAGS_USED t) = (s.port t).reqs.length % 64 := by
  have hexec := exec_readLanding hl t tag
  rw [State.land_answers h hw hp ha hpoison hstale] at hexec
  refine Runs.of_clocked hexec fun u hu => ⟨?_, ?_⟩
  · rw [State.holder_congr (hu.leaves.port (by decide) t)]
    exact State.holder_putReq h rfl
  · rw [hu.rd, State.putReq, State.setReqs_used, List.length_map]

theorem readLanding_late (hpoison : r.poisoned = true) : Runs (.readLanding t tag) s fun u =>
    u.holder t tag = none ∧ Counted s u (F.MPU_LATE_DISC_CNT_COUNT t) ∧ u.rd (F.MPU_MP_STAT_LATE_DISC t) = 1 ∧
    Pends u Ev.MPU_LATE_DISC := by
  have hexec := exec_readLanding hl t tag
  rw [State.land_late h hw hp ha hpoison] at hexec
  have hleaf : Leaves (0x4000 ||| 0x10001990080000002010) (s.freeReq t tag)
      ((((s.freeReq t tag).bump (F.MPU_LATE_DISC_CNT_COUNT t)).wr (F.MPU_MP_STAT_LATE_DISC t) 1).raise Ev.MPU_LATE_DISC) :=
    (((Leaves.refl 0x4000 _).bump (Part.bit (F.MPU_LATE_DISC_CNT_COUNT_part t) rfl)).wr
      (Part.bit (F.MPU_MP_STAT_LATE_DISC_part t) rfl)).comp (State.raise_leaves (.refl _ _) rfl _)
  have hne : (F.MPU_LATE_DISC_CNT_COUNT t).off ≠ (F.MPU_MP_STAT_LATE_DISC t).off := by
    simp only [F.MPU_LATE_DISC_CNT_COUNT, F.MPU_MP_STAT_LATE_DISC]
    omega
  have hcount : (s.freeReq t tag).rd (F.MPU_LATE_DISC_CNT_COUNT t) = s.rd (F.MPU_LATE_DISC_CNT_COUNT t) :=
    congrArg (F.MPU_LATE_DISC_CNT_COUNT t).of (s.setReqs_reg t _ hne)
  refine Runs.of_clocked hexec fun u hu => ⟨?_, hu.counted ?_, ?_, hu.pends (State.rd_raise_self _ _)⟩
  · rw [State.holder_congr (hu.leaves.port (by decide) t), State.holder_congr (hleaf.port (by decide) t), State.holder_freeReq]
  · rw [Counted, State.rd_raise _ _ (F.MPU_LATE_DISC_CNT_COUNT_part t) rfl, ← hcount, ← State.rd_bump _ _ ⟨rfl, rfl⟩]
    exact congrArg (F.MPU_LATE_DISC_CNT_COUNT t).of (State.reg_wr_ne _ _ hne)
  · rw [hu.rd, State.rd_raise _ _ (F.MPU_MP_STAT_LATE_DISC_part t) rfl, State.rd_wr_mod _ _ rfl]
    rfl

end

end Sys2Proof.Machine

namespace Sys2Proof.Machine

/-! ### Faults and errors met only add to what has left the device (R139, R390, R391) -/

section
variable (s : State)

theorem State.setWords_out (off : Nat) (l : List Nat) : (s.setWords off l).out = s.out :=
  (Leaves.setWords (.refl (2 ^ 23 - 1) s) (fun _ _ => regPart_bit _)).same .out (by decide)

theorem State.logFault_emits (r : FaultRec) : s.out <+: (s.logFault r).out := by
  have hcount : ((s.bump F.FLT_OVF_CNT_COUNT).wr F.FLT_STAT_OVERFLOW 1).out = s.out := (State.wr_out _ _ _).trans (s.bump_out _)
  unfold State.logFault
  dsimp only
  generalize (s.bump F.FLT_OVF_CNT_COUNT).wr F.FLT_STAT_OVERFLOW 1 = t at hcount ⊢
  rw [← hcount]
  split
  · split
    · refine List.IsPrefix.trans ?_ (State.raise_emits _ _)
      rw [State.withFlt_out]
    · exact List.prefix_rfl
  · rw [State.wr_out, State.setWords_out, hcount]

theorem State.countClass_emits (cls : Nat) : s.out <+: (s.countClass cls).out := by
  unfold State.countClass
  split
  · exact s.bump_out F.FLT_F2_CNT_COUNT ▸ State.raise_emits _ _
  · split
    · exact s.bump_out F.FLT_F3_CNT_COUNT ▸ State.raise_emits _ _
    · exact List.prefix_rfl

theorem State.recordFault_emits (r : FaultRec) : s.out <+: (s.recordFault r).out := by
  have hpin : Leaves 0x20000000000000008 s
      (((s.withFlt { s.flt with seq := (s.flt.seq + 1) % 2 ^ 32 }).drivePin r.cls).latchFault r) :=
    State.latchFault_leaves (State.drivePin_leaves ((Leaves.refl _ s).upd_flt (by decide)) rfl _) rfl r
  have hlog := (State.logFault_emits _ r).trans (State.countClass_emits
    ((((s.withFlt { s.flt with seq := (s.flt.seq + 1) % 2 ^ 32 }).drivePin r.cls).latchFault r).logFault r) r.cls)
  rw [hpin.same .out (by decide)] at hlog
  unfold State.recordFault
  dsimp only
  split
  · exact hlog.trans (State.raise_emits _ _)
  · exact hlog

theorem State.report_emits (src detail : Nat) (region : Option Nat) : s.out <+: (s.report src detail region).out :=
  State.recordFault_emits s _

theorem State.ueMet_emits (a : Nat) : s.out <+: (s.ueMet a).out := by
  unfold State.ueMet
  dsimp only
  refine List.IsPrefix.trans ?_ (State.raise_emits _ _)
  split
  · rw [State.bump_out]
  · simp only [State.setReg, State.withRegs_out, State.bump_out, List.prefix_rfl]

theorem State.hbmUes_emits (ws : List Nat) : s.out <+: (s.hbmUes ws).out := by
  unfold State.hbmUes State.ueReport
  exact (forEach_emits (fun w u => u.ueMet_emits _) ws s).trans (forEach_emits (fun c u => u.report_emits _ _ _) _ _)

theorem State.hbmCe_emits (w : Nat) : s.out <+: (s.hbmCe w).out := by
  have hcount : ((s.setSoft w false).bump (F.HBM_CE_CNT_COUNT (stackOf (8 * w)))).out = s.out := State.bump_out _ _
  exact hcount ▸ State.raise_emits _ _

end

/-! ### What a request finds of a stack (R141, R363) -/

section
variable {m : Nat} {s t : State} (h : Leaves m s t) (hr : m.testBit Part.hbmRegs.ctorIdx = false)
include h hr

theorem Leaves.stackDead (c : Nat) : t.stackDead c = s.stackDead c := h.on (F.HBM_STATUS_LINK_ERR_part c) (by decide) hr

theorem Leaves.trained (c : Nat) : t.on (F.HBM_STATUS_TRAINED c) = s.on (F.HBM_STATUS_TRAINED c) :=
  h.on (F.HBM_STATUS_TRAINED_part c) (by decide) hr

theorem Leaves.asleep_stack (c : Nat) : t.asleep (16 + c) = s.asleep (16 + c) := by
  rw [State.asleep_stack, State.asleep_stack]
  exact h.on (F.HBM_STATUS_SELF_REFRESH_part c) (by decide) hr

theorem Leaves.stackServes (hp : m.testBit Part.pwr.ctorIdx = false) (c : Nat) : t.stackServes c = s.stackServes c :=
  State.stackServes_congr (h.rd (F.HBM_STATUS_TRAINED_part c) (by decide) hr)
    (h.rd (F.HBM_STATUS_SELF_REFRESH_part c) (by decide) hr) (h.same .pwr hp)

end

section
variable (s : State)

theorem State.upsets_leaf (l : List (Nat × Bool)) : Leaves 0x60000000000 s (s.upsets l) := State.upsets_leaves (.refl _ s) rfl l

theorem State.knock_leaf (d : Nat) : Leaves 0x10041990080000002012 s (s.knock d) := State.knock_leaves (.refl _ s) rfl d

theorem State.dramAccess_leaf (a : Nat) (write : Bool) : Leaves 0x10000000000000000000 s (s.dramAccess a write) :=
  State.dramAccess_leaves (.refl _ s) rfl a write

theorem State.hbmPut_leaf (a be : Nat) (data : List Byte) : Leaves 0x100019900f0000082010 s (s.hbmPut a be data) :=
  State.hbmPut_leaves (.refl _ s) rfl a be data

theorem State.hbmRead_leaf (a n : Nat) : Leaves 0x100219900c0000082018 s (s.hbmRead a n).1 :=
  State.hbmRead_leaves (.refl _ s) rfl a n

end

/-! ### A read of HBM (R139) -/

section
variable (s : State)

theorem State.hbmCe_stackDead (w c : Nat) : (s.hbmCe w).stackDead c = s.stackDead c := by
  have hne : (F.HBM_STATUS_LINK_ERR c).off ≠ (F.HBM_CE_CNT_COUNT (stackOf (8 * w))).off := by
    simp only [F.HBM_STATUS_LINK_ERR, F.HBM_CE_CNT_COUNT]
    omega
  simp only [State.stackDead, State.on]
  rw [State.hbmCe, State.rd_raise _ _ (F.HBM_STATUS_LINK_ERR_part c) rfl]
  exact congrArg (fun w => (F.HBM_STATUS_LINK_ERR c).of w != 0) (State.reg_bump_ne _ hne)

/-- The range with its single-bit errors corrected. -/
def State.corrected (a n : Nat) : State := forEach (s.codeWords s.hbmSoft a n) (fun w s => s.hbmCe w) s

theorem State.corrected_leaf (a n : Nat) : Leaves 0x100019900c0000082010 s (s.corrected a n) :=
  .forEach (fun w _ h => State.hbmCe_leaves h rfl w) (.refl _ s)

theorem State.corrected_emits (a n : Nat) : s.out <+: (s.corrected a n).out := forEach_emits (fun w u => u.hbmCe_emits w) _ s

theorem State.badWords_congr {s t : State} (hd : ∀ c, t.stackDead c = s.stackDead c) (hb : t.hbmBad = s.hbmBad) (a n : Nat) :
    t.badWords a n = s.badWords a n := by
  simp only [State.badWords, State.codeWords, hd, hb]

/-- Corrections leave what cannot be corrected. -/
theorem State.corrected_badWords (a n : Nat) : (s.corrected a n).badWords a n = s.badWords a n := by
  refine State.badWords_congr (fun c => ?_) ?_ a n
  · exact forEach_obs_out (State.stackDead · c) (fun w _ u => u.hbmCe_stackDead w c) s
  · exact forEach_obs_out State.hbmBad (fun w _ u => (State.hbmCe_leaves (.refl 0x100019900c0000082010 u) rfl w).same .hbmBad (by decide)) s

theorem State.corrected_hbm (a n : Nat) : (s.corrected a n).hbm = s.hbm := (s.corrected_leaf a n).same .hbm (by decide)

/-- What a read answers: an error where a stack is dead or a word cannot be corrected, and the bytes. -/
theorem State.hbmRead_answer (a n : Nat) : (s.hbmRead a n).2 =
    (((stacksTouched a n).any fun c => s.stackDead c) || !(s.badWords a n).isEmpty, Bytes.read s.hbm a n) := by
  have hbad := s.corrected_badWords a n
  have hhbm := s.corrected_hbm a n
  unfold State.corrected at hbad hhbm
  simp only [State.hbmRead, hbad]
  cases s.badWords a n <;> simp [hhbm]

theorem State.hbmRead_emits (a n : Nat) : s.out <+: (s.hbmRead a n).1.out := by
  have hcorrected := s.corrected_emits a n
  unfold State.corrected at hcorrected
  unfold State.hbmRead
  dsimp only
  split
  · exact hcorrected
  · exact hcorrected.trans (State.hbmUes_emits _ _)

end

/-! ### A write of a block (R139) -/

section
variable (s : State) (a be : Nat) (data : List Byte)

theorem State.hbmPut_get {i : Nat} (hi : i < 64) (hb : bit be i = true) :
    Bytes.get (s.hbmPut a be data).hbm (a + i) = data.getD i 0 := by
  refine forEach_obs_in (fun s => Bytes.get s.hbm (a + i)) (g := fun _ => data.getD i 0) List.nodup_range (List.mem_range.2 hi)
    (fun j _ hj u => ?_) (fun u => ?_) _
  · split
    · exact Bytes.get_set_ne _ _ (by omega)
    · rfl
  · rw [if_pos hb]
    exact Bytes.get_set_same _ _ _

theorem State.hbmPut_get_ne {c : Nat} (hc : ∀ i, i < 64 → bit be i = true → c ≠ a + i) :
    Bytes.get (s.hbmPut a be data).hbm c = Bytes.get s.hbm c := by
  refine (forEach_obs_out (fun s => Bytes.get s.hbm c) (fun i hi u => ?_) _).trans (congrArg (Bytes.get · c) ?_)
  · split
    · exact Bytes.get_set_ne _ _ (hc i (List.mem_range.1 hi) ‹_›)
    · rfl
  · exact (Leaves.forEach (fun i _ h => State.meetCode_leaves h rfl _ _) (.refl 0x100019900e0000082010 s)).same .hbm (by decide)

theorem leBytes_getD {n i : Nat} (v : Nat) (h : i < n) : ((leBytes n v).getD i 0).toNat = v / 256 ^ i % 256 := by
  induction n generalizing i v with
  | zero => omega
  | succ n ih =>
    cases i with
    | zero => simp [leBytes]
    | succ i => rw [leBytes, List.getD_cons_succ, ih _ (by omega), Nat.div_div_eq_div_mul, Nat.pow_succ']

end

/-! ### A port's request performed (R128, R138, R139) -/

/-- A read as its controller has performed it. -/
def MemReq.readDone (r : MemReq) (err : Bool) (data : List Byte) : MemReq := { r with performed := true, err := err, data := data }

/-- A port's access sent to the stack, after the upsets that its words have suffered. -/
def State.accessed (s : State) (x : Upset) (a : Nat) (write : Bool) : State := (s.upsets (upsetWords x a)).dramAccess a write

section
variable (s : State) (x : Upset) (a : Nat) (write : Bool)

theorem State.accessed_leaf : Leaves (0x60000000000 ||| 0x10000000000000000000) s (s.accessed x a write) :=
  (s.upsets_leaf _).comp (State.dramAccess_leaf _ _ _)

theorem State.accessed_sends : Output.dram (stackOf a) (channelOf a) (pseudoIdx a % 2) (bankOf a) (localOf a) write ∈
    (s.accessed x a write).out := by
  simp [State.accessed, State.dramAccess, State.emit_out]

theorem State.accessed_reads (n : Nat) : ((s.accessed x a write).hbmRead a n).2 =
    (((stacksTouched a n).any fun c => s.stackDead c) || !((s.upsets (upsetWords x a)).badWords a n).isEmpty, Bytes.read s.hbm a n) := by
  have hsent := (s.upsets (upsetWords x a)).dramAccess_leaf a write
  have hbad : (s.accessed x a write).badWords a n = (s.upsets (upsetWords x a)).badWords a n :=
    State.badWords_congr (hsent.stackDead (by decide)) (hsent.same .hbmBad (by decide)) a n
  rw [State.hbmRead_answer, hbad, (s.accessed_leaf x a write).same .hbm (by decide)]
  simp only [(s.accessed_leaf x a write).stackDead (by decide)]

end

section
variable {s : State} {t : Fin 128} {tag : Fin 32} {x : Upset} {r : MemReq} (hl : s.live = true) (h : s.holder t tag = some r)
  (hp : r.performed = false) (hfirst : firstOfBlock (s.port t).reqs r = true) (hs : s.stackServes (stackOf r.addr) = true)

include h hp hfirst hs in
/-- A stack that serves performs the request. -/
theorem State.performPort_serves : s.performPort t tag x =
    if r.write then ((s.accessed x r.addr true).hbmPut r.addr r.be r.data).putReq t { r with performed := true }
    else ((s.accessed x r.addr false).hbmRead r.addr 64).1.putReq t
      (r.readDone ((s.accessed x r.addr false).hbmRead r.addr 64).2.1 ((s.accessed x r.addr false).hbmRead r.addr 64).2.2) := by
  have hserves : (s.upsets (upsetWords x r.addr)).stackServes (stackOf r.addr) = true :=
    ((s.upsets_leaf _).stackServes (by decide) (by decide) _).trans hs
  have hawake : (s.upsets (upsetWords x r.addr)).mustWait (16 + stackOf r.addr) = false := by
    simpa using (Bool.and_eq_true_iff.1 hserves).2
  simp only [State.performPort, h, hp, hfirst, State.knock_awake hawake, hserves, Bool.not_true, Bool.or_self, Bool.false_eq_true,
    if_false, State.accessed, MemReq.readDone]

include hl in
theorem exec_hbmRequest_port : exec (.hbmRequest (.port t tag) x) s = .next (s.endClock (s.performPort t tag x)) := by
  simp only [exec, execHbmRequest, act_live hl]

/-- A request put back by its tag, whatever else has changed. -/
theorem Runs.putsReq {c : Instr} {m : Nat} {v : State} {r' : MemReq} (hexec : exec c s = .next (s.endClock (v.putReq t r')))
    (h : s.holder t tag = some r) (hv : Leaves m s v) (hm : m.testBit Part.ports.ctorIdx = false) (htag : r'.tag = r.tag) :
    Runs c s fun u => u.holder t tag = some r' ∧ u.out = v.out ∧ u.hbm = v.hbm := by
  have hput := State.putReq_leaves (.refl 0x8000004000 v) rfl t r'
  refine Runs.of_clocked hexec fun u hu => ⟨?_, ?_, ?_⟩
  · rw [State.holder_congr (hu.leaves.port (by decide) t)]
    exact State.holder_putReq ((State.holder_congr (hv.port hm t)).trans h) htag
  · rw [hu.out, hput.same .out (by decide)]
  · rw [hu.leaves.same .hbm (by decide), hput.same .hbm (by decide)]

include hl h hp hfirst hs

theorem hbmRequest_writes (hw : r.write = true) : Runs (.hbmRequest (.port t tag) x) s fun u =>
    u.holder t tag = some { r with performed := true } ∧
    (∀ i, i < 64 → bit r.be i = true → Bytes.get u.hbm (r.addr + i) = r.data.getD i 0) ∧
    (∀ a, (∀ i, i < 64 → bit r.be i = true → a ≠ r.addr + i) → Bytes.get u.hbm a = Bytes.get s.hbm a) := by
  have hexec := exec_hbmRequest_port (t := t) (tag := tag) (x := x) hl
  rw [State.performPort_serves h hp hfirst hs, if_pos hw] at hexec
  have hsent := s.accessed_leaf x r.addr true
  obtain ⟨u, hu, hholder, -, hhbm⟩ := Runs.putsReq hexec h (hsent.comp (State.hbmPut_leaf _ r.addr r.be r.data)) (by decide) rfl
  refine ⟨u, hu, hholder, fun i hi hb => ?_, fun a ha => ?_⟩
  · rw [hhbm, State.hbmPut_get _ _ _ _ hi hb]
  · rw [hhbm, State.hbmPut_get_ne _ _ _ _ ha, hsent.same .hbm (by decide)]

theorem hbmRequest_reads (hw : r.write = false) : Runs (.hbmRequest (.port t tag) x) s fun u =>
    u.holder t tag = some (r.readDone
      ((stacksTouched r.addr 64).any (fun c => s.stackDead c) || !((s.upsets (upsetWords x r.addr)).badWords r.addr 64).isEmpty)
      (Bytes.read s.hbm r.addr 64)) ∧
    Output.dram (stackOf r.addr) (channelOf r.addr) (pseudoIdx r.addr % 2) (bankOf r.addr) (localOf r.addr) false ∈ u.out ∧
    u.hbm = s.hbm := by
  have hexec := exec_hbmRequest_port (t := t) (tag := tag) (x := x) hl
  rw [State.performPort_serves h hp hfirst hs, if_neg (by rw [hw]; decide), State.accessed_reads] at hexec
  have hread := (s.accessed_leaf x r.addr false).comp (State.hbmRead_leaf _ r.addr 64)
  obtain ⟨u, hu, hholder, hout, hhbm⟩ := Runs.putsReq hexec h hread (by decide) rfl
  refine ⟨u, hu, hholder, ?_, hhbm.trans (hread.same .hbm (by decide))⟩
  rw [hout]
  exact (State.hbmRead_emits _ r.addr 64).subset (s.accessed_sends x r.addr false)

end

/-! ### A request of another agent for a block (R138, R139, R141, R363) -/

section
variable {s : State} {h : Held2} {b : Nat}

theorem State.wakeHbm_block (s : State) (b : Nat) : s.wakeHbm (64 * b) 64 =
    if s.stackDead (stackOf (64 * b)) then s else s.knock (16 + stackOf (64 * b)) := by
  rw [State.wakeHbm, stacksTouched_block (by omega)]
  rfl

theorem State.hbmReady_block (s : State) (b : Nat) : s.hbmReady (64 * b) 64 =
    (s.stackDead (stackOf (64 * b)) || s.stackServes (stackOf (64 * b))) := by
  rw [State.hbmReady, stacksTouched_block (by omega), List.all_cons, List.all_nil, Bool.and_true]

/-- A stack that answers, with an error or not, is asked at once. -/
theorem State.askHbm_performs (hr : h.range = (64 * b, 64))
    (hs : s.stackDead (stackOf (64 * b)) = true ∨ s.stackServes (stackOf (64 * b)) = true) : s.askHbm h = s.doHeld [] h := by
  have hwake : s.wakeHbm (64 * b) 64 = s := by
    rw [State.wakeHbm_block]
    split
    · rfl
    · obtain ⟨-, hwait⟩ := Bool.and_eq_true_iff.1 (hs.resolve_left ‹_›)
      exact State.knock_awake (by simpa using hwait)
  have hready : s.hbmReady (64 * b) 64 = true := by rwa [State.hbmReady_block, Bool.or_eq_true]
  simp only [State.askHbm, hr, hwake, hready, if_true]

/-- A stack that still does not serve once it has been woken keeps the request waiting. -/
theorem State.askHbm_holds (hr : h.range = (64 * b, 64)) (hd : s.stackDead (stackOf (64 * b)) = false)
    (hs : (s.knock (16 + stackOf (64 * b))).stackServes (stackOf (64 * b)) = false) :
    s.askHbm h = (s.knock (16 + stackOf (64 * b))).withHbmHeld (s.hbmHeld ++ [h]) := by
  have hwake : s.wakeHbm (64 * b) 64 = s.knock (16 + stackOf (64 * b)) := by
    rw [State.wakeHbm_block, hd, if_neg (by decide)]
  have hknock := s.knock_leaf (16 + stackOf (64 * b))
  have hready : (s.knock (16 + stackOf (64 * b))).hbmReady (64 * b) 64 = false := by
    rw [State.hbmReady_block, hknock.stackDead (by decide), hd, hs, Bool.or_self]
  have hheld : (s.knock (16 + stackOf (64 * b))).hbmHeld = s.hbmHeld := hknock.same .hbmHeld (by decide)
  simp only [State.askHbm, hr, hwake, hready, Bool.false_eq_true, if_false, hheld]

/-- A sleeping stack begins its wake. -/
theorem State.knock_wakes {c : Nat} (ha : s.asleep (16 + c) = true) (hdown : (s.dom (16 + c)).down = none) :
    ((s.knock (16 + c)).dom (16 + c)).waking = true := by
  have hstack : ¬ 16 + c < 16 := by omega
  simp only [State.knock, hstack, decide_false, Bool.false_and, Bool.false_eq_true, if_false, hdown, ha, Bool.not_true]
  split
  · exact (congrArg Domain.waking (Tab.get_set_same _ _ _ _)).trans ‹_›
  · rw [State.evalDomain, if_neg hstack, State.dom, (State.wakePkt_leaves (.refl 0x10001990080000002012 _) rfl).same .pwr (by decide)]
    exact congrArg Domain.waking (Tab.get_set_same _ _ _ _)

end

section
variable {s : State} (hl : s.live = true) (block : BitVec 29) (x : Upset)
include hl

theorem exec_hbmRequest_read : exec (.hbmRequest (.read block) x) s = .next (s.endClock
    ((s.upsets (upsetWords x (64 * block.toNat))).askHbm (.block (.read block)))) := by
  simp only [exec, execHbmRequest, act_live hl, Held2.range]

theorem exec_hbmRequest_write (be : BitVec 64) (data : BitVec 512) : exec (.hbmRequest (.write block be data) x) s =
    .next (s.endClock ((s.upsets (upsetWords x (64 * block.toNat))).askHbm (.block (.write block be data)))) := by
  simp only [exec, execHbmRequest, act_live hl, Held2.range]

end

/-- What a command answers last. -/
theorem Runs.answersLast {c : Instr} {s v : State} {o : Output} (hexec : exec c s = .next (s.endClock (v.emit o))) :
    Runs c s fun u => (∃ l : List Output, u.out = l ++ [o]) ∧ u.hbm = v.hbm :=
  Runs.of_clocked hexec fun _ hu => ⟨⟨v.out, hu.out.trans (v.emit_out o)⟩, hu.leaves.same .hbm (by decide)⟩

/-- A read of a block answers an error with no bytes, or its bytes. -/
theorem State.doHeld_read (s : State) (block : BitVec 29) {e : Bool} (he : (s.stackDead (stackOf (64 * block.toNat)) ||
      !(s.badWords (64 * block.toNat) 64).isEmpty) = e) :
    ∃ v : State, v.hbm = s.hbm ∧ s.doHeld [] (.block (.read block)) =
      v.emit (.hbm e (if e then [] else Bytes.read s.hbm (64 * block.toNat) 64)) := by
  have hdead : ((stacksTouched (64 * block.toNat) 64).any fun c => s.stackDead c) = s.stackDead (stackOf (64 * block.toNat)) := by
    rw [stacksTouched_block (by omega), List.any_cons, List.any_nil, Bool.or_false]
  have hsent : Leaves 0x10000000000000000000 s (if s.stackDead (stackOf (64 * block.toNat)) then s
      else s.dramAccess (64 * block.toNat) false) := .ite (.refl _ s) (s.dramAccess_leaf _ _)
  refine ⟨_, ((hsent.comp (State.hbmRead_leaf _ (64 * block.toNat) 64)).same .hbm (by decide)), ?_⟩
  simp only [State.doHeld]
  rw [State.hbmRead_answer, State.badWords_congr (hsent.stackDead (by decide)) (hsent.same .hbmBad (by decide)),
    hsent.same .hbm (by decide)]
  simp only [hsent.stackDead (by decide), hdead, he]

section
variable {s : State} (hl : s.live = true) (block : BitVec 29) (x : Upset)
include hl

theorem hbmRequest_answersRead {e : Bool} (hs : s.stackDead (stackOf (64 * block.toNat)) = true ∨
      s.stackServes (stackOf (64 * block.toNat)) = true) (he : (s.stackDead (stackOf (64 * block.toNat)) ||
      !((s.upsets (upsetWords x (64 * block.toNat))).badWords (64 * block.toNat) 64).isEmpty) = e) :
    Runs (.hbmRequest (.read block) x) s fun u =>
      (∃ l : List Output, u.out = l ++ [Output.hbm e (if e then [] else Bytes.read s.hbm (64 * block.toNat) 64)]) ∧ u.hbm = s.hbm := by
  have hmet := s.upsets_leaf (upsetWords x (64 * block.toNat))
  have hhbm := hmet.same .hbm (by decide)
  have hexec := exec_hbmRequest_read hl block x
  rw [← hmet.stackDead (by decide)] at hs he
  rw [← hmet.stackServes (by decide) (by decide)] at hs
  obtain ⟨v, hv, hread⟩ := State.doHeld_read _ block he
  rw [State.askHbm_performs rfl hs, hread, hhbm] at hexec
  obtain ⟨u, hu, hout, huv⟩ := Runs.answersLast hexec
  exact ⟨u, hu, hout, huv.trans (hv.trans hhbm)⟩

theorem hbmRequest_refusesWrite (be : BitVec 64) (data : BitVec 512) (hd : s.stackDead (stackOf (64 * block.toNat)) = true) :
    Runs (.hbmRequest (.write block be data) x) s fun u =>
      (∃ l : List Output, u.out = l ++ [Output.hbm true []]) ∧ u.hbm = s.hbm := by
  have hmet := s.upsets_leaf (upsetWords x (64 * block.toNat))
  have hexec := exec_hbmRequest_write hl block x be data
  rw [← hmet.stackDead (by decide)] at hd
  rw [State.askHbm_performs rfl (.inl hd), State.doHeld, if_pos hd] at hexec
  obtain ⟨u, hu, hout, huv⟩ := Runs.answersLast hexec
  exact ⟨u, hu, hout, huv.trans (hmet.same .hbm (by decide))⟩

theorem hbmRequest_writesBlock (be : BitVec 64) (data : BitVec 512) (hd : s.stackDead (stackOf (64 * block.toNat)) = false)
    (hs : s.stackServes (stackOf (64 * block.toNat)) = true) : Runs (.hbmRequest (.write block be data) x) s fun u =>
      (∀ i, i < 64 → bit be.toNat i = true → (Bytes.get u.hbm (64 * block.toNat + i)).toNat = data.toNat / 256 ^ i % 256) ∧
      (∀ a, (∀ i, i < 64 → bit be.toNat i = true → a ≠ 64 * block.toNat + i) → Bytes.get u.hbm a = Bytes.get s.hbm a) ∧
      (∃ l : List Output, u.out = l ++ [Output.hbm false []]) := by
  have hsent := s.accessed_leaf x (64 * block.toNat) true
  have hmet := s.upsets_leaf (upsetWords x (64 * block.toNat))
  have hexec := exec_hbmRequest_write hl block x be data
  rw [← hmet.stackDead (by decide)] at hd
  rw [← hmet.stackServes (by decide) (by decide)] at hs
  rw [State.askHbm_performs rfl (.inr hs), State.doHeld, hd, if_neg (by decide)] at hexec
  obtain ⟨u, hu, hout, huv⟩ := Runs.answersLast hexec
  refine ⟨u, hu, fun i hi hb => ?_, fun a ha => ?_, hout⟩
  · rw [huv, State.hbmPut_get _ _ _ _ hi hb, leBytes_getD _ hi]
  · rw [huv, State.hbmPut_get_ne _ _ _ _ ha]
    exact congrArg (Bytes.get · a) (hsent.same .hbm (by decide))

/-- A stack that does not serve yet holds the request. -/
theorem hbmRequest_holds (hd : s.stackDead (stackOf (64 * block.toNat)) = false)
    (hs : ∀ v, Leaves (0x60000000000 ||| 0x10041990080000002012) s v → v.stackServes (stackOf (64 * block.toNat)) = false) :
    Runs (.hbmRequest (.read block) x) s fun u =>
      u.hbmHeld = s.hbmHeld ++ [.block (.read block)] ∧ u.hbm = s.hbm ∧
      u.pwr = ((s.upsets (upsetWords x (64 * block.toNat))).knock (16 + stackOf (64 * block.toNat))).pwr := by
  have hmet := s.upsets_leaf (upsetWords x (64 * block.toNat))
  have hknock := hmet.comp (State.knock_leaf _ (16 + stackOf (64 * block.toNat)))
  have hexec := exec_hbmRequest_read hl block x
  rw [← hmet.stackDead (by decide)] at hd
  rw [State.askHbm_holds rfl hd (hs _ hknock), hmet.same .hbmHeld (by decide)] at hexec
  refine Runs.of_clocked hexec fun u hu => ⟨?_, ?_, ?_⟩
  · exact hu.leaves.same .hbmHeld (by decide)
  · exact (hu.leaves.same .hbm (by decide)).trans (hknock.same .hbm (by decide))
  · exact hu.pwr

theorem hbmRequest_waits (hs : s.untrained (stackOf (64 * block.toNat)) = true) : Runs (.hbmRequest (.read block) x) s fun u =>
    u.hbmHeld = s.hbmHeld ++ [.block (.read block)] ∧ u.hbm = s.hbm := by
  obtain ⟨htrained, hdead⟩ : s.on (F.HBM_STATUS_TRAINED (stackOf (64 * block.toNat))) = false ∧
      s.stackDead (stackOf (64 * block.toNat)) = false := by simpa [State.untrained, State.stackDead] using hs
  obtain ⟨u, hu, hheld, hhbm, -⟩ := hbmRequest_holds hl block x hdead fun v hv => by
    rw [State.stackServes, hv.trained (by decide), htrained, Bool.false_and]
  exact ⟨u, hu, hheld, hhbm⟩

theorem hbmRequest_wakes (hd : s.stackDead (stackOf (64 * block.toNat)) = false)
    (ha : s.asleep (16 + stackOf (64 * block.toNat)) = true) (hdown : (s.dom (16 + stackOf (64 * block.toNat))).down = none) :
    Runs (.hbmRequest (.read block) x) s fun u =>
      u.hbmHeld = s.hbmHeld ++ [.block (.read block)] ∧ (u.dom (16 + stackOf (64 * block.toNat))).waking = true := by
  have hmet := s.upsets_leaf (upsetWords x (64 * block.toNat))
  obtain ⟨u, hu, hheld, -, hpwr⟩ := hbmRequest_holds hl block x hd fun v hv => by
    rw [State.stackServes, State.mustWait, hv.asleep_stack (by decide), ha, Bool.true_or, Bool.not_true, Bool.and_false]
  rw [← hmet.asleep_stack (by decide)] at ha
  rw [State.dom, ← hmet.same .pwr (by decide)] at hdown
  refine ⟨u, hu, hheld, ?_⟩
  rw [State.dom, hpwr]
  exact State.knock_wakes ha hdown

end

/-! ### The statement about the memory ports -/

/-- The statement's `!a = e` reads as `!(a = e)`: the two bits differ. -/
theorem not_eq_of_differs {a e : Bool} (h : (!decide (a = e)) = true) : (!a) = e := by
  simpa [Bool.eq_not] using h

/-- Settles O29: each clause is the lemma above that says what its request, landing or acknowledgement does. -/
theorem memoryPorts : Obligations.MemoryPorts := by
  unfold Obligations.MemoryPorts
  exact ⟨fun s t tag x r hl h hw hp hfirst _ hs => hbmRequest_reads hl h hp hfirst hs hw,
    fun s t tag x r hl h hw hp hfirst _ hs => hbmRequest_writes hl h hp hfirst hs hw,
    fun s block be data x hl hd => hbmRequest_refusesWrite hl block x be data hd,
    fun s block x hl hd => hbmRequest_answersRead (e := true) hl block x (.inl hd) (by rw [hd, Bool.true_or]),
    fun s block be data x hl hd hs => hbmRequest_writesBlock hl block x be data hd hs,
    fun s block x e hl hd hs he => hbmRequest_answersRead hl block x (.inr hs) (by rw [hd, Bool.false_or, not_eq_of_differs he]),
    fun s block x hl hs => hbmRequest_waits hl block x hs,
    fun s block x hl hd ha hdown => hbmRequest_wakes hl block x hd ha hdown,
    fun s t tag r hl h hw hp ha hpoison hstale => readLanding_answers hl h hw hp ha hpoison hstale,
    fun s t tag r hl h hw hp ha hpoison => readLanding_late hl h hw hp ha hpoison,
    fun s t tag r hl h hw hp ha hpoison hstale => readLanding_stale hl h hw hp ha hpoison hstale,
    fun s t tag r hl h hw hp => writeAck_frees hl h hw hp⟩

end Sys2Proof.Machine

namespace Sys2Proof.Machine

/-! ### Frames and the timebase (R164, R168) -/

/-- The timebase without what frames count in it: sequence numbers, frames seen, and frames that wait for an ACK. -/
def Timebase.core (x : Timebase) : Timebase := { x with seen := [], seqs := [], unacked := [] }

/-- A field that no frame counts in is a field of the core. -/
theorem Timebase.of_core {α : Type} {x y : Timebase} (h : x.core = y.core) (g : Timebase → α) (hg : ∀ z, g z.core = g z) : g x = g y :=
  (hg _).symm.trans ((congrArg g h).trans (hg _))

/-- `t` is `s` after frames have been sent or taken; the messages of the clock may have been forgotten (R284). -/
def Sent (s t : State) : Prop :=
  ∃ x l p, x.core = s.tb.core ∧ t = ((s.withTb x).withOut (s.out ++ l)).withPcie p

theorem Sent.refl (s : State) : Sent s s := ⟨s.tb, [], s.pcie, rfl, by rw [List.append_nil]; rfl⟩

theorem Sent.trans {s t u : State} (h : Sent s t) (k : Sent t u) : Sent s u := by
  obtain ⟨x, l, p, hx, rfl⟩ := h
  obtain ⟨y, m, q, hy, rfl⟩ := k
  exact ⟨y, l ++ m, q, hy.trans hx, by rw [← List.append_assoc]; rfl⟩

theorem Sent.forEach {α : Type} {f : α → State → State} (hf : ∀ a s, Sent s (f a s)) (l : List α) (s : State) :
    Sent s (forEach l f s) := by
  unfold Machine.forEach
  induction l generalizing s with
  | nil => exact .refl s
  | cons a l ih => exact (hf a s).trans (ih _)

section
variable (s : State)

theorem State.setTb_sent {x : Timebase} (h : x.core = s.tb.core) : Sent s (s.setTb x) :=
  ⟨x, [], s.pcie, h, by rw [List.append_nil]; rfl⟩

theorem State.emit_sent (o : Output) : Sent s (s.emit o) := ⟨s.tb, [o], s.pcie, rfl, rfl⟩

theorem State.endClock_sent (t : State) : Sent t (s.endClock t) :=
  ⟨t.tb, [], { t.pcie with sent := s.pcie.sent }, rfl, by rw [List.append_nil]; rfl⟩

theorem State.nextSeq_sent (m : IrcMsg) : Sent s (s.nextSeq m) := s.setTb_sent rfl

theorem State.sendGroup_sent (except : Option Nat) (h : FrameHdr) (m : IrcMsg) : Sent s (s.sendGroup except h m) :=
  .forEach (fun _ u => u.emit_sent _) _ s

theorem State.sendLink_sent (p : Nat) (m : IrcMsg) : Sent s (s.sendLink p m) := (s.emit_sent _).trans (State.nextSeq_sent _ m)

theorem State.forward_sent (p : Nat) (h : FrameHdr) (m : IrcMsg) : Sent s (s.forward p h m) := by
  unfold State.forward
  split
  · exact .refl s
  · exact s.sendGroup_sent _ _ _

theorem State.flood_sent (m : IrcMsg) : Sent s (s.flood m) := by
  have hsent := (s.sendGroup_sent none (s.hdr m true 0) m).trans (State.nextSeq_sent _ m)
  unfold State.flood
  refine hsent.trans (State.setTb_sent _ ?_)
  split <;> rfl

theorem State.sendTo_sent (p dst : Nat) (m : IrcMsg) : Sent s (s.sendTo p dst m) := by
  have hsent := (s.emit_sent (.irc p (sealed (s.hdr m false dst) m) m)).trans (State.nextSeq_sent _ m)
  unfold State.sendTo
  refine hsent.trans (State.setTb_sent _ ?_)
  split <;> rfl

theorem State.ackTo_sent (p : Nat) (h : FrameHdr) (m : IrcMsg) : Sent s (s.ackTo p h m) := s.sendTo_sent _ _ _

theorem State.heard_sent (p : Nat) (h : FrameHdr) (m : IrcMsg) : Sent s (s.heard p h m) := by
  unfold State.heard
  dsimp only
  have hseen := s.setTb_sent (x := { s.tb with seen := ((h.src.val, ircType m, h.seq.toNat) :: s.tb.seen).take 4096 }) rfl
  split
  · exact .refl s
  · split
    · exact hseen.trans (State.forward_sent _ p h m)
    · exact hseen

/-- A frame to one device leaves on the port named. -/
theorem State.sendTo_out (p dst : Nat) (m : IrcMsg) :
    (s.sendTo p dst m).out = s.out ++ [.irc p (sealed (s.hdr m false dst) m) m] := rfl

end

section
variable {s t : State} (h : Sent s t)
include h

theorem Sent.core : t.tb.core = s.tb.core := by obtain ⟨x, l, p, hx, rfl⟩ := h; exact hx

/-- A field of the timebase that no frame counts in. -/
theorem Sent.field {α : Type} (g : Timebase → α) (hg : ∀ x, g x.core = g x) : g t.tb = g s.tb :=
  Timebase.of_core h.core g hg

theorem Sent.regs : t.regs = s.regs := by obtain ⟨x, l, p, hx, rfl⟩ := h; rfl
theorem Sent.irc : t.irc = s.irc := by obtain ⟨x, l, p, hx, rfl⟩ := h; rfl
theorem Sent.emits : s.out <+: t.out := by obtain ⟨x, l, p, hx, rfl⟩ := h; exact List.prefix_append _ _
theorem Sent.reg (o : Nat) : t.reg o = s.reg o := congrArg (Tab.get regReset · o) h.regs
theorem Sent.rd (f : Fld) : t.rd f = s.rd f := congrArg f.of (h.reg _)
theorem Sent.on (f : Fld) : t.on f = s.on f := congrArg (· != 0) (h.rd f)
theorem Sent.rd64 (o : Nat) : t.rd64 o = s.rd64 o := State.rd64_eq (h.reg _) (h.reg _)
theorem Sent.now : t.now = s.now := h.rd64 _
theorem Sent.rises : Rises s t := fun _ he => (h.rd _).trans he

theorem Sent.leaves : Leaves 0x10000080080000000000 s t := by
  obtain ⟨x, l, p, hx, rfl⟩ := h
  exact (((Leaves.refl _ s).upd_tb (by decide)).upd_out (by decide)).upd_pcie (by decide)

end

end Sys2Proof.Machine

namespace Sys2Proof.Machine

/-! ### Events and the timebase (R283) -/

theorem State.routeEvent_core (s : State) (e : Nat) (rose flood : Bool) : (s.routeEvent e rose flood).tb.core = s.tb.core := by
  have hmsix : (if s.on (F.EVT_ROUTE_MSIX_EN e) && rose then s.msix (s.rd (F.EVT_ROUTE_VECTOR e)) else s).tb = s.tb := by
    split
    · exact (State.msix_leaves (.refl 0x10000180000000000000 s) (by decide) _).same .tb (by decide)
    · rfl
  unfold State.routeEvent
  dsimp only
  rw [← hmsix]
  generalize (if s.on (F.EVT_ROUTE_MSIX_EN e) && rose then s.msix (s.rd (F.EVT_ROUTE_VECTOR e)) else s) = t
  have hlog : (if t.on (F.EVT_ROUTE_MC_EN e) then t.withMcLog (t.mcLog ++ [e]) else t).tb = t.tb := by split <;> rfl
  rw [← hlog]
  generalize (if t.on (F.EVT_ROUTE_MC_EN e) then t.withMcLog (t.mcLog ++ [e]) else t) = w
  split
  · exact (w.flood_sent _).core
  · rfl

theorem State.raise_core (s : State) (e : Nat) : (s.raise e).tb.core = s.tb.core := by
  have hwaits := State.countWaits_leaves (State.releaseWaits_leaves (.refl 0x10000000002000 s) (by decide) e) (by decide) e
  exact (State.routeEvent_core _ e _ true).trans (congrArg Timebase.core (hwaits.same .tb (by decide)))

theorem State.wr_tb (s : State) (f : Fld) (v : Nat) : (s.wr f v).tb = s.tb := State.withRegs_tb _ _

theorem State.bump_tb (s : State) (f : Fld) : (s.bump f).tb = s.tb := by
  unfold State.bump
  split
  · exact State.wr_tb _ _ _
  · rfl

/-! ### What is raised and sent stays raised and sent -/

/-- Every source pending in `s` is pending in `t`, and what has left the device stays sent. -/
structure Grows (s t : State) : Prop where
  rises : Rises s t
  emits : s.out <+: t.out

theorem Grows.refl (s : State) : Grows s s := ⟨.refl s, List.prefix_rfl⟩

theorem Grows.trans {s t u : State} (h : Grows s t) (k : Grows t u) : Grows s u := ⟨h.rises.trans k.rises, h.emits.trans k.emits⟩

theorem Grows.ite {s t u : State} {c : Prop} [Decidable c] (ht : Grows s t) (hu : Grows s u) : Grows s (if c then t else u) := by
  split
  · exact ht
  · exact hu

theorem Sent.grows {s t : State} (h : Sent s t) : Grows s t := ⟨h.rises, h.emits⟩

section
variable {s t : State} (h : Grows s t)
include h

theorem Grows.sent {u : State} (k : Sent t u) : Grows s u := h.trans k.grows

theorem Grows.raise (e : Nat) : Grows s (t.raise e) := ⟨h.rises.raise e, h.emits.trans (t.raise_emits e)⟩

theorem Grows.wr {f : Fld} (v : Nat) (hf : f.off < 0x40000 ∨ 0x50000 ≤ f.off) : Grows s (t.wr f v) :=
  ⟨h.rises.wr v hf, (State.wr_out t f v).symm ▸ h.emits⟩

theorem Grows.bump {f : Fld} (hf : f.off < 0x40000 ∨ 0x50000 ≤ f.off) : Grows s (t.bump f) := .ite (h.wr _ hf) h

/-- What stays within a mask that has neither the pending bits nor what is sent. -/
theorem Grows.leaves {m : Nat} {u : State} (k : Leaves m t u) (he : m.testBit Part.evtRegs.ctorIdx = false)
    (ho : m.testBit Part.out.ctorIdx = false) : Grows s u :=
  ⟨h.rises.leaves k he, (k.same .out ho : u.out = t.out).symm ▸ h.emits⟩

theorem Grows.setTb (x : Timebase) : Grows s (t.setTb x) :=
  h.leaves (State.setTb_leaves (.refl 0x80000000000 t) rfl x) (by decide) (by decide)

theorem Grows.mem_out {o : Output} (ho : o ∈ s.out) : o ∈ t.out := h.emits.subset ho

end

/-! ### The registers of the timebase beside STATUS -/

/-- Of the timebase's registers `t` differs from `s` in STATUS alone. -/
def StatusOnly (s t : State) : Prop := ∀ o, regPart o = .tbRegs → o ≠ 0x80004 → t.reg o = s.reg o

theorem StatusOnly.refl (s : State) : StatusOnly s s := fun _ _ _ => rfl

theorem StatusOnly.trans {s t u : State} (h : StatusOnly s t) (k : StatusOnly t u) : StatusOnly s u :=
  fun o hp ho => (k o hp ho).trans (h o hp ho)

theorem StatusOnly.ite {s t u : State} {c : Prop} [Decidable c] (ht : StatusOnly s t) (hu : StatusOnly s u) :
    StatusOnly s (if c then t else u) := by
  split
  · exact ht
  · exact hu

section
variable {s t : State} (h : StatusOnly s t)
include h

theorem StatusOnly.wr {f : Fld} (v : Nat) (hf : f.off = 0x80004) : StatusOnly s (t.wr f v) :=
  fun o hp ho => (t.reg_wr_ne v (hf ▸ ho)).trans (h o hp ho)

theorem StatusOnly.leaves {m : Nat} {u : State} (k : Leaves m t u) (hm : m.testBit Part.tbRegs.ctorIdx = false) : StatusOnly s u :=
  fun o hp ho => (k.reg (hp ▸ hm)).trans (h o hp ho)

theorem StatusOnly.raise (e : Nat) : StatusOnly s (t.raise e) :=
  h.leaves (State.raise_leaves (.refl 0x10001990080000002010 t) rfl e) (by decide)

theorem StatusOnly.sent {u : State} (k : Sent t u) : StatusOnly s u := h.leaves k.leaves (by decide)

theorem StatusOnly.setTb (x : Timebase) : StatusOnly s (t.setTb x) := h

theorem StatusOnly.rd {f : Fld} (hp : regPart f.off = .tbRegs) (hf : f.off ≠ 0x80004) : t.rd f = s.rd f :=
  congrArg f.of (h _ hp hf)

theorem StatusOnly.rd64 {o : Nat} (hp : regPart o = .tbRegs ∧ regPart (o + 4) = .tbRegs) (ho : o ≠ 0x80004 ∧ o ≠ 0x80000) :
    t.rd64 o = s.rd64 o := State.rd64_eq (h _ hp.1 ho.1) (h _ hp.2 (by omega))

theorem StatusOnly.now : t.now = s.now := h.rd64 (by decide) (by decide)

theorem StatusOnly.line : t.line = s.line := by
  rw [State.line, h.rd (f := F.TB_LINE_LO) rfl (by decide), h.rd (f := F.TB_LINE_HI) rfl (by decide), State.line]

end

/-! ### ROLE, ALIGNED and LINE (R156, R159, R177, R187) -/

section
variable (s : State)

theorem State.setRole_core (r : Nat) : (s.setRole r).tb.core = s.tb.core := by
  unfold State.setRole
  split
  · rfl
  · exact (State.raise_core _ _).trans (congrArg Timebase.core (s.wr_tb _ _))

theorem State.setRole_grows (r : Nat) : Grows s (s.setRole r) :=
  .ite (.refl s) (((Grows.refl s).wr r (.inr (by decide))).raise _)

theorem State.setRole_status (r : Nat) : StatusOnly s (s.setRole r) := .ite (.refl s) (((StatusOnly.refl s).wr r rfl).raise _)

theorem State.setRole_rd (r : Nat) {f : Fld} (hp : regPart f.off = .tbRegs) (hf : F.TB_STATUS_ROLE.clear f = true) :
    (s.setRole r).rd f = s.rd f := by
  unfold State.setRole
  split
  · rfl
  · exact (State.rd_raise _ _ hp rfl).trans (s.rd_wr_clear r hf)

theorem State.setRole_role {r : Nat} (hr : r < 4) : (s.setRole r).role = r := by
  unfold State.setRole
  split
  · assumption
  · exact (State.rd_raise _ _ F.TB_STATUS_ROLE_part rfl).trans (s.rd_wr_fit _ _ (by decide) hr)

theorem State.setRole_pends {r : Nat} (hr : s.role ≠ r) : Pends (s.setRole r) Ev.TB_ROLE := by
  rw [State.setRole, if_neg hr]
  exact State.rd_raise_self _ _

theorem State.setAligned_core (b : Bool) : (s.setAligned b).tb.core = s.tb.core := by
  unfold State.setAligned
  split
  · rfl
  · exact (State.raise_core _ _).trans (congrArg Timebase.core (s.wr_tb _ _))

theorem State.setAligned_grows (b : Bool) : Grows s (s.setAligned b) :=
  .ite (.refl s) (((Grows.refl s).wr _ (.inr (by decide))).raise _)

theorem State.setAligned_status (b : Bool) : StatusOnly s (s.setAligned b) :=
  .ite (.refl s) (((StatusOnly.refl s).wr _ rfl).raise _)

theorem State.setAligned_rd (b : Bool) {f : Fld} (hp : regPart f.off = .tbRegs) (hf : F.TB_STATUS_ALIGNED.clear f = true) :
    (s.setAligned b).rd f = s.rd f := by
  unfold State.setAligned
  split
  · rfl
  · exact (State.rd_raise _ _ hp rfl).trans (s.rd_wr_clear _ hf)

theorem State.setAligned_on (b : Bool) : (s.setAligned b).on F.TB_STATUS_ALIGNED = b := by
  unfold State.setAligned
  split
  · assumption
  · have hrd : ((s.wr F.TB_STATUS_ALIGNED (b2n b)).raise Ev.TB_ALIGN).rd F.TB_STATUS_ALIGNED = b2n b :=
      (State.rd_raise _ _ F.TB_STATUS_ALIGNED_part rfl).trans (s.rd_wr_fit _ _ (by decide) (by cases b <;> decide))
    rw [State.on, hrd]
    cases b <;> rfl

theorem State.setAligned_pends {b : Bool} (hb : s.on F.TB_STATUS_ALIGNED ≠ b) : Pends (s.setAligned b) Ev.TB_ALIGN := by
  rw [State.setAligned, if_neg hb]
  exact State.rd_raise_self _ _

theorem State.line_setLine {l : Nat} (hl : l < 2 ^ 48) : (s.setLine l).line = l := by
  have hlo : (s.setLine l).rd F.TB_LINE_LO = l % 2 ^ 32 :=
    (State.rd_wr_other _ _ _ _ (by decide)).trans (s.rd_wr_fit _ _ (by decide) (Nat.mod_lt _ (by decide)))
  have hhi : (s.setLine l).rd F.TB_LINE_HI = l / 2 ^ 32 :=
    State.rd_wr_fit _ _ _ (by decide) (Nat.div_lt_of_lt_mul hl)
  rw [State.line, hlo, hhi]
  omega

theorem State.setLine_rd (l : Nat) {f : Fld} (hf : f.off ≠ 0x80020 ∧ f.off ≠ 0x80024) : (s.setLine l).rd f = s.rd f :=
  (State.rd_setReg_ne _ _ f hf.2).trans (State.rd_setReg_ne _ _ f hf.1)

theorem State.setLine_grows (l : Nat) : Grows s (s.setLine l) := ((Grows.refl s).wr _ (.inr (by decide))).wr _ (.inr (by decide))

theorem State.setLine_tb (l : Nat) : (s.setLine l).tb = s.tb := (State.wr_tb _ _ _).trans (s.wr_tb _ _)

end

end Sys2Proof.Machine

namespace Sys2Proof.Machine

/-! ### Epochs and frames (R171, R173) -/

section
variable {s t : State} (h : Sent s t)
include h

theorem Sent.epochAt (x : Nat) : t.epochAt x = s.epochAt x := by
  have hpend : t.tb.pendEpochs = s.tb.pendEpochs := h.field (·.pendEpochs) fun _ => rfl
  rw [State.epochAt, hpend, h.rd, State.epochAt]

theorem Sent.nextGroup : t.nextGroup = s.nextGroup := by
  have hpend : t.tb.pendEpochs = s.tb.pendEpochs := h.field (·.pendEpochs) fun _ => rfl
  have hhops : t.tb.memberHops = s.tb.memberHops := h.field (·.memberHops) fun _ => rfl
  have hheard : t.tb.heardHops = s.tb.heardHops := h.field (·.heardHops) fun _ => rfl
  rw [State.nextGroup, hpend, hhops, hheard, State.members, h.rd64, State.nextGroup, State.members]

theorem Sent.groupPorts : t.groupPorts = s.groupPorts := by simp only [State.groupPorts, h.rd]

theorem Sent.ircp (p : Nat) : t.ircp p = s.ircp p := congrArg (Tab.get (fun _ => IrcPort.init) · p) h.irc

theorem Sent.real : t.real = s.real := by
  have hstep : t.tb.stepped = s.tb.stepped := h.field (·.stepped) fun _ => rfl
  rw [State.real, h.now, hstep, State.real]

end

section
variable (s : State) (map : Nat) (hops : List (Nat × Nat)) (step : Nat)

/-- The epoch that the master issues now (R171, R173). -/
def State.epochOf : PendingEpoch :=
  ⟨(s.tb.maxEpoch.getD 0 + 1) % 2 ^ 16, s.now + 100000 + (s.epochAt (s.now + 100000)).2, map,
    hops.filter fun x => bit map x.1, step, s.myId⟩

theorem State.issueEpoch_sends : ∃ t, Sent s t ∧ s.issueEpoch map hops step =
    t.setTb { t.tb with maxEpoch := some (s.epochOf map hops step).num, pendEpochs := t.tb.pendEpochs ++ [s.epochOf map hops step] } := by
  let m := IrcMsg.epoch (BitVec.ofNat 16 ((s.tb.maxEpoch.getD 0 + 1) % 2 ^ 16))
    (BitVec.ofNat 64 (s.now + 100000 + (s.epochAt (s.now + 100000)).2)) (BitVec.ofNat 64 map)
    ((hops.filter fun x => bit map x.1).map fun x => (Fin.ofNat 64 x.1, Fin.ofNat 16 x.2)) (BitVec.ofNat 64 step)
  have hid : (s.flood m).myId = s.myId := (s.flood_sent m).rd _
  refine ⟨s.flood m, s.flood_sent m, ?_⟩
  rw [State.epochOf, ← hid]
  rfl

theorem State.issueEpoch_core : (s.issueEpoch map hops step).tb.core = { s.tb.core with
    maxEpoch := some (s.epochOf map hops step).num, pendEpochs := s.tb.pendEpochs ++ [s.epochOf map hops step] } := by
  obtain ⟨t, ht, heq⟩ := s.issueEpoch_sends map hops step
  have hpend : t.tb.pendEpochs = s.tb.pendEpochs := ht.field (·.pendEpochs) fun _ => rfl
  rw [heq, ← ht.core, ← hpend]
  rfl

theorem State.issueEpoch_pend : (s.issueEpoch map hops step).tb.pendEpochs = s.tb.pendEpochs ++ [s.epochOf map hops step] :=
  congrArg Timebase.pendEpochs (s.issueEpoch_core map hops step)

theorem State.issueEpoch_regs : (s.issueEpoch map hops step).regs = s.regs := by
  obtain ⟨t, ht, heq⟩ := s.issueEpoch_sends map hops step
  rw [heq]
  exact ht.regs

theorem State.issueEpoch_irc : (s.issueEpoch map hops step).irc = s.irc := by
  obtain ⟨t, ht, heq⟩ := s.issueEpoch_sends map hops step
  rw [heq]
  exact ht.irc

theorem State.issueEpoch_grows : Grows s (s.issueEpoch map hops step) := by
  obtain ⟨t, ht, heq⟩ := s.issueEpoch_sends map hops step
  rw [heq]
  exact ht.grows.setTb _

theorem State.issueEpoch_rd (f : Fld) : (s.issueEpoch map hops step).rd f = s.rd f :=
  congrArg (fun r => f.of (Tab.get regReset r f.off)) (s.issueEpoch_regs map hops step)

end

section
variable {s t : State} (h : Sent s t)
include h

theorem Sent.epochOf (map : Nat) (hops : List (Nat × Nat)) (step : Nat) : t.epochOf map hops step = s.epochOf map hops step := by
  have hmax : t.tb.maxEpoch = s.tb.maxEpoch := h.field (·.maxEpoch) fun _ => rfl
  have hid : t.myId = s.myId := h.rd _
  simp only [State.epochOf, hmax, h.now, h.epochAt, hid]

theorem Sent.neighbours : t.neighbours = s.neighbours := by simp only [State.neighbours, h.groupPorts, h.rd]

theorem Sent.linksOf (a : Nat) : t.linksOf a = s.linksOf a := by
  have hid : t.myId = s.myId := h.rd _
  have hheard : t.tb.heardLinks = s.tb.heardLinks := h.field (·.heardLinks) fun _ => rfl
  rw [State.linksOf, hid, h.neighbours, hheard, State.linksOf]

theorem Sent.joined : t.joined = s.joined := by
  funext a b
  rw [State.joined, h.linksOf, h.linksOf, State.joined]

theorem Sent.reachable (map : Nat) : t.reachable map = s.reachable map := by
  have hid : t.myId = s.myId := h.rd _
  rw [State.reachable, h.joined, hid, State.reachable]

theorem Sent.takesEpoch (src num : Nat) : t.takesEpoch src num = s.takesEpoch src num := by
  have hpend : t.tb.pendEpochs = s.tb.pendEpochs := h.field (·.pendEpochs) fun _ => rfl
  have hmax : t.tb.maxEpoch = s.tb.maxEpoch := h.field (·.maxEpoch) fun _ => rfl
  have hin : t.tb.inEpoch = s.tb.inEpoch := h.field (·.inEpoch) fun _ => rfl
  rw [State.takesEpoch, hpend, hmax, hin, h.on, h.rd, h.rd, State.takesEpoch]

end

/-! ### Elections (R170) -/

section
variable (s : State)

theorem State.enterElection_core : s.enterElection.tb.core = Timebase.core { s.tb with
    bestKey := min s.myKey (s.tb.heardKey.getD s.myKey), electOld := s.tb.electOld || s.tb.inEpoch, inEpoch := false } := by
  refine (State.flood_sent _ _).core.trans ((State.setRole_core _ _).trans ?_)
  rw [State.wr_tb]
  rfl

theorem State.enterElection_role : s.enterElection.role = 1 := ((State.flood_sent _ _).rd _).trans (State.setRole_role _ (by decide))

theorem State.enterElection_electing : s.enterElection.on F.TB_STATUS_ELECTING = true := by
  refine ((State.flood_sent _ _).on _).trans ?_
  rw [State.on, State.setRole_rd _ _ rfl rfl, State.rd_wr_fit _ _ _ (by decide) (by decide)]
  rfl

theorem State.enterElection_grows : Grows s s.enterElection :=
  ((((Grows.refl s).setTb _).wr 1 (.inr (by decide))).trans (State.setRole_grows _ 1)).sent (State.flood_sent _ _)

theorem State.enterElection_pends (h : s.role ≠ 1) : Pends s.enterElection Ev.TB_ROLE := by
  refine (State.flood_sent _ _).rises _ (State.setRole_pends _ ?_)
  rw [State.role, State.rd_wr_clear _ _ rfl]
  exact h

/-- An epoch number that is heard of replaces the highest so far where it is newer (R170). -/
theorem State.sawEpoch_eq (n : Nat) : s.sawEpoch n = s.setTb { s.tb with
    maxEpoch := some (s.tb.maxEpoch.elim n fun m => if newerEpoch n m then n else m) } := by
  unfold State.sawEpoch
  cases hmax : s.tb.maxEpoch with
  | none => rfl
  | some m =>
    simp only [Option.elim]
    split
    · rfl
    · rw [← hmax]
      rfl

/-- What ELECT names is kept. -/
theorem State.heardElect_eq (h : FrameHdr) (key time : Nat) : s.heardElect h key time = s.setTb { s.tb with
    heardKey := some (min key (s.tb.heardKey.getD key))
    electors := (h.src.val, h.hops.val + 1) :: s.tb.electors.filter fun e => e.1 != h.src.val
    electTime := max s.tb.electTime time
    electOld := s.tb.electOld || h.epoch != 0
    maxEpoch := if h.epoch = 0 then s.tb.maxEpoch
      else some (s.tb.maxEpoch.elim h.epoch.toNat fun m => if newerEpoch h.epoch.toNat m then h.epoch.toNat else m) } := by
  unfold State.heardElect
  dsimp only
  split
  · rfl
  · rw [State.sawEpoch_eq]
    rfl

end

/-! ### Commands of a live device and the frames it takes (R164–R168) -/

/-- What holds of every state that a command of a live device leaves, up to frames. -/
theorem Runs.live {c : Instr} {s : State} {P : State → Prop} {f : State → State} (hl : s.live = true)
    (hexec : exec c s = act s f) (hP : ∀ u, Sent (f s) u → P u) : Runs c s P :=
  .of (hexec.trans (act_live hl f)) (hP _ (s.endClock_sent _))

/-- A command that changes nothing. -/
theorem Runs.idle {c : Instr} {s : State} {f : State → State} (hl : s.live = true) (hexec : exec c s = act s f) (hf : f s = s) :
    Runs c s fun u => u = s :=
  .of (hexec.trans (act_live hl f)) (by rw [hf]; rfl)

section
variable {s : State} {p : Nat} {h : FrameHdr} {m : IrcMsg} {release : Nat} (hh : s.hears p h m release) (f : State → State)
include hh

/-- A frame that a port takes acts once its copies count as seen; a flooded one goes on too. -/
theorem State.receive_hears (hty : 4 ≤ ircType m ∧ ircType m ≠ 15) : s.receive p h m release f =
    if h.bcast then (s.setTb { s.tb with seen := ((h.src.val, ircType m, h.seq.toNat) :: s.tb.seen).take 4096 }).takeAndForward p h m f
    else f (s.setTb { s.tb with seen := ((h.src.val, ircType m, h.seq.toNat) :: s.tb.seen).take 4096 }) := by
  obtain ⟨hlink, hmal, hstale, hnew⟩ := hh
  obtain ⟨hseen, hdst⟩ := hnew hty
  have hgroup : (decide (ircType m ≤ 3) || ircType m == 15) = false := by
    simp only [Bool.or_eq_false_iff, decide_eq_false_iff_not, beq_eq_false_iff_ne]
    omega
  simp only [State.receive, hlink, hmal, hstale, hgroup, hseen, Bool.not_true, Bool.false_eq_true, if_false]
  cases hb : h.bcast with
  | true => rfl
  | false =>
    have hme : h.dst.val = s.myId := by simpa [hb] using hdst
    simp only [Bool.false_eq_true, if_false]
    exact if_pos hme

/-- TRIGGER, FAR and EVENT act in the state in which they have gone on. -/
theorem State.receive_atOnce (hty : 11 ≤ ircType m ∧ ircType m ≤ 13) : s.receive p h m release f = f (s.heard p h m) := by
  have hgroup : ¬(ircType m ≤ 3 ∨ ircType m = 15) := by omega
  rw [State.receive_hears hh f (by omega), State.heard, if_neg hgroup, State.takeAndForward]
  simp only [hty, decide_true, Bool.and_self, if_true]
  split <;> rfl

variable (hty : 4 ≤ ircType m ∧ ircType m ≤ 10)
include hty

/-- The other frames of a group act between the two. -/
theorem State.receive_acts : ∃ t, Sent s t ∧ Sent (f t) (s.receive p h m release f) := by
  have hseen := s.setTb_sent (x := { s.tb with seen := ((h.src.val, ircType m, h.seq.toNat) :: s.tb.seen).take 4096 }) rfl
  have hlate : (decide (11 ≤ ircType m) && decide (ircType m ≤ 13)) = false := by
    simp only [Bool.and_eq_false_iff, decide_eq_false_iff_not]
    omega
  refine ⟨_, hseen, ?_⟩
  rw [State.receive_hears hh f (by omega)]
  split
  · rw [State.takeAndForward, hlate]
    exact State.forward_sent _ p h m
  · exact .refl _

/-- A frame that its device ignores has only gone on. -/
theorem State.receive_ignored (hf : ∀ t, Sent s t → f t = t) : s.receive p h m release f = s.heard p h m := by
  have hseen := s.setTb_sent (x := { s.tb with seen := ((h.src.val, ircType m, h.seq.toNat) :: s.tb.seen).take 4096 }) rfl
  have hgroup : ¬(ircType m ≤ 3 ∨ ircType m = 15) := by omega
  have hlate : (decide (11 ≤ ircType m) && decide (ircType m ≤ 13)) = false := by
    simp only [Bool.and_eq_false_iff, decide_eq_false_iff_not]
    omega
  rw [State.receive_hears hh f (by omega), State.heard, if_neg hgroup, State.takeAndForward, hlate, hf _ hseen]
  simp only [Bool.false_eq_true, if_false]

end

/-- What a frame of a group does, before and after it has gone on. -/
theorem Runs.hears {c : Instr} {s : State} {P : State → Prop} {p : Nat} {h : FrameHdr} {m : IrcMsg} {release : Nat}
    {f : State → State} (hl : s.live = true) (hexec : exec c s = act s fun s => s.receive p h m release f)
    (hh : s.hears p h m release) (hty : 4 ≤ ircType m ∧ ircType m ≤ 10) (hP : ∀ t u, Sent s t → Sent (f t) u → P u) : Runs c s P := by
  obtain ⟨t, ht, hv⟩ := State.receive_acts hh f hty
  exact .live hl hexec fun u hu => hP t u ht (hv.trans hu)

theorem State.heard_clock (s : State) (p : Nat) (h : FrameHdr) (m : IrcMsg) : s.endClock (s.heard p h m) = s.heard p h m := by
  have hpcie : (s.heard p h m).pcie = s.pcie := by
    unfold State.heard
    dsimp only
    split
    · rfl
    · split
      · exact (State.forward_leaves (.refl 0x10000000000000000000 _) rfl p h m).same .pcie (by decide)
      · rfl
  rw [State.endClock, hpcie]
  exact congrArg (State.withPcie (s.heard p h m)) hpcie.symm

/-- What a frame that its device ignores leaves. -/
theorem Runs.ignored {c : Instr} {s : State} {p : Nat} {h : FrameHdr} {m : IrcMsg} {release : Nat}
    {f : State → State} (hl : s.live = true) (hexec : exec c s = act s fun s => s.receive p h m release f)
    (hrec : s.receive p h m release f = s.heard p h m) : Runs c s fun u => u = s.heard p h m :=
  .of (hexec.trans (act_live hl _)) (by rw [hrec, State.heard_clock])

end Sys2Proof.Machine

namespace Sys2Proof.Machine

/-! ### A tick samples the encoder (R149) -/

theorem pinFilter_held (filt run : Nat) (level : Bool) : pinFilter filt level run level = (level, 0) := if_pos rfl

theorem pinFilter_shorter {filt run : Nat} {level pin : Bool} (hp : pin ≠ level) (hr : run + 1 < max 1 filt) :
    pinFilter filt level run pin = (level, run + 1) := by
  rw [pinFilter, if_neg hp, if_neg (by omega)]

theorem pinFilter_accepted {filt run : Nat} {level pin : Bool} (hp : pin ≠ level) (hr : max 1 filt ≤ run + 1) :
    pinFilter filt level run pin = (pin, 0) := by
  rw [pinFilter, if_neg hp, if_pos hr]

/-- The state in which a tick has sampled ENC_A and ENC_B, before the levels it accepts are decoded. -/
def State.sampled (s : State) (a b : Bool) : State := s.setTb { s.tb with
  pinA := a, pinB := b
  encA := (pinFilter (s.rd F.TB_ENC_CFG_FILT) s.tb.encA s.tb.runA a).1
  runA := (pinFilter (s.rd F.TB_ENC_CFG_FILT) s.tb.encA s.tb.runA a).2
  encB := (pinFilter (s.rd F.TB_ENC_CFG_FILT) s.tb.encB s.tb.runB b).1
  runB := (pinFilter (s.rd F.TB_ENC_CFG_FILT) s.tb.encB s.tb.runB b).2
  firstA := if s.tb.runA = 0 then s.real else s.tb.firstA
  firstB := if s.tb.runB = 0 then s.real else s.tb.firstB }

/-- What the levels that a sample accepts do. -/
def State.decoded (s : State) (a b : Bool) : State := (s.sampled a b).decodeEdges
  (s.sampled a b).tb.encA (s.sampled a b).tb.encB ((s.sampled a b).tb.encA != s.tb.encA) ((s.sampled a b).tb.encB != s.tb.encB)

theorem exec_encoderEdge {s : State} (hl : s.live = true) (a b : Bool) :
    exec (.encoderEdge a b) s = .next (s.endClock (s.decoded a b)) := by
  have hon : s.spineOn = true := by
    simp only [State.live, Bool.and_eq_true] at hl
    exact hl.1
  simp only [exec, execEncoderEdge, hon, Bool.not_true, Bool.false_and, Bool.false_eq_true, if_false, act_live hl]
  rfl

/-! ### What accepted levels do (R150, R151) -/

/-- An illegal transition (R151). -/
def State.illegalTransition (s : State) : State :=
  ((s.bump F.TB_ENC_ERR_CNT_COUNT).wr F.TB_STATUS_ENC_ERR 1).raise Ev.TB_ENC_ERR

/-- The direction of an accepted edge, of ENC_A where `ca` (R150). -/
def State.direction (s : State) (a b ca : Bool) : Bool := xor (if ca then a != b else a == b) (s.on F.TB_ENC_CFG_DIR_INV)

/-- Does the mode count an accepted edge in a direction (R150)? -/
def State.modeCounts (s : State) (a ca fwd : Bool) : Bool :=
  !(decide (s.rd F.TB_ENC_CFG_MODE = 1) && !ca || decide (s.rd F.TB_ENC_CFG_MODE = 2) && !(ca && a == fwd))

section
variable {s : State} {a b ca cb : Bool}

theorem State.decodeEdges_off (he : s.on F.TB_CTRL_ENC_EN = false) : s.decodeEdges a b ca cb = s := by
  simp [State.decodeEdges, he]

theorem State.decodeEdges_none : s.decodeEdges a b false false = s := by
  simp [State.decodeEdges]

theorem State.decodeEdges_both (he : s.on F.TB_CTRL_ENC_EN = true) : s.decodeEdges a b true true = s.illegalTransition := by
  simp [State.decodeEdges, he, State.illegalTransition]

/-- An accepted edge of one input is a count where the mode counts it. -/
theorem State.decodeEdges_one (he : s.on F.TB_CTRL_ENC_EN = true) : s.decodeEdges a b ca (!ca) =
    if s.modeCounts a ca (s.direction a b ca) then
      s.acceptCount (s.direction a b ca) (if ca then s.tb.firstA else s.tb.firstB) else s := by
  unfold State.decodeEdges
  rw [he]
  cases hm : s.modeCounts a ca (s.direction a b ca) with
  | true =>
    have hskips := (Bool.not_eq_true' _).mp hm
    cases ca <;> exact if_neg (Bool.not_eq_true _ ▸ hskips)
  | false =>
    have hskips := (Bool.not_eq_false' _).mp hm
    cases ca <;> exact if_pos hskips

/-- The mode counts none of these edges. -/
theorem State.decodeEdges_uncounted (hm : s.modeCounts a ca (s.direction a b ca) = false) : s.decodeEdges a b ca (!ca) = s := by
  cases he : s.on F.TB_CTRL_ENC_EN with
  | false => exact State.decodeEdges_off he
  | true => rw [State.decodeEdges_one he, hm]; rfl

end

/-- The mode counts every edge that it does not leave to another input or direction. -/
theorem State.modeCounts_iff {s : State} {a ca fwd : Bool} : s.modeCounts a ca fwd = true ↔
    (s.rd F.TB_ENC_CFG_MODE = 1 → ca = true) ∧ (s.rd F.TB_ENC_CFG_MODE = 2 → ca = true ∧ a = fwd) := by
  simp [State.modeCounts, imp_iff_not_or]

/-! ### The clauses of the encoder -/

section
variable {s : State} {a b a1 b1 : Bool} (ha : (pinFilter (s.rd F.TB_ENC_CFG_FILT) s.tb.encA s.tb.runA a).1 = a1)
  (hb : (pinFilter (s.rd F.TB_ENC_CFG_FILT) s.tb.encB s.tb.runB b).1 = b1)
include ha hb

theorem State.decoded_levels : s.decoded a b = (s.sampled a b).decodeEdges a1 b1 (a1 != s.tb.encA) (b1 != s.tb.encB) := by
  have hA : (s.sampled a b).tb.encA = a1 := ha
  have hB : (s.sampled a b).tb.encB = b1 := hb
  rw [State.decoded, hA, hB]

/-- Both levels change: an illegal transition. -/
theorem State.decoded_both (he : s.on F.TB_CTRL_ENC_EN = true) (hA : a1 ≠ s.tb.encA) (hB : b1 ≠ s.tb.encB) :
    s.decoded a b = (s.sampled a b).illegalTransition := by
  rw [State.decoded_levels ha hb, bne_iff_ne.2 hA, bne_iff_ne.2 hB]
  exact State.decodeEdges_both he

/-- One level changes: a count, where the mode counts it. -/
theorem State.decoded_counted {ca fwd : Bool} {first : Nat} (he : s.on F.TB_CTRL_ENC_EN = true) (hA : (a1 != s.tb.encA) = ca)
    (hB : (b1 != s.tb.encB) = !ca) (hf : s.direction a1 b1 ca = fwd) (hm : s.modeCounts a1 ca fwd = true)
    (hfirst : (if (if ca then s.tb.runA else s.tb.runB) = 0 then s.real else if ca then s.tb.firstA else s.tb.firstB) = first) :
    s.decoded a b = (s.sampled a b).acceptCount fwd first := by
  have hdir : (s.sampled a b).direction a1 b1 ca = fwd := hf
  have hcounts : (s.sampled a b).modeCounts a1 ca fwd = true := hm
  have hsince : (if ca then (s.sampled a b).tb.firstA else (s.sampled a b).tb.firstB) = first := by
    rw [← hfirst]
    cases ca <;> rfl
  rw [State.decoded_levels ha hb, hA, hB, State.decodeEdges_one (s := s.sampled a b) he, hdir, hcounts, hsince]
  rfl

/-- Where nothing is decoded, a sample leaves its levels and nothing else. -/
theorem State.decoded_quiet (hq : s.on F.TB_CTRL_ENC_EN = false ∨ (a1 = s.tb.encA ∧ b1 = s.tb.encB) ∨
      (a1 = s.tb.encA ∧ (s.rd F.TB_ENC_CFG_MODE = 1 ∨ s.rd F.TB_ENC_CFG_MODE = 2)) ∨
      (b1 = s.tb.encB ∧ s.rd F.TB_ENC_CFG_MODE = 2 ∧ a1 ≠ xor (a1 != b1) (s.on F.TB_ENC_CFG_DIR_INV))) :
    s.decoded a b = s.sampled a b := by
  rw [State.decoded_levels ha hb]
  obtain hoff | hq := hq
  · exact State.decodeEdges_off hoff
  cases hA : a1 != s.tb.encA <;> cases hB : b1 != s.tb.encB
  case false.false => exact State.decodeEdges_none
  case true.true =>
    have hA' : a1 ≠ s.tb.encA := bne_iff_ne.1 hA
    have hB' : b1 ≠ s.tb.encB := bne_iff_ne.1 hB
    obtain ⟨h, -⟩ | ⟨h, -⟩ | ⟨h, -⟩ := hq
    · exact absurd h hA'
    · exact absurd h hA'
    · exact absurd h hB'
  case false.true =>
    have hB' : b1 ≠ s.tb.encB := bne_iff_ne.1 hB
    have hmode : s.rd F.TB_ENC_CFG_MODE = 1 ∨ s.rd F.TB_ENC_CFG_MODE = 2 := by
      obtain ⟨-, h⟩ | ⟨-, h⟩ | ⟨h, -⟩ := hq
      · exact absurd h hB'
      · exact h
      · exact absurd h hB'
    refine State.decodeEdges_uncounted (ca := false) ?_
    rw [← Bool.not_eq_true, State.modeCounts_iff]
    rintro ⟨h1, h2⟩
    obtain hm | hm := hmode
    · exact absurd (h1 hm) (by decide)
    · exact absurd (h2 hm).1 (by decide)
  case true.false =>
    have hA' : a1 ≠ s.tb.encA := bne_iff_ne.1 hA
    refine State.decodeEdges_uncounted (ca := true) ?_
    rw [← Bool.not_eq_true, State.modeCounts_iff]
    rintro ⟨-, h2⟩
    obtain ⟨h, -⟩ | ⟨h, -⟩ | ⟨-, hm, hne⟩ := hq
    · exact absurd h hA'
    · exact absurd h hA'
    · exact hne (h2 hm).2

end

/-- LINE is its two registers. -/
theorem State.line_eq {s t : State} (hlo : t.reg 0x80020 = s.reg 0x80020) (hhi : t.reg 0x80024 = s.reg 0x80024) : t.line = s.line := by
  have hlo' : t.rd F.TB_LINE_LO = s.rd F.TB_LINE_LO := congrArg F.TB_LINE_LO.of hlo
  have hhi' : t.rd F.TB_LINE_HI = s.rd F.TB_LINE_HI := congrArg F.TB_LINE_HI.of hhi
  rw [State.line, hlo', hhi', State.line]

/-! ### An illegal transition (R151) -/

section
variable (s : State)

theorem State.illegalTransition_core : s.illegalTransition.tb.core = s.tb.core := by
  rw [State.illegalTransition, State.raise_core, State.wr_tb, State.bump_tb]

theorem State.illegalTransition_counted : Counted s s.illegalTransition F.TB_ENC_ERR_CNT_COUNT := by
  refine (State.rd_raise _ _ F.TB_ENC_ERR_CNT_COUNT_part rfl).trans ?_
  rw [State.rd_wr_other _ _ _ _ (by decide), s.rd_bump _ (by decide)]

theorem State.illegalTransition_flag : s.illegalTransition.rd F.TB_STATUS_ENC_ERR = 1 :=
  (State.rd_raise _ _ F.TB_STATUS_ENC_ERR_part rfl).trans (State.rd_wr_fit _ _ _ (by decide) (by decide))

theorem State.illegalTransition_reg {o : Nat} (hp : regPart o = .tbRegs) (hc : o ≠ F.TB_ENC_ERR_CNT_COUNT.off)
    (hf : o ≠ F.TB_STATUS_ENC_ERR.off) : s.illegalTransition.reg o = s.reg o := by
  have hraise := State.raise_leaves (.refl 0x10001990080000002010 ((s.bump F.TB_ENC_ERR_CNT_COUNT).wr F.TB_STATUS_ENC_ERR 1)) rfl
    Ev.TB_ENC_ERR
  refine (hraise.reg (by rw [hp]; decide)).trans ?_
  rw [State.reg_wr_ne _ _ hf, State.reg_bump_ne _ hc]

end

/-! ### The clauses of the encoder -/

/-- Accepted levels leave the timebase as it was but for the counts that wait. -/
theorem State.decodeEdges_core (s : State) (a b ca cb : Bool) :
    ∃ l, (s.decodeEdges a b ca cb).tb.core = { s.tb.core with counts := l } := by
  unfold State.decodeEdges
  dsimp only
  generalize xor (if ca then a != b else a == b) (s.on F.TB_ENC_CFG_DIR_INV) = fwd
  generalize (if ca then s.tb.firstA else s.tb.firstB) = first
  split
  · exact ⟨_, rfl⟩
  · split
    · exact ⟨_, s.illegalTransition_core⟩
    · split
      · exact ⟨_, rfl⟩
      · split
        · exact ⟨_, rfl⟩
        · exact ⟨_, rfl⟩

theorem State.decoded_core (s : State) (a b : Bool) : ∃ l, (s.decoded a b).tb.core = { (s.sampled a b).tb.core with counts := l } :=
  State.decodeEdges_core _ _ _ _ _

section
variable {s : State} {a b : Bool} (hl : s.live = true)
include hl

theorem runs_encoderEdge_both (he : s.on F.TB_CTRL_ENC_EN = true)
    (hA : (pinFilter (s.rd F.TB_ENC_CFG_FILT) s.tb.encA s.tb.runA a).1 ≠ s.tb.encA)
    (hB : (pinFilter (s.rd F.TB_ENC_CFG_FILT) s.tb.encB s.tb.runB b).1 ≠ s.tb.encB) :
    Runs (.encoderEdge a b) s fun u => u = s.endClock (s.sampled a b).illegalTransition :=
  .of (exec_encoderEdge hl a b) (by rw [State.decoded_both rfl rfl he hA hB])

theorem runs_encoderEdge_counted {a1 b1 fwd : Bool} {first : Nat} (he : s.on F.TB_CTRL_ENC_EN = true)
    (ha : (pinFilter (s.rd F.TB_ENC_CFG_FILT) s.tb.encA s.tb.runA a).1 = a1)
    (hb : (pinFilter (s.rd F.TB_ENC_CFG_FILT) s.tb.encB s.tb.runB b).1 = b1) (hone : (a1 != s.tb.encA) = !(b1 != s.tb.encB))
    (hf : (xor (if a1 != s.tb.encA then a1 != b1 else a1 == b1) (s.on F.TB_ENC_CFG_DIR_INV) = fwd))
    (h1 : s.rd F.TB_ENC_CFG_MODE = 1 → (a1 != s.tb.encA) = true)
    (h2 : s.rd F.TB_ENC_CFG_MODE = 2 → (a1 != s.tb.encA) = true ∧ a1 = fwd)
    (hfirst : (if (if a1 != s.tb.encA then s.tb.runA else s.tb.runB) = 0 then s.real else if a1 != s.tb.encA then
      s.tb.firstA else s.tb.firstB) = first) :
    Runs (.encoderEdge a b) s fun u =>
      u.tb.counts = s.tb.counts ++ [(fwd, first + 16 * (max 1 (s.rd F.TB_ENC_CFG_FILT) + 16))] ∧
      (u.tb.encA = a1 ∧ u.tb.encB = b1) ∧
      u.regs = s.regs := by
  have hB : (b1 != s.tb.encB) = !(a1 != s.tb.encA) := by rw [hone, Bool.not_not]
  refine .of (exec_encoderEdge hl a b) ?_
  rw [State.decoded_counted ha hb he rfl hB hf (State.modeCounts_iff.2 ⟨h1, h2⟩) hfirst]
  exact ⟨rfl, ⟨ha, hb⟩, rfl⟩

theorem runs_encoderEdge_quiet {a1 b1 : Bool} (ha : (pinFilter (s.rd F.TB_ENC_CFG_FILT) s.tb.encA s.tb.runA a).1 = a1)
    (hb : (pinFilter (s.rd F.TB_ENC_CFG_FILT) s.tb.encB s.tb.runB b).1 = b1)
    (hq : s.on F.TB_CTRL_ENC_EN = false ∨ (a1 = s.tb.encA ∧ b1 = s.tb.encB) ∨
      (a1 = s.tb.encA ∧ (s.rd F.TB_ENC_CFG_MODE = 1 ∨ s.rd F.TB_ENC_CFG_MODE = 2)) ∨
      (b1 = s.tb.encB ∧ s.rd F.TB_ENC_CFG_MODE = 2 ∧ a1 ≠ xor (a1 != b1) (s.on F.TB_ENC_CFG_DIR_INV))) :
    Runs (.encoderEdge a b) s fun u => u = s.sampled a b :=
  .of (exec_encoderEdge hl a b) (by rw [State.decoded_quiet ha hb hq]; rfl)

/-- A level held for fewer than FILT samples leaves only the count of its samples (R149). -/
theorem runs_encoderEdge_short (ha : a ≠ s.tb.encA) (hr : s.tb.runA + 1 < max 1 (s.rd F.TB_ENC_CFG_FILT)) :
    Runs (.encoderEdge a s.tb.encB) s fun u => u = s.setTb { s.tb with
      pinA := a, pinB := s.tb.encB, runA := s.tb.runA + 1, runB := 0
      firstA := if s.tb.runA = 0 then s.real else s.tb.firstA
      firstB := if s.tb.runB = 0 then s.real else s.tb.firstB } := by
  have hA := pinFilter_shorter ha hr
  have hB := pinFilter_held (s.rd F.TB_ENC_CFG_FILT) s.tb.runB s.tb.encB
  obtain ⟨u, hexec, rfl⟩ := runs_encoderEdge_quiet hl (congrArg Prod.fst hA) (congrArg Prod.fst hB) (.inr (.inl ⟨rfl, rfl⟩))
  refine .of hexec ?_
  rw [State.sampled, hA, hB]

theorem runs_encoderEdge_accepted (ha : a ≠ s.tb.encA) (hr : max 1 (s.rd F.TB_ENC_CFG_FILT) ≤ s.tb.runA + 1) :
    Runs (.encoderEdge a s.tb.encB) s fun u => u.tb.encA = a ∧ u.tb.runA = 0 := by
  obtain ⟨l, hcore⟩ := State.decoded_core s a s.tb.encB
  have hA := pinFilter_accepted ha hr
  refine .of (exec_encoderEdge hl a s.tb.encB) ⟨?_, ?_⟩
  · exact (congrArg Timebase.encA hcore).trans (congrArg Prod.fst hA)
  · exact (congrArg Timebase.runA hcore).trans (congrArg Prod.snd hA)

end

/-! ### A tick samples the index (R149, R153) -/

/-- The state in which a tick has sampled ENC_Z. -/
def State.sampledZ (s : State) (z : Bool) : State := s.setTb { s.tb with
  pinZ := z
  encZ := (pinFilter (s.rd F.TB_ENC_CFG_FILT) s.tb.encZ s.tb.runZ z).1
  runZ := (pinFilter (s.rd F.TB_ENC_CFG_FILT) s.tb.encZ s.tb.runZ z).2 }

/-- The index copies the low word of POS (R153). -/
def State.indexPulse (s : State) : State := (s.setReg 0x80038 (s.reg 0x80018)).raise Ev.TB_Z

section
variable {s : State} {z : Bool} (hl : s.live = true)
include hl

theorem exec_encZEdge : exec (.encZEdge z) s = .next (s.endClock
    (if (s.sampledZ z).tb.encZ && !s.tb.encZ then (s.sampledZ z).indexPulse else s.sampledZ z)) := by
  simp only [exec, execEncZEdge, act_live hl]
  rfl

theorem runs_encZEdge_quiet (hq : s.tb.encZ = true ∨ (pinFilter (s.rd F.TB_ENC_CFG_FILT) s.tb.encZ s.tb.runZ z).1 = false) :
    Runs (.encZEdge z) s fun u => u = s.sampledZ z := by
  have hno : ((s.sampledZ z).tb.encZ && !s.tb.encZ) = false := by
    obtain h | h := hq
    · rw [h, Bool.not_true, Bool.and_false]
    · exact Bool.and_eq_false_iff.2 (.inl h)
  exact .of (exec_encZEdge hl) (by rw [hno]; rfl)

theorem runs_encZEdge_rises (hz : s.tb.encZ = false)
    (hlevel : (pinFilter (s.rd F.TB_ENC_CFG_FILT) s.tb.encZ s.tb.runZ z).1 = true) :
    Runs (.encZEdge z) s fun u => u = s.endClock (s.sampledZ z).indexPulse := by
  have hyes : ((s.sampledZ z).tb.encZ && !s.tb.encZ) = true := by
    rw [hz, Bool.not_false, Bool.and_true]
    exact hlevel
  exact .of (exec_encZEdge hl) (by rw [hyes]; rfl)

end

section
variable (s : State)

theorem State.indexPulse_core : s.indexPulse.tb.core = s.tb.core := State.raise_core _ _

theorem State.indexPulse_reg {o : Nat} (hp : regPart o = .tbRegs) :
    s.indexPulse.reg o = (s.setReg 0x80038 (s.reg 0x80018)).reg o :=
  (State.raise_leaves (.refl 0x10001990080000002010 _) rfl Ev.TB_Z).reg (by rw [hp]; decide)

theorem State.indexPulse_copies : s.indexPulse.reg 0x80038 = s.reg 0x80018 :=
  (s.indexPulse_reg (by decide)).trans (s.reg_setReg _ _)

theorem State.indexPulse_keeps {o : Nat} (hp : regPart o = .tbRegs) (ho : o ≠ 0x80038) : s.indexPulse.reg o = s.reg o :=
  (s.indexPulse_reg hp).trans (s.reg_setReg_ne _ ho)

theorem State.indexPulse_pends : Pends s.indexPulse Ev.TB_Z := State.rd_raise_self _ _

end

/-! ### The index pulse and the illegal transition -/

/-- Settles O15: the index pulse writes Z_POS and raises TB_Z, and the footprint of the command holds the rest. -/
theorem indexPulseRule : Obligations.IndexPulseRule := by
  unfold Obligations.IndexPulseRule
  intro s z hl hz hlevel
  obtain ⟨u, hexec, rfl, hkeeps⟩ := (runs_encZEdge_rises hl hz hlevel).and_keeps
  have hcore := (s.sampledZ z).indexPulse_core
  have hreg {o : Nat} (hp : regPart o = .tbRegs) (ho : o ≠ 0x80038) : (s.sampledZ z).indexPulse.reg o = s.reg o :=
    State.indexPulse_keeps _ hp ho
  refine .of hexec ⟨State.indexPulse_copies _, State.indexPulse_pends _, fun o => hreg, ⟨?_, ?_, ?_, ?_⟩, ?_⟩
  · exact Timebase.of_core hcore (·.next) fun _ => rfl
  · exact Timebase.of_core hcore (·.cpl) fun _ => rfl
  · exact Timebase.of_core hcore (·.armed) fun _ => rfl
  · exact State.line_eq (hreg (by decide) (by decide)) (hreg (by decide) (by decide))
  · intro p hp
    refine hkeeps p fun hin => hp ?_
    obtain hin | hin := List.mem_append.1 hin
    · exact List.mem_cons_of_mem _ hin
    · exact List.mem_cons.2 (.inl (List.mem_singleton.1 hin))

/-- Settles O16: an illegal transition writes ENC_ERR_CNT and ENC_ERR, and no other register of the timebase. -/
theorem illegalTransitionRule : Obligations.IllegalTransitionRule := by
  unfold Obligations.IllegalTransitionRule
  intro s a b hl he hA hB
  obtain ⟨u, hexec, rfl⟩ := runs_encoderEdge_both hl he hA hB
  have hcore := (s.sampled a b).illegalTransition_core
  have hreg {o : Nat} (hp : regPart o = .tbRegs) (hc : o ≠ F.TB_ENC_ERR_CNT_COUNT.off) (hf : o ≠ F.TB_STATUS_ENC_ERR.off) :
      (s.sampled a b).illegalTransition.reg o = s.reg o := State.illegalTransition_reg _ hp hc hf
  refine .of hexec ⟨⟨?_, ?_, ?_⟩, State.illegalTransition_counted _, State.illegalTransition_flag _, State.rd_raise_self _ _,
    ⟨?_, ?_⟩, fun o => hreg⟩
  · exact State.rd64_eq (hreg (by decide) (by decide) (by decide)) (hreg (by decide) (by decide) (by decide))
  · exact Timebase.of_core hcore (·.next) fun _ => rfl
  · exact State.line_eq (hreg (by decide) (by decide) (by decide)) (hreg (by decide) (by decide) (by decide))
  · exact (Timebase.of_core hcore (·.encA) fun _ => rfl).trans (Bool.eq_not_of_ne hA)
  · exact (Timebase.of_core hcore (·.encB) fun _ => rfl).trans (Bool.eq_not_of_ne hB)

end Sys2Proof.Machine

namespace Sys2Proof.Machine

/-! ### GROUP_EN and the divider (R159, R174) -/

section
variable (s : State)

theorem State.markUpstream_tb (up : Option Nat) : (s.markUpstream up).tb = s.tb :=
  (State.markUpstream_leaves (.refl 0x10000 s) rfl up).same .tb (by decide)

theorem State.markUpstream_status (up : Option Nat) : StatusOnly s (s.markUpstream up) :=
  (StatusOnly.refl s).leaves (State.markUpstream_leaves (.refl 0x10000 s) rfl up) (by decide)

theorem State.markUpstream_grows (up : Option Nat) : Grows s (s.markUpstream up) :=
  (Grows.refl s).leaves (State.markUpstream_leaves (.refl 0x10000 s) rfl up) (by decide) (by decide)

theorem State.sendLeave_sent : Sent s s.sendLeave := by
  unfold State.sendLeave
  split
  · exact .refl s
  · exact s.flood_sent _

/-- Ports go back to LINK. -/
def State.relink (s : State) (l : List Nat) : State := forEach l (fun p s => s.wr (F.IRC_STATUS_STATE p) 2) s

theorem State.relink_leaves (l : List Nat) : Leaves (partsMask [.ircRegs]) s (s.relink l) :=
  .forEach (fun p _ h => h.wr (by rw [F.IRC_STATUS_STATE_part]; decide)) (.refl _ s)

/-- The timebase of a device that has left its group. -/
def Timebase.ungrouped (x : Timebase) : Timebase := { x with
  held := x.held.filter fun h => h.created.isSome
  inEpoch := false, pendEpochs := [], follows := false, electors := [], electTime := 0, electOld := false, heardKey := none
  met := none, heardHops := [], heardLinks := [], electees := [] }

/-- The device has left its group, but for its LEAVE and its ports. -/
def State.alone (s : State) : State :=
  (((((s.setTb s.tb.ungrouped).wr F.TB_STATUS_ELECTING 0).setAligned false).ownClock).markUpstream none).setRole 0

theorem State.groupOff_eq : s.groupOff = s.alone.sendLeave.relink s.alone.sendLeave.groupPorts := rfl

theorem State.alone_status : StatusOnly s s.alone := by
  have hstatus : StatusOnly s (((s.setTb s.tb.ungrouped).wr F.TB_STATUS_ELECTING 0).setAligned false) :=
    (((StatusOnly.refl s).setTb _).wr 0 rfl).trans (State.setAligned_status _ false)
  exact ((hstatus.setTb _).trans (State.markUpstream_status _ none)).trans (State.setRole_status _ 0)

/-- GROUP_EN off leaves STATUS and no other register of the timebase. -/
theorem State.groupOff_status : StatusOnly s s.groupOff := by
  rw [State.groupOff_eq]
  exact (s.alone_status.sent (State.sendLeave_sent _)).leaves (State.relink_leaves _ _) (by decide)

theorem State.alone_core : s.alone.tb.core = Timebase.core { s.tb.ungrouped with pllRef := .board, pllLead := 0 } := by
  have haligned := (State.setAligned_core ((s.setTb s.tb.ungrouped).wr F.TB_STATUS_ELECTING 0) false).trans
    (congrArg Timebase.core (State.wr_tb _ _ _))
  refine (State.setRole_core _ 0).trans ((congrArg Timebase.core (State.markUpstream_tb _ none)).trans ?_)
  exact congrArg (fun x : Timebase => { x with pllRef := .board, pllLead := 0 }) haligned

theorem State.groupOff_core : s.groupOff.tb.core = Timebase.core { s.tb.ungrouped with pllRef := .board, pllLead := 0 } := by
  rw [State.groupOff_eq, (State.relink_leaves _ _).same .tb (by decide)]
  exact (State.sendLeave_sent _).core.trans s.alone_core

/-- What a write of GROUP_EN sets going; `old` is the word before it. -/
def State.grouped (s : State) (old : Nat) : State :=
  if bit old 3 = s.on F.TB_CTRL_GROUP_EN then s else if s.on F.TB_CTRL_GROUP_EN then s.groupOn else s.groupOff

theorem State.tbCtrl_eq (old v : Nat) : s.tbCtrl old v =
    if bit v 0 then (s.grouped old).armDivider.wr F.TB_CTRL_ARM 0 else s.grouped old := rfl

theorem State.grouped_status (old : Nat) : StatusOnly s (s.grouped old) :=
  .ite (.refl s) (.ite (s.setRole_status 1) s.groupOff_status)

theorem State.grouped_cpl (old : Nat) : (s.grouped old).tb.cpl = s.tb.cpl := by
  unfold State.grouped
  split
  · rfl
  · split
    · exact Timebase.of_core (s.setRole_core 1) (·.cpl) fun _ => rfl
    · exact Timebase.of_core s.groupOff_core (·.cpl) fun _ => rfl

end

/-! ### ARM (R156, R157) -/

section
variable (s : State)

/-- The line that ARM starts from. -/
def State.lineStart (s : State) : Nat := s.rd F.TB_LINE_START_LO_START_LO + 2 ^ 32 * s.rd F.TB_LINE_START_HI_START_HI

theorem State.lineStart_lt : s.lineStart < 2 ^ 48 := by
  have hlo : s.rd F.TB_LINE_START_LO_START_LO < 2 ^ 32 := s.rd_lt _
  have hhi : s.rd F.TB_LINE_START_HI_START_HI < 2 ^ 16 := s.rd_lt _
  rw [State.lineStart]
  omega

/-- The timebase once ARM has acted. -/
def Timebase.armedAt (x : Timebase) (c : Nat) : Timebase :=
  { x with armed := true, next := c, cpl := c, passed := [], released := none }

theorem State.armDivider_eq : s.armDivider = ((s.setTb (s.tb.armedAt s.cplReg)).wr64 0x80018 0).setLine s.lineStart := rfl

theorem State.armDivider_tb : s.armDivider.tb = s.tb.armedAt s.cplReg := by
  rw [State.armDivider_eq, State.setLine_tb]
  rfl

theorem State.armDivider_pos : s.armDivider.rd64 0x80018 = 0 := by
  rw [State.armDivider_eq]
  refine (State.rd64_eq ?_ ?_).trans (State.rd64_wr64 (s.setTb (s.tb.armedAt s.cplReg)) 0x80018 0)
  · exact (State.reg_wr_ne _ _ (by decide)).trans (State.reg_wr_ne _ _ (by decide))
  · exact (State.reg_wr_ne _ _ (by decide)).trans (State.reg_wr_ne _ _ (by decide))

theorem State.armDivider_line : s.armDivider.line = s.lineStart := State.line_setLine _ s.lineStart_lt

end

/-- A write of TB_CTRL with ARM starts the divider from the registers that the write left. -/
theorem State.tbCtrl_arms (s : State) {old v : Nat} (hv : bit v 0 = true) :
    (s.tbCtrl old v).tb.armed = true ∧
      ((s.tbCtrl old v).tb.next = s.cplReg ∧ (s.tbCtrl old v).tb.cpl = s.cplReg) ∧
      (s.tbCtrl old v).tb.passed = [] ∧
      (s.tbCtrl old v).rd64 0x80018 = 0 ∧
      (s.tbCtrl old v).line = s.lineStart ∧
      (s.tbCtrl old v).rd F.TB_CTRL_ARM = 0 := by
  rw [State.tbCtrl_eq, if_pos hv]
  have hregs := s.grouped_status old
  generalize s.grouped old = t at hregs
  have hcpl : t.cplReg = s.cplReg := by
    rw [State.cplReg, hregs.rd (f := F.TB_CPL_HI_INT) rfl (by decide), hregs.rd (f := F.TB_CPL_LO_FRAC) rfl (by decide), State.cplReg]
  have hstart : t.lineStart = s.lineStart := by
    rw [State.lineStart, hregs.rd (f := F.TB_LINE_START_LO_START_LO) rfl (by decide),
      hregs.rd (f := F.TB_LINE_START_HI_START_HI) rfl (by decide), State.lineStart]
  have htb := (State.wr_tb t.armDivider F.TB_CTRL_ARM 0).trans t.armDivider_tb
  rw [htb, ← hcpl, ← hstart]
  refine ⟨rfl, ⟨rfl, rfl⟩, rfl, ?_, ?_, State.rd_wr_fit _ _ _ (by decide) (by decide)⟩
  · exact (State.rd64_eq (State.reg_wr_ne _ _ (by decide)) (State.reg_wr_ne _ _ (by decide))).trans t.armDivider_pos
  · exact (State.line_eq (State.reg_wr_ne _ _ (by decide)) (State.reg_wr_ne _ _ (by decide))).trans t.armDivider_line

/-- What a write of TB_CTRL sets going leaves CPL_LOAD. -/
theorem State.tbCtrl_cplLoad (s : State) (old v : Nat) : (s.tbCtrl old v).rd F.TB_CTRL_CPL_LOAD = s.rd F.TB_CTRL_CPL_LOAD := by
  have hgrouped : (s.grouped old).rd F.TB_CTRL_CPL_LOAD = s.rd F.TB_CTRL_CPL_LOAD :=
    (s.grouped_status old).rd (f := F.TB_CTRL_CPL_LOAD) rfl (by decide)
  rw [State.tbCtrl_eq]
  split
  · refine (State.rd_wr_other _ F.TB_CTRL_ARM F.TB_CTRL_CPL_LOAD 0 (by decide)).trans ?_
    rw [State.armDivider_eq, State.setLine_rd _ _ (by decide)]
    exact (congrArg F.TB_CTRL_CPL_LOAD.of (State.reg_wr64_ne _ _ (by decide) (by decide))).trans hgrouped
  · exact hgrouped

theorem State.tbCtrl_cpl (s : State) (old : Nat) {v : Nat} (hv : bit v 0 = false) : (s.tbCtrl old v).tb.cpl = s.tb.cpl := by
  rw [State.tbCtrl_eq, hv, if_neg Bool.false_ne_true]
  exact s.grouped_cpl old

/-! ### Writes of TB_CTRL -/

/-- The row of TB_CTRL in the register map. -/
def tbCtrlRow : RegRow :=
  ⟨"CTRL", 0x0, 0x0, 1, [⟨31, 5, .mbz, 0⟩, ⟨4, 4, .w1s, 0⟩, ⟨3, 3, .rwl, 0⟩, ⟨2, 2, .rw, 0⟩, ⟨1, 1, .rw, 0⟩, ⟨0, 0, .w1s, 0⟩]⟩

theorem regRow?_tbCtrl : regRow? 0x80000 = some tbCtrlRow := by decide +kernel

theorem blockAt_tbCtrl : blockAt 0x80000 = some (.tb, 0, 0) := by decide +kernel

theorem State.write32_tbCtrl (s : State) (p : Path) (v : Nat) :
    s.write32 p 0x80000 v = (s.stored p 0x80000 v).tbCtrl (s.reg 0x80000).toNat v := by
  rw [s.write32_stored p v regRow?_tbCtrl blockAt_tbCtrl (by decide), State.written, if_pos rfl]

theorem State.writeTraces_core (s : State) (p : Path) (off v : Nat) (b : Block) (i : Nat) (r : RegRow) :
    (s.writeTraces p off v b i r).tb.core = s.tb.core := by
  have herr : (if r.breaksZero v then s.accessErr (pathCode p) true false off else s).tb.core = s.tb.core := by
    split
    · refine (State.raise_core _ _).trans (congrArg Timebase.core ?_)
      exact (s.countAccess_sys (pathCode p) true false off).same .tb (by decide)
    · rfl
  unfold State.writeTraces
  dsimp only
  generalize (if r.breaksZero v then s.accessErr (pathCode p) true false off else s) = t at *
  split
  · exact (congrArg Timebase.core (t.bump_tb _)).trans herr
  · exact herr

/-- A write of TB_CTRL stores over the traces of R9 and R13. -/
theorem State.stored_tbCtrl (s : State) (p : Path) (v : Nat) : ∃ (t : State) (locked : Bool) (old : Nat),
    t.tb.core = s.tb.core ∧
    s.stored p 0x80000 v = t.setReg 0x80000 (BitVec.ofNat 32 (tbCtrlRow.written locked old v)) := by
  let t := s.writeTraces p 0x80000 v .tb 0 tbCtrlRow
  refine ⟨t, t.locked .tb 0, (t.reg 0x80000).toNat, s.writeTraces_core .., ?_⟩
  simp only [State.stored, regRow?_tbCtrl, blockAt_tbCtrl, State.storeReg, State.putReg]
  rw [if_neg (by decide), if_neg (by decide), if_neg (by decide)]
  exact if_neg Bool.false_ne_true

/-- A field that is set by a 1 holds 1 after it. -/
theorem Field.written_w1s_bit {i r : Nat} (locked : Bool) (old : Nat) {v : Nat} (hv : bit v i = true) :
    (Field.mk i i .w1s r).written locked (slice old i i) (slice v i i) = 1 := by
  have hv' : slice v i i = 1 := by simpa [slice] using bit_true_iff.1 hv
  have hold : slice old i i = 0 ∨ slice old i i = 1 := by
    have hlt := slice_lt old i i
    rw [Nat.sub_self] at hlt
    omega
  rw [Field.written, hv']
  obtain h | h := hold <;> rw [h] <;> rfl

theorem slice_bit_lt (w i : Nat) : slice w i i < 2 := by simpa using slice_lt w i i

/-- CPL_LOAD is set by a 1 (R157). -/
theorem tbCtrlRow_cplLoad (locked : Bool) (old : Nat) {v : Nat} (hv : bit v 4 = true) :
    F.TB_CTRL_CPL_LOAD.of (BitVec.ofNat 32 (tbCtrlRow.written locked old v)) = 1 := by
  have h3 : (Field.mk 3 3 .rwl 0).written locked (slice old 3 3) (slice v 3 3) < 2 := by
    cases locked
    · exact slice_bit_lt v 3
    · exact slice_bit_lt old 3
  have h2 : (Field.mk 2 2 .rw 0).written locked (slice old 2 2) (slice v 2 2) < 2 := slice_bit_lt v 2
  have h1 : (Field.mk 1 1 .rw 0).written locked (slice old 1 1) (slice v 1 1) < 2 := slice_bit_lt v 1
  have h0 : (Field.mk 0 0 .w1s 0).written locked (slice old 0 0) (slice v 0 0) < 2 :=
    Nat.or_lt_two_pow (n := 1) (slice_bit_lt old 0) (slice_bit_lt v 0)
  simp only [RegRow.written, tbCtrlRow, List.foldl, Field.written_w1s_bit locked old hv, Fld.of, F.TB_CTRL_CPL_LOAD,
    BitVec.toNat_ofNat]
  generalize (Field.mk 3 3 .rwl 0).written locked (slice old 3 3) (slice v 3 3) = x3 at *
  generalize (Field.mk 2 2 .rw 0).written locked (slice old 2 2) (slice v 2 2) = x2 at *
  generalize (Field.mk 1 1 .rw 0).written locked (slice old 1 1) (slice v 1 1) = x1 at *
  generalize (Field.mk 0 0 .w1s 0).written locked (slice old 0 0) (slice v 0 0) = x0 at *
  rw [slice]
  omega

/-! ### The commands -/

theorem bit_or_twoPow (v : BitVec 32) {w : BitVec 32} {i : Nat} (hw : bit w.toNat i = true) : bit (v ||| w).toNat i = true := by
  rw [bit, BitVec.toNat_or, Nat.testBit_or, Bool.or_eq_true]
  exact .inr hw

section
variable {s : State} {p : Path} (hl : s.live = true) (hp : s.pathOpen p = true) (v : BitVec 32)
include hl hp

theorem exec_arm : exec (.arm p v) s = .next (s.endClock
    ((s.stored p 0x80000 (v ||| 1).toNat).tbCtrl (s.reg 0x80000).toNat (v ||| 1).toNat)) := by
  simp only [exec, execArm, writeAt_open hl hp, State.write32_tbCtrl]

theorem exec_cplLoad : exec (.cplLoad p v) s = .next (s.endClock
    ((s.stored p 0x80000 (v ||| 0x10).toNat).tbCtrl (s.reg 0x80000).toNat (v ||| 0x10).toNat)) := by
  simp only [exec, execCplLoad, writeAt_open hl hp, State.write32_tbCtrl]

theorem runs_arm {x : State} (hx : s.stored p 0x80000 (v ||| 1).toNat = x) : Runs (.arm p v) s fun u =>
    u.tb.armed = true ∧
    (u.tb.next = x.cplReg ∧ u.tb.cpl = x.cplReg) ∧
    u.tb.passed = [] ∧
    u.rd64 0x80018 = 0 ∧
    u.line = x.rd F.TB_LINE_START_LO_START_LO + 2 ^ 32 * x.rd F.TB_LINE_START_HI_START_HI ∧
    u.rd F.TB_CTRL_ARM = 0 := by
  subst hx
  exact .of (exec_arm hl hp v) (State.tbCtrl_arms _ (bit_or_twoPow v (by decide)))

/-- CPL_LOAD stands until the divider creates a line (R157). -/
theorem runs_cplLoad : Runs (.cplLoad p v) s fun u =>
    u.rd F.TB_CTRL_CPL_LOAD = 1 ∧ (bit v.toNat 0 = false → u.tb.cpl = s.tb.cpl) := by
  obtain ⟨t, locked, old, hcore, hstored⟩ := s.stored_tbCtrl p (v ||| 0x10).toNat
  have hset : (s.stored p 0x80000 (v ||| 0x10).toNat).rd F.TB_CTRL_CPL_LOAD = 1 := by
    rw [hstored]
    exact (congrArg F.TB_CTRL_CPL_LOAD.of (t.reg_setReg _ _)).trans (tbCtrlRow_cplLoad locked old (bit_or_twoPow v (by decide)))
  have hcpl : (s.stored p 0x80000 (v ||| 0x10).toNat).tb.cpl = s.tb.cpl := by
    rw [hstored]
    exact Timebase.of_core hcore (·.cpl) fun _ => rfl
  refine .of (exec_cplLoad hl hp v) ⟨(State.tbCtrl_cplLoad _ _ _).trans hset, fun hv => (State.tbCtrl_cpl _ _ ?_).trans hcpl⟩
  rw [bit, BitVec.toNat_or, Nat.testBit_or, Bool.or_eq_false_iff]
  exact ⟨hv, by decide⟩

end

/-! ### The encoder -/

/-- With the spine cut, a lehr clock samples the inputs (R369). -/
theorem runs_encoderEdge_s4 {s : State} (hoff : s.spineOn = false) (hs4 : s.lehr.s4 = true) (a b : Bool) :
    Runs (.encoderEdge a b) s fun u => u = s.lehrSample a b := by
  refine .of (t := s.lehrSample a b) ?_ rfl
  simp only [exec, execEncoderEdge, hoff, hs4, Bool.not_false, Bool.and_self, if_true]

/-- Settles O31: a sample keeps or decodes its levels by the cases of the mode, the index copies POS where its edge is accepted, and
ARM and CPL_LOAD act on what the write of TB_CTRL has stored. -/
theorem encoder : Obligations.Encoder := by
  unfold Obligations.Encoder
  refine ⟨?counted, ?notCounted, ?error, ?filtered, ?accepted, ?inS4, ?index, ?indexQuiet, ?arm, ?cplLoad⟩
  case counted =>
    intro s a b a1 b1 fwd first hl he ha hb hone hf h1 h2 hfirst
    exact runs_encoderEdge_counted hl he ha hb hone hf h1 h2 hfirst
  case notCounted =>
    intro s a b a1 b1 hl ha hb hq
    subst ha hb
    exact runs_encoderEdge_quiet hl rfl rfl hq
  case error =>
    intro s a b hl he hA hB
    obtain ⟨u, hexec, ⟨hpos, -, -⟩, hcount, hflag, hpends, -, -⟩ := illegalTransitionRule s a b hl he hA hB
    exact .of hexec ⟨hcount, hflag, hpends, hpos⟩
  case filtered =>
    intro s a hl ha hr
    exact runs_encoderEdge_short hl ha hr
  case accepted =>
    intro s a hl ha hr
    exact runs_encoderEdge_accepted hl ha hr
  case inS4 =>
    intro s a b hoff hs4
    obtain ⟨u, hexec, rfl⟩ := runs_encoderEdge_s4 hoff hs4 a b
    exact .of hexec ⟨⟨rfl, rfl⟩, rfl, (State.lehrSample_leaves (.refl (partsMask [.lehr]) s) (by decide) a b).keeps⟩
  case index =>
    intro s z hl hz hlevel
    obtain ⟨u, hexec, rfl⟩ := runs_encZEdge_rises hl hz hlevel
    refine .of hexec ⟨State.indexPulse_copies _, State.indexPulse_pends _, ?_, ?_⟩
    · exact State.rd64_eq (State.indexPulse_keeps _ (by decide) (by decide)) (State.indexPulse_keeps _ (by decide) (by decide))
    · exact (Timebase.of_core (State.indexPulse_core _) (·.encZ) fun _ => rfl).trans hlevel
  case indexQuiet =>
    intro s z hl hq
    exact runs_encZEdge_quiet hl hq
  case arm =>
    intro s p v x hl hp hx
    exact runs_arm hl hp v hx
  case cplLoad =>
    intro s p v hl hp
    exact runs_cplLoad hl hp v

end Sys2Proof.Machine

namespace Sys2Proof.Machine

theorem Clocked.tb {t u : State} (h : Clocked t u) : u.tb = t.tb := h.leaves.same .tb (by decide)

/-! ### The upstream port (R171) -/

/-- Does a field share no bit with the marks of the upstream port, in a port's STATUS and in TB_STATUS? -/
structure Fld.notUpstream (f : Fld) : Prop where
  port (q : Nat) : (F.IRC_STATUS_UPSTREAM q).off ≠ f.off ∨ (F.IRC_STATUS_UPSTREAM q).clear f = true
  tb : F.TB_STATUS_UPSTREAM.off ≠ f.off ∨ F.TB_STATUS_UPSTREAM.clear f = true

/-- The upstream port is marked. -/
def State.withUpstream (s : State) (p : Nat) : State := (s.markUpstream (some p)).wr F.TB_STATUS_UPSTREAM p

theorem State.setUpstream_eq (s : State) (p : Nat) : s.setUpstream p =
    if (s.withUpstream p).on F.TB_STATUS_ALIGNED then (s.withUpstream p).followPort p else s.withUpstream p := rfl

theorem State.followPort_rd (s : State) (p : Nat) (f : Fld) : (s.followPort p).rd f = s.rd f := rfl

/-- A write leaves a field of another register, and one of its own register that it shares no bit with. -/
theorem State.rd_wr_outside (s : State) {f g : Fld} (v : Nat) (h : f.off ≠ g.off ∨ f.clear g = true) : (s.wr f v).rd g = s.rd g := by
  obtain h | h := h
  · exact s.rd_setReg_ne _ g h.symm
  · exact s.rd_wr_clear v h

section
variable (s : State) {f : Fld} (hf : f.notUpstream)
include hf

theorem State.markUpstream_rd (up : Option Nat) : (s.markUpstream up).rd f = s.rd f :=
  forEach_obs_out (State.rd · f) (fun q _ u => u.rd_wr_outside _ (hf.port q)) s

theorem State.withUpstream_rd (p : Nat) : (s.withUpstream p).rd f = s.rd f :=
  (State.rd_wr_outside _ _ hf.tb).trans (s.markUpstream_rd hf (some p))

theorem State.setUpstream_rd (p : Nat) : (s.setUpstream p).rd f = s.rd f := by
  rw [State.setUpstream_eq]
  split
  · rw [State.followPort_rd, s.withUpstream_rd hf]
  · exact s.withUpstream_rd hf p

theorem State.loseUpstream_rd (p : Nat) : (s.loseUpstream p).rd f = s.rd f := by
  unfold State.loseUpstream
  split
  · exact s.setUpstream_rd hf _
  · split
    · rfl
    · rfl

theorem State.afterLoss_rd (p : Nat) (wasGroup wasUp : Bool) : (s.afterLoss p wasGroup wasUp).rd f = s.rd f := by
  unfold State.afterLoss
  split
  · exact s.issueEpoch_rd _ _ _ f
  · split
    · exact s.loseUpstream_rd hf p
    · rfl

end

/-- A master whose port was in GROUP has an epoch pending (R171). -/
theorem State.afterLoss_pend {s : State} (hr : s.role = 3) (p : Nat) (wasUp : Bool) : (s.afterLoss p true wasUp).tb.pendEpochs ≠ [] := by
  have hreissue : s.afterLoss p true wasUp = s.reissue := by simp [State.afterLoss, hr]
  rw [hreissue, State.reissue, State.issueEpoch_pend]
  exact List.append_ne_nil_of_right_ne_nil _ (List.cons_ne_nil _ _)

theorem State.afterLoss_rises (s : State) (p : Nat) (wasGroup wasUp : Bool) : Rises s (s.afterLoss p wasGroup wasUp) :=
  (Rises.refl s).leaves (State.afterLoss_leaves (.refl 0x10000000080000010100 s) rfl p wasGroup wasUp) (by decide)

/-! ### A port whose link is gone (R163, R171) -/

/-- A port's registers once its link is gone, but for its mark as the upstream port. -/
def State.portCleared (s : State) (p st : Nat) : State :=
  ((s.wr (F.IRC_STATUS_STATE p) st).wr (F.IRC_STATUS_PEER_VALID p) 0).wr (F.IRC_HOP_DELAY_VALID p) 0

section
variable (s : State) (p : Nat)

theorem State.portDown_eq (st : Nat) : ∃ x, s.portDown p st = ((s.portCleared p st).setIrcp p x).wr (F.IRC_STATUS_UPSTREAM p) 0 :=
  ⟨_, rfl⟩

theorem State.setIrcp_rd (x : IrcPort) (f : Fld) : (s.setIrcp p x).rd f = s.rd f := rfl

/-- What a port that is down shows, once it has lost its partner. -/
theorem State.portDown_rd (st : Nat) (hst : st < 8) :
    (s.portDown p st).rd (F.IRC_STATUS_STATE p) = st ∧ (s.portDown p st).rd (F.IRC_STATUS_PEER_VALID p) = 0 ∧
      (s.portDown p st).rd (F.IRC_HOP_DELAY_VALID p) = 0 ∧
      (s.portDown p st).rd (F.IRC_STATUS_LINK_DOWN p) = s.rd (F.IRC_STATUS_LINK_DOWN p) := by
  have hup (f : Fld) (hf : (F.IRC_STATUS_UPSTREAM p).clear f = true) : (s.portDown p st).rd f = (s.portCleared p st).rd f := by
    obtain ⟨x, hx⟩ := s.portDown_eq p st
    rw [hx, State.rd_wr_clear _ _ hf, State.setIrcp_rd]
  have hdelay (f : Fld) (hf : f.off = (F.IRC_STATUS_STATE p).off) :
      (s.portCleared p st).rd f = ((s.wr (F.IRC_STATUS_STATE p) st).wr (F.IRC_STATUS_PEER_VALID p) 0).rd f :=
    State.rd_setReg_ne _ _ f (by rw [hf]; simp only [F.IRC_STATUS_STATE, F.IRC_HOP_DELAY_VALID]; omega)
  refine ⟨?_, ?_, ?_, ?_⟩
  · rw [hup _ rfl, hdelay _ rfl, State.rd_wr_clear _ _ rfl, State.rd_wr_mod _ _ rfl]
    exact Nat.mod_eq_of_lt hst
  · rw [hup _ rfl, hdelay (F.IRC_STATUS_PEER_VALID p) rfl, State.rd_wr_mod _ _ rfl]
    rfl
  · rw [hup _ rfl, State.portCleared, State.rd_wr_mod _ _ rfl]
    rfl
  · rw [hup _ rfl, hdelay (F.IRC_STATUS_LINK_DOWN p) rfl, State.rd_wr_clear _ _ rfl, State.rd_wr_clear _ _ rfl]

theorem State.portDown_leaves_irc (st : Nat) : Leaves 0x100000010000 s (s.portDown p st) := State.portDown_leaves (.refl _ s) rfl p st

end

theorem notUpstream_state (p : Nat) : (F.IRC_STATUS_STATE p).notUpstream := ⟨fun _ => .inr rfl, .inr rfl⟩
theorem notUpstream_peerValid (p : Nat) : (F.IRC_STATUS_PEER_VALID p).notUpstream :=
  ⟨fun _ => .inr rfl, .inl (by simp only [F.TB_STATUS_UPSTREAM, F.IRC_STATUS_PEER_VALID]; omega)⟩
theorem notUpstream_linkDown (p : Nat) : (F.IRC_STATUS_LINK_DOWN p).notUpstream := ⟨fun _ => .inr rfl, .inr rfl⟩
theorem notUpstream_delayValid (p : Nat) : (F.IRC_HOP_DELAY_VALID p).notUpstream := ⟨fun _ => .inr rfl, .inr rfl⟩

/-- The link of a port that is in LINK or GROUP goes down, and the flag and the event tell (R186). -/
def State.linkLost (s : State) (p : Nat) : State := ((s.wr (F.IRC_STATUS_LINK_DOWN p) 1).raise (Ev.IRC_LINK_DOWN p)).portLost p 0

section
variable (s : State) (p : Nat)

/-- What the port shows once its link has gone down. -/
theorem State.linkLost_rd : (s.linkLost p).rd (F.IRC_STATUS_STATE p) = 0 ∧ (s.linkLost p).rd (F.IRC_STATUS_LINK_DOWN p) = 1 ∧
    (s.linkLost p).rd (F.IRC_STATUS_PEER_VALID p) = 0 ∧ (s.linkLost p).rd (F.IRC_HOP_DELAY_VALID p) = 0 := by
  have hflag : ((s.wr (F.IRC_STATUS_LINK_DOWN p) 1).raise (Ev.IRC_LINK_DOWN p)).rd (F.IRC_STATUS_LINK_DOWN p) = 1 :=
    (State.rd_raise _ _ (F.IRC_STATUS_LINK_DOWN_part p) rfl).trans (State.rd_wr_mod _ _ rfl)
  rw [State.linkLost, State.portLost]
  generalize (s.wr (F.IRC_STATUS_LINK_DOWN p) 1).raise (Ev.IRC_LINK_DOWN p) = t at hflag
  obtain ⟨hstate, hvalid, hdelay, hdown⟩ := t.portDown_rd p 0 (by decide)
  exact ⟨(State.afterLoss_rd _ (notUpstream_state p) _ _ _).trans hstate,
    (State.afterLoss_rd _ (notUpstream_linkDown p) _ _ _).trans (hdown.trans hflag),
    (State.afterLoss_rd _ (notUpstream_peerValid p) _ _ _).trans hvalid,
    (State.afterLoss_rd _ (notUpstream_delayValid p) _ _ _).trans hdelay⟩

theorem State.linkLost_pends : Pends (s.linkLost p) (Ev.IRC_LINK_DOWN p) := by
  rw [State.linkLost, State.portLost]
  exact State.afterLoss_rises _ _ _ _ _ ((State.portDown_leaves_irc _ p 0).rises (by decide) _ (State.rd_raise_self _ _))

/-- The master of a group whose port was in GROUP has an epoch pending (R171). -/
theorem State.linkLost_pend (hr : s.role = 3) (hg : s.rd (F.IRC_STATUS_STATE p) = 3) : (s.linkLost p).tb.pendEpochs ≠ [] := by
  have hrole : ((s.wr (F.IRC_STATUS_LINK_DOWN p) 1).raise (Ev.IRC_LINK_DOWN p)).role = 3 :=
    (State.rd_raise _ _ F.TB_STATUS_ROLE_part rfl).trans ((State.rd_wr_clear _ _ rfl).trans hr)
  have hgroup : ((s.wr (F.IRC_STATUS_LINK_DOWN p) 1).raise (Ev.IRC_LINK_DOWN p)).rd (F.IRC_STATUS_STATE p) = 3 :=
    (State.rd_raise _ _ (F.IRC_STATUS_STATE_part p) rfl).trans ((State.rd_wr_clear _ _ rfl).trans hg)
  rw [State.linkLost, State.portLost]
  generalize (s.wr (F.IRC_STATUS_LINK_DOWN p) 1).raise (Ev.IRC_LINK_DOWN p) = t at hrole hgroup
  have hwas : (t.portWas p).1 = true := beq_iff_eq.2 hgroup
  rw [hwas]
  exact State.afterLoss_pend (((t.portDown_leaves_irc p 0).rd F.TB_STATUS_ROLE_part (by decide) (by decide)).trans hrole) p _

end

/-! ### Quarantine (R184) -/

section
variable (s : State) (p : Nat)

theorem State.endQuarantine_clears : (s.endQuarantine p).rd (F.IRC_CTRL_QUAR_CLR p) = 0 := by
  unfold State.endQuarantine
  split
  · exact State.rd_wr_mod _ _ rfl
  · exact State.rd_wr_mod _ _ rfl

theorem State.endQuarantine_state : (s.endQuarantine p).rd (F.IRC_STATUS_STATE p) =
    if s.rd (F.IRC_STATUS_STATE p) = 4 then 1 else s.rd (F.IRC_STATUS_STATE p) := by
  unfold State.endQuarantine
  split
  · exact (State.rd_wr_clear _ _ rfl).trans (State.rd_wr_mod _ _ rfl)
  · exact State.rd_wr_clear _ _ rfl

theorem State.endQuarantine_reg {o : Nat} (hs : o ≠ (F.IRC_STATUS_STATE p).off) (hc : o ≠ (F.IRC_CTRL_QUAR_CLR p).off) :
    (s.endQuarantine p).reg o = s.reg o := by
  unfold State.endQuarantine
  split
  · exact (State.reg_wr_ne _ _ hc).trans (State.reg_wr_ne _ _ hs)
  · exact State.reg_wr_ne _ _ hc

end

/-! ### Writes of a port's CTRL (R163, R184) -/

/-- The row of IRC[p].CTRL in the register map. -/
def ircCtrlRow : RegRow := ⟨"CTRL", 0x0, 0x0, 1, [⟨31, 2, .mbz, 0⟩, ⟨1, 1, .w1s, 0⟩, ⟨0, 0, .rwl, 0⟩]⟩

theorem regRow?_ircCtrl (k : Fin 4) : regRow? (0xb00000 + 0x10000 * k.val) = some ircCtrlRow := by
  revert k
  decide +kernel

theorem blockAt_ircCtrl (k : Fin 4) : blockAt (0xb00000 + 0x10000 * k.val) = some (.irc, k.val, 0) := by
  revert k
  decide +kernel

theorem exec_quarClr {s : State} {p : Path} (hl : s.live = true) (hp : s.pathOpen p = true) (k : Fin 4) (v : BitVec 32) :
    exec (.quarClr p k v) s = .next (s.endClock
      ((s.stored p (0xb00000 + 0x10000 * k.val) (v ||| 2).toNat).ircCtrl k.val (v ||| 2).toNat)) := by
  simp only [exec, execQuarClr, writeAt_open hl hp,
    s.write32_stored p _ (regRow?_ircCtrl k) (blockAt_ircCtrl k) (by decide), State.written, if_true]

/-- A port whose EN is 0 is down; its link, if it had one, is lost (R163). -/
def State.portOff (s : State) (p : Nat) : State :=
  if s.on (F.IRC_CTRL_EN p) then s
  else if s.linked p then s.linkLost p
  else s.wr (F.IRC_STATUS_STATE p) 0

theorem State.ircCtrl_quarClr (s : State) (p : Nat) {v : Nat} (hv : bit v 1 = true) :
    s.ircCtrl p v = (s.portOff p).endQuarantine p := if_pos hv

theorem State.portOff_state {s : State} {p : Nat} (he : s.on (F.IRC_CTRL_EN p) = false) :
    (s.portOff p).rd (F.IRC_STATUS_STATE p) = 0 := by
  rw [State.portOff, he, if_neg Bool.false_ne_true]
  split
  · exact (s.linkLost_rd p).1
  · exact State.rd_wr_mod _ _ rfl

/-! ### The ports -/

section
variable {s : State} {p : Fin 4} (hl : s.live = true)
include hl

theorem runs_ircBackoffExpiry_trains (he : s.on (F.IRC_CTRL_EN p) = true) (hst : s.rd (F.IRC_STATUS_STATE p) = 0)
    (hpll : bit (s.rd F.CLK_STAT_LOCKED) 2 = true) (hc : bit s.cstore.cullet.irc p = false) :
    Runs (.ircBackoffExpiry p) s (Clocked (s.wr (F.IRC_STATUS_STATE p) 1)) := by
  refine .of_clocked ?_ fun _ h => h
  simp only [exec, execIrcBackoffExpiry, act_live hl, he, hst, hpll, hc, beq_self_eq_true, Bool.not_false, Bool.and_self, if_true]

theorem runs_ircBackoffExpiry_culled (hc : bit s.cstore.cullet.irc p = true) : Runs (.ircBackoffExpiry p) s fun u => u = s := by
  refine .of (t := s) ?_ rfl
  simp [exec, execIrcBackoffExpiry, act_live hl, hc]

theorem runs_ircLinkUp (hst : s.rd (F.IRC_STATUS_STATE p) = 1) : Runs (.ircLinkUp p) s
    (Clocked ((s.wr (F.IRC_STATUS_STATE p) 2).raise (Ev.IRC_LINK_UP p))) := by
  refine .of_clocked ?_ fun _ h => h
  simp only [exec, execIrcLinkUp, act_live hl, if_pos hst]

theorem runs_ircLinkDown (hk : s.linked p = true) : Runs (.ircLinkDown p) s (Clocked (s.linkLost p)) := by
  refine .of_clocked ?_ fun _ h => h
  simp only [exec, execIrcLinkDown, act_live hl, if_pos hk, State.linkLost]

theorem runs_quarantineExpiry (hst : s.rd (F.IRC_STATUS_STATE p) = 4) (ht : s.rd (F.IRC_QUAR_CFG_TIME p) ≠ 0) :
    Runs (.quarantineExpiry p) s (Clocked (s.endQuarantine p)) := by
  refine .of_clocked ?_ fun _ h => h
  simp only [exec, execQuarantineExpiry, act_live hl, hst, bne_iff_ne.2 ht, decide_true, Bool.and_self, if_true]

theorem runs_quarantineExpiry_never (ht : s.rd (F.IRC_QUAR_CFG_TIME p) = 0) : Runs (.quarantineExpiry p) s fun u => u = s := by
  refine .of (t := s) ?_ rfl
  simp [exec, execQuarantineExpiry, act_live hl, ht]

end

/-- Settles O36: each event of a port writes its state, a lost link clears what the port knew of its partner, and a quarantine ends in
training. -/
theorem ircelPorts : Obligations.IrcelPorts := by
  unfold Obligations.IrcelPorts
  refine ⟨?backoff, ?culled, ?up, ?down, ?expiry, ?forever, ?quarClr⟩
  case backoff =>
    intro s p hl he hst hpll hc
    obtain ⟨u, hexec, hu⟩ := runs_ircBackoffExpiry_trains hl he hst hpll hc
    exact .of hexec ⟨(hu.rd _).trans (State.rd_wr_mod _ _ rfl), fun o ho => (hu.reg o).trans (State.reg_wr_ne _ _ ho)⟩
  case culled =>
    intro s p hl hc
    exact runs_ircBackoffExpiry_culled hl hc
  case up =>
    intro s p hl hst
    obtain ⟨u, hexec, hu⟩ := runs_ircLinkUp hl hst
    refine .of hexec ⟨(hu.rd _).trans ?_, hu.pends (State.rd_raise_self _ _)⟩
    exact (State.rd_raise _ _ (F.IRC_STATUS_STATE_part p) rfl).trans (State.rd_wr_mod _ _ rfl)
  case down =>
    intro s p hl hk
    obtain ⟨u, hexec, hu⟩ := runs_ircLinkDown hl hk
    obtain ⟨hstate, hflag, hvalid, hdelay⟩ := s.linkLost_rd p
    refine .of hexec ⟨(hu.rd _).trans hstate, (hu.rd _).trans hflag, (hu.rd _).trans hvalid, (hu.rd _).trans hdelay,
      hu.pends (s.linkLost_pends p), fun hr hg => ?_⟩
    rw [hu.tb]
    exact s.linkLost_pend p hr hg
  case expiry =>
    intro s p hl hst ht
    obtain ⟨u, hexec, hu⟩ := runs_quarantineExpiry hl hst ht
    exact .of hexec ⟨(hu.rd _).trans ((s.endQuarantine_state p).trans (if_pos hst)), (hu.rd _).trans (s.endQuarantine_clears p),
      fun o hs hc => (hu.reg o).trans (s.endQuarantine_reg p hs hc)⟩
  case forever =>
    intro s p hl ht
    exact runs_quarantineExpiry_never hl ht
  case quarClr =>
    intro s p k v x hl hp hx
    subst hx
    refine .of_clocked (exec_quarClr hl hp k v) fun u hu => ?_
    rw [State.ircCtrl_quarClr _ _ (bit_or_twoPow v (by decide))] at hu
    generalize s.stored p (0xb00000 + 0x10000 * k.val) (v ||| 2).toNat = x at hu
    rw [hu.rd, hu.rd, State.endQuarantine_clears, State.endQuarantine_state]
    refine ⟨rfl, fun he hst => ?_, fun he => ?_⟩
    · have hon : x.portOff k = x := if_pos he
      rw [hon, if_pos hst]
    · rw [State.portOff_state he]
      rfl

end Sys2Proof.Machine

namespace Sys2Proof.Machine

/-! ### A line that is passed (R156, R162) -/

section
variable {s : State} {l : Nat}

theorem State.passLine_passes (ha : s.tb.armed = true) (hp : s.tb.passed.contains l = false) : s.passLine l =
    ((s.setTb { s.tb with passed := l :: s.tb.passed }).bump F.TB_LINE_SKIP_CNT_COUNT).raise Ev.TB_LINE_SKIP :=
  if_neg (by rw [ha, hp]; decide)

theorem State.passLine_same (h : s.tb.armed = false ∨ s.tb.passed.contains l = true) : s.passLine l = s := by
  obtain h | h := h <;> simp only [State.passLine, h, Bool.not_false, Bool.true_or, Bool.or_true, if_true]

theorem State.passLine_core (s : State) (l : Nat) : ∃ ps, (s.passLine l).tb.core = { s.tb.core with passed := ps } := by
  unfold State.passLine
  split
  · exact ⟨_, rfl⟩
  · refine ⟨l :: s.tb.passed, (State.raise_core _ _).trans (congrArg Timebase.core (State.bump_tb _ _))⟩

theorem State.passLine_counted (ha : s.tb.armed = true) (hp : s.tb.passed.contains l = false) :
    (s.passLine l).tb.passed = l :: s.tb.passed ∧ Counted s (s.passLine l) F.TB_LINE_SKIP_CNT_COUNT ∧
      Pends (s.passLine l) Ev.TB_LINE_SKIP := by
  rw [State.passLine_passes ha hp]
  have htb := State.bump_tb (s.setTb { s.tb with passed := l :: s.tb.passed }) F.TB_LINE_SKIP_CNT_COUNT
  refine ⟨?_, ?_, State.rd_raise_self _ _⟩
  · exact (Timebase.of_core (State.raise_core _ _) (·.passed) fun _ => rfl).trans (congrArg Timebase.passed htb)
  · exact (State.rd_raise _ _ F.TB_LINE_SKIP_CNT_COUNT_part rfl).trans (State.rd_bump _ _ (by decide))

end

/-! ### LINE follows (R156, R159) -/

section
variable (s : State) (l : Nat)

theorem State.followLine_tb : (s.followLine l).tb = s.tb := by
  unfold State.followLine
  split
  · exact s.setLine_tb _
  · rfl

theorem State.followLine_rd {f : Fld} (hf : f.off ≠ 0x80020 ∧ f.off ≠ 0x80024) : (s.followLine l).rd f = s.rd f := by
  unfold State.followLine
  split
  · exact s.setLine_rd _ hf
  · rfl

theorem State.followLine_grows : Grows s (s.followLine l) := .ite (s.setLine_grows _) (.refl s)

theorem State.followLine_line (ha : s.tb.armed = true) : (s.followLine l).line = (l + 1) % 2 ^ 48 := by
  rw [State.followLine, ha, if_pos rfl]
  exact s.line_setLine (Nat.mod_lt _ (by decide))

end

/-! ### What a release of a line keeps in the timebase -/

/-- The lines held and whether the divider has been armed are as they were. -/
structure LinesKept (s t : State) : Prop where
  held : t.tb.held = s.tb.held
  armed : t.tb.armed = s.tb.armed

theorem LinesKept.refl (s : State) : LinesKept s s := ⟨rfl, rfl⟩

theorem LinesKept.trans {s t u : State} (h : LinesKept s t) (k : LinesKept t u) : LinesKept s u :=
  ⟨k.held.trans h.held, k.armed.trans h.armed⟩

theorem LinesKept.ite {s t u : State} {c : Prop} [Decidable c] (ht : LinesKept s t) (hu : LinesKept s u) :
    LinesKept s (if c then t else u) := by
  split
  · exact ht
  · exact hu

theorem LinesKept.forEach {α : Type} {f : α → State → State} (hf : ∀ a s, LinesKept s (f a s)) (l : List α) (s : State) :
    LinesKept s (forEach l f s) :=
  ⟨forEach_obs_out (·.tb.held) (fun a _ u => (hf a u).held) s, forEach_obs_out (·.tb.armed) (fun a _ u => (hf a u).armed) s⟩

theorem LinesKept.core {s t : State} (h : t.tb.core = s.tb.core) : LinesKept s t :=
  ⟨Timebase.of_core h (·.held) fun _ => rfl, Timebase.of_core h (·.armed) fun _ => rfl⟩

theorem Leaves.linesKept {m : Nat} {s t : State} (h : Leaves m s t) (hm : m.testBit Part.tb.ctorIdx = false) : LinesKept s t :=
  .core (congrArg Timebase.core (h.same .tb hm))

section
variable (s : State) (n line : Nat)

theorem State.raise_linesKept (e : Nat) : LinesKept s (s.raise e) := .core (s.raise_core e)

theorem State.bump_linesKept (f : Fld) : LinesKept s (s.bump f) := .core (congrArg Timebase.core (s.bump_tb f))

theorem State.passLine_linesKept : LinesKept s (s.passLine line) := by
  obtain ⟨ps, h⟩ := s.passLine_core line
  exact .trans (t := s.setTb { s.tb with passed := ps }) ⟨rfl, rfl⟩ (.core h)

theorem State.passGap_linesKept : LinesKept s (s.passGap line) := by
  unfold State.passGap
  split
  · exact .forEach (fun _ u => u.passLine_linesKept _) _ s
  · exact .refl s

theorem State.setGaf_linesKept (g : Gaffer) : LinesKept s (s.setGaf n g) := ⟨rfl, rfl⟩

theorem State.overrunTrace_linesKept (master localSkip merged : Bool) :
    LinesKept s (s.overrunTrace n line master localSkip merged) := by
  have hlog := (State.skipLog_leaves (.refl 0x1000 s) rfl n line master localSkip merged).wr (f := F.GAF_STATUS_OVERRUN n) (v := 1)
    (Part.bit (F.GAF_STATUS_OVERRUN_part n) (by decide))
  exact ((hlog.linesKept (by decide)).trans (State.setGaf_linesKept _ n _)).trans (State.raise_linesKept _ _)

theorem State.skip_linesKept (master localSkip : Bool) : LinesKept s (s.skip n line master localSkip) := by
  have htrace := (s.bump_linesKept (F.GAF_SKIP_CNT_COUNT n)).trans (State.overrunTrace_linesKept _ n line master localSkip false)
  unfold State.skip
  dsimp only
  generalize (s.bump (F.GAF_SKIP_CNT_COUNT n)).overrunTrace n line master localSkip false = t at *
  have hnoted : LinesKept s (t.withTb { t.tb with skipped := setBitTo t.tb.skipped n true }) := htrace.trans ⟨rfl, rfl⟩
  exact .ite (hnoted.trans ((State.bump_linesKept _ _).trans (State.raise_linesKept _ _))) htrace

theorem State.setQueue_linesKept (q : List TrigEntry) : LinesKept s (s.setQueue n q) :=
  (State.setQueue_leaves (.refl 0x4000001000 s) rfl n q).linesKept (by decide)

theorem State.merge_linesKept (master localSkip : Bool) : LinesKept s (s.merge n line master localSkip) := by
  unfold State.merge
  split
  · exact s.skip_linesKept _ _ _ _
  · exact .ite (s.skip_linesKept _ _ _ _) ((s.setQueue_linesKept n _).trans
      ((State.bump_linesKept _ _).trans (State.overrunTrace_linesKept _ _ _ _ _ _)))

theorem State.byMark_linesKept (mark target : Nat) : LinesKept s (s.byMark n line mark target) := by
  unfold State.byMark
  refine .ite (s.skip_linesKept _ _ _ _) (.ite ?_ (.ite (s.skip_linesKept _ _ _ _) (s.setQueue_linesKept _ _)))
  split
  · exact .ite (s.merge_linesKept _ _ _ _) (s.skip_linesKept _ _ _ _)
  · exact s.skip_linesKept _ _ _ _

theorem State.trigger_linesKept (mark target : Nat) : LinesKept s (s.trigger n line mark target) := by
  unfold State.trigger
  refine .ite (.refl s) (.ite (s.bump_linesKept _) (.ite (s.byMark_linesKept _ _ _ _) ?_))
  split
  · exact s.setQueue_linesKept _ _
  · exact s.skip_linesKept _ _ _ _
  · exact s.merge_linesKept _ _ _ _

theorem State.toGaffers_linesKept (h : Held) : LinesKept s (s.toGaffers h) :=
  .ite ⟨rfl, rfl⟩ (.forEach (fun n u => u.trigger_linesKept n _ _ _) _ s)

theorem State.setTags_linesKept (k : Nat) (l : List Tag) : LinesKept s (s.setTags k l) :=
  (State.setTags_leaves (.refl 0x200000020000 s) rfl k l).linesKept (by decide)

theorem State.tagErr_linesKept (k : Nat) : LinesKept s (s.tagErr k) :=
  (s.bump_linesKept _).trans (.trans (.core (congrArg Timebase.core (State.wr_tb _ _ _))) (State.raise_linesKept _ _))

theorem State.pushTags_linesKept (time : Nat) : LinesKept s (s.pushTags line time) := by
  refine .forEach (fun k u => ?_) _ s
  exact .ite (.refl u) (.ite ((u.tagErr_linesKept k).trans (State.setTags_linesKept _ _ _)) (u.setTags_linesKept _ _))

/-- A delivered line is recorded, and its release is put out (R160). -/
theorem State.deliverLine_delivers (h : Held) : LinesKept s (s.deliverLine h) ∧ (s.deliverLine h).tb.released = some h.line ∧
    Output.release h.line h.release ∈ (s.deliverLine h).out := by
  have hstrobes (t : State) : LinesKept t (t.portStrobes h.line) :=
    (State.portStrobes_leaves (.refl 0x1000000000040 t) rfl h.line).linesKept (by decide)
  have hkept := (((s.passGap_linesKept h.line).trans (State.toGaffers_linesKept _ h)).trans (hstrobes _)).trans
    (State.pushTags_linesKept _ h.line h.release)
  refine ⟨hkept.trans ⟨rfl, rfl⟩, rfl, ?_⟩
  exact List.mem_append_right _ (List.mem_singleton.2 rfl)

end

/-! ### A due line (R159, R160, R162) -/

/-- The due line is no longer held. -/
def State.takeLine (s : State) (x : Held) : State := s.setTb { s.tb with held := s.tb.held.erase x }

/-- A member's LINE follows the line released. -/
def State.followed (s t : State) (l : Nat) : State := if s.role = 2 then t.followLine l else t

theorem State.passRelease_eq (s : State) (x : Held) :
    ∃ r, s.passRelease x = (s.passLine x.line).setTb { (s.passLine x.line).tb with lastRel := r } := by
  unfold State.passRelease
  split
  · exact ⟨(s.passLine x.line).tb.lastRel, rfl⟩
  · exact ⟨_, rfl⟩

section
variable {s : State} {x : Held} (hl : s.live = true)
include hl

section
variable (hd : s.dueLine = some x)
include hd

theorem runs_triggerRelease_delivers (hr : s.role ≠ 1) (ht : s.on F.TB_CTRL_TRIG_EN = true) :
    Runs .triggerRelease s (Clocked (s.followed ((s.takeLine x).deliverLine x) x.line)) := by
  refine .of_clocked ?_ fun _ h => h
  simp only [exec, execTriggerRelease, act_live hl, hd, if_neg hr, ht]
  rfl

theorem runs_triggerRelease_passes (h : s.role = 1 ∨ s.on F.TB_CTRL_TRIG_EN = false) :
    ∃ r, Runs .triggerRelease s (Clocked (s.followed (((s.takeLine x).passLine x.line).setTb
      { ((s.takeLine x).passLine x.line).tb with lastRel := r }) x.line)) := by
  by_cases hr : s.role = 1
  · refine ⟨((s.takeLine x).passLine x.line).tb.lastRel, .of_clocked ?_ fun _ h => h⟩
    simp only [exec, execTriggerRelease, act_live hl, hd, if_pos hr]
    rfl
  · obtain ⟨r, hpass⟩ := (s.takeLine x).passRelease_eq x
    refine ⟨r, .of_clocked ?_ fun _ h => h⟩
    simp only [exec, execTriggerRelease, act_live hl, hd, if_neg hr, h.resolve_left hr, Bool.not_false, if_true]
    rw [← hpass]
    rfl

end

theorem runs_triggerRelease_waits (hd : s.dueLine = none) : Runs .triggerRelease s fun u => u = s := by
  refine .of (t := s) ?_ rfl
  simp only [exec, execTriggerRelease, act_live hl, hd, State.endClock_self]

end

/-! ### The trigger ports (R234) -/

section
variable {s : State} {k : Fin 8} (hl : s.live = true)
include hl

theorem runs_triggerPortStrobe_presents {x : Nat × Nat × Nat} (hd : s.strobeDue k = some x) :
    Runs (.triggerPortStrobe k) s fun u => u.out = s.out ++ [Output.trigStrobe k x.2.1] ∧ u.strobes = s.strobes.erase x ∧
      u.fab.trig = s.fab.trig ++ [(k.val, x.2.1)] := by
  refine .of (t := s.endClock (((s.withStrobes (s.strobes.erase x)).withFab
    { s.fab with trig := s.fab.trig ++ [(k.val, x.2.1)] }).emit (.trigStrobe k x.2.1))) ?_ ⟨rfl, rfl, rfl⟩
  simp only [exec, execTriggerPortStrobe, act_live hl, hd]

theorem runs_triggerPortStrobe_waits (hd : s.strobeDue k = none) : Runs (.triggerPortStrobe k) s fun u => u = s := by
  refine .of (t := s) ?_ rfl
  simp only [exec, execTriggerPortStrobe, act_live hl, hd, State.endClock_self]

end

/-! ### TRIGGER (R159, R161, R180) -/

/-- What a TRIGGER does to a device that takes it. -/
def State.takeTrigger (s : State) (x : Held) : State :=
  if s.role = 1 then (s.passLine x.line).followLine x.line
  else if s.role = 2 then
    if x.release < s.now then (((s.hold x).bump F.TB_LATE_CNT_COUNT).wr F.TB_STATUS_LATE 1).raise Ev.TB_TRIG_LATE else s.hold x
  else s

/-- The line that a TRIGGER names. -/
def heldOf (h : FrameHdr) (line : BitVec 48) (release : BitVec 64) (marks : BitVec 32) (targets : List (Fin 16 × BitVec 48)) : Held :=
  ⟨line.toNat, release.toNat, marks.toNat, targets.map fun x => (x.1.val, x.2.toNat), h.epoch.toNat, none⟩

section
variable {s : State} {p : Fin 4} {h : FrameHdr} {line : BitVec 48} {release : BitVec 64} {marks : BitVec 32}
  {targets : List (Fin 16 × BitVec 48)}

theorem exec_trigger : exec (.trigger p h line release marks targets) s = act s fun s =>
    s.receive p h (.trigger line release marks targets) release.toNat fun s => s.takeTrigger (heldOf h line release marks targets) := rfl

variable (hl : s.live = true) (hh : s.hears p h (.trigger line release marks targets) release.toNat)
include hl hh

theorem runs_trigger : ∃ t, Sent s t ∧
    Runs (.trigger p h line release marks targets) s (Clocked (t.takeTrigger (heldOf h line release marks targets))) := by
  refine ⟨_, s.heard_sent p h (.trigger line release marks targets), .of_clocked ?_ fun _ h => h⟩
  rw [exec_trigger, act_live hl, State.receive_atOnce hh _ (by simp [ircType])]

theorem runs_trigger_ignored (hr : s.role = 0 ∨ s.role = 3) : Runs (.trigger p h line release marks targets) s fun u =>
    u = s.heard p h (.trigger line release marks targets) := by
  refine .ignored hl exec_trigger ?_
  have hrole := (s.heard_sent p h (.trigger line release marks targets)).rd F.TB_STATUS_ROLE
  rw [State.receive_atOnce hh _ (by simp [ircType]), State.takeTrigger]
  have hno : (s.heard p h (.trigger line release marks targets)).role ≠ 1 ∧ (s.heard p h (.trigger line release marks targets)).role ≠ 2 := by
    rw [State.role, hrole]
    obtain hr | hr := hr <;> rw [State.role] at hr <;> omega
  rw [if_neg hno.1, if_neg hno.2]

end

/-- A member holds the line of a TRIGGER; one whose release has passed is late (R161). -/
theorem State.takeTrigger_member {t : State} (hr : t.role = 2) (x : Held) : (t.takeTrigger x).tb.held = t.tb.held ++ [x] ∧
    (x.release < t.now → Counted t (t.takeTrigger x) F.TB_LATE_CNT_COUNT ∧ (t.takeTrigger x).rd F.TB_STATUS_LATE = 1 ∧
      Pends (t.takeTrigger x) Ev.TB_TRIG_LATE) ∧
    (t.now ≤ x.release → (t.takeTrigger x).rd F.TB_LATE_CNT_COUNT = t.rd F.TB_LATE_CNT_COUNT) := by
  have htake : t.takeTrigger x = if x.release < t.now then
      (((t.hold x).bump F.TB_LATE_CNT_COUNT).wr F.TB_STATUS_LATE 1).raise Ev.TB_TRIG_LATE else t.hold x := by
    rw [State.takeTrigger, if_neg (by omega), if_pos hr]
  rw [htake]
  by_cases hlate : x.release < t.now
  · rw [if_pos hlate]
    refine ⟨?_, fun _ => ⟨?_, ?_, State.rd_raise_self _ _⟩, fun h => absurd hlate (by omega)⟩
    · refine (Timebase.of_core (State.raise_core _ _) (·.held) fun _ => rfl).trans ?_
      rw [State.wr_tb, State.bump_tb]
      rfl
    · refine (State.rd_raise _ _ F.TB_LATE_CNT_COUNT_part rfl).trans ?_
      exact (State.rd_wr_other _ F.TB_STATUS_LATE F.TB_LATE_CNT_COUNT 1 (by decide)).trans (State.rd_bump (t.hold x) _ (by decide))
    · exact (State.rd_raise _ _ F.TB_STATUS_LATE_part rfl).trans (State.rd_wr_fit _ _ _ (by decide) (by decide))
  · rw [if_neg hlate]
    exact ⟨rfl, fun h => absurd h hlate, fun _ => rfl⟩

/-! ### How lines are received and released -/

section
variable {s v w u : State} {l : Nat}

/-- What follows LINE keeps the lines held, what is put out and raised, and every field but LINE. -/
theorem State.followed_keeps (hu : Clocked (s.followed v l) u) : u.tb = v.tb ∧ Grows v u ∧
    ∀ f : Fld, f.off ≠ 0x80020 ∧ f.off ≠ 0x80024 → u.rd f = v.rd f := by
  have hgrows : Grows v (s.followed v l) := .ite (v.followLine_grows l) (.refl v)
  refine ⟨hu.tb.trans ?_, hgrows.leaves hu.leaves (by decide) (by decide), fun f hf => (hu.rd f).trans ?_⟩
  · unfold State.followed
    split
    · exact v.followLine_tb l
    · rfl
  · unfold State.followed
    split
    · exact v.followLine_rd l hf
    · rfl

theorem State.followed_leaves (s v : State) (l : Nat) : Leaves 0x100 v (s.followed v l) :=
  .ite (State.followLine_leaves (.refl _ v) rfl l) (.refl _ v)

/-- A member that has been armed has its LINE after the line released. -/
theorem State.followed_line (hu : Clocked (s.followed v l) u) (hr : s.role = 2) (ha : v.tb.armed = true) :
    u.line = (l + 1) % 2 ^ 48 := by
  rw [State.line_eq (hu.reg _) (hu.reg _), State.followed, if_pos hr]
  exact v.followLine_line l ha

end

/-- Settles O32: a due line is passed or delivered by the role and TRIG_EN, a member's LINE follows it, a TRIGGER is held, counted late or
passed by the role, and a due strobe leaves its port. -/
theorem lineRelease : Obligations.LineRelease := by
  unfold Obligations.LineRelease
  refine ⟨?delivers, ?passes, ?waits, ?strobe, ?strobeWaits, ?held, ?passed, ?notForMe⟩
  case delivers =>
    intro s x hl hd hr ht
    obtain ⟨u, hexec, hu⟩ := runs_triggerRelease_delivers hl hd hr ht
    obtain ⟨hkept, hreleased, hout⟩ := (s.takeLine x).deliverLine_delivers x
    obtain ⟨htb, hgrows, -⟩ := State.followed_keeps hu
    refine .of hexec ⟨hgrows.mem_out hout, ?_, ?_, fun hr ha => State.followed_line hu hr (hkept.armed.trans ha)⟩
    · rw [htb, hreleased]
    · rw [htb, hkept.held]
      rfl
  case passes =>
    intro s x hl hd h
    obtain ⟨r, u, hexec, hu⟩ := runs_triggerRelease_passes hl hd h
    obtain ⟨htb, hgrows, hrd⟩ := State.followed_keeps hu
    have hkept := (s.takeLine x).passLine_linesKept x.line
    refine .of hexec ⟨?_, fun ha hp => ?_, fun hsame => ?_, fun hr ha => ?_, ?_⟩
    · rw [htb]
      exact hkept.held
    · obtain ⟨hpassed, hcount, hpends⟩ := State.passLine_counted (s := s.takeLine x) ha hp
      refine ⟨?_, (hrd _ (by decide)).trans hcount, hgrows.rises _ hpends⟩
      rw [htb]
      exact hpassed
    · have hpass := State.passLine_same (s := s.takeLine x) hsame
      rw [htb, hrd _ (by decide), hpass]
      exact ⟨rfl, rfl⟩
    · exact State.followed_line hu hr (hkept.armed.trans ha)
    · have hpass := State.passLine_leaves (State.setTb_leaves (.refl 0x10001990080000002110 s) rfl
        { s.tb with held := s.tb.held.erase x }) rfl x.line
      have hall := ((State.setTb_leaves hpass rfl _).comp (State.followed_leaves _ _ _)).comp hu.leaves
      exact ⟨hall.same .gafs (by decide), hall.same .strobes (by decide)⟩
  case waits =>
    intro s hl hd
    exact runs_triggerRelease_waits hl hd
  case strobe =>
    intro s k x hl hrel hfree hx
    have hd : s.strobeDue k = some x := by
      simp only [State.strobeDue, hrel, hfree, Bool.not_false, Bool.and_self, if_true]
      exact hx
    obtain ⟨u, hexec, ⟨hout, hstrobes, htrig⟩, hkeeps⟩ := (runs_triggerPortStrobe_presents hl hd).and_keeps
    exact .of hexec ⟨hout, hstrobes, htrig, hkeeps⟩
  case strobeWaits =>
    intro s k hl hd
    exact runs_triggerPortStrobe_waits hl hd
  case held =>
    intro s p h line release marks targets hl hh hr
    obtain ⟨t, ht, u, hexec, hu⟩ := runs_trigger hl hh
    obtain ⟨hheld, hlate, hearly⟩ := State.takeTrigger_member ((ht.rd F.TB_STATUS_ROLE).trans hr) (heldOf h line release marks targets)
    have hkept : t.tb.held = s.tb.held := ht.field (·.held) fun _ => rfl
    refine .of hexec ⟨?_, fun hpast => ?_, fun hnow => ?_⟩
    · rw [hu.tb, hheld, hkept]
      rfl
    · obtain ⟨hcount, hflag, hpends⟩ := hlate (ht.now ▸ hpast)
      refine ⟨?_, (hu.rd _).trans hflag, hu.pends hpends⟩
      rw [Counted, hu.rd, hcount, ht.rd]
    · rw [hu.rd, hearly (ht.now.symm ▸ hnow), ht.rd]
  case passed =>
    intro s p h line release marks targets hl hh hr
    obtain ⟨t, ht, u, hexec, hu⟩ := runs_trigger hl hh
    have hrole : t.role = 1 := (ht.rd F.TB_STATUS_ROLE).trans hr
    rw [State.takeTrigger, if_pos hrole] at hu
    have harmed : t.tb.armed = s.tb.armed := ht.field (·.armed) fun _ => rfl
    have hpassed : t.tb.passed = s.tb.passed := ht.field (·.passed) fun _ => rfl
    have hheld : t.tb.held = s.tb.held := ht.field (·.held) fun _ => rfl
    have hkept := t.passLine_linesKept line.toNat
    have htb := hu.tb.trans (State.followLine_tb _ _)
    refine .of hexec ⟨fun ha => ?_, ?_, fun ha hp => ?_⟩
    · rw [State.line_eq (hu.reg _) (hu.reg _)]
      exact State.followLine_line _ _ (hkept.armed.trans (harmed.trans ha))
    · rw [htb]
      exact hkept.held.trans hheld
    · obtain ⟨h, -, -⟩ := State.passLine_counted (s := t) (l := line.toNat) (harmed.trans ha) (hpassed.symm ▸ hp)
      rw [htb, ← hpassed]
      exact h
  case notForMe =>
    intro s p h line release marks targets hl hh hr
    exact runs_trigger_ignored hl hh hr

end Sys2Proof.Machine

namespace Sys2Proof.Machine

/-! ### What an ELECT, an EPOCH, a JOIN_REQ and a LEAVE do to a device that takes them (R170–R174) -/

/-- ELECT in a device with GROUP_EN at 1 (R170). -/
def State.takeElect (s : State) (h : FrameHdr) (key time : Nat) : State :=
  if !s.on F.TB_CTRL_GROUP_EN then s
  else if (s.heardElect h key time).on F.TB_STATUS_ELECTING && decide (key < (s.heardElect h key time).tb.bestKey) then
    ((s.heardElect h key time).setTb { (s.heardElect h key time).tb with bestKey := key }).floodElect
  else s.heardElect h key time

/-- What a device in election makes of its best key when an ELECT names another (R170). -/
def State.electBest (s : State) (key : Nat) : Nat := if s.on F.TB_STATUS_ELECTING then min key s.tb.bestKey else s.tb.bestKey

theorem Sent.electBest {s t : State} (h : Sent s t) (key : Nat) : t.electBest key = s.electBest key := by
  have hbest : t.tb.bestKey = s.tb.bestKey := h.field (·.bestKey) fun _ => rfl
  rw [State.electBest, h.on, hbest, State.electBest]

section
variable (s : State) (h : FrameHdr) (key time : Nat)

theorem State.heardElect_bestKey : (s.heardElect h key time).tb.bestKey = s.tb.bestKey := by
  rw [State.heardElect_eq]
  rfl

theorem State.heardElect_regs : (s.heardElect h key time).regs = s.regs := by
  rw [State.heardElect_eq]
  rfl

theorem State.heardElect_on (f : Fld) : (s.heardElect h key time).on f = s.on f := by
  rw [State.heardElect_eq]
  rfl

/-- The best key known is adopted, and flooded where it is new. -/
theorem State.takeElect_sent (hg : s.on F.TB_CTRL_GROUP_EN = true) :
    Sent ((s.heardElect h key time).setTb { (s.heardElect h key time).tb with bestKey := s.electBest key }) (s.takeElect h key time) := by
  have hbest := s.heardElect_bestKey h key time
  rw [State.takeElect, hg, s.heardElect_on, hbest, State.electBest]
  by_cases hadopt : s.on F.TB_STATUS_ELECTING = true ∧ key < s.tb.bestKey
  · obtain ⟨he, hlt⟩ := hadopt
    rw [he, if_pos rfl, Nat.min_eq_left (Nat.le_of_lt hlt)]
    simp only [Bool.not_true, Bool.false_eq_true, if_false, hlt, decide_true, Bool.and_self, if_true]
    exact State.flood_sent _ _
  · have hno : (s.on F.TB_STATUS_ELECTING && decide (key < s.tb.bestKey)) = false := by simpa using hadopt
    have hkept : (if s.on F.TB_STATUS_ELECTING = true then min key s.tb.bestKey else s.tb.bestKey) = (s.heardElect h key time).tb.bestKey := by
      rw [hbest]
      split
      · next he => exact Nat.min_eq_right (Nat.le_of_not_lt fun hlt => hadopt ⟨he, hlt⟩)
      · rfl
    rw [hno, hkept]
    exact .refl _

end

theorem exec_elect {s : State} (p : Fin 4) (h : FrameHdr) (key : Key) (time : BitVec 64) : exec (.elect p h key time) s =
    act s fun s => s.receive p h (.elect key time) 0 fun s => s.takeElect h (keyNum key) time.toNat := rfl

section
variable {s : State} {p : Fin 4} {h : FrameHdr} (hl : s.live = true)
include hl

theorem runs_elect {key : Key} {time : BitVec 64} (hh : s.hears p h (.elect key time) 0) (hg : s.on F.TB_CTRL_GROUP_EN = true) :
    Runs (.elect p h key time) s fun u =>
      u.tb.heardKey = some (min (keyNum key) (s.tb.heardKey.getD (keyNum key))) ∧
      u.tb.electTime = max s.tb.electTime time.toNat ∧
      u.tb.electors = (h.src.val, h.hops.val + 1) :: s.tb.electors.filter (fun e => e.1 != h.src.val) ∧
      u.tb.bestKey = s.electBest (keyNum key) ∧
      u.regs = s.regs := by
  refine .hears hl (exec_elect p h key time) hh (by simp [ircType]) fun t u ht hu => ?_
  have hall := (t.takeElect_sent h (keyNum key) time.toNat ((ht.on _).trans hg)).trans hu
  have hkey : t.tb.heardKey = s.tb.heardKey := ht.field (·.heardKey) fun _ => rfl
  have htime : t.tb.electTime = s.tb.electTime := ht.field (·.electTime) fun _ => rfl
  have helectors : t.tb.electors = s.tb.electors := ht.field (·.electors) fun _ => rfl
  refine ⟨?_, ?_, ?_, (hall.field (·.bestKey) fun _ => rfl).trans (ht.electBest _), ?_⟩
  · refine (hall.field (·.heardKey) fun _ => rfl).trans ?_
    rw [← hkey, State.heardElect_eq]
    rfl
  · refine (hall.field (·.electTime) fun _ => rfl).trans ?_
    rw [← htime, State.heardElect_eq]
    rfl
  · refine (hall.field (·.electors) fun _ => rfl).trans ?_
    rw [← helectors, State.heardElect_eq]
    rfl
  · exact hall.regs.trans ((t.heardElect_regs h (keyNum key) time.toNat).trans ht.regs)

theorem runs_elect_ignored {key : Key} {time : BitVec 64} (hh : s.hears p h (.elect key time) 0) (hg : s.on F.TB_CTRL_GROUP_EN = false) :
    Runs (.elect p h key time) s fun u => u = s.heard p h (.elect key time) := by
  refine .ignored hl (exec_elect p h key time) (State.receive_ignored hh _ (by simp [ircType]) fun t ht => ?_)
  rw [State.takeElect, ht.on, hg]
  rfl

end

/-! ### EPOCH (R171) -/

/-- An EPOCH of device `src` in a device that has acknowledged it. -/
def State.takeEpoch (s : State) (src : Nat) (e : PendingEpoch) : State :=
  if s.takesEpoch src e.num then
    (s.sawEpoch e.num).setTb { (s.sawEpoch e.num).tb with pendEpochs := (s.sawEpoch e.num).tb.pendEpochs ++ [e] }
  else s

/-- The epoch that an EPOCH of a master names. -/
def epochNamed (h : FrameHdr) (num : BitVec 16) (act map : BitVec 64) (hops : List (Fin 64 × Fin 16)) (step : BitVec 64) : PendingEpoch :=
  ⟨num.toNat, act.toNat, map.toNat, hops.map fun x => (x.1.val, x.2.val), step.toNat, h.src.val⟩

theorem exec_epoch {s : State} (p : Fin 4) (h : FrameHdr) (num : BitVec 16) (act_ map : BitVec 64) (hops : List (Fin 64 × Fin 16))
    (step : BitVec 64) : exec (.epoch p h num act_ map hops step) s = act s fun s =>
      s.receive p h (.epoch num act_ map hops step) 0 fun s =>
        (s.ackTo p h (.epoch num act_ map hops step)).takeEpoch h.src.val (epochNamed h num act_ map hops step) := rfl

/-- What is sent to one device has left on the port named. -/
theorem State.sendTo_mem {s t : State} {p dst : Nat} {m : IrcMsg} (ht : (s.sendTo p dst m).out <+: t.out) : ∃ g, Output.irc p g m ∈ t.out := by
  refine ⟨sealed (s.hdr m false dst) m, ht.subset ?_⟩
  rw [State.sendTo_out]
  exact List.mem_append_right _ (List.mem_singleton.2 rfl)

section
variable {s : State} {src : Nat} {e : PendingEpoch}

/-- An epoch that is taken waits beside those taken before it, and its number counts among those heard of. -/
theorem State.takeEpoch_new (hn : s.takesEpoch src e.num = true) : s.takeEpoch src e = s.setTb { s.tb with
    maxEpoch := some (s.tb.maxEpoch.elim e.num fun m => if newerEpoch e.num m then e.num else m)
    pendEpochs := s.tb.pendEpochs ++ [e] } := by
  rw [State.takeEpoch, hn, if_pos rfl, State.sawEpoch_eq]
  rfl

theorem State.takeEpoch_old (hn : s.takesEpoch src e.num = false) : s.takeEpoch src e = s := by
  rw [State.takeEpoch, hn, if_neg Bool.false_ne_true]

end

section
variable {s : State} {p : Fin 4} {h : FrameHdr} {num : BitVec 16} {act_ map : BitVec 64} {hops : List (Fin 64 × Fin 16)}
  {step : BitVec 64} (hl : s.live = true) (hh : s.hears p h (.epoch num act_ map hops step) 0)
include hl hh

theorem runs_epoch_acked {P : State → Prop} (hP : ∀ t u, Sent s t → (∃ g, Output.irc p g (.ack 5#8 h.seq) ∈ t.out) →
    Sent (t.takeEpoch h.src.val (epochNamed h num act_ map hops step)) u → P u) : Runs (.epoch p h num act_ map hops step) s P := by
  refine .hears hl (exec_epoch p h num act_ map hops step) hh (by simp [ircType]) fun t u ht hu => ?_
  exact hP _ u (ht.trans (t.ackTo_sent p h (.epoch num act_ map hops step))) (State.sendTo_mem List.prefix_rfl) hu

theorem runs_epoch (hn : s.takesEpoch h.src.val num.toNat = true) : Runs (.epoch p h num act_ map hops step) s fun u =>
    u.tb.pendEpochs = s.tb.pendEpochs ++ [epochNamed h num act_ map hops step] ∧
    (u.tb.maxEpoch = some (s.tb.maxEpoch.elim num.toNat fun m => if newerEpoch num.toNat m then num.toNat else m)) ∧
    (∃ g, Output.irc p g (.ack 5#8 h.seq) ∈ u.out) ∧
    u.regs = s.regs := by
  refine runs_epoch_acked hl hh fun t u ht ⟨g, hg⟩ hu => ?_
  have htakes : t.takesEpoch h.src.val (epochNamed h num act_ map hops step).num = true := (ht.takesEpoch _ _).trans hn
  have hpend : t.tb.pendEpochs = s.tb.pendEpochs := ht.field (·.pendEpochs) fun _ => rfl
  have hmax : t.tb.maxEpoch = s.tb.maxEpoch := ht.field (·.maxEpoch) fun _ => rfl
  rw [State.takeEpoch_new htakes] at hu
  refine ⟨?_, ?_, ⟨g, hu.grows.mem_out hg⟩, hu.regs.trans ht.regs⟩
  · rw [← hpend]
    exact hu.field (·.pendEpochs) fun _ => rfl
  · rw [← hmax]
    exact hu.field (·.maxEpoch) fun _ => rfl

theorem runs_epoch_old (hn : s.takesEpoch h.src.val num.toNat = false) : Runs (.epoch p h num act_ map hops step) s fun u =>
    u.tb.pendEpochs = s.tb.pendEpochs ∧
    (∃ g, Output.irc p g (.ack 5#8 h.seq) ∈ u.out) ∧
    u.regs = s.regs := by
  refine runs_epoch_acked hl hh fun t u ht ⟨g, hg⟩ hu => ?_
  have htakes : t.takesEpoch h.src.val (epochNamed h num act_ map hops step).num = false := (ht.takesEpoch _ _).trans hn
  rw [State.takeEpoch_old htakes] at hu
  exact ⟨(ht.trans hu).field (·.pendEpochs) fun _ => rfl, ⟨g, hu.grows.mem_out hg⟩, (ht.trans hu).regs⟩

end

/-! ### JOIN_REQ and JOIN_ACK (R172) -/

/-- The reason for which the master refuses a joiner, if any (R172). -/
def State.joinVerdict (s : State) (id hops : Nat) (d : BitVec 64) : Option (Fin 4) :=
  if bit s.nextGroup.1 id && !(decide (d ≠ 0) && s.tb.electees.contains id) then some 1
  else if 16 * s.rd F.TB_REL_REL_OFFSET < 400 + 2000 * hops then some 2
  else if 64 ≤ (bitsOf 64 (setBitTo s.nextGroup.1 id false)).length then some 3
  else none

theorem State.setTb_grows (s : State) (x : Timebase) : Grows s (s.setTb x) := (Grows.refl s).setTb x

/-- The master admits a joiner beside the members of `g` (R172, R173). -/
def State.acceptJoin (s : State) (g : Nat × List (Nat × Nat)) (id hops d : Nat) : State :=
  (s.setTb { s.tb with electees := s.tb.electees.erase id }).issueEpoch (setBitTo g.1 id true)
    ((g.2.filter fun x => x.1 != id) ++ [(id, hops)]) ((d - s.pendingStep + 15) / 16 * 16)

/-- JOIN_REQ in a device that has acknowledged it to device `dst`. -/
def State.answerJoin (s : State) (p dst id hops : Nat) (d : BitVec 64) : State :=
  match s.joinVerdict id hops d with
  | some r => s.sendTo p dst (.joinAck (some r))
  | none => (s.sendTo p dst (.joinAck none)).acceptJoin s.nextGroup id hops d.toNat

theorem Sent.joinVerdict {s t : State} (h : Sent s t) (id hops : Nat) (d : BitVec 64) : t.joinVerdict id hops d = s.joinVerdict id hops d := by
  have helectees : t.tb.electees = s.tb.electees := h.field (·.electees) fun _ => rfl
  rw [State.joinVerdict, h.nextGroup, helectees, h.rd, State.joinVerdict]

theorem Sent.pendingStep {s t : State} (h : Sent s t) : t.pendingStep = s.pendingStep := by
  have hpend : t.tb.pendEpochs = s.tb.pendEpochs := h.field (·.pendEpochs) fun _ => rfl
  rw [State.pendingStep, hpend, State.pendingStep]

theorem exec_joinReq {s : State} (p : Fin 4) (h : FrameHdr) (key : Key) (id : Fin 64) (hops : Fin 16) (d : BitVec 64) :
    exec (.joinReq p h key id hops d) s = act s fun s => s.receive p h (.joinReq key id hops d) 0 fun s =>
      if s.role ≠ 3 then s else (s.ackTo p h (.joinReq key id hops d)).answerJoin p h.src.val id hops d := by
  refine congrArg (act s) (funext fun s => congrArg (State.receive s p h _ 0) (funext fun t => ?_))
  dsimp only
  split
  · rfl
  · rw [State.answerJoin, State.joinVerdict]
    split
    · rfl
    · split
      · rfl
      · split
        · rfl
        · rfl

section
variable {s : State} {p : Fin 4} {h : FrameHdr} {key : Key} {id : Fin 64} {hops : Fin 16} {d : BitVec 64}
  (hl : s.live = true) (hh : s.hears p h (.joinReq key id hops d) 0) (hr : s.role = 3)
include hl hh hr

theorem runs_joinReq {P : State → Prop} (hP : ∀ t u, Sent s t → Sent (t.answerJoin p h.src.val id hops d) u → P u) :
    Runs (.joinReq p h key id hops d) s P := by
  refine .hears hl (exec_joinReq p h key id hops d) hh (by simp [ircType]) fun t u ht hu => ?_
  have hmaster : ¬t.role ≠ 3 := not_not.2 ((ht.rd _).trans hr)
  rw [if_neg hmaster] at hu
  exact hP _ u (ht.trans (t.ackTo_sent p h _)) hu

/-- A joiner that is refused is told the reason. -/
theorem runs_joinReq_refused {r : Fin 4} (hv : s.joinVerdict id hops d = some r) : Runs (.joinReq p h key id hops d) s fun u =>
    (∃ g, Output.irc p g (.joinAck (some r)) ∈ u.out) ∧ u.tb.pendEpochs = s.tb.pendEpochs ∧ u.regs = s.regs := by
  refine runs_joinReq hl hh hr fun t u ht hu => ?_
  rw [State.answerJoin, (ht.joinVerdict _ _ _).trans hv] at hu
  have hall := (ht.trans (t.sendTo_sent p h.src.val (.joinAck (some r)))).trans hu
  exact ⟨State.sendTo_mem hu.emits, hall.field (·.pendEpochs) fun _ => rfl, hall.regs⟩

/-- A joiner that is admitted is named by an epoch that is pending. -/
theorem runs_joinReq_admitted (hv : s.joinVerdict id hops d = none) : Runs (.joinReq p h key id hops d) s fun u =>
    u.tb.pendEpochs = s.tb.pendEpochs ++ [s.epochOf (setBitTo s.nextGroup.1 id true)
      ((s.nextGroup.2.filter fun x => x.1 != id.val) ++ [(id.val, hops.val)]) ((d.toNat - s.pendingStep + 15) / 16 * 16)] ∧
    (∃ g, Output.irc p g (.joinAck none) ∈ u.out) ∧ u.regs = s.regs := by
  refine runs_joinReq hl hh hr fun t u ht hu => ?_
  rw [State.answerJoin, (ht.joinVerdict _ _ _).trans hv, ht.nextGroup] at hu
  have hall := ht.trans (t.sendTo_sent p h.src.val (.joinAck none))
  have hmem : ∃ g, Output.irc p g (.joinAck none) ∈ (t.sendTo p h.src.val (.joinAck none)).out := State.sendTo_mem List.prefix_rfl
  dsimp only at hu
  generalize t.sendTo p h.src.val (.joinAck none) = x at hu hall hmem
  rw [State.acceptJoin, hall.pendingStep] at hu
  obtain ⟨g, hg⟩ := hmem
  have hpend : x.tb.pendEpochs = s.tb.pendEpochs := hall.field (·.pendEpochs) fun _ => rfl
  have hissued := State.issueEpoch_pend (x.setTb { x.tb with electees := x.tb.electees.erase id.val }) (setBitTo s.nextGroup.1 id true)
    ((s.nextGroup.2.filter fun x => x.1 != id.val) ++ [(id.val, hops.val)]) ((d.toNat - s.pendingStep + 15) / 16 * 16)
  refine ⟨(hu.field (·.pendEpochs) fun _ => rfl).trans (hissued.trans ?_), ⟨g, hu.grows.mem_out ?_⟩, ?_⟩
  · rw [← hall.epochOf, ← hpend]
    rfl
  · exact ((x.setTb_grows _).trans (State.issueEpoch_grows _ _ _ _)).mem_out hg
  · exact hu.regs.trans ((State.issueEpoch_regs _ _ _ _).trans hall.regs)

end

/-- The hops of a joiner are among those of the epoch that admits it. -/
theorem State.mem_epochOf_hops (s : State) (g : Nat) (l : List (Nat × Nat)) (id hops step : Nat) :
    (id, hops) ∈ (s.epochOf (setBitTo g id true) (l ++ [(id, hops)]) step).hops := by
  refine List.mem_filter.2 ⟨List.mem_append_right _ (List.mem_singleton.2 rfl), ?_⟩
  exact testBit_setBitTo g id true

/-! ### JOIN_ACK (R172) -/

theorem exec_joinAck {s : State} (p : Fin 4) (h : FrameHdr) (refused : Option (Fin 4)) : exec (.joinAck p h refused) s =
    act s fun s => s.receive p h (.joinAck refused) 0 fun s =>
      (if refused.isSome then s.raise Ev.TB_JOIN_REFUSED else s).ackTo p h (.joinAck refused) := rfl

/-- A refusal is raised, and every answer acknowledged. -/
theorem runs_joinAck {s : State} {p : Fin 4} {h : FrameHdr} {refused : Option (Fin 4)} (hl : s.live = true)
    (hh : s.hears p h (.joinAck refused) 0) : Runs (.joinAck p h refused) s fun u =>
      (∃ g, Output.irc p g (.ack 7#8 h.seq) ∈ u.out) ∧ (refused.isSome = true → Pends u Ev.TB_JOIN_REFUSED) ∧
      (refused = none → u.regs = s.regs) := by
  refine .hears hl (exec_joinAck p h refused) hh (by simp [ircType]) fun t u ht hu => ?_
  refine ⟨State.sendTo_mem hu.emits, fun hr => ?_, fun hr => ?_⟩
  · rw [hr, if_pos rfl] at hu
    exact ((State.ackTo_sent _ p h _).trans hu).rises _ (State.rd_raise_self _ _)
  · subst hr
    exact ((ht.trans (t.ackTo_sent p h _)).trans hu).regs

/-! ### LEAVE (R174) -/

/-- LEAVE of member `id` in a device that takes it. -/
def State.takeLeave (s : State) (id : Nat) : State :=
  if s.role = 3 && bit s.members id then s.dropMember id
  else if s.role = 2 && s.rd F.TB_GROUP_MASTER_ID == id then s.enterElection
  else s

theorem exec_leave {s : State} (p : Fin 4) (h : FrameHdr) (id : Fin 64) : exec (.leave p h id) s =
    act s fun s => s.receive p h (.leave id) 0 fun s => (s.takeLeave id).ackTo p h (.leave id) := rfl

theorem Sent.members {s t : State} (h : Sent s t) : t.members = s.members := h.rd64 _

theorem runs_leave {s : State} {p : Fin 4} {h : FrameHdr} {id : Fin 64} (hl : s.live = true) (hh : s.hears p h (.leave id) 0) :
    Runs (.leave p h id) s fun u =>
      (∃ g, Output.irc p g (.ack 8#8 h.seq) ∈ u.out) ∧
      (s.role = 3 → bit s.members id.val = true →
        u.tb.pendEpochs = s.tb.pendEpochs ++ [s.epochOf (setBitTo s.nextGroup.1 id false) s.nextGroup.2 0]) ∧
      (s.role = 2 → s.rd F.TB_GROUP_MASTER_ID = id.val → u.on F.TB_STATUS_ELECTING = true ∧ u.role = 1 ∧ u.tb.inEpoch = false) := by
  refine .hears hl (exec_leave p h id) hh (by simp [ircType]) fun t u ht hu => ?_
  have hack := (State.ackTo_sent (t.takeLeave id) p h (.leave id)).trans hu
  refine ⟨State.sendTo_mem hu.emits, fun hr hm => ?_, fun hr hm => ?_⟩
  · have htake : t.takeLeave id = t.dropMember id := by
      refine if_pos ?_
      rw [State.role, ht.rd, ht.members, hm]
      exact (Bool.and_true _).trans (decide_eq_true hr)
    rw [htake, State.dropMember, ht.nextGroup] at hack
    refine (hack.field (·.pendEpochs) fun _ => rfl).trans ((State.issueEpoch_pend _ _ _ _).trans ?_)
    rw [ht.epochOf]
    exact congrArg (· ++ _) (ht.field (·.pendEpochs) fun _ => rfl)
  · have htake : t.takeLeave id = t.enterElection := by
      have hrole : t.role = 2 := (ht.rd _).trans hr
      have hmaster : t.rd F.TB_GROUP_MASTER_ID = id.val := (ht.rd _).trans hm
      rw [State.takeLeave, hrole, hmaster]
      simp
    rw [htake] at hack
    refine ⟨(hack.on _).trans t.enterElection_electing, (hack.rd _).trans t.enterElection_role, ?_⟩
    refine (hack.field (·.inEpoch) fun _ => rfl).trans ?_
    exact Timebase.of_core t.enterElection_core (·.inEpoch) fun _ => rfl

end Sys2Proof.Machine

namespace Sys2Proof.Machine

/-! ### Group time (R173, R177) -/

section
variable (s : State) (t : Nat)

theorem State.rd64_lt (lo : Nat) : s.rd64 lo < 2 ^ 64 := by
  have hlo := (s.reg lo).isLt
  have hhi := (s.reg (lo + 4)).isLt
  rw [State.rd64]
  omega

/-- TB_TIME is stepped to a time, as far as its 64 bits go. -/
theorem State.stepTime_now : (s.stepTime t).now = t % 2 ^ 64 := by
  unfold State.stepTime
  split
  · next h =>
    rw [h]
    exact (Nat.mod_eq_of_lt (s.rd64_lt 0x80030)).symm
  · refine (State.rd64_eq (State.reg_bump_ne _ (by decide)) (State.reg_bump_ne _ (by decide))).trans ?_
    exact State.rd64_wr64 _ 0x80030 t

theorem State.stepTime_tb : ∃ n, (s.stepTime t).tb = { s.tb with stepped := n } := by
  unfold State.stepTime
  split
  · exact ⟨s.tb.stepped, rfl⟩
  · exact ⟨_, State.bump_tb _ _⟩

theorem State.stepTime_rd {f : Fld} (hf : f.off ≠ 0x80030 ∧ f.off ≠ 0x80034 ∧ f.off ≠ 0x80070) : (s.stepTime t).rd f = s.rd f := by
  obtain ⟨hlo, hhi, hcnt⟩ := hf
  unfold State.stepTime
  split
  · rfl
  · exact congrArg f.of ((State.reg_bump_ne _ hcnt).trans (State.reg_wr64_ne _ _ hlo hhi))

theorem State.stepTime_grows : Grows s (s.stepTime t) :=
  (Grows.refl s).leaves (State.stepTime_leaves (.refl 0x80000000100 s) rfl t) (by decide) (by decide)

/-- The time of the group, where it is not behind; otherwise the lead is noted (R177). -/
def State.takeTime : State :=
  if s.now ≤ t then s.stepTime t else (s.setTb { s.tb with offsetD := s.now - t }).wr F.TB_STATUS_TIME_AHEAD 1

theorem State.takeTime_leaves : Leaves 0x80000000100 s (s.takeTime t) :=
  .ite (State.stepTime_leaves (.refl _ s) rfl t) ((State.setTb_leaves (.refl _ s) rfl _).wr (by decide))

theorem State.takeTime_tb : ∃ n d, (s.takeTime t).tb = { s.tb with stepped := n, offsetD := d } := by
  unfold State.takeTime
  split
  · obtain ⟨n, h⟩ := s.stepTime_tb t
    exact ⟨n, s.tb.offsetD, h⟩
  · exact ⟨s.tb.stepped, _, State.wr_tb _ _ _⟩

theorem State.takeTime_rd {f : Fld} (hf : f.off ≠ 0x80030 ∧ f.off ≠ 0x80034 ∧ f.off ≠ 0x80070) (ha : F.TB_STATUS_TIME_AHEAD.clear f = true) :
    (s.takeTime t).rd f = s.rd f := by
  unfold State.takeTime
  split
  · exact s.stepTime_rd t hf
  · exact State.rd_wr_clear _ _ ha

theorem State.takeTime_now (h : s.now ≤ t) : (s.takeTime t).now = t % 2 ^ 64 := by
  rw [State.takeTime, if_pos h, s.stepTime_now t]

theorem State.takeTime_ahead (h : t < s.now) : (s.takeTime t).rd F.TB_STATUS_TIME_AHEAD = 1 ∧ (s.takeTime t).tb.offsetD = s.now - t := by
  rw [State.takeTime, if_neg (by omega)]
  exact ⟨State.rd_wr_fit _ _ _ (by decide) (by decide), congrArg Timebase.offsetD (State.wr_tb _ _ _)⟩

end

/-! ### The port that a device aligns through (R171, R177) -/

/-- A choice among candidates is one of them. -/
theorem foldl_choice_mem {α : Type} (better : α → α → Prop) [DecidableRel better] (l : List α) (b : α) :
    l.foldl (fun b q => if better q b then q else b) b ∈ b :: l := by
  induction l generalizing b with
  | nil => exact .head _
  | cons q l ih =>
    rw [List.foldl_cons]
    by_cases hb : better q b
    · rw [if_pos hb]
      exact List.mem_cons_of_mem _ (ih q)
    · rw [if_neg hb]
      obtain h | h := List.mem_cons.1 (ih b)
      · exact List.mem_cons.2 (.inl h)
      · exact List.mem_cons_of_mem _ (List.mem_cons_of_mem _ h)

theorem State.groupPorts_lt {s : State} {q : Nat} (h : q ∈ s.groupPorts) : q < 4 := List.mem_range.1 (List.mem_filter.1 h).1

theorem State.alignPort_lt (s : State) {p : Nat} (hp : p < 4) : s.alignPort p < 4 := by
  unfold State.alignPort
  dsimp only
  split
  · exact s.rd_lt F.TB_STATUS_UPSTREAM
  · obtain h | h := List.mem_cons.1 (foldl_choice_mem (fun q b => (s.ircp q).peerHops * 64 + s.rd (F.IRC_STATUS_PEER_ID q) <
      (s.ircp b).peerHops * 64 + s.rd (F.IRC_STATUS_PEER_ID b))
      (s.groupPorts.filter fun q => (s.ircp q).peerCurrent && s.on (F.IRC_HOP_DELAY_VALID q)) p)
    · exact h.trans_lt hp
    · exact State.groupPorts_lt (List.mem_filter.1 h).1

/-- The choice rests on the ports and on the upstream port alone. -/
theorem State.alignPort_congr {m : Nat} {s t : State} (h : Leaves m s t) (hirc : m.testBit Part.irc.ctorIdx = false)
    (hregs : m.testBit Part.ircRegs.ctorIdx = false) (hin : t.tb.inEpoch = s.tb.inEpoch)
    (hup : t.rd F.TB_STATUS_UPSTREAM = s.rd F.TB_STATUS_UPSTREAM) (p : Nat) : t.alignPort p = s.alignPort p := by
  have hport (q : Nat) : t.ircp q = s.ircp q := congrArg (Tab.get (fun _ => IrcPort.init) · q) (h.same .irc hirc)
  have hstate (q : Nat) : t.rd (F.IRC_STATUS_STATE q) = s.rd (F.IRC_STATUS_STATE q) := h.rd (F.IRC_STATUS_STATE_part q) (by decide) hregs
  have hpeer (q : Nat) : t.rd (F.IRC_STATUS_PEER_ID q) = s.rd (F.IRC_STATUS_PEER_ID q) :=
    h.rd (F.IRC_STATUS_PEER_ID_part q) (by decide) hregs
  have hvalid (q : Nat) : t.on (F.IRC_HOP_DELAY_VALID q) = s.on (F.IRC_HOP_DELAY_VALID q) :=
    h.on (F.IRC_HOP_DELAY_VALID_part q) (by decide) hregs
  simp only [State.alignPort, State.groupPorts, hport, hstate, hpeer, hvalid, hin, hup]

/-! ### A device that is aligned (R177) -/

theorem State.followPort_tb (s : State) (p : Nat) :
    (s.followPort p).tb = { s.tb with pllRef := .port p, pllLead := s.rd (F.IRC_HOP_DELAY_DELAY p) } := rfl

section
variable (s : State) (q : Nat)

theorem State.withUpstream_tb : (s.withUpstream q).tb = s.tb := (State.wr_tb _ _ _).trans (s.markUpstream_tb _)

theorem State.withUpstream_status : StatusOnly s (s.withUpstream q) := (s.markUpstream_status _).wr q rfl

theorem State.setUpstream_status : StatusOnly s (s.setUpstream q) := by
  rw [State.setUpstream_eq]
  exact .ite ((s.withUpstream_status q).setTb _) (s.withUpstream_status q)

theorem State.setUpstream_grows : Grows s (s.setUpstream q) :=
  (Grows.refl s).leaves (State.setUpstream_leaves (.refl 0x80000010100 s) rfl q) (by decide) (by decide)

theorem State.setUpstream_tb : ∃ r l, (s.setUpstream q).tb = { s.tb with pllRef := r, pllLead := l } := by
  rw [State.setUpstream_eq, ← s.withUpstream_tb q]
  split
  · exact ⟨_, _, State.followPort_tb _ q⟩
  · exact ⟨(s.withUpstream q).tb.pllRef, (s.withUpstream q).tb.pllLead, rfl⟩

theorem State.setUpstream_pllRef (h : s.on F.TB_STATUS_ALIGNED = true) : (s.setUpstream q).tb.pllRef = .port q := by
  have hon : (s.withUpstream q).on F.TB_STATUS_ALIGNED = true := by
    rw [State.on, s.withUpstream_rd ⟨fun _ => .inr rfl, .inr rfl⟩]
    exact h
  rw [State.setUpstream_eq, hon, if_pos rfl, State.followPort_tb]

theorem State.setUpstream_upstream (hq : q < 4) : (s.setUpstream q).rd F.TB_STATUS_UPSTREAM = q := by
  have hwr : (s.withUpstream q).rd F.TB_STATUS_UPSTREAM = q := State.rd_wr_fit _ _ _ (by decide) hq
  rw [State.setUpstream_eq]
  split
  · rw [State.followPort_rd, hwr]
  · exact hwr

end

theorem State.askJoin_sent (s : State) : Sent s s.askJoin := by
  unfold State.askJoin
  dsimp only
  split
  · exact s.sendTo_sent _ _ _
  · exact .refl s

/-- A device whose upstream is set is a member where an epoch names it, and asks to join otherwise (R172, R177). -/
def State.enterGroup (s : State) : State :=
  if s.tb.inEpoch && s.role == 1 && !s.on F.TB_STATUS_TIME_AHEAD then s.setRole 2 else s.askJoin

theorem State.align_eq (s : State) (p t : Nat) :
    s.align p t = (((s.takeTime t).setAligned true).setUpstream ((s.takeTime t).alignPort p)).enterGroup := rfl

section
variable (s : State)

theorem State.enterGroup_rd {f : Fld} (hp : regPart f.off = .tbRegs) (hf : F.TB_STATUS_ROLE.clear f = true) : s.enterGroup.rd f = s.rd f := by
  unfold State.enterGroup
  split
  · exact s.setRole_rd 2 hp hf
  · exact s.askJoin_sent.rd f

theorem State.enterGroup_core : s.enterGroup.tb.core = s.tb.core := by
  unfold State.enterGroup
  split
  · exact s.setRole_core 2
  · exact s.askJoin_sent.core

theorem State.enterGroup_grows : Grows s s.enterGroup := .ite (s.setRole_grows 2) s.askJoin_sent.grows

theorem State.enterGroup_status : StatusOnly s s.enterGroup := .ite (s.setRole_status 2) ((StatusOnly.refl s).sent s.askJoin_sent)

end

/-- What a device that has been aligned through port `q` shows. -/
structure AlignedBy (s u : State) (q : Nat) : Prop where
  aligned : u.on F.TB_STATUS_ALIGNED = true
  upstream : u.rd F.TB_STATUS_UPSTREAM = q
  pllRef : u.tb.pllRef = .port q
  pends : Pends u Ev.TB_ALIGN
  heartbeat : u.tb.lastHeartbeat = s.tb.lastHeartbeat
  offset : u.tb.offsetD = s.tb.offsetD
  ahead : u.rd F.TB_STATUS_TIME_AHEAD = s.rd F.TB_STATUS_TIME_AHEAD
  now : u.now = s.now

theorem State.alignedBy {s : State} {q : Nat} (hq : q < 4) (ha : s.on F.TB_STATUS_ALIGNED = false) :
    AlignedBy s ((s.setAligned true).setUpstream q).enterGroup q := by
  have hcore := s.setAligned_core true
  have hon : (s.setAligned true).on F.TB_STATUS_ALIGNED = true := s.setAligned_on true
  have hpends : Pends (s.setAligned true) Ev.TB_ALIGN := s.setAligned_pends (by rw [ha]; exact Bool.false_ne_true)
  have hahead : (s.setAligned true).rd F.TB_STATUS_TIME_AHEAD = s.rd F.TB_STATUS_TIME_AHEAD := s.setAligned_rd true rfl rfl
  have hnow : (s.setAligned true).now = s.now := (s.setAligned_status true).now
  generalize s.setAligned true = v at *
  obtain ⟨r, l, htb⟩ := v.setUpstream_tb q
  have hentered := (v.setUpstream q).enterGroup_core
  constructor
  case aligned =>
    rw [State.on, State.enterGroup_rd _ rfl rfl, v.setUpstream_rd ⟨fun _ => .inr rfl, .inr rfl⟩]
    exact hon
  case upstream => rw [State.enterGroup_rd _ rfl rfl, v.setUpstream_upstream q hq]
  case pllRef => exact (Timebase.of_core hentered (·.pllRef) fun _ => rfl).trans (v.setUpstream_pllRef q hon)
  case pends => exact (State.enterGroup_grows _).rises _ ((v.setUpstream_grows q).rises _ hpends)
  case heartbeat =>
    refine (Timebase.of_core hentered (·.lastHeartbeat) fun _ => rfl).trans ?_
    rw [htb]
    exact Timebase.of_core hcore (·.lastHeartbeat) fun _ => rfl
  case offset =>
    refine (Timebase.of_core hentered (·.offsetD) fun _ => rfl).trans ?_
    rw [htb]
    exact Timebase.of_core hcore (·.offsetD) fun _ => rfl
  case ahead => rw [State.enterGroup_rd _ rfl rfl, v.setUpstream_rd ⟨fun _ => .inr rfl, .inr rfl⟩, hahead]
  case now => rw [(State.enterGroup_status _).now, (v.setUpstream_status q).now, hnow]

end Sys2Proof.Machine

namespace Sys2Proof.Machine

/-! ### HEARTBEAT (R174, R177) -/

theorem Sent.alignPort {s t : State} (h : Sent s t) (p : Nat) : t.alignPort p = s.alignPort p :=
  State.alignPort_congr h.leaves (by decide) (by decide) (h.field (·.inEpoch) fun _ => rfl) (h.rd _) p

theorem Sent.groupTime {s t : State} (h : Sent s t) (p : Nat) (hd : FrameHdr) (time : Nat) : t.groupTime p hd time = s.groupTime p hd time := by
  have hfree : t.draw = s.draw := congrArg Config.freeValue (h.leaves.same .free (by decide))
  rw [State.groupTime, h.rd, hfree, State.groupTime]

theorem State.align_aligns {s : State} {p : Nat} (hp : p < 4) (ha : s.on F.TB_STATUS_ALIGNED = false) (t : Nat) :
    AlignedBy (s.takeTime t) (s.align p t) (s.alignPort p) := by
  have hoff : (s.takeTime t).on F.TB_STATUS_ALIGNED = false := by
    rw [State.on, s.takeTime_rd t (by decide) rfl]
    exact ha
  have hin : (s.takeTime t).tb.inEpoch = s.tb.inEpoch := by
    obtain ⟨n, d, h⟩ := s.takeTime_tb t
    rw [h]
  have hport : (s.takeTime t).alignPort p = s.alignPort p :=
    State.alignPort_congr (s.takeTime_leaves t) (by decide) (by decide) hin (s.takeTime_rd t (by decide) rfl) p
  rw [State.align_eq, hport]
  exact State.alignedBy (s.alignPort_lt hp) hoff

/-- A HEARTBEAT is noted. -/
def State.beat (s : State) : State := s.setTb { s.tb with lastHeartbeat := s.real }

/-- Does the device align to a HEARTBEAT on port `p` (R177)? -/
def State.mayAlign (s : State) (p : Nat) : Bool :=
  decide (s.role = 1) && !s.on F.TB_STATUS_ALIGNED && !s.on F.TB_STATUS_ELECTING && s.on (F.IRC_HOP_DELAY_VALID p)

/-- HEARTBEAT in a device that takes it. -/
def State.takeHeartbeat (s : State) (p : Nat) (h : FrameHdr) (time : Nat) : State :=
  if s.beat.mayAlign p then (if h.hops.val = 0 then s.beat else s.beat.drawn).align p (s.beat.groupTime p h time) else s.beat

theorem exec_heartbeat {s : State} (p : Fin 4) (h : FrameHdr) (time : BitVec 64) : exec (.heartbeat p h time) s =
    act s fun s => s.receive p h (.heartbeat time) 0 fun s => s.takeHeartbeat p h time.toNat := rfl

theorem State.takeHeartbeat_aligns {s : State} {p : Nat} (hm : s.mayAlign p = true) (h : FrameHdr) (time : Nat) :
    ∃ n, s.takeHeartbeat p h time = (s.beat.withFree n).align p (s.groupTime p h time) := by
  have hbeat : s.beat.mayAlign p = true := hm
  rw [State.takeHeartbeat, hbeat, if_pos rfl]
  split
  · exact ⟨s.free, rfl⟩
  · exact ⟨s.free + 1, rfl⟩

theorem State.takeHeartbeat_waits {s : State} {p : Nat} (hm : s.mayAlign p = false) (h : FrameHdr) (time : Nat) :
    s.takeHeartbeat p h time = s.beat := by
  have hbeat : s.beat.mayAlign p = false := hm
  rw [State.takeHeartbeat, hbeat, if_neg Bool.false_ne_true]

theorem Sent.mayAlign {s t : State} (h : Sent s t) (p : Nat) : t.mayAlign p = s.mayAlign p := by
  rw [State.mayAlign, State.role, h.rd, h.on, h.on, h.on, State.mayAlign, State.role]

theorem State.mayAlign_of {s : State} {p : Nat} (hr : s.role = 1) (ha : s.on F.TB_STATUS_ALIGNED = false)
    (he : s.on F.TB_STATUS_ELECTING = false) (hv : s.on (F.IRC_HOP_DELAY_VALID p) = true) : s.mayAlign p = true := by
  rw [State.mayAlign, ha, he, hv, decide_eq_true hr]
  rfl

section
variable {s : State} {p : Fin 4} {h : FrameHdr} {time : BitVec 64} (hl : s.live = true) (hh : s.hears p h (.heartbeat time) 0)
include hl hh

theorem runs_heartbeat_noted : Runs (.heartbeat p h time) s fun u => u.tb.lastHeartbeat = s.real := by
  refine .hears hl (exec_heartbeat p h time) hh (by simp [ircType]) fun t u ht hu => ?_
  refine (hu.field (·.lastHeartbeat) fun _ => rfl).trans (Eq.trans ?_ ht.real)
  cases hm : t.mayAlign p with
  | false => rw [State.takeHeartbeat_waits hm]; rfl
  | true =>
    obtain ⟨n, htake⟩ := State.takeHeartbeat_aligns hm h time.toNat
    have hoff : t.on F.TB_STATUS_ALIGNED = false := by
      simp only [State.mayAlign, Bool.and_eq_true, Bool.not_eq_true'] at hm
      exact hm.1.1.2
    have hal := State.align_aligns (s := t.beat.withFree n) p.isLt hoff (t.groupTime p h time.toNat)
    obtain ⟨k, d, htime⟩ := (t.beat.withFree n).takeTime_tb (t.groupTime p h time.toNat)
    rw [htake, hal.heartbeat, htime]
    rfl

/-- A joining device with a known delay and no alignment takes up the group's time through the port it chooses. -/
theorem runs_heartbeat_aligns (hm : s.mayAlign p = true) : Runs (.heartbeat p h time) s fun u =>
    (u.on F.TB_STATUS_ALIGNED = true ∧ u.rd F.TB_STATUS_UPSTREAM = s.alignPort p ∧ u.tb.pllRef = .port (s.alignPort p) ∧
      Pends u Ev.TB_ALIGN) ∧
    (s.now ≤ s.groupTime p h time.toNat → u.now = s.groupTime p h time.toNat % 2 ^ 64) ∧
    (s.groupTime p h time.toNat < s.now →
      u.on F.TB_STATUS_TIME_AHEAD = true ∧ u.tb.offsetD = s.now - s.groupTime p h time.toNat) := by
  refine .hears hl (exec_heartbeat p h time) hh (by simp [ircType]) fun t u ht hu => ?_
  have hmt := (ht.mayAlign p).trans hm
  have hoff : t.on F.TB_STATUS_ALIGNED = false := by
    simp only [State.mayAlign, Bool.and_eq_true, Bool.not_eq_true'] at hmt
    exact hmt.1.1.2
  obtain ⟨n, htake⟩ := State.takeHeartbeat_aligns hmt h time.toNat
  rw [htake, ht.groupTime] at hu
  have hal := State.align_aligns (s := t.beat.withFree n) p.isLt hoff (s.groupTime p h time.toNat)
  have hport : (t.beat.withFree n).alignPort p = s.alignPort p := Eq.trans rfl (ht.alignPort p)
  have hnow : (t.beat.withFree n).now = s.now := Eq.trans rfl ht.now
  rw [hport] at hal
  generalize t.beat.withFree n = w at hu hal hnow
  refine ⟨⟨(hu.on _).trans hal.aligned, (hu.rd _).trans hal.upstream, (hu.field (·.pllRef) fun _ => rfl).trans hal.pllRef,
    hu.rises _ hal.pends⟩, fun hle => ?_, fun hlt => ?_⟩
  · rw [hu.now, hal.now, w.takeTime_now _ (hnow.le.trans hle)]
  · obtain ⟨hahead, hoffset⟩ := w.takeTime_ahead _ (hlt.trans_eq hnow.symm)
    refine ⟨?_, ?_⟩
    · rw [hu.on, State.on, hal.ahead, hahead]
      rfl
    · rw [← hnow, ← hoffset, ← hal.offset]
      exact hu.field (·.offsetD) fun _ => rfl

end

end Sys2Proof.Machine

namespace Sys2Proof.Machine

/-! ### The next group and the members that can be reached (R171, R174) -/

theorem State.nextGroup_congr {s t : State} (hpend : t.tb.pendEpochs = s.tb.pendEpochs) (hhops : t.tb.memberHops = s.tb.memberHops)
    (hheard : t.tb.heardHops = s.tb.heardHops) (hmembers : t.members = s.members) : t.nextGroup = s.nextGroup := by
  rw [State.nextGroup, hpend, hhops, hheard, hmembers, State.nextGroup]

/-- The members of the next group rest on the epochs that are pending and on the bitmap in force. -/
theorem State.nextGroup_members {s t : State} (hpend : t.tb.pendEpochs = s.tb.pendEpochs) (hmembers : t.members = s.members) :
    t.nextGroup.1 = s.nextGroup.1 := by
  unfold State.nextGroup
  rw [hpend, hmembers]
  cases s.tb.pendEpochs.getLast? <;> rfl

theorem State.issueEpoch_reachable (s : State) (map : Nat) (hops : List (Nat × Nat)) (step n : Nat) :
    (s.issueEpoch map hops step).reachable n = s.reachable n := by
  obtain ⟨t, ht, heq⟩ := s.issueEpoch_sends map hops step
  rw [heq, ← ht.reachable n]
  rfl

theorem State.issueEpoch_statusSeen (s : State) (map : Nat) (hops : List (Nat × Nat)) (step : Nat) :
    (s.issueEpoch map hops step).tb.statusSeen = s.tb.statusSeen := by
  have hcore := congrArg Timebase.statusSeen (s.issueEpoch_core map hops step)
  exact hcore

/-! ### A member that skips (R182) -/

section
variable (s : State) (m : Nat)

/-- The member's bit in TB_BEHIND. -/
def State.markBehind : State := s.wr64 0x80050 (setBitTo (s.rd64 0x80050) m true)

theorem State.markBehind_reg {o : Nat} (ho : o ≠ 0x80050 ∧ o ≠ 0x80054) : (s.markBehind m).reg o = s.reg o :=
  s.reg_wr64_ne _ ho.1 ho.2

theorem State.markBehind_bit (hm : m < 64) : bit ((s.markBehind m).rd64 0x80050) m = true := by
  rw [State.markBehind, State.rd64_wr64, bit, Nat.testBit_mod_two_pow, testBit_setBitTo, decide_eq_true hm]
  rfl

/-- The member's skips have just been raised. -/
def State.raiseBehind : State :=
  ((s.markBehind m).setTb { s.tb with behindEv := some s.real }).raise Ev.TB_MEMBER_BEHIND

theorem State.behind_eq : s.behind m = if mayRaise s.tb.behindEv s.real s.hbPeriod then s.raiseBehind m else s.markBehind m := by
  have hnow : (s.markBehind m).now = s.now := State.rd64_eq (s.markBehind_reg m (by decide)) (s.markBehind_reg m (by decide))
  have htb : (s.markBehind m).tb = s.tb := rfl
  have hreal : (s.markBehind m).real = s.real := by rw [State.real, hnow, htb, State.real]
  have hperiod : (s.markBehind m).hbPeriod = s.hbPeriod :=
    congrArg (fun r => 10000 * max 1 (F.TB_TIMERS_HB_PERIOD.of r)) (s.markBehind_reg m (by decide))
  have hbehind : s.behind m = if mayRaise (s.markBehind m).tb.behindEv (s.markBehind m).real (s.markBehind m).hbPeriod then
      ((s.markBehind m).setTb { (s.markBehind m).tb with behindEv := some (s.markBehind m).real }).raise Ev.TB_MEMBER_BEHIND
    else s.markBehind m := rfl
  rw [hbehind, hreal, hperiod, htb, State.raiseBehind]

theorem State.raiseBehind_tbReg {o : Nat} (hp : regPart o = .tbRegs) : (s.raiseBehind m).reg o = (s.markBehind m).reg o :=
  (State.raise_leaves (.refl 0x10001990080000002010 _) rfl _).reg (by rw [hp]; decide)

theorem State.behind_tbReg {o : Nat} (hp : regPart o = .tbRegs) : (s.behind m).reg o = (s.markBehind m).reg o := by
  rw [State.behind_eq]
  split
  · exact s.raiseBehind_tbReg m hp
  · rfl

theorem State.behind_reg {o : Nat} (hp : regPart o = .tbRegs) (ho : o ≠ 0x80050 ∧ o ≠ 0x80054) : (s.behind m).reg o = s.reg o :=
  (s.behind_tbReg m hp).trans (s.markBehind_reg m ho)

theorem State.behind_bit (hm : m < 64) : bit ((s.behind m).rd64 0x80050) m = true := by
  rw [State.rd64_eq (s.behind_tbReg m (by decide)) (s.behind_tbReg m (by decide))]
  exact s.markBehind_bit m hm

theorem State.behind_pends (hr : mayRaise s.tb.behindEv s.real s.hbPeriod = true) : Pends (s.behind m) Ev.TB_MEMBER_BEHIND := by
  rw [State.behind_eq, hr, if_pos rfl]
  exact State.rd_raise_self _ _

theorem State.behind_core : ∃ b, (s.behind m).tb.core = Timebase.core { s.tb with behindEv := b } := by
  rw [State.behind_eq]
  split
  · exact ⟨_, State.raise_core _ _⟩
  · exact ⟨s.tb.behindEv, rfl⟩

end

/-! ### STATUS (R171, R174, R182) -/

section
variable (s : State) (m : Nat) (skips : BitVec 16)

/-- A STATUS of member `m` is noted, with its skips. -/
def State.noteStatus : State := if skips = 0 then s.statusOfMember m else (s.statusOfMember m).behind m

/-- What a STATUS of a member leaves as it was. -/
structure StatusNoted (s v : State) (m : Nat) : Prop where
  seen : v.tb.statusSeen = (m, s.real) :: s.tb.statusSeen.filter fun x => x.1 != m
  pend : v.tb.pendEpochs = s.tb.pendEpochs
  hops : v.tb.memberHops = s.tb.memberHops
  heard : v.tb.heardHops = s.tb.heardHops
  reg : ∀ o, regPart o = .tbRegs → o ≠ 0x80050 ∧ o ≠ 0x80054 → v.reg o = s.reg o

theorem State.noteStatus_noted : StatusNoted s (s.noteStatus m skips) m := by
  unfold State.noteStatus
  split
  · exact ⟨rfl, rfl, rfl, rfl, fun _ _ _ => rfl⟩
  · obtain ⟨b, hcore⟩ := (s.statusOfMember m).behind_core m
    exact ⟨Timebase.of_core hcore (·.statusSeen) fun _ => rfl, Timebase.of_core hcore (·.pendEpochs) fun _ => rfl,
      Timebase.of_core hcore (·.memberHops) fun _ => rfl, Timebase.of_core hcore (·.heardHops) fun _ => rfl,
      fun o hp ho => (s.statusOfMember m).behind_reg m hp ho⟩

theorem State.noteStatus_skips (hs : skips ≠ 0) (hm : m < 64) : bit ((s.noteStatus m skips).rd64 0x80050) m = true ∧
    (mayRaise s.tb.behindEv s.real s.hbPeriod = true → Pends (s.noteStatus m skips) Ev.TB_MEMBER_BEHIND) := by
  rw [State.noteStatus, if_neg hs]
  exact ⟨State.behind_bit _ m hm, fun hr => State.behind_pends (s.statusOfMember m) m hr⟩

end

theorem StatusNoted.myKey {s v : State} {m : Nat} (h : StatusNoted s v m) : v.myKey = s.myKey := by
  have hprio : v.rd F.TB_MEMBER_PRIO = s.rd F.TB_MEMBER_PRIO := congrArg F.TB_MEMBER_PRIO.of (h.reg _ (by decide) (by decide))
  rw [State.myKey, hprio, State.myKey]

theorem StatusNoted.members {s v : State} {m : Nat} (h : StatusNoted s v m) : v.members = s.members :=
  State.rd64_eq (h.reg _ (by decide) (by decide)) (h.reg _ (by decide) (by decide))

theorem StatusNoted.nextGroup {s v : State} {m : Nat} (h : StatusNoted s v m) : v.nextGroup = s.nextGroup :=
  State.nextGroup_congr h.pend h.hops h.heard h.members

/-- The hops and links at which the master has heard a member. -/
def State.withHeard (s : State) (m hops links : Nat) : State := s.setTb { s.tb with
  heardHops := (m, hops) :: s.tb.heardHops.filter fun x => x.1 != m
  heardLinks := (m, links) :: s.tb.heardLinks.filter fun x => x.1 != m }

section
variable {s : State} {m hops links : Nat}

theorem State.heardAt_stranger (h : bit s.nextGroup.1 m = false) : s.heardAt m hops links = s := by
  simp [State.heardAt, h]

/-- A member that is heard at other hops brings an epoch. -/
theorem State.heardAt_moved (h : bit s.nextGroup.1 m = true) (hh : hopsOf s.nextGroup.2 m ≠ hops) :
    s.heardAt m hops links = (s.withHeard m hops links).reissue := by
  simp [State.heardAt, h, hh, State.withHeard]

/-- Hearing a member leaves the registers, what is raised and the STATUSes noted. -/
theorem State.heardAt_keeps : (s.heardAt m hops links).regs = s.regs ∧ Grows s (s.heardAt m hops links) ∧
    (s.heardAt m hops links).tb.statusSeen = s.tb.statusSeen := by
  unfold State.heardAt
  dsimp only
  split
  · exact ⟨rfl, .refl s, rfl⟩
  · split
    · exact ⟨rfl, s.setTb_grows _, rfl⟩
    · exact ⟨State.issueEpoch_regs _ _ _ _, (s.setTb_grows _).trans (State.issueEpoch_grows _ _ _ _),
        State.issueEpoch_statusSeen _ _ _ _⟩

end

/-- Has the member met a group whose master has a better key (R176)? -/
def State.metBetter (s : State) (better : Option Key) : Bool := (better.map fun k => decide (keyNum k < s.myKey)).getD false

/-- STATUS of member `m` at the master. -/
def State.takeStatus (s : State) (m : Nat) (skips : BitVec 16) (better : Option Key) (hops links : Nat) : State :=
  if (s.noteStatus m skips).metBetter better then (s.noteStatus m skips).issueEpoch 0 [] 0
  else (s.noteStatus m skips).heardAt m hops links

theorem exec_status {s : State} (p : Fin 4) (h : FrameHdr) (aligned : Bool) (skips : BitVec 16) (better : Option Key) (links : BitVec 64) :
    exec (.status p h aligned skips better links) s = act s fun s =>
      s.receive p h (.status aligned skips better links) 0 fun s =>
        if s.role ≠ 3 then s else s.takeStatus h.src.val skips better (min 15 (h.hops.val + 1)) links.toNat := rfl

section
variable (s : State) (m : Nat) (skips : BitVec 16) (better : Option Key) (hops links : Nat)

theorem State.takeStatus_keeps : (s.takeStatus m skips better hops links).regs = (s.noteStatus m skips).regs ∧
    Grows (s.noteStatus m skips) (s.takeStatus m skips better hops links) ∧
    (s.takeStatus m skips better hops links).tb.statusSeen = (s.noteStatus m skips).tb.statusSeen := by
  unfold State.takeStatus
  split
  · exact ⟨State.issueEpoch_regs _ _ _ _, State.issueEpoch_grows _ _ _ _, State.issueEpoch_statusSeen _ _ _ _⟩
  · exact State.heardAt_keeps

/-- A member that has met a better group ends this one (R176). -/
theorem State.takeStatus_ends {k : Key} (hk : k ∈ better) (hlt : keyNum k < s.myKey) :
    (s.takeStatus m skips better hops links).tb.pendEpochs.getLast?.map PendingEpoch.map = some 0 := by
  have hmet : (s.noteStatus m skips).metBetter better = true := by
    rw [State.metBetter, Option.mem_def.1 hk, (s.noteStatus_noted m skips).myKey]
    exact decide_eq_true hlt
  rw [State.takeStatus, hmet, if_pos rfl, State.issueEpoch_pend, List.getLast?_concat]
  rfl

theorem State.takeStatus_stranger (hg : bit s.nextGroup.1 m = false) :
    (s.takeStatus m skips none hops links).tb.pendEpochs = s.tb.pendEpochs := by
  have hnoted := s.noteStatus_noted m skips
  have hstranger : bit (s.noteStatus m skips).nextGroup.1 m = false := by rw [hnoted.nextGroup, hg]
  have htake : s.takeStatus m skips none hops links = (s.noteStatus m skips).heardAt m hops links := if_neg Bool.false_ne_true
  rw [htake, State.heardAt_stranger hstranger, hnoted.pend]

/-- A member that is heard at other hops brings an epoch of the members that can be reached (R171). -/
theorem State.takeStatus_moved (hg : bit s.nextGroup.1 m = true) (hh : hopsOf s.nextGroup.2 m ≠ hops) :
    (s.takeStatus m skips none hops links).tb.pendEpochs.getLast?.map PendingEpoch.map =
      some ((s.takeStatus m skips none hops links).reachable s.nextGroup.1) := by
  have hnoted := s.noteStatus_noted m skips
  have htake : s.takeStatus m skips none hops links = (s.noteStatus m skips).heardAt m hops links := if_neg Bool.false_ne_true
  have hmember : bit (s.noteStatus m skips).nextGroup.1 m = true := by rw [hnoted.nextGroup, hg]
  have hmoved : hopsOf (s.noteStatus m skips).nextGroup.2 m ≠ hops := by rwa [hnoted.nextGroup]
  have hgroup : ((s.noteStatus m skips).withHeard m hops links).nextGroup.1 = s.nextGroup.1 :=
    State.nextGroup_members hnoted.pend hnoted.members
  rw [htake, State.heardAt_moved hmember hmoved, State.reissue, State.issueEpoch_pend, List.getLast?_concat,
    State.issueEpoch_reachable, hgroup]
  rfl

end

/-- A STATUS that acts is one at the master. -/
theorem runs_status {s : State} {p : Fin 4} {h : FrameHdr} {aligned : Bool} {skips : BitVec 16} {better : Option Key} {links : BitVec 64}
    (hl : s.live = true) (hh : s.hears p h (.status aligned skips better links) 0) (hr : s.role = 3) {P : State → Prop}
    (hP : ∀ t u, Sent s t → Sent (t.takeStatus h.src.val skips better (min 15 (h.hops.val + 1)) links.toNat) u → P u) :
    Runs (.status p h aligned skips better links) s P := by
  refine .hears hl (exec_status p h aligned skips better links) hh (by simp [ircType]) fun t u ht hu => ?_
  have hmaster : ¬t.role ≠ 3 := not_not.2 ((ht.rd _).trans hr)
  rw [if_neg hmaster] at hu
  exact hP t u ht hu

theorem runs_status_ignored {s : State} {p : Fin 4} {h : FrameHdr} {aligned : Bool} {skips : BitVec 16} {better : Option Key}
    {links : BitVec 64} (hl : s.live = true) (hh : s.hears p h (.status aligned skips better links) 0) (hr : s.role ≠ 3) :
    Runs (.status p h aligned skips better links) s fun u => u = s.heard p h (.status aligned skips better links) := by
  refine .ignored hl (exec_status p h aligned skips better links) (State.receive_ignored hh _ (by simp [ircType]) fun t ht => ?_)
  exact if_pos fun hm => hr ((ht.rd F.TB_STATUS_ROLE).symm.trans hm)

/-! ### The frames of a group -/

theorem Sent.myKey {s t : State} (h : Sent s t) : t.myKey = s.myKey := by
  rw [State.myKey, h.rd, State.myKey]

theorem Sent.hbPeriod {s t : State} (h : Sent s t) : t.hbPeriod = s.hbPeriod := by
  rw [State.hbPeriod, h.rd, State.hbPeriod]

/-- What a command is shown to do holds of its outcome. -/
theorem Runs.holds {c : Instr} {s u : State} {P : State → Prop} (h : Runs c s P) (hexec : exec c s = .next u) : P u := by
  obtain ⟨v, hv, hP⟩ := h
  exact answer_next (hv.symm.trans hexec) ▸ hP

/-- A filter that also asks for what holds anyway. -/
theorem filter_and_holds {α : Type} {p : α → Bool} {Q : Prop} {dec : ∀ a, Decidable (p a = true ∧ Q)} (hQ : Q) (l : List α) :
    l.filter (fun a => decide (p a = true ∧ Q)) = l.filter p := by
  refine List.filter_congr fun a _ => ?_
  rw [Bool.eq_iff_iff, decide_eq_true_iff]
  exact ⟨And.left, fun h => ⟨h, hQ⟩⟩

/-- Settles O34: each frame acts in the state in which it has gone on or is about to, and what it leaves is read off the operation that
takes it. -/
theorem groupMessages : Obligations.GroupMessages := by
  unfold Obligations.GroupMessages
  refine ⟨?elect, ?electIgnored, ?epoch, ?epochOld, ?joinReq, ?joinReqRefused, ?joinAck, ?leave, ?heartbeat, ?status, ?statusIgnored⟩
  case elect =>
    intro s p h key time hl hh hg
    obtain ⟨u, hexec, hkey, htime, helectors, hbest, hregs⟩ := runs_elect hl hh hg
    refine .of hexec ⟨hkey, htime, helectors.trans (congrArg _ (filter_and_holds ⟨fun he => ?_, fun he => ?_, hregs⟩ _).symm)⟩
    · rw [hbest, State.electBest, he, if_pos rfl]
    · rw [hbest, State.electBest, he, if_neg Bool.false_ne_true]
  case electIgnored =>
    intro s p h key time hl hh hg
    exact runs_elect_ignored hl hh hg
  case epoch =>
    intro s p h num act map hops step hl hh hn
    exact runs_epoch hl hh hn
  case epochOld =>
    intro s p h num act map hops step hl hh hn
    exact runs_epoch_old hl hh hn
  case joinReq =>
    intro s p h key id hops d hl hh hr hfree hoffset hroom
    have hv : s.joinVerdict id hops d = none := by
      have hno : (bit s.nextGroup.1 id.val && !(decide (d ≠ 0) && s.tb.electees.contains id.val)) = false := by
        obtain h | ⟨hd, h⟩ := hfree
        · rw [h, Bool.false_and]
        · rw [decide_eq_true hd, h, Bool.and_self, Bool.not_true, Bool.and_false]
      rw [State.joinVerdict, hno, if_neg Bool.false_ne_true, if_neg (Nat.not_lt.2 hoffset), if_neg (Nat.not_le.2 hroom)]
    obtain ⟨u, hexec, hpend, hanswer, hregs⟩ := runs_joinReq_admitted hl hh hr hv
    refine .of hexec ⟨?_, hanswer, hregs⟩
    rw [hpend, List.getLast?_concat]
    exact ⟨_, rfl, rfl, rfl, rfl, rfl, rfl, s.mem_epochOf_hops _ _ _ _ _⟩
  case joinReqRefused =>
    intro s p h key id hops d r hl hh hr hv
    have hused : (bit s.nextGroup.1 id.val && !(decide (d ≠ 0) && s.tb.electees.contains id.val)) = true ↔
        bit s.nextGroup.1 id.val = true ∧ (d = 0 ∨ s.tb.electees.contains id.val = false) := by
      rw [Bool.and_eq_true, Bool.not_eq_true', Bool.and_eq_false_iff, decide_eq_false_iff_not, not_not]
    exact runs_joinReq_refused hl hh hr ((if_congr hused rfl rfl).trans hv)
  case joinAck =>
    intro s p h refused hl hh
    exact runs_joinAck hl hh
  case leave =>
    intro s p h id hl hh
    obtain ⟨u, hexec, hack, hdrop, helect⟩ := runs_leave hl hh
    refine .of hexec ⟨hack, fun hr hm => ?_, helect⟩
    rw [hdrop hr hm, List.getLast?_concat]
    exact ⟨_, rfl, rfl⟩
  case heartbeat =>
    intro s p h time hl hh
    obtain ⟨u, hexec, hnoted⟩ := runs_heartbeat_noted hl hh
    have haligns (hr : s.role = 1) (ha : s.on F.TB_STATUS_ALIGNED = false) (he : s.on F.TB_STATUS_ELECTING = false)
        (hv : s.on (F.IRC_HOP_DELAY_VALID p) = true) := (runs_heartbeat_aligns hl hh (State.mayAlign_of hr ha he hv)).holds hexec
    exact .of hexec ⟨hnoted, fun hr ha he hv => (haligns hr ha he hv).1, fun hr ha he hv => (haligns hr ha he hv).2.1,
      fun hr ha he hv => (haligns hr ha he hv).2.2⟩
  case status =>
    intro s p h aligned skips better links hl hh hr
    refine runs_status hl hh hr fun t u ht hu => ?_
    have hnoted := t.noteStatus_noted h.src.val skips
    obtain ⟨hregs, hgrows, hseen⟩ := t.takeStatus_keeps h.src.val skips better (min 15 (h.hops.val + 1)) links.toNat
    have hskips (hs : skips ≠ 0) := t.noteStatus_skips h.src.val skips hs h.src.isLt
    have hbehind : t.tb.behindEv = s.tb.behindEv := ht.field (·.behindEv) fun _ => rfl
    have hold : t.tb.statusSeen = s.tb.statusSeen := ht.field (·.statusSeen) fun _ => rfl
    have hpend : t.tb.pendEpochs = s.tb.pendEpochs := ht.field (·.pendEpochs) fun _ => rfl
    have hnow : u.tb.statusSeen = (h.src.val, s.real) :: s.tb.statusSeen.filter (fun x => x.1 != h.src.val) := by
      rw [← hold, ← ht.real, ← hnoted.seen, ← hseen]
      exact hu.field (·.statusSeen) fun _ => rfl
    refine hnow.trans (congrArg _ (filter_and_holds ⟨fun hs => ?_, fun hs hm => ?_, fun hbetter => ?_, fun hnone hg hmoved => ?_,
      fun hnone hg => ?_⟩ _).symm)
    · have hreg (o : Nat) := congrArg (Tab.get regReset · o) (hu.regs.trans hregs)
      rw [State.rd64_eq (hreg _) (hreg _)]
      exact (hskips hs).1
    · exact hu.rises _ (hgrows.rises _ ((hskips hs).2 (by rw [hbehind, ht.real, ht.hbPeriod, hm])))
    · obtain ⟨k, hk, hlt⟩ := hbetter
      rw [hu.field (·.pendEpochs) fun _ => rfl]
      exact t.takeStatus_ends _ _ _ _ _ (Option.mem_toList.1 hk) (ht.myKey ▸ hlt)
    · subst hnone
      rw [hu.reachable, hu.field (·.pendEpochs) fun _ => rfl, ← ht.nextGroup]
      exact t.takeStatus_moved _ _ _ _ (ht.nextGroup ▸ hg) (ht.nextGroup ▸ hmoved)
    · subst hnone
      rw [← hpend, ← t.takeStatus_stranger h.src.val skips (min 15 (h.hops.val + 1)) links.toNat (ht.nextGroup ▸ hg)]
      exact hu.field (·.pendEpochs) fun _ => rfl
  case statusIgnored =>
    intro s p h aligned skips better links hl hh hr
    exact runs_status_ignored hl hh hr

end Sys2Proof.Machine

namespace Sys2Proof.Machine

/-! ### Frames that timers send (R165, R177, R182) -/

theorem Clocked.sent {t u : State} (h : Clocked t u) : Sent t u := by
  obtain ⟨p, rfl⟩ := h
  exact ⟨t.tb, [], p, rfl, by rw [List.append_nil]; rfl⟩

section
variable (s : State)

theorem State.sendLink_out (p : Nat) (m : IrcMsg) :
    (s.sendLink p m).out = s.out ++ [.irc p (sealed (s.hdr m false 0) m) m] := rfl

/-- A frame to the group leaves on every port in GROUP. -/
theorem State.sendGroup_reaches {q : Nat} (hq : q < 4) (hg : s.rd (F.IRC_STATUS_STATE q) = 3) (h : FrameHdr) (m : IrcMsg) :
    Output.irc q (sealed h m) m ∈ (s.sendGroup none h m).out := by
  refine forEach_reaches (p := fun u => Output.irc q (sealed h m) m ∈ u.out) (a := q) ?_ (fun b _ u hu => ?_) (fun u => ?_) s
  · refine List.mem_filter.2 ⟨List.mem_range.2 hq, ?_⟩
    rw [decide_eq_true hg]
    rfl
  · exact List.mem_append_left _ hu
  · exact List.mem_append_right _ (List.mem_singleton.2 rfl)

theorem State.flood_reaches {q : Nat} (hq : q < 4) (hg : s.rd (F.IRC_STATUS_STATE q) = 3) (m : IrcMsg) :
    ∃ g, Output.irc q g m ∈ (s.flood m).out := ⟨_, s.sendGroup_reaches hq hg (s.hdr m true 0) m⟩

theorem State.sendGroup_unacked (h : FrameHdr) (m : IrcMsg) : (s.sendGroup none h m).tb.unacked = s.tb.unacked :=
  forEach_obs_out (·.tb.unacked) (f := fun p (s : State) => s.sendOn p h m) (fun _ _ _ => rfl) s

end

/-- HELLO of this device on port `p` (R165). -/
def State.helloOf (s : State) (p : Fin 4) : IrcMsg :=
  .hello (keyOf s.myKey) (Fin.ofNat 64 s.myId) (BitVec.ofNat 16 (s.rd F.TB_GROUP_EPOCH)) s.tb.inEpoch
    (Fin.ofNat 64 (s.rd F.TB_GROUP_MASTER_ID)) (keyOf (if s.role = 3 then s.myKey else s.tb.bestKey))
    (Fin.ofNat 16 (s.rd F.TB_STATUS_HOPS)) p

/-- STATUS of this device (R165, R182). -/
def State.statusFrame (s : State) : IrcMsg :=
  .status (s.on F.TB_STATUS_ALIGNED) (BitVec.ofNat 16 s.tb.skipped) (s.tb.met.map keyOf) (BitVec.ofNat 64 s.neighbours)

section
variable {s : State} (hl : s.live = true)
include hl

theorem runs_helloTimer {p : Fin 4} (hk : s.linked p = true) : Runs (.helloTimer p) s (Clocked (s.sendLink p (s.helloOf p))) := by
  refine .of_clocked ?_ fun _ h => h
  simp only [exec, execHelloTimer, act_live hl, if_pos hk]
  rfl

theorem runs_helloTimer_unlinked {p : Fin 4} (hk : s.linked p = false) : Runs (.helloTimer p) s fun u => u = s := by
  refine .of (t := s) ?_ rfl
  simp only [exec, execHelloTimer, act_live hl, hk, Bool.false_eq_true, if_false, State.endClock_self]

theorem runs_hopMeasureTimer {p : Fin 4} {t1 : BitVec 64} (hk : s.linked p = true) : Runs (.hopMeasureTimer p t1) s
    (Clocked ((s.setIrcp p { s.ircp p with t1 := t1.toNat }).sendLink p (.dlyReq t1))) := by
  refine .of_clocked ?_ fun _ h => h
  simp only [exec, execHopMeasureTimer, act_live hl, if_pos hk]

theorem runs_heartbeatTimer_master (hr : s.role = 3) :
    Runs .heartbeatTimer s (Clocked (s.flood (.heartbeat (BitVec.ofNat 64 s.now)))) := by
  refine .of_clocked ?_ fun _ h => h
  simp only [exec, execHeartbeatTimer, act_live hl, if_pos hr]

theorem runs_heartbeatTimer_member (hr : s.role = 2) : Runs .heartbeatTimer s
    (Clocked (s.sendTo (s.rd F.TB_STATUS_UPSTREAM) (s.rd F.TB_GROUP_MASTER_ID) s.statusFrame).clearSkips) := by
  refine .of_clocked ?_ fun _ h => h
  simp only [exec, execHeartbeatTimer, act_live hl, if_neg (show ¬s.role = 3 by omega), if_pos hr]
  rfl

theorem runs_heartbeatTimer_alone (h2 : s.role ≠ 2) (h3 : s.role ≠ 3) : Runs .heartbeatTimer s fun u => u = s := by
  refine .of (t := s) ?_ rfl
  simp only [exec, execHeartbeatTimer, act_live hl, if_neg h3, if_neg h2, State.endClock_self]

end

/-! ### Frames that wait for an ACK (R165) -/

/-- The frame is sent again, to one device or to the group. -/
def State.resend (s : State) (p : Nat) (h : FrameHdr) (m : IrcMsg) : State := if p = 4 then s.sendGroup none h m else s.sendOn p h m

/-- Frame `i` of those that wait for an ACK waits no more. -/
def State.dropFrame (s : State) (i : Nat) : State := s.setTb { s.tb with unacked := s.tb.unacked.eraseIdx i }

section
variable {s : State} {i p c : Nat} {h : FrameHdr} {m : IrcMsg} (hl : s.live = true) (hu : s.tb.unacked[i]? = some (p, h, m, c))
include hl hu

theorem runs_ackRetryTimer (hc : c < 8) : Runs (.ackRetryTimer i) s (Clocked ((s.resend p h m).setTb
    { (s.resend p h m).tb with unacked := (s.resend p h m).tb.unacked.set i (p, h, m, c + 1) })) := by
  refine .of_clocked ?_ fun _ h => h
  simp only [exec, execAckRetryTimer, act_live hl, hu, if_pos hc]
  rfl

theorem runs_ackRetryTimer_gives_up (hc : 8 ≤ c) : Runs (.ackRetryTimer i) s
    (Clocked ((s.dropFrame i).partnerLost h m)) := by
  refine .of_clocked ?_ fun _ h => h
  simp only [exec, execAckRetryTimer, act_live hl, hu, if_neg (Nat.not_lt.2 hc), State.dropFrame]

end

section
variable (s : State) (p : Nat) (h : FrameHdr) (m : IrcMsg)

theorem State.resend_unacked : (s.resend p h m).tb.unacked = s.tb.unacked := by
  unfold State.resend
  split
  · exact s.sendGroup_unacked h m
  · rfl

theorem State.resend_sent : Sent s (s.resend p h m) := by
  unfold State.resend
  split
  · exact s.sendGroup_sent _ _ _
  · exact s.emit_sent _

end

theorem IrcMsg.eq_epoch {m : IrcMsg} (h : ircType m = 5) : ∃ num act map hops step, m = .epoch num act map hops step := by
  cases m
  case epoch num act map hops step => exact ⟨num, act, map, hops, step, rfl⟩
  all_goals exact absurd h (by simp [ircType])

theorem IrcMsg.eq_joinReq {m : IrcMsg} (h : ircType m = 6) : ∃ key id hops d, m = .joinReq key id hops d := by
  cases m
  case joinReq key id hops d => exact ⟨key, id, hops, d, rfl⟩
  all_goals exact absurd h (by simp [ircType])

theorem IrcMsg.eq_joinAck {m : IrcMsg} (h : ircType m = 7) : ∃ refused, m = .joinAck refused := by
  cases m
  case joinAck refused => exact ⟨refused, rfl⟩
  all_goals exact absurd h (by simp [ircType])

section
variable {s : State} {h : FrameHdr} {m : IrcMsg}

/-- A joining device whose JOIN_REQ nobody acknowledges enters election. -/
theorem State.partnerLost_elects (hr : s.role = 1) (hm : ircType m = 6) : s.partnerLost h m = s.enterElection := by
  obtain ⟨key, id, hops, d, rfl⟩ := IrcMsg.eq_joinReq hm
  exact if_pos hr

/-- A master whose EPOCH nobody acknowledges is alone. -/
theorem State.partnerLost_alone (hr : s.role = 3) (hm : ircType m = 5) :
    s.partnerLost h m = s.issueEpoch (2 ^ s.myId) [(s.myId, 0)] 0 := by
  obtain ⟨num, act, map, hops, step, rfl⟩ := IrcMsg.eq_epoch hm
  exact if_pos hr

/-- A master drops the member that does not acknowledge its JOIN_ACK. -/
theorem State.partnerLost_drops (hr : s.role = 3) (hm : ircType m = 7) (hd : bit s.members h.dst.val = true) :
    s.partnerLost h m = s.dropMember h.dst.val := by
  obtain ⟨refused, rfl⟩ := IrcMsg.eq_joinAck hm
  refine if_pos ?_
  rw [hd, decide_eq_true hr]
  rfl

theorem State.partnerLost_ignores (h1 : s.role ≠ 1) (h3 : s.role ≠ 3) : s.partnerLost h m = s := by
  cases m
  case epoch => exact if_neg h3
  case joinReq => exact if_neg h1
  case joinAck =>
    refine if_neg ?_
    rw [decide_eq_false h3]
    exact Bool.false_ne_true
  all_goals rfl

end

/-! ### Elections and losses (R170, R174) -/

/-- The members that the owner of the best key begins with: itself and every elector (R170). -/
def State.electedHops (s : State) (electors : List (Nat × Nat)) : List (Nat × Nat) :=
  (s.myId, 0) :: electors.filter fun e => e.1 != s.myId

/-- Members put into a bitmap are in it, and none leaves it. -/
theorem bit_foldl_setBitTo {l : List (Nat × Nat)} {m i : Nat} (h : bit m i = true ∨ ∃ x ∈ l, x.1 = i) :
    bit (l.foldl (fun m e => setBitTo m e.1 true) m) i = true := by
  induction l generalizing m with
  | nil =>
    obtain h | ⟨x, hx, -⟩ := h
    · exact h
    · exact absurd hx List.not_mem_nil
  | cons e l ih =>
    refine ih ?_
    by_cases he : e.1 = i
    · exact .inl (by rw [← he]; exact testBit_setBitTo m e.1 true)
    · obtain h | ⟨x, hx, hi⟩ := h
      · exact .inl ((testBit_setBitTo_ne m (Ne.symm he) true).trans h)
      · obtain rfl | hx := List.mem_cons.1 hx
        · exact absurd hi he
        · exact .inr ⟨x, hx, hi⟩

/-- The time that a new group begins with: 1 ms above the latest of its electors, unless one of them was in an epoch (R170). -/
def State.newGroupTime (s : State) : State := if s.tb.electOld then s else s.stepTime (max s.now s.tb.electTime + 10000000)

theorem State.becomeMaster_eq (s : State) : s.becomeMaster =
    (s.newGroupTime.setTb { s.newGroupTime.tb with electees := s.tb.electors.map fun e => e.1 }).issueEpoch
      ((s.newGroupTime.electedHops s.tb.electors).foldl (fun m e => setBitTo m e.1 true) 0)
      (s.newGroupTime.electedHops s.tb.electors) 0 := rfl

section
variable (s : State)

theorem State.newGroupTime_tb : ∃ n, s.newGroupTime.tb = { s.tb with stepped := n } := by
  unfold State.newGroupTime
  split
  · exact ⟨s.tb.stepped, rfl⟩
  · exact s.stepTime_tb _

theorem State.newGroupTime_rd {f : Fld} (hf : f.off ≠ 0x80030 ∧ f.off ≠ 0x80034 ∧ f.off ≠ 0x80070) : s.newGroupTime.rd f = s.rd f := by
  unfold State.newGroupTime
  split
  · rfl
  · exact s.stepTime_rd _ hf

/-- The first epoch of a new group names its master (R170). -/
theorem State.becomeMaster_epoch (hp : s.tb.pendEpochs = []) : (∃ e, s.becomeMaster.tb.pendEpochs = [e] ∧ bit e.map s.myId = true ∧
    e.num = (s.tb.maxEpoch.getD 0 + 1) % 2 ^ 16 ∧ e.master = s.myId) ∧ s.becomeMaster.role = s.role := by
  have hid : s.newGroupTime.myId = s.myId := s.newGroupTime_rd (by decide)
  have hrole : s.newGroupTime.role = s.role := s.newGroupTime_rd (by decide)
  obtain ⟨n, htb⟩ := s.newGroupTime_tb
  have hpend : s.newGroupTime.tb.pendEpochs = [] := by rw [htb, ← hp]
  have hmax : s.newGroupTime.tb.maxEpoch = s.tb.maxEpoch := by rw [htb]
  rw [State.becomeMaster_eq, State.issueEpoch_pend, State.role, State.issueEpoch_rd]
  generalize s.newGroupTime = t at *
  refine ⟨⟨_, congrArg (· ++ _) hpend, ?_, ?_, hid⟩, hrole⟩
  · exact bit_foldl_setBitTo (.inr ⟨_, .head _, hid⟩)
  · rw [← hmax]
    rfl

end

section
variable {s : State} (hl : s.live = true)
include hl

theorem runs_electQuietExpiry_wins (hg : s.on F.TB_CTRL_GROUP_EN = true) (hr : s.role = 1) (he : s.on F.TB_STATUS_ELECTING = true)
    (hk : s.tb.bestKey = s.myKey) (hp : s.rd F.TB_MEMBER_PRIO ≠ 0xff) (hn : s.tb.pendEpochs = []) :
    Runs .electQuietExpiry s (Clocked s.becomeMaster) := by
  refine .of_clocked ?_ fun _ h => h
  simp only [exec, execElectQuietExpiry, act_live hl, hg, hr, he, hk, hn, bne_iff_ne.2 hp]
  rfl

theorem runs_electQuietExpiry_begins (hg : s.on F.TB_CTRL_GROUP_EN = true) (hr : s.role = 1) (he : s.on F.TB_STATUS_ELECTING = false)
    (hlink : ((upTo 4).any fun p => s.linked p) = true) (hnone : ((upTo 4).all fun p => !(s.linked p && (s.ircp p).peerCurrent)) = true) :
    Runs .electQuietExpiry s (Clocked s.enterElection) := by
  refine .of_clocked ?_ fun _ h => h
  simp only [exec, execElectQuietExpiry, act_live hl, hg, hr, he, hlink, hnone]
  rfl

theorem runs_heartbeatLoss (hr : s.role = 2) (ht : s.tb.lastHeartbeat + 3 * s.hbPeriod ≤ s.real) :
    Runs .heartbeatLoss s (Clocked s.enterElection) := by
  refine .of_clocked ?_ fun _ h => h
  simp only [exec, execHeartbeatLoss, act_live hl, hr, decide_true, decide_eq_true ht, Bool.and_self, if_true]

theorem runs_memberLoss {m : Fin 64} (hr : s.role = 3) (hm : m.val ≠ s.myId) (hb : bit s.members m.val = true)
    (ht : ((s.tb.statusSeen.find? fun x => x.1 == m.val).map fun x => x.2).getD 0 + 3 * s.hbPeriod ≤ s.real) :
    Runs (.memberLoss m) s (Clocked (s.dropMember m)) := by
  refine .of_clocked ?_ fun _ h => h
  simp only [exec, execMemberLoss, act_live hl, hr, bne_iff_ne.2 hm, hb, decide_true, decide_eq_true ht, Bool.and_self, if_true]

theorem runs_joinRetryTimer : Runs .joinRetryTimer s (Clocked s.askJoin) := by
  refine .of_clocked ?_ fun _ h => h
  simp only [exec, execJoinRetryTimer, act_live hl]

end

/-- A device that asks to join sends a JOIN_REQ through its upstream port (R172). -/
theorem State.askJoin_asks {s : State} (hr : s.role = 1) (ha : s.on F.TB_STATUS_ALIGNED = true)
    (ho : s.tb.inEpoch = false ∨ s.on F.TB_STATUS_TIME_AHEAD = true) (hc : (s.ircp (s.rd F.TB_STATUS_UPSTREAM)).peerCurrent = true)
    (hg : s.rd (F.IRC_STATUS_STATE (s.rd F.TB_STATUS_UPSTREAM)) = 3) :
    ∃ g m, Output.irc (s.rd F.TB_STATUS_UPSTREAM) g m ∈ s.askJoin.out ∧ ircType m = 6 := by
  have hout : (!s.tb.inEpoch || s.on F.TB_STATUS_TIME_AHEAD) = true := by
    obtain h | h := ho
    · rw [h]; rfl
    · rw [h, Bool.or_true]
  have hask : s.askJoin = s.sendTo (s.rd F.TB_STATUS_UPSTREAM) (s.rd F.TB_GROUP_MASTER_ID) (.joinReq (keyOf s.myKey) (Fin.ofNat 64 s.myId)
      (Fin.ofNat 16 ((s.ircp (s.rd F.TB_STATUS_UPSTREAM)).peerHops + 1)) (BitVec.ofNat 64 s.tb.offsetD)) := by
    refine if_pos ?_
    rw [decide_eq_true hr, ha, hout, hc, beq_iff_eq.2 hg]
    rfl
  obtain ⟨g, hmem⟩ := State.sendTo_mem (s := s) (p := s.rd F.TB_STATUS_UPSTREAM) (dst := s.rd F.TB_GROUP_MASTER_ID)
    (m := .joinReq (keyOf s.myKey) (Fin.ofNat 64 s.myId) (Fin.ofNat 16 ((s.ircp (s.rd F.TB_STATUS_UPSTREAM)).peerHops + 1))
      (BitVec.ofNat 64 s.tb.offsetD)) List.prefix_rfl
  exact ⟨g, _, hask.symm ▸ hmem, rfl⟩

end Sys2Proof.Machine

namespace Sys2Proof.Machine

/-! ### What taking a place in a group leaves (R159, R171, R177) -/

/-- Only STATUS changes, but for ELECTING; the epochs that are pending and whether one names this device are as they were. -/
structure PlaceKept (s t : State) : Prop where
  status : StatusOnly s t
  electing : t.rd F.TB_STATUS_ELECTING = s.rd F.TB_STATUS_ELECTING
  rises : Rises s t
  pend : t.tb.pendEpochs = s.tb.pendEpochs
  inEpoch : t.tb.inEpoch = s.tb.inEpoch

theorem PlaceKept.refl (s : State) : PlaceKept s s := ⟨.refl s, rfl, .refl s, rfl, rfl⟩

theorem PlaceKept.trans {s t u : State} (h : PlaceKept s t) (k : PlaceKept t u) : PlaceKept s u :=
  ⟨h.status.trans k.status, k.electing.trans h.electing, h.rises.trans k.rises, k.pend.trans h.pend, k.inEpoch.trans h.inEpoch⟩

theorem PlaceKept.ite {s t u : State} {c : Prop} [Decidable c] (ht : PlaceKept s t) (hu : PlaceKept s u) : PlaceKept s (if c then t else u) := by
  split
  · exact ht
  · exact hu

theorem notUpstream_electing : F.TB_STATUS_ELECTING.notUpstream :=
  ⟨fun q => .inl (by simp only [F.IRC_STATUS_UPSTREAM, F.TB_STATUS_ELECTING]; omega), .inr rfl⟩

section
variable (s : State)

theorem State.setRole_placeKept (r : Nat) : PlaceKept s (s.setRole r) :=
  ⟨s.setRole_status r, s.setRole_rd r rfl rfl, (s.setRole_grows r).rises, Timebase.of_core (s.setRole_core r) (·.pendEpochs) fun _ => rfl,
    Timebase.of_core (s.setRole_core r) (·.inEpoch) fun _ => rfl⟩

theorem State.setAligned_placeKept (b : Bool) : PlaceKept s (s.setAligned b) :=
  ⟨s.setAligned_status b, s.setAligned_rd b rfl rfl, (s.setAligned_grows b).rises,
    Timebase.of_core (s.setAligned_core b) (·.pendEpochs) fun _ => rfl, Timebase.of_core (s.setAligned_core b) (·.inEpoch) fun _ => rfl⟩

theorem State.ownClock_placeKept : PlaceKept s s.ownClock := ⟨.refl s, rfl, .refl s, rfl, rfl⟩

theorem State.wr_placeKept {f : Fld} (v : Nat) (hf : f.off = 0x80004) (he : f.clear F.TB_STATUS_ELECTING = true) : PlaceKept s (s.wr f v) :=
  ⟨(StatusOnly.refl s).wr v hf, s.rd_wr_clear v he, (Rises.refl s).wr v (.inr (by omega)), congrArg Timebase.pendEpochs (s.wr_tb f v),
    congrArg Timebase.inEpoch (s.wr_tb f v)⟩

theorem State.raise_placeKept (e : Nat) : PlaceKept s (s.raise e) :=
  ⟨(StatusOnly.refl s).raise e, s.rd_raise e F.TB_STATUS_ELECTING_part rfl, (Rises.refl s).raise e,
    Timebase.of_core (s.raise_core e) (·.pendEpochs) fun _ => rfl, Timebase.of_core (s.raise_core e) (·.inEpoch) fun _ => rfl⟩

theorem State.markUpstream_placeKept (up : Option Nat) : PlaceKept s (s.markUpstream up) :=
  ⟨s.markUpstream_status up, s.markUpstream_rd notUpstream_electing up, (s.markUpstream_grows up).rises,
    congrArg Timebase.pendEpochs (s.markUpstream_tb up), congrArg Timebase.inEpoch (s.markUpstream_tb up)⟩

theorem State.setUpstream_placeKept (q : Nat) : PlaceKept s (s.setUpstream q) := by
  obtain ⟨r, l, htb⟩ := s.setUpstream_tb q
  exact ⟨s.setUpstream_status q, s.setUpstream_rd notUpstream_electing q, (s.setUpstream_grows q).rises, by rw [htb], by rw [htb]⟩

end

/-! ### An epoch that makes this device the master (R171, R179) -/

/-- The device is the master, and OFFSET_SHORT has not been judged. -/
def State.led (s : State) (e : PendingEpoch) : State :=
  (((((s.markUpstream none).ownClock).wr F.TB_STATUS_MAX_HOPS (e.hops.foldl (fun m x => max m x.2) 0)).wr F.TB_STATUS_HOPS 0).setAligned
    true).setRole 3

theorem State.leadEpoch_eq (s : State) (e : PendingEpoch) : s.leadEpoch e =
    if 16 * (s.led e).rd F.TB_REL_REL_OFFSET < 400 + 2000 * e.hops.foldl (fun m x => max m x.2) 0 then
      ((s.led e).wr F.TB_STATUS_OFFSET_SHORT 1).raise Ev.TB_OFFSET_SHORT
    else s.led e := rfl

section
variable (s : State) (e : PendingEpoch)

theorem State.led_placeKept : PlaceKept s (s.led e) :=
  (((((s.markUpstream_placeKept none).trans (State.ownClock_placeKept _)).trans (State.wr_placeKept _ _ rfl rfl)).trans
    (State.wr_placeKept _ _ rfl rfl)).trans (State.setAligned_placeKept _ true)).trans (State.setRole_placeKept _ 3)

theorem State.leadEpoch_placeKept : PlaceKept s (s.leadEpoch e) := by
  rw [State.leadEpoch_eq]
  exact .ite (((s.led_placeKept e).trans (State.wr_placeKept _ 1 rfl rfl)).trans (State.raise_placeKept _ _)) (s.led_placeKept e)

/-- The judgement of REL_OFFSET leaves the fields of STATUS but its own, and the timebase. -/
theorem State.leadEpoch_rd {f : Fld} (hp : regPart f.off = .tbRegs) (hf : F.TB_STATUS_OFFSET_SHORT.clear f = true) :
    (s.leadEpoch e).rd f = (s.led e).rd f ∧ (s.leadEpoch e).tb.core = (s.led e).tb.core := by
  rw [State.leadEpoch_eq]
  split
  · exact ⟨(State.rd_raise _ _ hp rfl).trans (State.rd_wr_clear _ 1 hf),
      (State.raise_core _ _).trans (congrArg Timebase.core (State.wr_tb _ _ _))⟩
  · exact ⟨rfl, rfl⟩

theorem State.leadEpoch_leads : (s.leadEpoch e).role = 3 ∧ (s.leadEpoch e).on F.TB_STATUS_ALIGNED = true ∧
    (s.leadEpoch e).tb.pllRef = .board := by
  refine ⟨?_, ?_, ?_⟩
  · exact (s.leadEpoch_rd e (f := F.TB_STATUS_ROLE) rfl rfl).1.trans (State.setRole_role _ (by decide))
  · rw [State.on, (s.leadEpoch_rd e (f := F.TB_STATUS_ALIGNED) rfl rfl).1, State.led, State.setRole_rd _ _ rfl rfl]
    exact State.setAligned_on _ true
  · have hcore := (s.leadEpoch_rd e (f := F.TB_STATUS_ROLE) rfl rfl).2
    refine (Timebase.of_core hcore (·.pllRef) fun _ => rfl).trans ?_
    refine (Timebase.of_core ((State.setRole_core _ 3).trans (State.setAligned_core _ true)) (·.pllRef) fun _ => rfl).trans ?_
    rw [State.wr_tb, State.wr_tb]
    rfl

end

/-! ### An epoch that names this device (R159, R171, R177) -/

/-- The device has taken the upstream port that an epoch leaves it. -/
def State.upstreamOf (s : State) (e : PendingEpoch) : State :=
  match s.bestUpstream e.hops with
  | some q => (s.setUpstream q).wr F.TB_STATUS_HOPS (hopsOf e.hops (s.rd (F.IRC_STATUS_PEER_ID q)) + 1)
  | none => s

theorem State.followEpoch_eq (s : State) (e : PendingEpoch) : s.followEpoch e = (s.upstreamOf e).setRole
    (if (s.upstreamOf e).on F.TB_STATUS_ALIGNED && !(s.upstreamOf e).on F.TB_STATUS_TIME_AHEAD then 2 else 1) := rfl

section
variable (s : State) (e : PendingEpoch)

theorem State.upstreamOf_placeKept : PlaceKept s (s.upstreamOf e) := by
  unfold State.upstreamOf
  split
  · exact (s.setUpstream_placeKept _).trans (State.wr_placeKept _ _ rfl rfl)
  · exact .refl s

theorem State.upstreamOf_rd {f : Fld} (hf : f.notUpstream) (hh : F.TB_STATUS_HOPS.clear f = true) : (s.upstreamOf e).rd f = s.rd f := by
  unfold State.upstreamOf
  split
  · exact (State.rd_wr_clear _ _ hh).trans (s.setUpstream_rd hf _)
  · rfl

theorem State.followEpoch_placeKept : PlaceKept s (s.followEpoch e) := by
  rw [State.followEpoch_eq]
  exact (s.upstreamOf_placeKept e).trans (State.setRole_placeKept _ _)

/-- The device is a member once it is aligned and its time does not lead, and joining until then. -/
theorem State.followEpoch_role : (s.followEpoch e).on F.TB_STATUS_ALIGNED = s.on F.TB_STATUS_ALIGNED ∧ (s.followEpoch e).role =
    if (s.followEpoch e).on F.TB_STATUS_ALIGNED ∧ (s.followEpoch e).on F.TB_STATUS_TIME_AHEAD = false then 2 else 1 := by
  have hkept (f : Fld) (hp : regPart f.off = .tbRegs) (hf : F.TB_STATUS_ROLE.clear f = true) :
      (s.followEpoch e).on f = (s.upstreamOf e).on f := by
    rw [State.followEpoch_eq, State.on, State.setRole_rd _ _ hp hf, State.on]
  refine ⟨?_, ?_⟩
  · rw [hkept _ rfl rfl, State.on, s.upstreamOf_rd e ⟨fun _ => .inr rfl, .inr rfl⟩ rfl, State.on]
  · rw [hkept F.TB_STATUS_ALIGNED rfl rfl, hkept F.TB_STATUS_TIME_AHEAD rfl rfl, State.followEpoch_eq, State.setRole_role]
    · refine if_congr ?_ rfl rfl
      rw [Bool.and_eq_true, Bool.not_eq_true']
    · split <;> decide

end

/-! ### An epoch that takes effect (R171, R173) -/

/-- How far the time of this device leads (R173). -/
def State.lead (s : State) : Nat := if s.on F.TB_STATUS_TIME_AHEAD then s.tb.offsetD else 0

/-- The lines of the epochs before one have its step in their release times, and the lead is taken up (R173). -/
def Timebase.takeStep (x : Timebase) (e : PendingEpoch) : Timebase := { x with
  offsetD := 0
  held := x.held.map fun h =>
    if h.epoch = e.num || x.pendEpochs.any (fun y => y.num == h.epoch) then h else { h with release := h.release + e.step } }

/-- The time takes up what the lead leaves of a step (R173). -/
def State.timeStepped (s : State) (e : PendingEpoch) : State :=
  (s.stepTime (s.now + (e.step - s.lead))).wr F.TB_STATUS_TIME_AHEAD 0

/-- A step of the time, with the lines that it moves. -/
def State.takeStep (s : State) (e : PendingEpoch) : State := (s.timeStepped e).setTb ((s.timeStepped e).tb.takeStep e)

section
variable (s : State) (e : PendingEpoch) (named : Bool)

theorem State.epochStep_eq : s.epochStep e named =
    if e.step = 0 || (!named && s.lead == 0) then s
    else if e.step < s.lead then s.setTb { s.tb with offsetD := s.lead - e.step }
    else s.takeStep e := rfl

theorem State.takeStep_tb : ∃ n d l, (s.takeStep e).tb = { s.tb with stepped := n, offsetD := d, held := l } := by
  obtain ⟨n, htb⟩ := s.stepTime_tb (s.now + (e.step - s.lead))
  exact ⟨n, 0, _, congrArg (Timebase.takeStep · e) ((State.wr_tb _ _ _).trans htb)⟩

theorem State.takeStep_now : (s.takeStep e).now = (s.now + (e.step - s.lead)) % 2 ^ 64 := by
  have hreg {o : Nat} (ho : o ≠ 0x80004) : (s.timeStepped e).reg o = (s.stepTime (s.now + (e.step - s.lead))).reg o :=
    State.reg_wr_ne _ 0 ho
  have hkept : (s.takeStep e).now = (s.timeStepped e).now := rfl
  exact hkept.trans ((State.rd64_eq (hreg (by decide)) (hreg (by decide))).trans (s.stepTime_now _))

theorem State.epochStep_tb : ∃ n d l, (s.epochStep e named).tb = { s.tb with stepped := n, offsetD := d, held := l } := by
  rw [State.epochStep_eq]
  split
  · exact ⟨s.tb.stepped, s.tb.offsetD, s.tb.held, rfl⟩
  · split
    · exact ⟨s.tb.stepped, _, s.tb.held, rfl⟩
    · exact s.takeStep_tb e

theorem State.epochStep_rd {f : Fld} (hf : f.off ≠ 0x80030 ∧ f.off ≠ 0x80034 ∧ f.off ≠ 0x80070)
    (ha : F.TB_STATUS_TIME_AHEAD.clear f = true) : (s.epochStep e named).rd f = s.rd f := by
  rw [State.epochStep_eq]
  split
  · rfl
  · split
    · rfl
    · exact (State.rd_wr_clear _ _ ha).trans (s.stepTime_rd _ hf)

theorem State.epochStep_none (h : e.step = 0) : s.epochStep e named = s := by
  refine if_pos ?_
  rw [decide_eq_true h]
  rfl

/-- A device that the epoch names, and whose time does not lead, takes the whole step. -/
theorem State.epochStep_now (h : e.step ≠ 0) (ha : s.on F.TB_STATUS_TIME_AHEAD = false) :
    (s.epochStep e true).now = (s.now + e.step) % 2 ^ 64 := by
  have hlead : s.lead = 0 := if_neg (Bool.eq_false_iff.1 ha)
  have htakes : (decide (e.step = 0) || (!true && s.lead == 0)) = false := by
    rw [decide_eq_false h]
    rfl
  rw [State.epochStep_eq, if_neg (Bool.eq_false_iff.1 htakes), hlead, if_neg (Nat.not_lt_zero _)]
  rw [s.takeStep_now e, hlead, Nat.sub_zero]

/-- What an epoch that takes effect leaves in the time and in the timebase. -/
def State.enterEpoch : State := (s.epochStep e named).setTb ((s.epochStep e named).tb.enter e named (s.epochStep e named).real)

theorem State.enterEpoch_rd {f : Fld} (hf : f.off ≠ 0x80030 ∧ f.off ≠ 0x80034 ∧ f.off ≠ 0x80070)
    (ha : F.TB_STATUS_TIME_AHEAD.clear f = true) : (s.enterEpoch e named).rd f = s.rd f := s.epochStep_rd e named hf ha

theorem State.enterEpoch_now : (s.enterEpoch e named).now = (s.epochStep e named).now := rfl

theorem State.enterEpoch_pend : (s.enterEpoch e named).tb.pendEpochs = s.tb.pendEpochs := by
  have hkept : (s.enterEpoch e named).tb.pendEpochs = (s.epochStep e named).tb.pendEpochs := rfl
  obtain ⟨n, d, l, htb⟩ := s.epochStep_tb e named
  rw [hkept, htb]

theorem State.enterEpoch_inEpoch : (s.enterEpoch e named).tb.inEpoch = named := rfl

/-- What an epoch that takes effect leaves in the registers of the group. -/
def State.recordEpoch : State :=
  ((((((s.wr F.TB_GROUP_EPOCH e.num).wr F.TB_GROUP_COUNT (bitsOf 64 e.map).length).wr F.TB_GROUP_MASTER_ID e.master).wr64 0x80048
    e.map).wr F.TB_STATUS_ELECTING 0).raise Ev.TB_EPOCH)

/-- The place that an epoch gives this device. -/
def State.takePlace : State :=
  if named && e.master == s.myId then s.leadEpoch e
  else if named then s.followEpoch e
  else if s.on F.TB_CTRL_GROUP_EN then (if e.map = 0 then (s.setAligned false).ownClock else s).setRole 1
  else s

/-- The registers that an epoch records are those of the group, and STATUS. -/
theorem State.recordEpoch_kept {o : Nat} (hp : regPart o = .tbRegs) (ho : o ≠ 0x80044 ∧ o ≠ 0x80048 ∧ o ≠ 0x8004c) (hs : o ≠ 0x80004) :
    (s.recordEpoch e).reg o = s.reg o := by
  obtain ⟨hg, hlo, hhi⟩ := ho
  refine ((StatusOnly.refl _).wr 0 rfl |>.raise Ev.TB_EPOCH) o hp hs |>.trans ?_
  rw [State.reg_wr64_ne _ _ hlo hhi, State.reg_wr_ne _ _ hg, State.reg_wr_ne _ _ hg, State.reg_wr_ne _ _ hg]

theorem State.recordEpoch_rd {f : Fld} (hp : regPart f.off = .tbRegs) (ho : f.off ≠ 0x80044 ∧ f.off ≠ 0x80048 ∧ f.off ≠ 0x8004c)
    (he : F.TB_STATUS_ELECTING.clear f = true) : (s.recordEpoch e).rd f = s.rd f := by
  obtain ⟨hg, hlo, hhi⟩ := ho
  refine (State.rd_raise _ _ hp rfl).trans ((State.rd_wr_clear _ _ he).trans (congrArg f.of ?_))
  rw [State.reg_wr64_ne _ _ hlo hhi, State.reg_wr_ne _ _ hg, State.reg_wr_ne _ _ hg, State.reg_wr_ne _ _ hg]

theorem State.recordEpoch_group : (s.recordEpoch e).rd F.TB_GROUP_EPOCH = e.num % 2 ^ 16 ∧
    (s.recordEpoch e).rd F.TB_GROUP_MASTER_ID = e.master % 64 ∧ (s.recordEpoch e).members = e.map % 2 ^ 64 := by
  have hlast (t : State) : StatusOnly t ((t.wr F.TB_STATUS_ELECTING 0).raise Ev.TB_EPOCH) := ((StatusOnly.refl t).wr 0 rfl).raise _
  have hmap (t : State) {f : Fld} (hf : f.off = 0x80044) : (t.wr64 0x80048 e.map).rd f = t.rd f :=
    congrArg f.of (State.reg_wr64_ne _ _ (by omega) (by omega))
  refine ⟨?_, ?_, ?_⟩
  · rw [State.recordEpoch, (hlast _).rd rfl (by decide), hmap _ rfl, State.rd_wr_clear _ _ rfl, State.rd_wr_clear _ _ rfl,
      State.rd_wr_mod _ _ rfl]
    rfl
  · rw [State.recordEpoch, (hlast _).rd rfl (by decide), hmap _ rfl, State.rd_wr_mod _ _ rfl]
    rfl
  · exact ((hlast _).rd64 (by decide) (by decide)).trans (State.rd64_wr64 _ 0x80048 e.map)

theorem State.recordEpoch_electing : (s.recordEpoch e).rd F.TB_STATUS_ELECTING = 0 :=
  (State.rd_raise _ _ F.TB_STATUS_ELECTING_part rfl).trans (State.rd_wr_fit _ _ 0 (by decide) (by decide))

theorem State.recordEpoch_pends : Pends (s.recordEpoch e) Ev.TB_EPOCH := State.rd_raise_self _ _

theorem State.recordEpoch_core : (s.recordEpoch e).tb.core = s.tb.core := by
  refine (State.raise_core _ _).trans (congrArg Timebase.core ?_)
  rw [State.wr_tb]
  refine (State.withRegs_tb _ _).trans ((State.withRegs_tb _ _).trans ?_)
  rw [State.wr_tb, State.wr_tb, State.wr_tb]

theorem State.recordEpoch_now : (s.recordEpoch e).now = s.now :=
  State.rd64_eq (s.recordEpoch_kept e rfl (by decide) (by decide)) (s.recordEpoch_kept e rfl (by decide) (by decide))

theorem State.takePlace_kept : PlaceKept s (s.takePlace e named) := by
  unfold State.takePlace
  refine .ite (s.leadEpoch_placeKept e) (.ite (s.followEpoch_placeKept e) (.ite ?_ (.refl s)))
  exact (PlaceKept.ite ((s.setAligned_placeKept false).trans (State.ownClock_placeKept _)) (.refl s)).trans (State.setRole_placeKept _ 1)

end

end Sys2Proof.Machine

namespace Sys2Proof.Machine

/-! ### EPOCH_ACTIVATION (R171, R173, R179) -/

/-- The epochs still to take effect are these. -/
def State.scheduled (s : State) (later : List PendingEpoch) : State := s.setTb { s.tb with pendEpochs := later }

/-- The oldest epoch scheduled has taken effect; the place that it gives this device is still to be taken. -/
def State.activated (s : State) (e : PendingEpoch) (later : List PendingEpoch) : State :=
  ((s.scheduled later).enterEpoch e (bit e.map s.myId)).recordEpoch e

/-- The device takes its place in the oldest epoch scheduled once its time has come. -/
def State.activate (s : State) : State :=
  match s.tb.pendEpochs with
  | [] => s
  | e :: later => if s.now < e.act then s else (s.activated e later).takePlace e (bit e.map s.myId)

theorem exec_epochActivation (s : State) : exec .epochActivation s = act s State.activate := rfl

theorem runs_epochActivation {s : State} {e : PendingEpoch} {later : List PendingEpoch} (hl : s.live = true)
    (hp : s.tb.pendEpochs = e :: later) (ht : e.act ≤ s.now) :
    Runs .epochActivation s (Clocked ((s.activated e later).takePlace e (bit e.map s.myId))) := by
  refine .of_clocked ((exec_epochActivation s).trans (act_live hl _)) fun u hu => ?_
  rw [State.activate, hp] at hu
  dsimp only at hu
  rwa [if_neg (Nat.not_lt.2 ht)] at hu

section
variable (s : State) (e : PendingEpoch) (later : List PendingEpoch)

theorem State.activated_pend : (s.activated e later).tb.pendEpochs = later :=
  (Timebase.of_core (State.recordEpoch_core _ e) (·.pendEpochs) fun _ => rfl).trans (State.enterEpoch_pend _ e _)

theorem State.activated_inEpoch : (s.activated e later).tb.inEpoch = bit e.map s.myId :=
  (Timebase.of_core (State.recordEpoch_core _ e) (·.inEpoch) fun _ => rfl).trans (State.enterEpoch_inEpoch _ e _)

/-- The epoch leaves the fields that neither it nor a step of the time writes. -/
theorem State.activated_rd {f : Fld} (hp : regPart f.off = .tbRegs) (hf : f.off ≠ 0x80030 ∧ f.off ≠ 0x80034 ∧ f.off ≠ 0x80070)
    (ho : f.off ≠ 0x80044 ∧ f.off ≠ 0x80048 ∧ f.off ≠ 0x8004c) (ha : F.TB_STATUS_TIME_AHEAD.clear f = true)
    (he : F.TB_STATUS_ELECTING.clear f = true) : (s.activated e later).rd f = s.rd f :=
  (State.recordEpoch_rd _ e hp ho he).trans (State.enterEpoch_rd (s.scheduled later) e _ hf ha)

theorem State.activated_now : (s.activated e later).now = ((s.scheduled later).epochStep e (bit e.map s.myId)).now :=
  (State.recordEpoch_now _ e).trans (State.enterEpoch_now _ e _)

theorem State.activated_now_same (h : e.step = 0) : (s.activated e later).now = s.now := by
  rw [State.activated_now, State.epochStep_none _ e _ h]
  rfl

theorem State.activated_now_step (hb : bit e.map s.myId = true) (h : e.step ≠ 0) (ha : s.on F.TB_STATUS_TIME_AHEAD = false) :
    (s.activated e later).now = (s.now + e.step) % 2 ^ 64 := by
  rw [State.activated_now, hb]
  exact State.epochStep_now _ e h ha

theorem State.takePlace_joins (hg : s.on F.TB_CTRL_GROUP_EN = true) : (s.takePlace e false).role = 1 := by
  have hplace : s.takePlace e false = (if e.map = 0 then (s.setAligned false).ownClock else s).setRole 1 := if_pos hg
  rw [hplace]
  exact State.setRole_role _ (by decide)

theorem State.takePlace_leads (h : e.master = s.myId) : s.takePlace e true = s.leadEpoch e := if_pos (beq_iff_eq.2 h)

theorem State.takePlace_follows (h : e.master ≠ s.myId) : s.takePlace e true = s.followEpoch e := by
  refine (if_neg ?_).trans (if_pos rfl)
  exact fun hb => h (beq_iff_eq.1 hb)

end

/-! ### The timers of the timebase (O35) -/

/-- Settles O35: each timer sends its frame, or takes the election, the loss or the epoch that it waits for. -/
theorem timebaseTimers : Obligations.TimebaseTimers := by
  unfold Obligations.TimebaseTimers
  refine ⟨?helloTimer, ?helloTimerUnlinked, ?hopMeasureTimer, ?heartbeatTimer, ?heartbeatTimerMember, ?heartbeatTimerAlone, ?ackRetryTimer,
    ?ackRetryTimerGivesUp, ?electQuietExpiry, ?electQuietExpiryBegins, ?heartbeatLoss, ?memberLoss, ?epochActivation, ?joinRetryTimer⟩
  case helloTimer =>
    intro s p hl hk
    obtain ⟨u, hexec, hu⟩ := runs_helloTimer hl hk
    have hout : u.out = s.out ++ [Output.irc p (sealed (s.hdr (s.helloOf p) false 0) (s.helloOf p)) (s.helloOf p)] :=
      hu.out.trans (s.sendLink_out p (s.helloOf p))
    refine .of hexec ⟨⟨sealed (s.hdr (s.helloOf p) false 0) (s.helloOf p), ?_⟩, ?_, ((s.sendLink_sent p (s.helloOf p)).trans hu.sent).regs⟩
    · rw [hout]
      exact List.mem_append_right _ (.head _)
    · rw [hout, List.length_append]
      rfl
  case helloTimerUnlinked =>
    intro s p hl hk
    exact runs_helloTimer_unlinked hl hk
  case hopMeasureTimer =>
    intro s p t1 hl hk
    obtain ⟨u, hexec, hu⟩ := runs_hopMeasureTimer (t1 := t1) hl hk
    refine .of hexec ⟨hu.out.trans (State.sendLink_out _ p (.dlyReq t1)), ?_⟩
    rw [((State.sendLink_sent _ p (.dlyReq t1)).trans hu.sent).ircp]
    exact congrArg IrcPort.t1 (Tab.get_set_same _ _ _ _)
  case heartbeatTimer =>
    intro s hl hr
    obtain ⟨u, hexec, hu⟩ := runs_heartbeatTimer_master hl hr
    refine .of hexec ⟨fun q hq hg => ?_, ((s.flood_sent _).trans hu.sent).regs⟩
    rw [hu.out]
    exact s.flood_reaches hq hg _
  case heartbeatTimerMember =>
    intro s hl hr
    obtain ⟨u, hexec, hu⟩ := runs_heartbeatTimer_member hl hr
    have hsent := s.sendTo_sent (s.rd F.TB_STATUS_UPSTREAM) (s.rd F.TB_GROUP_MASTER_ID) s.statusFrame
    have hmem : ∃ g, Output.irc (s.rd F.TB_STATUS_UPSTREAM) g s.statusFrame ∈
        (s.sendTo (s.rd F.TB_STATUS_UPSTREAM) (s.rd F.TB_GROUP_MASTER_ID) s.statusFrame).out := State.sendTo_mem List.prefix_rfl
    generalize s.sendTo (s.rd F.TB_STATUS_UPSTREAM) (s.rd F.TB_GROUP_MASTER_ID) s.statusFrame = t at hu hsent hmem
    refine .of hexec ⟨?_, ?_, ?_⟩
    · rw [hu.out]
      exact hmem
    · rw [hu.tb]
      rfl
    · exact hu.sent.regs.trans hsent.regs
  case heartbeatTimerAlone =>
    intro s hl h2 h3
    exact runs_heartbeatTimer_alone hl h2 h3
  case ackRetryTimer =>
    intro s i p h m c hl hu hc
    obtain ⟨u, hexec, hclk⟩ := runs_ackRetryTimer hl hu hc
    have hsent := s.resend_sent p h m
    have hkept := s.resend_unacked p h m
    have hone (hp : p ≠ 4) : (s.resend p h m).out = s.out ++ [Output.irc p (sealed h m) m] := by
      rw [State.resend, if_neg hp]
      rfl
    have hall (hp : p = 4) (q : Nat) (hq : q < 4) (hg : s.rd (F.IRC_STATUS_STATE q) = 3) : Output.irc q (sealed h m) m ∈ (s.resend p h m).out := by
      rw [State.resend, if_pos hp]
      exact s.sendGroup_reaches hq hg h m
    generalize s.resend p h m = t at *
    have hlt : i < t.tb.unacked.length := by
      rw [hkept]
      exact (List.getElem?_eq_some_iff.1 hu).1
    refine .of hexec ⟨?_, fun hp => hclk.out.trans (hone hp), fun hp q hq hg => ?_, hclk.sent.regs.trans hsent.regs⟩
    · rw [hclk.tb]
      exact List.getElem?_set_self hlt
    · rw [hclk.out]
      exact hall hp q hq hg
  case ackRetryTimerGivesUp =>
    intro s i p h m c hl hu hc
    obtain ⟨u, hexec, hclk⟩ := runs_ackRetryTimer_gives_up hl hu hc
    refine .of hexec ⟨fun hr hm => ?_, fun hr hm => ?_, fun hr hm hd => ?_, fun h1 h3 => ?_⟩
    · rw [State.partnerLost_elects (s := s.dropFrame i) hr hm] at hclk
      exact (hclk.on _).trans (State.enterElection_electing _)
    · rw [State.partnerLost_alone (s := s.dropFrame i) hr hm] at hclk
      rw [hclk.tb, State.issueEpoch_pend, List.getLast?_concat]
      exact ⟨_, rfl, rfl⟩
    · rw [State.partnerLost_drops (s := s.dropFrame i) hr hm hd] at hclk
      rw [hclk.tb, State.dropMember, State.issueEpoch_pend, List.getLast?_concat]
      exact ⟨_, rfl, rfl⟩
    · rw [State.partnerLost_ignores (s := s.dropFrame i) h1 h3] at hclk
      exact ⟨congrArg Timebase.unacked hclk.tb, hclk.sent.regs⟩
  case electQuietExpiry =>
    intro s hl hg hr he hk hp hn
    obtain ⟨u, hexec, hu⟩ := runs_electQuietExpiry_wins hl hg hr he hk hp hn
    obtain ⟨hepoch, hrole⟩ := s.becomeMaster_epoch hn
    refine .of hexec ⟨?_, (hu.rd _).trans (hrole.trans hr)⟩
    rw [hu.tb]
    exact hepoch
  case electQuietExpiryBegins =>
    intro s hl hg hr he hlink hnone
    obtain ⟨u, hexec, hu⟩ := runs_electQuietExpiry_begins hl hg hr he hlink hnone
    refine .of hexec ⟨(hu.on _).trans s.enterElection_electing, (hu.rd _).trans s.enterElection_role, ?_⟩
    rw [hu.tb]
    exact Timebase.of_core s.enterElection_core (·.bestKey) fun _ => rfl
  case heartbeatLoss =>
    intro s hl hr ht
    obtain ⟨u, hexec, hu⟩ := runs_heartbeatLoss hl hr ht
    refine .of hexec ⟨(hu.on _).trans s.enterElection_electing, (hu.rd _).trans s.enterElection_role, ?_,
      hu.pends (s.enterElection_pends (by omega))⟩
    rw [hu.tb]
    exact Timebase.of_core s.enterElection_core (·.inEpoch) fun _ => rfl
  case memberLoss =>
    intro s m hl hr hm hb ht
    obtain ⟨u, hexec, hu⟩ := runs_memberLoss hl hr hm hb ht
    rw [State.dropMember] at hu
    refine .of hexec ⟨?_, hu.sent.regs.trans (s.issueEpoch_regs _ _ _)⟩
    rw [hu.tb, State.issueEpoch_pend, List.getLast?_concat]
    exact ⟨_, rfl, rfl, rfl⟩
  case epochActivation =>
    intro s e later hl hp ht
    obtain ⟨u, hexec, hu⟩ := runs_epochActivation hl hp ht
    obtain ⟨hepoch, hmaster, hmembers⟩ := State.recordEpoch_group ((s.scheduled later).enterEpoch e (bit e.map s.myId)) e
    have hplace := State.takePlace_kept (s.activated e later) e (bit e.map s.myId)
    have hid : (s.activated e later).myId = s.myId := s.activated_rd e later rfl (by decide) (by decide) rfl rfl
    have hkept := hplace.status.sent hu.sent
    have hsame := s.activated_now_same e later
    have hstep := s.activated_now_step e later
    refine .of hexec ⟨?_, (hkept.rd rfl (by decide)).trans hepoch, (hkept.rd rfl (by decide)).trans hmaster,
      (hkept.rd64 (by decide) (by decide)).trans hmembers, ?_, ?_, ?_, fun hb hm => ?_, fun hb hm => ?_, fun hb hg => ?_, fun h => ?_,
      fun hb h ha => ?_⟩
    · rw [hu.tb, hplace.pend]
      exact s.activated_pend e later
    · rw [hu.tb, hplace.inEpoch]
      exact s.activated_inEpoch e later
    · rw [hu.rd, hplace.electing]
      exact State.recordEpoch_electing _ e
    · exact hu.pends (hplace.rises _ (State.recordEpoch_pends _ e))
    · rw [hb, State.takePlace_leads _ e (hm.trans hid.symm)] at hu
      obtain ⟨hrole, haligned, hpll⟩ := (s.activated e later).leadEpoch_leads e
      exact ⟨(hu.rd _).trans hrole, (hu.on _).trans haligned, (congrArg Timebase.pllRef hu.tb).trans hpll⟩
    · rw [hb, State.takePlace_follows _ e (hid.symm ▸ hm)] at hu
      obtain ⟨haligned, hrole⟩ := (s.activated e later).followEpoch_role e
      have hwas : (s.activated e later).on F.TB_STATUS_ALIGNED = s.on F.TB_STATUS_ALIGNED :=
        congrArg (· != 0) (s.activated_rd e later rfl (by decide) (by decide) rfl rfl)
      refine ⟨(hu.on _).trans (haligned.trans hwas), ?_⟩
      rw [hu.on, hu.on]
      exact (hu.rd _).trans hrole
    · rw [hb] at hu
      have hgroup : (s.activated e later).on F.TB_CTRL_GROUP_EN = s.on F.TB_CTRL_GROUP_EN :=
        congrArg (· != 0) (s.activated_rd e later rfl (by decide) (by decide) rfl rfl)
      exact (hu.rd _).trans (State.takePlace_joins _ e (hgroup.trans hg))
    · exact hkept.now.trans (hsame h)
    · exact hkept.now.trans (hstep hb h ha)
  case joinRetryTimer =>
    intro s q hl hq hr ha ho hc hg
    subst hq
    obtain ⟨u, hexec, hu⟩ := runs_joinRetryTimer hl
    refine .of hexec ⟨?_, hu.sent.regs.trans s.askJoin_sent.regs⟩
    rw [hu.out]
    exact State.askJoin_asks hr ha ho hc hg

end Sys2Proof.Machine
